-- ==== Sys2Proof/Word.lean ====
section
/-!
DEFINITION. Word.lean: the bit-vector types of the gateway. Registers are 64 bits wide (spec/00_scope.md, "Registers and
fields"); memory and wire formats are bytes (R6, R7).
-/
namespace Sys2Proof

/-- A control or status register: 64 bits (spec/00_scope.md, "Registers and fields"). -/
abbrev Word := BitVec 64

/-- One byte of memory or of a wire format. -/
abbrev Byte := BitVec 8

/-- A run of bytes, byte 0 first (R7). -/
abbrev Bytes := List Byte

end Sys2Proof
end

