-- ==== Sys2Proof/Syntax.lean ====
section
/-!
DEFINITION. Syntax.lean: the commands of the gateway, one constructor for each row of spec/opcode_table.json, in the
table's order. An operand is what the row's event carries: a register write's master, address and value; a descriptor;
a message's bytes; or what the environment (a lane, a sensor, a supply, a timer's object) presents. The table gives no
row any bits, so no command is decoded from a word.
-/
namespace Sys2Proof

/-- Who issues a register access: the host over Mykabel, or one of the two cores (R397, R410). -/
inductive Master where
  | host | mgmt | sec
  deriving DecidableEq, Repr

/-- A Mykabel message header with its payload (Table HOST-1). -/
structure MykMsg where
  type : Nat
  status : Nat := 0
  tag : Nat := 0
  len : Nat := 0
  addr : Nat := 0
  payload : Bytes := []
  deriving DecidableEq, Repr

/-- A descriptor in an engine's hands: its queue, its submission index (0xFFFF for a chained one) and its 128 bytes
(Table QUE-2 and the operation body of its block). -/
structure Work where
  queue : Nat
  index : Nat
  desc : Bytes
  deriving DecidableEq, Repr

/-- What the bed's checks find of a group after a checksum mismatch (R112, Table BED-5): the re-run differs in one column or
in several, or it is identical and the targeted swatch fails (naming a column or none) or passes. -/
inductive BedFaultKind where
  | column (c : Fin 64)
  | columns
  | swatch (c : Option (Fin 64))
  | inconclusive
  deriving DecidableEq, Repr

/-- A checksum mismatch in a column group during a descriptor. -/
structure BedFault where
  group : Fin 8
  kind : BedFaultKind
  deriving DecidableEq, Repr

/-- What a failing swatch tile names (R111, R113): groups with the column where one is localised, and the selvedge. -/
structure BedSwatchFail where
  groups : List (Fin 8 × Option (Fin 64))
  selvedge : Bool
  deriving DecidableEq, Repr


/-- What a stitch unit's checks name of a fault (R130, R131, Table STCH-4): the unit and lane where localised, the input
format of the failing term or vector, the alignment shift and whether the operand signs differed. -/
structure StchFault where
  unit : Option (Fin 8)
  lane : Option (Fin 32)
  fmtIn : BitVec 4
  shift : BitVec 8
  signs : Bool
  deriving DecidableEq, Repr


/-- What a faulty decoder meets that the coded bytes do not hold (R161): a block, and the row of Table PURL-6 by its reason,
0x0D04 plus the row. -/
structure DecodeUpset where
  block : Fin 256
  row : Fin 8
  deriving DecidableEq, Repr


/-- What a line receiver holds at an expected frame start (R173, R177, R180): the 256 overhead bytes and the 65,280 slot
bytes after the lane code, with the codewords carrying them that were uncorrectable and the symbols corrected. -/
structure RxFrame where
  overhead : Bytes
  slots : Bytes
  uncorrectable : Nat
  corrected : Nat
  deriving DecidableEq, Repr

/-- A change of alignment-word lock on a lane (R175): lost, or gained with the width code (8, 4, 2, or 0 on a probe lane),
the position named, and the lane's delay behind the earliest in lane bytes. -/
inductive LawEvent where
  | lost
  | gained (width : Nat) (position : Fin 8) (skew : Nat)
  deriving DecidableEq, Repr



/-- A packet that a fabric link delivers (R272, R282, R287): the link and the packet's bytes, whether the peer sent it beyond
its credits, and whether the management ring is full. -/
structure RxPacket where
  link : Fin 32
  bytes : Bytes
  overrun : Bool
  ringFull : Bool
  deriving DecidableEq, Repr

/-- A fabric flow's name (R283). -/
structure FabFlow where
  src : BitVec 24
  dst : BitVec 24
  cls : Fin 5
  ch : Fin 4
  deriving DecidableEq, Repr

/-- What a flow sends (R282): its first packet that waits; or a packet that firmware hands to the fabric side first, a
management message or a read request of a length into reply space (Table FAB-2). -/
inductive FabOffer where
  | none
  | mgmt (tenant : Byte) (payload : Bytes)
  | readReq (tenant : Byte) (remote reply : BitVec 64) (len : Nat)
  deriving DecidableEq, Repr

/-- One word in which a scrub read found an error (R318, R320, R327, R328): its address, whether the error is
uncorrectable, and the row that holds it: its number and address range, and whether its bank has no spare row left. -/
structure EccFinding where
  addr : Nat
  uncorrectable : Bool
  row : Nat
  rowLo : Nat
  rowLen : Nat
  noSpare : Bool
  deriving DecidableEq, Repr


/-- Who asks the skein pool manager: a descriptor, or an engine under its fixed class (R337, R338). -/
inductive SkeinReq where
  | queue (w : Work)
  | engine (cls : Fin 64)
  deriving DecidableEq, Repr


/-- A signed object (R265, Table CIPH-11): its body, its 112-byte signature block and its signature. -/
structure SignedObj where
  body : Bytes
  block : Bytes
  sig : Bytes
  deriving DecidableEq, Repr

/-- The two banks that the persistence store holds of an object (text before R418), each empty or with an object. -/
structure Banks where
  bank0 : Option SignedObj := none
  bank1 : Option SignedObj := none
  deriving DecidableEq, Repr

/-- What the boot ROM loads from the fuses (Table CAST-1, Table HOST-7): the hardware revision and the serial number. -/
structure Fuses where
  hwRev : BitVec 32
  serial : BitVec 128
  deriving DecidableEq, Repr

/-- What security firmware reads in the SECURE phase (R419): the banks of module firmware, manifest and bundle; the owner
anchor, as its one-time bank and hash, where an owner is enrolled (R265); and the die's repair map. -/
structure SecureInput where
  mgmtFw : Banks
  manifests : Banks
  bundles : Banks
  owner : Option (Fin 4 × Bytes)
  map : Bytes
  deriving DecidableEq, Repr

/-- What LPDDR5X training meets (R425): whether the saved record is invalid or names other devices, the largest device
temperature change in °C, the power-on hours since the last passing full test, the channels that fail the check of their saved
settings, and a channel that fails training. -/
structure TrainInput where
  recordBad : Bool
  moved : Nat
  hours : Nat
  failedCheck : List (Fin 128)
  failed : Option (Fin 128)
  deriving DecidableEq, Repr

/-- What the LPDDR5X test meets (R427): whether rows were repaired and retested, the addresses of rows that stay in service
with one bad symbol, and the address of a row beyond repair or of a repair that fails. -/
structure TestInput where
  repaired : Bool
  single : List Nat
  beyond : Option Nat
  repairFails : Option Nat
  deriving DecidableEq, Repr

/-- A unit of a cluster of a block, as an engine table reaches it (R428). -/
structure TableUnit where
  block : Fin 18
  cluster : BitVec 16
  unit : BitVec 16
  deriving DecidableEq, Repr

/-- An input trigger of bind-off (Table PWR-1). -/
inductive InputCause where
  | low | lost | over
  deriving DecidableEq, Repr

/-- How a bind-off runs (R440 to R442, Table PWR-7): whether its commit record is written in time, the milliseconds to STOPPED,
the capacitor's voltage there in mV and the MiB written. -/
structure BindOff where
  commits : Bool
  ms : BitVec 16
  vcap : BitVec 16
  mib : BitVec 16
  deriving DecidableEq, Repr

/-- A panel's measured rail and handshake rate (R444). -/
structure PanelReading where
  rail : BitVec 10
  rate : BitVec 16
  deriving DecidableEq, Repr

/-- Instructions of the JTAG port (R490): IDCODE, BYPASS, EXTEST, those of IEEE 1149.6, and others. -/
inductive JtagIr where
  | idcode | bypass | extest | acTest | other
  deriving DecidableEq, Repr


/-- A unit that finds an internal error (R21), by its kind (Table ARCH-2): a framer or its time-slot interchange, a port or
tenant scheduler, a queue engine, a skein pool manager (with a bad ring entry or not), an LPDDR5X channel controller, a
fabric port engine or arbiter, an endpoint-table or routing engine, a lock-loop or laser-bank controller, an erasure coder, a
transport engine, the key and hash engines, a cipher pipeline, a timestamp unit, the two copies of the time counter, a
sampling unit, the interrupt controller, the bed's sequencer, a column, a stitch unit or a codec unit. -/
inductive UnitName where
  | framer (port : Fin 16) (interchange : Bool)
  | portScheduler (port : Fin 16)
  | tenantScheduler (n : Fin 256)
  | queueEngine (n : Fin 256)
  | skeinManager (pool : Fin 5) (badRing : Bool)
  | channel (n : Fin 128)
  | fabricPort (n : Fin 192)
  | fabricTable (n : Fin 8)
  | lockLoop (link : Fin 32)
  | laserBank
  | coder (n : Fin 16)
  | transport (n : Fin 32)
  | kem
  | slh (n : Fin 2)
  | hash
  | pipeline (n : Fin 64)
  | timestamp (n : Fin 48)
  | counterCopies
  | sampler (n : Fin 64)
  | interrupts
  | sequencer
  | column (group : Fin 8) (c : Fin 64)
  | stitch (cluster : Fin 48) (unit : Fin 8)
  | codec (cluster : Fin 32) (unit : Fin 16)
  deriving DecidableEq, Repr

/-- What the second run of a descriptor meets (R43): nothing, or a fault that its block's checks find again. -/
inductive RerunFault where
  | none
  | bed (f : List BedFault)
  | stitch (f : StchFault)
  | encoder (cluster : Fin 32) (engine : Fin 8)
  | pipeline (u : Fin 32)
  deriving DecidableEq, Repr

/-- The commands: one constructor for each row of spec/opcode_table.json. -/
inductive Instr where
  /-- CSR_RD (R394). -/
  | csrRd (m : Master) (msg : MykMsg)
  /-- CSR_WR (R11). -/
  | csrWr (m : Master) (msg : MykMsg)
  /-- BLOCK_ENABLE_WRITE (R398). -/
  | blockEnableWrite (m : Master) (tag : BitVec 10) (b : Fin 18) (v : Word)
  /-- CONFIG_CHECK_END (R398). -/
  | configCheckEnd (b : Fin 18) (fails : Bool)
  /-- BLOCK_DISABLE_WRITE (R400). -/
  | blockDisableWrite (m : Master) (tag : BitVec 10) (b : Fin 18) (v : Word)
  /-- BLOCK_DRAIN_END (R400). -/
  | blockDrainEnd (b : Fin 18)
  /-- UNIT_INTERNAL_ERROR (R21). -/
  | unitInternalError (u : UnitName)
  /-- POISONED_OUTPUT_RERUN (R43). -/
  | poisonedOutputRerun (w : Work) (f : RerunFault)
  /-- STEP_OPEN (R33). -/
  | stepOpen (w : Work)
  /-- STEP_OPEN_RELEASE (R42). -/
  | stepOpenRelease (j : Fin 128)
  /-- STEP_MEMBERSHIP (R498). -/
  | stepMembership (w : Work)
  /-- STEP_FROG (R62). -/
  | stepFrog (w : Work)
  /-- STEP_ABORT (R498). -/
  | stepAbort (w : Work)
  /-- STEP_RESUME (R61). -/
  | stepResume (w : Work)
  /-- STEP_RESEND (R498). -/
  | stepResend (w : Work)
  /-- INGEST_END (R38). -/
  | ingestEnd (j : Fin 128)
  /-- STAGE_COMPLETE (R40). -/
  | stageComplete (j : Fin 128)
  /-- CLEAN_WAIT_EXPIRY (R41). -/
  | cleanWaitExpiry (j : Fin 128)
  /-- STEP_STALLED (R54). -/
  | stepStalled (j : Fin 128)
  /-- STEP_CLOSE (R57). -/
  | stepClose (j : Fin 128)
  /-- PARTITION_DETECT (R56). -/
  | partitionDetect (j : Fin 128) (site : Fin 16)
  /-- REJOIN_STABLE_EXPIRY (R227). -/
  | rejoinStableExpiry (site : Fin 16)
  /-- REJOIN_RECEIVED (R227). -/
  | rejoinReceived (j : Fin 128) (site : Fin 16)
  /-- RESYNC_FETCH_END (R64). -/
  | resyncFetchEnd (j : Fin 128)
  /-- PROJECT (R98). -/
  | project (w : Work) (faults : List BedFault)
  /-- PROJECT_T (R107). -/
  | projectT (w : Work) (faults : List BedFault)
  /-- BACKPROJECT (R99). -/
  | backproject (w : Work) (faults : List BedFault)
  /-- ORTHO (R100). -/
  | ortho (w : Work) (faults : List BedFault)
  /-- MOMENTUM (R102). -/
  | momentum (w : Work)
  /-- NESTEROV (R102). -/
  | nesterov (w : Work)
  /-- SCALE (R103). -/
  | scale (w : Work)
  /-- RESIDUAL (R99). -/
  | residual (w : Work)
  /-- GENERATE (R106). -/
  | generate (w : Work)
  /-- BED_SWATCH (R111). -/
  | bedSwatch (w : Work) (fail : BedSwatchFail)
  /-- BED_INTERLEAVED_SWATCH (R111). -/
  | bedInterleavedSwatch (fail : BedSwatchFail)
  /-- BED_SUBST (R115). -/
  | bedSubst (m : Master) (tag : BitVec 10) (v : Word)
  /-- BED_STALL_RESUME (R117). -/
  | bedStallResume (feed : Bool) (handshakes : Nat)
  /-- ACCUMULATE (R123). -/
  | accumulate (w : Work) (fault : Option StchFault)
  /-- STCH_HELD_TERM_RELEASE (R122). -/
  | stchHeldTermRelease (slot : Fin 16384) (fault : Option StchFault)
  /-- STCH_POISON (R135). -/
  | stchPoison (w : Work)
  /-- STCH_SWATCH (R131). -/
  | stchSwatch (w : Work) (fail : Option StchFault)
  /-- STCH_CLUSTER_SWATCH (R131). -/
  | stchClusterSwatch (c : Fin 48) (fail : Option StchFault)
  /-- STCH_SUBST_GO (R133). -/
  | stchSubstGo (m : Master) (tag : BitVec 10) (v : Word)
  /-- STCH_REQUAL (R134). -/
  | stchRequal (m : Master) (tag : BitVec 10) (v : Word)
  /-- POISON_RECEIVED (R137). -/
  | poisonReceived (j : Fin 128) (site : Fin 16)
  /-- ENCODE (R143). -/
  | encode (w : Work) (fault : Option (Fin 32 × Fin 8))
  /-- DECODE (R152). -/
  | decode (w : Work) (cluster : Fin 32) (upset : Option DecodeUpset)
  /-- PURL_SWATCH (R165). -/
  | purlSwatch (w : Work) (fails : Bool)
  /-- SECOND_DECODE (R161). -/
  | secondDecode (cluster : Fin 32) (upset : Option DecodeUpset)
  /-- RAW_RESEND_RECEIVED (R163). -/
  | rawResendReceived (j : Fin 128) (site : Fin 16) (first : Option (Fin 32))
  /-- RAW_REFUSE_RECEIVED (R164). -/
  | rawRefuseReceived (j : Fin 128) (site : Fin 16)
  /-- PURL_SUBST_GO (R165). -/
  | purlSubstGo (m : Master) (tag : BitVec 10) (v : Word)
  /-- PURL_REQUAL (R165). -/
  | purlRequal (m : Master) (tag : BitVec 10) (v : Word)
  /-- PURL_STALL_RESUME (R159). -/
  | purlStallResume (input : Bool) (handshakes : Nat)
  /-- CODEWORD_LOCK_GAINED (R172). -/
  | codewordLockGained (p : Fin 16) (lane : Fin 8)
  /-- CODEWORD_LOCK_LOST (R172). -/
  | codewordLockLost (p : Fin 16) (lane : Fin 8)
  /-- LINE_SIGNAL_LOSS (R172). -/
  | lineSignalLoss (p : Fin 16) (lane : Fin 8)
  /-- ALIGNMENT_WORD_LOCK (R175). -/
  | alignmentWordLock (p : Fin 16) (lane : Fin 8) (e : LawEvent)
  /-- RX_FRAME_START (R177). -/
  | rxFrameStart (p : Fin 16) (f : Option RxFrame)
  /-- PERF_SECOND_END (R182). -/
  | perfSecondEnd (p : Fin 16)
  /-- TX_FRAME_START (R185). -/
  | txFrameStart (p : Fin 16)
  /-- SWAP_ARM (R188). -/
  | swapArm (m : Master) (tag : BitVec 10) (p : Fin 16) (v : Word)
  /-- SWAP_CANCEL (R188). -/
  | swapCancel (m : Master) (tag : BitVec 10) (p : Fin 16) (v : Word)
  /-- AUTO_NARROW (R192). -/
  | autoNarrow (p : Fin 16)
  /-- AUTO_WIDEN (R193). -/
  | autoWiden (p : Fin 16)
  /-- TRAIN_TIMEOUT (R195). -/
  | trainTimeout (p : Fin 16)
  /-- CHUNK_MESSAGE_FORM (R199). -/
  | chunkMessageForm (j : Fin 128) (peer : Fin 16)
  /-- SHARD_RECEIVED (R210). -/
  | shardReceived (p : Fin 16) (y : Fin 80)
  /-- SHARD_WINDOW_EXPIRY (R211). -/
  | shardWindowExpiry (j : Fin 128) (peer : Fin 16) (cw : BitVec 32)
  /-- PORT_REUSE_EXPIRY (R209). -/
  | portReuseExpiry (peer port : Fin 16)
  /-- PORT_STATE_PERIODIC (R209). -/
  | portStatePeriodic
  /-- PORT_STATE_RECEIVED (R207). -/
  | portStateReceived (site : Fin 16)
  /-- ACK_INTERVAL (R217). -/
  | ackInterval
  /-- ACK_RECEIVED (R214). -/
  | ackReceived (j : Fin 129) (site : Fin 16)
  /-- NACK_REPEAT_EXPIRY (R214). -/
  | nackRepeatExpiry (j : Fin 128) (peer : Fin 16) (cw : BitVec 32)
  /-- CONTROL_REPEAT_EXPIRY (R216). -/
  | controlRepeatExpiry (j : Fin 129) (peer : Fin 16) (seq : BitVec 32)
  /-- CLEAN_RECEIVED (R41). -/
  | cleanReceived (j : Fin 128) (site : Fin 16)
  /-- CHUNK_RESEND_RECEIVED (R220). -/
  | chunkResendReceived (j : Fin 128) (site : Fin 16)
  /-- KEEPALIVE_SEND (R224). -/
  | keepaliveSend
  /-- KEEPALIVE_RECEIVED (R225). -/
  | keepaliveReceived (site : Fin 16)
  /-- REBUILD_RECEIVED (R228). -/
  | rebuildReceived (j : Fin 128) (site : Fin 16)
  /-- REBUILD_NOT_HELD_RECEIVED (R466). -/
  | rebuildNotHeldReceived (j : Fin 128) (site : Fin 16)
  /-- FLOW_RESET_RECEIVED (R229). -/
  | flowResetReceived (j : Fin 129) (site : Fin 16)
  /-- JOB_ENABLE_WRITE (R232). -/
  | jobEnableWrite (m : Master) (tag : BitVec 10) (j : Fin 128) (v : Word)
  /-- JOB_PARAM_WRITE (R234). -/
  | jobParamWrite (m : Master) (tag : BitVec 10) (j : Fin 128) (second : Bool) (v : Word)
  /-- KEEPALIVE_MS_WRITE (R234). -/
  | keepaliveMsWrite (m : Master) (tag : BitVec 10) (v : Word)
  /-- SEAL (R251). -/
  | seal (w : Work) (fault : Option (Fin 32))
  /-- SEAL_CONTROL (R252). -/
  | sealControl (w : Work) (fault : Option (Fin 32))
  /-- OPEN (R254). -/
  | cipherOpen (w : Work) (fault : Option (Fin 32))
  /-- SAVE (R247). -/
  | save (w : Work)
  /-- RESTORE_CONTEXT (R249). -/
  | restoreContext (w : Work)
  /-- INVALIDATE (R247). -/
  | invalidate (w : Work)
  /-- QUOTE (R267). -/
  | quote (w : Work)
  /-- LEDGER_WRITE_DURABLE (R242). -/
  | ledgerWriteDurable (ctx : Fin 65536) (slot : Fin 2)
  /-- LEDGER_RETRY (R242). -/
  | ledgerRetry (ctx : Fin 65536) (slot : Fin 2) (noSpare : Bool)
  /-- KEYMAIL_OFFER (R260). -/
  | keymailOffer (env : Bytes)
  /-- KEYMAIL_ACCEPT (R260). -/
  | keymailAccept (env : Bytes)
  /-- KEYMAIL_CONFIRM (R260). -/
  | keymailConfirm (env : Bytes)
  /-- KEYMAIL_RETIRE (R261). -/
  | keymailRetire (env : Bytes)
  /-- KEYMAIL_ABORT (R258). -/
  | keymailAbort (env : Bytes)
  /-- KEYMAIL_CERT (R257). -/
  | keymailCert (env : Bytes)
  /-- REKEY_INTERVAL (R260). -/
  | rekeyInterval (e : Fin 129) (peer : Fin 16)
  /-- REKEY_TIMEOUT (R260). -/
  | rekeyTimeout (e : Fin 129) (peer : Fin 16)
  /-- REKEY_RETRY (R260). -/
  | rekeyRetry (e : Fin 129) (peer : Fin 16)
  /-- CONFIRM_RESEND (R260). -/
  | confirmResend (e : Fin 129) (peer : Fin 16)
  /-- OLD_SLOT_RETIRE (R261). -/
  | oldSlotRetire (e : Fin 129) (peer : Fin 16)
  /-- CIPH_EXTEND (R266). -/
  | ciphExtend (m : Master) (tag : BitVec 10) (v : Word)
  /-- FAB_WRITE (R276). -/
  | fabWrite (p : RxPacket)
  /-- FAB_READ_REQ (R276). -/
  | fabReadReq (p : RxPacket)
  /-- FAB_READ_RESP (R285). -/
  | fabReadResp (p : RxPacket)
  /-- FAB_ACK (R284). -/
  | fabAck (p : RxPacket)
  /-- FAB_NACK (R284). -/
  | fabNack (p : RxPacket)
  /-- FAB_MGMT (R287). -/
  | fabMgmt (p : RxPacket)
  /-- FAB_PACKET_SEND (R282). -/
  | fabPacketSend (f : FabFlow) (offer : FabOffer)
  /-- FAB_RETX_TIMEOUT (R284). -/
  | fabRetxTimeout (f : FabFlow) (seq : BitVec 32)
  /-- FAB_NO_ROUTE_TIMEOUT (R278). -/
  | fabNoRouteTimeout (f : FabFlow)
  /-- CREDIT (R282). -/
  | credit (link : Fin 32) (vc : Fin 16) (n : Fin 4096)
  /-- EPT_WRITE (R277). -/
  | eptWrite (w : Work)
  /-- RT_WRITE (R279). -/
  | rtWrite (w : Work)
  /-- CIRCUIT_OPEN (R289). -/
  | circuitOpen (w : Work)
  /-- CIRCUIT_CLOSE (R289). -/
  | circuitClose (w : Work)
  /-- INGEST_WRITE (R279). -/
  | ingestWrite (w : Work)
  /-- EPOCH_ARM (R280). -/
  | epochArm (m : Master) (tag : BitVec 10) (v : Word)
  /-- EPOCH_DRAIN_END (R280). -/
  | epochDrainEnd
  /-- EPOCH_DRAIN_TIMEOUT (R280). -/
  | epochDrainTimeout
  /-- LINK_TRAINING_END (R300). -/
  | linkTrainingEnd (link : Fin 32) (tx rx : BitVec 9)
  /-- RING_LOCK_UPDATE (R301). -/
  | ringLockUpdate (bank : Fin 64) (integ : List Int) (far : BitVec 9)
  /-- RING_RELOCKED (R302). -/
  | ringRelocked (bank : Fin 64) (ring : Fin 9)
  /-- SENSOR_SAMPLE (R305). -/
  | sensorSample (temps : List (BitVec 16)) (rate : Nat)
  /-- BANK_RELOAD (R304). -/
  | bankReload (m : Master) (tag : BitVec 10) (v : Word)
  /-- CAL_STEP (R306). -/
  | calStep (link : Fin 32) (dir : Fin 2)
  /-- MIRROR_SWITCH (R306). -/
  | mirrorSwitch (link : Fin 32) (dir : Fin 2) (lane : Fin 9) (back : Bool)
  /-- CAL_SWEEP_END (R306). -/
  | calSweepEnd (link : Fin 32) (dir : Fin 2) (kept : Option Nat)
  /-- LANE_MAP_RECEIVED (R308). -/
  | laneMapReceived (link : Fin 32) (field : BitVec 16)
  /-- STEER_ARM (R310). -/
  | steerArm (m : Master) (tag : BitVec 10) (v : Word)
  /-- RESTEER_GAP_START (R310). -/
  | resteerGapStart
  /-- RESTEER_COMPLETE (R311). -/
  | resteerComplete (locked : BitVec 32) (far : List (Fin 32 × BitVec 24))
  /-- RESTEER_LOCK_TIMEOUT (R311). -/
  | resteerLockTimeout (link : Fin 32)
  /-- LASER_POWER_CHECK (R313). -/
  | laserPowerCheck (source : Fin 10) (db : BitVec 16) (light : Bool)
  /-- HANDOVER_GO (R313). -/
  | handoverGo (m : Master) (tag : BitVec 10) (v : Word)
  /-- SPARE_WARMED (R313). -/
  | spareWarmed
  /-- SPARE_LOCKED (R313). -/
  | spareLocked
  /-- HANDOVER_GAP_START (R313). -/
  | handoverGapStart
  /-- HANDOVER_SWITCHED (R313). -/
  | handoverSwitched
  /-- HANDOVER_TIME_LIMIT (R313). -/
  | handoverTimeLimit
  /-- SRAM_SCRUB (R319). -/
  | sramScrub (found : List EccFinding)
  /-- LPDDR_SCRUB (R326). -/
  | lpddrScrub (found : List EccFinding)
  /-- DEVICE_TEMP_CHANGE (R325). -/
  | deviceTempChange (d : Fin 16) (temp : BitVec 16)
  /-- ALLOC (R336). -/
  | alloc (w : Work) (len : Nat)
  /-- SHARE (R338). -/
  | share (q : SkeinReq) (h : BitVec 32) (add : Fin 64)
  /-- FREE (R338). -/
  | free (q : SkeinReq) (h : BitVec 32)
  /-- SKEIN_ENGINE_REQUEST (R336). -/
  | skeinEngineRequest (cls : Fin 64) (len : Nat)
  /-- SKEIN_WAIT_GRANT (R337). -/
  | skeinWaitGrant
  /-- SQ_TAIL (R353). -/
  | sqTail (msg : MykMsg)
  /-- CQ_DOOR (R354). -/
  | cqDoor (msg : MykMsg)
  /-- QUEUE_ENABLE_WRITE (R349). -/
  | queueEnableWrite (m : Master) (tag : BitVec 10) (q : Fin 8192) (v : Word)
  /-- QUEUE_DRAIN_END (R349). -/
  | queueDrainEnd (q : Fin 8192)
  /-- DESCRIPTOR_FETCH (R352). -/
  | descriptorFetch (q : Fin 8192) (fails : Bool)
  /-- DESCRIPTOR_DISPATCH (R351). -/
  | descriptorDispatch (q : Fin 8192)
  /-- COMPLETION_RECORD (R356). -/
  | completionRecord (q : Fin 8192)
  /-- PUT (R359). -/
  | put (w : Work)
  /-- PUT_ALL (R359). -/
  | putAll (w : Work)
  /-- SCHED_SERVE (R362). -/
  | schedServe (p : Fin 16)
  /-- SHAPER_REFILL (R364). -/
  | shaperRefill
  /-- GATE_ARM (R367). -/
  | gateArm (m : Master) (tag : BitVec 10) (p : Fin 16) (v : Word)
  /-- GATE_CANCEL (R367). -/
  | gateCancel (m : Master) (tag : BitVec 10) (p : Fin 16) (v : Word)
  /-- TIME_SET (R376). -/
  | timeSet (m : Master) (tag : BitVec 10) (v : Word)
  /-- TIME_STEP (R376). -/
  | timeStep (m : Master) (tag : BitVec 10) (v : Word)
  /-- TIME_OFFSET (R378). -/
  | timeOffset (m : Master) (tag : BitVec 10) (v : Word)
  /-- PPS_IN_EDGE (R387). -/
  | ppsInEdge (falling : Bool)
  /-- PPS_EDGE_MISSING (R387). -/
  | ppsEdgeMissing
  /-- SOURCE_SELECT (R379). -/
  | sourceSelect (m : Master) (tag : BitVec 10) (v : Word)
  /-- HOLD (R379). -/
  | hold (m : Master) (tag : BitVec 10) (v : Word)
  /-- REACQUIRE (R379). -/
  | reacquire (m : Master) (tag : BitVec 10) (v : Word)
  /-- HOLD_TIMEOUT (R379). -/
  | holdTimeout
  /-- REFCLK_LOST (R386). -/
  | refclkLost
  /-- REFCLK_RESTORED (R386). -/
  | refclkRestored
  /-- TIME_TXQ_LO (R384). -/
  | timeTxqLo (m : Master) (tag : BitVec 10)
  /-- MYK_LINK_TRAINED (R391). -/
  | mykLinkTrained (lanes : BitVec 4)
  /-- MYK_REPLAY (R391). -/
  | mykReplay (first : Bool)
  /-- MEM_RD_CPL (R395). -/
  | memRdCpl (msg : MykMsg)
  /-- HOST_READ_TIMEOUT (R395). -/
  | hostReadTimeout (tag : Fin 1024)
  /-- HOST_LOST (R396). -/
  | hostLost
  /-- HOST_LINK_RESTORED (R396). -/
  | hostLinkRestored (lanes : BitVec 4)
  /-- INTC_CLAIM (R405). -/
  | intcClaim (m : Master) (tag : BitVec 10) (t : Fin 3)
  /-- INTC_COMPLETE (R406). -/
  | intcComplete (m : Master) (tag : BitVec 10) (t : Fin 3) (v : Word)
  /-- INTC_RAISE (R403). -/
  | intcRaise (m : Master) (tag : BitVec 10) (v : Word)
  /-- INTC_SRC_WRITE (R411). -/
  | intcSrcWrite (m : Master) (tag : BitVec 10) (src : Fin 2048) (v : Word)
  /-- INTR_RESEND (R409). -/
  | intrResend
  /-- MAILBOX_WRITE (R410). -/
  | mailboxWrite (m : Master) (tag : BitVec 10) (k : Fin 4) (v : Word)
  /-- WATCHDOG_EXPIRY (R413). -/
  | watchdogExpiry (sec : Bool)
  /-- CORE_RESTART_DONE (R413). -/
  | coreRestartDone (sec : Bool)
  /-- RESET_N_RELEASE (R415). -/
  | resetNRelease
  /-- RESET_N_ASSERT (R486). -/
  | resetNAssert
  /-- ROM_DONE (R418). -/
  | romDone (f : Fuses) (banks : Banks)
  /-- SECURE_DONE (R419). -/
  | secureDone (x : SecureInput)
  /-- COMPAT_DONE (R422). -/
  | compatDone
  /-- BUNDLE_STAGED (R421). -/
  | bundleStaged (o : SignedObj)
  /-- SRAM_DONE (R424). -/
  | sramDone (beyond : Bool) (map : Bytes)
  /-- MEMTRAIN_DONE (R425). -/
  | memtrainDone (x : TrainInput)
  /-- MEMTEST_DONE (R426). -/
  | memtestDone (x : TestInput)
  /-- TABLE_CONFIRM (R428). -/
  | tableConfirm (u : TableUnit) (crc : BitVec 32)
  /-- TABLE_CONFIRM_TIMEOUT (R429). -/
  | tableConfirmTimeout (u : TableUnit)
  /-- TABLES_DONE (R428). -/
  | tablesDone
  /-- RESTORE_PHASE (R443). -/
  | restorePhase (bad0 : Bool) (bad1 : Bool)
  /-- ENGINES_STAGE_DONE (R432). -/
  | enginesStageDone
  /-- CAST_PHASE_TIMEOUT (R416). -/
  | castPhaseTimeout
  /-- INPUT_WARN (R436). -/
  | inputWarn (vin : BitVec 16) (iin : BitVec 16)
  /-- INPUT_WARN_CLEAR (R436). -/
  | inputWarnClear (vin : BitVec 16) (iin : BitVec 16)
  /-- INPUT_SURGE (R436). -/
  | inputSurge (vin : BitVec 16) (iin : BitVec 16)
  /-- BINDOFF_TRIGGER (R439). -/
  | bindoffTrigger (cause : InputCause) (x : BindOff)
  /-- BINDOFF_LIMIT (R442). -/
  | bindoffLimit (vcap : BitVec 16) (ms : BitVec 16)
  /-- INPUT_RESTART (R436). -/
  | inputRestart (vin : BitVec 16)
  /-- HOLDUP_CHARGE_MEASURED (R437). -/
  | holdupChargeMeasured (uf : BitVec 16) (vcap : BitVec 16)
  /-- POWER_CAP_REACHED (R438). -/
  | powerCapReached (pin : BitVec 16)
  /-- GAUGE_SAMPLE (R444). -/
  | gaugeSample (margins : List (BitVec 10)) (panels : List PanelReading)
  /-- REPLAN (R446). -/
  | replan (p : Fin 3)
  /-- RATE_FLOOR_FAULT (R447). -/
  | rateFloorFault (p : Fin 3)
  /-- PANEL_TEMP_CHANGE (R448). -/
  | panelTempChange (p : Fin 3) (temp : BitVec 16) (fast : Bool)
  /-- THERMAL_TRIP (R448). -/
  | thermalTrip (x : BindOff)
  /-- FW_UPDATE_MGMT (R452). -/
  | fwUpdateMgmt (m : Master) (tag : BitVec 10) (staged : Option SignedObj)
  /-- FW_UPDATE_SEC (R452). -/
  | fwUpdateSec (m : Master) (tag : BitVec 10) (staged : Option SignedObj)
  /-- BUNDLE_APPLY (R453). -/
  | bundleApply (m : Master) (tag : BitVec 10) (staged : Option SignedObj)
  /-- UPDATE_START_TIMEOUT (R452). -/
  | updateStartTimeout
  /-- TABLE_AUDIT (R454). -/
  | tableAudit (u : TableUnit) (crc : BitVec 32)
  /-- HEARTBEAT_SEND (R459). -/
  | heartbeatSend
  /-- HEARTBEAT (R459). -/
  | heartbeat (ep : BitVec 24) (b : Bytes)
  /-- FAIL_DETECT_EXPIRY (R459). -/
  | failDetectExpiry (pos : Fin 64)
  /-- FAIL (R465). -/
  | fail (ep : BitVec 24) (b : Bytes)
  /-- MIRROR (R462). -/
  | mirror (ep : BitVec 24) (b : Bytes)
  /-- MIRROR_ACK (R463). -/
  | mirrorAck (ep : BitVec 24) (b : Bytes)
  /-- DIGEST (R464). -/
  | digest (ep : BitVec 24) (b : Bytes) (spareFails partnerFails : Bool)
  /-- MISMATCH (R464). -/
  | mismatch (ep : BitVec 24) (b : Bytes)
  /-- REPORT (R467). -/
  | report (ep : BitVec 24) (b : Bytes)
  /-- BIND (R465). -/
  | bind (ep : BitVec 24) (b : Bytes)
  /-- FLOW (R463). -/
  | flow (ep : BitVec 24) (b : Bytes)
  /-- FLOW_SEND (R463). -/
  | flowSend
  /-- MIRROR_LAG_EXPIRY (R463). -/
  | mirrorLagExpiry
  /-- SHADOW_GO (R461). -/
  | shadowGo (m : Master) (tag : BitVec 10) (v : Word)
  /-- SHADOW_STOP (R463). -/
  | shadowStop (m : Master) (tag : BitVec 10) (v : Word)
  /-- SEED_COPY_END (R461). -/
  | seedCopyEnd
  /-- TAKEOVER_GO (R465). -/
  | takeoverGo (m : Master) (tag : BitVec 10) (v : Word)
  /-- TAKEOVER_CHUNKS_HELD (R465). -/
  | takeoverChunksHeld
  /-- STRAGGLER_SWAP (R468). -/
  | stragglerSwap
  /-- SNAPSHOT_GO (R475). -/
  | snapshotGo (m : Master) (tag : BitVec 10) (v : Word)
  /-- SNAPSHOT_RELEASE (R476). -/
  | snapshotRelease (m : Master) (tag : BitVec 10) (v : Word)
  /-- COUNTER_ENABLE (R474). -/
  | counterEnable (m : Master) (tag : BitVec 10) (n : Fin 512) (v : Word)
  /-- BW_WINDOW_END (R477). -/
  | bwWindowEnd
  /-- BW_WINDOW_WRITE (R477). -/
  | bwWindowWrite (m : Master) (tag : BitVec 10) (v : Word)
  /-- SMBUS_BLOCK_READ (R489). -/
  | smbusBlockRead (index : Byte)
  /-- SMBUS_ALERT_RESPONSE (R489). -/
  | smbusAlertResponse
  /-- JTAG_INSTRUCTION (R490). -/
  | jtagInstruction (i : JtagIr)
  /-- POWER_ON_PWR_GOOD (R485). -/
  | powerOnPwrGood
  /-- HOLDUP_CHARGE_TIMEOUT (R491). -/
  | holdupChargeTimeout (vcap : BitVec 16)
  /-- POWER_CAP_RELEASE (R438). -/
  | powerCapRelease (pin : BitVec 16)
  /-- PPS_OUT_EDGE (R387). -/
  | ppsOutEdge
  /-- MYKABEL_LOSS_OF_LOCK (R391). -/
  | mykabelLossOfLock
  deriving DecidableEq, Repr

end Sys2Proof
end

