-- ==== Sys2Proof/Config.lean ====
section
/-!
DEFINITION. Config.lean: what the spec leaves open. Each constant here is OPAQUE (it has no body that Lean can see), so a
statement that is proved holds whatever the value is. The model applies `freeValue` to a counter of the state that the
step reads and advances, so each use is a fresh value.
-/
namespace Sys2Proof.Config

/-- A value the spec does not state, one for each index: a result, a measurement or a choice left open. Applied to the
counter `State.freeCtr` (log entry 3). -/
opaque freeValue : Nat → BitVec 64

/-- The key-encapsulation and signature primitives of spec/09_cipher_and_keys.md name ML-KEM-1024 and SLH-DSA by their
standards, which the spec does not restate. Each is an uninterpreted function of its byte operands (log entry 4). -/
opaque kemEncapsCiphertext : Bytes → Bytes → Bytes
/-- Shared secret that encapsulation to a public key with the given randomness gives (log entry 4). -/
opaque kemEncapsSecret : Bytes → Bytes → Bytes
/-- Shared secret that decapsulation of a ciphertext with a secret key gives (log entry 4). -/
opaque kemDecaps : Bytes → Bytes → Bytes
/-- ML-KEM-1024 key pair from randomness: encapsulation key, then decapsulation key (log entry 4). -/
opaque kemKeyGen : Bytes → Bytes × Bytes
/-- Signature of a message under a signing key (log entry 4). -/
opaque sign : Bytes → Bytes → Bytes
/-- Whether a signature of a message verifies under a public identity key (log entry 4). -/
opaque verify : Bytes → Bytes → Bytes → Bool

/-- The job fingerprint (R37): CRC-32C over the tensor map, rank, bed format, seed and policy, whose byte layout under the
CRC the spec does not state (log entry 23). -/
opaque fingerprint : Bytes → Nat → Nat → Nat → Nat → BitVec 32

/-- CHANNEL of the packets that the gateway originates (Table FAB-1), which the spec leaves to the gateway (log entry 35). -/
opaque fabricChannel : BitVec 2
/-- Which of its local endpoint IDs, counted from the first, the gateway sends as (Table FAB-1; log entry 35). -/
opaque fabricSource : BitVec 8

/-- The temperature sensors next to a sensor (R305), which the spec does not name (log entry 38). -/
opaque sensorNeighbours : Nat → List (Fin 64)
/-- Heater limit of a ring, as (bank, ring), in 2^-15 GHz-equivalent (R303; log entry 38). -/
opaque heaterMax : Nat → Nat → Nat
/-- Heater efficiency of a ring from the factory record (R303; log entry 38). -/
opaque ringEff : Nat → Nat → Nat
/-- Heater setting for a clamped demand and an efficiency: their quotient, in a unit the spec does not state (R303; log
entry 38). -/
opaque heaterDrive : Nat → Nat → Nat

/-- The key-wrapping key, which derives from the die's secret (text after R246; log entry 4). -/
opaque wrapKey : BitVec 256
/-- The device identity key pair, which derives from the die's secret seeds (R264; log entry 4). -/
opaque identityPk : Bytes
/-- The private half of the device identity (R264; log entry 4). -/
opaque identitySk : Bytes
/-- A session key pair from randomness (R257): public, then private (log entry 4). -/
opaque sessionKeyGen : BitVec 64 → Bytes × Bytes

/-- Hash of the vendor anchor, fused at manufacture (R265; log entry 4). -/
opaque vendorAnchor : Bytes
/-- CLEAR_EXPORT_EN as the body of a bundle's security settings section sets it: the spec does not lay that section out (R421;
log entry 45). -/
opaque clearExport : Bytes → Bool
/-- Digests of the BED, STCH and PURL swatch sets of a bundle's swatch section, which the spec does not lay out (R421, R432; log
entry 45). -/
opaque swatchDigests : Bytes → Bytes × Bytes × Bytes
/-- Rail in mV of a panel and temperature band in the factory plan of the die (R445; log entry 46). -/
opaque factoryPlan : Nat → Nat → BitVec 10
/-- The record's body that names a chunk of the retention index, by peer and chunk ID, in the health log (R443; log entry 54). -/
opaque retentionNote : Nat → Nat → Bytes
/-- The straps SMB_ADDR[2:0] (Table MOD-3; log entry 47). -/
opaque smbusStraps : BitVec 3

end Sys2Proof.Config
end

