-- ==== Sys2Proof/Machine/Bits.lean ====
section
/-!
DEFINITION. Machine/Bits.lean: bit fields, byte order, lists by key, and CRC-32C: the helpers that the meanings share.
-/
namespace Sys2Proof.Machine

/-- `n` bits of `w` from bit `lo`, as a number (R6). -/
def getBits (w lo n : Nat) : Nat := (w >>> lo) % 2 ^ n

/-- Bit `i` of `w`. -/
def bit (w i : Nat) : Bool := w.testBit i

/-- `w` with its `n` bits from bit `lo` replaced by the low bits of `v`. -/
def setBits (w : Word) (lo n v : Nat) : Word :=
  let mask := (BitVec.ofNat 64 (2 ^ n - 1)) <<< lo
  (w &&& ~~~mask) ||| ((BitVec.ofNat 64 v <<< lo) &&& mask)

/-- A Bool as a number. -/
def b2n (b : Bool) : Nat := if b then 1 else 0

/-- `v` as `n` bytes, least significant first (R6, R7). -/
def le : (n v : Nat) → Bytes
  | 0, _ => []
  | n + 1, v => BitVec.ofNat 8 v :: le n (v / 256)

/-- The value of a little-endian field (R6). -/
def leVal : Bytes → Nat
  | [] => 0
  | b :: bs => b.toNat + 256 * leVal bs

/-- `v` as `n` bytes, most significant first. -/
def be (n v : Nat) : Bytes := (le n v).reverse

/-- The value of a big-endian field. -/
def beVal (bs : Bytes) : Nat := leVal bs.reverse

/-- `n` bytes of a format from byte `off`. -/
def slice (bs : Bytes) (off n : Nat) : Bytes := (bs.drop off).take n

/-- The little-endian field of `n` bytes at byte `off` of a format. -/
def fieldAt (bs : Bytes) (off n : Nat) : Nat := leVal (slice bs off n)

/-- `n` zero bytes. -/
def zeros (n : Nat) : Bytes := List.replicate n 0

/-- `bs` cut or filled with zero bytes to `n` bytes. -/
def padTo (n : Nat) (bs : Bytes) : Bytes := (bs ++ zeros (n - bs.length)).take n

/-- `n` bits of `v` read as a two's complement number. -/
def toSigned (n v : Nat) : Int := if v % 2 ^ n < 2 ^ (n - 1) then (v % 2 ^ n : Nat) else ((v % 2 ^ n : Nat) : Int) - 2 ^ n

/-- A number as `n` bits of two's complement. -/
def ofSigned (n : Nat) (v : Int) : Nat := (v % (2 ^ n : Nat)).toNat

/-- Add to a counter that saturates at its width. -/
def satAdd (n c v : Nat) : Nat := min (c + v) (2 ^ n - 1)

/-- Least number of `k`-sized pieces that cover `n`. -/
def ceilDiv (n k : Nat) : Nat := if k = 0 then 0 else (n + k - 1) / k

/-- Floor of the base-2 logarithm, by halving; 0 for 0. -/
def log2 (n : Nat) : Nat := Nat.log2 n

/-- The value at a key of an association list, or a default. -/
def lookupD {α β : Type} [DecidableEq α] (l : List (α × β)) (k : α) (d : β) : β :=
  match l with
  | [] => d
  | (a, b) :: r => if a = k then b else lookupD r k d

/-- Put a value at a key of an association list: replace it in place, or add it at the end. -/
def assocPut {α β : Type} [DecidableEq α] (l : List (α × β)) (k : α) (v : β) : List (α × β) :=
  match l with
  | [] => [(k, v)]
  | (a, b) :: r => if a = k then (a, v) :: r else (a, b) :: assocPut r k v

/-- Remove a key of an association list. -/
def assocErase {α β : Type} [DecidableEq α] (l : List (α × β)) (k : α) : List (α × β) := l.filter (fun e => e.1 ≠ k)

/-- Add an element to a list that names each element once. -/
def addOnce {α : Type} [DecidableEq α] (l : List α) (a : α) : List α := if a ∈ l then l else l ++ [a]

/-- The entry of greatest key, the first of equal ones. -/
def bestBy {α : Type} (key : α → Nat) : List α → Option α
  | [] => none
  | a :: r =>
    match bestBy key r with
    | none => some a
    | some b => if key a ≥ key b then some a else some b

/-- The entry of least key, the first of equal ones. -/
def leastBy {α : Type} (key : α → Nat) : List α → Option α
  | [] => none
  | a :: r =>
    match leastBy key r with
    | none => some a
    | some b => if key a ≤ key b then some a else some b

/-- The numbers of the bits set in `m` below `n`, ascending. -/
def bitsOf (m n : Nat) : List Nat := (List.range n).filter (fun i => m.testBit i)

/-- A mask with the bits of a list set. -/
def maskOf (l : List Nat) : Nat := l.foldl (fun m i => m ||| (1 <<< i)) 0

/-- `m` with bit `i` set, or cleared. -/
def setBit (m i : Nat) (v : Bool) : Nat := if v then m ||| (1 <<< i) else m - (if m.testBit i then 1 <<< i else 0)

/-- One bit of the CRC-32C (Castagnoli) division, reflected polynomial 0x82F63B78. -/
def crc32cBit (c : BitVec 32) : BitVec 32 :=
  if c.getLsbD 0 then (c >>> 1) ^^^ 0x82F63B78#32 else c >>> 1

/-- One byte of CRC-32C. -/
def crc32cByte (c : BitVec 32) (b : Byte) : BitVec 32 :=
  let c := c ^^^ b.setWidth 32
  crc32cBit (crc32cBit (crc32cBit (crc32cBit (crc32cBit (crc32cBit (crc32cBit (crc32cBit c)))))))

/-- CRC-32C of a run of bytes, initial value and final XOR all ones (log entry 20). -/
def crc32c (bs : Bytes) : Nat := ((bs.foldl crc32cByte 0xFFFFFFFF#32) ^^^ 0xFFFFFFFF#32).toNat

end Sys2Proof.Machine
end

