-- ==== Sys2Proof/Machine/RegMap.lean ====
section
/-!
DEFINITION. Machine/RegMap.lean: every control and status register of the gateway, as the register tables of spec/ give
them: address, array lengths and strides, and for each field its bits, access code (Table SCOPE-2) and reset value. The
names are the manual's own (REGISTER.FIELD). A register that the manual numbers (Q_CFG of queue q, PORT_CFG of port p)
is ONE record with the array's lengths and strides.
-/
namespace Sys2Proof.Machine

/-- Access codes of Table SCOPE-2 (spec/00_scope.md). `roLow` is the access of the MEM_CLASSc fields: RO for classes
0-15 and RW-L above (Table MEM-10, R332). -/
inductive Acc where
  | rw | ro | wo | w1c | w1s | rc | rwl | roLow
  deriving DecidableEq, Repr

/-- How a register's reset value depends on its index, where its table says so. -/
inductive IndexReset where
  /-- the same value for every index -/
  | none
  /-- PORT_ID.TX_PORT resets to the port number (Table FRAME-13) -/
  | portId
  /-- PHO_STEERm_r resets to the identity map (Table PHO-9) -/
  | steer
  /-- PHO_SOURCEs.POSITION resets to s, or to 0xF (Table PHO-12) -/
  | source
  /-- PHO_LINKl.FIBRE resets to l (Table PHO-12) -/
  | link
  /-- MEM_CLASSc resets to Table MEM-4, or to no access (R332) -/
  | memClass
  /-- INTC_SRCs.LEVEL is 1 for the level sources of Table HOST-5 -/
  | intcSrc
  /-- HLTH_GAUGEg names its cluster (Table PWR-7) -/
  | gauge
  deriving DecidableEq, Repr

/-- One field of a register: lowest bit, width, access code and reset value. Bits that no field covers are reserved:
they read as zero and ignore what is written (R10). -/
structure FieldInfo where
  lo : Nat
  w : Nat
  acc : Acc
  reset : Nat
  deriving DecidableEq, Repr

/-- One register, or an array of `n1` by `n2` registers at strides `s1` and `s2` bytes. -/
structure Reg where
  base : Nat
  n1 : Nat
  s1 : Nat
  n2 : Nat
  s2 : Nat
  idx : IndexReset
  flds : List FieldInfo
  deriving DecidableEq, Repr

/-- A named field: its register, lowest bit and width. -/
structure Field where
  reg : Reg
  lo : Nat
  w : Nat
  deriving DecidableEq, Repr

namespace Csr

/-- 15_host_link_and_control.md, Table HOST-7. -/
def TOP_ID : Reg := ⟨0x00000000, 1, 0, 1, 0, .none,
  [⟨0, 16, .ro, 0x7A4E⟩, ⟨16, 16, .ro, 0x880⟩]⟩
def TOP_ID.VENDOR : Field := ⟨TOP_ID, 0, 16⟩
def TOP_ID.DEVICE : Field := ⟨TOP_ID, 16, 16⟩
/-- 15_host_link_and_control.md, Table HOST-7. -/
def TOP_REV : Reg := ⟨0x00000008, 1, 0, 1, 0, .none,
  [⟨0, 32, .ro, 0⟩, ⟨32, 32, .ro, 0⟩]⟩
def TOP_REV.HW_REV : Field := ⟨TOP_REV, 0, 32⟩
def TOP_REV.MANIFEST_VERSION : Field := ⟨TOP_REV, 32, 32⟩
/-- 15_host_link_and_control.md, Table HOST-7. -/
def TOP_FW : Reg := ⟨0x00000010, 1, 0, 1, 0, .none,
  [⟨0, 32, .ro, 0⟩, ⟨32, 32, .ro, 0⟩]⟩
def TOP_FW.MGMT_FW_VERSION : Field := ⟨TOP_FW, 0, 32⟩
def TOP_FW.SEC_FW_VERSION : Field := ⟨TOP_FW, 32, 32⟩
/-- 15_host_link_and_control.md, Table HOST-7. -/
def TOP_SERIAL : Reg := ⟨0x00000018, 2, 8, 1, 0, .none,
  [⟨0, 64, .ro, 0⟩]⟩
def TOP_SERIAL.SERIAL : Field := ⟨TOP_SERIAL, 0, 64⟩
/-- 15_host_link_and_control.md, Table HOST-7. -/
def TOP_STATE : Reg := ⟨0x00000028, 1, 0, 1, 0, .none,
  [⟨0, 8, .ro, 0⟩, ⟨8, 1, .ro, 0⟩, ⟨16, 16, .ro, 0⟩]⟩
def TOP_STATE.CAST_PHASE : Field := ⟨TOP_STATE, 0, 8⟩
def TOP_STATE.RESTRICTED : Field := ⟨TOP_STATE, 8, 1⟩
def TOP_STATE.RESTRICT_REASON : Field := ⟨TOP_STATE, 16, 16⟩
/-- 15_host_link_and_control.md, Table HOST-7. -/
def TOP_CAPCHG : Reg := ⟨0x00000030, 1, 0, 1, 0, .none,
  [⟨0, 18, .w1c, 0⟩]⟩
def TOP_CAPCHG.BLOCKS : Field := ⟨TOP_CAPCHG, 0, 18⟩
/-- 15_host_link_and_control.md, Table HOST-7. -/
def TOP_FAULT : Reg := ⟨0x00000038, 1, 0, 1, 0, .none,
  [⟨0, 1, .w1c, 0⟩, ⟨16, 16, .ro, 0⟩, ⟨32, 32, .ro, 0⟩]⟩
def TOP_FAULT.ACTIVE : Field := ⟨TOP_FAULT, 0, 1⟩
def TOP_FAULT.REASON : Field := ⟨TOP_FAULT, 16, 16⟩
def TOP_FAULT.ADDR_LO : Field := ⟨TOP_FAULT, 32, 32⟩
/-- 15_host_link_and_control.md, Table HOST-7. -/
def TOP_MYK_CFG : Reg := ⟨0x00000040, 1, 0, 1, 0, .none,
  [⟨0, 16, .rw, 0x64⟩, ⟨16, 16, .rw, 0x64⟩, ⟨32, 16, .rw, 0⟩]⟩
def TOP_MYK_CFG.HOST_RD_TIMEOUT_US : Field := ⟨TOP_MYK_CFG, 0, 16⟩
def TOP_MYK_CFG.LINK_DOWN_MS : Field := ⟨TOP_MYK_CFG, 16, 16⟩
def TOP_MYK_CFG.MSG_DATA : Field := ⟨TOP_MYK_CFG, 32, 16⟩
/-- 15_host_link_and_control.md, Table HOST-7. -/
def TOP_MYK_STATUS : Reg := ⟨0x00000048, 1, 0, 1, 0, .none,
  [⟨0, 2, .ro, 0⟩, ⟨2, 3, .ro, 0⟩, ⟨5, 4, .ro, 0⟩]⟩
def TOP_MYK_STATUS.STATE : Field := ⟨TOP_MYK_STATUS, 0, 2⟩
def TOP_MYK_STATUS.WIDTH : Field := ⟨TOP_MYK_STATUS, 2, 3⟩
def TOP_MYK_STATUS.LANES_LOCKED : Field := ⟨TOP_MYK_STATUS, 5, 4⟩
/-- 15_host_link_and_control.md, Table HOST-7. -/
def TOP_MYK_COUNT : Reg := ⟨0x00000050, 1, 0, 1, 0, .none,
  [⟨0, 16, .rc, 0⟩, ⟨16, 16, .rc, 0⟩, ⟨32, 16, .rc, 0⟩, ⟨48, 16, .rc, 0⟩]⟩
def TOP_MYK_COUNT.REPLAYS : Field := ⟨TOP_MYK_COUNT, 0, 16⟩
def TOP_MYK_COUNT.RETRAINS : Field := ⟨TOP_MYK_COUNT, 16, 16⟩
def TOP_MYK_COUNT.BAD_MSG : Field := ⟨TOP_MYK_COUNT, 32, 16⟩
def TOP_MYK_COUNT.DROPPED_WR : Field := ⟨TOP_MYK_COUNT, 48, 16⟩
/-- 15_host_link_and_control.md, Table HOST-7. -/
def TOP_VLOG_BASE : Reg := ⟨0x00000058, 1, 0, 1, 0, .none,
  [⟨6, 58, .rw, 0⟩]⟩
def TOP_VLOG_BASE.ADDR : Field := ⟨TOP_VLOG_BASE, 6, 58⟩
/-- 15_host_link_and_control.md, Table HOST-7. -/
def TOP_VLOG_PTR : Reg := ⟨0x00000060, 1, 0, 1, 0, .none,
  [⟨0, 4, .rw, 8⟩, ⟨4, 1, .w1c, 0⟩, ⟨8, 16, .ro, 0⟩, ⟨24, 16, .rw, 0⟩]⟩
def TOP_VLOG_PTR.SIZE_LOG2 : Field := ⟨TOP_VLOG_PTR, 0, 4⟩
def TOP_VLOG_PTR.OVERFLOW : Field := ⟨TOP_VLOG_PTR, 4, 1⟩
def TOP_VLOG_PTR.WR_PTR : Field := ⟨TOP_VLOG_PTR, 8, 16⟩
def TOP_VLOG_PTR.RD_PTR : Field := ⟨TOP_VLOG_PTR, 24, 16⟩
/-- 15_host_link_and_control.md, Table HOST-7. -/
def TOP_CORE : Reg := ⟨0x00000068, 1, 0, 1, 0, .none,
  [⟨0, 2, .ro, 0⟩, ⟨2, 2, .ro, 0⟩, ⟨16, 16, .ro, 0⟩, ⟨32, 16, .ro, 0⟩]⟩
def TOP_CORE.MGMT_STATE : Field := ⟨TOP_CORE, 0, 2⟩
def TOP_CORE.SEC_STATE : Field := ⟨TOP_CORE, 2, 2⟩
def TOP_CORE.MGMT_RESTARTS : Field := ⟨TOP_CORE, 16, 16⟩
def TOP_CORE.SEC_RESTARTS : Field := ⟨TOP_CORE, 32, 16⟩
/-- 15_host_link_and_control.md, Table HOST-7. -/
def TOP_MBOX : Reg := ⟨0x00000070, 4, 8, 1, 0, .none,
  [⟨0, 64, .rw, 0⟩]⟩
def TOP_MBOX.MESSAGE : Field := ⟨TOP_MBOX, 0, 64⟩
/-- 15_host_link_and_control.md, Table HOST-7. -/
def TOP_VIOL_COUNT : Reg := ⟨0x00000090, 1, 0, 1, 0, .none,
  [⟨0, 32, .ro, 0⟩, ⟨32, 32, .rc, 0⟩]⟩
def TOP_VIOL_COUNT.TOTAL : Field := ⟨TOP_VIOL_COUNT, 0, 32⟩
def TOP_VIOL_COUNT.LOST : Field := ⟨TOP_VIOL_COUNT, 32, 32⟩
/-- 15_host_link_and_control.md, Table HOST-7. -/
def TOP_INT_ENABLE : Reg := ⟨0x000000A8, 1, 0, 1, 0, .none,
  [⟨0, 1, .rw, 0⟩, ⟨1, 1, .rw, 0⟩, ⟨2, 1, .rw, 0⟩, ⟨3, 1, .rw, 0⟩]⟩
def TOP_INT_ENABLE.LINK : Field := ⟨TOP_INT_ENABLE, 0, 1⟩
def TOP_INT_ENABLE.HOST_READ : Field := ⟨TOP_INT_ENABLE, 1, 1⟩
def TOP_INT_ENABLE.CORE : Field := ⟨TOP_INT_ENABLE, 2, 1⟩
def TOP_INT_ENABLE.VLOG_LOST : Field := ⟨TOP_INT_ENABLE, 3, 1⟩
/-- 15_host_link_and_control.md, Table HOST-7. -/
def TOP_INT_STATUS : Reg := ⟨0x000000B0, 1, 0, 1, 0, .none,
  [⟨0, 1, .w1c, 0⟩, ⟨1, 1, .w1c, 0⟩, ⟨2, 1, .w1c, 0⟩, ⟨3, 1, .w1c, 0⟩]⟩
def TOP_INT_STATUS.LINK : Field := ⟨TOP_INT_STATUS, 0, 1⟩
def TOP_INT_STATUS.HOST_READ : Field := ⟨TOP_INT_STATUS, 1, 1⟩
def TOP_INT_STATUS.CORE : Field := ⟨TOP_INT_STATUS, 2, 1⟩
def TOP_INT_STATUS.VLOG_LOST : Field := ⟨TOP_INT_STATUS, 3, 1⟩
/-- 15_host_link_and_control.md, Table HOST-9. -/
def INTC_CTRL : Reg := ⟨0x00100000, 1, 0, 1, 0, .none,
  [⟨0, 1, .rw, 0⟩]⟩
def INTC_CTRL.ENABLE : Field := ⟨INTC_CTRL, 0, 1⟩
/-- 15_host_link_and_control.md, Table HOST-9. -/
def INTC_STATUS : Reg := ⟨0x00100008, 1, 0, 1, 0, .none,
  [⟨0, 1, .ro, 0⟩, ⟨16, 16, .ro, 0⟩]⟩
def INTC_STATUS.READY : Field := ⟨INTC_STATUS, 0, 1⟩
def INTC_STATUS.CONFIG_REASON : Field := ⟨INTC_STATUS, 16, 16⟩
/-- 15_host_link_and_control.md, Table HOST-9. -/
def INTC_CAP : Reg := ⟨0x00100010, 1, 0, 1, 0, .none,
  [⟨0, 12, .ro, 0x800⟩, ⟨12, 2, .ro, 3⟩]⟩
def INTC_CAP.SOURCES : Field := ⟨INTC_CAP, 0, 12⟩
def INTC_CAP.TARGETS : Field := ⟨INTC_CAP, 12, 2⟩
/-- 15_host_link_and_control.md, Table HOST-9. -/
def INTC_HOST_MSG : Reg := ⟨0x00100018, 1, 0, 1, 0, .none,
  [⟨0, 16, .ro, 0⟩]⟩
def INTC_HOST_MSG.MSG_DATA : Field := ⟨INTC_HOST_MSG, 0, 16⟩
/-- 15_host_link_and_control.md, Table HOST-9. -/
def INTC_RAISE : Reg := ⟨0x00100020, 1, 0, 1, 0, .none,
  [⟨0, 11, .wo, 0⟩]⟩
def INTC_RAISE.SOURCE : Field := ⟨INTC_RAISE, 0, 11⟩
/-- 15_host_link_and_control.md, Table HOST-9. -/
def INTC_STATS : Reg := ⟨0x00100028, 1, 0, 1, 0, .none,
  [⟨0, 32, .rc, 0⟩, ⟨32, 32, .rc, 0⟩]⟩
def INTC_STATS.LOST : Field := ⟨INTC_STATS, 0, 32⟩
def INTC_STATS.RESEND : Field := ⟨INTC_STATS, 32, 32⟩
/-- 15_host_link_and_control.md, Table HOST-9. -/
def INTC_INT_ENABLE : Reg := ⟨0x001000A8, 1, 0, 1, 0, .none,
  [⟨0, 1, .rw, 0⟩, ⟨1, 1, .rw, 0⟩, ⟨2, 1, .rw, 0⟩]⟩
def INTC_INT_ENABLE.CONFIG_REFUSED : Field := ⟨INTC_INT_ENABLE, 0, 1⟩
def INTC_INT_ENABLE.LOST_EVENT : Field := ⟨INTC_INT_ENABLE, 1, 1⟩
def INTC_INT_ENABLE.BAD_COMPLETE : Field := ⟨INTC_INT_ENABLE, 2, 1⟩
/-- 15_host_link_and_control.md, Table HOST-9. -/
def INTC_INT_STATUS : Reg := ⟨0x001000B0, 1, 0, 1, 0, .none,
  [⟨0, 1, .w1c, 0⟩, ⟨1, 1, .w1c, 0⟩, ⟨2, 1, .w1c, 0⟩]⟩
def INTC_INT_STATUS.CONFIG_REFUSED : Field := ⟨INTC_INT_STATUS, 0, 1⟩
def INTC_INT_STATUS.LOST_EVENT : Field := ⟨INTC_INT_STATUS, 1, 1⟩
def INTC_INT_STATUS.BAD_COMPLETE : Field := ⟨INTC_INT_STATUS, 2, 1⟩
/-- 15_host_link_and_control.md, Table HOST-9. -/
def INTC_THRESHOLD : Reg := ⟨0x00100100, 3, 0x20, 1, 0, .none,
  [⟨0, 4, .rw, 0⟩]⟩
def INTC_THRESHOLD.THRESHOLD : Field := ⟨INTC_THRESHOLD, 0, 4⟩
/-- 15_host_link_and_control.md, Table HOST-9. -/
def INTC_CLAIM : Reg := ⟨0x00100108, 3, 0x20, 1, 0, .none,
  [⟨0, 11, .rc, 0⟩, ⟨11, 4, .rc, 0⟩, ⟨15, 1, .rc, 0⟩]⟩
def INTC_CLAIM.SOURCE : Field := ⟨INTC_CLAIM, 0, 11⟩
def INTC_CLAIM.PRIORITY : Field := ⟨INTC_CLAIM, 11, 4⟩
def INTC_CLAIM.VALID : Field := ⟨INTC_CLAIM, 15, 1⟩
/-- 15_host_link_and_control.md, Table HOST-9. -/
def INTC_COMPLETE : Reg := ⟨0x00100110, 3, 0x20, 1, 0, .none,
  [⟨0, 11, .wo, 0⟩]⟩
def INTC_COMPLETE.SOURCE : Field := ⟨INTC_COMPLETE, 0, 11⟩
/-- 15_host_link_and_control.md, Table HOST-9. -/
def INTC_RUNNING : Reg := ⟨0x00100118, 3, 0x20, 1, 0, .none,
  [⟨0, 4, .ro, 0⟩]⟩
def INTC_RUNNING.RUNNING : Field := ⟨INTC_RUNNING, 0, 4⟩
/-- 15_host_link_and_control.md, Table HOST-9. -/
def INTC_SRC : Reg := ⟨0x00101000, 2048, 8, 1, 0, .intcSrc,
  [⟨0, 4, .rw, 0⟩, ⟨4, 2, .rw, 0⟩, ⟨6, 1, .ro, 0⟩, ⟨7, 1, .ro, 0⟩, ⟨8, 1, .ro, 0⟩]⟩
def INTC_SRC.PRIORITY : Field := ⟨INTC_SRC, 0, 4⟩
def INTC_SRC.TARGET : Field := ⟨INTC_SRC, 4, 2⟩
def INTC_SRC.PENDING : Field := ⟨INTC_SRC, 6, 1⟩
def INTC_SRC.ACTIVE : Field := ⟨INTC_SRC, 7, 1⟩
def INTC_SRC.LEVEL : Field := ⟨INTC_SRC, 8, 1⟩
/-- 15_host_link_and_control.md, Table HOST-9. -/
def INTC_PENDING : Reg := ⟨0x00105000, 32, 8, 1, 0, .none,
  [⟨0, 64, .ro, 0⟩]⟩
def INTC_PENDING.PENDING : Field := ⟨INTC_PENDING, 0, 64⟩
/-- 15_host_link_and_control.md, Table HOST-9. -/
def INTC_LOST : Reg := ⟨0x00105100, 32, 8, 1, 0, .none,
  [⟨0, 64, .w1c, 0⟩]⟩
def INTC_LOST.LOST : Field := ⟨INTC_LOST, 0, 64⟩
/-- 13_queues_and_scheduling.md, Table QUE-8. -/
def HOSTQ_CTRL : Reg := ⟨0x00200000, 1, 0, 1, 0, .none,
  [⟨0, 1, .rw, 0⟩]⟩
def HOSTQ_CTRL.ENABLE : Field := ⟨HOSTQ_CTRL, 0, 1⟩
/-- 13_queues_and_scheduling.md, Table QUE-8. -/
def HOSTQ_STATUS : Reg := ⟨0x00200008, 1, 0, 1, 0, .none,
  [⟨0, 1, .ro, 0⟩, ⟨16, 16, .ro, 0⟩, ⟨32, 14, .ro, 0⟩]⟩
def HOSTQ_STATUS.READY : Field := ⟨HOSTQ_STATUS, 0, 1⟩
def HOSTQ_STATUS.CONFIG_REASON : Field := ⟨HOSTQ_STATUS, 16, 16⟩
def HOSTQ_STATUS.QUEUES_ENABLED : Field := ⟨HOSTQ_STATUS, 32, 14⟩
/-- 13_queues_and_scheduling.md, Table QUE-8. -/
def HOSTQ_CAP : Reg := ⟨0x00200010, 1, 0, 1, 0, .none,
  [⟨0, 14, .ro, 0x2000⟩, ⟨14, 9, .ro, 0x100⟩]⟩
def HOSTQ_CAP.QUEUES : Field := ⟨HOSTQ_CAP, 0, 14⟩
def HOSTQ_CAP.ENGINES : Field := ⟨HOSTQ_CAP, 14, 9⟩
/-- 13_queues_and_scheduling.md, Table QUE-8. -/
def HOSTQ_DB_BASE : Reg := ⟨0x00200018, 1, 0, 1, 0, .none,
  [⟨6, 58, .rwl, 0⟩]⟩
def HOSTQ_DB_BASE.ADDR : Field := ⟨HOSTQ_DB_BASE, 6, 58⟩
/-- 13_queues_and_scheduling.md, Table QUE-8. -/
def HOSTQ_ERR_LOG : Reg := ⟨0x00200080, 1, 0, 1, 0, .none,
  [⟨0, 16, .ro, 0⟩, ⟨16, 13, .ro, 0⟩, ⟨29, 6, .ro, 0⟩, ⟨35, 2, .ro, 0⟩]⟩
def HOSTQ_ERR_LOG.REASON : Field := ⟨HOSTQ_ERR_LOG, 0, 16⟩
def HOSTQ_ERR_LOG.QUEUE : Field := ⟨HOSTQ_ERR_LOG, 16, 13⟩
def HOSTQ_ERR_LOG.CLASS : Field := ⟨HOSTQ_ERR_LOG, 29, 6⟩
def HOSTQ_ERR_LOG.SOURCE : Field := ⟨HOSTQ_ERR_LOG, 35, 2⟩
/-- 13_queues_and_scheduling.md, Table QUE-8. -/
def HOSTQ_ERR_ADDR : Reg := ⟨0x00200088, 1, 0, 1, 0, .none,
  [⟨0, 64, .ro, 0⟩]⟩
def HOSTQ_ERR_ADDR.ADDR : Field := ⟨HOSTQ_ERR_ADDR, 0, 64⟩
/-- 13_queues_and_scheduling.md, Table QUE-8. -/
def HOSTQ_COUNT : Reg := ⟨0x00200090, 1, 0, 1, 0, .none,
  [⟨0, 16, .rc, 0⟩, ⟨16, 16, .rc, 0⟩, ⟨32, 16, .rc, 0⟩, ⟨48, 16, .rc, 0⟩]⟩
def HOSTQ_COUNT.VIOLATIONS : Field := ⟨HOSTQ_COUNT, 0, 16⟩
def HOSTQ_COUNT.FETCH_ERR : Field := ⟨HOSTQ_COUNT, 16, 16⟩
def HOSTQ_COUNT.CQ_FULL : Field := ⟨HOSTQ_COUNT, 32, 16⟩
def HOSTQ_COUNT.REFUSED : Field := ⟨HOSTQ_COUNT, 48, 16⟩
/-- 13_queues_and_scheduling.md, Table QUE-8. -/
def HOSTQ_INT_ENABLE : Reg := ⟨0x002000A8, 1, 0, 1, 0, .none,
  [⟨0, 1, .rw, 0⟩, ⟨1, 1, .rw, 0⟩, ⟨2, 1, .rw, 0⟩, ⟨3, 1, .rw, 0⟩, ⟨4, 1, .rw, 0⟩]⟩
def HOSTQ_INT_ENABLE.CONFIG_REFUSED : Field := ⟨HOSTQ_INT_ENABLE, 0, 1⟩
def HOSTQ_INT_ENABLE.VIOLATION : Field := ⟨HOSTQ_INT_ENABLE, 1, 1⟩
def HOSTQ_INT_ENABLE.FETCH_ERROR : Field := ⟨HOSTQ_INT_ENABLE, 2, 1⟩
def HOSTQ_INT_ENABLE.CQ_FULL : Field := ⟨HOSTQ_INT_ENABLE, 3, 1⟩
def HOSTQ_INT_ENABLE.UNIT_FAULT : Field := ⟨HOSTQ_INT_ENABLE, 4, 1⟩
/-- 13_queues_and_scheduling.md, Table QUE-8. -/
def HOSTQ_INT_STATUS : Reg := ⟨0x002000B0, 1, 0, 1, 0, .none,
  [⟨0, 1, .w1c, 0⟩, ⟨1, 1, .w1c, 0⟩, ⟨2, 1, .w1c, 0⟩, ⟨3, 1, .w1c, 0⟩, ⟨4, 1, .w1c, 0⟩]⟩
def HOSTQ_INT_STATUS.CONFIG_REFUSED : Field := ⟨HOSTQ_INT_STATUS, 0, 1⟩
def HOSTQ_INT_STATUS.VIOLATION : Field := ⟨HOSTQ_INT_STATUS, 1, 1⟩
def HOSTQ_INT_STATUS.FETCH_ERROR : Field := ⟨HOSTQ_INT_STATUS, 2, 1⟩
def HOSTQ_INT_STATUS.CQ_FULL : Field := ⟨HOSTQ_INT_STATUS, 3, 1⟩
def HOSTQ_INT_STATUS.UNIT_FAULT : Field := ⟨HOSTQ_INT_STATUS, 4, 1⟩
/-- 13_queues_and_scheduling.md, Table QUE-9. -/
def Q_CFG : Reg := ⟨0x00201000, 8192, 0x40, 1, 0, .none,
  [⟨0, 1, .rw, 0⟩, ⟨1, 2, .rwl, 0⟩, ⟨3, 1, .rwl, 0⟩, ⟨4, 1, .rwl, 0⟩, ⟨5, 1, .rw, 0⟩, ⟨8, 6, .rwl, 0⟩, ⟨16, 8, .rwl, 0⟩, ⟨24, 5, .rwl, 8⟩, ⟨29, 5, .rwl, 8⟩, ⟨34, 10, .rw, 0⟩, ⟨44, 10, .rwl, 0⟩]⟩
def Q_CFG.ENABLE : Field := ⟨Q_CFG, 0, 1⟩
def Q_CFG.KIND : Field := ⟨Q_CFG, 1, 2⟩
def Q_CFG.RING_LOC : Field := ⟨Q_CFG, 3, 1⟩
def Q_CFG.CHAIN_IN : Field := ⟨Q_CFG, 4, 1⟩
def Q_CFG.INT_EN : Field := ⟨Q_CFG, 5, 1⟩
def Q_CFG.CLASS : Field := ⟨Q_CFG, 8, 6⟩
def Q_CFG.TENANT_ID : Field := ⟨Q_CFG, 16, 8⟩
def Q_CFG.SQ_LOG2 : Field := ⟨Q_CFG, 24, 5⟩
def Q_CFG.CQ_LOG2 : Field := ⟨Q_CFG, 29, 5⟩
def Q_CFG.VECTOR : Field := ⟨Q_CFG, 34, 10⟩
def Q_CFG.POLICER : Field := ⟨Q_CFG, 44, 10⟩
/-- 13_queues_and_scheduling.md, Table QUE-9. -/
def Q_SQ : Reg := ⟨0x00201008, 8192, 0x40, 1, 0, .none,
  [⟨7, 57, .rwl, 0⟩]⟩
def Q_SQ.ADDR : Field := ⟨Q_SQ, 7, 57⟩
/-- 13_queues_and_scheduling.md, Table QUE-9. -/
def Q_CQ : Reg := ⟨0x00201010, 8192, 0x40, 1, 0, .none,
  [⟨6, 58, .rwl, 0⟩]⟩
def Q_CQ.ADDR : Field := ⟨Q_CQ, 6, 58⟩
/-- 13_queues_and_scheduling.md, Table QUE-9. -/
def Q_WB : Reg := ⟨0x00201018, 8192, 0x40, 1, 0, .none,
  [⟨3, 61, .rwl, 0⟩]⟩
def Q_WB.ADDR : Field := ⟨Q_WB, 3, 61⟩
/-- 13_queues_and_scheduling.md, Table QUE-9. -/
def Q_PTR : Reg := ⟨0x00201020, 8192, 0x40, 1, 0, .none,
  [⟨0, 16, .ro, 0⟩, ⟨16, 16, .ro, 0⟩, ⟨32, 16, .ro, 0⟩, ⟨48, 16, .ro, 0⟩]⟩
def Q_PTR.SQ_HEAD : Field := ⟨Q_PTR, 0, 16⟩
def Q_PTR.SQ_TAIL : Field := ⟨Q_PTR, 16, 16⟩
def Q_PTR.CQ_TAIL : Field := ⟨Q_PTR, 32, 16⟩
def Q_PTR.CQ_HEAD : Field := ⟨Q_PTR, 48, 16⟩
/-- 13_queues_and_scheduling.md, Table QUE-9. -/
def Q_GROUP : Reg := ⟨0x00201028, 8192, 0x40, 1, 0, .none,
  [⟨6, 30, .rwl, 0⟩, ⟨36, 9, .rwl, 0⟩]⟩
def Q_GROUP.ADDR : Field := ⟨Q_GROUP, 6, 30⟩
def Q_GROUP.MEMBERS : Field := ⟨Q_GROUP, 36, 9⟩
/-- 13_queues_and_scheduling.md, Table QUE-9. -/
def Q_STATUS : Reg := ⟨0x00201030, 8192, 0x40, 1, 0, .none,
  [⟨0, 1, .ro, 0⟩, ⟨1, 1, .ro, 0⟩, ⟨2, 1, .ro, 0⟩, ⟨16, 16, .ro, 0⟩, ⟨32, 10, .ro, 0⟩]⟩
def Q_STATUS.CQ_FULL : Field := ⟨Q_STATUS, 0, 1⟩
def Q_STATUS.DRAINING : Field := ⟨Q_STATUS, 1, 1⟩
def Q_STATUS.STOPPED : Field := ⟨Q_STATUS, 2, 1⟩
def Q_STATUS.REASON : Field := ⟨Q_STATUS, 16, 16⟩
def Q_STATUS.INFLIGHT : Field := ⟨Q_STATUS, 32, 10⟩
/-- 13_queues_and_scheduling.md, Table QUE-9. -/
def Q_COUNT : Reg := ⟨0x00201038, 8192, 0x40, 1, 0, .none,
  [⟨0, 32, .ro, 0⟩, ⟨32, 32, .rc, 0⟩]⟩
def Q_COUNT.DONE : Field := ⟨Q_COUNT, 0, 32⟩
def Q_COUNT.ERRORS : Field := ⟨Q_COUNT, 32, 32⟩
/-- 13_queues_and_scheduling.md, Table QUE-11. -/
def SCHED_CTRL : Reg := ⟨0x00300000, 1, 0, 1, 0, .none,
  [⟨0, 1, .rw, 0⟩, ⟨16, 13, .rwl, 0x1000⟩]⟩
def SCHED_CTRL.ENABLE : Field := ⟨SCHED_CTRL, 0, 1⟩
def SCHED_CTRL.LINE_QUEUE_BASE : Field := ⟨SCHED_CTRL, 16, 13⟩
/-- 13_queues_and_scheduling.md, Table QUE-11. -/
def SCHED_STATUS : Reg := ⟨0x00300008, 1, 0, 1, 0, .none,
  [⟨0, 1, .ro, 0⟩, ⟨16, 16, .ro, 0⟩]⟩
def SCHED_STATUS.READY : Field := ⟨SCHED_STATUS, 0, 1⟩
def SCHED_STATUS.CONFIG_REASON : Field := ⟨SCHED_STATUS, 16, 16⟩
/-- 13_queues_and_scheduling.md, Table QUE-11. -/
def SCHED_CAP : Reg := ⟨0x00300010, 1, 0, 1, 0, .none,
  [⟨0, 5, .ro, 0x10⟩, ⟨5, 9, .ro, 0x100⟩]⟩
def SCHED_CAP.PORT_SCHED : Field := ⟨SCHED_CAP, 0, 5⟩
def SCHED_CAP.TENANT_SCHED : Field := ⟨SCHED_CAP, 5, 9⟩
/-- 13_queues_and_scheduling.md, Table QUE-11. -/
def SCHED_ERR_LOG : Reg := ⟨0x00300080, 1, 0, 1, 0, .none,
  [⟨0, 16, .ro, 0⟩, ⟨16, 4, .ro, 0⟩, ⟨20, 8, .ro, 0⟩, ⟨28, 13, .ro, 0⟩]⟩
def SCHED_ERR_LOG.REASON : Field := ⟨SCHED_ERR_LOG, 0, 16⟩
def SCHED_ERR_LOG.PORT : Field := ⟨SCHED_ERR_LOG, 16, 4⟩
def SCHED_ERR_LOG.TENANT_ID : Field := ⟨SCHED_ERR_LOG, 20, 8⟩
def SCHED_ERR_LOG.QUEUE : Field := ⟨SCHED_ERR_LOG, 28, 13⟩
/-- 13_queues_and_scheduling.md, Table QUE-11. -/
def SCHED_INT_ENABLE : Reg := ⟨0x003000A8, 1, 0, 1, 0, .none,
  [⟨0, 1, .rw, 0⟩, ⟨1, 1, .rw, 0⟩, ⟨2, 1, .rw, 0⟩, ⟨3, 1, .rw, 0⟩]⟩
def SCHED_INT_ENABLE.CONFIG_REFUSED : Field := ⟨SCHED_INT_ENABLE, 0, 1⟩
def SCHED_INT_ENABLE.GATE : Field := ⟨SCHED_INT_ENABLE, 1, 1⟩
def SCHED_INT_ENABLE.POLICED : Field := ⟨SCHED_INT_ENABLE, 2, 1⟩
def SCHED_INT_ENABLE.UNIT_FAULT : Field := ⟨SCHED_INT_ENABLE, 3, 1⟩
/-- 13_queues_and_scheduling.md, Table QUE-11. -/
def SCHED_INT_STATUS : Reg := ⟨0x003000B0, 1, 0, 1, 0, .none,
  [⟨0, 1, .w1c, 0⟩, ⟨1, 1, .w1c, 0⟩, ⟨2, 1, .w1c, 0⟩, ⟨3, 1, .w1c, 0⟩]⟩
def SCHED_INT_STATUS.CONFIG_REFUSED : Field := ⟨SCHED_INT_STATUS, 0, 1⟩
def SCHED_INT_STATUS.GATE : Field := ⟨SCHED_INT_STATUS, 1, 1⟩
def SCHED_INT_STATUS.POLICED : Field := ⟨SCHED_INT_STATUS, 2, 1⟩
def SCHED_INT_STATUS.UNIT_FAULT : Field := ⟨SCHED_INT_STATUS, 3, 1⟩
/-- 13_queues_and_scheduling.md, Table QUE-11. -/
def GATE_CTRL : Reg := ⟨0x00300200, 16, 0x40, 1, 0, .none,
  [⟨0, 1, .ro, 0⟩, ⟨1, 1, .w1s, 0⟩, ⟨2, 1, .w1s, 0⟩, ⟨3, 1, .ro, 0⟩, ⟨4, 1, .rw, 1⟩, ⟨8, 8, .ro, 0⟩]⟩
def GATE_CTRL.ACTIVE_LIST : Field := ⟨GATE_CTRL, 0, 1⟩
def GATE_CTRL.ARM : Field := ⟨GATE_CTRL, 1, 1⟩
def GATE_CTRL.CANCEL : Field := ⟨GATE_CTRL, 2, 1⟩
def GATE_CTRL.IN_FORCE : Field := ⟨GATE_CTRL, 3, 1⟩
def GATE_CTRL.GUARD : Field := ⟨GATE_CTRL, 4, 1⟩
def GATE_CTRL.ENTRY : Field := ⟨GATE_CTRL, 8, 8⟩
/-- 13_queues_and_scheduling.md, Table QUE-11. -/
def LIST0_ADDR : Reg := ⟨0x00300208, 16, 0x40, 1, 0, .none,
  [⟨0, 64, .rw, 0⟩]⟩
def LIST0_ADDR.ADDR : Field := ⟨LIST0_ADDR, 0, 64⟩
/-- 13_queues_and_scheduling.md, Table QUE-11. -/
def LIST1_ADDR : Reg := ⟨0x00300210, 16, 0x40, 1, 0, .none,
  [⟨0, 64, .rw, 0⟩]⟩
def LIST1_ADDR.ADDR : Field := ⟨LIST1_ADDR, 0, 64⟩
/-- 13_queues_and_scheduling.md, Table QUE-11. -/
def BASE_TIME : Reg := ⟨0x00300218, 16, 0x40, 1, 0, .none,
  [⟨0, 64, .rw, 0⟩]⟩
def BASE_TIME.TIME : Field := ⟨BASE_TIME, 0, 64⟩
/-- 13_queues_and_scheduling.md, Table QUE-11. -/
def GATE_OPEN0 : Reg := ⟨0x00300220, 16, 0x40, 1, 0, .none,
  [⟨0, 64, .ro, 0xFFFFFFFFFFFFFFFF⟩]⟩
def GATE_OPEN0.OPEN : Field := ⟨GATE_OPEN0, 0, 64⟩
/-- 13_queues_and_scheduling.md, Table QUE-11. -/
def GATE_OPEN1 : Reg := ⟨0x00300228, 16, 0x40, 1, 0, .none,
  [⟨0, 16, .ro, 0xFFFF⟩]⟩
def GATE_OPEN1.OPEN : Field := ⟨GATE_OPEN1, 0, 16⟩
/-- 13_queues_and_scheduling.md, Table QUE-11. -/
def PORT_VT : Reg := ⟨0x00300230, 16, 0x40, 1, 0, .none,
  [⟨0, 64, .ro, 0⟩]⟩
def PORT_VT.VT : Field := ⟨PORT_VT, 0, 64⟩
/-- 13_queues_and_scheduling.md, Table QUE-11. -/
def TENANT_CFG : Reg := ⟨0x00301000, 256, 0x10, 1, 0, .none,
  [⟨0, 16, .rw, 1⟩, ⟨16, 1, .rw, 0⟩, ⟨24, 24, .rw, 0⟩]⟩
def TENANT_CFG.WEIGHT : Field := ⟨TENANT_CFG, 0, 16⟩
def TENANT_CFG.SHAPE_EN : Field := ⟨TENANT_CFG, 16, 1⟩
def TENANT_CFG.RATE : Field := ⟨TENANT_CFG, 24, 24⟩
/-- 13_queues_and_scheduling.md, Table QUE-11. -/
def TENANT_BURST : Reg := ⟨0x00301008, 256, 0x10, 1, 0, .none,
  [⟨0, 32, .rw, 0x10000⟩, ⟨32, 32, .ro, 0x10000⟩]⟩
def TENANT_BURST.BURST : Field := ⟨TENANT_BURST, 0, 32⟩
def TENANT_BURST.TOKENS : Field := ⟨TENANT_BURST, 32, 32⟩
/-- 13_queues_and_scheduling.md, Table QUE-11. -/
def LQ_CFG : Reg := ⟨0x00304000, 2064, 0x10, 1, 0, .none,
  [⟨0, 16, .rw, 1⟩, ⟨16, 1, .rw, 0⟩, ⟨24, 24, .rw, 0⟩]⟩
def LQ_CFG.WEIGHT : Field := ⟨LQ_CFG, 0, 16⟩
def LQ_CFG.SHAPE_EN : Field := ⟨LQ_CFG, 16, 1⟩
def LQ_CFG.RATE : Field := ⟨LQ_CFG, 24, 24⟩
/-- 13_queues_and_scheduling.md, Table QUE-11. -/
def LQ_BURST : Reg := ⟨0x00304008, 2064, 0x10, 1, 0, .none,
  [⟨0, 32, .rw, 0x10000⟩, ⟨32, 32, .ro, 0x10000⟩]⟩
def LQ_BURST.BURST : Field := ⟨LQ_BURST, 0, 32⟩
def LQ_BURST.TOKENS : Field := ⟨LQ_BURST, 32, 32⟩
/-- 13_queues_and_scheduling.md, Table QUE-11. -/
def POL_CFG : Reg := ⟨0x00310020, 1023, 0x20, 1, 0, .none,
  [⟨0, 2, .rw, 0⟩, ⟨2, 1, .rw, 0⟩, ⟨3, 1, .rw, 0⟩, ⟨4, 1, .rw, 1⟩, ⟨8, 24, .rw, 0⟩, ⟨32, 24, .rw, 0⟩]⟩
def POL_CFG.MODE : Field := ⟨POL_CFG, 0, 2⟩
def POL_CFG.AWARE : Field := ⟨POL_CFG, 2, 1⟩
def POL_CFG.YELLOW_REFUSE : Field := ⟨POL_CFG, 3, 1⟩
def POL_CFG.RED_REFUSE : Field := ⟨POL_CFG, 4, 1⟩
def POL_CFG.CIR : Field := ⟨POL_CFG, 8, 24⟩
def POL_CFG.PIR : Field := ⟨POL_CFG, 32, 24⟩
/-- 13_queues_and_scheduling.md, Table QUE-11. -/
def POL_BURST : Reg := ⟨0x00310028, 1023, 0x20, 1, 0, .none,
  [⟨0, 32, .rw, 0⟩, ⟨32, 32, .rw, 0⟩]⟩
def POL_BURST.CBS : Field := ⟨POL_BURST, 0, 32⟩
def POL_BURST.EBS_PBS : Field := ⟨POL_BURST, 32, 32⟩
/-- 13_queues_and_scheduling.md, Table QUE-11. -/
def POL_COUNT : Reg := ⟨0x00310030, 1023, 0x20, 1, 0, .none,
  [⟨0, 32, .rc, 0⟩, ⟨32, 32, .rc, 0⟩]⟩
def POL_COUNT.YELLOW : Field := ⟨POL_COUNT, 0, 32⟩
def POL_COUNT.RED : Field := ⟨POL_COUNT, 32, 32⟩
/-- 13_queues_and_scheduling.md, Table QUE-11. -/
def POL_GREEN : Reg := ⟨0x00310038, 1023, 0x20, 1, 0, .none,
  [⟨0, 64, .ro, 0⟩]⟩
def POL_GREEN.GREEN : Field := ⟨POL_GREEN, 0, 64⟩
/-- 12_memory_and_skeins.md, Table MEM-8. -/
def SKEIN_CTRL : Reg := ⟨0x00400000, 1, 0, 1, 0, .none,
  [⟨0, 1, .rw, 0⟩, ⟨1, 5, .rwl, 0⟩]⟩
def SKEIN_CTRL.ENABLE : Field := ⟨SKEIN_CTRL, 0, 1⟩
def SKEIN_CTRL.POOL_EN : Field := ⟨SKEIN_CTRL, 1, 5⟩
/-- 12_memory_and_skeins.md, Table MEM-8. -/
def SKEIN_STATUS : Reg := ⟨0x00400008, 1, 0, 1, 0, .none,
  [⟨0, 1, .ro, 0⟩, ⟨16, 16, .ro, 0⟩]⟩
def SKEIN_STATUS.READY : Field := ⟨SKEIN_STATUS, 0, 1⟩
def SKEIN_STATUS.CONFIG_REASON : Field := ⟨SKEIN_STATUS, 16, 16⟩
/-- 12_memory_and_skeins.md, Table MEM-8. -/
def SKEIN_ERR_LOG : Reg := ⟨0x00400010, 1, 0, 1, 0, .none,
  [⟨0, 16, .ro, 0⟩, ⟨16, 6, .ro, 0⟩, ⟨22, 13, .ro, 0⟩]⟩
def SKEIN_ERR_LOG.REASON : Field := ⟨SKEIN_ERR_LOG, 0, 16⟩
def SKEIN_ERR_LOG.CLASS : Field := ⟨SKEIN_ERR_LOG, 16, 6⟩
def SKEIN_ERR_LOG.QUEUE : Field := ⟨SKEIN_ERR_LOG, 22, 13⟩
/-- 12_memory_and_skeins.md, Table MEM-8. -/
def SKEIN_ERR_HANDLE : Reg := ⟨0x00400018, 1, 0, 1, 0, .none,
  [⟨0, 32, .ro, 0⟩]⟩
def SKEIN_ERR_HANDLE.HANDLE : Field := ⟨SKEIN_ERR_HANDLE, 0, 32⟩
/-- 12_memory_and_skeins.md, Table MEM-8. -/
def SKEIN_COUNT : Reg := ⟨0x00400020, 1, 0, 1, 0, .none,
  [⟨0, 32, .rc, 0⟩, ⟨32, 16, .rc, 0⟩, ⟨48, 16, .rc, 0⟩]⟩
def SKEIN_COUNT.WAITS : Field := ⟨SKEIN_COUNT, 0, 32⟩
def SKEIN_COUNT.REFUSED : Field := ⟨SKEIN_COUNT, 32, 16⟩
def SKEIN_COUNT.VIOLATIONS : Field := ⟨SKEIN_COUNT, 48, 16⟩
/-- 12_memory_and_skeins.md, Table MEM-8. -/
def SKEIN_INT_ENABLE : Reg := ⟨0x004000A8, 1, 0, 1, 0, .none,
  [⟨0, 1, .rw, 0⟩, ⟨1, 1, .rw, 0⟩, ⟨2, 1, .rw, 0⟩, ⟨3, 1, .rw, 0⟩]⟩
def SKEIN_INT_ENABLE.CONFIG_REFUSED : Field := ⟨SKEIN_INT_ENABLE, 0, 1⟩
def SKEIN_INT_ENABLE.VIOLATION : Field := ⟨SKEIN_INT_ENABLE, 1, 1⟩
def SKEIN_INT_ENABLE.EXHAUSTED : Field := ⟨SKEIN_INT_ENABLE, 2, 1⟩
def SKEIN_INT_ENABLE.UNIT_FAULT : Field := ⟨SKEIN_INT_ENABLE, 3, 1⟩
/-- 12_memory_and_skeins.md, Table MEM-8. -/
def SKEIN_INT_STATUS : Reg := ⟨0x004000B0, 1, 0, 1, 0, .none,
  [⟨0, 1, .w1c, 0⟩, ⟨1, 1, .w1c, 0⟩, ⟨2, 1, .w1c, 0⟩, ⟨3, 1, .w1c, 0⟩]⟩
def SKEIN_INT_STATUS.CONFIG_REFUSED : Field := ⟨SKEIN_INT_STATUS, 0, 1⟩
def SKEIN_INT_STATUS.VIOLATION : Field := ⟨SKEIN_INT_STATUS, 1, 1⟩
def SKEIN_INT_STATUS.EXHAUSTED : Field := ⟨SKEIN_INT_STATUS, 2, 1⟩
def SKEIN_INT_STATUS.UNIT_FAULT : Field := ⟨SKEIN_INT_STATUS, 3, 1⟩
/-- 12_memory_and_skeins.md, Table MEM-8. -/
def POOL_BASE : Reg := ⟨0x00400100, 5, 0x20, 1, 0, .none,
  [⟨6, 58, .rwl, 0⟩]⟩
def POOL_BASE.ADDR : Field := ⟨POOL_BASE, 6, 58⟩
/-- 12_memory_and_skeins.md, Table MEM-8. -/
def POOL_CFG : Reg := ⟨0x00400108, 5, 0x20, 1, 0, .none,
  [⟨0, 24, .rwl, 0⟩]⟩
def POOL_CFG.COUNT : Field := ⟨POOL_CFG, 0, 24⟩
/-- 12_memory_and_skeins.md, Table MEM-8. -/
def POOL_RING : Reg := ⟨0x00400110, 5, 0x20, 1, 0, .none,
  [⟨6, 58, .rwl, 0⟩]⟩
def POOL_RING.ADDR : Field := ⟨POOL_RING, 6, 58⟩
/-- 12_memory_and_skeins.md, Table MEM-8. -/
def POOL_REC : Reg := ⟨0x00400118, 5, 0x20, 1, 0, .none,
  [⟨6, 58, .rwl, 0⟩]⟩
def POOL_REC.ADDR : Field := ⟨POOL_REC, 6, 58⟩
/-- 12_memory_and_skeins.md, Table MEM-8. -/
def POOL_STATUS : Reg := ⟨0x00400200, 5, 8, 1, 0, .none,
  [⟨0, 24, .ro, 0⟩, ⟨24, 24, .rc, 0⟩, ⟨48, 16, .ro, 0⟩]⟩
def POOL_STATUS.FREE : Field := ⟨POOL_STATUS, 0, 24⟩
def POOL_STATUS.LOW : Field := ⟨POOL_STATUS, 24, 24⟩
def POOL_STATUS.QUARANTINED : Field := ⟨POOL_STATUS, 48, 16⟩
/-- 12_memory_and_skeins.md, Table MEM-8. -/
def CLASS_QUOTA : Reg := ⟨0x00401000, 64, 0x40, 5, 8, .none,
  [⟨0, 24, .rwl, 0⟩, ⟨24, 24, .rwl, 0⟩]⟩
def CLASS_QUOTA.MIN : Field := ⟨CLASS_QUOTA, 0, 24⟩
def CLASS_QUOTA.MAX : Field := ⟨CLASS_QUOTA, 24, 24⟩
/-- 12_memory_and_skeins.md, Table MEM-8. -/
def CLASS_USE : Reg := ⟨0x00403000, 64, 0x40, 5, 8, .none,
  [⟨0, 24, .ro, 0⟩, ⟨24, 24, .rc, 0⟩]⟩
def CLASS_USE.USE : Field := ⟨CLASS_USE, 0, 24⟩
def CLASS_USE.PEAK : Field := ⟨CLASS_USE, 24, 24⟩
/-- 12_memory_and_skeins.md, Table MEM-10. -/
def MEM_CTRL : Reg := ⟨0x00500000, 1, 0, 1, 0, .none,
  [⟨0, 1, .rw, 0⟩, ⟨1, 1, .rw, 1⟩, ⟨2, 1, .rw, 1⟩]⟩
def MEM_CTRL.ENABLE : Field := ⟨MEM_CTRL, 0, 1⟩
def MEM_CTRL.SRAM_SCRUB_EN : Field := ⟨MEM_CTRL, 1, 1⟩
def MEM_CTRL.LPDDR_SCRUB_EN : Field := ⟨MEM_CTRL, 2, 1⟩
/-- 12_memory_and_skeins.md, Table MEM-10. -/
def MEM_STATUS : Reg := ⟨0x00500008, 1, 0, 1, 0, .none,
  [⟨0, 1, .ro, 0⟩, ⟨1, 1, .ro, 0⟩, ⟨2, 1, .ro, 0⟩, ⟨16, 16, .ro, 0⟩]⟩
def MEM_STATUS.READY : Field := ⟨MEM_STATUS, 0, 1⟩
def MEM_STATUS.REFRESH_2X : Field := ⟨MEM_STATUS, 1, 1⟩
def MEM_STATUS.THROTTLE : Field := ⟨MEM_STATUS, 2, 1⟩
def MEM_STATUS.CONFIG_REASON : Field := ⟨MEM_STATUS, 16, 16⟩
/-- 12_memory_and_skeins.md, Table MEM-10. -/
def MEM_CAP : Reg := ⟨0x00500010, 1, 0, 1, 0, .none,
  [⟨0, 8, .ro, 8⟩, ⟨8, 11, .ro, 0x540⟩, ⟨24, 8, .ro, 0x80⟩]⟩
def MEM_CAP.SRAM_GIB : Field := ⟨MEM_CAP, 0, 8⟩
def MEM_CAP.USABLE_GIB : Field := ⟨MEM_CAP, 8, 11⟩
def MEM_CAP.CHANNELS : Field := ⟨MEM_CAP, 24, 8⟩
/-- 12_memory_and_skeins.md, Table MEM-10. -/
def MEM_SRAM_CFG : Reg := ⟨0x00500018, 1, 0, 1, 0, .none,
  [⟨0, 12, .rwl, 0x200⟩]⟩
def MEM_SRAM_CFG.TABLE_MIB : Field := ⟨MEM_SRAM_CFG, 0, 12⟩
/-- 12_memory_and_skeins.md, Table MEM-10. -/
def MEM_REGION0 : Reg := ⟨0x00500020, 1, 0, 1, 0, .none,
  [⟨0, 16, .rwl, 0x140⟩, ⟨16, 16, .rwl, 0x20⟩]⟩
def MEM_REGION0.RETAIN_GIB : Field := ⟨MEM_REGION0, 0, 16⟩
def MEM_REGION0.SPILL_GIB : Field := ⟨MEM_REGION0, 16, 16⟩
/-- 12_memory_and_skeins.md, Table MEM-10. -/
def MEM_REGION1 : Reg := ⟨0x00500028, 1, 0, 1, 0, .none,
  [⟨0, 16, .rwl, 0x300⟩, ⟨16, 16, .rwl, 0xE0⟩]⟩
def MEM_REGION1.OPT_GIB : Field := ⟨MEM_REGION1, 0, 16⟩
def MEM_REGION1.RESID_GIB : Field := ⟨MEM_REGION1, 16, 16⟩
/-- 12_memory_and_skeins.md, Table MEM-10. -/
def MEM_SCRUB : Reg := ⟨0x00500030, 1, 0, 1, 0, .none,
  [⟨0, 12, .rw, 0x3C⟩, ⟨16, 8, .rw, 0x18⟩, ⟨24, 8, .rw, 0x10⟩]⟩
def MEM_SCRUB.SRAM_PERIOD_S : Field := ⟨MEM_SCRUB, 0, 12⟩
def MEM_SCRUB.LPDDR_PERIOD_H : Field := ⟨MEM_SCRUB, 16, 8⟩
def MEM_SCRUB.CE_LIMIT : Field := ⟨MEM_SCRUB, 24, 8⟩
/-- 12_memory_and_skeins.md, Table MEM-10. -/
def MEM_ERR_LOG : Reg := ⟨0x00500080, 1, 0, 1, 0, .none,
  [⟨0, 16, .ro, 0⟩, ⟨16, 6, .ro, 0⟩, ⟨22, 5, .ro, 0⟩, ⟨27, 1, .ro, 0⟩, ⟨28, 7, .ro, 0⟩, ⟨35, 13, .ro, 0⟩]⟩
def MEM_ERR_LOG.REASON : Field := ⟨MEM_ERR_LOG, 0, 16⟩
def MEM_ERR_LOG.CLASS : Field := ⟨MEM_ERR_LOG, 16, 6⟩
def MEM_ERR_LOG.BLOCK : Field := ⟨MEM_ERR_LOG, 22, 5⟩
def MEM_ERR_LOG.WRITE : Field := ⟨MEM_ERR_LOG, 27, 1⟩
def MEM_ERR_LOG.CHANNEL : Field := ⟨MEM_ERR_LOG, 28, 7⟩
def MEM_ERR_LOG.QUEUE : Field := ⟨MEM_ERR_LOG, 35, 13⟩
/-- 12_memory_and_skeins.md, Table MEM-10. -/
def MEM_ERR_ADDR : Reg := ⟨0x00500088, 1, 0, 1, 0, .none,
  [⟨0, 64, .ro, 0⟩]⟩
def MEM_ERR_ADDR.ADDR : Field := ⟨MEM_ERR_ADDR, 0, 64⟩
/-- 12_memory_and_skeins.md, Table MEM-10. -/
def MEM_ECC_COUNT : Reg := ⟨0x00500090, 1, 0, 1, 0, .none,
  [⟨0, 16, .rc, 0⟩, ⟨16, 16, .rc, 0⟩, ⟨32, 16, .rc, 0⟩, ⟨48, 16, .rc, 0⟩]⟩
def MEM_ECC_COUNT.SRAM_CE : Field := ⟨MEM_ECC_COUNT, 0, 16⟩
def MEM_ECC_COUNT.SRAM_UE : Field := ⟨MEM_ECC_COUNT, 16, 16⟩
def MEM_ECC_COUNT.LPDDR_CE : Field := ⟨MEM_ECC_COUNT, 32, 16⟩
def MEM_ECC_COUNT.LPDDR_UE : Field := ⟨MEM_ECC_COUNT, 48, 16⟩
/-- 12_memory_and_skeins.md, Table MEM-10. -/
def MEM_REPAIR : Reg := ⟨0x00500098, 1, 0, 1, 0, .none,
  [⟨0, 16, .ro, 0⟩, ⟨16, 16, .ro, 0⟩, ⟨32, 16, .ro, 0⟩]⟩
def MEM_REPAIR.LPDDR_PENDING : Field := ⟨MEM_REPAIR, 0, 16⟩
def MEM_REPAIR.SRAM_PENDING : Field := ⟨MEM_REPAIR, 16, 16⟩
def MEM_REPAIR.SRAM_SPARE_FREE : Field := ⟨MEM_REPAIR, 32, 16⟩
/-- 12_memory_and_skeins.md, Table MEM-10. -/
def MEM_INT_ENABLE : Reg := ⟨0x005000A8, 1, 0, 1, 0, .none,
  [⟨0, 1, .rw, 0⟩, ⟨1, 1, .rw, 0⟩, ⟨2, 1, .rw, 0⟩, ⟨3, 1, .rw, 0⟩, ⟨4, 1, .rw, 0⟩, ⟨5, 1, .rw, 0⟩]⟩
def MEM_INT_ENABLE.CONFIG_REFUSED : Field := ⟨MEM_INT_ENABLE, 0, 1⟩
def MEM_INT_ENABLE.VIOLATION : Field := ⟨MEM_INT_ENABLE, 1, 1⟩
def MEM_INT_ENABLE.UNCORRECTABLE : Field := ⟨MEM_INT_ENABLE, 2, 1⟩
def MEM_INT_ENABLE.REPAIR : Field := ⟨MEM_INT_ENABLE, 3, 1⟩
def MEM_INT_ENABLE.THERMAL : Field := ⟨MEM_INT_ENABLE, 4, 1⟩
def MEM_INT_ENABLE.UNIT_FAULT : Field := ⟨MEM_INT_ENABLE, 5, 1⟩
/-- 12_memory_and_skeins.md, Table MEM-10. -/
def MEM_INT_STATUS : Reg := ⟨0x005000B0, 1, 0, 1, 0, .none,
  [⟨0, 1, .w1c, 0⟩, ⟨1, 1, .w1c, 0⟩, ⟨2, 1, .w1c, 0⟩, ⟨3, 1, .w1c, 0⟩, ⟨4, 1, .w1c, 0⟩, ⟨5, 1, .w1c, 0⟩]⟩
def MEM_INT_STATUS.CONFIG_REFUSED : Field := ⟨MEM_INT_STATUS, 0, 1⟩
def MEM_INT_STATUS.VIOLATION : Field := ⟨MEM_INT_STATUS, 1, 1⟩
def MEM_INT_STATUS.UNCORRECTABLE : Field := ⟨MEM_INT_STATUS, 2, 1⟩
def MEM_INT_STATUS.REPAIR : Field := ⟨MEM_INT_STATUS, 3, 1⟩
def MEM_INT_STATUS.THERMAL : Field := ⟨MEM_INT_STATUS, 4, 1⟩
def MEM_INT_STATUS.UNIT_FAULT : Field := ⟨MEM_INT_STATUS, 5, 1⟩
/-- 12_memory_and_skeins.md, Table MEM-10. -/
def MEM_CLASS : Reg := ⟨0x00501000, 64, 8, 1, 0, .memClass,
  [⟨0, 8, .roLow, 0⟩, ⟨8, 8, .roLow, 0⟩, ⟨16, 18, .roLow, 0⟩, ⟨34, 1, .roLow, 0⟩, ⟨35, 2, .roLow, 0⟩, ⟨37, 1, .rwl, 0⟩]⟩
def MEM_CLASS.READ_MASK : Field := ⟨MEM_CLASS, 0, 8⟩
def MEM_CLASS.WRITE_MASK : Field := ⟨MEM_CLASS, 8, 8⟩
def MEM_CLASS.ENGINE_MASK : Field := ⟨MEM_CLASS, 16, 18⟩
def MEM_CLASS.KEY_OPS : Field := ⟨MEM_CLASS, 34, 1⟩
def MEM_CLASS.PRIV : Field := ⟨MEM_CLASS, 35, 2⟩
def MEM_CLASS.SPILL_UP : Field := ⟨MEM_CLASS, 37, 1⟩
/-- 12_memory_and_skeins.md, Table MEM-10. -/
def MEM_DEV : Reg := ⟨0x00502000, 16, 8, 1, 0, .none,
  [⟨0, 16, .ro, 0⟩, ⟨16, 16, .rc, 0⟩, ⟨32, 16, .rc, 0⟩, ⟨48, 8, .ro, 0⟩, ⟨56, 1, .ro, 0⟩, ⟨57, 1, .ro, 0⟩]⟩
def MEM_DEV.TEMP : Field := ⟨MEM_DEV, 0, 16⟩
def MEM_DEV.CE : Field := ⟨MEM_DEV, 16, 16⟩
def MEM_DEV.UE : Field := ⟨MEM_DEV, 32, 16⟩
def MEM_DEV.PENDING : Field := ⟨MEM_DEV, 48, 8⟩
def MEM_DEV.REFRESH_2X : Field := ⟨MEM_DEV, 56, 1⟩
def MEM_DEV.THROTTLE : Field := ⟨MEM_DEV, 57, 1⟩
/-- 10_fabric.md, Table FAB-10. -/
def FAB_CTRL : Reg := ⟨0x00600000, 1, 0, 1, 0, .none,
  [⟨0, 1, .rw, 0⟩, ⟨32, 32, .rwl, 0xFFFFFFFF⟩]⟩
def FAB_CTRL.ENABLE : Field := ⟨FAB_CTRL, 0, 1⟩
def FAB_CTRL.LINK_EN : Field := ⟨FAB_CTRL, 32, 32⟩
/-- 10_fabric.md, Table FAB-10. -/
def FAB_STATUS : Reg := ⟨0x00600008, 1, 0, 1, 0, .none,
  [⟨0, 1, .ro, 0⟩, ⟨1, 1, .ro, 0⟩, ⟨16, 16, .ro, 0⟩, ⟨32, 32, .ro, 0⟩]⟩
def FAB_STATUS.READY : Field := ⟨FAB_STATUS, 0, 1⟩
def FAB_STATUS.DRAINING : Field := ⟨FAB_STATUS, 1, 1⟩
def FAB_STATUS.CONFIG_REASON : Field := ⟨FAB_STATUS, 16, 16⟩
def FAB_STATUS.LINK_UP : Field := ⟨FAB_STATUS, 32, 32⟩
/-- 10_fabric.md, Table FAB-10. -/
def FAB_CAP : Reg := ⟨0x00600010, 1, 0, 1, 0, .none,
  [⟨0, 6, .ro, 0x20⟩, ⟨8, 9, .ro, 0x100⟩, ⟨24, 19, .ro, 0x40000⟩, ⟨43, 13, .ro, 0x1000⟩]⟩
def FAB_CAP.LINKS : Field := ⟨FAB_CAP, 0, 6⟩
def FAB_CAP.LANES : Field := ⟨FAB_CAP, 8, 9⟩
def FAB_CAP.EPT_ENTRIES : Field := ⟨FAB_CAP, 24, 19⟩
def FAB_CAP.CIRCUITS : Field := ⟨FAB_CAP, 43, 13⟩
/-- 10_fabric.md, Table FAB-10. -/
def FAB_LOCAL_EP : Reg := ⟨0x00600018, 1, 0, 1, 0, .none,
  [⟨0, 24, .rwl, 0⟩, ⟨32, 9, .rwl, 1⟩]⟩
def FAB_LOCAL_EP.BASE : Field := ⟨FAB_LOCAL_EP, 0, 24⟩
def FAB_LOCAL_EP.COUNT : Field := ⟨FAB_LOCAL_EP, 32, 9⟩
/-- 10_fabric.md, Table FAB-11. -/
def FAB_EPT_BASE : Reg := ⟨0x00600020, 1, 0, 1, 0, .none,
  [⟨6, 58, .rwl, 0⟩]⟩
def FAB_EPT_BASE.ADDR : Field := ⟨FAB_EPT_BASE, 6, 58⟩
/-- 10_fabric.md, Table FAB-11. -/
def FAB_RT_BASE : Reg := ⟨0x00600028, 1, 0, 1, 0, .none,
  [⟨6, 58, .rwl, 0⟩]⟩
def FAB_RT_BASE.ADDR : Field := ⟨FAB_RT_BASE, 6, 58⟩
/-- 10_fabric.md, Table FAB-11. -/
def FAB_CIRC_BASE : Reg := ⟨0x00600030, 1, 0, 1, 0, .none,
  [⟨6, 58, .rwl, 0⟩]⟩
def FAB_CIRC_BASE.ADDR : Field := ⟨FAB_CIRC_BASE, 6, 58⟩
/-- 10_fabric.md, Table FAB-11. -/
def FAB_INGEST_BASE : Reg := ⟨0x00600038, 1, 0, 1, 0, .none,
  [⟨6, 58, .rwl, 0⟩]⟩
def FAB_INGEST_BASE.ADDR : Field := ⟨FAB_INGEST_BASE, 6, 58⟩
/-- 10_fabric.md, Table FAB-11. -/
def FAB_FLOW_BASE : Reg := ⟨0x00600040, 1, 0, 1, 0, .none,
  [⟨6, 58, .rwl, 0⟩]⟩
def FAB_FLOW_BASE.ADDR : Field := ⟨FAB_FLOW_BASE, 6, 58⟩
/-- 10_fabric.md, Table FAB-12. -/
def FAB_EPOCH : Reg := ⟨0x00600048, 1, 0, 1, 0, .none,
  [⟨0, 2, .ro, 0⟩, ⟨2, 1, .w1s, 0⟩, ⟨3, 1, .ro, 0⟩]⟩
def FAB_EPOCH.EPOCH : Field := ⟨FAB_EPOCH, 0, 2⟩
def FAB_EPOCH.ARM : Field := ⟨FAB_EPOCH, 2, 1⟩
def FAB_EPOCH.STANDBY_READY : Field := ⟨FAB_EPOCH, 3, 1⟩
/-- 10_fabric.md, Table FAB-12. -/
def FAB_DRAIN : Reg := ⟨0x00600050, 1, 0, 1, 0, .none,
  [⟨0, 16, .rw, 0x3E8⟩, ⟨16, 32, .ro, 0⟩]⟩
def FAB_DRAIN.DRAIN_TIMEOUT_US : Field := ⟨FAB_DRAIN, 0, 16⟩
def FAB_DRAIN.OUTSTANDING : Field := ⟨FAB_DRAIN, 16, 32⟩
/-- 10_fabric.md, Table FAB-12. -/
def FAB_LINK_CFG : Reg := ⟨0x00600058, 1, 0, 1, 0, .none,
  [⟨0, 4, .rwl, 4⟩, ⟨4, 7, .rwl, 0x5A⟩, ⟨16, 16, .rw, 0x32⟩, ⟨32, 13, .rwl, 0x100⟩]⟩
def FAB_LINK_CFG.MIN_WIDTH : Field := ⟨FAB_LINK_CFG, 0, 4⟩
def FAB_LINK_CFG.RESERVE_MAX_PCT : Field := ⟨FAB_LINK_CFG, 4, 7⟩
def FAB_LINK_CFG.E2E_TIMEOUT_US : Field := ⟨FAB_LINK_CFG, 16, 16⟩
def FAB_LINK_CFG.REORDER_KIB : Field := ⟨FAB_LINK_CFG, 32, 13⟩
/-- 10_fabric.md, Table FAB-12. -/
def FAB_VC_CREDITS : Reg := ⟨0x00600060, 1, 0, 1, 0, .none,
  [⟨0, 12, .rwl, 0x400⟩, ⟨12, 12, .rwl, 0x100⟩, ⟨24, 12, .rwl, 0x400⟩, ⟨36, 12, .rwl, 0x600⟩, ⟨48, 12, .rwl, 0x100⟩]⟩
def FAB_VC_CREDITS.REQ : Field := ⟨FAB_VC_CREDITS, 0, 12⟩
def FAB_VC_CREDITS.FWD : Field := ⟨FAB_VC_CREDITS, 12, 12⟩
def FAB_VC_CREDITS.REPLY : Field := ⟨FAB_VC_CREDITS, 24, 12⟩
def FAB_VC_CREDITS.COLL : Field := ⟨FAB_VC_CREDITS, 36, 12⟩
def FAB_VC_CREDITS.MGMT : Field := ⟨FAB_VC_CREDITS, 48, 12⟩
/-- 10_fabric.md, Table FAB-13. -/
def FAB_ERR_LOG : Reg := ⟨0x00600080, 1, 0, 1, 0, .none,
  [⟨0, 16, .ro, 0⟩, ⟨16, 24, .ro, 0⟩, ⟨40, 5, .ro, 0⟩, ⟨45, 3, .ro, 0⟩, ⟨48, 8, .ro, 0⟩]⟩
def FAB_ERR_LOG.REASON : Field := ⟨FAB_ERR_LOG, 0, 16⟩
def FAB_ERR_LOG.ENDPOINT : Field := ⟨FAB_ERR_LOG, 16, 24⟩
def FAB_ERR_LOG.LINK : Field := ⟨FAB_ERR_LOG, 40, 5⟩
def FAB_ERR_LOG.CLASS : Field := ⟨FAB_ERR_LOG, 45, 3⟩
def FAB_ERR_LOG.TENANT_ID : Field := ⟨FAB_ERR_LOG, 48, 8⟩
/-- 10_fabric.md, Table FAB-13. -/
def FAB_ERR_ADDR : Reg := ⟨0x00600088, 1, 0, 1, 0, .none,
  [⟨0, 64, .ro, 0⟩]⟩
def FAB_ERR_ADDR.ADDR : Field := ⟨FAB_ERR_ADDR, 0, 64⟩
/-- 10_fabric.md, Table FAB-13. -/
def FAB_DROP_COUNT : Reg := ⟨0x00600090, 1, 0, 1, 0, .none,
  [⟨0, 16, .rc, 0⟩, ⟨16, 16, .rc, 0⟩, ⟨32, 16, .rc, 0⟩, ⟨48, 16, .rc, 0⟩]⟩
def FAB_DROP_COUNT.HDR : Field := ⟨FAB_DROP_COUNT, 0, 16⟩
def FAB_DROP_COUNT.PAYLOAD : Field := ⟨FAB_DROP_COUNT, 16, 16⟩
def FAB_DROP_COUNT.REFUSED : Field := ⟨FAB_DROP_COUNT, 32, 16⟩
def FAB_DROP_COUNT.OTHER : Field := ⟨FAB_DROP_COUNT, 48, 16⟩
/-- 10_fabric.md, Table FAB-13. -/
def FAB_RETX_COUNT : Reg := ⟨0x00600098, 1, 0, 1, 0, .none,
  [⟨0, 32, .rc, 0⟩, ⟨32, 32, .rc, 0⟩]⟩
def FAB_RETX_COUNT.RETX : Field := ⟨FAB_RETX_COUNT, 0, 32⟩
def FAB_RETX_COUNT.NACK : Field := ⟨FAB_RETX_COUNT, 32, 32⟩
/-- 10_fabric.md, Table FAB-14. -/
def FAB_INT_ENABLE : Reg := ⟨0x006000A8, 1, 0, 1, 0, .none,
  [⟨0, 1, .rw, 0⟩, ⟨1, 1, .rw, 0⟩, ⟨2, 1, .rw, 0⟩, ⟨3, 1, .rw, 0⟩, ⟨4, 1, .rw, 0⟩, ⟨5, 1, .rw, 0⟩, ⟨6, 1, .rw, 0⟩, ⟨7, 1, .rw, 0⟩, ⟨8, 1, .rw, 0⟩, ⟨9, 1, .rw, 0⟩]⟩
def FAB_INT_ENABLE.CONFIG_REFUSED : Field := ⟨FAB_INT_ENABLE, 0, 1⟩
def FAB_INT_ENABLE.VIOLATION : Field := ⟨FAB_INT_ENABLE, 1, 1⟩
def FAB_INT_ENABLE.EPOCH_DONE : Field := ⟨FAB_INT_ENABLE, 2, 1⟩
def FAB_INT_ENABLE.DRAIN_TIMEOUT : Field := ⟨FAB_INT_ENABLE, 3, 1⟩
def FAB_INT_ENABLE.WIDTH : Field := ⟨FAB_INT_ENABLE, 4, 1⟩
def FAB_INT_ENABLE.LINK_OUT : Field := ⟨FAB_INT_ENABLE, 5, 1⟩
def FAB_INT_ENABLE.CIRCUIT : Field := ⟨FAB_INT_ENABLE, 6, 1⟩
def FAB_INT_ENABLE.UNIT_FAULT : Field := ⟨FAB_INT_ENABLE, 7, 1⟩
def FAB_INT_ENABLE.UNREACHABLE : Field := ⟨FAB_INT_ENABLE, 8, 1⟩
def FAB_INT_ENABLE.CREDIT : Field := ⟨FAB_INT_ENABLE, 9, 1⟩
/-- 10_fabric.md, Table FAB-14. -/
def FAB_INT_STATUS : Reg := ⟨0x006000B0, 1, 0, 1, 0, .none,
  [⟨0, 1, .w1c, 0⟩, ⟨1, 1, .w1c, 0⟩, ⟨2, 1, .w1c, 0⟩, ⟨3, 1, .w1c, 0⟩, ⟨4, 1, .w1c, 0⟩, ⟨5, 1, .w1c, 0⟩, ⟨6, 1, .w1c, 0⟩, ⟨7, 1, .w1c, 0⟩, ⟨8, 1, .w1c, 0⟩, ⟨9, 1, .w1c, 0⟩]⟩
def FAB_INT_STATUS.CONFIG_REFUSED : Field := ⟨FAB_INT_STATUS, 0, 1⟩
def FAB_INT_STATUS.VIOLATION : Field := ⟨FAB_INT_STATUS, 1, 1⟩
def FAB_INT_STATUS.EPOCH_DONE : Field := ⟨FAB_INT_STATUS, 2, 1⟩
def FAB_INT_STATUS.DRAIN_TIMEOUT : Field := ⟨FAB_INT_STATUS, 3, 1⟩
def FAB_INT_STATUS.WIDTH : Field := ⟨FAB_INT_STATUS, 4, 1⟩
def FAB_INT_STATUS.LINK_OUT : Field := ⟨FAB_INT_STATUS, 5, 1⟩
def FAB_INT_STATUS.CIRCUIT : Field := ⟨FAB_INT_STATUS, 6, 1⟩
def FAB_INT_STATUS.UNIT_FAULT : Field := ⟨FAB_INT_STATUS, 7, 1⟩
def FAB_INT_STATUS.UNREACHABLE : Field := ⟨FAB_INT_STATUS, 8, 1⟩
def FAB_INT_STATUS.CREDIT : Field := ⟨FAB_INT_STATUS, 9, 1⟩
/-- 10_fabric.md, Table FAB-15. -/
def FAB_LINK_STATUS : Reg := ⟨0x00601000, 32, 0x10, 1, 0, .none,
  [⟨0, 4, .ro, 0⟩, ⟨4, 1, .ro, 0⟩, ⟨5, 1, .ro, 0⟩, ⟨8, 8, .ro, 0⟩, ⟨16, 13, .ro, 0⟩]⟩
def FAB_LINK_STATUS.WIDTH : Field := ⟨FAB_LINK_STATUS, 0, 4⟩
def FAB_LINK_STATUS.IN_SERVICE : Field := ⟨FAB_LINK_STATUS, 4, 1⟩
def FAB_LINK_STATUS.QUIET : Field := ⟨FAB_LINK_STATUS, 5, 1⟩
def FAB_LINK_STATUS.LANE_MASK : Field := ⟨FAB_LINK_STATUS, 8, 8⟩
def FAB_LINK_STATUS.RESERVED_GBPS : Field := ⟨FAB_LINK_STATUS, 16, 13⟩
/-- 10_fabric.md, Table FAB-15. -/
def FAB_LINK_COUNT : Reg := ⟨0x00601008, 32, 0x10, 1, 0, .none,
  [⟨0, 32, .rc, 0⟩, ⟨32, 32, .ro, 0⟩]⟩
def FAB_LINK_COUNT.CREDIT_STALL : Field := ⟨FAB_LINK_COUNT, 0, 32⟩
def FAB_LINK_COUNT.PACKETS : Field := ⟨FAB_LINK_COUNT, 32, 32⟩
/-- 11_photonics.md, Table PHO-7. -/
def PHO_CTRL : Reg := ⟨0x00700000, 1, 0, 1, 0, .none,
  [⟨0, 1, .rw, 0⟩, ⟨1, 1, .rw, 1⟩, ⟨2, 1, .rw, 1⟩, ⟨3, 1, .rw, 1⟩, ⟨4, 1, .rw, 0⟩]⟩
def PHO_CTRL.ENABLE : Field := ⟨PHO_CTRL, 0, 1⟩
def PHO_CTRL.CAL_EN : Field := ⟨PHO_CTRL, 1, 1⟩
def PHO_CTRL.FF_EN : Field := ⟨PHO_CTRL, 2, 1⟩
def PHO_CTRL.AUTO_HANDOVER : Field := ⟨PHO_CTRL, 3, 1⟩
def PHO_CTRL.SPARE_WARM : Field := ⟨PHO_CTRL, 4, 1⟩
/-- 11_photonics.md, Table PHO-7. -/
def PHO_STATUS : Reg := ⟨0x00700008, 1, 0, 1, 0, .none,
  [⟨0, 1, .ro, 0⟩, ⟨1, 1, .ro, 0⟩, ⟨2, 1, .ro, 0⟩, ⟨16, 16, .ro, 0⟩]⟩
def PHO_STATUS.READY : Field := ⟨PHO_STATUS, 0, 1⟩
def PHO_STATUS.STEERING : Field := ⟨PHO_STATUS, 1, 1⟩
def PHO_STATUS.HANDOVER : Field := ⟨PHO_STATUS, 2, 1⟩
def PHO_STATUS.CONFIG_REASON : Field := ⟨PHO_STATUS, 16, 16⟩
/-- 11_photonics.md, Table PHO-7. -/
def PHO_CAP : Reg := ⟨0x00700010, 1, 0, 1, 0, .none,
  [⟨0, 6, .ro, 0x21⟩, ⟨6, 4, .ro, 8⟩, ⟨10, 2, .ro, 3⟩, ⟨12, 7, .ro, 0x40⟩]⟩
def PHO_CAP.CONTROLLERS : Field := ⟨PHO_CAP, 0, 6⟩
def PHO_CAP.SOURCES : Field := ⟨PHO_CAP, 6, 4⟩
def PHO_CAP.SPARES_FREE : Field := ⟨PHO_CAP, 10, 2⟩
def PHO_CAP.SENSORS : Field := ⟨PHO_CAP, 12, 7⟩
/-- 11_photonics.md, Table PHO-8. -/
def PHO_LOCK : Reg := ⟨0x00700018, 1, 0, 1, 0, .none,
  [⟨0, 7, .rw, 0xA⟩]⟩
def PHO_LOCK.LOCK_INT_US : Field := ⟨PHO_LOCK, 0, 7⟩
/-- 11_photonics.md, Table PHO-8. -/
def PHO_CAL : Reg := ⟨0x00700020, 1, 0, 1, 0, .none,
  [⟨0, 16, .rw, 0xA⟩, ⟨16, 16, .rw, 0x7D0⟩]⟩
def PHO_CAL.CAL_STEP_S : Field := ⟨PHO_CAL, 0, 16⟩
def PHO_CAL.CAL_DWELL_US : Field := ⟨PHO_CAL, 16, 16⟩
/-- 11_photonics.md, Table PHO-8. -/
def PHO_TABLE_BASE : Reg := ⟨0x00700028, 1, 0, 1, 0, .none,
  [⟨6, 58, .rwl, 0⟩]⟩
def PHO_TABLE_BASE.ADDR : Field := ⟨PHO_TABLE_BASE, 6, 58⟩
/-- 11_photonics.md, Table PHO-8. -/
def PHO_TABLE_CMD : Reg := ⟨0x00700030, 1, 0, 1, 0, .none,
  [⟨0, 6, .wo, 0⟩, ⟨6, 1, .wo, 0⟩, ⟨7, 1, .wo, 0⟩]⟩
def PHO_TABLE_CMD.BANK : Field := ⟨PHO_TABLE_CMD, 0, 6⟩
def PHO_TABLE_CMD.RELOAD : Field := ⟨PHO_TABLE_CMD, 6, 1⟩
def PHO_TABLE_CMD.ALL : Field := ⟨PHO_TABLE_CMD, 7, 1⟩
/-- 11_photonics.md, Table PHO-9. -/
def PHO_STEER_CTRL : Reg := ⟨0x00700038, 1, 0, 1, 0, .none,
  [⟨0, 1, .ro, 0⟩, ⟨1, 1, .w1s, 0⟩]⟩
def PHO_STEER_CTRL.ACTIVE : Field := ⟨PHO_STEER_CTRL, 0, 1⟩
def PHO_STEER_CTRL.ARM : Field := ⟨PHO_STEER_CTRL, 1, 1⟩
/-- 11_photonics.md, Table PHO-9. -/
def PHO_LASER_CFG : Reg := ⟨0x00700040, 1, 0, 1, 0, .none,
  [⟨0, 16, .rw, 0xFF6A⟩, ⟨16, 16, .rw, 0xFF06⟩, ⟨32, 16, .rw, 0xFE70⟩, ⟨48, 16, .rw, 0x64⟩]⟩
def PHO_LASER_CFG.WARN_DB : Field := ⟨PHO_LASER_CFG, 0, 16⟩
def PHO_LASER_CFG.HANDOVER_DB : Field := ⟨PHO_LASER_CFG, 16, 16⟩
def PHO_LASER_CFG.FAIL_DB : Field := ⟨PHO_LASER_CFG, 32, 16⟩
def PHO_LASER_CFG.AVG_MS : Field := ⟨PHO_LASER_CFG, 48, 16⟩
/-- 11_photonics.md, Table PHO-9. -/
def PHO_HANDOVER : Reg := ⟨0x00700048, 1, 0, 1, 0, .none,
  [⟨0, 3, .wo, 0⟩, ⟨3, 1, .wo, 0⟩, ⟨8, 3, .ro, 0⟩]⟩
def PHO_HANDOVER.POSITION : Field := ⟨PHO_HANDOVER, 0, 3⟩
def PHO_HANDOVER.GO : Field := ⟨PHO_HANDOVER, 3, 1⟩
def PHO_HANDOVER.STATE : Field := ⟨PHO_HANDOVER, 8, 3⟩
/-- 11_photonics.md, Table PHO-10. -/
def PHO_ERR_LOG : Reg := ⟨0x00700080, 1, 0, 1, 0, .none,
  [⟨0, 16, .ro, 0⟩, ⟨16, 5, .ro, 0⟩, ⟨21, 4, .ro, 0⟩, ⟨25, 1, .ro, 0⟩, ⟨26, 4, .ro, 0⟩, ⟨32, 16, .ro, 0⟩]⟩
def PHO_ERR_LOG.REASON : Field := ⟨PHO_ERR_LOG, 0, 16⟩
def PHO_ERR_LOG.LINK : Field := ⟨PHO_ERR_LOG, 16, 5⟩
def PHO_ERR_LOG.WAVELENGTH : Field := ⟨PHO_ERR_LOG, 21, 4⟩
def PHO_ERR_LOG.DIR : Field := ⟨PHO_ERR_LOG, 25, 1⟩
def PHO_ERR_LOG.SOURCE : Field := ⟨PHO_ERR_LOG, 26, 4⟩
def PHO_ERR_LOG.TEMP : Field := ⟨PHO_ERR_LOG, 32, 16⟩
/-- 11_photonics.md, Table PHO-10. -/
def PHO_COUNT : Reg := ⟨0x00700088, 1, 0, 1, 0, .none,
  [⟨0, 16, .rc, 0⟩, ⟨16, 16, .rc, 0⟩, ⟨32, 16, .rc, 0⟩, ⟨48, 16, .rc, 0⟩]⟩
def PHO_COUNT.UNLOCK : Field := ⟨PHO_COUNT, 0, 16⟩
def PHO_COUNT.CAL_STEPS : Field := ⟨PHO_COUNT, 16, 16⟩
def PHO_COUNT.UNCORRECTABLE : Field := ⟨PHO_COUNT, 32, 16⟩
def PHO_COUNT.BAD_FIELD : Field := ⟨PHO_COUNT, 48, 16⟩
/-- 11_photonics.md, Table PHO-11. -/
def PHO_INT_ENABLE : Reg := ⟨0x007000A8, 1, 0, 1, 0, .none,
  [⟨0, 1, .rw, 0⟩, ⟨1, 1, .rw, 0⟩, ⟨2, 1, .rw, 0⟩, ⟨3, 1, .rw, 0⟩, ⟨4, 1, .rw, 0⟩, ⟨5, 1, .rw, 0⟩, ⟨6, 1, .rw, 0⟩, ⟨7, 1, .rw, 0⟩, ⟨8, 1, .rw, 0⟩]⟩
def PHO_INT_ENABLE.CONFIG_REFUSED : Field := ⟨PHO_INT_ENABLE, 0, 1⟩
def PHO_INT_ENABLE.UNLOCK : Field := ⟨PHO_INT_ENABLE, 1, 1⟩
def PHO_INT_ENABLE.STEER_DONE : Field := ⟨PHO_INT_ENABLE, 2, 1⟩
def PHO_INT_ENABLE.STEER_LATE : Field := ⟨PHO_INT_ENABLE, 3, 1⟩
def PHO_INT_ENABLE.LASER_WARN : Field := ⟨PHO_INT_ENABLE, 4, 1⟩
def PHO_INT_ENABLE.HANDOVER : Field := ⟨PHO_INT_ENABLE, 5, 1⟩
def PHO_INT_ENABLE.LASER_FAIL : Field := ⟨PHO_INT_ENABLE, 6, 1⟩
def PHO_INT_ENABLE.SENSOR : Field := ⟨PHO_INT_ENABLE, 7, 1⟩
def PHO_INT_ENABLE.UNIT_FAULT : Field := ⟨PHO_INT_ENABLE, 8, 1⟩
/-- 11_photonics.md, Table PHO-11. -/
def PHO_INT_STATUS : Reg := ⟨0x007000B0, 1, 0, 1, 0, .none,
  [⟨0, 1, .w1c, 0⟩, ⟨1, 1, .w1c, 0⟩, ⟨2, 1, .w1c, 0⟩, ⟨3, 1, .w1c, 0⟩, ⟨4, 1, .w1c, 0⟩, ⟨5, 1, .w1c, 0⟩, ⟨6, 1, .w1c, 0⟩, ⟨7, 1, .w1c, 0⟩, ⟨8, 1, .w1c, 0⟩]⟩
def PHO_INT_STATUS.CONFIG_REFUSED : Field := ⟨PHO_INT_STATUS, 0, 1⟩
def PHO_INT_STATUS.UNLOCK : Field := ⟨PHO_INT_STATUS, 1, 1⟩
def PHO_INT_STATUS.STEER_DONE : Field := ⟨PHO_INT_STATUS, 2, 1⟩
def PHO_INT_STATUS.STEER_LATE : Field := ⟨PHO_INT_STATUS, 3, 1⟩
def PHO_INT_STATUS.LASER_WARN : Field := ⟨PHO_INT_STATUS, 4, 1⟩
def PHO_INT_STATUS.HANDOVER : Field := ⟨PHO_INT_STATUS, 5, 1⟩
def PHO_INT_STATUS.LASER_FAIL : Field := ⟨PHO_INT_STATUS, 6, 1⟩
def PHO_INT_STATUS.SENSOR : Field := ⟨PHO_INT_STATUS, 7, 1⟩
def PHO_INT_STATUS.UNIT_FAULT : Field := ⟨PHO_INT_STATUS, 8, 1⟩
/-- 11_photonics.md, Table PHO-12. -/
def PHO_SOURCE : Reg := ⟨0x00700100, 10, 8, 1, 0, .source,
  [⟨0, 3, .ro, 0⟩, ⟨3, 4, .ro, 0⟩, ⟨16, 16, .ro, 0⟩, ⟨32, 32, .ro, 0⟩]⟩
def PHO_SOURCE.STATE : Field := ⟨PHO_SOURCE, 0, 3⟩
def PHO_SOURCE.POSITION : Field := ⟨PHO_SOURCE, 3, 4⟩
def PHO_SOURCE.POWER_DB : Field := ⟨PHO_SOURCE, 16, 16⟩
def PHO_SOURCE.HOURS : Field := ⟨PHO_SOURCE, 32, 32⟩
/-- 11_photonics.md, Table PHO-9. -/
def PHO_STEER : Reg := ⟨0x00700200, 2, 0x20, 4, 8, .steer,
  [⟨0, 5, .rw, 0⟩, ⟨8, 5, .rw, 0⟩, ⟨16, 5, .rw, 0⟩, ⟨24, 5, .rw, 0⟩, ⟨32, 5, .rw, 0⟩, ⟨40, 5, .rw, 0⟩, ⟨48, 5, .rw, 0⟩, ⟨56, 5, .rw, 0⟩]⟩
def PHO_STEER.FIBRE0 : Field := ⟨PHO_STEER, 0, 5⟩
def PHO_STEER.FIBRE1 : Field := ⟨PHO_STEER, 8, 5⟩
def PHO_STEER.FIBRE2 : Field := ⟨PHO_STEER, 16, 5⟩
def PHO_STEER.FIBRE3 : Field := ⟨PHO_STEER, 24, 5⟩
def PHO_STEER.FIBRE4 : Field := ⟨PHO_STEER, 32, 5⟩
def PHO_STEER.FIBRE5 : Field := ⟨PHO_STEER, 40, 5⟩
def PHO_STEER.FIBRE6 : Field := ⟨PHO_STEER, 48, 5⟩
def PHO_STEER.FIBRE7 : Field := ⟨PHO_STEER, 56, 5⟩
/-- 11_photonics.md, Table PHO-12. -/
def PHO_LINK : Reg := ⟨0x00700400, 32, 8, 1, 0, .link,
  [⟨0, 9, .ro, 0⟩, ⟨9, 9, .ro, 0⟩, ⟨18, 4, .ro, 0xF⟩, ⟨22, 4, .ro, 0xF⟩, ⟨26, 4, .ro, 0xF⟩, ⟨30, 5, .ro, 0⟩]⟩
def PHO_LINK.TX_WORKING : Field := ⟨PHO_LINK, 0, 9⟩
def PHO_LINK.RX_WORKING : Field := ⟨PHO_LINK, 9, 9⟩
def PHO_LINK.TX_SPARE_LANE : Field := ⟨PHO_LINK, 18, 4⟩
def PHO_LINK.RX_SPARE_LANE : Field := ⟨PHO_LINK, 22, 4⟩
def PHO_LINK.CAL_WAVELENGTH : Field := ⟨PHO_LINK, 26, 4⟩
def PHO_LINK.FIBRE : Field := ⟨PHO_LINK, 30, 5⟩
/-- 11_photonics.md, Table PHO-12. -/
def PHO_SENSOR : Reg := ⟨0x00700600, 64, 8, 1, 0, .none,
  [⟨0, 16, .ro, 0⟩, ⟨16, 1, .ro, 0⟩]⟩
def PHO_SENSOR.TEMP : Field := ⟨PHO_SENSOR, 0, 16⟩
def PHO_SENSOR.FAULTY : Field := ⟨PHO_SENSOR, 16, 1⟩
/-- 07_line_frame.md, Table FRAME-11. -/
def LINE_CTRL : Reg := ⟨0x00800000, 1, 0, 1, 0, .none,
  [⟨0, 1, .rw, 0⟩, ⟨16, 16, .rwl, 0xFFFF⟩]⟩
def LINE_CTRL.ENABLE : Field := ⟨LINE_CTRL, 0, 1⟩
def LINE_CTRL.PORT_EN : Field := ⟨LINE_CTRL, 16, 16⟩
/-- 07_line_frame.md, Table FRAME-11. -/
def LINE_STATUS : Reg := ⟨0x00800008, 1, 0, 1, 0, .none,
  [⟨0, 1, .ro, 0⟩, ⟨16, 16, .ro, 0⟩, ⟨32, 16, .ro, 0⟩, ⟨48, 16, .ro, 0⟩]⟩
def LINE_STATUS.READY : Field := ⟨LINE_STATUS, 0, 1⟩
def LINE_STATUS.CONFIG_REASON : Field := ⟨LINE_STATUS, 16, 16⟩
def LINE_STATUS.IN_FRAME : Field := ⟨LINE_STATUS, 32, 16⟩
def LINE_STATUS.UNAVAIL : Field := ⟨LINE_STATUS, 48, 16⟩
/-- 07_line_frame.md, Table FRAME-11. -/
def LINE_CAP : Reg := ⟨0x00800010, 1, 0, 1, 0, .none,
  [⟨0, 5, .ro, 0x10⟩, ⟨8, 8, .ro, 0x50⟩, ⟨16, 10, .ro, 0x330⟩]⟩
def LINE_CAP.PORTS : Field := ⟨LINE_CAP, 0, 5⟩
def LINE_CAP.SLOTS : Field := ⟨LINE_CAP, 8, 8⟩
def LINE_CAP.SLOT_BYTES : Field := ⟨LINE_CAP, 16, 10⟩
/-- 07_line_frame.md, Table FRAME-12. -/
def LINE_ALIGN : Reg := ⟨0x00800018, 1, 0, 1, 0, .none,
  [⟨0, 4, .rwl, 3⟩, ⟨8, 5, .rwl, 5⟩]⟩
def LINE_ALIGN.CONFIRM_N : Field := ⟨LINE_ALIGN, 0, 4⟩
def LINE_ALIGN.LOSS_M : Field := ⟨LINE_ALIGN, 8, 5⟩
/-- 07_line_frame.md, Table FRAME-12. -/
def LINE_TRAIN : Reg := ⟨0x00800020, 1, 0, 1, 0, .none,
  [⟨0, 16, .rwl, 0x3E8⟩, ⟨16, 16, .rw, 0x64⟩, ⟨32, 16, .rw, 0xA⟩]⟩
def LINE_TRAIN.TRAIN_TIMEOUT_MS : Field := ⟨LINE_TRAIN, 0, 16⟩
def LINE_TRAIN.LANE_HOLD_MS : Field := ⟨LINE_TRAIN, 16, 16⟩
def LINE_TRAIN.WIDEN_HOLD_S : Field := ⟨LINE_TRAIN, 32, 16⟩
/-- 07_line_frame.md, Table text after FRAME-12. -/
def LINE_INT_ENABLE : Reg := ⟨0x00800028, 1, 0, 1, 0, .none,
  [⟨0, 16, .rw, 0⟩]⟩
def LINE_INT_ENABLE.PORTS : Field := ⟨LINE_INT_ENABLE, 0, 16⟩
/-- 07_line_frame.md, Table text after FRAME-12. -/
def LINE_INT_STATUS : Reg := ⟨0x00800030, 1, 0, 1, 0, .none,
  [⟨0, 16, .ro, 0⟩]⟩
def LINE_INT_STATUS.PORTS : Field := ⟨LINE_INT_STATUS, 0, 16⟩
/-- 07_line_frame.md, Table FRAME-13. -/
def PORT_CFG : Reg := ⟨0x00801000, 16, 0x400, 1, 0, .none,
  [⟨0, 2, .rw, 0⟩, ⟨2, 3, .rw, 0⟩, ⟨5, 1, .rw, 1⟩, ⟨6, 1, .rw, 1⟩, ⟨8, 24, .rwl, 0xFAC688⟩]⟩
def PORT_CFG.TX_WIDTH : Field := ⟨PORT_CFG, 0, 2⟩
def PORT_CFG.TX_SET : Field := ⟨PORT_CFG, 2, 3⟩
def PORT_CFG.AUTO_NARROW : Field := ⟨PORT_CFG, 5, 1⟩
def PORT_CFG.AUTO_WIDEN : Field := ⟨PORT_CFG, 6, 1⟩
def PORT_CFG.TX_LANE_MAP : Field := ⟨PORT_CFG, 8, 24⟩
/-- 07_line_frame.md, Table FRAME-13. -/
def PORT_STATUS : Reg := ⟨0x00801008, 16, 0x400, 1, 0, .none,
  [⟨0, 3, .ro, 0⟩, ⟨3, 2, .ro, 3⟩, ⟨5, 2, .ro, 0⟩, ⟨7, 1, .ro, 0⟩, ⟨8, 8, .ro, 0⟩, ⟨16, 8, .ro, 0⟩, ⟨24, 1, .ro, 0⟩, ⟨25, 1, .ro, 0⟩, ⟨26, 1, .ro, 0⟩, ⟨32, 32, .ro, 0⟩]⟩
def PORT_STATUS.ALIGN_STATE : Field := ⟨PORT_STATUS, 0, 3⟩
def PORT_STATUS.RX_WIDTH : Field := ⟨PORT_STATUS, 3, 2⟩
def PORT_STATUS.TX_WIDTH_NOW : Field := ⟨PORT_STATUS, 5, 2⟩
def PORT_STATUS.FAR_DOWN : Field := ⟨PORT_STATUS, 7, 1⟩
def PORT_STATUS.RX_LANES : Field := ⟨PORT_STATUS, 8, 8⟩
def PORT_STATUS.FAR_RX_LANES : Field := ⟨PORT_STATUS, 16, 8⟩
def PORT_STATUS.FAR_UNAVAIL : Field := ⟨PORT_STATUS, 24, 1⟩
def PORT_STATUS.UNAVAIL : Field := ⟨PORT_STATUS, 25, 1⟩
def PORT_STATUS.ID_MISMATCH : Field := ⟨PORT_STATUS, 26, 1⟩
def PORT_STATUS.FRAME_COUNT_RX : Field := ⟨PORT_STATUS, 32, 32⟩
/-- 07_line_frame.md, Table FRAME-13. -/
def PORT_ID : Reg := ⟨0x00801010, 16, 0x400, 1, 0, .portId,
  [⟨0, 4, .rwl, 0⟩, ⟨4, 4, .rwl, 0⟩, ⟨8, 16, .rwl, 0⟩, ⟨24, 4, .rw, 0⟩, ⟨28, 4, .rw, 0⟩, ⟨32, 16, .rw, 0⟩, ⟨48, 1, .rw, 0⟩]⟩
def PORT_ID.TX_PORT : Field := ⟨PORT_ID, 0, 4⟩
def PORT_ID.TX_SITE : Field := ⟨PORT_ID, 4, 4⟩
def PORT_ID.TX_LINK : Field := ⟨PORT_ID, 8, 16⟩
def PORT_ID.EXP_PORT : Field := ⟨PORT_ID, 24, 4⟩
def PORT_ID.EXP_SITE : Field := ⟨PORT_ID, 28, 4⟩
def PORT_ID.EXP_LINK : Field := ⟨PORT_ID, 32, 16⟩
def PORT_ID.EXP_EN : Field := ⟨PORT_ID, 48, 1⟩
/-- 07_line_frame.md, Table FRAME-14. -/
def PORT_CM_CTRL : Reg := ⟨0x00801018, 16, 0x400, 1, 0, .none,
  [⟨0, 1, .ro, 0⟩, ⟨1, 1, .ro, 0⟩, ⟨2, 1, .w1s, 0⟩, ⟨3, 1, .w1s, 0⟩]⟩
def PORT_CM_CTRL.TX_ACTIVE : Field := ⟨PORT_CM_CTRL, 0, 1⟩
def PORT_CM_CTRL.RX_ACTIVE : Field := ⟨PORT_CM_CTRL, 1, 1⟩
def PORT_CM_CTRL.SWAP_ARM : Field := ⟨PORT_CM_CTRL, 2, 1⟩
def PORT_CM_CTRL.SWAP_CANCEL : Field := ⟨PORT_CM_CTRL, 3, 1⟩
/-- 07_line_frame.md, Table FRAME-14. -/
def PORT_SWAP_TIME : Reg := ⟨0x00801020, 16, 0x400, 1, 0, .none,
  [⟨0, 64, .rw, 0⟩]⟩
def PORT_SWAP_TIME.TIME : Field := ⟨PORT_SWAP_TIME, 0, 64⟩
/-- 07_line_frame.md, Table FRAME-14. -/
def PORT_CM_GEN : Reg := ⟨0x00801028, 16, 0x400, 1, 0, .none,
  [⟨0, 16, .rw, 0⟩, ⟨16, 16, .rw, 1⟩, ⟨32, 16, .rw, 0⟩, ⟨48, 16, .rw, 1⟩]⟩
def PORT_CM_GEN.TX_GEN0 : Field := ⟨PORT_CM_GEN, 0, 16⟩
def PORT_CM_GEN.TX_GEN1 : Field := ⟨PORT_CM_GEN, 16, 16⟩
def PORT_CM_GEN.RX_GEN0 : Field := ⟨PORT_CM_GEN, 32, 16⟩
def PORT_CM_GEN.RX_GEN1 : Field := ⟨PORT_CM_GEN, 48, 16⟩
/-- 07_line_frame.md, Table FRAME-15. -/
def PORT_ERR_LOG : Reg := ⟨0x00801030, 16, 0x400, 1, 0, .none,
  [⟨0, 16, .ro, 0⟩, ⟨16, 3, .ro, 0⟩, ⟨24, 16, .ro, 0⟩]⟩
def PORT_ERR_LOG.REASON : Field := ⟨PORT_ERR_LOG, 0, 16⟩
def PORT_ERR_LOG.LANE : Field := ⟨PORT_ERR_LOG, 16, 3⟩
def PORT_ERR_LOG.RX_GEN : Field := ⟨PORT_ERR_LOG, 24, 16⟩
/-- 07_line_frame.md, Table FRAME-15. -/
def PORT_PM_EF : Reg := ⟨0x00801038, 16, 0x400, 1, 0, .none,
  [⟨0, 64, .ro, 0⟩]⟩
def PORT_PM_EF.EF : Field := ⟨PORT_PM_EF, 0, 64⟩
/-- 07_line_frame.md, Table FRAME-15. -/
def PORT_PM_ES_SES : Reg := ⟨0x00801040, 16, 0x400, 1, 0, .none,
  [⟨0, 32, .ro, 0⟩, ⟨32, 32, .ro, 0⟩]⟩
def PORT_PM_ES_SES.ES : Field := ⟨PORT_PM_ES_SES, 0, 32⟩
def PORT_PM_ES_SES.SES : Field := ⟨PORT_PM_ES_SES, 32, 32⟩
/-- 07_line_frame.md, Table FRAME-15. -/
def PORT_PM_UAS : Reg := ⟨0x00801048, 16, 0x400, 1, 0, .none,
  [⟨0, 32, .ro, 0⟩, ⟨32, 32, .rc, 0⟩]⟩
def PORT_PM_UAS.UAS : Field := ⟨PORT_PM_UAS, 0, 32⟩
def PORT_PM_UAS.YARN_MISMATCH : Field := ⟨PORT_PM_UAS, 32, 32⟩
/-- 07_line_frame.md, Table FRAME-15. -/
def PORT_FEC : Reg := ⟨0x00801050, 16, 0x400, 1, 0, .none,
  [⟨0, 32, .rc, 0⟩, ⟨32, 32, .rc, 0⟩]⟩
def PORT_FEC.CORRECTED : Field := ⟨PORT_FEC, 0, 32⟩
def PORT_FEC.UNCORRECTABLE : Field := ⟨PORT_FEC, 32, 32⟩
/-- 07_line_frame.md, Table FRAME-15. -/
def PORT_FAR_EF : Reg := ⟨0x00801058, 16, 0x400, 1, 0, .none,
  [⟨0, 64, .ro, 0⟩]⟩
def PORT_FAR_EF.FAR_EF : Field := ⟨PORT_FAR_EF, 0, 64⟩
/-- 07_line_frame.md, Table FRAME-16. -/
def PORT_INT_ENABLE : Reg := ⟨0x00801060, 16, 0x400, 1, 0, .none,
  [⟨0, 1, .rw, 0⟩, ⟨1, 1, .rw, 0⟩, ⟨2, 1, .rw, 0⟩, ⟨3, 1, .rw, 0⟩, ⟨4, 1, .rw, 0⟩, ⟨5, 1, .rw, 0⟩, ⟨6, 1, .rw, 0⟩, ⟨7, 1, .rw, 0⟩, ⟨8, 1, .rw, 0⟩, ⟨9, 1, .rw, 0⟩, ⟨10, 1, .rw, 0⟩, ⟨11, 1, .rw, 0⟩]⟩
def PORT_INT_ENABLE.LOF : Field := ⟨PORT_INT_ENABLE, 0, 1⟩
def PORT_INT_ENABLE.FRAME_GAINED : Field := ⟨PORT_INT_ENABLE, 1, 1⟩
def PORT_INT_ENABLE.FAR_DOWN : Field := ⟨PORT_INT_ENABLE, 2, 1⟩
def PORT_INT_ENABLE.ID_MISMATCH : Field := ⟨PORT_INT_ENABLE, 3, 1⟩
def PORT_INT_ENABLE.YARN_MISMATCH : Field := ⟨PORT_INT_ENABLE, 4, 1⟩
def PORT_INT_ENABLE.UAS_ENTER : Field := ⟨PORT_INT_ENABLE, 5, 1⟩
def PORT_INT_ENABLE.UAS_EXIT : Field := ⟨PORT_INT_ENABLE, 6, 1⟩
def PORT_INT_ENABLE.WIDTH : Field := ⟨PORT_INT_ENABLE, 7, 1⟩
def PORT_INT_ENABLE.TRAIN_FAIL : Field := ⟨PORT_INT_ENABLE, 8, 1⟩
def PORT_INT_ENABLE.UNIT_FAULT : Field := ⟨PORT_INT_ENABLE, 9, 1⟩
def PORT_INT_ENABLE.SWAP_DONE : Field := ⟨PORT_INT_ENABLE, 10, 1⟩
def PORT_INT_ENABLE.REFUSED : Field := ⟨PORT_INT_ENABLE, 11, 1⟩
/-- 07_line_frame.md, Table FRAME-16. -/
def PORT_INT_STATUS : Reg := ⟨0x00801068, 16, 0x400, 1, 0, .none,
  [⟨0, 1, .w1c, 0⟩, ⟨1, 1, .w1c, 0⟩, ⟨2, 1, .w1c, 0⟩, ⟨3, 1, .w1c, 0⟩, ⟨4, 1, .w1c, 0⟩, ⟨5, 1, .w1c, 0⟩, ⟨6, 1, .w1c, 0⟩, ⟨7, 1, .w1c, 0⟩, ⟨8, 1, .w1c, 0⟩, ⟨9, 1, .w1c, 0⟩, ⟨10, 1, .w1c, 0⟩, ⟨11, 1, .w1c, 0⟩]⟩
def PORT_INT_STATUS.LOF : Field := ⟨PORT_INT_STATUS, 0, 1⟩
def PORT_INT_STATUS.FRAME_GAINED : Field := ⟨PORT_INT_STATUS, 1, 1⟩
def PORT_INT_STATUS.FAR_DOWN : Field := ⟨PORT_INT_STATUS, 2, 1⟩
def PORT_INT_STATUS.ID_MISMATCH : Field := ⟨PORT_INT_STATUS, 3, 1⟩
def PORT_INT_STATUS.YARN_MISMATCH : Field := ⟨PORT_INT_STATUS, 4, 1⟩
def PORT_INT_STATUS.UAS_ENTER : Field := ⟨PORT_INT_STATUS, 5, 1⟩
def PORT_INT_STATUS.UAS_EXIT : Field := ⟨PORT_INT_STATUS, 6, 1⟩
def PORT_INT_STATUS.WIDTH : Field := ⟨PORT_INT_STATUS, 7, 1⟩
def PORT_INT_STATUS.TRAIN_FAIL : Field := ⟨PORT_INT_STATUS, 8, 1⟩
def PORT_INT_STATUS.UNIT_FAULT : Field := ⟨PORT_INT_STATUS, 9, 1⟩
def PORT_INT_STATUS.SWAP_DONE : Field := ⟨PORT_INT_STATUS, 10, 1⟩
def PORT_INT_STATUS.REFUSED : Field := ⟨PORT_INT_STATUS, 11, 1⟩
/-- 07_line_frame.md, Table FRAME-17. -/
def PORT_LANE_CFG : Reg := ⟨0x00801080, 16, 0x400, 8, 8, .none,
  [⟨0, 5, .rwl, 0⟩, ⟨5, 5, .rwl, 0⟩, ⟨10, 5, .rwl, 0⟩, ⟨15, 6, .rwl, 0x30⟩, ⟨21, 5, .rwl, 0⟩, ⟨26, 1, .rwl, 0⟩, ⟨27, 1, .rwl, 0⟩, ⟨28, 1, .rwl, 0⟩, ⟨29, 1, .rwl, 0⟩, ⟨30, 2, .rw, 0⟩, ⟨32, 2, .rw, 0⟩]⟩
def PORT_LANE_CFG.PRE3 : Field := ⟨PORT_LANE_CFG, 0, 5⟩
def PORT_LANE_CFG.PRE2 : Field := ⟨PORT_LANE_CFG, 5, 5⟩
def PORT_LANE_CFG.PRE1 : Field := ⟨PORT_LANE_CFG, 10, 5⟩
def PORT_LANE_CFG.MAIN : Field := ⟨PORT_LANE_CFG, 15, 6⟩
def PORT_LANE_CFG.POST1 : Field := ⟨PORT_LANE_CFG, 21, 5⟩
def PORT_LANE_CFG.TX_INVERT : Field := ⟨PORT_LANE_CFG, 26, 1⟩
def PORT_LANE_CFG.RX_INVERT : Field := ⟨PORT_LANE_CFG, 27, 1⟩
def PORT_LANE_CFG.TX_PRECODE : Field := ⟨PORT_LANE_CFG, 28, 1⟩
def PORT_LANE_CFG.RX_PRECODE : Field := ⟨PORT_LANE_CFG, 29, 1⟩
def PORT_LANE_CFG.TEST_TX : Field := ⟨PORT_LANE_CFG, 30, 2⟩
def PORT_LANE_CFG.TEST_RX : Field := ⟨PORT_LANE_CFG, 32, 2⟩
/-- 07_line_frame.md, Table FRAME-17. -/
def PORT_LANE_STAT : Reg := ⟨0x008010C0, 16, 0x400, 8, 8, .none,
  [⟨0, 1, .ro, 0⟩, ⟨1, 1, .ro, 0⟩, ⟨2, 1, .ro, 0⟩, ⟨3, 4, .ro, 0xF⟩, ⟨8, 16, .ro, 0⟩, ⟨32, 32, .rc, 0⟩]⟩
def PORT_LANE_STAT.SIGNAL : Field := ⟨PORT_LANE_STAT, 0, 1⟩
def PORT_LANE_STAT.CW_LOCK : Field := ⟨PORT_LANE_STAT, 1, 1⟩
def PORT_LANE_STAT.LAW_LOCK : Field := ⟨PORT_LANE_STAT, 2, 1⟩
def PORT_LANE_STAT.POSITION : Field := ⟨PORT_LANE_STAT, 3, 4⟩
def PORT_LANE_STAT.SKEW : Field := ⟨PORT_LANE_STAT, 8, 16⟩
def PORT_LANE_STAT.TEST_ERRORS : Field := ⟨PORT_LANE_STAT, 32, 32⟩
/-- 07_line_frame.md, Table FRAME-18. -/
def PORT_TXCM0 : Reg := ⟨0x00801100, 16, 0x400, 10, 8, .none,
  [⟨0, 7, .rw, 0⟩, ⟨7, 1, .rw, 0⟩, ⟨8, 7, .rw, 0⟩, ⟨15, 1, .rw, 0⟩, ⟨16, 7, .rw, 0⟩, ⟨23, 1, .rw, 0⟩, ⟨24, 7, .rw, 0⟩, ⟨31, 1, .rw, 0⟩, ⟨32, 7, .rw, 0⟩, ⟨39, 1, .rw, 0⟩, ⟨40, 7, .rw, 0⟩, ⟨47, 1, .rw, 0⟩, ⟨48, 7, .rw, 0⟩, ⟨55, 1, .rw, 0⟩, ⟨56, 7, .rw, 0⟩, ⟨63, 1, .rw, 0⟩]⟩
def PORT_TXCM0.YARN0 : Field := ⟨PORT_TXCM0, 0, 7⟩
def PORT_TXCM0.VALID0 : Field := ⟨PORT_TXCM0, 7, 1⟩
def PORT_TXCM0.YARN1 : Field := ⟨PORT_TXCM0, 8, 7⟩
def PORT_TXCM0.VALID1 : Field := ⟨PORT_TXCM0, 15, 1⟩
def PORT_TXCM0.YARN2 : Field := ⟨PORT_TXCM0, 16, 7⟩
def PORT_TXCM0.VALID2 : Field := ⟨PORT_TXCM0, 23, 1⟩
def PORT_TXCM0.YARN3 : Field := ⟨PORT_TXCM0, 24, 7⟩
def PORT_TXCM0.VALID3 : Field := ⟨PORT_TXCM0, 31, 1⟩
def PORT_TXCM0.YARN4 : Field := ⟨PORT_TXCM0, 32, 7⟩
def PORT_TXCM0.VALID4 : Field := ⟨PORT_TXCM0, 39, 1⟩
def PORT_TXCM0.YARN5 : Field := ⟨PORT_TXCM0, 40, 7⟩
def PORT_TXCM0.VALID5 : Field := ⟨PORT_TXCM0, 47, 1⟩
def PORT_TXCM0.YARN6 : Field := ⟨PORT_TXCM0, 48, 7⟩
def PORT_TXCM0.VALID6 : Field := ⟨PORT_TXCM0, 55, 1⟩
def PORT_TXCM0.YARN7 : Field := ⟨PORT_TXCM0, 56, 7⟩
def PORT_TXCM0.VALID7 : Field := ⟨PORT_TXCM0, 63, 1⟩
/-- 07_line_frame.md, Table FRAME-18. -/
def PORT_TXCM1 : Reg := ⟨0x00801150, 16, 0x400, 10, 8, .none,
  [⟨0, 7, .rw, 0⟩, ⟨7, 1, .rw, 0⟩, ⟨8, 7, .rw, 0⟩, ⟨15, 1, .rw, 0⟩, ⟨16, 7, .rw, 0⟩, ⟨23, 1, .rw, 0⟩, ⟨24, 7, .rw, 0⟩, ⟨31, 1, .rw, 0⟩, ⟨32, 7, .rw, 0⟩, ⟨39, 1, .rw, 0⟩, ⟨40, 7, .rw, 0⟩, ⟨47, 1, .rw, 0⟩, ⟨48, 7, .rw, 0⟩, ⟨55, 1, .rw, 0⟩, ⟨56, 7, .rw, 0⟩, ⟨63, 1, .rw, 0⟩]⟩
def PORT_TXCM1.YARN0 : Field := ⟨PORT_TXCM1, 0, 7⟩
def PORT_TXCM1.VALID0 : Field := ⟨PORT_TXCM1, 7, 1⟩
def PORT_TXCM1.YARN1 : Field := ⟨PORT_TXCM1, 8, 7⟩
def PORT_TXCM1.VALID1 : Field := ⟨PORT_TXCM1, 15, 1⟩
def PORT_TXCM1.YARN2 : Field := ⟨PORT_TXCM1, 16, 7⟩
def PORT_TXCM1.VALID2 : Field := ⟨PORT_TXCM1, 23, 1⟩
def PORT_TXCM1.YARN3 : Field := ⟨PORT_TXCM1, 24, 7⟩
def PORT_TXCM1.VALID3 : Field := ⟨PORT_TXCM1, 31, 1⟩
def PORT_TXCM1.YARN4 : Field := ⟨PORT_TXCM1, 32, 7⟩
def PORT_TXCM1.VALID4 : Field := ⟨PORT_TXCM1, 39, 1⟩
def PORT_TXCM1.YARN5 : Field := ⟨PORT_TXCM1, 40, 7⟩
def PORT_TXCM1.VALID5 : Field := ⟨PORT_TXCM1, 47, 1⟩
def PORT_TXCM1.YARN6 : Field := ⟨PORT_TXCM1, 48, 7⟩
def PORT_TXCM1.VALID6 : Field := ⟨PORT_TXCM1, 55, 1⟩
def PORT_TXCM1.YARN7 : Field := ⟨PORT_TXCM1, 56, 7⟩
def PORT_TXCM1.VALID7 : Field := ⟨PORT_TXCM1, 63, 1⟩
/-- 07_line_frame.md, Table FRAME-18. -/
def PORT_RXCM0 : Reg := ⟨0x008011A0, 16, 0x400, 10, 8, .none,
  [⟨0, 7, .rw, 0⟩, ⟨7, 1, .rw, 0⟩, ⟨8, 7, .rw, 0⟩, ⟨15, 1, .rw, 0⟩, ⟨16, 7, .rw, 0⟩, ⟨23, 1, .rw, 0⟩, ⟨24, 7, .rw, 0⟩, ⟨31, 1, .rw, 0⟩, ⟨32, 7, .rw, 0⟩, ⟨39, 1, .rw, 0⟩, ⟨40, 7, .rw, 0⟩, ⟨47, 1, .rw, 0⟩, ⟨48, 7, .rw, 0⟩, ⟨55, 1, .rw, 0⟩, ⟨56, 7, .rw, 0⟩, ⟨63, 1, .rw, 0⟩]⟩
def PORT_RXCM0.YARN0 : Field := ⟨PORT_RXCM0, 0, 7⟩
def PORT_RXCM0.VALID0 : Field := ⟨PORT_RXCM0, 7, 1⟩
def PORT_RXCM0.YARN1 : Field := ⟨PORT_RXCM0, 8, 7⟩
def PORT_RXCM0.VALID1 : Field := ⟨PORT_RXCM0, 15, 1⟩
def PORT_RXCM0.YARN2 : Field := ⟨PORT_RXCM0, 16, 7⟩
def PORT_RXCM0.VALID2 : Field := ⟨PORT_RXCM0, 23, 1⟩
def PORT_RXCM0.YARN3 : Field := ⟨PORT_RXCM0, 24, 7⟩
def PORT_RXCM0.VALID3 : Field := ⟨PORT_RXCM0, 31, 1⟩
def PORT_RXCM0.YARN4 : Field := ⟨PORT_RXCM0, 32, 7⟩
def PORT_RXCM0.VALID4 : Field := ⟨PORT_RXCM0, 39, 1⟩
def PORT_RXCM0.YARN5 : Field := ⟨PORT_RXCM0, 40, 7⟩
def PORT_RXCM0.VALID5 : Field := ⟨PORT_RXCM0, 47, 1⟩
def PORT_RXCM0.YARN6 : Field := ⟨PORT_RXCM0, 48, 7⟩
def PORT_RXCM0.VALID6 : Field := ⟨PORT_RXCM0, 55, 1⟩
def PORT_RXCM0.YARN7 : Field := ⟨PORT_RXCM0, 56, 7⟩
def PORT_RXCM0.VALID7 : Field := ⟨PORT_RXCM0, 63, 1⟩
/-- 07_line_frame.md, Table FRAME-18. -/
def PORT_RXCM1 : Reg := ⟨0x008011F0, 16, 0x400, 10, 8, .none,
  [⟨0, 7, .rw, 0⟩, ⟨7, 1, .rw, 0⟩, ⟨8, 7, .rw, 0⟩, ⟨15, 1, .rw, 0⟩, ⟨16, 7, .rw, 0⟩, ⟨23, 1, .rw, 0⟩, ⟨24, 7, .rw, 0⟩, ⟨31, 1, .rw, 0⟩, ⟨32, 7, .rw, 0⟩, ⟨39, 1, .rw, 0⟩, ⟨40, 7, .rw, 0⟩, ⟨47, 1, .rw, 0⟩, ⟨48, 7, .rw, 0⟩, ⟨55, 1, .rw, 0⟩, ⟨56, 7, .rw, 0⟩, ⟨63, 1, .rw, 0⟩]⟩
def PORT_RXCM1.YARN0 : Field := ⟨PORT_RXCM1, 0, 7⟩
def PORT_RXCM1.VALID0 : Field := ⟨PORT_RXCM1, 7, 1⟩
def PORT_RXCM1.YARN1 : Field := ⟨PORT_RXCM1, 8, 7⟩
def PORT_RXCM1.VALID1 : Field := ⟨PORT_RXCM1, 15, 1⟩
def PORT_RXCM1.YARN2 : Field := ⟨PORT_RXCM1, 16, 7⟩
def PORT_RXCM1.VALID2 : Field := ⟨PORT_RXCM1, 23, 1⟩
def PORT_RXCM1.YARN3 : Field := ⟨PORT_RXCM1, 24, 7⟩
def PORT_RXCM1.VALID3 : Field := ⟨PORT_RXCM1, 31, 1⟩
def PORT_RXCM1.YARN4 : Field := ⟨PORT_RXCM1, 32, 7⟩
def PORT_RXCM1.VALID4 : Field := ⟨PORT_RXCM1, 39, 1⟩
def PORT_RXCM1.YARN5 : Field := ⟨PORT_RXCM1, 40, 7⟩
def PORT_RXCM1.VALID5 : Field := ⟨PORT_RXCM1, 47, 1⟩
def PORT_RXCM1.YARN6 : Field := ⟨PORT_RXCM1, 48, 7⟩
def PORT_RXCM1.VALID6 : Field := ⟨PORT_RXCM1, 55, 1⟩
def PORT_RXCM1.YARN7 : Field := ⟨PORT_RXCM1, 56, 7⟩
def PORT_RXCM1.VALID7 : Field := ⟨PORT_RXCM1, 63, 1⟩
/-- 07_line_frame.md, Table FRAME-18. -/
def PORT_YARN : Reg := ⟨0x00801240, 16, 0x400, 20, 8, .none,
  [⟨0, 8, .rw, 0⟩, ⟨15, 1, .rw, 0⟩, ⟨16, 8, .rw, 0⟩, ⟨31, 1, .rw, 0⟩, ⟨32, 8, .rw, 0⟩, ⟨47, 1, .rw, 0⟩, ⟨48, 8, .rw, 0⟩, ⟨63, 1, .rw, 0⟩]⟩
def PORT_YARN.TENANT0 : Field := ⟨PORT_YARN, 0, 8⟩
def PORT_YARN.ENABLE0 : Field := ⟨PORT_YARN, 15, 1⟩
def PORT_YARN.TENANT1 : Field := ⟨PORT_YARN, 16, 8⟩
def PORT_YARN.ENABLE1 : Field := ⟨PORT_YARN, 31, 1⟩
def PORT_YARN.TENANT2 : Field := ⟨PORT_YARN, 32, 8⟩
def PORT_YARN.ENABLE2 : Field := ⟨PORT_YARN, 47, 1⟩
def PORT_YARN.TENANT3 : Field := ⟨PORT_YARN, 48, 8⟩
def PORT_YARN.ENABLE3 : Field := ⟨PORT_YARN, 63, 1⟩
/-- 08_long_haul_transport.md, Table XPORT-7. -/
def XPORT_CTRL : Reg := ⟨0x00900000, 1, 0, 1, 0, .none,
  [⟨0, 1, .rw, 0⟩, ⟨8, 4, .rwl, 0⟩, ⟨12, 6, .rwl, 0⟩]⟩
def XPORT_CTRL.ENABLE : Field := ⟨XPORT_CTRL, 0, 1⟩
def XPORT_CTRL.LOCAL_SITE : Field := ⟨XPORT_CTRL, 8, 4⟩
def XPORT_CTRL.GROUP_POS : Field := ⟨XPORT_CTRL, 12, 6⟩
/-- 08_long_haul_transport.md, Table XPORT-7. -/
def XPORT_STATUS : Reg := ⟨0x00900008, 1, 0, 1, 0, .none,
  [⟨0, 1, .ro, 0⟩, ⟨16, 16, .ro, 0⟩, ⟨32, 7, .ro, 0⟩, ⟨48, 16, .ro, 0⟩]⟩
def XPORT_STATUS.READY : Field := ⟨XPORT_STATUS, 0, 1⟩
def XPORT_STATUS.CONFIG_REASON : Field := ⟨XPORT_STATUS, 16, 16⟩
def XPORT_STATUS.JOBS_ENABLED : Field := ⟨XPORT_STATUS, 32, 7⟩
def XPORT_STATUS.REACHABLE : Field := ⟨XPORT_STATUS, 48, 16⟩
/-- 08_long_haul_transport.md, Table XPORT-7. -/
def XPORT_CAP : Reg := ⟨0x00900010, 1, 0, 1, 0, .none,
  [⟨0, 4, .ro, 8⟩, ⟨4, 4, .ro, 8⟩, ⟨8, 8, .ro, 0x20⟩, ⟨16, 8, .ro, 0x80⟩, ⟨24, 8, .ro, 0x40⟩, ⟨32, 16, .ro, 0x2000⟩]⟩
def XPORT_CAP.ENC_IN_SERVICE : Field := ⟨XPORT_CAP, 0, 4⟩
def XPORT_CAP.DEC_IN_SERVICE : Field := ⟨XPORT_CAP, 4, 4⟩
def XPORT_CAP.ENGINES : Field := ⟨XPORT_CAP, 8, 8⟩
def XPORT_CAP.JOB_ENTRIES : Field := ⟨XPORT_CAP, 16, 8⟩
def XPORT_CAP.MAX_JOBS : Field := ⟨XPORT_CAP, 24, 8⟩
def XPORT_CAP.SHARD_BYTES : Field := ⟨XPORT_CAP, 32, 16⟩
/-- 08_long_haul_transport.md, Table XPORT-8. -/
def XPORT_CODE : Reg := ⟨0x00900018, 1, 0, 1, 0, .none,
  [⟨0, 5, .rw, 0xE⟩, ⟨5, 3, .rw, 2⟩, ⟨8, 1, .rw, 1⟩, ⟨9, 3, .rw, 1⟩]⟩
def XPORT_CODE.K : Field := ⟨XPORT_CODE, 0, 5⟩
def XPORT_CODE.M : Field := ⟨XPORT_CODE, 5, 3⟩
def XPORT_CODE.CODE_AUTO : Field := ⟨XPORT_CODE, 8, 1⟩
def XPORT_CODE.M_MIN : Field := ⟨XPORT_CODE, 9, 3⟩
/-- 08_long_haul_transport.md, Table XPORT-8. -/
def XPORT_SW : Reg := ⟨0x00900020, 1, 0, 1, 0, .none,
  [⟨0, 13, .rw, 0x3E8⟩, ⟨16, 8, .rw, 0x40⟩, ⟨24, 12, .rwl, 0x400⟩, ⟨36, 12, .rw, 0xA⟩]⟩
def XPORT_SW.WINDOW_US : Field := ⟨XPORT_SW, 0, 13⟩
def XPORT_SW.LATE_COUNT : Field := ⟨XPORT_SW, 16, 8⟩
def XPORT_SW.SW_SRAM_MIB : Field := ⟨XPORT_SW, 24, 12⟩
def XPORT_SW.REUSE_S : Field := ⟨XPORT_SW, 36, 12⟩
/-- 08_long_haul_transport.md, Table XPORT-8. -/
def XPORT_RATE : Reg := ⟨0x00900028, 1, 0, 1, 0, .none,
  [⟨0, 16, .rw, 0x12C⟩, ⟨16, 16, .rw, 0x5DC⟩]⟩
def XPORT_RATE.RETX_RATE_GBPS : Field := ⟨XPORT_RATE, 0, 16⟩
def XPORT_RATE.SPILL_RATE_GBPS : Field := ⟨XPORT_RATE, 16, 16⟩
/-- 08_long_haul_transport.md, Table XPORT-9. -/
def XPORT_TIMERS : Reg := ⟨0x00900030, 1, 0, 1, 0, .none,
  [⟨0, 16, .rw, 0x64⟩, ⟨16, 16, .rw, 0xA⟩, ⟨32, 16, .rw, 0x140⟩]⟩
def XPORT_TIMERS.ACK_INTERVAL_US : Field := ⟨XPORT_TIMERS, 0, 16⟩
def XPORT_TIMERS.KEEPALIVE_MS : Field := ⟨XPORT_TIMERS, 16, 16⟩
def XPORT_TIMERS.WIN_FACTOR : Field := ⟨XPORT_TIMERS, 32, 16⟩
/-- 08_long_haul_transport.md, Table XPORT-9. -/
def XPORT_RETAIN : Reg := ⟨0x00900038, 1, 0, 1, 0, .none,
  [⟨0, 16, .rwl, 0x140⟩, ⟨16, 16, .rwl, 0x20⟩]⟩
def XPORT_RETAIN.LIMIT_GIB : Field := ⟨XPORT_RETAIN, 0, 16⟩
def XPORT_RETAIN.SPILL_LIMIT_GIB : Field := ⟨XPORT_RETAIN, 16, 16⟩
/-- 08_long_haul_transport.md, Table XPORT-10. -/
def XPORT_USAGE : Reg := ⟨0x00900040, 1, 0, 1, 0, .none,
  [⟨0, 32, .ro, 0⟩, ⟨32, 16, .ro, 0⟩, ⟨48, 16, .ro, 0⟩]⟩
def XPORT_USAGE.RETAIN_MIB : Field := ⟨XPORT_USAGE, 0, 32⟩
def XPORT_USAGE.SPILL_MIB : Field := ⟨XPORT_USAGE, 32, 16⟩
def XPORT_USAGE.STAGE_MIB : Field := ⟨XPORT_USAGE, 48, 16⟩
/-- 08_long_haul_transport.md, Table XPORT-10. -/
def XPORT_PEAK : Reg := ⟨0x00900048, 1, 0, 1, 0, .none,
  [⟨0, 32, .rc, 0⟩, ⟨32, 16, .rc, 0⟩]⟩
def XPORT_PEAK.RETAIN_PEAK_MIB : Field := ⟨XPORT_PEAK, 0, 32⟩
def XPORT_PEAK.SPILL_PEAK_MIB : Field := ⟨XPORT_PEAK, 32, 16⟩
/-- 08_long_haul_transport.md, Table XPORT-9. -/
def XPORT_MGMT : Reg := ⟨0x00900050, 1, 0, 1, 0, .none,
  [⟨0, 16, .rwl, 0⟩, ⟨16, 8, .rwl, 0⟩]⟩
def XPORT_MGMT.MGMT_CTX_BASE : Field := ⟨XPORT_MGMT, 0, 16⟩
def XPORT_MGMT.MGMT_TENANT : Field := ⟨XPORT_MGMT, 16, 8⟩
/-- 08_long_haul_transport.md, Table XPORT-10. -/
def XPORT_ERR_LOG : Reg := ⟨0x00900080, 1, 0, 1, 0, .none,
  [⟨0, 16, .ro, 0⟩, ⟨16, 4, .ro, 0⟩, ⟨20, 4, .ro, 0⟩, ⟨24, 8, .ro, 0⟩, ⟨32, 16, .ro, 0⟩]⟩
def XPORT_ERR_LOG.REASON : Field := ⟨XPORT_ERR_LOG, 0, 16⟩
def XPORT_ERR_LOG.SITE : Field := ⟨XPORT_ERR_LOG, 16, 4⟩
def XPORT_ERR_LOG.PORT : Field := ⟨XPORT_ERR_LOG, 20, 4⟩
def XPORT_ERR_LOG.UNIT : Field := ⟨XPORT_ERR_LOG, 24, 8⟩
def XPORT_ERR_LOG.JOB_ID : Field := ⟨XPORT_ERR_LOG, 32, 16⟩
/-- 08_long_haul_transport.md, Table XPORT-10. -/
def XPORT_ERR_SEQ : Reg := ⟨0x00900088, 1, 0, 1, 0, .none,
  [⟨0, 32, .ro, 0⟩, ⟨32, 32, .ro, 0⟩]⟩
def XPORT_ERR_SEQ.SEQ : Field := ⟨XPORT_ERR_SEQ, 0, 32⟩
def XPORT_ERR_SEQ.STEP : Field := ⟨XPORT_ERR_SEQ, 32, 32⟩
/-- 08_long_haul_transport.md, Table XPORT-11. -/
def XPORT_CW_COUNT : Reg := ⟨0x00900090, 1, 0, 1, 0, .none,
  [⟨0, 32, .rc, 0⟩, ⟨32, 32, .rc, 0⟩]⟩
def XPORT_CW_COUNT.CLEAN : Field := ⟨XPORT_CW_COUNT, 0, 32⟩
def XPORT_CW_COUNT.ERASED : Field := ⟨XPORT_CW_COUNT, 32, 32⟩
/-- 08_long_haul_transport.md, Table XPORT-11. -/
def XPORT_RETX_COUNT : Reg := ⟨0x00900098, 1, 0, 1, 0, .none,
  [⟨0, 32, .rc, 0⟩, ⟨32, 32, .rc, 0⟩]⟩
def XPORT_RETX_COUNT.NACKED : Field := ⟨XPORT_RETX_COUNT, 0, 32⟩
def XPORT_RETX_COUNT.RETX_SHARDS : Field := ⟨XPORT_RETX_COUNT, 32, 32⟩
/-- 08_long_haul_transport.md, Table XPORT-11. -/
def XPORT_DROP_COUNT : Reg := ⟨0x009000A0, 1, 0, 1, 0, .none,
  [⟨0, 16, .rc, 0⟩, ⟨16, 16, .rc, 0⟩, ⟨32, 16, .rc, 0⟩, ⟨48, 16, .rc, 0⟩]⟩
def XPORT_DROP_COUNT.HDR : Field := ⟨XPORT_DROP_COUNT, 0, 16⟩
def XPORT_DROP_COUNT.BODY : Field := ⟨XPORT_DROP_COUNT, 16, 16⟩
def XPORT_DROP_COUNT.DISCARD : Field := ⟨XPORT_DROP_COUNT, 32, 16⟩
def XPORT_DROP_COUNT.EARLY : Field := ⟨XPORT_DROP_COUNT, 48, 16⟩
/-- 08_long_haul_transport.md, Table XPORT-11. -/
def XPORT_INT_ENABLE : Reg := ⟨0x009000A8, 1, 0, 1, 0, .none,
  [⟨0, 1, .rw, 0⟩, ⟨1, 1, .rw, 0⟩, ⟨2, 1, .rw, 0⟩, ⟨3, 1, .rw, 0⟩, ⟨4, 1, .rw, 0⟩, ⟨5, 1, .rw, 0⟩, ⟨6, 1, .rw, 0⟩, ⟨7, 1, .rw, 0⟩, ⟨8, 1, .rw, 0⟩, ⟨9, 1, .rw, 0⟩, ⟨10, 1, .rw, 0⟩]⟩
def XPORT_INT_ENABLE.CONFIG_REFUSED : Field := ⟨XPORT_INT_ENABLE, 0, 1⟩
def XPORT_INT_ENABLE.JOB_REFUSED : Field := ⟨XPORT_INT_ENABLE, 1, 1⟩
def XPORT_INT_ENABLE.PORT_CLASS : Field := ⟨XPORT_INT_ENABLE, 2, 1⟩
def XPORT_INT_ENABLE.CODE : Field := ⟨XPORT_INT_ENABLE, 3, 1⟩
def XPORT_INT_ENABLE.RETAIN_FULL : Field := ⟨XPORT_INT_ENABLE, 4, 1⟩
def XPORT_INT_ENABLE.EARLY_CLOSE : Field := ⟨XPORT_INT_ENABLE, 5, 1⟩
def XPORT_INT_ENABLE.CHUNK_OWED : Field := ⟨XPORT_INT_ENABLE, 6, 1⟩
def XPORT_INT_ENABLE.REACH : Field := ⟨XPORT_INT_ENABLE, 7, 1⟩
def XPORT_INT_ENABLE.DELAY_STEP : Field := ⟨XPORT_INT_ENABLE, 8, 1⟩
def XPORT_INT_ENABLE.UNIT_FAULT : Field := ⟨XPORT_INT_ENABLE, 9, 1⟩
def XPORT_INT_ENABLE.REBUILD : Field := ⟨XPORT_INT_ENABLE, 10, 1⟩
/-- 08_long_haul_transport.md, Table XPORT-11. -/
def XPORT_INT_STATUS : Reg := ⟨0x009000B0, 1, 0, 1, 0, .none,
  [⟨0, 1, .w1c, 0⟩, ⟨1, 1, .w1c, 0⟩, ⟨2, 1, .w1c, 0⟩, ⟨3, 1, .w1c, 0⟩, ⟨4, 1, .w1c, 0⟩, ⟨5, 1, .w1c, 0⟩, ⟨6, 1, .w1c, 0⟩, ⟨7, 1, .w1c, 0⟩, ⟨8, 1, .w1c, 0⟩, ⟨9, 1, .w1c, 0⟩, ⟨10, 1, .w1c, 0⟩]⟩
def XPORT_INT_STATUS.CONFIG_REFUSED : Field := ⟨XPORT_INT_STATUS, 0, 1⟩
def XPORT_INT_STATUS.JOB_REFUSED : Field := ⟨XPORT_INT_STATUS, 1, 1⟩
def XPORT_INT_STATUS.PORT_CLASS : Field := ⟨XPORT_INT_STATUS, 2, 1⟩
def XPORT_INT_STATUS.CODE : Field := ⟨XPORT_INT_STATUS, 3, 1⟩
def XPORT_INT_STATUS.RETAIN_FULL : Field := ⟨XPORT_INT_STATUS, 4, 1⟩
def XPORT_INT_STATUS.EARLY_CLOSE : Field := ⟨XPORT_INT_STATUS, 5, 1⟩
def XPORT_INT_STATUS.CHUNK_OWED : Field := ⟨XPORT_INT_STATUS, 6, 1⟩
def XPORT_INT_STATUS.REACH : Field := ⟨XPORT_INT_STATUS, 7, 1⟩
def XPORT_INT_STATUS.DELAY_STEP : Field := ⟨XPORT_INT_STATUS, 8, 1⟩
def XPORT_INT_STATUS.UNIT_FAULT : Field := ⟨XPORT_INT_STATUS, 9, 1⟩
def XPORT_INT_STATUS.REBUILD : Field := ⟨XPORT_INT_STATUS, 10, 1⟩
/-- 08_long_haul_transport.md, Table XPORT-12. -/
def PEER_CFG : Reg := ⟨0x00901000, 16, 0x40, 1, 0, .none,
  [⟨0, 1, .rwl, 0⟩, ⟨8, 24, .rw, 0⟩]⟩
def PEER_CFG.ENABLE : Field := ⟨PEER_CFG, 0, 1⟩
def PEER_CFG.WINDOW_MIB : Field := ⟨PEER_CFG, 8, 24⟩
/-- 08_long_haul_transport.md, Table XPORT-12. -/
def PEER_STATUS : Reg := ⟨0x00901008, 16, 0x40, 1, 0, .none,
  [⟨0, 16, .ro, 0⟩, ⟨16, 16, .ro, 0⟩, ⟨32, 16, .ro, 0⟩, ⟨48, 5, .ro, 0⟩, ⟨53, 3, .ro, 0⟩]⟩
def PEER_STATUS.USABLE_TX : Field := ⟨PEER_STATUS, 0, 16⟩
def PEER_STATUS.LATE_RX : Field := ⟨PEER_STATUS, 16, 16⟩
def PEER_STATUS.DOWN_RX : Field := ⟨PEER_STATUS, 32, 16⟩
def PEER_STATUS.K_NOW : Field := ⟨PEER_STATUS, 48, 5⟩
def PEER_STATUS.M_NOW : Field := ⟨PEER_STATUS, 53, 3⟩
/-- 08_long_haul_transport.md, Table XPORT-12. -/
def PEER_RTT : Reg := ⟨0x00901010, 16, 0x40, 1, 0, .none,
  [⟨0, 32, .ro, 0⟩, ⟨32, 32, .ro, 0⟩]⟩
def PEER_RTT.RTT_NS : Field := ⟨PEER_RTT, 0, 32⟩
def PEER_RTT.WINDOW_NOW_MIB : Field := ⟨PEER_RTT, 32, 32⟩
/-- 08_long_haul_transport.md, Table XPORT-12. -/
def PEER_FLIGHT : Reg := ⟨0x00901018, 16, 0x40, 1, 0, .none,
  [⟨0, 32, .ro, 0⟩, ⟨32, 32, .ro, 0⟩]⟩
def PEER_FLIGHT.INFLIGHT_MIB : Field := ⟨PEER_FLIGHT, 0, 32⟩
def PEER_FLIGHT.CREDIT_MIB : Field := ⟨PEER_FLIGHT, 32, 32⟩
/-- 08_long_haul_transport.md, Table XPORT-12. -/
def PEER_SKEW : Reg := ⟨0x00901020, 16, 0x40, 1, 0, .none,
  [⟨0, 32, .ro, 0⟩, ⟨32, 4, .ro, 0⟩]⟩
def PEER_SKEW.SKEW_NS : Field := ⟨PEER_SKEW, 0, 32⟩
def PEER_SKEW.PORT : Field := ⟨PEER_SKEW, 32, 4⟩
/-- 08_long_haul_transport.md, Table XPORT-13. -/
def JOB_CTRL : Reg := ⟨0x00902000, 128, 0x80, 1, 0, .none,
  [⟨0, 1, .rw, 0⟩, ⟨1, 1, .rwl, 0⟩, ⟨16, 16, .rwl, 0⟩, ⟨32, 8, .rwl, 0⟩, ⟨40, 16, .rwl, 0⟩]⟩
def JOB_CTRL.ENABLE : Field := ⟨JOB_CTRL, 0, 1⟩
def JOB_CTRL.RETAIN_STEP : Field := ⟨JOB_CTRL, 1, 1⟩
def JOB_CTRL.JOB_ID : Field := ⟨JOB_CTRL, 16, 16⟩
def JOB_CTRL.TENANT_ID : Field := ⟨JOB_CTRL, 32, 8⟩
def JOB_CTRL.SITES : Field := ⟨JOB_CTRL, 40, 16⟩
/-- 08_long_haul_transport.md, Table XPORT-13. -/
def JOB_PARAM0 : Reg := ⟨0x00902008, 128, 0x80, 1, 0, .none,
  [⟨0, 10, .rw, 0x80⟩, ⟨10, 1, .rw, 0⟩, ⟨11, 1, .rw, 0⟩, ⟨12, 2, .rw, 1⟩, ⟨14, 1, .rw, 1⟩, ⟨15, 1, .rw, 1⟩, ⟨16, 3, .rw, 2⟩, ⟨19, 5, .rw, 1⟩, ⟨24, 16, .rw, 0x10⟩, ⟨40, 10, .rw, 0x32⟩]⟩
def JOB_PARAM0.RANK : Field := ⟨JOB_PARAM0, 0, 10⟩
def JOB_PARAM0.BED_FORMAT : Field := ⟨JOB_PARAM0, 10, 1⟩
def JOB_PARAM0.OPTIMISER : Field := ⟨JOB_PARAM0, 11, 1⟩
def JOB_PARAM0.POLICY : Field := ⟨JOB_PARAM0, 12, 2⟩
def JOB_PARAM0.FROG_AUTO : Field := ⟨JOB_PARAM0, 14, 1⟩
def JOB_PARAM0.RESYNC_AUTO : Field := ⟨JOB_PARAM0, 15, 1⟩
def JOB_PARAM0.FROG_MAX : Field := ⟨JOB_PARAM0, 16, 3⟩
def JOB_PARAM0.QUORUM_MIN : Field := ⟨JOB_PARAM0, 19, 5⟩
def JOB_PARAM0.STALE_T : Field := ⟨JOB_PARAM0, 24, 16⟩
def JOB_PARAM0.CLEAN_WAIT : Field := ⟨JOB_PARAM0, 40, 10⟩
/-- 08_long_haul_transport.md, Table XPORT-13. -/
def JOB_PARAM1 : Reg := ⟨0x00902010, 128, 0x80, 1, 0, .none,
  [⟨0, 14, .rw, 0xFA⟩, ⟨14, 20, .rw, 0x1388⟩, ⟨34, 10, .rw, 0xA⟩]⟩
def JOB_PARAM1.STALL_REPORT_MS : Field := ⟨JOB_PARAM1, 0, 14⟩
def JOB_PARAM1.PART_DETECT_MS : Field := ⟨JOB_PARAM1, 14, 20⟩
def JOB_PARAM1.REJOIN_STABLE_S : Field := ⟨JOB_PARAM1, 34, 10⟩
/-- 08_long_haul_transport.md, Table XPORT-13. -/
def JOB_SEED : Reg := ⟨0x00902018, 128, 0x80, 1, 0, .none,
  [⟨0, 64, .rwl, 0⟩]⟩
def JOB_SEED.SEED : Field := ⟨JOB_SEED, 0, 64⟩
/-- 08_long_haul_transport.md, Table XPORT-13. -/
def JOB_MIRROR : Reg := ⟨0x00902020, 128, 0x80, 1, 0, .none,
  [⟨7, 57, .rwl, 0⟩]⟩
def JOB_MIRROR.ADDR : Field := ⟨JOB_MIRROR, 7, 57⟩
/-- 08_long_haul_transport.md, Table XPORT-13. -/
def JOB_TMAP : Reg := ⟨0x00902028, 128, 0x80, 1, 0, .none,
  [⟨6, 58, .rwl, 0⟩]⟩
def JOB_TMAP.ADDR : Field := ⟨JOB_TMAP, 6, 58⟩
/-- 08_long_haul_transport.md, Table XPORT-13. -/
def JOB_CTX : Reg := ⟨0x00902030, 128, 0x80, 1, 0, .none,
  [⟨0, 16, .rwl, 0⟩, ⟨32, 32, .rwl, 0⟩]⟩
def JOB_CTX.CTX_BASE : Field := ⟨JOB_CTX, 0, 16⟩
def JOB_CTX.TMAP_ENTRIES : Field := ⟨JOB_CTX, 32, 32⟩
/-- 08_long_haul_transport.md, Table XPORT-13. -/
def JOB_STATUS : Reg := ⟨0x00902038, 128, 0x80, 1, 0, .none,
  [⟨0, 8, .ro, 0⟩, ⟨8, 1, .ro, 0⟩, ⟨16, 16, .ro, 0⟩, ⟨32, 32, .ro, 0⟩]⟩
def JOB_STATUS.STATE : Field := ⟨JOB_STATUS, 0, 8⟩
def JOB_STATUS.PARTITIONED : Field := ⟨JOB_STATUS, 8, 1⟩
def JOB_STATUS.REASON : Field := ⟨JOB_STATUS, 16, 16⟩
def JOB_STATUS.FINGERPRINT : Field := ⟨JOB_STATUS, 32, 32⟩
/-- 09_cipher_and_keys.md, Table CIPH-15. -/
def CIPH_CTRL : Reg := ⟨0x00A00000, 1, 0, 1, 0, .none,
  [⟨0, 1, .rw, 0⟩, ⟨8, 8, .rwl, 0xFF⟩]⟩
def CIPH_CTRL.ENABLE : Field := ⟨CIPH_CTRL, 0, 1⟩
def CIPH_CTRL.CLUSTER_EN : Field := ⟨CIPH_CTRL, 8, 8⟩
/-- 09_cipher_and_keys.md, Table CIPH-15. -/
def CIPH_STATUS : Reg := ⟨0x00A00008, 1, 0, 1, 0, .none,
  [⟨0, 1, .ro, 0⟩, ⟨1, 1, .ro, 0⟩, ⟨16, 16, .ro, 0⟩, ⟨32, 11, .ro, 0⟩]⟩
def CIPH_STATUS.READY : Field := ⟨CIPH_STATUS, 0, 1⟩
def CIPH_STATUS.KEY_OK : Field := ⟨CIPH_STATUS, 1, 1⟩
def CIPH_STATUS.CONFIG_REASON : Field := ⟨CIPH_STATUS, 16, 16⟩
def CIPH_STATUS.RESIDENT : Field := ⟨CIPH_STATUS, 32, 11⟩
/-- 09_cipher_and_keys.md, Table CIPH-15. -/
def CIPH_CAP : Reg := ⟨0x00A00010, 1, 0, 1, 0, .none,
  [⟨0, 6, .ro, 0x20⟩, ⟨8, 6, .ro, 0x20⟩, ⟨16, 11, .ro, 0x400⟩, ⟨32, 17, .ro, 0x10000⟩, ⟨49, 1, .ro, 1⟩, ⟨50, 2, .ro, 2⟩, ⟨52, 1, .ro, 1⟩]⟩
def CIPH_CAP.TX_PIPES : Field := ⟨CIPH_CAP, 0, 6⟩
def CIPH_CAP.RX_PIPES : Field := ⟨CIPH_CAP, 8, 6⟩
def CIPH_CAP.RESIDENT_SLOTS : Field := ⟨CIPH_CAP, 16, 11⟩
def CIPH_CAP.STORE_MAX : Field := ⟨CIPH_CAP, 32, 17⟩
def CIPH_CAP.KEM_OK : Field := ⟨CIPH_CAP, 49, 1⟩
def CIPH_CAP.SLH_ENGINES : Field := ⟨CIPH_CAP, 50, 2⟩
def CIPH_CAP.HASH_OK : Field := ⟨CIPH_CAP, 52, 1⟩
/-- 09_cipher_and_keys.md, Table CIPH-16. -/
def CIPH_STORE_BASE : Reg := ⟨0x00A00018, 1, 0, 1, 0, .none,
  [⟨6, 58, .rwl, 0⟩]⟩
def CIPH_STORE_BASE.ADDR : Field := ⟨CIPH_STORE_BASE, 6, 58⟩
/-- 09_cipher_and_keys.md, Table CIPH-16. -/
def CIPH_STORE_SIZE : Reg := ⟨0x00A00020, 1, 0, 1, 0, .none,
  [⟨0, 17, .rwl, 0x10000⟩]⟩
def CIPH_STORE_SIZE.CONTEXTS : Field := ⟨CIPH_STORE_SIZE, 0, 17⟩
/-- 09_cipher_and_keys.md, Table CIPH-16. -/
def CIPH_LIMIT : Reg := ⟨0x00A00028, 1, 0, 1, 0, .none,
  [⟨0, 6, .rw, 0x20⟩, ⟨8, 6, .rw, 0x2E⟩]⟩
def CIPH_LIMIT.RECORD_WARN_LOG2 : Field := ⟨CIPH_LIMIT, 0, 6⟩
def CIPH_LIMIT.BYTE_WARN_LOG2 : Field := ⟨CIPH_LIMIT, 8, 6⟩
/-- 09_cipher_and_keys.md, Table CIPH-16. -/
def CIPH_KEYMAIL : Reg := ⟨0x00A00030, 1, 0, 1, 0, .none,
  [⟨0, 16, .rw, 0x1E⟩, ⟨16, 16, .rw, 0x3C⟩]⟩
def CIPH_KEYMAIL.TIMEOUT_S : Field := ⟨CIPH_KEYMAIL, 0, 16⟩
def CIPH_KEYMAIL.RETRY_S : Field := ⟨CIPH_KEYMAIL, 16, 16⟩
/-- 09_cipher_and_keys.md, Table CIPH-16. -/
def CIPH_KMO_BASE : Reg := ⟨0x00A00038, 1, 0, 1, 0, .none,
  [⟨16, 48, .rwl, 0⟩]⟩
def CIPH_KMO_BASE.ADDR : Field := ⟨CIPH_KMO_BASE, 16, 48⟩
/-- 09_cipher_and_keys.md, Table CIPH-16. -/
def CIPH_KMO_PTR : Reg := ⟨0x00A00040, 1, 0, 1, 0, .none,
  [⟨0, 4, .rwl, 4⟩, ⟨8, 16, .ro, 0⟩, ⟨24, 16, .rw, 0⟩, ⟨40, 1, .ro, 0⟩]⟩
def CIPH_KMO_PTR.SIZE_LOG2 : Field := ⟨CIPH_KMO_PTR, 0, 4⟩
def CIPH_KMO_PTR.WR_PTR : Field := ⟨CIPH_KMO_PTR, 8, 16⟩
def CIPH_KMO_PTR.RD_PTR : Field := ⟨CIPH_KMO_PTR, 24, 16⟩
def CIPH_KMO_PTR.FULL : Field := ⟨CIPH_KMO_PTR, 40, 1⟩
/-- 09_cipher_and_keys.md, Table CIPH-16. -/
def CIPH_KMI_BASE : Reg := ⟨0x00A00048, 1, 0, 1, 0, .none,
  [⟨16, 48, .rwl, 0⟩]⟩
def CIPH_KMI_BASE.ADDR : Field := ⟨CIPH_KMI_BASE, 16, 48⟩
/-- 09_cipher_and_keys.md, Table CIPH-16. -/
def CIPH_KMI_PTR : Reg := ⟨0x00A00050, 1, 0, 1, 0, .none,
  [⟨0, 4, .rwl, 4⟩, ⟨8, 16, .rw, 0⟩, ⟨24, 16, .ro, 0⟩, ⟨40, 1, .ro, 0⟩]⟩
def CIPH_KMI_PTR.SIZE_LOG2 : Field := ⟨CIPH_KMI_PTR, 0, 4⟩
def CIPH_KMI_PTR.WR_PTR : Field := ⟨CIPH_KMI_PTR, 8, 16⟩
def CIPH_KMI_PTR.RD_PTR : Field := ⟨CIPH_KMI_PTR, 24, 16⟩
def CIPH_KMI_PTR.FULL : Field := ⟨CIPH_KMI_PTR, 40, 1⟩
/-- 09_cipher_and_keys.md, Table CIPH-17. -/
def CIPH_SECURITY : Reg := ⟨0x00A00058, 1, 0, 1, 0, .none,
  [⟨0, 1, .ro, 0⟩, ⟨1, 1, .ro, 0⟩, ⟨2, 1, .ro, 0⟩, ⟨3, 3, .ro, 7⟩, ⟨16, 32, .ro, 0⟩]⟩
def CIPH_SECURITY.CLEAR_EXPORT_EN : Field := ⟨CIPH_SECURITY, 0, 1⟩
def CIPH_SECURITY.RESTRICTED : Field := ⟨CIPH_SECURITY, 1, 1⟩
def CIPH_SECURITY.DEBUG_OPEN : Field := ⟨CIPH_SECURITY, 2, 1⟩
def CIPH_SECURITY.OWNER_BANK : Field := ⟨CIPH_SECURITY, 3, 3⟩
def CIPH_SECURITY.BOOT_COUNT : Field := ⟨CIPH_SECURITY, 16, 32⟩
/-- 09_cipher_and_keys.md, Table CIPH-17. -/
def CIPH_ERR_LOG : Reg := ⟨0x00A00080, 1, 0, 1, 0, .none,
  [⟨0, 16, .ro, 0⟩, ⟨16, 16, .ro, 0⟩, ⟨32, 4, .ro, 0⟩, ⟨40, 13, .ro, 0⟩]⟩
def CIPH_ERR_LOG.REASON : Field := ⟨CIPH_ERR_LOG, 0, 16⟩
def CIPH_ERR_LOG.CTX : Field := ⟨CIPH_ERR_LOG, 16, 16⟩
def CIPH_ERR_LOG.SITE : Field := ⟨CIPH_ERR_LOG, 32, 4⟩
def CIPH_ERR_LOG.QUEUE : Field := ⟨CIPH_ERR_LOG, 40, 13⟩
/-- 09_cipher_and_keys.md, Table CIPH-17. -/
def CIPH_ERR_SEQ : Reg := ⟨0x00A00088, 1, 0, 1, 0, .none,
  [⟨0, 32, .ro, 0⟩, ⟨32, 32, .ro, 0⟩]⟩
def CIPH_ERR_SEQ.CHUNK_ID : Field := ⟨CIPH_ERR_SEQ, 0, 32⟩
def CIPH_ERR_SEQ.STEP : Field := ⟨CIPH_ERR_SEQ, 32, 32⟩
/-- 09_cipher_and_keys.md, Table CIPH-18. -/
def CIPH_COUNT : Reg := ⟨0x00A00090, 1, 0, 1, 0, .none,
  [⟨0, 16, .rc, 0⟩, ⟨16, 16, .rc, 0⟩, ⟨32, 16, .rc, 0⟩, ⟨48, 16, .rc, 0⟩]⟩
def CIPH_COUNT.TAG_FAIL : Field := ⟨CIPH_COUNT, 0, 16⟩
def CIPH_COUNT.SLOT_MISS : Field := ⟨CIPH_COUNT, 16, 16⟩
def CIPH_COUNT.REFUSED : Field := ⟨CIPH_COUNT, 32, 16⟩
def CIPH_COUNT.CTX_MISS : Field := ⟨CIPH_COUNT, 48, 16⟩
/-- 09_cipher_and_keys.md, Table CIPH-18. -/
def CIPH_KEY_COUNT : Reg := ⟨0x00A00098, 1, 0, 1, 0, .none,
  [⟨0, 16, .rc, 0⟩, ⟨16, 16, .rc, 0⟩, ⟨32, 16, .rc, 0⟩, ⟨48, 16, .rc, 0⟩]⟩
def CIPH_KEY_COUNT.ESTABLISHED : Field := ⟨CIPH_KEY_COUNT, 0, 16⟩
def CIPH_KEY_COUNT.MAIL_REJECT : Field := ⟨CIPH_KEY_COUNT, 16, 16⟩
def CIPH_KEY_COUNT.REKEY_TIMEOUT : Field := ⟨CIPH_KEY_COUNT, 32, 16⟩
def CIPH_KEY_COUNT.RETIRED : Field := ⟨CIPH_KEY_COUNT, 48, 16⟩
/-- 09_cipher_and_keys.md, Table CIPH-18. -/
def CIPH_INT_ENABLE : Reg := ⟨0x00A000A8, 1, 0, 1, 0, .none,
  [⟨0, 1, .rw, 0⟩, ⟨1, 1, .rw, 0⟩, ⟨2, 1, .rw, 0⟩, ⟨3, 1, .rw, 0⟩, ⟨4, 1, .rw, 0⟩, ⟨5, 1, .rw, 0⟩, ⟨6, 1, .rw, 0⟩, ⟨7, 1, .rw, 0⟩, ⟨8, 1, .rw, 0⟩]⟩
def CIPH_INT_ENABLE.CONFIG_REFUSED : Field := ⟨CIPH_INT_ENABLE, 0, 1⟩
def CIPH_INT_ENABLE.TAG_FAIL : Field := ⟨CIPH_INT_ENABLE, 1, 1⟩
def CIPH_INT_ENABLE.LIMIT : Field := ⟨CIPH_INT_ENABLE, 2, 1⟩
def CIPH_INT_ENABLE.LEDGER : Field := ⟨CIPH_INT_ENABLE, 3, 1⟩
def CIPH_INT_ENABLE.UNIT_FAULT : Field := ⟨CIPH_INT_ENABLE, 4, 1⟩
def CIPH_INT_ENABLE.MAIL_OUT : Field := ⟨CIPH_INT_ENABLE, 5, 1⟩
def CIPH_INT_ENABLE.MAIL_REJECT : Field := ⟨CIPH_INT_ENABLE, 6, 1⟩
def CIPH_INT_ENABLE.REKEY : Field := ⟨CIPH_INT_ENABLE, 7, 1⟩
def CIPH_INT_ENABLE.RESTORE_REFUSED : Field := ⟨CIPH_INT_ENABLE, 8, 1⟩
/-- 09_cipher_and_keys.md, Table CIPH-18. -/
def CIPH_INT_STATUS : Reg := ⟨0x00A000B0, 1, 0, 1, 0, .none,
  [⟨0, 1, .w1c, 0⟩, ⟨1, 1, .w1c, 0⟩, ⟨2, 1, .w1c, 0⟩, ⟨3, 1, .w1c, 0⟩, ⟨4, 1, .w1c, 0⟩, ⟨5, 1, .w1c, 0⟩, ⟨6, 1, .w1c, 0⟩, ⟨7, 1, .w1c, 0⟩, ⟨8, 1, .w1c, 0⟩]⟩
def CIPH_INT_STATUS.CONFIG_REFUSED : Field := ⟨CIPH_INT_STATUS, 0, 1⟩
def CIPH_INT_STATUS.TAG_FAIL : Field := ⟨CIPH_INT_STATUS, 1, 1⟩
def CIPH_INT_STATUS.LIMIT : Field := ⟨CIPH_INT_STATUS, 2, 1⟩
def CIPH_INT_STATUS.LEDGER : Field := ⟨CIPH_INT_STATUS, 3, 1⟩
def CIPH_INT_STATUS.UNIT_FAULT : Field := ⟨CIPH_INT_STATUS, 4, 1⟩
def CIPH_INT_STATUS.MAIL_OUT : Field := ⟨CIPH_INT_STATUS, 5, 1⟩
def CIPH_INT_STATUS.MAIL_REJECT : Field := ⟨CIPH_INT_STATUS, 6, 1⟩
def CIPH_INT_STATUS.REKEY : Field := ⟨CIPH_INT_STATUS, 7, 1⟩
def CIPH_INT_STATUS.RESTORE_REFUSED : Field := ⟨CIPH_INT_STATUS, 8, 1⟩
/-- 09_cipher_and_keys.md, Table CIPH-18. -/
def CIPH_EXTEND_CMD : Reg := ⟨0x00A000C0, 1, 0, 1, 0, .none,
  [⟨0, 4, .wo, 0⟩, ⟨4, 1, .wo, 0⟩]⟩
def CIPH_EXTEND_CMD.REGISTER : Field := ⟨CIPH_EXTEND_CMD, 0, 4⟩
def CIPH_EXTEND_CMD.GO : Field := ⟨CIPH_EXTEND_CMD, 4, 1⟩
/-- 09_cipher_and_keys.md, Table CIPH-18. -/
def CIPH_EXTEND_DATA : Reg := ⟨0x00A000C8, 4, 8, 1, 0, .none,
  [⟨0, 64, .wo, 0⟩]⟩
def CIPH_EXTEND_DATA.DIGEST : Field := ⟨CIPH_EXTEND_DATA, 0, 64⟩
/-- 09_cipher_and_keys.md, Table CIPH-19. -/
def CIPH_MEASURE : Reg := ⟨0x00A01000, 16, 0x20, 4, 8, .none,
  [⟨0, 64, .ro, 0⟩]⟩
def CIPH_MEASURE.VALUE : Field := ⟨CIPH_MEASURE, 0, 64⟩
/-- 09_cipher_and_keys.md, Table CIPH-19. -/
def CIPH_PEER_ID : Reg := ⟨0x00A02000, 16, 0x40, 8, 8, .none,
  [⟨0, 64, .rw, 0⟩]⟩
def CIPH_PEER_ID.HASH : Field := ⟨CIPH_PEER_ID, 0, 64⟩
/-- 09_cipher_and_keys.md, Table CIPH-19. -/
def CIPH_TENANT : Reg := ⟨0x00A03000, 256, 8, 1, 0, .none,
  [⟨0, 16, .rw, 0x258⟩, ⟨16, 17, .rw, 0x100⟩]⟩
def CIPH_TENANT.REKEY_INTERVAL_S : Field := ⟨CIPH_TENANT, 0, 16⟩
def CIPH_TENANT.CTX_QUOTA : Field := ⟨CIPH_TENANT, 16, 17⟩
/-- 04_needle_bed.md, Table BED-7. -/
def BED_CTRL : Reg := ⟨0x00B00000, 1, 0, 1, 0, .none,
  [⟨0, 1, .rw, 0⟩, ⟨8, 8, .rwl, 0xFF⟩]⟩
def BED_CTRL.ENABLE : Field := ⟨BED_CTRL, 0, 1⟩
def BED_CTRL.GROUP_EN : Field := ⟨BED_CTRL, 8, 8⟩
/-- 04_needle_bed.md, Table BED-8. -/
def BED_STATUS : Reg := ⟨0x00B00008, 1, 0, 1, 0, .none,
  [⟨0, 1, .ro, 0⟩, ⟨1, 1, .ro, 0⟩, ⟨2, 1, .ro, 0⟩, ⟨16, 16, .ro, 0⟩, ⟨32, 32, .ro, 0⟩]⟩
def BED_STATUS.READY : Field := ⟨BED_STATUS, 0, 1⟩
def BED_STATUS.BUSY : Field := ⟨BED_STATUS, 1, 1⟩
def BED_STATUS.SELVEDGE_OK : Field := ⟨BED_STATUS, 2, 1⟩
def BED_STATUS.CONFIG_REASON : Field := ⟨BED_STATUS, 16, 16⟩
def BED_STATUS.SWATCH_EPOCH : Field := ⟨BED_STATUS, 32, 32⟩
/-- 04_needle_bed.md, Table BED-9. -/
def BED_CAP : Reg := ⟨0x00B00010, 1, 0, 1, 0, .none,
  [⟨0, 10, .ro, 0x200⟩, ⟨16, 8, .ro, 0xFF⟩, ⟨24, 8, .ro, 0xFF⟩, ⟨32, 8, .ro, 0xFF⟩]⟩
def BED_CAP.ACTIVE_COLUMNS : Field := ⟨BED_CAP, 0, 10⟩
def BED_CAP.IN_SERVICE : Field := ⟨BED_CAP, 16, 8⟩
def BED_CAP.SPARE_FREE : Field := ⟨BED_CAP, 24, 8⟩
def BED_CAP.CHECK_COVER : Field := ⟨BED_CAP, 32, 8⟩
/-- 04_needle_bed.md, Table BED-10. -/
def BED_CHECK : Reg := ⟨0x00B00018, 1, 0, 1, 0, .none,
  [⟨0, 1, .rw, 1⟩, ⟨1, 1, .rw, 0⟩, ⟨8, 4, .rw, 4⟩]⟩
def BED_CHECK.CHECK_COL : Field := ⟨BED_CHECK, 0, 1⟩
def BED_CHECK.CHECK_ROW : Field := ⟨BED_CHECK, 1, 1⟩
def BED_CHECK.TOL_LOG2 : Field := ⟨BED_CHECK, 8, 4⟩
/-- 04_needle_bed.md, Table BED-11. -/
def BED_SWATCH : Reg := ⟨0x00B00020, 1, 0, 1, 0, .none,
  [⟨0, 5, .rwl, 0x14⟩, ⟨8, 8, .rwl, 8⟩]⟩
def BED_SWATCH.INTERVAL_LOG2 : Field := ⟨BED_SWATCH, 0, 5⟩
def BED_SWATCH.SET_SIZE : Field := ⟨BED_SWATCH, 8, 8⟩
/-- 04_needle_bed.md, Table BED-12. -/
def BED_SWATCH_BASE : Reg := ⟨0x00B00028, 1, 0, 1, 0, .none,
  [⟨6, 58, .rwl, 0⟩]⟩
def BED_SWATCH_BASE.ADDR : Field := ⟨BED_SWATCH_BASE, 6, 58⟩
/-- 04_needle_bed.md, Table BED-13. -/
def BED_SUBST : Reg := ⟨0x00B00030, 1, 0, 1, 0, .none,
  [⟨0, 3, .wo, 0⟩, ⟨3, 6, .wo, 0⟩, ⟨9, 1, .wo, 0⟩]⟩
def BED_SUBST.GROUP : Field := ⟨BED_SUBST, 0, 3⟩
def BED_SUBST.COLUMN : Field := ⟨BED_SUBST, 3, 6⟩
def BED_SUBST.GO : Field := ⟨BED_SUBST, 9, 1⟩
/-- 04_needle_bed.md, Table BED-14. -/
def BED_GROUP_MAP : Reg := ⟨0x00B00040, 8, 8, 1, 0, .none,
  [⟨0, 1, .ro, 0⟩, ⟨1, 6, .ro, 0⟩, ⟨7, 1, .ro, 0⟩, ⟨16, 16, .ro, 0⟩]⟩
def BED_GROUP_MAP.SUBST_VALID : Field := ⟨BED_GROUP_MAP, 0, 1⟩
def BED_GROUP_MAP.SUBST_COLUMN : Field := ⟨BED_GROUP_MAP, 1, 6⟩
def BED_GROUP_MAP.OUT_OF_SERVICE : Field := ⟨BED_GROUP_MAP, 7, 1⟩
def BED_GROUP_MAP.MISMATCH_COUNT : Field := ⟨BED_GROUP_MAP, 16, 16⟩
/-- 04_needle_bed.md, Table BED-15. -/
def BED_ERR_LOG : Reg := ⟨0x00B00080, 1, 0, 1, 0, .none,
  [⟨0, 16, .ro, 0⟩, ⟨16, 3, .ro, 0⟩, ⟨19, 6, .ro, 0⟩, ⟨25, 1, .ro, 0⟩, ⟨32, 13, .ro, 0⟩]⟩
def BED_ERR_LOG.REASON : Field := ⟨BED_ERR_LOG, 0, 16⟩
def BED_ERR_LOG.GROUP : Field := ⟨BED_ERR_LOG, 16, 3⟩
def BED_ERR_LOG.COLUMN : Field := ⟨BED_ERR_LOG, 19, 6⟩
def BED_ERR_LOG.COLUMN_UNKNOWN : Field := ⟨BED_ERR_LOG, 25, 1⟩
def BED_ERR_LOG.QUEUE : Field := ⟨BED_ERR_LOG, 32, 13⟩
/-- 04_needle_bed.md, Table BED-16. -/
def BED_ERR_ENV : Reg := ⟨0x00B00088, 1, 0, 1, 0, .none,
  [⟨0, 16, .ro, 0⟩, ⟨16, 16, .ro, 0⟩, ⟨32, 16, .ro, 0⟩, ⟨48, 8, .ro, 0⟩]⟩
def BED_ERR_ENV.TEMP : Field := ⟨BED_ERR_ENV, 0, 16⟩
def BED_ERR_ENV.VB_MV : Field := ⟨BED_ERR_ENV, 16, 16⟩
def BED_ERR_ENV.RATE : Field := ⟨BED_ERR_ENV, 32, 16⟩
def BED_ERR_ENV.LOAD : Field := ⟨BED_ERR_ENV, 48, 8⟩
/-- 04_needle_bed.md, Table BED-17. -/
def BED_ERR_COUNT : Reg := ⟨0x00B00090, 1, 0, 1, 0, .none,
  [⟨0, 16, .rc, 0⟩, ⟨16, 16, .rc, 0⟩, ⟨32, 16, .rc, 0⟩, ⟨48, 16, .rc, 0⟩]⟩
def BED_ERR_COUNT.MISMATCH : Field := ⟨BED_ERR_COUNT, 0, 16⟩
def BED_ERR_COUNT.INCONCLUSIVE : Field := ⟨BED_ERR_COUNT, 16, 16⟩
def BED_ERR_COUNT.SWATCH_FAIL : Field := ⟨BED_ERR_COUNT, 32, 16⟩
def BED_ERR_COUNT.POISON_IN : Field := ⟨BED_ERR_COUNT, 48, 16⟩
/-- 04_needle_bed.md, Table BED-18. -/
def BED_STALL : Reg := ⟨0x00B00098, 1, 0, 1, 0, .none,
  [⟨0, 32, .rc, 0⟩, ⟨32, 32, .rc, 0⟩]⟩
def BED_STALL.FEED_STALL : Field := ⟨BED_STALL, 0, 32⟩
def BED_STALL.DRAIN_STALL : Field := ⟨BED_STALL, 32, 32⟩
/-- 04_needle_bed.md, Table BED-19. -/
def BED_MAC_COUNT : Reg := ⟨0x00B000A0, 1, 0, 1, 0, .none,
  [⟨0, 64, .ro, 0⟩]⟩
def BED_MAC_COUNT.MACS : Field := ⟨BED_MAC_COUNT, 0, 64⟩
/-- 04_needle_bed.md, Table BED-20. -/
def BED_INT_ENABLE : Reg := ⟨0x00B000A8, 1, 0, 1, 0, .none,
  [⟨0, 1, .rw, 0⟩, ⟨1, 1, .rw, 0⟩, ⟨2, 1, .rw, 0⟩, ⟨3, 1, .rw, 0⟩, ⟨4, 1, .rw, 0⟩, ⟨5, 1, .rw, 0⟩, ⟨6, 1, .rw, 0⟩]⟩
def BED_INT_ENABLE.CONFIG_REFUSED : Field := ⟨BED_INT_ENABLE, 0, 1⟩
def BED_INT_ENABLE.MISMATCH : Field := ⟨BED_INT_ENABLE, 1, 1⟩
def BED_INT_ENABLE.INCONCLUSIVE : Field := ⟨BED_INT_ENABLE, 2, 1⟩
def BED_INT_ENABLE.SWATCH_FAIL : Field := ⟨BED_INT_ENABLE, 3, 1⟩
def BED_INT_ENABLE.SUBSTITUTED : Field := ⟨BED_INT_ENABLE, 4, 1⟩
def BED_INT_ENABLE.OUT_OF_SERVICE : Field := ⟨BED_INT_ENABLE, 5, 1⟩
def BED_INT_ENABLE.SELVEDGE_FAULT : Field := ⟨BED_INT_ENABLE, 6, 1⟩
/-- 04_needle_bed.md, Table BED-20. -/
def BED_INT_STATUS : Reg := ⟨0x00B000B0, 1, 0, 1, 0, .none,
  [⟨0, 1, .w1c, 0⟩, ⟨1, 1, .w1c, 0⟩, ⟨2, 1, .w1c, 0⟩, ⟨3, 1, .w1c, 0⟩, ⟨4, 1, .w1c, 0⟩, ⟨5, 1, .w1c, 0⟩, ⟨6, 1, .w1c, 0⟩]⟩
def BED_INT_STATUS.CONFIG_REFUSED : Field := ⟨BED_INT_STATUS, 0, 1⟩
def BED_INT_STATUS.MISMATCH : Field := ⟨BED_INT_STATUS, 1, 1⟩
def BED_INT_STATUS.INCONCLUSIVE : Field := ⟨BED_INT_STATUS, 2, 1⟩
def BED_INT_STATUS.SWATCH_FAIL : Field := ⟨BED_INT_STATUS, 3, 1⟩
def BED_INT_STATUS.SUBSTITUTED : Field := ⟨BED_INT_STATUS, 4, 1⟩
def BED_INT_STATUS.OUT_OF_SERVICE : Field := ⟨BED_INT_STATUS, 5, 1⟩
def BED_INT_STATUS.SELVEDGE_FAULT : Field := ⟨BED_INT_STATUS, 6, 1⟩
/-- 05_stitch_units.md, Table STCH-9. -/
def STCH_CTRL : Reg := ⟨0x00C00000, 1, 0, 1, 0, .none,
  [⟨0, 1, .rw, 0⟩, ⟨16, 48, .rwl, 0xFFFFFFFFFFFF⟩]⟩
def STCH_CTRL.ENABLE : Field := ⟨STCH_CTRL, 0, 1⟩
def STCH_CTRL.CLUSTER_EN : Field := ⟨STCH_CTRL, 16, 48⟩
/-- 05_stitch_units.md, Table STCH-10. -/
def STCH_STATUS : Reg := ⟨0x00C00008, 1, 0, 1, 0, .none,
  [⟨0, 1, .ro, 0⟩, ⟨1, 1, .ro, 0⟩, ⟨16, 16, .ro, 0⟩, ⟨32, 32, .ro, 0⟩]⟩
def STCH_STATUS.READY : Field := ⟨STCH_STATUS, 0, 1⟩
def STCH_STATUS.BUSY : Field := ⟨STCH_STATUS, 1, 1⟩
def STCH_STATUS.CONFIG_REASON : Field := ⟨STCH_STATUS, 16, 16⟩
def STCH_STATUS.SWATCH_EPOCH : Field := ⟨STCH_STATUS, 32, 32⟩
/-- 05_stitch_units.md, Table STCH-11. -/
def STCH_CAP : Reg := ⟨0x00C00010, 1, 0, 1, 0, .none,
  [⟨0, 6, .ro, 0x30⟩, ⟨8, 3, .ro, 7⟩, ⟨16, 14, .ro, 0x3000⟩]⟩
def STCH_CAP.IN_SERVICE : Field := ⟨STCH_CAP, 0, 6⟩
def STCH_CAP.SPARE_FREE : Field := ⟨STCH_CAP, 8, 3⟩
def STCH_CAP.LANES : Field := ⟨STCH_CAP, 16, 14⟩
/-- 05_stitch_units.md, Table STCH-12. -/
def STCH_CHECK : Reg := ⟨0x00C00018, 1, 0, 1, 0, .none,
  [⟨0, 5, .rwl, 0x10⟩, ⟨8, 8, .rwl, 0x10⟩, ⟨16, 4, .rwl, 0xC⟩]⟩
def STCH_CHECK.INTERVAL_LOG2 : Field := ⟨STCH_CHECK, 0, 5⟩
def STCH_CHECK.SET_SIZE : Field := ⟨STCH_CHECK, 8, 8⟩
def STCH_CHECK.SLOTS_LOG2 : Field := ⟨STCH_CHECK, 16, 4⟩
/-- 05_stitch_units.md, Table STCH-13. -/
def STCH_SWATCH_BASE : Reg := ⟨0x00C00020, 1, 0, 1, 0, .none,
  [⟨6, 58, .rwl, 0⟩]⟩
def STCH_SWATCH_BASE.ADDR : Field := ⟨STCH_SWATCH_BASE, 6, 58⟩
/-- 05_stitch_units.md, Table STCH-13. -/
def STCH_SLOT_BASE : Reg := ⟨0x00C00028, 1, 0, 1, 0, .none,
  [⟨6, 58, .rwl, 0⟩]⟩
def STCH_SLOT_BASE.ADDR : Field := ⟨STCH_SLOT_BASE, 6, 58⟩
/-- 05_stitch_units.md, Table STCH-14. -/
def STCH_SLOT_STATUS : Reg := ⟨0x00C00030, 1, 0, 1, 0, .none,
  [⟨0, 16, .ro, 0⟩, ⟨16, 16, .rc, 0⟩]⟩
def STCH_SLOT_STATUS.OPEN : Field := ⟨STCH_SLOT_STATUS, 0, 16⟩
def STCH_SLOT_STATUS.PEAK : Field := ⟨STCH_SLOT_STATUS, 16, 16⟩
/-- 05_stitch_units.md, Table STCH-15. -/
def STCH_SUBST : Reg := ⟨0x00C00038, 1, 0, 1, 0, .none,
  [⟨0, 6, .wo, 0⟩, ⟨6, 1, .wo, 0⟩, ⟨7, 1, .wo, 0⟩]⟩
def STCH_SUBST.CLUSTER : Field := ⟨STCH_SUBST, 0, 6⟩
def STCH_SUBST.GO : Field := ⟨STCH_SUBST, 6, 1⟩
def STCH_SUBST.REQUAL : Field := ⟨STCH_SUBST, 7, 1⟩
/-- 05_stitch_units.md, Table STCH-16. -/
def STCH_PANEL_MAP : Reg := ⟨0x00C00040, 3, 8, 1, 0, .none,
  [⟨0, 16, .ro, 0⟩, ⟨16, 1, .ro, 0⟩, ⟨17, 5, .ro, 0x1F⟩, ⟨32, 16, .ro, 0⟩]⟩
def STCH_PANEL_MAP.QUARANTINED : Field := ⟨STCH_PANEL_MAP, 0, 16⟩
def STCH_PANEL_MAP.SPARE_QUARANTINED : Field := ⟨STCH_PANEL_MAP, 16, 1⟩
def STCH_PANEL_MAP.SPARE_FOR : Field := ⟨STCH_PANEL_MAP, 17, 5⟩
def STCH_PANEL_MAP.OUT_OF_SERVICE : Field := ⟨STCH_PANEL_MAP, 32, 16⟩
/-- 05_stitch_units.md, Table STCH-13. -/
def STCH_NOTICE_BASE : Reg := ⟨0x00C00060, 1, 0, 1, 0, .none,
  [⟨6, 58, .rwl, 0⟩]⟩
def STCH_NOTICE_BASE.ADDR : Field := ⟨STCH_NOTICE_BASE, 6, 58⟩
/-- 05_stitch_units.md, Table STCH-17. -/
def STCH_NOTICE_PTR : Reg := ⟨0x00C00068, 1, 0, 1, 0, .none,
  [⟨0, 4, .rwl, 8⟩, ⟨8, 16, .ro, 0⟩, ⟨24, 16, .rw, 0⟩, ⟨40, 1, .w1c, 0⟩]⟩
def STCH_NOTICE_PTR.SIZE_LOG2 : Field := ⟨STCH_NOTICE_PTR, 0, 4⟩
def STCH_NOTICE_PTR.WR_PTR : Field := ⟨STCH_NOTICE_PTR, 8, 16⟩
def STCH_NOTICE_PTR.RD_PTR : Field := ⟨STCH_NOTICE_PTR, 24, 16⟩
def STCH_NOTICE_PTR.OVERFLOW : Field := ⟨STCH_NOTICE_PTR, 40, 1⟩
/-- 05_stitch_units.md, Table STCH-18. -/
def STCH_ERR_LOG : Reg := ⟨0x00C00080, 1, 0, 1, 0, .none,
  [⟨0, 16, .ro, 0⟩, ⟨16, 6, .ro, 0⟩, ⟨22, 3, .ro, 0⟩, ⟨25, 5, .ro, 0⟩, ⟨30, 1, .ro, 0⟩, ⟨31, 1, .ro, 0⟩, ⟨32, 13, .ro, 0⟩]⟩
def STCH_ERR_LOG.REASON : Field := ⟨STCH_ERR_LOG, 0, 16⟩
def STCH_ERR_LOG.CLUSTER : Field := ⟨STCH_ERR_LOG, 16, 6⟩
def STCH_ERR_LOG.UNIT : Field := ⟨STCH_ERR_LOG, 22, 3⟩
def STCH_ERR_LOG.LANE : Field := ⟨STCH_ERR_LOG, 25, 5⟩
def STCH_ERR_LOG.UNIT_UNKNOWN : Field := ⟨STCH_ERR_LOG, 30, 1⟩
def STCH_ERR_LOG.LANE_UNKNOWN : Field := ⟨STCH_ERR_LOG, 31, 1⟩
def STCH_ERR_LOG.QUEUE : Field := ⟨STCH_ERR_LOG, 32, 13⟩
/-- 04_needle_bed.md, Table BED-16. -/
def STCH_ERR_ENV : Reg := ⟨0x00C00088, 1, 0, 1, 0, .none,
  [⟨0, 16, .ro, 0⟩, ⟨16, 16, .ro, 0⟩, ⟨32, 16, .ro, 0⟩, ⟨48, 8, .ro, 0⟩]⟩
def STCH_ERR_ENV.TEMP : Field := ⟨STCH_ERR_ENV, 0, 16⟩
def STCH_ERR_ENV.VB_MV : Field := ⟨STCH_ERR_ENV, 16, 16⟩
def STCH_ERR_ENV.RATE : Field := ⟨STCH_ERR_ENV, 32, 16⟩
def STCH_ERR_ENV.LOAD : Field := ⟨STCH_ERR_ENV, 48, 8⟩
/-- 05_stitch_units.md, Table STCH-19. -/
def STCH_ERR_COUNT : Reg := ⟨0x00C00090, 1, 0, 1, 0, .none,
  [⟨0, 16, .rc, 0⟩, ⟨16, 16, .rc, 0⟩, ⟨32, 16, .rc, 0⟩, ⟨48, 16, .rc, 0⟩]⟩
def STCH_ERR_COUNT.RESIDUE : Field := ⟨STCH_ERR_COUNT, 0, 16⟩
def STCH_ERR_COUNT.SWATCH_FAIL : Field := ⟨STCH_ERR_COUNT, 16, 16⟩
def STCH_ERR_COUNT.POISON_IN : Field := ⟨STCH_ERR_COUNT, 32, 16⟩
def STCH_ERR_COUNT.NOTICE_DROP : Field := ⟨STCH_ERR_COUNT, 48, 16⟩
/-- 05_stitch_units.md, Table STCH-19. -/
def STCH_ADD_COUNT : Reg := ⟨0x00C00098, 1, 0, 1, 0, .none,
  [⟨0, 64, .ro, 0⟩]⟩
def STCH_ADD_COUNT.ADDS : Field := ⟨STCH_ADD_COUNT, 0, 64⟩
/-- 05_stitch_units.md, Table STCH-20. -/
def STCH_INT_ENABLE : Reg := ⟨0x00C000A8, 1, 0, 1, 0, .none,
  [⟨0, 1, .rw, 0⟩, ⟨1, 1, .rw, 0⟩, ⟨2, 1, .rw, 0⟩, ⟨3, 1, .rw, 0⟩, ⟨4, 1, .rw, 0⟩, ⟨5, 1, .rw, 0⟩, ⟨6, 1, .rw, 0⟩]⟩
def STCH_INT_ENABLE.CONFIG_REFUSED : Field := ⟨STCH_INT_ENABLE, 0, 1⟩
def STCH_INT_ENABLE.RESIDUE : Field := ⟨STCH_INT_ENABLE, 1, 1⟩
def STCH_INT_ENABLE.SWATCH_FAIL : Field := ⟨STCH_INT_ENABLE, 2, 1⟩
def STCH_INT_ENABLE.SUBSTITUTED : Field := ⟨STCH_INT_ENABLE, 3, 1⟩
def STCH_INT_ENABLE.OUT_OF_SERVICE : Field := ⟨STCH_INT_ENABLE, 4, 1⟩
def STCH_INT_ENABLE.NOTICE : Field := ⟨STCH_INT_ENABLE, 5, 1⟩
def STCH_INT_ENABLE.NOTICE_OVERFLOW : Field := ⟨STCH_INT_ENABLE, 6, 1⟩
/-- 05_stitch_units.md, Table STCH-20. -/
def STCH_INT_STATUS : Reg := ⟨0x00C000B0, 1, 0, 1, 0, .none,
  [⟨0, 1, .w1c, 0⟩, ⟨1, 1, .w1c, 0⟩, ⟨2, 1, .w1c, 0⟩, ⟨3, 1, .w1c, 0⟩, ⟨4, 1, .w1c, 0⟩, ⟨5, 1, .w1c, 0⟩, ⟨6, 1, .w1c, 0⟩]⟩
def STCH_INT_STATUS.CONFIG_REFUSED : Field := ⟨STCH_INT_STATUS, 0, 1⟩
def STCH_INT_STATUS.RESIDUE : Field := ⟨STCH_INT_STATUS, 1, 1⟩
def STCH_INT_STATUS.SWATCH_FAIL : Field := ⟨STCH_INT_STATUS, 2, 1⟩
def STCH_INT_STATUS.SUBSTITUTED : Field := ⟨STCH_INT_STATUS, 3, 1⟩
def STCH_INT_STATUS.OUT_OF_SERVICE : Field := ⟨STCH_INT_STATUS, 4, 1⟩
def STCH_INT_STATUS.NOTICE : Field := ⟨STCH_INT_STATUS, 5, 1⟩
def STCH_INT_STATUS.NOTICE_OVERFLOW : Field := ⟨STCH_INT_STATUS, 6, 1⟩
/-- 06_purl_codec.md, Table PURL-8. -/
def PURL_CTRL : Reg := ⟨0x00D00000, 1, 0, 1, 0, .none,
  [⟨0, 1, .rw, 0⟩, ⟨16, 32, .rwl, 0xFFFFFFFF⟩]⟩
def PURL_CTRL.ENABLE : Field := ⟨PURL_CTRL, 0, 1⟩
def PURL_CTRL.CLUSTER_EN : Field := ⟨PURL_CTRL, 16, 32⟩
/-- 06_purl_codec.md, Table PURL-9. -/
def PURL_STATUS : Reg := ⟨0x00D00008, 1, 0, 1, 0, .none,
  [⟨0, 1, .ro, 0⟩, ⟨1, 1, .ro, 0⟩, ⟨16, 16, .ro, 0⟩, ⟨32, 16, .ro, 0⟩, ⟨48, 16, .ro, 0⟩]⟩
def PURL_STATUS.READY : Field := ⟨PURL_STATUS, 0, 1⟩
def PURL_STATUS.BUSY : Field := ⟨PURL_STATUS, 1, 1⟩
def PURL_STATUS.CONFIG_REASON : Field := ⟨PURL_STATUS, 16, 16⟩
def PURL_STATUS.STREAMS_ENC : Field := ⟨PURL_STATUS, 32, 16⟩
def PURL_STATUS.STREAMS_DEC : Field := ⟨PURL_STATUS, 48, 16⟩
/-- 06_purl_codec.md, Table PURL-10. -/
def PURL_CAP : Reg := ⟨0x00D00010, 1, 0, 1, 0, .none,
  [⟨0, 6, .ro, 0x20⟩, ⟨6, 2, .ro, 3⟩, ⟨8, 8, .ro, 8⟩, ⟨16, 8, .ro, 1⟩, ⟨24, 8, .ro, 0x30⟩]⟩
def PURL_CAP.IN_SERVICE : Field := ⟨PURL_CAP, 0, 6⟩
def PURL_CAP.SPARE_FREE : Field := ⟨PURL_CAP, 6, 2⟩
def PURL_CAP.STATES : Field := ⟨PURL_CAP, 8, 8⟩
def PURL_CAP.DEFAULT_SET : Field := ⟨PURL_CAP, 16, 8⟩
def PURL_CAP.HEADER_BYTES : Field := ⟨PURL_CAP, 24, 8⟩
/-- 06_purl_codec.md, Table PURL-11. -/
def PURL_CFG : Reg := ⟨0x00D00018, 1, 0, 1, 0, .none,
  [⟨0, 1, .rw, 0⟩, ⟨1, 1, .rw, 1⟩]⟩
def PURL_CFG.FORCE_RAW : Field := ⟨PURL_CFG, 0, 1⟩
def PURL_CFG.ADAPT_EN : Field := ⟨PURL_CFG, 1, 1⟩
/-- 06_purl_codec.md, Table PURL-12. -/
def PURL_SWATCH_BASE : Reg := ⟨0x00D00020, 1, 0, 1, 0, .none,
  [⟨6, 58, .rwl, 0⟩]⟩
def PURL_SWATCH_BASE.ADDR : Field := ⟨PURL_SWATCH_BASE, 6, 58⟩
/-- 06_purl_codec.md, Table PURL-12. -/
def PURL_SWATCH : Reg := ⟨0x00D00028, 1, 0, 1, 0, .none,
  [⟨0, 8, .rwl, 8⟩]⟩
def PURL_SWATCH.SET_SIZE : Field := ⟨PURL_SWATCH, 0, 8⟩
/-- 06_purl_codec.md, Table PURL-13. -/
def PURL_SUBST : Reg := ⟨0x00D00030, 1, 0, 1, 0, .none,
  [⟨0, 5, .wo, 0⟩, ⟨5, 1, .wo, 0⟩, ⟨6, 1, .wo, 0⟩]⟩
def PURL_SUBST.CLUSTER : Field := ⟨PURL_SUBST, 0, 5⟩
def PURL_SUBST.GO : Field := ⟨PURL_SUBST, 5, 1⟩
def PURL_SUBST.REQUAL : Field := ⟨PURL_SUBST, 6, 1⟩
/-- 06_purl_codec.md, Table PURL-14. -/
def PURL_QUAR : Reg := ⟨0x00D00038, 1, 0, 1, 0, .none,
  [⟨0, 32, .ro, 0⟩, ⟨32, 32, .ro, 0⟩]⟩
def PURL_QUAR.QUARANTINED : Field := ⟨PURL_QUAR, 0, 32⟩
def PURL_QUAR.OUT_OF_SERVICE : Field := ⟨PURL_QUAR, 32, 32⟩
/-- 06_purl_codec.md, Table PURL-14. -/
def PURL_SPARE : Reg := ⟨0x00D00040, 1, 0, 1, 0, .none,
  [⟨0, 6, .ro, 0x3F⟩, ⟨6, 6, .ro, 0x3F⟩, ⟨12, 2, .ro, 0⟩]⟩
def PURL_SPARE.SPARE0_FOR : Field := ⟨PURL_SPARE, 0, 6⟩
def PURL_SPARE.SPARE1_FOR : Field := ⟨PURL_SPARE, 6, 6⟩
def PURL_SPARE.SPARE_QUARANTINED : Field := ⟨PURL_SPARE, 12, 2⟩
/-- 06_purl_codec.md, Table PURL-15. -/
def PURL_ERR_LOG : Reg := ⟨0x00D00080, 1, 0, 1, 0, .none,
  [⟨0, 16, .ro, 0⟩, ⟨16, 5, .ro, 0⟩, ⟨21, 4, .ro, 0⟩, ⟨32, 13, .ro, 0⟩, ⟨45, 8, .ro, 0⟩, ⟨53, 4, .ro, 0⟩]⟩
def PURL_ERR_LOG.REASON : Field := ⟨PURL_ERR_LOG, 0, 16⟩
def PURL_ERR_LOG.CLUSTER : Field := ⟨PURL_ERR_LOG, 16, 5⟩
def PURL_ERR_LOG.ENGINE : Field := ⟨PURL_ERR_LOG, 21, 4⟩
def PURL_ERR_LOG.QUEUE : Field := ⟨PURL_ERR_LOG, 32, 13⟩
def PURL_ERR_LOG.BLOCK_INDEX : Field := ⟨PURL_ERR_LOG, 45, 8⟩
def PURL_ERR_LOG.SITE : Field := ⟨PURL_ERR_LOG, 53, 4⟩
/-- 06_purl_codec.md, Table PURL-15. -/
def PURL_ERR_CHUNK : Reg := ⟨0x00D00088, 1, 0, 1, 0, .none,
  [⟨0, 32, .ro, 0⟩, ⟨32, 32, .ro, 0⟩]⟩
def PURL_ERR_CHUNK.CHUNK_ID : Field := ⟨PURL_ERR_CHUNK, 0, 32⟩
def PURL_ERR_CHUNK.STEP : Field := ⟨PURL_ERR_CHUNK, 32, 32⟩
/-- 06_purl_codec.md, Table PURL-16. -/
def PURL_ERR_COUNT : Reg := ⟨0x00D00090, 1, 0, 1, 0, .none,
  [⟨0, 16, .rc, 0⟩, ⟨16, 16, .rc, 0⟩, ⟨32, 16, .rc, 0⟩, ⟨48, 16, .rc, 0⟩]⟩
def PURL_ERR_COUNT.HEADER : Field := ⟨PURL_ERR_COUNT, 0, 16⟩
def PURL_ERR_COUNT.DECODE : Field := ⟨PURL_ERR_COUNT, 16, 16⟩
def PURL_ERR_COUNT.RAW_CRC : Field := ⟨PURL_ERR_COUNT, 32, 16⟩
def PURL_ERR_COUNT.ENC_CHECK : Field := ⟨PURL_ERR_COUNT, 48, 16⟩
/-- 06_purl_codec.md, Table PURL-16. -/
def PURL_RESEND_COUNT : Reg := ⟨0x00D00098, 1, 0, 1, 0, .none,
  [⟨0, 16, .rc, 0⟩, ⟨16, 16, .rc, 0⟩, ⟨32, 16, .rc, 0⟩, ⟨48, 16, .rc, 0⟩]⟩
def PURL_RESEND_COUNT.REQUESTED : Field := ⟨PURL_RESEND_COUNT, 0, 16⟩
def PURL_RESEND_COUNT.SERVED : Field := ⟨PURL_RESEND_COUNT, 16, 16⟩
def PURL_RESEND_COUNT.FAILED : Field := ⟨PURL_RESEND_COUNT, 32, 16⟩
def PURL_RESEND_COUNT.REDECODE_OK : Field := ⟨PURL_RESEND_COUNT, 48, 16⟩
/-- 06_purl_codec.md, Table PURL-16. -/
def PURL_STALL : Reg := ⟨0x00D000A0, 1, 0, 1, 0, .none,
  [⟨0, 32, .rc, 0⟩, ⟨32, 32, .rc, 0⟩]⟩
def PURL_STALL.IN_STALL : Field := ⟨PURL_STALL, 0, 32⟩
def PURL_STALL.OUT_STALL : Field := ⟨PURL_STALL, 32, 32⟩
/-- 06_purl_codec.md, Table PURL-17. -/
def PURL_INT_ENABLE : Reg := ⟨0x00D000A8, 1, 0, 1, 0, .none,
  [⟨0, 1, .rw, 0⟩, ⟨1, 1, .rw, 0⟩, ⟨2, 1, .rw, 0⟩, ⟨3, 1, .rw, 0⟩, ⟨4, 1, .rw, 0⟩, ⟨5, 1, .rw, 0⟩]⟩
def PURL_INT_ENABLE.CONFIG_REFUSED : Field := ⟨PURL_INT_ENABLE, 0, 1⟩
def PURL_INT_ENABLE.DECODE_FAIL : Field := ⟨PURL_INT_ENABLE, 1, 1⟩
def PURL_INT_ENABLE.RESEND_FAIL : Field := ⟨PURL_INT_ENABLE, 2, 1⟩
def PURL_INT_ENABLE.ENC_CHECK : Field := ⟨PURL_INT_ENABLE, 3, 1⟩
def PURL_INT_ENABLE.SUBSTITUTED : Field := ⟨PURL_INT_ENABLE, 4, 1⟩
def PURL_INT_ENABLE.OUT_OF_SERVICE : Field := ⟨PURL_INT_ENABLE, 5, 1⟩
/-- 06_purl_codec.md, Table PURL-17. -/
def PURL_INT_STATUS : Reg := ⟨0x00D000B0, 1, 0, 1, 0, .none,
  [⟨0, 1, .w1c, 0⟩, ⟨1, 1, .w1c, 0⟩, ⟨2, 1, .w1c, 0⟩, ⟨3, 1, .w1c, 0⟩, ⟨4, 1, .w1c, 0⟩, ⟨5, 1, .w1c, 0⟩]⟩
def PURL_INT_STATUS.CONFIG_REFUSED : Field := ⟨PURL_INT_STATUS, 0, 1⟩
def PURL_INT_STATUS.DECODE_FAIL : Field := ⟨PURL_INT_STATUS, 1, 1⟩
def PURL_INT_STATUS.RESEND_FAIL : Field := ⟨PURL_INT_STATUS, 2, 1⟩
def PURL_INT_STATUS.ENC_CHECK : Field := ⟨PURL_INT_STATUS, 3, 1⟩
def PURL_INT_STATUS.SUBSTITUTED : Field := ⟨PURL_INT_STATUS, 4, 1⟩
def PURL_INT_STATUS.OUT_OF_SERVICE : Field := ⟨PURL_INT_STATUS, 5, 1⟩
/-- 06_purl_codec.md, Table PURL-18. -/
def PURL_ENC_IN : Reg := ⟨0x00D000C0, 1, 0, 1, 0, .none,
  [⟨0, 64, .ro, 0⟩]⟩
def PURL_ENC_IN.BYTES : Field := ⟨PURL_ENC_IN, 0, 64⟩
/-- 06_purl_codec.md, Table PURL-18. -/
def PURL_ENC_OUT : Reg := ⟨0x00D000C8, 1, 0, 1, 0, .none,
  [⟨0, 64, .ro, 0⟩]⟩
def PURL_ENC_OUT.BYTES : Field := ⟨PURL_ENC_OUT, 0, 64⟩
/-- 06_purl_codec.md, Table PURL-18. -/
def PURL_DEC_IN : Reg := ⟨0x00D000D0, 1, 0, 1, 0, .none,
  [⟨0, 64, .ro, 0⟩]⟩
def PURL_DEC_IN.BYTES : Field := ⟨PURL_DEC_IN, 0, 64⟩
/-- 06_purl_codec.md, Table PURL-18. -/
def PURL_DEC_OUT : Reg := ⟨0x00D000D8, 1, 0, 1, 0, .none,
  [⟨0, 64, .ro, 0⟩]⟩
def PURL_DEC_OUT.BYTES : Field := ⟨PURL_DEC_OUT, 0, 64⟩
/-- 06_purl_codec.md, Table PURL-18. -/
def PURL_BLOCK_COUNT : Reg := ⟨0x00D000E0, 1, 0, 1, 0, .none,
  [⟨0, 32, .ro, 0⟩, ⟨32, 32, .ro, 0⟩]⟩
def PURL_BLOCK_COUNT.CODED : Field := ⟨PURL_BLOCK_COUNT, 0, 32⟩
def PURL_BLOCK_COUNT.RAW : Field := ⟨PURL_BLOCK_COUNT, 32, 32⟩
/-- 14_time.md, Table TIME-5. -/
def TIME_CTRL : Reg := ⟨0x00E00000, 1, 0, 1, 0, .none,
  [⟨0, 1, .rw, 0⟩, ⟨1, 2, .rw, 0⟩, ⟨3, 1, .rw, 0⟩]⟩
def TIME_CTRL.ENABLE : Field := ⟨TIME_CTRL, 0, 1⟩
def TIME_CTRL.SOURCE : Field := ⟨TIME_CTRL, 1, 2⟩
def TIME_CTRL.OUT_EN : Field := ⟨TIME_CTRL, 3, 1⟩
/-- 14_time.md, Table TIME-5. -/
def TIME_STATUS : Reg := ⟨0x00E00008, 1, 0, 1, 0, .none,
  [⟨0, 1, .ro, 0⟩, ⟨1, 1, .ro, 0⟩, ⟨2, 2, .ro, 0⟩, ⟨4, 1, .ro, 0⟩, ⟨16, 16, .ro, 0⟩, ⟨32, 16, .ro, 0⟩]⟩
def TIME_STATUS.READY : Field := ⟨TIME_STATUS, 0, 1⟩
def TIME_STATUS.VALID : Field := ⟨TIME_STATUS, 1, 1⟩
def TIME_STATUS.SERVO_STATE : Field := ⟨TIME_STATUS, 2, 2⟩
def TIME_STATUS.REF_LOST : Field := ⟨TIME_STATUS, 4, 1⟩
def TIME_STATUS.CONFIG_REASON : Field := ⟨TIME_STATUS, 16, 16⟩
def TIME_STATUS.STEP_COUNT : Field := ⟨TIME_STATUS, 32, 16⟩
/-- 14_time.md, Table TIME-5. -/
def TIME_NOW : Reg := ⟨0x00E00010, 1, 0, 1, 0, .none,
  [⟨0, 64, .ro, 0⟩]⟩
def TIME_NOW.NS : Field := ⟨TIME_NOW, 0, 64⟩
/-- 14_time.md, Table TIME-5. -/
def TIME_NOW_FRAC : Reg := ⟨0x00E00018, 1, 0, 1, 0, .none,
  [⟨0, 40, .ro, 0⟩]⟩
def TIME_NOW_FRAC.FRAC : Field := ⟨TIME_NOW_FRAC, 0, 40⟩
/-- 14_time.md, Table TIME-5. -/
def TIME_INC_NOM : Reg := ⟨0x00E00020, 1, 0, 1, 0, .none,
  [⟨0, 48, .rwl, 0xA3D70A3D71⟩]⟩
def TIME_INC_NOM.INC : Field := ⟨TIME_INC_NOM, 0, 48⟩
/-- 14_time.md, Table TIME-5. -/
def TIME_INC : Reg := ⟨0x00E00028, 1, 0, 1, 0, .none,
  [⟨0, 48, .ro, 0xA3D70A3D71⟩]⟩
def TIME_INC.INC : Field := ⟨TIME_INC, 0, 48⟩
/-- 14_time.md, Table TIME-5. -/
def TIME_SET : Reg := ⟨0x00E00030, 1, 0, 1, 0, .none,
  [⟨0, 64, .wo, 0⟩]⟩
def TIME_SET.NS : Field := ⟨TIME_SET, 0, 64⟩
/-- 14_time.md, Table TIME-5. -/
def TIME_STEP : Reg := ⟨0x00E00038, 1, 0, 1, 0, .none,
  [⟨0, 64, .wo, 0⟩]⟩
def TIME_STEP.DELTA : Field := ⟨TIME_STEP, 0, 64⟩
/-- 14_time.md, Table TIME-5. -/
def TIME_OFFSET : Reg := ⟨0x00E00040, 1, 0, 1, 0, .none,
  [⟨0, 64, .wo, 0⟩]⟩
def TIME_OFFSET.OFFSET : Field := ⟨TIME_OFFSET, 0, 64⟩
/-- 14_time.md, Table TIME-5. -/
def TIME_SERVO_GAIN : Reg := ⟨0x00E00048, 1, 0, 1, 0, .none,
  [⟨0, 32, .rw, 0x1EC0000⟩, ⟨32, 32, .rw, 0x460000⟩]⟩
def TIME_SERVO_GAIN.TRK_KP : Field := ⟨TIME_SERVO_GAIN, 0, 32⟩
def TIME_SERVO_GAIN.TRK_KI : Field := ⟨TIME_SERVO_GAIN, 32, 32⟩
/-- 14_time.md, Table TIME-5. -/
def TIME_SERVO_ACQ : Reg := ⟨0x00E00050, 1, 0, 1, 0, .none,
  [⟨0, 32, .rw, 0x2BF0000⟩, ⟨32, 32, .rw, 0x8D0000⟩]⟩
def TIME_SERVO_ACQ.ACQ_KP : Field := ⟨TIME_SERVO_ACQ, 0, 32⟩
def TIME_SERVO_ACQ.ACQ_KI : Field := ⟨TIME_SERVO_ACQ, 32, 32⟩
/-- 14_time.md, Table TIME-5. -/
def TIME_SERVO_LIMIT : Reg := ⟨0x00E00058, 1, 0, 1, 0, .none,
  [⟨0, 32, .rw, 0x2710⟩, ⟨32, 16, .rw, 0x64⟩, ⟨48, 8, .rw, 8⟩]⟩
def TIME_SERVO_LIMIT.STEP_NS : Field := ⟨TIME_SERVO_LIMIT, 0, 32⟩
def TIME_SERVO_LIMIT.LOCK_NS : Field := ⟨TIME_SERVO_LIMIT, 32, 16⟩
def TIME_SERVO_LIMIT.LOCK_COUNT : Field := ⟨TIME_SERVO_LIMIT, 48, 8⟩
/-- 14_time.md, Table TIME-5. -/
def TIME_HOLD : Reg := ⟨0x00E00060, 1, 0, 1, 0, .none,
  [⟨0, 16, .rw, 0xBB8⟩, ⟨16, 20, .rw, 0x1F4⟩, ⟨36, 8, .rw, 4⟩, ⟨44, 20, .rw, 0x30D40⟩]⟩
def TIME_HOLD.HOLD_TIMEOUT_MS : Field := ⟨TIME_HOLD, 0, 16⟩
def TIME_HOLD.OUTLIER_NS : Field := ⟨TIME_HOLD, 16, 20⟩
def TIME_HOLD.OUTLIER_LIMIT : Field := ⟨TIME_HOLD, 36, 8⟩
def TIME_HOLD.ADJ_MAX_PPB : Field := ⟨TIME_HOLD, 44, 20⟩
/-- 14_time.md, Table TIME-5. -/
def TIME_INTEG : Reg := ⟨0x00E00068, 1, 0, 1, 0, .none,
  [⟨0, 32, .rw, 0⟩]⟩
def TIME_INTEG.INTEG : Field := ⟨TIME_INTEG, 0, 32⟩
/-- 14_time.md, Table TIME-5. -/
def TIME_LAST_OFFSET : Reg := ⟨0x00E00070, 1, 0, 1, 0, .none,
  [⟨0, 64, .ro, 0⟩]⟩
def TIME_LAST_OFFSET.OFFSET : Field := ⟨TIME_LAST_OFFSET, 0, 64⟩
/-- 14_time.md, Table TIME-5. -/
def TIME_CMD : Reg := ⟨0x00E00078, 1, 0, 1, 0, .none,
  [⟨0, 1, .wo, 0⟩, ⟨1, 1, .wo, 0⟩]⟩
def TIME_CMD.HOLD : Field := ⟨TIME_CMD, 0, 1⟩
def TIME_CMD.REACQUIRE : Field := ⟨TIME_CMD, 1, 1⟩
/-- 14_time.md, Table TIME-5. -/
def TIME_ERR_LOG : Reg := ⟨0x00E00080, 1, 0, 1, 0, .none,
  [⟨0, 16, .ro, 0⟩, ⟨16, 6, .ro, 0⟩, ⟨22, 42, .ro, 0⟩]⟩
def TIME_ERR_LOG.REASON : Field := ⟨TIME_ERR_LOG, 0, 16⟩
def TIME_ERR_LOG.UNIT : Field := ⟨TIME_ERR_LOG, 16, 6⟩
def TIME_ERR_LOG.STEP_NS : Field := ⟨TIME_ERR_LOG, 22, 42⟩
/-- 14_time.md, Table TIME-5. -/
def TIME_PPS_IN : Reg := ⟨0x00E00088, 1, 0, 1, 0, .none,
  [⟨0, 64, .ro, 0⟩]⟩
def TIME_PPS_IN.NS : Field := ⟨TIME_PPS_IN, 0, 64⟩
/-- 14_time.md, Table TIME-5. -/
def TIME_PPS_CFG : Reg := ⟨0x00E00090, 1, 0, 1, 0, .none,
  [⟨0, 1, .rw, 0⟩, ⟨1, 15, .rw, 0⟩, ⟨16, 19, .rw, 0x64⟩]⟩
def TIME_PPS_CFG.IN_FALLING : Field := ⟨TIME_PPS_CFG, 0, 1⟩
def TIME_PPS_CFG.IN_COMP_NS : Field := ⟨TIME_PPS_CFG, 1, 15⟩
def TIME_PPS_CFG.OUT_WIDTH_US : Field := ⟨TIME_PPS_CFG, 16, 19⟩
/-- 14_time.md, Table TIME-5. -/
def TIME_TXQ_LO : Reg := ⟨0x00E00098, 1, 0, 1, 0, .none,
  [⟨0, 1, .rc, 0⟩, ⟨1, 4, .rc, 0⟩, ⟨5, 6, .rc, 0⟩, ⟨16, 16, .rc, 0⟩]⟩
def TIME_TXQ_LO.VALID : Field := ⟨TIME_TXQ_LO, 0, 1⟩
def TIME_TXQ_LO.MESSAGE_TYPE : Field := ⟨TIME_TXQ_LO, 1, 4⟩
def TIME_TXQ_LO.UNIT : Field := ⟨TIME_TXQ_LO, 5, 6⟩
def TIME_TXQ_LO.SEQUENCE_ID : Field := ⟨TIME_TXQ_LO, 16, 16⟩
/-- 14_time.md, Table TIME-5. -/
def TIME_TXQ_HI : Reg := ⟨0x00E000A0, 1, 0, 1, 0, .none,
  [⟨0, 64, .ro, 0⟩]⟩
def TIME_TXQ_HI.NS : Field := ⟨TIME_TXQ_HI, 0, 64⟩
/-- 14_time.md, Table text after TIME-5. -/
def TIME_INT_ENABLE : Reg := ⟨0x00E000A8, 1, 0, 1, 0, .none,
  [⟨0, 1, .rw, 0⟩, ⟨1, 1, .rw, 0⟩, ⟨2, 1, .rw, 0⟩, ⟨3, 1, .rw, 0⟩, ⟨4, 1, .rw, 0⟩, ⟨5, 1, .rw, 0⟩, ⟨6, 1, .rw, 0⟩, ⟨7, 1, .rw, 0⟩, ⟨8, 1, .rw, 0⟩]⟩
def TIME_INT_ENABLE.CONFIG_REFUSED : Field := ⟨TIME_INT_ENABLE, 0, 1⟩
def TIME_INT_ENABLE.LOCKED : Field := ⟨TIME_INT_ENABLE, 1, 1⟩
def TIME_INT_ENABLE.HOLDOVER : Field := ⟨TIME_INT_ENABLE, 2, 1⟩
def TIME_INT_ENABLE.STEPPED : Field := ⟨TIME_INT_ENABLE, 3, 1⟩
def TIME_INT_ENABLE.REF : Field := ⟨TIME_INT_ENABLE, 4, 1⟩
def TIME_INT_ENABLE.TXQ_OVERFLOW : Field := ⟨TIME_INT_ENABLE, 5, 1⟩
def TIME_INT_ENABLE.PPS : Field := ⟨TIME_INT_ENABLE, 6, 1⟩
def TIME_INT_ENABLE.DELAY_STEP : Field := ⟨TIME_INT_ENABLE, 7, 1⟩
def TIME_INT_ENABLE.UNIT_FAULT : Field := ⟨TIME_INT_ENABLE, 8, 1⟩
/-- 14_time.md, Table text after TIME-5. -/
def TIME_INT_STATUS : Reg := ⟨0x00E000B0, 1, 0, 1, 0, .none,
  [⟨0, 1, .w1c, 0⟩, ⟨1, 1, .w1c, 0⟩, ⟨2, 1, .w1c, 0⟩, ⟨3, 1, .w1c, 0⟩, ⟨4, 1, .w1c, 0⟩, ⟨5, 1, .w1c, 0⟩, ⟨6, 1, .w1c, 0⟩, ⟨7, 1, .w1c, 0⟩, ⟨8, 1, .w1c, 0⟩]⟩
def TIME_INT_STATUS.CONFIG_REFUSED : Field := ⟨TIME_INT_STATUS, 0, 1⟩
def TIME_INT_STATUS.LOCKED : Field := ⟨TIME_INT_STATUS, 1, 1⟩
def TIME_INT_STATUS.HOLDOVER : Field := ⟨TIME_INT_STATUS, 2, 1⟩
def TIME_INT_STATUS.STEPPED : Field := ⟨TIME_INT_STATUS, 3, 1⟩
def TIME_INT_STATUS.REF : Field := ⟨TIME_INT_STATUS, 4, 1⟩
def TIME_INT_STATUS.TXQ_OVERFLOW : Field := ⟨TIME_INT_STATUS, 5, 1⟩
def TIME_INT_STATUS.PPS : Field := ⟨TIME_INT_STATUS, 6, 1⟩
def TIME_INT_STATUS.DELAY_STEP : Field := ⟨TIME_INT_STATUS, 7, 1⟩
def TIME_INT_STATUS.UNIT_FAULT : Field := ⟨TIME_INT_STATUS, 8, 1⟩
/-- 14_time.md, Table TIME-5. -/
def TIME_TXQ_STATUS : Reg := ⟨0x00E000B8, 1, 0, 1, 0, .none,
  [⟨0, 7, .ro, 0⟩, ⟨7, 1, .w1c, 0⟩, ⟨8, 16, .rc, 0⟩, ⟨24, 32, .ro, 0⟩]⟩
def TIME_TXQ_STATUS.COUNT : Field := ⟨TIME_TXQ_STATUS, 0, 7⟩
def TIME_TXQ_STATUS.OVERFLOW : Field := ⟨TIME_TXQ_STATUS, 7, 1⟩
def TIME_TXQ_STATUS.LOST : Field := ⟨TIME_TXQ_STATUS, 8, 16⟩
def TIME_TXQ_STATUS.SUSPECT_LINKS : Field := ⟨TIME_TXQ_STATUS, 24, 32⟩
/-- 14_time.md, Table TIME-5. -/
def TIME_LAT : Reg := ⟨0x00E01000, 48, 8, 1, 0, .none,
  [⟨0, 16, .rwl, 0⟩, ⟨16, 16, .rwl, 0⟩]⟩
def TIME_LAT.TX_LAT : Field := ⟨TIME_LAT, 0, 16⟩
def TIME_LAT.RX_LAT : Field := ⟨TIME_LAT, 16, 16⟩
/-- 19_observability.md, Table PMON-5. -/
def PMON_CTRL : Reg := ⟨0x00F00000, 1, 0, 1, 0, .none,
  [⟨0, 1, .rw, 0⟩, ⟨1, 1, .rw, 0⟩]⟩
def PMON_CTRL.ENABLE : Field := ⟨PMON_CTRL, 0, 1⟩
def PMON_CTRL.FREEZE : Field := ⟨PMON_CTRL, 1, 1⟩
/-- 19_observability.md, Table PMON-5. -/
def PMON_STATUS : Reg := ⟨0x00F00008, 1, 0, 1, 0, .none,
  [⟨0, 1, .ro, 0⟩, ⟨16, 16, .ro, 0⟩]⟩
def PMON_STATUS.READY : Field := ⟨PMON_STATUS, 0, 1⟩
def PMON_STATUS.CONFIG_REASON : Field := ⟨PMON_STATUS, 16, 16⟩
/-- 19_observability.md, Table PMON-5. -/
def PMON_CAP : Reg := ⟨0x00F00010, 1, 0, 1, 0, .none,
  [⟨0, 10, .ro, 0x200⟩, ⟨10, 7, .ro, 0x40⟩]⟩
def PMON_CAP.COUNTERS : Field := ⟨PMON_CAP, 0, 10⟩
def PMON_CAP.SAMPLERS : Field := ⟨PMON_CAP, 10, 7⟩
/-- 19_observability.md, Table PMON-5. -/
def PMON_SNAP : Reg := ⟨0x00F00018, 1, 0, 1, 0, .none,
  [⟨0, 1, .w1s, 0⟩, ⟨1, 1, .ro, 0⟩, ⟨2, 1, .w1c, 0⟩]⟩
def PMON_SNAP.GO : Field := ⟨PMON_SNAP, 0, 1⟩
def PMON_SNAP.DONE : Field := ⟨PMON_SNAP, 1, 1⟩
def PMON_SNAP.HOLD : Field := ⟨PMON_SNAP, 2, 1⟩
/-- 19_observability.md, Table PMON-5. -/
def PMON_SNAP_TIME : Reg := ⟨0x00F00020, 1, 0, 1, 0, .none,
  [⟨0, 64, .ro, 0⟩]⟩
def PMON_SNAP_TIME.NS : Field := ⟨PMON_SNAP_TIME, 0, 64⟩
/-- 19_observability.md, Table PMON-5. -/
def PMON_BW_WINDOW : Reg := ⟨0x00F00028, 1, 0, 1, 0, .none,
  [⟨0, 30, .rw, 0xF4240⟩]⟩
def PMON_BW_WINDOW.WINDOW_NS : Field := ⟨PMON_BW_WINDOW, 0, 30⟩
/-- 19_observability.md, Table PMON-5. -/
def PMON_OVF : Reg := ⟨0x00F00040, 8, 8, 1, 0, .none,
  [⟨0, 64, .w1c, 0⟩]⟩
def PMON_OVF.OVF : Field := ⟨PMON_OVF, 0, 64⟩
/-- 19_observability.md, Table PMON-5. -/
def PMON_ERR_LOG : Reg := ⟨0x00F00080, 1, 0, 1, 0, .none,
  [⟨0, 16, .ro, 0⟩, ⟨16, 9, .ro, 0⟩]⟩
def PMON_ERR_LOG.REASON : Field := ⟨PMON_ERR_LOG, 0, 16⟩
def PMON_ERR_LOG.INDEX : Field := ⟨PMON_ERR_LOG, 16, 9⟩
/-- 19_observability.md, Table PMON-5. -/
def PMON_INT_ENABLE : Reg := ⟨0x00F000A8, 1, 0, 1, 0, .none,
  [⟨0, 1, .rw, 0⟩, ⟨1, 1, .rw, 0⟩, ⟨2, 1, .rw, 0⟩, ⟨3, 1, .rw, 0⟩, ⟨4, 1, .rw, 0⟩, ⟨5, 1, .rw, 0⟩]⟩
def PMON_INT_ENABLE.CONFIG_REFUSED : Field := ⟨PMON_INT_ENABLE, 0, 1⟩
def PMON_INT_ENABLE.OVERFLOW : Field := ⟨PMON_INT_ENABLE, 1, 1⟩
def PMON_INT_ENABLE.SNAP_DONE : Field := ⟨PMON_INT_ENABLE, 2, 1⟩
def PMON_INT_ENABLE.SAMPLE : Field := ⟨PMON_INT_ENABLE, 3, 1⟩
def PMON_INT_ENABLE.DROPPED : Field := ⟨PMON_INT_ENABLE, 4, 1⟩
def PMON_INT_ENABLE.UNIT_FAULT : Field := ⟨PMON_INT_ENABLE, 5, 1⟩
/-- 19_observability.md, Table PMON-5. -/
def PMON_INT_STATUS : Reg := ⟨0x00F000B0, 1, 0, 1, 0, .none,
  [⟨0, 1, .w1c, 0⟩, ⟨1, 1, .w1c, 0⟩, ⟨2, 1, .w1c, 0⟩, ⟨3, 1, .w1c, 0⟩, ⟨4, 1, .w1c, 0⟩, ⟨5, 1, .w1c, 0⟩]⟩
def PMON_INT_STATUS.CONFIG_REFUSED : Field := ⟨PMON_INT_STATUS, 0, 1⟩
def PMON_INT_STATUS.OVERFLOW : Field := ⟨PMON_INT_STATUS, 1, 1⟩
def PMON_INT_STATUS.SNAP_DONE : Field := ⟨PMON_INT_STATUS, 2, 1⟩
def PMON_INT_STATUS.SAMPLE : Field := ⟨PMON_INT_STATUS, 3, 1⟩
def PMON_INT_STATUS.DROPPED : Field := ⟨PMON_INT_STATUS, 4, 1⟩
def PMON_INT_STATUS.UNIT_FAULT : Field := ⟨PMON_INT_STATUS, 5, 1⟩
/-- 19_observability.md, Table PMON-5. -/
def PMON_RANGE_LO : Reg := ⟨0x00F00100, 16, 0x10, 1, 0, .none,
  [⟨0, 64, .rwl, 0⟩]⟩
def PMON_RANGE_LO.ADDR : Field := ⟨PMON_RANGE_LO, 0, 64⟩
/-- 19_observability.md, Table PMON-5. -/
def PMON_RANGE_HI : Reg := ⟨0x00F00108, 16, 0x10, 1, 0, .none,
  [⟨0, 64, .rwl, 0⟩]⟩
def PMON_RANGE_HI.ADDR : Field := ⟨PMON_RANGE_HI, 0, 64⟩
/-- 19_observability.md, Table PMON-5. -/
def PMON_EVSEL : Reg := ⟨0x00F01000, 512, 0x20, 1, 0, .none,
  [⟨0, 1, .rw, 0⟩, ⟨1, 1, .rwl, 0⟩, ⟨2, 1, .rwl, 0⟩, ⟨8, 16, .rwl, 0⟩]⟩
def PMON_EVSEL.EN : Field := ⟨PMON_EVSEL, 0, 1⟩
def PMON_EVSEL.MODE : Field := ⟨PMON_EVSEL, 1, 1⟩
def PMON_EVSEL.OVF_INT : Field := ⟨PMON_EVSEL, 2, 1⟩
def PMON_EVSEL.EVENT : Field := ⟨PMON_EVSEL, 8, 16⟩
/-- 19_observability.md, Table PMON-5. -/
def PMON_FILT : Reg := ⟨0x00F01008, 512, 0x20, 1, 0, .none,
  [⟨0, 3, .rwl, 7⟩, ⟨3, 1, .rwl, 0⟩, ⟨4, 18, .rwl, 0⟩, ⟨22, 1, .rwl, 0⟩, ⟨23, 6, .rwl, 0⟩, ⟨29, 6, .rwl, 0x3F⟩, ⟨35, 1, .rwl, 0⟩, ⟨36, 8, .rwl, 0⟩, ⟨44, 1, .rwl, 0⟩, ⟨45, 4, .rwl, 0⟩, ⟨49, 1, .rwl, 0⟩]⟩
def PMON_FILT.PRIV_MASK : Field := ⟨PMON_FILT, 0, 3⟩
def PMON_FILT.MASTER_EN : Field := ⟨PMON_FILT, 3, 1⟩
def PMON_FILT.MASTER_MASK : Field := ⟨PMON_FILT, 4, 18⟩
def PMON_FILT.CLASS_EN : Field := ⟨PMON_FILT, 22, 1⟩
def PMON_FILT.CLASS : Field := ⟨PMON_FILT, 23, 6⟩
def PMON_FILT.CLASS_MASK : Field := ⟨PMON_FILT, 29, 6⟩
def PMON_FILT.TENANT_EN : Field := ⟨PMON_FILT, 35, 1⟩
def PMON_FILT.TENANT : Field := ⟨PMON_FILT, 36, 8⟩
def PMON_FILT.RANGE_EN : Field := ⟨PMON_FILT, 44, 1⟩
def PMON_FILT.RANGE : Field := ⟨PMON_FILT, 45, 4⟩
def PMON_FILT.INVERT : Field := ⟨PMON_FILT, 49, 1⟩
/-- 19_observability.md, Table PMON-5. -/
def PMON_CTR : Reg := ⟨0x00F01010, 512, 0x20, 1, 0, .none,
  [⟨0, 64, .rw, 0⟩]⟩
def PMON_CTR.COUNT : Field := ⟨PMON_CTR, 0, 64⟩
/-- 19_observability.md, Table PMON-5. -/
def PMON_SHADOW : Reg := ⟨0x00F01018, 512, 0x20, 1, 0, .none,
  [⟨0, 64, .ro, 0⟩]⟩
def PMON_SHADOW.COUNT : Field := ⟨PMON_SHADOW, 0, 64⟩
/-- 19_observability.md, Table PMON-5. -/
def PMON_BW_TX : Reg := ⟨0x00F06000, 48, 0x20, 1, 0, .none,
  [⟨0, 40, .ro, 0⟩, ⟨40, 24, .ro, 0⟩]⟩
def PMON_BW_TX.LAST : Field := ⟨PMON_BW_TX, 0, 40⟩
def PMON_BW_TX.WINDOWS : Field := ⟨PMON_BW_TX, 40, 24⟩
/-- 19_observability.md, Table PMON-5. -/
def PMON_BW_RX : Reg := ⟨0x00F06008, 48, 0x20, 1, 0, .none,
  [⟨0, 40, .ro, 0⟩, ⟨40, 24, .ro, 0⟩]⟩
def PMON_BW_RX.LAST : Field := ⟨PMON_BW_RX, 0, 40⟩
def PMON_BW_RX.WINDOWS : Field := ⟨PMON_BW_RX, 40, 24⟩
/-- 19_observability.md, Table PMON-5. -/
def PMON_BW_PEAK : Reg := ⟨0x00F06010, 48, 0x20, 1, 0, .none,
  [⟨0, 32, .rc, 0⟩, ⟨32, 32, .rc, 0⟩]⟩
def PMON_BW_PEAK.TX_KIB : Field := ⟨PMON_BW_PEAK, 0, 32⟩
def PMON_BW_PEAK.RX_KIB : Field := ⟨PMON_BW_PEAK, 32, 32⟩
/-- 19_observability.md, Table PMON-5. -/
def SAMP_CFG : Reg := ⟨0x00F07000, 64, 0x40, 1, 0, .none,
  [⟨0, 1, .rw, 0⟩, ⟨8, 24, .rwl, 0x400⟩, ⟨32, 4, .rwl, 8⟩]⟩
def SAMP_CFG.EN : Field := ⟨SAMP_CFG, 0, 1⟩
def SAMP_CFG.PERIOD : Field := ⟨SAMP_CFG, 8, 24⟩
def SAMP_CFG.SIZE_LOG2 : Field := ⟨SAMP_CFG, 32, 4⟩
/-- 19_observability.md, Table PMON-5. -/
def SAMP_MATCH : Reg := ⟨0x00F07008, 64, 0x40, 1, 0, .none,
  [⟨0, 13, .rwl, 0⟩, ⟨13, 13, .rwl, 0⟩, ⟨26, 18, .rwl, 0x3FFFF⟩, ⟨44, 1, .rwl, 0⟩, ⟨45, 8, .rwl, 0⟩]⟩
def SAMP_MATCH.QUEUE : Field := ⟨SAMP_MATCH, 0, 13⟩
def SAMP_MATCH.QUEUE_MASK : Field := ⟨SAMP_MATCH, 13, 13⟩
def SAMP_MATCH.BLOCK_MASK : Field := ⟨SAMP_MATCH, 26, 18⟩
def SAMP_MATCH.TENANT_EN : Field := ⟨SAMP_MATCH, 44, 1⟩
def SAMP_MATCH.TENANT : Field := ⟨SAMP_MATCH, 45, 8⟩
/-- 19_observability.md, Table PMON-5. -/
def SAMP_RING : Reg := ⟨0x00F07010, 64, 0x40, 1, 0, .none,
  [⟨8, 56, .rwl, 0⟩]⟩
def SAMP_RING.ADDR : Field := ⟨SAMP_RING, 8, 56⟩
/-- 19_observability.md, Table PMON-5. -/
def SAMP_PTR : Reg := ⟨0x00F07018, 64, 0x40, 1, 0, .none,
  [⟨0, 16, .ro, 0⟩, ⟨16, 16, .rw, 0⟩]⟩
def SAMP_PTR.WR_PTR : Field := ⟨SAMP_PTR, 0, 16⟩
def SAMP_PTR.RD_PTR : Field := ⟨SAMP_PTR, 16, 16⟩
/-- 19_observability.md, Table PMON-5. -/
def SAMP_COUNT : Reg := ⟨0x00F07020, 64, 0x40, 1, 0, .none,
  [⟨0, 32, .rc, 0⟩, ⟨32, 32, .rc, 0⟩]⟩
def SAMP_COUNT.DROPPED : Field := ⟨SAMP_COUNT, 0, 32⟩
def SAMP_COUNT.SKIPPED : Field := ⟨SAMP_COUNT, 32, 32⟩
/-- 17_power_and_health.md, Table PWR-7. -/
def HLTH_CTRL : Reg := ⟨0x01000000, 1, 0, 1, 0, .none,
  [⟨0, 1, .rw, 0⟩, ⟨1, 1, .rw, 1⟩, ⟨2, 1, .rw, 1⟩]⟩
def HLTH_CTRL.ENABLE : Field := ⟨HLTH_CTRL, 0, 1⟩
def HLTH_CTRL.AUTO_REPLAN : Field := ⟨HLTH_CTRL, 1, 1⟩
def HLTH_CTRL.LOWER_EN : Field := ⟨HLTH_CTRL, 2, 1⟩
/-- 17_power_and_health.md, Table PWR-7. -/
def HLTH_STATUS : Reg := ⟨0x01000008, 1, 0, 1, 0, .none,
  [⟨0, 1, .ro, 0⟩, ⟨1, 1, .ro, 0⟩, ⟨2, 1, .ro, 0⟩, ⟨3, 1, .ro, 0⟩, ⟨4, 1, .ro, 0⟩, ⟨16, 16, .ro, 0⟩]⟩
def HLTH_STATUS.READY : Field := ⟨HLTH_STATUS, 0, 1⟩
def HLTH_STATUS.INPUT_WARN : Field := ⟨HLTH_STATUS, 1, 1⟩
def HLTH_STATUS.HOLDUP_OK : Field := ⟨HLTH_STATUS, 2, 1⟩
def HLTH_STATUS.THROTTLE : Field := ⟨HLTH_STATUS, 3, 1⟩
def HLTH_STATUS.UPDATE_BUSY : Field := ⟨HLTH_STATUS, 4, 1⟩
def HLTH_STATUS.CONFIG_REASON : Field := ⟨HLTH_STATUS, 16, 16⟩
/-- 17_power_and_health.md, Table PWR-7. -/
def HLTH_INPUT : Reg := ⟨0x01000010, 1, 0, 1, 0, .none,
  [⟨0, 16, .ro, 0⟩, ⟨16, 16, .ro, 0⟩, ⟨32, 16, .ro, 0⟩, ⟨48, 16, .rc, 0⟩]⟩
def HLTH_INPUT.VIN_MV : Field := ⟨HLTH_INPUT, 0, 16⟩
def HLTH_INPUT.IIN_CA : Field := ⟨HLTH_INPUT, 16, 16⟩
def HLTH_INPUT.PIN_W : Field := ⟨HLTH_INPUT, 32, 16⟩
def HLTH_INPUT.PEAK_W : Field := ⟨HLTH_INPUT, 48, 16⟩
/-- 17_power_and_health.md, Table PWR-7. -/
def HLTH_POWER : Reg := ⟨0x01000018, 1, 0, 1, 0, .none,
  [⟨0, 11, .rw, 0x5AA⟩]⟩
def HLTH_POWER.PWR_CAP_W : Field := ⟨HLTH_POWER, 0, 11⟩
/-- 17_power_and_health.md, Table PWR-7. -/
def HLTH_HOLDUP : Reg := ⟨0x01000020, 1, 0, 1, 0, .none,
  [⟨0, 16, .ro, 0⟩, ⟨16, 16, .ro, 0⟩, ⟨32, 16, .rwl, 0x2EE0⟩]⟩
def HLTH_HOLDUP.VCAP_MV : Field := ⟨HLTH_HOLDUP, 0, 16⟩
def HLTH_HOLDUP.CAP_UF : Field := ⟨HLTH_HOLDUP, 16, 16⟩
def HLTH_HOLDUP.CAP_MIN_UF : Field := ⟨HLTH_HOLDUP, 32, 16⟩
/-- 17_power_and_health.md, Table PWR-7. -/
def HLTH_THERMAL : Reg := ⟨0x01000028, 1, 0, 1, 0, .none,
  [⟨0, 8, .rw, 0x64⟩, ⟨8, 8, .rw, 0x69⟩, ⟨16, 8, .rw, 0x73⟩]⟩
def HLTH_THERMAL.WARN_C : Field := ⟨HLTH_THERMAL, 0, 8⟩
def HLTH_THERMAL.THROTTLE_C : Field := ⟨HLTH_THERMAL, 8, 8⟩
def HLTH_THERMAL.TRIP_C : Field := ⟨HLTH_THERMAL, 16, 8⟩
/-- 17_power_and_health.md, Table PWR-7. -/
def HLTH_GAUGE_CFG : Reg := ⟨0x01000030, 1, 0, 1, 0, .none,
  [⟨0, 8, .rw, 0x32⟩, ⟨8, 8, .rw, 0x50⟩, ⟨16, 8, .rw, 0x96⟩, ⟨24, 8, .rw, 5⟩, ⟨32, 10, .rwl, 0x352⟩]⟩
def HLTH_GAUGE_CFG.MARGIN_MIN : Field := ⟨HLTH_GAUGE_CFG, 0, 8⟩
def HLTH_GAUGE_CFG.MARGIN_WARN : Field := ⟨HLTH_GAUGE_CFG, 8, 8⟩
def HLTH_GAUGE_CFG.MARGIN_HIGH : Field := ⟨HLTH_GAUGE_CFG, 16, 8⟩
def HLTH_GAUGE_CFG.STEP_MV : Field := ⟨HLTH_GAUGE_CFG, 24, 8⟩
def HLTH_GAUGE_CFG.RAIL_MAX_MV : Field := ⟨HLTH_GAUGE_CFG, 32, 10⟩
/-- 17_power_and_health.md, Table PWR-7. -/
def HLTH_AUDIT : Reg := ⟨0x01000038, 1, 0, 1, 0, .none,
  [⟨0, 16, .rw, 0xE10⟩]⟩
def HLTH_AUDIT.TABLE_AUDIT_S : Field := ⟨HLTH_AUDIT, 0, 16⟩
/-- 17_power_and_health.md, Table PWR-7. -/
def HLTH_CS : Reg := ⟨0x01000040, 1, 0, 1, 0, .none,
  [⟨0, 32, .ro, 0⟩, ⟨32, 1, .ro, 0⟩, ⟨33, 1, .ro, 0⟩, ⟨34, 1, .ro, 0⟩]⟩
def HLTH_CS.SEQ : Field := ⟨HLTH_CS, 0, 32⟩
def HLTH_CS.VALID : Field := ⟨HLTH_CS, 32, 1⟩
def HLTH_CS.CONSUMED : Field := ⟨HLTH_CS, 33, 1⟩
def HLTH_CS.SLOT : Field := ⟨HLTH_CS, 34, 1⟩
/-- 17_power_and_health.md, Table PWR-7. -/
def HLTH_LAST_BINDOFF : Reg := ⟨0x01000048, 1, 0, 1, 0, .none,
  [⟨0, 16, .ro, 0⟩, ⟨16, 16, .ro, 0⟩, ⟨32, 16, .ro, 0⟩, ⟨48, 16, .ro, 0⟩]⟩
def HLTH_LAST_BINDOFF.REASON : Field := ⟨HLTH_LAST_BINDOFF, 0, 16⟩
def HLTH_LAST_BINDOFF.DURATION_MS : Field := ⟨HLTH_LAST_BINDOFF, 16, 16⟩
def HLTH_LAST_BINDOFF.IMAGE_MIB : Field := ⟨HLTH_LAST_BINDOFF, 32, 16⟩
def HLTH_LAST_BINDOFF.VCAP_END_MV : Field := ⟨HLTH_LAST_BINDOFF, 48, 16⟩
/-- 17_power_and_health.md, Table PWR-7. -/
def HLTH_QLOG_BASE : Reg := ⟨0x01000050, 1, 0, 1, 0, .none,
  [⟨6, 58, .rw, 0⟩]⟩
def HLTH_QLOG_BASE.ADDR : Field := ⟨HLTH_QLOG_BASE, 6, 58⟩
/-- 17_power_and_health.md, Table PWR-7. -/
def HLTH_QLOG_PTR : Reg := ⟨0x01000058, 1, 0, 1, 0, .none,
  [⟨0, 4, .rw, 0xA⟩, ⟨4, 1, .w1c, 0⟩, ⟨8, 16, .ro, 0⟩, ⟨24, 16, .rw, 0⟩]⟩
def HLTH_QLOG_PTR.SIZE_LOG2 : Field := ⟨HLTH_QLOG_PTR, 0, 4⟩
def HLTH_QLOG_PTR.OVERFLOW : Field := ⟨HLTH_QLOG_PTR, 4, 1⟩
def HLTH_QLOG_PTR.WR_PTR : Field := ⟨HLTH_QLOG_PTR, 8, 16⟩
def HLTH_QLOG_PTR.RD_PTR : Field := ⟨HLTH_QLOG_PTR, 24, 16⟩
/-- 17_power_and_health.md, Table PWR-7. -/
def HLTH_UPDATE : Reg := ⟨0x01000060, 1, 0, 1, 0, .none,
  [⟨0, 2, .rw, 0⟩, ⟨2, 1, .w1s, 0⟩, ⟨3, 3, .ro, 0⟩, ⟨16, 16, .ro, 0⟩]⟩
def HLTH_UPDATE.OBJECT : Field := ⟨HLTH_UPDATE, 0, 2⟩
def HLTH_UPDATE.GO : Field := ⟨HLTH_UPDATE, 2, 1⟩
def HLTH_UPDATE.STATE : Field := ⟨HLTH_UPDATE, 3, 3⟩
def HLTH_UPDATE.RESULT : Field := ⟨HLTH_UPDATE, 16, 16⟩
/-- 17_power_and_health.md, Table PWR-7. -/
def HLTH_ERR_LOG : Reg := ⟨0x01000080, 1, 0, 1, 0, .none,
  [⟨0, 16, .ro, 0⟩, ⟨16, 2, .ro, 0⟩, ⟨18, 9, .ro, 0⟩]⟩
def HLTH_ERR_LOG.REASON : Field := ⟨HLTH_ERR_LOG, 0, 16⟩
def HLTH_ERR_LOG.PANEL : Field := ⟨HLTH_ERR_LOG, 16, 2⟩
def HLTH_ERR_LOG.GAUGE : Field := ⟨HLTH_ERR_LOG, 18, 9⟩
/-- 17_power_and_health.md, Table PWR-7. -/
def HLTH_COUNT : Reg := ⟨0x01000090, 1, 0, 1, 0, .none,
  [⟨0, 16, .ro, 0⟩, ⟨16, 16, .rc, 0⟩, ⟨32, 16, .rc, 0⟩, ⟨48, 16, .rc, 0⟩]⟩
def HLTH_COUNT.BINDOFFS : Field := ⟨HLTH_COUNT, 0, 16⟩
def HLTH_COUNT.REPLANS : Field := ⟨HLTH_COUNT, 16, 16⟩
def HLTH_COUNT.QUARANTINES : Field := ⟨HLTH_COUNT, 32, 16⟩
def HLTH_COUNT.LOG_LOST : Field := ⟨HLTH_COUNT, 48, 16⟩
/-- 17_power_and_health.md, Table PWR-7. -/
def HLTH_INT_ENABLE : Reg := ⟨0x010000A8, 1, 0, 1, 0, .none,
  [⟨0, 1, .rw, 0⟩, ⟨1, 1, .rw, 0⟩, ⟨2, 1, .rw, 0⟩, ⟨3, 1, .rw, 0⟩, ⟨4, 1, .rw, 0⟩, ⟨5, 1, .rw, 0⟩, ⟨6, 1, .rw, 0⟩, ⟨7, 1, .rw, 0⟩, ⟨8, 1, .rw, 0⟩, ⟨9, 1, .rw, 0⟩, ⟨10, 1, .rw, 0⟩]⟩
def HLTH_INT_ENABLE.CONFIG_REFUSED : Field := ⟨HLTH_INT_ENABLE, 0, 1⟩
def HLTH_INT_ENABLE.INPUT : Field := ⟨HLTH_INT_ENABLE, 1, 1⟩
def HLTH_INT_ENABLE.POWER_CAP : Field := ⟨HLTH_INT_ENABLE, 2, 1⟩
def HLTH_INT_ENABLE.THERMAL : Field := ⟨HLTH_INT_ENABLE, 3, 1⟩
def HLTH_INT_ENABLE.MARGIN : Field := ⟨HLTH_INT_ENABLE, 4, 1⟩
def HLTH_INT_ENABLE.LOG : Field := ⟨HLTH_INT_ENABLE, 5, 1⟩
def HLTH_INT_ENABLE.LOG_LOST : Field := ⟨HLTH_INT_ENABLE, 6, 1⟩
def HLTH_INT_ENABLE.TABLE : Field := ⟨HLTH_INT_ENABLE, 7, 1⟩
def HLTH_INT_ENABLE.UPDATE : Field := ⟨HLTH_INT_ENABLE, 8, 1⟩
def HLTH_INT_ENABLE.RESTORE : Field := ⟨HLTH_INT_ENABLE, 9, 1⟩
def HLTH_INT_ENABLE.STORE : Field := ⟨HLTH_INT_ENABLE, 10, 1⟩
/-- 17_power_and_health.md, Table PWR-7. -/
def HLTH_INT_STATUS : Reg := ⟨0x010000B0, 1, 0, 1, 0, .none,
  [⟨0, 1, .w1c, 0⟩, ⟨1, 1, .w1c, 0⟩, ⟨2, 1, .w1c, 0⟩, ⟨3, 1, .w1c, 0⟩, ⟨4, 1, .w1c, 0⟩, ⟨5, 1, .w1c, 0⟩, ⟨6, 1, .w1c, 0⟩, ⟨7, 1, .w1c, 0⟩, ⟨8, 1, .w1c, 0⟩, ⟨9, 1, .w1c, 0⟩, ⟨10, 1, .w1c, 0⟩]⟩
def HLTH_INT_STATUS.CONFIG_REFUSED : Field := ⟨HLTH_INT_STATUS, 0, 1⟩
def HLTH_INT_STATUS.INPUT : Field := ⟨HLTH_INT_STATUS, 1, 1⟩
def HLTH_INT_STATUS.POWER_CAP : Field := ⟨HLTH_INT_STATUS, 2, 1⟩
def HLTH_INT_STATUS.THERMAL : Field := ⟨HLTH_INT_STATUS, 3, 1⟩
def HLTH_INT_STATUS.MARGIN : Field := ⟨HLTH_INT_STATUS, 4, 1⟩
def HLTH_INT_STATUS.LOG : Field := ⟨HLTH_INT_STATUS, 5, 1⟩
def HLTH_INT_STATUS.LOG_LOST : Field := ⟨HLTH_INT_STATUS, 6, 1⟩
def HLTH_INT_STATUS.TABLE : Field := ⟨HLTH_INT_STATUS, 7, 1⟩
def HLTH_INT_STATUS.UPDATE : Field := ⟨HLTH_INT_STATUS, 8, 1⟩
def HLTH_INT_STATUS.RESTORE : Field := ⟨HLTH_INT_STATUS, 9, 1⟩
def HLTH_INT_STATUS.STORE : Field := ⟨HLTH_INT_STATUS, 10, 1⟩
/-- 17_power_and_health.md, Table PWR-7. -/
def HLTH_PANEL_RAIL : Reg := ⟨0x01000100, 3, 0x20, 1, 0, .none,
  [⟨0, 10, .ro, 0⟩, ⟨16, 10, .ro, 0⟩, ⟨26, 3, .ro, 0⟩]⟩
def HLTH_PANEL_RAIL.TARGET_MV : Field := ⟨HLTH_PANEL_RAIL, 0, 10⟩
def HLTH_PANEL_RAIL.MEASURED_MV : Field := ⟨HLTH_PANEL_RAIL, 16, 10⟩
def HLTH_PANEL_RAIL.BAND : Field := ⟨HLTH_PANEL_RAIL, 26, 3⟩
/-- 17_power_and_health.md, Table PWR-7. -/
def HLTH_PANEL_RATE : Reg := ⟨0x01000108, 3, 0x20, 1, 0, .none,
  [⟨0, 16, .ro, 0⟩, ⟨16, 16, .ro, 0⟩]⟩
def HLTH_PANEL_RATE.RATE : Field := ⟨HLTH_PANEL_RATE, 0, 16⟩
def HLTH_PANEL_RATE.TEMP : Field := ⟨HLTH_PANEL_RATE, 16, 16⟩
/-- 17_power_and_health.md, Table PWR-7. -/
def HLTH_PANEL_PLAN : Reg := ⟨0x01000110, 3, 0x20, 1, 0, .none,
  [⟨0, 10, .ro, 0⟩, ⟨10, 10, .ro, 0⟩, ⟨20, 10, .ro, 0⟩, ⟨30, 10, .ro, 0⟩, ⟨40, 10, .ro, 0⟩, ⟨50, 10, .ro, 0⟩]⟩
def HLTH_PANEL_PLAN.BAND_MV0 : Field := ⟨HLTH_PANEL_PLAN, 0, 10⟩
def HLTH_PANEL_PLAN.BAND_MV1 : Field := ⟨HLTH_PANEL_PLAN, 10, 10⟩
def HLTH_PANEL_PLAN.BAND_MV2 : Field := ⟨HLTH_PANEL_PLAN, 20, 10⟩
def HLTH_PANEL_PLAN.BAND_MV3 : Field := ⟨HLTH_PANEL_PLAN, 30, 10⟩
def HLTH_PANEL_PLAN.BAND_MV4 : Field := ⟨HLTH_PANEL_PLAN, 40, 10⟩
def HLTH_PANEL_PLAN.BAND_MV5 : Field := ⟨HLTH_PANEL_PLAN, 50, 10⟩
/-- 17_power_and_health.md, Table PWR-7. -/
def HLTH_PANEL_MARGIN : Reg := ⟨0x01000118, 3, 0x20, 1, 0, .none,
  [⟨0, 10, .ro, 0⟩, ⟨10, 9, .ro, 0⟩, ⟨19, 45, .ro, 0⟩]⟩
def HLTH_PANEL_MARGIN.MIN_MARGIN : Field := ⟨HLTH_PANEL_MARGIN, 0, 10⟩
def HLTH_PANEL_MARGIN.MIN_GAUGE : Field := ⟨HLTH_PANEL_MARGIN, 10, 9⟩
def HLTH_PANEL_MARGIN.QUAR_BAND : Field := ⟨HLTH_PANEL_MARGIN, 19, 45⟩
/-- 17_power_and_health.md, Table PWR-7. -/
def HLTH_GAUGE : Reg := ⟨0x01001000, 512, 8, 1, 0, .gauge,
  [⟨0, 10, .ro, 0⟩, ⟨10, 10, .ro, 0⟩, ⟨20, 5, .ro, 0⟩, ⟨25, 10, .ro, 0⟩, ⟨35, 2, .ro, 0⟩, ⟨37, 1, .ro, 0⟩, ⟨38, 1, .ro, 0⟩]⟩
def HLTH_GAUGE.MARGIN : Field := ⟨HLTH_GAUGE, 0, 10⟩
def HLTH_GAUGE.MIN_24H : Field := ⟨HLTH_GAUGE, 10, 10⟩
def HLTH_GAUGE.BLOCK : Field := ⟨HLTH_GAUGE, 20, 5⟩
def HLTH_GAUGE.CLUSTER : Field := ⟨HLTH_GAUGE, 25, 10⟩
def HLTH_GAUGE.PANEL : Field := ⟨HLTH_GAUGE, 35, 2⟩
def HLTH_GAUGE.QUARANTINED : Field := ⟨HLTH_GAUGE, 37, 1⟩
def HLTH_GAUGE.PRESENT : Field := ⟨HLTH_GAUGE, 38, 1⟩
/-- 18_gateway_groups.md, Table GRP-5. -/
def GRP_CTRL : Reg := ⟨0x01100000, 1, 0, 1, 0, .none,
  [⟨0, 1, .rw, 0⟩, ⟨1, 1, .rwl, 0⟩, ⟨2, 1, .rw, 1⟩, ⟨3, 1, .rw, 0⟩]⟩
def GRP_CTRL.ENABLE : Field := ⟨GRP_CTRL, 0, 1⟩
def GRP_CTRL.ROLE : Field := ⟨GRP_CTRL, 1, 1⟩
def GRP_CTRL.AUTO_TAKEOVER : Field := ⟨GRP_CTRL, 2, 1⟩
def GRP_CTRL.AUTO_SWAP : Field := ⟨GRP_CTRL, 3, 1⟩
/-- 18_gateway_groups.md, Table GRP-5. -/
def GRP_STATUS : Reg := ⟨0x01100008, 1, 0, 1, 0, .none,
  [⟨0, 1, .ro, 0⟩, ⟨1, 3, .ro, 0⟩, ⟨4, 6, .ro, 0⟩, ⟨16, 16, .ro, 0⟩]⟩
def GRP_STATUS.READY : Field := ⟨GRP_STATUS, 0, 1⟩
def GRP_STATUS.SHADOW_STATE : Field := ⟨GRP_STATUS, 1, 3⟩
def GRP_STATUS.PARTNER_POS : Field := ⟨GRP_STATUS, 4, 6⟩
def GRP_STATUS.CONFIG_REASON : Field := ⟨GRP_STATUS, 16, 16⟩
/-- 18_gateway_groups.md, Table GRP-5. -/
def GRP_CFG : Reg := ⟨0x01100010, 1, 0, 1, 0, .none,
  [⟨0, 7, .rwl, 8⟩, ⟨8, 24, .rwl, 0⟩, ⟨32, 12, .rwl, 0⟩]⟩
def GRP_CFG.GROUP_SIZE : Field := ⟨GRP_CFG, 0, 7⟩
def GRP_CFG.SPARE_EP : Field := ⟨GRP_CFG, 8, 24⟩
def GRP_CFG.MIRROR_CIRCUIT : Field := ⟨GRP_CFG, 32, 12⟩
/-- 18_gateway_groups.md, Table GRP-5. -/
def GRP_TIMERS : Reg := ⟨0x01100018, 1, 0, 1, 0, .none,
  [⟨0, 16, .rw, 0x64⟩, ⟨16, 16, .rw, 0x3E8⟩, ⟨32, 16, .rw, 0x64⟩]⟩
def GRP_TIMERS.HB_US : Field := ⟨GRP_TIMERS, 0, 16⟩
def GRP_TIMERS.FAIL_DETECT_US : Field := ⟨GRP_TIMERS, 16, 16⟩
def GRP_TIMERS.MIRROR_LAG_US : Field := ⟨GRP_TIMERS, 32, 16⟩
/-- 18_gateway_groups.md, Table GRP-5. -/
def GRP_STRAG : Reg := ⟨0x01100020, 1, 0, 1, 0, .none,
  [⟨0, 8, .rw, 0x14⟩, ⟨8, 8, .rw, 3⟩, ⟨16, 32, .rw, 0x2710⟩]⟩
def GRP_STRAG.STRAG_PCT : Field := ⟨GRP_STRAG, 0, 8⟩
def GRP_STRAG.STRAG_STEPS : Field := ⟨GRP_STRAG, 8, 8⟩
def GRP_STRAG.STRAG_MIN_US : Field := ⟨GRP_STRAG, 16, 32⟩
/-- 18_gateway_groups.md, Table GRP-5. -/
def GRP_SHADOW : Reg := ⟨0x01100028, 1, 0, 1, 0, .none,
  [⟨0, 6, .wo, 0⟩, ⟨6, 1, .wo, 0⟩, ⟨7, 1, .wo, 0⟩]⟩
def GRP_SHADOW.POSITION : Field := ⟨GRP_SHADOW, 0, 6⟩
def GRP_SHADOW.GO : Field := ⟨GRP_SHADOW, 6, 1⟩
def GRP_SHADOW.STOP : Field := ⟨GRP_SHADOW, 7, 1⟩
/-- 18_gateway_groups.md, Table GRP-5. -/
def GRP_TAKEOVER : Reg := ⟨0x01100030, 1, 0, 1, 0, .none,
  [⟨0, 6, .wo, 0⟩, ⟨6, 1, .wo, 0⟩]⟩
def GRP_TAKEOVER.POSITION : Field := ⟨GRP_TAKEOVER, 0, 6⟩
def GRP_TAKEOVER.GO : Field := ⟨GRP_TAKEOVER, 6, 1⟩
/-- 18_gateway_groups.md, Table GRP-5. -/
def GRP_MEMBER_BASE : Reg := ⟨0x01100038, 1, 0, 1, 0, .none,
  [⟨6, 58, .rwl, 0⟩]⟩
def GRP_MEMBER_BASE.ADDR : Field := ⟨GRP_MEMBER_BASE, 6, 58⟩
/-- 18_gateway_groups.md, Table GRP-5. -/
def GRP_SILENT : Reg := ⟨0x01100040, 1, 0, 1, 0, .none,
  [⟨0, 64, .ro, 0⟩]⟩
def GRP_SILENT.SILENT : Field := ⟨GRP_SILENT, 0, 64⟩
/-- 18_gateway_groups.md, Table GRP-5. -/
def GRP_ALIAS_EP : Reg := ⟨0x01100048, 1, 0, 1, 0, .none,
  [⟨0, 24, .ro, 0⟩, ⟨24, 9, .ro, 0⟩]⟩
def GRP_ALIAS_EP.BASE : Field := ⟨GRP_ALIAS_EP, 0, 24⟩
def GRP_ALIAS_EP.COUNT : Field := ⟨GRP_ALIAS_EP, 24, 9⟩
/-- 18_gateway_groups.md, Table GRP-5. -/
def GRP_STRAG_STATUS : Reg := ⟨0x01100050, 1, 0, 1, 0, .none,
  [⟨0, 6, .ro, 0⟩, ⟨6, 1, .ro, 0⟩, ⟨8, 8, .ro, 0⟩, ⟨16, 32, .ro, 0⟩]⟩
def GRP_STRAG_STATUS.NOMINEE : Field := ⟨GRP_STRAG_STATUS, 0, 6⟩
def GRP_STRAG_STATUS.VALID : Field := ⟨GRP_STRAG_STATUS, 6, 1⟩
def GRP_STRAG_STATUS.STEPS_OVER : Field := ⟨GRP_STRAG_STATUS, 8, 8⟩
def GRP_STRAG_STATUS.MEDIAN_US : Field := ⟨GRP_STRAG_STATUS, 16, 32⟩
/-- 18_gateway_groups.md, Table GRP-5. -/
def GRP_ERR_LOG : Reg := ⟨0x01100080, 1, 0, 1, 0, .none,
  [⟨0, 16, .ro, 0⟩, ⟨16, 6, .ro, 0⟩, ⟨22, 16, .ro, 0⟩]⟩
def GRP_ERR_LOG.REASON : Field := ⟨GRP_ERR_LOG, 0, 16⟩
def GRP_ERR_LOG.POSITION : Field := ⟨GRP_ERR_LOG, 16, 6⟩
def GRP_ERR_LOG.JOB_ID : Field := ⟨GRP_ERR_LOG, 22, 16⟩
/-- 18_gateway_groups.md, Table GRP-5. -/
def GRP_ERR_STEP : Reg := ⟨0x01100088, 1, 0, 1, 0, .none,
  [⟨0, 32, .ro, 0⟩, ⟨32, 32, .ro, 0⟩]⟩
def GRP_ERR_STEP.STEP : Field := ⟨GRP_ERR_STEP, 0, 32⟩
def GRP_ERR_STEP.CHUNK_ID : Field := ⟨GRP_ERR_STEP, 32, 32⟩
/-- 18_gateway_groups.md, Table GRP-5. -/
def GRP_DIGEST_COUNT : Reg := ⟨0x01100090, 1, 0, 1, 0, .none,
  [⟨0, 32, .ro, 0⟩, ⟨32, 16, .rc, 0⟩, ⟨48, 16, .rc, 0⟩]⟩
def GRP_DIGEST_COUNT.MATCH : Field := ⟨GRP_DIGEST_COUNT, 0, 32⟩
def GRP_DIGEST_COUNT.MISMATCH : Field := ⟨GRP_DIGEST_COUNT, 32, 16⟩
def GRP_DIGEST_COUNT.INCONCLUSIVE : Field := ⟨GRP_DIGEST_COUNT, 48, 16⟩
/-- 18_gateway_groups.md, Table GRP-5. -/
def GRP_COUNT : Reg := ⟨0x01100098, 1, 0, 1, 0, .none,
  [⟨0, 16, .ro, 0⟩, ⟨16, 16, .ro, 0⟩, ⟨32, 16, .rc, 0⟩]⟩
def GRP_COUNT.TAKEOVERS : Field := ⟨GRP_COUNT, 0, 16⟩
def GRP_COUNT.SWAPS : Field := ⟨GRP_COUNT, 16, 16⟩
def GRP_COUNT.BAD_MSG : Field := ⟨GRP_COUNT, 32, 16⟩
/-- 18_gateway_groups.md, Table GRP-5. -/
def GRP_INT_ENABLE : Reg := ⟨0x011000A8, 1, 0, 1, 0, .none,
  [⟨0, 1, .rw, 0⟩, ⟨1, 1, .rw, 0⟩, ⟨2, 1, .rw, 0⟩, ⟨3, 1, .rw, 0⟩, ⟨4, 1, .rw, 0⟩, ⟨5, 1, .rw, 0⟩, ⟨6, 1, .rw, 0⟩]⟩
def GRP_INT_ENABLE.CONFIG_REFUSED : Field := ⟨GRP_INT_ENABLE, 0, 1⟩
def GRP_INT_ENABLE.SILENT : Field := ⟨GRP_INT_ENABLE, 1, 1⟩
def GRP_INT_ENABLE.FAIL : Field := ⟨GRP_INT_ENABLE, 2, 1⟩
def GRP_INT_ENABLE.TAKEOVER : Field := ⟨GRP_INT_ENABLE, 3, 1⟩
def GRP_INT_ENABLE.DIGEST : Field := ⟨GRP_INT_ENABLE, 4, 1⟩
def GRP_INT_ENABLE.STRAGGLER : Field := ⟨GRP_INT_ENABLE, 5, 1⟩
def GRP_INT_ENABLE.SHADOW : Field := ⟨GRP_INT_ENABLE, 6, 1⟩
/-- 18_gateway_groups.md, Table GRP-5. -/
def GRP_INT_STATUS : Reg := ⟨0x011000B0, 1, 0, 1, 0, .none,
  [⟨0, 1, .w1c, 0⟩, ⟨1, 1, .w1c, 0⟩, ⟨2, 1, .w1c, 0⟩, ⟨3, 1, .w1c, 0⟩, ⟨4, 1, .w1c, 0⟩, ⟨5, 1, .w1c, 0⟩, ⟨6, 1, .w1c, 0⟩]⟩
def GRP_INT_STATUS.CONFIG_REFUSED : Field := ⟨GRP_INT_STATUS, 0, 1⟩
def GRP_INT_STATUS.SILENT : Field := ⟨GRP_INT_STATUS, 1, 1⟩
def GRP_INT_STATUS.FAIL : Field := ⟨GRP_INT_STATUS, 2, 1⟩
def GRP_INT_STATUS.TAKEOVER : Field := ⟨GRP_INT_STATUS, 3, 1⟩
def GRP_INT_STATUS.DIGEST : Field := ⟨GRP_INT_STATUS, 4, 1⟩
def GRP_INT_STATUS.STRAGGLER : Field := ⟨GRP_INT_STATUS, 5, 1⟩
def GRP_INT_STATUS.SHADOW : Field := ⟨GRP_INT_STATUS, 6, 1⟩

/-- The registers of block TOP (index 0x00). -/
def topRegs : List Reg :=
  [TOP_ID, TOP_REV, TOP_FW, TOP_SERIAL, TOP_STATE, TOP_CAPCHG, TOP_FAULT, TOP_MYK_CFG, TOP_MYK_STATUS, TOP_MYK_COUNT, TOP_VLOG_BASE, TOP_VLOG_PTR] ++
  [TOP_CORE, TOP_MBOX, TOP_VIOL_COUNT, TOP_INT_ENABLE, TOP_INT_STATUS]
/-- The registers of block INTC (index 0x01). -/
def intcRegs : List Reg :=
  [INTC_CTRL, INTC_STATUS, INTC_CAP, INTC_HOST_MSG, INTC_RAISE, INTC_STATS, INTC_INT_ENABLE, INTC_INT_STATUS, INTC_THRESHOLD, INTC_CLAIM, INTC_COMPLETE, INTC_RUNNING] ++
  [INTC_SRC, INTC_PENDING, INTC_LOST]
/-- The registers of block HOSTQ (index 0x02). -/
def hostqRegs : List Reg :=
  [HOSTQ_CTRL, HOSTQ_STATUS, HOSTQ_CAP, HOSTQ_DB_BASE, HOSTQ_ERR_LOG, HOSTQ_ERR_ADDR, HOSTQ_COUNT, HOSTQ_INT_ENABLE, HOSTQ_INT_STATUS, Q_CFG, Q_SQ, Q_CQ] ++
  [Q_WB, Q_PTR, Q_GROUP, Q_STATUS, Q_COUNT]
/-- The registers of block SCHED (index 0x03). -/
def schedRegs : List Reg :=
  [SCHED_CTRL, SCHED_STATUS, SCHED_CAP, SCHED_ERR_LOG, SCHED_INT_ENABLE, SCHED_INT_STATUS, GATE_CTRL, LIST0_ADDR, LIST1_ADDR, BASE_TIME, GATE_OPEN0, GATE_OPEN1] ++
  [PORT_VT, TENANT_CFG, TENANT_BURST, LQ_CFG, LQ_BURST, POL_CFG, POL_BURST, POL_COUNT, POL_GREEN]
/-- The registers of block SKEIN (index 0x04). -/
def skeinRegs : List Reg :=
  [SKEIN_CTRL, SKEIN_STATUS, SKEIN_ERR_LOG, SKEIN_ERR_HANDLE, SKEIN_COUNT, SKEIN_INT_ENABLE, SKEIN_INT_STATUS, POOL_BASE, POOL_CFG, POOL_RING, POOL_REC, POOL_STATUS] ++
  [CLASS_QUOTA, CLASS_USE]
/-- The registers of block MEM (index 0x05). -/
def memRegs : List Reg :=
  [MEM_CTRL, MEM_STATUS, MEM_CAP, MEM_SRAM_CFG, MEM_REGION0, MEM_REGION1, MEM_SCRUB, MEM_ERR_LOG, MEM_ERR_ADDR, MEM_ECC_COUNT, MEM_REPAIR, MEM_INT_ENABLE] ++
  [MEM_INT_STATUS, MEM_CLASS, MEM_DEV]
/-- The registers of block FAB (index 0x06). -/
def fabRegs : List Reg :=
  [FAB_CTRL, FAB_STATUS, FAB_CAP, FAB_LOCAL_EP, FAB_EPT_BASE, FAB_RT_BASE, FAB_CIRC_BASE, FAB_INGEST_BASE, FAB_FLOW_BASE, FAB_EPOCH, FAB_DRAIN, FAB_LINK_CFG] ++
  [FAB_VC_CREDITS, FAB_ERR_LOG, FAB_ERR_ADDR, FAB_DROP_COUNT, FAB_RETX_COUNT, FAB_INT_ENABLE, FAB_INT_STATUS, FAB_LINK_STATUS, FAB_LINK_COUNT]
/-- The registers of block PHO (index 0x07). -/
def phoRegs : List Reg :=
  [PHO_CTRL, PHO_STATUS, PHO_CAP, PHO_LOCK, PHO_CAL, PHO_TABLE_BASE, PHO_TABLE_CMD, PHO_STEER_CTRL, PHO_LASER_CFG, PHO_HANDOVER, PHO_ERR_LOG, PHO_COUNT] ++
  [PHO_INT_ENABLE, PHO_INT_STATUS, PHO_SOURCE, PHO_STEER, PHO_LINK, PHO_SENSOR]
/-- The registers of block LINE (index 0x08). -/
def lineRegs : List Reg :=
  [LINE_CTRL, LINE_STATUS, LINE_CAP, LINE_ALIGN, LINE_TRAIN, LINE_INT_ENABLE, LINE_INT_STATUS, PORT_CFG, PORT_STATUS, PORT_ID, PORT_CM_CTRL, PORT_SWAP_TIME] ++
  [PORT_CM_GEN, PORT_ERR_LOG, PORT_PM_EF, PORT_PM_ES_SES, PORT_PM_UAS, PORT_FEC, PORT_FAR_EF, PORT_INT_ENABLE, PORT_INT_STATUS, PORT_LANE_CFG, PORT_LANE_STAT, PORT_TXCM0] ++
  [PORT_TXCM1, PORT_RXCM0, PORT_RXCM1, PORT_YARN]
/-- The registers of block XPORT (index 0x09). -/
def xportRegs : List Reg :=
  [XPORT_CTRL, XPORT_STATUS, XPORT_CAP, XPORT_CODE, XPORT_SW, XPORT_RATE, XPORT_TIMERS, XPORT_RETAIN, XPORT_USAGE, XPORT_PEAK, XPORT_MGMT, XPORT_ERR_LOG] ++
  [XPORT_ERR_SEQ, XPORT_CW_COUNT, XPORT_RETX_COUNT, XPORT_DROP_COUNT, XPORT_INT_ENABLE, XPORT_INT_STATUS, PEER_CFG, PEER_STATUS, PEER_RTT, PEER_FLIGHT, PEER_SKEW, JOB_CTRL] ++
  [JOB_PARAM0, JOB_PARAM1, JOB_SEED, JOB_MIRROR, JOB_TMAP, JOB_CTX, JOB_STATUS]
/-- The registers of block CIPH (index 0x0A). -/
def ciphRegs : List Reg :=
  [CIPH_CTRL, CIPH_STATUS, CIPH_CAP, CIPH_STORE_BASE, CIPH_STORE_SIZE, CIPH_LIMIT, CIPH_KEYMAIL, CIPH_KMO_BASE, CIPH_KMO_PTR, CIPH_KMI_BASE, CIPH_KMI_PTR, CIPH_SECURITY] ++
  [CIPH_ERR_LOG, CIPH_ERR_SEQ, CIPH_COUNT, CIPH_KEY_COUNT, CIPH_INT_ENABLE, CIPH_INT_STATUS, CIPH_EXTEND_CMD, CIPH_EXTEND_DATA, CIPH_MEASURE, CIPH_PEER_ID, CIPH_TENANT]
/-- The registers of block BED (index 0x0B). -/
def bedRegs : List Reg :=
  [BED_CTRL, BED_STATUS, BED_CAP, BED_CHECK, BED_SWATCH, BED_SWATCH_BASE, BED_SUBST, BED_GROUP_MAP, BED_ERR_LOG, BED_ERR_ENV, BED_ERR_COUNT, BED_STALL] ++
  [BED_MAC_COUNT, BED_INT_ENABLE, BED_INT_STATUS]
/-- The registers of block STCH (index 0x0C). -/
def stchRegs : List Reg :=
  [STCH_CTRL, STCH_STATUS, STCH_CAP, STCH_CHECK, STCH_SWATCH_BASE, STCH_SLOT_BASE, STCH_SLOT_STATUS, STCH_SUBST, STCH_PANEL_MAP, STCH_NOTICE_BASE, STCH_NOTICE_PTR, STCH_ERR_LOG] ++
  [STCH_ERR_ENV, STCH_ERR_COUNT, STCH_ADD_COUNT, STCH_INT_ENABLE, STCH_INT_STATUS]
/-- The registers of block PURL (index 0x0D). -/
def purlRegs : List Reg :=
  [PURL_CTRL, PURL_STATUS, PURL_CAP, PURL_CFG, PURL_SWATCH_BASE, PURL_SWATCH, PURL_SUBST, PURL_QUAR, PURL_SPARE, PURL_ERR_LOG, PURL_ERR_CHUNK, PURL_ERR_COUNT] ++
  [PURL_RESEND_COUNT, PURL_STALL, PURL_INT_ENABLE, PURL_INT_STATUS, PURL_ENC_IN, PURL_ENC_OUT, PURL_DEC_IN, PURL_DEC_OUT, PURL_BLOCK_COUNT]
/-- The registers of block TIME (index 0x0E). -/
def timeRegs : List Reg :=
  [TIME_CTRL, TIME_STATUS, TIME_NOW, TIME_NOW_FRAC, TIME_INC_NOM, TIME_INC, TIME_SET, TIME_STEP, TIME_OFFSET, TIME_SERVO_GAIN, TIME_SERVO_ACQ, TIME_SERVO_LIMIT] ++
  [TIME_HOLD, TIME_INTEG, TIME_LAST_OFFSET, TIME_CMD, TIME_ERR_LOG, TIME_PPS_IN, TIME_PPS_CFG, TIME_TXQ_LO, TIME_TXQ_HI, TIME_INT_ENABLE, TIME_INT_STATUS, TIME_TXQ_STATUS] ++
  [TIME_LAT]
/-- The registers of block PMON (index 0x0F). -/
def pmonRegs : List Reg :=
  [PMON_CTRL, PMON_STATUS, PMON_CAP, PMON_SNAP, PMON_SNAP_TIME, PMON_BW_WINDOW, PMON_OVF, PMON_ERR_LOG, PMON_INT_ENABLE, PMON_INT_STATUS, PMON_RANGE_LO, PMON_RANGE_HI] ++
  [PMON_EVSEL, PMON_FILT, PMON_CTR, PMON_SHADOW, PMON_BW_TX, PMON_BW_RX, PMON_BW_PEAK, SAMP_CFG, SAMP_MATCH, SAMP_RING, SAMP_PTR, SAMP_COUNT]
/-- The registers of block HLTH (index 0x10). -/
def hlthRegs : List Reg :=
  [HLTH_CTRL, HLTH_STATUS, HLTH_INPUT, HLTH_POWER, HLTH_HOLDUP, HLTH_THERMAL, HLTH_GAUGE_CFG, HLTH_AUDIT, HLTH_CS, HLTH_LAST_BINDOFF, HLTH_QLOG_BASE, HLTH_QLOG_PTR] ++
  [HLTH_UPDATE, HLTH_ERR_LOG, HLTH_COUNT, HLTH_INT_ENABLE, HLTH_INT_STATUS, HLTH_PANEL_RAIL, HLTH_PANEL_RATE, HLTH_PANEL_PLAN, HLTH_PANEL_MARGIN, HLTH_GAUGE]
/-- The registers of block GRP (index 0x11). -/
def grpRegs : List Reg :=
  [GRP_CTRL, GRP_STATUS, GRP_CFG, GRP_TIMERS, GRP_STRAG, GRP_SHADOW, GRP_TAKEOVER, GRP_MEMBER_BASE, GRP_SILENT, GRP_ALIAS_EP, GRP_STRAG_STATUS, GRP_ERR_LOG] ++
  [GRP_ERR_STEP, GRP_DIGEST_COUNT, GRP_COUNT, GRP_INT_ENABLE, GRP_INT_STATUS]
/-- The registers of the block with index `b` (Table SCOPE-3). -/
def regsOfBlock (b : Nat) : List Reg :=
  match b with
  | 0 => topRegs
  | 1 => intcRegs
  | 2 => hostqRegs
  | 3 => schedRegs
  | 4 => skeinRegs
  | 5 => memRegs
  | 6 => fabRegs
  | 7 => phoRegs
  | 8 => lineRegs
  | 9 => xportRegs
  | 10 => ciphRegs
  | 11 => bedRegs
  | 12 => stchRegs
  | 13 => purlRegs
  | 14 => timeRegs
  | 15 => pmonRegs
  | 16 => hlthRegs
  | 17 => grpRegs
  | _ => []

end Csr
end Sys2Proof.Machine
end

