-- ==== Sys2Proof/Machine/State.lean ====
section
/-!
DEFINITION. Machine/State.lean: the state of the gateway, all of it plain data: its registers as one file keyed by
address, its memory as cells, its interrupt controller, queues, schedulers, pools, step records and the other state that
the spec gives each block outside its registers, and the queue of commands that wait.
-/
namespace Sys2Proof.Machine

/-- What stops the machine. -/
inductive Fault where
  /-- Raised by no meaning of this model: the gateway answers what it refuses with an error response, a record or a
  report, and goes on. Safe: a run that stops proves nothing. -/
  | notRaised
  deriving DecidableEq, Repr

/-- Why a command has no next state. -/
inductive Refusal where
  /-- The command has no meaning yet; raised by the arms of `exec` that name it. Safe: nothing is claimed of it. -/
  | notModelled (mnemonic : String)
  deriving DecidableEq, Repr

/-- What leaves the module at its boundary, oldest first in `State.out`. -/
inductive Out where
  /-- A Mykabel message to the host (Table HOST-1): CPL, INTR, MEM_WR or MEM_RD. -/
  | myk (m : MykMsg)
  /-- The answer to a register access of one of the cores (R397): status, reason code and data. -/
  | core (m : Master) (status reason : Nat) (data : Word)
  /-- One transmitted line frame, before the lane code: port, the 256 overhead bytes and the 80 slots. -/
  | frame (port : Nat) (overhead slots : Bytes)
  /-- Codewords of the lane code that a physical lane sends: each 560 ten-bit symbols (R171). -/
  | laneCode (port lane : Nat) (words : List (List Nat))
  /-- The test pattern that a physical lane sends in place of its data for one frame (Table FRAME-17, TEST_TX). -/
  | lanePattern (port lane pattern : Nat)
  /-- A packet sent on a fabric link. -/
  | packet (link : Nat) (bytes : Bytes)
  /-- A control field of a fabric link (Table PHO-1): its kind and value. -/
  | linkField (link kind value : Nat)
  /-- An answer on the management bus (Table MOD-11), or a not-acknowledge when empty. -/
  | smbus (bytes : Bytes)
  /-- What a JTAG instruction shifts out: the IDCODE, or nothing. -/
  | jtag (i : JtagIr) (idcode : Nat)
  /-- The reason reported to module firmware or the driver, where the spec says "reports". -/
  | report (reason : Nat)
  deriving DecidableEq, Repr

/-- An active interrupt source: the target that claimed it and the priority it had at the claim (R405, R411). -/
structure ActiveSrc where
  src : Nat
  target : Nat
  prio : Nat
  deriving DecidableEq, Repr

/-- The interrupt controller outside its registers (R403 to R411). A level source is pending by its condition, so only
event sources are listed. -/
structure IntcSt where
  pending : List Nat := []
  active : List ActiveSrc := []
  /-- highest deliverable host priority at the last INTR decision (R404) -/
  announced : Nat := 0
  deriving DecidableEq, Repr

/-- A read of host memory (R392, R395): its module address and length, and the queue when it fetches a descriptor. -/
structure HostRead where
  addr : Nat
  len : Nat
  queue : Option Nat
  deriving DecidableEq, Repr

/-- The Mykabel link outside its registers (R391 to R396). -/
structure MykSt where
  /-- outstanding MEM_RD requests by tag, at most 1,024 -/
  reads : List (Nat × HostRead) := []
  /-- reads that wait for a tag -/
  toRead : List HostRead := []
  /-- consecutive replays (R391) -/
  replays : Nat := 0
  /-- MEM_WR messages discarded since the last unit of 64 was counted in DROPPED_WR -/
  droppedRem : Nat := 0
  /-- core restarts, gateway time in ns of each, newest first: management core, security core (R413) -/
  restartsMgmt : List Nat := []
  restartsSec : List Nat := []
  deriving DecidableEq, Repr

/-- A descriptor fetched ahead and not dispatched (R352, R499): `work.index` is the ring index, 0xFFFF for a chained one. -/
structure Fetched where
  work : Work
  addr : Nat
  tFetch : Nat
  colour : Nat
  /-- reason the policer refuses it with, 0 for none -/
  refuse : Nat
  /-- sampling units that follow it (R478) -/
  samplers : List Nat
  /-- whether its bytes have arrived from the ring -/
  ready : Bool
  deriving DecidableEq, Repr

/-- A descriptor dispatched to its engine and not completed. -/
structure InFlight where
  work : Work
  tFetch : Nat
  tDispatch : Nat
  colour : Nat
  chained : Bool
  samplers : List Nat
  addr : Nat
  deriving DecidableEq, Repr

/-- How a descriptor ended: what its completion record carries beyond its header (Table QUE-3). -/
structure Result where
  reason : Nat := 0
  error : Bool := false
  warning : Bool := false
  poisoned : Bool := false
  block : Nat := 0
  engine : Nat := 0
  summary : Bytes := []
  deriving DecidableEq, Repr

/-- A descriptor that ended and whose record is not yet written (R356). -/
structure Finished where
  work : Work
  res : Result
  tFetch : Nat
  tDispatch : Nat
  tDone : Nat
  colour : Nat
  chained : Bool
  samplers : List Nat
  /-- refused at a check of R351, before any dispatch -/
  refused : Bool
  deriving DecidableEq, Repr

/-- The queue engines outside their registers. -/
structure HostqSt where
  fetched : List Fetched := []
  dispatched : List InFlight := []
  finished : List Finished := []
  /-- completion doorbells with ARM = 1 not yet used, by queue (R354) -/
  armed : List Nat := []
  /-- descriptors dispatched before bind-off and not completed, by queue (R369) -/
  abandoned : List Work := []
  /-- queues whose CQ_FULL episode has been reported -/
  fullReported : List Nat := []
  /-- queue engines out of service (R347) -/
  enginesOut : List Nat := []
  deriving DecidableEq, Repr

/-- A shard waiting in a line queue for a port (R361): control shards are served first for their tenant. -/
structure LineShard where
  port : Nat
  queue : Nat
  tenant : Nat
  control : Bool
  retransmit : Bool
  bytes : Bytes
  deriving DecidableEq, Repr

/-- A gate list in force or armed on a port (R366, R367): its entries (OPEN mask, INTERVAL_NS) and base time. -/
structure GateList where
  entries : List (Nat × Nat)
  base : Nat
  deriving DecidableEq, Repr

/-- The schedulers outside their registers (R361 to R368). Absent tags are zero. -/
structure SchedSt where
  shards : List LineShard := []
  /-- st[p][t], keyed by (port, tenant) -/
  tagTenant : List ((Nat × Nat) × Nat) := []
  /-- sq[p][q], keyed by (port, queue) -/
  tagQueue : List ((Nat × Nat) × Nat) := []
  /-- vt_ten[p][t], keyed by (port, tenant) -/
  vtTenant : List ((Nat × Nat) × Nat) := []
  /-- gate list in force and gate list armed, by port -/
  gate : List (Nat × GateList) := []
  armedGate : List (Nat × GateList) := []
  /-- policer buckets: (index, tc, te or tp, frac_c, frac_p, last) -/
  buckets : List (Nat × Nat × Nat × Nat × Nat × Nat) := []
  /-- policers whose invalid configuration was reported (0x0309) -/
  badPolicer : List Nat := []
  /-- port and tenant schedulers out of service, tenants whose scheduler failed with none free, and tenants rebound to another
  scheduler (Table QUE-6) -/
  portOut : List Nat := []
  schedOut : List Nat := []
  tenantOut : List Nat := []
  rebound : List (Nat × Nat) := []
  deriving DecidableEq, Repr

/-- A pool's free list (R342): indices never yet handed out start at `fresh`; `ring` holds the indices written back, in
order; `cache` is the 512-entry cache, next to be allocated first. -/
structure PoolSt where
  fresh : Nat := 0
  ring : List Nat := []
  cache : List Nat := []
  stopped : Bool := false
  deriving DecidableEq, Repr

/-- An engine's request that waits for a skein (R337): class, length. -/
structure SkeinWait where
  cls : Nat
  len : Nat
  deriving DecidableEq, Repr

/-- The skein pool managers outside their registers. The records themselves stand in memory (R335). -/
structure SkeinSt where
  pools : Vector PoolSt 5 := .replicate 5 {}
  waiting : List SkeinWait := []
  /-- handles granted to engines and not yet taken, with their class -/
  granted : List (Nat × Nat) := []
  deriving DecidableEq, Repr

/-- Memory outside the registers and cells (R320, R328): corrected errors per row as (row, count, gateway time of the
first), rows pending repair, table areas stopped after an uncorrectable error, and channels whose controller failed. -/
structure MemSt where
  rowErrors : List (Nat × Nat × Nat) := []
  sramPending : List Nat := []
  lpddrPending : List Nat := []
  stoppedTables : List Nat := []
  badChannels : List Nat := []
  deriving DecidableEq, Repr

/-- A chain that a sampling unit follows (R478, R479): first queue, address, stamp, bytes, and its hops so far. -/
structure Sample where
  queue : Nat
  addr : Nat
  tFetch : Nat
  desc : Bytes
  hops : List (Nat × Nat × Nat × Nat)
  truncated : Bool
  deriving DecidableEq, Repr

/-- The performance monitor outside its registers (R471 to R479). -/
structure PmonSt where
  /-- matches since the last selection, by sampling unit -/
  matched : List (Nat × Nat) := []
  following : List (Nat × Sample) := []
  sampleSeq : List (Nat × Nat) := []
  /-- bytes of the present window, by meter: transmit, receive -/
  meterTx : List (Nat × Nat) := []
  meterRx : List (Nat × Nat) := []
  /-- values of the wrapping counters at the snapshot tick, by register address (R476) -/
  latched : List (Nat × Word) := []
  stoppedUnits : List Nat := []
  /-- a snapshot waits for the next tick (R475) -/
  snapDue : Bool := false
  deriving DecidableEq, Repr

/-- A value of an engine's arithmetic: NaN, an infinity, or (−1)^neg × sig × 2^exp; a significand of 0 is a zero (R68 to R71,
R82). -/
inductive Num where
  | nan
  | inf (neg : Bool)
  | fin (neg : Bool) (sig : Nat) (exp : Int)
  deriving DecidableEq, Repr

/-- Δ of a BACKPROJECT with CHAIN, held for the chained successor that its queue and address name (Table BED-2, R97). -/
structure ChainedDelta where
  queue : Nat
  addr : Nat
  rows : Nat
  cols : Nat
  values : List Num
  deriving DecidableEq, Repr

/-- The needle bed outside its registers. -/
structure BedSt where
  chained : List ChainedDelta := []
  /-- next tile of the swatch rotation (R111) -/
  nextTile : Nat := 0
  /-- outputs completed since the last passing swatch (R113): (job, step, round fed), round 3 for UPDATE -/
  suspect : List (Nat × Nat × Nat) := []
  /-- substitution that waits for the next descriptor boundary (R115): group, column -/
  substReq : Option (Nat × Nat) := none
  /-- stalled handshakes below one unit of 1,024 -/
  feedRem : Nat := 0
  drainRem : Nat := 0
  deriving DecidableEq, Repr

/-- A message in a flow's control sequence (R216): the shard that carries it stands in staging at `addr` with its message
sealed or not yet sealed. `own` names ACK and KEEPALIVE, which have counts of their own and are never repeated. -/
structure CtrlOut where
  seq : Nat
  ctype : Nat
  body : Bytes
  /-- port of a KEEPALIVE; the others take the two lowest ports of U -/
  port : Option Nat
  own : Bool
  /-- waits to be sealed and sent -/
  waiting : Bool
  addr : Nat
  deriving DecidableEq, Repr

/-- An open codeword at the receiver (R210, R211): the valid shards held, the shards received so far, and when the first one
arrived. -/
structure OpenCw where
  seq : Nat
  k : Nat
  m : Nat
  shards : List (Nat × Bytes)
  /-- indices received, valid or failed -/
  seen : List Nat
  first : Nat
  nacked : Bool
  /-- discarded at once by the first way of R211 -/
  cut : Bool
  spilled : Bool
  deriving DecidableEq, Repr

/-- One flow: the traffic of a job entry (128 for the gateway-level flow) toward and from one peer. -/
structure Flow where
  /-- transmit: next CW_SEQ, next control sequence, counts of ACK and KEEPALIVE, messages not yet acknowledged -/
  nextCw : Nat := 0
  ctrlNext : Nat := 0
  ackCount : Nat := 0
  keepCount : Nat := 0
  ctrlOut : List CtrlOut := []
  /-- RX_CREDIT_MIB of the last ACK received -/
  credit : Option Nat := none
  /-- code of the previous chunk sent -/
  lastCode : Option (Nat × Nat) := none
  /-- receive: codewords before `cum` are decoded; `decoded` lists those above it -/
  cum : Nat := 0
  decoded : List Nat := []
  openCws : List OpenCw := []
  /-- decoded data not yet released to reassembly, and reassembly in progress: (codewords left, bytes) -/
  ready : List (Nat × Bytes) := []
  part : Option (Nat × Bytes) := none
  /-- next codeword that reassembly takes -/
  nextAsm : Nat := 0
  /-- control sequences received: all before `ctrlCum`, and those listed -/
  ctrlCum : Nat := 0
  ctrlGot : List Nat := []
  /-- entries due in the next ACK: NACKs (CW_SEQ, HAVE) and chunks (STEP, CHUNK_ID) -/
  nacks : List (Nat × Nat) := []
  acks : List (Nat × Nat) := []
  /-- CUM_CW or CTRL_ACK advanced since the last ACK -/
  advanced : Bool := false
  /-- TX_TIME of the newest shard received and its arrival -/
  newest : Option (Nat × Nat) := none
  /-- RESTORE_COUNT of the last FLOW_RESET taken -/
  lastReset : Option Nat := none
  deriving DecidableEq, Repr

/-- A chunk that a SEAL left for the transport (R199): its header and its ciphertext with tag in memory. -/
structure SealedChunk where
  entry : Nat
  peer : Nat
  hdr : Nat
  data : Nat
  ctx : Nat
  slot : Nat
  raw : Bool
  sendCount : Nat
  deriving DecidableEq, Repr

/-- A retention copy (R221): the chunk message of `len` bytes at `addr` of the retention region. -/
structure Retained where
  entry : Nat
  peer : Nat
  step : Nat
  chunk : Nat
  frog : Nat
  addr : Nat
  len : Nat
  cwFirst : Nat
  cwCount : Nat
  k : Nat
  m : Nat
  ctx : Nat
  slot : Nat
  acked : Bool
  deriving DecidableEq, Repr

/-- A chunk received and passed to the cipher (R218): its message at `addr` in staging. Phase 0 waits for OPEN, 1 opened,
2 decoded. -/
structure RxChunk where
  entry : Nat
  site : Nat
  step : Nat
  chunk : Nat
  frog : Nat
  addr : Nat
  len : Nat
  raw : Bool
  phase : Nat
  acked : Bool
  deriving DecidableEq, Repr

/-- A request outstanding for an owed chunk (R164, R220): whether it is a raw resend, and whether it failed again. -/
structure OwedChunk where
  entry : Nat
  site : Nat
  step : Nat
  chunk : Nat
  frog : Nat
  raw : Bool
  failed : Bool
  deriving DecidableEq, Repr

/-- A control message received, verified and not yet acted on. -/
structure CtrlIn where
  entry : Nat
  site : Nat
  ctype : Nat
  seq : Nat
  body : Bytes
  deriving DecidableEq, Repr

/-- A control shard received and waiting for its OPEN: its bytes at `addr` in staging. -/
structure CtrlShard where
  entry : Nat
  site : Nat
  addr : Nat
  len : Nat
  deriving DecidableEq, Repr

/-- What the receiver measures of one port of one peer (R209, R223): the last 64 delays and skews, consecutive shards whose
skew exceeded the window, the time since which the skew has stayed low, and averages of the last 10 ms. -/
structure PortDelay where
  delays : List Int := []
  skews : List Int := []
  lateRun : Nat := 0
  history : List (Nat × Int) := []
  deriving DecidableEq, Repr

/-- A REJOIN message taken from a site (Table XPORT-3). -/
structure RejoinMsg where
  site : Nat
  lastStep : Nat
  lastCommon : Nat
  policy : Nat
  stepped : Bool
  members : Nat
  stale : List Nat
  deriving DecidableEq, Repr

/-- The step record of a job entry (Table STEP-4) with what the gateway keeps to run it. -/
structure StepRec where
  step : Nat := 0
  state : Nat := 0
  firstUse : Bool := false
  stalled : Bool := false
  frogActive : Bool := false
  cleanWait : Bool := false
  partitioned : Bool := false
  frog : Nat := 0
  members : Nat := 0
  reachable : Nat := 0
  stalledSites : Nat := 0
  reason : Nat := 0
  chunks1 : Nat := 0
  chunks2 : Nat := 0
  lastCommon : Nat := 0
  partitionStep : Nat := 0
  tState : Nat := 0
  tOpen : Nat := 0
  /-- time spent in INGEST, LOCAL_2, UPDATE and RETURN, and when the present state was entered, in ns of R375 (R467) -/
  workNs : Nat := 0
  enteredAt : Nat := 0
  stallMs : Nat := 0
  stallAt : Nat := 0
  sent : Nat := 0
  received : Nat := 0
  stale : List Nat := List.replicate 16 0
  updateSeq : Nat := 0
  /-- JOB_PARAM0 and JOB_PARAM1 as the present step took them (R51), and POLICY in force -/
  param0 : Nat := 0
  param1 : Nat := 0
  policy : Nat := 1
  /-- state that HELD was entered from -/
  heldFrom : Nat := 0
  /-- OPEN descriptors held until the step is CLOSED (R42) -/
  heldOpens : List Work := []
  /-- last opened step (R33), and the step that a ROLLBACK resume or a reconciliation allows -/
  lastOpened : Nat := 0
  allowStep : Nat := 0
  /-- reduced chunks held and clean marks held, by chunk ID; owned chunks reduced here, by chunk ID -/
  held : List Nat := []
  clean : List Nat := []
  reduced : List Nat := []
  /-- members that apply from the next OPEN (Table XPORT-16) -/
  nextMembers : Option Nat := none
  /-- whether a step closed while PARTITIONED (R227), and the side's STALE count at its closes -/
  stepped : Bool := false
  rejoins : List RejoinMsg := []
  /-- sites whose rejoin waits for the next CLOSED -/
  rejoinDue : Nat := 0
  /-- reconciliation weights by side, which the gateway hands to the stitch units (R59): members of the side and its FP32 weight -/
  weights : List (Nat × Nat) := []
  /-- residuals and warm-start matrices are cleared before the next step (R39, R61, R64) -/
  fresh : Bool := true
  deriving DecidableEq, Repr

/-- The transport engines and the outer steps outside their registers. -/
structure XportSt where
  flows : List ((Nat × Nat) × Flow) := []
  jobs : List (Nat × StepRec) := []
  sealed : List SealedChunk := []
  retained : List Retained := []
  rxChunks : List RxChunk := []
  owed : List OwedChunk := []
  inbox : List CtrlIn := []
  ctrlIn : List CtrlShard := []
  ports : List ((Nat × Nat) × PortDelay) := []
  /-- (port, yarn) pairs that search for a shard header (R203) -/
  unsynced : List (Nat × Nat) := []
  /-- peers whose first RTT sample has arrived (Table XPORT-4) -/
  rttKnown : List Nat := []
  /-- control sequence of the last PORT_STATE taken, by peer, and (peer, port, sequence) of ports that left FAR_DOWN and wait
  for a newer one (R207) -/
  portStateSeq : List (Nat × Nat) := []
  farWait : List ((Nat × Nat) × Nat) := []
  /-- the peer's DOWN and LATE masks -/
  peerBad : List (Nat × Nat) := []
  /-- flows held for too few ports or for retention, reported once: (entry, peer) -/
  heldFlows : List (Nat × Nat) := []
  /-- last T_SEND of our KEEPALIVEs by peer and the last received: T_SEND, arrival -/
  keepSent : List (Nat × Nat) := []
  /-- gateway time of the last completed keepalive exchange, by peer (R225) -/
  contact : List (Nat × Nat) := []
  /-- chunks that their source produces again (R220, R222): entry, peer, chunk ID, and SEND_COUNT of the new message -/
  again : List (Nat × Nat × Nat × Nat) := []
  /-- chunks to send again from retention (R220, R228): entry, peer, step, chunk ID -/
  resend : List (Nat × Nat × Nat × Nat) := []
  keepGot : List (Nat × Nat × Nat) := []
  /-- a stop of coders and engines (R230) -/
  stoppedUnits : List Nat := []
  /-- flows are to be reset at XPORT enable (R229) -/
  resetDue : Bool := false
  deriving DecidableEq, Repr

/-- A term accepted into a reduction slot (R122, R125). -/
structure SlotTerm where
  work : Work
  site : Nat
  kind : Nat
  deriving DecidableEq, Repr

/-- A reduction slot (R122): the fields its first descriptor gave it, its cluster, the terms accepted in order, the FP32
partial sums (codes, none before the first term of nonzero weight), and whether it has completed. -/
structure Slot where
  index : Nat
  job : Nat
  step : Nat
  chunk : Nat
  frog : Nat
  expect : Nat
  elements : Nat
  fmtOut : Nat
  rmode : Nat
  addrOut : Nat
  tensor : Nat
  offset : Nat
  cluster : Nat
  terms : List SlotTerm
  sums : Option (List Nat)
  done : Bool
  deriving DecidableEq, Repr

/-- The stitch units outside their registers. -/
structure StchSt where
  slots : List Slot := []
  /-- ACCUMULATE descriptors that wait for a slot held for its clean mark, or for a free slot (R122) -/
  waiting : List Work := []
  /-- next vector of each cluster's rotation -/
  nextVector : List (Nat × Nat) := []
  /-- notice sequence (Table STCH-6) -/
  noticeSeq : Nat := 0
  deriving DecidableEq, Repr

/-- A chunk decode whose first attempt failed, waiting for a second one (R161): the descriptor, the reason and block met, and
the cluster of the first. -/
structure Redecode where
  work : Work
  reason : Nat
  block : Nat
  cluster : Nat
  deriving DecidableEq, Repr

/-- The codec outside its registers. -/
structure PurlSt where
  redecode : List Redecode := []
  inRem : Nat := 0
  outRem : Nat := 0
  deriving DecidableEq, Repr

/-- One key slot of a context (R244). -/
structure KeySlot where
  valid : Bool := false
  key : Bytes := []
  salt : Nat := 0
  ctr : Nat := 0
  bytes : Nat := 0
  gen : Nat := 0
  deriving DecidableEq, Repr

/-- A cipher context (Table CIPH-3). -/
structure Ctx where
  tenant : Nat
  rx : Bool
  active : Nat
  pinned : Bool
  peer : Nat
  rekey : Nat
  job : Nat
  slot0 : KeySlot
  slot1 : KeySlot
  deriving DecidableEq, Repr

/-- A ledger entry (R242): generation and mark H of a context's slot, and the mark being written, with whether its write has
failed. -/
structure Ledger where
  ctx : Nat
  slot : Nat
  gen : Nat
  h : Nat
  writing : Option Nat
  failed : Bool
  deriving DecidableEq, Repr

/-- An establishment in progress of a context pair (Table CIPH-8): the pair is named by job entry (128 gateway-level) and
peer; `dk` and `ek` are the initiator's key pair. -/
structure Establish where
  entry : Nat
  peer : Nat
  gen : Nat
  ek : Bytes
  dk : Bytes
  /-- the KDF context of the keys derived, empty before (R259) -/
  kctx : Bytes
  /-- own old transmit slot retired, peer's RETIRE received -/
  ownRetired : Bool
  peerRetired : Bool
  deriving DecidableEq, Repr

/-- The cipher outside its registers. -/
structure CiphSt where
  /-- resident contexts, least recently used first -/
  resident : List (Nat × Ctx) := []
  /-- IDs of VALID contexts, resident or in the store -/
  valid : List Nat := []
  ledger : List Ledger := []
  establish : List Establish := []
  /-- seals that wait for a ledger write (R242) -/
  waiting : List Work := []
  wrapCtr : Nat := 0
  /-- misses below one unit of 16 -/
  missRem : Nat := 0
  /-- session key pair of this module, of each peer; last MAIL_SEQ accepted and sent, by peer -/
  sessionPk : Bytes := []
  sessionSk : Bytes := []
  sessionGen : Nat := 0
  peerSession : List (Nat × Bytes) := []
  mailIn : List (Nat × Nat) := []
  mailOut : List (Nat × Nat) := []
  /-- envelopes that wait for a slot of the outgoing ring -/
  mailHeld : List Bytes := []
  quoteSeq : Nat := 0
  /-- pipelines stopped (R238): transmit 0-31, receive 32-63 -/
  stopped : List Nat := []
  /-- slots whose warning limit has been reported (R241): context, slot -/
  warned : List (Nat × Nat) := []
  /-- owner anchor hash in force, zero for none (R265) -/
  ownerHash : Bytes := List.replicate 32 0
  deriving DecidableEq, Repr
/-- Blocks, by index, whose configuration check runs, and whose disable drains (R398 to R400); and the decisions of the
management core and the security core that wait for their core (R413). -/
structure CtlSt where
  checking : List Nat := []
  draining : List Nat := []
  waitMgmt : List Instr := []
  waitSec : List Instr := []
  deriving DecidableEq, Repr
/-- A packet of a transmit flow (R282 to R286): queued, or sent and not acknowledged. -/
structure FabPkt where
  opcode : Nat
  tenant : Nat
  remote : Nat
  payload : Bytes
  last : Bool
  circuit : Option Nat
  /-- communication descriptor it belongs to, by number -/
  msg : Option Nat
  seq : Nat := 0
  epoch : Nat := 0
  sent : Bool := false
  /-- waits to be sent, or sent again -/
  due : Bool := true
  deriving DecidableEq, Repr

/-- A transmit flow: next SEQ, whether its next packet carries SYNC, the link in use, and its packets in order. -/
structure FabTx where
  next : Nat := 0
  syncDue : Bool := true
  link : Option Nat := none
  pkts : List FabPkt := []
  deriving DecidableEq, Repr

/-- A packet held ahead of its flow's expected SEQ (R285): SEQ, link and the whole packet. -/
structure FabHeld where
  seq : Nat
  link : Nat
  bytes : Bytes
  deriving DecidableEq, Repr

/-- A receive flow: the expected SEQ, and the packets held ahead of it. -/
structure FabRx where
  expected : Nat
  held : List FabHeld
  deriving DecidableEq, Repr

/-- A flow's name (R283): SRC, DST, CLASS, CHANNEL. -/
structure FlowKey where
  src : Nat
  dst : Nat
  cls : Nat
  ch : Nat
  deriving DecidableEq, Repr

/-- A communication descriptor in progress (R359): its number, and packets not yet acknowledged. -/
structure FabMsg where
  id : Nat
  work : Work
  left : Nat
  deriving DecidableEq, Repr

/-- An open circuit (R289): its index, bandwidth, links and peer. -/
structure Circuit where
  index : Nat
  bw : Nat
  mask : Nat
  peer : Nat
  deriving DecidableEq, Repr

/-- The fabric side outside its registers and tables. -/
structure FabSt where
  tx : List (FlowKey × FabTx) := []
  rx : List (FlowKey × FabRx) := []
  /-- ACK and NACK packets that wait for a credit or a link -/
  replies : List (FlowKey × FabPkt) := []
  msgs : List FabMsg := []
  nextMsg : Nat := 0
  /-- credits in use, by (fibre pair, virtual channel) -/
  vcUsed : List ((Nat × Nat) × Nat) := []
  /-- links that wait for hop credits, since when; and waits below one unit of 1,024 ns -/
  stall : List (Nat × Nat) := []
  stallRem : List (Nat × Nat) := []
  circuits : List Circuit := []
  /-- window reservations (R283): endpoint, requester class, bytes -/
  reserve : List (Nat × Nat × Nat) := []
  /-- CIRCUIT_OPEN descriptors that wait for a circuit to close (R279) -/
  waiting : List Work := []
  /-- the management ring, oldest first: payload with the timestamp of an event message (R287, R383) -/
  mgmt : List Bytes := []
  /-- reply space reserved by READ_REQ packets (R283): address, length -/
  reads : List (Nat × Nat) := []
  deriving DecidableEq, Repr

/-- An entry of the transmit-timestamp queue (R384). -/
structure TxStamp where
  type : Nat
  unit : Nat
  seqId : Nat
  ns : Nat
  deriving DecidableEq, Repr

/-- Time outside its registers. -/
structure TimeSt where
  /-- ticks of the time clock since power-on (R373, R375) -/
  ticks : Nat := 0
  txq : List TxStamp := []
  /-- event-message timestamps of a link still to be marked SUSPECT (R381) -/
  suspect : List (Nat × Nat) := []
  unitsOut : List Nat := []
  /-- servo (R378): previous used sample in 2^-16 ns, outliers in a row, samples within LOCK_NS in a row -/
  oPred : Int := 0
  outliers : Nat := 0
  lockN : Nat := 0
  /-- why HOLDOVER was entered (Table TIME-1): 1 no sample in time, 2 outliers, 3 REFCLK, 4 HOLD; and REACQUIRE written -/
  cause : Nat := 0
  reacquire : Bool := false
  /-- the PPS_OUT pin -/
  ppsOut : Bool := false
  deriving DecidableEq, Repr

/-- An item mirrored to the spare and not acknowledged (R462, R463); for a chunk, the job entry and site whose flow it will be
acknowledged on. -/
structure MirrorItem where
  job : Nat
  step : Nat
  chunk : Nat
  site : Nat
  order : Nat
  ackTo : Option (Nat × Nat)
  /-- the spare has acknowledged it -/
  done : Bool := false
  deriving DecidableEq, Repr

/-- A chunk digest (R464). -/
structure Digest where
  job : Nat
  step : Nat
  chunk : Nat
  value : Bytes
  /-- on a mismatch: whether the spare's swatches fail, and the partner's -/
  spareFails : Bool := false
  partnerFails : Bool := false
  deriving DecidableEq, Repr

/-- The gateway group outside its registers (spec/18_gateway_groups.md). -/
structure GrpSt where
  /-- last group-message sequence sent -/
  seq : Nat := 0
  /-- a spare shadows this gateway, which mirrors and gates what it acknowledges (R462, R463) -/
  shadowed : Bool := false
  items : List MirrorItem := []
  /-- receive CUM_CW and CTRL_ACK of the last acknowledged FLOW message, by (entry, peer) -/
  flowAcked : List ((Nat × Nat) × (Nat × Nat)) := []
  /-- at the spare: the entries of the last FLOW message: line queue index, CUM_CW, control sequence, CTRL_ACK -/
  flow : List (Nat × Nat × Nat × Nat) := []
  /-- digests that wait for their counterpart: this gateway's, and the partner's -/
  own : List Digest := []
  theirs : List Digest := []
  /-- reports at the spare: job, step, position, WORK_US; steps over the median in a row, by (job, position) -/
  reports : List (Nat × Nat × Nat × Nat) := []
  overs : List ((Nat × Nat) × Nat) := []
  /-- the takeover in progress ends a straggler swap -/
  swap : Bool := false
  /-- steps closed since SHADOWING began -/
  shadowSteps : Nat := 0
  deriving DecidableEq, Repr

/-- What a committed critical-state slot holds (Table PWR-2): the registers that restore applies, the contexts, the retention
index, the step records, the gauge history, the health log tail, the descriptors in flight at the trigger, and the establishments
in progress (R250). -/
structure CritImage where
  seq : Nat
  consumed : Bool := false
  csr : List (Nat × Word) := []
  wrapped : List (Nat × Bytes) := []
  wrapCtr : Nat := 0
  retained : List Retained := []
  jobs : List (Nat × StepRec) := []
  history : List (Nat × Nat × Nat × Nat) := []
  logTail : List Bytes := []
  inFlight : List Work := []
  establish : List Establish := []
  deriving DecidableEq, Repr

/-- The persistence store (R420, R425, R441 to R445, R455): it keeps its content through resets. -/
structure StoreSt where
  slot0 : Option CritImage := none
  slot1 : Option CritImage := none
  /-- reason that the next cast-on reports of the last bind-off (R442), 0 for none -/
  lastReport : Nat := 0
  /-- margin plans by (panel, band), where they differ from the factory plan -/
  plans : List ((Nat × Nat) × Nat) := []
  floorSec : Nat := 0
  floorMgmt : Nat := 0
  /-- the banks of each object, and the firmware banks in use -/
  secFw : Banks := {}
  mgmtFw : Banks := {}
  manifests : Banks := {}
  bundles : Banks := {}
  secBank : Bool := false
  mgmtBank : Bool := false
  /-- a training record is saved and valid; a full test has passed; the last cast-on failed in MEMTRAIN or MEMTEST -/
  trained : Bool := false
  fullPassed : Bool := false
  memFailed : Bool := false
  deriving DecidableEq, Repr

/-- Cast-on outside the registers (spec/16_cast_on.md). -/
structure BootSt where
  /-- bodies of the objects in force, empty for none -/
  manifest : Bytes := []
  bundle : Bytes := []
  /-- permitted features F (R422) -/
  features : Nat := 0
  /-- whether training and test of this cast-on are full (R425) -/
  fullTrain : Bool := false
  fullTest : Bool := false
  /-- what has been staged through the host mailbox (R421) -/
  staged : Option SignedObj := none
  /-- blocks that the bundle enables, stage of R432 in progress, and blocks of the stage that still wait for their turn -/
  enables : List Nat := []
  stage : Nat := 0
  turn : List Nat := []
  confirmed : List TableUnit := []
  resent : List (TableUnit × Nat) := []
  disabled : List TableUnit := []
  /-- the critical-state slot that RESTORE applied (R431) -/
  restored : Option Bool := none
  deriving DecidableEq, Repr

/-- A live update in progress (R452, R453): object, version, digest. -/
structure Update where
  object : Nat
  version : Nat
  digest : Bytes
  deriving DecidableEq, Repr

/-- Power and health outside the registers (spec/17_power_and_health.md, spec/20_module_reference.md). -/
structure HlthSt where
  logSeq : Nat := 0
  logTail : List Bytes := []
  /-- bind-off runs, or has ended and waits for a restart -/
  bindingOff : Bool := false
  /-- the critical-state slot that the bind-off saved into (R439) -/
  savedSlot : Option Bool := none
  /-- the commit record of the bind-off is not yet written -/
  committing : Bool := false
  /-- PWR_GOOD released, RESET_N high -/
  pwrGood : Bool := false
  resetHigh : Bool := false
  /-- 5 s have passed since PWR_GOOD without HOLDUP_OK (R488, R491) -/
  chargeLate : Bool := false
  /-- RESET_N cut a cast-on short (R415) -/
  castCut : Bool := false
  /-- clusters quarantined so far, (block, cluster), each time once (R451) -/
  quarantined : List (Nat × Nat) := []
  /-- samples in a row below MARGIN_MIN at RAIL_MAX_MV, by gauge -/
  lowRun : List (Nat × Nat) := []
  /-- per gauge, the samples of the last 24 h that no later sample undercuts: (time, margin) -/
  mins : List (Nat × List (Nat × Nat)) := []
  /-- the hour in progress per gauge: (hour, lowest margin, temperature, rail); and the hours gone, with their gauge first -/
  hour : List (Nat × (Nat × Nat × Nat × Nat)) := []
  history : List (Nat × Nat × Nat × Nat) := []
  /-- time of a plan's last change, by (panel, band) -/
  planAt : List ((Nat × Nat) × Nat) := []
  /-- dispatch held at the power cap (R438); panels above WARN_C, and above THROTTLE_C (R448) -/
  capHold : Bool := false
  warm : List Nat := []
  hot : List Nat := []
  update : Option Update := none
  /-- health log tail that restore brought back, to be written to the ring at HLTH enable (R443) -/
  restoredTail : List Bytes := []
  /-- the instruction in the JTAG port -/
  jtag : JtagIr := .idcode
  deriving DecidableEq, Repr


/-- A received frame held until the next frame's overhead arrives (R178): its yarn bytes, the CRC-32C of its bytes
256-65,535, and whether it is errored by what was seen of it. -/
structure HeldFrame where
  pieces : List (Nat × Bytes)
  crc : Nat
  errored : Bool
  deriving DecidableEq, Repr

/-- A shard in a transmit yarn buffer, and whether some of its bytes have been sent (R366). -/
structure TxShard where
  bytes : Bytes
  started : Bool
  deriving DecidableEq, Repr

/-- One second of a port's performance record that has not settled (R181 to R183). -/
structure PerfSecond where
  es : Bool
  ses : Bool
  uas : Bool
  deriving DecidableEq, Repr

/-- The lane encoder of one transmit lane (R171): message symbols not yet coded, loose bits below a symbol, and the
scrambler's 58 bits. -/
structure LaneTx where
  symbols : List Nat := []
  bits : List Bool := []
  scrambler : Nat := 0
  /-- bytes until the next probe alignment word on a probe lane (R191) -/
  probe : Nat := 0
  deriving DecidableEq, Repr

/-- One line port outside its registers. -/
structure LinePort where
  /-- transmitter: frame count, CRC of the last frame's bytes 256-65,535, errored frames since the last overhead -/
  frameCount : Nat := 0
  prevCrc : Nat := 0
  rei : Nat := 0
  /-- c of CONFIRM or e of IN_FRAME (Table FRAME-6) -/
  count : Nat := 0
  held : Option HeldFrame := none
  /-- transmit yarn buffers and received yarn byte streams; a received piece carries its frame's errored mark -/
  txYarn : List (Nat × List TxShard) := []
  rxYarn : List (Nat × List (Bytes × Bool)) := []
  /-- performance: errored frames and frames of the present second, run of SES or of non-SES, unsettled seconds -/
  efSecond : Nat := 0
  framesSecond : Nat := 0
  run : Nat := 0
  unsettled : List PerfSecond := []
  /-- physical lanes with alignment-word lock: (lane, width code, position, skew) -/
  laws : List (Nat × Nat × Nat × Nat) := []
  /-- lanes whose signal was lost, with the gateway time of the loss; equalisation is held for 1 s (R172) -/
  lossAt : List (Nat × Nat) := []
  /-- lanes with adapted equaliser settings -/
  adapted : List Nat := []
  lanes : List LaneTx := List.replicate 8 {}
  /-- out of service after a unit fault (Table FRAME-8) -/
  stopped : Bool := false
  deriving DecidableEq, Repr
/-- One direction of a link (R300, R306, R308): the wavelength of each lane, the spare, what the spare is used for (0 free,
1 calibration, 2 a failed wavelength), the next wavelength of the rotation, and the wavelength under calibration. -/
structure PhoDir where
  lanes : List Nat := []
  spare : Option Nat := none
  use : Nat := 0
  next : Nat := 0
  cal : Option Nat := none
  deriving DecidableEq, Repr

/-- A laser handover (Table PHO-4): position, the spare chosen, the source it replaces, and whether QUIET has been sent. -/
structure Handover where
  position : Fin 8
  spare : Fin 10
  old : Fin 10
  announced : Bool
  deriving DecidableEq, Repr

/-- The photonic engines outside their registers. -/
structure PhoSt where
  /-- (link, direction): 0 transmit, 1 receive -/
  dirs : List ((Nat × Nat) × PhoDir) := []
  /-- bank entries in force, and banks to be read at their next update (R304) -/
  banks : List (Nat × Bytes) := []
  reload : List Nat := []
  /-- updates in a row with an error above 8 GHz, by (bank, ring); rings unlocked -/
  high : List ((Nat × Nat) × Nat) := []
  unlocked : List (Nat × Nat) := []
  /-- heater efficiencies and heater drives, by (bank, ring) (R303) -/
  eff : List ((Nat × Nat) × Nat) := []
  heater : List ((Nat × Nat) × Nat) := []
  /-- banks whose rings have all locked once -/
  locked : List Nat := []
  /-- the fastest temperature change of the last sample, in 0.001 °C/ms -/
  rate : Nat := 0
  /-- a re-steer: links whose fibre pair changes; links still QUIET after it -/
  affected : List (Fin 32) := []
  late : List (Fin 32) := []
  hand : Option Handover := none
  /-- spares kept warm, and sources at their warning level -/
  warm : List Nat := []
  warned : List Nat := []
  stopped : List Nat := []
  deriving DecidableEq, Repr


/-- The state of the gateway. -/
structure State where
  /-- commands that wait, first in, first out -/
  pending : List Instr := []
  /-- registers that differ from their reset value: (address, word), addresses rising -/
  csr : List (Nat × Word) := []
  /-- memory bytes that are not zero, addresses rising: SRAM, LPDDR5X and the host memory the gateway has written -/
  mem : List Host.Cell := []
  /-- addresses of bytes that carry the poison mark (R21, R22, R327) -/
  poison : List Nat := []
  /-- what has left the module, oldest first -/
  out : List Out := []
  /-- the model's own counter of free values taken (log entry 3) -/
  freeCtr : Nat := 0
  /-- fraction of gateway time, 2^-40 ns (R374) -/
  timeFrac : BitVec 40 := 0
  intc : IntcSt := {}
  myk : MykSt := {}
  hostq : HostqSt := {}
  sched : SchedSt := {}
  skein : SkeinSt := {}
  memst : MemSt := {}
  pmon : PmonSt := {}
  hlth : HlthSt := {}
  bed : BedSt := {}
  stch : StchSt := {}
  purl : PurlSt := {}
  ciph : CiphSt := {}
  xport : XportSt := {}
  fab : FabSt := {}
  time : TimeSt := {}
  grp : GrpSt := {}
  pho : PhoSt := {}
  boot : BootSt := {}
  ctl : CtlSt := {}
  keep : StoreSt := {}
  /-- descriptors whose first run ended in poison and that run once more (R43) -/
  rerun : List Work := []
  /-- the 16 line ports outside their registers -/
  line : List LinePort := List.replicate 16 {}
  deriving DecidableEq, Repr

/-- The machine after a power-on reset: every register at the reset value of its table, memory with nothing listed, and
no command waiting. -/
def State.reset : State := {}

end Sys2Proof.Machine
end

