-- ==== Sys2Proof/Machine/Ops.lean ====
section
/-!
DEFINITION. Machine/Ops.lean: the named operations over registers, memory, interrupts, logs, host messages and events
that every meaning is written with.
-/
namespace Sys2Proof.Machine
open Csr

/-! ## Registers -/

/-- Address of element (`i`, `j`) of a register. -/
def Reg.addr (r : Reg) (i j : Nat) : Nat := r.base + i * r.s1 + j * r.s2

/-- MEM_CLASSc after reset: Table MEM-4 for classes 0-15; no access and PRIV 2 for classes 16-63 (R332). -/
def memClassReset (c : Nat) : Nat :=
  let row (rd wr eng key priv : Nat) : Nat := rd + (wr <<< 8) + (eng <<< 16) + (key <<< 34) + (priv <<< 35)
  match c with
  | 0 => row 0xFF 0xBE 0x3FFFF 1 0
  | 1 => row 0xFF 0xFF 0x3FFFF 0 1
  | 2 => row 0xFF 0xFF 0x00400 1 1
  | 3 => row 0x83 0x82 0x3FFFF 0 1
  | 4 => row 0x33 0x32 0 0 1
  | 5 => row 0x33 0xB2 0 0 1
  | 6 => row 0x03 0x82 0 0 1
  | 7 => row 0x0F 0x02 0 0 1
  | 8 => row 0x4E 0x42 0 0 1
  | 9 => row 0x4E 0xCE 0 0 1
  | 10 => row 0x03 0x02 0 0 1
  | 11 => row 0x03 0x82 0 0 1
  | _ => if c < 16 then 0 else row 0 0 0 0 2

/-- Whether source `src` is a level source of Table HOST-5. -/
def isLevelSource (src : Nat) : Bool := 1152 ≤ src && src ≤ 1172

/-- Clusters with a gauge, by block in runs: (block, first cluster, panel, clusters) (Table ARCH-2). Gauges are
numbered in block-index order, clusters ascending and spares last (text after Table PWR-7; log entry 43). -/
def gaugeRuns : List (Nat × Nat × Nat × Nat) :=
  [(2, 0, 0, 16), (3, 0, 2, 17), (4, 0, 1, 1), (5, 0, 0, 6), (5, 6, 1, 4), (5, 10, 2, 6), (6, 0, 0, 17), (7, 0, 0, 3),
   (8, 0, 2, 4), (9, 0, 2, 6), (10, 0, 2, 8), (10, 8, 1, 1), (11, 0, 1, 8), (12, 0, 0, 16), (12, 16, 1, 16), (12, 32, 2, 16),
   (12, 48, 0, 1), (12, 49, 1, 1), (12, 50, 2, 1), (13, 0, 2, 34), (14, 0, 0, 4), (14, 4, 2, 1), (15, 0, 1, 4)]

/-- The block, cluster and panel of a gauge. -/
def gaugeName : List (Nat × Nat × Nat × Nat) → Nat → Option (Nat × Nat × Nat)
  | [], _ => none
  | (b, c, p, n) :: r, g => if g < n then some (b, c + g, p) else gaugeName r (g - n)

/-- The gauge of a cluster of a block. -/
def gaugeOf : List (Nat × Nat × Nat × Nat) → (base b c : Nat) → Option Nat
  | [], _, _, _ => none
  | (b', c', _, n) :: r, base, b, c =>
    if b = b' ∧ c' ≤ c ∧ c < c' + n then some (base + c - c') else gaugeOf r (base + n) b c

/-- HLTH_GAUGEg after reset: its cluster, and PRESENT. -/
def gaugeReset (g : Nat) : Nat :=
  match gaugeName gaugeRuns g with
  | none => 0
  | some (b, c, p) => (b <<< 20) + (c <<< 25) + (p <<< 35) + (1 <<< 38)

/-- The reset value of element (`i`, `j`) of a register: the fields' reset values, and what its table says of the index. -/
def Reg.resetNat (r : Reg) (i j : Nat) : Nat :=
  let base := r.flds.foldl (fun a f => a ||| (f.reset <<< f.lo)) 0
  match r.idx with
  | .none => base
  | .portId => base ||| i
  | .steer => (List.range 8).foldl (fun a k => a ||| ((8 * j + k) <<< (8 * k))) 0
  | .source => base ||| ((if i < 9 then i else 0xF) <<< 3)
  | .link => base ||| (i <<< 30)
  | .memClass => memClassReset i
  | .intcSrc => base ||| ((if isLevelSource i then 1 else 0) <<< 8)
  | .gauge => gaugeReset i

/-- The reset value as a register word. -/
def Reg.resetWord (r : Reg) (i j : Nat) : Word := BitVec.ofNat 64 (r.resetNat i j)

/-- The word listed for an address. -/
def wordAt : List (Nat × Word) → Nat → Option Word
  | [], _ => none
  | (a, v) :: r, k => if a = k then some v else wordAt r k

/-- Put an entry into a list before the first entry of a greater key. -/
def entryPut {α : Type} (k : Nat) (v : α) : List (Nat × α) → List (Nat × α)
  | [] => [(k, v)]
  | e :: r => if k < e.1 then (k, v) :: e :: r else e :: entryPut k v r

/-- Put `v` at `k` in a list sorted by address, in place of what is listed there; a word equal to its reset value `d` is not
listed. -/
def wordPut (l : List (Nat × Word)) (k : Nat) (d v : Word) : List (Nat × Word) :=
  let rest := l.filter (fun e => e.1 ≠ k)
  if v = d then rest else entryPut k v rest

/-- The stored word of element (`i`, `j`) of a register; its reset value where nothing else is listed. -/
def State.rdReg (s : State) (r : Reg) (i : Nat := 0) (j : Nat := 0) : Word :=
  (wordAt s.csr (r.addr i j)).getD (r.resetWord i j)

/-- Store a whole register word. -/
def State.wrReg (s : State) (r : Reg) (v : Word) (i : Nat := 0) (j : Nat := 0) : State :=
  { s with csr := wordPut s.csr (r.addr i j) (r.resetWord i j) v }

/-- The value of a named field. -/
def State.get (s : State) (f : Field) (i : Nat := 0) (j : Nat := 0) : Nat := getBits (s.rdReg f.reg i j).toNat f.lo f.w

/-- Whether a one-bit field is 1. -/
def State.on (s : State) (f : Field) (i : Nat := 0) (j : Nat := 0) : Bool := s.get f i j == 1

/-- Store a value into a named field, cut to its width. -/
def State.set (s : State) (f : Field) (v : Nat) (i : Nat := 0) (j : Nat := 0) : State :=
  s.wrReg f.reg (setBits (s.rdReg f.reg i j) f.lo f.w v) i j

/-- Add to a field that saturates at its width. -/
def State.addSat (s : State) (f : Field) (v : Nat) (i : Nat := 0) (j : Nat := 0) : State :=
  s.set f (satAdd f.w (s.get f i j) v) i j

/-- Add to a field that wraps. -/
def State.addWrap (s : State) (f : Field) (v : Nat) (i : Nat := 0) (j : Nat := 0) : State :=
  s.set f (s.get f i j + v) i j

/-- A fresh value the spec leaves open, and the state with its counter advanced (log entry 3). -/
def State.fresh (s : State) : Nat × State :=
  ((Config.freeValue s.freeCtr).toNat, { s with freeCtr := s.freeCtr + 1 })

/-- A quotient that the spec does not say how to round: the floor, or one more where it is not exact (log entry 3). -/
def State.divOpen (s : State) (n : Int) (d : Nat) : Int × State :=
  if n % (d : Int) = 0 then (n / d, s) else (n / d + (s.fresh.1 % 2 : Nat), s.fresh.2)

/-! ## Time -/

/-- Gateway time T in ns (R374). -/
def State.now (s : State) : Nat := s.get TIME_NOW.NS

/-- Nanoseconds by the ticks of the time clock, 0.64 ns each: what timeouts, hold times and intervals are measured with, so
that a step or slew of T does not change them (R375). -/
def State.mono (s : State) : Nat := s.time.ticks * 16 / 25

/-- The 32-bit nanosecond stamp of records and log entries. -/
def State.stamp (s : State) : Nat := s.now % 2 ^ 32

/-! ## What leaves the module -/

/-- Add a message to what has left the module. -/
def State.emit (s : State) (o : Out) : State := { s with out := s.out ++ [o] }

/-- "The gateway reports" a reason code. -/
def State.report (s : State) (reason : Nat) : State := s.emit (.report reason)

/-! ## Interrupts (R403 to R411) -/

/-- INT_ENABLE and INT_STATUS of the block with index `b`. -/
def intPair (b : Nat) : Reg × Reg :=
  match b with
  | 0 => (TOP_INT_ENABLE, TOP_INT_STATUS)
  | 1 => (INTC_INT_ENABLE, INTC_INT_STATUS)
  | 2 => (HOSTQ_INT_ENABLE, HOSTQ_INT_STATUS)
  | 3 => (SCHED_INT_ENABLE, SCHED_INT_STATUS)
  | 4 => (SKEIN_INT_ENABLE, SKEIN_INT_STATUS)
  | 5 => (MEM_INT_ENABLE, MEM_INT_STATUS)
  | 6 => (FAB_INT_ENABLE, FAB_INT_STATUS)
  | 7 => (PHO_INT_ENABLE, PHO_INT_STATUS)
  | 8 => (LINE_INT_ENABLE, LINE_INT_STATUS)
  | 9 => (XPORT_INT_ENABLE, XPORT_INT_STATUS)
  | 10 => (CIPH_INT_ENABLE, CIPH_INT_STATUS)
  | 11 => (BED_INT_ENABLE, BED_INT_STATUS)
  | 12 => (STCH_INT_ENABLE, STCH_INT_STATUS)
  | 13 => (PURL_INT_ENABLE, PURL_INT_STATUS)
  | 14 => (TIME_INT_ENABLE, TIME_INT_STATUS)
  | 15 => (PMON_INT_ENABLE, PMON_INT_STATUS)
  | 16 => (HLTH_INT_ENABLE, HLTH_INT_STATUS)
  | _ => (GRP_INT_ENABLE, GRP_INT_STATUS)

/-- LINE_INT_STATUS: bit p while PORT_INT_STATUS of port p holds an enabled bit (text after Table FRAME-12). -/
def State.lineIntStatus (s : State) : Nat :=
  maskOf ((List.range 16).filter (fun p => (s.rdReg PORT_INT_STATUS p &&& s.rdReg PORT_INT_ENABLE p) ≠ 0))

/-- The condition of a level source (Table HOST-5). -/
def State.levelCond (s : State) (src : Nat) : Bool :=
  if src == 1160 then s.lineIntStatus &&& s.get LINE_INT_ENABLE.PORTS != 0
  else if 1152 ≤ src && src ≤ 1169 then
    let p := intPair (src - 1152)
    s.rdReg p.1 &&& s.rdReg p.2 != 0
  else if src == 1170 then s.on TOP_FAULT.ACTIVE
  else if src == 1171 then s.get TOP_CAPCHG.BLOCKS != 0
  else if src == 1172 then s.get TOP_VLOG_PTR.WR_PTR != s.get TOP_VLOG_PTR.RD_PTR
  else false

/-- Whether a source is active (R403). -/
def State.isActive (s : State) (src : Nat) : Bool := s.intc.active.any (fun a => a.src == src)

/-- Whether a source is pending (R403): an event source by its event, a level source by its condition while not active. -/
def State.isPending (s : State) (src : Nat) : Bool :=
  if isLevelSource src then s.levelCond src && !s.isActive src else decide (src ∈ s.intc.pending)

/-- The running priority of a target: the highest priority among its active sources (R404). -/
def State.running (s : State) (t : Nat) : Nat :=
  (s.intc.active.filter (fun a => a.target == t)).foldl (fun m a => max m a.prio) 0

/-- The sources that can be pending: the event sources listed and the 21 level sources. -/
def State.candidates (s : State) : List Nat := s.intc.pending ++ (List.range 21).map (· + 1152)

/-- Whether a pending source is deliverable to target `t` (R404, R414). -/
def State.deliverable (s : State) (t src : Nat) : Bool :=
  s.on INTC_STATUS.READY && s.isPending src && s.get INTC_SRC.TARGET src == t &&
  decide (s.get INTC_SRC.PRIORITY src > max (s.get INTC_THRESHOLD.THRESHOLD t) (s.running t))

/-- The deliverable source of target `t` with the highest priority, the lowest number on a tie (R405). -/
def State.bestSource (s : State) (t : Nat) : Option Nat :=
  match (s.candidates.filter (s.deliverable t)) with
  | [] => none
  | c => bestBy (fun x => s.get INTC_SRC.PRIORITY x * 2048 + (2047 - x)) c

/-- The highest deliverable priority of the host target, 0 for none. -/
def State.hostPriority (s : State) : Nat :=
  match s.bestSource 0 with
  | none => 0
  | some x => s.get INTC_SRC.PRIORITY x

/-- Whether the host is lost (R396). -/
def State.hostLost (s : State) : Bool := s.get TOP_MYK_STATUS.STATE == 3

/-- Send an INTR: MSG_DATA in [15:0] and the highest deliverable priority in [19:16] (R409). -/
def State.sendIntr (s : State) : State :=
  let data := le 8 (s.get TOP_MYK_CFG.MSG_DATA + s.hostPriority * 2 ^ 16)
  s.emit (.myk { type := 6, len := 8, payload := data })

/-- The INTR decision of R404: the host receives an INTR whenever its highest deliverable priority rises. While the host
is lost nothing is sent and the sources stay pending (R396). -/
def State.intcUpdate (s : State) : State :=
  let h := s.hostPriority
  if s.hostLost then { s with intc := { s.intc with announced := 0 } }
  else
    let s' := if h > s.intc.announced then s.sendIntr else s
    { s' with intc := { s'.intc with announced := h } }

/-- Set a bit of a block's INT_STATUS. -/
def State.raise (s : State) (f : Field) (i : Nat := 0) : State := (s.set f 1 i).intcUpdate

/-- A module-fault interrupt: TOP_FAULT takes the reason (text before R403). -/
def State.moduleFault (s : State) (reason : Nat) : State :=
  (((s.set TOP_FAULT.ACTIVE 1).set TOP_FAULT.REASON reason).report reason).intcUpdate

/-- A capability change interrupt of block `b` (text before R403). -/
def State.capChange (s : State) (b : Nat) : State :=
  (s.set TOP_CAPCHG.BLOCKS (setBit (s.get TOP_CAPCHG.BLOCKS) b true)).intcUpdate

/-! ## Memory (R317, R323, R330) -/

/-- The byte listed at an address, or what an unlisted address reads as: zero (log entry 5). -/
def cellAt : List Host.Cell → Nat → Byte
  | [], _ => 0
  | (a, b) :: r, k => if a = k then b else cellAt r k

/-- Put a byte at an address of a canonical memory: addresses strictly rising, no zero byte listed. -/
def cellPut (l : List Host.Cell) (k : Nat) (v : Byte) : List Host.Cell :=
  let rest := l.filter (fun c => c.1 ≠ k)
  if v = 0 then rest else entryPut k v rest

/-- The byte at a module address. -/
def State.readByte (s : State) (a : Nat) : Byte := cellAt s.mem a

/-- `n` bytes from address `a`. -/
def State.readBytes (s : State) (a n : Nat) : Bytes := (List.range n).map (fun i => s.readByte (a + i))

/-- The little-endian value of `n` bytes at address `a`. -/
def State.readLe (s : State) (a n : Nat) : Nat := leVal (s.readBytes a n)

/-- Write bytes into a memory from address `a` upward. -/
def cellsPut (m : List Host.Cell) (a : Nat) : Bytes → List Host.Cell
  | [] => m
  | b :: bs => cellsPut (cellPut m a b) (a + 1) bs

/-- Write bytes from address `a`; bytes written are poisoned no longer (R327). -/
def State.writeBytes (s : State) (a : Nat) (bs : Bytes) : State :=
  { s with
    mem := cellsPut s.mem a bs
    poison := s.poison.filter (fun x => x < a || a + bs.length ≤ x) }

/-- Mark `n` bytes from `a` as poisoned (R21, R22). -/
def State.poisonBytes (s : State) (a n : Nat) : State :=
  { s with poison := s.poison.filter (fun x => x < a || a + n ≤ x) ++ (List.range n).map (a + ·) }

/-- First address of host memory (Table MEM-1). -/
def hostBase : Nat := 0x8000000000000000

/-- First address of the LPDDR5X usable space (Table MEM-1). -/
def lpddrBase : Nat := 0x40000000000

/-- First address of the reserved table region, region 6 (Table MEM-1). -/
def tableBase : Nat := 0x60000000000

/-- The LPDDR5X channel of an address, by the interleave of R322. -/
def channelOf (a : Nat) : Nat :=
  let o := if a < tableBase then a - lpddrBase else a - tableBase
  (getBits o 9 7 ^^^ getBits o 16 7) ^^^ getBits o 23 7

/-- Whether an address lies behind a channel controller that has failed: every access of it is poisoned (Table MEM-3). -/
def State.badChannel (s : State) (a : Nat) : Bool :=
  decide (lpddrBase ≤ a ∧ a < hostBase) && s.memst.badChannels.contains (channelOf a)

/-- Whether any of `n` bytes from `a` is poisoned. Channels change every 512 bytes (R322). -/
def State.isPoisoned (s : State) (a n : Nat) : Bool :=
  s.poison.any (fun x => decide (a ≤ x ∧ x < a + n)) ||
  (!s.memst.badChannels.isEmpty && (List.range (n / 512 + 2)).any (fun k =>
    let x := max a (a / 512 * 512 + 512 * k)
    decide (x < a + n) && s.badChannel x))

/-- The regions of the module address space as (region, first address, size), by Table MEM-1 and R323. -/
def State.regions (s : State) : List (Nat × Nat × Nat) :=
  let t := 2 ^ 20 * s.get MEM_SRAM_CFG.TABLE_MIB
  let gib (f : Field) : Nat := 2 ^ 30 * s.get f
  let r2 := gib MEM_REGION0.RETAIN_GIB
  let r3 := gib MEM_REGION0.SPILL_GIB
  let r4 := gib MEM_REGION1.OPT_GIB
  let r5 := gib MEM_REGION1.RESID_GIB
  [(0, 0, t), (1, t, 0x200000000 - t), (2, lpddrBase, r2), (3, lpddrBase + r2, r3), (4, lpddrBase + r2 + r3, r4),
   (5, lpddrBase + r2 + r3 + r4, r5), (6, tableBase, 0x500000000), (7, hostBase, hostBase)]

/-- Bytes that two ranges share. -/
def overlap (a n b m : Nat) : Nat := min (a + n) (b + m) - max a b

/-- The regions an access touches, or none where some byte of it is in no region. -/
def State.regionsOf (s : State) (a n : Nat) : Option (List Nat) :=
  let t := s.regions.filter (fun r => overlap a n r.2.1 r.2.2 ≠ 0)
  if (t.map (fun r => overlap a n r.2.1 r.2.2)).foldl (· + ·) 0 = n then some (t.map (·.1)) else none

/-- Whether an access lies wholly in one region. -/
def State.inRegion (s : State) (r a n : Nat) : Bool := s.regionsOf a n == some [r]

/-- R330 and R346: the reason that MEM refuses an access under a requester class with, or none. -/
def State.memCheck (s : State) (cls : Nat) (write : Bool) (a n : Nat) : Option Nat :=
  if n = 0 then none
  else if !s.on MEM_STATUS.READY && cls != 1 && cls != 2 then some 0x0502
  else
    match s.regionsOf a n with
    | none => some 0x0502
    | some rs =>
      let m := if write then s.get MEM_CLASS.WRITE_MASK cls else s.get MEM_CLASS.READ_MASK cls
      if rs.all (fun r => m.testBit r) then none else some 0x0501

/-! ## Host memory over Mykabel (R392, R396) -/

/-- Whether an address is host memory. -/
def isHost (a : Nat) : Bool := decide (hostBase ≤ a)

/-- Write to host memory with MEM_WR messages of up to 4,096 bytes; while the host is lost each is discarded and counted
in units of 64 (R396). -/
def State.hostWrite (s : State) (a : Nat) (bs : Bytes) : State :=
  if bs = [] then s
  else if s.hostLost then
    let d := s.myk.droppedRem + ceilDiv bs.length 4096
    (({ s with myk := { s.myk with droppedRem := d % 64 } }).addSat TOP_MYK_COUNT.DROPPED_WR (d / 64))
  else
    let s' := s.writeBytes a bs
    { s' with out := s'.out ++ (List.range (ceilDiv bs.length 4096)).map (fun k =>
        let piece := slice bs (4096 * k) 4096
        Out.myk { type := 2, len := piece.length, addr := a - hostBase + 4096 * k, payload := piece }) }

/-- Write to a module address: to memory, or over Mykabel to host memory. -/
def State.store (s : State) (a : Nat) (bs : Bytes) : State := if isHost a then s.hostWrite a bs else s.writeBytes a bs

/-- The lowest tag with no MEM_RD outstanding (R392; log entry 8). -/
def State.freeTag (s : State) : Option Nat := (List.range 1024).find? (fun t => !(s.myk.reads.any (fun r => r.1 == t)))

/-- Send a MEM_RD, or let it wait while all 1,024 tags are outstanding (R392). -/
def State.issueRead (s : State) (r : HostRead) : State :=
  match s.freeTag with
  | none => { s with myk := { s.myk with toRead := s.myk.toRead ++ [r] } }
  | some t =>
    { s with myk := { s.myk with reads := s.myk.reads ++ [(t, r)] } }.emit
      (.myk { type := 1, tag := t, len := r.len, addr := r.addr - hostBase })

/-- Ask the host for the host-memory part of an engine's input, in reads of up to 4,096 bytes. -/
def State.readHost (s : State) (a n : Nat) : State :=
  if isHost a then
    (List.range (ceilDiv n 4096)).foldl (fun s k => s.issueRead ⟨a + 4096 * k, min 4096 (n - 4096 * k), none⟩) s
  else s

/-! ## The violation log (R401, R402) -/

/-- What a violation-log entry names (Table HOST-4). -/
structure Violation where
  reason : Nat
  origin : Nat
  cls : Nat := 0
  queue : Nat := 0
  tenant : Nat := 0
  block : Nat := 0
  addr : Nat := 0
  detail : Nat := 0

/-- The 32 bytes of a violation-log entry (Table HOST-4). -/
def Violation.bytes (v : Violation) (stamp seq : Nat) : Bytes :=
  le 2 v.reason ++ le 1 v.origin ++ le 1 v.cls ++ le 2 v.queue ++ le 1 v.tenant ++ le 1 v.block ++ le 8 v.addr ++
  le 8 v.detail ++ le 4 stamp ++ le 4 seq

/-- A violation: counted, and written to the log ring or counted as lost (R401, R402). -/
def State.violation (s : State) (v : Violation) : State :=
  let s := s.addWrap TOP_VIOL_COUNT.TOTAL 1
  let size := 2 ^ s.get TOP_VLOG_PTR.SIZE_LOG2
  let wr := s.get TOP_VLOG_PTR.WR_PTR
  let used := (wr + 2 ^ 16 - s.get TOP_VLOG_PTR.RD_PTR) % 2 ^ 16
  if s.get TOP_VLOG_BASE.ADDR = 0 ∨ s.hostLost ∨ used ≥ size then
    let first := !s.on TOP_VLOG_PTR.OVERFLOW
    let s := (s.addSat TOP_VIOL_COUNT.LOST 1).set TOP_VLOG_PTR.OVERFLOW 1
    if first then (s.report 0x0030).raise TOP_INT_STATUS.VLOG_LOST else s
  else
    let base := s.get TOP_VLOG_BASE.ADDR * 64 + hostBase
    let s := s.hostWrite (base + 32 * (wr % size)) (v.bytes s.stamp (s.get TOP_VIOL_COUNT.TOTAL))
    (s.set TOP_VLOG_PTR.WR_PTR (wr + 1)).intcUpdate

/-- MEM refuses an access: its log, its interrupt and the violation log (R330, R317). -/
def State.memRefuse (s : State) (reason cls block : Nat) (write : Bool) (a queue : Nat) : State :=
  let s := ((((((s.set MEM_ERR_LOG.REASON reason).set MEM_ERR_LOG.CLASS cls).set MEM_ERR_LOG.BLOCK block).set
    MEM_ERR_LOG.WRITE (b2n write)).set MEM_ERR_LOG.QUEUE queue).set MEM_ERR_ADDR.ADDR a).raise MEM_INT_STATUS.VIOLATION
  s.violation { reason := reason, origin := 3, cls := cls, queue := queue, block := block, addr := a }

/-! ## The health log (R450) -/

/-- What a health-log entry names (Table PWR-3); the panel's conditions are read from its registers. -/
structure Health where
  reason : Nat
  kind : Nat
  level : Nat := 1
  block : Nat := 0
  panel : Nat := 3
  action : Nat := 0
  cluster : Nat := 0xFFFF
  unit : Nat := 0xFF
  job : Nat := 0
  step : Nat := 0
  body : Bytes := []

/-- The 64 bytes of a health-log entry (Table PWR-3). -/
def Health.bytes (h : Health) (load temp rail rate stamp seq : Nat) : Bytes :=
  le 2 h.reason ++ le 1 h.kind ++ le 1 h.level ++ le 1 h.block ++ le 1 (h.panel + 4 * h.action) ++ le 2 h.cluster ++
  le 1 h.unit ++ le 1 load ++ le 2 temp ++ le 2 rail ++ le 2 rate ++ le 4 stamp ++ le 4 seq ++ le 2 h.job ++
  le 4 h.step ++ zeros 2 ++ padTo 32 h.body

/-- Write one health-log entry to the ring, or count it as lost (R450). -/
def State.healthRing (s : State) (entry : Bytes) : State :=
  let size := 2 ^ s.get HLTH_QLOG_PTR.SIZE_LOG2
  let wr := s.get HLTH_QLOG_PTR.WR_PTR
  let used := (wr + 2 ^ 16 - s.get HLTH_QLOG_PTR.RD_PTR) % 2 ^ 16
  if s.get HLTH_QLOG_BASE.ADDR = 0 ∨ s.hostLost ∨ used ≥ size then
    let first := !s.on HLTH_QLOG_PTR.OVERFLOW
    let s := (s.addSat HLTH_COUNT.LOG_LOST 1).set HLTH_QLOG_PTR.OVERFLOW 1
    if first then (s.report 0x1021).raise HLTH_INT_STATUS.LOG_LOST else s
  else
    let base := s.get HLTH_QLOG_BASE.ADDR * 64 + hostBase
    ((s.hostWrite (base + 64 * (wr % size)) entry).set HLTH_QLOG_PTR.WR_PTR (wr + 1)).raise HLTH_INT_STATUS.LOG

/-- Make a health-log entry: it takes the next sequence number and stays in the tail of the last 16,384 entries; it goes to the
ring while HLTH is ready (R457) and no bind-off runs (R450). LOAD is the cluster utilisation, which the spec does not let the
model compute (log entry 3). -/
def State.health (s : State) (h : Health) : State :=
  let load := s.fresh.1 % 101
  let s := s.fresh.2
  let p := h.panel
  let (temp, rail, rate) :=
    if p < 3 then (s.get HLTH_PANEL_RATE.TEMP p, s.get HLTH_PANEL_RAIL.MEASURED_MV p, s.get HLTH_PANEL_RATE.RATE p) else (0, 0, 0)
  let seq := s.hlth.logSeq + 1
  let stamp := if s.hlth.bindingOff then 0 else s.stamp
  let entry := h.bytes load temp rail rate stamp seq
  let tail := s.hlth.logTail ++ [entry]
  let s := { s with hlth := { s.hlth with logSeq := seq, logTail := tail.drop (tail.length - 16384) } }
  let s := if h.kind = 1 then s.addSat HLTH_COUNT.QUARANTINES 1 else s
  if s.hlth.bindingOff || !s.on HLTH_STATUS.READY then s else s.healthRing entry

/-- Count a quarantine of a cluster of `panel` in its present temperature band, and remember the cluster (R451). -/
def State.quarantineCount (s : State) (panel block cluster : Nat) : State :=
  let f : Field := ⟨HLTH_PANEL_MARGIN, 19 + 7 * s.get HLTH_PANEL_RAIL.BAND panel, 7⟩
  let s := s.addSat f 1 panel
  { s with hlth := { s.hlth with quarantined := s.hlth.quarantined ++ [(block, cluster)] } }

/-- HLTH_GAUGEg.QUARANTINED of a cluster. -/
def State.markQuarantined (s : State) (block cluster : Nat) (v : Bool) : State :=
  match gaugeOf gaugeRuns 0 block cluster with
  | none => s
  | some g => s.set HLTH_GAUGE.QUARANTINED (b2n v) g

/-! ## Performance events (R471 to R474, R477) -/

/-- The attributes of an event (Table PMON-1). -/
structure EventAttr where
  cls : Nat
  tenant : Nat := 0
  addr : Option (Nat × Nat) := none
  master : Option Nat := none
  hasTenant : Bool := true

/-- The events of Table PMON-1: code, whether it has an edge amount, whether it has a level condition. -/
def pmonEvents : List (Nat × Bool × Bool) :=
  [(0x0021, true, false), (0x0022, true, false), (0x0042, true, true), (0x0023, true, true), (0x0024, true, true),
   (0x0025, true, false), (0x0045, true, false), (0x0065, true, true), (0x0026, true, false), (0x0046, true, true),
   (0x0027, true, true), (0x0028, true, false), (0x0048, true, false), (0x0068, true, true)] ++
  [(0x0029, true, true), (0x0049, true, false), (0x002A, true, false), (0x004A, true, false), (0x006A, true, false),
   (0x002B, true, true), (0x004B, false, true), (0x002C, true, true), (0x002D, true, true), (0x004D, true, true),
   (0x006D, true, false)]

/-- Whether an event code is listed in Table PMON-1 and usable in a mode (R472, R474): an edge needs an amount, a level a
condition. -/
def pmonEventOk (code : Nat) (level : Bool) : Bool :=
  pmonEvents.any (fun e => e.1 == code && (if level then e.2.2 else true))

/-- The counters whose EN is 1. -/
def State.enabledCounters (s : State) : List Nat :=
  s.csr.filterMap (fun e =>
    let d := e.1 - PMON_EVSEL.base
    if PMON_EVSEL.base ≤ e.1 ∧ d < 512 * 0x20 ∧ d % 0x20 = 0 ∧ e.2.getLsbD 0 then some (d / 0x20) else none)

/-- The filters of Table PMON-2 for counter `n`. -/
def State.filterPass (s : State) (n : Nat) (a : EventAttr) : Bool :=
  let priv := s.get MEM_CLASS.PRIV a.cls
  (s.get PMON_FILT.PRIV_MASK n).testBit priv &&
  (!s.on PMON_FILT.MASTER_EN n ||
    (match a.master with | none => false | some m => (s.get PMON_FILT.MASTER_MASK n).testBit m)) &&
  (!s.on PMON_FILT.CLASS_EN n || (a.cls ^^^ s.get PMON_FILT.CLASS n) &&& s.get PMON_FILT.CLASS_MASK n == 0) &&
  (!s.on PMON_FILT.TENANT_EN n || (a.hasTenant && a.tenant == s.get PMON_FILT.TENANT n)) &&
  (!s.on PMON_FILT.RANGE_EN n ||
    (match a.addr with
     | none => false
     | some (x, len) =>
       let r := s.get PMON_FILT.RANGE n
       let lo := s.get PMON_RANGE_LO.ADDR r
       let hi := s.get PMON_RANGE_HI.ADDR r
       (decide (x ≤ hi ∧ lo < x + max len 1)) != s.on PMON_FILT.INVERT n))

/-- Add to counter `n`, which wraps at 64 bits and then sets its bit in PMON_OVFw (R474). -/
def State.counterAdd (s : State) (n amount : Nat) : State :=
  let c := s.get PMON_CTR.COUNT n
  let s' := s.set PMON_CTR.COUNT (c + amount) n
  if c + amount < 2 ^ 64 then s'
  else
    let s' := s'.set PMON_OVF.OVF (setBit (s'.get PMON_OVF.OVF (n / 64)) (n % 64) true) (n / 64)
    if s'.on PMON_EVSEL.OVF_INT n then s'.raise PMON_INT_STATUS.OVERFLOW else s'

/-- One edge event: each ready, enabled, unfrozen counter that selects it and whose filters pass adds its amount (R473). -/
def State.pmonEdge (s : State) (code amount : Nat) (a : EventAttr) : State :=
  if s.on PMON_STATUS.READY && !s.on PMON_CTRL.FREEZE then
    (s.enabledCounters.filter (fun n => s.get PMON_EVSEL.EVENT n == code && !s.on PMON_EVSEL.MODE n && s.filterPass n a)).foldl
      (fun st n => st.counterAdd n amount) s
  else s

/-- One event at an event source (R403, R407): an idle source becomes pending, a pending one merges it, and an event at
an active source is lost and recorded. -/
def State.event (s : State) (src : Nat) : State :=
  let s' :=
    if s.isActive src then
      (((s.set INTC_LOST.LOST (setBit (s.get INTC_LOST.LOST (src / 64)) (src % 64) true) (src / 64)).addSat
        INTC_STATS.LOST 1).set INTC_INT_STATUS.LOST_EVENT 1).pmonEdge 0x0021 1 { cls := 1, hasTenant := false }
    else { s with intc := { s.intc with pending := addOnce s.intc.pending src } }
  s'.intcUpdate

/-- Bytes that a bandwidth meter counts in its window (R477): transmitted, received. -/
def State.meter (s : State) (k tx rx : Nat) : State :=
  if s.on PMON_STATUS.READY then
    { s with pmon := { s.pmon with
        meterTx := if tx = 0 then s.pmon.meterTx else assocPut s.pmon.meterTx k (lookupD s.pmon.meterTx k 0 + tx)
        meterRx := if rx = 0 then s.pmon.meterRx else assocPut s.pmon.meterRx k (lookupD s.pmon.meterRx k 0 + rx) } }
  else s

/-- A memory read or write that an engine makes, as events 0x0025 and 0x0045. -/
def State.memEvent (s : State) (write : Bool) (a n cls block : Nat) : State :=
  if n = 0 then s
  else s.pmonEdge (if write then 0x0045 else 0x0025) n { cls := cls, addr := some (a, n), master := some block, hasTenant := false }

/-- Write a result from an engine of a block under a class: memory or host memory, and its event. -/
def State.engineWrite (s : State) (block cls a : Nat) (bs : Bytes) : State :=
  (s.store a bs).memEvent true a bs.length cls block

end Sys2Proof.Machine
namespace Sys2Proof
open Machine

/-! ## Descriptors and their completion (Tables QUE-2 and QUE-3) -/

/-- A little-endian field of a descriptor. -/
def Work.field (w : Work) (off n : Nat) : Nat := fieldAt w.desc off n

/-- A little-endian field of a descriptor's operation body, which begins at byte 64 (R350). -/
def Work.body (w : Work) (off n : Nat) : Nat := fieldAt w.desc (64 + off) n

/-- BLOCK of the header. -/
def Work.block (w : Work) : Nat := w.field 0 1
/-- FLAGS of the header. -/
def Work.flags (w : Work) : Nat := w.field 1 1
/-- TENANT_ID of the header. -/
def Work.tenant (w : Work) : Nat := w.field 3 1
/-- JOB_ID of the header. -/
def Work.job (w : Work) : Nat := w.field 4 2
/-- STEP of the header. -/
def Work.step (w : Work) : Nat := w.field 8 4

end Sys2Proof
namespace Sys2Proof.Machine
open Csr

/-- The requester class that a descriptor runs under: its queue's. -/
def State.classOf (s : State) (w : Work) : Nat := s.get Q_CFG.CLASS w.queue

/-- The event attributes of a descriptor. -/
def State.attrOf (s : State) (w : Work) : EventAttr := { cls := s.classOf w, tenant := w.tenant }

/-- BUSY of BED and PURL: a descriptor of the block is in progress. -/
def State.busyUpdate (s : State) (block : Nat) : State :=
  let busy := b2n (s.hostq.dispatched.any (fun d => d.work.block % 32 == block))
  if block = 11 then s.set BED_STATUS.BUSY busy
  else if block = 13 then s.set PURL_STATUS.BUSY busy
  else s

/-- A descriptor ends: it leaves the dispatched descriptors and waits for its record to be written (R356). -/
def State.finish (s : State) (w : Work) (r : Result) : State :=
  let d := (s.hostq.dispatched.find? (fun d => d.work == w)).getD ⟨w, s.now, s.now, 0, w.index == 0xFFFF, [], 0⟩
  let h := { s.hostq with
    dispatched := s.hostq.dispatched.erase d
    finished := s.hostq.finished ++ [⟨w, r, d.tFetch, d.tDispatch, s.now, d.colour, d.chained, d.samplers, false⟩] }
  { s with hostq := h }.busyUpdate (w.block % 32)

/-- End a descriptor with an error reason and no other effect. -/
def State.finishError (s : State) (w : Work) (reason : Nat) : State :=
  s.finish w { reason := reason, error := true, block := w.block }

/-- The first access, as (write, address, length), that MEM refuses under a class: its reason with it (R330). -/
def State.badAccess (s : State) (cls : Nat) : List (Bool × Nat × Nat) → Option (Nat × Bool × Nat)
  | [] => none
  | (wr, a, n) :: r =>
    match s.memCheck cls wr a n with
    | some reason => some (reason, wr, a)
    | none => s.badAccess cls r

/-- MEM's log and the violation for the first access of a descriptor that it refuses; the engine refuses the descriptor with
its own address reason (R330). -/
def State.logAccess (s : State) (w : Work) (l : List (Bool × Nat × Nat)) : State :=
  match s.badAccess (s.classOf w) l with
  | none => s
  | some (reason, wr, a) => s.memRefuse reason (s.classOf w) (w.block % 32) wr a w.queue

/-- Whether a range that a list of accesses reads is poisoned (R22). -/
def State.readsPoison (s : State) (l : List (Bool × Nat × Nat)) : Bool := l.any (fun x => !x.1 && s.isPoisoned x.2.1 x.2.2)

/-- The events of the reads of a list of accesses. -/
def State.readEvents (s : State) (w : Work) (l : List (Bool × Nat × Nat)) : State :=
  (l.filter (fun x => !x.1)).foldl (fun s x => s.memEvent false x.2.1 x.2.2 (s.classOf w) (w.block % 32)) s

/-- Make the host's CPL, or a core's answer, to a register access (R394). -/
def State.respond (s : State) (m : Master) (tag status reason : Nat) (data : Bytes) : State :=
  match m with
  | .host => s.emit (.myk { type := 7, status := status, tag := tag, len := data.length, addr := reason, payload := data })
  | _ => s.emit (.core m status reason (BitVec.ofNat 64 (leVal data)))

/-- A block's configuration refusal: CONFIG_REASON and its CONFIG_REFUSED bit (R398). -/
def State.refuseConfig (s : State) (reasonField statusBit : Field) (reason : Nat) : State :=
  (s.set reasonField reason).raise statusBit

end Sys2Proof.Machine
end

