-- ==== Sys2Proof/Machine/Operands.lean ====
section
/-!
DEFINITION. Machine/Operands.lean: the number formats and the arithmetic that every engine shares
(spec/03_number_formats.md, R66 to R84, and the generator of R104, R105). A finite value is an exact binary number; each
operation is formed exactly and rounded where the rules round it.
-/
namespace Sys2Proof.Machine

/-! ## Formats (R66 to R71) -/

/-- Bytes of one element of a format (Table NUM-1). -/
def fmtBytes (fmt : Nat) : Nat := match fmt with
  | 0 => 4
  | 1 => 2
  | 2 => 1
  | 3 => 1
  | 4 => 2
  | 5 => 1
  | _ => 0

/-- Whether a format is logarithmic: LNS16 or LNS8. -/
def isLns (fmt : Nat) : Bool := fmt == 4 || fmt == 5

/-- Exponent bits, fraction bits and bias of a floating-point format (Table NUM-2). -/
def floatFmt (fmt : Nat) : Nat × Nat × Nat := match fmt with
  | 0 => (8, 23, 127)
  | 1 => (8, 7, 127)
  | 2 => (4, 3, 7)
  | _ => (5, 2, 15)

/-- Canonical NaN of a format (Table NUM-3). -/
def canonicalNaN (fmt : Nat) : Nat := match fmt with
  | 0 => 0x7FC00000
  | 1 => 0x7FC0
  | 2 => 0x7F
  | 3 => 0x7E
  | 4 => 0xC000
  | _ => 0xC0

/-- Code of the largest finite magnitude of a format (Table NUM-3). -/
def largestFinite (fmt : Nat) : Nat := match fmt with
  | 0 => 0x7F7FFFFF
  | 1 => 0x7F7F
  | 2 => 0x7E
  | 3 => 0x7B
  | 4 => 0x3FFE
  | _ => 0x3F

/-- Number of significant bits of `n`. -/
def bitLen (n : Nat) : Nat := if n = 0 then 0 else Nat.log2 n + 1

/-- Zero of either sign. -/
def Num.zero (neg : Bool := false) : Num := .fin neg 0 0

/-- Whether a value is a zero. -/
def Num.isZero : Num → Bool
  | .fin _ 0 _ => true
  | _ => false

/-- The value with its sign flipped; NaN has none. -/
def Num.neg : Num → Num
  | .nan => .nan
  | .inf n => .inf (!n)
  | .fin n m e => .fin (!n) m e

/-- Read a floating-point code: its value, and whether R72 replaced a subnormal by a zero. -/
def decodeFloat (fmt code : Nat) : Num × Bool :=
  let (eb, fb, bias) := floatFmt fmt
  let s := code.testBit (eb + fb)
  let e := getBits code fb eb
  let f := getBits code 0 fb
  if fmt = 2 ∧ e = 15 ∧ f = 7 then (.nan, false)
  else if fmt ≠ 2 ∧ e = 2 ^ eb - 1 then (if f = 0 then .inf s else .nan, false)
  else if e = 0 then (.zero s, f != 0)
  else (.fin s (2 ^ fb + f) ((e : Int) - bias - fb), false)

/-- A logarithmic value: zero, NaN, an infinity, or sign and L (R69, R70, R81). -/
inductive Lns where
  | zero
  | nan
  | inf (neg : Bool)
  | fin (neg : Bool) (l : Int)
  deriving DecidableEq, Repr

/-- Read an LNS16 code (R69). -/
def Lns.of16 (code : Nat) : Lns :=
  let s := code.testBit 15
  let l := toSigned 15 code
  if l = -16384 then (if s then .nan else .zero) else if l = 16383 then .inf s else .fin s l

/-- Read an LNS8 code (R70). -/
def Lns.of8 (code : Nat) : Lns :=
  let s := code.testBit 7
  let l := toSigned 7 code
  if l = -64 then (if s then .nan else .zero) else .fin s l

/-- A result in LNS16 range: one that exceeds the largest finite L saturates, one below the smallest flushes to zero
(R73, R75, R84). -/
def Lns.clamp16 : Lns → Lns
  | .fin s l => if l > 16382 then .fin s 16382 else if l < -16383 then .zero else .fin s l
  | x => x

/-- A result in LNS8 range; LNS8 has no infinity (Table NUM-4). -/
def Lns.clamp8 : Lns → Lns
  | .fin s l => if l > 63 then .fin s 63 else if l < -63 then .zero else .fin s l
  | .inf _ => .nan
  | x => x

/-- The code of a value in LNS16 range. -/
def Lns.code16 : Lns → Nat
  | .zero => 0x4000
  | .nan => 0xC000
  | .inf s => 0x3FFF + 0x8000 * b2n s
  | .fin s l => ofSigned 15 l + 0x8000 * b2n s

/-- The code of a value in LNS8 range. -/
def Lns.code8 : Lns → Nat
  | .zero => 0x40
  | .nan => 0xC0
  | .inf _ => 0xC0
  | .fin s l => ofSigned 7 l + 0x80 * b2n s

/-! ## Rounding (R74 to R76, R82) -/

/-- `sig` cut to `p` significant bits, to nearest even (mode 0) or toward zero: the new significand, and the bits
dropped. -/
def roundSig (p mode sig : Nat) : Nat × Nat :=
  let n := bitLen sig
  if n ≤ p then (sig, 0)
  else
    let d := n - p
    let q := sig >>> d
    let r := sig % 2 ^ d
    let up := mode == 0 && (decide (2 * r > 2 ^ d) || (2 * r == 2 ^ d && q % 2 == 1))
    (q + b2n up, d)

/-- A value rounded to `p` significant bits with an unbounded exponent. -/
def Num.round (p mode : Nat) : Num → Num
  | .fin s m e => let (q, d) := roundSig p mode m; .fin s q (e + d)
  | x => x

/-- The exact sum of two values by the rules of IEEE 754-2019: opposite infinities give NaN, an exact cancellation +0
(R82). -/
def Num.add : Num → Num → Num
  | .nan, _ => .nan
  | _, .nan => .nan
  | .inf a, .inf b => if a = b then .inf a else .nan
  | .inf a, _ => .inf a
  | _, .inf b => .inf b
  | .fin a m e, .fin b n f =>
    if m = 0 ∧ n = 0 then .zero (a && b)
    else
      let k := min e f
      let x : Int := (if a then -1 else 1) * (m : Int) * 2 ^ (e - k).toNat
      let y : Int := (if b then -1 else 1) * (n : Int) * 2 ^ (f - k).toNat
      .fin (decide (x + y < 0)) (x + y).natAbs k

/-- One addition into the accumulator: 40 significant bits, to nearest even (R82). -/
def acc40 (a b : Num) : Num := (a.add b).round 40 0

/-- What writing one value into a format gives: the code, whether it saturated (R75, R76), whether it was flushed
(R73). -/
structure Enc where
  code : Nat
  sat : Bool := false
  flush : Bool := false

/-- Write a value into a floating-point format, to nearest even or toward zero (R73 to R75, Table NUM-4). The flush and
the limit are decided on the value rounded with an unbounded exponent. -/
def encodeFloat (fmt mode : Nat) (x : Num) : Enc :=
  let (eb, fb, bias) := floatFmt fmt
  let sbit (s : Bool) : Nat := b2n s * 2 ^ (eb + fb)
  let infinity (s : Bool) : Nat := if fmt = 2 then canonicalNaN 2 else sbit s + (2 ^ eb - 1) * 2 ^ fb
  match x with
  | .nan => ⟨canonicalNaN fmt, false, false⟩
  | .inf s => ⟨infinity s, false, false⟩
  | .fin s m e =>
    if m = 0 then ⟨sbit s, false, false⟩
    else
      let (q, d) := roundSig (fb + 1) mode m
      let top := e + d + bitLen q - 1
      if top < 1 - (bias : Int) then ⟨sbit s, false, true⟩
      else
        let frac := (q <<< (fb + 1 - bitLen q)) >>> (bitLen q - (fb + 1))
        let mag := (top + bias).toNat * 2 ^ fb + (frac - 2 ^ fb)
        if mag ≤ largestFinite fmt then ⟨sbit s + mag, false, false⟩
        else if mode = 0 ∧ fmt < 2 then ⟨infinity s, false, false⟩
        else ⟨sbit s + largestFinite fmt, true, false⟩

/-- `sr_bf16` of R76 with whether it saturated: `x` the FP32 bits, `r` the 16 random bits. -/
def srBf16 (x r : Nat) : Nat × Bool :=
  if getBits x 23 8 = 255 then (if getBits x 0 23 = 0 then x >>> 16 else 0x7FC0, false)
  else
    let m := getBits x 0 31 + r % 2 ^ 16
    let ov := decide (m >>> 23 ≥ 255)
    let m := if ov then 0x7F7F0000 else m
    ((m >>> 16) ||| ((x >>> 16) &&& 0x8000), ov)

/-! ## Logarithms (R77 to R79) -/

/-- The L nearest to `k` × (log2 (sig × 2^exp) − bias) (R77): ⌊2k log2 x⌋ is read from the length of sig^(2k). -/
def nearestL (k sig : Nat) (exp bias : Int) : Int :=
  ((Nat.log2 (sig ^ (2 * k)) : Int) + 2 * k * exp + 1) / 2 - k * bias

/-- A linear value in LNS16 (R77). -/
def Num.to16 : Num → Lns
  | .nan => .nan
  | .inf s => .inf s
  | .fin s m e => if m = 0 then .zero else .fin s (nearestL 128 m e 0)

/-- A linear value in LNS8 of bias `b` (R77). -/
def Num.to8 (b : Int) : Num → Lns
  | .nan => .nan
  | .inf _ => .nan
  | .fin s m e => if m = 0 then .zero else .fin s (nearestL 8 m e b)

/-- One step of the 128th root, from bit `b` down: the greatest r with r^128 ≤ x. -/
def root128 : (b r x : Nat) → Nat
  | 0, r, x => if (r + 1) ^ 128 ≤ x then r + 1 else r
  | b + 1, r, x => root128 b (if (r + 2 ^ (b + 1)) ^ 128 ≤ x then r + 2 ^ (b + 1) else r) x

/-- T[f] = 2^(f/128) as a 24-bit significand, to nearest (R79): T[f] × 2^23. -/
def tableT (f : Nat) : Nat := (root128 24 0 (2 ^ (24 * 128 + f)) + 1) / 2

/-- The linear value of sign and L at `k` steps an octave, times 2^bias (R79). -/
def lnsLinear (k : Nat) (neg : Bool) (l bias : Int) : Num :=
  .fin neg (tableT ((l % k).toNat * (128 / k))) (l / k + bias - 23)

/-- The linear value of a logarithmic one at `k` steps an octave and bias `b` (R79). -/
def Lns.linear (k : Nat) (b : Int) : Lns → Num
  | .zero => .zero
  | .nan => .nan
  | .inf s => .inf s
  | .fin s l => lnsLinear k s l b

/-- LNS16 to LNS8 of bias `b`, ties to the even L (R78). -/
def Lns.narrow (b : Int) : Lns → Lns
  | .fin s l =>
    let x := l - 128 * b
    let q := x / 16
    let r := x % 16
    .fin s (if r > 8 ∨ (r = 8 ∧ q % 2 = 1) then q + 1 else q)
  | .inf _ => .nan
  | x => x

/-- LNS8 of bias `b` to LNS16, exactly (R78). -/
def Lns.widen (b : Int) : Lns → Lns
  | .fin s l => .fin s (16 * l + 128 * b)
  | x => x

/-- Write an LNS value that is unbounded into LNS16 or LNS8 (R73, R75). -/
def encodeLns (fmt : Nat) (x : Lns) : Enc :=
  let lim : Int × Int := if fmt = 4 then (-16383, 16382) else (-63, 63)
  let sat := match x with
    | .fin _ l => decide (l > lim.2)
    | _ => false
  let flush := match x with
    | .fin _ l => decide (l < lim.1)
    | _ => false
  ⟨if fmt = 4 then x.clamp16.code16 else x.clamp8.code8, sat, flush⟩

/-- Write a linear value into a format (R73 to R77): `mode` the rounding mode, `bias` of an LNS8 destination, `r` the
random bits of SR. -/
def encodeNum (fmt mode : Nat) (bias : Int) (r : Nat) (x : Num) : Enc :=
  if fmt = 4 then encodeLns 4 x.to16
  else if fmt = 5 then encodeLns 5 (x.to8 bias)
  else if mode = 2 then
    let t := encodeFloat 0 1 x
    let (c, ov) := srBf16 t.code r
    ⟨c, ov || t.sat, t.flush⟩
  else encodeFloat fmt mode x

/-- Whether a rounding mode suits a destination format (R67, R74): SR only for BF16. -/
def roundOk (fmt mode : Nat) : Bool := mode < 2 || (mode == 2 && fmt == 1)

/-- Read a code of any format: its linear value, and whether R72 replaced it (R68 to R72, R79). -/
def decodeNum (fmt : Nat) (bias : Int) (code : Nat) : Num × Bool :=
  if fmt = 4 then ((Lns.of16 code).linear 128 0, false)
  else if fmt = 5 then ((Lns.of8 code).linear 8 bias, false)
  else decodeFloat fmt code

/-- A code of a format as an operand of the bed: LNS16, or LNS8 of bias `b` (R77, R78); and whether R72 replaced it. -/
def toOperand (fmt opnd : Nat) (b : Int) (code : Nat) : Lns × Bool :=
  if fmt = 4 then (if opnd = 4 then Lns.of16 code else (Lns.narrow b (Lns.of16 code)).clamp8, false)
  else if fmt = 5 then (if opnd = 4 then Lns.widen b (Lns.of8 code) else Lns.of8 code, false)
  else
    let (x, fl) := decodeFloat fmt code
    (if opnd = 4 then x.to16.clamp16 else (x.to8 b).clamp8, fl)

/-! ## Products and dot products (R81, R82, R92) -/

/-- An LNS product, without rounding or saturation (R81). -/
def Lns.mul : Lns → Lns → Lns
  | .nan, _ => .nan
  | _, .nan => .nan
  | .zero, .inf _ => .nan
  | .inf _, .zero => .nan
  | .zero, _ => .zero
  | _, .zero => .zero
  | .inf a, .inf b => .inf (a != b)
  | .inf a, .fin b _ => .inf (a != b)
  | .fin a _, .inf b => .inf (a != b)
  | .fin a l, .fin b m => .fin (a != b) (l + m)

/-- Sum of products in increasing index, one 40-bit rounding an addition, from `acc` (R82); a zero product adds nothing. -/
def dotFrom (k : Nat) (bias : Int) : Num → List Lns → List Lns → Num
  | acc, x :: xs, y :: ys =>
    match x.mul y with
    | .zero => dotFrom k bias acc xs ys
    | p => dotFrom k bias (acc40 acc (p.linear k bias)) xs ys
  | acc, _, _ => acc

/-- Contraction blocks of 512 combined in increasing index (R92): `n` blocks are left. -/
def dotBlocks (k : Nat) (bias : Int) : (n : Nat) → Num → List Lns → List Lns → Num
  | 0, acc, _, _ => acc
  | n + 1, acc, xs, ys =>
    dotBlocks k bias n (acc40 acc (dotFrom k bias .zero (xs.take 512) (ys.take 512))) (xs.drop 512) (ys.drop 512)

/-- One output element of the bed before its conversion (R92): operands at `k` steps an octave, biases summed. -/
def bedDot (k : Nat) (bias : Int) (xs ys : List Lns) : Num :=
  match ceilDiv xs.length 512 with
  | 0 => .zero
  | n + 1 => dotBlocks k bias n (dotFrom k bias .zero (xs.take 512) (ys.take 512)) (xs.drop 512) (ys.drop 512)

/-! ## Selvedge operations on LNS16 (Table NUM-6) -/

/-- Multiply. -/
def selMul (a b : Lns) : Lns := (a.mul b).clamp16

/-- Divide. -/
def selDiv (a b : Lns) : Lns :=
  match a, b with
  | .nan, _ => .nan
  | _, .nan => .nan
  | .zero, .zero => .nan
  | .inf _, .inf _ => .nan
  | .fin s _, .zero => .inf s
  | .inf s, .zero => .inf s
  | .zero, _ => .zero
  | .fin _ _, .inf _ => .zero
  | .inf s, .fin t _ => .inf (s != t)
  | .fin s l, .fin t m => (Lns.fin (s != t) (l - m)).clamp16

/-- Square root: L halved to the nearest integer, a half to the even one. -/
def selSqrt : Lns → Lns
  | .zero => .zero
  | .inf false => .inf false
  | .fin false l =>
    let q := l / 2
    .fin false (if l % 2 = 1 ∧ q % 2 = 1 then q + 1 else q)
  | _ => .nan

/-- Scale by 2^k. -/
def selScale (k : Int) : Lns → Lns
  | .fin s l => (Lns.fin s (l + 128 * k)).clamp16
  | x => x

/-- Sign flip, exact; zero and NaN carry no sign. -/
def Lns.neg : Lns → Lns
  | .inf s => .inf (!s)
  | .fin s l => .fin (!s) l
  | x => x

/-- Add: linear conversion, one 40-bit addition, then the nearest L. -/
def selAdd (a b : Lns) : Lns := (acc40 (a.linear 128 0) (b.linear 128 0)).to16.clamp16

/-- Subtract. -/
def selSub (a b : Lns) : Lns := selAdd a b.neg

/-- One selvedge dot product in LNS16, converted once (R100). -/
def selDot (xs ys : List Lns) : Lns := (dotFrom 128 0 .zero xs ys).to16.clamp16

/-- `mul` of R102: the linear value to LNS16, an exact product, back to linear without rounding. -/
def mulLinear (a : Lns) (x : Num) : Num := (a.mul x.to16.clamp16).linear 128 0

/-! ## The generator (R104, R105) -/

/-- `mix` of R104. -/
def mix (z : BitVec 64) : BitVec 64 :=
  let z := (z ^^^ (z >>> 30)) * 0xbf58476d1ce4e5b9#64
  let z := (z ^^^ (z >>> 27)) * 0x94d049bb133111eb#64
  z ^^^ (z >>> 31)

/-- `kgen` of R104. -/
def kgen (seed step stream tensor index : Nat) : BitVec 64 :=
  let hi := BitVec.ofNat 64 ((step % 2 ^ 32) * 2 ^ 32 + (stream % 256) * 2 ^ 24 + tensor % 2 ^ 24)
  mix (mix (BitVec.ofNat 64 seed ^^^ mix hi) + BitVec.ofNat 64 index)

/-- Element `i` of a generated projection matrix (R105): +1.0 or −1.0. -/
def genSign (seed step tensor i : Nat) : Num := .fin ((kgen seed step 0 tensor i).getLsbD 63) 1 0

/-- The 16 random bits of stochastic rounding of element `i` (R76, R105). -/
def srBits (seed step tensor i : Nat) : Nat := (kgen seed step 1 tensor i).toNat % 2 ^ 16

end Sys2Proof.Machine
end

