-- ==== Sys2Proof/Machine/Flags.lean ====
section
/-!
DEFINITION. Machine/Flags.lean: what an engine reports of its output: the numeric summary and the exponent histogram
(R85 to R90).
-/
namespace Sys2Proof.Machine

/-- What an output code is (R86): zero, NaN, infinite, or finite and nonzero with its exponent. -/
inductive OutKind where
  | zero | nan | inf
  | finite (e : Int)
  deriving DecidableEq, Repr

/-- Kind and exponent of an output code (R86). -/
def outKind (fmt : Nat) (bias : Int) (code : Nat) : OutKind :=
  if isLns fmt then
    match (if fmt = 4 then Lns.of16 code else Lns.of8 code) with
    | .zero => .zero
    | .nan => .nan
    | .inf _ => .inf
    | .fin _ l => .finite (if fmt = 4 then l / 128 else l / 8 + bias)
  else
    match (decodeFloat fmt code).1 with
    | .nan => .nan
    | .inf _ => .inf
    | .fin _ m e => if m = 0 then .zero else .finite (e + bitLen m - 1)

/-- Output elements of a descriptor with what writing each did. -/
structure OutTensor where
  fmt : Nat
  bias : Int
  elems : List Enc

/-- The bytes of an output tensor. -/
def OutTensor.bytes (t : OutTensor) : Bytes := t.elems.flatMap (fun e => le (fmtBytes t.fmt) e.code)

/-- The exponents of the finite nonzero elements. -/
def OutTensor.exps (t : OutTensor) : List Int :=
  t.elems.filterMap (fun e => match outKind t.fmt t.bias e.code with
    | .finite x => some x
    | _ => none)

/-- Elements of one kind, saturating at `n` bits. -/
def OutTensor.count (t : OutTensor) (n : Nat) (p : OutKind → Bool) : Nat :=
  min (t.elems.countP (fun e => p (outKind t.fmt t.bias e.code))) (2 ^ n - 1)

/-- Least of a list of exponents, or the value for none. -/
def minExp : List Int → Nat
  | [] => 0x7FFF
  | a :: r => ofSigned 16 (r.foldl min a)

/-- Greatest of a list of exponents, or the value for none. -/
def maxExp : List Int → Nat
  | [] => 0x8000
  | a :: r => ofSigned 16 (r.foldl max a)

/-- The numeric summary (Table NUM-7, R87), with HIST_VALID. -/
def OutTensor.summary (t : OutTensor) (flushIn : Nat) (histValid : Bool) : Bytes :=
  le 2 (minExp t.exps) ++ le 2 (maxExp t.exps) ++ le 4 (t.count 32 (· == .zero)) ++ le 4 (min flushIn (2 ^ 32 - 1)) ++
  le 4 (min (t.elems.countP (·.flush)) (2 ^ 32 - 1)) ++ le 2 (t.count 16 (· == .nan)) ++ le 2 (t.count 16 (· == .inf)) ++
  le 2 (min (t.elems.countP (·.sat)) (2 ^ 16 - 1)) ++ le 1 (b2n histValid) ++ zeros 1

/-- The summary of a descriptor that completes with poisoned output (R90). -/
def poisonedSummary : Bytes := le 2 0x7FFF ++ le 2 0x8000 ++ zeros 18 ++ le 1 2 ++ zeros 1

/-- The bin of an exponent (R88). -/
def histBin (base e : Int) : Nat := if e ≤ base then 0 else if e ≥ base + 55 then 55 else (e - base).toNat

/-- The 256-byte histogram record (Table NUM-8). -/
def OutTensor.histogram (t : OutTensor) (flushIn base : Nat) : Bytes :=
  let b := toSigned 8 base
  t.summary flushIn true ++ le 2 (ofSigned 16 b) ++ zeros 2 ++ le 4 (min t.elems.length (2 ^ 32 - 1)) ++
  (List.range 56).flatMap (fun i => le 4 (min (t.exps.countP (fun e => histBin b e == i)) (2 ^ 32 - 1)))

end Sys2Proof.Machine
end

