-- ==== Sys2Proof/Machine/Erasure.lean ====
section
/-!
DEFINITION. Machine/Erasure.lean: the erasure code of the line: systematic Reed-Solomon over GF(2^8) with Cauchy parity
(spec/08_long_haul_transport.md, R204 and R205).
-/
namespace Sys2Proof.Machine

/-- Multiply by x in GF(2^8) modulo 0x11D. -/
def rsX (b : Byte) : Byte := if b.getLsbD 7 then (b <<< 1) ^^^ 0x1D#8 else b <<< 1

/-- One step of a product: `n` bits of `a` from the most significant are left. -/
def rsMulStep (a b : Byte) : (n : Nat) → Byte → Byte
  | 0, acc => acc
  | n + 1, acc => rsMulStep a b n (rsX acc ^^^ (if a.getLsbD n then b else 0#8))

/-- `gf_mul` of R204. -/
def rsMul (a b : Byte) : Byte := rsMulStep a b 8 0#8

/-- `n` squarings, each multiplied by `a`. -/
def rsPow (a : Byte) : Nat → Byte → Byte
  | 0, acc => acc
  | n + 1, acc => rsPow a n (rsMul (rsMul acc acc) a)

/-- `gf_inv` of R204: a^254. -/
def rsInv (a : Byte) : Byte := let t := rsPow a 6 a; rsMul t t

/-- Cauchy coefficient of parity shard `j` for data shard `i` (R204). -/
def cauchy (j i : Nat) : Byte := rsInv (BitVec.ofNat 8 ((0x10 + j) ^^^ i))

/-- `acc` plus `c` times `d`, byte by byte. -/
def addScaled (c : Byte) (acc d : Bytes) : Bytes := List.zipWith (fun a x => a ^^^ rsMul c x) acc d

/-- Sum of shards with coefficients, `n` bytes. -/
def combine (n : Nat) (cs : List Byte) (ds : List Bytes) : Bytes :=
  (List.zip cs ds).foldl (fun acc p => addScaled p.1 acc p.2) (zeros n)

/-- The `m` parity shards of data shards of `n` bytes (R204). -/
def rsParity (n m : Nat) (ds : List Bytes) : List Bytes :=
  (List.range m).map (fun j => combine n ((List.range ds.length).map (cauchy j)) ds)

/-- Row of the decode matrix for shard index `h` (R205). -/
def rsRow (k h : Nat) : List Byte :=
  (List.range k).map (fun i => if h < k then (if h = i then 1#8 else 0#8) else cauchy (h - k) i)

/-- One column of Gauss-Jordan elimination on rows of an augmented matrix. -/
def rsEliminate (c : Nat) (rows : List (List Byte)) : List (List Byte) :=
  match rows.zipIdx.find? (fun (p : List Byte × Nat) => decide (c ≤ p.2) && p.1.getD c 0 != 0#8) with
  | none => rows
  | some (r, i) =>
    let rows := (rows.set i (rows.getD c [])).set c (r.map (rsMul (rsInv (r.getD c 0))))
    let piv := rows.getD c []
    rows.zipIdx.map (fun (p : List Byte × Nat) => if p.2 = c then p.1 else addScaled (p.1.getD c 0) p.1 piv)

/-- Inverse of a `k` × `k` matrix. -/
def rsInvert (k : Nat) (g : List (List Byte)) : List (List Byte) :=
  let aug := g.zipIdx.map (fun (p : List Byte × Nat) =>
    p.1 ++ (List.range k).map (fun i => if i = p.2 then 1#8 else 0#8))
  ((List.range k).foldl (fun r c => rsEliminate c r) aug).map (fun r => r.drop k)

/-- The data of a codeword from valid shards (R205): every data shard held, completed by the lowest parity shards. -/
def rsDecode (n k : Nat) (shards : List (Nat × Bytes)) : List Bytes :=
  let at' (i : Nat) : Option Bytes := (shards.find? (fun x => x.1 == i)).map (·.2)
  let have' := (List.range 20).filter (fun i => (at' i).isSome)
  let chosen := have'.take k
  let gi := rsInvert k (chosen.map (rsRow k))
  (List.range k).map (fun i =>
    match at' i with
    | some d => d
    | none => combine n (gi.getD i []) (chosen.map (fun h => (at' h).getD [])))

end Sys2Proof.Machine
end

