-- ==== Sys2Proof/Machine/Skein.lean ====
section
/-!
DEFINITION. Machine/Skein.lean: the skein pool manager (spec/12_memory_and_skeins.md, R333 to R345).
-/
namespace Sys2Proof.Machine
open Csr

/-- SIZE of pool `p` (R333). -/
def poolSize (p : Nat) : Nat := 256 * 16 ^ p

/-- The slot of a skein of pool `p`, which is its capacity: SIZE + max(64, SIZE / 256) (R333). -/
def poolSlot (p : Nat) : Nat := poolSize p + max 64 (poolSize p / 256)

/-- The largest allocation (R333). -/
def maxSkein : Nat := 16842752

/-- Whether pool `p` is enabled. -/
def State.poolOn (s : State) (p : Nat) : Bool := (s.get SKEIN_CTRL.POOL_EN).testBit p

/-- The pools, lowest-numbered first, that are enabled and fit `len` bytes (R333). -/
def State.poolsFor (s : State) (len : Nat) : List Nat :=
  (List.range 5).filter (fun p => s.poolOn p && decide (len ≤ poolSlot p))

/-- Address of the record of skein `i` of pool `p` (R335). -/
def State.recAddr (s : State) (p i : Nat) : Nat := s.get POOL_REC.ADDR p * 64 + 8 * i

/-- Address of skein `i` of pool `p` (R333). -/
def State.skeinAddr (s : State) (p i : Nat) : Nat := s.get POOL_BASE.ADDR p * 64 + i * poolSlot p

/-- A skein record as its eight bytes hold it (Table MEM-5). -/
structure SkeinRec where
  len : Nat
  gen : Nat
  owners : List Nat
  poisoned : Bool
  quarantined : Bool
  deriving DecidableEq, Repr

/-- The record that eight bytes hold. A record never written holds zero where the hardware's first generation is 1
(log entry 6). -/
def SkeinRec.ofNat (w : Nat) : SkeinRec :=
  { len := getBits w 0 25
    gen := max 1 (getBits w 25 5)
    owners := (List.range (min 4 (getBits w 56 3))).map (fun k => getBits w (32 + 6 * k) 6)
    poisoned := bit w 59
    quarantined := bit w 60 }

/-- The eight bytes of a record (Table MEM-5). -/
def SkeinRec.toNat (r : SkeinRec) : Nat :=
  let own := (List.range 4).foldl (fun a k => a + (r.owners.getD k 0 % 64) * 2 ^ (32 + 6 * k)) 0
  r.len % 2 ^ 25 + (r.gen % 32) * 2 ^ 25 + own + r.owners.length * 2 ^ 56 + b2n r.poisoned * 2 ^ 59 +
    b2n r.quarantined * 2 ^ 60

/-- The record of skein `i` of pool `p`. -/
def State.skeinRec (s : State) (p i : Nat) : SkeinRec := SkeinRec.ofNat (s.readLe (s.recAddr p i) 8)

/-- Store the record of skein `i` of pool `p`. -/
def State.putSkeinRec (s : State) (p i : Nat) (r : SkeinRec) : State := s.writeBytes (s.recAddr p i) (le 8 r.toNat)

/-- A skein handle: [31:29] pool, [28:24] generation, [23:0] index (R334). -/
def handleOf (p gen i : Nat) : Nat := p * 2 ^ 29 + gen * 2 ^ 24 + i

/-- Pool manager `p`'s free list. -/
def State.pool (s : State) (p : Nat) : PoolSt := s.skein.pools.toList.getD p {}

/-- Replace pool manager `p`'s free list. -/
def State.putPool (s : State) (p : Nat) (x : PoolSt) : State :=
  { s with skein := { s.skein with pools := s.skein.pools.setIfInBounds p x } }

/-- The guarantees still due to the other classes in pool `p` (R336). -/
def State.skeinOwed (s : State) (cls p : Nat) : Nat :=
  ((List.range 64).filter (· ≠ cls)).foldl (fun a c => a + (s.get CLASS_QUOTA.MIN c p - s.get CLASS_USE.USE c p)) 0

/-- Whether R336 grants class `cls` a skein of pool `p`. -/
def State.skeinGrants (s : State) (cls p : Nat) : Bool :=
  decide (s.get CLASS_USE.USE cls p < s.get CLASS_QUOTA.MAX cls p ∧ s.get POOL_STATUS.FREE p > s.skeinOwed cls p) &&
  !(s.pool p).stopped

/-- Refill the 512-entry cache: 128 entries from the ring when it holds 64 or fewer (R342). -/
def PoolSt.refill (x : PoolSt) (count : Nat) : PoolSt :=
  if x.cache.length ≤ 64 then
    let nf := min 128 (count - x.fresh)
    let nr := min (128 - nf) x.ring.length
    { x with
      fresh := x.fresh + nf
      ring := x.ring.drop nr
      cache := x.cache ++ (List.range nf).map (x.fresh + ·) ++ x.ring.take nr }
  else x

/-- Return an index to the cache, which writes 128 entries back to the ring when it holds 448 or more (R342). -/
def PoolSt.push (x : PoolSt) (i : Nat) : PoolSt :=
  let c := i :: x.cache
  if c.length ≥ 448 then { x with cache := c.take (c.length - 128), ring := x.ring ++ c.drop (c.length - 128) }
  else { x with cache := c }

/-- The answer of the pool manager to an allocation. -/
inductive SkeinGrant where
  | granted (handle : Nat) (s : State)
  | refused (reason : Nat)
  | exhausted

/-- Take the next free skein of pool `p` for class `cls` (the end of `skein_alloc`, R336). -/
def State.skeinTake (s : State) (cls p len : Nat) : SkeinGrant :=
  let x := (s.pool p).refill (s.get POOL_CFG.COUNT p)
  match x.cache with
  | [] => .exhausted
  | i :: c =>
    let s := s.putPool p { x with cache := c }
    let free := s.get POOL_STATUS.FREE p - 1
    let s := (s.set POOL_STATUS.FREE free p).set POOL_STATUS.LOW (min free (s.get POOL_STATUS.LOW p)) p
    let u := s.get CLASS_USE.USE cls p + 1
    let s := (s.set CLASS_USE.USE u cls p).set CLASS_USE.PEAK (max u (s.get CLASS_USE.PEAK cls p)) cls p
    let r := s.skeinRec p i
    let gen := if r.gen = 31 then 1 else r.gen + 1
    let s := s.putSkeinRec p i { r with gen := gen, len := len, owners := [cls], poisoned := false }
    .granted (handleOf p gen i)
      (s.pmonEdge 0x0024 1 { cls := cls, master := some 4 })

/-- `skein_alloc` of R336 over the pools that fit: the smallest only, or each larger one in turn under SPILL_UP. -/
def State.skeinTry (s : State) (cls len : Nat) : List Nat → SkeinGrant
  | [] => .exhausted
  | p :: ps =>
    if s.skeinGrants cls p then s.skeinTake cls p len
    else if s.on MEM_CLASS.SPILL_UP cls then s.skeinTry cls len ps
    else .exhausted

/-- `skein_alloc` (R336), with the refusals of R333 and R345. -/
def State.skeinAlloc (s : State) (cls len : Nat) : SkeinGrant :=
  if !s.on SKEIN_STATUS.READY then .refused 0x040A
  else if len = 0 ∨ len > maxSkein then .refused 0x0401
  else
    match s.poolsFor len with
    | [] => .refused 0x0402
    | ps => s.skeinTry cls len ps

/-- Report a refusal by the pool manager: its log and count (Table MEM-6). -/
def State.skeinRefused (s : State) (reason cls queue : Nat) : State :=
  let s := ((s.set SKEIN_ERR_LOG.REASON reason).set SKEIN_ERR_LOG.CLASS cls).set SKEIN_ERR_LOG.QUEUE queue
  if reason = 0x040A then s
  else
    let s := s.addSat SKEIN_COUNT.REFUSED 1
    if reason = 0x0403 then s.raise SKEIN_INT_STATUS.EXHAUSTED else s

/-- A violation of R338: no state changes but the log, the handle and the counts (R341). -/
def State.skeinViolation (s : State) (reason h cls queue : Nat) : State :=
  let s := (((s.set SKEIN_ERR_LOG.REASON reason).set SKEIN_ERR_LOG.CLASS cls).set SKEIN_ERR_LOG.QUEUE queue).set
    SKEIN_ERR_HANDLE.HANDLE h
  let s := (s.addSat SKEIN_COUNT.VIOLATIONS 1).raise SKEIN_INT_STATUS.VIOLATION
  s.violation { reason := reason, origin := 4, cls := cls, queue := queue, block := 4, detail := h }

/-- Pool, generation and index of a handle (R334). -/
def splitHandle (h : Nat) : Nat × Nat × Nat := (getBits h 29 3, getBits h 24 5, getBits h 0 24)

/-- The record that a handle names while it is valid: pool in range, index below COUNT, owners present, generation equal
(R338). -/
def State.handleRec (s : State) (h : Nat) : Option (Nat × Nat × SkeinRec) :=
  let (p, g, i) := splitHandle h
  if p > 4 ∨ i ≥ s.get POOL_CFG.COUNT p then none
  else
    let r := s.skeinRec p i
    if r.owners = [] ∨ r.gen ≠ g then none else some (p, i, r)

/-- `skein_free` of R338: the reason of a violation, or the state after. -/
def State.skeinFree (s : State) (h cls : Nat) : Except Nat State :=
  match s.handleRec h with
  | none => .error 0x0404
  | some (p, i, r) =>
    if cls ∈ r.owners then
      let k := r.owners.findIdx (· == cls)
      let s := if k = 0 then s.set CLASS_USE.USE (s.get CLASS_USE.USE cls p - 1) cls p else s
      let s :=
        if k = 0 ∧ r.owners.length > 1 then
          let o := r.owners.getD 1 0
          let u := s.get CLASS_USE.USE o p + 1
          (s.set CLASS_USE.USE u o p).set CLASS_USE.PEAK (max u (s.get CLASS_USE.PEAK o p)) o p
        else s
      let left := r.owners.eraseIdx k
      let s := s.putSkeinRec p i { r with owners := left }
      if left ≠ [] then .ok s
      else if r.quarantined then
        .ok ((s.addSat POOL_STATUS.QUARANTINED 1 p).report 0x0407)
      else
        .ok ((s.addWrap POOL_STATUS.FREE 1 p).putPool p ((s.pool p).push i))
    else .error 0x0405

/-- The address that a valid handle names. -/
def State.handleAddr (s : State) (h : Nat) : Nat := let (p, _, i) := splitHandle h; s.skeinAddr p i

/-- Class and queue of a requester. -/
def State.reqClass (s : State) : SkeinReq → Nat × Nat
  | .queue w => (s.classOf w, w.queue)
  | .engine c => (c.val, 0)

/-- End a request: a descriptor completes with its reason; an engine's request has no record. -/
def State.reqEnd (s : State) (q : SkeinReq) (reason : Nat) : State :=
  match q with
  | .queue w => if reason = 0 then s.finish w { block := 4 } else s.finish w { block := 4, reason := reason, error := true }
  | .engine _ => s

/-- ALLOC (R336, R337): a driver's allocation of `len` bytes. The spec gives no body for a SKEIN descriptor, so the
length is an operand (log entry 7). -/
def execAlloc (w : Work) (len : Nat) (s : State) : Host.Outcome State Fault Refusal :=
  let cls := s.classOf w
  match s.skeinAlloc cls len with
  | .granted h s' =>
    .next ({ s' with skein := { s'.skein with granted := s'.skein.granted ++ [(h, cls)] } }.reqEnd (.queue w) 0)
  | .refused r => .next ((s.skeinRefused r cls w.queue).reqEnd (.queue w) r)
  | .exhausted => .next ((s.skeinRefused 0x0403 cls w.queue).reqEnd (.queue w) 0x0403)

/-- SHARE (R338): a named owner adds a class to the owners, while there are fewer than four and it is not yet named. -/
def execShare (q : SkeinReq) (h : BitVec 32) (add : Fin 64) (s : State) : Host.Outcome State Fault Refusal :=
  let (cls, queue) := s.reqClass q
  match s.handleRec h.toNat with
  | none => .next ((s.skeinViolation 0x0404 h.toNat cls queue).reqEnd q 0x0404)
  | some (p, i, r) =>
    if cls ∈ r.owners ∧ r.owners.length < 4 ∧ add.val ∉ r.owners then
      .next ((s.putSkeinRec p i { r with owners := r.owners ++ [add.val] }).reqEnd q 0)
    else
      .next (((s.skeinRefused 0x0406 cls queue).set SKEIN_ERR_HANDLE.HANDLE h.toNat).reqEnd q 0x0406)

/-- FREE (R338, R341). -/
def execFree (q : SkeinReq) (h : BitVec 32) (s : State) : Host.Outcome State Fault Refusal :=
  let (cls, queue) := s.reqClass q
  match s.skeinFree h.toNat cls with
  | .ok s' => .next (s'.reqEnd q 0)
  | .error r => .next ((s.skeinViolation r h.toNat cls queue).reqEnd q r)

/-- SKEIN_ENGINE_REQUEST (R337): an engine's request is granted, or waits with backpressure and is counted. -/
def execSkeinEngineRequest (cls : Fin 64) (len : Nat) (s : State) : Host.Outcome State Fault Refusal :=
  match s.skeinAlloc cls.val len with
  | .granted h s' => .next { s' with skein := { s'.skein with granted := s'.skein.granted ++ [(h, cls.val)] } }
  | .refused r => .next (s.skeinRefused r cls.val 0)
  | .exhausted =>
    .next ({ s with skein := { s.skein with waiting := s.skein.waiting ++ [SkeinWait.mk cls.val len] } }.addSat SKEIN_COUNT.WAITS 1)

/-- Grant the oldest waiting request that R336 now allows. -/
def grantWaiting (s : State) : List SkeinWait → State
  | [] => s
  | x :: r =>
    match s.skeinAlloc x.cls x.len with
    | .granted h s' =>
      { s' with skein := { s'.skein with waiting := s'.skein.waiting.erase x, granted := s'.skein.granted ++ [(h, x.cls)] } }
    | _ => grantWaiting s r

/-- SKEIN_WAIT_GRANT (R337): the oldest waiting request that quota and pool now allow is granted. -/
def execSkeinWaitGrant (s : State) : Host.Outcome State Fault Refusal := .next (grantWaiting s s.skein.waiting)

/-- The pools as they start at cast-on, at a restore and at SKEIN enable: every skein of an enabled pool free, every
generation 1, every class use 0, and the ring in ascending order (R343). -/
def State.skeinInit (s : State) : State :=
  let s := (List.range 5).foldl (fun s p =>
      let n := if s.poolOn p then s.get POOL_CFG.COUNT p else 0
      ((s.set POOL_STATUS.FREE n p).set POOL_STATUS.LOW n p).putPool p {}) s
  let uses := s.csr.filterMap (fun e =>
    let d := e.1 - CLASS_USE.base
    if CLASS_USE.base ≤ e.1 ∧ d < 64 * 0x40 then some (d / 0x40, d % 0x40 / 8) else none)
  let s := uses.foldl (fun s u => s.wrReg CLASS_USE 0 u.1 u.2) s
  let recs := (List.range 5).filter s.poolOn
  let lo (p : Nat) := s.recAddr p 0
  { s with
    mem := s.mem.filter (fun c => !(recs.any (fun p => decide (lo p ≤ c.1 ∧ c.1 < lo p + 8 * s.get POOL_CFG.COUNT p))))
    skein := { s.skein with waiting := [], granted := [] } }

end Sys2Proof.Machine
end

