-- ==== Sys2Proof/Machine/Queues.lean ====
section
/-!
DEFINITION. Machine/Queues.lean: queues, doorbells, fetching, policing, completion records, chains and sampling
(spec/13_queues_and_scheduling.md R347 to R371 and R499; spec/19_observability.md R478, R479).
-/
namespace Sys2Proof.Machine
open Csr

/-- First queue of the LINE range (R348). -/
def State.lineBase (s : State) : Nat := s.get SCHED_CTRL.LINE_QUEUE_BASE

/-- Whether a queue is in the LINE range (R348). -/
def State.inLineRange (s : State) (q : Nat) : Bool := decide (s.lineBase ≤ q ∧ q < s.lineBase + 2064)

/-- Entries of a queue's submission ring. -/
def State.sqSize (s : State) (q : Nat) : Nat := 2 ^ s.get Q_CFG.SQ_LOG2 q
/-- Entries of a queue's completion ring. -/
def State.cqSize (s : State) (q : Nat) : Nat := 2 ^ s.get Q_CFG.CQ_LOG2 q

/-- Difference of two 16-bit counts (R348 and the text before R350). -/
def diff16 (a b : Nat) : Nat := (a + 2 ^ 16 - b) % 2 ^ 16

/-- Records in a queue's completion ring not yet taken. -/
def State.cqUsed (s : State) (q : Nat) : Nat := diff16 (s.get Q_PTR.CQ_TAIL q) (s.get Q_PTR.CQ_HEAD q)

/-- Log a queue fault: HOSTQ_ERR_LOG and HOSTQ_ERR_ADDR. -/
def State.queueLog (s : State) (reason q source addr : Nat) : State :=
  ((((s.set HOSTQ_ERR_LOG.REASON reason).set HOSTQ_ERR_LOG.QUEUE q).set HOSTQ_ERR_LOG.CLASS (s.get Q_CFG.CLASS q)).set
    HOSTQ_ERR_LOG.SOURCE source).set HOSTQ_ERR_ADDR.ADDR addr

/-! ## Doorbells (R353, R354) -/

/-- Where a doorbell comes from: the host's doorbell page, or a doorbell word written over the fabric by a tenant. -/
structure Bell where
  queue : Nat
  addr : Nat
  value : Nat
  fabricTenant : Option Nat

/-- Ignore a doorbell with its reason (R353): violation log, HOSTQ_ERR_LOG with queue and source, and the counts. -/
def State.refuseBell (s : State) (b : Bell) (reason : Nat) : State :=
  let source := if b.fabricTenant.isSome then 1 else 0
  let s := s.queueLog reason b.queue source b.addr
  if reason = 0x0209 then s
  else
    let s := (s.addSat HOSTQ_COUNT.VIOLATIONS 1).raise HOSTQ_INT_STATUS.VIOLATION
    let origin := if b.fabricTenant.isSome then 2 else 1
    s.violation ⟨reason, origin, s.get Q_CFG.CLASS b.queue, b.queue, b.fabricTenant.getD (s.get Q_CFG.TENANT_ID b.queue), 2,
      b.addr, b.value⟩

/-- The reason a doorbell is ignored with before its value is looked at, or none (R353, R371). -/
def State.bellCheck (s : State) (b : Bell) : Option Nat :=
  if !s.on HOSTQ_STATUS.READY then some 0x0209
  else if s.inLineRange b.queue then some 0x0203
  else if !s.on Q_CFG.ENABLE b.queue then some 0x0204
  else
    match b.fabricTenant with
    | none => none
    | some t => if t = s.get Q_CFG.TENANT_ID b.queue then none else some 0x0203

/-- A write to SQ_TAIL (R353): the new tail lies between the old tail and one ring beyond the head. -/
def State.sqTailBell (s : State) (b : Bell) : State :=
  match s.bellCheck b with
  | some r => s.refuseBell b r
  | none =>
    let new := b.value % 2 ^ 16
    let head := s.get Q_PTR.SQ_HEAD b.queue
    let d := diff16 new head
    if diff16 (s.get Q_PTR.SQ_TAIL b.queue) head ≤ d ∧ d ≤ s.sqSize b.queue then s.set Q_PTR.SQ_TAIL new b.queue
    else s.refuseBell b 0x0203

/-- A write to CQ_DOOR (R354): the new head lies between the old head and the completion tail; ARM arms the interrupt. -/
def State.cqDoorBell (s : State) (b : Bell) : State :=
  match s.bellCheck b with
  | some r => s.refuseBell b r
  | none =>
    let q := b.queue
    let new := b.value % 2 ^ 16
    let head := s.get Q_PTR.CQ_HEAD q
    if diff16 new head ≤ diff16 (s.get Q_PTR.CQ_TAIL q) head then
      let s := s.set Q_PTR.CQ_HEAD new q
      let s := if b.value.testBit 16 then { s with hostq := { s.hostq with armed := addOnce s.hostq.armed q } } else s
      if s.cqUsed q < s.cqSize q then
        { (s.set Q_STATUS.CQ_FULL 0 q) with hostq := { s.hostq with fullReported := s.hostq.fullReported.erase q } }
      else s
    else s.refuseBell b 0x0203

/-- Count and report a malformed Mykabel message (R392). -/
def State.badMessage (s : State) : State := (s.addSat TOP_MYK_COUNT.BAD_MSG 1).report 0x0012

/-- A doorbell message (Table HOST-1, R397): the page names the queue, and the offset the doorbell. -/
def State.doorbell (s : State) (msg : MykMsg) (wantCq : Bool) : State :=
  if msg.type ≠ 5 ∨ msg.len ≠ 8 ∨ msg.payload.length ≠ 8 then s.badMessage
  else
    let v := leVal msg.payload
    let q := (msg.addr - 0x10000000) / 0x1000
    let b : Bell := ⟨q, msg.addr, v, none⟩
    let off := msg.addr % 0x1000
    if msg.addr < 0x10000000 ∨ 0x12000000 ≤ msg.addr then
      s.violation ⟨0x0002, 1, 0, 0, 0, 0, msg.addr, v⟩
    else if off = (if wantCq then 8 else 0) then (if wantCq then s.cqDoorBell b else s.sqTailBell b)
    else if off = 0 then s.sqTailBell b
    else if off = 8 then s.cqDoorBell b
    else s.violation ⟨0x0004, 1, 0, q, 0, 0, msg.addr, v⟩

/-- SQ_TAIL (R353): a submission doorbell. -/
def execSqTail (msg : MykMsg) (s : State) : Host.Outcome State Fault Refusal := .next (s.doorbell msg false)

/-- CQ_DOOR (R354): a completion doorbell. -/
def execCqDoor (msg : MykMsg) (s : State) : Host.Outcome State Fault Refusal := .next (s.doorbell msg true)

/-! ## Fetching (R352, R365, R478, R499) -/

/-- A fetch error of a queue (Table QUE-6, R499): it stops, and its copies fetched and not dispatched are discarded. -/
def State.fetchError (s : State) (q addr : Nat) : State :=
  let s := ((s.set Q_STATUS.STOPPED 1 q).set Q_STATUS.REASON 0x0207 q).queueLog 0x0207 q 2 addr
  let s := (s.addSat HOSTQ_COUNT.FETCH_ERR 1).raise HOSTQ_INT_STATUS.FETCH_ERROR
  { s with hostq := { s.hostq with fetched := s.hostq.fetched.filter (fun f => f.work.queue ≠ q) } }

/-- A policer's buckets: committed tokens, excess or peak tokens, the two carried fractions, and the last time. Buckets
start full (R365). -/
def State.bucket (s : State) (k : Nat) : Nat × Nat × Nat × Nat × Nat :=
  lookupD s.sched.buckets k (s.get POL_BURST.CBS (k - 1), s.get POL_BURST.EBS_PBS (k - 1), 0, 0, s.mono)

/-- `police` of R365 for policer `k`, a descriptor of `b` bytes and pre-colour `pre` (0 green, 1 yellow, 2 red). A
configuration change clamps the buckets to the new sizes. -/
def State.police (s : State) (k b pre : Nat) : Nat × State :=
  let r := k - 1
  let mode := s.get POL_CFG.MODE r
  let cir := s.get POL_CFG.CIR r
  let pir := s.get POL_CFG.PIR r
  let cbs := s.get POL_BURST.CBS r
  let xbs := s.get POL_BURST.EBS_PBS r
  let aware := s.on POL_CFG.AWARE r
  let (tc0, te0, fc, fp, last) := s.bucket k
  let dt := s.mono - last
  let put (s : State) (x : Nat × Nat × Nat × Nat × Nat) : State :=
    { s with sched := { s.sched with buckets := assocPut s.sched.buckets k x } }
  if mode = 0 then (0, s)
  else if mode = 3 ∨ (mode = 2 ∧ pir < cir) then
    if k ∈ s.sched.badPolicer then (0, s)
    else (0, { s with sched := { s.sched with badPolicer := k :: s.sched.badPolicer } }.report 0x0309)
  else
    let tc0 := min tc0 cbs
    let te0 := min te0 xbs
    let ac := (cir * dt + fc) / 1000
    let fc := (cir * dt + fc) % 1000
    if mode = 1 then
      let te := if tc0 + ac > cbs then min (te0 + (tc0 + ac - cbs)) xbs else te0
      let tc := min (tc0 + ac) cbs
      if (!aware || pre == 0) && decide (tc ≥ b) then (0, put s (tc - b, te, fc, fp, s.mono))
      else if (!aware || pre != 2) && decide (te ≥ b) then (1, put s (tc, te - b, fc, fp, s.mono))
      else (2, put s (tc, te, fc, fp, s.mono))
    else
      let ap := (pir * dt + fp) / 1000
      let fp := (pir * dt + fp) % 1000
      let tc := min (tc0 + ac) cbs
      let tp := min (te0 + ap) xbs
      if (aware && pre == 2) || decide (tp < b) then (2, put s (tc, tp, fc, fp, s.mono))
      else if (aware && pre == 1) || decide (tc < b) then (1, put s (tc, tp - b, fc, fp, s.mono))
      else (0, put s (tc - b, tp - b, fc, fp, s.mono))

/-- Meter a descriptor by its queue's policer (R365, R372): the colour, the reason it is refused with, and the state. -/
def State.meterDesc (s : State) (q : Nat) (desc : Bytes) : Nat × Nat × State :=
  let k := s.get Q_CFG.POLICER q
  if k = 0 then (0, 0, s)
  else if !s.on SCHED_STATUS.READY then (0, 0x0308, s)
  else
    let len := fieldAt desc 12 4
    let (c, s) := s.police k len (getBits (fieldAt desc 1 1) 4 2)
    let r := k - 1
    let s :=
      if c = 0 then s.addWrap POL_GREEN.GREEN len r
      else if c = 1 then s.addSat POL_COUNT.YELLOW 1 r
      else s.addSat POL_COUNT.RED 1 r
    let refuse :=
      if c = 1 ∧ s.on POL_CFG.YELLOW_REFUSE r then 0x0301
      else if c = 2 ∧ s.on POL_CFG.RED_REFUSE r then 0x0302
      else 0
    let s :=
      if refuse = 0 then s
      else (((s.set SCHED_ERR_LOG.REASON refuse).set SCHED_ERR_LOG.TENANT_ID (fieldAt desc 3 1)).set SCHED_ERR_LOG.QUEUE
        q).raise SCHED_INT_STATUS.POLICED
    (c, refuse, s)

/-- The sampling units whose EN is 1. -/
def State.enabledSamplers (s : State) : List Nat :=
  s.csr.filterMap (fun e =>
    let d := e.1 - SAMP_CFG.base
    if SAMP_CFG.base ≤ e.1 ∧ d < 64 * 0x40 ∧ d % 0x40 = 0 ∧ e.2.getLsbD 0 then some (d / 0x40) else none)

/-- Whether a descriptor matches a sampling unit (R478). -/
def State.sampleMatch (s : State) (u q : Nat) (desc : Bytes) : Bool :=
  (q ^^^ s.get SAMP_MATCH.QUEUE u) &&& s.get SAMP_MATCH.QUEUE_MASK u == 0 &&
  (s.get SAMP_MATCH.BLOCK_MASK u).testBit (fieldAt desc 0 1 % 32) &&
  (!s.on SAMP_MATCH.TENANT_EN u || fieldAt desc 3 1 == s.get SAMP_MATCH.TENANT u)

/-- Offer a fetched descriptor to one sampling unit (R478): every PERIOD-th match is selected, or skipped while the unit
follows another. -/
def State.sampleOffer (s : State) (u q addr : Nat) (desc : Bytes) : Bool × State :=
  if s.sampleMatch u q desc then
    let n := lookupD s.pmon.matched u 0 + 1
    if n ≥ s.get SAMP_CFG.PERIOD u then
      let s := { s with pmon := { s.pmon with matched := assocPut s.pmon.matched u 0 } }
      if s.pmon.following.any (fun f => f.1 == u) then
        (false, (((s.addSat SAMP_COUNT.SKIPPED 1 u).set PMON_ERR_LOG.REASON 0x0F04).set PMON_ERR_LOG.INDEX u).report 0x0F04)
      else
        (true, { s with pmon := { s.pmon with following := s.pmon.following ++ [(u, ⟨q, addr, s.now, desc, [], false⟩)] } })
    else (false, { s with pmon := { s.pmon with matched := assocPut s.pmon.matched u n } })
  else (false, s)

/-- Offer a fetched descriptor to every enabled unit: the units that select it. -/
def State.sampleSelect (s : State) (q addr : Nat) (desc : Bytes) : List Nat × State :=
  if s.on PMON_STATUS.READY then
    (s.enabledSamplers.filter (fun u => !(s.pmon.stoppedUnits.contains u))).foldl (fun x u =>
      let (hit, s) := x.2.sampleOffer u q addr desc
      (if hit then x.1 ++ [u] else x.1, s)) ([], s)
  else ([], s)

/-- The bytes of a descriptor have come from its ring: meter it, offer it to the sampling units, count the fetch. -/
def State.arrive (s : State) (f : Fetched) (desc : Bytes) : Fetched × State :=
  let q := f.work.queue
  let (c, refuse, s) := s.meterDesc q desc
  let (us, s) := s.sampleSelect q f.addr desc
  let s := s.pmonEdge 0x0022 1 ⟨s.get Q_CFG.CLASS q, fieldAt desc 3 1, some (f.addr, 128), some 0, true⟩
  (⟨⟨q, f.work.index, desc⟩, f.addr, s.now, c, refuse, us, true⟩, s)

/-- Replace the fetched entry of a queue at a ring address that still waits for its bytes. -/
def State.putFetched (s : State) (old new : Fetched) : State :=
  { s with hostq := { s.hostq with fetched := s.hostq.fetched.map (fun f => if f = old then new else f) } }

/-- The queue engine that serves a queue (R347): engine q mod 256, or the next one in service of its cluster. -/
def State.engineFor (s : State) (q : Nat) : Option Nat :=
  let e := q % 256
  ((List.range 16).map (fun k => e / 16 * 16 + (e + k) % 16)).find? (fun x => !s.hostq.enginesOut.contains x)

/-- DESCRIPTOR_FETCH (R352): the queue engine reads the next ring entry ahead, up to 8, while the queue is enabled, not
stopped and its completion ring not full. A host ring is read with MEM_RD, and the bytes come with its CPL. `fails` says
that the ring read failed (R499). -/
def execDescriptorFetch (q : Fin 8192) (fails : Bool) (s : State) : Host.Outcome State Fault Refusal :=
  let q := q.val
  let ahead := (s.hostq.fetched.filter (fun f => f.work.queue == q && f.work.index != 0xFFFF)).length
  let idx := (s.get Q_PTR.SQ_HEAD q + ahead) % 2 ^ 16
  if s.on HOSTQ_STATUS.READY && (s.engineFor q).isSome && s.on Q_CFG.ENABLE q && !s.on Q_STATUS.STOPPED q && !s.on Q_STATUS.CQ_FULL q &&
      decide (ahead < 8) && idx != s.get Q_PTR.SQ_TAIL q then
    let a := s.get Q_SQ.ADDR q * 128 + 128 * (idx % s.sqSize q)
    if fails || s.isPoisoned a 128 || (s.memCheck (s.get Q_CFG.CLASS q) false a 128).isSome then .next (s.fetchError q a)
    else
      let f : Fetched := ⟨⟨q, idx, []⟩, a, s.now, 0, 0, [], false⟩
      let s := { s with hostq := { s.hostq with fetched := s.hostq.fetched ++ [f] } }
      if isHost a then .next (s.issueRead ⟨a, 128, some q⟩)
      else
        let (g, s) := s.arrive f (s.readBytes a 128)
        .next (s.putFetched f g)
  else .next s

/-! ## Host reads that return (R395) -/

/-- A read of host memory ends: its bytes arrive, or arrive as poison. The freed tag serves the next read that waits. -/
def State.readEnds (s : State) (tag : Nat) (r : HostRead) (data : Bytes) (ok : Bool) : State :=
  let s := { s with myk := { s.myk with reads := s.myk.reads.erase (tag, r) } }
  let s := if ok then s.writeBytes r.addr data else s.poisonBytes r.addr r.len
  let s :=
    match r.queue with
    | none => s
    | some q =>
      match s.hostq.fetched.find? (fun (f : Fetched) => f.work.queue == q && f.addr == r.addr && !f.ready) with
      | none => s
      | some f =>
        if ok then
          let (g, s) := s.arrive f data
          s.putFetched f g
        else s.fetchError q r.addr
  match s.myk.toRead with
  | [] => s
  | n :: rest => { s with myk := { s.myk with toRead := rest } }.issueRead n

/-- A host read that failed: the address in TOP_FAULT and the report (R395). -/
def State.hostReadFault (s : State) (reason : Nat) (r : HostRead) : State :=
  (((s.set TOP_FAULT.REASON reason).set TOP_FAULT.ADDR_LO (r.addr % 2 ^ 32)).report reason).raise TOP_INT_STATUS.HOST_READ

/-- MEM_RD_CPL (R395): a CPL answers an outstanding MEM_RD with data, or with ERROR or POISON, which delivers poison. A CPL
whose tag is not outstanding, or that is malformed, is discarded and counted. -/
def execMemRdCpl (msg : MykMsg) (s : State) : Host.Outcome State Fault Refusal :=
  match s.myk.reads.find? (fun r => r.1 == msg.tag) with
  | none => .next (s.addSat TOP_MYK_COUNT.BAD_MSG 1)
  | some (t, r) =>
    if msg.type ≠ 7 ∨ msg.status = 3 ∨ (msg.status = 0 ∧ (msg.payload.length ≠ r.len ∨ msg.len ≠ r.len)) then
      .next s.badMessage
    else if msg.status = 0 then .next (s.readEnds t r msg.payload true)
    else .next ((s.hostReadFault 0x0015 r).readEnds t r [] false)

/-- HOST_READ_TIMEOUT (R395): a MEM_RD has not been answered in time; its bytes are delivered as poison. -/
def execHostReadTimeout (tag : Fin 1024) (s : State) : Host.Outcome State Fault Refusal :=
  match s.myk.reads.find? (fun r => r.1 == tag.val) with
  | none => .next s
  | some (t, r) => .next ((s.hostReadFault 0x0014 r).readEnds t r [] false)

/-! ## Dispatch (R351, R352, R499) -/

/-- The blocks that take descriptors (R351): HOSTQ, SKEIN, FAB, XPORT, CIPH, BED, STCH and PURL. -/
def takesDescriptors (b : Nat) : Bool := b ∈ [2, 4, 6, 9, 10, 11, 12, 13]

/-- The header check of R351, rule 1. -/
def headerOk (kind : Nat) (d : Bytes) : Bool :=
  let b := fieldAt d 0 1
  let fl := fieldAt d 1 1
  takesDescriptors b && getBits fl 4 2 != 3 && getBits fl 6 2 == 0 && getBits (fieldAt d 6 2) 13 3 == 0 &&
  fieldAt d 44 20 == 0 && !(b == 2 && kind == 0)

/-- Whether a descriptor is a cipher SAVE, RESTORE, INVALIDATE or QUOTE (R331, Table CIPH-4). -/
def isKeyOp (d : Bytes) : Bool := fieldAt d 0 1 == 10 && (fieldAt d 64 1) ∈ [3, 4, 5, 6]

/-- The reason R351 refuses a descriptor of a queue with, or none. -/
def State.dispatchCheck (s : State) (f : Fetched) : Option Nat :=
  let q := f.work.queue
  let d := f.work.desc
  let cls := s.get Q_CFG.CLASS q
  if !headerOk (s.get Q_CFG.KIND q) d then some 0x0201
  else if 16 ≤ cls ∧ f.work.tenant ≠ s.get Q_CFG.TENANT_ID q then some 0x0202
  else if !(s.get MEM_CLASS.ENGINE_MASK cls).testBit f.work.block || (isKeyOp d && !s.on MEM_CLASS.KEY_OPS cls) then
    some 0x0508
  else if f.refuse ≠ 0 then some f.refuse
  else none

/-- The submission head advances past a ring descriptor (R499) and is written back to Q_WB.ADDR (R355). -/
def State.headAdvance (s : State) (w : Work) : State :=
  if w.index = 0xFFFF then s
  else
    let h := (s.get Q_PTR.SQ_HEAD w.queue + 1) % 2 ^ 16
    let s := s.set Q_PTR.SQ_HEAD h w.queue
    let wb := s.get Q_WB.ADDR w.queue * 8
    if wb = 0 then s else s.store wb (le 8 h)

/-- Report a descriptor refused at a check of R351: counts, logs and violations (Table QUE-6, R331). -/
def State.checkReport (s : State) (w : Work) (reason : Nat) : State :=
  let cls := s.classOf w
  let v : Violation := ⟨reason, 3, cls, w.queue, w.tenant, 2, 0, 0⟩
  if reason = 0x0201 then (s.queueLog reason w.queue 2 0).addSat HOSTQ_COUNT.REFUSED 1
  else if reason = 0x0202 then
    (((s.queueLog reason w.queue 2 0).addSat HOSTQ_COUNT.VIOLATIONS 1).raise HOSTQ_INT_STATUS.VIOLATION).violation v
  else if reason = 0x0508 then s.memRefuse reason cls w.block false 0 w.queue
  else s

/-- Move a fetched descriptor to the dispatched ones. -/
def State.toEngine (s : State) (f : Fetched) : State :=
  let s := s.headAdvance f.work
  let n := s.get Q_STATUS.INFLIGHT f.work.queue + 1
  let s := s.set Q_STATUS.INFLIGHT n f.work.queue
  let h := { s.hostq with
    fetched := s.hostq.fetched.erase f
    dispatched := s.hostq.dispatched ++ [⟨f.work, f.tFetch, s.now, f.colour, f.work.index == 0xFFFF, f.samplers, f.addr⟩] }
  { s with hostq := h }.busyUpdate (f.work.block % 32)

/-- Whether every earlier descriptor of the queue has completed, which a FENCE waits for (R352). -/
def State.fenceOpen (s : State) (q : Nat) : Bool :=
  !(s.hostq.dispatched.any (fun d => d.work.queue == q)) && !(s.hostq.finished.any (fun d => d.work.queue == q))

/-! ## Completion records (R356 to R358) -/

/-- The 64 bytes of a completion record (Table QUE-3). -/
def recordBytes (f : Finished) (phase chained : Bool) : Bytes :=
  let fl := b2n phase + 2 * b2n f.res.error + 4 * b2n f.res.warning + 8 * b2n f.res.poisoned + 16 * b2n chained +
    32 * f.colour
  le 2 f.res.reason ++ le 1 fl ++ le 1 f.res.block ++ le 2 f.work.queue ++ le 2 f.work.index ++
  slice f.work.desc 32 8 ++ le 8 f.res.engine ++ padTo 24 f.res.summary ++ le 4 f.tFetch ++ le 4 f.tDone ++
  slice f.work.desc 40 4 ++ zeros 4

/-- Whether a descriptor that ended posts its successor: CHAIN, and no error or poison (R358). -/
def Finished.chains (f : Finished) : Bool := f.work.flags.testBit 2 && !f.res.error && !f.res.poisoned

/-- The target queue of a chain. -/
def Finished.nextQueue (f : Finished) : Nat := getBits (f.work.field 6 2) 0 13

/-- Whether R358 lets a chain post to its target queue. -/
def State.chainOk (s : State) (f : Finished) : Bool :=
  let q := f.nextQueue
  s.on Q_CFG.ENABLE q && s.on Q_CFG.CHAIN_IN q && !s.inLineRange q &&
  !(decide (16 ≤ s.get Q_CFG.CLASS q) && f.work.tenant != s.get Q_CFG.TENANT_ID q)

/-- Post the descriptor at NEXT to the target queue, in order of arrival and without ring space (R358). -/
def State.chainPost (s : State) (f : Finished) : State :=
  let q := f.nextQueue
  let a := f.work.field 24 8
  let e : Fetched := ⟨⟨q, 0xFFFF, []⟩, a, s.now, 0, 0, f.samplers, false⟩
  let put (s : State) (x : Fetched) : State := { s with hostq := { s.hostq with fetched := s.hostq.fetched ++ [x] } }
  if s.isPoisoned a 128 ∨ (s.memCheck (s.get Q_CFG.CLASS q) false a 128).isSome then s.fetchError q a
  else if isHost a then (put s e).issueRead ⟨a, 128, some q⟩
  else
    let d := s.readBytes a 128
    (put s { e with work := ⟨q, 0xFFFF, d⟩, ready := true }).pmonEdge 0x0022 1
      ⟨s.get Q_CFG.CLASS q, fieldAt d 3 1, some (a, 128), some f.res.block, true⟩

/-- One hop of a sampled chain: block, unit, wait and run in 64 ns (Table PMON-3). The engine within its block is not
stated for every block and is left free (log entry 3). -/
def State.hop (s : State) (u : Nat) (f : Finished) : State :=
  let unit := s.fresh.1 % 2 ^ 16
  let s := s.fresh.2
  let upd (x : Sample) : Sample :=
    if x.hops.length ≥ 8 then { x with truncated := true }
    else { x with hops := x.hops ++ [(f.res.block % 32, unit, min ((f.tDispatch - f.tFetch) / 64) 0xFFFF,
      min ((f.tDone - f.tDispatch) / 64) 0xFFFF)] }
  { s with pmon := { s.pmon with following := s.pmon.following.map (fun x => if x.1 = u then (x.1, upd x.2) else x) } }

/-- The 256 bytes of a sampling record (Table PMON-3). -/
def sampleBytes (u seq : Nat) (x : Sample) (f : Finished) : Bytes :=
  let lat := if f.tDone - x.tFetch ≥ 2 ^ 32 then 0xFFFFFFFF else f.tDone - x.tFetch
  le 1 1 ++ le 1 u ++ le 1 (b2n x.truncated + 2 * b2n f.res.error + 4 * b2n f.res.poisoned + 8 * b2n f.res.warning) ++
  le 1 x.hops.length ++ le 2 x.queue ++ le 2 f.res.reason ++ le 4 seq ++ le 4 x.tFetch ++ le 4 f.tDone ++ le 4 lat ++
  le 8 x.addr ++ padTo 64 (x.hops.flatMap (fun h => le 1 h.1 ++ le 1 0 ++ le 2 h.2.1 ++ le 2 h.2.2.1 ++ le 2 h.2.2.2)) ++
  zeros 32 ++ padTo 128 x.desc

/-- Discard a sampling record (R479). -/
def State.sampleDrop (s : State) (u reason : Nat) : State :=
  ((((s.addSat SAMP_COUNT.DROPPED 1 u).set PMON_ERR_LOG.REASON reason).set PMON_ERR_LOG.INDEX u).report reason).raise
    PMON_INT_STATUS.DROPPED

/-- SAMPLE_RECORD (R479): at the sampled chain's final completion the unit builds its record in a pool-0 skein under class
11, writes it to its host ring and frees the skein, or discards it. -/
def State.sampleRecord (s : State) (u : Nat) (f : Finished) : State :=
  match s.pmon.following.find? (fun x => x.1 == u) with
  | none => s
  | some (_, x) =>
    let seq := lookupD s.pmon.sampleSeq u 0 + 1
    let s := { s with pmon := { s.pmon with
      following := s.pmon.following.filter (fun x => x.1 ≠ u), sampleSeq := assocPut s.pmon.sampleSeq u seq } }
    let size := 2 ^ s.get SAMP_CFG.SIZE_LOG2 u
    let wr := s.get SAMP_PTR.WR_PTR u
    let bytes := sampleBytes u seq x f
    let pool0 := if s.poolOn 0 ∧ s.on SKEIN_STATUS.READY ∧ s.skeinGrants 11 0 then s.skeinTake 11 0 256 else .exhausted
    match pool0 with
    | .granted h s' =>
      if s.hostLost ∨ diff16 wr (s.get SAMP_PTR.RD_PTR u) ≥ size then
        (match s'.skeinFree h 11 with
         | .ok t => t
         | .error _ => s').sampleDrop u 0x0F03
      else
        let t := s'.writeBytes (s'.handleAddr h) bytes
        let t := (t.hostWrite (s.get SAMP_RING.ADDR u * 256 + 256 * (wr % size)) bytes).set SAMP_PTR.WR_PTR (wr + 1) u
        let t := match t.skeinFree h 11 with
          | .ok t' => t'
          | .error _ => t
        t.raise PMON_INT_STATUS.SAMPLE
    | _ => s.sampleDrop u 0x0F02

/-- Hold a finished descriptor while its completion ring is full (R356): CQ_FULL, and 0x0206 once per episode. -/
def State.holdRecord (s : State) (q : Nat) : State :=
  let s := s.set Q_STATUS.CQ_FULL 1 q
  if q ∈ s.hostq.fullReported then s
  else
    let s := { s with hostq := { s.hostq with fullReported := q :: s.hostq.fullReported } }
    ((((s.addSat HOSTQ_COUNT.CQ_FULL 1).set Q_STATUS.REASON 0x0206 q).queueLog 0x0206 q 2 0).report 0x0206).raise
      HOSTQ_INT_STATUS.CQ_FULL

/-- Write the record of a finished descriptor at the completion tail and raise its interrupt (R356, R357). -/
def State.writeRecord (s : State) (f : Finished) (chained : Bool) : State :=
  let q := f.work.queue
  let tail := s.get Q_PTR.CQ_TAIL q
  let size := s.cqSize q
  let phase := tail / size % 2 == 0
  let s := s.store (s.get Q_CQ.ADDR q * 64 + 64 * (tail % size)) (recordBytes f phase chained)
  let s := (s.set Q_PTR.CQ_TAIL (tail + 1) q).addWrap Q_COUNT.DONE 1 q
  let s := if f.res.error then (s.addSat Q_COUNT.ERRORS 1 q).set Q_STATUS.REASON f.res.reason q else s
  let s := s.pmonEdge 0x0042 1 ⟨s.get Q_CFG.CLASS q, f.work.tenant, none, none, true⟩
  let arm := q ∈ s.hostq.armed
  let s := if arm then { s with hostq := { s.hostq with armed := s.hostq.armed.erase q } } else s
  if s.on Q_CFG.INT_EN q && (f.work.flags.testBit 0 || f.res.error || arm) then s.event (s.get Q_CFG.VECTOR q) else s

/-- COMPLETION_RECORD (R356 to R358): the oldest finished descriptor of a queue writes its record, posts its chain and
raises its interrupt, or waits for ring space. -/
def execCompletionRecord (q : Fin 8192) (s : State) : Host.Outcome State Fault Refusal :=
  match s.hostq.finished.find? (fun f => f.work.queue == q.val) with
  | none => .next s
  | some f0 =>
    let refused := f0.chains && !s.chainOk f0
    let f := if refused then { f0 with res := { f0.res with reason := 0x0205, error := true } } else f0
    let needs := !(f.work.flags.testBit 3) || f.res.error || f.res.warning
    if needs && decide (s.cqUsed q ≥ s.cqSize q) then .next (s.holdRecord q)
    else
      let s := if refused then (s.queueLog 0x0205 q 2 0).addSat HOSTQ_COUNT.REFUSED 1 else s
      let s := { s with hostq := { s.hostq with finished := s.hostq.finished.erase f0 } }
      let s := if f.refused then s else s.set Q_STATUS.INFLIGHT (s.get Q_STATUS.INFLIGHT q - 1) q
      let s := f.samplers.foldl (fun s u => if f.refused then s else s.hop u f) s
      let s := if needs then s.writeRecord f f.chains else s
      if f.chains then .next (s.chainPost f) else .next (f.samplers.foldl (fun s u => s.sampleRecord u f) s)

/-- QUEUE_DRAIN_END (R349): the last dispatched descriptor of a disabled queue has completed. -/
def execQueueDrainEnd (q : Fin 8192) (s : State) : Host.Outcome State Fault Refusal :=
  if s.on Q_STATUS.DRAINING q && s.fenceOpen q then .next (s.set Q_STATUS.DRAINING 0 q) else .next s

/-! ## Enabling a queue (R349, R371) -/

/-- The queue check of R371: the reason it refuses ENABLE with, or none. -/
def State.queueCheck (s : State) (q : Nat) : Option Nat :=
  let sq := s.get Q_CFG.SQ_LOG2 q
  let cq := s.get Q_CFG.CQ_LOG2 q
  let cls := s.get Q_CFG.CLASS q
  let a := s.get Q_SQ.ADDR q * 128
  let c := s.get Q_CQ.ADDR q * 64
  let kind := s.get Q_CFG.KIND q
  let can (m : Nat) (r : Option (List Nat)) : Bool :=
    match r with
    | none => false
    | some rs => rs.all (fun x => m.testBit x)
  if sq < 4 ∨ 15 < sq ∨ cq < 4 ∨ 15 < cq ∨ a = 0 ∨ c = 0 ∨ (12 ≤ cls ∧ cls ≤ 15) then some 0x0210
  else if !can (s.get MEM_CLASS.READ_MASK cls) (s.regionsOf a (128 * 2 ^ sq)) ||
      !can (s.get MEM_CLASS.WRITE_MASK cls) (s.regionsOf c (64 * 2 ^ cq)) then some 0x0210
  else if kind = 3 ∨ (kind = 1 ∧ !s.inLineRange q) then some 0x0211
  else if kind = 2 ∧ (s.get Q_GROUP.MEMBERS q = 0 ∨ !s.inRegion 0 (s.get Q_GROUP.ADDR q * 64) (16 * s.get Q_GROUP.MEMBERS q))
    then some 0x0211
  else none

/-- Discard a queue's copies fetched and not dispatched, without records (R499). -/
def State.discardFetched (s : State) (q : Nat) : State :=
  { s with hostq := { s.hostq with fetched := s.hostq.fetched.filter (fun f => f.work.queue ≠ q) } }

/-- After a queue passes its check: it is enabled, and each descriptor abandoned at bind-off is finished with 0x020B
(R349, R369). -/
def State.queueEnable (s : State) (q : Nat) : State :=
  let ab := s.hostq.abandoned.filter (fun w => w.queue == q)
  let s := ((s.set Q_CFG.ENABLE 1 q).set Q_STATUS.STOPPED 0 q).addWrap HOSTQ_STATUS.QUEUES_ENABLED 1
  let s := s.set Q_STATUS.INFLIGHT (s.get Q_STATUS.INFLIGHT q + ab.length) q
  { s with hostq := { s.hostq with
      abandoned := s.hostq.abandoned.filter (fun w => w.queue ≠ q)
      finished := s.hostq.finished ++ ab.map (fun w =>
        ⟨w, { reason := 0x020B, error := true, block := 2 }, s.now, s.now, s.now, 0, w.index == 0xFFFF, [], false⟩) } }

/-- ENABLE written to 0: the queue stops fetching at once and drains what it dispatched (R349). -/
def State.queueDisable (s : State) (q : Nat) : State :=
  let s := ((s.set Q_CFG.ENABLE 0 q).discardFetched q).set HOSTQ_STATUS.QUEUES_ENABLED (s.get HOSTQ_STATUS.QUEUES_ENABLED - 1)
  if s.fenceOpen q then s else s.set Q_STATUS.DRAINING 1 q

/-- What a write of Q_CFG does once its locks have been checked and its other fields stored (R349): `want` is the ENABLE
written. -/
def State.queueEnableWrite (s : State) (q : Nat) (want : Bool) : State :=
  let now := s.on Q_CFG.ENABLE q
  if want && !now && !s.on Q_STATUS.DRAINING q then
    match s.queueCheck q with
    | none => s.queueEnable q
    | some r =>
      ((s.set Q_STATUS.REASON r q).queueLog r q 0 0).raise HOSTQ_INT_STATUS.CONFIG_REFUSED
  else if !want && now then s.queueDisable q
  else s

end Sys2Proof.Machine
end

