-- ==== Sys2Proof/Machine/Fabric.lean ====
section
/-!
DEFINITION. Machine/Fabric.lean: the fabric's tables, routes, links, credits and sending (spec/10_fabric.md R270 to R274,
R277, R278, R282 to R284, R289, R290; spec/14_time.md R383, R384).
-/
namespace Sys2Proof
open Machine

/-- The key of a flow. -/
def FabFlow.key (f : FabFlow) : FlowKey := ⟨f.src.toNat, f.dst.toNat, f.cls, f.ch⟩

end Sys2Proof
namespace Sys2Proof.Machine
open Csr

/-- The requester class of the fabric engines (Table MEM-4). -/
def fabClass : Nat := 4

/-- FAB_ERR_LOG, and the report. -/
def State.fabLog (s : State) (reason endpoint link cls tenant : Nat) : State :=
  (((((s.set FAB_ERR_LOG.REASON reason).set FAB_ERR_LOG.ENDPOINT endpoint).set FAB_ERR_LOG.LINK link).set FAB_ERR_LOG.CLASS
    cls).set FAB_ERR_LOG.TENANT_ID tenant).report reason

/-- Whether the block is ready. -/
def State.fabReady (s : State) : Bool := s.on FAB_STATUS.READY

/-! ## Endpoint table (Table FAB-4, R277) -/

/-- An endpoint entry (Table FAB-4). -/
structure EptEntry where
  id : Nat
  valid : Bool
  mask : Nat
  tenant : Nat
  route : Nat
  window : Nat

/-- Read an endpoint entry. -/
def EptEntry.ofBytes (b : Bytes) : EptEntry :=
  ⟨fieldAt b 0 3, (fieldAt b 3 1).testBit 0, getBits (fieldAt b 3 1) 1 5, fieldAt b 4 1, getBits (fieldAt b 6 2) 0 12,
    fieldAt b 8 4⟩

/-- The sets that may hold an ID, in the order of search (R277). -/
def eptSets (id : Nat) : List Nat :=
  let h := crc32c (le 3 id)
  if h % 2 ^ 16 = h / 2 ^ 16 then [h % 2 ^ 16] else [h % 2 ^ 16, h / 2 ^ 16]

/-- The addresses of the slots that may hold an ID (R277). -/
def State.eptSlots (s : State) (id : Nat) : List Nat :=
  (eptSets id).flatMap (fun h => (List.range 4).map (fun w => s.get FAB_EPT_BASE.ADDR * 64 + 64 * h + 16 * w))

/-- The entry in a slot. -/
def State.eptAt (s : State) (a : Nat) : EptEntry := EptEntry.ofBytes (s.readBytes a 16)

/-- The slot that holds a VALID entry of an ID. -/
def State.eptSlot (s : State) (id : Nat) : Option Nat :=
  (s.eptSlots id).find? (fun a => (s.eptAt a).valid && (s.eptAt a).id == id)

/-- The VALID entry of an ID. -/
def State.endpoint (s : State) (id : Nat) : Option EptEntry := (s.eptSlot id).map s.eptAt

/-- Whether an endpoint ID is the gateway's own (R274), or one it stands in for (R465). -/
def State.localEp (s : State) (id : Nat) : Bool :=
  let b := s.get FAB_LOCAL_EP.BASE
  let a := s.get GRP_ALIAS_EP.BASE
  decide (b ≤ id ∧ id < b + s.get FAB_LOCAL_EP.COUNT) || decide (a ≤ id ∧ id < a + s.get GRP_ALIAS_EP.COUNT)

/-! ## Circuits (Table FAB-7) -/

/-- A circuit entry (Table FAB-7). -/
structure CircEntry where
  peer : Nat
  flags : Nat
  tenant : Nat
  bw : Nat
  mask : Nat
  rxKib : Nat

/-- Read a circuit entry. -/
def CircEntry.ofBytes (b : Bytes) : CircEntry :=
  ⟨fieldAt b 0 3, fieldAt b 3 1, fieldAt b 4 1, fieldAt b 6 2, fieldAt b 8 4, fieldAt b 12 4⟩

/-- VALID of a circuit entry. -/
def CircEntry.valid (c : CircEntry) : Bool := c.flags.testBit 0
/-- DIR of a circuit entry: inbound. -/
def CircEntry.inbound (c : CircEntry) : Bool := c.flags.testBit 2

/-- Address of circuit `i`. -/
def State.circAddr (s : State) (i : Nat) : Nat := s.get FAB_CIRC_BASE.ADDR * 64 + 16 * i

/-- Circuit `i`. -/
def State.circAt (s : State) (i : Nat) : CircEntry := CircEntry.ofBytes (s.readBytes (s.circAddr i) 16)

/-! ## Links and reservations (R270, R271, R289, R290) -/

/-- Links in service. -/
def State.linksUp (s : State) : List Nat := (List.range 32).filter (fun l => s.on FAB_LINK_STATUS.IN_SERVICE l)

/-- Shares are counted in units of 1/144403552893600 GB/s, which every number of links up to 32 divides. -/
def shareUnit : Nat := 144403552893600

/-- A circuit's share on each link of its mask (R289). -/
def Circuit.share (c : Circuit) : Nat := c.bw * (shareUnit / (bitsOf c.mask 32).length)

/-- The reservations on a link as they were opened. -/
def State.reservedOn (s : State) (l : Nat) : Nat :=
  (s.fab.circuits.filter (fun c => c.mask.testBit l)).foldl (fun a c => a + c.share) 0

/-- Capacity of a link in GB/s (R289). -/
def State.capacity (s : State) (l : Nat) : Nat :=
  if s.on FAB_LINK_STATUS.IN_SERVICE l then 25 * s.get FAB_LINK_STATUS.WIDTH l else 0

/-- Whether reservations of `x` share units exceed RESERVE_MAX_PCT of a link's capacity. -/
def State.overReserved (s : State) (l x : Nat) : Bool :=
  decide (100 * x > s.get FAB_LINK_CFG.RESERVE_MAX_PCT * s.capacity l * shareUnit)

/-- RESERVED_GBPS: the reservations in force, scaled to fit (R290). -/
def State.reservedUpdate (s : State) (l : Nat) : State :=
  let x := min (100 * s.reservedOn l) (s.get FAB_LINK_CFG.RESERVE_MAX_PCT * s.capacity l * shareUnit)
  s.set FAB_LINK_STATUS.RESERVED_GBPS (x / (100 * shareUnit)) l

/-- Forget the link of every flow (R278). -/
def State.relink (s : State) (p : FlowKey → Bool) : State :=
  { s with fab := { s.fab with tx := s.fab.tx.map (fun x => if p x.1 then (x.1, { x.2 with link := none }) else x) } }

/-- The totals that FAB_CAP and FAB_STATUS publish (R271, R316). -/
def State.lanesUpdate (s : State) : State :=
  let up := s.linksUp
  ((s.set FAB_CAP.LINKS up.length).set FAB_CAP.LANES (up.foldl (fun a l => a + s.get FAB_LINK_STATUS.WIDTH l) 0)).set
    FAB_STATUS.LINK_UP (maskOf up)

/-- A link has trained at a width, or lost its light (width 0): R271 and R290. `lanes` is the mask of its wavelengths. -/
def State.linkWidth (s : State) (l w lanes : Nat) : State :=
  let was := if s.on FAB_LINK_STATUS.IN_SERVICE l then s.get FAB_LINK_STATUS.WIDTH l else 0
  let up := decide (s.get FAB_LINK_CFG.MIN_WIDTH ≤ w ∧ 0 < w) && (s.get FAB_CTRL.LINK_EN).testBit l
  let now := if up then w else 0
  let s := ((s.set FAB_LINK_STATUS.IN_SERVICE (b2n up) l).set FAB_LINK_STATUS.WIDTH now l).set FAB_LINK_STATUS.LANE_MASK
    (if up then lanes else 0) l
  let s := (s.lanesUpdate.reservedUpdate l).relink (fun _ => was ≠ 0 && !up || was == 0 && up)
  let s :=
    if was ≠ 0 ∧ now = 0 then (s.fabLog 0x0612 0 l 0 0).raise FAB_INT_STATUS.LINK_OUT
    else if now < was then (s.fabLog 0x0611 0 l 0 0).raise FAB_INT_STATUS.WIDTH
    else if was < now then (s.fabLog 0x0613 0 l 0 0).raise FAB_INT_STATUS.WIDTH
    else s
  if now < was ∧ s.overReserved l (s.reservedOn l) then (s.fabLog 0x0610 0 l 0 0).raise FAB_INT_STATUS.CIRCUIT else s

/-- The circuits `p` names are closed: their entries lose VALID, and their reservations go. -/
def State.closeCircuits (s : State) (p : Nat → Bool) : State :=
  let gone := s.fab.circuits.filter (fun c => p c.index)
  let s := gone.foldl (fun (s : State) c =>
    s.writeBytes (s.circAddr c.index + 3) (le 1 (setBit (s.circAt c.index).flags 0 false))) s
  let s := { s with fab := { s.fab with circuits := s.fab.circuits.filter (fun c => !p c.index) } }
  (List.range 32).foldl (fun s l => s.reservedUpdate l) s

/-! ## Routes (R278) -/

/-- LINK_MASK of a route of a bank, or none (Table FAB-5). -/
def State.routeMask (s : State) (epoch route : Nat) : Option Nat :=
  let v := s.readLe (s.get FAB_RT_BASE.ADDR * 64 + 32768 * (epoch % 2) + 8 * route) 8
  if v.testBit 32 then some (v % 2 ^ 32) else none

/-- The links a packet may take: its circuit's, or its route's in the bank of its epoch. -/
def State.linkMask (s : State) (k : FlowKey) (p : FabPkt) : Option Nat :=
  match s.endpoint k.dst with
  | none => none
  | some e =>
    match p.circuit with
    | some c => if (s.circAt c).valid then some (s.circAt c).mask else none
    | none => s.routeMask p.epoch e.route

/-- The link of R278 among the links of a mask that are in service and, for a new flow, not QUIET (R291). -/
def State.chooseLink (s : State) (k : FlowKey) (mask : Nat) : Option Nat :=
  let c := s.linksUp.filter (fun l => mask.testBit l && !s.on FAB_LINK_STATUS.QUIET l)
  let h := crc32c (le 3 k.src ++ le 3 k.dst ++ le 1 k.cls ++ le 1 k.ch)
  (c.drop (h % c.length)).head?

/-- The link a flow's packet takes: the one in use, or one looked up. -/
def State.linkFor (s : State) (k : FlowKey) (cached : Option Nat) (p : FabPkt) : Option Nat :=
  match cached with
  | some l => some l
  | none =>
    match s.linkMask k p with
    | none => none
    | some m => s.chooseLink k m

/-! ## Credits (R282) -/

/-- Virtual channel of a class and channel: two per class, by CHANNEL[0]. -/
def vcOf (cls ch : Nat) : Nat := 2 * cls + ch % 2

/-- Credits of a virtual channel of a class (FAB_VC_CREDITS). -/
def State.vcCredits (s : State) (cls : Nat) : Nat :=
  match cls with
  | 0 => s.get FAB_VC_CREDITS.REQ
  | 1 => s.get FAB_VC_CREDITS.FWD
  | 2 => s.get FAB_VC_CREDITS.REPLY
  | 3 => s.get FAB_VC_CREDITS.COLL
  | _ => s.get FAB_VC_CREDITS.MGMT

/-- The fibre pair of a link, to which hop credits belong (R311). -/
def State.fibre (s : State) (l : Nat) : Nat := s.get PHO_LINK.FIBRE l

/-- Credits of 64 bytes that `n` bytes take. -/
def creditsOf (n : Nat) : Nat := ceilDiv n 64

/-- Whether a link's virtual channel holds credits for `n` bytes. -/
def State.creditOk (s : State) (l cls ch n : Nat) : Bool :=
  decide (lookupD s.fab.vcUsed (s.fibre l, vcOf cls ch) 0 + creditsOf n ≤ s.vcCredits cls)

/-- A link begins to wait for hop credits. -/
def State.stallBegin (s : State) (l : Nat) : State :=
  if s.fab.stall.any (fun x => x.1 == l) then s
  else { s with fab := { s.fab with stall := s.fab.stall ++ [(l, s.mono)] } }

/-- A link's wait for hop credits ends: CREDIT_STALL takes it in units of 1,024 ns. -/
def State.stallEnd (s : State) (l : Nat) : State :=
  match s.fab.stall.find? (fun x => x.1 == l) with
  | none => s
  | some (_, t) =>
    let n := lookupD s.fab.stallRem l 0 + (s.mono - t)
    { s with fab := { s.fab with stall := assocErase s.fab.stall l, stallRem := assocPut s.fab.stallRem l (n % 1024) } }.addSat
      FAB_LINK_COUNT.CREDIT_STALL (n / 1024) l

/-! ## Packets (Table FAB-1) -/

/-- A payload with its CRC; nothing for an empty one. -/
def payloadWire (b : Bytes) : Bytes := if b.isEmpty then [] else b ++ le 4 (crc32c b)

/-- The bytes of a packet. -/
def packetBytes (k : FlowKey) (p : FabPkt) (sync : Bool) : Bytes :=
  let flags := p.epoch + 4 * k.ch + 16 * b2n p.circuit.isSome + 32 * b2n p.last + 128 * b2n sync
  let h := le 1 (1 + 16 * k.cls) ++ le 1 flags ++ le 1 p.opcode ++ le 1 p.tenant ++ le 3 k.dst ++ le 3 k.src ++
    le 2 p.payload.length ++ le 2 (p.circuit.getD 0) ++ zeros 2 ++ le 8 p.remote ++ le 4 p.seq
  h ++ le 4 (crc32c h) ++ payloadWire p.payload

/-! ## Event messages (R382 to R384; the 1588 layout is PRESUMED, log entry 34) -/

/-- The type of the event message that a payload carries, or none (Table TIME-2). -/
def eventType (b : Bytes) : Option Nat :=
  let t := fieldAt b 2 1 % 16
  let v := fieldAt b 3 1
  if fieldAt b 0 1 = 0x88 ∧ fieldAt b 1 1 = 0xF7 ∧ t ≤ 3 ∧ v % 16 = 2 ∧ v / 16 ≤ 1 then some t else none

/-- twoStepFlag of a 1588 message. -/
def twoStep (b : Bytes) : Bool := (fieldAt b 8 1).testBit 1

/-- The 10-byte 1588 Timestamp of a time (Table TIME-2). -/
def timestamp1588 (t : Nat) : Bytes := be 6 (t / 10 ^ 9) ++ be 4 (t % 10 ^ 9)

/-- Replace bytes of a message from an offset. -/
def patch (b : Bytes) (off : Nat) (x : Bytes) : Bytes := b.take off ++ x ++ b.drop (off + x.length)

/-- A one-step message as it is sent at `t`: Sync takes its originTimestamp, Pdelay_Resp has `t` added to correctionField. -/
def oneStep (b : Bytes) (t : Nat) : Bytes :=
  match eventType b with
  | some 0 => if twoStep b then b else patch b 36 (timestamp1588 t)
  | some 3 => if twoStep b then b else patch b 10 (be 8 (beVal (slice b 10 8) + t * 2 ^ 16))
  | _ => b

/-- An entry for the transmit-timestamp queue, or its loss (R384). -/
def State.txStamp (s : State) (x : TxStamp) : State :=
  if s.time.txq.length < 64 then
    let q := s.time.txq ++ [x]
    { s with time := { s.time with txq := q } }.set TIME_TXQ_STATUS.COUNT q.length
  else
    let first := !s.on TIME_TXQ_STATUS.OVERFLOW
    let s := (s.addSat TIME_TXQ_STATUS.LOST 1).set TIME_TXQ_STATUS.OVERFLOW 1
    if first then ((s.set TIME_ERR_LOG.REASON 0x0E07).report 0x0E07).raise TIME_INT_STATUS.TXQ_OVERFLOW else s

/-- One more event-message timestamp of a link: while a re-steer is fresh it is SUSPECT (R381). -/
def State.stampUsed (s : State) (l : Nat) : State :=
  let n := lookupD s.time.suspect l 0
  if n = 0 then s
  else
    let s := { s with time := { s.time with suspect := assocPut s.time.suspect l (n - 1) } }
    if n = 1 then s.set TIME_TXQ_STATUS.SUSPECT_LINKS (setBit (s.get TIME_TXQ_STATUS.SUSPECT_LINKS) l false) else s

/-- Timestamps of an event message sent on a link: the message as sent, and its queue entry. A stopped unit gives none. -/
def State.stampSent (s : State) (l : Nat) (b : Bytes) : Bytes × State :=
  match eventType b with
  | none => (b, s)
  | some t =>
    if l ∈ s.time.unitsOut then (b, s)
    else
      let at_ := s.now + s.get TIME_LAT.TX_LAT l
      let s := s.stampUsed l
      let s := if twoStep b ∨ t = 1 ∨ t = 2 then s.txStamp ⟨t, l, beVal (slice b 32 2), at_⟩ else s
      (oneStep b at_, s)

/-! ## Sending (R282 to R284) -/

/-- The transmit flow of a key. -/
def State.fabTx (s : State) (k : FlowKey) : FabTx := lookupD s.fab.tx k {}

/-- Replace a transmit flow. -/
def State.putFabTx (s : State) (k : FlowKey) (f : FabTx) : State :=
  { s with fab := { s.fab with tx := assocPut s.fab.tx k f } }

/-- Unacknowledged payload bytes toward a destination and class (R283). -/
def State.inFlightTo (s : State) (dst cls : Nat) : Nat :=
  (s.fab.tx.filter (fun x => x.1.dst == dst && x.1.cls == cls)).foldl (fun a x =>
    a + (x.2.pkts.filter (·.sent)).foldl (fun a p => a + p.payload.length) 0) 0

/-- Packets of an epoch that are sent and not acknowledged (R280). -/
def State.epochOutstanding (s : State) (e : Nat) : Nat :=
  s.fab.tx.foldl (fun a x => a + (x.2.pkts.filter (fun p => p.sent && p.epoch == e)).length) 0

/-- FAB_DRAIN.OUTSTANDING: old-epoch packets not acknowledged while a drain runs. -/
def State.drainUpdate (s : State) : State :=
  s.set FAB_DRAIN.OUTSTANDING
    (if s.on FAB_STATUS.DRAINING then s.epochOutstanding ((s.get FAB_EPOCH.EPOCH + 3) % 4) else 0)

/-- Put bytes on a link: its credits, its events and its meter. -/
def State.putLink (s : State) (l cls ch : Nat) (b : Bytes) : State :=
  let v := (s.fibre l, vcOf cls ch)
  let s := { s with fab := { s.fab with vcUsed := assocPut s.fab.vcUsed v (lookupD s.fab.vcUsed v 0 + creditsOf b.length) } }
  (((s.stallEnd l).emit (.packet l b)).pmonEdge 0x0046 b.length
    { cls := fabClass, addr := some (fieldAt b 16 8, fieldAt b 10 2), hasTenant := false }).meter l b.length 0

/-- Whether a link can take a packet of `n` bytes now: in service, not QUIET, with credits. -/
def State.linkOpen (s : State) (l cls ch n : Nat) : Bool :=
  s.on FAB_LINK_STATUS.IN_SERVICE l && !s.on FAB_LINK_STATUS.QUIET l && s.creditOk l cls ch n

/-- Send the ACK and NACK packets that can go, in order; the others wait. -/
def State.flushReplies (s : State) : State :=
  s.fab.replies.foldl (fun (s : State) x =>
    let p := { x.2 with epoch := s.get FAB_EPOCH.EPOCH }
    let b := packetBytes x.1 p false
    match s.linkFor x.1 none p with
    | none => s
    | some l =>
      if s.linkOpen l 2 x.1.ch b.length then
        { s with fab := { s.fab with replies := s.fab.replies.erase x } }.putLink l 2 x.1.ch b
      else s.stallBegin l) s

/-- Answer a packet with an ACK or a NACK (Table FAB-2): the reply flow runs from its DST to its SRC. -/
def State.fabReply (s : State) (k : FlowKey) (tenant opcode : Nat) (body : Bytes) : State :=
  let p : FabPkt := { opcode := opcode, tenant := tenant, remote := 0, payload := body, last := true, circuit := none, msg := none }
  { s with fab := { s.fab with replies := s.fab.replies ++ [((⟨k.dst, k.src, 2, k.ch⟩ : FlowKey), p)] } }.flushReplies

/-- Acknowledge a flow up to its expected SEQ (R284). -/
def State.fabAck (s : State) (k : FlowKey) (tenant expected : Nat) : State :=
  s.fabReply k tenant 4 (le 4 expected ++ le 1 k.cls ++ le 1 k.ch ++ zeros 2)

/-- Refuse a packet with a NACK, which is counted. -/
def State.fabNack (s : State) (k : FlowKey) (tenant seq reason : Nat) : State :=
  (s.addSat FAB_RETX_COUNT.NACK 1).fabReply k tenant 5 (le 4 seq ++ le 2 reason ++ le 1 k.cls ++ zeros 1)

/-- Add packets to the end of a flow. -/
def State.fabQueue (s : State) (k : FlowKey) (ps : List FabPkt) : State :=
  let f := s.fabTx k
  s.putFabTx k { f with pkts := f.pkts ++ ps }

/-- Replace the first element that satisfies a test. -/
def replaceFirst {α : Type} (p : α → Bool) (y : α) : List α → List α
  | [] => []
  | a :: r => if p a then y :: r else a :: replaceFirst p y r

/-- Whether the window of R283 has room for a flow's packet; one already sent keeps its place in the window. -/
def State.windowOk (s : State) (k : FlowKey) (p : FabPkt) : Bool :=
  p.sent ||
    (match s.endpoint k.dst with
     | none => false
     | some e => decide (s.inFlightTo k.dst k.cls + p.payload.length ≤ e.window * 1024))

/-- The packet as a flow sends it now: its first sending gives it the flow's next SEQ and the present epoch; a packet sent
again keeps the old epoch only while that epoch drains (R280). -/
def State.packetNow (s : State) (f : FabTx) (p : FabPkt) : FabPkt :=
  let e := s.get FAB_EPOCH.EPOCH
  let keep := p.sent && s.on FAB_STATUS.DRAINING && p.epoch == (e + 3) % 4
  { p with seq := if p.sent then p.seq else f.next, epoch := if keep then p.epoch else e, sent := true, due := false }

/-- Send the first packet of a flow that waits, if its link, its credits and its window allow (R282, R283). A packet sent
again is counted (R284); the flow's oldest packet carries SYNC while the flow owes one (R286). -/
def State.fabSend (s : State) (k : FlowKey) : State :=
  let f := s.fabTx k
  match f.pkts.find? (·.due) with
  | none => s
  | some p =>
    let q := s.packetNow f p
    let cached := if q.epoch = s.get FAB_EPOCH.EPOCH then f.link else none
    match s.linkFor k cached q with
    | none => s
    | some l =>
      let s := if q.epoch = s.get FAB_EPOCH.EPOCH then s.putFabTx k { f with link := some l } else s
      let f := s.fabTx k
      let n := (packetBytes k q false).length
      if !s.linkOpen l k.cls k.ch n then (if s.creditOk l k.cls k.ch n then s else s.stallBegin l)
      else if !s.windowOk k p then s
      else
        let sync := f.syncDue && f.pkts.head? == some p
        let (body, s) := if q.opcode = 6 then s.stampSent l q.payload else (q.payload, s)
        let b := packetBytes k { q with payload := body } sync
        let s := s.putFabTx k { f with
          next := if p.sent then f.next else (f.next + 1) % 2 ^ 32
          syncDue := f.syncDue && !sync
          pkts := replaceFirst (· == p) q f.pkts }
        let s := if p.sent then s.addSat FAB_RETX_COUNT.RETX 1 else s
        (s.putLink l k.cls k.ch b).drainUpdate

end Sys2Proof.Machine
end

