-- ==== Sys2Proof/Machine/Mirror.lean ====
section
/-!
DEFINITION. Machine/Mirror.lean: group messages as packets, and the mirror stream of a shadowed gateway
(spec/18_gateway_groups.md, Table GRP-1, R462 to R464).
-/
namespace Sys2Proof.Machine
open Csr

/-- The endpoint ID that the gateway sends as (log entry 35). -/
def State.ownEp (s : State) : Nat :=
  s.get FAB_LOCAL_EP.BASE + Config.fabricSource.toNat % max 1 (s.get FAB_LOCAL_EP.COUNT)

/-- The flow of the gateway's own packets of a class toward a destination. -/
def State.ownFlow (s : State) (dst cls : Nat) : FlowKey := ⟨s.ownEp, dst, cls, Config.fabricChannel.toNat⟩

/-- The position a group message names as its sender (Table GRP-1). -/
def State.groupPos (s : State) : Nat :=
  if s.on GRP_CTRL.ROLE then (if s.get GRP_STATUS.SHADOW_STATE = 4 then s.get GRP_STATUS.PARTNER_POS else 0x3F)
  else s.get XPORT_CTRL.GROUP_POS

/-- The fields of a group message (Table GRP-1). -/
structure GroupMsg where
  type : Nat
  job : Nat := 0
  step : Nat := 0
  chunk : Nat := 0
  site : Nat := 0
  order : Nat := 0xFF
  reason : Nat := 0
  value : Nat := 0
  len : Nat := 0
  body : Bytes := []

/-- The bytes of a group message (Table GRP-1). -/
def GroupMsg.bytes (m : GroupMsg) (pos seq : Nat) : Bytes :=
  le 1 m.type ++ le 1 pos ++ le 2 m.job ++ le 4 m.step ++ le 4 m.chunk ++ le 1 m.site ++ le 1 m.order ++ le 2 m.reason ++
  le 8 m.value ++ le 4 m.len ++ le 4 seq ++ m.body

/-- The management packet of a group message toward an endpoint, with the tenant of the endpoint's entry. -/
def State.groupPacket (s : State) (dst : Nat) (m : GroupMsg) : FabPkt × State :=
  let seq := s.grp.seq + 1
  let t := match s.endpoint dst with
    | none => 0
    | some e => e.tenant
  ({ opcode := 6, tenant := t, remote := 0, payload := m.bytes s.groupPos seq, last := true, circuit := none, msg := none },
    { s with grp := { s.grp with seq := seq } })

/-- Send a group message to an endpoint. -/
def State.groupSend (s : State) (dst : Nat) (m : GroupMsg) : State :=
  let (p, s) := s.groupPacket dst m
  s.fabQueue (s.ownFlow dst 4) [p]

/-- The base endpoint of a position, its count, when its member entry is VALID (R458). -/
def State.member (s : State) (pos : Nat) : Option (Nat × Nat) :=
  let v := s.readLe (s.get GRP_MEMBER_BASE.ADDR * 64 + 8 * pos) 8
  if v.testBit 33 ∧ pos < 64 then some (v % 2 ^ 24, getBits v 24 9) else none

/-- The collective WRITE packets that carry bytes to a remote address on a circuit (R359, R462). -/
def writePackets (tenant circuit remote : Nat) (msg : Option Nat) (b : Bytes) : List FabPkt :=
  (List.range (ceilDiv b.length 4096)).map (fun k =>
    { opcode := 1, tenant := tenant, remote := remote + 4096 * k, payload := slice b (4096 * k) 4096,
      last := k + 1 == ceilDiv b.length 4096, circuit := some circuit, msg := msg })

/-- Mirror an item of a shadowed job to the spare (R462): its bytes as collective WRITE packets, then a MIRROR message that
names the spare's address of it, which the spec does not derive (log entry 3). -/
def State.mirrorItem (s : State) (x : MirrorItem) (b : Bytes) : State :=
  let dst := s.get GRP_CFG.SPARE_EP
  let circuit := s.get GRP_CFG.MIRROR_CIRCUIT
  let at_ := s.fresh.1
  let s := s.fresh.2
  let s := s.fabQueue (s.ownFlow dst 3) (writePackets (s.circAt circuit).tenant circuit at_ none b)
  let s := s.groupSend dst ⟨3, x.job, x.step, x.chunk, x.site, x.order, 0, at_, b.length, []⟩
  { s with grp := { s.grp with items := s.grp.items ++ [x] } }

/-- Mirror an item that is no chunk, while a spare shadows this gateway. -/
def State.mirrorOther (s : State) (job step : Nat) (b : Bytes) : State :=
  if s.grp.shadowed then s.mirrorItem ⟨job, step, 0, 0, 0xFF, none, false⟩ b else s

/-- Mirror a chunk that this gateway accepted, with its source site and its place in the owner's slot (R462). -/
def State.mirrorChunk (s : State) (job step chunk site order : Nat) (b : Bytes) : State :=
  if s.grp.shadowed then s.mirrorItem ⟨job, step, chunk, site, order, none, false⟩ b else s

/-- The 16-byte digest of a chunk's raw bytes (R464): CRC-32C i covers the 64-byte blocks with index i modulo 4. -/
def chunkDigest (b : Bytes) : Bytes :=
  (List.range 4).flatMap (fun i => le 4 (crc32c ((List.range (ceilDiv b.length 64)).flatMap (fun k =>
    if k % 4 = i then slice b (64 * k) 64 else []))))

/-- Shadowing ends at the spare (Table GRP-2). -/
def State.shadowEnd (s : State) : State :=
  let st := s.get GRP_STATUS.SHADOW_STATE
  if st = 1 ∨ st = 2 then
    ((s.set GRP_STATUS.SHADOW_STATE 0).report 0x110A).raise GRP_INT_STATUS.SHADOW
  else s

/-- Two digests of one chunk meet at the spare (R464): its own, and the partner's, with what the swatches of both gateways find
if they differ. -/
def State.digestsMeet (s : State) (a b : Digest) : State :=
  if a.value = b.value then s.addWrap GRP_DIGEST_COUNT.MATCH 1
  else
    let s := ((((s.addSat GRP_DIGEST_COUNT.MISMATCH 1).set GRP_ERR_LOG.REASON 0x110D).set GRP_ERR_LOG.JOB_ID a.job).set
      GRP_ERR_STEP.STEP a.step).set GRP_ERR_STEP.CHUNK_ID a.chunk
    let s := (s.report 0x110D).raise GRP_INT_STATUS.DIGEST
    let s := match s.member (s.get GRP_STATUS.PARTNER_POS) with
      | none => s
      | some (ep, _) => s.groupSend ep { type := 9, job := a.job, step := a.step, chunk := a.chunk, body := a.value }
    if b.spareFails then (if b.partnerFails then s else s.shadowEnd)
    else if b.partnerFails then s
    else s.addSat GRP_DIGEST_COUNT.INCONCLUSIVE 1

/-- Whether two digests name one chunk. -/
def Digest.same (a b : Digest) : Bool := a.job == b.job && a.step == b.step && a.chunk == b.chunk

/-- The encoder has read a chunk (R464): a shadowed gateway sends its digest to the spare, and a spare in SHADOWING compares
its own with the partner's, or keeps it. -/
def State.digestMade (s : State) (job step chunk : Nat) (raw : Bytes) : State :=
  let d : Digest := { job := job, step := step, chunk := chunk, value := chunkDigest raw }
  if s.grp.shadowed then
    s.groupSend (s.get GRP_CFG.SPARE_EP) { type := 5, job := job, step := step, chunk := chunk, body := d.value }
  else if s.on GRP_CTRL.ROLE && s.get GRP_STATUS.SHADOW_STATE == 2 then
    match s.grp.theirs.find? d.same with
    | none => { s with grp := { s.grp with own := s.grp.own ++ [d] } }
    | some t => { s with grp := { s.grp with theirs := s.grp.theirs.erase t } }.digestsMeet d t
  else s

/-! ## Failure notices (R460) -/

/-- Put a management packet of the gateway directly on links: what a takeover and a failure announce on more than one link. -/
def State.groupOnLinks (s : State) (dst : Nat) (links : List Nat) (m : GroupMsg) : State :=
  let (p, s) := s.groupPacket dst m
  let k := s.ownFlow dst 4
  let f := s.fabTx k
  let q := { p with seq := f.next, epoch := s.get FAB_EPOCH.EPOCH, sent := true, due := false }
  let s := s.putFabTx k { f with next := (f.next + 1) % 2 ^ 32 }
  links.foldl (fun s l => s.putLink l 4 k.ch (packetBytes k q false)) s

/-- The line transmitters stop, until the next cast-on (R460, R468). -/
def State.stopLine (s : State) : State := { s with line := s.line.map (fun p => { p with stopped := true }) }

/-- A failing gateway stops its line transmitters and sends FAIL to the spare on two in-service links (R460). -/
def State.failSend (s : State) (reason : Nat) : State :=
  let s := s.stopLine
  if s.on GRP_STATUS.READY then s.groupOnLinks (s.get GRP_CFG.SPARE_EP) (s.linksUp.take 2) { type := 2, reason := reason } else s

/-- A module fault whose software action is to hand the position to the group spare (R460). -/
def State.handOver (s : State) (reason : Nat) : State := (s.moduleFault reason).failSend reason


end Sys2Proof.Machine
end

