-- ==== Sys2Proof/Machine/LaneCode.lean ====
section
/-!
DEFINITION. Machine/LaneCode.lean: the lane code of the line ports (spec/07_line_frame.md R171, R173, R191): scrambler,
ten-bit symbols and RS(560,500) over GF(2^10). The spec names the scrambler and the code by their polynomials; the order
of the parity symbols and the tap of the scrambler's output are log entry 21.
-/
namespace Sys2Proof.Machine

/-- Multiply by x in GF(2^10) with primitive polynomial x^10 + x^3 + 1. -/
def gf10x (a : Nat) : Nat := let b := a <<< 1; if b.testBit 10 then (b ^^^ 0x409) else b

/-- Product in GF(2^10): `n` bits of `b`, lowest first. -/
def gf10MulN : Nat → Nat → Nat → Nat
  | 0, _, _ => 0
  | n + 1, a, b => (if b.testBit 0 then a else 0) ^^^ gf10MulN n (gf10x a) (b >>> 1)

/-- Product in GF(2^10). -/
def gf10Mul (a b : Nat) : Nat := gf10MulN 10 a b

/-- Power of α in GF(2^10). -/
def gf10Alpha : Nat → Nat
  | 0 => 1
  | n + 1 => gf10x (gf10Alpha n)

/-- Multiply a polynomial (highest coefficient first) by (x + r). -/
def polyTimesRoot (p : List Nat) (r : Nat) : List Nat :=
  List.zipWith (· ^^^ ·) (p ++ [0]) (0 :: p.map (gf10Mul r))

/-- The generator polynomial with roots α^0 to α^59, highest coefficient first (R171). -/
def rsGenerator : List Nat := (List.range 60).foldl (fun p i => polyTimesRoot p (gf10Alpha i)) [1]

/-- One symbol of the systematic division: the 60-symbol remainder register after it. -/
def rsStep (gen : List Nat) (reg : List Nat) (d : Nat) : List Nat :=
  let f := d ^^^ reg.headD 0
  List.zipWith (fun r g => r ^^^ gf10Mul f g) (reg.drop 1 ++ [0]) gen

/-- Encode 500 message symbols: the message, then its 60 parity symbols (R171). -/
def rsEncode (msg : List Nat) : List Nat :=
  msg ++ msg.foldl (rsStep (rsGenerator.drop 1)) (List.replicate 60 0)

/-- The bits of a byte, least significant first. -/
def byteBits (b : Byte) : List Bool := (List.range 8).map (fun i => b.getLsbD i)

/-- A run of bits as a number, least significant first. -/
def bitsNat : List Bool → Nat
  | [] => 0
  | b :: r => b2n b + 2 * bitsNat r

/-- The scrambler with all ones, as after an alignment word (R171). -/
def scramblerSeed : Nat := 2 ^ 58 - 1

/-- One bit of the additive scrambler x^58 + x^39 + 1: its output, and the register after it. -/
def scrambleBit (r : Nat) : Bool × Nat :=
  let o := r.testBit 57 != r.testBit 38
  (o, (r <<< 1) % 2 ^ 58 + b2n o)

/-- Scramble a run of bits. -/
def scramble : Nat → List Bool → List Bool × Nat
  | r, [] => ([], r)
  | r, b :: bs =>
    let (o, r') := scrambleBit r
    let (out, r'') := scramble r' bs
    ((b != o) :: out, r'')

/-- The 32-byte words of a frame (R173). -/
def frameWords (frame : Bytes) : List Bytes := (List.range 2048).map (fun j => slice frame (32 * j) 32)

/-- The words of a frame that logical lane `l` carries at width `w` (R173). -/
def laneWords (frame : Bytes) (w l : Nat) : List Bytes :=
  ((List.range 2048).filter (fun j => j % w == l)).map (fun j => slice frame (32 * j) 32)

/-- Put one word of a lane stream through the scrambler: an overhead word's first 64 bits, its alignment word, pass
unscrambled and reset it. -/
def laneWordBits (r : Nat) (isOverhead : Bool) (w : Bytes) : List Bool × Nat :=
  if isOverhead then
    let (o, r') := scramble scramblerSeed ((w.drop 8).flatMap byteBits)
    ((w.take 8).flatMap byteBits ++ o, r')
  else scramble r (w.flatMap byteBits)

/-- Bits of a lane stream from its words; `overhead` of them, at the start, are overhead words. -/
def laneBits : Nat → Nat → List Bytes → List Bool × Nat
  | r, _, [] => ([], r)
  | r, n, w :: ws =>
    let (o, r') := laneWordBits r (n > 0) w
    let (os, r'') := laneBits r' (n - 1) ws
    (o ++ os, r'')

/-- Cut bits into ten-bit symbols (`n` bounds their number): the symbols, and the bits left over. -/
def toSymbols : Nat → List Bool → List Nat × List Bool
  | 0, b => ([], b)
  | n + 1, b =>
    if b.length < 10 then ([], b)
    else
      let (s, r) := toSymbols n (b.drop 10)
      (bitsNat (b.take 10) :: s, r)

/-- Cut symbols into messages of 500 and encode each: the codewords, and the symbols left over. -/
def toCodewords : Nat → List Nat → List (List Nat) × List Nat
  | 0, s => ([], s)
  | n + 1, s =>
    if s.length < 500 then ([], s)
    else
      let (c, r) := toCodewords n (s.drop 500)
      (rsEncode (s.take 500) :: c, r)

/-- Feed scrambled bits to a lane encoder: the codewords completed, and the encoder after. -/
def LaneTx.feed (t : LaneTx) (bits : List Bool) (scr : Nat) : List (List Nat) × LaneTx :=
  let all := t.bits ++ bits
  let (sy, rest) := toSymbols all.length all
  let sy := t.symbols ++ sy
  let (cw, left) := toCodewords sy.length sy
  (cw, { t with symbols := left, bits := rest, scrambler := scr })

/-- Send one frame's words of a logical lane on a lane encoder (R171, R173). -/
def LaneTx.sendLane (t : LaneTx) (frame : Bytes) (w l : Nat) : List (List Nat) × LaneTx :=
  let (bits, scr) := laneBits t.scrambler (8 / w) (laneWords frame w l)
  t.feed bits scr

/-- The alignment word of a probe lane at position `q` (Table FRAME-4, R191). -/
def probeWord (q : Nat) : Bytes := [0x3C, 0xA5, 0x1F, 0x6E, 0xD2, 0x47, BitVec.ofNat 8 q, 0xFF]

/-- Send `n` bytes of a probe lane at position `q`: zero payload with a probe alignment word every 8,192 bytes (R191). -/
def LaneTx.sendProbe (t : LaneTx) (n q : Nat) : List (List Nat) × LaneTx :=
  let words := (List.range (n / 32)).map (fun i =>
    if (t.probe + 32 * i) % 8192 = 0 then probeWord q ++ zeros 24 else zeros 32)
  let heads := (List.range (n / 32)).map (fun i => decide ((t.probe + 32 * i) % 8192 = 0))
  let (bits, scr) := (words.zip heads).foldl (fun x wh =>
      let (o, r) := laneWordBits x.2 wh.2 wh.1
      (x.1 ++ o, r)) ([], t.scrambler)
  let (cw, t') := t.feed bits scr
  (cw, { t' with probe := (t.probe + n) % 8192 })

end Sys2Proof.Machine
end

