-- ==== Sys2Proof/Machine/Line.lean ====
section
/-!
DEFINITION. Machine/Line.lean: line ports, frames, alignment, performance, connection memories, yarns and widths
(spec/07_line_frame.md R169 to R198), and the gate lists that open and close yarns (spec/13_queues_and_scheduling.md R366
to R368).
-/
namespace Sys2Proof.Machine
open Csr

/-- A line port outside its registers. -/
def State.port (s : State) (p : Nat) : LinePort := s.line.getD p {}

/-- Replace a line port. -/
def State.putPort (s : State) (p : Nat) (x : LinePort) : State := { s with line := s.line.set p x }

/-- Set a bit of a port's interrupt status; the LINE source follows (text after Table FRAME-12). -/
def State.raisePort (s : State) (f : Field) (p : Nat) : State := s.raise f p

/-- Log a port fault or refusal in PORT_ERR_LOG and report it. -/
def State.portLog (s : State) (p reason lane : Nat) : State :=
  ((s.set PORT_ERR_LOG.REASON reason p).set PORT_ERR_LOG.LANE lane p).report reason

/-- Width of a width code 0, 1, 2 (PORT_CFG.TX_WIDTH). -/
def widthOf (c : Nat) : Nat := match c with | 0 => 8 | 1 => 4 | 2 => 2 | _ => 0

/-- Width code of a width; 3 for none. -/
def widthCode (w : Nat) : Nat := match w with | 8 => 0 | 4 => 1 | 2 => 2 | _ => 3

/-- The positions of set `t` at width `w` (R190). -/
def setPositions (w t : Nat) : List Nat := (List.range w).map (fun i => t * w + i)

/-- Whether a port is IN_FRAME. -/
def State.inFrame (s : State) (p : Nat) : Bool := let a := s.get PORT_STATUS.ALIGN_STATE p; a == 2 || a == 3

/-- Whether a port is enabled and in service. -/
def State.portOn (s : State) (p : Nat) : Bool :=
  s.on LINE_STATUS.READY && (s.get LINE_CTRL.PORT_EN).testBit p && !(s.port p).stopped

/-- Store a port's alignment state, and its bit of LINE_STATUS.IN_FRAME. -/
def State.setAlign (s : State) (p st cnt : Nat) : State :=
  let s := s.set PORT_STATUS.ALIGN_STATE st p
  let s := s.set LINE_STATUS.IN_FRAME (setBit (s.get LINE_STATUS.IN_FRAME) p (st == 2 || st == 3))
  s.putPort p { s.port p with count := cnt }

/-- Count one errored frame of a port (R180, R183). -/
def State.countErrored (s : State) (p : Nat) : State :=
  let x := s.port p
  let s := s.putPort p { x with efSecond := x.efSecond + 1, rei := min (x.rei + 1) 0xFFFF }
  (s.addWrap PORT_PM_EF.EF 1 p).pmonEdge 0x0068 1 { cls := 10, hasTenant := false }

/-- Enter HUNT (Table FRAME-6): the held frame is discarded and counts as errored, and an empty piece marks the gap in each
yarn (R178, R203); leaving IN_FRAME is a loss of frame. -/
def State.toHunt (s : State) (p : Nat) : State :=
  let was := s.inFrame p
  let x := s.port p
  let gap := if x.held.isSome then x.rxYarn.map (fun y => (y.1, y.2 ++ [([], true)])) else x.rxYarn
  let s := s.putPort p { x with held := none, rxYarn := gap }
  let s := if x.held.isSome then s.countErrored p else s
  let s := (s.setAlign p 0 0).set PORT_STATUS.RX_WIDTH 3 p
  if was then (s.portLog p 0x0804 0).raisePort PORT_INT_STATUS.LOF p else s

/-! ## Lanes (R172, R175, R176) -/

/-- Positions locked at a port's receiver (R191): codeword lock and alignment-word lock. -/
def State.lockedPositions (s : State) (p : Nat) : Nat :=
  maskOf (((s.port p).laws.filter (fun l => s.on PORT_LANE_STAT.CW_LOCK p l.1)).map (fun l => l.2.2.1))

/-- The lanes in use at a receiver: those whose alignment word names a width. -/
def LinePort.inUse (x : LinePort) : List (Nat × Nat × Nat × Nat) := x.laws.filter (fun l => l.2.1 ≠ 0)

/-- Whether two lanes claim one position, or width codes differ (R176). -/
def LinePort.conflict (x : LinePort) : Bool :=
  let u := x.inUse
  !((x.laws.map (fun l => l.2.2.1)).Nodup) || u.any (fun a => u.any (fun b => a.2.1 != b.2.1))

/-- The width a receiver finds when every lane in use has alignment-word lock and deskew holds (R176, R177), else 0. The
lanes of one set at width W are W positions that start at a multiple of W; 100 ns is 2,500 lane bytes of 40 ps. -/
def LinePort.foundWidth (x : LinePort) : Nat :=
  let u := x.inUse
  match u with
  | [] => 0
  | a :: _ =>
    let w := a.2.1
    let t := a.2.2.1 / w
    if u.length = w ∧ !x.conflict ∧ u.all (fun l => l.2.2.1 / w == t) ∧ u.all (fun l => decide (l.2.2.2 ≤ 2500)) then w else 0

/-- Whether an in-use lane lost its lock while the port was out of HUNT. -/
def State.laneInUse (s : State) (p lane : Nat) : Bool := (s.port p).inUse.any (fun l => l.1 == lane)

/-- CODEWORD_LOCK_GAINED (R172): a lane finds 4 consecutive decodable codewords at one boundary. Its equaliser keeps the
settings it held, unless the loss of signal lasted 1 s or more, or it has none yet; then it has adapted afresh. -/
def execCodewordLockGained (p : Fin 16) (lane : Fin 8) (s : State) : Host.Outcome State Fault Refusal :=
  let s := (s.set PORT_LANE_STAT.SIGNAL 1 p lane).set PORT_LANE_STAT.CW_LOCK 1 p lane
  let x := s.port p
  let s := s.putPort p { x with adapted := addOnce x.adapted lane.val, lossAt := assocErase x.lossAt lane.val }
  .next (s.set PORT_STATUS.RX_LANES (s.lockedPositions p) p)

/-- CODEWORD_LOCK_LOST (R172, Table FRAME-6): 8 consecutive uncorrectable codewords; the lane also loses its
alignment-word lock, and the port goes to HUNT when the lane is in use. -/
def execCodewordLockLost (p : Fin 16) (lane : Fin 8) (s : State) : Host.Outcome State Fault Refusal :=
  let used := s.laneInUse p lane && s.get PORT_STATUS.ALIGN_STATE p != 0 && s.get PORT_STATUS.ALIGN_STATE p != 4
  let s := ((s.set PORT_LANE_STAT.CW_LOCK 0 p lane).set PORT_LANE_STAT.LAW_LOCK 0 p lane).set PORT_LANE_STAT.POSITION 0xF
    p lane
  let x := s.port p
  let s := s.putPort p { x with laws := x.laws.filter (fun l => l.1 ≠ lane.val) }
  let s := (s.set PORT_STATUS.RX_LANES (s.lockedPositions p) p).portLog p 0x0801 lane
  .next (if used then s.toHunt p else s)

/-- LINE_SIGNAL_LOSS (R172): signal is lost on a lane; its equalisation is held from this time, for up to 1 s. -/
def execLineSignalLoss (p : Fin 16) (lane : Fin 8) (s : State) : Host.Outcome State Fault Refusal :=
  let s := s.set PORT_LANE_STAT.SIGNAL 0 p lane
  let x := s.port p
  .next (s.putPort p { x with lossAt := assocPut x.lossAt lane.val s.mono })

/-- ALIGNMENT_WORD_LOCK (R175, R176): a lane gains or loses alignment-word lock. -/
def execAlignmentWordLock (p : Fin 16) (lane : Fin 8) (e : LawEvent) (s : State) : Host.Outcome State Fault Refusal :=
  match e with
  | .lost =>
    let used := s.laneInUse p lane && s.get PORT_STATUS.ALIGN_STATE p != 0 && s.get PORT_STATUS.ALIGN_STATE p != 4
    let s := (s.set PORT_LANE_STAT.LAW_LOCK 0 p lane).set PORT_LANE_STAT.POSITION 0xF p lane
    let x := s.port p
    let s := s.putPort p { x with laws := x.laws.filter (fun l => l.1 ≠ lane.val) }
    let s := (s.set PORT_STATUS.RX_LANES (s.lockedPositions p) p).portLog p 0x0802 lane
    .next (if used then s.toHunt p else s)
  | .gained w pos skew =>
    let s := ((s.set PORT_LANE_STAT.LAW_LOCK 1 p lane).set PORT_LANE_STAT.POSITION pos p lane).set PORT_LANE_STAT.SKEW skew
      p lane
    let x := s.port p
    let x := { x with laws := x.laws.filter (fun l => l.1 ≠ lane.val) ++ [(lane.val, w, pos.val, skew)] }
    let s := s.putPort p x
    let s := s.set PORT_STATUS.RX_LANES (s.lockedPositions p) p
    let s := if x.conflict then s.portLog p 0x0802 lane else s
    .next (if skew > 2500 then s.portLog p 0x0803 lane else s)

/-! ## Connection memories and yarns (R184 to R189) -/

/-- The transmit page registers. -/
def txPage (g : Nat) : Reg := if g = 0 then PORT_TXCM0 else PORT_TXCM1
/-- The receive page registers. -/
def rxPage (g : Nat) : Reg := if g = 0 then PORT_RXCM0 else PORT_RXCM1

/-- The entry of a slot in a page: its yarn when VALID. -/
def State.slotYarn (s : State) (r : Reg) (p slot : Nat) : Option Nat :=
  let e := getBits (s.rdReg r p (slot / 8)).toNat (8 * (slot % 8)) 8
  if e.testBit 7 then some (e % 128) else none

/-- Tenant of a yarn. -/
def State.yarnTenant (s : State) (p y : Nat) : Nat := getBits (s.rdReg PORT_YARN p (y / 4)).toNat (16 * (y % 4)) 8

/-- Whether a yarn is enabled. -/
def State.yarnOn (s : State) (p y : Nat) : Bool :=
  decide (y < 80) && getBits (s.rdReg PORT_YARN p (y / 4)).toNat (16 * (y % 4) + 15) 1 == 1

/-- The generation of a page. -/
def State.txGen (s : State) (p g : Nat) : Nat := if g = 0 then s.get PORT_CM_GEN.TX_GEN0 p else s.get PORT_CM_GEN.TX_GEN1 p
/-- The generation of a receive page. -/
def State.rxGen (s : State) (p g : Nat) : Nat := if g = 0 then s.get PORT_CM_GEN.RX_GEN0 p else s.get PORT_CM_GEN.RX_GEN1 p

/-- Whether a port's gate opens a yarn now (R366). -/
def State.gateOpen (s : State) (p y : Nat) : Bool :=
  if y < 64 then (s.get GATE_OPEN0.OPEN p).testBit y else (s.get GATE_OPEN1.OPEN p).testBit (y - 64)

/-- The slots that an active transmit page gives a yarn. -/
def State.yarnSlots (s : State) (p y : Nat) : Nat :=
  ((List.range 80).filter (fun k => s.slotYarn (txPage (s.get PORT_CM_CTRL.TX_ACTIVE p)) p k == some y)).length

/-- A refusal of a connection-memory arm or write: PORT_ERR_LOG and the REFUSED bit. -/
def State.portRefuse (s : State) (p reason : Nat) : State := (s.portLog p reason 0).raisePort PORT_INT_STATUS.REFUSED p

/-- Whether R188 lets SWAP_ARM arm a swap. -/
def State.swapArmOk (s : State) (p : Nat) : Bool :=
  let a := s.get PORT_CM_CTRL.TX_ACTIVE p
  !s.on PORT_CM_CTRL.SWAP_ARM p && s.txGen p (1 - a) != s.txGen p a &&
  (List.range 80).all (fun k =>
    match s.slotYarn (txPage (1 - a)) p k with
    | none => true
    | some y => s.yarnOn p y)

/-- The transmit pages that are active or armed, whose yarns R189 protects. -/
def State.protectedPages (s : State) (p : Nat) : List Reg :=
  let a := s.get PORT_CM_CTRL.TX_ACTIVE p
  [txPage a, rxPage (s.get PORT_CM_CTRL.RX_ACTIVE p)] ++ (if s.on PORT_CM_CTRL.SWAP_ARM p then [txPage (1 - a)] else [])

/-- Whether an active or pending page names a yarn. -/
def State.yarnNamed (s : State) (p y : Nat) : Bool :=
  (s.protectedPages p).any (fun r => (List.range 80).any (fun k => s.slotYarn r p k == some y))

/-! ## Gate lists (R366 to R368) -/

/-- The entry of a gate list in force at gateway time `t`: its index, its mask, and the time to its end. -/
def gateAt : List (Nat × Nat) → Nat → Nat → Nat × Nat × Nat
  | [], _, k => (k, 2 ^ 80 - 1, 0)
  | (m, d) :: r, t, k => if t < d ∨ r = [] then (k, m, d - t) else gateAt r (t - d) (k + 1)

/-- Sum of the intervals of a gate list. -/
def gateCycle (l : List (Nat × Nat)) : Nat := l.foldl (fun a e => a + e.2) 0

/-- Time from `t` until a yarn's gate closes, or none when no entry of the list closes it (R366). -/
def GateList.closesIn (g : GateList) (t y : Nat) : Option Nat :=
  let c := gateCycle g.entries
  let (k, _, left) := gateAt g.entries ((t - g.base) % max c 1) 0
  let rot := g.entries.drop (k + 1) ++ g.entries.take (k + 1)
  if g.entries.all (fun e => e.1.testBit y) then none
  else some (left + ((rot.takeWhile (fun e => e.1.testBit y)).foldl (fun a e => a + e.2) 0))

/-- Read a gate list from memory (Table QUE-5): its entries, when it lies in region 0 with a valid COUNT, CRC and
intervals. -/
def State.readGateList (s : State) (a : Nat) : Option (List (Nat × Nat)) :=
  let n := s.readLe a 2
  if a % 16 ≠ 0 ∨ n = 0 ∨ 256 < n ∨ !s.inRegion 0 a (16 + 16 * n) then none
  else
    let bs := s.readBytes (a + 16) (16 * n)
    let es := (List.range n).map (fun e => (fieldAt bs (16 * e) 10, fieldAt bs (16 * e + 12) 4))
    if crc32c bs = s.readLe (a + 4) 4 ∧ es.all (fun e => decide (1 ≤ e.2)) then some es else none

/-- Publish the OPEN mask in force on a port. -/
def State.setOpen (s : State) (p mask entry : Nat) : State :=
  ((s.set GATE_OPEN0.OPEN (mask % 2 ^ 64) p).set GATE_OPEN1.OPEN (mask / 2 ^ 64) p).set GATE_CTRL.ENTRY entry p

/-- Raise the SCHED gate report. -/
def State.gateReport (s : State) (p reason : Nat) : State :=
  (((s.set SCHED_ERR_LOG.REASON reason).set SCHED_ERR_LOG.PORT p).report reason).raise SCHED_INT_STATUS.GATE

/-- GATE_TAKEOVER (R367): the armed list takes over at the first frame at or after its BASE_TIME. -/
def State.gateTakeover (s : State) (p : Nat) : State :=
  match s.sched.armedGate.find? (fun g => g.1 == p) with
  | none => s
  | some (_, g) =>
    if g.base ≤ s.now then
      let s := { s with sched := { s.sched with
        armedGate := assocErase s.sched.armedGate p
        gate := assocPut s.sched.gate p g } }
      let s := s.set GATE_CTRL.ACTIVE_LIST (1 - s.get GATE_CTRL.ACTIVE_LIST p) p
      ((s.set GATE_CTRL.ARM 0 p).set GATE_CTRL.IN_FORCE 1 p).gateReport p 0x0304
    else s

/-- A tenant wakes on a port at the port's virtual time (R362). -/
def State.wakeTenant (s : State) (p t : Nat) : State :=
  { s with sched := { s.sched with tagTenant := assocPut s.sched.tagTenant (p, t) (s.get PORT_VT.VT p) } }

/-- At a frame's start the OPEN mask of the entry in force applies; a tenant whose yarn reopens wakes first (R366, R368). -/
def State.gateFrame (s : State) (p : Nat) : State :=
  let s := s.gateTakeover p
  match s.sched.gate.find? (fun g => g.1 == p) with
  | none => s
  | some (_, g) =>
    let (k, m, _) := gateAt g.entries ((s.now - g.base) % max (gateCycle g.entries) 1) 0
    let reopened := (List.range 80).filter (fun y => m.testBit y && !s.gateOpen p y && s.yarnOn p y)
    let s := s.setOpen p m k
    (reopened.map (s.yarnTenant p)).foldl (fun s t => s.wakeTenant p t) s

/-! ## Transmitting (R173, R174, R185, R186, R188) -/

/-- The shards waiting in a transmit yarn buffer. -/
def LinePort.txBuf (x : LinePort) (y : Nat) : List TxShard := lookupD x.txYarn y []

/-- Frames that start before a gate closes, counting the one that starts now, for a period of `per` hundredths of ns. -/
def framesBefore (per ns : Nat) : Nat := if ns = 0 then 0 else (100 * ns - 1) / per + 1

/-- A shard with TX_TIME and HDR_CRC as its first byte is transmitted (Table XPORT-2). -/
def stampShard (t : Nat) (b : Bytes) : Bytes :=
  let h := b.take 16 ++ le 4 t ++ slice b 20 8
  h ++ le 4 (crc32c h) ++ b.drop 32

/-- TX_TIME of a port: zero once its timestamp unit has stopped (Table TIME-3). -/
def State.lineStamp (s : State) (p : Nat) : Nat := if s.time.unitsOut.contains (32 + p) then 0 else s.stamp

/-- Take up to `n` bytes of a yarn's shards at stamp `t`. A shard not yet started is started only while `may` holds (R366),
and is then stamped (Table XPORT-2). -/
def takeYarn (may : Bool) (t : Nat) : Nat → List TxShard → Bytes × List TxShard
  | _, [] => ([], [])
  | n, x :: r =>
    if n = 0 ∨ (!x.started ∧ !may) then ([], x :: r)
    else
      let b := if x.started then x.bytes else stampShard t x.bytes
      if b.length ≤ n then
        let (c, l) := takeYarn may t (n - b.length) r
        (b ++ c, l)
      else (b.take n, ⟨b.drop n, true⟩ :: r)

/-- Whether the guard lets a yarn start a shard in this frame (R366). -/
def State.mayStart (s : State) (p y : Nat) : Bool :=
  if !s.on GATE_CTRL.GUARD p then true
  else
    match s.sched.gate.find? (fun g => g.1 == p) with
    | none => true
    | some (_, g) =>
      match g.closesIn s.now y with
      | none => true
      | some ns =>
        let per := 32768 * 8 / max 1 (widthOf (s.get PORT_STATUS.TX_WIDTH_NOW p))
        decide (ceilDiv 8224 (816 * max 1 (s.yarnSlots p y)) ≤ framesBefore per ns)

/-- Fill the slots of a frame in order from the yarns of the active page: the slot's bytes and FILL, and the buffers
after (R174, R185). While the schedulers are not ready, or the gate is closed, a slot carries idle fill. -/
def State.fillSlots (s : State) (p : Nat) : List Nat → List (Nat × List TxShard) → List (Nat × Bytes × Option Nat) ×
    List (Nat × List TxShard)
  | [], b => ([], b)
  | k :: ks, b =>
    let y := s.slotYarn (txPage (s.get PORT_CM_CTRL.TX_ACTIVE p)) p k
    let (x, b') : (Nat × Bytes × Option Nat) × List (Nat × List TxShard) :=
      match y with
      | none => ((0, zeros 816, none), b)
      | some y =>
        if s.yarnOn p y && s.gateOpen p y && s.on SCHED_STATUS.READY then
          let (bs, l) := takeYarn (s.mayStart p y) (s.lineStamp p) 816 (lookupD b y [])
          ((bs.length, padTo 816 bs, some y), assocPut b y l)
        else ((0, zeros 816, some y), b)
    let (rest, b'') := s.fillSlots p ks b'
    (x :: rest, b'')

/-- The alignment word of overhead word `k` at width `w` and set `t`: the position is that of the lane that carries word
`k` (Table FRAME-4, R173, R190). -/
def alignmentWord (w t k : Nat) : Bytes :=
  [0x3C, 0xA5, 0x1F, 0x6E, 0xD2, 0x47, BitVec.ofNat 8 (w * 16 + (t * w + k % w)), BitVec.ofNat 8 k]

/-- The 256 overhead bytes of a frame: alignment words, FILL fields and word fields (Tables FRAME-3 to FRAME-5). -/
def overheadBytes (w t : Nat) (fills : List Nat) (wf : List Nat) : Bytes :=
  (List.range 8).flatMap (fun k =>
    alignmentWord w t k ++ (List.range 10).flatMap (fun i => le 2 (fills.getD (10 * k + i) 0)) ++ le 4 (wf.getD k 0))

/-- Apply a pending page swap whose frame has come (R188). -/
def State.swapIfDue (s : State) (p : Nat) : State :=
  if s.on PORT_CM_CTRL.SWAP_ARM p && decide (s.get PORT_SWAP_TIME.TIME p ≤ s.now) then
    let s := (s.set PORT_CM_CTRL.TX_ACTIVE (1 - s.get PORT_CM_CTRL.TX_ACTIVE p) p).set PORT_CM_CTRL.SWAP_ARM 0 p
    (s.report 0x0811).raisePort PORT_INT_STATUS.SWAP_DONE p
  else s

/-- The physical lane of position `q` (R190). -/
def State.physLane (s : State) (p q : Nat) : Nat := getBits (s.get PORT_CFG.TX_LANE_MAP p) (3 * q) 3

/-- Send a frame's bytes on the port's lanes through the lane code; the positions outside the set in use are probe lanes
(R171, R173, R191). A lane under test sends its pattern instead. -/
def State.sendLanes (s : State) (p w t : Nat) (frame : Bytes) : State :=
  (List.range 8).foldl (fun s q =>
      let lane := s.physLane p q
      let x := s.port p
      let tx := x.lanes.getD lane {}
      let (cw, tx') :=
        if q ∈ setPositions w t then tx.sendLane frame w (q - t * w) else tx.sendProbe (65536 / w) q
      let test := s.get PORT_LANE_CFG.TEST_TX p lane
      (s.putPort p { x with lanes := x.lanes.set lane tx' }).emit (if test = 0 then .laneCode p lane cw else .lanePattern p lane test)) s

/-- TX_FRAME_START (R173 to R192): the transmitter starts a frame. Page swap, gate list and width apply first, then each
VALID slot of the active page is filled from its yarn. A port that is not enabled or is out of service sends nothing. -/
def execTxFrameStart (p : Fin 16) (s : State) : Host.Outcome State Fault Refusal :=
  let p := p.val
  if !s.portOn p then .next s
  else
    let s := (s.swapIfDue p).gateFrame p
    let s := s.set PORT_STATUS.TX_WIDTH_NOW (s.get PORT_CFG.TX_WIDTH p) p
    let w := max 2 (widthOf (s.get PORT_CFG.TX_WIDTH p))
    let t := s.get PORT_CFG.TX_SET p
    let x := s.port p
    let (slots, bufs) := s.fillSlots p (List.range 80) x.txYarn
    let body := slots.flatMap (fun k => k.2.1)
    let g := s.get PORT_CM_CTRL.TX_ACTIVE p
    let rdi := b2n (!s.inFrame p)
    let w3 := min x.rei 0xFFFF + rdi * 2 ^ 16 + s.get PORT_STATUS.UNAVAIL p * 2 ^ 17 + s.get PORT_STATUS.RX_LANES p * 2 ^ 24
    let w4 := s.get PORT_ID.TX_PORT p + s.get PORT_ID.TX_SITE p * 2 ^ 4 + s.get PORT_ID.TX_LINK p * 2 ^ 16
    let head := overheadBytes w t (slots.map (·.1)) [x.frameCount, x.prevCrc, s.txGen p g + g * 2 ^ 16, w3, w4, 0, 0, 0]
    let s := s.putPort p { x with txYarn := bufs, frameCount := (x.frameCount + 1) % 2 ^ 32, prevCrc := crc32c body, rei := 0 }
    let s := (s.emit (.frame p head body)).sendLanes p w t (head ++ body)
    let s := slots.foldl (fun s k =>
        match k.2.2 with
        | none => s
        | some y => if k.1 = 0 then s else s.pmonEdge 0x0028 k.1 { cls := 10, tenant := s.yarnTenant p y }) s
    .next (s.meter (32 + p) (slots.foldl (fun a k => a + k.1) 0) 0)

/-! ## Receiving (R176 to R180, R187, R197) -/

/-- Whether a frame is alignment-errored at width `w`: some alignment word of its overhead is not as expected (R177). The
set is the one the first word's position names. -/
def alignErrored (w : Nat) (f : RxFrame) : Bool :=
  let t := fieldAt f.overhead 6 1 % 16 / max w 1
  (List.range 8).any (fun k => slice f.overhead (32 * k) 8 != alignmentWord w t k)

/-- A word field of a received frame's overhead. -/
def wordField (f : RxFrame) (k : Nat) : Nat := fieldAt f.overhead (32 * k + 28) 4

/-- FILL of slot `k`. -/
def fillOf (f : RxFrame) (k : Nat) : Nat := fieldAt f.overhead (32 * (k / 10) + 8 + 2 * (k % 10)) 2 % 1024

/-- Deliver the held frame to its yarns, now that the next frame's PREV_CRC is known (R178, R180). -/
def State.deliverHeld (s : State) (p : Nat) (prevCrc : Option Nat) : State :=
  let x := s.port p
  match x.held with
  | none => s
  | some h =>
    let bad := h.errored || prevCrc != some h.crc
    let rx := h.pieces.foldl (fun l k => assocPut l k.1 (lookupD l k.1 [] ++ [(k.2, bad)])) x.rxYarn
    let s := s.putPort p { x with held := none, rxYarn := rx }
    let s := h.pieces.foldl (fun s k => s.pmonEdge 0x0048 k.2.length { cls := 10, tenant := s.yarnTenant p k.1 }) s
    let s := s.meter (32 + p) 0 (h.pieces.foldl (fun a k => a + k.2.length) 0)
    if bad then s.countErrored p else s

/-- A generation or slot that no receive page maps (R187). -/
def State.yarnMismatch (s : State) (p gen : Nat) : State :=
  (((s.addSat PORT_PM_UAS.YARN_MISMATCH 1 p).portLog p 0x080A 0).set PORT_ERR_LOG.RX_GEN gen p).raisePort
    PORT_INT_STATUS.YARN_MISMATCH p

/-- The overhead of a frame received IN_FRAME: counts, far-end state and identity (Table FRAME-5, R179, R197). -/
def State.rxOverhead (s : State) (p : Nat) (f : RxFrame) : State :=
  let w3 := wordField f 3
  let w4 := wordField f 4
  let rdi := w3.testBit 16
  let was := s.on PORT_STATUS.FAR_DOWN p
  let s := (s.set PORT_STATUS.FRAME_COUNT_RX (wordField f 0) p).addWrap PORT_FAR_EF.FAR_EF (w3 % 2 ^ 16) p
  let s := ((s.set PORT_STATUS.FAR_DOWN (b2n rdi) p).set PORT_STATUS.FAR_UNAVAIL (getBits w3 17 1) p).set
    PORT_STATUS.FAR_RX_LANES (getBits w3 24 8) p
  let s := if rdi && !was then (s.portLog p 0x0808 0).raisePort PORT_INT_STATUS.FAR_DOWN p else s
  let bad := s.on PORT_ID.EXP_EN p &&
    !(getBits w4 0 4 == s.get PORT_ID.EXP_PORT p && getBits w4 4 4 == s.get PORT_ID.EXP_SITE p &&
      getBits w4 16 16 == s.get PORT_ID.EXP_LINK p)
  let wasBad := s.on PORT_STATUS.ID_MISMATCH p
  let s := s.set PORT_STATUS.ID_MISMATCH (b2n bad) p
  if bad && !wasBad then (s.portLog p 0x0809 0).raisePort PORT_INT_STATUS.ID_MISMATCH p else s

/-- Switch the receive page when the frame carries the standby page's generation; say whether some page has it (R187). -/
def State.rxGeneration (s : State) (p gen : Nat) : Bool × State :=
  let a := s.get PORT_CM_CTRL.RX_ACTIVE p
  if s.rxGen p (1 - a) = gen then (true, s.set PORT_CM_CTRL.RX_ACTIVE (1 - a) p)
  else if s.rxGen p a = gen then (true, s)
  else (false, s.yarnMismatch p gen)

/-- The slot bytes of a frame by yarn, under the active receive page (R185, R187). -/
def State.rxPieces (s : State) (p : Nat) (f : RxFrame) : List (Nat × Bytes) × Nat :=
  (List.range 80).foldl (fun x k =>
      let n := min 816 (fillOf f k)
      if n = 0 then x
      else
        match s.slotYarn (rxPage (s.get PORT_CM_CTRL.RX_ACTIVE p)) p k with
        | none => (x.1, x.2 + 1)
        | some y => (x.1 ++ [(y, slice f.slots (816 * k) n)], x.2)) ([], 0)

/-- Hold a frame received IN_FRAME until the next overhead (R178, R180, R187, R197). -/
def State.holdFrame (s : State) (p : Nat) (f : RxFrame) (alignErr : Bool) : State :=
  let s := s.rxOverhead p f
  let gen := wordField f 2 % 2 ^ 16
  let (known, s) := s.rxGeneration p gen
  let mism := s.on PORT_STATUS.ID_MISMATCH p
  let (pieces, strays) := if known && !mism then s.rxPieces p f else ([], 0)
  let s := (List.range strays).foldl (fun s _ => s.yarnMismatch p gen) s
  let tooLong := (List.range 80).any (fun k => decide (816 < fillOf f k))
  let h : HeldFrame := ⟨pieces, crc32c f.slots, alignErr || decide (0 < f.uncorrectable) || tooLong || mism⟩
  s.putPort p { s.port p with held := some h }

/-- A port enters IN_FRAME (R195). -/
def State.frameGained (s : State) (p w : Nat) : State :=
  (((s.setAlign p 2 0).set PORT_STATUS.RX_WIDTH (widthCode w) p).portLog p 0x0805 0).raisePort PORT_INT_STATUS.FRAME_GAINED p

/-- The alignment machine of Table FRAME-6 and what follows from it, at one expected frame start (R176 to R180). -/
def State.rxFrame (s : State) (p : Nat) (f : Option RxFrame) : State :=
  let x := s.port p
  let s := s.putPort p { x with framesSecond := x.framesSecond + 1 }
  let s :=
    match f with
    | none => s
    | some f => (s.addSat PORT_FEC.CORRECTED f.corrected p).addSat PORT_FEC.UNCORRECTABLE f.uncorrectable p
  let st := s.get PORT_STATUS.ALIGN_STATE p
  let n := s.get LINE_ALIGN.CONFIRM_N
  let m := s.get LINE_ALIGN.LOSS_M
  let cnt := x.count
  if st = 0 ∨ st = 4 then
    let w := x.foundWidth
    let s := s.countErrored p
    if w = 0 then s
    else if n = 1 then s.frameGained p w
    else (s.setAlign p 1 1).set PORT_STATUS.RX_WIDTH (widthCode w) p
  else
    let w := widthOf (s.get PORT_STATUS.RX_WIDTH p)
    let bad : Bool := match f with
      | none => true
      | some f => alignErrored w f
    if st = 1 then
      if bad then (s.toHunt p).countErrored p
      else if cnt + 1 = n then
        let s := s.frameGained p w
        match f with
        | none => s
        | some f => s.holdFrame p f false
      else (s.setAlign p 1 (cnt + 1)).countErrored p
    else if bad ∧ cnt + 1 = m then (s.toHunt p).countErrored p
    else
      let s := s.deliverHeld p (match f with
        | none => none
        | some f => some (wordField f 1))
      let s := if bad then s.setAlign p 3 (cnt + 1) else s.setAlign p 2 0
      match f with
      | none => s.putPort p { s.port p with held := some ⟨[], 0, true⟩ }
      | some f => s.holdFrame p f bad

/-! ## Performance seconds (R181 to R183) -/

/-- Count a settled second (R183). -/
def State.settle (s : State) (p : Nat) (x : PerfSecond) : State :=
  if x.uas then s.addWrap PORT_PM_UAS.UAS 1 p
  else if x.ses then s.addWrap PORT_PM_ES_SES.SES 1 p
  else if x.es then s.addWrap PORT_PM_ES_SES.ES 1 p
  else s

/-- Publish a port's provisional availability. -/
def State.setUnavail (s : State) (p : Nat) (u : Bool) : State :=
  (s.set PORT_STATUS.UNAVAIL (b2n u) p).set LINE_STATUS.UNAVAIL (setBit (s.get LINE_STATUS.UNAVAIL) p u)

/-- A performance second of a port ends (R181 to R183, Table FRAME-7): it is classified, availability moves, retroactively
over the last ten seconds, and the second that nine have followed settles. -/
def State.perfSecond (s : State) (p : Nat) : State :=
  let x := s.port p
  let es := decide (0 < x.efSecond)
  let ses := es && decide (15 * x.framesSecond ≤ 100 * x.efSecond)
  let un := s.on PORT_STATUS.UNAVAIL p
  let run := if un then (if ses then 0 else x.run + 1) else (if ses then x.run + 1 else 0)
  let flip := run == 10
  let secs : List PerfSecond := x.unsettled ++ [⟨es, ses, un⟩]
  let secs : List PerfSecond := if flip then
      secs.take (secs.length - 10) ++ (secs.drop (secs.length - 10)).map (fun e => { e with uas := !un })
    else secs
  let left := if secs.length ≥ 10 then secs.drop 1 else secs
  let s := s.putPort p { x with efSecond := 0, framesSecond := 0, run := if flip then 0 else run, unsettled := left }
  let s := if secs.length ≥ 10 then s.settle p (secs.headD ⟨false, false, false⟩) else s
  if flip then
    let s := s.setUnavail p (!un)
    if un then (s.portLog p 0x0807 0).raisePort PORT_INT_STATUS.UAS_EXIT p
    else (s.portLog p 0x0806 0).raisePort PORT_INT_STATUS.UAS_ENTER p
  else s

/-- PERF_SECOND_END (R181). -/
def execPerfSecondEnd (p : Fin 16) (s : State) : Host.Outcome State Fault Refusal := .next (s.perfSecond p)

/-! ## Width and training (R190 to R195) -/

/-- The sets as (width code, width, set), the widest first and the lower set first. -/
def allSets : List (Nat × Nat × Nat) := [(0, 8, 0), (1, 4, 0), (1, 4, 1), (2, 2, 0), (2, 2, 1), (2, 2, 2), (2, 2, 3)]

/-- Whether a set lies wholly within a mask of positions. -/
def setWithin (lanes : Nat) (x : Nat × Nat × Nat) : Bool := (setPositions x.2.1 x.2.2).all (fun q => lanes.testBit q)

/-- Move a port's transmitter to a set at its next frame, and report it. -/
def State.moveWidth (s : State) (p : Nat) (x : Nat × Nat × Nat) (reason : Nat) : State :=
  (((s.set PORT_CFG.TX_WIDTH x.1 p).set PORT_CFG.TX_SET x.2.2 p).portLog p reason 0).raisePort PORT_INT_STATUS.WIDTH p

/-- AUTO_NARROW (R192): the far RX_LANES has excluded a position of the set in use for LANE_HOLD_MS; the transmitter moves
to the widest set wholly within it, the lower on a tie. -/
def execAutoNarrow (p : Fin 16) (s : State) : Host.Outcome State Fault Refusal :=
  let far := s.get PORT_STATUS.FAR_RX_LANES p
  let cur := (s.get PORT_CFG.TX_WIDTH p, widthOf (s.get PORT_CFG.TX_WIDTH p), s.get PORT_CFG.TX_SET p)
  if s.on PORT_CFG.AUTO_NARROW p && !setWithin far cur then
    match allSets.find? (setWithin far) with
    | none => .next s
    | some x => .next (s.moveWidth p x 0x080D)
  else .next s

/-- AUTO_WIDEN (R193): every position of a wider set has been in the far RX_LANES for WIDEN_HOLD_S; the transmitter moves
to it. -/
def execAutoWiden (p : Fin 16) (s : State) : Host.Outcome State Fault Refusal :=
  let far := s.get PORT_STATUS.FAR_RX_LANES p
  let w := widthOf (s.get PORT_CFG.TX_WIDTH p)
  if s.on PORT_CFG.AUTO_WIDEN p then
    match allSets.find? (fun x => decide (w < x.2.1) && setWithin far x) with
    | none => .next s
    | some x => .next (s.moveWidth p x 0x080E)
  else .next s

/-- TRAIN_TIMEOUT (R195): a port has not reached IN_FRAME in time; it enters FAILED and keeps hunting. -/
def execTrainTimeout (p : Fin 16) (s : State) : Host.Outcome State Fault Refusal :=
  if s.inFrame p then .next s
  else .next (((s.setAlign p 4 0).portLog p 0x080F 0).raisePort PORT_INT_STATUS.TRAIN_FAIL p)

end Sys2Proof.Machine
end

