-- ==== Sys2Proof/Machine/Sched.lean ====
section
/-!
DEFINITION. Machine/Sched.lean: line scheduling and shapers (spec/13_queues_and_scheduling.md R361 to R364), and the writes
that arm and cancel gate lists and page swaps (R367, R188).
-/
namespace Sys2Proof.Machine
open Csr

/-- Tenants that have a shard waiting for a port, each once, ascending. -/
def State.portTenants (s : State) (p : Nat) : List Nat :=
  (List.range 256).filter (fun t => s.sched.shards.any (fun x => x.port == p && x.tenant == t))

/-- Whether a tenant's shaper lets it send: SHAPE_EN is 0, or its tokens are above zero (R363, R364). -/
def State.tenantShaped (s : State) (t : Nat) : Bool :=
  !s.on TENANT_CFG.SHAPE_EN t || decide (0 < toSigned 32 (s.get TENANT_BURST.TOKENS t))

/-- Index of a line queue's registers. -/
def State.lqIndex (s : State) (q : Nat) : Nat := q - s.lineBase

/-- Whether a line queue's shaper lets it send. -/
def State.queueShaped (s : State) (q : Nat) : Bool :=
  !s.on LQ_CFG.SHAPE_EN (s.lqIndex q) || decide (0 < toSigned 32 (s.get LQ_BURST.TOKENS (s.lqIndex q)))

/-- A tenant's control shard for a port, the first in order. -/
def State.controlShard (s : State) (p t : Nat) : Option LineShard :=
  s.sched.shards.find? (fun x => x.port == p && x.tenant == t && x.control)

/-- The next shard of a queue for a port: retransmissions first (R215), then in order. -/
def State.queueShard (s : State) (p q : Nat) : Option LineShard :=
  match s.sched.shards.find? (fun x => x.port == p && x.queue == q && !x.control && x.retransmit) with
  | some x => some x
  | none => s.sched.shards.find? (fun x => x.port == p && x.queue == q && !x.control)

/-- The line queues of a tenant backlogged on a port, ascending (R361). -/
def State.backlogged (s : State) (p t : Nat) : List Nat :=
  ((s.sched.shards.filter (fun x => x.port == p && x.tenant == t && !x.control)).map (·.queue)).dedup.mergeSort (· ≤ ·)

/-- The backlogged queues whose shapers have tokens. -/
def State.eligibleQueues (s : State) (p t : Nat) : List Nat := (s.backlogged p t).filter s.queueShaped

/-- Bytes buffered in a transmit yarn. -/
def State.yarnBytes (s : State) (p y : Nat) : Nat := ((s.port p).txBuf y).foldl (fun a x => a + x.bytes.length) 0

/-- The tenant's open yarn on a port with room for a shard and the fewest bytes buffered, the lower number on a tie (R361).
A yarn buffers two shards. -/
def State.yarnFor (s : State) (p t : Nat) : Option Nat :=
  leastBy (s.yarnBytes p) ((List.range 80).filter (fun y =>
    s.yarnOn p y && s.yarnTenant p y == t && s.gateOpen p y && decide (((s.port p).txBuf y).length < 2)))

/-- Whether a tenant is eligible on a port (R361). -/
def State.tenantEligible (s : State) (p t : Nat) : Bool :=
  (s.yarnFor p t).isSome && s.tenantShaped t && !(s.sched.tenantOut.contains t) &&
  ((s.controlShard p t).isSome || s.eligibleQueues p t != [])

/-- Start tag of a tenant on a port. -/
def State.tenantTag (s : State) (p t : Nat) : Nat := lookupD s.sched.tagTenant (p, t) 0
/-- Start tag of a queue on a port. -/
def State.queueTag (s : State) (p q : Nat) : Nat := lookupD s.sched.tagQueue (p, q) 0
/-- Virtual time of a tenant on a port. -/
def State.tenantVt (s : State) (p t : Nat) : Nat := lookupD s.sched.vtTenant (p, t) 0

/-- Charge a shard of `len` bytes to a tenant's tag and shaper (R362). -/
def State.chargeTenant (s : State) (p t len : Nat) : State :=
  let tag := (s.tenantTag p t + len * 2 ^ 16 / max 1 (s.get TENANT_CFG.WEIGHT t)) % 2 ^ 64
  let s := { s with sched := { s.sched with tagTenant := assocPut s.sched.tagTenant (p, t) tag } }
  s.set TENANT_BURST.TOKENS (ofSigned 32 (toSigned 32 (s.get TENANT_BURST.TOKENS t) - len)) t

/-- Charge a shard of `len` bytes to a queue's tag and shaper (R362). -/
def State.chargeQueue (s : State) (p t q len : Nat) : State :=
  let i := s.lqIndex q
  let vt := s.queueTag p q
  let tag := (vt + len * 2 ^ 16 / max 1 (s.get LQ_CFG.WEIGHT i)) % 2 ^ 64
  let s := { s with sched := { s.sched with
    vtTenant := assocPut s.sched.vtTenant (p, t) vt
    tagQueue := assocPut s.sched.tagQueue (p, q) tag } }
  s.set LQ_BURST.TOKENS (ofSigned 32 (toSigned 32 (s.get LQ_BURST.TOKENS i) - len)) i

/-- Hand a shard to a yarn of a port (R361): it leaves its line queue. -/
def State.toYarn (s : State) (p y : Nat) (x : LineShard) : State :=
  let lp := s.port p
  let s := { s with sched := { s.sched with shards := s.sched.shards.erase x } }
  let s := s.putPort p { lp with txYarn := assocPut lp.txYarn y (lp.txBuf y ++ [⟨x.bytes, false⟩]) }
  s.pmonEdge 0x0023 x.bytes.length { cls := 10, tenant := x.tenant }

/-- `serve` of R362 on a port: the eligible tenant of least tag, its control shard or the shard of its eligible queue of
least tag. Nothing is served while SCHED is not ready (R372). -/
def execSchedServe (p : Fin 16) (s : State) : Host.Outcome State Fault Refusal :=
  let p := p.val
  if !s.on SCHED_STATUS.READY ∨ p ∈ s.sched.portOut then .next s
  else
    match leastBy (s.tenantTag p) ((s.portTenants p).filter (s.tenantEligible p)) with
    | none => .next s
    | some t =>
      let y := (s.yarnFor p t).getD 0
      let s := s.set PORT_VT.VT (s.tenantTag p t) p
      match s.controlShard p t with
      | some x => .next ((s.toYarn p y x).chargeTenant p t x.bytes.length)
      | none =>
        match leastBy (s.queueTag p) (s.eligibleQueues p t) with
        | none => .next s
        | some q =>
          match s.queueShard p q with
          | none => .next s
          | some x => .next (((s.toYarn p y x).chargeQueue p t q x.bytes.length).chargeTenant p t x.bytes.length)

/-- A shard joins its line queue (R202, R361, R362): a queue with no shard for the port wakes at the tenant's virtual time,
and a tenant with no backlogged queue there wakes at the port's. A spare that does not stand in sends no shard (text after Table
GRP-2). -/
def State.lineEnqueue (s : State) (x : LineShard) : State :=
  if s.on GRP_CTRL.ROLE && decide (s.get GRP_STATUS.SHADOW_STATE < 3) then s else
  let wakesQ := !x.control && !(s.backlogged x.port x.tenant).contains x.queue
  let wakesT := !x.control && (s.backlogged x.port x.tenant).isEmpty
  let s := if wakesT then s.wakeTenant x.port x.tenant else s
  let s := if wakesQ then
      { s with sched := { s.sched with
        tagQueue := assocPut s.sched.tagQueue (x.port, x.queue) (s.tenantVt x.port x.tenant) } }
    else s
  { s with sched := { s.sched with shards := s.sched.shards ++ [x] } }

/-- The indices of the shapers of a register array whose SHAPE_EN is 1. -/
def State.shapersOn (s : State) (r : Reg) : List Nat :=
  s.csr.filterMap (fun e =>
    let d := e.1 - r.base
    if r.base ≤ e.1 ∧ d < r.n1 * r.s1 ∧ d % r.s1 = 0 ∧ e.2.getLsbD 16 then some (d / r.s1) else none)

/-- One shaper's refill (R364): tokens gain RATE bytes, at most BURST. -/
def State.refill (s : State) (rate burst tokens : Field) (i : Nat) : State :=
  let t := toSigned 32 (s.get tokens i) + s.get rate i
  s.set tokens (ofSigned 32 (min t (s.get burst i))) i

/-- SHAPER_REFILL (R364): at a 1,000 ns instant every enabled shaper refills with the RATE and BURST last written. -/
def execShaperRefill (s : State) : Host.Outcome State Fault Refusal :=
  let s := (s.shapersOn TENANT_CFG).foldl (fun s i => s.refill TENANT_CFG.RATE TENANT_BURST.BURST TENANT_BURST.TOKENS i) s
  .next ((s.shapersOn LQ_CFG).foldl (fun s i => s.refill LQ_CFG.RATE LQ_BURST.BURST LQ_BURST.TOKENS i) s)

/-- A shaper starts full when its SHAPE_EN goes from 0 to 1 (R363). -/
def State.shaperFull (s : State) (burst tokens : Field) (i : Nat) : State := s.set tokens (s.get burst i) i

/-- The gateway configures the LINE queues itself at SCHED enable, and takes them out of service at its disable (R348). -/
def State.lineQueues (s : State) (on : Bool) : State :=
  (List.range 2064).foldl (fun s i =>
    let q := s.lineBase + i
    ((s.set Q_CFG.KIND (b2n on) q).set Q_CFG.RING_LOC (b2n on) q).set Q_CFG.ENABLE (b2n on) q) s

/-- The schedulers as they start at cast-on, at restore and at SCHED enable: every tag and virtual time zero, every shaper
full, and the LINE queues configured (R348, R362, R363, R365). -/
def State.schedInit (s : State) : State :=
  let s := (List.range 16).foldl (fun s p => s.set PORT_VT.VT 0 p) s
  let s := (s.shapersOn TENANT_CFG).foldl (fun s i => s.shaperFull TENANT_BURST.BURST TENANT_BURST.TOKENS i) s
  let s := (s.shapersOn LQ_CFG).foldl (fun s i => s.shaperFull LQ_BURST.BURST LQ_BURST.TOKENS i) s
  { s with sched := { s.sched with tagTenant := [], tagQueue := [], vtTenant := [], buckets := [], badPolicer := [] } }

/-- What a write of GATE_CTRL.ARM does (R367): the standby list is loaded for BASE_TIME, or the arm is refused with 0x0303. -/
def State.gateArm (s : State) (p : Nat) : Except Nat State :=
  let standby := 1 - s.get GATE_CTRL.ACTIVE_LIST p
  let a := if standby = 0 then s.get LIST0_ADDR.ADDR p else s.get LIST1_ADDR.ADDR p
  let base := s.get BASE_TIME.TIME p
  match s.readGateList a with
  | none => .error 0x0303
  | some es =>
    if s.on GATE_CTRL.ARM p ∨ base < s.now + 100000 then .error 0x0303
    else
      .ok ({ s with sched := { s.sched with armedGate := assocPut s.sched.armedGate p ⟨es, base⟩ } }.set GATE_CTRL.ARM 1 p)

/-- What a write of GATE_CTRL.CANCEL does (R367): a pending switch is withdrawn before BASE_TIME. -/
def State.gateCancel (s : State) (p : Nat) : State :=
  match s.sched.armedGate.find? (fun g => g.1 == p) with
  | none => s
  | some (_, g) =>
    if s.now < g.base then
      (({ s with sched := { s.sched with armedGate := assocErase s.sched.armedGate p } }).set GATE_CTRL.ARM 0 p).gateReport
        p 0x0305
    else s

/-- What a write of PORT_CM_CTRL.SWAP_ARM does (R188). -/
def State.swapArm (s : State) (p : Nat) : Except Nat State :=
  if s.swapArmOk p then .ok (s.set PORT_CM_CTRL.SWAP_ARM 1 p) else .error 0x080B

/-- What a write of PORT_CM_CTRL.SWAP_CANCEL does (R188): a pending swap is withdrawn. -/
def State.swapCancel (s : State) (p : Nat) : State := s.set PORT_CM_CTRL.SWAP_ARM 0 p

end Sys2Proof.Machine
end

