-- ==== Sys2Proof/Machine/Flows.lean ====
section
/-!
DEFINITION. Machine/Flows.lean: jobs, peers and flows of the transport: which ports a sender uses, staging and retention
space, and the control messages of a flow (spec/08_long_haul_transport.md, R207 to R217, R221, R222).
-/
namespace Sys2Proof.Machine
open Csr

/-! ## Jobs and peers -/

/-- The enabled job entry that a JOB_ID names. -/
def State.entryOf (s : State) (job : Nat) : Option Nat :=
  if job = 0 then none else (List.range 128).find? (fun j => s.on JOB_CTRL.ENABLE j && s.get JOB_CTRL.JOB_ID j == job)

/-- The step record of a job entry. -/
def State.stepRec (s : State) (j : Nat) : StepRec := lookupD s.xport.jobs j {}

/-- Replace the step record of a job entry. -/
def State.putRec (s : State) (j : Nat) (r : StepRec) : State :=
  { s with xport := { s.xport with jobs := assocPut s.xport.jobs j r } }

/-- A flow: a job entry, 128 for the gateway-level flow, and a peer. -/
def State.flow (s : State) (j peer : Nat) : Flow := lookupD s.xport.flows (j, peer) {}

/-- Replace a flow. -/
def State.putFlow (s : State) (j peer : Nat) (f : Flow) : State :=
  { s with xport := { s.xport with flows := assocPut s.xport.flows (j, peer) f } }

/-- This site's ID. -/
def State.localSite (s : State) : Nat := s.get XPORT_CTRL.LOCAL_SITE

/-- The enabled peers (Table XPORT-12). -/
def State.peers (s : State) : List Nat := (List.range 16).filter (fun i => s.on PEER_CFG.ENABLE i)

/-- The enabled job entries. -/
def State.jobsOn (s : State) : List Nat := (List.range 128).filter (fun j => s.on JOB_CTRL.ENABLE j)

/-- JOB_ID of a flow's messages: 0 at gateway level. -/
def State.flowJob (s : State) (j : Nat) : Nat := if j = 128 then 0 else s.get JOB_CTRL.JOB_ID j

/-- Tenant of a flow: the job's, or the management tenant (R202). -/
def State.flowTenant (s : State) (j : Nat) : Nat :=
  if j = 128 then s.get XPORT_MGMT.MGMT_TENANT else s.get JOB_CTRL.TENANT_ID j

/-- Context that seals toward a peer; the receive context is 16 above (Tables XPORT-9 and XPORT-13). -/
def State.flowCtx (s : State) (j peer : Nat) : Nat :=
  (if j = 128 then s.get XPORT_MGMT.MGMT_CTX_BASE else s.get JOB_CTX.CTX_BASE j) + peer

/-- The line queue of a flow (R348). -/
def State.flowQueue (s : State) (j peer : Nat) : Nat := s.lineBase + (if j = 128 then 2048 + peer else 16 * j + peer)

/-- Whether a site is reachable for a job entry (R55); at gateway level every peer takes messages. -/
def State.reaches (s : State) (j peer : Nat) : Bool := j == 128 || (s.stepRec j).reachable.testBit peer

/-- Whether the transport takes new work (R497). -/
def State.xportReady (s : State) : Bool := s.on XPORT_STATUS.READY

/-- Log a transport fault and report it (Table XPORT-5). -/
def State.xportLog (s : State) (reason site port job : Nat) : State :=
  ((((s.set XPORT_ERR_LOG.REASON reason).set XPORT_ERR_LOG.SITE site).set XPORT_ERR_LOG.PORT port).set
    XPORT_ERR_LOG.JOB_ID job).report reason

/-! ## Ports (R207, R208) -/

/-- Ports DOWN or LATE in the peer's latest PORT_STATE. -/
def State.peerBad (s : State) (peer : Nat) : Nat := lookupD s.xport.peerBad peer 0

/-- Whether a port is in the usable set U for a peer (R207). -/
def State.portUsable (s : State) (peer p : Nat) : Bool :=
  s.portOn p && s.get PORT_STATUS.TX_WIDTH_NOW p == 0 && !s.on PORT_STATUS.FAR_DOWN p && !(s.peerBad peer).testBit p &&
  !(s.xport.farWait.any (fun x => x.1 == (peer, p)))

/-- The usable set U for a peer, ascending. -/
def State.usable (s : State) (peer : Nat) : List Nat := (List.range 16).filter (s.portUsable peer)

/-- The code of the next chunk toward a peer with `n` usable ports, or none where the flow stops (R208). -/
def State.codeFor (s : State) (n : Nat) : Option (Nat × Nat) :=
  let k := s.get XPORT_CODE.K
  let m := s.get XPORT_CODE.M
  if s.on XPORT_CODE.CODE_AUTO then
    let m' := min m (max (s.get XPORT_CODE.M_MIN) (n - k))
    let k' := min k (n - m')
    if k' < 1 then none else some (k', m')
  else if n < k + m then none else some (k, m)

/-- Whether the receiver can carry a codeword over a port from a peer: DOWN by R209 where it cannot. -/
def State.rxPortUp (s : State) (p : Nat) : Bool :=
  s.portOn p && s.inFrame p && s.get PORT_STATUS.RX_WIDTH p == 0

/-! ## Space: staging and retention -/

/-- The lowest offset below `limit` at which `len` bytes overlap no used range (log entry 24). -/
def firstFit (used : List (Nat × Nat)) (len limit : Nat) : Option Nat :=
  let starts := 0 :: used.map (fun u => u.1 + u.2)
  leastBy id (starts.filter (fun a =>
    decide (a + len ≤ limit) && used.all (fun u => decide (a + len ≤ u.1 ∨ u.1 + u.2 ≤ a))))

/-- First address of the staging area: the top SW_SRAM_MIB MiB of SRAM (text after Table MEM-1). -/
def State.stageBase (s : State) : Nat := 0x200000000 - 2 ^ 20 * s.get XPORT_SW.SW_SRAM_MIB

/-- Bytes of shards staged of open codewords, spilled or not. -/
def State.openBytes (s : State) (spilled : Bool) : Nat :=
  (s.xport.flows.flatMap (fun f => f.2.openCws)).foldl
    (fun a c => if c.spilled = spilled then a + 8192 * c.shards.length else a) 0

/-- Bytes decoded and waiting for reassembly. -/
def State.readyBytes (s : State) : Nat :=
  s.xport.flows.foldl (fun a f =>
    a + f.2.ready.foldl (fun a r => a + r.2.length) 0 + (match f.2.part with | none => 0 | some p => p.2.length)) 0

/-- The ranges of staging in use by messages, as offsets. -/
def State.stageUsed (s : State) : List (Nat × Nat) :=
  let off (a : Nat) : Nat := a - s.stageBase
  let mine := s.xport.sealed.filter (fun c => decide (s.stageBase ≤ c.hdr ∧ c.hdr < 0x200000000))
  mine.map (fun c => (off c.hdr, 80 + s.readLe (c.hdr + 24) 4)) ++
  s.xport.rxChunks.map (fun c => (off c.addr, c.len)) ++ s.xport.ctrlIn.map (fun c => (off c.addr, c.len)) ++
  ((s.xport.flows.flatMap (fun f => f.2.ctrlOut)).filter (fun c => c.addr ≠ 0)).map (fun c => (off c.addr, 64 + max 16 c.body.length))

/-- Take `len` bytes of staging. -/
def State.stageAlloc (s : State) (len : Nat) : Option Nat :=
  (firstFit s.stageUsed len (2 ^ 20 * s.get XPORT_SW.SW_SRAM_MIB)).map (· + s.stageBase)

/-- First address of a region by number. -/
def State.regionBase (s : State) (r : Nat) : Nat := ((s.regions.find? (fun x => x.1 == r)).map (·.2.1)).getD 0

/-- Take `len` bytes of the retention region, within RETAIN_LIMIT_GIB (R221). -/
def State.retainAlloc (s : State) (len : Nat) : Option Nat :=
  let used := s.xport.retained.map (fun r => (r.addr - s.regionBase 2, r.len))
  if used.foldl (fun a u => a + u.2) 0 + len ≤ 2 ^ 30 * s.get XPORT_RETAIN.LIMIT_GIB then
    (firstFit used len (2 ^ 30 * s.get MEM_REGION0.RETAIN_GIB)).map (· + s.regionBase 2)
  else none

/-- MiB that cover a number of bytes. -/
def mib (n : Nat) : Nat := ceilDiv n (2 ^ 20)

/-- XPORT_USAGE and XPORT_PEAK as they follow from what is held. -/
def State.usageUpdate (s : State) : State :=
  let r := mib (s.xport.retained.foldl (fun a x => a + x.len) 0)
  let sp := mib (s.openBytes true)
  let st := mib (s.openBytes false + s.readyBytes + s.stageUsed.foldl (fun a u => a + u.2) 0)
  let s := ((s.set XPORT_USAGE.RETAIN_MIB r).set XPORT_USAGE.SPILL_MIB sp).set XPORT_USAGE.STAGE_MIB st
  (s.set XPORT_PEAK.RETAIN_PEAK_MIB (max r (s.get XPORT_PEAK.RETAIN_PEAK_MIB))).set XPORT_PEAK.SPILL_PEAK_MIB
    (max sp (s.get XPORT_PEAK.SPILL_PEAK_MIB))

/-! ## Windows (R222) -/

/-- Unacknowledged chunk-message bytes toward a peer. -/
def State.inflight (s : State) (peer : Nat) : Nat :=
  (s.xport.retained.filter (fun r => r.peer == peer && !r.acked)).foldl (fun a r => a + r.len) 0

/-- RTT toward a peer in ns: 100 ms until a sample has arrived (Table XPORT-4). -/
def State.rtt (s : State) (peer : Nat) : Nat :=
  if peer ∈ s.xport.rttKnown then s.get PEER_RTT.RTT_NS peer else 100000000

/-- The automatic window: WIN_FACTOR × 2.8 TB/s × RTT (R222). -/
def State.autoWindow (s : State) (peer : Nat) : Nat := s.get XPORT_TIMERS.WIN_FACTOR * 2800 * s.rtt peer / 256

/-- The configured window in bytes, automatic ones scaled down together to RETAIN_LIMIT_GIB (R222). -/
def State.windowBytes (s : State) (peer : Nat) : Nat :=
  let w := s.get PEER_CFG.WINDOW_MIB peer
  if w ≠ 0 then 2 ^ 20 * w
  else
    let total := (s.peers.filter (fun p => s.get PEER_CFG.WINDOW_MIB p == 0)).foldl (fun a p => a + s.autoWindow p) 0
    let limit := 2 ^ 30 * s.get XPORT_RETAIN.LIMIT_GIB
    if total > limit then s.autoWindow peer * limit / total else s.autoWindow peer

/-- The smallest RX_CREDIT_MIB among a peer's flows, none before any. -/
def State.creditMin (s : State) (peer : Nat) : Option Nat :=
  leastBy id ((s.xport.flows.filter (fun f => f.1.2 == peer)).filterMap (fun f => f.2.credit))

/-- The window in force toward a peer (R222). -/
def State.windowNow (s : State) (peer : Nat) : Nat :=
  match s.creditMin peer with
  | none => s.windowBytes peer
  | some c => min (s.windowBytes peer) (2 ^ 20 * c)

/-- The peer's registers that follow from the flows: U, the window in force, the bytes in flight and the credit. -/
def State.peerUpdate (s : State) (peer : Nat) : State :=
  let s := s.set PEER_STATUS.USABLE_TX (maskOf (s.usable peer)) peer
  let s := s.set PEER_RTT.WINDOW_NOW_MIB (s.windowNow peer / 2 ^ 20) peer
  let s := s.set PEER_FLIGHT.INFLIGHT_MIB (mib (s.inflight peer)) peer
  s.set PEER_FLIGHT.CREDIT_MIB ((s.creditMin peer).getD 0) peer

/-! ## Control messages (R216) -/

/-- The control shard of a message before it is sealed: header, then CTYPE, FLAGS, nonce, message and tag. -/
def State.controlShardBytes (s : State) (j peer seq ctype : Nat) (msg : Bytes) : Bytes :=
  let h := [0xC3, 0x5A, 0x21, 0, 0] ++ le 1 (s.localSite + 16 * peer) ++ le 1 (s.get XPORT_CTRL.GROUP_POS) ++
    le 1 (s.flowTenant j) ++ le 2 (s.flowJob j) ++ le 2 (32 + msg.length) ++ le 4 seq ++ zeros 16
  h ++ le 1 ctype ++ zeros 15 ++ msg ++ zeros 16

/-- Place a control message's shard in staging, to be sealed. -/
def State.placeControl (s : State) (j peer : Nat) (c : CtrlOut) : State :=
  match s.stageAlloc (64 + c.body.length) with
  | none => s.putFlow j peer { s.flow j peer with ctrlOut := (s.flow j peer).ctrlOut ++ [{ c with addr := 0, waiting := false }] }
  | some a =>
    let s := s.writeBytes a (s.controlShardBytes j peer c.seq c.ctype c.body)
    s.putFlow j peer { s.flow j peer with ctrlOut := (s.flow j peer).ctrlOut ++ [{ c with addr := a, waiting := true }] }

/-- Send a control message on a flow (R216): it takes the next control sequence, and waits to be sealed. ACK and KEEPALIVE
take counts of their own. A message is padded with zeros to 16 bytes. -/
def State.sendControl (s : State) (j peer ctype : Nat) (msg : Bytes) (port : Option Nat := none) : State :=
  let f := s.flow j peer
  let body := msg ++ zeros (16 - msg.length)
  if ctype = 1 then
    (s.putFlow j peer { f with ackCount := f.ackCount + 1 }).placeControl j peer ⟨f.ackCount, 1, body, none, true, true, 0⟩
  else if ctype = 7 then
    (s.putFlow j peer { f with keepCount := f.keepCount + 1 }).placeControl j peer ⟨f.keepCount, 7, body, port, true, true, 0⟩
  else
    (s.putFlow j peer { f with ctrlNext := (f.ctrlNext + 1) % 2 ^ 32 }).placeControl j peer
      ⟨f.ctrlNext, ctype, body, none, false, true, 0⟩

/-- A control shard with its body sealed: BODY_CRC and HDR_CRC formed (Table XPORT-2). -/
def finishShard (b : Bytes) : Bytes :=
  let h := b.take 24 ++ le 4 (crc32c (b.drop 32))
  h ++ le 4 (crc32c h) ++ b.drop 32

/-- A sealed control shard joins the line queue of its flow, on the two lowest ports of U, or a KEEPALIVE on its port
(R216). -/
def State.controlSealed (s : State) (addr len : Nat) : State :=
  match s.xport.flows.find? (fun f => f.2.ctrlOut.any (fun c => c.addr == addr && c.waiting)) with
  | none => s
  | some ((j, peer), f) =>
    match f.ctrlOut.find? (fun c => c.addr == addr && c.waiting) with
    | none => s
    | some c =>
      let b := finishShard (s.readBytes addr len)
      let ports := match c.port with
        | some p => [p]
        | none => (s.usable peer).take 2
      let out := if c.own then f.ctrlOut.erase c else f.ctrlOut.map (fun x => if x = c then { c with waiting := false } else x)
      let s := s.putFlow j peer { f with ctrlOut := out }
      ports.foldl (fun s p => s.lineEnqueue ⟨p, s.flowQueue j peer, s.flowTenant j, true, false, b⟩) s

/-! ## Acknowledgements (R217) -/

/-- NACK entries of codewords in a row with one HAVE mask: CW_SEQ, COUNT, HAVE (Table XPORT-4). -/
def mergeNacks : List (Nat × Nat) → List (Nat × Nat × Nat)
  | [] => []
  | (cw, have') :: r =>
    match mergeNacks r with
    | (c, n, h) :: rest =>
      if c = (cw + 1) % 2 ^ 32 ∧ h = have' ∧ n < 0xFFFF then (cw, n + 1, h) :: rest else (cw, 1, have') :: (c, n, h) :: rest
    | [] => [(cw, 1, have')]

/-- RX_CREDIT_MIB of a job flow: what is free of staging and of the spill limit (Table XPORT-4; log entry 31). -/
def State.rxCredit (s : State) : Nat :=
  let staged := s.openBytes false + s.readyBytes + s.stageUsed.foldl (fun a u => a + u.2) 0
  (2 ^ 20 * s.get XPORT_SW.SW_SRAM_MIB - staged + (2 ^ 30 * s.get XPORT_RETAIN.SPILL_LIMIT_GIB - s.openBytes true)) / 2 ^ 20

/-- Send an ACK on a flow (R217, Table XPORT-4): up to 16 NACK entries and 64 chunks, and what is left stays pending. A
shadowed gateway names no more than its last acknowledged FLOW message did (R463). -/
def State.sendAck (s : State) (j peer : Nat) : State :=
  let f := s.flow j peer
  let ns := (mergeNacks f.nacks).take 16
  let cs := f.acks.take 64
  let (tx, held) := match f.newest with
    | none => (0, 0)
    | some (t, a) => (t, s.mono - a)
  let job := j != 128
  let (cumAck, ctrlAck) := lookupD s.grp.flowAcked (j, peer) (0, 0)
  let cum := if s.grp.shadowed then min f.cum cumAck else f.cum
  let ctrl := if s.grp.shadowed then min f.ctrlCum ctrlAck else f.ctrlCum
  let body := le 4 (if job then cum else 0) ++ le 4 ctrl ++ le 4 (if job then s.rxCredit else 0) ++ le 4 tx ++ le 4 held ++
    le 1 ns.length ++ le 1 cs.length ++ zeros 2 ++ ns.flatMap (fun n => le 4 n.1 ++ le 2 n.2.1 ++ le 2 n.2.2) ++
    cs.flatMap (fun c => le 4 c.1 ++ le 4 c.2)
  let s := s.putFlow j peer { f with
    nacks := f.nacks.drop (ns.foldl (fun a n => a + n.2.1) 0), acks := f.acks.drop 64, advanced := false }
  s.sendControl j peer 1 body

/-- An ACK is sent at once when 16 NACK entries or 64 chunk entries are pending (R217). -/
def State.ackIfFull (s : State) (j peer : Nat) : State :=
  let f := s.flow j peer
  if (mergeNacks f.nacks).length ≥ 16 ∨ f.acks.length ≥ 64 then s.sendAck j peer else s

/-- Acknowledge a chunk in the flow's next ACK (R219). -/
def State.ackNow (s : State) (j site step chunk : Nat) : State :=
  let f := s.flow j site
  let s := s.putFlow j site { f with acks := addOnce f.acks (step, chunk) }
  let s := { s with xport := { s.xport with rxChunks := s.xport.rxChunks.map (fun (c : RxChunk) =>
      if c.entry == j && c.site == site && c.step == step && c.chunk == chunk then { c with acked := true } else c) } }
  s.ackIfFull j site

/-- A chunk is due to be acknowledged; while a spare shadows this gateway, one that was mirrored waits for its MIRROR_ACK
(R463). -/
def State.ackChunk (s : State) (j site step chunk : Nat) : State :=
  let mine (x : MirrorItem) : Bool := x.job == s.flowJob j && x.step == step && x.chunk == chunk && x.site == site
  match s.grp.items.find? mine with
  | none => s.ackNow j site step chunk
  | some x =>
    let left := if x.done then s.grp.items.erase x
      else s.grp.items.map (fun y => if y = x then { x with ackTo := some (j, site) } else y)
    let s := { s with grp := { s.grp with items := left } }
    if x.done then s.ackNow j site step chunk else s

/-! ## Port classes at the receiver (R209, R211) -/

/-- Ports DOWN or LATE for a peer. -/
def State.badPorts (s : State) (peer : Nat) : Nat := s.get PEER_STATUS.DOWN_RX peer ||| s.get PEER_STATUS.LATE_RX peer

/-- Add a NACK of a codeword to the flow's next ACK (R211, Table XPORT-5). -/
def State.nack (s : State) (j peer cw : Nat) : State :=
  let f := s.flow j peer
  match f.openCws.find? (fun c => c.seq == cw) with
  | none => s
  | some c =>
    let s := s.addSat XPORT_RETX_COUNT.NACKED 1
    (s.putFlow j peer { f with
      openCws := f.openCws.map (fun x => if x = c then { c with nacked := true } else x)
      nacks := f.nacks ++ [(cw, maskOf (c.shards.map (·.1)))] }).ackIfFull j peer

/-- The first way of R211: a codeword whose missing shards do not exceed the peer's bad ports is discarded at once and
NACKed with HAVE = 0. It is applied to a codeword once (log entry 25). -/
def State.shortTest (s : State) (j peer cw : Nat) : State :=
  let f := s.flow j peer
  match f.openCws.find? (fun c => c.seq == cw) with
  | none => s
  | some c =>
    if c.k = 0 ∨ c.cut ∨ c.k + c.m - c.seen.length > (bitsOf (s.badPorts peer) 16).length then s
    else
      (s.putFlow j peer { f with openCws := f.openCws.map (fun x => if x = c then { c with shards := [], cut := true } else x) }).nack
        j peer cw

/-- The delays and skews measured of a peer's port. -/
def State.portDelay (s : State) (peer p : Nat) : PortDelay := lookupD s.xport.ports (peer, p) {}

/-- Average of a list of measurements, toward minus infinity. -/
def average (l : List Int) : Int := if l.isEmpty then 0 else l.foldl (· + ·) 0 / l.length

/-- A port's skew for a peer, averaged (R223). -/
def State.skewOf (s : State) (peer p : Nat) : Nat := (average (s.portDelay peer p).skews).toNat

/-- Send PORT_STATE to a peer (Table XPORT-3), with PEER_SKEW set to the largest skew. -/
def State.sendPortState (s : State) (peer : Nat) : State :=
  let sk := (List.range 16).map (fun p => min (s.skewOf peer p) (2 ^ 32 - 1))
  let worst := (bestBy (fun p => sk.getD p 0) (List.range 16)).getD 0
  let s := (s.set PEER_SKEW.SKEW_NS (sk.getD worst 0) peer).set PEER_SKEW.PORT worst peer
  s.sendControl 128 peer 8 (le 2 (s.get PEER_STATUS.DOWN_RX peer) ++ le 2 (s.get PEER_STATUS.LATE_RX peer) ++ sk.flatMap (le 4))

/-- A port's class for a peer changes (R209): 0 OK, 1 LATE, 2 DOWN. It is reported, PORT_STATE is sent and the open codewords
are tested again (R211). -/
def State.setPortClass (s : State) (peer p cls : Nat) : State :=
  let now := if (s.get PEER_STATUS.DOWN_RX peer).testBit p then 2 else if (s.get PEER_STATUS.LATE_RX peer).testBit p then 1 else 0
  if now = cls then s
  else
    let s := s.set PEER_STATUS.DOWN_RX (setBit (s.get PEER_STATUS.DOWN_RX peer) p (cls == 2)) peer
    let s := s.set PEER_STATUS.LATE_RX (setBit (s.get PEER_STATUS.LATE_RX peer) p (cls == 1)) peer
    let s := (s.xportLog (if cls = 0 then 0x091C else if cls = 1 then 0x091A else 0x091B) peer p 0).raise
      XPORT_INT_STATUS.PORT_CLASS
    let d := s.portDelay peer p
    let s := { s with xport := { s.xport with ports := assocPut s.xport.ports (peer, p) { d with lateRun := 0 } } }
    let s := s.sendPortState peer
    (s.xport.flows.filter (fun f => f.1.2 == peer)).foldl (fun s f =>
      f.2.openCws.foldl (fun s c => s.shortTest f.1.1 peer c.seq) s) s

/-- Classes of a port for every peer after its line state changed (R209), and U of each peer. -/
def State.reclassPort (s : State) (p : Nat) : State :=
  if s.xportReady then
    s.peers.foldl (fun s peer =>
      let down := (s.get PEER_STATUS.DOWN_RX peer).testBit p
      if !s.rxPortUp p then s.setPortClass peer p 2
      else if down then s.setPortClass peer p 0
      else s) s
  else s

end Sys2Proof.Machine
end

