-- ==== Sys2Proof/Machine/Steps.lean ====
section
/-!
DEFINITION. Machine/Steps.lean: the outer step: the step record and its transitions, step descriptors, stalls, partition and
rejoin, the frog, and poison notices as the step takes them (spec/02_outer_step.md, and R497, R498, R135 to R138).
-/
namespace Sys2Proof.Machine
open Csr

/-! ## Chunk IDs and ownership (Table STEP-2, R45) -/

/-- ROUND of a chunk ID. -/
def chunkRound (c : Nat) : Nat := getBits c 30 2
/-- KIND of a chunk ID: 1 for a reduced result. -/
def chunkKind (c : Nat) : Nat := getBits c 29 1
/-- INDEX of a chunk ID. -/
def chunkIndex (c : Nat) : Nat := getBits c 0 29
/-- A chunk ID. -/
def chunkId (round kind index : Nat) : Nat := round * 2 ^ 30 + kind * 2 ^ 29 + index % 2 ^ 29

/-- The members of a step, ascending by site. -/
def StepRec.memberList (r : StepRec) : List Nat := bitsOf r.members 16

/-- The owner of a chunk INDEX: the member at ordinal c mod S (R45). -/
def StepRec.owner (r : StepRec) (index : Nat) : Nat :=
  let m := r.memberList
  if m.length = 0 then 0 else m.getD (index % m.length) 0

/-- A field of JOB_PARAM0 or JOB_PARAM1 as the present step holds it (R51). -/
def StepRec.par (r : StepRec) (f : Field) : Nat := getBits (if f.reg.base = JOB_PARAM0.base then r.param0 else r.param1) f.lo f.w

/-- Round in progress by state. -/
def StepRec.round (r : StepRec) : Nat :=
  match r.state with
  | 0x11 => 2
  | 0x13 => 3
  | 6 => 1
  | 7 => 1
  | n => if 8 ≤ n ∧ n ≤ 0x0B ∧ r.chunks2 ≠ 0 then 1 else 0

/-- Chunks of a round. -/
def StepRec.chunks (r : StepRec) (round : Nat) : Nat := if round = 0 then r.chunks1 else if round = 1 then r.chunks2 else 0

/-- Reduced chunks of a round held by this member. -/
def StepRec.heldIn (r : StepRec) (round : Nat) : Nat := (r.held.filter (fun c => chunkRound c == round)).length

/-! ## The record and its mirror (Table STEP-4, R49) -/

/-- FLAGS of the step record. -/
def StepRec.flags (r : StepRec) : Nat :=
  b2n (r.par JOB_PARAM0.RANK != 0) + 2 * r.par JOB_PARAM0.OPTIMISER + 4 * b2n r.firstUse + 8 * b2n r.stalled +
  16 * b2n r.frogActive + 32 * b2n r.cleanWait + 64 * b2n r.partitioned

/-- The 128 bytes of a step record, `now` by the ticks of the time clock (R375). -/
def StepRec.bytes (r : StepRec) (job site pos tenant now : Nat) : Bytes :=
  le 2 job ++ le 1 site ++ le 1 pos ++ le 4 r.step ++ le 1 r.state ++ le 1 r.flags ++ le 1 r.policy ++ le 1 r.frog ++
  le 2 r.members ++ le 2 r.reachable ++ le 2 r.stalledSites ++ le 2 r.reason ++ le 2 (r.par JOB_PARAM0.RANK) ++ le 1 tenant ++
  zeros 1 ++ le 4 r.chunks1 ++ le 4 r.chunks2 ++ le 4 (r.heldIn r.round) ++ le 4 r.lastCommon ++ le 4 r.partitionStep ++
  le 4 r.tState ++ le 4 (min ((now - r.tOpen) / 1000000) (2 ^ 32 - 1)) ++ le 4 (min r.stallMs (2 ^ 32 - 1)) ++ le 8 r.sent ++
  le 8 r.received ++ r.stale.flatMap (fun x => le 1 (min x 255)) ++ zeros 36 ++ le 4 r.updateSeq

/-- Bit s of XPORT_STATUS.REACHABLE: some enabled job that names site s holds it reachable (R55). -/
def State.reachUpdate (s : State) : State :=
  s.set XPORT_STATUS.REACHABLE (s.jobsOn.foldl (fun a j => a ||| ((s.stepRec j).reachable &&& s.get JOB_CTRL.SITES j)) 0)

/-- Store a step record, write its mirror with UPDATE_SEQ last, and raise the step-event source (R49). -/
def State.saveRec (s : State) (j : Nat) (r : StepRec) : State :=
  let r := { r with updateSeq := (r.updateSeq + 1) % 2 ^ 32 }
  let s := s.putRec j r
  let s := ((s.set JOB_STATUS.STATE r.state j).set JOB_STATUS.PARTITIONED (b2n r.partitioned) j).set JOB_STATUS.REASON r.reason j
  let b := r.bytes (s.get JOB_CTRL.JOB_ID j) s.localSite (s.get XPORT_CTRL.GROUP_POS) (s.get JOB_CTRL.TENANT_ID j) s.mono
  let a := hostBase + s.get JOB_MIRROR.ADDR j * 128
  (((s.hostWrite a (b.take 124)).hostWrite (a + 124) (b.drop 124)).reachUpdate).event (1024 + j)

/-- Enter a state: T_STATE is stamped and the mirror written. Time spent in INGEST, LOCAL_2, UPDATE and RETURN is work (R467). -/
def State.enter (s : State) (j st : Nat) (r : StepRec) : State :=
  let was := (s.stepRec j).state
  let work := if was ∈ [2, 5, 8, 9] ∧ st ≠ 1 then r.workNs + (s.mono - (s.stepRec j).enteredAt) else r.workNs
  s.saveRec j { r with state := st, tState := s.stamp, workNs := work, enteredAt := s.mono }

/-- Record a reason of the step and report it. -/
def State.stepReason (s : State) (r : StepRec) (reason : Nat) : StepRec × State := ({ r with reason := reason }, s.report reason)

/-! ## The tensor map (R35 to R37) -/

/-- A tensor-map entry: rows, columns, ingest format, whether it is projected. -/
structure TensorEntry where
  rows : Nat
  cols : Nat
  fmt : Nat
  projected : Bool

/-- Entry `i` of a job's tensor map. -/
def State.tensor (s : State) (j i : Nat) : TensorEntry :=
  let b := s.readBytes (s.get JOB_TMAP.ADDR j * 64 + 16 * i) 16
  ⟨fieldAt b 0 4, fieldAt b 4 4, fieldAt b 8 1 % 16, (fieldAt b 8 1).testBit 4⟩

/-- A job's tensor map. -/
def State.tensors (s : State) (j : Nat) : List TensorEntry := (List.range (s.get JOB_CTX.TMAP_ENTRIES j)).map (s.tensor j)

/-- Bytes of a round's element stream: factors in BF16, dense tensors in their ingest format in round 1 (R35, Table STEP-3;
log entry 26). -/
def roundBytes (ts : List TensorEntry) (rank round : Nat) : Nat :=
  ts.foldl (fun a t =>
    let proj := t.projected && rank != 0
    a + if round = 0 then (if proj then t.rows * rank * 2 else t.rows * t.cols * fmtBytes t.fmt)
      else if proj then t.cols * rank * 2 else 0) 0

/-- Chunks of a round: ranges of at most 16 MiB (R35). -/
def roundChunks (ts : List TensorEntry) (rank round : Nat) : Nat := ceilDiv (roundBytes ts rank round) (2 ^ 24)

/-- The job fingerprint (R37). -/
def State.fingerprint (s : State) (j : Nat) : Nat :=
  (Config.fingerprint (s.readBytes (s.get JOB_TMAP.ADDR j * 64) (16 * s.get JOB_CTX.TMAP_ENTRIES j)) (s.get JOB_PARAM0.RANK j)
    (s.get JOB_PARAM0.BED_FORMAT j) (s.get JOB_SEED.SEED j) (s.get JOB_PARAM0.POLICY j)).toNat

/-! ## Slots and retention that a replay discards -/

/-- Discard the reduction slots of a step from a round on, with their held terms (R138). -/
def State.dropSlots (s : State) (job step round : Nat) : State :=
  let keep := s.stch.slots.filter (fun x => !(x.job == job && x.step == step && decide (chunkRound x.chunk ≥ round)))
  let s := { s with stch := { s.stch with slots := keep } }
  let n := (keep.filter (fun x => !x.done)).length
  (s.set STCH_SLOT_STATUS.OPEN n).set STCH_STATUS.BUSY (b2n (n != 0))

/-- Release the retention copies that a predicate names (R221). -/
def State.releaseRetained (s : State) (p : Retained → Bool) : State :=
  let s := { s with xport := { s.xport with
    retained := s.xport.retained.filter (fun r => !p r)
    heldFlows := [] } }
  s.usageUpdate

/-- The step record with everything of a round and later rounds discarded. -/
def StepRec.dropRound (r : StepRec) (round : Nat) : StepRec :=
  let keep (l : List Nat) : List Nat := l.filter (fun c => decide (chunkRound c < round))
  { r with held := keep r.held, clean := keep r.clean, reduced := keep r.reduced, cleanWait := false }

/-- A rerun of the step from SCATTER_1 with new members (Table STEP-7). Retention of the abandoned run toward unreachable
sites is released (R226). -/
def State.rerunStep (s : State) (j members : Nat) (r : StepRec) : State :=
  let job := s.get JOB_CTRL.JOB_ID j
  let s := s.dropSlots job r.step 0
  let s := s.releaseRetained (fun x => x.entry == j && x.step == r.step && !r.reachable.testBit x.peer)
  let s := { s with xport := { s.xport with
    owed := s.xport.owed.filter (fun o => !(o.entry == j && o.step == r.step))
    rxChunks := s.xport.rxChunks.filter (fun o => !(o.entry == j && o.step == r.step)) } }
  s.enter j 3 { r.dropRound 0 with members := members }

/-- A frog of a round, 0 or 1 (R62): the round is discarded with everything derived from it, the sources produce its chunks
again under the new frog count, and the step returns to the round's SCATTER state. -/
def State.launchFrog (s : State) (j round : Nat) (r : StepRec) : State :=
  let s := s.dropSlots (s.get JOB_CTRL.JOB_ID j) r.step round
  let mine := s.xport.retained.filter (fun x => x.entry == j && x.step == r.step && chunkKind x.chunk == 0 &&
    decide (chunkRound x.chunk ≥ round ∧ chunkRound x.chunk < 2))
  let s := { s with xport := { s.xport with
    again := mine.foldl (fun (l : List (Nat × Nat × Nat × Nat)) (x : Retained) => addOnce l (j, x.peer, x.chunk, 0)) s.xport.again
    owed := s.xport.owed.filter (fun o => !(o.entry == j && o.step == r.step && decide (chunkRound o.chunk ≥ round)))
    rxChunks := s.xport.rxChunks.filter (fun o => !(o.entry == j && o.step == r.step && decide (chunkRound o.chunk ≥ round))) } }
  s.enter j (if round = 0 then 3 else 6) { r.dropRound round with frog := r.frog + 1, frogActive := true }

/-- Enter HELD, remembering the state (Table STEP-5). -/
def State.hold (s : State) (j : Nat) (r : StepRec) : State :=
  if r.state = 0x10 then s.saveRec j r else s.enter j 0x10 { r with heldFrom := r.state }

/-- Whether a state is from OPEN to GATHER_2. -/
def beforeUpdate (st : Nat) : Bool := decide (1 ≤ st ∧ st ≤ 7)

/-! ## Partition (R55 to R57, Table STEP-7) -/

/-- Number of sites in a mask. -/
def siteCount (m : Nat) : Nat := (bitsOf m 16).length

/-- The first two rows of Table STEP-7 for a step in a state from OPEN to GATHER_2 or HELD whose reachable members are fewer
than its members. -/
def State.partition (s : State) (j : Nat) (r : StepRec) : State :=
  let side := r.members &&& r.reachable
  let (r, s) := s.stepReason r 0x0904
  let r := { r with partitioned := true, partitionStep := if r.partitioned && r.partitionStep != 0 then r.partitionStep else r.step }
  if r.policy = 1 ∨ siteCount side < r.par JOB_PARAM0.QUORUM_MIN then s.hold j r
  else if r.state = 1 ∨ r.state = 2 then s.saveRec j { r with members := side }
  else s.rerunStep j side r

/-- PARTITION_DETECT (R55 to R57): a site of a job goes PART_DETECT without contact and becomes unreachable. -/
def execPartitionDetect (j : Fin 128) (site : Fin 16) (s : State) : Host.Outcome State Fault Refusal :=
  let r := s.stepRec j
  let heard := s.xport.contact.any (fun c => c.1 == site.val && decide (s.mono < c.2 + 1000000 * r.par JOB_PARAM1.PART_DETECT_MS))
  if !s.on JOB_CTRL.ENABLE j || !r.reachable.testBit site || site.val == s.localSite || heard then .next s
  else
    let r := { r with reachable := setBit r.reachable site false }
    let s := s.raise XPORT_INT_STATUS.REACH
    let member := r.members.testBit site
    if member && (beforeUpdate r.state || r.state == 0x10) then .next (s.partition j r)
    else if member && decide (8 ≤ r.state ∧ r.state ≤ 0x0A) then
      let (r, s) := s.stepReason r 0x0904
      .next (s.saveRec j { r with partitioned := true, partitionStep := r.step + 1 })
    else if r.state = 0x11 then
      let (r, s) := s.stepReason r 0x0904
      if r.heldFrom = 0x0B then .next (s.enter j 0x0B { r with partitioned := true })
      else .next (s.enter j 0x10 { r with partitioned := true, heldFrom := 0x11 })
    else .next (s.saveRec j r)

/-! ## Opening a step (R33, R39, R42, R51, R57) -/

/-- The step an OPEN descriptor may name: the last opened plus 1, or the one that ROLLBACK or MERGE allows (R33). -/
def StepRec.mayOpen (r : StepRec) (step : Nat) : Bool :=
  (step == r.lastOpened + 1 && decide (r.lastOpened < 2 ^ 32 - 1)) || (step == r.allowStep && r.allowStep != 0)

/-- Open a step (Table STEP-5): the job's parameters are taken (R51), the record is cleared for the step, and the first two
rows of Table STEP-7 apply to sites that are unreachable (R57). -/
def State.openStep (s : State) (j step : Nat) (fresh : Bool) : State :=
  let r := s.stepRec j
  let p0 := (s.rdReg JOB_PARAM0 j).toNat
  let rank := getBits p0 0 10
  let ts := s.tensors j
  let sites := s.get JOB_CTRL.SITES j
  let r' : StepRec := {
    step := step, members := r.nextMembers.getD sites, reachable := r.reachable
    firstUse := fresh || r.fresh
    partitioned := r.partitioned, partitionStep := r.partitionStep
    reason := r.reason, chunks1 := roundChunks ts rank 0, chunks2 := roundChunks ts rank 1
    lastCommon := r.lastCommon, tOpen := s.mono, stale := r.stale, updateSeq := r.updateSeq
    param0 := p0, param1 := (s.rdReg JOB_PARAM1 j).toNat, policy := getBits p0 12 2
    heldOpens := r.heldOpens, lastOpened := step, stepped := r.stepped, rejoins := r.rejoins, rejoinDue := r.rejoinDue
    fresh := false }
  let s := s.set JOB_STATUS.FINGERPRINT (s.fingerprint j) j
  let s := s.enter j 1 r'
  let r := s.stepRec j
  if r.members &&& r.reachable = r.members then s else s.partition j r

/-! ## Step descriptors (R497, R498, Tables XPORT-15 and XPORT-16) -/

/-- Rule 1 of R498 as far as it concerns the body alone. -/
def stepBodyOk (w : Work) : Bool :=
  let op := w.body 0 1
  decide (1 ≤ op ∧ op ≤ 6) &&
  (if op = 3 then decide (w.body 1 1 ≤ 1) else w.body 1 1 == 0) &&
  (if op = 6 then decide (w.body 2 1 ≤ 15) else w.body 2 1 == 0) && w.body 3 1 == 0 &&
  (op == 2 || w.body 4 2 == 0) && w.body 6 2 == 0 && (op == 6 || w.body 8 4 == 0) && w.body 12 52 == 0

/-- R497 and rules 1 and 2 of R498: the reason a step descriptor of operation `op` is refused with, or its job entry. -/
def State.stepDescCheck (s : State) (op : Nat) (w : Work) : Except Nat Nat :=
  if !s.xportReady then .error 0x0925
  else if !stepBodyOk w || w.body 0 1 != op then .error 0x0926
  else
    match s.entryOf w.job with
    | none => .error 0x0927
    | some j => if w.tenant = s.get JOB_CTRL.TENANT_ID j then .ok j else .error 0x0927

/-- Complete a step descriptor: the engine word carries the STATE after the action (R498). -/
def State.stepEnd (s : State) (j : Nat) (w : Work) : State := s.finish w { block := 9, engine := (s.stepRec j).state }

/-- Refuse a step descriptor without work. -/
def State.stepRefuse (s : State) (w : Work) (reason : Nat) : State := (s.report reason).finishError w reason

/-- Whether a held OPEN may run: the present step is IDLE or CLOSED and no rejoin waits (R42). -/
def StepRec.openable (r : StepRec) : Bool := (r.state == 0 || r.state == 0x0B) && r.rejoinDue == 0

/-- STEP_OPEN (R33, R42): the step opens at once where the present step is IDLE or CLOSED, and is held otherwise. -/
def execStepOpen (w : Work) (s : State) : Host.Outcome State Fault Refusal :=
  match s.stepDescCheck 1 w with
  | .error e => .next (s.stepRefuse w e)
  | .ok j =>
    let r := s.stepRec j
    if !r.mayOpen w.step then .next (s.stepRefuse w 0x0902)
    else if r.openable && r.heldOpens.isEmpty then .next ((s.openStep j w.step false).stepEnd j w)
    else .next (s.putRec j { r with heldOpens := r.heldOpens ++ [w] })

/-- STEP_OPEN_RELEASE (R42): the first held OPEN descriptor of a job runs once the present step is IDLE or CLOSED. -/
def execStepOpenRelease (j : Fin 128) (s : State) : Host.Outcome State Fault Refusal :=
  let r := s.stepRec j
  match r.heldOpens with
  | [] => .next s
  | w :: ws =>
    if !r.openable then .next s
    else
      let s := s.putRec j { r with heldOpens := ws }
      if r.mayOpen w.step then .next ((s.openStep j w.step false).stepEnd j w) else .next (s.stepRefuse w 0x0902)

/-- STEP_MEMBERSHIP (Table XPORT-16). -/
def execStepMembership (w : Work) (s : State) : Host.Outcome State Fault Refusal :=
  match s.stepDescCheck 2 w with
  | .error e => .next (s.stepRefuse w e)
  | .ok j =>
    let r := s.stepRec j
    let m := w.body 4 2
    let sites := s.get JOB_CTRL.SITES j
    if !m.testBit s.localSite || m &&& sites != m then .next (s.stepRefuse w 0x0926)
    else if w.step ≠ r.step ∨ !(beforeUpdate r.state || r.state == 0x10 || r.state == 0x0B) then .next (s.stepRefuse w 0x0902)
    else
      let full := m == sites
      let r := if full then r else
        { r with partitioned := true, partitionStep := if r.state = 0x0B then r.step + 1 else r.step }
      let s :=
        if r.state = 0x0B then s.saveRec j { r with nextMembers := some m }
        else if r.state = 1 ∨ r.state = 2 then s.saveRec j { r with members := m }
        else if r.state = 0x10 ∧ full then
          s.enter j (if r.heldFrom = 0x11 then 0x0B else r.heldFrom)
            { r with members := m, partitioned := false, partitionStep := 0 }
        else s.rerunStep j m r
      .next ((s.mirrorOther w.job w.step w.desc).stepEnd j w)

/-- STEP_FROG (R62, Table XPORT-16). -/
def execStepFrog (w : Work) (s : State) : Host.Outcome State Fault Refusal :=
  match s.stepDescCheck 3 w with
  | .error e => .next (s.stepRefuse w e)
  | .ok j =>
    let r := s.stepRec j
    let round := w.body 1 1
    let ok := if round = 0 then decide (3 ≤ r.state ∧ r.state ≤ 7) || r.state == 0x10
      else r.state == 6 || r.state == 7 || (r.state == 0x10 && (r.heldFrom == 6 || r.heldFrom == 7))
    if w.step ≠ r.step ∨ !ok then .next (s.stepRefuse w 0x0902)
    else if r.frog ≥ r.par JOB_PARAM0.FROG_MAX then .next (s.stepRefuse w 0x0907)
    else .next (((s.launchFrog j round r).mirrorOther w.job w.step w.desc).stepEnd j w)

/-- STEP_ABORT (Table XPORT-16): ABORTED, then ROLLBACK_WAIT. -/
def execStepAbort (w : Work) (s : State) : Host.Outcome State Fault Refusal :=
  match s.stepDescCheck 4 w with
  | .error e => .next (s.stepRefuse w e)
  | .ok j =>
    let r := s.stepRec j
    if w.step ≠ r.step then .next (s.stepRefuse w 0x0902)
    else
      let s := s.enter j 0x1E r
      let s := s.enter j 0x12 (s.stepRec j)
      .next ((s.mirrorOther w.job w.step w.desc).stepEnd j w)

/-- STEP_RESUME (R61): the step opens with residuals and warm-start matrices cleared. -/
def execStepResume (w : Work) (s : State) : Host.Outcome State Fault Refusal :=
  match s.stepDescCheck 5 w with
  | .error e => .next (s.stepRefuse w e)
  | .ok j =>
    let r := s.stepRec j
    if r.state ≠ 0x12 ∨ w.step = 0 then .next (s.stepRefuse w 0x0902)
    else
      let full := s.get JOB_CTRL.SITES j &&& r.reachable == s.get JOB_CTRL.SITES j
      let s := s.putRec j { r with
        partitioned := r.partitioned && !full, partitionStep := if full then 0 else r.partitionStep
        stale := List.replicate 16 0, stepped := false, rejoinDue := 0, rejoins := [] }
      .next ((s.openStep j w.step true).stepEnd j w)

/-- Body of RAW_RESEND, RAW_REFUSE and CHUNK_RESEND (Table XPORT-3), without a reason. -/
def chunkRequest (step chunk frog : Nat) : Bytes := le 4 step ++ le 4 chunk ++ le 1 frog

/-- STEP_RESEND (Table XPORT-16): one new request for an owed chunk. -/
def execStepResend (w : Work) (s : State) : Host.Outcome State Fault Refusal :=
  match s.stepDescCheck 6 w with
  | .error e => .next (s.stepRefuse w e)
  | .ok j =>
    let r := s.stepRec j
    let chunk := w.body 8 4
    let site := w.body 2 1
    match s.xport.owed.find? (fun o => o.entry == j && o.site == site && o.step == r.step && o.chunk == chunk && o.failed) with
    | none => .next (s.stepRefuse w 0x0926)
    | some o =>
      if w.step ≠ r.step ∨ !(decide (3 ≤ r.state ∧ r.state ≤ 7) || r.state == 0x10) then .next (s.stepRefuse w 0x0902)
      else
        let s := { s with xport := { s.xport with
          owed := s.xport.owed.map (fun x => if x = o then { o with failed := false } else x) } }
        let req := chunkRequest o.step o.chunk o.frog
        let s := if o.raw then s.sendControl j site 4 req else s.sendControl j site 6 (req ++ le 2 0)
        .next (s.stepEnd j w)

/-! ## Stages and barriers (R38, R40, R41, R53, R54) -/

/-- Indices of a round that this site owns. -/
def State.ownedIn (s : State) (r : StepRec) (round : Nat) : List Nat :=
  (List.range (r.chunks round)).filter (fun c => r.owner c == s.localSite)

/-- Whether every chunk that this site owns in a round is reduced. -/
def State.scatterDone (s : State) (r : StepRec) (round : Nat) : Bool :=
  (s.ownedIn r round).all (fun c => r.reduced.contains (chunkId round 1 c))

/-- Whether every reduced chunk of a round is held. -/
def gatherDone (r : StepRec) (round : Nat) : Bool :=
  (List.range (r.chunks round)).all (fun c => r.held.contains (chunkId round 1 c))

/-- The reduced chunks of the step whose clean mark is missing (R41). -/
def StepRec.unclean (r : StepRec) : List Nat :=
  ([0, 1].flatMap (fun k => (List.range (r.chunks k)).map (chunkId k 1))).filter (fun c => !r.clean.contains c)

/-- End the wait for clean marks: UPDATE begins once every mark is held (R41). -/
def State.updateBarrier (s : State) (j : Nat) (r : StepRec) : State :=
  if r.unclean.isEmpty then s.enter j 8 { r with cleanWait := false, frogActive := false }
  else if r.cleanWait then s.putRec j r
  else s.saveRec j { r with cleanWait := true }

/-- INGEST_END (R38): every byte of the tensor map has been received. -/
def execIngestEnd (j : Fin 128) (s : State) : Host.Outcome State Fault Refusal :=
  let r := s.stepRec j
  if r.state = 2 then .next (s.enter j 3 r) else .next s

/-- Close a reconciliation (R58). -/
def State.reconciled (s : State) (j : Nat) (r : StepRec) : State :=
  s.enter j 0x0B { r with
    partitioned := false, partitionStep := 0, lastCommon := r.step, stale := List.replicate 16 0, stepped := false, weights := [] }

/-- STAGE_COMPLETE (R40, R53): a stage has ended for every tensor. A SCATTER or GATHER stage is left only when no member owes
a chunk, and UPDATE is entered only with every clean mark. -/
def execStageComplete (j : Fin 128) (s : State) : Host.Outcome State Fault Refusal :=
  let j := j.val
  let r := s.stepRec j
  match r.state with
  | 1 => .next (s.enter j 2 r)
  | 3 => if s.scatterDone r 0 then .next (s.enter j 4 r) else .next s
  | 4 =>
    if !gatherDone r 0 then .next s
    else if r.par JOB_PARAM0.RANK = 0 then .next (s.updateBarrier j r)
    else .next (s.enter j 5 r)
  | 5 => .next (s.enter j 6 r)
  | 6 => if s.scatterDone r 1 then .next (s.enter j 7 r) else .next s
  | 7 => if gatherDone r 1 then .next (s.updateBarrier j r) else .next s
  | 8 => .next (s.enter j 9 r)
  | 9 => .next (s.enter j 0x0A r)
  | 0x11 => .next (s.reconciled j r)
  | _ => .next s

/-- Sites that owe a chunk or a clean mark (R54): contributions to the chunks owned here, reduced chunks, clean marks. -/
def State.owing (s : State) (j : Nat) (r : StepRec) : Nat :=
  let job := s.get JOB_CTRL.JOB_ID j
  let round := r.round
  if r.cleanWait then maskOf (r.unclean.map (fun c => r.owner (chunkIndex c)))
  else if r.state = 3 ∨ r.state = 6 then
    maskOf (((s.ownedIn r round).filter (fun c => !r.reduced.contains (chunkId round 1 c))).flatMap (fun c =>
      let got := (s.stch.slots.filter (fun x => x.job == job && x.step == r.step && chunkRound x.chunk == round &&
        chunkIndex x.chunk == c)).flatMap (fun x => x.terms.map (·.site))
      r.memberList.filter (fun m => !got.contains m)))
  else if r.state = 4 ∨ r.state = 7 then
    maskOf (((List.range (r.chunks round)).filter (fun c => !r.held.contains (chunkId round 1 c))).map r.owner)
  else 0

/-- Set STALLED with the sites that owe data (R54). -/
def State.stall (s : State) (j sites : Nat) (r : StepRec) : State :=
  let (r, s) := s.stepReason r 0x0903
  s.saveRec j { r with stalled := true, stalledSites := sites, stallAt := if r.stalled then r.stallAt else s.mono }

/-- STEP_STALLED (R54): no chunk or clean mark has completed for STALL_REPORT. -/
def execStepStalled (j : Fin 128) (s : State) : Host.Outcome State Fault Refusal :=
  let r := s.stepRec j
  if r.stalled ∨ !(r.state == 3 || r.state == 4 || r.state == 6 || r.state == 7) then .next s
  else .next (s.stall j (s.owing j r) r)

/-- CLEAN_WAIT_EXPIRY (R41): the owners of the missing marks are stalled sites. -/
def execCleanWaitExpiry (j : Fin 128) (s : State) : Host.Outcome State Fault Refusal :=
  let r := s.stepRec j
  if r.cleanWait then .next (s.stall j (s.owing j r) r) else .next s

/-- Progress of a step clears STALLED; the time spent stalled accumulates (R54). -/
def State.progress (s : State) (j : Nat) : State :=
  let r := s.stepRec j
  if r.stalled then
    s.saveRec j { r with stalled := false, stalledSites := 0, stallMs := r.stallMs + (s.mono - r.stallAt) / 1000000 }
  else s

/-- A reduced chunk is held by this member (R47). -/
def State.chunkHeld (s : State) (j chunk : Nat) : State :=
  let r := s.stepRec j
  (s.putRec j { r with held := addOnce r.held chunk }).progress j

/-- A clean mark is held; the last one of a step that waits for it begins UPDATE (R41). -/
def State.cleanMark (s : State) (j chunk : Nat) : State :=
  let r := s.stepRec j
  let s := (s.putRec j { r with clean := addOnce r.clean chunk }).progress j
  let r := s.stepRec j
  if r.cleanWait then s.updateBarrier j r else s

/-! ## Closing, rejoin and reconciliation (R57 to R59, R226, R227) -/

/-- A quotient rounded to nearest even at `p` bits, for values above zero. -/
def Num.divRound (p : Nat) : Num → Num → Num
  | .fin s m e, .fin t n f =>
    if m = 0 ∨ n = 0 then .zero
    else
      let k := p + 2 + bitLen n
      let q := (m <<< k) / n
      let sticky := b2n ((m <<< k) % n != 0)
      (Num.fin (s != t) (2 * q + sticky) (e - f - k - 1)).round p 0
  | _, _ => .nan

/-- A natural number as a value. -/
def Num.ofNat (n : Nat) : Num := .fin false n 0

/-- The staleness weight of a side in FP32 (R59): each operation rounded to nearest even (log entry 27). -/
def staleWeight (n total stale t : Nat) : Nat :=
  let share := (Num.ofNat n).divRound 24 (Num.ofNat total)
  let den := ((Num.ofNat 1).add ((Num.ofNat stale).divRound 24 (Num.ofNat t))).round 24 0
  (encodeFloat 0 0 (share.divRound 24 den)).code

/-- Body of a REJOIN message (Table XPORT-3). -/
def StepRec.rejoinBody (r : StepRec) : Bytes :=
  le 4 r.step ++ le 4 r.lastCommon ++ le 1 r.policy ++ le 1 (b2n r.stepped) ++ le 2 r.members ++
  r.stale.flatMap (fun x => le 1 (min x 255))

/-- Send REJOIN to the sites of a mask. -/
def State.sendRejoin (s : State) (j mask : Nat) : State :=
  let body := (s.stepRec j).rejoinBody
  (bitsOf mask 16).foldl (fun s i => s.sendControl j i 9 body) s

/-- The policy at rejoin (R227): 2 ROLLBACK, 0 MERGE, 1 HOLD. -/
def StepRec.rejoinPolicy (r : StepRec) : Nat :=
  if r.policy = 2 ∨ r.rejoins.any (fun m => m.policy == 2) then 2
  else if (r.stepped ∧ r.policy = 0) ∨ r.rejoins.any (fun m => m.stepped && m.policy == 0) then 0
  else 1

/-- The sides of a partition that stepped: members, STALE count and last step; the own side first. -/
def StepRec.sides (r : StepRec) : List (Nat × Nat) :=
  let staleOf (m : Nat) (st : List Nat) : Nat := ((bitsOf m 16).map (fun i => st.getD i 0)).foldl max 0
  let own := if r.stepped then [(r.members, staleOf r.members r.stale)] else []
  (own ++ (r.rejoins.filter (·.stepped)).map (fun m => (m.members, staleOf m.members m.stale))).dedup

/-- The staleness weights of the sides that stepped (R59). -/
def StepRec.sideWeights (r : StepRec) : List (Nat × Nat) :=
  let total := r.sides.foldl (fun a x => a + siteCount x.1) 0
  r.sides.map (fun x => (x.1, staleWeight (siteCount x.1) total x.2 (r.par JOB_PARAM0.STALE_T)))

/-- Apply the rejoin policy once every rejoining site has sent its REJOIN (Table STEP-7, R227). -/
def State.applyRejoin (s : State) (j : Nat) : State :=
  let r := s.stepRec j
  let ready := r.rejoinDue != 0 && (r.state == 0x0B || r.state == 0x10) &&
    (bitsOf r.rejoinDue 16).all (fun i => r.rejoins.any (fun m => m.site == i))
  if !ready then s
  else
    let last := r.rejoins.foldl (fun a m => max a m.lastStep) r.step
    let pol := r.rejoinPolicy
    let r' := { r with rejoinDue := 0, rejoins := [] }
    if pol = 2 then
      let (r', s) := s.stepReason r' 0x0906
      s.enter j 0x12 { r' with heldFrom := r.state }
    else if pol = 0 then
      let sites := s.get JOB_CTRL.SITES j
      s.enter j 0x11 { r' with
        heldFrom := r.state, weights := r.sideWeights, step := last + 1, lastOpened := last + 1, members := sites &&& r.reachable
        held := [], clean := [], reduced := [] }
    else
      let r' := { r' with partitioned := false, partitionStep := 0, stale := List.replicate 16 0, stepped := false }
      if r.state = 0x10 then s.enter j (if r.heldFrom = 0x11 then 0x0B else r.heldFrom) r' else s.saveRec j r'

/-- REJOIN_STABLE_EXPIRY (R55, R227): an unreachable site has been reachable for REJOIN_STABLE. Each shared job holds it
reachable, and sends REJOIN in CLOSED or HELD, or at its next CLOSED. -/
def execRejoinStableExpiry (site : Fin 16) (s : State) : Host.Outcome State Fault Refusal :=
  .next ((s.jobsOn.filter (fun j => (s.get JOB_CTRL.SITES j).testBit site && !(s.stepRec j).reachable.testBit site &&
      site.val != s.localSite)).foldl (fun s j =>
    let r := s.stepRec j
    let (r, s) := s.stepReason r 0x0905
    let r := { r with reachable := setBit r.reachable site true, rejoinDue := setBit r.rejoinDue site r.partitioned }
    let s := (s.raise XPORT_INT_STATUS.REACH).saveRec j r
    if r.state = 0x0B ∨ r.state = 0x10 ∨ !r.partitioned then s.sendRejoin j (1 <<< site.val) else s) s)

/-- The first message of a type from a site in a job's flow, and the inbox without it. -/
def State.takeMail (s : State) (j site ctype : Nat) : Option (CtrlIn × State) :=
  match s.xport.inbox.find? (fun c => c.entry == j && c.site == site && c.ctype == ctype) with
  | none => none
  | some c => some (c, { s with xport := { s.xport with inbox := s.xport.inbox.erase c } })

/-- REJOIN_RECEIVED (R227): a REJOIN is taken, and the policy applied once every rejoining site has sent one. -/
def execRejoinReceived (j : Fin 128) (site : Fin 16) (s : State) : Host.Outcome State Fault Refusal :=
  match s.takeMail j site 9 with
  | none => .next s
  | some (c, s) =>
    let b := c.body
    let m : RejoinMsg := ⟨site, fieldAt b 0 4, fieldAt b 4 4, fieldAt b 8 1, fieldAt b 9 1 == 1, fieldAt b 10 2,
      (slice b 12 16).map (·.toNat)⟩
    let r := s.stepRec j
    let s := s.putRec j { r with rejoins := r.rejoins.filter (fun x => x.site ≠ site.val) ++ [m] }
    .next (s.applyRejoin j)

/-- What the gateway group sees of a close: an active member reports its work to the spare (R467), and a shadowing spare counts
the step (R468). -/
def State.closeReported (s : State) (j : Nat) : State :=
  let r := s.stepRec j
  if !s.on GRP_STATUS.READY then s
  else if s.on GRP_CTRL.ROLE then { s with grp := { s.grp with shadowSteps := s.grp.shadowSteps + 1 } }
  else s.groupSend (s.get GRP_CFG.SPARE_EP) { type := 6, job := s.get JOB_CTRL.JOB_ID j, step := r.step, value := r.workNs / 1000 }

/-- STEP_CLOSE (R57, Table STEP-7): every reachable member has acknowledged in DONE. Retention of the step is released but
toward unreachable members (R226); a partitioned step counts toward STALE; a rejoin that waits is sent. -/
def execStepClose (j : Fin 128) (s : State) : Host.Outcome State Fault Refusal :=
  let j := j.val
  let r := s.stepRec j
  let waits := s.xport.retained.any (fun x => x.entry == j && x.step == r.step && !x.acked && r.reachable.testBit x.peer)
  if r.state ≠ 0x0A ∨ waits then .next s
  else
    let s := s.releaseRetained (fun x => x.entry == j && x.step == r.step && (x.acked || r.reachable.testBit x.peer))
    let s := s.progress j
    let r := s.stepRec j
    let r := if r.partitioned && decide (r.partitionStep ≤ r.step) then
        { r with
          stepped := true
          stale := (List.range 16).map (fun i => min 255 (r.stale.getD i 0 + b2n (r.members.testBit i && r.policy != 1))) }
      else { r with lastCommon := r.step }
    let s := (s.enter j 0x0B { r with frogActive := false }).closeReported j
    let s := if r.rejoinDue = 0 then s else s.sendRejoin j r.rejoinDue
    .next (s.applyRejoin j)

/-- RESYNC_FETCH_END (R64): the fetched ranges have arrived; residuals are zero and R39 applies to the next step. -/
def execResyncFetchEnd (j : Fin 128) (s : State) : Host.Outcome State Fault Refusal :=
  let r := s.stepRec j
  if r.state = 0x13 then .next (s.enter j 0x0B { r with fresh := true }) else .next s

/-! ## Poison notices and local faults (R62, R63, R135 to R137, Tables STEP-8 and STCH-6) -/

/-- A step becomes UNRECOVERABLE with a reason. -/
def State.unrecoverable (s : State) (j reason : Nat) : State :=
  let (r, s) := s.stepReason (s.stepRec j) reason
  s.enter j 0x1F r

/-- A poison notice handed to its step (Table STEP-8). -/
def State.noticeToStep (s : State) (j step round reason : Nat) : State :=
  let r := s.stepRec j
  let base := if r.state = 0x10 then r.heldFrom else r.state
  if step < r.step then
    if r.state = 0x1F ∨ r.state = 0x12 ∨ r.state = 0 then s else s.unrecoverable j 0x0908
  else if step ≠ r.step ∨ !(beforeUpdate r.state || r.state == 0x10 || decide (8 ≤ r.state ∧ r.state ≤ 0x0B)) then s
  else if 8 ≤ r.state ∧ r.state ≤ 0x0B then s.unrecoverable j 0x0908
  else if r.frog ≥ r.par JOB_PARAM0.FROG_MAX then s.unrecoverable j 0x0907
  else if r.par JOB_PARAM0.FROG_AUTO = 0 then
    let (r, s) := s.stepReason r reason
    s.hold j r
  else if round = 1 ∧ base < 6 then s
  else s.launchFrog j (min round 1) { r with reason := reason }

/-- A local needle-bed or selvedge fault found after UPDATE wrote its output (Table STEP-8). -/
def State.localUpdateFault (s : State) (j reason : Nat) : State :=
  let r := s.stepRec j
  if !(8 ≤ r.state ∧ r.state ≤ 0x0B) then s
  else if r.par JOB_PARAM0.RESYNC_AUTO = 1 ∧ siteCount (setBit (r.members &&& r.reachable) s.localSite false) ≠ 0 then
    let (r, s) := s.stepReason r reason
    s.enter j 0x13 r
  else s.unrecoverable j reason

/-- What a poison notice names (Table STCH-6). -/
structure Notice where
  path : Nat
  reason : Nat
  step : Nat
  round : Nat
  frog : Nat
  location : Nat := 0xFFFF
  first : Nat := 0
  count : Nat := 0
  epoch : Nat := 0

/-- The 64 bytes of a notice that this gateway issues for a job entry. -/
def State.noticeBytes (s : State) (j : Nat) (n : Notice) (seq : Nat) : Bytes :=
  let b := le 1 1 ++ le 1 n.path ++ le 1 s.localSite ++ le 1 (s.get XPORT_CTRL.GROUP_POS) ++ le 2 (s.get JOB_CTRL.JOB_ID j) ++
    le 2 n.reason ++ le 4 n.step ++ le 1 n.round ++ le 1 n.frog ++ le 2 n.location ++ le 4 n.first ++ le 4 n.count ++ le 4 seq ++
    le 4 s.stamp ++ le 4 n.epoch ++ zeros 24
  b ++ le 4 (crc32c b)

/-- Write a notice to the notice ring and raise the STCH interrupt (R136). -/
def State.noticeRing (s : State) (b : Bytes) : State :=
  let size := 2 ^ s.get STCH_NOTICE_PTR.SIZE_LOG2
  let wr := s.get STCH_NOTICE_PTR.WR_PTR
  if diff16 wr (s.get STCH_NOTICE_PTR.RD_PTR) ≥ size then
    (s.set STCH_NOTICE_PTR.OVERFLOW 1).raise STCH_INT_STATUS.NOTICE_OVERFLOW
  else
    ((s.hostWrite (hostBase + s.get STCH_NOTICE_BASE.ADDR * 64 + 64 * (wr % size)) b).set STCH_NOTICE_PTR.WR_PTR (wr + 1)).raise
      STCH_INT_STATUS.NOTICE

/-- Issue a poison notice (R136): ring, interrupt, a control message to every other member, and the own step. -/
def State.issueNotice (s : State) (j : Nat) (n : Notice) : State :=
  let seq := s.stch.noticeSeq + 1
  let b := s.noticeBytes j n seq
  let s := ({ s with stch := { s.stch with noticeSeq := seq } }.noticeRing b).report 0x0C10
  let s := ((s.stepRec j).memberList.filter (· ≠ s.localSite)).foldl (fun s m => s.sendControl j m 3 b) s
  (s.mirrorOther (s.get JOB_CTRL.JOB_ID j) n.step b).noticeToStep j n.step n.round 0x0C10

end Sys2Proof.Machine
end

