-- ==== Sys2Proof/Machine/Bed.lean ====
section
/-!
DEFINITION. Machine/Bed.lean: the needle bed and the selvedge (spec/04_needle_bed.md, R92 to R120).
-/
namespace Sys2Proof

/-- Whether a swatch result names nothing. -/
def BedSwatchFail.passes (f : BedSwatchFail) : Bool := f.groups.isEmpty && !f.selvedge

end Sys2Proof
namespace Sys2Proof.Machine
open Csr

/-! ## Groups, columns and capability (Tables BED-9 and BED-14, R115, R116) -/

/-- Whether a column group is enabled and not taken out of service. -/
def State.groupOn (s : State) (g : Nat) : Bool := (s.get BED_CTRL.GROUP_EN).testBit g && !s.on BED_GROUP_MAP.OUT_OF_SERVICE g

/-- The groups in service. -/
def State.groupsOn (s : State) : List Nat := (List.range 8).filter s.groupOn

/-- Whether a group's spare column, its column 64, is in use, or unavailable because its table was never confirmed (R430). -/
def State.bedSpareGone (s : State) (g : Nat) : Bool :=
  s.on BED_GROUP_MAP.SUBST_VALID g || s.boot.disabled.any (fun u => u.block == 11 && u.cluster.toNat == g && u.unit == 64)

/-- Whether a group has a checksum column (R109, R115). -/
def State.groupCovered (s : State) (g : Nat) : Bool := s.groupOn g && !s.bedSpareGone g && s.on BED_CHECK.CHECK_COL

/-- BED_CAP as it follows from the groups. -/
def State.bedCap (s : State) : State :=
  let s := (s.set BED_CAP.ACTIVE_COLUMNS (64 * s.groupsOn.length)).set BED_CAP.IN_SERVICE (maskOf s.groupsOn)
  (s.set BED_CAP.SPARE_FREE (maskOf ((List.range 8).filter (fun g => !s.bedSpareGone g)))).set BED_CAP.CHECK_COVER
    (maskOf ((List.range 8).filter s.groupCovered))

/-- BED_ERR_LOG and BED_ERR_ENV for a fault in a group (Tables BED-15 and BED-16); panel B is panel 1. -/
def State.bedLog (s : State) (reason group : Nat) (col : Option (Fin 64)) (queue : Nat) : State :=
  let s := ((((s.set BED_ERR_LOG.REASON reason).set BED_ERR_LOG.GROUP group).set BED_ERR_LOG.COLUMN ((col.map (·.val)).getD 0)).set
    BED_ERR_LOG.COLUMN_UNKNOWN (b2n col.isNone)).set BED_ERR_LOG.QUEUE queue
  let load := s.fresh.1 % 101
  let s := ((s.fresh.2.set BED_ERR_ENV.LOAD load).set BED_ERR_ENV.TEMP (s.get HLTH_PANEL_RATE.TEMP 1)).set BED_ERR_ENV.VB_MV
    (s.get HLTH_PANEL_RAIL.MEASURED_MV 1)
  s.set BED_ERR_ENV.RATE (s.get HLTH_PANEL_RATE.RATE 1)

/-- Substitute the spare for a column of a group whose spare is free, or take the group out of service (Table BED-5, R115,
R116); a fault in several columns always takes the group out. -/
def State.groupFault (s : State) (reason g : Nat) (col : Option (Fin 64)) (w : Option Work) : State :=
  let s := s.quarantineCount 1 11 g
  let rec_ (action : Nat) : Health :=
    { reason := reason, kind := 1, block := 11, panel := 1, action := action, cluster := g, unit := (col.map (·.val)).getD 0xFF
      job := (w.map (·.job)).getD 0, step := (w.map (·.step)).getD 0 }
  match col with
  | some c =>
    if s.bedSpareGone g then
      (((((s.markQuarantined 11 g true).set BED_GROUP_MAP.OUT_OF_SERVICE 1 g).bedCap.health (rec_ 3)).report 0x0B09).raise
        BED_INT_STATUS.OUT_OF_SERVICE).capChange 11
    else
      ((((s.set BED_GROUP_MAP.SUBST_VALID 1 g).set BED_GROUP_MAP.SUBST_COLUMN c.val g).bedCap.health (rec_ 1)).report 0x0B08).raise
        BED_INT_STATUS.SUBSTITUTED
  | none =>
    (((((s.markQuarantined 11 g true).set BED_GROUP_MAP.OUT_OF_SERVICE 1 g).bedCap.health (rec_ 3)).report 0x0B09).raise
        BED_INT_STATUS.OUT_OF_SERVICE).capChange 11

/-- One mismatch in a group (R112, Table BED-5). -/
def State.bedMismatch (s : State) (w : Work) (f : BedFault) : State :=
  let g := f.group.val
  let s := (s.addSat BED_ERR_COUNT.MISMATCH 1).addSat BED_GROUP_MAP.MISMATCH_COUNT 1 g
  match f.kind with
  | .inconclusive =>
    (((s.bedLog 0x0B06 g none w.queue).addSat BED_ERR_COUNT.INCONCLUSIVE 1).report 0x0B06).raise BED_INT_STATUS.INCONCLUSIVE
  | .column c => (((s.bedLog 0x0B05 g (some c) w.queue).report 0x0B05).raise BED_INT_STATUS.MISMATCH).groupFault 0x0B05 g (some c) (some w)
  | .columns => (((s.bedLog 0x0B05 g none w.queue).report 0x0B05).raise BED_INT_STATUS.MISMATCH).groupFault 0x0B05 g none (some w)
  | .swatch c =>
    (((((s.bedLog 0x0B07 g c w.queue).report 0x0B07).addSat BED_ERR_COUNT.SWATCH_FAIL 1).raise BED_INT_STATUS.MISMATCH).raise
      BED_INT_STATUS.SWATCH_FAIL).groupFault 0x0B07 g c (some w)

/-- Whether a check that is on can find a mismatch in a group (R109, R110). -/
def State.canMismatch (s : State) (f : BedFault) : Bool :=
  s.groupCovered f.group.val || (s.groupOn f.group.val && s.on BED_CHECK.CHECK_ROW)

/-- A substitution requested by BED_SUBST takes place at a descriptor boundary (R115, Table BED-13). -/
def State.bedBoundary (s : State) : State :=
  match s.bed.substReq with
  | none => s
  | some (g, c) =>
    let s := { s with bed := { s.bed with substReq := none } }
    if s.bedSpareGone g then s.set BED_ERR_LOG.REASON 0x0B09
    else
      ((((s.set BED_GROUP_MAP.SUBST_VALID 1 g).set BED_GROUP_MAP.SUBST_COLUMN c g).bedCap).report 0x0B08).raise
        BED_INT_STATUS.SUBSTITUTED

/-- A write of BED_SUBST with GO (Table BED-13): a request, or a refusal with 0x0B09 where the group's spare is not free. -/
def State.bedSubst (s : State) (g c : Nat) : Except Nat State :=
  if s.bedSpareGone g || s.bed.substReq.any (fun r => r.1 == g) then .error 0x0B09
  else .ok { s with bed := { s.bed with substReq := some (g, c) } }

/-! ## The operation body (Table BED-3) -/

/-- OP. -/
def bOp (w : Work) : Nat := w.body 0 1
/-- A flag of the body: 0 EF_IN, 1 EF_OUT, 2 WRITE_DELTA, 3 GEN_B, 4 CHAIN. -/
def bFlag (w : Work) (i : Nat) : Bool := (w.body 1 1).testBit i
/-- FMT_IN. -/
def bFmtIn (w : Work) : Nat := w.body 2 1 % 16
/-- FMT_OUT. -/
def bFmtOut (w : Work) : Nat := w.body 2 1 / 16
/-- Operand format. -/
def bOpnd (w : Work) : Nat := w.body 3 1 % 16
/-- RMODE. -/
def bMode (w : Work) : Nat := getBits (w.body 3 1) 4 2
/-- BIAS_A, signed. -/
def bBiasA (w : Work) : Int := toSigned 8 (w.body 4 1)
/-- BIAS_B, signed. -/
def bBiasB (w : Work) : Int := toSigned 8 (w.body 5 1)
/-- RANK. -/
def bRank (w : Work) : Nat := w.body 6 2
/-- ROWS. -/
def bRows (w : Work) : Nat := w.body 8 4
/-- COLS. -/
def bCols (w : Work) : Nat := w.body 12 4
/-- ADDR_A to ADDR_E by number. -/
def bAddr (w : Work) (k : Nat) : Nat := w.body (16 + 8 * k) 8
/-- PARAM_0 and PARAM_1. -/
def bParam (w : Work) (k : Nat) : Lns := Lns.of16 (w.body (56 + 2 * k) 2)
/-- SCALE_K, signed. -/
def bScale (w : Work) : Int := toSigned 8 (w.body 60 1)
/-- TENSOR. -/
def bTensor (w : Work) : Nat := w.body 61 3

/-- The bias of A as an operand: BIAS_A where OPND names LNS8, else none (log entry 29). -/
def bOpBias (w : Work) : Int := if bOpnd w = 5 then bBiasA w else 0

/-- Seed of the descriptor's job. -/
def State.jobSeed (s : State) (w : Work) : Nat :=
  match s.entryOf w.job with
  | none => 0
  | some j => s.get JOB_SEED.SEED j

/-- Whether an operation uses RANK. -/
def usesRank (op : Nat) : Bool := op ∈ [1, 2, 3, 4, 9]

/-- The flags that Table BED-2 allows for an operation, or none for a reserved code. -/
def flagsAllowed (op : Nat) : Option Nat :=
  match op with
  | 1 => some 0x09
  | 2 => some 0
  | 3 => some 0x16
  | 4 => some 0
  | 5 => some 0x10
  | 6 => some 0x10
  | 7 => some 0
  | 8 => some 0
  | 9 => some 0
  | 0x0F => some 0
  | _ => none

/-- Whether an operation writes C in FMT_OUT. -/
def writesC (w : Work) : Bool :=
  bAddr w 2 != 0 && (bOp w ∈ [1, 2, 4, 7, 9] || (bOp w == 3 && bFlag w 2))

/-- The accesses that an operation's body names (Table BED-2): (write, address, bytes). -/
def bodyAccess (w : Work) : List (Bool × Nat × Nat) :=
  let m := bRows w
  let n := bCols w
  let r := bRank w
  let fi := fmtBytes (bFmtIn w)
  let fo := fmtBytes (bFmtOut w)
  let a (k : Nat) : (Bool × Nat × Nat) := (false, bAddr w 0, k * fi)
  let b (k : Nat) : (Bool × Nat × Nat) := (false, bAddr w 1, k * fi)
  let c (k : Nat) : List (Bool × Nat × Nat) := if writesC w then [(true, bAddr w 2, k * fo)] else []
  let d (wr : Bool) (k : Nat) : (Bool × Nat × Nat) := (wr, bAddr w 3, k)
  let e (wr : Bool) (k : Nat) : (Bool × Nat × Nat) := (wr, bAddr w 4, k)
  match bOp w with
  | 1 => [a (m * n)] ++ (if bFlag w 3 then [] else [b (n * r)]) ++ c (m * r) ++
        (if bFlag w 0 then [d false (m * n * 2), d true (m * n * 2)] else [])
  | 2 => [a (m * n), b (m * r)] ++ c (n * r)
  | 3 => [a (m * r), b (n * r)] ++ c (m * n) ++ (if bFlag w 1 then [d false (m * n * 2), e true (m * n * 2)] else [])
  | 4 => [a (m * r)] ++ c (m * r)
  | 5 => (if bFlag w 4 then [] else [a (m * n)]) ++ (if bAddr w 2 = 0 then [] else [(true, bAddr w 2, m * n * 2)]) ++
        [d false (m * n * 4), d true (m * n * 4), e false (m * n * 4), e true (m * n * 4)]
  | 6 => (if bFlag w 4 then [] else [a (m * n)]) ++ (if bAddr w 2 = 0 then [] else [(true, bAddr w 2, m * n * 2)]) ++
        [d false (m * n * 4), d true (m * n * 4), e false (m * n * 4), e true (m * n * 4)]
  | 7 => [a (m * n)] ++ c (m * n)
  | 8 => [a (m * n), d false (m * n * 2), e true (m * n * 2)]
  | 9 => c (n * r)
  | _ => []

/-- The accesses of an operation with its histogram record. -/
def bedAccess (w : Work) : List (Bool × Nat × Nat) :=
  bodyAccess w ++ (if w.field 16 8 = 0 then [] else [(true, w.field 16 8, 256)])

/-- Δ pending for a descriptor that arrived as the chained successor of a BACKPROJECT with CHAIN (Table BED-2). -/
def State.chainedFor (s : State) (w : Work) : Option ChainedDelta :=
  if w.index ≠ 0xFFFF then none
  else
    match s.hostq.dispatched.find? (fun d => d.work == w) with
    | none => none
    | some d => s.bed.chained.find? (fun c => c.queue == w.queue && c.addr == d.addr)

/-- Discard the Δ held for a descriptor, where one is (R97). -/
def State.dropChained (s : State) (w : Work) : State :=
  match s.chainedFor w with
  | none => s
  | some c => { s with bed := { s.bed with chained := s.bed.chained.erase c } }

/-- Whether a bias field is in range (R67). -/
def biasOk (b : Int) : Bool := decide (-120 ≤ b ∧ b ≤ 119)

/-- The reason a bed or selvedge descriptor of operation `op` is refused with, or none: R120, R96, R67, R97, the selvedge
fault of Table BED-5, and R493. -/
def State.bedCheck (s : State) (op : Nat) (w : Work) : Option Nat :=
  let allowed := (flagsAllowed (bOp w)).getD 0
  let swatch := bOp w == 0x0F
  let chainBad := (op == 5 || op == 6) && bFlag w 4 && (match s.chainedFor w with
    | none => true
    | some c => c.rows != bRows w || c.cols != bCols w)
  let modeBad := !swatch && (bMode w == 3 || (writesC w && !roundOk (bFmtOut w) (bMode w)))
  if !s.on BED_STATUS.READY then some 0x0B0D
  else if bOp w ≠ op ∨ (flagsAllowed op).isNone ∨ w.body 1 1 &&& (0x1F ^^^ allowed) ≠ 0 then some 0x0B04
  else if !swatch && (bFmtIn w > 5 || bFmtOut w > 5 || !(bOpnd w == 4 || bOpnd w == 5) || modeBad ||
      ((bOpnd w == 5 || bFmtOut w == 5) && !biasOk (bBiasA w)) || (bOpnd w == 5 && !biasOk (bBiasB w))) then some 0x0B01
  else if bRows w = 0 ∨ bCols w = 0 ∨ (usesRank op ∧ (bRank w < 8 ∨ bRank w > 512 ∨ bRank w % 8 ≠ 0)) ∨
      (op = 4 ∧ bRows w < bRank w) ∨ ((bFlag w 0 || bFlag w 1) ∧ bFmtIn w ≠ 1) ∨ (op = 9 ∧ bFmtOut w > 1) ∨ chainBad then some 0x0B02
  else if (bodyAccess w).any (fun x => x.2.1 % 64 != 0) ∨
      (s.badAccess (s.classOf w) (bedAccess w)).isSome then some 0x0B03
  else if ((4 ≤ op ∧ op ≤ 7) ∨ op = 0x0F) ∧ !s.on BED_STATUS.SELVEDGE_OK then some 0x0B0C
  else if op ≤ 4 ∧ s.groupsOn = [] then some 0x0B09
  else none

/-! ## Reading operands and forming results -/

/-- Read `n` codes of a format from an address. -/
def State.codes (s : State) (a fmt n : Nat) : List Nat := (List.range n).map (fun i => s.readLe (a + i * fmtBytes fmt) (fmtBytes fmt))

/-- Cut a list into rows of `n`. -/
def rowsOf {α : Type} (n : Nat) : (m : Nat) → List α → List (List α)
  | 0, _ => []
  | m + 1, l => l.take n :: rowsOf n m (l.drop n)

/-- Columns of a matrix of `n` columns given by rows. -/
def colsOf {α : Type} (n : Nat) (rows : List (List α)) : List (List α) :=
  (List.range n).map (fun j => rows.filterMap (fun r => r[j]?))

/-- What an operation does before its checks on the hardware are taken into account: the ranges written, the tensor
summarised, subnormals replaced on input, products, warning, engine word, and Δ kept for a chained successor. -/
structure BedRun where
  writes : List (Nat × Bytes) := []
  main : OutTensor := ⟨0, 0, []⟩
  flushIn : Nat := 0
  products : Nat := 0
  warn : Nat := 0
  engine : Nat := 0
  delta : Option (List Num) := none

/-- Steps of an octave of the operand format. -/
def bSteps (w : Work) : Nat := if bOpnd w = 5 then 8 else 128

/-- Sum of the operands' biases, for LNS8 operands. -/
def bDotBias (w : Work) : Int := if bOpnd w = 5 then bBiasA w + bBiasB w else 0

/-- A list of codes as bed operands, with the subnormals replaced. -/
def toOps (fmt opnd : Nat) (b : Int) (cs : List Nat) : List Lns × Nat :=
  let xs := cs.map (toOperand fmt opnd b)
  (xs.map (·.1), xs.countP (·.2))

/-- The product C = A · B on the bed: `as` the rows of A, `bs` the columns of B (R92). -/
def bedProduct (k : Nat) (bias : Int) (as bs : List (List Lns)) : List Num :=
  as.flatMap (fun a => bs.map (fun b => bedDot k bias a b))

/-- The random bits of element `i` of the output tensor (R105). -/
def State.bedRandom (s : State) (w : Work) (i : Nat) : Nat := srBits (s.jobSeed w) w.step (bTensor w) i

/-- Write values as C. -/
def State.outC (s : State) (w : Work) (xs : List Num) : OutTensor :=
  ⟨bFmtOut w, bBiasA w, xs.mapIdx (fun i x => encodeNum (bFmtOut w) (bMode w) (bBiasA w) (s.bedRandom w i) x)⟩

/-- Round values to BF16 by RMODE, for M and E (R98, R99). -/
def State.outBf16 (s : State) (w : Work) (xs : List Num) : OutTensor :=
  ⟨1, 0, xs.mapIdx (fun i x => encodeNum 1 (bMode w) 0 (s.bedRandom w i) x)⟩

/-- The generated projection matrix, n × r, in element order (R105, R106). -/
def State.genMatrix (s : State) (w : Work) (n r : Nat) : List Num :=
  (List.range (n * r)).map (genSign (s.jobSeed w) w.step (bTensor w))

/-- A linear value as a bed operand (R77). -/
def numOperand (opnd : Nat) (b : Int) (x : Num) : Lns := if opnd = 4 then x.to16.clamp16 else (x.to8 b).clamp8

/-- C of an operation where it is written. -/
def cWrite (w : Work) (t : OutTensor) : List (Nat × Bytes) := if writesC w then [(bAddr w 2, t.bytes)] else []

/-- PROJECT: P = M · Q, with M = G + E under EF_IN and Q generated under GEN_B (R98, R106). -/
def State.projectRun (s : State) (w : Work) : BedRun :=
  let m := bRows w
  let n := bCols w
  let r := bRank w
  let g := s.codes (bAddr w 0) (bFmtIn w) (m * n)
  let (mCodes, ef, efFlush) :=
    if bFlag w 0 then
      let e := (s.codes (bAddr w 3) 1 (m * n)).map (decodeFloat 1)
      let gs := g.map (decodeFloat 1)
      let t := s.outBf16 w (List.zipWith (fun x y => x.1.add y.1) gs e)
      (t.elems.map Enc.code, [(bAddr w 3, t.bytes)], e.countP (·.2) + gs.countP (·.2))
    else (g, [], 0)
  let (as, fa) := toOps (bFmtIn w) (bOpnd w) (bOpBias w) mCodes
  let (bs, fb) :=
    if bFlag w 3 then ((s.genMatrix w n r).map (numOperand (bOpnd w) (bBiasB w)), 0)
    else toOps (bFmtIn w) (bOpnd w) (if bOpnd w = 5 then bBiasB w else 0) (s.codes (bAddr w 1) (bFmtIn w) (n * r))
  let t := s.outC w (bedProduct (bSteps w) (bDotBias w) (rowsOf n m as) (colsOf r (rowsOf r n bs)))
  { writes := ef ++ cWrite w t, main := t, flushIn := efFlush + fa + fb, products := m * n * r }

/-- PROJECT_T: Q_s = Mᵀ · P̂. -/
def State.projectTRun (s : State) (w : Work) : BedRun :=
  let m := bRows w
  let n := bCols w
  let r := bRank w
  let (as, fa) := toOps (bFmtIn w) (bOpnd w) (bOpBias w) (s.codes (bAddr w 0) (bFmtIn w) (m * n))
  let (bs, fb) := toOps (bFmtIn w) (bOpnd w) (if bOpnd w = 5 then bBiasB w else 0) (s.codes (bAddr w 1) (bFmtIn w) (m * r))
  let t := s.outC w (bedProduct (bSteps w) (bDotBias w) (colsOf n (rowsOf n m as)) (colsOf r (rowsOf r m bs)))
  { writes := cWrite w t, main := t, flushIn := fa + fb, products := m * n * r }

/-- E = M − Δ in BF16 (R99). -/
def State.residualOut (s : State) (w : Work) (ds : List Num) : OutTensor × Nat :=
  let ms := (s.codes (bAddr w 3) 1 (bRows w * bCols w)).map (decodeFloat 1)
  (s.outBf16 w (List.zipWith (fun x d => x.1.add d.neg) ms ds), ms.countP (·.2))

/-- BACKPROJECT: Δ = P̂ · Q̄ᵀ, with E = M − Δ under EF_OUT, Δ written under WRITE_DELTA and kept under CHAIN (R99). -/
def State.backprojectRun (s : State) (w : Work) : BedRun :=
  let m := bRows w
  let n := bCols w
  let r := bRank w
  let (as, fa) := toOps (bFmtIn w) (bOpnd w) (bOpBias w) (s.codes (bAddr w 0) (bFmtIn w) (m * r))
  let (bs, fb) := toOps (bFmtIn w) (bOpnd w) (if bOpnd w = 5 then bBiasB w else 0) (s.codes (bAddr w 1) (bFmtIn w) (n * r))
  let ds := bedProduct (bSteps w) (bDotBias w) (rowsOf r m as) (rowsOf r n bs)
  let t := s.outC w ds
  let (e, fe) := if bFlag w 1 then s.residualOut w ds else (⟨1, 0, []⟩, 0)
  { writes := cWrite w t ++ (if bFlag w 1 then [(bAddr w 4, e.bytes)] else [])
    main := if writesC w then t else e
    flushIn := fa + fb + fe
    products := m * n * r
    delta := if bFlag w 4 then some ds else none }

/-! ## ORTHO (R100, R101) -/

/-- Row `i`, element `j` of a matrix of LNS16 values; zero outside. -/
def elemAt (a : List (List Lns)) (i j : Nat) : Lns := (a.getD i []).getD j .zero

/-- Whether a value is above zero. -/
def Lns.positive : Lns → Bool
  | .fin false _ => true
  | .inf false => true
  | _ => false

/-- The dot product of the first `j` entries of columns `x` and `y` of the rows formed so far. -/
def colDot (rr : List (List Lns)) (j x y : Nat) : Lns :=
  selDot ((List.range j).map (fun k => elemAt rr k x)) ((List.range j).map (fun k => elemAt rr k y))

/-- The factor's rows from row `j` on: `n` rows are left; with the count of deficient ones. -/
def factorRows (g : List (List Lns)) (shift : Lns) (r : Nat) : (n j : Nat) → List (List Lns) → Nat → List (List Lns) × Nat
  | 0, _, rr, d => (rr, d)
  | n + 1, j, rr, d =>
    let v := selSub (selAdd (elemAt g j j) shift) (colDot rr j j j)
    if v.positive then
      let p := selSqrt v
      let row := (List.range r).map (fun i =>
        if i < j then Lns.zero else if i = j then p else selDiv (selSub (elemAt g j i) (colDot rr j j i)) p)
      factorRows g shift r n (j + 1) (rr ++ [row]) d
    else factorRows g shift r n (j + 1) (rr ++ [List.replicate r .zero]) (d + 1)

/-- Row `j` of the inverse from entry `i` on: `n` entries are left. -/
def inverseRow (rr : List (List Lns)) (j : Nat) : (n i : Nat) → List Lns → List Lns
  | 0, _, acc => acc
  | n + 1, i, acc =>
    let p := elemAt rr i i
    let x :=
      if i < j then Lns.zero
      else if p = .zero then .zero
      else if i = j then selDiv (.fin false 0) p
      else selDiv (selDot (acc.drop j) ((List.range (i - j)).map (fun k => elemAt rr (j + k) i))).neg p
    inverseRow rr j n (i + 1) (acc ++ [x])

/-- ORTHO: P̂ = P̄ · W with the deficient columns counted (R100, R101). -/
def State.orthoRun (s : State) (w : Work) : BedRun :=
  let m := bRows w
  let r := bRank w
  let (as, fa) := toOps (bFmtIn w) 4 0 (s.codes (bAddr w 0) (bFmtIn w) (m * r))
  let rows := rowsOf r m as
  let cols := colsOf r rows
  let g := cols.map (fun a => cols.map (fun b => (bedDot 128 0 a b).to16.clamp16))
  let tr := ((List.range r).foldl (fun acc i => acc40 acc ((elemAt g i i).linear 128 0)) (Num.zero)).to16.clamp16
  let shift := selDiv (selScale (-20) tr) (Num.to16 (.fin false r 0)).clamp16
  let (rr, deficient) := factorRows g shift r r 0 [] 0
  let inv := (List.range r).map (fun j => inverseRow rr j r 0 [])
  let t := s.outC w (bedProduct 128 0 rows (colsOf r inv))
  { writes := cWrite w t, main := t, flushIn := fa, products := 2 * m * r * r, warn := if deficient = 0 then 0 else 0x0B0A
    engine := deficient }

/-! ## Element-wise operations (R99, R102, R103, R106) -/

/-- The linear values of `n` elements with the subnormals replaced. -/
def State.linears (s : State) (a fmt : Nat) (bias : Int) (n : Nat) : List Num × Nat :=
  let xs := (s.codes a fmt n).map (decodeNum fmt bias)
  (xs.map (·.1), xs.countP (·.2))

/-- Round an accumulator value to FP32 (R102). -/
def roundFp32 (x : Num) : Enc := encodeFloat 0 0 x

/-- One element of MOMENTUM or NESTEROV: new θ and new v (R102). -/
def momentumElem (nesterov : Bool) (mu eta : Lns) (theta v d : Num) : Enc × Enc :=
  let vNew := roundFp32 (acc40 (mulLinear mu v) d)
  let v' := (decodeFloat 0 vNew.code).1
  let step := if nesterov then acc40 (mulLinear mu v') d else v'
  (roundFp32 (acc40 theta (mulLinear eta step).neg), vNew)

/-- MOMENTUM and NESTEROV (R102). -/
def State.momentumRun (s : State) (w : Work) : BedRun :=
  let n := bRows w * bCols w
  let (ds, fd) :=
    if bFlag w 4 then
      (match s.chainedFor w with
       | some c => (c.values, 0)
       | none => ([], 0))
    else s.linears (bAddr w 0) (bFmtIn w) (bOpBias w) n
  let (th, ft) := s.linears (bAddr w 3) 0 0 n
  let (vs, fv) := s.linears (bAddr w 4) 0 0 n
  let out := List.zipWith (fun (x : Num × Num) d => momentumElem (bOp w == 6) (bParam w 0) (bParam w 1) x.1 x.2 d) (th.zip vs) ds
  let theta : OutTensor := ⟨0, 0, out.map (·.1)⟩
  let vel : OutTensor := ⟨0, 0, out.map (·.2)⟩
  let c := s.outBf16 w (theta.elems.map (fun e => (decodeFloat 0 e.code).1))
  let hasC := bAddr w 2 != 0
  { writes := [(bAddr w 3, theta.bytes), (bAddr w 4, vel.bytes)] ++ (if hasC then [(bAddr w 2, c.bytes)] else [])
    main := if hasC then c else theta
    flushIn := fd + ft + fv }

/-- An LNS16 value written as C: by R78 into LNS8, by R79 into a linear format. -/
def State.encodeLnsOut (s : State) (w : Work) (i : Nat) (x : Lns) : Enc :=
  if bFmtOut w = 4 then encodeLns 4 x
  else if bFmtOut w = 5 then encodeLns 5 (Lns.narrow (bBiasA w) x)
  else encodeNum (bFmtOut w) (bMode w) (bBiasA w) (s.bedRandom w i) (x.linear 128 0)

/-- Whether an unbounded LNS16 value lies above or below the finite ones. -/
def Lns.out16 : Lns → Bool × Bool
  | .fin _ l => (decide (l > 16382), decide (l < -16383))
  | _ => (false, false)

/-- SCALE: y = α × 2^k × x, one LNS multiply and one exact scale (R103). -/
def State.scaleRun (s : State) (w : Work) : BedRun :=
  let (xs, fx) := toOps (bFmtIn w) 4 (bOpBias w) (s.codes (bAddr w 0) (bFmtIn w) (bRows w * bCols w))
  let one (i : Nat) (x : Lns) : Enc :=
    let p := (bParam w 0).mul x
    let q : Lns := match p.clamp16 with
      | .fin n l => .fin n (l + 128 * bScale w)
      | y => y
    let e := s.encodeLnsOut w i q.clamp16
    { code := e.code, sat := e.sat || p.out16.1 || q.out16.1, flush := e.flush || p.out16.2 || q.out16.2 }
  let t : OutTensor := ⟨bFmtOut w, bBiasA w, xs.mapIdx one⟩
  { writes := cWrite w t, main := t, flushIn := fx }

/-- RESIDUAL: E = M − Δ from a stored Δ (R99). -/
def State.residualRun (s : State) (w : Work) : BedRun :=
  let (ds, fd) := s.linears (bAddr w 0) (bFmtIn w) (bOpBias w) (bRows w * bCols w)
  let (e, fe) := s.residualOut w ds
  { writes := [(bAddr w 4, e.bytes)], main := e, flushIn := fd + fe }

/-- GENERATE: the starting projection matrix (R106). -/
def State.generateRun (s : State) (w : Work) : BedRun :=
  let t := s.outC w (s.genMatrix w (bCols w) (bRank w))
  { writes := cWrite w t, main := t }

/-! ## Completion, faults and suspects (R43, R112, R113) -/

/-- The round that an output feeds, by the state of its step (R113): 3 for UPDATE. -/
def fedRound (st : Nat) : Nat := if st ≤ 3 then 0 else if st ≤ 7 then 1 else 3

/-- Remember an output completed since the last passing swatch. -/
def State.suspect (s : State) (w : Work) : State :=
  match s.entryOf w.job with
  | none => s
  | some j =>
    { s with bed := { s.bed with suspect := addOnce s.bed.suspect (w.job, w.step, fedRound (s.stepRec j).state) } }

/-- Complete an operation: its output, histogram and summary, counts and events (R85 to R89). -/
def State.bedDone (s : State) (w : Work) (run : BedRun) (warn : Nat) : State :=
  let cls := s.classOf w
  let s := s.readEvents w (bedAccess w)
  let s := s.dropChained w
  let s := run.writes.foldl (fun s x => s.engineWrite 11 cls x.1 x.2) s
  let h := w.field 16 8
  let s := if h = 0 then s else s.engineWrite 11 cls h (run.main.histogram run.flushIn (w.field 2 1))
  let s := if run.products = 0 then s else (s.addWrap BED_MAC_COUNT.MACS run.products).pmonEdge 0x002B run.products (s.attrOf w)
  let s := match run.delta with
    | none => s
    | some ds =>
      if w.flags.testBit 2 then
        let d : ChainedDelta := ⟨getBits (w.field 6 2) 0 13, w.field 24 8, bRows w, bCols w, ds⟩
        { s with bed := { s.bed with chained := s.bed.chained ++ [d] } }
      else s
  let warn := if run.warn ≠ 0 then run.warn else warn
  (s.suspect w).finish w { reason := warn, warning := warn != 0, block := 11, engine := run.engine
                           summary := run.main.summary run.flushIn (h != 0) }

/-- End an operation with poisoned output (R90): a job's descriptor runs once more first (R43). -/
def State.bedPoison (s : State) (w : Work) (run : BedRun) (reason : Nat) (again : Bool) : State :=
  let ins := (bedAccess w).filter (fun x => !x.1)
  let outs := if again then run.writes.filter (fun x => !(ins.any (fun i => i.2.1 == x.1))) else run.writes
  let s := outs.foldl (fun s x => s.poisonBytes x.1 x.2.length) s
  if again then { s with rerun := s.rerun ++ [w] }
  else
    (s.dropChained w).finish w { reason := reason, error := true, poisoned := true, block := 11, summary := poisonedSummary }

/-- Refuse a descriptor: no work, and a Δ held for it is discarded (R97). -/
def State.bedRefuse (s : State) (w : Work) (reason : Nat) : State :=
  let s := if reason = 0x0B03 then s.logAccess w (bedAccess w) else s
  (s.dropChained w).finishError w reason

/-- Run one operation on the bed: checks, poison, mismatches, then the result (R22, R96, R97, R112). `again` says that it is a
run of R43. -/
def State.bedRun (s : State) (op : Nat) (w : Work) (run : State → Work → BedRun) (faults : List BedFault) (again : Bool) : State :=
  let s := s.bedBoundary
  match s.bedCheck op w with
  | some r => s.bedRefuse w r
  | none =>
    let out := run s w
    if s.readsPoison (bedAccess w) then
      ((s.addSat BED_ERR_COUNT.POISON_IN 1).report 0x0B0B).bedPoison w out 0x0B0B false
    else
      let fs := faults.filter s.canMismatch
      let s := fs.foldl (fun s f => s.bedMismatch w f) s
      let bad := fs.filter (fun f => f.kind != .inconclusive)
      if bad.isEmpty then s.bedDone w out (if fs.isEmpty then 0 else 0x0B06)
      else
        let reason := if bad.all (fun f => match f.kind with
          | .swatch _ => true
          | _ => false) then 0x0B07 else 0x0B05
        s.bedPoison w out reason (decide (w.job ≠ 0) && !again)

/-- PROJECT (R98, R106). `faults` are the mismatches that the checks find and their outcome. -/
def execProject (w : Work) (faults : List BedFault) (s : State) : Host.Outcome State Fault Refusal :=
  .next (s.bedRun 1 w State.projectRun faults false)

/-- PROJECT_T. -/
def execProjectT (w : Work) (faults : List BedFault) (s : State) : Host.Outcome State Fault Refusal :=
  .next (s.bedRun 2 w State.projectTRun faults false)

/-- BACKPROJECT (R99). -/
def execBackproject (w : Work) (faults : List BedFault) (s : State) : Host.Outcome State Fault Refusal :=
  .next (s.bedRun 3 w State.backprojectRun faults false)

/-- ORTHO (R100, R101). -/
def execOrtho (w : Work) (faults : List BedFault) (s : State) : Host.Outcome State Fault Refusal :=
  .next (s.bedRun 4 w State.orthoRun faults false)

/-- MOMENTUM (R102). -/
def execMomentum (w : Work) (s : State) : Host.Outcome State Fault Refusal := .next (s.bedRun 5 w State.momentumRun [] false)

/-- NESTEROV (R102). -/
def execNesterov (w : Work) (s : State) : Host.Outcome State Fault Refusal := .next (s.bedRun 6 w State.momentumRun [] false)

/-- SCALE (R103). -/
def execScale (w : Work) (s : State) : Host.Outcome State Fault Refusal := .next (s.bedRun 7 w State.scaleRun [] false)

/-- RESIDUAL (R99). -/
def execResidual (w : Work) (s : State) : Host.Outcome State Fault Refusal := .next (s.bedRun 8 w State.residualRun [] false)

/-- GENERATE (R106). -/
def execGenerate (w : Work) (s : State) : Host.Outcome State Fault Refusal := .next (s.bedRun 9 w State.generateRun [] false)

/-! ## Swatches (R111, R113) -/

/-- Act on suspect output (R113): one notice per step for output that has left the module, naming the earliest round, and the
local fault of Table STEP-8 for output of UPDATE. -/
def State.bedSuspects (s : State) (reason location : Nat) : State :=
  let sus := s.bed.suspect
  let s := { s with bed := { s.bed with suspect := [] } }
  (sus.map (fun x => (x.1, x.2.1))).dedup.foldl (fun s k =>
    match s.entryOf k.1 with
    | none => s
    | some j =>
      let rs := (sus.filter (fun x => (x.1, x.2.1) == k)).map (fun x => x.2.2)
      let sent := rs.filter (fun r => decide (r < 3) && s.xport.retained.any (fun x =>
        x.entry == j && x.step == k.2 && chunkRound x.chunk == r))
      let s := match leastBy id sent with
        | none => s
        | some r =>
          s.issueNotice j { path := 3, reason := reason, step := k.2, round := r, frog := (s.stepRec j).frog, location := location
                            epoch := s.get BED_STATUS.SWATCH_EPOCH }
      if rs.contains 3 then s.localUpdateFault j reason else s) s

/-- A failing swatch (Table BED-5): groups substituted or taken out of service, the selvedge out of use, suspects handled. -/
def State.bedSwatchFail (s : State) (f : BedSwatchFail) (w : Option Work) : State :=
  let queue := (w.map (·.queue)).getD 0
  let s := s.addSat BED_ERR_COUNT.SWATCH_FAIL 1
  let hit := f.groups.filter (fun x => s.groupOn x.1.val)
  let s := hit.foldl (fun s x =>
    (((s.bedLog 0x0B07 x.1.val x.2 queue).report 0x0B07).raise BED_INT_STATUS.SWATCH_FAIL).groupFault 0x0B07 x.1.val x.2 w) s
  let s := if f.selvedge then
      ((((s.set BED_STATUS.SELVEDGE_OK 0).set BED_ERR_LOG.REASON 0x0B0C).raise BED_INT_STATUS.SELVEDGE_FAULT).handOver 0x0B0C).health
        { reason := 0x0B0C, kind := 2, level := 0, block := 11, panel := 1, action := 3 }
    else s
  let s := if hit.isEmpty then s else s.bedSuspects 0x0B07 ((hit.head?.map (fun x => x.1.val)).getD 0xFFFF)
  if f.selvedge then s.bedSuspects 0x0B0C 0xFFFF else s

/-- BED_SWATCH: a SWATCH descriptor runs the tile that ROWS names (Table BED-2); `fail` is what its comparison names. -/
def execBedSwatch (w : Work) (fail : BedSwatchFail) (s : State) : Host.Outcome State Fault Refusal :=
  let s := s.bedBoundary
  match s.bedCheck 0x0F w with
  | some r => .next (s.bedRefuse w r)
  | none =>
    let s := s.dropChained w
    if fail.passes then .next (s.finish w { block := 11, summary := OutTensor.summary ⟨0, 0, []⟩ 0 false })
    else .next ((s.bedSwatchFail fail (some w)).finishError w (if fail.groups.isEmpty then 0x0B0C else 0x0B07))

/-- BED_INTERLEAVED_SWATCH (R111, R113): the next tile of the rotation. A pass advances the epoch and clears what is
suspect. -/
def execBedInterleavedSwatch (fail : BedSwatchFail) (s : State) : Host.Outcome State Fault Refusal :=
  if !s.on BED_STATUS.READY then .next s
  else
    let s := { s with bed := { s.bed with nextTile := (s.bed.nextTile + 1) % max 1 (s.get BED_SWATCH.SET_SIZE) } }
    if fail.passes then
      .next ({ s with bed := { s.bed with suspect := [] } }.addWrap BED_STATUS.SWATCH_EPOCH 1)
    else .next (s.bedSwatchFail fail none)

/-- BED_STALL_RESUME (R117): the feed lanes (`feed`) or the drain lanes go on after a number of stalled handshakes, which are
counted in units of 1,024. -/
def execBedStallResume (feed : Bool) (handshakes : Nat) (s : State) : Host.Outcome State Fault Refusal :=
  if feed then
    let n := s.bed.feedRem + handshakes
    .next ({ s with bed := { s.bed with feedRem := n % 1024 } }.addSat BED_STALL.FEED_STALL (n / 1024))
  else
    let n := s.bed.drainRem + handshakes
    .next ({ s with bed := { s.bed with drainRem := n % 1024 } }.addSat BED_STALL.DRAIN_STALL (n / 1024))

end Sys2Proof.Machine
end

