-- ==== Sys2Proof/Machine/Crypto.lean ====
section
/-!
DEFINITION. Machine/Crypto.lean: the standards that spec/09_cipher_and_keys.md names by number: AES-256 (FIPS 197), GCM
(NIST SP 800-38D), SHA-256 (FIPS 180-4), HMAC (FIPS 198-1) and the counter-mode KDF (NIST SP 800-108r1) (R236, R259, R265).
-/
namespace Sys2Proof.Machine

/-! ## AES-256 (FIPS 197) -/

/-- The S-box. -/
def sbox : List Byte :=
  [0x63, 0x7C, 0x77, 0x7B, 0xF2, 0x6B, 0x6F, 0xC5, 0x30, 0x01, 0x67, 0x2B, 0xFE, 0xD7, 0xAB, 0x76] ++
  [0xCA, 0x82, 0xC9, 0x7D, 0xFA, 0x59, 0x47, 0xF0, 0xAD, 0xD4, 0xA2, 0xAF, 0x9C, 0xA4, 0x72, 0xC0] ++
  [0xB7, 0xFD, 0x93, 0x26, 0x36, 0x3F, 0xF7, 0xCC, 0x34, 0xA5, 0xE5, 0xF1, 0x71, 0xD8, 0x31, 0x15] ++
  [0x04, 0xC7, 0x23, 0xC3, 0x18, 0x96, 0x05, 0x9A, 0x07, 0x12, 0x80, 0xE2, 0xEB, 0x27, 0xB2, 0x75] ++
  [0x09, 0x83, 0x2C, 0x1A, 0x1B, 0x6E, 0x5A, 0xA0, 0x52, 0x3B, 0xD6, 0xB3, 0x29, 0xE3, 0x2F, 0x84] ++
  [0x53, 0xD1, 0x00, 0xED, 0x20, 0xFC, 0xB1, 0x5B, 0x6A, 0xCB, 0xBE, 0x39, 0x4A, 0x4C, 0x58, 0xCF] ++
  [0xD0, 0xEF, 0xAA, 0xFB, 0x43, 0x4D, 0x33, 0x85, 0x45, 0xF9, 0x02, 0x7F, 0x50, 0x3C, 0x9F, 0xA8] ++
  [0x51, 0xA3, 0x40, 0x8F, 0x92, 0x9D, 0x38, 0xF5, 0xBC, 0xB6, 0xDA, 0x21, 0x10, 0xFF, 0xF3, 0xD2] ++
  [0xCD, 0x0C, 0x13, 0xEC, 0x5F, 0x97, 0x44, 0x17, 0xC4, 0xA7, 0x7E, 0x3D, 0x64, 0x5D, 0x19, 0x73] ++
  [0x60, 0x81, 0x4F, 0xDC, 0x22, 0x2A, 0x90, 0x88, 0x46, 0xEE, 0xB8, 0x14, 0xDE, 0x5E, 0x0B, 0xDB] ++
  [0xE0, 0x32, 0x3A, 0x0A, 0x49, 0x06, 0x24, 0x5C, 0xC2, 0xD3, 0xAC, 0x62, 0x91, 0x95, 0xE4, 0x79] ++
  [0xE7, 0xC8, 0x37, 0x6D, 0x8D, 0xD5, 0x4E, 0xA9, 0x6C, 0x56, 0xF4, 0xEA, 0x65, 0x7A, 0xAE, 0x08] ++
  [0xBA, 0x78, 0x25, 0x2E, 0x1C, 0xA6, 0xB4, 0xC6, 0xE8, 0xDD, 0x74, 0x1F, 0x4B, 0xBD, 0x8B, 0x8A] ++
  [0x70, 0x3E, 0xB5, 0x66, 0x48, 0x03, 0xF6, 0x0E, 0x61, 0x35, 0x57, 0xB9, 0x86, 0xC1, 0x1D, 0x9E] ++
  [0xE1, 0xF8, 0x98, 0x11, 0x69, 0xD9, 0x8E, 0x94, 0x9B, 0x1E, 0x87, 0xE9, 0xCE, 0x55, 0x28, 0xDF] ++
  [0x8C, 0xA1, 0x89, 0x0D, 0xBF, 0xE6, 0x42, 0x68, 0x41, 0x99, 0x2D, 0x0F, 0xB0, 0x54, 0xBB, 0x16]

/-- Substitute one byte. -/
def subByte (b : Byte) : Byte := sbox.getD b.toNat 0

/-- Multiply by x in GF(2^8) modulo x^8 + x^4 + x^3 + x + 1. -/
def xtime (b : Byte) : Byte := if b.getLsbD 7 then (b <<< 1) ^^^ 0x1B#8 else b <<< 1

/-- XOR of two byte strings, as long as the shorter. -/
def xorBytes (a b : Bytes) : Bytes := List.zipWith (· ^^^ ·) a b

/-- The round constant of key-schedule step `n` (from 1). -/
def rcon : Nat → Byte
  | 0 => 0x8D#8
  | n + 1 => xtime (rcon n)

/-- Word `i` of the key schedule from the words before it, newest first. -/
def keyWord (i : Nat) (prev : List Bytes) : Bytes :=
  let t := prev.getD 0 []
  let base := prev.getD 7 []
  if i % 8 = 0 then
    let r := (t.drop 1 ++ t.take 1).map subByte
    xorBytes base (xorBytes r [rcon (i / 8), 0, 0, 0])
  else if i % 8 = 4 then xorBytes base (t.map subByte)
  else xorBytes base t

/-- Extend a schedule, newest word first, by `n` words from word `i`. -/
def keyExtend : (n i : Nat) → List Bytes → List Bytes
  | 0, _, ws => ws
  | n + 1, i, ws => keyExtend n (i + 1) (keyWord i ws :: ws)

/-- Cut bytes into `n` pieces of `k` bytes. -/
def pieces (k : Nat) : (n : Nat) → Bytes → List Bytes
  | 0, _ => []
  | n + 1, bs => bs.take k :: pieces k n (bs.drop k)

/-- The 15 round keys of a 256-bit key. -/
def roundKeys (key : Bytes) : List Bytes :=
  pieces 16 15 (keyExtend 52 8 (pieces 4 8 key).reverse).reverse.flatten

/-- ShiftRows on a block held column by column. -/
def shiftRows (b : Bytes) : Bytes := (List.range 16).map (fun i => b.getD ((i + 4 * (i % 4)) % 16) 0)

/-- MixColumns of one column. -/
def mixColumn (c : Bytes) : Bytes :=
  (List.range 4).map (fun i =>
    let g (k : Nat) : Byte := c.getD ((i + k) % 4) 0
    xtime (g 0) ^^^ (xtime (g 1) ^^^ g 1) ^^^ g 2 ^^^ g 3)

/-- The middle rounds. -/
def aesRounds : List Bytes → Bytes → Bytes
  | [], b => b
  | [k], b => xorBytes (shiftRows (b.map subByte)) k
  | k :: ks, b => aesRounds ks (xorBytes ((pieces 4 4 (shiftRows (b.map subByte))).flatMap mixColumn) k)

/-- Encrypt one block under its round keys. -/
def aesBlock (ks : List Bytes) (b : Bytes) : Bytes :=
  match ks with
  | [] => b
  | k :: r => aesRounds r (xorBytes b k)

/-! ## GCM (SP 800-38D) -/

/-- Multiply in GF(2^128) of GCM: `n` bits of `x` from the most significant are left, `v` the multiple, `z` the sum. -/
def gmulStep (x : BitVec 128) : (n : Nat) → BitVec 128 → BitVec 128 → BitVec 128
  | 0, _, z => z
  | n + 1, v, z =>
    let z := if x.getLsbD n then z ^^^ v else z
    gmulStep x n (if v.getLsbD 0 then (v >>> 1) ^^^ (0xE1#128 <<< 120) else v >>> 1) z

/-- Product in GF(2^128) of GCM. -/
def gmul (x y : BitVec 128) : BitVec 128 := gmulStep x 128 y 0#128

/-- A block as a 128-bit number, first byte most significant. -/
def blockBits (b : Bytes) : BitVec 128 := BitVec.ofNat 128 (beVal b)

/-- Zero fill to whole blocks. -/
def padBlocks (b : Bytes) : Bytes := b ++ zeros ((16 - b.length % 16) % 16)

/-- GHASH of whole blocks under hash key `h`. -/
def ghash (h : BitVec 128) (b : Bytes) : BitVec 128 :=
  (pieces 16 (b.length / 16) b).foldl (fun y x => gmul (y ^^^ blockBits x) h) 0#128

/-- Key stream XOR: counter blocks from `c` under a 12-byte IV. -/
def gctr (ks : List Bytes) (iv : Bytes) (c : Nat) (b : Bytes) : Bytes :=
  (pieces 16 (ceilDiv b.length 16) b).zipIdx.flatMap (fun (p : Bytes × Nat) =>
    xorBytes p.1 (aesBlock ks (iv ++ be 4 ((c + p.2) % 2 ^ 32))))

/-- The tag of a ciphertext with additional data. -/
def gcmTag (ks : List Bytes) (iv aad ct : Bytes) : Bytes :=
  let h := blockBits (aesBlock ks (zeros 16))
  let s := ghash h (padBlocks aad ++ padBlocks ct ++ be 8 (8 * aad.length) ++ be 8 (8 * ct.length))
  xorBytes (be 16 s.toNat) (aesBlock ks (iv ++ be 4 1))

/-- Seal: ciphertext and 16-byte tag (R236). -/
def gcmSeal (key iv aad pt : Bytes) : Bytes × Bytes :=
  let ks := roundKeys key
  let ct := gctr ks iv 2 pt
  (ct, gcmTag ks iv aad ct)

/-- Open: the plaintext, where the tag verifies (R236). -/
def gcmOpen (key iv aad ct tag : Bytes) : Option Bytes :=
  let ks := roundKeys key
  if gcmTag ks iv aad ct = tag then some (gctr ks iv 2 ct) else none

/-! ## SHA-256 (FIPS 180-4) -/

/-- The round constants. -/
def shaK : List (BitVec 32) :=
  [0x428A2F98, 0x71374491, 0xB5C0FBCF, 0xE9B5DBA5, 0x3956C25B, 0x59F111F1, 0x923F82A4, 0xAB1C5ED5] ++
  [0xD807AA98, 0x12835B01, 0x243185BE, 0x550C7DC3, 0x72BE5D74, 0x80DEB1FE, 0x9BDC06A7, 0xC19BF174] ++
  [0xE49B69C1, 0xEFBE4786, 0x0FC19DC6, 0x240CA1CC, 0x2DE92C6F, 0x4A7484AA, 0x5CB0A9DC, 0x76F988DA] ++
  [0x983E5152, 0xA831C66D, 0xB00327C8, 0xBF597FC7, 0xC6E00BF3, 0xD5A79147, 0x06CA6351, 0x14292967] ++
  [0x27B70A85, 0x2E1B2138, 0x4D2C6DFC, 0x53380D13, 0x650A7354, 0x766A0ABB, 0x81C2C92E, 0x92722C85] ++
  [0xA2BFE8A1, 0xA81A664B, 0xC24B8B70, 0xC76C51A3, 0xD192E819, 0xD6990624, 0xF40E3585, 0x106AA070] ++
  [0x19A4C116, 0x1E376C08, 0x2748774C, 0x34B0BCB5, 0x391C0CB3, 0x4ED8AA4A, 0x5B9CCA4F, 0x682E6FF3] ++
  [0x748F82EE, 0x78A5636F, 0x84C87814, 0x8CC70208, 0x90BEFFFA, 0xA4506CEB, 0xBEF9A3F7, 0xC67178F2]

/-- The initial hash value. -/
def shaInit : List (BitVec 32) :=
  [0x6A09E667, 0xBB67AE85, 0x3C6EF372, 0xA54FF53A, 0x510E527F, 0x9B05688C, 0x1F83D9AB, 0x5BE0CD19]

/-- Message-schedule word from the words before it, newest first. -/
def shaWord (ws : List (BitVec 32)) : BitVec 32 :=
  let w (k : Nat) : BitVec 32 := ws.getD (k - 1) 0
  let s0 := (w 15).rotateRight 7 ^^^ (w 15).rotateRight 18 ^^^ (w 15 >>> 3)
  let s1 := (w 2).rotateRight 17 ^^^ (w 2).rotateRight 19 ^^^ (w 2 >>> 10)
  w 16 + s0 + w 7 + s1

/-- Extend a message schedule, newest first, by `n` words. -/
def shaExtend : Nat → List (BitVec 32) → List (BitVec 32)
  | 0, ws => ws
  | n + 1, ws => shaExtend n (shaWord ws :: ws)

/-- One round on the eight working variables. -/
def shaRound (v : List (BitVec 32)) (kw : BitVec 32) : List (BitVec 32) :=
  match v with
  | [a, b, c, d, e, f, g, h] =>
    let s1 := e.rotateRight 6 ^^^ e.rotateRight 11 ^^^ e.rotateRight 25
    let t1 := h + s1 + ((e &&& f) ^^^ (~~~e &&& g)) + kw
    let s0 := a.rotateRight 2 ^^^ a.rotateRight 13 ^^^ a.rotateRight 22
    let t2 := s0 + ((a &&& b) ^^^ (a &&& c) ^^^ (b &&& c))
    [t1 + t2, a, b, c, d + t1, e, f, g]
  | _ => v

/-- Compress one 64-byte block into a hash value. -/
def shaBlock (h : List (BitVec 32)) (blk : Bytes) : List (BitVec 32) :=
  let m := (pieces 4 16 blk).map (fun b => BitVec.ofNat 32 (beVal b))
  let w := (shaExtend 48 m.reverse).reverse
  List.zipWith (· + ·) h ((List.zipWith (· + ·) shaK w).foldl shaRound h)

/-- SHA-256 of a byte string. -/
def sha256 (b : Bytes) : Bytes :=
  let m := b ++ [0x80#8] ++ zeros ((119 - b.length % 64) % 64) ++ be 8 (8 * b.length)
  ((pieces 64 (m.length / 64) m).foldl shaBlock shaInit).flatMap (fun w => be 4 w.toNat)

/-- HMAC-SHA-256. -/
def hmac (key msg : Bytes) : Bytes :=
  let k := padTo 64 (if key.length > 64 then sha256 key else key)
  sha256 (k.map (· ^^^ 0x5C#8) ++ sha256 (k.map (· ^^^ 0x36#8) ++ msg))

/-- `n` bytes of the counter-mode KDF with a 32-bit counter, a zero byte between label and context, and the length in bits
as 32 bits (SP 800-108r1; log entry 22). -/
def kdf (key label ctx : Bytes) (n : Nat) : Bytes :=
  ((List.range (ceilDiv n 32)).flatMap (fun i =>
    hmac key (be 4 (i + 1) ++ label ++ [0#8] ++ ctx ++ be 4 (8 * n)))).take n

/-- ASCII bytes of a label. -/
def ascii (s : String) : Bytes := s.toList.map (fun c => BitVec.ofNat 8 c.toNat)

end Sys2Proof.Machine
end

