-- ==== Sys2Proof/Machine/Transmit.lean ====
section
/-!
DEFINITION. Machine/Transmit.lean: the sending side of the transport: chunk messages and their shards, retention, windows,
retransmission, keepalives, resends and rebuilds (spec/08_long_haul_transport.md, R199 to R202, R208, R214 to R217, R220 to
R229).
-/
namespace Sys2Proof.Machine
open Csr

/-! ## Shards (Table XPORT-2) -/

/-- A data or parity shard of a flow: header with TX_TIME still zero, then the body. -/
def State.shardBytes (s : State) (j peer index k m seq : Nat) (retx : Bool) (body : Bytes) : Bytes :=
  let h := [0xC3, 0x5A] ++ le 1 (1 + 16 * b2n (decide (k ≤ index)) + 64 * b2n retx) ++ le 1 index ++ le 1 (k + 32 * m) ++
    le 1 (s.localSite + 16 * peer) ++ le 1 (s.get XPORT_CTRL.GROUP_POS) ++ le 1 (s.flowTenant j) ++ le 2 (s.flowJob j) ++
    le 2 8192 ++ le 4 seq ++ zeros 8 ++ le 4 (crc32c body)
  h ++ le 4 (crc32c h) ++ body

/-- The shards of one codeword in index order: data, then parity (R204). -/
def codewordShards (k m : Nat) (data : Bytes) : List Bytes :=
  let d := (List.range k).map (fun i => slice data (8192 * i) 8192)
  d ++ rsParity 8192 m d

/-- Hand the codewords of a chunk message to the ports of `u`: INDEX x to the (x + 1)-th lowest (R208). -/
def State.sendCodewords (s : State) (j peer first k m : Nat) (u : List Nat) (msg : Bytes) : State :=
  (List.range (msg.length / (8192 * k))).foldl (fun s i =>
    ((codewordShards k m (slice msg (8192 * k * i) (8192 * k))).zipIdx).foldl (fun s x =>
      s.lineEnqueue ⟨u.getD x.2 0, s.flowQueue j peer, s.flowTenant j, false, false,
        s.shardBytes j peer x.2 k m ((first + i) % 2 ^ 32) false x.1⟩) s) s

/-! ## Sending chunk messages (R199, R208, R221, R222) -/

/-- What a chunk message is formed from: the first 44 header bytes, ciphertext with tag, and what its retention copy
records. -/
structure ChunkMsg where
  head : Bytes
  payload : Bytes
  sendCount : Nat
  ctx : Nat
  slot : Nat
  again : Bool

/-- STEP of a chunk header. -/
def hdrStep (h : Bytes) : Nat := fieldAt h 8 4
/-- CHUNK_ID of a chunk header. -/
def hdrChunk (h : Bytes) : Nat := fieldAt h 12 4
/-- FROG_COUNT of a chunk header. -/
def hdrFrog (h : Bytes) : Nat := getBits (fieldAt h 2 1) 4 3

/-- A flow is held: its reason is reported once, until it sends again (R208, R221). -/
def State.holdFlow (s : State) (j peer reason : Nat) (f : Field) : State :=
  if (j, peer) ∈ s.xport.heldFlows then s
  else
    ({ s with xport := { s.xport with heldFlows := s.xport.heldFlows ++ [(j, peer)] } }.xportLog reason peer 0 (s.flowJob j)).raise f

/-- Codewords of a flow that are sent and not acknowledged (R201). -/
def State.openSent (s : State) (j peer : Nat) : Nat :=
  (s.xport.retained.filter (fun r => r.entry == j && r.peer == peer && !r.acked)).foldl (fun a r => a + r.cwCount) 0

/-- Form and send one chunk message on a flow, or leave it waiting: none where the flow is held (R199, R201, R208, R221,
R222). A resend does not wait for the window. -/
def State.sendMessage (s : State) (j peer : Nat) (c : ChunkMsg) : Option State × State :=
  let u := s.usable peer
  match s.codeFor u.length with
  | none => (none, s.holdFlow j peer 0x091E XPORT_INT_STATUS.CODE)
  | some (k, m) =>
    let f := s.flow j peer
    let count := ceilDiv (64 + c.payload.length) (k * 8192)
    let len := count * k * 8192
    let out := s.inflight peer
    if s.openSent j peer + count > 2 ^ 30 ∨ (!c.again ∧ out ≠ 0 ∧ out + len > s.windowNow peer) then
      (none, s)
    else
      match s.retainAlloc len with
      | none => (none, s.holdFlow j peer 0x0919 XPORT_INT_STATUS.RETAIN_FULL)
      | some a =>
        let h := c.head ++ le 4 f.nextCw ++ le 4 count ++ le 1 (min c.sendCount 255) ++ zeros 7
        let msg := padTo len (h ++ le 4 (crc32c h) ++ c.payload)
        let r : Retained := ⟨j, peer, hdrStep h, hdrChunk h, hdrFrog h, a, len, f.nextCw, count, k, m, c.ctx, c.slot, false⟩
        let s := if f.lastCode.isSome && f.lastCode != some (k, m) then
            (s.xportLog 0x091D peer 0 (s.flowJob j)).raise XPORT_INT_STATUS.CODE
          else s
        let s := (s.set PEER_STATUS.K_NOW k peer).set PEER_STATUS.M_NOW m peer
        let s := s.writeBytes a msg
        let s := s.putFlow j peer { f with nextCw := (f.nextCw + count) % 2 ^ 32, lastCode := some (k, m) }
        let s := { s with xport := { s.xport with
          retained := s.xport.retained ++ [r]
          heldFlows := s.xport.heldFlows.filter (· ≠ (j, peer)) } }
        let rec' := s.stepRec j
        let s := if rec'.step = r.step then s.putRec j { rec' with sent := rec'.sent + len } else s
        (some ((s.sendCodewords j peer f.nextCw k m u msg).usageUpdate.peerUpdate peer), s)

/-- Send the next message of a flow: a resend from retention first, then the oldest sealed chunk (R199, R220, R228). A peer
that is unreachable is sent nothing new (R226). -/
def State.formChunk (s : State) (j peer : Nat) : State :=
  if !s.xportReady || !s.reaches j peer then s
  else
    match s.xport.resend.find? (fun r => r.1 == j && r.2.1 == peer) with
    | some q =>
      let drop (s : State) : State := { s with xport := { s.xport with resend := s.xport.resend.erase q } }
      (match s.xport.retained.find? (fun r => r.entry == j && r.peer == peer && r.step == q.2.2.1 && r.chunk == q.2.2.2) with
      | none => drop s
      | some r =>
        let b := s.readBytes r.addr (64 + fieldAt (s.readBytes r.addr 64) 24 4 + 16)
        let t := { s with xport := { s.xport with retained := s.xport.retained.erase r } }
        let c : ChunkMsg := ⟨b.take 44, b.drop 64, fieldAt b 52 1 + 1, r.ctx, r.slot, true⟩
        (match t.sendMessage j peer c with
        | (some t', _) => drop t'
        | (none, t') => { t' with xport := { t'.xport with retained := s.xport.retained } }))
    | none =>
      match s.xport.sealed.find? (fun c => c.entry == j && c.peer == peer) with
      | none => s
      | some c =>
        let h := s.readBytes c.hdr 44
        let m : ChunkMsg := ⟨h, s.readBytes c.data (fieldAt h 24 4 + 16), c.sendCount, c.ctx, c.slot, false⟩
        match s.sendMessage j peer m with
        | (some t, _) => { t with xport := { t.xport with sealed := t.xport.sealed.erase c } }
        | (none, t) => t

/-- CHUNK_MESSAGE_FORM (R199, R208): the next chunk of a flow becomes a chunk message, takes its code and codewords, is
retained and handed to the ports. -/
def execChunkMessageForm (j : Fin 128) (peer : Fin 16) (s : State) : Host.Outcome State Fault Refusal :=
  .next (s.formChunk j peer)

/-! ## Acknowledgements taken (R214, R216, R219, R221) -/

/-- Queue retransmissions of a NACKed codeword (R214): each data shard whose index is not in HAVE, read from retention. -/
def State.retransmit (s : State) (j peer cw have' : Nat) : State :=
  match s.xport.retained.find? (fun r => r.entry == j && r.peer == peer && decide ((cw + 2 ^ 32 - r.cwFirst) % 2 ^ 32 < r.cwCount)) with
  | none => s
  | some r =>
    let i := (cw + 2 ^ 32 - r.cwFirst) % 2 ^ 32
    let u := s.usable peer
    if u = [] then s
    else
      ((List.range r.k).filter (fun x => !have'.testBit x)).foldl (fun s x =>
        let body := s.readBytes (r.addr + 8192 * (r.k * i + x)) 8192
        let s := s.lineEnqueue ⟨u.getD (x % u.length) 0, s.flowQueue j peer, s.flowTenant j, false, true,
          s.shardBytes j peer x r.k r.m cw true body⟩
        let rec' := s.stepRec j
        let s := if rec'.step = r.step then s.putRec j { rec' with sent := rec'.sent + 8192 } else s
        (s.addSat XPORT_RETX_COUNT.RETX_SHARDS 1).pmonEdge 0x0049 1 { cls := 9, tenant := s.flowTenant j }) s

/-- Drop queued retransmissions of codewords before CUM_CW (R214). -/
def State.dropRetx (s : State) (j peer cum : Nat) : State :=
  let q := s.flowQueue j peer
  { s with sched := { s.sched with shards := s.sched.shards.filter (fun x =>
      !(x.queue == q && x.retransmit && decide (0 < (cum + 2 ^ 32 - fieldAt x.bytes 12 4) % 2 ^ 32 ∧
        (cum + 2 ^ 32 - fieldAt x.bytes 12 4) % 2 ^ 32 < 2 ^ 31))) } }

/-- One RTT sample from a peer (Table XPORT-4): the first is taken outright, and the others are smoothed with weight 1/8. -/
def State.rttSample (s : State) (peer sample : Nat) : State :=
  if peer ∈ s.xport.rttKnown then s.set PEER_RTT.RTT_NS ((7 * s.get PEER_RTT.RTT_NS peer + sample) / 8) peer
  else { s with xport := { s.xport with rttKnown := s.xport.rttKnown ++ [peer] } }.set PEER_RTT.RTT_NS sample peer

/-- A chunk of a flow is acknowledged by the peer: its copy is released, or kept to the step's end under RETAIN_STEP
(R221). -/
def State.chunkAcked (s : State) (j peer step chunk : Nat) : State :=
  let is (r : Retained) : Bool := r.entry == j && r.peer == peer && r.step == step && r.chunk == chunk
  if s.on JOB_CTRL.RETAIN_STEP j then
    { s with xport := { s.xport with
        retained := s.xport.retained.map (fun (r : Retained) => if is r then { r with acked := true } else r) } }
  else s.releaseRetained is

/-- ACK_RECEIVED (R214, R216, R221): an ACK of a flow is taken. -/
def execAckReceived (j : Fin 129) (site : Fin 16) (s : State) : Host.Outcome State Fault Refusal :=
  match s.takeMail j site 1 with
  | none => .next s
  | some (c, s) =>
    let b := padTo 664 c.body
    let f := s.flow j site
    let ctrl := fieldAt b 4 4
    let s := s.putFlow j site { f with
      ctrlOut := f.ctrlOut.filter (fun m => m.own || decide ((ctrl + 2 ^ 32 - 1 - m.seq) % 2 ^ 32 ≥ 2 ^ 31))
      credit := if j.val = 128 then f.credit else some (fieldAt b 8 4) }
    let s := s.rttSample site ((s.stamp + 2 ^ 33 - fieldAt b 12 4 - fieldAt b 16 4) % 2 ^ 32)
    if j.val = 128 then .next (s.peerUpdate site)
    else
      let nn := min (fieldAt b 20 1) 16
      let nc := min (fieldAt b 21 1) 64
      let s := s.dropRetx j site (fieldAt b 0 4)
      let s := (List.range nc).foldl (fun s i =>
        let o := 24 + 8 * nn + 8 * i
        s.chunkAcked j site (fieldAt b o 4) (fieldAt b (o + 4) 4)) s
      let s := (List.range nn).foldl (fun s i =>
        let o := 24 + 8 * i
        (List.range (fieldAt b (o + 4) 2)).foldl (fun s k =>
          s.retransmit j site ((fieldAt b o 4 + k) % 2 ^ 32) (fieldAt b (o + 6) 2)) s) s
      .next (s.usageUpdate.peerUpdate site)

/-- ACK_INTERVAL (R217): an ACK is sent on each flow that has anything to report. -/
def execAckInterval (s : State) : Host.Outcome State Fault Refusal :=
  if !s.xportReady then .next s
  else
    .next ((s.xport.flows.filter (fun f => f.2.nacks != [] || f.2.acks != [] || f.2.advanced)).foldl (fun s f =>
      s.sendAck f.1.1 f.1.2) s)

/-- CONTROL_REPEAT_EXPIRY (R216): a message not acknowledged after 1.5 × RTT is sent again; one that found no staging is
placed again. -/
def execControlRepeatExpiry (j : Fin 129) (peer : Fin 16) (seq : BitVec 32) (s : State) : Host.Outcome State Fault Refusal :=
  let f := s.flow j peer
  match f.ctrlOut.find? (fun c => c.seq == seq.toNat && !c.own && !c.waiting) with
  | none => .next s
  | some c =>
    if c.addr = 0 then .next ((s.putFlow j peer { f with ctrlOut := f.ctrlOut.erase c }).placeControl j peer c)
    else
      let b := finishShard (s.readBytes c.addr (64 + c.body.length))
      .next (((s.usable peer).take 2).foldl (fun s p =>
        s.lineEnqueue ⟨p, s.flowQueue j peer, s.flowTenant j, true, false, b⟩) s)

/-! ## Keepalives (R224, R225) -/

/-- KEEPALIVE_SEND (R224): one KEEPALIVE toward each peer on every IN_FRAME port. -/
def execKeepaliveSend (s : State) : Host.Outcome State Fault Refusal :=
  if !s.xportReady then .next s
  else
    .next (s.peers.foldl (fun s peer =>
      let (echo, held) := match s.xport.keepGot.find? (fun (k : Nat × Nat × Nat) => k.1 == peer) with
        | none => (0, 0)
        | some (_, t, a) => (t, s.mono - a)
      let mine := (s.xport.keepSent.filter (fun (k : Nat × Nat) => k.1 == peer) ++ [(peer, s.stamp)]).dedup
      let s := { s with xport := { s.xport with
        keepSent := s.xport.keepSent.filter (fun k => k.1 ≠ peer) ++ mine.drop (mine.length - 1024) } }
      ((List.range 16).filter s.inFrame).foldl (fun s p =>
        s.sendControl 128 peer 7 (le 4 s.stamp ++ le 4 echo ++ le 4 held ++ le 1 p) (some p)) s) s)

/-- KEEPALIVE_RECEIVED (R225): an exchange completes when the peer echoes a T_SEND of ours. -/
def execKeepaliveReceived (site : Fin 16) (s : State) : Host.Outcome State Fault Refusal :=
  match s.takeMail 128 site 7 with
  | none => .next s
  | some (c, s) =>
    let t := fieldAt c.body 0 4
    let echo := fieldAt c.body 4 4
    let s := { s with xport := { s.xport with
      keepGot := assocPut s.xport.keepGot site.val (t, s.mono) } }
    if s.xport.keepSent.contains (site.val, echo) then
      .next { s with xport := { s.xport with contact := assocPut s.xport.contact site.val s.mono } }
    else .next s

/-! ## Port state (R207, R209) -/

/-- PORT_STATE_RECEIVED (R207): a PORT_STATE newer than those before it sets the peer's port classes; a port that left
FAR_DOWN returns to U once a newer one lists it as OK. -/
def execPortStateReceived (site : Fin 16) (s : State) : Host.Outcome State Fault Refusal :=
  match s.takeMail 128 site 8 with
  | none => .next s
  | some (c, s) =>
    let bad := fieldAt c.body 0 2 ||| fieldAt c.body 2 2
    let n := c.seq + 1
    let last := lookupD s.xport.portStateSeq site.val 0
    let s := { s with xport := { s.xport with
      portStateSeq := assocPut s.xport.portStateSeq site.val (max last n)
      peerBad := if last < n then assocPut s.xport.peerBad site.val bad else s.xport.peerBad
      farWait := s.xport.farWait.filter (fun w => !(w.1.1 == site.val && decide (w.2 < n) && !bad.testBit w.1.2)) } }
    .next (s.peerUpdate site)

/-- PORT_STATE_PERIODIC (R209): PORT_STATE to each peer, once per second. -/
def execPortStatePeriodic (s : State) : Host.Outcome State Fault Refusal :=
  if s.xportReady then .next (s.peers.foldl State.sendPortState s) else .next s

/-- PORT_REUSE_EXPIRY (R209): a LATE port whose skew has stayed at or below WINDOW_US / 2 for REUSE_S is OK again. -/
def execPortReuseExpiry (peer port : Fin 16) (s : State) : Host.Outcome State Fault Refusal :=
  if (s.get PEER_STATUS.LATE_RX peer).testBit port && decide (2 * s.skewOf peer port ≤ s.get XPORT_SW.WINDOW_US * 1000) then
    .next (s.setPortClass peer port 0)
  else .next s

/-- RX_FRAME_START (R177 to R180, R197, R209): a frame, or nothing where one was expected, at a port's receiver. A port that
leaves FAR_DOWN waits for a newer PORT_STATE of each peer (R207). -/
def execRxFrameStart (p : Fin 16) (f : Option RxFrame) (s : State) : Host.Outcome State Fault Refusal :=
  if !s.portOn p then .next s
  else
    let was := s.on PORT_STATUS.FAR_DOWN p
    let s := s.rxFrame p f
    let s := if was && !s.on PORT_STATUS.FAR_DOWN p then
        { s with xport := { s.xport with
            farWait := s.xport.farWait.filter (fun w => w.1.2 ≠ p.val) ++
              s.peers.map (fun peer => ((peer, p.val), lookupD s.xport.portStateSeq peer 0)) } }
      else s
    .next (s.peers.foldl State.peerUpdate (s.reclassPort p))

/-! ## Clean marks, resends and rebuilds (R41, R220, R228) -/

/-- CLEAN_RECEIVED (R41): the clean marks of a CLEAN message that name the present step. -/
def execCleanReceived (j : Fin 128) (site : Fin 16) (s : State) : Host.Outcome State Fault Refusal :=
  match s.takeMail j site 2 with
  | none => .next s
  | some (c, s) =>
    let n := min (min (fieldAt c.body 0 2) 1000) ((c.body.length - 2) / 8)
    .next ((List.range n).foldl (fun s i =>
      if fieldAt c.body (2 + 8 * i) 4 = (s.stepRec j).step then s.cleanMark j (fieldAt c.body (6 + 8 * i) 4) else s) s)

/-- Whether this gateway holds a retention copy of a chunk for a site. -/
def State.retains (s : State) (j peer step chunk : Nat) : Bool :=
  s.xport.retained.any (fun r => r.entry == j && r.peer == peer && r.step == step && r.chunk == chunk)

/-- Queue a retained chunk to be sent again, and send what the flow may send. -/
def State.resendChunk (s : State) (j peer step chunk : Nat) : State :=
  { s with xport := { s.xport with resend := addOnce s.xport.resend (j, peer, step, chunk) } }.formChunk j peer

/-- A chunk stays owed after its resend failed or was refused: 0x0917, and the step stalls (R220). -/
def State.chunkOwed (s : State) (j site step chunk frog : Nat) : State :=
  let o : OwedChunk := ⟨j, site, step, chunk, frog, false, true⟩
  let others := s.xport.owed.filter (fun x => !(x.entry == j && x.site == site && x.step == step && x.chunk == chunk))
  let s := { s with xport := { s.xport with owed := others ++ [o] } }
  let s := ((s.xportLog 0x0917 site 0 (s.flowJob j)).set XPORT_ERR_SEQ.SEQ chunk).set XPORT_ERR_SEQ.STEP step
  let s := s.raise XPORT_INT_STATUS.CHUNK_OWED
  s.stall j (1 <<< site) (s.stepRec j)

/-- CHUNK_RESEND_RECEIVED (R220): a request is answered from retention, by producing the chunk again, or with 0x0921; an
answer with 0x0921 leaves the chunk owed. -/
def execChunkResendReceived (j : Fin 128) (site : Fin 16) (s : State) : Host.Outcome State Fault Refusal :=
  match s.takeMail j site 6 with
  | none => .next s
  | some (c, s) =>
    let step := fieldAt c.body 0 4
    let chunk := fieldAt c.body 4 4
    let frog := fieldAt c.body 8 1
    let r := s.stepRec j
    if fieldAt c.body 9 2 = 0x0921 then .next (s.chunkOwed j site step chunk frog)
    else if s.retains j site step chunk then .next (s.resendChunk j site step chunk)
    else if step = r.step ∧ 1 ≤ r.state ∧ r.state ≤ 0x0A then
      .next { s with xport := { s.xport with
        again := s.xport.again.filter (fun a => !(a.1 == j.val && a.2.1 == site.val && a.2.2.1 == chunk)) ++
          [(j.val, site.val, chunk, 1)] } }
    else .next (s.sendControl j site 6 (le 4 step ++ le 4 chunk ++ le 1 frog ++ le 2 0x0921))

/-- What a gateway owes a requester for an INDEX of a round (R228): its reduced result where it owns the INDEX, its
contribution where the requester does, or nothing. -/
def State.rebuildOwes (s : State) (r : StepRec) (site round index : Nat) : Option Nat :=
  let o := r.owner index
  if o = s.localSite then some (chunkId round 1 index)
  else if o = site then some (chunkId round 0 index)
  else none

/-- Lists of at most 64 elements. -/
def by64 (l : List Nat) : List (List Nat) := (List.range (ceilDiv l.length 64)).map (fun i => (l.drop (64 * i)).take 64)

/-- REBUILD_RECEIVED (R228): every chunk named and held for the requester is sent again, and those not held are listed in
REBUILD_NOT_HELD. -/
def execRebuildReceived (j : Fin 128) (site : Fin 16) (s : State) : Host.Outcome State Fault Refusal :=
  match s.takeMail j site 10 with
  | none => .next s
  | some (c, s) =>
    let j := j.val
    let b := c.body
    let step := fieldAt b 0 4
    let round := fieldAt b 4 1
    let sources := fieldAt b 5 2
    let first := fieldAt b 7 4
    let count := fieldAt b 11 4
    let r := s.stepRec j
    let answers := if sources = 0 then r.members.testBit s.localSite && s.localSite != site.val else sources.testBit s.localSite
    if !answers then .next s
    else
      let all := r.chunks round
      let idx := if count = 0 then List.range all else (List.range (min count (all - first))).map (· + first)
      let owes := idx.filterMap (s.rebuildOwes r site round)
      let held := owes.filter (s.retains j site step)
      let missing := owes.filter (fun x => !s.retains j site step x)
      let s := held.foldl (fun s x => s.resendChunk j site step x) s
      let s := if held = [] then s else (s.xportLog 0x0920 site 0 (s.flowJob j)).raise XPORT_INT_STATUS.REBUILD
      let s := if missing = [] then s else (s.xportLog 0x0921 site 0 (s.flowJob j)).raise XPORT_INT_STATUS.REBUILD
      .next ((by64 missing).foldl (fun s l =>
        s.sendControl j site 11 (le 4 step ++ le 1 round ++ le 1 l.length ++ l.flatMap (le 4))) s)

/-! ## FLOW_RESET (R229) -/

/-- FLOW_RESET_RECEIVED (R229): the sender of a flow starts at NEW_SEQ. Its open codewords and the retention toward it are
discarded, and the round-trip time is unknown again. -/
def execFlowResetReceived (j : Fin 129) (site : Fin 16) (s : State) : Host.Outcome State Fault Refusal :=
  match s.takeMail j site 12 with
  | none => .next s
  | some (c, s) =>
    let new := fieldAt c.body 0 4
    let f := s.flow j site
    let s := s.putFlow j site { f with
      cum := new, nextAsm := new, decoded := [], openCws := [], ready := [], part := none, nacks := [] }
    let s := s.releaseRetained (fun r => r.entry == j.val && r.peer == site.val)
    let s := { s with xport := { s.xport with rttKnown := s.xport.rttKnown.erase site.val } }
    .next (((s.xportLog 0x0922 site 0 (s.flowJob j)).raise XPORT_INT_STATUS.REBUILD).peerUpdate site)

end Sys2Proof.Machine
end

