-- ==== Sys2Proof/Machine/Receive.lean ====
section
/-!
DEFINITION. Machine/Receive.lean: the receiving side of the transport: shards from the yarns, codewords, reassembly, chunks
and control messages (spec/08_long_haul_transport.md, R203, R209 to R213, R216, R218 to R220, R223).
-/
namespace Sys2Proof.Machine
open Csr

/-! ## Yarn bytes (R202, R203) -/

/-- The bytes of a received yarn up to a gap, and whether a gap ends them. -/
def yarnFront : List (Bytes × Bool) → Bytes × Bool
  | [] => ([], false)
  | (b, bad) :: r => if b = [] ∧ bad then ([], true) else let x := yarnFront r; (b ++ x.1, x.2)

/-- What follows the first gap of a yarn. -/
def afterGap : List (Bytes × Bool) → List (Bytes × Bool)
  | [] => []
  | (b, bad) :: r => if b = [] ∧ bad then r else afterGap r

/-- Drop bytes from the front of a yarn. -/
def dropYarn : Nat → List (Bytes × Bool) → List (Bytes × Bool)
  | _, [] => []
  | n, (b, bad) :: r =>
    if n = 0 then (b, bad) :: r
    else if b.length ≤ n then dropYarn (n - b.length) r else (b.drop n, bad) :: r

/-- Whether bytes begin with a shard header that passes HDR_CRC. -/
def headerPasses (b : Bytes) : Bool := decide (32 ≤ b.length) && crc32c (b.take 28) == fieldAt b 28 4

/-- Bytes before SYNC with a header that passes; none where there is none. -/
def findHeader : Bytes → Option Nat
  | [] => none
  | x :: r =>
    if x = 0xC3 ∧ r.head? = some 0x5A ∧ headerPasses (x :: r) then some 0 else (findHeader r).map (· + 1)

/-- The bytes a port holds of a yarn. -/
def State.yarnIn (s : State) (p y : Nat) : List (Bytes × Bool) := lookupD (s.port p).rxYarn y []

/-- Replace the bytes a port holds of a yarn. -/
def State.putYarnIn (s : State) (p y : Nat) (l : List (Bytes × Bool)) : State :=
  s.putPort p { s.port p with rxYarn := assocPut (s.port p).rxYarn y l }

/-- A yarn loses sync: one HDR event (R203). -/
def State.loseSync (s : State) (p y : Nat) : State :=
  if (p, y) ∈ s.xport.unsynced then s
  else { s with xport := { s.xport with unsynced := (p, y) :: s.xport.unsynced } }.addSat XPORT_DROP_COUNT.HDR 1

/-- Search a yarn for the next header (R203): the bytes before it are discarded. Where there is none, the last 31 bytes stay
for what follows, or none of them before a gap. -/
def State.resync (s : State) (p y : Nat) : State :=
  let l := s.yarnIn p y
  let (b, gap) := yarnFront l
  match findHeader b with
  | some n =>
    { (s.putYarnIn p y (dropYarn n l)) with xport := { s.xport with unsynced := s.xport.unsynced.erase (p, y) } }
  | none => if gap then s.putYarnIn p y (afterGap l) else s.putYarnIn p y (dropYarn (b.length - 31) l)

/-- Take the next whole shard of a yarn: its bytes, where sync holds and all of them have come. A shard that a gap cuts loses
sync. -/
def State.takeShard (s : State) (p y : Nat) : Option Bytes × State :=
  let (b, gap) := yarnFront (s.yarnIn p y)
  let s := if (p, y) ∉ s.xport.unsynced ∧ (32 ≤ b.length ∧ !headerPasses b ∨ gap ∧ b.length < 32) then s.loseSync p y else s
  let s := if (p, y) ∈ s.xport.unsynced then s.resync p y else s
  let (b, gap) := yarnFront (s.yarnIn p y)
  if (p, y) ∈ s.xport.unsynced ∨ !headerPasses b then (none, s)
  else
    let n := 32 + fieldAt b 10 2
    if n ≤ b.length then (some (b.take n), s.putYarnIn p y (dropYarn n (s.yarnIn p y)))
    else if gap then (none, (s.loseSync p y).putYarnIn p y (afterGap (s.yarnIn p y)))
    else (none, s)

/-! ## Delays (R209, R223) -/

/-- Keep the last `n` elements. -/
def lastN {α : Type} (n : Nat) (l : List α) : List α := l.drop (l.length - n)

/-- The smallest of the latest delays of a peer's OK ports. -/
def State.leastDelay (s : State) (peer : Nat) (d : Int) : Int :=
  ((List.range 16).filter (fun p => !(s.badPorts peer).testBit p)).foldl (fun m p =>
    match (s.portDelay peer p).delays.getLast? with
    | none => m
    | some x => min m x) d

/-- Publish a delay step to the time block (R223, R381). -/
def State.delayStep (s : State) (peer p : Nat) (step : Int) : State :=
  let s := (s.xportLog 0x091F peer p 0).raise XPORT_INT_STATUS.DELAY_STEP
  let s := ((s.set TIME_ERR_LOG.REASON 0x0E06).set TIME_ERR_LOG.UNIT (32 + p)).set TIME_ERR_LOG.STEP_NS (ofSigned 42 step)
  (s.report 0x0E06).raise TIME_INT_STATUS.DELAY_STEP

/-- Measure one shard's delay on a port (R223): d is taken as a signed 32-bit value, its skew is against the least d of the
peer's OK ports, and both are averaged over 64 shards. -/
def State.measure (s : State) (peer p txTime : Nat) : State :=
  let d := toSigned 32 (s.stamp + 2 ^ 32 - txTime)
  let pd := s.portDelay peer p
  let delays := lastN 64 (pd.delays ++ [d])
  let a := average delays
  let hist := pd.history.filter (fun h => decide (s.mono ≤ h.1 + 10000000))
  let old := (hist.head?.map (·.2)).getD a
  let stepped := decide (1000 < (a - old).natAbs)
  let hist := if stepped then [(s.mono, a)] else hist ++ [(s.mono, a)]
  let put (s : State) (x : PortDelay) : State := { s with xport := { s.xport with ports := assocPut s.xport.ports (peer, p) x } }
  let s := put s { pd with delays := delays, history := hist }
  let skews := lastN 64 (pd.skews ++ [d - s.leastDelay peer d])
  let late := decide (((s.get XPORT_SW.WINDOW_US * 1000 : Nat) : Int) < average skews)
  let run := if late then pd.lateRun + 1 else 0
  let s := put s { s.portDelay peer p with skews := skews, lateRun := run }
  let s := if stepped then s.delayStep peer p (a - old) else s
  if run ≥ s.get XPORT_SW.LATE_COUNT ∧ !(s.badPorts peer).testBit p then s.setPortClass peer p 1 else s

/-! ## Chunks (R218 to R220) -/

/-- A chunk fails its header checks or its tag (R220): it is discarded, and one CHUNK_RESEND asks for it; when the resent one
fails too it stays owed. -/
def State.chunkRefused (s : State) (j site step chunk frog reason : Nat) : State :=
  let s := ((s.xportLog reason site 0 (s.flowJob j)).set XPORT_ERR_SEQ.SEQ chunk).set XPORT_ERR_SEQ.STEP step
  let same (o : OwedChunk) : Bool :=
    o.entry == j && o.site == site && o.step == step && o.chunk == chunk && o.frog == frog && !o.raw
  if s.xport.owed.any same then s.chunkOwed j site step chunk frog
  else
    { s with xport := { s.xport with owed := s.xport.owed ++ [(⟨j, site, step, chunk, frog, false, false⟩ : OwedChunk)] } }.sendControl j site 6
      (le 4 step ++ le 4 chunk ++ le 1 frog ++ le 2 0)

/-- The last codeword of a chunk is decoded (R218): its header is checked, and by its STEP the chunk goes to the cipher, or is
acknowledged again, or is discarded. A chunk of an older frog count is discarded (R62). -/
def State.chunkReceived (s : State) (j site addr : Nat) (msg : Bytes) : State :=
  let h := msg.take 64
  let step := hdrStep h
  let chunk := hdrChunk h
  let frog := hdrFrog h
  let r := s.stepRec j
  let s := { s with xport := { s.xport with rxChunks := s.xport.rxChunks.filter (fun c => !(c.entry == j && decide (c.step < r.step))) } }
  if crc32c (h.take 60) ≠ fieldAt h 60 4 ∨ fieldAt h 0 1 ≠ 1 ∨ fieldAt h 4 2 ≠ s.flowJob j ∨ fieldAt h 6 1 ≠ s.flowTenant j ∨
      fieldAt h 2 1 % 16 ≠ site ∨ fieldAt h 31 1 % 16 ≠ s.localSite then
    s.chunkRefused j site step chunk frog 0x0915
  else if step = r.step ∧ frog < r.frog then s
  else if fieldAt h 16 4 ≠ s.get JOB_STATUS.FINGERPRINT j then
    let (r, s) := s.stepReason r 0x0901
    s.saveRec j r
  else if step < r.step then s.ackNow j site step chunk
  else if r.step + 1 < step then
    ((s.xportLog 0x0918 site 0 (s.flowJob j)).set XPORT_ERR_SEQ.SEQ chunk).set XPORT_ERR_SEQ.STEP step
  else
    let raw := (fieldAt h 1 1).testBit 0
    match s.xport.rxChunks.find? (fun c => c.entry == j && c.site == site && c.step == step && c.chunk == chunk && c.frog == frog) with
    | some c => if c.acked then s.ackNow j site step chunk else s
    | none =>
      let s := s.writeBytes addr msg
      let s := { s with xport := { s.xport with
        rxChunks := s.xport.rxChunks ++ [⟨j, site, step, chunk, frog, addr, msg.length, raw, 0, false⟩] } }
      if step = r.step then s.putRec j { s.stepRec j with received := (s.stepRec j).received + msg.length } else s

/-- Codewords that a chunk's first codeword says it has (R199), at most those of the longest chunk. -/
def chunkCodewords (b : Bytes) : Nat := min (max 1 (fieldAt b 48 4)) 2050

/-- Reassembly of a flow in CW_SEQ order (R210): decoded codewords join the chunk in progress, and a complete chunk is
received once staging has room for it. At most `n` codewords are taken. -/
def State.reassemble (s : State) (j site : Nat) : (n : Nat) → State
  | 0 => s
  | n + 1 =>
    let f := s.flow j site
    match f.part with
    | some (0, msg) =>
      (match s.stageAlloc msg.length with
      | none => s
      | some a => ((s.putFlow j site { f with part := none }).chunkReceived j site a msg).reassemble j site n)
    | _ =>
      match f.ready.find? (fun x => x.1 == f.nextAsm) with
      | none => s
      | some (seq, d) =>
        let part := match f.part with
          | none => (chunkCodewords d - 1, d)
          | some (left, b) => (left - 1, b ++ d)
        (s.putFlow j site { f with
          ready := f.ready.erase (seq, d), nextAsm := (seq + 1) % 2 ^ 32, part := some part }).reassemble j site n

/-! ## Codewords (R210 to R213) -/

/-- CUM_CW after the codewords decoded above it (Table XPORT-4). -/
def advanceCum : (n : Nat) → Nat → List Nat → Nat × List Nat
  | 0, cum, l => (cum, l)
  | n + 1, cum, l => if cum ∈ l then advanceCum n ((cum + 1) % 2 ^ 32) (l.erase cum) else (cum, l)

/-- A codeword with K valid shards is decoded (R205, R210) and leaves the open ones. -/
def State.decodeCodeword (s : State) (j site : Nat) (c : OpenCw) : State :=
  let f := s.flow j site
  let clean := (List.range c.k).all (fun i => c.shards.any (fun x => x.1 == i))
  let data := (rsDecode 8192 c.k c.shards).flatten
  let (cum, dec) := advanceCum (f.decoded.length + 1) f.cum (f.decoded ++ [c.seq])
  let s := s.putFlow j site { f with
    openCws := f.openCws.filter (fun x => x.seq ≠ c.seq), nacks := f.nacks.filter (fun x => x.1 ≠ c.seq)
    cum := cum, decoded := dec, advanced := f.advanced || cum != f.cum, ready := f.ready ++ [(c.seq, data)] }
  let s := if clean then s.addSat XPORT_CW_COUNT.CLEAN 1
    else (s.addSat XPORT_CW_COUNT.ERASED 1).pmonEdge 0x0029 1 { cls := 9, tenant := s.flowTenant j }
  s.reassemble j site (2 * (s.flow j site).ready.length + 2)

/-- Whether a shard more can be staged, or spilled (R212). -/
def State.stageRoom (s : State) : Option Bool :=
  let staged := s.openBytes false + s.readyBytes + s.stageUsed.foldl (fun a u => a + u.2) 0
  if staged + 8192 ≤ 2 ^ 20 * s.get XPORT_SW.SW_SRAM_MIB then some false
  else if s.openBytes true + 8192 ≤ 2 ^ 30 * s.get XPORT_RETAIN.SPILL_LIMIT_GIB then some true
  else none

/-- Close the oldest open codeword that holds shards early (R212). -/
def State.earlyClose (s : State) : State :=
  let all := s.xport.flows.flatMap (fun f => (f.2.openCws.filter (fun c => c.shards != [])).map (fun c => (f.1, c)))
  match leastBy (fun (x : (Nat × Nat) × OpenCw) => x.2.first) all with
  | none => s
  | some ((j, peer), c) =>
    let f := s.flow j peer
    let s := s.putFlow j peer { f with openCws := f.openCws.map (fun x => if x = c then { c with shards := [] } else x) }
    let s := (s.xportLog 0x0914 peer 0 (s.flowJob j)).set XPORT_ERR_SEQ.SEQ c.seq
    ((s.addSat XPORT_DROP_COUNT.EARLY 1).raise XPORT_INT_STATUS.EARLY_CLOSE).nack j peer c.seq

/-- A shard put into the open codeword of its sequence number, when the staging area has room. -/
def State.stageInto (s : State) (j site seq x : Nat) (body : Bytes) : State :=
  match s.stageRoom, (s.flow j site).openCws.find? (fun c => c.seq == seq) with
  | some spill, some c =>
    let f := s.flow j site
    let c' := { c with shards := c.shards ++ [(x, body)], spilled := c.spilled || spill }
    let s := s.putFlow j site { f with openCws := f.openCws.map (fun y => if y = c then c' else y) }
    if c'.shards.length ≥ c'.k then s.decodeCodeword j site c' else s.shortTest j site seq
  | _, _ => s

/-- Stage a valid shard of an open codeword (R212), decode the codeword once it holds K of them (R210), or test it (R211). -/
def State.stageShard (s : State) (j site seq x : Nat) (body : Bytes) : State :=
  (if s.stageRoom.isNone then s.earlyClose else s).stageInto j site seq x body

/-- Whether R213 discards a data or parity shard of a flow. -/
def Flow.discards (f : Flow) (kind k m x seq len : Nat) : Bool :=
  decide (len ≠ 8192) || k == 0 || decide (4 < m) || decide (16 < k + m) || decide (k + m ≤ x) || (kind == 1) != decide (k ≤ x) ||
  kind == 3 || decide (2 ^ 30 ≤ (seq + 2 ^ 32 - f.cum) % 2 ^ 32) || f.decoded.contains seq ||
  f.openCws.any (fun c => c.seq == seq && c.shards != [] && (c.k != k || c.m != m || c.shards.any (fun y => y.1 == x)))

/-- A data or parity shard of a job flow (R210 to R213). -/
def State.dataShard (s : State) (j site : Nat) (b : Bytes) : State :=
  let kind := getBits (fieldAt b 2 1) 4 2
  let x := fieldAt b 3 1 % 16
  let k := fieldAt b 4 1 % 32
  let m := fieldAt b 4 1 / 32
  let seq := fieldAt b 12 4
  let f := s.flow j site
  if f.discards kind k m x seq (fieldAt b 10 2) then s.addSat XPORT_DROP_COUNT.DISCARD 1
  else
    let old := f.openCws.find? (fun c => c.seq == seq)
    let c : OpenCw := match old with
      | none => ⟨seq, k, m, [], [x], s.mono, false, false, false⟩
      | some c => { c with k := k, m := m, seen := addOnce c.seen x }
    let s := s.putFlow j site { f with openCws := f.openCws.filter (fun c => c.seq ≠ seq) ++ [c] }
    let body := b.drop 32
    if crc32c body ≠ fieldAt b 24 4 then (s.addSat XPORT_DROP_COUNT.BODY 1).shortTest j site seq
    else (s.stageShard j site seq x body).usageUpdate

/-! ## Control shards (R216) -/

/-- A control shard is staged for its OPEN. -/
def State.controlShardIn (s : State) (j site : Nat) (b : Bytes) : State :=
  let n := fieldAt b 10 2
  if n < 48 ∨ 8192 < n then s.addSat XPORT_DROP_COUNT.DISCARD 1
  else if crc32c (b.drop 32) ≠ fieldAt b 24 4 then s.addSat XPORT_DROP_COUNT.BODY 1
  else
    match s.stageAlloc b.length with
    | none => s.addSat XPORT_DROP_COUNT.DISCARD 1
    | some a =>
      { (s.writeBytes a b) with xport := { s.xport with
          ctrlIn := s.xport.ctrlIn ++ [(⟨j, site, a, b.length⟩ : CtrlShard)] } }.usageUpdate

/-- Whether a control message is a copy of one taken before (R216): by control sequence, a FLOW_RESET by RESTORE_COUNT (log
entry 32). -/
def Flow.isCopy (f : Flow) (ctype seq : Nat) (body : Bytes) : Bool :=
  if ctype = 12 then f.lastReset == some (fieldAt body 4 4)
  else decide (2 ^ 31 ≤ (seq + 2 ^ 32 - f.ctrlCum) % 2 ^ 32) || f.ctrlGot.contains seq

/-- A control message has passed its tag (R216): copies are discarded, and the message waits to be acted on. -/
def State.controlTaken (s : State) (j site seq ctype : Nat) (body : Bytes) : State :=
  let put (s : State) : State := { s with xport := { s.xport with inbox := s.xport.inbox ++ [⟨j, site, ctype, seq, body⟩] } }
  let f := s.flow j site
  if ctype = 0 ∨ 12 < ctype then s.addSat XPORT_DROP_COUNT.DISCARD 1
  else if ctype = 1 ∨ ctype = 7 then put s
  else if f.isCopy ctype seq body then s
  else if ctype = 12 then
    put (s.putFlow j site { f with
      ctrlCum := (seq + 1) % 2 ^ 32, ctrlGot := [], advanced := true, lastReset := some (fieldAt body 4 4) })
  else
    let (cum, got) := advanceCum (f.ctrlGot.length + 1) f.ctrlCum (f.ctrlGot ++ [seq])
    put (s.putFlow j site { f with ctrlCum := cum, ctrlGot := got, advanced := f.advanced || cum != f.ctrlCum })

/-- The control shard at an address of staging has been opened: it leaves staging, and its message is taken where the tag
verified (R216). -/
def State.openedControl (s : State) (addr : Nat) (ok : Bool) (plain : Bytes) : State :=
  match s.xport.ctrlIn.find? (fun c => c.addr == addr) with
  | none => s
  | some c =>
    let b := s.readBytes addr 36
    let s := { s with xport := { s.xport with ctrlIn := s.xport.ctrlIn.erase c } }.usageUpdate
    if ok then s.controlTaken c.entry c.site (fieldAt b 12 4) (fieldAt b 32 1) plain else s

/-- The chunk message at an address of staging has been opened (R218 to R220): its staging is free, a reduced result is
acknowledged, and a failed tag asks for the chunk again. -/
def State.openedChunk (s : State) (addr : Nat) (ok : Bool) : State :=
  match s.xport.rxChunks.find? (fun c => c.addr == addr && c.phase == 0 && c.len != 0) with
  | none => s
  | some c =>
    if ok then
      let s := { s with xport := { s.xport with
        rxChunks := s.xport.rxChunks.map (fun x => if x = c then { c with phase := 1, addr := 0, len := 0 } else x) } }.usageUpdate
      let s := if chunkKind c.chunk = 1 then s.ackChunk c.entry c.site c.step c.chunk else s
      s.reassemble c.entry c.site (2 * (s.flow c.entry c.site).ready.length + 2)
    else
      let s := { s with xport := { s.xport with rxChunks := s.xport.rxChunks.erase c } }.usageUpdate
      s.chunkRefused c.entry c.site c.step c.chunk c.frog 0x0916

/-! ## The commands -/

/-- The flow that a shard header names, with the checks of Table XPORT-5, row 2: its entry, or none. -/
def State.shardFlow (s : State) (p y : Nat) (b : Bytes) : Option Nat :=
  let kind := getBits (fieldAt b 2 1) 4 2
  let job := fieldAt b 8 2
  let tenant := fieldAt b 7 1
  let src := fieldAt b 5 1 % 16
  let j := if job = 0 then (if kind = 2 then some 128 else none) else s.entryOf job
  match j with
  | none => none
  | some j =>
    if tenant = s.flowTenant j ∧ tenant = s.yarnTenant p y ∧ s.on PEER_CFG.ENABLE src ∧ fieldAt b 5 1 / 16 = s.localSite then some j
    else none

/-- SHARD_RECEIVED (R202, R203, R210 to R213, R223): the next whole shard of a yarn is taken and checked. -/
def execShardReceived (p : Fin 16) (y : Fin 80) (s : State) : Host.Outcome State Fault Refusal :=
  if !s.xportReady then .next s
  else
    match s.takeShard p y with
    | (none, s) => .next s
    | (some b, s) =>
      let src := fieldAt b 5 1 % 16
      match s.shardFlow p y b with
      | none => .next (s.xportLog 0x0924 src p (fieldAt b 8 2))
      | some j =>
        let tx := fieldAt b 16 4
        let s := s.putFlow j src { s.flow j src with newest := some (tx, s.mono) }
        let s := s.measure src p tx
        if getBits (fieldAt b 2 1) 4 2 = 2 then .next (s.controlShardIn j src b) else .next (s.dataShard j src b)

/-- SHARD_WINDOW_EXPIRY (R211): WINDOW_US has passed since a staged codeword's first shard, and it is still short. -/
def execShardWindowExpiry (j : Fin 128) (peer : Fin 16) (cw : BitVec 32) (s : State) : Host.Outcome State Fault Refusal :=
  if (s.flow j peer).openCws.any (fun c => c.seq == cw.toNat && !c.nacked && !c.cut) then .next (s.nack j peer cw.toNat)
  else .next s

/-- NACK_REPEAT_EXPIRY (R214): a NACKed codeword is still not decoded 1.5 × RTT later; it is NACKed again while the peer is
reachable. -/
def execNackRepeatExpiry (j : Fin 128) (peer : Fin 16) (cw : BitVec 32) (s : State) : Host.Outcome State Fault Refusal :=
  if s.reaches j peer && (s.flow j peer).openCws.any (fun c => c.seq == cw.toNat && c.nacked) then .next (s.nack j peer cw.toNat)
  else .next s

end Sys2Proof.Machine
end

