-- ==== Sys2Proof/Machine/Contexts.lean ====
section
/-!
DEFINITION. Machine/Contexts.lean: cipher contexts, their images and store, and the nonce ledger
(spec/09_cipher_and_keys.md, R242 to R246, R495).
-/
namespace Sys2Proof.Machine
open Csr

/-! ## Contexts and their images (R244, R245, Tables CIPH-2 and CIPH-3) -/

/-- The 128-byte body of a context. -/
def Ctx.body (c : Ctx) : Bytes :=
  let b := le 1 c.tenant ++ le 1 (1 + 2 * b2n c.rx + 4 * c.active + 8 * b2n c.slot0.valid + 16 * b2n c.slot1.valid + 32 * b2n c.pinned) ++
    le 1 c.peer ++ le 1 c.rekey ++ le 2 c.job ++ zeros 2 ++ padTo 32 c.slot0.key ++ padTo 32 c.slot1.key ++
    le 4 c.slot0.salt ++ le 4 c.slot1.salt ++ le 8 c.slot0.ctr ++ le 8 c.slot1.ctr ++ le 8 c.slot0.bytes ++ le 8 c.slot1.bytes ++
    le 2 c.slot0.gen ++ le 2 c.slot1.gen ++ zeros 8
  b ++ le 4 (crc32c b)

/-- The context of a body, where its CRC holds and it is VALID. -/
def Ctx.ofBody (b : Bytes) : Option Ctx :=
  let fl := fieldAt b 1 1
  if b.length = 128 ∧ crc32c (b.take 124) = fieldAt b 124 4 ∧ fl.testBit 0 then
    some {
      tenant := fieldAt b 0 1, rx := fl.testBit 1, active := getBits fl 2 1, pinned := fl.testBit 5, peer := fieldAt b 2 1 % 16
      rekey := fieldAt b 3 1, job := fieldAt b 4 2
      slot0 := ⟨fl.testBit 3, slice b 8 32, fieldAt b 72 4, fieldAt b 80 8, fieldAt b 96 8, fieldAt b 112 2⟩
      slot1 := ⟨fl.testBit 4, slice b 40 32, fieldAt b 76 4, fieldAt b 88 8, fieldAt b 104 8, fieldAt b 114 2⟩ }
  else none

/-- A key slot of a context. -/
def Ctx.slot (c : Ctx) (k : Nat) : KeySlot := if k = 0 then c.slot0 else c.slot1

/-- Replace a key slot. -/
def Ctx.putSlot (c : Ctx) (k : Nat) (x : KeySlot) : Ctx := if k = 0 then { c with slot0 := x } else { c with slot1 := x }

/-- The newest generation of a context's valid slots. -/
def Ctx.newest (c : Ctx) : Nat := max (if c.slot0.valid then c.slot0.gen else 0) (if c.slot1.valid then c.slot1.gen else 0)

/-- The key-wrapping key as bytes. -/
def wrapKeyBytes : Bytes := le 32 Config.wrapKey.toNat

/-- The 160-byte save image of a context: clear, or wrapped under a wrap counter (Table CIPH-2). -/
def ctxImage (wrapped : Bool) (id ctr : Nat) (c : Ctx) : Bytes :=
  let h := [1] ++ le 1 (if wrapped then 2 else 1) ++ le 2 id
  if wrapped then
    let iv := zeros 4 ++ le 8 ctr
    let x := gcmSeal wrapKeyBytes iv h c.body
    h ++ iv ++ x.1 ++ x.2
  else h ++ zeros 12 ++ c.body ++ zeros 16

/-- Read a save image of the given form: its context ID and context, where tag and CRC hold. -/
def readImage (wrapped : Bool) (b : Bytes) : Option (Nat × Ctx) :=
  let h := b.take 4
  if fieldAt b 0 1 ≠ 1 ∨ fieldAt b 1 1 % 4 ≠ (if wrapped then 2 else 1) then none
  else
    let body := if wrapped then gcmOpen wrapKeyBytes (slice b 4 12) h (slice b 16 128) (slice b 144 16) else some (slice b 16 128)
    (body.bind Ctx.ofBody).map (fun c => (fieldAt h 2 2, c))

/-- Address of a context's image in the store. -/
def State.storeAddr (s : State) (id : Nat) : Nat := s.get CIPH_STORE_BASE.ADDR * 64 + 160 * id

/-- Write a context's wrapped image into the store. -/
def State.storeCtx (s : State) (id : Nat) (c : Ctx) : State :=
  let n := s.ciph.wrapCtr + 1
  { s with ciph := { s.ciph with wrapCtr := n } }.writeBytes (s.storeAddr id) (ctxImage true id n c)

/-- CIPH_STATUS.RESIDENT. -/
def State.residentUpdate (s : State) : State := s.set CIPH_STATUS.RESIDENT s.ciph.resident.length

/-- Make a context resident as the most recently used; when all 1,024 places are taken the least recently used unpinned
context goes to the store (R245). -/
def State.makeResident (s : State) (id : Nat) (c : Ctx) : State :=
  let rest := s.ciph.resident.filter (fun x => x.1 ≠ id)
  let full := decide (rest.length ≥ 1024)
  let out := if full then rest.find? (fun x => !x.2.pinned) else none
  let s := match out with
    | none => s
    | some (i, x) => s.storeCtx i x
  { s with ciph := { s.ciph with resident := (match out with
      | none => rest
      | some x => rest.erase x) ++ [(id, c)] } }.residentUpdate

/-- Log a cipher fault or refusal. -/
def State.ciphLog (s : State) (reason ctx site queue : Nat) : State :=
  ((((s.set CIPH_ERR_LOG.REASON reason).set CIPH_ERR_LOG.CTX ctx).set CIPH_ERR_LOG.SITE site).set CIPH_ERR_LOG.QUEUE queue).report reason

/-- A context fetched from the store fails its tag (Table CIPH-5): it is invalid. -/
def State.ctxLost (s : State) (id : Nat) : State :=
  let s := { s with ciph := { s.ciph with valid := s.ciph.valid.erase id } }
  (s.ciphLog 0x0A0D id 0 0).raise CIPH_INT_STATUS.RESTORE_REFUSED

/-- Bring a context in for a record (R245): the context, or the reason it cannot be used. -/
def State.fetchCtx (s : State) (id cls : Nat) : Except Nat Ctx × State :=
  if s.get CIPH_STORE_SIZE.CONTEXTS ≤ id ∨ id ∉ s.ciph.valid then (.error 0x0A03, s)
  else
    match s.ciph.resident.find? (fun x => x.1 == id) with
    | some (_, c) => (.ok c, s.makeResident id c)
    | none =>
      let n := s.ciph.missRem + 1
      let s := ({ s with ciph := { s.ciph with missRem := n % 16 } }.addSat CIPH_COUNT.CTX_MISS (n / 16)).pmonEdge 0x006A 1
        { cls := cls, hasTenant := false }
      match (if s.isPoisoned (s.storeAddr id) 160 then none else readImage true (s.readBytes (s.storeAddr id) 160)) with
      | none => (.error 0x0A0D, s.ctxLost id)
      | some (_, c) => (.ok c, s.makeResident id c)

/-- A context as it stands, resident or in the store, without making it resident. -/
def State.ctx (s : State) (id : Nat) : Option Ctx :=
  if id ∈ s.ciph.valid then
    match s.ciph.resident.find? (fun x => x.1 == id) with
    | some (_, c) => some c
    | none => (readImage true (s.readBytes (s.storeAddr id) 160)).map (·.2)
  else none

/-- Store a context's new contents: it is resident, or becomes so. -/
def State.putCtx (s : State) (id : Nat) (c : Ctx) : State :=
  { s with ciph := { s.ciph with valid := addOnce s.ciph.valid id } }.makeResident id c

/-- Clear a context and its store entry (R247). -/
def State.dropCtx (s : State) (id : Nat) : State :=
  ({ s with ciph := { s.ciph with
      valid := s.ciph.valid.erase id
      resident := s.ciph.resident.filter (fun x => x.1 ≠ id)
      warned := s.ciph.warned.filter (fun x => x.1 ≠ id) } }.writeBytes (s.storeAddr id) (zeros 160)).residentUpdate

/-- Contexts that a tenant holds. -/
def State.tenantCtxs (s : State) (t : Nat) : Nat :=
  s.ciph.valid.countP (fun id => match s.ctx id with
    | none => false
    | some c => c.tenant == t)

/-- Whether one more context fits its tenant's quota (R246). -/
def State.quotaOk (s : State) (t : Nat) : Bool := decide (s.tenantCtxs t < s.get CIPH_TENANT.CTX_QUOTA t)

/-! ## The nonce ledger (R242, R243, R495) -/

/-- The ledger entry of a slot. -/
def State.ledger (s : State) (id k : Nat) : Ledger :=
  (s.ciph.ledger.find? (fun l => l.ctx == id && l.slot == k)).getD ⟨id, k, 0, 0, none, false⟩

/-- Replace a ledger entry. -/
def State.putLedger (s : State) (l : Ledger) : State :=
  { s with ciph := { s.ciph with ledger := s.ciph.ledger.filter (fun x => !(x.ctx == l.ctx && x.slot == l.slot)) ++ [l] } }

/-- Start a ledger write of a new mark. -/
def State.ledgerWrite (s : State) (id k h : Nat) : State := s.putLedger { s.ledger id k with writing := some h, failed := false }

/-- Where a slot's counter starts when a key of a generation is installed, or none for an older generation (R495). -/
def State.installCtr (s : State) (id k gen : Nat) : Option Nat :=
  let l := s.ledger id k
  if gen < l.gen then none else if gen = l.gen then some l.h else some 0

/-- The ledger entry of a slot takes a generation and a counter; H = counter + 2^23 is committed before the first seal
(R243, R495). -/
def State.ledgerInstall (s : State) (id k gen ctr : Nat) : State :=
  s.putLedger ⟨id, k, gen, ctr, some (ctr + 2 ^ 23), false⟩

end Sys2Proof.Machine
end

