-- ==== Sys2Proof/Machine/KeyMail.lean ====
section
/-!
DEFINITION. Machine/KeyMail.lean: session authentication, key establishment, rekey and the key-mail rings
(spec/09_cipher_and_keys.md, R256 to R262 and R495).
-/
namespace Sys2Proof.Machine
open Csr

/-! ## Context pairs (R259, R260) -/

/-- Transmit context of a pair: a job entry, 128 for gateway level, and a peer. -/
def State.pairTx (s : State) (e peer : Nat) : Nat := s.flowCtx e peer
/-- Receive context of a pair. -/
def State.pairRx (s : State) (e peer : Nat) : Nat := s.flowCtx e peer + 16

/-- The establishment in progress of a pair. -/
def State.establishing (s : State) (e peer : Nat) : Option Establish :=
  s.ciph.establish.find? (fun x => x.entry == e && x.peer == peer)

/-- Replace, or with none remove, the establishment of a pair. -/
def State.putEstablish (s : State) (e peer : Nat) (x : Option Establish) : State :=
  { s with ciph := { s.ciph with
      establish := s.ciph.establish.filter (fun y => !(y.entry == e && y.peer == peer)) ++ x.toList } }

/-- Rekey state of a pair (Table CIPH-8): that of its transmit context; a pair without contexts is OFFERED while its first
offer is out. -/
def State.rekeyState (s : State) (e peer : Nat) : Nat :=
  match s.ctx (s.pairTx e peer) with
  | some c => c.rekey
  | none => if (s.establishing e peer).isSome then 1 else 0

/-- Change a context, where it is valid. -/
def State.updCtx (s : State) (id : Nat) (f : Ctx → Ctx) : State :=
  match s.ctx id with
  | none => s
  | some c => s.putCtx id (f c)

/-- Set the rekey state of both contexts of a pair. -/
def State.setRekey (s : State) (e peer st : Nat) : State :=
  (s.updCtx (s.pairTx e peer) (fun c => { c with rekey := st })).updCtx (s.pairRx e peer) (fun c => { c with rekey := st })

/-- Whether this site is the initiator toward a peer (R259). -/
def State.initiates (s : State) (peer : Nat) : Bool := decide (s.localSite < peer)

/-- The standby slot of a context that may not exist yet: the slot ACTIVE does not name. -/
def standbyOf : Option Ctx → Nat
  | none => 1
  | some c => 1 - c.active

/-- The present generation of a pair: the newest of its contexts, and the ledger's of their slots before any. -/
def State.pairGen (s : State) (e peer : Nat) : Nat :=
  let id := s.pairTx e peer
  match s.ctx id with
  | some c => c.newest
  | none => max (s.ledger id 0).gen (s.ledger id 1).gen

/-! ## Envelopes (R256, Tables CIPH-6 and CIPH-7) -/

/-- An entry of an envelope: JOB_ID, KEY_GEN and payload. -/
structure MailEntry where
  job : Nat
  gen : Nat
  payload : Bytes
  deriving DecidableEq, Repr

/-- An entry's bytes: its payload is padded to a multiple of 8. -/
def MailEntry.bytes (x : MailEntry) : Bytes :=
  le 2 x.job ++ le 2 x.gen ++ le 2 x.payload.length ++ zeros 2 ++ padTo (8 * ceilDiv x.payload.length 8) x.payload

/-- The entries of an envelope body: at most `n`. -/
def mailEntries : (n : Nat) → Bytes → List MailEntry
  | 0, _ => []
  | n + 1, b =>
    let len := fieldAt b 4 2
    if b.length < 8 + len then [] else ⟨fieldAt b 0 2, fieldAt b 2 2, slice b 8 len⟩ :: mailEntries n (b.drop (8 + 8 * ceilDiv len 8))

/-- Place an envelope in the outgoing ring, or hold it for lack of a slot (R256, Table CIPH-9). -/
def State.mailPut (s : State) (env : Bytes) : State :=
  let size := 2 ^ s.get CIPH_KMO_PTR.SIZE_LOG2
  let wr := s.get CIPH_KMO_PTR.WR_PTR
  if s.get CIPH_KMO_BASE.ADDR = 0 ∨ diff16 wr (s.get CIPH_KMO_PTR.RD_PTR) ≥ size then
    { s with ciph := { s.ciph with mailHeld := s.ciph.mailHeld ++ [env] } }.set CIPH_KMO_PTR.FULL 1
  else
    ((s.hostWrite (hostBase + s.get CIPH_KMO_BASE.ADDR * 2 ^ 16 + 2 ^ 16 * (wr % size)) env).set CIPH_KMO_PTR.WR_PTR (wr + 1)).raise
      CIPH_INT_STATUS.MAIL_OUT

/-- Envelopes held go to the ring as its slots become free. -/
def State.mailFlush (s : State) : State :=
  let held := s.ciph.mailHeld
  held.foldl State.mailPut ({ s with ciph := { s.ciph with mailHeld := [] } }.set CIPH_KMO_PTR.FULL 0)

/-- Form, sign and send an envelope of a type to a site (R256): under the session key, or a CERT under the identity key. -/
def State.sendMail (s : State) (site type : Nat) (entries : List MailEntry) (cert : Bytes) : State :=
  let seq := lookupD s.ciph.mailOut site 0 + 1
  let s := { s with ciph := { s.ciph with mailOut := assocPut s.ciph.mailOut site seq } }
  let isCert := type == 6
  let body := if isCert then cert else entries.flatMap MailEntry.bytes
  let sigLen := if isCert then 29792 else 17088
  let signer := sha256 (if isCert then Config.identityPk else s.ciph.sessionPk)
  let m := le 1 1 ++ le 1 type ++ le 1 (s.localSite + 16 * site) ++ le 1 (s.get XPORT_CTRL.GROUP_POS) ++ le 2 entries.length ++
    zeros 2 ++ le 8 seq ++ le 4 (64 + body.length + sigLen) ++ le 4 s.stamp ++ padTo 32 signer ++ zeros 8 ++ body
  s.mailPut (m ++ padTo sigLen (Config.sign (if isCert then Config.identitySk else s.ciph.sessionSk) m))

/-- Send this module's CERT to a site (R257, Table CIPH-7). -/
def State.sendCert (s : State) (site : Nat) : State :=
  s.sendMail site 6 [] (padTo 64 Config.identityPk ++ padTo 32 s.ciph.sessionPk ++ le 4 (s.get CIPH_SECURITY.BOOT_COUNT) ++
    le 4 s.ciph.sessionGen ++ zeros 8)

/-- Send an ABORT with a reason. -/
def State.sendAbort (s : State) (site reason : Nat) : State := s.sendMail site 5 [⟨0, 0, le 2 reason ++ zeros 6⟩] []

/-! ## Taking an envelope (R257, R258) -/

/-- Discard an envelope with its reason (R258). -/
def State.mailReject (s : State) (site reason : Nat) : State :=
  ((s.ciphLog reason 0 site 0).addSat CIPH_KEY_COUNT.MAIL_REJECT 1).raise CIPH_INT_STATUS.MAIL_REJECT

/-- Whether an envelope's header is well formed and meant for this gateway. -/
def State.mailForUs (s : State) (env : Bytes) : Bool :=
  let site := fieldAt env 2 1 % 16
  fieldAt env 0 1 == 1 && fieldAt env 2 1 / 16 == s.localSite && s.on PEER_CFG.ENABLE site && fieldAt env 16 4 == env.length

/-- The primary or spare identity hash of a site. -/
def State.peerHash (s : State) (site k : Nat) : Bytes := (List.range 4).flatMap (fun i => le 8 (s.get CIPH_PEER_ID.HASH site (4 * k + i)))

/-- Whether a CERT passes R257: an enrolled identity and a signature that verifies. -/
def State.certOk (s : State) (site : Nat) (env : Bytes) : Bool :=
  let pk := slice env 64 64
  let h := sha256 pk
  let enrolled (k : Nat) : Bool := s.peerHash site k != zeros 32 && s.peerHash site k == h
  let n := env.length - 29792
  env.length == 64 + 112 + 29792 && slice env 24 32 == h && (enrolled 0 || enrolled 1) && Config.verify pk (env.take n) (env.drop n)

/-- The incoming ring's next envelope is taken: RD_PTR advances. Nothing is taken from an empty ring. -/
def State.mailNext (s : State) : Option State :=
  if s.get CIPH_KMI_PTR.WR_PTR = s.get CIPH_KMI_PTR.RD_PTR then none
  else some (s.set CIPH_KMI_PTR.RD_PTR (s.get CIPH_KMI_PTR.RD_PTR + 1))

/-- Check an envelope under a session key (R258): its sender where it is accepted. A peer whose session key is missing is
answered with an ABORT, unless the envelope is one itself. -/
def State.mailCheck (s : State) (env : Bytes) : Option Nat × State :=
  let site := fieldAt env 2 1 % 16
  if !s.mailForUs env then (none, s.mailReject site 0x0A13)
  else
    match s.ciph.peerSession.find? (fun p => p.1 == site) with
    | none =>
      let s := s.mailReject site 0x0A13
      (none, if fieldAt env 1 1 = 5 then s else s.sendAbort site 0x0A13)
    | some (_, pk) =>
      let n := env.length - 17088
      if slice env 24 32 ≠ sha256 pk ∨ env.length < 64 + 17088 ∨ !Config.verify pk (env.take n) (env.drop n) then
        (none, s.mailReject site 0x0A13)
      else if fieldAt env 8 8 ≤ lookupD s.ciph.mailIn site 0 then (none, s.mailReject site 0x0A14)
      else (some site, { s with ciph := { s.ciph with mailIn := assocPut s.ciph.mailIn site (fieldAt env 8 8) } })

/-- Take the next envelope where it is of a type, and act on each of its entries: the pair's entry number and the entry. -/
def State.takeMailbox (s : State) (type : Nat) (env : Bytes) (act : State → Nat → Nat → MailEntry → State) : State :=
  if fieldAt env 1 1 ≠ type then s
  else
    match s.mailNext with
    | none => s
    | some s =>
      match s.mailCheck env with
      | (none, s) => s
      | (some site, s) =>
        (mailEntries (min (fieldAt env 4 2) 24) ((env.take (env.length - 17088)).drop 64)).foldl (fun s x =>
          match (if x.job = 0 then some 128 else s.entryOf x.job) with
          | none => s
          | some e => act s e site x) s

/-! ## Deriving and installing keys (R259, R495) -/

/-- KDF context of a pair's establishment (R259). -/
def State.kdfContext (s : State) (e peer gen : Nat) (ek c : Bytes) : Bytes :=
  le 2 (s.flowJob e) ++ le 1 (min s.localSite peer) ++ le 1 (max s.localSite peer) ++ le 1 (s.get XPORT_CTRL.GROUP_POS) ++ le 2 gen ++
  sha256 (ek ++ c)

/-- Keys and salts of a direction from the 72 derived bytes: low to high, or high to low. -/
def derivedSlot (d : Bytes) (lowToHigh : Bool) (gen ctr : Nat) : KeySlot :=
  if lowToHigh then ⟨true, slice d 0 32, fieldAt d 64 4, ctr, 0, gen⟩ else ⟨true, slice d 32 32, fieldAt d 68 4, ctr, 0, gen⟩

/-- Whether a derived salt equals that of the slot it does not replace (R259). -/
def saltClash (c : Option Ctx) (x : KeySlot) : Bool :=
  match c with
  | none => false
  | some c => let o := c.slot c.active; o.valid && o.salt == x.salt

/-- What installing an establishment's keys answers. -/
inductive Install where
  | done (s : State)
  | clash
  | older (gen : Nat)
  | refused (reason : Nat)

/-- Install the standby slot of one context of a pair, creating the context where there is none (R246, R495). -/
def State.installSlot (s : State) (id e peer : Nat) (rx : Bool) (x : KeySlot) : State :=
  let c := (s.ctx id).getD ⟨s.flowTenant e, rx, 0, false, peer, 0, s.flowJob e, {}, {}⟩
  let k := 1 - c.active
  let n := if rx then 0 else (s.installCtr id k x.gen).getD 0
  let s := if rx then s else s.ledgerInstall id k x.gen n
  let s := { s with ciph := { s.ciph with warned := s.ciph.warned.filter (· ≠ (id, k)) } }
  s.putCtx id (c.putSlot k { x with ctr := n })

/-- Install both standby slots of a pair from the derived bytes (R259, R495, R246). -/
def State.installPair (s : State) (e peer gen : Nat) (d : Bytes) : Install :=
  let tx := s.pairTx e peer
  let rx := s.pairRx e peer
  let low := s.initiates peer
  let a := derivedSlot d low gen 0
  let b := derivedSlot d (!low) gen 0
  let missing := b2n (s.ctx tx).isNone + b2n (s.ctx rx).isNone
  if s.get CIPH_STORE_SIZE.CONTEXTS ≤ rx then .refused 0x0A03
  else if missing ≠ 0 ∧ s.get CIPH_TENANT.CTX_QUOTA (s.flowTenant e) < s.tenantCtxs (s.flowTenant e) + missing then .refused 0x0A1B
  else if saltClash (s.ctx tx) a || saltClash (s.ctx rx) b then .clash
  else if (s.installCtr tx (standbyOf (s.ctx tx)) gen).isNone then .older (s.ledger tx (standbyOf (s.ctx tx))).gen
  else .done ((s.installSlot tx e peer false a).installSlot rx e peer true b)

/-- Make the standby slot of a pair's transmit context the active one. -/
def State.switchActive (s : State) (e peer : Nat) : State :=
  s.updCtx (s.pairTx e peer) (fun c => { c with active := 1 - c.active })

/-- The low-to-high key of a pair's newest slots: the standby or active slot of the given generation. -/
def State.lowKey (s : State) (e peer gen : Nat) : Bytes :=
  match s.ctx (if s.initiates peer then s.pairTx e peer else s.pairRx e peer) with
  | none => []
  | some c => if c.slot0.valid && c.slot0.gen == gen then c.slot0.key else c.slot1.key

/-- The 16 bytes of a CONFIRM (Table CIPH-7). -/
def confirmBytes (key kctx : Bytes) : Bytes := (hmac key (ascii "confirm" ++ kctx)).take 16

/-- Fresh random bytes, 32 of them (log entry 3). -/
def State.randomBytes (s : State) : Bytes × State :=
  let r := (List.range 4).foldl (fun (x : Bytes × State) _ => (x.1 ++ le 8 x.2.fresh.1, x.2.fresh.2)) ([], s)
  r

/-! ## Offers (R259, R260) -/

/-- Generate a key pair and send an OFFER of a generation for a pair (Table CIPH-8). With the ML-KEM engine stopped no
establishment starts (Table CIPH-9). -/
def State.sendOffer (s : State) (e peer gen : Nat) : State :=
  if !s.on CIPH_CAP.KEM_OK then s.ciphLog 0x0A12 (s.pairTx e peer) peer 0
  else
    let (r, s) := s.randomBytes
    let (ek, dk) := Config.kemKeyGen r
    let ek := padTo 1568 ek
    let s := s.putEstablish e peer (some ⟨e, peer, gen, ek, dk, [], false, false⟩)
    (s.setRekey e peer 1).sendMail peer 1 [⟨s.flowJob e, gen, ek⟩] []

/-- Start a rekey of a pair, or its first establishment: only the initiator does, and only from STEADY (R260, R261). -/
def State.startRekey (s : State) (e peer : Nat) : State :=
  if s.initiates peer && s.on PEER_CFG.ENABLE peer && s.rekeyState e peer == 0 && (e == 128 || s.on JOB_CTRL.ENABLE e) then
    s.sendOffer e peer (s.pairGen e peer + 1)
  else s

/-- REKEY_INTERVAL (R260): a pair's interval has passed at the initiator. An interval of 0 is off once the pair has keys. -/
def runRekeyInterval (e : Fin 129) (peer : Fin 16) (s : State) : Host.Outcome State Fault Refusal :=
  if s.get CIPH_TENANT.REKEY_INTERVAL_S (s.flowTenant e) = 0 ∧ (s.ctx (s.pairTx e peer)).isSome then .next s
  else .next (s.startRekey e peer)

/-- REKEY_TIMEOUT (Table CIPH-8): no ACCEPT came in time; the key pair is discarded. -/
def runRekeyTimeout (e : Fin 129) (peer : Fin 16) (s : State) : Host.Outcome State Fault Refusal :=
  if s.rekeyState e peer = 1 then
    let s := (s.putEstablish e peer none).setRekey e peer 0
    .next (((s.ciphLog 0x0A15 (s.pairTx e peer) peer 0).addSat CIPH_KEY_COUNT.REKEY_TIMEOUT 1).raise CIPH_INT_STATUS.REKEY)
  else .next s

/-- REKEY_RETRY (Table CIPH-8): the initiator offers again. -/
def runRekeyRetry (e : Fin 129) (peer : Fin 16) (s : State) : Host.Outcome State Fault Refusal := .next (s.startRekey e peer)

/-- One entry of an OFFER at the responder (R259, Table CIPH-8): encapsulate, derive, install the standby slots, and the
ACCEPT's entry. A salt clash is answered without installing, so that both sides abandon it; an older generation is not
answered (log entry 33). -/
def State.acceptOffer (s : State) (e peer : Nat) (x : MailEntry) : State :=
  let st := s.rekeyState e peer
  let again := st == 2 && (match s.establishing e peer with
    | none => true
    | some y => decide (y.gen < x.gen))
  if s.initiates peer || !(st == 0 || again) then s
  else if !s.on CIPH_CAP.KEM_OK then s.ciphLog 0x0A12 (s.pairTx e peer) peer 0
  else
    let (r, s) := s.randomBytes
    let c := padTo 1568 (Config.kemEncapsCiphertext x.payload r)
    let k := s.kdfContext e peer x.gen x.payload c
    let d := kdf (Config.kemEncapsSecret x.payload r) (ascii "KG880 line") k 72
    let reply (s : State) : State := s.sendMail peer 2 [⟨x.job, x.gen, c⟩] []
    match s.installPair e peer x.gen d with
    | .refused reason => s.ciphLog reason (s.pairTx e peer) peer 0
    | .older _ => s
    | .clash => reply s
    | .done s => reply ((s.putEstablish e peer (some ⟨e, peer, x.gen, [], [], k, false, false⟩)).setRekey e peer 2)

/-- KEYMAIL_OFFER (R258 to R260, R495). `env` is the envelope of the incoming ring's next slot. -/
def runKeymailOffer (env : Bytes) (s : State) : Host.Outcome State Fault Refusal := .next (s.takeMailbox 1 env State.acceptOffer)

/-- One entry of an ACCEPT at the initiator (R259, Table CIPH-8): decapsulate, derive, install both standby slots, switch and
send CONFIRM. A salt clash or an older generation starts again with a new generation. -/
def State.takeAccept (s : State) (e peer : Nat) (x : MailEntry) : State :=
  match s.establishing e peer with
  | none => s
  | some y =>
    if s.rekeyState e peer ≠ 1 ∨ y.gen ≠ x.gen ∨ y.dk = [] then s
    else
      let k := s.kdfContext e peer x.gen y.ek x.payload
      let d := kdf (Config.kemDecaps y.dk x.payload) (ascii "KG880 line") k 72
      match s.installPair e peer x.gen d with
      | .refused reason => ((s.putEstablish e peer none).setRekey e peer 0).ciphLog reason (s.pairTx e peer) peer 0
      | .clash => s.sendOffer e peer (x.gen + 1)
      | .older g => s.sendOffer e peer (g + 1)
      | .done s =>
        let s := ((s.switchActive e peer).putEstablish e peer (some { y with dk := [], kctx := k })).setRekey e peer 3
        (s.addSat CIPH_KEY_COUNT.ESTABLISHED 1).sendMail peer 3 [⟨x.job, x.gen, confirmBytes (s.lowKey e peer x.gen) k⟩] []

/-- KEYMAIL_ACCEPT (R258 to R260, R495). -/
def runKeymailAccept (env : Bytes) (s : State) : Host.Outcome State Fault Refusal := .next (s.takeMailbox 2 env State.takeAccept)

/-- One entry of a CONFIRM at the responder (Table CIPH-8): the transmit context switches. -/
def State.takeConfirm (s : State) (e peer : Nat) (x : MailEntry) : State :=
  match s.establishing e peer with
  | none => s
  | some y =>
    if s.rekeyState e peer = 2 ∧ y.gen = x.gen ∧ x.payload = confirmBytes (s.lowKey e peer x.gen) y.kctx then
      ((s.switchActive e peer).setRekey e peer 3).addSat CIPH_KEY_COUNT.ESTABLISHED 1
    else s

/-- KEYMAIL_CONFIRM (R260). -/
def runKeymailConfirm (env : Bytes) (s : State) : Host.Outcome State Fault Refusal := .next (s.takeMailbox 3 env State.takeConfirm)

/-- CONFIRM_RESEND (Table CIPH-8): the initiator of a SWITCHED pair sends CONFIRM again. -/
def runConfirmResend (e : Fin 129) (peer : Fin 16) (s : State) : Host.Outcome State Fault Refusal :=
  match s.establishing e peer with
  | none => .next s
  | some y =>
    if s.rekeyState e peer = 3 ∧ s.initiates peer then
      .next (s.sendMail peer 3 [⟨s.flowJob e, y.gen, confirmBytes (s.lowKey e peer y.gen) y.kctx⟩] [])
    else .next s

/-! ## Retiring the old slot (R261) -/

/-- A SWITCHED pair whose own old slot is retired and whose peer has sent RETIRE is STEADY again (Table CIPH-8): the old
receive slot is cleared. -/
def State.steadyIfDone (s : State) (e peer : Nat) : State :=
  match s.establishing e peer with
  | none => s
  | some y =>
    if y.ownRetired ∧ y.peerRetired then
      let s := s.updCtx (s.pairRx e peer) (fun c =>
        let keep := if c.slot0.valid && c.slot0.gen == y.gen then 0 else 1
        { c.putSlot (1 - keep) {} with active := keep })
      let s := (s.putEstablish e peer none).setRekey e peer 0
      (s.ciphLog 0x0A16 (s.pairTx e peer) peer 0).raise CIPH_INT_STATUS.REKEY
    else s

/-- Whether a chunk sealed under a slot of a context is retained or waits to be sent (R261). -/
def State.slotInUse (s : State) (id k : Nat) : Bool :=
  s.xport.retained.any (fun r => r.ctx == id && r.slot == k) || s.xport.sealed.any (fun c => c.ctx == id && c.slot == k)

/-- Retire the old transmit slot of a SWITCHED pair once no retained chunk is sealed under it, and send RETIRE (R261). -/
def State.retireOld (s : State) (e peer : Nat) : State :=
  let id := s.pairTx e peer
  match s.establishing e peer, s.ctx id with
  | some y, some c =>
    let k := 1 - c.active
    if c.rekey ≠ 3 ∨ y.ownRetired ∨ s.slotInUse id k then s
    else
      let old := c.slot k
      let s := s.putCtx id (c.putSlot k {})
      let s := s.sendMail peer 4 [⟨s.flowJob e, y.gen, le 2 (if old.valid then old.gen else 0) ++ zeros 6⟩] []
      (s.putEstablish e peer (some { y with ownRetired := true })).steadyIfDone e peer
  | _, _ => s

/-- OLD_SLOT_RETIRE (R261). -/
def runOldSlotRetire (e : Fin 129) (peer : Fin 16) (s : State) : Host.Outcome State Fault Refusal := .next (s.retireOld e peer)

/-- One entry of a RETIRE (R261): the receive slot of the named generation is cleared. -/
def State.takeRetire (s : State) (e peer : Nat) (x : MailEntry) : State :=
  let g := fieldAt x.payload 0 2
  let s := s.updCtx (s.pairRx e peer) (fun c =>
    if c.slot0.valid && c.slot0.gen == g then c.putSlot 0 {} else if c.slot1.valid && c.slot1.gen == g then c.putSlot 1 {} else c)
  let s := ((s.ciphLog 0x0A17 (s.pairRx e peer) peer 0).addSat CIPH_KEY_COUNT.RETIRED 1).raise CIPH_INT_STATUS.REKEY
  match s.establishing e peer with
  | none => s
  | some y => (s.putEstablish e peer (some { y with peerRetired := true })).steadyIfDone e peer

/-- KEYMAIL_RETIRE (R261). -/
def runKeymailRetire (env : Bytes) (s : State) : Host.Outcome State Fault Refusal := .next (s.takeMailbox 4 env State.takeRetire)

/-! ## ABORT and CERT (R257, R258) -/

/-- KEYMAIL_ABORT (R258): a peer that lacks this module's session key is sent its CERT again. -/
def runKeymailAbort (env : Bytes) (s : State) : Host.Outcome State Fault Refusal :=
  if fieldAt env 1 1 ≠ 5 then .next s
  else
    match s.mailNext with
    | none => .next s
    | some s =>
      match s.mailCheck env with
      | (none, s) => .next s
      | (some site, s) => if fieldAt env 72 2 = 0x0A13 then .next (s.sendCert site) else .next s

/-- KEYMAIL_CERT (R257): a CERT of an enrolled identity installs the peer's session key, and MAIL_SEQ restarts. A CERT of the
session key already held is subject to MAIL_SEQ like any envelope. -/
def runKeymailCert (env : Bytes) (s : State) : Host.Outcome State Fault Refusal :=
  if fieldAt env 1 1 ≠ 6 then .next s
  else
    match s.mailNext with
    | none => .next s
    | some s =>
      let site := fieldAt env 2 1 % 16
      let pk := slice env 128 32
      let seq := fieldAt env 8 8
      let same := s.ciph.peerSession.contains (site, pk)
      if !s.mailForUs env || !s.certOk site env then .next (s.mailReject site 0x0A13)
      else if same && decide (seq ≤ lookupD s.ciph.mailIn site 0) then .next (s.mailReject site 0x0A14)
      else
        .next { s with ciph := { s.ciph with
          peerSession := assocPut s.ciph.peerSession site pk, mailIn := assocPut s.ciph.mailIn site seq } }

end Sys2Proof.Machine
end

