-- ==== Sys2Proof/Machine/Cipher.lean ====
section
/-!
DEFINITION. Machine/Cipher.lean: sealing and opening, context save and restore, quotes, measurements and ledger writes
(spec/09_cipher_and_keys.md, R236 to R255, R264 to R269).
-/
namespace Sys2Proof.Machine
open Csr

/-! ## Descriptors (Table CIPH-4, R246, R269) -/

/-- Plaintext bytes of a cipher descriptor. -/
def ciphLen (w : Work) : Nat := w.body 4 4
/-- ADDR_HDR. -/
def ciphHdr (w : Work) : Nat := w.body 8 8
/-- ADDR_IN. -/
def ciphIn (w : Work) : Nat := w.body 16 8
/-- ADDR_OUT. -/
def ciphOut (w : Work) : Nat := w.body 24 8
/-- Context ID of a cipher descriptor. -/
def ciphCtx (w : Work) : Nat := w.body 2 2
/-- Whether FLAGS.CONTROL is 1. -/
def ciphControl (w : Work) : Bool := (w.body 1 1).testBit 0
/-- Whether FLAGS.WRAPPED is 1. -/
def ciphWrapped (w : Work) : Bool := (w.body 1 1).testBit 1

/-- The accesses of a cipher descriptor of operation `op`. -/
def ciphAccess (op : Nat) (w : Work) : List (Bool × Nat × Nat) :=
  let n := ciphLen w
  match op with
  | 1 => if ciphControl w then [(false, ciphHdr w, 64 + n), (true, ciphHdr w + 36, 28 + n)]
    else [(false, ciphHdr w, 64), (false, ciphIn w, n), (true, ciphHdr w + 28, 16), (true, ciphOut w, n + 16)]
  | 2 => if ciphControl w then [(false, ciphHdr w, 64 + n), (true, ciphOut w, n)]
    else [(false, ciphHdr w, 64), (false, ciphIn w, n + 16), (true, ciphOut w, n)]
  | 3 => [(true, ciphOut w, 160)]
  | 4 => [(false, ciphHdr w, 160)]
  | 6 => [(false, ciphHdr w, 32), (true, ciphOut w, 30560)]
  | _ => []

/-- Flags that an operation uses. -/
def ciphFlags (op : Nat) : Nat := match op with
  | 1 => 1
  | 2 => 1
  | 3 => 2
  | 4 => 6
  | _ => 0

/-- Whether LEN fits an operation. -/
def ciphLenOk (op : Nat) (w : Work) : Bool :=
  let n := ciphLen w
  match op with
  | 1 => decide (1 ≤ n ∧ n ≤ if ciphControl w then 8160 else 16789504)
  | 2 => decide (1 ≤ n ∧ n ≤ if ciphControl w then 8160 else 16789504)
  | 3 => n == 160
  | 4 => n == 160
  | 6 => n == 30560
  | _ => true

/-- Whether the addresses an operation uses are aligned. -/
def ciphAligned (op : Nat) (w : Work) : Bool :=
  (op == 3 || op == 5 || decide (ciphHdr w % 8 = 0)) &&
  (op == 4 || op == 5 || (op == 1 && ciphControl w) || decide (ciphOut w % 64 = 0))

/-- The reason a cipher descriptor of operation `op` is refused with before its context is looked at, or none. -/
def State.ciphCheck (s : State) (op : Nat) (w : Work) : Option Nat :=
  if (op = 1 ∨ op = 2) ∧ !s.on CIPH_STATUS.READY then some 0x0A1C
  else if w.body 0 1 ≠ op ∨ w.body 1 1 ||| ciphFlags op ≠ ciphFlags op ∨ !ciphLenOk op w then some 0x0A01
  else if !ciphAligned op w ∨ (s.badAccess (s.classOf w) (ciphAccess op w)).isSome then some 0x0A02
  else none

/-- End a cipher descriptor with an error: log, counts, interrupt and violation (Table CIPH-5). -/
def State.ciphFail (s : State) (op : Nat) (w : Work) (reason : Nat) : State :=
  let s := s.ciphLog reason (ciphCtx w) (w.body 36 1 % 16) w.queue
  let s := (s.set CIPH_ERR_SEQ.CHUNK_ID (w.body 32 4)).set CIPH_ERR_SEQ.STEP w.step
  let s :=
    if reason = 0x0A02 then s.logAccess w (ciphAccess op w)
    else if reason = 0x0A04 then s.violation ⟨reason, 3, s.classOf w, w.queue, w.tenant, 10, 0, ciphCtx w⟩
    else if reason = 0x0A06 then s.addSat CIPH_COUNT.REFUSED 1
    else if reason = 0x0A07 ∨ reason = 0x0A08 then (s.addSat CIPH_COUNT.REFUSED 1).raise CIPH_INT_STATUS.LIMIT
    else if reason = 0x0A0B then (s.addSat CIPH_COUNT.TAG_FAIL 1).raise CIPH_INT_STATUS.TAG_FAIL
    else if reason = 0x0A0C then (s.addSat CIPH_COUNT.SLOT_MISS 1).raise CIPH_INT_STATUS.TAG_FAIL
    else if 0x0A0D ≤ reason ∧ reason ≤ 0x0A10 then s.raise CIPH_INT_STATUS.RESTORE_REFUSED
    else s
  s.finishError w reason

/-- The context of a record (R246): the checks of its ID, tenant and direction. -/
def State.recordCtx (s : State) (w : Work) (rx : Bool) : Except Nat Ctx × State :=
  match s.fetchCtx (ciphCtx w) (s.classOf w) with
  | (.error e, s) => (.error e, s)
  | (.ok c, s) => if c.tenant ≠ w.tenant then (.error 0x0A04, s) else if c.rx ≠ rx then (.error 0x0A05, s) else (.ok c, s)

/-! ## Pipelines (R238) -/

/-- Whether a pipeline is in service: 0-31 transmit, 32-63 receive. -/
def State.pipeOn (s : State) (u : Nat) : Bool := (s.get CIPH_CTRL.CLUSTER_EN).testBit (u / 8) && !s.ciph.stopped.contains u

/-- CIPH_CAP's pipelines in service. -/
def State.pipeCap (s : State) : State :=
  let tx := ((List.range 32).filter s.pipeOn).length
  let rx := (((List.range 32).map (· + 32)).filter s.pipeOn).length
  (s.set CIPH_CAP.TX_PIPES tx).set CIPH_CAP.RX_PIPES rx

/-- The copies of a pipeline differ (R238): it stops, with a quarantine record, and the record waits to run again. -/
def State.pipeFault (s : State) (u : Nat) (w : Work) (again : Bool) : State :=
  let s := { s with ciph := { s.ciph with stopped := s.ciph.stopped ++ [u] } }.pipeCap
  let s := ((s.ciphLog 0x0A11 (ciphCtx w) (w.body 36 1 % 16) w.queue).raise CIPH_INT_STATUS.UNIT_FAULT).quarantineCount 2 10 (u / 8)
  let s := (s.health { reason := 0x0A11, kind := 1, level := 0, block := 10, panel := 2, action := 3, cluster := u / 8, unit := u % 8
                       job := w.job, step := w.step }).capChange 10
  if again then s.finish w { reason := 0x0A11, error := true, poisoned := true, block := 10 }
  else { s with rerun := s.rerun ++ [w] }

/-! ## Sealing (R240 to R242, R251, R252) -/

/-- What taking a nonce answers. -/
inductive Nonce where
  | wait
  | refuse (reason : Nat)
  | take (slot ctr : Nat) (c : Ctx)
  deriving DecidableEq, Repr

/-- Warning limits of CIPH_LIMIT: records, bytes. -/
def State.warnLimits (s : State) : Nat × Nat := (2 ^ s.get CIPH_LIMIT.RECORD_WARN_LOG2, 2 ^ s.get CIPH_LIMIT.BYTE_WARN_LOG2)

/-- Take a counter for a seal of `n` bytes (R240 to R242): wait at H, refuse an exhausted or over-limit slot, or the slot, the
counter and the context after it. -/
def State.nonce (s : State) (id n : Nat) (c : Ctx) : Nonce :=
  let k := c.active
  let x := c.slot k
  if !x.valid then .refuse 0x0A06
  else if (s.ledger id k).h ≤ x.ctr then .wait
  else if x.ctr = 2 ^ 64 - 1 then .refuse 0x0A07
  else if x.ctr ≥ 4 * s.warnLimits.1 ∨ x.bytes ≥ 4 * s.warnLimits.2 then .refuse 0x0A08
  else .take k x.ctr (c.putSlot k { x with ctr := x.ctr + 1, bytes := satAdd 64 x.bytes n })

/-- After a counter is taken: a ledger write starts once CTR reaches H − 2^22, and a warning limit passed is reported once and
starts a rekey (R241, R242). -/
def State.afterNonce (s : State) (id k : Nat) (c : Ctx) : State :=
  let s := s.makeResident id c
  let l := s.ledger id k
  let x := c.slot k
  let s := if l.writing.isNone ∧ l.h ≤ x.ctr + 2 ^ 22 then s.ledgerWrite id k (l.h + 2 ^ 23) else s
  if (s.warnLimits.1 < x.ctr ∨ s.warnLimits.2 < x.bytes) ∧ (id, k) ∉ s.ciph.warned then
    let s := { s with ciph := { s.ciph with warned := s.ciph.warned ++ [(id, k)] } }.ciphLog 0x0A09 id c.peer 0
    s.startRekey (if c.job = 0 then 128 else (s.entryOf c.job).getD 128) c.peer
  else s

/-- The 12 nonce bytes of a salt and counter (R239). -/
def nonceBytes (salt ctr : Nat) : Bytes := le 4 salt ++ le 8 ctr

/-- A sealed chunk waits for the transport (R199): its flow is the descriptor's job and the context's peer. -/
def State.chunkSealed (s : State) (w : Work) (k : Nat) (c : Ctx) : State :=
  match s.entryOf w.job with
  | none => s
  | some j =>
    let h := s.readBytes (ciphHdr w) 32
    let mine (a : Nat × Nat × Nat × Nat) : Bool := a.1 == j && a.2.1 == c.peer && a.2.2.1 == hdrChunk h
    let n := match s.xport.again.find? mine with
      | none => 0
      | some a => a.2.2.2
    { s with xport := { s.xport with
        again := s.xport.again.filter (fun a => !mine a)
        sealed := s.xport.sealed ++ [⟨j, c.peer, ciphHdr w, ciphOut w, ciphCtx w, k, (fieldAt h 1 1).testBit 0, n⟩] } }

/-- Seal a chunk under a slot and counter (R251). -/
def State.sealChunk (s : State) (w : Work) (k n : Nat) (c : Ctx) : State :=
  let cls := s.classOf w
  let x := c.slot k
  let iv := nonceBytes x.salt n
  let s := s.readEvents w (ciphAccess 1 w)
  let s := (s.engineWrite 10 cls (ciphHdr w + 28) (le 2 (ciphCtx w) ++ le 1 k)).engineWrite 10 cls (ciphHdr w + 32) iv
  let e := gcmSeal x.key iv (s.readBytes (ciphHdr w) 32) (s.readBytes (ciphIn w) (ciphLen w))
  (s.engineWrite 10 cls (ciphOut w) (e.1 ++ e.2)).chunkSealed w k c

/-- Seal a control message in place under a slot and counter (R252). -/
def State.sealControl (s : State) (w : Work) (k n : Nat) (c : Ctx) : State :=
  let cls := s.classOf w
  let x := c.slot k
  let a := ciphHdr w
  let iv := nonceBytes x.salt n
  let s := (s.readEvents w (ciphAccess 1 w)).engineWrite 10 cls (a + 36) iv
  let e := gcmSeal x.key iv (s.readBytes (a + 2) 14 ++ s.readBytes (a + 32) 4) (s.readBytes (a + 48) (ciphLen w))
  (s.engineWrite 10 cls (a + 48) (e.1 ++ e.2)).controlSealed a (64 + ciphLen w)

/-- Run a SEAL (R238 to R242, R251, R252): checks, poison, nonce, then the record. `fault` is the transmit pipeline whose
copies differ; `again` says that it is a second run. -/
def State.sealRun (s : State) (w : Work) (fault : Option (Fin 32)) (again : Bool) : State :=
  match s.ciphCheck 1 w with
  | some r => s.ciphFail 1 w r
  | none =>
    match s.recordCtx w false with
    | (.error r, s) => s.ciphFail 1 w r
    | (.ok c, s) =>
      if s.readsPoison (ciphAccess 1 w) then s.ciphFail 1 w 0x0A1D
      else
        match s.nonce (ciphCtx w) (ciphLen w) c with
        | .wait => { s with ciph := { s.ciph with waiting := addOnce s.ciph.waiting w } }
        | .refuse r => s.ciphFail 1 w r
        | .take k n c =>
          let s := s.afterNonce (ciphCtx w) k c
          match fault.filter (fun u => s.pipeOn u) with
          | some u => s.pipeFault u w again
          | none =>
            let s := if ciphControl w then s.sealControl w k n c else s.sealChunk w k n c
            (s.pmonEdge 0x002A (ciphLen w) (s.attrOf w)).finish w { block := 10, engine := n }

/-- SEAL (R251): a chunk is sealed. OP 0x0F, a swatch, has no effect beyond its completion. -/
def execSeal (w : Work) (fault : Option (Fin 32)) (s : State) : Host.Outcome State Fault Refusal :=
  if w.body 0 1 = 0x0F ∧ w.body 1 1 = 0 then .next (s.finish w { block := 10 })
  else .next (s.sealRun w fault false)

/-- SEAL_CONTROL (R252): a control message is sealed in place under a new nonce. -/
def execSealControl (w : Work) (fault : Option (Fin 32)) (s : State) : Host.Outcome State Fault Refusal :=
  .next (s.sealRun w fault false)

/-! ## Opening (R253, R254) -/

/-- The slot of a receive context that a nonce's salt selects (R253). -/
def Ctx.slotBySalt (c : Ctx) (salt : Nat) : Option Nat :=
  [0, 1].find? (fun k => (c.slot k).valid && (c.slot k).salt == salt)

/-- The transport learns what an OPEN found: of a chunk or of a control message. -/
def State.openEnded (s : State) (w : Work) (plain : Option Bytes) : State :=
  if ciphControl w then s.openedControl (ciphHdr w) plain.isSome (plain.getD []) else s.openedChunk (ciphHdr w) plain.isSome

/-- Run an OPEN (R253, R254): the slot by salt, then the tag; the plaintext becomes the data at ADDR_OUT only when the tag
verifies. -/
def State.openRun (s : State) (w : Work) (fault : Option (Fin 32)) (again : Bool) : State :=
  match s.ciphCheck 2 w with
  | some r => s.ciphFail 2 w r
  | none =>
    match s.recordCtx w true with
    | (.error r, s) => s.ciphFail 2 w r
    | (.ok c, s) =>
      if s.readsPoison (ciphAccess 2 w) then s.ciphFail 2 w 0x0A1D
      else
        let a := ciphHdr w
        let n := ciphLen w
        let ctl := ciphControl w
        let iv := s.readBytes (if ctl then a + 36 else a + 32) 12
        match c.slotBySalt (fieldAt iv 0 4) with
        | none => (s.ciphFail 2 w 0x0A0C).openEnded w none
        | some k =>
          if !ctl ∧ s.readLe (a + 30) 1 % 2 ≠ k then (s.ciphFail 2 w 0x0A0C).openEnded w none
          else
            match fault.filter (fun u => s.pipeOn (32 + u)) with
            | some u => s.pipeFault (32 + u) w again
            | none =>
              let s := s.readEvents w (ciphAccess 2 w)
              let aad := if ctl then s.readBytes (a + 2) 14 ++ s.readBytes (a + 32) 4 else s.readBytes a 32
              let ct := if ctl then s.readBytes (a + 48) n else s.readBytes (ciphIn w) n
              let tag := if ctl then s.readBytes (a + 48 + n) 16 else s.readBytes (ciphIn w + n) 16
              match gcmOpen (c.slot k).key iv aad ct tag with
              | none => (s.ciphFail 2 w 0x0A0B).openEnded w none
              | some p =>
                let s := (s.engineWrite 10 (s.classOf w) (ciphOut w) p).pmonEdge 0x004A n (s.attrOf w)
                (s.finish w { block := 10, engine := k }).openEnded w (some p)

/-- OPEN (R253, R254): a chunk or a control message is opened. -/
def execOpen (w : Work) (fault : Option (Fin 32)) (s : State) : Host.Outcome State Fault Refusal := .next (s.openRun w fault false)

/-! ## SAVE, RESTORE, INVALIDATE (R247 to R249) -/

/-- A key operation's context, with the checks of its ID and tenant. -/
def State.keyOpCtx (s : State) (w : Work) : Except Nat Ctx × State :=
  match s.fetchCtx (ciphCtx w) (s.classOf w) with
  | (.error e, s) => (.error e, s)
  | (.ok c, s) => if c.tenant ≠ w.tenant then (.error 0x0A04, s) else (.ok c, s)

/-- SAVE (R247, R248): the context's image, wrapped or clear, is written at ADDR_OUT. -/
def execSave (w : Work) (s : State) : Host.Outcome State Fault Refusal :=
  match s.ciphCheck 3 w with
  | some r => .next (s.ciphFail 3 w r)
  | none =>
    if !ciphWrapped w ∧ !s.on CIPH_SECURITY.CLEAR_EXPORT_EN then .next (s.ciphFail 3 w 0x0A0F)
    else
      match s.keyOpCtx w with
      | (.error r, s) => .next (s.ciphFail 3 w r)
      | (.ok c, s) =>
        let n := s.ciph.wrapCtr + 1
        let s := if ciphWrapped w then { s with ciph := { s.ciph with wrapCtr := n } } else s
        .next ((s.engineWrite 10 (s.classOf w) (ciphOut w) (ctxImage (ciphWrapped w) (ciphCtx w) n c)).finish w { block := 10 })

/-- A restored transmit slot: its counter is the greater of the image's and the ledger's mark (R249), and H is committed
before its first seal. -/
def State.restoreSlot (s : State) (id k : Nat) (c : Ctx) : Ctx × State :=
  let x := c.slot k
  if c.rx || !x.valid then (c, s)
  else
    let l := s.ledger id k
    let n := max x.ctr l.h
    (c.putSlot k { x with ctr := n }, s.ledgerInstall id k (max x.gen l.gen) n)

/-- RESTORE_CONTEXT (R247 to R249): an image is checked and installed under its context ID. -/
def execRestoreContext (w : Work) (s : State) : Host.Outcome State Fault Refusal :=
  match s.ciphCheck 4 w with
  | some r => .next (s.ciphFail 4 w r)
  | none =>
    if !ciphWrapped w ∧ !s.on CIPH_SECURITY.CLEAR_EXPORT_EN then .next (s.ciphFail 4 w 0x0A0F)
    else if s.readsPoison (ciphAccess 4 w) then .next (s.ciphFail 4 w 0x0A1D)
    else
      match readImage (ciphWrapped w) (s.readBytes (ciphHdr w) 160) with
      | none => .next (s.ciphFail 4 w 0x0A0D)
      | some (id, c) =>
        if s.get CIPH_STORE_SIZE.CONTEXTS ≤ id then .next (s.ciphFail 4 w 0x0A03)
        else if c.newest < max (s.ledger id 0).gen (s.ledger id 1).gen then .next (s.ciphFail 4 w 0x0A0E)
        else if id ∈ s.ciph.valid then .next (s.ciphFail 4 w 0x0A10)
        else if c.tenant ≠ w.tenant then .next (s.ciphFail 4 w 0x0A04)
        else if !s.quotaOk c.tenant then .next (s.ciphFail 4 w 0x0A1B)
        else
          let (c, s) := (s.readEvents w (ciphAccess 4 w)).restoreSlot id 0 { c with pinned := (w.body 1 1).testBit 2 }
          let (c, s) := s.restoreSlot id 1 c
          .next ((s.putCtx id c).finish w { block := 10 })

/-- INVALIDATE (R247): a context and its store entry are cleared. -/
def execInvalidate (w : Work) (s : State) : Host.Outcome State Fault Refusal :=
  match s.ciphCheck 5 w with
  | some r => .next (s.ciphFail 5 w r)
  | none =>
    match s.keyOpCtx w with
    | (.error r, s) => .next (s.ciphFail 5 w r)
    | (.ok _, s) => .next ((s.dropCtx (ciphCtx w)).finish w { block := 10 })

/-! ## Quotes and measurements (R266, R267) -/

/-- Measurement register `r`, 32 bytes. -/
def State.measurement (s : State) (r : Nat) : Bytes := (List.range 4).flatMap (fun k => le 8 (s.get CIPH_MEASURE.VALUE r k))

/-- Extend measurement register `r` by a digest (R266). -/
def State.extend (s : State) (r : Nat) (d : Bytes) : State :=
  let m := sha256 (s.measurement r ++ padTo 32 d)
  (List.range 4).foldl (fun s k => s.set CIPH_MEASURE.VALUE (fieldAt m (8 * k) 8) r k) s

/-- What a write of CIPH_EXTEND_CMD with GO = 1 does (R266): it extends register 12 to 15 by CIPH_EXTEND_DATA0-3. -/
def State.extendCmd (s : State) (r : Nat) : Except Nat State :=
  if 12 ≤ r ∧ r ≤ 15 then
    .ok (s.extend r ((List.range 4).flatMap (fun k => le 8 (s.rdReg CIPH_EXTEND_DATA k).toNat)))
  else .error 0x0A19

/-- The first 768 bytes of a quote (Table CIPH-13). -/
def State.quoteBody (s : State) (nonce : Bytes) (seq : Nat) : Bytes :=
  let st := s.get CIPH_SECURITY.RESTRICTED + 2 * s.get CIPH_SECURITY.CLEAR_EXPORT_EN + 4 * s.get CIPH_SECURITY.DEBUG_OPEN +
    8 * b2n (s.get CIPH_SECURITY.OWNER_BANK != 7) + s.get TOP_STATE.RESTRICT_REASON * 2 ^ 16
  le 1 1 ++ le 1 1 ++ le 2 0x0300 ++ zeros 4 ++ padTo 32 nonce ++
  le 8 (s.get TOP_SERIAL.SERIAL 0) ++ le 8 (s.get TOP_SERIAL.SERIAL 1) ++ sha256 Config.identityPk ++
  le 4 (s.get TOP_REV.HW_REV) ++ le 4 (s.get TOP_FW.MGMT_FW_VERSION) ++ le 4 (s.get TOP_FW.SEC_FW_VERSION) ++
  le 4 (s.get TOP_REV.MANIFEST_VERSION) ++ le 4 st ++ le 4 (s.get CIPH_SECURITY.BOOT_COUNT) ++ le 8 s.now ++ le 8 seq ++
  padTo 32 s.ciph.ownerHash ++ (List.range 16).flatMap s.measurement ++ sha256 s.ciph.sessionPk ++ zeros 64

/-- QUOTE (R267): an attestation quote over the verifier's nonce, signed under the identity key. -/
def runQuote (w : Work) (s : State) : Host.Outcome State Fault Refusal :=
  match s.ciphCheck 6 w with
  | some r => .next (s.ciphFail 6 w r)
  | none =>
    if s.readsPoison (ciphAccess 6 w) then .next (s.ciphFail 6 w 0x0A1D)
    else
      let n := s.ciph.quoteSeq + 1
      let s := { (s.readEvents w (ciphAccess 6 w)) with ciph := { s.ciph with quoteSeq := n } }
      let b := s.quoteBody (s.readBytes (ciphHdr w) 32) n
      .next ((s.engineWrite 10 (s.classOf w) (ciphOut w) (b ++ padTo 29792 (Config.sign Config.identitySk b))).finish w { block := 10 })

/-! ## Ledger writes (R242, R455) -/

/-- The seals that wait on a context's slot run again. -/
def State.releaseSeals (s : State) (id : Nat) : State :=
  let mine := s.ciph.waiting.filter (fun w => ciphCtx w == id)
  let s := { s with ciph := { s.ciph with waiting := s.ciph.waiting.filter (fun w => ciphCtx w != id) } }
  mine.foldl (fun s w => s.sealRun w none false) s

/-- LEDGER_WRITE_DURABLE (R242): the write in progress of a slot is durable, the new H applies and the seals that wait go
on. -/
def execLedgerWriteDurable (ctx : Fin 65536) (slot : Fin 2) (s : State) : Host.Outcome State Fault Refusal :=
  let l := s.ledger ctx slot
  match l.writing with
  | none => .next s
  | some h => .next ((s.putLedger { l with h := h, writing := none, failed := false }).releaseSeals ctx)

/-- LEDGER_RETRY (R242, R455): a slot's ledger write fails; its seals are held and the write is tried again each second.
`noSpare` says that the store found no spare block. -/
def execLedgerRetry (ctx : Fin 65536) (slot : Fin 2) (noSpare : Bool) (s : State) : Host.Outcome State Fault Refusal :=
  let l := s.ledger ctx slot
  match l.writing with
  | none => .next s
  | some _ =>
    let s := s.putLedger { l with failed := true }
    let s := (s.ciphLog 0x0A0A ctx 0 0).raise CIPH_INT_STATUS.LEDGER
    let s := s.health { reason := 0x0A0A, kind := 2, level := 4, block := 10 }
    if noSpare then .next ((s.raise HLTH_INT_STATUS.STORE).handOver 0x1034) else .next s

end Sys2Proof.Machine
end

