-- ==== Sys2Proof/Machine/Mykabel.lean ====
section
/-!
DEFINITION. Machine/Mykabel.lean: the host link as the module takes part in it, the two cores, and the interrupt controller's
decisions (spec/15_host_link_and_control.md, R390 to R414).
-/
namespace Sys2Proof.Machine
open Csr

/-! ## The link (R391, R396) -/

/-- The width of a trained link from its locked lanes (R391): 4, lanes 0 and 1, lane 0, or none. -/
def mykWidth (lanes : Nat) : Nat := if lanes % 16 = 15 then 4 else if lanes % 4 = 3 then 2 else lanes % 2

/-- The link trains with the lanes that locked; a narrower width and a retrain are reported (R391, Table HOST-3). -/
def State.linkTrained (s : State) (lanes : Nat) : State :=
  let w := mykWidth lanes
  let s := (s.set TOP_MYK_STATUS.WIDTH w).set TOP_MYK_STATUS.LANES_LOCKED lanes
  if w = 0 then s
  else
    let re := s.get TOP_MYK_STATUS.STATE == 2
    let s := { s with myk := { s.myk with replays := 0 } }.set TOP_MYK_STATUS.STATE 1
    let s := if w < 4 then (s.report 0x0010).raise TOP_INT_STATUS.LINK else s
    if re then ((s.addSat TOP_MYK_COUNT.RETRAINS 1).report 0x0011).raise TOP_INT_STATUS.LINK else s

/-- MYK_LINK_TRAINED (R391): training ends, in the link's training and retraining states. -/
def execMykLinkTrained (lanes : BitVec 4) (s : State) : Host.Outcome State Fault Refusal :=
  if s.get TOP_MYK_STATUS.STATE = 0 ∨ s.get TOP_MYK_STATUS.STATE = 2 then .next (s.linkTrained lanes.toNat) else .next s

/-- The link retrains; what it carries is held (R391). -/
def State.linkRetrain (s : State) : State :=
  if s.get TOP_MYK_STATUS.STATE = 1 then
    { s with myk := { s.myk with replays := 0 } }.set TOP_MYK_STATUS.STATE 2
  else s

/-- MYK_REPLAY (R391): a codeword was uncorrectable and is replayed; `first` when a good codeword came since the last replay. The
sixteenth replay in a row retrains the link. -/
def execMykReplay (first : Bool) (s : State) : Host.Outcome State Fault Refusal :=
  let n := (if first then 0 else s.myk.replays) + 1
  let s := { s with myk := { s.myk with replays := n } }.addSat TOP_MYK_COUNT.REPLAYS 1
  if n ≥ 16 then .next s.linkRetrain else .next s

/-- MYKABEL_LOSS_OF_LOCK (R391): a lane loses lock, or the far end asks for a retrain. -/
def execMykabelLossOfLock (s : State) : Host.Outcome State Fault Refusal := .next s.linkRetrain

/-- Queues whose ENABLE is 1. -/
def State.queuesOn (s : State) : List Nat :=
  s.csr.filterMap (fun e =>
    let d := e.1 - Q_CFG.base
    if Q_CFG.base ≤ e.1 ∧ d < 8192 * 0x40 ∧ d % 0x40 = 0 ∧ e.2.getLsbD 0 then some (d / 0x40) else none)

/-- Whether a queue's submission or completion ring lies in host memory. -/
def State.hostRings (s : State) (q : Nat) : Bool :=
  isHost (s.get Q_SQ.ADDR q * 128) || isHost (s.get Q_CQ.ADDR q * 64)

/-- HOST_LOST (R396): the link has been out of training for LINK_DOWN_MS. Queues with a ring in host memory stop. -/
def execHostLost (s : State) : Host.Outcome State Fault Refusal :=
  if s.get TOP_MYK_STATUS.STATE = 0 ∨ s.get TOP_MYK_STATUS.STATE = 2 then
    let s := ((s.set TOP_MYK_STATUS.STATE 3).report 0x0013).raise TOP_INT_STATUS.LINK
    .next ((s.queuesOn.filter s.hostRings).foldl (fun s q =>
      (s.set Q_STATUS.STOPPED 1 q).set Q_STATUS.REASON 0x0207 q) s)
  else .next s

/-- HOST_LINK_RESTORED (R396): the link trains again after the host was lost: every enabled job's step-record mirror is
rewritten once and an INTR goes out for what is pending. -/
def execHostLinkRestored (lanes : BitVec 4) (s : State) : Host.Outcome State Fault Refusal :=
  if s.hostLost ∧ mykWidth lanes.toNat ≠ 0 then
    let s := (((s.set TOP_MYK_STATUS.STATE 2).linkTrained lanes.toNat).report 0x0016).raise TOP_INT_STATUS.LINK
    .next (s.jobsOn.foldl (fun s j => s.saveRec j (s.stepRec j)) s)
  else .next s

/-! ## The interrupt controller's registers (R403 to R411) -/

/-- A read of INTC_CLAIMt (R405): the word returned, and the source active at the priority it had. -/
def State.intcClaim (s : State) (t : Nat) : Nat × State :=
  match s.bestSource t with
  | none => (0, s)
  | some src =>
    let p := s.get INTC_SRC.PRIORITY src
    let c := { s.intc with pending := s.intc.pending.filter (· ≠ src), active := s.intc.active ++ [(⟨src, t, p⟩ : ActiveSrc)] }
    (src + p * 2048 + 32768, { s with intc := c }.intcUpdate)

/-- A write of INTC_COMPLETEt (R406): the source is idle again, or pending while its level condition holds. -/
def State.intcComplete (s : State) (t src : Nat) : Except Nat State :=
  match s.intc.active.find? (fun a => a.src == src && a.target == t) with
  | none => .error 0x0101
  | some a => .ok { s with intc := { s.intc with active := s.intc.active.erase a } }.intcUpdate

/-- A write of INTC_RAISE: one event at a software source (Table HOST-9). -/
def State.intcRaise (s : State) (src : Nat) : Except Nat State :=
  if 1280 ≤ src ∧ src < 2048 then .ok (s.event src) else .error 0x0102

/-- Whether a source number is reserved (Table HOST-5). -/
def reservedSource (src : Nat) : Bool := decide (1177 ≤ src ∧ src ≤ 1279)

/-- INTR_RESEND (R409): a host source has stayed deliverable and unclaimed for 50 µs. -/
def execIntrResend (s : State) : Host.Outcome State Fault Refusal :=
  if s.hostPriority = 0 ∨ s.hostLost then .next s else .next (s.sendIntr.addSat INTC_STATS.RESEND 1)

/-- PENDING of 64 sources (Table HOST-9). -/
def State.pendingWord (s : State) (w : Nat) : Nat := maskOf ((List.range 64).filter (fun i => s.isPending (64 * w + i)))

/-- Who writes a mailbox (Table HOST-7). -/
def mboxSender (m : Nat) : Master := if m = 0 then .mgmt else if m = 1 then .sec else .host

/-! ## The cores (R412, R413) -/

/-- Whether a core's decisions wait: it restarts, or is held stopped. -/
def State.coreWaits (s : State) (sec : Bool) : Bool := decide (2 ≤ s.get (if sec then TOP_CORE.SEC_STATE else TOP_CORE.MGMT_STATE))

/-- A decision that the security core owns waits while that core restarts (R413). -/
def State.secDecides (s : State) (i : Instr) (f : State → Host.Outcome State Fault Refusal) : Host.Outcome State Fault Refusal :=
  if s.coreWaits true then .next { s with ctl := { s.ctl with waitSec := s.ctl.waitSec ++ [i] } } else f s

/-- A decision that the management core owns waits while that core restarts (R413). -/
def State.mgmtDecides (s : State) (i : Instr) (f : State → Host.Outcome State Fault Refusal) : Host.Outcome State Fault Refusal :=
  if s.coreWaits false then .next { s with ctl := { s.ctl with waitMgmt := s.ctl.waitMgmt ++ [i] } } else f s

/-- Ticks of the time clock in an hour. -/
def hourTicks : Nat := 5625000000000

end Sys2Proof.Machine
end

