-- ==== Sys2Proof/Machine/Memory.lean ====
section
/-!
DEFINITION. Machine/Memory.lean: scrubbing, memory errors and device temperatures (spec/12_memory_and_skeins.md, R318 to
R329).
-/
namespace Sys2Proof.Machine
open Csr

/-- The device of a channel. -/
def deviceOf (c : Nat) : Nat := c / 8

/-- 24 hours in ns. -/
def dayNs : Nat := 86400000000000

/-- Count a corrected error of a row over 24 h (R320, R328): the state, and the count reached. -/
def State.countRow (s : State) (row : Nat) : State × Nat :=
  let (c, t) := lookupD s.memst.rowErrors row (0, s.mono)
  let (c, t) := if s.mono - t ≥ dayNs then (1, s.mono) else (c + 1, t)
  ({ s with memst := { s.memst with rowErrors := assocPut s.memst.rowErrors row (c, t) } }, c)

/-- Log a memory error: MEM_ERR_LOG and MEM_ERR_ADDR. -/
def State.memError (s : State) (reason addr channel : Nat) : State :=
  (((s.set MEM_ERR_LOG.REASON reason).set MEM_ERR_LOG.CHANNEL channel).set MEM_ERR_ADDR.ADDR addr).report reason

/-- The skeins that overlap an address range, as (pool, index). -/
def State.skeinsOn (s : State) (lo len : Nat) : List (Nat × Nat) :=
  ((List.range 5).filter s.poolOn).flatMap (fun p =>
    let b := s.get POOL_BASE.ADDR p * 64
    let slot := poolSlot p
    let first := (lo - b) / slot
    let n := if lo + len ≤ b then 0 else min (s.get POOL_CFG.COUNT p) ((lo + len - b + slot - 1) / slot) - first
    (List.range n).map (fun k => (p, first + k)))

/-- Mark a skein quarantined (R320): held out of its pool when it is next freed, or at once when it is free. -/
def State.quarantineSkein (s : State) (p i : Nat) : State :=
  let r := s.skeinRec p i
  s.putSkeinRec p i { r with quarantined := true }

/-- Record an SRAM row as pending repair, once (R320). -/
def State.sramRowPending (s : State) (f : EccFinding) : State :=
  if f.row ∈ s.memst.sramPending then s
  else
    let s := { s with memst := { s.memst with sramPending := s.memst.sramPending ++ [f.row] } }
    let s := ((s.addWrap MEM_REPAIR.SRAM_PENDING 1).report 0x0507).raise MEM_INT_STATUS.REPAIR
    (s.skeinsOn f.rowLo f.rowLen).foldl (fun s x => s.quarantineSkein x.1 x.2) s

/-- An error in one SRAM word (R318, R320, Table MEM-3). -/
def State.sramError (s : State) (f : EccFinding) : State :=
  if f.uncorrectable then
    let s := (s.poisonBytes (f.addr / 8 * 8) 8).addSat MEM_ECC_COUNT.SRAM_UE 1
    let s := ((s.memError 0x0504 f.addr 0).raise MEM_INT_STATUS.UNCORRECTABLE).sramRowPending f
    if s.regionsOf f.addr 1 == some [0] then
      { s with memst := { s.memst with stoppedTables := addOnce s.memst.stoppedTables f.addr } }.handOver 0x0504
    else s
  else
    let s := (s.addSat MEM_ECC_COUNT.SRAM_CE 1).memError 0x0503 f.addr 0
    let s := s.pmonEdge 0x0065 1 { cls := 1, addr := some (f.addr, 8), hasTenant := false }
    let (s, n) := s.countRow f.row
    if n ≥ s.get MEM_SCRUB.CE_LIMIT then s.sramRowPending f else s

/-- Record an LPDDR5X row as pending repair, once; a bank with no spare row reports 0x0509 (R328). -/
def State.lpddrRowPending (s : State) (f : EccFinding) : State :=
  if f.row ∈ s.memst.lpddrPending then s
  else
    let d := deviceOf (channelOf f.addr)
    let s := { s with memst := { s.memst with lpddrPending := s.memst.lpddrPending ++ [f.row] } }
    let s := ((s.addWrap MEM_REPAIR.LPDDR_PENDING 1).addWrap MEM_DEV.PENDING 1 d).report 0x0507
    let s := if f.noSpare then s.report 0x0509 else s
    s.raise MEM_INT_STATUS.REPAIR

/-- An error in one LPDDR5X ECC word of 32 bytes (R321, R327, R328). A word already poisoned is left as it is. -/
def State.lpddrError (s : State) (f : EccFinding) : State :=
  let a := f.addr / 32 * 32
  let c := channelOf f.addr
  let d := deviceOf c
  if s.isPoisoned a 32 then s
  else if f.uncorrectable then
    let s := ((s.poisonBytes a 32).addSat MEM_ECC_COUNT.LPDDR_UE 1).addSat MEM_DEV.UE 1 d
    ((s.memError 0x0506 f.addr c).raise MEM_INT_STATUS.UNCORRECTABLE).lpddrRowPending f
  else
    let s := ((s.addSat MEM_ECC_COUNT.LPDDR_CE 1).addSat MEM_DEV.CE 1 d).memError 0x0505 f.addr c
    let s := s.pmonEdge 0x0065 1 { cls := 1, addr := some (a, 32), hasTenant := false }
    let (s, n) := s.countRow f.row
    if n ≥ s.get MEM_SCRUB.CE_LIMIT then s.lpddrRowPending f else s

/-- SRAM_SCRUB (R319): one pass of the SRAM scrub, with the words it found in error. Words without an error are read and
left; nothing is read while SRAM_SCRUB_EN is 0. -/
def execSramScrub (found : List EccFinding) (s : State) : Host.Outcome State Fault Refusal :=
  if s.on MEM_CTRL.SRAM_SCRUB_EN then .next (found.foldl (fun s f => s.sramError f) s) else .next s

/-- LPDDR_SCRUB (R326): one pass of the LPDDR5X scrub, with the words it found in error. -/
def execLpddrScrub (found : List EccFinding) (s : State) : Host.Outcome State Fault Refusal :=
  if s.on MEM_CTRL.LPDDR_SCRUB_EN then .next (found.foldl (fun s f => s.lpddrError f) s) else .next s

/-- Whether any device shows a flag. -/
def State.anyDevice (s : State) (f : Field) : Bool := (List.range 16).any (fun d => s.on f d)

/-- DEVICE_TEMP_CHANGE (R325): a device reports its temperature, signed, 0.125 °C per count. Above 85 °C refresh is
doubled until 80 °C; above 100 °C job traffic is halved until 95 °C. -/
def execDeviceTempChange (d : Fin 16) (temp : BitVec 16) (s : State) : Host.Outcome State Fault Refusal :=
  let t := temp.toInt
  let was2x := s.on MEM_DEV.REFRESH_2X d
  let wasTh := s.on MEM_DEV.THROTTLE d
  let now2x := if t > 85 * 8 then true else if t ≤ 80 * 8 then false else was2x
  let nowTh := if t > 100 * 8 then true else if t ≤ 95 * 8 then false else wasTh
  let s := ((s.set MEM_DEV.TEMP temp.toNat d).set MEM_DEV.REFRESH_2X (b2n now2x) d).set MEM_DEV.THROTTLE (b2n nowTh) d
  let s := (s.set MEM_STATUS.REFRESH_2X (b2n (s.anyDevice MEM_DEV.REFRESH_2X))).set MEM_STATUS.THROTTLE
    (b2n (s.anyDevice MEM_DEV.THROTTLE))
  let s := if now2x && !was2x then ((s.set MEM_ERR_LOG.REASON 0x050A).report 0x050A).raise MEM_INT_STATUS.THERMAL else s
  let s := if nowTh && !wasTh then ((s.set MEM_ERR_LOG.REASON 0x050B).report 0x050B).raise MEM_INT_STATUS.THERMAL else s
  .next s

end Sys2Proof.Machine
end

