-- ==== Sys2Proof/Machine/FabricRx.lean ====
section
/-!
DEFINITION. Machine/FabricRx.lean: packets that the fabric delivers (spec/10_fabric.md R272 to R276, R281 to R288, R292, R295,
R496; spec/14_time.md R383).
-/
namespace Sys2Proof.Machine
open Csr

/-! ## A packet received (Table FAB-1) -/

/-- The flow that a packet names. -/
def packetKey (b : Bytes) : FlowKey :=
  ⟨fieldAt b 7 3, fieldAt b 4 3, getBits (fieldAt b 0 1) 4 3, getBits (fieldAt b 1 1) 2 2⟩

/-- OPCODE. -/
def pktOp (b : Bytes) : Nat := fieldAt b 2 1
/-- TENANT_ID. -/
def pktTenant (b : Bytes) : Nat := fieldAt b 3 1
/-- LEN. -/
def pktLen (b : Bytes) : Nat := getBits (fieldAt b 10 2) 0 13
/-- REMOTE_ADDR. -/
def pktRemote (b : Bytes) : Nat := fieldAt b 16 8
/-- SEQ. -/
def pktSeq (b : Bytes) : Nat := fieldAt b 24 4
/-- The payload. -/
def pktPayload (b : Bytes) : Bytes := slice b 32 (pktLen b)

/-- Whether a header is whole: its CRC, VERSION, CLASS and LEN (R272). -/
def headerValid (b : Bytes) : Bool :=
  decide (32 ≤ b.length) && crc32c (b.take 28) == fieldAt b 28 4 && fieldAt b 0 1 % 16 == 1 && decide ((packetKey b).cls ≤ 4) &&
  decide (pktLen b ≤ 4096)

/-- Whether a payload is whole (R272). -/
def payloadValid (b : Bytes) : Bool :=
  pktLen b == 0 || (decide (b.length ≥ 36 + pktLen b) && crc32c (pktPayload b) == fieldAt b (32 + pktLen b) 4)

/-- The class and opcode pairs of Table FAB-2. -/
def pairOk (cls op : Nat) : Bool :=
  match op with
  | 1 => cls == 0 || cls == 1 || cls == 3
  | 2 => cls == 0 || cls == 1
  | 3 | 4 | 5 => cls == 2
  | 6 => cls == 4
  | _ => false

/-- Whether a class has a reply, so that a refusal is answered (R275; log entry 36). -/
def hasReply (cls : Nat) : Bool := cls == 0 || cls == 1 || cls == 3

/-- Refuse a packet (R273, R275, R276): count, log, interrupt, violation log, and a NACK where its class has a reply. -/
def State.fabRefuse (s : State) (reason link : Nat) (b : Bytes) : State :=
  let k := packetKey b
  let s := (s.addSat FAB_DROP_COUNT.REFUSED 1).fabLog reason k.src link k.cls (pktTenant b)
  let s := (s.set FAB_ERR_ADDR.ADDR (pktRemote b)).raise FAB_INT_STATUS.VIOLATION
  let s := s.violation { reason := reason, origin := 2, cls := fabClass, tenant := pktTenant b, block := 6, addr := pktRemote b,
                         detail := k.src }
  if hasReply k.cls then s.fabNack k (pktTenant b) (pktSeq b) reason else s

/-! ## Ingest windows (Table FAB-3, R276) -/

/-- An ingest window (Table FAB-3). -/
structure IngestWindow where
  base : Nat
  len : Nat
  tenant : Nat
  flags : Nat
  job : Nat

/-- Read an ingest window. -/
def IngestWindow.ofBytes (b : Bytes) : IngestWindow :=
  ⟨fieldAt b 0 8, fieldAt b 8 8, fieldAt b 16 1, fieldAt b 17 1, fieldAt b 18 2⟩

/-- Address of window `i`. -/
def State.windowAddr (s : State) (i : Nat) : Nat := s.get FAB_INGEST_BASE.ADDR * 64 + 32 * i

/-- Window `i`. -/
def State.window (s : State) (i : Nat) : IngestWindow := IngestWindow.ofBytes (s.readBytes (s.windowAddr i) 32)

/-- Whether the step of a job is in OPEN or INGEST (R276). -/
def State.ingestOpen (s : State) (job : Nat) : Bool :=
  match s.entryOf job with
  | none => false
  | some j => (s.stepRec j).state == 1 || (s.stepRec j).state == 2

/-- Whether a window admits an access: VALID, its WRITE or READ, tenant and bounds (R276). -/
def State.admits (s : State) (x : IngestWindow) (write : Bool) (tenant a n : Nat) : Bool :=
  x.flags.testBit 0 && x.flags.testBit (if write then 1 else 2) && x.tenant == tenant &&
  decide (x.base ≤ a ∧ a + n ≤ x.base + x.len) && (!x.flags.testBit 3 || s.ingestOpen x.job)

/-- The window that admits an access (R276). -/
def State.windowFor (s : State) (write : Bool) (tenant a n : Nat) : Option IngestWindow :=
  ((List.range 256).map s.window).find? (fun x => s.admits x write tenant a n)

/-! ## Packets in SEQ order (R276, R284, R285, R288, R292) -/

/-- The doorbell word at an address, as its queue and whether it is CQ_DOOR (text before R353). -/
def State.doorbellWord (s : State) (a : Nat) : Option (Nat × Bool) :=
  let base := s.get HOSTQ_DB_BASE.ADDR * 64
  if base ≠ 0 ∧ base ≤ a ∧ a < base + 16 * 8192 ∧ a % 8 = 0 then some ((a - base) / 16, (a - base) % 16 == 8) else none

/-- Write a payload into memory under the fabric engines' class, with its poison (R292). -/
def State.fabStore (s : State) (link : Nat) (b : Bytes) : State :=
  let a := pktRemote b
  let n := pktLen b
  let s := s.engineWrite 6 fabClass a (pktPayload b)
  if (fieldAt b 1 1).testBit 6 then
    let s := s.poisonBytes a n
    let s := (s.skeinsOn a n).foldl (fun (s : State) x => s.putSkeinRec x.1 x.2 { s.skeinRec x.1 x.2 with poisoned := true }) s
    s.fabLog 0x0618 (packetKey b).src link (packetKey b).cls (pktTenant b)
  else s

/-- A WRITE whose turn has come: a doorbell word, or memory within a window that admits it; of a mirrored job, its bytes go to
the spare (R462). -/
def State.fabWriteTurn (s : State) (link : Nat) (b : Bytes) : State :=
  let a := pktRemote b
  let n := pktLen b
  match s.windowFor true (pktTenant b) a n with
  | none => s.fabRefuse 0x0605 link b
  | some x =>
    match (if n = 8 then s.doorbellWord a else none) with
    | some (q, cq) =>
      let bell : Bell := ⟨q, a, leVal (pktPayload b), some (pktTenant b)⟩
      if cq then s.cqDoorBell bell else s.sqTailBell bell
    | none =>
      match s.memCheck fabClass true a n with
      | some r => (s.memRefuse r fabClass 6 true a 0).fabRefuse 0x0605 link b
      | none =>
        let s := s.fabStore link b
        if x.flags.testBit 3 then
          match s.entryOf x.job with
          | none => s
          | some j => s.mirrorOther x.job (s.stepRec j).step (pktPayload b)
        else s

/-- A READ_REQ whose turn has come: its READ_RESP joins the reply flow after every earlier write of the flow is visible
(R285). Poisoned bytes are not sent (R23; log entry 36). -/
def State.fabReadTurn (s : State) (link : Nat) (b : Bytes) : State :=
  let k := packetKey b
  let a := pktRemote b
  let ret := fieldAt (pktPayload b) 0 8
  let n := fieldAt (pktPayload b) 8 4
  if n = 0 ∨ 4096 < n ∨ (s.windowFor false (pktTenant b) a n).isNone then s.fabRefuse 0x0605 link b
  else
    match s.memCheck fabClass false a n with
    | some r => (s.memRefuse r fabClass 6 false a 0).fabRefuse 0x0605 link b
    | none =>
      if s.isPoisoned a n then s
      else
        (s.memEvent false a n fabClass 6).fabQueue ⟨k.dst, k.src, 2, k.ch⟩
          [{ opcode := 3, tenant := pktTenant b, remote := ret, payload := s.readBytes a n, last := true, circuit := none, msg := none }]

/-- A READ_RESP whose turn has come: its data goes into the reply space that a READ_REQ reserved (R283, R287). -/
def State.fabRespTurn (s : State) (link : Nat) (b : Bytes) : State :=
  let a := pktRemote b
  match s.fab.reads.find? (fun r => decide (r.1 ≤ a ∧ a + pktLen b ≤ r.1 + r.2)) with
  | none => s.fabRefuse 0x0605 link b
  | some r => { s with fab := { s.fab with reads := s.fab.reads.erase r } }.fabStore link b

/-- A MGMT packet whose turn has come enters the management ring, an event message with its timestamp (R287, R383). -/
def State.fabMgmtTurn (s : State) (link : Nat) (b : Bytes) : State :=
  let p := pktPayload b
  let (x, s) :=
    if (eventType p).isSome && !(s.time.unitsOut.contains link) then
      (p ++ timestamp1588 (s.now - s.get TIME_LAT.RX_LAT link), s.stampUsed link)
    else (p, s)
  { s with fab := { s.fab with mgmt := s.fab.mgmt ++ [x] } }

/-- Whether a collective packet travels on a VALID inbound circuit of its tenant (R288). -/
def State.onCircuit (s : State) (b : Bytes) : Bool :=
  let c := s.circAt (getBits (fieldAt b 12 2) 0 12)
  (fieldAt b 1 1).testBit 4 && c.valid && c.inbound && c.tenant == pktTenant b

/-- A sequenced packet becomes the next expected of its flow (R284): it acts, or its refusal is applied now. -/
def State.fabTurn (s : State) (link : Nat) (b : Bytes) : State :=
  let cls := (packetKey b).cls
  if !pairOk cls (pktOp b) || (cls == 3 && !s.onCircuit b) then s.fabRefuse 0x0607 link b
  else if pktOp b = 1 then s.fabWriteTurn link b
  else if pktOp b = 2 then s.fabReadTurn link b
  else if pktOp b = 3 then s.fabRespTurn link b
  else s.fabMgmtTurn link b

/-- The packets held that follow the expected SEQ take their turns, up to `n` of them. -/
def State.fabDrain (s : State) (k : FlowKey) : (n : Nat) → State
  | 0 => s
  | n + 1 =>
    match s.fab.rx.find? (fun x => x.1 == k) with
    | none => s
    | some (_, f) =>
      match f.held.find? (fun h => h.seq == f.expected) with
      | none => s
      | some h =>
        let s := { s with fab := { s.fab with
          rx := assocPut s.fab.rx k ⟨(f.expected + 1) % 2 ^ 32, f.held.erase h⟩ } }
        (s.fabTurn h.link h.bytes).fabDrain k n

/-- A sequenced packet of a flow with state (R284, R285): it takes its turn, waits, or is a duplicate. -/
def State.fabOrder (s : State) (k : FlowKey) (f : FabRx) (link : Nat) (b : Bytes) (full : Bool) : State :=
  let d := (pktSeq b + 2 ^ 32 - f.expected) % 2 ^ 32
  if d ≥ 2 ^ 31 then
    ((s.addSat FAB_DROP_COUNT.OTHER 1).set FAB_ERR_LOG.REASON 0x0608).fabAck k (pktTenant b) f.expected
  else if d = 0 then
    if full ∧ k.cls = 4 ∧ pktOp b = 6 then s.addSat FAB_DROP_COUNT.OTHER 1
    else
      let held := f.held ++ [⟨pktSeq b, link, b⟩]
      let s := { s with fab := { s.fab with rx := assocPut s.fab.rx k { f with held := held } } }
      let s := s.fabDrain k held.length
      s.fabAck k (pktTenant b) (match s.fab.rx.find? (fun x => x.1 == k) with
        | none => 0
        | some x => x.2.expected)
  else if f.held.any (fun h => h.seq == pktSeq b) then s
  else if f.held.foldl (fun a h => a + h.bytes.length) b.length > s.get FAB_LINK_CFG.REORDER_KIB * 1024 then
    (s.fabLog 0x0619 k.src link k.cls (pktTenant b)).fabNack k (pktTenant b) (pktSeq b) 0x0619
  else { s with fab := { s.fab with rx := assocPut s.fab.rx k { f with held := f.held ++ [⟨pktSeq b, link, b⟩] } } }

/-- A sequenced packet (R286, R496): SYNC sets the expected SEQ; without it, a flow with no state asks for one. -/
def State.fabSequenced (s : State) (link : Nat) (b : Bytes) (full : Bool) : State :=
  let k := packetKey b
  if (fieldAt b 1 1).testBit 7 then s.fabOrder k ⟨pktSeq b, []⟩ link b full
  else
    match s.fab.rx.find? (fun x => x.1 == k) with
    | some (_, f) => s.fabOrder k f link b full
    | none => (s.fabLog 0x061A k.src link k.cls (pktTenant b)).fabNack k (pktTenant b) (pktSeq b) 0x061A

/-! ## ACK and NACK at the sender (R284, R496) -/

/-- The transmit flow that an ACK or NACK speaks of. -/
def replyTarget (b : Bytes) (cls ch : Nat) : FlowKey := ⟨(packetKey b).dst, (packetKey b).src, cls, ch⟩

/-- One packet of a communication descriptor is acknowledged: with the last, the descriptor completes (R359). -/
def State.msgAcked (s : State) (m : Option Nat) : State :=
  match m with
  | none => s
  | some id =>
    match s.fab.msgs.find? (fun x => x.id == id) with
    | none => s
    | some x =>
      if x.left ≤ 1 then { s with fab := { s.fab with msgs := s.fab.msgs.erase x } }.finish x.work { block := 2 }
      else { s with fab := { s.fab with msgs := s.fab.msgs.map (fun y => if y = x then { x with left := x.left - 1 } else y) } }

/-- A communication descriptor ends with an error (R284, R278). -/
def State.msgFailed (s : State) (m : Option Nat) (reason : Nat) : State :=
  match m with
  | none => s
  | some id =>
    match s.fab.msgs.find? (fun x => x.id == id) with
    | none => s
    | some x => { s with fab := { s.fab with msgs := s.fab.msgs.erase x } }.finish x.work { reason := reason, error := true, block := 2 }

/-- The line flow that a line queue index names (R348). -/
def lineFlow (i : Nat) : Nat × Nat := if i < 2048 then (i / 16, i % 16) else (128, i - 2048)

/-- An acknowledged FLOW message: what ACKs on the line may now name (R463). -/
def State.flowAcknowledged (s : State) (p : FabPkt) : State :=
  if p.opcode = 6 ∧ fieldAt p.payload 0 1 = 8 then
    { s with grp := { s.grp with flowAcked := (List.range (fieldAt p.payload 24 4)).map (fun i =>
        (lineFlow (fieldAt p.payload (32 + 16 * i) 2), (fieldAt p.payload (36 + 16 * i) 4, fieldAt p.payload (44 + 16 * i) 4))) } }
  else s

/-- An ACK (R284): packets below ACK_SEQ leave their flow and its window. -/
def State.fabAcked (s : State) (b : Bytes) : State :=
  let p := pktPayload b
  let k := replyTarget b (fieldAt p 4 1) (fieldAt p 5 1)
  let f := s.fabTx k
  let below (x : FabPkt) : Bool := x.sent && decide (0 < (fieldAt p 0 4 + 2 ^ 32 - x.seq) % 2 ^ 32 ∧
    (fieldAt p 0 4 + 2 ^ 32 - x.seq) % 2 ^ 32 < 2 ^ 31)
  let gone := f.pkts.filter below
  if gone.isEmpty then s
  else
    let s := s.putFabTx k { f with pkts := f.pkts.filter (fun x => !below x) }
    (gone.foldl (fun s x => (s.flowAcknowledged x).msgAcked x.msg) s).drainUpdate

/-- Send packets of a flow again. -/
def State.fabAgain (s : State) (k : FlowKey) (sync : Bool) (p : FabPkt → Bool) : State :=
  let f := s.fabTx k
  s.putFabTx k { f with syncDue := f.syncDue || sync, pkts := f.pkts.map (fun x => if p x then { x with due := true } else x) }

/-- A NACK (R284, R496): 0x0619 sends the packet again; 0x061A sends the oldest with SYNC and the later ones after it; 0x0604,
0x0605 and 0x0607 end the packet and its descriptor. -/
def State.fabNacked (s : State) (b : Bytes) : State :=
  let p := pktPayload b
  let k := replyTarget b (fieldAt p 6 1) (packetKey b).ch
  let reason := fieldAt p 4 2
  let it (x : FabPkt) : Bool := x.sent && x.seq == fieldAt p 0 4
  if reason = 0x0619 then s.fabAgain k false it
  else if reason = 0x061A then s.fabAgain k true (·.sent)
  else if reason = 0x0604 ∨ reason = 0x0605 ∨ reason = 0x0607 then
    let f := s.fabTx k
    match f.pkts.find? it with
    | none => s
    | some x => ((s.putFabTx k { f with pkts := f.pkts.erase x }).msgFailed x.msg reason).drainUpdate
  else s

/-! ## Arrival (R272 to R275, R281, R282) -/

/-- The credits that a packet took go back in a CREDIT control field (R282, Table PHO-1). -/
def State.returnCredits (s : State) (link : Nat) (b : Bytes) : State :=
  let k := packetKey b
  s.emit (.linkField link 1 (vcOf k.cls k.ch + 16 * creditsOf b.length))

/-- A packet with a whole header and payload, from the fabric to its opcode. -/
def State.fabAdmit (s : State) (x : RxPacket) : State :=
  let b := x.bytes
  let k := packetKey b
  let l := x.link.val
  if !s.localEp k.dst then (s.addSat FAB_DROP_COUNT.REFUSED 1).fabLog 0x0603 k.src l k.cls (pktTenant b)
  else
    let known := match s.endpoint k.src with
      | none => false
      | some e => e.tenant == pktTenant b && e.mask.testBit k.cls
    if !known then s.fabRefuse 0x0604 l b
    else if (getBits (fieldAt b 1 1) 0 2 + 4 - s.get FAB_EPOCH.EPOCH) % 4 = 2 then
      (s.addSat FAB_DROP_COUNT.OTHER 1).set FAB_ERR_LOG.REASON 0x0606
    else if pktOp b = 4 ∨ pktOp b = 5 then
      if k.cls ≠ 2 then s.fabRefuse 0x0607 l b
      else if pktOp b = 4 then s.fabAcked b
      else s.fabNacked b
    else s.fabSequenced l b x.ringFull

/-- A packet arrives on a link (R272, R282, R295). What a peer sends beyond its credits is discarded; the link's retraining
ends with LINK_TRAINING_END. -/
def State.fabArrive (s : State) (x : RxPacket) : State :=
  let b := x.bytes
  let l := x.link.val
  if !s.fabReady then s
  else if x.overrun then (s.fabLog 0x0617 0 l 0 0).raise FAB_INT_STATUS.CREDIT
  else if !headerValid b then (s.addSat FAB_DROP_COUNT.HDR 1).set FAB_ERR_LOG.REASON 0x0601
  else
    let s := ((s.addWrap FAB_LINK_COUNT.PACKETS 1 l).pmonEdge 0x0026 b.length
      { cls := fabClass, addr := some (pktRemote b, pktLen b), hasTenant := false }).meter l 0 b.length
    let s := s.returnCredits l b
    if !payloadValid b then (s.addSat FAB_DROP_COUNT.PAYLOAD 1).set FAB_ERR_LOG.REASON 0x0602
    else s.fabAdmit x

/-- FAB_WRITE (R276): a WRITE packet arrives. -/
def execFabWrite (p : RxPacket) (s : State) : Host.Outcome State Fault Refusal := .next (s.fabArrive p)

/-- FAB_READ_REQ (R276, R285): a READ_REQ packet arrives. -/
def execFabReadReq (p : RxPacket) (s : State) : Host.Outcome State Fault Refusal := .next (s.fabArrive p)

/-- FAB_READ_RESP (R285): a READ_RESP packet arrives. -/
def execFabReadResp (p : RxPacket) (s : State) : Host.Outcome State Fault Refusal := .next (s.fabArrive p)

/-- FAB_ACK (R284): an ACK packet arrives. -/
def execFabAck (p : RxPacket) (s : State) : Host.Outcome State Fault Refusal := .next (s.fabArrive p)

/-- FAB_NACK (R284): a NACK packet arrives. -/
def execFabNack (p : RxPacket) (s : State) : Host.Outcome State Fault Refusal := .next (s.fabArrive p)

/-- FAB_MGMT (R287, R383): a MGMT packet arrives. -/
def execFabMgmt (p : RxPacket) (s : State) : Host.Outcome State Fault Refusal := .next (s.fabArrive p)

end Sys2Proof.Machine
end

