-- ==== Sys2Proof/Machine/FabricTx.lean ====
section
/-!
DEFINITION. Machine/FabricTx.lean: sending on the fabric, its tables, circuits and epochs, and the communication queues
(spec/10_fabric.md R277 to R284, R289, R295; spec/13_queues_and_scheduling.md R359).
-/
namespace Sys2Proof.Machine
open Csr

/-- Put a packet that firmware offers at the end of a flow (Table FAB-2). A READ_REQ first reserves its reply space (R283). -/
def State.fabOffer (s : State) (k : FlowKey) : FabOffer → State
  | .none => s
  | .mgmt t p => s.fabQueue k [{ opcode := 6, tenant := t.toNat, remote := 0, payload := p.take 4096, last := true, circuit := none
                                 msg := none }]
  | .readReq t a r n =>
    if n = 0 ∨ 4096 < n then s
    else
      let s := { s with fab := { s.fab with reads := s.fab.reads ++ [(r.toNat, n)] } }
      s.fabQueue k [{ opcode := 2, tenant := t.toNat, remote := a.toNat, payload := le 8 r.toNat ++ le 4 n ++ zeros 4, last := true
                      circuit := none, msg := none }]

/-- FAB_PACKET_SEND (R282 to R286): a flow sends its first packet that waits, once its link's virtual channel holds credits and
its window has room. A packet offered by firmware joins its flow first, if its class carries it. -/
def execFabPacketSend (f : FabFlow) (offer : FabOffer) (s : State) : Host.Outcome State Fault Refusal :=
  let ok := match offer with
    | .none => true
    | .mgmt _ _ => f.cls.val == 4
    | .readReq _ _ _ _ => f.cls.val == 0
  if s.fabReady then .next ((if ok then s.fabOffer f.key offer else s).flushReplies.fabSend f.key) else .next s

/-- FAB_RETX_TIMEOUT (R284): a packet has not been acknowledged E2E_TIMEOUT_US after it was sent: it is sent again. -/
def execFabRetxTimeout (f : FabFlow) (seq : BitVec 32) (s : State) : Host.Outcome State Fault Refusal :=
  .next ((s.fabAgain f.key false (fun x => x.sent && x.seq == seq.toNat)).fabSend f.key)

/-- FAB_NO_ROUTE_TIMEOUT (R278): a flow has had no route or no link for E2E_TIMEOUT_US: the descriptors of the packets it holds
complete with 0x060A, and those not yet sent are dropped. -/
def execFabNoRouteTimeout (f : FabFlow) (s : State) : Host.Outcome State Fault Refusal :=
  let k := f.key
  let t := s.fabTx k
  let s := { s with fab := { s.fab with replies := s.fab.replies.filter (fun x =>
    !(x.1 == k) || (s.linkFor k none { x.2 with epoch := s.get FAB_EPOCH.EPOCH }).isSome) } }
  match t.pkts.find? (·.due) with
  | none => .next s
  | some p =>
    if (s.linkFor k t.link (s.packetNow t p)).isSome then .next s
    else
      let held := t.pkts.filter (·.due)
      let s := s.putFabTx k { t with pkts := t.pkts.filter (fun x => x.sent || !x.due) }
      let s := (s.fabLog 0x060A k.dst 0 k.cls p.tenant).raise FAB_INT_STATUS.UNREACHABLE
      .next (held.foldl (fun s x => s.msgFailed x.msg 0x060A) s)

/-- CREDIT (R282, R299): a control field returns credits to a virtual channel of a link. A field out of range is discarded and
counted. -/
def execCredit (link : Fin 32) (vc : Fin 16) (n : Fin 4096) (s : State) : Host.Outcome State Fault Refusal :=
  if vc.val ≥ 10 ∨ n.val = 0 then .next (s.addSat PHO_COUNT.BAD_FIELD 1)
  else
    let v := (s.fibre link, vc.val)
    .next { s with fab := { s.fab with vcUsed := assocPut s.fab.vcUsed v (lookupD s.fab.vcUsed v 0 - n.val) } }.flushReplies

/-! ## Table descriptors (Table FAB-6, R279) -/

/-- What an operation of Table FAB-6 reads: entries of `size` bytes at ADDR_SRC; CIRCUIT_CLOSE reads none. -/
def fabAccess (w : Work) (size : Nat) : List (Bool × Nat × Nat) := [(false, w.body 16 8, size * w.body 8 4)]

/-- The reason a table descriptor is refused with, or none (R279, R295): `size` bytes an entry, indices below `limit`. -/
def State.fabTableCheck (s : State) (w : Work) (op size limit : Nat) : Option Nat :=
  let n := w.body 8 4
  if !s.fabReady then some 0x0624
  else if w.body 0 1 ≠ op ∨ n = 0 ∨ 65536 < n ∨ limit < w.body 4 4 + n then some 0x0615
  else if size ≠ 0 ∧ (w.body 16 8 % 64 ≠ 0 ∨ (s.badAccess (s.classOf w) (fabAccess w size)).isSome) then some 0x0616
  else none

/-- Refuse a table descriptor. -/
def State.fabDescRefuse (s : State) (w : Work) (reason : Nat) : State := (s.fabLog reason 0 0 0 w.tenant).finishError w reason

/-- Entry `i` of a table descriptor. -/
def State.fabEntry (s : State) (w : Work) (size i : Nat) : Bytes := s.readBytes (w.body 16 8 + size * i) size

/-- Run a table descriptor that passed its check: its entries are read, and poisoned ones are not used (R22). A reason that is
not 0 completes it with an error. -/
def State.fabTableRun (s : State) (w : Work) (op size limit : Nat) (act : State → State × Nat) : State :=
  match s.fabTableCheck w op size limit with
  | some r => (if r = 0x0616 then s.logAccess w (fabAccess w size) else s).fabDescRefuse w r
  | none =>
    if size ≠ 0 ∧ s.readsPoison (fabAccess w size) then
      s.fresh.2.finish w { reason := s.fresh.1 % 2 ^ 16, error := true, poisoned := true, block := 6 }
    else
      let s := if size = 0 then s else (s.readHost (w.body 16 8) (size * w.body 8 4)).readEvents w (fabAccess w size)
      let (s, r) := act s
      if r = 0 then s.finish w { block := 6 } else s.finishError w r

/-- The bytes of skeins that the quotas of a class can hold, over the enabled pools (R283; log entry 37). -/
def State.quotaBytes (s : State) (cls : Nat) : Nat :=
  ((List.range 5).filter s.poolOn).foldl (fun a p => a + s.get CLASS_QUOTA.MAX cls p * poolSize p) 0

/-- Window bytes reserved under a class for endpoints other than one. -/
def State.reservedBytes (s : State) (cls id : Nat) : Nat :=
  (s.fab.reserve.filter (fun x => x.2.1 == cls && x.1 != id)).foldl (fun a x => a + x.2.2) 0

/-- Write one endpoint entry (R277, R283): the state, and the reason it is refused with, or 0. -/
def State.eptWrite (s : State) (cls : Nat) (b : Bytes) : State × Nat :=
  let e := EptEntry.ofBytes b
  let old := s.eptSlot e.id
  let others := s.fab.reserve.filter (fun x => x.1 ≠ e.id)
  let free (s : State) : State := s.relink (fun k => k.dst == e.id)
  if !e.valid then
    match old with
    | none => (s, 0)
    | some a => (free { s.writeBytes a (zeros 16) with fab := { s.fab with reserve := others } }, 0)
  else
    let need := (bitsOf e.mask 5).length * e.window * 1024
    if e.window < 8 ∨ 65536 < e.window ∨ s.quotaBytes cls < s.reservedBytes cls e.id + need then
      (s.fabLog 0x0615 e.id 0 0 e.tenant, 0x0615)
    else
      match (match old with
        | some a => some a
        | none => (s.eptSlots e.id).find? (fun a => !(s.eptAt a).valid)) with
      | none => (s.fabLog 0x060B e.id 0 0 e.tenant, 0x060B)
      | some a => (free { s.writeBytes a b with fab := { s.fab with reserve := others ++ [(e.id, cls, need)] } }, 0)

/-- EPT_WRITE (R277, R279, R283). -/
def execEptWrite (w : Work) (s : State) : Host.Outcome State Fault Refusal :=
  .next (s.fabTableRun w 1 16 (2 ^ 32) (fun s => (List.range (w.body 8 4)).foldl (fun x i =>
    let (s, r) := x.1.eptWrite (x.1.classOf w) (x.1.fabEntry w 16 i)
    (s, if x.2 = 0 then r else x.2)) (s, 0)))

/-- RT_WRITE (R279, R280): route indices 0 to 4,095 lie in bank 0 and 4,096 to 8,191 in bank 1 (log entry 37). COMMIT marks the
standby bank complete. -/
def execRtWrite (w : Work) (s : State) : Host.Outcome State Fault Refusal :=
  .next (s.fabTableRun w 2 8 8192 (fun s =>
    let first := w.body 4 4
    let n := w.body 8 4
    let active := s.get FAB_EPOCH.EPOCH % 2
    if first < 4096 * (active + 1) ∧ 4096 * active < first + n then (s.fabLog 0x060C 0 0 0 w.tenant, 0x060C)
    else
      let base := s.get FAB_RT_BASE.ADDR * 64
      let s := (List.range n).foldl (fun s i => s.writeBytes (base + 8 * (first + i)) (s.fabEntry w 8 i)) s
      (if (w.body 1 1).testBit 0 then s.set FAB_EPOCH.STANDBY_READY 1 else s, 0)))

/-- Open one circuit (R289): the state, and the reason it is refused with, or 0. -/
def State.circuitOpen (s : State) (i : Nat) (b : Bytes) : State × Nat :=
  let e := CircEntry.ofBytes b
  let n := (bitsOf e.mask 32).length
  let rxOk := if e.inbound then decide (64 ≤ e.rxKib ∧ e.rxKib ≤ 1048576) else e.rxKib == 0
  if n = 0 ∨ e.bw = 0 ∨ 6400 < e.bw ∨ !rxOk then (s.fabLog 0x0615 e.peer 0 0 e.tenant, 0x0615)
  else
    let c : Circuit := ⟨i, e.bw, e.mask, e.peer⟩
    if (bitsOf e.mask 32).any (fun l => s.overReserved l (s.reservedOn l + c.share)) then
      ((s.fabLog 0x060F e.peer 0 0 e.tenant).raise FAB_INT_STATUS.CIRCUIT, 0x060F)
    else
      let s := s.writeBytes (s.circAddr i) (patch b 3 (le 1 (setBit e.flags 0 true)))
      let s := { s with fab := { s.fab with circuits := s.fab.circuits ++ [c] } }
      ((bitsOf e.mask 32).foldl (fun s l => s.reservedUpdate l) s, 0)

/-- Open the circuits of a descriptor. -/
def State.circuitOpenRun (s : State) (w : Work) : State :=
  s.fabTableRun w 3 16 4096 (fun s => (List.range (w.body 8 4)).foldl (fun x i =>
    let (s, r) := x.1.circuitOpen (w.body 4 4 + i) (x.1.fabEntry w 16 i)
    (s, if x.2 = 0 then r else x.2)) (s, 0))

/-- Whether a CIRCUIT_OPEN names a circuit that is VALID, so that it waits (R279). -/
def State.circuitBusy (s : State) (w : Work) : Bool :=
  (List.range (w.body 8 4)).any (fun i => (s.circAt (w.body 4 4 + i)).valid)

/-- CIRCUIT_OPEN (R279, R289). -/
def execCircuitOpen (w : Work) (s : State) : Host.Outcome State Fault Refusal :=
  if (s.fabTableCheck w 3 16 4096).isNone && s.circuitBusy w then
    .next { s with fab := { s.fab with waiting := s.fab.waiting ++ [w] } }
  else .next (s.circuitOpenRun w)

/-- CIRCUIT_OPEN descriptors whose circuits have closed run, in order. -/
def openWaiting (s : State) : List Work → State
  | [] => s
  | w :: r =>
    if s.circuitBusy w then openWaiting s r
    else openWaiting ({ s with fab := { s.fab with waiting := s.fab.waiting.erase w } }.circuitOpenRun w) r

/-- CIRCUIT_CLOSE (R289): the circuits of a range lose VALID and release their reservations. -/
def execCircuitClose (w : Work) (s : State) : Host.Outcome State Fault Refusal :=
  let s := s.fabTableRun w 4 0 4096 (fun s =>
    (s.closeCircuits (fun i => decide (w.body 4 4 ≤ i ∧ i < w.body 4 4 + w.body 8 4)), 0))
  .next (openWaiting s s.fab.waiting)

/-- Write one ingest window (R279): 4 KiB alignment of its base and its length. -/
def State.ingestWrite (s : State) (i : Nat) (b : Bytes) : State × Nat :=
  let x := IngestWindow.ofBytes b
  if x.flags.testBit 0 ∧ x.base % 4096 ≠ 0 then (s.fabLog 0x0616 0 0 0 x.tenant, 0x0616)
  else if x.flags.testBit 0 ∧ x.len % 4096 ≠ 0 then (s.fabLog 0x0615 0 0 0 x.tenant, 0x0615)
  else (s.writeBytes (s.windowAddr i) b, 0)

/-- INGEST_WRITE (R279). A packet is written in one command, so none is landing in a window when it changes. -/
def execIngestWrite (w : Work) (s : State) : Host.Outcome State Fault Refusal :=
  .next (s.fabTableRun w 5 32 256 (fun s => (List.range (w.body 8 4)).foldl (fun (x : State × Nat) i =>
    let y := x.1.ingestWrite (w.body 4 4 + i) (x.1.fabEntry w 32 i)
    (y.1, if x.2 = 0 then y.2 else x.2)) (s, 0)))

/-! ## Routing epochs (R280) -/

/-- A write of FAB_EPOCH.ARM (R280): refused with 0x060D while a drain runs or the standby bank is not committed. -/
def State.epochArm (s : State) : Except Nat State :=
  if s.on FAB_STATUS.DRAINING || !s.on FAB_EPOCH.STANDBY_READY then .error 0x060D
  else
    let s := (s.set FAB_EPOCH.EPOCH ((s.get FAB_EPOCH.EPOCH + 1) % 4)).set FAB_STATUS.DRAINING 1
    .ok (s.relink (fun _ => true)).drainUpdate

/-- The drain ends. -/
def State.drainEnd (s : State) : State :=
  ((s.set FAB_STATUS.DRAINING 0).set FAB_EPOCH.STANDBY_READY 0).drainUpdate.raise FAB_INT_STATUS.EPOCH_DONE

/-- EPOCH_DRAIN_END (R280): the last packet of the old epoch has been acknowledged. -/
def execEpochDrainEnd (s : State) : Host.Outcome State Fault Refusal :=
  if s.on FAB_STATUS.DRAINING && s.epochOutstanding ((s.get FAB_EPOCH.EPOCH + 3) % 4) == 0 then .next s.drainEnd else .next s

/-- EPOCH_DRAIN_TIMEOUT (R280): the packets of the old epoch are sent again under the new one. -/
def execEpochDrainTimeout (s : State) : Host.Outcome State Fault Refusal :=
  let old := (s.get FAB_EPOCH.EPOCH + 3) % 4
  if s.on FAB_STATUS.DRAINING && s.epochOutstanding old != 0 then
    let again (x : FabPkt) : FabPkt :=
      if x.sent && x.epoch == old then { x with due := true, epoch := s.get FAB_EPOCH.EPOCH } else x
    let s := { s with fab := { s.fab with tx := s.fab.tx.map (fun (x : FlowKey × FabTx) => (x.1, { x.2 with pkts := x.2.pkts.map again })) } }
    .next ((s.fabLog 0x060E 0 0 0 0).raise FAB_INT_STATUS.DRAIN_TIMEOUT).drainEnd
  else .next s

/-! ## Communication queues (Table QUE-4, R359) -/

/-- A communication descriptor is refused (R359). -/
def State.commRefuse (s : State) (w : Work) (reason : Nat) : State := (s.queueLog reason w.queue 2 0).finishError w reason

/-- What a communication descriptor reads. -/
def commAccess (w : Work) : List (Bool × Nat × Nat) := [(false, w.body 8 8, w.body 4 4)]

/-- Send a communication descriptor to members (R359, R288): collective WRITE packets on each member's circuit. -/
def State.commSend (s : State) (w : Work) (op : Nat) (members : List Nat) : State :=
  let n := w.body 4 4
  let table := s.get Q_GROUP.ADDR w.queue * 64
  let entries := members.map (fun m => s.readBytes (table + 16 * m) 16)
  let circuit (e : Bytes) : Nat := getBits (fieldAt e 4 2) 0 12
  if !s.fabReady then s.commRefuse w 0x0624
  else if w.body 0 1 ≠ op ∨ n = 0 ∨ 16777216 < n ∨ w.body 8 8 % 64 ≠ 0 ∨ members.isEmpty ∨
      members.any (fun m => decide (s.get Q_GROUP.MEMBERS w.queue ≤ m)) then s.commRefuse w 0x020A
  else if (s.badAccess (s.classOf w) (commAccess w)).isSome then (s.logAccess w (commAccess w)).commRefuse w 0x020A
  else if s.readsPoison (commAccess w) then
    s.fresh.2.finish w { reason := s.fresh.1 % 2 ^ 16, error := true, poisoned := true, block := 2 }
  else if entries.any (fun e =>
      let c := s.circAt (circuit e)
      !c.valid || c.inbound || c.tenant != w.tenant) then s.commRefuse w 0x0607
  else
    let s := s.readEvents w (commAccess w)
    let id := s.fab.nextMsg
    let data := s.readBytes (w.body 8 8) n
    let s := { s with fab := { s.fab with nextMsg := id + 1, msgs := s.fab.msgs ++ [⟨id, w, members.length * ceilDiv n 4096⟩] } }
    entries.foldl (fun s e => s.fabQueue (s.ownFlow (fieldAt e 0 3) 3)
      (writePackets w.tenant (circuit e) (fieldAt e 8 8 + w.body 16 8) (some id) data)) s

/-- PUT (R359): to the member that MEMBER names. -/
def execPut (w : Work) (s : State) : Host.Outcome State Fault Refusal := .next (s.commSend w 1 [w.body 2 2])

/-- PUT_ALL (R359): to every member. -/
def execPutAll (w : Work) (s : State) : Host.Outcome State Fault Refusal :=
  .next (s.commSend w 2 (List.range (s.get Q_GROUP.MEMBERS w.queue)))

end Sys2Proof.Machine
end

