-- ==== Sys2Proof/Machine/Photonics.lean ====
section
/-!
DEFINITION. Machine/Photonics.lean: wavelengths, lock loops, feed-forward, calibration, re-steering and the laser bank
(spec/11_photonics.md R296 to R316; spec/14_time.md R381).
-/
namespace Sys2Proof.Machine
open Csr

/-- PHO_ERR_LOG, and the report. Panel A's temperature goes with it (Table PHO-10). -/
def State.phoLog (s : State) (reason link wl dir source : Nat) : State :=
  ((((((s.set PHO_ERR_LOG.REASON reason).set PHO_ERR_LOG.LINK link).set PHO_ERR_LOG.WAVELENGTH wl).set PHO_ERR_LOG.DIR dir).set
    PHO_ERR_LOG.SOURCE source).set PHO_ERR_LOG.TEMP (s.get HLTH_PANEL_RATE.TEMP 0)).report reason

/-- A direction of a link. -/
def State.phoDir (s : State) (l d : Nat) : PhoDir := lookupD s.pho.dirs (l, d) {}

/-- Replace a direction of a link. -/
def State.putDir (s : State) (l d : Nat) (x : PhoDir) : State :=
  { s with pho := { s.pho with dirs := assocPut s.pho.dirs (l, d) x } }

/-- TX_WORKING or RX_WORKING. -/
def workingField (d : Nat) : Field := if d = 0 then PHO_LINK.TX_WORKING else PHO_LINK.RX_WORKING

/-- TX_SPARE_LANE or RX_SPARE_LANE. -/
def spareField (d : Nat) : Field := if d = 0 then PHO_LINK.TX_SPARE_LANE else PHO_LINK.RX_SPARE_LANE

/-- The lane that a direction's spare carries. -/
def State.spareLane (s : State) (l d : Nat) : Option Nat :=
  let x := s.get (spareField d) l
  if x = 0xF then none else some x

/-! ## Training (R300, R271) -/

/-- Lanes and spare of a direction from the wavelengths locked and the width (R300). -/
def trainedDir (locked w next : Nat) : PhoDir :=
  let l := bitsOf locked 9
  { lanes := l.take w, spare := (l.drop w).head?, use := 0, next := next, cal := none }

/-- LINK_TRAINING_END (R300): the wavelengths that the far end and this end have locked fix the width, the lanes and the spares;
R271 applies. -/
def execLinkTrainingEnd (link : Fin 32) (tx rx : BitVec 9) (s : State) : Host.Outcome State Fault Refusal :=
  let l := link.val
  if !s.on PHO_STATUS.READY ∨ l ∈ s.pho.stopped then .next s
  else
    let w := min 8 (min (bitsOf tx.toNat 9).length (bitsOf rx.toNat 9).length)
    let s := ((s.set PHO_LINK.TX_WORKING tx.toNat l).set PHO_LINK.RX_WORKING rx.toNat l).set PHO_LINK.TX_SPARE_LANE 0xF l
    let s := (s.set PHO_LINK.RX_SPARE_LANE 0xF l).set PHO_LINK.CAL_WAVELENGTH 0xF l
    let s := (s.putDir l 0 (trainedDir tx.toNat w (s.phoDir l 0).next)).putDir l 1 (trainedDir rx.toNat w (s.phoDir l 1).next)
    .next (s.linkWidth l w (maskOf (s.phoDir l 0).lanes % 256))

/-! ## A failed wavelength (R302, R308) -/

/-- LANE_MAP of a lane on a wavelength (Table PHO-1). -/
def State.sendLaneMap (s : State) (l lane wl : Nat) : State :=
  s.emit (.linkField l 3 (lane + 16 * s.get FAB_LINK_STATUS.WIDTH l + 256 * wl))

/-- MIRROR of a lane, with a countdown of 256 codewords (Table PHO-1, R306). -/
def State.sendMirror (s : State) (l lane : Nat) (back : Bool) : State :=
  s.emit (.linkField l 5 (lane + 16 * b2n back + 32 * 256))

/-- The wavelength of a lane fails: it moves to a free spare, or to the spare once a calibration step has given it back, or the
link retrains (R308). -/
def State.laneFails (s : State) (l d wl lane : Nat) : State :=
  let x := s.phoDir l d
  match x.spare with
  | some sp =>
    if x.use = 2 then (s.phoLog 0x0703 l wl d 0).raise PHO_INT_STATUS.UNLOCK
    else
      let s := match (if x.use = 1 then s.spareLane l d else none) with
        | some other => if d = 0 then s.sendMirror l other true else s
        | none => s
      let s := ((s.putDir l d { x with use := 2, cal := none }).set (spareField d) lane l).set PHO_LINK.CAL_WAVELENGTH 0xF l
      let s := (s.phoLog 0x0702 l wl d 0).raise PHO_INT_STATUS.UNLOCK
      if d = 0 then s.sendLaneMap l lane sp else s
  | none => (s.phoLog 0x0703 l wl d 0).raise PHO_INT_STATUS.UNLOCK

/-- A wavelength of a direction fails (R302): it leaves the working ones, ends a calibration step on it, and its lane moves. -/
def State.wavelengthFails (s : State) (l d wl : Nat) : State :=
  let s := (s.addSat PHO_COUNT.UNLOCK 1).set (workingField d) (setBit (s.get (workingField d) l) wl false) l
  let s := (s.phoLog 0x0701 l wl d 0).raise PHO_INT_STATUS.UNLOCK
  let x := s.phoDir l d
  if x.spare = some wl then
    match s.spareLane l d with
    | none => (s.putDir l d { x with spare := none, use := 0, cal := none }).set PHO_LINK.CAL_WAVELENGTH 0xF l
    | some lane =>
      let s := ((s.putDir l d { x with spare := none, use := 0, cal := none }).set (spareField d) 0xF l).set PHO_LINK.CAL_WAVELENGTH
        0xF l
      if x.use = 1 then s else s.laneFails l d wl lane
  else
    match x.lanes.findIdx? (· == wl) with
    | none => s
    | some lane => if s.spareLane l d = some lane then s.putDir l d { x with use := 2, cal := none } else s.laneFails l d wl lane

/-- RING_RELOCKED (R302): an unlocked ring locks again. Its wavelength works; where its lane runs on the spare, it becomes the
spare (R296). -/
def execRingRelocked (bank : Fin 64) (ring : Fin 9) (s : State) : Host.Outcome State Fault Refusal :=
  let l := bank.val / 2
  let d := bank.val % 2
  let wl := ring.val
  if (bank.val, wl) ∉ s.pho.unlocked then .next s
  else
    let s := { s with pho := { s.pho with
      unlocked := s.pho.unlocked.filter (· ≠ (bank.val, wl)), high := assocErase s.pho.high (bank.val, wl) } }
    let s := s.set (workingField d) (setBit (s.get (workingField d) l) wl true) l
    let x := s.phoDir l d
    match x.lanes.findIdx? (· == wl), x.spare, s.spareLane l d with
    | some lane, some sp, some moved =>
      if lane = moved then
        .next ((s.putDir l d { x with lanes := x.lanes.set lane sp, spare := some wl, use := 0, cal := none }).set (spareField d) 0xF l)
      else .next s
    | none, none, _ => .next (s.putDir l d { x with spare := some wl, use := 0 })
    | _, _, _ => .next s

/-! ## Lock loops, crosstalk and feed-forward (R301 to R305) -/

/-- Whether a bank entry's CRC holds (Table PHO-3). -/
def bankValid (b : Bytes) : Bool := crc32c (b.take 188) == fieldAt b 188 4

/-- A bank's controller reads the entry that a reload named, and keeps the old one where its CRC fails (R304). -/
def State.bankRead (s : State) (b : Nat) : State :=
  if b ∈ s.pho.reload then
    let s := { s with pho := { s.pho with reload := s.pho.reload.filter (· ≠ b) } }
    let e := s.readBytes (s.get PHO_TABLE_BASE.ADDR * 64 + 192 * b) 192
    if bankValid e then { s with pho := { s.pho with banks := assocPut s.pho.banks b e } }
    else s.phoLog 0x0710 (b / 2) 0 (b % 2) 0
  else s

/-- Feed-forward of a bank in 2^-15 GHz-equivalent (R304): the sensors in order, without the faulty ones. -/
def State.feedForward (s : State) (e : Bytes) : Int × State :=
  let ks := (List.range 4).filter (fun k => !s.on PHO_SENSOR.FAULTY (fieldAt e (162 + k) 1 % 64))
  let sum : Int := ks.foldl (fun a k =>
    a + toSigned 16 (fieldAt e (166 + 2 * k) 2) *
      (toSigned 16 (s.get PHO_SENSOR.TEMP (fieldAt e (162 + k) 1 % 64)) - toSigned 16 (fieldAt e (174 + 2 * k) 2))) 0
  if ks.isEmpty then (0, s) else s.divOpen (4 * sum) ks.length

/-- Heater demands of a bank (R303): C times the demands, shifted down by 14 with the sign kept. -/
def bankDemand (e : Bytes) (d : List Int) : List Int :=
  (List.range 9).map (fun j =>
    ((List.range 9).foldl (fun (a : Int) i => a + toSigned 16 (fieldAt e (18 * j + 2 * i) 2) * d.getD i 0) 0) / 2 ^ 14)

/-- One ring of a loop update (R302, R303): its heater setting, and the unlocking of a ring whose error has been above 8 GHz in
4 updates in a row or whose heater is at its limit. -/
def State.ringUpdate (s : State) (b j : Nat) (h : Int) (far : Bool) : State :=
  let lim := Config.heaterMax b j
  let v := min h.toNat lim
  let n := if far then lookupD s.pho.high (b, j) 0 + 1 else 0
  let eff := lookupD s.pho.eff (b, j) (Config.ringEff b j)
  let s := { s with pho := { s.pho with
    heater := assocPut s.pho.heater (b, j) (Config.heaterDrive v eff), high := assocPut s.pho.high (b, j) n } }
  if (n ≥ 4 ∨ h ≥ lim) ∧ (b, j) ∉ s.pho.unlocked then
    { s with pho := { s.pho with unlocked := s.pho.unlocked ++ [(b, j)] } }.wavelengthFails (b / 2) (b % 2) j
  else s

/-- PHO_STATUS.READY once the block is enabled and the rings of every enabled link have locked (Table PHO-7). -/
def State.phoReadyUpdate (s : State) : State :=
  let need := (bitsOf (s.get FAB_CTRL.LINK_EN) 32).flatMap (fun l => [2 * l, 2 * l + 1])
  if s.on PHO_CTRL.ENABLE && need.all (fun b => s.pho.locked.contains b) then s.set PHO_STATUS.READY 1 else s

/-- RING_LOCK_UPDATE (R301 to R304): a controller updates a bank. `integ` is the nine loop integrators after their correction, in
2^-15 GHz-equivalent; `far` has the rings whose estimated error is above 8 GHz. -/
def execRingLockUpdate (bank : Fin 64) (integ : List Int) (far : BitVec 9) (s : State) : Host.Outcome State Fault Refusal :=
  let b := bank.val
  if b / 2 ∈ s.pho.stopped then .next s
  else
    let s := s.bankRead b
    let e := lookupD s.pho.banks b (zeros 192)
    let (f, s) := if s.on PHO_CTRL.FF_EN then s.feedForward e else (0, s)
    let h := bankDemand e ((List.range 9).map (fun i => integ.getD i 0 + f))
    let s := (List.range 9).foldl (fun s j => s.ringUpdate b j (h.getD j 0) (far.toNat.testBit j)) s
    let s := if far = 0 then { s with pho := { s.pho with locked := addOnce s.pho.locked b } } else s
    .next s.phoReadyUpdate

/-- A sensor is marked faulty until cast-on (R305). -/
def State.sensorFaulty (s : State) (k : Nat) : State :=
  let s := (s.set PHO_SENSOR.FAULTY 1 k).set PHO_CAP.SENSORS (s.get PHO_CAP.SENSORS - 1)
  (((s.phoLog 0x070E 0 0 0 0).raise PHO_INT_STATUS.SENSOR).health { reason := 0x070E, kind := 4, level := 0, block := 7, panel := 0
                                                                    action := 3, unit := k }).capChange 7

/-- SENSOR_SAMPLE (R305): the 64 temperatures, signed in 0.125 °C, and the fastest change of any sensor in 0.001 °C/ms. -/
def execSensorSample (temps : List (BitVec 16)) (rate : Nat) (s : State) : Host.Outcome State Fault Refusal :=
  let t (k : Nat) : Int := (temps.getD k 0).toInt
  let bad (k : Nat) : Bool :=
    let ns := (Config.sensorNeighbours k).map (fun n => t n.val)
    let n : Int := ns.length
    let sum := ns.foldl (· + ·) 0
    decide (t k < -320 ∨ 1200 < t k ∨ (n ≠ 0 ∧ (t k * n - sum > 120 * n ∨ sum - t k * n > 120 * n)))
  let s := (List.range 64).foldl (fun s k =>
    let s := s.set PHO_SENSOR.TEMP (temps.getD k 0).toNat k
    if bad k && !s.on PHO_SENSOR.FAULTY k then s.sensorFaulty k else s) s
  let s := if rate > 30000 ∧ s.pho.rate ≤ 30000 then (s.phoLog 0x0712 0 0 0 0).raise PHO_INT_STATUS.SENSOR else s
  .next { s with pho := { s.pho with rate := rate } }

/-- A write of PHO_TABLE_CMD (R304): banks to be read at their next update. -/
def State.bankReload (s : State) (v : Nat) : State :=
  let bs := if v.testBit 7 then List.range 64 else if v.testBit 6 then [v % 64] else []
  { s with pho := { s.pho with reload := s.pho.reload.filter (fun b => !bs.contains b) ++ bs } }

/-! ## Rotating calibration (R306, R307) -/

/-- The next working wavelength of a direction's rotation. -/
def State.nextWavelength (s : State) (l d : Nat) : Option Nat :=
  ((List.range 9).map (fun i => ((s.phoDir l d).next + i) % 9)).find? (fun wl => (s.get (workingField d) l).testBit wl)

/-- CAL_STEP (R306, R307): a direction with a free spare starts the next wavelength: a lane is mirrored onto the spare, and the
spare itself is swept at once. -/
def execCalStep (link : Fin 32) (dir : Fin 2) (s : State) : Host.Outcome State Fault Refusal :=
  let l := link.val
  let x := s.phoDir l dir
  if !s.on PHO_CTRL.CAL_EN || !s.on FAB_LINK_STATUS.IN_SERVICE l || s.on FAB_LINK_STATUS.QUIET l || x.spare.isNone || x.use != 0 ||
      x.cal.isSome || decide (s.pho.rate > 500) then .next s
  else
    match s.nextWavelength l dir with
    | none => .next s
    | some wl =>
      let s := s.putDir l dir { x with cal := some wl }
      match x.lanes.findIdx? (· == wl) with
      | none => .next ((s.set PHO_LINK.CAL_WAVELENGTH wl l).emit (.linkField l 7 (wl + 16)))
      | some lane =>
        let s := (s.putDir l dir { x with cal := some wl, use := 1 }).set (spareField dir) lane l
        .next (if dir.val = 0 then s.sendMirror l lane false else s)

/-- MIRROR_SWITCH (R306): a MIRROR countdown ends: the lane is taken from the spare, and the sweep of its wavelength begins; or it
is back on its own wavelength. -/
def execMirrorSwitch (link : Fin 32) (dir : Fin 2) (lane : Fin 9) (back : Bool) (s : State) : Host.Outcome State Fault Refusal :=
  let l := link.val
  let x := s.phoDir l dir
  if back then
    if x.use = 1 then .next ((s.putDir l dir { x with use := 0, cal := none }).set (spareField dir) 0xF l) else .next s
  else if x.use = 2 ∨ x.spare.isNone then .next s
  else
    let s := (s.putDir l dir { x with use := 1 }).set (spareField dir) lane l
    match x.cal with
    | none => .next s
    | some wl => .next ((s.set PHO_LINK.CAL_WAVELENGTH wl l).emit (.linkField l 7 (wl + 16)))

/-- CAL_SWEEP_END (R306): the sweep's result is kept, as the new efficiency of the ring's heater, or discarded with 0x0704; CAL end
and MIRROR (back) go out. -/
def execCalSweepEnd (link : Fin 32) (dir : Fin 2) (kept : Option Nat) (s : State) : Host.Outcome State Fault Refusal :=
  let l := link.val
  let x := s.phoDir l dir
  match x.cal with
  | none => .next s
  | some wl =>
    let s := match kept with
      | some e => { s with pho := { s.pho with eff := assocPut s.pho.eff (2 * l + dir, wl) e } }
      | none => s.phoLog 0x0704 l wl dir 0
    let s := ((s.addSat PHO_COUNT.CAL_STEPS 1).set PHO_LINK.CAL_WAVELENGTH 0xF l).emit (.linkField l 7 wl)
    let lane := if x.use = 1 then s.spareLane l dir else none
    let s := s.putDir l dir { x with next := (wl + 1) % 9, cal := if lane.isSome then some wl else none }
    match lane with
    | none => .next s
    | some i => .next (if dir.val = 0 then s.sendMirror l i true else s)

/-- LANE_MAP_RECEIVED (R308, R299): the receiver adopts the place of a lane. A field out of range is discarded and counted. -/
def execLaneMapReceived (link : Fin 32) (field : BitVec 16) (s : State) : Host.Outcome State Fault Refusal :=
  let l := link.val
  let v := field.toNat
  let lane := v % 16
  let w := getBits v 4 4
  let wl := getBits v 8 4
  if w > 8 ∨ wl > 8 ∨ v ≥ 2 ^ 12 ∨ (lane ≠ 0xF ∧ lane ≥ w) then .next (s.addSat PHO_COUNT.BAD_FIELD 1)
  else
    let x := s.phoDir l 1
    if lane = 0xF ∨ x.lanes.length ≤ lane then .next s
    else if x.spare = some wl then
      .next ((s.putDir l 1 { x with use := if x.use = 1 then 1 else 2 }).set PHO_LINK.RX_SPARE_LANE lane l)
    else if x.lanes.getD lane 0 = wl then
      if s.spareLane l 1 = some lane ∧ x.use ≠ 1 then
        .next ((s.putDir l 1 { x with use := 0 }).set PHO_LINK.RX_SPARE_LANE 0xF l)
      else .next s
    else .next (s.putDir l 1 { x with lanes := x.lanes.set lane wl })

/-! ## Re-steering (R309 to R311) -/

/-- The fibre pair of a link in a steer map. -/
def State.steerFibre (s : State) (m l : Nat) : Nat := s.get ⟨PHO_STEER, 8 * (l % 8), 5⟩ m (l / 8)

/-- Whether a steer map is a permutation (R309). -/
def State.steerValid (s : State) (m : Nat) : Bool := decide (((List.range 32).map (s.steerFibre m)).Nodup)

/-- QUIET on the links of a list, with its countdown of 40 codewords and its gap in µs (Table PHO-1). -/
def State.quiet (s : State) (ls : List (Fin 32)) (us : Nat) : State :=
  ls.foldl (fun (s : State) l => (s.set FAB_LINK_STATUS.QUIET 1 l.val).emit (.linkField l.val 4 (40 + 1024 * us))) s

/-- A write of PHO_STEER_CTRL.ARM (R310, R423): refused with 0x0048 without the feature and with 0x070B by R310. -/
def State.steerArm (s : State) : Except Nat State :=
  let standby := 1 - s.get PHO_STEER_CTRL.ACTIVE
  let announced := match s.pho.hand with
    | none => false
    | some h => h.announced
  if !s.boot.features.testBit 5 then .error 0x0048
  else if !s.steerValid standby || s.on PHO_STATUS.STEERING || announced then .error 0x070B
  else
    let ls := (List.finRange 32).filter (fun l => s.steerFibre standby l.val != s.fibre l.val)
    let s := (s.set PHO_STATUS.STEERING 1).set PHO_STEER_CTRL.ARM 1
    .ok ({ s with pho := { s.pho with affected := ls } }.quiet ls 11)

/-- RESTEER_GAP_START (R310, R307): the gap begins on the affected links, which abandons a sweep on them. -/
def execResteerGapStart (s : State) : Host.Outcome State Fault Refusal :=
  if s.on PHO_STATUS.STEERING then
    .next (s.pho.affected.foldl (fun (s : State) l => s.set PHO_LINK.CAL_WAVELENGTH 0xF l.val) s)
  else .next s

/-- A link regains lock after a re-steer: it resumes, and its next 8 event-message timestamps are SUSPECT (R291, R381). -/
def State.resumeLink (s : State) (l : Nat) : State :=
  let s := s.set FAB_LINK_STATUS.QUIET 0 l
  let s := { s with time := { s.time with suspect := assocPut s.time.suspect l 8 } }
  s.set TIME_TXQ_STATUS.SUSPECT_LINKS (setBit (s.get TIME_TXQ_STATUS.SUSPECT_LINKS) l true)

/-- Circuits over a re-steered link whose new far end is not their peer are closed (R291). -/
def State.steerCircuits (s : State) (l far : Nat) : State :=
  let gone := (s.fab.circuits.filter (fun c => c.mask.testBit l && c.peer != far)).map (·.index)
  if gone.isEmpty then s
  else ((s.closeCircuits (fun i => gone.contains i)).fabLog 0x060F far l 0 0).raise FAB_INT_STATUS.CIRCUIT

/-- RESTEER_COMPLETE (R310, R311, R291): at t0 + 12 µs ACTIVE changes and the links that hold lock resume; the others stay QUIET.
Later, a link that was late and holds lock resumes. `far` gives the far ends' endpoint IDs. -/
def execResteerComplete (locked : BitVec 32) (far : List (Fin 32 × BitVec 24)) (s : State) : Host.Outcome State Fault Refusal :=
  if s.on PHO_STATUS.STEERING then
    let ls := s.pho.affected
    let late := ls.filter (fun l => !locked.toNat.testBit l.val)
    let m := 1 - s.get PHO_STEER_CTRL.ACTIVE
    let s := ((s.set PHO_STEER_CTRL.ACTIVE m).set PHO_STEER_CTRL.ARM 0).set PHO_STATUS.STEERING 0
    let s := ls.foldl (fun (s : State) l => s.set PHO_LINK.FIBRE (s.steerFibre m l.val) l.val) s
    let s := (ls.filter (fun l => locked.toNat.testBit l.val)).foldl (fun s l => s.resumeLink l.val) s
    let s := { s with pho := { s.pho with affected := [], late := late } }
    let s := (far.filter (fun x => ls.contains x.1)).foldl (fun s x => s.steerCircuits x.1 x.2.toNat) s
    let s := (s.report 0x070C).raise PHO_INT_STATUS.STEER_DONE
    .next (if late.isEmpty then s else (s.phoLog 0x070D (late.headD 0).val 0 0 0).raise PHO_INT_STATUS.STEER_LATE)
  else
    let ls := s.pho.late.filter (fun l => locked.toNat.testBit l.val)
    let s := ls.foldl (fun s l => s.resumeLink l.val) s
    .next { s with pho := { s.pho with late := s.pho.late.filter (fun l => !locked.toNat.testBit l.val) } }

/-- RESTEER_LOCK_TIMEOUT (R311): a link not locked at t0 + 100 µs leaves service and retrains. -/
def execResteerLockTimeout (link : Fin 32) (s : State) : Host.Outcome State Fault Refusal :=
  let l := link.val
  if link ∈ s.pho.late then
    .next (({ s with pho := { s.pho with late := s.pho.late.filter (· ≠ link) } }.set FAB_LINK_STATUS.QUIET 0 l).linkWidth l 0 0)
  else .next s

/-! ## The laser bank (R312, R313, Table PHO-4) -/

/-- The lowest-numbered free spare source. -/
def State.freeSpare (s : State) : Option (Fin 10) :=
  (bitsOf (s.get PHO_CAP.SPARES_FREE) 2).head?.map (fun k => Fin.ofNat 10 (k + 8))

/-- The links of a position (R312). -/
def positionLinks (p : Fin 8) : List (Fin 32) := (List.range 4).map (fun k => Fin.ofNat 32 (4 * p.val + k))

/-- The source in service at a position. -/
def State.sourceAt (s : State) (p : Fin 8) : Fin 10 :=
  ((List.finRange 10).find? (fun x => s.get PHO_SOURCE.POSITION x.val == p.val)).getD (Fin.ofNat 10 p.val)

/-- Whether a handover can start (R313, Table PHO-5): a spare is free, none runs, and the laser-bank controller works. -/
def State.canHandOver (s : State) : Bool := s.freeSpare.isSome && s.pho.hand.isNone && !(s.pho.stopped.contains 32)

/-- Start a handover of a position (Table PHO-4): WARMING, or LOCKING when the spare is already warm. -/
def State.startHandover (s : State) (p : Fin 8) : State :=
  if s.pho.hand.isSome ∨ 32 ∈ s.pho.stopped then s
  else
    match s.freeSpare with
    | none => (s.phoLog 0x0709 (4 * p.val) 0 0 (s.sourceAt p).val).raise PHO_INT_STATUS.HANDOVER
    | some sp =>
      let warm := s.pho.warm.contains sp.val
      let old := s.sourceAt p
      let s := { s with pho := { s.pho with hand := some ⟨p, sp, old, false⟩, warm := s.pho.warm.filter (· ≠ sp.val) } }
      let s := (s.set PHO_CAP.SPARES_FREE (setBit (s.get PHO_CAP.SPARES_FREE) (sp.val - 8) false)).set PHO_SOURCE.STATE 1 sp.val
      let s := (s.set PHO_HANDOVER.STATE (if warm then 2 else 1)).set PHO_STATUS.HANDOVER 1
      (s.phoLog 0x0706 (4 * p.val) 0 0 sp.val).raise PHO_INT_STATUS.HANDOVER

/-- A write of PHO_HANDOVER.GO (Table PHO-9): refused with 0x0709 when no spare is free or a handover runs. -/
def State.handoverGo (s : State) (p : Nat) : Except Nat State := if s.canHandOver then .ok (s.startHandover (Fin.ofNat 8 p)) else .error 0x0709

/-- LASER_POWER_CHECK (R312, R313): a source's averaged power, in 0.01 dB against its commissioned power, and whether it gives
light. -/
def execLaserPowerCheck (source : Fin 10) (db : BitVec 16) (light : Bool) (s : State) : Host.Outcome State Fault Refusal :=
  let x := source.val
  let s := s.set PHO_SOURCE.POWER_DB db.toNat x
  let th (f : Field) : Int := toSigned 16 (s.get f)
  let p := s.get PHO_SOURCE.POSITION x
  if s.get PHO_SOURCE.STATE x ≠ 2 ∨ p > 7 then .next s
  else
    let low := decide (db.toInt ≤ th PHO_LASER_CFG.WARN_DB)
    let s :=
      if low && !s.pho.warned.contains x then
        ({ s with pho := { s.pho with warned := s.pho.warned ++ [x] } }.phoLog 0x0705 (4 * p) 0 0 x).raise PHO_INT_STATUS.LASER_WARN
      else if !low then { s with pho := { s.pho with warned := s.pho.warned.filter (· ≠ x) } }
      else s
    if !light ∨ db.toInt ≤ th PHO_LASER_CFG.FAIL_DB then
      let s := ((s.phoLog 0x070A (4 * p) 0 0 x).raise PHO_INT_STATUS.LASER_FAIL).moduleFault 0x070A
      let s := (positionLinks (Fin.ofNat 8 p)).foldl (fun s l => s.linkWidth l.val 0 0) s
      .next (s.startHandover (Fin.ofNat 8 p))
    else if db.toInt ≤ th PHO_LASER_CFG.HANDOVER_DB && s.on PHO_CTRL.AUTO_HANDOVER then .next (s.startHandover (Fin.ofNat 8 p))
    else .next s

/-- SPARE_WARMED (Table PHO-4): the spare of a handover is stable; or, with SPARE_WARM, a free spare is now warm. -/
def execSpareWarmed (s : State) : Host.Outcome State Fault Refusal :=
  match s.pho.hand with
  | some _ => .next (if s.get PHO_HANDOVER.STATE = 1 then s.set PHO_HANDOVER.STATE 2 else s)
  | none =>
    match s.freeSpare with
    | some sp => .next (if s.on PHO_CTRL.SPARE_WARM then { s with pho := { s.pho with warm := [sp.val] } } else s)
    | none => .next s

/-- SPARE_LOCKED (Table PHO-4): every line of the spare is locked: once no re-steer runs, QUIET goes out on the position's
links. -/
def execSpareLocked (s : State) : Host.Outcome State Fault Refusal :=
  match s.pho.hand with
  | none => .next s
  | some h =>
    if s.get PHO_HANDOVER.STATE ≠ 2 ∨ s.on PHO_STATUS.STEERING then .next s
    else
      .next (({ s with pho := { s.pho with hand := some { h with announced := true } } }.set PHO_HANDOVER.STATE 3).quiet
        (positionLinks h.position) 20)

/-- HANDOVER_GAP_START (Table PHO-4): the select switch moves to the spare, and the old source is off. -/
def execHandoverGapStart (s : State) : Host.Outcome State Fault Refusal :=
  match s.pho.hand with
  | none => .next s
  | some h =>
    if s.get PHO_HANDOVER.STATE ≠ 3 then .next s
    else
      let s := ((s.set PHO_SOURCE.POSITION 0xF h.old.val).set PHO_SOURCE.STATE 0 h.old.val).set PHO_SOURCE.POSITION h.position.val h.spare.val
      .next ((s.set PHO_SOURCE.STATE 2 h.spare.val).set PHO_HANDOVER.STATE 4)

/-- HANDOVER_SWITCHED (Table PHO-4): the far ends hold lock, and transmission resumes. -/
def execHandoverSwitched (s : State) : Host.Outcome State Fault Refusal :=
  match s.pho.hand with
  | none => .next s
  | some h =>
    if s.get PHO_HANDOVER.STATE ≠ 4 then .next s
    else
      let s := (positionLinks h.position).foldl (fun (s : State) l => s.set FAB_LINK_STATUS.QUIET 0 l.val) s
      let s := ({ s with pho := { s.pho with hand := none } }.set PHO_HANDOVER.STATE 0).set PHO_STATUS.HANDOVER 0
      .next ((s.phoLog 0x0707 (4 * h.position.val) 0 0 h.spare.val).raise PHO_INT_STATUS.HANDOVER)

/-- HANDOVER_TIME_LIMIT (Table PHO-4, Table PHO-5): warming or locking took too long: the spare has failed, and the other one is
tried. -/
def execHandoverTimeLimit (s : State) : Host.Outcome State Fault Refusal :=
  match s.pho.hand with
  | none => .next s
  | some h =>
    if s.get PHO_HANDOVER.STATE ≠ 1 ∧ s.get PHO_HANDOVER.STATE ≠ 2 then .next s
    else
      let s := ({ s with pho := { s.pho with hand := none } }.set PHO_HANDOVER.STATE 0).set PHO_STATUS.HANDOVER 0
      let s := ((s.set PHO_SOURCE.STATE 3 h.spare.val).phoLog 0x0708 (4 * h.position.val) 0 0 h.spare.val).raise PHO_INT_STATUS.HANDOVER
      .next (if s.freeSpare.isSome then s.startHandover h.position else s)

end Sys2Proof.Machine
end

