-- ==== Sys2Proof/Machine/Purl.lean ====
section
/-!
DEFINITION. Machine/Purl.lean: the purl exponent codec (spec/06_purl_codec.md, R141 to R168, R494): blocks, tables and
range coding, its descriptors, and its clusters.
-/
namespace Sys2Proof.Machine
open Csr

/-! ## Symbols, residues and tables (R142, R147 to R149) -/

/-- Alphabet of a format (Table PURL-1). -/
def purlAlphabet (fmt : Nat) : Nat := match fmt with
  | 2 => 16
  | 3 => 32
  | _ => 256

/-- Residue bits of a format (Table PURL-1). -/
def purlResBits (fmt : Nat) : Nat := match fmt with
  | 0 => 24
  | 1 => 8
  | 2 => 4
  | _ => 3

/-- Elements of a full block: 65,536 raw bytes (R143). -/
def purlFull (fmt : Nat) : Nat := 65536 / fmtBytes fmt

/-- Symbol and residue of an element (R142). -/
def purlSplit (fmt code : Nat) : Nat × Nat :=
  let (eb, fb, _) := floatFmt fmt
  (getBits code fb eb, getBits code 0 fb + 2 ^ fb * getBits code (eb + fb) 1)

/-- The element of a symbol and a residue. -/
def purlJoin (fmt sym res : Nat) : Nat :=
  let (eb, fb, _) := floatFmt fmt
  getBits res 0 fb + 2 ^ fb * sym + 2 ^ (eb + fb) * getBits res fb 1

/-- Index of the first greatest entry of a list. -/
def argMax (l : List Nat) : Nat := (bestBy (fun i => l.getD i 0) (List.range l.length)).getD 0

/-- `quantise` of R148. -/
def quantise (h : List Nat) : List Nat :=
  let n := h.foldl (· + ·) 0
  let f := h.map (fun x => 1 + (16384 - h.length) * x / n)
  let big := argMax h
  f.set big (f.getD big 0 + (16384 - f.foldl (· + ·) 0))

/-- `default_table` of R148. -/
def defaultTable (fmt t : Nat) : List Nat :=
  let a := purlAlphabet fmt
  if t = 7 then List.replicate a (16384 / a)
  else
    let c := if fmt ≤ 1 then 100 + 6 * t else if fmt = 3 then 6 + 3 * t else 3 + 2 * t
    let w := (List.range a).map (fun s => 2 ^ (24 - min 24 (if s ≤ c then c - s else 4 * (s - c))))
    quantise (w.set 0 (max (w.getD 0 0) (2 ^ 20)))

/-- Cumulative values of a table. -/
def cumul : List Nat → Nat → List Nat
  | [], _ => []
  | f :: r, a => a :: cumul r (a + f)

/-- TABLE_DIGEST (Table PURL-2). -/
def tableDigest (f : List Nat) : Nat := crc32c (f.flatMap (le 2))

/-- Histogram of the symbols of a block. -/
def symHist (a : Nat) (syms : List Nat) : List Nat := (List.range a).map (fun s => syms.countP (· == s))

/-! ## Range coding (R151, R152) -/

/-- `l` of R151. -/
def ransL : Nat := 2 ^ 23

/-- Renormalise the encoder's state: bytes leave while x ≥ xmax; `n` bounds the bytes of a 32-bit state. -/
def encNorm (xmax : Nat) : (n : Nat) → Nat → Bytes → Nat × Bytes
  | 0, x, out => (x, out)
  | n + 1, x, out => if x ≥ xmax then encNorm xmax n (x / 256) (BitVec.ofNat 8 x :: out) else (x, out)

/-- Code symbols, the last one first, onto the bytes already written (R151). -/
def encSyms (f c : List Nat) : List Nat → Nat → Bytes → Nat × Bytes
  | [], x, out => (x, out)
  | s :: r, x, out =>
    let fs := f.getD s 1
    let (x, out) := encNorm (2 ^ 17 * fs) 4 x out
    encSyms f c r (x / fs * 2 ^ 14 + x % fs + c.getD s 0) out

/-- One sub-stream (R151). -/
def encStream (f : List Nat) (syms : List Nat) : Bytes :=
  let (x, out) := encSyms f (cumul f 0) syms.reverse ransL []
  le 4 x ++ out

/-- Renormalise the decoder's state, or none when the bytes run out (R152, short). -/
def decNorm (x : Nat) : Bytes → Option (Nat × Bytes)
  | [] => if x ≥ ransL then some (x, []) else none
  | b :: bs => if x ≥ ransL then some (x, b :: bs) else decNorm (x * 256 + b.toNat) bs

/-- The symbol whose range holds a slot, from symbol `s` on. -/
def findSym : List Nat → (s base slot : Nat) → Nat × Nat × Nat
  | [], s, base, _ => (s, base, 1)
  | f :: r, s, base, slot => if slot < base + f then (s, base, f) else findSym r (s + 1) (base + f) slot

/-- Decode `k` symbols: the symbols and what remains, or none when short (R152). -/
def decSyms (f : List Nat) : (k : Nat) → Nat → Bytes → Option (List Nat × Nat × Bytes)
  | 0, x, bs => some ([], x, bs)
  | k + 1, x, bs =>
    let slot := x % 2 ^ 14
    let (s, base, fs) := findSym f 0 0 slot
    match decNorm (fs * (x / 2 ^ 14) + slot - base) bs with
    | none => none
    | some (x, bs) =>
      match decSyms f k x bs with
      | none => none
      | some (l, x, bs) => some (s :: l, x, bs)

/-- One sub-stream decoded: the reason it is not well formed, or its symbols (R152). -/
def decStream (f : List Nat) (k : Nat) (bs : Bytes) : Except Nat (List Nat) :=
  if bs.length < 4 then .error 0x0D08
  else
    match decSyms f k (leVal (bs.take 4)) (bs.drop 4) with
    | none => .error 0x0D08
    | some (l, x, rest) => if rest = [] ∧ x = ransL then .ok l else .error 0x0D09

/-- Symbols of sub-stream `j`: elements j, j + 8, … (R146). -/
def subStream (j : Nat) (l : List Nat) : List Nat := (List.range (ceilDiv (l.length - j) 8)).map (fun i => l.getD (j + 8 * i) 0)

/-! ## Blocks (R143 to R146, R150, R153, R154) -/

/-- The 48-byte header of a block (Table PURL-2). -/
structure BlockHdr where
  flags : Nat
  fmt : Nat
  table : Nat
  elements : Nat
  declared : Nat
  coded : Nat
  digest : Nat
  sublen : List Nat
  index : Nat
  rawCrc : Nat
  deriving DecidableEq, Repr

/-- A block header's bytes, HDR_CRC included. -/
def BlockHdr.bytes (h : BlockHdr) : Bytes :=
  let b := [1] ++ le 1 h.flags ++ le 1 h.fmt ++ le 1 h.table ++ le 4 h.elements ++ le 4 h.declared ++ le 4 h.coded ++
    le 4 h.digest ++ h.sublen.flatMap (le 2) ++ le 4 h.index ++ le 4 h.rawCrc
  b ++ le 4 (crc32c b)

/-- Read a block header. -/
def BlockHdr.of (b : Bytes) : BlockHdr :=
  { flags := fieldAt b 1 1, fmt := fieldAt b 2 1 % 16, table := fieldAt b 3 1, elements := fieldAt b 4 4
    declared := fieldAt b 8 4, coded := fieldAt b 12 4, digest := fieldAt b 16 4
    sublen := (List.range 8).map (fun j => fieldAt b (20 + 2 * j) 2), index := fieldAt b 36 4, rawCrc := fieldAt b 40 4 }

/-- A raw block (R146): `flags` holds FIRST and LAST. -/
def rawBlock (fmt flags index : Nat) (raw : Bytes) : Bytes :=
  let h : BlockHdr := ⟨flags ||| 1, fmt, 0, raw.length / fmtBytes fmt, raw.length, 48 + raw.length, 0, List.replicate 8 0, index,
    crc32c raw⟩
  h.bytes ++ raw

/-- The residue plane: element i's residue from bit i × w (R146). -/
def resPlane (w : Nat) (rs : List Nat) : Bytes := le (ceilDiv (rs.length * w) 8) (rs.foldr (fun r a => r + 2 ^ w * a) 0)

/-- Whether a table estimates a block's symbols at no more than another: Σ h × log2 f compared exactly (R153; log entry
30). -/
def tableScore (h f : List Nat) : Nat := (List.zipWith (fun x y => y ^ x) h f).foldl (· * ·) 1

/-- The encoder's choice of table: TSEL, TIDX and the table, the adaptive one first on a tie, then the lower TIDX (R153). -/
def chooseTable (fmt : Nat) (h : List Nat) (adaptive : Option (List Nat)) : Nat × Nat × List Nat :=
  let ds : List (Nat × Nat × List Nat) := (List.range 8).map (fun t => (0, t, defaultTable fmt t))
  let all := match adaptive with
    | none => ds
    | some f => (1, 0, f) :: ds
  (bestBy (fun c => tableScore h c.2.2) all).getD (0, 7, defaultTable fmt 7)

/-- What an encoded block is: its bytes, whether it is raw, and the stream's adaptive table after it. -/
structure EncBlock where
  bytes : Bytes
  raw : Bool
  adaptive : Option (List Nat)

/-- Encode one block (R146, R149, R153, R154). -/
def encodeBlock (fmt flags index : Nat) (forceRaw adapt : Bool) (adaptive : Option (List Nat)) (codes : List Nat) : EncBlock :=
  let raw := codes.flatMap (le (fmtBytes fmt))
  if forceRaw then ⟨rawBlock fmt flags index raw, true, adaptive⟩
  else
    let sp := codes.map (purlSplit fmt)
    let syms := sp.map (·.1)
    let h := symHist (purlAlphabet fmt) syms
    let (tsel, tidx, f) := chooseTable fmt h (if adapt then adaptive else none)
    let plane := resPlane (purlResBits fmt) (sp.map (·.2))
    let subs := (List.range 8).map (fun j => encStream f (subStream j syms))
    let body := plane ++ subs.flatMap id
    if body.length ≥ raw.length then ⟨rawBlock fmt flags index raw, true, adaptive⟩
    else
      let hd : BlockHdr := ⟨flags, fmt, tsel + 4 * tidx, codes.length, raw.length, 48 + body.length, tableDigest f,
        subs.map List.length, index, crc32c raw⟩
      ⟨hd.bytes ++ body, false, some (quantise h)⟩

/-- Encode the blocks of a chunk from block `i` on; `n` blocks are left (R143, R144). -/
def encodeBlocks (fmt streamBlocks : Nat) (forceRaw adapt : Bool) : (n i : Nat) → Option (List Nat) → List Nat → List EncBlock
  | 0, _, _, _ => []
  | n + 1, i, ad, codes =>
    let first := i % streamBlocks == 0
    let flags := 2 * b2n first + 4 * b2n (n == 0)
    let b := encodeBlock fmt flags i forceRaw adapt (if first then none else ad) (codes.take (purlFull fmt))
    b :: encodeBlocks fmt streamBlocks forceRaw adapt n (i + 1) b.adaptive (codes.drop (purlFull fmt))

/-- A decoded block: its header and its raw bytes, and the stream's adaptive table after it. -/
structure DecBlock where
  hdr : BlockHdr
  raw : Bytes
  adaptive : Option (List Nat)
  deriving DecidableEq, Repr

/-- Decode one block with its body of CODED_LEN − 48 bytes in hand (Table PURL-6 from the table check on). -/
def decodeBody (h : BlockHdr) (adaptive : Option (List Nat)) (body : Bytes) : Except Nat DecBlock :=
  if h.flags.testBit 0 then
    if crc32c body = h.rawCrc then .ok ⟨h, body, adaptive⟩ else .error 0x0D0A
  else
    let tsel := h.table % 4
    let adaptive := if h.flags.testBit 1 then none else adaptive
    let table : Option (List Nat) := if tsel = 0 then some (defaultTable h.fmt (getBits h.table 2 3)) else adaptive
    match table with
    | none => .error 0x0D07
    | some f =>
      if tableDigest f ≠ h.digest then .error 0x0D07
      else
        let w := purlResBits h.fmt
        let pl := ceilDiv (h.elements * w) 8
        let plane := leVal (body.take pl)
        let subs := (List.range 8).foldl (fun (acc : Except Nat (List (List Nat)) × Bytes) j =>
          match acc.1 with
          | .error r => (.error r, acc.2)
          | .ok l =>
            let n := h.sublen.getD j 0
            match decStream f (ceilDiv (h.elements - j) 8) (acc.2.take n) with
            | .error r => (.error r, acc.2)
            | .ok x => (.ok (l ++ [x]), acc.2.drop n)) (.ok [], body.drop pl)
        match subs.1 with
        | .error r => .error r
        | .ok l =>
          let syms := (List.range h.elements).map (fun i => (l.getD (i % 8) []).getD (i / 8) 0)
          let raw := (syms.mapIdx (fun i x => purlJoin h.fmt x (getBits plane (i * w) w))).flatMap (le (fmtBytes h.fmt))
          if crc32c raw = h.rawCrc then .ok ⟨h, raw, some (quantise (symHist (purlAlphabet h.fmt) syms))⟩ else .error 0x0D0A

/-- CODED_LEN by R146. -/
def BlockHdr.lenOk (h : BlockHdr) : Bool :=
  if h.flags.testBit 0 then h.coded == 48 + h.declared
  else h.coded == 48 + ceilDiv (h.elements * purlResBits h.fmt) 8 + h.sublen.foldl (· + ·) 0

/-- Decode one block at the front of a payload: the block and the rest, or the row's reason (Table PURL-6). -/
def decodeBlock (fmt index : Nat) (adaptive : Option (List Nat)) (p : Bytes) : Except Nat (DecBlock × Bytes) :=
  let hb := p.take 48
  if p = [] then .error 0x0D0B
  else if hb.length < 48 then .error 0x0D06
  else if crc32c (hb.take 44) ≠ fieldAt hb 44 4 then .error 0x0D04
  else
    let h := BlockHdr.of hb
    if fieldAt hb 0 1 ≠ 1 ∨ h.fmt > 3 ∨ h.fmt ≠ fmt ∨ h.table % 4 > 1 ∨ h.elements = 0 ∨ h.elements > purlFull fmt ∨
        h.declared ≠ h.elements * fmtBytes fmt ∨ (!h.flags.testBit 2 ∧ h.elements < purlFull fmt) ∨ h.index ≠ index then .error 0x0D05
    else if !h.lenOk ∨ h.coded > p.length then .error 0x0D06
    else
      match decodeBody h adaptive (slice p 48 (h.coded - 48)) with
      | .error r => .error r
      | .ok b => .ok (b, p.drop h.coded)

/-- Decode the blocks of a payload from block `i` on: the blocks, or the first failing block and its reason; `n` bounds the
blocks of a chunk. -/
def decodeBlocks (fmt : Nat) : (n i : Nat) → Option (List Nat) → Bytes → Except (Nat × Nat) (List DecBlock)
  | 0, i, _, _ => .error (i, 0x0D0B)
  | n + 1, i, ad, p =>
    match decodeBlock fmt i ad p with
    | .error r => .error (i, r)
    | .ok (b, rest) =>
      if b.hdr.flags.testBit 2 then (if rest = [] then .ok [b] else .error (i, 0x0D0B))
      else
        match decodeBlocks fmt n (i + 1) b.adaptive rest with
        | .error e => .error e
        | .ok l => .ok (b :: l)

/-- Decode a chunk's coded payload of `elements` elements (R152, Table PURL-6). -/
def decodeChunk (fmt elements : Nat) (p : Bytes) : Except (Nat × Nat) (List DecBlock) :=
  match decodeBlocks fmt 257 0 none p with
  | .error e => .error e
  | .ok l =>
    if (l.map (fun b => b.hdr.elements)).foldl (· + ·) 0 = elements then .ok l else .error (l.length - 1, 0x0D0B)

/-- A decoded block as a raw block (R156). -/
def DecBlock.asRaw (b : DecBlock) : Bytes := rawBlock b.hdr.fmt (b.hdr.flags &&& 0xFE) b.hdr.index b.raw

/-! ## Clusters and spares (R165) -/

/-- Whether a logical cluster is in service. -/
def State.purlInService (s : State) (c : Nat) : Bool :=
  decide (c < 32) && (s.get PURL_CTRL.CLUSTER_EN).testBit c && !(s.get PURL_QUAR.OUT_OF_SERVICE).testBit c

/-- The clusters in service. -/
def State.purlClusters (s : State) : List Nat := (List.range 32).filter s.purlInService

/-- The spare that stands for a cluster. -/
def State.purlSpareFor (s : State) (c : Nat) : Option Nat :=
  if s.get PURL_SPARE.SPARE0_FOR = c then some 0 else if s.get PURL_SPARE.SPARE1_FOR = c then some 1 else none

/-- SPAREk_FOR. -/
def spareForField (k : Nat) : Field := if k = 0 then PURL_SPARE.SPARE0_FOR else PURL_SPARE.SPARE1_FOR

/-- Quarantine a cluster, with a free spare in its place or the cluster out of service (R165). -/
def State.purlQuarantine (s : State) (c reason : Nat) (w : Option Work) : State :=
  let old := s.purlSpareFor c
  let hw := match old with
    | some k => 32 + k
    | none => c
  let s := (s.quarantineCount 2 13 hw).markQuarantined 13 hw true
  let s := match old with
    | some k =>
      (s.set (spareForField k) 0x3F).set PURL_SPARE.SPARE_QUARANTINED (setBit (s.get PURL_SPARE.SPARE_QUARANTINED) k true)
    | none => s.set PURL_QUAR.QUARANTINED (setBit (s.get PURL_QUAR.QUARANTINED) c true)
  let rec_ (action : Nat) : Health :=
    { reason := reason, kind := 1, block := 13, panel := 2, action := action, cluster := c, job := (w.map (·.job)).getD 0
      step := (w.map (·.step)).getD 0 }
  match leastBy id (bitsOf (s.get PURL_CAP.SPARE_FREE) 2) with
  | some k =>
    let s := ((s.set (spareForField k) c).set PURL_CAP.SPARE_FREE (setBit (s.get PURL_CAP.SPARE_FREE) k false)).set
      PURL_QUAR.OUT_OF_SERVICE (setBit (s.get PURL_QUAR.OUT_OF_SERVICE) c false)
    ((((s.set PURL_CAP.IN_SERVICE s.purlClusters.length).health (rec_ 2)).set PURL_ERR_LOG.REASON 0x0D11).report 0x0D11).raise
      PURL_INT_STATUS.SUBSTITUTED
  | none =>
    let s := s.set PURL_QUAR.OUT_OF_SERVICE (setBit (s.get PURL_QUAR.OUT_OF_SERVICE) c true)
    (((((s.set PURL_CAP.IN_SERVICE s.purlClusters.length).health (rec_ 3)).set PURL_ERR_LOG.REASON 0x0D12).report 0x0D12).raise
      PURL_INT_STATUS.OUT_OF_SERVICE).capChange 13

/-- A write of PURL_SUBST with GO (Table PURL-13): refused with 0x0D12 where no spare is free. Its health record carries
0x0D11. -/
def State.purlSubst (s : State) (c : Nat) : Except Nat State :=
  if s.get PURL_CAP.SPARE_FREE = 0 then .error 0x0D12 else .ok ((s.set PURL_ERR_LOG.CLUSTER c).purlQuarantine c 0x0D11 none)

/-- A requalification (R165, R451): one that passes makes the cluster a spare. -/
def State.purlRequal (s : State) (c : Nat) (pass : Bool) : State :=
  if !(s.get PURL_QUAR.QUARANTINED).testBit c then s
  else if (s.hlth.quarantined.filter (· == (13, c))).length > 1 then s.report 0x1014
  else if !pass then ((s.set PURL_ERR_LOG.REASON 0x0D12).set PURL_ERR_LOG.CLUSTER c).report 0x0D12
  else
    let s := (s.markQuarantined 13 c false).set PURL_QUAR.QUARANTINED (setBit (s.get PURL_QUAR.QUARANTINED) c false)
    let k := match s.purlSpareFor c with
      | some k => k
      | none => if s.get PURL_SPARE.SPARE0_FOR = 0x3F then 0 else 1
    (s.set (spareForField k) 0x3F).set PURL_CAP.SPARE_FREE (setBit (s.get PURL_CAP.SPARE_FREE) k true)

/-! ## Descriptors (Table PURL-4, R155, R156) -/

/-- Blocks of a chunk of `n` raw bytes. -/
def purlBlocks (n : Nat) : Nat := ceilDiv n 65536

/-- Raw bytes of the chunk of a codec descriptor. -/
def purlRaw (w : Work) : Nat := w.body 4 4 * fmtBytes (w.body 2 1 % 16)

/-- Bytes that the output of a codec descriptor may need (R155). -/
def purlNeed (w : Work) : Nat :=
  if w.body 0 1 = 1 then purlRaw w + 48 * purlBlocks (purlRaw w)
  else purlRaw w + (if (w.body 1 1).testBit 2 then 48 * purlBlocks (purlRaw w) else 0)

/-- The accesses of a codec descriptor. -/
def purlAccess (w : Work) : List (Bool × Nat × Nat) := [(false, w.body 16 8, w.body 8 4), (true, w.body 24 8, purlNeed w)]

/-- The reason a codec descriptor of operation `op` is refused with, or none (R155, R168, R494). -/
def State.purlCheck (s : State) (op : Nat) (w : Work) : Option Nat :=
  let fl := w.body 1 1
  let flagBad := if op = 1 then fl &&& 0x04 != 0 else if op = 2 then fl &&& 0x03 != 0 else fl &&& 0x07 != 0
  if !s.on PURL_STATUS.READY then some 0x0D14
  else if s.purlClusters = [] then some 0x0D12
  else if op = 0x0F then (if w.body 0 1 ≠ op ∨ flagBad then some 0x0D02 else none)
  else if w.body 2 1 % 16 > 3 then some 0x0D01
  else if w.body 0 1 ≠ op ∨ flagBad ∨ w.body 4 4 = 0 ∨ purlRaw w > 16777216 then some 0x0D02
  else if op = 1 ∧ w.body 8 4 ≠ purlRaw w then some 0x0D02
  else if w.body 12 4 < purlNeed w then some 0x0D02
  else if w.body 16 8 % 64 ≠ 0 ∨ w.body 24 8 % 64 ≠ 0 ∨ (s.badAccess (s.classOf w) (purlAccess w)).isSome then some 0x0D03
  else none

/-- Log a codec fault or refusal (Table PURL-15). -/
def State.purlLog (s : State) (reason cluster engine block : Nat) (w : Work) : State :=
  let s := ((((s.set PURL_ERR_LOG.REASON reason).set PURL_ERR_LOG.CLUSTER cluster).set PURL_ERR_LOG.ENGINE engine).set
    PURL_ERR_LOG.QUEUE w.queue).set PURL_ERR_LOG.BLOCK_INDEX block
  ((s.set PURL_ERR_LOG.SITE (w.body 36 1 % 16)).set PURL_ERR_CHUNK.CHUNK_ID (w.body 32 4)).set PURL_ERR_CHUNK.STEP w.step

/-- Refuse a codec descriptor. -/
def State.purlRefuse (s : State) (w : Work) (reason : Nat) : State :=
  let s := if reason = 0x0D03 then s.logAccess w (purlAccess w) else s
  (s.purlLog reason 0 0 0 w).finishError w reason

/-- The engine word (R156). -/
def purlEngine (len blocks raw streams : Nat) : Nat := len + blocks * 2 ^ 32 + raw * 2 ^ 41 + streams * 2 ^ 50

/-- Count blocks (Table PURL-18) and the events of Table PMON-1. -/
def State.purlCount (s : State) (w : Work) (coded raw : Nat) (event : Nat) : State :=
  let s := (s.addWrap PURL_BLOCK_COUNT.CODED coded).addWrap PURL_BLOCK_COUNT.RAW raw
  let s := s.pmonEdge event (w.body 4 4) (s.attrOf w)
  if raw = 0 then s else s.pmonEdge 0x006D raw (s.attrOf w)

/-- End a codec descriptor with poisoned output. -/
def State.purlPoison (s : State) (w : Work) (reason : Nat) : State :=
  (s.poisonBytes (w.body 24 8) (purlNeed w)).finish w
    { reason := reason, error := true, poisoned := true, block := 13 }

/-- The codes of a chunk's elements. -/
def State.purlCodes (s : State) (w : Work) : List Nat :=
  let b := fmtBytes (w.body 2 1 % 16)
  (List.range (w.body 4 4)).map (fun i => s.readLe (w.body 16 8 + i * b) b)

/-- The blocks that an ENCODE makes (R143, R153, R154). -/
def State.purlEncode (s : State) (w : Work) : List EncBlock :=
  let sb := if w.body 3 1 = 0 then 256 else w.body 3 1
  let fl := w.body 1 1
  encodeBlocks (w.body 2 1 % 16) sb (s.on PURL_CFG.FORCE_RAW || fl.testBit 0) (s.on PURL_CFG.ADAPT_EN && !fl.testBit 1)
    (purlBlocks (purlRaw w)) 0 none (s.purlCodes w)

/-- An ENCODE with its checks passed: output, counts and completion (R156). -/
def State.purlEncoded (s : State) (w : Work) : State :=
  let bs := s.purlEncode w
  let out := bs.flatMap EncBlock.bytes
  let raw := bs.countP EncBlock.raw
  let sb := if w.body 3 1 = 0 then 256 else w.body 3 1
  let s := (s.readEvents w (purlAccess w)).engineWrite 13 (s.classOf w) (w.body 24 8) out
  let s := ((s.addWrap PURL_ENC_IN.BYTES (purlRaw w)).addWrap PURL_ENC_OUT.BYTES out.length).purlCount w (bs.length - raw) raw 0x002D
  let s := if w.job = 0 then s else s.digestMade w.job w.step (w.body 32 4) (s.readBytes (w.body 16 8) (purlRaw w))
  s.finish w { block := 13, engine := purlEngine out.length bs.length raw (ceilDiv bs.length sb) }

/-- An encoder's self-check fails (R160): the block is poisoned, the cluster quarantined, and a job's encode runs once more. -/
def State.encFault (s : State) (w : Work) (cluster engine : Nat) (again : Bool) : State :=
  let s := (((s.purlLog 0x0D0D cluster engine 0 w).addSat PURL_ERR_COUNT.ENC_CHECK 1).report 0x0D0D).raise PURL_INT_STATUS.ENC_CHECK
  let s := s.purlQuarantine cluster 0x0D0D (some w)
  if again then { s with rerun := s.rerun ++ [w] } else s.purlPoison w 0x0D0D

/-- ENCODE (R143 to R156): `fault` is the cluster and encoder whose self-check fails. -/
def execEncode (w : Work) (fault : Option (Fin 32 × Fin 8)) (s : State) : Host.Outcome State Fault Refusal :=
  match s.purlCheck 1 w with
  | some r => .next (s.purlRefuse w r)
  | none =>
    if s.readsPoison (purlAccess w) then .next ((s.report 0x0D13).purlPoison w 0x0D13)
    else
      match fault with
      | none => .next (s.purlEncoded w)
      | some (c, e) =>
        if s.purlInService c then .next (s.encFault w c e (decide (w.job ≠ 0))) else .next (s.purlEncoded w)

/-- A chunk is decoded: a received chunk of its job is complete, and a reduced one is held by this member (R47). -/
def State.chunkDecoded (s : State) (w : Work) : State :=
  match s.entryOf w.job with
  | none => s
  | some j =>
    let chunk := w.body 32 4
    let site := w.body 36 1 % 16
    let mine (c : RxChunk) : Bool := c.entry == j && c.site == site && c.step == w.step && c.chunk == chunk && c.phase == 1
    if s.xport.rxChunks.any mine then
      let s := { s with xport := { s.xport with
        rxChunks := s.xport.rxChunks.map (fun c => if mine c then { c with phase := 2 } else c)
        owed := s.xport.owed.filter (fun o => !(o.entry == j && o.site == site && o.step == w.step && o.chunk == chunk)) } }
      if chunkKind chunk = 1 ∧ (s.stepRec j).step = w.step then s.chunkHeld j chunk else s.progress j
    else s

/-- A DECODE whose blocks are well formed: output, counts and completion with a warning or none (R156). -/
def State.purlDecoded (s : State) (w : Work) (bs : List DecBlock) (warn : Nat) : State :=
  let emit := (w.body 1 1).testBit 2
  let out := bs.flatMap (fun b => if emit then b.asRaw else b.raw)
  let raw := bs.countP (fun b => b.hdr.flags.testBit 0)
  let streams := bs.countP (fun b => b.hdr.flags.testBit 1)
  let s := (s.readEvents w (purlAccess w)).engineWrite 13 (s.classOf w) (w.body 24 8) out
  let s := ((s.addWrap PURL_DEC_IN.BYTES (w.body 8 4)).addWrap PURL_DEC_OUT.BYTES (purlRaw w)).purlCount w (bs.length - raw) raw 0x004D
  let reduced := !emit && chunkKind (w.body 32 4) == 1 && w.job != 0
  let s := if reduced then s.mirrorChunk w.job w.step (w.body 32 4) (w.body 36 1 % 16) 0xFF out else s
  (if emit then s else s.chunkDecoded w).finish w
    { reason := warn, warning := warn != 0, block := 13, engine := purlEngine out.length bs.length raw streams }

/-- What one decode of a chunk meets: its blocks, or the block and the reason (Table PURL-6), with what a faulty decoder
adds. -/
def State.purlAttempt (s : State) (w : Work) (upset : Option DecodeUpset) : Except (Nat × Nat) (List DecBlock) :=
  let r := decodeChunk (w.body 2 1 % 16) (w.body 4 4) (s.readBytes (w.body 16 8) (w.body 8 4))
  match upset with
  | none => r
  | some u =>
    match r with
    | .ok l => if u.block.val < l.length then .error (u.block.val, 0x0D04 + u.row.val) else .ok l
    | .error (b, reason) => if u.block.val < b then .error (u.block.val, 0x0D04 + u.row.val) else .error (b, reason)

/-- The counter of a decoding failure (Table PURL-16). -/
def purlCounter (reason : Nat) : Field :=
  if reason ≤ 0x0D06 then PURL_ERR_COUNT.HEADER else if reason = 0x0D0A then PURL_ERR_COUNT.RAW_CRC else PURL_ERR_COUNT.DECODE

/-- A chunk stays owed after its raw resend was refused or failed (R164). -/
def State.rawOwed (s : State) (j site step chunk frog : Nat) : State :=
  let o : OwedChunk := ⟨j, site, step, chunk, frog, true, true⟩
  let others := s.xport.owed.filter (fun x => !(x.entry == j && x.site == site && x.step == step && x.chunk == chunk))
  let s := { s with xport := { s.xport with owed := others ++ [o] } }
  let s := ((s.addSat PURL_RESEND_COUNT.FAILED 1).report 0x0D10).raise PURL_INT_STATUS.RESEND_FAIL
  s.stall j (1 <<< site) (s.stepRec j)

/-- Reject a chunk (R162, R164): its output is discarded, it counts as not received, and its source is asked for a raw resend
once for each frog count. -/
def State.chunkReject (s : State) (w : Work) : State :=
  let s := s.raise PURL_INT_STATUS.DECODE_FAIL
  match s.entryOf w.job with
  | none => s
  | some j =>
    let chunk := w.body 32 4
    let site := w.body 36 1 % 16
    let frog := (s.stepRec j).frog
    let s := { s with xport := { s.xport with rxChunks := s.xport.rxChunks.filter (fun c =>
      !(c.entry == j && c.site == site && c.step == w.step && c.chunk == chunk)) } }
    if s.xport.owed.any (fun o => o.entry == j && o.site == site && o.step == w.step && o.chunk == chunk && o.frog == frog && o.raw) then
      s.rawOwed j site w.step chunk frog
    else
      let o : OwedChunk := ⟨j, site, w.step, chunk, frog, true, false⟩
      let s := { s with xport := { s.xport with owed := s.xport.owed ++ [o] } }
      ((s.addSat PURL_RESEND_COUNT.REQUESTED 1).report 0x0D0E).sendControl j site 4 (le 4 w.step ++ le 4 chunk ++ le 1 frog)

/-- A failing DECODE that both attempts reject (R161, R162, Table PURL-6). -/
def State.decodeReject (s : State) (w : Work) (cluster block reason : Nat) : State :=
  let s := ((s.purlLog reason cluster 8 block w).addSat (purlCounter reason) 1).report reason
  (s.chunkReject w).finishError w reason

/-- DECODE (R152, R156, R161): `cluster` is where the failing stream runs, where one fails. A first failure waits for a second
decode. -/
def execDecode (w : Work) (cluster : Fin 32) (upset : Option DecodeUpset) (s : State) : Host.Outcome State Fault Refusal :=
  match s.purlCheck 2 w with
  | some r => .next (s.purlRefuse w r)
  | none =>
    if s.readsPoison (purlAccess w) then .next ((s.report 0x0D13).purlPoison w 0x0D13)
    else
      match s.purlAttempt w upset with
      | .ok bs => .next (s.purlDecoded w bs 0)
      | .error (b, r) =>
        let e : Redecode := ⟨w, r, b, cluster⟩
        .next { s with purl := { s.purl with redecode := s.purl.redecode ++ [e] } }

/-- SECOND_DECODE (R161): the oldest failing chunk is decoded again on an in-service cluster other than the first, or on the
first where it is the only one. -/
def execSecondDecode (cluster : Fin 32) (upset : Option DecodeUpset) (s : State) : Host.Outcome State Fault Refusal :=
  match s.purl.redecode with
  | [] => .next s
  | e :: rest =>
    let only := s.purlClusters == [e.cluster]
    if !s.purlInService cluster || (cluster.val == e.cluster && !only) then .next s
    else
      let s := { s with purl := { s.purl with redecode := rest } }
      match s.purlAttempt e.work upset with
      | .ok bs =>
        let s := ((s.purlLog 0x0D0C e.cluster 8 e.block e.work).addSat PURL_RESEND_COUNT.REDECODE_OK 1).report 0x0D0C
        let s := if only || !s.purlInService e.cluster then s
          else (s.purlQuarantine e.cluster 0x0D0C (some e.work)).purlLog 0x0D0C e.cluster 8 e.block e.work
        .next (s.purlDecoded e.work bs 0x0D0C)
      | .error (b, r) => .next (s.decodeReject e.work cluster b r)

/-- PURL_SWATCH (R165): the swatch set on the named cluster. -/
def execPurlSwatch (w : Work) (fails : Bool) (s : State) : Host.Outcome State Fault Refusal :=
  match s.purlCheck 0x0F w with
  | some r => .next (s.purlRefuse w r)
  | none =>
    let c := w.body 37 1 % 32
    if !s.purlInService c then .next (s.purlRefuse w 0x0D12)
    else if fails then .next ((((s.purlLog 0x0D15 c 0 0 w).report 0x0D15).purlQuarantine c 0x0D15 (some w)).finishError w 0x0D15)
    else .next (s.finish w { block := 13 })

/-- RAW_REFUSE_RECEIVED (R164): the source cannot serve a chunk raw; it stays owed and the step stalls. -/
def execRawRefuseReceived (j : Fin 128) (site : Fin 16) (s : State) : Host.Outcome State Fault Refusal :=
  match s.takeMail j site 5 with
  | none => .next s
  | some (c, s) => .next (s.rawOwed j site (fieldAt c.body 0 4) (fieldAt c.body 4 4) (fieldAt c.body 8 1))

/-- PURL_STALL_RESUME (R159): an engine goes on after a number of stalled engine-handshakes, waiting for input (`input`) or
for output space. -/
def execPurlStallResume (input : Bool) (handshakes : Nat) (s : State) : Host.Outcome State Fault Refusal :=
  if input then
    let n := s.purl.inRem + handshakes
    .next ({ s with purl := { s.purl with inRem := n % 1024 } }.addSat PURL_STALL.IN_STALL (n / 1024))
  else
    let n := s.purl.outRem + handshakes
    .next ({ s with purl := { s.purl with outRem := n % 1024 } }.addSat PURL_STALL.OUT_STALL (n / 1024))

end Sys2Proof.Machine
end

