-- ==== Sys2Proof/Machine/Stitch.lean ====
section
/-!
DEFINITION. Machine/Stitch.lean: the stitch units (spec/05_stitch_units.md, R121 to R140): reduction slots, weighted sums,
swatches and clean marks, cluster faults and poison notices.
-/
namespace Sys2Proof.Machine
open Csr

/-! ## Clusters (Table STCH-1, R133, R134) -/

/-- Panel of a logical cluster, and its number within the panel. -/
def panelOf (c : Nat) : Nat × Nat := (c / 16, c % 16)

/-- Whether the panel's spare stands for a cluster. -/
def State.stchOnSpare (s : State) (c : Nat) : Bool := s.get STCH_PANEL_MAP.SPARE_FOR (panelOf c).1 == (panelOf c).2

/-- Whether a logical cluster is in service: its own hardware or a spare works for it. -/
def State.stchInService (s : State) (c : Nat) : Bool :=
  decide (c < 48) && (s.get STCH_CTRL.CLUSTER_EN).testBit c &&
  !(s.get STCH_PANEL_MAP.OUT_OF_SERVICE (panelOf c).1).testBit (panelOf c).2

/-- STCH_CAP as it follows from the panel maps and the enables. -/
def State.stchCap (s : State) : State :=
  let n := ((List.range 48).filter s.stchInService).length
  (s.set STCH_CAP.IN_SERVICE n).set STCH_CAP.LANES (256 * n)

/-- Open slots of a cluster. -/
def State.openSlotsOf (s : State) (c : Nat) : Nat := (s.stch.slots.filter (fun x => x.cluster == c && !x.done)).length

/-- The in-service cluster with the fewest open slots, the lowest number on a tie (R122). -/
def State.leastCluster (s : State) : Option Nat := leastBy s.openSlotsOf ((List.range 48).filter s.stchInService)

/-- Put a slot in place of the one with its index, or add it; the occupancy registers follow (Table STCH-14). -/
def State.putSlot (s : State) (x : Slot) : State :=
  let slots := s.stch.slots.filter (fun y => y.index ≠ x.index) ++ [x]
  let s := { s with stch := { s.stch with slots := slots } }
  let n := (slots.filter (fun y => !y.done)).length
  ((s.set STCH_SLOT_STATUS.OPEN n).set STCH_SLOT_STATUS.PEAK (max n (s.get STCH_SLOT_STATUS.PEAK))).set STCH_STATUS.BUSY
    (b2n (n != 0))

/-- Release a slot with its held terms (R132). -/
def State.releaseSlot (s : State) (x : Slot) : State :=
  let slots := s.stch.slots.filter (fun y => y.index ≠ x.index)
  let s := { s with stch := { s.stch with slots := slots } }
  let n := (slots.filter (fun y => !y.done)).length
  (s.set STCH_SLOT_STATUS.OPEN n).set STCH_STATUS.BUSY (b2n (n != 0))

/-! ## Sums (R125, R126, R129) -/

/-- The elements of a term in FP32, and how many R72 replaced. -/
def State.termElems (s : State) (w : Work) : List Num × Nat :=
  let fmt := w.body 2 1 % 16
  let n := w.body 12 4
  let xs := (List.range n).map (fun i => decodeNum fmt 0 (s.readLe (w.body 16 8 + i * fmtBytes fmt) (fmtBytes fmt)))
  (xs.map (·.1), xs.countP (·.2))

/-- The weight of a term. -/
def termWeight (w : Work) : Num := (decodeFloat 0 (w.body 32 4)).1

/-- The exact product of two values (R82's rules for specials). -/
def Num.mul : Num → Num → Num
  | .nan, _ => .nan
  | _, .nan => .nan
  | .inf a, .inf b => .inf (a != b)
  | .inf a, .fin b m _ => if m = 0 then .nan else .inf (a != b)
  | .fin a m _, .inf b => if m = 0 then .nan else .inf (a != b)
  | .fin a m e, .fin b n f => .fin (a != b) (m * n) (e + f)

/-- One element's new partial sum with what writing it did (R125): one rounding to FP32. -/
def addTerm (w : Num) (acc : Option Nat) (x : Num) : Enc :=
  let p := w.mul x
  match acc with
  | none => encodeFloat 0 0 p
  | some a => encodeFloat 0 0 ((decodeFloat 0 a).1.add p)

/-- The partial sums after a term, or none where nothing has been added yet; a term of weight zero adds nothing. -/
def State.addWork (s : State) (sums : Option (List Nat)) (w : Work) : Option (List Enc) :=
  let wt := termWeight w
  if wt.isZero then none
  else
    let xs := (s.termElems w).1
    some (match sums with
      | none => xs.map (addTerm wt none)
      | some a => List.zipWith (fun a x => addTerm wt (some a) x) a xs)

/-- The sums formed again from the held terms (R133). -/
def State.sumTerms (s : State) (ts : List SlotTerm) : Option (List Nat) :=
  ts.foldl (fun (a : Option (List Nat)) t =>
    match s.addWork a t.work with
    | none => a
    | some es => some (es.map (·.code))) none

/-- Elements of a tensor in a round's stream: factors in rounds 1 and 2, whole tensors elsewhere (R35, R36). -/
def streamElems (t : TensorEntry) (rank round : Nat) : Nat :=
  let proj := t.projected && rank != 0
  if round = 0 then (if proj then t.rows * rank else t.rows * t.cols)
  else if round = 1 then (if proj then t.cols * rank else 0)
  else t.rows * t.cols

/-- Tensor index and element index of an offset counted from tensor `i` along the map (R129). -/
def streamPos : List Nat → (i off : Nat) → Nat × Nat
  | [], i, off => (i, off)
  | n :: r, i, off => if off < n then (i, off) else streamPos r (i + 1) (off - n)

/-- The random bits of each output element of a slot (R129). -/
def State.slotRandom (s : State) (x : Slot) (e : Nat) : Nat :=
  match s.entryOf x.job with
  | none => srBits 0 x.step x.tensor (x.offset + e)
  | some j =>
    let counts := ((s.tensors j).drop x.tensor).map (fun t => streamElems t ((s.stepRec j).par JOB_PARAM0.RANK) (chunkRound x.chunk))
    let p := streamPos counts x.tensor (x.offset + e)
    srBits (s.get JOB_SEED.SEED j) x.step p.1 p.2

/-- The reduced chunk: each sum converted to FMT_OUT by RMODE; +0 everywhere where no sum was formed (R123). -/
def State.slotOutput (s : State) (x : Slot) : List Enc :=
  match x.sums with
  | none => List.replicate x.elements ⟨0, false, false⟩
  | some a => a.mapIdx (fun i c => encodeNum x.fmtOut x.rmode 0 (s.slotRandom x i) (decodeFloat 0 c).1)

/-! ## Completing a descriptor -/

/-- Complete a stitch descriptor with its numeric summary, and its histogram record where it names one (R85 to R89, R123). -/
def State.stchDone (s : State) (w : Work) (t : OutTensor) (flushIn : Nat) (slotDone : Bool) (warn : Nat) : State :=
  let h := w.field 16 8
  let s := if h = 0 then s else s.engineWrite 12 (s.classOf w) h (t.histogram flushIn (w.field 2 1))
  s.finish w { reason := warn, warning := warn != 0, block := 12, engine := b2n slotDone, summary := t.summary flushIn (h != 0) }

/-- A descriptor's output with no elements. -/
def noOutput : OutTensor := ⟨0, 0, []⟩

/-- Discard a term with a warning (Table STCH-5). -/
def State.stchWarn (s : State) (w : Work) (reason : Nat) : State := (s.report reason).stchDone w noOutput 0 false reason

/-- Refuse a descriptor: STCH_ERR_LOG and an error record (R124). -/
def State.stchRefuse (s : State) (w : Work) (reason : Nat) : State :=
  ((s.set STCH_ERR_LOG.REASON reason).set STCH_ERR_LOG.QUEUE w.queue).finishError w reason

/-- End a descriptor with poisoned output (R90). -/
def State.stchPoisoned (s : State) (w : Work) (reason : Nat) : State :=
  s.finish w { reason := reason, error := true, poisoned := true, block := 12, summary := poisonedSummary }

/-- The accesses of an ACCUMULATE: its term, the reduced chunk and the histogram record. -/
def stchAccess (w : Work) : List (Bool × Nat × Nat) :=
  [(false, w.body 16 8, w.body 12 4 * fmtBytes (w.body 2 1 % 16)), (true, w.body 24 8, w.body 12 4 * fmtBytes (w.body 2 1 / 16))] ++
  (if w.field 16 8 = 0 then [] else [(true, w.field 16 8, 256)])

/-- The reason R124 and R140 refuse a stitch descriptor with, or none. -/
def State.stchCheck (s : State) (w : Work) : Option Nat :=
  let fi := w.body 2 1 % 16
  let fo := w.body 2 1 / 16
  let e := w.body 12 4
  let a := w.body 16 8
  let o := w.body 24 8
  if !s.on STCH_STATUS.READY then some 0x0C0C
  else if w.body 0 1 ≠ 1 ∨ w.body 4 1 = 0 ∨ w.body 4 1 > 18 ∨ e = 0 ∨
      e > 2 ^ 24 / max 1 (max (fmtBytes fi) (fmtBytes fo)) ∨ w.body 6 2 % 2 ^ 14 ≥ 2 ^ s.get STCH_CHECK.SLOTS_LOG2 then some 0x0C02
  else if a % 64 ≠ 0 ∨ o % 64 ≠ 0 ∨ (s.badAccess (s.classOf w) (stchAccess w)).isSome then some 0x0C03
  else if fi > 3 ∨ fo > 3 ∨ !roundOk fo (w.body 3 1 % 4) then some 0x0C01
  else none

/-- The slot that a descriptor's fields open (R122). -/
def openSlot (w : Work) (cluster : Nat) : Slot :=
  { index := w.body 6 2 % 2 ^ 14, job := w.job, step := w.step, chunk := w.body 8 4, frog := w.body 5 1 % 8, expect := w.body 4 1
    elements := w.body 12 4, fmtOut := w.body 2 1 / 16, rmode := w.body 3 1 % 4, addrOut := w.body 24 8, tensor := w.body 36 3
    offset := w.body 40 8, cluster := cluster, terms := [], sums := none, done := false }

/-! ## Clean marks (R41, R132) -/

/-- Acknowledge the contributions of a slot that has its clean mark (R219). -/
def State.ackTerms (s : State) (j : Nat) (x : Slot) : State :=
  (x.terms.filter (fun t => t.kind == 0 && t.site != s.localSite)).foldl (fun s t =>
    s.ackChunk j t.site x.step (chunkId (chunkRound x.chunk) 0 (chunkIndex x.chunk))) s

/-- Send the clean marks of completed slots to every other member of their job, and take the own ones. -/
def State.sendClean (s : State) (xs : List Slot) : State :=
  (xs.map (·.job)).dedup.foldl (fun s job =>
    match s.entryOf job with
    | none => s
    | some j =>
      let mine := xs.filter (fun x => x.job == job)
      let body := le 2 mine.length ++ mine.flatMap (fun x => le 4 x.step ++ le 4 x.chunk)
      let s := ((s.stepRec j).memberList.filter (· ≠ s.localSite)).foldl (fun s m => s.sendControl j m 2 body) s
      let s := mine.foldl (fun s x => s.ackTerms j x) s
      mine.foldl (fun s x => if x.step = (s.stepRec j).step then s.cleanMark j x.chunk else s) s) s

/-- A cluster passes a swatch vector (R131, R132): the epoch advances, and its completed slots send their clean marks and are
released. -/
def State.stchPass (s : State) (c : Nat) : State :=
  let s := s.addWrap STCH_STATUS.SWATCH_EPOCH 1
  let xs := s.stch.slots.filter (fun x => x.cluster == c && x.done)
  xs.foldl State.releaseSlot (s.sendClean xs)

/-- The next vector of a cluster's rotation (R131). -/
def State.nextStchVector (s : State) (c : Nat) : State :=
  let n := (lookupD s.stch.nextVector c 0 + 1) % max 1 (s.get STCH_CHECK.SET_SIZE)
  { s with stch := { s.stch with nextVector := assocPut s.stch.nextVector c n } }

/-! ## Faults in a cluster (R133, Table STCH-4) -/

/-- Runs of consecutive numbers in an ascending list, as (first, count). -/
def runs : List Nat → List (Nat × Nat)
  | [] => []
  | a :: r =>
    match runs r with
    | [] => [(a, 1)]
    | (b, n) :: t => if a + 1 = b then (a, n + 1) :: t else (a, 1) :: (b, n) :: t

/-- Issue notices that name chunks of a round: at most eight runs, or the whole round (R135). -/
def State.noticeChunks (s : State) (j : Nat) (n : Notice) (chunks : List Nat) : State :=
  let ord := (List.range (chunks.foldl max 0 + 1)).filter (fun i => chunks.contains i)
  let rs := runs ord
  if rs.length > 8 then s.issueNotice j { n with first := 0, count := 0 }
  else rs.foldl (fun s r => s.issueNotice j { n with first := r.1, count := r.2 }) s

/-- Whether a slot's output has left the module: its reduced chunk has been sent (R135). -/
def State.slotSent (s : State) (x : Slot) : Bool :=
  x.done && (match s.entryOf x.job with
    | none => false
    | some j => s.xport.retained.any (fun r => r.entry == j && r.step == x.step && r.chunk == x.chunk))

/-- The record body of Table STCH-4. -/
def State.stchRecord (s : State) (reason c action load : Nat) (f : StchFault) (w : Option Work) : Bytes :=
  let p := (panelOf c).1
  let unit := match f.unit with
    | some u => u.val
    | none => 8
  let lane := match f.lane with
    | some l => l.val
    | none => 32
  let (job, step, chunk) := match w with
    | some w => (w.job, w.step, w.body 8 4)
    | none => (0, 0, 0)
  le 2 reason ++ le 1 p ++ le 1 c ++ le 1 unit ++ le 1 lane ++ le 1 action ++ le 1 f.fmtIn.toNat ++
  le 2 (s.get HLTH_PANEL_RATE.TEMP p) ++ le 2 (s.get HLTH_PANEL_RAIL.MEASURED_MV p) ++ le 2 (s.get HLTH_PANEL_RATE.RATE p) ++
  le 1 load ++ le 1 (if w.isSome then f.shift.toNat else 0xFF) ++ le 1 (b2n (f.signs && w.isSome)) ++ zeros 1 ++ le 2 job ++
  le 4 step ++ le 4 chunk ++ le 4 s.stamp

/-- Quarantine a cluster (R133, R134): the panel map, and the spare in its place where one is free. Answers whether a spare
took it over. -/
def State.stchQuarantine (s : State) (c : Nat) : State × Bool :=
  let (p, i) := panelOf c
  let onSpare := s.stchOnSpare c
  let s := s.markQuarantined 12 (if onSpare then 48 + p else c) true
  let s := if onSpare then (s.set STCH_PANEL_MAP.SPARE_QUARANTINED 1 p).set STCH_PANEL_MAP.SPARE_FOR 0x1F p
    else s.set STCH_PANEL_MAP.QUARANTINED (setBit (s.get STCH_PANEL_MAP.QUARANTINED p) i true) p
  let free := (s.get STCH_CAP.SPARE_FREE).testBit p
  if free && !onSpare then
    (((s.set STCH_PANEL_MAP.SPARE_FOR i p).set STCH_CAP.SPARE_FREE (setBit (s.get STCH_CAP.SPARE_FREE) p false)).set
      STCH_PANEL_MAP.OUT_OF_SERVICE (setBit (s.get STCH_PANEL_MAP.OUT_OF_SERVICE p) i false) p, true)
  else (s.set STCH_PANEL_MAP.OUT_OF_SERVICE (setBit (s.get STCH_PANEL_MAP.OUT_OF_SERVICE p) i true) p, false)

/-- Restart a slot from its held terms (R133): a completed one writes its chunk again. -/
def State.restartSlot (s : State) (onSpare : Bool) (x : Slot) : State :=
  let c := if onSpare then x.cluster else (s.leastCluster).getD x.cluster
  let x := { x with cluster := c, sums := s.sumTerms x.terms }
  let s := s.putSlot x
  if x.done then
    let cls := match x.terms.getLast? with
      | some t => s.classOf t.work
      | none => 0
    s.engineWrite 12 cls x.addrOut (OutTensor.bytes ⟨x.fmtOut, 0, s.slotOutput x⟩)
  else s

/-- Contain a cluster's fault (R133): quarantine with its record, the spare or out of service, the slots restarted, and
notices for those already sent. `w` is the descriptor of a failing term, `load` the utilisation of the record. -/
def State.stchContain (s : State) (c reason load : Nat) (f : StchFault) (w : Option Work) : State :=
  let (p, i) := panelOf c
  let mine := s.stch.slots.filter (fun x => x.cluster == c)
  let hw := if s.stchOnSpare c then 48 + p else c
  let (s, spare) := s.stchQuarantine c
  let s := s.stchCap.quarantineCount p 12 hw
  let s := s.health {
    reason := reason, kind := 1, block := 12, panel := p, action := if spare then 2 else 3, cluster := c
    unit := (f.unit.map (·.val)).getD 0xFF, job := (w.map (·.job)).getD 0, step := (w.map (·.step)).getD 0
    body := s.stchRecord reason c (if spare then 1 else 2) load f w }
  let s := if spare then (s.report 0x0C08).raise STCH_INT_STATUS.SUBSTITUTED
    else ((s.report 0x0C09).raise STCH_INT_STATUS.OUT_OF_SERVICE).capChange 12
  let s := mine.foldl (fun s x => s.restartSlot spare x) s
  let sent := mine.filter s.slotSent
  (sent.map (fun x => (x.job, x.step, chunkRound x.chunk, x.frog))).dedup.foldl (fun s k =>
    match s.entryOf k.1 with
    | none => s
    | some j =>
      let cs := (sent.filter (fun x => (x.job, x.step, chunkRound x.chunk, x.frog) == k)).map (fun x => chunkIndex x.chunk)
      s.noticeChunks j { path := if w.isSome then 1 else 2, reason := reason, step := k.2.1, round := k.2.2.1, frog := k.2.2.2
                         location := 16 * p + i, epoch := s.get STCH_STATUS.SWATCH_EPOCH } cs) s

/-- A cluster's fault that a residue check or a swatch finds (R130, R131, R133). -/
def State.stchClusterFault (s : State) (c reason : Nat) (f : StchFault) (w : Option Work) : State :=
  let (p, _) := panelOf c
  let log := (((((((s.set STCH_ERR_LOG.REASON reason).set STCH_ERR_LOG.CLUSTER c).set STCH_ERR_LOG.UNIT
    ((f.unit.map (·.val)).getD 0)).set STCH_ERR_LOG.LANE ((f.lane.map (·.val)).getD 0)).set STCH_ERR_LOG.UNIT_UNKNOWN
    (b2n f.unit.isNone)).set STCH_ERR_LOG.LANE_UNKNOWN (b2n f.lane.isNone)).set STCH_ERR_LOG.QUEUE
    ((w.map (·.queue)).getD 0)).report reason
  let s := if w.isSome then (log.addSat STCH_ERR_COUNT.RESIDUE 1).raise STCH_INT_STATUS.RESIDUE
    else (log.addSat STCH_ERR_COUNT.SWATCH_FAIL 1).raise STCH_INT_STATUS.SWATCH_FAIL
  let s := (((s.set STCH_ERR_ENV.TEMP (s.get HLTH_PANEL_RATE.TEMP p)).set STCH_ERR_ENV.VB_MV
    (s.get HLTH_PANEL_RAIL.MEASURED_MV p)).set STCH_ERR_ENV.RATE (s.get HLTH_PANEL_RATE.RATE p))
  let load := s.fresh.1 % 101
  let s := s.fresh.2.set STCH_ERR_ENV.LOAD load
  s.stchContain c reason load f w

/-! ## Commands -/

/-- Accept a term into its slot (R123, R125), which completes with its last one. -/
def State.acceptTerm (s : State) (w : Work) (x : Slot) (warn : Nat) : State :=
  let base := match x.sums with
    | some a => some a
    | none => s.sumTerms x.terms
  let es := s.addWork base w
  let s := s.memEvent false (w.body 16 8) (x.elements * fmtBytes (w.body 2 1 % 16)) (s.classOf w) 12
  let site := w.body 1 1 % 16
  let s := if site = s.localSite then s else s.mirrorChunk x.job x.step (chunkId (chunkRound x.chunk) 0 (chunkIndex x.chunk)) site
    x.terms.length (s.readBytes (w.body 16 8) (x.elements * fmtBytes (w.body 2 1 % 16)))
  let s := match es with
    | none => s
    | some _ => (s.addWrap STCH_ADD_COUNT.ADDS x.elements).pmonEdge 0x002C x.elements (s.attrOf w)
  let sums : Option (List Nat) := match es with
    | none => base
    | some es => some (es.map Enc.code)
  let x : Slot := { x with terms := x.terms ++ [⟨w, w.body 1 1 % 16, getBits (w.body 1 1) 4 2⟩], sums := sums }
  let flushIn := if es.isNone then 0 else (s.termElems w).2
  if x.terms.length ≥ x.expect then
    let x := { x with done := true }
    let s := s.putSlot x
    let out := s.slotOutput x
    let lost : List Bool := match es with
      | none => []
      | some es => es.map Enc.flush
    let out := out.mapIdx (fun i (e : Enc) => { e with flush := e.flush || lost.getD i false })
    let t : OutTensor := ⟨x.fmtOut, 0, out⟩
    let s := s.engineWrite 12 (s.classOf w) x.addrOut t.bytes
    let s := match s.entryOf x.job with
      | none => s
      | some j =>
        if (s.stepRec j).step = x.step then
          (s.putRec j { s.stepRec j with reduced := addOnce (s.stepRec j).reduced x.chunk }).chunkHeld j x.chunk
        else s
    s.stchDone w t flushIn true warn
  else
    let t : OutTensor := ⟨0, 0, (sums.getD []).map (fun c => ⟨c, false, false⟩)⟩
    (s.putSlot x).stchDone w t flushIn false warn

/-- A term meets its open slot: a fault of its unit, poison, or its acceptance (R22, R130, Table STCH-5). -/
def State.termAtSlot (s : State) (w : Work) (fault : Option StchFault) (rerun : Bool) (x : Slot) (warn : Nat) : State :=
  if s.isPoisoned (w.body 16 8) (x.elements * fmtBytes (w.body 2 1 % 16)) then
    ((((s.putSlot { x with sums := none }).set STCH_ERR_LOG.REASON 0x0C0A).addSat STCH_ERR_COUNT.POISON_IN 1).report
      0x0C0A).stchPoisoned w 0x0C0A
  else
    match fault with
    | none => s.acceptTerm w x warn
    | some f =>
      let s := (s.putSlot { x with sums := none }).stchClusterFault x.cluster 0x0C06 f (some w)
      if w.job ≠ 0 ∧ !rerun then { s with rerun := s.rerun ++ [w] }
      else
        let s := s.stchPoisoned w 0x0C06
        match s.entryOf w.job with
        | none => s
        | some j => s.unrecoverable j 0x0C06

/-- A term is placed (R122, Table STCH-5): it opens a free slot, joins its open one, or waits. -/
def State.placeTerm (s : State) (w : Work) (fault : Option StchFault) (rerun : Bool) : State :=
  let idx := w.body 6 2 % 2 ^ 14
  let frog := w.body 5 1 % 8
  let hold (s : State) : State := { s with stch := { s.stch with waiting := s.stch.waiting ++ [w] } }
  let fresh (s : State) (warn : Nat) : State :=
    match s.leastCluster with
    | none => hold s
    | some c => s.termAtSlot w fault rerun (openSlot w c) warn
  match s.stch.slots.find? (fun x => x.index == idx) with
  | none => fresh s 0
  | some x =>
    let same := x.job == w.job && x.step == w.step && x.chunk == w.body 8 4
    if x.done then
      if same && x.frog == frog then s.stchWarn w 0x0C05 else hold s
    else if !same || x.expect != w.body 4 1 || x.elements != w.body 12 4 || x.fmtOut != w.body 2 1 / 16 then
      (s.report 0x0C04).stchRefuse w 0x0C04
    else if x.frog < frog then (fresh ((s.releaseSlot x).report 0x0C0E) 0x0C0E)
    else if frog < x.frog then s.stchWarn w 0x0C0D
    else if x.terms.any (fun t => t.site == w.body 1 1 % 16 && t.kind == getBits (w.body 1 1) 4 2) then s.stchWarn w 0x0C05
    else s.termAtSlot w fault rerun x 0

/-- ACCUMULATE (R122 to R125, R130): `fault` is what the unit's residue or shift comparison names where it fails. -/
def execAccumulate (w : Work) (fault : Option StchFault) (s : State) : Host.Outcome State Fault Refusal :=
  match s.stchCheck w with
  | some r => .next ((if r = 0x0C03 then s.logAccess w (stchAccess w) else s).stchRefuse w r)
  | none => .next (s.placeTerm w fault false)

/-- STCH_HELD_TERM_RELEASE (R122): the first term that waits for a slot meets it once the slot is released. -/
def execStchHeldTermRelease (slot : Fin 16384) (fault : Option StchFault) (s : State) : Host.Outcome State Fault Refusal :=
  match s.stch.waiting.find? (fun w => w.body 6 2 % 2 ^ 14 == slot.val) with
  | none => .next s
  | some w =>
    if s.stch.slots.any (fun x => x.index == slot.val && x.done) || s.leastCluster.isNone then .next s
    else .next ({ s with stch := { s.stch with waiting := s.stch.waiting.erase w } }.placeTerm w fault false)

/-- STCH_POISON (R135, R136): a driver's POISON descriptor issues a notice. A descriptor that names no enabled job is
refused (log entry 28). -/
def execStchPoison (w : Work) (s : State) : Host.Outcome State Fault Refusal :=
  if !s.on STCH_STATUS.READY then .next (s.stchRefuse w 0x0C0C)
  else if w.body 0 1 ≠ 2 then .next (s.stchRefuse w 0x0C02)
  else
    match s.entryOf w.job with
    | none => .next (s.stchRefuse w 0x0C02)
    | some j =>
      .next ((s.issueNotice j { path := 5, reason := 0x0C10, step := w.step, round := w.body 16 1 % 4, frog := (s.stepRec j).frog
                                first := w.body 8 4, count := w.body 12 4, epoch := s.get STCH_STATUS.SWATCH_EPOCH }).stchDone
        w noOutput 0 false 0)

/-- One swatch vector's outcome on a cluster in service (R131). -/
def State.stchVector (s : State) (c : Nat) (fail : Option StchFault) : State :=
  let s := s.nextStchVector c
  match fail with
  | none => s.stchPass c
  | some f => s.stchClusterFault c 0x0C07 f none

/-- STCH_SWATCH: one vector at once on the logical cluster that SLOT[5:0] names. A cluster out of service has no hardware to
run it on (log entry 28). -/
def execStchSwatch (w : Work) (fail : Option StchFault) (s : State) : Host.Outcome State Fault Refusal :=
  let c := w.body 6 2 % 64
  if !s.on STCH_STATUS.READY then .next (s.stchRefuse w 0x0C0C)
  else if w.body 0 1 ≠ 0x0F ∨ c ≥ 48 then .next (s.stchRefuse w 0x0C02)
  else if !s.stchInService c then .next (s.stchRefuse w 0x0C09)
  else
    let s := s.stchVector c fail
    match fail with
    | none => .next (s.stchDone w noOutput 0 false 0)
    | some _ => .next (s.finishError w 0x0C07)

/-- STCH_CLUSTER_SWATCH (R131): the vector that a cluster in service runs at its interval. -/
def execStchClusterSwatch (c : Fin 48) (fail : Option StchFault) (s : State) : Host.Outcome State Fault Refusal :=
  if s.on STCH_STATUS.READY && s.stchInService c then .next (s.stchVector c fail) else .next s

/-- A write of STCH_SUBST with GO (R133, Table STCH-15): refused with 0x0C09 where the panel's spare is not free. Its
quarantine record carries the swatch reason with nothing localised (log entry 28). -/
def State.stchSubst (s : State) (c : Nat) : Except Nat State :=
  if c ≥ 48 ∨ !(s.get STCH_CAP.SPARE_FREE).testBit (panelOf c).1 then .error 0x0C09
  else .ok (((s.stchClusterFault c 0x0C07 ⟨none, none, 0, 0xFF, false⟩ none)))

/-- Log a refused STCH_SUBST write (Table STCH-15). -/
def State.stchSubstRefused (s : State) (c : Nat) : State := (s.set STCH_ERR_LOG.REASON 0x0C09).set STCH_ERR_LOG.CLUSTER c

/-- A requalification (R134, R451): a cluster quarantined once before is refused with 0x1014; one that passes every vector at
both rails becomes the panel's spare, or stays quarantined with 0x0C07. -/
def State.stchRequal (s : State) (c : Nat) (pass : Bool) : State :=
  let (p, i) := panelOf c
  if c ≥ 48 ∨ !(s.get STCH_PANEL_MAP.QUARANTINED p).testBit i then s
  else if (s.hlth.quarantined.filter (· == (12, c))).length > 1 then s.report 0x1014
  else if !pass then ((s.set STCH_ERR_LOG.REASON 0x0C07).set STCH_ERR_LOG.CLUSTER c).report 0x0C07
  else
    let s := s.markQuarantined 12 c false
    let s := s.set STCH_PANEL_MAP.QUARANTINED (setBit (s.get STCH_PANEL_MAP.QUARANTINED p) i false) p
    let s := if s.get STCH_PANEL_MAP.SPARE_FOR p = i then s.set STCH_PANEL_MAP.SPARE_FOR 0x1F p else s
    s.set STCH_CAP.SPARE_FREE (setBit (s.get STCH_CAP.SPARE_FREE) p true)

/-- POISON_RECEIVED (R136, R137): a notice that a member sent. One whose CRC fails or whose frog count is stale is discarded
and counted; every other goes to the ring unchanged and to the step. -/
def execPoisonReceived (j : Fin 128) (site : Fin 16) (s : State) : Host.Outcome State Fault Refusal :=
  match s.takeMail j site 3 with
  | none => .next s
  | some (c, s) =>
    let b := padTo 64 c.body
    let step := fieldAt b 8 4
    let frog := fieldAt b 13 1 % 8
    let drop := s.addSat STCH_ERR_COUNT.NOTICE_DROP 1
    if crc32c (b.take 60) ≠ fieldAt b 60 4 then .next drop
    else if step = (s.stepRec j).step ∧ frog < (s.stepRec j).frog then .next drop
    else .next ((((s.noticeRing b).report 0x0C11).mirrorOther (s.get JOB_CTRL.JOB_ID j) step b).noticeToStep j step (fieldAt b 12 1 % 4) 0x0C11)

end Sys2Proof.Machine
end

