-- ==== Sys2Proof/Machine/Checks.lean ====
section
/-!
DEFINITION. Machine/Checks.lean: the configuration-consistency checks of the blocks (R398) and the job check (R233), each as the
list of its conditions in the order of its chapter. What a check finds is the reason of the first condition that holds.
-/
namespace Sys2Proof.Machine
open Csr

/-- The reason of the first condition that holds. -/
def firstReason : List (Bool × Nat) → Option Nat
  | [] => none
  | (c, r) :: l => if c then some r else firstReason l

/-- Whether a number is outside a range that includes both ends. -/
def outside (lo hi x : Nat) : Bool := decide (x < lo ∨ hi < x)

/-- Indices of a register array at which a word differs from its reset value. -/
def State.listedIn (s : State) (r : Reg) : List Nat :=
  s.csr.filterMap (fun e =>
    let d := e.1 - r.base
    if r.base ≤ e.1 ∧ d < r.n1 * r.s1 ∧ d % r.s1 = 0 then some (d / r.s1) else none)

/-- Whether an address is not 0 and lies in SRAM (Table MEM-1). -/
def inSram (a : Nat) : Bool := decide (0 < a ∧ a < 0x200000000)

/-- BED (R119); `fails` says that a swatch tile fails. -/
def State.bedConfig (s : State) (fails : Bool) : List (Bool × Nat) :=
  [(!inSram (s.get BED_SWATCH_BASE.ADDR * 64), 0x0B20),
   (outside 16 28 (s.get BED_SWATCH.INTERVAL_LOG2) || outside 1 64 (s.get BED_SWATCH.SET_SIZE), 0x0B22),
   (outside 2 10 (s.get BED_CHECK.TOL_LOG2), 0x0B23),
   (s.get BED_CTRL.GROUP_EN == 0, 0x0B21),
   (fails, 0x0B24)]

/-- STCH (R139); `fails` says that a swatch vector fails. -/
def State.stchConfig (s : State) (fails : Bool) : List (Bool × Nat) :=
  [(!inSram (s.get STCH_SWATCH_BASE.ADDR * 64) || !inSram (s.get STCH_SLOT_BASE.ADDR * 64), 0x0C20),
   (s.get STCH_NOTICE_BASE.ADDR == 0, 0x0C20),
   (outside 12 20 (s.get STCH_CHECK.INTERVAL_LOG2) || outside 1 64 (s.get STCH_CHECK.SET_SIZE) ||
    outside 10 14 (s.get STCH_CHECK.SLOTS_LOG2) || outside 4 12 (s.get STCH_NOTICE_PTR.SIZE_LOG2), 0x0C22),
   (s.get STCH_CTRL.CLUSTER_EN == 0, 0x0C21),
   (fails, 0x0C23)]

/-- PURL (R167); `fails` says that a swatch block fails. -/
def State.purlConfig (s : State) (fails : Bool) : List (Bool × Nat) :=
  [(!inSram (s.get PURL_SWATCH_BASE.ADDR * 64), 0x0D20),
   (s.get PURL_CTRL.CLUSTER_EN == 0, 0x0D21),
   (outside 1 64 (s.get PURL_SWATCH.SET_SIZE), 0x0D23),
   (fails, 0x0D22)]

/-- Whether an enabled port's lanes are badly configured: TX_LANE_MAP, TX_WIDTH or TX_SET (R190, R198). -/
def State.badLanes (s : State) (p : Nat) : Bool :=
  let w := s.get PORT_CFG.TX_WIDTH p
  let t := s.get PORT_CFG.TX_SET p
  !decide (((List.range 8).map (s.physLane p)).Nodup) || w == 3 || decide (2 ^ w ≤ t)

/-- LINE (R198). -/
def State.lineConfig (s : State) : List (Bool × Nat) :=
  [(outside 1 15 (s.get LINE_ALIGN.CONFIRM_N) || outside 1 31 (s.get LINE_ALIGN.LOSS_M), 0x0820),
   (s.get LINE_CTRL.PORT_EN == 0, 0x0821),
   ((bitsOf (s.get LINE_CTRL.PORT_EN) 16).any s.badLanes, 0x0822),
   (outside 10 60000 (s.get LINE_TRAIN.TRAIN_TIMEOUT_MS) || outside 1 10000 (s.get LINE_TRAIN.LANE_HOLD_MS) ||
    outside 1 3600 (s.get LINE_TRAIN.WIDEN_HOLD_S), 0x0823)]

/-- Whether XPORT_CODE is invalid with the values given (Table XPORT-8). -/
def badCode (k m mMin : Nat) : Bool := k == 0 || decide (16 < k + m ∨ 4 < m ∨ 4 < mMin ∨ m < mMin)

/-- First byte and length of the skeins of a pool. -/
def State.poolSpan (s : State) (p : Nat) : Nat × Nat := (s.skeinAddr p 0, s.get POOL_CFG.COUNT p * poolSlot p)

/-- Enabled pools. -/
def State.poolsOn (s : State) : List Nat := (List.range 5).filter s.poolOn

/-- Whether the staging area overlaps an enabled pool (R235, R345). -/
def State.stageOverlaps (s : State) : Bool :=
  s.poolsOn.any (fun p => let (a, n) := s.poolSpan p; decide (s.stageBase < a + n))

/-- XPORT (R235). -/
def State.xportConfig (s : State) : List (Bool × Nat) :=
  [(badCode (s.get XPORT_CODE.K) (s.get XPORT_CODE.M) (s.get XPORT_CODE.M_MIN), 0x0930),
   (outside 0 5000 (s.get XPORT_SW.WINDOW_US) || outside 1 255 (s.get XPORT_SW.LATE_COUNT) ||
    outside 64 4095 (s.get XPORT_SW.SW_SRAM_MIB) || outside 1 3600 (s.get XPORT_SW.REUSE_S) ||
    outside 10 300 (s.get XPORT_RATE.RETX_RATE_GBPS) || outside 100 1500 (s.get XPORT_RATE.SPILL_RATE_GBPS) ||
    outside 10 10000 (s.get XPORT_TIMERS.ACK_INTERVAL_US) || outside 1 1000 (s.get XPORT_TIMERS.KEEPALIVE_MS) ||
    outside 256 512 (s.get XPORT_TIMERS.WIN_FACTOR) ||
    decide (8192 < s.get XPORT_SW.SW_SRAM_MIB + s.get MEM_SRAM_CFG.TABLE_MIB) || s.stageOverlaps, 0x0931),
   (decide (s.get MEM_REGION0.RETAIN_GIB < s.get XPORT_RETAIN.LIMIT_GIB ∨
     s.get MEM_REGION0.SPILL_GIB < s.get XPORT_RETAIN.SPILL_LIMIT_GIB), 0x0932),
   (!((bitsOf (s.get LINE_CTRL.PORT_EN) 16).any (fun p => (List.range 80).any (fun y =>
      s.yarnOn p y && s.yarnTenant p y == s.get XPORT_MGMT.MGMT_TENANT))) ||
    s.get XPORT_MGMT.MGMT_CTX_BASE % 32 != 0, 0x0933)]

/-- CIPH (R268); `fails` says that the key cluster fails its self-test. -/
def State.ciphConfig (s : State) (fails : Bool) : List (Bool × Nat) :=
  let a := s.get CIPH_STORE_BASE.ADDR * 64
  [(a == 0 || s.get CIPH_STORE_SIZE.CONTEXTS == 0 ||
    (match s.regionsOf a (160 * s.get CIPH_STORE_SIZE.CONTEXTS) with
     | none => true
     | some rs => rs.any (fun r => decide (r < 2 ∨ 6 < r))), 0x0A20),
   (s.get CIPH_CTRL.CLUSTER_EN % 16 == 0 || s.get CIPH_CTRL.CLUSTER_EN / 16 == 0, 0x0A21),
   (outside 20 48 (s.get CIPH_LIMIT.RECORD_WARN_LOG2) || outside 30 56 (s.get CIPH_LIMIT.BYTE_WARN_LOG2) ||
    outside 5 3600 (s.get CIPH_KEYMAIL.TIMEOUT_S) || outside 10 3600 (s.get CIPH_KEYMAIL.RETRY_S), 0x0A22),
   (fails, 0x0A23),
   (s.get CIPH_KMO_BASE.ADDR == 0 || s.get CIPH_KMI_BASE.ADDR == 0 || outside 2 10 (s.get CIPH_KMO_PTR.SIZE_LOG2) ||
    outside 2 10 (s.get CIPH_KMI_PTR.SIZE_LOG2), 0x0A24)]

/-- FAB (R294). -/
def State.fabConfig (s : State) : List (Bool × Nat) :=
  let credits := [s.get FAB_VC_CREDITS.REQ, s.get FAB_VC_CREDITS.FWD, s.get FAB_VC_CREDITS.REPLY, s.get FAB_VC_CREDITS.COLL,
    s.get FAB_VC_CREDITS.MGMT]
  [(!([s.get FAB_EPT_BASE.ADDR, s.get FAB_RT_BASE.ADDR, s.get FAB_CIRC_BASE.ADDR, s.get FAB_INGEST_BASE.ADDR,
       s.get FAB_FLOW_BASE.ADDR].all (fun a => inSram (a * 64))), 0x0620),
   (s.get FAB_CTRL.LINK_EN == 0, 0x0621),
   (outside 1 8 (s.get FAB_LINK_CFG.MIN_WIDTH) || outside 10 95 (s.get FAB_LINK_CFG.RESERVE_MAX_PCT) ||
    outside 5 10000 (s.get FAB_LINK_CFG.E2E_TIMEOUT_US) || outside 16 4096 (s.get FAB_LINK_CFG.REORDER_KIB) ||
    outside 10 60000 (s.get FAB_DRAIN.DRAIN_TIMEOUT_US) || credits.any (outside 65 2048) ||
    decide (8192 < 2 * credits.foldl (· + ·) 0), 0x0622),
   (outside 1 256 (s.get FAB_LOCAL_EP.COUNT) || decide (2 ^ 24 < s.get FAB_LOCAL_EP.BASE + s.get FAB_LOCAL_EP.COUNT), 0x0623)]

/-- PHO (R315). -/
def State.phoConfig (s : State) : List (Bool × Nat) :=
  let a := s.get PHO_TABLE_BASE.ADDR * 64
  let warn := toSigned 16 (s.get PHO_LASER_CFG.WARN_DB)
  let hand := toSigned 16 (s.get PHO_LASER_CFG.HANDOVER_DB)
  let fail := toSigned 16 (s.get PHO_LASER_CFG.FAIL_DB)
  [(!inSram a || (List.range 64).any (fun b => !bankValid (s.readBytes (a + 192 * b) 192)), 0x0720),
   (outside 1 100 (s.get PHO_LOCK.LOCK_INT_US) || outside 1 3600 (s.get PHO_CAL.CAL_STEP_S) ||
    outside 500 10000 (s.get PHO_CAL.CAL_DWELL_US) || outside 10 10000 (s.get PHO_LASER_CFG.AVG_MS) ||
    decide (warn < -300 ∨ -50 < warn ∨ warn ≤ hand ∨ hand ≤ fail), 0x0721),
   (!s.steerValid (s.get PHO_STEER_CTRL.ACTIVE), 0x0722),
   (decide (((List.range 64).filter (fun k => !s.on PHO_SENSOR.FAULTY k)).length < 16), 0x0723)]

/-- Whether two ranges share a byte. -/
def shares (x y : Nat × Nat) : Bool := decide (x.1 < y.1 + y.2 ∧ y.1 < x.1 + x.2)

/-- Whether an enabled pool is badly placed (R345). -/
def State.badPool (s : State) (p : Nat) : Bool :=
  let n := s.get POOL_CFG.COUNT p
  let x := s.poolSpan p
  outside 512 (2 ^ 24) n || !s.inRegion 1 x.1 x.2 || decide (s.stageBase < x.1 + x.2) ||
  s.poolsOn.any (fun q => q != p && shares x (s.poolSpan q)) ||
  !s.inRegion 0 (s.get POOL_RING.ADDR p * 64) (4 * n) || !s.inRegion 0 (s.recAddr p 0) (8 * n)

/-- Whether the quotas of an enabled pool are invalid (R345). -/
def State.badQuota (s : State) (p : Nat) : Bool :=
  (List.range 64).any (fun c => decide (s.get CLASS_QUOTA.MAX c p < s.get CLASS_QUOTA.MIN c p)) ||
  decide (s.get POOL_CFG.COUNT p < ((List.range 64).map (fun c => s.get CLASS_QUOTA.MIN c p)).foldl (· + ·) 0)

/-- SKEIN (R345). -/
def State.skeinConfig (s : State) : List (Bool × Nat) :=
  [(s.get SKEIN_CTRL.POOL_EN == 0, 0x0422), (s.poolsOn.any s.badPool, 0x0420), ((List.range 5).any s.badQuota, 0x0421)]

/-- MEM (R346). -/
def State.memConfig (s : State) : List (Bool × Nat) :=
  let r2 := s.get MEM_REGION0.RETAIN_GIB
  let r3 := s.get MEM_REGION0.SPILL_GIB
  [(decide (1344 < r2 + r3 + s.get MEM_REGION1.OPT_GIB + s.get MEM_REGION1.RESID_GIB ∨ r2 < s.get XPORT_RETAIN.LIMIT_GIB ∨
     r3 < s.get XPORT_RETAIN.SPILL_LIMIT_GIB), 0x0520),
   (outside 64 2048 (s.get MEM_SRAM_CFG.TABLE_MIB) || decide (8192 < s.get MEM_SRAM_CFG.TABLE_MIB + s.get XPORT_SW.SW_SRAM_MIB),
     0x0521),
   (outside 1 3600 (s.get MEM_SCRUB.SRAM_PERIOD_S) || outside 16 168 (s.get MEM_SCRUB.LPDDR_PERIOD_H) ||
    outside 1 255 (s.get MEM_SCRUB.CE_LIMIT), 0x0522),
   ((List.range 48).any (fun c => s.get MEM_CLASS.PRIV (16 + c) == 3), 0x0523)]

/-- HOSTQ (R371). -/
def State.hostqConfig (s : State) : List (Bool × Nat) :=
  let a := s.get HOSTQ_DB_BASE.ADDR * 64
  [(a == 0 || !s.inRegion 0 a (8192 * 16), 0x0220)]

/-- SCHED (R372). -/
def State.schedConfig (s : State) : List (Bool × Nat) :=
  [(s.lineBase % 16 != 0 || decide (8192 < s.lineBase + 2064) || s.queuesOn.any s.inLineRange, 0x0320),
   ((s.listedIn TENANT_CFG).any (fun i => s.get TENANT_CFG.WEIGHT i == 0) ||
    (s.listedIn LQ_CFG).any (fun i => s.get LQ_CFG.WEIGHT i == 0), 0x0321)]

/-- TIME (R389). -/
def State.timeConfig (s : State) : List (Bool × Nat) :=
  let nom : Nat := 0xA3D70A3D71
  let inc := s.get TIME_INC_NOM.INC
  [(decide (nom < 1000 * (if inc < nom then nom - inc else inc - nom)), 0x0E20),
   (outside 100 1000000000 (s.get TIME_SERVO_LIMIT.STEP_NS) || outside 1 65535 (s.get TIME_SERVO_LIMIT.LOCK_NS) ||
    outside 1 255 (s.get TIME_SERVO_LIMIT.LOCK_COUNT) || outside 100 65535 (s.get TIME_HOLD.HOLD_TIMEOUT_MS) ||
    outside 10 1000000 (s.get TIME_HOLD.OUTLIER_NS) || outside 1 255 (s.get TIME_HOLD.OUTLIER_LIMIT) ||
    outside 1000 500000 (s.get TIME_HOLD.ADJ_MAX_PPB) ||
    decide (s.get TIME_SERVO_LIMIT.STEP_NS ≤ s.get TIME_SERVO_LIMIT.LOCK_NS), 0x0E21),
   (s.get TIME_CTRL.SOURCE == 3, 0x0E22)]

/-- INTC (R414). -/
def State.intcConfig (s : State) : List (Bool × Nat) :=
  [((s.listedIn INTC_SRC).any (fun x => s.get INTC_SRC.TARGET x == 3), 0x0120)]

/-- HLTH (R457). -/
def State.hlthConfig (s : State) : List (Bool × Nat) :=
  let warn := s.get HLTH_THERMAL.WARN_C
  let thr := s.get HLTH_THERMAL.THROTTLE_C
  let trip := s.get HLTH_THERMAL.TRIP_C
  let mMin := s.get HLTH_GAUGE_CFG.MARGIN_MIN
  let mWarn := s.get HLTH_GAUGE_CFG.MARGIN_WARN
  let audit := s.get HLTH_AUDIT.TABLE_AUDIT_S
  [(outside 70 110 warn || outside (warn + 1) 112 thr || outside (thr + 1) 120 trip, 0x1040),
   (outside 10 200 mMin || decide (mWarn ≤ mMin ∨ s.get HLTH_GAUGE_CFG.MARGIN_HIGH ≤ mWarn) ||
    outside 1 25 (s.get HLTH_GAUGE_CFG.STEP_MV) || outside 750 850 (s.get HLTH_GAUGE_CFG.RAIL_MAX_MV), 0x1041),
   (s.get HLTH_QLOG_BASE.ADDR == 0 || outside 4 14 (s.get HLTH_QLOG_PTR.SIZE_LOG2), 0x1042),
   (outside 600 1450 (s.get HLTH_POWER.PWR_CAP_W) || (audit != 0 && decide (audit < 60)), 0x1043)]

/-- GRP (R470). -/
def State.grpConfig (s : State) : List (Bool × Nat) :=
  let a := s.get GRP_MEMBER_BASE.ADDR * 64
  [(outside 8 64 (s.get GRP_CFG.GROUP_SIZE), 0x1120),
   (a == 0 || !s.inRegion 0 a 512, 0x1121),
   (outside 10 10000 (s.get GRP_TIMERS.HB_US) || decide (s.get GRP_TIMERS.FAIL_DETECT_US < 4 * s.get GRP_TIMERS.HB_US) ||
    outside 10 5000 (s.get GRP_TIMERS.MIRROR_LAG_US) || outside 5 200 (s.get GRP_STRAG.STRAG_PCT) ||
    outside 1 255 (s.get GRP_STRAG.STRAG_STEPS), 0x1122),
   (!s.on GRP_CTRL.ROLE && decide (s.get GRP_CFG.GROUP_SIZE ≤ s.get XPORT_CTRL.GROUP_POS), 0x1123)]

/-- Whether a sampling unit's ring is invalid: its address 0 or outside region 7 (text after Table PMON-5). -/
def State.badRing (s : State) (u : Nat) : Bool :=
  let a := s.get SAMP_RING.ADDR u * 256
  !s.inRegion 7 a (256 * 2 ^ s.get SAMP_CFG.SIZE_LOG2 u)

/-- PMON (R480). -/
def State.pmonConfig (s : State) : List (Bool × Nat) :=
  [(outside 1000 1000000000 (s.get PMON_BW_WINDOW.WINDOW_NS), 0x0F20),
   (s.enabledCounters.any (fun n => let r := s.get PMON_FILT.RANGE n
      decide (s.get PMON_RANGE_HI.ADDR r < s.get PMON_RANGE_LO.ADDR r)), 0x0F21),
   (s.enabledSamplers.any (fun u => s.badRing u || s.get SAMP_CFG.PERIOD u == 0 || outside 4 14 (s.get SAMP_CFG.SIZE_LOG2 u)),
     0x0F22),
   (s.enabledCounters.any (fun n => !pmonEventOk (s.get PMON_EVSEL.EVENT n) (s.on PMON_EVSEL.MODE n)), 0x0F23)]

/-- The conditions of a block's check in its order (R398); `fails` is what its swatches or its self-test find. -/
def State.configConditions (s : State) (b : Nat) (fails : Bool) : List (Bool × Nat) :=
  match b with
  | 1 => s.intcConfig
  | 2 => s.hostqConfig
  | 3 => s.schedConfig
  | 4 => s.skeinConfig
  | 5 => s.memConfig
  | 6 => s.fabConfig
  | 7 => s.phoConfig
  | 8 => s.lineConfig
  | 9 => s.xportConfig
  | 10 => s.ciphConfig fails
  | 11 => s.bedConfig fails
  | 12 => s.stchConfig fails
  | 13 => s.purlConfig fails
  | 14 => s.timeConfig
  | 15 => s.pmonConfig
  | 16 => s.hlthConfig
  | _ => s.grpConfig

/-! ## The job check (R233) -/

/-- Whether JOB_PARAM0 and JOB_PARAM1 of a job entry have a field out of range (Table XPORT-13). -/
def State.jobRanges (s : State) (j : Nat) : Bool :=
  let r := s.get JOB_PARAM0.RANK j
  (r != 0 && (r % 8 != 0 || outside 8 512 r)) || s.get JOB_PARAM0.POLICY j == 3 || outside 1 16 (s.get JOB_PARAM0.QUORUM_MIN j) ||
  s.get JOB_PARAM0.STALE_T j == 0 || outside 1 1000 (s.get JOB_PARAM0.CLEAN_WAIT j) ||
  outside 1 10000 (s.get JOB_PARAM1.STALL_REPORT_MS j) || outside 100 600000 (s.get JOB_PARAM1.PART_DETECT_MS j) ||
  outside 1 600 (s.get JOB_PARAM1.REJOIN_STABLE_S j)

/-- Whether a job's features are not all permitted (R423, Table CAST-4). -/
def State.jobFeatures (s : State) (j : Nat) : Bool :=
  (s.on JOB_PARAM0.OPTIMISER j && !s.boot.features.testBit 0) || (s.on JOB_PARAM0.BED_FORMAT j && !s.boot.features.testBit 1) ||
  (s.get JOB_PARAM0.POLICY j == 0 && !s.boot.features.testBit 2)

/-- Whether R60 fails: MERGE with an optimiser region too small for 12 bytes a parameter. -/
def State.mergeSpace (s : State) (j : Nat) : Bool :=
  s.get JOB_PARAM0.POLICY j == 0 &&
  decide (2 ^ 30 * s.get MEM_REGION1.OPT_GIB < 12 * (s.tensors j).foldl (fun a t => a + t.rows * t.cols) 0)

/-- Whether the tensor map breaks R36 for the entry's rank. -/
def State.mapRank (s : State) (j : Nat) : Bool :=
  (s.tensors j).any (fun t => t.projected && decide (min t.rows t.cols < 2 * s.get JOB_PARAM0.RANK j))

/-- Whether a tensor's ingest format is not allowed (Table NUM-1). -/
def State.mapFormat (s : State) (j : Nat) : Bool := (s.tensors j).any (fun t => decide (3 < t.fmt))

/-- Whether PART_DETECT_MS is too small (R51). -/
def State.jobTimers (s : State) (j : Nat) : Bool :=
  decide (s.get JOB_PARAM1.PART_DETECT_MS j ≤ s.get JOB_PARAM1.STALL_REPORT_MS j ∨
    s.get JOB_PARAM1.PART_DETECT_MS j ≤ 4 * s.get XPORT_TIMERS.KEEPALIVE_MS)

/-- The job check's last conditions: fields, JOB_ID, SITES, contexts, readiness (R233). -/
def State.jobFields (s : State) (j : Nat) : Bool :=
  let id := s.get JOB_CTRL.JOB_ID j
  let sites := s.get JOB_CTRL.SITES j
  s.jobRanges j || outside 1 1048576 (s.get JOB_CTX.TMAP_ENTRIES j) || id == 0 ||
  (s.jobsOn.filter (· ≠ j)).any (fun k => s.get JOB_CTRL.JOB_ID k == id) ||
  !sites.testBit s.localSite || decide (siteCount sites < 2) ||
  (bitsOf sites 16).any (fun x => x != s.localSite && !s.on PEER_CFG.ENABLE x) ||
  s.get JOB_CTX.CTX_BASE j % 32 != 0 || !s.on XPORT_STATUS.READY

/-- The job check (R233), its feature refusal first (R423). -/
def State.jobCheck (s : State) (j : Nat) : Option Nat :=
  firstReason
    [(s.jobFeatures j, 0x0048), (decide (64 ≤ (s.jobsOn.filter (· ≠ j)).length), 0x090A), (s.jobTimers j, 0x090B),
     (s.mergeSpace j, 0x090C), (s.mapRank j || s.mapFormat j, 0x090D), (s.jobFields j, 0x090E)]

/-- The conditions that a write of an enabled job's parameters touches (R234), on the state with the written values. -/
def State.paramCheck (s : State) (j : Nat) : Option Nat :=
  firstReason
    [(s.jobFeatures j, 0x0048), (s.jobTimers j, 0x090B), (s.mergeSpace j, 0x090C), (s.mapRank j, 0x090D),
     (s.jobRanges j, 0x090E)]

end Sys2Proof.Machine
end

