-- ==== Sys2Proof/Machine/Group.lean ====
section
/-!
DEFINITION. Machine/Group.lean: the gateway group (spec/18_gateway_groups.md, R458 to R469): heartbeats and failure notices,
shadowing, takeover and straggler swaps. A command that delivers a group message carries its source endpoint and the message's
bytes (Table GRP-1).
-/
namespace Sys2Proof.Machine
open Csr

/-- A group fault: logged and reported. -/
def State.grpLog (s : State) (reason pos job : Nat) : State :=
  (((s.set GRP_ERR_LOG.REASON reason).set GRP_ERR_LOG.POSITION pos).set GRP_ERR_LOG.JOB_ID job).report reason

/-! ## Acceptance and silence (R458, R459) -/

/-- The entry of the member table that names an endpoint (R458). -/
def State.positionOf (s : State) (ep : Nat) : Option Nat :=
  (List.range 64).find? (fun p =>
    match s.member p with
    | none => false
    | some (base, n) => decide (base ≤ ep ∧ ep < base + n))

/-- A message from a position clears its silent mark (R459). -/
def State.heard (s : State) (pos : Nat) : State :=
  if s.on GRP_CTRL.ROLE && (s.get GRP_SILENT.SILENT).testBit pos then
    ((s.set GRP_SILENT.SILENT (setBit (s.get GRP_SILENT.SILENT) pos false)).grpLog 0x1103 pos 0).raise GRP_INT_STATUS.SILENT
  else s

/-- Accept a group message of a type: what follows takes the sender's position (R458). -/
def State.groupIn (s : State) (ep type : Nat) (b : Bytes) (act : State → Nat → State) : State :=
  if !s.on GRP_STATUS.READY then s
  else
    match s.positionOf ep with
    | none => (s.addSat GRP_COUNT.BAD_MSG 1).grpLog 0x1101 0 0
    | some pos => if b.length < 32 ∨ fieldAt b 0 1 ≠ type then s.addSat GRP_COUNT.BAD_MSG 1 else act (s.heard pos) pos

/-- JOB_ID of a group message. -/
def gJob (b : Bytes) : Nat := fieldAt b 2 2
/-- STEP of a group message. -/
def gStep (b : Bytes) : Nat := fieldAt b 4 4
/-- CHUNK_ID of a group message. -/
def gChunk (b : Bytes) : Nat := fieldAt b 8 4
/-- SITE of a group message. -/
def gSite (b : Bytes) : Nat := fieldAt b 12 1 % 16
/-- ORDER of a group message. -/
def gOrder (b : Bytes) : Nat := fieldAt b 13 1

/-- Active positions with a VALID member entry. -/
def State.activeMembers (s : State) : List Nat := (List.range (s.get GRP_CFG.GROUP_SIZE)).filter (fun p => (s.member p).isSome)

/-- HEARTBEAT_SEND (R459): an active member beats toward the spare, the spare toward every active member. -/
def execHeartbeatSend (s : State) : Host.Outcome State Fault Refusal :=
  if !s.on GRP_STATUS.READY then .next s
  else if s.on GRP_CTRL.ROLE then
    .next (s.activeMembers.foldl (fun s p => match s.member p with
      | none => s
      | some (ep, _) => s.groupSend ep { type := 1 }) s)
  else .next (s.groupSend (s.get GRP_CFG.SPARE_EP) { type := 1 })

/-- HEARTBEAT (R459). -/
def execHeartbeat (ep : BitVec 24) (b : Bytes) (s : State) : Host.Outcome State Fault Refusal :=
  .next (s.groupIn ep.toNat 1 b (fun s _ => s))

/-- BIND (R465): the spare owns the position's endpoint IDs from now on; the fabric manager routes them. -/
def execBind (ep : BitVec 24) (b : Bytes) (s : State) : Host.Outcome State Fault Refusal :=
  .next (s.groupIn ep.toNat 7 b (fun s _ => s))

/-! ## The partner (R461 to R463) -/

/-- The partner leaves shadowing: what its ACKs waited for goes out (R463). -/
def State.unshadow (s : State) : State :=
  if s.grp.shadowed then
    let held := s.grp.items.filterMap (fun x => x.ackTo.map (fun a => (a, x.step, x.chunk)))
    let s := { s with grp := { s.grp with shadowed := false, items := [], flowAcked := [] } }
    held.foldl (fun s x => s.ackNow x.1.1 x.1.2 x.2.1 x.2.2) ((s.report 0x110A).raise GRP_INT_STATUS.SHADOW)
  else s

/-- MIRROR_ACK (R463): the spare holds an item; a chunk among them is now acknowledged to its far site. -/
def execMirrorAck (ep : BitVec 24) (b : Bytes) (s : State) : Host.Outcome State Fault Refusal :=
  .next (s.groupIn ep.toNat 4 b (fun s _ =>
    match s.grp.items.find? (fun x => x.job == gJob b && x.step == gStep b && x.chunk == gChunk b && x.site % 16 == gSite b &&
        x.order == gOrder b && !x.done) with
    | none => s
    | some x =>
      match x.ackTo with
      | none =>
        let left := s.grp.items.map (fun y => if y = x then { x with done := true } else y)
        { s with grp := { s.grp with items := left } }
      | some (j, site) => { s with grp := { s.grp with items := s.grp.items.erase x } }.ackNow j site x.step x.chunk))

/-- MIRROR_LAG_EXPIRY (R463): an item has been unacknowledged for MIRROR_LAG_US. -/
def execMirrorLagExpiry (s : State) : Host.Outcome State Fault Refusal := .next s.unshadow

/-- The 16-byte FLOW entries of the jobs and the gateway flows (text after Table GRP-1). -/
def State.flowEntries (s : State) : List Bytes :=
  (s.jobsOn ++ [128]).flatMap (fun j => s.peers.map (fun p =>
    let f := s.flow j p
    le 2 (if j = 128 then 2048 + p else 16 * j + p) ++ zeros 2 ++ le 4 f.cum ++ le 4 f.ctrlNext ++ le 4 f.ctrlCum))

/-- FLOW_SEND (R463): a shadowed partner sends its flow state to the spare. -/
def execFlowSend (s : State) : Host.Outcome State Fault Refusal :=
  if s.grp.shadowed then
    let es := s.flowEntries
    .next (s.groupSend (s.get GRP_CFG.SPARE_EP) { type := 8, len := es.length, body := es.flatten })
  else .next s

/-- MISMATCH (R464): the partner issues a poison notice with PATH 4 for the chunk. -/
def execMismatch (ep : BitVec 24) (b : Bytes) (s : State) : Host.Outcome State Fault Refusal :=
  .next (s.groupIn ep.toNat 9 b (fun s _ =>
    match s.entryOf (gJob b) with
    | none => s
    | some j => s.issueNotice j { path := 4, reason := 0x110D, step := gStep b, round := chunkRound (gChunk b),
                                  frog := (s.stepRec j).frog, first := chunkIndex (gChunk b), count := 1 }))

/-! ## The spare (R461, R462, R464) -/

/-- Shadowing of a position begins (Table GRP-2). -/
def State.shadowBegin (s : State) (pos : Nat) : State :=
  let s := { s with grp := { s.grp with shadowSteps := 0, own := [], theirs := [], flow := [] } }
  (((s.set GRP_STATUS.SHADOW_STATE 1).set GRP_STATUS.PARTNER_POS pos).report 0x1105).raise GRP_INT_STATUS.SHADOW

/-- A write of GRP_SHADOW.GO (R423, R469). -/
def State.shadowGo (s : State) (pos : Nat) : Except Nat State :=
  if !s.boot.features.testBit 7 then .error 0x0048
  else if !s.on GRP_CTRL.ROLE || s.get GRP_STATUS.SHADOW_STATE != 0 || (s.member pos).isNone then .error 0x110E
  else .ok (s.shadowBegin pos)

/-- A write of GRP_SHADOW.STOP: shadowing ends, at the spare and at a partner (Table GRP-2, R463). -/
def State.shadowStop (s : State) : State := s.shadowEnd.unshadow

/-- SEED_COPY_END (R461): the seed copy of every shadowed job is acknowledged: the spare is SHADOWING, and the partner gates what
it acknowledges and releases the OPEN it held. -/
def execSeedCopyEnd (s : State) : Host.Outcome State Fault Refusal :=
  if !s.on GRP_STATUS.READY then .next s
  else if s.on GRP_CTRL.ROLE then
    .next (if s.get GRP_STATUS.SHADOW_STATE = 1 then s.set GRP_STATUS.SHADOW_STATE 2 else s)
  else .next { s with grp := { s.grp with shadowed := true, items := [], flowAcked := [] } }

/-- A mirrored descriptor of the job runs at the spare as it ran at the partner; it has no queue and no record. -/
def State.mirroredDesc (s : State) (d : Bytes) : State :=
  let w : Work := ⟨0, 0xFFFF, d⟩
  let run := match w.body 0 1 with
    | 2 => execStepMembership w s
    | 3 => execStepFrog w s
    | _ => execStepAbort w s
  match run with
  | .next t => { t with hostq := s.hostq }
  | _ => s

/-- MIRROR (R462): an item has arrived at VALUE and the spare uses it: a chunk is held for its step, a poison notice reaches its
step, and a descriptor of the job runs. The spare acknowledges it. -/
def execMirror (ep : BitVec 24) (b : Bytes) (s : State) : Host.Outcome State Fault Refusal :=
  .next (s.groupIn ep.toNat 3 b (fun s pos =>
    if s.get GRP_STATUS.SHADOW_STATE ≠ 2 ∨ pos ≠ s.get GRP_STATUS.PARTNER_POS then s
    else
      let item := s.readBytes (fieldAt b 16 8) (fieldAt b 24 4)
      let s := match s.entryOf (gJob b) with
        | none => s
        | some j =>
          if gChunk b ≠ 0 ∧ chunkKind (gChunk b) = 1 then (if gStep b = (s.stepRec j).step then s.chunkHeld j (gChunk b) else s)
          else if gChunk b = 0 ∧ item.length = 128 ∧ fieldAt item 0 1 = 9 then s.mirroredDesc item
          else if gChunk b = 0 ∧ item.length = 64 ∧ crc32c (item.take 60) = fieldAt item 60 4 then
            s.noticeToStep j (fieldAt item 8 4) (fieldAt item 12 1 % 4) 0x0C11
          else s
      s.groupSend ep.toNat { type := 4, job := gJob b, step := gStep b, chunk := gChunk b, site := gSite b, order := gOrder b }))

/-- FLOW (R463): the spare keeps the partner's flow state. -/
def execFlow (ep : BitVec 24) (b : Bytes) (s : State) : Host.Outcome State Fault Refusal :=
  .next (s.groupIn ep.toNat 8 b (fun s pos =>
    if s.get GRP_STATUS.SHADOW_STATE = 0 ∨ pos ≠ s.get GRP_STATUS.PARTNER_POS then s
    else { s with grp := { s.grp with flow := (List.range (fieldAt b 24 4)).map (fun i =>
      (fieldAt b (32 + 16 * i) 2, fieldAt b (36 + 16 * i) 4, fieldAt b (40 + 16 * i) 4, fieldAt b (44 + 16 * i) 4)) } }))

/-- DIGEST (R464): the partner's digest of a chunk meets the spare's own, or waits for it. `spareFails` and `partnerFails` say
which gateway's swatches fail, should they differ. -/
def execDigest (ep : BitVec 24) (b : Bytes) (spareFails partnerFails : Bool) (s : State) : Host.Outcome State Fault Refusal :=
  .next (s.groupIn ep.toNat 5 b (fun s pos =>
    if s.get GRP_STATUS.SHADOW_STATE ≠ 2 ∨ pos ≠ s.get GRP_STATUS.PARTNER_POS then s
    else
      let d : Digest := ⟨gJob b, gStep b, gChunk b, slice b 32 16, spareFails, partnerFails⟩
      match s.grp.own.find? d.same with
      | none => { s with grp := { s.grp with theirs := s.grp.theirs ++ [d] } }
      | some x => { s with grp := { s.grp with own := s.grp.own.erase x } }.digestsMeet x d))

/-! ## Takeover (R465, R466) -/

/-- Establish keys for each context pair of the enabled jobs and of the gateway flows (R465). -/
def State.establishAll (s : State) : State :=
  (s.jobsOn ++ [128]).foldl (fun s e => s.peers.foldl (fun s p => s.startRekey e p) s) s

/-- Adopt the receive flow state of the last FLOW message (R465). -/
def State.adoptFlows (s : State) : State :=
  s.grp.flow.foldl (fun s x =>
    let (j, p) := lineFlow x.1
    s.putFlow j p { s.flow j p with cum := x.2.1, nextAsm := x.2.1, ctrlNext := x.2.2.1, ctrlCum := x.2.2.2 }) s

/-- Chunk indices of the present round that a job lacks: contributions to what is owned here, or reduced chunks (R465). -/
def State.lacking (s : State) (r : StepRec) : List Nat :=
  if r.state = 3 ∨ r.state = 6 then (s.ownedIn r r.round).filter (fun c => !r.reduced.contains (chunkId r.round 1 c))
  else if r.state = 4 ∨ r.state = 7 then
    (List.range (r.chunks r.round)).filter (fun c => !r.held.contains (chunkId r.round 1 c))
  else []

/-- Name the chunks that a job lacks in REBUILD messages to every other member of its step (R228, R465). -/
def State.sendRebuild (s : State) (j : Nat) : State :=
  let r := s.stepRec j
  (runs (s.lacking r)).foldl (fun s x =>
    (r.memberList.filter (· ≠ s.localSite)).foldl (fun s m =>
      s.sendControl j m 10 (le 4 r.step ++ le 1 r.round ++ le 2 0 ++ le 4 x.1 ++ le 4 x.2)) s) s

/-- A job that a takeover finds without its state (R65, Table GRP-3). -/
def State.jobStateLost (s : State) (j : Nat) : State :=
  let r := s.stepRec j
  if r.state = 0 then s
  else if s.on JOB_PARAM0.RESYNC_AUTO j && siteCount (setBit (r.reachable &&& s.get JOB_CTRL.SITES j) s.localSite false) != 0 then
    s.enter j 0x13 r
  else
    let (r, s) := s.stepReason r 0x0909
    s.enter j 0x12 r

/-- Send FLOW_RESET on each flow (R229, R465); RESTORE_COUNT is the number of cast-ons (log entry 32). -/
def State.resetFlows (s : State) : State :=
  (s.jobsOn ++ [128]).foldl (fun s j => s.peers.foldl (fun s p =>
    s.sendControl j p 12 (le 4 (s.flow j p).nextCw ++ le 4 (s.get CIPH_SECURITY.BOOT_COUNT))) s) s

/-- Resend every chunk of the present round that is retained (R465). -/
def State.resendRound (s : State) : State :=
  let mine := s.xport.retained.filter (fun x =>
    let r := s.stepRec x.entry
    x.step == r.step && chunkRound x.chunk == r.round)
  mine.foldl (fun s x => s.resendChunk x.entry x.peer x.step x.chunk) s

/-- The spare stands in the position (Table GRP-2). -/
def State.standing (s : State) (reason : Nat) : State :=
  let s := ((s.set GRP_STATUS.SHADOW_STATE 4).addSat GRP_COUNT.TAKEOVERS 1)
  let s := if reason = 0x110C then s.addSat GRP_COUNT.SWAPS 1 else s
  (s.grpLog reason (s.get GRP_STATUS.PARTNER_POS) 0).raise GRP_INT_STATUS.TAKEOVER

/-- A takeover of a position (R465, Table GRP-3), `swap` for a straggler swap. After SHADOWING the spare adopts the flows and
rebuilds; otherwise each job's state is lost and the spare stands at once. -/
def State.takeover (s : State) (pos : Nat) (swap : Bool) : State :=
  let mirrored := s.get GRP_STATUS.SHADOW_STATE == 2 && s.get GRP_STATUS.PARTNER_POS == pos
  let (base, n) := (s.member pos).getD (0, 0)
  let s := ((s.set GRP_ALIAS_EP.BASE base).set GRP_ALIAS_EP.COUNT n)
  let s := (s.set GRP_STATUS.SHADOW_STATE 3).set GRP_STATUS.PARTNER_POS pos
  let s := { s with grp := { s.grp with swap := swap } }
  let s := s.fresh.2.groupOnLinks (s.fresh.1 % 2 ^ 24) s.linksUp { type := 7 }
  let s := (s.peers.foldl (fun s p => s.sendCert p) s).establishAll
  if mirrored then (s.adoptFlows).jobsOn.foldl State.sendRebuild s.adoptFlows
  else ((s.jobsOn.foldl State.jobStateLost s).resetFlows).standing 0x1107

/-- A takeover's trigger (R465, R466): with the spare STANDING or taking over there is none, and the position is lost. -/
def State.takeoverTry (s : State) (pos : Nat) (swap : Bool) : State :=
  if 3 ≤ s.get GRP_STATUS.SHADOW_STATE then (s.grpLog 0x1108 pos 0).raise GRP_INT_STATUS.TAKEOVER
  else s.takeover pos swap

/-- A write of GRP_TAKEOVER.GO (R469). -/
def State.takeoverGo (s : State) (pos : Nat) : Except Nat State :=
  if !s.on GRP_CTRL.ROLE || s.get GRP_STATUS.SHADOW_STATE == 4 || (s.member pos).isNone then .error 0x110E
  else .ok (s.takeoverTry pos false)

/-- FAIL (R460, R465, R466): a member's failure reaches the spare, which takes over under AUTO_TAKEOVER when the member is its
partner or it is OFF; or the spare's failure reaches its partner. -/
def execFail (ep : BitVec 24) (b : Bytes) (s : State) : Host.Outcome State Fault Refusal :=
  .next (s.groupIn ep.toNat 2 b (fun s pos =>
    let s := (s.grpLog 0x1104 pos 0).raise GRP_INT_STATUS.FAIL
    let st := s.get GRP_STATUS.SHADOW_STATE
    if !s.on GRP_CTRL.ROLE then s.unshadow
    else if s.on GRP_CTRL.AUTO_TAKEOVER && decide (pos < s.get GRP_CFG.GROUP_SIZE) &&
        (st == 0 || pos == s.get GRP_STATUS.PARTNER_POS || decide (3 ≤ st)) then s.takeoverTry pos false
    else s))

/-- FAIL_DETECT_EXPIRY (R459, Table GRP-3): no group message from a position for FAIL_DETECT_US. The spare marks it; a shadowed
partner that no longer hears the spare leaves shadowing. -/
def execFailDetectExpiry (pos : Fin 64) (s : State) : Host.Outcome State Fault Refusal :=
  if !s.on GRP_STATUS.READY then .next s
  else if !s.on GRP_CTRL.ROLE then .next s.unshadow
  else if s.get GRP_CFG.GROUP_SIZE ≤ pos.val ∨ (s.get GRP_SILENT.SILENT).testBit pos then .next s
  else
    .next (((s.set GRP_SILENT.SILENT (setBit (s.get GRP_SILENT.SILENT) pos true)).grpLog 0x1102 pos 0).raise
      GRP_INT_STATUS.SILENT)

/-- TAKEOVER_CHUNKS_HELD (R465): the spare holds every chunk owed for the round: FLOW_RESET on each flow, the round's chunks again,
and STANDING. -/
def execTakeoverChunksHeld (s : State) : Host.Outcome State Fault Refusal :=
  if s.get GRP_STATUS.SHADOW_STATE = 3 then .next ((s.resetFlows.resendRound).standing (if s.grp.swap then 0x110C else 0x1106))
  else .next s

/-- REBUILD_NOT_HELD_RECEIVED (R466, Table GRP-3): a peer does not hold a chunk of the taken-over step: the step is
UNRECOVERABLE, then waits for its checkpoint. -/
def execRebuildNotHeldReceived (j : Fin 128) (site : Fin 16) (s : State) : Host.Outcome State Fault Refusal :=
  match s.takeMail j site 11 with
  | none => .next s
  | some (c, s) =>
    if s.get GRP_STATUS.SHADOW_STATE ≠ 3 then .next s
    else
      let s := s.grpLog 0x1109 (s.get GRP_STATUS.PARTNER_POS) (s.flowJob j)
      let s := (s.set GRP_ERR_STEP.STEP (fieldAt c.body 0 4)).set GRP_ERR_STEP.CHUNK_ID (fieldAt c.body 6 4)
      let s := s.unrecoverable j 0x1109
      let s := s.enter j 0x12 (s.stepRec j)
      .next (((s.set GRP_STATUS.SHADOW_STATE 4).addSat GRP_COUNT.TAKEOVERS 1).raise GRP_INT_STATUS.TAKEOVER)

/-! ## Stragglers (R467, R468) -/

/-- Insert into a sorted list. -/
def sortIn (x : Nat) : List Nat → List Nat
  | [] => [x]
  | a :: r => if x ≤ a then x :: a :: r else a :: sortIn x r

/-- The median; between the two middle values of an even number the spec fixes none (log entry 3). -/
def State.median (s : State) (l : List Nat) : Nat × State :=
  let l := l.foldl (fun a x => sortIn x a) []
  let hi := (l.drop (l.length / 2)).headD 0
  if l.length % 2 = 1 then (hi, s)
  else
    let lo := (l.drop (l.length / 2 - 1)).headD 0
    (lo + s.fresh.1 % (hi - lo + 1), s.fresh.2)

/-- One position's work against the median of its step (R467): STRAG_STEPS steps in a row above it nominate the position. -/
def State.strag (s : State) (job median : Nat) (x : Nat × Nat) : State :=
  let above := decide (median * (100 + s.get GRP_STRAG.STRAG_PCT) < 100 * x.2) && decide (median + s.get GRP_STRAG.STRAG_MIN_US < x.2)
  let n := if above then lookupD s.grp.overs (job, x.1) 0 + 1 else 0
  let s := { s with grp := { s.grp with overs := assocPut s.grp.overs (job, x.1) n } }
  if above ∧ s.get GRP_STRAG.STRAG_STEPS ≤ n then
    let s := ((s.set GRP_STRAG_STATUS.NOMINEE x.1).set GRP_STRAG_STATUS.VALID 1).set GRP_STRAG_STATUS.STEPS_OVER (min n 255)
    let s := (s.grpLog 0x110B x.1 job).raise GRP_INT_STATUS.STRAGGLER
    if s.on GRP_CTRL.AUTO_SWAP && s.get GRP_STATUS.SHADOW_STATE == 0 && s.boot.features.testBit 7 then s.shadowBegin x.1 else s
  else s

/-- REPORT (R467): a member's work time of a step. The last of the members' reports gives the median. -/
def execReport (ep : BitVec 24) (b : Bytes) (s : State) : Host.Outcome State Fault Refusal :=
  .next (s.groupIn ep.toNat 6 b (fun s pos =>
    if !s.on GRP_CTRL.ROLE || decide (s.get GRP_CFG.GROUP_SIZE ≤ pos) then s
    else
      let job := gJob b
      let step := gStep b
      let others := s.grp.reports.filter (fun r => !(r.1 == job && r.2.1 == step && r.2.2.1 == pos))
      let all : List (Nat × Nat × Nat × Nat) := others ++ [(job, step, pos, fieldAt b 16 8)]
      let mine := (all.filter (fun r => r.1 == job && r.2.1 == step)).map (fun r => (r.2.2.1, r.2.2.2))
      if mine.length < s.get GRP_CFG.GROUP_SIZE then { s with grp := { s.grp with reports := all } }
      else
        let rest := all.filter (fun r => !(r.1 == job && r.2.1 == step))
        let m := { s with grp := { s.grp with reports := rest } }.median (mine.map (fun (x : Nat × Nat) => x.2))
        mine.foldl (fun (s : State) x => s.strag job m.1 x) (m.2.set GRP_STRAG_STATUS.MEDIAN_US m.1)))

/-- STRAGGLER_SWAP (R468): after one whole step of shadowing the nominee the spare takes over; the relieved gateway stops its line
transmitters. The nomination is the management core's decision. -/
def State.stragglerSwap (s : State) : State :=
  if !s.on GRP_STATUS.READY then s
  else if s.on GRP_CTRL.ROLE then
    if s.on GRP_CTRL.AUTO_SWAP && s.get GRP_STATUS.SHADOW_STATE == 2 && s.on GRP_STRAG_STATUS.VALID &&
        s.get GRP_STATUS.PARTNER_POS == s.get GRP_STRAG_STATUS.NOMINEE && decide (1 ≤ s.grp.shadowSteps) then
      s.takeoverTry (s.get GRP_STATUS.PARTNER_POS) true
    else s
  else if s.grp.shadowed then
    ({ s with grp := { s.grp with shadowed := false, items := [], flowAcked := [] } }.stopLine.grpLog 0x110C s.groupPos 0).raise
      GRP_INT_STATUS.TAKEOVER
  else s

end Sys2Proof.Machine
end

