-- ==== Sys2Proof/Machine/Resend.lean ====
section
/-!
DEFINITION. Machine/Resend.lean: raw resends at the source of a chunk (spec/06_purl_codec.md, R163, R164 and R494).
-/
namespace Sys2Proof.Machine
open Csr

/-- Answer a raw-resend request with RAW_REFUSE (R163). -/
def State.rawRefuse (s : State) (j site : Nat) (req : Bytes) : State := s.sendControl j site 5 (req.take 9 ++ le 2 0x0D10)

/-- The plaintext payload of a retained chunk, where its tag verifies under the slot that sealed it. -/
def State.retainedPlain (s : State) (r : Retained) : Option Bytes :=
  let n := s.readLe (r.addr + 24) 4
  let b := s.readBytes r.addr (80 + n)
  match s.ctx r.ctx with
  | none => none
  | some c =>
    if s.isPoisoned r.addr r.len ∨ !(c.slot r.slot).valid then none
    else gcmOpen (c.slot r.slot).key (slice b 32 12) (b.take 32) (slice b 64 n) (slice b (64 + n) 16)

/-- Header of the raw resend of a chunk: RAW_RESEND set, the payload's new length, the slot and nonce that seal it (R200). -/
def rawHeader (old : Bytes) (len ctx slot salt ctr : Nat) : Bytes :=
  le 1 1 ++ le 1 1 ++ slice old 2 22 ++ le 4 len ++ le 2 ctx ++ le 1 slot ++ slice old 31 1 ++ nonceBytes salt ctr

/-- RAW_RESEND_RECEIVED (R163): the retained chunk is decoded with EMIT_RAW and its raw blocks are sealed and sent in its
place, or the request is refused. `first` is a cluster on which the decode fails while another decodes the chunk (R161). A
request that finds its key slot waiting for the ledger stays in the inbox. -/
def execRawResendReceived (j : Fin 128) (site : Fin 16) (first : Option (Fin 32)) (s : State) : Host.Outcome State Fault Refusal :=
  match s.takeMail j site 4 with
  | none => .next s
  | some (m, t) =>
    let step := fieldAt m.body 0 4
    let chunk := fieldAt m.body 4 4
    let is (r : Retained) : Bool := r.entry == j.val && r.peer == site.val && r.step == step && r.chunk == chunk
    match t.xport.retained.find? is with
    | none => .next (t.rawRefuse j site m.body)
    | some r =>
      let h := t.readBytes r.addr 64
      if !t.on PURL_STATUS.READY ∨ t.purlClusters = [] then .next (t.rawRefuse j site m.body)
      else
        match (t.retainedPlain r).map (decodeChunk (fieldAt h 3 1 % 16) (fieldAt h 20 4)), t.ctx (t.pairTx j site) with
        | some (.ok bs), some c =>
          let raw := bs.flatMap DecBlock.asRaw
          (match t.nonce (t.pairTx j site) raw.length c, t.stageAlloc (80 + raw.length) with
          | .take k n c', some a =>
            let t := match first.filter (fun c => t.purlInService c && t.purlClusters != [c]) with
              | none => t
              | some c => ((t.purlQuarantine c 0x0D0C none).addSat PURL_RESEND_COUNT.REDECODE_OK 1).report 0x0D0C
            let t := t.afterNonce (t.pairTx j site) k c'
            let h' := rawHeader h raw.length (t.pairTx j site) k (c'.slot k).salt n
            let e := gcmSeal (c'.slot k).key (nonceBytes (c'.slot k).salt n) (h'.take 32) raw
            let t := t.writeBytes a (h' ++ zeros 20 ++ e.1 ++ e.2)
            let t := (t.addWrap PURL_DEC_IN.BYTES (fieldAt h 24 4)).addWrap PURL_DEC_OUT.BYTES (bs.flatMap DecBlock.raw).length
            let t := (t.addSat PURL_RESEND_COUNT.SERVED 1).report 0x0D0F
            .next ({ t with xport := { t.xport with
              sealed := t.xport.sealed ++ [(⟨j, site, a, a + 64, t.pairTx j site, k, true, 0⟩ : SealedChunk)] } }.formChunk j site)
          | .refuse _, _ => .next (t.rawRefuse j site m.body)
          | _, _ => .next s)
        | _, _ => .next (t.rawRefuse j site m.body)

end Sys2Proof.Machine
end

