-- ==== Sys2Proof/Machine/Time.lean ====
section
/-!
DEFINITION. Machine/Time.lean: gateway time and its servo (spec/14_time.md, R373 to R388): steps of the counter, offset
samples, holdover, the reference clock, the transmit-timestamp queue and 1PPS. A register write that acts on time is made by
the functions here, which Machine/RegWrites.lean calls.
-/
namespace Sys2Proof.Machine
open Csr

/-! ## The counter (R373, R374, R376) -/

/-- T and its fraction as one number of 2^-40 ns. -/
def State.fullTime (s : State) : Nat := s.now * 2 ^ 40 + s.timeFrac.toNat

/-- Put T and its fraction, modulo 2^64 ns. -/
def State.putTime (s : State) (x : Int) : State :=
  let n := (x % (2 ^ 104 : Nat)).toNat
  { s with timeFrac := BitVec.ofNat 40 n }.set TIME_NOW.NS (n / 2 ^ 40)

/-- One tick of the time clock adds INC to T (R373). -/
def State.timeTick (s : State) : State :=
  { s with time := { s.time with ticks := s.time.ticks + 1 } }.putTime ((s.fullTime + s.get TIME_INC.INC : Nat) : Int)

/-- A step of T (R376): the performance second of each port ends and STEP_COUNT advances. It takes effect in the command that
makes it (log entry 40). -/
def State.timeStep (s : State) (x : Int) : State :=
  (List.range 16).foldl State.perfSecond ((s.putTime x).addWrap TIME_STATUS.STEP_COUNT 1)

/-- A TIME_SET write (R374, R376): T as written, the fraction cleared. -/
def State.timeSet (s : State) (ns : Nat) : State := (s.timeStep ((ns * 2 ^ 40 : Nat) : Int)).set TIME_STATUS.VALID 1

/-- A TIME_STEP write (R376): a signed number of nanoseconds added. -/
def State.timeDelta (s : State) (d : Nat) : State := s.timeStep ((s.fullTime : Int) + toSigned 64 d * 2 ^ 40)

/-! ## The servo (R378, R379) -/

/-- A time fault: logged and reported (Table TIME-3). -/
def State.timeLog (s : State) (reason unit : Nat) : State :=
  (((s.set TIME_ERR_LOG.REASON reason).set TIME_ERR_LOG.UNIT unit).set TIME_ERR_LOG.STEP_NS 0).report reason

/-- The servo's integrator. -/
def State.integ (s : State) : Int := toSigned 32 (s.get TIME_INTEG.INTEG)

/-- Put INC in force: TIME_INC_NOM with an adjustment. -/
def State.putInc (s : State) (adj : Int) : State :=
  s.set TIME_INC.INC (ofSigned 48 ((s.get TIME_INC_NOM.INC : Int) + adj))

/-- Put the servo into a state of Table TIME-1. -/
def State.servo (s : State) (st : Nat) : State := s.set TIME_STATUS.SERVO_STATE st

/-- Enter HOLDOVER for a cause, from ACQUIRE or LOCKED (Table TIME-1). -/
def State.holdover (s : State) (cause : Nat) : State :=
  let st := s.get TIME_STATUS.SERVO_STATE
  if st = 1 ∨ st = 2 then
    let s := { s with time := { s.time with cause := cause, reacquire := false } }
    (((s.servo 3).putInc (-s.integ)).timeLog 0x0E04 0).raise TIME_INT_STATUS.HOLDOVER
  else s

/-- The source in force: FREE while TIME is not ready (text after R389). -/
def State.timeSource (s : State) : Nat := if s.on TIME_STATUS.READY then s.get TIME_CTRL.SOURCE else 0

/-- A change of the source in force (Table TIME-1): FREE takes the servo to FREE, PTP or PPS take FREE to ACQUIRE. -/
def State.sourceUpdate (s : State) : State :=
  let src := s.timeSource
  if src = 0 then (s.servo 0).putInc 0
  else if src < 3 ∧ s.get TIME_STATUS.SERVO_STATE = 0 then
    { s with time := { s.time with outliers := 0, lockN := 0 } }.servo 1
  else s

/-- A value limited to ±`lim`. -/
def clampTo (lim x : Int) : Int := max (-lim) (min lim x)

/-- The servo's update with one sample under the gains of a state (R378), which answers with the adjustment in force; products
with a gain are Q48.32 and the spec does not round them. -/
def State.servoUpdate (s : State) (o : Int) (acquire : Bool) : State :=
  let kp := s.get (if acquire then TIME_SERVO_ACQ.ACQ_KP else TIME_SERVO_GAIN.TRK_KP)
  let ki := s.get (if acquire then TIME_SERVO_ACQ.ACQ_KI else TIME_SERVO_GAIN.TRK_KI)
  let l := s.divOpen (s.get TIME_INC_NOM.INC * s.get TIME_HOLD.ADJ_MAX_PPB : Nat) 1000000000
  let i := l.2.divOpen (ki * o) (2 ^ 32)
  let p := i.2.divOpen (kp * o) (2 ^ 32)
  let s := p.2
  let integ := clampTo l.1 (s.integ + i.1)
  let adj := clampTo l.1 (-p.1 - integ)
  let s := (s.set TIME_INTEG.INTEG (ofSigned 32 integ)).putInc adj
  let s := if adj.natAbs = l.1.natAbs then s.timeLog 0x0E09 0 else s
  { s with time := { s.time with oPred := o } }

/-- The servo locks (R379). -/
def State.servoLocked (s : State) : State := ((s.servo 2).report 0x0E02).raise TIME_INT_STATUS.LOCKED

/-- A sample used in ACQUIRE, without a step: the update, then the count of samples within LOCK_NS (R378). -/
def State.acquireSample (s : State) (o : Int) : State :=
  let s := s.servoUpdate o true
  let n := if o.natAbs ≤ s.get TIME_SERVO_LIMIT.LOCK_NS * 2 ^ 16 then s.time.lockN + 1 else 0
  let s := { s with time := { s.time with lockN := n } }
  if s.get TIME_SERVO_LIMIT.LOCK_COUNT ≤ n then s.servoLocked else s

/-- An outlier in LOCKED: not used, and the last one that OUTLIER_LIMIT allows holds the frequency (R378). -/
def State.outlier (s : State) : State :=
  let n := s.time.outliers + 1
  let s := { s with time := { s.time with outliers := n } }
  if s.get TIME_HOLD.OUTLIER_LIMIT ≤ n then
    ((s.holdover 2).timeLog 0x0E05 0).raise TIME_INT_STATUS.HOLDOVER
  else s

/-- Whether a sample may leave HOLDOVER (Table TIME-1; log entry 41): after REACQUIRE; or after the timeout's cause or the loss
of REFCLK has ended, with REFCLK good. -/
def State.mayLeaveHold (s : State) : Bool :=
  s.time.reacquire || ((s.time.cause == 1 || s.time.cause == 3) && !s.on TIME_STATUS.REF_LOST)

/-- One sample of the source in force, in signed 2^-16 ns (R378, R379). -/
def State.servoSample (s : State) (o : Int) : State :=
  let st := s.get TIME_STATUS.SERVO_STATE
  let stepAt := s.get TIME_SERVO_LIMIT.STEP_NS * 2 ^ 16
  if st = 1 then
    if o.natAbs > stepAt then
      (((s.timeStep ((s.fullTime : Int) - o * 2 ^ 24)).set TIME_STATUS.VALID 1).report 0x0E01).raise TIME_INT_STATUS.STEPPED
    else { s with time := { s.time with outliers := 0 } }.acquireSample o
  else if st = 2 then
    if (o - s.time.oPred).natAbs > s.get TIME_HOLD.OUTLIER_NS * 2 ^ 16 then s.outlier
    else
      let s := { s with time := { s.time with outliers := 0 } }
      if o.natAbs > stepAt then ({ s with time := { s.time with lockN := 0 } }.servo 1).acquireSample o
      else s.servoUpdate o false
  else if st = 3 ∧ s.mayLeaveHold = true then
    let s := { s with time := { s.time with outliers := 0, lockN := 0, reacquire := false, cause := 0 } }.servoUpdate o false
    s.servo (if o.natAbs ≤ s.get TIME_SERVO_LIMIT.LOCK_NS * 2 ^ 16 then 2 else 1)
  else s

/-- An offset sample from a source: recorded, and used where SOURCE selects that source (R378). -/
def State.offsetSample (s : State) (source offset : Nat) : State :=
  let s := s.set TIME_LAST_OFFSET.OFFSET offset
  if s.timeSource = source then s.servoSample (toSigned 64 offset) else s

/-- A TIME_CMD write: HOLD, then REACQUIRE (Table TIME-1). -/
def State.timeHold (s : State) : State := s.holdover 4

/-- A TIME_CMD.REACQUIRE write: the next used sample leaves HOLDOVER (Table TIME-1). -/
def State.timeReacquire (s : State) : State :=
  if s.get TIME_STATUS.SERVO_STATE = 3 then { s with time := { s.time with reacquire := true } } else s

/-- HOLD_TIMEOUT (Table TIME-1): no used sample for HOLD_TIMEOUT_MS. -/
def execHoldTimeout (s : State) : Host.Outcome State Fault Refusal := .next (s.holdover 1)

/-! ## The reference clock and 1PPS (R386, R387) -/

/-- REFCLK_LOST (R386): the time clock moves to the oscillator. -/
def execRefclkLost (s : State) : Host.Outcome State Fault Refusal :=
  .next ((((s.set TIME_STATUS.REF_LOST 1).holdover 3).timeLog 0x0E03 0).raise TIME_INT_STATUS.REF)

/-- REFCLK_RESTORED (R386): REFCLK has been good for 1 s and the time clock moves back. -/
def execRefclkRestored (s : State) : Host.Outcome State Fault Refusal :=
  .next (((s.set TIME_STATUS.REF_LOST 0).report 0x0E0B).raise TIME_INT_STATUS.REF)

/-- A time from the nearest multiple of 10^9 ns; at the middle the spec allows either (R387; log entry 3). -/
def State.fromSecond (s : State) (t : Nat) : Int × State :=
  let r := t % 1000000000
  if r < 500000000 then (r, s)
  else if r = 500000000 then ((if s.fresh.1 % 2 = 0 then 500000000 else -500000000), s.fresh.2)
  else ((r : Int) - 1000000000, s)

/-- A PPS edge outside its window, or missing (R387). -/
def State.ppsBad (s : State) : State := (s.timeLog 0x0E08 0).raise TIME_INT_STATUS.PPS

/-- PPS_IN_EDGE (R387): an edge of PPS_IN, falling or rising. The active one is timestamped, with IN_COMP_NS subtracted, and is
a sample when SOURCE is PPS; under LOCKED one more than 1,000 ns from the sample expected is reported and is an outlier. -/
def execPpsInEdge (falling : Bool) (s : State) : Host.Outcome State Fault Refusal :=
  if falling ≠ s.on TIME_PPS_CFG.IN_FALLING then .next s
  else
    let t := (s.now + 2 ^ 64 - s.get TIME_PPS_CFG.IN_COMP_NS) % 2 ^ 64
    let x := (s.set TIME_PPS_IN.NS t).fromSecond t
    let o := x.1 * 2 ^ 16
    if x.2.timeSource = 2 ∧ x.2.get TIME_STATUS.SERVO_STATE = 2 ∧ (o - x.2.time.oPred).natAbs > 1000 * 2 ^ 16 then
      .next (((x.2.set TIME_LAST_OFFSET.OFFSET (ofSigned 64 o)).ppsBad).outlier)
    else .next (x.2.offsetSample 2 (ofSigned 64 o))

/-- PPS_EDGE_MISSING (R387): an expected edge does not arrive. -/
def execPpsEdgeMissing (s : State) : Host.Outcome State Fault Refusal :=
  if s.timeSource = 2 then .next s.ppsBad else .next s

/-- PPS_OUT_EDGE (R387): the next edge of PPS_OUT: it rises at a multiple of 10^9 ns of T while OUT_EN is 1, and falls
OUT_WIDTH_US later. -/
def execPpsOutEdge (s : State) : Host.Outcome State Fault Refusal :=
  .next { s with time := { s.time with ppsOut := !s.time.ppsOut && s.on TIME_CTRL.OUT_EN } }

/-! ## The transmit-timestamp queue (R384) -/

/-- A read of TIME_TXQ_LO: the oldest entry's first word, with its time latched and the entry removed; VALID = 0 for an empty
queue. -/
def State.txqRead (s : State) : Nat × State :=
  match s.time.txq with
  | [] => (0, s)
  | e :: r =>
    (1 + e.type % 16 * 2 + e.unit % 64 * 32 + e.seqId % 65536 * 65536,
      ({ s with time := { s.time with txq := r } }.set TIME_TXQ_HI.NS e.ns).set TIME_TXQ_STATUS.COUNT r.length)

end Sys2Proof.Machine
end

