-- ==== Sys2Proof/Machine/Faults.lean ====
section
/-!
DEFINITION. Machine/Faults.lean: internal errors of units and what each block does about them (R21 to R28, R43, and the fault
tables of the blocks).
-/
namespace Sys2Proof.Machine
open Csr

/-- The LPDDR5X controllers' panel: 48 channels in panel A, 32 in B, 48 in C (text before R17). -/
def channelPanel (c : Nat) : Nat := if c < 48 then 0 else if c < 80 then 1 else 2

/-- Write the HLTH quarantine record of a unit taken out of service, in its cluster (Table ARCH-6, Table PWR-3). -/
def State.unitOut (s : State) (reason block panel cluster unit : Nat) : State :=
  (s.quarantineCount panel block cluster).health
    { reason := reason, kind := 1, level := 0, block := block, panel := panel, action := 3, cluster := cluster, unit := unit }

/-- Write an HLTH record of a unit's error that is no quarantine. -/
def State.unitRecord (s : State) (reason block panel cluster unit : Nat) : State :=
  s.health { reason := reason, kind := 2, level := 0, block := block, panel := panel, action := 3, cluster := cluster, unit := unit }

/-! ## Lines and schedulers -/

/-- A line port leaves service (Table FRAME-8): its lanes send no alignment words from now on. -/
def State.portLeaves (s : State) (p : Nat) : State :=
  let s := if (s.port p).stopped then s else s.set LINE_CAP.PORTS (s.get LINE_CAP.PORTS - 1)
  s.putPort p { s.port p with stopped := true }

/-- A framer or an interchange stops (Table FRAME-8). -/
def State.framerFault (s : State) (p : Nat) (interchange : Bool) : State :=
  let u := p + (if interchange then 16 else 0)
  let s := ((s.portLeaves p).portLog p 0x0810 0).raisePort PORT_INT_STATUS.UNIT_FAULT p
  (s.unitOut 0x0810 8 2 (u / 8) (u % 8)).capChange 8

/-- SCHED_ERR_LOG and its interrupt. -/
def State.schedLog (s : State) (reason port tenant : Nat) : State :=
  ((((s.set SCHED_ERR_LOG.REASON reason).set SCHED_ERR_LOG.PORT port).set SCHED_ERR_LOG.TENANT_ID tenant).report reason).raise
    SCHED_INT_STATUS.UNIT_FAULT

/-- A port scheduler stops (Table QUE-6): its port leaves service. -/
def State.portSchedulerFault (s : State) (p : Nat) : State :=
  let s := { s with sched := { s.sched with portOut := addOnce s.sched.portOut p } }.portLeaves p
  let s := ((s.set SCHED_CAP.PORT_SCHED (s.get SCHED_CAP.PORT_SCHED - 1)).schedLog 0x0306 p 0).unitRecord 0x0306 3 2 16 p
  s.capChange 3

/-- The tenant scheduler that serves a tenant. -/
def State.schedulerOf (s : State) (t : Nat) : Nat := lookupD s.sched.rebound t t

/-- Whether a tenant has an enabled yarn on some port. -/
def State.tenantEnabled (s : State) (t : Nat) : Bool :=
  (List.range 16).any (fun p => (List.range 80).any (fun y => s.yarnTenant p y == t && s.yarnOn p y))

/-- The lowest-numbered tenant scheduler in service that serves no enabled tenant (Table QUE-6). -/
def State.freeScheduler (s : State) : Option Nat :=
  let busy := ((List.range 256).filter s.tenantEnabled).map s.schedulerOf
  (List.range 256).find? (fun n => !(s.sched.schedOut.contains n) && !(busy.contains n))

/-- A tenant whose scheduler failed is bound to a free one with its tags, or its line queues hold (Table QUE-6). -/
def State.rebindTenant (s : State) (t : Nat) : State :=
  match s.freeScheduler with
  | some n =>
    { s with sched := { s.sched with rebound := assocPut s.sched.rebound t n, tenantOut := s.sched.tenantOut.filter (· ≠ t) } }
  | none => { s with sched := { s.sched with tenantOut := addOnce s.sched.tenantOut t } }.schedLog 0x0307 0 t

/-- Tenants that hold are bound when a scheduler becomes free: an idle tenant's yarns were disabled (Table QUE-6). -/
def State.rebindHeld (s : State) : State :=
  s.sched.tenantOut.foldl (fun s t => if s.freeScheduler.isSome then s.rebindTenant t else s) s

/-- A tenant scheduler stops (Table QUE-6). -/
def State.tenantSchedulerFault (s : State) (n : Nat) : State :=
  let mine := (List.range 256).filter (fun t => s.schedulerOf t == n && s.tenantEnabled t)
  let s := { s with sched := { s.sched with schedOut := addOnce s.sched.schedOut n } }
  let s := s.set SCHED_CAP.TENANT_SCHED (s.get SCHED_CAP.TENANT_SCHED - 1)
  let s := (s.schedLog 0x0306 0 (mine.headD n)).unitRecord 0x0306 3 2 (n / 16) (n % 16)
  mine.foldl (fun s t => s.rebindTenant t) s

/-! ## Queue engines, skein managers, memory -/

/-- A queue engine stops (Table QUE-6): its queues move by R347, and what it fetched and had not dispatched is fetched again. -/
def State.queueEngineFault (s : State) (n : Nat) : State :=
  let mine := (s.hostq.fetched.map (fun f => f.work.queue)).dedup.filter (fun q => s.engineFor q == some n)
  let s := mine.foldl (fun s q => s.discardFetched q) s
  let s := { s with hostq := { s.hostq with enginesOut := addOnce s.hostq.enginesOut n } }
  let s := s.set HOSTQ_CAP.ENGINES (s.get HOSTQ_CAP.ENGINES - 1)
  (((s.queueLog 0x0208 0 0 0).report 0x0208).raise HOSTQ_INT_STATUS.UNIT_FAULT).unitOut 0x0208 2 0 (n / 16) (n % 16)

/-- A skein pool manager stops (Table MEM-6): its pool serves nothing. A bad ring entry is named first. -/
def State.skeinManagerFault (s : State) (p : Nat) (badRing : Bool) : State :=
  let s := s.putPool p { s.pool p with stopped := true }
  let s := if badRing then (s.set SKEIN_ERR_LOG.REASON 0x0409).report 0x0409 else s
  let s := (s.set SKEIN_ERR_LOG.REASON 0x0408).raise SKEIN_INT_STATUS.UNIT_FAULT
  (s.unitOut 0x0408 4 1 0 p).handOver 0x0408

/-- An LPDDR5X channel controller stops (Table MEM-3): every access of its channel is poisoned. -/
def State.channelFault (s : State) (c : Nat) : State :=
  let s := { s with memst := { s.memst with badChannels := addOnce s.memst.badChannels c } }
  let s := ((s.set MEM_ERR_LOG.REASON 0x050C).set MEM_ERR_LOG.CHANNEL c).raise MEM_INT_STATUS.UNIT_FAULT
  (s.unitOut 0x050C 5 (channelPanel c) (c / 8) (c % 8)).handOver 0x050C

/-! ## Fabric and photonics -/

/-- A fabric port engine or arbiter stops, and both links of its cluster leave service (Table FAB-8). -/
def State.fabricPortFault (s : State) (n : Nat) : State :=
  let k := n / 12
  let s := ((s.fabLog 0x0614 0 (2 * k) 0 0).raise FAB_INT_STATUS.UNIT_FAULT).unitOut 0x0614 6 0 k (n % 12)
  ((s.linkWidth (2 * k) 0 0).linkWidth (2 * k + 1) 0 0).capChange 6

/-- A lock-loop controller stops: its link leaves service (Table PHO-5). -/
def State.lockLoopFault (s : State) (l : Nat) : State :=
  let s := { s with pho := { s.pho with stopped := addOnce s.pho.stopped l } }
  let s := ((s.phoLog 0x070F l 0 0 0).raise PHO_INT_STATUS.UNIT_FAULT).unitOut 0x070F 7 0 (l / 11) (l % 11)
  let s := s.set PHO_CAP.CONTROLLERS (s.get PHO_CAP.CONTROLLERS - 1)
  (s.linkWidth l 0 0).capChange 7

/-- The laser-bank controller stops: sources hold their drive and no handover runs (Table PHO-5). -/
def State.laserBankFault (s : State) : State :=
  let s := { s with pho := { s.pho with stopped := addOnce s.pho.stopped 32 } }
  let s := (s.set PHO_CAP.CONTROLLERS (s.get PHO_CAP.CONTROLLERS - 1)).phoLog 0x070F 0 0 0 0
  (s.raise PHO_INT_STATUS.UNIT_FAULT).handOver 0x070F

/-! ## Transport, cipher, time, monitor -/

/-- An erasure coder (0-15) or a transport engine (16-47) stops (R230): its flows pass to the units left, and XPORT_CAP shows
the reduced capacity. Encoders are 0-7 and decoders 8-15 (log entry 42). -/
def State.transportFault (s : State) (u : Nat) : State :=
  let s := { s with xport := { s.xport with stoppedUnits := addOnce s.xport.stoppedUnits u } }
  let out (a n : Nat) : Nat := n - (s.xport.stoppedUnits.filter (fun x => decide (a ≤ x ∧ x < a + n))).length
  let s := ((s.set XPORT_CAP.ENC_IN_SERVICE (out 0 8)).set XPORT_CAP.DEC_IN_SERVICE (out 8 8)).set XPORT_CAP.ENGINES (out 16 32)
  let s := ((s.xportLog 0x0923 0 0 0).set XPORT_ERR_LOG.UNIT u).raise XPORT_INT_STATUS.UNIT_FAULT
  let v := if u < 16 then u else u - 16
  s.unitOut 0x0923 9 2 (if u < 16 then v / 8 else 2 + v / 8) (v % 8)

/-- The ML-KEM engine stops: new establishments are refused, keys run on (Table CIPH-9). -/
def State.kemFault (s : State) : State :=
  let s := ((s.set CIPH_CAP.KEM_OK 0).ciphLog 0x0A12 0 0 0).raise CIPH_INT_STATUS.UNIT_FAULT
  (s.unitRecord 0x0A12 10 1 8 0).handOver 0x0A12

/-- An SLH-DSA engine stops: the other goes on at half rate (Table CIPH-9). -/
def State.slhFault (s : State) (n : Nat) : State :=
  let s := (s.set CIPH_CAP.SLH_ENGINES (s.get CIPH_CAP.SLH_ENGINES - 1)).ciphLog 0x0A12 0 0 0
  (s.raise CIPH_INT_STATUS.UNIT_FAULT).unitRecord 0x0A12 10 1 8 (1 + n)

/-- The SHA-256 engine stops. -/
def State.hashFault (s : State) : State :=
  let s := ((s.set CIPH_CAP.HASH_OK 0).ciphLog 0x0A12 0 0 0).raise CIPH_INT_STATUS.UNIT_FAULT
  s.unitRecord 0x0A12 10 1 8 3

/-- A cipher pipeline stops outside a descriptor (R238). -/
def State.pipelineFault (s : State) (u : Nat) : State :=
  let s := { s with ciph := { s.ciph with stopped := addOnce s.ciph.stopped u } }.pipeCap
  (((s.ciphLog 0x0A11 0 0 0).raise CIPH_INT_STATUS.UNIT_FAULT).unitOut 0x0A11 10 2 (u / 8) (u % 8)).capChange 10

/-- A timestamp unit stops (Table TIME-3): fabric links 0-31, line ports 32-47. -/
def State.timestampFault (s : State) (u : Nat) : State :=
  let s := { s with time := { s.time with unitsOut := addOnce s.time.unitsOut u } }
  ((s.timeLog 0x0E0A u).raise TIME_INT_STATUS.UNIT_FAULT).unitOut 0x0E0A 14 (if u < 32 then 0 else 2) (if u < 32 then u / 8 else 4) (if u < 32 then u % 8 else u - 32)

/-- The two copies of the time counter differ (Table TIME-3): stamping stops, and the module has failed. -/
def State.counterFault (s : State) : State :=
  ({ s with time := { s.time with unitsOut := List.range 48 } }.timeLog 0x0EFF 0).handOver 0x0EFF

/-- A sampling unit stops and the others go on (text after R480). -/
def State.samplerFault (s : State) (u : Nat) : State :=
  let p := { s.pmon with stoppedUnits := addOnce s.pmon.stoppedUnits u, following := assocErase s.pmon.following u }
  let n := 64 - p.stoppedUnits.length
  let s := ({ s with pmon := p }.set PMON_CAP.SAMPLERS n |>.set PMON_ERR_LOG.REASON 0x0F07).set PMON_ERR_LOG.INDEX u
  ((s.report 0x0F07).raise PMON_INT_STATUS.UNIT_FAULT).unitOut 0x0F07 15 1 (u / 16) (u % 16)

/-- The interrupt controller, which has no spare and no cluster, reports its error (R12, Table ARCH-6). -/
def State.interruptsFault (s : State) : State := ((s.report 0x01FF).unitRecord 0x01FF 1 1 0xFFFF 0xFF).capChange 1

/-! ## The array, the stitch units and the codec -/

/-- A column of the bed stops: its group's spare takes its place, or the group leaves service (Table ARCH-6). -/
def State.columnFault (s : State) (g : Nat) (c : Fin 64) : State :=
  ((s.bedLog 0x0BFF g (some c) 0).report 0x0BFF).groupFault 0x0BFF g (some c) none

/-- A stitch unit stops: its cluster is contained as R133 says. -/
def State.stitchFault (s : State) (c : Nat) (u : Fin 8) : State :=
  let load := s.fresh.1 % 101
  let s := ((s.fresh.2.set STCH_ERR_LOG.REASON 0x0CFF).set STCH_ERR_LOG.CLUSTER c).set STCH_ERR_LOG.UNIT u.val
  (s.report 0x0CFF).stchContain c 0x0CFF load ⟨some u, none, 0, 0, false⟩ none

/-- A unit of the codec stops: its cluster is quarantined (Table PURL-6). -/
def State.codecFault (s : State) (c u : Nat) : State :=
  (((s.set PURL_ERR_LOG.REASON 0x0DFF).set PURL_ERR_LOG.CLUSTER c).set PURL_ERR_LOG.ENGINE u).report 0x0DFF |>.purlQuarantine c 0x0DFF none

/-- The sequencer of the bed, with the selvedge, stops: the bed's work is lost to the module (Table BED-5). -/
def State.sequencerFault (s : State) : State := s.bedSwatchFail ⟨[], true⟩ none

/-- A unit stops, and its block acts by its own fault table (R21, R28). -/
def State.unitFault (s : State) (u : UnitName) : State :=
  match u with
  | .framer p x => s.framerFault p x
  | .portScheduler p => s.portSchedulerFault p
  | .tenantScheduler n => if s.sched.schedOut.contains n.val then s else s.tenantSchedulerFault n
  | .queueEngine n => if s.hostq.enginesOut.contains n.val then s else s.queueEngineFault n
  | .skeinManager p b => s.skeinManagerFault p b
  | .channel c => s.channelFault c
  | .fabricPort n => s.fabricPortFault n
  | .fabricTable n => ((s.fabLog 0x0614 0 0 0 0).raise FAB_INT_STATUS.UNIT_FAULT).unitRecord 0x0614 6 0 (16 + n / 8) (n % 8)
  | .lockLoop l => if s.pho.stopped.contains l.val then s else s.lockLoopFault l
  | .laserBank => if s.pho.stopped.contains 32 then s else s.laserBankFault
  | .coder n => s.transportFault n
  | .transport n => s.transportFault (16 + n)
  | .kem => s.kemFault
  | .slh n => s.slhFault n
  | .hash => s.hashFault
  | .pipeline n => if s.pipeOn n then s.pipelineFault n else s
  | .timestamp n => s.timestampFault n
  | .counterCopies => s.counterFault
  | .sampler n => s.samplerFault n
  | .interrupts => s.interruptsFault
  | .sequencer => s.sequencerFault
  | .column g c => if s.groupOn g then s.columnFault g c else s
  | .stitch c u => if s.stchInService c then s.stitchFault c u else s
  | .codec c u => if s.purlInService c then s.codecFault c u else s

/-- UNIT_INTERNAL_ERROR (R21, R28): a unit finds an internal error, stops, and its block acts by its own fault table. -/
def execUnitInternalError (u : UnitName) (s : State) : Host.Outcome State Fault Refusal := .next (s.unitFault u)

/-! ## The second run (R43) -/

/-- The bed's operation with an OP. -/
def bedOpRun (op : Nat) : State → Work → BedRun :=
  match op with
  | 1 => State.projectRun
  | 2 => State.projectTRun
  | 3 => State.backprojectRun
  | 4 => State.orthoRun
  | 5 => State.momentumRun
  | 6 => State.momentumRun
  | 7 => State.scaleRun
  | 8 => State.residualRun
  | _ => State.generateRun

/-- Run a descriptor a second time on the unit that was substituted. -/
def State.secondRun (s : State) (w : Work) (f : RerunFault) : State :=
  let pipe := match f with
    | .pipeline u => some u
    | _ => none
  match w.block % 32 with
  | 10 => if w.body 0 1 = 2 then s.openRun w pipe true else s.sealRun w pipe true
  | 11 => s.bedRun (w.body 0 1) w (bedOpRun (w.body 0 1)) (match f with
      | .bed l => l
      | _ => []) true
  | 12 => s.placeTerm w (match f with
      | .stitch x => some x
      | _ => none) true
  | _ =>
    match f with
    | .encoder c e => if s.purlInService c then s.encFault w c e false else s.purlEncoded w
    | _ => s.purlEncoded w

/-- POISONED_OUTPUT_RERUN (R43): a stage descriptor whose first run ended in poison runs once more. When the second run also
ends in poison the step is UNRECOVERABLE. -/
def execPoisonedOutputRerun (w : Work) (f : RerunFault) (s : State) : Host.Outcome State Fault Refusal :=
  if w ∉ s.rerun then .next s
  else
    let s := { s with rerun := s.rerun.erase w }.secondRun w f
    match s.hostq.finished.getLast?, s.entryOf w.job with
    | some x, some j =>
      if x.work = w ∧ x.res.poisoned ∧ w.block % 32 ≠ 12 then .next (s.unrecoverable j x.res.reason) else .next s
    | _, _ => .next s

end Sys2Proof.Machine
end

