-- ==== Sys2Proof/Machine/Control.lean ====
section
/-!
DEFINITION. Machine/Control.lean: register accesses (spec/00_scope.md R8 to R11, spec/15_host_link_and_control.md R397 to R411),
block enables and their checks (R398 to R400), and what a write of each register does.
-/
namespace Sys2Proof

/-- The number of a master: its interrupt target, and its requester class (R410, Table MEM-4). -/
def Master.num : Master → Nat
  | .host => 0
  | .mgmt => 1
  | .sec => 2

end Sys2Proof
namespace Sys2Proof.Machine
open Csr

/-! ## Finding a register (R9, R397) -/

/-- The element of a register's array at a module address. -/
def Reg.find (r : Reg) (a : Nat) : Option (Nat × Nat) :=
  if a < r.base then none
  else
    let d := a - r.base
    let i := if r.s1 = 0 then 0 else d / r.s1
    let rest := d - i * r.s1
    let j := if r.s2 = 0 then 0 else rest / r.s2
    if rest = j * r.s2 ∧ i < r.n1 ∧ j < r.n2 then some (i, j) else none

/-- A register that an address names, with its indices and its block. -/
structure Hit where
  reg : Reg
  i : Nat
  j : Nat
  block : Nat

/-- The register of a list at an address. -/
def findIn (block a : Nat) : List Reg → Option Hit
  | [] => none
  | r :: l =>
    match r.find a with
    | some (i, j) => some ⟨r, i, j, block⟩
    | none => findIn block a l

/-- The register at an address of the CSR window. -/
def findReg (a : Nat) : Option Hit := findIn (a / 0x100000) a (regsOfBlock (a / 0x100000))

/-! ## Blocks (R398) -/

/-- The CTRL register of a block; its ENABLE is bit 0. -/
def ctrlReg (b : Nat) : Reg :=
  match b with
  | 1 => INTC_CTRL
  | 2 => HOSTQ_CTRL
  | 3 => SCHED_CTRL
  | 4 => SKEIN_CTRL
  | 5 => MEM_CTRL
  | 6 => FAB_CTRL
  | 7 => PHO_CTRL
  | 8 => LINE_CTRL
  | 9 => XPORT_CTRL
  | 10 => CIPH_CTRL
  | 11 => BED_CTRL
  | 12 => STCH_CTRL
  | 13 => PURL_CTRL
  | 14 => TIME_CTRL
  | 15 => PMON_CTRL
  | 16 => HLTH_CTRL
  | _ => GRP_CTRL

/-- The STATUS register of a block; READY is bit 0 and CONFIG_REASON its bits 31:16. -/
def statusReg (b : Nat) : Reg :=
  match b with
  | 1 => INTC_STATUS
  | 2 => HOSTQ_STATUS
  | 3 => SCHED_STATUS
  | 4 => SKEIN_STATUS
  | 5 => MEM_STATUS
  | 6 => FAB_STATUS
  | 7 => PHO_STATUS
  | 8 => LINE_STATUS
  | 9 => XPORT_STATUS
  | 10 => CIPH_STATUS
  | 11 => BED_STATUS
  | 12 => STCH_STATUS
  | 13 => PURL_STATUS
  | 14 => TIME_STATUS
  | 15 => PMON_STATUS
  | 16 => HLTH_STATUS
  | _ => GRP_STATUS

/-- ENABLE of a block. -/
def enableOf (b : Nat) : Field := ⟨ctrlReg b, 0, 1⟩
/-- READY of a block. -/
def readyOf (b : Nat) : Field := ⟨statusReg b, 0, 1⟩
/-- CONFIG_REASON of a block. -/
def configReasonOf (b : Nat) : Field := ⟨statusReg b, 16, 16⟩

/-- A check that refuses: CONFIG_REASON, and CONFIG_REFUSED where the block has it, which LINE has not (R398). -/
def State.blockRefused (s : State) (b reason : Nat) : State :=
  if b = 8 then s.set (configReasonOf 8) reason else s.refuseConfig (configReasonOf b) ⟨(intPair b).2, 0, 1⟩ reason

/-- The HLTH tail that restore brought back goes to the ring (R443). -/
def State.writeTail (s : State) : State :=
  { (s.hlth.restoredTail.foldl State.healthRing s) with hlth := { s.hlth with restoredTail := [] } }

/-- Bandwidth windows start anew (R477). -/
def State.bwRestart (s : State) : State := { s with pmon := { s.pmon with meterTx := [], meterRx := [] } }

/-- Flows start at a new CW_SEQ, whose value the spec leaves open, and send FLOW_RESET (R229; log entry 3). -/
def State.restoreFlows (s : State) : State :=
  let s := (s.jobsOn ++ [128]).foldl (fun (s : State) j => s.peers.foldl (fun (s : State) p =>
    s.fresh.2.putFlow j p { s.flow j p with nextCw := s.fresh.1 % 2 ^ 32 }) s) s
  { s with xport := { s.xport with resetDue := false } }.resetFlows

/-- What a block does as its check passes. -/
def State.blockStart (s : State) (b : Nat) : State :=
  match b with
  | 3 => s.schedInit.lineQueues true
  | 4 => s.skeinInit
  | 8 => (bitsOf (s.get LINE_CTRL.PORT_EN) 16).foldl State.toHunt s
  | 9 => if s.xport.resetDue then s.restoreFlows else s
  | 10 => s.pipeCap.set CIPH_STATUS.KEY_OK 1
  | 11 => s.bedCap.set BED_STATUS.SELVEDGE_OK 1
  | 12 => s.stchCap
  | 13 => s.set PURL_CAP.IN_SERVICE s.purlClusters.length
  | 14 => s.sourceUpdate
  | 15 => s.bwRestart
  | 16 => s.writeTail
  | _ => s

/-- A check that passes: ENABLE and READY, where READY of PHO waits for its rings to lock. -/
def State.blockEnabled (s : State) (b : Nat) : State :=
  let s := s.set (enableOf b) 1
  if b = 7 then s.phoReadyUpdate else ((s.set (readyOf b) 1).blockStart b).intcUpdate

/-- The configuration-consistency check of a block ends (R398); `fails` is what its swatches or self-test find. -/
def State.checkEnd (s : State) (b : Nat) (fails : Bool) : State :=
  if s.ctl.checking.contains b then
    let s := { s with ctl := { s.ctl with checking := s.ctl.checking.filter (· ≠ b) } }
    match firstReason (s.configConditions b fails) with
    | some r => s.blockRefused b r
    | none => s.blockEnabled b
  else s

/-- Whether a descriptor dispatched to a block has not completed. -/
def State.blockBusy (s : State) (b : Nat) : Bool := s.hostq.dispatched.any (fun d => d.work.block % 32 == b)

/-- ENABLE and READY read 0 (R400). -/
def State.blockOff (s : State) (b : Nat) : State :=
  let s := ({ s with ctl := { s.ctl with draining := s.ctl.draining.filter (· ≠ b) } }.set (enableOf b) 0).set (readyOf b) 0
  if b = 3 then s.lineQueues false else if b = 14 then s.sourceUpdate else s.intcUpdate

/-- ENABLE written: a check starts, is abandoned, or a drain starts (R398 to R400). -/
def State.blockEnableWrite (s : State) (b : Nat) (want : Bool) : State :=
  let on := s.on (enableOf b)
  let checking := s.ctl.checking.contains b
  if want then
    if on || checking then s else { s with ctl := { s.ctl with checking := s.ctl.checking ++ [b] } }
  else if checking then { s with ctl := { s.ctl with checking := s.ctl.checking.filter (· ≠ b) } }
  else if on && !s.ctl.draining.contains b then
    if s.blockBusy b then { s with ctl := { s.ctl with draining := s.ctl.draining ++ [b] } } else s.blockOff b
  else s

/-! ## Fields (Table SCOPE-2) -/

/-- What a write leaves in one field. -/
def FieldInfo.put (f : FieldInfo) (i : Nat) (cur v : Word) : Word :=
  let old := getBits cur.toNat f.lo f.w
  let new := getBits v.toNat f.lo f.w
  match f.acc with
  | .rw | .rwl => setBits cur f.lo f.w new
  | .roLow => if 16 ≤ i then setBits cur f.lo f.w new else cur
  | .w1c => setBits cur f.lo f.w (old - (old &&& new))
  | _ => cur

/-- Whether bit 0 of a register is an ENABLE that its rule stores. -/
def ownEnable (r : Reg) (block : Nat) : Bool :=
  (block ≠ 0 && r.base == (ctrlReg block).base) || r.base == Q_CFG.base || r.base == JOB_CTRL.base

/-- The word that a write leaves: each field by its access. -/
def Hit.merge (h : Hit) (old v : Word) : Word :=
  let w := h.reg.flds.foldl (fun c f => f.put h.i c v) old
  if ownEnable h.reg h.block then setBits w 0 1 (getBits old.toNat 0 1) else w

/-- Whether a field is RW-L here. -/
def FieldInfo.lockable (f : FieldInfo) (i : Nat) : Bool := f.acc == .rwl || (f.acc == .roLow && decide (16 ≤ i))

/-- Whether a write changes an RW-L field (R11). -/
def Hit.changesLocked (h : Hit) (old v : Word) : Bool :=
  h.reg.flds.any (fun f => f.lockable h.i && getBits old.toNat f.lo f.w != getBits v.toNat f.lo f.w)

/-- Whether the RW-L fields of a register are locked: by the block's ENABLE or its check (R11, R399), a queue's ENABLE or drain
(R349), a job entry's ENABLE (R232) or a counter's EN (R474). -/
def State.locked (s : State) (h : Hit) : Bool :=
  let a := h.reg.base
  if a ∈ [Q_CFG.base, Q_SQ.base, Q_CQ.base, Q_WB.base, Q_GROUP.base] then s.on Q_CFG.ENABLE h.i || s.on Q_STATUS.DRAINING h.i
  else if a ∈ [JOB_CTRL.base, JOB_SEED.base, JOB_MIRROR.base, JOB_TMAP.base, JOB_CTX.base] then s.on JOB_CTRL.ENABLE h.i
  else if a ∈ [PMON_EVSEL.base, PMON_FILT.base] then s.on PMON_EVSEL.EN h.i
  else h.block != 0 && (s.on (enableOf h.block) || s.ctl.checking.contains h.block)

/-- Whether a register is open to a master (R410). -/
def State.openTo (s : State) (m : Master) (h : Hit) (write : Bool) (v : Nat) : Bool :=
  let a := h.reg.base
  if a ∈ [INTC_CLAIM.base, INTC_COMPLETE.base, INTC_THRESHOLD.base] then m.num == h.i
  else if write && a == INTC_SRC.base then
    m == .sec || (s.get INTC_SRC.TARGET h.i != 2 && getBits v INTC_SRC.TARGET.lo INTC_SRC.TARGET.w != 2)
  else if write && a == TOP_MBOX.base then m == mboxSender h.i
  else true

/-- Whether a write sets a control that Table CAST-4 holds at 0 (R423). -/
def State.heldControl (s : State) (h : Hit) (v : Nat) : Bool :=
  let a := h.reg.base
  let lacks (f : Field) (bit : Nat) : Bool := a == f.reg.base && v.testBit f.lo && !s.boot.features.testBit bit
  lacks XPORT_CODE.CODE_AUTO 3 || lacks PURL_CFG.ADAPT_EN 4 || lacks PHO_CTRL.AUTO_HANDOVER 6

/-! ## What a write does -/

/-- The end of a write: the state, and the reason of an error response with whether it is a violation. -/
structure Wr where
  st : State
  reason : Nat := 0
  viol : Bool := false

/-- A write that is refused with a reason where its operation refuses it. -/
def Wr.of (s : State) : Except Nat State → Wr
  | .ok t => ⟨t, 0, false⟩
  | .error r => ⟨s, r, false⟩

/-- The value that a write gives a field. -/
def Field.of (f : Field) (v : Nat) : Nat := getBits v f.lo f.w

/-- TOP: a change of the ring size resets both pointers (Table HOST-7); a mailbox raises its source (Table HOST-5). -/
def State.topWrite (s0 s : State) (h : Hit) : Wr :=
  let a := h.reg.base
  if a = TOP_VLOG_PTR.base ∧ s0.get TOP_VLOG_PTR.SIZE_LOG2 ≠ s.get TOP_VLOG_PTR.SIZE_LOG2 then
    ⟨(s.set TOP_VLOG_PTR.WR_PTR 0).set TOP_VLOG_PTR.RD_PTR 0, 0, false⟩
  else if a = TOP_MBOX.base then ⟨s.event (1173 + h.i), 0, false⟩
  else ⟨s, 0, false⟩

/-- INTC (R403, R406, R411). -/
def State.intcWrite (s0 s : State) (h : Hit) (v : Nat) : Wr :=
  let a := h.reg.base
  if a = INTC_RAISE.base then Wr.of s (s.intcRaise (INTC_RAISE.SOURCE.of v))
  else if a = INTC_COMPLETE.base then
    match s.intcComplete h.i (INTC_COMPLETE.SOURCE.of v) with
    | .ok t => ⟨t, 0, false⟩
    | .error r => ⟨s.raise INTC_INT_STATUS.BAD_COMPLETE, r, true⟩
  else if a = INTC_SRC.base ∧ reservedSource h.i then ⟨s0, 0, false⟩
  else ⟨s, 0, false⟩

/-- HOSTQ: a queue's ENABLE, unless the gateway keeps the queue for the line (R348, R349). -/
def State.hostqWrite (s0 s : State) (h : Hit) (v : Nat) : Wr :=
  if h.reg.base = Q_CFG.base then
    if s0.inLineRange h.i then ⟨s0, 0x0211, false⟩ else ⟨s.queueEnableWrite h.i (v.testBit 0), 0, false⟩
  else ⟨s, 0, false⟩

/-- SCHED: gate lists (R366, R367), shapers (R363) and policers (R365). -/
def State.schedWrite (s0 s : State) (h : Hit) (v : Nat) : Wr :=
  let a := h.reg.base
  if a = GATE_CTRL.base then
    let w : Wr :=
      if GATE_CTRL.ARM.of v = 1 then
        match s.gateArm h.i with
        | .ok t => ⟨t, 0, false⟩
        | .error r => ⟨s.gateReport h.i r, r, false⟩
      else ⟨s, 0, false⟩
    if GATE_CTRL.CANCEL.of v = 1 then { w with st := w.st.gateCancel h.i } else w
  else if (a = LIST0_ADDR.base ∧ s0.get GATE_CTRL.ACTIVE_LIST h.i = 0 ∨ a = LIST1_ADDR.base ∧ s0.get GATE_CTRL.ACTIVE_LIST h.i = 1) ∧
      s0.on GATE_CTRL.IN_FORCE h.i then
    ⟨s0.gateReport h.i 0x0303, 0x0303, false⟩
  else if a = TENANT_CFG.base ∧ !s0.on TENANT_CFG.SHAPE_EN h.i ∧ s.on TENANT_CFG.SHAPE_EN h.i then
    ⟨s.shaperFull TENANT_BURST.BURST TENANT_BURST.TOKENS h.i, 0, false⟩
  else if a = LQ_CFG.base ∧ !s0.on LQ_CFG.SHAPE_EN h.i ∧ s.on LQ_CFG.SHAPE_EN h.i then
    ⟨s.shaperFull LQ_BURST.BURST LQ_BURST.TOKENS h.i, 0, false⟩
  else if a = POL_CFG.base then
    ⟨{ s with sched := { s.sched with badPolicer := s.sched.badPolicer.filter (· ≠ h.i + 1) } }, 0, false⟩
  else ⟨s, 0, false⟩

/-- FAB (R280). -/
def State.fabWrite (s : State) (h : Hit) (v : Nat) : Wr :=
  if h.reg.base = FAB_EPOCH.base ∧ FAB_EPOCH.ARM.of v = 1 then Wr.of s s.epochArm else ⟨s, 0, false⟩

/-- PHO (R304, R309, R310, R313). -/
def State.phoWrite (s0 s : State) (h : Hit) (v : Nat) : Wr :=
  let a := h.reg.base
  if a = PHO_STEER.base ∧ s0.get PHO_STEER_CTRL.ACTIVE = h.i then ⟨s0, 0x070B, false⟩
  else if a = PHO_STEER_CTRL.base ∧ PHO_STEER_CTRL.ARM.of v = 1 then Wr.of s s.steerArm
  else if a = PHO_TABLE_CMD.base then ⟨s.bankReload v, 0, false⟩
  else if a = PHO_HANDOVER.base ∧ PHO_HANDOVER.GO.of v = 1 then Wr.of s (s.handoverGo (PHO_HANDOVER.POSITION.of v))
  else ⟨s, 0, false⟩

/-- A generation field of a port's pages. -/
def genField (tx : Bool) (page : Nat) : Field :=
  if tx then (if page = 0 then PORT_CM_GEN.TX_GEN0 else PORT_CM_GEN.TX_GEN1)
  else (if page = 0 then PORT_CM_GEN.RX_GEN0 else PORT_CM_GEN.RX_GEN1)

/-- Whether R189 refuses a write: an entry or generation of an active page, the transmit standby page or swap time while a swap
is pending, or a yarn that an active or pending page names. -/
def State.pageRefused (s : State) (h : Hit) (v : Nat) : Bool :=
  let a := h.reg.base
  let p := h.i
  let swap := s.on PORT_CM_CTRL.SWAP_ARM p
  let tx := s.get PORT_CM_CTRL.TX_ACTIVE p
  let rx := s.get PORT_CM_CTRL.RX_ACTIVE p
  let changed (f : Field) : Bool := f.of v != s.get f p
  if a = (txPage tx).base ∨ a = (rxPage rx).base then true
  else if a = (txPage (1 - tx)).base ∨ a = PORT_SWAP_TIME.base then swap
  else if a = PORT_CM_GEN.base then
    changed (genField true tx) || changed (genField false rx) || (swap && changed (genField true (1 - tx)))
  else if a = PORT_YARN.base then
    (List.range 4).any (fun k =>
      let y := 4 * h.j + k
      s.yarnNamed p y && ((s.yarnOn p y && !v.testBit (16 * k + 15)) || s.yarnTenant p y != getBits v (16 * k) 8))
  else false

/-- LINE: page swaps (R188), and tenants that waited for a scheduler as yarns change. -/
def State.lineWrite (s : State) (h : Hit) (v : Nat) : Wr :=
  let a := h.reg.base
  if a = PORT_CM_CTRL.base then
    let w : Wr :=
      if PORT_CM_CTRL.SWAP_ARM.of v = 1 then
        match s.swapArm h.i with
        | .ok t => ⟨t, 0, false⟩
        | .error r => ⟨s.portRefuse h.i r, r, false⟩
      else ⟨s, 0, false⟩
    if PORT_CM_CTRL.SWAP_CANCEL.of v = 1 then { w with st := w.st.swapCancel h.i } else w
  else if a = PORT_YARN.base then ⟨s.rebindHeld, 0, false⟩
  else ⟨s, 0, false⟩

/-- A job entry is enabled: its step record starts in IDLE with all its sites, and its fingerprint is taken (R31, R37, R232; log
entry 48). -/
def State.jobEnable (s : State) (j : Nat) : State :=
  let s := (s.set JOB_CTRL.ENABLE 1 j).set XPORT_STATUS.JOBS_ENABLED (s.get XPORT_STATUS.JOBS_ENABLED + 1)
  let s := s.set JOB_STATUS.FINGERPRINT (s.fingerprint j) j
  let sites := s.get JOB_CTRL.SITES j
  s.enter j 0 { reachable := sites, param0 := (s.rdReg JOB_PARAM0 j).toNat,
                param1 := (s.rdReg JOB_PARAM1 j).toNat, policy := s.get JOB_PARAM0.POLICY j }

/-- ENABLE of a job entry written (R232). -/
def State.jobEnableWrite (s : State) (j : Nat) (want : Bool) : Wr :=
  let now := s.on JOB_CTRL.ENABLE j
  let st := (s.stepRec j).state
  if want && !now then
    match s.jobCheck j with
    | none => ⟨s.jobEnable j, 0, false⟩
    | some r => ⟨(s.set JOB_STATUS.REASON r j).raise XPORT_INT_STATUS.JOB_REFUSED, r, false⟩
  else if !want && now then
    if (1 ≤ st ∧ st ≤ 10) ∨ st = 0x10 ∨ st = 0x11 ∨ st = 0x13 then ⟨s, 0x090F, false⟩
    else ⟨(s.set JOB_CTRL.ENABLE 0 j).set XPORT_STATUS.JOBS_ENABLED (s.get XPORT_STATUS.JOBS_ENABLED - 1), 0, false⟩
  else ⟨s, 0, false⟩

/-- XPORT: the code (Table XPORT-8), the keepalive timer and job parameters (R234), peers, and job entries. -/
def State.xportWrite (s0 s : State) (h : Hit) (v : Nat) : Wr :=
  let a := h.reg.base
  if a = XPORT_CODE.base then
    if badCode (s.get XPORT_CODE.K) (s.get XPORT_CODE.M) (s.get XPORT_CODE.M_MIN) then ⟨s0, 0x0934, false⟩ else ⟨s, 0, false⟩
  else if a = XPORT_TIMERS.base then
    if s.jobsOn.any (fun j => decide (s.get JOB_PARAM1.PART_DETECT_MS j ≤ 4 * s.get XPORT_TIMERS.KEEPALIVE_MS)) then
      ⟨s0, 0x0931, false⟩
    else ⟨s, 0, false⟩
  else if a = PEER_CFG.base then ⟨s.peerUpdate h.i, 0, false⟩
  else if a = JOB_CTRL.base then s.jobEnableWrite h.i (v.testBit 0)
  else if (a = JOB_PARAM0.base ∨ a = JOB_PARAM1.base) ∧ s0.on JOB_CTRL.ENABLE h.i then
    match s.paramCheck h.i with
    | none => ⟨s, 0, false⟩
    | some r => ⟨s0.set JOB_STATUS.REASON r h.i, r, false⟩
  else ⟨s, 0, false⟩

/-- CIPH: the key-mail ring (R256) and the measurement extend (R266). -/
def State.ciphWrite (s : State) (h : Hit) (v : Word) : Wr :=
  let a := h.reg.base
  if a = CIPH_KMO_PTR.base then ⟨s.mailFlush, 0, false⟩
  else if a = CIPH_EXTEND_DATA.base then ⟨s.wrReg CIPH_EXTEND_DATA v h.i, 0, false⟩
  else if a = CIPH_EXTEND_CMD.base ∧ CIPH_EXTEND_CMD.GO.of v.toNat = 1 then Wr.of s (s.extendCmd (CIPH_EXTEND_CMD.REGISTER.of v.toNat))
  else ⟨s, 0, false⟩

/-- BED: a forced substitution, at once where no descriptor is in progress (R115, Table BED-13). -/
def State.bedWrite (s : State) (h : Hit) (v : Nat) : Wr :=
  if h.reg.base = BED_SUBST.base ∧ BED_SUBST.GO.of v = 1 then
    match s.bedSubst (BED_SUBST.GROUP.of v) (BED_SUBST.COLUMN.of v) with
    | .ok t => ⟨if t.blockBusy 11 then t else t.bedBoundary, 0, false⟩
    | .error r => ⟨s.set BED_ERR_LOG.REASON r, r, false⟩
  else ⟨s, 0, false⟩

/-- Whether a requalification passes every vector at both rails: what the units find is not the spec's to state (log entry 3). -/
def State.requalPass (s : State) : Bool × State := (s.fresh.1 % 2 == 1, s.fresh.2)

/-- Whether R451 refuses a requalification: the cluster had been quarantined once before. -/
def State.requalBarred (s : State) (block c : Nat) : Bool := decide (1 < (s.hlth.quarantined.filter (· == (block, c))).length)

/-- STCH: a forced substitution, and a requalification (R133, R134, R451). -/
def State.stchWrite (s : State) (h : Hit) (v : Nat) : Wr :=
  let c := STCH_SUBST.CLUSTER.of v
  if h.reg.base = STCH_SUBST.base then
    let w : Wr :=
      if STCH_SUBST.GO.of v = 1 then
        match s.stchSubst c with
        | .ok t => ⟨t, 0, false⟩
        | .error r => ⟨s.stchSubstRefused c, r, false⟩
      else ⟨s, 0, false⟩
    if STCH_SUBST.REQUAL.of v = 1 then
      let p := w.st.requalPass
      let r := if p.2.requalBarred 12 c then 0x1014 else w.reason
      ⟨p.2.stchRequal c p.1, r, false⟩
    else w
  else ⟨s, 0, false⟩

/-- PURL: a forced substitution, and a requalification (R165, R451). -/
def State.purlWrite (s : State) (h : Hit) (v : Nat) : Wr :=
  let c := PURL_SUBST.CLUSTER.of v
  if h.reg.base = PURL_SUBST.base then
    let w : Wr :=
      if PURL_SUBST.GO.of v = 1 then
        match s.purlSubst c with
        | .ok t => ⟨t, 0, false⟩
        | .error r => ⟨(s.set PURL_ERR_LOG.REASON r).set PURL_ERR_LOG.CLUSTER c, r, false⟩
      else ⟨s, 0, false⟩
    if PURL_SUBST.REQUAL.of v = 1 then
      let p := w.st.requalPass
      let r := if p.2.requalBarred 13 c then 0x1014 else w.reason
      ⟨p.2.purlRequal c p.1, r, false⟩
    else w
  else ⟨s, 0, false⟩

/-- TIME: steps, samples and commands of the servo (R374 to R380). -/
def State.timeWrite (s0 s : State) (h : Hit) (v : Nat) : Wr :=
  let a := h.reg.base
  let done (t : State) : Wr := ⟨t, 0, false⟩
  if a = TIME_CTRL.base then done s.sourceUpdate
  else if a = TIME_SET.base then done (s.timeSet v)
  else if a = TIME_STEP.base then done (s.timeDelta v)
  else if a = TIME_OFFSET.base then done (s.offsetSample 1 v)
  else if a = TIME_CMD.base then
    let t := if TIME_CMD.HOLD.of v = 1 then s.timeHold else s
    done (if TIME_CMD.REACQUIRE.of v = 1 then t.timeReacquire else t)
  else if a = TIME_INC_NOM.base then done (s.putInc 0)
  else if a = TIME_INTEG.base ∧ s0.get TIME_STATUS.SERVO_STATE ∈ [1, 2] then done s0
  else done s

/-- Log a fault of the performance monitor. -/
def State.pmonLog (s : State) (reason index : Nat) : State := (s.set PMON_ERR_LOG.REASON reason).set PMON_ERR_LOG.INDEX index

/-- PMON: counters (R474), snapshots (R475, R476), windows (R477) and sampling units (text after Table PMON-5). -/
def State.pmonWrite (s0 s : State) (h : Hit) (v : Nat) : Wr :=
  let a := h.reg.base
  if a = PMON_EVSEL.base ∧ !s0.on PMON_EVSEL.EN h.i ∧ s.on PMON_EVSEL.EN h.i ∧
      !pmonEventOk (s.get PMON_EVSEL.EVENT h.i) (s.on PMON_EVSEL.MODE h.i) then
    ⟨s0.pmonLog 0x0F01 h.i, 0x0F01, false⟩
  else if a = PMON_SNAP.base then
    let s := if s.on PMON_SNAP.HOLD then s else { s with pmon := { s.pmon with latched := [] } }
    ⟨if PMON_SNAP.GO.of v = 1 then { s with pmon := { s.pmon with snapDue := true } }.set PMON_SNAP.GO 1 else s, 0, false⟩
  else if a = PMON_BW_WINDOW.base then
    ⟨(List.range 48).foldl (fun s k => s.wrReg PMON_BW_PEAK 0 k) s.bwRestart, 0, false⟩
  else if a = SAMP_CFG.base ∧ !s0.on SAMP_CFG.EN h.i ∧ s.on SAMP_CFG.EN h.i then
    if s.badRing h.i then ⟨(s.set SAMP_CFG.EN 0 h.i).pmonLog 0x0F22 h.i, 0, false⟩
    else
      ⟨{ s with pmon := { s.pmon with
          sampleSeq := assocErase s.pmon.sampleSeq h.i, matched := assocErase s.pmon.matched h.i } }, 0, false⟩
  else ⟨s, 0, false⟩

/-- HOLDUP_OK: the capacitor holds 54.0 V and its last measurement is not below CAP_MIN_UF (R437). -/
def State.holdupUpdate (s : State) : State :=
  s.set HLTH_STATUS.HOLDUP_OK (b2n (s.hlth.pwrGood && decide (54000 ≤ s.get HLTH_HOLDUP.VCAP_MV) &&
    decide (s.get HLTH_HOLDUP.CAP_MIN_UF ≤ s.get HLTH_HOLDUP.CAP_UF)))

/-- HLTH: the log ring, the least capacitance, and a live update, which `upd` begins (R437, R450, R452). -/
def State.hlthWrite (upd : State → State) (s0 s : State) (h : Hit) (v : Nat) : Wr :=
  let a := h.reg.base
  if a = HLTH_QLOG_PTR.base ∧ s0.get HLTH_QLOG_PTR.SIZE_LOG2 ≠ s.get HLTH_QLOG_PTR.SIZE_LOG2 then
    ⟨(s.set HLTH_QLOG_PTR.WR_PTR 0).set HLTH_QLOG_PTR.RD_PTR 0, 0, false⟩
  else if a = HLTH_HOLDUP.base then ⟨s.holdupUpdate, 0, false⟩
  else if a = HLTH_UPDATE.base ∧ HLTH_UPDATE.GO.of v = 1 then ⟨upd s, 0, false⟩
  else ⟨s, 0, false⟩

/-- A request of the spare that is refused: its log and status (Table GRP-6). -/
def State.grpRefused (s : State) (reason pos : Nat) : Wr :=
  ⟨if reason = 0x110E then (s.grpLog reason pos 0).raise GRP_INT_STATUS.SHADOW else s, reason, false⟩

/-- GRP: shadowing and takeover (R461, R465). -/
def State.grpWrite (s : State) (h : Hit) (v : Nat) : Wr :=
  let a := h.reg.base
  if a = GRP_SHADOW.base then
    let pos := GRP_SHADOW.POSITION.of v
    let s := if GRP_SHADOW.STOP.of v = 1 then s.shadowStop else s
    if GRP_SHADOW.GO.of v = 1 then
      match s.shadowGo pos with
      | .ok t => ⟨t, 0, false⟩
      | .error r => s.grpRefused r pos
    else ⟨s, 0, false⟩
  else if a = GRP_TAKEOVER.base ∧ GRP_TAKEOVER.GO.of v = 1 then
    let pos := GRP_TAKEOVER.POSITION.of v
    match s.takeoverGo pos with
    | .ok t => ⟨t, 0, false⟩
    | .error r => s.grpRefused r pos
  else ⟨s, 0, false⟩

/-- What a write does beyond its fields; `s0` is the state before it and `s` has the fields stored. -/
def State.writeEffect (upd : State → State) (s0 s : State) (h : Hit) (v : Word) : Wr :=
  let n := v.toNat
  match h.block with
  | 0 => s0.topWrite s h
  | 1 => s0.intcWrite s h n
  | 2 => s0.hostqWrite s h n
  | 3 => s0.schedWrite s h n
  | 6 => s.fabWrite h n
  | 7 => s0.phoWrite s h n
  | 8 => s.lineWrite h n
  | 9 => s0.xportWrite s h n
  | 10 => s.ciphWrite h v
  | 11 => s.bedWrite h n
  | 12 => s.stchWrite h n
  | 13 => s.purlWrite h n
  | 14 => s0.timeWrite s h n
  | 15 => s0.pmonWrite s h n
  | 16 => s0.hlthWrite upd s h n
  | 17 => s.grpWrite h n
  | _ => ⟨s, 0, false⟩

/-- A write that its checks have passed: the fields, the block's ENABLE, and what the register does. -/
def State.storeWord (upd : State → State) (s : State) (h : Hit) (v : Word) : Wr :=
  let t := s.wrReg h.reg (h.merge (s.rdReg h.reg h.i h.j) v) h.i h.j
  let t := if h.block ≠ 0 ∧ h.reg.base = (ctrlReg h.block).base then t.blockEnableWrite h.block (v.getLsbD 0) else t
  s.writeEffect upd t h v

/-- The checks of a write, in order: cast-on (R417), ownership (R410), the RW-L lock (R11), features (R423) and pages (R189). -/
def State.writeCheck (s : State) (m : Master) (h : Hit) (v : Word) : Option Wr :=
  if m = .host ∧ h.block ≠ 0 ∧ h.block ≠ 1 ∧ s.get TOP_STATE.CAST_PHASE ≠ 0x0B then some ⟨s, 0x0056, false⟩
  else if !s.openTo m h true v.toNat then some ⟨s, 0x0005, true⟩
  else if s.locked h ∧ h.changesLocked (s.rdReg h.reg h.i h.j) v then some ⟨s, 0x0003, true⟩
  else if s.heldControl h v.toNat then some ⟨s, 0x0048, false⟩
  else if h.block = 8 ∧ s.pageRefused h v.toNat then some ⟨s.portRefuse h.i 0x080C, 0x080C, true⟩
  else none

/-- The violation of a register access (Table HOST-4). -/
def State.csrViolation (s : State) (m : Master) (reason a detail : Nat) : State :=
  let block := if a / 0x100000 < 18 then a / 0x100000 else 0
  s.violation { reason := reason, origin := if m = .host then 0 else 5, cls := m.num, block := block, addr := a, detail := detail }

/-- Doorbell pages (R397, R353), written by a register access. -/
def inDoorbells (a : Nat) : Bool := decide (0x10000000 ≤ a ∧ a < 0x12000000)

/-- What a write to an address does. -/
def State.writeAt (upd : State → State) (s : State) (m : Master) (a : Nat) (v : Word) : Wr :=
  if inDoorbells a then
    let b : Bell := ⟨(a - 0x10000000) / 0x1000, a, v.toNat, none⟩
    if a % 0x1000 = 0 then ⟨s.sqTailBell b, 0, false⟩
    else if a % 0x1000 = 8 then ⟨s.cqDoorBell b, 0, false⟩
    else ⟨s, 0x0004, true⟩
  else
    match findReg a with
    | none => ⟨s, 0x0002, true⟩
    | some h => (s.writeCheck m h v).getD (s.storeWord upd h v)

/-- A register write of 8 bytes at an aligned address, and its answer (R394, R397). While bind-off runs or has ended, nothing
answers (R440). -/
def State.csrWriteWith (upd : State → State) (s : State) (m : Master) (tag a : Nat) (v : Word) : State :=
  if s.hlth.bindingOff then s
  else
    let w := s.writeAt upd m a v
    let t := if w.viol then w.st.csrViolation m w.reason a v.toNat else w.st
    (t.intcUpdate).respond m tag (if w.reason = 0 then 0 else 1) w.reason []

/-! ## Reads -/

/-- The registers that a snapshot latches (R476). -/
def latchedRegs : List Nat :=
  [BED_MAC_COUNT.base, STCH_ADD_COUNT.base, PURL_ENC_IN.base, PURL_ENC_OUT.base, PURL_DEC_IN.base, PURL_DEC_OUT.base,
   PURL_BLOCK_COUNT.base, PORT_PM_EF.base, PORT_PM_ES_SES.base, PORT_PM_UAS.base, PORT_FAR_EF.base, FAB_LINK_COUNT.base,
   Q_COUNT.base, POL_GREEN.base, TOP_VIOL_COUNT.base]

/-- What a read of an RC field leaves: a peak restarts at the present value, every other clears (Table SCOPE-2). -/
def State.rcRest (s : State) (h : Hit) (f : FieldInfo) : Nat :=
  let a := h.reg.base
  if a = POOL_STATUS.base then s.get POOL_STATUS.FREE h.i
  else if a = CLASS_USE.base then s.get CLASS_USE.USE h.i h.j
  else if a = STCH_SLOT_STATUS.base then s.get STCH_SLOT_STATUS.OPEN
  else if a = XPORT_PEAK.base then
    (if f.lo = XPORT_PEAK.RETAIN_PEAK_MIB.lo then s.get XPORT_USAGE.RETAIN_MIB else s.get XPORT_USAGE.SPILL_MIB)
  else 0

/-- Registers that follow other state rather than hold a value of their own. -/
def State.derived (s : State) (h : Hit) (w : Word) : Word :=
  let a := h.reg.base
  if a = INTC_HOST_MSG.base then BitVec.ofNat 64 (s.get TOP_MYK_CFG.MSG_DATA)
  else if a = INTC_PENDING.base then BitVec.ofNat 64 (s.pendingWord h.i)
  else if a = INTC_RUNNING.base then BitVec.ofNat 64 (s.running h.i)
  else if a = INTC_SRC.base then
    if reservedSource h.i then 0
    else
      let w := setBits w INTC_SRC.PENDING.lo 1 (b2n (s.isPending h.i))
      setBits w INTC_SRC.ACTIVE.lo 1 (b2n (s.isActive h.i))
  else if a = LINE_INT_STATUS.base then BitVec.ofNat 64 s.lineIntStatus
  else if a = FAB_CAP.base ∧ !s.on PHO_STATUS.READY then setBits w FAB_CAP.LANES.lo FAB_CAP.LANES.w 0
  else if a ∈ latchedRegs ∧ s.on PMON_SNAP.HOLD then
    let x := lookupD s.pmon.latched (h.reg.addr h.i h.j) 0
    h.reg.flds.foldl (fun w f => if f.acc = .ro then setBits w f.lo f.w (getBits x.toNat f.lo f.w) else w) w
  else w

/-- The value of a register as a read returns it. -/
def State.readValue (s : State) (h : Hit) : Word :=
  let w := s.derived h (s.rdReg h.reg h.i h.j)
  h.reg.flds.foldl (fun w f => if f.acc = .wo then setBits w f.lo f.w 0 else w) w

/-- A read of a register: its value, and its RC fields cleared (Table SCOPE-2, R374, R384, R405). -/
def State.regRead (s : State) (h : Hit) : Word × State :=
  let a := h.reg.base
  if a = INTC_CLAIM.base then (BitVec.ofNat 64 (s.intcClaim h.i).1, (s.intcClaim h.i).2)
  else if a = TIME_TXQ_LO.base then (BitVec.ofNat 64 s.txqRead.1, s.txqRead.2)
  else if a = TIME_NOW.base then (s.readValue h, s.set TIME_NOW_FRAC.FRAC s.timeFrac.toNat)
  else
    let rc := h.reg.flds.filter (fun f => f.acc == .rc)
    (s.readValue h,
      if rc.isEmpty then s
      else s.wrReg h.reg (rc.foldl (fun w f => setBits w f.lo f.w (s.rcRest h f)) (s.rdReg h.reg h.i h.j)) h.i h.j)

/-- What a read of an address returns. -/
def State.readAt (s : State) (m : Master) (a : Nat) : Except Nat (Word × State) :=
  if inDoorbells a then (if a % 0x1000 = 0 ∨ a % 0x1000 = 8 then .ok (0, s) else .error 0x0004)
  else
    match findReg a with
    | none => .error 0x0002
    | some h => if s.openTo m h false 0 then .ok (s.regRead h) else .error 0x0005

/-- A refused read: a violation, and an error response with all ones as data (R394). -/
def State.readRefused (s : State) (m : Master) (tag a reason : Nat) : State :=
  (s.csrViolation m reason a 0).respond m tag 1 reason (List.replicate 8 0xFF)

/-- A register read of 8 bytes at an aligned address, and its answer (R394, R397). -/
def State.csrRead (s : State) (m : Master) (tag a : Nat) : State :=
  if s.hlth.bindingOff then s
  else
    match s.readAt m a with
    | .ok (w, t) => t.respond m tag 0 0 (le 8 w.toNat)
    | .error r => s.readRefused m tag a r

/-! ## Access messages (R8, R392) -/

/-- A CSR_RD message of the host, or a core's read: malformed, misaligned or of a wrong size, or answered. -/
def State.readMsg (s : State) (m : Master) (msg : MykMsg) : State :=
  if s.hlth.bindingOff then s
  else if m = .host ∧ (msg.type ≠ 3 ∨ msg.len ≠ 0 ∨ msg.payload ≠ []) then s.badMessage
  else if msg.addr % 8 ≠ 0 ∨ (m ≠ .host ∧ msg.len ≠ 8) then s.readRefused m msg.tag msg.addr 0x0001
  else s.csrRead m msg.tag msg.addr

/-- A CSR_WR message of the host, or a core's write. -/
def State.writeMsg (upd : State → State) (s : State) (m : Master) (msg : MykMsg) : State :=
  if s.hlth.bindingOff then s
  else if m = .host ∧ (msg.type ≠ 4 ∨ msg.len ≠ 8 ∨ msg.payload.length ≠ 8) then s.badMessage
  else if msg.addr % 8 ≠ 0 ∨ msg.len ≠ 8 then
    (s.csrViolation m 0x0001 msg.addr (leVal msg.payload)).respond m msg.tag 1 0x0001 []
  else s.csrWriteWith upd m msg.tag msg.addr (BitVec.ofNat 64 (leVal msg.payload))

end Sys2Proof.Machine
end

