-- ==== Sys2Proof/Machine/Power.lean ====
section
/-!
DEFINITION. Machine/Power.lean: resets, the input supervisor, the hold-up capacitor, bind-off, the power cap, gauges, margin plans and
temperature (spec/17_power_and_health.md R435 to R451, spec/20_module_reference.md R485 to R491).
-/
namespace Sys2Proof
open Machine

/-- The object in one of two banks. -/
def Banks.get (b : Banks) (i : Bool) : Option SignedObj := if i then b.bank1 else b.bank0

/-- Replace the object in one of two banks. -/
def Banks.put (b : Banks) (i : Bool) (o : Option SignedObj) : Banks := if i then { b with bank1 := o } else { b with bank0 := o }

end Sys2Proof
namespace Sys2Proof.Machine
open Csr

/-! ## The persistence store's critical-state slots (R441, R443) -/

/-- A critical-state slot. -/
def StoreSt.slot (k : StoreSt) (i : Bool) : Option CritImage := if i then k.slot1 else k.slot0

/-- Replace a critical-state slot. -/
def StoreSt.putSlot (k : StoreSt) (i : Bool) (x : Option CritImage) : StoreSt :=
  if i then { k with slot1 := x } else { k with slot0 := x }

/-- The slot with the newest valid image. -/
def StoreSt.newest (k : StoreSt) : Option Bool :=
  match k.slot0, k.slot1 with
  | none, none => none
  | some _, none => some false
  | none, some _ => some true
  | some a, some b => some (decide (a.seq < b.seq))

/-- Sequence number of the newest valid image, 0 for none. -/
def StoreSt.newestSeq (k : StoreSt) : Nat := max ((k.slot0.map (·.seq)).getD 0) ((k.slot1.map (·.seq)).getD 0)

/-- HLTH_CS names the newest valid slot (Table PWR-7). -/
def State.csUpdate (s : State) : State :=
  match s.keep.newest with
  | none => s.wrReg HLTH_CS 0
  | some i =>
    let x := s.keep.slot i
    (((s.set HLTH_CS.SEQ s.keep.newestSeq).set HLTH_CS.VALID 1).set HLTH_CS.CONSUMED (b2n (x.any (·.consumed)))).set HLTH_CS.SLOT (b2n i)

/-! ## Reset (R415, R485, R486) -/

/-- Fields, with how many there are of each, that a reset of the module leaves: what the supervisor measures, counts kept since
manufacture, and the die's repair map (Table PWR-7, R24, R435; log entry 50). -/
def keptFields : List (Field × Nat) :=
  [(HLTH_INPUT.VIN_MV, 1), (HLTH_INPUT.IIN_CA, 1), (HLTH_INPUT.PIN_W, 1), (HLTH_INPUT.PEAK_W, 1), (HLTH_HOLDUP.VCAP_MV, 1),
   (HLTH_HOLDUP.CAP_UF, 1), (HLTH_STATUS.INPUT_WARN, 1), (HLTH_STATUS.HOLDUP_OK, 1), (HLTH_COUNT.BINDOFFS, 1),
   (HLTH_LAST_BINDOFF.REASON, 1), (HLTH_LAST_BINDOFF.DURATION_MS, 1), (HLTH_LAST_BINDOFF.IMAGE_MIB, 1),
   (HLTH_LAST_BINDOFF.VCAP_END_MV, 1), (HLTH_PANEL_RATE.RATE, 3), (HLTH_PANEL_RATE.TEMP, 3), (HLTH_PANEL_RAIL.MEASURED_MV, 3),
   (HLTH_PANEL_RAIL.BAND, 3), (HLTH_GAUGE.QUARANTINED, 512), (CIPH_SECURITY.BOOT_COUNT, 1), (BED_GROUP_MAP.SUBST_VALID, 8),
   (BED_GROUP_MAP.SUBST_COLUMN, 8), (BED_GROUP_MAP.OUT_OF_SERVICE, 8), (STCH_PANEL_MAP.QUARANTINED, 3),
   (STCH_PANEL_MAP.SPARE_QUARANTINED, 3), (STCH_PANEL_MAP.SPARE_FOR, 3), (STCH_PANEL_MAP.OUT_OF_SERVICE, 3),
   (STCH_CAP.SPARE_FREE, 1), (PURL_QUAR.QUARANTINED, 1), (PURL_QUAR.OUT_OF_SERVICE, 1), (PURL_SPARE.SPARE0_FOR, 1),
   (PURL_SPARE.SPARE1_FOR, 1), (PURL_SPARE.SPARE_QUARANTINED, 1), (PURL_CAP.SPARE_FREE, 1), (MEM_REPAIR.LPDDR_PENDING, 1),
   (MEM_REPAIR.SRAM_PENDING, 1), (MEM_DEV.PENDING, 16)]

/-- Copy fields of another state. -/
def State.copyFields (t s : State) (l : List (Field × Nat)) : State :=
  l.foldl (fun t f => (List.range f.2).foldl (fun t i => t.set f.1 (s.get f.1 i) i) t) t

/-- Each ledger write under way has become durable or has not (R441; log entry 3). -/
def State.settleLedger (s : State) : State :=
  s.ciph.ledger.foldl (fun s l =>
    match l.writing with
    | none => s.putLedger { l with failed := false }
    | some h => s.fresh.2.putLedger { l with h := if s.fresh.1 % 2 = 1 then h else l.h, writing := none, failed := false }) s

/-- The module is reset: all but the persistence store, the supervisor, the repair map and the host's memory starts anew (R415,
R424, R485; log entry 50). `more` names further fields that are left. -/
def State.moduleReset (s : State) (more : List (Field × Nat)) : State :=
  let s := s.settleLedger
  let h := s.hlth
  let t : State := {
    pending := s.pending
    mem := s.mem.filter (fun c => decide (hostBase ≤ c.1))
    poison := s.poison.filter (fun a => decide (hostBase ≤ a))
    out := s.out
    freeCtr := s.freeCtr
    keep := s.keep
    memst := { sramPending := s.memst.sramPending, lpddrPending := s.memst.lpddrPending }
    ciph := { ledger := s.ciph.ledger }
    hlth := { logSeq := h.logSeq, quarantined := h.quarantined, bindingOff := h.bindingOff, savedSlot := h.savedSlot
              committing := h.committing, pwrGood := h.pwrGood, resetHigh := h.resetHigh, chargeLate := h.chargeLate
              castCut := h.castCut, jtag := h.jtag } }
  (t.copyFields s (keptFields ++ more)).csUpdate

/-! ## Reports of HLTH -/

/-- HLTH_ERR_LOG, a report and an interrupt of HLTH (Table PWR-7). -/
def State.hlthReport (s : State) (reason : Nat) (f : Field) : State := ((s.set HLTH_ERR_LOG.REASON reason).report reason).raise f

/-- The same for a panel and a gauge. -/
def State.panelReport (s : State) (reason p g : Nat) (f : Field) : State :=
  ((s.set HLTH_ERR_LOG.PANEL p).set HLTH_ERR_LOG.GAUGE g).hlthReport reason f

/-! ## Cast-on begins (R415, R445) -/

/-- Rail in mV that the plan in force gives a panel in a band. -/
def State.plan (s : State) (p b : Nat) : Nat := lookupD s.keep.plans (p, b) (Config.factoryPlan p b).toNat

/-- BAND_MV of a band. -/
def planField (b : Nat) : Field := ⟨HLTH_PANEL_PLAN, 10 * b, 10⟩

/-- The plans of the store reach their registers, and each panel its rail (R445). -/
def State.loadPlans (s : State) : State :=
  (List.range 3).foldl (fun s p =>
    let s := (List.range 6).foldl (fun s b => s.set (planField b) (s.plan p b) p) s
    s.set HLTH_PANEL_RAIL.TARGET_MV (s.plan p (s.get HLTH_PANEL_RAIL.BAND p)) p) s

/-- Cast-on begins at ROM (R415). -/
def State.castStart (s : State) : State :=
  let s := ((s.set TOP_STATE.CAST_PHASE 1).addWrap CIPH_SECURITY.BOOT_COUNT 1).loadPlans
  if s.hlth.castCut then
    ({ s with hlth := { s.hlth with castCut := false } }.report 0x0057).health { reason := 0x0057, kind := 6, level := 4 }
  else s

/-- Cast-on begins where the rails are in regulation, RESET_N is released and no bind-off holds the module. -/
def State.castTry (s : State) : State :=
  if s.hlth.pwrGood && s.hlth.resetHigh && !s.hlth.bindingOff && s.get TOP_STATE.CAST_PHASE == 0 then s.castStart else s

/-- RESET_N_RELEASE (R415). -/
def execResetNRelease (s : State) : Host.Outcome State Fault Refusal :=
  .next { s with hlth := { s.hlth with resetHigh := true } }.castTry

/-- RESET_N_ASSERT (R415, R439, R486): outside bind-off the module stops at once and saves nothing. -/
def execResetNAssert (s : State) : Host.Outcome State Fault Refusal :=
  let s := { s with hlth := { s.hlth with resetHigh := false } }
  if s.hlth.bindingOff || !s.hlth.pwrGood then .next s
  else
    let ph := s.get TOP_STATE.CAST_PHASE
    let cut := s.hlth.castCut || decide (1 ≤ ph ∧ ph ≤ 0x0A)
    .next ({ s with hlth := { s.hlth with castCut := cut } }.moduleReset [])

/-- POWER_ON_PWR_GOOD (R374, R485, R487): the rails are in regulation; gateway time starts at 0 and the charger starts. -/
def execPowerOnPwrGood (s : State) : Host.Outcome State Fault Refusal :=
  if s.hlth.pwrGood || s.hlth.bindingOff then .next s
  else .next (({ s with hlth := { s.hlth with pwrGood := true, chargeLate := false } }.moduleReset []).castTry)

/-! ## The input (R436) -/

/-- The busbar's voltage and current as measured. -/
def State.inputMeasured (s : State) (vin iin : BitVec 16) : State := (s.set HLTH_INPUT.VIN_MV vin.toNat).set HLTH_INPUT.IIN_CA iin.toNat

/-- INPUT_WARN (Table PWR-1). -/
def execInputWarn (vin iin : BitVec 16) (s : State) : Host.Outcome State Fault Refusal :=
  let t := s.inputMeasured vin iin
  if s.on HLTH_STATUS.INPUT_WARN then .next t else .next ((t.set HLTH_STATUS.INPUT_WARN 1).hlthReport 0x1001 HLTH_INT_STATUS.INPUT)

/-- INPUT_WARN_CLEAR (Table PWR-1). -/
def execInputWarnClear (vin iin : BitVec 16) (s : State) : Host.Outcome State Fault Refusal :=
  let t := s.inputMeasured vin iin
  if s.on HLTH_STATUS.INPUT_WARN then .next ((t.set HLTH_STATUS.INPUT_WARN 0).hlthReport 0x1002 HLTH_INT_STATUS.INPUT) else .next t

/-- INPUT_SURGE (Table PWR-1): one surge above 60 V. -/
def execInputSurge (vin iin : BitVec 16) (s : State) : Host.Outcome State Fault Refusal :=
  .next ((s.inputMeasured vin iin).hlthReport 0x100D HLTH_INT_STATUS.INPUT)

/-! ## The hold-up capacitor (R437, R491) -/

/-- HOLDUP_CHARGE_MEASURED (R437): a measured capacitance; one below CAP_MIN_UF is a module fault. -/
def execHoldupChargeMeasured (uf vcap : BitVec 16) (s : State) : Host.Outcome State Fault Refusal :=
  let s := ((s.set HLTH_HOLDUP.CAP_UF uf.toNat).set HLTH_HOLDUP.VCAP_MV vcap.toNat).holdupUpdate
  if uf.toNat < s.get HLTH_HOLDUP.CAP_MIN_UF then
    .next (((s.hlthReport 0x100C HLTH_INT_STATUS.INPUT).moduleFault 0x100C).health { reason := 0x100C, kind := 2, level := 4 })
  else .next s

/-- HOLDUP_CHARGE_TIMEOUT (R488, R491): HOLDUP_OK stays 0 and ALERT_N is driven low. -/
def execHoldupChargeTimeout (vcap : BitVec 16) (s : State) : Host.Outcome State Fault Refusal :=
  let s := { s with hlth := { s.hlth with chargeLate := true } }
  .next (((s.set HLTH_HOLDUP.VCAP_MV vcap.toNat).set HLTH_STATUS.HOLDUP_OK 0).hlthReport 0x100C HLTH_INT_STATUS.INPUT)

/-! ## Bind-off (R439 to R442) -/

/-- Registers that the image of Table PWR-2 holds: ring and key-mail pointers, the servo's state, the address of the context store,
and the job entries with the site they run at (log entry 51). -/
def imageRegs : List Reg :=
  [Q_PTR, STCH_NOTICE_PTR, CIPH_KMO_PTR, CIPH_KMI_PTR, CIPH_STORE_BASE, TIME_INTEG, TIME_INC_NOM, XPORT_CTRL, JOB_CTRL, JOB_PARAM0,
   JOB_PARAM1, JOB_SEED, JOB_MIRROR, JOB_TMAP, JOB_CTX, JOB_STATUS]

/-- The valid slots of transmit contexts: context ID, slot number and slot. -/
def State.txSlots (s : State) : List (Nat × Nat × KeySlot) :=
  s.ciph.valid.flatMap (fun id =>
    match s.ctx id with
    | none => []
    | some c => if c.rx then [] else [(id, 0, c.slot0), (id, 1, c.slot1)].filter (fun x => x.2.2.valid))

/-- A slot's exact CTR becomes its ledger mark (R243, R441). -/
def State.exactMark (s : State) (x : Nat × Nat × KeySlot) : State := s.putLedger ⟨x.1, x.2.1, x.2.2.gen, x.2.2.ctr, none, false⟩

/-- The critical-state image of this moment (Table PWR-2). -/
def State.critImage (s : State) : CritImage where
  seq := s.keep.newestSeq + 1
  csr := s.csr.filter (fun e => imageRegs.any (fun r => (r.find e.1).isSome))
  wrapped := s.ciph.valid.zipIdx.filterMap (fun x =>
    (s.ctx x.1).map (fun c => (x.1, ctxImage true x.1 (s.ciph.wrapCtr + 1 + x.2) c)))
  wrapCtr := s.ciph.wrapCtr + s.ciph.valid.length
  retained := s.xport.retained.filter (fun r => !r.acked)
  jobs := s.xport.jobs
  history := s.hlth.history
  logTail := s.hlth.logTail
  inFlight := s.hostq.dispatched.map (·.work) ++ (s.hostq.finished.filter (fun f => !f.refused)).map (·.work)
  establish := s.ciph.establish

/-- The slot that bind-off writes: the one that does not hold the newest valid image (R441). -/
def State.saveSlot (s : State) : Bool :=
  match s.keep.newest with
  | none => false
  | some i => !i

/-- The ledger, the image and its commit record are written (R441). -/
def State.saveCritical (s : State) : State :=
  let i := s.saveSlot
  let t := s.txSlots.foldl State.exactMark s
  { t with keep := t.keep.putSlot i (some s.critImage), hlth := { t.hlth with savedSlot := some i } }

/-- A save that gets no commit record: the slot is invalid, and each ledger entry holds its old mark or the exact CTR (R441, R442; log
entry 3). -/
def State.saveCut (s : State) : State :=
  let t := s.txSlots.foldl (fun s x => if s.fresh.1 % 2 = 1 then s.fresh.2.exactMark x else s.fresh.2) s
  { t with keep := t.keep.putSlot s.saveSlot none, hlth := { t.hlth with committing := true } }

/-- The gateway enters STOPPED, with PWR_GOOD low (R442, R487). -/
def State.bindStopped (s : State) (reason ms mib vcap : Nat) : State :=
  let s := { s with hlth := { s.hlth with pwrGood := false, committing := false } }.moduleReset []
  let s := (((s.set HLTH_LAST_BINDOFF.REASON reason).set HLTH_LAST_BINDOFF.DURATION_MS (min ms 100)).set
    HLTH_LAST_BINDOFF.IMAGE_MIB mib).set HLTH_LAST_BINDOFF.VCAP_END_MV vcap
  (s.set HLTH_HOLDUP.VCAP_MV vcap).holdupUpdate

/-- The next cast-on reports a reason of this bind-off (R442). -/
def State.lastReport (s : State) (reason : Nat) : State := { s with keep := { s.keep with lastReport := reason } }

/-- The bank that a live update was writing is no longer whole (R452). -/
def State.updateCut (s : State) : State :=
  match s.hlth.update with
  | none => s
  | some u =>
    if u.object = 1 then { s with keep := { s.keep with mgmtFw := s.keep.mgmtFw.put (!s.keep.mgmtBank) none } }
    else if u.object = 2 then { s with keep := { s.keep with secFw := s.keep.secFw.put (!s.keep.secBank) none } }
    else s

/-- A trigger while bind-off runs is recorded in the health log, whose tail the image holds (R439, R450). -/
def State.laterTrigger (s : State) (reason : Nat) : State :=
  let s := s.health { reason := reason, kind := 3, level := 4 }
  match s.hlth.savedSlot, s.hlth.logTail.getLast? with
  | some i, some e =>
    let add (x : CritImage) : CritImage :=
      let tail := x.logTail ++ [e]
      { x with logTail := tail.drop (tail.length - 16384) }
    { s with keep := s.keep.putSlot i ((s.keep.slot i).map add) }
  | _, _ => s

/-- The first trigger: loads are shed, and what bind-off saves depends on the hold-up capacitor, on cast-on, and on whether the
commit record is written in time (R440 to R442). -/
def State.bindOffBegin (s : State) (reason : Nat) (x : BindOff) : State :=
  let s := { s with hlth := { s.hlth with bindingOff := true, savedSlot := none } }.addSat HLTH_COUNT.BINDOFFS 1
  let s := ((s.set HLTH_ERR_LOG.REASON reason).report reason).health { reason := reason, kind := 3, level := 4 }
  let s := (s.updateCut).failSend reason
  let ms := x.ms.toNat
  let vcap := x.vcap.toNat
  if !s.on HLTH_STATUS.HOLDUP_OK then (s.lastReport 0x1009).bindStopped reason ms 0 vcap
  else if s.get TOP_STATE.CAST_PHASE ≠ 0x0B then s.bindStopped reason ms 0 vcap
  else if x.commits then (s.saveCritical.lastReport 0).bindStopped reason ms x.mib.toNat vcap
  else
    (((s.saveCut).set HLTH_LAST_BINDOFF.REASON reason).set HLTH_LAST_BINDOFF.IMAGE_MIB x.mib.toNat).moduleReset
      [(TOP_STATE.CAST_PHASE, 1), (TOP_STATE.RESTRICTED, 1), (TOP_STATE.RESTRICT_REASON, 1), (TOP_FAULT.ACTIVE, 1), (TOP_FAULT.REASON, 1)]

/-- A trigger of bind-off (R439). -/
def State.bindOff (s : State) (reason : Nat) (x : BindOff) : State :=
  if s.hlth.bindingOff then s.laterTrigger reason else if s.hlth.pwrGood then s.bindOffBegin reason x else s

/-- The reason of an input trigger (Table PWR-1). -/
def inputReason (c : InputCause) : Nat :=
  match c with
  | .low => 0x1003
  | .lost => 0x1004
  | .over => 0x1005

/-- BINDOFF_TRIGGER (R439, Table PWR-1). -/
def execBindoffTrigger (cause : InputCause) (x : BindOff) (s : State) : Host.Outcome State Fault Refusal :=
  .next (s.bindOff (inputReason cause) x)

/-- THERMAL_TRIP (R448). -/
def execThermalTrip (x : BindOff) (s : State) : Host.Outcome State Fault Refusal := .next (s.bindOff 0x1006 x)

/-- BINDOFF_LIMIT (R442): the capacitor reaches 36 V or 100 ms pass before the commit record is written. -/
def execBindoffLimit (vcap : BitVec 16) (ms : BitVec 16) (s : State) : Host.Outcome State Fault Refusal :=
  if s.hlth.committing then
    .next ((s.lastReport 0x1008).bindStopped (s.get HLTH_LAST_BINDOFF.REASON) ms.toNat (s.get HLTH_LAST_BINDOFF.IMAGE_MIB) vcap.toNat)
  else .next s

/-- INPUT_RESTART (Table PWR-1, R487): the internal reset is released after a bind-off, and the charger starts. -/
def execInputRestart (vin : BitVec 16) (s : State) : Host.Outcome State Fault Refusal :=
  if s.hlth.bindingOff && !s.hlth.committing then
    let s := { s with hlth := { s.hlth with bindingOff := false, savedSlot := none, pwrGood := true, chargeLate := false } }
    .next (((s.moduleReset []).set HLTH_INPUT.VIN_MV vin.toNat).holdupUpdate).castTry
  else .next (s.set HLTH_INPUT.VIN_MV vin.toNat)

/-! ## The power cap (R438) -/

/-- THROTTLE: a hold at the power cap, or a panel above THROTTLE_C (Table PWR-7). -/
def State.throttleUpdate (s : State) : State := s.set HLTH_STATUS.THROTTLE (b2n (s.hlth.capHold || !s.hlth.hot.isEmpty))

/-- POWER_CAP_REACHED (R438, R457): dispatch to the bed and the stitch units is held, reported once for the episode. -/
def execPowerCapReached (pin : BitVec 16) (s : State) : Host.Outcome State Fault Refusal :=
  let s := s.set HLTH_INPUT.PIN_W pin.toNat
  if s.on HLTH_STATUS.READY && !s.hlth.capHold then
    .next ({ s with hlth := { s.hlth with capHold := true } }.throttleUpdate.hlthReport 0x100E HLTH_INT_STATUS.POWER_CAP)
  else .next s

/-- POWER_CAP_RELEASE (R438): PIN_W is 2 % below the cap and the hold ends. -/
def execPowerCapRelease (pin : BitVec 16) (s : State) : Host.Outcome State Fault Refusal :=
  .next { s.set HLTH_INPUT.PIN_W pin.toNat with hlth := { s.hlth with capHold := false } }.throttleUpdate

/-! ## Clusters that leave service (R28, R430, R447, Table ARCH-6) -/

/-- Units of an engine kind with consecutive numbers. -/
def unitRun {n : Nat} (f : Fin n → UnitName) (lo k : Nat) : List UnitName :=
  (List.range k).filterMap (fun i => if h : lo + i < n then some (f ⟨lo + i, h⟩) else none)

/-- The units of a cluster of a block whose clusters have no spare, in order (Table ARCH-2; log entry 42). -/
def clusterUnits (block c : Nat) : List UnitName :=
  match block with
  | 2 => unitRun .queueEngine (16 * c) 16
  | 3 => if c < 16 then unitRun .tenantScheduler (16 * c) 16 else unitRun .portScheduler 0 16
  | 4 => unitRun (fun p => .skeinManager p false) 0 5
  | 5 => unitRun .channel (8 * c) 8
  | 6 => if c < 16 then unitRun .fabricPort (12 * c) 12 else unitRun .fabricTable 0 8
  | 7 => unitRun .lockLoop (11 * c) 11 ++ (if c = 2 then [.laserBank] else [])
  | 8 => if c < 2 then unitRun (fun p => .framer p false) (8 * c) 8 else unitRun (fun p => .framer p true) (8 * (c - 2)) 8
  | 9 => if c < 2 then unitRun .coder (8 * c) 8 else unitRun .transport (8 * (c - 2)) 8
  | 10 => if c < 8 then unitRun .pipeline (8 * c) 8 else [.kem, .slh 0, .slh 1, .hash]
  | 14 => if c < 4 then unitRun .timestamp (8 * c) 8 else unitRun .timestamp 32 16
  | 15 => unitRun .sampler (16 * c) 16
  | _ => []

/-- An idle spare cluster is unavailable from now on, with its quarantine record. -/
def State.spareOut (s : State) (reason block p hw : Nat) : State :=
  ((s.markQuarantined block hw true).quarantineCount p block hw).health
    { reason := reason, kind := 1, block := block, panel := p, action := 3, cluster := hw }

/-- A stitch cluster leaves service, by its hardware number: 48 to 50 are the spares (R133). -/
def State.stchClusterOut (s : State) (reason hw : Nat) : State :=
  let contain (s : State) (c : Nat) : State := s.fresh.2.stchContain c reason (s.fresh.1 % 101) ⟨none, none, 0, 0, false⟩ none
  if hw < 48 then (if s.stchOnSpare hw then s else contain s hw)
  else
    let p := hw - 48
    match (List.range 48).find? (fun c => s.stchOnSpare c && (panelOf c).1 == p) with
    | some c => contain s c
    | none =>
      ((s.set STCH_PANEL_MAP.SPARE_QUARANTINED 1 p).set STCH_CAP.SPARE_FREE (setBit (s.get STCH_CAP.SPARE_FREE) p false)).spareOut
        reason 12 p hw

/-- A codec cluster leaves service, by its hardware number: 32 and 33 are the spares (R165). -/
def State.purlClusterOut (s : State) (reason hw : Nat) : State :=
  if hw < 32 then (if (s.purlSpareFor hw).isSome then s else s.purlQuarantine hw reason none)
  else
    let k := hw - 32
    match (List.range 32).find? (fun c => s.purlSpareFor c == some k) with
    | some c => s.purlQuarantine c reason none
    | none =>
      ((s.set PURL_SPARE.SPARE_QUARANTINED (setBit (s.get PURL_SPARE.SPARE_QUARANTINED) k true)).set PURL_CAP.SPARE_FREE
        (setBit (s.get PURL_CAP.SPARE_FREE) k false)).spareOut reason 13 2 hw

/-- A cluster leaves service: its spare takes its place, or its units stop and capacity falls (R28, Table ARCH-6; log entry 52). -/
def State.clusterOut (s : State) (reason block panel c : Nat) : State :=
  if block = 11 then s.groupFault reason c none none
  else if block = 12 then s.stchClusterOut reason c
  else if block = 13 then s.purlClusterOut reason c
  else
    let t := (clusterUnits block c).foldl State.unitFault s
    let t := { t.wrReg HLTH_PANEL_MARGIN (s.rdReg HLTH_PANEL_MARGIN panel) panel with
      hlth := { t.hlth with quarantined := s.hlth.quarantined } }
    (t.spareOut reason block panel c).capChange block

/-! ## Gauges (R444, R447) -/

/-- The gauges there are. -/
def gauges : List Nat := List.range ((gaugeRuns.map (fun r => r.2.2.2)).foldl (· + ·) 0)

/-- Nanoseconds of one hour. -/
def hourNs : Nat := 3600000000000

/-- The hour's lowest margin of a gauge with its panel's temperature and rail; an hour gone joins the history of at most 32,768 hours
(R444). -/
def HlthSt.hourSample (h : HlthSt) (g hour m temp rail : Nat) : HlthSt :=
  match lookupD (h.hour.map (fun x => (x.1, some x.2))) g none with
  | none => { h with hour := assocPut h.hour g (hour, m, temp, rail) }
  | some (h0, m0, t0, r0) =>
    if h0 = hour then (if m < m0 then { h with hour := assocPut h.hour g (hour, m, temp, rail) } else h)
    else
      let old := if 32768 ≤ h.history.countP (fun x => x.1 == g) then h.history.eraseP (fun x => x.1 == g) else h.history
      { h with hour := assocPut h.hour g (hour, m, temp, rail), history := old ++ [(g, m0, t0, r0)] }

/-- One sample of a gauge: the latest and the lowest of 24 h (R444). -/
def State.sampleGauge (s : State) (g m : Nat) : State :=
  let now := s.mono
  let p := s.get HLTH_GAUGE.PANEL g
  let kept := (lookupD s.hlth.mins g []).filter (fun x => decide (now < x.1 + dayNs) && decide (x.2 < m))
  let low := (kept.map (·.2)).foldl min m
  let h := (s.hlth.hourSample g (now / hourNs) m (s.get HLTH_PANEL_RATE.TEMP p) (s.get HLTH_PANEL_RAIL.MEASURED_MV p))
  ({ s with hlth := { h with mins := assocPut h.mins g (kept ++ [(now, m)]) } }.set HLTH_GAUGE.MARGIN m g).set HLTH_GAUGE.MIN_24H low g

/-- The gauges of a panel whose clusters are in service: not quarantined (R446; log entry 53). -/
def State.panelGauges (s : State) (p : Nat) : List Nat :=
  gauges.filter (fun g => s.get HLTH_GAUGE.PANEL g == p && !s.on HLTH_GAUGE.QUARANTINED g)

/-- MIN_MARGIN and MIN_GAUGE of a panel. -/
def State.panelMargin (s : State) (p : Nat) : State :=
  match leastBy (fun g => s.get HLTH_GAUGE.MARGIN g) (s.panelGauges p) with
  | none => s
  | some g => (s.set HLTH_PANEL_MARGIN.MIN_MARGIN (s.get HLTH_GAUGE.MARGIN g) p).set HLTH_PANEL_MARGIN.MIN_GAUGE g p

/-- A gauge's run of samples below MARGIN_MIN at RAIL_MAX_MV; at the tenth its cluster is quarantined (R447). -/
def State.gaugeRun (s : State) (g : Nat) : State :=
  let p := s.get HLTH_GAUGE.PANEL g
  let low := s.get HLTH_GAUGE.MARGIN g < s.get HLTH_GAUGE_CFG.MARGIN_MIN ∧
    s.get HLTH_PANEL_RAIL.TARGET_MV p = s.get HLTH_GAUGE_CFG.RAIL_MAX_MV ∧ !s.on HLTH_GAUGE.QUARANTINED g
  if low then
    let n := lookupD s.hlth.lowRun g 0 + 1
    if n < 10 then { s with hlth := { s.hlth with lowRun := assocPut s.hlth.lowRun g n } }
    else
      let s := { s with hlth := { s.hlth with lowRun := assocErase s.hlth.lowRun g } }
      ((s.panelReport 0x1014 p g HLTH_INT_STATUS.MARGIN).clusterOut 0x1014 (s.get HLTH_GAUGE.BLOCK g) p
        (s.get HLTH_GAUGE.CLUSTER g)).markQuarantined (s.get HLTH_GAUGE.BLOCK g) (s.get HLTH_GAUGE.CLUSTER g) true
  else { s with hlth := { s.hlth with lowRun := assocErase s.hlth.lowRun g } }

/-- GAUGE_SAMPLE (R444, R447): every gauge's margin, in the gauges' order, and every panel's rail and handshake rate. -/
def execGaugeSample (margins : List (BitVec 10)) (panels : List PanelReading) (s : State) : Host.Outcome State Fault Refusal :=
  let s := (panels.take 3).zipIdx.foldl (fun s x =>
    (s.set HLTH_PANEL_RAIL.MEASURED_MV x.1.rail.toNat x.2).set HLTH_PANEL_RATE.RATE x.1.rate.toNat x.2) s
  let taken := (margins.zip gauges)
  let s := taken.foldl (fun s x => s.sampleGauge x.2 x.1.toNat) s
  let s := (List.range 3).foldl State.panelMargin s
  .next (taken.foldl (fun s x => s.gaugeRun x.2) s)

/-! ## The margin plan (R445, R446) -/

/-- A plan changes: the store and the register, REPLANS, and a record (R445). -/
def State.planChange (s : State) (p b mv reason : Nat) : State :=
  let s := { s with
    keep := { s.keep with plans := assocPut s.keep.plans (p, b) mv }
    hlth := { s.hlth with planAt := assocPut s.hlth.planAt (p, b) s.mono } }
  (((s.set (planField b) mv p).addSat HLTH_COUNT.REPLANS 1).panelReport reason p (s.get HLTH_PANEL_MARGIN.MIN_GAUGE p)
    HLTH_INT_STATUS.MARGIN).health { reason := reason, kind := 5, level := 2, block := 16, panel := p }

/-- The re-plan of a panel (R446). -/
def State.replanPanel (s : State) (p : Nat) : State :=
  let b := s.get HLTH_PANEL_RAIL.BAND p
  let mv := s.plan p b
  let step := s.get HLTH_GAUGE_CFG.STEP_MV
  let gs := s.panelGauges p
  let m := (gs.map (fun g => s.get HLTH_GAUGE.MARGIN g)).foldl min 1023
  let warn := decide (m < s.get HLTH_GAUGE_CFG.MARGIN_WARN)
  let t :=
    if warn || decide (s.get HLTH_PANEL_RATE.RATE p < 1300) then
      let s := if warn then s.panelReport 0x1010 p (s.get HLTH_PANEL_MARGIN.MIN_GAUGE p) HLTH_INT_STATUS.MARGIN else s
      if mv + step ≤ s.get HLTH_GAUGE_CFG.RAIL_MAX_MV then s.planChange p b (mv + step) 0x1011
      else
        (s.panelReport 0x1013 p (s.get HLTH_PANEL_MARGIN.MIN_GAUGE p) HLTH_INT_STATUS.MARGIN).health
          { reason := 0x1013, kind := 5, level := 2, block := 16, panel := p }
    else if s.on HLTH_CTRL.LOWER_EN && gs.all (fun g => decide (s.get HLTH_GAUGE_CFG.MARGIN_HIGH ≤ s.get HLTH_GAUGE.MIN_24H g)) &&
        decide ((Config.factoryPlan p b).toNat + step ≤ mv) && decide (lookupD s.hlth.planAt (p, b) 0 + dayNs ≤ s.mono) then
      s.planChange p b (mv - step) 0x1012
    else s
  t.set HLTH_PANEL_RAIL.TARGET_MV (t.plan p b) p

/-- What REPLAN does once the management core runs (R446, R457). -/
def runReplan (p : Fin 3) (s : State) : Host.Outcome State Fault Refusal :=
  if s.on HLTH_STATUS.READY && s.on HLTH_CTRL.AUTO_REPLAN then .next (s.replanPanel p) else .next s

/-- RATE_FLOOR_FAULT (R447): a panel's rate stays below 1,300 M handshakes/s at RAIL_MAX_MV for 10 ms. -/
def execRateFloorFault (p : Fin 3) (s : State) : Host.Outcome State Fault Refusal :=
  .next (((s.panelReport 0x1015 p (s.get HLTH_PANEL_MARGIN.MIN_GAUGE p) HLTH_INT_STATUS.MARGIN).health
    { reason := 0x1015, kind := 2, level := 2, block := 16, panel := p }).handOver 0x1015)

/-! ## Temperature (R448, R449) -/

/-- The temperature band of a panel (R445): counts of 0.125 °C. -/
def bandOf (t : Int) : Nat := if t < 320 then 0 else if t < 440 then 1 else if t < 560 then 2 else if t < 680 then 3 else if t < 760 then 4 else 5

/-- A threshold in °C: whether a panel stands above it, given whether it did before; each action ends 5 °C below (R448). -/
def aboveC (t : Int) (c : Nat) (was : Bool) : Bool := if was then decide (8 * (c : Int) - 40 < t) else decide (8 * (c : Int) ≤ t)

/-- A panel joins or leaves a list. -/
def member (l : List Nat) (p : Nat) (v : Bool) : List Nat := if v then addOnce l p else l.filter (· ≠ p)

/-- A thermal event of a panel with its record. -/
def State.thermalReport (s : State) (reason p : Nat) : State :=
  (s.panelReport reason p 0 HLTH_INT_STATUS.THERMAL).health { reason := reason, kind := 4, level := 2, block := 16, panel := p }

/-- PANEL_TEMP_CHANGE (R445, R448, R449, R457): a panel's hottest sensor has a new temperature; `fast` when it moved by more than 10 °C
within 1 ms. -/
def execPanelTempChange (p : Fin 3) (temp : BitVec 16) (fast : Bool) (s : State) : Host.Outcome State Fault Refusal :=
  let t := temp.toInt
  let s := (s.set HLTH_PANEL_RATE.TEMP temp.toNat p).set HLTH_PANEL_RAIL.BAND (bandOf t) p
  let warm := aboveC t (s.get HLTH_THERMAL.WARN_C) (s.hlth.warm.contains p.val)
  let s := if warm && !s.hlth.warm.contains p.val then s.thermalReport 0x1016 p else s
  let s := { s with hlth := { s.hlth with warm := member s.hlth.warm p warm } }
  let hot := aboveC t (s.get HLTH_THERMAL.THROTTLE_C) (s.hlth.hot.contains p.val) && s.on HLTH_STATUS.READY
  let s := if hot && !s.hlth.hot.contains p.val then s.thermalReport 0x1017 p else s
  let s := { s with hlth := { s.hlth with hot := member s.hlth.hot p hot } }.throttleUpdate
  if fast then .next ((s.thermalReport 0x1018 p).set HLTH_PANEL_RAIL.TARGET_MV (s.plan p (bandOf t)) p) else .next s

end Sys2Proof.Machine
end

