-- ==== Sys2Proof/Machine/CastOn.lean ====
section
/-!
DEFINITION. Machine/CastOn.lean: the phases of cast-on (spec/16_cast_on.md R415 to R434), signed objects (R265), the bundle's sections and
the restore of critical state (R443).
-/
namespace Sys2Proof
open Machine

/-! ## Signed objects (R265, Table CIPH-11) -/

/-- OBJECT_VERSION. -/
def SignedObj.version (o : SignedObj) : Nat := fieldAt o.block 8 8
/-- BODY_DIGEST. -/
def SignedObj.digest (o : SignedObj) : Bytes := slice o.block 16 32
/-- SIGNER_PK. -/
def SignedObj.pk (o : SignedObj) : Bytes := slice o.block 48 64

/-- Whether an object is accepted under an anchor (R265). -/
def SignedObj.verified (o : SignedObj) (anchor : Bytes) : Bool :=
  sha256 o.body == o.digest && sha256 o.pk == anchor && Config.verify o.pk o.block o.sig

/-- What the store holds in a bank: what the gateway wrote there, or else what it held before. -/
def Banks.join (b old : Banks) : Banks := ⟨b.bank0.or old.bank0, b.bank1.or old.bank1⟩

/-- The banks in the order they are tried: the higher OBJECT_VERSION first (R418). -/
def Banks.order (b : Banks) : List Bool :=
  let v (i : Bool) : Int := match b.get i with
    | none => -1
    | some o => o.version
  if v false < v true then [true, false] else [false, true]

/-- The first bank, in the order tried, whose object passes. -/
def Banks.pick (b : Banks) (ok : SignedObj → Bool) : Option (Bool × SignedObj) :=
  b.order.findSome? (fun i => match b.get i with
    | none => none
    | some o => if ok o then some (i, o) else none)

end Sys2Proof
namespace Sys2Proof.Machine
open Csr

/-! ## The bundle (R421) -/

/-- The sections of a bundle body, as (TYPE, body), where the body is whole; `n` bounds their number. -/
def sections : (n : Nat) → Bytes → Option (List (Nat × Bytes))
  | 0, _ => none
  | n + 1, b =>
    if b = [] then some []
    else
      let len := fieldAt b 4 4
      if b.length < 8 + len then none
      else (sections n (b.drop (8 + len))).map (fun l => (fieldAt b 0 2, slice b 8 len) :: l)

/-- The sections of a bundle body. -/
def bundleSections (b : Bytes) : Option (List (Nat × Bytes)) := sections (b.length + 1) b

/-- The body of the section of a type. -/
def sectionOf (b : Bytes) (t : Nat) : Option Bytes := ((bundleSections b).getD []).lookup t

/-- Whether each field of a cast-on section is in its range (Table CAST-2). -/
def castFieldsOk (b : Bytes) : Bool :=
  b.length == 16 && fieldAt b 0 1 == 1 && decide (fieldAt b 1 1 ≤ 2) && decide (1 ≤ fieldAt b 2 1 ∧ fieldAt b 2 1 ≤ 3) &&
  decide (1 ≤ fieldAt b 3 1 ∧ fieldAt b 3 1 ≤ 7) && decide (fieldAt b 4 2 ≤ 600) && decide (5 ≤ fieldAt b 8 1 ∧ fieldAt b 8 1 ≤ 80)

/-- Whether a bundle is accepted: signed under its anchor, its section types known, its cast-on fields in range (R421). -/
def bundleOk (anchor : Bytes) (o : SignedObj) : Bool :=
  o.verified anchor &&
  (match bundleSections o.body with
   | none => false
   | some l => l.all (fun x => decide (1 ≤ x.1 ∧ x.1 ≤ 5) && (x.1 != 1 || castFieldsOk x.2)))

/-- A field of Table CAST-2, or its default without a cast-on section. -/
def State.castField (s : State) (off n dflt : Nat) : Nat :=
  match sectionOf s.boot.bundle 1 with
  | none => dflt
  | some b => fieldAt b off n

/-- START_MODE: 0 AUTO, 1 FULL, 2 FAST. -/
def State.startMode (s : State) : Nat := s.castField 1 1 0
/-- RESEND_MAX. -/
def State.resendMax (s : State) : Nat := s.castField 3 1 3
/-- FULL_TEST_H. -/
def State.fullTestH (s : State) : Nat := s.castField 6 2 2160
/-- TEMP_DELTA_C. -/
def State.tempDelta (s : State) : Nat := s.castField 8 1 40

/-- The anchor that bundles require: the owner's, or the vendor's without an enrolled owner (R265). -/
def State.bundleAnchor (s : State) : Bytes := if s.get CIPH_SECURITY.OWNER_BANK = 7 then Config.vendorAnchor else s.ciph.ownerHash

/-- The bundle in force: M[3] takes its digest, and its security settings apply where feature 8 is permitted (R419, R421, Table
CAST-4; log entry 45). -/
def State.takeBundle (s : State) (o : SignedObj) : State :=
  { s with boot := { s.boot with bundle := o.body } }.extend 3 o.digest

/-- CLEAR_EXPORT_EN as the bundle sets it, held at 0 without feature 8 (Table CAST-4). -/
def State.clearExport (s : State) : State :=
  match sectionOf s.boot.bundle 5 with
  | none => s
  | some b => s.set CIPH_SECURITY.CLEAR_EXPORT_EN (b2n (Config.clearExport b && s.boot.features.testBit 8))

/-! ## Phases and failures (R415, R416, R434) -/

/-- The phase in progress. -/
def State.phase (s : State) : Nat := s.get TOP_STATE.CAST_PHASE

/-- Enter a phase. -/
def State.toPhase (s : State) (p : Nat) : State := s.set TOP_STATE.CAST_PHASE p

/-- A cast-on report with its HLTH record. -/
def State.castRecord (s : State) (reason : Nat) : State := (s.report reason).health { reason := reason, kind := 6, level := 4 }

/-- Cast-on fails: the datapath stops, both cores, TOP and HLTH run on (Table CAST-1, Table CAST-8). The record's body names the phase
(R416). A failure in MEMTRAIN or MEMTEST is kept in the store (R425). -/
def State.castFail (s : State) (reason : Nat) : State :=
  let ph := s.phase
  let s := if ph = 6 ∨ ph = 7 then { s with keep := { s.keep with memFailed := true } } else s
  let s := (s.health { reason := reason, kind := 6, level := 4, body := le 1 ph }).toPhase 0x0E
  let s := { s with ctl := { s.ctl with checking := [] } }
  let off := [2, 3, 4, 5, 6, 7, 8, 9, 10, 11, 12, 13, 14, 15, 17].filter (fun b => s.on (enableOf b))
  (off.foldl State.blockOff s).handOver reason

/-- No firmware verifies: cast-on halts (R418, R419). -/
def State.castHalt (s : State) : State := ((s.health { reason := 0x0045, kind := 6, level := 4 }).toPhase 0x0F).moduleFault 0x0045

/-- CAST_PHASE_TIMEOUT (R416): a phase other than BUNDLE_WAIT takes longer than its limit. -/
def execCastPhaseTimeout (s : State) : Host.Outcome State Fault Refusal :=
  if 1 ≤ s.phase ∧ s.phase ≤ 0x0A ∧ s.phase ≠ 4 then .next (s.castFail 0x0055) else .next s

/-! ## ROM and SECURE (R418, R419) -/

/-- The bank rule of R418 for a firmware image: the bank to start, with the report of the bank refused before it. -/
def State.pickFirmware (s : State) (b : Banks) (floor refused : Nat) : Option (Bool × SignedObj) × State :=
  let good (o : SignedObj) : Bool := o.verified Config.vendorAnchor && decide (floor ≤ o.version)
  let first := (b.order.head?).bind b.get
  let s := match first with
    | none => s.castRecord refused
    | some o => if good o then s else s.castRecord (if o.verified Config.vendorAnchor then 0x0044 else refused)
  (b.pick good, s)

/-- ROM_DONE (R418): the fuses are loaded, and the boot ROM starts the security firmware bank that verifies, or halts. -/
def execRomDone (f : Fuses) (banks : Banks) (s : State) : Host.Outcome State Fault Refusal :=
  if s.phase ≠ 1 then .next s
  else
    let s := ((s.set TOP_REV.HW_REV f.hwRev.toNat).set TOP_SERIAL.SERIAL f.serial.toNat 0).set TOP_SERIAL.SERIAL (f.serial.toNat / 2 ^ 64) 1
    let b := s.keep.secFw.join banks
    let s := { s with keep := { s.keep with secFw := b } }
    match s.pickFirmware b s.keep.floorSec 0x0042 with
    | (none, s) => .next s.castHalt
    | (some (i, o), s) =>
      let s := ({ s with keep := { s.keep with secBank := i } }.extend 0 o.digest).set TOP_FW.SEC_FW_VERSION o.version
      .next ((s.set TOP_CORE.SEC_STATE 1).toPhase 2)

/-- Manifest, bundle, owner and repair map, once module firmware has verified (R419). The session key pair of R257 is new. -/
def State.secureRest (s : State) (x : SecureInput) (fw : SignedObj) : State :=
  let s := match x.owner with
    | none => s
    | some (k, h) => { s with ciph := { s.ciph with ownerHash := padTo 32 h } }.set CIPH_SECURITY.OWNER_BANK k.val
  let mans := s.keep.manifests.join x.manifests
  let buns := s.keep.bundles.join x.bundles
  let s := { s with keep := { s.keep with manifests := mans, bundles := buns } }
  let s := s.extend 1 fw.digest
  let s := match mans.pick (fun o => o.verified Config.vendorAnchor) with
    | none => s
    | some (_, o) =>
      ({ s with boot := { s.boot with manifest := o.body } }.set TOP_REV.MANIFEST_VERSION o.version).extend 2 o.digest
  let ok := bundleOk s.bundleAnchor
  let s := match buns.pick ok with
    | none => s
    | some (i, o) => (if some i = buns.order.head? then s else s.castRecord 0x004A).takeBundle o
  let s := (s.extend 7 s.ciph.ownerHash).extend 6 (sha256 x.map)
  let pair := Config.sessionKeyGen (BitVec.ofNat 64 s.fresh.1)
  let gen := s.fresh.2.fresh
  { gen.2 with ciph := { gen.2.ciph with sessionPk := pair.1, sessionSk := pair.2, sessionGen := gen.1 % 2 ^ 32 } }

/-- SECURE_DONE (R419): security firmware verifies module firmware, manifest and bundle, extends the measurements and starts the
management core, or halts. -/
def execSecureDone (x : SecureInput) (s : State) : Host.Outcome State Fault Refusal :=
  if s.phase ≠ 2 then .next s
  else
    let b := s.keep.mgmtFw.join x.mgmtFw
    let s := { s with keep := { s.keep with mgmtFw := b } }
    match s.pickFirmware b s.keep.floorMgmt 0x0043 with
    | (none, s) => .next s.castHalt
    | (some (i, o), s) =>
      let s := { s with keep := { s.keep with mgmtBank := i } }.set TOP_FW.MGMT_FW_VERSION o.version
      .next (((s.secureRest x o).set TOP_CORE.MGMT_STATE 1).toPhase 3)

/-! ## Compatibility (R422, R423) -/

/-- An entry of the compatibility manifest (Table CAST-3). -/
structure ManEntry where
  kind : Nat
  features : Nat
  hw : Nat × Nat
  mgmt : Nat × Nat
  sec : Nat × Nat

/-- The entries of a manifest body. -/
def manEntries (b : Bytes) : List ManEntry :=
  (List.range (fieldAt b 2 2)).map (fun e =>
    let o := 16 + 32 * e
    ⟨fieldAt b o 1, fieldAt b (o + 4) 4, (fieldAt b (o + 8) 4, fieldAt b (o + 12) 4), (fieldAt b (o + 16) 4, fieldAt b (o + 20) 4),
     (fieldAt b (o + 24) 4, fieldAt b (o + 28) 4)⟩)

/-- Whether a range with both ends contains a version. -/
def inRange (r : Nat × Nat) (v : Nat) : Bool := decide (r.1 ≤ v ∧ v ≤ r.2)

/-- Whether an entry is of one of the kinds and every range it uses contains its version (R422). -/
def ManEntry.covers (e : ManEntry) (kinds : List Nat) (h m s : Nat) : Bool :=
  kinds.contains e.kind && (e.kind == 4 || inRange e.hw h) && (e.kind == 3 || inRange e.mgmt m) && (e.kind == 2 || inRange e.sec s)

/-- The permitted features, and the reason of restricted mode, 0 for none, by the procedure of R422. -/
def compat (b : Bytes) (h m s : Nat) : Nat × Nat :=
  let es := manEntries b
  let cov (kinds : List Nat) : List ManEntry := es.filter (fun e => e.covers kinds h m s)
  let union (l : List ManEntry) : Nat := l.foldl (fun a e => a ||| e.features) 0
  let base := fieldAt b 4 4
  let orBase (l : List ManEntry) : Nat := if l.isEmpty then base else union l
  if b = [] then (0, 0x0046)
  else if !(cov [1]).isEmpty then (union (cov [1]), 0)
  else
    (orBase (cov [1, 2]) &&& orBase (cov [1, 3]) &&& orBase (cov [1, 4]),
     if (cov [2]).isEmpty || (cov [3]).isEmpty then 0x0047 else 0x0049)

/-- Controls that Table CAST-4 names stand at 0 where their feature is not permitted (R423). -/
def State.holdControls (s : State) : State :=
  let hold (s : State) (bit : Nat) (f : Field) : State := if s.boot.features.testBit bit then s else s.set f 0
  (hold (hold (hold s 3 XPORT_CODE.CODE_AUTO) 4 PURL_CFG.ADAPT_EN) 6 PHO_CTRL.AUTO_HANDOVER).clearExport

/-- The features and the mode that R422 decides. -/
def State.setCompat (s : State) (c : Nat × Nat) : State :=
  let s := { s with boot := { s.boot with features := c.1 } }
  let r := b2n (c.2 != 0)
  let s := ((s.set TOP_STATE.RESTRICTED r).set TOP_STATE.RESTRICT_REASON c.2).set CIPH_SECURITY.RESTRICTED r
  (if c.2 = 0 then s else s.report c.2).holdControls

/-- COMPAT_DONE (R421, R422): features and mode are decided, and cast-on goes on to SRAM, or waits for a bundle. -/
def execCompatDone (s : State) : Host.Outcome State Fault Refusal :=
  if s.phase ≠ 3 then .next s
  else
    let s := s.setCompat (compat s.boot.manifest (s.get TOP_REV.HW_REV) (s.get TOP_FW.MGMT_FW_VERSION) (s.get TOP_FW.SEC_FW_VERSION))
    if s.boot.bundle = [] then .next ((s.report 0x004B).toPhase 4) else .next (s.toPhase 5)

/-- BUNDLE_STAGED (R421): in BUNDLE_WAIT a staged bundle that verifies is taken, and cast-on goes on at SRAM; another is refused
(R265). -/
def execBundleStaged (o : SignedObj) (s : State) : Host.Outcome State Fault Refusal :=
  if s.phase ≠ 4 then .next s
  else if bundleOk s.bundleAnchor o then .next ((s.takeBundle o).clearExport.toPhase 5)
  else .next (s.report 0x0A1A)

/-! ## SRAM, training and test (R424 to R427) -/

/-- SRAM_DONE (R424): the repair map is applied, the march has run and M[6] takes the final map, or the die is faulty. The spare rows left
follow from the map, whose layout the spec leaves open (log entry 3). -/
def execSramDone (beyond : Bool) (map : Bytes) (s : State) : Host.Outcome State Fault Refusal :=
  if s.phase ≠ 5 then .next s
  else if beyond then .next (s.castFail 0x0051)
  else
    let s := { s with memst := { s.memst with sramPending := [] } }.set MEM_REPAIR.SRAM_PENDING 0
    .next (((s.fresh.2.set MEM_REPAIR.SRAM_SPARE_FREE s.fresh.1).extend 6 (sha256 map)).toPhase 6)

/-- MEMTRAIN_DONE (R425, Table CAST-6): training is chosen and run, pending rows are repaired, and the test is chosen. -/
def execMemtrainDone (x : TrainInput) (s : State) : Host.Outcome State Fault Refusal :=
  if s.phase ≠ 6 then .next s
  else
    let bad := !s.keep.trained || x.recordBad || decide (s.tempDelta < x.moved)
    let train := s.startMode == 1 || bad || s.keep.memFailed
    let due := s.startMode == 0 && (s.fullTestH == 0 || decide (s.fullTestH < x.hours))
    let test := train || !s.memst.lpddrPending.isEmpty || !s.keep.fullPassed || due
    let s := if bad then s.report 0x004C else s
    let s := if train then s else x.failedCheck.foldl (fun s _ => s.report 0x004C) s
    match x.failed.filter (fun c => train || x.failedCheck.contains c) with
    | some c => .next (((s.set MEM_ERR_LOG.REASON 0x004D).set MEM_ERR_LOG.CHANNEL c.val).castFail 0x004D)
    | none =>
      let s := { s with
        boot := { s.boot with fullTrain := train, fullTest := test }
        memst := { s.memst with lpddrPending := [] } }.set MEM_REPAIR.LPDDR_PENDING 0
      .next (((List.range 16).foldl (fun s d => s.set MEM_DEV.PENDING 0 d) s).toPhase 7)

/-- MEMTEST_DONE (R426, R427): the test ends; failing rows are repaired and tested again, stay in service under ECC, or stop cast-on. -/
def execMemtestDone (x : TestInput) (s : State) : Host.Outcome State Fault Refusal :=
  if s.phase ≠ 7 then .next s
  else
    let s := if x.repaired then s.report 0x004E else s
    let s := x.single.foldl (fun s a => (s.set MEM_ERR_ADDR.ADDR a).report 0x0509) s
    match x.beyond, x.repairFails with
    | some a, _ => .next ((s.set MEM_ERR_ADDR.ADDR a).castFail 0x004F)
    | none, some a => .next ((s.set MEM_ERR_ADDR.ADDR a).castFail 0x0050)
    | none, none =>
      let k := { s.keep with
        trained := s.keep.trained || s.boot.fullTrain
        fullPassed := s.keep.fullPassed || s.boot.fullTest
        memFailed := false }
      .next ({ s with keep := k, boot := { s.boot with confirmed := [], resent := [] } }.toPhase 8)

/-! ## Engine tables (R428 to R430) -/

/-- The engine table set of the bundle in force. -/
def State.tableSet (s : State) : Bytes := (sectionOf s.boot.bundle 3).getD []

/-- The CRC of the table-set entry that names a unit's cluster (Table CAST-7). -/
def State.entryCrc (s : State) (u : TableUnit) : Option Nat :=
  let b := s.tableSet
  (List.range (fieldAt b 4 4)).findSome? (fun e =>
    let o := 16 + 16 * e
    if fieldAt b o 1 % 32 = u.block.val ∧ ((fieldAt b (o + 1) 1).testBit 0 ∨ fieldAt b (o + 2) 2 = u.cluster.toNat) then
      some (fieldAt b (o + 12) 4)
    else none)

/-- Resends that a unit has had. -/
def State.resends (s : State) (u : TableUnit) : Nat := lookupD s.boot.resent u 0

/-- Whether a unit's table is under way: during TABLES, during a live re-configuration, or after a resend. -/
def State.tableActive (s : State) (u : TableUnit) : Bool :=
  s.phase == 8 || s.hlth.update.any (fun x => x.object == 3) || s.resends u != 0

/-- The panel of a cluster, 3 where it has no gauge. -/
def State.clusterPanel (s : State) (block c : Nat) : Nat :=
  match gaugeOf gaugeRuns 0 block c with
  | none => 3
  | some g => s.get HLTH_GAUGE.PANEL g

/-- A unit stays disabled (R430): its record, and then its block's own row of Table ARCH-6. Unit 64 of a column group is the group's
spare. -/
def State.tableDisable (s : State) (u : TableUnit) (reason : Nat) : State :=
  let b := u.block.val
  let c := u.cluster.toNat
  let n := u.unit.toNat
  let p := s.clusterPanel b c
  let s := { s with boot := { s.boot with
    disabled := addOnce s.boot.disabled u
    confirmed := s.boot.confirmed.filter (· ≠ u)
    resent := assocErase s.boot.resent u } }
  let s := (s.report reason).health
    { reason := reason, kind := 7, level := 0, block := b, panel := p, action := 4, cluster := c, unit := n }
  if b = 11 then (if h : n < 64 then s.groupFault reason c (some ⟨n, h⟩) none else s.bedCap)
  else if b = 12 ∨ b = 13 then s.clusterOut reason b p c
  else
    match (clusterUnits b c).drop n with
    | [] => s
    | x :: _ => (s.unitFault x).capChange b

/-- A unit has not confirmed its table: it is sent again, or after RESEND_MAX resends the unit is disabled (R429, R430, R454). In an audit
the resend and the disabling have reasons of their own. -/
def State.tableResend (s : State) (u : TableUnit) (audit : Bool) : State :=
  let n := s.resends u
  if n < s.resendMax then
    let s := { s with boot := { s.boot with
      resent := assocPut s.boot.resent u (n + 1), confirmed := s.boot.confirmed.filter (· ≠ u) } }
    if audit then
      (s.hlthReport 0x1022 HLTH_INT_STATUS.TABLE).health
        { reason := 0x1022, kind := 7, level := 0, block := u.block.val, panel := s.clusterPanel u.block.val u.cluster.toNat
          cluster := u.cluster.toNat, unit := u.unit.toNat }
    else s
  else if audit then (s.hlthReport 0x1023 HLTH_INT_STATUS.TABLE).tableDisable u 0x1023
  else s.tableDisable u 0x0053

/-- TABLE_CONFIRM (R428, R429): a unit answers with the CRC of its copy. -/
def execTableConfirm (u : TableUnit) (crc : BitVec 32) (s : State) : Host.Outcome State Fault Refusal :=
  if !s.tableActive u || s.boot.confirmed.contains u || s.boot.disabled.contains u then .next s
  else if s.entryCrc u = some crc.toNat then
    let late := s.resends u != 0
    let s := { s with boot := { s.boot with confirmed := s.boot.confirmed ++ [u], resent := assocErase s.boot.resent u } }
    .next (if late then s.report 0x0052 else s)
  else .next (s.tableResend u (s.phase == 0x0B && s.hlth.update.isNone))

/-- TABLE_CONFIRM_TIMEOUT (R429): a unit has not answered within 1 ms. -/
def execTableConfirmTimeout (u : TableUnit) (s : State) : Host.Outcome State Fault Refusal :=
  if !s.tableActive u || s.boot.confirmed.contains u || s.boot.disabled.contains u then .next s
  else .next (s.tableResend u (s.phase == 0x0B && s.hlth.update.isNone))

/-- TABLE_AUDIT (R454, R457): a unit reports the CRC of its stored table again. -/
def execTableAudit (u : TableUnit) (crc : BitVec 32) (s : State) : Host.Outcome State Fault Refusal :=
  if !s.on HLTH_STATUS.READY || s.get HLTH_AUDIT.TABLE_AUDIT_S = 0 || s.boot.disabled.contains u || s.entryCrc u = some crc.toNat then .next s
  else .next (s.tableResend u true)

/-! ## Restore (R431, R443) -/

/-- The slot that RESTORE takes: committed, unconsumed, the highest sequence. -/
def State.imageSlot (s : State) : Option Bool :=
  let ok (i : Bool) : Bool := (s.keep.slot i).any (fun x => !x.consumed)
  let seq (i : Bool) : Nat := ((s.keep.slot i).map (·.seq)).getD 0
  if ok false && ok true then some (decide (seq false < seq true)) else if ok false then some false else if ok true then some true else none

/-- Put back the registers of the image; XPORT's ENABLE stays 0 (R443). -/
def State.putImageRegs (s : State) (x : CritImage) : State :=
  x.csr.foldl (fun s e =>
    match findReg e.1 with
    | none => s
    | some h => s.wrReg h.reg (if h.reg.base = XPORT_CTRL.base then setBits e.2 0 1 0 else e.2) h.i h.j) s

/-- A valid transmit slot resumes at CTR = H + 2^24, and H = CTR + 2^23 is committed before its first seal (R243). -/
def State.resumeSlot (s : State) (id k : Nat) (x : KeySlot) : KeySlot × State :=
  if x.valid then
    let ctr := (s.ledger id k).h + 2 ^ 24
    ({ x with ctr := ctr }, s.ledgerInstall id k x.gen ctr)
  else (x, s)

/-- One context of the image is unwrapped and held again (R250). -/
def State.restoreCtx (s : State) (x : Nat × Bytes) : State :=
  match readImage true x.2 with
  | none => s
  | some (id, c) =>
    if c.rx then s.putCtx id c
    else
      let a := s.resumeSlot id 0 c.slot0
      let b := a.2.resumeSlot id 1 c.slot1
      b.2.putCtx id { c with slot0 := a.1, slot1 := b.1 }

/-- Job entries whose saved state was between OPEN and DONE (R65). -/
def State.lostJobs (s : State) : List Nat :=
  s.jobsOn.filter (fun j =>
    let st := (s.stepRec j).state
    decide (1 ≤ st ∧ st ≤ 10) || st == 0x10 || st == 0x11 || st == 0x13)

/-- Each chunk of the retention index is named in the health log, whose record's layout the spec leaves open (R443; log entry 54). -/
def State.nameRetained (s : State) (x : CritImage) : State :=
  x.retained.foldl (fun s r => s.health
    { reason := 0x100A, kind := 3, level := 4, job := s.get JOB_CTRL.JOB_ID r.entry, step := r.step
      body := Config.retentionNote r.peer r.chunk }) s

/-- The image of a slot is applied in the order of R443. -/
def State.applyImage (s : State) (x : CritImage) : State :=
  let s := s.putImageRegs x
  let s := { s with ciph := { s.ciph with wrapCtr := x.wrapCtr, establish := x.establish } }
  let s := (x.wrapped.foldl State.restoreCtx s).wrReg CIPH_STORE_BASE 0
  let tail := x.logTail ++ s.hlth.logTail
  let s := { s with
    hostq := { s.hostq with abandoned := x.inFlight }
    xport := { s.xport with jobs := x.jobs, resetDue := true }
    hlth := { s.hlth with history := x.history, restoredTail := x.logTail, logTail := tail.drop (tail.length - 16384) } }
  let s := s.set XPORT_STATUS.JOBS_ENABLED s.jobsOn.length
  (s.lostJobs.foldl State.jobStateLost s).nameRetained x

/-- RESTORE_PHASE (R443): the newest unconsumed image is applied, or refused where its CRC or header checks fail. -/
def State.restoreRun (s : State) (bad : Bool → Bool) : State :=
  match s.imageSlot with
  | none => s
  | some i =>
    if bad i then s.hlthReport 0x100B HLTH_INT_STATUS.RESTORE
    else
      match s.keep.slot i with
      | none => s
      | some x =>
        let s := { s.applyImage x with boot := { (s.applyImage x).boot with restored := some i } }
        (s.hlthReport 0x1007 HLTH_INT_STATUS.RESTORE).hlthReport 0x100A HLTH_INT_STATUS.RESTORE

/-! ## Register settings and enables (R432, R453) -/

/-- The register settings of a bundle: address and value, in order. -/
def settings (b : Bytes) : List (Nat × Nat) :=
  let x := (sectionOf b 2).getD []
  (List.range (x.length / 16)).map (fun i => (fieldAt x (16 * i) 8, fieldAt x (16 * i + 8) 8))

/-- Whether an address is the CTRL register of a block. -/
def isCtrl (a : Nat) : Bool := decide (0x100000 ≤ a ∧ a < 0x1200000) && a == (ctrlReg (a / 0x100000)).base

/-- The blocks that a bundle enables: ENABLE of the last setting of their CTRL register (R432; log entry 55). -/
def bundleEnables (b : Bytes) : List Nat :=
  ((List.range 17).map (· + 1)).filter (fun k =>
    ((settings b).filter (fun x => x.1 == (ctrlReg k).base)).getLast?.any (fun x => x.2.testBit 0))

/-- Module firmware writes one register setting; ENABLE of a block keeps its value, since enables have their stages. Answers whether it
was refused for a feature (R423, R432). -/
def State.putSetting (s : State) (x : Nat × Nat) : Bool × State :=
  let v := BitVec.ofNat 64 x.2
  let v := if isCtrl x.1 then setBits v 0 1 (s.get (enableOf (x.1 / 0x100000))) else v
  let w := s.writeAt id .mgmt x.1 v
  (w.reason == 0x0048, if w.viol then w.st.csrViolation .mgmt w.reason x.1 x.2 else w.st)

/-- The register-settings section applies; settings refused for a feature are reported once (R423). -/
def State.putSettings (s : State) : State :=
  let r := (settings s.boot.bundle).foldl (fun (a : Bool × State) x =>
    let y := a.2.putSetting x
    (a.1 || y.1, y.2)) (false, s)
  if r.1 then r.2.castRecord 0x0048 else r.2

/-- The blocks of a stage of R432, in its order. -/
def stageBlocks (n : Nat) : List Nat :=
  match n with
  | 1 => [5, 4, 1, 14]
  | 2 => [2, 3]
  | 3 => [11, 12, 13, 10, 7, 6, 8, 15, 16]
  | 4 => [9, 17]
  | _ => []

/-- The next block of a stage whose checks run one after another starts, once no check runs (R432). -/
def State.castNext (s : State) : State :=
  if s.phase = 0x0A ∧ s.ctl.checking = [] then
    match s.boot.turn with
    | [] => s
    | b :: r => { s with boot := { s.boot with turn := r } }.blockEnableWrite b true
  else s

/-- CONFIG_CHECK_END (R398): a block's check ends, and in cast-on the next block of a stage may begin (R432). -/
def execConfigCheckEnd (b : Fin 18) (fails : Bool) (s : State) : Host.Outcome State Fault Refusal := .next (s.checkEnd b fails).castNext

/-- A stage begins (R432): stages 1 and 4 block by block, the others together; M[5] takes the swatch-set digests before stage 3. -/
def State.stageBegin (s : State) (n : Nat) : State :=
  let s := { s with boot := { s.boot with stage := n } }
  let s := match n, sectionOf s.boot.bundle 4 with
    | 3, some b =>
      let d := Config.swatchDigests b
      ((s.extend 5 d.1).extend 5 d.2.1).extend 5 d.2.2
    | _, _ => s
  let bs := (stageBlocks n).filter (fun b => s.boot.enables.contains b)
  if n = 1 ∨ n = 4 then { s with boot := { s.boot with turn := bs } }.castNext
  else bs.foldl (fun s b => s.blockEnableWrite b true) s

/-- ENGINES begins: the register settings, then stage 1 (R432). -/
def State.enginesBegin (s : State) : State :=
  let s := (s.toPhase 0x0A).putSettings
  ({ s with boot := { s.boot with enables := bundleEnables s.boot.bundle } }).stageBegin 1

/-- RESTORE ends where it runs, and ENGINES begins. -/
def execRestorePhase (bad0 bad1 : Bool) (s : State) : Host.Outcome State Fault Refusal :=
  if s.phase ≠ 9 then .next s else .next (s.restoreRun (fun i => if i then bad1 else bad0)).enginesBegin

/-- What the last bind-off left to be reported (R442). -/
def State.bindReport (s : State) : State :=
  let r := s.keep.lastReport
  if r = 0 then s
  else
    ({ s with keep := { s.keep with lastReport := 0 } }.hlthReport r HLTH_INT_STATUS.RESTORE).health { reason := r, kind := 3, level := 4 }

/-- M[4] takes the digest of the table section's body once every table has been sent (R428). -/
def State.tablesMeasured (s : State) : State :=
  match sectionOf s.boot.bundle 3 with
  | none => s
  | some b => s.extend 4 (sha256 b)

/-- The tables of cast-on are settled: RESTORE where a critical state waits, else ENGINES (R431). -/
def State.tablesEnd (s : State) : State :=
  let s := s.tablesMeasured.bindReport
  if s.imageSlot.isSome then s.toPhase 9 else s.enginesBegin

/-- READY (R420, R431, R432): the slot restored is consumed, floors rise outside restricted mode, and a CERT goes to each enabled peer
(R257). -/
def State.castReady (s : State) : State :=
  let s := s.toPhase 0x0B
  let k := match s.boot.restored with
    | none => s.keep
    | some i => s.keep.putSlot i ((s.keep.slot i).map (fun x => { x with consumed := true }))
  let k := if s.on TOP_STATE.RESTRICTED then k
    else { k with
      floorSec := max k.floorSec (fieldAt s.boot.manifest 8 4)
      floorMgmt := max k.floorMgmt (fieldAt s.boot.manifest 12 4) }
  let s := { s with keep := k }.csUpdate
  let s := s.report (if s.boot.fullTrain || s.boot.fullTest then 0x0041 else 0x0040)
  s.peers.foldl State.sendCert s

/-- Whether a block of the stage whose refusal stops cast-on has refused its enable (R432). -/
def State.stageFailed (s : State) : Bool :=
  (stageBlocks s.boot.stage).any (fun b => [5, 4, 2, 1].contains b && s.boot.enables.contains b && !s.on (enableOf b))

/-- ENGINES_STAGE_DONE (R432): once every check of the stage has ended, the next stage begins; ENGINES ends with stage 4. -/
def execEnginesStageDone (s : State) : Host.Outcome State Fault Refusal :=
  if s.phase ≠ 0x0A ∨ s.ctl.checking ≠ [] ∨ s.boot.turn ≠ [] then .next s
  else if s.stageFailed then .next (s.castFail 0x0054)
  else if s.boot.stage < 4 then .next (s.stageBegin (s.boot.stage + 1))
  else .next s.castReady

end Sys2Proof.Machine
end

