-- ==== Sys2Proof/Machine/Cores.lean ====
section
/-!
DEFINITION. Machine/Cores.lean: the two cores' watchdogs and the decisions that wait while a core restarts
(spec/15_host_link_and_control.md R412, R413).
-/
namespace Sys2Proof.Machine
open Csr

/-! ## Decisions of the security core: key establishment, rekey and quotes -/

/-- REKEY_INTERVAL (R254). -/
def execRekeyInterval (e : Fin 129) (peer : Fin 16) (s : State) : Host.Outcome State Fault Refusal :=
  s.secDecides (.rekeyInterval e peer) (runRekeyInterval e peer)

/-- REKEY_TIMEOUT (Table CIPH-8). -/
def execRekeyTimeout (e : Fin 129) (peer : Fin 16) (s : State) : Host.Outcome State Fault Refusal :=
  s.secDecides (.rekeyTimeout e peer) (runRekeyTimeout e peer)

/-- REKEY_RETRY (Table CIPH-8). -/
def execRekeyRetry (e : Fin 129) (peer : Fin 16) (s : State) : Host.Outcome State Fault Refusal :=
  s.secDecides (.rekeyRetry e peer) (runRekeyRetry e peer)

/-- CONFIRM_RESEND (Table CIPH-8). -/
def execConfirmResend (e : Fin 129) (peer : Fin 16) (s : State) : Host.Outcome State Fault Refusal :=
  s.secDecides (.confirmResend e peer) (runConfirmResend e peer)

/-- OLD_SLOT_RETIRE (R261). -/
def execOldSlotRetire (e : Fin 129) (peer : Fin 16) (s : State) : Host.Outcome State Fault Refusal :=
  s.secDecides (.oldSlotRetire e peer) (runOldSlotRetire e peer)

/-- KEYMAIL_OFFER (R259). -/
def execKeymailOffer (env : Bytes) (s : State) : Host.Outcome State Fault Refusal := s.secDecides (.keymailOffer env) (runKeymailOffer env)

/-- KEYMAIL_ACCEPT (R259). -/
def execKeymailAccept (env : Bytes) (s : State) : Host.Outcome State Fault Refusal := s.secDecides (.keymailAccept env) (runKeymailAccept env)

/-- KEYMAIL_CONFIRM (Table CIPH-8). -/
def execKeymailConfirm (env : Bytes) (s : State) : Host.Outcome State Fault Refusal :=
  s.secDecides (.keymailConfirm env) (runKeymailConfirm env)

/-- KEYMAIL_RETIRE (R261). -/
def execKeymailRetire (env : Bytes) (s : State) : Host.Outcome State Fault Refusal := s.secDecides (.keymailRetire env) (runKeymailRetire env)

/-- KEYMAIL_ABORT (Table CIPH-8). -/
def execKeymailAbort (env : Bytes) (s : State) : Host.Outcome State Fault Refusal := s.secDecides (.keymailAbort env) (runKeymailAbort env)

/-- KEYMAIL_CERT (R257). -/
def execKeymailCert (env : Bytes) (s : State) : Host.Outcome State Fault Refusal := s.secDecides (.keymailCert env) (runKeymailCert env)

/-- QUOTE (R267). -/
def execQuote (w : Work) (s : State) : Host.Outcome State Fault Refusal := s.secDecides (.quote w) (runQuote w)

/-! ## Decisions of the management core -/

/-- REPLAN (R446). -/
def execReplan (p : Fin 3) (s : State) : Host.Outcome State Fault Refusal := s.mgmtDecides (.replan p) (runReplan p)

/-- STRAGGLER_SWAP (R468). -/
def execStragglerSwap (s : State) : Host.Outcome State Fault Refusal := s.mgmtDecides .stragglerSwap (fun s => .next s.stragglerSwap)

/-- What a decision that waited does (R413). -/
def runDecision (i : Instr) (s : State) : Host.Outcome State Fault Refusal :=
  match i with
  | .rekeyInterval e p => runRekeyInterval e p s
  | .rekeyTimeout e p => runRekeyTimeout e p s
  | .rekeyRetry e p => runRekeyRetry e p s
  | .confirmResend e p => runConfirmResend e p s
  | .oldSlotRetire e p => runOldSlotRetire e p s
  | .keymailOffer env => runKeymailOffer env s
  | .keymailAccept env => runKeymailAccept env s
  | .keymailConfirm env => runKeymailConfirm env s
  | .keymailRetire env => runKeymailRetire env s
  | .keymailAbort env => runKeymailAbort env s
  | .keymailCert env => runKeymailCert env s
  | .quote w => runQuote w s
  | .replan p => runReplan p s
  | .stragglerSwap => .next s.stragglerSwap
  | _ => .next s

/-- The decisions that waited for a core are taken in their order. -/
def State.takeWaiting (s : State) (sec : Bool) : State :=
  let l := if sec then s.ctl.waitSec else s.ctl.waitMgmt
  let s := { s with ctl := if sec then { s.ctl with waitSec := [] } else { s.ctl with waitMgmt := [] } }
  l.foldl (fun s i =>
    match runDecision i s with
    | .next t => t
    | _ => s) s

/-! ## Watchdogs (R413) -/

/-- The state of a core in TOP_CORE. -/
def coreField (sec : Bool) : Field := if sec then TOP_CORE.SEC_STATE else TOP_CORE.MGMT_STATE

/-- A core's restarts in TOP_CORE. -/
def coreRestarts (sec : Bool) : Field := if sec then TOP_CORE.SEC_RESTARTS else TOP_CORE.MGMT_RESTARTS

/-- WATCHDOG_EXPIRY (R413, R439): a running core restarts alone, or is held stopped at its third restart within an hour. -/
def execWatchdogExpiry (sec : Bool) (s : State) : Host.Outcome State Fault Refusal :=
  if s.get (coreField sec) ≠ 1 ∨ s.hlth.bindingOff then .next s
  else
    let now := s.time.ticks
    let old := (if sec then s.myk.restartsSec else s.myk.restartsMgmt).filter (fun t => decide (now < t + hourTicks))
    let l := now :: old
    let s := { s with myk := if sec then { s.myk with restartsSec := l } else { s.myk with restartsMgmt := l } }
    let s := (s.addSat (coreRestarts sec) 1).raise TOP_INT_STATUS.CORE
    if 3 ≤ l.length then .next ((s.set (coreField sec) 3).handOver 0x0022)
    else .next ((s.set (coreField sec) 2).moduleFault (if sec then 0x0021 else 0x0020))

end Sys2Proof.Machine
end

