-- ==== Sys2Proof/Machine/RegWrites.lean ====
section
/-!
DEFINITION. Machine/RegWrites.lean: the commands that are a write or a read of one register. Each is the register write of
Machine/Control.lean at that register's address, with the bit that the command is named for forced.
-/
namespace Sys2Proof.Machine
open Csr

/-- A value with fields forced. -/
def forced (v : Word) : List (Field × Nat) → Word
  | [] => v
  | (f, x) :: r => forced (setBits v f.lo f.w x) r

/-- A write of one register of a table, with fields forced. -/
def State.regCommand (s : State) (m : Master) (tag : BitVec 10) (r : Reg) (i : Nat) (fs : List (Field × Nat)) (v : Word) :
    State := s.csrWriteWith (fun t => t) m tag.toNat (r.addr i 0) (forced v fs)

/-- The CTRL register of a block, or for TOP, which has no ENABLE, its read-only first register (R397). -/
def ctrlOf (b : Nat) : Reg := if b = 0 then TOP_ID else ctrlReg b

/-- CSR_RD (R394): a register read, checked and answered. -/
def execCsrRd (m : Master) (msg : MykMsg) (s : State) : Host.Outcome State Fault Refusal := .next (s.readMsg m msg)

/-- BLOCK_DRAIN_END (R400): the last descriptor dispatched to a disabled block has completed. -/
def execBlockDrainEnd (b : Fin 18) (s : State) : Host.Outcome State Fault Refusal :=
  if s.ctl.draining.contains b.val && !s.blockBusy b then .next (s.blockOff b) else .next s

/-- TIME_TXQ_LO (R384): a read of the transmit-timestamp queue. -/
def execTimeTxqLo (m : Master) (tag : BitVec 10) (s : State) : Host.Outcome State Fault Refusal :=
  .next (s.csrRead m tag.toNat (TIME_TXQ_LO.addr 0 0))

/-- INTC_CLAIM (R405): a read of a target's claim register. -/
def execIntcClaim (m : Master) (tag : BitVec 10) (t : Fin 3) (s : State) : Host.Outcome State Fault Refusal :=
  .next (s.csrRead m tag.toNat (INTC_CLAIM.addr t 0))

/-- BLOCK_ENABLE_WRITE: ENABLE = 1 is written to a block: its configuration-consistency check starts (R398). -/
def execBlockEnableWrite (m : Master) (tag : BitVec 10) (b : Fin 18) (v : Word) (s : State) : Host.Outcome State Fault Refusal :=
  .next (s.regCommand m tag (ctrlOf b) 0 [(enableOf b, 1)] v)

/-- BLOCK_DISABLE_WRITE: ENABLE = 0 is written to a block: it takes no new work and drains (R400). -/
def execBlockDisableWrite (m : Master) (tag : BitVec 10) (b : Fin 18) (v : Word) (s : State) : Host.Outcome State Fault Refusal :=
  .next (s.regCommand m tag (ctrlOf b) 0 [(enableOf b, 0)] v)

/-- BED_SUBST: a spare-column substitution is requested for the next descriptor boundary (R115). -/
def execBedSubst (m : Master) (tag : BitVec 10) (v : Word) (s : State) : Host.Outcome State Fault Refusal :=
  .next (s.regCommand m tag BED_SUBST 0 [(BED_SUBST.GO, 1)] v)

/-- STCH_SUBST_GO: a stitch cluster is quarantined and its panel's spare takes its place (R133). -/
def execStchSubstGo (m : Master) (tag : BitVec 10) (v : Word) (s : State) : Host.Outcome State Fault Refusal :=
  .next (s.regCommand m tag STCH_SUBST 0 [(STCH_SUBST.GO, 1)] v)

/-- STCH_REQUAL: a quarantined stitch cluster is requalified (R134). -/
def execStchRequal (m : Master) (tag : BitVec 10) (v : Word) (s : State) : Host.Outcome State Fault Refusal :=
  .next (s.regCommand m tag STCH_SUBST 0 [(STCH_SUBST.REQUAL, 1)] v)

/-- PURL_SUBST_GO: a codec cluster is quarantined and a spare takes its place (R165). -/
def execPurlSubstGo (m : Master) (tag : BitVec 10) (v : Word) (s : State) : Host.Outcome State Fault Refusal :=
  .next (s.regCommand m tag PURL_SUBST 0 [(PURL_SUBST.GO, 1)] v)

/-- PURL_REQUAL: a quarantined codec cluster is requalified (R165). -/
def execPurlRequal (m : Master) (tag : BitVec 10) (v : Word) (s : State) : Host.Outcome State Fault Refusal :=
  .next (s.regCommand m tag PURL_SUBST 0 [(PURL_SUBST.REQUAL, 1)] v)

/-- SWAP_ARM: a transmit page swap is armed (R188). -/
def execSwapArm (m : Master) (tag : BitVec 10) (p : Fin 16) (v : Word) (s : State) : Host.Outcome State Fault Refusal :=
  .next (s.regCommand m tag PORT_CM_CTRL p [(PORT_CM_CTRL.SWAP_ARM, 1)] v)

/-- SWAP_CANCEL: a pending page swap is withdrawn (R188). -/
def execSwapCancel (m : Master) (tag : BitVec 10) (p : Fin 16) (v : Word) (s : State) : Host.Outcome State Fault Refusal :=
  .next (s.regCommand m tag PORT_CM_CTRL p [(PORT_CM_CTRL.SWAP_CANCEL, 1)] v)

/-- JOB_ENABLE_WRITE: ENABLE of a job entry is written, with the fields beside it (R232). -/
def execJobEnableWrite (m : Master) (tag : BitVec 10) (j : Fin 128) (v : Word) (s : State) : Host.Outcome State Fault Refusal :=
  .next (s.regCommand m tag JOB_CTRL j [] v)

/-- JOB_PARAM_WRITE: a job's parameters are written, checked whole while the job is enabled (R234). -/
def execJobParamWrite (m : Master) (tag : BitVec 10) (j : Fin 128) (second : Bool) (v : Word)
    (s : State) : Host.Outcome State Fault Refusal :=
  .next (s.regCommand m tag (if second then JOB_PARAM1 else JOB_PARAM0) j [] v)

/-- KEEPALIVE_MS_WRITE: KEEPALIVE_MS is written, below every enabled job's PART_DETECT_MS / 4 (R234). -/
def execKeepaliveMsWrite (m : Master) (tag : BitVec 10) (v : Word) (s : State) : Host.Outcome State Fault Refusal :=
  .next (s.regCommand m tag XPORT_TIMERS 0 [] v)

/-- CIPH_EXTEND: a measurement register 12 to 15 is extended (R266). -/
def execCiphExtend (m : Master) (tag : BitVec 10) (v : Word) (s : State) : Host.Outcome State Fault Refusal :=
  .next (s.regCommand m tag CIPH_EXTEND_CMD 0 [(CIPH_EXTEND_CMD.GO, 1)] v)

/-- EPOCH_ARM: the routing epoch switches and the old one drains (R280). -/
def execEpochArm (m : Master) (tag : BitVec 10) (v : Word) (s : State) : Host.Outcome State Fault Refusal :=
  .next (s.regCommand m tag FAB_EPOCH 0 [(FAB_EPOCH.ARM, 1)] v)

/-- BANK_RELOAD: a bank's controller reads its entry at its next update (R304). -/
def execBankReload (m : Master) (tag : BitVec 10) (v : Word) (s : State) : Host.Outcome State Fault Refusal :=
  .next (s.regCommand m tag PHO_TABLE_CMD 0 [(PHO_TABLE_CMD.RELOAD, 1)] v)

/-- STEER_ARM: a re-steer to the standby map starts (R310). -/
def execSteerArm (m : Master) (tag : BitVec 10) (v : Word) (s : State) : Host.Outcome State Fault Refusal :=
  .next (s.regCommand m tag PHO_STEER_CTRL 0 [(PHO_STEER_CTRL.ARM, 1)] v)

/-- HANDOVER_GO: a laser handover of a position starts (R313). -/
def execHandoverGo (m : Master) (tag : BitVec 10) (v : Word) (s : State) : Host.Outcome State Fault Refusal :=
  .next (s.regCommand m tag PHO_HANDOVER 0 [(PHO_HANDOVER.GO, 1)] v)

/-- QUEUE_ENABLE_WRITE: ENABLE of a queue is written, with the fields beside it (R349). -/
def execQueueEnableWrite (m : Master) (tag : BitVec 10) (q : Fin 8192) (v : Word)
    (s : State) : Host.Outcome State Fault Refusal :=
  .next (s.regCommand m tag Q_CFG q [] v)

/-- GATE_ARM: a standby gate list is loaded for BASE_TIME (R367). -/
def execGateArm (m : Master) (tag : BitVec 10) (p : Fin 16) (v : Word) (s : State) : Host.Outcome State Fault Refusal :=
  .next (s.regCommand m tag GATE_CTRL p [(GATE_CTRL.ARM, 1)] v)

/-- GATE_CANCEL: a pending gate switch is withdrawn (R367). -/
def execGateCancel (m : Master) (tag : BitVec 10) (p : Fin 16) (v : Word) (s : State) : Host.Outcome State Fault Refusal :=
  .next (s.regCommand m tag GATE_CTRL p [(GATE_CTRL.CANCEL, 1)] v)

/-- TIME_SET: T is set (R374, R376). -/
def execTimeSet (m : Master) (tag : BitVec 10) (v : Word) (s : State) : Host.Outcome State Fault Refusal :=
  .next (s.regCommand m tag TIME_SET 0 [] v)

/-- TIME_STEP: a signed number of nanoseconds is added to T (R376). -/
def execTimeStep (m : Master) (tag : BitVec 10) (v : Word) (s : State) : Host.Outcome State Fault Refusal :=
  .next (s.regCommand m tag TIME_STEP 0 [] v)

/-- TIME_OFFSET: an offset sample of the PTP source (R378). -/
def execTimeOffset (m : Master) (tag : BitVec 10) (v : Word) (s : State) : Host.Outcome State Fault Refusal :=
  .next (s.regCommand m tag TIME_OFFSET 0 [] v)

/-- SOURCE_SELECT: SOURCE is written and moves the servo (R379). -/
def execSourceSelect (m : Master) (tag : BitVec 10) (v : Word) (s : State) : Host.Outcome State Fault Refusal :=
  .next (s.regCommand m tag TIME_CTRL 0 [] v)

/-- HOLD: the servo enters HOLDOVER (R379). -/
def execHold (m : Master) (tag : BitVec 10) (v : Word) (s : State) : Host.Outcome State Fault Refusal :=
  .next (s.regCommand m tag TIME_CMD 0 [(TIME_CMD.HOLD, 1)] v)

/-- REACQUIRE: the next used sample leaves HOLDOVER (R379). -/
def execReacquire (m : Master) (tag : BitVec 10) (v : Word) (s : State) : Host.Outcome State Fault Refusal :=
  .next (s.regCommand m tag TIME_CMD 0 [(TIME_CMD.REACQUIRE, 1)] v)

/-- INTC_COMPLETE: a source is completed at a target (R406). -/
def execIntcComplete (m : Master) (tag : BitVec 10) (t : Fin 3) (v : Word) (s : State) : Host.Outcome State Fault Refusal :=
  .next (s.regCommand m tag INTC_COMPLETE t [] v)

/-- INTC_RAISE: one event for a software source (Table HOST-9). -/
def execIntcRaise (m : Master) (tag : BitVec 10) (v : Word) (s : State) : Host.Outcome State Fault Refusal :=
  .next (s.regCommand m tag INTC_RAISE 0 [] v)

/-- INTC_SRC_WRITE: a source's priority and target are written (R410, R411). -/
def execIntcSrcWrite (m : Master) (tag : BitVec 10) (src : Fin 2048) (v : Word) (s : State) : Host.Outcome State Fault Refusal :=
  .next (s.regCommand m tag INTC_SRC src [] v)

/-- MAILBOX_WRITE: a mailbox is written and raises its source (R410, Table HOST-5). -/
def execMailboxWrite (m : Master) (tag : BitVec 10) (k : Fin 4) (v : Word) (s : State) : Host.Outcome State Fault Refusal :=
  .next (s.regCommand m tag TOP_MBOX k [] v)

/-- SHADOW_GO: shadowing of a position begins (R461). -/
def execShadowGo (m : Master) (tag : BitVec 10) (v : Word) (s : State) : Host.Outcome State Fault Refusal :=
  .next (s.regCommand m tag GRP_SHADOW 0 [(GRP_SHADOW.GO, 1)] v)

/-- SHADOW_STOP: shadowing ends (Table GRP-2). -/
def execShadowStop (m : Master) (tag : BitVec 10) (v : Word) (s : State) : Host.Outcome State Fault Refusal :=
  .next (s.regCommand m tag GRP_SHADOW 0 [(GRP_SHADOW.STOP, 1)] v)

/-- TAKEOVER_GO: a takeover of a position begins (R465). -/
def execTakeoverGo (m : Master) (tag : BitVec 10) (v : Word) (s : State) : Host.Outcome State Fault Refusal :=
  .next (s.regCommand m tag GRP_TAKEOVER 0 [(GRP_TAKEOVER.GO, 1)] v)

/-- SNAPSHOT_GO: a snapshot is taken at the next tick (R475). -/
def execSnapshotGo (m : Master) (tag : BitVec 10) (v : Word) (s : State) : Host.Outcome State Fault Refusal :=
  .next (s.regCommand m tag PMON_SNAP 0 [(PMON_SNAP.GO, 1)] v)

/-- SNAPSHOT_RELEASE: the snapshot's latch is released (R476). -/
def execSnapshotRelease (m : Master) (tag : BitVec 10) (v : Word) (s : State) : Host.Outcome State Fault Refusal :=
  .next (s.regCommand m tag PMON_SNAP 0 [(PMON_SNAP.HOLD, 1)] v)

/-- COUNTER_ENABLE: a counter is enabled (R474). -/
def execCounterEnable (m : Master) (tag : BitVec 10) (n : Fin 512) (v : Word) (s : State) : Host.Outcome State Fault Refusal :=
  .next (s.regCommand m tag PMON_EVSEL n [(PMON_EVSEL.EN, 1)] v)

/-- BW_WINDOW_WRITE: WINDOW_NS is written and the windows start anew (R477). -/
def execBwWindowWrite (m : Master) (tag : BitVec 10) (v : Word) (s : State) : Host.Outcome State Fault Refusal :=
  .next (s.regCommand m tag PMON_BW_WINDOW 0 [] v)

/-! ## Dispatch (R351, R352, R499) -/

/-- A fetched descriptor completes at a check of R351, with HOSTQ as the block that completed it. -/
def State.dispatchRefuse (s : State) (f : Fetched) (reason : Nat) : State :=
  let s := (s.headAdvance f.work).checkReport f.work reason
  let fin : Finished := ⟨f.work, { reason := reason, error := true, block := 2 }, f.tFetch, s.now, s.now, f.colour,
    f.work.index == 0xFFFF, f.samplers, true⟩
  { s with hostq := { s.hostq with fetched := s.hostq.fetched.erase f, finished := s.hostq.finished ++ [fin] } }

/-- Whether dispatch to a block is held at the power cap (R438). -/
def State.dispatchHeld (s : State) (block : Nat) : Bool := s.hlth.capHold && s.on HLTH_STATUS.READY && (block == 11 || block == 12)

/-- The reason that a block completes new descriptors with while it is not ready (R400), or none for a descriptor that does not
wait for READY (R268). -/
def notReadyReason (d : Bytes) : Option Nat :=
  match fieldAt d 0 1 with
  | 2 => some 0x0209
  | 4 => some 0x040A
  | 6 => some 0x0624
  | 9 => some 0x0925
  | 10 => if fieldAt d 64 1 = 1 ∨ fieldAt d 64 1 = 2 then some 0x0A1C else none
  | 11 => some 0x0B0D
  | 12 => some 0x0C0C
  | 13 => some 0x0D14
  | _ => none

/-- A descriptor reaches its block. A block that drains completes it at once with its not-ready reason (R400). -/
def State.dispatch (s : State) (f : Fetched) : State :=
  let t := s.toEngine f
  match (if s.ctl.draining.contains f.work.block then notReadyReason f.work.desc else none) with
  | none => t
  | some r => t.finishError f.work r

/-- DESCRIPTOR_DISPATCH (R351, R352, R499): a queue's oldest descriptor, ring and chained ones in order of arrival, is checked
and goes to its block, once its bytes have come and, with FENCE, every earlier one has completed. -/
def execDescriptorDispatch (q : Fin 8192) (s : State) : Host.Outcome State Fault Refusal :=
  match s.hostq.fetched.find? (fun f => f.work.queue == q.val) with
  | none => .next s
  | some f =>
    if !s.on HOSTQ_STATUS.READY || !f.ready || (f.work.flags.testBit 1 && !s.fenceOpen q) then .next s
    else
      match s.dispatchCheck f with
      | some reason => .next (s.dispatchRefuse f reason)
      | none => if s.dispatchHeld f.work.block then .next s else .next (s.dispatch f)

end Sys2Proof.Machine
end

