-- ==== Sys2Proof/Machine/Pmon.lean ====
section
/-!
DEFINITION. Machine/Pmon.lean: what the performance monitor does as time passes (spec/19_observability.md R473 to R477): level
counters, the snapshot at a tick, and bandwidth windows.
-/
namespace Sys2Proof.Machine
open Csr

/-! ## Level counters (R472 to R474) -/

/-- Whether a flow's oldest sealed chunk stays behind for its window or for retention (R221, R222). -/
def State.flowHeld (s : State) (j peer : Nat) : Bool :=
  s.reaches j peer && (s.codeFor (s.usable peer).length).isSome &&
  s.xport.sealed.any (fun c => c.entry == j && c.peer == peer) &&
  (s.formChunk j peer).xport.sealed.length == s.xport.sealed.length

/-- Whether a tenant has a shard and a yarn for it on a port and only its shaper holds it (R361, R363). -/
def State.shaperHeld (s : State) (p t : Nat) : Bool :=
  !s.tenantShaped t && (s.yarnFor p t).isSome && !(s.sched.tenantOut.contains t) &&
  ((s.controlShard p t).isSome || s.eligibleQueues p t != [])

/-- The attributes under which the condition of a level event holds now (Table PMON-1). A stall of the bed or the codec is known at
its end only, so those conditions have none (log entry 49). -/
def State.levelAttrs (s : State) (code : Nat) : List EventAttr :=
  match code with
  | 0x0042 => s.hostq.fullReported.map (fun q => { cls := s.get Q_CFG.CLASS q, tenant := s.get Q_CFG.TENANT_ID q })
  | 0x0023 =>
    (s.sched.shards.filter (fun x => s.shaperHeld x.port x.tenant)).map (fun x => { cls := 10, tenant := x.tenant })
  | 0x0024 => s.skein.waiting.map (fun w => { cls := w.cls, master := some 4, hasTenant := false })
  | 0x0065 => if s.on MEM_STATUS.REFRESH_2X then [{ cls := 1, hasTenant := false }] else []
  | 0x0046 => s.fab.stall.map (fun _ => { cls := 4, hasTenant := false })
  | 0x0027 => if (List.range 32).any (fun l => s.on FAB_LINK_STATUS.QUIET l) then [{ cls := 4, hasTenant := false }] else []
  | 0x0068 =>
    if s.on LINE_STATUS.READY && (bitsOf (s.get LINE_CTRL.PORT_EN) 16).any (fun p => !s.inFrame p) then
      [{ cls := 10, hasTenant := false }]
    else []
  | 0x0029 =>
    (s.xport.sealed.filter (fun c => s.flowHeld c.entry c.peer)).map (fun c => { cls := 9, tenant := s.flowTenant c.entry })
  | 0x002C => if 2 ^ s.get STCH_CHECK.SLOTS_LOG2 ≤ s.stch.slots.length then s.stch.waiting.map s.attrOf else []
  | _ => []

/-- One tick of the level counters: each whose condition holds under its filters adds 1 (R473, R474). -/
def State.levelTick (s : State) : State :=
  if s.on PMON_STATUS.READY && !s.on PMON_CTRL.FREEZE then
    (s.enabledCounters.filter (fun n => s.on PMON_EVSEL.MODE n &&
        (s.levelAttrs (s.get PMON_EVSEL.EVENT n)).any (s.filterPass n))).foldl (fun st n => st.counterAdd n 1) s
  else s

/-! ## Snapshots (R475, R476) -/

/-- The register of an address among those that a snapshot latches. -/
def isLatched (a : Nat) : Bool :=
  match findReg a with
  | none => false
  | some h => latchedRegs.contains h.reg.base

/-- A snapshot at a tick: every enabled counter into its shadow, the wrapping counters latched, T, DONE and HOLD. -/
def State.snapshot (s : State) : State :=
  let t := s.enabledCounters.foldl (fun st n => st.set PMON_SHADOW.COUNT (s.get PMON_CTR.COUNT n) n) s
  let t := (((t.set PMON_SNAP_TIME.NS s.now).set PMON_SNAP.GO 0).set PMON_SNAP.DONE 1).set PMON_SNAP.HOLD 1
  let p := { t.pmon with snapDue := false, latched := s.csr.filter (fun e => isLatched e.1) }
  ({ t with pmon := p }.report 0x0F06).raise PMON_INT_STATUS.SNAP_DONE

/-- What the monitor does at a tick. -/
def State.pmonTick (s : State) : State := if s.pmon.snapDue then s.levelTick.snapshot else s.levelTick

/-! ## Bandwidth windows (R477) -/

/-- One direction of a meter at the end of a window: LAST, WINDOWS and PEAK in KiB. -/
def State.windowDir (s : State) (last windows peak : Field) (k bytes : Nat) : State :=
  let s := (s.set last bytes k).addWrap windows 1 k
  if s.get peak k < bytes / 1024 then s.set peak (bytes / 1024) k else s

/-- BW_WINDOW_END (R477): a window ends, and the next begins, on every meter. -/
def execBwWindowEnd (s : State) : Host.Outcome State Fault Refusal :=
  if s.on PMON_STATUS.READY then
    .next ((List.range 48).foldl (fun st k =>
      (st.windowDir PMON_BW_TX.LAST PMON_BW_TX.WINDOWS PMON_BW_PEAK.TX_KIB k (lookupD s.pmon.meterTx k 0)).windowDir
        PMON_BW_RX.LAST PMON_BW_RX.WINDOWS PMON_BW_PEAK.RX_KIB k (lookupD s.pmon.meterRx k 0)) s).bwRestart
  else .next s

end Sys2Proof.Machine
end

