-- ==== Sys2Proof/Machine/Module.lean ====
section
/-!
DEFINITION. Machine/Module.lean: the module's pins, its sideband and its JTAG port (spec/20_module_reference.md R485 to R491).
-/
namespace Sys2Proof.Machine
open Csr

/-! ## Pins (Table MOD-3) -/

/-- PWR_GOOD, released while the rails are in regulation (R485, R487). -/
def State.pwrGoodPin (s : State) : Bool := s.hlth.pwrGood

/-- BINDOFF_N: low from a trigger until the next restart (Table MOD-3). -/
def State.bindoffN (s : State) : Bool := !s.hlth.bindingOff

/-- ALERT_N (R488): low while TOP_FAULT is active, while the input warns, or while HOLDUP_OK is 0 more than 5 s after PWR_GOOD. -/
def State.alertN (s : State) : Bool :=
  !(s.on TOP_FAULT.ACTIVE || s.on HLTH_STATUS.INPUT_WARN ||
    (!s.on HLTH_STATUS.HOLDUP_OK && s.hlth.pwrGood && (s.hlth.chargeLate || decide (5000000000 < s.mono))))

/-! ## Sideband (R489) -/

/-- The register that a sideband index returns (Table MOD-11). -/
def sidebandReg (i : Nat) : Option (Reg × Nat) :=
  match i with
  | 0 => some (TOP_ID, 0)
  | 1 => some (TOP_STATE, 0)
  | 2 => some (HLTH_STATUS, 0)
  | 3 => some (HLTH_INPUT, 0)
  | 4 => some (HLTH_HOLDUP, 0)
  | 5 => some (HLTH_PANEL_RATE, 0)
  | 6 => some (HLTH_PANEL_RATE, 1)
  | 7 => some (HLTH_PANEL_RATE, 2)
  | 8 => some (TOP_FAULT, 0)
  | 9 => some (HLTH_LAST_BINDOFF, 0)
  | _ => none

/-- The sideband address: 0x58 + SMB_ADDR[2:0]. -/
def sidebandAddr : Nat := 0x58 + Config.smbusStraps.toNat

/-- SMBUS_BLOCK_READ (R489): the 8 bytes of an index, or a not-acknowledge for an index outside the table. -/
def execSmbusBlockRead (index : Byte) (s : State) : Host.Outcome State Fault Refusal :=
  match sidebandReg index.toNat with
  | none => .next (s.emit (.smbus []))
  | some (r, i) => .next (s.emit (.smbus (le 8 (s.rdReg r i).toNat)))

/-- SMBUS_ALERT_RESPONSE (R489): the module's own address while ALERT_N is low, else no answer. -/
def execSmbusAlertResponse (s : State) : Host.Outcome State Fault Refusal :=
  .next (s.emit (.smbus (if s.alertN then [] else [BitVec.ofNat 8 sidebandAddr])))

/-! ## JTAG (R490) -/

/-- The IDCODE. -/
def jtagCode : Nat := 0x108807A5

/-- Whether the port accepts an instruction: IDCODE and BYPASS always; while RESET_N is high the others only with DEBUG_OPEN, and EXTEST
and those of IEEE 1149.6 only while RESET_N is low. -/
def State.jtagAccepts (s : State) (i : JtagIr) : Bool :=
  match i with
  | .idcode | .bypass => true
  | .extest | .acTest => !s.hlth.resetHigh
  | .other => !s.hlth.resetHigh || s.on CIPH_SECURITY.DEBUG_OPEN

/-- JTAG_INSTRUCTION (R490): an accepted instruction is loaded, and IDCODE shifts its code out. -/
def execJtagInstruction (i : JtagIr) (s : State) : Host.Outcome State Fault Refusal :=
  if s.jtagAccepts i then
    .next ({ s with hlth := { s.hlth with jtag := i } }.emit (.jtag i (if i = JtagIr.idcode then jtagCode else 0)))
  else .next s

/-! ## Time goes by -/

/-- What a step does while no command waits: one tick of the time clock, for gateway time and for the performance monitor, once power is
good (R373, R475; log entry 2). -/
def State.idle (s : State) : State := if s.hlth.pwrGood then s.timeTick.pmonTick else s

end Sys2Proof.Machine
end

