-- ==== Sys2Proof/Machine/Update.lean ====
section
/-!
DEFINITION. Machine/Update.lean: live updates of firmware and configuration (spec/17_power_and_health.md R452, R453), the register writes
that begin them, and CSR_WR.
-/
namespace Sys2Proof.Machine
open Csr

/-- Reports of an update with its record (Table PWR-3, kind 8). -/
def State.updateReport (s : State) (reason : Nat) : State :=
  ((s.set HLTH_UPDATE.RESULT reason).hlthReport reason HLTH_INT_STATUS.UPDATE).health { reason := reason, kind := 8, level := 4 }

/-- The update ends with a reason in STATE 4, done, or 5, refused. -/
def State.updateEnd (s : State) (reason st : Nat) : State :=
  let s := { s with hlth := { s.hlth with update := none } }
  (((s.set HLTH_UPDATE.GO 0).set HLTH_UPDATE.STATE st).set HLTH_STATUS.UPDATE_BUSY 0).updateReport reason

/-- An update runs: GO reads 1 and UPDATE_BUSY is set. -/
def State.updateRun (s : State) (u : Update) : State :=
  (({ s with hlth := { s.hlth with update := some u }, boot := { s.boot with staged := none } }.set HLTH_UPDATE.GO 1).set
    HLTH_UPDATE.STATE 3).set HLTH_STATUS.UPDATE_BUSY 1

/-- Whether the manifest in force covers a firmware version with the hardware and the other firmware, in an entry of KIND 1, or of KIND 2 or
3 as applies (R452). -/
def State.updateCovered (s : State) (sec : Bool) (v : Nat) : Bool :=
  let h := s.get TOP_REV.HW_REV
  let m := if sec then s.get TOP_FW.MGMT_FW_VERSION else v
  let k := if sec then v else s.get TOP_FW.SEC_FW_VERSION
  (manEntries s.boot.manifest).any (fun e => e.covers [1, if sec then 3 else 2] h m k)

/-- A live update of a firmware image (R452): it is verified, written to the inactive bank, and its core restarts into it. -/
def State.firmwareUpdate (s : State) (sec : Bool) : State :=
  match s.boot.staged with
  | none => s.updateEnd 0x1032 5
  | some o =>
    let floor := if sec then s.keep.floorSec else s.keep.floorMgmt
    if s.boot.features.testBit 9 && o.verified Config.vendorAnchor && decide (floor ≤ o.version) && s.updateCovered sec o.version then
      let k := if sec then { s.keep with secFw := s.keep.secFw.put (!s.keep.secBank) (some o) }
        else { s.keep with mgmtFw := s.keep.mgmtFw.put (!s.keep.mgmtBank) (some o) }
      ({ s with keep := k }.updateRun ⟨if sec then 2 else 1, o.version, o.digest⟩).set (coreField sec) 2
    else s.updateEnd 0x1032 5

/-- A live re-configuration (R453): the bundle's register settings apply and its tables are broadcast again. -/
def State.bundleUpdate (s : State) : State :=
  match s.boot.staged with
  | none => s.updateEnd 0x1032 5
  | some o =>
    if bundleOk s.bundleAnchor o then
      let s := s.updateRun ⟨3, o.version, o.digest⟩
      { s with boot := { s.boot with bundle := o.body, confirmed := [], resent := [] } }.putSettings
    else s.updateEnd 0x1032 5

/-- What a write of HLTH_UPDATE with GO begins (R452, R453, R457). While another update runs it is refused, and that one goes on. -/
def State.updateGo (s : State) : State :=
  if !s.on HLTH_STATUS.READY then s
  else if s.hlth.update.isSome then s.updateReport 0x1032
  else
    match s.get HLTH_UPDATE.OBJECT with
    | 1 => s.firmwareUpdate false
    | 2 => s.firmwareUpdate true
    | 3 => s.bundleUpdate
    | _ => s

/-- A write of HLTH_UPDATE by a master that names an object, with what has been staged for it. -/
def State.updateWrite (s : State) (m : Master) (tag : BitVec 10) (staged : Option SignedObj) (object : Nat) : State :=
  { s with boot := { s.boot with staged := staged } }.csrWriteWith State.updateGo m tag.toNat HLTH_UPDATE.base
    (BitVec.ofNat 64 (object + 4))

/-- FW_UPDATE_MGMT (R452): GO with OBJECT 1. -/
def execFwUpdateMgmt (m : Master) (tag : BitVec 10) (staged : Option SignedObj) (s : State) : Host.Outcome State Fault Refusal :=
  .next (s.updateWrite m tag staged 1)

/-- FW_UPDATE_SEC (R452): GO with OBJECT 2. -/
def execFwUpdateSec (m : Master) (tag : BitVec 10) (staged : Option SignedObj) (s : State) : Host.Outcome State Fault Refusal :=
  .next (s.updateWrite m tag staged 2)

/-- BUNDLE_APPLY (R453): GO with OBJECT 3. -/
def execBundleApply (m : Master) (tag : BitVec 10) (staged : Option SignedObj) (s : State) : Host.Outcome State Fault Refusal :=
  .next (s.updateWrite m tag staged 3)

/-- CSR_WR (R8, R11, R394): a register write of the host or of a core. -/
def execCsrWr (m : Master) (msg : MykMsg) (s : State) : Host.Outcome State Fault Refusal := .next (s.writeMsg State.updateGo m msg)

/-- The core runs the new image: its bank is in use, and M[1] takes module firmware's digest (R452). -/
def State.firmwareStarted (s : State) (u : Update) : State :=
  let s := if u.object = 1 then
      ({ s with keep := { s.keep with mgmtBank := !s.keep.mgmtBank } }.set TOP_FW.MGMT_FW_VERSION u.version).extend 1 u.digest
    else { s with keep := { s.keep with secBank := !s.keep.secBank } }.set TOP_FW.SEC_FW_VERSION u.version
  s.updateEnd 0x1031 4

/-- CORE_RESTART_DONE (R413, R452): a restarted core runs again, an update of its firmware is complete, and the decisions that waited are
taken. -/
def execCoreRestartDone (sec : Bool) (s : State) : Host.Outcome State Fault Refusal :=
  if s.get (coreField sec) ≠ 2 then .next s
  else
    let s := s.set (coreField sec) 1
    let s := match s.hlth.update with
      | none => s
      | some u => if u.object = (if sec then 2 else 1) then s.firmwareStarted u else s
    .next (s.takeWaiting sec)

/-- UPDATE_START_TIMEOUT (R452): the new image has not started within 60 s, and the core restarts the previous bank. -/
def execUpdateStartTimeout (s : State) : Host.Outcome State Fault Refusal :=
  match s.hlth.update with
  | none => .next s
  | some u => if u.object = 3 then .next s else .next (s.updateEnd 0x1032 5)

/-- TABLES_DONE (R428, R453): every table has been sent and every unit confirmed or disabled, in cast-on or in a live
re-configuration, which also extends M[3]. -/
def execTablesDone (s : State) : Host.Outcome State Fault Refusal :=
  if s.phase = 8 then .next s.tablesEnd
  else
    match s.hlth.update with
    | none => .next s
    | some u => if u.object = 3 then .next (((s.extend 3 u.digest).tablesMeasured).updateEnd 0x1033 4) else .next s

end Sys2Proof.Machine
end

