-- ==== Sys2Proof/Machine/Dispatch.lean ====
section
/-!
DEFINITION. Machine/Dispatch.lean: one arm for each command, one direct call of its meaning.
-/
namespace Sys2Proof.Machine

def exec (i : Instr) (s : State) : Host.Outcome State Fault Refusal :=
  match i with
  | .csrRd m msg => Sys2Proof.Machine.execCsrRd m msg s
  | .csrWr m msg => Sys2Proof.Machine.execCsrWr m msg s
  | .blockEnableWrite m tag b v => Sys2Proof.Machine.execBlockEnableWrite m tag b v s
  | .configCheckEnd b fails => Sys2Proof.Machine.execConfigCheckEnd b fails s
  | .blockDisableWrite m tag b v => Sys2Proof.Machine.execBlockDisableWrite m tag b v s
  | .blockDrainEnd b => Sys2Proof.Machine.execBlockDrainEnd b s
  | .unitInternalError u => Sys2Proof.Machine.execUnitInternalError u s
  | .poisonedOutputRerun w f => Sys2Proof.Machine.execPoisonedOutputRerun w f s
  | .stepOpen w => Sys2Proof.Machine.execStepOpen w s
  | .stepOpenRelease j => Sys2Proof.Machine.execStepOpenRelease j s
  | .stepMembership w => Sys2Proof.Machine.execStepMembership w s
  | .stepFrog w => Sys2Proof.Machine.execStepFrog w s
  | .stepAbort w => Sys2Proof.Machine.execStepAbort w s
  | .stepResume w => Sys2Proof.Machine.execStepResume w s
  | .stepResend w => Sys2Proof.Machine.execStepResend w s
  | .ingestEnd j => Sys2Proof.Machine.execIngestEnd j s
  | .stageComplete j => Sys2Proof.Machine.execStageComplete j s
  | .cleanWaitExpiry j => Sys2Proof.Machine.execCleanWaitExpiry j s
  | .stepStalled j => Sys2Proof.Machine.execStepStalled j s
  | .stepClose j => Sys2Proof.Machine.execStepClose j s
  | .partitionDetect j site => Sys2Proof.Machine.execPartitionDetect j site s
  | .rejoinStableExpiry site => Sys2Proof.Machine.execRejoinStableExpiry site s
  | .rejoinReceived j site => Sys2Proof.Machine.execRejoinReceived j site s
  | .resyncFetchEnd j => Sys2Proof.Machine.execResyncFetchEnd j s
  | .project w faults => Sys2Proof.Machine.execProject w faults s
  | .projectT w faults => Sys2Proof.Machine.execProjectT w faults s
  | .backproject w faults => Sys2Proof.Machine.execBackproject w faults s
  | .ortho w faults => Sys2Proof.Machine.execOrtho w faults s
  | .momentum w => Sys2Proof.Machine.execMomentum w s
  | .nesterov w => Sys2Proof.Machine.execNesterov w s
  | .scale w => Sys2Proof.Machine.execScale w s
  | .residual w => Sys2Proof.Machine.execResidual w s
  | .generate w => Sys2Proof.Machine.execGenerate w s
  | .bedSwatch w fail => Sys2Proof.Machine.execBedSwatch w fail s
  | .bedInterleavedSwatch fail => Sys2Proof.Machine.execBedInterleavedSwatch fail s
  | .bedSubst m tag v => Sys2Proof.Machine.execBedSubst m tag v s
  | .bedStallResume feed handshakes => Sys2Proof.Machine.execBedStallResume feed handshakes s
  | .accumulate w fault => Sys2Proof.Machine.execAccumulate w fault s
  | .stchHeldTermRelease slot fault => Sys2Proof.Machine.execStchHeldTermRelease slot fault s
  | .stchPoison w => Sys2Proof.Machine.execStchPoison w s
  | .stchSwatch w fail => Sys2Proof.Machine.execStchSwatch w fail s
  | .stchClusterSwatch c fail => Sys2Proof.Machine.execStchClusterSwatch c fail s
  | .stchSubstGo m tag v => Sys2Proof.Machine.execStchSubstGo m tag v s
  | .stchRequal m tag v => Sys2Proof.Machine.execStchRequal m tag v s
  | .poisonReceived j site => Sys2Proof.Machine.execPoisonReceived j site s
  | .encode w fault => Sys2Proof.Machine.execEncode w fault s
  | .decode w cluster upset => Sys2Proof.Machine.execDecode w cluster upset s
  | .purlSwatch w fails => Sys2Proof.Machine.execPurlSwatch w fails s
  | .secondDecode cluster upset => Sys2Proof.Machine.execSecondDecode cluster upset s
  | .rawResendReceived j site first => Sys2Proof.Machine.execRawResendReceived j site first s
  | .rawRefuseReceived j site => Sys2Proof.Machine.execRawRefuseReceived j site s
  | .purlSubstGo m tag v => Sys2Proof.Machine.execPurlSubstGo m tag v s
  | .purlRequal m tag v => Sys2Proof.Machine.execPurlRequal m tag v s
  | .purlStallResume input handshakes => Sys2Proof.Machine.execPurlStallResume input handshakes s
  | .codewordLockGained p lane => Sys2Proof.Machine.execCodewordLockGained p lane s
  | .codewordLockLost p lane => Sys2Proof.Machine.execCodewordLockLost p lane s
  | .lineSignalLoss p lane => Sys2Proof.Machine.execLineSignalLoss p lane s
  | .alignmentWordLock p lane e => Sys2Proof.Machine.execAlignmentWordLock p lane e s
  | .rxFrameStart p f => Sys2Proof.Machine.execRxFrameStart p f s
  | .perfSecondEnd p => Sys2Proof.Machine.execPerfSecondEnd p s
  | .txFrameStart p => Sys2Proof.Machine.execTxFrameStart p s
  | .swapArm m tag p v => Sys2Proof.Machine.execSwapArm m tag p v s
  | .swapCancel m tag p v => Sys2Proof.Machine.execSwapCancel m tag p v s
  | .autoNarrow p => Sys2Proof.Machine.execAutoNarrow p s
  | .autoWiden p => Sys2Proof.Machine.execAutoWiden p s
  | .trainTimeout p => Sys2Proof.Machine.execTrainTimeout p s
  | .chunkMessageForm j peer => Sys2Proof.Machine.execChunkMessageForm j peer s
  | .shardReceived p y => Sys2Proof.Machine.execShardReceived p y s
  | .shardWindowExpiry j peer cw => Sys2Proof.Machine.execShardWindowExpiry j peer cw s
  | .portReuseExpiry peer port => Sys2Proof.Machine.execPortReuseExpiry peer port s
  | .portStatePeriodic => Sys2Proof.Machine.execPortStatePeriodic s
  | .portStateReceived site => Sys2Proof.Machine.execPortStateReceived site s
  | .ackInterval => Sys2Proof.Machine.execAckInterval s
  | .ackReceived j site => Sys2Proof.Machine.execAckReceived j site s
  | .nackRepeatExpiry j peer cw => Sys2Proof.Machine.execNackRepeatExpiry j peer cw s
  | .controlRepeatExpiry j peer seq => Sys2Proof.Machine.execControlRepeatExpiry j peer seq s
  | .cleanReceived j site => Sys2Proof.Machine.execCleanReceived j site s
  | .chunkResendReceived j site => Sys2Proof.Machine.execChunkResendReceived j site s
  | .keepaliveSend => Sys2Proof.Machine.execKeepaliveSend s
  | .keepaliveReceived site => Sys2Proof.Machine.execKeepaliveReceived site s
  | .rebuildReceived j site => Sys2Proof.Machine.execRebuildReceived j site s
  | .rebuildNotHeldReceived j site => Sys2Proof.Machine.execRebuildNotHeldReceived j site s
  | .flowResetReceived j site => Sys2Proof.Machine.execFlowResetReceived j site s
  | .jobEnableWrite m tag j v => Sys2Proof.Machine.execJobEnableWrite m tag j v s
  | .jobParamWrite m tag j second v => Sys2Proof.Machine.execJobParamWrite m tag j second v s
  | .keepaliveMsWrite m tag v => Sys2Proof.Machine.execKeepaliveMsWrite m tag v s
  | .seal w fault => Sys2Proof.Machine.execSeal w fault s
  | .sealControl w fault => Sys2Proof.Machine.execSealControl w fault s
  | .cipherOpen w fault => Sys2Proof.Machine.execOpen w fault s
  | .save w => Sys2Proof.Machine.execSave w s
  | .restoreContext w => Sys2Proof.Machine.execRestoreContext w s
  | .invalidate w => Sys2Proof.Machine.execInvalidate w s
  | .quote w => Sys2Proof.Machine.execQuote w s
  | .ledgerWriteDurable ctx slot => Sys2Proof.Machine.execLedgerWriteDurable ctx slot s
  | .ledgerRetry ctx slot noSpare => Sys2Proof.Machine.execLedgerRetry ctx slot noSpare s
  | .keymailOffer env => Sys2Proof.Machine.execKeymailOffer env s
  | .keymailAccept env => Sys2Proof.Machine.execKeymailAccept env s
  | .keymailConfirm env => Sys2Proof.Machine.execKeymailConfirm env s
  | .keymailRetire env => Sys2Proof.Machine.execKeymailRetire env s
  | .keymailAbort env => Sys2Proof.Machine.execKeymailAbort env s
  | .keymailCert env => Sys2Proof.Machine.execKeymailCert env s
  | .rekeyInterval e peer => Sys2Proof.Machine.execRekeyInterval e peer s
  | .rekeyTimeout e peer => Sys2Proof.Machine.execRekeyTimeout e peer s
  | .rekeyRetry e peer => Sys2Proof.Machine.execRekeyRetry e peer s
  | .confirmResend e peer => Sys2Proof.Machine.execConfirmResend e peer s
  | .oldSlotRetire e peer => Sys2Proof.Machine.execOldSlotRetire e peer s
  | .ciphExtend m tag v => Sys2Proof.Machine.execCiphExtend m tag v s
  | .fabWrite p => Sys2Proof.Machine.execFabWrite p s
  | .fabReadReq p => Sys2Proof.Machine.execFabReadReq p s
  | .fabReadResp p => Sys2Proof.Machine.execFabReadResp p s
  | .fabAck p => Sys2Proof.Machine.execFabAck p s
  | .fabNack p => Sys2Proof.Machine.execFabNack p s
  | .fabMgmt p => Sys2Proof.Machine.execFabMgmt p s
  | .fabPacketSend f offer => Sys2Proof.Machine.execFabPacketSend f offer s
  | .fabRetxTimeout f seq => Sys2Proof.Machine.execFabRetxTimeout f seq s
  | .fabNoRouteTimeout f => Sys2Proof.Machine.execFabNoRouteTimeout f s
  | .credit link vc n => Sys2Proof.Machine.execCredit link vc n s
  | .eptWrite w => Sys2Proof.Machine.execEptWrite w s
  | .rtWrite w => Sys2Proof.Machine.execRtWrite w s
  | .circuitOpen w => Sys2Proof.Machine.execCircuitOpen w s
  | .circuitClose w => Sys2Proof.Machine.execCircuitClose w s
  | .ingestWrite w => Sys2Proof.Machine.execIngestWrite w s
  | .epochArm m tag v => Sys2Proof.Machine.execEpochArm m tag v s
  | .epochDrainEnd => Sys2Proof.Machine.execEpochDrainEnd s
  | .epochDrainTimeout => Sys2Proof.Machine.execEpochDrainTimeout s
  | .linkTrainingEnd link tx rx => Sys2Proof.Machine.execLinkTrainingEnd link tx rx s
  | .ringLockUpdate bank integ far => Sys2Proof.Machine.execRingLockUpdate bank integ far s
  | .ringRelocked bank ring => Sys2Proof.Machine.execRingRelocked bank ring s
  | .sensorSample temps rate => Sys2Proof.Machine.execSensorSample temps rate s
  | .bankReload m tag v => Sys2Proof.Machine.execBankReload m tag v s
  | .calStep link dir => Sys2Proof.Machine.execCalStep link dir s
  | .mirrorSwitch link dir lane back => Sys2Proof.Machine.execMirrorSwitch link dir lane back s
  | .calSweepEnd link dir kept => Sys2Proof.Machine.execCalSweepEnd link dir kept s
  | .laneMapReceived link field => Sys2Proof.Machine.execLaneMapReceived link field s
  | .steerArm m tag v => Sys2Proof.Machine.execSteerArm m tag v s
  | .resteerGapStart => Sys2Proof.Machine.execResteerGapStart s
  | .resteerComplete locked far => Sys2Proof.Machine.execResteerComplete locked far s
  | .resteerLockTimeout link => Sys2Proof.Machine.execResteerLockTimeout link s
  | .laserPowerCheck source db light => Sys2Proof.Machine.execLaserPowerCheck source db light s
  | .handoverGo m tag v => Sys2Proof.Machine.execHandoverGo m tag v s
  | .spareWarmed => Sys2Proof.Machine.execSpareWarmed s
  | .spareLocked => Sys2Proof.Machine.execSpareLocked s
  | .handoverGapStart => Sys2Proof.Machine.execHandoverGapStart s
  | .handoverSwitched => Sys2Proof.Machine.execHandoverSwitched s
  | .handoverTimeLimit => Sys2Proof.Machine.execHandoverTimeLimit s
  | .sramScrub found => Sys2Proof.Machine.execSramScrub found s
  | .lpddrScrub found => Sys2Proof.Machine.execLpddrScrub found s
  | .deviceTempChange d temp => Sys2Proof.Machine.execDeviceTempChange d temp s
  | .alloc w len => Sys2Proof.Machine.execAlloc w len s
  | .share q h add => Sys2Proof.Machine.execShare q h add s
  | .free q h => Sys2Proof.Machine.execFree q h s
  | .skeinEngineRequest cls len => Sys2Proof.Machine.execSkeinEngineRequest cls len s
  | .skeinWaitGrant => Sys2Proof.Machine.execSkeinWaitGrant s
  | .sqTail msg => Sys2Proof.Machine.execSqTail msg s
  | .cqDoor msg => Sys2Proof.Machine.execCqDoor msg s
  | .queueEnableWrite m tag q v => Sys2Proof.Machine.execQueueEnableWrite m tag q v s
  | .queueDrainEnd q => Sys2Proof.Machine.execQueueDrainEnd q s
  | .descriptorFetch q fails => Sys2Proof.Machine.execDescriptorFetch q fails s
  | .descriptorDispatch q => Sys2Proof.Machine.execDescriptorDispatch q s
  | .completionRecord q => Sys2Proof.Machine.execCompletionRecord q s
  | .put w => Sys2Proof.Machine.execPut w s
  | .putAll w => Sys2Proof.Machine.execPutAll w s
  | .schedServe p => Sys2Proof.Machine.execSchedServe p s
  | .shaperRefill => Sys2Proof.Machine.execShaperRefill s
  | .gateArm m tag p v => Sys2Proof.Machine.execGateArm m tag p v s
  | .gateCancel m tag p v => Sys2Proof.Machine.execGateCancel m tag p v s
  | .timeSet m tag v => Sys2Proof.Machine.execTimeSet m tag v s
  | .timeStep m tag v => Sys2Proof.Machine.execTimeStep m tag v s
  | .timeOffset m tag v => Sys2Proof.Machine.execTimeOffset m tag v s
  | .ppsInEdge falling => Sys2Proof.Machine.execPpsInEdge falling s
  | .ppsEdgeMissing => Sys2Proof.Machine.execPpsEdgeMissing s
  | .sourceSelect m tag v => Sys2Proof.Machine.execSourceSelect m tag v s
  | .hold m tag v => Sys2Proof.Machine.execHold m tag v s
  | .reacquire m tag v => Sys2Proof.Machine.execReacquire m tag v s
  | .holdTimeout => Sys2Proof.Machine.execHoldTimeout s
  | .refclkLost => Sys2Proof.Machine.execRefclkLost s
  | .refclkRestored => Sys2Proof.Machine.execRefclkRestored s
  | .timeTxqLo m tag => Sys2Proof.Machine.execTimeTxqLo m tag s
  | .mykLinkTrained lanes => Sys2Proof.Machine.execMykLinkTrained lanes s
  | .mykReplay first => Sys2Proof.Machine.execMykReplay first s
  | .memRdCpl msg => Sys2Proof.Machine.execMemRdCpl msg s
  | .hostReadTimeout tag => Sys2Proof.Machine.execHostReadTimeout tag s
  | .hostLost => Sys2Proof.Machine.execHostLost s
  | .hostLinkRestored lanes => Sys2Proof.Machine.execHostLinkRestored lanes s
  | .intcClaim m tag t => Sys2Proof.Machine.execIntcClaim m tag t s
  | .intcComplete m tag t v => Sys2Proof.Machine.execIntcComplete m tag t v s
  | .intcRaise m tag v => Sys2Proof.Machine.execIntcRaise m tag v s
  | .intcSrcWrite m tag src v => Sys2Proof.Machine.execIntcSrcWrite m tag src v s
  | .intrResend => Sys2Proof.Machine.execIntrResend s
  | .mailboxWrite m tag k v => Sys2Proof.Machine.execMailboxWrite m tag k v s
  | .watchdogExpiry sec => Sys2Proof.Machine.execWatchdogExpiry sec s
  | .coreRestartDone sec => Sys2Proof.Machine.execCoreRestartDone sec s
  | .resetNRelease => Sys2Proof.Machine.execResetNRelease s
  | .resetNAssert => Sys2Proof.Machine.execResetNAssert s
  | .romDone f banks => Sys2Proof.Machine.execRomDone f banks s
  | .secureDone x => Sys2Proof.Machine.execSecureDone x s
  | .compatDone => Sys2Proof.Machine.execCompatDone s
  | .bundleStaged o => Sys2Proof.Machine.execBundleStaged o s
  | .sramDone beyond map => Sys2Proof.Machine.execSramDone beyond map s
  | .memtrainDone x => Sys2Proof.Machine.execMemtrainDone x s
  | .memtestDone x => Sys2Proof.Machine.execMemtestDone x s
  | .tableConfirm u crc => Sys2Proof.Machine.execTableConfirm u crc s
  | .tableConfirmTimeout u => Sys2Proof.Machine.execTableConfirmTimeout u s
  | .tablesDone => Sys2Proof.Machine.execTablesDone s
  | .restorePhase bad0 bad1 => Sys2Proof.Machine.execRestorePhase bad0 bad1 s
  | .enginesStageDone => Sys2Proof.Machine.execEnginesStageDone s
  | .castPhaseTimeout => Sys2Proof.Machine.execCastPhaseTimeout s
  | .inputWarn vin iin => Sys2Proof.Machine.execInputWarn vin iin s
  | .inputWarnClear vin iin => Sys2Proof.Machine.execInputWarnClear vin iin s
  | .inputSurge vin iin => Sys2Proof.Machine.execInputSurge vin iin s
  | .bindoffTrigger cause x => Sys2Proof.Machine.execBindoffTrigger cause x s
  | .bindoffLimit vcap ms => Sys2Proof.Machine.execBindoffLimit vcap ms s
  | .inputRestart vin => Sys2Proof.Machine.execInputRestart vin s
  | .holdupChargeMeasured uf vcap => Sys2Proof.Machine.execHoldupChargeMeasured uf vcap s
  | .powerCapReached pin => Sys2Proof.Machine.execPowerCapReached pin s
  | .gaugeSample margins panels => Sys2Proof.Machine.execGaugeSample margins panels s
  | .replan p => Sys2Proof.Machine.execReplan p s
  | .rateFloorFault p => Sys2Proof.Machine.execRateFloorFault p s
  | .panelTempChange p temp fast => Sys2Proof.Machine.execPanelTempChange p temp fast s
  | .thermalTrip x => Sys2Proof.Machine.execThermalTrip x s
  | .fwUpdateMgmt m tag staged => Sys2Proof.Machine.execFwUpdateMgmt m tag staged s
  | .fwUpdateSec m tag staged => Sys2Proof.Machine.execFwUpdateSec m tag staged s
  | .bundleApply m tag staged => Sys2Proof.Machine.execBundleApply m tag staged s
  | .updateStartTimeout => Sys2Proof.Machine.execUpdateStartTimeout s
  | .tableAudit u crc => Sys2Proof.Machine.execTableAudit u crc s
  | .heartbeatSend => Sys2Proof.Machine.execHeartbeatSend s
  | .heartbeat ep b => Sys2Proof.Machine.execHeartbeat ep b s
  | .failDetectExpiry pos => Sys2Proof.Machine.execFailDetectExpiry pos s
  | .fail ep b => Sys2Proof.Machine.execFail ep b s
  | .mirror ep b => Sys2Proof.Machine.execMirror ep b s
  | .mirrorAck ep b => Sys2Proof.Machine.execMirrorAck ep b s
  | .digest ep b spareFails partnerFails => Sys2Proof.Machine.execDigest ep b spareFails partnerFails s
  | .mismatch ep b => Sys2Proof.Machine.execMismatch ep b s
  | .report ep b => Sys2Proof.Machine.execReport ep b s
  | .bind ep b => Sys2Proof.Machine.execBind ep b s
  | .flow ep b => Sys2Proof.Machine.execFlow ep b s
  | .flowSend => Sys2Proof.Machine.execFlowSend s
  | .mirrorLagExpiry => Sys2Proof.Machine.execMirrorLagExpiry s
  | .shadowGo m tag v => Sys2Proof.Machine.execShadowGo m tag v s
  | .shadowStop m tag v => Sys2Proof.Machine.execShadowStop m tag v s
  | .seedCopyEnd => Sys2Proof.Machine.execSeedCopyEnd s
  | .takeoverGo m tag v => Sys2Proof.Machine.execTakeoverGo m tag v s
  | .takeoverChunksHeld => Sys2Proof.Machine.execTakeoverChunksHeld s
  | .stragglerSwap => Sys2Proof.Machine.execStragglerSwap s
  | .snapshotGo m tag v => Sys2Proof.Machine.execSnapshotGo m tag v s
  | .snapshotRelease m tag v => Sys2Proof.Machine.execSnapshotRelease m tag v s
  | .counterEnable m tag n v => Sys2Proof.Machine.execCounterEnable m tag n v s
  | .bwWindowEnd => Sys2Proof.Machine.execBwWindowEnd s
  | .bwWindowWrite m tag v => Sys2Proof.Machine.execBwWindowWrite m tag v s
  | .smbusBlockRead index => Sys2Proof.Machine.execSmbusBlockRead index s
  | .smbusAlertResponse => Sys2Proof.Machine.execSmbusAlertResponse s
  | .jtagInstruction ir => Sys2Proof.Machine.execJtagInstruction ir s
  | .powerOnPwrGood => Sys2Proof.Machine.execPowerOnPwrGood s
  | .holdupChargeTimeout vcap => Sys2Proof.Machine.execHoldupChargeTimeout vcap s
  | .powerCapRelease pin => Sys2Proof.Machine.execPowerCapRelease pin s
  | .ppsOutEdge => Sys2Proof.Machine.execPpsOutEdge s
  | .mykabelLossOfLock => Sys2Proof.Machine.execMykabelLossOfLock s

end Sys2Proof.Machine
end

