-- ==== Sys2Proof/Safety.lean ====
section
/-!
DEFINITION. Safety.lean: the terms that statements about runs use: canonical memory and registers, what a run is, and a run that never
stops.
-/
namespace Sys2Proof.Machine

/-- Whether addresses rise strictly. -/
def rising : List Nat → Bool
  | [] => true
  | [_] => true
  | a :: b :: r => decide (a < b) && rising (b :: r)

/-- The canonical form of a memory: addresses strictly rising, no byte listed that an unlisted address reads as (R317; log entry 5). -/
def Memory.wf (m : List Host.Cell) : Bool := rising (m.map (·.1)) && m.all (fun c => c.2 != 0)

/-- The canonical form of the register file: addresses strictly rising. -/
def Regs.wf (l : List (Nat × Word)) : Bool := rising (l.map (·.1))

/-- A state in canonical form. -/
def State.canonical (s : State) : Bool := Memory.wf s.mem && Regs.wf s.csr

/-- The parts of the state: one for each field of `State`. -/
inductive Part where
  | pending | csr | mem | poison | out | freeCtr | timeFrac | intc | myk | hostq | sched | skein | memst | pmon | hlth | bed
  | stch | purl | ciph | xport | fab | time | grp | pho | boot | ctl | keep | rerun | line
  deriving DecidableEq, Repr

/-- Whether a part is the same in two states. -/
def Part.same (s t : State) : Part → Prop
  | .pending => t.pending = s.pending
  | .csr => t.csr = s.csr
  | .mem => t.mem = s.mem
  | .poison => t.poison = s.poison
  | .out => t.out = s.out
  | .freeCtr => t.freeCtr = s.freeCtr
  | .timeFrac => t.timeFrac = s.timeFrac
  | .intc => t.intc = s.intc
  | .myk => t.myk = s.myk
  | .hostq => t.hostq = s.hostq
  | .sched => t.sched = s.sched
  | .skein => t.skein = s.skein
  | .memst => t.memst = s.memst
  | .pmon => t.pmon = s.pmon
  | .hlth => t.hlth = s.hlth
  | .bed => t.bed = s.bed
  | .stch => t.stch = s.stch
  | .purl => t.purl = s.purl
  | .ciph => t.ciph = s.ciph
  | .xport => t.xport = s.xport
  | .fab => t.fab = s.fab
  | .time => t.time = s.time
  | .grp => t.grp = s.grp
  | .pho => t.pho = s.pho
  | .boot => t.boot = s.boot
  | .ctl => t.ctl = s.ctl
  | .keep => t.keep = s.keep
  | .rerun => t.rerun = s.rerun
  | .line => t.line = s.line

/-- From `s` to `t` no part has changed but those listed. -/
def OnlyChanges (l : List Part) (s t : State) : Prop := ∀ p, l.contains p = false → p.same s t

/-- Every register at an address that is not listed reads as before. -/
def OtherRegs (l : List Nat) (s t : State) : Prop := ∀ (r : Reg) (i j : Nat), r.addr i j ∉ l → t.rdReg r i j = s.rdReg r i j

/-- Every byte of memory reads as before. -/
def SameMemory (s t : State) : Prop := ∀ a, t.readByte a = s.readByte a

/-- Every byte of memory outside a range reads as before. -/
def OtherBytes (a n : Nat) (s t : State) : Prop := ∀ x, (x < a ∨ a + n ≤ x) → t.readByte x = s.readByte x

/-- Every byte of memory outside some ranges, each an address and a length, reads as before. -/
def SameOutside (l : List (Nat × Nat)) (s t : State) : Prop :=
  ∀ a, l.all (fun x => decide (a < x.1 ∨ x.1 + x.2 ≤ a)) = true → t.readByte a = s.readByte a

/-- A command completes with an effect: it answers a next state that has a property. -/
def Completes (c : Instr) (s : State) (p : State → Prop) : Prop := ∃ t, exec c s = .next t ∧ p t

/-- A command completes with an effect and changes no part of the state but those listed. -/
def Does (c : Instr) (s : State) (l : List Part) (p : State → Prop) : Prop := ∃ t, exec c s = .next t ∧ OnlyChanges l s t ∧ p t

/-- The message that answers a register access: a CPL for the host, an answer of its own for a core (R394, R397). -/
def answerOf (m : Master) (tag status reason : Nat) (data : Bytes) : Out :=
  match m with
  | .host => .myk { type := 7, status := status, tag := tag, len := data.length, addr := reason, payload := data }
  | _ => .core m status reason (BitVec.ofNat 64 (leVal data))

/-- The last thing that left the module answers a register access. -/
def Answered (t : State) (m : Master) (tag status reason : Nat) (data : Bytes) : Prop :=
  t.out.getLast? = some (answerOf m tag status reason data)

/-- A master may write a word to an element of a register: bind-off is over or has not begun, and nothing refuses the write, neither
cast-on (R417), nor ownership (R410), nor a locked field that it changes (R11), nor a missing feature (R423), nor a page (R189). -/
abbrev Writable (s : State) (m : Master) (r : Reg) (i : Nat) (w : Word) : Prop :=
  s.hlth.bindingOff = false ∧ (s.writeCheck m ⟨r, i, 0, r.base / 0x100000⟩ w).isNone = true

/-- A descriptor has ended: it waits for its completion record, with this outcome. -/
def Ended (t : State) (w : Work) (reason : Nat) (error poisoned : Bool) : Prop :=
  ∃ f ∈ t.hostq.finished, f.work = w ∧ f.res.reason = reason ∧ f.res.error = error ∧ f.res.poisoned = poisoned

/-- Between two states something left the module. -/
def Sent (s t : State) (x : Out) : Prop := x ∈ t.out.drop s.out.length

/-- A line frame that left the module: its port, overhead and slot bytes. -/
def frameOf : Out → Option (Nat × Bytes × Bytes)
  | .frame p h b => some (p, h, b)
  | _ => none

/-- The line frames that left between two states. -/
def framesSent (s t : State) : List (Nat × Bytes × Bytes) := (t.out.drop s.out.length).filterMap frameOf

/-- A control message of a type waits in a flow's control sequence (R216): its bytes, padded with zeros to 16. -/
def Placed (t : State) (j peer ctype : Nat) (msg : Bytes) : Prop :=
  ∃ c ∈ (t.flow j peer).ctrlOut, c.ctype = ctype ∧ c.body = msg ++ zeros (16 - msg.length)

/-- Whether `n` steps from a state end in no fault and no refusal. -/
def Safe (n : Nat) (s : State) : Prop := ∃ t, Host.Core.run core n s = .next t

end Sys2Proof.Machine
end

