-- ==== Sys2Proof/Certificates/Slice0/Obligations.lean ====
section
/-!
DEFINITION. Certificates/Slice0/Obligations.lean: the statements about the gateway. Each says what a family of commands does: the next state that it
answers, and what it leaves unchanged (`Does c s l p`: command c answers a next state from s that changes no part of the state but those in l and has p).
-/
section
open Sys2Proof Sys2Proof.Machine Sys2Proof.Machine.Csr

/-- A step of a state whose queue begins with a command is that command's effect on the state with the rest of the queue. With
an empty queue and no power nothing happens; with an empty queue and power good one tick of the time clock passes: T advances by
INC, modulo 2^64 ns, and the performance monitor takes its tick. (The queue, and the tick on an empty one, are the model's
choice: log entries 1 and 2.) -/
def Obligations.StepTakesFrontCommand : Prop :=
  (∀ (s : State) (c : Instr) (rest : List Instr),
     s.pending = c :: rest →
     step s = exec c { s with pending := rest }) ∧
  (∀ (s : State),
     s.pending = [] ∧ s.hlth.pwrGood = false →
     step s = .next s) ∧
  (∀ (s : State),
     s.pending = [] ∧ s.hlth.pwrGood = true →
     step s = .next s.timeTick.pmonTick ∧ s.timeTick.time.ticks = s.time.ticks + 1 ∧
     s.timeTick.fullTime = (s.fullTime + s.get TIME_INC.INC) % 2 ^ 104)

/-- After reset no command waits, memory lists nothing, every block is disabled, not ready and cast-on has not begun; the
registers named hold the values that their tables give; and the invariants of StepKeepsInvariants hold. (An empty queue is the
model's choice: log entry 1.) -/
def Obligations.ResetState : Prop :=
  (∀ (b : Fin 18),
     1 ≤ b.val →
     State.reset.on (enableOf b) = false ∧ State.reset.rdReg TOP_ID = 0x08807A4E ∧ State.reset.get TOP_STATE.CAST_PHASE = 0 ∧
         State.reset.get TOP_VIOL_COUNT.TOTAL = 0 ∧
     State.reset.get XPORT_CODE.K = 14 ∧ State.reset.get XPORT_CODE.M = 2 ∧ State.reset.get XPORT_CODE.CODE_AUTO = 1 ∧
         State.reset.get XPORT_TIMERS.KEEPALIVE_MS = 10 ∧
     State.reset.get TIME_INC.INC = 0xA3D70A3D71 ∧ State.reset.get HLTH_THERMAL.WARN_C = 100 ∧
         State.reset.get HLTH_THERMAL.THROTTLE_C = 105 ∧ State.reset.get HLTH_THERMAL.TRIP_C = 115 ∧
     State.reset.get HLTH_HOLDUP.CAP_MIN_UF = 12000 ∧ State.reset.get HLTH_GAUGE_CFG.RAIL_MAX_MV = 850 ∧
     State.reset.pending = [] ∧ State.reset.mem = [] ∧ State.reset.canonical = true ∧ State.reset.line.length = 16)

/-- From every state whose memory and register file are in canonical form and whose line has its sixteen ports, every step that
answers a next state leaves them so. Nothing that left the module is taken back, and no free value is taken twice. (The
canonical form and the counter of free values are the model's choice: log entries 3 and 5.) -/
def Obligations.StepKeepsInvariants : Prop :=
  (∀ (s t : State),
     s.canonical = true ∧ s.line.length = 16 →
     step s = .next t →
     t.canonical = true ∧ t.line.length = 16 ∧ s.out <+: t.out ∧ s.freeCtr ≤ t.freeCtr)

/-- No step lowers a rollback floor. When ENGINES ends in READY each floor rises to the FLOOR of the manifest in force, unless
restricted mode is on, in which it stays. -/
def Obligations.RollbackFloorsNeverFall : Prop :=
  (∀ (s t : State),
     step s = .next t →
     s.keep.floorSec ≤ t.keep.floorSec ∧ s.keep.floorMgmt ≤ t.keep.floorMgmt) ∧
  (∀ (s : State),
     s.get TOP_STATE.CAST_PHASE = 10 ∧ s.ctl.checking = [] ∧ s.boot.turn = [] ∧ s.stageFailed = false ∧ s.boot.stage = 4 →
     Does (.enginesStageDone) s [.csr, .mem, .poison, .out, .intc, .myk, .ciph, .keep] (fun t =>
       t.get TOP_STATE.CAST_PHASE = 11 ∧
       t.keep.floorSec = (if s.on TOP_STATE.RESTRICTED = true then s.keep.floorSec else max s.keep.floorSec (fieldAt
           s.boot.manifest 8 4)) ∧
       t.keep.floorMgmt = (if s.on TOP_STATE.RESTRICTED = true then s.keep.floorMgmt else max s.keep.floorMgmt (fieldAt
           s.boot.manifest 12 4))))

/-- While the READY bit of the bed, the stitch units, the codec or the transport is 0 every descriptor of that block, and while
the cipher's is 0 every SEAL and OPEN, completes with error and reason 0x0B0D, 0x0C0C, 0x0D14, 0x0925 or 0x0A1C: no byte of
memory changes and no state of an engine. The same holds of the transport while it drains. (A column substitution that BED_SUBST
asked for takes place at the next descriptor, ready or not.) -/
def Obligations.NotReadyPerformsNoWork : Prop :=
  (∀ (s : State) (w : Work) (l : List BedFault) (f : BedSwatchFail) (c : Instr),
     c ∈ [Instr.project w l, .projectT w l, .backproject w l, .ortho w l, .momentum w, .nesterov w, .scale w, .residual w,
         .generate w, .bedSwatch w f] →
     s.on BED_STATUS.READY = false →
     Does (c) s [.csr, .out, .intc, .hostq, .bed] (fun t =>
       Ended t w 0x0B0D true false ∧ SameMemory s t ∧ t.poison = s.poison ∧ t.bed.suspect = s.bed.suspect)) ∧
  (∀ (s : State) (w : Work) (f : Option StchFault) (c : Instr),
     c ∈ [Instr.accumulate w f, .stchPoison w, .stchSwatch w f] ∧ s.on STCH_STATUS.READY = false →
     Does (c) s [.csr, .hostq] (fun t =>
       Ended t w 0x0C0C true false ∧ SameMemory s t ∧ t.stch = s.stch)) ∧
  (∀ (s : State) (w : Work) (f : Option (Fin 32 × Fin 8)) (k : Fin 32) (u : Option DecodeUpset) (b : Bool) (c : Instr),
     c ∈ [Instr.encode w f, .decode w k u, .purlSwatch w b] ∧ s.on PURL_STATUS.READY = false →
     Does (c) s [.csr, .hostq] (fun t =>
       Ended t w 0x0D14 true false ∧ SameMemory s t ∧ t.purl = s.purl)) ∧
  (∀ (s : State) (w : Work) (f : Option (Fin 32)) (c : Instr),
     c ∈ [Instr.seal w f, .sealControl w f, .cipherOpen w f] ∧ s.on CIPH_STATUS.READY = false ∧ w.body 0 1 ≠ 15 →
     Does (c) s [.csr, .out, .hostq] (fun t =>
       Ended t w 0x0A1C true false ∧ SameMemory s t ∧ t.ciph = s.ciph)) ∧
  (∀ (s : State) (w : Work) (c : Instr),
     c ∈ [Instr.stepOpen w, .stepMembership w, .stepFrog w, .stepAbort w, .stepResume w, .stepResend w] →
     s.on XPORT_STATUS.READY = false →
     Does (c) s [.csr, .out, .hostq] (fun t =>
       Ended t w 0x0925 true false ∧ SameMemory s t ∧ t.xport = s.xport)) ∧
  (∀ (s : State) (q : Fin 8192) (f : Fetched),
     s.hostq.fetched.find? (fun f => f.work.queue == q.val) = some f ∧ s.on HOSTQ_STATUS.READY = true ∧ f.ready = true →
     f.work.flags.testBit 1 = true → s.fenceOpen q = true →
     (s.dispatchCheck f).isNone = true ∧ fieldAt f.work.desc 0 1 = 9 ∧ s.ctl.draining.contains 9 = true →
     Does (.descriptorDispatch q) s [.csr, .mem, .poison, .out, .myk, .hostq] (fun t =>
       Ended t f.work 0x0925 true false ∧ t.xport = s.xport))

/-- A well-formed aligned read of a register answers its value with status 0 and changes nothing else, for every register that
its master may read and that has no read-to-clear field and no read effect of its own. A read of TIME_TXQ_LO answers the oldest
timestamp entry, latches its time in TIME_TXQ_HI and removes it; an empty queue answers VALID = 0. A well-formed aligned write
of 8 bytes to a register of SKEIN or MEM (blocks 4 and 5, whose registers but CTRL have no effect beyond their fields) stores
each field by its access, answers status 0 and leaves every other register and all of memory as they were; a write to an address
that no register occupies answers with error and reason 0x0002 and counts one violation. -/
def Obligations.RegisterAccess : Prop :=
  (∀ (s : State) (m : Master) (msg : MykMsg) (r : Reg) (i j b : Nat),
     (m = .host ∧ msg.type = 3 ∧ msg.len = 0 ∧ msg.payload = [] ∨ m ≠ .host ∧ msg.len = 8) →
     msg.addr % 8 = 0 ∧ s.hlth.bindingOff = false ∧ inDoorbells msg.addr = false →
     (findReg msg.addr).map (fun h => (h.reg, h.i, h.j, h.block)) = some (r, i, j, b) →
     s.openTo m ⟨r, i, j, b⟩ false 0 = true →
     r.base ∉ [INTC_CLAIM.base, TIME_TXQ_LO.base, TIME_NOW.base] ∧ r.flds.all (fun f => f.acc != .rc) = true →
     exec (.csrRd m msg) s = .next (s.emit (answerOf m msg.tag 0 0 (le 8 (s.readValue ⟨r, i, j, b⟩).toNat)))) ∧
  (∀ (s : State) (m : Master) (tag : BitVec 10) (e : TxStamp) (rest : List TxStamp),
     s.hlth.bindingOff = false ∧ s.time.txq = e :: rest →
     Does (.timeTxqLo m tag) s [.csr, .out, .time] (fun t =>
       t.time.txq = rest ∧
       t.get TIME_TXQ_HI.NS = e.ns % 2 ^ 64 ∧ t.get TIME_TXQ_STATUS.COUNT = rest.length % 2 ^ TIME_TXQ_STATUS.COUNT.w ∧
       OtherRegs [TIME_TXQ_HI.addr 0 0, TIME_TXQ_STATUS.addr 0 0] s t ∧
       Answered t m tag.toNat 0 0 (le 8 (1 + e.type % 16 * 2 + e.unit % 64 * 32 + e.seqId % 65536 * 65536)))) ∧
  (∀ (s : State) (m : Master) (tag : BitVec 10),
     s.hlth.bindingOff = false ∧ s.time.txq = [] →
     exec (.timeTxqLo m tag) s = .next (s.emit (answerOf m tag.toNat 0 0 (le 8 0)))) ∧
  (∀ (s : State) (m : Master) (msg : MykMsg) (r : Reg) (i j b : Nat),
     let v := BitVec.ofNat 64 (leVal msg.payload)
     (m = .host ∧ msg.type = 4 ∨ m ≠ .host) →
     msg.len = 8 ∧ msg.payload.length = 8 ∧ msg.addr % 8 = 0 ∧ s.hlth.bindingOff = false ∧ inDoorbells msg.addr = false →
     (findReg msg.addr).map (fun h => (h.reg, h.i, h.j, h.block)) = some (r, i, j, b) ∧ (b = 4 ∨ b = 5) ∧
         r.base ≠ (ctrlReg b).base →
     (s.writeCheck m ⟨r, i, j, b⟩ v).isNone = true →
     Does (.csrWr m msg) s [.csr, .out, .intc] (fun t =>
       t.rdReg r i j = (⟨r, i, j, b⟩ : Hit).merge (s.rdReg r i j) v ∧
       OtherRegs [r.addr i j] s t ∧ Answered t m msg.tag 0 0 [])) ∧
  (∀ (s : State) (m : Master) (msg : MykMsg),
     (m = .host ∧ msg.type = 4 ∨ m ≠ .host) →
     msg.len = 8 ∧ msg.payload.length = 8 ∧ msg.addr % 8 = 0 ∧ s.hlth.bindingOff = false ∧ inDoorbells msg.addr = false →
     (findReg msg.addr).isNone = true →
     Does (.csrWr m msg) s [.csr, .mem, .poison, .out, .intc, .myk] (fun t =>
       t.get TOP_VIOL_COUNT.TOTAL = (s.get TOP_VIOL_COUNT.TOTAL + 1) % 2 ^ TOP_VIOL_COUNT.TOTAL.w ∧
       Answered t m msg.tag 1 0x0002 []))

/-- A read of INTC_CLAIMt by target t: where some source is deliverable to t, the answer names the deliverable source of the
highest priority, the lowest number on a tie, with its priority and VALID = 1, and that source becomes active; where none is
deliverable the answer has VALID = 0 and nothing changes. -/
def Obligations.ClaimReturnsBestSource : Prop :=
  (∀ (s : State) (m : Master) (tag : BitVec 10) (k : Fin 3) (src : Nat),
     let word := src + s.get INTC_SRC.PRIORITY src * 2 ^ 11 + 2 ^ 15
     m.num = k.val ∧ s.hlth.bindingOff = false ∧ src < 2048 ∧ s.deliverable k src = true →
     (∀ x < 2048, s.deliverable k x = true → s.get INTC_SRC.PRIORITY x < s.get INTC_SRC.PRIORITY src ∨
         s.get INTC_SRC.PRIORITY x = s.get INTC_SRC.PRIORITY src ∧ src ≤ x) →
     Does (.intcClaim m tag k) s [.out, .intc] (fun t =>
       t.isActive src = true ∧ t.isPending src = false ∧
       INTC_CLAIM.SOURCE.of word = src ∧ INTC_CLAIM.PRIORITY.of word = s.get INTC_SRC.PRIORITY src ∧ INTC_CLAIM.VALID.of word = 1 ∧
       Answered t m tag.toNat 0 0 (le 8 word))) ∧
  (∀ (s : State) (m : Master) (tag : BitVec 10) (k : Fin 3),
     m.num = k.val ∧ s.hlth.bindingOff = false →
     (∀ x < 2048, s.deliverable k x = false) →
     exec (.intcClaim m tag k) s = .next (s.emit (answerOf m tag.toNat 0 0 (le 8 0))))

/-- TOP has no ENABLE, and a write of its first register changes nothing. ENABLE = 1 written to a disabled block starts its
configuration-consistency check and leaves ENABLE at 0; the check's end with no condition violated sets ENABLE and READY, and
with a first violated condition leaves ENABLE at 0 and puts its reason into CONFIG_REASON; ENABLE = 0 during a check abandons it
with CONFIG_REASON unchanged; ENABLE = 0 on a block with no work ends it at once, on a block with work it drains, and the
drain's end clears ENABLE and READY. READY of PHO waits for its rings, so its check's end sets ENABLE alone. -/
def Obligations.BlockEnable : Prop :=
  (∀ (s : State) (m : Master) (tag : BitVec 10) (b : Fin 18) (v : Word),
     1 ≤ b.val ∧ s.on (enableOf b) = false ∧ s.ctl.checking.contains b.val = false →
     Writable s m (ctrlReg b) 0 (forced v [(enableOf b, 1)]) →
     Does (.blockEnableWrite m tag b v) s [.csr, .out, .intc, .time, .ctl] (fun t =>
       t.ctl.checking = s.ctl.checking ++ [b.val] ∧ t.on (enableOf b) = false ∧
       (b.val ≠ 14 → OtherRegs [(ctrlReg b).addr 0 0] s t) ∧ Answered t m tag.toNat 0 0 [])) ∧
  (∀ (s : State) (fails : Bool),
     s.ctl.checking.contains 7 = true ∧ s.on PHO_CTRL.ENABLE = false →
     Does (.configCheckEnd 7 fails) s [.csr, .mem, .poison, .out, .freeCtr, .intc, .myk, .sched, .skein, .pmon, .hlth, .xport,
         .time, .boot, .ctl, .line] (fun t =>
       t.on PHO_CTRL.ENABLE = (firstReason (s.configConditions 7 fails)).isNone)) ∧
  (∀ (s : State) (m : Master) (tag : BitVec 10) (v : Word),
     Writable s m TOP_ID 0 (forced v [(enableOf 0, 1)]) →
     Does (.blockEnableWrite m tag 0 v) s [.csr, .out, .intc] (fun t =>
       OtherRegs [] s t ∧ Answered t m tag.toNat 0 0 [])) ∧
  (∀ (s : State) (m : Master) (tag : BitVec 10) (v : Word),
     Writable s m TOP_ID 0 (forced v [(enableOf 0, 0)]) →
     Does (.blockDisableWrite m tag 0 v) s [.csr, .out, .intc] (fun t =>
       OtherRegs [] s t ∧ Answered t m tag.toNat 0 0 [])) ∧
  (∀ (s : State) (b : Fin 18) (fails : Bool),
     1 ≤ b.val ∧ b.val ≠ 7 ∧ s.ctl.checking.contains b.val = true ∧ (firstReason (s.configConditions b fails)).isNone = true →
     Does (.configCheckEnd b fails) s [.csr, .mem, .poison, .out, .freeCtr, .intc, .myk, .sched, .skein, .pmon, .hlth, .xport,
         .time, .boot, .ctl, .line] (fun t =>
       t.on (enableOf b) = true ∧ t.on (readyOf b) = true)) ∧
  (∀ (s : State) (b : Fin 18) (fails : Bool) (r : Nat),
     1 ≤ b.val ∧ s.ctl.checking.contains b.val = true ∧ firstReason (s.configConditions b fails) = some r ∧
         s.on (enableOf b) = false →
     Does (.configCheckEnd b fails) s [.csr, .mem, .poison, .out, .freeCtr, .intc, .myk, .sched, .skein, .pmon, .hlth, .xport,
         .time, .boot, .ctl, .line] (fun t =>
       t.on (enableOf b) = false ∧ t.get (configReasonOf b) = r % 2 ^ 16)) ∧
  (∀ (s : State) (m : Master) (tag : BitVec 10) (b : Fin 18) (v : Word),
     1 ≤ b.val ∧ s.ctl.checking.contains b.val = true →
     Writable s m (ctrlReg b) 0 (forced v [(enableOf b, 0)]) →
     Does (.blockDisableWrite m tag b v) s [.csr, .out, .intc, .time, .ctl] (fun t =>
       t.ctl.checking.contains b.val = false ∧ t.get (configReasonOf b) = s.get (configReasonOf b) ∧ Answered t m tag.toNat 0 0 [])) ∧
  (∀ (s : State) (m : Master) (tag : BitVec 10) (b : Fin 18) (v : Word),
     1 ≤ b.val ∧ s.on (enableOf b) = true ∧ s.ctl.checking.contains b.val = false ∧ s.ctl.draining.contains b.val = false →
     s.blockBusy b = false ∧ Writable s m (ctrlReg b) 0 (forced v [(enableOf b, 0)]) →
     Does (.blockDisableWrite m tag b v) s [.csr, .out, .intc, .time, .ctl] (fun t =>
       t.on (enableOf b) = false ∧ t.on (readyOf b) = false ∧ Answered t m tag.toNat 0 0 [])) ∧
  (∀ (s : State) (m : Master) (tag : BitVec 10) (b : Fin 18) (v : Word),
     1 ≤ b.val ∧ s.on (enableOf b) = true ∧ s.ctl.checking.contains b.val = false ∧ s.ctl.draining.contains b.val = false →
     s.blockBusy b = true ∧ Writable s m (ctrlReg b) 0 (forced v [(enableOf b, 0)]) →
     Does (.blockDisableWrite m tag b v) s [.csr, .out, .intc, .time, .ctl] (fun t =>
       t.ctl.draining = s.ctl.draining ++ [b.val] ∧ t.on (enableOf b) = true ∧ t.on (readyOf b) = s.on (readyOf b))) ∧
  (∀ (s : State) (b : Fin 18),
     1 ≤ b.val ∧ s.ctl.draining.contains b.val = true ∧ s.blockBusy b = false →
     Does (.blockDrainEnd b) s [.csr, .out, .intc, .time, .ctl] (fun t =>
       t.on (enableOf b) = false ∧ t.on (readyOf b) = false ∧ t.ctl.draining.contains b.val = false))

/-- BED_SUBST.GO on a group whose spare column is free puts that column in the named column's place, reports 0x0B08 and raises
SUBSTITUTED, at once where no bed descriptor is in progress and otherwise as a request that waits; with the spare gone it
answers an error with 0x0B09. STCH_SUBST.GO and PURL_SUBST.GO with a free spare put the spare in the cluster's place, take it
off the free spares and raise SUBSTITUTED; without one they answer 0x0C09 and 0x0D12. A requalification (REQUAL) of a
quarantined cluster that R451 does not bar either frees a spare and ends the quarantine or leaves it with its reason, whatever
the units find; one that is barred answers 0x1014. -/
def Obligations.ForcedSubstitution : Prop :=
  (∀ (s : State) (m : Master) (tag : BitVec 10) (v : Word),
     let w := forced v [(BED_SUBST.GO, 1)]
     let g := BED_SUBST.GROUP.of w.toNat
     let c := BED_SUBST.COLUMN.of w.toNat
     Writable s m BED_SUBST 0 w ∧ s.bedSpareGone g = false ∧ s.bed.substReq.any (fun r => r.1 == g) = false ∧
         s.blockBusy 11 = false →
     Does (.bedSubst m tag v) s [.csr, .out, .intc, .bed] (fun t =>
       t.on BED_GROUP_MAP.SUBST_VALID g = true ∧ t.get BED_GROUP_MAP.SUBST_COLUMN g = c ∧ t.bed.substReq = none ∧
       t.on BED_INT_STATUS.SUBSTITUTED = true ∧ Sent s t (.report 0x0B08) ∧ Answered t m tag.toNat 0 0 [])) ∧
  (∀ (s : State) (m : Master) (tag : BitVec 10) (v : Word),
     let w := forced v [(BED_SUBST.GO, 1)]
     let g := BED_SUBST.GROUP.of w.toNat
     Writable s m BED_SUBST 0 w ∧ s.bedSpareGone g = false ∧ s.bed.substReq.any (fun r => r.1 == g) = false ∧
         s.blockBusy 11 = true →
     Does (.bedSubst m tag v) s [.csr, .out, .intc, .bed] (fun t =>
       t.bed.substReq = some (g, BED_SUBST.COLUMN.of w.toNat) ∧ OtherRegs [BED_SUBST.addr 0 0] s t ∧ Answered t m tag.toNat 0 0 [])) ∧
  (∀ (s : State) (m : Master) (tag : BitVec 10) (v : Word),
     let w := forced v [(BED_SUBST.GO, 1)]
     Writable s m BED_SUBST 0 w ∧ s.bedSpareGone (BED_SUBST.GROUP.of w.toNat) = true →
     Does (.bedSubst m tag v) s [.csr, .out, .intc] (fun t =>
       t.get BED_ERR_LOG.REASON = 0x0B09 ∧ t.get BED_GROUP_MAP.SUBST_COLUMN (BED_SUBST.GROUP.of w.toNat) = s.get
           BED_GROUP_MAP.SUBST_COLUMN (BED_SUBST.GROUP.of w.toNat) ∧ Answered t m tag.toNat 1 0x0B09 [])) ∧
  (∀ (s : State) (m : Master) (tag : BitVec 10) (v : Word),
     let w := forced v [(STCH_SUBST.GO, 1)]
     let c := STCH_SUBST.CLUSTER.of w.toNat
     Writable s m STCH_SUBST 0 w ∧ STCH_SUBST.REQUAL.of w.toNat = 0 ∧ c < 48 ∧
         (s.get STCH_CAP.SPARE_FREE).testBit (c / 16) = true ∧ s.stchOnSpare c = false →
     Does (.stchSubstGo m tag v) s [.csr, .mem, .poison, .out, .freeCtr, .intc, .myk, .hlth, .stch, .xport, .fab, .grp] (fun t =>
       t.get STCH_PANEL_MAP.SPARE_FOR (c / 16) = c % 16 ∧ (t.get STCH_CAP.SPARE_FREE).testBit (c / 16) = false ∧
       (t.get STCH_PANEL_MAP.QUARANTINED (c / 16)).testBit (c % 16) = true ∧ t.on STCH_INT_STATUS.SUBSTITUTED = true ∧
       Sent s t (.report 0x0C08) ∧ Answered t m tag.toNat 0 0 [])) ∧
  (∀ (s : State) (m : Master) (tag : BitVec 10) (v : Word),
     let w := forced v [(STCH_SUBST.GO, 1)]
     let c := STCH_SUBST.CLUSTER.of w.toNat
     Writable s m STCH_SUBST 0 w ∧ STCH_SUBST.REQUAL.of w.toNat = 0 →
     (48 ≤ c ∨ (s.get STCH_CAP.SPARE_FREE).testBit (c / 16) = false) →
     Does (.stchSubstGo m tag v) s [.csr, .out, .intc] (fun t =>
       t.get STCH_ERR_LOG.REASON = 0x0C09 ∧ t.get STCH_ERR_LOG.CLUSTER = c ∧ Answered t m tag.toNat 1 0x0C09 [])) ∧
  (∀ (s : State) (m : Master) (tag : BitVec 10) (v : Word),
     let w := forced v [(STCH_SUBST.REQUAL, 1)]
     let c := STCH_SUBST.CLUSTER.of w.toNat
     Writable s m STCH_SUBST 0 w ∧ STCH_SUBST.GO.of w.toNat = 0 ∧ c < 48 ∧
         (s.get STCH_PANEL_MAP.QUARANTINED (c / 16)).testBit (c % 16) = true ∧ s.requalBarred 12 c = false →
     Does (.stchRequal m tag v) s [.csr, .out, .freeCtr, .intc] (fun t =>
       ((t.get STCH_PANEL_MAP.QUARANTINED (c / 16)).testBit (c % 16) = false ∧
           (t.get STCH_CAP.SPARE_FREE).testBit (c / 16) = true ∨
           t.get STCH_PANEL_MAP.QUARANTINED (c / 16) = s.get STCH_PANEL_MAP.QUARANTINED (c / 16) ∧
           t.get STCH_ERR_LOG.REASON = 0x0C07 ∧ Sent s t (.report 0x0C07)) ∧
       Answered t m tag.toNat 0 0 [])) ∧
  (∀ (s : State) (m : Master) (tag : BitVec 10) (v : Word),
     let w := forced v [(STCH_SUBST.REQUAL, 1)]
     let c := STCH_SUBST.CLUSTER.of w.toNat
     Writable s m STCH_SUBST 0 w ∧ STCH_SUBST.GO.of w.toNat = 0 ∧ s.requalBarred 12 c = true →
     Does (.stchRequal m tag v) s [.csr, .out, .freeCtr, .intc] (fun t =>
       t.get STCH_PANEL_MAP.QUARANTINED (c / 16) = s.get STCH_PANEL_MAP.QUARANTINED (c / 16) ∧ Answered t m tag.toNat 1 0x1014 [])) ∧
  (∀ (s : State) (m : Master) (tag : BitVec 10) (v : Word) (k : Nat),
     let w := forced v [(PURL_SUBST.GO, 1)]
     let c := PURL_SUBST.CLUSTER.of w.toNat
     Writable s m PURL_SUBST 0 w ∧ PURL_SUBST.REQUAL.of w.toNat = 0 →
     (s.get PURL_CAP.SPARE_FREE).testBit k = true ∧ (k = 0 ∨ k = 1 ∧ (s.get PURL_CAP.SPARE_FREE).testBit 0 = false) →
     Does (.purlSubstGo m tag v) s [.csr, .mem, .poison, .out, .freeCtr, .intc, .myk, .hlth] (fun t =>
       t.get (spareForField k) = c ∧ (t.get PURL_CAP.SPARE_FREE).testBit k = false ∧
           (t.get PURL_QUAR.OUT_OF_SERVICE).testBit c = false ∧
       t.on PURL_INT_STATUS.SUBSTITUTED = true ∧ Sent s t (.report 0x0D11) ∧ Answered t m tag.toNat 0 0 [])) ∧
  (∀ (s : State) (m : Master) (tag : BitVec 10) (v : Word),
     let w := forced v [(PURL_SUBST.GO, 1)]
     Writable s m PURL_SUBST 0 w ∧ PURL_SUBST.REQUAL.of w.toNat = 0 ∧ s.get PURL_CAP.SPARE_FREE = 0 →
     Does (.purlSubstGo m tag v) s [.csr, .out, .intc] (fun t =>
       t.get PURL_ERR_LOG.REASON = 0x0D12 ∧ t.get PURL_ERR_LOG.CLUSTER = PURL_SUBST.CLUSTER.of w.toNat ∧
           Answered t m tag.toNat 1 0x0D12 [])) ∧
  (∀ (s : State) (m : Master) (tag : BitVec 10) (v : Word),
     let w := forced v [(PURL_SUBST.REQUAL, 1)]
     let c := PURL_SUBST.CLUSTER.of w.toNat
     Writable s m PURL_SUBST 0 w ∧ PURL_SUBST.GO.of w.toNat = 0 ∧ (s.get PURL_QUAR.QUARANTINED).testBit c = true ∧
         s.requalBarred 13 c = false →
     Does (.purlRequal m tag v) s [.csr, .out, .freeCtr, .intc] (fun t =>
       ((t.get PURL_QUAR.QUARANTINED).testBit c = false ∧ t.get PURL_CAP.SPARE_FREE ≠ 0 ∨
           t.get PURL_QUAR.QUARANTINED = s.get PURL_QUAR.QUARANTINED ∧ t.get PURL_ERR_LOG.REASON = 0x0D12 ∧
           Sent s t (.report 0x0D12)) ∧
       Answered t m tag.toNat 0 0 [])) ∧
  (∀ (s : State) (m : Master) (tag : BitVec 10) (v : Word),
     let w := forced v [(PURL_SUBST.REQUAL, 1)]
     Writable s m PURL_SUBST 0 w ∧ PURL_SUBST.GO.of w.toNat = 0 ∧ s.requalBarred 13 (PURL_SUBST.CLUSTER.of w.toNat) = true →
     Does (.purlRequal m tag v) s [.csr, .out, .freeCtr, .intc] (fun t =>
       t.get PURL_QUAR.QUARANTINED = s.get PURL_QUAR.QUARANTINED ∧ Answered t m tag.toNat 1 0x1014 []))

/-- SWAP_ARM on a port whose swap may be armed sets SWAP_ARM, otherwise it is refused with 0x080B, and SWAP_CANCEL clears it;
GATE_CTRL.ARM loads a valid standby list for its BASE_TIME and sets ARM, otherwise it is refused with 0x0303, and CANCEL before
BASE_TIME withdraws it; FAB_EPOCH.ARM with a committed standby bank and no drain advances EPOCH modulo 4 and starts a drain,
otherwise it is refused with 0x060D; PHO_TABLE_CMD marks the named bank, or all, for reload; PHO_STEER_CTRL.ARM to a valid map
starts a resteer of the links whose fibre differs; PHO_HANDOVER.GO with a free spare and no handover starts one at the position,
otherwise it is refused with 0x0709. -/
def Obligations.ArmedSwitches : Prop :=
  (∀ (s : State) (m : Master) (tag : BitVec 10) (p : Fin 16) (v : Word),
     let w := forced v [(PORT_CM_CTRL.SWAP_ARM, 1)]
     Writable s m PORT_CM_CTRL p w ∧ PORT_CM_CTRL.SWAP_CANCEL.of w.toNat = 0 ∧ s.swapArmOk p = true →
     Does (.swapArm m tag p v) s [.csr, .out, .intc] (fun t =>
       t.on PORT_CM_CTRL.SWAP_ARM p = true ∧ OtherRegs [PORT_CM_CTRL.addr p 0] s t ∧ Answered t m tag.toNat 0 0 [])) ∧
  (∀ (s : State) (m : Master) (tag : BitVec 10) (p : Fin 16) (v : Word),
     let w := forced v [(PORT_CM_CTRL.SWAP_ARM, 1)]
     Writable s m PORT_CM_CTRL p w ∧ PORT_CM_CTRL.SWAP_CANCEL.of w.toNat = 0 ∧ s.swapArmOk p = false →
     Does (.swapArm m tag p v) s [.csr, .out, .intc] (fun t =>
       t.on PORT_CM_CTRL.SWAP_ARM p = s.on PORT_CM_CTRL.SWAP_ARM p ∧ t.get PORT_ERR_LOG.REASON p = 0x080B ∧
           Answered t m tag.toNat 1 0x080B [])) ∧
  (∀ (s : State) (m : Master) (tag : BitVec 10) (p : Fin 16) (v : Word),
     let w := forced v [(PORT_CM_CTRL.SWAP_CANCEL, 1)]
     Writable s m PORT_CM_CTRL p w ∧ PORT_CM_CTRL.SWAP_ARM.of w.toNat = 0 →
     Does (.swapCancel m tag p v) s [.csr, .out, .intc] (fun t =>
       t.on PORT_CM_CTRL.SWAP_ARM p = false ∧ OtherRegs [PORT_CM_CTRL.addr p 0] s t ∧ Answered t m tag.toNat 0 0 [])) ∧
  (∀ (s : State) (m : Master) (tag : BitVec 10) (p : Fin 16) (v : Word) (es : List (Nat × Nat)),
     let w := forced v [(GATE_CTRL.ARM, 1)]
     Writable s m GATE_CTRL p w ∧ GATE_CTRL.CANCEL.of w.toNat = 0 ∧ s.on GATE_CTRL.ARM p = false →
     s.readGateList (if s.get GATE_CTRL.ACTIVE_LIST p = 1 then s.get LIST0_ADDR.ADDR p else s.get LIST1_ADDR.ADDR p) = some es →
     s.now + 100000 ≤ s.get BASE_TIME.TIME p →
     Does (.gateArm m tag p v) s [.csr, .out, .intc, .sched] (fun t =>
       t.on GATE_CTRL.ARM p = true ∧ t.sched.armedGate.contains (p.val, ⟨es, s.get BASE_TIME.TIME p⟩) = true ∧
       OtherRegs [GATE_CTRL.addr p 0] s t ∧ Answered t m tag.toNat 0 0 [])) ∧
  (∀ (s : State) (m : Master) (tag : BitVec 10) (p : Fin 16) (v : Word),
     let w := forced v [(GATE_CTRL.ARM, 1)]
     Writable s m GATE_CTRL p w ∧ GATE_CTRL.CANCEL.of w.toNat = 0 →
     (s.on GATE_CTRL.ARM p = true ∨ s.get BASE_TIME.TIME p < s.now + 100000 ∨
         (s.readGateList (if s.get GATE_CTRL.ACTIVE_LIST p = 1 then s.get LIST0_ADDR.ADDR p else s.get LIST1_ADDR.ADDR p)).isNone =
         true) →
     Does (.gateArm m tag p v) s [.csr, .out, .intc] (fun t =>
       t.on GATE_CTRL.ARM p = s.on GATE_CTRL.ARM p ∧ t.get SCHED_ERR_LOG.REASON = 0x0303 ∧ Answered t m tag.toNat 1 0x0303 [])) ∧
  (∀ (s : State) (m : Master) (tag : BitVec 10) (p : Fin 16) (v : Word),
     let w := forced v [(GATE_CTRL.CANCEL, 1)]
     Writable s m GATE_CTRL p w ∧ GATE_CTRL.ARM.of w.toNat = 0 ∧ s.sched.armedGate.any (fun g => g.1 == p.val) = true →
     s.sched.armedGate.all (fun g => g.1 != p.val || decide (s.now < g.2.base)) = true →
     Does (.gateCancel m tag p v) s [.csr, .out, .intc, .sched] (fun t =>
       t.on GATE_CTRL.ARM p = false ∧ t.sched.armedGate.any (fun g => g.1 == p.val) = false ∧ Sent s t (.report 0x0305) ∧
       Answered t m tag.toNat 0 0 [])) ∧
  (∀ (s : State) (m : Master) (tag : BitVec 10) (v : Word),
     Writable s m FAB_EPOCH 0 (forced v [(FAB_EPOCH.ARM, 1)]) ∧ s.on FAB_STATUS.DRAINING = false ∧
         s.on FAB_EPOCH.STANDBY_READY = true →
     Does (.epochArm m tag v) s [.csr, .out, .intc, .fab] (fun t =>
       t.get FAB_EPOCH.EPOCH = (s.get FAB_EPOCH.EPOCH + 1) % 4 ∧ t.on FAB_STATUS.DRAINING = true ∧
       OtherRegs [FAB_EPOCH.addr 0 0, FAB_STATUS.addr 0 0, FAB_DRAIN.addr 0 0] s t ∧ Answered t m tag.toNat 0 0 [])) ∧
  (∀ (s : State) (m : Master) (tag : BitVec 10) (v : Word),
     Writable s m FAB_EPOCH 0 (forced v [(FAB_EPOCH.ARM, 1)]) →
     (s.on FAB_STATUS.DRAINING = true ∨ s.on FAB_EPOCH.STANDBY_READY = false) →
     Does (.epochArm m tag v) s [.csr, .out, .intc] (fun t =>
       t.get FAB_EPOCH.EPOCH = s.get FAB_EPOCH.EPOCH ∧ Answered t m tag.toNat 1 0x060D [])) ∧
  (∀ (s : State) (m : Master) (tag : BitVec 10) (v : Word),
     let w := forced v [(PHO_TABLE_CMD.RELOAD, 1)]
     Writable s m PHO_TABLE_CMD 0 w →
     Does (.bankReload m tag v) s [.csr, .out, .intc, .pho] (fun t =>
       PHO_TABLE_CMD.BANK.of w.toNat ∈ t.pho.reload ∧ (PHO_TABLE_CMD.ALL.of w.toNat = 1 →
           (List.range 64).all t.pho.reload.contains = true) ∧
       OtherRegs [PHO_TABLE_CMD.addr 0 0] s t ∧ Answered t m tag.toNat 0 0 [])) ∧
  (∀ (s : State) (m : Master) (tag : BitVec 10) (v : Word),
     let standby := 1 - s.get PHO_STEER_CTRL.ACTIVE
     Writable s m PHO_STEER_CTRL 0 (forced v [(PHO_STEER_CTRL.ARM, 1)]) ∧ s.boot.features.testBit 5 = true ∧
         s.steerValid standby = true →
     s.on PHO_STATUS.STEERING = false ∧ s.pho.hand.all (fun h => !h.announced) = true →
     Does (.steerArm m tag v) s [.csr, .out, .intc, .pho] (fun t =>
       t.on PHO_STATUS.STEERING = true ∧ t.on PHO_STEER_CTRL.ARM = true ∧
           t.pho.affected = (List.finRange 32).filter (fun l => s.steerFibre standby l.val != s.fibre l.val) ∧
       t.pho.affected.all (fun l => t.on FAB_LINK_STATUS.QUIET l) = true ∧ Answered t m tag.toNat 0 0 [])) ∧
  (∀ (s : State) (m : Master) (tag : BitVec 10) (v : Word),
     Writable s m PHO_STEER_CTRL 0 (forced v [(PHO_STEER_CTRL.ARM, 1)]) →
     (s.boot.features.testBit 5 = false ∨ s.steerValid (1 - s.get PHO_STEER_CTRL.ACTIVE) = false ∨
         s.on PHO_STATUS.STEERING = true ∨ s.pho.hand.any (fun h => h.announced) = true) →
     Does (.steerArm m tag v) s [.csr, .out, .intc] (fun t =>
       t.on PHO_STATUS.STEERING = s.on PHO_STATUS.STEERING ∧
           Answered t m tag.toNat 1 (if s.boot.features.testBit 5 then 0x070B else 0x0048) [])) ∧
  (∀ (s : State) (m : Master) (tag : BitVec 10) (v : Word) (sp : Fin 10),
     let w := forced v [(PHO_HANDOVER.GO, 1)]
     let p := Fin.ofNat 8 (PHO_HANDOVER.POSITION.of w.toNat)
     Writable s m PHO_HANDOVER 0 w ∧ s.canHandOver = true ∧ s.freeSpare = some sp →
     Does (.handoverGo m tag v) s [.csr, .out, .intc, .pho] (fun t =>
       t.pho.hand = some ⟨p, sp, s.sourceAt p, false⟩ ∧ t.get PHO_HANDOVER.STATE = (if s.pho.warm.contains sp.val then 2 else 1) ∧
           t.on PHO_STATUS.HANDOVER = true ∧
       t.on PHO_INT_STATUS.HANDOVER = true ∧ Answered t m tag.toNat 0 0 [])) ∧
  (∀ (s : State) (m : Master) (tag : BitVec 10) (v : Word),
     Writable s m PHO_HANDOVER 0 (forced v [(PHO_HANDOVER.GO, 1)]) ∧ s.canHandOver = false →
     Does (.handoverGo m tag v) s [.csr, .out, .intc] (fun t =>
       Answered t m tag.toNat 1 0x0709 []))

/-- ENABLE = 1 written to a disabled job entry that passes the job check enables it: its step record is in IDLE with REACHABLE =
SITES (the model's choice, log entry 48), FINGERPRINT holds the job's fingerprint and JOBS_ENABLED counts it; a refusal puts the
reason into JOB_STATUS and leaves ENABLE at 0. ENABLE = 0 outside a running step clears it, within one it is refused with
0x090F. JOB_PARAM0 and JOB_PARAM1 take their values on a disabled entry, and on an enabled one where the parameter check passes;
otherwise they keep them and the write is refused. XPORT_TIMERS takes its values unless an enabled job's PART_DETECT_MS would
not exceed 4 × KEEPALIVE_MS, when it is refused with 0x0931. -/
def Obligations.JobRegisters : Prop :=
  (∀ (s : State) (m : Master) (tag : BitVec 10) (j : Fin 128) (v : Word),
     let s1 := s.wrReg JOB_CTRL ((⟨JOB_CTRL, j, 0, 9⟩ : Hit).merge (s.rdReg JOB_CTRL j) v) j
     Writable s m JOB_CTRL j v ∧ v.getLsbD 0 = true ∧ s.on JOB_CTRL.ENABLE j = false ∧ (s1.jobCheck j).isNone = true →
     Does (.jobEnableWrite m tag j v) s [.csr, .mem, .poison, .out, .intc, .myk, .xport] (fun t =>
       t.on JOB_CTRL.ENABLE j = true ∧ (t.stepRec j).state = 0 ∧ (t.stepRec j).reachable = s1.get JOB_CTRL.SITES j ∧
       t.get JOB_STATUS.FINGERPRINT j = s1.fingerprint j % 2 ^ JOB_STATUS.FINGERPRINT.w ∧ t.get JOB_STATUS.STATE j = 0 ∧
       t.get XPORT_STATUS.JOBS_ENABLED = (s.get XPORT_STATUS.JOBS_ENABLED + 1) % 2 ^ XPORT_STATUS.JOBS_ENABLED.w ∧
           Sent s t (answerOf m tag.toNat 0 0 []))) ∧
  (∀ (s : State) (m : Master) (tag : BitVec 10) (j : Fin 128) (v : Word) (r : Nat),
     let s1 := s.wrReg JOB_CTRL ((⟨JOB_CTRL, j, 0, 9⟩ : Hit).merge (s.rdReg JOB_CTRL j) v) j
     Writable s m JOB_CTRL j v ∧ v.getLsbD 0 = true ∧ s.on JOB_CTRL.ENABLE j = false ∧ s1.jobCheck j = some r →
     Does (.jobEnableWrite m tag j v) s [.csr, .out, .intc] (fun t =>
       t.on JOB_CTRL.ENABLE j = false ∧ t.get JOB_STATUS.REASON j = r % 2 ^ 16 ∧ t.on XPORT_INT_STATUS.JOB_REFUSED = true ∧
       Answered t m tag.toNat 1 r [])) ∧
  (∀ (s : State) (m : Master) (tag : BitVec 10) (j : Fin 128) (v : Word),
     Writable s m JOB_CTRL j v ∧ v.getLsbD 0 = false ∧ s.on JOB_CTRL.ENABLE j = true →
     (s.stepRec j).state ∉ [1, 2, 3, 4, 5, 6, 7, 8, 9, 10, 0x10, 0x11, 0x13] →
     Does (.jobEnableWrite m tag j v) s [.csr, .out, .intc] (fun t =>
       t.on JOB_CTRL.ENABLE j = false ∧ t.get XPORT_STATUS.JOBS_ENABLED = s.get XPORT_STATUS.JOBS_ENABLED - 1 ∧
       Answered t m tag.toNat 0 0 [])) ∧
  (∀ (s : State) (m : Master) (tag : BitVec 10) (j : Fin 128) (v : Word),
     Writable s m JOB_CTRL j v ∧ v.getLsbD 0 = false ∧ s.on JOB_CTRL.ENABLE j = true →
     (s.stepRec j).state ∈ [1, 2, 3, 4, 5, 6, 7, 8, 9, 10, 0x10, 0x11, 0x13] →
     Does (.jobEnableWrite m tag j v) s [.csr, .out, .intc] (fun t =>
       t.on JOB_CTRL.ENABLE j = true ∧ Answered t m tag.toNat 1 0x090F [])) ∧
  (∀ (s : State) (m : Master) (tag : BitVec 10) (j : Fin 128) (second : Bool) (v : Word),
     let r := if second then JOB_PARAM1 else JOB_PARAM0
     let s1 := s.wrReg r ((⟨r, j, 0, 9⟩ : Hit).merge (s.rdReg r j) v) j
     Writable s m r j v →
     (s.on JOB_CTRL.ENABLE j = false ∨ (s1.paramCheck j).isNone = true) →
     Does (.jobParamWrite m tag j second v) s [.csr, .out, .intc] (fun t =>
       t.rdReg r j = s1.rdReg r j ∧ OtherRegs [r.addr j 0] s t ∧ Answered t m tag.toNat 0 0 [])) ∧
  (∀ (s : State) (m : Master) (tag : BitVec 10) (j : Fin 128) (second : Bool) (v : Word) (x : Nat),
     let r := if second then JOB_PARAM1 else JOB_PARAM0
     let s1 := s.wrReg r ((⟨r, j, 0, 9⟩ : Hit).merge (s.rdReg r j) v) j
     Writable s m r j v ∧ s.on JOB_CTRL.ENABLE j = true ∧ s1.paramCheck j = some x →
     Does (.jobParamWrite m tag j second v) s [.csr, .out, .intc] (fun t =>
       t.rdReg r j = s.rdReg r j ∧ t.get JOB_STATUS.REASON j = x % 2 ^ 16 ∧ Answered t m tag.toNat 1 x [])) ∧
  (∀ (s : State) (m : Master) (tag : BitVec 10) (v : Word),
     let s1 := s.wrReg XPORT_TIMERS ((⟨XPORT_TIMERS, 0, 0, 9⟩ : Hit).merge (s.rdReg XPORT_TIMERS 0) v)
     Writable s m XPORT_TIMERS 0 v ∧ s.jobsOn.all (fun j => decide (4 * s1.get XPORT_TIMERS.KEEPALIVE_MS < s.get
         JOB_PARAM1.PART_DETECT_MS j)) = true →
     Does (.keepaliveMsWrite m tag v) s [.csr, .out, .intc] (fun t =>
       t.rdReg XPORT_TIMERS 0 = s1.rdReg XPORT_TIMERS 0 ∧ OtherRegs [XPORT_TIMERS.addr 0 0] s t ∧ Answered t m tag.toNat 0 0 [])) ∧
  (∀ (s : State) (m : Master) (tag : BitVec 10) (v : Word),
     let s1 := s.wrReg XPORT_TIMERS ((⟨XPORT_TIMERS, 0, 0, 9⟩ : Hit).merge (s.rdReg XPORT_TIMERS 0) v)
     Writable s m XPORT_TIMERS 0 v ∧ s.jobsOn.any (fun j => decide (s.get JOB_PARAM1.PART_DETECT_MS j ≤ 4 * s1.get
         XPORT_TIMERS.KEEPALIVE_MS)) = true →
     Does (.keepaliveMsWrite m tag v) s [.csr, .out, .intc] (fun t =>
       OtherRegs [] s t ∧ Answered t m tag.toNat 1 0x0931 []))

/-- TIME_SET puts T to the value written with no fraction and sets VALID; TIME_STEP adds its signed value to T modulo 2^64 ns,
fraction kept; both advance STEP_COUNT. TIME_OFFSET records its sample, and where SOURCE is PTP in ACQUIRE an offset beyond
STEP_NS sets VALID, reports 0x0E01 and raises STEPPED, while under another source it changes nothing else. A write of TIME_CTRL
to FREE takes the servo to FREE with the nominal increment, and to PTP or PPS takes it from FREE to ACQUIRE. HOLD in ACQUIRE or
LOCKED enters HOLDOVER at TIME_INC_NOM minus the integrator, and does nothing else elsewhere; REACQUIRE in HOLDOVER lets the
next used sample leave it. -/
def Obligations.TimeCommands : Prop :=
  (∀ (s : State) (m : Master) (tag : BitVec 10) (v : Word),
     Writable s m TIME_SET 0 v →
     Does (.timeSet m tag v) s [.csr, .out, .timeFrac, .intc, .line] (fun t =>
       t.get TIME_NOW.NS = v.toNat ∧ t.timeFrac = 0 ∧ t.on TIME_STATUS.VALID = true ∧
       t.get TIME_STATUS.STEP_COUNT = (s.get TIME_STATUS.STEP_COUNT + 1) % 2 ^ TIME_STATUS.STEP_COUNT.w ∧
           Answered t m tag.toNat 0 0 [])) ∧
  (∀ (s : State) (m : Master) (tag : BitVec 10) (v : Word),
     Writable s m TIME_STEP 0 v →
     Does (.timeStep m tag v) s [.csr, .out, .timeFrac, .intc, .line] (fun t =>
       t.get TIME_NOW.NS = (s.get TIME_NOW.NS + v.toNat) % 2 ^ 64 ∧ t.timeFrac = s.timeFrac ∧
       t.get TIME_STATUS.STEP_COUNT = (s.get TIME_STATUS.STEP_COUNT + 1) % 2 ^ TIME_STATUS.STEP_COUNT.w ∧
           Answered t m tag.toNat 0 0 [])) ∧
  (∀ (s : State) (m : Master) (tag : BitVec 10) (v : Word),
     Writable s m TIME_OFFSET 0 v ∧ s.timeSource ≠ 1 →
     Does (.timeOffset m tag v) s [.csr, .out, .intc] (fun t =>
       t.get TIME_LAST_OFFSET.OFFSET = v.toNat ∧ OtherRegs [TIME_OFFSET.addr 0 0, TIME_LAST_OFFSET.addr 0 0] s t ∧
           Answered t m tag.toNat 0 0 [])) ∧
  (∀ (s : State) (m : Master) (tag : BitVec 10) (v : Word),
     Writable s m TIME_OFFSET 0 v ∧ s.timeSource = 1 ∧ s.get TIME_STATUS.SERVO_STATE = 1 →
     s.get TIME_SERVO_LIMIT.STEP_NS * 2 ^ 16 < (toSigned 64 v.toNat).natAbs →
     Does (.timeOffset m tag v) s [.csr, .out, .timeFrac, .intc, .line] (fun t =>
       t.get TIME_LAST_OFFSET.OFFSET = v.toNat ∧ t.on TIME_STATUS.VALID = true ∧ t.on TIME_INT_STATUS.STEPPED = true ∧
           Sent s t (.report 0x0E01) ∧
       Answered t m tag.toNat 0 0 [])) ∧
  (∀ (s : State) (m : Master) (tag : BitVec 10) (v : Word),
     Writable s m TIME_CTRL 0 v ∧ TIME_CTRL.ENABLE.of v.toNat = s.get TIME_CTRL.ENABLE →
     (s.on TIME_STATUS.READY = false ∨ TIME_CTRL.SOURCE.of v.toNat = 0) →
     Does (.sourceSelect m tag v) s [.csr, .out, .intc, .time, .ctl] (fun t =>
       t.get TIME_CTRL.SOURCE = TIME_CTRL.SOURCE.of v.toNat ∧ t.get TIME_STATUS.SERVO_STATE = 0 ∧
           t.get TIME_INC.INC = s.get TIME_INC_NOM.INC ∧
       OtherRegs [TIME_CTRL.addr 0 0, TIME_STATUS.addr 0 0, TIME_INC.addr 0 0] s t ∧ Answered t m tag.toNat 0 0 [])) ∧
  (∀ (s : State) (m : Master) (tag : BitVec 10) (v : Word),
     Writable s m TIME_CTRL 0 v ∧ TIME_CTRL.ENABLE.of v.toNat = s.get TIME_CTRL.ENABLE ∧ s.ctl.checking.contains 14 = false ∧
         s.on TIME_STATUS.READY = true →
     TIME_CTRL.SOURCE.of v.toNat ∈ [1, 2] ∧ s.on TIME_CTRL.ENABLE = true →
     Does (.sourceSelect m tag v) s [.csr, .out, .intc, .time] (fun t =>
       t.get TIME_CTRL.SOURCE = TIME_CTRL.SOURCE.of v.toNat ∧
           t.get TIME_STATUS.SERVO_STATE = (if s.get TIME_STATUS.SERVO_STATE = 0 then 1 else s.get TIME_STATUS.SERVO_STATE) ∧
       OtherRegs [TIME_CTRL.addr 0 0, TIME_STATUS.addr 0 0] s t ∧ Answered t m tag.toNat 0 0 [])) ∧
  (∀ (s : State) (m : Master) (tag : BitVec 10) (v : Word),
     Writable s m TIME_CMD 0 (forced v [(TIME_CMD.HOLD, 1)]) ∧ TIME_CMD.REACQUIRE.of (forced v [(TIME_CMD.HOLD, 1)]).toNat = 0 →
     s.get TIME_STATUS.SERVO_STATE ∈ [1, 2] →
     Does (.hold m tag v) s [.csr, .out, .intc, .time] (fun t =>
       t.get TIME_STATUS.SERVO_STATE = 3 ∧ t.get TIME_INC.INC = ofSigned 48 ((s.get TIME_INC_NOM.INC : Int) - s.integ) ∧
       t.on TIME_INT_STATUS.HOLDOVER = true ∧ Sent s t (.report 0x0E04) ∧ t.time.cause = 4 ∧ Answered t m tag.toNat 0 0 [])) ∧
  (∀ (s : State) (m : Master) (tag : BitVec 10) (v : Word),
     Writable s m TIME_CMD 0 (forced v [(TIME_CMD.HOLD, 1)]) ∧ TIME_CMD.REACQUIRE.of (forced v [(TIME_CMD.HOLD, 1)]).toNat = 0 →
     s.get TIME_STATUS.SERVO_STATE ∉ [1, 2] →
     Does (.hold m tag v) s [.csr, .out, .intc] (fun t =>
       OtherRegs [TIME_CMD.addr 0 0] s t ∧ Answered t m tag.toNat 0 0 [])) ∧
  (∀ (s : State) (m : Master) (tag : BitVec 10) (v : Word),
     Writable s m TIME_CMD 0 (forced v [(TIME_CMD.REACQUIRE, 1)]) ∧ TIME_CMD.HOLD.of (forced v [(TIME_CMD.REACQUIRE,
         1)]).toNat = 0 →
     Does (.reacquire m tag v) s [.csr, .out, .intc, .time] (fun t =>
       t.time.reacquire = (if s.get TIME_STATUS.SERVO_STATE = 3 then true else s.time.reacquire) ∧
           OtherRegs [TIME_CMD.addr 0 0] s t ∧
       Answered t m tag.toNat 0 0 []))

/-- A hold timeout and the loss of REFCLK take the servo from ACQUIRE or LOCKED to HOLDOVER; the loss sets REF_LOST and reports
0x0E03, the return clears it and reports 0x0E0B. An edge of PPS_IN of the edge selected records T less the compensation; under
PPS as the source in LOCKED an edge far from its prediction reports 0x0E08, under another source it is only recorded; an edge of
the other kind changes nothing. A missing edge under PPS reports 0x0E08. PPS_OUT rises while OUT_EN is 1, and falls again. -/
def Obligations.TimeEvents : Prop :=
  (∀ (s : State),
     s.get TIME_STATUS.SERVO_STATE ∈ [1, 2] →
     Does (.holdTimeout) s [.csr, .out, .intc, .time] (fun t =>
       t.get TIME_STATUS.SERVO_STATE = 3 ∧ t.time.cause = 1 ∧
           t.get TIME_INC.INC = ofSigned 48 ((s.get TIME_INC_NOM.INC : Int) - s.integ) ∧
       t.on TIME_INT_STATUS.HOLDOVER = true ∧ Sent s t (.report 0x0E04))) ∧
  (∀ (s : State),
     Does (.refclkLost) s [.csr, .out, .intc, .time] (fun t =>
       t.on TIME_STATUS.REF_LOST = true ∧ t.on TIME_INT_STATUS.REF = true ∧ Sent s t (.report 0x0E03) ∧
       t.get TIME_STATUS.SERVO_STATE = (if s.get TIME_STATUS.SERVO_STATE ∈ [1, 2] then 3 else s.get TIME_STATUS.SERVO_STATE))) ∧
  (∀ (s : State),
     Does (.refclkRestored) s [.csr, .out, .intc] (fun t =>
       t.on TIME_STATUS.REF_LOST = false ∧ t.on TIME_INT_STATUS.REF = true ∧ Sent s t (.report 0x0E0B) ∧
       OtherRegs [TIME_STATUS.addr 0 0, TIME_INT_STATUS.addr 0 0] s t)) ∧
  (∀ (s : State) (f : Bool),
     let ns := (s.get TIME_NOW.NS + 2 ^ 64 - s.get TIME_PPS_CFG.IN_COMP_NS) % 2 ^ 64
     let o := ((s.set TIME_PPS_IN.NS ns).fromSecond ns).1 * 2 ^ 16
     f = s.on TIME_PPS_CFG.IN_FALLING ∧ s.timeSource = 2 ∧ s.get TIME_STATUS.SERVO_STATE = 2 →
     1000 * 2 ^ 16 < (o - s.time.oPred).natAbs →
     Does (.ppsInEdge f) s [.csr, .out, .freeCtr, .intc, .time] (fun t =>
       t.get TIME_PPS_IN.NS = ns ∧ t.get TIME_LAST_OFFSET.OFFSET = ofSigned 64 o ∧ t.on TIME_INT_STATUS.PPS = true ∧
           Sent s t (.report 0x0E08) ∧
       t.time.outliers = s.time.outliers + 1)) ∧
  (∀ (s : State) (f : Bool),
     f = s.on TIME_PPS_CFG.IN_FALLING ∧ s.timeSource ≠ 2 →
     Does (.ppsInEdge f) s [.csr, .out, .freeCtr, .intc] (fun t =>
       t.get TIME_PPS_IN.NS = (s.get TIME_NOW.NS + 2 ^ 64 - s.get TIME_PPS_CFG.IN_COMP_NS) % 2 ^ 64 ∧
       OtherRegs [TIME_PPS_IN.addr 0 0, TIME_LAST_OFFSET.addr 0 0] s t)) ∧
  (∀ (s : State) (f : Bool),
     f ≠ s.on TIME_PPS_CFG.IN_FALLING →
     exec (.ppsInEdge f) s = .next s) ∧
  (∀ (s : State),
     Does (.ppsEdgeMissing) s [.csr, .out, .intc] (fun t =>
       (s.timeSource = 2 → t.on TIME_INT_STATUS.PPS = true ∧ t.get TIME_ERR_LOG.REASON = 0x0E08 ∧ Sent s t (.report 0x0E08)) ∧
       (s.timeSource ≠ 2 → t = s))) ∧
  (∀ (s : State),
     Does (.ppsOutEdge) s [.time] (fun t =>
       t.time.ppsOut = (!s.time.ppsOut && s.on TIME_CTRL.OUT_EN)))

/-- INTC_RAISE of a software source makes it pending, or, where it is active, records it as lost in INTC_LOST, INTC_STATS and
LOST_EVENT; of any other source it is refused with 0x0102. INTC_COMPLETE by the target that the source is active at ends its
activity; otherwise it is refused with 0x0101 and counted as a violation. INTC_SRC takes its fields, and a reserved source keeps
reading zero. A mailbox write stores its value and raises the mailbox's source. While a host source stays deliverable and the
host is there, the INTR goes out again and is counted. -/
def Obligations.InterruptCommands : Prop :=
  (∀ (s : State) (m : Master) (tag : BitVec 10) (v : Word),
     let src := INTC_RAISE.SOURCE.of v.toNat
     Writable s m INTC_RAISE 0 v ∧ 1280 ≤ src ∧ src < 2048 ∧ s.isActive src = false →
     Does (.intcRaise m tag v) s [.csr, .out, .intc] (fun t =>
       src ∈ t.intc.pending ∧ t.isPending src = true ∧ OtherRegs [INTC_RAISE.addr 0 0] s t ∧ Answered t m tag.toNat 0 0 [])) ∧
  (∀ (s : State) (m : Master) (tag : BitVec 10) (v : Word),
     let src := INTC_RAISE.SOURCE.of v.toNat
     Writable s m INTC_RAISE 0 v ∧ 1280 ≤ src ∧ src < 2048 ∧ s.isActive src = true →
     Does (.intcRaise m tag v) s [.csr, .out, .intc] (fun t =>
       (t.get INTC_LOST.LOST (src / 64)).testBit (src % 64) = true ∧
           t.get INTC_STATS.LOST = satAdd INTC_STATS.LOST.w (s.get INTC_STATS.LOST) 1 ∧
       t.on INTC_INT_STATUS.LOST_EVENT = true ∧ t.intc.pending = s.intc.pending ∧ Answered t m tag.toNat 0 0 [])) ∧
  (∀ (s : State) (m : Master) (tag : BitVec 10) (v : Word),
     Writable s m INTC_RAISE 0 v ∧ INTC_RAISE.SOURCE.of v.toNat < 1280 →
     Does (.intcRaise m tag v) s [.csr, .out, .intc] (fun t =>
       t.intc.pending = s.intc.pending ∧ Answered t m tag.toNat 1 0x0102 [])) ∧
  (∀ (s : State) (m : Master) (tag : BitVec 10) (k : Fin 3) (v : Word) (a : ActiveSrc),
     Writable s m INTC_COMPLETE k v →
     s.intc.active.find? (fun x => x.src == INTC_COMPLETE.SOURCE.of v.toNat && x.target == k.val) = some a →
     Does (.intcComplete m tag k v) s [.csr, .out, .intc] (fun t =>
       t.intc.active = s.intc.active.erase a ∧ OtherRegs [INTC_COMPLETE.addr k 0] s t ∧ Answered t m tag.toNat 0 0 [])) ∧
  (∀ (s : State) (m : Master) (tag : BitVec 10) (k : Fin 3) (v : Word),
     Writable s m INTC_COMPLETE k v ∧ s.intc.active.any (fun x => x.src == INTC_COMPLETE.SOURCE.of v.toNat && x.target == k.val) =
         false →
     Does (.intcComplete m tag k v) s [.csr, .mem, .poison, .out, .intc, .myk] (fun t =>
       t.intc.active = s.intc.active ∧ t.on INTC_INT_STATUS.BAD_COMPLETE = true ∧
       t.get TOP_VIOL_COUNT.TOTAL = (s.get TOP_VIOL_COUNT.TOTAL + 1) % 2 ^ TOP_VIOL_COUNT.TOTAL.w ∧
           Answered t m tag.toNat 1 0x0101 [])) ∧
  (∀ (s : State) (m : Master) (tag : BitVec 10) (src : Fin 2048) (v : Word),
     Writable s m INTC_SRC src v ∧ reservedSource src = false →
     Does (.intcSrcWrite m tag src v) s [.csr, .out, .intc] (fun t =>
       t.rdReg INTC_SRC src = (⟨INTC_SRC, src, 0, 1⟩ : Hit).merge (s.rdReg INTC_SRC src) v ∧ OtherRegs [INTC_SRC.addr src 0] s t ∧
       Answered t m tag.toNat 0 0 [])) ∧
  (∀ (s : State) (m : Master) (tag : BitVec 10) (src : Fin 2048) (v : Word),
     Writable s m INTC_SRC src v ∧ reservedSource src = true →
     Does (.intcSrcWrite m tag src v) s [.csr, .out, .intc] (fun t =>
       OtherRegs [] s t ∧ Answered t m tag.toNat 0 0 [])) ∧
  (∀ (s : State) (m : Master) (tag : BitVec 10) (k : Fin 4) (v : Word),
     Writable s m TOP_MBOX k v ∧ s.isActive (1173 + k.val) = false →
     Does (.mailboxWrite m tag k v) s [.csr, .out, .intc] (fun t =>
       t.rdReg TOP_MBOX k = v ∧ 1173 + k.val ∈ t.intc.pending ∧ OtherRegs [TOP_MBOX.addr k 0] s t ∧ Answered t m tag.toNat 0 0 [])) ∧
  (∀ (s : State),
     s.hostPriority ≠ 0 ∧ s.hostLost = false →
     Does (.intrResend) s [.csr, .out] (fun t =>
       t.get INTC_STATS.RESEND = satAdd INTC_STATS.RESEND.w (s.get INTC_STATS.RESEND) 1 ∧ OtherRegs [INTC_STATS.addr 0 0] s t ∧
       t.out = s.out ++ [.myk { type := 6, len := 8, payload := le 8 (s.get TOP_MYK_CFG.MSG_DATA + s.hostPriority * 2 ^ 16) }]))

/-- Training and its repetition set the width that works, with the link up; a replay is counted, and the sixteenth in a row
retrains the link, as does a loss of lock. The loss of the host sets HOST_LOST, reports 0x0013 and stops every enabled queue
whose rings the host holds with 0x0207; its return reports 0x0016. A completion of a pending read with its bytes takes the read
off the pending ones; a malformed one is counted and reported with 0x0012; one that no read waits for is counted; a read that
times out ends with 0x0014. -/
def Obligations.MykabelLink : Prop :=
  (∀ (s : State) (lanes : BitVec 4),
     s.get TOP_MYK_STATUS.STATE ∈ [0, 2] ∧ mykWidth lanes.toNat ≠ 0 →
     Does (.mykLinkTrained lanes) s [.csr, .out, .intc, .myk] (fun t =>
       t.get TOP_MYK_STATUS.STATE = 1 ∧ t.get TOP_MYK_STATUS.WIDTH = mykWidth lanes.toNat)) ∧
  (∀ (s : State) (first : Bool),
     (if first then 0 else s.myk.replays) + 1 < 16 →
     Does (.mykReplay first) s [.csr, .myk] (fun t =>
       t.get TOP_MYK_COUNT.REPLAYS = satAdd TOP_MYK_COUNT.REPLAYS.w (s.get TOP_MYK_COUNT.REPLAYS) 1 ∧
       t.myk.replays = (if first then 0 else s.myk.replays) + 1 ∧ OtherRegs [TOP_MYK_COUNT.addr 0 0] s t)) ∧
  (∀ (s : State) (first : Bool),
     16 ≤ (if first then 0 else s.myk.replays) + 1 ∧ s.get TOP_MYK_STATUS.STATE = 1 →
     Does (.mykReplay first) s [.csr, .myk] (fun t =>
       t.get TOP_MYK_COUNT.REPLAYS = satAdd TOP_MYK_COUNT.REPLAYS.w (s.get TOP_MYK_COUNT.REPLAYS) 1 ∧
           t.get TOP_MYK_STATUS.STATE = 2 ∧
       t.myk.replays = 0 ∧ OtherRegs [TOP_MYK_COUNT.addr 0 0, TOP_MYK_STATUS.addr 0 0] s t)) ∧
  (∀ (s : State),
     s.get TOP_MYK_STATUS.STATE = 1 →
     Does (.mykabelLossOfLock) s [.csr, .myk] (fun t =>
       t.get TOP_MYK_STATUS.STATE = 2 ∧ t.myk.replays = 0 ∧ OtherRegs [TOP_MYK_STATUS.addr 0 0] s t)) ∧
  (∀ (s : State),
     s.get TOP_MYK_STATUS.STATE ∈ [0, 2] →
     Does (.hostLost) s [.csr, .out, .intc] (fun t =>
       t.hostLost = true ∧ Sent s t (.report 0x0013) ∧ t.on TOP_INT_STATUS.LINK = true ∧
       (s.queuesOn.filter s.hostRings).all (fun q => t.on Q_STATUS.STOPPED q && t.get Q_STATUS.REASON q == 0x0207) = true)) ∧
  (∀ (s : State) (lanes : BitVec 4),
     s.hostLost = true ∧ mykWidth lanes.toNat ≠ 0 →
     Does (.hostLinkRestored lanes) s [.csr, .mem, .poison, .out, .intc, .myk, .xport] (fun t =>
       t.hostLost = false ∧ t.get TOP_MYK_STATUS.WIDTH = mykWidth lanes.toNat ∧ Sent s t (.report 0x0016) ∧
           t.on TOP_INT_STATUS.LINK = true)) ∧
  (∀ (s : State) (msg : MykMsg) (r : HostRead),
     s.myk.reads.find? (fun x => x.1 == msg.tag) = some (msg.tag, r) ∧ msg.type = 7 ∧ msg.status = 0 ∧ msg.payload.length = r.len ∧
         msg.len = r.len →
     r.queue = none ∧ s.myk.toRead = [] →
     Does (.memRdCpl msg) s [.mem, .poison, .myk] (fun t =>
       t.myk.reads = s.myk.reads.erase (msg.tag, r) ∧ t.readBytes r.addr r.len = msg.payload ∧
       OtherBytes r.addr r.len s t)) ∧
  (∀ (s : State) (msg : MykMsg),
     s.myk.reads.any (fun x => x.1 == msg.tag) = true ∧ (msg.type ≠ 7 ∨ msg.status = 3) →
     Does (.memRdCpl msg) s [.csr, .out] (fun t =>
       t.get TOP_MYK_COUNT.BAD_MSG = satAdd TOP_MYK_COUNT.BAD_MSG.w (s.get TOP_MYK_COUNT.BAD_MSG) 1 ∧ Sent s t (.report 0x0012) ∧
       OtherRegs [TOP_MYK_COUNT.addr 0 0] s t)) ∧
  (∀ (s : State) (msg : MykMsg),
     s.myk.reads.any (fun x => x.1 == msg.tag) = false →
     Does (.memRdCpl msg) s [.csr] (fun t =>
       t.get TOP_MYK_COUNT.BAD_MSG = satAdd TOP_MYK_COUNT.BAD_MSG.w (s.get TOP_MYK_COUNT.BAD_MSG) 1 ∧
           OtherRegs [TOP_MYK_COUNT.addr 0 0] s t)) ∧
  (∀ (s : State) (tag : Fin 1024) (r : HostRead),
     s.myk.reads.find? (fun x => x.1 == tag.val) = some (tag.val, r) ∧ r.queue = none ∧ s.myk.toRead = [] →
     Does (.hostReadTimeout tag) s [.csr, .poison, .out, .intc, .myk] (fun t =>
       t.myk.reads = s.myk.reads.erase (tag.val, r) ∧ Sent s t (.report 0x0014) ∧ t.get TOP_FAULT.REASON = 0x0014 ∧
           t.on TOP_INT_STATUS.HOST_READ = true))

/-- A submission doorbell to an enabled queue outside the LINE range whose new tail lies between the old tail and one ring
beyond the head becomes the queue's tail, and nothing else changes; any other new tail is refused with 0x0203, logged and
counted. A doorbell to a disabled queue is refused with 0x0204. A completion doorbell whose new head lies between the old head
and the completion tail becomes the queue's head, arms the interrupt with ARM, and ends CQ_FULL once the ring has space; one
beyond the completion tail is refused with 0x0203. -/
def Obligations.Doorbells : Prop :=
  (∀ (s : State) (q : Fin 8192) (v : BitVec 64),
     let msg : MykMsg := { type := 5, len := 8, addr := 0x10000000 + 0x1000 * q.val, payload := le 8 v.toNat }
     s.on HOSTQ_STATUS.READY = true ∧ s.inLineRange q = false ∧ s.on Q_CFG.ENABLE q = true →
     diff16 (s.get Q_PTR.SQ_TAIL q) (s.get Q_PTR.SQ_HEAD q) ≤ diff16 (v.toNat % 2 ^ 16) (s.get Q_PTR.SQ_HEAD q) →
     diff16 (v.toNat % 2 ^ 16) (s.get Q_PTR.SQ_HEAD q) ≤ s.sqSize q →
     Does (.sqTail msg) s [.csr] (fun t =>
       t.get Q_PTR.SQ_TAIL q = v.toNat % 2 ^ 16 ∧ t.get Q_PTR.SQ_HEAD q = s.get Q_PTR.SQ_HEAD q ∧
       t.get Q_PTR.CQ_HEAD q = s.get Q_PTR.CQ_HEAD q ∧ t.get Q_PTR.CQ_TAIL q = s.get Q_PTR.CQ_TAIL q ∧
           OtherRegs [Q_PTR.addr q 0] s t)) ∧
  (∀ (s : State) (q : Fin 8192) (v : BitVec 64),
     let msg : MykMsg := { type := 5, len := 8, addr := 0x10000000 + 0x1000 * q.val, payload := le 8 v.toNat }
     s.on HOSTQ_STATUS.READY = true ∧ s.inLineRange q = false ∧ s.on Q_CFG.ENABLE q = true →
     diff16 (v.toNat % 2 ^ 16) (s.get Q_PTR.SQ_HEAD q) < diff16 (s.get Q_PTR.SQ_TAIL q) (s.get Q_PTR.SQ_HEAD q) ∨
       s.sqSize q < diff16 (v.toNat % 2 ^ 16) (s.get Q_PTR.SQ_HEAD q) →
     Does (.sqTail msg) s [.csr, .mem, .poison, .out, .intc, .myk] (fun t =>
       t.rdReg Q_PTR q = s.rdReg Q_PTR q ∧ t.get HOSTQ_ERR_LOG.REASON = 0x0203 ∧ t.get HOSTQ_ERR_LOG.QUEUE = q ∧
       t.get HOSTQ_COUNT.VIOLATIONS = satAdd HOSTQ_COUNT.VIOLATIONS.w (s.get HOSTQ_COUNT.VIOLATIONS) 1 ∧
       t.get TOP_VIOL_COUNT.TOTAL = (s.get TOP_VIOL_COUNT.TOTAL + 1) % 2 ^ TOP_VIOL_COUNT.TOTAL.w)) ∧
  (∀ (s : State) (q : Fin 8192) (v : BitVec 64) (cq : Bool),
     let a := 0x10000000 + 0x1000 * q.val + (if cq then 8 else 0)
     let msg : MykMsg := { type := 5, len := 8, addr := a, payload := le 8 v.toNat }
     s.on HOSTQ_STATUS.READY = true ∧ s.inLineRange q = false ∧ s.on Q_CFG.ENABLE q = false →
     Does (if cq then .cqDoor msg else .sqTail msg) s [.csr, .mem, .poison, .out, .intc, .myk] (fun t =>
       t.rdReg Q_PTR q = s.rdReg Q_PTR q ∧ t.get HOSTQ_ERR_LOG.REASON = 0x0204 ∧ t.get HOSTQ_ERR_LOG.QUEUE = q ∧
       t.get TOP_VIOL_COUNT.TOTAL = (s.get TOP_VIOL_COUNT.TOTAL + 1) % 2 ^ TOP_VIOL_COUNT.TOTAL.w)) ∧
  (∀ (s : State) (q : Fin 8192) (v : BitVec 64),
     let msg : MykMsg := { type := 5, len := 8, addr := 0x10000008 + 0x1000 * q.val, payload := le 8 v.toNat }
     s.on HOSTQ_STATUS.READY = true ∧ s.inLineRange q = false ∧ s.on Q_CFG.ENABLE q = true →
     diff16 (v.toNat % 2 ^ 16) (s.get Q_PTR.CQ_HEAD q) ≤ diff16 (s.get Q_PTR.CQ_TAIL q) (s.get Q_PTR.CQ_HEAD q) →
     Does (.cqDoor msg) s [.csr, .hostq] (fun t =>
       t.get Q_PTR.CQ_HEAD q = v.toNat % 2 ^ 16 ∧ t.get Q_PTR.CQ_TAIL q = s.get Q_PTR.CQ_TAIL q ∧
       t.get Q_PTR.SQ_HEAD q = s.get Q_PTR.SQ_HEAD q ∧ t.get Q_PTR.SQ_TAIL q = s.get Q_PTR.SQ_TAIL q ∧
       t.hostq.armed = (if v.getLsbD 16 then addOnce s.hostq.armed q.val else s.hostq.armed) ∧
       t.on Q_STATUS.CQ_FULL q = (s.on Q_STATUS.CQ_FULL q && decide (s.cqSize q ≤ diff16 (s.get Q_PTR.CQ_TAIL q) (v.toNat % 2 ^
           16))) ∧
       OtherRegs [Q_PTR.addr q 0, Q_STATUS.addr q 0] s t)) ∧
  (∀ (s : State) (q : Fin 8192) (v : BitVec 64),
     let msg : MykMsg := { type := 5, len := 8, addr := 0x10000008 + 0x1000 * q.val, payload := le 8 v.toNat }
     s.on HOSTQ_STATUS.READY = true ∧ s.inLineRange q = false ∧ s.on Q_CFG.ENABLE q = true →
     diff16 (s.get Q_PTR.CQ_TAIL q) (s.get Q_PTR.CQ_HEAD q) < diff16 (v.toNat % 2 ^ 16) (s.get Q_PTR.CQ_HEAD q) →
     Does (.cqDoor msg) s [.csr, .mem, .poison, .out, .intc, .myk] (fun t =>
       t.rdReg Q_PTR q = s.rdReg Q_PTR q ∧ t.get HOSTQ_ERR_LOG.REASON = 0x0203 ∧ t.get HOSTQ_ERR_LOG.QUEUE = q))

/-- ENABLE = 1 written to a queue that passes the queue check enables it, ends STOPPED, counts it in QUEUES_ENABLED and finishes
with 0x020B the descriptors abandoned at a bind-off; a queue that fails it stays disabled, and the reason stands in Q_STATUS.
ENABLE = 0 stops the queue: the copies it fetched ahead are discarded and DRAINING shows while a dispatched descriptor of it has
not completed, until the last one has. A write to a queue of the LINE range is refused with 0x0211. -/
def Obligations.QueueEnable : Prop :=
  (∀ (s : State) (m : Master) (tag : BitVec 10) (q : Fin 8192) (v : Word),
     let s1 := s.wrReg Q_CFG ((⟨Q_CFG, q, 0, 2⟩ : Hit).merge (s.rdReg Q_CFG q) v) q
     Writable s m Q_CFG q v ∧ s.inLineRange q = false ∧ v.getLsbD 0 = true ∧ s.on Q_CFG.ENABLE q = false →
     s.on Q_STATUS.DRAINING q = false ∧ (s1.queueCheck q).isNone = true →
     Does (.queueEnableWrite m tag q v) s [.csr, .out, .intc, .hostq] (fun t =>
       t.on Q_CFG.ENABLE q = true ∧ t.on Q_STATUS.STOPPED q = false ∧ t.get Q_CFG.CLASS q = s1.get Q_CFG.CLASS q ∧
       t.get HOSTQ_STATUS.QUEUES_ENABLED = (s.get HOSTQ_STATUS.QUEUES_ENABLED + 1) % 2 ^ HOSTQ_STATUS.QUEUES_ENABLED.w ∧
       t.hostq.abandoned = s.hostq.abandoned.filter (fun w => w.queue ≠ q.val) ∧
       (∀ w ∈ s.hostq.abandoned, w.queue = q.val → Ended t w 0x020B true false) ∧
       OtherRegs [Q_CFG.addr q 0, Q_STATUS.addr q 0, HOSTQ_STATUS.addr 0 0] s t ∧ Answered t m tag.toNat 0 0 [])) ∧
  (∀ (s : State) (m : Master) (tag : BitVec 10) (q : Fin 8192) (v : Word) (r : Nat),
     let s1 := s.wrReg Q_CFG ((⟨Q_CFG, q, 0, 2⟩ : Hit).merge (s.rdReg Q_CFG q) v) q
     Writable s m Q_CFG q v ∧ s.inLineRange q = false ∧ v.getLsbD 0 = true ∧ s.on Q_CFG.ENABLE q = false →
     s.on Q_STATUS.DRAINING q = false ∧ s1.queueCheck q = some r →
     Does (.queueEnableWrite m tag q v) s [.csr, .out, .intc] (fun t =>
       t.on Q_CFG.ENABLE q = false ∧ t.get Q_STATUS.REASON q = r % 2 ^ 16 ∧ t.on HOSTQ_INT_STATUS.CONFIG_REFUSED = true ∧
       t.get HOSTQ_STATUS.QUEUES_ENABLED = s.get HOSTQ_STATUS.QUEUES_ENABLED ∧ Answered t m tag.toNat 0 0 [])) ∧
  (∀ (s : State) (m : Master) (tag : BitVec 10) (q : Fin 8192) (v : Word),
     Writable s m Q_CFG q v ∧ s.inLineRange q = false ∧ v.getLsbD 0 = false ∧ s.on Q_CFG.ENABLE q = true →
     Does (.queueEnableWrite m tag q v) s [.csr, .out, .intc, .hostq] (fun t =>
       t.on Q_CFG.ENABLE q = false ∧ t.hostq.fetched = s.hostq.fetched.filter (fun f => f.work.queue ≠ q.val) ∧
       t.on Q_STATUS.DRAINING q = (s.on Q_STATUS.DRAINING q || !s.fenceOpen q) ∧ t.hostq.dispatched = s.hostq.dispatched ∧
       t.get HOSTQ_STATUS.QUEUES_ENABLED = s.get HOSTQ_STATUS.QUEUES_ENABLED - 1 ∧ Answered t m tag.toNat 0 0 [])) ∧
  (∀ (s : State) (m : Master) (tag : BitVec 10) (q : Fin 8192) (v : Word),
     Writable s m Q_CFG q v ∧ s.inLineRange q = true →
     Does (.queueEnableWrite m tag q v) s [.out, .intc] (fun t =>
       Answered t m tag.toNat 1 0x0211 [])) ∧
  (∀ (s : State) (q : Fin 8192),
     s.on Q_STATUS.DRAINING q = true →
     s.hostq.dispatched.any (fun d => d.work.queue == q.val) = false ∧
         s.hostq.finished.any (fun d => d.work.queue == q.val) = false →
     Does (.queueDrainEnd q) s [.csr] (fun t =>
       t.on Q_STATUS.DRAINING q = false ∧ OtherRegs [Q_STATUS.addr q 0] s t))

/-- The queue engine reads the next ring entry beyond those it holds: from module memory the 128 bytes are there at once, from
host memory a MEM_RD goes out; a failed or poisoned read stops the queue with 0x0207 and discards its copies. The oldest fetched
descriptor that passes the checks moves to its block, the submission head advances and is written back; one with a bad header
completes with 0x0201, one whose block drains with the block's not-ready reason. -/
def Obligations.FetchAndDispatch : Prop :=
  (∀ (s : State) (q : Fin 8192),
     let n := (s.hostq.fetched.filter (fun f => f.work.queue == q.val && f.work.index != 0xFFFF)).length
     let i := (s.get Q_PTR.SQ_HEAD q + n) % 2 ^ 16
     let a := s.get Q_SQ.ADDR q * 128 + 128 * (i % s.sqSize q)
     s.on HOSTQ_STATUS.READY = true ∧ (s.engineFor q).isSome = true ∧ s.on Q_CFG.ENABLE q = true ∧ s.on Q_STATUS.STOPPED q = false →
     s.on Q_STATUS.CQ_FULL q = false ∧ n < 8 ∧ i ≠ s.get Q_PTR.SQ_TAIL q →
     s.isPoisoned a 128 = false ∧ (s.memCheck (s.get Q_CFG.CLASS q) false a 128).isNone = true ∧ isHost a = false →
     Does (.descriptorFetch q false) s [.csr, .out, .intc, .hostq, .sched, .pmon] (fun t =>
       t.hostq.fetched.length = s.hostq.fetched.length + 1 ∧ t.hostq.fetched.getLast?.map (·.work) = some ⟨q, i,
           s.readBytes a 128⟩ ∧
       t.hostq.fetched.getLast?.map (·.ready) = some true ∧ t.hostq.dispatched = s.hostq.dispatched ∧
           t.rdReg Q_PTR q = s.rdReg Q_PTR q)) ∧
  (∀ (s : State) (q : Fin 8192) (g : Nat),
     let n := (s.hostq.fetched.filter (fun f => f.work.queue == q.val && f.work.index != 0xFFFF)).length
     let i := (s.get Q_PTR.SQ_HEAD q + n) % 2 ^ 16
     let a := s.get Q_SQ.ADDR q * 128 + 128 * (i % s.sqSize q)
     s.on HOSTQ_STATUS.READY = true ∧ (s.engineFor q).isSome = true ∧ s.on Q_CFG.ENABLE q = true ∧ s.on Q_STATUS.STOPPED q = false →
     s.on Q_STATUS.CQ_FULL q = false ∧ n < 8 ∧ i ≠ s.get Q_PTR.SQ_TAIL q →
     s.isPoisoned a 128 = false ∧ (s.memCheck (s.get Q_CFG.CLASS q) false a 128).isNone = true ∧ isHost a = true →
     s.freeTag = some g →
     Does (.descriptorFetch q false) s [.out, .myk, .hostq] (fun t =>
       t.hostq.fetched = s.hostq.fetched ++ [⟨⟨q, i, []⟩, a, s.now, 0, 0, [], false⟩] ∧
       t.out = s.out ++ [.myk { type := 1, tag := g, len := 128, addr := a - hostBase }] ∧
       t.myk.reads = s.myk.reads ++ [(g, ⟨a, 128, some q.val⟩)])) ∧
  (∀ (s : State) (q : Fin 8192) (fails : Bool),
     let n := (s.hostq.fetched.filter (fun f => f.work.queue == q.val && f.work.index != 0xFFFF)).length
     let i := (s.get Q_PTR.SQ_HEAD q + n) % 2 ^ 16
     let a := s.get Q_SQ.ADDR q * 128 + 128 * (i % s.sqSize q)
     s.on HOSTQ_STATUS.READY = true ∧ (s.engineFor q).isSome = true ∧ s.on Q_CFG.ENABLE q = true ∧ s.on Q_STATUS.STOPPED q = false →
     s.on Q_STATUS.CQ_FULL q = false ∧ n < 8 ∧ i ≠ s.get Q_PTR.SQ_TAIL q →
     fails = true ∨ s.isPoisoned a 128 = true →
     Does (.descriptorFetch q fails) s [.csr, .out, .intc, .hostq] (fun t =>
       t.on Q_STATUS.STOPPED q = true ∧ t.get Q_STATUS.REASON q = 0x0207 ∧ t.get HOSTQ_ERR_LOG.REASON = 0x0207 ∧
       t.get HOSTQ_COUNT.FETCH_ERR = satAdd HOSTQ_COUNT.FETCH_ERR.w (s.get HOSTQ_COUNT.FETCH_ERR) 1 ∧
           t.rdReg Q_PTR q = s.rdReg Q_PTR q ∧
       t.hostq.fetched = s.hostq.fetched.filter (fun f => f.work.queue ≠ q.val) ∧ t.hostq.dispatched = s.hostq.dispatched)) ∧
  (∀ (s : State) (q : Fin 8192) (f : Fetched),
     s.hostq.fetched.find? (fun f => f.work.queue == q.val) = some f ∧ s.on HOSTQ_STATUS.READY = true ∧ f.ready = true →
     f.work.flags.testBit 1 = true → s.fenceOpen q = true →
     (s.dispatchCheck f).isNone = true ∧ s.dispatchHeld f.work.block = false ∧ s.ctl.draining.contains f.work.block = false →
     f.work.index ≠ 0xFFFF ∧ (isHost (s.get Q_WB.ADDR q * 8) = false ∨ s.hostLost = false) →
     Does (.descriptorDispatch q) s [.csr, .mem, .poison, .out, .hostq] (fun t =>
       t.get Q_PTR.SQ_HEAD q = (s.get Q_PTR.SQ_HEAD q + 1) % 2 ^ 16 ∧ t.hostq.fetched = s.hostq.fetched.erase f ∧
       t.hostq.dispatched = s.hostq.dispatched ++ [⟨f.work, f.tFetch, s.now, f.colour, false, f.samplers, f.addr⟩] ∧
       t.get Q_STATUS.INFLIGHT q = (s.get Q_STATUS.INFLIGHT q + 1) % 2 ^ Q_STATUS.INFLIGHT.w ∧
           t.get Q_PTR.CQ_TAIL q = s.get Q_PTR.CQ_TAIL q ∧
       (s.get Q_WB.ADDR q = 0 → t.mem = s.mem) ∧ OtherBytes (s.get Q_WB.ADDR q * 8) 8 s t ∧
       (s.get Q_WB.ADDR q ≠ 0 → t.readLe (s.get Q_WB.ADDR q * 8) 8 = (s.get Q_PTR.SQ_HEAD q + 1) % 2 ^ 16))) ∧
  (∀ (s : State) (q : Fin 8192) (f : Fetched),
     s.hostq.fetched.find? (fun f => f.work.queue == q.val) = some f ∧ s.on HOSTQ_STATUS.READY = true ∧ f.ready = true →
     f.work.flags.testBit 1 = true → s.fenceOpen q = true →
     headerOk (s.get Q_CFG.KIND q) f.work.desc = false →
     Does (.descriptorDispatch q) s [.csr, .mem, .poison, .out, .intc, .myk, .hostq] (fun t =>
       Ended t f.work 0x0201 true false ∧ t.hostq.fetched = s.hostq.fetched.erase f ∧ t.hostq.dispatched = s.hostq.dispatched ∧
       t.get HOSTQ_COUNT.REFUSED = satAdd HOSTQ_COUNT.REFUSED.w (s.get HOSTQ_COUNT.REFUSED) 1 ∧
           t.get HOSTQ_ERR_LOG.REASON = 0x0201 ∧
       t.get Q_STATUS.INFLIGHT q = s.get Q_STATUS.INFLIGHT q)) ∧
  (∀ (s : State) (q : Fin 8192) (f : Fetched) (r : Nat),
     s.hostq.fetched.find? (fun f => f.work.queue == q.val) = some f ∧ s.on HOSTQ_STATUS.READY = true ∧ f.ready = true →
     f.work.flags.testBit 1 = true → s.fenceOpen q = true →
     (s.dispatchCheck f).isNone = true ∧ s.dispatchHeld f.work.block = false ∧ s.ctl.draining.contains f.work.block = true →
     notReadyReason f.work.desc = some r →
     Does (.descriptorDispatch q) s [.csr, .mem, .poison, .out, .myk, .hostq] (fun t =>
       Ended t f.work r true false ∧ t.hostq.fetched = s.hostq.fetched.erase f))

/-- A finished descriptor writes the 64 bytes of its record at the completion tail, which advances, counts in DONE, and leaves
the finished ones; no other byte of memory changes. Its record waits, without loss, while the ring is full, and CQ_FULL shows
and is reported once. With NO_CR and no error or warning there is no record. A chain that its target accepts reads the
descriptor at NEXT into the target queue; one that it does not accept makes the record carry 0x0205 and posts nothing. A codec
descriptor that waits for its second run is run once more and leaves the list of those that wait: with no fault it completes
without error; where the check of its cluster fails again it completes with poisoned output and the step of its job is
UNRECOVERABLE with the check's reason. -/
def Obligations.CompletionRecords : Prop :=
  (∀ (s : State) (q : Fin 8192) (f : Finished),
     let a := s.get Q_CQ.ADDR q * 64 + 64 * (s.get Q_PTR.CQ_TAIL q % s.cqSize q)
     let phase := s.get Q_PTR.CQ_TAIL q / s.cqSize q % 2 == 0
     s.hostq.finished.find? (fun f => f.work.queue == q.val) = some f ∧ f.work.desc.length = 128 →
     f.chains = false ∧ (f.work.flags.testBit 3 = false ∨ f.res.error = true ∨ f.res.warning = true) ∧ s.cqUsed q < s.cqSize q →
     f.refused = false ∧ f.samplers = [] ∧ (isHost a = false ∨ s.hostLost = false) →
     Does (.completionRecord q) s [.csr, .mem, .poison, .out, .intc, .hostq] (fun t =>
       t.readBytes a 64 = recordBytes f phase false ∧ OtherBytes a 64 s t ∧
       t.get Q_PTR.CQ_TAIL q = (s.get Q_PTR.CQ_TAIL q + 1) % 2 ^ 16 ∧ t.get Q_PTR.CQ_HEAD q = s.get Q_PTR.CQ_HEAD q ∧
       t.get Q_COUNT.DONE q = (s.get Q_COUNT.DONE q + 1) % 2 ^ 32 ∧ t.hostq.finished = s.hostq.finished.erase f ∧
       t.get Q_STATUS.INFLIGHT q = s.get Q_STATUS.INFLIGHT q - 1 ∧ t.hostq.armed = s.hostq.armed.erase q.val ∧
       (f.res.error = true → t.get Q_STATUS.REASON q = f.res.reason % 2 ^ 16))) ∧
  (∀ (s : State) (q : Fin 8192) (f : Finished),
     s.hostq.finished.find? (fun f => f.work.queue == q.val) = some f ∧ f.chains = false →
     (f.work.flags.testBit 3 = false ∨ f.res.error = true ∨ f.res.warning = true) ∧ s.cqSize q ≤ s.cqUsed q →
     Does (.completionRecord q) s [.csr, .out, .intc, .hostq] (fun t =>
       t.on Q_STATUS.CQ_FULL q = true ∧ t.hostq.finished = s.hostq.finished ∧ t.rdReg Q_PTR q = s.rdReg Q_PTR q ∧
       (q.val ∉ s.hostq.fullReported → t.get HOSTQ_COUNT.CQ_FULL = satAdd HOSTQ_COUNT.CQ_FULL.w (s.get HOSTQ_COUNT.CQ_FULL) 1) ∧
       (q.val ∉ s.hostq.fullReported → Sent s t (.report 0x0206) ∧ t.hostq.fullReported = q.val :: s.hostq.fullReported) ∧
       (q.val ∈ s.hostq.fullReported → t.out = s.out ∧ OtherRegs [Q_STATUS.addr q 0] s t))) ∧
  (∀ (s : State) (q : Fin 8192) (f : Finished),
     s.hostq.finished.find? (fun f => f.work.queue == q.val) = some f ∧ f.chains = false ∧ f.refused = false ∧ f.samplers = [] →
     f.work.flags.testBit 3 = true ∧ f.res.error = false ∧ f.res.warning = false →
     Does (.completionRecord q) s [.csr, .hostq] (fun t =>
       t.hostq.finished = s.hostq.finished.erase f ∧ t.get Q_STATUS.INFLIGHT q = s.get Q_STATUS.INFLIGHT q - 1 ∧
       OtherRegs [Q_STATUS.addr q 0] s t)) ∧
  (∀ (s : State) (q : Fin 8192) (f : Finished),
     let a := f.work.field 24 8
     s.hostq.finished.find? (fun f => f.work.queue == q.val) = some f ∧ f.samplers = [] →
     f.chains = true ∧ s.chainOk f = true ∧ (f.work.flags.testBit 3 = true ∨ s.cqUsed q < s.cqSize q) →
     isHost a = false ∧ s.isPoisoned a 128 = false ∧ (s.memCheck (s.get Q_CFG.CLASS f.nextQueue) false a 128).isNone = true →
     Does (.completionRecord q) s [.csr, .mem, .poison, .out, .intc, .myk, .hostq] (fun t =>
       t.hostq.fetched.map (·.work) = s.hostq.fetched.map (·.work) ++ [⟨f.nextQueue, 0xFFFF, t.readBytes a 128⟩] ∧
       t.hostq.fetched.getLast?.map (·.ready) = some true ∧ t.hostq.finished = s.hostq.finished.erase f)) ∧
  (∀ (s : State) (q : Fin 8192) (f : Finished),
     let a := s.get Q_CQ.ADDR q * 64 + 64 * (s.get Q_PTR.CQ_TAIL q % s.cqSize q)
     let phase := s.get Q_PTR.CQ_TAIL q / s.cqSize q % 2 == 0
     s.hostq.finished.find? (fun f => f.work.queue == q.val) = some f ∧ f.work.desc.length = 128 ∧ f.samplers = [] →
     f.chains = true ∧ s.chainOk f = false ∧ s.cqUsed q < s.cqSize q ∧ (isHost a = false ∨ s.hostLost = false) →
     Does (.completionRecord q) s [.csr, .mem, .poison, .out, .intc, .hostq] (fun t =>
       t.readBytes a 64 = recordBytes { f with res := { f.res with reason := 0x0205, error := true } } phase false ∧
       t.hostq.fetched = s.hostq.fetched ∧ t.hostq.finished = s.hostq.finished.erase f ∧ t.get Q_STATUS.REASON q = 0x0205 ∧
       t.get HOSTQ_COUNT.REFUSED = satAdd HOSTQ_COUNT.REFUSED.w (s.get HOSTQ_COUNT.REFUSED) 1 ∧ OtherBytes a 64 s t)) ∧
  (∀ (s : State) (w : Work),
     w ∈ s.rerun ∧ w.block % 32 = 13 →
     Does (.poisonedOutputRerun w .none) s [.csr, .mem, .poison, .out, .intc, .myk, .hostq, .fab, .grp, .rerun] (fun t =>
       t.rerun = s.rerun.erase w ∧ Ended t w 0 false false)) ∧
  (∀ (s : State) (w : Work) (c : Fin 32) (e : Fin 8) (j : Nat),
     w ∈ s.rerun ∧ w.block % 32 = 13 ∧ s.purlInService c = true ∧ s.entryOf w.job = some j →
     Does (.poisonedOutputRerun w (.encoder c e)) s [.csr, .mem, .poison, .out, .freeCtr, .intc, .myk, .hostq, .hlth, .xport,
         .rerun] (fun t =>
       t.rerun = s.rerun.erase w ∧ Ended t w 0x0D0D true true ∧
       (t.stepRec j).state = 0x1F ∧ (t.stepRec j).reason = 0x0D0D ∧ Sent s t (.report 0x0D0D)))

/-- PUT to a member of the queue's group, and PUT_ALL to every member, add to the flow toward the member's module the WRITE
packets on the member's circuit that carry the descriptor's data, and the descriptor waits for their acknowledgement. While the
fabric is not ready the descriptor completes with 0x0624; a member outside the group or a length of zero completes with 0x020A.
-/
def Obligations.Communication : Prop :=
  (∀ (s : State) (w : Work),
     let n := w.body 4 4
     let e := s.readBytes (s.get Q_GROUP.ADDR w.queue * 64 + 16 * w.body 2 2) 16
     let c := getBits (fieldAt e 4 2) 0 12
     let ps := writePackets w.tenant c (fieldAt e 8 8 + w.body 16 8) (some s.fab.nextMsg) (s.readBytes (w.body 8 8) n)
     s.fabReady = true ∧ w.body 0 1 = 1 ∧ 0 < n ∧ n ≤ 16777216 ∧ w.body 8 8 % 64 = 0 ∧ w.body 2 2 < s.get Q_GROUP.MEMBERS w.queue →
     (s.badAccess (s.classOf w) (commAccess w)).isNone = true ∧ s.readsPoison (commAccess w) = false →
     (s.circAt c).valid = true ∧ (s.circAt c).inbound = false ∧ (s.circAt c).tenant = w.tenant →
     Does (.put w) s [.csr, .out, .intc, .fab] (fun t =>
       (t.fabTx (s.ownFlow (fieldAt e 0 3) 3)).pkts = (s.fabTx (s.ownFlow (fieldAt e 0 3) 3)).pkts ++ ps ∧
       t.fab.msgs = s.fab.msgs ++ [⟨s.fab.nextMsg, w, ceilDiv n 4096⟩] ∧ t.fab.nextMsg = s.fab.nextMsg + 1 ∧
           ps.length = ceilDiv n 4096)) ∧
  (∀ (s : State) (w : Work),
     let n := w.body 4 4
     let k := s.get Q_GROUP.MEMBERS w.queue
     let e : Nat → Bytes := fun i => s.readBytes (s.get Q_GROUP.ADDR w.queue * 64 + 16 * i) 16
     let c : Nat → Nat := fun i => getBits (fieldAt (e i) 4 2) 0 12
     let ps : Nat → List FabPkt := fun i =>
       writePackets w.tenant (c i) (fieldAt (e i) 8 8 + w.body 16 8) (some s.fab.nextMsg) (s.readBytes (w.body 8 8) n)
     s.fabReady = true ∧ w.body 0 1 = 2 ∧ 0 < n ∧ n ≤ 16777216 ∧ w.body 8 8 % 64 = 0 ∧ 0 < k →
     (s.badAccess (s.classOf w) (commAccess w)).isNone = true ∧ s.readsPoison (commAccess w) = false →
     (∀ i < k, (s.circAt (c i)).valid = true ∧ (s.circAt (c i)).inbound = false ∧ (s.circAt (c i)).tenant = w.tenant) →
     Does (.putAll w) s [.csr, .out, .intc, .fab] (fun t =>
       (∀ i < k, ∀ p ∈ ps i, p ∈ (t.fabTx (s.ownFlow (fieldAt (e i) 0 3) 3)).pkts) ∧
       t.fab.msgs = s.fab.msgs ++ [⟨s.fab.nextMsg, w, k * ceilDiv n 4096⟩] ∧ t.fab.nextMsg = s.fab.nextMsg + 1)) ∧
  (∀ (s : State) (w : Work) (all : Bool),
     s.fabReady = false →
     Does (if all then .putAll w else .put w) s [.csr, .hostq] (fun t =>
       Ended t w 0x0624 true false ∧ t.get HOSTQ_ERR_LOG.REASON = 0x0624)) ∧
  (∀ (s : State) (w : Work),
     s.fabReady = true ∧ (w.body 4 4 = 0 ∨ s.get Q_GROUP.MEMBERS w.queue ≤ w.body 2 2) →
     Does (.put w) s [.csr, .hostq] (fun t =>
       Ended t w 0x020A true false ∧ t.get HOSTQ_ERR_LOG.REASON = 0x020A))

/-- On a port the eligible tenant of least tag is served: its control shard if it has one, or else the next shard of its
eligible queue of least tag. The shard leaves its line queue for the tenant's open yarn with the fewest bytes, the port's
virtual time takes the tenant's tag, and the shard's length divided by the weight is added to the tags and taken from the tokens
of the tenant, and of the queue unless the shard is control. At a refill every enabled shaper gains its rate up to its burst,
and no other shaper changes. -/
def Obligations.LineScheduling : Prop :=
  (∀ (s : State) (p : Fin 16) (n y : Nat) (x : LineShard),
     s.on SCHED_STATUS.READY = true ∧ p.val ∉ s.sched.portOut ∧ p.val < s.line.length →
     leastBy (s.tenantTag p) ((s.portTenants p).filter (s.tenantEligible p)) = some n ∧ s.yarnFor p n = some y →
     s.controlShard p n = some x →
     Does (.schedServe p) s [.csr, .out, .intc, .sched, .line] (fun t =>
       t.get PORT_VT.VT p = s.tenantTag p n % 2 ^ 64 ∧ t.sched.shards = s.sched.shards.erase x ∧
       (t.port p).txBuf y = (s.port p).txBuf y ++ [⟨x.bytes, false⟩] ∧
       t.tenantTag p n = (s.tenantTag p n + x.bytes.length * 2 ^ 16 / max 1 (s.get TENANT_CFG.WEIGHT n)) % 2 ^ 64 ∧
       t.get TENANT_BURST.TOKENS n = ofSigned 32 (toSigned 32 (s.get TENANT_BURST.TOKENS n) - x.bytes.length) ∧
       t.sched.tagQueue = s.sched.tagQueue ∧ t.sched.vtTenant = s.sched.vtTenant)) ∧
  (∀ (s : State) (p : Fin 16) (n y q : Nat) (x : LineShard),
     s.on SCHED_STATUS.READY = true ∧ p.val ∉ s.sched.portOut ∧ p.val < s.line.length →
     leastBy (s.tenantTag p) ((s.portTenants p).filter (s.tenantEligible p)) = some n ∧ s.yarnFor p n = some y →
     (s.controlShard p n).isNone = true ∧ leastBy (s.queueTag p) (s.eligibleQueues p n) = some q →
     s.queueShard p q = some x ∧ s.inLineRange q = true →
     Does (.schedServe p) s [.csr, .out, .intc, .sched, .line] (fun t =>
       t.get PORT_VT.VT p = s.tenantTag p n % 2 ^ 64 ∧ t.sched.shards = s.sched.shards.erase x ∧
       (t.port p).txBuf y = (s.port p).txBuf y ++ [⟨x.bytes, false⟩] ∧
       t.tenantTag p n = (s.tenantTag p n + x.bytes.length * 2 ^ 16 / max 1 (s.get TENANT_CFG.WEIGHT n)) % 2 ^ 64 ∧
       t.get TENANT_BURST.TOKENS n = ofSigned 32 (toSigned 32 (s.get TENANT_BURST.TOKENS n) - x.bytes.length) ∧
       t.queueTag p q = (s.queueTag p q + x.bytes.length * 2 ^ 16 / max 1 (s.get LQ_CFG.WEIGHT (s.lqIndex q))) % 2 ^ 64 ∧
       t.tenantVt p n = s.queueTag p q ∧
       t.get LQ_BURST.TOKENS (s.lqIndex q) = ofSigned 32 (toSigned 32 (s.get LQ_BURST.TOKENS (s.lqIndex q)) - x.bytes.length))) ∧
  (∀ (s : State),
     Regs.wf s.csr = true →
     Does (.shaperRefill) s [.csr] (fun t =>
       (∀ i < 256, s.on TENANT_CFG.SHAPE_EN i = true → t.get TENANT_BURST.TOKENS i =
         ofSigned 32 (min (toSigned 32 (s.get TENANT_BURST.TOKENS i) + s.get TENANT_CFG.RATE i) (s.get TENANT_BURST.BURST i))) ∧
       (∀ i < 256, s.on TENANT_CFG.SHAPE_EN i = false → t.rdReg TENANT_BURST i = s.rdReg TENANT_BURST i) ∧
       (∀ i < 2064, s.on LQ_CFG.SHAPE_EN i = true → t.get LQ_BURST.TOKENS i =
         ofSigned 32 (min (toSigned 32 (s.get LQ_BURST.TOKENS i) + s.get LQ_CFG.RATE i) (s.get LQ_BURST.BURST i))) ∧
       (∀ i < 2064, s.on LQ_CFG.SHAPE_EN i = false → t.rdReg LQ_BURST i = s.rdReg LQ_BURST i)))

/-- A step descriptor of an enabled job whose body and tenant are right has its effect and completes without error: OPEN of the
next step opens it, or waits while the present step runs; a waiting OPEN runs once the step is closed. MEMBERSHIP before INGEST
ends replaces the members, FROG returns the round to its SCATTER state and counts, ABORT ends the step, RESUME opens the named
step, RESEND asks again for an owed chunk. An OPEN of another step and an ABORT of another step complete with 0x0902, a frog
beyond FROG_MAX with 0x0907, a membership without the own site with 0x0926. -/
def Obligations.StepDescriptors : Prop :=
  (∀ (s : State) (w : Work) (j : Nat),
     let r := s.stepRec j
     let m := r.nextMembers.getD (s.get JOB_CTRL.SITES j)
     (s.stepDescCheck 1 w).toOption = some j ∧ r.mayOpen w.step = true ∧ r.openable = true ∧ r.heldOpens = [] →
     m &&& r.reachable = m →
     Does (.stepOpen w) s [.csr, .mem, .poison, .out, .intc, .myk, .hostq, .xport] (fun t =>
       (t.stepRec j).state = 1 ∧ (t.stepRec j).step = w.step ∧ (t.stepRec j).members = m ∧ (t.stepRec j).lastOpened = w.step ∧
       (t.stepRec j).frog = 0 ∧ t.get JOB_STATUS.STATE j = 1 ∧ Ended t w 0 false false)) ∧
  (∀ (s : State) (w : Work) (j : Nat),
     let r := s.stepRec j
     (s.stepDescCheck 1 w).toOption = some j ∧ r.mayOpen w.step = true ∧ (r.openable = false ∨ r.heldOpens ≠ []) →
     Does (.stepOpen w) s [.xport] (fun t =>
       t.stepRec j = { r with heldOpens := r.heldOpens ++ [w] } ∧ t.hostq.finished = s.hostq.finished)) ∧
  (∀ (s : State) (w : Work) (j : Nat),
     (s.stepDescCheck 1 w).toOption = some j ∧ (s.stepRec j).mayOpen w.step = false →
     Does (.stepOpen w) s [.csr, .out, .hostq] (fun t =>
       Ended t w 0x0902 true false ∧ Sent s t (.report 0x0902) ∧ t.xport = s.xport)) ∧
  (∀ (s : State) (j : Fin 128) (w : Work) (ws : List Work),
     let r := s.stepRec j
     let m := r.nextMembers.getD (s.get JOB_CTRL.SITES j)
     r.heldOpens = w :: ws ∧ r.openable = true ∧ r.mayOpen w.step = true ∧ m &&& r.reachable = m →
     Does (.stepOpenRelease j) s [.csr, .mem, .poison, .out, .intc, .myk, .hostq, .xport] (fun t =>
       (t.stepRec j).state = 1 ∧ (t.stepRec j).step = w.step ∧ (t.stepRec j).heldOpens = ws ∧ Ended t w 0 false false)) ∧
  (∀ (s : State) (w : Work) (j : Nat),
     let r := s.stepRec j
     let m := w.body 4 2
     (s.stepDescCheck 2 w).toOption = some j ∧ m.testBit s.localSite = true ∧ m &&& s.get JOB_CTRL.SITES j = m ∧ w.step = r.step →
     r.state = 1 ∨ r.state = 2 →
     Does (.stepMembership w) s [.csr, .mem, .poison, .out, .freeCtr, .intc, .myk, .hostq, .xport, .fab, .grp] (fun t =>
       (t.stepRec j).members = m ∧ (t.stepRec j).state = r.state ∧ (t.stepRec j).step = r.step ∧ Ended t w 0 false false ∧
       (t.stepRec j).partitioned = (if m = s.get JOB_CTRL.SITES j then r.partitioned else true))) ∧
  (∀ (s : State) (w : Work) (j : Nat),
     (s.stepDescCheck 2 w).toOption = some j ∧ (w.body 4 2).testBit s.localSite = false →
     Does (.stepMembership w) s [.csr, .out, .hostq] (fun t =>
       Ended t w 0x0926 true false ∧ t.xport = s.xport)) ∧
  (∀ (s : State) (w : Work) (j : Nat),
     let r := s.stepRec j
     (s.stepDescCheck 3 w).toOption = some j ∧ w.step = r.step ∧ r.frog < r.par JOB_PARAM0.FROG_MAX →
     (w.body 1 1 = 0 ∧ 3 ≤ r.state ∧ r.state ≤ 7) ∨ (w.body 1 1 = 1 ∧ (r.state = 6 ∨ r.state = 7)) →
     Does (.stepFrog w) s [.csr, .mem, .poison, .out, .freeCtr, .intc, .myk, .hostq, .stch, .xport, .fab, .grp] (fun t =>
       (t.stepRec j).state = (if w.body 1 1 = 0 then 3 else 6) ∧ (t.stepRec j).frog = r.frog + 1 ∧ (t.stepRec j).frogActive = true ∧
       (t.stepRec j).step = r.step ∧ (t.stepRec j).members = r.members ∧ Ended t w 0 false false)) ∧
  (∀ (s : State) (w : Work) (j : Nat),
     let r := s.stepRec j
     (s.stepDescCheck 3 w).toOption = some j ∧ w.step = r.step ∧ r.par JOB_PARAM0.FROG_MAX ≤ r.frog ∧ w.body 1 1 = 0 ∧
         3 ≤ r.state ∧ r.state ≤ 7 →
     Does (.stepFrog w) s [.csr, .out, .hostq] (fun t =>
       Ended t w 0x0907 true false ∧ t.xport = s.xport)) ∧
  (∀ (s : State) (w : Work) (j : Nat),
     (s.stepDescCheck 4 w).toOption = some j ∧ w.step = (s.stepRec j).step →
     Does (.stepAbort w) s [.csr, .mem, .poison, .out, .freeCtr, .intc, .myk, .hostq, .xport, .fab, .grp] (fun t =>
       (t.stepRec j).state = 0x12 ∧ (t.stepRec j).step = (s.stepRec j).step ∧ t.get JOB_STATUS.STATE j = 0x12 ∧
           Ended t w 0 false false)) ∧
  (∀ (s : State) (w : Work) (j : Nat),
     (s.stepDescCheck 4 w).toOption = some j ∧ w.step ≠ (s.stepRec j).step →
     Does (.stepAbort w) s [.csr, .out, .hostq] (fun t =>
       Ended t w 0x0902 true false ∧ t.xport = s.xport)) ∧
  (∀ (s : State) (w : Work) (j : Nat),
     let r := s.stepRec j
     let m := r.nextMembers.getD (s.get JOB_CTRL.SITES j)
     (s.stepDescCheck 5 w).toOption = some j ∧ r.state = 0x12 ∧ w.step ≠ 0 ∧ m &&& r.reachable = m →
     Does (.stepResume w) s [.csr, .mem, .poison, .out, .intc, .myk, .hostq, .xport] (fun t =>
       (t.stepRec j).state = 1 ∧ (t.stepRec j).step = w.step ∧ (t.stepRec j).stale = List.replicate 16 0 ∧
           (t.stepRec j).rejoinDue = 0 ∧
       Ended t w 0 false false)) ∧
  (∀ (s : State) (w : Work) (j : Nat) (o : OwedChunk),
     let r := s.stepRec j
     (s.stepDescCheck 6 w).toOption = some j ∧ w.step = r.step ∧ 3 ≤ r.state ∧ r.state ≤ 7 →
     s.xport.owed.find? (fun o => o.entry == j && o.site == w.body 2 1 && o.step == r.step && o.chunk == w.body 8 4 && o.failed) =
         some o →
     Does (.stepResend w) s [.csr, .mem, .poison, .out, .hostq, .xport] (fun t =>
       t.xport.owed = s.xport.owed.map (fun x => if x = o then { o with failed := false } else x) ∧ Ended t w 0 false false ∧
       (t.flow j (w.body 2 1)).ctrlNext = ((s.flow j (w.body 2 1)).ctrlNext + 1) % 2 ^ 32))

/-- INGEST ends, and each stage that is complete moves the step to the next one: OPEN to INGEST, SCATTER to GATHER once every
owned chunk is reduced, GATHER onward once every reduced chunk is held, LOCAL_2 to SCATTER_2, UPDATE to RETURN and RETURN to
HOST_WAIT, a reconciliation to CLOSED. The barrier before UPDATE opens only with every clean mark. A stall is recorded with the
sites that owe. A step whose retained chunks are acknowledged closes. -/
def Obligations.StepProgress : Prop :=
  (∀ (s : State) (j : Fin 128),
     (s.stepRec j).state = 2 →
     Does (.ingestEnd j) s [.csr, .mem, .poison, .out, .intc, .myk, .xport] (fun t =>
       (t.stepRec j).state = 3 ∧ (t.stepRec j).step = (s.stepRec j).step ∧ t.get JOB_STATUS.STATE j = 3 ∧
           (t.stepRec j).members = (s.stepRec j).members)) ∧
  (∀ (s : State) (j : Fin 128) (b : Nat),
     let r := s.stepRec j
     (r.state, b) ∈ [(1, 2), (5, 6), (8, 9), (9, 0x0A), (0x11, 0x0B)] ∨ (r.state = 3 ∧ s.scatterDone r 0 = true ∧ b = 4) ∨
       (r.state = 6 ∧ s.scatterDone r 1 = true ∧ b = 7) ∨ (r.state = 4 ∧ gatherDone r 0 = true ∧ r.par JOB_PARAM0.RANK ≠ 0 ∧
         b = 5) ∨
       (r.state = 4 ∧ gatherDone r 0 = true ∧ r.par JOB_PARAM0.RANK = 0 ∧ r.unclean = [] ∧ b = 8) ∨
       (r.state = 7 ∧ gatherDone r 1 = true ∧ r.unclean = [] ∧ b = 8) →
     Does (.stageComplete j) s [.csr, .mem, .poison, .out, .intc, .myk, .xport] (fun t =>
       (t.stepRec j).state = b ∧ (t.stepRec j).step = r.step ∧ t.get JOB_STATUS.STATE j = b ∧ (t.stepRec j).members = r.members)) ∧
  (∀ (s : State) (j : Fin 128),
     let r := s.stepRec j
     (r.state = 4 ∧ gatherDone r 0 = true ∧ r.par JOB_PARAM0.RANK = 0) ∨ (r.state = 7 ∧ gatherDone r 1 = true) →
     r.unclean ≠ [] →
     Does (.stageComplete j) s [.csr, .mem, .poison, .out, .intc, .myk, .xport] (fun t =>
       (t.stepRec j).state = r.state ∧ (t.stepRec j).cleanWait = true)) ∧
  (∀ (s : State) (j : Fin 128),
     let r := s.stepRec j
     (r.state = 3 ∧ s.scatterDone r 0 = false) ∨ (r.state = 4 ∧ gatherDone r 0 = false) ∨ r.state = 0 ∨ r.state = 0x10 →
     Does (.stageComplete j) s [] (fun t =>
       t = s)) ∧
  (∀ (s : State) (j : Fin 128),
     let r := s.stepRec j
     r.stalled = false ∧ r.state ∈ [3, 4, 6, 7] →
     Does (.stepStalled j) s [.csr, .mem, .poison, .out, .intc, .myk, .xport] (fun t =>
       (t.stepRec j).stalled = true ∧ (t.stepRec j).stalledSites = s.owing j r ∧ (t.stepRec j).state = r.state ∧
           (t.stepRec j).reason = 0x0903 ∧
       Sent s t (.report 0x0903) ∧ t.get JOB_STATUS.REASON j = 0x0903)) ∧
  (∀ (s : State) (j : Fin 128),
     let r := s.stepRec j
     r.cleanWait = true →
     Does (.cleanWaitExpiry j) s [.csr, .mem, .poison, .out, .intc, .myk, .xport] (fun t =>
       (t.stepRec j).stalled = true ∧ (t.stepRec j).stalledSites = s.owing j r ∧ (t.stepRec j).reason = 0x0903 ∧
           Sent s t (.report 0x0903))) ∧
  (∀ (s : State) (j : Fin 128),
     let r := s.stepRec j
     r.state = 0x0A ∧ s.xport.retained.any (fun x => x.entry == j.val && x.step == r.step && !x.acked && r.reachable.testBit
         x.peer) = false →
     r.rejoinDue = 0 →
     Does (.stepClose j) s [.csr, .mem, .poison, .out, .intc, .myk, .xport, .fab, .grp] (fun t =>
       (t.stepRec j).state = 0x0B ∧ (t.stepRec j).step = r.step ∧ t.get JOB_STATUS.STATE j = 0x0B ∧
           (t.stepRec j).frogActive = false ∧
       t.xport.retained = s.xport.retained.filter (fun x => !(x.entry == j.val && x.step == r.step && (x.acked ||
           r.reachable.testBit x.peer))) ∧
       (r.partitioned = false → (t.stepRec j).lastCommon = r.step)))

/-- A site not heard of within the detection time becomes unreachable for the job; a step before UPDATE that loses a member
below its quorum or under policy HOLD is held. A site heard steadily becomes reachable again for every job that names it, and
rejoins later where the job was partitioned. A REJOIN message is recorded; once every due site has sent one the policy applies:
ROLLBACK waits for a checkpoint, MERGE reconciles, HOLD goes on. A fetched step is CLOSED. -/
def Obligations.PartitionAndRejoin : Prop :=
  (∀ (s : State) (j : Fin 128) (site : Fin 16),
     let r := s.stepRec j
     s.on JOB_CTRL.ENABLE j = true ∧ r.reachable.testBit site = true ∧ site.val ≠ s.localSite →
     s.xport.contact.any (fun c => c.1 == site.val && decide (s.mono < c.2 + 1000000 * r.par JOB_PARAM1.PART_DETECT_MS)) = false →
     Does (.partitionDetect j site) s [.csr, .mem, .poison, .out, .intc, .myk, .stch, .xport] (fun t =>
       (t.stepRec j).reachable = setBit r.reachable site false ∧ t.on XPORT_INT_STATUS.REACH = true)) ∧
  (∀ (s : State) (j : Fin 128) (site : Fin 16),
     let r := s.stepRec j
     s.on JOB_CTRL.ENABLE j = true ∧ r.reachable.testBit site = true ∧ site.val ≠ s.localSite →
     s.xport.contact.any (fun c => c.1 == site.val && decide (s.mono < c.2 + 1000000 * r.par JOB_PARAM1.PART_DETECT_MS)) = false →
     r.members.testBit site = true ∧ 1 ≤ r.state ∧ r.state ≤ 7 ∧ r.policy = 1 →
     Does (.partitionDetect j site) s [.csr, .mem, .poison, .out, .intc, .myk, .xport] (fun t =>
       (t.stepRec j).state = 0x10 ∧ (t.stepRec j).heldFrom = r.state ∧ (t.stepRec j).partitioned = true ∧
           (t.stepRec j).reason = 0x0904 ∧
       (t.stepRec j).reachable = setBit r.reachable site false ∧ Sent s t (.report 0x0904))) ∧
  (∀ (s : State) (site : Fin 16),
     Does (.rejoinStableExpiry site) s [.csr, .mem, .poison, .out, .intc, .myk, .xport] (fun t =>
       (∀ j < 128, s.on JOB_CTRL.ENABLE j = true ∧ (s.get JOB_CTRL.SITES j).testBit site = true ∧ site.val ≠ s.localSite ∧
         (s.stepRec j).reachable.testBit site = false → (t.stepRec j).reachable = setBit (s.stepRec j).reachable site true ∧
         (t.stepRec j).rejoinDue = setBit (s.stepRec j).rejoinDue site (s.stepRec j).partitioned ∧
           (t.stepRec j).state = (s.stepRec j).state) ∧
       (∀ j < 128, s.on JOB_CTRL.ENABLE j = false ∨ (s.stepRec j).reachable.testBit site = true → t.stepRec j = s.stepRec j))) ∧
  (∀ (s : State) (j : Fin 128) (site : Fin 16) (c : CtrlIn),
     let b := c.body
     let x : RejoinMsg := ⟨site, fieldAt b 0 4, fieldAt b 4 4, fieldAt b 8 1, fieldAt b 9 1 == 1, fieldAt b 10 2,
         (slice b 12 16).map (·.toNat)⟩
     let r : StepRec := { s.stepRec j with rejoins := (s.stepRec j).rejoins.filter (fun x => x.site ≠ site.val) ++ [x] }
     (s.takeMail j site 9).map (·.1) = some c ∧ r.rejoinDue = 0 →
     Does (.rejoinReceived j site) s [.xport] (fun t =>
       t.stepRec j = r ∧ t.xport.inbox = s.xport.inbox.erase c)) ∧
  (∀ (s : State) (j : Fin 128) (site : Fin 16) (c : CtrlIn),
     let b := c.body
     let x : RejoinMsg := ⟨site, fieldAt b 0 4, fieldAt b 4 4, fieldAt b 8 1, fieldAt b 9 1 == 1, fieldAt b 10 2,
         (slice b 12 16).map (·.toNat)⟩
     let r : StepRec := { s.stepRec j with rejoins := (s.stepRec j).rejoins.filter (fun x => x.site ≠ site.val) ++ [x] }
     (s.takeMail j site 9).map (·.1) = some c ∧ r.rejoinDue = 1 <<< site.val ∧ r.state = 0x0B →
     Does (.rejoinReceived j site) s [.csr, .mem, .poison, .out, .intc, .myk, .xport] (fun t =>
       (t.stepRec j).state = (if r.rejoinPolicy = 2 then 0x12 else if r.rejoinPolicy = 0 then 0x11 else 0x0B) ∧
       (t.stepRec j).rejoinDue = 0 ∧ (t.stepRec j).rejoins = [] ∧
       (r.rejoinPolicy = 1 → (t.stepRec j).partitioned = false ∧ (t.stepRec j).stepped = false))) ∧
  (∀ (s : State) (j : Fin 128),
     (s.stepRec j).state = 0x13 →
     Does (.resyncFetchEnd j) s [.csr, .mem, .poison, .out, .intc, .myk, .xport] (fun t =>
       (t.stepRec j).state = 0x0B ∧ (t.stepRec j).fresh = true ∧ t.get JOB_STATUS.STATE j = 0x0B ∧
           (t.stepRec j).step = (s.stepRec j).step))

/-- Where its checks pass, nothing it reads is poisoned and no check finds a fault, each element that PROJECT, PROJECT_T and
BACKPROJECT write is the dot product of a row and a column of their operands, rounded to the output format; an EF_IN sum and an
EF_OUT residual are rounded to BF16 element by element; GENERATE writes the signs of the generator; ORTHO writes its factor's
product. The descriptor completes without error. -/
def Obligations.BedProducts : Prop :=
  (∀ (s : State) (w : Work),
     let m := bRows w
     let n := bCols w
     let r := bRank w
     let fi := fmtBytes (bFmtIn w)
     let fo := fmtBytes (bFmtOut w)
     let a : Nat → List Lns := fun i => (List.range n).map (fun k =>
       (toOperand (bFmtIn w) (bOpnd w) (bOpBias w) (s.readLe (bAddr w 0 + (i * n + k) * fi) fi)).1)
     let b : Nat → List Lns := fun j => (List.range n).map (fun k =>
       (toOperand (bFmtIn w) (bOpnd w) (if bOpnd w = 5 then bBiasB w else 0) (s.readLe (bAddr w 1 + (k * r + j) * fi) fi)).1)
     s.bedCheck 1 w = none ∧ s.bed.substReq = none ∧ s.readsPoison (bedAccess w) = false ∧ s.hostLost = false →
     w.field 16 8 = 0 ∧ bFlag w 0 = false ∧ bFlag w 3 = false ∧ bAddr w 2 ≠ 0 →
     Does (.project w []) s [.csr, .mem, .poison, .out, .intc, .hostq, .bed] (fun t =>
       (∀ i < m, ∀ j < r, t.readLe (bAddr w 2 + (i * r + j) * fo) fo =
         (encodeNum (bFmtOut w) (bMode w) (bBiasA w) (s.bedRandom w (i * r + j)) (bedDot (bSteps w) (bDotBias w) (a i) (b j))).code
           % 2 ^ (8 * fo)) ∧
       OtherBytes (bAddr w 2) (m * r * fo) s t ∧ Ended t w 0 false false ∧
       t.get BED_MAC_COUNT.MACS = (s.get BED_MAC_COUNT.MACS + m * n * r) % 2 ^ BED_MAC_COUNT.MACS.w)) ∧
  (∀ (s : State) (w : Work),
     let n := bRows w * bCols w
     s.bedCheck 1 w = none ∧ s.bed.substReq = none ∧ s.readsPoison (bedAccess w) = false ∧ s.hostLost = false →
     w.field 16 8 = 0 ∧ bFlag w 0 = true ∧ bAddr w 2 = 0 →
     Does (.project w []) s [.csr, .mem, .poison, .out, .intc, .hostq, .bed] (fun t =>
       (∀ i < n, t.readLe (bAddr w 3 + i * 2) 2 = (encodeNum 1 (bMode w) 0 (s.bedRandom w i)
         ((decodeFloat 1 (s.readLe (bAddr w 0 + i * 2) 2)).1.add (decodeFloat 1 (s.readLe (bAddr w 3 + i * 2) 2)).1)).code % 2 ^
           16) ∧
       OtherBytes (bAddr w 3) (n * 2) s t ∧ Ended t w 0 false false)) ∧
  (∀ (s : State) (w : Work),
     let m := bRows w
     let n := bCols w
     let r := bRank w
     let fi := fmtBytes (bFmtIn w)
     let fo := fmtBytes (bFmtOut w)
     let a : Nat → List Lns := fun i => (List.range m).map (fun k =>
       (toOperand (bFmtIn w) (bOpnd w) (bOpBias w) (s.readLe (bAddr w 0 + (k * n + i) * fi) fi)).1)
     let b : Nat → List Lns := fun j => (List.range m).map (fun k =>
       (toOperand (bFmtIn w) (bOpnd w) (if bOpnd w = 5 then bBiasB w else 0) (s.readLe (bAddr w 1 + (k * r + j) * fi) fi)).1)
     s.bedCheck 2 w = none ∧ s.bed.substReq = none ∧ s.readsPoison (bedAccess w) = false ∧ s.hostLost = false →
     w.field 16 8 = 0 ∧ bAddr w 2 ≠ 0 →
     Does (.projectT w []) s [.csr, .mem, .poison, .out, .intc, .hostq, .bed] (fun t =>
       (∀ i < n, ∀ j < r, t.readLe (bAddr w 2 + (i * r + j) * fo) fo =
         (encodeNum (bFmtOut w) (bMode w) (bBiasA w) (s.bedRandom w (i * r + j)) (bedDot (bSteps w) (bDotBias w) (a i) (b j))).code
           % 2 ^ (8 * fo)) ∧
       OtherBytes (bAddr w 2) (n * r * fo) s t ∧ Ended t w 0 false false)) ∧
  (∀ (s : State) (w : Work),
     let m := bRows w
     let n := bCols w
     let r := bRank w
     let fi := fmtBytes (bFmtIn w)
     let fo := fmtBytes (bFmtOut w)
     let a : Nat → List Lns := fun i => (List.range r).map (fun k =>
       (toOperand (bFmtIn w) (bOpnd w) (bOpBias w) (s.readLe (bAddr w 0 + (i * r + k) * fi) fi)).1)
     let b : Nat → List Lns := fun j => (List.range r).map (fun k =>
       (toOperand (bFmtIn w) (bOpnd w) (if bOpnd w = 5 then bBiasB w else 0) (s.readLe (bAddr w 1 + (j * r + k) * fi) fi)).1)
     let d : Nat → Nat → Machine.Num := fun i j => bedDot (bSteps w) (bDotBias w) (a i) (b j)
     s.bedCheck 3 w = none ∧ s.bed.substReq = none ∧ s.readsPoison (bedAccess w) = false ∧ s.hostLost = false ∧ w.field 16 8 = 0 →
     (bFlag w 1 = false ∧ bFlag w 2 = true ∧ bAddr w 2 ≠ 0) ∨ (bFlag w 1 = true ∧ bFlag w 2 = false) →
     Does (.backproject w []) s [.csr, .mem, .poison, .out, .intc, .hostq, .bed] (fun t =>
       (bFlag w 2 = true → ∀ i < m, ∀ j < n, t.readLe (bAddr w 2 + (i * n + j) * fo) fo =
         (encodeNum (bFmtOut w) (bMode w) (bBiasA w) (s.bedRandom w (i * n + j)) (d i j)).code % 2 ^ (8 * fo)) ∧
       (bFlag w 1 = true → ∀ i < m, ∀ j < n, t.readLe (bAddr w 4 + (i * n + j) * 2) 2 = (encodeNum 1 (bMode w) 0 (s.bedRandom w (i
           * n + j))
         ((decodeFloat 1 (s.readLe (bAddr w 3 + (i * n + j) * 2) 2)).1.add (d i j).neg)).code % 2 ^ 16) ∧
       SameOutside ((bedAccess w).filterMap (fun x => if x.1 then some x.2 else none)) s t ∧ Ended t w 0 false false)) ∧
  (∀ (s : State) (w : Work),
     let fo := fmtBytes (bFmtOut w)
     s.bedCheck 9 w = none ∧ s.bed.substReq = none ∧ s.hostLost = false ∧ w.field 16 8 = 0 ∧ bAddr w 2 ≠ 0 →
     Does (.generate w) s [.csr, .mem, .poison, .out, .intc, .hostq, .bed] (fun t =>
       (∀ i < bCols w * bRank w, t.readLe (bAddr w 2 + i * fo) fo = (encodeNum (bFmtOut w) (bMode w) (bBiasA w) (s.bedRandom w i)
         (genSign (s.jobSeed w) w.step (bTensor w) i)).code % 2 ^ (8 * fo)) ∧
       OtherBytes (bAddr w 2) (bCols w * bRank w * fo) s t ∧ Ended t w 0 false false)) ∧
  (∀ (s : State) (w : Work),
     s.bedCheck 4 w = none ∧ s.bed.substReq = none ∧ s.readsPoison (bedAccess w) = false ∧ s.hostLost = false →
     w.field 16 8 = 0 ∧ bAddr w 2 ≠ 0 →
     Does (.ortho w []) s [.csr, .mem, .poison, .out, .intc, .hostq, .bed] (fun t =>
       t.readBytes (bAddr w 2) (bRows w * bRank w * fmtBytes (bFmtOut w)) = (s.orthoRun w).main.bytes ∧
       OtherBytes (bAddr w 2) (bRows w * bRank w * fmtBytes (bFmtOut w)) s t ∧
       (∃ f ∈ t.hostq.finished, f.work = w ∧ f.res.error = false ∧ f.res.engine = (s.orthoRun w).engine)))

/-- Where their checks pass and nothing they read is poisoned, MOMENTUM and NESTEROV write for each element the new velocity and
the new parameter in FP32; RESIDUAL writes the difference of each element and its stored delta rounded to BF16; SCALE writes
each scaled element. The descriptor completes without error and no other byte of memory changes. -/
def Obligations.SelvedgeResults : Prop :=
  (∀ (s : State) (w : Work) (nesterov : Bool),
     let n := bRows w * bCols w
     let x : Nat → Enc × Enc := fun i => momentumElem nesterov (bParam w 0) (bParam w 1) (decodeNum 0 0 (s.readLe (bAddr w 3 + i *
         4) 4)).1
       (decodeNum 0 0 (s.readLe (bAddr w 4 + i * 4) 4)).1
       (decodeNum (bFmtIn w) (bOpBias w) (s.readLe (bAddr w 0 + i * fmtBytes (bFmtIn w)) (fmtBytes (bFmtIn w)))).1
     s.bedCheck (if nesterov then 6 else 5) w = none ∧ s.bed.substReq = none ∧ s.readsPoison (bedAccess w) = false ∧
         s.hostLost = false →
     w.field 16 8 = 0 ∧ bFlag w 4 = false ∧ bAddr w 2 = 0 →
     bAddr w 3 + n * 4 ≤ bAddr w 4 ∨ bAddr w 4 + n * 4 ≤ bAddr w 3 →
     Does (if nesterov then .nesterov w else .momentum w) s [.csr, .mem, .poison, .out, .intc, .hostq, .bed] (fun t =>
       (∀ i < n, t.readLe (bAddr w 3 + i * 4) 4 = (x i).1.code % 2 ^ 32 ∧ t.readLe (bAddr w 4 + i * 4) 4 = (x i).2.code % 2 ^ 32) ∧
       Ended t w 0 false false ∧ SameOutside [(bAddr w 3, n * 4), (bAddr w 4, n * 4)] s t)) ∧
  (∀ (s : State) (w : Work),
     let n := bRows w * bCols w
     s.bedCheck 8 w = none ∧ s.bed.substReq = none ∧ s.readsPoison (bedAccess w) = false ∧ s.hostLost = false ∧ w.field 16 8 = 0 →
     Does (.residual w) s [.csr, .mem, .poison, .out, .intc, .hostq, .bed] (fun t =>
       (∀ i < n, t.readLe (bAddr w 4 + i * 2) 2 = (encodeNum 1 (bMode w) 0 (s.bedRandom w i) ((decodeFloat 1 (s.readLe (bAddr w 3 +
           i * 2) 2)).1.add
         (decodeNum (bFmtIn w) (bOpBias w) (s.readLe (bAddr w 0 + i * fmtBytes (bFmtIn w)) (fmtBytes (bFmtIn w)))).1.neg)).code % 2
           ^ 16) ∧
       OtherBytes (bAddr w 4) (n * 2) s t ∧ Ended t w 0 false false)) ∧
  (∀ (s : State) (w : Work),
     let n := bRows w * bCols w * fmtBytes (bFmtOut w)
     s.bedCheck 7 w = none ∧ s.bed.substReq = none ∧ s.readsPoison (bedAccess w) = false ∧ s.hostLost = false →
     w.field 16 8 = 0 ∧ bAddr w 2 ≠ 0 →
     Does (.scale w) s [.csr, .mem, .poison, .out, .intc, .hostq, .bed] (fun t =>
       t.readBytes (bAddr w 2) n = (s.scaleRun w).main.bytes ∧ OtherBytes (bAddr w 2) n s t ∧ Ended t w 0 false false))

/-- A refused bed descriptor does no work and completes with its reason. A descriptor that reads poison completes with 0x0B0B
and poisoned output. A column that a check names is replaced by its group's free spare, and the descriptor runs once more where
it has a job, or completes with poisoned output and 0x0B05. A passing swatch completes, or advances the epoch and clears the
suspects; a failing one is logged and handled. Stalls count in units of 1,024 handshakes. -/
def Obligations.BedFaultsAndSwatches : Prop :=
  (∀ (s : State) (w : Work) (r : Nat) (c : Instr) (op : Nat),
     (op, c) ∈ [(1, Instr.project w []), (2, .projectT w []), (3, .backproject w []), (4, .ortho w []), (5, .momentum w), (6,
         .nesterov w),
       (7, .scale w), (8, .residual w), (9, .generate w)] →
     s.bedCheck op w = some r ∧ s.bed.substReq = none ∧ r ≠ 0x0B03 →
     Does (c) s [.csr, .hostq, .bed] (fun t =>
       Ended t w r true false ∧ SameMemory s t ∧ t.poison = s.poison)) ∧
  (∀ (s : State) (w : Work) (c : Instr) (op : Nat),
     (op, c) ∈ [(1, Instr.project w []), (2, .projectT w []), (3, .backproject w []), (4, .ortho w []), (5, .momentum w), (6,
         .nesterov w),
       (7, .scale w), (8, .residual w), (9, .generate w)] →
     s.bedCheck op w = none ∧ s.bed.substReq = none ∧ s.readsPoison (bedAccess w) = true →
     Does (c) s [.csr, .poison, .out, .hostq, .bed] (fun t =>
       Ended t w 0x0B0B true true ∧ SameMemory s t ∧ Sent s t (.report 0x0B0B) ∧
       t.get BED_ERR_COUNT.POISON_IN = satAdd BED_ERR_COUNT.POISON_IN.w (s.get BED_ERR_COUNT.POISON_IN) 1)) ∧
  (∀ (s : State) (w : Work) (c : Instr) (op : Nat),
     (op, c) ∈ [(1, Instr.project w []), (2, .projectT w []), (3, .backproject w []), (4, .ortho w []), (5, .momentum w), (6,
         .nesterov w),
       (7, .scale w), (8, .residual w), (9, .generate w)] →
     s.bedCheck op w = none ∧ s.bed.substReq = none ∧ s.readsPoison (bedAccess w) = false →
     Does (c) s [.csr, .mem, .poison, .out, .intc, .myk, .hostq, .bed] (fun t =>
       SameOutside ((bedAccess w).filterMap (fun x => if x.1 then some x.2 else none)) s t ∧
       (∃ f ∈ t.hostq.finished, f.work = w ∧ f.res.error = false ∧ f.res.poisoned = false ∧ f.res.block = 11))) ∧
  (∀ (s : State) (w : Work) (g : Fin 8) (k : Fin 64) (c : Instr) (op : Nat),
     let fs : List BedFault := [⟨g, .column k⟩]
     (op, c) ∈ [(1, Instr.project w fs), (2, .projectT w fs), (3, .backproject w fs), (4, .ortho w fs)] →
     s.bedCheck op w = none ∧ s.bed.substReq = none ∧ s.readsPoison (bedAccess w) = false ∧ s.groupOn g = true ∧
         s.on BED_CHECK.CHECK_ROW = true →
     s.bedSpareGone g = false →
     Does (c) s [.csr, .mem, .poison, .out, .freeCtr, .intc, .myk, .hostq, .hlth, .bed, .rerun] (fun t =>
       t.on BED_GROUP_MAP.SUBST_VALID g = true ∧ t.get BED_GROUP_MAP.SUBST_COLUMN g = k.val ∧
       t.get BED_ERR_COUNT.MISMATCH = satAdd BED_ERR_COUNT.MISMATCH.w (s.get BED_ERR_COUNT.MISMATCH) 1 ∧
           t.hlth.quarantined = s.hlth.quarantined ++ [(11, g.val)] ∧
       (w.job = 0 → Ended t w 0x0B05 true true ∧ t.rerun = s.rerun) ∧
       (w.job ≠ 0 → t.rerun = s.rerun ++ [w] ∧ t.hostq.finished = s.hostq.finished))) ∧
  (∀ (s : State) (w : Work),
     s.bedCheck 0x0F w = none ∧ s.bed.substReq = none →
     Does (.bedSwatch w ⟨[], false⟩) s [.csr, .hostq, .bed] (fun t =>
       Ended t w 0 false false ∧ SameMemory s t)) ∧
  (∀ (s : State) (w : Work) (g : Fin 8) (k : Fin 64),
     s.bedCheck 0x0F w = none ∧ s.bed.substReq = none ∧ s.groupOn g = true ∧ s.bedSpareGone g = false →
     Does (.bedSwatch w ⟨[(g, some k)], false⟩) s [.csr, .mem, .poison, .out, .freeCtr, .intc, .myk, .hostq, .hlth, .bed, .stch,
         .xport, .fab, .grp] (fun t =>
       Ended t w 0x0B07 true false ∧ t.bed.suspect = [] ∧
       t.get BED_ERR_COUNT.SWATCH_FAIL = satAdd BED_ERR_COUNT.SWATCH_FAIL.w (s.get BED_ERR_COUNT.SWATCH_FAIL) 1)) ∧
  (∀ (s : State),
     s.on BED_STATUS.READY = true →
     Does (.bedInterleavedSwatch ⟨[], false⟩) s [.csr, .bed] (fun t =>
       t.bed.suspect = [] ∧ t.get BED_STATUS.SWATCH_EPOCH = (s.get BED_STATUS.SWATCH_EPOCH + 1) % 2 ^ BED_STATUS.SWATCH_EPOCH.w ∧
       t.bed.nextTile = (s.bed.nextTile + 1) % max 1 (s.get BED_SWATCH.SET_SIZE) ∧ OtherRegs [BED_STATUS.addr 0 0] s t)) ∧
  (∀ (s : State),
     s.on BED_STATUS.READY = true →
     Does (.bedInterleavedSwatch ⟨[], true⟩) s [.csr, .mem, .poison, .out, .freeCtr, .intc, .myk, .hlth, .bed, .stch, .xport, .fab,
         .grp, .line] (fun t =>
       t.on BED_STATUS.SELVEDGE_OK = false ∧ t.bed.suspect = [] ∧ t.on TOP_FAULT.ACTIVE = true ∧
       t.bed.nextTile = (s.bed.nextTile + 1) % max 1 (s.get BED_SWATCH.SET_SIZE))) ∧
  (∀ (s : State) (n : Nat) (feed : Bool),
     let old := if feed then s.bed.feedRem else s.bed.drainRem
     let f := if feed then BED_STALL.FEED_STALL else BED_STALL.DRAIN_STALL
     Does (.bedStallResume feed n) s [.csr, .bed] (fun t =>
       t.get f = satAdd f.w (s.get f) ((old + n) / 1024) ∧ (if feed then t.bed.feedRem else t.bed.drainRem) = (old + n) % 1024 ∧
       OtherRegs [BED_STALL.addr 0 0] s t))

/-- A term that passes its checks and opens its slot forms the weighted element values rounded once to FP32; a later term adds
to the partial sums in the order of arrival, and one of weight zero adds nothing. The last term writes the reduced chunk in the
output format to the slot's address, and the slot waits for its clean mark. A refused term, a poisoned one and a duplicate
complete with their reasons and add nothing; a term that meets a completed slot of another chunk waits, and runs once the slot
is released. -/
def Obligations.StitchAccumulate : Prop :=
  (∀ (s : State) (w : Work) (c : Nat),
     let x : Slot := openSlot w c
     let fi := w.body 2 1 % 16
     let vs := (List.range x.elements).map (fun i => (addTerm (termWeight w) none (decodeNum fi 0 (s.readLe (w.body 16 8 + i *
         fmtBytes fi) (fmtBytes fi))).1).code)
     s.stchCheck w = none ∧ s.stch.slots.any (fun y => y.index == x.index) = false ∧ s.leastCluster = some c ∧ 1 < x.expect →
     s.isPoisoned (w.body 16 8) (x.elements * fmtBytes fi) = false ∧ w.field 16 8 = 0 →
     Does (.accumulate w none) s [.csr, .out, .freeCtr, .intc, .hostq, .stch, .fab, .grp] (fun t =>
       t.stch.slots = s.stch.slots.filter (fun y => y.index ≠ x.index) ++ [{ x with
         terms := [⟨w, w.body 1 1 % 16, getBits (w.body 1 1) 4 2⟩], sums := if (termWeight w).isZero then none else some vs }] ∧
       Ended t w 0 false false ∧ SameMemory s t ∧
       t.get STCH_SLOT_STATUS.OPEN = (t.stch.slots.filter (fun y => !y.done)).length % 2 ^ STCH_SLOT_STATUS.OPEN.w)) ∧
  (∀ (s : State) (w : Work) (x : Slot) (a : List Nat),
     let fi := w.body 2 1 % 16
     let v : Nat → Machine.Num := fun i => (decodeNum fi 0 (s.readLe (w.body 16 8 + i * fmtBytes fi) (fmtBytes fi))).1
     let vs := (List.range x.elements).map (fun i => (addTerm (termWeight w) (some (a.getD i 0)) (v i)).code)
     s.stchCheck w = none ∧ s.stch.slots.find? (fun y => y.index == w.body 6 2 % 2 ^ 14) = some x ∧ x.done = false →
     x.job = w.job ∧ x.step = w.step ∧ x.chunk = w.body 8 4 ∧ x.frog = w.body 5 1 % 8 ∧ x.expect = w.body 4 1 ∧
         x.elements = w.body 12 4 →
     x.fmtOut = w.body 2 1 / 16 ∧ x.terms.any (fun t => t.site == w.body 1 1 % 16 && t.kind == getBits (w.body 1 1) 4 2) = false →
     s.isPoisoned (w.body 16 8) (x.elements * fmtBytes fi) = false ∧ w.field 16 8 = 0 →
     x.sums = some a ∧ a.length = x.elements ∧ x.terms.length + 1 < x.expect →
     Does (.accumulate w none) s [.csr, .out, .freeCtr, .intc, .hostq, .stch, .fab, .grp] (fun t =>
       t.stch.slots = s.stch.slots.filter (fun y => y.index ≠ x.index) ++ [{ x with
         terms := x.terms ++ [⟨w, w.body 1 1 % 16, getBits (w.body 1 1) 4 2⟩],
           sums := if (termWeight w).isZero then some a else some vs }] ∧
       Ended t w 0 false false ∧ SameMemory s t)) ∧
  (∀ (s : State) (w : Work) (x : Slot) (a : List Nat),
     let fi := w.body 2 1 % 16
     let v : Nat → Machine.Num := fun i => (decodeNum fi 0 (s.readLe (w.body 16 8 + i * fmtBytes fi) (fmtBytes fi))).1
     let vs := (List.range x.elements).map (fun i => (addTerm (termWeight w) (some (a.getD i 0)) (v i)).code)
     let y : Slot := { x with done := true, terms := x.terms ++ [⟨w, w.body 1 1 % 16, getBits (w.body 1 1) 4 2⟩], sums := some vs }
     let n := x.elements * fmtBytes x.fmtOut
     s.stchCheck w = none ∧ s.stch.slots.find? (fun y => y.index == w.body 6 2 % 2 ^ 14) = some x ∧ x.done = false →
     x.job = w.job ∧ x.step = w.step ∧ x.chunk = w.body 8 4 ∧ x.frog = w.body 5 1 % 8 ∧ x.expect = w.body 4 1 ∧
         x.elements = w.body 12 4 →
     x.fmtOut = w.body 2 1 / 16 ∧ x.terms.any (fun t => t.site == w.body 1 1 % 16 && t.kind == getBits (w.body 1 1) 4 2) = false →
     s.isPoisoned (w.body 16 8) (x.elements * fmtBytes fi) = false ∧ w.field 16 8 = 0 ∧ (termWeight w).isZero = false →
     x.sums = some a ∧ a.length = x.elements ∧ x.expect ≤ x.terms.length + 1 ∧ x.addrOut + n ≤ hostBase →
     Does (.accumulate w none) s [.csr, .mem, .poison, .out, .freeCtr, .intc, .myk, .hostq, .stch, .xport, .fab, .grp] (fun t =>
       t.stch.slots = s.stch.slots.filter (fun z => z.index ≠ x.index) ++ [y] ∧
       t.readBytes x.addrOut n = OutTensor.bytes ⟨x.fmtOut, 0, s.slotOutput y⟩ ∧ SameOutside [(x.addrOut, n), (hostBase,
           hostBase)] s t ∧
       (∃ f ∈ t.hostq.finished, f.work = w ∧ f.res.error = false ∧ f.res.engine = 1))) ∧
  (∀ (s : State) (w : Work) (r : Nat) (f : Option StchFault),
     s.stchCheck w = some r ∧ r ≠ 0x0C03 →
     Does (.accumulate w f) s [.csr, .hostq] (fun t =>
       Ended t w r true false ∧ t.get STCH_ERR_LOG.REASON = r % 2 ^ 16 ∧
           t.get STCH_ERR_LOG.QUEUE = w.queue % 2 ^ STCH_ERR_LOG.QUEUE.w)) ∧
  (∀ (s : State) (w : Work) (c : Nat),
     let x : Slot := openSlot w c
     s.stchCheck w = none ∧ s.stch.slots.any (fun y => y.index == x.index) = false ∧ s.leastCluster = some c →
     s.isPoisoned (w.body 16 8) (x.elements * fmtBytes (w.body 2 1 % 16)) = true →
     Does (.accumulate w none) s [.csr, .out, .hostq, .stch] (fun t =>
       Ended t w 0x0C0A true true ∧ Sent s t (.report 0x0C0A) ∧
       t.get STCH_ERR_COUNT.POISON_IN = satAdd STCH_ERR_COUNT.POISON_IN.w (s.get STCH_ERR_COUNT.POISON_IN) 1)) ∧
  (∀ (s : State) (w : Work) (x : Slot) (f : Option StchFault),
     s.stchCheck w = none ∧ s.stch.slots.find? (fun y => y.index == w.body 6 2 % 2 ^ 14) = some x ∧ x.done = false →
     x.job = w.job ∧ x.step = w.step ∧ x.chunk = w.body 8 4 ∧ x.frog = w.body 5 1 % 8 ∧ x.expect = w.body 4 1 ∧
         x.elements = w.body 12 4 →
     x.fmtOut = w.body 2 1 / 16 ∧ x.terms.any (fun t => t.site == w.body 1 1 % 16 && t.kind == getBits (w.body 1 1) 4 2) = true ∧
         w.field 16 8 = 0 →
     Does (.accumulate w f) s [.csr, .out, .hostq] (fun t =>
       Ended t w 0x0C05 false false ∧ Sent s t (.report 0x0C05) ∧ t.stch = s.stch)) ∧
  (∀ (s : State) (w : Work) (x : Slot) (f : Option StchFault),
     s.stchCheck w = none ∧ s.stch.slots.find? (fun y => y.index == w.body 6 2 % 2 ^ 14) = some x ∧ x.done = true ∧
         x.chunk ≠ w.body 8 4 →
     Does (.accumulate w f) s [.stch] (fun t =>
       t.stch = { s.stch with waiting := s.stch.waiting ++ [w] })) ∧
  (∀ (s : State) (k : Fin 16384) (w : Work) (c : Nat),
     let x : Slot := openSlot w c
     s.stch.waiting.find? (fun w => w.body 6 2 % 2 ^ 14 == k.val) = some w ∧ s.stch.slots.any (fun y => y.index == k.val) = false →
     s.leastCluster = some c ∧ 1 < x.expect ∧ w.field 16 8 = 0 →
     s.isPoisoned (w.body 16 8) (x.elements * fmtBytes (w.body 2 1 % 16)) = false →
     Does (.stchHeldTermRelease k none) s [.csr, .out, .freeCtr, .intc, .hostq, .stch, .fab, .grp] (fun t =>
       t.stch.waiting = s.stch.waiting.erase w ∧ t.stch.slots.any (fun y => y.index == k.val && y.terms.length == 1 && !y.done) =
           true ∧
       Ended t w 0 false false))

/-- A term whose unit fails its residue check has the cluster quarantined, and a job's descriptor runs once more. A passing
swatch vector advances the epoch and releases the completed slots of its cluster; a failing one quarantines the cluster and
completes with 0x0C07. A POISON descriptor of an enabled job issues a notice with 0x0C10. A notice received with a wrong check
value or a stale frog count is dropped and counted; one for a later step goes to the ring; one for the present step before
UPDATE makes its round a frog. -/
def Obligations.StitchFaultsAndNotices : Prop :=
  (∀ (s : State) (w : Work) (c : Nat) (f : StchFault),
     let x : Slot := openSlot w c
     s.stchCheck w = none ∧ s.stch.slots = [] ∧ s.leastCluster = some c ∧ w.job ≠ 0 →
     s.isPoisoned (w.body 16 8) (x.elements * fmtBytes (w.body 2 1 % 16)) = false →
     Does (.accumulate w (some f)) s [.csr, .mem, .poison, .out, .freeCtr, .intc, .myk, .hostq, .hlth, .stch, .xport, .fab, .grp,
         .rerun] (fun t =>
       t.rerun = s.rerun ++ [w] ∧ t.hostq.finished = s.hostq.finished ∧
       t.hlth.quarantined = s.hlth.quarantined ++ [(12, if s.stchOnSpare c then 48 + c / 16 else c)])) ∧
  (∀ (s : State) (c : Fin 48),
     s.on STCH_STATUS.READY = true ∧ s.stchInService c = true →
     Does (.stchClusterSwatch c none) s [.csr, .mem, .poison, .out, .intc, .myk, .stch, .xport, .fab, .grp] (fun t =>
       t.stch.slots.all (fun x => !(x.cluster == c.val && x.done)) = true ∧
       (s.stch.slots.all (fun x => !(x.cluster == c.val && x.done)) = true → t.stch.slots = s.stch.slots) ∧
       (s.stch.slots.all (fun x => !(x.cluster == c.val && x.done)) = true → t.get STCH_STATUS.SWATCH_EPOCH =
         (s.get STCH_STATUS.SWATCH_EPOCH + 1) % 2 ^ STCH_STATUS.SWATCH_EPOCH.w))) ∧
  (∀ (s : State) (c : Fin 48) (f : StchFault),
     s.on STCH_STATUS.READY = true ∧ s.stchInService c = true →
     Does (.stchClusterSwatch c (some f)) s [.csr, .mem, .poison, .out, .freeCtr, .intc, .myk, .hlth, .stch, .xport, .fab,
         .grp] (fun t =>
       t.hlth.quarantined = s.hlth.quarantined ++ [(12, if s.stchOnSpare c then 48 + c.val / 16 else c.val)] ∧
           Sent s t (.report 0x0C07))) ∧
  (∀ (s : State) (w : Work),
     let c := w.body 6 2 % 64
     s.on STCH_STATUS.READY = true ∧ w.body 0 1 = 0x0F ∧ c < 48 ∧ s.stchInService c = true ∧ w.field 16 8 = 0 →
     Does (.stchSwatch w none) s [.csr, .mem, .poison, .out, .intc, .myk, .hostq, .stch, .xport, .fab, .grp] (fun t =>
       Ended t w 0 false false ∧ t.stch.slots.all (fun x => !(x.cluster == c && x.done)) = true)) ∧
  (∀ (s : State) (w : Work) (f : StchFault),
     let c := w.body 6 2 % 64
     s.on STCH_STATUS.READY = true ∧ w.body 0 1 = 0x0F ∧ c < 48 ∧ s.stchInService c = true →
     Does (.stchSwatch w (some f)) s [.csr, .mem, .poison, .out, .freeCtr, .intc, .myk, .hostq, .hlth, .stch, .xport, .fab,
         .grp] (fun t =>
       Ended t w 0x0C07 true false ∧ t.hlth.quarantined = s.hlth.quarantined ++ [(12, if s.stchOnSpare c then 48 + c / 16 else c)])) ∧
  (∀ (s : State) (w : Work) (j : Nat),
     s.on STCH_STATUS.READY = true ∧ w.body 0 1 = 2 ∧ s.entryOf w.job = some j ∧ w.field 16 8 = 0 →
     Does (.stchPoison w) s [.csr, .mem, .poison, .out, .freeCtr, .intc, .myk, .hostq, .stch, .xport, .fab, .grp] (fun t =>
       Ended t w 0 false false ∧ t.stch.noticeSeq = s.stch.noticeSeq + 1 ∧ Sent s t (.report 0x0C10))) ∧
  (∀ (s : State) (w : Work),
     s.on STCH_STATUS.READY = true ∧ w.body 0 1 = 2 ∧ (s.entryOf w.job).isNone = true →
     Does (.stchPoison w) s [.csr, .hostq] (fun t =>
       Ended t w 0x0C02 true false ∧ t.get STCH_ERR_LOG.REASON = 0x0C02)) ∧
  (∀ (s : State) (j : Fin 128) (site : Fin 16) (c : CtrlIn),
     let b := padTo 64 c.body
     (s.takeMail j site 3).map (·.1) = some c →
     crc32c (b.take 60) ≠ fieldAt b 60 4 ∨ (fieldAt b 8 4 = (s.stepRec j).step ∧ fieldAt b 13 1 % 8 < (s.stepRec j).frog) →
     Does (.poisonReceived j site) s [.csr, .xport] (fun t =>
       t.get STCH_ERR_COUNT.NOTICE_DROP = satAdd STCH_ERR_COUNT.NOTICE_DROP.w (s.get STCH_ERR_COUNT.NOTICE_DROP) 1 ∧
       t.xport = { s.xport with inbox := s.xport.inbox.erase c } ∧ OtherRegs [STCH_ERR_COUNT.addr 0 0] s t)) ∧
  (∀ (s : State) (j : Fin 128) (site : Fin 16) (c : CtrlIn),
     let b := padTo 64 c.body
     (s.takeMail j site 3).map (·.1) = some c ∧ crc32c (b.take 60) = fieldAt b 60 4 ∧ (s.stepRec j).step < fieldAt b 8 4 →
     diff16 (s.get STCH_NOTICE_PTR.WR_PTR) (s.get STCH_NOTICE_PTR.RD_PTR) < 2 ^ s.get STCH_NOTICE_PTR.SIZE_LOG2 →
     Does (.poisonReceived j site) s [.csr, .mem, .poison, .out, .freeCtr, .intc, .myk, .xport, .fab, .grp] (fun t =>
       t.get STCH_NOTICE_PTR.WR_PTR = (s.get STCH_NOTICE_PTR.WR_PTR + 1) % 2 ^ 16 ∧ t.on STCH_INT_STATUS.NOTICE = true ∧
       Sent s t (.report 0x0C11) ∧ t.stepRec j = s.stepRec j ∧ t.xport.inbox = s.xport.inbox.erase c)) ∧
  (∀ (s : State) (j : Fin 128) (site : Fin 16) (c : CtrlIn),
     let b := padTo 64 c.body
     let r := s.stepRec j
     (s.takeMail j site 3).map (·.1) = some c ∧ crc32c (b.take 60) = fieldAt b 60 4 ∧ fieldAt b 8 4 = r.step ∧
         r.frog ≤ fieldAt b 13 1 % 8 →
     1 ≤ r.state ∧ r.state ≤ 7 ∧ r.frog < r.par JOB_PARAM0.FROG_MAX ∧ r.par JOB_PARAM0.FROG_AUTO ≠ 0 ∧ fieldAt b 12 1 % 4 = 0 →
     Does (.poisonReceived j site) s [.csr, .mem, .poison, .out, .freeCtr, .intc, .myk, .stch, .xport, .fab, .grp] (fun t =>
       (t.stepRec j).state = 3 ∧ (t.stepRec j).frog = r.frog + 1 ∧ (t.stepRec j).frogActive = true ∧ (t.stepRec j).reason = 0x0C11))

/-- A packet whose header, payload, destination, source, epoch and opcode pass takes its turn in SEQ order. A WRITE within a
window writes its payload and nothing else; a READ_REQ queues the bytes it names; a READ_RESP fills the space reserved for it; a
MGMT packet joins the management ring; an ACK ends the packets below it and a NACK sends again or ends the packet it names. A
packet that does not pass changes no memory; it is counted with its reason. -/
def Obligations.FabricReceive : Prop :=
  (∀ (s : State) (p : RxPacket) (x : IngestWindow),
     let b := p.bytes
     let k := packetKey b
     s.fabReady = true ∧ p.overrun = false ∧ headerValid b = true ∧ payloadValid b = true ∧ s.localEp k.dst = true →
     (s.endpoint k.src).any (fun e => e.tenant == pktTenant b && e.mask.testBit k.cls) = true ∧
         (getBits (fieldAt b 1 1) 0 2 + 4 - s.get FAB_EPOCH.EPOCH) % 4 ≠ 2 →
     pktOp b = 1 ∧ k.cls ≤ 1 ∧ (fieldAt b 1 1).testBit 7 = true ∧ (fieldAt b 1 1).testBit 6 = false ∧ pktLen b ≠ 8 →
     (s.windowFor true (pktTenant b) (pktRemote b) (pktLen b)).map (·.flags) = some x.flags ∧ x.flags.testBit 3 = false ∧
         s.memCheck 4 true (pktRemote b) (pktLen b) = none ∧ pktRemote b + pktLen b ≤ hostBase →
     Does (.fabWrite p) s [.csr, .mem, .poison, .out, .intc, .pmon, .fab] (fun t =>
       t.readBytes (pktRemote b) (pktLen b) = pktPayload b ∧ OtherBytes (pktRemote b) (pktLen b) s t ∧
       (t.fab.rx.find? (fun y => y.1 == k)).map (·.2) = some ⟨(pktSeq b + 1) % 2 ^ 32, []⟩ ∧
           t.get FAB_LINK_COUNT.PACKETS p.link = (s.get FAB_LINK_COUNT.PACKETS p.link + 1) % 2 ^ FAB_LINK_COUNT.PACKETS.w ∧
       Sent s t (.linkField p.link 1 (vcOf k.cls k.ch + 16 * creditsOf b.length)))) ∧
  (∀ (s : State) (p : RxPacket),
     let b := p.bytes
     let k := packetKey b
     let src := pktPayload b
     s.fabReady = true ∧ p.overrun = false ∧ headerValid b = true ∧ payloadValid b = true ∧ s.localEp k.dst = true →
     (s.endpoint k.src).any (fun e => e.tenant == pktTenant b && e.mask.testBit k.cls) = true ∧
         (getBits (fieldAt b 1 1) 0 2 + 4 - s.get FAB_EPOCH.EPOCH) % 4 ≠ 2 →
     pktOp b = 2 ∧ k.cls ≤ 1 ∧ (fieldAt b 1 1).testBit 7 = true ∧ 1 ≤ fieldAt src 8 4 ∧ fieldAt src 8 4 ≤ 4096 →
     (s.windowFor false (pktTenant b) (pktRemote b) (fieldAt src 8 4)).isSome = true ∧
         s.memCheck 4 false (pktRemote b) (fieldAt src 8 4) = none →
     s.isPoisoned (pktRemote b) (fieldAt src 8 4) = false →
     Does (.fabReadReq p) s [.csr, .out, .intc, .pmon, .fab] (fun t =>
       (t.fabTx ⟨k.dst, k.src, 2, k.ch⟩).pkts.getLast? = some ⟨3, pktTenant b, fieldAt src 0 8,
           s.readBytes (pktRemote b) (fieldAt src 8 4), true, none, none, 0, 0, false, true⟩)) ∧
  (∀ (s : State) (p : RxPacket) (r : Nat × Nat),
     let b := p.bytes
     let k := packetKey b
     s.fabReady = true ∧ p.overrun = false ∧ headerValid b = true ∧ payloadValid b = true ∧ s.localEp k.dst = true →
     (s.endpoint k.src).any (fun e => e.tenant == pktTenant b && e.mask.testBit k.cls) = true ∧
         (getBits (fieldAt b 1 1) 0 2 + 4 - s.get FAB_EPOCH.EPOCH) % 4 ≠ 2 →
     pktOp b = 3 ∧ k.cls = 2 ∧ (fieldAt b 1 1).testBit 7 = true ∧ (fieldAt b 1 1).testBit 6 = false ∧
         pktRemote b + pktLen b ≤ hostBase →
     s.fab.reads.find? (fun r => decide (r.1 ≤ pktRemote b ∧ pktRemote b + pktLen b ≤ r.1 + r.2)) = some r →
     Does (.fabReadResp p) s [.csr, .mem, .poison, .out, .intc, .pmon, .fab] (fun t =>
       t.readBytes (pktRemote b) (pktLen b) = pktPayload b ∧ OtherBytes (pktRemote b) (pktLen b) s t ∧
           t.fab.reads = s.fab.reads.erase r)) ∧
  (∀ (s : State) (p : RxPacket),
     let b := p.bytes
     let k := packetKey b
     s.fabReady = true ∧ p.overrun = false ∧ headerValid b = true ∧ payloadValid b = true ∧ s.localEp k.dst = true →
     (s.endpoint k.src).any (fun e => e.tenant == pktTenant b && e.mask.testBit k.cls) = true ∧
         (getBits (fieldAt b 1 1) 0 2 + 4 - s.get FAB_EPOCH.EPOCH) % 4 ≠ 2 →
     pktOp b = 6 ∧ k.cls = 4 ∧ (fieldAt b 1 1).testBit 7 = true ∧ p.ringFull = false ∧ (eventType (pktPayload b)).isNone = true →
     Does (.fabMgmt p) s [.csr, .out, .intc, .pmon, .fab] (fun t =>
       t.fab.mgmt = s.fab.mgmt ++ [pktPayload b])) ∧
  (∀ (s : State) (p : RxPacket),
     let b := p.bytes
     let k := packetKey b
     let q := pktPayload b
     let f := s.fabTx (replyTarget b (fieldAt q 4 1) (fieldAt q 5 1))
     let below : FabPkt → Bool := fun x => x.sent && decide (0 < (fieldAt q 0 4 + 2 ^ 32 - x.seq) % 2 ^ 32 ∧
         (fieldAt q 0 4 + 2 ^ 32 - x.seq) % 2 ^ 32 < 2 ^ 31)
     s.fabReady = true ∧ p.overrun = false ∧ headerValid b = true ∧ payloadValid b = true ∧ s.localEp k.dst = true →
     (s.endpoint k.src).any (fun e => e.tenant == pktTenant b && e.mask.testBit k.cls) = true ∧
         (getBits (fieldAt b 1 1) 0 2 + 4 - s.get FAB_EPOCH.EPOCH) % 4 ≠ 2 →
     pktOp b = 4 ∧ k.cls = 2 ∧ f.pkts.all (fun x => x.msg.isNone && x.opcode != 6) = true →
     Does (.fabAck p) s [.csr, .out, .intc, .pmon, .fab] (fun t =>
       (t.fabTx (replyTarget b (fieldAt q 4 1) (fieldAt q 5 1))).pkts = f.pkts.filter (fun x => !below x))) ∧
  (∀ (s : State) (p : RxPacket),
     let b := p.bytes
     let k := packetKey b
     let q := pktPayload b
     let f := s.fabTx (replyTarget b (fieldAt q 6 1) k.ch)
     s.fabReady = true ∧ p.overrun = false ∧ headerValid b = true ∧ payloadValid b = true ∧ s.localEp k.dst = true →
     (s.endpoint k.src).any (fun e => e.tenant == pktTenant b && e.mask.testBit k.cls) = true ∧
         (getBits (fieldAt b 1 1) 0 2 + 4 - s.get FAB_EPOCH.EPOCH) % 4 ≠ 2 →
     pktOp b = 5 ∧ k.cls = 2 ∧ (fieldAt q 4 2 = 0x0619 ∨ fieldAt q 4 2 = 0x061A) →
     Does (.fabNack p) s [.csr, .out, .intc, .pmon, .fab] (fun t =>
       (fieldAt q 4 2 = 0x0619 → (t.fabTx (replyTarget b (fieldAt q 6 1) k.ch)).pkts = f.pkts.map (fun x => if x.sent && x.seq ==
           fieldAt q 0 4 then { x with due := true } else x)) ∧
       (fieldAt q 4 2 = 0x061A → (t.fabTx (replyTarget b (fieldAt q 6 1) k.ch)).syncDue = true ∧
           (t.fabTx (replyTarget b (fieldAt q 6 1) k.ch)).pkts.all (fun x => !x.sent || x.due) = true))) ∧
  (∀ (s : State) (p : RxPacket) (m : FabMsg) (x : FabPkt),
     let b := p.bytes
     let k := packetKey b
     let q := pktPayload b
     let f := s.fabTx (replyTarget b (fieldAt q 6 1) k.ch)
     s.fabReady = true ∧ p.overrun = false ∧ headerValid b = true ∧ payloadValid b = true ∧ s.localEp k.dst = true →
     (s.endpoint k.src).any (fun e => e.tenant == pktTenant b && e.mask.testBit k.cls) = true ∧
         (getBits (fieldAt b 1 1) 0 2 + 4 - s.get FAB_EPOCH.EPOCH) % 4 ≠ 2 →
     pktOp b = 5 ∧ k.cls = 2 ∧ fieldAt q 4 2 = 0x0605 ∧ f.pkts.find? (fun x => x.sent && x.seq == fieldAt q 0 4) = some x ∧
         x.msg = some m.id →
     s.fab.msgs.find? (fun y => y.id == m.id) = some m →
     Does (.fabNack p) s [.csr, .out, .intc, .hostq, .pmon, .fab] (fun t =>
       (t.fabTx (replyTarget b (fieldAt q 6 1) k.ch)).pkts = f.pkts.erase x ∧ Ended t m.work 0x0605 true false ∧
           t.fab.msgs = s.fab.msgs.erase m)) ∧
  (∀ (s : State) (p : RxPacket) (c : Instr),
     let b := p.bytes
     let k := packetKey b
     let known := (s.endpoint k.src).any (fun e => e.tenant == pktTenant b && e.mask.testBit k.cls)
     c ∈ [.fabWrite p, .fabReadReq p, .fabReadResp p, .fabAck p, .fabNack p, .fabMgmt p] ∧ s.fabReady = true →
     p.overrun = true ∨ headerValid b = false ∨ payloadValid b = false ∨ s.localEp k.dst = false ∨ known = false →
     Does (c) s [.csr, .mem, .poison, .out, .intc, .myk, .pmon, .fab] (fun t =>
       SameOutside [(hostBase, hostBase)] s t ∧
       (p.overrun = true → Sent s t (.report 0x0617) ∧ t.on FAB_INT_STATUS.CREDIT = true) ∧
       (p.overrun = false ∧ headerValid b = false →
           t.get FAB_DROP_COUNT.HDR = satAdd FAB_DROP_COUNT.HDR.w (s.get FAB_DROP_COUNT.HDR) 1 ∧
           t.get FAB_ERR_LOG.REASON = 0x0601) ∧
       (p.overrun = false ∧ headerValid b = true ∧ payloadValid b = false →
           t.get FAB_DROP_COUNT.PAYLOAD = satAdd FAB_DROP_COUNT.PAYLOAD.w (s.get FAB_DROP_COUNT.PAYLOAD) 1) ∧
       (p.overrun = false ∧ headerValid b = true ∧ payloadValid b = true →
           t.get FAB_ERR_LOG.REASON = (if s.localEp k.dst then 0x0604 else 0x0603)) ∧
       (p.overrun = false ∧ headerValid b = true ∧ payloadValid b = true →
           t.get FAB_DROP_COUNT.REFUSED = satAdd FAB_DROP_COUNT.REFUSED.w (s.get FAB_DROP_COUNT.REFUSED) 1))) ∧
  (∀ (s : State) (p : RxPacket) (c : Instr),
     c ∈ [.fabWrite p, .fabReadReq p, .fabReadResp p, .fabAck p, .fabNack p, .fabMgmt p] ∧ s.fabReady = false →
     Does (c) s [] (fun t =>
       t = s))

/-- A flow whose link is open and whose window has room sends its first waiting packet with its next SEQ and takes the link's
credits; a packet not acknowledged in time is sent again and counted. A flow without a route or link for too long ends its
descriptors with 0x060A. Credits go back to their virtual channel. A drain ends when the old epoch has no packet left, or when
it times out and its packets are sent again under the new epoch. -/
def Obligations.FabricSend : Prop :=
  (∀ (s : State) (f : FabFlow) (p : FabPkt) (l : Nat),
     let k := f.key
     let x := s.fabTx k
     let q := s.packetNow x p
     s.fabReady = true ∧ s.fab.replies = [] ∧ x.pkts.find? (·.due) = some p ∧ q.opcode ≠ 6 ∧ q.epoch = s.get FAB_EPOCH.EPOCH →
     s.linkFor k x.link q = some l ∧ s.linkOpen l k.cls k.ch (packetBytes k q false).length = true ∧
         ({ s with fab := { s.fab with tx := assocPut s.fab.tx k { x with link := some l } } }).windowOk k p = true →
     Does (.fabPacketSend f .none) s [.csr, .out, .intc, .pmon, .fab] (fun t =>
       Sent s t (.packet l (packetBytes k q (x.syncDue && x.pkts.head? == some p))) ∧
           (t.fabTx k).next = (if p.sent then x.next else (x.next + 1) % 2 ^ 32) ∧
       (t.fabTx k).pkts = replaceFirst (· == p) q x.pkts ∧ (t.fabTx k).link = some l ∧
       lookupD t.fab.vcUsed (s.fibre l, vcOf k.cls k.ch) 0 = lookupD s.fab.vcUsed (s.fibre l,
           vcOf k.cls k.ch) 0 + creditsOf (packetBytes k q (x.syncDue && x.pkts.head? == some p)).length)) ∧
  (∀ (s : State) (f : FabFlow) (t0 : Byte) (pay : Bytes),
     s.fabReady = true ∧ s.fab.replies = [] ∧ f.cls.val = 4 ∧ (s.endpoint f.key.dst).isNone = true ∧ (s.fabTx f.key).link = none →
     Does (.fabPacketSend f (.mgmt t0 pay)) s [.fab] (fun t =>
       (t.fabTx f.key).pkts = (s.fabTx f.key).pkts ++ [⟨6, t0.toNat, 0, pay.take 4096, true, none, none, 0, 0, false, true⟩])) ∧
  (∀ (s : State) (f : FabFlow) (seq : BitVec 32) (p : FabPkt) (l : Nat),
     let k := f.key
     let x := s.fabTx k
     let q : FabPkt := s.packetNow x { p with due := true }
     x.pkts = [p] ∧ p.sent = true ∧ p.seq = seq.toNat ∧ q.opcode ≠ 6 ∧ q.epoch = s.get FAB_EPOCH.EPOCH →
     s.linkFor k x.link q = some l ∧ s.linkOpen l k.cls k.ch (packetBytes k q false).length = true →
     Does (.fabRetxTimeout f seq) s [.csr, .out, .intc, .pmon, .fab] (fun t =>
       Sent s t (.packet l (packetBytes k q x.syncDue)) ∧ (t.fabTx k).pkts = [q] ∧ (t.fabTx k).next = x.next ∧
       t.get FAB_RETX_COUNT.RETX = satAdd FAB_RETX_COUNT.RETX.w (s.get FAB_RETX_COUNT.RETX) 1)) ∧
  (∀ (s : State) (f : FabFlow) (p : FabPkt),
     let k := f.key
     let x := s.fabTx k
     s.fab.replies = [] ∧ x.pkts.find? (·.due) = some p ∧ s.linkFor k x.link (s.packetNow x p) = none ∧
         x.pkts.all (fun p => p.msg.isNone) = true →
     Does (.fabNoRouteTimeout f) s [.csr, .out, .intc, .fab] (fun t =>
       (t.fabTx k).pkts = x.pkts.filter (fun y => y.sent || !y.due) ∧ t.out = s.out ++ [.report 0x060A] ∧
           t.on FAB_INT_STATUS.UNREACHABLE = true ∧
       t.get FAB_ERR_LOG.REASON = 0x060A ∧ t.get FAB_ERR_LOG.ENDPOINT = k.dst)) ∧
  (∀ (s : State) (link : Fin 32) (vc : Fin 16) (n : Fin 4096),
     let v := (s.fibre link, vc.val)
     s.fab.replies = [] ∧ vc.val < 10 ∧ 0 < n.val →
     Does (.credit link vc n) s [.fab] (fun t =>
       t.fab = { s.fab with vcUsed := assocPut s.fab.vcUsed v (lookupD s.fab.vcUsed v 0 - n.val) })) ∧
  (∀ (s : State) (link : Fin 32) (vc : Fin 16) (n : Fin 4096),
     10 ≤ vc.val ∨ n.val = 0 →
     Does (.credit link vc n) s [.csr] (fun t =>
       t.get PHO_COUNT.BAD_FIELD = satAdd PHO_COUNT.BAD_FIELD.w (s.get PHO_COUNT.BAD_FIELD) 1 ∧ OtherRegs [PHO_COUNT.addr 0 0] s t)) ∧
  (∀ (s : State),
     s.on FAB_STATUS.DRAINING = true ∧ s.epochOutstanding ((s.get FAB_EPOCH.EPOCH + 3) % 4) = 0 →
     Does (.epochDrainEnd) s [.csr, .out, .intc] (fun t =>
       t.on FAB_STATUS.DRAINING = false ∧ t.on FAB_EPOCH.STANDBY_READY = false ∧ t.get FAB_DRAIN.OUTSTANDING = 0 ∧
           t.on FAB_INT_STATUS.EPOCH_DONE = true)) ∧
  (∀ (s : State),
     let old := (s.get FAB_EPOCH.EPOCH + 3) % 4
     s.on FAB_STATUS.DRAINING = true ∧ s.epochOutstanding old ≠ 0 →
     Does (.epochDrainTimeout) s [.csr, .out, .intc, .fab] (fun t =>
       t.on FAB_STATUS.DRAINING = false ∧ t.epochOutstanding old = 0 ∧ t.out = s.out ++ [.report 0x060E] ∧
           t.on FAB_INT_STATUS.DRAIN_TIMEOUT = true ∧
       (∀ x ∈ t.fab.tx, ∀ p ∈ x.2.pkts, p.sent = true → p.epoch = old → p.due = true)))

/-- A table descriptor that passes its checks writes its entries where the table holds them, and completes. EPT_WRITE places an
endpoint in one of its slots and reserves its window; RT_WRITE writes the standby bank and refuses the active one with 0x060C;
COMMIT marks it ready. CIRCUIT_OPEN sets VALID, reserves bandwidth and waits for a circuit that is still VALID; CIRCUIT_CLOSE
clears VALID and releases the reservations. A descriptor that does not fit is refused with its reason and writes nothing. -/
def Obligations.FabricTables : Prop :=
  (∀ (s : State) (w : Work) (r : Nat) (c : Instr),
     (c, s.fabTableCheck w 1 16 (2 ^ 32)) = (.eptWrite w, some r) ∨ (c, s.fabTableCheck w 2 8 8192) = (.rtWrite w, some r) ∨ (c,
         s.fabTableCheck w 3 16 4096) = (.circuitOpen w, some r) ∨ (c, s.fabTableCheck w 5 32 256) = (.ingestWrite w, some r) ∨ (c,
         s.fabTableCheck w 4 0 4096) = (.circuitClose w, some r) ∧ s.fab.waiting = [] →
     r ≠ 0x0616 →
     Does (c) s [.csr, .out, .hostq] (fun t =>
       Ended t w r true false ∧ t.out = s.out ++ [.report r] ∧ t.get FAB_ERR_LOG.REASON = r)) ∧
  (∀ (s : State) (w : Work) (a : Nat),
     let b := s.readBytes (w.body 16 8) 16
     let e := EptEntry.ofBytes b
     let need := (bitsOf e.mask 5).length * e.window * 1024
     s.fabTableCheck w 1 16 (2 ^ 32) = none ∧ s.readsPoison (fabAccess w 16) = false ∧ w.body 8 4 = 1 ∧
         w.body 16 8 + 16 ≤ hostBase →
     e.valid = true ∧ 8 ≤ e.window ∧ e.window ≤ 65536 ∧ s.reservedBytes (s.classOf w) e.id + need ≤ s.quotaBytes (s.classOf w) →
     s.eptSlot e.id = none ∧ (s.eptSlots e.id).find? (fun a => !(s.eptAt a).valid) = some a →
     Does (.eptWrite w) s [.csr, .mem, .poison, .out, .intc, .hostq, .fab] (fun t =>
       t.readBytes a 16 = b ∧ OtherBytes a 16 s t ∧ Ended t w 0 false false ∧
       t.fab.reserve = s.fab.reserve.filter (fun x => x.1 ≠ e.id) ++ [(e.id, s.classOf w, need)])) ∧
  (∀ (s : State) (w : Work),
     let base := s.get FAB_RT_BASE.ADDR * 64 + 8 * w.body 4 4
     let active := s.get FAB_EPOCH.EPOCH % 2
     s.fabTableCheck w 2 8 8192 = none ∧ s.readsPoison (fabAccess w 8) = false ∧ w.body 16 8 + 8 ≤ hostBase ∧ w.body 8 4 = 1 →
     4096 * (active + 1) ≤ w.body 4 4 ∨ w.body 4 4 + 1 ≤ 4096 * active →
     Does (.rtWrite w) s [.csr, .mem, .poison, .out, .intc, .hostq] (fun t =>
       t.readBytes base 8 = s.readBytes (w.body 16 8) 8 ∧ OtherBytes base 8 s t ∧ Ended t w 0 false false ∧
       t.get FAB_EPOCH.STANDBY_READY = (if (w.body 1 1).testBit 0 then 1 else s.get FAB_EPOCH.STANDBY_READY))) ∧
  (∀ (s : State) (w : Work),
     let active := s.get FAB_EPOCH.EPOCH % 2
     s.fabTableCheck w 2 8 8192 = none ∧ s.readsPoison (fabAccess w 8) = false ∧ w.body 16 8 + 8 * w.body 8 4 ≤ hostBase →
     w.body 4 4 < 4096 * (active + 1) ∧ 4096 * active < w.body 4 4 + w.body 8 4 →
     Does (.rtWrite w) s [.csr, .out, .intc, .hostq] (fun t =>
       Ended t w 0x060C true false ∧ Sent s t (.report 0x060C))) ∧
  (∀ (s : State) (w : Work),
     let b := s.readBytes (w.body 16 8) 16
     let i := w.body 4 4
     let e := CircEntry.ofBytes b
     let c : Circuit := ⟨i, e.bw, e.mask, e.peer⟩
     s.fabTableCheck w 3 16 4096 = none ∧ s.readsPoison (fabAccess w 16) = false ∧ w.body 8 4 = 1 ∧ w.body 16 8 + 16 ≤ hostBase ∧
         s.circuitBusy w = false →
     e.mask ≠ 0 ∧ 1 ≤ e.bw ∧ e.bw ≤ 6400 ∧ (if e.inbound then 64 ≤ e.rxKib ∧ e.rxKib ≤ 1048576 else e.rxKib = 0) →
     (bitsOf e.mask 32).any (fun l => s.overReserved l (s.reservedOn l + c.share)) = false →
     Does (.circuitOpen w) s [.csr, .mem, .poison, .out, .intc, .hostq, .fab] (fun t =>
       t.fab = { s.fab with circuits := s.fab.circuits ++ [c] } ∧ Ended t w 0 false false ∧
       (t.circAt i).valid = true ∧ t.readBytes (s.circAddr i + 4) 12 = b.drop 4 ∧ OtherBytes (s.circAddr i) 16 s t)) ∧
  (∀ (s : State) (w : Work),
     s.fabTableCheck w 3 16 4096 = none ∧ s.circuitBusy w = true →
     Does (.circuitOpen w) s [.fab] (fun t =>
       t.fab = { s.fab with waiting := s.fab.waiting ++ [w] })) ∧
  (∀ (s : State) (w : Work),
     let gone : Circuit → Bool := fun c => decide (w.body 4 4 ≤ c.index ∧ c.index < w.body 4 4 + w.body 8 4)
     s.fabTableCheck w 4 0 4096 = none ∧ s.fab.waiting = [] →
     Does (.circuitClose w) s [.csr, .mem, .poison, .hostq, .fab] (fun t =>
       t.fab = { s.fab with circuits := s.fab.circuits.filter (fun c => !gone c) } ∧ Ended t w 0 false false ∧
       (∀ c ∈ s.fab.circuits, gone c = true → (t.circAt c.index).valid = false) ∧
       SameOutside ((s.fab.circuits.filter gone).map (fun c => (s.circAddr c.index + 3, 1))) s t)) ∧
  (∀ (s : State) (w : Work),
     let a := s.windowAddr (w.body 4 4)
     let b := s.readBytes (w.body 16 8) 32
     let x := IngestWindow.ofBytes b
     s.fabTableCheck w 5 32 256 = none ∧ s.readsPoison (fabAccess w 32) = false ∧ w.body 8 4 = 1 ∧ w.body 16 8 + 32 ≤ hostBase →
     x.flags.testBit 0 = true → x.base % 4096 = 0 ∧ x.len % 4096 = 0 →
     Does (.ingestWrite w) s [.csr, .mem, .poison, .out, .intc, .hostq] (fun t =>
       t.readBytes a 32 = b ∧ OtherBytes a 32 s t ∧ Ended t w 0 false false))

/-- The end of training fixes a link's width, lanes and spares from the wavelengths that both ends hold. A loop update sets the
heaters and, past 8 GHz four times or at its limit, unlocks a ring: its lane moves to the free spare. A ring that locks again is
the spare when its lane runs on the spare. A sensor that reads out of range is left out. A calibration step mirrors a lane onto
the spare, sweeps its wavelength, keeps or discards the result, and gives the lane back. A LANE_MAP places a lane; a field out
of range is discarded and counted. -/
def Obligations.PhotonicsLinks : Prop :=
  (∀ (s : State) (l : Fin 32) (tx rx : BitVec 9),
     let w := min 8 (min (bitsOf tx.toNat 9).length (bitsOf rx.toNat 9).length)
     s.on PHO_STATUS.READY = true ∧ s.pho.stopped.contains l.val = false →
     Does (.linkTrainingEnd l tx rx) s [.csr, .out, .intc, .fab, .pho] (fun t =>
       t.get PHO_LINK.TX_WORKING l = tx.toNat ∧ t.get PHO_LINK.RX_WORKING l = rx.toNat ∧ t.get PHO_LINK.TX_SPARE_LANE l = 15 ∧
           t.get PHO_LINK.RX_SPARE_LANE l = 15 ∧
       t.get FAB_LINK_STATUS.WIDTH l = (if s.get FAB_LINK_CFG.MIN_WIDTH ≤ w ∧ 0 < w ∧
           (s.get FAB_CTRL.LINK_EN).testBit l = true then w else 0) ∧
       t.on FAB_LINK_STATUS.IN_SERVICE l = decide (s.get FAB_LINK_CFG.MIN_WIDTH ≤ w ∧ 0 < w ∧
           (s.get FAB_CTRL.LINK_EN).testBit l = true) ∧
       t.phoDir l 0 = ⟨(bitsOf tx.toNat 9).take w, ((bitsOf tx.toNat 9).drop w).head?, 0, (s.phoDir l 0).next, none⟩ ∧
       t.phoDir l 1 = ⟨(bitsOf rx.toNat 9).take w, ((bitsOf rx.toNat 9).drop w).head?, 0, (s.phoDir l 1).next, none⟩)) ∧
  (∀ (s : State) (b : Fin 64) (integ : List Int),
     let e := lookupD s.pho.banks b.val (zeros 192)
     let h := fun (j : Nat) => ((List.range 9).foldl (fun (a : Int) i => a + toSigned 16 (fieldAt e (18 * j + 2 * i) 2) *
         integ.getD i 0) 0) / 2 ^ 14
     s.pho.stopped.contains (b.val / 2) = false ∧ s.on PHO_CTRL.FF_EN = false ∧ s.pho.reload.contains b.val = false →
     Does (.ringLockUpdate b integ 0) s [.csr, .out, .freeCtr, .intc, .pho] (fun t =>
       (∀ j : Fin 9, lookupD t.pho.high (b.val, j.val) 0 = 0 ∧ lookupD t.pho.heater (b.val,
           j.val) 0 = Config.heaterDrive (min (h j).toNat (Config.heaterMax b j)) (lookupD s.pho.eff (b.val,
           j.val) (Config.ringEff b j))) ∧
       t.pho.locked = addOnce s.pho.locked b.val ∧ (∀ j : Fin 9, (Config.heaterMax b j : Int) ≤ h j →
           t.pho.unlocked.contains (b.val, j.val) = true) ∧
       ((∀ j : Fin 9, h j < (Config.heaterMax b j : Int)) → t.pho.unlocked = s.pho.unlocked ∧ t.pho.dirs = s.pho.dirs))) ∧
  (∀ (s : State) (b : Fin 64) (r : Fin 9),
     s.pho.stopped.contains (b.val / 2) = false ∧ s.on PHO_CTRL.FF_EN = false ∧ s.pho.reload.contains b.val = false ∧
         lookupD s.pho.high (b.val, r.val) 0 = 3 →
     s.pho.unlocked.contains (b.val, r.val) = false →
     Does (.ringLockUpdate b [] (BitVec.ofNat 9 (2 ^ r.val))) s [.csr, .out, .freeCtr, .intc, .pho] (fun t =>
       t.pho.unlocked.contains (b.val, r.val) = true ∧ Sent s t (.report 0x0701) ∧ t.on PHO_INT_STATUS.UNLOCK = true ∧
       (t.get (if b.val % 2 = 0 then PHO_LINK.TX_WORKING else PHO_LINK.RX_WORKING) (b.val / 2)).testBit r.val = false)) ∧
  (∀ (s : State) (b : Fin 64) (r : Fin 9) (lane : Nat) (sp : Nat),
     let l := b.val / 2
     let d := b.val % 2
     let x := s.phoDir l d
     s.pho.unlocked.contains (b.val, r.val) = true ∧ x.lanes.findIdx? (· == r.val) = some lane ∧ x.spare = some sp →
     s.get (if d = 0 then PHO_LINK.TX_SPARE_LANE else PHO_LINK.RX_SPARE_LANE) l = lane ∧ lane ≠ 15 →
     Does (.ringRelocked b r) s [.csr, .pho] (fun t =>
       t.pho.unlocked.contains (b.val, r.val) = false ∧
           (t.get (if d = 0 then PHO_LINK.TX_WORKING else PHO_LINK.RX_WORKING) l).testBit r.val = true ∧
       t.phoDir l d = ⟨x.lanes.set lane sp, some r.val, 0, x.next, none⟩ ∧
           t.get (if d = 0 then PHO_LINK.TX_SPARE_LANE else PHO_LINK.RX_SPARE_LANE) l = 15)) ∧
  (∀ (s : State) (v : BitVec 16) (rate : Nat),
     -320 ≤ v.toInt ∧ v.toInt ≤ 1200 →
     Does (.sensorSample (List.replicate 64 v) rate) s [.csr, .mem, .poison, .out, .freeCtr, .intc, .myk, .hlth, .pho] (fun t =>
       t.pho.rate = rate ∧ (∀ k : Fin 64, t.get PHO_SENSOR.TEMP k = v.toNat ∧
           t.get PHO_SENSOR.FAULTY k = s.get PHO_SENSOR.FAULTY k) ∧
       (30000 < rate → s.pho.rate ≤ 30000 → t.get PHO_ERR_LOG.REASON = 0x0712 ∧ t.on PHO_INT_STATUS.SENSOR = true))) ∧
  (∀ (s : State) (temps : List (BitVec 16)) (k : Fin 64),
     s.on PHO_SENSOR.FAULTY k = false ∧ (1200 < (temps.getD k 0).toInt ∨ (temps.getD k 0).toInt < -320) →
     Does (.sensorSample temps 0) s [.csr, .mem, .poison, .out, .freeCtr, .intc, .myk, .hlth, .pho] (fun t =>
       t.on PHO_SENSOR.FAULTY k = true ∧ t.get PHO_SENSOR.TEMP k = (temps.getD k 0).toNat ∧ t.get PHO_ERR_LOG.REASON = 0x070E ∧
           Sent s t (.report 0x070E) ∧
       t.on PHO_INT_STATUS.SENSOR = true ∧ (t.get TOP_CAPCHG.BLOCKS).testBit 7 = true)) ∧
  (∀ (s : State) (l : Fin 32) (d : Fin 2),
     let x := s.phoDir l d
     s.on PHO_CTRL.CAL_EN = true ∧ s.on FAB_LINK_STATUS.IN_SERVICE l = true ∧ s.on FAB_LINK_STATUS.QUIET l = false ∧
         x.spare.isSome = true ∧ x.use = 0 →
     x.cal = none ∧ s.pho.rate ≤ 500 ∧ x.next < 9 ∧
         (s.get (if d.val = 0 then PHO_LINK.TX_WORKING else PHO_LINK.RX_WORKING) l).testBit x.next = true →
     Does (.calStep l d) s [.csr, .out, .pho] (fun t =>
       (t.phoDir l d).cal = some x.next ∧ (∀ lane ∈ x.lanes.findIdx? (· == x.next), (t.phoDir l d).use = 1) ∧
       (∀ lane ∈ x.lanes.findIdx? (· == x.next), lane < 15 →
           t.get (if d.val = 0 then PHO_LINK.TX_SPARE_LANE else PHO_LINK.RX_SPARE_LANE) l = lane) ∧
       (∀ lane ∈ x.lanes.findIdx? (· == x.next), d.val = 0 → Sent s t (.linkField l 5 (lane + 32 * 256))) ∧
       (x.lanes.findIdx? (· == x.next) = none → t.get PHO_LINK.CAL_WAVELENGTH l = x.next ∧ Sent s t (.linkField l 7 (x.next + 16))))) ∧
  (∀ (s : State) (l : Fin 32) (d : Fin 2) (lane : Fin 9) (wl : Nat),
     let x := s.phoDir l d
     x.use ≠ 2 ∧ x.spare.isSome = true ∧ x.cal = some wl ∧ wl < 9 →
     Does (.mirrorSwitch l d lane false) s [.csr, .out, .pho] (fun t =>
       t.phoDir l d = { x with use := 1 } ∧ t.get (if d.val = 0 then PHO_LINK.TX_SPARE_LANE else PHO_LINK.RX_SPARE_LANE) l =
           lane.val ∧
       t.get PHO_LINK.CAL_WAVELENGTH l = wl ∧ Sent s t (.linkField l 7 (wl + 16)))) ∧
  (∀ (s : State) (l : Fin 32) (d : Fin 2) (lane : Fin 9),
     let x := s.phoDir l d
     x.use = 1 →
     Does (.mirrorSwitch l d lane true) s [.csr, .out, .pho] (fun t =>
       t.phoDir l d = { x with use := 0, cal := none } ∧
           t.get (if d.val = 0 then PHO_LINK.TX_SPARE_LANE else PHO_LINK.RX_SPARE_LANE) l = 15)) ∧
  (∀ (s : State) (l : Fin 32) (d : Fin 2) (kept : Option Nat) (wl : Nat),
     let x := s.phoDir l d
     x.cal = some wl ∧ wl < 9 →
     Does (.calSweepEnd l d kept) s [.csr, .out, .pho] (fun t =>
       (t.phoDir l d).next = (wl + 1) % 9 ∧ t.get PHO_LINK.CAL_WAVELENGTH l = 15 ∧ Sent s t (.linkField l 7 wl) ∧
       (∀ e ∈ kept, lookupD t.pho.eff (2 * l.val + d.val, wl) 0 = e) ∧ (kept = none → t.pho.eff = s.pho.eff ∧
           t.get PHO_ERR_LOG.REASON = 0x0704) ∧
       t.get PHO_COUNT.CAL_STEPS = satAdd PHO_COUNT.CAL_STEPS.w (s.get PHO_COUNT.CAL_STEPS) 1 ∧
       (x.use ≠ 1 → (t.phoDir l d).cal = none) ∧
       (x.use = 1 → d.val = 0 → s.get PHO_LINK.TX_SPARE_LANE l ≠ 15 →
           Sent s t (.linkField l 5 (s.get PHO_LINK.TX_SPARE_LANE l + 16 + 32 * 256))))) ∧
  (∀ (s : State) (l : Fin 32) (f : BitVec 16),
     8 < getBits f.toNat 4 4 ∨ 8 < getBits f.toNat 8 4 ∨ 4096 ≤ f.toNat ∨ (f.toNat % 16 ≠ 15 ∧ getBits f.toNat 4 4 ≤ f.toNat % 16) →
     Does (.laneMapReceived l f) s [.csr] (fun t =>
       t.get PHO_COUNT.BAD_FIELD = satAdd PHO_COUNT.BAD_FIELD.w (s.get PHO_COUNT.BAD_FIELD) 1)) ∧
  (∀ (s : State) (l : Fin 32) (lane wl w : Fin 9),
     let x := s.phoDir l 1
     lane.val < w.val ∧ lane.val < x.lanes.length ∧ x.spare ≠ some wl.val ∧ x.lanes.getD lane.val 0 ≠ wl.val →
     Does (.laneMapReceived l (BitVec.ofNat 16 (lane.val + 16 * w.val + 256 * wl.val))) s [.pho] (fun t =>
       t.phoDir l 1 = { x with lanes := x.lanes.set lane.val wl.val })) ∧
  (∀ (s : State) (l : Fin 32) (lane w wl : Fin 9),
     let x := s.phoDir l 1
     lane.val < w.val ∧ lane.val < x.lanes.length ∧ x.spare = some wl.val →
     Does (.laneMapReceived l (BitVec.ofNat 16 (lane.val + 16 * w.val + 256 * wl.val))) s [.csr, .pho] (fun t =>
       t.phoDir l 1 = { x with use := if x.use = 1 then 1 else 2 } ∧ t.get PHO_LINK.RX_SPARE_LANE l = lane.val))

/-- The gap of a re-steer ends sweeps on the affected links; at its end ACTIVE changes, the links that hold lock resume and the
others stay QUIET until they lock or the limit takes them out of service. A source in service whose power has fallen to the
handover threshold is handed over by itself when AUTO_HANDOVER is set; one that has failed takes its four links out of service
first. A handover warms the spare, locks it, announces the gap, switches and ends; a spare that takes too long has failed. -/
def Obligations.PhotonicsSwitching : Prop :=
  (∀ (s : State),
     s.on PHO_STATUS.STEERING = true →
     Does (.resteerGapStart) s [.csr] (fun t =>
       (∀ l : Fin 32, t.get PHO_LINK.CAL_WAVELENGTH l = (if s.pho.affected.contains l then 15 else s.get PHO_LINK.CAL_WAVELENGTH
           l)))) ∧
  (∀ (s : State) (locked : BitVec 32),
     let m := 1 - s.get PHO_STEER_CTRL.ACTIVE
     s.on PHO_STATUS.STEERING = true →
     Does (.resteerComplete locked []) s [.csr, .mem, .poison, .out, .intc, .fab, .time, .pho] (fun t =>
       t.get PHO_STEER_CTRL.ACTIVE = m ∧ t.get PHO_STEER_CTRL.ARM = 0 ∧ t.on PHO_STATUS.STEERING = false ∧ t.pho.affected = [] ∧
       t.pho.late = s.pho.affected.filter (fun l => !locked.toNat.testBit l.val) ∧ t.on PHO_INT_STATUS.STEER_DONE = true ∧
           Sent s t (.report 0x070C) ∧
       (∀ l : Fin 32, s.pho.affected.contains l = true → t.get PHO_LINK.FIBRE l = s.steerFibre m l) ∧
       (∀ l : Fin 32, s.pho.affected.contains l = true → locked.toNat.testBit l = true → t.on FAB_LINK_STATUS.QUIET l = false ∧
           lookupD t.time.suspect l.val 0 = 8) ∧
       (∀ l ∈ s.pho.affected, locked.toNat.testBit l.val = false → t.on PHO_INT_STATUS.STEER_LATE = true ∧
           t.get PHO_ERR_LOG.REASON = 0x070D))) ∧
  (∀ (s : State) (l : Fin 32),
     s.pho.late.contains l = true →
     Does (.resteerLockTimeout l) s [.csr, .out, .intc, .fab, .pho] (fun t =>
       t.pho.late.contains l = false ∧ t.on FAB_LINK_STATUS.QUIET l = false ∧ t.on FAB_LINK_STATUS.IN_SERVICE l = false ∧
           t.get FAB_LINK_STATUS.WIDTH l = 0)) ∧
  (∀ (s : State) (x : Fin 10) (db : BitVec 16),
     let th := fun (f : Field) => toSigned 16 (s.get f)
     s.get PHO_SOURCE.STATE x = 2 ∧ s.get PHO_SOURCE.POSITION x ≤ 7 ∧ th PHO_LASER_CFG.WARN_DB < db.toInt ∧
         th PHO_LASER_CFG.FAIL_DB < db.toInt →
     th PHO_LASER_CFG.HANDOVER_DB < db.toInt →
     Does (.laserPowerCheck x db true) s [.csr, .pho] (fun t =>
       t.get PHO_SOURCE.POWER_DB x = db.toNat ∧ t.pho.warned = s.pho.warned.filter (· ≠ x.val) ∧ t.pho.hand = s.pho.hand)) ∧
  (∀ (s : State) (x : Fin 10) (db : BitVec 16) (sp : Fin 10),
     let th := fun (f : Field) => toSigned 16 (s.get f)
     let p := s.get PHO_SOURCE.POSITION x
     s.get PHO_SOURCE.STATE x = 2 ∧ p ≤ 7 ∧ db.toInt ≤ th PHO_LASER_CFG.HANDOVER_DB ∧ db.toInt ≤ th PHO_LASER_CFG.WARN_DB ∧
         th PHO_LASER_CFG.FAIL_DB < db.toInt →
     s.on PHO_CTRL.AUTO_HANDOVER = true ∧ s.pho.hand = none ∧ s.pho.stopped.contains 32 = false ∧
         s.pho.warm.contains sp.val = false →
     (bitsOf (s.get PHO_CAP.SPARES_FREE) 2).head? = some (sp.val - 8) ∧ 8 ≤ sp.val →
     Does (.laserPowerCheck x db true) s [.csr, .out, .intc, .pho] (fun t =>
       t.pho.hand.map (·.position.val) = some p ∧ t.pho.hand.map (·.spare) = some sp ∧ t.get PHO_HANDOVER.STATE = 1 ∧
           t.on PHO_STATUS.HANDOVER = true ∧
       t.get PHO_SOURCE.STATE sp = 1 ∧ (t.get PHO_CAP.SPARES_FREE).testBit (sp.val - 8) = false ∧
           t.get PHO_ERR_LOG.REASON = 0x0706 ∧ t.on PHO_INT_STATUS.HANDOVER = true ∧
       t.pho.warned.contains x.val = true)) ∧
  (∀ (s : State) (x : Fin 10) (db : BitVec 16),
     let p := s.get PHO_SOURCE.POSITION x
     s.get PHO_SOURCE.STATE x = 2 ∧ p ≤ 7 →
     Does (.laserPowerCheck x db false) s [.csr, .out, .intc, .fab, .pho] (fun t =>
       Sent s t (.report 0x070A) ∧ t.on PHO_INT_STATUS.LASER_FAIL = true ∧ t.on TOP_FAULT.ACTIVE = true ∧
       (∀ k : Fin 4, t.on FAB_LINK_STATUS.IN_SERVICE (4 * p + k.val) = false))) ∧
  (∀ (s : State),
     s.pho.hand.isSome = true ∧ s.get PHO_HANDOVER.STATE = 1 →
     Does (.spareWarmed) s [.csr] (fun t =>
       t.get PHO_HANDOVER.STATE = 2)) ∧
  (∀ (s : State) (sp : Fin 10),
     s.pho.hand = none ∧ s.on PHO_CTRL.SPARE_WARM = true ∧ (bitsOf (s.get PHO_CAP.SPARES_FREE) 2).head? = some (sp.val - 8) ∧
         8 ≤ sp.val →
     Does (.spareWarmed) s [.pho] (fun t =>
       t.pho.warm = [sp.val])) ∧
  (∀ (s : State) (h : Handover),
     s.pho.hand = some h ∧ s.get PHO_HANDOVER.STATE = 2 ∧ s.on PHO_STATUS.STEERING = false →
     Does (.spareLocked) s [.csr, .out, .pho] (fun t =>
       t.get PHO_HANDOVER.STATE = 3 ∧ t.pho.hand = some { h with announced := true } ∧
       (∀ k : Fin 4, t.on FAB_LINK_STATUS.QUIET (4 * h.position.val + k.val) = true ∧
           Sent s t (.linkField (4 * h.position.val + k.val) 4 (40 + 1024 * 20))))) ∧
  (∀ (s : State) (h : Handover),
     s.pho.hand = some h ∧ s.get PHO_HANDOVER.STATE = 3 ∧ h.old ≠ h.spare →
     Does (.handoverGapStart) s [.csr] (fun t =>
       t.get PHO_SOURCE.POSITION h.old = 15 ∧ t.get PHO_SOURCE.STATE h.old = 0 ∧
           t.get PHO_SOURCE.POSITION h.spare = h.position.val ∧
       t.get PHO_SOURCE.STATE h.spare = 2 ∧ t.get PHO_HANDOVER.STATE = 4)) ∧
  (∀ (s : State) (h : Handover),
     s.pho.hand = some h ∧ s.get PHO_HANDOVER.STATE = 4 →
     Does (.handoverSwitched) s [.csr, .out, .intc, .pho] (fun t =>
       t.pho.hand = none ∧ t.get PHO_HANDOVER.STATE = 0 ∧ t.on PHO_STATUS.HANDOVER = false ∧ t.get PHO_ERR_LOG.REASON = 0x0707 ∧
       (∀ k : Fin 4, t.on FAB_LINK_STATUS.QUIET (4 * h.position.val + k.val) = false) ∧ t.on PHO_INT_STATUS.HANDOVER = true)) ∧
  (∀ (s : State) (h : Handover),
     s.pho.hand = some h ∧ (s.get PHO_HANDOVER.STATE = 1 ∨ s.get PHO_HANDOVER.STATE = 2) ∧ s.get PHO_CAP.SPARES_FREE = 0 →
     Does (.handoverTimeLimit) s [.csr, .out, .intc, .pho] (fun t =>
       t.pho.hand = none ∧ t.get PHO_HANDOVER.STATE = 0 ∧ t.on PHO_STATUS.HANDOVER = false ∧ t.get PHO_SOURCE.STATE h.spare = 3 ∧
       t.get PHO_ERR_LOG.REASON = 0x0708 ∧ t.on PHO_INT_STATUS.HANDOVER = true))

/-- An allocation takes the next free index of the smallest pool that fits, while its class is below its maximum and the
guarantees of the others leave one: the record takes the next generation, the length and the class, and the counts move. A
request that cannot be served completes with its reason, or, of an engine, waits and is granted once it can be. An owner shares
a skein with a class, or frees it; the last owner's free returns it to the pool. A handle that is not valid is a violation and
changes no skein. -/
def Obligations.SkeinPools : Prop :=
  (∀ (s : State) (w : Work) (len p i : Nat) (ps c : List Nat),
     let cls := s.classOf w
     let gen := if (s.skeinRec p i).gen = 31 then 1 else (s.skeinRec p i).gen + 1
     s.on SKEIN_STATUS.READY = true ∧ 0 < len ∧ len ≤ 16842752 ∧ s.poolsFor len = p :: ps ∧ s.skeinGrants cls p = true →
     ((s.pool p).refill (s.get POOL_CFG.COUNT p)).cache = i :: c →
     Does (.alloc w len) s [.csr, .mem, .poison, .out, .intc, .hostq, .skein] (fun t =>
       t.skein.granted = s.skein.granted ++ [(p * 2 ^ 29 + gen * 2 ^ 24 + i, cls)] ∧ (t.pool p).cache = c ∧
       t.skeinRec p i = ⟨len, gen, [cls], false, (s.skeinRec p i).quarantined⟩ ∧ OtherBytes (s.recAddr p i) 8 s t ∧
       t.get CLASS_USE.USE cls p = s.get CLASS_USE.USE cls p + 1 ∧ t.get POOL_STATUS.FREE p = s.get POOL_STATUS.FREE p - 1 ∧
           Ended t w 0 false false)) ∧
  (∀ (s : State) (w : Work) (len : Nat),
     s.on SKEIN_STATUS.READY = true →
     Does (.alloc w len) s [.csr, .mem, .poison, .out, .intc, .hostq, .skein] (fun t =>
       ((len = 0 ∨ 16842752 < len) → Ended t w 0x0401 true false ∧ t.skein = s.skein ∧ t.get SKEIN_ERR_LOG.REASON = 0x0401) ∧
       (0 < len ∧ len ≤ 16842752 ∧ s.poolsFor len = [] → Ended t w 0x0402 true false ∧ t.skein = s.skein) ∧
       (0 < len ∧ len ≤ 16842752 ∧ s.poolsFor len ≠ [] ∧ (s.poolsFor len).all (fun p => !s.skeinGrants (s.classOf w) p) = true →
           Ended t w 0x0403 true false ∧ t.skein = s.skein ∧ t.on SKEIN_INT_STATUS.EXHAUSTED = true))) ∧
  (∀ (s : State) (w : Work) (h : BitVec 32) (add : Fin 64) (p i : Nat) (r : SkeinRec),
     s.handleRec h.toNat = some (p, i, r) ∧ r.owners.contains (s.classOf w) = true ∧ r.owners.length < 4 ∧
         r.owners.contains add.val = false →
     Does (.share (.queue w) h add) s [.mem, .poison, .hostq] (fun t =>
       t.skeinRec p i = { r with owners := r.owners ++ [add.val] } ∧ OtherBytes (s.recAddr p i) 8 s t ∧ Ended t w 0 false false)) ∧
  (∀ (s : State) (w : Work) (h : BitVec 32) (p i : Nat) (r : SkeinRec),
     let cls := s.classOf w
     s.handleRec h.toNat = some (p, i, r) ∧ r.owners = [cls] ∧ r.quarantined = false →
     Does (.free (.queue w) h) s [.csr, .mem, .poison, .hostq, .skein] (fun t =>
       t.skeinRec p i = { r with owners := [] } ∧ OtherBytes (s.recAddr p i) 8 s t ∧ t.pool p = (s.pool p).push i ∧
       t.get CLASS_USE.USE cls p = s.get CLASS_USE.USE cls p - 1 ∧
           t.get POOL_STATUS.FREE p = (s.get POOL_STATUS.FREE p + 1) % 2 ^ 24 ∧ Ended t w 0 false false)) ∧
  (∀ (s : State) (w : Work) (h : BitVec 32),
     s.handleRec h.toNat = none →
     Does (.free (.queue w) h) s [.csr, .mem, .poison, .out, .intc, .myk, .hostq] (fun t =>
       t.get SKEIN_ERR_LOG.REASON = 0x0404 ∧ t.get SKEIN_ERR_HANDLE.HANDLE = h.toNat ∧ t.on SKEIN_INT_STATUS.VIOLATION = true ∧
           Ended t w 0x0404 true false ∧
       SameOutside [(hostBase, hostBase)] s t)) ∧
  (∀ (s : State) (cls : Fin 64) (len : Nat),
     s.on SKEIN_STATUS.READY = true ∧ 0 < len ∧ len ≤ 16842752 ∧ s.poolsFor len ≠ [] ∧
         (s.poolsFor len).all (fun p => !s.skeinGrants cls p) = true →
     Does (.skeinEngineRequest cls len) s [.csr, .skein] (fun t =>
       t.skein.waiting = s.skein.waiting ++ [⟨cls.val, len⟩] ∧ t.skein.granted = s.skein.granted ∧
           t.get SKEIN_COUNT.WAITS = satAdd 32 (s.get SKEIN_COUNT.WAITS) 1)) ∧
  (∀ (s : State) (cls : Fin 64) (len p i : Nat) (ps c : List Nat),
     let gen := if (s.skeinRec p i).gen = 31 then 1 else (s.skeinRec p i).gen + 1
     s.on SKEIN_STATUS.READY = true ∧ 0 < len ∧ len ≤ 16842752 ∧ s.poolsFor len = p :: ps ∧ s.skeinGrants cls p = true →
     ((s.pool p).refill (s.get POOL_CFG.COUNT p)).cache = i :: c →
     Does (.skeinEngineRequest cls len) s [.csr, .mem, .poison, .out, .intc, .skein] (fun t =>
       t.skein.granted = s.skein.granted ++ [(p * 2 ^ 29 + gen * 2 ^ 24 + i, cls.val)] ∧ t.skein.waiting = s.skein.waiting)) ∧
  (∀ (s : State) (x : SkeinWait) (r : List SkeinWait) (p i : Nat) (ps c : List Nat),
     let gen := if (s.skeinRec p i).gen = 31 then 1 else (s.skeinRec p i).gen + 1
     s.on SKEIN_STATUS.READY = true ∧ s.skein.waiting = x :: r ∧ 0 < x.len ∧ x.len ≤ 16842752 ∧ s.poolsFor x.len = p :: ps ∧
         s.skeinGrants x.cls p = true →
     ((s.pool p).refill (s.get POOL_CFG.COUNT p)).cache = i :: c →
     Does (.skeinWaitGrant) s [.csr, .mem, .poison, .out, .intc, .skein] (fun t =>
       t.skein.granted = s.skein.granted ++ [(p * 2 ^ 29 + gen * 2 ^ 24 + i, x.cls)] ∧ t.skein.waiting = r))

/-- A scrub pass with no finding changes nothing. A corrected error is counted and logged; an uncorrectable one poisons its
word, is counted and logged, and leaves its row to be repaired. A device above 85 degrees has its refresh doubled until 80, and
above 100 is throttled until 95. A pass that is not enabled reads nothing. -/
def Obligations.MemoryErrors : Prop :=
  (∀ (s : State) (l : List EccFinding),
     s.on MEM_CTRL.SRAM_SCRUB_EN = false →
     Does (.sramScrub l) s [] (fun t =>
       SameMemory s t)) ∧
  (∀ (s : State) (f : EccFinding),
     s.on MEM_CTRL.SRAM_SCRUB_EN = true ∧ f.uncorrectable = true ∧ s.memst.sramPending.contains f.row = true ∧
         s.regionsOf f.addr 1 ≠ some [0] →
     Does (.sramScrub [f]) s [.csr, .poison, .out, .intc] (fun t =>
       t.isPoisoned (f.addr / 8 * 8) 8 = true ∧ t.get MEM_ERR_LOG.REASON = 0x0504 ∧ t.on MEM_INT_STATUS.UNCORRECTABLE = true ∧
       t.get MEM_ECC_COUNT.SRAM_UE = satAdd 16 (s.get MEM_ECC_COUNT.SRAM_UE) 1 ∧ Sent s t (.report 0x0504))) ∧
  (∀ (s : State) (f : EccFinding),
     s.on MEM_CTRL.SRAM_SCRUB_EN = true ∧ f.uncorrectable = false ∧ lookupD s.memst.rowErrors f.row (0, s.mono) = (0, s.mono) ∧
         1 < s.get MEM_SCRUB.CE_LIMIT →
     Does (.sramScrub [f]) s [.csr, .out, .intc, .memst, .pmon] (fun t =>
       t.get MEM_ERR_LOG.REASON = 0x0503 ∧ t.get MEM_ECC_COUNT.SRAM_CE = satAdd 16 (s.get MEM_ECC_COUNT.SRAM_CE) 1 ∧
       lookupD t.memst.rowErrors f.row (0, 0) = (1, s.mono) ∧ t.memst.sramPending = s.memst.sramPending)) ∧
  (∀ (s : State) (f : EccFinding),
     let d := channelOf f.addr / 8
     s.on MEM_CTRL.LPDDR_SCRUB_EN = true ∧ f.uncorrectable = true ∧ s.isPoisoned (f.addr / 32 * 32) 32 = false ∧
         s.memst.lpddrPending.contains f.row = false →
     Does (.lpddrScrub [f]) s [.csr, .poison, .out, .intc, .memst] (fun t =>
       t.isPoisoned (f.addr / 32 * 32) 32 = true ∧ t.get MEM_ERR_LOG.REASON = 0x0506 ∧ t.on MEM_INT_STATUS.UNCORRECTABLE = true ∧
       t.get MEM_ECC_COUNT.LPDDR_UE = satAdd 16 (s.get MEM_ECC_COUNT.LPDDR_UE) 1 ∧
           t.get MEM_DEV.UE d = satAdd 16 (s.get MEM_DEV.UE d) 1 ∧
       t.memst.lpddrPending = s.memst.lpddrPending ++ [f.row] ∧ t.get MEM_DEV.PENDING d = (s.get MEM_DEV.PENDING d + 1) % 256 ∧
           t.on MEM_INT_STATUS.REPAIR = true ∧
       Sent s t (.report 0x0507) ∧ (f.noSpare = true → Sent s t (.report 0x0509)))) ∧
  (∀ (s : State) (f : EccFinding),
     let d := channelOf f.addr / 8
     s.on MEM_CTRL.LPDDR_SCRUB_EN = true ∧ f.uncorrectable = false ∧ s.isPoisoned (f.addr / 32 * 32) 32 = false →
     lookupD s.memst.rowErrors f.row (0, s.mono) = (0, s.mono) ∧ 1 < s.get MEM_SCRUB.CE_LIMIT →
     Does (.lpddrScrub [f]) s [.csr, .out, .intc, .memst] (fun t =>
       t.get MEM_ERR_LOG.REASON = 0x0505 ∧ t.get MEM_ECC_COUNT.LPDDR_CE = satAdd 16 (s.get MEM_ECC_COUNT.LPDDR_CE) 1 ∧
           t.get MEM_DEV.CE d = satAdd 16 (s.get MEM_DEV.CE d) 1)) ∧
  (∀ (s : State) (l : List EccFinding),
     s.on MEM_CTRL.LPDDR_SCRUB_EN = false →
     Does (.lpddrScrub l) s [] (fun t =>
       SameMemory s t)) ∧
  (∀ (s : State) (d : Fin 16) (v : BitVec 16),
     Does (.deviceTempChange d v) s [.csr, .out, .intc] (fun t =>
       t.get MEM_DEV.TEMP d = v.toNat ∧
       t.on MEM_DEV.REFRESH_2X d = (if 680 < v.toInt then true else if v.toInt ≤ 640 then false else s.on MEM_DEV.REFRESH_2X d) ∧
       t.on MEM_DEV.THROTTLE d = (if 800 < v.toInt then true else if v.toInt ≤ 760 then false else s.on MEM_DEV.THROTTLE d) ∧
       (t.on MEM_DEV.REFRESH_2X d = true → t.on MEM_STATUS.REFRESH_2X = true) ∧ (t.on MEM_DEV.THROTTLE d = true →
           t.on MEM_STATUS.THROTTLE = true) ∧
       (680 < v.toInt → s.on MEM_DEV.REFRESH_2X d = false → Sent s t (.report 0x050A) ∧ t.on MEM_INT_STATUS.THERMAL = true) ∧
       (800 < v.toInt → s.on MEM_DEV.THROTTLE d = false → t.get MEM_ERR_LOG.REASON = 0x050B)))

/-- An ENCODE whose checks pass writes the blocks that its elements code to, one after the other, at its output address, counts
its input and output bytes and completes with the output's length in its engine word. Under FORCE_RAW a chunk of one block is
that block raw. A refused descriptor completes with its reason and logs it; poisoned input poisons the output with 0x0D13; a
failing self-check quarantines the cluster, and a job's encode runs once more. -/
def Obligations.CodecEncode : Prop :=
  (∀ (s : State) (w : Work) (f : Option (Fin 32 × Fin 8)),
     let bs := s.purlEncode w
     let o := bs.flatMap EncBlock.bytes
     s.purlCheck 1 w = none ∧ s.readsPoison (purlAccess w) = false ∧ f.all (fun x => !s.purlInService x.1) = true →
     w.body 24 8 + o.length ≤ hostBase →
     Does (.encode w f) s [.csr, .mem, .poison, .out, .freeCtr, .intc, .hostq, .fab, .grp] (fun t =>
       t.readBytes (w.body 24 8) o.length = o ∧ OtherBytes (w.body 24 8) o.length s t ∧
       t.get PURL_ENC_IN.BYTES = (s.get PURL_ENC_IN.BYTES + purlRaw w) % 2 ^ PURL_ENC_IN.BYTES.w ∧
       t.get PURL_ENC_OUT.BYTES = (s.get PURL_ENC_OUT.BYTES + o.length) % 2 ^ PURL_ENC_OUT.BYTES.w ∧
       Ended t w 0 false false ∧
       (∃ f ∈ t.hostq.finished, f.work = w ∧ f.res.engine = purlEngine o.length bs.length (bs.countP EncBlock.raw) (ceilDiv
           bs.length (if w.body 3 1 = 0 then 256 else w.body 3 1))))) ∧
  (∀ (s : State) (w : Work),
     let n := purlRaw w
     s.purlCheck 1 w = none ∧ s.readsPoison (purlAccess w) = false ∧ n ≤ 65536 →
     s.on PURL_CFG.FORCE_RAW = true ∧ w.body 24 8 + n + 48 ≤ hostBase →
     Does (.encode w none) s [.csr, .mem, .poison, .out, .freeCtr, .intc, .hostq, .fab, .grp] (fun t =>
       t.readBytes (w.body 24 8) (48 + n) = rawBlock (w.body 2 1 % 16) 6 0 (s.readBytes (w.body 16 8) n))) ∧
  (∀ (s : State) (w : Work) (r : Nat) (f : Option (Fin 32 × Fin 8)),
     s.purlCheck 1 w = some r ∧ r ≠ 0x0D03 →
     Does (.encode w f) s [.csr, .hostq] (fun t =>
       Ended t w r true false ∧ t.get PURL_ERR_LOG.REASON = r % 2 ^ 16 ∧
           t.get PURL_ERR_LOG.QUEUE = w.queue % 2 ^ PURL_ERR_LOG.QUEUE.w)) ∧
  (∀ (s : State) (w : Work) (f : Option (Fin 32 × Fin 8)),
     s.purlCheck 1 w = none ∧ s.readsPoison (purlAccess w) = true →
     Does (.encode w f) s [.csr, .poison, .out, .hostq] (fun t =>
       Ended t w 0x0D13 true true ∧ t.out = s.out ++ [.report 0x0D13] ∧ SameMemory s t ∧
       (∀ k < purlNeed w, w.body 24 8 + k ∈ t.poison))) ∧
  (∀ (s : State) (w : Work) (c : Fin 32) (e : Fin 8),
     s.purlCheck 1 w = none ∧ s.readsPoison (purlAccess w) = false ∧ s.purlInService c = true ∧ w.job ≠ 0 →
     Does (.encode w (some (c, e))) s [.csr, .mem, .poison, .out, .freeCtr, .intc, .myk, .hlth, .rerun] (fun t =>
       t.rerun = s.rerun ++ [w] ∧ Sent s t (.report 0x0D0D) ∧
       t.hlth.quarantined = s.hlth.quarantined ++ [(13, match s.purlSpareFor c with | some k => 32 + k | none => c.val)]))

/-- A DECODE whose blocks are well formed writes their raw bytes, or with EMIT_RAW the chunk as raw blocks. A first failure
changes nothing but the list of chunks that wait for a second decode. A second decode that passes counts REDECODE_OK and
completes with the warning 0x0D0C; one that fails completes with the row's reason and nothing is written. A received chunk of a
job that decodes is complete. A PURL_SWATCH that passes completes, one that fails quarantines its cluster with 0x0D15. -/
def Obligations.CodecDecode : Prop :=
  (∀ (s : State) (w : Work) (c : Fin 32) (bs : List DecBlock),
     let o := bs.flatMap (fun (b : DecBlock) => if (w.body 1 1).testBit 2 then b.asRaw else b.raw)
     s.purlCheck 2 w = none ∧ s.readsPoison (purlAccess w) = false ∧ (s.entryOf w.job).isNone = true ∧ s.grp.shadowed = false →
     decodeChunk (w.body 2 1 % 16) (w.body 4 4) (s.readBytes (w.body 16 8) (w.body 8 4)) = .ok bs ∧
         w.body 24 8 + o.length ≤ hostBase →
     Does (.decode w c none) s [.csr, .mem, .poison, .out, .intc, .hostq] (fun t =>
       t.readBytes (w.body 24 8) o.length = o ∧ OtherBytes (w.body 24 8) o.length s t ∧ Ended t w 0 false false ∧
       t.get PURL_DEC_IN.BYTES = (s.get PURL_DEC_IN.BYTES + w.body 8 4) % 2 ^ PURL_DEC_IN.BYTES.w ∧
       t.get PURL_DEC_OUT.BYTES = (s.get PURL_DEC_OUT.BYTES + purlRaw w) % 2 ^ PURL_DEC_OUT.BYTES.w)) ∧
  (∀ (s : State) (w : Work) (c : Fin 32) (bs : List DecBlock) (j : Nat),
     s.purlCheck 2 w = none ∧ s.readsPoison (purlAccess w) = false ∧ s.entryOf w.job = some j ∧ (w.body 1 1).testBit 2 = false →
     decodeChunk (w.body 2 1 % 16) (w.body 4 4) (s.readBytes (w.body 16 8) (w.body 8 4)) = .ok bs →
     chunkKind (w.body 32 4) ≠ 1 →
     Does (.decode w c none) s [.csr, .mem, .poison, .out, .intc, .myk, .hostq, .xport] (fun t =>
       Ended t w 0 false false ∧
       (∀ x ∈ t.xport.rxChunks, x.entry = j ∧ x.site = w.body 36 1 % 16 ∧ x.step = w.step ∧ x.chunk = w.body 32 4 → x.phase ≠ 1))) ∧
  (∀ (s : State) (w : Work) (c : Fin 32) (u : Option DecodeUpset) (b r : Nat),
     s.purlCheck 2 w = none ∧ s.readsPoison (purlAccess w) = false ∧ s.purlAttempt w u = .error (b, r) →
     Does (.decode w c u) s [.purl] (fun t =>
       t.purl = { s.purl with redecode := s.purl.redecode ++ [⟨w, r, b, c⟩] })) ∧
  (∀ (s : State) (w : Work) (r : Nat) (c : Fin 32) (u : Option DecodeUpset),
     s.purlCheck 2 w = some r ∧ r ≠ 0x0D03 →
     Does (.decode w c u) s [.csr, .hostq] (fun t =>
       Ended t w r true false ∧ t.get PURL_ERR_LOG.REASON = r % 2 ^ 16)) ∧
  (∀ (s : State) (c : Fin 32) (e : Redecode) (l : List Redecode) (bs : List DecBlock),
     let w := e.work
     let o := bs.flatMap (fun (b : DecBlock) => if (w.body 1 1).testBit 2 then b.asRaw else b.raw)
     s.purl.redecode = e :: l ∧ s.purlInService c = true ∧ s.purlClusters ≠ [e.cluster] ∧ c.val ≠ e.cluster ∧
         s.purlInService e.cluster = true →
     decodeChunk (w.body 2 1 % 16) (w.body 4 4) (s.readBytes (w.body 16 8) (w.body 8 4)) = .ok bs ∧
         w.body 24 8 + o.length ≤ hostBase →
     (s.entryOf w.job).isNone = true ∧ s.grp.shadowed = false ∧ s.hlth.bindingOff = true →
     Does (.secondDecode c none) s [.csr, .mem, .poison, .out, .freeCtr, .intc, .myk, .hostq, .hlth, .purl] (fun t =>
       t.readBytes (w.body 24 8) o.length = o ∧ t.purl = { s.purl with redecode := l } ∧ Ended t w 0x0D0C false false ∧
           Sent s t (.report 0x0D0C) ∧
       t.get PURL_RESEND_COUNT.REDECODE_OK = satAdd PURL_RESEND_COUNT.REDECODE_OK.w (s.get PURL_RESEND_COUNT.REDECODE_OK) 1 ∧
       t.get PURL_ERR_LOG.REASON = 0x0D0C ∧ t.get PURL_ERR_LOG.CLUSTER = e.cluster % 2 ^ PURL_ERR_LOG.CLUSTER.w ∧
       t.hlth.quarantined = s.hlth.quarantined ++ [(13,
           match s.purlSpareFor e.cluster with | some k => 32 + k | none => e.cluster)])) ∧
  (∀ (s : State) (c : Fin 32) (u : Option DecodeUpset) (e : Redecode) (l : List Redecode) (b r : Nat),
     s.purl.redecode = e :: l ∧ s.purlInService c = true ∧ (c.val ≠ e.cluster ∨ s.purlClusters = [e.cluster]) →
     s.purlAttempt e.work u = .error (b, r) →
     Does (.secondDecode c u) s [.csr, .mem, .poison, .out, .freeCtr, .intc, .myk, .hostq, .purl, .xport, .fab, .grp] (fun t =>
       t.purl = { s.purl with redecode := l } ∧ Ended t e.work r true false ∧ SameMemory s t ∧
       t.on PURL_INT_STATUS.DECODE_FAIL = true ∧ Sent s t (.report r))) ∧
  (∀ (s : State) (w : Work),
     s.purlCheck 0x0F w = none ∧ s.purlInService (w.body 37 1 % 32) = true →
     Does (.purlSwatch w false) s [.csr, .hostq] (fun t =>
       Ended t w 0 false false)) ∧
  (∀ (s : State) (w : Work),
     let c := w.body 37 1 % 32
     s.purlCheck 0x0F w = none ∧ s.purlInService c = true →
     Does (.purlSwatch w true) s [.csr, .mem, .poison, .out, .freeCtr, .intc, .myk, .hostq, .hlth] (fun t =>
       Ended t w 0x0D15 true false ∧ Sent s t (.report 0x0D15) ∧
       t.hlth.quarantined = s.hlth.quarantined ++ [(13, match s.purlSpareFor c with | some k => 32 + k | none => c)])) ∧
  (∀ (s : State) (input : Bool) (n : Nat),
     let r := (if input then s.purl.inRem else s.purl.outRem) + n
     let f := (if input then PURL_STALL.IN_STALL else PURL_STALL.OUT_STALL)
     Does (.purlStallResume input n) s [.csr, .purl] (fun t =>
       t.get f = satAdd f.w (s.get f) (r / 1024) ∧ OtherRegs [f.reg.addr 0 0] s t ∧
       t.purl = (if input then { s.purl with inRem := r % 1024 } else { s.purl with outRem := r % 1024 })))

/-- The source that holds the chunk decodes its retained payload, seals it again as raw blocks under the pair's next nonce,
counts it served and reports 0x0D0F; one that cannot, refuses with 0x0D10. At the asking member a refusal leaves the chunk owed,
counts a failed resend and stalls the step on its source. -/
def Obligations.RawResend : Prop :=
  (∀ (s : State) (j : Fin 128) (site : Fin 16) (m : CtrlIn) (r : Retained) (p : Bytes) (bs : List DecBlock) (c c' : Ctx) (k n a :
       Nat),
     let u : State := { s with xport := { s.xport with inbox := s.xport.inbox.erase m } }
     let raw := bs.flatMap DecBlock.asRaw
     let h := s.readBytes r.addr 64
     s.xport.inbox.find? (fun c => c.entry == j.val && c.site == site.val && c.ctype == 4) = some m →
     s.xport.retained.find? (fun r => r.entry == j.val && r.peer == site.val && r.step == fieldAt m.body 0 4 && r.chunk == fieldAt
         m.body 4 4) = some r →
     s.on PURL_STATUS.READY = true ∧ s.purlClusters ≠ [] ∧ s.reaches j site = false →
     u.retainedPlain r = some p ∧ decodeChunk (fieldAt h 3 1 % 16) (fieldAt h 20 4) p = .ok bs →
     u.ctx (u.pairTx j site) = some c ∧ u.nonce (u.pairTx j site) raw.length c = .take k n c' ∧
         u.stageAlloc (80 + raw.length) = some a →
     Does (.rawResendReceived j site none) s [.csr, .mem, .poison, .out, .freeCtr, .intc, .myk, .sched, .ciph, .xport] (fun t =>
       Sent s t (.report 0x0D0F) ∧ t.xport.inbox = s.xport.inbox.erase m ∧
       t.xport.sealed = s.xport.sealed ++ [⟨j, site, a, a + 64, u.pairTx j site, k, true, 0⟩] ∧
       t.readBytes (a + 64) (raw.length + 16) = (gcmSeal (c'.slot k).key (nonceBytes (c'.slot k).salt n)
         ((rawHeader h raw.length (u.pairTx j site) k (c'.slot k).salt n).take 32) raw).1 ++ (gcmSeal (c'.slot k).key (nonceBytes
           (c'.slot k).salt n)
         ((rawHeader h raw.length (u.pairTx j site) k (c'.slot k).salt n).take 32) raw).2 ∧
       t.get PURL_RESEND_COUNT.SERVED = satAdd PURL_RESEND_COUNT.SERVED.w (s.get PURL_RESEND_COUNT.SERVED) 1)) ∧
  (∀ (s : State) (j : Fin 128) (site : Fin 16) (m : CtrlIn) (f : Option (Fin 32)),
     (s.takeMail j site 4).map (·.1) = some m →
     s.xport.retained.any (fun r => r.entry == j.val && r.peer == site.val && r.step == fieldAt m.body 0 4 && r.chunk == fieldAt
         m.body 4 4) = false →
     Does (.rawResendReceived j site f) s [.mem, .poison, .xport] (fun t =>
       t.xport.inbox = s.xport.inbox.erase m ∧ Placed t j site 5 (m.body.take 9 ++ le 2 0x0D10))) ∧
  (∀ (s : State) (j : Fin 128) (site : Fin 16) (m : CtrlIn),
     let o : OwedChunk := ⟨j, site, fieldAt m.body 0 4, fieldAt m.body 4 4, fieldAt m.body 8 1, true, true⟩
     (s.takeMail j site 5).map (·.1) = some m →
     Does (.rawRefuseReceived j site) s [.csr, .mem, .poison, .out, .intc, .myk, .xport] (fun t =>
       t.xport.inbox = s.xport.inbox.erase m ∧ o ∈ t.xport.owed ∧ t.on PURL_INT_STATUS.RESEND_FAIL = true ∧
           Sent s t (.report 0x0D10) ∧
       t.get PURL_RESEND_COUNT.FAILED = satAdd PURL_RESEND_COUNT.FAILED.w (s.get PURL_RESEND_COUNT.FAILED) 1 ∧
       (t.stepRec j).stalled = true ∧ (t.stepRec j).stalledSites = 1 <<< site.val))

/-- A lane that gains codeword lock has signal and lock and its equaliser settings, and counts among RX_LANES where its
alignment word is locked. A lane that loses it loses its alignment-word lock with it and reports 0x0801; loss of alignment-word
lock reports 0x0802; either sends the port to HUNT where the lane is in use. A signal loss starts the time for which
equalisation is held. A gained alignment word records its position and skew; a conflict reports 0x0802 and too much skew 0x0803.
-/
def Obligations.LineLanes : Prop :=
  (∀ (s : State) (p : Fin 16) (lane : Fin 8),
     let x := s.port p
     let y : LinePort := { x with adapted := addOnce x.adapted lane, lossAt := assocErase x.lossAt lane.val }
     s.line.length = 16 →
     Does (.codewordLockGained p lane) s [.csr, .line] (fun t =>
       t.on PORT_LANE_STAT.SIGNAL p lane = true ∧ t.on PORT_LANE_STAT.CW_LOCK p lane = true ∧
           t.get PORT_STATUS.RX_LANES p = t.lockedPositions p % 2 ^ PORT_STATUS.RX_LANES.w ∧
       t.line = s.line.set p y ∧
       OtherRegs [PORT_LANE_STAT.addr p lane, PORT_STATUS.addr p 0] s t)) ∧
  (∀ (s : State) (p : Fin 16) (lane : Fin 8),
     s.line.length = 16 →
     Does (.codewordLockLost p lane) s [.csr, .out, .intc, .line] (fun t =>
       t.on PORT_LANE_STAT.CW_LOCK p lane = false ∧ t.on PORT_LANE_STAT.LAW_LOCK p lane = false ∧
           (t.port p).laws = (s.port p).laws.filter (fun l => l.1 ≠ lane.val) ∧
       Sent s t (.report 0x0801) ∧
       (s.laneInUse p lane = true ∧ (s.get PORT_STATUS.ALIGN_STATE p = 1 ∨ s.inFrame p = true) →
           t.get PORT_STATUS.ALIGN_STATE p = 0) ∧
       (s.laneInUse p lane = false → t.get PORT_STATUS.ALIGN_STATE p = s.get PORT_STATUS.ALIGN_STATE p ∧
           t.get PORT_ERR_LOG.REASON p = 0x0801) ∧
       (s.laneInUse p lane = true ∧ s.inFrame p = true → t.get PORT_ERR_LOG.REASON p = 0x0804 ∧ t.on PORT_INT_STATUS.LOF p = true))) ∧
  (∀ (s : State) (p : Fin 16) (lane : Fin 8),
     s.line.length = 16 →
     Does (.lineSignalLoss p lane) s [.csr, .line] (fun t =>
       t.line = s.line.set p { (s.port p) with lossAt := assocPut (s.port p).lossAt lane.val s.mono } ∧
           t.on PORT_LANE_STAT.SIGNAL p lane = false ∧
       OtherRegs [PORT_LANE_STAT.addr p lane] s t)) ∧
  (∀ (s : State) (p : Fin 16) (lane : Fin 8),
     s.line.length = 16 →
     Does (.alignmentWordLock p lane .lost) s [.csr, .out, .intc, .line] (fun t =>
       t.on PORT_LANE_STAT.LAW_LOCK p lane = false ∧ (t.port p).laws = (s.port p).laws.filter (fun l => l.1 ≠ lane.val) ∧
           Sent s t (.report 0x0802) ∧
       (s.laneInUse p lane = true ∧ (s.get PORT_STATUS.ALIGN_STATE p = 1 ∨ s.inFrame p = true) →
           t.get PORT_STATUS.ALIGN_STATE p = 0) ∧
       t.on PORT_LANE_STAT.CW_LOCK p lane = s.on PORT_LANE_STAT.CW_LOCK p lane)) ∧
  (∀ (s : State) (p : Fin 16) (lane pos : Fin 8) (w skew : Nat),
     let laws : List (Nat × Nat × Nat × Nat) := (s.port p).laws.filter (fun l => l.1 ≠ lane.val) ++ [(lane.val, w, pos.val, skew)]
     s.line.length = 16 →
     Does (.alignmentWordLock p lane (.gained w pos skew)) s [.csr, .out, .line] (fun t =>
       t.line = s.line.set p { (s.port p) with laws := laws } ∧ t.on PORT_LANE_STAT.LAW_LOCK p lane = true ∧
       t.get PORT_LANE_STAT.POSITION p lane = pos ∧ t.get PORT_LANE_STAT.SKEW p lane = skew % 2 ^ PORT_LANE_STAT.SKEW.w ∧
       t.out = s.out ++ (if ({ (s.port p) with laws := laws } : LinePort).conflict then [.report 0x0802] else []) ++ (if skew >
           2500 then [.report 0x0803] else [])))

/-- Out of frame every frame period counts one errored frame. In HUNT a found width starts CONFIRM; an errored frame in CONFIRM
returns to HUNT; the last good one gains frame with 0x0805. In frame a good frame delivers the held frame to its yarns, marked
errored where its PREV_CRC does not match, and is held in its place. The frame that brings the errored run to LOSS_M loses frame
with 0x0804 and discards the held frame. A port out of service takes no frame. -/
def Obligations.LineReceive : Prop :=
  (∀ (s : State) (p : Fin 16) (f : Option RxFrame),
     s.line.length = 16 ∧ s.portOn p = true ∧ (s.get PORT_STATUS.ALIGN_STATE p = 0 ∨ s.get PORT_STATUS.ALIGN_STATE p = 4) ∧
         (s.port p).foundWidth = 0 →
     Does (.rxFrameStart p f) s [.csr, .mem, .poison, .out, .intc, .pmon, .xport, .line] (fun t =>
       t.get PORT_STATUS.ALIGN_STATE p = s.get PORT_STATUS.ALIGN_STATE p ∧
           t.get PORT_PM_EF.EF p = (s.get PORT_PM_EF.EF p + 1) % 2 ^ PORT_PM_EF.EF.w ∧
       (t.port p).efSecond = (s.port p).efSecond + 1 ∧ (t.port p).framesSecond = (s.port p).framesSecond + 1)) ∧
  (∀ (s : State) (p : Fin 16) (f : Option RxFrame),
     s.line.length = 16 ∧ s.portOn p = true ∧ (s.get PORT_STATUS.ALIGN_STATE p = 0 ∨ s.get PORT_STATUS.ALIGN_STATE p = 4) ∧
         (s.port p).foundWidth ≠ 0 →
     Does (.rxFrameStart p f) s [.csr, .mem, .poison, .out, .intc, .pmon, .xport, .line] (fun t =>
       t.get PORT_STATUS.ALIGN_STATE p = (if s.get LINE_ALIGN.CONFIRM_N = 1 then 2 else 1) ∧
           t.get PORT_STATUS.RX_WIDTH p = widthCode (s.port p).foundWidth ∧
       (t.port p).efSecond = (s.port p).efSecond + 1)) ∧
  (∀ (s : State) (p : Fin 16),
     s.line.length = 16 ∧ s.portOn p = true ∧ s.get PORT_STATUS.ALIGN_STATE p = 1 →
     Does (.rxFrameStart p none) s [.csr, .mem, .poison, .out, .intc, .pmon, .xport, .line] (fun t =>
       t.get PORT_STATUS.ALIGN_STATE p = 0 ∧ t.get PORT_STATUS.RX_WIDTH p = 3 ∧ (t.port p).held = none)) ∧
  (∀ (s : State) (p : Fin 16) (f : RxFrame),
     s.line.length = 16 ∧ s.portOn p = true ∧ s.get PORT_STATUS.ALIGN_STATE p = 1 ∧
         alignErrored (widthOf (s.get PORT_STATUS.RX_WIDTH p)) f = false →
     (s.port p).count + 1 = s.get LINE_ALIGN.CONFIRM_N →
     Does (.rxFrameStart p (some f)) s [.csr, .mem, .poison, .out, .intc, .pmon, .xport, .line] (fun t =>
       t.get PORT_STATUS.ALIGN_STATE p = 2 ∧ t.on PORT_INT_STATUS.FRAME_GAINED p = true ∧ Sent s t (.report 0x0805) ∧
           (t.port p).held.isSome = true)) ∧
  (∀ (s : State) (p : Fin 16) (f : RxFrame),
     s.line.length = 16 ∧ s.portOn p = true ∧ s.inFrame p = true ∧ alignErrored (widthOf (s.get PORT_STATUS.RX_WIDTH p)) f = false →
     Does (.rxFrameStart p (some f)) s [.csr, .mem, .poison, .out, .intc, .pmon, .xport, .line] (fun t =>
       t.get PORT_STATUS.ALIGN_STATE p = 2 ∧ (t.port p).count = 0 ∧ t.get PORT_STATUS.FRAME_COUNT_RX p = wordField f 0 ∧
       (t.port p).held.any (fun h => h.crc == crc32c f.slots) = true ∧
       (∀ h, (s.port p).held = some h → (t.port p).rxYarn = h.pieces.foldl (fun l k => assocPut l k.1 (lookupD l k.1 [] ++ [(k.2,
           h.errored || wordField f 1 != h.crc)])) (s.port p).rxYarn) ∧
       (∀ h, (s.port p).held = some h → (t.port p).efSecond = (s.port p).efSecond + (if h.errored || wordField f 1 != h.crc then 1
           else 0)))) ∧
  (∀ (s : State) (p : Fin 16),
     s.line.length = 16 ∧ s.portOn p = true ∧ s.inFrame p = true ∧ (s.port p).count + 1 = s.get LINE_ALIGN.LOSS_M →
     Does (.rxFrameStart p none) s [.csr, .mem, .poison, .out, .intc, .pmon, .xport, .line] (fun t =>
       t.get PORT_STATUS.ALIGN_STATE p = 0 ∧ (t.port p).held = none ∧ t.on PORT_INT_STATUS.LOF p = true ∧
           Sent s t (.report 0x0804) ∧
       (t.port p).efSecond = (s.port p).efSecond + 1 + b2n (s.port p).held.isSome)) ∧
  (∀ (s : State) (p : Fin 16) (f : Option RxFrame),
     s.portOn p = false →
     Does (.rxFrameStart p f) s [] (fun t =>
       t = s))

/-- A transmitter that starts a frame sends it and advances its frame count, keeps the CRC of its slot bytes for the next frame
and clears its errored-frame report. A due page swap applies first and reports 0x0811. A performance second that ends is
classified; the tenth severe second in a row begins unavailable time over those ten, the tenth other second ends it, and the
second that nine have followed settles. Widths narrow and widen to the widest set; a training timeout enters FAILED. -/
def Obligations.LineTransmitAndPerformance : Prop :=
  (∀ (s : State) (p : Fin 16),
     s.line.length = 16 ∧ s.portOn p = true →
     Does (.txFrameStart p) s [.csr, .out, .intc, .sched, .pmon, .line] (fun t =>
       t.get PORT_STATUS.TX_WIDTH_NOW p = s.get PORT_CFG.TX_WIDTH p ∧
           (t.port p).frameCount = ((s.port p).frameCount + 1) % 2 ^ 32 ∧ (t.port p).rei = 0 ∧
       (framesSent s t).length = 1 ∧
       (∀ x ∈ framesSent s t, x.1 = p ∧ x.2.1.length = 256 ∧ x.2.2.length = 65280 ∧ (t.port p).prevCrc = crc32c x.2.2) ∧
       (∀ x ∈ framesSent s t, fieldAt x.2.1 28 4 = (s.port p).frameCount % 2 ^ 32 ∧
           fieldAt x.2.1 60 4 = (s.port p).prevCrc % 2 ^ 32) ∧
       (s.on PORT_CM_CTRL.SWAP_ARM p = true ∧ s.get PORT_SWAP_TIME.TIME p ≤ s.now → Sent s t (.report 0x0811) ∧
           t.on PORT_CM_CTRL.SWAP_ARM p = false) ∧
       (s.on PORT_CM_CTRL.SWAP_ARM p = true ∧ s.get PORT_SWAP_TIME.TIME p ≤ s.now →
           t.get PORT_CM_CTRL.TX_ACTIVE p = 1 - s.get PORT_CM_CTRL.TX_ACTIVE p))) ∧
  (∀ (s : State) (p : Fin 16),
     let x := s.port p
     let es := decide (0 < x.efSecond)
     let ses := es && decide (15 * x.framesSecond ≤ 100 * x.efSecond)
     let un := s.on PORT_STATUS.UNAVAIL p
     s.line.length = 16 →
     Does (.perfSecondEnd p) s [.csr, .out, .intc, .line] (fun t =>
       (t.port p).efSecond = 0 ∧ (t.port p).framesSecond = 0 ∧
       (x.run = 9 ∧ ses = true ∧ un = false → t.on PORT_STATUS.UNAVAIL p = true ∧ t.on PORT_INT_STATUS.UAS_ENTER p = true ∧
           Sent s t (.report 0x0806)) ∧
       (x.run = 9 ∧ ses = false ∧ un = true → t.on PORT_STATUS.UNAVAIL p = false ∧ t.on PORT_INT_STATUS.UAS_EXIT p = true ∧
           Sent s t (.report 0x0807)) ∧
       (x.run < 9 → t.on PORT_STATUS.UNAVAIL p = un ∧ (t.port p).run = (if ses = un then 0 else x.run + 1) ∧ t.out = s.out) ∧
       (x.run < 9 ∧ 9 ≤ x.unsettled.length ∧ (x.unsettled.headD ⟨false, false, false⟩).uas = true →
         t.get PORT_PM_UAS.UAS p = (s.get PORT_PM_UAS.UAS p + 1) % 2 ^ PORT_PM_UAS.UAS.w) ∧
       (x.run < 9 ∧ x.unsettled.length < 9 → (t.port p).unsettled = x.unsettled ++ [⟨es, ses, un⟩] ∧
           t.get PORT_PM_UAS.UAS p = s.get PORT_PM_UAS.UAS p))) ∧
  (∀ (s : State) (p : Fin 16) (x : Nat × Nat × Nat),
     let far := s.get PORT_STATUS.FAR_RX_LANES p
     s.on PORT_CFG.AUTO_NARROW p = true ∧ allSets.find? (setWithin far) = some x →
     setWithin far (s.get PORT_CFG.TX_WIDTH p, widthOf (s.get PORT_CFG.TX_WIDTH p), s.get PORT_CFG.TX_SET p) = false →
     Does (.autoNarrow p) s [.csr, .out, .intc] (fun t =>
       t.get PORT_CFG.TX_WIDTH p = x.1 ∧ t.get PORT_CFG.TX_SET p = x.2.2 ∧ t.out = s.out ++ [.report 0x080D] ∧
           t.on PORT_INT_STATUS.WIDTH p = true)) ∧
  (∀ (s : State) (p : Fin 16) (x : Nat × Nat × Nat),
     s.on PORT_CFG.AUTO_WIDEN p = true →
     allSets.find? (fun x => decide (widthOf (s.get PORT_CFG.TX_WIDTH p) < x.2.1) && setWithin (s.get PORT_STATUS.FAR_RX_LANES p)
         x) = some x →
     Does (.autoWiden p) s [.csr, .out, .intc] (fun t =>
       t.get PORT_CFG.TX_WIDTH p = x.1 ∧ t.get PORT_CFG.TX_SET p = x.2.2 ∧ t.out = s.out ++ [.report 0x080E] ∧
           t.on PORT_INT_STATUS.WIDTH p = true)) ∧
  (∀ (s : State) (p : Fin 16),
     Does (.trainTimeout p) s [.csr, .out, .intc, .line] (fun t =>
       (s.inFrame p = true → t = s) ∧
       (s.inFrame p = false → t.get PORT_STATUS.ALIGN_STATE p = 4 ∧ t.on PORT_INT_STATUS.TRAIN_FAIL p = true ∧
           t.out = s.out ++ [.report 0x080F])))

/-- The next sealed chunk of a ready flow toward a reachable site takes the flow's code and codewords, is written with its
header to retention, joins the retained chunks, and its shards join the line queues; a chunk asked for again is sent from
retention with its send count one higher. A flow without enough ports for its code is held with 0x091E, which is reported once.
-/
def Obligations.ChunkMessages : Prop :=
  (∀ (s : State) (j : Fin 128) (peer : Fin 16) (c : SealedChunk) (k m a : Nat),
     let h := s.readBytes c.hdr 44
     let pay := s.readBytes c.data (fieldAt h 24 4 + 16)
     let f := s.flow j peer
     let count := ceilDiv (64 + pay.length) (k * 8192)
     let len := count * k * 8192
     let hd := h ++ le 4 f.nextCw ++ le 4 count ++ le 1 (min c.sendCount 255) ++ zeros 7
     let r : Retained := ⟨j, peer, hdrStep hd, hdrChunk hd, hdrFrog hd, a, len, f.nextCw, count, k, m, c.ctx, c.slot, false⟩
     s.xportReady = true ∧ s.reaches j peer = true ∧ s.xport.resend.any (fun r => r.1 == j.val && r.2.1 == peer.val) = false →
     s.xport.sealed.find? (fun c => c.entry == j.val && c.peer == peer.val) = some c ∧ s.codeFor (s.usable peer).length = some (k,
         m) →
     s.openSent j peer + count ≤ 2 ^ 30 ∧ (s.inflight peer = 0 ∨ s.inflight peer + len ≤ s.windowNow peer) ∧
         s.retainAlloc len = some a →
     Does (.chunkMessageForm j peer) s [.csr, .mem, .poison, .out, .intc, .sched, .xport] (fun t =>
       t.xport.retained = s.xport.retained ++ [r] ∧ t.xport.sealed = s.xport.sealed.erase c ∧
       t.readBytes a len = padTo len (hd ++ le 4 (crc32c hd) ++ pay) ∧ OtherBytes a len s t ∧
       (t.flow j peer).nextCw = (f.nextCw + count) % 2 ^ 32 ∧ (t.flow j peer).lastCode = some (k, m) ∧
       ((s.on GRP_CTRL.ROLE && decide (s.get GRP_STATUS.SHADOW_STATE < 3)) = false →
           t.sched.shards.length = s.sched.shards.length + count * (k + m)))) ∧
  (∀ (s : State) (j : Fin 128) (peer : Fin 16) (q : Nat × Nat × Nat × Nat) (r : Retained) (k m a : Nat),
     let n := 64 + fieldAt (s.readBytes r.addr 64) 24 4 + 16
     let count := ceilDiv n (k * 8192)
     let len := count * k * 8192
     let u : State := { s with xport := { s.xport with retained := s.xport.retained.erase r } }
     s.xportReady = true ∧ s.reaches j peer = true ∧ s.xport.resend.find? (fun r => r.1 == j.val && r.2.1 == peer.val) = some q →
     s.xport.retained.find? (fun r => r.entry == j.val && r.peer == peer.val && r.step == q.2.2.1 && r.chunk == q.2.2.2) = some r →
     s.codeFor (s.usable peer).length = some (k, m) ∧ u.openSent j peer + count ≤ 2 ^ 30 ∧ u.retainAlloc len = some a →
     Does (.chunkMessageForm j peer) s [.csr, .mem, .poison, .out, .intc, .sched, .xport] (fun t =>
       t.xport.resend = s.xport.resend.erase q ∧ t.xport.retained.length = s.xport.retained.length ∧
       (t.flow j peer).nextCw = ((s.flow j peer).nextCw + count) % 2 ^ 32 ∧
           fieldAt (t.readBytes a len) 52 1 = min (fieldAt (s.readBytes r.addr 64) 52 1 + 1) 255)) ∧
  (∀ (s : State) (j : Fin 128) (peer : Fin 16),
     s.xportReady = true ∧ s.reaches j peer = true ∧ s.xport.resend.any (fun r => r.1 == j.val && r.2.1 == peer.val) = false →
     s.xport.sealed.any (fun c => c.entry == j.val && c.peer == peer.val) = true ∧
         (s.codeFor (s.usable peer).length).isNone = true →
     Does (.chunkMessageForm j peer) s [.csr, .out, .intc, .xport] (fun t =>
       t.xport = { s.xport with heldFlows := if (j.val,
           peer.val) ∈ s.xport.heldFlows then s.xport.heldFlows else s.xport.heldFlows ++ [(j.val, peer.val)] } ∧
       t.out = s.out ++ (if (j.val, peer.val) ∈ s.xport.heldFlows then [] else [.report 0x091E])))

/-- A shard whose job, tenant, source or destination does not fit is refused with 0x0924. A data shard of an open codeword with
a valid body is staged under its index and its transmit time and arrival are kept; a repeated shard and one with a wrong body
are discarded and counted. A control shard with a valid body waits in staging to be opened. A yarn without a whole shard gives
nothing. -/
def Obligations.ShardsReceived : Prop :=
  (∀ (s u : State) (p : Fin 16) (y : Fin 80) (b : Bytes),
     s.xportReady = true ∧ s.takeShard p y = (some b, u) ∧ (u.shardFlow p y b).isNone = true →
     Does (.shardReceived p y) s [.csr, .out, .xport, .line] (fun t =>
       t.out = s.out ++ [.report 0x0924] ∧ t.get XPORT_ERR_LOG.REASON = 0x0924 ∧ t.get XPORT_ERR_LOG.PORT = p ∧
           t.get XPORT_ERR_LOG.JOB_ID = fieldAt b 8 2 ∧
       t.xport = u.xport ∧ t.line = u.line)) ∧
  (∀ (s u : State) (p : Fin 16) (y : Fin 80) (b : Bytes) (j : Nat) (sp : Bool),
     let src := fieldAt b 5 1 % 16
     let v := (u.putFlow j src { (u.flow j src) with newest := some (fieldAt b 16 4, u.mono) }).measure src p (fieldAt b 16 4)
     let seq := fieldAt b 12 4
     let k := fieldAt b 4 1 % 32
     let m := fieldAt b 4 1 / 32
     let x := fieldAt b 3 1 % 16
     s.xportReady = true ∧ s.takeShard p y = (some b, u) ∧ u.shardFlow p y b = some j ∧ getBits (fieldAt b 2 1) 4 2 ≠ 2 →
     (v.flow j src).discards (getBits (fieldAt b 2 1) 4 2) k m x seq (fieldAt b 10 2) = false ∧
         crc32c (b.drop 32) = fieldAt b 24 4 →
     v.stageRoom = some sp ∧ v.badPorts src = 0 ∧ 1 < k ∧
         (v.flow j src).openCws.all (fun c => c.seq != seq || c.shards == []) = true →
     Does (.shardReceived p y) s [.csr, .mem, .poison, .out, .intc, .myk, .xport, .line] (fun t =>
       (t.flow j src).openCws.any (fun c => c.seq == seq && c.k == k && c.m == m && c.shards == [(x, b.drop 32)]) = true ∧
       (t.flow j src).newest = (v.flow j src).newest ∧ t.get XPORT_DROP_COUNT.DISCARD = v.get XPORT_DROP_COUNT.DISCARD)) ∧
  (∀ (s u : State) (p : Fin 16) (y : Fin 80) (b : Bytes) (j : Nat),
     let src := fieldAt b 5 1 % 16
     let v := (u.putFlow j src { (u.flow j src) with newest := some (fieldAt b 16 4, u.mono) }).measure src p (fieldAt b 16 4)
     s.xportReady = true ∧ s.takeShard p y = (some b, u) ∧ u.shardFlow p y b = some j ∧ getBits (fieldAt b 2 1) 4 2 ≠ 2 →
     (v.flow j src).discards (getBits (fieldAt b 2 1) 4 2) (fieldAt b 4 1 % 32) (fieldAt b 4 1 / 32) (fieldAt b 3 1 % 16) (fieldAt
         b 12 4) (fieldAt b 10 2) = true →
     Does (.shardReceived p y) s [.csr, .mem, .poison, .out, .intc, .myk, .xport, .line] (fun t =>
       t.get XPORT_DROP_COUNT.DISCARD = satAdd XPORT_DROP_COUNT.DISCARD.w (v.get XPORT_DROP_COUNT.DISCARD) 1 ∧ t.xport = v.xport)) ∧
  (∀ (s u : State) (p : Fin 16) (y : Fin 80) (b : Bytes) (j a : Nat),
     let src := fieldAt b 5 1 % 16
     let v := (u.putFlow j src { (u.flow j src) with newest := some (fieldAt b 16 4, u.mono) }).measure src p (fieldAt b 16 4)
     let n := fieldAt b 10 2
     s.xportReady = true ∧ s.takeShard p y = (some b, u) ∧ u.shardFlow p y b = some j ∧ getBits (fieldAt b 2 1) 4 2 = 2 →
     48 ≤ n ∧ n ≤ 8192 ∧ crc32c (b.drop 32) = fieldAt b 24 4 ∧ v.stageAlloc b.length = some a ∧ a + b.length ≤ hostBase →
     Does (.shardReceived p y) s [.csr, .mem, .poison, .out, .intc, .myk, .xport, .line] (fun t =>
       t.xport.ctrlIn = v.xport.ctrlIn ++ [⟨j, src, a, b.length⟩] ∧ t.readBytes a b.length = b ∧ OtherBytes a b.length v t)) ∧
  (∀ (s u : State) (p : Fin 16) (y : Fin 80),
     s.xportReady = true ∧ s.takeShard p y = (none, u) →
     Does (.shardReceived p y) s [.csr, .xport, .line] (fun t =>
       t = u))

/-- A codeword still short at the end of its window, and a NACKed one not decoded in time, are NACKed and counted; the NACK
waits for the flow's next ACK, which is sent at once when it is full. An ACK interval sends an ACK on each flow with something
to report. A received ACK clears the control messages it names, sets the credit, samples the round-trip time and releases the
chunks acknowledged. A port returns to use; PORT_STATE is sent to each peer, and one received that is newer sets the peer's port
classes. A control message not acknowledged in time is sent again. -/
def Obligations.FlowRepair : Prop :=
  (∀ (s : State) (j : Fin 128) (peer : Fin 16) (cw : BitVec 32) (c : OpenCw),
     let f := s.flow j peer
     let ns := f.nacks ++ [(cw.toNat, maskOf (c.shards.map (·.1)))]
     f.openCws.find? (fun c => c.seq == cw.toNat) = some c ∧ c.nacked = false ∧ c.cut = false →
     Does (.shardWindowExpiry j peer cw) s [.csr, .mem, .poison, .xport] (fun t =>
       t.get XPORT_RETX_COUNT.NACKED = satAdd XPORT_RETX_COUNT.NACKED.w (s.get XPORT_RETX_COUNT.NACKED) 1 ∧
           OtherRegs [XPORT_RETX_COUNT.addr 0 0] s t ∧
       (t.flow j peer).openCws = f.openCws.map (fun x => if x = c then { c with nacked := true } else x) ∧
       ((mergeNacks ns).length < 16 ∧ f.acks.length < 64 → (t.flow j peer).nacks = ns ∧ (t.flow j peer).ackCount = f.ackCount) ∧
       (16 ≤ (mergeNacks ns).length ∨ 64 ≤ f.acks.length → (t.flow j peer).ackCount = f.ackCount + 1))) ∧
  (∀ (s : State) (j : Fin 128) (peer : Fin 16) (cw : BitVec 32) (c : OpenCw),
     let f := s.flow j peer
     let ns := f.nacks ++ [(cw.toNat, maskOf (c.shards.map (·.1)))]
     f.openCws.find? (fun c => c.seq == cw.toNat) = some c ∧ c.nacked = true ∧ s.reaches j peer = true →
     (mergeNacks ns).length < 16 ∧ f.acks.length < 64 →
     Does (.nackRepeatExpiry j peer cw) s [.csr, .mem, .poison, .xport] (fun t =>
       t.get XPORT_RETX_COUNT.NACKED = satAdd XPORT_RETX_COUNT.NACKED.w (s.get XPORT_RETX_COUNT.NACKED) 1 ∧
           (t.flow j peer).nacks = ns)) ∧
  (∀ (s : State),
     s.xportReady = true →
     Does (.ackInterval) s [.mem, .poison, .xport] (fun t =>
       (∀ f ∈ s.xport.flows, (f.2.nacks ≠ [] ∨ f.2.acks ≠ [] ∨ f.2.advanced = true) →
           (t.flow f.1.1 f.1.2).ctrlOut.any (fun c => c.ctype == 1) = true ∧ (t.flow f.1.1 f.1.2).advanced = false) ∧
       ((s.xport.flows.all (fun f => f.2.nacks == [] && f.2.acks == [] && !f.2.advanced)) = true → t = s))) ∧
  (∀ (s : State) (j : Fin 129) (site : Fin 16) (c : CtrlIn),
     let b := padTo 664 c.body
     let f := s.flow j site
     let sample := (s.stamp + 2 ^ 33 - fieldAt b 12 4 - fieldAt b 16 4) % 2 ^ 32
     (s.takeMail j site 1).map (·.1) = some c →
     Does (.ackReceived j site) s [.csr, .out, .intc, .sched, .xport] (fun t =>
       (t.flow j site).ctrlOut = f.ctrlOut.filter (fun m => m.own || decide ((fieldAt b 4 4 + 2 ^ 32 - 1 - m.seq) % 2 ^ 32 ≥ 2 ^
           31)) ∧
       (t.flow j site).credit = (if j.val = 128 then f.credit else some (fieldAt b 8 4)) ∧ t.xport.inbox = s.xport.inbox.erase c ∧
       t.get PEER_RTT.RTT_NS site = (if site.val ∈ s.xport.rttKnown then (7 * s.get PEER_RTT.RTT_NS site + sample) / 8 else sample)
           % 2 ^ PEER_RTT.RTT_NS.w ∧
       (j.val ≠ 128 ∧ s.on JOB_CTRL.RETAIN_STEP j = false → ∀ i < min (fieldAt b 21 1) 64,
         t.retains j site (fieldAt b (24 + 8 * min (fieldAt b 20 1) 16 + 8 * i) 4) (fieldAt b (28 + 8 * min (fieldAt b 20 1) 16 + 8
           * i) 4) = false))) ∧
  (∀ (s : State) (peer port : Fin 16),
     (s.get PEER_STATUS.LATE_RX peer).testBit port = true ∧ (s.get PEER_STATUS.DOWN_RX peer).testBit port = false →
     2 * s.skewOf peer port ≤ s.get XPORT_SW.WINDOW_US * 1000 →
     Does (.portReuseExpiry peer port) s [.csr, .mem, .poison, .out, .intc, .xport] (fun t =>
       (t.get PEER_STATUS.LATE_RX peer).testBit port = false ∧ (t.get PEER_STATUS.DOWN_RX peer).testBit port = false ∧
       Sent s t (.report 0x091C) ∧ t.on XPORT_INT_STATUS.PORT_CLASS = true)) ∧
  (∀ (s : State),
     s.xportReady = true →
     Does (.portStatePeriodic) s [.csr, .mem, .poison, .xport] (fun t =>
       (∀ i ∈ s.peers, (t.flow 128 i).ctrlNext = ((s.flow 128 i).ctrlNext + 1) % 2 ^ 32 ∧
           (t.flow 128 i).ctrlOut.length = (s.flow 128 i).ctrlOut.length + 1) ∧
       (∀ i ∈ s.peers, (t.flow 128 i).ctrlOut.any (fun c => c.ctype == 8 && fieldAt c.body 0 2 == s.get PEER_STATUS.DOWN_RX i) =
           true))) ∧
  (∀ (s : State) (site : Fin 16) (c : CtrlIn),
     let last := lookupD s.xport.portStateSeq site.val 0
     (s.takeMail 128 site 8).map (·.1) = some c →
     Does (.portStateReceived site) s [.csr, .xport] (fun t =>
       (last < c.seq + 1 → t.peerBad site = (fieldAt c.body 0 2 ||| fieldAt c.body 2 2)) ∧ (c.seq + 1 ≤ last →
           t.peerBad site = s.peerBad site) ∧
       t.xport.inbox = s.xport.inbox.erase c ∧ lookupD t.xport.portStateSeq site.val 0 = max last (c.seq + 1))) ∧
  (∀ (s : State) (j : Fin 129) (peer : Fin 16) (seq : BitVec 32) (c : CtrlOut),
     (s.flow j peer).ctrlOut.find? (fun c => c.seq == seq.toNat && !c.own && !c.waiting) = some c ∧ c.addr ≠ 0 →
     (s.on GRP_CTRL.ROLE && decide (s.get GRP_STATUS.SHADOW_STATE < 3)) = false →
     Does (.controlRepeatExpiry j peer seq) s [.sched] (fun t =>
       t.sched.shards = s.sched.shards ++ ((s.usable peer).take 2).map (fun p =>
         ⟨p, s.flowQueue j peer, s.flowTenant j, true, false, finishShard (s.readBytes c.addr (64 + c.body.length))⟩))) ∧
  (∀ (s : State) (j : Fin 129) (peer : Fin 16) (seq : BitVec 32) (c : CtrlOut),
     (s.flow j peer).ctrlOut.find? (fun c => c.seq == seq.toNat && !c.own && !c.waiting) = some c ∧ c.addr = 0 →
     Does (.controlRepeatExpiry j peer seq) s [.mem, .poison, .xport] (fun t =>
       (t.flow j peer).ctrlOut.length = (s.flow j peer).ctrlOut.length ∧
           (t.flow j peer).ctrlOut.any (fun x => x.seq == seq.toNat && x.body == c.body) = true))

/-- A KEEPALIVE goes to each peer on each IN_FRAME port; one received that echoes a time we sent is contact. Clean marks of the
present step are held. A chunk asked for that is neither held nor producible is answered with 0x0921, and such an answer leaves
the chunk owed and the step stalled. A REBUILD is answered with the chunks held and a list of those not held; a REBUILD_NOT_HELD
during a takeover ends it with 0x1109. A FLOW_RESET starts the flow at the sequence it names. -/
def Obligations.FlowMessages : Prop :=
  (∀ (s : State),
     s.xportReady = true →
     Does (.keepaliveSend) s [.mem, .poison, .xport] (fun t =>
       (∀ i ∈ s.peers, (t.flow 128 i).keepCount = (s.flow 128 i).keepCount + ((List.range 16).filter s.inFrame).length) ∧
       (∀ i ∈ s.peers, t.xport.keepSent.contains (i, s.stamp) = true))) ∧
  (∀ (s : State) (site : Fin 16) (c : CtrlIn),
     (s.takeMail 128 site 7).map (·.1) = some c →
     Does (.keepaliveReceived site) s [.xport] (fun t =>
       lookupD t.xport.keepGot site.val (0, 0) = (fieldAt c.body 0 4, s.mono) ∧ t.xport.inbox = s.xport.inbox.erase c ∧
       t.xport.contact = (if s.xport.keepSent.contains (site.val,
           fieldAt c.body 4 4) then assocPut s.xport.contact site.val s.mono else s.xport.contact))) ∧
  (∀ (s : State) (j : Fin 128) (site : Fin 16) (c : CtrlIn),
     (s.takeMail j site 2).map (·.1) = some c ∧ (s.stepRec j).cleanWait = false →
     Does (.cleanReceived j site) s [.csr, .mem, .poison, .out, .intc, .myk, .xport] (fun t =>
       (∀ i < min (min (fieldAt c.body 0 2) 1000) ((c.body.length - 2) / 8), fieldAt c.body (2 + 8 * i) 4 = (s.stepRec j).step →
           fieldAt c.body (6 + 8 * i) 4 ∈ (t.stepRec j).clean) ∧
       t.xport.inbox = s.xport.inbox.erase c ∧ (t.stepRec j).state = (s.stepRec j).state)) ∧
  (∀ (s : State) (j : Fin 128) (site : Fin 16) (c : CtrlIn),
     let step := fieldAt c.body 0 4
     let r := s.stepRec j
     (s.takeMail j site 6).map (·.1) = some c ∧ fieldAt c.body 9 2 ≠ 0x0921 ∧ s.retains j site step (fieldAt c.body 4 4) = false →
     step ≠ r.step ∨ r.state = 0 ∨ 0x0A < r.state →
     Does (.chunkResendReceived j site) s [.mem, .poison, .xport] (fun t =>
       Placed t j site 6 (le 4 step ++ le 4 (fieldAt c.body 4 4) ++ le 1 (fieldAt c.body 8 1) ++ le 2 0x0921) ∧
           t.xport.inbox = s.xport.inbox.erase c)) ∧
  (∀ (s : State) (j : Fin 128) (site : Fin 16) (c : CtrlIn),
     let step := fieldAt c.body 0 4
     let r := s.stepRec j
     (s.takeMail j site 6).map (·.1) = some c ∧ fieldAt c.body 9 2 ≠ 0x0921 ∧ s.retains j site step (fieldAt c.body 4 4) = false →
     step = r.step ∧ 1 ≤ r.state ∧ r.state ≤ 0x0A →
     Does (.chunkResendReceived j site) s [.xport] (fun t =>
       t.xport.again.contains (j.val, site.val, fieldAt c.body 4 4, 1) = true ∧ t.xport.inbox = s.xport.inbox.erase c)) ∧
  (∀ (s : State) (j : Fin 128) (site : Fin 16) (c : CtrlIn),
     (s.takeMail j site 6).map (·.1) = some c ∧ fieldAt c.body 9 2 = 0x0921 →
     Does (.chunkResendReceived j site) s [.csr, .mem, .poison, .out, .intc, .myk, .xport] (fun t =>
       (t.stepRec j).stalled = true ∧ (t.stepRec j).stalledSites = 1 <<< site.val ∧ t.on XPORT_INT_STATUS.CHUNK_OWED = true ∧
           Sent s t (.report 0x0917) ∧
       t.xport.owed.contains ⟨j, site, fieldAt c.body 0 4, fieldAt c.body 4 4, fieldAt c.body 8 1, false, true⟩ = true)) ∧
  (∀ (s : State) (j : Fin 128) (site : Fin 16) (c : CtrlIn),
     let b := c.body
     let r := s.stepRec j
     let idx := (if fieldAt b 11 4 = 0 then List.range (r.chunks (fieldAt b 4 1)) else (List.range (min (fieldAt b 11 4) (r.chunks
         (fieldAt b 4 1) - fieldAt b 7 4))).map (· + fieldAt b 7 4))
     let owes := idx.filterMap (s.rebuildOwes r site (fieldAt b 4 1))
     (s.takeMail j site 10).map (·.1) = some c ∧ (fieldAt b 5 2).testBit s.localSite = true →
     owes ≠ [] ∧ owes.length ≤ 64 ∧ owes.all (fun x => !s.retains j site (fieldAt b 0 4) x) = true →
     Does (.rebuildReceived j site) s [.csr, .mem, .poison, .out, .intc, .xport] (fun t =>
       Placed t j site 11 (le 4 (fieldAt b 0 4) ++ le 1 (fieldAt b 4 1) ++ le 1 owes.length ++ owes.flatMap (le 4)) ∧
       t.out = s.out ++ [.report 0x0921] ∧ t.on XPORT_INT_STATUS.REBUILD = true)) ∧
  (∀ (s : State) (j : Fin 128) (site : Fin 16) (c : CtrlIn),
     (s.takeMail j site 11).map (·.1) = some c ∧ s.get GRP_STATUS.SHADOW_STATE = 3 →
     Does (.rebuildNotHeldReceived j site) s [.csr, .mem, .poison, .out, .intc, .myk, .xport] (fun t =>
       t.get GRP_STATUS.SHADOW_STATE = 4 ∧ t.on GRP_INT_STATUS.TAKEOVER = true ∧ (t.stepRec j).state = 0x12 ∧
           (t.stepRec j).reason = 0x1109 ∧
       t.get GRP_ERR_STEP.STEP = fieldAt c.body 0 4 ∧ t.get GRP_ERR_STEP.CHUNK_ID = fieldAt c.body 6 4)) ∧
  (∀ (s : State) (j : Fin 128) (site : Fin 16) (c : CtrlIn),
     (s.takeMail j site 11).map (·.1) = some c ∧ s.get GRP_STATUS.SHADOW_STATE ≠ 3 →
     Does (.rebuildNotHeldReceived j site) s [.xport] (fun t =>
       t.xport = { s.xport with inbox := s.xport.inbox.erase c })) ∧
  (∀ (s : State) (j : Fin 129) (site : Fin 16) (c : CtrlIn),
     let n := fieldAt c.body 0 4
     (s.takeMail j site 12).map (·.1) = some c →
     Does (.flowResetReceived j site) s [.csr, .out, .intc, .xport] (fun t =>
       (t.flow j site).cum = n ∧ (t.flow j site).nextAsm = n ∧ (t.flow j site).openCws = [] ∧ (t.flow j site).decoded = [] ∧
           (t.flow j site).part = none ∧
       t.xport.retained = s.xport.retained.filter (fun r => !(r.entry == j.val && r.peer == site.val)) ∧
           t.xport.rttKnown = s.xport.rttKnown.erase site.val ∧
       t.out = s.out ++ [.report 0x0922] ∧ t.on XPORT_INT_STATUS.REBUILD = true ∧ t.xport.inbox = s.xport.inbox.erase c))

/-- A SEAL whose checks pass takes the active slot's counter, which is never taken again, and writes the ciphertext and tag of
its plaintext under the slot's key and the nonce of salt and counter, bound to its header; the sealed chunk waits for the
transport. A control message is sealed in place. A seal whose counter has reached the durable mark waits and changes nothing
else; a refused one completes with its reason; a pipeline whose copies differ stops and the record waits to run again. A swatch
has no effect beyond its completion. -/
def Obligations.SealRecords : Prop :=
  (∀ (s u : State) (w : Work) (f : Option (Fin 32)) (c c' : Ctx) (k n : Nat),
     s.ciphCheck 1 w = none ∧ w.body 0 1 = 1 ∧ s.recordCtx w false = (.ok c, u) ∧ u.readsPoison (ciphAccess 1 w) = false →
     u.nonce (ciphCtx w) (ciphLen w) c = .take k n c' ∧ f.filter (fun x => u.pipeOn x) = none ∧ ciphControl w = false →
     Does (.seal w f) s [.csr, .mem, .poison, .out, .freeCtr, .intc, .myk, .hostq, .ciph, .xport] (fun t =>
       (∃ f ∈ t.hostq.finished, f.work = w ∧ f.res.error = false ∧ f.res.engine = n) ∧ (c'.slot k).ctr = n + 1 ∧
       ((c'.slot k).ctr ≤ s.warnLimits.1 ∧ (c'.slot k).bytes ≤ s.warnLimits.2 →
           (t.ciph.resident.find? (fun x => x.1 == ciphCtx w)).map (·.2) = some c') ∧
       (s.entryOf w.job).all (fun j => t.xport.sealed.any (fun x => x.entry == j && x.peer == c'.peer && x.hdr == ciphHdr w &&
           x.data == ciphOut w && x.slot == k)) = true)) ∧
  (∀ (s : State) (w : Work) (f : Option (Fin 32)) (c c' : Ctx) (k n : Nat),
     let aad := s.readBytes (ciphHdr w) 28 ++ le 2 (ciphCtx w) ++ le 1 k ++ s.readBytes (ciphHdr w + 31) 1
     let e := gcmSeal (c'.slot k).key (nonceBytes (c'.slot k).salt n) aad (s.readBytes (ciphIn w) (ciphLen w))
     s.ciphCheck 1 w = none ∧ w.body 0 1 = 1 ∧ (ciphCtx w, c) ∈ s.ciph.resident ∧ (s.recordCtx w false).1 = .ok c ∧
         s.ciph.resident.length ≤ 1024 →
     s.readsPoison (ciphAccess 1 w) = false ∧ s.nonce (ciphCtx w) (ciphLen w) c = .take k n c' ∧ f = none ∧ ciphControl w = false →
     (ciphIn w + ciphLen w ≤ ciphHdr w + 28 ∨ ciphHdr w + 44 ≤ ciphIn w) ∧ ciphHdr w + 44 ≤ hostBase ∧
         ciphOut w + ciphLen w + 16 ≤ hostBase →
     (c'.slot k).ctr ≤ s.warnLimits.1 ∧ (c'.slot k).bytes ≤ s.warnLimits.2 →
     Does (.seal w f) s [.csr, .mem, .poison, .out, .freeCtr, .intc, .myk, .hostq, .ciph, .xport] (fun t =>
       t.readBytes (ciphOut w) (ciphLen w + 16) = e.1 ++ e.2 ∧
       SameOutside [(ciphHdr w + 28, 3), (ciphHdr w + 32, 12), (ciphOut w, ciphLen w + 16)] s t)) ∧
  (∀ (s : State) (w : Work) (f : Option (Fin 32)) (c c' : Ctx) (k n : Nat),
     let a := ciphHdr w
     let e := gcmSeal (c'.slot k).key (nonceBytes (c'.slot k).salt n) (s.readBytes (a + 2) 14 ++ s.readBytes (a + 32) 4)
         (s.readBytes (a + 48) (ciphLen w))
     s.ciphCheck 1 w = none ∧ (ciphCtx w, c) ∈ s.ciph.resident ∧ (s.recordCtx w false).1 = .ok c ∧ s.ciph.resident.length ≤ 1024 →
     s.readsPoison (ciphAccess 1 w) = false ∧ s.nonce (ciphCtx w) (ciphLen w) c = .take k n c' ∧ f = none ∧ ciphControl w = true ∧
         a + ciphLen w + 64 ≤ hostBase →
     (c'.slot k).ctr ≤ s.warnLimits.1 ∧ (c'.slot k).bytes ≤ s.warnLimits.2 →
     Does (.sealControl w f) s [.csr, .mem, .poison, .out, .freeCtr, .intc, .myk, .hostq, .sched, .ciph, .xport] (fun t =>
       t.readBytes (a + 36) 12 = nonceBytes (c'.slot k).salt n ∧ t.readBytes (a + 48) (ciphLen w + 16) = e.1 ++ e.2 ∧
           OtherBytes (a + 36) (ciphLen w + 28) s t ∧
       (∃ f ∈ t.hostq.finished, f.work = w ∧ f.res.error = false ∧ f.res.engine = n))) ∧
  (∀ (s u : State) (w : Work) (f : Option (Fin 32)) (c : Ctx),
     s.ciphCheck 1 w = none ∧ w.body 0 1 = 1 ∧ s.recordCtx w false = (.ok c, u) ∧ u.readsPoison (ciphAccess 1 w) = false →
     u.nonce (ciphCtx w) (ciphLen w) c = .wait →
     Does (.seal w f) s [.csr, .mem, .poison, .ciph] (fun t =>
       t.ciph = { u.ciph with waiting := addOnce u.ciph.waiting w } ∧ t.mem = u.mem ∧ t.csr = u.csr)) ∧
  (∀ (s u : State) (w : Work) (f : Option (Fin 32)) (c : Ctx) (r : Nat),
     s.ciphCheck 1 w = none ∧ w.body 0 1 = 1 ∧ s.recordCtx w false = (.ok c, u) ∧ u.readsPoison (ciphAccess 1 w) = false →
     u.nonce (ciphCtx w) (ciphLen w) c = .refuse r →
     Does (.seal w f) s [.csr, .mem, .poison, .out, .intc, .hostq, .ciph] (fun t =>
       Ended t w r true false ∧ t.mem = u.mem ∧ t.ciph = u.ciph ∧ t.get CIPH_ERR_LOG.REASON = r ∧
       t.get CIPH_COUNT.REFUSED = satAdd CIPH_COUNT.REFUSED.w (u.get CIPH_COUNT.REFUSED) 1)) ∧
  (∀ (s : State) (w : Work) (f : Option (Fin 32)) (r : Nat),
     s.ciphCheck 1 w = some r ∧ r ≠ 0x0A02 ∧ (w.body 0 1 ≠ 0x0F ∨ w.body 1 1 ≠ 0) →
     Does (.seal w f) s [.csr, .out, .hostq] (fun t =>
       Ended t w r true false ∧ t.out = s.out ++ [.report r] ∧ t.get CIPH_ERR_LOG.REASON = r)) ∧
  (∀ (s : State) (w : Work) (f : Option (Fin 32)),
     w.body 0 1 = 0x0F ∧ w.body 1 1 = 0 →
     Does (.seal w f) s [.csr, .hostq] (fun t =>
       Ended t w 0 false false)) ∧
  (∀ (s u : State) (w : Work) (p : Fin 32) (c c' : Ctx) (k n : Nat),
     s.ciphCheck 1 w = none ∧ w.body 0 1 = 1 ∧ s.recordCtx w false = (.ok c, u) ∧ u.readsPoison (ciphAccess 1 w) = false →
     u.nonce (ciphCtx w) (ciphLen w) c = .take k n c' ∧ u.pipeOn p = true →
     Does (.seal w (some p)) s [.csr, .mem, .poison, .out, .freeCtr, .intc, .myk, .hlth, .ciph, .rerun] (fun t =>
       t.rerun = s.rerun ++ [w] ∧ p.val ∈ t.ciph.stopped ∧ t.on CIPH_INT_STATUS.UNIT_FAULT = true ∧ Sent s t (.report 0x0A11)))

/-- An OPEN whose nonce names a valid slot and whose tag verifies writes the plaintext at its output address and completes; the
chunk counts as opened. One whose tag does not verify writes nothing, completes with 0x0A0B and counts TAG_FAIL; one whose salt
names no valid slot completes with 0x0A0C. A refused OPEN completes with its reason. -/
def Obligations.OpenRecords : Prop :=
  (∀ (s u : State) (w : Work) (c : Ctx) (k : Nat) (p : Bytes),
     let a := ciphHdr w
     let iv := s.readBytes (a + 32) 12
     s.ciphCheck 2 w = none ∧ s.recordCtx w true = (.ok c, u) ∧ u.mem = s.mem ∧ s.readsPoison (ciphAccess 2 w) = false ∧
         ciphControl w = false →
     c.slotBySalt (fieldAt iv 0 4) = some k ∧ s.readLe (a + 30) 1 % 2 = k ∧ s.xport.rxChunks.any (fun x => x.addr == a) = false →
     gcmOpen (c.slot k).key iv (s.readBytes a 32) (s.readBytes (ciphIn w) (ciphLen w)) (s.readBytes (ciphIn w + ciphLen w) 16) =
         some p ∧ ciphOut w + p.length ≤ hostBase →
     Does (.cipherOpen w none) s [.csr, .mem, .poison, .out, .intc, .hostq, .ciph] (fun t =>
       t.readBytes (ciphOut w) p.length = p ∧ OtherBytes (ciphOut w) p.length s t ∧ Ended t w 0 false false ∧
       (∃ f ∈ t.hostq.finished, f.work = w ∧ f.res.engine = k))) ∧
  (∀ (s u : State) (w : Work) (c : Ctx) (k : Nat),
     let a := ciphHdr w
     let iv := s.readBytes (a + 32) 12
     s.ciphCheck 2 w = none ∧ s.recordCtx w true = (.ok c, u) ∧ u.mem = s.mem ∧ s.readsPoison (ciphAccess 2 w) = false ∧
         ciphControl w = false →
     c.slotBySalt (fieldAt iv 0 4) = some k ∧ s.readLe (a + 30) 1 % 2 = k ∧ s.xport.rxChunks.any (fun x => x.addr == a) = false →
     gcmOpen (c.slot k).key iv (s.readBytes a 32) (s.readBytes (ciphIn w) (ciphLen w)) (s.readBytes (ciphIn w + ciphLen w) 16) =
         none →
     Does (.cipherOpen w none) s [.csr, .mem, .poison, .out, .intc, .hostq, .ciph] (fun t =>
       SameMemory s t ∧ Ended t w 0x0A0B true false ∧ Sent s t (.report 0x0A0B) ∧ t.on CIPH_INT_STATUS.TAG_FAIL = true ∧
       t.get CIPH_COUNT.TAG_FAIL = satAdd CIPH_COUNT.TAG_FAIL.w (u.get CIPH_COUNT.TAG_FAIL) 1)) ∧
  (∀ (s u : State) (w : Work) (c : Ctx) (f : Option (Fin 32)),
     let a := ciphHdr w
     s.ciphCheck 2 w = none ∧ s.recordCtx w true = (.ok c, u) ∧ u.mem = s.mem ∧ s.readsPoison (ciphAccess 2 w) = false ∧
         ciphControl w = false →
     (c.slotBySalt (fieldAt (s.readBytes (a + 32) 12) 0 4)).isNone = true ∧ s.xport.rxChunks.any (fun x => x.addr == a) = false →
     Does (.cipherOpen w f) s [.csr, .mem, .poison, .out, .intc, .hostq, .ciph] (fun t =>
       SameMemory s t ∧ Ended t w 0x0A0C true false ∧
           t.get CIPH_COUNT.SLOT_MISS = satAdd CIPH_COUNT.SLOT_MISS.w (u.get CIPH_COUNT.SLOT_MISS) 1)) ∧
  (∀ (s : State) (w : Work) (f : Option (Fin 32)) (r : Nat),
     s.ciphCheck 2 w = some r ∧ r ≠ 0x0A02 →
     Does (.cipherOpen w f) s [.csr, .out, .hostq] (fun t =>
       Ended t w r true false ∧ t.out = s.out ++ [.report r] ∧ t.get CIPH_ERR_LOG.REASON = r))

/-- SAVE writes a context's image, RESTORE_CONTEXT installs a checked image with each transmit counter at the greater of the
image's and the ledger's mark, INVALIDATE clears a context and its store entry. QUOTE writes the quote over the verifier's nonce
under the next sequence number. A durable ledger write applies its mark; a failed one holds its seals and reports 0x0A0A.
CIPH_EXTEND extends registers 12 to 15 by the hash of the register and the data, and refuses others with 0x0A19. -/
def Obligations.ContextsAndLedger : Prop :=
  (∀ (s u : State) (w : Work) (c : Ctx),
     s.ciphCheck 3 w = none ∧ s.keyOpCtx w = (.ok c, u) ∧ ciphOut w + 160 ≤ hostBase →
     ciphWrapped w = true ∨ s.on CIPH_SECURITY.CLEAR_EXPORT_EN = true →
     Does (.save w) s [.csr, .mem, .poison, .out, .intc, .hostq, .ciph] (fun t =>
       t.readBytes (ciphOut w) 160 = ctxImage (ciphWrapped w) (ciphCtx w) (u.ciph.wrapCtr + 1) c ∧ Ended t w 0 false false ∧
       t.ciph.wrapCtr = u.ciph.wrapCtr + b2n (ciphWrapped w) ∧ OtherBytes (ciphOut w) 160 u t)) ∧
  (∀ (s : State) (w : Work),
     s.ciphCheck 3 w = none ∧ ciphWrapped w = false ∧ s.on CIPH_SECURITY.CLEAR_EXPORT_EN = false →
     Does (.save w) s [.csr, .out, .intc, .hostq] (fun t =>
       Ended t w 0x0A0F true false ∧ t.out = s.out ++ [.report 0x0A0F])) ∧
  (∀ (s : State) (w : Work) (id : Nat) (c : Ctx),
     s.ciphCheck 4 w = none ∧ s.readsPoison (ciphAccess 4 w) = false ∧ (ciphWrapped w = true ∨
         s.on CIPH_SECURITY.CLEAR_EXPORT_EN = true) →
     readImage (ciphWrapped w) (s.readBytes (ciphHdr w) 160) = some (id, c) ∧ id < s.get CIPH_STORE_SIZE.CONTEXTS ∧
         id ∉ s.ciph.valid →
     max (s.ledger id 0).gen (s.ledger id 1).gen ≤ c.newest ∧ c.tenant = w.tenant ∧ s.quotaOk c.tenant = true →
     Does (.restoreContext w) s [.csr, .mem, .poison, .out, .intc, .hostq, .ciph] (fun t =>
       id ∈ t.ciph.valid ∧ Ended t w 0 false false ∧ (t.ctx id).map (fun d => (d.tenant, d.rx, d.peer, d.job)) = some (c.tenant,
           c.rx, c.peer, c.job) ∧
       (t.ctx id).map (fun d => d.slot0.ctr) = some (if c.rx || !c.slot0.valid then c.slot0.ctr else max c.slot0.ctr (s.ledger id
           0).h) ∧
       (t.ctx id).map (fun d => d.slot1.ctr) = some (if c.rx || !c.slot1.valid then c.slot1.ctr else max c.slot1.ctr (s.ledger id
           1).h))) ∧
  (∀ (s u : State) (w : Work) (c : Ctx),
     s.ciphCheck 5 w = none ∧ s.keyOpCtx w = (.ok c, u) →
     Does (.invalidate w) s [.csr, .mem, .poison, .out, .intc, .hostq, .ciph] (fun t =>
       t.ciph.valid = u.ciph.valid.erase (ciphCtx w) ∧ t.ciph.resident = u.ciph.resident.filter (fun x => x.1 ≠ ciphCtx w) ∧
           Ended t w 0 false false ∧
       t.readBytes (s.storeAddr (ciphCtx w)) 160 = zeros 160 ∧ OtherBytes (s.storeAddr (ciphCtx w)) 160 u t)) ∧
  (∀ (s : State) (w : Work),
     let b := s.quoteBody (s.readBytes (ciphHdr w) 32) (s.ciph.quoteSeq + 1)
     s.coreWaits true = false ∧ s.ciphCheck 6 w = none ∧ s.readsPoison (ciphAccess 6 w) = false ∧ ciphOut w + 30560 ≤ hostBase →
     Does (.quote w) s [.csr, .mem, .poison, .out, .intc, .hostq, .ciph] (fun t =>
       t.ciph = { s.ciph with quoteSeq := s.ciph.quoteSeq + 1 } ∧ Ended t w 0 false false ∧
           t.readBytes (ciphOut w) 768 = b.take 768)) ∧
  (∀ (s : State) (c : Fin 65536) (k : Fin 2) (h : Nat),
     (s.ledger c k).writing = some h ∧ s.ciph.waiting.any (fun w => ciphCtx w == c.val) = false →
     Does (.ledgerWriteDurable c k) s [.ciph] (fun t =>
       (t.ledger c k).h = h ∧ (t.ledger c k).writing = none ∧ (t.ledger c k).gen = (s.ledger c k).gen ∧
       t.ciph.resident = s.ciph.resident ∧ t.ciph.waiting = s.ciph.waiting)) ∧
  (∀ (s : State) (c : Fin 65536) (k : Fin 2) (h : Nat),
     (s.ledger c k).writing = some h →
     Does (.ledgerRetry c k false) s [.csr, .mem, .poison, .out, .freeCtr, .intc, .myk, .hlth, .ciph] (fun t =>
       (t.ledger c k).failed = true ∧ (t.ledger c k).h = (s.ledger c k).h ∧ (t.ledger c k).writing = some h ∧
           t.get CIPH_ERR_LOG.REASON = 0x0A0A ∧
       t.on CIPH_INT_STATUS.LEDGER = true ∧ Sent s t (.report 0x0A0A))) ∧
  (∀ (s : State) (m : Master) (tag : BitVec 10) (v : Word),
     let w := forced v [(CIPH_EXTEND_CMD.GO, 1)]
     let r := CIPH_EXTEND_CMD.REGISTER.of w.toNat
     let d := sha256 (s.measurement r ++ (List.range 4).flatMap (fun k => le 8 (s.rdReg CIPH_EXTEND_DATA k).toNat))
     Writable s m CIPH_EXTEND_CMD 0 w ∧ 12 ≤ r ∧ r ≤ 15 →
     Does (.ciphExtend m tag v) s [.csr, .out, .intc] (fun t =>
       (∀ k < 4, t.get CIPH_MEASURE.VALUE r k = fieldAt d (8 * k) 8) ∧ Answered t m tag.toNat 0 0 [] ∧
       (∀ q < 16, q ≠ r → ∀ k < 4, t.get CIPH_MEASURE.VALUE q k = s.get CIPH_MEASURE.VALUE q k))) ∧
  (∀ (s : State) (m : Master) (tag : BitVec 10) (v : Word),
     let w := forced v [(CIPH_EXTEND_CMD.GO, 1)]
     let r := CIPH_EXTEND_CMD.REGISTER.of w.toNat
     Writable s m CIPH_EXTEND_CMD 0 w ∧ (r < 12 ∨ 15 < r) →
     Does (.ciphExtend m tag v) s [.csr, .out, .intc] (fun t =>
       (∀ q < 16, ∀ k < 4, t.get CIPH_MEASURE.VALUE q k = s.get CIPH_MEASURE.VALUE q k) ∧ Answered t m tag.toNat 1 0x0A19 []))

/-- At the initiator of a STEADY pair, an interval or a retry generates a key pair and sends an OFFER of the next generation. An
offer not accepted in time is abandoned with 0x0A15. The initiator of a SWITCHED pair sends CONFIRM again. A SWITCHED pair whose
old transmit slot protects nothing any more clears it and sends RETIRE. While the security core restarts, each of these and each
key mail waits for it. -/
def Obligations.RekeyTimers : Prop :=
  (∀ (s : State) (e : Fin 129) (peer : Fin 16),
     s.coreWaits true = false ∧ s.initiates peer = true ∧ s.on PEER_CFG.ENABLE peer = true ∧ s.rekeyState e peer = 0 →
     (e.val = 128 ∨ s.on JOB_CTRL.ENABLE e = true) ∧ s.on CIPH_CAP.KEM_OK = true →
     s.get CIPH_TENANT.REKEY_INTERVAL_S (s.flowTenant e) ≠ 0 ∨ (s.ctx (s.pairTx e peer)).isNone = true →
     Does (.rekeyInterval e peer) s [.csr, .mem, .poison, .out, .freeCtr, .intc, .myk, .ciph] (fun t =>
       (t.establishing e peer).map (fun y => (y.gen, y.kctx, y.ownRetired, y.peerRetired)) = some (s.pairGen e peer + 1, [], false,
           false) ∧
       lookupD t.ciph.mailOut peer.val 0 = lookupD s.ciph.mailOut peer.val 0 + 1 ∧
       (s.ciph.resident.length < 1023 → t.rekeyState e peer = 1))) ∧
  (∀ (s : State) (e : Fin 129) (peer : Fin 16),
     s.coreWaits true = false ∧ s.initiates peer = true ∧ s.on PEER_CFG.ENABLE peer = true ∧ s.rekeyState e peer = 0 →
     (e.val = 128 ∨ s.on JOB_CTRL.ENABLE e = true) ∧ s.on CIPH_CAP.KEM_OK = true →
     Does (.rekeyRetry e peer) s [.csr, .mem, .poison, .out, .freeCtr, .intc, .myk, .ciph] (fun t =>
       (t.establishing e peer).map (fun y => (y.gen, y.kctx, y.ownRetired, y.peerRetired)) = some (s.pairGen e peer + 1, [], false,
           false) ∧
       lookupD t.ciph.mailOut peer.val 0 = lookupD s.ciph.mailOut peer.val 0 + 1)) ∧
  (∀ (s : State) (e : Fin 129) (peer : Fin 16),
     s.coreWaits true = false ∧ s.rekeyState e peer = 1 →
     Does (.rekeyTimeout e peer) s [.csr, .mem, .poison, .out, .intc, .ciph] (fun t =>
       (t.establishing e peer).isNone = true ∧ Sent s t (.report 0x0A15) ∧ t.on CIPH_INT_STATUS.REKEY = true ∧
       t.get CIPH_KEY_COUNT.REKEY_TIMEOUT = satAdd CIPH_KEY_COUNT.REKEY_TIMEOUT.w (s.get CIPH_KEY_COUNT.REKEY_TIMEOUT) 1)) ∧
  (∀ (s : State) (e : Fin 129) (peer : Fin 16) (y : Establish),
     s.coreWaits true = false ∧ s.establishing e peer = some y ∧ s.rekeyState e peer = 3 ∧ s.initiates peer = true →
     Does (.confirmResend e peer) s [.csr, .mem, .poison, .out, .intc, .myk, .ciph] (fun t =>
       lookupD t.ciph.mailOut peer.val 0 = lookupD s.ciph.mailOut peer.val 0 + 1 ∧ t.ciph.establish = s.ciph.establish ∧
           t.ciph.resident = s.ciph.resident)) ∧
  (∀ (s : State) (e : Fin 129) (peer : Fin 16) (y : Establish) (c : Ctx),
     let id := s.pairTx e peer
     s.coreWaits true = false ∧ s.establishing e peer = some y ∧ s.ctx id = some c ∧ c.rekey = 3 ∧ y.ownRetired = false ∧
         s.slotInUse id (1 - c.active) = false →
     y.peerRetired = false ∧ s.ciph.resident.length < 1024 →
     Does (.oldSlotRetire e peer) s [.csr, .mem, .poison, .out, .intc, .myk, .ciph] (fun t =>
       t.establishing e peer = some { y with ownRetired := true } ∧ t.ctx id = some (c.putSlot (1 - c.active) {}) ∧
       lookupD t.ciph.mailOut peer.val 0 = lookupD s.ciph.mailOut peer.val 0 + 1)) ∧
  (∀ (s : State) (c : Instr) (e : Fin 129) (peer : Fin 16) (env : Bytes),
     s.coreWaits true = true →
     c ∈ [.rekeyInterval e peer, .rekeyTimeout e peer, .rekeyRetry e peer, .confirmResend e peer, .oldSlotRetire e peer,
         .keymailOffer env, .keymailAccept env, .keymailConfirm env, .keymailRetire env, .keymailAbort env, .keymailCert env] →
     Does (c) s [.ctl] (fun t =>
       t.ctl = { s.ctl with waitSec := s.ctl.waitSec ++ [c] }))

/-- Taking an envelope of the awaited type advances the ring's read pointer. One whose signature does not verify is rejected
with 0x0A13 and counted. An accepted OFFER at the responder installs the derived keys, is answered with ACCEPT and makes the
pair RESPONDED; an accepted ACCEPT at the initiator installs and switches them and sends CONFIRM; an accepted CONFIRM switches
the responder; a RETIRE clears the named receive slot; an ABORT for a missing session key is answered with a CERT; a CERT that
passes installs the peer's session key and restarts MAIL_SEQ. The signature functions are opaque (log entry 4), so the outcome
stands in the conclusion. -/
def Obligations.KeyMail : Prop :=
  (∀ (s : State) (e : Nat) (env pk : Bytes) (x : MailEntry),
     let site := fieldAt env 2 1 % 16
     let ok := Config.verify pk (env.take (env.length - 17088)) (env.drop (env.length - 17088))
     s.coreWaits true = false ∧ fieldAt env 1 1 = 1 ∧ s.get CIPH_KMI_PTR.WR_PTR ≠ s.get CIPH_KMI_PTR.RD_PTR ∧
         s.mailForUs env = true →
     s.ciph.peerSession.find? (fun p => p.1 == site) = some (site, pk) ∧ slice env 24 32 = sha256 pk ∧ 64 + 17088 ≤ env.length →
     lookupD s.ciph.mailIn site 0 < fieldAt env 8 8 ∧ s.ciph.resident.length < 1022 ∧ s.entryOf x.job = some e →
     mailEntries (min (fieldAt env 4 2) 24) ((env.take (env.length - 17088)).drop 64) = [x] ∧ s.initiates site = false ∧
         (s.establishing e site).isNone = true →
     s.on CIPH_CAP.KEM_OK = true ∧ (s.ctx (s.pairTx e site)).isNone = true ∧ (s.ctx (s.pairRx e site)).isNone = true ∧
         s.pairRx e site < s.get CIPH_STORE_SIZE.CONTEXTS →
     s.tenantCtxs (s.flowTenant e) + 2 ≤ s.get CIPH_TENANT.CTX_QUOTA (s.flowTenant e) ∧ (s.ledger (s.pairTx e site) 1).gen ≤ x.gen →
     Does (.keymailOffer env) s [.csr, .mem, .poison, .out, .freeCtr, .intc, .myk, .ciph] (fun t =>
       t.get CIPH_KMI_PTR.RD_PTR = (s.get CIPH_KMI_PTR.RD_PTR + 1) % 2 ^ CIPH_KMI_PTR.RD_PTR.w ∧
       (ok = false → t.ciph = s.ciph ∧ Sent s t (.report 0x0A13) ∧
           t.get CIPH_KEY_COUNT.MAIL_REJECT = satAdd CIPH_KEY_COUNT.MAIL_REJECT.w (s.get CIPH_KEY_COUNT.MAIL_REJECT) 1) ∧
       (ok = true → lookupD t.ciph.mailOut site 0 = lookupD s.ciph.mailOut site 0 + 1 ∧
           lookupD t.ciph.mailIn site 0 = fieldAt env 8 8) ∧
       (ok = true → t.rekeyState e site = 2 ∧ (t.establishing e site).map (·.gen) = some x.gen) ∧
       (ok = true → (t.ctx (s.pairTx e site)).map (fun c => (c.slot1.valid, c.slot1.gen)) = some (true, x.gen)))) ∧
  (∀ (s : State) (e : Nat) (env pk : Bytes) (x : MailEntry) (y : Establish),
     let site := fieldAt env 2 1 % 16
     let ok := Config.verify pk (env.take (env.length - 17088)) (env.drop (env.length - 17088))
     s.coreWaits true = false ∧ fieldAt env 1 1 = 2 ∧ s.get CIPH_KMI_PTR.WR_PTR ≠ s.get CIPH_KMI_PTR.RD_PTR ∧
         s.mailForUs env = true →
     s.ciph.peerSession.find? (fun p => p.1 == site) = some (site, pk) ∧ slice env 24 32 = sha256 pk ∧ 64 + 17088 ≤ env.length →
     lookupD s.ciph.mailIn site 0 < fieldAt env 8 8 ∧ s.ciph.resident.length < 1022 ∧ s.entryOf x.job = some e →
     mailEntries (min (fieldAt env 4 2) 24) ((env.take (env.length - 17088)).drop 64) = [x] ∧ s.establishing e site = some y ∧
         y.gen = x.gen ∧ y.dk ≠ [] →
     (s.ctx (s.pairTx e site)).isNone = true ∧ (s.ctx (s.pairRx e site)).isNone = true ∧
         s.pairRx e site < s.get CIPH_STORE_SIZE.CONTEXTS →
     s.tenantCtxs (s.flowTenant e) + 2 ≤ s.get CIPH_TENANT.CTX_QUOTA (s.flowTenant e) ∧ (s.ledger (s.pairTx e site) 1).gen ≤ x.gen →
     Does (.keymailAccept env) s [.csr, .mem, .poison, .out, .freeCtr, .intc, .myk, .ciph] (fun t =>
       t.get CIPH_KMI_PTR.RD_PTR = (s.get CIPH_KMI_PTR.RD_PTR + 1) % 2 ^ CIPH_KMI_PTR.RD_PTR.w ∧
       (ok = false → t.ciph = s.ciph ∧ Sent s t (.report 0x0A13)) ∧
       (ok = true → t.rekeyState e site = 3 ∧ (t.establishing e site).map (fun z => (z.gen, z.dk)) = some (x.gen, [])) ∧
       (ok = true → t.get CIPH_KEY_COUNT.ESTABLISHED = satAdd CIPH_KEY_COUNT.ESTABLISHED.w (s.get CIPH_KEY_COUNT.ESTABLISHED) 1) ∧
       (ok = true → (t.ctx (s.pairTx e site)).map (fun c => (c.active, c.slot1.valid, c.slot1.gen)) = some (1, true, x.gen)))) ∧
  (∀ (s : State) (e : Nat) (env pk : Bytes) (x : MailEntry) (y : Establish) (c : Ctx),
     let site := fieldAt env 2 1 % 16
     let ok := Config.verify pk (env.take (env.length - 17088)) (env.drop (env.length - 17088))
     s.coreWaits true = false ∧ fieldAt env 1 1 = 3 ∧ s.get CIPH_KMI_PTR.WR_PTR ≠ s.get CIPH_KMI_PTR.RD_PTR ∧
         s.mailForUs env = true →
     s.ciph.peerSession.find? (fun p => p.1 == site) = some (site, pk) ∧ slice env 24 32 = sha256 pk ∧ 64 + 17088 ≤ env.length →
     lookupD s.ciph.mailIn site 0 < fieldAt env 8 8 ∧ s.ciph.resident.length < 1022 ∧ s.entryOf x.job = some e ∧
         s.ctx (s.pairTx e site) = some c ∧ c.rekey = 2 →
     mailEntries (min (fieldAt env 4 2) 24) ((env.take (env.length - 17088)).drop 64) = [x] ∧ s.establishing e site = some y ∧
         y.gen = x.gen →
     x.payload = confirmBytes (s.lowKey e site x.gen) y.kctx →
     Does (.keymailConfirm env) s [.csr, .mem, .poison, .out, .intc, .myk, .ciph] (fun t =>
       t.get CIPH_KMI_PTR.RD_PTR = (s.get CIPH_KMI_PTR.RD_PTR + 1) % 2 ^ CIPH_KMI_PTR.RD_PTR.w ∧
       (ok = false → t.ciph = s.ciph ∧ Sent s t (.report 0x0A13)) ∧
       (ok = true → (t.ctx (s.pairTx e site)).map (fun d => (d.active, d.rekey)) = some (1 - c.active, 3)) ∧
       (ok = true → t.get CIPH_KEY_COUNT.ESTABLISHED = satAdd CIPH_KEY_COUNT.ESTABLISHED.w (s.get CIPH_KEY_COUNT.ESTABLISHED) 1))) ∧
  (∀ (s : State) (e : Nat) (env pk : Bytes) (x : MailEntry) (c : Ctx),
     let site := fieldAt env 2 1 % 16
     let ok := Config.verify pk (env.take (env.length - 17088)) (env.drop (env.length - 17088))
     s.coreWaits true = false ∧ fieldAt env 1 1 = 4 ∧ s.get CIPH_KMI_PTR.WR_PTR ≠ s.get CIPH_KMI_PTR.RD_PTR ∧
         s.mailForUs env = true →
     s.ciph.peerSession.find? (fun p => p.1 == site) = some (site, pk) ∧ slice env 24 32 = sha256 pk ∧ 64 + 17088 ≤ env.length →
     lookupD s.ciph.mailIn site 0 < fieldAt env 8 8 ∧ s.ciph.resident.length < 1022 ∧ s.entryOf x.job = some e ∧
         s.ctx (s.pairRx e site) = some c →
     mailEntries (min (fieldAt env 4 2) 24) ((env.take (env.length - 17088)).drop 64) = [x] ∧
         (s.establishing e site).isNone = true →
     c.slot0.valid = true ∧ c.slot0.gen = fieldAt x.payload 0 2 →
     Does (.keymailRetire env) s [.csr, .mem, .poison, .out, .intc, .myk, .ciph] (fun t =>
       t.get CIPH_KMI_PTR.RD_PTR = (s.get CIPH_KMI_PTR.RD_PTR + 1) % 2 ^ CIPH_KMI_PTR.RD_PTR.w ∧
       (ok = false → t.ciph = s.ciph ∧ Sent s t (.report 0x0A13)) ∧
       (ok = true → t.ctx (s.pairRx e site) = some (c.putSlot 0 {}) ∧ Sent s t (.report 0x0A17) ∧
           t.on CIPH_INT_STATUS.REKEY = true) ∧
       (ok = true → t.get CIPH_KEY_COUNT.RETIRED = satAdd CIPH_KEY_COUNT.RETIRED.w (s.get CIPH_KEY_COUNT.RETIRED) 1))) ∧
  (∀ (s : State) (env pk : Bytes),
     let site := fieldAt env 2 1 % 16
     let ok := Config.verify pk (env.take (env.length - 17088)) (env.drop (env.length - 17088))
     s.coreWaits true = false ∧ fieldAt env 1 1 = 5 ∧ s.get CIPH_KMI_PTR.WR_PTR ≠ s.get CIPH_KMI_PTR.RD_PTR ∧
         s.mailForUs env = true →
     s.ciph.peerSession.find? (fun p => p.1 == site) = some (site, pk) ∧ slice env 24 32 = sha256 pk ∧ 64 + 17088 ≤ env.length →
     lookupD s.ciph.mailIn site 0 < fieldAt env 8 8 ∧ fieldAt env 72 2 = 0x0A13 →
     Does (.keymailAbort env) s [.csr, .mem, .poison, .out, .intc, .myk, .ciph] (fun t =>
       t.get CIPH_KMI_PTR.RD_PTR = (s.get CIPH_KMI_PTR.RD_PTR + 1) % 2 ^ CIPH_KMI_PTR.RD_PTR.w ∧
       (ok = false → t.ciph = s.ciph ∧ Sent s t (.report 0x0A13)) ∧
       (ok = true → lookupD t.ciph.mailOut site 0 = lookupD s.ciph.mailOut site 0 + 1 ∧
           lookupD t.ciph.mailIn site 0 = fieldAt env 8 8))) ∧
  (∀ (s : State) (env : Bytes),
     let site := fieldAt env 2 1 % 16
     let a := assocPut s.ciph.peerSession site (slice env 128 32)
     let b := assocPut s.ciph.mailIn site (fieldAt env 8 8)
     s.coreWaits true = false ∧ fieldAt env 1 1 = 6 ∧ s.get CIPH_KMI_PTR.WR_PTR ≠ s.get CIPH_KMI_PTR.RD_PTR ∧
         s.mailForUs env = true →
     lookupD s.ciph.mailIn site 0 < fieldAt env 8 8 →
     Does (.keymailCert env) s [.csr, .out, .intc, .ciph] (fun t =>
       t.get CIPH_KMI_PTR.RD_PTR = (s.get CIPH_KMI_PTR.RD_PTR + 1) % 2 ^ CIPH_KMI_PTR.RD_PTR.w ∧
       (s.certOk site env = false → t.ciph = s.ciph ∧ t.out = s.out ++ [.report 0x0A13] ∧ t.on CIPH_INT_STATUS.MAIL_REJECT = true) ∧
       (s.certOk site env = true → t.ciph = { s.ciph with peerSession := a, mailIn := b }) ∧
       (s.certOk site env = true → t.out = s.out)))

/-- A counter whose event is listed for its mode is enabled; otherwise it stays disabled with 0x0F01. SNAPSHOT_GO asks for a
snapshot at the next tick and a release clears HOLD and what was latched. A write of WINDOW_NS restarts the windows and clears
every peak; at a window's end each of the 48 meters takes its bytes into LAST, counts a window, and raises its peak, and the
next window begins. -/
def Obligations.PerformanceMonitor : Prop :=
  (∀ (s : State) (m : Master) (tag : BitVec 10) (v : Word),
     Writable s m PMON_SNAP 0 (forced v [(PMON_SNAP.GO, 1)]) →
     Does (.snapshotGo m tag v) s [.csr, .out, .intc, .pmon] (fun t =>
       t.pmon.snapDue = true ∧ t.on PMON_SNAP.GO = true ∧ OtherRegs [PMON_SNAP.addr 0 0] s t ∧ Answered t m tag.toNat 0 0 [])) ∧
  (∀ (s : State) (m : Master) (tag : BitVec 10) (v : Word),
     let w := forced v [(PMON_SNAP.HOLD, 1)]
     Writable s m PMON_SNAP 0 w ∧ PMON_SNAP.GO.of w.toNat = 0 →
     Does (.snapshotRelease m tag v) s [.csr, .out, .intc, .pmon] (fun t =>
       t.on PMON_SNAP.HOLD = false ∧ t.pmon.latched = [] ∧ t.pmon.snapDue = s.pmon.snapDue ∧ OtherRegs [PMON_SNAP.addr 0 0] s t ∧
       Answered t m tag.toNat 0 0 [])) ∧
  (∀ (s : State) (m : Master) (tag : BitVec 10) (n : Fin 512) (v : Word),
     let w := (⟨PMON_EVSEL, n, 0, 15⟩ : Hit).merge (s.rdReg PMON_EVSEL n) (forced v [(PMON_EVSEL.EN, 1)])
     Writable s m PMON_EVSEL n (forced v [(PMON_EVSEL.EN, 1)]) →
     s.on PMON_EVSEL.EN n = true ∨ pmonEventOk (PMON_EVSEL.EVENT.of w.toNat) (w.getLsbD 1) = true →
     Does (.counterEnable m tag n v) s [.csr, .out, .intc] (fun t =>
       t.rdReg PMON_EVSEL n = w ∧ t.on PMON_EVSEL.EN n = true ∧ OtherRegs [PMON_EVSEL.addr n 0] s t ∧ Answered t m tag.toNat 0 0 [])) ∧
  (∀ (s : State) (m : Master) (tag : BitVec 10) (n : Fin 512) (v : Word),
     let w := (⟨PMON_EVSEL, n, 0, 15⟩ : Hit).merge (s.rdReg PMON_EVSEL n) (forced v [(PMON_EVSEL.EN, 1)])
     Writable s m PMON_EVSEL n (forced v [(PMON_EVSEL.EN, 1)]) ∧ s.on PMON_EVSEL.EN n = false →
     pmonEventOk (PMON_EVSEL.EVENT.of w.toNat) (w.getLsbD 1) = false →
     Does (.counterEnable m tag n v) s [.csr, .out, .intc] (fun t =>
       t.get PMON_ERR_LOG.REASON = 0x0F01 ∧ t.get PMON_ERR_LOG.INDEX = n ∧ OtherRegs [PMON_ERR_LOG.addr 0 0] s t ∧
       Answered t m tag.toNat 1 0x0F01 [])) ∧
  (∀ (s : State) (m : Master) (tag : BitVec 10) (v : Word),
     Writable s m PMON_BW_WINDOW 0 v →
     Does (.bwWindowWrite m tag v) s [.csr, .out, .intc, .pmon] (fun t =>
       t.get PMON_BW_WINDOW.WINDOW_NS = PMON_BW_WINDOW.WINDOW_NS.of v.toNat ∧ (∀ k < 48, t.rdReg PMON_BW_PEAK k = 0) ∧
       t.pmon.meterTx = [] ∧ t.pmon.meterRx = [] ∧ Answered t m tag.toNat 0 0 [])) ∧
  (∀ (s : State),
     s.on PMON_STATUS.READY = true →
     Does (.bwWindowEnd) s [.csr, .pmon] (fun t =>
       (∀ k < 48, t.get PMON_BW_TX.LAST k = lookupD s.pmon.meterTx k 0 % 2 ^ PMON_BW_TX.LAST.w) ∧
       (∀ k < 48, t.get PMON_BW_RX.LAST k = lookupD s.pmon.meterRx k 0 % 2 ^ PMON_BW_RX.LAST.w) ∧
       (∀ k < 48, t.get PMON_BW_TX.WINDOWS k = (s.get PMON_BW_TX.WINDOWS k + 1) % 2 ^ PMON_BW_TX.WINDOWS.w) ∧
       (∀ k < 48, t.get PMON_BW_RX.WINDOWS k = (s.get PMON_BW_RX.WINDOWS k + 1) % 2 ^ PMON_BW_RX.WINDOWS.w) ∧
       (∀ k < 48, lookupD s.pmon.meterTx k 0 < 2 ^ 40 →
           t.get PMON_BW_PEAK.TX_KIB k = max (s.get PMON_BW_PEAK.TX_KIB k) (lookupD s.pmon.meterTx k 0 / 1024)) ∧
       (∀ k < 48, lookupD s.pmon.meterRx k 0 < 2 ^ 40 →
           t.get PMON_BW_PEAK.RX_KIB k = max (s.get PMON_BW_PEAK.RX_KIB k) (lookupD s.pmon.meterRx k 0 / 1024)) ∧
       t.pmon.meterTx = [] ∧ t.pmon.meterRx = []))

/-- GRP_SHADOW.GO at a spare that is OFF, for a position with a member entry, begins SEEDING of that position; otherwise it is
refused, with 0x0048 where the feature is missing and 0x110E else. STOP returns the spare to OFF, and a partner stops gating.
The end of the seed copy makes the spare SHADOWING and the partner shadowed; an expired lag ends it at the partner. A takeover
of a position that is not mirrored ends STANDING with 0x1107, a refused one changes nothing but its log. When every chunk owed
is held the spare stands in; a straggler swap relieves the partner. -/
def Obligations.SpareCommands : Prop :=
  (∀ (s : State) (m : Master) (tag : BitVec 10) (v : Word),
     let w := forced v [(GRP_SHADOW.GO, 1)]
     Writable s m GRP_SHADOW 0 w ∧ GRP_SHADOW.STOP.of w.toNat = 0 ∧ s.boot.features.testBit 7 = true ∧ s.on GRP_CTRL.ROLE = true →
     s.get GRP_STATUS.SHADOW_STATE = 0 ∧ (s.member (GRP_SHADOW.POSITION.of w.toNat)).isSome = true →
     Does (.shadowGo m tag v) s [.csr, .out, .intc, .grp] (fun t =>
       t.get GRP_STATUS.SHADOW_STATE = 1 ∧ t.get GRP_STATUS.PARTNER_POS = GRP_SHADOW.POSITION.of w.toNat ∧
       t.grp.own = [] ∧ t.grp.theirs = [] ∧ t.grp.flow = [] ∧ t.grp.shadowSteps = 0 ∧
       t.on GRP_INT_STATUS.SHADOW = true ∧ Sent s t (.report 0x1105) ∧ Answered t m tag.toNat 0 0 [])) ∧
  (∀ (s : State) (m : Master) (tag : BitVec 10) (v : Word),
     let w := forced v [(GRP_SHADOW.GO, 1)]
     Writable s m GRP_SHADOW 0 w ∧ GRP_SHADOW.STOP.of w.toNat = 0 →
     s.boot.features.testBit 7 = false ∨ s.on GRP_CTRL.ROLE = false ∨ s.get GRP_STATUS.SHADOW_STATE ≠ 0 →
     Does (.shadowGo m tag v) s [.csr, .out, .intc] (fun t =>
       t.get GRP_STATUS.SHADOW_STATE = s.get GRP_STATUS.SHADOW_STATE ∧
       Answered t m tag.toNat 1 (if s.boot.features.testBit 7 then 0x110E else 0x0048) [])) ∧
  (∀ (s : State) (m : Master) (tag : BitVec 10) (v : Word),
     let w := forced v [(GRP_SHADOW.STOP, 1)]
     Writable s m GRP_SHADOW 0 w ∧ GRP_SHADOW.GO.of w.toNat = 0 →
     (s.get GRP_STATUS.SHADOW_STATE = 1 ∨ s.get GRP_STATUS.SHADOW_STATE = 2) ∨ s.grp.shadowed = true →
     Does (.shadowStop m tag v) s [.csr, .mem, .poison, .out, .intc, .xport, .grp] (fun t =>
       (s.get GRP_STATUS.SHADOW_STATE = 1 ∨ s.get GRP_STATUS.SHADOW_STATE = 2 → t.get GRP_STATUS.SHADOW_STATE = 0) ∧
       t.grp.shadowed = false ∧ t.on GRP_INT_STATUS.SHADOW = true ∧ Sent s t (.report 0x110A) ∧ Answered t m tag.toNat 0 0 [])) ∧
  (∀ (s : State),
     s.on GRP_STATUS.READY = true ∧ s.on GRP_CTRL.ROLE = true ∧ s.get GRP_STATUS.SHADOW_STATE = 1 →
     Does (.seedCopyEnd) s [.csr] (fun t =>
       t.get GRP_STATUS.SHADOW_STATE = 2 ∧ t.get GRP_STATUS.PARTNER_POS = s.get GRP_STATUS.PARTNER_POS ∧
           OtherRegs [GRP_STATUS.addr 0 0] s t)) ∧
  (∀ (s : State),
     s.on GRP_STATUS.READY = true ∧ s.on GRP_CTRL.ROLE = false →
     Does (.seedCopyEnd) s [.grp] (fun t =>
       t.grp = { s.grp with shadowed := true, items := [], flowAcked := [] })) ∧
  (∀ (s : State),
     s.grp.shadowed = true →
     Does (.mirrorLagExpiry) s [.csr, .mem, .poison, .out, .intc, .xport, .grp] (fun t =>
       t.grp = { s.grp with shadowed := false, items := [], flowAcked := [] } ∧ t.on GRP_INT_STATUS.SHADOW = true ∧
           Sent s t (.report 0x110A))) ∧
  (∀ (s : State) (m : Master) (tag : BitVec 10) (v : Word),
     let w := forced v [(GRP_TAKEOVER.GO, 1)]
     let pos := GRP_TAKEOVER.POSITION.of w.toNat
     Writable s m GRP_TAKEOVER 0 w ∧ s.on GRP_CTRL.ROLE = true ∧ s.get GRP_STATUS.SHADOW_STATE < 2 ∧ (s.member pos).isSome = true →
     Does (.takeoverGo m tag v) s [.csr, .mem, .poison, .out, .freeCtr, .intc, .myk, .pmon, .ciph, .xport, .fab, .grp] (fun t =>
       t.get GRP_STATUS.SHADOW_STATE = 4 ∧ t.get GRP_ERR_LOG.REASON = 0x1107 ∧ t.on GRP_INT_STATUS.TAKEOVER = true ∧
       t.grp.swap = false ∧ Answered t m tag.toNat 0 0 [])) ∧
  (∀ (s : State) (m : Master) (tag : BitVec 10) (v : Word),
     let w := forced v [(GRP_TAKEOVER.GO, 1)]
     let pos := GRP_TAKEOVER.POSITION.of w.toNat
     Writable s m GRP_TAKEOVER 0 w ∧ (s.on GRP_CTRL.ROLE = false ∨ s.get GRP_STATUS.SHADOW_STATE = 4) →
     Does (.takeoverGo m tag v) s [.csr, .out, .intc] (fun t =>
       t.get GRP_STATUS.SHADOW_STATE = s.get GRP_STATUS.SHADOW_STATE ∧ t.get GRP_ERR_LOG.REASON = 0x110E ∧
           t.get GRP_ERR_LOG.POSITION = pos ∧
       t.on GRP_INT_STATUS.SHADOW = true ∧ Answered t m tag.toNat 1 0x110E [])) ∧
  (∀ (s : State),
     s.get GRP_STATUS.SHADOW_STATE = 3 →
     Does (.takeoverChunksHeld) s [.csr, .mem, .poison, .out, .intc, .sched, .xport] (fun t =>
       t.get GRP_STATUS.SHADOW_STATE = 4 ∧ t.get GRP_ERR_LOG.REASON = (if s.grp.swap then 0x110C else 0x1106) ∧
       t.on GRP_INT_STATUS.TAKEOVER = true)) ∧
  (∀ (s : State),
     s.on GRP_STATUS.READY = true ∧ s.on GRP_CTRL.ROLE = false ∧ s.grp.shadowed = true →
     Does (.stragglerSwap) s [.csr, .out, .intc, .grp, .ctl, .line] (fun t =>
       t.grp = { s.grp with shadowed := false, items := [], flowAcked := [] } ∧ t.get GRP_ERR_LOG.REASON = 0x110C ∧
       t.on GRP_INT_STATUS.TAKEOVER = true))

/-- A group message of a position's endpoint is taken; one of an unknown endpoint is counted with 0x1101. A message from a
silent position clears its mark. Heartbeats go to the spare or to every member; silence past its limit marks the position. A
mirrored item is acknowledged and a chunk of the present step is held; an acknowledged item is done; FLOW keeps the partner's
flow state and is sent from it. Equal digests count a match, different ones a mismatch with 0x110D, which the partner answers
with a poison notice; a failure ends shadowing at the partner; the last report gives the median. -/
def Obligations.GroupMessages : Prop :=
  (∀ (s : State) (ep : BitVec 24) (b : Bytes),
     s.on GRP_STATUS.READY = true ∧ (s.positionOf ep.toNat).isNone = true →
     Does (.heartbeat ep b) s [.csr, .out] (fun t =>
       t.get GRP_COUNT.BAD_MSG = satAdd GRP_COUNT.BAD_MSG.w (s.get GRP_COUNT.BAD_MSG) 1 ∧ t.get GRP_ERR_LOG.REASON = 0x1101 ∧
       t.out = s.out ++ [.report 0x1101] ∧ OtherRegs [GRP_COUNT.addr 0 0, GRP_ERR_LOG.addr 0 0] s t)) ∧
  (∀ (s : State) (ep : BitVec 24) (b : Bytes) (pos : Nat),
     s.on GRP_STATUS.READY = true ∧ s.positionOf ep.toNat = some pos ∧ 32 ≤ b.length ∧ fieldAt b 0 1 = 1 →
     s.on GRP_CTRL.ROLE = true ∧ (s.get GRP_SILENT.SILENT).testBit pos = true →
     Does (.heartbeat ep b) s [.csr, .out, .intc] (fun t =>
       (t.get GRP_SILENT.SILENT).testBit pos = false ∧ (∀ k < 64, k ≠ pos →
           (t.get GRP_SILENT.SILENT).testBit k = (s.get GRP_SILENT.SILENT).testBit k) ∧
       t.get GRP_ERR_LOG.REASON = 0x1103 ∧ t.get GRP_ERR_LOG.POSITION = pos ∧ t.on GRP_INT_STATUS.SILENT = true ∧
           Sent s t (.report 0x1103))) ∧
  (∀ (s : State) (ep : BitVec 24) (b : Bytes),
     s.on GRP_STATUS.READY = true ∧ (s.positionOf ep.toNat).isSome = true ∧ 32 ≤ b.length ∧ fieldAt b 0 1 = 7 ∧
         s.get GRP_SILENT.SILENT = 0 →
     Does (.bind ep b) s [] (fun t =>
       t = s)) ∧
  (∀ (s : State),
     let d := s.get GRP_CFG.SPARE_EP
     s.on GRP_STATUS.READY = true ∧ s.on GRP_CTRL.ROLE = false →
     Does (.heartbeatSend) s [.fab, .grp] (fun t =>
       (t.fabTx (s.ownFlow d 4)).pkts = (s.fabTx (s.ownFlow d 4)).pkts ++ [(s.groupPacket d { type := 1 }).1] ∧
           t.grp.seq = s.grp.seq + 1)) ∧
  (∀ (s : State),
     s.on GRP_STATUS.READY = true ∧ s.on GRP_CTRL.ROLE = true →
     Does (.heartbeatSend) s [.fab, .grp] (fun t =>
       t.grp.seq = s.grp.seq + s.activeMembers.length ∧
       (∀ p ∈ s.activeMembers, (s.member p).all (fun e => (t.fabTx (s.ownFlow e.1 4)).pkts.any (fun x =>
         decide ((s.fabTx (s.ownFlow e.1 4)).pkts.length < (t.fabTx (s.ownFlow e.1 4)).pkts.length) && fieldAt x.payload 0 1 == 1
           && x.opcode == 6)) = true))) ∧
  (∀ (s : State) (pos : Fin 64),
     s.on GRP_STATUS.READY = true ∧ s.on GRP_CTRL.ROLE = true ∧ pos.val < s.get GRP_CFG.GROUP_SIZE →
     (s.get GRP_SILENT.SILENT).testBit pos = false →
     Does (.failDetectExpiry pos) s [.csr, .out, .intc] (fun t =>
       (t.get GRP_SILENT.SILENT).testBit pos = true ∧ t.get GRP_ERR_LOG.REASON = 0x1102 ∧ t.get GRP_ERR_LOG.POSITION = pos ∧
       t.on GRP_INT_STATUS.SILENT = true ∧ Sent s t (.report 0x1102))) ∧
  (∀ (s : State) (ep : BitVec 24) (b : Bytes) (pos : Nat),
     s.on GRP_STATUS.READY = true ∧ s.positionOf ep.toNat = some pos ∧ 32 ≤ b.length ∧ fieldAt b 0 1 = 2 →
     s.on GRP_CTRL.ROLE = false ∧ s.grp.shadowed = true →
     Does (.fail ep b) s [.csr, .mem, .poison, .out, .intc, .xport, .grp] (fun t =>
       t.grp = { s.grp with shadowed := false, items := [], flowAcked := [] } ∧ t.on GRP_INT_STATUS.FAIL = true ∧
           Sent s t (.report 0x1104))) ∧
  (∀ (s : State) (ep : BitVec 24) (b : Bytes) (pos : Nat),
     s.on GRP_STATUS.READY = true ∧ s.positionOf ep.toNat = some pos ∧ 32 ≤ b.length ∧ fieldAt b 0 1 = 2 →
     s.on GRP_CTRL.ROLE = true ∧ s.on GRP_CTRL.AUTO_TAKEOVER = false →
     Does (.fail ep b) s [.csr, .out, .intc] (fun t =>
       t.get GRP_ERR_LOG.REASON = 0x1104 ∧ t.get GRP_ERR_LOG.POSITION = pos ∧ t.on GRP_INT_STATUS.FAIL = true ∧
       t.get GRP_STATUS.SHADOW_STATE = s.get GRP_STATUS.SHADOW_STATE)) ∧
  (∀ (s : State) (ep : BitVec 24) (b : Bytes) (pos j : Nat),
     s.on GRP_STATUS.READY = true ∧ s.positionOf ep.toNat = some pos ∧ 32 ≤ b.length ∧ fieldAt b 0 1 = 3 ∧
         s.get GRP_SILENT.SILENT = 0 →
     s.get GRP_STATUS.SHADOW_STATE = 2 ∧ s.get GRP_STATUS.PARTNER_POS = pos ∧ s.entryOf (gJob b) = some j →
     gChunk b ≠ 0 ∧ chunkKind (gChunk b) = 1 ∧ gStep b = (s.stepRec j).step ∧ (s.stepRec j).stalled = false →
     Does (.mirror ep b) s [.xport, .fab, .grp] (fun t =>
       (t.stepRec j).held = addOnce (s.stepRec j).held (gChunk b) ∧ t.grp.seq = s.grp.seq + 1 ∧
       (t.fabTx (s.ownFlow ep.toNat 4)).pkts.length = (s.fabTx (s.ownFlow ep.toNat 4)).pkts.length + 1)) ∧
  (∀ (s : State) (ep : BitVec 24) (b : Bytes) (pos : Nat) (x : MirrorItem),
     s.on GRP_STATUS.READY = true ∧ s.positionOf ep.toNat = some pos ∧ 32 ≤ b.length ∧ fieldAt b 0 1 = 4 ∧
         s.get GRP_SILENT.SILENT = 0 →
     s.grp.items.find? (fun x => x.job == gJob b && x.step == gStep b && x.chunk == gChunk b && x.site % 16 == gSite b && x.order
         == gOrder b && !x.done) = some x →
     Does (.mirrorAck ep b) s [.mem, .poison, .xport, .grp] (fun t =>
       (x.ackTo = none → t.grp.items = s.grp.items.map (fun y => if y = x then { x with done := true } else y)) ∧
       (x.ackTo ≠ none → t.grp.items = s.grp.items.erase x))) ∧
  (∀ (s : State) (ep : BitVec 24) (b : Bytes) (pos : Nat),
     s.on GRP_STATUS.READY = true ∧ s.positionOf ep.toNat = some pos ∧ 32 ≤ b.length ∧ fieldAt b 0 1 = 8 ∧
         s.get GRP_SILENT.SILENT = 0 →
     s.get GRP_STATUS.SHADOW_STATE ≠ 0 ∧ s.get GRP_STATUS.PARTNER_POS = pos →
     Does (.flow ep b) s [.grp] (fun t =>
       t.grp.flow.length = fieldAt b 24 4 ∧
       t.grp.flow = (List.range (fieldAt b 24 4)).map (fun i => (fieldAt b (32 + 16 * i) 2, fieldAt b (36 + 16 * i) 4,
           fieldAt b (40 + 16 * i) 4, fieldAt b (44 + 16 * i) 4)))) ∧
  (∀ (s : State),
     let d := s.get GRP_CFG.SPARE_EP
     s.grp.shadowed = true →
     Does (.flowSend) s [.fab, .grp] (fun t =>
       (t.fabTx (s.ownFlow d 4)).pkts = (s.fabTx (s.ownFlow d 4)).pkts ++
         [(s.groupPacket d { type := 8, len := s.flowEntries.length, body := s.flowEntries.flatten }).1] ∧
       t.grp.seq = s.grp.seq + 1)) ∧
  (∀ (s : State) (ep : BitVec 24) (b : Bytes) (sf pf : Bool) (pos : Nat) (x : Digest),
     let d : Digest := ⟨gJob b, gStep b, gChunk b, slice b 32 16, sf, pf⟩
     s.on GRP_STATUS.READY = true ∧ s.positionOf ep.toNat = some pos ∧ 32 ≤ b.length ∧ fieldAt b 0 1 = 5 ∧
         s.get GRP_SILENT.SILENT = 0 →
     s.get GRP_STATUS.SHADOW_STATE = 2 ∧ s.get GRP_STATUS.PARTNER_POS = pos ∧ s.grp.own.find? d.same = some x ∧ x.value = d.value →
     Does (.digest ep b sf pf) s [.csr, .grp] (fun t =>
       t.get GRP_DIGEST_COUNT.MATCH = (s.get GRP_DIGEST_COUNT.MATCH + 1) % 2 ^ 32 ∧ t.grp.own = s.grp.own.erase x ∧
       OtherRegs [GRP_DIGEST_COUNT.addr 0 0] s t)) ∧
  (∀ (s : State) (ep : BitVec 24) (b : Bytes) (pos : Nat) (x : Digest),
     let d : Digest := ⟨gJob b, gStep b, gChunk b, slice b 32 16, false, false⟩
     s.on GRP_STATUS.READY = true ∧ s.positionOf ep.toNat = some pos ∧ 32 ≤ b.length ∧ fieldAt b 0 1 = 5 ∧
         s.get GRP_SILENT.SILENT = 0 →
     s.get GRP_STATUS.SHADOW_STATE = 2 ∧ s.get GRP_STATUS.PARTNER_POS = pos ∧ s.grp.own.find? d.same = some x ∧ x.value ≠ d.value →
     Does (.digest ep b false false) s [.csr, .out, .intc, .fab, .grp] (fun t =>
       t.get GRP_DIGEST_COUNT.MISMATCH = satAdd 16 (s.get GRP_DIGEST_COUNT.MISMATCH) 1 ∧
           t.get GRP_DIGEST_COUNT.INCONCLUSIVE = satAdd 16 (s.get GRP_DIGEST_COUNT.INCONCLUSIVE) 1 ∧
       t.get GRP_ERR_LOG.REASON = 0x110D ∧ t.on GRP_INT_STATUS.DIGEST = true ∧ t.grp.own = s.grp.own.erase x ∧
       t.get GRP_STATUS.SHADOW_STATE = 2)) ∧
  (∀ (s : State) (ep : BitVec 24) (b : Bytes) (pos j : Nat),
     s.on GRP_STATUS.READY = true ∧ s.positionOf ep.toNat = some pos ∧ 32 ≤ b.length ∧ fieldAt b 0 1 = 9 ∧
         s.get GRP_SILENT.SILENT = 0 →
     s.entryOf (gJob b) = some j ∧ (s.stepRec j).step < gStep b →
     diff16 (s.get STCH_NOTICE_PTR.WR_PTR) (s.get STCH_NOTICE_PTR.RD_PTR) < 2 ^ s.get STCH_NOTICE_PTR.SIZE_LOG2 →
     Does (.mismatch ep b) s [.csr, .mem, .poison, .out, .intc, .myk, .stch, .xport, .fab, .grp] (fun t =>
       t.stch.noticeSeq = s.stch.noticeSeq + 1 ∧ t.get STCH_NOTICE_PTR.WR_PTR = (s.get STCH_NOTICE_PTR.WR_PTR + 1) % 2 ^ 16 ∧
       Sent s t (.report 0x0C10) ∧ t.on STCH_INT_STATUS.NOTICE = true)) ∧
  (∀ (s : State) (ep : BitVec 24) (b : Bytes) (pos : Nat),
     let all : List (Nat × Nat × Nat × Nat) := s.grp.reports.filter (fun r => !(r.1 == gJob b && r.2.1 == gStep b && r.2.2.1 ==
         pos)) ++ [(gJob b, gStep b, pos, fieldAt b 16 8)]
     let mine : List Nat := (all.filter (fun (r : Nat × Nat × Nat × Nat) => r.1 == gJob b && r.2.1 == gStep b)).map (fun (r : Nat ×
         Nat × Nat × Nat) => r.2.2.2)
     s.on GRP_STATUS.READY = true ∧ s.positionOf ep.toNat = some pos ∧ 32 ≤ b.length ∧ fieldAt b 0 1 = 6 ∧
         s.get GRP_SILENT.SILENT = 0 →
     s.on GRP_CTRL.ROLE = true ∧ pos < s.get GRP_CFG.GROUP_SIZE →
     Does (.report ep b) s [.csr, .out, .freeCtr, .intc, .grp] (fun t =>
       (mine.length < s.get GRP_CFG.GROUP_SIZE → t.grp.reports = all) ∧
       (mine.length < s.get GRP_CFG.GROUP_SIZE → OtherRegs [] s t) ∧
       (s.get GRP_CFG.GROUP_SIZE ≤ mine.length → t.grp.reports = all.filter (fun r => !(r.1 == gJob b && r.2.1 == gStep b))) ∧
       (s.get GRP_CFG.GROUP_SIZE ≤ mine.length → t.get GRP_STRAG_STATUS.MEDIAN_US = (s.median mine).1 % 2 ^ 32)))

/-- Cast-on begins at ROM, with BOOT_COUNT one higher and each panel's rail from its plan, once the rails are in regulation and
RESET_N is released. RESET_N outside a bind-off stops the module at once: every register but those that a reset leaves reads its
reset value, the module's memory and its engines start anew, and nothing is saved. A watchdog that expires restarts its core
alone; at the third restart within an hour the core is held stopped. A core whose restart is done runs again, and an update of
its firmware is complete. -/
def Obligations.ResetsAndCores : Prop :=
  (∀ (s : State),
     s.hlth.pwrGood = true ∧ s.hlth.bindingOff = false ∧ s.get TOP_STATE.CAST_PHASE = 0 ∧ s.hlth.castCut = false →
     Does (.resetNRelease) s [.csr, .hlth] (fun t =>
       t.hlth.resetHigh = true ∧ t.get TOP_STATE.CAST_PHASE = 1 ∧
           t.get CIPH_SECURITY.BOOT_COUNT = (s.get CIPH_SECURITY.BOOT_COUNT + 1) % 2 ^ CIPH_SECURITY.BOOT_COUNT.w ∧
       (∀ p : Fin 3, t.get HLTH_PANEL_RAIL.TARGET_MV p = s.plan p (s.get HLTH_PANEL_RAIL.BAND p) % 2 ^ HLTH_PANEL_RAIL.TARGET_MV.w))) ∧
  (∀ (s : State),
     s.hlth.pwrGood = true ∧ s.hlth.bindingOff = false ∧ s.get TOP_STATE.CAST_PHASE = 0 ∧ s.hlth.castCut = true →
     Does (.resetNRelease) s [.csr, .mem, .poison, .out, .freeCtr, .intc, .myk, .hlth] (fun t =>
       t.get TOP_STATE.CAST_PHASE = 1 ∧ t.hlth.castCut = false ∧ Sent s t (.report 0x0057) ∧ t.hlth.logSeq = s.hlth.logSeq + 1)) ∧
  (∀ (s : State),
     s.hlth.pwrGood = false →
     Does (.resetNRelease) s [.hlth] (fun t =>
       t.hlth = { s.hlth with resetHigh := true })) ∧
  (∀ (s : State),
     s.hlth.pwrGood = true ∧ s.hlth.bindingOff = false →
     Does (.resetNAssert) s [.csr, .mem, .poison, .freeCtr, .timeFrac, .intc, .myk, .hostq, .sched, .skein, .memst, .pmon, .hlth,
         .bed, .stch, .purl, .ciph, .xport, .fab, .time, .grp, .pho, .boot, .ctl, .rerun, .line] (fun t =>
       t.hlth.resetHigh = false ∧ t.get TOP_STATE.CAST_PHASE = 0 ∧
           t.hlth.castCut = (s.hlth.castCut || decide (1 ≤ s.get TOP_STATE.CAST_PHASE ∧ s.get TOP_STATE.CAST_PHASE ≤ 10)) ∧
       OtherRegs (HLTH_CS.addr 0 0 :: keptFields.flatMap (fun f => (List.range f.2).map (fun i => f.1.reg.addr i 0))) State.reset t
           ∧
       OtherBytes 0 hostBase s t ∧ t.mem.all (fun c => decide (hostBase ≤ c.1)) = true ∧
       t.hostq = State.reset.hostq ∧ t.xport = State.reset.xport ∧ t.fab = State.reset.fab ∧ t.time = State.reset.time ∧
           t.pho = State.reset.pho ∧ t.line = State.reset.line ∧
       t.sched = State.reset.sched ∧ t.skein = State.reset.skein ∧ t.pmon = State.reset.pmon ∧ t.bed = State.reset.bed ∧
           t.stch = State.reset.stch ∧ t.purl = State.reset.purl ∧
       t.grp = State.reset.grp ∧ t.boot = State.reset.boot ∧ t.ctl = State.reset.ctl ∧ t.rerun = [] ∧ t.intc = State.reset.intc ∧
           t.myk = State.reset.myk ∧ t.timeFrac = 0 ∧
       t.ciph.valid = [] ∧ t.ciph.resident = [] ∧ t.hlth.logSeq = s.hlth.logSeq ∧ t.memst.lpddrPending = s.memst.lpddrPending)) ∧
  (∀ (s : State),
     s.hlth.bindingOff = true →
     Does (.resetNAssert) s [.hlth] (fun t =>
       t.hlth = { s.hlth with resetHigh := false })) ∧
  (∀ (s : State),
     s.hlth.pwrGood = false ∧ s.hlth.bindingOff = false ∧ s.hlth.resetHigh = true ∧ s.hlth.castCut = false →
     Does (.powerOnPwrGood) s [.csr, .mem, .poison, .freeCtr, .timeFrac, .intc, .myk, .hostq, .sched, .skein, .memst, .pmon, .hlth,
         .bed, .stch, .purl, .ciph, .xport, .fab, .time, .grp, .pho, .boot, .ctl, .rerun, .line] (fun t =>
       t.hlth.pwrGood = true ∧ t.get TOP_STATE.CAST_PHASE = 1 ∧ t.time = State.reset.time ∧ t.timeFrac = 0 ∧
       t.get CIPH_SECURITY.BOOT_COUNT = (s.get CIPH_SECURITY.BOOT_COUNT + 1) % 2 ^ CIPH_SECURITY.BOOT_COUNT.w)) ∧
  (∀ (s : State),
     s.hlth.pwrGood = false ∧ s.hlth.bindingOff = false ∧ s.hlth.resetHigh = false →
     Does (.powerOnPwrGood) s [.csr, .mem, .poison, .freeCtr, .timeFrac, .intc, .myk, .hostq, .sched, .skein, .memst, .pmon, .hlth,
         .bed, .stch, .purl, .ciph, .xport, .fab, .time, .grp, .pho, .boot, .ctl, .rerun, .line] (fun t =>
       t.hlth.pwrGood = true ∧ t.get TOP_STATE.CAST_PHASE = 0)) ∧
  (∀ (s : State) (sec : Bool),
     let f := if sec then TOP_CORE.SEC_STATE else TOP_CORE.MGMT_STATE
     let old := (if sec then s.myk.restartsSec else s.myk.restartsMgmt).filter (fun (n : Nat) => decide (s.time.ticks < n +
         hourTicks))
     s.get f = 1 ∧ s.hlth.bindingOff = false →
     Does (.watchdogExpiry sec) s [.csr, .out, .intc, .myk, .pmon, .fab, .grp, .line] (fun t =>
       t.on TOP_FAULT.ACTIVE = true ∧ t.on TOP_INT_STATUS.CORE = true ∧
       (old.length < 2 → t.get f = 2 ∧ t.get TOP_FAULT.REASON = (if sec then 0x0021 else 0x0020)) ∧
       (2 ≤ old.length → t.get f = 3 ∧ t.get TOP_FAULT.REASON = 0x0022) ∧
       (if sec then t.myk.restartsSec else t.myk.restartsMgmt) = s.time.ticks :: old)) ∧
  (∀ (s : State) (sec : Bool),
     let f := if sec then TOP_CORE.SEC_STATE else TOP_CORE.MGMT_STATE
     s.get f = 2 ∧ s.hlth.update = none ∧ (if sec then s.ctl.waitSec else s.ctl.waitMgmt) = [] →
     Does (.coreRestartDone sec) s [.csr] (fun t =>
       t.get f = 1 ∧ OtherRegs [TOP_CORE.addr 0 0] s t)) ∧
  (∀ (s : State) (u : Update),
     s.get TOP_CORE.MGMT_STATE = 2 ∧ s.hlth.update = some u ∧ u.object = 1 ∧ s.ctl.waitMgmt = [] →
     Does (.coreRestartDone false) s [.csr, .mem, .poison, .out, .freeCtr, .intc, .myk, .hlth, .keep] (fun t =>
       t.get TOP_CORE.MGMT_STATE = 1 ∧ t.keep = { s.keep with mgmtBank := !s.keep.mgmtBank } ∧
           t.get TOP_FW.MGMT_FW_VERSION = u.version % 2 ^ TOP_FW.MGMT_FW_VERSION.w ∧
       t.measurement 1 = sha256 (s.measurement 1 ++ padTo 32 u.digest) ∧ t.get HLTH_UPDATE.RESULT = 0x1031 ∧
           t.get HLTH_UPDATE.STATE = 4 ∧ t.hlth.update = none))

/-- In its phase, the end of ROM and of SECURE starts the bank that verifies and extends its measurement, or halts with 0x0045;
COMPAT fixes the permitted features and the mode; SRAM, MEMTRAIN and MEMTEST go on or fail with their reason; a unit's table is
confirmed, sent again or, after the last resend, leaves the unit disabled; TABLES leads to RESTORE where a critical state waits
and otherwise to ENGINES; RESTORE applies or refuses the image; ENGINES runs its four stages and ends in READY, where floors
rise and the image is consumed. A phase that takes too long fails cast-on. -/
def Obligations.CastOnPhases : Prop :=
  (∀ (s : State) (f : Fuses) (banks : Banks),
     let b := s.keep.secFw.join banks
     let pick := b.pick (fun o => o.verified Config.vendorAnchor && decide (s.keep.floorSec ≤ o.version))
     s.get TOP_STATE.CAST_PHASE = 1 →
     Does (.romDone f banks) s [.csr, .mem, .poison, .out, .freeCtr, .intc, .myk, .hlth, .keep] (fun t =>
       t.get TOP_REV.HW_REV = f.hwRev.toNat ∧ t.get TOP_SERIAL.SERIAL 0 = f.serial.toNat % 2 ^ 64 ∧
           t.get TOP_SERIAL.SERIAL 1 = f.serial.toNat / 2 ^ 64 ∧ t.keep.secFw = b ∧
       (pick = none → t.get TOP_STATE.CAST_PHASE = 15 ∧ t.get TOP_FAULT.REASON = 0x0045) ∧
       (∀ x ∈ pick, t.get TOP_STATE.CAST_PHASE = 2 ∧ t.keep.secBank = x.1 ∧ t.get TOP_CORE.SEC_STATE = 1 ∧
           t.measurement 0 = sha256 (s.measurement 0 ++ padTo 32 x.2.digest)))) ∧
  (∀ (s : State) (x : SecureInput),
     let b := s.keep.mgmtFw.join x.mgmtFw
     let pick := b.pick (fun o => o.verified Config.vendorAnchor && decide (s.keep.floorMgmt ≤ o.version))
     s.get TOP_STATE.CAST_PHASE = 2 →
     Does (.secureDone x) s [.csr, .mem, .poison, .out, .freeCtr, .intc, .myk, .hlth, .ciph, .boot, .keep] (fun t =>
       (pick = none → t.get TOP_STATE.CAST_PHASE = 15 ∧ t.get TOP_FAULT.REASON = 0x0045) ∧
       (∀ y ∈ pick, t.get TOP_STATE.CAST_PHASE = 3 ∧ t.keep.mgmtBank = y.1 ∧ t.get TOP_CORE.MGMT_STATE = 1 ∧
           t.measurement 1 = sha256 (s.measurement 1 ++ padTo 32 y.2.digest)) ∧
       (pick ≠ none → t.keep.bundles = s.keep.bundles.join x.bundles ∧ t.keep.manifests = s.keep.manifests.join x.manifests))) ∧
  (∀ (s : State),
     let c := compat s.boot.manifest (s.get TOP_REV.HW_REV) (s.get TOP_FW.MGMT_FW_VERSION) (s.get TOP_FW.SEC_FW_VERSION)
     s.get TOP_STATE.CAST_PHASE = 3 →
     Does (.compatDone) s [.csr, .out, .boot] (fun t =>
       t.boot.features = c.1 ∧ t.on TOP_STATE.RESTRICTED = (c.2 != 0) ∧ t.on CIPH_SECURITY.RESTRICTED = (c.2 != 0) ∧ (c.2 ≠ 0 →
           Sent s t (.report c.2)) ∧
       t.get TOP_STATE.CAST_PHASE = (if s.boot.bundle = [] then 4 else 5) ∧ (s.boot.bundle = [] → Sent s t (.report 0x004B)) ∧
       (c.1.testBit 3 = false → t.get XPORT_CODE.CODE_AUTO = 0) ∧ (c.1.testBit 4 = false → t.get PURL_CFG.ADAPT_EN = 0) ∧
           (c.1.testBit 6 = false → t.get PHO_CTRL.AUTO_HANDOVER = 0))) ∧
  (∀ (s : State),
     s.get TOP_STATE.CAST_PHASE = 3 ∧ s.boot.manifest = [] →
     Does (.compatDone) s [.csr, .out, .boot] (fun t =>
       t.boot.features = 0 ∧ t.on TOP_STATE.RESTRICTED = true ∧ t.get TOP_STATE.RESTRICT_REASON = 0x0046)) ∧
  (∀ (s : State) (o : SignedObj),
     s.get TOP_STATE.CAST_PHASE = 4 →
     Does (.bundleStaged o) s [.csr, .out, .boot] (fun t =>
       (bundleOk s.bundleAnchor o = true → t.boot.bundle = o.body ∧ t.get TOP_STATE.CAST_PHASE = 5 ∧
           t.measurement 3 = sha256 (s.measurement 3 ++ padTo 32 o.digest)) ∧
       (bundleOk s.bundleAnchor o = false → t.boot = s.boot ∧ t.get TOP_STATE.CAST_PHASE = 4 ∧ Sent s t (.report 0x0A1A)))) ∧
  (∀ (s : State) (map : Bytes),
     s.get TOP_STATE.CAST_PHASE = 5 →
     Does (.sramDone false map) s [.csr, .freeCtr, .memst] (fun t =>
       t.get TOP_STATE.CAST_PHASE = 6 ∧ t.memst.sramPending = [] ∧ t.get MEM_REPAIR.SRAM_PENDING = 0 ∧
           t.measurement 6 = sha256 (s.measurement 6 ++ padTo 32 (sha256 map)))) ∧
  (∀ (s : State) (map : Bytes),
     s.get TOP_STATE.CAST_PHASE = 5 →
     Does (.sramDone true map) s [.csr, .mem, .poison, .out, .freeCtr, .intc, .myk, .pmon, .hlth, .fab, .time, .grp, .ctl, .keep,
         .line] (fun t =>
       t.get TOP_STATE.CAST_PHASE = 14 ∧ t.get TOP_FAULT.REASON = 0x0051 ∧ t.hlth.logSeq = s.hlth.logSeq + 1 ∧
           t.keep.memFailed = s.keep.memFailed)) ∧
  (∀ (s : State) (x : TrainInput),
     let bad := !s.keep.trained || x.recordBad || decide (s.tempDelta < x.moved)
     let train := s.startMode == 1 || bad || s.keep.memFailed
     s.get TOP_STATE.CAST_PHASE = 6 ∧ x.failed = none →
     Does (.memtrainDone x) s [.csr, .out, .memst, .boot] (fun t =>
       t.get TOP_STATE.CAST_PHASE = 7 ∧ t.boot.fullTrain = train ∧ t.memst.lpddrPending = [] ∧ t.get MEM_REPAIR.LPDDR_PENDING = 0 ∧
       t.boot.fullTest = (train || !s.memst.lpddrPending.isEmpty || !s.keep.fullPassed || (s.startMode == 0 && (s.fullTestH == 0 ||
           decide (s.fullTestH < x.hours)))) ∧
       (bad = true → Sent s t (.report 0x004C)) ∧ (∀ d : Fin 16, t.get MEM_DEV.PENDING d = 0))) ∧
  (∀ (s : State) (x : TrainInput) (c : Fin 128),
     s.get TOP_STATE.CAST_PHASE = 6 ∧ x.failed = some c ∧ s.keep.trained = false →
     Does (.memtrainDone x) s [.csr, .mem, .poison, .out, .freeCtr, .intc, .myk, .pmon, .hlth, .fab, .time, .grp, .ctl, .keep,
         .line] (fun t =>
       t.get TOP_STATE.CAST_PHASE = 14 ∧ t.get TOP_FAULT.REASON = 0x004D ∧ t.get MEM_ERR_LOG.CHANNEL = c ∧ t.keep.memFailed = true)) ∧
  (∀ (s : State) (x : TestInput),
     let k := { s.keep with trained := s.keep.trained || s.boot.fullTrain, memFailed := false }
     s.get TOP_STATE.CAST_PHASE = 7 ∧ x.beyond = none ∧ x.repairFails = none →
     Does (.memtestDone x) s [.csr, .out, .boot, .keep] (fun t =>
       t.get TOP_STATE.CAST_PHASE = 8 ∧ t.keep = { k with fullPassed := s.keep.fullPassed || s.boot.fullTest } ∧
       t.boot.confirmed = [] ∧ t.boot.resent = [] ∧ (x.repaired = true → Sent s t (.report 0x004E)) ∧ (∀ a ∈ x.single,
           Sent s t (.report 0x0509)))) ∧
  (∀ (s : State) (x : TestInput) (a : Nat),
     s.get TOP_STATE.CAST_PHASE = 7 ∧ (x.beyond = some a ∨ x.beyond = none ∧ x.repairFails = some a) →
     Does (.memtestDone x) s [.csr, .mem, .poison, .out, .freeCtr, .intc, .myk, .pmon, .hlth, .fab, .time, .grp, .ctl, .keep,
         .line] (fun t =>
       t.get TOP_STATE.CAST_PHASE = 14 ∧ t.get TOP_FAULT.REASON = (if x.beyond = none then 0x0050 else 0x004F) ∧
           t.get MEM_ERR_ADDR.ADDR = a % 2 ^ MEM_ERR_ADDR.ADDR.w ∧ t.keep.memFailed = true)) ∧
  (∀ (s : State) (u : TableUnit) (crc : BitVec 32),
     s.tableActive u = true ∧ s.boot.confirmed.contains u = false ∧ s.boot.disabled.contains u = false ∧
         s.entryCrc u = some crc.toNat →
     Does (.tableConfirm u crc) s [.out, .boot] (fun t =>
       t.boot.confirmed = s.boot.confirmed ++ [u] ∧ (s.resends u ≠ 0 → Sent s t (.report 0x0052)) ∧ t.resends u = 0)) ∧
  (∀ (s : State) (u : TableUnit) (crc : BitVec 32),
     s.get TOP_STATE.CAST_PHASE = 8 ∧ s.boot.confirmed.contains u = false ∧ s.boot.disabled.contains u = false ∧
         s.entryCrc u ≠ some crc.toNat ∧ s.resends u < s.resendMax →
     Does (.tableConfirm u crc) s [.boot] (fun t =>
       t.resends u = s.resends u + 1 ∧ t.boot.confirmed = s.boot.confirmed ∧ t.boot.disabled = s.boot.disabled)) ∧
  (∀ (s : State) (u : TableUnit),
     s.get TOP_STATE.CAST_PHASE = 8 ∧ s.boot.confirmed.contains u = false ∧ s.boot.disabled.contains u = false ∧
         s.resends u < s.resendMax →
     Does (.tableConfirmTimeout u) s [.boot] (fun t =>
       t.resends u = s.resends u + 1 ∧ t.boot.confirmed = s.boot.confirmed)) ∧
  (∀ (s : State) (u : TableUnit),
     s.get TOP_STATE.CAST_PHASE = 8 ∧ s.boot.confirmed.contains u = false ∧ s.boot.disabled.contains u = false ∧
         s.resendMax ≤ s.resends u →
     Does (.tableConfirmTimeout u) s [.csr, .mem, .poison, .out, .freeCtr, .intc, .myk, .hostq, .sched, .skein, .memst, .pmon,
         .hlth, .bed, .stch, .ciph, .xport, .fab, .time, .grp, .pho, .boot, .line] (fun t =>
       t.boot.disabled = s.boot.disabled ++ [u] ∧ Sent s t (.report 0x0053) ∧ t.boot.confirmed = s.boot.confirmed)) ∧
  (∀ (s : State),
     s.get TOP_STATE.CAST_PHASE = 8 ∧ s.imageSlot.isSome = true →
     Does (.tablesDone) s [.csr, .mem, .poison, .out, .freeCtr, .intc, .myk, .hlth, .keep] (fun t =>
       t.get TOP_STATE.CAST_PHASE = 9 ∧ t.keep.lastReport = 0 ∧ (s.keep.lastReport ≠ 0 → Sent s t (.report s.keep.lastReport)) ∧
       (∀ b ∈ sectionOf s.boot.bundle 3, t.measurement 4 = sha256 (s.measurement 4 ++ padTo 32 (sha256 b))))) ∧
  (∀ (s : State),
     s.get TOP_STATE.CAST_PHASE = 8 ∧ s.imageSlot = none →
     Does (.tablesDone) s [.csr, .mem, .poison, .out, .freeCtr, .timeFrac, .intc, .myk, .hostq, .sched, .pmon, .hlth, .bed, .stch,
         .ciph, .xport, .fab, .time, .grp, .pho, .boot, .ctl, .keep, .line] (fun t =>
       t.boot.enables = bundleEnables s.boot.bundle ∧ t.boot.stage = 1 ∧ (settings s.boot.bundle = [] →
           t.get TOP_STATE.CAST_PHASE = 10))) ∧
  (∀ (s : State) (bad0 bad1 : Bool) (i : Bool) (x : CritImage),
     s.get TOP_STATE.CAST_PHASE = 9 ∧ s.imageSlot = some i ∧ s.keep.slot i = some x ∧ (if i then bad1 else bad0) = false ∧
         settings s.boot.bundle = [] →
     Does (.restorePhase bad0 bad1) s [.csr, .mem, .poison, .out, .freeCtr, .timeFrac, .intc, .myk, .hostq, .sched, .pmon, .hlth,
         .bed, .stch, .ciph, .xport, .fab, .time, .grp, .pho, .boot, .ctl, .keep, .line] (fun t =>
       t.get TOP_STATE.CAST_PHASE = 10 ∧ t.boot.restored = some i ∧ Sent s t (.report 0x1007) ∧ Sent s t (.report 0x100A) ∧
       t.hostq.abandoned = x.inFlight ∧ t.hlth.history = x.history ∧ t.hlth.restoredTail = x.logTail ∧ t.xport.resetDue = true ∧
           t.ciph.establish = x.establish)) ∧
  (∀ (s : State) (bad0 bad1 : Bool) (i : Bool),
     s.get TOP_STATE.CAST_PHASE = 9 ∧ s.imageSlot = some i ∧ (if i then bad1 else bad0) = true ∧ settings s.boot.bundle = [] →
     Does (.restorePhase bad0 bad1) s [.csr, .mem, .poison, .out, .freeCtr, .timeFrac, .intc, .myk, .hostq, .sched, .pmon, .hlth,
         .bed, .stch, .ciph, .xport, .fab, .time, .grp, .pho, .boot, .ctl, .keep, .line] (fun t =>
       t.get TOP_STATE.CAST_PHASE = 10 ∧ t.boot.restored = s.boot.restored ∧ Sent s t (.report 0x100B) ∧
           t.get HLTH_ERR_LOG.REASON = 0x100B)) ∧
  (∀ (s : State),
     s.get TOP_STATE.CAST_PHASE = 10 ∧ s.ctl.checking = [] ∧ s.boot.turn = [] ∧ s.stageFailed = false ∧ s.boot.stage < 4 →
     Does (.enginesStageDone) s [.csr, .out, .intc, .time, .boot, .ctl] (fun t =>
       t.boot.stage = s.boot.stage + 1 ∧ t.boot.enables = s.boot.enables)) ∧
  (∀ (s : State),
     s.get TOP_STATE.CAST_PHASE = 10 ∧ s.ctl.checking = [] ∧ s.boot.turn = [] ∧ s.stageFailed = false ∧ s.boot.stage = 4 →
     Does (.enginesStageDone) s [.csr, .mem, .poison, .out, .intc, .myk, .ciph, .keep] (fun t =>
       t.get TOP_STATE.CAST_PHASE = 11 ∧ Sent s t (.report (if s.boot.fullTrain || s.boot.fullTest then 0x0041 else 0x0040)) ∧
       t.keep.floorSec = (if s.on TOP_STATE.RESTRICTED = true then s.keep.floorSec else max s.keep.floorSec (fieldAt
           s.boot.manifest 8 4)) ∧
       t.keep.floorMgmt = (if s.on TOP_STATE.RESTRICTED = true then s.keep.floorMgmt else max s.keep.floorMgmt (fieldAt
           s.boot.manifest 12 4)) ∧
       (∀ i ∈ s.boot.restored, t.keep.slot i = (s.keep.slot i).map (fun x => { x with consumed := true })))) ∧
  (∀ (s : State),
     s.get TOP_STATE.CAST_PHASE = 10 ∧ s.ctl.checking = [] ∧ s.boot.turn = [] ∧ s.stageFailed = true →
     Does (.enginesStageDone) s [.csr, .mem, .poison, .out, .freeCtr, .intc, .myk, .pmon, .hlth, .fab, .time, .grp, .ctl, .keep,
         .line] (fun t =>
       t.get TOP_STATE.CAST_PHASE = 14 ∧ t.get TOP_FAULT.REASON = 0x0054 ∧ t.keep = s.keep)) ∧
  (∀ (s : State),
     1 ≤ s.get TOP_STATE.CAST_PHASE ∧ s.get TOP_STATE.CAST_PHASE ≤ 10 ∧ s.get TOP_STATE.CAST_PHASE ≠ 4 →
     Does (.castPhaseTimeout) s [.csr, .mem, .poison, .out, .freeCtr, .intc, .myk, .pmon, .hlth, .fab, .time, .grp, .ctl, .keep,
         .line] (fun t =>
       t.get TOP_STATE.CAST_PHASE = 14 ∧ t.get TOP_FAULT.REASON = 0x0055 ∧ t.on TOP_FAULT.ACTIVE = true ∧ t.ctl.checking = [] ∧
       t.keep.memFailed = (s.keep.memFailed || decide (s.get TOP_STATE.CAST_PHASE = 6 ∨ s.get TOP_STATE.CAST_PHASE = 7)))) ∧
  (∀ (s : State),
     s.get TOP_STATE.CAST_PHASE = 4 →
     Does (.castPhaseTimeout) s [] (fun t =>
       t.get TOP_STATE.CAST_PHASE = 4))

/-- The input's warning begins and ends with its report. A capacitor charged with enough capacitance makes HOLDUP_OK; too little
is a module fault. At the power cap the bed and the stitch units are held until the power is below it. A trigger of bind-off
saves the critical state in the slot that does not hold the newest image when HOLDUP_OK is 1 and cast-on has ended, and the
module stops; without HOLDUP_OK nothing is saved; a commit record that is late leaves the slot invalid until the limit stops the
module. The return of the input begins cast-on. -/
def Obligations.InputAndBindOff : Prop :=
  (∀ (s : State) (vin iin : BitVec 16),
     s.on HLTH_STATUS.INPUT_WARN = false →
     Does (.inputWarn vin iin) s [.csr, .out, .intc] (fun t =>
       t.get HLTH_INPUT.VIN_MV = vin.toNat ∧ t.get HLTH_INPUT.IIN_CA = iin.toNat ∧ t.on HLTH_STATUS.INPUT_WARN = true ∧
       t.get HLTH_ERR_LOG.REASON = 0x1001 ∧ Sent s t (.report 0x1001) ∧ t.on HLTH_INT_STATUS.INPUT = true)) ∧
  (∀ (s : State) (vin iin : BitVec 16),
     s.on HLTH_STATUS.INPUT_WARN = true →
     Does (.inputWarn vin iin) s [.csr] (fun t =>
       t.get HLTH_INPUT.VIN_MV = vin.toNat ∧ t.get HLTH_INPUT.IIN_CA = iin.toNat ∧ OtherRegs [HLTH_INPUT.addr 0 0] s t)) ∧
  (∀ (s : State) (vin iin : BitVec 16),
     s.on HLTH_STATUS.INPUT_WARN = true →
     Does (.inputWarnClear vin iin) s [.csr, .out, .intc] (fun t =>
       t.get HLTH_INPUT.VIN_MV = vin.toNat ∧ t.on HLTH_STATUS.INPUT_WARN = false ∧ t.get HLTH_ERR_LOG.REASON = 0x1002 ∧
           Sent s t (.report 0x1002))) ∧
  (∀ (s : State) (vin iin : BitVec 16),
     Does (.inputSurge vin iin) s [.csr, .out, .intc] (fun t =>
       t.get HLTH_INPUT.VIN_MV = vin.toNat ∧ t.get HLTH_ERR_LOG.REASON = 0x100D ∧ Sent s t (.report 0x100D) ∧
           t.on HLTH_INT_STATUS.INPUT = true)) ∧
  (∀ (s : State) (uf vcap : BitVec 16),
     s.get HLTH_HOLDUP.CAP_MIN_UF ≤ uf.toNat →
     Does (.holdupChargeMeasured uf vcap) s [.csr] (fun t =>
       t.get HLTH_HOLDUP.CAP_UF = uf.toNat ∧ t.get HLTH_HOLDUP.VCAP_MV = vcap.toNat ∧
           t.on HLTH_STATUS.HOLDUP_OK = (s.hlth.pwrGood && decide (54000 ≤ vcap.toNat)))) ∧
  (∀ (s : State) (uf vcap : BitVec 16),
     uf.toNat < s.get HLTH_HOLDUP.CAP_MIN_UF →
     Does (.holdupChargeMeasured uf vcap) s [.csr, .mem, .poison, .out, .freeCtr, .intc, .myk, .hlth] (fun t =>
       t.on HLTH_STATUS.HOLDUP_OK = false ∧ t.on TOP_FAULT.ACTIVE = true ∧ t.get TOP_FAULT.REASON = 0x100C ∧
           t.get HLTH_ERR_LOG.REASON = 0x100C)) ∧
  (∀ (s : State) (vcap : BitVec 16),
     Does (.holdupChargeTimeout vcap) s [.csr, .out, .intc, .hlth] (fun t =>
       t.on HLTH_STATUS.HOLDUP_OK = false ∧ t.get HLTH_HOLDUP.VCAP_MV = vcap.toNat ∧ t.get HLTH_ERR_LOG.REASON = 0x100C ∧
           (s.hlth.pwrGood = true → t.alertN = false))) ∧
  (∀ (s : State) (pin : BitVec 16),
     s.on HLTH_STATUS.READY = true ∧ s.hlth.capHold = false →
     Does (.powerCapReached pin) s [.csr, .out, .intc, .hlth] (fun t =>
       t.hlth.capHold = true ∧ t.on HLTH_STATUS.THROTTLE = true ∧ t.get HLTH_INPUT.PIN_W = pin.toNat ∧ Sent s t (.report 0x100E) ∧
           t.on HLTH_INT_STATUS.POWER_CAP = true)) ∧
  (∀ (s : State) (pin : BitVec 16),
     Does (.powerCapRelease pin) s [.csr, .hlth] (fun t =>
       t.hlth.capHold = false ∧ t.on HLTH_STATUS.THROTTLE = !s.hlth.hot.isEmpty ∧ t.get HLTH_INPUT.PIN_W = pin.toNat)) ∧
  (∀ (s : State) (cause : InputCause) (x : BindOff),
     let i := s.saveSlot
     s.hlth.bindingOff = false ∧ s.hlth.pwrGood = true ∧ s.on HLTH_STATUS.HOLDUP_OK = true ∧ s.get TOP_STATE.CAST_PHASE = 11 ∧
         x.commits = true →
     Does (.bindoffTrigger cause x) s [.csr, .mem, .poison, .out, .freeCtr, .timeFrac, .intc, .myk, .hostq, .sched, .skein, .memst,
         .pmon, .hlth, .bed, .stch, .purl, .ciph, .xport, .fab, .time, .grp, .pho, .boot, .ctl, .keep, .rerun, .line] (fun t =>
       t.hlth.bindingOff = true ∧ t.hlth.pwrGood = false ∧ t.get TOP_STATE.CAST_PHASE = 0 ∧ t.keep.slot (!i) = s.keep.slot (!i) ∧
           t.keep.lastReport = 0 ∧
       (t.keep.slot i).map (fun y => (y.seq, y.jobs, y.history, y.consumed)) = some (s.keep.newestSeq + 1, s.xport.jobs,
           s.hlth.history, false) ∧
       (t.keep.slot i).map (·.inFlight) = some (s.hostq.dispatched.map (·.work) ++ (s.hostq.finished.filter (fun f =>
           !f.refused)).map (·.work)) ∧
       t.get HLTH_LAST_BINDOFF.REASON = (if cause = .low then 0x1003 else if cause = .lost then 0x1004 else 0x1005) ∧
       t.get HLTH_LAST_BINDOFF.DURATION_MS = min x.ms.toNat 100 ∧ t.get HLTH_LAST_BINDOFF.IMAGE_MIB = x.mib.toNat ∧
           t.get HLTH_LAST_BINDOFF.VCAP_END_MV = x.vcap.toNat ∧
       t.get HLTH_COUNT.BINDOFFS = satAdd HLTH_COUNT.BINDOFFS.w (s.get HLTH_COUNT.BINDOFFS) 1 ∧
           Sent s t (.report (if cause = .low then 0x1003 else if cause = .lost then 0x1004 else 0x1005)))) ∧
  (∀ (s : State) (x : BindOff),
     let i := s.saveSlot
     s.hlth.bindingOff = false ∧ s.hlth.pwrGood = true ∧ s.on HLTH_STATUS.HOLDUP_OK = true ∧ s.get TOP_STATE.CAST_PHASE = 11 ∧
         x.commits = false →
     Does (.thermalTrip x) s [.csr, .mem, .poison, .out, .freeCtr, .timeFrac, .intc, .myk, .hostq, .sched, .skein, .memst, .pmon,
         .hlth, .bed, .stch, .purl, .ciph, .xport, .fab, .time, .grp, .pho, .boot, .ctl, .keep, .rerun, .line] (fun t =>
       t.hlth.bindingOff = true ∧ t.hlth.committing = true ∧ t.keep.slot i = none ∧ t.keep.slot (!i) = s.keep.slot (!i) ∧
       t.get HLTH_LAST_BINDOFF.REASON = 0x1006 ∧ Sent s t (.report 0x1006))) ∧
  (∀ (s : State) (cause : InputCause) (x : BindOff),
     s.hlth.bindingOff = false ∧ s.hlth.pwrGood = true ∧ s.on HLTH_STATUS.HOLDUP_OK = false ∧ s.hlth.update = none →
     Does (.bindoffTrigger cause x) s [.csr, .mem, .poison, .out, .freeCtr, .timeFrac, .intc, .myk, .hostq, .sched, .skein, .memst,
         .pmon, .hlth, .bed, .stch, .purl, .ciph, .xport, .fab, .time, .grp, .pho, .boot, .ctl, .keep, .rerun, .line] (fun t =>
       t.keep = { s.keep with lastReport := 0x1009 } ∧ t.hlth.pwrGood = false ∧ t.get HLTH_LAST_BINDOFF.IMAGE_MIB = 0)) ∧
  (∀ (s : State) (cause : InputCause) (x : BindOff),
     s.hlth.bindingOff = false ∧ s.hlth.pwrGood = false →
     Does (.bindoffTrigger cause x) s [] (fun t =>
       t.keep = s.keep)) ∧
  (∀ (s : State) (x : BindOff),
     s.hlth.bindingOff = true →
     Does (.thermalTrip x) s [.csr, .freeCtr, .hlth, .keep] (fun t =>
       t.hlth.logSeq = s.hlth.logSeq + 1 ∧ t.hlth.bindingOff = true ∧ t.hlth.pwrGood = s.hlth.pwrGood)) ∧
  (∀ (s : State) (vcap ms : BitVec 16),
     s.hlth.committing = true →
     Does (.bindoffLimit vcap ms) s [.csr, .mem, .poison, .freeCtr, .timeFrac, .intc, .myk, .hostq, .sched, .skein, .memst, .pmon,
         .hlth, .bed, .stch, .purl, .ciph, .xport, .fab, .time, .grp, .pho, .boot, .ctl, .keep, .rerun, .line] (fun t =>
       t.hlth.committing = false ∧ t.hlth.pwrGood = false ∧ t.keep = { s.keep with lastReport := 0x1008 } ∧
           t.get TOP_STATE.CAST_PHASE = 0 ∧
       t.get HLTH_LAST_BINDOFF.DURATION_MS = min ms.toNat 100 ∧ t.get HLTH_LAST_BINDOFF.VCAP_END_MV = vcap.toNat ∧
           t.get HLTH_LAST_BINDOFF.REASON = s.get HLTH_LAST_BINDOFF.REASON)) ∧
  (∀ (s : State) (vin : BitVec 16),
     s.hlth.bindingOff = true ∧ s.hlth.committing = false ∧ s.hlth.resetHigh = true ∧ s.hlth.castCut = false →
     Does (.inputRestart vin) s [.csr, .mem, .poison, .freeCtr, .timeFrac, .intc, .myk, .hostq, .sched, .skein, .memst, .pmon,
         .hlth, .bed, .stch, .purl, .ciph, .xport, .fab, .time, .grp, .pho, .boot, .ctl, .rerun, .line] (fun t =>
       t.hlth.bindingOff = false ∧ t.hlth.pwrGood = true ∧ t.get HLTH_INPUT.VIN_MV = vin.toNat ∧ t.get TOP_STATE.CAST_PHASE = 1 ∧
           t.time = State.reset.time)) ∧
  (∀ (s : State) (vin : BitVec 16),
     s.hlth.bindingOff = false ∨ s.hlth.committing = true →
     Does (.inputRestart vin) s [.csr] (fun t =>
       t.get HLTH_INPUT.VIN_MV = vin.toNat ∧ OtherRegs [HLTH_INPUT.addr 0 0] s t))

/-- A gauge sample stores every margin, rail and rate; the tenth low margin in a row at the highest rail quarantines the gauge's
cluster. A panel that runs short of margin has its rail's plan raised by STEP_MV, while the management core runs. A temperature
picks the panel's band, and a threshold that it crosses is reported once. An update that does not verify is refused with 0x1032;
one that does is written to the other bank and its core restarts. The audit sends a table again whose CRC differs. The sideband
answers ten indices, and the JTAG port loads the instructions that its pins allow. -/
def Obligations.GaugesPlansAndUpdates : Prop :=
  (∀ (s : State) (margins : List (BitVec 10)) (a b c : PanelReading),
     (∀ p : Fin 4, s.get HLTH_PANEL_RAIL.TARGET_MV p ≠ s.get HLTH_GAUGE_CFG.RAIL_MAX_MV) →
     Does (.gaugeSample margins [a, b, c]) s [.csr, .hlth] (fun t =>
       (∀ g : Fin 512, g.val < margins.length → g.val < gauges.length → t.get HLTH_GAUGE.MARGIN g = (margins.getD g 0).toNat ∧
           lookupD t.hlth.lowRun g.val 0 = 0) ∧
       t.get HLTH_PANEL_RAIL.MEASURED_MV 2 = c.rail.toNat ∧ t.get HLTH_PANEL_RATE.RATE 2 = c.rate.toNat ∧
           t.get HLTH_PANEL_RATE.RATE 0 = a.rate.toNat ∧
       (∀ g : Fin 512, margins.length ≤ g.val → t.get HLTH_GAUGE.MARGIN g = s.get HLTH_GAUGE.MARGIN g))) ∧
  (∀ (s : State) (m : BitVec 10),
     let p := s.get HLTH_GAUGE.PANEL 0
     m.toNat < s.get HLTH_GAUGE_CFG.MARGIN_MIN ∧ s.get HLTH_PANEL_RAIL.TARGET_MV p = s.get HLTH_GAUGE_CFG.RAIL_MAX_MV ∧
         s.on HLTH_GAUGE.QUARANTINED 0 = false ∧ lookupD s.hlth.lowRun 0 0 = 9 →
     Does (.gaugeSample [m] []) s [.csr, .mem, .poison, .out, .freeCtr, .intc, .myk, .hostq, .sched, .skein, .memst, .pmon, .hlth,
         .bed, .stch, .ciph, .xport, .fab, .time, .grp, .pho, .line] (fun t =>
       t.on HLTH_GAUGE.QUARANTINED 0 = true ∧ Sent s t (.report 0x1014) ∧ lookupD t.hlth.lowRun 0 0 = 0)) ∧
  (∀ (s : State) (m : BitVec 10),
     let p := s.get HLTH_GAUGE.PANEL 0
     m.toNat < s.get HLTH_GAUGE_CFG.MARGIN_MIN ∧ s.get HLTH_PANEL_RAIL.TARGET_MV p = s.get HLTH_GAUGE_CFG.RAIL_MAX_MV ∧
         s.on HLTH_GAUGE.QUARANTINED 0 = false ∧ lookupD s.hlth.lowRun 0 0 < 9 →
     Does (.gaugeSample [m] []) s [.csr, .hlth] (fun t =>
       t.on HLTH_GAUGE.QUARANTINED 0 = false ∧ lookupD t.hlth.lowRun 0 0 = lookupD s.hlth.lowRun 0 0 + 1)) ∧
  (∀ (s : State) (p : Fin 3),
     let b := s.get HLTH_PANEL_RAIL.BAND p
     let v := s.plan p b + s.get HLTH_GAUGE_CFG.STEP_MV
     s.coreWaits false = false ∧ s.on HLTH_STATUS.READY = true ∧ s.on HLTH_CTRL.AUTO_REPLAN = true ∧
         s.get HLTH_PANEL_RATE.RATE p < 1300 →
     Does (.replan p) s [.csr, .mem, .poison, .out, .freeCtr, .intc, .myk, .hlth, .keep] (fun t =>
       (v ≤ s.get HLTH_GAUGE_CFG.RAIL_MAX_MV → t.plan p b = v ∧ t.get HLTH_PANEL_RAIL.TARGET_MV p = v % 1024 ∧
           t.get HLTH_COUNT.REPLANS = satAdd HLTH_COUNT.REPLANS.w (s.get HLTH_COUNT.REPLANS) 1 ∧ Sent s t (.report 0x1011)) ∧
       (s.get HLTH_GAUGE_CFG.RAIL_MAX_MV < v → t.keep = s.keep ∧ Sent s t (.report 0x1013)))) ∧
  (∀ (s : State) (p : Fin 3),
     s.coreWaits false = true →
     Does (.replan p) s [.ctl] (fun t =>
       t.ctl.waitMgmt = s.ctl.waitMgmt ++ [.replan p])) ∧
  (∀ (s : State) (p : Fin 3),
     Does (.rateFloorFault p) s [.csr, .mem, .poison, .out, .freeCtr, .intc, .myk, .pmon, .hlth, .fab, .grp, .line] (fun t =>
       t.on TOP_FAULT.ACTIVE = true ∧ t.get TOP_FAULT.REASON = 0x1015 ∧ t.get HLTH_ERR_LOG.PANEL = p ∧
           t.on HLTH_INT_STATUS.MARGIN = true)) ∧
  (∀ (s : State) (p : Fin 3) (v : BitVec 16),
     let above := fun (c : Nat) (was : Bool) => if was then decide (8 * (c : Int) - 40 < v.toInt) else decide (8 * (c : Int) ≤
         v.toInt)
     let warm := above (s.get HLTH_THERMAL.WARN_C) (s.hlth.warm.contains p.val)
     let hot := above (s.get HLTH_THERMAL.THROTTLE_C) (s.hlth.hot.contains p.val) && s.on HLTH_STATUS.READY
     Does (.panelTempChange p v false) s [.csr, .mem, .poison, .out, .freeCtr, .intc, .myk, .hlth] (fun t =>
       t.get HLTH_PANEL_RATE.TEMP p = v.toNat ∧ t.hlth.warm.contains p.val = warm ∧ t.hlth.hot.contains p.val = hot ∧
       t.get HLTH_PANEL_RAIL.BAND p = (if v.toInt < 320 then 0 else if v.toInt < 440 then 1 else if v.toInt < 560 then 2 else if
           v.toInt < 680 then 3 else if v.toInt < 760 then 4 else 5) ∧
       (warm = true → s.hlth.warm.contains p.val = false → Sent s t (.report 0x1016)) ∧ (hot = true →
           s.hlth.hot.contains p.val = false → Sent s t (.report 0x1017)) ∧
       t.on HLTH_STATUS.THROTTLE = (t.hlth.capHold || !t.hlth.hot.isEmpty) ∧
           t.get HLTH_PANEL_RAIL.TARGET_MV p = s.get HLTH_PANEL_RAIL.TARGET_MV p)) ∧
  (∀ (s : State) (p : Fin 3) (v : BitVec 16),
     Does (.panelTempChange p v true) s [.csr, .mem, .poison, .out, .freeCtr, .intc, .myk, .hlth] (fun t =>
       t.get HLTH_PANEL_RATE.TEMP p = v.toNat ∧ Sent s t (.report 0x1018) ∧
           t.get HLTH_PANEL_RAIL.TARGET_MV p = s.plan p (t.get HLTH_PANEL_RAIL.BAND p) % 1024)) ∧
  (∀ (s : State) (m : Master) (tag : BitVec 10),
     let w := BitVec.ofNat 64 5
     Writable s m HLTH_UPDATE 0 w ∧ s.on HLTH_STATUS.READY = true ∧ s.hlth.update = none →
     Does (.fwUpdateMgmt m tag none) s [.csr, .mem, .poison, .out, .freeCtr, .timeFrac, .intc, .myk, .hostq, .sched, .pmon, .hlth,
         .bed, .stch, .ciph, .xport, .fab, .time, .grp, .pho, .boot, .ctl, .keep, .line] (fun t =>
       t.get HLTH_UPDATE.STATE = 5 ∧ t.get HLTH_UPDATE.RESULT = 0x1032 ∧ t.on HLTH_UPDATE.GO = false ∧ t.hlth.update = none ∧
           t.keep = s.keep ∧
       Answered t m tag.toNat 0 0 [])) ∧
  (∀ (s : State) (m : Master) (tag : BitVec 10) (o : SignedObj),
     let w := BitVec.ofNat 64 5
     let ok := s.boot.features.testBit 9 && o.verified Config.vendorAnchor && decide (s.keep.floorMgmt ≤ o.version) &&
         s.updateCovered false o.version
     Writable s m HLTH_UPDATE 0 w ∧ s.on HLTH_STATUS.READY = true ∧ s.hlth.update = none →
     Does (.fwUpdateMgmt m tag (some o)) s [.csr, .mem, .poison, .out, .freeCtr, .timeFrac, .intc, .myk, .hostq, .sched, .pmon,
         .hlth, .bed, .stch, .ciph, .xport, .fab, .time, .grp, .pho, .boot, .ctl, .keep, .line] (fun t =>
       (ok = true → t.get HLTH_UPDATE.STATE = 3 ∧ t.on HLTH_UPDATE.GO = true ∧ t.get TOP_CORE.MGMT_STATE = 2 ∧
           t.on HLTH_STATUS.UPDATE_BUSY = true ∧ t.hlth.update = some ⟨1, o.version, o.digest⟩) ∧
       (ok = true → t.keep = { s.keep with mgmtFw := s.keep.mgmtFw.put (!s.keep.mgmtBank) (some o) }) ∧
       (ok = false → t.get HLTH_UPDATE.RESULT = 0x1032 ∧ t.keep = s.keep ∧ t.hlth.update = none) ∧ Answered t m tag.toNat 0 0 [])) ∧
  (∀ (s : State) (m : Master) (tag : BitVec 10) (o : SignedObj),
     let w := BitVec.ofNat 64 6
     let ok := s.boot.features.testBit 9 && o.verified Config.vendorAnchor && decide (s.keep.floorSec ≤ o.version) &&
         s.updateCovered true o.version
     Writable s m HLTH_UPDATE 0 w ∧ s.on HLTH_STATUS.READY = true ∧ s.hlth.update = none →
     Does (.fwUpdateSec m tag (some o)) s [.csr, .mem, .poison, .out, .freeCtr, .timeFrac, .intc, .myk, .hostq, .sched, .pmon,
         .hlth, .bed, .stch, .ciph, .xport, .fab, .time, .grp, .pho, .boot, .ctl, .keep, .line] (fun t =>
       (ok = true → t.get HLTH_UPDATE.STATE = 3 ∧ t.get TOP_CORE.SEC_STATE = 2 ∧
           t.keep = { s.keep with secFw := s.keep.secFw.put (!s.keep.secBank) (some o) }) ∧
       (ok = false → t.get HLTH_UPDATE.RESULT = 0x1032 ∧ t.keep = s.keep ∧ t.hlth.update = none) ∧ Answered t m tag.toNat 0 0 [])) ∧
  (∀ (s : State) (m : Master) (tag : BitVec 10) (staged : Option SignedObj),
     let w := BitVec.ofNat 64 7
     Writable s m HLTH_UPDATE 0 w ∧ s.on HLTH_STATUS.READY = true ∧ s.hlth.update = none ∧
         (staged.all (fun o => settings o.body == [])) = true →
     Does (.bundleApply m tag staged) s [.csr, .mem, .poison, .out, .freeCtr, .timeFrac, .intc, .myk, .hostq, .sched, .pmon, .hlth,
         .bed, .stch, .ciph, .xport, .fab, .time, .grp, .pho, .boot, .ctl, .keep, .line] (fun t =>
       (∀ o ∈ staged, bundleOk s.bundleAnchor o = true → t.get HLTH_UPDATE.STATE = 3 ∧ t.boot.bundle = o.body ∧
           t.boot.confirmed = [] ∧ t.boot.resent = [] ∧ t.hlth.update = some ⟨3, o.version, o.digest⟩) ∧
       ((staged.all fun o => !bundleOk s.bundleAnchor o) = true → t.get HLTH_UPDATE.STATE = 5 ∧ t.get HLTH_UPDATE.RESULT = 0x1032 ∧
           t.boot.bundle = s.boot.bundle) ∧
       Answered t m tag.toNat 0 0 [])) ∧
  (∀ (s : State) (u : Update),
     s.hlth.update = some u ∧ u.object ≠ 3 →
     Does (.updateStartTimeout) s [.csr, .mem, .poison, .out, .freeCtr, .intc, .myk, .hlth] (fun t =>
       t.hlth.update = none ∧ t.get HLTH_UPDATE.RESULT = 0x1032 ∧ t.get HLTH_UPDATE.STATE = 5 ∧
           t.on HLTH_STATUS.UPDATE_BUSY = false ∧ Sent s t (.report 0x1032))) ∧
  (∀ (s : State) (u : TableUnit) (crc : BitVec 32),
     s.on HLTH_STATUS.READY = true ∧ s.get HLTH_AUDIT.TABLE_AUDIT_S ≠ 0 ∧ s.boot.disabled.contains u = false ∧
         s.entryCrc u ≠ some crc.toNat ∧ s.resends u < s.resendMax →
     Does (.tableAudit u crc) s [.csr, .mem, .poison, .out, .freeCtr, .intc, .myk, .hlth, .boot] (fun t =>
       t.resends u = s.resends u + 1 ∧ t.boot.confirmed.contains u = false ∧ Sent s t (.report 0x1022) ∧
           t.on HLTH_INT_STATUS.TABLE = true ∧ t.hlth.logSeq = s.hlth.logSeq + 1)) ∧
  (∀ (s : State) (u : TableUnit) (crc : BitVec 32),
     s.entryCrc u = some crc.toNat →
     Does (.tableAudit u crc) s [] (fun t =>
       t.boot.resent = s.boot.resent)) ∧
  (∀ (s : State) (index : Byte),
     index.toNat < 10 →
     Does (.smbusBlockRead index) s [.out] (fun t =>
       (∀ r ∈ sidebandReg index.toNat, t.out = s.out ++ [.smbus (le 8 (s.rdReg r.1 r.2).toNat)]) ∧
           (sidebandReg index.toNat).isSome = true)) ∧
  (∀ (s : State) (index : Byte),
     10 ≤ index.toNat →
     Does (.smbusBlockRead index) s [.out] (fun t =>
       t.out = s.out ++ [.smbus []])) ∧
  (∀ (s : State),
     Does (.smbusAlertResponse) s [.out] (fun t =>
       t.out = s.out ++ [.smbus (if s.alertN then [] else [BitVec.ofNat 8 (0x58 + Config.smbusStraps.toNat)])])) ∧
  (∀ (s : State) (i : JtagIr),
     i = .idcode ∨ i = .bypass ∨ s.hlth.resetHigh = false ∨ (i = .other ∧ s.on CIPH_SECURITY.DEBUG_OPEN = true) →
     Does (.jtagInstruction i) s [.out, .hlth] (fun t =>
       t.hlth = { s.hlth with jtag := i } ∧ t.out = s.out ++ [.jtag i (if i = .idcode then 0x108807A5 else 0)])) ∧
  (∀ (s : State) (i : JtagIr),
     s.hlth.resetHigh = true ∧ (i = .extest ∨ i = .acTest ∨ (i = .other ∧ s.on CIPH_SECURITY.DEBUG_OPEN = false)) →
     Does (.jtagInstruction i) s [] (fun t =>
       t.hlth.jtag = s.hlth.jtag))

/-- A queue engine that fails leaves service, what it fetched and did not dispatch is discarded, and the log, the interrupt and
the quarantine name it. A port scheduler's port and a tenant scheduler leave service. The key-exchange, signature and hash
engines stop as their capability fields show. A cipher pipeline, a timestamp unit and a sampling unit leave service alone; a
difference of the counter's copies stops all stamping and fails the module. -/
def Obligations.UnitErrorsOfControl : Prop :=
  (∀ (s : State) (n : Fin 256),
     s.hostq.enginesOut.contains n.val = false →
     Does (.unitInternalError (.queueEngine n)) s [.csr, .mem, .poison, .out, .freeCtr, .intc, .myk, .hostq, .hlth] (fun t =>
       t.hostq.enginesOut = addOnce s.hostq.enginesOut n.val ∧ t.get HOSTQ_CAP.ENGINES = s.get HOSTQ_CAP.ENGINES - 1 ∧
       (∀ f ∈ t.hostq.fetched, f ∈ s.hostq.fetched ∧ s.engineFor f.work.queue ≠ some n.val) ∧
           t.hostq.dispatched = s.hostq.dispatched ∧
       t.get HOSTQ_ERR_LOG.REASON = 0x0208 ∧ t.on HOSTQ_INT_STATUS.UNIT_FAULT = true ∧ Sent s t (.report 0x0208) ∧
       t.hlth.quarantined = s.hlth.quarantined ++ [(2, n.val / 16)] ∧ t.hlth.logSeq = s.hlth.logSeq + 1)) ∧
  (∀ (s : State) (p : Fin 16),
     p.val < s.line.length →
     Does (.unitInternalError (.portScheduler p)) s [.csr, .mem, .poison, .out, .freeCtr, .intc, .myk, .sched, .hlth,
         .line] (fun t =>
       (t.port p).stopped = true ∧ t.sched.portOut = addOnce s.sched.portOut p.val ∧ t.get SCHED_ERR_LOG.REASON = 0x0306 ∧
       t.get SCHED_CAP.PORT_SCHED = s.get SCHED_CAP.PORT_SCHED - 1 ∧ t.on SCHED_INT_STATUS.UNIT_FAULT = true ∧
       (t.get TOP_CAPCHG.BLOCKS).testBit 3 = true ∧ t.hlth.logSeq = s.hlth.logSeq + 1)) ∧
  (∀ (s : State) (n : Fin 256),
     s.sched.schedOut.contains n.val = false →
     Does (.unitInternalError (.tenantScheduler n)) s [.csr, .mem, .poison, .out, .freeCtr, .intc, .myk, .sched, .hlth] (fun t =>
       t.sched.schedOut = addOnce s.sched.schedOut n.val ∧ t.get SCHED_CAP.TENANT_SCHED = s.get SCHED_CAP.TENANT_SCHED - 1 ∧
       t.on SCHED_INT_STATUS.UNIT_FAULT = true ∧ t.hlth.logSeq = s.hlth.logSeq + 1)) ∧
  (∀ (s : State),
     Does (.unitInternalError .kem) s [.csr, .mem, .poison, .out, .freeCtr, .intc, .myk, .hlth, .fab, .grp, .line] (fun t =>
       t.on CIPH_CAP.KEM_OK = false ∧ t.get CIPH_ERR_LOG.REASON = 0x0A12 ∧ t.on CIPH_INT_STATUS.UNIT_FAULT = true ∧
       t.on TOP_FAULT.ACTIVE = true ∧ t.get TOP_FAULT.REASON = 0x0A12 ∧ t.hlth.logSeq = s.hlth.logSeq + 1)) ∧
  (∀ (s : State) (n : Fin 2),
     Does (.unitInternalError (.slh n)) s [.csr, .mem, .poison, .out, .freeCtr, .intc, .myk, .hlth] (fun t =>
       t.get CIPH_CAP.SLH_ENGINES = s.get CIPH_CAP.SLH_ENGINES - 1 ∧ t.get CIPH_ERR_LOG.REASON = 0x0A12 ∧
           t.on CIPH_INT_STATUS.UNIT_FAULT = true)) ∧
  (∀ (s : State),
     Does (.unitInternalError .hash) s [.csr, .mem, .poison, .out, .freeCtr, .intc, .myk, .hlth] (fun t =>
       t.on CIPH_CAP.HASH_OK = false ∧ t.get CIPH_ERR_LOG.REASON = 0x0A12 ∧ t.on CIPH_INT_STATUS.UNIT_FAULT = true)) ∧
  (∀ (s : State) (n : Fin 64),
     s.pipeOn n = true →
     Does (.unitInternalError (.pipeline n)) s [.csr, .mem, .poison, .out, .freeCtr, .intc, .myk, .hlth, .ciph] (fun t =>
       t.ciph.stopped = addOnce s.ciph.stopped n.val ∧ t.pipeOn n = false ∧ t.get CIPH_ERR_LOG.REASON = 0x0A11 ∧
       t.hlth.quarantined = s.hlth.quarantined ++ [(10, n.val / 8)] ∧ (t.get TOP_CAPCHG.BLOCKS).testBit 10 = true)) ∧
  (∀ (s : State) (u : Fin 48),
     Does (.unitInternalError (.timestamp u)) s [.csr, .mem, .poison, .out, .freeCtr, .intc, .myk, .hlth, .time] (fun t =>
       t.time.unitsOut = addOnce s.time.unitsOut u.val ∧ t.get TIME_ERR_LOG.REASON = 0x0E0A ∧ t.get TIME_ERR_LOG.UNIT = u ∧
       t.on TIME_INT_STATUS.UNIT_FAULT = true ∧ t.hlth.quarantined = s.hlth.quarantined ++ [(14,
           if u.val < 32 then u.val / 8 else 4)])) ∧
  (∀ (s : State),
     Does (.unitInternalError .counterCopies) s [.csr, .out, .intc, .fab, .time, .grp, .line] (fun t =>
       t.time.unitsOut = List.range 48 ∧ t.get TIME_ERR_LOG.REASON = 0x0EFF ∧ t.on TOP_FAULT.ACTIVE = true ∧
           t.get TOP_FAULT.REASON = 0x0EFF)) ∧
  (∀ (s : State) (u : Fin 64),
     Does (.unitInternalError (.sampler u)) s [.csr, .mem, .poison, .out, .freeCtr, .intc, .myk, .pmon, .hlth] (fun t =>
       t.pmon.stoppedUnits = addOnce s.pmon.stoppedUnits u.val ∧ t.get PMON_ERR_LOG.REASON = 0x0F07 ∧ t.get PMON_ERR_LOG.INDEX = u ∧
       t.get PMON_CAP.SAMPLERS = (64 - t.pmon.stoppedUnits.length) % 2 ^ PMON_CAP.SAMPLERS.w ∧
           t.on PMON_INT_STATUS.UNIT_FAULT = true)) ∧
  (∀ (s : State),
     Does (.unitInternalError .interrupts) s [.csr, .mem, .poison, .out, .freeCtr, .intc, .myk, .hlth] (fun t =>
       Sent s t (.report 0x01FF) ∧ (t.get TOP_CAPCHG.BLOCKS).testBit 1 = true ∧ t.hlth.logSeq = s.hlth.logSeq + 1))

/-- A framer or interchange that fails takes its port out of service; a coder or transport engine, a channel controller and a
pool manager are marked stopped; a fabric port engine takes both links of its cluster out of service, a lock-loop controller its
link. The laser bank, a channel controller and a pool manager fail the module. A column of the bed, a stitch unit and a unit of
the codec have their group or cluster quarantined; a fault of the bed's sequencer clears SELVEDGE_OK and fails the module. -/
def Obligations.UnitErrorsOfEngines : Prop :=
  (∀ (s : State) (p : Fin 16) (x : Bool),
     p.val < s.line.length →
     Does (.unitInternalError (.framer p x)) s [.csr, .mem, .poison, .out, .freeCtr, .intc, .myk, .hlth, .line] (fun t =>
       (t.port p).stopped = true ∧ t.get PORT_ERR_LOG.REASON p = 0x0810 ∧ t.on PORT_INT_STATUS.UNIT_FAULT p = true ∧
       t.hlth.quarantined = s.hlth.quarantined ++ [(8, (p.val + (if x then 16 else 0)) / 8)] ∧
           (t.get TOP_CAPCHG.BLOCKS).testBit 8 = true ∧
       t.get LINE_CAP.PORTS = s.get LINE_CAP.PORTS - (if (s.port p).stopped then 0 else 1))) ∧
  (∀ (s : State) (n : Fin 16),
     Does (.unitInternalError (.coder n)) s [.csr, .mem, .poison, .out, .freeCtr, .intc, .myk, .hlth, .xport] (fun t =>
       t.xport.stoppedUnits = addOnce s.xport.stoppedUnits n.val ∧ t.get XPORT_ERR_LOG.REASON = 0x0923 ∧
           t.get XPORT_ERR_LOG.UNIT = n ∧
       t.on XPORT_INT_STATUS.UNIT_FAULT = true ∧ t.hlth.quarantined = s.hlth.quarantined ++ [(9, n.val / 8)])) ∧
  (∀ (s : State) (n : Fin 32),
     Does (.unitInternalError (.transport n)) s [.csr, .mem, .poison, .out, .freeCtr, .intc, .myk, .hlth, .xport] (fun t =>
       t.xport.stoppedUnits = addOnce s.xport.stoppedUnits (16 + n.val) ∧ t.get XPORT_ERR_LOG.UNIT = 16 + n.val ∧
       t.on XPORT_INT_STATUS.UNIT_FAULT = true ∧ t.hlth.quarantined = s.hlth.quarantined ++ [(9, 2 + n.val / 8)])) ∧
  (∀ (s : State) (n : Fin 192),
     Does (.unitInternalError (.fabricPort n)) s [.csr, .mem, .poison, .out, .freeCtr, .intc, .myk, .hlth, .fab] (fun t =>
       t.on FAB_LINK_STATUS.IN_SERVICE (2 * (n.val / 12)) = false ∧ t.on FAB_LINK_STATUS.IN_SERVICE (2 * (n.val / 12) + 1) = false ∧
       t.on FAB_INT_STATUS.UNIT_FAULT = true ∧ t.hlth.quarantined = s.hlth.quarantined ++ [(6, n.val / 12)] ∧
           (t.get TOP_CAPCHG.BLOCKS).testBit 6 = true)) ∧
  (∀ (s : State) (n : Fin 8),
     Does (.unitInternalError (.fabricTable n)) s [.csr, .mem, .poison, .out, .freeCtr, .intc, .myk, .hlth] (fun t =>
       t.get FAB_ERR_LOG.REASON = 0x0614 ∧ t.on FAB_INT_STATUS.UNIT_FAULT = true ∧ t.hlth.logSeq = s.hlth.logSeq + 1)) ∧
  (∀ (s : State) (l : Fin 32),
     s.pho.stopped.contains l.val = false →
     Does (.unitInternalError (.lockLoop l)) s [.csr, .mem, .poison, .out, .freeCtr, .intc, .myk, .hlth, .fab, .pho] (fun t =>
       t.pho.stopped = addOnce s.pho.stopped l.val ∧ t.on FAB_LINK_STATUS.IN_SERVICE l = false ∧ t.get PHO_ERR_LOG.REASON = 0x070F ∧
       t.get PHO_CAP.CONTROLLERS = s.get PHO_CAP.CONTROLLERS - 1 ∧ t.on PHO_INT_STATUS.UNIT_FAULT = true)) ∧
  (∀ (s : State),
     s.pho.stopped.contains 32 = false →
     Does (.unitInternalError .laserBank) s [.csr, .out, .intc, .fab, .grp, .pho, .line] (fun t =>
       t.pho.stopped = addOnce s.pho.stopped 32 ∧ t.on TOP_FAULT.ACTIVE = true ∧ t.get TOP_FAULT.REASON = 0x070F ∧
       t.get PHO_CAP.CONTROLLERS = s.get PHO_CAP.CONTROLLERS - 1)) ∧
  (∀ (s : State) (c : Fin 128),
     Does (.unitInternalError (.channel c)) s [.csr, .mem, .poison, .out, .freeCtr, .intc, .myk, .memst, .hlth, .fab, .grp,
         .line] (fun t =>
       t.memst.badChannels = addOnce s.memst.badChannels c.val ∧ t.get MEM_ERR_LOG.REASON = 0x050C ∧ t.get MEM_ERR_LOG.CHANNEL = c ∧
       t.on TOP_FAULT.ACTIVE = true ∧ t.get TOP_FAULT.REASON = 0x050C)) ∧
  (∀ (s : State) (p : Fin 5) (bad : Bool),
     Does (.unitInternalError (.skeinManager p bad)) s [.csr, .mem, .poison, .out, .freeCtr, .intc, .myk, .skein, .hlth, .fab,
         .grp, .line] (fun t =>
       (t.pool p).stopped = true ∧ t.get SKEIN_ERR_LOG.REASON = 0x0408 ∧ t.on SKEIN_INT_STATUS.UNIT_FAULT = true ∧
       t.on TOP_FAULT.ACTIVE = true ∧ t.get TOP_FAULT.REASON = 0x0408 ∧ (bad = true → Sent s t (.report 0x0409)))) ∧
  (∀ (s : State) (g : Fin 8) (c : Fin 64),
     s.groupOn g = true →
     Does (.unitInternalError (.column g c)) s [.csr, .mem, .poison, .out, .freeCtr, .intc, .myk, .hlth] (fun t =>
       t.hlth.quarantined = s.hlth.quarantined ++ [(11, g.val)] ∧ Sent s t (.report 0x0BFF) ∧
       (s.bedSpareGone g = false → t.on BED_GROUP_MAP.SUBST_VALID g = true ∧ t.get BED_GROUP_MAP.SUBST_COLUMN g = c.val) ∧
       (s.bedSpareGone g = true → t.on BED_GROUP_MAP.OUT_OF_SERVICE g = true ∧ (t.get TOP_CAPCHG.BLOCKS).testBit 11 = true))) ∧
  (∀ (s : State) (c : Fin 48) (u : Fin 8),
     s.stchInService c = true →
     Does (.unitInternalError (.stitch c u)) s [.csr, .mem, .poison, .out, .freeCtr, .intc, .myk, .hlth, .stch, .xport, .fab,
         .grp] (fun t =>
       t.hlth.quarantined = s.hlth.quarantined ++ [(12, if s.stchOnSpare c then 48 + c.val / 16 else c.val)] ∧
           Sent s t (.report 0x0CFF))) ∧
  (∀ (s : State) (c : Fin 32) (u : Fin 16),
     s.purlInService c = true →
     Does (.unitInternalError (.codec c u)) s [.csr, .mem, .poison, .out, .freeCtr, .intc, .myk, .hlth] (fun t =>
       t.hlth.quarantined = s.hlth.quarantined ++ [(13, ((s.purlSpareFor c).map (32 + ·)).getD c.val)] ∧
           Sent s t (.report 0x0DFF) ∧ t.hlth.logSeq = s.hlth.logSeq + 1)) ∧
  (∀ (s : State),
     Does (.unitInternalError .sequencer) s [.csr, .mem, .poison, .out, .freeCtr, .intc, .myk, .hlth, .bed, .stch, .xport, .fab,
         .grp, .line] (fun t =>
       t.on BED_STATUS.SELVEDGE_OK = false ∧ t.on TOP_FAULT.ACTIVE = true ∧ t.bed.suspect = []))

end
end

