-- ==== Sys2Proof/Laws/Regs.lean ====
section
/-!
SUPPORT. Laws/Regs.lean: what a register write does to what registers read: a field reads the value stored, cut to its
width; every other bit and every other register reads as before.
-/
namespace Sys2Proof.Machine
open Csr

/-! ## Bits of a word -/

theorem testBit_getBits (w lo n k : Nat) : (getBits w lo n).testBit k = (decide (k < n) && w.testBit (lo + k)) := by
  simp only [getBits, Nat.testBit_mod_two_pow, Nat.testBit_shiftRight]

theorem getLsbD_setBits (w : Word) (lo n v k : Nat) (hn : lo + n ≤ 64) (hk : k < 64) :
    (setBits w lo n v).getLsbD k = if lo ≤ k ∧ k < lo + n then v.testBit (k - lo) else w.getLsbD k := by
  have hm : ∀ i : Nat, Nat.testBit (2 ^ n - 1) i = decide (i < n) := fun i => by
    simp [Nat.testBit_two_pow_sub_one]
  simp only [setBits, BitVec.getLsbD_or, BitVec.getLsbD_and, BitVec.getLsbD_not, BitVec.getLsbD_shiftLeft, BitVec.getLsbD_ofNat, hm]
  by_cases h1 : k < lo
  · have : ¬ lo ≤ k := by omega
    simp [h1, hk, this]
  · have h2 : lo ≤ k := by omega
    have h3 : k - lo < 64 := by omega
    by_cases h4 : k < lo + n
    · have h5 : k - lo < n := by omega
      simp [h1, h2, hk, h3, h4, h5]
    · have h5 : ¬ (k - lo < n) := by omega
      simp [h1, h2, hk, h3, h4, h5]

/-- A field reads what was stored in it, cut to its width. -/
theorem getBits_setBits_same (w : Word) (lo n v : Nat) (h : lo + n ≤ 64) :
    getBits (setBits w lo n v).toNat lo n = v % 2 ^ n := by
  apply Nat.eq_of_testBit_eq
  intro k
  rw [testBit_getBits, Nat.testBit_mod_two_pow]
  by_cases hk : k < n
  · have h1 := getLsbD_setBits w lo n v (lo + k) h (by omega)
    rw [BitVec.getLsbD] at h1
    rw [h1]
    simp [hk]
  · simp [hk]

/-- Bits outside the stored field read as before. -/
theorem getBits_setBits_other (w : Word) (lo n v lo' n' : Nat) (h : lo + n ≤ 64) (h' : lo' + n' ≤ 64)
    (hd : lo' + n' ≤ lo ∨ lo + n ≤ lo') : getBits (setBits w lo n v).toNat lo' n' = getBits w.toNat lo' n' := by
  apply Nat.eq_of_testBit_eq
  intro k
  rw [testBit_getBits, testBit_getBits]
  by_cases hk : k < n'
  · have h1 := getLsbD_setBits w lo n v (lo' + k) h (by omega)
    rw [BitVec.getLsbD] at h1
    have h2 : ¬ (lo ≤ lo' + k ∧ lo' + k < lo + n) := by omega
    rw [h1, if_neg h2, BitVec.getLsbD]
  · simp [hk]

/-! ## Lists by key -/

theorem wordAt_entryPut_same (l : List (Nat × Word)) (k : Nat) (v : Word) (h : ∀ e ∈ l, e.1 ≠ k) :
    wordAt (entryPut k v l) k = some v := by
  induction l with
  | nil => simp [entryPut, wordAt]
  | cons e r ih =>
    obtain ⟨a, b⟩ := e
    have ha : a ≠ k := h (a, b) (by simp)
    have hr := ih (fun e he => h e (by simp [he]))
    by_cases hk : k < a
    · simp [entryPut, hk, wordAt]
    · simp [entryPut, hk, wordAt, ha, hr]

theorem wordAt_entryPut_other (l : List (Nat × Word)) (k k' : Nat) (v : Word) (h : k' ≠ k) :
    wordAt (entryPut k v l) k' = wordAt l k' := by
  induction l with
  | nil => simp [entryPut, wordAt, Ne.symm h]
  | cons e r ih =>
    obtain ⟨a, b⟩ := e
    by_cases hk : k < a
    · simp [entryPut, hk, wordAt, Ne.symm h]
    · simp [entryPut, hk, wordAt, ih]

theorem wordAt_filter_same (l : List (Nat × Word)) (k : Nat) : wordAt (l.filter (fun e => e.1 ≠ k)) k = none := by
  induction l with
  | nil => rfl
  | cons e r ih =>
    obtain ⟨a, b⟩ := e
    by_cases hk : a = k
    · rw [List.filter_cons_of_neg (by simp [hk])]; exact ih
    · rw [List.filter_cons_of_pos (by simp [hk])]; simp only [wordAt, hk, if_false]; exact ih

theorem wordAt_filter_other (l : List (Nat × Word)) (k k' : Nat) (h : k' ≠ k) :
    wordAt (l.filter (fun e => e.1 ≠ k)) k' = wordAt l k' := by
  induction l with
  | nil => rfl
  | cons e r ih =>
    obtain ⟨a, b⟩ := e
    by_cases hk : a = k
    · rw [List.filter_cons_of_neg (by simp [hk])]
      have : a ≠ k' := by omega
      simp only [wordAt, this, if_false]; exact ih
    · rw [List.filter_cons_of_pos (by simp [hk])]; simp only [wordAt]; rw [ih]

theorem wordAt_wordPut_same (l : List (Nat × Word)) (k : Nat) (d v : Word) : (wordAt (wordPut l k d v) k).getD d = v := by
  unfold wordPut
  split
  · next h => rw [wordAt_filter_same, Option.getD_none, h]
  · rw [wordAt_entryPut_same _ _ _ (fun e he => by simpa using (List.mem_filter.mp he).2), Option.getD_some]

theorem wordAt_wordPut_other (l : List (Nat × Word)) (k k' : Nat) (d v : Word) (h : k' ≠ k) :
    wordAt (wordPut l k d v) k' = wordAt l k' := by
  unfold wordPut
  split
  · exact wordAt_filter_other l k k' h
  · rw [wordAt_entryPut_other _ _ _ _ h, wordAt_filter_other l k k' h]

/-! ## Registers -/

/-- A register reads the word stored in it. -/
theorem rdReg_wrReg_same (s : State) (r : Reg) (v : Word) (i j : Nat) : (s.wrReg r v i j).rdReg r i j = v :=
  wordAt_wordPut_same s.csr (r.addr i j) (r.resetWord i j) v

/-- Every other register reads as before. -/
theorem rdReg_wrReg_other (s : State) (r r' : Reg) (v : Word) (i j i' j' : Nat) (h : r'.addr i' j' ≠ r.addr i j) :
    (s.wrReg r v i j).rdReg r' i' j' = s.rdReg r' i' j' := by
  simp only [State.rdReg, State.wrReg, wordAt_wordPut_other _ _ _ _ _ h]

/-- A field reads the value stored in it, cut to its width. -/
theorem get_set_same (s : State) (f : Field) (v i j : Nat) (h : f.lo + f.w ≤ 64) : (s.set f v i j).get f i j = v % 2 ^ f.w := by
  simp only [State.get, State.set, rdReg_wrReg_same, getBits_setBits_same _ _ _ _ h]

/-- A field of the same register that shares no bit with the stored one reads as before. -/
theorem get_set_bits (s : State) (f g : Field) (v i j : Nat) (hr : g.reg = f.reg) (h : f.lo + f.w ≤ 64) (h' : g.lo + g.w ≤ 64)
    (hd : g.lo + g.w ≤ f.lo ∨ f.lo + f.w ≤ g.lo) : (s.set f v i j).get g i j = s.get g i j := by
  simp only [State.get, State.set, hr, rdReg_wrReg_same, getBits_setBits_other _ _ _ _ _ _ h h' hd]

/-- A field of a register at another address reads as before. -/
theorem get_set_other (s : State) (f g : Field) (v i j i' j' : Nat) (h : g.reg.addr i' j' ≠ f.reg.addr i j) :
    (s.set f v i j).get g i' j' = s.get g i' j' := by
  simp only [State.get, State.set, rdReg_wrReg_other _ _ _ _ _ _ _ _ h]

/-- A register at another address reads as before. -/
theorem rdReg_set_other (s : State) (f : Field) (r : Reg) (v i j i' j' : Nat) (h : r.addr i' j' ≠ f.reg.addr i j) :
    (s.set f v i j).rdReg r i' j' = s.rdReg r i' j' := rdReg_wrReg_other _ _ _ _ _ _ _ _ h

/-- What a register reads depends on the listed words alone. -/
theorem rdReg_congr {s t : State} (h : t.csr = s.csr) (r : Reg) (i j : Nat) : t.rdReg r i j = s.rdReg r i j := by
  simp only [State.rdReg, h]

/-- What a field reads depends on the listed words alone. -/
theorem get_congr {s t : State} (h : t.csr = s.csr) (f : Field) (i j : Nat) : t.get f i j = s.get f i j := by
  simp only [State.get, rdReg_congr h]

/-- A saturating counter holds the sum, at most its greatest value. -/
theorem get_addSat (s : State) (f : Field) (v i j : Nat) (h : f.lo + f.w ≤ 64) :
    (s.addSat f v i j).get f i j = min (s.get f i j + v) (2 ^ f.w - 1) := by
  rw [State.addSat, get_set_same _ _ _ _ _ h, satAdd]
  apply Nat.mod_eq_of_lt
  have : 0 < 2 ^ f.w := Nat.two_pow_pos _
  omega

/-- A wrapping counter holds the sum modulo its range. -/
theorem get_addWrap (s : State) (f : Field) (v i j : Nat) (h : f.lo + f.w ≤ 64) :
    (s.addWrap f v i j).get f i j = (s.get f i j + v) % 2 ^ f.w := get_set_same _ _ _ _ _ h

/-! ## Operations that leave registers alone -/

@[simp] theorem emit_csr (s : State) (o : Out) : (s.emit o).csr = s.csr := rfl
@[simp] theorem report_csr (s : State) (r : Nat) : (s.report r).csr = s.csr := rfl
@[simp] theorem sendIntr_csr (s : State) : s.sendIntr.csr = s.csr := rfl
@[simp] theorem intcUpdate_csr (s : State) : s.intcUpdate.csr = s.csr := by
  unfold State.intcUpdate
  simp only
  split
  · rfl
  · split <;> rfl
@[simp] theorem raise_csr (s : State) (f : Field) (i : Nat) : (s.raise f i).csr = (s.set f 1 i).csr := by
  simp [State.raise]

/-- Raising an interrupt bit is storing 1 in it, as far as registers read. -/
theorem get_raise (s : State) (f g : Field) (i i' j' : Nat) : (s.raise f i).get g i' j' = (s.set f 1 i).get g i' j' :=
  get_congr (raise_csr s f i) g i' j'

@[simp] theorem get_emit (s : State) (o : Out) (f : Field) (i j : Nat) : (s.emit o).get f i j = s.get f i j := rfl
@[simp] theorem get_report (s : State) (r : Nat) (f : Field) (i j : Nat) : (s.report r).get f i j = s.get f i j := rfl
@[simp] theorem get_intcUpdate (s : State) (f : Field) (i j : Nat) : s.intcUpdate.get f i j = s.get f i j :=
  get_congr (intcUpdate_csr s) f i j

end Sys2Proof.Machine
end

