-- ==== Sys2Proof/Laws/State.lean ====
section
/-!
SUPPORT. Laws/State.lean: for each update of the state, the fields that it leaves as they are, one lemma a field, so that no
proof unfolds a record update. What the update does to its own field is in Laws/Regs.lean and Laws/Memory.lean.
-/
namespace Sys2Proof.Machine

/-! ## A register write -/

@[simp] theorem State.wrReg_pending (s : State) (r : Reg) (v : Word) (i j : Nat) : (s.wrReg r v i j).pending = s.pending := rfl
@[simp] theorem State.wrReg_mem (s : State) (r : Reg) (v : Word) (i j : Nat) : (s.wrReg r v i j).mem = s.mem := rfl
@[simp] theorem State.wrReg_poison (s : State) (r : Reg) (v : Word) (i j : Nat) : (s.wrReg r v i j).poison = s.poison := rfl
@[simp] theorem State.wrReg_out (s : State) (r : Reg) (v : Word) (i j : Nat) : (s.wrReg r v i j).out = s.out := rfl
@[simp] theorem State.wrReg_freeCtr (s : State) (r : Reg) (v : Word) (i j : Nat) : (s.wrReg r v i j).freeCtr = s.freeCtr := rfl
@[simp] theorem State.wrReg_timeFrac (s : State) (r : Reg) (v : Word) (i j : Nat) : (s.wrReg r v i j).timeFrac = s.timeFrac := rfl
@[simp] theorem State.wrReg_intc (s : State) (r : Reg) (v : Word) (i j : Nat) : (s.wrReg r v i j).intc = s.intc := rfl
@[simp] theorem State.wrReg_myk (s : State) (r : Reg) (v : Word) (i j : Nat) : (s.wrReg r v i j).myk = s.myk := rfl
@[simp] theorem State.wrReg_hostq (s : State) (r : Reg) (v : Word) (i j : Nat) : (s.wrReg r v i j).hostq = s.hostq := rfl
@[simp] theorem State.wrReg_sched (s : State) (r : Reg) (v : Word) (i j : Nat) : (s.wrReg r v i j).sched = s.sched := rfl
@[simp] theorem State.wrReg_skein (s : State) (r : Reg) (v : Word) (i j : Nat) : (s.wrReg r v i j).skein = s.skein := rfl
@[simp] theorem State.wrReg_memst (s : State) (r : Reg) (v : Word) (i j : Nat) : (s.wrReg r v i j).memst = s.memst := rfl
@[simp] theorem State.wrReg_pmon (s : State) (r : Reg) (v : Word) (i j : Nat) : (s.wrReg r v i j).pmon = s.pmon := rfl
@[simp] theorem State.wrReg_hlth (s : State) (r : Reg) (v : Word) (i j : Nat) : (s.wrReg r v i j).hlth = s.hlth := rfl
@[simp] theorem State.wrReg_bed (s : State) (r : Reg) (v : Word) (i j : Nat) : (s.wrReg r v i j).bed = s.bed := rfl
@[simp] theorem State.wrReg_stch (s : State) (r : Reg) (v : Word) (i j : Nat) : (s.wrReg r v i j).stch = s.stch := rfl
@[simp] theorem State.wrReg_purl (s : State) (r : Reg) (v : Word) (i j : Nat) : (s.wrReg r v i j).purl = s.purl := rfl
@[simp] theorem State.wrReg_ciph (s : State) (r : Reg) (v : Word) (i j : Nat) : (s.wrReg r v i j).ciph = s.ciph := rfl
@[simp] theorem State.wrReg_xport (s : State) (r : Reg) (v : Word) (i j : Nat) : (s.wrReg r v i j).xport = s.xport := rfl
@[simp] theorem State.wrReg_fab (s : State) (r : Reg) (v : Word) (i j : Nat) : (s.wrReg r v i j).fab = s.fab := rfl
@[simp] theorem State.wrReg_time (s : State) (r : Reg) (v : Word) (i j : Nat) : (s.wrReg r v i j).time = s.time := rfl
@[simp] theorem State.wrReg_grp (s : State) (r : Reg) (v : Word) (i j : Nat) : (s.wrReg r v i j).grp = s.grp := rfl
@[simp] theorem State.wrReg_pho (s : State) (r : Reg) (v : Word) (i j : Nat) : (s.wrReg r v i j).pho = s.pho := rfl
@[simp] theorem State.wrReg_boot (s : State) (r : Reg) (v : Word) (i j : Nat) : (s.wrReg r v i j).boot = s.boot := rfl
@[simp] theorem State.wrReg_ctl (s : State) (r : Reg) (v : Word) (i j : Nat) : (s.wrReg r v i j).ctl = s.ctl := rfl
@[simp] theorem State.wrReg_keep (s : State) (r : Reg) (v : Word) (i j : Nat) : (s.wrReg r v i j).keep = s.keep := rfl
@[simp] theorem State.wrReg_rerun (s : State) (r : Reg) (v : Word) (i j : Nat) : (s.wrReg r v i j).rerun = s.rerun := rfl
@[simp] theorem State.wrReg_line (s : State) (r : Reg) (v : Word) (i j : Nat) : (s.wrReg r v i j).line = s.line := rfl

@[simp] theorem State.set_pending (s : State) (f : Field) (v i j : Nat) : (s.set f v i j).pending = s.pending := rfl
@[simp] theorem State.set_mem (s : State) (f : Field) (v i j : Nat) : (s.set f v i j).mem = s.mem := rfl
@[simp] theorem State.set_poison (s : State) (f : Field) (v i j : Nat) : (s.set f v i j).poison = s.poison := rfl
@[simp] theorem State.set_out (s : State) (f : Field) (v i j : Nat) : (s.set f v i j).out = s.out := rfl
@[simp] theorem State.set_freeCtr (s : State) (f : Field) (v i j : Nat) : (s.set f v i j).freeCtr = s.freeCtr := rfl
@[simp] theorem State.set_timeFrac (s : State) (f : Field) (v i j : Nat) : (s.set f v i j).timeFrac = s.timeFrac := rfl
@[simp] theorem State.set_intc (s : State) (f : Field) (v i j : Nat) : (s.set f v i j).intc = s.intc := rfl
@[simp] theorem State.set_myk (s : State) (f : Field) (v i j : Nat) : (s.set f v i j).myk = s.myk := rfl
@[simp] theorem State.set_hostq (s : State) (f : Field) (v i j : Nat) : (s.set f v i j).hostq = s.hostq := rfl
@[simp] theorem State.set_sched (s : State) (f : Field) (v i j : Nat) : (s.set f v i j).sched = s.sched := rfl
@[simp] theorem State.set_skein (s : State) (f : Field) (v i j : Nat) : (s.set f v i j).skein = s.skein := rfl
@[simp] theorem State.set_memst (s : State) (f : Field) (v i j : Nat) : (s.set f v i j).memst = s.memst := rfl
@[simp] theorem State.set_pmon (s : State) (f : Field) (v i j : Nat) : (s.set f v i j).pmon = s.pmon := rfl
@[simp] theorem State.set_hlth (s : State) (f : Field) (v i j : Nat) : (s.set f v i j).hlth = s.hlth := rfl
@[simp] theorem State.set_bed (s : State) (f : Field) (v i j : Nat) : (s.set f v i j).bed = s.bed := rfl
@[simp] theorem State.set_stch (s : State) (f : Field) (v i j : Nat) : (s.set f v i j).stch = s.stch := rfl
@[simp] theorem State.set_purl (s : State) (f : Field) (v i j : Nat) : (s.set f v i j).purl = s.purl := rfl
@[simp] theorem State.set_ciph (s : State) (f : Field) (v i j : Nat) : (s.set f v i j).ciph = s.ciph := rfl
@[simp] theorem State.set_xport (s : State) (f : Field) (v i j : Nat) : (s.set f v i j).xport = s.xport := rfl
@[simp] theorem State.set_fab (s : State) (f : Field) (v i j : Nat) : (s.set f v i j).fab = s.fab := rfl
@[simp] theorem State.set_time (s : State) (f : Field) (v i j : Nat) : (s.set f v i j).time = s.time := rfl
@[simp] theorem State.set_grp (s : State) (f : Field) (v i j : Nat) : (s.set f v i j).grp = s.grp := rfl
@[simp] theorem State.set_pho (s : State) (f : Field) (v i j : Nat) : (s.set f v i j).pho = s.pho := rfl
@[simp] theorem State.set_boot (s : State) (f : Field) (v i j : Nat) : (s.set f v i j).boot = s.boot := rfl
@[simp] theorem State.set_ctl (s : State) (f : Field) (v i j : Nat) : (s.set f v i j).ctl = s.ctl := rfl
@[simp] theorem State.set_keep (s : State) (f : Field) (v i j : Nat) : (s.set f v i j).keep = s.keep := rfl
@[simp] theorem State.set_rerun (s : State) (f : Field) (v i j : Nat) : (s.set f v i j).rerun = s.rerun := rfl
@[simp] theorem State.set_line (s : State) (f : Field) (v i j : Nat) : (s.set f v i j).line = s.line := rfl

@[simp] theorem State.addSat_pending (s : State) (f : Field) (v i j : Nat) : (s.addSat f v i j).pending = s.pending := rfl
@[simp] theorem State.addSat_mem (s : State) (f : Field) (v i j : Nat) : (s.addSat f v i j).mem = s.mem := rfl
@[simp] theorem State.addSat_poison (s : State) (f : Field) (v i j : Nat) : (s.addSat f v i j).poison = s.poison := rfl
@[simp] theorem State.addSat_out (s : State) (f : Field) (v i j : Nat) : (s.addSat f v i j).out = s.out := rfl
@[simp] theorem State.addSat_freeCtr (s : State) (f : Field) (v i j : Nat) : (s.addSat f v i j).freeCtr = s.freeCtr := rfl
@[simp] theorem State.addSat_timeFrac (s : State) (f : Field) (v i j : Nat) : (s.addSat f v i j).timeFrac = s.timeFrac := rfl
@[simp] theorem State.addSat_intc (s : State) (f : Field) (v i j : Nat) : (s.addSat f v i j).intc = s.intc := rfl
@[simp] theorem State.addSat_myk (s : State) (f : Field) (v i j : Nat) : (s.addSat f v i j).myk = s.myk := rfl
@[simp] theorem State.addSat_hostq (s : State) (f : Field) (v i j : Nat) : (s.addSat f v i j).hostq = s.hostq := rfl
@[simp] theorem State.addSat_sched (s : State) (f : Field) (v i j : Nat) : (s.addSat f v i j).sched = s.sched := rfl
@[simp] theorem State.addSat_skein (s : State) (f : Field) (v i j : Nat) : (s.addSat f v i j).skein = s.skein := rfl
@[simp] theorem State.addSat_memst (s : State) (f : Field) (v i j : Nat) : (s.addSat f v i j).memst = s.memst := rfl
@[simp] theorem State.addSat_pmon (s : State) (f : Field) (v i j : Nat) : (s.addSat f v i j).pmon = s.pmon := rfl
@[simp] theorem State.addSat_hlth (s : State) (f : Field) (v i j : Nat) : (s.addSat f v i j).hlth = s.hlth := rfl
@[simp] theorem State.addSat_bed (s : State) (f : Field) (v i j : Nat) : (s.addSat f v i j).bed = s.bed := rfl
@[simp] theorem State.addSat_stch (s : State) (f : Field) (v i j : Nat) : (s.addSat f v i j).stch = s.stch := rfl
@[simp] theorem State.addSat_purl (s : State) (f : Field) (v i j : Nat) : (s.addSat f v i j).purl = s.purl := rfl
@[simp] theorem State.addSat_ciph (s : State) (f : Field) (v i j : Nat) : (s.addSat f v i j).ciph = s.ciph := rfl
@[simp] theorem State.addSat_xport (s : State) (f : Field) (v i j : Nat) : (s.addSat f v i j).xport = s.xport := rfl
@[simp] theorem State.addSat_fab (s : State) (f : Field) (v i j : Nat) : (s.addSat f v i j).fab = s.fab := rfl
@[simp] theorem State.addSat_time (s : State) (f : Field) (v i j : Nat) : (s.addSat f v i j).time = s.time := rfl
@[simp] theorem State.addSat_grp (s : State) (f : Field) (v i j : Nat) : (s.addSat f v i j).grp = s.grp := rfl
@[simp] theorem State.addSat_pho (s : State) (f : Field) (v i j : Nat) : (s.addSat f v i j).pho = s.pho := rfl
@[simp] theorem State.addSat_boot (s : State) (f : Field) (v i j : Nat) : (s.addSat f v i j).boot = s.boot := rfl
@[simp] theorem State.addSat_ctl (s : State) (f : Field) (v i j : Nat) : (s.addSat f v i j).ctl = s.ctl := rfl
@[simp] theorem State.addSat_keep (s : State) (f : Field) (v i j : Nat) : (s.addSat f v i j).keep = s.keep := rfl
@[simp] theorem State.addSat_rerun (s : State) (f : Field) (v i j : Nat) : (s.addSat f v i j).rerun = s.rerun := rfl
@[simp] theorem State.addSat_line (s : State) (f : Field) (v i j : Nat) : (s.addSat f v i j).line = s.line := rfl

@[simp] theorem State.addWrap_pending (s : State) (f : Field) (v i j : Nat) : (s.addWrap f v i j).pending = s.pending := rfl
@[simp] theorem State.addWrap_mem (s : State) (f : Field) (v i j : Nat) : (s.addWrap f v i j).mem = s.mem := rfl
@[simp] theorem State.addWrap_poison (s : State) (f : Field) (v i j : Nat) : (s.addWrap f v i j).poison = s.poison := rfl
@[simp] theorem State.addWrap_out (s : State) (f : Field) (v i j : Nat) : (s.addWrap f v i j).out = s.out := rfl
@[simp] theorem State.addWrap_freeCtr (s : State) (f : Field) (v i j : Nat) : (s.addWrap f v i j).freeCtr = s.freeCtr := rfl
@[simp] theorem State.addWrap_timeFrac (s : State) (f : Field) (v i j : Nat) : (s.addWrap f v i j).timeFrac = s.timeFrac := rfl
@[simp] theorem State.addWrap_intc (s : State) (f : Field) (v i j : Nat) : (s.addWrap f v i j).intc = s.intc := rfl
@[simp] theorem State.addWrap_myk (s : State) (f : Field) (v i j : Nat) : (s.addWrap f v i j).myk = s.myk := rfl
@[simp] theorem State.addWrap_hostq (s : State) (f : Field) (v i j : Nat) : (s.addWrap f v i j).hostq = s.hostq := rfl
@[simp] theorem State.addWrap_sched (s : State) (f : Field) (v i j : Nat) : (s.addWrap f v i j).sched = s.sched := rfl
@[simp] theorem State.addWrap_skein (s : State) (f : Field) (v i j : Nat) : (s.addWrap f v i j).skein = s.skein := rfl
@[simp] theorem State.addWrap_memst (s : State) (f : Field) (v i j : Nat) : (s.addWrap f v i j).memst = s.memst := rfl
@[simp] theorem State.addWrap_pmon (s : State) (f : Field) (v i j : Nat) : (s.addWrap f v i j).pmon = s.pmon := rfl
@[simp] theorem State.addWrap_hlth (s : State) (f : Field) (v i j : Nat) : (s.addWrap f v i j).hlth = s.hlth := rfl
@[simp] theorem State.addWrap_bed (s : State) (f : Field) (v i j : Nat) : (s.addWrap f v i j).bed = s.bed := rfl
@[simp] theorem State.addWrap_stch (s : State) (f : Field) (v i j : Nat) : (s.addWrap f v i j).stch = s.stch := rfl
@[simp] theorem State.addWrap_purl (s : State) (f : Field) (v i j : Nat) : (s.addWrap f v i j).purl = s.purl := rfl
@[simp] theorem State.addWrap_ciph (s : State) (f : Field) (v i j : Nat) : (s.addWrap f v i j).ciph = s.ciph := rfl
@[simp] theorem State.addWrap_xport (s : State) (f : Field) (v i j : Nat) : (s.addWrap f v i j).xport = s.xport := rfl
@[simp] theorem State.addWrap_fab (s : State) (f : Field) (v i j : Nat) : (s.addWrap f v i j).fab = s.fab := rfl
@[simp] theorem State.addWrap_time (s : State) (f : Field) (v i j : Nat) : (s.addWrap f v i j).time = s.time := rfl
@[simp] theorem State.addWrap_grp (s : State) (f : Field) (v i j : Nat) : (s.addWrap f v i j).grp = s.grp := rfl
@[simp] theorem State.addWrap_pho (s : State) (f : Field) (v i j : Nat) : (s.addWrap f v i j).pho = s.pho := rfl
@[simp] theorem State.addWrap_boot (s : State) (f : Field) (v i j : Nat) : (s.addWrap f v i j).boot = s.boot := rfl
@[simp] theorem State.addWrap_ctl (s : State) (f : Field) (v i j : Nat) : (s.addWrap f v i j).ctl = s.ctl := rfl
@[simp] theorem State.addWrap_keep (s : State) (f : Field) (v i j : Nat) : (s.addWrap f v i j).keep = s.keep := rfl
@[simp] theorem State.addWrap_rerun (s : State) (f : Field) (v i j : Nat) : (s.addWrap f v i j).rerun = s.rerun := rfl
@[simp] theorem State.addWrap_line (s : State) (f : Field) (v i j : Nat) : (s.addWrap f v i j).line = s.line := rfl

/-! ## Sending and reporting -/

@[simp] theorem State.emit_pending (s : State) (x : Out) : (s.emit x).pending = s.pending := rfl
@[simp] theorem State.emit_csr (s : State) (x : Out) : (s.emit x).csr = s.csr := rfl
@[simp] theorem State.emit_mem (s : State) (x : Out) : (s.emit x).mem = s.mem := rfl
@[simp] theorem State.emit_poison (s : State) (x : Out) : (s.emit x).poison = s.poison := rfl
@[simp] theorem State.emit_freeCtr (s : State) (x : Out) : (s.emit x).freeCtr = s.freeCtr := rfl
@[simp] theorem State.emit_timeFrac (s : State) (x : Out) : (s.emit x).timeFrac = s.timeFrac := rfl
@[simp] theorem State.emit_intc (s : State) (x : Out) : (s.emit x).intc = s.intc := rfl
@[simp] theorem State.emit_myk (s : State) (x : Out) : (s.emit x).myk = s.myk := rfl
@[simp] theorem State.emit_hostq (s : State) (x : Out) : (s.emit x).hostq = s.hostq := rfl
@[simp] theorem State.emit_sched (s : State) (x : Out) : (s.emit x).sched = s.sched := rfl
@[simp] theorem State.emit_skein (s : State) (x : Out) : (s.emit x).skein = s.skein := rfl
@[simp] theorem State.emit_memst (s : State) (x : Out) : (s.emit x).memst = s.memst := rfl
@[simp] theorem State.emit_pmon (s : State) (x : Out) : (s.emit x).pmon = s.pmon := rfl
@[simp] theorem State.emit_hlth (s : State) (x : Out) : (s.emit x).hlth = s.hlth := rfl
@[simp] theorem State.emit_bed (s : State) (x : Out) : (s.emit x).bed = s.bed := rfl
@[simp] theorem State.emit_stch (s : State) (x : Out) : (s.emit x).stch = s.stch := rfl
@[simp] theorem State.emit_purl (s : State) (x : Out) : (s.emit x).purl = s.purl := rfl
@[simp] theorem State.emit_ciph (s : State) (x : Out) : (s.emit x).ciph = s.ciph := rfl
@[simp] theorem State.emit_xport (s : State) (x : Out) : (s.emit x).xport = s.xport := rfl
@[simp] theorem State.emit_fab (s : State) (x : Out) : (s.emit x).fab = s.fab := rfl
@[simp] theorem State.emit_time (s : State) (x : Out) : (s.emit x).time = s.time := rfl
@[simp] theorem State.emit_grp (s : State) (x : Out) : (s.emit x).grp = s.grp := rfl
@[simp] theorem State.emit_pho (s : State) (x : Out) : (s.emit x).pho = s.pho := rfl
@[simp] theorem State.emit_boot (s : State) (x : Out) : (s.emit x).boot = s.boot := rfl
@[simp] theorem State.emit_ctl (s : State) (x : Out) : (s.emit x).ctl = s.ctl := rfl
@[simp] theorem State.emit_keep (s : State) (x : Out) : (s.emit x).keep = s.keep := rfl
@[simp] theorem State.emit_rerun (s : State) (x : Out) : (s.emit x).rerun = s.rerun := rfl
@[simp] theorem State.emit_line (s : State) (x : Out) : (s.emit x).line = s.line := rfl

@[simp] theorem State.report_pending (s : State) (n : Nat) : (s.report n).pending = s.pending := rfl
@[simp] theorem State.report_csr (s : State) (n : Nat) : (s.report n).csr = s.csr := rfl
@[simp] theorem State.report_mem (s : State) (n : Nat) : (s.report n).mem = s.mem := rfl
@[simp] theorem State.report_poison (s : State) (n : Nat) : (s.report n).poison = s.poison := rfl
@[simp] theorem State.report_freeCtr (s : State) (n : Nat) : (s.report n).freeCtr = s.freeCtr := rfl
@[simp] theorem State.report_timeFrac (s : State) (n : Nat) : (s.report n).timeFrac = s.timeFrac := rfl
@[simp] theorem State.report_intc (s : State) (n : Nat) : (s.report n).intc = s.intc := rfl
@[simp] theorem State.report_myk (s : State) (n : Nat) : (s.report n).myk = s.myk := rfl
@[simp] theorem State.report_hostq (s : State) (n : Nat) : (s.report n).hostq = s.hostq := rfl
@[simp] theorem State.report_sched (s : State) (n : Nat) : (s.report n).sched = s.sched := rfl
@[simp] theorem State.report_skein (s : State) (n : Nat) : (s.report n).skein = s.skein := rfl
@[simp] theorem State.report_memst (s : State) (n : Nat) : (s.report n).memst = s.memst := rfl
@[simp] theorem State.report_pmon (s : State) (n : Nat) : (s.report n).pmon = s.pmon := rfl
@[simp] theorem State.report_hlth (s : State) (n : Nat) : (s.report n).hlth = s.hlth := rfl
@[simp] theorem State.report_bed (s : State) (n : Nat) : (s.report n).bed = s.bed := rfl
@[simp] theorem State.report_stch (s : State) (n : Nat) : (s.report n).stch = s.stch := rfl
@[simp] theorem State.report_purl (s : State) (n : Nat) : (s.report n).purl = s.purl := rfl
@[simp] theorem State.report_ciph (s : State) (n : Nat) : (s.report n).ciph = s.ciph := rfl
@[simp] theorem State.report_xport (s : State) (n : Nat) : (s.report n).xport = s.xport := rfl
@[simp] theorem State.report_fab (s : State) (n : Nat) : (s.report n).fab = s.fab := rfl
@[simp] theorem State.report_time (s : State) (n : Nat) : (s.report n).time = s.time := rfl
@[simp] theorem State.report_grp (s : State) (n : Nat) : (s.report n).grp = s.grp := rfl
@[simp] theorem State.report_pho (s : State) (n : Nat) : (s.report n).pho = s.pho := rfl
@[simp] theorem State.report_boot (s : State) (n : Nat) : (s.report n).boot = s.boot := rfl
@[simp] theorem State.report_ctl (s : State) (n : Nat) : (s.report n).ctl = s.ctl := rfl
@[simp] theorem State.report_keep (s : State) (n : Nat) : (s.report n).keep = s.keep := rfl
@[simp] theorem State.report_rerun (s : State) (n : Nat) : (s.report n).rerun = s.rerun := rfl
@[simp] theorem State.report_line (s : State) (n : Nat) : (s.report n).line = s.line := rfl

/-! ## A free value -/

@[simp] theorem State.fresh_pending (s : State) : (s.fresh.2).pending = s.pending := rfl
@[simp] theorem State.fresh_csr (s : State) : (s.fresh.2).csr = s.csr := rfl
@[simp] theorem State.fresh_mem (s : State) : (s.fresh.2).mem = s.mem := rfl
@[simp] theorem State.fresh_poison (s : State) : (s.fresh.2).poison = s.poison := rfl
@[simp] theorem State.fresh_out (s : State) : (s.fresh.2).out = s.out := rfl
@[simp] theorem State.fresh_timeFrac (s : State) : (s.fresh.2).timeFrac = s.timeFrac := rfl
@[simp] theorem State.fresh_intc (s : State) : (s.fresh.2).intc = s.intc := rfl
@[simp] theorem State.fresh_myk (s : State) : (s.fresh.2).myk = s.myk := rfl
@[simp] theorem State.fresh_hostq (s : State) : (s.fresh.2).hostq = s.hostq := rfl
@[simp] theorem State.fresh_sched (s : State) : (s.fresh.2).sched = s.sched := rfl
@[simp] theorem State.fresh_skein (s : State) : (s.fresh.2).skein = s.skein := rfl
@[simp] theorem State.fresh_memst (s : State) : (s.fresh.2).memst = s.memst := rfl
@[simp] theorem State.fresh_pmon (s : State) : (s.fresh.2).pmon = s.pmon := rfl
@[simp] theorem State.fresh_hlth (s : State) : (s.fresh.2).hlth = s.hlth := rfl
@[simp] theorem State.fresh_bed (s : State) : (s.fresh.2).bed = s.bed := rfl
@[simp] theorem State.fresh_stch (s : State) : (s.fresh.2).stch = s.stch := rfl
@[simp] theorem State.fresh_purl (s : State) : (s.fresh.2).purl = s.purl := rfl
@[simp] theorem State.fresh_ciph (s : State) : (s.fresh.2).ciph = s.ciph := rfl
@[simp] theorem State.fresh_xport (s : State) : (s.fresh.2).xport = s.xport := rfl
@[simp] theorem State.fresh_fab (s : State) : (s.fresh.2).fab = s.fab := rfl
@[simp] theorem State.fresh_time (s : State) : (s.fresh.2).time = s.time := rfl
@[simp] theorem State.fresh_grp (s : State) : (s.fresh.2).grp = s.grp := rfl
@[simp] theorem State.fresh_pho (s : State) : (s.fresh.2).pho = s.pho := rfl
@[simp] theorem State.fresh_boot (s : State) : (s.fresh.2).boot = s.boot := rfl
@[simp] theorem State.fresh_ctl (s : State) : (s.fresh.2).ctl = s.ctl := rfl
@[simp] theorem State.fresh_keep (s : State) : (s.fresh.2).keep = s.keep := rfl
@[simp] theorem State.fresh_rerun (s : State) : (s.fresh.2).rerun = s.rerun := rfl
@[simp] theorem State.fresh_line (s : State) : (s.fresh.2).line = s.line := rfl

/-! ## Interrupts -/

@[simp] theorem State.intcUpdate_pending (s : State) : (s.intcUpdate).pending = s.pending := by
  unfold State.intcUpdate; dsimp only; split <;> (try split) <;> rfl
@[simp] theorem State.intcUpdate_mem (s : State) : (s.intcUpdate).mem = s.mem := by
  unfold State.intcUpdate; dsimp only; split <;> (try split) <;> rfl
@[simp] theorem State.intcUpdate_poison (s : State) : (s.intcUpdate).poison = s.poison := by
  unfold State.intcUpdate; dsimp only; split <;> (try split) <;> rfl
@[simp] theorem State.intcUpdate_freeCtr (s : State) : (s.intcUpdate).freeCtr = s.freeCtr := by
  unfold State.intcUpdate; dsimp only; split <;> (try split) <;> rfl
@[simp] theorem State.intcUpdate_timeFrac (s : State) : (s.intcUpdate).timeFrac = s.timeFrac := by
  unfold State.intcUpdate; dsimp only; split <;> (try split) <;> rfl
@[simp] theorem State.intcUpdate_myk (s : State) : (s.intcUpdate).myk = s.myk := by
  unfold State.intcUpdate; dsimp only; split <;> (try split) <;> rfl
@[simp] theorem State.intcUpdate_hostq (s : State) : (s.intcUpdate).hostq = s.hostq := by
  unfold State.intcUpdate; dsimp only; split <;> (try split) <;> rfl
@[simp] theorem State.intcUpdate_sched (s : State) : (s.intcUpdate).sched = s.sched := by
  unfold State.intcUpdate; dsimp only; split <;> (try split) <;> rfl
@[simp] theorem State.intcUpdate_skein (s : State) : (s.intcUpdate).skein = s.skein := by
  unfold State.intcUpdate; dsimp only; split <;> (try split) <;> rfl
@[simp] theorem State.intcUpdate_memst (s : State) : (s.intcUpdate).memst = s.memst := by
  unfold State.intcUpdate; dsimp only; split <;> (try split) <;> rfl
@[simp] theorem State.intcUpdate_pmon (s : State) : (s.intcUpdate).pmon = s.pmon := by
  unfold State.intcUpdate; dsimp only; split <;> (try split) <;> rfl
@[simp] theorem State.intcUpdate_hlth (s : State) : (s.intcUpdate).hlth = s.hlth := by
  unfold State.intcUpdate; dsimp only; split <;> (try split) <;> rfl
@[simp] theorem State.intcUpdate_bed (s : State) : (s.intcUpdate).bed = s.bed := by
  unfold State.intcUpdate; dsimp only; split <;> (try split) <;> rfl
@[simp] theorem State.intcUpdate_stch (s : State) : (s.intcUpdate).stch = s.stch := by
  unfold State.intcUpdate; dsimp only; split <;> (try split) <;> rfl
@[simp] theorem State.intcUpdate_purl (s : State) : (s.intcUpdate).purl = s.purl := by
  unfold State.intcUpdate; dsimp only; split <;> (try split) <;> rfl
@[simp] theorem State.intcUpdate_ciph (s : State) : (s.intcUpdate).ciph = s.ciph := by
  unfold State.intcUpdate; dsimp only; split <;> (try split) <;> rfl
@[simp] theorem State.intcUpdate_xport (s : State) : (s.intcUpdate).xport = s.xport := by
  unfold State.intcUpdate; dsimp only; split <;> (try split) <;> rfl
@[simp] theorem State.intcUpdate_fab (s : State) : (s.intcUpdate).fab = s.fab := by
  unfold State.intcUpdate; dsimp only; split <;> (try split) <;> rfl
@[simp] theorem State.intcUpdate_time (s : State) : (s.intcUpdate).time = s.time := by
  unfold State.intcUpdate; dsimp only; split <;> (try split) <;> rfl
@[simp] theorem State.intcUpdate_grp (s : State) : (s.intcUpdate).grp = s.grp := by
  unfold State.intcUpdate; dsimp only; split <;> (try split) <;> rfl
@[simp] theorem State.intcUpdate_pho (s : State) : (s.intcUpdate).pho = s.pho := by
  unfold State.intcUpdate; dsimp only; split <;> (try split) <;> rfl
@[simp] theorem State.intcUpdate_boot (s : State) : (s.intcUpdate).boot = s.boot := by
  unfold State.intcUpdate; dsimp only; split <;> (try split) <;> rfl
@[simp] theorem State.intcUpdate_ctl (s : State) : (s.intcUpdate).ctl = s.ctl := by
  unfold State.intcUpdate; dsimp only; split <;> (try split) <;> rfl
@[simp] theorem State.intcUpdate_keep (s : State) : (s.intcUpdate).keep = s.keep := by
  unfold State.intcUpdate; dsimp only; split <;> (try split) <;> rfl
@[simp] theorem State.intcUpdate_rerun (s : State) : (s.intcUpdate).rerun = s.rerun := by
  unfold State.intcUpdate; dsimp only; split <;> (try split) <;> rfl
@[simp] theorem State.intcUpdate_line (s : State) : (s.intcUpdate).line = s.line := by
  unfold State.intcUpdate; dsimp only; split <;> (try split) <;> rfl

@[simp] theorem State.raise_pending (s : State) (f : Field) (i : Nat) : (s.raise f i).pending = s.pending := by simp [State.raise]
@[simp] theorem State.raise_mem (s : State) (f : Field) (i : Nat) : (s.raise f i).mem = s.mem := by simp [State.raise]
@[simp] theorem State.raise_poison (s : State) (f : Field) (i : Nat) : (s.raise f i).poison = s.poison := by simp [State.raise]
@[simp] theorem State.raise_freeCtr (s : State) (f : Field) (i : Nat) : (s.raise f i).freeCtr = s.freeCtr := by simp [State.raise]
@[simp] theorem State.raise_timeFrac (s : State) (f : Field) (i : Nat) : (s.raise f i).timeFrac = s.timeFrac := by simp [State.raise]
@[simp] theorem State.raise_myk (s : State) (f : Field) (i : Nat) : (s.raise f i).myk = s.myk := by simp [State.raise]
@[simp] theorem State.raise_hostq (s : State) (f : Field) (i : Nat) : (s.raise f i).hostq = s.hostq := by simp [State.raise]
@[simp] theorem State.raise_sched (s : State) (f : Field) (i : Nat) : (s.raise f i).sched = s.sched := by simp [State.raise]
@[simp] theorem State.raise_skein (s : State) (f : Field) (i : Nat) : (s.raise f i).skein = s.skein := by simp [State.raise]
@[simp] theorem State.raise_memst (s : State) (f : Field) (i : Nat) : (s.raise f i).memst = s.memst := by simp [State.raise]
@[simp] theorem State.raise_pmon (s : State) (f : Field) (i : Nat) : (s.raise f i).pmon = s.pmon := by simp [State.raise]
@[simp] theorem State.raise_hlth (s : State) (f : Field) (i : Nat) : (s.raise f i).hlth = s.hlth := by simp [State.raise]
@[simp] theorem State.raise_bed (s : State) (f : Field) (i : Nat) : (s.raise f i).bed = s.bed := by simp [State.raise]
@[simp] theorem State.raise_stch (s : State) (f : Field) (i : Nat) : (s.raise f i).stch = s.stch := by simp [State.raise]
@[simp] theorem State.raise_purl (s : State) (f : Field) (i : Nat) : (s.raise f i).purl = s.purl := by simp [State.raise]
@[simp] theorem State.raise_ciph (s : State) (f : Field) (i : Nat) : (s.raise f i).ciph = s.ciph := by simp [State.raise]
@[simp] theorem State.raise_xport (s : State) (f : Field) (i : Nat) : (s.raise f i).xport = s.xport := by simp [State.raise]
@[simp] theorem State.raise_fab (s : State) (f : Field) (i : Nat) : (s.raise f i).fab = s.fab := by simp [State.raise]
@[simp] theorem State.raise_time (s : State) (f : Field) (i : Nat) : (s.raise f i).time = s.time := by simp [State.raise]
@[simp] theorem State.raise_grp (s : State) (f : Field) (i : Nat) : (s.raise f i).grp = s.grp := by simp [State.raise]
@[simp] theorem State.raise_pho (s : State) (f : Field) (i : Nat) : (s.raise f i).pho = s.pho := by simp [State.raise]
@[simp] theorem State.raise_boot (s : State) (f : Field) (i : Nat) : (s.raise f i).boot = s.boot := by simp [State.raise]
@[simp] theorem State.raise_ctl (s : State) (f : Field) (i : Nat) : (s.raise f i).ctl = s.ctl := by simp [State.raise]
@[simp] theorem State.raise_keep (s : State) (f : Field) (i : Nat) : (s.raise f i).keep = s.keep := by simp [State.raise]
@[simp] theorem State.raise_rerun (s : State) (f : Field) (i : Nat) : (s.raise f i).rerun = s.rerun := by simp [State.raise]
@[simp] theorem State.raise_line (s : State) (f : Field) (i : Nat) : (s.raise f i).line = s.line := by simp [State.raise]

@[simp] theorem State.moduleFault_pending (s : State) (n : Nat) : (s.moduleFault n).pending = s.pending := by simp [State.moduleFault]
@[simp] theorem State.moduleFault_mem (s : State) (n : Nat) : (s.moduleFault n).mem = s.mem := by simp [State.moduleFault]
@[simp] theorem State.moduleFault_poison (s : State) (n : Nat) : (s.moduleFault n).poison = s.poison := by simp [State.moduleFault]
@[simp] theorem State.moduleFault_freeCtr (s : State) (n : Nat) : (s.moduleFault n).freeCtr = s.freeCtr := by simp [State.moduleFault]
@[simp] theorem State.moduleFault_timeFrac (s : State) (n : Nat) : (s.moduleFault n).timeFrac = s.timeFrac := by simp [State.moduleFault]
@[simp] theorem State.moduleFault_myk (s : State) (n : Nat) : (s.moduleFault n).myk = s.myk := by simp [State.moduleFault]
@[simp] theorem State.moduleFault_hostq (s : State) (n : Nat) : (s.moduleFault n).hostq = s.hostq := by simp [State.moduleFault]
@[simp] theorem State.moduleFault_sched (s : State) (n : Nat) : (s.moduleFault n).sched = s.sched := by simp [State.moduleFault]
@[simp] theorem State.moduleFault_skein (s : State) (n : Nat) : (s.moduleFault n).skein = s.skein := by simp [State.moduleFault]
@[simp] theorem State.moduleFault_memst (s : State) (n : Nat) : (s.moduleFault n).memst = s.memst := by simp [State.moduleFault]
@[simp] theorem State.moduleFault_pmon (s : State) (n : Nat) : (s.moduleFault n).pmon = s.pmon := by simp [State.moduleFault]
@[simp] theorem State.moduleFault_hlth (s : State) (n : Nat) : (s.moduleFault n).hlth = s.hlth := by simp [State.moduleFault]
@[simp] theorem State.moduleFault_bed (s : State) (n : Nat) : (s.moduleFault n).bed = s.bed := by simp [State.moduleFault]
@[simp] theorem State.moduleFault_stch (s : State) (n : Nat) : (s.moduleFault n).stch = s.stch := by simp [State.moduleFault]
@[simp] theorem State.moduleFault_purl (s : State) (n : Nat) : (s.moduleFault n).purl = s.purl := by simp [State.moduleFault]
@[simp] theorem State.moduleFault_ciph (s : State) (n : Nat) : (s.moduleFault n).ciph = s.ciph := by simp [State.moduleFault]
@[simp] theorem State.moduleFault_xport (s : State) (n : Nat) : (s.moduleFault n).xport = s.xport := by simp [State.moduleFault]
@[simp] theorem State.moduleFault_fab (s : State) (n : Nat) : (s.moduleFault n).fab = s.fab := by simp [State.moduleFault]
@[simp] theorem State.moduleFault_time (s : State) (n : Nat) : (s.moduleFault n).time = s.time := by simp [State.moduleFault]
@[simp] theorem State.moduleFault_grp (s : State) (n : Nat) : (s.moduleFault n).grp = s.grp := by simp [State.moduleFault]
@[simp] theorem State.moduleFault_pho (s : State) (n : Nat) : (s.moduleFault n).pho = s.pho := by simp [State.moduleFault]
@[simp] theorem State.moduleFault_boot (s : State) (n : Nat) : (s.moduleFault n).boot = s.boot := by simp [State.moduleFault]
@[simp] theorem State.moduleFault_ctl (s : State) (n : Nat) : (s.moduleFault n).ctl = s.ctl := by simp [State.moduleFault]
@[simp] theorem State.moduleFault_keep (s : State) (n : Nat) : (s.moduleFault n).keep = s.keep := by simp [State.moduleFault]
@[simp] theorem State.moduleFault_rerun (s : State) (n : Nat) : (s.moduleFault n).rerun = s.rerun := by simp [State.moduleFault]
@[simp] theorem State.moduleFault_line (s : State) (n : Nat) : (s.moduleFault n).line = s.line := by simp [State.moduleFault]

@[simp] theorem State.capChange_pending (s : State) (b : Nat) : (s.capChange b).pending = s.pending := by simp [State.capChange]
@[simp] theorem State.capChange_mem (s : State) (b : Nat) : (s.capChange b).mem = s.mem := by simp [State.capChange]
@[simp] theorem State.capChange_poison (s : State) (b : Nat) : (s.capChange b).poison = s.poison := by simp [State.capChange]
@[simp] theorem State.capChange_freeCtr (s : State) (b : Nat) : (s.capChange b).freeCtr = s.freeCtr := by simp [State.capChange]
@[simp] theorem State.capChange_timeFrac (s : State) (b : Nat) : (s.capChange b).timeFrac = s.timeFrac := by simp [State.capChange]
@[simp] theorem State.capChange_myk (s : State) (b : Nat) : (s.capChange b).myk = s.myk := by simp [State.capChange]
@[simp] theorem State.capChange_hostq (s : State) (b : Nat) : (s.capChange b).hostq = s.hostq := by simp [State.capChange]
@[simp] theorem State.capChange_sched (s : State) (b : Nat) : (s.capChange b).sched = s.sched := by simp [State.capChange]
@[simp] theorem State.capChange_skein (s : State) (b : Nat) : (s.capChange b).skein = s.skein := by simp [State.capChange]
@[simp] theorem State.capChange_memst (s : State) (b : Nat) : (s.capChange b).memst = s.memst := by simp [State.capChange]
@[simp] theorem State.capChange_pmon (s : State) (b : Nat) : (s.capChange b).pmon = s.pmon := by simp [State.capChange]
@[simp] theorem State.capChange_hlth (s : State) (b : Nat) : (s.capChange b).hlth = s.hlth := by simp [State.capChange]
@[simp] theorem State.capChange_bed (s : State) (b : Nat) : (s.capChange b).bed = s.bed := by simp [State.capChange]
@[simp] theorem State.capChange_stch (s : State) (b : Nat) : (s.capChange b).stch = s.stch := by simp [State.capChange]
@[simp] theorem State.capChange_purl (s : State) (b : Nat) : (s.capChange b).purl = s.purl := by simp [State.capChange]
@[simp] theorem State.capChange_ciph (s : State) (b : Nat) : (s.capChange b).ciph = s.ciph := by simp [State.capChange]
@[simp] theorem State.capChange_xport (s : State) (b : Nat) : (s.capChange b).xport = s.xport := by simp [State.capChange]
@[simp] theorem State.capChange_fab (s : State) (b : Nat) : (s.capChange b).fab = s.fab := by simp [State.capChange]
@[simp] theorem State.capChange_time (s : State) (b : Nat) : (s.capChange b).time = s.time := by simp [State.capChange]
@[simp] theorem State.capChange_grp (s : State) (b : Nat) : (s.capChange b).grp = s.grp := by simp [State.capChange]
@[simp] theorem State.capChange_pho (s : State) (b : Nat) : (s.capChange b).pho = s.pho := by simp [State.capChange]
@[simp] theorem State.capChange_boot (s : State) (b : Nat) : (s.capChange b).boot = s.boot := by simp [State.capChange]
@[simp] theorem State.capChange_ctl (s : State) (b : Nat) : (s.capChange b).ctl = s.ctl := by simp [State.capChange]
@[simp] theorem State.capChange_keep (s : State) (b : Nat) : (s.capChange b).keep = s.keep := by simp [State.capChange]
@[simp] theorem State.capChange_rerun (s : State) (b : Nat) : (s.capChange b).rerun = s.rerun := by simp [State.capChange]
@[simp] theorem State.capChange_line (s : State) (b : Nat) : (s.capChange b).line = s.line := by simp [State.capChange]

/-! ## Memory -/

@[simp] theorem State.writeBytes_pending (s : State) (a : Nat) (bs : Bytes) : (s.writeBytes a bs).pending = s.pending := rfl
@[simp] theorem State.writeBytes_csr (s : State) (a : Nat) (bs : Bytes) : (s.writeBytes a bs).csr = s.csr := rfl
@[simp] theorem State.writeBytes_out (s : State) (a : Nat) (bs : Bytes) : (s.writeBytes a bs).out = s.out := rfl
@[simp] theorem State.writeBytes_freeCtr (s : State) (a : Nat) (bs : Bytes) : (s.writeBytes a bs).freeCtr = s.freeCtr := rfl
@[simp] theorem State.writeBytes_timeFrac (s : State) (a : Nat) (bs : Bytes) : (s.writeBytes a bs).timeFrac = s.timeFrac := rfl
@[simp] theorem State.writeBytes_intc (s : State) (a : Nat) (bs : Bytes) : (s.writeBytes a bs).intc = s.intc := rfl
@[simp] theorem State.writeBytes_myk (s : State) (a : Nat) (bs : Bytes) : (s.writeBytes a bs).myk = s.myk := rfl
@[simp] theorem State.writeBytes_hostq (s : State) (a : Nat) (bs : Bytes) : (s.writeBytes a bs).hostq = s.hostq := rfl
@[simp] theorem State.writeBytes_sched (s : State) (a : Nat) (bs : Bytes) : (s.writeBytes a bs).sched = s.sched := rfl
@[simp] theorem State.writeBytes_skein (s : State) (a : Nat) (bs : Bytes) : (s.writeBytes a bs).skein = s.skein := rfl
@[simp] theorem State.writeBytes_memst (s : State) (a : Nat) (bs : Bytes) : (s.writeBytes a bs).memst = s.memst := rfl
@[simp] theorem State.writeBytes_pmon (s : State) (a : Nat) (bs : Bytes) : (s.writeBytes a bs).pmon = s.pmon := rfl
@[simp] theorem State.writeBytes_hlth (s : State) (a : Nat) (bs : Bytes) : (s.writeBytes a bs).hlth = s.hlth := rfl
@[simp] theorem State.writeBytes_bed (s : State) (a : Nat) (bs : Bytes) : (s.writeBytes a bs).bed = s.bed := rfl
@[simp] theorem State.writeBytes_stch (s : State) (a : Nat) (bs : Bytes) : (s.writeBytes a bs).stch = s.stch := rfl
@[simp] theorem State.writeBytes_purl (s : State) (a : Nat) (bs : Bytes) : (s.writeBytes a bs).purl = s.purl := rfl
@[simp] theorem State.writeBytes_ciph (s : State) (a : Nat) (bs : Bytes) : (s.writeBytes a bs).ciph = s.ciph := rfl
@[simp] theorem State.writeBytes_xport (s : State) (a : Nat) (bs : Bytes) : (s.writeBytes a bs).xport = s.xport := rfl
@[simp] theorem State.writeBytes_fab (s : State) (a : Nat) (bs : Bytes) : (s.writeBytes a bs).fab = s.fab := rfl
@[simp] theorem State.writeBytes_time (s : State) (a : Nat) (bs : Bytes) : (s.writeBytes a bs).time = s.time := rfl
@[simp] theorem State.writeBytes_grp (s : State) (a : Nat) (bs : Bytes) : (s.writeBytes a bs).grp = s.grp := rfl
@[simp] theorem State.writeBytes_pho (s : State) (a : Nat) (bs : Bytes) : (s.writeBytes a bs).pho = s.pho := rfl
@[simp] theorem State.writeBytes_boot (s : State) (a : Nat) (bs : Bytes) : (s.writeBytes a bs).boot = s.boot := rfl
@[simp] theorem State.writeBytes_ctl (s : State) (a : Nat) (bs : Bytes) : (s.writeBytes a bs).ctl = s.ctl := rfl
@[simp] theorem State.writeBytes_keep (s : State) (a : Nat) (bs : Bytes) : (s.writeBytes a bs).keep = s.keep := rfl
@[simp] theorem State.writeBytes_rerun (s : State) (a : Nat) (bs : Bytes) : (s.writeBytes a bs).rerun = s.rerun := rfl
@[simp] theorem State.writeBytes_line (s : State) (a : Nat) (bs : Bytes) : (s.writeBytes a bs).line = s.line := rfl

@[simp] theorem State.poisonBytes_pending (s : State) (a n : Nat) : (s.poisonBytes a n).pending = s.pending := rfl
@[simp] theorem State.poisonBytes_csr (s : State) (a n : Nat) : (s.poisonBytes a n).csr = s.csr := rfl
@[simp] theorem State.poisonBytes_mem (s : State) (a n : Nat) : (s.poisonBytes a n).mem = s.mem := rfl
@[simp] theorem State.poisonBytes_out (s : State) (a n : Nat) : (s.poisonBytes a n).out = s.out := rfl
@[simp] theorem State.poisonBytes_freeCtr (s : State) (a n : Nat) : (s.poisonBytes a n).freeCtr = s.freeCtr := rfl
@[simp] theorem State.poisonBytes_timeFrac (s : State) (a n : Nat) : (s.poisonBytes a n).timeFrac = s.timeFrac := rfl
@[simp] theorem State.poisonBytes_intc (s : State) (a n : Nat) : (s.poisonBytes a n).intc = s.intc := rfl
@[simp] theorem State.poisonBytes_myk (s : State) (a n : Nat) : (s.poisonBytes a n).myk = s.myk := rfl
@[simp] theorem State.poisonBytes_hostq (s : State) (a n : Nat) : (s.poisonBytes a n).hostq = s.hostq := rfl
@[simp] theorem State.poisonBytes_sched (s : State) (a n : Nat) : (s.poisonBytes a n).sched = s.sched := rfl
@[simp] theorem State.poisonBytes_skein (s : State) (a n : Nat) : (s.poisonBytes a n).skein = s.skein := rfl
@[simp] theorem State.poisonBytes_memst (s : State) (a n : Nat) : (s.poisonBytes a n).memst = s.memst := rfl
@[simp] theorem State.poisonBytes_pmon (s : State) (a n : Nat) : (s.poisonBytes a n).pmon = s.pmon := rfl
@[simp] theorem State.poisonBytes_hlth (s : State) (a n : Nat) : (s.poisonBytes a n).hlth = s.hlth := rfl
@[simp] theorem State.poisonBytes_bed (s : State) (a n : Nat) : (s.poisonBytes a n).bed = s.bed := rfl
@[simp] theorem State.poisonBytes_stch (s : State) (a n : Nat) : (s.poisonBytes a n).stch = s.stch := rfl
@[simp] theorem State.poisonBytes_purl (s : State) (a n : Nat) : (s.poisonBytes a n).purl = s.purl := rfl
@[simp] theorem State.poisonBytes_ciph (s : State) (a n : Nat) : (s.poisonBytes a n).ciph = s.ciph := rfl
@[simp] theorem State.poisonBytes_xport (s : State) (a n : Nat) : (s.poisonBytes a n).xport = s.xport := rfl
@[simp] theorem State.poisonBytes_fab (s : State) (a n : Nat) : (s.poisonBytes a n).fab = s.fab := rfl
@[simp] theorem State.poisonBytes_time (s : State) (a n : Nat) : (s.poisonBytes a n).time = s.time := rfl
@[simp] theorem State.poisonBytes_grp (s : State) (a n : Nat) : (s.poisonBytes a n).grp = s.grp := rfl
@[simp] theorem State.poisonBytes_pho (s : State) (a n : Nat) : (s.poisonBytes a n).pho = s.pho := rfl
@[simp] theorem State.poisonBytes_boot (s : State) (a n : Nat) : (s.poisonBytes a n).boot = s.boot := rfl
@[simp] theorem State.poisonBytes_ctl (s : State) (a n : Nat) : (s.poisonBytes a n).ctl = s.ctl := rfl
@[simp] theorem State.poisonBytes_keep (s : State) (a n : Nat) : (s.poisonBytes a n).keep = s.keep := rfl
@[simp] theorem State.poisonBytes_rerun (s : State) (a n : Nat) : (s.poisonBytes a n).rerun = s.rerun := rfl
@[simp] theorem State.poisonBytes_line (s : State) (a n : Nat) : (s.poisonBytes a n).line = s.line := rfl

end Sys2Proof.Machine
end

