-- ==== Sys2Proof/Laws/Memory.lean ====
section
/-!
SUPPORT. Laws/Memory.lean: memory and the register file keep their canonical forms, a byte reads as it was written, and a
write leaves every other byte alone.
-/
namespace Sys2Proof.Machine
open Csr

/-! ## Lists of rising keys -/

theorem rising_iff (l : List Nat) : rising l = true ↔ l.Pairwise (· < ·) := by
  induction l with
  | nil => simp [rising]
  | cons a r ih =>
    cases r with
    | nil => simp [rising]
    | cons b t =>
      rw [rising, Bool.and_eq_true, ih, decide_eq_true_eq, List.pairwise_cons (a := a)]
      constructor
      · rintro ⟨hab, hp⟩
        refine ⟨fun c hc => ?_, hp⟩
        rcases List.mem_cons.mp hc with rfl | hc
        · exact hab
        · exact lt_trans hab ((List.pairwise_cons.mp hp).1 c hc)
      · rintro ⟨h1, hp⟩
        exact ⟨h1 b (by simp), hp⟩

theorem mem_entryPut {α : Type} (k : Nat) (v : α) (l : List (Nat × α)) (e : Nat × α) :
    e ∈ entryPut k v l ↔ e = (k, v) ∨ e ∈ l := by
  induction l with
  | nil => simp [entryPut]
  | cons x r ih =>
    unfold entryPut
    split
    · simp
    · simp only [List.mem_cons, ih]; tauto

theorem rising_entryPut {α : Type} (k : Nat) (v : α) (l : List (Nat × α)) (hl : (l.map (·.1)).Pairwise (· < ·))
    (h : ∀ e ∈ l, e.1 ≠ k) : ((entryPut k v l).map (·.1)).Pairwise (· < ·) := by
  induction l with
  | nil => simp [entryPut]
  | cons x r ih =>
    have hx : x.1 ≠ k := h x (by simp)
    rw [List.map_cons, List.pairwise_cons] at hl
    have hr : ∀ y ∈ r, x.1 < y.1 := fun y hy => hl.1 y.1 (List.mem_map_of_mem hy)
    unfold entryPut
    split
    · next hk =>
      rw [List.map_cons, List.pairwise_cons, List.map_cons, List.pairwise_cons]
      refine ⟨fun a ha => ?_, fun a ha => hl.1 a ha, hl.2⟩
      rcases List.mem_cons.mp ha with h1 | h1
      · rw [h1]; exact hk
      · exact lt_trans hk (hl.1 a h1)
    · next hk =>
      rw [List.map_cons, List.pairwise_cons]
      refine ⟨fun a ha => ?_, ih hl.2 (fun e he => h e (by simp [he]))⟩
      obtain ⟨y, hy, rfl⟩ := List.mem_map.mp ha
      rcases (mem_entryPut k v r y).mp hy with h1 | h1
      · rw [h1]; simp only; omega
      · exact hr y h1

theorem rising_filter {α : Type} (p : Nat × α → Bool) (l : List (Nat × α)) (hl : (l.map (·.1)).Pairwise (· < ·)) :
    ((l.filter p).map (·.1)).Pairwise (· < ·) :=
  List.Pairwise.sublist (List.Sublist.map _ List.filter_sublist) hl

/-! ## The register file -/

/-- Storing a word keeps the register file in canonical form. -/
theorem wordPut_wf (l : List (Nat × Word)) (k : Nat) (d v : Word) (h : Regs.wf l = true) : Regs.wf (wordPut l k d v) = true := by
  rw [Regs.wf, rising_iff] at h ⊢
  unfold wordPut
  dsimp only
  split
  · exact rising_filter _ _ h
  · exact rising_entryPut _ _ _ (rising_filter _ _ h) (fun e he => by simpa using (List.mem_filter.mp he).2)

/-- Keeping some of the listed words keeps the register file in canonical form. -/
theorem regs_filter_wf (l : List (Nat × Word)) (p : Nat × Word → Bool) (h : Regs.wf l = true) : Regs.wf (l.filter p) = true := by
  rw [Regs.wf, rising_iff] at h ⊢
  exact rising_filter _ _ h

/-! ## Memory -/

theorem memory_wf_iff (m : List Host.Cell) : Memory.wf m = true ↔ (m.map (·.1)).Pairwise (· < ·) ∧ ∀ c ∈ m, c.2 ≠ 0 := by
  simp [Memory.wf, rising_iff]

/-- Writing a byte keeps memory in canonical form. -/
theorem cellPut_wf (m : List Host.Cell) (k : Nat) (v : Byte) (h : Memory.wf m = true) : Memory.wf (cellPut m k v) = true := by
  rw [memory_wf_iff] at h ⊢
  have hf : ∀ c ∈ m.filter (fun c => c.1 ≠ k), c.2 ≠ 0 := fun c hc => h.2 c (List.mem_filter.mp hc).1
  unfold cellPut
  dsimp only
  split
  · exact ⟨rising_filter _ _ h.1, hf⟩
  · next hv =>
    refine ⟨rising_entryPut _ _ _ (rising_filter _ _ h.1) (fun e he => by simpa using (List.mem_filter.mp he).2), fun c hc => ?_⟩
    rcases (mem_entryPut _ _ _ _).mp hc with rfl | hc
    · exact hv
    · exact hf c hc

/-- Writing bytes keeps memory in canonical form. -/
theorem cellsPut_wf (bs : Bytes) (m : List Host.Cell) (a : Nat) (h : Memory.wf m = true) : Memory.wf (cellsPut m a bs) = true := by
  induction bs generalizing m a with
  | nil => exact h
  | cons b r ih => exact ih _ _ (cellPut_wf m a b h)

/-- Forgetting some of the listed bytes keeps memory in canonical form. -/
theorem memory_filter_wf (m : List Host.Cell) (p : Host.Cell → Bool) (h : Memory.wf m = true) : Memory.wf (m.filter p) = true := by
  rw [memory_wf_iff] at h ⊢
  exact ⟨rising_filter _ _ h.1, fun c hc => h.2 c (List.mem_filter.mp hc).1⟩

/-! ## Reading what was written -/

theorem cellAt_entryPut_same (l : List Host.Cell) (k : Nat) (v : Byte) (h : ∀ e ∈ l, e.1 ≠ k) : cellAt (entryPut k v l) k = v := by
  induction l with
  | nil => simp [entryPut, cellAt]
  | cons e r ih =>
    obtain ⟨a, b⟩ := e
    have ha : a ≠ k := h (a, b) (by simp)
    have hr := ih (fun e he => h e (by simp [he]))
    by_cases hk : k < a
    · simp [entryPut, hk, cellAt]
    · simp [entryPut, hk, cellAt, ha, hr]

theorem cellAt_entryPut_other (l : List Host.Cell) (k k' : Nat) (v : Byte) (h : k' ≠ k) :
    cellAt (entryPut k v l) k' = cellAt l k' := by
  induction l with
  | nil => simp [entryPut, cellAt, Ne.symm h]
  | cons e r ih =>
    obtain ⟨a, b⟩ := e
    by_cases hk : k < a
    · simp [entryPut, hk, cellAt, Ne.symm h]
    · simp [entryPut, hk, cellAt, ih]

theorem cellAt_filter (l : List Host.Cell) (k k' : Nat) :
    cellAt (l.filter (fun c => c.1 ≠ k)) k' = if k' = k then 0 else cellAt l k' := by
  induction l with
  | nil => simp [cellAt]
  | cons e r ih =>
    obtain ⟨a, b⟩ := e
    by_cases hk : a = k
    · rw [List.filter_cons_of_neg (by simp [hk]), ih]
      by_cases hk' : k' = k
      · simp [hk']
      · have : a ≠ k' := by omega
        simp [cellAt, this, hk']
    · rw [List.filter_cons_of_pos (by simp [hk])]
      by_cases hk' : a = k'
      · subst hk'; simp [cellAt, hk]
      · simp only [cellAt, hk', if_false]; exact ih

/-- A byte reads as it was written, and every other byte as before. -/
theorem cellAt_cellPut (m : List Host.Cell) (k k' : Nat) (v : Byte) :
    cellAt (cellPut m k v) k' = if k' = k then v else cellAt m k' := by
  unfold cellPut
  dsimp only
  by_cases hv : v = 0
  · rw [if_pos hv, cellAt_filter, hv]
  · rw [if_neg hv]
    by_cases hk : k' = k
    · subst hk
      rw [cellAt_entryPut_same _ _ _ (fun e he => by simpa using (List.mem_filter.mp he).2), if_pos rfl]
    · rw [cellAt_entryPut_other _ _ _ _ hk, cellAt_filter, if_neg hk, if_neg hk]

/-- Bytes outside those written read as before. -/
theorem cellAt_cellsPut_other (bs : Bytes) (m : List Host.Cell) (a k : Nat) (h : k < a ∨ a + bs.length ≤ k) :
    cellAt (cellsPut m a bs) k = cellAt m k := by
  induction bs generalizing m a with
  | nil => rfl
  | cons b r ih =>
    simp only [List.length_cons] at h
    rw [cellsPut, ih _ _ (by omega), cellAt_cellPut, if_neg (by omega)]

/-- The bytes written read as they were written. -/
theorem cellAt_cellsPut_same (bs : Bytes) (m : List Host.Cell) (a i : Nat) (h : i < bs.length) :
    cellAt (cellsPut m a bs) (a + i) = bs[i] := by
  induction bs generalizing m a i with
  | nil => simp at h
  | cons b r ih =>
    cases i with
    | zero => rw [cellsPut, cellAt_cellsPut_other _ _ _ _ (by omega), cellAt_cellPut]; simp
    | succ k =>
      have : a + (k + 1) = a + 1 + k := by omega
      rw [cellsPut, this, ih _ _ k (by simpa using h)]; simp

/-- A byte outside those written reads as before. -/
theorem readByte_writeBytes_other (s : State) (a k : Nat) (bs : Bytes) (h : k < a ∨ a + bs.length ≤ k) :
    (s.writeBytes a bs).readByte k = s.readByte k := cellAt_cellsPut_other bs s.mem a k h

/-- A byte written reads as it was written. -/
theorem readByte_writeBytes_same (s : State) (a i : Nat) (bs : Bytes) (h : i < bs.length) :
    (s.writeBytes a bs).readByte (a + i) = bs[i] := cellAt_cellsPut_same bs s.mem a i h

/-- Reset lists nothing: it is in canonical form. -/
theorem reset_canonical : State.reset.canonical = true := rfl

end Sys2Proof.Machine
end

