-- ==== Sys2Proof/Laws/Goes.lean ====
section
/-!
SUPPORT. Laws/Goes.lean: what every operation of the model keeps, said once. `Goes l s t` says that from `s` to `t` only the parts listed in
`l` may have changed, that memory and the register file keep their canonical forms, that no rollback floor has fallen, that nothing sent
has been taken back, that no free value is taken twice and that the line keeps its sixteen ports. The
lemmas `…_goes` of the files beside this one say it of each operation.
-/
namespace Sys2Proof.Machine
open Csr

/-- Whether every part of one list is in another. -/
def within (f l : List Part) : Bool := f.all (fun p => l.contains p)

/-- From `s` to `t`: only the listed parts change, and the invariants of every step are kept. -/
structure Goes (l : List Part) (s t : State) : Prop where
  only : OnlyChanges l s t
  mem : Memory.wf s.mem = true → Memory.wf t.mem = true
  csr : Regs.wf s.csr = true → Regs.wf t.csr = true
  floors : s.keep.floorSec ≤ t.keep.floorSec ∧ s.keep.floorMgmt ≤ t.keep.floorMgmt
  out : s.out <+: t.out
  free : s.freeCtr ≤ t.freeCtr
  ports : s.line.length = 16 → t.line.length = 16

theorem Part.same_refl (p : Part) (s : State) : p.same s s := by cases p <;> rfl

theorem Part.same_trans {p : Part} {a s t : State} (h : p.same a s) (k : p.same s t) : p.same a t := by
  cases p <;> exact Eq.trans k h

theorem Goes.refl {l : List Part} {s : State} : Goes l s s :=
  ⟨fun p _ => p.same_refl s, id, id, ⟨Nat.le_refl _, Nat.le_refl _⟩, List.prefix_refl _, Nat.le_refl _, id⟩

/-- One step after another. -/
theorem Goes.step {l f : List Part} {a s t : State} (h : Goes l a s) (k : Goes f s t) (w : within f l = true) : Goes l a t := by
  refine ⟨fun p hp => Part.same_trans (h.only p hp) (k.only p ?_), k.mem ∘ h.mem, k.csr ∘ h.csr,
    ⟨h.floors.1.trans k.floors.1, h.floors.2.trans k.floors.2⟩, h.out.trans k.out, h.free.trans k.free, k.ports ∘ h.ports⟩
  by_contra hc
  rw [Bool.not_eq_false] at hc
  have := List.all_eq_true.mp w p (List.contains_iff_mem.mp hc)
  rw [hp] at this
  exact Bool.noConfusion this

/-- An update of parts that no invariant speaks of. -/
theorem Goes.plain {l : List Part} {a s t : State} (h : Goes l a s) (hc : t.csr = s.csr) (hm : t.mem = s.mem) (hk : t.keep = s.keep)
    (ho : t.out = s.out) (hf : t.freeCtr = s.freeCtr) (hl : s.line.length = 16 → t.line.length = 16) (hs : OnlyChanges l s t) : Goes l a t :=
  ⟨fun p hp => Part.same_trans (h.only p hp) (hs p hp), fun x => hm ▸ h.mem x, fun x => hc ▸ h.csr x, hk ▸ h.floors, ho ▸ h.out,
    hf ▸ h.free, hl ∘ h.ports⟩

theorem Goes.ite {l : List Part} {a x y : State} {c : Prop} [Decidable c] (h : Goes l a x) (k : Goes l a y) :
    Goes l a (if c then x else y) := by split <;> assumption

theorem Goes.foldl {l : List Part} {a : State} {β : Type} {f : State → β → State} {bs : List β} {s : State} (h : Goes l a s)
    (k : ∀ x b, Goes l a x → Goes l a (f x b)) : Goes l a (bs.foldl f s) := by
  induction bs generalizing s with
  | nil => exact h
  | cons b r ih => exact ih (k s b h)

/-! ## Results that hold a state -/

/-- The state of a pair (value, state). -/
def GoesSnd (l : List Part) (a : State) {β : Type} (p : β × State) : Prop := Goes l a p.2
/-- The state of a pair (state, value). -/
def GoesFst (l : List Part) (a : State) {β : Type} (p : State × β) : Prop := Goes l a p.1
/-- The state of a triple whose last component it is. -/
def GoesThird (l : List Part) (a : State) {β γ : Type} (p : β × γ × State) : Prop := Goes l a p.2.2
/-- The state that an operation which may refuse answers. -/
def GoesOk (l : List Part) (a : State) (e : Except Nat State) : Prop := ∀ t, e = .ok t → Goes l a t
/-- The next state of an outcome. -/
def GoesNext (l : List Part) (a : State) (o : Host.Outcome State Fault Refusal) : Prop := ∀ t, o = .next t → Goes l a t
/-- The state that may come with a value. -/
def GoesSome (l : List Part) (a : State) {β : Type} (o : Option (β × State)) : Prop := ∀ c t, o = some (c, t) → Goes l a t
/-- The state of a register write. -/
def GoesWr (l : List Part) (a : State) (w : Wr) : Prop := Goes l a w.st
/-- A state that may be. -/
def GoesOpt (l : List Part) (a : State) (o : Option State) : Prop := ∀ t, o = some t → Goes l a t
/-- Both states of a pair of which the first may be. -/
def GoesBoth (l : List Part) (a : State) (p : Option State × State) : Prop := GoesOpt l a p.1 ∧ Goes l a p.2
/-- The state that comes with the value of an operation which may refuse. -/
def GoesOkSnd (l : List Part) (a : State) {β : Type} (e : Except Nat (β × State)) : Prop := ∀ c t, e = .ok (c, t) → Goes l a t
/-- The state of a key installation. -/
def GoesDone (l : List Part) (a : State) (e : Install) : Prop := ∀ t, e = .done t → Goes l a t
/-- The state of an allocation. -/
def GoesGrant (l : List Part) (a : State) (g : SkeinGrant) : Prop := ∀ h t, g = .granted h t → Goes l a t

theorem GoesSnd.step {l f : List Part} {a s : State} {β : Type} {e : β × State} (h : Goes l a s) (k : GoesSnd f s e) (w : within f l = true) :
    GoesSnd l a e := h.step k w
theorem GoesSnd.ite {l : List Part} {a : State} {β : Type} {x y : β × State} {c : Prop} [Decidable c] (h : GoesSnd l a x) (k : GoesSnd l a y) :
    GoesSnd l a (if c then x else y) := by split <;> assumption

theorem GoesFst.step {l f : List Part} {a s : State} {β : Type} {e : State × β} (h : Goes l a s) (k : GoesFst f s e) (w : within f l = true) :
    GoesFst l a e := h.step k w
theorem GoesFst.ite {l : List Part} {a : State} {β : Type} {x y : State × β} {c : Prop} [Decidable c] (h : GoesFst l a x) (k : GoesFst l a y) :
    GoesFst l a (if c then x else y) := by split <;> assumption

theorem GoesThird.step {l f : List Part} {a s : State} {β γ : Type} {e : β × γ × State} (h : Goes l a s) (k : GoesThird f s e) (w : within f l = true) :
    GoesThird l a e := h.step k w
theorem GoesThird.ite {l : List Part} {a : State} {β γ : Type} {x y : β × γ × State} {c : Prop} [Decidable c] (h : GoesThird l a x) (k : GoesThird l a y) :
    GoesThird l a (if c then x else y) := by split <;> assumption

theorem GoesOk.step {l f : List Part} {a s : State} {e : Except Nat State} (h : Goes l a s) (k : GoesOk f s e) (w : within f l = true) :
    GoesOk l a e := fun t he => h.step (k t he) w
theorem GoesOk.ite {l : List Part} {a : State} {x y : Except Nat State} {c : Prop} [Decidable c] (h : GoesOk l a x) (k : GoesOk l a y) :
    GoesOk l a (if c then x else y) := by split <;> assumption

theorem GoesNext.step {l f : List Part} {a s : State} {e : Host.Outcome State Fault Refusal} (h : Goes l a s) (k : GoesNext f s e) (w : within f l = true) :
    GoesNext l a e := fun t he => h.step (k t he) w
theorem GoesNext.ite {l : List Part} {a : State} {x y : Host.Outcome State Fault Refusal} {c : Prop} [Decidable c] (h : GoesNext l a x) (k : GoesNext l a y) :
    GoesNext l a (if c then x else y) := by split <;> assumption

theorem GoesSome.step {l f : List Part} {a s : State} {β : Type} {e : Option (β × State)} (h : Goes l a s) (k : GoesSome f s e) (w : within f l = true) :
    GoesSome l a e := fun c t he => h.step (k c t he) w
theorem GoesSome.ite {l : List Part} {a : State} {β : Type} {x y : Option (β × State)} {c : Prop} [Decidable c] (h : GoesSome l a x) (k : GoesSome l a y) :
    GoesSome l a (if c then x else y) := by split <;> assumption

theorem GoesWr.step {l f : List Part} {a s : State} {e : Wr} (h : Goes l a s) (k : GoesWr f s e) (w : within f l = true) :
    GoesWr l a e := h.step k w
theorem GoesWr.ite {l : List Part} {a : State} {x y : Wr} {c : Prop} [Decidable c] (h : GoesWr l a x) (k : GoesWr l a y) :
    GoesWr l a (if c then x else y) := by split <;> assumption

theorem GoesGrant.step {l f : List Part} {a s : State} {e : SkeinGrant} (h : Goes l a s) (k : GoesGrant f s e) (w : within f l = true) :
    GoesGrant l a e := fun c t he => h.step (k c t he) w
theorem GoesGrant.ite {l : List Part} {a : State} {x y : SkeinGrant} {c : Prop} [Decidable c] (h : GoesGrant l a x) (k : GoesGrant l a y) :
    GoesGrant l a (if c then x else y) := by split <;> assumption

theorem GoesOpt.step {l f : List Part} {a s : State} {e : Option State} (h : Goes l a s) (k : GoesOpt f s e) (w : within f l = true) :
    GoesOpt l a e := fun t he => h.step (k t he) w
theorem GoesOpt.ite {l : List Part} {a : State} {x y : Option State} {c : Prop} [Decidable c] (h : GoesOpt l a x) (k : GoesOpt l a y) :
    GoesOpt l a (if c then x else y) := by split <;> assumption

theorem GoesDone.step {l f : List Part} {a s : State} {e : Install} (h : Goes l a s) (k : GoesDone f s e) (w : within f l = true) :
    GoesDone l a e := fun t he => h.step (k t he) w
theorem GoesDone.ite {l : List Part} {a : State} {x y : Install} {c : Prop} [Decidable c] (h : GoesDone l a x) (k : GoesDone l a y) :
    GoesDone l a (if c then x else y) := by split <;> assumption

theorem GoesOkSnd.step {l f : List Part} {a s : State} {β : Type} {e : Except Nat (β × State)} (h : Goes l a s) (k : GoesOkSnd f s e) (w : within f l = true) :
    GoesOkSnd l a e := fun c t he => h.step (k c t he) w
theorem GoesOkSnd.ite {l : List Part} {a : State} {β : Type} {x y : Except Nat (β × State)} {c : Prop} [Decidable c] (h : GoesOkSnd l a x) (k : GoesOkSnd l a y) :
    GoesOkSnd l a (if c then x else y) := by split <;> assumption

theorem GoesBoth.step {l f : List Part} {a s : State} {e : Option State × State} (h : Goes l a s) (k : GoesBoth f s e) (w : within f l = true) :
    GoesBoth l a e := ⟨fun t he => h.step (k.1 t he) w, h.step k.2 w⟩
theorem GoesBoth.ite {l : List Part} {a : State} {x y : Option State × State} {c : Prop} [Decidable c] (h : GoesBoth l a x) (k : GoesBoth l a y) :
    GoesBoth l a (if c then x else y) := by split <;> assumption

theorem GoesSnd.mk {l : List Part} {a t : State} {β : Type} {x : β} (h : Goes l a t) : GoesSnd l a (x, t) := h
theorem GoesSnd.out {l : List Part} {a t : State} {β : Type} {x : β} (h : GoesSnd l a (x, t)) : Goes l a t := h
theorem GoesSnd.of {l : List Part} {a t : State} {β : Type} {x : β} {p : β × State} (e : p = (x, t)) (h : GoesSnd l a p) : Goes l a t := by
  subst e; exact h
theorem Goes.snd {l : List Part} {a : State} {β : Type} {p : β × State} (h : GoesSnd l a p) : Goes l a p.2 := h
theorem GoesFst.mk {l : List Part} {a t : State} {β : Type} {x : β} (h : Goes l a t) : GoesFst l a (t, x) := h
theorem GoesFst.out {l : List Part} {a t : State} {β : Type} {x : β} (h : GoesFst l a (t, x)) : Goes l a t := h
theorem GoesFst.of {l : List Part} {a t : State} {β : Type} {x : β} {p : State × β} (e : p = (t, x)) (h : GoesFst l a p) : Goes l a t := by
  subst e; exact h
theorem Goes.fst {l : List Part} {a : State} {β : Type} {p : State × β} (h : GoesFst l a p) : Goes l a p.1 := h
theorem GoesThird.mk {l : List Part} {a t : State} {β γ : Type} {x : β} {y : γ} (h : Goes l a t) : GoesThird l a (x, y, t) := h
theorem GoesThird.of {l : List Part} {a t : State} {β γ : Type} {x : β} {y : γ} {p : β × γ × State} (e : p = (x, y, t))
    (h : GoesThird l a p) : Goes l a t := by
  subst e; exact h
theorem GoesThird.out {l : List Part} {a t : State} {β γ : Type} {x : β} {y : γ} (h : GoesThird l a (x, y, t)) : Goes l a t := h
theorem GoesOk.mk {l : List Part} {a t : State} (h : Goes l a t) : GoesOk l a (.ok t) := fun _ e => by cases e; exact h
theorem GoesOk.error {l : List Part} {a : State} {r : Nat} : GoesOk l a (.error r) := fun _ e => by cases e
theorem GoesOk.of {l : List Part} {a t : State} {p : Except Nat State} (e : p = .ok t) (h : GoesOk l a p) : Goes l a t := h t e
theorem GoesOk.out {l : List Part} {a t : State} (h : GoesOk l a (.ok t)) : Goes l a t := h t (by rfl)
theorem GoesNext.mk {l : List Part} {a t : State} (h : Goes l a t) : GoesNext l a (.next t) := fun _ e => by cases e; exact h
theorem GoesNext.of {l : List Part} {a t : State} {p : Host.Outcome State Fault Refusal} (e : p = .next t) (h : GoesNext l a p) :
    Goes l a t := h t e
theorem GoesNext.out {l : List Part} {a t : State} (h : GoesNext l a (.next t)) : Goes l a t := h t ((by rfl))
theorem GoesSome.mk {l : List Part} {a t : State} {β : Type} {x : β} (h : Goes l a t) : GoesSome l a (some (x, t)) :=
  fun _ _ e => by cases e; exact h
theorem GoesSome.none {l : List Part} {a : State} {β : Type} : GoesSome l a (none : Option (β × State)) := fun _ _ e => by cases e
theorem GoesSome.of {l : List Part} {a t : State} {β : Type} {x : β} {p : Option (β × State)} (e : p = some (x, t))
    (h : GoesSome l a p) : Goes l a t := h x t e
theorem GoesSome.out {l : List Part} {a t : State} {β : Type} {x : β} (h : GoesSome l a (some (x, t))) : Goes l a t := h x t (by rfl)
theorem GoesWr.mk {l : List Part} {a t : State} {r : Nat} {v : Bool} (h : Goes l a t) : GoesWr l a ⟨t, r, v⟩ := h
theorem Goes.wr {l : List Part} {a : State} {w : Wr} (h : GoesWr l a w) : Goes l a w.st := h
theorem GoesGrant.mk {l : List Part} {a t : State} {n : Nat} (h : Goes l a t) : GoesGrant l a (.granted n t) := fun _ _ e => by cases e; exact h
theorem GoesGrant.refused {l : List Part} {a : State} {r : Nat} : GoesGrant l a (.refused r) := fun _ _ e => by cases e
theorem GoesGrant.exhausted {l : List Part} {a : State} : GoesGrant l a .exhausted := fun _ _ e => by cases e
theorem GoesGrant.of {l : List Part} {a t : State} {n : Nat} {g : SkeinGrant} (e : g = .granted n t) (h : GoesGrant l a g) : Goes l a t :=
  h n t e
theorem GoesGrant.out {l : List Part} {a t : State} {n : Nat} (h : GoesGrant l a (.granted n t)) : Goes l a t := h n t (by rfl)
theorem GoesOpt.mk {l : List Part} {a t : State} (h : Goes l a t) : GoesOpt l a (some t) := fun _ e => by cases e; exact h
theorem GoesOpt.none {l : List Part} {a : State} : GoesOpt l a none := fun _ e => by cases e
theorem GoesOpt.of {l : List Part} {a t : State} {p : Option State} (e : p = some t) (h : GoesOpt l a p) : Goes l a t := h t e
theorem GoesOpt.out {l : List Part} {a t : State} (h : GoesOpt l a (some t)) : Goes l a t := h t (by rfl)
theorem GoesDone.mk {l : List Part} {a t : State} (h : Goes l a t) : GoesDone l a (.done t) := fun _ e => by cases e; exact h
theorem GoesDone.no {l : List Part} {a : State} {i : Install} (h : ∀ t, i ≠ .done t) : GoesDone l a i := fun t e => absurd e (h t)
theorem GoesDone.of {l : List Part} {a t : State} {p : Install} (e : p = .done t) (h : GoesDone l a p) : Goes l a t := h t e
theorem GoesOkSnd.mk {l : List Part} {a t : State} {β : Type} {x : β} (h : Goes l a t) : GoesOkSnd l a (.ok (x, t)) :=
  fun _ _ e => by cases e; exact h
theorem GoesOkSnd.error {l : List Part} {a : State} {β : Type} {r : Nat} : GoesOkSnd l a (.error r : Except Nat (β × State)) :=
  fun _ _ e => by cases e
theorem GoesOkSnd.of {l : List Part} {a t : State} {β : Type} {x : β} {p : Except Nat (β × State)} (e : p = .ok (x, t))
    (h : GoesOkSnd l a p) : Goes l a t := h x t e
theorem GoesOkSnd.pair {l : List Part} {a : State} {β : Type} {p : β × State} (h : GoesSnd l a p) : GoesOkSnd l a (.ok p) :=
  fun _ _ e => by cases e; exact h
theorem GoesBoth.mk {l : List Part} {a t : State} {o : Option State} (h : GoesOpt l a o) (k : Goes l a t) : GoesBoth l a (o, t) := ⟨h, k⟩
theorem GoesBoth.ofSome {l : List Part} {a t u : State} {p : Option State × State} (e : p = (some t, u)) (h : GoesBoth l a p) :
    Goes l a t := h.1 t (by rw [e])
theorem GoesBoth.of {l : List Part} {a u : State} {o : Option State} {p : Option State × State} (e : p = (o, u)) (h : GoesBoth l a p) :
    Goes l a u := by
  have := h.2
  rw [e] at this
  exact this
theorem GoesSnd.foldl {l : List Part} {a : State} {β γ : Type} {f : γ × State → β → γ × State} {bs : List β} {p : γ × State}
    (h : GoesSnd l a p) (k : ∀ x b, GoesSnd l a x → GoesSnd l a (f x b)) : GoesSnd l a (bs.foldl f p) := by
  induction bs generalizing p with
  | nil => exact h
  | cons b r ih => exact ih (k p b h)
theorem GoesFst.foldl {l : List Part} {a : State} {β γ : Type} {f : State × γ → β → State × γ} {bs : List β} {p : State × γ}
    (h : GoesFst l a p) (k : ∀ x b, GoesFst l a x → GoesFst l a (f x b)) : GoesFst l a (bs.foldl f p) := by
  induction bs generalizing p with
  | nil => exact h
  | cons b r ih => exact ih (k p b h)
theorem GoesWr.ofExcept {l : List Part} {a s : State} {e : Except Nat State} (h : Goes l a s) (k : GoesOk l a e) :
    GoesWr l a (Wr.of s e) := by
  unfold Wr.of
  split
  · next t => exact k t (by rfl)
  · exact h

/-! ## Updates of one part -/

theorem Goes.poison {l : List Part} {a s : State} {v} (h : Goes l a s) (w : l.contains .poison = true) : Goes l a { s with poison := v } :=
  h.plain (by rfl) (by rfl) (by rfl) (by rfl) (by rfl) id (fun p hp => by cases p <;> first | rfl | (rw [w] at hp; cases hp))

theorem Goes.timeFrac {l : List Part} {a s : State} {v} (h : Goes l a s) (w : l.contains .timeFrac = true) : Goes l a { s with timeFrac := v } :=
  h.plain (by rfl) (by rfl) (by rfl) (by rfl) (by rfl) id (fun p hp => by cases p <;> first | rfl | (rw [w] at hp; cases hp))

theorem Goes.intc {l : List Part} {a s : State} {v} (h : Goes l a s) (w : l.contains .intc = true) : Goes l a { s with intc := v } :=
  h.plain (by rfl) (by rfl) (by rfl) (by rfl) (by rfl) id (fun p hp => by cases p <;> first | rfl | (rw [w] at hp; cases hp))

theorem Goes.myk {l : List Part} {a s : State} {v} (h : Goes l a s) (w : l.contains .myk = true) : Goes l a { s with myk := v } :=
  h.plain (by rfl) (by rfl) (by rfl) (by rfl) (by rfl) id (fun p hp => by cases p <;> first | rfl | (rw [w] at hp; cases hp))

theorem Goes.hostq {l : List Part} {a s : State} {v} (h : Goes l a s) (w : l.contains .hostq = true) : Goes l a { s with hostq := v } :=
  h.plain (by rfl) (by rfl) (by rfl) (by rfl) (by rfl) id (fun p hp => by cases p <;> first | rfl | (rw [w] at hp; cases hp))

theorem Goes.sched {l : List Part} {a s : State} {v} (h : Goes l a s) (w : l.contains .sched = true) : Goes l a { s with sched := v } :=
  h.plain (by rfl) (by rfl) (by rfl) (by rfl) (by rfl) id (fun p hp => by cases p <;> first | rfl | (rw [w] at hp; cases hp))

theorem Goes.skein {l : List Part} {a s : State} {v} (h : Goes l a s) (w : l.contains .skein = true) : Goes l a { s with skein := v } :=
  h.plain (by rfl) (by rfl) (by rfl) (by rfl) (by rfl) id (fun p hp => by cases p <;> first | rfl | (rw [w] at hp; cases hp))

theorem Goes.memst {l : List Part} {a s : State} {v} (h : Goes l a s) (w : l.contains .memst = true) : Goes l a { s with memst := v } :=
  h.plain (by rfl) (by rfl) (by rfl) (by rfl) (by rfl) id (fun p hp => by cases p <;> first | rfl | (rw [w] at hp; cases hp))

theorem Goes.pmon {l : List Part} {a s : State} {v} (h : Goes l a s) (w : l.contains .pmon = true) : Goes l a { s with pmon := v } :=
  h.plain (by rfl) (by rfl) (by rfl) (by rfl) (by rfl) id (fun p hp => by cases p <;> first | rfl | (rw [w] at hp; cases hp))

theorem Goes.hlth {l : List Part} {a s : State} {v} (h : Goes l a s) (w : l.contains .hlth = true) : Goes l a { s with hlth := v } :=
  h.plain (by rfl) (by rfl) (by rfl) (by rfl) (by rfl) id (fun p hp => by cases p <;> first | rfl | (rw [w] at hp; cases hp))

theorem Goes.bed {l : List Part} {a s : State} {v} (h : Goes l a s) (w : l.contains .bed = true) : Goes l a { s with bed := v } :=
  h.plain (by rfl) (by rfl) (by rfl) (by rfl) (by rfl) id (fun p hp => by cases p <;> first | rfl | (rw [w] at hp; cases hp))

theorem Goes.stch {l : List Part} {a s : State} {v} (h : Goes l a s) (w : l.contains .stch = true) : Goes l a { s with stch := v } :=
  h.plain (by rfl) (by rfl) (by rfl) (by rfl) (by rfl) id (fun p hp => by cases p <;> first | rfl | (rw [w] at hp; cases hp))

theorem Goes.purl {l : List Part} {a s : State} {v} (h : Goes l a s) (w : l.contains .purl = true) : Goes l a { s with purl := v } :=
  h.plain (by rfl) (by rfl) (by rfl) (by rfl) (by rfl) id (fun p hp => by cases p <;> first | rfl | (rw [w] at hp; cases hp))

theorem Goes.ciph {l : List Part} {a s : State} {v} (h : Goes l a s) (w : l.contains .ciph = true) : Goes l a { s with ciph := v } :=
  h.plain (by rfl) (by rfl) (by rfl) (by rfl) (by rfl) id (fun p hp => by cases p <;> first | rfl | (rw [w] at hp; cases hp))

theorem Goes.xport {l : List Part} {a s : State} {v} (h : Goes l a s) (w : l.contains .xport = true) : Goes l a { s with xport := v } :=
  h.plain (by rfl) (by rfl) (by rfl) (by rfl) (by rfl) id (fun p hp => by cases p <;> first | rfl | (rw [w] at hp; cases hp))

theorem Goes.fab {l : List Part} {a s : State} {v} (h : Goes l a s) (w : l.contains .fab = true) : Goes l a { s with fab := v } :=
  h.plain (by rfl) (by rfl) (by rfl) (by rfl) (by rfl) id (fun p hp => by cases p <;> first | rfl | (rw [w] at hp; cases hp))

theorem Goes.time {l : List Part} {a s : State} {v} (h : Goes l a s) (w : l.contains .time = true) : Goes l a { s with time := v } :=
  h.plain (by rfl) (by rfl) (by rfl) (by rfl) (by rfl) id (fun p hp => by cases p <;> first | rfl | (rw [w] at hp; cases hp))

theorem Goes.grp {l : List Part} {a s : State} {v} (h : Goes l a s) (w : l.contains .grp = true) : Goes l a { s with grp := v } :=
  h.plain (by rfl) (by rfl) (by rfl) (by rfl) (by rfl) id (fun p hp => by cases p <;> first | rfl | (rw [w] at hp; cases hp))

theorem Goes.pho {l : List Part} {a s : State} {v} (h : Goes l a s) (w : l.contains .pho = true) : Goes l a { s with pho := v } :=
  h.plain (by rfl) (by rfl) (by rfl) (by rfl) (by rfl) id (fun p hp => by cases p <;> first | rfl | (rw [w] at hp; cases hp))

theorem Goes.boot {l : List Part} {a s : State} {v} (h : Goes l a s) (w : l.contains .boot = true) : Goes l a { s with boot := v } :=
  h.plain (by rfl) (by rfl) (by rfl) (by rfl) (by rfl) id (fun p hp => by cases p <;> first | rfl | (rw [w] at hp; cases hp))

theorem Goes.ctl {l : List Part} {a s : State} {v} (h : Goes l a s) (w : l.contains .ctl = true) : Goes l a { s with ctl := v } :=
  h.plain (by rfl) (by rfl) (by rfl) (by rfl) (by rfl) id (fun p hp => by cases p <;> first | rfl | (rw [w] at hp; cases hp))

theorem Goes.rerun {l : List Part} {a s : State} {v} (h : Goes l a s) (w : l.contains .rerun = true) : Goes l a { s with rerun := v } :=
  h.plain (by rfl) (by rfl) (by rfl) (by rfl) (by rfl) id (fun p hp => by cases p <;> first | rfl | (rw [w] at hp; cases hp))

theorem Goes.line {l : List Part} {a s : State} {v : List LinePort} (h : Goes l a s) (w : l.contains .line = true)
    (k : v.length = s.line.length) : Goes l a { s with line := v } :=
  h.plain (by rfl) (by rfl) (by rfl) (by rfl) (by rfl) (fun x => k.trans x)
    (fun p hp => by cases p <;> first | rfl | (rw [w] at hp; cases hp))

/-- An update of the stored objects that lowers no floor. -/
theorem Goes.keep {l : List Part} {a s : State} {v : StoreSt} (h : Goes l a s) (w : l.contains .keep = true)
    (k : s.keep.floorSec ≤ v.floorSec ∧ s.keep.floorMgmt ≤ v.floorMgmt) : Goes l a { s with keep := v } :=
  h.step (f := [.keep]) ⟨fun p hp => (by cases p <;> first | rfl | cases hp), id, id, k, List.prefix_refl _, Nat.le_refl _, id⟩
    (by simpa [within] using w)

/-- A slot of the critical-state store changes no floor. -/
theorem putSlot_floors {k : StoreSt} {i : Bool} {x : Option CritImage} :
    k.floorSec ≤ (k.putSlot i x).floorSec ∧ k.floorMgmt ≤ (k.putSlot i x).floorMgmt := by
  unfold StoreSt.putSlot
  split <;> exact ⟨Nat.le_refl _, Nat.le_refl _⟩

theorem Goes.boot_memst {l : List Part} {a s : State} {v w} (h : Goes l a s) (x : within [.boot, .memst] l = true) :
    Goes l a { s with boot := v, memst := w } :=
  have y0 : Goes [.boot, .memst] s { s with boot := v } := Goes.boot Goes.refl (by decide)
  have y : Goes [.boot, .memst] s { s with boot := v, memst := w } := Goes.memst y0 (by decide)
  h.step y x
theorem Goes.hlth_boot {l : List Part} {a s : State} {v w} (h : Goes l a s) (x : within [.hlth, .boot] l = true) :
    Goes l a { s with hlth := v, boot := w } :=
  have y0 : Goes [.hlth, .boot] s { s with hlth := v } := Goes.hlth Goes.refl (by decide)
  have y : Goes [.hlth, .boot] s { s with hlth := v, boot := w } := Goes.boot y0 (by decide)
  h.step y x
theorem Goes.hlth_keep {l : List Part} {a s : State} {v w} (h : Goes l a s) (x : within [.hlth, .keep] l = true)
    (k : s.keep.floorSec ≤ w.floorSec ∧ s.keep.floorMgmt ≤ w.floorMgmt) : Goes l a { s with hlth := v, keep := w } :=
  have y0 : Goes [.hlth, .keep] s { s with hlth := v } := Goes.hlth Goes.refl (by decide)
  have y : Goes [.hlth, .keep] s { s with hlth := v, keep := w } := Goes.keep y0 (by decide) k
  h.step y x
theorem Goes.boot_keep {l : List Part} {a s : State} {v w} (h : Goes l a s) (x : within [.boot, .keep] l = true)
    (k : s.keep.floorSec ≤ w.floorSec ∧ s.keep.floorMgmt ≤ w.floorMgmt) : Goes l a { s with boot := v, keep := w } :=
  have y0 : Goes [.boot, .keep] s { s with boot := v } := Goes.boot Goes.refl (by decide)
  have y : Goes [.boot, .keep] s { s with boot := v, keep := w } := Goes.keep y0 (by decide) k
  h.step y x

/-! ## The operations that write registers, memory and what leaves the module -/

theorem wrReg_goes {s : State} {r : Reg} {v : Word} {i j : Nat} : Goes [.csr] s (s.wrReg r v i j) :=
  ⟨fun p hp => (by cases p <;> first | rfl | cases hp), id, wordPut_wf _ _ _ _, ⟨Nat.le_refl _, Nat.le_refl _⟩, List.prefix_refl _, Nat.le_refl _, id⟩

theorem set_goes {s : State} {f : Field} {v i j : Nat} : Goes [.csr] s (s.set f v i j) := wrReg_goes
theorem addSat_goes {s : State} {f : Field} {v i j : Nat} : Goes [.csr] s (s.addSat f v i j) := wrReg_goes
theorem addWrap_goes {s : State} {f : Field} {v i j : Nat} : Goes [.csr] s (s.addWrap f v i j) := wrReg_goes

/-- Sending more. -/
theorem Goes.send {l : List Part} {a s : State} {x : List Out} (h : Goes l a s) (w : l.contains .out = true) :
    Goes l a { s with out := s.out ++ x } :=
  h.step (f := [.out]) ⟨fun p hp => (by cases p <;> first | rfl | cases hp), id, id, ⟨Nat.le_refl _, Nat.le_refl _⟩, List.prefix_append _ _,
    Nat.le_refl _, id⟩ (by simpa [within] using w)

theorem emit_goes {s : State} {x : Out} : Goes [.out] s (s.emit x) :=
  ⟨fun p hp => (by cases p <;> first | rfl | cases hp), id, id, ⟨Nat.le_refl _, Nat.le_refl _⟩, List.prefix_append _ _, Nat.le_refl _, id⟩

theorem fresh_goes {s : State} : GoesSnd [.freeCtr] s s.fresh :=
  ⟨fun p hp => (by cases p <;> first | rfl | cases hp), id, id, ⟨Nat.le_refl _, Nat.le_refl _⟩, List.prefix_refl _, Nat.le_succ _, id⟩

theorem writeBytes_goes {s : State} {a : Nat} {bs : Bytes} : Goes [.mem, .poison] s (s.writeBytes a bs) :=
  ⟨fun p hp => (by cases p <;> first | rfl | cases hp), cellsPut_wf _ _ _, id, ⟨Nat.le_refl _, Nat.le_refl _⟩, List.prefix_refl _, Nat.le_refl _, id⟩

theorem hostWrite_goes {s : State} {a : Nat} {bs : Bytes} : Goes [.csr, .mem, .poison, .out, .myk] s (s.hostWrite a bs) := by
  unfold State.hostWrite
  refine .ite .refl (.ite ?_ ?_)
  · exact .step (.myk .refl (by decide)) addSat_goes (by decide)
  · exact .send (.step .refl writeBytes_goes (by decide)) (by decide)

end Sys2Proof.Machine
end

