-- ==== Sys2Proof/Laws/GoesBase.lean ====
section
/-!
SUPPORT. Laws/GoesBase.lean: what the operations of Machine/Ops, Operands, Flags, Crypto, Erasure, Skein, Queues, Fabric,
      Mirror, Memory, LaneCode, Line keep (`Goes`, of Laws/Goes.lean): the shared operations over registers, memory, completion
      queues, allocation and lanes.
Each `…_goes` lists the parts of the state that its operation may change.
-/
namespace Sys2Proof.Machine
open Csr

/-! ## Ops -/

theorem markQuarantined_goes {s block cluster v} : Goes [.csr] s (State.markQuarantined s block cluster v) := by
  unfold State.markQuarantined
  split
  · rename_i n1 n2
    exact .refl
  · rename_i n3 n4 n5
    exact .step .refl set_goes (by decide)

theorem divOpen_goes {s n d} : GoesSnd [.freeCtr] s (State.divOpen s n d) := by
  unfold State.divOpen
  refine .ite ?_ ?_
  · exact .mk .refl
  · exact .mk (.snd (.step .refl fresh_goes (by decide)))

theorem sendIntr_goes {s} : Goes [.out] s (State.sendIntr s) := by
  unfold State.sendIntr
  extract_lets v1
  clear_value v1
  exact .step .refl emit_goes (by decide)

theorem intcUpdate_goes {s} : Goes [.out, .intc] s (State.intcUpdate s) := by
  unfold State.intcUpdate
  extract_lets v1 v2 v3 v4
  clear_value v1 v2
  have h5 : Goes [.out, .intc] s v3
  · unfold v3
    refine .ite ?_ ?_
    · exact .step .refl sendIntr_goes (by decide)
    · exact .refl
  clear_value v3 v4
  refine .ite ?_ ?_
  · exact .intc .refl (by decide)
  · refine .intc ?_ (by decide)
    with_reducible assumption

theorem raise_goes {s f i} : Goes [.csr, .out, .intc] s (State.raise s f i) := by
  unfold State.raise
  exact .step (.step .refl set_goes (by decide)) intcUpdate_goes (by decide)

theorem counterAdd_goes {s n amount} : Goes [.csr, .out, .intc] s (State.counterAdd s n amount) := by
  unfold State.counterAdd
  extract_lets v1 v2 v3
  clear_value v1
  have h4 : Goes [.csr, .out, .intc] s v2
  · unfold v2
    exact .step .refl set_goes (by decide)
  clear_value v2
  have h5 : Goes [.csr, .out, .intc] s v3
  · unfold v3
    refine .step ?_ set_goes (by decide)
    with_reducible assumption
  clear_value v3
  refine .ite ?_ ?_
  · with_reducible assumption
  · refine .ite ?_ ?_
    · refine .step ?_ raise_goes (by decide)
      with_reducible assumption
    · with_reducible assumption

theorem pmonEdge_goes {s code amount a} : Goes [.csr, .out, .intc] s (State.pmonEdge s code amount a) := by
  unfold State.pmonEdge
  refine .ite ?_ ?_
  · refine .foldl ?_ (fun x1 y2 h3 => ?_)
    · exact .refl
    · refine .step ?_ counterAdd_goes (by decide)
      with_reducible assumption
  · exact .refl

theorem memEvent_goes {s write a n cls block} : Goes [.csr, .out, .intc] s (State.memEvent s write a n cls block) := by
  unfold State.memEvent
  refine .ite ?_ ?_
  · exact .refl
  · exact .step .refl pmonEdge_goes (by decide)

theorem store_goes {s a bs} : Goes [.csr, .mem, .poison, .out, .myk] s (State.store s a bs) := by
  unfold State.store
  refine .ite ?_ ?_
  · exact .step .refl hostWrite_goes (by decide)
  · exact .step .refl writeBytes_goes (by decide)

theorem engineWrite_goes {s block cls a bs} :
    Goes [.csr, .mem, .poison, .out, .intc, .myk] s (State.engineWrite s block cls a bs) := by
  unfold State.engineWrite
  exact .step (.step .refl store_goes (by decide)) memEvent_goes (by decide)

theorem respond_goes {s m tag status reason data} : Goes [.out] s (State.respond s m tag status reason data) := by
  unfold State.respond
  split
  · rename_i n1
    exact .step .refl emit_goes (by decide)
  · rename_i n2 n3
    exact .step .refl emit_goes (by decide)

theorem report_goes {s reason} : Goes [.out] s (State.report s reason) := by
  unfold State.report
  exact .step .refl emit_goes (by decide)

theorem healthRing_goes {s entry} : Goes [.csr, .mem, .poison, .out, .intc, .myk] s (State.healthRing s entry) := by
  unfold State.healthRing
  extract_lets v1 v2 v3 v4 v5 v6
  clear_value v1 v2 v3 v4
  have h7 : Goes [.csr, .mem, .poison, .out, .intc, .myk] s v5
  · unfold v5
    exact .step (.step .refl addSat_goes (by decide)) set_goes (by decide)
  clear_value v5 v6
  refine .ite ?_ ?_
  · refine .ite ?_ ?_
    · refine .step (.step ?_ report_goes (by decide)) raise_goes (by decide)
      with_reducible assumption
    · with_reducible assumption
  · exact .step (.step (.step .refl hostWrite_goes (by decide)) set_goes (by decide)) raise_goes (by decide)

theorem event_goes {s src} : Goes [.csr, .out, .intc] s (State.event s src) := by
  unfold State.event
  extract_lets v1 v2
  clear_value v1
  have h3 : Goes [.csr, .out, .intc] s v2
  · unfold v2
    refine .ite ?_ ?_
    · refine .step (.step (.step ?_ addSat_goes (by decide)) set_goes (by decide)) pmonEdge_goes (by decide)
      exact .step .refl set_goes (by decide)
    · exact .intc .refl (by decide)
  clear_value v2
  refine .step ?_ intcUpdate_goes (by decide)
  with_reducible assumption

theorem busyUpdate_goes {s block} : Goes [.csr] s (State.busyUpdate s block) := by
  unfold State.busyUpdate
  extract_lets v1
  clear_value v1
  refine .ite ?_ ?_
  · exact .step .refl set_goes (by decide)
  · refine .ite ?_ ?_
    · exact .step .refl set_goes (by decide)
    · exact .refl

theorem finish_goes {s w r} : Goes [.csr, .hostq] s (State.finish s w r) := by
  unfold State.finish
  extract_lets v1 v2 v3
  clear_value v1 v2 v3
  exact .step (.hostq .refl (by decide)) busyUpdate_goes (by decide)

theorem finishError_goes {s w reason} : Goes [.csr, .hostq] s (State.finishError s w reason) := by
  unfold State.finishError
  exact .step .refl finish_goes (by decide)

theorem meter_goes {s k tx rx} : Goes [.pmon] s (State.meter s k tx rx) := by
  unfold State.meter
  extract_lets v1
  clear_value v1
  refine .ite ?_ ?_
  · exact .pmon .refl (by decide)
  · exact .refl

theorem violation_goes {s v} : Goes [.csr, .mem, .poison, .out, .intc, .myk] s (State.violation s v) := by
  unfold State.violation
  extract_lets v1 v2 v3 v4 v5 v6 v7 v8
  have h9 : Goes [.csr, .mem, .poison, .out, .intc, .myk] s v1
  · unfold v1
    exact .step .refl addWrap_goes (by decide)
  clear_value v1 v2 v3 v4 v5
  have h10 : Goes [.csr, .mem, .poison, .out, .intc, .myk] s v6
  · unfold v6
    refine .step (.step ?_ addSat_goes (by decide)) set_goes (by decide)
    with_reducible assumption
  clear_value v6 v7
  have h11 : Goes [.csr, .mem, .poison, .out, .intc, .myk] s v8
  · unfold v8
    refine .step ?_ hostWrite_goes (by decide)
    with_reducible assumption
  clear_value v8
  refine .ite ?_ ?_
  · refine .ite ?_ ?_
    · refine .step (.step ?_ report_goes (by decide)) raise_goes (by decide)
      with_reducible assumption
    · with_reducible assumption
  · refine .step (.step ?_ set_goes (by decide)) intcUpdate_goes (by decide)
    with_reducible assumption

theorem memRefuse_goes {s reason cls block write a queue} :
    Goes [.csr, .mem, .poison, .out, .intc, .myk] s (State.memRefuse s reason cls block write a queue) := by
  unfold State.memRefuse
  extract_lets v1
  have h2 : Goes [.csr, .mem, .poison, .out, .intc, .myk] s v1
  · unfold v1
    refine .step (.step (.step ?_ set_goes (by decide)) set_goes (by decide)) raise_goes (by decide)
    refine .step (.step (.step (.step ?_ set_goes (by decide)) set_goes (by decide)) set_goes (by decide)) set_goes (by decide)
    exact .refl
  clear_value v1
  refine .step ?_ violation_goes (by decide)
  with_reducible assumption

theorem logAccess_goes {s w l} : Goes [.csr, .mem, .poison, .out, .intc, .myk] s (State.logAccess s w l) := by
  unfold State.logAccess
  split
  · rename_i n1 n2
    exact .refl
  · rename_i n3 n4 n5 n6 n7
    exact .step .refl memRefuse_goes (by decide)

theorem issueRead_goes {s r} : Goes [.out, .myk] s (State.issueRead s r) := by
  unfold State.issueRead
  extract_lets v1
  clear_value v1
  split
  · rename_i n2 n3
    exact .myk .refl (by decide)
  · rename_i n4 n5 n6
    exact .step (.myk .refl (by decide)) emit_goes (by decide)

theorem readHost_goes {s a n} : Goes [.out, .myk] s (State.readHost s a n) := by
  unfold State.readHost
  refine .ite ?_ ?_
  · refine .foldl ?_ (fun x1 y2 h3 => ?_)
    · exact .refl
    · refine .step ?_ issueRead_goes (by decide)
      with_reducible assumption
  · exact .refl

theorem quarantineCount_goes {s panel block cluster} : Goes [.csr, .hlth] s (State.quarantineCount s panel block cluster) := by
  unfold State.quarantineCount
  extract_lets v1 v2 v3
  clear_value v1
  have h4 : Goes [.csr, .hlth] s v2
  · unfold v2
    exact .step .refl addSat_goes (by decide)
  clear_value v2 v3
  refine .hlth ?_ (by decide)
  with_reducible assumption

theorem poisonBytes_goes {s a n} : Goes [.poison] s (State.poisonBytes s a n) := by
  unfold State.poisonBytes
  exact .poison .refl (by decide)

theorem capChange_goes {s b} : Goes [.csr, .out, .intc] s (State.capChange s b) := by
  unfold State.capChange
  exact .step (.step .refl set_goes (by decide)) intcUpdate_goes (by decide)

theorem moduleFault_goes {s reason} : Goes [.csr, .out, .intc] s (State.moduleFault s reason) := by
  unfold State.moduleFault
  refine .step (.step (.step ?_ set_goes (by decide)) report_goes (by decide)) intcUpdate_goes (by decide)
  exact .step .refl set_goes (by decide)

theorem readEvents_goes {s w l} : Goes [.csr, .out, .intc] s (State.readEvents s w l) := by
  unfold State.readEvents
  refine .foldl ?_ (fun x1 y2 h3 => ?_)
  · exact .refl
  · refine .step ?_ memEvent_goes (by decide)
    with_reducible assumption

theorem health_goes {s h} : Goes [.csr, .mem, .poison, .out, .freeCtr, .intc, .myk, .hlth] s (State.health s h) := by
  unfold State.health
  extract_lets v1 v2 v3 v4 v5 v6
  clear_value v1
  have h7 : Goes [.csr, .mem, .poison, .out, .freeCtr, .intc, .myk, .hlth] s v2
  · unfold v2
    exact .snd (.step .refl fresh_goes (by decide))
  clear_value v2 v3 v4 v5 v6
  split
  rename_i n8 n9 n10 n11 n12
  extract_lets v13 v14 v15 v16
  clear_value v13 v14
  have h17 : Goes [.csr, .mem, .poison, .out, .freeCtr, .intc, .myk, .hlth] s v15
  · unfold v15
    refine .hlth ?_ (by decide)
    with_reducible assumption
  clear_value v15
  have h18 : Goes [.csr, .mem, .poison, .out, .freeCtr, .intc, .myk, .hlth] s v16
  · unfold v16
    refine .ite ?_ ?_
    · refine .step ?_ addSat_goes (by decide)
      with_reducible assumption
    · with_reducible assumption
  clear_value v16
  refine .ite ?_ ?_
  · with_reducible assumption
  · refine .step ?_ healthRing_goes (by decide)
    with_reducible assumption

theorem refuseConfig_goes {s reasonField statusBit reason} :
    Goes [.csr, .out, .intc] s (State.refuseConfig s reasonField statusBit reason) := by
  unfold State.refuseConfig
  exact .step (.step .refl set_goes (by decide)) raise_goes (by decide)

/-! ## Skein -/

theorem putSkeinRec_goes {s p i r} : Goes [.mem, .poison] s (State.putSkeinRec s p i r) := by
  unfold State.putSkeinRec
  exact .step .refl writeBytes_goes (by decide)

theorem putPool_goes {s p x} : Goes [.skein] s (State.putPool s p x) := by
  unfold State.putPool
  extract_lets v1
  clear_value v1
  exact .skein .refl (by decide)

theorem skeinTake_goes {s cls p len} : GoesGrant [.csr, .mem, .poison, .out, .intc, .skein] s (State.skeinTake s cls p len) := by
  unfold State.skeinTake
  extract_lets v1
  clear_value v1
  split
  · rename_i n2 n3
    exact .exhausted
  · rename_i n4 n5 n6 n7
    extract_lets v8 v9 v10 v11 v12 v13 v14 v15
    have h16 : Goes [.csr, .mem, .poison, .out, .intc, .skein] s v8
    · unfold v8
      exact .step .refl putPool_goes (by decide)
    clear_value v8 v9
    have h17 : Goes [.csr, .mem, .poison, .out, .intc, .skein] s v10
    · unfold v10
      refine .step (.step ?_ set_goes (by decide)) set_goes (by decide)
      with_reducible assumption
    clear_value v10 v11
    have h18 : Goes [.csr, .mem, .poison, .out, .intc, .skein] s v12
    · unfold v12
      refine .step (.step ?_ set_goes (by decide)) set_goes (by decide)
      with_reducible assumption
    clear_value v12 v13 v14
    have h19 : Goes [.csr, .mem, .poison, .out, .intc, .skein] s v15
    · unfold v15
      refine .step ?_ putSkeinRec_goes (by decide)
      with_reducible assumption
    clear_value v15
    refine .mk (.step ?_ pmonEdge_goes (by decide))
    with_reducible assumption

theorem skeinTry_goes {s : State} {cls len : Nat} {ps : List Nat} : GoesGrant [.csr, .mem, .poison, .out, .intc, .skein] s
      (s.skeinTry cls len ps) := by
  induction ps with
  | nil => exact .exhausted
  | cons p ps ih =>
    unfold State.skeinTry
    exact .ite (.step .refl skeinTake_goes (by decide)) (.ite ih .exhausted)

theorem skeinAlloc_goes {s cls len} : GoesGrant [.csr, .mem, .poison, .out, .intc, .skein] s (State.skeinAlloc s cls len) := by
  unfold State.skeinAlloc
  refine .ite ?_ ?_
  · exact .refused
  · refine .ite ?_ ?_
    · exact .refused
    · split
      · rename_i n1 n2
        exact .refused
      · rename_i n3 n4
        exact .step .refl skeinTry_goes (by decide)

theorem grantWaiting_goes {s : State} {l : List SkeinWait} : Goes [.csr, .mem, .poison, .out, .intc, .skein] s (grantWaiting s
      l) := by
  induction l with
  | nil => exact .refl
  | cons x r ih =>
    unfold grantWaiting
    split
    · rename_i h t e
      exact .skein (GoesGrant.of e (.step .refl skeinAlloc_goes (by decide))) (by decide)
    · exact ih

theorem skeinFree_goes {s h cls} : GoesOk [.csr, .mem, .poison, .out, .skein] s (State.skeinFree s h cls) := by
  unfold State.skeinFree
  split
  · rename_i n1 n2
    exact .error
  · rename_i n3 n4 n5 n6 n7
    extract_lets v8 v9 v10 v11 v12 v13 v14
    clear_value v8
    have h15 : Goes [.csr, .mem, .poison, .out, .skein] s v9
    · unfold v9
      refine .ite ?_ ?_
      · exact .step .refl set_goes (by decide)
      · exact .refl
    clear_value v9 v10 v11
    have h16 : Goes [.csr, .mem, .poison, .out, .skein] s v12
    · unfold v12
      refine .ite ?_ ?_
      · refine .step (.step ?_ set_goes (by decide)) set_goes (by decide)
        with_reducible assumption
      · with_reducible assumption
    clear_value v12 v13
    have h17 : Goes [.csr, .mem, .poison, .out, .skein] s v14
    · unfold v14
      refine .step ?_ putSkeinRec_goes (by decide)
      with_reducible assumption
    clear_value v14
    refine .ite ?_ ?_
    · refine .ite ?_ ?_
      · refine .mk ?_
        with_reducible assumption
      · refine .ite ?_ ?_
        · refine .mk (.step (.step ?_ addSat_goes (by decide)) report_goes (by decide))
          with_reducible assumption
        · refine .mk (.step (.step ?_ addWrap_goes (by decide)) putPool_goes (by decide))
          with_reducible assumption
    · exact .error

theorem reqEnd_goes {s q reason} : Goes [.csr, .hostq] s (State.reqEnd s q reason) := by
  unfold State.reqEnd
  split
  · rename_i n1 n2
    refine .ite ?_ ?_
    · exact .step .refl finish_goes (by decide)
    · exact .step .refl finish_goes (by decide)
  · rename_i n3 n4
    exact .refl

theorem skeinViolation_goes {s reason h cls queue} :
    Goes [.csr, .mem, .poison, .out, .intc, .myk] s (State.skeinViolation s reason h cls queue) := by
  unfold State.skeinViolation
  extract_lets v1 v2
  have h3 : Goes [.csr, .mem, .poison, .out, .intc, .myk] s v1
  · unfold v1
    refine .step (.step (.step (.step ?_ set_goes (by decide)) set_goes (by decide)) set_goes (by decide)) set_goes (by decide)
    exact .refl
  clear_value v1
  have h4 : Goes [.csr, .mem, .poison, .out, .intc, .myk] s v2
  · unfold v2
    refine .step (.step ?_ addSat_goes (by decide)) raise_goes (by decide)
    with_reducible assumption
  clear_value v2
  refine .step ?_ violation_goes (by decide)
  with_reducible assumption

theorem execFree_goes {q h s} : GoesNext [.csr, .mem, .poison, .out, .intc, .myk, .hostq, .skein] s (execFree q h s) := by
  unfold execFree
  split
  rename_i n1 n2 n3 n4
  split
  · rename_i n5 n6 n7
    have h8 : Goes [.csr, .mem, .poison, .out, .intc, .myk, .hostq, .skein] s n6
    · exact GoesOk.of n7 (.step .refl skeinFree_goes (by decide))
    refine .mk (.step ?_ reqEnd_goes (by decide))
    with_reducible assumption
  · rename_i n9 n10 n11
    exact .mk (.step (.step .refl skeinViolation_goes (by decide)) reqEnd_goes (by decide))

theorem skeinRefused_goes {s reason cls queue} : Goes [.csr, .out, .intc] s (State.skeinRefused s reason cls queue) := by
  unfold State.skeinRefused
  extract_lets v1 v2
  have h3 : Goes [.csr, .out, .intc] s v1
  · unfold v1
    exact .step (.step (.step .refl set_goes (by decide)) set_goes (by decide)) set_goes (by decide)
  clear_value v1
  have h4 : Goes [.csr, .out, .intc] s v2
  · unfold v2
    refine .step ?_ addSat_goes (by decide)
    with_reducible assumption
  clear_value v2
  refine .ite ?_ ?_
  · with_reducible assumption
  · refine .ite ?_ ?_
    · refine .step ?_ raise_goes (by decide)
      with_reducible assumption
    · with_reducible assumption

theorem execSkeinEngineRequest_goes {cls len s} :
    GoesNext [.csr, .mem, .poison, .out, .intc, .skein] s (execSkeinEngineRequest cls len s) := by
  unfold execSkeinEngineRequest
  extract_lets v1
  clear_value v1
  split
  · rename_i n2 n3 n4 n5
    have h6 : Goes [.csr, .mem, .poison, .out, .intc, .skein] s n4
    · exact GoesGrant.of n5 (.step .refl skeinAlloc_goes (by decide))
    extract_lets v7
    clear_value v7
    refine .mk (.skein ?_ (by decide))
    with_reducible assumption
  · rename_i n8 n9 n10
    exact .mk (.step .refl skeinRefused_goes (by decide))
  · rename_i n11 n12
    exact .mk (.step (.skein .refl (by decide)) addSat_goes (by decide))

theorem execShare_goes {q h add s} : GoesNext [.csr, .mem, .poison, .out, .intc, .myk, .hostq] s (execShare q h add s) := by
  unfold execShare
  split
  rename_i n1 n2 n3 n4
  split
  · rename_i n5 n6
    exact .mk (.step (.step .refl skeinViolation_goes (by decide)) reqEnd_goes (by decide))
  · rename_i n7 n8 n9 n10 n11
    refine .ite ?_ ?_
    · exact .mk (.step (.step .refl putSkeinRec_goes (by decide)) reqEnd_goes (by decide))
    · exact .mk (.step (.step (.step .refl skeinRefused_goes (by decide)) set_goes (by decide)) reqEnd_goes (by decide))

theorem execSkeinWaitGrant_goes {s} : GoesNext [.csr, .mem, .poison, .out, .intc, .skein] s (execSkeinWaitGrant s) := by
  unfold execSkeinWaitGrant
  exact .mk (.step .refl grantWaiting_goes (by decide))

theorem skeinInit_goes {s : State} : Goes [.csr, .mem, .skein] s s.skeinInit := by
  unfold State.skeinInit
  extract_lets a uses b recs lo
  have ha : Goes [.csr, .mem, .skein] s a := by
    refine .foldl .refl (fun x p h => ?_)
    exact .step (.step (.step h set_goes (by decide)) set_goes (by decide)) putPool_goes (by decide)
  have hb : Goes [.csr, .mem, .skein] s b := .foldl ha (fun x u h => .step h wrReg_goes (by decide))
  clear_value b
  refine .step hb (f := [.mem, .skein]) ⟨fun p hp => (by cases p <;> first | rfl | cases hp), memory_filter_wf _ _, id,
    ⟨Nat.le_refl _, Nat.le_refl _⟩, List.prefix_refl _, Nat.le_refl _, id⟩ (by decide)

theorem execAlloc_goes {w len s} : GoesNext [.csr, .mem, .poison, .out, .intc, .hostq, .skein] s (execAlloc w len s) := by
  unfold execAlloc
  extract_lets v1
  clear_value v1
  split
  · rename_i n2 n3 n4 n5
    have h6 : Goes [.csr, .mem, .poison, .out, .intc, .hostq, .skein] s n4
    · exact GoesGrant.of n5 (.step .refl skeinAlloc_goes (by decide))
    extract_lets v7
    clear_value v7
    refine .mk (.step (.skein ?_ (by decide)) reqEnd_goes (by decide))
    with_reducible assumption
  · rename_i n8 n9 n10
    exact .mk (.step (.step .refl skeinRefused_goes (by decide)) reqEnd_goes (by decide))
  · rename_i n11 n12
    exact .mk (.step (.step .refl skeinRefused_goes (by decide)) reqEnd_goes (by decide))

/-! ## Queues -/

theorem discardFetched_goes {s q} : Goes [.hostq] s (State.discardFetched s q) := by
  unfold State.discardFetched
  extract_lets v1
  clear_value v1
  exact .hostq .refl (by decide)

theorem queueDisable_goes {s q} : Goes [.csr, .hostq] s (State.queueDisable s q) := by
  unfold State.queueDisable
  extract_lets v1
  have h2 : Goes [.csr, .hostq] s v1
  · unfold v1
    exact .step (.step (.step .refl set_goes (by decide)) discardFetched_goes (by decide)) set_goes (by decide)
  clear_value v1
  refine .ite ?_ ?_
  · with_reducible assumption
  · refine .step ?_ set_goes (by decide)
    with_reducible assumption

theorem badMessage_goes {s} : Goes [.csr, .out] s (State.badMessage s) := by
  unfold State.badMessage
  exact .step (.step .refl addSat_goes (by decide)) report_goes (by decide)

theorem queueLog_goes {s reason q source addr} : Goes [.csr] s (State.queueLog s reason q source addr) := by
  unfold State.queueLog
  refine .step (.step (.step (.step ?_ set_goes (by decide)) set_goes (by decide)) set_goes (by decide)) set_goes (by decide)
  exact .step .refl set_goes (by decide)

theorem refuseBell_goes {s b reason} : Goes [.csr, .mem, .poison, .out, .intc, .myk] s (State.refuseBell s b reason) := by
  unfold State.refuseBell
  extract_lets v1 v2 v3 v4
  clear_value v1
  have h5 : Goes [.csr, .mem, .poison, .out, .intc, .myk] s v2
  · unfold v2
    exact .step .refl queueLog_goes (by decide)
  clear_value v2
  have h6 : Goes [.csr, .mem, .poison, .out, .intc, .myk] s v3
  · unfold v3
    refine .step (.step ?_ addSat_goes (by decide)) raise_goes (by decide)
    with_reducible assumption
  clear_value v3 v4
  refine .ite ?_ ?_
  · with_reducible assumption
  · refine .step ?_ violation_goes (by decide)
    with_reducible assumption

theorem cqDoorBell_goes {s b} : Goes [.csr, .mem, .poison, .out, .intc, .myk, .hostq] s (State.cqDoorBell s b) := by
  unfold State.cqDoorBell
  extract_lets v1 v2 v3 v4 v5 v6 v7 v8
  clear_value v1 v2 v3
  have h9 : Goes [.csr, .mem, .poison, .out, .intc, .myk, .hostq] s v4
  · unfold v4
    exact .step .refl set_goes (by decide)
  clear_value v4 v5
  have h10 : Goes [.csr, .mem, .poison, .out, .intc, .myk, .hostq] s v6
  · unfold v6
    refine .ite ?_ ?_
    · refine .hostq ?_ (by decide)
      with_reducible assumption
    · with_reducible assumption
  clear_value v6
  have h11 : Goes [.csr, .mem, .poison, .out, .intc, .myk, .hostq] s v7
  · unfold v7
    refine .step ?_ set_goes (by decide)
    with_reducible assumption
  clear_value v7 v8
  split
  · rename_i n12 n13 n14
    exact .step .refl refuseBell_goes (by decide)
  · rename_i n15 n16
    refine .ite ?_ ?_
    · refine .ite ?_ ?_
      · refine .hostq ?_ (by decide)
        with_reducible assumption
      · with_reducible assumption
    · exact .step .refl refuseBell_goes (by decide)

theorem sqTailBell_goes {s b} : Goes [.csr, .mem, .poison, .out, .intc, .myk] s (State.sqTailBell s b) := by
  unfold State.sqTailBell
  extract_lets v1 v2 v3
  clear_value v1 v2 v3
  split
  · rename_i n4 n5 n6
    exact .step .refl refuseBell_goes (by decide)
  · rename_i n7 n8
    refine .ite ?_ ?_
    · exact .step .refl set_goes (by decide)
    · exact .step .refl refuseBell_goes (by decide)

theorem doorbell_goes {s msg wantCq} : Goes [.csr, .mem, .poison, .out, .intc, .myk, .hostq] s (State.doorbell s msg wantCq) := by
  unfold State.doorbell
  extract_lets v1 v2 v3 v4
  clear_value v1 v2 v3 v4
  refine .ite ?_ ?_
  · exact .step .refl badMessage_goes (by decide)
  · refine .ite ?_ ?_
    · exact .step .refl violation_goes (by decide)
    · refine .ite ?_ ?_
      · refine .ite ?_ ?_
        · exact .step .refl cqDoorBell_goes (by decide)
        · exact .step .refl sqTailBell_goes (by decide)
      · refine .ite ?_ ?_
        · exact .step .refl sqTailBell_goes (by decide)
        · refine .ite ?_ ?_
          · exact .step .refl cqDoorBell_goes (by decide)
          · exact .step .refl violation_goes (by decide)

theorem execCqDoor_goes {msg s} : GoesNext [.csr, .mem, .poison, .out, .intc, .myk, .hostq] s (execCqDoor msg s) := by
  unfold execCqDoor
  exact .mk (.step .refl doorbell_goes (by decide))

theorem police_goes {s k b pre} : GoesSnd [.out, .sched] s (State.police s k b pre) := by
  unfold State.police
  extract_lets v1 v2 v3 v4 v5 v6 v7 v8 v9
  clear_value v1 v2 v3 v4 v5 v6 v7 v9
  split
  rename_i n10 n11 n12 n13 n14 n15 n16
  extract_lets v17 v18 v19 v20 v21 v22 v23 v24 v25 v26
  clear_value v17 v18 v19 v20 v21 v22 v23 v24 v25 v26
  refine .ite ?_ ?_
  · exact .mk .refl
  · refine .ite ?_ ?_
    · refine .ite ?_ ?_
      · exact .mk .refl
      · exact .mk (.step (.sched .refl (by decide)) report_goes (by decide))
    · refine .ite ?_ ?_
      · refine .ite ?_ ?_
        · refine .mk ?_
          unfold v8
          extract_lets v27
          clear_value v27
          exact .sched .refl (by decide)
        · refine .ite ?_ ?_
          · refine .mk ?_
            unfold v8
            extract_lets v28
            clear_value v28
            exact .sched .refl (by decide)
          · refine .mk ?_
            unfold v8
            extract_lets v29
            clear_value v29
            exact .sched .refl (by decide)
      · refine .ite ?_ ?_
        · refine .mk ?_
          unfold v8
          extract_lets v30
          clear_value v30
          exact .sched .refl (by decide)
        · refine .ite ?_ ?_
          · refine .mk ?_
            unfold v8
            extract_lets v31
            clear_value v31
            exact .sched .refl (by decide)
          · refine .mk ?_
            unfold v8
            extract_lets v32
            clear_value v32
            exact .sched .refl (by decide)

theorem meterDesc_goes {s q desc} : GoesThird [.csr, .out, .intc, .sched] s (State.meterDesc s q desc) := by
  unfold State.meterDesc
  extract_lets v1 v2 v3
  clear_value v1 v2 v3
  refine .ite ?_ ?_
  · exact .mk .refl
  · refine .ite ?_ ?_
    · exact .mk .refl
    · split
      rename_i n4 n5 n6 n7
      have h8 : Goes [.csr, .out, .intc, .sched] s n6
      · exact GoesSnd.of n7 (.step .refl police_goes (by decide))
      extract_lets v9 v10 v11
      have h12 : Goes [.csr, .out, .intc, .sched] s v9
      · unfold v9
        refine .ite ?_ ?_
        · refine .step ?_ addWrap_goes (by decide)
          with_reducible assumption
        · refine .ite ?_ ?_
          · refine .step ?_ addSat_goes (by decide)
            with_reducible assumption
          · refine .step ?_ addSat_goes (by decide)
            with_reducible assumption
      clear_value v9 v10
      have h13 : Goes [.csr, .out, .intc, .sched] s v11
      · unfold v11
        refine .ite ?_ ?_
        · with_reducible assumption
        · refine .step (.step (.step ?_ set_goes (by decide)) set_goes (by decide)) raise_goes (by decide)
          refine .step ?_ set_goes (by decide)
          with_reducible assumption
      clear_value v11
      refine .mk ?_
      with_reducible assumption

theorem sampleOffer_goes {s u q addr desc} : GoesSnd [.csr, .out, .pmon] s (State.sampleOffer s u q addr desc) := by
  unfold State.sampleOffer
  extract_lets v1 v2 v3 v4
  clear_value v1 v2
  have h5 : Goes [.csr, .out, .pmon] s v3
  · unfold v3
    exact .pmon .refl (by decide)
  clear_value v3 v4
  refine .ite ?_ ?_
  · refine .ite ?_ ?_
    · refine .ite ?_ ?_
      · refine .mk (.step (.step (.step ?_ set_goes (by decide)) set_goes (by decide)) report_goes (by decide))
        refine .step ?_ addSat_goes (by decide)
        with_reducible assumption
      · refine .mk (.pmon ?_ (by decide))
        with_reducible assumption
    · exact .mk (.pmon .refl (by decide))
  · exact .mk .refl

theorem sampleSelect_goes {s q addr desc} : GoesSnd [.csr, .out, .pmon] s (State.sampleSelect s q addr desc) := by
  unfold State.sampleSelect
  refine .ite ?_ ?_
  · refine .foldl ?_ (fun x1 y2 h3 => ?_)
    · exact .mk .refl
    · split
      rename_i n4 n5 n6 n7
      have h8 : Goes [.csr, .out, .pmon] s n6
      · refine GoesSnd.of n7 (.step (.snd ?_) sampleOffer_goes (by decide))
        with_reducible assumption
      refine .mk ?_
      with_reducible assumption
  · exact .mk .refl

theorem arrive_goes {s f desc} : GoesSnd [.csr, .out, .intc, .sched, .pmon] s (State.arrive s f desc) := by
  unfold State.arrive
  extract_lets v1
  clear_value v1
  split
  rename_i n2 n3 n4 n5 n6
  have h7 : Goes [.csr, .out, .intc, .sched, .pmon] s n5
  · exact GoesThird.of n6 (.step .refl meterDesc_goes (by decide))
  split
  rename_i n8 n9 n10 n11
  have h12 : Goes [.csr, .out, .intc, .sched, .pmon] s n10
  · refine GoesSnd.of n11 (.step ?_ sampleSelect_goes (by decide))
    with_reducible assumption
  extract_lets v13
  have h14 : Goes [.csr, .out, .intc, .sched, .pmon] s v13
  · unfold v13
    refine .step ?_ pmonEdge_goes (by decide)
    with_reducible assumption
  clear_value v13
  refine .mk ?_
  with_reducible assumption

theorem putFetched_goes {s old new} : Goes [.hostq] s (State.putFetched s old new) := by
  unfold State.putFetched
  extract_lets v1
  clear_value v1
  exact .hostq .refl (by decide)

theorem fetchError_goes {s q addr} : Goes [.csr, .out, .intc, .hostq] s (State.fetchError s q addr) := by
  unfold State.fetchError
  extract_lets v1 v2 v3
  have h4 : Goes [.csr, .out, .intc, .hostq] s v1
  · unfold v1
    exact .step (.step (.step .refl set_goes (by decide)) set_goes (by decide)) queueLog_goes (by decide)
  clear_value v1
  have h5 : Goes [.csr, .out, .intc, .hostq] s v2
  · unfold v2
    refine .step (.step ?_ addSat_goes (by decide)) raise_goes (by decide)
    with_reducible assumption
  clear_value v2 v3
  refine .hostq ?_ (by decide)
  with_reducible assumption

theorem readEnds_goes {s tag r data ok} :
    Goes [.csr, .mem, .poison, .out, .intc, .myk, .hostq, .sched, .pmon] s (State.readEnds s tag r data ok) := by
  unfold State.readEnds
  extract_lets v1 v2 v3 v4 v5
  clear_value v1
  have h6 : Goes [.csr, .mem, .poison, .out, .intc, .myk, .hostq, .sched, .pmon] s v2
  · unfold v2
    exact .myk .refl (by decide)
  clear_value v2
  have h7 : Goes [.csr, .mem, .poison, .out, .intc, .myk, .hostq, .sched, .pmon] s v3
  · unfold v3
    refine .ite ?_ ?_
    · refine .step ?_ writeBytes_goes (by decide)
      with_reducible assumption
    · refine .step ?_ poisonBytes_goes (by decide)
      with_reducible assumption
  clear_value v3
  have h8 : Goes [.csr, .mem, .poison, .out, .intc, .myk, .hostq, .sched, .pmon] s v4
  · unfold v4
    split
    · rename_i n9 n10
      with_reducible assumption
    · rename_i n11 n12 n13
      split
      · rename_i n14 n15
        with_reducible assumption
      · rename_i n16 n17 n18
        refine .ite ?_ ?_
        · split
          rename_i n19 n20 n21 n22
          have h23 : Goes [.csr, .mem, .poison, .out, .intc, .myk, .hostq, .sched, .pmon] s n21
          · refine GoesSnd.of n22 (.step ?_ arrive_goes (by decide))
            with_reducible assumption
          refine .step ?_ putFetched_goes (by decide)
          with_reducible assumption
        · refine .step ?_ fetchError_goes (by decide)
          with_reducible assumption
  clear_value v4 v5
  split
  · rename_i n24 n25
    with_reducible assumption
  · rename_i n26 n27 n28 n29
    refine .step (.myk ?_ (by decide)) issueRead_goes (by decide)
    with_reducible assumption

theorem hostReadFault_goes {s reason r} : Goes [.csr, .out, .intc] s (State.hostReadFault s reason r) := by
  unfold State.hostReadFault
  refine .step (.step (.step ?_ set_goes (by decide)) report_goes (by decide)) raise_goes (by decide)
  exact .step .refl set_goes (by decide)

theorem execMemRdCpl_goes {msg s} :
    GoesNext [.csr, .mem, .poison, .out, .intc, .myk, .hostq, .sched, .pmon] s (execMemRdCpl msg s) := by
  unfold execMemRdCpl
  split
  · rename_i n1 n2
    exact .mk (.step .refl addSat_goes (by decide))
  · rename_i n3 n4 n5 n6
    refine .ite ?_ ?_
    · exact .mk (.step .refl badMessage_goes (by decide))
    · refine .ite ?_ ?_
      · exact .mk (.step .refl readEnds_goes (by decide))
      · exact .mk (.step (.step .refl hostReadFault_goes (by decide)) readEnds_goes (by decide))

theorem execSqTail_goes {msg s} : GoesNext [.csr, .mem, .poison, .out, .intc, .myk, .hostq] s (execSqTail msg s) := by
  unfold execSqTail
  exact .mk (.step .refl doorbell_goes (by decide))

theorem sampleDrop_goes {s u reason} : Goes [.csr, .out, .intc] s (State.sampleDrop s u reason) := by
  unfold State.sampleDrop
  refine .step (.step (.step ?_ set_goes (by decide)) report_goes (by decide)) raise_goes (by decide)
  exact .step (.step .refl addSat_goes (by decide)) set_goes (by decide)

theorem sampleRecord_goes {s u f} :
    Goes [.csr, .mem, .poison, .out, .intc, .myk, .skein, .pmon] s (State.sampleRecord s u f) := by
  unfold State.sampleRecord
  extract_lets v1 v2 v3 v4 v5 v6
  clear_value v1 v2
  have h7 : Goes [.csr, .mem, .poison, .out, .intc, .myk, .skein, .pmon] s v3
  · unfold v3
    exact .pmon .refl (by decide)
  clear_value v4 v5
  have h8 : GoesGrant [.csr, .mem, .poison, .out, .intc, .myk, .skein, .pmon] s v6
  · unfold v6
    refine .ite ?_ ?_
    · refine .step ?_ skeinTake_goes (by decide)
      with_reducible assumption
    · exact .exhausted
  clear_value v6 v3
  split
  · rename_i n9 n10
    exact .refl
  · rename_i n11 n12 n13 n14
    extract_lets v15
    clear_value v15
    split
    · rename_i n16 n17 n18
      have h19 := GoesGrant.out h8
      clear h8
      extract_lets v20 v21 v22
      have h23 : Goes [.csr, .mem, .poison, .out, .intc, .myk, .skein, .pmon] s v20
      · unfold v20
        refine .step ?_ writeBytes_goes (by decide)
        with_reducible assumption
      clear_value v20
      have h24 : Goes [.csr, .mem, .poison, .out, .intc, .myk, .skein, .pmon] s v21
      · unfold v21
        refine .step (.step ?_ hostWrite_goes (by decide)) set_goes (by decide)
        with_reducible assumption
      clear_value v21
      have h25 : Goes [.csr, .mem, .poison, .out, .intc, .myk, .skein, .pmon] s v22
      · unfold v22
        split
        · rename_i n26 n27 n28
          have h29 : Goes [.csr, .mem, .poison, .out, .intc, .myk, .skein, .pmon] s n27
          · refine GoesOk.of n28 (.step ?_ skeinFree_goes (by decide))
            with_reducible assumption
          with_reducible assumption
        · rename_i n30 n31 n32
          with_reducible assumption
      clear_value v22
      refine .ite ?_ ?_
      · refine .step ?_ sampleDrop_goes (by decide)
        split
        · rename_i n33 n34 n35
          have h36 : Goes [.csr, .mem, .poison, .out, .intc, .myk, .skein, .pmon] s n34
          · refine GoesOk.of n35 (.step ?_ skeinFree_goes (by decide))
            with_reducible assumption
          with_reducible assumption
        · rename_i n37 n38 n39
          with_reducible assumption
      · refine .step ?_ raise_goes (by decide)
        with_reducible assumption
    · rename_i n40 n41
      refine .step ?_ sampleDrop_goes (by decide)
      with_reducible assumption

theorem checkReport_goes {s w reason} : Goes [.csr, .mem, .poison, .out, .intc, .myk] s (State.checkReport s w reason) := by
  unfold State.checkReport
  extract_lets v1 v2
  clear_value v1 v2
  refine .ite ?_ ?_
  · exact .step (.step .refl queueLog_goes (by decide)) addSat_goes (by decide)
  · refine .ite ?_ ?_
    · refine .step (.step (.step ?_ addSat_goes (by decide)) raise_goes (by decide)) violation_goes (by decide)
      exact .step .refl queueLog_goes (by decide)
    · refine .ite ?_ ?_
      · exact .step .refl memRefuse_goes (by decide)
      · exact .refl

theorem hop_goes {s u f} : Goes [.freeCtr, .pmon] s (State.hop s u f) := by
  unfold State.hop
  extract_lets v1 v2 v3 v4
  clear_value v1
  have h5 : Goes [.freeCtr, .pmon] s v2
  · unfold v2
    exact .snd (.step .refl fresh_goes (by decide))
  clear_value v2 v4
  refine .pmon ?_ (by decide)
  with_reducible assumption

theorem queueEnable_goes {s q} : Goes [.csr, .hostq] s (State.queueEnable s q) := by
  unfold State.queueEnable
  extract_lets v1 v2 v3 v4
  clear_value v1
  have h5 : Goes [.csr, .hostq] s v2
  · unfold v2
    exact .step (.step (.step .refl set_goes (by decide)) set_goes (by decide)) addWrap_goes (by decide)
  clear_value v2
  have h6 : Goes [.csr, .hostq] s v3
  · unfold v3
    refine .step ?_ set_goes (by decide)
    with_reducible assumption
  clear_value v3 v4
  refine .hostq ?_ (by decide)
  with_reducible assumption

theorem writeRecord_goes {s f chained} :
    Goes [.csr, .mem, .poison, .out, .intc, .myk, .hostq] s (State.writeRecord s f chained) := by
  unfold State.writeRecord
  extract_lets v1 v2 v3 v4 v5 v6 v7 v8 v9 v10 v11
  clear_value v1 v2 v3 v4
  have h12 : Goes [.csr, .mem, .poison, .out, .intc, .myk, .hostq] s v5
  · unfold v5
    exact .step .refl store_goes (by decide)
  clear_value v5
  have h13 : Goes [.csr, .mem, .poison, .out, .intc, .myk, .hostq] s v6
  · unfold v6
    refine .step (.step ?_ set_goes (by decide)) addWrap_goes (by decide)
    with_reducible assumption
  clear_value v6
  have h14 : Goes [.csr, .mem, .poison, .out, .intc, .myk, .hostq] s v7
  · unfold v7
    refine .ite ?_ ?_
    · refine .step (.step ?_ addSat_goes (by decide)) set_goes (by decide)
      with_reducible assumption
    · with_reducible assumption
  clear_value v7
  have h15 : Goes [.csr, .mem, .poison, .out, .intc, .myk, .hostq] s v8
  · unfold v8
    refine .step ?_ pmonEdge_goes (by decide)
    with_reducible assumption
  clear_value v8 v10
  have h16 : Goes [.csr, .mem, .poison, .out, .intc, .myk, .hostq] s v11
  · unfold v11
    refine .ite ?_ ?_
    · refine .hostq ?_ (by decide)
      with_reducible assumption
    · with_reducible assumption
  clear_value v11
  refine .ite ?_ ?_
  · refine .step ?_ event_goes (by decide)
    with_reducible assumption
  · with_reducible assumption

theorem execDescriptorFetch_goes {q fails s} :
    GoesNext [.csr, .out, .intc, .myk, .hostq, .sched, .pmon] s (execDescriptorFetch q fails s) := by
  unfold execDescriptorFetch
  extract_lets v1 v2 v3 v4 v5 v6 v7
  clear_value v1 v2 v3 v4 v5 v6
  have h8 : Goes [.csr, .out, .intc, .myk, .hostq, .sched, .pmon] s v7
  · unfold v7
    exact .hostq .refl (by decide)
  clear_value v7
  refine .ite ?_ ?_
  · refine .ite ?_ ?_
    · exact .mk (.step .refl fetchError_goes (by decide))
    · refine .ite ?_ ?_
      · refine .mk (.step ?_ issueRead_goes (by decide))
        with_reducible assumption
      · split
        rename_i n9 n10 n11 n12
        have h13 : Goes [.csr, .out, .intc, .myk, .hostq, .sched, .pmon] s n11
        · refine GoesSnd.of n12 (.step ?_ arrive_goes (by decide))
          with_reducible assumption
        refine .mk (.step ?_ putFetched_goes (by decide))
        with_reducible assumption
  · exact .mk .refl

theorem queueEnableWrite_goes {s q want} : Goes [.csr, .out, .intc, .hostq] s (State.queueEnableWrite s q want) := by
  unfold State.queueEnableWrite
  extract_lets v1
  clear_value v1
  refine .ite ?_ ?_
  · split
    · rename_i n2 n3
      exact .step .refl queueEnable_goes (by decide)
    · rename_i n4 n5 n6
      exact .step (.step (.step .refl set_goes (by decide)) queueLog_goes (by decide)) raise_goes (by decide)
  · refine .ite ?_ ?_
    · exact .step .refl queueDisable_goes (by decide)
    · exact .refl

theorem holdRecord_goes {s q} : Goes [.csr, .out, .intc, .hostq] s (State.holdRecord s q) := by
  unfold State.holdRecord
  extract_lets v1 v2 v3
  have h4 : Goes [.csr, .out, .intc, .hostq] s v1
  · unfold v1
    exact .step .refl set_goes (by decide)
  clear_value v1 v2
  have h5 : Goes [.csr, .out, .intc, .hostq] s v3
  · unfold v3
    refine .hostq ?_ (by decide)
    with_reducible assumption
  clear_value v3
  refine .ite ?_ ?_
  · with_reducible assumption
  · refine .step (.step (.step ?_ queueLog_goes (by decide)) report_goes (by decide)) raise_goes (by decide)
    refine .step (.step ?_ addSat_goes (by decide)) set_goes (by decide)
    with_reducible assumption

theorem chainPost_goes {s f} : Goes [.csr, .out, .intc, .myk, .hostq] s (State.chainPost s f) := by
  unfold State.chainPost
  extract_lets v1 v2 v3 v4 v5
  clear_value v1 v2 v3 v5
  refine .ite ?_ ?_
  · exact .step .refl fetchError_goes (by decide)
  · refine .ite ?_ ?_
    · refine .step ?_ issueRead_goes (by decide)
      unfold v4
      extract_lets v6
      clear_value v6
      exact .hostq .refl (by decide)
    · refine .step ?_ pmonEdge_goes (by decide)
      unfold v4
      extract_lets v7
      clear_value v7
      exact .hostq .refl (by decide)

theorem execCompletionRecord_goes {q s} :
    GoesNext [.csr, .mem, .poison, .out, .freeCtr, .intc, .myk, .hostq, .skein, .pmon] s (execCompletionRecord q s) := by
  unfold execCompletionRecord
  split
  · rename_i n1 n2
    exact .mk .refl
  · rename_i n3 n4 n5
    extract_lets v6 v7 v8 v9 v10 v11 v12 v13 v14 v15
    clear_value v6 v7 v8 v9
    have h16 : Goes [.csr, .mem, .poison, .out, .freeCtr, .intc, .myk, .hostq, .skein, .pmon] s v10
    · unfold v10
      refine .ite ?_ ?_
      · exact .step (.step .refl queueLog_goes (by decide)) addSat_goes (by decide)
      · exact .refl
    clear_value v10 v11
    have h17 : Goes [.csr, .mem, .poison, .out, .freeCtr, .intc, .myk, .hostq, .skein, .pmon] s v12
    · unfold v12
      refine .hostq ?_ (by decide)
      with_reducible assumption
    clear_value v12
    have h18 : Goes [.csr, .mem, .poison, .out, .freeCtr, .intc, .myk, .hostq, .skein, .pmon] s v13
    · unfold v13
      refine .ite ?_ ?_
      · with_reducible assumption
      · refine .step ?_ set_goes (by decide)
        with_reducible assumption
    clear_value v13
    have h19 : Goes [.csr, .mem, .poison, .out, .freeCtr, .intc, .myk, .hostq, .skein, .pmon] s v14
    · unfold v14
      refine .foldl ?_ (fun x20 y21 h22 => ?_)
      · with_reducible assumption
      · refine .ite ?_ ?_
        · with_reducible assumption
        · refine .step ?_ hop_goes (by decide)
          with_reducible assumption
    clear_value v14
    have h23 : Goes [.csr, .mem, .poison, .out, .freeCtr, .intc, .myk, .hostq, .skein, .pmon] s v15
    · unfold v15
      refine .ite ?_ ?_
      · refine .step ?_ writeRecord_goes (by decide)
        with_reducible assumption
      · with_reducible assumption
    clear_value v15
    refine .ite ?_ ?_
    · exact .mk (.step .refl holdRecord_goes (by decide))
    · refine .ite ?_ ?_
      · refine .mk (.step ?_ chainPost_goes (by decide))
        with_reducible assumption
      · refine .mk (.foldl ?_ (fun x24 y25 h26 => ?_))
        · with_reducible assumption
        · refine .step ?_ sampleRecord_goes (by decide)
          with_reducible assumption

theorem execQueueDrainEnd_goes {q s} : GoesNext [.csr] s (execQueueDrainEnd q s) := by
  unfold execQueueDrainEnd
  refine .ite ?_ ?_
  · exact .mk (.step .refl set_goes (by decide))
  · exact .mk .refl

theorem execHostReadTimeout_goes {tag s} :
    GoesNext [.csr, .mem, .poison, .out, .intc, .myk, .hostq, .sched, .pmon] s (execHostReadTimeout tag s) := by
  unfold execHostReadTimeout
  split
  · rename_i n1 n2
    exact .mk .refl
  · rename_i n3 n4 n5 n6
    exact .mk (.step (.step .refl hostReadFault_goes (by decide)) readEnds_goes (by decide))

theorem headAdvance_goes {s w} : Goes [.csr, .mem, .poison, .out, .myk] s (State.headAdvance s w) := by
  unfold State.headAdvance
  extract_lets v1 v2 v3
  clear_value v1
  have h4 : Goes [.csr, .mem, .poison, .out, .myk] s v2
  · unfold v2
    exact .step .refl set_goes (by decide)
  clear_value v2 v3
  refine .ite ?_ ?_
  · exact .refl
  · refine .ite ?_ ?_
    · with_reducible assumption
    · refine .step ?_ store_goes (by decide)
      with_reducible assumption

theorem toEngine_goes {s f} : Goes [.csr, .mem, .poison, .out, .myk, .hostq] s (State.toEngine s f) := by
  unfold State.toEngine
  extract_lets v1 v2 v3 v4 v5
  have h6 : Goes [.csr, .mem, .poison, .out, .myk, .hostq] s v1
  · unfold v1
    exact .step .refl headAdvance_goes (by decide)
  clear_value v1 v2
  have h7 : Goes [.csr, .mem, .poison, .out, .myk, .hostq] s v3
  · unfold v3
    refine .step ?_ set_goes (by decide)
    with_reducible assumption
  clear_value v3 v4 v5
  refine .step (.hostq ?_ (by decide)) busyUpdate_goes (by decide)
  with_reducible assumption

/-! ## Fabric -/

theorem stallBegin_goes {s l} : Goes [.fab] s (State.stallBegin s l) := by
  unfold State.stallBegin
  extract_lets v1
  clear_value v1
  refine .ite ?_ ?_
  · exact .refl
  · exact .fab .refl (by decide)

theorem relink_goes {s p} : Goes [.fab] s (State.relink s p) := by
  unfold State.relink
  extract_lets v1
  clear_value v1
  exact .fab .refl (by decide)

theorem reservedUpdate_goes {s l} : Goes [.csr] s (State.reservedUpdate s l) := by
  unfold State.reservedUpdate
  extract_lets v1
  clear_value v1
  exact .step .refl set_goes (by decide)

theorem lanesUpdate_goes {s} : Goes [.csr] s (State.lanesUpdate s) := by
  unfold State.lanesUpdate
  extract_lets v1
  clear_value v1
  exact .step (.step (.step .refl set_goes (by decide)) set_goes (by decide)) set_goes (by decide)

theorem fabLog_goes {s reason endpoint link cls tenant} :
    Goes [.csr, .out] s (State.fabLog s reason endpoint link cls tenant) := by
  unfold State.fabLog
  refine .step (.step (.step (.step ?_ set_goes (by decide)) set_goes (by decide)) set_goes (by decide)) report_goes (by decide)
  exact .step (.step .refl set_goes (by decide)) set_goes (by decide)

theorem linkWidth_goes {s l w lanes} : Goes [.csr, .out, .intc, .fab] s (State.linkWidth s l w lanes) := by
  unfold State.linkWidth
  extract_lets v1 v2 v3 v4 v5 v6
  clear_value v1 v2 v3
  have h7 : Goes [.csr, .out, .intc, .fab] s v4
  · unfold v4
    exact .step (.step (.step .refl set_goes (by decide)) set_goes (by decide)) set_goes (by decide)
  clear_value v4
  have h8 : Goes [.csr, .out, .intc, .fab] s v5
  · unfold v5
    refine .step (.step (.step ?_ lanesUpdate_goes (by decide)) reservedUpdate_goes (by decide)) relink_goes (by decide)
    with_reducible assumption
  clear_value v5
  have h9 : Goes [.csr, .out, .intc, .fab] s v6
  · unfold v6
    refine .ite ?_ ?_
    · refine .step (.step ?_ fabLog_goes (by decide)) raise_goes (by decide)
      with_reducible assumption
    · refine .ite ?_ ?_
      · refine .step (.step ?_ fabLog_goes (by decide)) raise_goes (by decide)
        with_reducible assumption
      · refine .ite ?_ ?_
        · refine .step (.step ?_ fabLog_goes (by decide)) raise_goes (by decide)
          with_reducible assumption
        · with_reducible assumption
  clear_value v6
  refine .ite ?_ ?_
  · refine .step (.step ?_ fabLog_goes (by decide)) raise_goes (by decide)
    with_reducible assumption
  · with_reducible assumption

theorem txStamp_goes {s x} : Goes [.csr, .out, .intc, .time] s (State.txStamp s x) := by
  unfold State.txStamp
  extract_lets v1 v2 v3 v4
  clear_value v1 v2 v3
  have h5 : Goes [.csr, .out, .intc, .time] s v4
  · unfold v4
    exact .step (.step .refl addSat_goes (by decide)) set_goes (by decide)
  clear_value v4
  refine .ite ?_ ?_
  · exact .step (.time .refl (by decide)) set_goes (by decide)
  · refine .ite ?_ ?_
    · refine .step (.step (.step ?_ set_goes (by decide)) report_goes (by decide)) raise_goes (by decide)
      with_reducible assumption
    · with_reducible assumption

theorem stallEnd_goes {s l} : Goes [.csr, .fab] s (State.stallEnd s l) := by
  unfold State.stallEnd
  extract_lets v1
  clear_value v1
  split
  · rename_i n2 n3
    exact .refl
  · rename_i n4 n5 n6 n7
    extract_lets v8
    clear_value v8
    exact .step (.fab .refl (by decide)) addSat_goes (by decide)

theorem putLink_goes {s l cls ch b} : Goes [.csr, .out, .intc, .pmon, .fab] s (State.putLink s l cls ch b) := by
  unfold State.putLink
  extract_lets v1 v2 v3
  clear_value v1 v2
  have h4 : Goes [.csr, .out, .intc, .pmon, .fab] s v3
  · unfold v3
    exact .fab .refl (by decide)
  clear_value v3
  refine .step (.step (.step ?_ emit_goes (by decide)) pmonEdge_goes (by decide)) meter_goes (by decide)
  refine .step ?_ stallEnd_goes (by decide)
  with_reducible assumption

theorem flushReplies_goes {s} : Goes [.csr, .out, .intc, .pmon, .fab] s (State.flushReplies s) := by
  unfold State.flushReplies
  refine .foldl ?_ (fun x1 y2 h3 => ?_)
  · exact .refl
  · extract_lets v4 v5 v6 v7
    clear_value v4 v5 v6 v7
    split
    · rename_i n8 n9
      with_reducible assumption
    · rename_i n10 n11 n12
      refine .ite ?_ ?_
      · refine .step (.fab ?_ (by decide)) putLink_goes (by decide)
        with_reducible assumption
      · refine .step ?_ stallBegin_goes (by decide)
        with_reducible assumption

theorem fabReply_goes {s k tenant opcode body} :
    Goes [.csr, .out, .intc, .pmon, .fab] s (State.fabReply s k tenant opcode body) := by
  unfold State.fabReply
  extract_lets v1 v2
  clear_value v1 v2
  exact .step (.fab .refl (by decide)) flushReplies_goes (by decide)

theorem fabNack_goes {s k tenant seq reason} : Goes [.csr, .out, .intc, .pmon, .fab] s (State.fabNack s k tenant seq reason) := by
  unfold State.fabNack
  exact .step (.step .refl addSat_goes (by decide)) fabReply_goes (by decide)

theorem stampUsed_goes {s l} : Goes [.csr, .time] s (State.stampUsed s l) := by
  unfold State.stampUsed
  extract_lets v1 v2 v3
  clear_value v1 v2
  have h4 : Goes [.csr, .time] s v3
  · unfold v3
    exact .time .refl (by decide)
  clear_value v3
  refine .ite ?_ ?_
  · exact .refl
  · refine .ite ?_ ?_
    · refine .step ?_ set_goes (by decide)
      with_reducible assumption
    · with_reducible assumption

theorem stampSent_goes {s l b} : GoesSnd [.csr, .out, .intc, .time] s (State.stampSent s l b) := by
  unfold State.stampSent
  extract_lets v1 v2
  clear_value v1
  have h3 : Goes [.csr, .out, .intc, .time] s v2
  · unfold v2
    exact .step .refl stampUsed_goes (by decide)
  clear_value v2
  split
  · rename_i n4 n5
    exact .mk .refl
  · rename_i n6 n7 n8
    extract_lets v9
    have h10 : Goes [.csr, .out, .intc, .time] s v9
    · unfold v9
      refine .ite ?_ ?_
      · refine .step ?_ txStamp_goes (by decide)
        with_reducible assumption
      · with_reducible assumption
    clear_value v9
    refine .ite ?_ ?_
    · exact .mk .refl
    · refine .mk ?_
      with_reducible assumption

theorem putFabTx_goes {s k f} : Goes [.fab] s (State.putFabTx s k f) := by
  unfold State.putFabTx
  extract_lets v1
  clear_value v1
  exact .fab .refl (by decide)

theorem drainUpdate_goes {s} : Goes [.csr] s (State.drainUpdate s) := by
  unfold State.drainUpdate
  exact .step .refl set_goes (by decide)

theorem fabSend_goes {s k} : Goes [.csr, .out, .intc, .pmon, .fab, .time] s (State.fabSend s k) := by
  unfold State.fabSend
  extract_lets v1
  clear_value v1
  split
  · rename_i n2 n3
    exact .refl
  · rename_i n4 n5 n6
    extract_lets v7 v8 v9
    clear_value v7 v8 v9
    split
    · rename_i n10 n11
      exact .refl
    · rename_i n12 n13 n14
      extract_lets v15 v16 v17
      have h18 : Goes [.csr, .out, .intc, .pmon, .fab, .time] s v15
      · unfold v15
        refine .ite ?_ ?_
        · exact .step .refl putFabTx_goes (by decide)
        · exact .refl
      clear_value v15 v16 v17
      refine .ite ?_ ?_
      · refine .ite ?_ ?_
        · with_reducible assumption
        · refine .step ?_ stallBegin_goes (by decide)
          with_reducible assumption
      · refine .ite ?_ ?_
        · with_reducible assumption
        · split
          rename_i n19 n20 n21 n22
          have h23 : Goes [.csr, .out, .intc, .pmon, .fab, .time] s n21
          · refine GoesSnd.of n22 (.ite ?_ ?_)
            · refine .step ?_ stampSent_goes (by decide)
              with_reducible assumption
            · refine .mk ?_
              with_reducible assumption
          extract_lets v24 v25 v26
          clear_value v24
          have h27 : Goes [.csr, .out, .intc, .pmon, .fab, .time] s v25
          · unfold v25
            refine .step ?_ putFabTx_goes (by decide)
            with_reducible assumption
          clear_value v25
          have h28 : Goes [.csr, .out, .intc, .pmon, .fab, .time] s v26
          · unfold v26
            refine .ite ?_ ?_
            · refine .step ?_ addSat_goes (by decide)
              with_reducible assumption
            · with_reducible assumption
          clear_value v26
          refine .step (.step ?_ putLink_goes (by decide)) drainUpdate_goes (by decide)
          with_reducible assumption

theorem fabAck_goes {s k tenant expected} : Goes [.csr, .out, .intc, .pmon, .fab] s (State.fabAck s k tenant expected) := by
  unfold State.fabAck
  exact .step .refl fabReply_goes (by decide)

theorem closeCircuits_goes {s p} : Goes [.csr, .mem, .poison, .fab] s (State.closeCircuits s p) := by
  unfold State.closeCircuits
  extract_lets v1 v2 v3 v4
  clear_value v1
  have h5 : Goes [.csr, .mem, .poison, .fab] s v2
  · unfold v2
    refine .foldl ?_ (fun x6 y7 h8 => ?_)
    · exact .refl
    · refine .step ?_ writeBytes_goes (by decide)
      with_reducible assumption
  clear_value v2 v3
  have h9 : Goes [.csr, .mem, .poison, .fab] s v4
  · unfold v4
    refine .fab ?_ (by decide)
    with_reducible assumption
  clear_value v4
  refine .foldl ?_ (fun x10 y11 h12 => ?_)
  · with_reducible assumption
  · refine .step ?_ reservedUpdate_goes (by decide)
    with_reducible assumption

theorem fabQueue_goes {s k ps} : Goes [.fab] s (State.fabQueue s k ps) := by
  unfold State.fabQueue
  extract_lets v1
  clear_value v1
  exact .step .refl putFabTx_goes (by decide)

/-! ## Mirror -/

theorem groupPacket_goes {s dst m} : GoesSnd [.grp] s (State.groupPacket s dst m) := by
  unfold State.groupPacket
  extract_lets v1 v2 v3
  clear_value v1 v2 v3
  exact .mk (.grp .refl (by decide))

theorem groupSend_goes {s dst m} : Goes [.fab, .grp] s (State.groupSend s dst m) := by
  unfold State.groupSend
  split
  rename_i n1 n2 n3 n4
  have h5 : Goes [.fab, .grp] s n3
  · exact GoesSnd.of n4 (.step .refl groupPacket_goes (by decide))
  refine .step ?_ fabQueue_goes (by decide)
  with_reducible assumption

theorem mirrorItem_goes {s x b} : Goes [.freeCtr, .fab, .grp] s (State.mirrorItem s x b) := by
  unfold State.mirrorItem
  extract_lets v1 v2 v3 v4 v5 v6 v7
  clear_value v1 v2 v3
  have h8 : Goes [.freeCtr, .fab, .grp] s v4
  · unfold v4
    exact .snd (.step .refl fresh_goes (by decide))
  clear_value v4
  have h9 : Goes [.freeCtr, .fab, .grp] s v5
  · unfold v5
    refine .step ?_ fabQueue_goes (by decide)
    with_reducible assumption
  clear_value v5
  have h10 : Goes [.freeCtr, .fab, .grp] s v6
  · unfold v6
    refine .step ?_ groupSend_goes (by decide)
    with_reducible assumption
  clear_value v6 v7
  refine .grp ?_ (by decide)
  with_reducible assumption

theorem mirrorOther_goes {s job step b} : Goes [.freeCtr, .fab, .grp] s (State.mirrorOther s job step b) := by
  unfold State.mirrorOther
  refine .ite ?_ ?_
  · exact .step .refl mirrorItem_goes (by decide)
  · exact .refl

theorem stopLine_goes {s} : Goes [.line] s (State.stopLine s) := by
  unfold State.stopLine
  exact .line .refl (by decide) (List.length_map _)

theorem shadowEnd_goes {s} : Goes [.csr, .out, .intc] s (State.shadowEnd s) := by
  unfold State.shadowEnd
  extract_lets v1
  clear_value v1
  refine .ite ?_ ?_
  · exact .step (.step (.step .refl set_goes (by decide)) report_goes (by decide)) raise_goes (by decide)
  · exact .refl

theorem groupOnLinks_goes {s dst links m} : Goes [.csr, .out, .intc, .pmon, .fab, .grp] s (State.groupOnLinks s dst links m) := by
  unfold State.groupOnLinks
  split
  rename_i n1 n2 n3 n4
  have h5 : Goes [.csr, .out, .intc, .pmon, .fab, .grp] s n3
  · exact GoesSnd.of n4 (.step .refl groupPacket_goes (by decide))
  extract_lets v6 v7 v8 v9
  clear_value v6 v7 v8
  have h10 : Goes [.csr, .out, .intc, .pmon, .fab, .grp] s v9
  · unfold v9
    refine .step ?_ putFabTx_goes (by decide)
    with_reducible assumption
  clear_value v9
  refine .foldl ?_ (fun x11 y12 h13 => ?_)
  · with_reducible assumption
  · refine .step ?_ putLink_goes (by decide)
    with_reducible assumption

theorem digestsMeet_goes {s a b} : Goes [.csr, .out, .intc, .fab, .grp] s (State.digestsMeet s a b) := by
  unfold State.digestsMeet
  extract_lets v1 v2 v3
  have h4 : Goes [.csr, .out, .intc, .fab, .grp] s v1
  · unfold v1
    refine .step (.step (.step (.step ?_ set_goes (by decide)) set_goes (by decide)) set_goes (by decide)) set_goes (by decide)
    exact .step .refl addSat_goes (by decide)
  clear_value v1
  have h5 : Goes [.csr, .out, .intc, .fab, .grp] s v2
  · unfold v2
    refine .step (.step ?_ report_goes (by decide)) raise_goes (by decide)
    with_reducible assumption
  clear_value v2
  have h6 : Goes [.csr, .out, .intc, .fab, .grp] s v3
  · unfold v3
    split
    · rename_i n7 n8
      with_reducible assumption
    · rename_i n9 n10 n11 n12
      refine .step ?_ groupSend_goes (by decide)
      with_reducible assumption
  clear_value v3
  refine .ite ?_ ?_
  · exact .step .refl addWrap_goes (by decide)
  · refine .ite ?_ ?_
    · refine .ite ?_ ?_
      · with_reducible assumption
      · refine .step ?_ shadowEnd_goes (by decide)
        with_reducible assumption
    · refine .ite ?_ ?_
      · with_reducible assumption
      · refine .step ?_ addSat_goes (by decide)
        with_reducible assumption

theorem digestMade_goes {s job step chunk raw} :
    Goes [.csr, .out, .intc, .fab, .grp] s (State.digestMade s job step chunk raw) := by
  unfold State.digestMade
  extract_lets v1 v2
  clear_value v1 v2
  refine .ite ?_ ?_
  · exact .step .refl groupSend_goes (by decide)
  · refine .ite ?_ ?_
    · split
      · rename_i n3 n4
        exact .grp .refl (by decide)
      · rename_i n5 n6 n7
        exact .step (.grp .refl (by decide)) digestsMeet_goes (by decide)
    · exact .refl

theorem failSend_goes {s reason} : Goes [.csr, .out, .intc, .pmon, .fab, .grp, .line] s (State.failSend s reason) := by
  unfold State.failSend
  extract_lets v1
  have h2 : Goes [.csr, .out, .intc, .pmon, .fab, .grp, .line] s v1
  · unfold v1
    exact .step .refl stopLine_goes (by decide)
  clear_value v1
  refine .ite ?_ ?_
  · refine .step ?_ groupOnLinks_goes (by decide)
    with_reducible assumption
  · with_reducible assumption

theorem handOver_goes {s reason} : Goes [.csr, .out, .intc, .pmon, .fab, .grp, .line] s (State.handOver s reason) := by
  unfold State.handOver
  exact .step (.step .refl moduleFault_goes (by decide)) failSend_goes (by decide)

theorem mirrorChunk_goes {s job step chunk site order b} :
    Goes [.freeCtr, .fab, .grp] s (State.mirrorChunk s job step chunk site order b) := by
  unfold State.mirrorChunk
  refine .ite ?_ ?_
  · exact .step .refl mirrorItem_goes (by decide)
  · exact .refl

/-! ## Memory -/

theorem lpddrRowPending_goes {s f} : Goes [.csr, .out, .intc, .memst] s (State.lpddrRowPending s f) := by
  unfold State.lpddrRowPending
  extract_lets v1 v2 v3 v4 v5
  clear_value v1 v2
  have h6 : Goes [.csr, .out, .intc, .memst] s v3
  · unfold v3
    exact .memst .refl (by decide)
  clear_value v3
  have h7 : Goes [.csr, .out, .intc, .memst] s v4
  · unfold v4
    refine .step (.step (.step ?_ addWrap_goes (by decide)) addWrap_goes (by decide)) report_goes (by decide)
    with_reducible assumption
  clear_value v4
  have h8 : Goes [.csr, .out, .intc, .memst] s v5
  · unfold v5
    refine .ite ?_ ?_
    · refine .step ?_ report_goes (by decide)
      with_reducible assumption
    · with_reducible assumption
  clear_value v5
  refine .ite ?_ ?_
  · exact .refl
  · refine .step ?_ raise_goes (by decide)
    with_reducible assumption

theorem memError_goes {s reason addr channel} : Goes [.csr, .out] s (State.memError s reason addr channel) := by
  unfold State.memError
  refine .step (.step (.step (.step ?_ set_goes (by decide)) set_goes (by decide)) set_goes (by decide)) report_goes (by decide)
  exact .refl

theorem countRow_goes {s row} : GoesFst [.memst] s (State.countRow s row) := by
  unfold State.countRow
  extract_lets v1
  clear_value v1
  split
  rename_i n2 n3 n4 n5
  split
  rename_i n6 n7 n8 n9
  exact .mk (.memst .refl (by decide))

theorem lpddrError_goes {s f} : Goes [.csr, .poison, .out, .intc, .memst] s (State.lpddrError s f) := by
  unfold State.lpddrError
  extract_lets v1 v2 v3 v4 v5 v6
  clear_value v1 v2 v3
  have h7 : Goes [.csr, .poison, .out, .intc, .memst] s v4
  · unfold v4
    exact .step (.step (.step .refl poisonBytes_goes (by decide)) addSat_goes (by decide)) addSat_goes (by decide)
  clear_value v4
  have h8 : Goes [.csr, .poison, .out, .intc, .memst] s v5
  · unfold v5
    exact .step (.step (.step .refl addSat_goes (by decide)) addSat_goes (by decide)) memError_goes (by decide)
  clear_value v5
  have h9 : Goes [.csr, .poison, .out, .intc, .memst] s v6
  · unfold v6
    refine .step ?_ pmonEdge_goes (by decide)
    with_reducible assumption
  clear_value v6
  refine .ite ?_ ?_
  · exact .refl
  · refine .ite ?_ ?_
    · refine .step (.step (.step ?_ memError_goes (by decide)) raise_goes (by decide)) lpddrRowPending_goes (by decide)
      with_reducible assumption
    · split
      rename_i n10 n11 n12 n13
      have h14 : Goes [.csr, .poison, .out, .intc, .memst] s n11
      · refine GoesFst.of n13 (.step ?_ countRow_goes (by decide))
        with_reducible assumption
      refine .ite ?_ ?_
      · refine .step ?_ lpddrRowPending_goes (by decide)
        with_reducible assumption
      · with_reducible assumption

theorem execLpddrScrub_goes {found s} : GoesNext [.csr, .poison, .out, .intc, .memst] s (execLpddrScrub found s) := by
  unfold execLpddrScrub
  refine .ite ?_ ?_
  · refine .mk (.foldl ?_ (fun x1 y2 h3 => ?_))
    · exact .refl
    · refine .step ?_ lpddrError_goes (by decide)
      with_reducible assumption
  · exact .mk .refl

theorem execDeviceTempChange_goes {d temp s} : GoesNext [.csr, .out, .intc] s (execDeviceTempChange d temp s) := by
  unfold execDeviceTempChange
  extract_lets v1 v2 v3 v4 v5 v6 v7 v8 v9
  clear_value v1 v2 v3 v4 v5
  have h10 : Goes [.csr, .out, .intc] s v6
  · unfold v6
    exact .step (.step (.step .refl set_goes (by decide)) set_goes (by decide)) set_goes (by decide)
  clear_value v6
  have h11 : Goes [.csr, .out, .intc] s v7
  · unfold v7
    refine .step (.step ?_ set_goes (by decide)) set_goes (by decide)
    with_reducible assumption
  clear_value v7
  have h12 : Goes [.csr, .out, .intc] s v8
  · unfold v8
    refine .ite ?_ ?_
    · refine .step (.step (.step ?_ set_goes (by decide)) report_goes (by decide)) raise_goes (by decide)
      with_reducible assumption
    · with_reducible assumption
  clear_value v8
  have h13 : Goes [.csr, .out, .intc] s v9
  · unfold v9
    refine .ite ?_ ?_
    · refine .step (.step (.step ?_ set_goes (by decide)) report_goes (by decide)) raise_goes (by decide)
      with_reducible assumption
    · with_reducible assumption
  clear_value v9
  refine .mk ?_
  with_reducible assumption

theorem quarantineSkein_goes {s p i} : Goes [.mem, .poison] s (State.quarantineSkein s p i) := by
  unfold State.quarantineSkein
  extract_lets v1
  clear_value v1
  exact .step .refl putSkeinRec_goes (by decide)

theorem sramRowPending_goes {s f} : Goes [.csr, .mem, .poison, .out, .intc, .memst] s (State.sramRowPending s f) := by
  unfold State.sramRowPending
  extract_lets v1 v2 v3
  clear_value v1
  have h4 : Goes [.csr, .mem, .poison, .out, .intc, .memst] s v2
  · unfold v2
    exact .memst .refl (by decide)
  clear_value v2
  have h5 : Goes [.csr, .mem, .poison, .out, .intc, .memst] s v3
  · unfold v3
    refine .step (.step (.step ?_ addWrap_goes (by decide)) report_goes (by decide)) raise_goes (by decide)
    with_reducible assumption
  clear_value v3
  refine .ite ?_ ?_
  · exact .refl
  · refine .foldl ?_ (fun x6 y7 h8 => ?_)
    · with_reducible assumption
    · refine .step ?_ quarantineSkein_goes (by decide)
      with_reducible assumption

theorem sramError_goes {s f} :
    Goes [.csr, .mem, .poison, .out, .intc, .memst, .pmon, .fab, .grp, .line] s (State.sramError s f) := by
  unfold State.sramError
  extract_lets v1 v2 v3 v4 v5
  have h6 : Goes [.csr, .mem, .poison, .out, .intc, .memst, .pmon, .fab, .grp, .line] s v1
  · unfold v1
    exact .step (.step .refl poisonBytes_goes (by decide)) addSat_goes (by decide)
  clear_value v1
  have h7 : Goes [.csr, .mem, .poison, .out, .intc, .memst, .pmon, .fab, .grp, .line] s v2
  · unfold v2
    refine .step (.step (.step ?_ memError_goes (by decide)) raise_goes (by decide)) sramRowPending_goes (by decide)
    with_reducible assumption
  clear_value v2 v3
  have h8 : Goes [.csr, .mem, .poison, .out, .intc, .memst, .pmon, .fab, .grp, .line] s v4
  · unfold v4
    exact .step (.step .refl addSat_goes (by decide)) memError_goes (by decide)
  clear_value v4
  have h9 : Goes [.csr, .mem, .poison, .out, .intc, .memst, .pmon, .fab, .grp, .line] s v5
  · unfold v5
    refine .step ?_ pmonEdge_goes (by decide)
    with_reducible assumption
  clear_value v5
  refine .ite ?_ ?_
  · refine .ite ?_ ?_
    · refine .step (.memst ?_ (by decide)) handOver_goes (by decide)
      with_reducible assumption
    · with_reducible assumption
  · split
    rename_i n10 n11 n12 n13
    have h14 : Goes [.csr, .mem, .poison, .out, .intc, .memst, .pmon, .fab, .grp, .line] s n11
    · refine GoesFst.of n13 (.step ?_ countRow_goes (by decide))
      with_reducible assumption
    refine .ite ?_ ?_
    · refine .step ?_ sramRowPending_goes (by decide)
      with_reducible assumption
    · with_reducible assumption

theorem execSramScrub_goes {found s} :
    GoesNext [.csr, .mem, .poison, .out, .intc, .memst, .pmon, .fab, .grp, .line] s (execSramScrub found s) := by
  unfold execSramScrub
  refine .ite ?_ ?_
  · refine .mk (.foldl ?_ (fun x1 y2 h3 => ?_))
    · exact .refl
    · refine .step ?_ sramError_goes (by decide)
      with_reducible assumption
  · exact .mk .refl

/-! ## Line -/

theorem raisePort_goes {s f p} : Goes [.csr, .out, .intc] s (State.raisePort s f p) := by
  unfold State.raisePort
  exact .step .refl raise_goes (by decide)

theorem portLog_goes {s p reason lane} : Goes [.csr, .out] s (State.portLog s p reason lane) := by
  unfold State.portLog
  exact .step (.step (.step .refl set_goes (by decide)) set_goes (by decide)) report_goes (by decide)

theorem moveWidth_goes {s p x reason} : Goes [.csr, .out, .intc] s (State.moveWidth s p x reason) := by
  unfold State.moveWidth
  refine .step (.step (.step ?_ set_goes (by decide)) portLog_goes (by decide)) raisePort_goes (by decide)
  exact .step .refl set_goes (by decide)

theorem execAutoNarrow_goes {p s} : GoesNext [.csr, .out, .intc] s (execAutoNarrow p s) := by
  unfold execAutoNarrow
  extract_lets v1 v2
  clear_value v1 v2
  refine .ite ?_ ?_
  · split
    · rename_i n3 n4
      exact .mk .refl
    · rename_i n5 n6 n7
      exact .mk (.step .refl moveWidth_goes (by decide))
  · exact .mk .refl

theorem yarnMismatch_goes {s p gen} : Goes [.csr, .out, .intc] s (State.yarnMismatch s p gen) := by
  unfold State.yarnMismatch
  refine .step (.step (.step ?_ portLog_goes (by decide)) set_goes (by decide)) raisePort_goes (by decide)
  exact .step .refl addSat_goes (by decide)

theorem rxGeneration_goes {s p gen} : GoesSnd [.csr, .out, .intc] s (State.rxGeneration s p gen) := by
  unfold State.rxGeneration
  extract_lets v1
  clear_value v1
  refine .ite ?_ ?_
  · exact .mk (.step .refl set_goes (by decide))
  · refine .ite ?_ ?_
    · exact .mk .refl
    · exact .mk (.step .refl yarnMismatch_goes (by decide))

theorem portRefuse_goes {s p reason} : Goes [.csr, .out, .intc] s (State.portRefuse s p reason) := by
  unfold State.portRefuse
  exact .step (.step .refl portLog_goes (by decide)) raisePort_goes (by decide)

theorem putPort_goes {s p x} : Goes [.line] s (State.putPort s p x) := by
  unfold State.putPort
  exact .line .refl (by decide) List.length_set

theorem countErrored_goes {s p} : Goes [.csr, .out, .intc, .line] s (State.countErrored s p) := by
  unfold State.countErrored
  extract_lets v1 v2
  clear_value v1
  have h3 : Goes [.csr, .out, .intc, .line] s v2
  · unfold v2
    exact .step .refl putPort_goes (by decide)
  clear_value v2
  refine .step (.step ?_ addWrap_goes (by decide)) pmonEdge_goes (by decide)
  with_reducible assumption

theorem deliverHeld_goes {s p prevCrc} : Goes [.csr, .out, .intc, .pmon, .line] s (State.deliverHeld s p prevCrc) := by
  unfold State.deliverHeld
  extract_lets v1
  clear_value v1
  split
  · rename_i n2 n3
    exact .refl
  · rename_i n4 n5 n6
    extract_lets v7 v8 v9 v10 v11
    clear_value v7 v8
    have h12 : Goes [.csr, .out, .intc, .pmon, .line] s v9
    · unfold v9
      exact .step .refl putPort_goes (by decide)
    clear_value v9
    have h13 : Goes [.csr, .out, .intc, .pmon, .line] s v10
    · unfold v10
      refine .foldl ?_ (fun x14 y15 h16 => ?_)
      · with_reducible assumption
      · refine .step ?_ pmonEdge_goes (by decide)
        with_reducible assumption
    clear_value v10
    have h17 : Goes [.csr, .out, .intc, .pmon, .line] s v11
    · unfold v11
      refine .step ?_ meter_goes (by decide)
      with_reducible assumption
    clear_value v11
    refine .ite ?_ ?_
    · refine .step ?_ countErrored_goes (by decide)
      with_reducible assumption
    · with_reducible assumption

theorem rxOverhead_goes {s p f} : Goes [.csr, .out, .intc] s (State.rxOverhead s p f) := by
  unfold State.rxOverhead
  extract_lets v1 v2 v3 v4 v5 v6 v7 v8 v9 v10
  clear_value v1 v2 v3 v4
  have h11 : Goes [.csr, .out, .intc] s v5
  · unfold v5
    exact .step (.step .refl set_goes (by decide)) addWrap_goes (by decide)
  clear_value v5
  have h12 : Goes [.csr, .out, .intc] s v6
  · unfold v6
    refine .step (.step (.step ?_ set_goes (by decide)) set_goes (by decide)) set_goes (by decide)
    with_reducible assumption
  clear_value v6
  have h13 : Goes [.csr, .out, .intc] s v7
  · unfold v7
    refine .ite ?_ ?_
    · refine .step (.step ?_ portLog_goes (by decide)) raisePort_goes (by decide)
      with_reducible assumption
    · with_reducible assumption
  clear_value v7 v8 v9
  have h14 : Goes [.csr, .out, .intc] s v10
  · unfold v10
    refine .step ?_ set_goes (by decide)
    with_reducible assumption
  clear_value v10
  refine .ite ?_ ?_
  · refine .step (.step ?_ portLog_goes (by decide)) raisePort_goes (by decide)
    with_reducible assumption
  · with_reducible assumption

theorem holdFrame_goes {s p f alignErr} : Goes [.csr, .out, .intc, .line] s (State.holdFrame s p f alignErr) := by
  unfold State.holdFrame
  extract_lets v1 v2 v3
  have h4 : Goes [.csr, .out, .intc, .line] s v1
  · unfold v1
    exact .step .refl rxOverhead_goes (by decide)
  clear_value v1 v2 v3
  split
  rename_i n5 n6 n7 n8
  have h9 : Goes [.csr, .out, .intc, .line] s n7
  · refine GoesSnd.of n8 (.step ?_ rxGeneration_goes (by decide))
    with_reducible assumption
  extract_lets v10
  clear_value v10
  split
  rename_i n11 n12 n13 n14
  extract_lets v15 v16 v17
  have h18 : Goes [.csr, .out, .intc, .line] s v15
  · unfold v15
    refine .foldl ?_ (fun x19 y20 h21 => ?_)
    · with_reducible assumption
    · refine .step ?_ yarnMismatch_goes (by decide)
      with_reducible assumption
  clear_value v15 v16 v17
  refine .step ?_ putPort_goes (by decide)
  with_reducible assumption

theorem wakeTenant_goes {s p t} : Goes [.sched] s (State.wakeTenant s p t) := by
  unfold State.wakeTenant
  extract_lets v1
  clear_value v1
  exact .sched .refl (by decide)

theorem gateReport_goes {s p reason} : Goes [.csr, .out, .intc] s (State.gateReport s p reason) := by
  unfold State.gateReport
  refine .step (.step (.step ?_ set_goes (by decide)) report_goes (by decide)) raise_goes (by decide)
  exact .step .refl set_goes (by decide)

theorem gateTakeover_goes {s p} : Goes [.csr, .out, .intc, .sched] s (State.gateTakeover s p) := by
  unfold State.gateTakeover
  extract_lets v1
  clear_value v1
  split
  · rename_i n2 n3
    exact .refl
  · rename_i n4 n5 n6 n7
    extract_lets v8 v9
    have h10 : Goes [.csr, .out, .intc, .sched] s v8
    · unfold v8
      exact .sched .refl (by decide)
    clear_value v8
    have h11 : Goes [.csr, .out, .intc, .sched] s v9
    · unfold v9
      refine .step ?_ set_goes (by decide)
      with_reducible assumption
    clear_value v9
    refine .ite ?_ ?_
    · refine .step (.step (.step ?_ set_goes (by decide)) set_goes (by decide)) gateReport_goes (by decide)
      with_reducible assumption
    · exact .refl

theorem setOpen_goes {s p mask entry} : Goes [.csr] s (State.setOpen s p mask entry) := by
  unfold State.setOpen
  exact .step (.step (.step .refl set_goes (by decide)) set_goes (by decide)) set_goes (by decide)

theorem gateFrame_goes {s p} : Goes [.csr, .out, .intc, .sched] s (State.gateFrame s p) := by
  unfold State.gateFrame
  extract_lets v1
  have h2 : Goes [.csr, .out, .intc, .sched] s v1
  · unfold v1
    exact .step .refl gateTakeover_goes (by decide)
  clear_value v1
  split
  · rename_i n3 n4
    with_reducible assumption
  · rename_i n5 n6 n7 n8
    split
    rename_i n9 n10 n11 n12 n13
    extract_lets v14 v15
    clear_value v14
    have h16 : Goes [.csr, .out, .intc, .sched] s v15
    · unfold v15
      refine .step ?_ setOpen_goes (by decide)
      with_reducible assumption
    clear_value v15
    refine .foldl ?_ (fun x17 y18 h19 => ?_)
    · with_reducible assumption
    · refine .step ?_ wakeTenant_goes (by decide)
      with_reducible assumption

theorem setAlign_goes {s p st cnt} : Goes [.csr, .line] s (State.setAlign s p st cnt) := by
  unfold State.setAlign
  extract_lets v1 v2 v3
  have h4 : Goes [.csr, .line] s v1
  · unfold v1
    exact .step .refl set_goes (by decide)
  clear_value v1
  have h5 : Goes [.csr, .line] s v2
  · unfold v2
    refine .step ?_ set_goes (by decide)
    with_reducible assumption
  clear_value v2 v3
  refine .step ?_ putPort_goes (by decide)
  with_reducible assumption

theorem frameGained_goes {s p w} : Goes [.csr, .out, .intc, .line] s (State.frameGained s p w) := by
  unfold State.frameGained
  refine .step (.step (.step ?_ set_goes (by decide)) portLog_goes (by decide)) raisePort_goes (by decide)
  exact .step .refl setAlign_goes (by decide)

theorem setUnavail_goes {s p u} : Goes [.csr] s (State.setUnavail s p u) := by
  unfold State.setUnavail
  exact .step (.step .refl set_goes (by decide)) set_goes (by decide)

theorem execTrainTimeout_goes {p s} : GoesNext [.csr, .out, .intc, .line] s (execTrainTimeout p s) := by
  unfold execTrainTimeout
  refine .ite ?_ ?_
  · exact .mk .refl
  · exact .mk (.step (.step (.step .refl setAlign_goes (by decide)) portLog_goes (by decide)) raisePort_goes (by decide))

theorem execAutoWiden_goes {p s} : GoesNext [.csr, .out, .intc] s (execAutoWiden p s) := by
  unfold execAutoWiden
  extract_lets v1 v2
  clear_value v1 v2
  refine .ite ?_ ?_
  · split
    · rename_i n3 n4
      exact .mk .refl
    · rename_i n5 n6 n7
      exact .mk (.step .refl moveWidth_goes (by decide))
  · exact .mk .refl

theorem settle_goes {s p x} : Goes [.csr] s (State.settle s p x) := by
  unfold State.settle
  refine .ite ?_ ?_
  · exact .step .refl addWrap_goes (by decide)
  · refine .ite ?_ ?_
    · exact .step .refl addWrap_goes (by decide)
    · refine .ite ?_ ?_
      · exact .step .refl addWrap_goes (by decide)
      · exact .refl

theorem perfSecond_goes {s p} : Goes [.csr, .out, .intc, .line] s (State.perfSecond s p) := by
  unfold State.perfSecond
  extract_lets v1 v2 v3 v4 v5 v6 v7 v8 v9 v10 v11 v12
  clear_value v1 v2 v3 v4 v5 v6 v7 v8 v9
  have h13 : Goes [.csr, .out, .intc, .line] s v10
  · unfold v10
    exact .step .refl putPort_goes (by decide)
  clear_value v10
  have h14 : Goes [.csr, .out, .intc, .line] s v11
  · unfold v11
    refine .ite ?_ ?_
    · refine .step ?_ settle_goes (by decide)
      with_reducible assumption
    · with_reducible assumption
  clear_value v11
  have h15 : Goes [.csr, .out, .intc, .line] s v12
  · unfold v12
    refine .step ?_ setUnavail_goes (by decide)
    with_reducible assumption
  clear_value v12
  refine .ite ?_ ?_
  · refine .ite ?_ ?_
    · refine .step (.step ?_ portLog_goes (by decide)) raisePort_goes (by decide)
      with_reducible assumption
    · refine .step (.step ?_ portLog_goes (by decide)) raisePort_goes (by decide)
      with_reducible assumption
  · with_reducible assumption

theorem execPerfSecondEnd_goes {p s} : GoesNext [.csr, .out, .intc, .line] s (execPerfSecondEnd p s) := by
  unfold execPerfSecondEnd
  exact .mk (.step .refl perfSecond_goes (by decide))

theorem toHunt_goes {s p} : Goes [.csr, .out, .intc, .line] s (State.toHunt s p) := by
  unfold State.toHunt
  extract_lets v1 v2 v3 v4 v5 v6
  clear_value v1 v2 v3
  have h7 : Goes [.csr, .out, .intc, .line] s v4
  · unfold v4
    exact .step .refl putPort_goes (by decide)
  clear_value v4
  have h8 : Goes [.csr, .out, .intc, .line] s v5
  · unfold v5
    refine .ite ?_ ?_
    · refine .step ?_ countErrored_goes (by decide)
      with_reducible assumption
    · with_reducible assumption
  clear_value v5
  have h9 : Goes [.csr, .out, .intc, .line] s v6
  · unfold v6
    refine .step (.step ?_ setAlign_goes (by decide)) set_goes (by decide)
    with_reducible assumption
  clear_value v6
  refine .ite ?_ ?_
  · refine .step (.step ?_ portLog_goes (by decide)) raisePort_goes (by decide)
    with_reducible assumption
  · with_reducible assumption

theorem execCodewordLockGained_goes {p lane s} : GoesNext [.csr, .line] s (execCodewordLockGained p lane s) := by
  unfold execCodewordLockGained
  extract_lets v1 v2 v3
  have h4 : Goes [.csr, .line] s v1
  · unfold v1
    exact .step (.step .refl set_goes (by decide)) set_goes (by decide)
  clear_value v1 v2
  have h5 : Goes [.csr, .line] s v3
  · unfold v3
    refine .step ?_ putPort_goes (by decide)
    with_reducible assumption
  clear_value v3
  refine .mk (.step ?_ set_goes (by decide))
  with_reducible assumption

theorem execLineSignalLoss_goes {p lane s} : GoesNext [.csr, .line] s (execLineSignalLoss p lane s) := by
  unfold execLineSignalLoss
  extract_lets v1 v2
  have h3 : Goes [.csr, .line] s v1
  · unfold v1
    exact .step .refl set_goes (by decide)
  clear_value v1 v2
  refine .mk (.step ?_ putPort_goes (by decide))
  with_reducible assumption

theorem execAlignmentWordLock_goes {p lane e s} : GoesNext [.csr, .out, .intc, .line] s (execAlignmentWordLock p lane e s) := by
  unfold execAlignmentWordLock
  extract_lets v1 v2 v3 v4 v5
  clear_value v1
  have h6 : Goes [.csr, .out, .intc, .line] s v2
  · unfold v2
    exact .step (.step .refl set_goes (by decide)) set_goes (by decide)
  clear_value v2 v3
  have h7 : Goes [.csr, .out, .intc, .line] s v4
  · unfold v4
    refine .step ?_ putPort_goes (by decide)
    with_reducible assumption
  clear_value v4
  have h8 : Goes [.csr, .out, .intc, .line] s v5
  · unfold v5
    refine .step (.step ?_ set_goes (by decide)) portLog_goes (by decide)
    with_reducible assumption
  clear_value v5
  split
  · rename_i n9
    refine .mk (.ite ?_ ?_)
    · refine .step ?_ toHunt_goes (by decide)
      with_reducible assumption
    · with_reducible assumption
  · rename_i n10 n11 n12 n13
    extract_lets v14 v15 v16 v17 v18 v19
    have h20 : Goes [.csr, .out, .intc, .line] s v14
    · unfold v14
      exact .step (.step (.step .refl set_goes (by decide)) set_goes (by decide)) set_goes (by decide)
    clear_value v14 v15 v16
    have h21 : Goes [.csr, .out, .intc, .line] s v17
    · unfold v17
      refine .step ?_ putPort_goes (by decide)
      with_reducible assumption
    clear_value v17
    have h22 : Goes [.csr, .out, .intc, .line] s v18
    · unfold v18
      refine .step ?_ set_goes (by decide)
      with_reducible assumption
    clear_value v18
    have h23 : Goes [.csr, .out, .intc, .line] s v19
    · unfold v19
      refine .ite ?_ ?_
      · refine .step ?_ portLog_goes (by decide)
        with_reducible assumption
      · with_reducible assumption
    clear_value v19
    refine .mk (.ite ?_ ?_)
    · refine .step ?_ portLog_goes (by decide)
      with_reducible assumption
    · with_reducible assumption

theorem sendLanes_goes {s p w t frame} : Goes [.out, .line] s (State.sendLanes s p w t frame) := by
  unfold State.sendLanes
  refine .foldl ?_ (fun x1 y2 h3 => ?_)
  · exact .refl
  · extract_lets v4 v5 v6 v11
    clear_value v4 v5 v6 v11
    split
    rename_i n7 n8 n9 n10
    refine .step (.step ?_ putPort_goes (by decide)) emit_goes (by decide)
    with_reducible assumption

theorem swapIfDue_goes {s p} : Goes [.csr, .out, .intc] s (State.swapIfDue s p) := by
  unfold State.swapIfDue
  extract_lets v1
  have h2 : Goes [.csr, .out, .intc] s v1
  · unfold v1
    exact .step (.step .refl set_goes (by decide)) set_goes (by decide)
  clear_value v1
  refine .ite ?_ ?_
  · refine .step (.step ?_ report_goes (by decide)) raisePort_goes (by decide)
    with_reducible assumption
  · exact .refl

theorem execTxFrameStart_goes {p s} : GoesNext [.csr, .out, .intc, .sched, .pmon, .line] s (execTxFrameStart p s) := by
  unfold execTxFrameStart
  extract_lets v1 v2 v3 v4 v5 v6 v7 v8 v9 v10
  clear_value v1
  have h11 : Goes [.csr, .out, .intc, .sched, .pmon, .line] s v2
  · unfold v2
    exact .step (.step .refl swapIfDue_goes (by decide)) gateFrame_goes (by decide)
  clear_value v2
  have h12 : Goes [.csr, .out, .intc, .sched, .pmon, .line] s v3
  · unfold v3
    refine .step ?_ set_goes (by decide)
    with_reducible assumption
  clear_value v3 v4 v5 v6 v7 v8 v9 v10
  refine .ite ?_ ?_
  · exact .mk .refl
  · split
    rename_i n13 n14 n15 n16
    extract_lets v17 v18 v19 v20 v21
    clear_value v17 v18
    have h22 : Goes [.csr, .out, .intc, .sched, .pmon, .line] s v19
    · unfold v19
      refine .step ?_ putPort_goes (by decide)
      with_reducible assumption
    clear_value v19
    have h23 : Goes [.csr, .out, .intc, .sched, .pmon, .line] s v20
    · unfold v20
      refine .step (.step ?_ emit_goes (by decide)) sendLanes_goes (by decide)
      with_reducible assumption
    clear_value v20
    have h24 : Goes [.csr, .out, .intc, .sched, .pmon, .line] s v21
    · unfold v21
      refine .foldl ?_ (fun x25 y26 h27 => ?_)
      · with_reducible assumption
      · split
        · rename_i n28 n29
          with_reducible assumption
        · rename_i n30 n31 n32
          refine .ite ?_ ?_
          · with_reducible assumption
          · refine .step ?_ pmonEdge_goes (by decide)
            with_reducible assumption
    clear_value v21
    refine .mk (.step ?_ meter_goes (by decide))
    with_reducible assumption

theorem execCodewordLockLost_goes {p lane s} : GoesNext [.csr, .out, .intc, .line] s (execCodewordLockLost p lane s) := by
  unfold execCodewordLockLost
  extract_lets v1 v2 v3 v4 v5
  clear_value v1
  have h6 : Goes [.csr, .out, .intc, .line] s v2
  · unfold v2
    exact .step (.step (.step .refl set_goes (by decide)) set_goes (by decide)) set_goes (by decide)
  clear_value v2 v3
  have h7 : Goes [.csr, .out, .intc, .line] s v4
  · unfold v4
    refine .step ?_ putPort_goes (by decide)
    with_reducible assumption
  clear_value v4
  have h8 : Goes [.csr, .out, .intc, .line] s v5
  · unfold v5
    refine .step (.step ?_ set_goes (by decide)) portLog_goes (by decide)
    with_reducible assumption
  clear_value v5
  refine .mk (.ite ?_ ?_)
  · refine .step ?_ toHunt_goes (by decide)
    with_reducible assumption
  · with_reducible assumption

theorem rxFrame_goes {s p f} : Goes [.csr, .out, .intc, .pmon, .line] s (State.rxFrame s p f) := by
  unfold State.rxFrame
  extract_lets v1 v2 v3 v4 v5 v6 v7 v8 v9 v10 v11 v12 v13 v14 v15
  have h16 : Goes [.csr, .out, .intc, .pmon, .line] s v2
  · unfold v2
    exact .step .refl putPort_goes (by decide)
  have h17 : Goes [.csr, .out, .intc, .pmon, .line] s v3
  · unfold v3
    split
    · rename_i n18
      with_reducible assumption
    · rename_i n19 n20
      refine .step (.step ?_ addSat_goes (by decide)) addSat_goes (by decide)
      with_reducible assumption
  clear_value v6 v7 v8
  have h21 : Goes [.csr, .out, .intc, .pmon, .line] s v9
  · unfold v9
    refine .step ?_ countErrored_goes (by decide)
    with_reducible assumption
  clear_value v9 v10 v11
  have h22 : Goes [.csr, .out, .intc, .pmon, .line] s v12
  · unfold v12
    refine .step ?_ frameGained_goes (by decide)
    with_reducible assumption
  clear_value v12
  have h23 : Goes [.csr, .out, .intc, .pmon, .line] s v13
  · unfold v13
    refine .step ?_ deliverHeld_goes (by decide)
    with_reducible assumption
  clear_value v13
  have h24 : Goes [.csr, .out, .intc, .pmon, .line] s v14
  · unfold v14
    refine .ite ?_ ?_
    · refine .step ?_ setAlign_goes (by decide)
      with_reducible assumption
    · refine .step ?_ setAlign_goes (by decide)
      with_reducible assumption
  clear_value v14 v15
  refine .ite ?_ ?_
  · refine .ite ?_ ?_
    · with_reducible assumption
    · refine .ite ?_ ?_
      · refine .step ?_ frameGained_goes (by decide)
        with_reducible assumption
      · refine .step (.step ?_ setAlign_goes (by decide)) set_goes (by decide)
        with_reducible assumption
  · refine .ite ?_ ?_
    · refine .ite ?_ ?_
      · refine .step (.step ?_ toHunt_goes (by decide)) countErrored_goes (by decide)
        with_reducible assumption
      · refine .ite ?_ ?_
        · split
          · rename_i n25
            with_reducible assumption
          · rename_i n26 n27
            refine .step ?_ holdFrame_goes (by decide)
            with_reducible assumption
        · refine .step (.step ?_ setAlign_goes (by decide)) countErrored_goes (by decide)
          with_reducible assumption
    · refine .ite ?_ ?_
      · refine .step (.step ?_ toHunt_goes (by decide)) countErrored_goes (by decide)
        with_reducible assumption
      · split
        · rename_i n28
          refine .step ?_ putPort_goes (by decide)
          with_reducible assumption
        · rename_i n29 n30
          refine .step ?_ holdFrame_goes (by decide)
          with_reducible assumption

end Sys2Proof.Machine
end

