-- ==== Sys2Proof/Laws/GoesJobs.lean ====
section
/-!
SUPPORT. Laws/GoesJobs.lean: what the operations of Machine/Sched, Flows, Steps, Stitch, Bed, Purl, Transmit, Receive keep
      (`Goes`, of Laws/Goes.lean): scheduling, steps, summation and transport.
Each `…_goes` lists the parts of the state that its operation may change.
-/
namespace Sys2Proof.Machine
open Csr

/-! ## Sched -/

theorem swapArm_goes {s p} : GoesOk [.csr] s (State.swapArm s p) := by
  unfold State.swapArm
  refine .ite ?_ ?_
  · exact .mk (.step .refl set_goes (by decide))
  · exact .error

theorem refill_goes {s rate burst tokens i} : Goes [.csr] s (State.refill s rate burst tokens i) := by
  unfold State.refill
  extract_lets v1
  clear_value v1
  exact .step .refl set_goes (by decide)

theorem execShaperRefill_goes {s} : GoesNext [.csr] s (execShaperRefill s) := by
  unfold execShaperRefill
  extract_lets v1
  have h2 : Goes [.csr] s v1
  · unfold v1
    refine .foldl ?_ (fun x3 y4 h5 => ?_)
    · exact .refl
    · refine .step ?_ refill_goes (by decide)
      with_reducible assumption
  clear_value v1
  refine .mk (.foldl ?_ (fun x6 y7 h8 => ?_))
  · with_reducible assumption
  · refine .step ?_ refill_goes (by decide)
    with_reducible assumption

theorem gateArm_goes {s p} : GoesOk [.csr, .sched] s (State.gateArm s p) := by
  unfold State.gateArm
  extract_lets v1 v2 v3 v4
  clear_value v1 v2 v3 v4
  split
  · rename_i n5 n6
    exact .error
  · rename_i n7 n8 n9
    refine .ite ?_ ?_
    · exact .error
    · exact .mk (.step (.sched .refl (by decide)) set_goes (by decide))

theorem lineEnqueue_goes {s x} : Goes [.sched] s (State.lineEnqueue s x) := by
  unfold State.lineEnqueue
  extract_lets v1 v2 v3 v4 v5 v6
  clear_value v1 v2
  have h7 : Goes [.sched] s v3
  · unfold v3
    refine .ite ?_ ?_
    · exact .step .refl wakeTenant_goes (by decide)
    · exact .refl
  clear_value v3 v4
  have h8 : Goes [.sched] s v5
  · unfold v5
    refine .ite ?_ ?_
    · refine .sched ?_ (by decide)
      with_reducible assumption
    · with_reducible assumption
  clear_value v5 v6
  refine .ite ?_ ?_
  · exact .refl
  · refine .sched ?_ (by decide)
    with_reducible assumption

theorem toYarn_goes {s p y x} : Goes [.csr, .out, .intc, .sched, .line] s (State.toYarn s p y x) := by
  unfold State.toYarn
  extract_lets v1 v2 v3 v4
  clear_value v1 v2
  have h5 : Goes [.csr, .out, .intc, .sched, .line] s v3
  · unfold v3
    exact .sched .refl (by decide)
  clear_value v3
  have h6 : Goes [.csr, .out, .intc, .sched, .line] s v4
  · unfold v4
    refine .step ?_ putPort_goes (by decide)
    with_reducible assumption
  clear_value v4
  refine .step ?_ pmonEdge_goes (by decide)
  with_reducible assumption

theorem lineQueues_goes {s on} : Goes [.csr] s (State.lineQueues s on) := by
  unfold State.lineQueues
  refine .foldl ?_ (fun x1 y2 h3 => ?_)
  · exact .refl
  · extract_lets v4
    clear_value v4
    refine .step (.step (.step ?_ set_goes (by decide)) set_goes (by decide)) set_goes (by decide)
    with_reducible assumption

theorem chargeQueue_goes {s p t q len} : Goes [.csr, .sched] s (State.chargeQueue s p t q len) := by
  unfold State.chargeQueue
  extract_lets v1 v2 v3 v4 v5
  clear_value v1 v2 v3 v4
  have h6 : Goes [.csr, .sched] s v5
  · unfold v5
    exact .sched .refl (by decide)
  clear_value v5
  refine .step ?_ set_goes (by decide)
  with_reducible assumption

theorem chargeTenant_goes {s p t len} : Goes [.csr, .sched] s (State.chargeTenant s p t len) := by
  unfold State.chargeTenant
  extract_lets v1 v2 v3
  clear_value v1 v2
  have h4 : Goes [.csr, .sched] s v3
  · unfold v3
    exact .sched .refl (by decide)
  clear_value v3
  refine .step ?_ set_goes (by decide)
  with_reducible assumption

theorem execSchedServe_goes {p s} : GoesNext [.csr, .out, .intc, .sched, .line] s (execSchedServe p s) := by
  unfold execSchedServe
  extract_lets v1
  clear_value v1
  refine .ite ?_ ?_
  · exact .mk .refl
  · split
    · rename_i n2 n3
      exact .mk .refl
    · rename_i n4 n5 n6
      extract_lets v7 v8
      clear_value v7
      have h9 : Goes [.csr, .out, .intc, .sched, .line] s v8
      · unfold v8
        exact .step .refl set_goes (by decide)
      clear_value v8
      split
      · rename_i n10 n11 n12
        refine .mk (.step (.step ?_ toYarn_goes (by decide)) chargeTenant_goes (by decide))
        with_reducible assumption
      · rename_i n13 n14
        split
        · rename_i n15 n16
          refine .mk ?_
          with_reducible assumption
        · rename_i n17 n18 n19
          split
          · rename_i n20 n21
            refine .mk ?_
            with_reducible assumption
          · rename_i n22 n23 n24
            refine .mk (.step (.step ?_ chargeQueue_goes (by decide)) chargeTenant_goes (by decide))
            refine .step ?_ toYarn_goes (by decide)
            with_reducible assumption

theorem shaperFull_goes {s burst tokens i} : Goes [.csr] s (State.shaperFull s burst tokens i) := by
  unfold State.shaperFull
  exact .step .refl set_goes (by decide)

theorem schedInit_goes {s} : Goes [.csr, .sched] s (State.schedInit s) := by
  unfold State.schedInit
  extract_lets v1 v2 v3 v4
  have h5 : Goes [.csr, .sched] s v1
  · unfold v1
    refine .foldl ?_ (fun x6 y7 h8 => ?_)
    · exact .refl
    · refine .step ?_ set_goes (by decide)
      with_reducible assumption
  clear_value v1
  have h9 : Goes [.csr, .sched] s v2
  · unfold v2
    refine .foldl ?_ (fun x10 y11 h12 => ?_)
    · with_reducible assumption
    · refine .step ?_ shaperFull_goes (by decide)
      with_reducible assumption
  clear_value v2
  have h13 : Goes [.csr, .sched] s v3
  · unfold v3
    refine .foldl ?_ (fun x14 y15 h16 => ?_)
    · with_reducible assumption
    · refine .step ?_ shaperFull_goes (by decide)
      with_reducible assumption
  clear_value v3 v4
  refine .sched ?_ (by decide)
  with_reducible assumption

theorem gateCancel_goes {s p} : Goes [.csr, .out, .intc, .sched] s (State.gateCancel s p) := by
  unfold State.gateCancel
  extract_lets v1
  clear_value v1
  split
  · rename_i n2 n3
    exact .refl
  · rename_i n4 n5 n6 n7
    refine .ite ?_ ?_
    · exact .step (.step (.sched .refl (by decide)) set_goes (by decide)) gateReport_goes (by decide)
    · exact .refl

theorem swapCancel_goes {s p} : Goes [.csr] s (State.swapCancel s p) := by
  unfold State.swapCancel
  exact .step .refl set_goes (by decide)

/-! ## Flows -/

theorem putFlow_goes {s j peer f} : Goes [.xport] s (State.putFlow s j peer f) := by
  unfold State.putFlow
  extract_lets v1
  clear_value v1
  exact .xport .refl (by decide)

theorem placeControl_goes {s j peer c} : Goes [.mem, .poison, .xport] s (State.placeControl s j peer c) := by
  unfold State.placeControl
  extract_lets v1
  clear_value v1
  split
  · rename_i n2 n3
    exact .step .refl putFlow_goes (by decide)
  · rename_i n4 n5 n6
    extract_lets v7 v8
    have h9 : Goes [.mem, .poison, .xport] s v7
    · unfold v7
      exact .step .refl writeBytes_goes (by decide)
    clear_value v7 v8
    refine .step ?_ putFlow_goes (by decide)
    with_reducible assumption

theorem sendControl_goes {s j peer ctype msg port} :
    Goes [.mem, .poison, .xport] s (State.sendControl s j peer ctype msg port) := by
  unfold State.sendControl
  extract_lets v1 v2
  clear_value v1 v2
  refine .ite ?_ ?_
  · exact .step (.step .refl putFlow_goes (by decide)) placeControl_goes (by decide)
  · refine .ite ?_ ?_
    · exact .step (.step .refl putFlow_goes (by decide)) placeControl_goes (by decide)
    · exact .step (.step .refl putFlow_goes (by decide)) placeControl_goes (by decide)

theorem sendAck_goes {s j peer} : Goes [.mem, .poison, .xport] s (State.sendAck s j peer) := by
  unfold State.sendAck
  extract_lets v1 v2 v3 v4 v5
  clear_value v1 v2 v3 v4
  have h6 : Goes [.mem, .poison, .xport] s v5
  · unfold v5
    exact .step .refl putFlow_goes (by decide)
  clear_value v5
  split
  rename_i n7 n8 n9 n10
  split
  rename_i n11 n12 n13 n14
  extract_lets v15 v16 v17
  clear_value v15 v16 v17
  refine .step ?_ sendControl_goes (by decide)
  with_reducible assumption

theorem ackIfFull_goes {s j peer} : Goes [.mem, .poison, .xport] s (State.ackIfFull s j peer) := by
  unfold State.ackIfFull
  extract_lets v1
  clear_value v1
  refine .ite ?_ ?_
  · exact .step .refl sendAck_goes (by decide)
  · exact .refl

theorem nack_goes {s j peer cw} : Goes [.csr, .mem, .poison, .xport] s (State.nack s j peer cw) := by
  unfold State.nack
  extract_lets v1 v2
  clear_value v1
  have h3 : Goes [.csr, .mem, .poison, .xport] s v2
  · unfold v2
    exact .step .refl addSat_goes (by decide)
  clear_value v2
  split
  · rename_i n4 n5
    exact .refl
  · rename_i n6 n7 n8
    refine .step (.step ?_ putFlow_goes (by decide)) ackIfFull_goes (by decide)
    with_reducible assumption

theorem xportLog_goes {s reason site port job} : Goes [.csr, .out] s (State.xportLog s reason site port job) := by
  unfold State.xportLog
  refine .step (.step (.step (.step ?_ set_goes (by decide)) set_goes (by decide)) set_goes (by decide)) report_goes (by decide)
  exact .step .refl set_goes (by decide)

theorem sendPortState_goes {s peer} : Goes [.csr, .mem, .poison, .xport] s (State.sendPortState s peer) := by
  unfold State.sendPortState
  extract_lets v1 v2 v3
  clear_value v1 v2
  have h4 : Goes [.csr, .mem, .poison, .xport] s v3
  · unfold v3
    exact .step (.step .refl set_goes (by decide)) set_goes (by decide)
  clear_value v3
  refine .step ?_ sendControl_goes (by decide)
  with_reducible assumption

theorem shortTest_goes {s j peer cw} : Goes [.csr, .mem, .poison, .xport] s (State.shortTest s j peer cw) := by
  unfold State.shortTest
  extract_lets v1
  clear_value v1
  split
  · rename_i n2 n3
    exact .refl
  · rename_i n4 n5 n6
    refine .ite ?_ ?_
    · exact .refl
    · exact .step (.step .refl putFlow_goes (by decide)) nack_goes (by decide)

theorem setPortClass_goes {s peer p cls} :
    Goes [.csr, .mem, .poison, .out, .intc, .xport] s (State.setPortClass s peer p cls) := by
  unfold State.setPortClass
  extract_lets v1 v2 v3 v4 v5 v6 v7 v8
  clear_value v1
  have h9 : Goes [.csr, .mem, .poison, .out, .intc, .xport] s v2
  · unfold v2
    exact .step .refl set_goes (by decide)
  clear_value v2
  have h10 : Goes [.csr, .mem, .poison, .out, .intc, .xport] s v3
  · unfold v3
    refine .step ?_ set_goes (by decide)
    with_reducible assumption
  clear_value v3
  have h11 : Goes [.csr, .mem, .poison, .out, .intc, .xport] s v4
  · unfold v4
    refine .step (.step ?_ xportLog_goes (by decide)) raise_goes (by decide)
    with_reducible assumption
  clear_value v4 v5 v6
  have h12 : Goes [.csr, .mem, .poison, .out, .intc, .xport] s v7
  · unfold v7
    refine .xport ?_ (by decide)
    with_reducible assumption
  clear_value v7
  have h13 : Goes [.csr, .mem, .poison, .out, .intc, .xport] s v8
  · unfold v8
    refine .step ?_ sendPortState_goes (by decide)
    with_reducible assumption
  clear_value v8
  refine .ite ?_ ?_
  · exact .refl
  · refine .foldl ?_ (fun x14 y15 h16 => ?_)
    · with_reducible assumption
    · refine .foldl ?_ (fun x17 y18 h19 => ?_)
      · with_reducible assumption
      · refine .step ?_ shortTest_goes (by decide)
        with_reducible assumption

theorem reclassPort_goes {s p} : Goes [.csr, .mem, .poison, .out, .intc, .xport] s (State.reclassPort s p) := by
  unfold State.reclassPort
  refine .ite ?_ ?_
  · refine .foldl ?_ (fun x1 y2 h3 => ?_)
    · exact .refl
    · extract_lets v4
      clear_value v4
      refine .ite ?_ ?_
      · refine .step ?_ setPortClass_goes (by decide)
        with_reducible assumption
      · refine .ite ?_ ?_
        · refine .step ?_ setPortClass_goes (by decide)
          with_reducible assumption
        · with_reducible assumption
  · exact .refl

theorem ackNow_goes {s j site step chunk} : Goes [.mem, .poison, .xport] s (State.ackNow s j site step chunk) := by
  unfold State.ackNow
  extract_lets v1 v2 v3 v4
  clear_value v1
  have h5 : Goes [.mem, .poison, .xport] s v2
  · unfold v2
    exact .step .refl putFlow_goes (by decide)
  clear_value v2 v3
  have h6 : Goes [.mem, .poison, .xport] s v4
  · unfold v4
    refine .xport ?_ (by decide)
    with_reducible assumption
  clear_value v4
  refine .step ?_ ackIfFull_goes (by decide)
  with_reducible assumption

theorem putRec_goes {s j r} : Goes [.xport] s (State.putRec s j r) := by
  unfold State.putRec
  extract_lets v1
  clear_value v1
  exact .xport .refl (by decide)

theorem ackChunk_goes {s j site step chunk} : Goes [.mem, .poison, .xport, .grp] s (State.ackChunk s j site step chunk) := by
  unfold State.ackChunk
  extract_lets v1 v2
  clear_value v2
  split
  · rename_i n3 n4
    exact .step .refl ackNow_goes (by decide)
  · rename_i n5 n6 n7
    extract_lets v8 v9
    clear_value v8
    have h10 : Goes [.mem, .poison, .xport, .grp] s v9
    · unfold v9
      exact .grp .refl (by decide)
    clear_value v9
    refine .ite ?_ ?_
    · refine .step ?_ ackNow_goes (by decide)
      with_reducible assumption
    · with_reducible assumption

theorem peerUpdate_goes {s peer} : Goes [.csr] s (State.peerUpdate s peer) := by
  unfold State.peerUpdate
  extract_lets v1 v2 v3
  have h4 : Goes [.csr] s v1
  · unfold v1
    exact .step .refl set_goes (by decide)
  clear_value v1
  have h5 : Goes [.csr] s v2
  · unfold v2
    refine .step ?_ set_goes (by decide)
    with_reducible assumption
  clear_value v2
  have h6 : Goes [.csr] s v3
  · unfold v3
    refine .step ?_ set_goes (by decide)
    with_reducible assumption
  clear_value v3
  refine .step ?_ set_goes (by decide)
  with_reducible assumption

theorem usageUpdate_goes {s} : Goes [.csr] s (State.usageUpdate s) := by
  unfold State.usageUpdate
  extract_lets v1 v2 v3 v4
  clear_value v1 v2 v3
  have h5 : Goes [.csr] s v4
  · unfold v4
    exact .step (.step (.step .refl set_goes (by decide)) set_goes (by decide)) set_goes (by decide)
  clear_value v4
  refine .step (.step ?_ set_goes (by decide)) set_goes (by decide)
  with_reducible assumption

theorem controlSealed_goes {s addr len} : Goes [.sched, .xport] s (State.controlSealed s addr len) := by
  unfold State.controlSealed
  extract_lets v1
  clear_value v1
  split
  · rename_i n2 n3
    exact .refl
  · rename_i n4 n5 n6 n7 n8
    split
    · rename_i n9 n10
      exact .refl
    · rename_i n11 n12 n13
      extract_lets v14 v15 v16
      clear_value v14 v15
      have h17 : Goes [.sched, .xport] s v16
      · unfold v16
        exact .step .refl putFlow_goes (by decide)
      clear_value v16
      refine .foldl ?_ (fun x18 y19 h20 => ?_)
      · with_reducible assumption
      · refine .step ?_ lineEnqueue_goes (by decide)
        with_reducible assumption

/-! ## Steps -/

theorem stepReason_goes {s r reason} : GoesSnd [.out] s (State.stepReason s r reason) := by
  unfold State.stepReason
  exact .mk (.step .refl report_goes (by decide))

theorem reachUpdate_goes {s} : Goes [.csr] s (State.reachUpdate s) := by
  unfold State.reachUpdate
  exact .step .refl set_goes (by decide)

theorem saveRec_goes {s j r} : Goes [.csr, .mem, .poison, .out, .intc, .myk, .xport] s (State.saveRec s j r) := by
  unfold State.saveRec
  extract_lets v1 v2 v3 v4 v5
  clear_value v1
  have h6 : Goes [.csr, .mem, .poison, .out, .intc, .myk, .xport] s v2
  · unfold v2
    exact .step .refl putRec_goes (by decide)
  clear_value v2
  have h7 : Goes [.csr, .mem, .poison, .out, .intc, .myk, .xport] s v3
  · unfold v3
    refine .step (.step (.step ?_ set_goes (by decide)) set_goes (by decide)) set_goes (by decide)
    with_reducible assumption
  clear_value v3 v4 v5
  refine .step (.step (.step ?_ hostWrite_goes (by decide)) reachUpdate_goes (by decide)) event_goes (by decide)
  refine .step ?_ hostWrite_goes (by decide)
  with_reducible assumption

theorem sendRejoin_goes {s j mask} : Goes [.mem, .poison, .xport] s (State.sendRejoin s j mask) := by
  unfold State.sendRejoin
  extract_lets v1
  clear_value v1
  refine .foldl ?_ (fun x2 y3 h4 => ?_)
  · exact .refl
  · refine .step ?_ sendControl_goes (by decide)
    with_reducible assumption

theorem execRejoinStableExpiry_goes {site s} :
    GoesNext [.csr, .mem, .poison, .out, .intc, .myk, .xport] s (execRejoinStableExpiry site s) := by
  unfold execRejoinStableExpiry
  refine .mk (.foldl ?_ (fun x1 y2 h3 => ?_))
  · exact .refl
  · extract_lets v4
    clear_value v4
    split
    rename_i n5 n6 n7 n8
    have h9 : Goes [.csr, .mem, .poison, .out, .intc, .myk, .xport] s n7
    · refine GoesSnd.of n8 (.step ?_ stepReason_goes (by decide))
      with_reducible assumption
    extract_lets v10 v11
    clear_value v10
    have h12 : Goes [.csr, .mem, .poison, .out, .intc, .myk, .xport] s v11
    · unfold v11
      refine .step (.step ?_ raise_goes (by decide)) saveRec_goes (by decide)
      with_reducible assumption
    clear_value v11
    refine .ite ?_ ?_
    · refine .step ?_ sendRejoin_goes (by decide)
      with_reducible assumption
    · with_reducible assumption

theorem stepRefuse_goes {s w reason} : Goes [.csr, .out, .hostq] s (State.stepRefuse s w reason) := by
  unfold State.stepRefuse
  exact .step (.step .refl report_goes (by decide)) finishError_goes (by decide)

theorem enter_goes {s j st r} : Goes [.csr, .mem, .poison, .out, .intc, .myk, .xport] s (State.enter s j st r) := by
  unfold State.enter
  extract_lets v1 v2
  clear_value v1 v2
  exact .step .refl saveRec_goes (by decide)

theorem dropSlots_goes {s job step round} : Goes [.csr, .stch] s (State.dropSlots s job step round) := by
  unfold State.dropSlots
  extract_lets v1 v2 v3 v4
  clear_value v1 v2
  have h5 : Goes [.csr, .stch] s v3
  · unfold v3
    exact .stch .refl (by decide)
  clear_value v3 v4
  refine .step (.step ?_ set_goes (by decide)) set_goes (by decide)
  with_reducible assumption

theorem releaseRetained_goes {s p} : Goes [.csr, .xport] s (State.releaseRetained s p) := by
  unfold State.releaseRetained
  extract_lets v1 v2
  clear_value v1
  have h3 : Goes [.csr, .xport] s v2
  · unfold v2
    exact .xport .refl (by decide)
  clear_value v2
  refine .step ?_ usageUpdate_goes (by decide)
  with_reducible assumption

theorem rerunStep_goes {s j members r} :
    Goes [.csr, .mem, .poison, .out, .intc, .myk, .stch, .xport] s (State.rerunStep s j members r) := by
  unfold State.rerunStep
  extract_lets v1 v2 v3 v4 v5 v6
  clear_value v1
  have h7 : Goes [.csr, .mem, .poison, .out, .intc, .myk, .stch, .xport] s v2
  · unfold v2
    exact .step .refl dropSlots_goes (by decide)
  clear_value v2
  have h8 : Goes [.csr, .mem, .poison, .out, .intc, .myk, .stch, .xport] s v3
  · unfold v3
    refine .step ?_ releaseRetained_goes (by decide)
    with_reducible assumption
  clear_value v3 v4
  have h9 : Goes [.csr, .mem, .poison, .out, .intc, .myk, .stch, .xport] s v5
  · unfold v5
    refine .xport ?_ (by decide)
    with_reducible assumption
  clear_value v5 v6
  refine .step ?_ enter_goes (by decide)
  with_reducible assumption

theorem stepEnd_goes {s j w} : Goes [.csr, .hostq] s (State.stepEnd s j w) := by
  unfold State.stepEnd
  exact .step .refl finish_goes (by decide)

theorem execStepMembership_goes {w s} :
    GoesNext [.csr, .mem, .poison, .out, .freeCtr, .intc, .myk, .hostq, .stch, .xport, .fab, .grp] s (execStepMembership w s) := by
  unfold execStepMembership
  extract_lets v1
  clear_value v1
  split
  · rename_i n2 n3 n4
    exact .mk (.step .refl stepRefuse_goes (by decide))
  · rename_i n5 n6 n7
    extract_lets v8 v9 v10 v11 v12
    clear_value v8 v9 v10 v11
    have h13 : Goes [.csr, .mem, .poison, .out, .freeCtr, .intc, .myk, .hostq, .stch, .xport, .fab, .grp] s v12
    · unfold v12
      refine .ite ?_ ?_
      · exact .step .refl saveRec_goes (by decide)
      · refine .ite ?_ ?_
        · exact .step .refl saveRec_goes (by decide)
        · refine .ite ?_ ?_
          · exact .step .refl enter_goes (by decide)
          · exact .step .refl rerunStep_goes (by decide)
    clear_value v12
    refine .ite ?_ ?_
    · exact .mk (.step .refl stepRefuse_goes (by decide))
    · refine .ite ?_ ?_
      · exact .mk (.step .refl stepRefuse_goes (by decide))
      · refine .mk (.step (.step ?_ mirrorOther_goes (by decide)) stepEnd_goes (by decide))
        with_reducible assumption

theorem stall_goes {s j sites r} : Goes [.csr, .mem, .poison, .out, .intc, .myk, .xport] s (State.stall s j sites r) := by
  unfold State.stall
  split
  rename_i n1 n2 n3 n4
  have h5 : Goes [.csr, .mem, .poison, .out, .intc, .myk, .xport] s n3
  · exact GoesSnd.of n4 (.step .refl stepReason_goes (by decide))
  refine .step ?_ saveRec_goes (by decide)
  with_reducible assumption

theorem hold_goes {s j r} : Goes [.csr, .mem, .poison, .out, .intc, .myk, .xport] s (State.hold s j r) := by
  unfold State.hold
  refine .ite ?_ ?_
  · exact .step .refl saveRec_goes (by decide)
  · exact .step .refl enter_goes (by decide)

theorem partition_goes {s j r} : Goes [.csr, .mem, .poison, .out, .intc, .myk, .stch, .xport] s (State.partition s j r) := by
  unfold State.partition
  extract_lets v1
  clear_value v1
  split
  rename_i n2 n3 n4 n5
  have h6 : Goes [.csr, .mem, .poison, .out, .intc, .myk, .stch, .xport] s n4
  · exact GoesSnd.of n5 (.step .refl stepReason_goes (by decide))
  extract_lets v7
  refine .ite ?_ ?_
  · refine .step ?_ hold_goes (by decide)
    with_reducible assumption
  · refine .ite ?_ ?_
    · refine .step ?_ saveRec_goes (by decide)
      with_reducible assumption
    · refine .step ?_ rerunStep_goes (by decide)
      with_reducible assumption

theorem openStep_goes {s j step fresh} :
    Goes [.csr, .mem, .poison, .out, .intc, .myk, .stch, .xport] s (State.openStep s j step fresh) := by
  unfold State.openStep
  extract_lets v1 v2 v3 v4 v5 v6 v7 v8 v9
  clear_value v1 v2 v3 v4 v5 v6
  have h10 : Goes [.csr, .mem, .poison, .out, .intc, .myk, .stch, .xport] s v7
  · unfold v7
    exact .step .refl set_goes (by decide)
  clear_value v7
  have h11 : Goes [.csr, .mem, .poison, .out, .intc, .myk, .stch, .xport] s v8
  · unfold v8
    refine .step ?_ enter_goes (by decide)
    with_reducible assumption
  clear_value v8 v9
  refine .ite ?_ ?_
  · with_reducible assumption
  · refine .step ?_ partition_goes (by decide)
    with_reducible assumption

theorem execStepResume_goes {w s} :
    GoesNext [.csr, .mem, .poison, .out, .intc, .myk, .hostq, .stch, .xport] s (execStepResume w s) := by
  unfold execStepResume
  split
  · rename_i n1 n2 n3
    exact .mk (.step .refl stepRefuse_goes (by decide))
  · rename_i n4 n5 n6
    extract_lets v7 v8 v9
    clear_value v7 v8
    have h10 : Goes [.csr, .mem, .poison, .out, .intc, .myk, .hostq, .stch, .xport] s v9
    · unfold v9
      exact .step .refl putRec_goes (by decide)
    clear_value v9
    refine .ite ?_ ?_
    · exact .mk (.step .refl stepRefuse_goes (by decide))
    · refine .mk (.step (.step ?_ openStep_goes (by decide)) stepEnd_goes (by decide))
      with_reducible assumption

theorem execStepOpen_goes {w s} :
    GoesNext [.csr, .mem, .poison, .out, .intc, .myk, .hostq, .stch, .xport] s (execStepOpen w s) := by
  unfold execStepOpen
  split
  · rename_i n1 n2 n3
    exact .mk (.step .refl stepRefuse_goes (by decide))
  · rename_i n4 n5 n6
    extract_lets v7
    clear_value v7
    refine .ite ?_ ?_
    · exact .mk (.step .refl stepRefuse_goes (by decide))
    · refine .ite ?_ ?_
      · exact .mk (.step (.step .refl openStep_goes (by decide)) stepEnd_goes (by decide))
      · exact .mk (.step .refl putRec_goes (by decide))

theorem execCleanWaitExpiry_goes {j s} :
    GoesNext [.csr, .mem, .poison, .out, .intc, .myk, .xport] s (execCleanWaitExpiry j s) := by
  unfold execCleanWaitExpiry
  extract_lets v1
  clear_value v1
  refine .ite ?_ ?_
  · exact .mk (.step .refl stall_goes (by decide))
  · exact .mk .refl

theorem execIngestEnd_goes {j s} : GoesNext [.csr, .mem, .poison, .out, .intc, .myk, .xport] s (execIngestEnd j s) := by
  unfold execIngestEnd
  extract_lets v1
  clear_value v1
  refine .ite ?_ ?_
  · exact .mk (.step .refl enter_goes (by decide))
  · exact .mk .refl

theorem noticeRing_goes {s b} : Goes [.csr, .mem, .poison, .out, .intc, .myk] s (State.noticeRing s b) := by
  unfold State.noticeRing
  extract_lets v1 v2
  clear_value v1 v2
  refine .ite ?_ ?_
  · exact .step (.step .refl set_goes (by decide)) raise_goes (by decide)
  · exact .step (.step (.step .refl hostWrite_goes (by decide)) set_goes (by decide)) raise_goes (by decide)

theorem applyRejoin_goes {s j} : Goes [.csr, .mem, .poison, .out, .intc, .myk, .xport] s (State.applyRejoin s j) := by
  unfold State.applyRejoin
  extract_lets v1 v2 v3 v4 v5 v6 v7
  clear_value v1 v2 v3 v4 v5 v6 v7
  refine .ite ?_ ?_
  · exact .refl
  · refine .ite ?_ ?_
    · split
      rename_i n8 n9 n10 n11
      have h12 : Goes [.csr, .mem, .poison, .out, .intc, .myk, .xport] s n10
      · exact GoesSnd.of n11 (.step .refl stepReason_goes (by decide))
      refine .step ?_ enter_goes (by decide)
      with_reducible assumption
    · refine .ite ?_ ?_
      · exact .step .refl enter_goes (by decide)
      · refine .ite ?_ ?_
        · exact .step .refl enter_goes (by decide)
        · exact .step .refl saveRec_goes (by decide)

theorem execResyncFetchEnd_goes {j s} : GoesNext [.csr, .mem, .poison, .out, .intc, .myk, .xport] s (execResyncFetchEnd j s) := by
  unfold execResyncFetchEnd
  extract_lets v1
  clear_value v1
  refine .ite ?_ ?_
  · exact .mk (.step .refl enter_goes (by decide))
  · exact .mk .refl

theorem execStepOpenRelease_goes {j s} :
    GoesNext [.csr, .mem, .poison, .out, .intc, .myk, .hostq, .stch, .xport] s (execStepOpenRelease j s) := by
  unfold execStepOpenRelease
  extract_lets v1
  clear_value v1
  split
  · rename_i n2 n3
    exact .mk .refl
  · rename_i n4 n5 n6 n7
    extract_lets v8
    have h9 : Goes [.csr, .mem, .poison, .out, .intc, .myk, .hostq, .stch, .xport] s v8
    · unfold v8
      exact .step .refl putRec_goes (by decide)
    clear_value v8
    refine .ite ?_ ?_
    · exact .mk .refl
    · refine .ite ?_ ?_
      · refine .mk (.step (.step ?_ openStep_goes (by decide)) stepEnd_goes (by decide))
        with_reducible assumption
      · refine .mk (.step ?_ stepRefuse_goes (by decide))
        with_reducible assumption

theorem unrecoverable_goes {s j reason} :
    Goes [.csr, .mem, .poison, .out, .intc, .myk, .xport] s (State.unrecoverable s j reason) := by
  unfold State.unrecoverable
  split
  rename_i n1 n2 n3 n4
  have h5 : Goes [.csr, .mem, .poison, .out, .intc, .myk, .xport] s n3
  · exact GoesSnd.of n4 (.step .refl stepReason_goes (by decide))
  refine .step ?_ enter_goes (by decide)
  with_reducible assumption

theorem progress_goes {s j} : Goes [.csr, .mem, .poison, .out, .intc, .myk, .xport] s (State.progress s j) := by
  unfold State.progress
  extract_lets v1
  clear_value v1
  refine .ite ?_ ?_
  · exact .step .refl saveRec_goes (by decide)
  · exact .refl

theorem closeReported_goes {s j} : Goes [.fab, .grp] s (State.closeReported s j) := by
  unfold State.closeReported
  extract_lets v1 v2
  clear_value v1 v2
  refine .ite ?_ ?_
  · exact .refl
  · refine .ite ?_ ?_
    · exact .grp .refl (by decide)
    · exact .step .refl groupSend_goes (by decide)

theorem execStepClose_goes {j s} :
    GoesNext [.csr, .mem, .poison, .out, .intc, .myk, .xport, .fab, .grp] s (execStepClose j s) := by
  unfold execStepClose
  extract_lets v1 v2 v3 v4 v5 v6 v7 v8 v9
  clear_value v3
  have h10 : Goes [.csr, .mem, .poison, .out, .intc, .myk, .xport, .fab, .grp] s v4
  · unfold v4
    exact .step .refl releaseRetained_goes (by decide)
  have h11 : Goes [.csr, .mem, .poison, .out, .intc, .myk, .xport, .fab, .grp] s v5
  · unfold v5
    refine .step ?_ progress_goes (by decide)
    with_reducible assumption
  have h12 : Goes [.csr, .mem, .poison, .out, .intc, .myk, .xport, .fab, .grp] s v8
  · unfold v8
    refine .step (.step ?_ enter_goes (by decide)) closeReported_goes (by decide)
    with_reducible assumption
  clear_value v8
  have h13 : Goes [.csr, .mem, .poison, .out, .intc, .myk, .xport, .fab, .grp] s v9
  · unfold v9
    refine .ite ?_ ?_
    · with_reducible assumption
    · refine .step ?_ sendRejoin_goes (by decide)
      with_reducible assumption
  clear_value v9 v1 v2 v4 v5 v6 v7
  refine .ite ?_ ?_
  · exact .mk .refl
  · refine .mk (.step ?_ applyRejoin_goes (by decide))
    with_reducible assumption

theorem takeMail_goes {s j site ctype} : GoesSome [.xport] s (State.takeMail s j site ctype) := by
  unfold State.takeMail
  extract_lets v1
  clear_value v1
  split
  · rename_i n2 n3
    exact .none
  · rename_i n4 n5 n6
    exact .mk (.xport .refl (by decide))

theorem execRejoinReceived_goes {j site s} :
    GoesNext [.csr, .mem, .poison, .out, .intc, .myk, .xport] s (execRejoinReceived j site s) := by
  unfold execRejoinReceived
  split
  · rename_i n1 n2
    exact .mk .refl
  · rename_i n3 n4 n5 n6
    have h7 : Goes [.csr, .mem, .poison, .out, .intc, .myk, .xport] s n5
    · exact GoesSome.of n6 (.step .refl takeMail_goes (by decide))
    extract_lets v8 v9 v10 v11
    clear_value v8 v9 v10
    have h12 : Goes [.csr, .mem, .poison, .out, .intc, .myk, .xport] s v11
    · unfold v11
      refine .step ?_ putRec_goes (by decide)
      with_reducible assumption
    clear_value v11
    refine .mk (.step ?_ applyRejoin_goes (by decide))
    with_reducible assumption

theorem launchFrog_goes {s j round r} :
    Goes [.csr, .mem, .poison, .out, .intc, .myk, .stch, .xport] s (State.launchFrog s j round r) := by
  unfold State.launchFrog
  extract_lets v1 v2 v3 v4 v5
  have h6 : Goes [.csr, .mem, .poison, .out, .intc, .myk, .stch, .xport] s v1
  · unfold v1
    exact .step .refl dropSlots_goes (by decide)
  clear_value v1 v2 v3
  have h7 : Goes [.csr, .mem, .poison, .out, .intc, .myk, .stch, .xport] s v4
  · unfold v4
    refine .xport ?_ (by decide)
    with_reducible assumption
  clear_value v4 v5
  refine .step ?_ enter_goes (by decide)
  with_reducible assumption

theorem execStepAbort_goes {w s} :
    GoesNext [.csr, .mem, .poison, .out, .freeCtr, .intc, .myk, .hostq, .xport, .fab, .grp] s (execStepAbort w s) := by
  unfold execStepAbort
  split
  · rename_i n1 n2 n3
    exact .mk (.step .refl stepRefuse_goes (by decide))
  · rename_i n4 n5 n6
    extract_lets v7 v8 v9
    clear_value v7
    have h10 : Goes [.csr, .mem, .poison, .out, .freeCtr, .intc, .myk, .hostq, .xport, .fab, .grp] s v8
    · unfold v8
      exact .step .refl enter_goes (by decide)
    clear_value v8
    have h11 : Goes [.csr, .mem, .poison, .out, .freeCtr, .intc, .myk, .hostq, .xport, .fab, .grp] s v9
    · unfold v9
      refine .step ?_ enter_goes (by decide)
      with_reducible assumption
    clear_value v9
    refine .ite ?_ ?_
    · exact .mk (.step .refl stepRefuse_goes (by decide))
    · refine .mk (.step (.step ?_ mirrorOther_goes (by decide)) stepEnd_goes (by decide))
      with_reducible assumption

theorem updateBarrier_goes {s j r} : Goes [.csr, .mem, .poison, .out, .intc, .myk, .xport] s (State.updateBarrier s j r) := by
  unfold State.updateBarrier
  refine .ite ?_ ?_
  · exact .step .refl enter_goes (by decide)
  · refine .ite ?_ ?_
    · exact .step .refl putRec_goes (by decide)
    · exact .step .refl saveRec_goes (by decide)

theorem reconciled_goes {s j r} : Goes [.csr, .mem, .poison, .out, .intc, .myk, .xport] s (State.reconciled s j r) := by
  unfold State.reconciled
  exact .step .refl enter_goes (by decide)

theorem execStageComplete_goes {j s} : GoesNext [.csr, .mem, .poison, .out, .intc, .myk, .xport] s (execStageComplete j s) := by
  unfold execStageComplete
  extract_lets v1 v2
  clear_value v1 v2
  split
  · rename_i n3 n4
    exact .mk (.step .refl enter_goes (by decide))
  · rename_i n5 n6
    refine .ite ?_ ?_
    · exact .mk (.step .refl enter_goes (by decide))
    · exact .mk .refl
  · rename_i n7 n8
    refine .ite ?_ ?_
    · exact .mk .refl
    · refine .ite ?_ ?_
      · exact .mk (.step .refl updateBarrier_goes (by decide))
      · exact .mk (.step .refl enter_goes (by decide))
  · rename_i n9 n10
    exact .mk (.step .refl enter_goes (by decide))
  · rename_i n11 n12
    refine .ite ?_ ?_
    · exact .mk (.step .refl enter_goes (by decide))
    · exact .mk .refl
  · rename_i n13 n14
    refine .ite ?_ ?_
    · exact .mk (.step .refl updateBarrier_goes (by decide))
    · exact .mk .refl
  · rename_i n15 n16
    exact .mk (.step .refl enter_goes (by decide))
  · rename_i n17 n18
    exact .mk (.step .refl enter_goes (by decide))
  · rename_i n19 n20
    exact .mk (.step .refl reconciled_goes (by decide))
  · rename_i n21 n22 n23 n24 n25 n26 n27 n28 n29 n30
    exact .mk .refl

theorem execPartitionDetect_goes {j site s} :
    GoesNext [.csr, .mem, .poison, .out, .intc, .myk, .stch, .xport] s (execPartitionDetect j site s) := by
  unfold execPartitionDetect
  extract_lets v1 v2 v3 v4 v5
  clear_value v1 v2 v3
  have h6 : Goes [.csr, .mem, .poison, .out, .intc, .myk, .stch, .xport] s v4
  · unfold v4
    exact .step .refl raise_goes (by decide)
  clear_value v4 v5
  refine .ite ?_ ?_
  · exact .mk .refl
  · refine .ite ?_ ?_
    · refine .mk (.step ?_ partition_goes (by decide))
      with_reducible assumption
    · refine .ite ?_ ?_
      · split
        rename_i n7 n8 n9 n10
        have h11 : Goes [.csr, .mem, .poison, .out, .intc, .myk, .stch, .xport] s n9
        · refine GoesSnd.of n10 (.step ?_ stepReason_goes (by decide))
          with_reducible assumption
        refine .mk (.step ?_ saveRec_goes (by decide))
        with_reducible assumption
      · refine .ite ?_ ?_
        · split
          rename_i n12 n13 n14 n15
          have h16 : Goes [.csr, .mem, .poison, .out, .intc, .myk, .stch, .xport] s n14
          · refine GoesSnd.of n15 (.step ?_ stepReason_goes (by decide))
            with_reducible assumption
          refine .ite ?_ ?_
          · refine .mk (.step ?_ enter_goes (by decide))
            with_reducible assumption
          · refine .mk (.step ?_ enter_goes (by decide))
            with_reducible assumption
        · refine .mk (.step ?_ saveRec_goes (by decide))
          with_reducible assumption

theorem noticeToStep_goes {s j step round reason} :
    Goes [.csr, .mem, .poison, .out, .intc, .myk, .stch, .xport] s (State.noticeToStep s j step round reason) := by
  unfold State.noticeToStep
  extract_lets v1 v2
  clear_value v1 v2
  refine .ite ?_ ?_
  · refine .ite ?_ ?_
    · exact .refl
    · exact .step .refl unrecoverable_goes (by decide)
  · refine .ite ?_ ?_
    · exact .refl
    · refine .ite ?_ ?_
      · exact .step .refl unrecoverable_goes (by decide)
      · refine .ite ?_ ?_
        · exact .step .refl unrecoverable_goes (by decide)
        · refine .ite ?_ ?_
          · split
            rename_i n3 n4 n5 n6
            have h7 : Goes [.csr, .mem, .poison, .out, .intc, .myk, .stch, .xport] s n5
            · exact GoesSnd.of n6 (.step .refl stepReason_goes (by decide))
            refine .step ?_ hold_goes (by decide)
            with_reducible assumption
          · refine .ite ?_ ?_
            · exact .refl
            · exact .step .refl launchFrog_goes (by decide)

theorem execStepResend_goes {w s} : GoesNext [.csr, .mem, .poison, .out, .hostq, .xport] s (execStepResend w s) := by
  unfold execStepResend
  extract_lets v1 v2 v3
  clear_value v1 v2 v3
  split
  · rename_i n4 n5 n6
    exact .mk (.step .refl stepRefuse_goes (by decide))
  · rename_i n7 n8 n9
    extract_lets v10
    clear_value v10
    split
    · rename_i n11 n12
      exact .mk (.step .refl stepRefuse_goes (by decide))
    · rename_i n13 n14 n15
      extract_lets v16 v17 v18
      have h19 : Goes [.csr, .mem, .poison, .out, .hostq, .xport] s v16
      · unfold v16
        exact .xport .refl (by decide)
      clear_value v16 v17
      have h20 : Goes [.csr, .mem, .poison, .out, .hostq, .xport] s v18
      · unfold v18
        refine .ite ?_ ?_
        · refine .step ?_ sendControl_goes (by decide)
          with_reducible assumption
        · refine .step ?_ sendControl_goes (by decide)
          with_reducible assumption
      clear_value v18
      refine .ite ?_ ?_
      · exact .mk (.step .refl stepRefuse_goes (by decide))
      · refine .mk (.step ?_ stepEnd_goes (by decide))
        with_reducible assumption

theorem chunkHeld_goes {s j chunk} : Goes [.csr, .mem, .poison, .out, .intc, .myk, .xport] s (State.chunkHeld s j chunk) := by
  unfold State.chunkHeld
  extract_lets v1
  clear_value v1
  exact .step (.step .refl putRec_goes (by decide)) progress_goes (by decide)

theorem issueNotice_goes {s j n} :
    Goes [.csr, .mem, .poison, .out, .freeCtr, .intc, .myk, .stch, .xport, .fab, .grp] s (State.issueNotice s j n) := by
  unfold State.issueNotice
  extract_lets v1 v2 v3 v4 v5
  clear_value v1 v2 v3
  have h6 : Goes [.csr, .mem, .poison, .out, .freeCtr, .intc, .myk, .stch, .xport, .fab, .grp] s v4
  · unfold v4
    exact .step (.step (.stch .refl (by decide)) noticeRing_goes (by decide)) report_goes (by decide)
  clear_value v4
  have h7 : Goes [.csr, .mem, .poison, .out, .freeCtr, .intc, .myk, .stch, .xport, .fab, .grp] s v5
  · unfold v5
    refine .foldl ?_ (fun x8 y9 h10 => ?_)
    · with_reducible assumption
    · refine .step ?_ sendControl_goes (by decide)
      with_reducible assumption
  clear_value v5
  refine .step (.step ?_ mirrorOther_goes (by decide)) noticeToStep_goes (by decide)
  with_reducible assumption

theorem execStepFrog_goes {w s} :
    GoesNext [.csr, .mem, .poison, .out, .freeCtr, .intc, .myk, .hostq, .stch, .xport, .fab, .grp] s (execStepFrog w s) := by
  unfold execStepFrog
  extract_lets v1
  clear_value v1
  split
  · rename_i n2 n3 n4
    exact .mk (.step .refl stepRefuse_goes (by decide))
  · rename_i n5 n6 n7
    extract_lets v8 v9
    clear_value v8 v9
    refine .ite ?_ ?_
    · exact .mk (.step .refl stepRefuse_goes (by decide))
    · refine .ite ?_ ?_
      · exact .mk (.step .refl stepRefuse_goes (by decide))
      · refine .mk (.step (.step (.step ?_ launchFrog_goes (by decide)) mirrorOther_goes (by decide)) stepEnd_goes (by decide))
        exact .refl

theorem execStepStalled_goes {j s} : GoesNext [.csr, .mem, .poison, .out, .intc, .myk, .xport] s (execStepStalled j s) := by
  unfold execStepStalled
  extract_lets v1
  clear_value v1
  refine .ite ?_ ?_
  · exact .mk .refl
  · exact .mk (.step .refl stall_goes (by decide))

theorem cleanMark_goes {s j chunk} : Goes [.csr, .mem, .poison, .out, .intc, .myk, .xport] s (State.cleanMark s j chunk) := by
  unfold State.cleanMark
  extract_lets v1 v2 v3
  clear_value v1
  have h4 : Goes [.csr, .mem, .poison, .out, .intc, .myk, .xport] s v2
  · unfold v2
    exact .step (.step .refl putRec_goes (by decide)) progress_goes (by decide)
  clear_value v2 v3
  refine .ite ?_ ?_
  · refine .step ?_ updateBarrier_goes (by decide)
    with_reducible assumption
  · with_reducible assumption

theorem localUpdateFault_goes {s j reason} :
    Goes [.csr, .mem, .poison, .out, .intc, .myk, .xport] s (State.localUpdateFault s j reason) := by
  unfold State.localUpdateFault
  extract_lets v1
  clear_value v1
  refine .ite ?_ ?_
  · exact .refl
  · refine .ite ?_ ?_
    · split
      rename_i n2 n3 n4 n5
      have h6 : Goes [.csr, .mem, .poison, .out, .intc, .myk, .xport] s n4
      · exact GoesSnd.of n5 (.step .refl stepReason_goes (by decide))
      refine .step ?_ enter_goes (by decide)
      with_reducible assumption
    · exact .step .refl unrecoverable_goes (by decide)

/-! ## Stitch -/

theorem nextStchVector_goes {s c} : Goes [.stch] s (State.nextStchVector s c) := by
  unfold State.nextStchVector
  extract_lets v1 v2
  clear_value v1 v2
  exact .stch .refl (by decide)

theorem releaseSlot_goes {s x} : Goes [.csr, .stch] s (State.releaseSlot s x) := by
  unfold State.releaseSlot
  extract_lets v1 v2 v3 v4
  clear_value v1 v2
  have h5 : Goes [.csr, .stch] s v3
  · unfold v3
    exact .stch .refl (by decide)
  clear_value v3 v4
  refine .step (.step ?_ set_goes (by decide)) set_goes (by decide)
  with_reducible assumption

theorem ackTerms_goes {s j x} : Goes [.mem, .poison, .xport, .grp] s (State.ackTerms s j x) := by
  unfold State.ackTerms
  refine .foldl ?_ (fun x1 y2 h3 => ?_)
  · exact .refl
  · refine .step ?_ ackChunk_goes (by decide)
    with_reducible assumption

theorem sendClean_goes {s xs} : Goes [.csr, .mem, .poison, .out, .intc, .myk, .xport, .grp] s (State.sendClean s xs) := by
  unfold State.sendClean
  refine .foldl ?_ (fun x1 y2 h3 => ?_)
  · exact .refl
  · extract_lets v4 v5
    clear_value v4 v5
    split
    · rename_i n6 n7
      with_reducible assumption
    · rename_i n8 n9 n10
      extract_lets v11 v12
      have h13 : Goes [.csr, .mem, .poison, .out, .intc, .myk, .xport, .grp] s v11
      · unfold v11
        refine .foldl ?_ (fun x14 y15 h16 => ?_)
        · with_reducible assumption
        · refine .step ?_ sendControl_goes (by decide)
          with_reducible assumption
      clear_value v11
      have h17 : Goes [.csr, .mem, .poison, .out, .intc, .myk, .xport, .grp] s v12
      · unfold v12
        refine .foldl ?_ (fun x18 y19 h20 => ?_)
        · with_reducible assumption
        · refine .step ?_ ackTerms_goes (by decide)
          with_reducible assumption
      clear_value v12
      refine .foldl ?_ (fun x21 y22 h23 => ?_)
      · with_reducible assumption
      · refine .ite ?_ ?_
        · refine .step ?_ cleanMark_goes (by decide)
          with_reducible assumption
        · with_reducible assumption

theorem stchPass_goes {s c} : Goes [.csr, .mem, .poison, .out, .intc, .myk, .stch, .xport, .grp] s (State.stchPass s c) := by
  unfold State.stchPass
  extract_lets v1 v2
  have h3 : Goes [.csr, .mem, .poison, .out, .intc, .myk, .stch, .xport, .grp] s v1
  · unfold v1
    exact .step .refl addWrap_goes (by decide)
  clear_value v1 v2
  refine .foldl ?_ (fun x4 y5 h6 => ?_)
  · refine .step ?_ sendClean_goes (by decide)
    with_reducible assumption
  · refine .step ?_ releaseSlot_goes (by decide)
    with_reducible assumption

theorem stchQuarantine_goes {s c} : GoesFst [.csr] s (State.stchQuarantine s c) := by
  unfold State.stchQuarantine
  extract_lets v1
  clear_value v1
  split
  rename_i n2 n3 n4 n5
  extract_lets v6 v7 v8
  have h9 : Goes [.csr] s v6
  · unfold v6
    exact .step .refl markQuarantined_goes (by decide)
  clear_value v6
  have h10 : Goes [.csr] s v7
  · unfold v7
    refine .ite ?_ ?_
    · refine .step (.step ?_ set_goes (by decide)) set_goes (by decide)
      with_reducible assumption
    · refine .step ?_ set_goes (by decide)
      with_reducible assumption
  clear_value v7 v8
  refine .ite ?_ ?_
  · refine .mk (.step (.step (.step ?_ set_goes (by decide)) set_goes (by decide)) set_goes (by decide))
    with_reducible assumption
  · refine .mk (.step ?_ set_goes (by decide))
    with_reducible assumption

theorem stchCap_goes {s} : Goes [.csr] s (State.stchCap s) := by
  unfold State.stchCap
  extract_lets v1
  clear_value v1
  exact .step (.step .refl set_goes (by decide)) set_goes (by decide)

theorem putSlot_goes {s x} : Goes [.csr, .stch] s (State.putSlot s x) := by
  unfold State.putSlot
  extract_lets v1 v2 v3 v4
  clear_value v1 v2
  have h5 : Goes [.csr, .stch] s v3
  · unfold v3
    exact .stch .refl (by decide)
  clear_value v3 v4
  refine .step (.step (.step ?_ set_goes (by decide)) set_goes (by decide)) set_goes (by decide)
  with_reducible assumption

theorem restartSlot_goes {s onSpare x} :
    Goes [.csr, .mem, .poison, .out, .intc, .myk, .stch] s (State.restartSlot s onSpare x) := by
  unfold State.restartSlot
  extract_lets v1 v2 v3 v4
  clear_value v1 v2
  have h5 : Goes [.csr, .mem, .poison, .out, .intc, .myk, .stch] s v3
  · unfold v3
    exact .step .refl putSlot_goes (by decide)
  clear_value v3 v4
  refine .ite ?_ ?_
  · refine .step ?_ engineWrite_goes (by decide)
    with_reducible assumption
  · with_reducible assumption

theorem noticeChunks_goes {s j n chunks} :
    Goes [.csr, .mem, .poison, .out, .freeCtr, .intc, .myk, .stch, .xport, .fab, .grp] s (State.noticeChunks s j n chunks) := by
  unfold State.noticeChunks
  extract_lets v1 v2
  clear_value v1 v2
  refine .ite ?_ ?_
  · exact .step .refl issueNotice_goes (by decide)
  · refine .foldl ?_ (fun x3 y4 h5 => ?_)
    · exact .refl
    · refine .step ?_ issueNotice_goes (by decide)
      with_reducible assumption

theorem stchContain_goes {s c reason load f w} :
    Goes [.csr, .mem, .poison, .out, .freeCtr, .intc, .myk, .hlth, .stch, .xport, .fab,
      .grp] s (State.stchContain s c reason load f w) := by
  unfold State.stchContain
  extract_lets v1
  clear_value v1
  split
  rename_i n2 n3 n4 n5
  extract_lets v6
  clear_value v6
  split
  rename_i n7 n8 n9 n10
  have h11 : Goes [.csr, .mem, .poison, .out, .freeCtr, .intc, .myk, .hlth, .stch, .xport, .fab, .grp] s n8
  · exact GoesFst.of n10 (.step .refl stchQuarantine_goes (by decide))
  extract_lets v12 v13 v14 v15 v16
  have h17 : Goes [.csr, .mem, .poison, .out, .freeCtr, .intc, .myk, .hlth, .stch, .xport, .fab, .grp] s v12
  · unfold v12
    refine .step (.step ?_ stchCap_goes (by decide)) quarantineCount_goes (by decide)
    with_reducible assumption
  clear_value v12
  have h18 : Goes [.csr, .mem, .poison, .out, .freeCtr, .intc, .myk, .hlth, .stch, .xport, .fab, .grp] s v13
  · unfold v13
    refine .step ?_ health_goes (by decide)
    with_reducible assumption
  clear_value v13
  have h19 : Goes [.csr, .mem, .poison, .out, .freeCtr, .intc, .myk, .hlth, .stch, .xport, .fab, .grp] s v14
  · unfold v14
    refine .ite ?_ ?_
    · refine .step (.step ?_ report_goes (by decide)) raise_goes (by decide)
      with_reducible assumption
    · refine .step (.step (.step ?_ report_goes (by decide)) raise_goes (by decide)) capChange_goes (by decide)
      with_reducible assumption
  clear_value v14
  have h20 : Goes [.csr, .mem, .poison, .out, .freeCtr, .intc, .myk, .hlth, .stch, .xport, .fab, .grp] s v15
  · unfold v15
    refine .foldl ?_ (fun x21 y22 h23 => ?_)
    · with_reducible assumption
    · refine .step ?_ restartSlot_goes (by decide)
      with_reducible assumption
  clear_value v15 v16
  refine .foldl ?_ (fun x24 y25 h26 => ?_)
  · with_reducible assumption
  · extract_lets v27
    clear_value v27
    split
    · rename_i n28 n29
      with_reducible assumption
    · rename_i n30 n31 n32
      refine .step ?_ noticeChunks_goes (by decide)
      with_reducible assumption

theorem stchClusterFault_goes {s c reason f w} :
    Goes [.csr, .mem, .poison, .out, .freeCtr, .intc, .myk, .hlth, .stch, .xport, .fab,
      .grp] s (State.stchClusterFault s c reason f w) := by
  unfold State.stchClusterFault
  extract_lets v1 v2
  have h3 : Goes [.csr, .mem, .poison, .out, .freeCtr, .intc, .myk, .hlth, .stch, .xport, .fab, .grp] s v1
  · unfold v1
    refine .step (.step (.step ?_ set_goes (by decide)) set_goes (by decide)) report_goes (by decide)
    refine .step (.step (.step (.step ?_ set_goes (by decide)) set_goes (by decide)) set_goes (by decide)) set_goes (by decide)
    exact .step .refl set_goes (by decide)
  clear_value v1
  have h4 : Goes [.csr, .mem, .poison, .out, .freeCtr, .intc, .myk, .hlth, .stch, .xport, .fab, .grp] s v2
  · unfold v2
    refine .ite ?_ ?_
    · refine .step (.step ?_ addSat_goes (by decide)) raise_goes (by decide)
      with_reducible assumption
    · refine .step (.step ?_ addSat_goes (by decide)) raise_goes (by decide)
      with_reducible assumption
  clear_value v2
  split
  rename_i n5 n6 n7 n8
  extract_lets v9 v10 v11
  have h12 : Goes [.csr, .mem, .poison, .out, .freeCtr, .intc, .myk, .hlth, .stch, .xport, .fab, .grp] s v9
  · unfold v9
    refine .step (.step (.step ?_ set_goes (by decide)) set_goes (by decide)) set_goes (by decide)
    with_reducible assumption
  clear_value v9 v10
  have h13 : Goes [.csr, .mem, .poison, .out, .freeCtr, .intc, .myk, .hlth, .stch, .xport, .fab, .grp] s v11
  · unfold v11
    refine .step (.snd (.step ?_ fresh_goes (by decide))) set_goes (by decide)
    with_reducible assumption
  clear_value v11
  refine .step ?_ stchContain_goes (by decide)
  with_reducible assumption

theorem stchVector_goes {s c fail} :
    Goes [.csr, .mem, .poison, .out, .freeCtr, .intc, .myk, .hlth, .stch, .xport, .fab, .grp] s (State.stchVector s c fail) := by
  unfold State.stchVector
  extract_lets v1
  have h2 : Goes [.csr, .mem, .poison, .out, .freeCtr, .intc, .myk, .hlth, .stch, .xport, .fab, .grp] s v1
  · unfold v1
    exact .step .refl nextStchVector_goes (by decide)
  clear_value v1
  split
  · rename_i n3
    refine .step ?_ stchPass_goes (by decide)
    with_reducible assumption
  · rename_i n4 n5
    refine .step ?_ stchClusterFault_goes (by decide)
    with_reducible assumption

theorem execStchClusterSwatch_goes {c fail s} :
    GoesNext [.csr, .mem, .poison, .out, .freeCtr, .intc, .myk, .hlth, .stch, .xport, .fab,
      .grp] s (execStchClusterSwatch c fail s) := by
  unfold execStchClusterSwatch
  refine .ite ?_ ?_
  · exact .mk (.step .refl stchVector_goes (by decide))
  · exact .mk .refl

theorem stchPoisoned_goes {s w reason} : Goes [.csr, .hostq] s (State.stchPoisoned s w reason) := by
  unfold State.stchPoisoned
  exact .step .refl finish_goes (by decide)

theorem stchDone_goes {s w t flushIn slotDone warn} :
    Goes [.csr, .mem, .poison, .out, .intc, .myk, .hostq] s (State.stchDone s w t flushIn slotDone warn) := by
  unfold State.stchDone
  extract_lets v1 v2
  clear_value v1
  have h3 : Goes [.csr, .mem, .poison, .out, .intc, .myk, .hostq] s v2
  · unfold v2
    refine .ite ?_ ?_
    · exact .refl
    · exact .step .refl engineWrite_goes (by decide)
  clear_value v2
  refine .step ?_ finish_goes (by decide)
  with_reducible assumption

theorem acceptTerm_goes {s w x warn} :
    Goes [.csr, .mem, .poison, .out, .freeCtr, .intc, .myk, .hostq, .stch, .xport, .fab, .grp] s (State.acceptTerm s w x warn) := by
  unfold State.acceptTerm
  extract_lets v1 v2 v3 v4 v5 v6 v7 v8 v9 v10 v11 v12 v13 v14 v15 v16 v17 v18
  clear_value v1 v2
  have h19 : Goes [.csr, .mem, .poison, .out, .freeCtr, .intc, .myk, .hostq, .stch, .xport, .fab, .grp] s v3
  · unfold v3
    exact .step .refl memEvent_goes (by decide)
  clear_value v3 v4
  have h20 : Goes [.csr, .mem, .poison, .out, .freeCtr, .intc, .myk, .hostq, .stch, .xport, .fab, .grp] s v5
  · unfold v5
    refine .ite ?_ ?_
    · with_reducible assumption
    · refine .step ?_ mirrorChunk_goes (by decide)
      with_reducible assumption
  clear_value v5
  have h21 : Goes [.csr, .mem, .poison, .out, .freeCtr, .intc, .myk, .hostq, .stch, .xport, .fab, .grp] s v6
  · unfold v6
    split
    · rename_i n22
      with_reducible assumption
    · rename_i n23 n24
      refine .step (.step ?_ addWrap_goes (by decide)) pmonEdge_goes (by decide)
      with_reducible assumption
  clear_value v6 v7 v8 v9 v10
  have h25 : Goes [.csr, .mem, .poison, .out, .freeCtr, .intc, .myk, .hostq, .stch, .xport, .fab, .grp] s v11
  · unfold v11
    refine .step ?_ putSlot_goes (by decide)
    with_reducible assumption
  clear_value v11 v12 v13 v14 v15
  have h26 : Goes [.csr, .mem, .poison, .out, .freeCtr, .intc, .myk, .hostq, .stch, .xport, .fab, .grp] s v16
  · unfold v16
    refine .step ?_ engineWrite_goes (by decide)
    with_reducible assumption
  clear_value v16
  have h27 : Goes [.csr, .mem, .poison, .out, .freeCtr, .intc, .myk, .hostq, .stch, .xport, .fab, .grp] s v17
  · unfold v17
    split
    · rename_i n28 n29
      with_reducible assumption
    · rename_i n30 n31 n32
      extract_lets v33
      clear_value v33
      refine .ite ?_ ?_
      · refine .step (.step ?_ putRec_goes (by decide)) chunkHeld_goes (by decide)
        with_reducible assumption
      · with_reducible assumption
  clear_value v17 v18
  refine .ite ?_ ?_
  · refine .step ?_ stchDone_goes (by decide)
    with_reducible assumption
  · refine .step (.step ?_ putSlot_goes (by decide)) stchDone_goes (by decide)
    with_reducible assumption

theorem termAtSlot_goes {s w fault rerun x warn} :
    Goes [.csr, .mem, .poison, .out, .freeCtr, .intc, .myk, .hostq, .hlth, .stch, .xport, .fab, .grp,
      .rerun] s (State.termAtSlot s w fault rerun x warn) := by
  unfold State.termAtSlot
  refine .ite ?_ ?_
  · refine .step (.step (.step ?_ addSat_goes (by decide)) report_goes (by decide)) stchPoisoned_goes (by decide)
    exact .step (.step .refl putSlot_goes (by decide)) set_goes (by decide)
  · split
    · rename_i n1
      exact .step .refl acceptTerm_goes (by decide)
    · rename_i n2 n3
      extract_lets v4 v5
      have h6 : Goes [.csr, .mem, .poison, .out, .freeCtr, .intc, .myk, .hostq, .hlth, .stch, .xport, .fab, .grp, .rerun] s v4
      · unfold v4
        exact .step (.step .refl putSlot_goes (by decide)) stchClusterFault_goes (by decide)
      clear_value v4
      have h7 : Goes [.csr, .mem, .poison, .out, .freeCtr, .intc, .myk, .hostq, .hlth, .stch, .xport, .fab, .grp, .rerun] s v5
      · unfold v5
        refine .step ?_ stchPoisoned_goes (by decide)
        with_reducible assumption
      clear_value v5
      refine .ite ?_ ?_
      · refine .rerun ?_ (by decide)
        with_reducible assumption
      · split
        · rename_i n8 n9
          with_reducible assumption
        · rename_i n10 n11 n12
          refine .step ?_ unrecoverable_goes (by decide)
          with_reducible assumption

theorem stchWarn_goes {s w reason} : Goes [.csr, .mem, .poison, .out, .intc, .myk, .hostq] s (State.stchWarn s w reason) := by
  unfold State.stchWarn
  exact .step (.step .refl report_goes (by decide)) stchDone_goes (by decide)

theorem stchRefuse_goes {s w reason} : Goes [.csr, .hostq] s (State.stchRefuse s w reason) := by
  unfold State.stchRefuse
  exact .step (.step (.step .refl set_goes (by decide)) set_goes (by decide)) finishError_goes (by decide)

theorem placeTerm_goes {s w fault rerun} :
    Goes [.csr, .mem, .poison, .out, .freeCtr, .intc, .myk, .hostq, .hlth, .stch, .xport, .fab, .grp,
      .rerun] s (State.placeTerm s w fault rerun) := by
  unfold State.placeTerm
  extract_lets v1 v2 v3 v4
  clear_value v1 v2
  split
  · rename_i n5 n6
    unfold v4
    split
    · rename_i n7 n8
      unfold v3
      extract_lets v9
      clear_value v9
      exact .stch .refl (by decide)
    · rename_i n10 n11 n12
      exact .step .refl termAtSlot_goes (by decide)
  · rename_i n13 n14 n15
    extract_lets v16
    clear_value v16
    refine .ite ?_ ?_
    · refine .ite ?_ ?_
      · exact .step .refl stchWarn_goes (by decide)
      · unfold v3
        extract_lets v17
        clear_value v17
        exact .stch .refl (by decide)
    · refine .ite ?_ ?_
      · exact .step (.step .refl report_goes (by decide)) stchRefuse_goes (by decide)
      · refine .ite ?_ ?_
        · unfold v4
          split
          · rename_i n18 n19
            unfold v3
            extract_lets v20
            clear_value v20
            exact .stch (.step (.step .refl releaseSlot_goes (by decide)) report_goes (by decide)) (by decide)
          · rename_i n21 n22 n23
            exact .step (.step (.step .refl releaseSlot_goes (by decide)) report_goes (by decide)) termAtSlot_goes (by decide)
        · refine .ite ?_ ?_
          · exact .step .refl stchWarn_goes (by decide)
          · refine .ite ?_ ?_
            · exact .step .refl stchWarn_goes (by decide)
            · exact .step .refl termAtSlot_goes (by decide)

theorem execStchHeldTermRelease_goes {slot fault s} :
    GoesNext [.csr, .mem, .poison, .out, .freeCtr, .intc, .myk, .hostq, .hlth, .stch, .xport, .fab, .grp,
      .rerun] s (execStchHeldTermRelease slot fault s) := by
  unfold execStchHeldTermRelease
  extract_lets v1
  clear_value v1
  split
  · rename_i n2 n3
    exact .mk .refl
  · rename_i n4 n5 n6
    refine .ite ?_ ?_
    · exact .mk .refl
    · exact .mk (.step (.stch .refl (by decide)) placeTerm_goes (by decide))

theorem stchSubst_goes {s c} :
    GoesOk [.csr, .mem, .poison, .out, .freeCtr, .intc, .myk, .hlth, .stch, .xport, .fab, .grp] s (State.stchSubst s c) := by
  unfold State.stchSubst
  refine .ite ?_ ?_
  · exact .error
  · exact .mk (.step .refl stchClusterFault_goes (by decide))

theorem stchRequal_goes {s c pass} : Goes [.csr, .out] s (State.stchRequal s c pass) := by
  unfold State.stchRequal
  extract_lets v1
  have h2 : Goes [.csr, .out] s v1
  · unfold v1
    exact .step .refl markQuarantined_goes (by decide)
  clear_value v1
  split
  rename_i n3 n4 n5 n6
  extract_lets v7 v8
  have h9 : Goes [.csr, .out] s v7
  · unfold v7
    refine .step ?_ set_goes (by decide)
    with_reducible assumption
  clear_value v7
  have h10 : Goes [.csr, .out] s v8
  · unfold v8
    refine .ite ?_ ?_
    · refine .step ?_ set_goes (by decide)
      with_reducible assumption
    · with_reducible assumption
  clear_value v8
  refine .ite ?_ ?_
  · exact .refl
  · refine .ite ?_ ?_
    · exact .step .refl report_goes (by decide)
    · refine .ite ?_ ?_
      · exact .step (.step (.step .refl set_goes (by decide)) set_goes (by decide)) report_goes (by decide)
      · refine .step ?_ set_goes (by decide)
        with_reducible assumption

theorem execStchPoison_goes {w s} :
    GoesNext [.csr, .mem, .poison, .out, .freeCtr, .intc, .myk, .hostq, .stch, .xport, .fab, .grp] s (execStchPoison w s) := by
  unfold execStchPoison
  refine .ite ?_ ?_
  · exact .mk (.step .refl stchRefuse_goes (by decide))
  · refine .ite ?_ ?_
    · exact .mk (.step .refl stchRefuse_goes (by decide))
    · split
      · rename_i n1 n2
        exact .mk (.step .refl stchRefuse_goes (by decide))
      · rename_i n3 n4 n5
        exact .mk (.step (.step .refl issueNotice_goes (by decide)) stchDone_goes (by decide))

theorem execStchSwatch_goes {w fail s} :
    GoesNext [.csr, .mem, .poison, .out, .freeCtr, .intc, .myk, .hostq, .hlth, .stch, .xport, .fab,
      .grp] s (execStchSwatch w fail s) := by
  unfold execStchSwatch
  extract_lets v1 v2
  clear_value v1
  have h3 : Goes [.csr, .mem, .poison, .out, .freeCtr, .intc, .myk, .hostq, .hlth, .stch, .xport, .fab, .grp] s v2
  · unfold v2
    exact .step .refl stchVector_goes (by decide)
  clear_value v2
  refine .ite ?_ ?_
  · exact .mk (.step .refl stchRefuse_goes (by decide))
  · refine .ite ?_ ?_
    · exact .mk (.step .refl stchRefuse_goes (by decide))
    · refine .ite ?_ ?_
      · exact .mk (.step .refl stchRefuse_goes (by decide))
      · split
        · rename_i n4
          refine .mk (.step ?_ stchDone_goes (by decide))
          with_reducible assumption
        · rename_i n5 n6
          refine .mk (.step ?_ finishError_goes (by decide))
          with_reducible assumption

theorem execAccumulate_goes {w fault s} :
    GoesNext [.csr, .mem, .poison, .out, .freeCtr, .intc, .myk, .hostq, .hlth, .stch, .xport, .fab, .grp,
      .rerun] s (execAccumulate w fault s) := by
  unfold execAccumulate
  split
  · rename_i n1 n2 n3
    refine .mk (.step (.ite ?_ ?_) stchRefuse_goes (by decide))
    · exact .step .refl logAccess_goes (by decide)
    · exact .refl
  · rename_i n4 n5
    exact .mk (.step .refl placeTerm_goes (by decide))

theorem stchSubstRefused_goes {s c} : Goes [.csr] s (State.stchSubstRefused s c) := by
  unfold State.stchSubstRefused
  exact .step (.step .refl set_goes (by decide)) set_goes (by decide)

theorem execPoisonReceived_goes {j site s} :
    GoesNext [.csr, .mem, .poison, .out, .freeCtr, .intc, .myk, .stch, .xport, .fab, .grp] s (execPoisonReceived j site s) := by
  unfold execPoisonReceived
  split
  · rename_i n1 n2
    exact .mk .refl
  · rename_i n3 n4 n5 n6
    have h7 : Goes [.csr, .mem, .poison, .out, .freeCtr, .intc, .myk, .stch, .xport, .fab, .grp] s n5
    · exact GoesSome.of n6 (.step .refl takeMail_goes (by decide))
    extract_lets v8 v9 v10 v11
    clear_value v8 v9 v10
    have h12 : Goes [.csr, .mem, .poison, .out, .freeCtr, .intc, .myk, .stch, .xport, .fab, .grp] s v11
    · unfold v11
      refine .step ?_ addSat_goes (by decide)
      with_reducible assumption
    clear_value v11
    refine .ite ?_ ?_
    · refine .mk ?_
      with_reducible assumption
    · refine .ite ?_ ?_
      · refine .mk ?_
        with_reducible assumption
      · refine .mk (.step (.step (.step ?_ report_goes (by decide)) mirrorOther_goes (by decide)) noticeToStep_goes (by decide))
        refine .step ?_ noticeRing_goes (by decide)
        with_reducible assumption

/-! ## Bed -/

theorem dropChained_goes {s w} : Goes [.bed] s (State.dropChained s w) := by
  unfold State.dropChained
  extract_lets v1
  clear_value v1
  split
  · rename_i n2 n3
    exact .refl
  · rename_i n4 n5 n6
    exact .bed .refl (by decide)

theorem bedCap_goes {s} : Goes [.csr] s (State.bedCap s) := by
  unfold State.bedCap
  extract_lets v1
  have h2 : Goes [.csr] s v1
  · unfold v1
    exact .step (.step .refl set_goes (by decide)) set_goes (by decide)
  clear_value v1
  refine .step (.step ?_ set_goes (by decide)) set_goes (by decide)
  with_reducible assumption

theorem bedBoundary_goes {s} : Goes [.csr, .out, .intc, .bed] s (State.bedBoundary s) := by
  unfold State.bedBoundary
  extract_lets v1 v2
  clear_value v1
  have h3 : Goes [.csr, .out, .intc, .bed] s v2
  · unfold v2
    exact .bed .refl (by decide)
  clear_value v2
  split
  · rename_i n4 n5
    exact .refl
  · rename_i n6 n7 n8 n9
    refine .ite ?_ ?_
    · refine .step ?_ set_goes (by decide)
      with_reducible assumption
    · refine .step (.step (.step ?_ bedCap_goes (by decide)) report_goes (by decide)) raise_goes (by decide)
      refine .step (.step ?_ set_goes (by decide)) set_goes (by decide)
      with_reducible assumption

theorem bedRefuse_goes {s w reason} :
    Goes [.csr, .mem, .poison, .out, .intc, .myk, .hostq, .bed] s (State.bedRefuse s w reason) := by
  unfold State.bedRefuse
  extract_lets v1
  have h2 : Goes [.csr, .mem, .poison, .out, .intc, .myk, .hostq, .bed] s v1
  · unfold v1
    refine .ite ?_ ?_
    · exact .step .refl logAccess_goes (by decide)
    · exact .refl
  clear_value v1
  refine .step (.step ?_ dropChained_goes (by decide)) finishError_goes (by decide)
  with_reducible assumption

theorem bedPoison_goes {s w run reason again} :
    Goes [.csr, .poison, .hostq, .bed, .rerun] s (State.bedPoison s w run reason again) := by
  unfold State.bedPoison
  extract_lets v1 v2 v3
  clear_value v1 v2
  have h4 : Goes [.csr, .poison, .hostq, .bed, .rerun] s v3
  · unfold v3
    refine .foldl ?_ (fun x5 y6 h7 => ?_)
    · exact .refl
    · refine .step ?_ poisonBytes_goes (by decide)
      with_reducible assumption
  clear_value v3
  refine .ite ?_ ?_
  · refine .rerun ?_ (by decide)
    with_reducible assumption
  · refine .step (.step ?_ dropChained_goes (by decide)) finish_goes (by decide)
    with_reducible assumption

theorem bedLog_goes {s reason group col queue} : Goes [.csr, .freeCtr] s (State.bedLog s reason group col queue) := by
  unfold State.bedLog
  extract_lets v1 v2 v3
  have h4 : Goes [.csr, .freeCtr] s v1
  · unfold v1
    refine .step (.step (.step (.step ?_ set_goes (by decide)) set_goes (by decide)) set_goes (by decide)) set_goes (by decide)
    exact .step .refl set_goes (by decide)
  clear_value v1 v2
  have h5 : Goes [.csr, .freeCtr] s v3
  · unfold v3
    refine .step (.step (.step (.snd ?_) set_goes (by decide)) set_goes (by decide)) set_goes (by decide)
    refine .step ?_ fresh_goes (by decide)
    with_reducible assumption
  clear_value v3
  refine .step ?_ set_goes (by decide)
  with_reducible assumption

theorem groupFault_goes {s reason g col w} :
    Goes [.csr, .mem, .poison, .out, .freeCtr, .intc, .myk, .hlth] s (State.groupFault s reason g col w) := by
  unfold State.groupFault
  extract_lets v1 v2
  have h3 : Goes [.csr, .mem, .poison, .out, .freeCtr, .intc, .myk, .hlth] s v1
  · unfold v1
    exact .step .refl quarantineCount_goes (by decide)
  clear_value v1
  split
  · rename_i n4 n5
    refine .ite ?_ ?_
    · refine .step (.step (.step ?_ report_goes (by decide)) raise_goes (by decide)) capChange_goes (by decide)
      refine .step (.step (.step ?_ set_goes (by decide)) bedCap_goes (by decide)) health_goes (by decide)
      refine .step ?_ markQuarantined_goes (by decide)
      with_reducible assumption
    · refine .step (.step (.step ?_ health_goes (by decide)) report_goes (by decide)) raise_goes (by decide)
      refine .step (.step (.step ?_ set_goes (by decide)) set_goes (by decide)) bedCap_goes (by decide)
      with_reducible assumption
  · rename_i n6
    refine .step (.step (.step ?_ report_goes (by decide)) raise_goes (by decide)) capChange_goes (by decide)
    refine .step (.step (.step ?_ set_goes (by decide)) bedCap_goes (by decide)) health_goes (by decide)
    refine .step ?_ markQuarantined_goes (by decide)
    with_reducible assumption

theorem bedMismatch_goes {s w f} :
    Goes [.csr, .mem, .poison, .out, .freeCtr, .intc, .myk, .hlth] s (State.bedMismatch s w f) := by
  unfold State.bedMismatch
  extract_lets v1 v2
  clear_value v1
  have h3 : Goes [.csr, .mem, .poison, .out, .freeCtr, .intc, .myk, .hlth] s v2
  · unfold v2
    exact .step (.step .refl addSat_goes (by decide)) addSat_goes (by decide)
  clear_value v2
  split
  · rename_i n4 n5
    refine .step (.step (.step ?_ addSat_goes (by decide)) report_goes (by decide)) raise_goes (by decide)
    refine .step ?_ bedLog_goes (by decide)
    with_reducible assumption
  · rename_i n6 n7 n8
    refine .step (.step (.step ?_ report_goes (by decide)) raise_goes (by decide)) groupFault_goes (by decide)
    refine .step ?_ bedLog_goes (by decide)
    with_reducible assumption
  · rename_i n9 n10
    refine .step (.step (.step ?_ report_goes (by decide)) raise_goes (by decide)) groupFault_goes (by decide)
    refine .step ?_ bedLog_goes (by decide)
    with_reducible assumption
  · rename_i n11 n12 n13
    refine .step (.step (.step ?_ raise_goes (by decide)) raise_goes (by decide)) groupFault_goes (by decide)
    refine .step (.step (.step ?_ bedLog_goes (by decide)) report_goes (by decide)) addSat_goes (by decide)
    with_reducible assumption

theorem suspect_goes {s w} : Goes [.bed] s (State.suspect s w) := by
  unfold State.suspect
  extract_lets v1
  clear_value v1
  split
  · rename_i n2 n3
    exact .refl
  · rename_i n4 n5 n6
    exact .bed .refl (by decide)

theorem bedDone_goes {s w run warn} :
    Goes [.csr, .mem, .poison, .out, .intc, .myk, .hostq, .bed] s (State.bedDone s w run warn) := by
  unfold State.bedDone
  extract_lets v1 v2 v3 v4 v5 v6 v7 v8 v9 v10
  clear_value v1
  have h11 : Goes [.csr, .mem, .poison, .out, .intc, .myk, .hostq, .bed] s v2
  · unfold v2
    exact .step .refl readEvents_goes (by decide)
  clear_value v2
  have h12 : Goes [.csr, .mem, .poison, .out, .intc, .myk, .hostq, .bed] s v3
  · unfold v3
    refine .step ?_ dropChained_goes (by decide)
    with_reducible assumption
  clear_value v3
  have h13 : Goes [.csr, .mem, .poison, .out, .intc, .myk, .hostq, .bed] s v4
  · unfold v4
    refine .foldl ?_ (fun x14 y15 h16 => ?_)
    · with_reducible assumption
    · refine .step ?_ engineWrite_goes (by decide)
      with_reducible assumption
  clear_value v4 v5
  have h17 : Goes [.csr, .mem, .poison, .out, .intc, .myk, .hostq, .bed] s v6
  · unfold v6
    refine .ite ?_ ?_
    · with_reducible assumption
    · refine .step ?_ engineWrite_goes (by decide)
      with_reducible assumption
  clear_value v6
  have h18 : Goes [.csr, .mem, .poison, .out, .intc, .myk, .hostq, .bed] s v7
  · unfold v7
    refine .ite ?_ ?_
    · with_reducible assumption
    · refine .step (.step ?_ addWrap_goes (by decide)) pmonEdge_goes (by decide)
      with_reducible assumption
  clear_value v7 v8
  have h19 : Goes [.csr, .mem, .poison, .out, .intc, .myk, .hostq, .bed] s v9
  · unfold v9
    split
    · rename_i n20 n21
      with_reducible assumption
    · rename_i n22 n23 n24
      extract_lets v25
      clear_value v25
      refine .ite ?_ ?_
      · refine .bed ?_ (by decide)
        with_reducible assumption
      · with_reducible assumption
  clear_value v9 v10
  refine .step (.step ?_ suspect_goes (by decide)) finish_goes (by decide)
  with_reducible assumption

theorem bedRun_goes {s op w run faults again} :
    Goes [.csr, .mem, .poison, .out, .freeCtr, .intc, .myk, .hostq, .hlth, .bed,
      .rerun] s (State.bedRun s op w run faults again) := by
  unfold State.bedRun
  extract_lets v1 v2 v3 v4 v5 v6
  have h7 : Goes [.csr, .mem, .poison, .out, .freeCtr, .intc, .myk, .hostq, .hlth, .bed, .rerun] s v1
  · unfold v1
    exact .step .refl bedBoundary_goes (by decide)
  clear_value v1 v2 v3
  have h8 : Goes [.csr, .mem, .poison, .out, .freeCtr, .intc, .myk, .hostq, .hlth, .bed, .rerun] s v4
  · unfold v4
    refine .foldl ?_ (fun x9 y10 h11 => ?_)
    · with_reducible assumption
    · refine .step ?_ bedMismatch_goes (by decide)
      with_reducible assumption
  clear_value v4 v5 v6
  split
  · rename_i n12 n13 n14
    refine .step ?_ bedRefuse_goes (by decide)
    with_reducible assumption
  · rename_i n15 n16
    refine .ite ?_ ?_
    · refine .step (.step (.step ?_ addSat_goes (by decide)) report_goes (by decide)) bedPoison_goes (by decide)
      with_reducible assumption
    · refine .ite ?_ ?_
      · refine .step ?_ bedDone_goes (by decide)
        with_reducible assumption
      · refine .step ?_ bedPoison_goes (by decide)
        with_reducible assumption

theorem execOrtho_goes {w faults s} :
    GoesNext [.csr, .mem, .poison, .out, .freeCtr, .intc, .myk, .hostq, .hlth, .bed, .rerun] s (execOrtho w faults s) := by
  unfold execOrtho
  exact .mk (.step .refl bedRun_goes (by decide))

theorem execProject_goes {w faults s} :
    GoesNext [.csr, .mem, .poison, .out, .freeCtr, .intc, .myk, .hostq, .hlth, .bed, .rerun] s (execProject w faults s) := by
  unfold execProject
  exact .mk (.step .refl bedRun_goes (by decide))

theorem bedSuspects_goes {s reason location} :
    Goes [.csr, .mem, .poison, .out, .freeCtr, .intc, .myk, .bed, .stch, .xport, .fab,
      .grp] s (State.bedSuspects s reason location) := by
  unfold State.bedSuspects
  extract_lets v1 v2 v3
  clear_value v1 v2
  have h4 : Goes [.csr, .mem, .poison, .out, .freeCtr, .intc, .myk, .bed, .stch, .xport, .fab, .grp] s v3
  · unfold v3
    exact .bed .refl (by decide)
  clear_value v3
  refine .foldl ?_ (fun x5 y6 h7 => ?_)
  · with_reducible assumption
  · extract_lets v8
    clear_value v8
    split
    · rename_i n9 n10
      with_reducible assumption
    · rename_i n11 n12 n13
      extract_lets v14 v15
      clear_value v14
      have h16 : Goes [.csr, .mem, .poison, .out, .freeCtr, .intc, .myk, .bed, .stch, .xport, .fab, .grp] s v15
      · unfold v15
        split
        · rename_i n17 n18
          with_reducible assumption
        · rename_i n19 n20 n21
          refine .step ?_ issueNotice_goes (by decide)
          with_reducible assumption
      clear_value v15
      refine .ite ?_ ?_
      · refine .step ?_ localUpdateFault_goes (by decide)
        with_reducible assumption
      · with_reducible assumption

theorem bedSwatchFail_goes {s f w} :
    Goes [.csr, .mem, .poison, .out, .freeCtr, .intc, .myk, .pmon, .hlth, .bed, .stch, .xport, .fab, .grp,
      .line] s (State.bedSwatchFail s f w) := by
  unfold State.bedSwatchFail
  extract_lets v1 v2 v3 v4 v5 v6
  clear_value v1
  have h7 : Goes [.csr, .mem, .poison, .out, .freeCtr, .intc, .myk, .pmon, .hlth, .bed, .stch, .xport, .fab, .grp, .line] s v2
  · unfold v2
    exact .step .refl addSat_goes (by decide)
  clear_value v2 v3
  have h8 : Goes [.csr, .mem, .poison, .out, .freeCtr, .intc, .myk, .pmon, .hlth, .bed, .stch, .xport, .fab, .grp, .line] s v4
  · unfold v4
    refine .foldl ?_ (fun x9 y10 h11 => ?_)
    · with_reducible assumption
    · refine .step (.step (.step ?_ report_goes (by decide)) raise_goes (by decide)) groupFault_goes (by decide)
      refine .step ?_ bedLog_goes (by decide)
      with_reducible assumption
  clear_value v4
  have h12 : Goes [.csr, .mem, .poison, .out, .freeCtr, .intc, .myk, .pmon, .hlth, .bed, .stch, .xport, .fab, .grp, .line] s v5
  · unfold v5
    refine .ite ?_ ?_
    · refine .step (.step (.step ?_ raise_goes (by decide)) handOver_goes (by decide)) health_goes (by decide)
      refine .step (.step ?_ set_goes (by decide)) set_goes (by decide)
      with_reducible assumption
    · with_reducible assumption
  clear_value v5
  have h13 : Goes [.csr, .mem, .poison, .out, .freeCtr, .intc, .myk, .pmon, .hlth, .bed, .stch, .xport, .fab, .grp, .line] s v6
  · unfold v6
    refine .ite ?_ ?_
    · with_reducible assumption
    · refine .step ?_ bedSuspects_goes (by decide)
      with_reducible assumption
  clear_value v6
  refine .ite ?_ ?_
  · refine .step ?_ bedSuspects_goes (by decide)
    with_reducible assumption
  · with_reducible assumption

theorem execBedInterleavedSwatch_goes {fail s} :
    GoesNext [.csr, .mem, .poison, .out, .freeCtr, .intc, .myk, .pmon, .hlth, .bed, .stch, .xport, .fab, .grp,
      .line] s (execBedInterleavedSwatch fail s) := by
  unfold execBedInterleavedSwatch
  extract_lets v1 v2 v3
  clear_value v1
  have h4 : Goes [.csr, .mem, .poison, .out, .freeCtr, .intc, .myk, .pmon, .hlth, .bed, .stch, .xport, .fab, .grp, .line] s v2
  · unfold v2
    exact .bed .refl (by decide)
  clear_value v2 v3
  refine .ite ?_ ?_
  · exact .mk .refl
  · refine .ite ?_ ?_
    · refine .mk (.step (.bed ?_ (by decide)) addWrap_goes (by decide))
      with_reducible assumption
    · refine .mk (.step ?_ bedSwatchFail_goes (by decide))
      with_reducible assumption

theorem bedSubst_goes {s g c} : GoesOk [.bed] s (State.bedSubst s g c) := by
  unfold State.bedSubst
  extract_lets v1
  clear_value v1
  refine .ite ?_ ?_
  · exact .error
  · exact .mk (.bed .refl (by decide))

theorem execBedSwatch_goes {w fail s} :
    GoesNext [.csr, .mem, .poison, .out, .freeCtr, .intc, .myk, .hostq, .pmon, .hlth, .bed, .stch, .xport, .fab, .grp,
      .line] s (execBedSwatch w fail s) := by
  unfold execBedSwatch
  extract_lets v1 v2
  have h3 : Goes [.csr, .mem, .poison, .out, .freeCtr, .intc, .myk, .hostq, .pmon, .hlth, .bed, .stch, .xport, .fab, .grp,
        .line] s v1
  · unfold v1
    exact .step .refl bedBoundary_goes (by decide)
  clear_value v1
  have h4 : Goes [.csr, .mem, .poison, .out, .freeCtr, .intc, .myk, .hostq, .pmon, .hlth, .bed, .stch, .xport, .fab, .grp,
        .line] s v2
  · unfold v2
    refine .step ?_ dropChained_goes (by decide)
    with_reducible assumption
  clear_value v2
  split
  · rename_i n5 n6 n7
    refine .mk (.step ?_ bedRefuse_goes (by decide))
    with_reducible assumption
  · rename_i n8 n9
    refine .ite ?_ ?_
    · refine .mk (.step ?_ finish_goes (by decide))
      with_reducible assumption
    · refine .mk (.step (.step ?_ bedSwatchFail_goes (by decide)) finishError_goes (by decide))
      with_reducible assumption

theorem execResidual_goes {w s} :
    GoesNext [.csr, .mem, .poison, .out, .freeCtr, .intc, .myk, .hostq, .hlth, .bed, .rerun] s (execResidual w s) := by
  unfold execResidual
  exact .mk (.step .refl bedRun_goes (by decide))

theorem execBackproject_goes {w faults s} :
    GoesNext [.csr, .mem, .poison, .out, .freeCtr, .intc, .myk, .hostq, .hlth, .bed, .rerun] s (execBackproject w faults s) := by
  unfold execBackproject
  exact .mk (.step .refl bedRun_goes (by decide))

theorem execScale_goes {w s} :
    GoesNext [.csr, .mem, .poison, .out, .freeCtr, .intc, .myk, .hostq, .hlth, .bed, .rerun] s (execScale w s) := by
  unfold execScale
  exact .mk (.step .refl bedRun_goes (by decide))

theorem execBedStallResume_goes {feed handshakes s} : GoesNext [.csr, .bed] s (execBedStallResume feed handshakes s) := by
  unfold execBedStallResume
  extract_lets v1 v2 v3
  clear_value v1 v2 v3
  refine .ite ?_ ?_
  · exact .mk (.step (.bed .refl (by decide)) addSat_goes (by decide))
  · exact .mk (.step (.bed .refl (by decide)) addSat_goes (by decide))

theorem execProjectT_goes {w faults s} :
    GoesNext [.csr, .mem, .poison, .out, .freeCtr, .intc, .myk, .hostq, .hlth, .bed, .rerun] s (execProjectT w faults s) := by
  unfold execProjectT
  exact .mk (.step .refl bedRun_goes (by decide))

theorem execGenerate_goes {w s} :
    GoesNext [.csr, .mem, .poison, .out, .freeCtr, .intc, .myk, .hostq, .hlth, .bed, .rerun] s (execGenerate w s) := by
  unfold execGenerate
  exact .mk (.step .refl bedRun_goes (by decide))

theorem execNesterov_goes {w s} :
    GoesNext [.csr, .mem, .poison, .out, .freeCtr, .intc, .myk, .hostq, .hlth, .bed, .rerun] s (execNesterov w s) := by
  unfold execNesterov
  exact .mk (.step .refl bedRun_goes (by decide))

theorem execMomentum_goes {w s} :
    GoesNext [.csr, .mem, .poison, .out, .freeCtr, .intc, .myk, .hostq, .hlth, .bed, .rerun] s (execMomentum w s) := by
  unfold execMomentum
  exact .mk (.step .refl bedRun_goes (by decide))

/-! ## Purl -/

theorem purlLog_goes {s reason cluster engine block w} : Goes [.csr] s (State.purlLog s reason cluster engine block w) := by
  unfold State.purlLog
  extract_lets v1
  have h2 : Goes [.csr] s v1
  · unfold v1
    refine .step (.step (.step (.step ?_ set_goes (by decide)) set_goes (by decide)) set_goes (by decide)) set_goes (by decide)
    exact .step .refl set_goes (by decide)
  clear_value v1
  refine .step (.step (.step ?_ set_goes (by decide)) set_goes (by decide)) set_goes (by decide)
  with_reducible assumption

theorem purlRefuse_goes {s w reason} : Goes [.csr, .mem, .poison, .out, .intc, .myk, .hostq] s (State.purlRefuse s w reason) := by
  unfold State.purlRefuse
  extract_lets v1
  have h2 : Goes [.csr, .mem, .poison, .out, .intc, .myk, .hostq] s v1
  · unfold v1
    refine .ite ?_ ?_
    · exact .step .refl logAccess_goes (by decide)
    · exact .refl
  clear_value v1
  refine .step (.step ?_ purlLog_goes (by decide)) finishError_goes (by decide)
  with_reducible assumption

theorem purlPoison_goes {s w reason} : Goes [.csr, .poison, .hostq] s (State.purlPoison s w reason) := by
  unfold State.purlPoison
  exact .step (.step .refl poisonBytes_goes (by decide)) finish_goes (by decide)

theorem purlCount_goes {s w coded raw event} : Goes [.csr, .out, .intc] s (State.purlCount s w coded raw event) := by
  unfold State.purlCount
  extract_lets v1 v2
  have h3 : Goes [.csr, .out, .intc] s v1
  · unfold v1
    exact .step (.step .refl addWrap_goes (by decide)) addWrap_goes (by decide)
  clear_value v1
  have h4 : Goes [.csr, .out, .intc] s v2
  · unfold v2
    refine .step ?_ pmonEdge_goes (by decide)
    with_reducible assumption
  clear_value v2
  refine .ite ?_ ?_
  · with_reducible assumption
  · refine .step ?_ pmonEdge_goes (by decide)
    with_reducible assumption

theorem chunkDecoded_goes {s w} : Goes [.csr, .mem, .poison, .out, .intc, .myk, .xport] s (State.chunkDecoded s w) := by
  unfold State.chunkDecoded
  extract_lets v1 v2 v3
  clear_value v1 v2 v3
  split
  · rename_i n4 n5
    exact .refl
  · rename_i n6 n7 n8
    extract_lets v9 v10
    have h11 : Goes [.csr, .mem, .poison, .out, .intc, .myk, .xport] s v10
    · unfold v10
      exact .xport .refl (by decide)
    clear_value v10
    refine .ite ?_ ?_
    · refine .ite ?_ ?_
      · refine .step ?_ chunkHeld_goes (by decide)
        with_reducible assumption
      · refine .step ?_ progress_goes (by decide)
        with_reducible assumption
    · exact .refl

theorem purlDecoded_goes {s w bs warn} :
    Goes [.csr, .mem, .poison, .out, .freeCtr, .intc, .myk, .hostq, .xport, .fab, .grp] s (State.purlDecoded s w bs warn) := by
  unfold State.purlDecoded
  extract_lets v1 v2 v3 v4 v5 v6 v7 v8
  clear_value v1 v2 v3 v4
  have h9 : Goes [.csr, .mem, .poison, .out, .freeCtr, .intc, .myk, .hostq, .xport, .fab, .grp] s v5
  · unfold v5
    exact .step (.step .refl readEvents_goes (by decide)) engineWrite_goes (by decide)
  clear_value v5
  have h10 : Goes [.csr, .mem, .poison, .out, .freeCtr, .intc, .myk, .hostq, .xport, .fab, .grp] s v6
  · unfold v6
    refine .step (.step (.step ?_ addWrap_goes (by decide)) addWrap_goes (by decide)) purlCount_goes (by decide)
    with_reducible assumption
  clear_value v6 v7
  have h11 : Goes [.csr, .mem, .poison, .out, .freeCtr, .intc, .myk, .hostq, .xport, .fab, .grp] s v8
  · unfold v8
    refine .ite ?_ ?_
    · refine .step ?_ mirrorChunk_goes (by decide)
      with_reducible assumption
    · with_reducible assumption
  clear_value v8
  refine .step (.ite ?_ ?_) finish_goes (by decide)
  · with_reducible assumption
  · refine .step ?_ chunkDecoded_goes (by decide)
    with_reducible assumption

theorem execDecode_goes {w cluster upset s} :
    GoesNext [.csr, .mem, .poison, .out, .freeCtr, .intc, .myk, .hostq, .purl, .xport, .fab,
      .grp] s (execDecode w cluster upset s) := by
  unfold execDecode
  extract_lets v1
  clear_value v1
  split
  · rename_i n2 n3 n4
    exact .mk (.step .refl purlRefuse_goes (by decide))
  · rename_i n5 n6
    refine .ite ?_ ?_
    · exact .mk (.step (.step .refl report_goes (by decide)) purlPoison_goes (by decide))
    · split
      · rename_i n7 n8 n9
        exact .mk (.step .refl purlDecoded_goes (by decide))
      · rename_i n10 n11 n12 n13
        extract_lets v14
        clear_value v14
        exact .mk (.purl .refl (by decide))

theorem rawOwed_goes {s j site step chunk frog} :
    Goes [.csr, .mem, .poison, .out, .intc, .myk, .xport] s (State.rawOwed s j site step chunk frog) := by
  unfold State.rawOwed
  extract_lets v1 v2 v3 v4 v5
  clear_value v1 v2 v3
  have h6 : Goes [.csr, .mem, .poison, .out, .intc, .myk, .xport] s v4
  · unfold v4
    exact .xport .refl (by decide)
  clear_value v4
  have h7 : Goes [.csr, .mem, .poison, .out, .intc, .myk, .xport] s v5
  · unfold v5
    refine .step (.step (.step ?_ addSat_goes (by decide)) report_goes (by decide)) raise_goes (by decide)
    with_reducible assumption
  clear_value v5
  refine .step ?_ stall_goes (by decide)
  with_reducible assumption

theorem execRawRefuseReceived_goes {j site s} :
    GoesNext [.csr, .mem, .poison, .out, .intc, .myk, .xport] s (execRawRefuseReceived j site s) := by
  unfold execRawRefuseReceived
  split
  · rename_i n1 n2
    exact .mk .refl
  · rename_i n3 n4 n5 n6
    have h7 : Goes [.csr, .mem, .poison, .out, .intc, .myk, .xport] s n5
    · exact GoesSome.of n6 (.step .refl takeMail_goes (by decide))
    refine .mk (.step ?_ rawOwed_goes (by decide))
    with_reducible assumption

theorem execPurlStallResume_goes {input handshakes s} : GoesNext [.csr, .purl] s (execPurlStallResume input handshakes s) := by
  unfold execPurlStallResume
  extract_lets v1 v2 v3
  clear_value v1 v2 v3
  refine .ite ?_ ?_
  · exact .mk (.step (.purl .refl (by decide)) addSat_goes (by decide))
  · exact .mk (.step (.purl .refl (by decide)) addSat_goes (by decide))

theorem purlQuarantine_goes {s c reason w} :
    Goes [.csr, .mem, .poison, .out, .freeCtr, .intc, .myk, .hlth] s (State.purlQuarantine s c reason w) := by
  unfold State.purlQuarantine
  extract_lets v1 v2 v3 v4 v5 v6
  clear_value v1 v2
  have h7 : Goes [.csr, .mem, .poison, .out, .freeCtr, .intc, .myk, .hlth] s v3
  · unfold v3
    exact .step (.step .refl quarantineCount_goes (by decide)) markQuarantined_goes (by decide)
  clear_value v3
  have h8 : Goes [.csr, .mem, .poison, .out, .freeCtr, .intc, .myk, .hlth] s v4
  · unfold v4
    split
    · rename_i n9 n10
      refine .step (.step ?_ set_goes (by decide)) set_goes (by decide)
      with_reducible assumption
    · rename_i n11
      refine .step ?_ set_goes (by decide)
      with_reducible assumption
  clear_value v4
  have h12 : Goes [.csr, .mem, .poison, .out, .freeCtr, .intc, .myk, .hlth] s v6
  · unfold v6
    refine .step ?_ set_goes (by decide)
    with_reducible assumption
  clear_value v6
  split
  · rename_i n13 n14 n15
    extract_lets v16
    have h17 : Goes [.csr, .mem, .poison, .out, .freeCtr, .intc, .myk, .hlth] s v16
    · unfold v16
      refine .step (.step (.step ?_ set_goes (by decide)) set_goes (by decide)) set_goes (by decide)
      with_reducible assumption
    clear_value v16
    refine .step (.step (.step ?_ set_goes (by decide)) report_goes (by decide)) raise_goes (by decide)
    refine .step (.step ?_ set_goes (by decide)) health_goes (by decide)
    with_reducible assumption
  · rename_i n18 n19
    refine .step (.step (.step ?_ report_goes (by decide)) raise_goes (by decide)) capChange_goes (by decide)
    refine .step (.step (.step ?_ set_goes (by decide)) health_goes (by decide)) set_goes (by decide)
    with_reducible assumption

theorem chunkReject_goes {s w} : Goes [.csr, .mem, .poison, .out, .intc, .myk, .xport] s (State.chunkReject s w) := by
  unfold State.chunkReject
  extract_lets v1 v2 v3 v4
  have h5 : Goes [.csr, .mem, .poison, .out, .intc, .myk, .xport] s v1
  · unfold v1
    exact .step .refl raise_goes (by decide)
  clear_value v1 v2 v3 v4
  split
  · rename_i n6 n7
    with_reducible assumption
  · rename_i n8 n9 n10
    extract_lets v11 v12 v13 v14 v15
    clear_value v11
    have h16 : Goes [.csr, .mem, .poison, .out, .intc, .myk, .xport] s v12
    · unfold v12
      refine .xport ?_ (by decide)
      with_reducible assumption
    clear_value v12 v13 v14
    have h17 : Goes [.csr, .mem, .poison, .out, .intc, .myk, .xport] s v15
    · unfold v15
      refine .xport ?_ (by decide)
      with_reducible assumption
    clear_value v15
    refine .ite ?_ ?_
    · refine .step ?_ rawOwed_goes (by decide)
      with_reducible assumption
    · refine .step (.step (.step ?_ addSat_goes (by decide)) report_goes (by decide)) sendControl_goes (by decide)
      with_reducible assumption

theorem decodeReject_goes {s w cluster block reason} :
    Goes [.csr, .mem, .poison, .out, .intc, .myk, .hostq, .xport] s (State.decodeReject s w cluster block reason) := by
  unfold State.decodeReject
  extract_lets v1
  have h2 : Goes [.csr, .mem, .poison, .out, .intc, .myk, .hostq, .xport] s v1
  · unfold v1
    exact .step (.step (.step .refl purlLog_goes (by decide)) addSat_goes (by decide)) report_goes (by decide)
  clear_value v1
  refine .step (.step ?_ chunkReject_goes (by decide)) finishError_goes (by decide)
  with_reducible assumption

theorem execSecondDecode_goes {cluster upset s} :
    GoesNext [.csr, .mem, .poison, .out, .freeCtr, .intc, .myk, .hostq, .hlth, .purl, .xport, .fab,
      .grp] s (execSecondDecode cluster upset s) := by
  unfold execSecondDecode
  extract_lets v1
  clear_value v1
  split
  · rename_i n2 n3
    exact .mk .refl
  · rename_i n4 n5 n6 n7
    extract_lets v8 v9 v10 v11
    clear_value v8
    have h12 : Goes [.csr, .mem, .poison, .out, .freeCtr, .intc, .myk, .hostq, .hlth, .purl, .xport, .fab, .grp] s v9
    · unfold v9
      exact .purl .refl (by decide)
    clear_value v9
    have h13 : Goes [.csr, .mem, .poison, .out, .freeCtr, .intc, .myk, .hostq, .hlth, .purl, .xport, .fab, .grp] s v10
    · unfold v10
      refine .step (.step (.step ?_ purlLog_goes (by decide)) addSat_goes (by decide)) report_goes (by decide)
      with_reducible assumption
    clear_value v10
    have h14 : Goes [.csr, .mem, .poison, .out, .freeCtr, .intc, .myk, .hostq, .hlth, .purl, .xport, .fab, .grp] s v11
    · unfold v11
      refine .ite ?_ ?_
      · with_reducible assumption
      · refine .step (.step ?_ purlQuarantine_goes (by decide)) purlLog_goes (by decide)
        with_reducible assumption
    clear_value v11
    refine .ite ?_ ?_
    · exact .mk .refl
    · split
      · rename_i n15 n16 n17
        refine .mk (.step ?_ purlDecoded_goes (by decide))
        with_reducible assumption
      · rename_i n18 n19 n20 n21
        refine .mk (.step ?_ decodeReject_goes (by decide))
        with_reducible assumption

theorem purlSubst_goes {s c} : GoesOk [.csr, .mem, .poison, .out, .freeCtr, .intc, .myk, .hlth] s (State.purlSubst s c) := by
  unfold State.purlSubst
  refine .ite ?_ ?_
  · exact .error
  · exact .mk (.step (.step .refl set_goes (by decide)) purlQuarantine_goes (by decide))

theorem purlRequal_goes {s c pass} : Goes [.csr, .out] s (State.purlRequal s c pass) := by
  unfold State.purlRequal
  extract_lets v1 v2
  have h3 : Goes [.csr, .out] s v1
  · unfold v1
    exact .step (.step .refl markQuarantined_goes (by decide)) set_goes (by decide)
  clear_value v1 v2
  refine .ite ?_ ?_
  · exact .refl
  · refine .ite ?_ ?_
    · exact .step .refl report_goes (by decide)
    · refine .ite ?_ ?_
      · exact .step (.step (.step .refl set_goes (by decide)) set_goes (by decide)) report_goes (by decide)
      · refine .step (.step ?_ set_goes (by decide)) set_goes (by decide)
        with_reducible assumption

theorem execPurlSwatch_goes {w fails s} :
    GoesNext [.csr, .mem, .poison, .out, .freeCtr, .intc, .myk, .hostq, .hlth] s (execPurlSwatch w fails s) := by
  unfold execPurlSwatch
  extract_lets v1
  clear_value v1
  split
  · rename_i n2 n3 n4
    exact .mk (.step .refl purlRefuse_goes (by decide))
  · rename_i n5 n6
    refine .ite ?_ ?_
    · exact .mk (.step .refl purlRefuse_goes (by decide))
    · refine .ite ?_ ?_
      · refine .mk (.step (.step ?_ purlQuarantine_goes (by decide)) finishError_goes (by decide))
        exact .step (.step .refl purlLog_goes (by decide)) report_goes (by decide)
      · exact .mk (.step .refl finish_goes (by decide))

theorem encFault_goes {s w cluster engine again} :
    Goes [.csr, .mem, .poison, .out, .freeCtr, .intc, .myk, .hostq, .hlth, .rerun] s (State.encFault s w cluster engine again) := by
  unfold State.encFault
  extract_lets v1 v2
  have h3 : Goes [.csr, .mem, .poison, .out, .freeCtr, .intc, .myk, .hostq, .hlth, .rerun] s v1
  · unfold v1
    refine .step (.step (.step ?_ addSat_goes (by decide)) report_goes (by decide)) raise_goes (by decide)
    exact .step .refl purlLog_goes (by decide)
  clear_value v1
  have h4 : Goes [.csr, .mem, .poison, .out, .freeCtr, .intc, .myk, .hostq, .hlth, .rerun] s v2
  · unfold v2
    refine .step ?_ purlQuarantine_goes (by decide)
    with_reducible assumption
  clear_value v2
  refine .ite ?_ ?_
  · refine .rerun ?_ (by decide)
    with_reducible assumption
  · refine .step ?_ purlPoison_goes (by decide)
    with_reducible assumption

theorem purlEncoded_goes {s w} : Goes [.csr, .mem, .poison, .out, .intc, .myk, .hostq, .fab, .grp] s (State.purlEncoded s w) := by
  unfold State.purlEncoded
  extract_lets v1 v2 v3 v4 v5 v6 v7
  clear_value v1 v2 v3 v4
  have h8 : Goes [.csr, .mem, .poison, .out, .intc, .myk, .hostq, .fab, .grp] s v5
  · unfold v5
    exact .step (.step .refl readEvents_goes (by decide)) engineWrite_goes (by decide)
  clear_value v5
  have h9 : Goes [.csr, .mem, .poison, .out, .intc, .myk, .hostq, .fab, .grp] s v6
  · unfold v6
    refine .step (.step (.step ?_ addWrap_goes (by decide)) addWrap_goes (by decide)) purlCount_goes (by decide)
    with_reducible assumption
  clear_value v6
  have h10 : Goes [.csr, .mem, .poison, .out, .intc, .myk, .hostq, .fab, .grp] s v7
  · unfold v7
    refine .ite ?_ ?_
    · with_reducible assumption
    · refine .step ?_ digestMade_goes (by decide)
      with_reducible assumption
  clear_value v7
  refine .step ?_ finish_goes (by decide)
  with_reducible assumption

theorem execEncode_goes {w fault s} :
    GoesNext [.csr, .mem, .poison, .out, .freeCtr, .intc, .myk, .hostq, .hlth, .fab, .grp, .rerun] s (execEncode w fault s) := by
  unfold execEncode
  split
  · rename_i n1 n2 n3
    exact .mk (.step .refl purlRefuse_goes (by decide))
  · rename_i n4 n5
    refine .ite ?_ ?_
    · exact .mk (.step (.step .refl report_goes (by decide)) purlPoison_goes (by decide))
    · split
      · rename_i n6
        exact .mk (.step .refl purlEncoded_goes (by decide))
      · rename_i n7 n8 n9
        refine .ite ?_ ?_
        · exact .mk (.step .refl encFault_goes (by decide))
        · exact .mk (.step .refl purlEncoded_goes (by decide))

/-! ## Transmit -/

theorem rttSample_goes {s peer sample} : Goes [.csr, .xport] s (State.rttSample s peer sample) := by
  unfold State.rttSample
  extract_lets v1
  clear_value v1
  refine .ite ?_ ?_
  · exact .step .refl set_goes (by decide)
  · exact .step (.xport .refl (by decide)) set_goes (by decide)

theorem dropRetx_goes {s j peer cum} : Goes [.sched] s (State.dropRetx s j peer cum) := by
  unfold State.dropRetx
  extract_lets v1 v2
  clear_value v1 v2
  exact .sched .refl (by decide)

theorem chunkAcked_goes {s j peer step chunk} : Goes [.csr, .xport] s (State.chunkAcked s j peer step chunk) := by
  unfold State.chunkAcked
  extract_lets v1 v2
  clear_value v2
  refine .ite ?_ ?_
  · exact .xport .refl (by decide)
  · exact .step .refl releaseRetained_goes (by decide)

theorem retransmit_goes {s j peer cw have'} :
    Goes [.csr, .out, .intc, .sched, .xport] s (State.retransmit s j peer cw have') := by
  unfold State.retransmit
  extract_lets v1
  clear_value v1
  split
  · rename_i n2 n3
    exact .refl
  · rename_i n4 n5 n6
    extract_lets v7
    clear_value v7
    refine .ite ?_ ?_
    · exact .refl
    · refine .foldl ?_ (fun x8 y9 h10 => ?_)
      · exact .refl
      · extract_lets v11 v12 v13 v14
        clear_value v11
        have h15 : Goes [.csr, .out, .intc, .sched, .xport] s v12
        · unfold v12
          refine .step ?_ lineEnqueue_goes (by decide)
          with_reducible assumption
        clear_value v12 v13
        have h16 : Goes [.csr, .out, .intc, .sched, .xport] s v14
        · unfold v14
          refine .ite ?_ ?_
          · refine .step ?_ putRec_goes (by decide)
            with_reducible assumption
          · with_reducible assumption
        clear_value v14
        refine .step (.step ?_ addSat_goes (by decide)) pmonEdge_goes (by decide)
        with_reducible assumption

theorem execAckReceived_goes {j site s} : GoesNext [.csr, .out, .intc, .sched, .xport] s (execAckReceived j site s) := by
  unfold execAckReceived
  split
  · rename_i n1 n2
    exact .mk .refl
  · rename_i n3 n4 n5 n6
    have h7 : Goes [.csr, .out, .intc, .sched, .xport] s n5
    · exact GoesSome.of n6 (.step .refl takeMail_goes (by decide))
    extract_lets v8 v9 v10 v11 v12 v13 v14 v15 v16 v17
    clear_value v8 v9 v10
    have h18 : Goes [.csr, .out, .intc, .sched, .xport] s v11
    · unfold v11
      refine .step ?_ putFlow_goes (by decide)
      with_reducible assumption
    clear_value v11
    have h19 : Goes [.csr, .out, .intc, .sched, .xport] s v12
    · unfold v12
      refine .step ?_ rttSample_goes (by decide)
      with_reducible assumption
    clear_value v12 v13 v14
    have h20 : Goes [.csr, .out, .intc, .sched, .xport] s v15
    · unfold v15
      refine .step ?_ dropRetx_goes (by decide)
      with_reducible assumption
    clear_value v15
    have h21 : Goes [.csr, .out, .intc, .sched, .xport] s v16
    · unfold v16
      refine .foldl ?_ (fun x22 y23 h24 => ?_)
      · with_reducible assumption
      · extract_lets v25
        clear_value v25
        refine .step ?_ chunkAcked_goes (by decide)
        with_reducible assumption
    clear_value v16
    have h26 : Goes [.csr, .out, .intc, .sched, .xport] s v17
    · unfold v17
      refine .foldl ?_ (fun x27 y28 h29 => ?_)
      · with_reducible assumption
      · extract_lets v30
        clear_value v30
        refine .foldl ?_ (fun x31 y32 h33 => ?_)
        · with_reducible assumption
        · refine .step ?_ retransmit_goes (by decide)
          with_reducible assumption
    clear_value v17
    refine .ite ?_ ?_
    · refine .mk (.step ?_ peerUpdate_goes (by decide))
      with_reducible assumption
    · refine .mk (.step (.step ?_ usageUpdate_goes (by decide)) peerUpdate_goes (by decide))
      with_reducible assumption

theorem holdFlow_goes {s j peer reason f} : Goes [.csr, .out, .intc, .xport] s (State.holdFlow s j peer reason f) := by
  unfold State.holdFlow
  extract_lets v1
  clear_value v1
  refine .ite ?_ ?_
  · exact .refl
  · exact .step (.step (.xport .refl (by decide)) xportLog_goes (by decide)) raise_goes (by decide)

theorem sendCodewords_goes {s j peer first k m u msg} : Goes [.sched] s (State.sendCodewords s j peer first k m u msg) := by
  unfold State.sendCodewords
  refine .foldl ?_ (fun x1 y2 h3 => ?_)
  · exact .refl
  · refine .foldl ?_ (fun x4 y5 h6 => ?_)
    · with_reducible assumption
    · refine .step ?_ lineEnqueue_goes (by decide)
      with_reducible assumption

theorem sendMessage_goes {s j peer c} :
    GoesBoth [.csr, .mem, .poison, .out, .intc, .sched, .xport] s (State.sendMessage s j peer c) := by
  unfold State.sendMessage
  extract_lets v1 v2 v3
  clear_value v1 v2 v3
  split
  · rename_i n4 n5
    refine .mk ?_ ?_
    · exact .none
    · exact .step .refl holdFlow_goes (by decide)
  · rename_i n6 n7 n8 n9
    extract_lets v10 v11 v12 v13 v14 v15
    clear_value v10 v11 v12 v13
    have h16 : Goes [.csr, .mem, .poison, .out, .intc, .sched, .xport] s v14
    · unfold v14
      refine .ite ?_ ?_
      · exact .step (.step .refl xportLog_goes (by decide)) raise_goes (by decide)
      · exact .refl
    clear_value v14
    have h17 : Goes [.csr, .mem, .poison, .out, .intc, .sched, .xport] s v15
    · unfold v15
      refine .step (.step ?_ set_goes (by decide)) set_goes (by decide)
      with_reducible assumption
    clear_value v15
    refine .ite ?_ ?_
    · refine .mk ?_ ?_
      · exact .none
      · exact .refl
    · split
      · rename_i n18 n19
        refine .mk ?_ ?_
        · exact .none
        · exact .step .refl holdFlow_goes (by decide)
      · rename_i n20 n21 n22
        extract_lets v23 v24 v25 v26 v27 v28 v29
        clear_value v23
        have h30 : Goes [.csr, .mem, .poison, .out, .intc, .sched, .xport] s v24
        · unfold v24
          refine .step ?_ writeBytes_goes (by decide)
          with_reducible assumption
        clear_value v24
        have h31 : Goes [.csr, .mem, .poison, .out, .intc, .sched, .xport] s v25
        · unfold v25
          refine .step ?_ putFlow_goes (by decide)
          with_reducible assumption
        clear_value v25 v26
        have h32 : Goes [.csr, .mem, .poison, .out, .intc, .sched, .xport] s v27
        · unfold v27
          refine .xport ?_ (by decide)
          with_reducible assumption
        clear_value v27 v28
        have h33 : Goes [.csr, .mem, .poison, .out, .intc, .sched, .xport] s v29
        · unfold v29
          refine .ite ?_ ?_
          · refine .step ?_ putRec_goes (by decide)
            with_reducible assumption
          · with_reducible assumption
        clear_value v29
        refine .mk ?_ ?_
        · refine .mk (.step (.step ?_ usageUpdate_goes (by decide)) peerUpdate_goes (by decide))
          refine .step ?_ sendCodewords_goes (by decide)
          with_reducible assumption
        · with_reducible assumption

theorem execPortStatePeriodic_goes {s} : GoesNext [.csr, .mem, .poison, .xport] s (execPortStatePeriodic s) := by
  unfold execPortStatePeriodic
  refine .ite ?_ ?_
  · refine .mk (.foldl ?_ (fun x1 y2 h3 => ?_))
    · exact .refl
    · refine .step ?_ sendPortState_goes (by decide)
      with_reducible assumption
  · exact .mk .refl

theorem formChunk_goes {s j peer} : Goes [.csr, .mem, .poison, .out, .intc, .sched, .xport] s (State.formChunk s j peer) := by
  unfold State.formChunk
  extract_lets v1
  clear_value v1
  refine .ite ?_ ?_
  · exact .refl
  · split
    · rename_i n2 n3 n4
      extract_lets v5
      split
      · rename_i n6 n7
        unfold v5
        extract_lets v8
        clear_value v8
        exact .xport .refl (by decide)
      · rename_i n9 n10 n11
        extract_lets v12 v13 v14
        clear_value v12
        have h15 : Goes [.csr, .mem, .poison, .out, .intc, .sched, .xport] s v13
        · unfold v13
          exact .xport .refl (by decide)
        clear_value v13 v14
        split
        · rename_i n16 n17 n18 n19
          have h20 : Goes [.csr, .mem, .poison, .out, .intc, .sched, .xport] s n18
          · refine GoesBoth.of n19 (.step ?_ sendMessage_goes (by decide))
            with_reducible assumption
          have h21 : Goes [.csr, .mem, .poison, .out, .intc, .sched, .xport] s n17
          · refine GoesBoth.ofSome n19 (.step ?_ sendMessage_goes (by decide))
            with_reducible assumption
          unfold v5
          extract_lets v22
          clear_value v22
          refine .xport ?_ (by decide)
          with_reducible assumption
        · rename_i n23 n24 n25
          have h26 : Goes [.csr, .mem, .poison, .out, .intc, .sched, .xport] s n24
          · refine GoesBoth.of n25 (.step ?_ sendMessage_goes (by decide))
            with_reducible assumption
          extract_lets v27
          clear_value v27
          refine .xport ?_ (by decide)
          with_reducible assumption
    · rename_i n28 n29
      split
      · rename_i n30 n31
        exact .refl
      · rename_i n32 n33 n34
        extract_lets v35 v36
        clear_value v35 v36
        split
        · rename_i n37 n38 n39 n40
          have h41 : Goes [.csr, .mem, .poison, .out, .intc, .sched, .xport] s n39
          · exact GoesBoth.of n40 (.step .refl sendMessage_goes (by decide))
          have h42 : Goes [.csr, .mem, .poison, .out, .intc, .sched, .xport] s n38
          · exact GoesBoth.ofSome n40 (.step .refl sendMessage_goes (by decide))
          extract_lets v43
          clear_value v43
          refine .xport ?_ (by decide)
          with_reducible assumption
        · rename_i n44 n45 n46
          have h47 : Goes [.csr, .mem, .poison, .out, .intc, .sched, .xport] s n45
          · exact GoesBoth.of n46 (.step .refl sendMessage_goes (by decide))
          with_reducible assumption

theorem resendChunk_goes {s j peer step chunk} :
    Goes [.csr, .mem, .poison, .out, .intc, .sched, .xport] s (State.resendChunk s j peer step chunk) := by
  unfold State.resendChunk
  extract_lets v1
  clear_value v1
  exact .step (.xport .refl (by decide)) formChunk_goes (by decide)

theorem execKeepaliveSend_goes {s} : GoesNext [.mem, .poison, .xport] s (execKeepaliveSend s) := by
  unfold execKeepaliveSend
  refine .ite ?_ ?_
  · exact .mk .refl
  · refine .mk (.foldl ?_ (fun x1 y2 h3 => ?_))
    · exact .refl
    · extract_lets v4 v5 v6
      clear_value v4 v5
      have h7 : Goes [.mem, .poison, .xport] s v6
      · unfold v6
        refine .xport ?_ (by decide)
        with_reducible assumption
      clear_value v6
      split
      rename_i n8 n9 n10 n11
      refine .foldl ?_ (fun x12 y13 h14 => ?_)
      · with_reducible assumption
      · refine .step ?_ sendControl_goes (by decide)
        with_reducible assumption

theorem chunkOwed_goes {s j site step chunk frog} :
    Goes [.csr, .mem, .poison, .out, .intc, .myk, .xport] s (State.chunkOwed s j site step chunk frog) := by
  unfold State.chunkOwed
  extract_lets v1 v2 v3 v4 v5 v6
  clear_value v1 v2 v3
  have h7 : Goes [.csr, .mem, .poison, .out, .intc, .myk, .xport] s v4
  · unfold v4
    exact .xport .refl (by decide)
  clear_value v4
  have h8 : Goes [.csr, .mem, .poison, .out, .intc, .myk, .xport] s v5
  · unfold v5
    refine .step (.step (.step ?_ xportLog_goes (by decide)) set_goes (by decide)) set_goes (by decide)
    with_reducible assumption
  clear_value v5
  have h9 : Goes [.csr, .mem, .poison, .out, .intc, .myk, .xport] s v6
  · unfold v6
    refine .step ?_ raise_goes (by decide)
    with_reducible assumption
  clear_value v6
  refine .step ?_ stall_goes (by decide)
  with_reducible assumption

theorem execKeepaliveReceived_goes {site s} : GoesNext [.xport] s (execKeepaliveReceived site s) := by
  unfold execKeepaliveReceived
  split
  · rename_i n1 n2
    exact .mk .refl
  · rename_i n3 n4 n5 n6
    have h7 : Goes [.xport] s n5
    · exact GoesSome.of n6 (.step .refl takeMail_goes (by decide))
    extract_lets v8 v9 v10 v11 v12
    clear_value v8 v9 v10
    have h13 : Goes [.xport] s v11
    · unfold v11
      refine .xport ?_ (by decide)
      with_reducible assumption
    clear_value v11 v12
    refine .ite ?_ ?_
    · refine .mk (.xport ?_ (by decide))
      with_reducible assumption
    · refine .mk ?_
      with_reducible assumption

theorem execPortStateReceived_goes {site s} : GoesNext [.csr, .xport] s (execPortStateReceived site s) := by
  unfold execPortStateReceived
  split
  · rename_i n1 n2
    exact .mk .refl
  · rename_i n3 n4 n5 n6
    have h7 : Goes [.csr, .xport] s n5
    · exact GoesSome.of n6 (.step .refl takeMail_goes (by decide))
    extract_lets v8 v9 v10 v11 v12
    clear_value v8 v9 v10 v11
    have h13 : Goes [.csr, .xport] s v12
    · unfold v12
      refine .xport ?_ (by decide)
      with_reducible assumption
    clear_value v12
    refine .mk (.step ?_ peerUpdate_goes (by decide))
    with_reducible assumption

theorem execAckInterval_goes {s} : GoesNext [.mem, .poison, .xport] s (execAckInterval s) := by
  unfold execAckInterval
  refine .ite ?_ ?_
  · exact .mk .refl
  · refine .mk (.foldl ?_ (fun x1 y2 h3 => ?_))
    · exact .refl
    · refine .step ?_ sendAck_goes (by decide)
      with_reducible assumption

theorem execRebuildReceived_goes {j site s} :
    GoesNext [.csr, .mem, .poison, .out, .intc, .sched, .xport] s (execRebuildReceived j site s) := by
  unfold execRebuildReceived
  extract_lets v1
  clear_value v1
  split
  · rename_i n2 n3
    exact .mk .refl
  · rename_i n4 n5 n6 n7
    have h8 : Goes [.csr, .mem, .poison, .out, .intc, .sched, .xport] s n6
    · exact GoesSome.of n7 (.step .refl takeMail_goes (by decide))
    extract_lets v9 v10 v11 v12 v13 v14 v15 v16 v17 v18 v19 v20 v21 v22 v23 v24
    clear_value v9 v10 v11 v12 v13 v14 v15 v16 v17 v18 v19 v20 v21
    have h25 : Goes [.csr, .mem, .poison, .out, .intc, .sched, .xport] s v22
    · unfold v22
      refine .foldl ?_ (fun x26 y27 h28 => ?_)
      · with_reducible assumption
      · refine .step ?_ resendChunk_goes (by decide)
        with_reducible assumption
    clear_value v22
    have h29 : Goes [.csr, .mem, .poison, .out, .intc, .sched, .xport] s v23
    · unfold v23
      refine .ite ?_ ?_
      · with_reducible assumption
      · refine .step (.step ?_ xportLog_goes (by decide)) raise_goes (by decide)
        with_reducible assumption
    clear_value v23
    have h30 : Goes [.csr, .mem, .poison, .out, .intc, .sched, .xport] s v24
    · unfold v24
      refine .ite ?_ ?_
      · with_reducible assumption
      · refine .step (.step ?_ xportLog_goes (by decide)) raise_goes (by decide)
        with_reducible assumption
    clear_value v24
    refine .ite ?_ ?_
    · refine .mk ?_
      with_reducible assumption
    · refine .mk (.foldl ?_ (fun x31 y32 h33 => ?_))
      · with_reducible assumption
      · refine .step ?_ sendControl_goes (by decide)
        with_reducible assumption

theorem execPortReuseExpiry_goes {peer port s} :
    GoesNext [.csr, .mem, .poison, .out, .intc, .xport] s (execPortReuseExpiry peer port s) := by
  unfold execPortReuseExpiry
  refine .ite ?_ ?_
  · exact .mk (.step .refl setPortClass_goes (by decide))
  · exact .mk .refl

theorem execRxFrameStart_goes {p f s} :
    GoesNext [.csr, .mem, .poison, .out, .intc, .pmon, .xport, .line] s (execRxFrameStart p f s) := by
  unfold execRxFrameStart
  extract_lets v1 v2 v3 v4
  clear_value v1
  have h5 : Goes [.csr, .mem, .poison, .out, .intc, .pmon, .xport, .line] s v2
  · unfold v2
    exact .step .refl rxFrame_goes (by decide)
  clear_value v2 v3
  have h6 : Goes [.csr, .mem, .poison, .out, .intc, .pmon, .xport, .line] s v4
  · unfold v4
    refine .ite ?_ ?_
    · refine .xport ?_ (by decide)
      with_reducible assumption
    · with_reducible assumption
  clear_value v4
  refine .ite ?_ ?_
  · exact .mk .refl
  · refine .mk (.foldl ?_ (fun x7 y8 h9 => ?_))
    · refine .step ?_ reclassPort_goes (by decide)
      with_reducible assumption
    · refine .step ?_ peerUpdate_goes (by decide)
      with_reducible assumption

theorem execCleanReceived_goes {j site s} :
    GoesNext [.csr, .mem, .poison, .out, .intc, .myk, .xport] s (execCleanReceived j site s) := by
  unfold execCleanReceived
  split
  · rename_i n1 n2
    exact .mk .refl
  · rename_i n3 n4 n5 n6
    have h7 : Goes [.csr, .mem, .poison, .out, .intc, .myk, .xport] s n5
    · exact GoesSome.of n6 (.step .refl takeMail_goes (by decide))
    extract_lets v8
    clear_value v8
    refine .mk (.foldl ?_ (fun x9 y10 h11 => ?_))
    · with_reducible assumption
    · refine .ite ?_ ?_
      · refine .step ?_ cleanMark_goes (by decide)
        with_reducible assumption
      · with_reducible assumption

theorem execFlowResetReceived_goes {j site s} : GoesNext [.csr, .out, .intc, .xport] s (execFlowResetReceived j site s) := by
  unfold execFlowResetReceived
  split
  · rename_i n1 n2
    exact .mk .refl
  · rename_i n3 n4 n5 n6
    have h7 : Goes [.csr, .out, .intc, .xport] s n5
    · exact GoesSome.of n6 (.step .refl takeMail_goes (by decide))
    extract_lets v8 v9 v10 v11 v12 v13
    clear_value v8 v9
    have h14 : Goes [.csr, .out, .intc, .xport] s v10
    · unfold v10
      refine .step ?_ putFlow_goes (by decide)
      with_reducible assumption
    clear_value v10
    have h15 : Goes [.csr, .out, .intc, .xport] s v11
    · unfold v11
      refine .step ?_ releaseRetained_goes (by decide)
      with_reducible assumption
    clear_value v11 v12
    have h16 : Goes [.csr, .out, .intc, .xport] s v13
    · unfold v13
      refine .xport ?_ (by decide)
      with_reducible assumption
    clear_value v13
    refine .mk (.step (.step (.step ?_ xportLog_goes (by decide)) raise_goes (by decide)) peerUpdate_goes (by decide))
    with_reducible assumption

theorem execControlRepeatExpiry_goes {j peer seq s} :
    GoesNext [.mem, .poison, .sched, .xport] s (execControlRepeatExpiry j peer seq s) := by
  unfold execControlRepeatExpiry
  extract_lets v1
  clear_value v1
  split
  · rename_i n2 n3
    exact .mk .refl
  · rename_i n4 n5 n6
    extract_lets v7
    clear_value v7
    refine .ite ?_ ?_
    · exact .mk (.step (.step .refl putFlow_goes (by decide)) placeControl_goes (by decide))
    · refine .mk (.foldl ?_ (fun x8 y9 h10 => ?_))
      · exact .refl
      · refine .step ?_ lineEnqueue_goes (by decide)
        with_reducible assumption

theorem execChunkResendReceived_goes {j site s} :
    GoesNext [.csr, .mem, .poison, .out, .intc, .myk, .sched, .xport] s (execChunkResendReceived j site s) := by
  unfold execChunkResendReceived
  split
  · rename_i n1 n2
    exact .mk .refl
  · rename_i n3 n4 n5 n6
    have h7 : Goes [.csr, .mem, .poison, .out, .intc, .myk, .sched, .xport] s n5
    · exact GoesSome.of n6 (.step .refl takeMail_goes (by decide))
    extract_lets v8 v9 v10 v11 v12
    clear_value v8 v9 v10 v11 v12
    refine .ite ?_ ?_
    · refine .mk (.step ?_ chunkOwed_goes (by decide))
      with_reducible assumption
    · refine .ite ?_ ?_
      · refine .mk (.step ?_ resendChunk_goes (by decide))
        with_reducible assumption
      · refine .ite ?_ ?_
        · refine .mk (.xport ?_ (by decide))
          with_reducible assumption
        · refine .mk (.step ?_ sendControl_goes (by decide))
          with_reducible assumption

theorem execChunkMessageForm_goes {j peer s} :
    GoesNext [.csr, .mem, .poison, .out, .intc, .sched, .xport] s (execChunkMessageForm j peer s) := by
  unfold execChunkMessageForm
  exact .mk (.step .refl formChunk_goes (by decide))

/-! ## Receive -/

theorem chunkRefused_goes {s j site step chunk frog reason} :
    Goes [.csr, .mem, .poison, .out, .intc, .myk, .xport] s (State.chunkRefused s j site step chunk frog reason) := by
  unfold State.chunkRefused
  extract_lets v1 v2 v3
  have h4 : Goes [.csr, .mem, .poison, .out, .intc, .myk, .xport] s v1
  · unfold v1
    exact .step (.step (.step .refl xportLog_goes (by decide)) set_goes (by decide)) set_goes (by decide)
  clear_value v1 v3
  refine .ite ?_ ?_
  · refine .step ?_ chunkOwed_goes (by decide)
    with_reducible assumption
  · refine .step (.xport ?_ (by decide)) sendControl_goes (by decide)
    with_reducible assumption

theorem chunkReceived_goes {s j site addr msg} :
    Goes [.csr, .mem, .poison, .out, .intc, .myk, .xport] s (State.chunkReceived s j site addr msg) := by
  unfold State.chunkReceived
  extract_lets v1 v2 v3 v4 v5 v6 v7 v8 v9 v10 v11 v12
  clear_value v1 v2 v3 v4 v5 v6
  have h13 : Goes [.csr, .mem, .poison, .out, .intc, .myk, .xport] s v7
  · unfold v7
    exact .xport .refl (by decide)
  clear_value v7 v8
  have h14 : Goes [.csr, .mem, .poison, .out, .intc, .myk, .xport] s v9
  · unfold v9
    refine .step ?_ writeBytes_goes (by decide)
    with_reducible assumption
  clear_value v9 v10
  have h15 : Goes [.csr, .mem, .poison, .out, .intc, .myk, .xport] s v11
  · unfold v11
    refine .xport ?_ (by decide)
    with_reducible assumption
  clear_value v11 v12
  refine .ite ?_ ?_
  · refine .step ?_ chunkRefused_goes (by decide)
    with_reducible assumption
  · refine .ite ?_ ?_
    · with_reducible assumption
    · refine .ite ?_ ?_
      · split
        rename_i n16 n17 n18 n19
        have h20 : Goes [.csr, .mem, .poison, .out, .intc, .myk, .xport] s n18
        · refine GoesSnd.of n19 (.step ?_ stepReason_goes (by decide))
          with_reducible assumption
        refine .step ?_ saveRec_goes (by decide)
        with_reducible assumption
      · refine .ite ?_ ?_
        · refine .step ?_ ackNow_goes (by decide)
          with_reducible assumption
        · refine .ite ?_ ?_
          · refine .step (.step (.step ?_ xportLog_goes (by decide)) set_goes (by decide)) set_goes (by decide)
            with_reducible assumption
          · split
            · rename_i n21 n22 n23
              refine .ite ?_ ?_
              · refine .step ?_ ackNow_goes (by decide)
                with_reducible assumption
              · with_reducible assumption
            · rename_i n24 n25
              refine .ite ?_ ?_
              · refine .step ?_ putRec_goes (by decide)
                with_reducible assumption
              · with_reducible assumption

theorem reassemble_goes {s : State} {j site n : Nat} :
    Goes [.csr, .mem, .poison, .out, .intc, .myk, .xport] s (s.reassemble j site n) := by
  induction n generalizing s with
  | zero => exact .refl
  | succ n ih =>
    unfold State.reassemble
    extract_lets f
    split
    · split
      · exact .refl
      · exact .step (.step (.step .refl putFlow_goes (by decide)) chunkReceived_goes (by decide)) ih (by decide)
    · split
      · exact .refl
      · exact .step (.step .refl putFlow_goes (by decide)) ih (by decide)

theorem earlyClose_goes {s} : Goes [.csr, .mem, .poison, .out, .intc, .xport] s (State.earlyClose s) := by
  unfold State.earlyClose
  extract_lets v1
  clear_value v1
  split
  · rename_i n2 n3
    exact .refl
  · rename_i n4 n5 n6 n7 n8
    extract_lets v9 v10 v11
    clear_value v9
    have h12 : Goes [.csr, .mem, .poison, .out, .intc, .xport] s v10
    · unfold v10
      exact .step .refl putFlow_goes (by decide)
    clear_value v10
    have h13 : Goes [.csr, .mem, .poison, .out, .intc, .xport] s v11
    · unfold v11
      refine .step (.step ?_ xportLog_goes (by decide)) set_goes (by decide)
      with_reducible assumption
    clear_value v11
    refine .step (.step (.step ?_ addSat_goes (by decide)) raise_goes (by decide)) nack_goes (by decide)
    with_reducible assumption

theorem loseSync_goes {s p y} : Goes [.csr, .xport] s (State.loseSync s p y) := by
  unfold State.loseSync
  extract_lets v1
  clear_value v1
  refine .ite ?_ ?_
  · exact .refl
  · exact .step (.xport .refl (by decide)) addSat_goes (by decide)

theorem putYarnIn_goes {s p y l} : Goes [.line] s (State.putYarnIn s p y l) := by
  unfold State.putYarnIn
  extract_lets v1
  clear_value v1
  exact .step .refl putPort_goes (by decide)

theorem resync_goes {s p y} : Goes [.xport, .line] s (State.resync s p y) := by
  unfold State.resync
  extract_lets v1 v2
  clear_value v1 v2
  split
  rename_i n3 n4 n5 n6
  split
  · rename_i n7 n8 n9
    extract_lets v10
    have h11 : Goes [.xport, .line] s v10
    · unfold v10
      exact .step .refl putYarnIn_goes (by decide)
    clear_value v10
    refine .xport ?_ (by decide)
    with_reducible assumption
  · rename_i n12 n13
    refine .ite ?_ ?_
    · exact .step .refl putYarnIn_goes (by decide)
    · exact .step .refl putYarnIn_goes (by decide)

theorem takeShard_goes {s p y} : GoesSnd [.csr, .xport, .line] s (State.takeShard s p y) := by
  unfold State.takeShard
  split
  rename_i n1 n2 n3 n4
  extract_lets v5 v6
  have h7 : Goes [.csr, .xport, .line] s v5
  · unfold v5
    refine .ite ?_ ?_
    · exact .step .refl loseSync_goes (by decide)
    · exact .refl
  clear_value v5
  have h8 : Goes [.csr, .xport, .line] s v6
  · unfold v6
    refine .ite ?_ ?_
    · refine .step ?_ resync_goes (by decide)
      with_reducible assumption
    · with_reducible assumption
  clear_value v6
  split
  rename_i n9 n10 n11 n12
  extract_lets v13
  clear_value v13
  refine .ite ?_ ?_
  · refine .mk ?_
    with_reducible assumption
  · refine .ite ?_ ?_
    · refine .mk (.step ?_ putYarnIn_goes (by decide))
      with_reducible assumption
    · refine .ite ?_ ?_
      · refine .mk (.step (.step ?_ loseSync_goes (by decide)) putYarnIn_goes (by decide))
        with_reducible assumption
      · refine .mk ?_
        with_reducible assumption

theorem delayStep_goes {s peer p step} : Goes [.csr, .out, .intc] s (State.delayStep s peer p step) := by
  unfold State.delayStep
  extract_lets v1 v2
  have h3 : Goes [.csr, .out, .intc] s v1
  · unfold v1
    exact .step (.step .refl xportLog_goes (by decide)) raise_goes (by decide)
  clear_value v1
  have h4 : Goes [.csr, .out, .intc] s v2
  · unfold v2
    refine .step (.step (.step ?_ set_goes (by decide)) set_goes (by decide)) set_goes (by decide)
    with_reducible assumption
  clear_value v2
  refine .step (.step ?_ report_goes (by decide)) raise_goes (by decide)
  with_reducible assumption

theorem measure_goes {s peer p txTime} : Goes [.csr, .mem, .poison, .out, .intc, .xport] s (State.measure s peer p txTime) := by
  unfold State.measure
  extract_lets v1 v2 v3 v4 v5 v6 v7 v8 v9 v10 v11 v12 v13 v14 v15 v16
  clear_value v1 v2 v3 v4 v5 v6 v7 v8
  have h17 : Goes [.csr, .mem, .poison, .out, .intc, .xport] s v10
  · unfold v10
    unfold v9
    extract_lets v18
    clear_value v18
    exact .xport .refl (by decide)
  clear_value v10 v11 v12 v13 v14
  have h19 : Goes [.csr, .mem, .poison, .out, .intc, .xport] s v15
  · unfold v15
    unfold v9
    extract_lets v20
    clear_value v20
    refine .xport ?_ (by decide)
    with_reducible assumption
  clear_value v15
  have h21 : Goes [.csr, .mem, .poison, .out, .intc, .xport] s v16
  · unfold v16
    refine .ite ?_ ?_
    · refine .step ?_ delayStep_goes (by decide)
      with_reducible assumption
    · with_reducible assumption
  clear_value v16
  refine .ite ?_ ?_
  · refine .step ?_ setPortClass_goes (by decide)
    with_reducible assumption
  · with_reducible assumption

theorem controlShardIn_goes {s j site b} : Goes [.csr, .mem, .poison, .xport] s (State.controlShardIn s j site b) := by
  unfold State.controlShardIn
  extract_lets v1 v2
  clear_value v1 v2
  refine .ite ?_ ?_
  · exact .step .refl addSat_goes (by decide)
  · refine .ite ?_ ?_
    · exact .step .refl addSat_goes (by decide)
    · split
      · rename_i n3 n4
        exact .step .refl addSat_goes (by decide)
      · rename_i n5 n6 n7
        extract_lets v8
        have h9 : Goes [.csr, .mem, .poison, .xport] s v8
        · unfold v8
          exact .step .refl writeBytes_goes (by decide)
        clear_value v8
        refine .step (.xport ?_ (by decide)) usageUpdate_goes (by decide)
        with_reducible assumption

theorem decodeCodeword_goes {s j site c} :
    Goes [.csr, .mem, .poison, .out, .intc, .myk, .xport] s (State.decodeCodeword s j site c) := by
  unfold State.decodeCodeword
  extract_lets v1 v2 v3
  clear_value v1 v2 v3
  split
  rename_i n4 n5 n6 n7
  extract_lets v8 v9
  have h10 : Goes [.csr, .mem, .poison, .out, .intc, .myk, .xport] s v8
  · unfold v8
    exact .step .refl putFlow_goes (by decide)
  clear_value v8
  have h11 : Goes [.csr, .mem, .poison, .out, .intc, .myk, .xport] s v9
  · unfold v9
    refine .ite ?_ ?_
    · refine .step ?_ addSat_goes (by decide)
      with_reducible assumption
    · refine .step (.step ?_ addSat_goes (by decide)) pmonEdge_goes (by decide)
      with_reducible assumption
  clear_value v9
  refine .step ?_ reassemble_goes (by decide)
  with_reducible assumption

theorem stageInto_goes {s : State} {j site seq x : Nat} {body : Bytes} :
    Goes [.csr, .mem, .poison, .out, .intc, .myk, .xport] s (s.stageInto j site seq x body) := by
  unfold State.stageInto
  split
  · exact .ite (.step (.step .refl putFlow_goes (by decide)) decodeCodeword_goes (by decide))
      (.step (.step .refl putFlow_goes (by decide)) shortTest_goes (by decide))
  · exact .refl

theorem stageShard_goes {s : State} {j site seq x : Nat} {body : Bytes} :
    Goes [.csr, .mem, .poison, .out, .intc, .myk, .xport] s (s.stageShard j site seq x body) := by
  unfold State.stageShard
  exact .step (.ite (.step .refl earlyClose_goes (by decide)) .refl) stageInto_goes (by decide)

theorem dataShard_goes {s j site b} : Goes [.csr, .mem, .poison, .out, .intc, .myk, .xport] s (State.dataShard s j site b) := by
  unfold State.dataShard
  extract_lets v1 v2 v3 v4 v5 v6 v7 v8 v9 v10
  clear_value v1 v2 v3 v4 v5 v6 v7 v8
  have h11 : Goes [.csr, .mem, .poison, .out, .intc, .myk, .xport] s v9
  · unfold v9
    exact .step .refl putFlow_goes (by decide)
  clear_value v9 v10
  refine .ite ?_ ?_
  · exact .step .refl addSat_goes (by decide)
  · refine .ite ?_ ?_
    · refine .step (.step ?_ addSat_goes (by decide)) shortTest_goes (by decide)
      with_reducible assumption
    · refine .step (.step ?_ stageShard_goes (by decide)) usageUpdate_goes (by decide)
      with_reducible assumption

theorem execShardReceived_goes {p y s} :
    GoesNext [.csr, .mem, .poison, .out, .intc, .myk, .xport, .line] s (execShardReceived p y s) := by
  unfold execShardReceived
  refine .ite ?_ ?_
  · exact .mk .refl
  · split
    · rename_i n1 n2 n3
      have h4 : Goes [.csr, .mem, .poison, .out, .intc, .myk, .xport, .line] s n2
      · exact GoesSnd.of n3 (.step .refl takeShard_goes (by decide))
      refine .mk ?_
      with_reducible assumption
    · rename_i n5 n6 n7 n8
      have h9 : Goes [.csr, .mem, .poison, .out, .intc, .myk, .xport, .line] s n7
      · exact GoesSnd.of n8 (.step .refl takeShard_goes (by decide))
      extract_lets v10 v11
      clear_value v10 v11
      split
      · rename_i n12 n13
        refine .mk (.step ?_ xportLog_goes (by decide))
        with_reducible assumption
      · rename_i n14 n15 n16
        extract_lets v17 v18 v19
        clear_value v17
        have h20 : Goes [.csr, .mem, .poison, .out, .intc, .myk, .xport, .line] s v18
        · unfold v18
          refine .step ?_ putFlow_goes (by decide)
          with_reducible assumption
        clear_value v18
        have h21 : Goes [.csr, .mem, .poison, .out, .intc, .myk, .xport, .line] s v19
        · unfold v19
          refine .step ?_ measure_goes (by decide)
          with_reducible assumption
        clear_value v19
        refine .ite ?_ ?_
        · refine .mk (.step ?_ controlShardIn_goes (by decide))
          with_reducible assumption
        · refine .mk (.step ?_ dataShard_goes (by decide))
          with_reducible assumption

theorem execShardWindowExpiry_goes {j peer cw s} :
    GoesNext [.csr, .mem, .poison, .xport] s (execShardWindowExpiry j peer cw s) := by
  unfold execShardWindowExpiry
  refine .ite ?_ ?_
  · exact .mk (.step .refl nack_goes (by decide))
  · exact .mk .refl

theorem execNackRepeatExpiry_goes {j peer cw s} :
    GoesNext [.csr, .mem, .poison, .xport] s (execNackRepeatExpiry j peer cw s) := by
  unfold execNackRepeatExpiry
  refine .ite ?_ ?_
  · exact .mk (.step .refl nack_goes (by decide))
  · exact .mk .refl

theorem controlTaken_goes {s j site seq ctype body} : Goes [.csr, .xport] s (State.controlTaken s j site seq ctype body) := by
  unfold State.controlTaken
  extract_lets v1 v2
  clear_value v2
  refine .ite ?_ ?_
  · exact .step .refl addSat_goes (by decide)
  · refine .ite ?_ ?_
    · unfold v1
      extract_lets v3
      clear_value v3
      exact .xport .refl (by decide)
    · refine .ite ?_ ?_
      · exact .refl
      · refine .ite ?_ ?_
        · unfold v1
          extract_lets v4
          clear_value v4
          exact .xport (.step .refl putFlow_goes (by decide)) (by decide)
        · split
          rename_i n5 n6 n7 n8
          unfold v1
          extract_lets v9
          clear_value v9
          exact .xport (.step .refl putFlow_goes (by decide)) (by decide)

theorem openedChunk_goes {s addr ok} :
    Goes [.csr, .mem, .poison, .out, .intc, .myk, .xport, .grp] s (State.openedChunk s addr ok) := by
  unfold State.openedChunk
  extract_lets v1
  clear_value v1
  split
  · rename_i n2 n3
    exact .refl
  · rename_i n4 n5 n6
    extract_lets v7 v8 v9
    have h10 : Goes [.csr, .mem, .poison, .out, .intc, .myk, .xport, .grp] s v7
    · unfold v7
      exact .step (.xport .refl (by decide)) usageUpdate_goes (by decide)
    clear_value v7
    have h11 : Goes [.csr, .mem, .poison, .out, .intc, .myk, .xport, .grp] s v8
    · unfold v8
      refine .ite ?_ ?_
      · refine .step ?_ ackChunk_goes (by decide)
        with_reducible assumption
      · with_reducible assumption
    clear_value v8
    have h12 : Goes [.csr, .mem, .poison, .out, .intc, .myk, .xport, .grp] s v9
    · unfold v9
      exact .step (.xport .refl (by decide)) usageUpdate_goes (by decide)
    clear_value v9
    refine .ite ?_ ?_
    · refine .step ?_ reassemble_goes (by decide)
      with_reducible assumption
    · refine .step ?_ chunkRefused_goes (by decide)
      with_reducible assumption

theorem openedControl_goes {s addr ok plain} : Goes [.csr, .xport] s (State.openedControl s addr ok plain) := by
  unfold State.openedControl
  extract_lets v1 v2
  clear_value v1 v2
  split
  · rename_i n3 n4
    exact .refl
  · rename_i n5 n6 n7
    extract_lets v8
    have h9 : Goes [.csr, .xport] s v8
    · unfold v8
      exact .step (.xport .refl (by decide)) usageUpdate_goes (by decide)
    clear_value v8
    refine .ite ?_ ?_
    · refine .step ?_ controlTaken_goes (by decide)
      with_reducible assumption
    · with_reducible assumption

end Sys2Proof.Machine
end

