-- ==== Sys2Proof/Laws/GoesCipher.lean ====
section
/-!
SUPPORT. Laws/GoesCipher.lean: what the operations of Machine/Contexts, KeyMail, Cipher, Resend keep (`Goes`, of
      Laws/Goes.lean): contexts, key mail, protection and resending.
Each `…_goes` lists the parts of the state that its operation may change.
-/
namespace Sys2Proof.Machine
open Csr

/-! ## Contexts -/

theorem residentUpdate_goes {s} : Goes [.csr] s (State.residentUpdate s) := by
  unfold State.residentUpdate
  exact .step .refl set_goes (by decide)

theorem putLedger_goes {s l} : Goes [.ciph] s (State.putLedger s l) := by
  unfold State.putLedger
  extract_lets v1
  clear_value v1
  exact .ciph .refl (by decide)

theorem ledgerInstall_goes {s id k gen ctr} : Goes [.ciph] s (State.ledgerInstall s id k gen ctr) := by
  unfold State.ledgerInstall
  exact .step .refl putLedger_goes (by decide)

theorem ledgerWrite_goes {s id k h} : Goes [.ciph] s (State.ledgerWrite s id k h) := by
  unfold State.ledgerWrite
  extract_lets v1
  clear_value v1
  exact .step .refl putLedger_goes (by decide)

theorem storeCtx_goes {s id c} : Goes [.mem, .poison, .ciph] s (State.storeCtx s id c) := by
  unfold State.storeCtx
  extract_lets v1 v2
  clear_value v1 v2
  exact .step (.ciph .refl (by decide)) writeBytes_goes (by decide)

theorem makeResident_goes {s id c} : Goes [.csr, .mem, .poison, .ciph] s (State.makeResident s id c) := by
  unfold State.makeResident
  extract_lets v1 v2 v3 v4 v5
  clear_value v1 v2 v3
  have h6 : Goes [.csr, .mem, .poison, .ciph] s v4
  · unfold v4
    split
    · rename_i n7
      exact .refl
    · rename_i n8 n9 n10
      exact .step .refl storeCtx_goes (by decide)
  clear_value v4 v5
  refine .step (.ciph ?_ (by decide)) residentUpdate_goes (by decide)
  with_reducible assumption

theorem ciphLog_goes {s reason ctx site queue} : Goes [.csr, .out] s (State.ciphLog s reason ctx site queue) := by
  unfold State.ciphLog
  refine .step (.step (.step (.step ?_ set_goes (by decide)) set_goes (by decide)) set_goes (by decide)) report_goes (by decide)
  exact .step .refl set_goes (by decide)

theorem ctxLost_goes {s id} : Goes [.csr, .out, .intc, .ciph] s (State.ctxLost s id) := by
  unfold State.ctxLost
  extract_lets v1 v2
  clear_value v1
  have h3 : Goes [.csr, .out, .intc, .ciph] s v2
  · unfold v2
    exact .ciph .refl (by decide)
  clear_value v2
  refine .step (.step ?_ ciphLog_goes (by decide)) raise_goes (by decide)
  with_reducible assumption

theorem fetchCtx_goes {s id cls} : GoesSnd [.csr, .mem, .poison, .out, .intc, .ciph] s (State.fetchCtx s id cls) := by
  unfold State.fetchCtx
  extract_lets v1 v2 v3
  clear_value v1 v2
  have h4 : Goes [.csr, .mem, .poison, .out, .intc, .ciph] s v3
  · unfold v3
    exact .step (.step (.ciph .refl (by decide)) addSat_goes (by decide)) pmonEdge_goes (by decide)
  clear_value v3
  refine .ite ?_ ?_
  · exact .mk .refl
  · split
    · rename_i n5 n6 n7 n8
      exact .mk (.step .refl makeResident_goes (by decide))
    · rename_i n9 n10
      split
      · rename_i n11 n12
        refine .mk (.step ?_ ctxLost_goes (by decide))
        with_reducible assumption
      · rename_i n13 n14 n15 n16
        refine .mk (.step ?_ makeResident_goes (by decide))
        with_reducible assumption

theorem putCtx_goes {s id c} : Goes [.csr, .mem, .poison, .ciph] s (State.putCtx s id c) := by
  unfold State.putCtx
  extract_lets v1
  clear_value v1
  exact .step (.ciph .refl (by decide)) makeResident_goes (by decide)

theorem dropCtx_goes {s id} : Goes [.csr, .mem, .poison, .ciph] s (State.dropCtx s id) := by
  unfold State.dropCtx
  extract_lets v1
  clear_value v1
  exact .step (.step (.ciph .refl (by decide)) writeBytes_goes (by decide)) residentUpdate_goes (by decide)

/-! ## KeyMail -/

theorem updCtx_goes {s id f} : Goes [.csr, .mem, .poison, .ciph] s (State.updCtx s id f) := by
  unfold State.updCtx
  split
  · rename_i n1 n2
    exact .refl
  · rename_i n3 n4 n5
    exact .step .refl putCtx_goes (by decide)

theorem setRekey_goes {s e peer st} : Goes [.csr, .mem, .poison, .ciph] s (State.setRekey s e peer st) := by
  unfold State.setRekey
  exact .step (.step .refl updCtx_goes (by decide)) updCtx_goes (by decide)

theorem putEstablish_goes {s e peer x} : Goes [.ciph] s (State.putEstablish s e peer x) := by
  unfold State.putEstablish
  extract_lets v1
  clear_value v1
  exact .ciph .refl (by decide)

theorem steadyIfDone_goes {s e peer} : Goes [.csr, .mem, .poison, .out, .intc, .ciph] s (State.steadyIfDone s e peer) := by
  unfold State.steadyIfDone
  split
  · rename_i n1 n2
    exact .refl
  · rename_i n3 n4 n5
    extract_lets v6 v7
    have h8 : Goes [.csr, .mem, .poison, .out, .intc, .ciph] s v6
    · unfold v6
      exact .step .refl updCtx_goes (by decide)
    clear_value v6
    have h9 : Goes [.csr, .mem, .poison, .out, .intc, .ciph] s v7
    · unfold v7
      refine .step (.step ?_ putEstablish_goes (by decide)) setRekey_goes (by decide)
      with_reducible assumption
    clear_value v7
    refine .ite ?_ ?_
    · refine .step (.step ?_ ciphLog_goes (by decide)) raise_goes (by decide)
      with_reducible assumption
    · exact .refl

theorem takeRetire_goes {s e peer x} : Goes [.csr, .mem, .poison, .out, .intc, .ciph] s (State.takeRetire s e peer x) := by
  unfold State.takeRetire
  extract_lets v1 v2 v3
  clear_value v1
  have h4 : Goes [.csr, .mem, .poison, .out, .intc, .ciph] s v2
  · unfold v2
    exact .step .refl updCtx_goes (by decide)
  clear_value v2
  have h5 : Goes [.csr, .mem, .poison, .out, .intc, .ciph] s v3
  · unfold v3
    refine .step (.step (.step ?_ ciphLog_goes (by decide)) addSat_goes (by decide)) raise_goes (by decide)
    with_reducible assumption
  clear_value v3
  split
  · rename_i n6 n7
    with_reducible assumption
  · rename_i n8 n9 n10
    refine .step (.step ?_ putEstablish_goes (by decide)) steadyIfDone_goes (by decide)
    with_reducible assumption

theorem randomBytes_goes {s} : GoesSnd [.freeCtr] s (State.randomBytes s) := by
  unfold State.randomBytes
  extract_lets v1
  have h2 : GoesSnd [.freeCtr] s v1
  · unfold v1
    refine .foldl ?_ (fun x3 y4 h5 => ?_)
    · exact .mk .refl
    · refine .mk (.snd (.step (.snd ?_) fresh_goes (by decide)))
      with_reducible assumption
  clear_value v1
  with_reducible assumption

theorem mailPut_goes {s env} : Goes [.csr, .mem, .poison, .out, .intc, .myk, .ciph] s (State.mailPut s env) := by
  unfold State.mailPut
  extract_lets v1 v2 v3
  clear_value v1 v2 v3
  refine .ite ?_ ?_
  · exact .step (.ciph .refl (by decide)) set_goes (by decide)
  · exact .step (.step (.step .refl hostWrite_goes (by decide)) set_goes (by decide)) raise_goes (by decide)

theorem sendMail_goes {s site type entries cert} :
    Goes [.csr, .mem, .poison, .out, .intc, .myk, .ciph] s (State.sendMail s site type entries cert) := by
  unfold State.sendMail
  extract_lets v1 v2 v3 v4 v5 v6 v7 v8
  clear_value v1 v2
  have h9 : Goes [.csr, .mem, .poison, .out, .intc, .myk, .ciph] s v3
  · unfold v3
    exact .ciph .refl (by decide)
  clear_value v3 v4 v5 v6 v7 v8
  refine .step ?_ mailPut_goes (by decide)
  with_reducible assumption

theorem installSlot_goes {s id e peer rx x} : Goes [.csr, .mem, .poison, .ciph] s (State.installSlot s id e peer rx x) := by
  unfold State.installSlot
  extract_lets v1 v2 v3 v4 v5 v6
  clear_value v1 v2 v3
  have h7 : Goes [.csr, .mem, .poison, .ciph] s v4
  · unfold v4
    refine .ite ?_ ?_
    · exact .refl
    · exact .step .refl ledgerInstall_goes (by decide)
  clear_value v4 v5
  have h8 : Goes [.csr, .mem, .poison, .ciph] s v6
  · unfold v6
    refine .ciph ?_ (by decide)
    with_reducible assumption
  clear_value v6
  refine .step ?_ putCtx_goes (by decide)
  with_reducible assumption

theorem installPair_goes {s e peer gen d} : GoesDone [.csr, .mem, .poison, .ciph] s (State.installPair s e peer gen d) := by
  unfold State.installPair
  extract_lets v1 v2 v3 v4 v5 v6
  clear_value v1 v2 v3 v4 v5 v6
  refine .ite ?_ ?_
  · exact .no (fun _ h => nomatch h)
  · refine .ite ?_ ?_
    · exact .no (fun _ h => nomatch h)
    · refine .ite ?_ ?_
      · exact .no (fun _ h => nomatch h)
      · refine .ite ?_ ?_
        · exact .no (fun _ h => nomatch h)
        · exact .mk (.step (.step .refl installSlot_goes (by decide)) installSlot_goes (by decide))

theorem acceptOffer_goes {s e peer x} :
    Goes [.csr, .mem, .poison, .out, .freeCtr, .intc, .myk, .ciph] s (State.acceptOffer s e peer x) := by
  unfold State.acceptOffer
  extract_lets v1 v2
  clear_value v1 v2
  refine .ite ?_ ?_
  · exact .refl
  · refine .ite ?_ ?_
    · exact .step .refl ciphLog_goes (by decide)
    · split
      rename_i n3 n4 n5 n6
      have h7 : Goes [.csr, .mem, .poison, .out, .freeCtr, .intc, .myk, .ciph] s n5
      · exact GoesSnd.of n6 (.step .refl randomBytes_goes (by decide))
      extract_lets v8 v9 v10 v11
      clear_value v8 v9 v10
      split
      · rename_i n12 n13 n14
        refine .step ?_ ciphLog_goes (by decide)
        with_reducible assumption
      · rename_i n15 n16 n17
        with_reducible assumption
      · rename_i n18 n19
        unfold v11
        refine .step ?_ sendMail_goes (by decide)
        with_reducible assumption
      · rename_i n20 n21 n22
        have h23 : Goes [.csr, .mem, .poison, .out, .freeCtr, .intc, .myk, .ciph] s n21
        · refine GoesDone.of n22 (.step ?_ installPair_goes (by decide))
          with_reducible assumption
        unfold v11
        refine .step (.step (.step ?_ putEstablish_goes (by decide)) setRekey_goes (by decide)) sendMail_goes (by decide)
        with_reducible assumption

theorem mailNext_goes {s} : GoesOpt [.csr] s (State.mailNext s) := by
  unfold State.mailNext
  refine .ite ?_ ?_
  · exact .none
  · exact .mk (.step .refl set_goes (by decide))

theorem mailReject_goes {s site reason} : Goes [.csr, .out, .intc] s (State.mailReject s site reason) := by
  unfold State.mailReject
  exact .step (.step (.step .refl ciphLog_goes (by decide)) addSat_goes (by decide)) raise_goes (by decide)

theorem sendAbort_goes {s site reason} :
    Goes [.csr, .mem, .poison, .out, .intc, .myk, .ciph] s (State.sendAbort s site reason) := by
  unfold State.sendAbort
  exact .step .refl sendMail_goes (by decide)

theorem mailCheck_goes {s env} : GoesSnd [.csr, .mem, .poison, .out, .intc, .myk, .ciph] s (State.mailCheck s env) := by
  unfold State.mailCheck
  extract_lets v1 v2 v3 v4
  clear_value v1
  have h5 : Goes [.csr, .mem, .poison, .out, .intc, .myk, .ciph] s v2
  · unfold v2
    exact .step .refl mailReject_goes (by decide)
  clear_value v2 v3 v4
  refine .ite ?_ ?_
  · exact .mk (.step .refl mailReject_goes (by decide))
  · split
    · rename_i n6 n7
      refine .mk (.ite ?_ ?_)
      · with_reducible assumption
      · refine .step ?_ sendAbort_goes (by decide)
        with_reducible assumption
    · rename_i n8 n9 n10 n11
      refine .ite ?_ ?_
      · exact .mk (.step .refl mailReject_goes (by decide))
      · refine .ite ?_ ?_
        · exact .mk (.step .refl mailReject_goes (by decide))
        · exact .mk (.ciph .refl (by decide))

theorem sendCert_goes {s site} : Goes [.csr, .mem, .poison, .out, .intc, .myk, .ciph] s (State.sendCert s site) := by
  unfold State.sendCert
  exact .step .refl sendMail_goes (by decide)

theorem runKeymailAbort_goes {env s} : GoesNext [.csr, .mem, .poison, .out, .intc, .myk, .ciph] s (runKeymailAbort env s) := by
  unfold runKeymailAbort
  refine .ite ?_ ?_
  · exact .mk .refl
  · split
    · rename_i n1 n2
      exact .mk .refl
    · rename_i n3 n4 n5
      have h6 : Goes [.csr, .mem, .poison, .out, .intc, .myk, .ciph] s n4
      · exact GoesOpt.of n5 (.step .refl mailNext_goes (by decide))
      split
      · rename_i n7 n8 n9
        have h10 : Goes [.csr, .mem, .poison, .out, .intc, .myk, .ciph] s n8
        · refine GoesSnd.of n9 (.step ?_ mailCheck_goes (by decide))
          with_reducible assumption
        refine .mk ?_
        with_reducible assumption
      · rename_i n11 n12 n13 n14
        have h15 : Goes [.csr, .mem, .poison, .out, .intc, .myk, .ciph] s n13
        · refine GoesSnd.of n14 (.step ?_ mailCheck_goes (by decide))
          with_reducible assumption
        refine .ite ?_ ?_
        · refine .mk (.step ?_ sendCert_goes (by decide))
          with_reducible assumption
        · refine .mk ?_
          with_reducible assumption

theorem retireOld_goes {s e peer} : Goes [.csr, .mem, .poison, .out, .intc, .myk, .ciph] s (State.retireOld s e peer) := by
  unfold State.retireOld
  extract_lets v1
  clear_value v1
  split
  · rename_i n2 n3 n4 n5 n6 n7
    extract_lets v8 v9 v10 v11
    clear_value v8 v9
    have h12 : Goes [.csr, .mem, .poison, .out, .intc, .myk, .ciph] s v10
    · unfold v10
      exact .step .refl putCtx_goes (by decide)
    clear_value v10
    have h13 : Goes [.csr, .mem, .poison, .out, .intc, .myk, .ciph] s v11
    · unfold v11
      refine .step ?_ sendMail_goes (by decide)
      with_reducible assumption
    clear_value v11
    refine .ite ?_ ?_
    · exact .refl
    · refine .step (.step ?_ putEstablish_goes (by decide)) steadyIfDone_goes (by decide)
      with_reducible assumption
  · rename_i n14 n15 n16
    exact .refl

theorem runKeymailRetire_goes {env s} : GoesNext [.csr, .mem, .poison, .out, .intc, .myk, .ciph] s (runKeymailRetire env s) := by
  unfold runKeymailRetire
  refine .mk ?_
  unfold State.takeMailbox
  refine .ite ?_ ?_
  · exact .refl
  · split
    · rename_i n1 n2
      exact .refl
    · rename_i n3 n4 n5
      have h6 : Goes [.csr, .mem, .poison, .out, .intc, .myk, .ciph] s n4
      · exact GoesOpt.of n5 (.step .refl mailNext_goes (by decide))
      split
      · rename_i n7 n8 n9
        have h10 : Goes [.csr, .mem, .poison, .out, .intc, .myk, .ciph] s n8
        · refine GoesSnd.of n9 (.step ?_ mailCheck_goes (by decide))
          with_reducible assumption
        with_reducible assumption
      · rename_i n11 n12 n13 n14
        have h15 : Goes [.csr, .mem, .poison, .out, .intc, .myk, .ciph] s n13
        · refine GoesSnd.of n14 (.step ?_ mailCheck_goes (by decide))
          with_reducible assumption
        refine .foldl ?_ (fun x16 y17 h18 => ?_)
        · with_reducible assumption
        · split
          · rename_i n19 n20
            with_reducible assumption
          · rename_i n21 n22 n23
            refine .step ?_ takeRetire_goes (by decide)
            with_reducible assumption

theorem switchActive_goes {s e peer} : Goes [.csr, .mem, .poison, .ciph] s (State.switchActive s e peer) := by
  unfold State.switchActive
  exact .step .refl updCtx_goes (by decide)

theorem sendOffer_goes {s e peer gen} :
    Goes [.csr, .mem, .poison, .out, .freeCtr, .intc, .myk, .ciph] s (State.sendOffer s e peer gen) := by
  unfold State.sendOffer
  refine .ite ?_ ?_
  · exact .step .refl ciphLog_goes (by decide)
  · split
    rename_i n1 n2 n3 n4
    have h5 : Goes [.csr, .mem, .poison, .out, .freeCtr, .intc, .myk, .ciph] s n3
    · exact GoesSnd.of n4 (.step .refl randomBytes_goes (by decide))
    split
    rename_i n6 n7 n8 n9
    extract_lets v10 v11
    clear_value v10
    have h12 : Goes [.csr, .mem, .poison, .out, .freeCtr, .intc, .myk, .ciph] s v11
    · unfold v11
      refine .step ?_ putEstablish_goes (by decide)
      with_reducible assumption
    clear_value v11
    refine .step (.step ?_ setRekey_goes (by decide)) sendMail_goes (by decide)
    with_reducible assumption

theorem runKeymailOffer_goes {env s} :
    GoesNext [.csr, .mem, .poison, .out, .freeCtr, .intc, .myk, .ciph] s (runKeymailOffer env s) := by
  unfold runKeymailOffer
  refine .mk ?_
  unfold State.takeMailbox
  refine .ite ?_ ?_
  · exact .refl
  · split
    · rename_i n1 n2
      exact .refl
    · rename_i n3 n4 n5
      have h6 : Goes [.csr, .mem, .poison, .out, .freeCtr, .intc, .myk, .ciph] s n4
      · exact GoesOpt.of n5 (.step .refl mailNext_goes (by decide))
      split
      · rename_i n7 n8 n9
        have h10 : Goes [.csr, .mem, .poison, .out, .freeCtr, .intc, .myk, .ciph] s n8
        · refine GoesSnd.of n9 (.step ?_ mailCheck_goes (by decide))
          with_reducible assumption
        with_reducible assumption
      · rename_i n11 n12 n13 n14
        have h15 : Goes [.csr, .mem, .poison, .out, .freeCtr, .intc, .myk, .ciph] s n13
        · refine GoesSnd.of n14 (.step ?_ mailCheck_goes (by decide))
          with_reducible assumption
        refine .foldl ?_ (fun x16 y17 h18 => ?_)
        · with_reducible assumption
        · split
          · rename_i n19 n20
            with_reducible assumption
          · rename_i n21 n22 n23
            refine .step ?_ acceptOffer_goes (by decide)
            with_reducible assumption

theorem takeAccept_goes {s e peer x} :
    Goes [.csr, .mem, .poison, .out, .freeCtr, .intc, .myk, .ciph] s (State.takeAccept s e peer x) := by
  unfold State.takeAccept
  split
  · rename_i n1 n2
    exact .refl
  · rename_i n3 n4 n5
    extract_lets v6 v7
    clear_value v6 v7
    refine .ite ?_ ?_
    · exact .refl
    · split
      · rename_i n8 n9 n10
        exact .step (.step (.step .refl putEstablish_goes (by decide)) setRekey_goes (by decide)) ciphLog_goes (by decide)
      · rename_i n11 n12
        exact .step .refl sendOffer_goes (by decide)
      · rename_i n13 n14 n15
        exact .step .refl sendOffer_goes (by decide)
      · rename_i n16 n17 n18
        have h19 : Goes [.csr, .mem, .poison, .out, .freeCtr, .intc, .myk, .ciph] s n17
        · exact GoesDone.of n18 (.step .refl installPair_goes (by decide))
        extract_lets v20
        have h21 : Goes [.csr, .mem, .poison, .out, .freeCtr, .intc, .myk, .ciph] s v20
        · unfold v20
          refine .step (.step (.step ?_ switchActive_goes (by decide)) putEstablish_goes (by decide)) setRekey_goes (by decide)
          with_reducible assumption
        clear_value v20
        refine .step (.step ?_ addSat_goes (by decide)) sendMail_goes (by decide)
        with_reducible assumption

theorem runKeymailAccept_goes {env s} :
    GoesNext [.csr, .mem, .poison, .out, .freeCtr, .intc, .myk, .ciph] s (runKeymailAccept env s) := by
  unfold runKeymailAccept
  refine .mk ?_
  unfold State.takeMailbox
  refine .ite ?_ ?_
  · exact .refl
  · split
    · rename_i n1 n2
      exact .refl
    · rename_i n3 n4 n5
      have h6 : Goes [.csr, .mem, .poison, .out, .freeCtr, .intc, .myk, .ciph] s n4
      · exact GoesOpt.of n5 (.step .refl mailNext_goes (by decide))
      split
      · rename_i n7 n8 n9
        have h10 : Goes [.csr, .mem, .poison, .out, .freeCtr, .intc, .myk, .ciph] s n8
        · refine GoesSnd.of n9 (.step ?_ mailCheck_goes (by decide))
          with_reducible assumption
        with_reducible assumption
      · rename_i n11 n12 n13 n14
        have h15 : Goes [.csr, .mem, .poison, .out, .freeCtr, .intc, .myk, .ciph] s n13
        · refine GoesSnd.of n14 (.step ?_ mailCheck_goes (by decide))
          with_reducible assumption
        refine .foldl ?_ (fun x16 y17 h18 => ?_)
        · with_reducible assumption
        · split
          · rename_i n19 n20
            with_reducible assumption
          · rename_i n21 n22 n23
            refine .step ?_ takeAccept_goes (by decide)
            with_reducible assumption

theorem takeConfirm_goes {s e peer x} : Goes [.csr, .mem, .poison, .ciph] s (State.takeConfirm s e peer x) := by
  unfold State.takeConfirm
  split
  · rename_i n1 n2
    exact .refl
  · rename_i n3 n4 n5
    refine .ite ?_ ?_
    · exact .step (.step (.step .refl switchActive_goes (by decide)) setRekey_goes (by decide)) addSat_goes (by decide)
    · exact .refl

theorem runKeymailCert_goes {env s} : GoesNext [.csr, .out, .intc, .ciph] s (runKeymailCert env s) := by
  unfold runKeymailCert
  extract_lets v1 v2 v3
  clear_value v1 v2 v3
  refine .ite ?_ ?_
  · exact .mk .refl
  · split
    · rename_i n4 n5
      exact .mk .refl
    · rename_i n6 n7 n8
      have h9 : Goes [.csr, .out, .intc, .ciph] s n7
      · exact GoesOpt.of n8 (.step .refl mailNext_goes (by decide))
      extract_lets v10 v11
      clear_value v10 v11
      refine .ite ?_ ?_
      · refine .mk (.step ?_ mailReject_goes (by decide))
        with_reducible assumption
      · refine .ite ?_ ?_
        · refine .mk (.step ?_ mailReject_goes (by decide))
          with_reducible assumption
        · refine .mk (.ciph ?_ (by decide))
          with_reducible assumption

theorem startRekey_goes {s e peer} :
    Goes [.csr, .mem, .poison, .out, .freeCtr, .intc, .myk, .ciph] s (State.startRekey s e peer) := by
  unfold State.startRekey
  refine .ite ?_ ?_
  · exact .step .refl sendOffer_goes (by decide)
  · exact .refl

theorem runRekeyInterval_goes {e peer s} :
    GoesNext [.csr, .mem, .poison, .out, .freeCtr, .intc, .myk, .ciph] s (runRekeyInterval e peer s) := by
  unfold runRekeyInterval
  refine .ite ?_ ?_
  · exact .mk .refl
  · exact .mk (.step .refl startRekey_goes (by decide))

theorem mailFlush_goes {s} : Goes [.csr, .mem, .poison, .out, .intc, .myk, .ciph] s (State.mailFlush s) := by
  unfold State.mailFlush
  extract_lets v1 v2
  clear_value v1 v2
  refine .foldl ?_ (fun x3 y4 h5 => ?_)
  · exact .step (.ciph .refl (by decide)) set_goes (by decide)
  · refine .step ?_ mailPut_goes (by decide)
    with_reducible assumption

theorem runOldSlotRetire_goes {e peer s} :
    GoesNext [.csr, .mem, .poison, .out, .intc, .myk, .ciph] s (runOldSlotRetire e peer s) := by
  unfold runOldSlotRetire
  exact .mk (.step .refl retireOld_goes (by decide))

theorem runRekeyTimeout_goes {e peer s} : GoesNext [.csr, .mem, .poison, .out, .intc, .ciph] s (runRekeyTimeout e peer s) := by
  unfold runRekeyTimeout
  extract_lets v1
  have h2 : Goes [.csr, .mem, .poison, .out, .intc, .ciph] s v1
  · unfold v1
    exact .step (.step .refl putEstablish_goes (by decide)) setRekey_goes (by decide)
  clear_value v1
  refine .ite ?_ ?_
  · refine .mk (.step (.step (.step ?_ ciphLog_goes (by decide)) addSat_goes (by decide)) raise_goes (by decide))
    with_reducible assumption
  · exact .mk .refl

theorem runRekeyRetry_goes {e peer s} :
    GoesNext [.csr, .mem, .poison, .out, .freeCtr, .intc, .myk, .ciph] s (runRekeyRetry e peer s) := by
  unfold runRekeyRetry
  exact .mk (.step .refl startRekey_goes (by decide))

theorem runKeymailConfirm_goes {env s} :
    GoesNext [.csr, .mem, .poison, .out, .intc, .myk, .ciph] s (runKeymailConfirm env s) := by
  unfold runKeymailConfirm
  refine .mk ?_
  unfold State.takeMailbox
  refine .ite ?_ ?_
  · exact .refl
  · split
    · rename_i n1 n2
      exact .refl
    · rename_i n3 n4 n5
      have h6 : Goes [.csr, .mem, .poison, .out, .intc, .myk, .ciph] s n4
      · exact GoesOpt.of n5 (.step .refl mailNext_goes (by decide))
      split
      · rename_i n7 n8 n9
        have h10 : Goes [.csr, .mem, .poison, .out, .intc, .myk, .ciph] s n8
        · refine GoesSnd.of n9 (.step ?_ mailCheck_goes (by decide))
          with_reducible assumption
        with_reducible assumption
      · rename_i n11 n12 n13 n14
        have h15 : Goes [.csr, .mem, .poison, .out, .intc, .myk, .ciph] s n13
        · refine GoesSnd.of n14 (.step ?_ mailCheck_goes (by decide))
          with_reducible assumption
        refine .foldl ?_ (fun x16 y17 h18 => ?_)
        · with_reducible assumption
        · split
          · rename_i n19 n20
            with_reducible assumption
          · rename_i n21 n22 n23
            refine .step ?_ takeConfirm_goes (by decide)
            with_reducible assumption

theorem runConfirmResend_goes {e peer s} :
    GoesNext [.csr, .mem, .poison, .out, .intc, .myk, .ciph] s (runConfirmResend e peer s) := by
  unfold runConfirmResend
  split
  · rename_i n1 n2
    exact .mk .refl
  · rename_i n3 n4 n5
    refine .ite ?_ ?_
    · exact .mk (.step .refl sendMail_goes (by decide))
    · exact .mk .refl

/-! ## Cipher -/

theorem ciphFail_goes {s op w reason} :
    Goes [.csr, .mem, .poison, .out, .intc, .myk, .hostq] s (State.ciphFail s op w reason) := by
  unfold State.ciphFail
  extract_lets v1 v2 v3
  have h4 : Goes [.csr, .mem, .poison, .out, .intc, .myk, .hostq] s v1
  · unfold v1
    exact .step .refl ciphLog_goes (by decide)
  clear_value v1
  have h5 : Goes [.csr, .mem, .poison, .out, .intc, .myk, .hostq] s v2
  · unfold v2
    refine .step (.step ?_ set_goes (by decide)) set_goes (by decide)
    with_reducible assumption
  clear_value v2
  have h6 : Goes [.csr, .mem, .poison, .out, .intc, .myk, .hostq] s v3
  · unfold v3
    refine .ite ?_ ?_
    · refine .step ?_ logAccess_goes (by decide)
      with_reducible assumption
    · refine .ite ?_ ?_
      · refine .step ?_ violation_goes (by decide)
        with_reducible assumption
      · refine .ite ?_ ?_
        · refine .step ?_ addSat_goes (by decide)
          with_reducible assumption
        · refine .ite ?_ ?_
          · refine .step (.step ?_ addSat_goes (by decide)) raise_goes (by decide)
            with_reducible assumption
          · refine .ite ?_ ?_
            · refine .step (.step ?_ addSat_goes (by decide)) raise_goes (by decide)
              with_reducible assumption
            · refine .ite ?_ ?_
              · refine .step (.step ?_ addSat_goes (by decide)) raise_goes (by decide)
                with_reducible assumption
              · refine .ite ?_ ?_
                · refine .step ?_ raise_goes (by decide)
                  with_reducible assumption
                · with_reducible assumption
  clear_value v3
  refine .step ?_ finishError_goes (by decide)
  with_reducible assumption

theorem recordCtx_goes {s w rx} : GoesSnd [.csr, .mem, .poison, .out, .intc, .ciph] s (State.recordCtx s w rx) := by
  unfold State.recordCtx
  split
  · rename_i n1 n2 n3 n4
    have h5 : Goes [.csr, .mem, .poison, .out, .intc, .ciph] s n3
    · exact GoesSnd.of n4 (.step .refl fetchCtx_goes (by decide))
    refine .mk ?_
    with_reducible assumption
  · rename_i n6 n7 n8 n9
    have h10 : Goes [.csr, .mem, .poison, .out, .intc, .ciph] s n8
    · exact GoesSnd.of n9 (.step .refl fetchCtx_goes (by decide))
    refine .ite ?_ ?_
    · refine .mk ?_
      with_reducible assumption
    · refine .ite ?_ ?_
      · refine .mk ?_
        with_reducible assumption
      · refine .mk ?_
        with_reducible assumption

theorem openEnded_goes {s w plain} :
    Goes [.csr, .mem, .poison, .out, .intc, .myk, .xport, .grp] s (State.openEnded s w plain) := by
  unfold State.openEnded
  refine .ite ?_ ?_
  · exact .step .refl openedControl_goes (by decide)
  · exact .step .refl openedChunk_goes (by decide)

theorem pipeCap_goes {s} : Goes [.csr] s (State.pipeCap s) := by
  unfold State.pipeCap
  extract_lets v1 v2
  clear_value v1 v2
  exact .step (.step .refl set_goes (by decide)) set_goes (by decide)

theorem pipeFault_goes {s u w again} :
    Goes [.csr, .mem, .poison, .out, .freeCtr, .intc, .myk, .hostq, .hlth, .ciph, .rerun] s (State.pipeFault s u w again) := by
  unfold State.pipeFault
  extract_lets v1 v2 v3 v4
  clear_value v1
  have h5 : Goes [.csr, .mem, .poison, .out, .freeCtr, .intc, .myk, .hostq, .hlth, .ciph, .rerun] s v2
  · unfold v2
    exact .step (.ciph .refl (by decide)) pipeCap_goes (by decide)
  clear_value v2
  have h6 : Goes [.csr, .mem, .poison, .out, .freeCtr, .intc, .myk, .hostq, .hlth, .ciph, .rerun] s v3
  · unfold v3
    refine .step (.step (.step ?_ ciphLog_goes (by decide)) raise_goes (by decide)) quarantineCount_goes (by decide)
    with_reducible assumption
  clear_value v3
  have h7 : Goes [.csr, .mem, .poison, .out, .freeCtr, .intc, .myk, .hostq, .hlth, .ciph, .rerun] s v4
  · unfold v4
    refine .step (.step ?_ health_goes (by decide)) capChange_goes (by decide)
    with_reducible assumption
  clear_value v4
  refine .ite ?_ ?_
  · refine .step ?_ finish_goes (by decide)
    with_reducible assumption
  · refine .rerun ?_ (by decide)
    with_reducible assumption

theorem openRun_goes {s w fault again} :
    Goes [.csr, .mem, .poison, .out, .freeCtr, .intc, .myk, .hostq, .hlth, .ciph, .xport, .grp,
      .rerun] s (State.openRun s w fault again) := by
  unfold State.openRun
  extract_lets v1 v2 v3
  clear_value v1 v2 v3
  split
  · rename_i n4 n5 n6
    exact .step .refl ciphFail_goes (by decide)
  · rename_i n7 n8
    split
    · rename_i n9 n10 n11 n12
      have h13 : Goes [.csr, .mem, .poison, .out, .freeCtr, .intc, .myk, .hostq, .hlth, .ciph, .xport, .grp, .rerun] s n11
      · exact GoesSnd.of n12 (.step .refl recordCtx_goes (by decide))
      refine .step ?_ ciphFail_goes (by decide)
      with_reducible assumption
    · rename_i n14 n15 n16 n17
      have h18 : Goes [.csr, .mem, .poison, .out, .freeCtr, .intc, .myk, .hostq, .hlth, .ciph, .xport, .grp, .rerun] s n16
      · exact GoesSnd.of n17 (.step .refl recordCtx_goes (by decide))
      extract_lets v19 v20 v21 v22 v23
      clear_value v19
      have h24 : Goes [.csr, .mem, .poison, .out, .freeCtr, .intc, .myk, .hostq, .hlth, .ciph, .xport, .grp, .rerun] s v20
      · unfold v20
        refine .step ?_ readEvents_goes (by decide)
        with_reducible assumption
      clear_value v20 v21 v22 v23
      refine .ite ?_ ?_
      · refine .step ?_ ciphFail_goes (by decide)
        with_reducible assumption
      · split
        · rename_i n25 n26
          refine .step (.step ?_ ciphFail_goes (by decide)) openEnded_goes (by decide)
          with_reducible assumption
        · rename_i n27 n28 n29
          refine .ite ?_ ?_
          · refine .step (.step ?_ ciphFail_goes (by decide)) openEnded_goes (by decide)
            with_reducible assumption
          · split
            · rename_i n30 n31 n32
              refine .step ?_ pipeFault_goes (by decide)
              with_reducible assumption
            · rename_i n33 n34
              split
              · rename_i n35 n36
                refine .step (.step ?_ ciphFail_goes (by decide)) openEnded_goes (by decide)
                with_reducible assumption
              · rename_i n37 n38 n39
                extract_lets v40
                have h41 : Goes [.csr, .mem, .poison, .out, .freeCtr, .intc, .myk, .hostq, .hlth, .ciph, .xport, .grp, .rerun] s v40
                · unfold v40
                  refine .step (.step ?_ engineWrite_goes (by decide)) pmonEdge_goes (by decide)
                  with_reducible assumption
                clear_value v40
                refine .step (.step ?_ finish_goes (by decide)) openEnded_goes (by decide)
                with_reducible assumption

theorem sealControl_goes {s w k n c} :
    Goes [.csr, .mem, .poison, .out, .intc, .myk, .sched, .xport] s (State.sealControl s w k n c) := by
  unfold State.sealControl
  extract_lets v1 v2 v3 v4 v5 v6
  clear_value v1 v2 v3 v4
  have h7 : Goes [.csr, .mem, .poison, .out, .intc, .myk, .sched, .xport] s v5
  · unfold v5
    exact .step (.step .refl readEvents_goes (by decide)) engineWrite_goes (by decide)
  clear_value v5 v6
  refine .step (.step ?_ engineWrite_goes (by decide)) controlSealed_goes (by decide)
  with_reducible assumption

theorem chunkSealed_goes {s w k c} : Goes [.xport] s (State.chunkSealed s w k c) := by
  unfold State.chunkSealed
  extract_lets v1 v2
  clear_value v1 v2
  split
  · rename_i n3 n4
    exact .refl
  · rename_i n5 n6 n7
    extract_lets v8 v9
    clear_value v9
    exact .xport .refl (by decide)

theorem sealChunk_goes {s w k n c} : Goes [.csr, .mem, .poison, .out, .intc, .myk, .xport] s (State.sealChunk s w k n c) := by
  unfold State.sealChunk
  extract_lets v1 v2 v3 v4 v5 v6
  clear_value v1 v2 v3
  have h7 : Goes [.csr, .mem, .poison, .out, .intc, .myk, .xport] s v4
  · unfold v4
    exact .step .refl readEvents_goes (by decide)
  clear_value v4
  have h8 : Goes [.csr, .mem, .poison, .out, .intc, .myk, .xport] s v5
  · unfold v5
    refine .step (.step ?_ engineWrite_goes (by decide)) engineWrite_goes (by decide)
    with_reducible assumption
  clear_value v5 v6
  refine .step (.step ?_ engineWrite_goes (by decide)) chunkSealed_goes (by decide)
  with_reducible assumption

theorem afterNonce_goes {s id k c} :
    Goes [.csr, .mem, .poison, .out, .freeCtr, .intc, .myk, .ciph] s (State.afterNonce s id k c) := by
  unfold State.afterNonce
  extract_lets v1 v2 v3 v4 v5 v6
  have h7 : Goes [.csr, .mem, .poison, .out, .freeCtr, .intc, .myk, .ciph] s v1
  · unfold v1
    exact .step .refl makeResident_goes (by decide)
  clear_value v1 v2 v3
  have h8 : Goes [.csr, .mem, .poison, .out, .freeCtr, .intc, .myk, .ciph] s v4
  · unfold v4
    refine .ite ?_ ?_
    · refine .step ?_ ledgerWrite_goes (by decide)
      with_reducible assumption
    · with_reducible assumption
  clear_value v4 v5
  have h9 : Goes [.csr, .mem, .poison, .out, .freeCtr, .intc, .myk, .ciph] s v6
  · unfold v6
    refine .step (.ciph ?_ (by decide)) ciphLog_goes (by decide)
    with_reducible assumption
  clear_value v6
  refine .ite ?_ ?_
  · refine .step ?_ startRekey_goes (by decide)
    with_reducible assumption
  · with_reducible assumption

theorem sealRun_goes {s w fault again} :
    Goes [.csr, .mem, .poison, .out, .freeCtr, .intc, .myk, .hostq, .sched, .hlth, .ciph, .xport,
      .rerun] s (State.sealRun s w fault again) := by
  unfold State.sealRun
  split
  · rename_i n1 n2 n3
    exact .step .refl ciphFail_goes (by decide)
  · rename_i n4 n5
    split
    · rename_i n6 n7 n8 n9
      have h10 : Goes [.csr, .mem, .poison, .out, .freeCtr, .intc, .myk, .hostq, .sched, .hlth, .ciph, .xport, .rerun] s n8
      · exact GoesSnd.of n9 (.step .refl recordCtx_goes (by decide))
      refine .step ?_ ciphFail_goes (by decide)
      with_reducible assumption
    · rename_i n11 n12 n13 n14
      have h15 : Goes [.csr, .mem, .poison, .out, .freeCtr, .intc, .myk, .hostq, .sched, .hlth, .ciph, .xport, .rerun] s n13
      · exact GoesSnd.of n14 (.step .refl recordCtx_goes (by decide))
      extract_lets v16
      clear_value v16
      refine .ite ?_ ?_
      · refine .step ?_ ciphFail_goes (by decide)
        with_reducible assumption
      · split
        · rename_i n17 n18
          refine .ciph ?_ (by decide)
          with_reducible assumption
        · rename_i n19 n20 n21
          refine .step ?_ ciphFail_goes (by decide)
          with_reducible assumption
        · rename_i n22 n23 n24 n25 n26
          extract_lets v27 v28
          have h29 : Goes [.csr, .mem, .poison, .out, .freeCtr, .intc, .myk, .hostq, .sched, .hlth, .ciph, .xport, .rerun] s v27
          · unfold v27
            refine .step ?_ afterNonce_goes (by decide)
            with_reducible assumption
          clear_value v27
          have h30 : Goes [.csr, .mem, .poison, .out, .freeCtr, .intc, .myk, .hostq, .sched, .hlth, .ciph, .xport, .rerun] s v28
          · unfold v28
            refine .ite ?_ ?_
            · refine .step ?_ sealControl_goes (by decide)
              with_reducible assumption
            · refine .step ?_ sealChunk_goes (by decide)
              with_reducible assumption
          clear_value v28
          split
          · rename_i n31 n32 n33
            refine .step ?_ pipeFault_goes (by decide)
            with_reducible assumption
          · rename_i n34 n35
            refine .step (.step ?_ pmonEdge_goes (by decide)) finish_goes (by decide)
            with_reducible assumption

theorem releaseSeals_goes {s id} :
    Goes [.csr, .mem, .poison, .out, .freeCtr, .intc, .myk, .hostq, .sched, .hlth, .ciph, .xport,
      .rerun] s (State.releaseSeals s id) := by
  unfold State.releaseSeals
  extract_lets v1 v2 v3
  clear_value v1 v2
  have h4 : Goes [.csr, .mem, .poison, .out, .freeCtr, .intc, .myk, .hostq, .sched, .hlth, .ciph, .xport, .rerun] s v3
  · unfold v3
    exact .ciph .refl (by decide)
  clear_value v3
  refine .foldl ?_ (fun x5 y6 h7 => ?_)
  · with_reducible assumption
  · refine .step ?_ sealRun_goes (by decide)
    with_reducible assumption

theorem execLedgerWriteDurable_goes {ctx slot s} :
    GoesNext [.csr, .mem, .poison, .out, .freeCtr, .intc, .myk, .hostq, .sched, .hlth, .ciph, .xport,
      .rerun] s (execLedgerWriteDurable ctx slot s) := by
  unfold execLedgerWriteDurable
  extract_lets v1
  clear_value v1
  split
  · rename_i n2 n3
    exact .mk .refl
  · rename_i n4 n5 n6
    exact .mk (.step (.step .refl putLedger_goes (by decide)) releaseSeals_goes (by decide))

theorem execLedgerRetry_goes {ctx slot noSpare s} :
    GoesNext [.csr, .mem, .poison, .out, .freeCtr, .intc, .myk, .pmon, .hlth, .ciph, .fab, .grp,
      .line] s (execLedgerRetry ctx slot noSpare s) := by
  unfold execLedgerRetry
  extract_lets v1 v2 v3 v4
  clear_value v1
  have h5 : Goes [.csr, .mem, .poison, .out, .freeCtr, .intc, .myk, .pmon, .hlth, .ciph, .fab, .grp, .line] s v2
  · unfold v2
    exact .step .refl putLedger_goes (by decide)
  clear_value v2
  have h6 : Goes [.csr, .mem, .poison, .out, .freeCtr, .intc, .myk, .pmon, .hlth, .ciph, .fab, .grp, .line] s v3
  · unfold v3
    refine .step (.step ?_ ciphLog_goes (by decide)) raise_goes (by decide)
    with_reducible assumption
  clear_value v3
  have h7 : Goes [.csr, .mem, .poison, .out, .freeCtr, .intc, .myk, .pmon, .hlth, .ciph, .fab, .grp, .line] s v4
  · unfold v4
    refine .step ?_ health_goes (by decide)
    with_reducible assumption
  clear_value v4
  split
  · rename_i n8 n9
    exact .mk .refl
  · rename_i n10 n11 n12
    refine .ite ?_ ?_
    · refine .mk (.step (.step ?_ raise_goes (by decide)) handOver_goes (by decide))
      with_reducible assumption
    · refine .mk ?_
      with_reducible assumption

theorem restoreSlot_goes {s id k c} : GoesSnd [.ciph] s (State.restoreSlot s id k c) := by
  unfold State.restoreSlot
  extract_lets v1 v2 v3
  clear_value v1 v2 v3
  refine .ite ?_ ?_
  · exact .mk .refl
  · exact .mk (.step .refl ledgerInstall_goes (by decide))

theorem keyOpCtx_goes {s w} : GoesSnd [.csr, .mem, .poison, .out, .intc, .ciph] s (State.keyOpCtx s w) := by
  unfold State.keyOpCtx
  split
  · rename_i n1 n2 n3 n4
    have h5 : Goes [.csr, .mem, .poison, .out, .intc, .ciph] s n3
    · exact GoesSnd.of n4 (.step .refl fetchCtx_goes (by decide))
    refine .mk ?_
    with_reducible assumption
  · rename_i n6 n7 n8 n9
    have h10 : Goes [.csr, .mem, .poison, .out, .intc, .ciph] s n8
    · exact GoesSnd.of n9 (.step .refl fetchCtx_goes (by decide))
    refine .ite ?_ ?_
    · refine .mk ?_
      with_reducible assumption
    · refine .mk ?_
      with_reducible assumption

theorem execSave_goes {w s} : GoesNext [.csr, .mem, .poison, .out, .intc, .myk, .hostq, .ciph] s (execSave w s) := by
  unfold execSave
  split
  · rename_i n1 n2 n3
    exact .mk (.step .refl ciphFail_goes (by decide))
  · rename_i n4 n5
    refine .ite ?_ ?_
    · exact .mk (.step .refl ciphFail_goes (by decide))
    · split
      · rename_i n6 n7 n8 n9
        have h10 : Goes [.csr, .mem, .poison, .out, .intc, .myk, .hostq, .ciph] s n8
        · exact GoesSnd.of n9 (.step .refl keyOpCtx_goes (by decide))
        refine .mk (.step ?_ ciphFail_goes (by decide))
        with_reducible assumption
      · rename_i n11 n12 n13 n14
        have h15 : Goes [.csr, .mem, .poison, .out, .intc, .myk, .hostq, .ciph] s n13
        · exact GoesSnd.of n14 (.step .refl keyOpCtx_goes (by decide))
        extract_lets v16 v17 v18
        clear_value v16 v17
        have h19 : Goes [.csr, .mem, .poison, .out, .intc, .myk, .hostq, .ciph] s v18
        · unfold v18
          refine .ite ?_ ?_
          · refine .ciph ?_ (by decide)
            with_reducible assumption
          · with_reducible assumption
        clear_value v18
        refine .mk (.step (.step ?_ engineWrite_goes (by decide)) finish_goes (by decide))
        with_reducible assumption

theorem execOpen_goes {w fault s} :
    GoesNext [.csr, .mem, .poison, .out, .freeCtr, .intc, .myk, .hostq, .hlth, .ciph, .xport, .grp,
      .rerun] s (execOpen w fault s) := by
  unfold execOpen
  exact .mk (.step .refl openRun_goes (by decide))

theorem execSeal_goes {w fault s} :
    GoesNext [.csr, .mem, .poison, .out, .freeCtr, .intc, .myk, .hostq, .sched, .hlth, .ciph, .xport,
      .rerun] s (execSeal w fault s) := by
  unfold execSeal
  refine .ite ?_ ?_
  · exact .mk (.step .refl finish_goes (by decide))
  · exact .mk (.step .refl sealRun_goes (by decide))

theorem runQuote_goes {w s} : GoesNext [.csr, .mem, .poison, .out, .intc, .myk, .hostq, .ciph] s (runQuote w s) := by
  unfold runQuote
  extract_lets v1 v2 v3 v4 v5
  clear_value v1
  have h6 : Goes [.csr, .mem, .poison, .out, .intc, .myk, .hostq, .ciph] s v2
  · unfold v2
    exact .step .refl readEvents_goes (by decide)
  clear_value v2 v3
  have h7 : Goes [.csr, .mem, .poison, .out, .intc, .myk, .hostq, .ciph] s v4
  · unfold v4
    refine .ciph ?_ (by decide)
    with_reducible assumption
  clear_value v4 v5
  split
  · rename_i n8 n9 n10
    exact .mk (.step .refl ciphFail_goes (by decide))
  · rename_i n11 n12
    refine .ite ?_ ?_
    · exact .mk (.step .refl ciphFail_goes (by decide))
    · refine .mk (.step (.step ?_ engineWrite_goes (by decide)) finish_goes (by decide))
      with_reducible assumption

theorem execSealControl_goes {w fault s} :
    GoesNext [.csr, .mem, .poison, .out, .freeCtr, .intc, .myk, .hostq, .sched, .hlth, .ciph, .xport,
      .rerun] s (execSealControl w fault s) := by
  unfold execSealControl
  exact .mk (.step .refl sealRun_goes (by decide))

theorem execRestoreContext_goes {w s} :
    GoesNext [.csr, .mem, .poison, .out, .intc, .myk, .hostq, .ciph] s (execRestoreContext w s) := by
  unfold execRestoreContext
  split
  · rename_i n1 n2 n3
    exact .mk (.step .refl ciphFail_goes (by decide))
  · rename_i n4 n5
    refine .ite ?_ ?_
    · exact .mk (.step .refl ciphFail_goes (by decide))
    · refine .ite ?_ ?_
      · exact .mk (.step .refl ciphFail_goes (by decide))
      · split
        · rename_i n6 n7
          exact .mk (.step .refl ciphFail_goes (by decide))
        · rename_i n8 n9 n10 n11
          refine .ite ?_ ?_
          · exact .mk (.step .refl ciphFail_goes (by decide))
          · refine .ite ?_ ?_
            · exact .mk (.step .refl ciphFail_goes (by decide))
            · refine .ite ?_ ?_
              · exact .mk (.step .refl ciphFail_goes (by decide))
              · refine .ite ?_ ?_
                · exact .mk (.step .refl ciphFail_goes (by decide))
                · refine .ite ?_ ?_
                  · exact .mk (.step .refl ciphFail_goes (by decide))
                  · split
                    rename_i n12 n13 n14 n15
                    have h16 : Goes [.csr, .mem, .poison, .out, .intc, .myk, .hostq, .ciph] s n14
                    · exact GoesSnd.of n15 (.step (.step .refl readEvents_goes (by decide)) restoreSlot_goes (by decide))
                    split
                    rename_i n17 n18 n19 n20
                    have h21 : Goes [.csr, .mem, .poison, .out, .intc, .myk, .hostq, .ciph] s n19
                    · refine GoesSnd.of n20 (.step ?_ restoreSlot_goes (by decide))
                      with_reducible assumption
                    refine .mk (.step (.step ?_ putCtx_goes (by decide)) finish_goes (by decide))
                    with_reducible assumption

theorem extend_goes {s r d} : Goes [.csr] s (State.extend s r d) := by
  unfold State.extend
  extract_lets v1
  clear_value v1
  refine .foldl ?_ (fun x2 y3 h4 => ?_)
  · exact .refl
  · refine .step ?_ set_goes (by decide)
    with_reducible assumption

theorem extendCmd_goes {s r} : GoesOk [.csr] s (State.extendCmd s r) := by
  unfold State.extendCmd
  refine .ite ?_ ?_
  · exact .mk (.step .refl extend_goes (by decide))
  · exact .error

theorem execInvalidate_goes {w s} : GoesNext [.csr, .mem, .poison, .out, .intc, .myk, .hostq, .ciph] s (execInvalidate w s) := by
  unfold execInvalidate
  split
  · rename_i n1 n2 n3
    exact .mk (.step .refl ciphFail_goes (by decide))
  · rename_i n4 n5
    split
    · rename_i n6 n7 n8 n9
      have h10 : Goes [.csr, .mem, .poison, .out, .intc, .myk, .hostq, .ciph] s n8
      · exact GoesSnd.of n9 (.step .refl keyOpCtx_goes (by decide))
      refine .mk (.step ?_ ciphFail_goes (by decide))
      with_reducible assumption
    · rename_i n11 n12 n13 n14
      have h15 : Goes [.csr, .mem, .poison, .out, .intc, .myk, .hostq, .ciph] s n13
      · exact GoesSnd.of n14 (.step .refl keyOpCtx_goes (by decide))
      refine .mk (.step (.step ?_ dropCtx_goes (by decide)) finish_goes (by decide))
      with_reducible assumption

/-! ## Resend -/

theorem rawRefuse_goes {s j site req} : Goes [.mem, .poison, .xport] s (State.rawRefuse s j site req) := by
  unfold State.rawRefuse
  exact .step .refl sendControl_goes (by decide)

theorem execRawResendReceived_goes {j site first s} :
    GoesNext [.csr, .mem, .poison, .out, .freeCtr, .intc, .myk, .sched, .hlth, .ciph,
      .xport] s (execRawResendReceived j site first s) := by
  unfold execRawResendReceived
  split
  · rename_i n1 n2
    exact .mk .refl
  · rename_i n3 n4 n5 n6
    have h7 : Goes [.csr, .mem, .poison, .out, .freeCtr, .intc, .myk, .sched, .hlth, .ciph, .xport] s n5
    · exact GoesSome.of n6 (.step .refl takeMail_goes (by decide))
    extract_lets v8 v9 v10 v11
    clear_value v8 v9
    have h12 : Goes [.csr, .mem, .poison, .out, .freeCtr, .intc, .myk, .sched, .hlth, .ciph, .xport] s v11
    · unfold v11
      split
      · rename_i n13 n14
        with_reducible assumption
      · rename_i n15 n16 n17
        refine .step (.step (.step ?_ purlQuarantine_goes (by decide)) addSat_goes (by decide)) report_goes (by decide)
        with_reducible assumption
    clear_value v11
    split
    · rename_i n18 n19
      refine .mk (.step ?_ rawRefuse_goes (by decide))
      with_reducible assumption
    · rename_i n20 n21 n22
      extract_lets v23
      clear_value v23
      refine .ite ?_ ?_
      · refine .mk (.step ?_ rawRefuse_goes (by decide))
        with_reducible assumption
      · split
        · rename_i n24 n25 n26 n27 n28 n29
          extract_lets v30
          clear_value v30
          split
          · rename_i n31 n32 n33 n34 n35 n36 n37 n38
            extract_lets v39 v40 v41 v42 v43 v44 v45
            have h46 : Goes [.csr, .mem, .poison, .out, .freeCtr, .intc, .myk, .sched, .hlth, .ciph, .xport] s v39
            · unfold v39
              refine .step ?_ afterNonce_goes (by decide)
              with_reducible assumption
            clear_value v39 v40 v41
            have h47 : Goes [.csr, .mem, .poison, .out, .freeCtr, .intc, .myk, .sched, .hlth, .ciph, .xport] s v42
            · unfold v42
              refine .step ?_ writeBytes_goes (by decide)
              with_reducible assumption
            clear_value v42
            have h48 : Goes [.csr, .mem, .poison, .out, .freeCtr, .intc, .myk, .sched, .hlth, .ciph, .xport] s v43
            · unfold v43
              refine .step (.step ?_ addWrap_goes (by decide)) addWrap_goes (by decide)
              with_reducible assumption
            clear_value v43
            have h49 : Goes [.csr, .mem, .poison, .out, .freeCtr, .intc, .myk, .sched, .hlth, .ciph, .xport] s v44
            · unfold v44
              refine .step (.step ?_ addSat_goes (by decide)) report_goes (by decide)
              with_reducible assumption
            clear_value v44 v45
            refine .mk (.step (.xport ?_ (by decide)) formChunk_goes (by decide))
            with_reducible assumption
          · rename_i n50 n51 n52 n53
            refine .mk (.step ?_ rawRefuse_goes (by decide))
            with_reducible assumption
          · rename_i n54 n55 n56 n57
            exact .mk .refl
        · rename_i n58 n59 n60
          refine .mk (.step ?_ rawRefuse_goes (by decide))
          with_reducible assumption

end Sys2Proof.Machine
end

