-- ==== Sys2Proof/Laws/GoesFabric.lean ====
section
/-!
SUPPORT. Laws/GoesFabric.lean: what the operations of Machine/FabricRx, FabricTx, Photonics, Time, Mykabel, Group keep (`Goes`,
      of Laws/Goes.lean): the module fabric, photonics, time, the management cores and the group.
Each `…_goes` lists the parts of the state that its operation may change.
-/
namespace Sys2Proof.Machine
open Csr

/-! ## FabricRx -/

theorem fabRefuse_goes {s reason link b} :
    Goes [.csr, .mem, .poison, .out, .intc, .myk, .pmon, .fab] s (State.fabRefuse s reason link b) := by
  unfold State.fabRefuse
  extract_lets v1 v2 v3 v4
  clear_value v1
  have h5 : Goes [.csr, .mem, .poison, .out, .intc, .myk, .pmon, .fab] s v2
  · unfold v2
    exact .step (.step .refl addSat_goes (by decide)) fabLog_goes (by decide)
  clear_value v2
  have h6 : Goes [.csr, .mem, .poison, .out, .intc, .myk, .pmon, .fab] s v3
  · unfold v3
    refine .step (.step ?_ set_goes (by decide)) raise_goes (by decide)
    with_reducible assumption
  clear_value v3
  have h7 : Goes [.csr, .mem, .poison, .out, .intc, .myk, .pmon, .fab] s v4
  · unfold v4
    refine .step ?_ violation_goes (by decide)
    with_reducible assumption
  clear_value v4
  refine .ite ?_ ?_
  · refine .step ?_ fabNack_goes (by decide)
    with_reducible assumption
  · with_reducible assumption

theorem fabStore_goes {s link b} : Goes [.csr, .mem, .poison, .out, .intc, .myk] s (State.fabStore s link b) := by
  unfold State.fabStore
  extract_lets v1 v2 v3 v4 v5
  clear_value v1 v2
  have h6 : Goes [.csr, .mem, .poison, .out, .intc, .myk] s v3
  · unfold v3
    exact .step .refl engineWrite_goes (by decide)
  clear_value v3
  have h7 : Goes [.csr, .mem, .poison, .out, .intc, .myk] s v4
  · unfold v4
    refine .step ?_ poisonBytes_goes (by decide)
    with_reducible assumption
  clear_value v4
  have h8 : Goes [.csr, .mem, .poison, .out, .intc, .myk] s v5
  · unfold v5
    refine .foldl ?_ (fun x9 y10 h11 => ?_)
    · with_reducible assumption
    · extract_lets v12
      clear_value v12
      refine .step ?_ putSkeinRec_goes (by decide)
      with_reducible assumption
  clear_value v5
  refine .ite ?_ ?_
  · refine .step ?_ fabLog_goes (by decide)
    with_reducible assumption
  · with_reducible assumption

theorem fabWriteTurn_goes {s link b} :
    Goes [.csr, .mem, .poison, .out, .freeCtr, .intc, .myk, .hostq, .pmon, .fab, .grp] s (State.fabWriteTurn s link b) := by
  unfold State.fabWriteTurn
  extract_lets v1 v2 v3
  clear_value v1 v2
  have h4 : Goes [.csr, .mem, .poison, .out, .freeCtr, .intc, .myk, .hostq, .pmon, .fab, .grp] s v3
  · unfold v3
    exact .step .refl fabStore_goes (by decide)
  clear_value v3
  split
  · rename_i n5 n6
    exact .step .refl fabRefuse_goes (by decide)
  · rename_i n7 n8 n9
    split
    · rename_i n10 n11 n12 n13
      extract_lets v14
      clear_value v14
      refine .ite ?_ ?_
      · exact .step .refl cqDoorBell_goes (by decide)
      · exact .step .refl sqTailBell_goes (by decide)
    · rename_i n15 n16
      split
      · rename_i n17 n18 n19
        exact .step (.step .refl memRefuse_goes (by decide)) fabRefuse_goes (by decide)
      · rename_i n20 n21
        refine .ite ?_ ?_
        · split
          · rename_i n22 n23
            with_reducible assumption
          · rename_i n24 n25 n26
            refine .step ?_ mirrorOther_goes (by decide)
            with_reducible assumption
        · with_reducible assumption

theorem fabReadTurn_goes {s link b} :
    Goes [.csr, .mem, .poison, .out, .intc, .myk, .pmon, .fab] s (State.fabReadTurn s link b) := by
  unfold State.fabReadTurn
  extract_lets v1 v2 v3 v4
  clear_value v1 v2 v3 v4
  refine .ite ?_ ?_
  · exact .step .refl fabRefuse_goes (by decide)
  · split
    · rename_i n5 n6 n7
      exact .step (.step .refl memRefuse_goes (by decide)) fabRefuse_goes (by decide)
    · rename_i n8 n9
      refine .ite ?_ ?_
      · exact .refl
      · exact .step (.step .refl memEvent_goes (by decide)) fabQueue_goes (by decide)

theorem fabRespTurn_goes {s link b} :
    Goes [.csr, .mem, .poison, .out, .intc, .myk, .pmon, .fab] s (State.fabRespTurn s link b) := by
  unfold State.fabRespTurn
  extract_lets v1 v2
  clear_value v1 v2
  split
  · rename_i n3 n4
    exact .step .refl fabRefuse_goes (by decide)
  · rename_i n5 n6 n7
    exact .step (.fab .refl (by decide)) fabStore_goes (by decide)

theorem fabMgmtTurn_goes {s link b} : Goes [.csr, .fab, .time] s (State.fabMgmtTurn s link b) := by
  unfold State.fabMgmtTurn
  extract_lets v1
  clear_value v1
  split
  rename_i n2 n3 n4 n5
  have h6 : Goes [.csr, .fab, .time] s n4
  · refine GoesSnd.of n5 (.ite ?_ ?_)
    · exact .mk (.step .refl stampUsed_goes (by decide))
    · exact .mk .refl
  extract_lets v7
  clear_value v7
  refine .fab ?_ (by decide)
  with_reducible assumption

theorem fabTurn_goes {s link b} :
    Goes [.csr, .mem, .poison, .out, .freeCtr, .intc, .myk, .hostq, .pmon, .fab, .time, .grp] s (State.fabTurn s link b) := by
  unfold State.fabTurn
  extract_lets v1
  clear_value v1
  refine .ite ?_ ?_
  · exact .step .refl fabRefuse_goes (by decide)
  · refine .ite ?_ ?_
    · exact .step .refl fabWriteTurn_goes (by decide)
    · refine .ite ?_ ?_
      · exact .step .refl fabReadTurn_goes (by decide)
      · refine .ite ?_ ?_
        · exact .step .refl fabRespTurn_goes (by decide)
        · exact .step .refl fabMgmtTurn_goes (by decide)

theorem fabDrain_goes {s : State} {k : FlowKey} {n : Nat} :
    Goes [.csr, .mem, .poison, .out, .freeCtr, .intc, .myk, .hostq, .pmon, .fab, .time, .grp] s (s.fabDrain k n) := by
  induction n generalizing s with
  | zero => exact .refl
  | succ n ih =>
    unfold State.fabDrain
    split
    · exact .refl
    · split
      · exact .refl
      · exact .step (.step (.fab .refl (by decide)) fabTurn_goes (by decide)) ih (by decide)

theorem fabOrder_goes {s k f link b full} :
    Goes [.csr, .mem, .poison, .out, .freeCtr, .intc, .myk, .hostq, .pmon, .fab, .time,
      .grp] s (State.fabOrder s k f link b full) := by
  unfold State.fabOrder
  extract_lets v1 v2 v3 v4 v5
  clear_value v2 v3
  have h6 : Goes [.csr, .mem, .poison, .out, .freeCtr, .intc, .myk, .hostq, .pmon, .fab, .time, .grp] s v4
  · unfold v4
    exact .fab .refl (by decide)
  clear_value v4
  have h7 : Goes [.csr, .mem, .poison, .out, .freeCtr, .intc, .myk, .hostq, .pmon, .fab, .time, .grp] s v5
  · unfold v5
    refine .step ?_ fabDrain_goes (by decide)
    with_reducible assumption
  clear_value v5
  refine .ite ?_ ?_
  · exact .step (.step (.step .refl addSat_goes (by decide)) set_goes (by decide)) fabAck_goes (by decide)
  · refine .ite ?_ ?_
    · refine .ite ?_ ?_
      · exact .step .refl addSat_goes (by decide)
      · refine .step ?_ fabAck_goes (by decide)
        with_reducible assumption
    · refine .ite ?_ ?_
      · exact .refl
      · refine .ite ?_ ?_
        · exact .step (.step .refl fabLog_goes (by decide)) fabNack_goes (by decide)
        · exact .fab .refl (by decide)

theorem fabSequenced_goes {s link b full} :
    Goes [.csr, .mem, .poison, .out, .freeCtr, .intc, .myk, .hostq, .pmon, .fab, .time,
      .grp] s (State.fabSequenced s link b full) := by
  unfold State.fabSequenced
  extract_lets v1
  clear_value v1
  refine .ite ?_ ?_
  · exact .step .refl fabOrder_goes (by decide)
  · split
    · rename_i n2 n3 n4 n5
      exact .step .refl fabOrder_goes (by decide)
    · rename_i n6 n7
      exact .step (.step .refl fabLog_goes (by decide)) fabNack_goes (by decide)

theorem fabAgain_goes {s k sync p} : Goes [.fab] s (State.fabAgain s k sync p) := by
  unfold State.fabAgain
  extract_lets v1
  clear_value v1
  exact .step .refl putFabTx_goes (by decide)

theorem msgFailed_goes {s m reason} : Goes [.csr, .hostq, .fab] s (State.msgFailed s m reason) := by
  unfold State.msgFailed
  extract_lets v1
  clear_value v1
  split
  · rename_i n2
    exact .refl
  · rename_i n3 n4
    split
    · rename_i n5 n6
      exact .refl
    · rename_i n7 n8 n9
      exact .step (.fab .refl (by decide)) finish_goes (by decide)

theorem fabNacked_goes {s b} : Goes [.csr, .hostq, .fab] s (State.fabNacked s b) := by
  unfold State.fabNacked
  extract_lets v1 v2 v3 v4 v5
  clear_value v1 v2 v3 v5
  refine .ite ?_ ?_
  · exact .step .refl fabAgain_goes (by decide)
  · refine .ite ?_ ?_
    · exact .step .refl fabAgain_goes (by decide)
    · refine .ite ?_ ?_
      · split
        · rename_i n6 n7
          exact .refl
        · rename_i n8 n9 n10
          exact .step (.step (.step .refl putFabTx_goes (by decide)) msgFailed_goes (by decide)) drainUpdate_goes (by decide)
      · exact .refl

theorem returnCredits_goes {s link b} : Goes [.out] s (State.returnCredits s link b) := by
  unfold State.returnCredits
  extract_lets v1
  clear_value v1
  exact .step .refl emit_goes (by decide)

theorem msgAcked_goes {s m} : Goes [.csr, .hostq, .fab] s (State.msgAcked s m) := by
  unfold State.msgAcked
  extract_lets v1
  clear_value v1
  split
  · rename_i n2
    exact .refl
  · rename_i n3 n4
    split
    · rename_i n5 n6
      exact .refl
    · rename_i n7 n8 n9
      refine .ite ?_ ?_
      · exact .step (.fab .refl (by decide)) finish_goes (by decide)
      · exact .fab .refl (by decide)

theorem flowAcknowledged_goes {s p} : Goes [.grp] s (State.flowAcknowledged s p) := by
  unfold State.flowAcknowledged
  extract_lets v1
  clear_value v1
  refine .ite ?_ ?_
  · exact .grp .refl (by decide)
  · exact .refl

theorem fabAcked_goes {s b} : Goes [.csr, .hostq, .fab, .grp] s (State.fabAcked s b) := by
  unfold State.fabAcked
  extract_lets v1 v2 v3 v4 v5 v6
  clear_value v2 v3 v5
  have h7 : Goes [.csr, .hostq, .fab, .grp] s v6
  · unfold v6
    exact .step .refl putFabTx_goes (by decide)
  clear_value v6
  refine .ite ?_ ?_
  · exact .refl
  · refine .step (.foldl ?_ (fun x8 y9 h10 => ?_)) drainUpdate_goes (by decide)
    · with_reducible assumption
    · refine .step (.step ?_ flowAcknowledged_goes (by decide)) msgAcked_goes (by decide)
      with_reducible assumption

theorem fabAdmit_goes {s x} :
    Goes [.csr, .mem, .poison, .out, .freeCtr, .intc, .myk, .hostq, .pmon, .fab, .time, .grp] s (State.fabAdmit s x) := by
  unfold State.fabAdmit
  extract_lets v1 v2 v3 v4
  clear_value v1 v2 v3 v4
  refine .ite ?_ ?_
  · exact .step (.step .refl addSat_goes (by decide)) fabLog_goes (by decide)
  · refine .ite ?_ ?_
    · exact .step .refl fabRefuse_goes (by decide)
    · refine .ite ?_ ?_
      · exact .step (.step .refl addSat_goes (by decide)) set_goes (by decide)
      · refine .ite ?_ ?_
        · refine .ite ?_ ?_
          · exact .step .refl fabRefuse_goes (by decide)
          · refine .ite ?_ ?_
            · exact .step .refl fabAcked_goes (by decide)
            · exact .step .refl fabNacked_goes (by decide)
        · exact .step .refl fabSequenced_goes (by decide)

theorem fabArrive_goes {s x} :
    Goes [.csr, .mem, .poison, .out, .freeCtr, .intc, .myk, .hostq, .pmon, .fab, .time, .grp] s (State.fabArrive s x) := by
  unfold State.fabArrive
  extract_lets v1 v2 v3 v4
  clear_value v1 v2
  have h5 : Goes [.csr, .mem, .poison, .out, .freeCtr, .intc, .myk, .hostq, .pmon, .fab, .time, .grp] s v3
  · unfold v3
    exact .step (.step (.step .refl addWrap_goes (by decide)) pmonEdge_goes (by decide)) meter_goes (by decide)
  clear_value v3
  have h6 : Goes [.csr, .mem, .poison, .out, .freeCtr, .intc, .myk, .hostq, .pmon, .fab, .time, .grp] s v4
  · unfold v4
    refine .step ?_ returnCredits_goes (by decide)
    with_reducible assumption
  clear_value v4
  refine .ite ?_ ?_
  · exact .refl
  · refine .ite ?_ ?_
    · exact .step (.step .refl fabLog_goes (by decide)) raise_goes (by decide)
    · refine .ite ?_ ?_
      · exact .step (.step .refl addSat_goes (by decide)) set_goes (by decide)
      · refine .ite ?_ ?_
        · refine .step (.step ?_ addSat_goes (by decide)) set_goes (by decide)
          with_reducible assumption
        · refine .step ?_ fabAdmit_goes (by decide)
          with_reducible assumption

theorem execFabReadResp_goes {p s} :
    GoesNext [.csr, .mem, .poison, .out, .freeCtr, .intc, .myk, .hostq, .pmon, .fab, .time, .grp] s (execFabReadResp p s) := by
  unfold execFabReadResp
  exact .mk (.step .refl fabArrive_goes (by decide))

theorem execFabNack_goes {p s} :
    GoesNext [.csr, .mem, .poison, .out, .freeCtr, .intc, .myk, .hostq, .pmon, .fab, .time, .grp] s (execFabNack p s) := by
  unfold execFabNack
  exact .mk (.step .refl fabArrive_goes (by decide))

theorem execFabReadReq_goes {p s} :
    GoesNext [.csr, .mem, .poison, .out, .freeCtr, .intc, .myk, .hostq, .pmon, .fab, .time, .grp] s (execFabReadReq p s) := by
  unfold execFabReadReq
  exact .mk (.step .refl fabArrive_goes (by decide))

theorem execFabAck_goes {p s} :
    GoesNext [.csr, .mem, .poison, .out, .freeCtr, .intc, .myk, .hostq, .pmon, .fab, .time, .grp] s (execFabAck p s) := by
  unfold execFabAck
  exact .mk (.step .refl fabArrive_goes (by decide))

theorem execFabWrite_goes {p s} :
    GoesNext [.csr, .mem, .poison, .out, .freeCtr, .intc, .myk, .hostq, .pmon, .fab, .time, .grp] s (execFabWrite p s) := by
  unfold execFabWrite
  exact .mk (.step .refl fabArrive_goes (by decide))

theorem execFabMgmt_goes {p s} :
    GoesNext [.csr, .mem, .poison, .out, .freeCtr, .intc, .myk, .hostq, .pmon, .fab, .time, .grp] s (execFabMgmt p s) := by
  unfold execFabMgmt
  exact .mk (.step .refl fabArrive_goes (by decide))

/-! ## FabricTx -/

theorem fabOffer_goes {s k a2} : Goes [.fab] s (State.fabOffer s k a2) := by
  unfold State.fabOffer
  extract_lets v1
  clear_value v1
  split
  · rename_i n2
    exact .refl
  · rename_i n3 n4 n5
    exact .step .refl fabQueue_goes (by decide)
  · rename_i n6 n7 n8 n9 n10
    extract_lets v11
    have h12 : Goes [.fab] s v11
    · unfold v11
      exact .fab .refl (by decide)
    clear_value v11
    refine .ite ?_ ?_
    · exact .refl
    · refine .step ?_ fabQueue_goes (by decide)
      with_reducible assumption

theorem fabDescRefuse_goes {s w reason} : Goes [.csr, .out, .hostq] s (State.fabDescRefuse s w reason) := by
  unfold State.fabDescRefuse
  exact .step (.step .refl fabLog_goes (by decide)) finishError_goes (by decide)

theorem circuitOpen_goes {s i b} : GoesFst [.csr, .mem, .poison, .out, .intc, .fab] s (State.circuitOpen s i b) := by
  unfold State.circuitOpen
  extract_lets v1 v2 v3 v4 v5 v6 v7
  clear_value v1 v2 v3 v4
  have h8 : Goes [.csr, .mem, .poison, .out, .intc, .fab] s v5
  · unfold v5
    exact .step .refl writeBytes_goes (by decide)
  clear_value v5 v6
  have h9 : Goes [.csr, .mem, .poison, .out, .intc, .fab] s v7
  · unfold v7
    refine .fab ?_ (by decide)
    with_reducible assumption
  clear_value v7
  refine .ite ?_ ?_
  · exact .mk (.step .refl fabLog_goes (by decide))
  · refine .ite ?_ ?_
    · exact .mk (.step (.step .refl fabLog_goes (by decide)) raise_goes (by decide))
    · refine .mk (.foldl ?_ (fun x10 y11 h12 => ?_))
      · with_reducible assumption
      · refine .step ?_ reservedUpdate_goes (by decide)
        with_reducible assumption

theorem circuitOpenRun_goes {s w} :
    Goes [.csr, .mem, .poison, .out, .freeCtr, .intc, .myk, .hostq, .fab] s (State.circuitOpenRun s w) := by
  unfold State.circuitOpenRun
  unfold State.fabTableRun
  extract_lets v1
  have h2 : Goes [.csr, .mem, .poison, .out, .freeCtr, .intc, .myk, .hostq, .fab] s v1
  · unfold v1
    refine .ite ?_ ?_
    · exact .refl
    · exact .step (.step .refl readHost_goes (by decide)) readEvents_goes (by decide)
  clear_value v1
  split
  · rename_i n3 n4 n5
    refine .step (.ite ?_ ?_) fabDescRefuse_goes (by decide)
    · exact .step .refl logAccess_goes (by decide)
    · exact .refl
  · rename_i n6 n7
    refine .ite ?_ ?_
    · exact .step (.snd (.step .refl fresh_goes (by decide))) finish_goes (by decide)
    · split
      rename_i n8 n9 n10 n11
      have h12 : Goes [.csr, .mem, .poison, .out, .freeCtr, .intc, .myk, .hostq, .fab] s n9
      · refine GoesFst.of n11 ?_
        beta_reduce
        refine .foldl ?_ (fun x13 y14 h15 => ?_)
        · refine .mk ?_
          with_reducible assumption
        · split
          rename_i n16 n17 n18 n19
          have h20 : Goes [.csr, .mem, .poison, .out, .freeCtr, .intc, .myk, .hostq, .fab] s n17
          · refine GoesFst.of n19 (.step (.fst ?_) circuitOpen_goes (by decide))
            with_reducible assumption
          refine .mk ?_
          with_reducible assumption
      refine .ite ?_ ?_
      · refine .step ?_ finish_goes (by decide)
        with_reducible assumption
      · refine .step ?_ finishError_goes (by decide)
        with_reducible assumption

theorem openWaiting_goes {s : State} {l : List Work} :
    Goes [.csr, .mem, .poison, .out, .freeCtr, .intc, .myk, .hostq, .fab] s (openWaiting s l) := by
  induction l generalizing s with
  | nil => exact .refl
  | cons w r ih =>
    unfold openWaiting
    exact .ite ih (.step (.step (.fab .refl (by decide)) circuitOpenRun_goes (by decide)) ih (by decide))

theorem execCircuitClose_goes {w s} :
    GoesNext [.csr, .mem, .poison, .out, .freeCtr, .intc, .myk, .hostq, .fab] s (execCircuitClose w s) := by
  unfold execCircuitClose
  extract_lets v1
  have h2 : Goes [.csr, .mem, .poison, .out, .freeCtr, .intc, .myk, .hostq, .fab] s v1
  · unfold v1
    unfold State.fabTableRun
    extract_lets v3
    have h4 : Goes [.csr, .mem, .poison, .out, .freeCtr, .intc, .myk, .hostq, .fab] s v3
    · unfold v3
      refine .ite ?_ ?_
      · exact .refl
      · exact .step (.step .refl readHost_goes (by decide)) readEvents_goes (by decide)
    clear_value v3
    split
    · rename_i n5 n6 n7
      refine .step (.ite ?_ ?_) fabDescRefuse_goes (by decide)
      · exact .step .refl logAccess_goes (by decide)
      · exact .refl
    · rename_i n8 n9
      refine .ite ?_ ?_
      · exact .step (.snd (.step .refl fresh_goes (by decide))) finish_goes (by decide)
      · split
        rename_i n10 n11 n12 n13
        have h14 : Goes [.csr, .mem, .poison, .out, .freeCtr, .intc, .myk, .hostq, .fab] s n11
        · refine GoesFst.of n13 ?_
          beta_reduce
          refine .mk (.step ?_ closeCircuits_goes (by decide))
          with_reducible assumption
        refine .ite ?_ ?_
        · refine .step ?_ finish_goes (by decide)
          with_reducible assumption
        · refine .step ?_ finishError_goes (by decide)
          with_reducible assumption
  clear_value v1
  refine .mk (.step ?_ openWaiting_goes (by decide))
  with_reducible assumption

theorem ingestWrite_goes {s i b} : GoesFst [.csr, .mem, .poison, .out] s (State.ingestWrite s i b) := by
  unfold State.ingestWrite
  extract_lets v1
  clear_value v1
  refine .ite ?_ ?_
  · exact .mk (.step .refl fabLog_goes (by decide))
  · refine .ite ?_ ?_
    · exact .mk (.step .refl fabLog_goes (by decide))
    · exact .mk (.step .refl writeBytes_goes (by decide))

theorem execIngestWrite_goes {w s} :
    GoesNext [.csr, .mem, .poison, .out, .freeCtr, .intc, .myk, .hostq] s (execIngestWrite w s) := by
  unfold execIngestWrite
  refine .mk ?_
  unfold State.fabTableRun
  extract_lets v1
  have h2 : Goes [.csr, .mem, .poison, .out, .freeCtr, .intc, .myk, .hostq] s v1
  · unfold v1
    refine .ite ?_ ?_
    · exact .refl
    · exact .step (.step .refl readHost_goes (by decide)) readEvents_goes (by decide)
  clear_value v1
  split
  · rename_i n3 n4 n5
    refine .step (.ite ?_ ?_) fabDescRefuse_goes (by decide)
    · exact .step .refl logAccess_goes (by decide)
    · exact .refl
  · rename_i n6 n7
    refine .ite ?_ ?_
    · exact .step (.snd (.step .refl fresh_goes (by decide))) finish_goes (by decide)
    · split
      rename_i n8 n9 n10 n11
      have h12 : Goes [.csr, .mem, .poison, .out, .freeCtr, .intc, .myk, .hostq] s n9
      · refine GoesFst.of n11 ?_
        beta_reduce
        refine .foldl ?_ (fun x13 y14 h15 => ?_)
        · refine .mk ?_
          with_reducible assumption
        · extract_lets v16
          have h17 : GoesFst [.csr, .mem, .poison, .out, .freeCtr, .intc, .myk, .hostq] s v16
          · unfold v16
            refine .step (.fst ?_) ingestWrite_goes (by decide)
            with_reducible assumption
          clear_value v16
          refine .mk (.fst ?_)
          with_reducible assumption
      refine .ite ?_ ?_
      · refine .step ?_ finish_goes (by decide)
        with_reducible assumption
      · refine .step ?_ finishError_goes (by decide)
        with_reducible assumption

theorem commRefuse_goes {s w reason} : Goes [.csr, .hostq] s (State.commRefuse s w reason) := by
  unfold State.commRefuse
  exact .step (.step .refl queueLog_goes (by decide)) finishError_goes (by decide)

theorem commSend_goes {s w op members} :
    Goes [.csr, .mem, .poison, .out, .freeCtr, .intc, .myk, .hostq, .fab] s (State.commSend s w op members) := by
  unfold State.commSend
  extract_lets v1 v2 v3 v4 v5 v6 v7 v8 v9
  clear_value v1 v2 v3
  have h10 : Goes [.csr, .mem, .poison, .out, .freeCtr, .intc, .myk, .hostq, .fab] s v5
  · unfold v5
    exact .step .refl readEvents_goes (by decide)
  clear_value v5 v6 v7 v8
  have h11 : Goes [.csr, .mem, .poison, .out, .freeCtr, .intc, .myk, .hostq, .fab] s v9
  · unfold v9
    refine .fab ?_ (by decide)
    with_reducible assumption
  clear_value v9
  refine .ite ?_ ?_
  · exact .step .refl commRefuse_goes (by decide)
  · refine .ite ?_ ?_
    · exact .step .refl commRefuse_goes (by decide)
    · refine .ite ?_ ?_
      · exact .step (.step .refl logAccess_goes (by decide)) commRefuse_goes (by decide)
      · refine .ite ?_ ?_
        · exact .step (.snd (.step .refl fresh_goes (by decide))) finish_goes (by decide)
        · refine .ite ?_ ?_
          · exact .step .refl commRefuse_goes (by decide)
          · refine .foldl ?_ (fun x12 y13 h14 => ?_)
            · with_reducible assumption
            · refine .step ?_ fabQueue_goes (by decide)
              with_reducible assumption

theorem execPut_goes {w s} : GoesNext [.csr, .mem, .poison, .out, .freeCtr, .intc, .myk, .hostq, .fab] s (execPut w s) := by
  unfold execPut
  exact .mk (.step .refl commSend_goes (by decide))

theorem drainEnd_goes {s} : Goes [.csr, .out, .intc] s (State.drainEnd s) := by
  unfold State.drainEnd
  refine .step (.step (.step ?_ set_goes (by decide)) drainUpdate_goes (by decide)) raise_goes (by decide)
  exact .step .refl set_goes (by decide)

theorem execFabPacketSend_goes {f offer s} :
    GoesNext [.csr, .out, .intc, .pmon, .fab, .time] s (execFabPacketSend f offer s) := by
  unfold execFabPacketSend
  extract_lets v1
  clear_value v1
  refine .ite ?_ ?_
  · refine .mk (.step (.step (.ite ?_ ?_) flushReplies_goes (by decide)) fabSend_goes (by decide))
    · exact .step .refl fabOffer_goes (by decide)
    · exact .refl
  · exact .mk .refl

theorem execCircuitOpen_goes {w s} :
    GoesNext [.csr, .mem, .poison, .out, .freeCtr, .intc, .myk, .hostq, .fab] s (execCircuitOpen w s) := by
  unfold execCircuitOpen
  extract_lets v1
  clear_value v1
  refine .ite ?_ ?_
  · exact .mk (.fab .refl (by decide))
  · exact .mk (.step .refl circuitOpenRun_goes (by decide))

theorem execPutAll_goes {w s} : GoesNext [.csr, .mem, .poison, .out, .freeCtr, .intc, .myk, .hostq, .fab] s (execPutAll w s) := by
  unfold execPutAll
  exact .mk (.step .refl commSend_goes (by decide))

theorem execFabRetxTimeout_goes {f seq s} : GoesNext [.csr, .out, .intc, .pmon, .fab, .time] s (execFabRetxTimeout f seq s) := by
  unfold execFabRetxTimeout
  exact .mk (.step (.step .refl fabAgain_goes (by decide)) fabSend_goes (by decide))

theorem eptWrite_goes {s cls b} : GoesFst [.csr, .mem, .poison, .out, .fab] s (State.eptWrite s cls b) := by
  unfold State.eptWrite
  extract_lets v1 v2 v3 v4 v5 v6
  clear_value v1 v2 v3 v5 v6
  refine .ite ?_ ?_
  · split
    · rename_i n7
      exact .mk .refl
    · rename_i n8 n9
      extract_lets v10
      have h11 : Goes [.csr, .mem, .poison, .out, .fab] s v10
      · unfold v10
        exact .step .refl writeBytes_goes (by decide)
      clear_value v10
      refine .mk ?_
      unfold v4
      refine .step (.fab ?_ (by decide)) relink_goes (by decide)
      with_reducible assumption
  · refine .ite ?_ ?_
    · exact .mk (.step .refl fabLog_goes (by decide))
    · split
      · rename_i n12 n13
        exact .mk (.step .refl fabLog_goes (by decide))
      · rename_i n14 n15 n16
        extract_lets v17
        have h18 : Goes [.csr, .mem, .poison, .out, .fab] s v17
        · unfold v17
          exact .step .refl writeBytes_goes (by decide)
        clear_value v17
        refine .mk ?_
        unfold v4
        refine .step (.fab ?_ (by decide)) relink_goes (by decide)
        with_reducible assumption

theorem execEptWrite_goes {w s} :
    GoesNext [.csr, .mem, .poison, .out, .freeCtr, .intc, .myk, .hostq, .fab] s (execEptWrite w s) := by
  unfold execEptWrite
  refine .mk ?_
  unfold State.fabTableRun
  extract_lets v1
  have h2 : Goes [.csr, .mem, .poison, .out, .freeCtr, .intc, .myk, .hostq, .fab] s v1
  · unfold v1
    refine .ite ?_ ?_
    · exact .refl
    · exact .step (.step .refl readHost_goes (by decide)) readEvents_goes (by decide)
  clear_value v1
  split
  · rename_i n3 n4 n5
    refine .step (.ite ?_ ?_) fabDescRefuse_goes (by decide)
    · exact .step .refl logAccess_goes (by decide)
    · exact .refl
  · rename_i n6 n7
    refine .ite ?_ ?_
    · exact .step (.snd (.step .refl fresh_goes (by decide))) finish_goes (by decide)
    · split
      rename_i n8 n9 n10 n11
      have h12 : Goes [.csr, .mem, .poison, .out, .freeCtr, .intc, .myk, .hostq, .fab] s n9
      · refine GoesFst.of n11 ?_
        beta_reduce
        refine .foldl ?_ (fun x13 y14 h15 => ?_)
        · refine .mk ?_
          with_reducible assumption
        · split
          rename_i n16 n17 n18 n19
          have h20 : Goes [.csr, .mem, .poison, .out, .freeCtr, .intc, .myk, .hostq, .fab] s n17
          · refine GoesFst.of n19 (.step (.fst ?_) eptWrite_goes (by decide))
            with_reducible assumption
          refine .mk ?_
          with_reducible assumption
      refine .ite ?_ ?_
      · refine .step ?_ finish_goes (by decide)
        with_reducible assumption
      · refine .step ?_ finishError_goes (by decide)
        with_reducible assumption

theorem execCredit_goes {link vc n s} : GoesNext [.csr, .out, .intc, .pmon, .fab] s (execCredit link vc n s) := by
  unfold execCredit
  extract_lets v1 v2
  clear_value v1 v2
  refine .ite ?_ ?_
  · exact .mk (.step .refl addSat_goes (by decide))
  · exact .mk (.step (.fab .refl (by decide)) flushReplies_goes (by decide))

theorem execRtWrite_goes {w s} : GoesNext [.csr, .mem, .poison, .out, .freeCtr, .intc, .myk, .hostq] s (execRtWrite w s) := by
  unfold execRtWrite
  extract_lets v1 v2
  clear_value v1 v2
  refine .mk ?_
  unfold State.fabTableRun
  extract_lets v3
  have h4 : Goes [.csr, .mem, .poison, .out, .freeCtr, .intc, .myk, .hostq] s v3
  · unfold v3
    refine .ite ?_ ?_
    · exact .refl
    · exact .step (.step .refl readHost_goes (by decide)) readEvents_goes (by decide)
  clear_value v3
  split
  · rename_i n5 n6 n7
    refine .step (.ite ?_ ?_) fabDescRefuse_goes (by decide)
    · exact .step .refl logAccess_goes (by decide)
    · exact .refl
  · rename_i n8 n9
    refine .ite ?_ ?_
    · exact .step (.snd (.step .refl fresh_goes (by decide))) finish_goes (by decide)
    · split
      rename_i n10 n11 n12 n13
      have h14 : Goes [.csr, .mem, .poison, .out, .freeCtr, .intc, .myk, .hostq] s n11
      · refine GoesFst.of n13 ?_
        beta_reduce
        extract_lets v15 v16 v17
        clear_value v15 v16
        have h18 : Goes [.csr, .mem, .poison, .out, .freeCtr, .intc, .myk, .hostq] s v17
        · unfold v17
          refine .foldl ?_ (fun x19 y20 h21 => ?_)
          · with_reducible assumption
          · refine .step ?_ writeBytes_goes (by decide)
            with_reducible assumption
        clear_value v17
        refine .ite ?_ ?_
        · refine .mk (.step ?_ fabLog_goes (by decide))
          with_reducible assumption
        · refine .mk (.ite ?_ ?_)
          · refine .step ?_ set_goes (by decide)
            with_reducible assumption
          · with_reducible assumption
      refine .ite ?_ ?_
      · refine .step ?_ finish_goes (by decide)
        with_reducible assumption
      · refine .step ?_ finishError_goes (by decide)
        with_reducible assumption

theorem execEpochDrainTimeout_goes {s} : GoesNext [.csr, .out, .intc, .fab] s (execEpochDrainTimeout s) := by
  unfold execEpochDrainTimeout
  extract_lets v1 v2 v3 v4
  clear_value v1 v3
  have h5 : Goes [.csr, .out, .intc, .fab] s v4
  · unfold v4
    exact .fab .refl (by decide)
  clear_value v4
  refine .ite ?_ ?_
  · refine .mk (.step (.step (.step ?_ fabLog_goes (by decide)) raise_goes (by decide)) drainEnd_goes (by decide))
    with_reducible assumption
  · exact .mk .refl

theorem execFabNoRouteTimeout_goes {f s} : GoesNext [.csr, .out, .intc, .hostq, .fab] s (execFabNoRouteTimeout f s) := by
  unfold execFabNoRouteTimeout
  extract_lets v1 v2 v3 v4 v5 v6
  clear_value v1 v2 v3
  have h7 : Goes [.csr, .out, .intc, .hostq, .fab] s v4
  · unfold v4
    exact .fab .refl (by decide)
  clear_value v4 v5
  have h8 : Goes [.csr, .out, .intc, .hostq, .fab] s v6
  · unfold v6
    refine .step ?_ putFabTx_goes (by decide)
    with_reducible assumption
  clear_value v6
  split
  · rename_i n9 n10
    refine .mk ?_
    with_reducible assumption
  · rename_i n11 n12 n13
    extract_lets v14
    have h15 : Goes [.csr, .out, .intc, .hostq, .fab] s v14
    · unfold v14
      refine .step (.step ?_ fabLog_goes (by decide)) raise_goes (by decide)
      with_reducible assumption
    clear_value v14
    refine .ite ?_ ?_
    · refine .mk ?_
      with_reducible assumption
    · refine .mk (.foldl ?_ (fun x16 y17 h18 => ?_))
      · with_reducible assumption
      · refine .step ?_ msgFailed_goes (by decide)
        with_reducible assumption

theorem execEpochDrainEnd_goes {s} : GoesNext [.csr, .out, .intc] s (execEpochDrainEnd s) := by
  unfold execEpochDrainEnd
  refine .ite ?_ ?_
  · exact .mk (.step .refl drainEnd_goes (by decide))
  · exact .mk .refl

theorem epochArm_goes {s} : GoesOk [.csr, .fab] s (State.epochArm s) := by
  unfold State.epochArm
  extract_lets v1
  have h2 : Goes [.csr, .fab] s v1
  · unfold v1
    exact .step (.step .refl set_goes (by decide)) set_goes (by decide)
  clear_value v1
  refine .ite ?_ ?_
  · exact .error
  · refine .mk (.step (.step ?_ relink_goes (by decide)) drainUpdate_goes (by decide))
    with_reducible assumption

/-! ## Photonics -/

theorem phoLog_goes {s reason link wl dir source} : Goes [.csr, .out] s (State.phoLog s reason link wl dir source) := by
  unfold State.phoLog
  refine .step (.step (.step (.step ?_ set_goes (by decide)) set_goes (by decide)) set_goes (by decide)) report_goes (by decide)
  exact .step (.step (.step .refl set_goes (by decide)) set_goes (by decide)) set_goes (by decide)

theorem sendMirror_goes {s l lane back} : Goes [.out] s (State.sendMirror s l lane back) := by
  unfold State.sendMirror
  exact .step .refl emit_goes (by decide)

theorem putDir_goes {s l d x} : Goes [.pho] s (State.putDir s l d x) := by
  unfold State.putDir
  extract_lets v1
  clear_value v1
  exact .pho .refl (by decide)

theorem sendLaneMap_goes {s l lane wl} : Goes [.out] s (State.sendLaneMap s l lane wl) := by
  unfold State.sendLaneMap
  exact .step .refl emit_goes (by decide)

theorem laneFails_goes {s l d wl lane} : Goes [.csr, .out, .intc, .pho] s (State.laneFails s l d wl lane) := by
  unfold State.laneFails
  extract_lets v1 v2 v3 v4
  clear_value v1
  have h5 : Goes [.csr, .out, .intc, .pho] s v2
  · unfold v2
    split
    · rename_i n6 n7 n8
      refine .ite ?_ ?_
      · exact .step .refl sendMirror_goes (by decide)
      · exact .refl
    · rename_i n9 n10
      exact .refl
  clear_value v2
  have h11 : Goes [.csr, .out, .intc, .pho] s v3
  · unfold v3
    refine .step (.step (.step ?_ putDir_goes (by decide)) set_goes (by decide)) set_goes (by decide)
    with_reducible assumption
  clear_value v3
  have h12 : Goes [.csr, .out, .intc, .pho] s v4
  · unfold v4
    refine .step (.step ?_ phoLog_goes (by decide)) raise_goes (by decide)
    with_reducible assumption
  clear_value v4
  split
  · rename_i n13 n14 n15
    refine .ite ?_ ?_
    · exact .step (.step .refl phoLog_goes (by decide)) raise_goes (by decide)
    · refine .ite ?_ ?_
      · refine .step ?_ sendLaneMap_goes (by decide)
        with_reducible assumption
      · with_reducible assumption
  · rename_i n16 n17
    exact .step (.step .refl phoLog_goes (by decide)) raise_goes (by decide)

theorem feedForward_goes {s e} : GoesSnd [.freeCtr] s (State.feedForward s e) := by
  unfold State.feedForward
  extract_lets v1 v2
  clear_value v1 v2
  refine .ite ?_ ?_
  · exact .mk .refl
  · exact .step .refl divOpen_goes (by decide)

theorem resumeLink_goes {s l} : Goes [.csr, .time] s (State.resumeLink s l) := by
  unfold State.resumeLink
  extract_lets v1 v2 v3
  have h4 : Goes [.csr, .time] s v1
  · unfold v1
    exact .step .refl set_goes (by decide)
  clear_value v1 v2
  have h5 : Goes [.csr, .time] s v3
  · unfold v3
    refine .time ?_ (by decide)
    with_reducible assumption
  clear_value v3
  refine .step ?_ set_goes (by decide)
  with_reducible assumption

theorem steerCircuits_goes {s l far} : Goes [.csr, .mem, .poison, .out, .intc, .fab] s (State.steerCircuits s l far) := by
  unfold State.steerCircuits
  extract_lets v1
  clear_value v1
  refine .ite ?_ ?_
  · exact .refl
  · exact .step (.step (.step .refl closeCircuits_goes (by decide)) fabLog_goes (by decide)) raise_goes (by decide)

theorem execResteerComplete_goes {locked far s} :
    GoesNext [.csr, .mem, .poison, .out, .intc, .fab, .time, .pho] s (execResteerComplete locked far s) := by
  unfold execResteerComplete
  extract_lets v1 v2 v3 v4 v5 v6 v7 v8 v9 v10 v11 v12 v13
  clear_value v1 v2 v3
  have h14 : Goes [.csr, .mem, .poison, .out, .intc, .fab, .time, .pho] s v4
  · unfold v4
    exact .step (.step (.step .refl set_goes (by decide)) set_goes (by decide)) set_goes (by decide)
  clear_value v4
  have h15 : Goes [.csr, .mem, .poison, .out, .intc, .fab, .time, .pho] s v5
  · unfold v5
    refine .foldl ?_ (fun x16 y17 h18 => ?_)
    · with_reducible assumption
    · refine .step ?_ set_goes (by decide)
      with_reducible assumption
  clear_value v5
  have h19 : Goes [.csr, .mem, .poison, .out, .intc, .fab, .time, .pho] s v6
  · unfold v6
    refine .foldl ?_ (fun x20 y21 h22 => ?_)
    · with_reducible assumption
    · refine .step ?_ resumeLink_goes (by decide)
      with_reducible assumption
  clear_value v6 v7
  have h23 : Goes [.csr, .mem, .poison, .out, .intc, .fab, .time, .pho] s v8
  · unfold v8
    refine .pho ?_ (by decide)
    with_reducible assumption
  clear_value v8
  have h24 : Goes [.csr, .mem, .poison, .out, .intc, .fab, .time, .pho] s v9
  · unfold v9
    refine .foldl ?_ (fun x25 y26 h27 => ?_)
    · with_reducible assumption
    · refine .step ?_ steerCircuits_goes (by decide)
      with_reducible assumption
  clear_value v9
  have h28 : Goes [.csr, .mem, .poison, .out, .intc, .fab, .time, .pho] s v10
  · unfold v10
    refine .step (.step ?_ report_goes (by decide)) raise_goes (by decide)
    with_reducible assumption
  clear_value v10 v11
  have h29 : Goes [.csr, .mem, .poison, .out, .intc, .fab, .time, .pho] s v12
  · unfold v12
    refine .foldl ?_ (fun x30 y31 h32 => ?_)
    · exact .refl
    · refine .step ?_ resumeLink_goes (by decide)
      with_reducible assumption
  clear_value v12 v13
  refine .ite ?_ ?_
  · refine .mk (.ite ?_ ?_)
    · with_reducible assumption
    · refine .step (.step ?_ phoLog_goes (by decide)) raise_goes (by decide)
      with_reducible assumption
  · refine .mk (.pho ?_ (by decide))
    with_reducible assumption

theorem execRingRelocked_goes {bank ring s} : GoesNext [.csr, .pho] s (execRingRelocked bank ring s) := by
  unfold execRingRelocked
  extract_lets v1 v2 v3 v4 v5 v6 v7
  clear_value v1 v2 v3 v4
  have h8 : Goes [.csr, .pho] s v5
  · unfold v5
    exact .pho .refl (by decide)
  clear_value v5
  have h9 : Goes [.csr, .pho] s v6
  · unfold v6
    refine .step ?_ set_goes (by decide)
    with_reducible assumption
  clear_value v6 v7
  refine .ite ?_ ?_
  · exact .mk .refl
  · split
    · rename_i n10 n11 n12 n13 n14 n15 n16 n17 n18
      refine .ite ?_ ?_
      · refine .mk (.step (.step ?_ putDir_goes (by decide)) set_goes (by decide))
        with_reducible assumption
      · refine .mk ?_
        with_reducible assumption
    · rename_i n19 n20 n21 n22 n23
      refine .mk (.step ?_ putDir_goes (by decide))
      with_reducible assumption
    · rename_i n24 n25 n26 n27 n28
      refine .mk ?_
      with_reducible assumption

theorem bankRead_goes {s b} : Goes [.csr, .out, .pho] s (State.bankRead s b) := by
  unfold State.bankRead
  extract_lets v1 v2 v3 v4
  clear_value v1
  have h5 : Goes [.csr, .out, .pho] s v2
  · unfold v2
    exact .pho .refl (by decide)
  clear_value v2 v3 v4
  refine .ite ?_ ?_
  · refine .ite ?_ ?_
    · refine .pho ?_ (by decide)
      with_reducible assumption
    · refine .step ?_ phoLog_goes (by decide)
      with_reducible assumption
  · exact .refl

theorem startHandover_goes {s p} : Goes [.csr, .out, .intc, .pho] s (State.startHandover s p) := by
  unfold State.startHandover
  extract_lets v1 v2
  clear_value v1 v2
  refine .ite ?_ ?_
  · exact .refl
  · split
    · rename_i n3 n4
      exact .step (.step .refl phoLog_goes (by decide)) raise_goes (by decide)
    · rename_i n5 n6 n7
      extract_lets v8 v9 v10 v11
      clear_value v8
      have h12 : Goes [.csr, .out, .intc, .pho] s v9
      · unfold v9
        exact .pho .refl (by decide)
      clear_value v9
      have h13 : Goes [.csr, .out, .intc, .pho] s v10
      · unfold v10
        refine .step (.step ?_ set_goes (by decide)) set_goes (by decide)
        with_reducible assumption
      clear_value v10
      have h14 : Goes [.csr, .out, .intc, .pho] s v11
      · unfold v11
        refine .step (.step ?_ set_goes (by decide)) set_goes (by decide)
        with_reducible assumption
      clear_value v11
      refine .step (.step ?_ phoLog_goes (by decide)) raise_goes (by decide)
      with_reducible assumption

theorem execLaserPowerCheck_goes {source db light s} :
    GoesNext [.csr, .out, .intc, .fab, .pho] s (execLaserPowerCheck source db light s) := by
  unfold execLaserPowerCheck
  extract_lets v1 v2 v3 v4 v5 v6 v7 v8 v9
  clear_value v1
  have h10 : Goes [.csr, .out, .intc, .fab, .pho] s v2
  · unfold v2
    exact .step .refl set_goes (by decide)
  clear_value v2 v4 v5 v6
  have h11 : Goes [.csr, .out, .intc, .fab, .pho] s v7
  · unfold v7
    refine .ite ?_ ?_
    · refine .step (.step (.pho ?_ (by decide)) phoLog_goes (by decide)) raise_goes (by decide)
      with_reducible assumption
    · refine .ite ?_ ?_
      · refine .pho ?_ (by decide)
        with_reducible assumption
      · with_reducible assumption
  clear_value v7
  have h12 : Goes [.csr, .out, .intc, .fab, .pho] s v8
  · unfold v8
    refine .step (.step (.step ?_ phoLog_goes (by decide)) raise_goes (by decide)) moduleFault_goes (by decide)
    with_reducible assumption
  clear_value v8
  have h13 : Goes [.csr, .out, .intc, .fab, .pho] s v9
  · unfold v9
    refine .foldl ?_ (fun x14 y15 h16 => ?_)
    · with_reducible assumption
    · refine .step ?_ linkWidth_goes (by decide)
      with_reducible assumption
  clear_value v9
  refine .ite ?_ ?_
  · refine .mk ?_
    with_reducible assumption
  · refine .ite ?_ ?_
    · refine .mk (.step ?_ startHandover_goes (by decide))
      with_reducible assumption
    · refine .ite ?_ ?_
      · refine .mk (.step ?_ startHandover_goes (by decide))
        with_reducible assumption
      · refine .mk ?_
        with_reducible assumption

theorem quiet_goes {s ls us} : Goes [.csr, .out] s (State.quiet s ls us) := by
  unfold State.quiet
  refine .foldl ?_ (fun x1 y2 h3 => ?_)
  · exact .refl
  · refine .step (.step ?_ set_goes (by decide)) emit_goes (by decide)
    with_reducible assumption

theorem steerArm_goes {s} : GoesOk [.csr, .out, .pho] s (State.steerArm s) := by
  unfold State.steerArm
  extract_lets v1 v2 v3 v4 v5
  clear_value v1 v2 v3
  have h6 : Goes [.csr, .out, .pho] s v4
  · unfold v4
    exact .step (.step .refl set_goes (by decide)) set_goes (by decide)
  clear_value v4 v5
  refine .ite ?_ ?_
  · exact .error
  · refine .ite ?_ ?_
    · exact .error
    · refine .mk (.step (.pho ?_ (by decide)) quiet_goes (by decide))
      with_reducible assumption

theorem execHandoverGapStart_goes {s} : GoesNext [.csr] s (execHandoverGapStart s) := by
  unfold execHandoverGapStart
  split
  · rename_i n1 n2
    exact .mk .refl
  · rename_i n3 n4 n5
    extract_lets v6
    have h7 : Goes [.csr] s v6
    · unfold v6
      exact .step (.step (.step .refl set_goes (by decide)) set_goes (by decide)) set_goes (by decide)
    clear_value v6
    refine .ite ?_ ?_
    · exact .mk .refl
    · refine .mk (.step (.step ?_ set_goes (by decide)) set_goes (by decide))
      with_reducible assumption

theorem execSpareLocked_goes {s} : GoesNext [.csr, .out, .pho] s (execSpareLocked s) := by
  unfold execSpareLocked
  extract_lets v1
  clear_value v1
  split
  · rename_i n2 n3
    exact .mk .refl
  · rename_i n4 n5 n6
    refine .ite ?_ ?_
    · exact .mk .refl
    · exact .mk (.step (.step (.pho .refl (by decide)) set_goes (by decide)) quiet_goes (by decide))

theorem wavelengthFails_goes {s l d wl} : Goes [.csr, .out, .intc, .pho] s (State.wavelengthFails s l d wl) := by
  unfold State.wavelengthFails
  extract_lets v1 v2 v3 v4
  have h5 : Goes [.csr, .out, .intc, .pho] s v1
  · unfold v1
    exact .step (.step .refl addSat_goes (by decide)) set_goes (by decide)
  clear_value v1
  have h6 : Goes [.csr, .out, .intc, .pho] s v2
  · unfold v2
    refine .step (.step ?_ phoLog_goes (by decide)) raise_goes (by decide)
    with_reducible assumption
  clear_value v2 v3
  have h7 : Goes [.csr, .out, .intc, .pho] s v4
  · unfold v4
    refine .step (.step (.step ?_ putDir_goes (by decide)) set_goes (by decide)) set_goes (by decide)
    with_reducible assumption
  clear_value v4
  refine .ite ?_ ?_
  · split
    · rename_i n8 n9
      refine .step (.step ?_ putDir_goes (by decide)) set_goes (by decide)
      with_reducible assumption
    · rename_i n10 n11 n12
      refine .ite ?_ ?_
      · with_reducible assumption
      · refine .step ?_ laneFails_goes (by decide)
        with_reducible assumption
  · split
    · rename_i n13 n14
      with_reducible assumption
    · rename_i n15 n16 n17
      refine .ite ?_ ?_
      · refine .step ?_ putDir_goes (by decide)
        with_reducible assumption
      · refine .step ?_ laneFails_goes (by decide)
        with_reducible assumption

theorem ringUpdate_goes {s b j h far} : Goes [.csr, .out, .intc, .pho] s (State.ringUpdate s b j h far) := by
  unfold State.ringUpdate
  extract_lets v1 v2 v3 v4 v5 v6 v7
  clear_value v2 v4
  have h8 : Goes [.csr, .out, .intc, .pho] s v6
  · unfold v6
    exact .pho .refl (by decide)
  clear_value v7
  refine .ite ?_ ?_
  · refine .step (.pho ?_ (by decide)) wavelengthFails_goes (by decide)
    with_reducible assumption
  · with_reducible assumption

theorem phoReadyUpdate_goes {s} : Goes [.csr] s (State.phoReadyUpdate s) := by
  unfold State.phoReadyUpdate
  extract_lets v1
  clear_value v1
  refine .ite ?_ ?_
  · exact .step .refl set_goes (by decide)
  · exact .refl

theorem execRingLockUpdate_goes {bank integ far s} :
    GoesNext [.csr, .out, .freeCtr, .intc, .pho] s (execRingLockUpdate bank integ far s) := by
  unfold execRingLockUpdate
  extract_lets v1 v2 v3
  clear_value v1
  have h4 : Goes [.csr, .out, .freeCtr, .intc, .pho] s v2
  · unfold v2
    exact .step .refl bankRead_goes (by decide)
  clear_value v2 v3
  refine .ite ?_ ?_
  · exact .mk .refl
  · split
    rename_i n5 n6 n7 n8
    have h9 : Goes [.csr, .out, .freeCtr, .intc, .pho] s n7
    · refine GoesSnd.of n8 (.ite ?_ ?_)
      · refine .step ?_ feedForward_goes (by decide)
        with_reducible assumption
      · refine .mk ?_
        with_reducible assumption
    extract_lets v10 v11 v12 v13
    clear_value v10
    have h14 : Goes [.csr, .out, .freeCtr, .intc, .pho] s v11
    · unfold v11
      refine .foldl ?_ (fun x15 y16 h17 => ?_)
      · with_reducible assumption
      · refine .step ?_ ringUpdate_goes (by decide)
        with_reducible assumption
    clear_value v11 v12
    have h18 : Goes [.csr, .out, .freeCtr, .intc, .pho] s v13
    · unfold v13
      refine .ite ?_ ?_
      · refine .pho ?_ (by decide)
        with_reducible assumption
      · with_reducible assumption
    clear_value v13
    refine .mk (.step ?_ phoReadyUpdate_goes (by decide))
    with_reducible assumption

theorem execCalSweepEnd_goes {link dir kept s} : GoesNext [.csr, .out, .pho] s (execCalSweepEnd link dir kept s) := by
  unfold execCalSweepEnd
  extract_lets v1 v2 v3
  clear_value v1 v2 v3
  split
  · rename_i n4 n5
    exact .mk .refl
  · rename_i n6 n7 n8
    extract_lets v9 v10 v11 v12
    have h13 : Goes [.csr, .out, .pho] s v9
    · unfold v9
      split
      · rename_i n14 n15
        exact .pho .refl (by decide)
      · rename_i n16
        exact .step .refl phoLog_goes (by decide)
    clear_value v9
    have h17 : Goes [.csr, .out, .pho] s v10
    · unfold v10
      refine .step (.step (.step ?_ addSat_goes (by decide)) set_goes (by decide)) emit_goes (by decide)
      with_reducible assumption
    clear_value v10 v11
    have h18 : Goes [.csr, .out, .pho] s v12
    · unfold v12
      refine .step ?_ putDir_goes (by decide)
      with_reducible assumption
    clear_value v12
    split
    · rename_i n19
      refine .mk ?_
      with_reducible assumption
    · rename_i n20 n21
      refine .mk (.ite ?_ ?_)
      · refine .step ?_ sendMirror_goes (by decide)
        with_reducible assumption
      · with_reducible assumption

theorem execResteerLockTimeout_goes {link s} : GoesNext [.csr, .out, .intc, .fab, .pho] s (execResteerLockTimeout link s) := by
  unfold execResteerLockTimeout
  extract_lets v1 v2
  clear_value v1 v2
  refine .ite ?_ ?_
  · exact .mk (.step (.step (.pho .refl (by decide)) set_goes (by decide)) linkWidth_goes (by decide))
  · exact .mk .refl

theorem execSpareWarmed_goes {s} : GoesNext [.csr, .pho] s (execSpareWarmed s) := by
  unfold execSpareWarmed
  extract_lets v1
  clear_value v1
  split
  · rename_i n2 n3 n4
    refine .mk (.ite ?_ ?_)
    · exact .step .refl set_goes (by decide)
    · exact .refl
  · rename_i n5 n6
    split
    · rename_i n7 n8 n9
      refine .mk (.ite ?_ ?_)
      · exact .pho .refl (by decide)
      · exact .refl
    · rename_i n10 n11
      exact .mk .refl

theorem execMirrorSwitch_goes {link dir lane back s} : GoesNext [.csr, .out, .pho] s (execMirrorSwitch link dir lane back s) := by
  unfold execMirrorSwitch
  extract_lets v1 v2 v3
  clear_value v1 v2
  have h4 : Goes [.csr, .out, .pho] s v3
  · unfold v3
    exact .step (.step .refl putDir_goes (by decide)) set_goes (by decide)
  clear_value v3
  refine .ite ?_ ?_
  · refine .ite ?_ ?_
    · exact .mk (.step (.step .refl putDir_goes (by decide)) set_goes (by decide))
    · exact .mk .refl
  · refine .ite ?_ ?_
    · exact .mk .refl
    · split
      · rename_i n5 n6
        refine .mk ?_
        with_reducible assumption
      · rename_i n7 n8 n9
        refine .mk (.step (.step ?_ set_goes (by decide)) emit_goes (by decide))
        with_reducible assumption

theorem execResteerGapStart_goes {s} : GoesNext [.csr] s (execResteerGapStart s) := by
  unfold execResteerGapStart
  refine .ite ?_ ?_
  · refine .mk (.foldl ?_ (fun x1 y2 h3 => ?_))
    · exact .refl
    · refine .step ?_ set_goes (by decide)
      with_reducible assumption
  · exact .mk .refl

theorem handoverGo_goes {s p} : GoesOk [.csr, .out, .intc, .pho] s (State.handoverGo s p) := by
  unfold State.handoverGo
  refine .ite ?_ ?_
  · exact .mk (.step .refl startHandover_goes (by decide))
  · exact .error

theorem execLinkTrainingEnd_goes {link tx rx s} :
    GoesNext [.csr, .out, .intc, .fab, .pho] s (execLinkTrainingEnd link tx rx s) := by
  unfold execLinkTrainingEnd
  extract_lets v1 v2 v3 v4 v5
  clear_value v1 v2
  have h6 : Goes [.csr, .out, .intc, .fab, .pho] s v3
  · unfold v3
    exact .step (.step (.step .refl set_goes (by decide)) set_goes (by decide)) set_goes (by decide)
  clear_value v3
  have h7 : Goes [.csr, .out, .intc, .fab, .pho] s v4
  · unfold v4
    refine .step (.step ?_ set_goes (by decide)) set_goes (by decide)
    with_reducible assumption
  clear_value v4
  have h8 : Goes [.csr, .out, .intc, .fab, .pho] s v5
  · unfold v5
    refine .step (.step ?_ putDir_goes (by decide)) putDir_goes (by decide)
    with_reducible assumption
  clear_value v5
  refine .ite ?_ ?_
  · exact .mk .refl
  · refine .mk (.step ?_ linkWidth_goes (by decide))
    with_reducible assumption

theorem sensorFaulty_goes {s k} : Goes [.csr, .mem, .poison, .out, .freeCtr, .intc, .myk, .hlth] s (State.sensorFaulty s k) := by
  unfold State.sensorFaulty
  extract_lets v1
  have h2 : Goes [.csr, .mem, .poison, .out, .freeCtr, .intc, .myk, .hlth] s v1
  · unfold v1
    exact .step (.step .refl set_goes (by decide)) set_goes (by decide)
  clear_value v1
  refine .step (.step (.step ?_ raise_goes (by decide)) health_goes (by decide)) capChange_goes (by decide)
  refine .step ?_ phoLog_goes (by decide)
  with_reducible assumption

theorem execSensorSample_goes {temps rate s} :
    GoesNext [.csr, .mem, .poison, .out, .freeCtr, .intc, .myk, .hlth, .pho] s (execSensorSample temps rate s) := by
  unfold execSensorSample
  extract_lets v1 v2 v3 v4 v5
  have h6 : Goes [.csr, .mem, .poison, .out, .freeCtr, .intc, .myk, .hlth, .pho] s v3
  · unfold v3
    refine .foldl ?_ (fun x7 y8 h9 => ?_)
    · exact .refl
    · extract_lets v10
      have h11 : Goes [.csr, .mem, .poison, .out, .freeCtr, .intc, .myk, .hlth, .pho] s v10
      · unfold v10
        refine .step ?_ set_goes (by decide)
        with_reducible assumption
      clear_value v10
      refine .ite ?_ ?_
      · refine .step ?_ sensorFaulty_goes (by decide)
        with_reducible assumption
      · with_reducible assumption
  clear_value v3
  have h12 : Goes [.csr, .mem, .poison, .out, .freeCtr, .intc, .myk, .hlth, .pho] s v4
  · unfold v4
    refine .ite ?_ ?_
    · refine .step (.step ?_ phoLog_goes (by decide)) raise_goes (by decide)
      with_reducible assumption
    · with_reducible assumption
  clear_value v4 v5
  refine .mk (.pho ?_ (by decide))
  with_reducible assumption

theorem execHandoverTimeLimit_goes {s} : GoesNext [.csr, .out, .intc, .pho] s (execHandoverTimeLimit s) := by
  unfold execHandoverTimeLimit
  extract_lets v1 v2
  clear_value v1
  have h3 : Goes [.csr, .out, .intc, .pho] s v2
  · unfold v2
    exact .step (.step (.pho .refl (by decide)) set_goes (by decide)) set_goes (by decide)
  clear_value v2
  split
  · rename_i n4 n5
    exact .mk .refl
  · rename_i n6 n7 n8
    extract_lets v9
    have h10 : Goes [.csr, .out, .intc, .pho] s v9
    · unfold v9
      refine .step (.step (.step ?_ set_goes (by decide)) phoLog_goes (by decide)) raise_goes (by decide)
      with_reducible assumption
    clear_value v9
    refine .ite ?_ ?_
    · exact .mk .refl
    · refine .mk (.ite ?_ ?_)
      · refine .step ?_ startHandover_goes (by decide)
        with_reducible assumption
      · with_reducible assumption

theorem execCalStep_goes {link dir s} : GoesNext [.csr, .out, .pho] s (execCalStep link dir s) := by
  unfold execCalStep
  extract_lets v1 v2
  clear_value v1 v2
  refine .ite ?_ ?_
  · exact .mk .refl
  · split
    · rename_i n3 n4
      exact .mk .refl
    · rename_i n5 n6 n7
      extract_lets v8
      have h9 : Goes [.csr, .out, .pho] s v8
      · unfold v8
        exact .step .refl putDir_goes (by decide)
      clear_value v8
      split
      · rename_i n10 n11
        refine .mk (.step (.step ?_ set_goes (by decide)) emit_goes (by decide))
        with_reducible assumption
      · rename_i n12 n13 n14
        extract_lets v15
        have h16 : Goes [.csr, .out, .pho] s v15
        · unfold v15
          refine .step (.step ?_ putDir_goes (by decide)) set_goes (by decide)
          with_reducible assumption
        clear_value v15
        refine .mk (.ite ?_ ?_)
        · refine .step ?_ sendMirror_goes (by decide)
          with_reducible assumption
        · with_reducible assumption

theorem bankReload_goes {s v} : Goes [.pho] s (State.bankReload s v) := by
  unfold State.bankReload
  extract_lets v1 v2
  clear_value v1 v2
  exact .pho .refl (by decide)

theorem execLaneMapReceived_goes {link field s} : GoesNext [.csr, .pho] s (execLaneMapReceived link field s) := by
  unfold execLaneMapReceived
  extract_lets v1 v2 v3 v4 v5 v6
  clear_value v1 v2 v3 v4 v5 v6
  refine .ite ?_ ?_
  · exact .mk (.step .refl addSat_goes (by decide))
  · refine .ite ?_ ?_
    · exact .mk .refl
    · refine .ite ?_ ?_
      · exact .mk (.step (.step .refl putDir_goes (by decide)) set_goes (by decide))
      · refine .ite ?_ ?_
        · refine .ite ?_ ?_
          · exact .mk (.step (.step .refl putDir_goes (by decide)) set_goes (by decide))
          · exact .mk .refl
        · exact .mk (.step .refl putDir_goes (by decide))

theorem execHandoverSwitched_goes {s} : GoesNext [.csr, .out, .intc, .pho] s (execHandoverSwitched s) := by
  unfold execHandoverSwitched
  split
  · rename_i n1 n2
    exact .mk .refl
  · rename_i n3 n4 n5
    extract_lets v6 v7 v8
    have h9 : Goes [.csr, .out, .intc, .pho] s v6
    · unfold v6
      refine .foldl ?_ (fun x10 y11 h12 => ?_)
      · exact .refl
      · refine .step ?_ set_goes (by decide)
        with_reducible assumption
    clear_value v6 v7
    have h13 : Goes [.csr, .out, .intc, .pho] s v8
    · unfold v8
      refine .step (.step (.pho ?_ (by decide)) set_goes (by decide)) set_goes (by decide)
      with_reducible assumption
    clear_value v8
    refine .ite ?_ ?_
    · exact .mk .refl
    · refine .mk (.step (.step ?_ phoLog_goes (by decide)) raise_goes (by decide))
      with_reducible assumption

/-! ## Time -/

theorem putTime_goes {s x} : Goes [.csr, .timeFrac] s (State.putTime s x) := by
  unfold State.putTime
  extract_lets v1
  clear_value v1
  exact .step (.timeFrac .refl (by decide)) set_goes (by decide)

theorem timeLog_goes {s reason unit} : Goes [.csr, .out] s (State.timeLog s reason unit) := by
  unfold State.timeLog
  refine .step (.step (.step (.step ?_ set_goes (by decide)) set_goes (by decide)) set_goes (by decide)) report_goes (by decide)
  exact .refl

theorem putInc_goes {s adj} : Goes [.csr] s (State.putInc s adj) := by
  unfold State.putInc
  exact .step .refl set_goes (by decide)

theorem servo_goes {s st} : Goes [.csr] s (State.servo s st) := by
  unfold State.servo
  exact .step .refl set_goes (by decide)

theorem holdover_goes {s cause} : Goes [.csr, .out, .intc, .time] s (State.holdover s cause) := by
  unfold State.holdover
  extract_lets v1 v2 v3
  clear_value v1 v2
  have h4 : Goes [.csr, .out, .intc, .time] s v3
  · unfold v3
    exact .time .refl (by decide)
  clear_value v3
  refine .ite ?_ ?_
  · refine .step (.step (.step ?_ putInc_goes (by decide)) timeLog_goes (by decide)) raise_goes (by decide)
    refine .step ?_ servo_goes (by decide)
    with_reducible assumption
  · exact .refl

theorem outlier_goes {s} : Goes [.csr, .out, .intc, .time] s (State.outlier s) := by
  unfold State.outlier
  extract_lets v1 v2 v3
  clear_value v1 v2
  have h4 : Goes [.csr, .out, .intc, .time] s v3
  · unfold v3
    exact .time .refl (by decide)
  clear_value v3
  refine .ite ?_ ?_
  · refine .step (.step (.step ?_ holdover_goes (by decide)) timeLog_goes (by decide)) raise_goes (by decide)
    with_reducible assumption
  · with_reducible assumption

theorem timeStep_goes {s x} : Goes [.csr, .out, .timeFrac, .intc, .line] s (State.timeStep s x) := by
  unfold State.timeStep
  refine .foldl ?_ (fun x1 y2 h3 => ?_)
  · exact .step (.step .refl putTime_goes (by decide)) addWrap_goes (by decide)
  · refine .step ?_ perfSecond_goes (by decide)
    with_reducible assumption

theorem timeDelta_goes {s d} : Goes [.csr, .out, .timeFrac, .intc, .line] s (State.timeDelta s d) := by
  unfold State.timeDelta
  exact .step .refl timeStep_goes (by decide)

theorem execRefclkRestored_goes {s} : GoesNext [.csr, .out, .intc] s (execRefclkRestored s) := by
  unfold execRefclkRestored
  exact .mk (.step (.step (.step .refl set_goes (by decide)) report_goes (by decide)) raise_goes (by decide))

theorem txqRead_goes {s} : GoesSnd [.csr, .time] s (State.txqRead s) := by
  unfold State.txqRead
  extract_lets v1
  clear_value v1
  split
  · rename_i n2 n3
    exact .mk .refl
  · rename_i n4 n5 n6 n7
    exact .mk (.step (.step (.time .refl (by decide)) set_goes (by decide)) set_goes (by decide))

theorem servoUpdate_goes {s o acquire} : Goes [.csr, .out, .freeCtr, .time] s (State.servoUpdate s o acquire) := by
  unfold State.servoUpdate
  extract_lets v1 v2 v3 v4 v5 v6 v7 v8 v9 v10 v11
  clear_value v1 v2
  have h12 : GoesSnd [.csr, .out, .freeCtr, .time] s v3
  · unfold v3
    exact .step .refl divOpen_goes (by decide)
  clear_value v3
  have h13 : GoesSnd [.csr, .out, .freeCtr, .time] s v4
  · unfold v4
    refine .step (.snd ?_) divOpen_goes (by decide)
    with_reducible assumption
  clear_value v4
  have h14 : GoesSnd [.csr, .out, .freeCtr, .time] s v5
  · unfold v5
    refine .step (.snd ?_) divOpen_goes (by decide)
    with_reducible assumption
  clear_value v5
  have h15 : Goes [.csr, .out, .freeCtr, .time] s v6
  · unfold v6
    refine .snd ?_
    with_reducible assumption
  clear_value v6 v7 v8
  have h16 : Goes [.csr, .out, .freeCtr, .time] s v9
  · unfold v9
    refine .step (.step ?_ set_goes (by decide)) putInc_goes (by decide)
    with_reducible assumption
  clear_value v9
  have h17 : Goes [.csr, .out, .freeCtr, .time] s v10
  · unfold v10
    refine .ite ?_ ?_
    · refine .step ?_ timeLog_goes (by decide)
      with_reducible assumption
    · with_reducible assumption
  clear_value v10 v11
  refine .time ?_ (by decide)
  with_reducible assumption

theorem fromSecond_goes {s t} : GoesSnd [.freeCtr] s (State.fromSecond s t) := by
  unfold State.fromSecond
  extract_lets v1
  clear_value v1
  refine .ite ?_ ?_
  · exact .mk .refl
  · refine .ite ?_ ?_
    · exact .mk (.snd (.step .refl fresh_goes (by decide)))
    · exact .mk .refl

theorem ppsBad_goes {s} : Goes [.csr, .out, .intc] s (State.ppsBad s) := by
  unfold State.ppsBad
  exact .step (.step .refl timeLog_goes (by decide)) raise_goes (by decide)

theorem servoLocked_goes {s} : Goes [.csr, .out, .intc] s (State.servoLocked s) := by
  unfold State.servoLocked
  exact .step (.step (.step .refl servo_goes (by decide)) report_goes (by decide)) raise_goes (by decide)

theorem acquireSample_goes {s o} : Goes [.csr, .out, .freeCtr, .intc, .time] s (State.acquireSample s o) := by
  unfold State.acquireSample
  extract_lets v1 v2 v3 v4
  have h5 : Goes [.csr, .out, .freeCtr, .intc, .time] s v1
  · unfold v1
    exact .step .refl servoUpdate_goes (by decide)
  clear_value v1 v2 v3
  have h6 : Goes [.csr, .out, .freeCtr, .intc, .time] s v4
  · unfold v4
    refine .time ?_ (by decide)
    with_reducible assumption
  clear_value v4
  refine .ite ?_ ?_
  · refine .step ?_ servoLocked_goes (by decide)
    with_reducible assumption
  · with_reducible assumption

theorem servoSample_goes {s o} : Goes [.csr, .out, .freeCtr, .timeFrac, .intc, .time, .line] s (State.servoSample s o) := by
  unfold State.servoSample
  extract_lets v1 v2 v3 v4 v5 v6
  clear_value v1 v2 v3
  have h7 : Goes [.csr, .out, .freeCtr, .timeFrac, .intc, .time, .line] s v4
  · unfold v4
    exact .time .refl (by decide)
  clear_value v4 v5
  have h8 : Goes [.csr, .out, .freeCtr, .timeFrac, .intc, .time, .line] s v6
  · unfold v6
    exact .step (.time .refl (by decide)) servoUpdate_goes (by decide)
  clear_value v6
  refine .ite ?_ ?_
  · refine .ite ?_ ?_
    · refine .step (.step (.step ?_ set_goes (by decide)) report_goes (by decide)) raise_goes (by decide)
      exact .step .refl timeStep_goes (by decide)
    · exact .step (.time .refl (by decide)) acquireSample_goes (by decide)
  · refine .ite ?_ ?_
    · refine .ite ?_ ?_
      · exact .step .refl outlier_goes (by decide)
      · refine .ite ?_ ?_
        · refine .step (.step (.time ?_ (by decide)) servo_goes (by decide)) acquireSample_goes (by decide)
          with_reducible assumption
        · refine .step ?_ servoUpdate_goes (by decide)
          with_reducible assumption
    · refine .ite ?_ ?_
      · refine .step ?_ servo_goes (by decide)
        with_reducible assumption
      · exact .refl

theorem offsetSample_goes {s source offset} :
    Goes [.csr, .out, .freeCtr, .timeFrac, .intc, .time, .line] s (State.offsetSample s source offset) := by
  unfold State.offsetSample
  extract_lets v1
  have h2 : Goes [.csr, .out, .freeCtr, .timeFrac, .intc, .time, .line] s v1
  · unfold v1
    exact .step .refl set_goes (by decide)
  clear_value v1
  refine .ite ?_ ?_
  · refine .step ?_ servoSample_goes (by decide)
    with_reducible assumption
  · with_reducible assumption

theorem execPpsInEdge_goes {falling s} :
    GoesNext [.csr, .out, .freeCtr, .timeFrac, .intc, .time, .line] s (execPpsInEdge falling s) := by
  unfold execPpsInEdge
  extract_lets v1 v2 v3
  clear_value v1
  have h4 : GoesSnd [.csr, .out, .freeCtr, .timeFrac, .intc, .time, .line] s v2
  · unfold v2
    exact .step (.step .refl set_goes (by decide)) fromSecond_goes (by decide)
  clear_value v2 v3
  refine .ite ?_ ?_
  · exact .mk .refl
  · refine .ite ?_ ?_
    · refine .mk (.step (.step (.step (.snd ?_) set_goes (by decide)) ppsBad_goes (by decide)) outlier_goes (by decide))
      with_reducible assumption
    · refine .mk (.step (.snd ?_) offsetSample_goes (by decide))
      with_reducible assumption

theorem execPpsEdgeMissing_goes {s} : GoesNext [.csr, .out, .intc] s (execPpsEdgeMissing s) := by
  unfold execPpsEdgeMissing
  refine .ite ?_ ?_
  · exact .mk (.step .refl ppsBad_goes (by decide))
  · exact .mk .refl

theorem timeTick_goes {s} : Goes [.csr, .timeFrac, .time] s (State.timeTick s) := by
  unfold State.timeTick
  extract_lets v1
  clear_value v1
  exact .step (.time .refl (by decide)) putTime_goes (by decide)

theorem sourceUpdate_goes {s} : Goes [.csr, .time] s (State.sourceUpdate s) := by
  unfold State.sourceUpdate
  extract_lets v1 v2
  clear_value v1 v2
  refine .ite ?_ ?_
  · exact .step (.step .refl servo_goes (by decide)) putInc_goes (by decide)
  · refine .ite ?_ ?_
    · exact .step (.time .refl (by decide)) servo_goes (by decide)
    · exact .refl

theorem timeHold_goes {s} : Goes [.csr, .out, .intc, .time] s (State.timeHold s) := by
  unfold State.timeHold
  exact .step .refl holdover_goes (by decide)

theorem timeReacquire_goes {s} : Goes [.time] s (State.timeReacquire s) := by
  unfold State.timeReacquire
  extract_lets v1
  clear_value v1
  refine .ite ?_ ?_
  · exact .time .refl (by decide)
  · exact .refl

theorem execHoldTimeout_goes {s} : GoesNext [.csr, .out, .intc, .time] s (execHoldTimeout s) := by
  unfold execHoldTimeout
  exact .mk (.step .refl holdover_goes (by decide))

theorem execPpsOutEdge_goes {s} : GoesNext [.time] s (execPpsOutEdge s) := by
  unfold execPpsOutEdge
  extract_lets v1
  clear_value v1
  exact .mk (.time .refl (by decide))

theorem timeSet_goes {s ns} : Goes [.csr, .out, .timeFrac, .intc, .line] s (State.timeSet s ns) := by
  unfold State.timeSet
  exact .step (.step .refl timeStep_goes (by decide)) set_goes (by decide)

theorem execRefclkLost_goes {s} : GoesNext [.csr, .out, .intc, .time] s (execRefclkLost s) := by
  unfold execRefclkLost
  refine .mk (.step (.step (.step ?_ holdover_goes (by decide)) timeLog_goes (by decide)) raise_goes (by decide))
  exact .step .refl set_goes (by decide)

/-! ## Mykabel -/

theorem execIntrResend_goes {s} : GoesNext [.csr, .out] s (execIntrResend s) := by
  unfold execIntrResend
  refine .ite ?_ ?_
  · exact .mk .refl
  · exact .mk (.step (.step .refl sendIntr_goes (by decide)) addSat_goes (by decide))

theorem linkTrained_goes {s lanes} : Goes [.csr, .out, .intc, .myk] s (State.linkTrained s lanes) := by
  unfold State.linkTrained
  extract_lets v1 v2 v3 v4 v5 v6
  clear_value v1
  have h7 : Goes [.csr, .out, .intc, .myk] s v2
  · unfold v2
    exact .step (.step .refl set_goes (by decide)) set_goes (by decide)
  clear_value v2 v3 v4
  have h8 : Goes [.csr, .out, .intc, .myk] s v5
  · unfold v5
    refine .step (.myk ?_ (by decide)) set_goes (by decide)
    with_reducible assumption
  clear_value v5
  have h9 : Goes [.csr, .out, .intc, .myk] s v6
  · unfold v6
    refine .ite ?_ ?_
    · refine .step (.step ?_ report_goes (by decide)) raise_goes (by decide)
      with_reducible assumption
    · with_reducible assumption
  clear_value v6
  refine .ite ?_ ?_
  · with_reducible assumption
  · refine .ite ?_ ?_
    · refine .step (.step (.step ?_ addSat_goes (by decide)) report_goes (by decide)) raise_goes (by decide)
      with_reducible assumption
    · with_reducible assumption

theorem execHostLost_goes {s} : GoesNext [.csr, .out, .intc] s (execHostLost s) := by
  unfold execHostLost
  extract_lets v1
  have h2 : Goes [.csr, .out, .intc] s v1
  · unfold v1
    exact .step (.step (.step .refl set_goes (by decide)) report_goes (by decide)) raise_goes (by decide)
  clear_value v1
  refine .ite ?_ ?_
  · refine .mk (.foldl ?_ (fun x3 y4 h5 => ?_))
    · with_reducible assumption
    · refine .step (.step ?_ set_goes (by decide)) set_goes (by decide)
      with_reducible assumption
  · exact .mk .refl

theorem linkRetrain_goes {s} : Goes [.csr, .myk] s (State.linkRetrain s) := by
  unfold State.linkRetrain
  extract_lets v1
  clear_value v1
  refine .ite ?_ ?_
  · exact .step (.myk .refl (by decide)) set_goes (by decide)
  · exact .refl

theorem intcRaise_goes {s src} : GoesOk [.csr, .out, .intc] s (State.intcRaise s src) := by
  unfold State.intcRaise
  refine .ite ?_ ?_
  · exact .mk (.step .refl event_goes (by decide))
  · exact .error

theorem execHostLinkRestored_goes {lanes s} :
    GoesNext [.csr, .mem, .poison, .out, .intc, .myk, .xport] s (execHostLinkRestored lanes s) := by
  unfold execHostLinkRestored
  extract_lets v1
  have h2 : Goes [.csr, .mem, .poison, .out, .intc, .myk, .xport] s v1
  · unfold v1
    refine .step (.step (.step ?_ linkTrained_goes (by decide)) report_goes (by decide)) raise_goes (by decide)
    exact .step .refl set_goes (by decide)
  clear_value v1
  refine .ite ?_ ?_
  · refine .mk (.foldl ?_ (fun x3 y4 h5 => ?_))
    · with_reducible assumption
    · refine .step ?_ saveRec_goes (by decide)
      with_reducible assumption
  · exact .mk .refl

theorem execMykReplay_goes {first s} : GoesNext [.csr, .myk] s (execMykReplay first s) := by
  unfold execMykReplay
  extract_lets v1 v2 v3
  clear_value v1 v2
  have h4 : Goes [.csr, .myk] s v3
  · unfold v3
    exact .step (.myk .refl (by decide)) addSat_goes (by decide)
  clear_value v3
  refine .ite ?_ ?_
  · refine .mk (.step ?_ linkRetrain_goes (by decide))
    with_reducible assumption
  · refine .mk ?_
    with_reducible assumption

theorem execMykLinkTrained_goes {lanes s} : GoesNext [.csr, .out, .intc, .myk] s (execMykLinkTrained lanes s) := by
  unfold execMykLinkTrained
  refine .ite ?_ ?_
  · exact .mk (.step .refl linkTrained_goes (by decide))
  · exact .mk .refl

theorem intcClaim_goes {s t} : GoesSnd [.out, .intc] s (State.intcClaim s t) := by
  unfold State.intcClaim
  extract_lets v1
  clear_value v1
  split
  · rename_i n2 n3
    exact .mk .refl
  · rename_i n4 n5 n6
    extract_lets v7 v8
    clear_value v7 v8
    exact .mk (.step (.intc .refl (by decide)) intcUpdate_goes (by decide))

theorem execMykabelLossOfLock_goes {s} : GoesNext [.csr, .myk] s (execMykabelLossOfLock s) := by
  unfold execMykabelLossOfLock
  exact .mk (.step .refl linkRetrain_goes (by decide))

theorem intcComplete_goes {s t src} : GoesOk [.out, .intc] s (State.intcComplete s t src) := by
  unfold State.intcComplete
  extract_lets v1
  clear_value v1
  split
  · rename_i n2 n3
    exact .error
  · rename_i n4 n5 n6
    exact .mk (.step (.intc .refl (by decide)) intcUpdate_goes (by decide))

/-! ## Group -/

theorem grpLog_goes {s reason pos job} : Goes [.csr, .out] s (State.grpLog s reason pos job) := by
  unfold State.grpLog
  refine .step (.step (.step (.step ?_ set_goes (by decide)) set_goes (by decide)) set_goes (by decide)) report_goes (by decide)
  exact .refl

theorem heard_goes {s pos} : Goes [.csr, .out, .intc] s (State.heard s pos) := by
  unfold State.heard
  refine .ite ?_ ?_
  · exact .step (.step (.step .refl set_goes (by decide)) grpLog_goes (by decide)) raise_goes (by decide)
  · exact .refl

theorem unshadow_goes {s} : Goes [.csr, .mem, .poison, .out, .intc, .xport, .grp] s (State.unshadow s) := by
  unfold State.unshadow
  extract_lets v1 v2 v3
  clear_value v1 v2
  have h4 : Goes [.csr, .mem, .poison, .out, .intc, .xport, .grp] s v3
  · unfold v3
    exact .grp .refl (by decide)
  clear_value v3
  refine .ite ?_ ?_
  · refine .foldl ?_ (fun x5 y6 h7 => ?_)
    · refine .step (.step ?_ report_goes (by decide)) raise_goes (by decide)
      with_reducible assumption
    · refine .step ?_ ackNow_goes (by decide)
      with_reducible assumption
  · exact .refl

theorem establishAll_goes {s} : Goes [.csr, .mem, .poison, .out, .freeCtr, .intc, .myk, .ciph] s (State.establishAll s) := by
  unfold State.establishAll
  refine .foldl ?_ (fun x1 y2 h3 => ?_)
  · exact .refl
  · refine .foldl ?_ (fun x4 y5 h6 => ?_)
    · with_reducible assumption
    · refine .step ?_ startRekey_goes (by decide)
      with_reducible assumption

theorem sendRebuild_goes {s j} : Goes [.mem, .poison, .xport] s (State.sendRebuild s j) := by
  unfold State.sendRebuild
  extract_lets v1
  clear_value v1
  refine .foldl ?_ (fun x2 y3 h4 => ?_)
  · exact .refl
  · refine .foldl ?_ (fun x5 y6 h7 => ?_)
    · with_reducible assumption
    · refine .step ?_ sendControl_goes (by decide)
      with_reducible assumption

theorem adoptFlows_goes {s} : Goes [.xport] s (State.adoptFlows s) := by
  unfold State.adoptFlows
  refine .foldl ?_ (fun x1 y2 h3 => ?_)
  · exact .refl
  · split
    rename_i n4 n5 n6 n7
    extract_lets v8
    clear_value v8
    refine .step ?_ putFlow_goes (by decide)
    with_reducible assumption

theorem standing_goes {s reason} : Goes [.csr, .out, .intc] s (State.standing s reason) := by
  unfold State.standing
  extract_lets v1 v2
  have h3 : Goes [.csr, .out, .intc] s v1
  · unfold v1
    exact .step (.step .refl set_goes (by decide)) addSat_goes (by decide)
  clear_value v1
  have h4 : Goes [.csr, .out, .intc] s v2
  · unfold v2
    refine .ite ?_ ?_
    · refine .step ?_ addSat_goes (by decide)
      with_reducible assumption
    · with_reducible assumption
  clear_value v2
  refine .step (.step ?_ grpLog_goes (by decide)) raise_goes (by decide)
  with_reducible assumption

theorem resetFlows_goes {s} : Goes [.mem, .poison, .xport] s (State.resetFlows s) := by
  unfold State.resetFlows
  refine .foldl ?_ (fun x1 y2 h3 => ?_)
  · exact .refl
  · refine .foldl ?_ (fun x4 y5 h6 => ?_)
    · with_reducible assumption
    · refine .step ?_ sendControl_goes (by decide)
      with_reducible assumption

theorem jobStateLost_goes {s j} : Goes [.csr, .mem, .poison, .out, .intc, .myk, .xport] s (State.jobStateLost s j) := by
  unfold State.jobStateLost
  extract_lets v1
  clear_value v1
  refine .ite ?_ ?_
  · exact .refl
  · refine .ite ?_ ?_
    · exact .step .refl enter_goes (by decide)
    · split
      rename_i n2 n3 n4 n5
      have h6 : Goes [.csr, .mem, .poison, .out, .intc, .myk, .xport] s n4
      · exact GoesSnd.of n5 (.step .refl stepReason_goes (by decide))
      refine .step ?_ enter_goes (by decide)
      with_reducible assumption

theorem takeover_goes {s pos swap} :
    Goes [.csr, .mem, .poison, .out, .freeCtr, .intc, .myk, .pmon, .ciph, .xport, .fab, .grp] s (State.takeover s pos swap) := by
  unfold State.takeover
  extract_lets v1
  clear_value v1
  split
  rename_i n2 n3 n4 n5
  extract_lets v6 v7 v8 v9 v10 v11
  have h12 : Goes [.csr, .mem, .poison, .out, .freeCtr, .intc, .myk, .pmon, .ciph, .xport, .fab, .grp] s v6
  · unfold v6
    exact .step (.step .refl set_goes (by decide)) set_goes (by decide)
  clear_value v6
  have h13 : Goes [.csr, .mem, .poison, .out, .freeCtr, .intc, .myk, .pmon, .ciph, .xport, .fab, .grp] s v7
  · unfold v7
    refine .step (.step ?_ set_goes (by decide)) set_goes (by decide)
    with_reducible assumption
  clear_value v7 v8
  have h14 : Goes [.csr, .mem, .poison, .out, .freeCtr, .intc, .myk, .pmon, .ciph, .xport, .fab, .grp] s v9
  · unfold v9
    refine .grp ?_ (by decide)
    with_reducible assumption
  clear_value v9
  have h15 : Goes [.csr, .mem, .poison, .out, .freeCtr, .intc, .myk, .pmon, .ciph, .xport, .fab, .grp] s v10
  · unfold v10
    refine .step (.snd (.step ?_ fresh_goes (by decide))) groupOnLinks_goes (by decide)
    with_reducible assumption
  clear_value v10
  have h16 : Goes [.csr, .mem, .poison, .out, .freeCtr, .intc, .myk, .pmon, .ciph, .xport, .fab, .grp] s v11
  · unfold v11
    refine .step (.foldl ?_ (fun x17 y18 h19 => ?_)) establishAll_goes (by decide)
    · with_reducible assumption
    · refine .step ?_ sendCert_goes (by decide)
      with_reducible assumption
  clear_value v11
  refine .ite ?_ ?_
  · refine .foldl ?_ (fun x20 y21 h22 => ?_)
    · refine .step ?_ adoptFlows_goes (by decide)
      with_reducible assumption
    · refine .step ?_ sendRebuild_goes (by decide)
      with_reducible assumption
  · refine .step (.step (.foldl ?_ (fun x23 y24 h25 => ?_)) resetFlows_goes (by decide)) standing_goes (by decide)
    · with_reducible assumption
    · refine .step ?_ jobStateLost_goes (by decide)
      with_reducible assumption

theorem takeoverTry_goes {s pos swap} :
    Goes [.csr, .mem, .poison, .out, .freeCtr, .intc, .myk, .pmon, .ciph, .xport, .fab, .grp] s (State.takeoverTry s pos swap) := by
  unfold State.takeoverTry
  refine .ite ?_ ?_
  · exact .step (.step .refl grpLog_goes (by decide)) raise_goes (by decide)
  · exact .step .refl takeover_goes (by decide)

theorem execFail_goes {ep b s} :
    GoesNext [.csr, .mem, .poison, .out, .freeCtr, .intc, .myk, .pmon, .ciph, .xport, .fab, .grp] s (execFail ep b s) := by
  unfold execFail
  refine .mk ?_
  unfold State.groupIn
  refine .ite ?_ ?_
  · exact .refl
  · split
    · rename_i n1 n2
      exact .step (.step .refl addSat_goes (by decide)) grpLog_goes (by decide)
    · rename_i n3 n4 n5
      refine .ite ?_ ?_
      · exact .step .refl addSat_goes (by decide)
      · beta_reduce
        extract_lets v6 v7
        have h8 : Goes [.csr, .mem, .poison, .out, .freeCtr, .intc, .myk, .pmon, .ciph, .xport, .fab, .grp] s v6
        · unfold v6
          exact .step (.step (.step .refl heard_goes (by decide)) grpLog_goes (by decide)) raise_goes (by decide)
        clear_value v6 v7
        refine .ite ?_ ?_
        · refine .step ?_ unshadow_goes (by decide)
          with_reducible assumption
        · refine .ite ?_ ?_
          · refine .step ?_ takeoverTry_goes (by decide)
            with_reducible assumption
          · with_reducible assumption

theorem resendRound_goes {s} : Goes [.csr, .mem, .poison, .out, .intc, .sched, .xport] s (State.resendRound s) := by
  unfold State.resendRound
  extract_lets v1
  clear_value v1
  refine .foldl ?_ (fun x2 y3 h4 => ?_)
  · exact .refl
  · refine .step ?_ resendChunk_goes (by decide)
    with_reducible assumption

theorem mirroredDesc_goes {s d} :
    Goes [.csr, .mem, .poison, .out, .freeCtr, .intc, .myk, .hostq, .stch, .xport, .fab, .grp] s (State.mirroredDesc s d) := by
  unfold State.mirroredDesc
  extract_lets v1 v2
  clear_value v1
  have h3 : GoesNext [.csr, .mem, .poison, .out, .freeCtr, .intc, .myk, .hostq, .stch, .xport, .fab, .grp] s v2
  · unfold v2
    split
    · rename_i n4 n5
      exact .step .refl execStepMembership_goes (by decide)
    · rename_i n6 n7
      exact .step .refl execStepFrog_goes (by decide)
    · rename_i n8 n9 n10
      exact .step .refl execStepAbort_goes (by decide)
  clear_value v2
  split
  · rename_i n11 n12
    have h13 := GoesNext.out h3
    clear h3
    refine .hostq ?_ (by decide)
    with_reducible assumption
  · rename_i n14 n15
    exact .refl

theorem shadowBegin_goes {s pos} : Goes [.csr, .out, .intc, .grp] s (State.shadowBegin s pos) := by
  unfold State.shadowBegin
  extract_lets v1 v2
  clear_value v1
  have h3 : Goes [.csr, .out, .intc, .grp] s v2
  · unfold v2
    exact .grp .refl (by decide)
  clear_value v2
  refine .step (.step (.step ?_ set_goes (by decide)) report_goes (by decide)) raise_goes (by decide)
  refine .step ?_ set_goes (by decide)
  with_reducible assumption

theorem execFlowSend_goes {s} : GoesNext [.fab, .grp] s (execFlowSend s) := by
  unfold execFlowSend
  extract_lets v1
  clear_value v1
  refine .ite ?_ ?_
  · exact .mk (.step .refl groupSend_goes (by decide))
  · exact .mk .refl

theorem execDigest_goes {ep b spareFails partnerFails s} :
    GoesNext [.csr, .out, .intc, .fab, .grp] s (execDigest ep b spareFails partnerFails s) := by
  unfold execDigest
  extract_lets v1
  clear_value v1
  refine .mk ?_
  unfold State.groupIn
  refine .ite ?_ ?_
  · exact .refl
  · split
    · rename_i n2 n3
      exact .step (.step .refl addSat_goes (by decide)) grpLog_goes (by decide)
    · rename_i n4 n5 n6
      refine .ite ?_ ?_
      · exact .step .refl addSat_goes (by decide)
      · beta_reduce
        extract_lets v7
        clear_value v7
        refine .ite ?_ ?_
        · exact .step .refl heard_goes (by decide)
        · split
          · rename_i n8 n9
            exact .grp (.step .refl heard_goes (by decide)) (by decide)
          · rename_i n10 n11 n12
            exact .step (.grp (.step .refl heard_goes (by decide)) (by decide)) digestsMeet_goes (by decide)

theorem execMirrorLagExpiry_goes {s} : GoesNext [.csr, .mem, .poison, .out, .intc, .xport, .grp] s (execMirrorLagExpiry s) := by
  unfold execMirrorLagExpiry
  exact .mk (.step .refl unshadow_goes (by decide))

theorem shadowStop_goes {s} : Goes [.csr, .mem, .poison, .out, .intc, .xport, .grp] s (State.shadowStop s) := by
  unfold State.shadowStop
  exact .step (.step .refl shadowEnd_goes (by decide)) unshadow_goes (by decide)

theorem execSeedCopyEnd_goes {s} : GoesNext [.csr, .grp] s (execSeedCopyEnd s) := by
  unfold execSeedCopyEnd
  extract_lets v1
  clear_value v1
  refine .ite ?_ ?_
  · exact .mk .refl
  · refine .ite ?_ ?_
    · refine .mk (.ite ?_ ?_)
      · exact .step .refl set_goes (by decide)
      · exact .refl
    · exact .mk (.grp .refl (by decide))

theorem shadowGo_goes {s pos} : GoesOk [.csr, .out, .intc, .grp] s (State.shadowGo s pos) := by
  unfold State.shadowGo
  refine .ite ?_ ?_
  · exact .error
  · refine .ite ?_ ?_
    · exact .error
    · exact .mk (.step .refl shadowBegin_goes (by decide))

theorem takeoverGo_goes {s pos} :
    GoesOk [.csr, .mem, .poison, .out, .freeCtr, .intc, .myk, .pmon, .ciph, .xport, .fab, .grp] s (State.takeoverGo s pos) := by
  unfold State.takeoverGo
  refine .ite ?_ ?_
  · exact .error
  · exact .mk (.step .refl takeoverTry_goes (by decide))

theorem execBind_goes {ep b s} : GoesNext [.csr, .out, .intc] s (execBind ep b s) := by
  unfold execBind
  refine .mk ?_
  unfold State.groupIn
  refine .ite ?_ ?_
  · exact .refl
  · split
    · rename_i n1 n2
      exact .step (.step .refl addSat_goes (by decide)) grpLog_goes (by decide)
    · rename_i n3 n4 n5
      refine .ite ?_ ?_
      · exact .step .refl addSat_goes (by decide)
      · beta_reduce
        exact .step .refl heard_goes (by decide)

theorem execTakeoverChunksHeld_goes {s} :
    GoesNext [.csr, .mem, .poison, .out, .intc, .sched, .xport] s (execTakeoverChunksHeld s) := by
  unfold execTakeoverChunksHeld
  refine .ite ?_ ?_
  · exact .mk (.step (.step (.step .refl resetFlows_goes (by decide)) resendRound_goes (by decide)) standing_goes (by decide))
  · exact .mk .refl

theorem stragglerSwap_goes {s} :
    Goes [.csr, .mem, .poison, .out, .freeCtr, .intc, .myk, .pmon, .ciph, .xport, .fab, .grp, .line] s (State.stragglerSwap s) := by
  unfold State.stragglerSwap
  extract_lets v1
  clear_value v1
  refine .ite ?_ ?_
  · exact .refl
  · refine .ite ?_ ?_
    · refine .ite ?_ ?_
      · exact .step .refl takeoverTry_goes (by decide)
      · exact .refl
    · refine .ite ?_ ?_
      · refine .step (.step (.step ?_ stopLine_goes (by decide)) grpLog_goes (by decide)) raise_goes (by decide)
        exact .grp .refl (by decide)
      · exact .refl

theorem strag_goes {s job median x} : Goes [.csr, .out, .intc, .grp] s (State.strag s job median x) := by
  unfold State.strag
  extract_lets v1 v2 v3 v4 v5 v6
  clear_value v1 v2 v3
  have h7 : Goes [.csr, .out, .intc, .grp] s v4
  · unfold v4
    exact .grp .refl (by decide)
  clear_value v4
  have h8 : Goes [.csr, .out, .intc, .grp] s v5
  · unfold v5
    refine .step (.step (.step ?_ set_goes (by decide)) set_goes (by decide)) set_goes (by decide)
    with_reducible assumption
  clear_value v5
  have h9 : Goes [.csr, .out, .intc, .grp] s v6
  · unfold v6
    refine .step (.step ?_ grpLog_goes (by decide)) raise_goes (by decide)
    with_reducible assumption
  clear_value v6
  refine .ite ?_ ?_
  · refine .ite ?_ ?_
    · refine .step ?_ shadowBegin_goes (by decide)
      with_reducible assumption
    · with_reducible assumption
  · with_reducible assumption

theorem median_goes {s l} : GoesSnd [.freeCtr] s (State.median s l) := by
  unfold State.median
  extract_lets v1 v2 v3
  clear_value v1 v2 v3
  refine .ite ?_ ?_
  · exact .mk .refl
  · exact .mk (.snd (.step .refl fresh_goes (by decide)))

theorem execReport_goes {ep b s} : GoesNext [.csr, .out, .freeCtr, .intc, .grp] s (execReport ep b s) := by
  unfold execReport
  extract_lets v1 v2
  clear_value v1 v2
  refine .mk ?_
  unfold State.groupIn
  refine .ite ?_ ?_
  · exact .refl
  · split
    · rename_i n3 n4
      exact .step (.step .refl addSat_goes (by decide)) grpLog_goes (by decide)
    · rename_i n5 n6 n7
      refine .ite ?_ ?_
      · exact .step .refl addSat_goes (by decide)
      · beta_reduce
        extract_lets v8 v9 v10 v11 v12 v13
        clear_value v8 v9 v10 v11 v12
        have h14 : GoesSnd [.csr, .out, .freeCtr, .intc, .grp] s v13
        · unfold v13
          exact .step (.grp (.step .refl heard_goes (by decide)) (by decide)) median_goes (by decide)
        clear_value v13
        refine .ite ?_ ?_
        · exact .step .refl heard_goes (by decide)
        · refine .ite ?_ ?_
          · exact .grp (.step .refl heard_goes (by decide)) (by decide)
          · refine .foldl ?_ (fun x15 y16 h17 => ?_)
            · refine .step (.snd ?_) set_goes (by decide)
              with_reducible assumption
            · refine .step ?_ strag_goes (by decide)
              with_reducible assumption

theorem execHeartbeat_goes {ep b s} : GoesNext [.csr, .out, .intc] s (execHeartbeat ep b s) := by
  unfold execHeartbeat
  refine .mk ?_
  unfold State.groupIn
  refine .ite ?_ ?_
  · exact .refl
  · split
    · rename_i n1 n2
      exact .step (.step .refl addSat_goes (by decide)) grpLog_goes (by decide)
    · rename_i n3 n4 n5
      refine .ite ?_ ?_
      · exact .step .refl addSat_goes (by decide)
      · beta_reduce
        exact .step .refl heard_goes (by decide)

theorem execMismatch_goes {ep b s} :
    GoesNext [.csr, .mem, .poison, .out, .freeCtr, .intc, .myk, .stch, .xport, .fab, .grp] s (execMismatch ep b s) := by
  unfold execMismatch
  refine .mk ?_
  unfold State.groupIn
  refine .ite ?_ ?_
  · exact .refl
  · split
    · rename_i n1 n2
      exact .step (.step .refl addSat_goes (by decide)) grpLog_goes (by decide)
    · rename_i n3 n4 n5
      refine .ite ?_ ?_
      · exact .step .refl addSat_goes (by decide)
      · beta_reduce
        split
        · rename_i n6 n7
          exact .step .refl heard_goes (by decide)
        · rename_i n8 n9 n10
          exact .step (.step .refl heard_goes (by decide)) issueNotice_goes (by decide)

theorem execMirrorAck_goes {ep b s} : GoesNext [.csr, .mem, .poison, .out, .intc, .xport, .grp] s (execMirrorAck ep b s) := by
  unfold execMirrorAck
  refine .mk ?_
  unfold State.groupIn
  refine .ite ?_ ?_
  · exact .refl
  · split
    · rename_i n1 n2
      exact .step (.step .refl addSat_goes (by decide)) grpLog_goes (by decide)
    · rename_i n3 n4 n5
      refine .ite ?_ ?_
      · exact .step .refl addSat_goes (by decide)
      · beta_reduce
        extract_lets v6
        clear_value v6
        split
        · rename_i n7 n8
          exact .step .refl heard_goes (by decide)
        · rename_i n9 n10 n11
          extract_lets v12
          clear_value v12
          split
          · rename_i n13 n14
            exact .grp (.step .refl heard_goes (by decide)) (by decide)
          · rename_i n15 n16 n17 n18
            exact .step (.grp (.step .refl heard_goes (by decide)) (by decide)) ackNow_goes (by decide)

theorem execFlow_goes {ep b s} : GoesNext [.csr, .out, .intc, .grp] s (execFlow ep b s) := by
  unfold execFlow
  refine .mk ?_
  unfold State.groupIn
  refine .ite ?_ ?_
  · exact .refl
  · split
    · rename_i n1 n2
      exact .step (.step .refl addSat_goes (by decide)) grpLog_goes (by decide)
    · rename_i n3 n4 n5
      refine .ite ?_ ?_
      · exact .step .refl addSat_goes (by decide)
      · beta_reduce
        extract_lets v6
        clear_value v6
        refine .ite ?_ ?_
        · exact .step .refl heard_goes (by decide)
        · exact .grp (.step .refl heard_goes (by decide)) (by decide)

theorem execHeartbeatSend_goes {s} : GoesNext [.fab, .grp] s (execHeartbeatSend s) := by
  unfold execHeartbeatSend
  refine .ite ?_ ?_
  · exact .mk .refl
  · refine .ite ?_ ?_
    · refine .mk (.foldl ?_ (fun x1 y2 h3 => ?_))
      · exact .refl
      · split
        · rename_i n4 n5
          with_reducible assumption
        · rename_i n6 n7 n8 n9
          refine .step ?_ groupSend_goes (by decide)
          with_reducible assumption
    · exact .mk (.step .refl groupSend_goes (by decide))

theorem execFailDetectExpiry_goes {pos s} :
    GoesNext [.csr, .mem, .poison, .out, .intc, .xport, .grp] s (execFailDetectExpiry pos s) := by
  unfold execFailDetectExpiry
  refine .ite ?_ ?_
  · exact .mk .refl
  · refine .ite ?_ ?_
    · exact .mk (.step .refl unshadow_goes (by decide))
    · refine .ite ?_ ?_
      · exact .mk .refl
      · exact .mk (.step (.step (.step .refl set_goes (by decide)) grpLog_goes (by decide)) raise_goes (by decide))

theorem execMirror_goes {ep b s} :
    GoesNext [.csr, .mem, .poison, .out, .freeCtr, .intc, .myk, .hostq, .stch, .xport, .fab, .grp] s (execMirror ep b s) := by
  unfold execMirror
  refine .mk ?_
  unfold State.groupIn
  refine .ite ?_ ?_
  · exact .refl
  · split
    · rename_i n1 n2
      exact .step (.step .refl addSat_goes (by decide)) grpLog_goes (by decide)
    · rename_i n3 n4 n5
      refine .ite ?_ ?_
      · exact .step .refl addSat_goes (by decide)
      · beta_reduce
        extract_lets v6 v7
        clear_value v6
        have h8 : Goes [.csr, .mem, .poison, .out, .freeCtr, .intc, .myk, .hostq, .stch, .xport, .fab, .grp] s v7
        · unfold v7
          split
          · rename_i n9 n10
            exact .step .refl heard_goes (by decide)
          · rename_i n11 n12 n13
            refine .ite ?_ ?_
            · refine .ite ?_ ?_
              · exact .step (.step .refl heard_goes (by decide)) chunkHeld_goes (by decide)
              · exact .step .refl heard_goes (by decide)
            · refine .ite ?_ ?_
              · exact .step (.step .refl heard_goes (by decide)) mirroredDesc_goes (by decide)
              · refine .ite ?_ ?_
                · exact .step (.step .refl heard_goes (by decide)) noticeToStep_goes (by decide)
                · exact .step .refl heard_goes (by decide)
        clear_value v7
        refine .ite ?_ ?_
        · exact .step .refl heard_goes (by decide)
        · refine .step ?_ groupSend_goes (by decide)
          with_reducible assumption

theorem execRebuildNotHeldReceived_goes {j site s} :
    GoesNext [.csr, .mem, .poison, .out, .intc, .myk, .xport] s (execRebuildNotHeldReceived j site s) := by
  unfold execRebuildNotHeldReceived
  split
  · rename_i n1 n2
    exact .mk .refl
  · rename_i n3 n4 n5 n6
    have h7 : Goes [.csr, .mem, .poison, .out, .intc, .myk, .xport] s n5
    · exact GoesSome.of n6 (.step .refl takeMail_goes (by decide))
    extract_lets v8 v9 v10 v11
    have h12 : Goes [.csr, .mem, .poison, .out, .intc, .myk, .xport] s v8
    · unfold v8
      refine .step ?_ grpLog_goes (by decide)
      with_reducible assumption
    clear_value v8
    have h13 : Goes [.csr, .mem, .poison, .out, .intc, .myk, .xport] s v9
    · unfold v9
      refine .step (.step ?_ set_goes (by decide)) set_goes (by decide)
      with_reducible assumption
    clear_value v9
    have h14 : Goes [.csr, .mem, .poison, .out, .intc, .myk, .xport] s v10
    · unfold v10
      refine .step ?_ unrecoverable_goes (by decide)
      with_reducible assumption
    clear_value v10
    have h15 : Goes [.csr, .mem, .poison, .out, .intc, .myk, .xport] s v11
    · unfold v11
      refine .step ?_ enter_goes (by decide)
      with_reducible assumption
    clear_value v11
    refine .ite ?_ ?_
    · refine .mk ?_
      with_reducible assumption
    · refine .mk (.step (.step (.step ?_ set_goes (by decide)) addSat_goes (by decide)) raise_goes (by decide))
      with_reducible assumption

end Sys2Proof.Machine
end

