-- ==== Sys2Proof/Laws/GoesControl.lean ====
section
/-!
SUPPORT. Laws/GoesControl.lean: what the operations of Machine/Faults, Checks, Control, RegWrites, Pmon keep (`Goes`, of
      Laws/Goes.lean): faults, checks, register commands and monitoring.
Each `…_goes` lists the parts of the state that its operation may change.
-/
namespace Sys2Proof.Machine
open Csr

/-! ## Faults -/

theorem codecFault_goes {s c u} : Goes [.csr, .mem, .poison, .out, .freeCtr, .intc, .myk, .hlth] s (State.codecFault s c u) := by
  unfold State.codecFault
  refine .step (.step (.step ?_ set_goes (by decide)) report_goes (by decide)) purlQuarantine_goes (by decide)
  exact .step (.step .refl set_goes (by decide)) set_goes (by decide)

theorem schedLog_goes {s reason port tenant} : Goes [.csr, .out, .intc] s (State.schedLog s reason port tenant) := by
  unfold State.schedLog
  refine .step (.step (.step ?_ set_goes (by decide)) report_goes (by decide)) raise_goes (by decide)
  exact .step (.step .refl set_goes (by decide)) set_goes (by decide)

theorem rebindTenant_goes {s t} : Goes [.csr, .out, .intc, .sched] s (State.rebindTenant s t) := by
  unfold State.rebindTenant
  extract_lets v1
  clear_value v1
  split
  · rename_i n2 n3 n4
    exact .sched .refl (by decide)
  · rename_i n5 n6
    exact .step (.sched .refl (by decide)) schedLog_goes (by decide)

theorem stitchFault_goes {s c u} :
    Goes [.csr, .mem, .poison, .out, .freeCtr, .intc, .myk, .hlth, .stch, .xport, .fab, .grp] s (State.stitchFault s c u) := by
  unfold State.stitchFault
  extract_lets v1 v2
  clear_value v1
  have h3 : Goes [.csr, .mem, .poison, .out, .freeCtr, .intc, .myk, .hlth, .stch, .xport, .fab, .grp] s v2
  · unfold v2
    refine .step (.step (.step (.snd ?_) set_goes (by decide)) set_goes (by decide)) set_goes (by decide)
    exact .step .refl fresh_goes (by decide)
  clear_value v2
  refine .step (.step ?_ report_goes (by decide)) stchContain_goes (by decide)
  with_reducible assumption

theorem unitOut_goes {s reason block panel cluster unit} :
    Goes [.csr, .mem, .poison, .out, .freeCtr, .intc, .myk, .hlth] s (State.unitOut s reason block panel cluster unit) := by
  unfold State.unitOut
  exact .step (.step .refl quarantineCount_goes (by decide)) health_goes (by decide)

theorem skeinManagerFault_goes {s p badRing} :
    Goes [.csr, .mem, .poison, .out, .freeCtr, .intc, .myk, .skein, .pmon, .hlth, .fab, .grp,
      .line] s (State.skeinManagerFault s p badRing) := by
  unfold State.skeinManagerFault
  extract_lets v1 v2 v3 v4
  clear_value v1
  have h5 : Goes [.csr, .mem, .poison, .out, .freeCtr, .intc, .myk, .skein, .pmon, .hlth, .fab, .grp, .line] s v2
  · unfold v2
    exact .step .refl putPool_goes (by decide)
  clear_value v2
  have h6 : Goes [.csr, .mem, .poison, .out, .freeCtr, .intc, .myk, .skein, .pmon, .hlth, .fab, .grp, .line] s v3
  · unfold v3
    refine .ite ?_ ?_
    · refine .step (.step ?_ set_goes (by decide)) report_goes (by decide)
      with_reducible assumption
    · with_reducible assumption
  clear_value v3
  have h7 : Goes [.csr, .mem, .poison, .out, .freeCtr, .intc, .myk, .skein, .pmon, .hlth, .fab, .grp, .line] s v4
  · unfold v4
    refine .step (.step ?_ set_goes (by decide)) raise_goes (by decide)
    with_reducible assumption
  clear_value v4
  refine .step (.step ?_ unitOut_goes (by decide)) handOver_goes (by decide)
  with_reducible assumption

theorem pipelineFault_goes {s u} :
    Goes [.csr, .mem, .poison, .out, .freeCtr, .intc, .myk, .hlth, .ciph] s (State.pipelineFault s u) := by
  unfold State.pipelineFault
  extract_lets v1 v2
  clear_value v1
  have h3 : Goes [.csr, .mem, .poison, .out, .freeCtr, .intc, .myk, .hlth, .ciph] s v2
  · unfold v2
    exact .step (.ciph .refl (by decide)) pipeCap_goes (by decide)
  clear_value v2
  refine .step (.step (.step ?_ raise_goes (by decide)) unitOut_goes (by decide)) capChange_goes (by decide)
  refine .step ?_ ciphLog_goes (by decide)
  with_reducible assumption

theorem fabricPortFault_goes {s n} :
    Goes [.csr, .mem, .poison, .out, .freeCtr, .intc, .myk, .hlth, .fab] s (State.fabricPortFault s n) := by
  unfold State.fabricPortFault
  extract_lets v1 v2
  clear_value v1
  have h3 : Goes [.csr, .mem, .poison, .out, .freeCtr, .intc, .myk, .hlth, .fab] s v2
  · unfold v2
    exact .step (.step (.step .refl fabLog_goes (by decide)) raise_goes (by decide)) unitOut_goes (by decide)
  clear_value v2
  refine .step (.step (.step ?_ linkWidth_goes (by decide)) linkWidth_goes (by decide)) capChange_goes (by decide)
  with_reducible assumption

theorem columnFault_goes {s g c} :
    Goes [.csr, .mem, .poison, .out, .freeCtr, .intc, .myk, .hlth] s (State.columnFault s g c) := by
  unfold State.columnFault
  exact .step (.step (.step .refl bedLog_goes (by decide)) report_goes (by decide)) groupFault_goes (by decide)

theorem portLeaves_goes {s p} : Goes [.csr, .line] s (State.portLeaves s p) := by
  unfold State.portLeaves
  extract_lets v1 v2
  have h3 : Goes [.csr, .line] s v1
  · unfold v1
    refine .ite ?_ ?_
    · exact .refl
    · exact .step .refl set_goes (by decide)
  clear_value v1 v2
  refine .step ?_ putPort_goes (by decide)
  with_reducible assumption

theorem framerFault_goes {s p interchange} :
    Goes [.csr, .mem, .poison, .out, .freeCtr, .intc, .myk, .hlth, .line] s (State.framerFault s p interchange) := by
  unfold State.framerFault
  extract_lets v1 v2
  clear_value v1
  have h3 : Goes [.csr, .mem, .poison, .out, .freeCtr, .intc, .myk, .hlth, .line] s v2
  · unfold v2
    exact .step (.step (.step .refl portLeaves_goes (by decide)) portLog_goes (by decide)) raisePort_goes (by decide)
  clear_value v2
  refine .step (.step ?_ unitOut_goes (by decide)) capChange_goes (by decide)
  with_reducible assumption

theorem unitRecord_goes {s reason block panel cluster unit} :
    Goes [.csr, .mem, .poison, .out, .freeCtr, .intc, .myk, .hlth] s (State.unitRecord s reason block panel cluster unit) := by
  unfold State.unitRecord
  exact .step .refl health_goes (by decide)

theorem portSchedulerFault_goes {s p} :
    Goes [.csr, .mem, .poison, .out, .freeCtr, .intc, .myk, .sched, .hlth, .line] s (State.portSchedulerFault s p) := by
  unfold State.portSchedulerFault
  extract_lets v1 v2 v3
  clear_value v1
  have h4 : Goes [.csr, .mem, .poison, .out, .freeCtr, .intc, .myk, .sched, .hlth, .line] s v2
  · unfold v2
    exact .step (.sched .refl (by decide)) portLeaves_goes (by decide)
  clear_value v2
  have h5 : Goes [.csr, .mem, .poison, .out, .freeCtr, .intc, .myk, .sched, .hlth, .line] s v3
  · unfold v3
    refine .step (.step (.step ?_ set_goes (by decide)) schedLog_goes (by decide)) unitRecord_goes (by decide)
    with_reducible assumption
  clear_value v3
  refine .step ?_ capChange_goes (by decide)
  with_reducible assumption

theorem tenantSchedulerFault_goes {s n} :
    Goes [.csr, .mem, .poison, .out, .freeCtr, .intc, .myk, .sched, .hlth] s (State.tenantSchedulerFault s n) := by
  unfold State.tenantSchedulerFault
  extract_lets v1 v2 v3 v4 v5
  clear_value v1 v2
  have h6 : Goes [.csr, .mem, .poison, .out, .freeCtr, .intc, .myk, .sched, .hlth] s v3
  · unfold v3
    exact .sched .refl (by decide)
  clear_value v3
  have h7 : Goes [.csr, .mem, .poison, .out, .freeCtr, .intc, .myk, .sched, .hlth] s v4
  · unfold v4
    refine .step ?_ set_goes (by decide)
    with_reducible assumption
  clear_value v4
  have h8 : Goes [.csr, .mem, .poison, .out, .freeCtr, .intc, .myk, .sched, .hlth] s v5
  · unfold v5
    refine .step (.step ?_ schedLog_goes (by decide)) unitRecord_goes (by decide)
    with_reducible assumption
  clear_value v5
  refine .foldl ?_ (fun x9 y10 h11 => ?_)
  · with_reducible assumption
  · refine .step ?_ rebindTenant_goes (by decide)
    with_reducible assumption

theorem queueEngineFault_goes {s n} :
    Goes [.csr, .mem, .poison, .out, .freeCtr, .intc, .myk, .hostq, .hlth] s (State.queueEngineFault s n) := by
  unfold State.queueEngineFault
  extract_lets v1 v2 v3 v4 v5
  clear_value v1
  have h6 : Goes [.csr, .mem, .poison, .out, .freeCtr, .intc, .myk, .hostq, .hlth] s v2
  · unfold v2
    refine .foldl ?_ (fun x7 y8 h9 => ?_)
    · exact .refl
    · refine .step ?_ discardFetched_goes (by decide)
      with_reducible assumption
  clear_value v2 v3
  have h10 : Goes [.csr, .mem, .poison, .out, .freeCtr, .intc, .myk, .hostq, .hlth] s v4
  · unfold v4
    refine .hostq ?_ (by decide)
    with_reducible assumption
  clear_value v4
  have h11 : Goes [.csr, .mem, .poison, .out, .freeCtr, .intc, .myk, .hostq, .hlth] s v5
  · unfold v5
    refine .step ?_ set_goes (by decide)
    with_reducible assumption
  clear_value v5
  refine .step (.step (.step ?_ report_goes (by decide)) raise_goes (by decide)) unitOut_goes (by decide)
  refine .step ?_ queueLog_goes (by decide)
  with_reducible assumption

theorem channelFault_goes {s c} :
    Goes [.csr, .mem, .poison, .out, .freeCtr, .intc, .myk, .memst, .pmon, .hlth, .fab, .grp,
      .line] s (State.channelFault s c) := by
  unfold State.channelFault
  extract_lets v1 v2 v3
  clear_value v1
  have h4 : Goes [.csr, .mem, .poison, .out, .freeCtr, .intc, .myk, .memst, .pmon, .hlth, .fab, .grp, .line] s v2
  · unfold v2
    exact .memst .refl (by decide)
  clear_value v2
  have h5 : Goes [.csr, .mem, .poison, .out, .freeCtr, .intc, .myk, .memst, .pmon, .hlth, .fab, .grp, .line] s v3
  · unfold v3
    refine .step (.step (.step ?_ set_goes (by decide)) set_goes (by decide)) raise_goes (by decide)
    with_reducible assumption
  clear_value v3
  refine .step (.step ?_ unitOut_goes (by decide)) handOver_goes (by decide)
  with_reducible assumption

theorem lockLoopFault_goes {s l} :
    Goes [.csr, .mem, .poison, .out, .freeCtr, .intc, .myk, .hlth, .fab, .pho] s (State.lockLoopFault s l) := by
  unfold State.lockLoopFault
  extract_lets v1 v2 v3 v4
  clear_value v1
  have h5 : Goes [.csr, .mem, .poison, .out, .freeCtr, .intc, .myk, .hlth, .fab, .pho] s v2
  · unfold v2
    exact .pho .refl (by decide)
  clear_value v2
  have h6 : Goes [.csr, .mem, .poison, .out, .freeCtr, .intc, .myk, .hlth, .fab, .pho] s v3
  · unfold v3
    refine .step (.step (.step ?_ phoLog_goes (by decide)) raise_goes (by decide)) unitOut_goes (by decide)
    with_reducible assumption
  clear_value v3
  have h7 : Goes [.csr, .mem, .poison, .out, .freeCtr, .intc, .myk, .hlth, .fab, .pho] s v4
  · unfold v4
    refine .step ?_ set_goes (by decide)
    with_reducible assumption
  clear_value v4
  refine .step (.step ?_ linkWidth_goes (by decide)) capChange_goes (by decide)
  with_reducible assumption

theorem laserBankFault_goes {s} : Goes [.csr, .out, .intc, .pmon, .fab, .grp, .pho, .line] s (State.laserBankFault s) := by
  unfold State.laserBankFault
  extract_lets v1 v2 v3
  clear_value v1
  have h4 : Goes [.csr, .out, .intc, .pmon, .fab, .grp, .pho, .line] s v2
  · unfold v2
    exact .pho .refl (by decide)
  clear_value v2
  have h5 : Goes [.csr, .out, .intc, .pmon, .fab, .grp, .pho, .line] s v3
  · unfold v3
    refine .step (.step ?_ set_goes (by decide)) phoLog_goes (by decide)
    with_reducible assumption
  clear_value v3
  refine .step (.step ?_ raise_goes (by decide)) handOver_goes (by decide)
  with_reducible assumption

theorem transportFault_goes {s u} :
    Goes [.csr, .mem, .poison, .out, .freeCtr, .intc, .myk, .hlth, .xport] s (State.transportFault s u) := by
  unfold State.transportFault
  extract_lets v1 v2 v3 v4 v5 v6
  clear_value v1
  have h7 : Goes [.csr, .mem, .poison, .out, .freeCtr, .intc, .myk, .hlth, .xport] s v2
  · unfold v2
    exact .xport .refl (by decide)
  clear_value v2
  have h8 : Goes [.csr, .mem, .poison, .out, .freeCtr, .intc, .myk, .hlth, .xport] s v4
  · unfold v4
    refine .step (.step (.step ?_ set_goes (by decide)) set_goes (by decide)) set_goes (by decide)
    with_reducible assumption
  clear_value v4
  have h9 : Goes [.csr, .mem, .poison, .out, .freeCtr, .intc, .myk, .hlth, .xport] s v5
  · unfold v5
    refine .step (.step (.step ?_ xportLog_goes (by decide)) set_goes (by decide)) raise_goes (by decide)
    with_reducible assumption
  clear_value v5 v6
  refine .step ?_ unitOut_goes (by decide)
  with_reducible assumption

theorem kemFault_goes {s} :
    Goes [.csr, .mem, .poison, .out, .freeCtr, .intc, .myk, .pmon, .hlth, .fab, .grp, .line] s (State.kemFault s) := by
  unfold State.kemFault
  extract_lets v1
  have h2 : Goes [.csr, .mem, .poison, .out, .freeCtr, .intc, .myk, .pmon, .hlth, .fab, .grp, .line] s v1
  · unfold v1
    exact .step (.step (.step .refl set_goes (by decide)) ciphLog_goes (by decide)) raise_goes (by decide)
  clear_value v1
  refine .step (.step ?_ unitRecord_goes (by decide)) handOver_goes (by decide)
  with_reducible assumption

theorem slhFault_goes {s n} : Goes [.csr, .mem, .poison, .out, .freeCtr, .intc, .myk, .hlth] s (State.slhFault s n) := by
  unfold State.slhFault
  extract_lets v1
  have h2 : Goes [.csr, .mem, .poison, .out, .freeCtr, .intc, .myk, .hlth] s v1
  · unfold v1
    exact .step (.step .refl set_goes (by decide)) ciphLog_goes (by decide)
  clear_value v1
  refine .step (.step ?_ raise_goes (by decide)) unitRecord_goes (by decide)
  with_reducible assumption

theorem hashFault_goes {s} : Goes [.csr, .mem, .poison, .out, .freeCtr, .intc, .myk, .hlth] s (State.hashFault s) := by
  unfold State.hashFault
  extract_lets v1
  have h2 : Goes [.csr, .mem, .poison, .out, .freeCtr, .intc, .myk, .hlth] s v1
  · unfold v1
    exact .step (.step (.step .refl set_goes (by decide)) ciphLog_goes (by decide)) raise_goes (by decide)
  clear_value v1
  refine .step ?_ unitRecord_goes (by decide)
  with_reducible assumption

theorem timestampFault_goes {s u} :
    Goes [.csr, .mem, .poison, .out, .freeCtr, .intc, .myk, .hlth, .time] s (State.timestampFault s u) := by
  unfold State.timestampFault
  extract_lets v1 v2
  clear_value v1
  have h3 : Goes [.csr, .mem, .poison, .out, .freeCtr, .intc, .myk, .hlth, .time] s v2
  · unfold v2
    exact .time .refl (by decide)
  clear_value v2
  refine .step (.step (.step ?_ timeLog_goes (by decide)) raise_goes (by decide)) unitOut_goes (by decide)
  with_reducible assumption

theorem counterFault_goes {s} : Goes [.csr, .out, .intc, .pmon, .fab, .time, .grp, .line] s (State.counterFault s) := by
  unfold State.counterFault
  extract_lets v1
  clear_value v1
  exact .step (.step (.time .refl (by decide)) timeLog_goes (by decide)) handOver_goes (by decide)

theorem samplerFault_goes {s u} :
    Goes [.csr, .mem, .poison, .out, .freeCtr, .intc, .myk, .pmon, .hlth] s (State.samplerFault s u) := by
  unfold State.samplerFault
  extract_lets v1 v2 v3 v4
  clear_value v1 v2 v3
  have h5 : Goes [.csr, .mem, .poison, .out, .freeCtr, .intc, .myk, .pmon, .hlth] s v4
  · unfold v4
    exact .step (.step (.step (.pmon .refl (by decide)) set_goes (by decide)) set_goes (by decide)) set_goes (by decide)
  clear_value v4
  refine .step (.step (.step ?_ report_goes (by decide)) raise_goes (by decide)) unitOut_goes (by decide)
  with_reducible assumption

theorem interruptsFault_goes {s} :
    Goes [.csr, .mem, .poison, .out, .freeCtr, .intc, .myk, .hlth] s (State.interruptsFault s) := by
  unfold State.interruptsFault
  exact .step (.step (.step .refl report_goes (by decide)) unitRecord_goes (by decide)) capChange_goes (by decide)

theorem sequencerFault_goes {s} :
    Goes [.csr, .mem, .poison, .out, .freeCtr, .intc, .myk, .pmon, .hlth, .bed, .stch, .xport, .fab, .grp,
      .line] s (State.sequencerFault s) := by
  unfold State.sequencerFault
  exact .step .refl bedSwatchFail_goes (by decide)

theorem unitFault_goes {s u} :
    Goes [.csr, .mem, .poison, .out, .freeCtr, .intc, .myk, .hostq, .sched, .skein, .memst, .pmon, .hlth, .bed, .stch, .ciph,
      .xport, .fab, .time, .grp, .pho, .line] s (State.unitFault s u) := by
  unfold State.unitFault
  split
  · rename_i n1 n2 n3
    exact .step .refl framerFault_goes (by decide)
  · rename_i n4 n5
    exact .step .refl portSchedulerFault_goes (by decide)
  · rename_i n6 n7
    refine .ite ?_ ?_
    · exact .refl
    · exact .step .refl tenantSchedulerFault_goes (by decide)
  · rename_i n8 n9
    refine .ite ?_ ?_
    · exact .refl
    · exact .step .refl queueEngineFault_goes (by decide)
  · rename_i n10 n11 n12
    exact .step .refl skeinManagerFault_goes (by decide)
  · rename_i n13 n14
    exact .step .refl channelFault_goes (by decide)
  · rename_i n15 n16
    exact .step .refl fabricPortFault_goes (by decide)
  · rename_i n17 n18
    exact .step (.step (.step .refl fabLog_goes (by decide)) raise_goes (by decide)) unitRecord_goes (by decide)
  · rename_i n19 n20
    refine .ite ?_ ?_
    · exact .refl
    · exact .step .refl lockLoopFault_goes (by decide)
  · rename_i n21
    refine .ite ?_ ?_
    · exact .refl
    · exact .step .refl laserBankFault_goes (by decide)
  · rename_i n22 n23
    exact .step .refl transportFault_goes (by decide)
  · rename_i n24 n25
    exact .step .refl transportFault_goes (by decide)
  · rename_i n26
    exact .step .refl kemFault_goes (by decide)
  · rename_i n27 n28
    exact .step .refl slhFault_goes (by decide)
  · rename_i n29
    exact .step .refl hashFault_goes (by decide)
  · rename_i n30 n31
    refine .ite ?_ ?_
    · exact .step .refl pipelineFault_goes (by decide)
    · exact .refl
  · rename_i n32 n33
    exact .step .refl timestampFault_goes (by decide)
  · rename_i n34
    exact .step .refl counterFault_goes (by decide)
  · rename_i n35 n36
    exact .step .refl samplerFault_goes (by decide)
  · rename_i n37
    exact .step .refl interruptsFault_goes (by decide)
  · rename_i n38
    exact .step .refl sequencerFault_goes (by decide)
  · rename_i n39 n40 n41
    refine .ite ?_ ?_
    · exact .step .refl columnFault_goes (by decide)
    · exact .refl
  · rename_i n42 n43 n44
    refine .ite ?_ ?_
    · exact .step .refl stitchFault_goes (by decide)
    · exact .refl
  · rename_i n45 n46 n47
    refine .ite ?_ ?_
    · exact .step .refl codecFault_goes (by decide)
    · exact .refl

theorem execUnitInternalError_goes {u s} :
    GoesNext [.csr, .mem, .poison, .out, .freeCtr, .intc, .myk, .hostq, .sched, .skein, .memst, .pmon, .hlth, .bed, .stch,
      .ciph, .xport, .fab, .time, .grp, .pho, .line] s (execUnitInternalError u s) := by
  unfold execUnitInternalError
  exact .mk (.step .refl unitFault_goes (by decide))

theorem secondRun_goes {s w f} :
    Goes [.csr, .mem, .poison, .out, .freeCtr, .intc, .myk, .hostq, .sched, .hlth, .bed, .stch, .ciph, .xport, .fab, .grp,
      .rerun] s (State.secondRun s w f) := by
  unfold State.secondRun
  extract_lets v1
  clear_value v1
  split
  · rename_i n2 n3
    refine .ite ?_ ?_
    · exact .step .refl openRun_goes (by decide)
    · exact .step .refl sealRun_goes (by decide)
  · rename_i n4 n5
    exact .step .refl bedRun_goes (by decide)
  · rename_i n6 n7
    exact .step .refl placeTerm_goes (by decide)
  · rename_i n8 n9 n10 n11
    split
    · rename_i n12 n13 n14
      refine .ite ?_ ?_
      · exact .step .refl encFault_goes (by decide)
      · exact .step .refl purlEncoded_goes (by decide)
    · rename_i n15 n16
      exact .step .refl purlEncoded_goes (by decide)

theorem execPoisonedOutputRerun_goes {w f s} :
    GoesNext [.csr, .mem, .poison, .out, .freeCtr, .intc, .myk, .hostq, .sched, .hlth, .bed, .stch, .ciph, .xport, .fab, .grp,
      .rerun] s (execPoisonedOutputRerun w f s) := by
  unfold execPoisonedOutputRerun
  extract_lets v1
  have h2 : Goes [.csr, .mem, .poison, .out, .freeCtr, .intc, .myk, .hostq, .sched, .hlth, .bed, .stch, .ciph, .xport, .fab,
        .grp, .rerun] s v1
  · unfold v1
    exact .step (.rerun .refl (by decide)) secondRun_goes (by decide)
  clear_value v1
  refine .ite ?_ ?_
  · exact .mk .refl
  · split
    · rename_i n3 n4 n5 n6 n7 n8
      refine .ite ?_ ?_
      · refine .mk (.step ?_ unrecoverable_goes (by decide))
        with_reducible assumption
      · refine .mk ?_
        with_reducible assumption
    · rename_i n9 n10 n11
      refine .mk ?_
      with_reducible assumption

theorem rebindHeld_goes {s} : Goes [.csr, .out, .intc, .sched] s (State.rebindHeld s) := by
  unfold State.rebindHeld
  refine .foldl ?_ (fun x1 y2 h3 => ?_)
  · exact .refl
  · refine .ite ?_ ?_
    · refine .step ?_ rebindTenant_goes (by decide)
      with_reducible assumption
    · with_reducible assumption

/-! ## Control -/

theorem requalPass_goes {s} : GoesSnd [.freeCtr] s (State.requalPass s) := by
  unfold State.requalPass
  exact .mk (.snd (.step .refl fresh_goes (by decide)))

theorem purlWrite_goes {s h v} : GoesWr [.csr, .mem, .poison, .out, .freeCtr, .intc, .myk, .hlth] s (State.purlWrite s h v) := by
  unfold State.purlWrite
  extract_lets v1 v2 v3 v4
  clear_value v1
  have h5 : GoesWr [.csr, .mem, .poison, .out, .freeCtr, .intc, .myk, .hlth] s v2
  · unfold v2
    refine .ite ?_ ?_
    · split
      · rename_i n6 n7 n8
        have h9 : Goes [.csr, .mem, .poison, .out, .freeCtr, .intc, .myk, .hlth] s n7
        · exact GoesOk.of n8 (.step .refl purlSubst_goes (by decide))
        refine .mk ?_
        with_reducible assumption
      · rename_i n10 n11 n12
        exact .mk (.step (.step .refl set_goes (by decide)) set_goes (by decide))
    · exact .mk .refl
  clear_value v2
  have h13 : GoesSnd [.csr, .mem, .poison, .out, .freeCtr, .intc, .myk, .hlth] s v3
  · unfold v3
    refine .step (.wr ?_) requalPass_goes (by decide)
    with_reducible assumption
  clear_value v3 v4
  refine .ite ?_ ?_
  · refine .ite ?_ ?_
    · refine .mk (.step (.snd ?_) purlRequal_goes (by decide))
      with_reducible assumption
    · with_reducible assumption
  · exact .mk .refl

theorem schedWrite_goes {orig s0 s h v}
    (h0 : Goes [.csr, .mem, .poison, .out, .freeCtr, .timeFrac, .intc, .myk, .hostq, .sched, .pmon, .hlth, .bed, .stch, .ciph,
      .xport, .fab, .time, .grp, .pho, .boot, .ctl, .keep, .line] orig s0)
    (h1 : Goes [.csr, .mem, .poison, .out, .freeCtr, .timeFrac, .intc, .myk, .hostq, .sched, .pmon, .hlth, .bed, .stch, .ciph,
      .xport, .fab, .time, .grp, .pho, .boot, .ctl, .keep, .line] orig s) :
    GoesWr [.csr, .mem, .poison, .out, .freeCtr, .timeFrac, .intc, .myk, .hostq, .sched, .pmon, .hlth, .bed, .stch, .ciph,
      .xport, .fab, .time, .grp, .pho, .boot, .ctl, .keep, .line] orig (State.schedWrite s0 s h v) := by
  unfold State.schedWrite
  extract_lets v1 v2 v3
  clear_value v1
  have h4 : GoesWr [.csr, .mem, .poison, .out, .freeCtr, .timeFrac, .intc, .myk, .hostq, .sched, .pmon, .hlth, .bed, .stch,
        .ciph, .xport, .fab, .time, .grp, .pho, .boot, .ctl, .keep, .line] orig v2
  · unfold v2
    refine .ite ?_ ?_
    · split
      · rename_i n5 n6 n7
        have h8 : Goes [.csr, .mem, .poison, .out, .freeCtr, .timeFrac, .intc, .myk, .hostq, .sched, .pmon, .hlth, .bed, .stch,
              .ciph, .xport, .fab, .time, .grp, .pho, .boot, .ctl, .keep, .line] orig n6
        · refine GoesOk.of n7 (.step ?_ gateArm_goes (by decide))
          with_reducible assumption
        refine .mk ?_
        with_reducible assumption
      · rename_i n9 n10 n11
        refine .mk (.step ?_ gateReport_goes (by decide))
        with_reducible assumption
    · refine .mk ?_
      with_reducible assumption
  clear_value v2 v3
  refine .ite ?_ ?_
  · refine .ite ?_ ?_
    · refine .mk (.step (.wr ?_) gateCancel_goes (by decide))
      with_reducible assumption
    · with_reducible assumption
  · refine .ite ?_ ?_
    · refine .mk (.step ?_ gateReport_goes (by decide))
      with_reducible assumption
    · refine .ite ?_ ?_
      · refine .mk (.step ?_ shaperFull_goes (by decide))
        with_reducible assumption
      · refine .ite ?_ ?_
        · refine .mk (.step ?_ shaperFull_goes (by decide))
          with_reducible assumption
        · refine .ite ?_ ?_
          · refine .mk (.sched ?_ (by decide))
            with_reducible assumption
          · refine .mk ?_
            with_reducible assumption

theorem jobEnable_goes {s j} : Goes [.csr, .mem, .poison, .out, .intc, .myk, .xport] s (State.jobEnable s j) := by
  unfold State.jobEnable
  extract_lets v1 v2 v3
  have h4 : Goes [.csr, .mem, .poison, .out, .intc, .myk, .xport] s v1
  · unfold v1
    exact .step (.step .refl set_goes (by decide)) set_goes (by decide)
  clear_value v1
  have h5 : Goes [.csr, .mem, .poison, .out, .intc, .myk, .xport] s v2
  · unfold v2
    refine .step ?_ set_goes (by decide)
    with_reducible assumption
  clear_value v2 v3
  refine .step ?_ enter_goes (by decide)
  with_reducible assumption

theorem jobEnableWrite_goes {s j want} :
    GoesWr [.csr, .mem, .poison, .out, .intc, .myk, .xport] s (State.jobEnableWrite s j want) := by
  unfold State.jobEnableWrite
  extract_lets v1 v2
  clear_value v1 v2
  refine .ite ?_ ?_
  · split
    · rename_i n3 n4
      exact .mk (.step .refl jobEnable_goes (by decide))
    · rename_i n5 n6 n7
      exact .mk (.step (.step .refl set_goes (by decide)) raise_goes (by decide))
  · refine .ite ?_ ?_
    · refine .ite ?_ ?_
      · exact .mk .refl
      · exact .mk (.step (.step .refl set_goes (by decide)) set_goes (by decide))
    · exact .mk .refl

theorem phoWrite_goes {orig s0 s h v}
    (h0 : Goes [.csr, .mem, .poison, .out, .freeCtr, .timeFrac, .intc, .myk, .hostq, .sched, .pmon, .hlth, .bed, .stch, .ciph,
      .xport, .fab, .time, .grp, .pho, .boot, .ctl, .keep, .line] orig s0)
    (h1 : Goes [.csr, .mem, .poison, .out, .freeCtr, .timeFrac, .intc, .myk, .hostq, .sched, .pmon, .hlth, .bed, .stch, .ciph,
      .xport, .fab, .time, .grp, .pho, .boot, .ctl, .keep, .line] orig s) :
    GoesWr [.csr, .mem, .poison, .out, .freeCtr, .timeFrac, .intc, .myk, .hostq, .sched, .pmon, .hlth, .bed, .stch, .ciph,
      .xport, .fab, .time, .grp, .pho, .boot, .ctl, .keep, .line] orig (State.phoWrite s0 s h v) := by
  unfold State.phoWrite
  extract_lets v1
  clear_value v1
  refine .ite ?_ ?_
  · refine .mk ?_
    with_reducible assumption
  · refine .ite ?_ ?_
    · refine .ofExcept ?_ ?_
      · with_reducible assumption
      · refine .step ?_ steerArm_goes (by decide)
        with_reducible assumption
    · refine .ite ?_ ?_
      · refine .mk (.step ?_ bankReload_goes (by decide))
        with_reducible assumption
      · refine .ite ?_ ?_
        · refine .ofExcept ?_ ?_
          · with_reducible assumption
          · refine .step ?_ handoverGo_goes (by decide)
            with_reducible assumption
        · refine .mk ?_
          with_reducible assumption

theorem lineWrite_goes {s h v} : GoesWr [.csr, .out, .intc, .sched] s (State.lineWrite s h v) := by
  unfold State.lineWrite
  extract_lets v1 v2
  clear_value v1
  have h3 : GoesWr [.csr, .out, .intc, .sched] s v2
  · unfold v2
    refine .ite ?_ ?_
    · split
      · rename_i n4 n5 n6
        have h7 : Goes [.csr, .out, .intc, .sched] s n5
        · exact GoesOk.of n6 (.step .refl swapArm_goes (by decide))
        refine .mk ?_
        with_reducible assumption
      · rename_i n8 n9 n10
        exact .mk (.step .refl portRefuse_goes (by decide))
    · exact .mk .refl
  clear_value v2
  refine .ite ?_ ?_
  · refine .ite ?_ ?_
    · refine .mk (.step (.wr ?_) swapCancel_goes (by decide))
      with_reducible assumption
    · with_reducible assumption
  · refine .ite ?_ ?_
    · exact .mk (.step .refl rebindHeld_goes (by decide))
    · exact .mk .refl

theorem regRead_goes {s h} : GoesSnd [.csr, .out, .intc, .time] s (State.regRead s h) := by
  unfold State.regRead
  extract_lets v1 v2
  clear_value v1 v2
  refine .ite ?_ ?_
  · exact .mk (.snd (.step .refl intcClaim_goes (by decide)))
  · refine .ite ?_ ?_
    · exact .mk (.snd (.step .refl txqRead_goes (by decide)))
    · refine .ite ?_ ?_
      · exact .mk (.step .refl set_goes (by decide))
      · refine .mk (.ite ?_ ?_)
        · exact .refl
        · exact .step .refl wrReg_goes (by decide)

theorem readAt_goes {s m a} : GoesOkSnd [.csr, .out, .intc, .time] s (State.readAt s m a) := by
  unfold State.readAt
  refine .ite ?_ ?_
  · refine .ite ?_ ?_
    · exact .mk .refl
    · exact .error
  · split
    · rename_i n1 n2
      exact .error
    · rename_i n3 n4 n5
      refine .ite ?_ ?_
      · exact .pair (.step .refl regRead_goes (by decide))
      · exact .error

theorem csrViolation_goes {s m reason a detail} :
    Goes [.csr, .mem, .poison, .out, .intc, .myk] s (State.csrViolation s m reason a detail) := by
  unfold State.csrViolation
  extract_lets v1
  clear_value v1
  exact .step .refl violation_goes (by decide)

theorem readRefused_goes {s m tag a reason} :
    Goes [.csr, .mem, .poison, .out, .intc, .myk] s (State.readRefused s m tag a reason) := by
  unfold State.readRefused
  exact .step (.step .refl csrViolation_goes (by decide)) respond_goes (by decide)

theorem csrRead_goes {s m tag a} : Goes [.csr, .mem, .poison, .out, .intc, .myk, .time] s (State.csrRead s m tag a) := by
  unfold State.csrRead
  refine .ite ?_ ?_
  · exact .refl
  · split
    · rename_i n1 n2 n3 n4
      have h5 : Goes [.csr, .mem, .poison, .out, .intc, .myk, .time] s n3
      · exact GoesOkSnd.of n4 (.step .refl readAt_goes (by decide))
      refine .step ?_ respond_goes (by decide)
      with_reducible assumption
    · rename_i n6 n7 n8
      exact .step .refl readRefused_goes (by decide)

theorem stchWrite_goes {s h v} :
    GoesWr [.csr, .mem, .poison, .out, .freeCtr, .intc, .myk, .hlth, .stch, .xport, .fab, .grp] s (State.stchWrite s h v) := by
  unfold State.stchWrite
  extract_lets v1 v2 v3 v4
  clear_value v1
  have h5 : GoesWr [.csr, .mem, .poison, .out, .freeCtr, .intc, .myk, .hlth, .stch, .xport, .fab, .grp] s v2
  · unfold v2
    refine .ite ?_ ?_
    · split
      · rename_i n6 n7 n8
        have h9 : Goes [.csr, .mem, .poison, .out, .freeCtr, .intc, .myk, .hlth, .stch, .xport, .fab, .grp] s n7
        · exact GoesOk.of n8 (.step .refl stchSubst_goes (by decide))
        refine .mk ?_
        with_reducible assumption
      · rename_i n10 n11 n12
        exact .mk (.step .refl stchSubstRefused_goes (by decide))
    · exact .mk .refl
  clear_value v2
  have h13 : GoesSnd [.csr, .mem, .poison, .out, .freeCtr, .intc, .myk, .hlth, .stch, .xport, .fab, .grp] s v3
  · unfold v3
    refine .step (.wr ?_) requalPass_goes (by decide)
    with_reducible assumption
  clear_value v3 v4
  refine .ite ?_ ?_
  · refine .ite ?_ ?_
    · refine .mk (.step (.snd ?_) stchRequal_goes (by decide))
      with_reducible assumption
    · with_reducible assumption
  · exact .mk .refl

theorem holdupUpdate_goes {s} : Goes [.csr] s (State.holdupUpdate s) := by
  unfold State.holdupUpdate
  exact .step .refl set_goes (by decide)

theorem hlthWrite_goes {orig upd s0 s h v}
    (hf : ∀ {x}, Goes [.csr, .mem, .poison, .out, .freeCtr, .timeFrac, .intc, .myk, .hostq, .sched, .pmon, .hlth, .bed, .stch,
      .ciph, .xport, .fab, .time, .grp, .pho, .boot, .ctl, .keep, .line] x (upd x))
    (h0 : Goes [.csr, .mem, .poison, .out, .freeCtr, .timeFrac, .intc, .myk, .hostq, .sched, .pmon, .hlth, .bed, .stch, .ciph,
      .xport, .fab, .time, .grp, .pho, .boot, .ctl, .keep, .line] orig s0)
    (h1 : Goes [.csr, .mem, .poison, .out, .freeCtr, .timeFrac, .intc, .myk, .hostq, .sched, .pmon, .hlth, .bed, .stch, .ciph,
      .xport, .fab, .time, .grp, .pho, .boot, .ctl, .keep, .line] orig s) :
    GoesWr [.csr, .mem, .poison, .out, .freeCtr, .timeFrac, .intc, .myk, .hostq, .sched, .pmon, .hlth, .bed, .stch, .ciph,
      .xport, .fab, .time, .grp, .pho, .boot, .ctl, .keep, .line] orig (State.hlthWrite upd s0 s h v) := by
  unfold State.hlthWrite
  extract_lets v1
  clear_value v1
  refine .ite ?_ ?_
  · refine .mk (.step (.step ?_ set_goes (by decide)) set_goes (by decide))
    with_reducible assumption
  · refine .ite ?_ ?_
    · refine .mk (.step ?_ holdupUpdate_goes (by decide))
      with_reducible assumption
    · refine .ite ?_ ?_
      · refine .mk (.step ?_ hf (by decide))
        with_reducible assumption
      · refine .mk ?_
        with_reducible assumption

theorem xportWrite_goes {orig s0 s h v}
    (h0 : Goes [.csr, .mem, .poison, .out, .freeCtr, .timeFrac, .intc, .myk, .hostq, .sched, .pmon, .hlth, .bed, .stch, .ciph,
      .xport, .fab, .time, .grp, .pho, .boot, .ctl, .keep, .line] orig s0)
    (h1 : Goes [.csr, .mem, .poison, .out, .freeCtr, .timeFrac, .intc, .myk, .hostq, .sched, .pmon, .hlth, .bed, .stch, .ciph,
      .xport, .fab, .time, .grp, .pho, .boot, .ctl, .keep, .line] orig s) :
    GoesWr [.csr, .mem, .poison, .out, .freeCtr, .timeFrac, .intc, .myk, .hostq, .sched, .pmon, .hlth, .bed, .stch, .ciph,
      .xport, .fab, .time, .grp, .pho, .boot, .ctl, .keep, .line] orig (State.xportWrite s0 s h v) := by
  unfold State.xportWrite
  extract_lets v1
  clear_value v1
  refine .ite ?_ ?_
  · refine .ite ?_ ?_
    · refine .mk ?_
      with_reducible assumption
    · refine .mk ?_
      with_reducible assumption
  · refine .ite ?_ ?_
    · refine .ite ?_ ?_
      · refine .mk ?_
        with_reducible assumption
      · refine .mk ?_
        with_reducible assumption
    · refine .ite ?_ ?_
      · refine .mk (.step ?_ peerUpdate_goes (by decide))
        with_reducible assumption
      · refine .ite ?_ ?_
        · refine .step ?_ jobEnableWrite_goes (by decide)
          with_reducible assumption
        · refine .ite ?_ ?_
          · split
            · rename_i n2 n3
              refine .mk ?_
              with_reducible assumption
            · rename_i n4 n5 n6
              refine .mk (.step ?_ set_goes (by decide))
              with_reducible assumption
          · refine .mk ?_
            with_reducible assumption

theorem blockRefused_goes {s b reason} : Goes [.csr, .out, .intc] s (State.blockRefused s b reason) := by
  unfold State.blockRefused
  refine .ite ?_ ?_
  · exact .step .refl set_goes (by decide)
  · exact .step .refl refuseConfig_goes (by decide)

theorem hostqWrite_goes {orig s0 s h v}
    (h0 : Goes [.csr, .mem, .poison, .out, .freeCtr, .timeFrac, .intc, .myk, .hostq, .sched, .pmon, .hlth, .bed, .stch, .ciph,
      .xport, .fab, .time, .grp, .pho, .boot, .ctl, .keep, .line] orig s0)
    (h1 : Goes [.csr, .mem, .poison, .out, .freeCtr, .timeFrac, .intc, .myk, .hostq, .sched, .pmon, .hlth, .bed, .stch, .ciph,
      .xport, .fab, .time, .grp, .pho, .boot, .ctl, .keep, .line] orig s) :
    GoesWr [.csr, .mem, .poison, .out, .freeCtr, .timeFrac, .intc, .myk, .hostq, .sched, .pmon, .hlth, .bed, .stch, .ciph,
      .xport, .fab, .time, .grp, .pho, .boot, .ctl, .keep, .line] orig (State.hostqWrite s0 s h v) := by
  unfold State.hostqWrite
  refine .ite ?_ ?_
  · refine .ite ?_ ?_
    · refine .mk ?_
      with_reducible assumption
    · refine .mk (.step ?_ queueEnableWrite_goes (by decide))
      with_reducible assumption
  · refine .mk ?_
    with_reducible assumption

theorem blockOff_goes {s b} : Goes [.csr, .out, .intc, .time, .ctl] s (State.blockOff s b) := by
  unfold State.blockOff
  extract_lets v1 v2
  clear_value v1
  have h3 : Goes [.csr, .out, .intc, .time, .ctl] s v2
  · unfold v2
    exact .step (.step (.ctl .refl (by decide)) set_goes (by decide)) set_goes (by decide)
  clear_value v2
  refine .ite ?_ ?_
  · refine .step ?_ lineQueues_goes (by decide)
    with_reducible assumption
  · refine .ite ?_ ?_
    · refine .step ?_ sourceUpdate_goes (by decide)
      with_reducible assumption
    · refine .step ?_ intcUpdate_goes (by decide)
      with_reducible assumption

theorem pmonLog_goes {s reason index} : Goes [.csr] s (State.pmonLog s reason index) := by
  unfold State.pmonLog
  exact .step (.step .refl set_goes (by decide)) set_goes (by decide)

theorem bwRestart_goes {s} : Goes [.pmon] s (State.bwRestart s) := by
  unfold State.bwRestart
  extract_lets v1
  clear_value v1
  exact .pmon .refl (by decide)

theorem pmonWrite_goes {orig s0 s h v}
    (h0 : Goes [.csr, .mem, .poison, .out, .freeCtr, .timeFrac, .intc, .myk, .hostq, .sched, .pmon, .hlth, .bed, .stch, .ciph,
      .xport, .fab, .time, .grp, .pho, .boot, .ctl, .keep, .line] orig s0)
    (h1 : Goes [.csr, .mem, .poison, .out, .freeCtr, .timeFrac, .intc, .myk, .hostq, .sched, .pmon, .hlth, .bed, .stch, .ciph,
      .xport, .fab, .time, .grp, .pho, .boot, .ctl, .keep, .line] orig s) :
    GoesWr [.csr, .mem, .poison, .out, .freeCtr, .timeFrac, .intc, .myk, .hostq, .sched, .pmon, .hlth, .bed, .stch, .ciph,
      .xport, .fab, .time, .grp, .pho, .boot, .ctl, .keep, .line] orig (State.pmonWrite s0 s h v) := by
  unfold State.pmonWrite
  extract_lets v1 v2 v3 v4
  clear_value v1 v2
  have h5 : Goes [.csr, .mem, .poison, .out, .freeCtr, .timeFrac, .intc, .myk, .hostq, .sched, .pmon, .hlth, .bed, .stch,
        .ciph, .xport, .fab, .time, .grp, .pho, .boot, .ctl, .keep, .line] orig v3
  · unfold v3
    refine .ite ?_ ?_
    · with_reducible assumption
    · refine .pmon ?_ (by decide)
      with_reducible assumption
  clear_value v3 v4
  refine .ite ?_ ?_
  · refine .mk (.step ?_ pmonLog_goes (by decide))
    with_reducible assumption
  · refine .ite ?_ ?_
    · refine .mk (.ite ?_ ?_)
      · refine .step (.pmon ?_ (by decide)) set_goes (by decide)
        with_reducible assumption
      · with_reducible assumption
    · refine .ite ?_ ?_
      · refine .mk (.foldl ?_ (fun x6 y7 h8 => ?_))
        · refine .step ?_ bwRestart_goes (by decide)
          with_reducible assumption
        · refine .step ?_ wrReg_goes (by decide)
          with_reducible assumption
      · refine .ite ?_ ?_
        · refine .ite ?_ ?_
          · refine .mk (.step (.step ?_ set_goes (by decide)) pmonLog_goes (by decide))
            with_reducible assumption
          · refine .mk (.pmon ?_ (by decide))
            with_reducible assumption
        · refine .mk ?_
          with_reducible assumption

theorem restoreFlows_goes {s} : Goes [.mem, .poison, .freeCtr, .xport] s (State.restoreFlows s) := by
  unfold State.restoreFlows
  extract_lets v1 v2
  have h3 : Goes [.mem, .poison, .freeCtr, .xport] s v1
  · unfold v1
    refine .foldl ?_ (fun x4 y5 h6 => ?_)
    · exact .refl
    · refine .foldl ?_ (fun x7 y8 h9 => ?_)
      · with_reducible assumption
      · extract_lets v10
        clear_value v10
        refine .step (.snd (.step ?_ fresh_goes (by decide))) putFlow_goes (by decide)
        with_reducible assumption
  clear_value v1 v2
  refine .step (.xport ?_ (by decide)) resetFlows_goes (by decide)
  with_reducible assumption

theorem writeTail_goes {s} : Goes [.csr, .mem, .poison, .out, .intc, .myk, .hlth] s (State.writeTail s) := by
  unfold State.writeTail
  extract_lets v1 v2
  have h3 : Goes [.csr, .mem, .poison, .out, .intc, .myk, .hlth] s v1
  · unfold v1
    refine .foldl ?_ (fun x4 y5 h6 => ?_)
    · exact .refl
    · refine .step ?_ healthRing_goes (by decide)
      with_reducible assumption
  clear_value v1 v2
  refine .hlth ?_ (by decide)
  with_reducible assumption

theorem blockStart_goes {s b} :
    Goes [.csr, .mem, .poison, .out, .freeCtr, .intc, .myk, .sched, .skein, .pmon, .hlth, .xport, .time,
      .line] s (State.blockStart s b) := by
  unfold State.blockStart
  split
  · rename_i n1
    exact .step (.step .refl schedInit_goes (by decide)) lineQueues_goes (by decide)
  · rename_i n2
    exact .step .refl skeinInit_goes (by decide)
  · rename_i n3
    refine .foldl ?_ (fun x4 y5 h6 => ?_)
    · exact .refl
    · refine .step ?_ toHunt_goes (by decide)
      with_reducible assumption
  · rename_i n7
    refine .ite ?_ ?_
    · exact .step .refl restoreFlows_goes (by decide)
    · exact .refl
  · rename_i n8
    exact .step (.step .refl pipeCap_goes (by decide)) set_goes (by decide)
  · rename_i n9
    exact .step (.step .refl bedCap_goes (by decide)) set_goes (by decide)
  · rename_i n10
    exact .step .refl stchCap_goes (by decide)
  · rename_i n11
    exact .step .refl set_goes (by decide)
  · rename_i n12
    exact .step .refl sourceUpdate_goes (by decide)
  · rename_i n13
    exact .step .refl bwRestart_goes (by decide)
  · rename_i n14
    exact .step .refl writeTail_goes (by decide)
  · rename_i n15 n16 n17 n18 n19 n20 n21 n22 n23 n24 n25 n26
    exact .refl

theorem grpRefused_goes {s reason pos} : GoesWr [.csr, .out, .intc] s (State.grpRefused s reason pos) := by
  unfold State.grpRefused
  refine .mk (.ite ?_ ?_)
  · exact .step (.step .refl grpLog_goes (by decide)) raise_goes (by decide)
  · exact .refl

theorem blockEnableWrite_goes {s b want} : Goes [.csr, .out, .intc, .time, .ctl] s (State.blockEnableWrite s b want) := by
  unfold State.blockEnableWrite
  extract_lets v1 v2 v3
  clear_value v1 v2 v3
  refine .ite ?_ ?_
  · refine .ite ?_ ?_
    · exact .refl
    · exact .ctl .refl (by decide)
  · refine .ite ?_ ?_
    · exact .ctl .refl (by decide)
    · refine .ite ?_ ?_
      · refine .ite ?_ ?_
        · exact .ctl .refl (by decide)
        · exact .step .refl blockOff_goes (by decide)
      · exact .refl

theorem topWrite_goes {orig s0 s h}
    (h0 : Goes [.csr, .mem, .poison, .out, .freeCtr, .timeFrac, .intc, .myk, .hostq, .sched, .pmon, .hlth, .bed, .stch, .ciph,
      .xport, .fab, .time, .grp, .pho, .boot, .ctl, .keep, .line] orig s0)
    (h1 : Goes [.csr, .mem, .poison, .out, .freeCtr, .timeFrac, .intc, .myk, .hostq, .sched, .pmon, .hlth, .bed, .stch, .ciph,
      .xport, .fab, .time, .grp, .pho, .boot, .ctl, .keep, .line] orig s) :
    GoesWr [.csr, .mem, .poison, .out, .freeCtr, .timeFrac, .intc, .myk, .hostq, .sched, .pmon, .hlth, .bed, .stch, .ciph,
      .xport, .fab, .time, .grp, .pho, .boot, .ctl, .keep, .line] orig (State.topWrite s0 s h) := by
  unfold State.topWrite
  extract_lets v1
  clear_value v1
  refine .ite ?_ ?_
  · refine .mk (.step (.step ?_ set_goes (by decide)) set_goes (by decide))
    with_reducible assumption
  · refine .ite ?_ ?_
    · refine .mk (.step ?_ event_goes (by decide))
      with_reducible assumption
    · refine .mk ?_
      with_reducible assumption

theorem intcWrite_goes {orig s0 s h v}
    (h0 : Goes [.csr, .mem, .poison, .out, .freeCtr, .timeFrac, .intc, .myk, .hostq, .sched, .pmon, .hlth, .bed, .stch, .ciph,
      .xport, .fab, .time, .grp, .pho, .boot, .ctl, .keep, .line] orig s0)
    (h1 : Goes [.csr, .mem, .poison, .out, .freeCtr, .timeFrac, .intc, .myk, .hostq, .sched, .pmon, .hlth, .bed, .stch, .ciph,
      .xport, .fab, .time, .grp, .pho, .boot, .ctl, .keep, .line] orig s) :
    GoesWr [.csr, .mem, .poison, .out, .freeCtr, .timeFrac, .intc, .myk, .hostq, .sched, .pmon, .hlth, .bed, .stch, .ciph,
      .xport, .fab, .time, .grp, .pho, .boot, .ctl, .keep, .line] orig (State.intcWrite s0 s h v) := by
  unfold State.intcWrite
  extract_lets v1
  clear_value v1
  refine .ite ?_ ?_
  · refine .ofExcept ?_ ?_
    · with_reducible assumption
    · refine .step ?_ intcRaise_goes (by decide)
      with_reducible assumption
  · refine .ite ?_ ?_
    · split
      · rename_i n2 n3 n4
        have h5 : Goes [.csr, .mem, .poison, .out, .freeCtr, .timeFrac, .intc, .myk, .hostq, .sched, .pmon, .hlth, .bed, .stch,
              .ciph, .xport, .fab, .time, .grp, .pho, .boot, .ctl, .keep, .line] orig n3
        · refine GoesOk.of n4 (.step ?_ intcComplete_goes (by decide))
          with_reducible assumption
        refine .mk ?_
        with_reducible assumption
      · rename_i n6 n7 n8
        refine .mk (.step ?_ raise_goes (by decide))
        with_reducible assumption
    · refine .ite ?_ ?_
      · refine .mk ?_
        with_reducible assumption
      · refine .mk ?_
        with_reducible assumption

theorem fabWrite_goes {s h v} : GoesWr [.csr, .fab] s (State.fabWrite s h v) := by
  unfold State.fabWrite
  refine .ite ?_ ?_
  · refine .ofExcept ?_ ?_
    · exact .refl
    · exact .step .refl epochArm_goes (by decide)
  · exact .mk .refl

theorem ciphWrite_goes {s h v} : GoesWr [.csr, .mem, .poison, .out, .intc, .myk, .ciph] s (State.ciphWrite s h v) := by
  unfold State.ciphWrite
  extract_lets v1
  clear_value v1
  refine .ite ?_ ?_
  · exact .mk (.step .refl mailFlush_goes (by decide))
  · refine .ite ?_ ?_
    · exact .mk (.step .refl wrReg_goes (by decide))
    · refine .ite ?_ ?_
      · refine .ofExcept ?_ ?_
        · exact .refl
        · exact .step .refl extendCmd_goes (by decide)
      · exact .mk .refl

theorem bedWrite_goes {s h v} : GoesWr [.csr, .out, .intc, .bed] s (State.bedWrite s h v) := by
  unfold State.bedWrite
  refine .ite ?_ ?_
  · split
    · rename_i n1 n2 n3
      have h4 : Goes [.csr, .out, .intc, .bed] s n2
      · exact GoesOk.of n3 (.step .refl bedSubst_goes (by decide))
      refine .mk (.ite ?_ ?_)
      · with_reducible assumption
      · refine .step ?_ bedBoundary_goes (by decide)
        with_reducible assumption
    · rename_i n5 n6 n7
      exact .mk (.step .refl set_goes (by decide))
  · exact .mk .refl

theorem timeWrite_goes {orig s0 s h v}
    (h0 : Goes [.csr, .mem, .poison, .out, .freeCtr, .timeFrac, .intc, .myk, .hostq, .sched, .pmon, .hlth, .bed, .stch, .ciph,
      .xport, .fab, .time, .grp, .pho, .boot, .ctl, .keep, .line] orig s0)
    (h1 : Goes [.csr, .mem, .poison, .out, .freeCtr, .timeFrac, .intc, .myk, .hostq, .sched, .pmon, .hlth, .bed, .stch, .ciph,
      .xport, .fab, .time, .grp, .pho, .boot, .ctl, .keep, .line] orig s) :
    GoesWr [.csr, .mem, .poison, .out, .freeCtr, .timeFrac, .intc, .myk, .hostq, .sched, .pmon, .hlth, .bed, .stch, .ciph,
      .xport, .fab, .time, .grp, .pho, .boot, .ctl, .keep, .line] orig (State.timeWrite s0 s h v) := by
  unfold State.timeWrite
  extract_lets v1 v2 v3
  clear_value v1
  have h4 : Goes [.csr, .mem, .poison, .out, .freeCtr, .timeFrac, .intc, .myk, .hostq, .sched, .pmon, .hlth, .bed, .stch,
        .ciph, .xport, .fab, .time, .grp, .pho, .boot, .ctl, .keep, .line] orig v3
  · unfold v3
    refine .ite ?_ ?_
    · refine .step ?_ timeHold_goes (by decide)
      with_reducible assumption
    · with_reducible assumption
  clear_value v3
  refine .ite ?_ ?_
  · unfold v2
    refine .mk (.step ?_ sourceUpdate_goes (by decide))
    with_reducible assumption
  · refine .ite ?_ ?_
    · unfold v2
      refine .mk (.step ?_ timeSet_goes (by decide))
      with_reducible assumption
    · refine .ite ?_ ?_
      · unfold v2
        refine .mk (.step ?_ timeDelta_goes (by decide))
        with_reducible assumption
      · refine .ite ?_ ?_
        · unfold v2
          refine .mk (.step ?_ offsetSample_goes (by decide))
          with_reducible assumption
        · refine .ite ?_ ?_
          · unfold v2
            refine .mk (.ite ?_ ?_)
            · refine .step ?_ timeReacquire_goes (by decide)
              with_reducible assumption
            · with_reducible assumption
          · refine .ite ?_ ?_
            · unfold v2
              refine .mk (.step ?_ putInc_goes (by decide))
              with_reducible assumption
            · refine .ite ?_ ?_
              · unfold v2
                refine .mk ?_
                with_reducible assumption
              · unfold v2
                refine .mk ?_
                with_reducible assumption

theorem grpWrite_goes {s h v} :
    GoesWr [.csr, .mem, .poison, .out, .freeCtr, .intc, .myk, .pmon, .ciph, .xport, .fab, .grp] s (State.grpWrite s h v) := by
  unfold State.grpWrite
  extract_lets v1 v2 v3 v4
  clear_value v1 v2
  have h5 : Goes [.csr, .mem, .poison, .out, .freeCtr, .intc, .myk, .pmon, .ciph, .xport, .fab, .grp] s v3
  · unfold v3
    refine .ite ?_ ?_
    · exact .step .refl shadowStop_goes (by decide)
    · exact .refl
  clear_value v3 v4
  refine .ite ?_ ?_
  · refine .ite ?_ ?_
    · split
      · rename_i n6 n7 n8
        have h9 : Goes [.csr, .mem, .poison, .out, .freeCtr, .intc, .myk, .pmon, .ciph, .xport, .fab, .grp] s n7
        · refine GoesOk.of n8 (.step ?_ shadowGo_goes (by decide))
          with_reducible assumption
        refine .mk ?_
        with_reducible assumption
      · rename_i n10 n11 n12
        refine .step ?_ grpRefused_goes (by decide)
        with_reducible assumption
    · refine .mk ?_
      with_reducible assumption
  · refine .ite ?_ ?_
    · split
      · rename_i n13 n14 n15
        have h16 : Goes [.csr, .mem, .poison, .out, .freeCtr, .intc, .myk, .pmon, .ciph, .xport, .fab, .grp] s n14
        · exact GoesOk.of n15 (.step .refl takeoverGo_goes (by decide))
        refine .mk ?_
        with_reducible assumption
      · rename_i n17 n18 n19
        exact .step .refl grpRefused_goes (by decide)
    · exact .mk .refl

theorem writeEffect_goes {orig upd s0 s h v}
    (hf : ∀ {x}, Goes [.csr, .mem, .poison, .out, .freeCtr, .timeFrac, .intc, .myk, .hostq, .sched, .pmon, .hlth, .bed, .stch,
      .ciph, .xport, .fab, .time, .grp, .pho, .boot, .ctl, .keep, .line] x (upd x))
    (h0 : Goes [.csr, .mem, .poison, .out, .freeCtr, .timeFrac, .intc, .myk, .hostq, .sched, .pmon, .hlth, .bed, .stch, .ciph,
      .xport, .fab, .time, .grp, .pho, .boot, .ctl, .keep, .line] orig s0)
    (h1 : Goes [.csr, .mem, .poison, .out, .freeCtr, .timeFrac, .intc, .myk, .hostq, .sched, .pmon, .hlth, .bed, .stch, .ciph,
      .xport, .fab, .time, .grp, .pho, .boot, .ctl, .keep, .line] orig s) :
    GoesWr [.csr, .mem, .poison, .out, .freeCtr, .timeFrac, .intc, .myk, .hostq, .sched, .pmon, .hlth, .bed, .stch, .ciph,
      .xport, .fab, .time, .grp, .pho, .boot, .ctl, .keep, .line] orig (State.writeEffect upd s0 s h v) := by
  unfold State.writeEffect
  extract_lets v1
  clear_value v1
  split
  · rename_i n2 n3
    refine topWrite_goes ?_ ?_
    · with_reducible assumption
    · with_reducible assumption
  · rename_i n4 n5
    refine intcWrite_goes ?_ ?_
    · with_reducible assumption
    · with_reducible assumption
  · rename_i n6 n7
    refine hostqWrite_goes ?_ ?_
    · with_reducible assumption
    · with_reducible assumption
  · rename_i n8 n9
    refine schedWrite_goes ?_ ?_
    · with_reducible assumption
    · with_reducible assumption
  · rename_i n10 n11
    refine .step ?_ fabWrite_goes (by decide)
    with_reducible assumption
  · rename_i n12 n13
    refine phoWrite_goes ?_ ?_
    · with_reducible assumption
    · with_reducible assumption
  · rename_i n14 n15
    refine .step ?_ lineWrite_goes (by decide)
    with_reducible assumption
  · rename_i n16 n17
    refine xportWrite_goes ?_ ?_
    · with_reducible assumption
    · with_reducible assumption
  · rename_i n18 n19
    refine .step ?_ ciphWrite_goes (by decide)
    with_reducible assumption
  · rename_i n20 n21
    refine .step ?_ bedWrite_goes (by decide)
    with_reducible assumption
  · rename_i n22 n23
    refine .step ?_ stchWrite_goes (by decide)
    with_reducible assumption
  · rename_i n24 n25
    refine .step ?_ purlWrite_goes (by decide)
    with_reducible assumption
  · rename_i n26 n27
    refine timeWrite_goes ?_ ?_
    · with_reducible assumption
    · with_reducible assumption
  · rename_i n28 n29
    refine pmonWrite_goes ?_ ?_
    · with_reducible assumption
    · with_reducible assumption
  · rename_i n30 n31
    refine hlthWrite_goes hf ?_ ?_
    · with_reducible assumption
    · with_reducible assumption
  · rename_i n32 n33
    refine .step ?_ grpWrite_goes (by decide)
    with_reducible assumption
  · rename_i n34 n35 n36 n37 n38 n39 n40 n41 n42 n43 n44 n45 n46 n47 n48 n49 n50
    refine .mk ?_
    with_reducible assumption

theorem storeWord_goes {upd s h v}
    (hf : ∀ {x}, Goes [.csr, .mem, .poison, .out, .freeCtr, .timeFrac, .intc, .myk, .hostq, .sched, .pmon, .hlth, .bed, .stch,
      .ciph, .xport, .fab, .time, .grp, .pho, .boot, .ctl, .keep, .line] x (upd x)) :
    GoesWr [.csr, .mem, .poison, .out, .freeCtr, .timeFrac, .intc, .myk, .hostq, .sched, .pmon, .hlth, .bed, .stch, .ciph,
      .xport, .fab, .time, .grp, .pho, .boot, .ctl, .keep, .line] s (State.storeWord upd s h v) := by
  unfold State.storeWord
  extract_lets v1 v2
  have h3 : Goes [.csr, .mem, .poison, .out, .freeCtr, .timeFrac, .intc, .myk, .hostq, .sched, .pmon, .hlth, .bed, .stch,
        .ciph, .xport, .fab, .time, .grp, .pho, .boot, .ctl, .keep, .line] s v1
  · unfold v1
    exact .step .refl wrReg_goes (by decide)
  clear_value v1
  have h4 : Goes [.csr, .mem, .poison, .out, .freeCtr, .timeFrac, .intc, .myk, .hostq, .sched, .pmon, .hlth, .bed, .stch,
        .ciph, .xport, .fab, .time, .grp, .pho, .boot, .ctl, .keep, .line] s v2
  · unfold v2
    refine .ite ?_ ?_
    · refine .step ?_ blockEnableWrite_goes (by decide)
      with_reducible assumption
    · with_reducible assumption
  clear_value v2
  refine writeEffect_goes hf ?_ ?_
  · exact .refl
  · with_reducible assumption

theorem blockEnabled_goes {s b} :
    Goes [.csr, .mem, .poison, .out, .freeCtr, .intc, .myk, .sched, .skein, .pmon, .hlth, .xport, .time,
      .line] s (State.blockEnabled s b) := by
  unfold State.blockEnabled
  extract_lets v1
  have h2 : Goes [.csr, .mem, .poison, .out, .freeCtr, .intc, .myk, .sched, .skein, .pmon, .hlth, .xport, .time, .line] s v1
  · unfold v1
    exact .step .refl set_goes (by decide)
  clear_value v1
  refine .ite ?_ ?_
  · refine .step ?_ phoReadyUpdate_goes (by decide)
    with_reducible assumption
  · refine .step (.step (.step ?_ set_goes (by decide)) blockStart_goes (by decide)) intcUpdate_goes (by decide)
    with_reducible assumption

theorem writeCheck_goes {s : State} {m : Master} {h : Hit} {v : Word} {w : Wr} (e : s.writeCheck m h v = some w) :
    GoesWr [.csr, .mem, .poison, .out, .freeCtr, .timeFrac, .intc, .myk, .hostq, .sched, .pmon, .hlth, .bed, .stch, .ciph,
          .xport, .fab, .time, .grp, .pho, .boot, .ctl, .keep, .line] s w := by
  unfold State.writeCheck at e
  split at e
  · cases e; exact .mk .refl
  split at e
  · cases e; exact .mk .refl
  split at e
  · cases e; exact .mk .refl
  split at e
  · cases e; exact .mk .refl
  split at e
  · cases e; exact .mk (.step .refl portRefuse_goes (by decide))
  · cases e

theorem writeAt_goes {upd : State → State} {s : State} {m : Master} {a : Nat} {v : Word}
    (hf : ∀ {x}, Goes [.csr, .mem, .poison, .out, .freeCtr, .timeFrac, .intc, .myk, .hostq, .sched, .pmon, .hlth, .bed, .stch,
          .ciph, .xport, .fab, .time, .grp, .pho, .boot, .ctl, .keep, .line] x (upd x)) :
    GoesWr [.csr, .mem, .poison, .out, .freeCtr, .timeFrac, .intc, .myk, .hostq, .sched, .pmon, .hlth, .bed, .stch, .ciph,
          .xport, .fab, .time, .grp, .pho, .boot, .ctl, .keep, .line] s (s.writeAt upd m a v) := by
  unfold State.writeAt
  refine .ite ?_ ?_
  · exact .ite (.mk (.step .refl sqTailBell_goes (by decide))) (.ite (.mk (.step .refl cqDoorBell_goes (by decide))) (.mk .refl))
  · split
    · exact .mk .refl
    · rename_i h _
      cases e : s.writeCheck m h v with
      | none => exact storeWord_goes hf
      | some w => exact writeCheck_goes e

theorem csrWriteWith_goes {upd s m tag a v}
    (hf : ∀ {x}, Goes [.csr, .mem, .poison, .out, .freeCtr, .timeFrac, .intc, .myk, .hostq, .sched, .pmon, .hlth, .bed, .stch,
      .ciph, .xport, .fab, .time, .grp, .pho, .boot, .ctl, .keep, .line] x (upd x)) :
    Goes [.csr, .mem, .poison, .out, .freeCtr, .timeFrac, .intc, .myk, .hostq, .sched, .pmon, .hlth, .bed, .stch, .ciph,
      .xport, .fab, .time, .grp, .pho, .boot, .ctl, .keep, .line] s (State.csrWriteWith upd s m tag a v) := by
  unfold State.csrWriteWith
  extract_lets v1 v2
  have h3 : GoesWr [.csr, .mem, .poison, .out, .freeCtr, .timeFrac, .intc, .myk, .hostq, .sched, .pmon, .hlth, .bed, .stch,
        .ciph, .xport, .fab, .time, .grp, .pho, .boot, .ctl, .keep, .line] s v1
  · unfold v1
    exact .step .refl (writeAt_goes hf) (by decide)
  clear_value v1
  have h4 : Goes [.csr, .mem, .poison, .out, .freeCtr, .timeFrac, .intc, .myk, .hostq, .sched, .pmon, .hlth, .bed, .stch,
        .ciph, .xport, .fab, .time, .grp, .pho, .boot, .ctl, .keep, .line] s v2
  · unfold v2
    refine .ite ?_ ?_
    · refine .step (.wr ?_) csrViolation_goes (by decide)
      with_reducible assumption
    · refine .wr ?_
      with_reducible assumption
  clear_value v2
  refine .ite ?_ ?_
  · exact .refl
  · refine .step (.step ?_ intcUpdate_goes (by decide)) respond_goes (by decide)
    with_reducible assumption

theorem checkEnd_goes {s b fails} :
    Goes [.csr, .mem, .poison, .out, .freeCtr, .intc, .myk, .sched, .skein, .pmon, .hlth, .xport, .time, .ctl,
      .line] s (State.checkEnd s b fails) := by
  unfold State.checkEnd
  extract_lets v1 v2
  clear_value v1
  have h3 : Goes [.csr, .mem, .poison, .out, .freeCtr, .intc, .myk, .sched, .skein, .pmon, .hlth, .xport, .time, .ctl, .line] s v2
  · unfold v2
    exact .ctl .refl (by decide)
  clear_value v2
  refine .ite ?_ ?_
  · split
    · rename_i n4 n5 n6
      refine .step ?_ blockRefused_goes (by decide)
      with_reducible assumption
    · rename_i n7 n8
      refine .step ?_ blockEnabled_goes (by decide)
      with_reducible assumption
  · exact .refl

theorem readMsg_goes {s m msg} : Goes [.csr, .mem, .poison, .out, .intc, .myk, .time] s (State.readMsg s m msg) := by
  unfold State.readMsg
  refine .ite ?_ ?_
  · exact .refl
  · refine .ite ?_ ?_
    · exact .step .refl badMessage_goes (by decide)
    · refine .ite ?_ ?_
      · exact .step .refl readRefused_goes (by decide)
      · exact .step .refl csrRead_goes (by decide)

theorem writeMsg_goes {upd s m msg}
    (hf : ∀ {x}, Goes [.csr, .mem, .poison, .out, .freeCtr, .timeFrac, .intc, .myk, .hostq, .sched, .pmon, .hlth, .bed, .stch,
      .ciph, .xport, .fab, .time, .grp, .pho, .boot, .ctl, .keep, .line] x (upd x)) :
    Goes [.csr, .mem, .poison, .out, .freeCtr, .timeFrac, .intc, .myk, .hostq, .sched, .pmon, .hlth, .bed, .stch, .ciph,
      .xport, .fab, .time, .grp, .pho, .boot, .ctl, .keep, .line] s (State.writeMsg upd s m msg) := by
  unfold State.writeMsg
  refine .ite ?_ ?_
  · exact .refl
  · refine .ite ?_ ?_
    · exact .step .refl badMessage_goes (by decide)
    · refine .ite ?_ ?_
      · exact .step (.step .refl csrViolation_goes (by decide)) respond_goes (by decide)
      · exact .step .refl (csrWriteWith_goes hf) (by decide)

/-! ## RegWrites -/

theorem regCommand_goes {s m tag r i fs v} :
    Goes [.csr, .mem, .poison, .out, .freeCtr, .timeFrac, .intc, .myk, .hostq, .sched, .pmon, .hlth, .bed, .stch, .ciph,
      .xport, .fab, .time, .grp, .pho, .boot, .ctl, .keep, .line] s (State.regCommand s m tag r i fs v) := by
  unfold State.regCommand
  exact .step .refl (csrWriteWith_goes .refl) (by decide)

theorem execJobEnableWrite_goes {m tag j v s} :
    GoesNext [.csr, .mem, .poison, .out, .freeCtr, .timeFrac, .intc, .myk, .hostq, .sched, .pmon, .hlth, .bed, .stch, .ciph,
      .xport, .fab, .time, .grp, .pho, .boot, .ctl, .keep, .line] s (execJobEnableWrite m tag j v s) := by
  unfold execJobEnableWrite
  exact .mk (.step .refl regCommand_goes (by decide))

theorem execBlockDisableWrite_goes {m tag b v s} :
    GoesNext [.csr, .mem, .poison, .out, .freeCtr, .timeFrac, .intc, .myk, .hostq, .sched, .pmon, .hlth, .bed, .stch, .ciph,
      .xport, .fab, .time, .grp, .pho, .boot, .ctl, .keep, .line] s (execBlockDisableWrite m tag b v s) := by
  unfold execBlockDisableWrite
  exact .mk (.step .refl regCommand_goes (by decide))

theorem execPurlSubstGo_goes {m tag v s} :
    GoesNext [.csr, .mem, .poison, .out, .freeCtr, .timeFrac, .intc, .myk, .hostq, .sched, .pmon, .hlth, .bed, .stch, .ciph,
      .xport, .fab, .time, .grp, .pho, .boot, .ctl, .keep, .line] s (execPurlSubstGo m tag v s) := by
  unfold execPurlSubstGo
  exact .mk (.step .refl regCommand_goes (by decide))

theorem execIntcSrcWrite_goes {m tag src v s} :
    GoesNext [.csr, .mem, .poison, .out, .freeCtr, .timeFrac, .intc, .myk, .hostq, .sched, .pmon, .hlth, .bed, .stch, .ciph,
      .xport, .fab, .time, .grp, .pho, .boot, .ctl, .keep, .line] s (execIntcSrcWrite m tag src v s) := by
  unfold execIntcSrcWrite
  exact .mk (.step .refl regCommand_goes (by decide))

theorem execSteerArm_goes {m tag v s} :
    GoesNext [.csr, .mem, .poison, .out, .freeCtr, .timeFrac, .intc, .myk, .hostq, .sched, .pmon, .hlth, .bed, .stch, .ciph,
      .xport, .fab, .time, .grp, .pho, .boot, .ctl, .keep, .line] s (execSteerArm m tag v s) := by
  unfold execSteerArm
  exact .mk (.step .refl regCommand_goes (by decide))

theorem execEpochArm_goes {m tag v s} :
    GoesNext [.csr, .mem, .poison, .out, .freeCtr, .timeFrac, .intc, .myk, .hostq, .sched, .pmon, .hlth, .bed, .stch, .ciph,
      .xport, .fab, .time, .grp, .pho, .boot, .ctl, .keep, .line] s (execEpochArm m tag v s) := by
  unfold execEpochArm
  exact .mk (.step .refl regCommand_goes (by decide))

theorem execGateCancel_goes {m tag p v s} :
    GoesNext [.csr, .mem, .poison, .out, .freeCtr, .timeFrac, .intc, .myk, .hostq, .sched, .pmon, .hlth, .bed, .stch, .ciph,
      .xport, .fab, .time, .grp, .pho, .boot, .ctl, .keep, .line] s (execGateCancel m tag p v s) := by
  unfold execGateCancel
  exact .mk (.step .refl regCommand_goes (by decide))

theorem execIntcRaise_goes {m tag v s} :
    GoesNext [.csr, .mem, .poison, .out, .freeCtr, .timeFrac, .intc, .myk, .hostq, .sched, .pmon, .hlth, .bed, .stch, .ciph,
      .xport, .fab, .time, .grp, .pho, .boot, .ctl, .keep, .line] s (execIntcRaise m tag v s) := by
  unfold execIntcRaise
  exact .mk (.step .refl regCommand_goes (by decide))

theorem execTimeSet_goes {m tag v s} :
    GoesNext [.csr, .mem, .poison, .out, .freeCtr, .timeFrac, .intc, .myk, .hostq, .sched, .pmon, .hlth, .bed, .stch, .ciph,
      .xport, .fab, .time, .grp, .pho, .boot, .ctl, .keep, .line] s (execTimeSet m tag v s) := by
  unfold execTimeSet
  exact .mk (.step .refl regCommand_goes (by decide))

theorem execIntcClaim_goes {m tag t s} :
    GoesNext [.csr, .mem, .poison, .out, .intc, .myk, .time] s (execIntcClaim m tag t s) := by
  unfold execIntcClaim
  exact .mk (.step .refl csrRead_goes (by decide))

theorem execHold_goes {m tag v s} :
    GoesNext [.csr, .mem, .poison, .out, .freeCtr, .timeFrac, .intc, .myk, .hostq, .sched, .pmon, .hlth, .bed, .stch, .ciph,
      .xport, .fab, .time, .grp, .pho, .boot, .ctl, .keep, .line] s (execHold m tag v s) := by
  unfold execHold
  exact .mk (.step .refl regCommand_goes (by decide))

theorem dispatchRefuse_goes {s f reason} :
    Goes [.csr, .mem, .poison, .out, .intc, .myk, .hostq] s (State.dispatchRefuse s f reason) := by
  unfold State.dispatchRefuse
  extract_lets v1 v2 v3
  have h4 : Goes [.csr, .mem, .poison, .out, .intc, .myk, .hostq] s v1
  · unfold v1
    exact .step (.step .refl headAdvance_goes (by decide)) checkReport_goes (by decide)
  clear_value v1 v2 v3
  refine .hostq ?_ (by decide)
  with_reducible assumption

theorem dispatch_goes {s f} : Goes [.csr, .mem, .poison, .out, .myk, .hostq] s (State.dispatch s f) := by
  unfold State.dispatch
  extract_lets v1
  have h2 : Goes [.csr, .mem, .poison, .out, .myk, .hostq] s v1
  · unfold v1
    exact .step .refl toEngine_goes (by decide)
  clear_value v1
  split
  · rename_i n3 n4
    with_reducible assumption
  · rename_i n5 n6 n7
    refine .step ?_ finishError_goes (by decide)
    with_reducible assumption

theorem execDescriptorDispatch_goes {q s} :
    GoesNext [.csr, .mem, .poison, .out, .intc, .myk, .hostq] s (execDescriptorDispatch q s) := by
  unfold execDescriptorDispatch
  split
  · rename_i n1 n2
    exact .mk .refl
  · rename_i n3 n4 n5
    refine .ite ?_ ?_
    · exact .mk .refl
    · split
      · rename_i n6 n7 n8
        exact .mk (.step .refl dispatchRefuse_goes (by decide))
      · rename_i n9 n10
        refine .ite ?_ ?_
        · exact .mk .refl
        · exact .mk (.step .refl dispatch_goes (by decide))

theorem execTimeTxqLo_goes {m tag s} : GoesNext [.csr, .mem, .poison, .out, .intc, .myk, .time] s (execTimeTxqLo m tag s) := by
  unfold execTimeTxqLo
  exact .mk (.step .refl csrRead_goes (by decide))

theorem execSwapCancel_goes {m tag p v s} :
    GoesNext [.csr, .mem, .poison, .out, .freeCtr, .timeFrac, .intc, .myk, .hostq, .sched, .pmon, .hlth, .bed, .stch, .ciph,
      .xport, .fab, .time, .grp, .pho, .boot, .ctl, .keep, .line] s (execSwapCancel m tag p v s) := by
  unfold execSwapCancel
  exact .mk (.step .refl regCommand_goes (by decide))

theorem execSnapshotRelease_goes {m tag v s} :
    GoesNext [.csr, .mem, .poison, .out, .freeCtr, .timeFrac, .intc, .myk, .hostq, .sched, .pmon, .hlth, .bed, .stch, .ciph,
      .xport, .fab, .time, .grp, .pho, .boot, .ctl, .keep, .line] s (execSnapshotRelease m tag v s) := by
  unfold execSnapshotRelease
  exact .mk (.step .refl regCommand_goes (by decide))

theorem execGateArm_goes {m tag p v s} :
    GoesNext [.csr, .mem, .poison, .out, .freeCtr, .timeFrac, .intc, .myk, .hostq, .sched, .pmon, .hlth, .bed, .stch, .ciph,
      .xport, .fab, .time, .grp, .pho, .boot, .ctl, .keep, .line] s (execGateArm m tag p v s) := by
  unfold execGateArm
  exact .mk (.step .refl regCommand_goes (by decide))

theorem execCsrRd_goes {m msg s} : GoesNext [.csr, .mem, .poison, .out, .intc, .myk, .time] s (execCsrRd m msg s) := by
  unfold execCsrRd
  exact .mk (.step .refl readMsg_goes (by decide))

theorem execSourceSelect_goes {m tag v s} :
    GoesNext [.csr, .mem, .poison, .out, .freeCtr, .timeFrac, .intc, .myk, .hostq, .sched, .pmon, .hlth, .bed, .stch, .ciph,
      .xport, .fab, .time, .grp, .pho, .boot, .ctl, .keep, .line] s (execSourceSelect m tag v s) := by
  unfold execSourceSelect
  exact .mk (.step .refl regCommand_goes (by decide))

theorem execCiphExtend_goes {m tag v s} :
    GoesNext [.csr, .mem, .poison, .out, .freeCtr, .timeFrac, .intc, .myk, .hostq, .sched, .pmon, .hlth, .bed, .stch, .ciph,
      .xport, .fab, .time, .grp, .pho, .boot, .ctl, .keep, .line] s (execCiphExtend m tag v s) := by
  unfold execCiphExtend
  exact .mk (.step .refl regCommand_goes (by decide))

theorem execCounterEnable_goes {m tag n v s} :
    GoesNext [.csr, .mem, .poison, .out, .freeCtr, .timeFrac, .intc, .myk, .hostq, .sched, .pmon, .hlth, .bed, .stch, .ciph,
      .xport, .fab, .time, .grp, .pho, .boot, .ctl, .keep, .line] s (execCounterEnable m tag n v s) := by
  unfold execCounterEnable
  exact .mk (.step .refl regCommand_goes (by decide))

theorem execJobParamWrite_goes {m tag j second v s} :
    GoesNext [.csr, .mem, .poison, .out, .freeCtr, .timeFrac, .intc, .myk, .hostq, .sched, .pmon, .hlth, .bed, .stch, .ciph,
      .xport, .fab, .time, .grp, .pho, .boot, .ctl, .keep, .line] s (execJobParamWrite m tag j second v s) := by
  unfold execJobParamWrite
  exact .mk (.step .refl regCommand_goes (by decide))

theorem execBedSubst_goes {m tag v s} :
    GoesNext [.csr, .mem, .poison, .out, .freeCtr, .timeFrac, .intc, .myk, .hostq, .sched, .pmon, .hlth, .bed, .stch, .ciph,
      .xport, .fab, .time, .grp, .pho, .boot, .ctl, .keep, .line] s (execBedSubst m tag v s) := by
  unfold execBedSubst
  exact .mk (.step .refl regCommand_goes (by decide))

theorem execStchRequal_goes {m tag v s} :
    GoesNext [.csr, .mem, .poison, .out, .freeCtr, .timeFrac, .intc, .myk, .hostq, .sched, .pmon, .hlth, .bed, .stch, .ciph,
      .xport, .fab, .time, .grp, .pho, .boot, .ctl, .keep, .line] s (execStchRequal m tag v s) := by
  unfold execStchRequal
  exact .mk (.step .refl regCommand_goes (by decide))

theorem execMailboxWrite_goes {m tag k v s} :
    GoesNext [.csr, .mem, .poison, .out, .freeCtr, .timeFrac, .intc, .myk, .hostq, .sched, .pmon, .hlth, .bed, .stch, .ciph,
      .xport, .fab, .time, .grp, .pho, .boot, .ctl, .keep, .line] s (execMailboxWrite m tag k v s) := by
  unfold execMailboxWrite
  exact .mk (.step .refl regCommand_goes (by decide))

theorem execTimeStep_goes {m tag v s} :
    GoesNext [.csr, .mem, .poison, .out, .freeCtr, .timeFrac, .intc, .myk, .hostq, .sched, .pmon, .hlth, .bed, .stch, .ciph,
      .xport, .fab, .time, .grp, .pho, .boot, .ctl, .keep, .line] s (execTimeStep m tag v s) := by
  unfold execTimeStep
  exact .mk (.step .refl regCommand_goes (by decide))

theorem execTakeoverGo_goes {m tag v s} :
    GoesNext [.csr, .mem, .poison, .out, .freeCtr, .timeFrac, .intc, .myk, .hostq, .sched, .pmon, .hlth, .bed, .stch, .ciph,
      .xport, .fab, .time, .grp, .pho, .boot, .ctl, .keep, .line] s (execTakeoverGo m tag v s) := by
  unfold execTakeoverGo
  exact .mk (.step .refl regCommand_goes (by decide))

theorem execShadowGo_goes {m tag v s} :
    GoesNext [.csr, .mem, .poison, .out, .freeCtr, .timeFrac, .intc, .myk, .hostq, .sched, .pmon, .hlth, .bed, .stch, .ciph,
      .xport, .fab, .time, .grp, .pho, .boot, .ctl, .keep, .line] s (execShadowGo m tag v s) := by
  unfold execShadowGo
  exact .mk (.step .refl regCommand_goes (by decide))

theorem execStchSubstGo_goes {m tag v s} :
    GoesNext [.csr, .mem, .poison, .out, .freeCtr, .timeFrac, .intc, .myk, .hostq, .sched, .pmon, .hlth, .bed, .stch, .ciph,
      .xport, .fab, .time, .grp, .pho, .boot, .ctl, .keep, .line] s (execStchSubstGo m tag v s) := by
  unfold execStchSubstGo
  exact .mk (.step .refl regCommand_goes (by decide))

theorem execBlockDrainEnd_goes {b s} : GoesNext [.csr, .out, .intc, .time, .ctl] s (execBlockDrainEnd b s) := by
  unfold execBlockDrainEnd
  refine .ite ?_ ?_
  · exact .mk (.step .refl blockOff_goes (by decide))
  · exact .mk .refl

theorem execPurlRequal_goes {m tag v s} :
    GoesNext [.csr, .mem, .poison, .out, .freeCtr, .timeFrac, .intc, .myk, .hostq, .sched, .pmon, .hlth, .bed, .stch, .ciph,
      .xport, .fab, .time, .grp, .pho, .boot, .ctl, .keep, .line] s (execPurlRequal m tag v s) := by
  unfold execPurlRequal
  exact .mk (.step .refl regCommand_goes (by decide))

theorem execSnapshotGo_goes {m tag v s} :
    GoesNext [.csr, .mem, .poison, .out, .freeCtr, .timeFrac, .intc, .myk, .hostq, .sched, .pmon, .hlth, .bed, .stch, .ciph,
      .xport, .fab, .time, .grp, .pho, .boot, .ctl, .keep, .line] s (execSnapshotGo m tag v s) := by
  unfold execSnapshotGo
  exact .mk (.step .refl regCommand_goes (by decide))

theorem execShadowStop_goes {m tag v s} :
    GoesNext [.csr, .mem, .poison, .out, .freeCtr, .timeFrac, .intc, .myk, .hostq, .sched, .pmon, .hlth, .bed, .stch, .ciph,
      .xport, .fab, .time, .grp, .pho, .boot, .ctl, .keep, .line] s (execShadowStop m tag v s) := by
  unfold execShadowStop
  exact .mk (.step .refl regCommand_goes (by decide))

theorem execBlockEnableWrite_goes {m tag b v s} :
    GoesNext [.csr, .mem, .poison, .out, .freeCtr, .timeFrac, .intc, .myk, .hostq, .sched, .pmon, .hlth, .bed, .stch, .ciph,
      .xport, .fab, .time, .grp, .pho, .boot, .ctl, .keep, .line] s (execBlockEnableWrite m tag b v s) := by
  unfold execBlockEnableWrite
  exact .mk (.step .refl regCommand_goes (by decide))

theorem execSwapArm_goes {m tag p v s} :
    GoesNext [.csr, .mem, .poison, .out, .freeCtr, .timeFrac, .intc, .myk, .hostq, .sched, .pmon, .hlth, .bed, .stch, .ciph,
      .xport, .fab, .time, .grp, .pho, .boot, .ctl, .keep, .line] s (execSwapArm m tag p v s) := by
  unfold execSwapArm
  exact .mk (.step .refl regCommand_goes (by decide))

theorem execReacquire_goes {m tag v s} :
    GoesNext [.csr, .mem, .poison, .out, .freeCtr, .timeFrac, .intc, .myk, .hostq, .sched, .pmon, .hlth, .bed, .stch, .ciph,
      .xport, .fab, .time, .grp, .pho, .boot, .ctl, .keep, .line] s (execReacquire m tag v s) := by
  unfold execReacquire
  exact .mk (.step .refl regCommand_goes (by decide))

theorem execIntcComplete_goes {m tag t v s} :
    GoesNext [.csr, .mem, .poison, .out, .freeCtr, .timeFrac, .intc, .myk, .hostq, .sched, .pmon, .hlth, .bed, .stch, .ciph,
      .xport, .fab, .time, .grp, .pho, .boot, .ctl, .keep, .line] s (execIntcComplete m tag t v s) := by
  unfold execIntcComplete
  exact .mk (.step .refl regCommand_goes (by decide))

theorem execKeepaliveMsWrite_goes {m tag v s} :
    GoesNext [.csr, .mem, .poison, .out, .freeCtr, .timeFrac, .intc, .myk, .hostq, .sched, .pmon, .hlth, .bed, .stch, .ciph,
      .xport, .fab, .time, .grp, .pho, .boot, .ctl, .keep, .line] s (execKeepaliveMsWrite m tag v s) := by
  unfold execKeepaliveMsWrite
  exact .mk (.step .refl regCommand_goes (by decide))

theorem execTimeOffset_goes {m tag v s} :
    GoesNext [.csr, .mem, .poison, .out, .freeCtr, .timeFrac, .intc, .myk, .hostq, .sched, .pmon, .hlth, .bed, .stch, .ciph,
      .xport, .fab, .time, .grp, .pho, .boot, .ctl, .keep, .line] s (execTimeOffset m tag v s) := by
  unfold execTimeOffset
  exact .mk (.step .refl regCommand_goes (by decide))

theorem execQueueEnableWrite_goes {m tag q v s} :
    GoesNext [.csr, .mem, .poison, .out, .freeCtr, .timeFrac, .intc, .myk, .hostq, .sched, .pmon, .hlth, .bed, .stch, .ciph,
      .xport, .fab, .time, .grp, .pho, .boot, .ctl, .keep, .line] s (execQueueEnableWrite m tag q v s) := by
  unfold execQueueEnableWrite
  exact .mk (.step .refl regCommand_goes (by decide))

theorem execHandoverGo_goes {m tag v s} :
    GoesNext [.csr, .mem, .poison, .out, .freeCtr, .timeFrac, .intc, .myk, .hostq, .sched, .pmon, .hlth, .bed, .stch, .ciph,
      .xport, .fab, .time, .grp, .pho, .boot, .ctl, .keep, .line] s (execHandoverGo m tag v s) := by
  unfold execHandoverGo
  exact .mk (.step .refl regCommand_goes (by decide))

theorem execBwWindowWrite_goes {m tag v s} :
    GoesNext [.csr, .mem, .poison, .out, .freeCtr, .timeFrac, .intc, .myk, .hostq, .sched, .pmon, .hlth, .bed, .stch, .ciph,
      .xport, .fab, .time, .grp, .pho, .boot, .ctl, .keep, .line] s (execBwWindowWrite m tag v s) := by
  unfold execBwWindowWrite
  exact .mk (.step .refl regCommand_goes (by decide))

theorem execBankReload_goes {m tag v s} :
    GoesNext [.csr, .mem, .poison, .out, .freeCtr, .timeFrac, .intc, .myk, .hostq, .sched, .pmon, .hlth, .bed, .stch, .ciph,
      .xport, .fab, .time, .grp, .pho, .boot, .ctl, .keep, .line] s (execBankReload m tag v s) := by
  unfold execBankReload
  exact .mk (.step .refl regCommand_goes (by decide))

/-! ## Pmon -/

theorem levelTick_goes {s} : Goes [.csr, .out, .intc] s (State.levelTick s) := by
  unfold State.levelTick
  refine .ite ?_ ?_
  · refine .foldl ?_ (fun x1 y2 h3 => ?_)
    · exact .refl
    · refine .step ?_ counterAdd_goes (by decide)
      with_reducible assumption
  · exact .refl

theorem snapshot_goes {s} : Goes [.csr, .out, .intc, .pmon] s (State.snapshot s) := by
  unfold State.snapshot
  extract_lets v1 v2 v3 v4
  have h5 : Goes [.csr, .out, .intc, .pmon] s v1
  · unfold v1
    refine .foldl ?_ (fun x6 y7 h8 => ?_)
    · exact .refl
    · refine .step ?_ set_goes (by decide)
      with_reducible assumption
  clear_value v1
  have h9 : Goes [.csr, .out, .intc, .pmon] s v2
  · unfold v2
    refine .step (.step (.step (.step ?_ set_goes (by decide)) set_goes (by decide)) set_goes (by decide)) set_goes (by decide)
    with_reducible assumption
  clear_value v2 v3 v4
  refine .step (.step (.pmon ?_ (by decide)) report_goes (by decide)) raise_goes (by decide)
  with_reducible assumption

theorem pmonTick_goes {s} : Goes [.csr, .out, .intc, .pmon] s (State.pmonTick s) := by
  unfold State.pmonTick
  refine .ite ?_ ?_
  · exact .step (.step .refl levelTick_goes (by decide)) snapshot_goes (by decide)
  · exact .step .refl levelTick_goes (by decide)

theorem windowDir_goes {s last windows peak k bytes} : Goes [.csr] s (State.windowDir s last windows peak k bytes) := by
  unfold State.windowDir
  extract_lets v1
  have h2 : Goes [.csr] s v1
  · unfold v1
    exact .step (.step .refl set_goes (by decide)) addWrap_goes (by decide)
  clear_value v1
  refine .ite ?_ ?_
  · refine .step ?_ set_goes (by decide)
    with_reducible assumption
  · with_reducible assumption

theorem execBwWindowEnd_goes {s} : GoesNext [.csr, .pmon] s (execBwWindowEnd s) := by
  unfold execBwWindowEnd
  refine .ite ?_ ?_
  · refine .mk (.step (.foldl ?_ (fun x1 y2 h3 => ?_)) bwRestart_goes (by decide))
    · exact .refl
    · refine .step (.step ?_ windowDir_goes (by decide)) windowDir_goes (by decide)
      with_reducible assumption
  · exact .mk .refl

end Sys2Proof.Machine
end

