-- ==== Sys2Proof/Laws/GoesPower.lean ====
section
/-!
SUPPORT. Laws/GoesPower.lean: what the operations of Machine/Power, CastOn, Cores, Update, Module keep (`Goes`, of
      Laws/Goes.lean): power, cast-on, cores, update and the module as a whole.
Each `…_goes` lists the parts of the state that its operation may change.
-/
namespace Sys2Proof.Machine
open Csr

/-! ## Power -/

theorem hlthReport_goes {s reason f} : Goes [.csr, .out, .intc] s (State.hlthReport s reason f) := by
  unfold State.hlthReport
  exact .step (.step (.step .refl set_goes (by decide)) report_goes (by decide)) raise_goes (by decide)

theorem panelReport_goes {s reason p g f} : Goes [.csr, .out, .intc] s (State.panelReport s reason p g f) := by
  unfold State.panelReport
  exact .step (.step (.step .refl set_goes (by decide)) set_goes (by decide)) hlthReport_goes (by decide)

theorem planChange_goes {s p b mv reason} :
    Goes [.csr, .mem, .poison, .out, .freeCtr, .intc, .myk, .hlth, .keep] s (State.planChange s p b mv reason) := by
  unfold State.planChange
  extract_lets v1 v2 v3
  clear_value v1
  have h4 : Goes [.csr, .mem, .poison, .out, .freeCtr, .intc, .myk, .hlth, .keep] s v3
  · unfold v3
    refine .hlth_keep ?_ (by decide) (by first | exact putSlot_floors | exact ⟨Nat.le_refl _, Nat.le_refl _⟩)
    exact .refl
  clear_value v3
  refine .step (.step (.step ?_ addSat_goes (by decide)) panelReport_goes (by decide)) health_goes (by decide)
  refine .step ?_ set_goes (by decide)
  with_reducible assumption

theorem replanPanel_goes {s p} :
    Goes [.csr, .mem, .poison, .out, .freeCtr, .intc, .myk, .hlth, .keep] s (State.replanPanel s p) := by
  unfold State.replanPanel
  extract_lets v1 v2 v3 v4 v5 v6 v7 v8
  clear_value v1 v2 v3 v4 v5 v6
  have h9 : Goes [.csr, .mem, .poison, .out, .freeCtr, .intc, .myk, .hlth, .keep] s v7
  · unfold v7
    refine .ite ?_ ?_
    · exact .step .refl panelReport_goes (by decide)
    · exact .refl
  clear_value v7
  have h10 : Goes [.csr, .mem, .poison, .out, .freeCtr, .intc, .myk, .hlth, .keep] s v8
  · unfold v8
    refine .ite ?_ ?_
    · refine .ite ?_ ?_
      · refine .step ?_ planChange_goes (by decide)
        with_reducible assumption
      · refine .step (.step ?_ panelReport_goes (by decide)) health_goes (by decide)
        with_reducible assumption
    · refine .ite ?_ ?_
      · exact .step .refl planChange_goes (by decide)
      · exact .refl
  clear_value v8
  refine .step ?_ set_goes (by decide)
  with_reducible assumption

theorem execHoldupChargeTimeout_goes {vcap s} : GoesNext [.csr, .out, .intc, .hlth] s (execHoldupChargeTimeout vcap s) := by
  unfold execHoldupChargeTimeout
  extract_lets v1 v2
  clear_value v1
  have h3 : Goes [.csr, .out, .intc, .hlth] s v2
  · unfold v2
    exact .hlth .refl (by decide)
  clear_value v2
  refine .mk (.step (.step (.step ?_ set_goes (by decide)) set_goes (by decide)) hlthReport_goes (by decide))
  with_reducible assumption

theorem throttleUpdate_goes {s} : Goes [.csr] s (State.throttleUpdate s) := by
  unfold State.throttleUpdate
  exact .step .refl set_goes (by decide)

theorem execPowerCapReached_goes {pin s} : GoesNext [.csr, .out, .intc, .hlth] s (execPowerCapReached pin s) := by
  unfold execPowerCapReached
  extract_lets v1 v2
  have h3 : Goes [.csr, .out, .intc, .hlth] s v1
  · unfold v1
    exact .step .refl set_goes (by decide)
  clear_value v1 v2
  refine .ite ?_ ?_
  · refine .mk (.step (.step (.hlth ?_ (by decide)) throttleUpdate_goes (by decide)) hlthReport_goes (by decide))
    with_reducible assumption
  · refine .mk ?_
    with_reducible assumption

theorem settleLedger_goes {s} : Goes [.freeCtr, .ciph] s (State.settleLedger s) := by
  unfold State.settleLedger
  refine .foldl ?_ (fun x1 y2 h3 => ?_)
  · exact .refl
  · split
    · rename_i n4 n5
      refine .step ?_ putLedger_goes (by decide)
      with_reducible assumption
    · rename_i n6 n7 n8
      refine .step (.snd (.step ?_ fresh_goes (by decide))) putLedger_goes (by decide)
      with_reducible assumption

theorem csUpdate_goes {s} : Goes [.csr] s (State.csUpdate s) := by
  unfold State.csUpdate
  split
  · rename_i n1 n2
    exact .step .refl wrReg_goes (by decide)
  · rename_i n3 n4 n5
    extract_lets v6
    clear_value v6
    refine .step (.step (.step (.step ?_ set_goes (by decide)) set_goes (by decide)) set_goes (by decide)) set_goes (by decide)
    exact .refl

theorem copyFields_goes {t s l} : Goes [.csr] t (State.copyFields t s l) := by
  unfold State.copyFields
  refine .foldl ?_ (fun x1 y2 h3 => ?_)
  · exact .refl
  · refine .foldl ?_ (fun x4 y5 h6 => ?_)
    · with_reducible assumption
    · refine .step ?_ set_goes (by decide)
      with_reducible assumption

theorem moduleReset_goes {s : State} {more : List (Field × Nat)} :
    Goes [.csr, .mem, .poison, .freeCtr, .timeFrac, .intc, .myk, .hostq, .sched, .skein, .memst, .pmon, .hlth, .bed, .stch,
          .purl, .ciph,
      .xport, .fab, .time, .grp, .pho, .boot, .ctl, .rerun, .line] s (s.moduleReset more) := by
  unfold State.moduleReset
  extract_lets a h t
  have ha : Goes [.freeCtr, .ciph] s a := settleLedger_goes
  clear_value a
  refine .step (.step (.step .refl ha (by decide)) (t := t) (f := [.csr, .mem, .poison, .timeFrac, .intc, .myk, .hostq, .sched,
        .skein,
      .memst, .pmon, .hlth, .bed, .stch, .purl, .ciph, .xport, .fab, .time, .grp, .pho, .boot, .ctl, .rerun, .line]) ?_ (by decide))
    (t := (t.copyFields a (keptFields ++ more)).csUpdate) (f := [.csr]) ?_ (by decide)
  · exact ⟨fun p hp => (by cases p <;> first | rfl | cases hp), memory_filter_wf _ _, fun _ => (by rfl),
      ⟨Nat.le_refl _, Nat.le_refl _⟩, List.prefix_refl _, Nat.le_refl _, fun _ => List.length_replicate⟩
  · exact .step copyFields_goes csUpdate_goes (by decide)

theorem bindStopped_goes {s reason ms mib vcap} :
    Goes [.csr, .mem, .poison, .freeCtr, .timeFrac, .intc, .myk, .hostq, .sched, .skein, .memst, .pmon, .hlth, .bed, .stch,
      .purl, .ciph, .xport, .fab, .time, .grp, .pho, .boot, .ctl, .rerun, .line] s (State.bindStopped s reason ms mib vcap) := by
  unfold State.bindStopped
  extract_lets v1 v2 v3
  clear_value v1
  have h4 : Goes [.csr, .mem, .poison, .freeCtr, .timeFrac, .intc, .myk, .hostq, .sched, .skein, .memst, .pmon, .hlth, .bed,
        .stch, .purl, .ciph, .xport, .fab, .time, .grp, .pho, .boot, .ctl, .rerun, .line] s v2
  · unfold v2
    exact .step (.hlth .refl (by decide)) moduleReset_goes (by decide)
  clear_value v2
  have h5 : Goes [.csr, .mem, .poison, .freeCtr, .timeFrac, .intc, .myk, .hostq, .sched, .skein, .memst, .pmon, .hlth, .bed,
        .stch, .purl, .ciph, .xport, .fab, .time, .grp, .pho, .boot, .ctl, .rerun, .line] s v3
  · unfold v3
    refine .step (.step (.step (.step ?_ set_goes (by decide)) set_goes (by decide)) set_goes (by decide)) set_goes (by decide)
    with_reducible assumption
  clear_value v3
  refine .step (.step ?_ set_goes (by decide)) holdupUpdate_goes (by decide)
  with_reducible assumption

theorem lastReport_goes {s reason} : Goes [.keep] s (State.lastReport s reason) := by
  unfold State.lastReport
  extract_lets v1
  refine .keep ?_ (by decide) (by first | exact putSlot_floors | exact ⟨Nat.le_refl _, Nat.le_refl _⟩)
  exact .refl

theorem execBindoffLimit_goes {vcap ms s} :
    GoesNext [.csr, .mem, .poison, .freeCtr, .timeFrac, .intc, .myk, .hostq, .sched, .skein, .memst, .pmon, .hlth, .bed, .stch,
      .purl, .ciph, .xport, .fab, .time, .grp, .pho, .boot, .ctl, .keep, .rerun, .line] s (execBindoffLimit vcap ms s) := by
  unfold execBindoffLimit
  refine .ite ?_ ?_
  · exact .mk (.step (.step .refl lastReport_goes (by decide)) bindStopped_goes (by decide))
  · exact .mk .refl

theorem loadPlans_goes {s} : Goes [.csr] s (State.loadPlans s) := by
  unfold State.loadPlans
  refine .foldl ?_ (fun x1 y2 h3 => ?_)
  · exact .refl
  · extract_lets v4
    have h5 : Goes [.csr] s v4
    · unfold v4
      refine .foldl ?_ (fun x6 y7 h8 => ?_)
      · with_reducible assumption
      · refine .step ?_ set_goes (by decide)
        with_reducible assumption
    clear_value v4
    refine .step ?_ set_goes (by decide)
    with_reducible assumption

theorem castStart_goes {s} : Goes [.csr, .mem, .poison, .out, .freeCtr, .intc, .myk, .hlth] s (State.castStart s) := by
  unfold State.castStart
  extract_lets v1 v2
  have h3 : Goes [.csr, .mem, .poison, .out, .freeCtr, .intc, .myk, .hlth] s v1
  · unfold v1
    exact .step (.step (.step .refl set_goes (by decide)) addWrap_goes (by decide)) loadPlans_goes (by decide)
  clear_value v1 v2
  refine .ite ?_ ?_
  · refine .step (.step (.hlth ?_ (by decide)) report_goes (by decide)) health_goes (by decide)
    with_reducible assumption
  · with_reducible assumption

theorem castTry_goes {s} : Goes [.csr, .mem, .poison, .out, .freeCtr, .intc, .myk, .hlth] s (State.castTry s) := by
  unfold State.castTry
  refine .ite ?_ ?_
  · exact .step .refl castStart_goes (by decide)
  · exact .refl

theorem execInputRestart_goes {vin s} :
    GoesNext [.csr, .mem, .poison, .out, .freeCtr, .timeFrac, .intc, .myk, .hostq, .sched, .skein, .memst, .pmon, .hlth, .bed,
      .stch, .purl, .ciph, .xport, .fab, .time, .grp, .pho, .boot, .ctl, .rerun, .line] s (execInputRestart vin s) := by
  unfold execInputRestart
  extract_lets v1 v2
  clear_value v1
  have h3 : Goes [.csr, .mem, .poison, .out, .freeCtr, .timeFrac, .intc, .myk, .hostq, .sched, .skein, .memst, .pmon, .hlth,
        .bed, .stch, .purl, .ciph, .xport, .fab, .time, .grp, .pho, .boot, .ctl, .rerun, .line] s v2
  · unfold v2
    exact .hlth .refl (by decide)
  clear_value v2
  refine .ite ?_ ?_
  · refine .mk (.step (.step (.step ?_ set_goes (by decide)) holdupUpdate_goes (by decide)) castTry_goes (by decide))
    refine .step ?_ moduleReset_goes (by decide)
    with_reducible assumption
  · exact .mk (.step .refl set_goes (by decide))

theorem execPowerOnPwrGood_goes {s} :
    GoesNext [.csr, .mem, .poison, .out, .freeCtr, .timeFrac, .intc, .myk, .hostq, .sched, .skein, .memst, .pmon, .hlth, .bed,
      .stch, .purl, .ciph, .xport, .fab, .time, .grp, .pho, .boot, .ctl, .rerun, .line] s (execPowerOnPwrGood s) := by
  unfold execPowerOnPwrGood
  extract_lets v1
  clear_value v1
  refine .ite ?_ ?_
  · exact .mk .refl
  · exact .mk (.step (.step (.hlth .refl (by decide)) moduleReset_goes (by decide)) castTry_goes (by decide))

theorem sampleGauge_goes {s g m} : Goes [.csr, .hlth] s (State.sampleGauge s g m) := by
  unfold State.sampleGauge
  extract_lets v1 v2 v3 v4 v5
  clear_value v1 v2 v3 v4 v5
  exact .step (.step (.hlth .refl (by decide)) set_goes (by decide)) set_goes (by decide)

theorem panelMargin_goes {s p} : Goes [.csr] s (State.panelMargin s p) := by
  unfold State.panelMargin
  split
  · rename_i n1 n2
    exact .refl
  · rename_i n3 n4 n5
    exact .step (.step .refl set_goes (by decide)) set_goes (by decide)

theorem spareOut_goes {s reason block p hw} :
    Goes [.csr, .mem, .poison, .out, .freeCtr, .intc, .myk, .hlth] s (State.spareOut s reason block p hw) := by
  unfold State.spareOut
  exact .step (.step (.step .refl markQuarantined_goes (by decide)) quarantineCount_goes (by decide)) health_goes (by decide)

theorem stchClusterOut_goes {s reason hw} :
    Goes [.csr, .mem, .poison, .out, .freeCtr, .intc, .myk, .hlth, .stch, .xport, .fab,
      .grp] s (State.stchClusterOut s reason hw) := by
  unfold State.stchClusterOut
  extract_lets v1 v2
  clear_value v2
  refine .ite ?_ ?_
  · refine .ite ?_ ?_
    · exact .refl
    · unfold v1
      exact .step (.snd (.step .refl fresh_goes (by decide))) stchContain_goes (by decide)
  · split
    · rename_i n3 n4 n5
      unfold v1
      exact .step (.snd (.step .refl fresh_goes (by decide))) stchContain_goes (by decide)
    · rename_i n6 n7
      exact .step (.step (.step .refl set_goes (by decide)) set_goes (by decide)) spareOut_goes (by decide)

theorem purlClusterOut_goes {s reason hw} :
    Goes [.csr, .mem, .poison, .out, .freeCtr, .intc, .myk, .hlth] s (State.purlClusterOut s reason hw) := by
  unfold State.purlClusterOut
  extract_lets v1
  clear_value v1
  refine .ite ?_ ?_
  · refine .ite ?_ ?_
    · exact .refl
    · exact .step .refl purlQuarantine_goes (by decide)
  · split
    · rename_i n2 n3 n4
      exact .step .refl purlQuarantine_goes (by decide)
    · rename_i n5 n6
      exact .step (.step (.step .refl set_goes (by decide)) set_goes (by decide)) spareOut_goes (by decide)

theorem clusterOut_goes {s reason block panel c} :
    Goes [.csr, .mem, .poison, .out, .freeCtr, .intc, .myk, .hostq, .sched, .skein, .memst, .pmon, .hlth, .bed, .stch, .ciph,
      .xport, .fab, .time, .grp, .pho, .line] s (State.clusterOut s reason block panel c) := by
  unfold State.clusterOut
  extract_lets v1 v2 v3 v4
  have h5 : Goes [.csr, .mem, .poison, .out, .freeCtr, .intc, .myk, .hostq, .sched, .skein, .memst, .pmon, .hlth, .bed, .stch,
        .ciph, .xport, .fab, .time, .grp, .pho, .line] s v1
  · unfold v1
    refine .foldl ?_ (fun x6 y7 h8 => ?_)
    · exact .refl
    · refine .step ?_ unitFault_goes (by decide)
      with_reducible assumption
  clear_value v1
  have h9 : Goes [.csr, .mem, .poison, .out, .freeCtr, .intc, .myk, .hostq, .sched, .skein, .memst, .pmon, .hlth, .bed, .stch,
        .ciph, .xport, .fab, .time, .grp, .pho, .line] s v2
  · unfold v2
    refine .step ?_ wrReg_goes (by decide)
    with_reducible assumption
  clear_value v2 v3
  have h10 : Goes [.csr, .mem, .poison, .out, .freeCtr, .intc, .myk, .hostq, .sched, .skein, .memst, .pmon, .hlth, .bed, .stch,
        .ciph, .xport, .fab, .time, .grp, .pho, .line] s v4
  · unfold v4
    refine .hlth ?_ (by decide)
    with_reducible assumption
  clear_value v4
  refine .ite ?_ ?_
  · exact .step .refl groupFault_goes (by decide)
  · refine .ite ?_ ?_
    · exact .step .refl stchClusterOut_goes (by decide)
    · refine .ite ?_ ?_
      · exact .step .refl purlClusterOut_goes (by decide)
      · refine .step (.step ?_ spareOut_goes (by decide)) capChange_goes (by decide)
        with_reducible assumption

theorem gaugeRun_goes {s g} :
    Goes [.csr, .mem, .poison, .out, .freeCtr, .intc, .myk, .hostq, .sched, .skein, .memst, .pmon, .hlth, .bed, .stch, .ciph,
      .xport, .fab, .time, .grp, .pho, .line] s (State.gaugeRun s g) := by
  unfold State.gaugeRun
  extract_lets v1 v2 v3 v4 v5
  clear_value v1 v3 v4
  have h6 : Goes [.csr, .mem, .poison, .out, .freeCtr, .intc, .myk, .hostq, .sched, .skein, .memst, .pmon, .hlth, .bed, .stch,
        .ciph, .xport, .fab, .time, .grp, .pho, .line] s v5
  · unfold v5
    exact .hlth .refl (by decide)
  clear_value v5
  refine .ite ?_ ?_
  · refine .ite ?_ ?_
    · exact .hlth .refl (by decide)
    · refine .step (.step (.step ?_ panelReport_goes (by decide)) clusterOut_goes (by decide)) markQuarantined_goes (by decide)
      with_reducible assumption
  · exact .hlth .refl (by decide)

theorem execGaugeSample_goes {margins panels s} :
    GoesNext [.csr, .mem, .poison, .out, .freeCtr, .intc, .myk, .hostq, .sched, .skein, .memst, .pmon, .hlth, .bed, .stch,
      .ciph, .xport, .fab, .time, .grp, .pho, .line] s (execGaugeSample margins panels s) := by
  unfold execGaugeSample
  extract_lets v1 v2 v3 v4
  have h5 : Goes [.csr, .mem, .poison, .out, .freeCtr, .intc, .myk, .hostq, .sched, .skein, .memst, .pmon, .hlth, .bed, .stch,
        .ciph, .xport, .fab, .time, .grp, .pho, .line] s v1
  · unfold v1
    refine .foldl ?_ (fun x6 y7 h8 => ?_)
    · exact .refl
    · refine .step (.step ?_ set_goes (by decide)) set_goes (by decide)
      with_reducible assumption
  clear_value v1 v2
  have h9 : Goes [.csr, .mem, .poison, .out, .freeCtr, .intc, .myk, .hostq, .sched, .skein, .memst, .pmon, .hlth, .bed, .stch,
        .ciph, .xport, .fab, .time, .grp, .pho, .line] s v3
  · unfold v3
    refine .foldl ?_ (fun x10 y11 h12 => ?_)
    · with_reducible assumption
    · refine .step ?_ sampleGauge_goes (by decide)
      with_reducible assumption
  clear_value v3
  have h13 : Goes [.csr, .mem, .poison, .out, .freeCtr, .intc, .myk, .hostq, .sched, .skein, .memst, .pmon, .hlth, .bed, .stch,
        .ciph, .xport, .fab, .time, .grp, .pho, .line] s v4
  · unfold v4
    refine .foldl ?_ (fun x14 y15 h16 => ?_)
    · with_reducible assumption
    · refine .step ?_ panelMargin_goes (by decide)
      with_reducible assumption
  clear_value v4
  refine .mk (.foldl ?_ (fun x17 y18 h19 => ?_))
  · with_reducible assumption
  · refine .step ?_ gaugeRun_goes (by decide)
    with_reducible assumption

theorem updateCut_goes {s} : Goes [.keep] s (State.updateCut s) := by
  unfold State.updateCut
  extract_lets v1
  split
  · rename_i n2 n3
    exact .refl
  · rename_i n4 n5 n6
    refine .ite ?_ ?_
    · refine .keep ?_ (by decide) (by first | exact putSlot_floors | exact ⟨Nat.le_refl _, Nat.le_refl _⟩)
      exact .refl
    · refine .ite ?_ ?_
      · refine .keep ?_ (by decide) (by first | exact putSlot_floors | exact ⟨Nat.le_refl _, Nat.le_refl _⟩)
        exact .refl
      · exact .refl

theorem exactMark_goes {s x} : Goes [.ciph] s (State.exactMark s x) := by
  unfold State.exactMark
  exact .step .refl putLedger_goes (by decide)

theorem saveCritical_goes {s} : Goes [.hlth, .ciph, .keep] s (State.saveCritical s) := by
  unfold State.saveCritical
  extract_lets v1 v2 v3
  clear_value v1
  have h4 : Goes [.hlth, .ciph, .keep] s v2
  · unfold v2
    refine .foldl ?_ (fun x5 y6 h7 => ?_)
    · exact .refl
    · refine .step ?_ exactMark_goes (by decide)
      with_reducible assumption
  clear_value v2 v3
  refine .hlth_keep ?_ (by decide) (by first | exact putSlot_floors | exact ⟨Nat.le_refl _, Nat.le_refl _⟩)
  with_reducible assumption

theorem saveCut_goes {s} : Goes [.freeCtr, .hlth, .ciph, .keep] s (State.saveCut s) := by
  unfold State.saveCut
  extract_lets v1 v2
  have h3 : Goes [.freeCtr, .hlth, .ciph, .keep] s v1
  · unfold v1
    refine .foldl ?_ (fun x4 y5 h6 => ?_)
    · exact .refl
    · refine .ite ?_ ?_
      · refine .step (.snd (.step ?_ fresh_goes (by decide))) exactMark_goes (by decide)
        with_reducible assumption
      · refine .snd (.step ?_ fresh_goes (by decide))
        with_reducible assumption
  clear_value v1 v2
  refine .hlth_keep ?_ (by decide) (by first | exact putSlot_floors | exact ⟨Nat.le_refl _, Nat.le_refl _⟩)
  with_reducible assumption

theorem bindOffBegin_goes {s reason x} :
    Goes [.csr, .mem, .poison, .out, .freeCtr, .timeFrac, .intc, .myk, .hostq, .sched, .skein, .memst, .pmon, .hlth, .bed,
      .stch, .purl, .ciph, .xport, .fab, .time, .grp, .pho, .boot, .ctl, .keep, .rerun,
      .line] s (State.bindOffBegin s reason x) := by
  unfold State.bindOffBegin
  extract_lets v1 v2 v3 v4 v5 v6
  have h7 : Goes [.csr, .mem, .poison, .out, .freeCtr, .timeFrac, .intc, .myk, .hostq, .sched, .skein, .memst, .pmon, .hlth,
        .bed, .stch, .purl, .ciph, .xport, .fab, .time, .grp, .pho, .boot, .ctl, .keep, .rerun, .line] s v2
  · unfold v2
    exact .step (.hlth .refl (by decide)) addSat_goes (by decide)
  have h8 : Goes [.csr, .mem, .poison, .out, .freeCtr, .timeFrac, .intc, .myk, .hostq, .sched, .skein, .memst, .pmon, .hlth,
        .bed, .stch, .purl, .ciph, .xport, .fab, .time, .grp, .pho, .boot, .ctl, .keep, .rerun, .line] s v3
  · unfold v3
    refine .step (.step (.step ?_ set_goes (by decide)) report_goes (by decide)) health_goes (by decide)
    with_reducible assumption
  have h9 : Goes [.csr, .mem, .poison, .out, .freeCtr, .timeFrac, .intc, .myk, .hostq, .sched, .skein, .memst, .pmon, .hlth,
        .bed, .stch, .purl, .ciph, .xport, .fab, .time, .grp, .pho, .boot, .ctl, .keep, .rerun, .line] s v4
  · unfold v4
    refine .step (.step ?_ updateCut_goes (by decide)) failSend_goes (by decide)
    with_reducible assumption
  clear_value v5 v6
  refine .ite ?_ ?_
  · refine .step (.step ?_ lastReport_goes (by decide)) bindStopped_goes (by decide)
    with_reducible assumption
  · refine .ite ?_ ?_
    · refine .step ?_ bindStopped_goes (by decide)
      with_reducible assumption
    · refine .ite ?_ ?_
      · refine .step (.step (.step ?_ saveCritical_goes (by decide)) lastReport_goes (by decide)) bindStopped_goes (by decide)
        with_reducible assumption
      · refine .step (.step (.step ?_ set_goes (by decide)) set_goes (by decide)) moduleReset_goes (by decide)
        refine .step ?_ saveCut_goes (by decide)
        with_reducible assumption

theorem laterTrigger_goes {s reason} :
    Goes [.csr, .mem, .poison, .out, .freeCtr, .intc, .myk, .hlth, .keep] s (State.laterTrigger s reason) := by
  unfold State.laterTrigger
  extract_lets v1
  have h2 : Goes [.csr, .mem, .poison, .out, .freeCtr, .intc, .myk, .hlth, .keep] s v1
  · unfold v1
    exact .step .refl health_goes (by decide)
  clear_value v1
  split
  · rename_i n3 n4 n5 n6 n7 n8
    extract_lets v9
    refine .keep ?_ (by decide) (by first | exact putSlot_floors | exact ⟨Nat.le_refl _, Nat.le_refl _⟩)
    with_reducible assumption
  · rename_i n10 n11 n12
    with_reducible assumption

theorem bindOff_goes {s reason x} :
    Goes [.csr, .mem, .poison, .out, .freeCtr, .timeFrac, .intc, .myk, .hostq, .sched, .skein, .memst, .pmon, .hlth, .bed,
      .stch, .purl, .ciph, .xport, .fab, .time, .grp, .pho, .boot, .ctl, .keep, .rerun, .line] s (State.bindOff s reason x) := by
  unfold State.bindOff
  refine .ite ?_ ?_
  · exact .step .refl laterTrigger_goes (by decide)
  · refine .ite ?_ ?_
    · exact .step .refl bindOffBegin_goes (by decide)
    · exact .refl

theorem inputMeasured_goes {s vin iin} : Goes [.csr] s (State.inputMeasured s vin iin) := by
  unfold State.inputMeasured
  exact .step (.step .refl set_goes (by decide)) set_goes (by decide)

theorem execInputWarn_goes {vin iin s} : GoesNext [.csr, .out, .intc] s (execInputWarn vin iin s) := by
  unfold execInputWarn
  extract_lets v1
  have h2 : Goes [.csr, .out, .intc] s v1
  · unfold v1
    exact .step .refl inputMeasured_goes (by decide)
  clear_value v1
  refine .ite ?_ ?_
  · refine .mk ?_
    with_reducible assumption
  · refine .mk (.step (.step ?_ set_goes (by decide)) hlthReport_goes (by decide))
    with_reducible assumption

theorem execInputSurge_goes {vin iin s} : GoesNext [.csr, .out, .intc] s (execInputSurge vin iin s) := by
  unfold execInputSurge
  exact .mk (.step (.step .refl inputMeasured_goes (by decide)) hlthReport_goes (by decide))

theorem execPowerCapRelease_goes {pin s} : GoesNext [.csr, .hlth] s (execPowerCapRelease pin s) := by
  unfold execPowerCapRelease
  extract_lets v1 v2
  have h3 : Goes [.csr, .hlth] s v1
  · unfold v1
    exact .step .refl set_goes (by decide)
  clear_value v1 v2
  refine .mk (.step (.hlth ?_ (by decide)) throttleUpdate_goes (by decide))
  with_reducible assumption

theorem execBindoffTrigger_goes {cause x s} :
    GoesNext [.csr, .mem, .poison, .out, .freeCtr, .timeFrac, .intc, .myk, .hostq, .sched, .skein, .memst, .pmon, .hlth, .bed,
      .stch, .purl, .ciph, .xport, .fab, .time, .grp, .pho, .boot, .ctl, .keep, .rerun,
      .line] s (execBindoffTrigger cause x s) := by
  unfold execBindoffTrigger
  exact .mk (.step .refl bindOff_goes (by decide))

theorem runReplan_goes {p s} : GoesNext [.csr, .mem, .poison, .out, .freeCtr, .intc, .myk, .hlth, .keep] s (runReplan p s) := by
  unfold runReplan
  refine .ite ?_ ?_
  · exact .mk (.step .refl replanPanel_goes (by decide))
  · exact .mk .refl

theorem execHoldupChargeMeasured_goes {uf vcap s} :
    GoesNext [.csr, .mem, .poison, .out, .freeCtr, .intc, .myk, .hlth] s (execHoldupChargeMeasured uf vcap s) := by
  unfold execHoldupChargeMeasured
  extract_lets v1
  have h2 : Goes [.csr, .mem, .poison, .out, .freeCtr, .intc, .myk, .hlth] s v1
  · unfold v1
    exact .step (.step (.step .refl set_goes (by decide)) set_goes (by decide)) holdupUpdate_goes (by decide)
  clear_value v1
  refine .ite ?_ ?_
  · refine .mk (.step (.step (.step ?_ hlthReport_goes (by decide)) moduleFault_goes (by decide)) health_goes (by decide))
    with_reducible assumption
  · refine .mk ?_
    with_reducible assumption

theorem execResetNRelease_goes {s} :
    GoesNext [.csr, .mem, .poison, .out, .freeCtr, .intc, .myk, .hlth] s (execResetNRelease s) := by
  unfold execResetNRelease
  extract_lets v1
  clear_value v1
  exact .mk (.step (.hlth .refl (by decide)) castTry_goes (by decide))

theorem execRateFloorFault_goes {p s} :
    GoesNext [.csr, .mem, .poison, .out, .freeCtr, .intc, .myk, .pmon, .hlth, .fab, .grp, .line] s (execRateFloorFault p s) := by
  unfold execRateFloorFault
  exact .mk (.step (.step (.step .refl panelReport_goes (by decide)) health_goes (by decide)) handOver_goes (by decide))

theorem execInputWarnClear_goes {vin iin s} : GoesNext [.csr, .out, .intc] s (execInputWarnClear vin iin s) := by
  unfold execInputWarnClear
  extract_lets v1
  have h2 : Goes [.csr, .out, .intc] s v1
  · unfold v1
    exact .step .refl inputMeasured_goes (by decide)
  clear_value v1
  refine .ite ?_ ?_
  · refine .mk (.step (.step ?_ set_goes (by decide)) hlthReport_goes (by decide))
    with_reducible assumption
  · refine .mk ?_
    with_reducible assumption

theorem execThermalTrip_goes {x s} :
    GoesNext [.csr, .mem, .poison, .out, .freeCtr, .timeFrac, .intc, .myk, .hostq, .sched, .skein, .memst, .pmon, .hlth, .bed,
      .stch, .purl, .ciph, .xport, .fab, .time, .grp, .pho, .boot, .ctl, .keep, .rerun, .line] s (execThermalTrip x s) := by
  unfold execThermalTrip
  exact .mk (.step .refl bindOff_goes (by decide))

theorem execResetNAssert_goes {s} :
    GoesNext [.csr, .mem, .poison, .freeCtr, .timeFrac, .intc, .myk, .hostq, .sched, .skein, .memst, .pmon, .hlth, .bed, .stch,
      .purl, .ciph, .xport, .fab, .time, .grp, .pho, .boot, .ctl, .rerun, .line] s (execResetNAssert s) := by
  unfold execResetNAssert
  extract_lets v1 v2 v3 v4 v5
  clear_value v1
  have h6 : Goes [.csr, .mem, .poison, .freeCtr, .timeFrac, .intc, .myk, .hostq, .sched, .skein, .memst, .pmon, .hlth, .bed,
        .stch, .purl, .ciph, .xport, .fab, .time, .grp, .pho, .boot, .ctl, .rerun, .line] s v2
  · unfold v2
    exact .hlth .refl (by decide)
  clear_value v2 v3 v4 v5
  refine .ite ?_ ?_
  · refine .mk ?_
    with_reducible assumption
  · refine .mk (.step (.hlth ?_ (by decide)) moduleReset_goes (by decide))
    with_reducible assumption

theorem thermalReport_goes {s reason p} :
    Goes [.csr, .mem, .poison, .out, .freeCtr, .intc, .myk, .hlth] s (State.thermalReport s reason p) := by
  unfold State.thermalReport
  exact .step (.step .refl panelReport_goes (by decide)) health_goes (by decide)

theorem execPanelTempChange_goes {p temp fast s} :
    GoesNext [.csr, .mem, .poison, .out, .freeCtr, .intc, .myk, .hlth] s (execPanelTempChange p temp fast s) := by
  unfold execPanelTempChange
  extract_lets v1 v2 v3 v4 v5 v6 v7 v8 v9 v10
  clear_value v1
  have h11 : Goes [.csr, .mem, .poison, .out, .freeCtr, .intc, .myk, .hlth] s v2
  · unfold v2
    exact .step (.step .refl set_goes (by decide)) set_goes (by decide)
  clear_value v2 v3
  have h12 : Goes [.csr, .mem, .poison, .out, .freeCtr, .intc, .myk, .hlth] s v4
  · unfold v4
    refine .ite ?_ ?_
    · refine .step ?_ thermalReport_goes (by decide)
      with_reducible assumption
    · with_reducible assumption
  clear_value v4 v5
  have h13 : Goes [.csr, .mem, .poison, .out, .freeCtr, .intc, .myk, .hlth] s v6
  · unfold v6
    refine .hlth ?_ (by decide)
    with_reducible assumption
  clear_value v6 v7
  have h14 : Goes [.csr, .mem, .poison, .out, .freeCtr, .intc, .myk, .hlth] s v8
  · unfold v8
    refine .ite ?_ ?_
    · refine .step ?_ thermalReport_goes (by decide)
      with_reducible assumption
    · with_reducible assumption
  clear_value v8 v9
  have h15 : Goes [.csr, .mem, .poison, .out, .freeCtr, .intc, .myk, .hlth] s v10
  · unfold v10
    refine .step (.hlth ?_ (by decide)) throttleUpdate_goes (by decide)
    with_reducible assumption
  clear_value v10
  refine .ite ?_ ?_
  · refine .mk (.step (.step ?_ thermalReport_goes (by decide)) set_goes (by decide))
    with_reducible assumption
  · refine .mk ?_
    with_reducible assumption

/-! ## CastOn -/

theorem tableDisable_goes {s u reason} :
    Goes [.csr, .mem, .poison, .out, .freeCtr, .intc, .myk, .hostq, .sched, .skein, .memst, .pmon, .hlth, .bed, .stch, .ciph,
      .xport, .fab, .time, .grp, .pho, .boot, .line] s (State.tableDisable s u reason) := by
  unfold State.tableDisable
  extract_lets v1 v2 v3 v4 v5 v6 v7
  clear_value v1 v2 v3 v4 v5
  have h8 : Goes [.csr, .mem, .poison, .out, .freeCtr, .intc, .myk, .hostq, .sched, .skein, .memst, .pmon, .hlth, .bed, .stch,
        .ciph, .xport, .fab, .time, .grp, .pho, .boot, .line] s v6
  · unfold v6
    exact .boot .refl (by decide)
  clear_value v6
  have h9 : Goes [.csr, .mem, .poison, .out, .freeCtr, .intc, .myk, .hostq, .sched, .skein, .memst, .pmon, .hlth, .bed, .stch,
        .ciph, .xport, .fab, .time, .grp, .pho, .boot, .line] s v7
  · unfold v7
    refine .step (.step ?_ report_goes (by decide)) health_goes (by decide)
    with_reducible assumption
  clear_value v7
  refine .ite ?_ ?_
  · split
    · rename_i n10
      refine .step ?_ groupFault_goes (by decide)
      with_reducible assumption
    · rename_i n11
      refine .step ?_ bedCap_goes (by decide)
      with_reducible assumption
  · refine .ite ?_ ?_
    · refine .step ?_ clusterOut_goes (by decide)
      with_reducible assumption
    · split
      · rename_i n12 n13
        with_reducible assumption
      · rename_i n14 n15 n16 n17
        refine .step (.step ?_ unitFault_goes (by decide)) capChange_goes (by decide)
        with_reducible assumption

theorem tableResend_goes {s u audit} :
    Goes [.csr, .mem, .poison, .out, .freeCtr, .intc, .myk, .hostq, .sched, .skein, .memst, .pmon, .hlth, .bed, .stch, .ciph,
      .xport, .fab, .time, .grp, .pho, .boot, .line] s (State.tableResend s u audit) := by
  unfold State.tableResend
  extract_lets v1 v2 v3
  clear_value v1 v2
  have h4 : Goes [.csr, .mem, .poison, .out, .freeCtr, .intc, .myk, .hostq, .sched, .skein, .memst, .pmon, .hlth, .bed, .stch,
        .ciph, .xport, .fab, .time, .grp, .pho, .boot, .line] s v3
  · unfold v3
    exact .boot .refl (by decide)
  clear_value v3
  refine .ite ?_ ?_
  · refine .ite ?_ ?_
    · refine .step (.step ?_ hlthReport_goes (by decide)) health_goes (by decide)
      with_reducible assumption
    · with_reducible assumption
  · refine .ite ?_ ?_
    · exact .step (.step .refl hlthReport_goes (by decide)) tableDisable_goes (by decide)
    · exact .step .refl tableDisable_goes (by decide)

theorem execTableAudit_goes {u crc s} :
    GoesNext [.csr, .mem, .poison, .out, .freeCtr, .intc, .myk, .hostq, .sched, .skein, .memst, .pmon, .hlth, .bed, .stch,
      .ciph, .xport, .fab, .time, .grp, .pho, .boot, .line] s (execTableAudit u crc s) := by
  unfold execTableAudit
  refine .ite ?_ ?_
  · exact .mk .refl
  · exact .mk (.step .refl tableResend_goes (by decide))

theorem nameRetained_goes {s x} : Goes [.csr, .mem, .poison, .out, .freeCtr, .intc, .myk, .hlth] s (State.nameRetained s x) := by
  unfold State.nameRetained
  refine .foldl ?_ (fun x1 y2 h3 => ?_)
  · exact .refl
  · refine .step ?_ health_goes (by decide)
    with_reducible assumption

theorem toPhase_goes {s p} : Goes [.csr] s (State.toPhase s p) := by
  unfold State.toPhase
  exact .step .refl set_goes (by decide)

theorem castHalt_goes {s} : Goes [.csr, .mem, .poison, .out, .freeCtr, .intc, .myk, .hlth] s (State.castHalt s) := by
  unfold State.castHalt
  exact .step (.step (.step .refl health_goes (by decide)) toPhase_goes (by decide)) moduleFault_goes (by decide)

theorem takeBundle_goes {s o} : Goes [.csr, .boot] s (State.takeBundle s o) := by
  unfold State.takeBundle
  extract_lets v1
  clear_value v1
  exact .step (.boot .refl (by decide)) extend_goes (by decide)

theorem castRecord_goes {s reason} :
    Goes [.csr, .mem, .poison, .out, .freeCtr, .intc, .myk, .hlth] s (State.castRecord s reason) := by
  unfold State.castRecord
  exact .step (.step .refl report_goes (by decide)) health_goes (by decide)

theorem secureRest_goes {s x fw} :
    Goes [.csr, .mem, .poison, .out, .freeCtr, .intc, .myk, .hlth, .ciph, .boot, .keep] s (State.secureRest s x fw) := by
  unfold State.secureRest
  extract_lets v1 v2 v3 v4 v5 v6 v7 v8 v9 v10 v11 v12 v13 v14 v15 v16
  clear_value v1
  have h17 : Goes [.csr, .mem, .poison, .out, .freeCtr, .intc, .myk, .hlth, .ciph, .boot, .keep] s v2
  · unfold v2
    split
    · rename_i n18 n19
      exact .refl
    · rename_i n20 n21 n22 n23
      exact .step (.ciph .refl (by decide)) set_goes (by decide)
  clear_value v2 v3 v4
  have h24 : Goes [.csr, .mem, .poison, .out, .freeCtr, .intc, .myk, .hlth, .ciph, .boot, .keep] s v6
  · unfold v6
    refine .keep ?_ (by decide) (by first | exact putSlot_floors | exact ⟨Nat.le_refl _, Nat.le_refl _⟩)
    with_reducible assumption
  clear_value v6
  have h25 : Goes [.csr, .mem, .poison, .out, .freeCtr, .intc, .myk, .hlth, .ciph, .boot, .keep] s v7
  · unfold v7
    refine .step ?_ extend_goes (by decide)
    with_reducible assumption
  clear_value v7 v8
  have h26 : Goes [.csr, .mem, .poison, .out, .freeCtr, .intc, .myk, .hlth, .ciph, .boot, .keep] s v9
  · unfold v9
    split
    · rename_i n27 n28
      with_reducible assumption
    · rename_i n29 n30 n31 n32
      refine .step (.step (.boot ?_ (by decide)) set_goes (by decide)) extend_goes (by decide)
      with_reducible assumption
  clear_value v9
  have h33 : Goes [.csr, .mem, .poison, .out, .freeCtr, .intc, .myk, .hlth, .ciph, .boot, .keep] s v11
  · unfold v11
    split
    · rename_i n34 n35
      with_reducible assumption
    · rename_i n36 n37 n38 n39
      refine .step (.ite ?_ ?_) takeBundle_goes (by decide)
      · with_reducible assumption
      · refine .step ?_ castRecord_goes (by decide)
        with_reducible assumption
  clear_value v11
  have h40 : Goes [.csr, .mem, .poison, .out, .freeCtr, .intc, .myk, .hlth, .ciph, .boot, .keep] s v12
  · unfold v12
    refine .step (.step ?_ extend_goes (by decide)) extend_goes (by decide)
    with_reducible assumption
  clear_value v12 v13
  have h41 : GoesSnd [.csr, .mem, .poison, .out, .freeCtr, .intc, .myk, .hlth, .ciph, .boot, .keep] s v14
  · unfold v14
    refine .step (.snd (.step ?_ fresh_goes (by decide))) fresh_goes (by decide)
    with_reducible assumption
  clear_value v14
  have h42 : Goes [.csr, .mem, .poison, .out, .freeCtr, .intc, .myk, .hlth, .ciph, .boot, .keep] s v15
  · unfold v15
    refine .snd ?_
    with_reducible assumption
  clear_value v15 v16
  refine .ciph ?_ (by decide)
  with_reducible assumption

theorem clearExport_goes {s} : Goes [.csr] s (State.clearExport s) := by
  unfold State.clearExport
  split
  · rename_i n1 n2
    exact .refl
  · rename_i n3 n4 n5
    exact .step .refl set_goes (by decide)

theorem holdControls_goes {s} : Goes [.csr] s (State.holdControls s) := by
  unfold State.holdControls
  extract_lets v1
  refine .step ?_ clearExport_goes (by decide)
  unfold v1
  refine .ite ?_ ?_
  · refine .ite ?_ ?_
    · refine .ite ?_ ?_
      · exact .refl
      · exact .step .refl set_goes (by decide)
    · refine .step (.ite ?_ ?_) set_goes (by decide)
      · exact .refl
      · exact .step .refl set_goes (by decide)
  · refine .step (.ite ?_ ?_) set_goes (by decide)
    · refine .ite ?_ ?_
      · exact .refl
      · exact .step .refl set_goes (by decide)
    · refine .step (.ite ?_ ?_) set_goes (by decide)
      · exact .refl
      · exact .step .refl set_goes (by decide)

theorem setCompat_goes {s c} : Goes [.csr, .out, .boot] s (State.setCompat s c) := by
  unfold State.setCompat
  extract_lets v1 v2 v3 v4
  clear_value v1
  have h5 : Goes [.csr, .out, .boot] s v2
  · unfold v2
    exact .boot .refl (by decide)
  clear_value v2 v3
  have h6 : Goes [.csr, .out, .boot] s v4
  · unfold v4
    refine .step (.step (.step ?_ set_goes (by decide)) set_goes (by decide)) set_goes (by decide)
    with_reducible assumption
  clear_value v4
  refine .step (.ite ?_ ?_) holdControls_goes (by decide)
  · with_reducible assumption
  · refine .step ?_ report_goes (by decide)
    with_reducible assumption

theorem execCompatDone_goes {s} : GoesNext [.csr, .out, .boot] s (execCompatDone s) := by
  unfold execCompatDone
  extract_lets v1
  have h2 : Goes [.csr, .out, .boot] s v1
  · unfold v1
    exact .step .refl setCompat_goes (by decide)
  clear_value v1
  refine .ite ?_ ?_
  · exact .mk .refl
  · refine .ite ?_ ?_
    · refine .mk (.step (.step ?_ report_goes (by decide)) toPhase_goes (by decide))
      with_reducible assumption
    · refine .mk (.step ?_ toPhase_goes (by decide))
      with_reducible assumption

theorem pickFirmware_goes {s b floor refused} :
    GoesSnd [.csr, .mem, .poison, .out, .freeCtr, .intc, .myk, .hlth] s (State.pickFirmware s b floor refused) := by
  unfold State.pickFirmware
  extract_lets v1 v2 v3
  clear_value v2
  have h4 : Goes [.csr, .mem, .poison, .out, .freeCtr, .intc, .myk, .hlth] s v3
  · unfold v3
    split
    · rename_i n5
      exact .step .refl castRecord_goes (by decide)
    · rename_i n6 n7
      refine .ite ?_ ?_
      · exact .refl
      · exact .step .refl castRecord_goes (by decide)
  clear_value v3
  refine .mk ?_
  with_reducible assumption

theorem execRomDone_goes {f banks s} :
    GoesNext [.csr, .mem, .poison, .out, .freeCtr, .intc, .myk, .hlth, .keep] s (execRomDone f banks s) := by
  unfold execRomDone
  extract_lets v1 v2 v3 v4
  have h5 : Goes [.csr, .mem, .poison, .out, .freeCtr, .intc, .myk, .hlth, .keep] s v1
  · unfold v1
    exact .step (.step (.step .refl set_goes (by decide)) set_goes (by decide)) set_goes (by decide)
  clear_value v1 v2
  have h6 : Goes [.csr, .mem, .poison, .out, .freeCtr, .intc, .myk, .hlth, .keep] s v4
  · unfold v4
    refine .keep ?_ (by decide) (by first | exact putSlot_floors | exact ⟨Nat.le_refl _, Nat.le_refl _⟩)
    with_reducible assumption
  clear_value v4
  refine .ite ?_ ?_
  · exact .mk .refl
  · split
    · rename_i n7 n8 n9
      have h10 : Goes [.csr, .mem, .poison, .out, .freeCtr, .intc, .myk, .hlth, .keep] s n8
      · refine GoesSnd.of n9 (.step ?_ pickFirmware_goes (by decide))
        with_reducible assumption
      refine .mk (.step ?_ castHalt_goes (by decide))
      with_reducible assumption
    · rename_i n11 n12 n13 n14 n15
      have h16 : Goes [.csr, .mem, .poison, .out, .freeCtr, .intc, .myk, .hlth, .keep] s n14
      · refine GoesSnd.of n15 (.step ?_ pickFirmware_goes (by decide))
        with_reducible assumption
      extract_lets v17 v18
      have h19 : Goes [.csr, .mem, .poison, .out, .freeCtr, .intc, .myk, .hlth, .keep] s v18
      · unfold v18
        refine .step (.step ?_ extend_goes (by decide)) set_goes (by decide)
        refine .keep ?_ (by decide) (by first | exact putSlot_floors | exact ⟨Nat.le_refl _, Nat.le_refl _⟩)
        with_reducible assumption
      clear_value v18
      refine .mk (.step (.step ?_ set_goes (by decide)) toPhase_goes (by decide))
      with_reducible assumption

theorem resumeSlot_goes {s id k x} : GoesSnd [.ciph] s (State.resumeSlot s id k x) := by
  unfold State.resumeSlot
  extract_lets v1
  clear_value v1
  refine .ite ?_ ?_
  · exact .mk (.step .refl ledgerInstall_goes (by decide))
  · exact .mk .refl

theorem restoreCtx_goes {s x} : Goes [.csr, .mem, .poison, .ciph] s (State.restoreCtx s x) := by
  unfold State.restoreCtx
  split
  · rename_i n1 n2
    exact .refl
  · rename_i n3 n4 n5 n6
    extract_lets v7 v8
    have h9 : GoesSnd [.csr, .mem, .poison, .ciph] s v7
    · unfold v7
      exact .step .refl resumeSlot_goes (by decide)
    clear_value v7
    have h10 : GoesSnd [.csr, .mem, .poison, .ciph] s v8
    · unfold v8
      refine .step (.snd ?_) resumeSlot_goes (by decide)
      with_reducible assumption
    clear_value v8
    refine .ite ?_ ?_
    · exact .step .refl putCtx_goes (by decide)
    · refine .step (.snd ?_) putCtx_goes (by decide)
      with_reducible assumption

theorem putImageRegs_goes {s x} : Goes [.csr] s (State.putImageRegs s x) := by
  unfold State.putImageRegs
  refine .foldl ?_ (fun x1 y2 h3 => ?_)
  · exact .refl
  · split
    · rename_i n4 n5
      with_reducible assumption
    · rename_i n6 n7 n8
      refine .step ?_ wrReg_goes (by decide)
      with_reducible assumption

theorem applyImage_goes {s x} :
    Goes [.csr, .mem, .poison, .out, .freeCtr, .intc, .myk, .hostq, .hlth, .ciph, .xport] s (State.applyImage s x) := by
  unfold State.applyImage
  extract_lets v1 v2 v3 v4 v5 v6 v7 v8 v9 v10
  have h11 : Goes [.csr, .mem, .poison, .out, .freeCtr, .intc, .myk, .hostq, .hlth, .ciph, .xport] s v1
  · unfold v1
    exact .step .refl putImageRegs_goes (by decide)
  clear_value v1 v2
  have h12 : Goes [.csr, .mem, .poison, .out, .freeCtr, .intc, .myk, .hostq, .hlth, .ciph, .xport] s v3
  · unfold v3
    refine .ciph ?_ (by decide)
    with_reducible assumption
  clear_value v3
  have h13 : Goes [.csr, .mem, .poison, .out, .freeCtr, .intc, .myk, .hostq, .hlth, .ciph, .xport] s v4
  · unfold v4
    refine .step (.foldl ?_ (fun x14 y15 h16 => ?_)) wrReg_goes (by decide)
    · with_reducible assumption
    · refine .step ?_ restoreCtx_goes (by decide)
      with_reducible assumption
  clear_value v4 v5 v6 v7 v8
  have h17 : Goes [.csr, .mem, .poison, .out, .freeCtr, .intc, .myk, .hostq, .hlth, .ciph, .xport] s v9
  · unfold v9
    refine .plain (s := v4) ?_ (by rfl) (by rfl) (by rfl) (by rfl) (by rfl) id (fun p hp => by cases p <;> first | rfl | cases hp)
    with_reducible assumption
  clear_value v9
  have h18 : Goes [.csr, .mem, .poison, .out, .freeCtr, .intc, .myk, .hostq, .hlth, .ciph, .xport] s v10
  · unfold v10
    refine .step ?_ set_goes (by decide)
    with_reducible assumption
  clear_value v10
  refine .step (.foldl ?_ (fun x19 y20 h21 => ?_)) nameRetained_goes (by decide)
  · with_reducible assumption
  · refine .step ?_ jobStateLost_goes (by decide)
    with_reducible assumption

theorem restoreRun_goes {s bad} :
    Goes [.csr, .mem, .poison, .out, .freeCtr, .intc, .myk, .hostq, .hlth, .ciph, .xport, .boot] s (State.restoreRun s bad) := by
  unfold State.restoreRun
  split
  · rename_i n1 n2
    exact .refl
  · rename_i n3 n4 n5
    refine .ite ?_ ?_
    · exact .step .refl hlthReport_goes (by decide)
    · split
      · rename_i n6 n7
        exact .refl
      · rename_i n8 n9 n10
        extract_lets v11 v12 v13
        have h14 : Goes [.csr, .mem, .poison, .out, .freeCtr, .intc, .myk, .hostq, .hlth, .ciph, .xport, .boot] s v11
        · unfold v11
          exact .step .refl applyImage_goes (by decide)
        clear_value v11 v12
        have h15 : Goes [.csr, .mem, .poison, .out, .freeCtr, .intc, .myk, .hostq, .hlth, .ciph, .xport, .boot] s v13
        · unfold v13
          refine .boot ?_ (by decide)
          with_reducible assumption
        clear_value v13
        refine .step (.step ?_ hlthReport_goes (by decide)) hlthReport_goes (by decide)
        with_reducible assumption

theorem bindReport_goes {s} : Goes [.csr, .mem, .poison, .out, .freeCtr, .intc, .myk, .hlth, .keep] s (State.bindReport s) := by
  unfold State.bindReport
  extract_lets v1 v2
  clear_value v1
  refine .ite ?_ ?_
  · exact .refl
  · refine .step (.step ?_ hlthReport_goes (by decide)) health_goes (by decide)
    refine .keep ?_ (by decide) (by first | exact putSlot_floors | exact ⟨Nat.le_refl _, Nat.le_refl _⟩)
    exact .refl

theorem tablesMeasured_goes {s} : Goes [.csr] s (State.tablesMeasured s) := by
  unfold State.tablesMeasured
  split
  · rename_i n1 n2
    exact .refl
  · rename_i n3 n4 n5
    exact .step .refl extend_goes (by decide)

theorem putSetting_goes {s x} :
    GoesSnd [.csr, .mem, .poison, .out, .freeCtr, .timeFrac, .intc, .myk, .hostq, .sched, .pmon, .hlth, .bed, .stch, .ciph,
      .xport, .fab, .time, .grp, .pho, .boot, .ctl, .keep, .line] s (State.putSetting s x) := by
  unfold State.putSetting
  extract_lets v1 v2 v3
  clear_value v1 v2
  have h4 : GoesWr [.csr, .mem, .poison, .out, .freeCtr, .timeFrac, .intc, .myk, .hostq, .sched, .pmon, .hlth, .bed, .stch,
        .ciph, .xport, .fab, .time, .grp, .pho, .boot, .ctl, .keep, .line] s v3
  · unfold v3
    exact .step .refl (writeAt_goes .refl) (by decide)
  clear_value v3
  refine .mk (.ite ?_ ?_)
  · refine .step (.wr ?_) csrViolation_goes (by decide)
    with_reducible assumption
  · refine .wr ?_
    with_reducible assumption

theorem putSettings_goes {s} :
    Goes [.csr, .mem, .poison, .out, .freeCtr, .timeFrac, .intc, .myk, .hostq, .sched, .pmon, .hlth, .bed, .stch, .ciph,
      .xport, .fab, .time, .grp, .pho, .boot, .ctl, .keep, .line] s (State.putSettings s) := by
  unfold State.putSettings
  extract_lets v1
  have h2 : GoesSnd [.csr, .mem, .poison, .out, .freeCtr, .timeFrac, .intc, .myk, .hostq, .sched, .pmon, .hlth, .bed, .stch,
        .ciph, .xport, .fab, .time, .grp, .pho, .boot, .ctl, .keep, .line] s v1
  · unfold v1
    refine .foldl ?_ (fun x3 y4 h5 => ?_)
    · exact .mk .refl
    · extract_lets v6
      have h7 : GoesSnd [.csr, .mem, .poison, .out, .freeCtr, .timeFrac, .intc, .myk, .hostq, .sched, .pmon, .hlth, .bed,
            .stch, .ciph, .xport, .fab, .time, .grp, .pho, .boot, .ctl, .keep, .line] s v6
      · unfold v6
        refine .step (.snd ?_) putSetting_goes (by decide)
        with_reducible assumption
      clear_value v6
      refine .mk (.snd ?_)
      with_reducible assumption
  clear_value v1
  refine .ite ?_ ?_
  · refine .step (.snd ?_) castRecord_goes (by decide)
    with_reducible assumption
  · refine .snd ?_
    with_reducible assumption

theorem castNext_goes {s} : Goes [.csr, .out, .intc, .time, .boot, .ctl] s (State.castNext s) := by
  unfold State.castNext
  extract_lets v1
  clear_value v1
  refine .ite ?_ ?_
  · split
    · rename_i n2 n3
      exact .refl
    · rename_i n4 n5 n6 n7
      exact .step (.boot .refl (by decide)) blockEnableWrite_goes (by decide)
  · exact .refl

theorem stageBegin_goes {s n} : Goes [.csr, .out, .intc, .time, .boot, .ctl] s (State.stageBegin s n) := by
  unfold State.stageBegin
  extract_lets v1 v2 v3 v4 v5
  clear_value v1
  have h6 : Goes [.csr, .out, .intc, .time, .boot, .ctl] s v2
  · unfold v2
    exact .boot .refl (by decide)
  clear_value v2
  have h7 : Goes [.csr, .out, .intc, .time, .boot, .ctl] s v3
  · unfold v3
    split
    · rename_i n8 n9 n10 n11
      extract_lets v12
      clear_value v12
      refine .step (.step (.step ?_ extend_goes (by decide)) extend_goes (by decide)) extend_goes (by decide)
      with_reducible assumption
    · rename_i n13 n14 n15 n16
      with_reducible assumption
  clear_value v3 v4 v5
  refine .ite ?_ ?_
  · refine .step (.boot ?_ (by decide)) castNext_goes (by decide)
    with_reducible assumption
  · refine .foldl ?_ (fun x17 y18 h19 => ?_)
    · with_reducible assumption
    · refine .step ?_ blockEnableWrite_goes (by decide)
      with_reducible assumption

theorem enginesBegin_goes {s} :
    Goes [.csr, .mem, .poison, .out, .freeCtr, .timeFrac, .intc, .myk, .hostq, .sched, .pmon, .hlth, .bed, .stch, .ciph,
      .xport, .fab, .time, .grp, .pho, .boot, .ctl, .keep, .line] s (State.enginesBegin s) := by
  unfold State.enginesBegin
  extract_lets v1 v2
  have h3 : Goes [.csr, .mem, .poison, .out, .freeCtr, .timeFrac, .intc, .myk, .hostq, .sched, .pmon, .hlth, .bed, .stch,
        .ciph, .xport, .fab, .time, .grp, .pho, .boot, .ctl, .keep, .line] s v1
  · unfold v1
    exact .step (.step .refl toPhase_goes (by decide)) putSettings_goes (by decide)
  clear_value v1 v2
  refine .step (.boot ?_ (by decide)) stageBegin_goes (by decide)
  with_reducible assumption

theorem tablesEnd_goes {s} :
    Goes [.csr, .mem, .poison, .out, .freeCtr, .timeFrac, .intc, .myk, .hostq, .sched, .pmon, .hlth, .bed, .stch, .ciph,
      .xport, .fab, .time, .grp, .pho, .boot, .ctl, .keep, .line] s (State.tablesEnd s) := by
  unfold State.tablesEnd
  extract_lets v1
  have h2 : Goes [.csr, .mem, .poison, .out, .freeCtr, .timeFrac, .intc, .myk, .hostq, .sched, .pmon, .hlth, .bed, .stch,
        .ciph, .xport, .fab, .time, .grp, .pho, .boot, .ctl, .keep, .line] s v1
  · unfold v1
    exact .step (.step .refl tablesMeasured_goes (by decide)) bindReport_goes (by decide)
  clear_value v1
  refine .ite ?_ ?_
  · refine .step ?_ toPhase_goes (by decide)
    with_reducible assumption
  · refine .step ?_ enginesBegin_goes (by decide)
    with_reducible assumption

theorem castFail_goes {s reason} :
    Goes [.csr, .mem, .poison, .out, .freeCtr, .intc, .myk, .pmon, .hlth, .fab, .time, .grp, .ctl, .keep,
      .line] s (State.castFail s reason) := by
  unfold State.castFail
  extract_lets v1 v2 v3 v4 v5 v6 v7
  clear_value v1
  have h8 : Goes [.csr, .mem, .poison, .out, .freeCtr, .intc, .myk, .pmon, .hlth, .fab, .time, .grp, .ctl, .keep, .line] s v3
  · unfold v3
    refine .ite ?_ ?_
    · refine .keep ?_ (by decide) (by first | exact putSlot_floors | exact ⟨Nat.le_refl _, Nat.le_refl _⟩)
      exact .refl
    · exact .refl
  clear_value v3
  have h9 : Goes [.csr, .mem, .poison, .out, .freeCtr, .intc, .myk, .pmon, .hlth, .fab, .time, .grp, .ctl, .keep, .line] s v4
  · unfold v4
    refine .step (.step ?_ health_goes (by decide)) toPhase_goes (by decide)
    with_reducible assumption
  clear_value v4 v5
  have h10 : Goes [.csr, .mem, .poison, .out, .freeCtr, .intc, .myk, .pmon, .hlth, .fab, .time, .grp, .ctl, .keep, .line] s v6
  · unfold v6
    refine .ctl ?_ (by decide)
    with_reducible assumption
  clear_value v6 v7
  refine .step (.foldl ?_ (fun x11 y12 h13 => ?_)) handOver_goes (by decide)
  · with_reducible assumption
  · refine .step ?_ blockOff_goes (by decide)
    with_reducible assumption

theorem execMemtestDone_goes {x s} :
    GoesNext [.csr, .mem, .poison, .out, .freeCtr, .intc, .myk, .pmon, .hlth, .fab, .time, .grp, .boot, .ctl, .keep,
      .line] s (execMemtestDone x s) := by
  unfold execMemtestDone
  extract_lets v1 v2 v3 v4 v5
  have h6 : Goes [.csr, .mem, .poison, .out, .freeCtr, .intc, .myk, .pmon, .hlth, .fab, .time, .grp, .boot, .ctl, .keep, .line] s v1
  · unfold v1
    refine .ite ?_ ?_
    · exact .step .refl report_goes (by decide)
    · exact .refl
  clear_value v1
  have h7 : Goes [.csr, .mem, .poison, .out, .freeCtr, .intc, .myk, .pmon, .hlth, .fab, .time, .grp, .boot, .ctl, .keep, .line] s v2
  · unfold v2
    refine .foldl ?_ (fun x8 y9 h10 => ?_)
    · with_reducible assumption
    · refine .step (.step ?_ set_goes (by decide)) report_goes (by decide)
      with_reducible assumption
  clear_value v2 v5
  refine .ite ?_ ?_
  · exact .mk .refl
  · split
    · rename_i n11 n12 n13 n14
      refine .mk (.step (.step ?_ set_goes (by decide)) castFail_goes (by decide))
      with_reducible assumption
    · rename_i n15 n16 n17 n18 n19
      refine .mk (.step (.step ?_ set_goes (by decide)) castFail_goes (by decide))
      with_reducible assumption
    · rename_i n20 n21 n22 n23
      refine .mk (.step ?_ toPhase_goes (by decide))
      refine .boot_keep ?_ (by decide) (by first | exact putSlot_floors | exact ⟨Nat.le_refl _, Nat.le_refl _⟩)
      with_reducible assumption

theorem execSramDone_goes {beyond map s} :
    GoesNext [.csr, .mem, .poison, .out, .freeCtr, .intc, .myk, .memst, .pmon, .hlth, .fab, .time, .grp, .ctl, .keep,
      .line] s (execSramDone beyond map s) := by
  unfold execSramDone
  extract_lets v1 v2
  clear_value v1
  have h3 : Goes [.csr, .mem, .poison, .out, .freeCtr, .intc, .myk, .memst, .pmon, .hlth, .fab, .time, .grp, .ctl, .keep,
        .line] s v2
  · unfold v2
    exact .step (.memst .refl (by decide)) set_goes (by decide)
  clear_value v2
  refine .ite ?_ ?_
  · exact .mk .refl
  · refine .ite ?_ ?_
    · exact .mk (.step .refl castFail_goes (by decide))
    · refine .mk (.step (.step (.step (.snd ?_) set_goes (by decide)) extend_goes (by decide)) toPhase_goes (by decide))
      refine .step ?_ fresh_goes (by decide)
      with_reducible assumption

theorem execSecureDone_goes {x s} :
    GoesNext [.csr, .mem, .poison, .out, .freeCtr, .intc, .myk, .hlth, .ciph, .boot, .keep] s (execSecureDone x s) := by
  unfold execSecureDone
  extract_lets v1 v2 v3
  clear_value v1
  have h4 : Goes [.csr, .mem, .poison, .out, .freeCtr, .intc, .myk, .hlth, .ciph, .boot, .keep] s v3
  · unfold v3
    refine .keep ?_ (by decide) (by first | exact putSlot_floors | exact ⟨Nat.le_refl _, Nat.le_refl _⟩)
    exact .refl
  clear_value v3
  refine .ite ?_ ?_
  · exact .mk .refl
  · split
    · rename_i n5 n6 n7
      have h8 : Goes [.csr, .mem, .poison, .out, .freeCtr, .intc, .myk, .hlth, .ciph, .boot, .keep] s n6
      · refine GoesSnd.of n7 (.step ?_ pickFirmware_goes (by decide))
        with_reducible assumption
      refine .mk (.step ?_ castHalt_goes (by decide))
      with_reducible assumption
    · rename_i n9 n10 n11 n12 n13
      have h14 : Goes [.csr, .mem, .poison, .out, .freeCtr, .intc, .myk, .hlth, .ciph, .boot, .keep] s n12
      · refine GoesSnd.of n13 (.step ?_ pickFirmware_goes (by decide))
        with_reducible assumption
      extract_lets v15 v16
      have h17 : Goes [.csr, .mem, .poison, .out, .freeCtr, .intc, .myk, .hlth, .ciph, .boot, .keep] s v16
      · unfold v16
        refine .step ?_ set_goes (by decide)
        refine .keep ?_ (by decide) (by first | exact putSlot_floors | exact ⟨Nat.le_refl _, Nat.le_refl _⟩)
        with_reducible assumption
      clear_value v16
      refine .mk (.step (.step (.step ?_ secureRest_goes (by decide)) set_goes (by decide)) toPhase_goes (by decide))
      with_reducible assumption

theorem execBundleStaged_goes {o s} : GoesNext [.csr, .out, .boot] s (execBundleStaged o s) := by
  unfold execBundleStaged
  refine .ite ?_ ?_
  · exact .mk .refl
  · refine .ite ?_ ?_
    · exact .mk (.step (.step (.step .refl takeBundle_goes (by decide)) clearExport_goes (by decide)) toPhase_goes (by decide))
    · exact .mk (.step .refl report_goes (by decide))

theorem castReady_goes {s : State} : Goes [.csr, .mem, .poison, .out, .intc, .myk, .ciph, .keep] s s.castReady := by
  unfold State.castReady
  extract_lets a k k2 b c
  have ha : Goes [.csr, .mem, .poison, .out, .intc, .myk, .ciph, .keep] s a := .step .refl toPhase_goes (by decide)
  clear_value a
  have hk : a.keep.floorSec ≤ k.floorSec ∧ a.keep.floorMgmt ≤ k.floorMgmt := by
    unfold k
    split
    · exact ⟨Nat.le_refl _, Nat.le_refl _⟩
    · exact putSlot_floors
  clear_value k
  have hk2 : a.keep.floorSec ≤ k2.floorSec ∧ a.keep.floorMgmt ≤ k2.floorMgmt := by
    unfold k2
    split
    · exact hk
    · exact ⟨hk.1.trans (Nat.le_max_left _ _), hk.2.trans (Nat.le_max_left _ _)⟩
  clear_value k2
  refine .foldl ?_ (fun x y h => .step h sendCert_goes (by decide))
  exact .step (.step (.keep ha (by decide) hk2) csUpdate_goes (by decide)) report_goes (by decide)

theorem execTableConfirm_goes {u crc s} :
    GoesNext [.csr, .mem, .poison, .out, .freeCtr, .intc, .myk, .hostq, .sched, .skein, .memst, .pmon, .hlth, .bed, .stch,
      .ciph, .xport, .fab, .time, .grp, .pho, .boot, .line] s (execTableConfirm u crc s) := by
  unfold execTableConfirm
  extract_lets v1 v2 v3
  clear_value v1 v2
  have h4 : Goes [.csr, .mem, .poison, .out, .freeCtr, .intc, .myk, .hostq, .sched, .skein, .memst, .pmon, .hlth, .bed, .stch,
        .ciph, .xport, .fab, .time, .grp, .pho, .boot, .line] s v3
  · unfold v3
    exact .boot .refl (by decide)
  clear_value v3
  refine .ite ?_ ?_
  · exact .mk .refl
  · refine .ite ?_ ?_
    · refine .mk (.ite ?_ ?_)
      · refine .step ?_ report_goes (by decide)
        with_reducible assumption
      · with_reducible assumption
    · exact .mk (.step .refl tableResend_goes (by decide))

theorem execTableConfirmTimeout_goes {u s} :
    GoesNext [.csr, .mem, .poison, .out, .freeCtr, .intc, .myk, .hostq, .sched, .skein, .memst, .pmon, .hlth, .bed, .stch,
      .ciph, .xport, .fab, .time, .grp, .pho, .boot, .line] s (execTableConfirmTimeout u s) := by
  unfold execTableConfirmTimeout
  refine .ite ?_ ?_
  · exact .mk .refl
  · exact .mk (.step .refl tableResend_goes (by decide))

theorem execConfigCheckEnd_goes {b fails s} :
    GoesNext [.csr, .mem, .poison, .out, .freeCtr, .intc, .myk, .sched, .skein, .pmon, .hlth, .xport, .time, .boot, .ctl,
      .line] s (execConfigCheckEnd b fails s) := by
  unfold execConfigCheckEnd
  exact .mk (.step (.step .refl checkEnd_goes (by decide)) castNext_goes (by decide))

theorem execRestorePhase_goes {bad0 bad1 s} :
    GoesNext [.csr, .mem, .poison, .out, .freeCtr, .timeFrac, .intc, .myk, .hostq, .sched, .pmon, .hlth, .bed, .stch, .ciph,
      .xport, .fab, .time, .grp, .pho, .boot, .ctl, .keep, .line] s (execRestorePhase bad0 bad1 s) := by
  unfold execRestorePhase
  refine .ite ?_ ?_
  · exact .mk .refl
  · exact .mk (.step (.step .refl restoreRun_goes (by decide)) enginesBegin_goes (by decide))

theorem execEnginesStageDone_goes {s} :
    GoesNext [.csr, .mem, .poison, .out, .freeCtr, .intc, .myk, .pmon, .hlth, .ciph, .fab, .time, .grp, .boot, .ctl, .keep,
      .line] s (execEnginesStageDone s) := by
  unfold execEnginesStageDone
  refine .ite ?_ ?_
  · exact .mk .refl
  · refine .ite ?_ ?_
    · exact .mk (.step .refl castFail_goes (by decide))
    · refine .ite ?_ ?_
      · exact .mk (.step .refl stageBegin_goes (by decide))
      · exact .mk (.step .refl castReady_goes (by decide))

theorem execMemtrainDone_goes {x s} :
    GoesNext [.csr, .mem, .poison, .out, .freeCtr, .intc, .myk, .memst, .pmon, .hlth, .fab, .time, .grp, .boot, .ctl, .keep,
      .line] s (execMemtrainDone x s) := by
  unfold execMemtrainDone
  extract_lets v1 v2 v3 v4 v5 v6 v7 v8 v9
  clear_value v1 v2 v3 v4
  have h10 : Goes [.csr, .mem, .poison, .out, .freeCtr, .intc, .myk, .memst, .pmon, .hlth, .fab, .time, .grp, .boot, .ctl,
        .keep, .line] s v5
  · unfold v5
    refine .ite ?_ ?_
    · exact .step .refl report_goes (by decide)
    · exact .refl
  clear_value v5
  have h11 : Goes [.csr, .mem, .poison, .out, .freeCtr, .intc, .myk, .memst, .pmon, .hlth, .fab, .time, .grp, .boot, .ctl,
        .keep, .line] s v6
  · unfold v6
    refine .ite ?_ ?_
    · with_reducible assumption
    · refine .foldl ?_ (fun x12 y13 h14 => ?_)
      · with_reducible assumption
      · refine .step ?_ report_goes (by decide)
        with_reducible assumption
  clear_value v6 v7 v8
  have h15 : Goes [.csr, .mem, .poison, .out, .freeCtr, .intc, .myk, .memst, .pmon, .hlth, .fab, .time, .grp, .boot, .ctl,
        .keep, .line] s v9
  · unfold v9
    refine .step (.boot_memst ?_ (by decide)) set_goes (by decide)
    with_reducible assumption
  clear_value v9
  refine .ite ?_ ?_
  · exact .mk .refl
  · split
    · rename_i n16 n17 n18
      refine .mk (.step (.step (.step ?_ set_goes (by decide)) set_goes (by decide)) castFail_goes (by decide))
      with_reducible assumption
    · rename_i n19 n20
      refine .mk (.step (.foldl ?_ (fun x21 y22 h23 => ?_)) toPhase_goes (by decide))
      · with_reducible assumption
      · refine .step ?_ set_goes (by decide)
        with_reducible assumption

theorem execCastPhaseTimeout_goes {s} :
    GoesNext [.csr, .mem, .poison, .out, .freeCtr, .intc, .myk, .pmon, .hlth, .fab, .time, .grp, .ctl, .keep,
      .line] s (execCastPhaseTimeout s) := by
  unfold execCastPhaseTimeout
  refine .ite ?_ ?_
  · exact .mk (.step .refl castFail_goes (by decide))
  · exact .mk .refl

/-! ## Cores -/

theorem execOldSlotRetire_goes {e peer s} :
    GoesNext [.csr, .mem, .poison, .out, .intc, .myk, .ciph, .ctl] s (execOldSlotRetire e peer s) := by
  unfold execOldSlotRetire
  unfold State.secDecides
  extract_lets v1
  clear_value v1
  refine .ite ?_ ?_
  · exact .mk (.ctl .refl (by decide))
  · exact .step .refl runOldSlotRetire_goes (by decide)

theorem execKeymailAccept_goes {env s} :
    GoesNext [.csr, .mem, .poison, .out, .freeCtr, .intc, .myk, .ciph, .ctl] s (execKeymailAccept env s) := by
  unfold execKeymailAccept
  unfold State.secDecides
  extract_lets v1
  clear_value v1
  refine .ite ?_ ?_
  · exact .mk (.ctl .refl (by decide))
  · exact .step .refl runKeymailAccept_goes (by decide)

theorem execReplan_goes {p s} :
    GoesNext [.csr, .mem, .poison, .out, .freeCtr, .intc, .myk, .hlth, .ctl, .keep] s (execReplan p s) := by
  unfold execReplan
  unfold State.mgmtDecides
  extract_lets v1
  clear_value v1
  refine .ite ?_ ?_
  · exact .mk (.ctl .refl (by decide))
  · exact .step .refl runReplan_goes (by decide)

theorem execKeymailOffer_goes {env s} :
    GoesNext [.csr, .mem, .poison, .out, .freeCtr, .intc, .myk, .ciph, .ctl] s (execKeymailOffer env s) := by
  unfold execKeymailOffer
  unfold State.secDecides
  extract_lets v1
  clear_value v1
  refine .ite ?_ ?_
  · exact .mk (.ctl .refl (by decide))
  · exact .step .refl runKeymailOffer_goes (by decide)

theorem execStragglerSwap_goes {s} :
    GoesNext [.csr, .mem, .poison, .out, .freeCtr, .intc, .myk, .pmon, .ciph, .xport, .fab, .grp, .ctl,
      .line] s (execStragglerSwap s) := by
  unfold execStragglerSwap
  unfold State.mgmtDecides
  extract_lets v1
  clear_value v1
  refine .ite ?_ ?_
  · exact .mk (.ctl .refl (by decide))
  · beta_reduce
    exact .mk (.step .refl stragglerSwap_goes (by decide))

theorem runDecision_goes {i s} :
    GoesNext [.csr, .mem, .poison, .out, .freeCtr, .intc, .myk, .hostq, .pmon, .hlth, .ciph, .xport, .fab, .grp, .keep,
      .line] s (runDecision i s) := by
  unfold runDecision
  split
  · rename_i n1 n2 n3
    exact .step .refl runRekeyInterval_goes (by decide)
  · rename_i n4 n5 n6
    exact .step .refl runRekeyTimeout_goes (by decide)
  · rename_i n7 n8 n9
    exact .step .refl runRekeyRetry_goes (by decide)
  · rename_i n10 n11 n12
    exact .step .refl runConfirmResend_goes (by decide)
  · rename_i n13 n14 n15
    exact .step .refl runOldSlotRetire_goes (by decide)
  · rename_i n16 n17
    exact .step .refl runKeymailOffer_goes (by decide)
  · rename_i n18 n19
    exact .step .refl runKeymailAccept_goes (by decide)
  · rename_i n20 n21
    exact .step .refl runKeymailConfirm_goes (by decide)
  · rename_i n22 n23
    exact .step .refl runKeymailRetire_goes (by decide)
  · rename_i n24 n25
    exact .step .refl runKeymailAbort_goes (by decide)
  · rename_i n26 n27
    exact .step .refl runKeymailCert_goes (by decide)
  · rename_i n28 n29
    exact .step .refl runQuote_goes (by decide)
  · rename_i n30 n31
    exact .step .refl runReplan_goes (by decide)
  · rename_i n32
    exact .mk (.step .refl stragglerSwap_goes (by decide))
  · rename_i n33 n34 n35 n36 n37 n38 n39 n40 n41 n42 n43 n44 n45 n46 n47
    exact .mk .refl

theorem takeWaiting_goes {s sec} :
    Goes [.csr, .mem, .poison, .out, .freeCtr, .intc, .myk, .hostq, .pmon, .hlth, .ciph, .xport, .fab, .grp, .ctl, .keep,
      .line] s (State.takeWaiting s sec) := by
  unfold State.takeWaiting
  extract_lets v1 v2 v3
  clear_value v1 v2
  have h4 : Goes [.csr, .mem, .poison, .out, .freeCtr, .intc, .myk, .hostq, .pmon, .hlth, .ciph, .xport, .fab, .grp, .ctl,
        .keep, .line] s v3
  · unfold v3
    exact .ctl .refl (by decide)
  clear_value v3
  refine .foldl ?_ (fun x5 y6 h7 => ?_)
  · with_reducible assumption
  · split
    · rename_i n8 n9 n10
      have h11 : Goes [.csr, .mem, .poison, .out, .freeCtr, .intc, .myk, .hostq, .pmon, .hlth, .ciph, .xport, .fab, .grp, .ctl,
            .keep, .line] s n9
      · refine GoesNext.of n10 (.step ?_ runDecision_goes (by decide))
        with_reducible assumption
      with_reducible assumption
    · rename_i n12 n13
      with_reducible assumption

theorem execRekeyRetry_goes {e peer s} :
    GoesNext [.csr, .mem, .poison, .out, .freeCtr, .intc, .myk, .ciph, .ctl] s (execRekeyRetry e peer s) := by
  unfold execRekeyRetry
  unfold State.secDecides
  extract_lets v1
  clear_value v1
  refine .ite ?_ ?_
  · exact .mk (.ctl .refl (by decide))
  · exact .step .refl runRekeyRetry_goes (by decide)

theorem execQuote_goes {w s} : GoesNext [.csr, .mem, .poison, .out, .intc, .myk, .hostq, .ciph, .ctl] s (execQuote w s) := by
  unfold execQuote
  unfold State.secDecides
  extract_lets v1
  clear_value v1
  refine .ite ?_ ?_
  · exact .mk (.ctl .refl (by decide))
  · exact .step .refl runQuote_goes (by decide)

theorem execRekeyTimeout_goes {e peer s} :
    GoesNext [.csr, .mem, .poison, .out, .intc, .ciph, .ctl] s (execRekeyTimeout e peer s) := by
  unfold execRekeyTimeout
  unfold State.secDecides
  extract_lets v1
  clear_value v1
  refine .ite ?_ ?_
  · exact .mk (.ctl .refl (by decide))
  · exact .step .refl runRekeyTimeout_goes (by decide)

theorem execConfirmResend_goes {e peer s} :
    GoesNext [.csr, .mem, .poison, .out, .intc, .myk, .ciph, .ctl] s (execConfirmResend e peer s) := by
  unfold execConfirmResend
  unfold State.secDecides
  extract_lets v1
  clear_value v1
  refine .ite ?_ ?_
  · exact .mk (.ctl .refl (by decide))
  · exact .step .refl runConfirmResend_goes (by decide)

theorem execKeymailConfirm_goes {env s} :
    GoesNext [.csr, .mem, .poison, .out, .intc, .myk, .ciph, .ctl] s (execKeymailConfirm env s) := by
  unfold execKeymailConfirm
  unfold State.secDecides
  extract_lets v1
  clear_value v1
  refine .ite ?_ ?_
  · exact .mk (.ctl .refl (by decide))
  · exact .step .refl runKeymailConfirm_goes (by decide)

theorem execWatchdogExpiry_goes {sec s} :
    GoesNext [.csr, .out, .intc, .myk, .pmon, .fab, .grp, .line] s (execWatchdogExpiry sec s) := by
  unfold execWatchdogExpiry
  extract_lets v1 v2 v3 v4 v5 v6
  clear_value v1 v2 v3 v4
  have h7 : Goes [.csr, .out, .intc, .myk, .pmon, .fab, .grp, .line] s v5
  · unfold v5
    exact .myk .refl (by decide)
  clear_value v5
  have h8 : Goes [.csr, .out, .intc, .myk, .pmon, .fab, .grp, .line] s v6
  · unfold v6
    refine .step (.step ?_ addSat_goes (by decide)) raise_goes (by decide)
    with_reducible assumption
  clear_value v6
  refine .ite ?_ ?_
  · exact .mk .refl
  · refine .ite ?_ ?_
    · refine .mk (.step (.step ?_ set_goes (by decide)) handOver_goes (by decide))
      with_reducible assumption
    · refine .mk (.step (.step ?_ set_goes (by decide)) moduleFault_goes (by decide))
      with_reducible assumption

theorem execKeymailAbort_goes {env s} :
    GoesNext [.csr, .mem, .poison, .out, .intc, .myk, .ciph, .ctl] s (execKeymailAbort env s) := by
  unfold execKeymailAbort
  unfold State.secDecides
  extract_lets v1
  clear_value v1
  refine .ite ?_ ?_
  · exact .mk (.ctl .refl (by decide))
  · exact .step .refl runKeymailAbort_goes (by decide)

theorem execKeymailRetire_goes {env s} :
    GoesNext [.csr, .mem, .poison, .out, .intc, .myk, .ciph, .ctl] s (execKeymailRetire env s) := by
  unfold execKeymailRetire
  unfold State.secDecides
  extract_lets v1
  clear_value v1
  refine .ite ?_ ?_
  · exact .mk (.ctl .refl (by decide))
  · exact .step .refl runKeymailRetire_goes (by decide)

theorem execRekeyInterval_goes {e peer s} :
    GoesNext [.csr, .mem, .poison, .out, .freeCtr, .intc, .myk, .ciph, .ctl] s (execRekeyInterval e peer s) := by
  unfold execRekeyInterval
  unfold State.secDecides
  extract_lets v1
  clear_value v1
  refine .ite ?_ ?_
  · exact .mk (.ctl .refl (by decide))
  · exact .step .refl runRekeyInterval_goes (by decide)

theorem execKeymailCert_goes {env s} : GoesNext [.csr, .out, .intc, .ciph, .ctl] s (execKeymailCert env s) := by
  unfold execKeymailCert
  unfold State.secDecides
  extract_lets v1
  clear_value v1
  refine .ite ?_ ?_
  · exact .mk (.ctl .refl (by decide))
  · exact .step .refl runKeymailCert_goes (by decide)

/-! ## Update -/

theorem updateReport_goes {s reason} :
    Goes [.csr, .mem, .poison, .out, .freeCtr, .intc, .myk, .hlth] s (State.updateReport s reason) := by
  unfold State.updateReport
  exact .step (.step (.step .refl set_goes (by decide)) hlthReport_goes (by decide)) health_goes (by decide)

theorem updateEnd_goes {s reason st} :
    Goes [.csr, .mem, .poison, .out, .freeCtr, .intc, .myk, .hlth] s (State.updateEnd s reason st) := by
  unfold State.updateEnd
  extract_lets v1 v2
  clear_value v1
  have h3 : Goes [.csr, .mem, .poison, .out, .freeCtr, .intc, .myk, .hlth] s v2
  · unfold v2
    exact .hlth .refl (by decide)
  clear_value v2
  refine .step (.step (.step ?_ set_goes (by decide)) set_goes (by decide)) updateReport_goes (by decide)
  refine .step ?_ set_goes (by decide)
  with_reducible assumption

theorem updateRun_goes {s u} : Goes [.csr, .hlth, .boot] s (State.updateRun s u) := by
  unfold State.updateRun
  extract_lets v1 v2
  clear_value v1 v2
  exact .step (.step (.step (.hlth_boot .refl (by decide)) set_goes (by decide)) set_goes (by decide)) set_goes (by decide)

theorem bundleUpdate_goes {s} :
    Goes [.csr, .mem, .poison, .out, .freeCtr, .timeFrac, .intc, .myk, .hostq, .sched, .pmon, .hlth, .bed, .stch, .ciph,
      .xport, .fab, .time, .grp, .pho, .boot, .ctl, .keep, .line] s (State.bundleUpdate s) := by
  unfold State.bundleUpdate
  split
  · rename_i n1 n2
    exact .step .refl updateEnd_goes (by decide)
  · rename_i n3 n4 n5
    extract_lets v6 v7
    have h8 : Goes [.csr, .mem, .poison, .out, .freeCtr, .timeFrac, .intc, .myk, .hostq, .sched, .pmon, .hlth, .bed, .stch,
          .ciph, .xport, .fab, .time, .grp, .pho, .boot, .ctl, .keep, .line] s v6
    · unfold v6
      exact .step .refl updateRun_goes (by decide)
    clear_value v6 v7
    refine .ite ?_ ?_
    · refine .step (.boot ?_ (by decide)) putSettings_goes (by decide)
      with_reducible assumption
    · exact .step .refl updateEnd_goes (by decide)

theorem execTablesDone_goes {s} :
    GoesNext [.csr, .mem, .poison, .out, .freeCtr, .timeFrac, .intc, .myk, .hostq, .sched, .pmon, .hlth, .bed, .stch, .ciph,
      .xport, .fab, .time, .grp, .pho, .boot, .ctl, .keep, .line] s (execTablesDone s) := by
  unfold execTablesDone
  refine .ite ?_ ?_
  · exact .mk (.step .refl tablesEnd_goes (by decide))
  · split
    · rename_i n1 n2
      exact .mk .refl
    · rename_i n3 n4 n5
      refine .ite ?_ ?_
      · refine .mk (.step (.step (.step ?_ extend_goes (by decide)) tablesMeasured_goes (by decide)) updateEnd_goes (by decide))
        exact .refl
      · exact .mk .refl

theorem execUpdateStartTimeout_goes {s} :
    GoesNext [.csr, .mem, .poison, .out, .freeCtr, .intc, .myk, .hlth] s (execUpdateStartTimeout s) := by
  unfold execUpdateStartTimeout
  split
  · rename_i n1 n2
    exact .mk .refl
  · rename_i n3 n4 n5
    refine .ite ?_ ?_
    · exact .mk .refl
    · exact .mk (.step .refl updateEnd_goes (by decide))

theorem firmwareUpdate_goes {s : State} {sec : Bool} :
    Goes [.csr, .mem, .poison, .out, .freeCtr, .intc, .myk, .hlth, .boot, .keep] s (s.firmwareUpdate sec) := by
  unfold State.firmwareUpdate
  split
  · exact .step .refl updateEnd_goes (by decide)
  · refine .ite ?_ (.step .refl updateEnd_goes (by decide))
    refine .step (.step (.keep .refl (by decide) ?_) updateRun_goes (by decide)) set_goes (by decide)
    split <;> exact ⟨Nat.le_refl _, Nat.le_refl _⟩

theorem updateGo_goes {s} :
    Goes [.csr, .mem, .poison, .out, .freeCtr, .timeFrac, .intc, .myk, .hostq, .sched, .pmon, .hlth, .bed, .stch, .ciph,
      .xport, .fab, .time, .grp, .pho, .boot, .ctl, .keep, .line] s (State.updateGo s) := by
  unfold State.updateGo
  refine .ite ?_ ?_
  · exact .refl
  · refine .ite ?_ ?_
    · exact .step .refl updateReport_goes (by decide)
    · split
      · rename_i n1 n2
        exact .step .refl firmwareUpdate_goes (by decide)
      · rename_i n3 n4
        exact .step .refl firmwareUpdate_goes (by decide)
      · rename_i n5 n6
        exact .step .refl bundleUpdate_goes (by decide)
      · rename_i n7 n8 n9 n10
        exact .refl

theorem updateWrite_goes {s m tag staged object} :
    Goes [.csr, .mem, .poison, .out, .freeCtr, .timeFrac, .intc, .myk, .hostq, .sched, .pmon, .hlth, .bed, .stch, .ciph,
      .xport, .fab, .time, .grp, .pho, .boot, .ctl, .keep, .line] s (State.updateWrite s m tag staged object) := by
  unfold State.updateWrite
  extract_lets v1
  clear_value v1
  exact .step (.boot .refl (by decide)) (csrWriteWith_goes updateGo_goes) (by decide)

theorem execFwUpdateSec_goes {m tag staged s} :
    GoesNext [.csr, .mem, .poison, .out, .freeCtr, .timeFrac, .intc, .myk, .hostq, .sched, .pmon, .hlth, .bed, .stch, .ciph,
      .xport, .fab, .time, .grp, .pho, .boot, .ctl, .keep, .line] s (execFwUpdateSec m tag staged s) := by
  unfold execFwUpdateSec
  exact .mk (.step .refl updateWrite_goes (by decide))

theorem firmwareStarted_goes {s u} :
    Goes [.csr, .mem, .poison, .out, .freeCtr, .intc, .myk, .hlth, .keep] s (State.firmwareStarted s u) := by
  unfold State.firmwareStarted
  extract_lets v1 v2
  have h3 : Goes [.csr, .mem, .poison, .out, .freeCtr, .intc, .myk, .hlth, .keep] s v2
  · unfold v2
    refine .ite ?_ ?_
    · refine .step (.step ?_ set_goes (by decide)) extend_goes (by decide)
      refine .keep ?_ (by decide) (by first | exact putSlot_floors | exact ⟨Nat.le_refl _, Nat.le_refl _⟩)
      exact .refl
    · refine .step ?_ set_goes (by decide)
      refine .keep ?_ (by decide) (by first | exact putSlot_floors | exact ⟨Nat.le_refl _, Nat.le_refl _⟩)
      exact .refl
  clear_value v2
  refine .step ?_ updateEnd_goes (by decide)
  with_reducible assumption

theorem execCsrWr_goes {m msg s} :
    GoesNext [.csr, .mem, .poison, .out, .freeCtr, .timeFrac, .intc, .myk, .hostq, .sched, .pmon, .hlth, .bed, .stch, .ciph,
      .xport, .fab, .time, .grp, .pho, .boot, .ctl, .keep, .line] s (execCsrWr m msg s) := by
  unfold execCsrWr
  exact .mk (.step .refl (writeMsg_goes updateGo_goes) (by decide))

theorem execCoreRestartDone_goes {sec s} :
    GoesNext [.csr, .mem, .poison, .out, .freeCtr, .intc, .myk, .hostq, .pmon, .hlth, .ciph, .xport, .fab, .grp, .ctl, .keep,
      .line] s (execCoreRestartDone sec s) := by
  unfold execCoreRestartDone
  extract_lets v1 v2
  have h3 : Goes [.csr, .mem, .poison, .out, .freeCtr, .intc, .myk, .hostq, .pmon, .hlth, .ciph, .xport, .fab, .grp, .ctl,
        .keep, .line] s v1
  · unfold v1
    exact .step .refl set_goes (by decide)
  clear_value v1
  have h4 : Goes [.csr, .mem, .poison, .out, .freeCtr, .intc, .myk, .hostq, .pmon, .hlth, .ciph, .xport, .fab, .grp, .ctl,
        .keep, .line] s v2
  · unfold v2
    split
    · rename_i n5 n6
      with_reducible assumption
    · rename_i n7 n8 n9
      refine .ite ?_ ?_
      · refine .step ?_ firmwareStarted_goes (by decide)
        with_reducible assumption
      · with_reducible assumption
  clear_value v2
  refine .ite ?_ ?_
  · exact .mk .refl
  · refine .mk (.step ?_ takeWaiting_goes (by decide))
    with_reducible assumption

theorem execFwUpdateMgmt_goes {m tag staged s} :
    GoesNext [.csr, .mem, .poison, .out, .freeCtr, .timeFrac, .intc, .myk, .hostq, .sched, .pmon, .hlth, .bed, .stch, .ciph,
      .xport, .fab, .time, .grp, .pho, .boot, .ctl, .keep, .line] s (execFwUpdateMgmt m tag staged s) := by
  unfold execFwUpdateMgmt
  exact .mk (.step .refl updateWrite_goes (by decide))

theorem execBundleApply_goes {m tag staged s} :
    GoesNext [.csr, .mem, .poison, .out, .freeCtr, .timeFrac, .intc, .myk, .hostq, .sched, .pmon, .hlth, .bed, .stch, .ciph,
      .xport, .fab, .time, .grp, .pho, .boot, .ctl, .keep, .line] s (execBundleApply m tag staged s) := by
  unfold execBundleApply
  exact .mk (.step .refl updateWrite_goes (by decide))

/-! ## Module -/

theorem execJtagInstruction_goes {i s} : GoesNext [.out, .hlth] s (execJtagInstruction i s) := by
  unfold execJtagInstruction
  extract_lets v1
  clear_value v1
  refine .ite ?_ ?_
  · exact .mk (.step (.hlth .refl (by decide)) emit_goes (by decide))
  · exact .mk .refl

theorem idle_goes {s} : Goes [.csr, .out, .timeFrac, .intc, .pmon, .time] s (State.idle s) := by
  unfold State.idle
  refine .ite ?_ ?_
  · exact .step (.step .refl timeTick_goes (by decide)) pmonTick_goes (by decide)
  · exact .refl

theorem execSmbusBlockRead_goes {index s} : GoesNext [.out] s (execSmbusBlockRead index s) := by
  unfold execSmbusBlockRead
  split
  · rename_i n1 n2
    exact .mk (.step .refl emit_goes (by decide))
  · rename_i n3 n4 n5 n6
    exact .mk (.step .refl emit_goes (by decide))

theorem execSmbusAlertResponse_goes {s} : GoesNext [.out] s (execSmbusAlertResponse s) := by
  unfold execSmbusAlertResponse
  exact .mk (.step .refl emit_goes (by decide))

end Sys2Proof.Machine
end

