-- ==== Sys2Proof/WellFormed.lean ====
section
/-!
DEFINITION. WellFormed.lean: which commands name what the gateway has: a descriptor has 128 bytes and a queue, a message fits its header, a
frame is whole. The meanings are total all the same; no statement needs these checks.
-/
namespace Sys2Proof

/-- A descriptor: one of 8,192 queues, a 16-bit index, 128 bytes (Table QUE-2). -/
def Work.wf (w : Work) : Bool := decide (w.queue < 8192) && decide (w.index < 65536) && w.desc.length == 128

/-- A Mykabel message: fields as wide as the header gives them, at most 4,096 bytes of payload (Table HOST-1, R392). -/
def MykMsg.wf (m : MykMsg) : Bool :=
  decide (m.type < 256) && decide (m.status < 256) && decide (m.tag < 1024) && decide (m.len ≤ 4096) && decide (m.addr < 2 ^ 64) &&
  decide (m.payload.length ≤ 4096)

/-- A line frame: 256 overhead bytes and 65,280 slot bytes (R173). -/
def RxFrame.wf (f : RxFrame) : Bool := f.overhead.length == 256 && f.slots.length == 65280

/-- A signed object: a signature block of 112 bytes (Table CIPH-11). -/
def SignedObj.wf (o : SignedObj) : Bool := o.block.length == 112

/-- The objects of two banks. -/
def Banks.wf (b : Banks) : Bool := b.bank0.all SignedObj.wf && b.bank1.all SignedObj.wf

/-- What security firmware reads: whole objects, and an owner hash of 32 bytes (R265). -/
def SecureInput.wf (x : SecureInput) : Bool :=
  x.mgmtFw.wf && x.manifests.wf && x.bundles.wf && x.owner.all (fun o => o.2.length == 32)

/-- A request to the skein pools. -/
def SkeinReq.wf (r : SkeinReq) : Bool :=
  match r with
  | .queue w => w.wf
  | .engine _ => true

/-- Whether a command names what the gateway has. -/
def Instr.wf (i : Instr) : Bool :=
  match i with
  | .csrRd _ msg => msg.wf
  | .csrWr _ msg => msg.wf
  | .blockEnableWrite _ _ _ _ => true
  | .configCheckEnd _ _ => true
  | .blockDisableWrite _ _ _ _ => true
  | .blockDrainEnd _ => true
  | .unitInternalError _ => true
  | .poisonedOutputRerun w _ => w.wf
  | .stepOpen w => w.wf
  | .stepOpenRelease _ => true
  | .stepMembership w => w.wf
  | .stepFrog w => w.wf
  | .stepAbort w => w.wf
  | .stepResume w => w.wf
  | .stepResend w => w.wf
  | .ingestEnd _ => true
  | .stageComplete _ => true
  | .cleanWaitExpiry _ => true
  | .stepStalled _ => true
  | .stepClose _ => true
  | .partitionDetect _ _ => true
  | .rejoinStableExpiry _ => true
  | .rejoinReceived _ _ => true
  | .resyncFetchEnd _ => true
  | .project w _ => w.wf
  | .projectT w _ => w.wf
  | .backproject w _ => w.wf
  | .ortho w _ => w.wf
  | .momentum w => w.wf
  | .nesterov w => w.wf
  | .scale w => w.wf
  | .residual w => w.wf
  | .generate w => w.wf
  | .bedSwatch w _ => w.wf
  | .bedInterleavedSwatch _ => true
  | .bedSubst _ _ _ => true
  | .bedStallResume _ _ => true
  | .accumulate w _ => w.wf
  | .stchHeldTermRelease _ _ => true
  | .stchPoison w => w.wf
  | .stchSwatch w _ => w.wf
  | .stchClusterSwatch _ _ => true
  | .stchSubstGo _ _ _ => true
  | .stchRequal _ _ _ => true
  | .poisonReceived _ _ => true
  | .encode w _ => w.wf
  | .decode w _ _ => w.wf
  | .purlSwatch w _ => w.wf
  | .secondDecode _ _ => true
  | .rawResendReceived _ _ _ => true
  | .rawRefuseReceived _ _ => true
  | .purlSubstGo _ _ _ => true
  | .purlRequal _ _ _ => true
  | .purlStallResume _ _ => true
  | .codewordLockGained _ _ => true
  | .codewordLockLost _ _ => true
  | .lineSignalLoss _ _ => true
  | .alignmentWordLock _ _ _ => true
  | .rxFrameStart _ f => f.all RxFrame.wf
  | .perfSecondEnd _ => true
  | .txFrameStart _ => true
  | .swapArm _ _ _ _ => true
  | .swapCancel _ _ _ _ => true
  | .autoNarrow _ => true
  | .autoWiden _ => true
  | .trainTimeout _ => true
  | .chunkMessageForm _ _ => true
  | .shardReceived _ _ => true
  | .shardWindowExpiry _ _ _ => true
  | .portReuseExpiry _ _ => true
  | .portStatePeriodic => true
  | .portStateReceived _ => true
  | .ackInterval => true
  | .ackReceived _ _ => true
  | .nackRepeatExpiry _ _ _ => true
  | .controlRepeatExpiry _ _ _ => true
  | .cleanReceived _ _ => true
  | .chunkResendReceived _ _ => true
  | .keepaliveSend => true
  | .keepaliveReceived _ => true
  | .rebuildReceived _ _ => true
  | .rebuildNotHeldReceived _ _ => true
  | .flowResetReceived _ _ => true
  | .jobEnableWrite _ _ _ _ => true
  | .jobParamWrite _ _ _ _ _ => true
  | .keepaliveMsWrite _ _ _ => true
  | .seal w _ => w.wf
  | .sealControl w _ => w.wf
  | .cipherOpen w _ => w.wf
  | .save w => w.wf
  | .restoreContext w => w.wf
  | .invalidate w => w.wf
  | .quote w => w.wf
  | .ledgerWriteDurable _ _ => true
  | .ledgerRetry _ _ _ => true
  | .keymailOffer _ => true
  | .keymailAccept _ => true
  | .keymailConfirm _ => true
  | .keymailRetire _ => true
  | .keymailAbort _ => true
  | .keymailCert _ => true
  | .rekeyInterval _ _ => true
  | .rekeyTimeout _ _ => true
  | .rekeyRetry _ _ => true
  | .confirmResend _ _ => true
  | .oldSlotRetire _ _ => true
  | .ciphExtend _ _ _ => true
  | .fabWrite _ => true
  | .fabReadReq _ => true
  | .fabReadResp _ => true
  | .fabAck _ => true
  | .fabNack _ => true
  | .fabMgmt _ => true
  | .fabPacketSend _ _ => true
  | .fabRetxTimeout _ _ => true
  | .fabNoRouteTimeout _ => true
  | .credit _ _ _ => true
  | .eptWrite w => w.wf
  | .rtWrite w => w.wf
  | .circuitOpen w => w.wf
  | .circuitClose w => w.wf
  | .ingestWrite w => w.wf
  | .epochArm _ _ _ => true
  | .epochDrainEnd => true
  | .epochDrainTimeout => true
  | .linkTrainingEnd _ _ _ => true
  | .ringLockUpdate _ _ _ => true
  | .ringRelocked _ _ => true
  | .sensorSample _ _ => true
  | .bankReload _ _ _ => true
  | .calStep _ _ => true
  | .mirrorSwitch _ _ _ _ => true
  | .calSweepEnd _ _ _ => true
  | .laneMapReceived _ _ => true
  | .steerArm _ _ _ => true
  | .resteerGapStart => true
  | .resteerComplete _ _ => true
  | .resteerLockTimeout _ => true
  | .laserPowerCheck _ _ _ => true
  | .handoverGo _ _ _ => true
  | .spareWarmed => true
  | .spareLocked => true
  | .handoverGapStart => true
  | .handoverSwitched => true
  | .handoverTimeLimit => true
  | .sramScrub _ => true
  | .lpddrScrub _ => true
  | .deviceTempChange _ _ => true
  | .alloc w _ => w.wf
  | .share q _ _ => q.wf
  | .free q _ => q.wf
  | .skeinEngineRequest _ _ => true
  | .skeinWaitGrant => true
  | .sqTail msg => msg.wf
  | .cqDoor msg => msg.wf
  | .queueEnableWrite _ _ _ _ => true
  | .queueDrainEnd _ => true
  | .descriptorFetch _ _ => true
  | .descriptorDispatch _ => true
  | .completionRecord _ => true
  | .put w => w.wf
  | .putAll w => w.wf
  | .schedServe _ => true
  | .shaperRefill => true
  | .gateArm _ _ _ _ => true
  | .gateCancel _ _ _ _ => true
  | .timeSet _ _ _ => true
  | .timeStep _ _ _ => true
  | .timeOffset _ _ _ => true
  | .ppsInEdge _ => true
  | .ppsEdgeMissing => true
  | .sourceSelect _ _ _ => true
  | .hold _ _ _ => true
  | .reacquire _ _ _ => true
  | .holdTimeout => true
  | .refclkLost => true
  | .refclkRestored => true
  | .timeTxqLo _ _ => true
  | .mykLinkTrained _ => true
  | .mykReplay _ => true
  | .memRdCpl msg => msg.wf
  | .hostReadTimeout _ => true
  | .hostLost => true
  | .hostLinkRestored _ => true
  | .intcClaim _ _ _ => true
  | .intcComplete _ _ _ _ => true
  | .intcRaise _ _ _ => true
  | .intcSrcWrite _ _ _ _ => true
  | .intrResend => true
  | .mailboxWrite _ _ _ _ => true
  | .watchdogExpiry _ => true
  | .coreRestartDone _ => true
  | .resetNRelease => true
  | .resetNAssert => true
  | .romDone _ banks => banks.wf
  | .secureDone x => x.wf
  | .compatDone => true
  | .bundleStaged o => o.wf
  | .sramDone _ _ => true
  | .memtrainDone _ => true
  | .memtestDone _ => true
  | .tableConfirm _ _ => true
  | .tableConfirmTimeout _ => true
  | .tablesDone => true
  | .restorePhase _ _ => true
  | .enginesStageDone => true
  | .castPhaseTimeout => true
  | .inputWarn _ _ => true
  | .inputWarnClear _ _ => true
  | .inputSurge _ _ => true
  | .bindoffTrigger _ _ => true
  | .bindoffLimit _ _ => true
  | .inputRestart _ => true
  | .holdupChargeMeasured _ _ => true
  | .powerCapReached _ => true
  | .gaugeSample margins panels => decide (margins.length ≤ 512) && decide (panels.length ≤ 3)
  | .replan _ => true
  | .rateFloorFault _ => true
  | .panelTempChange _ _ _ => true
  | .thermalTrip _ => true
  | .fwUpdateMgmt _ _ staged => staged.all SignedObj.wf
  | .fwUpdateSec _ _ staged => staged.all SignedObj.wf
  | .bundleApply _ _ staged => staged.all SignedObj.wf
  | .updateStartTimeout => true
  | .tableAudit _ _ => true
  | .heartbeatSend => true
  | .heartbeat _ _ => true
  | .failDetectExpiry _ => true
  | .fail _ _ => true
  | .mirror _ _ => true
  | .mirrorAck _ _ => true
  | .digest _ _ _ _ => true
  | .mismatch _ _ => true
  | .report _ _ => true
  | .bind _ _ => true
  | .flow _ _ => true
  | .flowSend => true
  | .mirrorLagExpiry => true
  | .shadowGo _ _ _ => true
  | .shadowStop _ _ _ => true
  | .seedCopyEnd => true
  | .takeoverGo _ _ _ => true
  | .takeoverChunksHeld => true
  | .stragglerSwap => true
  | .snapshotGo _ _ _ => true
  | .snapshotRelease _ _ _ => true
  | .counterEnable _ _ _ _ => true
  | .bwWindowEnd => true
  | .bwWindowWrite _ _ _ => true
  | .smbusBlockRead _ => true
  | .smbusAlertResponse => true
  | .jtagInstruction _ => true
  | .powerOnPwrGood => true
  | .holdupChargeTimeout _ => true
  | .powerCapRelease _ => true
  | .ppsOutEdge => true
  | .mykabelLossOfLock => true

end Sys2Proof
end

