-- ==== Sys2Proof/Tests/Slice0.lean ====
section
/-!
SUPPORT. Tests/Slice0.lean: for every clause of a statement a state and operands that meet its hypotheses together, an ill-formed command for each check
of WellFormed.lean, and worked values of the spec.
-/
namespace Sys2Proof.Tests
set_option linter.unusedVariables false
set_option Elab.async false
open Sys2Proof Sys2Proof.Machine Sys2Proof.Machine.Csr

/-- A state with some fields put, from reset. -/
def st (l : List (Field × Nat × Nat × Nat)) : State :=
  l.foldl (fun s x => s.set x.1 x.2.1 x.2.2.1 x.2.2.2) State.reset
/-- A state in which cast-on has ended. -/
def up : State := State.reset.set TOP_STATE.CAST_PHASE 0x0B
/-- A state with one deliverable software source. -/
def claimable : State :=
  { (((st [(INTC_SRC.PRIORITY, 3, 1280, 0), (INTC_STATUS.READY, 1, 0, 0)])).set INTC_SRC.TARGET 0 1280) with
    intc := { State.reset.intc with pending := [1280] } }
/-- A state with a descriptor of a block in progress. -/
def busy (b : Nat) : State :=
  { up with hostq := { up.hostq with dispatched := [⟨⟨0, 0, [BitVec.ofNat 8 b]⟩, 0, 0, 0, false, [], 0⟩] } }
/-- A port with a valid standby gate list. -/
def gated : State :=
  let e := le 10 5 ++ zeros 2 ++ le 4 7
  ((up.set LIST1_ADDR.ADDR 256 2).set BASE_TIME.TIME 200000 2).writeBytes 256 (le 2 1 ++ zeros 2 ++ le 4 (crc32c e) ++ zeros 8 ++ e)
/-- A state in which a resteer may start: the standby map exchanges two fibre pairs. -/
def steerable : State := { up with boot := { up.boot with features := 0xFFFF } }
/-- An entry of the transmit-timestamp queue. -/
def TXE : TxStamp := ⟨3, 1, 9, 4660⟩
/-- A state in which photonics is being checked. -/
def phoCheck : State := { up with ctl := { up.ctl with checking := [7] } }
/-- A state whose job entry 5 passes the job check. -/
def jobReady : State := ((up.set XPORT_STATUS.READY 1).set PEER_CFG.ENABLE 1 1).set JOB_CTX.TMAP_ENTRIES 1 5
/-- What enables job entry 5. -/
def jobWord : Word := 0x30000010001
/-- A pending read of 8 bytes of host memory. -/
def RD : HostRead := ⟨hostBase + 64, 8, none⟩
/-- A state that waits for a read of host memory. -/
def reading : State := { up with myk := { up.myk with reads := [(3, RD)] } }
/-- A state with queue `q` set up and disabled: rings of 256 entries at 0x10000 and 0x20000 under class 1. -/
def queueSet (q : Nat) : State :=
  [(Q_CFG.CLASS, 1), (Q_SQ.ADDR, 0x10000 / 128), (Q_CQ.ADDR, 0x20000 / 64)].foldl
    (fun s x => s.set x.1 x.2 q) (up.set HOSTQ_STATUS.READY 1)
/-- That queue enabled. -/
def queueUp (q : Nat) : State := ((queueSet q).set Q_CFG.ENABLE 1 q).set HOSTQ_STATUS.QUEUES_ENABLED 1
/-- That queue with a descriptor in its ring. -/
def queueRun (q : Nat) : State := ((queueUp q).set MEM_STATUS.READY 1).set Q_PTR.SQ_TAIL 3 q
/-- A fetched descriptor of queue 5 for the bed. -/
def fetchedBed : Fetched := ⟨⟨5, 0, [11]⟩, 0x10000, 0, 0, 0, [], true⟩
/-- A finished descriptor of queue 5 with FLAGS `fl`, whose NEXT is queue 5 and address 0x10000. -/
def finishedBed (fl : Nat) : Finished :=
  ⟨⟨5, 0, le 1 11 ++ le 1 fl ++ zeros 4 ++ le 2 5 ++ zeros 16 ++ le 8 0x10000 ++ zeros 96⟩, {}, 1, 2, 3, 0, false, [], false⟩
/-- A communication descriptor of queue 5. -/
def putWork (op member : Nat) : Work :=
  ⟨5, 0, le 1 2 ++ zeros 63 ++ le 1 op ++ zeros 1 ++ le 2 member ++ le 4 5000 ++ le 8 0x4000 ++ zeros 48⟩
/-- A state with a group of three members on one circuit. -/
def putState : State :=
  let s := ((((up.set FAB_STATUS.READY 1).set MEM_STATUS.READY 1).set Q_GROUP.ADDR 64 5).set Q_GROUP.MEMBERS 3 5).set Q_CFG.CLASS 1 5
  (s.set FAB_CIRC_BASE.ADDR 8).writeBytes 512 (le 3 7 ++ le 1 1 ++ zeros 12)
/-- A port with two data shards and, if wanted, a control shard of tenant 0, and the open yarn 2. -/
def lineSched (control : Bool) : State :=
  let c : List LineShard := if control then [⟨3, 0x1000, 0, true, false, [1, 2, 3]⟩] else []
  let s := (up.set SCHED_STATUS.READY 1).wrReg PORT_YARN 0x800000000000#64 3 0
  { s with sched := { s.sched with
      tagTenant := [((3, 0), 700)]
      shards := [⟨3, 0x1001, 0, false, false, [9]⟩, ⟨3, 0x1001, 0, false, true, [4, 5, 6]⟩] ++ c } }
/-- A spare of a group of six, whose position 5 owns endpoints 64 to 71. -/
def spareState : State :=
  let s := st [(TOP_STATE.CAST_PHASE, 0x0B, 0, 0), (GRP_STATUS.READY, 1, 0, 0), (GRP_CTRL.ROLE, 1, 0, 0), (GRP_CFG.GROUP_SIZE, 6, 0, 0),
    (GRP_MEMBER_BASE.ADDR, 16, 0, 0)]
  { s.writeBytes (1024 + 40) (le 8 (64 + 8 * 2 ^ 24 + 2 ^ 33)) with boot := { up.boot with features := 0xFFFF } }
/-- A gateway that a spare shadows. -/
def partnerState : State :=
  { (spareState.set GRP_CTRL.ROLE 0) with grp := { up.grp with shadowed := true, items := [⟨1, 2, 3, 4, 5, some (3, 1), false⟩] } }
/-- A group message of 32 bytes of a type, a step and a chunk. -/
def gMsg (type step chunk : Nat) : Bytes := le 4 type ++ le 4 step ++ le 4 chunk ++ le 2 0xFF00 ++ zeros 18
/-- The step record of step 1 of a job of two sites. -/
def stepRec3 (state : Nat) : StepRec :=
  { step := 1, state := state, members := 3, reachable := 3, lastOpened := 1, param0 := 0x20001 }
/-- A gateway with job 7 of sites 0 and 1 in entry 3. -/
def stepState (state : Nat) : State :=
  let s := st [(TOP_STATE.CAST_PHASE, 0x0B, 0, 0), (XPORT_STATUS.READY, 1, 0, 0), (JOB_CTRL.ENABLE, 1, 3, 0), (JOB_CTRL.JOB_ID, 7, 3, 0),
    (JOB_CTRL.SITES, 3, 3, 0)]
  { s with xport := { s.xport with jobs := [(3, stepRec3 state)] } }
/-- A step descriptor of job 7. -/
def stepWork (op step : Nat) : Work :=
  ⟨5, 0, le 1 9 ++ zeros 3 ++ le 2 7 ++ zeros 2 ++ le 4 step ++ zeros 52 ++ le 1 op ++ zeros 63⟩
/-- A chunk that site 1 owes and could not send. -/
def stepOwed : OwedChunk := { entry := 3, site := 1, step := 1, chunk := 77, frog := 0, raw := false, failed := true }
/-- A REJOIN message of site 1. -/
def rejoinMail : CtrlIn := { entry := 3, site := 1, ctype := 9, seq := 0, body := zeros 32 }
/-- A state whose bed is ready, with data at 0x1000. -/
def bedState : State :=
  (st [(TOP_STATE.CAST_PHASE, 0x0B, 0, 0), (BED_STATUS.READY, 1, 0, 0), (BED_STATUS.SELVEDGE_OK, 1, 0, 0), (BED_CTRL.GROUP_EN, 0xFF, 0, 0),
    (BED_CHECK.CHECK_ROW, 1, 0, 0), (MEM_STATUS.READY, 1, 0, 0), (Q_CFG.CLASS, 1, 5, 0)]).writeBytes 0x1000
    [0x80, 0x3F, 1, 0xC0, 0x40, 0x40, 9, 0xBF, 0x80, 0x3F]
/-- A bed descriptor with its matrices at 0x1000, 0x1100, 0x2000, 0x3000 and 0x4000. -/
def bedWork (op flags fi fo rank rows cols : Nat) : Work :=
  ⟨5, 0, le 1 11 ++ zeros 63 ++ le 1 op ++ le 1 flags ++ le 1 (fi + 16 * fo) ++ le 1 4 ++ zeros 2 ++ le 2 rank ++ le 4 rows ++ le 4 cols ++
    le 8 0x1000 ++ le 8 0x1100 ++ le 8 0x2000 ++ le 8 0x3000 ++ le 8 0x4000 ++ le 2 0 ++ le 2 0x8005 ++ le 1 1 ++ le 3 0⟩
/-- A state whose stitch units are ready, with two elements at 0x1000. -/
def stitchState : State :=
  (st [(TOP_STATE.CAST_PHASE, 0x0B, 0, 0), (STCH_STATUS.READY, 1, 0, 0), (STCH_CTRL.CLUSTER_EN, 0xFFFFFFFFFFFF, 0, 0), (MEM_STATUS.READY, 1, 0, 0),
    (Q_CFG.CLASS, 1, 5, 0)]).writeBytes 0x1000 [0x80, 0x3F, 0, 0xC0]
/-- A stitch descriptor of two BF16 elements for slot 5 with FMT_OUT FP32; `op` 1 from site 1, 2 from site 2 as an ACCUMULATE. -/
def stitchWork (site expect weight : Nat) : Work :=
  ⟨5, 0, le 1 12 ++ zeros 3 ++ le 4 7 ++ le 4 1 ++ zeros 52 ++ le 1 (if site = 15 then 15 else 1) ++ le 1 site ++ le 1 1 ++ zeros 1 ++
    le 2 expect ++ le 2 5 ++ le 4 77 ++ le 4 2 ++ le 8 0x1000 ++ le 8 0x2000 ++ le 4 weight ++ zeros 28⟩
/-- The slot of that descriptor with a first term of site 1. -/
def stitchSlot (expect : Nat) : Slot :=
  { openSlot (stitchWork 1 expect 0x3F800000) 0 with
    terms := [⟨stitchWork 1 expect 0x3F800000, 1, 0⟩], sums := some [0x3F800000, 0x40000000] }
/-- A notice of site 1 for a step and a round. -/
def noticeMail (step round : Nat) : CtrlIn :=
  let b := zeros 8 ++ le 4 step ++ le 1 round ++ zeros 47
  { entry := 3, site := 1, ctype := 3, seq := 0, body := b ++ le 4 (crc32c b) }
/-- A state whose codec is ready, with two BF16 elements at 0x1000. -/
def purlState : State :=
  (st [(TOP_STATE.CAST_PHASE, 0x0B, 0, 0), (PURL_STATUS.READY, 1, 0, 0), (PURL_CTRL.CLUSTER_EN, 0xFFFFFFFF, 0, 0), (MEM_STATUS.READY, 1, 0, 0),
    (Q_CFG.CLASS, 1, 5, 0), (PURL_CFG.FORCE_RAW, 1, 0, 0)]).writeBytes 0x1000 [0x80, 0x3F, 1, 0xC0]
/-- A codec descriptor of two BF16 elements at 0x1000 with the output at 0x2000, for a chunk of site 1. -/
def purlWork (op flags job chunk : Nat) : Work :=
  ⟨5, 0, le 1 13 ++ zeros 3 ++ le 4 job ++ le 4 1 ++ zeros 52 ++ le 1 op ++ le 1 flags ++ le 1 1 ++ zeros 1 ++ le 4 2 ++
    le 4 (if op = 2 then 52 else 4) ++ le 4 (if op = 2 then 4 else 52) ++ le 8 (if op = 2 then 0x2000 else 0x1000) ++
    le 8 (if op = 2 then 0x1000 else 0x2000) ++ le 4 chunk ++ le 1 1 ++ le 1 3 ++ zeros 26⟩
/-- A state with a coded chunk at 0x2000. -/
def codedState : State := purlState.writeBytes 0x2000 (rawBlock 1 6 0 [0x80, 0x3F, 1, 0xC0])
/-- A state with the gateway's own site 0 in job 7's entry 3 and a codec that is ready. -/
def codedJob : State :=
  let s := ((((stepState 4).set Q_CFG.CLASS 1 5).set PURL_STATUS.READY 1).set PURL_CTRL.CLUSTER_EN 0xFFFFFFFF).set MEM_STATUS.READY 1
  { s with mem := codedState.mem }
/-- A control message of site 1 to job entry 3. -/
def ctrlMail (type : Nat) (b : Bytes) : CtrlIn := { entry := 3, site := 1, ctype := type, seq := 0, body := b }
/-- A transmit context of job 7 toward site 1 with an all-zero key. -/
def zeroCtx : Ctx :=
  { tenant := 0, rx := false, active := 0, pinned := false, peer := 1, rekey := 0, job := 7,
    slot0 := ⟨true, zeros 32, 0, 0, 0, 1⟩, slot1 := {} }
/-- The retained chunk of the raw-resend tests: its header, ciphertext and tag. -/
def resendChunk : Bytes :=
  let h := [1, 0, 0, 1] ++ zeros 16 ++ le 4 2 ++ le 4 52 ++ zeros 36
  let e := gcmSeal (zeros 32) (zeros 12) (h.take 32) (rawBlock 1 6 0 [0x80, 0x3F, 1, 0xC0])
  h ++ e.1 ++ e.2
/-- That chunk's entry of the retention region. -/
def resendKept : Retained := ⟨3, 1, 1, 5, 0, 0x8000, 192, 0, 1, 1, 0, 1, 0, false⟩
/-- A gateway that holds that chunk, asked for it raw by an unreachable site 1. -/
def resendState : State :=
  let s := codedJob.writeBytes 0x8000 resendChunk
  let s := (s.set XPORT_SW.SW_SRAM_MIB 1).set CIPH_STATUS.READY 1
  { s with
    xport := { s.xport with jobs := [(3, { stepRec3 4 with reachable := 1 })], retained := [resendKept], inbox := [ctrlMail 4 (le 4 1 ++ le 4 5 ++ zeros 8)] }
    ciph := { s.ciph with valid := [1], resident := [(1, zeroCtx)], ledger := [⟨1, 0, 1, 2 ^ 23, none, false⟩] } }
/-- A line port 3 in service with its yarn 2 in slot 0 of transmit page 0. -/
def lineUp : State :=
  let s := (st [(TOP_STATE.CAST_PHASE, 0x0B, 0, 0), (LINE_STATUS.READY, 1, 0, 0), (LINE_CTRL.PORT_EN, 0xFFFF, 0, 0), (SCHED_STATUS.READY, 1, 0, 0),
    (LINE_ALIGN.CONFIRM_N, 2, 0, 0), (LINE_ALIGN.LOSS_M, 2, 0, 0), (GATE_OPEN0.OPEN, 0xFFFF, 3, 0)])
  ((s.wrReg PORT_YARN 0x800000000000#64 3 0).wrReg PORT_TXCM0 0x82#64 3 0)
/-- That port with lane 5 locked at position 1 and probing. -/
def lineLocked (state : Nat) : State :=
  { ((lineUp.set PORT_STATUS.ALIGN_STATE state 3).set PORT_LANE_STAT.CW_LOCK 1 3 5) with
    line := lineUp.line.set 3 { laws := [(5, 4, 1, 0)] } }
/-- That port with a width of 2 found on lanes 0 and 1. -/
def lineFound (state count : Nat) : State :=
  { ((lineUp.set PORT_STATUS.ALIGN_STATE state 3).set PORT_STATUS.RX_WIDTH 2 3) with
    line := lineUp.line.set 3 { count := count, laws := [(0, 2, 0, 0), (1, 2, 1, 9)], held := some ⟨[(2, [7, 8])], 5, false⟩ } }
/-- A gateway, site 0, with job 7 of sites 0 and 1 in entry 3, peer 1 enabled, and ports 0 and 1 that carry codewords of K = 1 and M = 1. -/
def flowState : State :=
  let s := [(LINE_STATUS.READY, 1), (LINE_CTRL.PORT_EN, 3), (XPORT_CODE.K, 1), (XPORT_CODE.M, 1), (XPORT_CODE.CODE_AUTO, 0), (XPORT_RETAIN.LIMIT_GIB, 4), (XPORT_SW.SW_SRAM_MIB, 1),
    (XPORT_SW.WINDOW_US, 100), (XPORT_SW.LATE_COUNT, 8), (MEM_REGION0.RETAIN_GIB, 8)].foldl (fun (s : State) (x : Field × Nat) => s.set x.1 x.2) (stepState 4)
  (((s.set PEER_CFG.ENABLE 1 1).set PORT_STATUS.ALIGN_STATE 2 0).set PORT_STATUS.ALIGN_STATE 2 1).set PEER_CFG.WINDOW_MIB 64 1
/-- A chunk that a SEAL left at 0x7000 with its ciphertext at 0x7100. -/
def sealedChunk : SealedChunk := ⟨3, 1, 0x7000, 0x7100, 1, 0, false, 0⟩
/-- That gateway with the chunk sealed. -/
def sendState : State :=
  let s := flowState.writeBytes 0x7000 (zeros 8 ++ le 4 1 ++ le 4 77 ++ zeros 8 ++ le 4 16)
  { s with xport := { s.xport with sealed := [sealedChunk] } }
/-- A data shard of codeword `seq` and index `x` of job 7 from site 1 to site 0, with K and M: 8,192 bytes whose first four are ones, so that their
CRC-32C is all ones. -/
def dataShardOf (k m x seq : Nat) : Bytes :=
  let h := [0xC3, 0x5A, 1] ++ le 1 x ++ le 1 (k + 32 * m) ++ le 1 1 ++ zeros 2 ++ le 2 7 ++ le 2 8192 ++ le 4 seq ++ zeros 8 ++ le 4 0xFFFFFFFF
  h ++ le 4 (crc32c h) ++ ([255, 255, 255, 255] ++ zeros 8188)
/-- A shard of job 7 from site 1 to site 0, by its third byte and length. -/
def shardOf (b2 n : Nat) : Bytes :=
  let h := [0xC3, 0x5A] ++ le 1 b2 ++ [0, 0, 1, 0, 0] ++ le 2 7 ++ le 2 n ++ zeros 12 ++ le 4 (crc32c (zeros n))
  h ++ le 4 (crc32c h) ++ zeros n
/-- The gateway with bytes waiting in yarn 2 of port 0. -/
def yarnState (b : Bytes) : State := { flowState with line := flowState.line.set 0 { rxYarn := [(2, [(b, false)])] } }
/-- The gateway with one flow of job 7 from site 1. -/
def withFlow (f : Flow) : State := { flowState with xport := { flowState.xport with flows := [((3, 1), f)] } }
/-- An open codeword. -/
def openCw (nacked : Bool) : OpenCw := ⟨9, 2, 1, [(0, [])], [0], 0, nacked, false, false⟩
/-- A state with a control message from site 1 in its inbox. -/
def withMail (s : State) (c : CtrlIn) : State := { s with xport := { s.xport with inbox := [c] } }
/-- A gateway whose cipher is ready with a transmit and a receive context of job 7's site 1 resident, and data at 0x1000 and 0x2000. -/
def cipherState : State :=
  let s := [(CIPH_STATUS.READY, 1), (CIPH_CTRL.CLUSTER_EN, 0xFF), (CIPH_STORE_SIZE.CONTEXTS, 64), (CIPH_LIMIT.RECORD_WARN_LOG2, 32), (CIPH_LIMIT.BYTE_WARN_LOG2, 40),
    (MEM_STATUS.READY, 1)].foldl (fun (s : State) (x : Field × Nat) => s.set x.1 x.2) (((flowState.set Q_CFG.CLASS 1 5).set CIPH_TENANT.CTX_QUOTA 8 0))
  { (s.writeBytes 0x1000 [1, 0, 0, 1, 7]) with
    ciph := { s.ciph with valid := [1, 17], resident := [(1, zeroCtx), (17, { zeroCtx with rx := true })], ledger := [⟨1, 0, 1, 2 ^ 23, none, false⟩] } }
/-- A cipher descriptor of `len` bytes for a context: ADDR_HDR 0x1000, ADDR_IN 0x2000, ADDR_OUT 0x3000. -/
def cipherWork (op flags ctx len : Nat) : Work :=
  ⟨5, 0, le 1 10 ++ zeros 3 ++ le 4 7 ++ le 4 1 ++ zeros 52 ++ le 1 op ++ le 1 flags ++ le 2 ctx ++ le 4 len ++ le 8 0x1000 ++ le 8 0x2000 ++ le 8 0x3000 ++
    le 4 77 ++ le 1 1 ++ zeros 27⟩
/-- That gateway with a sealed chunk of 4 bytes at 0x2000 under its header at 0x1000. -/
def openState : State :=
  let e := gcmSeal (zeros 32) (zeros 12) (cipherState.readBytes 0x1000 32) [9, 8, 7, 6]
  cipherState.writeBytes 0x2000 (e.1 ++ e.2)
/-- A clear image of the transmit context 2 at 0x1000. -/
def imageState : State := (cipherState.set CIPH_SECURITY.CLEAR_EXPORT_EN 1).writeBytes 0x1000 (ctxImage false 2 0 zeroCtx)
/-- A gateway, site `me`, that holds site 1's session key and one envelope in its incoming ring. -/
def mailState (me : Nat) : State :=
  let s := ((((cipherState.set XPORT_CTRL.LOCAL_SITE me).set CIPH_KMI_PTR.WR_PTR 1).set CIPH_CAP.KEM_OK 1).set CIPH_TENANT.REKEY_INTERVAL_S 60 0)
  { s with ciph := { s.ciph with valid := [], resident := [], ledger := [], peerSession := [(1, [5])] } }
/-- An envelope of a type from site 1 to site `me` with one entry of job 7. -/
def mailOf (me type gen : Nat) (payload : Bytes) : Bytes :=
  let e := le 2 7 ++ le 2 gen ++ le 2 payload.length ++ zeros 2 ++ padTo (8 * ceilDiv payload.length 8) payload
  [1] ++ le 1 type ++ le 1 (1 + 16 * me) ++ zeros 1 ++ le 2 1 ++ zeros 2 ++ le 8 4 ++ le 4 (64 + e.length + 17088) ++ zeros 4 ++ sha256 [5] ++ zeros 8 ++ e ++ zeros 17088
/-- That gateway with an establishment of job 7's pair in progress. -/
def pairState (me : Nat) (y : Establish) (c : List (Nat × Ctx)) : State :=
  { (mailState me) with ciph := { (mailState me).ciph with establish := [y], valid := c.map (·.1), resident := c } }
/-- A CERT of site 1 to site 0 with an all-zero identity. -/
def certOf : Bytes :=
  [1, 6, 1, 0] ++ zeros 4 ++ le 8 4 ++ le 4 (176 + 29792) ++ zeros 4 ++ sha256 (zeros 64) ++ zeros 8 ++ zeros (112 + 29792)
/-- The flow from endpoint 0x200 to the gateway's endpoint 0x100. -/
def inKey (cls : Nat) : FlowKey := ⟨0x200, 0x100, cls, 0⟩
/-- The flow back. -/
def outKey (cls : Nat) : FlowKey := ⟨0x100, 0x200, cls, 0⟩
/-- A gateway on the fabric with link 3 in service, the peer 0x200 of tenant 9 and a window at 0x4000. -/
def fabState : State :=
  let s := [(TOP_STATE.CAST_PHASE, 0x0B), (FAB_STATUS.READY, 1), (FAB_LOCAL_EP.BASE, 0x100), (FAB_LOCAL_EP.COUNT, 8), (FAB_EPT_BASE.ADDR, 0x100000),
    (FAB_RT_BASE.ADDR, 0x8000), (FAB_CIRC_BASE.ADDR, 0x10000), (FAB_INGEST_BASE.ADDR, 0x40), (FAB_CTRL.LINK_EN, 0xFF), (MEM_STATUS.READY, 1), (FAB_VC_CREDITS.REQ, 64),
    (FAB_VC_CREDITS.REPLY, 64), (FAB_VC_CREDITS.MGMT, 64), (FAB_LINK_CFG.REORDER_KIB, 64), (FAB_LINK_CFG.RESERVE_MAX_PCT, 80)].foldl
      (fun (s : State) (x : Field × Nat) => s.set x.1 x.2) State.reset
  let s := [(MEM_CLASS.WRITE_MASK, 0xFF, 4), (MEM_CLASS.READ_MASK, 0xFF, 4), (FAB_LINK_STATUS.IN_SERVICE, 1, 3), (FAB_LINK_STATUS.WIDTH, 8, 3), (Q_CFG.CLASS, 1, 5)].foldl
      (fun (s : State) (x : Field × Nat × Nat) => s.set x.1 x.2.1 x.2.2) s
  let s := s.writeBytes (s.windowAddr 0) (le 8 0x4000 ++ le 8 0x1000 ++ le 1 9 ++ le 1 7 ++ zeros 14)
  let s := s.writeBytes (s.get FAB_RT_BASE.ADDR * 64) (le 8 0x100000008)
  s.writeBytes ((s.eptSlots 0x200).headD 0) (le 3 0x200 ++ le 1 63 ++ le 1 9 ++ zeros 1 ++ le 2 0 ++ le 4 8 ++ zeros 4)
/-- A received packet of that flow that carries SYNC. -/
def inPacket (cls op remote seq : Nat) (payload : Bytes) : RxPacket :=
  ⟨3, packetBytes (inKey cls) { opcode := op, tenant := 9, remote := remote, payload := payload, last := true, circuit := none, msg := none, seq := seq } true, false, false⟩
/-- A packet of a transmit flow. -/
def outPacket (op seq : Nat) (sent due : Bool) : FabPkt :=
  { opcode := op, tenant := 9, remote := 0x4000, payload := [1, 2, 3], last := true, circuit := none, msg := none, seq := seq, sent := sent, due := due }
/-- The gateway with one transmit flow. -/
def fabFlow (f : FabTx) : State := { fabState with fab := { fabState.fab with tx := [(outKey 0, f)] } }
/-- A table descriptor of the fabric for `n` entries from index `first` at 0x2000. -/
def fabWork (op flags first n : Nat) : Work :=
  ⟨5, 0, le 1 6 ++ zeros 63 ++ le 1 op ++ le 1 flags ++ zeros 2 ++ le 4 first ++ le 4 n ++ zeros 4 ++ le 8 0x2000 ++ zeros 40⟩
/-- A gateway whose links 0 to 31 are enabled and whose photonics are ready. -/
def phoUp : State :=
  [(PHO_STATUS.READY, 1), (PHO_CTRL.ENABLE, 1), (PHO_CTRL.CAL_EN, 1), (FAB_CTRL.LINK_EN, 0xFFFFFFFF), (FAB_LINK_CFG.MIN_WIDTH, 1), (INTC_STATUS.READY, 1)].foldl
    (fun (s : State) (x : Field × Nat) => s.set x.1 x.2) up
/-- Link 3 in service with one transmit direction as given, ring 1 of its bank unlocked and the lane on its spare. -/
def phoLane (x : PhoDir) : State :=
  let s := (((phoUp.set PHO_LINK.TX_WORKING 0x1FF 3).set PHO_LINK.TX_SPARE_LANE 1 3).set FAB_LINK_STATUS.IN_SERVICE 1 3).set FAB_LINK_STATUS.WIDTH 3 3
  { s with pho := { s.pho with dirs := [((3, 0), x)], unlocked := [(6, 1)] } }
/-- Bank 63 with a unit matrix. -/
def phoBank : State :=
  { phoUp with pho := { phoUp.pho with
    banks := [(63, (List.range 81).flatMap (fun k => le 2 (if k % 10 = 0 then 0x4000 else 0)) ++ zeros 30)] } }
/-- A re-steer of some links toward the other map, which exchanges fibre pairs 3 and 5. -/
def phoSteer (l : List (Fin 32)) : State :=
  let s := l.foldl (fun (s : State) x => (s.set PHO_LINK.CAL_WAVELENGTH 2 x.val).set FAB_LINK_STATUS.QUIET 1 x.val) (phoUp.set PHO_STATUS.STEERING 1)
  { s with pho := { s.pho with affected := l } }
/-- Source 3 in service at position 7 with the thresholds of the laser bank and both spares free. -/
def phoLaser : State :=
  [(PHO_SOURCE.STATE, 2, 3), (PHO_SOURCE.POSITION, 7, 3), (PHO_SOURCE.POSITION, 15, 7), (PHO_CTRL.AUTO_HANDOVER, 1, 0), (PHO_CAP.SPARES_FREE, 3, 0),
    (PHO_LASER_CFG.WARN_DB, 0xFF38, 0), (PHO_LASER_CFG.HANDOVER_DB, 0xFED4, 0), (PHO_LASER_CFG.FAIL_DB, 0xFE0C, 0)].foldl
      (fun (s : State) (x : Field × Nat × Nat) => s.set x.1 x.2.1 x.2.2) phoUp
/-- A handover of position 7 from source 7 to spare 8 in a state. -/
def phoHand (n : Nat) : State :=
  let s := (phoLaser.set PHO_HANDOVER.STATE n).set PHO_STATUS.HANDOVER 1
  { s with pho := { s.pho with hand := some ⟨7, 8, 7, false⟩ } }
/-- Skein pools of 4 small, 1 larger and no other skeins for class 1, which queue 5 has. -/
def skeinUp : State :=
  let s := [(SKEIN_STATUS.READY, 1, 0), (SKEIN_CTRL.POOL_EN, 31, 0), (POOL_CFG.COUNT, 4, 0), (POOL_CFG.COUNT, 1, 1), (POOL_STATUS.FREE, 4, 0),
    (POOL_STATUS.FREE, 1, 1), (POOL_REC.ADDR, 0x100, 0), (POOL_REC.ADDR, 0x200, 1), (POOL_BASE.ADDR, 0x4000, 0), (POOL_BASE.ADDR, 0x8000, 1), (Q_CFG.CLASS, 1, 5)].foldl
      (fun (s : State) (x : Field × Nat × Nat) => s.set x.1 x.2.1 x.2.2) up
  (s.set CLASS_QUOTA.MAX 4 1 0).set CLASS_QUOTA.MAX 4 1 1
/-- Those pools with skein 1 of pool 0 held by some classes under generation 2. -/
def skeinOwned (l : List Nat) : State :=
  (skeinUp.set CLASS_USE.USE 1 1 0).putSkeinRec 0 1 ⟨100, 2, l, false, false⟩
/-- A state with both scrubs on. -/
def memUp : State :=
  [(MEM_STATUS.READY, 1), (MEM_CTRL.SRAM_SCRUB_EN, 1), (MEM_CTRL.LPDDR_SCRUB_EN, 1), (MEM_SCRUB.CE_LIMIT, 24)].foldl
    (fun (s : State) (x : Field × Nat) => s.set x.1 x.2) up
/-- A module whose rails are in regulation while RESET_N is low. -/
def poweredOff (cut : Bool) : State := { State.reset with hlth := { State.reset.hlth with pwrGood := true, castCut := cut } }
/-- A module in a phase of cast-on. -/
def inPhase (n : Nat) : State :=
  { (State.reset.set TOP_STATE.CAST_PHASE n) with hlth := { State.reset.hlth with pwrGood := true, resetHigh := true } }
/-- A signed object with an all-zero signer. -/
def signedOf (v : Nat) (body : Bytes) : SignedObj := ⟨body, zeros 8 ++ le 8 v ++ sha256 body ++ zeros 64, []⟩
/-- A bundle body with an engine table set of one entry for every cluster of the bed. -/
def bundleBody : Bytes :=
  let t := zeros 4 ++ le 4 2 ++ zeros 8 ++ [11, 1] ++ zeros 10 ++ le 4 0x99 ++ [5, 1] ++ zeros 10 ++ le 4 0x77
  le 2 3 ++ zeros 2 ++ le 4 t.length ++ t
/-- A manifest with one entry of KIND 1 that covers version 0 of everything, with features 3 and 9. -/
def manifestOf : Bytes := zeros 2 ++ le 2 1 ++ zeros 12 ++ [1] ++ zeros 3 ++ le 4 0x208 ++ zeros 24
/-- An empty critical-state image. -/
def critOf : CritImage := { seq := 4 }
/-- The TABLES phase with that bundle, each unit sent `n` times again. -/
def tablesPhase (n : Nat) : State :=
  { ((inPhase 8).set BED_CTRL.GROUP_EN 0xFF) with
    boot := { up.boot with
      bundle := bundleBody
      resent := if n = 0 then [] else [(⟨11, 7, 64⟩, n), (⟨11, 7, 5⟩, n), (⟨12, 7, 5⟩, n), (⟨5, 7, 5⟩, n)] } }
/-- A module that runs with its hold-up capacitor charged. -/
def moduleUp : State :=
  let s := [(HLTH_STATUS.READY, 1), (HLTH_STATUS.HOLDUP_OK, 1), (INTC_STATUS.READY, 1), (HLTH_CTRL.AUTO_REPLAN, 1)].foldl (fun (s : State) (x : Field × Nat) => s.set x.1 x.2) up
  { s with hlth := { s.hlth with pwrGood := true, resetHigh := true } }

/-! ## Ill-formed commands -/

/-- A descriptor of zeros in queue 5. -/
def goodWork : Work := ⟨5, 0, zeros 128⟩

theorem test_wf_good : Instr.wf (.project goodWork []) = true := by decide +kernel
theorem test_wf_queue : Instr.wf (.project { goodWork with queue := 8192 } []) = false := by decide +kernel
theorem test_wf_index : Instr.wf (.stepOpen { goodWork with index := 65536 }) = false := by decide +kernel
theorem test_wf_desc : Instr.wf (.seal { goodWork with desc := zeros 127 } none) = false := by decide +kernel
theorem test_wf_rerun : Instr.wf (.poisonedOutputRerun { goodWork with desc := [] } .none) = false := by decide +kernel
theorem test_wf_type : Instr.wf (.csrRd .host { type := 256 }) = false := by decide +kernel
theorem test_wf_status : Instr.wf (.csrRd .host { type := 3, status := 256 }) = false := by decide +kernel
theorem test_wf_tag : Instr.wf (.csrWr .host { type := 4, tag := 1024 }) = false := by decide +kernel
theorem test_wf_len : Instr.wf (.sqTail { type := 4, len := 4097 }) = false := by decide +kernel
theorem test_wf_addr : Instr.wf (.cqDoor { type := 4, addr := 2 ^ 64 }) = false := by decide +kernel
theorem test_wf_payload : Instr.wf (.memRdCpl { type := 7, payload := zeros 4097 }) = false := by decide +kernel
theorem test_wf_overhead : Instr.wf (.rxFrameStart 0 (some ⟨zeros 255, zeros 65280, 0, 0⟩)) = false := by decide +kernel
theorem test_wf_slots : Instr.wf (.rxFrameStart 0 (some ⟨zeros 256, [], 0, 0⟩)) = false := by decide +kernel
theorem test_wf_object : Instr.wf (.bundleStaged ⟨[], zeros 111, []⟩) = false := by decide +kernel
theorem test_wf_staged : Instr.wf (.fwUpdateMgmt .mgmt 0 (some ⟨[], zeros 111, []⟩)) = false := by decide +kernel
theorem test_wf_banks : Instr.wf (.romDone ⟨0, 0⟩ ⟨none, some ⟨[], [], []⟩⟩) = false := by decide +kernel
theorem test_wf_owner : Instr.wf (.secureDone ⟨{}, {}, {}, some (0, zeros 31), []⟩) = false := by decide +kernel
theorem test_wf_request : Instr.wf (.share (.queue { goodWork with queue := 8192 }) 0 0) = false := by decide +kernel
theorem test_wf_margins : Instr.wf (.gaugeSample (List.replicate 513 0) []) = false := by decide +kernel
theorem test_wf_panels : Instr.wf (.gaugeSample [] (List.replicate 4 ⟨0, 0⟩)) = false := by decide +kernel

/-! ## Decoding and reset -/

theorem test_decode_none : decodeTableWord 64 0 = none := rfl
theorem test_fetch_word : State.reset.withFetchWord 64 7 = State.reset := rfl
theorem test_reset_step : step State.reset = .next State.reset := rfl

/-! ## Worked values of the spec (03_number_formats.md, Rounding, Conversions, Products and accumulation) -/

/-- The FP32 value 0x3F80_8000 in BF16: to nearest even, toward zero, and by SR with r = 0x7FFF and 0x8000. -/
theorem test_bf16_tie : let x := (decodeFloat 0 0x3F808000).1
    (encodeNum 1 0 0 0 x).code = 0x3F80 ∧ (encodeNum 1 1 0 0 x).code = 0x3F80 ∧ (encodeNum 1 2 0 0x7FFF x).code = 0x3F80 ∧
    (encodeNum 1 2 0 0x8000 x).code = 0x3F81 := by decide +kernel

/-- The value -5.75 in every format. -/
theorem test_formats : let x := (decodeFloat 0 0xC0B80000).1
    (encodeNum 1 0 0 0 x).code = 0xC0B8 ∧ (encodeNum 2 0 0 0 x).code = 0xCC ∧ (encodeNum 3 0 0 0 x).code = 0xC6 ∧
    (encodeNum 4 0 0 0 x).code = 0x8143 ∧ (encodeNum 5 0 0 0 x).code = 0x94 := by decide +kernel

/-- LNS16 0x8143 in LNS8 and back in BF16. -/
theorem test_lns16 : ((Lns.of16 0x8143).narrow 0).code8 = 0x94 ∧ (encodeNum 1 0 0 0 ((Lns.of16 0x8143).linear 128 0)).code = 0xC0B8 := by
  decide +kernel

/-- The two-term dot product, to BF16. -/
theorem test_dot : (encodeNum 1 0 0 0 (bedDot 128 0 [Lns.of16 0x8143, Lns.of16 0x0100] [Lns.of16 0x7F80, Lns.of16 0x0080])).code = 0x40A4 := by
  decide +kernel

/-- CRC-32C of the nine digits "123456789", its customary check value (log entry 20). -/
theorem test_crc32c : crc32c [0x31, 0x32, 0x33, 0x34, 0x35, 0x36, 0x37, 0x38, 0x39] = 0xE3069283 := by decide +kernel

theorem crc32cByte_zeros (n : Nat) : (zeros n).foldl crc32cByte 0#32 = 0#32 := by
  induction n with
  | zero => rfl
  | succ n ih => rw [zeros, List.replicate_succ, List.foldl_cons, show crc32cByte 0#32 0 = 0#32 by decide, ← zeros, ih]

/-- The CRC of the data shard that the witnesses use. -/
theorem test_crc_data_shard : crc32c ((dataShardOf 2 1 1 9).drop 32) = fieldAt (dataShardOf 2 1 1 9) 24 4 := by
  have h : (dataShardOf 2 1 1 9).drop 32 = [255, 255, 255, 255] ++ zeros 8188 := List.drop_left' (by decide +kernel)
  rw [h, crc32c, List.foldl_append, show [255, 255, 255, 255].foldl crc32cByte 0xFFFFFFFF#32 = 0#32 by decide +kernel, crc32cByte_zeros]
  decide +kernel

theorem test_stepTakesFrontCommand_1 :
    (fun (s : State) (c : Instr) (rest : List Instr) =>
      s.pending = c :: rest) ({ up with pending := [.resetNRelease, .spareWarmed] }) (.resetNRelease) ([.spareWarmed]) := by
  decide +kernel

theorem test_stepTakesFrontCommand_2 :
    (fun (s : State) =>
      s.pending = [] ∧ s.hlth.pwrGood = false) (State.reset) := by
  decide +kernel

theorem test_stepTakesFrontCommand_3 :
    (fun (s : State) =>
      s.pending = [] ∧ s.hlth.pwrGood = true) (moduleUp) := by
  decide +kernel

theorem test_resetState_1 :
    (fun (b : Fin 18) =>
      1 ≤ b.val) (17) := by
  decide +kernel

theorem test_stepKeepsInvariants_1 :
    (fun (s t : State) =>
      s.canonical = true ∧ s.line.length = 16 ∧
      step s = .next t) ({ State.reset with pending := [.resetNRelease] }) ({ State.reset with hlth := { State.reset.hlth with resetHigh := true } }) := by
  exact ⟨by decide +kernel, by decide +kernel, rfl⟩

theorem test_rollbackFloorsNeverFall_1 :
    (fun (s t : State) =>
      step s = .next t) ({ State.reset with pending := [.resetNRelease] }) ({ State.reset with hlth := { State.reset.hlth with resetHigh := true } }) := by
  exact rfl

theorem test_rollbackFloorsNeverFall_2 :
    (fun (s : State) =>
      s.get TOP_STATE.CAST_PHASE = 10 ∧ s.ctl.checking = [] ∧ s.boot.turn = [] ∧ s.stageFailed = false ∧ s.boot.stage = 4) ({ (inPhase 10) with boot := { up.boot with stage := 4, manifest := zeros 8 ++ le 4 5 ++ le 4 6 }, keep := { up.keep with floorSec := 9 } }) := by
  decide +kernel

theorem test_notReadyPerformsNoWork_1 :
    (fun (s : State) (w : Work) (l : List BedFault) (f : BedSwatchFail) (c : Instr) =>
      c ∈ [Instr.project w l, .projectT w l, .backproject w l, .ortho w l, .momentum w, .nesterov w, .scale w, .residual w, .generate w, .bedSwatch w f] ∧
      s.on BED_STATUS.READY = false) (up) (bedWork 7 0 4 4 8 2 2) ([]) (⟨[], false⟩) (.scale (bedWork 7 0 4 4 8 2 2)) := by
  decide +kernel

theorem test_notReadyPerformsNoWork_2 :
    (fun (s : State) (w : Work) (f : Option StchFault) (c : Instr) =>
      c ∈ [Instr.accumulate w f, .stchPoison w, .stchSwatch w f] ∧ s.on STCH_STATUS.READY = false) (up) (stitchWork 1 2 0) (none) (.stchSwatch (stitchWork 1 2 0) none) := by
  decide +kernel

theorem test_notReadyPerformsNoWork_3 :
    (fun (s : State) (w : Work) (f : Option (Fin 32 × Fin 8)) (k : Fin 32) (u : Option DecodeUpset) (b : Bool) (c : Instr) =>
      c ∈ [Instr.encode w f, .decode w k u, .purlSwatch w b] ∧ s.on PURL_STATUS.READY = false) (up) (purlWork 1 0 0 0) (none) (0) (none) (true) (.purlSwatch (purlWork 1 0 0 0) true) := by
  decide +kernel

theorem test_notReadyPerformsNoWork_4 :
    (fun (s : State) (w : Work) (f : Option (Fin 32)) (c : Instr) =>
      c ∈ [Instr.seal w f, .sealControl w f, .cipherOpen w f] ∧ s.on CIPH_STATUS.READY = false ∧ w.body 0 1 ≠ 15) (up) (cipherWork 2 0 1 4) (none) (.cipherOpen (cipherWork 2 0 1 4) none) := by
  decide +kernel

theorem test_notReadyPerformsNoWork_5 :
    (fun (s : State) (w : Work) (c : Instr) =>
      c ∈ [Instr.stepOpen w, .stepMembership w, .stepFrog w, .stepAbort w, .stepResume w, .stepResend w] ∧
      s.on XPORT_STATUS.READY = false) ((stepState 4).set XPORT_STATUS.READY 0) (stepWork 1 2) (.stepOpen (stepWork 1 2)) := by
  decide +kernel

theorem test_notReadyPerformsNoWork_6 :
    (fun (s : State) (q : Fin 8192) (f : Fetched) =>
      s.hostq.fetched.find? (fun f => f.work.queue == q.val) = some f ∧ s.on HOSTQ_STATUS.READY = true ∧ f.ready = true ∧
      (f.work.flags.testBit 1 = true → s.fenceOpen q = true) ∧
      (s.dispatchCheck f).isNone = true ∧ fieldAt f.work.desc 0 1 = 9 ∧ s.ctl.draining.contains 9 = true) ({ (queueRun 5) with hostq := { up.hostq with fetched := [{ fetchedBed with work := stepWork 1 2 }] }, ctl := { up.ctl with draining := [9] } }) (5) ({ fetchedBed with work := stepWork 1 2 }) := by
  decide +kernel

theorem test_registerAccess_1 :
    (fun (s : State) (m : Master) (msg : MykMsg) (r : Reg) (i j b : Nat) =>
      ((m = .host ∧ msg.type = 3 ∧ msg.len = 0 ∧ msg.payload = [] ∨ m ≠ .host ∧ msg.len = 8)) ∧
      msg.addr % 8 = 0 ∧ s.hlth.bindingOff = false ∧ inDoorbells msg.addr = false ∧
      (findReg msg.addr).map (fun h => (h.reg, h.i, h.j, h.block)) = some (r, i, j, b) ∧
      s.openTo m ⟨r, i, j, b⟩ false 0 = true ∧
      r.base ∉ [INTC_CLAIM.base, TIME_TXQ_LO.base, TIME_NOW.base] ∧ r.flds.all (fun f => f.acc != .rc) = true) (State.reset) (.host) ({ type := 3, tag := 5, addr := 0x00100000 }) (INTC_CTRL) (0) (0) (1) := by
  decide +kernel

theorem test_registerAccess_2 :
    (fun (s : State) (m : Master) (tag : BitVec 10) (e : TxStamp) (rest : List TxStamp) =>
      s.hlth.bindingOff = false ∧ s.time.txq = e :: rest) ({ State.reset with time := { State.reset.time with txq := [TXE] } }) (.host) (3) (TXE) ([]) := by
  decide +kernel

theorem test_registerAccess_3 :
    (fun (s : State) (m : Master) (tag : BitVec 10) =>
      s.hlth.bindingOff = false ∧ s.time.txq = []) (State.reset) (.mgmt) (3) := by
  decide +kernel

theorem test_registerAccess_4 :
    (fun (s : State) (m : Master) (msg : MykMsg) (r : Reg) (i j b : Nat) =>
      let v := BitVec.ofNat 64 (leVal msg.payload)
      ((m = .host ∧ msg.type = 4 ∨ m ≠ .host)) ∧
      msg.len = 8 ∧ msg.payload.length = 8 ∧ msg.addr % 8 = 0 ∧ s.hlth.bindingOff = false ∧ inDoorbells msg.addr = false ∧
      ((findReg msg.addr).map (fun h => (h.reg, h.i, h.j, h.block)) = some (r, i, j, b) ∧ (b = 4 ∨ b = 5) ∧ r.base ≠ (ctrlReg b).base) ∧
      (s.writeCheck m ⟨r, i, j, b⟩ v).isNone = true) ({ State.reset with hlth := { State.reset.hlth with bindingOff := false } }.set TOP_STATE.CAST_PHASE 0x0B) (.host) ({ type := 4, len := 8, addr := MEM_INT_ENABLE.base, payload := le 8 5 }) (MEM_INT_ENABLE) (0) (0) (5) := by
  decide +kernel

theorem test_registerAccess_5 :
    (fun (s : State) (m : Master) (msg : MykMsg) =>
      ((m = .host ∧ msg.type = 4 ∨ m ≠ .host)) ∧
      msg.len = 8 ∧ msg.payload.length = 8 ∧ msg.addr % 8 = 0 ∧ s.hlth.bindingOff = false ∧ inDoorbells msg.addr = false ∧
      (findReg msg.addr).isNone = true) (State.reset) (.host) ({ type := 4, len := 8, addr := 0x000FFFF8, payload := le 8 5 }) := by
  decide +kernel

theorem test_claimReturnsBestSource_1 :
    (fun (s : State) (m : Master) (tag : BitVec 10) (k : Fin 3) (src : Nat) =>
      m.num = k.val ∧ s.hlth.bindingOff = false ∧ src < 2048 ∧ s.deliverable k src = true ∧
      ((∀ x < 2048, s.deliverable k x = true → s.get INTC_SRC.PRIORITY x < s.get INTC_SRC.PRIORITY src ∨ s.get INTC_SRC.PRIORITY x = s.get INTC_SRC.PRIORITY src ∧ src ≤ x))) (claimable) (.host) (7) (0) (1280) := by
  decide +kernel

theorem test_claimReturnsBestSource_2 :
    (fun (s : State) (m : Master) (tag : BitVec 10) (k : Fin 3) =>
      m.num = k.val ∧ s.hlth.bindingOff = false ∧
      ((∀ x < 2048, s.deliverable k x = false))) (State.reset) (.sec) (7) (2) := by
  decide +kernel

theorem test_blockEnable_1 :
    (fun (s : State) (m : Master) (tag : BitVec 10) (b : Fin 18) (v : Word) =>
      1 ≤ b.val ∧ s.on (enableOf b) = false ∧ s.ctl.checking.contains b.val = false ∧
      Writable s m (ctrlReg b) 0 (forced v [(enableOf b, 1)])) (up) (.host) (1) (11) (1) := by
  decide +kernel

theorem test_blockEnable_2 :
    (fun (s : State) (fails : Bool) =>
      s.ctl.checking.contains 7 = true ∧ s.on PHO_CTRL.ENABLE = false) (phoCheck) (false) := by
  decide +kernel

theorem test_blockEnable_3 :
    (fun (s : State) (m : Master) (tag : BitVec 10) (v : Word) =>
      Writable s m TOP_ID 0 (forced v [(enableOf 0, 1)])) (up) (.host) (1) (9) := by
  decide +kernel

theorem test_blockEnable_4 :
    (fun (s : State) (m : Master) (tag : BitVec 10) (v : Word) =>
      Writable s m TOP_ID 0 (forced v [(enableOf 0, 0)])) (up) (.host) (1) (9) := by
  decide +kernel

theorem test_blockEnable_5 :
    (fun (s : State) (b : Fin 18) (fails : Bool) =>
      1 ≤ b.val ∧ b.val ≠ 7 ∧ s.ctl.checking.contains b.val = true ∧ (firstReason (s.configConditions b fails)).isNone = true) ({ up with ctl := { up.ctl with checking := [14] } }) (14) (false) := by
  decide +kernel

theorem test_blockEnable_6 :
    (fun (s : State) (b : Fin 18) (fails : Bool) (r : Nat) =>
      1 ≤ b.val ∧ s.ctl.checking.contains b.val = true ∧ firstReason (s.configConditions b fails) = some r ∧ s.on (enableOf b) = false) ({ up with ctl := { up.ctl with checking := [11] } }) (11) (true) (0x0B20) := by
  decide +kernel

theorem test_blockEnable_7 :
    (fun (s : State) (m : Master) (tag : BitVec 10) (b : Fin 18) (v : Word) =>
      1 ≤ b.val ∧ s.ctl.checking.contains b.val = true ∧
      Writable s m (ctrlReg b) 0 (forced v [(enableOf b, 0)])) ({ up with ctl := { up.ctl with checking := [11] } }) (.host) (1) (11) (0xFF00) := by
  decide +kernel

theorem test_blockEnable_8 :
    (fun (s : State) (m : Master) (tag : BitVec 10) (b : Fin 18) (v : Word) =>
      1 ≤ b.val ∧ s.on (enableOf b) = true ∧ s.ctl.checking.contains b.val = false ∧ s.ctl.draining.contains b.val = false ∧
      s.blockBusy b = false ∧ Writable s m (ctrlReg b) 0 (forced v [(enableOf b, 0)])) (up.set (enableOf 11) 1) (.host) (1) (11) (0xFF00) := by
  decide +kernel

theorem test_blockEnable_9 :
    (fun (s : State) (m : Master) (tag : BitVec 10) (b : Fin 18) (v : Word) =>
      1 ≤ b.val ∧ s.on (enableOf b) = true ∧ s.ctl.checking.contains b.val = false ∧ s.ctl.draining.contains b.val = false ∧
      s.blockBusy b = true ∧ Writable s m (ctrlReg b) 0 (forced v [(enableOf b, 0)])) ((busy 11).set (enableOf 11) 1) (.host) (1) (11) (0xFF00) := by
  decide +kernel

theorem test_blockEnable_10 :
    (fun (s : State) (b : Fin 18) =>
      1 ≤ b.val ∧ s.ctl.draining.contains b.val = true ∧ s.blockBusy b = false) (({ up with ctl := { up.ctl with draining := [11] } }).set (enableOf 11) 1) (11) := by
  decide +kernel

theorem test_forcedSubstitution_1 :
    (fun (s : State) (m : Master) (tag : BitVec 10) (v : Word) =>
      let w := forced v [(BED_SUBST.GO, 1)]
      let g := BED_SUBST.GROUP.of w.toNat
      Writable s m BED_SUBST 0 w ∧ s.bedSpareGone g = false ∧ s.bed.substReq.any (fun r => r.1 == g) = false ∧ s.blockBusy 11 = false) (up) (.host) (9) (0x3B) := by
  decide +kernel

theorem test_forcedSubstitution_2 :
    (fun (s : State) (m : Master) (tag : BitVec 10) (v : Word) =>
      let w := forced v [(BED_SUBST.GO, 1)]
      let g := BED_SUBST.GROUP.of w.toNat
      Writable s m BED_SUBST 0 w ∧ s.bedSpareGone g = false ∧ s.bed.substReq.any (fun r => r.1 == g) = false ∧ s.blockBusy 11 = true) (busy 11) (.host) (9) (0x3B) := by
  decide +kernel

theorem test_forcedSubstitution_3 :
    (fun (s : State) (m : Master) (tag : BitVec 10) (v : Word) =>
      let w := forced v [(BED_SUBST.GO, 1)]
      Writable s m BED_SUBST 0 w ∧ s.bedSpareGone (BED_SUBST.GROUP.of w.toNat) = true) (up.set BED_GROUP_MAP.SUBST_VALID 1 3) (.host) (9) (0x3B) := by
  decide +kernel

theorem test_forcedSubstitution_4 :
    (fun (s : State) (m : Master) (tag : BitVec 10) (v : Word) =>
      let w := forced v [(STCH_SUBST.GO, 1)]
      let c := STCH_SUBST.CLUSTER.of w.toNat
      Writable s m STCH_SUBST 0 w ∧ STCH_SUBST.REQUAL.of w.toNat = 0 ∧ c < 48 ∧ (s.get STCH_CAP.SPARE_FREE).testBit (c / 16) = true ∧ s.stchOnSpare c = false) (up.set STCH_CAP.SPARE_FREE 7) (.host) (9) (17) := by
  decide +kernel

theorem test_forcedSubstitution_5 :
    (fun (s : State) (m : Master) (tag : BitVec 10) (v : Word) =>
      let w := forced v [(STCH_SUBST.GO, 1)]
      let c := STCH_SUBST.CLUSTER.of w.toNat
      Writable s m STCH_SUBST 0 w ∧ STCH_SUBST.REQUAL.of w.toNat = 0 ∧
      ((48 ≤ c ∨ (s.get STCH_CAP.SPARE_FREE).testBit (c / 16) = false))) (up.set STCH_CAP.SPARE_FREE 5) (.host) (9) (17) := by
  decide +kernel

theorem test_forcedSubstitution_6 :
    (fun (s : State) (m : Master) (tag : BitVec 10) (v : Word) =>
      let w := forced v [(STCH_SUBST.REQUAL, 1)]
      let c := STCH_SUBST.CLUSTER.of w.toNat
      Writable s m STCH_SUBST 0 w ∧ STCH_SUBST.GO.of w.toNat = 0 ∧ c < 48 ∧ (s.get STCH_PANEL_MAP.QUARANTINED (c / 16)).testBit (c % 16) = true ∧ s.requalBarred 12 c = false) (up.set STCH_PANEL_MAP.QUARANTINED 2 1) (.host) (9) (17) := by
  decide +kernel

theorem test_forcedSubstitution_7 :
    (fun (s : State) (m : Master) (tag : BitVec 10) (v : Word) =>
      let w := forced v [(STCH_SUBST.REQUAL, 1)]
      let c := STCH_SUBST.CLUSTER.of w.toNat
      Writable s m STCH_SUBST 0 w ∧ STCH_SUBST.GO.of w.toNat = 0 ∧ s.requalBarred 12 c = true) ({ up with hlth := { up.hlth with quarantined := [(12, 17), (12, 17)] } }) (.host) (9) (17) := by
  decide +kernel

theorem test_forcedSubstitution_8 :
    (fun (s : State) (m : Master) (tag : BitVec 10) (v : Word) (k : Nat) =>
      let w := forced v [(PURL_SUBST.GO, 1)]
      Writable s m PURL_SUBST 0 w ∧ PURL_SUBST.REQUAL.of w.toNat = 0 ∧
      ((s.get PURL_CAP.SPARE_FREE).testBit k = true ∧ (k = 0 ∨ k = 1 ∧ (s.get PURL_CAP.SPARE_FREE).testBit 0 = false))) (up.set PURL_CAP.SPARE_FREE 2) (.host) (9) (17) (1) := by
  decide +kernel

theorem test_forcedSubstitution_9 :
    (fun (s : State) (m : Master) (tag : BitVec 10) (v : Word) =>
      let w := forced v [(PURL_SUBST.GO, 1)]
      Writable s m PURL_SUBST 0 w ∧ PURL_SUBST.REQUAL.of w.toNat = 0 ∧ s.get PURL_CAP.SPARE_FREE = 0) (up.set PURL_CAP.SPARE_FREE 0) (.host) (9) (17) := by
  decide +kernel

theorem test_forcedSubstitution_10 :
    (fun (s : State) (m : Master) (tag : BitVec 10) (v : Word) =>
      let w := forced v [(PURL_SUBST.REQUAL, 1)]
      let c := PURL_SUBST.CLUSTER.of w.toNat
      Writable s m PURL_SUBST 0 w ∧ PURL_SUBST.GO.of w.toNat = 0 ∧ (s.get PURL_QUAR.QUARANTINED).testBit c = true ∧ s.requalBarred 13 c = false) (up.set PURL_QUAR.QUARANTINED 2) (.host) (9) (1) := by
  decide +kernel

theorem test_forcedSubstitution_11 :
    (fun (s : State) (m : Master) (tag : BitVec 10) (v : Word) =>
      let w := forced v [(PURL_SUBST.REQUAL, 1)]
      Writable s m PURL_SUBST 0 w ∧ PURL_SUBST.GO.of w.toNat = 0 ∧ s.requalBarred 13 (PURL_SUBST.CLUSTER.of w.toNat) = true) ({ up with hlth := { up.hlth with quarantined := [(13, 1), (13, 1)] } }) (.host) (9) (1) := by
  decide +kernel

theorem test_armedSwitches_1 :
    (fun (s : State) (m : Master) (tag : BitVec 10) (p : Fin 16) (v : Word) =>
      let w := forced v [(PORT_CM_CTRL.SWAP_ARM, 1)]
      Writable s m PORT_CM_CTRL p w ∧ PORT_CM_CTRL.SWAP_CANCEL.of w.toNat = 0 ∧ s.swapArmOk p = true) (up.set PORT_CM_GEN.TX_GEN1 7 2) (.host) (1) (2) (0) := by
  decide +kernel

theorem test_armedSwitches_2 :
    (fun (s : State) (m : Master) (tag : BitVec 10) (p : Fin 16) (v : Word) =>
      let w := forced v [(PORT_CM_CTRL.SWAP_ARM, 1)]
      Writable s m PORT_CM_CTRL p w ∧ PORT_CM_CTRL.SWAP_CANCEL.of w.toNat = 0 ∧ s.swapArmOk p = false) (up.set PORT_CM_CTRL.SWAP_ARM 1 2) (.host) (1) (2) (0) := by
  decide +kernel

theorem test_armedSwitches_3 :
    (fun (s : State) (m : Master) (tag : BitVec 10) (p : Fin 16) (v : Word) =>
      let w := forced v [(PORT_CM_CTRL.SWAP_CANCEL, 1)]
      Writable s m PORT_CM_CTRL p w ∧ PORT_CM_CTRL.SWAP_ARM.of w.toNat = 0) (up.set PORT_CM_CTRL.SWAP_ARM 1 2) (.host) (1) (2) (0) := by
  decide +kernel

theorem test_armedSwitches_4 :
    (fun (s : State) (m : Master) (tag : BitVec 10) (p : Fin 16) (v : Word) (es : List (Nat × Nat)) =>
      let w := forced v [(GATE_CTRL.ARM, 1)]
      Writable s m GATE_CTRL p w ∧ GATE_CTRL.CANCEL.of w.toNat = 0 ∧ s.on GATE_CTRL.ARM p = false ∧
      s.readGateList (if s.get GATE_CTRL.ACTIVE_LIST p = 1 then s.get LIST0_ADDR.ADDR p else s.get LIST1_ADDR.ADDR p) = some es ∧
      s.now + 100000 ≤ s.get BASE_TIME.TIME p) (gated) (.host) (1) (2) (0) ([(5, 7)]) := by
  decide +kernel

theorem test_armedSwitches_5 :
    (fun (s : State) (m : Master) (tag : BitVec 10) (p : Fin 16) (v : Word) =>
      let w := forced v [(GATE_CTRL.ARM, 1)]
      Writable s m GATE_CTRL p w ∧ GATE_CTRL.CANCEL.of w.toNat = 0 ∧
      ((s.on GATE_CTRL.ARM p = true ∨ s.get BASE_TIME.TIME p < s.now + 100000 ∨ (s.readGateList (if s.get GATE_CTRL.ACTIVE_LIST p = 1 then s.get LIST0_ADDR.ADDR p else s.get LIST1_ADDR.ADDR p)).isNone = true))) (up) (.host) (1) (2) (0) := by
  decide +kernel

theorem test_armedSwitches_6 :
    (fun (s : State) (m : Master) (tag : BitVec 10) (p : Fin 16) (v : Word) =>
      let w := forced v [(GATE_CTRL.CANCEL, 1)]
      Writable s m GATE_CTRL p w ∧ GATE_CTRL.ARM.of w.toNat = 0 ∧ s.sched.armedGate.any (fun g => g.1 == p.val) = true ∧
      s.sched.armedGate.all (fun g => g.1 != p.val || decide (s.now < g.2.base)) = true) ({ gated with sched := { gated.sched with armedGate := [(2, ⟨[(5, 7)], 200000⟩)] } }) (.host) (1) (2) (0) := by
  decide +kernel

theorem test_armedSwitches_7 :
    (fun (s : State) (m : Master) (tag : BitVec 10) (v : Word) =>
      Writable s m FAB_EPOCH 0 (forced v [(FAB_EPOCH.ARM, 1)]) ∧ s.on FAB_STATUS.DRAINING = false ∧ s.on FAB_EPOCH.STANDBY_READY = true) ((up.set FAB_EPOCH.STANDBY_READY 1).set FAB_EPOCH.EPOCH 3) (.host) (1) (0) := by
  decide +kernel

theorem test_armedSwitches_8 :
    (fun (s : State) (m : Master) (tag : BitVec 10) (v : Word) =>
      Writable s m FAB_EPOCH 0 (forced v [(FAB_EPOCH.ARM, 1)]) ∧
      ((s.on FAB_STATUS.DRAINING = true ∨ s.on FAB_EPOCH.STANDBY_READY = false))) (up) (.host) (1) (0) := by
  decide +kernel

theorem test_armedSwitches_9 :
    (fun (s : State) (m : Master) (tag : BitVec 10) (v : Word) =>
      let w := forced v [(PHO_TABLE_CMD.RELOAD, 1)]
      Writable s m PHO_TABLE_CMD 0 w) (up) (.host) (1) (63) := by
  decide +kernel

theorem test_armedSwitches_10 :
    (fun (s : State) (m : Master) (tag : BitVec 10) (v : Word) =>
      let standby := 1 - s.get PHO_STEER_CTRL.ACTIVE
      Writable s m PHO_STEER_CTRL 0 (forced v [(PHO_STEER_CTRL.ARM, 1)]) ∧ s.boot.features.testBit 5 = true ∧ s.steerValid standby = true ∧
      s.on PHO_STATUS.STEERING = false ∧ s.pho.hand.all (fun h => !h.announced) = true) (steerable) (.host) (1) (0) := by
  decide +kernel

theorem test_armedSwitches_11 :
    (fun (s : State) (m : Master) (tag : BitVec 10) (v : Word) =>
      Writable s m PHO_STEER_CTRL 0 (forced v [(PHO_STEER_CTRL.ARM, 1)]) ∧
      ((s.boot.features.testBit 5 = false ∨ s.steerValid (1 - s.get PHO_STEER_CTRL.ACTIVE) = false ∨ s.on PHO_STATUS.STEERING = true ∨ s.pho.hand.any (fun h => h.announced) = true))) ({ up with boot := { up.boot with features := 0 } }) (.host) (1) (0) := by
  decide +kernel

theorem test_armedSwitches_12 :
    (fun (s : State) (m : Master) (tag : BitVec 10) (v : Word) (sp : Fin 10) =>
      let w := forced v [(PHO_HANDOVER.GO, 1)]
      Writable s m PHO_HANDOVER 0 w ∧ s.canHandOver = true ∧ s.freeSpare = some sp) (up.set PHO_CAP.SPARES_FREE 3) (.host) (1) (4) (8) := by
  decide +kernel

theorem test_armedSwitches_13 :
    (fun (s : State) (m : Master) (tag : BitVec 10) (v : Word) =>
      Writable s m PHO_HANDOVER 0 (forced v [(PHO_HANDOVER.GO, 1)]) ∧ s.canHandOver = false) (up.set PHO_CAP.SPARES_FREE 0) (.host) (1) (4) := by
  decide +kernel

theorem test_jobRegisters_1 :
    (fun (s : State) (m : Master) (tag : BitVec 10) (j : Fin 128) (v : Word) =>
      let s1 := s.wrReg JOB_CTRL ((⟨JOB_CTRL, j, 0, 9⟩ : Hit).merge (s.rdReg JOB_CTRL j) v) j
      Writable s m JOB_CTRL j v ∧ v.getLsbD 0 = true ∧ s.on JOB_CTRL.ENABLE j = false ∧ (s1.jobCheck j).isNone = true) (jobReady) (.host) (1) (5) (jobWord) := by
  decide +kernel

theorem test_jobRegisters_2 :
    (fun (s : State) (m : Master) (tag : BitVec 10) (j : Fin 128) (v : Word) (r : Nat) =>
      let s1 := s.wrReg JOB_CTRL ((⟨JOB_CTRL, j, 0, 9⟩ : Hit).merge (s.rdReg JOB_CTRL j) v) j
      Writable s m JOB_CTRL j v ∧ v.getLsbD 0 = true ∧ s.on JOB_CTRL.ENABLE j = false ∧ s1.jobCheck j = some r) (up) (.host) (1) (127) (1) (0x090E) := by
  decide +kernel

theorem test_jobRegisters_3 :
    (fun (s : State) (m : Master) (tag : BitVec 10) (j : Fin 128) (v : Word) =>
      Writable s m JOB_CTRL j v ∧ v.getLsbD 0 = false ∧ s.on JOB_CTRL.ENABLE j = true ∧
      (s.stepRec j).state ∉ [1, 2, 3, 4, 5, 6, 7, 8, 9, 10, 0x10, 0x11, 0x13]) ((up.set JOB_CTRL.ENABLE 1 5).set XPORT_STATUS.JOBS_ENABLED 1) (.host) (1) (5) (0) := by
  decide +kernel

theorem test_jobRegisters_4 :
    (fun (s : State) (m : Master) (tag : BitVec 10) (j : Fin 128) (v : Word) =>
      Writable s m JOB_CTRL j v ∧ v.getLsbD 0 = false ∧ s.on JOB_CTRL.ENABLE j = true ∧
      (s.stepRec j).state ∈ [1, 2, 3, 4, 5, 6, 7, 8, 9, 10, 0x10, 0x11, 0x13]) ({ (up.set JOB_CTRL.ENABLE 1 5) with xport := { up.xport with jobs := [(5, { state := 3 })] } }) (.host) (1) (5) (0) := by
  decide +kernel

theorem test_jobRegisters_5 :
    (fun (s : State) (m : Master) (tag : BitVec 10) (j : Fin 128) (second : Bool) (v : Word) =>
      let r := if second then JOB_PARAM1 else JOB_PARAM0
      let s1 := s.wrReg r ((⟨r, j, 0, 9⟩ : Hit).merge (s.rdReg r j) v) j
      Writable s m r j v ∧
      ((s.on JOB_CTRL.ENABLE j = false ∨ (s1.paramCheck j).isNone = true))) (up) (.host) (1) (5) (false) (3) := by
  decide +kernel

theorem test_jobRegisters_6 :
    (fun (s : State) (m : Master) (tag : BitVec 10) (j : Fin 128) (second : Bool) (v : Word) (x : Nat) =>
      let r := if second then JOB_PARAM1 else JOB_PARAM0
      let s1 := s.wrReg r ((⟨r, j, 0, 9⟩ : Hit).merge (s.rdReg r j) v) j
      Writable s m r j v ∧ s.on JOB_CTRL.ENABLE j = true ∧ s1.paramCheck j = some x) ({ (up.set JOB_CTRL.ENABLE 1 5) with boot := { up.boot with features := 0 } }) (.host) (1) (5) (false) (0) (0x0048) := by
  decide +kernel

theorem test_jobRegisters_7 :
    (fun (s : State) (m : Master) (tag : BitVec 10) (v : Word) =>
      let s1 := s.wrReg XPORT_TIMERS ((⟨XPORT_TIMERS, 0, 0, 9⟩ : Hit).merge (s.rdReg XPORT_TIMERS 0) v)
      Writable s m XPORT_TIMERS 0 v ∧ s.jobsOn.all (fun j => decide (4 * s1.get XPORT_TIMERS.KEEPALIVE_MS < s.get JOB_PARAM1.PART_DETECT_MS j)) = true) (up) (.host) (1) (20) := by
  decide +kernel

theorem test_jobRegisters_8 :
    (fun (s : State) (m : Master) (tag : BitVec 10) (v : Word) =>
      let s1 := s.wrReg XPORT_TIMERS ((⟨XPORT_TIMERS, 0, 0, 9⟩ : Hit).merge (s.rdReg XPORT_TIMERS 0) v)
      Writable s m XPORT_TIMERS 0 v ∧ s.jobsOn.any (fun j => decide (s.get JOB_PARAM1.PART_DETECT_MS j ≤ 4 * s1.get XPORT_TIMERS.KEEPALIVE_MS)) = true) (up.set JOB_CTRL.ENABLE 1 5) (.host) (1) (0xFFFF0000) := by
  decide +kernel

theorem test_timeCommands_1 :
    (fun (s : State) (m : Master) (tag : BitVec 10) (v : Word) =>
      Writable s m TIME_SET 0 v) (up) (.host) (1) (0xFFFFFFFFFFFFFFFF) := by
  decide +kernel

theorem test_timeCommands_2 :
    (fun (s : State) (m : Master) (tag : BitVec 10) (v : Word) =>
      Writable s m TIME_STEP 0 v) ({ up.set TIME_NOW.NS 3 with timeFrac := 2 ^ 40 - 1 }) (.host) (1) (0xFFFFFFFFFFFFFFFE) := by
  decide +kernel

theorem test_timeCommands_3 :
    (fun (s : State) (m : Master) (tag : BitVec 10) (v : Word) =>
      Writable s m TIME_OFFSET 0 v ∧ s.timeSource ≠ 1) (up) (.host) (1) (7) := by
  decide +kernel

theorem test_timeCommands_4 :
    (fun (s : State) (m : Master) (tag : BitVec 10) (v : Word) =>
      Writable s m TIME_OFFSET 0 v ∧ s.timeSource = 1 ∧ s.get TIME_STATUS.SERVO_STATE = 1 ∧
      s.get TIME_SERVO_LIMIT.STEP_NS * 2 ^ 16 < (toSigned 64 v.toNat).natAbs) (st [(TOP_STATE.CAST_PHASE, 0x0B, 0, 0), (TIME_STATUS.READY, 1, 0, 0), (TIME_CTRL.SOURCE, 1, 0, 0), (TIME_STATUS.SERVO_STATE, 1, 0, 0)]) (.host) (1) (0xFFF0000000000000) := by
  decide +kernel

theorem test_timeCommands_5 :
    (fun (s : State) (m : Master) (tag : BitVec 10) (v : Word) =>
      Writable s m TIME_CTRL 0 v ∧ TIME_CTRL.ENABLE.of v.toNat = s.get TIME_CTRL.ENABLE ∧
      ((s.on TIME_STATUS.READY = false ∨ TIME_CTRL.SOURCE.of v.toNat = 0))) (up.set TIME_STATUS.SERVO_STATE 2) (.host) (1) (2) := by
  decide +kernel

theorem test_timeCommands_6 :
    (fun (s : State) (m : Master) (tag : BitVec 10) (v : Word) =>
      Writable s m TIME_CTRL 0 v ∧ TIME_CTRL.ENABLE.of v.toNat = s.get TIME_CTRL.ENABLE ∧ s.ctl.checking.contains 14 = false ∧ s.on TIME_STATUS.READY = true ∧
      TIME_CTRL.SOURCE.of v.toNat ∈ [1, 2] ∧ s.on TIME_CTRL.ENABLE = true) (st [(TOP_STATE.CAST_PHASE, 0x0B, 0, 0), (TIME_STATUS.READY, 1, 0, 0), (TIME_CTRL.ENABLE, 1, 0, 0)]) (.host) (1) (3) := by
  decide +kernel

theorem test_timeCommands_7 :
    (fun (s : State) (m : Master) (tag : BitVec 10) (v : Word) =>
      Writable s m TIME_CMD 0 (forced v [(TIME_CMD.HOLD, 1)]) ∧ TIME_CMD.REACQUIRE.of (forced v [(TIME_CMD.HOLD, 1)]).toNat = 0 ∧
      s.get TIME_STATUS.SERVO_STATE ∈ [1, 2]) (up.set TIME_STATUS.SERVO_STATE 2) (.host) (1) (0) := by
  decide +kernel

theorem test_timeCommands_8 :
    (fun (s : State) (m : Master) (tag : BitVec 10) (v : Word) =>
      Writable s m TIME_CMD 0 (forced v [(TIME_CMD.HOLD, 1)]) ∧ TIME_CMD.REACQUIRE.of (forced v [(TIME_CMD.HOLD, 1)]).toNat = 0 ∧
      s.get TIME_STATUS.SERVO_STATE ∉ [1, 2]) (up) (.host) (1) (0) := by
  decide +kernel

theorem test_timeCommands_9 :
    (fun (s : State) (m : Master) (tag : BitVec 10) (v : Word) =>
      Writable s m TIME_CMD 0 (forced v [(TIME_CMD.REACQUIRE, 1)]) ∧ TIME_CMD.HOLD.of (forced v [(TIME_CMD.REACQUIRE, 1)]).toNat = 0) (up.set TIME_STATUS.SERVO_STATE 3) (.host) (1) (0) := by
  decide +kernel

theorem test_timeEvents_1 :
    (fun (s : State) =>
      s.get TIME_STATUS.SERVO_STATE ∈ [1, 2]) (up.set TIME_STATUS.SERVO_STATE 1) := by
  decide +kernel

theorem test_timeEvents_4 :
    (fun (s : State) (f : Bool) =>
      let ns := (s.get TIME_NOW.NS + 2 ^ 64 - s.get TIME_PPS_CFG.IN_COMP_NS) % 2 ^ 64
      let o := ((s.set TIME_PPS_IN.NS ns).fromSecond ns).1 * 2 ^ 16
      f = s.on TIME_PPS_CFG.IN_FALLING ∧ s.timeSource = 2 ∧ s.get TIME_STATUS.SERVO_STATE = 2 ∧
      1000 * 2 ^ 16 < (o - s.time.oPred).natAbs) ({ st [(TIME_STATUS.READY, 1, 0, 0), (TIME_CTRL.SOURCE, 2, 0, 0), (TIME_STATUS.SERVO_STATE, 2, 0, 0), (TIME_NOW.NS, 400000000, 0, 0)] with timeFrac := 0 }) (false) := by
  decide +kernel

theorem test_timeEvents_5 :
    (fun (s : State) (f : Bool) =>
      f = s.on TIME_PPS_CFG.IN_FALLING ∧ s.timeSource ≠ 2) (up.set TIME_NOW.NS 1000) (false) := by
  decide +kernel

theorem test_timeEvents_6 :
    (fun (s : State) (f : Bool) =>
      f ≠ s.on TIME_PPS_CFG.IN_FALLING) (up) (true) := by
  decide +kernel

theorem test_interruptCommands_1 :
    (fun (s : State) (m : Master) (tag : BitVec 10) (v : Word) =>
      let src := INTC_RAISE.SOURCE.of v.toNat
      Writable s m INTC_RAISE 0 v ∧ 1280 ≤ src ∧ src < 2048 ∧ s.isActive src = false) (up) (.host) (1) (1280) := by
  decide +kernel

theorem test_interruptCommands_2 :
    (fun (s : State) (m : Master) (tag : BitVec 10) (v : Word) =>
      let src := INTC_RAISE.SOURCE.of v.toNat
      Writable s m INTC_RAISE 0 v ∧ 1280 ≤ src ∧ src < 2048 ∧ s.isActive src = true) ({ up with intc := { up.intc with active := [⟨1300, 0, 2⟩] } }) (.host) (1) (1300) := by
  decide +kernel

theorem test_interruptCommands_3 :
    (fun (s : State) (m : Master) (tag : BitVec 10) (v : Word) =>
      Writable s m INTC_RAISE 0 v ∧ INTC_RAISE.SOURCE.of v.toNat < 1280) (up) (.host) (1) (1279) := by
  decide +kernel

theorem test_interruptCommands_4 :
    (fun (s : State) (m : Master) (tag : BitVec 10) (k : Fin 3) (v : Word) (a : ActiveSrc) =>
      Writable s m INTC_COMPLETE k v ∧
      s.intc.active.find? (fun x => x.src == INTC_COMPLETE.SOURCE.of v.toNat && x.target == k.val) = some a) ({ up with intc := { up.intc with active := [⟨1300, 0, 2⟩] } }) (.host) (1) (0) (1300) (⟨1300, 0, 2⟩) := by
  decide +kernel

theorem test_interruptCommands_5 :
    (fun (s : State) (m : Master) (tag : BitVec 10) (k : Fin 3) (v : Word) =>
      Writable s m INTC_COMPLETE k v ∧ s.intc.active.any (fun x => x.src == INTC_COMPLETE.SOURCE.of v.toNat && x.target == k.val) = false) (up) (.mgmt) (1) (1) (1300) := by
  decide +kernel

theorem test_interruptCommands_6 :
    (fun (s : State) (m : Master) (tag : BitVec 10) (src : Fin 2048) (v : Word) =>
      Writable s m INTC_SRC src v ∧ reservedSource src = false) (up) (.host) (1) (2047) (1) := by
  decide +kernel

theorem test_interruptCommands_7 :
    (fun (s : State) (m : Master) (tag : BitVec 10) (src : Fin 2048) (v : Word) =>
      Writable s m INTC_SRC src v ∧ reservedSource src = true) (up) (.host) (1) (1177) (1) := by
  decide +kernel

theorem test_interruptCommands_8 :
    (fun (s : State) (m : Master) (tag : BitVec 10) (k : Fin 4) (v : Word) =>
      Writable s m TOP_MBOX k v ∧ s.isActive (1173 + k.val) = false) (up) (.sec) (1) (1) (77) := by
  decide +kernel

theorem test_interruptCommands_9 :
    (fun (s : State) =>
      s.hostPriority ≠ 0 ∧ s.hostLost = false) (claimable) := by
  decide +kernel

theorem test_mykabelLink_1 :
    (fun (s : State) (lanes : BitVec 4) =>
      s.get TOP_MYK_STATUS.STATE ∈ [0, 2] ∧ mykWidth lanes.toNat ≠ 0) (State.reset) (15) := by
  decide +kernel

theorem test_mykabelLink_2 :
    (fun (s : State) (first : Bool) =>
      (if first then 0 else s.myk.replays) + 1 < 16) ({ State.reset with myk := { State.reset.myk with replays := 14 } }) (false) := by
  decide +kernel

theorem test_mykabelLink_3 :
    (fun (s : State) (first : Bool) =>
      16 ≤ (if first then 0 else s.myk.replays) + 1 ∧ s.get TOP_MYK_STATUS.STATE = 1) ({ State.reset.set TOP_MYK_STATUS.STATE 1 with myk := { State.reset.myk with replays := 15 } }) (false) := by
  decide +kernel

theorem test_mykabelLink_4 :
    (fun (s : State) =>
      s.get TOP_MYK_STATUS.STATE = 1) (State.reset.set TOP_MYK_STATUS.STATE 1) := by
  decide +kernel

theorem test_mykabelLink_5 :
    (fun (s : State) =>
      s.get TOP_MYK_STATUS.STATE ∈ [0, 2]) ((State.reset.set TOP_MYK_STATUS.STATE 2).set Q_CFG.ENABLE 1 8191) := by
  decide +kernel

theorem test_mykabelLink_6 :
    (fun (s : State) (lanes : BitVec 4) =>
      s.hostLost = true ∧ mykWidth lanes.toNat ≠ 0) (State.reset.set TOP_MYK_STATUS.STATE 3) (1) := by
  decide +kernel

theorem test_mykabelLink_7 :
    (fun (s : State) (msg : MykMsg) (r : HostRead) =>
      s.myk.reads.find? (fun x => x.1 == msg.tag) = some (msg.tag, r) ∧ msg.type = 7 ∧ msg.status = 0 ∧ msg.payload.length = r.len ∧ msg.len = r.len ∧
      r.queue = none ∧ s.myk.toRead = []) (reading) ({ type := 7, tag := 3, len := 8, payload := le 8 77 }) (RD) := by
  decide +kernel

theorem test_mykabelLink_8 :
    (fun (s : State) (msg : MykMsg) =>
      (s.myk.reads.any (fun x => x.1 == msg.tag) = true ∧ (msg.type ≠ 7 ∨ msg.status = 3))) (reading) ({ type := 6, tag := 3 }) := by
  decide +kernel

theorem test_mykabelLink_9 :
    (fun (s : State) (msg : MykMsg) =>
      s.myk.reads.any (fun x => x.1 == msg.tag) = false) (reading) ({ type := 7, tag := 4 }) := by
  decide +kernel

theorem test_mykabelLink_10 :
    (fun (s : State) (tag : Fin 1024) (r : HostRead) =>
      s.myk.reads.find? (fun x => x.1 == tag.val) = some (tag.val, r) ∧ r.queue = none ∧ s.myk.toRead = []) (reading) (3) (RD) := by
  decide +kernel

theorem test_doorbells_1 :
    (fun (s : State) (q : Fin 8192) (v : BitVec 64) =>
      s.on HOSTQ_STATUS.READY = true ∧ s.inLineRange q = false ∧ s.on Q_CFG.ENABLE q = true ∧
      diff16 (s.get Q_PTR.SQ_TAIL q) (s.get Q_PTR.SQ_HEAD q) ≤ diff16 (v.toNat % 2 ^ 16) (s.get Q_PTR.SQ_HEAD q) ∧
      diff16 (v.toNat % 2 ^ 16) (s.get Q_PTR.SQ_HEAD q) ≤ s.sqSize q) (queueUp 5) (5) (256) := by
  decide +kernel

theorem test_doorbells_2 :
    (fun (s : State) (q : Fin 8192) (v : BitVec 64) =>
      s.on HOSTQ_STATUS.READY = true ∧ s.inLineRange q = false ∧ s.on Q_CFG.ENABLE q = true ∧
      (diff16 (v.toNat % 2 ^ 16) (s.get Q_PTR.SQ_HEAD q) < diff16 (s.get Q_PTR.SQ_TAIL q) (s.get Q_PTR.SQ_HEAD q) ∨
        s.sqSize q < diff16 (v.toNat % 2 ^ 16) (s.get Q_PTR.SQ_HEAD q))) (queueUp 5) (5) (257) := by
  decide +kernel

theorem test_doorbells_3 :
    (fun (s : State) (q : Fin 8192) (v : BitVec 64) (cq : Bool) =>
      s.on HOSTQ_STATUS.READY = true ∧ s.inLineRange q = false ∧ s.on Q_CFG.ENABLE q = false) (up.set HOSTQ_STATUS.READY 1) (5) (1) (true) := by
  decide +kernel

theorem test_doorbells_4 :
    (fun (s : State) (q : Fin 8192) (v : BitVec 64) =>
      s.on HOSTQ_STATUS.READY = true ∧ s.inLineRange q = false ∧ s.on Q_CFG.ENABLE q = true ∧
      diff16 (v.toNat % 2 ^ 16) (s.get Q_PTR.CQ_HEAD q) ≤ diff16 (s.get Q_PTR.CQ_TAIL q) (s.get Q_PTR.CQ_HEAD q)) (((queueUp 5).set Q_PTR.CQ_TAIL 256 5).set Q_STATUS.CQ_FULL 1 5) (5) (0x100FF) := by
  decide +kernel

theorem test_doorbells_5 :
    (fun (s : State) (q : Fin 8192) (v : BitVec 64) =>
      s.on HOSTQ_STATUS.READY = true ∧ s.inLineRange q = false ∧ s.on Q_CFG.ENABLE q = true ∧
      diff16 (s.get Q_PTR.CQ_TAIL q) (s.get Q_PTR.CQ_HEAD q) < diff16 (v.toNat % 2 ^ 16) (s.get Q_PTR.CQ_HEAD q)) (queueUp 5) (5) (1) := by
  decide +kernel

theorem test_queueEnable_1 :
    (fun (s : State) (m : Master) (tag : BitVec 10) (q : Fin 8192) (v : Word) =>
      let s1 := s.wrReg Q_CFG ((⟨Q_CFG, q, 0, 2⟩ : Hit).merge (s.rdReg Q_CFG q) v) q
      Writable s m Q_CFG q v ∧ s.inLineRange q = false ∧ v.getLsbD 0 = true ∧ s.on Q_CFG.ENABLE q = false ∧
      s.on Q_STATUS.DRAINING q = false ∧ (s1.queueCheck q).isNone = true) ({ (queueSet 5) with hostq := { up.hostq with abandoned := [⟨5, 3, []⟩] } }) (.host) (1) (5) (0x108000101) := by
  decide +kernel

theorem test_queueEnable_2 :
    (fun (s : State) (m : Master) (tag : BitVec 10) (q : Fin 8192) (v : Word) (r : Nat) =>
      let s1 := s.wrReg Q_CFG ((⟨Q_CFG, q, 0, 2⟩ : Hit).merge (s.rdReg Q_CFG q) v) q
      Writable s m Q_CFG q v ∧ s.inLineRange q = false ∧ v.getLsbD 0 = true ∧ s.on Q_CFG.ENABLE q = false ∧
      s.on Q_STATUS.DRAINING q = false ∧ s1.queueCheck q = some r) (queueSet 5) (.host) (1) (5) (1) (0x0210) := by
  decide +kernel

theorem test_queueEnable_3 :
    (fun (s : State) (m : Master) (tag : BitVec 10) (q : Fin 8192) (v : Word) =>
      Writable s m Q_CFG q v ∧ s.inLineRange q = false ∧ v.getLsbD 0 = false ∧ s.on Q_CFG.ENABLE q = true) ({ (queueUp 5) with hostq := { up.hostq with dispatched := [⟨⟨5, 0, [11]⟩, 0, 0, 0, false, [], 0⟩] } }) (.host) (1) (5) (0x108000100) := by
  decide +kernel

theorem test_queueEnable_4 :
    (fun (s : State) (m : Master) (tag : BitVec 10) (q : Fin 8192) (v : Word) =>
      Writable s m Q_CFG q v ∧ s.inLineRange q = true) (up) (.host) (1) (0x1000) (0x108000001) := by
  decide +kernel

theorem test_queueEnable_5 :
    (fun (s : State) (q : Fin 8192) =>
      s.on Q_STATUS.DRAINING q = true ∧
      s.hostq.dispatched.any (fun d => d.work.queue == q.val) = false ∧ s.hostq.finished.any (fun d => d.work.queue == q.val) = false) (up.set Q_STATUS.DRAINING 1 8191) (8191) := by
  decide +kernel

theorem test_fetchAndDispatch_1 :
    (fun (s : State) (q : Fin 8192) =>
      let n := (s.hostq.fetched.filter (fun f => f.work.queue == q.val && f.work.index != 0xFFFF)).length
      let i := (s.get Q_PTR.SQ_HEAD q + n) % 2 ^ 16
      let a := s.get Q_SQ.ADDR q * 128 + 128 * (i % s.sqSize q)
      s.on HOSTQ_STATUS.READY = true ∧ (s.engineFor q).isSome = true ∧ s.on Q_CFG.ENABLE q = true ∧ s.on Q_STATUS.STOPPED q = false ∧
      s.on Q_STATUS.CQ_FULL q = false ∧ n < 8 ∧ i ≠ s.get Q_PTR.SQ_TAIL q ∧
      s.isPoisoned a 128 = false ∧ (s.memCheck (s.get Q_CFG.CLASS q) false a 128).isNone = true ∧ isHost a = false) (queueRun 5) (5) := by
  decide +kernel

theorem test_fetchAndDispatch_2 :
    (fun (s : State) (q : Fin 8192) (g : Nat) =>
      let n := (s.hostq.fetched.filter (fun f => f.work.queue == q.val && f.work.index != 0xFFFF)).length
      let i := (s.get Q_PTR.SQ_HEAD q + n) % 2 ^ 16
      let a := s.get Q_SQ.ADDR q * 128 + 128 * (i % s.sqSize q)
      s.on HOSTQ_STATUS.READY = true ∧ (s.engineFor q).isSome = true ∧ s.on Q_CFG.ENABLE q = true ∧ s.on Q_STATUS.STOPPED q = false ∧
      s.on Q_STATUS.CQ_FULL q = false ∧ n < 8 ∧ i ≠ s.get Q_PTR.SQ_TAIL q ∧
      s.isPoisoned a 128 = false ∧ (s.memCheck (s.get Q_CFG.CLASS q) false a 128).isNone = true ∧ isHost a = true ∧
      s.freeTag = some g) ((queueRun 5).set Q_SQ.ADDR (hostBase / 128 + 32) 5) (5) (0) := by
  decide +kernel

theorem test_fetchAndDispatch_3 :
    (fun (s : State) (q : Fin 8192) (fails : Bool) =>
      let n := (s.hostq.fetched.filter (fun f => f.work.queue == q.val && f.work.index != 0xFFFF)).length
      let i := (s.get Q_PTR.SQ_HEAD q + n) % 2 ^ 16
      let a := s.get Q_SQ.ADDR q * 128 + 128 * (i % s.sqSize q)
      s.on HOSTQ_STATUS.READY = true ∧ (s.engineFor q).isSome = true ∧ s.on Q_CFG.ENABLE q = true ∧ s.on Q_STATUS.STOPPED q = false ∧
      s.on Q_STATUS.CQ_FULL q = false ∧ n < 8 ∧ i ≠ s.get Q_PTR.SQ_TAIL q ∧
      (fails = true ∨ s.isPoisoned a 128 = true)) (queueRun 5) (5) (true) := by
  decide +kernel

theorem test_fetchAndDispatch_4 :
    (fun (s : State) (q : Fin 8192) (f : Fetched) =>
      s.hostq.fetched.find? (fun f => f.work.queue == q.val) = some f ∧ s.on HOSTQ_STATUS.READY = true ∧ f.ready = true ∧
      (f.work.flags.testBit 1 = true → s.fenceOpen q = true) ∧
      (s.dispatchCheck f).isNone = true ∧ s.dispatchHeld f.work.block = false ∧ s.ctl.draining.contains f.work.block = false ∧
      (f.work.index ≠ 0xFFFF ∧ (isHost (s.get Q_WB.ADDR q * 8) = false ∨ s.hostLost = false))) ({ ((queueRun 5).set Q_WB.ADDR 64 5) with hostq := { up.hostq with fetched := [fetchedBed] } }) (5) (fetchedBed) := by
  decide +kernel

theorem test_fetchAndDispatch_5 :
    (fun (s : State) (q : Fin 8192) (f : Fetched) =>
      s.hostq.fetched.find? (fun f => f.work.queue == q.val) = some f ∧ s.on HOSTQ_STATUS.READY = true ∧ f.ready = true ∧
      (f.work.flags.testBit 1 = true → s.fenceOpen q = true) ∧
      headerOk (s.get Q_CFG.KIND q) f.work.desc = false) ({ (queueRun 5) with hostq := { up.hostq with fetched := [{ fetchedBed with work := ⟨5, 0, [3]⟩ }] } }) (5) ({ fetchedBed with work := ⟨5, 0, [3]⟩ }) := by
  decide +kernel

theorem test_fetchAndDispatch_6 :
    (fun (s : State) (q : Fin 8192) (f : Fetched) (r : Nat) =>
      s.hostq.fetched.find? (fun f => f.work.queue == q.val) = some f ∧ s.on HOSTQ_STATUS.READY = true ∧ f.ready = true ∧
      (f.work.flags.testBit 1 = true → s.fenceOpen q = true) ∧
      (s.dispatchCheck f).isNone = true ∧ s.dispatchHeld f.work.block = false ∧ s.ctl.draining.contains f.work.block = true ∧
      notReadyReason f.work.desc = some r) ({ (queueRun 5) with hostq := { up.hostq with fetched := [fetchedBed] }, ctl := { up.ctl with draining := [11] } }) (5) (fetchedBed) (0x0B0D) := by
  decide +kernel

theorem test_completionRecords_1 :
    (fun (s : State) (q : Fin 8192) (f : Finished) =>
      let a := s.get Q_CQ.ADDR q * 64 + 64 * (s.get Q_PTR.CQ_TAIL q % s.cqSize q)
      s.hostq.finished.find? (fun f => f.work.queue == q.val) = some f ∧ f.work.desc.length = 128 ∧
      (f.chains = false ∧ (f.work.flags.testBit 3 = false ∨ f.res.error = true ∨ f.res.warning = true) ∧ s.cqUsed q < s.cqSize q) ∧
      (f.refused = false ∧ f.samplers = [] ∧ (isHost a = false ∨ s.hostLost = false))) ({ (queueRun 5) with hostq := { up.hostq with finished := [finishedBed 1], armed := [5] } }) (5) (finishedBed 1) := by
  decide +kernel

theorem test_completionRecords_2 :
    (fun (s : State) (q : Fin 8192) (f : Finished) =>
      s.hostq.finished.find? (fun f => f.work.queue == q.val) = some f ∧ f.chains = false ∧
      ((f.work.flags.testBit 3 = false ∨ f.res.error = true ∨ f.res.warning = true) ∧ s.cqSize q ≤ s.cqUsed q)) ({ (queueRun 5).set Q_PTR.CQ_TAIL 256 5 with hostq := { up.hostq with finished := [finishedBed 1] } }) (5) (finishedBed 1) := by
  decide +kernel

theorem test_completionRecords_3 :
    (fun (s : State) (q : Fin 8192) (f : Finished) =>
      s.hostq.finished.find? (fun f => f.work.queue == q.val) = some f ∧ f.chains = false ∧ f.refused = false ∧ f.samplers = [] ∧
      f.work.flags.testBit 3 = true ∧ f.res.error = false ∧ f.res.warning = false) ({ (queueRun 5) with hostq := { up.hostq with finished := [finishedBed 8] } }) (5) (finishedBed 8) := by
  decide +kernel

theorem test_completionRecords_4 :
    (fun (s : State) (q : Fin 8192) (f : Finished) =>
      let a := f.work.field 24 8
      s.hostq.finished.find? (fun f => f.work.queue == q.val) = some f ∧ f.samplers = [] ∧
      (f.chains = true ∧ s.chainOk f = true ∧ (f.work.flags.testBit 3 = true ∨ s.cqUsed q < s.cqSize q)) ∧
      isHost a = false ∧ s.isPoisoned a 128 = false ∧ (s.memCheck (s.get Q_CFG.CLASS f.nextQueue) false a 128).isNone = true) ({ ((queueRun 5).set Q_CFG.CHAIN_IN 1 5) with hostq := { up.hostq with finished := [finishedBed 4] } }) (5) (finishedBed 4) := by
  decide +kernel

theorem test_completionRecords_5 :
    (fun (s : State) (q : Fin 8192) (f : Finished) =>
      let a := s.get Q_CQ.ADDR q * 64 + 64 * (s.get Q_PTR.CQ_TAIL q % s.cqSize q)
      s.hostq.finished.find? (fun f => f.work.queue == q.val) = some f ∧ f.work.desc.length = 128 ∧ f.samplers = [] ∧
      (f.chains = true ∧ s.chainOk f = false ∧ s.cqUsed q < s.cqSize q ∧ (isHost a = false ∨ s.hostLost = false))) ({ (queueRun 5) with hostq := { up.hostq with finished := [finishedBed 4] } }) (5) (finishedBed 4) := by
  decide +kernel

theorem test_completionRecords_6 :
    (fun (s : State) (w : Work) =>
      w ∈ s.rerun ∧ w.block % 32 = 13) ({ up with rerun := [⟨5, 0, [13]⟩] }) (⟨5, 0, [13]⟩) := by
  decide +kernel

theorem test_completionRecords_7 :
    (fun (s : State) (w : Work) (c : Fin 32) (e : Fin 8) (j : Nat) =>
      w ∈ s.rerun ∧ w.block % 32 = 13 ∧ s.purlInService c = true ∧ s.entryOf w.job = some j) ({ (((up.set PURL_CTRL.CLUSTER_EN 0xFFFFFFFF).set JOB_CTRL.ENABLE 1 5).set JOB_CTRL.JOB_ID 7 5) with rerun := [⟨5, 0, [13, 0, 0, 0, 7, 0]⟩] }) (⟨5, 0, [13, 0, 0, 0, 7, 0]⟩) (3) (2) (5) := by
  decide +kernel

theorem test_communication_1 :
    (fun (s : State) (w : Work) =>
      let n := w.body 4 4
      let e := s.readBytes (s.get Q_GROUP.ADDR w.queue * 64 + 16 * w.body 2 2) 16
      let c := getBits (fieldAt e 4 2) 0 12
      s.fabReady = true ∧ w.body 0 1 = 1 ∧ 0 < n ∧ n ≤ 16777216 ∧ w.body 8 8 % 64 = 0 ∧ w.body 2 2 < s.get Q_GROUP.MEMBERS w.queue ∧
      (s.badAccess (s.classOf w) (commAccess w)).isNone = true ∧ s.readsPoison (commAccess w) = false ∧
      (s.circAt c).valid = true ∧ (s.circAt c).inbound = false ∧ (s.circAt c).tenant = w.tenant) (putState) (putWork 1 2) := by
  decide +kernel

theorem test_communication_2 :
    (fun (s : State) (w : Work) =>
      let n := w.body 4 4
      let k := s.get Q_GROUP.MEMBERS w.queue
      let e : Nat → Bytes := fun i => s.readBytes (s.get Q_GROUP.ADDR w.queue * 64 + 16 * i) 16
      let c : Nat → Nat := fun i => getBits (fieldAt (e i) 4 2) 0 12
      s.fabReady = true ∧ w.body 0 1 = 2 ∧ 0 < n ∧ n ≤ 16777216 ∧ w.body 8 8 % 64 = 0 ∧ 0 < k ∧
      (s.badAccess (s.classOf w) (commAccess w)).isNone = true ∧ s.readsPoison (commAccess w) = false ∧
      ((∀ i < k, (s.circAt (c i)).valid = true ∧ (s.circAt (c i)).inbound = false ∧ (s.circAt (c i)).tenant = w.tenant))) (putState) (putWork 2 0) := by
  decide +kernel

theorem test_communication_3 :
    (fun (s : State) (w : Work) (all : Bool) =>
      s.fabReady = false) (up) (putWork 1 2) (false) := by
  decide +kernel

theorem test_communication_4 :
    (fun (s : State) (w : Work) =>
      (s.fabReady = true ∧ (w.body 4 4 = 0 ∨ s.get Q_GROUP.MEMBERS w.queue ≤ w.body 2 2))) (putState) (putWork 1 3) := by
  decide +kernel

theorem test_lineScheduling_1 :
    (fun (s : State) (p : Fin 16) (n y : Nat) (x : LineShard) =>
      s.on SCHED_STATUS.READY = true ∧ p.val ∉ s.sched.portOut ∧ p.val < s.line.length ∧
      leastBy (s.tenantTag p) ((s.portTenants p).filter (s.tenantEligible p)) = some n ∧ s.yarnFor p n = some y ∧
      s.controlShard p n = some x) (lineSched true) (3) (0) (2) (⟨3, 0x1000, 0, true, false, [1, 2, 3]⟩) := by
  decide +kernel

theorem test_lineScheduling_2 :
    (fun (s : State) (p : Fin 16) (n y q : Nat) (x : LineShard) =>
      s.on SCHED_STATUS.READY = true ∧ p.val ∉ s.sched.portOut ∧ p.val < s.line.length ∧
      leastBy (s.tenantTag p) ((s.portTenants p).filter (s.tenantEligible p)) = some n ∧ s.yarnFor p n = some y ∧
      (s.controlShard p n).isNone = true ∧ leastBy (s.queueTag p) (s.eligibleQueues p n) = some q ∧
      s.queueShard p q = some x ∧ s.inLineRange q = true) (lineSched false) (3) (0) (2) (0x1001) (⟨3, 0x1001, 0, false, true, [4, 5, 6]⟩) := by
  decide +kernel

theorem test_lineScheduling_3 :
    (fun (s : State) =>
      Regs.wf s.csr = true) (((((up.set TENANT_CFG.SHAPE_EN 1 255).set TENANT_CFG.RATE 100 255).set TENANT_BURST.TOKENS 0xFFFFFF00 255).set LQ_CFG.SHAPE_EN 1 2063).set LQ_CFG.RATE 100 2063) := by
  decide +kernel

theorem test_stepDescriptors_1 :
    (fun (s : State) (w : Work) (j : Nat) =>
      let r := s.stepRec j
      let m := r.nextMembers.getD (s.get JOB_CTRL.SITES j)
      (s.stepDescCheck 1 w).toOption = some j ∧ r.mayOpen w.step = true ∧ r.openable = true ∧ r.heldOpens = [] ∧
      m &&& r.reachable = m) (stepState 0x0B) (stepWork 1 2) (3) := by
  decide +kernel

theorem test_stepDescriptors_2 :
    (fun (s : State) (w : Work) (j : Nat) =>
      let r := s.stepRec j
      ((s.stepDescCheck 1 w).toOption = some j ∧ r.mayOpen w.step = true ∧ (r.openable = false ∨ r.heldOpens ≠ []))) (stepState 4) (stepWork 1 2) (3) := by
  decide +kernel

theorem test_stepDescriptors_3 :
    (fun (s : State) (w : Work) (j : Nat) =>
      (s.stepDescCheck 1 w).toOption = some j ∧ (s.stepRec j).mayOpen w.step = false) (stepState 0x0B) (stepWork 1 3) (3) := by
  decide +kernel

theorem test_stepDescriptors_4 :
    (fun (s : State) (j : Fin 128) (w : Work) (ws : List Work) =>
      let r := s.stepRec j
      let m := r.nextMembers.getD (s.get JOB_CTRL.SITES j)
      r.heldOpens = w :: ws ∧ r.openable = true ∧ r.mayOpen w.step = true ∧ m &&& r.reachable = m) ({ (stepState 0x0B) with xport := { up.xport with jobs := [(3, { stepRec3 0x0B with heldOpens := [stepWork 1 2] })] } }) (3) (stepWork 1 2) ([]) := by
  decide +kernel

theorem test_stepDescriptors_5 :
    (fun (s : State) (w : Work) (j : Nat) =>
      let r := s.stepRec j
      let m := w.body 4 2
      (s.stepDescCheck 2 w).toOption = some j ∧ m.testBit s.localSite = true ∧ m &&& s.get JOB_CTRL.SITES j = m ∧ w.step = r.step ∧
      (r.state = 1 ∨ r.state = 2)) (stepState 2) ({ stepWork 2 1 with desc := (stepWork 2 1).desc.take 68 ++ le 2 1 ++ zeros 58 }) (3) := by
  decide +kernel

theorem test_stepDescriptors_6 :
    (fun (s : State) (w : Work) (j : Nat) =>
      (s.stepDescCheck 2 w).toOption = some j ∧ (w.body 4 2).testBit s.localSite = false) (stepState 2) (stepWork 2 1) (3) := by
  decide +kernel

theorem test_stepDescriptors_7 :
    (fun (s : State) (w : Work) (j : Nat) =>
      let r := s.stepRec j
      (s.stepDescCheck 3 w).toOption = some j ∧ w.step = r.step ∧ r.frog < r.par JOB_PARAM0.FROG_MAX ∧
      ((w.body 1 1 = 0 ∧ 3 ≤ r.state ∧ r.state ≤ 7) ∨ (w.body 1 1 = 1 ∧ (r.state = 6 ∨ r.state = 7)))) (stepState 7) ({ stepWork 3 1 with desc := (stepWork 3 1).desc.take 65 ++ le 1 1 ++ zeros 62 }) (3) := by
  decide +kernel

theorem test_stepDescriptors_8 :
    (fun (s : State) (w : Work) (j : Nat) =>
      let r := s.stepRec j
      (s.stepDescCheck 3 w).toOption = some j ∧ w.step = r.step ∧ r.par JOB_PARAM0.FROG_MAX ≤ r.frog ∧ w.body 1 1 = 0 ∧ 3 ≤ r.state ∧ r.state ≤ 7) ({ (stepState 4) with xport := { up.xport with jobs := [(3, { stepRec3 4 with frog := 2 })] } }) (stepWork 3 1) (3) := by
  decide +kernel

theorem test_stepDescriptors_9 :
    (fun (s : State) (w : Work) (j : Nat) =>
      (s.stepDescCheck 4 w).toOption = some j ∧ w.step = (s.stepRec j).step) (stepState 4) (stepWork 4 1) (3) := by
  decide +kernel

theorem test_stepDescriptors_10 :
    (fun (s : State) (w : Work) (j : Nat) =>
      (s.stepDescCheck 4 w).toOption = some j ∧ w.step ≠ (s.stepRec j).step) (stepState 4) (stepWork 4 2) (3) := by
  decide +kernel

theorem test_stepDescriptors_11 :
    (fun (s : State) (w : Work) (j : Nat) =>
      let r := s.stepRec j
      let m := r.nextMembers.getD (s.get JOB_CTRL.SITES j)
      (s.stepDescCheck 5 w).toOption = some j ∧ r.state = 0x12 ∧ w.step ≠ 0 ∧ m &&& r.reachable = m) (stepState 0x12) (stepWork 5 9) (3) := by
  decide +kernel

theorem test_stepDescriptors_12 :
    (fun (s : State) (w : Work) (j : Nat) (o : OwedChunk) =>
      let r := s.stepRec j
      (s.stepDescCheck 6 w).toOption = some j ∧ w.step = r.step ∧ 3 ≤ r.state ∧ r.state ≤ 7 ∧
      s.xport.owed.find? (fun o => o.entry == j && o.site == w.body 2 1 && o.step == r.step && o.chunk == w.body 8 4 && o.failed) = some o) ({ (stepState 4) with xport := { up.xport with jobs := [(3, stepRec3 4)], owed := [stepOwed] } }) ({ stepWork 6 1 with desc := (stepWork 6 1).desc.take 66 ++ le 1 1 ++ zeros 5 ++ le 4 77 ++ zeros 52 }) (3) (stepOwed) := by
  decide +kernel

theorem test_stepProgress_1 :
    (fun (s : State) (j : Fin 128) =>
      (s.stepRec j).state = 2) (stepState 2) (3) := by
  decide +kernel

theorem test_stepProgress_2 :
    (fun (s : State) (j : Fin 128) (b : Nat) =>
      let r := s.stepRec j
      ((r.state, b) ∈ [(1, 2), (5, 6), (8, 9), (9, 0x0A), (0x11, 0x0B)] ∨ (r.state = 3 ∧ s.scatterDone r 0 = true ∧ b = 4) ∨
        (r.state = 6 ∧ s.scatterDone r 1 = true ∧ b = 7) ∨ (r.state = 4 ∧ gatherDone r 0 = true ∧ r.par JOB_PARAM0.RANK ≠ 0 ∧ b = 5) ∨
        (r.state = 4 ∧ gatherDone r 0 = true ∧ r.par JOB_PARAM0.RANK = 0 ∧ r.unclean = [] ∧ b = 8) ∨
        (r.state = 7 ∧ gatherDone r 1 = true ∧ r.unclean = [] ∧ b = 8))) (stepState 1) (3) (2) := by
  decide +kernel

theorem test_stepProgress_3 :
    (fun (s : State) (j : Fin 128) =>
      let r := s.stepRec j
      ((r.state = 4 ∧ gatherDone r 0 = true ∧ r.par JOB_PARAM0.RANK = 0) ∨ (r.state = 7 ∧ gatherDone r 1 = true)) ∧
      r.unclean ≠ []) ({ (stepState 7) with xport := { up.xport with jobs := [(3, { stepRec3 7 with chunks1 := 1 })] } }) (3) := by
  decide +kernel

theorem test_stepProgress_4 :
    (fun (s : State) (j : Fin 128) =>
      let r := s.stepRec j
      ((r.state = 3 ∧ s.scatterDone r 0 = false) ∨ (r.state = 4 ∧ gatherDone r 0 = false) ∨ r.state = 0 ∨ r.state = 0x10)) ({ (stepState 4) with xport := { up.xport with jobs := [(3, { stepRec3 4 with chunks1 := 1 })] } }) (3) := by
  decide +kernel

theorem test_stepProgress_5 :
    (fun (s : State) (j : Fin 128) =>
      let r := s.stepRec j
      r.stalled = false ∧ r.state ∈ [3, 4, 6, 7]) ({ (stepState 4) with xport := { up.xport with jobs := [(3, { stepRec3 4 with chunks1 := 2 })] } }) (3) := by
  decide +kernel

theorem test_stepProgress_6 :
    (fun (s : State) (j : Fin 128) =>
      let r := s.stepRec j
      r.cleanWait = true) ({ (stepState 7) with xport := { up.xport with jobs := [(3, { stepRec3 7 with chunks1 := 2, cleanWait := true })] } }) (3) := by
  decide +kernel

theorem test_stepProgress_7 :
    (fun (s : State) (j : Fin 128) =>
      let r := s.stepRec j
      r.state = 0x0A ∧ s.xport.retained.any (fun x => x.entry == j.val && x.step == r.step && !x.acked && r.reachable.testBit x.peer) = false ∧
      r.rejoinDue = 0) (stepState 0x0A) (3) := by
  decide +kernel

theorem test_partitionAndRejoin_1 :
    (fun (s : State) (j : Fin 128) (site : Fin 16) =>
      let r := s.stepRec j
      s.on JOB_CTRL.ENABLE j = true ∧ r.reachable.testBit site = true ∧ site.val ≠ s.localSite ∧
      s.xport.contact.any (fun c => c.1 == site.val && decide (s.mono < c.2 + 1000000 * r.par JOB_PARAM1.PART_DETECT_MS)) = false) (stepState 4) (3) (1) := by
  decide +kernel

theorem test_partitionAndRejoin_2 :
    (fun (s : State) (j : Fin 128) (site : Fin 16) =>
      let r := s.stepRec j
      s.on JOB_CTRL.ENABLE j = true ∧ r.reachable.testBit site = true ∧ site.val ≠ s.localSite ∧
      s.xport.contact.any (fun c => c.1 == site.val && decide (s.mono < c.2 + 1000000 * r.par JOB_PARAM1.PART_DETECT_MS)) = false ∧
      r.members.testBit site = true ∧ 1 ≤ r.state ∧ r.state ≤ 7 ∧ r.policy = 1) (stepState 4) (3) (1) := by
  decide +kernel

theorem test_partitionAndRejoin_4 :
    (fun (s : State) (j : Fin 128) (site : Fin 16) (c : CtrlIn) =>
      let b := c.body
      let x : RejoinMsg := ⟨site, fieldAt b 0 4, fieldAt b 4 4, fieldAt b 8 1, fieldAt b 9 1 == 1, fieldAt b 10 2, (slice b 12 16).map (·.toNat)⟩
      let r : StepRec := { s.stepRec j with rejoins := (s.stepRec j).rejoins.filter (fun x => x.site ≠ site.val) ++ [x] }
      (s.takeMail j site 9).map (·.1) = some c ∧ r.rejoinDue = 0) ({ (stepState 4) with xport := { up.xport with jobs := [(3, stepRec3 4)], inbox := [rejoinMail] } }) (3) (1) (rejoinMail) := by
  decide +kernel

theorem test_partitionAndRejoin_5 :
    (fun (s : State) (j : Fin 128) (site : Fin 16) (c : CtrlIn) =>
      let b := c.body
      let x : RejoinMsg := ⟨site, fieldAt b 0 4, fieldAt b 4 4, fieldAt b 8 1, fieldAt b 9 1 == 1, fieldAt b 10 2, (slice b 12 16).map (·.toNat)⟩
      let r : StepRec := { s.stepRec j with rejoins := (s.stepRec j).rejoins.filter (fun x => x.site ≠ site.val) ++ [x] }
      (s.takeMail j site 9).map (·.1) = some c ∧ r.rejoinDue = 1 <<< site.val ∧ r.state = 0x0B) ({ (stepState 0x0B) with xport := { up.xport with jobs := [(3, { stepRec3 0x0B with rejoinDue := 2 })], inbox := [rejoinMail] } }) (3) (1) (rejoinMail) := by
  decide +kernel

theorem test_partitionAndRejoin_6 :
    (fun (s : State) (j : Fin 128) =>
      (s.stepRec j).state = 0x13) (stepState 0x13) (3) := by
  decide +kernel

theorem test_bedProducts_1 :
    (fun (s : State) (w : Work) =>
      s.bedCheck 1 w = none ∧ s.bed.substReq = none ∧ s.readsPoison (bedAccess w) = false ∧ s.hostLost = false ∧
      w.field 16 8 = 0 ∧ bFlag w 0 = false ∧ bFlag w 3 = false ∧ bAddr w 2 ≠ 0) (bedState) (bedWork 1 0 4 0 8 2 2) := by
  decide +kernel

theorem test_bedProducts_2 :
    (fun (s : State) (w : Work) =>
      s.bedCheck 1 w = none ∧ s.bed.substReq = none ∧ s.readsPoison (bedAccess w) = false ∧ s.hostLost = false ∧
      w.field 16 8 = 0 ∧ bFlag w 0 = true ∧ bAddr w 2 = 0) (bedState) ({ bedWork 1 9 1 1 8 2 2 with desc := (bedWork 1 9 1 1 8 2 2).desc.take 96 ++ zeros 8 ++ (bedWork 1 9 1 1 8 2 2).desc.drop 104 }) := by
  decide +kernel

theorem test_bedProducts_3 :
    (fun (s : State) (w : Work) =>
      s.bedCheck 2 w = none ∧ s.bed.substReq = none ∧ s.readsPoison (bedAccess w) = false ∧ s.hostLost = false ∧
      w.field 16 8 = 0 ∧ bAddr w 2 ≠ 0) (bedState) (bedWork 2 0 4 0 8 2 2) := by
  decide +kernel

theorem test_bedProducts_4 :
    (fun (s : State) (w : Work) =>
      s.bedCheck 3 w = none ∧ s.bed.substReq = none ∧ s.readsPoison (bedAccess w) = false ∧ s.hostLost = false ∧ w.field 16 8 = 0 ∧
      ((bFlag w 1 = false ∧ bFlag w 2 = true ∧ bAddr w 2 ≠ 0) ∨ (bFlag w 1 = true ∧ bFlag w 2 = false))) (bedState) (bedWork 3 4 4 0 8 2 2) := by
  decide +kernel

theorem test_bedProducts_5 :
    (fun (s : State) (w : Work) =>
      s.bedCheck 9 w = none ∧ s.bed.substReq = none ∧ s.hostLost = false ∧ w.field 16 8 = 0 ∧ bAddr w 2 ≠ 0) (bedState) (bedWork 9 0 0 0 8 2 2) := by
  decide +kernel

theorem test_bedProducts_6 :
    (fun (s : State) (w : Work) =>
      s.bedCheck 4 w = none ∧ s.bed.substReq = none ∧ s.readsPoison (bedAccess w) = false ∧ s.hostLost = false ∧
      w.field 16 8 = 0 ∧ bAddr w 2 ≠ 0) (bedState) (bedWork 4 0 4 0 8 8 2) := by
  decide +kernel

theorem test_selvedgeResults_1 :
    (fun (s : State) (w : Work) (nesterov : Bool) =>
      let n := bRows w * bCols w
      s.bedCheck (if nesterov then 6 else 5) w = none ∧ s.bed.substReq = none ∧ s.readsPoison (bedAccess w) = false ∧ s.hostLost = false ∧
      w.field 16 8 = 0 ∧ bFlag w 4 = false ∧ bAddr w 2 = 0 ∧
      (bAddr w 3 + n * 4 ≤ bAddr w 4 ∨ bAddr w 4 + n * 4 ≤ bAddr w 3)) (bedState) ({ bedWork 5 0 1 1 8 2 2 with desc := (bedWork 5 0 1 1 8 2 2).desc.take 96 ++ zeros 8 ++ (bedWork 5 0 1 1 8 2 2).desc.drop 104 }) (false) := by
  decide +kernel

theorem test_selvedgeResults_2 :
    (fun (s : State) (w : Work) =>
      s.bedCheck 8 w = none ∧ s.bed.substReq = none ∧ s.readsPoison (bedAccess w) = false ∧ s.hostLost = false ∧ w.field 16 8 = 0) (bedState) (bedWork 8 0 1 1 8 2 2) := by
  decide +kernel

theorem test_selvedgeResults_3 :
    (fun (s : State) (w : Work) =>
      s.bedCheck 7 w = none ∧ s.bed.substReq = none ∧ s.readsPoison (bedAccess w) = false ∧ s.hostLost = false ∧
      w.field 16 8 = 0 ∧ bAddr w 2 ≠ 0) (bedState) (bedWork 7 0 4 4 8 2 2) := by
  decide +kernel

theorem test_bedFaultsAndSwatches_1 :
    (fun (s : State) (w : Work) (r : Nat) (c : Instr) (op : Nat) =>
      (op, c) ∈ [(1, Instr.project w []), (2, .projectT w []), (3, .backproject w []), (4, .ortho w []), (5, .momentum w), (6, .nesterov w),
        (7, .scale w), (8, .residual w), (9, .generate w)] ∧
      s.bedCheck op w = some r ∧ s.bed.substReq = none ∧ r ≠ 0x0B03) (up) (bedWork 3 4 4 0 8 2 2) (0x0B0D) (.backproject (bedWork 3 4 4 0 8 2 2) []) (3) := by
  decide +kernel

theorem test_bedFaultsAndSwatches_2 :
    (fun (s : State) (w : Work) (c : Instr) (op : Nat) =>
      (op, c) ∈ [(1, Instr.project w []), (2, .projectT w []), (3, .backproject w []), (4, .ortho w []), (5, .momentum w), (6, .nesterov w),
        (7, .scale w), (8, .residual w), (9, .generate w)] ∧
      s.bedCheck op w = none ∧ s.bed.substReq = none ∧ s.readsPoison (bedAccess w) = true) ({ bedState with poison := [0x1001] }) (bedWork 3 4 4 0 8 2 2) (.backproject (bedWork 3 4 4 0 8 2 2) []) (3) := by
  decide +kernel

theorem test_bedFaultsAndSwatches_3 :
    (fun (s : State) (w : Work) (c : Instr) (op : Nat) =>
      (op, c) ∈ [(1, Instr.project w []), (2, .projectT w []), (3, .backproject w []), (4, .ortho w []), (5, .momentum w), (6, .nesterov w),
        (7, .scale w), (8, .residual w), (9, .generate w)] ∧
      s.bedCheck op w = none ∧ s.bed.substReq = none ∧ s.readsPoison (bedAccess w) = false) (bedState) (bedWork 8 0 1 1 8 2 2) (.residual (bedWork 8 0 1 1 8 2 2)) (8) := by
  decide +kernel

theorem test_bedFaultsAndSwatches_4 :
    (fun (s : State) (w : Work) (g : Fin 8) (k : Fin 64) (c : Instr) (op : Nat) =>
      let fs : List BedFault := [⟨g, .column k⟩]
      (op, c) ∈ [(1, Instr.project w fs), (2, .projectT w fs), (3, .backproject w fs), (4, .ortho w fs)] ∧
      s.bedCheck op w = none ∧ s.bed.substReq = none ∧ s.readsPoison (bedAccess w) = false ∧ s.groupOn g = true ∧ s.on BED_CHECK.CHECK_ROW = true ∧
      s.bedSpareGone g = false) (bedState) (bedWork 2 0 4 0 8 2 2) (3) (5) (.projectT (bedWork 2 0 4 0 8 2 2) [⟨3, .column 5⟩]) (2) := by
  decide +kernel

theorem test_bedFaultsAndSwatches_5 :
    (fun (s : State) (w : Work) =>
      s.bedCheck 0x0F w = none ∧ s.bed.substReq = none) (bedState) (bedWork 15 0 0 0 8 2 2) := by
  decide +kernel

theorem test_bedFaultsAndSwatches_6 :
    (fun (s : State) (w : Work) (g : Fin 8) (k : Fin 64) =>
      s.bedCheck 0x0F w = none ∧ s.bed.substReq = none ∧ s.groupOn g = true ∧ s.bedSpareGone g = false) (bedState) (bedWork 15 0 0 0 8 2 2) (3) (5) := by
  decide +kernel

theorem test_bedFaultsAndSwatches_7 :
    (fun (s : State) =>
      s.on BED_STATUS.READY = true) ({ bedState with bed := { up.bed with suspect := [(7, 1, 0)] } }) := by
  decide +kernel

theorem test_bedFaultsAndSwatches_8 :
    (fun (s : State) =>
      s.on BED_STATUS.READY = true) (bedState) := by
  decide +kernel

theorem test_stitchAccumulate_1 :
    (fun (s : State) (w : Work) (c : Nat) =>
      let x : Slot := openSlot w c
      let fi := w.body 2 1 % 16
      s.stchCheck w = none ∧ s.stch.slots.any (fun y => y.index == x.index) = false ∧ s.leastCluster = some c ∧ 1 < x.expect ∧
      s.isPoisoned (w.body 16 8) (x.elements * fmtBytes fi) = false ∧ w.field 16 8 = 0) (stitchState) (stitchWork 1 2 0x3F800000) (0) := by
  decide +kernel

theorem test_stitchAccumulate_2 :
    (fun (s : State) (w : Work) (x : Slot) (a : List Nat) =>
      let fi := w.body 2 1 % 16
      s.stchCheck w = none ∧ s.stch.slots.find? (fun y => y.index == w.body 6 2 % 2 ^ 14) = some x ∧ x.done = false ∧
      x.job = w.job ∧ x.step = w.step ∧ x.chunk = w.body 8 4 ∧ x.frog = w.body 5 1 % 8 ∧ x.expect = w.body 4 1 ∧ x.elements = w.body 12 4 ∧
      x.fmtOut = w.body 2 1 / 16 ∧ x.terms.any (fun t => t.site == w.body 1 1 % 16 && t.kind == getBits (w.body 1 1) 4 2) = false ∧
      s.isPoisoned (w.body 16 8) (x.elements * fmtBytes fi) = false ∧ w.field 16 8 = 0 ∧
      x.sums = some a ∧ a.length = x.elements ∧ x.terms.length + 1 < x.expect) ({ stitchState with stch := { up.stch with slots := [stitchSlot 3] } }) (stitchWork 2 3 0x3F800000) (stitchSlot 3) ([0x3F800000, 0x40000000]) := by
  decide +kernel

theorem test_stitchAccumulate_3 :
    (fun (s : State) (w : Work) (x : Slot) (a : List Nat) =>
      let fi := w.body 2 1 % 16
      let v : Nat → Machine.Num := fun i => (decodeNum fi 0 (s.readLe (w.body 16 8 + i * fmtBytes fi) (fmtBytes fi))).1
      let vs := (List.range x.elements).map (fun i => (addTerm (termWeight w) (some (a.getD i 0)) (v i)).code)
      let y : Slot := { x with done := true, terms := x.terms ++ [⟨w, w.body 1 1 % 16, getBits (w.body 1 1) 4 2⟩], sums := some vs }
      let n := x.elements * fmtBytes x.fmtOut
      s.stchCheck w = none ∧ s.stch.slots.find? (fun y => y.index == w.body 6 2 % 2 ^ 14) = some x ∧ x.done = false ∧
      x.job = w.job ∧ x.step = w.step ∧ x.chunk = w.body 8 4 ∧ x.frog = w.body 5 1 % 8 ∧ x.expect = w.body 4 1 ∧ x.elements = w.body 12 4 ∧
      x.fmtOut = w.body 2 1 / 16 ∧ x.terms.any (fun t => t.site == w.body 1 1 % 16 && t.kind == getBits (w.body 1 1) 4 2) = false ∧
      s.isPoisoned (w.body 16 8) (x.elements * fmtBytes fi) = false ∧ w.field 16 8 = 0 ∧ (termWeight w).isZero = false ∧
      x.sums = some a ∧ a.length = x.elements ∧ x.expect ≤ x.terms.length + 1 ∧ x.addrOut + n ≤ hostBase) ({ stitchState with stch := { up.stch with slots := [stitchSlot 2] } }) (stitchWork 2 2 0x3F800000) (stitchSlot 2) ([0x3F800000, 0x40000000]) := by
  decide +kernel

theorem test_stitchAccumulate_4 :
    (fun (s : State) (w : Work) (r : Nat) (f : Option StchFault) =>
      s.stchCheck w = some r ∧ r ≠ 0x0C03) (up) (stitchWork 1 2 0) (0x0C0C) (none) := by
  decide +kernel

theorem test_stitchAccumulate_5 :
    (fun (s : State) (w : Work) (c : Nat) =>
      let x : Slot := openSlot w c
      s.stchCheck w = none ∧ s.stch.slots.any (fun y => y.index == x.index) = false ∧ s.leastCluster = some c ∧
      s.isPoisoned (w.body 16 8) (x.elements * fmtBytes (w.body 2 1 % 16)) = true) ({ stitchState with poison := [0x1000] }) (stitchWork 1 2 0) (0) := by
  decide +kernel

theorem test_stitchAccumulate_6 :
    (fun (s : State) (w : Work) (x : Slot) (f : Option StchFault) =>
      s.stchCheck w = none ∧ s.stch.slots.find? (fun y => y.index == w.body 6 2 % 2 ^ 14) = some x ∧ x.done = false ∧
      x.job = w.job ∧ x.step = w.step ∧ x.chunk = w.body 8 4 ∧ x.frog = w.body 5 1 % 8 ∧ x.expect = w.body 4 1 ∧ x.elements = w.body 12 4 ∧
      x.fmtOut = w.body 2 1 / 16 ∧ x.terms.any (fun t => t.site == w.body 1 1 % 16 && t.kind == getBits (w.body 1 1) 4 2) = true ∧ w.field 16 8 = 0) ({ stitchState with stch := { up.stch with slots := [stitchSlot 3] } }) (stitchWork 1 3 0x3F800000) (stitchSlot 3) (none) := by
  decide +kernel

theorem test_stitchAccumulate_7 :
    (fun (s : State) (w : Work) (x : Slot) (f : Option StchFault) =>
      s.stchCheck w = none ∧ s.stch.slots.find? (fun y => y.index == w.body 6 2 % 2 ^ 14) = some x ∧ x.done = true ∧ x.chunk ≠ w.body 8 4) ({ stitchState with stch := { up.stch with slots := [{ stitchSlot 3 with done := true, chunk := 9 }] } }) (stitchWork 1 3 0) ({ stitchSlot 3 with done := true, chunk := 9 }) (none) := by
  decide +kernel

theorem test_stitchAccumulate_8 :
    (fun (s : State) (k : Fin 16384) (w : Work) (c : Nat) =>
      let x : Slot := openSlot w c
      s.stch.waiting.find? (fun w => w.body 6 2 % 2 ^ 14 == k.val) = some w ∧ s.stch.slots.any (fun y => y.index == k.val) = false ∧
      s.leastCluster = some c ∧ 1 < x.expect ∧ w.field 16 8 = 0 ∧
      s.isPoisoned (w.body 16 8) (x.elements * fmtBytes (w.body 2 1 % 16)) = false) ({ stitchState with stch := { up.stch with waiting := [stitchWork 1 2 0] } }) (5) (stitchWork 1 2 0) (0) := by
  decide +kernel

theorem test_stitchFaultsAndNotices_1 :
    (fun (s : State) (w : Work) (c : Nat) (f : StchFault) =>
      let x : Slot := openSlot w c
      s.stchCheck w = none ∧ s.stch.slots = [] ∧ s.leastCluster = some c ∧ w.job ≠ 0 ∧
      s.isPoisoned (w.body 16 8) (x.elements * fmtBytes (w.body 2 1 % 16)) = false) (stitchState) (stitchWork 1 2 0) (0) (⟨some 3, none, 1, 0, false⟩) := by
  decide +kernel

theorem test_stitchFaultsAndNotices_2 :
    (fun (s : State) (c : Fin 48) =>
      s.on STCH_STATUS.READY = true ∧ s.stchInService c = true) ({ stitchState with stch := { up.stch with slots := [{ stitchSlot 3 with done := true }] } }) (0) := by
  decide +kernel

theorem test_stitchFaultsAndNotices_3 :
    (fun (s : State) (c : Fin 48) (f : StchFault) =>
      s.on STCH_STATUS.READY = true ∧ s.stchInService c = true) (stitchState) (47) (⟨none, none, 0, 0, false⟩) := by
  decide +kernel

theorem test_stitchFaultsAndNotices_4 :
    (fun (s : State) (w : Work) =>
      let c := w.body 6 2 % 64
      s.on STCH_STATUS.READY = true ∧ w.body 0 1 = 0x0F ∧ c < 48 ∧ s.stchInService c = true ∧ w.field 16 8 = 0) ({ stitchState with stch := { up.stch with slots := [{ stitchSlot 3 with cluster := 5, done := true }] } }) (stitchWork 15 2 0) := by
  decide +kernel

theorem test_stitchFaultsAndNotices_5 :
    (fun (s : State) (w : Work) (f : StchFault) =>
      let c := w.body 6 2 % 64
      s.on STCH_STATUS.READY = true ∧ w.body 0 1 = 0x0F ∧ c < 48 ∧ s.stchInService c = true) (stitchState) (stitchWork 15 2 0) (⟨none, none, 0, 0, false⟩) := by
  decide +kernel

theorem test_stitchFaultsAndNotices_6 :
    (fun (s : State) (w : Work) (j : Nat) =>
      s.on STCH_STATUS.READY = true ∧ w.body 0 1 = 2 ∧ s.entryOf w.job = some j ∧ w.field 16 8 = 0) ({ (stepState 4) with csr := ((stepState 4).set STCH_STATUS.READY 1).csr }) ({ stitchWork 2 2 0 with desc := le 4 12 ++ le 4 7 ++ zeros 56 ++ le 1 2 ++ zeros 63 }) (3) := by
  decide +kernel

theorem test_stitchFaultsAndNotices_7 :
    (fun (s : State) (w : Work) =>
      s.on STCH_STATUS.READY = true ∧ w.body 0 1 = 2 ∧ (s.entryOf w.job).isNone = true) (stitchState) ({ stitchWork 2 2 0 with desc := le 4 12 ++ le 4 7 ++ zeros 56 ++ le 1 2 ++ zeros 63 }) := by
  decide +kernel

theorem test_stitchFaultsAndNotices_8 :
    (fun (s : State) (j : Fin 128) (site : Fin 16) (c : CtrlIn) =>
      let b := padTo 64 c.body
      (s.takeMail j site 3).map (·.1) = some c ∧
      (crc32c (b.take 60) ≠ fieldAt b 60 4 ∨ (fieldAt b 8 4 = (s.stepRec j).step ∧ fieldAt b 13 1 % 8 < (s.stepRec j).frog))) ({ (stepState 4) with xport := { up.xport with inbox := [{ noticeMail 1 0 with body := [] }] } }) (3) (1) ({ noticeMail 1 0 with body := [] }) := by
  decide +kernel

theorem test_stitchFaultsAndNotices_9 :
    (fun (s : State) (j : Fin 128) (site : Fin 16) (c : CtrlIn) =>
      let b := padTo 64 c.body
      (s.takeMail j site 3).map (·.1) = some c ∧ crc32c (b.take 60) = fieldAt b 60 4 ∧ (s.stepRec j).step < fieldAt b 8 4 ∧
      diff16 (s.get STCH_NOTICE_PTR.WR_PTR) (s.get STCH_NOTICE_PTR.RD_PTR) < 2 ^ s.get STCH_NOTICE_PTR.SIZE_LOG2) ({ (stepState 4) with xport := { up.xport with jobs := [(3, stepRec3 4)], inbox := [noticeMail 2 0] } }) (3) (1) (noticeMail 2 0) := by
  decide +kernel

theorem test_stitchFaultsAndNotices_10 :
    (fun (s : State) (j : Fin 128) (site : Fin 16) (c : CtrlIn) =>
      let b := padTo 64 c.body
      let r := s.stepRec j
      (s.takeMail j site 3).map (·.1) = some c ∧ crc32c (b.take 60) = fieldAt b 60 4 ∧ fieldAt b 8 4 = r.step ∧ r.frog ≤ fieldAt b 13 1 % 8 ∧
      1 ≤ r.state ∧ r.state ≤ 7 ∧ r.frog < r.par JOB_PARAM0.FROG_MAX ∧ r.par JOB_PARAM0.FROG_AUTO ≠ 0 ∧ fieldAt b 12 1 % 4 = 0) ({ (stepState 4) with xport := { up.xport with jobs := [(3, { stepRec3 4 with param0 := 0xFFFFFFFFFFFFFFFF })], inbox := [noticeMail 1 0] } }) (3) (1) (noticeMail 1 0) := by
  decide +kernel

theorem test_fabricReceive_1 :
    (fun (s : State) (p : RxPacket) (x : IngestWindow) =>
      let b := p.bytes
      let k := packetKey b
      s.fabReady = true ∧ p.overrun = false ∧ headerValid b = true ∧ payloadValid b = true ∧ s.localEp k.dst = true ∧
      (s.endpoint k.src).any (fun e => e.tenant == pktTenant b && e.mask.testBit k.cls) = true ∧ (getBits (fieldAt b 1 1) 0 2 + 4 - s.get FAB_EPOCH.EPOCH) % 4 ≠ 2 ∧
      pktOp b = 1 ∧ k.cls ≤ 1 ∧ (fieldAt b 1 1).testBit 7 = true ∧ (fieldAt b 1 1).testBit 6 = false ∧ pktLen b ≠ 8 ∧
      (s.windowFor true (pktTenant b) (pktRemote b) (pktLen b)).map (·.flags) = some x.flags ∧ x.flags.testBit 3 = false ∧ s.memCheck 4 true (pktRemote b) (pktLen b) = none ∧ pktRemote b + pktLen b ≤ hostBase) (fabState) (inPacket 0 1 0x4010 7 [5, 6, 7]) (⟨0, 0, 9, 7, 0⟩) := by
  decide +kernel

theorem test_fabricReceive_2 :
    (fun (s : State) (p : RxPacket) =>
      let b := p.bytes
      let k := packetKey b
      let src := pktPayload b
      s.fabReady = true ∧ p.overrun = false ∧ headerValid b = true ∧ payloadValid b = true ∧ s.localEp k.dst = true ∧
      (s.endpoint k.src).any (fun e => e.tenant == pktTenant b && e.mask.testBit k.cls) = true ∧ (getBits (fieldAt b 1 1) 0 2 + 4 - s.get FAB_EPOCH.EPOCH) % 4 ≠ 2 ∧
      pktOp b = 2 ∧ k.cls ≤ 1 ∧ (fieldAt b 1 1).testBit 7 = true ∧ 1 ≤ fieldAt src 8 4 ∧ fieldAt src 8 4 ≤ 4096 ∧
      (s.windowFor false (pktTenant b) (pktRemote b) (fieldAt src 8 4)).isSome = true ∧ s.memCheck 4 false (pktRemote b) (fieldAt src 8 4) = none ∧
      s.isPoisoned (pktRemote b) (fieldAt src 8 4) = false) (fabState.writeBytes 0x4020 [9, 8]) (inPacket 0 2 0x4020 7 (le 8 0x9000 ++ le 4 2 ++ zeros 4)) := by
  decide +kernel

theorem test_fabricReceive_3 :
    (fun (s : State) (p : RxPacket) (r : Nat × Nat) =>
      let b := p.bytes
      let k := packetKey b
      s.fabReady = true ∧ p.overrun = false ∧ headerValid b = true ∧ payloadValid b = true ∧ s.localEp k.dst = true ∧
      (s.endpoint k.src).any (fun e => e.tenant == pktTenant b && e.mask.testBit k.cls) = true ∧ (getBits (fieldAt b 1 1) 0 2 + 4 - s.get FAB_EPOCH.EPOCH) % 4 ≠ 2 ∧
      pktOp b = 3 ∧ k.cls = 2 ∧ (fieldAt b 1 1).testBit 7 = true ∧ (fieldAt b 1 1).testBit 6 = false ∧ pktRemote b + pktLen b ≤ hostBase ∧
      s.fab.reads.find? (fun r => decide (r.1 ≤ pktRemote b ∧ pktRemote b + pktLen b ≤ r.1 + r.2)) = some r) ({ fabState with fab := { fabState.fab with reads := [(0x9000, 16)] } }) (inPacket 2 3 0x9000 7 [5, 6]) ((0x9000, 16)) := by
  decide +kernel

theorem test_fabricReceive_4 :
    (fun (s : State) (p : RxPacket) =>
      let b := p.bytes
      let k := packetKey b
      s.fabReady = true ∧ p.overrun = false ∧ headerValid b = true ∧ payloadValid b = true ∧ s.localEp k.dst = true ∧
      (s.endpoint k.src).any (fun e => e.tenant == pktTenant b && e.mask.testBit k.cls) = true ∧ (getBits (fieldAt b 1 1) 0 2 + 4 - s.get FAB_EPOCH.EPOCH) % 4 ≠ 2 ∧
      pktOp b = 6 ∧ k.cls = 4 ∧ (fieldAt b 1 1).testBit 7 = true ∧ p.ringFull = false ∧ (eventType (pktPayload b)).isNone = true) (fabState) (inPacket 4 6 0 7 [5, 6]) := by
  decide +kernel

theorem test_fabricReceive_5 :
    (fun (s : State) (p : RxPacket) =>
      let b := p.bytes
      let k := packetKey b
      let q := pktPayload b
      let f := s.fabTx (replyTarget b (fieldAt q 4 1) (fieldAt q 5 1))
      s.fabReady = true ∧ p.overrun = false ∧ headerValid b = true ∧ payloadValid b = true ∧ s.localEp k.dst = true ∧
      (s.endpoint k.src).any (fun e => e.tenant == pktTenant b && e.mask.testBit k.cls) = true ∧ (getBits (fieldAt b 1 1) 0 2 + 4 - s.get FAB_EPOCH.EPOCH) % 4 ≠ 2 ∧
      pktOp b = 4 ∧ k.cls = 2 ∧ f.pkts.all (fun x => x.msg.isNone && x.opcode != 6) = true) (fabFlow { pkts := [outPacket 1 4 true false, outPacket 1 5 true false] }) (inPacket 2 4 0 7 (le 4 5 ++ zeros 4)) := by
  decide +kernel

theorem test_fabricReceive_6 :
    (fun (s : State) (p : RxPacket) =>
      let b := p.bytes
      let k := packetKey b
      let q := pktPayload b
      s.fabReady = true ∧ p.overrun = false ∧ headerValid b = true ∧ payloadValid b = true ∧ s.localEp k.dst = true ∧
      (s.endpoint k.src).any (fun e => e.tenant == pktTenant b && e.mask.testBit k.cls) = true ∧ (getBits (fieldAt b 1 1) 0 2 + 4 - s.get FAB_EPOCH.EPOCH) % 4 ≠ 2 ∧
      (pktOp b = 5 ∧ k.cls = 2 ∧ (fieldAt q 4 2 = 0x0619 ∨ fieldAt q 4 2 = 0x061A))) (fabFlow { pkts := [outPacket 1 4 true false, outPacket 1 5 true false] }) (inPacket 2 5 0 7 (le 4 5 ++ le 2 0x0619 ++ zeros 2)) := by
  decide +kernel

theorem test_fabricReceive_7 :
    (fun (s : State) (p : RxPacket) (m : FabMsg) (x : FabPkt) =>
      let b := p.bytes
      let k := packetKey b
      let q := pktPayload b
      let f := s.fabTx (replyTarget b (fieldAt q 6 1) k.ch)
      s.fabReady = true ∧ p.overrun = false ∧ headerValid b = true ∧ payloadValid b = true ∧ s.localEp k.dst = true ∧
      (s.endpoint k.src).any (fun e => e.tenant == pktTenant b && e.mask.testBit k.cls) = true ∧ (getBits (fieldAt b 1 1) 0 2 + 4 - s.get FAB_EPOCH.EPOCH) % 4 ≠ 2 ∧
      pktOp b = 5 ∧ k.cls = 2 ∧ fieldAt q 4 2 = 0x0605 ∧ f.pkts.find? (fun x => x.sent && x.seq == fieldAt q 0 4) = some x ∧ x.msg = some m.id ∧
      s.fab.msgs.find? (fun y => y.id == m.id) = some m) ({ (fabFlow { pkts := [{ outPacket 1 5 true false with msg := some 8 }] }) with fab := { (fabFlow { pkts := [{ outPacket 1 5 true false with msg := some 8 }] }).fab with msgs := [⟨8, putWork 1 0, 1⟩] } }) (inPacket 2 5 0 7 (le 4 5 ++ le 2 0x0605 ++ zeros 2)) (⟨8, putWork 1 0, 1⟩) ({ outPacket 1 5 true false with msg := some 8 }) := by
  decide +kernel

theorem test_fabricReceive_8 :
    (fun (s : State) (p : RxPacket) (c : Instr) =>
      let b := p.bytes
      let k := packetKey b
      let known := (s.endpoint k.src).any (fun e => e.tenant == pktTenant b && e.mask.testBit k.cls)
      c ∈ [.fabWrite p, .fabReadReq p, .fabReadResp p, .fabAck p, .fabNack p, .fabMgmt p] ∧ s.fabReady = true ∧
      (p.overrun = true ∨ headerValid b = false ∨ payloadValid b = false ∨ s.localEp k.dst = false ∨ known = false)) (fabState) ({ inPacket 0 1 0x4010 7 [5] with overrun := true }) (.fabWrite { inPacket 0 1 0x4010 7 [5] with overrun := true }) := by
  decide +kernel

theorem test_fabricReceive_9 :
    (fun (s : State) (p : RxPacket) (c : Instr) =>
      c ∈ [.fabWrite p, .fabReadReq p, .fabReadResp p, .fabAck p, .fabNack p, .fabMgmt p] ∧ s.fabReady = false) (up) (inPacket 0 1 0x4010 7 [5]) (.fabAck (inPacket 0 1 0x4010 7 [5])) := by
  decide +kernel

theorem test_fabricSend_1 :
    (fun (s : State) (f : FabFlow) (p : FabPkt) (l : Nat) =>
      let k := f.key
      let x := s.fabTx k
      let q := s.packetNow x p
      s.fabReady = true ∧ s.fab.replies = [] ∧ x.pkts.find? (·.due) = some p ∧ q.opcode ≠ 6 ∧ q.epoch = s.get FAB_EPOCH.EPOCH ∧
      s.linkFor k x.link q = some l ∧ s.linkOpen l k.cls k.ch (packetBytes k q false).length = true ∧ ({ s with fab := { s.fab with tx := assocPut s.fab.tx k { x with link := some l } } }).windowOk k p = true) (fabFlow { pkts := [outPacket 1 0 false true] }) (⟨0x100, 0x200, 0, 0⟩) (outPacket 1 0 false true) (3) := by
  decide +kernel

theorem test_fabricSend_2 :
    (fun (s : State) (f : FabFlow) (t0 : Byte) (pay : Bytes) =>
      s.fabReady = true ∧ s.fab.replies = [] ∧ f.cls.val = 4 ∧ (s.endpoint f.key.dst).isNone = true ∧ (s.fabTx f.key).link = none) (fabState) (⟨0x100, 0x300, 4, 0⟩) (9) ([1, 2]) := by
  decide +kernel

theorem test_fabricSend_3 :
    (fun (s : State) (f : FabFlow) (seq : BitVec 32) (p : FabPkt) (l : Nat) =>
      let k := f.key
      let x := s.fabTx k
      let q : FabPkt := s.packetNow x { p with due := true }
      x.pkts = [p] ∧ p.sent = true ∧ p.seq = seq.toNat ∧ q.opcode ≠ 6 ∧ q.epoch = s.get FAB_EPOCH.EPOCH ∧
      s.linkFor k x.link q = some l ∧ s.linkOpen l k.cls k.ch (packetBytes k q false).length = true) (fabFlow { pkts := [outPacket 1 4 true false], next := 5 }) (⟨0x100, 0x200, 0, 0⟩) (4) (outPacket 1 4 true false) (3) := by
  decide +kernel

theorem test_fabricSend_4 :
    (fun (s : State) (f : FabFlow) (p : FabPkt) =>
      let k := f.key
      let x := s.fabTx k
      s.fab.replies = [] ∧ x.pkts.find? (·.due) = some p ∧ s.linkFor k x.link (s.packetNow x p) = none ∧ x.pkts.all (fun p => p.msg.isNone) = true) ({ (fabFlow { pkts := [outPacket 1 4 false true] }) with mem := [] }) (⟨0x100, 0x200, 0, 0⟩) (outPacket 1 4 false true) := by
  decide +kernel

theorem test_fabricSend_5 :
    (fun (s : State) (link : Fin 32) (vc : Fin 16) (n : Fin 4096) =>
      s.fab.replies = [] ∧ vc.val < 10 ∧ 0 < n.val) ({ fabState with fab := { fabState.fab with vcUsed := [((3, 2), 9)] } }) (3) (2) (4) := by
  decide +kernel

theorem test_fabricSend_6 :
    (fun (s : State) (link : Fin 32) (vc : Fin 16) (n : Fin 4096) =>
      (10 ≤ vc.val ∨ n.val = 0)) (fabState) (3) (10) (4) := by
  decide +kernel

theorem test_fabricSend_7 :
    (fun (s : State) =>
      s.on FAB_STATUS.DRAINING = true ∧ s.epochOutstanding ((s.get FAB_EPOCH.EPOCH + 3) % 4) = 0) (fabState.set FAB_STATUS.DRAINING 1) := by
  decide +kernel

theorem test_fabricSend_8 :
    (fun (s : State) =>
      let old := (s.get FAB_EPOCH.EPOCH + 3) % 4
      s.on FAB_STATUS.DRAINING = true ∧ s.epochOutstanding old ≠ 0) ((fabFlow { pkts := [{ outPacket 1 4 true false with epoch := 3 }] }).set FAB_STATUS.DRAINING 1) := by
  decide +kernel

theorem test_fabricTables_1 :
    (fun (s : State) (w : Work) (r : Nat) (c : Instr) =>
      ((c, s.fabTableCheck w 1 16 (2 ^ 32)) = (.eptWrite w, some r) ∨ (c, s.fabTableCheck w 2 8 8192) = (.rtWrite w, some r) ∨ (c, s.fabTableCheck w 3 16 4096) = (.circuitOpen w, some r) ∨ (c, s.fabTableCheck w 5 32 256) = (.ingestWrite w, some r) ∨ (c, s.fabTableCheck w 4 0 4096) = (.circuitClose w, some r) ∧ s.fab.waiting = []) ∧
      r ≠ 0x0616) (up) (fabWork 1 0 0 1) (0x0624) (.eptWrite (fabWork 1 0 0 1)) := by
  decide +kernel

theorem test_fabricTables_2 :
    (fun (s : State) (w : Work) (a : Nat) =>
      let b := s.readBytes (w.body 16 8) 16
      let e := EptEntry.ofBytes b
      let need := (bitsOf e.mask 5).length * e.window * 1024
      s.fabTableCheck w 1 16 (2 ^ 32) = none ∧ s.readsPoison (fabAccess w 16) = false ∧ w.body 8 4 = 1 ∧ w.body 16 8 + 16 ≤ hostBase ∧
      e.valid = true ∧ 8 ≤ e.window ∧ e.window ≤ 65536 ∧ s.reservedBytes (s.classOf w) e.id + need ≤ s.quotaBytes (s.classOf w) ∧
      s.eptSlot e.id = none ∧ (s.eptSlots e.id).find? (fun a => !(s.eptAt a).valid) = some a) (((fabState.set CLASS_QUOTA.MAX 4000 1 0).set SKEIN_CTRL.POOL_EN 1).writeBytes 0x2000 (le 3 0x333 ++ le 1 3 ++ le 1 9 ++ zeros 3 ++ le 4 8 ++ zeros 4)) (fabWork 1 0 0 1) (68371328) := by
  decide +kernel

theorem test_fabricTables_3 :
    (fun (s : State) (w : Work) =>
      let active := s.get FAB_EPOCH.EPOCH % 2
      s.fabTableCheck w 2 8 8192 = none ∧ s.readsPoison (fabAccess w 8) = false ∧ w.body 16 8 + 8 ≤ hostBase ∧ w.body 8 4 = 1 ∧
      (4096 * (active + 1) ≤ w.body 4 4 ∨ w.body 4 4 + 1 ≤ 4096 * active)) (fabState.writeBytes 0x2000 (le 8 0x1000000FF)) (fabWork 2 1 4096 1) := by
  decide +kernel

theorem test_fabricTables_4 :
    (fun (s : State) (w : Work) =>
      let active := s.get FAB_EPOCH.EPOCH % 2
      s.fabTableCheck w 2 8 8192 = none ∧ s.readsPoison (fabAccess w 8) = false ∧ w.body 16 8 + 8 * w.body 8 4 ≤ hostBase ∧
      w.body 4 4 < 4096 * (active + 1) ∧ 4096 * active < w.body 4 4 + w.body 8 4) (fabState) (fabWork 2 0 5 1) := by
  decide +kernel

theorem test_fabricTables_5 :
    (fun (s : State) (w : Work) =>
      let b := s.readBytes (w.body 16 8) 16
      let i := w.body 4 4
      let e := CircEntry.ofBytes b
      let c : Circuit := ⟨i, e.bw, e.mask, e.peer⟩
      s.fabTableCheck w 3 16 4096 = none ∧ s.readsPoison (fabAccess w 16) = false ∧ w.body 8 4 = 1 ∧ w.body 16 8 + 16 ≤ hostBase ∧ s.circuitBusy w = false ∧
      e.mask ≠ 0 ∧ 1 ≤ e.bw ∧ e.bw ≤ 6400 ∧ (if e.inbound then 64 ≤ e.rxKib ∧ e.rxKib ≤ 1048576 else e.rxKib = 0) ∧
      (bitsOf e.mask 32).any (fun l => s.overReserved l (s.reservedOn l + c.share)) = false) (fabState.writeBytes 0x2000 (le 3 0x200 ++ le 1 0 ++ le 1 9 ++ zeros 1 ++ le 2 10 ++ le 4 8 ++ zeros 4)) (fabWork 3 0 7 1) := by
  decide +kernel

theorem test_fabricTables_6 :
    (fun (s : State) (w : Work) =>
      s.fabTableCheck w 3 16 4096 = none ∧ s.circuitBusy w = true) (fabState.writeBytes (fabState.circAddr 7) [0, 2, 0, 1]) (fabWork 3 0 7 1) := by
  decide +kernel

theorem test_fabricTables_7 :
    (fun (s : State) (w : Work) =>
      s.fabTableCheck w 4 0 4096 = none ∧ s.fab.waiting = []) ({ (fabState.writeBytes (fabState.circAddr 7) [0, 2, 0, 1]) with fab := { fabState.fab with circuits := [⟨7, 10, 8, 0x200⟩] } }) (fabWork 4 0 7 1) := by
  decide +kernel

theorem test_fabricTables_8 :
    (fun (s : State) (w : Work) =>
      let b := s.readBytes (w.body 16 8) 32
      let x := IngestWindow.ofBytes b
      s.fabTableCheck w 5 32 256 = none ∧ s.readsPoison (fabAccess w 32) = false ∧ w.body 8 4 = 1 ∧ w.body 16 8 + 32 ≤ hostBase ∧
      (x.flags.testBit 0 = true → x.base % 4096 = 0 ∧ x.len % 4096 = 0)) (fabState.writeBytes 0x2000 (le 8 0x5000 ++ le 8 0x1000 ++ le 1 9 ++ le 1 7 ++ zeros 14)) (fabWork 5 0 3 1) := by
  decide +kernel

theorem test_photonicsLinks_1 :
    (fun (s : State) (l : Fin 32) (tx rx : BitVec 9) =>
      s.on PHO_STATUS.READY = true ∧ s.pho.stopped.contains l.val = false) (phoUp) (3) (0x1FF) (0xEF) := by
  decide +kernel

theorem test_photonicsLinks_2 :
    (fun (s : State) (b : Fin 64) (integ : List Int) =>
      s.pho.stopped.contains (b.val / 2) = false ∧ s.on PHO_CTRL.FF_EN = false ∧ s.pho.reload.contains b.val = false) (phoBank.set PHO_CTRL.FF_EN 0) (63) ([16384, 0, 7, 0, 0, 0, 0, 0, -5]) := by
  decide +kernel

theorem test_photonicsLinks_3 :
    (fun (s : State) (b : Fin 64) (r : Fin 9) =>
      s.pho.stopped.contains (b.val / 2) = false ∧ s.on PHO_CTRL.FF_EN = false ∧ s.pho.reload.contains b.val = false ∧ lookupD s.pho.high (b.val, r.val) 0 = 3 ∧
      s.pho.unlocked.contains (b.val, r.val) = false) ({ (phoUp.set PHO_CTRL.FF_EN 0) with pho := { phoUp.pho with high := [((6, 1), 3)] } }) (6) (1) := by
  decide +kernel

theorem test_photonicsLinks_4 :
    (fun (s : State) (b : Fin 64) (r : Fin 9) (lane : Nat) (sp : Nat) =>
      let l := b.val / 2
      let d := b.val % 2
      let x := s.phoDir l d
      s.pho.unlocked.contains (b.val, r.val) = true ∧ x.lanes.findIdx? (· == r.val) = some lane ∧ x.spare = some sp ∧
      s.get (if d = 0 then PHO_LINK.TX_SPARE_LANE else PHO_LINK.RX_SPARE_LANE) l = lane ∧ lane ≠ 15) (phoLane ⟨[0, 1, 2], some 8, 2, 0, none⟩) (6) (1) (1) (8) := by
  decide +kernel

theorem test_photonicsLinks_5 :
    (fun (s : State) (v : BitVec 16) (rate : Nat) =>
      -320 ≤ v.toInt ∧ v.toInt ≤ 1200) (phoUp) (200) (30001) := by
  decide +kernel

theorem test_photonicsLinks_6 :
    (fun (s : State) (temps : List (BitVec 16)) (k : Fin 64) =>
      (s.on PHO_SENSOR.FAULTY k = false ∧ (1200 < (temps.getD k 0).toInt ∨ (temps.getD k 0).toInt < -320))) (phoUp) (List.replicate 63 200 ++ [1201]) (63) := by
  decide +kernel

theorem test_photonicsLinks_7 :
    (fun (s : State) (l : Fin 32) (d : Fin 2) =>
      let x := s.phoDir l d
      s.on PHO_CTRL.CAL_EN = true ∧ s.on FAB_LINK_STATUS.IN_SERVICE l = true ∧ s.on FAB_LINK_STATUS.QUIET l = false ∧ x.spare.isSome = true ∧ x.use = 0 ∧
      x.cal = none ∧ s.pho.rate ≤ 500 ∧ x.next < 9 ∧ (s.get (if d.val = 0 then PHO_LINK.TX_WORKING else PHO_LINK.RX_WORKING) l).testBit x.next = true) (phoLane ⟨[0, 1, 2], some 8, 0, 1, none⟩) (3) (0) := by
  decide +kernel

theorem test_photonicsLinks_8 :
    (fun (s : State) (l : Fin 32) (d : Fin 2) (lane : Fin 9) (wl : Nat) =>
      let x := s.phoDir l d
      x.use ≠ 2 ∧ x.spare.isSome = true ∧ x.cal = some wl ∧ wl < 9) (phoLane ⟨[0, 1, 2], some 8, 1, 1, some 1⟩) (3) (0) (1) (1) := by
  decide +kernel

theorem test_photonicsLinks_9 :
    (fun (s : State) (l : Fin 32) (d : Fin 2) (lane : Fin 9) =>
      let x := s.phoDir l d
      x.use = 1) (phoLane ⟨[0, 1, 2], some 8, 1, 1, some 1⟩) (3) (0) (1) := by
  decide +kernel

theorem test_photonicsLinks_10 :
    (fun (s : State) (l : Fin 32) (d : Fin 2) (kept : Option Nat) (wl : Nat) =>
      let x := s.phoDir l d
      x.cal = some wl ∧ wl < 9) ((phoLane ⟨[0, 1, 2], some 8, 1, 1, some 1⟩).set PHO_LINK.TX_SPARE_LANE 1 3) (3) (0) (some 77) (1) := by
  decide +kernel

theorem test_photonicsLinks_11 :
    (fun (s : State) (l : Fin 32) (f : BitVec 16) =>
      (8 < getBits f.toNat 4 4 ∨ 8 < getBits f.toNat 8 4 ∨ 4096 ≤ f.toNat ∨ (f.toNat % 16 ≠ 15 ∧ getBits f.toNat 4 4 ≤ f.toNat % 16))) (phoUp) (3) (0x33) := by
  decide +kernel

theorem test_photonicsLinks_12 :
    (fun (s : State) (l : Fin 32) (lane wl w : Fin 9) =>
      let x := s.phoDir l 1
      lane.val < w.val ∧ lane.val < x.lanes.length ∧ x.spare ≠ some wl.val ∧ x.lanes.getD lane.val 0 ≠ wl.val) ({ phoUp with pho := { phoUp.pho with dirs := [((3, 1), ⟨[0, 1], some 8, 0, 0, none⟩)] } }) (3) (1) (5) (2) := by
  decide +kernel

theorem test_photonicsLinks_13 :
    (fun (s : State) (l : Fin 32) (lane w wl : Fin 9) =>
      let x := s.phoDir l 1
      lane.val < w.val ∧ lane.val < x.lanes.length ∧ x.spare = some wl.val) ({ phoUp with pho := { phoUp.pho with dirs := [((3, 1), ⟨[0, 1], some 8, 0, 0, none⟩)] } }) (3) (1) (2) (8) := by
  decide +kernel

theorem test_photonicsSwitching_1 :
    (fun (s : State) =>
      s.on PHO_STATUS.STEERING = true) (phoSteer [3, 5]) := by
  decide +kernel

theorem test_photonicsSwitching_2 :
    (fun (s : State) (locked : BitVec 32) =>
      s.on PHO_STATUS.STEERING = true) (phoSteer [3, 5]) (0x20) := by
  decide +kernel

theorem test_photonicsSwitching_3 :
    (fun (s : State) (l : Fin 32) =>
      s.pho.late.contains l = true) ({ phoUp with pho := { phoUp.pho with late := [31] } }) (31) := by
  decide +kernel

theorem test_photonicsSwitching_4 :
    (fun (s : State) (x : Fin 10) (db : BitVec 16) =>
      let th := fun (f : Field) => toSigned 16 (s.get f)
      s.get PHO_SOURCE.STATE x = 2 ∧ s.get PHO_SOURCE.POSITION x ≤ 7 ∧ th PHO_LASER_CFG.WARN_DB < db.toInt ∧ th PHO_LASER_CFG.FAIL_DB < db.toInt ∧
      th PHO_LASER_CFG.HANDOVER_DB < db.toInt) (phoLaser) (3) (0) := by
  decide +kernel

theorem test_photonicsSwitching_5 :
    (fun (s : State) (x : Fin 10) (db : BitVec 16) (sp : Fin 10) =>
      let th := fun (f : Field) => toSigned 16 (s.get f)
      let p := s.get PHO_SOURCE.POSITION x
      s.get PHO_SOURCE.STATE x = 2 ∧ p ≤ 7 ∧ db.toInt ≤ th PHO_LASER_CFG.HANDOVER_DB ∧ db.toInt ≤ th PHO_LASER_CFG.WARN_DB ∧ th PHO_LASER_CFG.FAIL_DB < db.toInt ∧
      s.on PHO_CTRL.AUTO_HANDOVER = true ∧ s.pho.hand = none ∧ s.pho.stopped.contains 32 = false ∧ s.pho.warm.contains sp.val = false ∧
      (bitsOf (s.get PHO_CAP.SPARES_FREE) 2).head? = some (sp.val - 8) ∧ 8 ≤ sp.val) (phoLaser) (3) (0xFED4) (8) := by
  decide +kernel

theorem test_photonicsSwitching_6 :
    (fun (s : State) (x : Fin 10) (db : BitVec 16) =>
      let p := s.get PHO_SOURCE.POSITION x
      s.get PHO_SOURCE.STATE x = 2 ∧ p ≤ 7) (phoLaser) (3) (0) := by
  decide +kernel

theorem test_photonicsSwitching_7 :
    (fun (s : State) =>
      s.pho.hand.isSome = true ∧ s.get PHO_HANDOVER.STATE = 1) (phoHand 1) := by
  decide +kernel

theorem test_photonicsSwitching_8 :
    (fun (s : State) (sp : Fin 10) =>
      s.pho.hand = none ∧ s.on PHO_CTRL.SPARE_WARM = true ∧ (bitsOf (s.get PHO_CAP.SPARES_FREE) 2).head? = some (sp.val - 8) ∧ 8 ≤ sp.val) (phoLaser.set PHO_CTRL.SPARE_WARM 1) (8) := by
  decide +kernel

theorem test_photonicsSwitching_9 :
    (fun (s : State) (h : Handover) =>
      s.pho.hand = some h ∧ s.get PHO_HANDOVER.STATE = 2 ∧ s.on PHO_STATUS.STEERING = false) (phoHand 2) (⟨7, 8, 7, false⟩) := by
  decide +kernel

theorem test_photonicsSwitching_10 :
    (fun (s : State) (h : Handover) =>
      s.pho.hand = some h ∧ s.get PHO_HANDOVER.STATE = 3 ∧ h.old ≠ h.spare) (phoHand 3) (⟨7, 8, 7, false⟩) := by
  decide +kernel

theorem test_photonicsSwitching_11 :
    (fun (s : State) (h : Handover) =>
      s.pho.hand = some h ∧ s.get PHO_HANDOVER.STATE = 4) (phoHand 4) (⟨7, 8, 7, false⟩) := by
  decide +kernel

theorem test_photonicsSwitching_12 :
    (fun (s : State) (h : Handover) =>
      (s.pho.hand = some h ∧ (s.get PHO_HANDOVER.STATE = 1 ∨ s.get PHO_HANDOVER.STATE = 2) ∧ s.get PHO_CAP.SPARES_FREE = 0)) ((phoHand 1).set PHO_CAP.SPARES_FREE 0) (⟨7, 8, 7, false⟩) := by
  decide +kernel

theorem test_skeinPools_1 :
    (fun (s : State) (w : Work) (len p i : Nat) (ps c : List Nat) =>
      let cls := s.classOf w
      s.on SKEIN_STATUS.READY = true ∧ 0 < len ∧ len ≤ 16842752 ∧ s.poolsFor len = p :: ps ∧ s.skeinGrants cls p = true ∧
      ((s.pool p).refill (s.get POOL_CFG.COUNT p)).cache = i :: c) (skeinUp) (⟨5, 0, [4]⟩) (256) (0) (0) ([1, 2, 3, 4]) ([1, 2, 3]) := by
  decide +kernel

theorem test_skeinPools_2 :
    (fun (s : State) (w : Work) (len : Nat) =>
      s.on SKEIN_STATUS.READY = true) (skeinUp) (⟨5, 0, [4]⟩) (16842753) := by
  decide +kernel

theorem test_skeinPools_3 :
    (fun (s : State) (w : Work) (h : BitVec 32) (add : Fin 64) (p i : Nat) (r : SkeinRec) =>
      s.handleRec h.toNat = some (p, i, r) ∧ r.owners.contains (s.classOf w) = true ∧ r.owners.length < 4 ∧ r.owners.contains add.val = false) (skeinOwned [1]) (⟨5, 0, [4]⟩) (0x02000001) (63) (0) (1) (⟨100, 2, [1], false, false⟩) := by
  decide +kernel

theorem test_skeinPools_4 :
    (fun (s : State) (w : Work) (h : BitVec 32) (p i : Nat) (r : SkeinRec) =>
      let cls := s.classOf w
      s.handleRec h.toNat = some (p, i, r) ∧ r.owners = [cls] ∧ r.quarantined = false) (skeinOwned [1]) (⟨5, 0, [4]⟩) (0x02000001) (0) (1) (⟨100, 2, [1], false, false⟩) := by
  decide +kernel

theorem test_skeinPools_5 :
    (fun (s : State) (w : Work) (h : BitVec 32) =>
      s.handleRec h.toNat = none) (skeinOwned [1]) (⟨5, 0, [4]⟩) (0x01000001) := by
  decide +kernel

theorem test_skeinPools_6 :
    (fun (s : State) (cls : Fin 64) (len : Nat) =>
      s.on SKEIN_STATUS.READY = true ∧ 0 < len ∧ len ≤ 16842752 ∧ s.poolsFor len ≠ [] ∧ (s.poolsFor len).all (fun p => !s.skeinGrants cls p) = true) (skeinUp) (2) (100) := by
  decide +kernel

theorem test_skeinPools_7 :
    (fun (s : State) (cls : Fin 64) (len p i : Nat) (ps c : List Nat) =>
      s.on SKEIN_STATUS.READY = true ∧ 0 < len ∧ len ≤ 16842752 ∧ s.poolsFor len = p :: ps ∧ s.skeinGrants cls p = true ∧
      ((s.pool p).refill (s.get POOL_CFG.COUNT p)).cache = i :: c) (skeinUp) (1) (256) (0) (0) ([1, 2, 3, 4]) ([1, 2, 3]) := by
  decide +kernel

theorem test_skeinPools_8 :
    (fun (s : State) (x : SkeinWait) (r : List SkeinWait) (p i : Nat) (ps c : List Nat) =>
      s.on SKEIN_STATUS.READY = true ∧ s.skein.waiting = x :: r ∧ 0 < x.len ∧ x.len ≤ 16842752 ∧ s.poolsFor x.len = p :: ps ∧ s.skeinGrants x.cls p = true ∧
      ((s.pool p).refill (s.get POOL_CFG.COUNT p)).cache = i :: c) ({ skeinUp with skein := { skeinUp.skein with waiting := [⟨1, 256⟩, ⟨1, 9⟩] } }) (⟨1, 256⟩) ([⟨1, 9⟩]) (0) (0) ([1, 2, 3, 4]) ([1, 2, 3]) := by
  decide +kernel

theorem test_memoryErrors_1 :
    (fun (s : State) (l : List EccFinding) =>
      s.on MEM_CTRL.SRAM_SCRUB_EN = false) (up.set MEM_CTRL.SRAM_SCRUB_EN 0) ([⟨8, true, 1, 0, 64, false⟩]) := by
  decide +kernel

theorem test_memoryErrors_2 :
    (fun (s : State) (f : EccFinding) =>
      s.on MEM_CTRL.SRAM_SCRUB_EN = true ∧ f.uncorrectable = true ∧ s.memst.sramPending.contains f.row = true ∧ s.regionsOf f.addr 1 ≠ some [0]) ({ memUp with memst := { memUp.memst with sramPending := [1] } }) (⟨0x20000003, true, 1, 0, 64, false⟩) := by
  decide +kernel

theorem test_memoryErrors_3 :
    (fun (s : State) (f : EccFinding) =>
      s.on MEM_CTRL.SRAM_SCRUB_EN = true ∧ f.uncorrectable = false ∧ lookupD s.memst.rowErrors f.row (0, s.mono) = (0, s.mono) ∧ 1 < s.get MEM_SCRUB.CE_LIMIT) (memUp) (⟨0x20000003, false, 1, 0, 64, false⟩) := by
  decide +kernel

theorem test_memoryErrors_4 :
    (fun (s : State) (f : EccFinding) =>
      s.on MEM_CTRL.LPDDR_SCRUB_EN = true ∧ f.uncorrectable = true ∧ s.isPoisoned (f.addr / 32 * 32) 32 = false ∧ s.memst.lpddrPending.contains f.row = false) (memUp) (⟨0x1000000010, true, 1, 0, 64, true⟩) := by
  decide +kernel

theorem test_memoryErrors_5 :
    (fun (s : State) (f : EccFinding) =>
      s.on MEM_CTRL.LPDDR_SCRUB_EN = true ∧ f.uncorrectable = false ∧ s.isPoisoned (f.addr / 32 * 32) 32 = false ∧
      lookupD s.memst.rowErrors f.row (0, s.mono) = (0, s.mono) ∧ 1 < s.get MEM_SCRUB.CE_LIMIT) (memUp) (⟨0x1000000010, false, 1, 0, 64, true⟩) := by
  decide +kernel

theorem test_memoryErrors_6 :
    (fun (s : State) (l : List EccFinding) =>
      s.on MEM_CTRL.LPDDR_SCRUB_EN = false) (up.set MEM_CTRL.LPDDR_SCRUB_EN 0) ([⟨8, true, 1, 0, 64, false⟩]) := by
  decide +kernel

theorem test_codecEncode_1 :
    (fun (s : State) (w : Work) (f : Option (Fin 32 × Fin 8)) =>
      let bs := s.purlEncode w
      let o := bs.flatMap EncBlock.bytes
      s.purlCheck 1 w = none ∧ s.readsPoison (purlAccess w) = false ∧ f.all (fun x => !s.purlInService x.1) = true ∧
      w.body 24 8 + o.length ≤ hostBase) (purlState) (purlWork 1 0 0 0) (none) := by
  decide +kernel

theorem test_codecEncode_2 :
    (fun (s : State) (w : Work) =>
      let n := purlRaw w
      s.purlCheck 1 w = none ∧ s.readsPoison (purlAccess w) = false ∧ n ≤ 65536 ∧
      s.on PURL_CFG.FORCE_RAW = true ∧ w.body 24 8 + n + 48 ≤ hostBase) (purlState) (purlWork 1 0 0 0) := by
  decide +kernel

theorem test_codecEncode_3 :
    (fun (s : State) (w : Work) (r : Nat) (f : Option (Fin 32 × Fin 8)) =>
      s.purlCheck 1 w = some r ∧ r ≠ 0x0D03) (up) (purlWork 1 0 0 0) (0x0D14) (none) := by
  decide +kernel

theorem test_codecEncode_4 :
    (fun (s : State) (w : Work) (f : Option (Fin 32 × Fin 8)) =>
      s.purlCheck 1 w = none ∧ s.readsPoison (purlAccess w) = true) ({ purlState with poison := [0x1001] }) (purlWork 1 0 0 0) (none) := by
  decide +kernel

theorem test_codecEncode_5 :
    (fun (s : State) (w : Work) (c : Fin 32) (e : Fin 8) =>
      s.purlCheck 1 w = none ∧ s.readsPoison (purlAccess w) = false ∧ s.purlInService c = true ∧ w.job ≠ 0) (purlState) (purlWork 1 0 7 0) (4) (2) := by
  decide +kernel

set_option maxRecDepth 2000000 in
theorem test_codecDecode_1 :
    (fun (s : State) (w : Work) (c : Fin 32) (bs : List DecBlock) =>
      let o := bs.flatMap (fun (b : DecBlock) => if (w.body 1 1).testBit 2 then b.asRaw else b.raw)
      s.purlCheck 2 w = none ∧ s.readsPoison (purlAccess w) = false ∧ (s.entryOf w.job).isNone = true ∧ s.grp.shadowed = false ∧
      decodeChunk (w.body 2 1 % 16) (w.body 4 4) (s.readBytes (w.body 16 8) (w.body 8 4)) = .ok bs ∧ w.body 24 8 + o.length ≤ hostBase) (codedState) (purlWork 2 0 0 0) (0) ([⟨⟨7, 1, 0, 2, 4, 52, 0, List.replicate 8 0, 0, crc32c [0x80, 0x3F, 1, 0xC0]⟩, [0x80, 0x3F, 1, 0xC0], none⟩]) := by
  decide +kernel

set_option maxRecDepth 2000000 in
theorem test_codecDecode_2 :
    (fun (s : State) (w : Work) (c : Fin 32) (bs : List DecBlock) (j : Nat) =>
      s.purlCheck 2 w = none ∧ s.readsPoison (purlAccess w) = false ∧ s.entryOf w.job = some j ∧ (w.body 1 1).testBit 2 = false ∧
      decodeChunk (w.body 2 1 % 16) (w.body 4 4) (s.readBytes (w.body 16 8) (w.body 8 4)) = .ok bs ∧
      chunkKind (w.body 32 4) ≠ 1) ({ codedJob with xport := { codedJob.xport with rxChunks := [⟨3, 1, 1, 5, 0, 0x9000, 96, false, 1, false⟩] } }) (purlWork 2 0 7 5) (0) ([⟨⟨7, 1, 0, 2, 4, 52, 0, List.replicate 8 0, 0, crc32c [0x80, 0x3F, 1, 0xC0]⟩, [0x80, 0x3F, 1, 0xC0], none⟩]) (3) := by
  decide +kernel

set_option maxRecDepth 2000000 in
theorem test_codecDecode_3 :
    (fun (s : State) (w : Work) (c : Fin 32) (u : Option DecodeUpset) (b r : Nat) =>
      s.purlCheck 2 w = none ∧ s.readsPoison (purlAccess w) = false ∧ s.purlAttempt w u = .error (b, r)) (codedState.writeBytes 0x2000 [2]) (purlWork 2 0 0 0) (4) (none) (0) (0x0D04) := by
  decide +kernel

theorem test_codecDecode_4 :
    (fun (s : State) (w : Work) (r : Nat) (c : Fin 32) (u : Option DecodeUpset) =>
      s.purlCheck 2 w = some r ∧ r ≠ 0x0D03) (up) (purlWork 2 0 0 0) (0x0D14) (0) (none) := by
  decide +kernel

set_option maxRecDepth 2000000 in
theorem test_codecDecode_5 :
    (fun (s : State) (c : Fin 32) (e : Redecode) (l : List Redecode) (bs : List DecBlock) =>
      let w := e.work
      let o := bs.flatMap (fun (b : DecBlock) => if (w.body 1 1).testBit 2 then b.asRaw else b.raw)
      s.purl.redecode = e :: l ∧ s.purlInService c = true ∧ s.purlClusters ≠ [e.cluster] ∧ c.val ≠ e.cluster ∧ s.purlInService e.cluster = true ∧
      decodeChunk (w.body 2 1 % 16) (w.body 4 4) (s.readBytes (w.body 16 8) (w.body 8 4)) = .ok bs ∧ w.body 24 8 + o.length ≤ hostBase ∧
      (s.entryOf w.job).isNone = true ∧ s.grp.shadowed = false ∧ s.hlth.bindingOff = true) ({ codedState with purl := { up.purl with redecode := [⟨purlWork 2 0 0 0, 0x0D0A, 0, 4⟩] }, hlth := { up.hlth with bindingOff := true } }) (5) (⟨purlWork 2 0 0 0, 0x0D0A, 0, 4⟩) ([]) ([⟨⟨7, 1, 0, 2, 4, 52, 0, List.replicate 8 0, 0, crc32c [0x80, 0x3F, 1, 0xC0]⟩, [0x80, 0x3F, 1, 0xC0], none⟩]) := by
  decide +kernel

set_option maxRecDepth 2000000 in
theorem test_codecDecode_6 :
    (fun (s : State) (c : Fin 32) (u : Option DecodeUpset) (e : Redecode) (l : List Redecode) (b r : Nat) =>
      (s.purl.redecode = e :: l ∧ s.purlInService c = true ∧ (c.val ≠ e.cluster ∨ s.purlClusters = [e.cluster])) ∧
      s.purlAttempt e.work u = .error (b, r)) ({ (codedState.writeBytes 0x2000 [2]) with purl := { up.purl with redecode := [⟨purlWork 2 0 0 0, 0x0D04, 0, 4⟩] } }) (5) (none) (⟨purlWork 2 0 0 0, 0x0D04, 0, 4⟩) ([]) (0) (0x0D04) := by
  decide +kernel

theorem test_codecDecode_7 :
    (fun (s : State) (w : Work) =>
      s.purlCheck 0x0F w = none ∧ s.purlInService (w.body 37 1 % 32) = true) (purlState) (purlWork 15 0 0 0) := by
  decide +kernel

theorem test_codecDecode_8 :
    (fun (s : State) (w : Work) =>
      let c := w.body 37 1 % 32
      s.purlCheck 0x0F w = none ∧ s.purlInService c = true) (purlState) (purlWork 15 0 0 0) := by
  decide +kernel

theorem test_rawResend_1 :
    (fun (s : State) (j : Fin 128) (site : Fin 16) (m : CtrlIn) (r : Retained) (p : Bytes) (bs : List DecBlock) (c c' : Ctx) (k n a : Nat) =>
      let u : State := { s with xport := { s.xport with inbox := s.xport.inbox.erase m } }
      let raw := bs.flatMap DecBlock.asRaw
      let h := s.readBytes r.addr 64
      s.xport.inbox.find? (fun c => c.entry == j.val && c.site == site.val && c.ctype == 4) = some m ∧
      s.xport.retained.find? (fun r => r.entry == j.val && r.peer == site.val && r.step == fieldAt m.body 0 4 && r.chunk == fieldAt m.body 4 4) = some r ∧
      s.on PURL_STATUS.READY = true ∧ s.purlClusters ≠ [] ∧ s.reaches j site = false ∧
      u.retainedPlain r = some p ∧ decodeChunk (fieldAt h 3 1 % 16) (fieldAt h 20 4) p = .ok bs ∧
      u.ctx (u.pairTx j site) = some c ∧ u.nonce (u.pairTx j site) raw.length c = .take k n c' ∧ u.stageAlloc (80 + raw.length) = some a) (resendState) (3) (1) (ctrlMail 4 (le 4 1 ++ le 4 5 ++ zeros 8)) (resendKept) (rawBlock 1 6 0 [0x80, 0x3F, 1, 0xC0]) ([⟨⟨7, 1, 0, 2, 4, 52, 0, List.replicate 8 0, 0, crc32c [0x80, 0x3F, 1, 0xC0]⟩, [0x80, 0x3F, 1, 0xC0], none⟩]) (zeroCtx) ({ zeroCtx with slot0 := ⟨true, zeros 32, 0, 1, 52, 1⟩ }) (0) (0) (0x1FFF00000) := by
  decide +kernel

theorem test_rawResend_2 :
    (fun (s : State) (j : Fin 128) (site : Fin 16) (m : CtrlIn) (f : Option (Fin 32)) =>
      (s.takeMail j site 4).map (·.1) = some m ∧
      s.xport.retained.any (fun r => r.entry == j.val && r.peer == site.val && r.step == fieldAt m.body 0 4 && r.chunk == fieldAt m.body 4 4) = false) ({ (stepState 4) with xport := { (stepState 4).xport with inbox := [ctrlMail 4 (le 4 1 ++ le 4 5 ++ zeros 8)] } }) (3) (1) (ctrlMail 4 (le 4 1 ++ le 4 5 ++ zeros 8)) (none) := by
  decide +kernel

theorem test_rawResend_3 :
    (fun (s : State) (j : Fin 128) (site : Fin 16) (m : CtrlIn) =>
      (s.takeMail j site 5).map (·.1) = some m) ({ (stepState 4) with xport := { (stepState 4).xport with inbox := [ctrlMail 5 (le 4 1 ++ le 4 5 ++ zeros 8)] } }) (3) (1) (ctrlMail 5 (le 4 1 ++ le 4 5 ++ zeros 8)) := by
  decide +kernel

theorem test_lineLanes_1 :
    (fun (s : State) (p : Fin 16) (lane : Fin 8) =>
      s.line.length = 16) (lineLocked 0) (3) (5) := by
  decide +kernel

theorem test_lineLanes_2 :
    (fun (s : State) (p : Fin 16) (lane : Fin 8) =>
      s.line.length = 16) (lineLocked 2) (3) (5) := by
  decide +kernel

theorem test_lineLanes_3 :
    (fun (s : State) (p : Fin 16) (lane : Fin 8) =>
      s.line.length = 16) (lineLocked 2) (3) (5) := by
  decide +kernel

theorem test_lineLanes_4 :
    (fun (s : State) (p : Fin 16) (lane : Fin 8) =>
      s.line.length = 16) (lineLocked 2) (3) (5) := by
  decide +kernel

theorem test_lineLanes_5 :
    (fun (s : State) (p : Fin 16) (lane pos : Fin 8) (w skew : Nat) =>
      s.line.length = 16) (lineLocked 0) (3) (5) (3) (4) (100) := by
  decide +kernel

theorem test_lineReceive_1 :
    (fun (s : State) (p : Fin 16) (f : Option RxFrame) =>
      (s.line.length = 16 ∧ s.portOn p = true ∧ (s.get PORT_STATUS.ALIGN_STATE p = 0 ∨ s.get PORT_STATUS.ALIGN_STATE p = 4) ∧ (s.port p).foundWidth = 0)) (lineUp) (3) (none) := by
  decide +kernel

theorem test_lineReceive_2 :
    (fun (s : State) (p : Fin 16) (f : Option RxFrame) =>
      (s.line.length = 16 ∧ s.portOn p = true ∧ (s.get PORT_STATUS.ALIGN_STATE p = 0 ∨ s.get PORT_STATUS.ALIGN_STATE p = 4) ∧ (s.port p).foundWidth ≠ 0)) (lineFound 0 0) (3) (none) := by
  decide +kernel

theorem test_lineReceive_3 :
    (fun (s : State) (p : Fin 16) =>
      s.line.length = 16 ∧ s.portOn p = true ∧ s.get PORT_STATUS.ALIGN_STATE p = 1) (lineFound 1 1) (3) := by
  decide +kernel

theorem test_lineReceive_4 :
    (fun (s : State) (p : Fin 16) (f : RxFrame) =>
      s.line.length = 16 ∧ s.portOn p = true ∧ s.get PORT_STATUS.ALIGN_STATE p = 1 ∧ alignErrored (widthOf (s.get PORT_STATUS.RX_WIDTH p)) f = false ∧
      (s.port p).count + 1 = s.get LINE_ALIGN.CONFIRM_N) (lineFound 1 1) (3) (⟨overheadBytes 2 0 [3] [9, 5], zeros 65280, 0, 1⟩) := by
  decide +kernel

theorem test_lineReceive_5 :
    (fun (s : State) (p : Fin 16) (f : RxFrame) =>
      s.line.length = 16 ∧ s.portOn p = true ∧ s.inFrame p = true ∧ alignErrored (widthOf (s.get PORT_STATUS.RX_WIDTH p)) f = false) (lineFound 2 0) (3) (⟨overheadBytes 2 0 [3] [9, 5], zeros 65280, 0, 1⟩) := by
  decide +kernel

theorem test_lineReceive_6 :
    (fun (s : State) (p : Fin 16) =>
      s.line.length = 16 ∧ s.portOn p = true ∧ s.inFrame p = true ∧ (s.port p).count + 1 = s.get LINE_ALIGN.LOSS_M) (lineFound 3 1) (3) := by
  decide +kernel

theorem test_lineReceive_7 :
    (fun (s : State) (p : Fin 16) (f : Option RxFrame) =>
      s.portOn p = false) (up) (3) (none) := by
  decide +kernel

theorem test_lineTransmitAndPerformance_1 :
    (fun (s : State) (p : Fin 16) =>
      s.line.length = 16 ∧ s.portOn p = true) ((lineUp.set PORT_CM_CTRL.SWAP_ARM 1 3).set PORT_CFG.TX_WIDTH 2 3) (3) := by
  decide +kernel

theorem test_lineTransmitAndPerformance_2 :
    (fun (s : State) (p : Fin 16) =>
      s.line.length = 16) ({ lineUp with line := lineUp.line.set 3 { efSecond := 15, framesSecond := 100, run := 9 } }) (3) := by
  decide +kernel

theorem test_lineTransmitAndPerformance_3 :
    (fun (s : State) (p : Fin 16) (x : Nat × Nat × Nat) =>
      let far := s.get PORT_STATUS.FAR_RX_LANES p
      s.on PORT_CFG.AUTO_NARROW p = true ∧ allSets.find? (setWithin far) = some x ∧
      setWithin far (s.get PORT_CFG.TX_WIDTH p, widthOf (s.get PORT_CFG.TX_WIDTH p), s.get PORT_CFG.TX_SET p) = false) ((lineUp.set PORT_CFG.AUTO_NARROW 1 3).set PORT_STATUS.FAR_RX_LANES 0xF0 3) (3) ((1, 4, 1)) := by
  decide +kernel

theorem test_lineTransmitAndPerformance_4 :
    (fun (s : State) (p : Fin 16) (x : Nat × Nat × Nat) =>
      s.on PORT_CFG.AUTO_WIDEN p = true ∧
      allSets.find? (fun x => decide (widthOf (s.get PORT_CFG.TX_WIDTH p) < x.2.1) && setWithin (s.get PORT_STATUS.FAR_RX_LANES p) x) = some x) (((lineUp.set PORT_CFG.AUTO_WIDEN 1 3).set PORT_CFG.TX_WIDTH 2 3).set PORT_STATUS.FAR_RX_LANES 0xFF 3) (3) ((0, 8, 0)) := by
  decide +kernel

theorem test_chunkMessages_1 :
    (fun (s : State) (j : Fin 128) (peer : Fin 16) (c : SealedChunk) (k m a : Nat) =>
      let h := s.readBytes c.hdr 44
      let pay := s.readBytes c.data (fieldAt h 24 4 + 16)
      let f := s.flow j peer
      let count := ceilDiv (64 + pay.length) (k * 8192)
      let len := count * k * 8192
      let hd := h ++ le 4 f.nextCw ++ le 4 count ++ le 1 (min c.sendCount 255) ++ zeros 7
      let r : Retained := ⟨j, peer, hdrStep hd, hdrChunk hd, hdrFrog hd, a, len, f.nextCw, count, k, m, c.ctx, c.slot, false⟩
      s.xportReady = true ∧ s.reaches j peer = true ∧ s.xport.resend.any (fun r => r.1 == j.val && r.2.1 == peer.val) = false ∧
      s.xport.sealed.find? (fun c => c.entry == j.val && c.peer == peer.val) = some c ∧ s.codeFor (s.usable peer).length = some (k, m) ∧
      (s.openSent j peer + count ≤ 2 ^ 30 ∧ (s.inflight peer = 0 ∨ s.inflight peer + len ≤ s.windowNow peer) ∧ s.retainAlloc len = some a)) (sendState) (3) (1) (sealedChunk) (1) (1) (4398046511104) := by
  decide +kernel

theorem test_chunkMessages_2 :
    (fun (s : State) (j : Fin 128) (peer : Fin 16) (q : Nat × Nat × Nat × Nat) (r : Retained) (k m a : Nat) =>
      let n := 64 + fieldAt (s.readBytes r.addr 64) 24 4 + 16
      let count := ceilDiv n (k * 8192)
      let len := count * k * 8192
      let u : State := { s with xport := { s.xport with retained := s.xport.retained.erase r } }
      s.xportReady = true ∧ s.reaches j peer = true ∧ s.xport.resend.find? (fun r => r.1 == j.val && r.2.1 == peer.val) = some q ∧
      s.xport.retained.find? (fun r => r.entry == j.val && r.peer == peer.val && r.step == q.2.2.1 && r.chunk == q.2.2.2) = some r ∧
      s.codeFor (s.usable peer).length = some (k, m) ∧ u.openSent j peer + count ≤ 2 ^ 30 ∧ u.retainAlloc len = some a) ({ flowState with xport := { flowState.xport with retained := [{ resendKept with step := 0, chunk := 0 }], resend := [(3, 1, 0, 0)] } }) (3) (1) ((3, 1, 0, 0)) ({ resendKept with step := 0, chunk := 0 }) (1) (1) (4398046511104) := by
  decide +kernel

theorem test_chunkMessages_3 :
    (fun (s : State) (j : Fin 128) (peer : Fin 16) =>
      s.xportReady = true ∧ s.reaches j peer = true ∧ s.xport.resend.any (fun r => r.1 == j.val && r.2.1 == peer.val) = false ∧
      s.xport.sealed.any (fun c => c.entry == j.val && c.peer == peer.val) = true ∧ (s.codeFor (s.usable peer).length).isNone = true) (sendState.set XPORT_CODE.K 5) (3) (1) := by
  decide +kernel

theorem test_shardsReceived_1 :
    (fun (s u : State) (p : Fin 16) (y : Fin 80) (b : Bytes) =>
      s.xportReady = true ∧ s.takeShard p y = (some b, u) ∧ (u.shardFlow p y b).isNone = true) (yarnState (shardOf 0x21 64) |>.set JOB_CTRL.JOB_ID 8 3) (((yarnState (shardOf 0x21 64)).set JOB_CTRL.JOB_ID 8 3).putYarnIn 0 2 []) (0) (2) (shardOf 0x21 64) := by
  decide +kernel

set_option maxRecDepth 2000000 in
theorem test_shardsReceived_2 :
    (fun (s u : State) (p : Fin 16) (y : Fin 80) (b : Bytes) (j : Nat) (sp : Bool) =>
      let src := fieldAt b 5 1 % 16
      let v := (u.putFlow j src { (u.flow j src) with newest := some (fieldAt b 16 4, u.mono) }).measure src p (fieldAt b 16 4)
      let seq := fieldAt b 12 4
      let k := fieldAt b 4 1 % 32
      let m := fieldAt b 4 1 / 32
      let x := fieldAt b 3 1 % 16
      s.xportReady = true ∧ s.takeShard p y = (some b, u) ∧ u.shardFlow p y b = some j ∧ getBits (fieldAt b 2 1) 4 2 ≠ 2 ∧
      (v.flow j src).discards (getBits (fieldAt b 2 1) 4 2) k m x seq (fieldAt b 10 2) = false ∧ crc32c (b.drop 32) = fieldAt b 24 4 ∧
      v.stageRoom = some sp ∧ v.badPorts src = 0 ∧ 1 < k ∧ (v.flow j src).openCws.all (fun c => c.seq != seq || c.shards == []) = true) (yarnState (dataShardOf 2 1 1 9)) ((yarnState (dataShardOf 2 1 1 9)).putYarnIn 0 2 []) (0) (2) (dataShardOf 2 1 1 9) (3) (false) := by
  exact ⟨by decide +kernel, by decide +kernel, by decide +kernel, by decide +kernel, by decide +kernel, test_crc_data_shard,
    by decide +kernel, by decide +kernel, by decide +kernel, by decide +kernel⟩

theorem test_shardsReceived_3 :
    (fun (s u : State) (p : Fin 16) (y : Fin 80) (b : Bytes) (j : Nat) =>
      let src := fieldAt b 5 1 % 16
      let v := (u.putFlow j src { (u.flow j src) with newest := some (fieldAt b 16 4, u.mono) }).measure src p (fieldAt b 16 4)
      s.xportReady = true ∧ s.takeShard p y = (some b, u) ∧ u.shardFlow p y b = some j ∧ getBits (fieldAt b 2 1) 4 2 ≠ 2 ∧
      (v.flow j src).discards (getBits (fieldAt b 2 1) 4 2) (fieldAt b 4 1 % 32) (fieldAt b 4 1 / 32) (fieldAt b 3 1 % 16) (fieldAt b 12 4) (fieldAt b 10 2) = true) (yarnState (shardOf 1 64)) ((yarnState (shardOf 1 64)).putYarnIn 0 2 []) (0) (2) (shardOf 1 64) (3) := by
  decide +kernel

theorem test_shardsReceived_4 :
    (fun (s u : State) (p : Fin 16) (y : Fin 80) (b : Bytes) (j a : Nat) =>
      let src := fieldAt b 5 1 % 16
      let v := (u.putFlow j src { (u.flow j src) with newest := some (fieldAt b 16 4, u.mono) }).measure src p (fieldAt b 16 4)
      let n := fieldAt b 10 2
      s.xportReady = true ∧ s.takeShard p y = (some b, u) ∧ u.shardFlow p y b = some j ∧ getBits (fieldAt b 2 1) 4 2 = 2 ∧
      48 ≤ n ∧ n ≤ 8192 ∧ crc32c (b.drop 32) = fieldAt b 24 4 ∧ v.stageAlloc b.length = some a ∧ a + b.length ≤ hostBase) (yarnState (shardOf 0x21 64)) ((yarnState (shardOf 0x21 64)).putYarnIn 0 2 []) (0) (2) (shardOf 0x21 64) (3) (0x1FFF00000) := by
  decide +kernel

theorem test_shardsReceived_5 :
    (fun (s u : State) (p : Fin 16) (y : Fin 80) =>
      s.xportReady = true ∧ s.takeShard p y = (none, u)) (flowState) (flowState) (0) (2) := by
  decide +kernel

theorem test_flowRepair_1 :
    (fun (s : State) (j : Fin 128) (peer : Fin 16) (cw : BitVec 32) (c : OpenCw) =>
      let f := s.flow j peer
      f.openCws.find? (fun c => c.seq == cw.toNat) = some c ∧ c.nacked = false ∧ c.cut = false) (withFlow { openCws := [openCw false] }) (3) (1) (9) (openCw false) := by
  decide +kernel

theorem test_flowRepair_2 :
    (fun (s : State) (j : Fin 128) (peer : Fin 16) (cw : BitVec 32) (c : OpenCw) =>
      let f := s.flow j peer
      let ns := f.nacks ++ [(cw.toNat, maskOf (c.shards.map (·.1)))]
      f.openCws.find? (fun c => c.seq == cw.toNat) = some c ∧ c.nacked = true ∧ s.reaches j peer = true ∧
      (mergeNacks ns).length < 16 ∧ f.acks.length < 64) (withFlow { openCws := [openCw true] }) (3) (1) (9) (openCw true) := by
  decide +kernel

theorem test_flowRepair_3 :
    (fun (s : State) =>
      s.xportReady = true) (withFlow { nacks := [(9, 1)] }) := by
  decide +kernel

theorem test_flowRepair_4 :
    (fun (s : State) (j : Fin 129) (site : Fin 16) (c : CtrlIn) =>
      (s.takeMail j site 1).map (·.1) = some c) ({ (withFlow { ctrlOut := [⟨0, 5, zeros 16, none, false, false, 0⟩, ⟨9, 5, zeros 16, none, false, false, 0⟩] }) with xport := { (withFlow { ctrlOut := [⟨0, 5, zeros 16, none, false, false, 0⟩, ⟨9, 5, zeros 16, none, false, false, 0⟩] }).xport with inbox := [ctrlMail 1 (zeros 4 ++ le 4 5 ++ le 4 33 ++ zeros 8 ++ le 2 0x100 ++ zeros 2 ++ le 4 1 ++ le 4 5)], retained := [resendKept] } }) (3) (1) (ctrlMail 1 (zeros 4 ++ le 4 5 ++ le 4 33 ++ zeros 8 ++ le 2 0x100 ++ zeros 2 ++ le 4 1 ++ le 4 5)) := by
  decide +kernel

theorem test_flowRepair_5 :
    (fun (s : State) (peer port : Fin 16) =>
      (s.get PEER_STATUS.LATE_RX peer).testBit port = true ∧ (s.get PEER_STATUS.DOWN_RX peer).testBit port = false ∧
      2 * s.skewOf peer port ≤ s.get XPORT_SW.WINDOW_US * 1000) (flowState.set PEER_STATUS.LATE_RX 4 1) (1) (2) := by
  decide +kernel

theorem test_flowRepair_6 :
    (fun (s : State) =>
      s.xportReady = true) (flowState) := by
  decide +kernel

theorem test_flowRepair_7 :
    (fun (s : State) (site : Fin 16) (c : CtrlIn) =>
      (s.takeMail 128 site 8).map (·.1) = some c) (withMail flowState { ctrlMail 8 (le 2 5 ++ le 2 8 ++ zeros 64) with entry := 128 }) (1) ({ ctrlMail 8 (le 2 5 ++ le 2 8 ++ zeros 64) with entry := 128 }) := by
  decide +kernel

theorem test_flowRepair_8 :
    (fun (s : State) (j : Fin 129) (peer : Fin 16) (seq : BitVec 32) (c : CtrlOut) =>
      (s.flow j peer).ctrlOut.find? (fun c => c.seq == seq.toNat && !c.own && !c.waiting) = some c ∧ c.addr ≠ 0 ∧
      (s.on GRP_CTRL.ROLE && decide (s.get GRP_STATUS.SHADOW_STATE < 3)) = false) (withFlow { ctrlOut := [⟨4, 5, zeros 16, none, false, false, 0x7000⟩] }) (3) (1) (4) (⟨4, 5, zeros 16, none, false, false, 0x7000⟩) := by
  decide +kernel

theorem test_flowRepair_9 :
    (fun (s : State) (j : Fin 129) (peer : Fin 16) (seq : BitVec 32) (c : CtrlOut) =>
      (s.flow j peer).ctrlOut.find? (fun c => c.seq == seq.toNat && !c.own && !c.waiting) = some c ∧ c.addr = 0) (withFlow { ctrlOut := [⟨4, 5, zeros 16, none, false, false, 0⟩] }) (3) (1) (4) (⟨4, 5, zeros 16, none, false, false, 0⟩) := by
  decide +kernel

theorem test_flowMessages_1 :
    (fun (s : State) =>
      s.xportReady = true) (flowState) := by
  decide +kernel

theorem test_flowMessages_2 :
    (fun (s : State) (site : Fin 16) (c : CtrlIn) =>
      (s.takeMail 128 site 7).map (·.1) = some c) ({ (withMail flowState { ctrlMail 7 (le 4 8 ++ le 4 9 ++ zeros 8) with entry := 128 }) with xport := { (withMail flowState { ctrlMail 7 (le 4 8 ++ le 4 9 ++ zeros 8) with entry := 128 }).xport with keepSent := [(1, 9)] } }) (1) ({ ctrlMail 7 (le 4 8 ++ le 4 9 ++ zeros 8) with entry := 128 }) := by
  decide +kernel

theorem test_flowMessages_3 :
    (fun (s : State) (j : Fin 128) (site : Fin 16) (c : CtrlIn) =>
      (s.takeMail j site 2).map (·.1) = some c ∧ (s.stepRec j).cleanWait = false) (withMail flowState (ctrlMail 2 (le 2 2 ++ le 4 1 ++ le 4 5 ++ le 4 2 ++ le 4 6))) (3) (1) (ctrlMail 2 (le 2 2 ++ le 4 1 ++ le 4 5 ++ le 4 2 ++ le 4 6)) := by
  decide +kernel

theorem test_flowMessages_4 :
    (fun (s : State) (j : Fin 128) (site : Fin 16) (c : CtrlIn) =>
      let step := fieldAt c.body 0 4
      let r := s.stepRec j
      (s.takeMail j site 6).map (·.1) = some c ∧ fieldAt c.body 9 2 ≠ 0x0921 ∧ s.retains j site step (fieldAt c.body 4 4) = false ∧
      (step ≠ r.step ∨ r.state = 0 ∨ 0x0A < r.state)) (withMail flowState (ctrlMail 6 (le 4 9 ++ le 4 5 ++ zeros 8))) (3) (1) (ctrlMail 6 (le 4 9 ++ le 4 5 ++ zeros 8)) := by
  decide +kernel

theorem test_flowMessages_5 :
    (fun (s : State) (j : Fin 128) (site : Fin 16) (c : CtrlIn) =>
      let step := fieldAt c.body 0 4
      let r := s.stepRec j
      (s.takeMail j site 6).map (·.1) = some c ∧ fieldAt c.body 9 2 ≠ 0x0921 ∧ s.retains j site step (fieldAt c.body 4 4) = false ∧
      step = r.step ∧ 1 ≤ r.state ∧ r.state ≤ 0x0A) (withMail flowState (ctrlMail 6 (le 4 1 ++ le 4 5 ++ zeros 8))) (3) (1) (ctrlMail 6 (le 4 1 ++ le 4 5 ++ zeros 8)) := by
  decide +kernel

theorem test_flowMessages_6 :
    (fun (s : State) (j : Fin 128) (site : Fin 16) (c : CtrlIn) =>
      (s.takeMail j site 6).map (·.1) = some c ∧ fieldAt c.body 9 2 = 0x0921) (withMail flowState (ctrlMail 6 (le 4 1 ++ le 4 5 ++ le 1 0 ++ le 2 0x0921 ++ zeros 5))) (3) (1) (ctrlMail 6 (le 4 1 ++ le 4 5 ++ le 1 0 ++ le 2 0x0921 ++ zeros 5)) := by
  decide +kernel

theorem test_flowMessages_7 :
    (fun (s : State) (j : Fin 128) (site : Fin 16) (c : CtrlIn) =>
      let b := c.body
      let r := s.stepRec j
      let idx := (if fieldAt b 11 4 = 0 then List.range (r.chunks (fieldAt b 4 1)) else (List.range (min (fieldAt b 11 4) (r.chunks (fieldAt b 4 1) - fieldAt b 7 4))).map (· + fieldAt b 7 4))
      let owes := idx.filterMap (s.rebuildOwes r site (fieldAt b 4 1))
      (s.takeMail j site 10).map (·.1) = some c ∧ (fieldAt b 5 2).testBit s.localSite = true ∧
      owes ≠ [] ∧ owes.length ≤ 64 ∧ owes.all (fun x => !s.retains j site (fieldAt b 0 4) x) = true) (withMail { flowState with xport := { flowState.xport with jobs := [(3, { stepRec3 4 with param0 := 0x20001, chunks1 := 2 })] } } (ctrlMail 10 (le 4 1 ++ le 1 0 ++ le 2 1 ++ zeros 9))) (3) (1) (ctrlMail 10 (le 4 1 ++ le 1 0 ++ le 2 1 ++ zeros 9)) := by
  decide +kernel

theorem test_flowMessages_8 :
    (fun (s : State) (j : Fin 128) (site : Fin 16) (c : CtrlIn) =>
      (s.takeMail j site 11).map (·.1) = some c ∧ s.get GRP_STATUS.SHADOW_STATE = 3) (withMail (flowState.set GRP_STATUS.SHADOW_STATE 3) (ctrlMail 11 (le 4 1 ++ le 1 0 ++ le 1 1 ++ le 4 5 ++ zeros 6))) (3) (1) (ctrlMail 11 (le 4 1 ++ le 1 0 ++ le 1 1 ++ le 4 5 ++ zeros 6)) := by
  decide +kernel

theorem test_flowMessages_9 :
    (fun (s : State) (j : Fin 128) (site : Fin 16) (c : CtrlIn) =>
      (s.takeMail j site 11).map (·.1) = some c ∧ s.get GRP_STATUS.SHADOW_STATE ≠ 3) (withMail flowState (ctrlMail 11 (le 4 1 ++ le 1 0 ++ le 1 1 ++ le 4 5 ++ zeros 6))) (3) (1) (ctrlMail 11 (le 4 1 ++ le 1 0 ++ le 1 1 ++ le 4 5 ++ zeros 6)) := by
  decide +kernel

theorem test_flowMessages_10 :
    (fun (s : State) (j : Fin 129) (site : Fin 16) (c : CtrlIn) =>
      (s.takeMail j site 12).map (·.1) = some c) (withMail flowState (ctrlMail 12 (le 4 1 ++ le 4 2 ++ zeros 8))) (3) (1) (ctrlMail 12 (le 4 1 ++ le 4 2 ++ zeros 8)) := by
  decide +kernel

theorem test_sealRecords_1 :
    (fun (s u : State) (w : Work) (f : Option (Fin 32)) (c c' : Ctx) (k n : Nat) =>
      s.ciphCheck 1 w = none ∧ w.body 0 1 = 1 ∧ s.recordCtx w false = (.ok c, u) ∧ u.readsPoison (ciphAccess 1 w) = false ∧
      u.nonce (ciphCtx w) (ciphLen w) c = .take k n c' ∧ f.filter (fun x => u.pipeOn x) = none ∧ ciphControl w = false) (cipherState) (cipherState.makeResident 1 zeroCtx) (cipherWork 1 0 1 4) (none) (zeroCtx) ({ zeroCtx with slot0 := ⟨true, zeros 32, 0, 1, 4, 1⟩ }) (0) (0) := by
  decide +kernel

theorem test_sealRecords_2 :
    (fun (s : State) (w : Work) (f : Option (Fin 32)) (c c' : Ctx) (k n : Nat) =>
      s.ciphCheck 1 w = none ∧ w.body 0 1 = 1 ∧ (ciphCtx w, c) ∈ s.ciph.resident ∧ (s.recordCtx w false).1 = .ok c ∧ s.ciph.resident.length ≤ 1024 ∧
      s.readsPoison (ciphAccess 1 w) = false ∧ s.nonce (ciphCtx w) (ciphLen w) c = .take k n c' ∧ f = none ∧ ciphControl w = false ∧
      ((ciphIn w + ciphLen w ≤ ciphHdr w + 28 ∨ ciphHdr w + 44 ≤ ciphIn w) ∧ ciphHdr w + 44 ≤ hostBase ∧ ciphOut w + ciphLen w + 16 ≤ hostBase) ∧
      (c'.slot k).ctr ≤ s.warnLimits.1 ∧ (c'.slot k).bytes ≤ s.warnLimits.2) (cipherState) (cipherWork 1 0 1 4) (none) (zeroCtx) ({ zeroCtx with slot0 := ⟨true, zeros 32, 0, 1, 4, 1⟩ }) (0) (0) := by
  decide +kernel

theorem test_sealRecords_3 :
    (fun (s : State) (w : Work) (f : Option (Fin 32)) (c c' : Ctx) (k n : Nat) =>
      let a := ciphHdr w
      s.ciphCheck 1 w = none ∧ (ciphCtx w, c) ∈ s.ciph.resident ∧ (s.recordCtx w false).1 = .ok c ∧ s.ciph.resident.length ≤ 1024 ∧
      s.readsPoison (ciphAccess 1 w) = false ∧ s.nonce (ciphCtx w) (ciphLen w) c = .take k n c' ∧ f = none ∧ ciphControl w = true ∧ a + ciphLen w + 64 ≤ hostBase ∧
      (c'.slot k).ctr ≤ s.warnLimits.1 ∧ (c'.slot k).bytes ≤ s.warnLimits.2) (cipherState) (cipherWork 1 1 1 4) (none) (zeroCtx) ({ zeroCtx with slot0 := ⟨true, zeros 32, 0, 1, 4, 1⟩ }) (0) (0) := by
  decide +kernel

theorem test_sealRecords_4 :
    (fun (s u : State) (w : Work) (f : Option (Fin 32)) (c : Ctx) =>
      s.ciphCheck 1 w = none ∧ w.body 0 1 = 1 ∧ s.recordCtx w false = (.ok c, u) ∧ u.readsPoison (ciphAccess 1 w) = false ∧
      u.nonce (ciphCtx w) (ciphLen w) c = .wait) ({ cipherState with ciph := { cipherState.ciph with ledger := [] } }) ({ cipherState with ciph := { cipherState.ciph with ledger := [] } } |>.makeResident 1 zeroCtx) (cipherWork 1 0 1 4) (none) (zeroCtx) := by
  decide +kernel

theorem test_sealRecords_5 :
    (fun (s u : State) (w : Work) (f : Option (Fin 32)) (c : Ctx) (r : Nat) =>
      s.ciphCheck 1 w = none ∧ w.body 0 1 = 1 ∧ s.recordCtx w false = (.ok c, u) ∧ u.readsPoison (ciphAccess 1 w) = false ∧
      u.nonce (ciphCtx w) (ciphLen w) c = .refuse r) ({ cipherState with ciph := { cipherState.ciph with resident := [(1, { zeroCtx with slot0 := {} })] } }) ({ cipherState with ciph := { cipherState.ciph with resident := [(1, { zeroCtx with slot0 := {} })] } } |>.makeResident 1 { zeroCtx with slot0 := {} }) (cipherWork 1 0 1 4) (none) ({ zeroCtx with slot0 := {} }) (0x0A06) := by
  decide +kernel

theorem test_sealRecords_6 :
    (fun (s : State) (w : Work) (f : Option (Fin 32)) (r : Nat) =>
      (s.ciphCheck 1 w = some r ∧ r ≠ 0x0A02 ∧ (w.body 0 1 ≠ 0x0F ∨ w.body 1 1 ≠ 0))) (cipherState.set CIPH_STATUS.READY 0) (cipherWork 1 0 1 4) (none) (0x0A1C) := by
  decide +kernel

theorem test_sealRecords_7 :
    (fun (s : State) (w : Work) (f : Option (Fin 32)) =>
      w.body 0 1 = 0x0F ∧ w.body 1 1 = 0) (cipherState) (cipherWork 15 0 1 4) (none) := by
  decide +kernel

theorem test_sealRecords_8 :
    (fun (s u : State) (w : Work) (p : Fin 32) (c c' : Ctx) (k n : Nat) =>
      s.ciphCheck 1 w = none ∧ w.body 0 1 = 1 ∧ s.recordCtx w false = (.ok c, u) ∧ u.readsPoison (ciphAccess 1 w) = false ∧
      u.nonce (ciphCtx w) (ciphLen w) c = .take k n c' ∧ u.pipeOn p = true) (cipherState) (cipherState.makeResident 1 zeroCtx) (cipherWork 1 0 1 4) (3) (zeroCtx) ({ zeroCtx with slot0 := ⟨true, zeros 32, 0, 1, 4, 1⟩ }) (0) (0) := by
  decide +kernel

theorem test_openRecords_1 :
    (fun (s u : State) (w : Work) (c : Ctx) (k : Nat) (p : Bytes) =>
      let a := ciphHdr w
      let iv := s.readBytes (a + 32) 12
      s.ciphCheck 2 w = none ∧ s.recordCtx w true = (.ok c, u) ∧ u.mem = s.mem ∧ s.readsPoison (ciphAccess 2 w) = false ∧ ciphControl w = false ∧
      c.slotBySalt (fieldAt iv 0 4) = some k ∧ s.readLe (a + 30) 1 % 2 = k ∧ s.xport.rxChunks.any (fun x => x.addr == a) = false ∧
      gcmOpen (c.slot k).key iv (s.readBytes a 32) (s.readBytes (ciphIn w) (ciphLen w)) (s.readBytes (ciphIn w + ciphLen w) 16) = some p ∧ ciphOut w + p.length ≤ hostBase) (openState) (openState.makeResident 17 { zeroCtx with rx := true }) (cipherWork 2 0 17 4) ({ zeroCtx with rx := true }) (0) ([9, 8, 7, 6]) := by
  decide +kernel

theorem test_openRecords_2 :
    (fun (s u : State) (w : Work) (c : Ctx) (k : Nat) =>
      let a := ciphHdr w
      let iv := s.readBytes (a + 32) 12
      s.ciphCheck 2 w = none ∧ s.recordCtx w true = (.ok c, u) ∧ u.mem = s.mem ∧ s.readsPoison (ciphAccess 2 w) = false ∧ ciphControl w = false ∧
      c.slotBySalt (fieldAt iv 0 4) = some k ∧ s.readLe (a + 30) 1 % 2 = k ∧ s.xport.rxChunks.any (fun x => x.addr == a) = false ∧
      gcmOpen (c.slot k).key iv (s.readBytes a 32) (s.readBytes (ciphIn w) (ciphLen w)) (s.readBytes (ciphIn w + ciphLen w) 16) = none) (cipherState) (cipherState.makeResident 17 { zeroCtx with rx := true }) (cipherWork 2 0 17 4) ({ zeroCtx with rx := true }) (0) := by
  decide +kernel

theorem test_openRecords_3 :
    (fun (s u : State) (w : Work) (c : Ctx) (f : Option (Fin 32)) =>
      let a := ciphHdr w
      s.ciphCheck 2 w = none ∧ s.recordCtx w true = (.ok c, u) ∧ u.mem = s.mem ∧ s.readsPoison (ciphAccess 2 w) = false ∧ ciphControl w = false ∧
      (c.slotBySalt (fieldAt (s.readBytes (a + 32) 12) 0 4)).isNone = true ∧ s.xport.rxChunks.any (fun x => x.addr == a) = false) (cipherState.writeBytes 0x1020 [5]) ((cipherState.writeBytes 0x1020 [5]).makeResident 17 { zeroCtx with rx := true }) (cipherWork 2 0 17 4) ({ zeroCtx with rx := true }) (none) := by
  decide +kernel

theorem test_openRecords_4 :
    (fun (s : State) (w : Work) (f : Option (Fin 32)) (r : Nat) =>
      s.ciphCheck 2 w = some r ∧ r ≠ 0x0A02) (cipherState.set CIPH_STATUS.READY 0) (cipherWork 2 0 1 4) (none) (0x0A1C) := by
  decide +kernel

set_option maxRecDepth 2000000 in
theorem test_contextsAndLedger_1 :
    (fun (s u : State) (w : Work) (c : Ctx) =>
      s.ciphCheck 3 w = none ∧ s.keyOpCtx w = (.ok c, u) ∧ ciphOut w + 160 ≤ hostBase ∧
      (ciphWrapped w = true ∨ s.on CIPH_SECURITY.CLEAR_EXPORT_EN = true)) (imageState) (imageState.makeResident 1 zeroCtx) (cipherWork 3 0 1 160) (zeroCtx) := by
  decide +kernel

theorem test_contextsAndLedger_2 :
    (fun (s : State) (w : Work) =>
      s.ciphCheck 3 w = none ∧ ciphWrapped w = false ∧ s.on CIPH_SECURITY.CLEAR_EXPORT_EN = false) (cipherState) (cipherWork 3 0 1 160) := by
  decide +kernel

set_option maxRecDepth 2000000 in
theorem test_contextsAndLedger_3 :
    (fun (s : State) (w : Work) (id : Nat) (c : Ctx) =>
      (s.ciphCheck 4 w = none ∧ s.readsPoison (ciphAccess 4 w) = false ∧ (ciphWrapped w = true ∨ s.on CIPH_SECURITY.CLEAR_EXPORT_EN = true)) ∧
      readImage (ciphWrapped w) (s.readBytes (ciphHdr w) 160) = some (id, c) ∧ id < s.get CIPH_STORE_SIZE.CONTEXTS ∧ id ∉ s.ciph.valid ∧
      max (s.ledger id 0).gen (s.ledger id 1).gen ≤ c.newest ∧ c.tenant = w.tenant ∧ s.quotaOk c.tenant = true) ({ imageState with ciph := { imageState.ciph with ledger := [⟨2, 0, 1, 99, none, false⟩] } }) (cipherWork 4 0 2 160) (2) ({ zeroCtx with slot1 := ⟨false, zeros 32, 0, 0, 0, 0⟩ }) := by
  decide +kernel

theorem test_contextsAndLedger_4 :
    (fun (s u : State) (w : Work) (c : Ctx) =>
      s.ciphCheck 5 w = none ∧ s.keyOpCtx w = (.ok c, u)) (cipherState) (cipherState.makeResident 1 zeroCtx) (cipherWork 5 0 1 0) (zeroCtx) := by
  decide +kernel

theorem test_contextsAndLedger_5 :
    (fun (s : State) (w : Work) =>
      s.coreWaits true = false ∧ s.ciphCheck 6 w = none ∧ s.readsPoison (ciphAccess 6 w) = false ∧ ciphOut w + 30560 ≤ hostBase) (cipherState) (cipherWork 6 0 1 30560) := by
  decide +kernel

theorem test_contextsAndLedger_6 :
    (fun (s : State) (c : Fin 65536) (k : Fin 2) (h : Nat) =>
      (s.ledger c k).writing = some h ∧ s.ciph.waiting.any (fun w => ciphCtx w == c.val) = false) ({ cipherState with ciph := { cipherState.ciph with ledger := [⟨1, 0, 1, 2, some 99, false⟩] } }) (1) (0) (99) := by
  decide +kernel

theorem test_contextsAndLedger_7 :
    (fun (s : State) (c : Fin 65536) (k : Fin 2) (h : Nat) =>
      (s.ledger c k).writing = some h) ({ cipherState with ciph := { cipherState.ciph with ledger := [⟨1, 0, 1, 2, some 99, false⟩] } }) (1) (0) (99) := by
  decide +kernel

theorem test_contextsAndLedger_8 :
    (fun (s : State) (m : Master) (tag : BitVec 10) (v : Word) =>
      let w := forced v [(CIPH_EXTEND_CMD.GO, 1)]
      let r := CIPH_EXTEND_CMD.REGISTER.of w.toNat
      Writable s m CIPH_EXTEND_CMD 0 w ∧ 12 ≤ r ∧ r ≤ 15) (cipherState) (.sec) (1) (12) := by
  decide +kernel

theorem test_contextsAndLedger_9 :
    (fun (s : State) (m : Master) (tag : BitVec 10) (v : Word) =>
      let w := forced v [(CIPH_EXTEND_CMD.GO, 1)]
      let r := CIPH_EXTEND_CMD.REGISTER.of w.toNat
      (Writable s m CIPH_EXTEND_CMD 0 w ∧ (r < 12 ∨ 15 < r))) (cipherState) (.sec) (1) (3) := by
  decide +kernel

theorem test_rekeyTimers_1 :
    (fun (s : State) (e : Fin 129) (peer : Fin 16) =>
      s.coreWaits true = false ∧ s.initiates peer = true ∧ s.on PEER_CFG.ENABLE peer = true ∧ s.rekeyState e peer = 0 ∧
      ((e.val = 128 ∨ s.on JOB_CTRL.ENABLE e = true) ∧ s.on CIPH_CAP.KEM_OK = true) ∧
      (s.get CIPH_TENANT.REKEY_INTERVAL_S (s.flowTenant e) ≠ 0 ∨ (s.ctx (s.pairTx e peer)).isNone = true)) (mailState 0) (3) (1) := by
  decide +kernel

theorem test_rekeyTimers_2 :
    (fun (s : State) (e : Fin 129) (peer : Fin 16) =>
      s.coreWaits true = false ∧ s.initiates peer = true ∧ s.on PEER_CFG.ENABLE peer = true ∧ s.rekeyState e peer = 0 ∧
      ((e.val = 128 ∨ s.on JOB_CTRL.ENABLE e = true) ∧ s.on CIPH_CAP.KEM_OK = true)) (mailState 0) (3) (1) := by
  decide +kernel

theorem test_rekeyTimers_3 :
    (fun (s : State) (e : Fin 129) (peer : Fin 16) =>
      s.coreWaits true = false ∧ s.rekeyState e peer = 1) (pairState 0 ⟨3, 1, 2, [], [1], [], false, false⟩ []) (3) (1) := by
  decide +kernel

theorem test_rekeyTimers_4 :
    (fun (s : State) (e : Fin 129) (peer : Fin 16) (y : Establish) =>
      s.coreWaits true = false ∧ s.establishing e peer = some y ∧ s.rekeyState e peer = 3 ∧ s.initiates peer = true) (pairState 0 ⟨3, 1, 2, [], [], [], false, false⟩ [(1, { zeroCtx with rekey := 3 }), (17, { zeroCtx with rx := true, rekey := 3 })]) (3) (1) (⟨3, 1, 2, [], [], [], false, false⟩) := by
  decide +kernel

theorem test_rekeyTimers_5 :
    (fun (s : State) (e : Fin 129) (peer : Fin 16) (y : Establish) (c : Ctx) =>
      let id := s.pairTx e peer
      s.coreWaits true = false ∧ s.establishing e peer = some y ∧ s.ctx id = some c ∧ c.rekey = 3 ∧ y.ownRetired = false ∧ s.slotInUse id (1 - c.active) = false ∧
      y.peerRetired = false ∧ s.ciph.resident.length < 1024) (pairState 0 ⟨3, 1, 2, [], [], [], false, false⟩ [(1, { zeroCtx with rekey := 3 }), (17, { zeroCtx with rx := true, rekey := 3 })]) (3) (1) (⟨3, 1, 2, [], [], [], false, false⟩) ({ zeroCtx with rekey := 3 }) := by
  decide +kernel

theorem test_rekeyTimers_6 :
    (fun (s : State) (c : Instr) (e : Fin 129) (peer : Fin 16) (env : Bytes) =>
      s.coreWaits true = true ∧
      c ∈ [.rekeyInterval e peer, .rekeyTimeout e peer, .rekeyRetry e peer, .confirmResend e peer, .oldSlotRetire e peer, .keymailOffer env, .keymailAccept env, .keymailConfirm env, .keymailRetire env, .keymailAbort env, .keymailCert env]) ((mailState 0).set TOP_CORE.SEC_STATE 2) (.rekeyRetry 3 1) (3) (1) ([]) := by
  decide +kernel

theorem test_keyMail_1 :
    (fun (s : State) (e : Nat) (env pk : Bytes) (x : MailEntry) =>
      let site := fieldAt env 2 1 % 16
      s.coreWaits true = false ∧ fieldAt env 1 1 = 1 ∧ s.get CIPH_KMI_PTR.WR_PTR ≠ s.get CIPH_KMI_PTR.RD_PTR ∧ s.mailForUs env = true ∧
      s.ciph.peerSession.find? (fun p => p.1 == site) = some (site, pk) ∧ slice env 24 32 = sha256 pk ∧ 64 + 17088 ≤ env.length ∧
      lookupD s.ciph.mailIn site 0 < fieldAt env 8 8 ∧ s.ciph.resident.length < 1022 ∧ s.entryOf x.job = some e ∧
      mailEntries (min (fieldAt env 4 2) 24) ((env.take (env.length - 17088)).drop 64) = [x] ∧ s.initiates site = false ∧ (s.establishing e site).isNone = true ∧
      s.on CIPH_CAP.KEM_OK = true ∧ (s.ctx (s.pairTx e site)).isNone = true ∧ (s.ctx (s.pairRx e site)).isNone = true ∧ s.pairRx e site < s.get CIPH_STORE_SIZE.CONTEXTS ∧
      s.tenantCtxs (s.flowTenant e) + 2 ≤ s.get CIPH_TENANT.CTX_QUOTA (s.flowTenant e) ∧ (s.ledger (s.pairTx e site) 1).gen ≤ x.gen) (mailState 2) (3) (mailOf 2 1 6 (zeros 8)) ([5]) (⟨7, 6, zeros 8⟩) := by
  decide +kernel

theorem test_keyMail_2 :
    (fun (s : State) (e : Nat) (env pk : Bytes) (x : MailEntry) (y : Establish) =>
      let site := fieldAt env 2 1 % 16
      s.coreWaits true = false ∧ fieldAt env 1 1 = 2 ∧ s.get CIPH_KMI_PTR.WR_PTR ≠ s.get CIPH_KMI_PTR.RD_PTR ∧ s.mailForUs env = true ∧
      s.ciph.peerSession.find? (fun p => p.1 == site) = some (site, pk) ∧ slice env 24 32 = sha256 pk ∧ 64 + 17088 ≤ env.length ∧
      lookupD s.ciph.mailIn site 0 < fieldAt env 8 8 ∧ s.ciph.resident.length < 1022 ∧ s.entryOf x.job = some e ∧
      mailEntries (min (fieldAt env 4 2) 24) ((env.take (env.length - 17088)).drop 64) = [x] ∧ s.establishing e site = some y ∧ y.gen = x.gen ∧ y.dk ≠ [] ∧
      (s.ctx (s.pairTx e site)).isNone = true ∧ (s.ctx (s.pairRx e site)).isNone = true ∧ s.pairRx e site < s.get CIPH_STORE_SIZE.CONTEXTS ∧
      s.tenantCtxs (s.flowTenant e) + 2 ≤ s.get CIPH_TENANT.CTX_QUOTA (s.flowTenant e) ∧ (s.ledger (s.pairTx e site) 1).gen ≤ x.gen) (pairState 0 ⟨3, 1, 6, [], [1], [], false, false⟩ []) (3) (mailOf 0 2 6 (zeros 8)) ([5]) (⟨7, 6, zeros 8⟩) (⟨3, 1, 6, [], [1], [], false, false⟩) := by
  decide +kernel

theorem test_keyMail_3 :
    (fun (s : State) (e : Nat) (env pk : Bytes) (x : MailEntry) (y : Establish) (c : Ctx) =>
      let site := fieldAt env 2 1 % 16
      s.coreWaits true = false ∧ fieldAt env 1 1 = 3 ∧ s.get CIPH_KMI_PTR.WR_PTR ≠ s.get CIPH_KMI_PTR.RD_PTR ∧ s.mailForUs env = true ∧
      s.ciph.peerSession.find? (fun p => p.1 == site) = some (site, pk) ∧ slice env 24 32 = sha256 pk ∧ 64 + 17088 ≤ env.length ∧
      lookupD s.ciph.mailIn site 0 < fieldAt env 8 8 ∧ s.ciph.resident.length < 1022 ∧ s.entryOf x.job = some e ∧ s.ctx (s.pairTx e site) = some c ∧ c.rekey = 2 ∧
      mailEntries (min (fieldAt env 4 2) 24) ((env.take (env.length - 17088)).drop 64) = [x] ∧ s.establishing e site = some y ∧ y.gen = x.gen ∧
      x.payload = confirmBytes (s.lowKey e site x.gen) y.kctx) (pairState 2 ⟨3, 1, 1, [], [], [], false, false⟩ [(1, { zeroCtx with rekey := 2 }), (17, { zeroCtx with rx := true, rekey := 2 })]) (3) (mailOf 2 3 1 (confirmBytes (zeros 32) [])) ([5]) (⟨7, 1, confirmBytes (zeros 32) []⟩) (⟨3, 1, 1, [], [], [], false, false⟩) ({ zeroCtx with rekey := 2 }) := by
  decide +kernel

theorem test_keyMail_4 :
    (fun (s : State) (e : Nat) (env pk : Bytes) (x : MailEntry) (c : Ctx) =>
      let site := fieldAt env 2 1 % 16
      s.coreWaits true = false ∧ fieldAt env 1 1 = 4 ∧ s.get CIPH_KMI_PTR.WR_PTR ≠ s.get CIPH_KMI_PTR.RD_PTR ∧ s.mailForUs env = true ∧
      s.ciph.peerSession.find? (fun p => p.1 == site) = some (site, pk) ∧ slice env 24 32 = sha256 pk ∧ 64 + 17088 ≤ env.length ∧
      lookupD s.ciph.mailIn site 0 < fieldAt env 8 8 ∧ s.ciph.resident.length < 1022 ∧ s.entryOf x.job = some e ∧ s.ctx (s.pairRx e site) = some c ∧
      mailEntries (min (fieldAt env 4 2) 24) ((env.take (env.length - 17088)).drop 64) = [x] ∧ (s.establishing e site).isNone = true ∧
      c.slot0.valid = true ∧ c.slot0.gen = fieldAt x.payload 0 2) ({ (mailState 2) with ciph := { (mailState 2).ciph with valid := [17], resident := [(17, { zeroCtx with rx := true })] } }) (3) (mailOf 2 4 1 (le 2 1 ++ zeros 6)) ([5]) (⟨7, 1, le 2 1 ++ zeros 6⟩) ({ zeroCtx with rx := true }) := by
  decide +kernel

theorem test_keyMail_5 :
    (fun (s : State) (env pk : Bytes) =>
      let site := fieldAt env 2 1 % 16
      s.coreWaits true = false ∧ fieldAt env 1 1 = 5 ∧ s.get CIPH_KMI_PTR.WR_PTR ≠ s.get CIPH_KMI_PTR.RD_PTR ∧ s.mailForUs env = true ∧
      s.ciph.peerSession.find? (fun p => p.1 == site) = some (site, pk) ∧ slice env 24 32 = sha256 pk ∧ 64 + 17088 ≤ env.length ∧
      lookupD s.ciph.mailIn site 0 < fieldAt env 8 8 ∧ fieldAt env 72 2 = 0x0A13) (mailState 2) (mailOf 2 5 1 (le 2 0x0A13 ++ zeros 6)) ([5]) := by
  decide +kernel

theorem test_keyMail_6 :
    (fun (s : State) (env : Bytes) =>
      let site := fieldAt env 2 1 % 16
      s.coreWaits true = false ∧ fieldAt env 1 1 = 6 ∧ s.get CIPH_KMI_PTR.WR_PTR ≠ s.get CIPH_KMI_PTR.RD_PTR ∧ s.mailForUs env = true ∧
      lookupD s.ciph.mailIn site 0 < fieldAt env 8 8) (mailState 0) (certOf) := by
  decide +kernel

theorem test_performanceMonitor_1 :
    (fun (s : State) (m : Master) (tag : BitVec 10) (v : Word) =>
      Writable s m PMON_SNAP 0 (forced v [(PMON_SNAP.GO, 1)])) (up) (.host) (1) (0) := by
  decide +kernel

theorem test_performanceMonitor_2 :
    (fun (s : State) (m : Master) (tag : BitVec 10) (v : Word) =>
      let w := forced v [(PMON_SNAP.HOLD, 1)]
      Writable s m PMON_SNAP 0 w ∧ PMON_SNAP.GO.of w.toNat = 0) ({ (up.set PMON_SNAP.HOLD 1) with pmon := { up.pmon with latched := [(1, 1)] } }) (.mgmt) (1) (0) := by
  decide +kernel

theorem test_performanceMonitor_3 :
    (fun (s : State) (m : Master) (tag : BitVec 10) (n : Fin 512) (v : Word) =>
      let w := (⟨PMON_EVSEL, n, 0, 15⟩ : Hit).merge (s.rdReg PMON_EVSEL n) (forced v [(PMON_EVSEL.EN, 1)])
      Writable s m PMON_EVSEL n (forced v [(PMON_EVSEL.EN, 1)]) ∧
      (s.on PMON_EVSEL.EN n = true ∨ pmonEventOk (PMON_EVSEL.EVENT.of w.toNat) (w.getLsbD 1) = true)) (up) (.host) (1) (511) (0x4200) := by
  decide +kernel

theorem test_performanceMonitor_4 :
    (fun (s : State) (m : Master) (tag : BitVec 10) (n : Fin 512) (v : Word) =>
      let w := (⟨PMON_EVSEL, n, 0, 15⟩ : Hit).merge (s.rdReg PMON_EVSEL n) (forced v [(PMON_EVSEL.EN, 1)])
      Writable s m PMON_EVSEL n (forced v [(PMON_EVSEL.EN, 1)]) ∧ s.on PMON_EVSEL.EN n = false ∧
      pmonEventOk (PMON_EVSEL.EVENT.of w.toNat) (w.getLsbD 1) = false) (up) (.host) (1) (511) (0x2102) := by
  decide +kernel

theorem test_performanceMonitor_5 :
    (fun (s : State) (m : Master) (tag : BitVec 10) (v : Word) =>
      Writable s m PMON_BW_WINDOW 0 v) ((up.set PMON_BW_PEAK.RX_KIB 5 47)) (.host) (1) (5000) := by
  decide +kernel

theorem test_performanceMonitor_6 :
    (fun (s : State) =>
      s.on PMON_STATUS.READY = true) ({ (up.set PMON_STATUS.READY 1) with pmon := { up.pmon with meterTx := [(47, 5000)], meterRx := [(0, 2 ^ 40 - 1)] } }) := by
  decide +kernel

theorem test_spareCommands_1 :
    (fun (s : State) (m : Master) (tag : BitVec 10) (v : Word) =>
      let w := forced v [(GRP_SHADOW.GO, 1)]
      Writable s m GRP_SHADOW 0 w ∧ GRP_SHADOW.STOP.of w.toNat = 0 ∧ s.boot.features.testBit 7 = true ∧ s.on GRP_CTRL.ROLE = true ∧
      s.get GRP_STATUS.SHADOW_STATE = 0 ∧ (s.member (GRP_SHADOW.POSITION.of w.toNat)).isSome = true) (spareState) (.host) (1) (5) := by
  decide +kernel

theorem test_spareCommands_2 :
    (fun (s : State) (m : Master) (tag : BitVec 10) (v : Word) =>
      let w := forced v [(GRP_SHADOW.GO, 1)]
      Writable s m GRP_SHADOW 0 w ∧ GRP_SHADOW.STOP.of w.toNat = 0 ∧
      (s.boot.features.testBit 7 = false ∨ s.on GRP_CTRL.ROLE = false ∨ s.get GRP_STATUS.SHADOW_STATE ≠ 0)) (up) (.host) (1) (5) := by
  decide +kernel

theorem test_spareCommands_3 :
    (fun (s : State) (m : Master) (tag : BitVec 10) (v : Word) =>
      let w := forced v [(GRP_SHADOW.STOP, 1)]
      Writable s m GRP_SHADOW 0 w ∧ GRP_SHADOW.GO.of w.toNat = 0 ∧
      ((s.get GRP_STATUS.SHADOW_STATE = 1 ∨ s.get GRP_STATUS.SHADOW_STATE = 2) ∨ s.grp.shadowed = true)) (spareState.set GRP_STATUS.SHADOW_STATE 2) (.host) (1) (5) := by
  decide +kernel

theorem test_spareCommands_4 :
    (fun (s : State) =>
      s.on GRP_STATUS.READY = true ∧ s.on GRP_CTRL.ROLE = true ∧ s.get GRP_STATUS.SHADOW_STATE = 1) (spareState.set GRP_STATUS.SHADOW_STATE 1) := by
  decide +kernel

theorem test_spareCommands_5 :
    (fun (s : State) =>
      s.on GRP_STATUS.READY = true ∧ s.on GRP_CTRL.ROLE = false) (up.set GRP_STATUS.READY 1) := by
  decide +kernel

theorem test_spareCommands_6 :
    (fun (s : State) =>
      s.grp.shadowed = true) (partnerState) := by
  decide +kernel

theorem test_spareCommands_7 :
    (fun (s : State) (m : Master) (tag : BitVec 10) (v : Word) =>
      let w := forced v [(GRP_TAKEOVER.GO, 1)]
      let pos := GRP_TAKEOVER.POSITION.of w.toNat
      Writable s m GRP_TAKEOVER 0 w ∧ s.on GRP_CTRL.ROLE = true ∧ s.get GRP_STATUS.SHADOW_STATE < 2 ∧ (s.member pos).isSome = true) (spareState) (.host) (1) (5) := by
  decide +kernel

theorem test_spareCommands_8 :
    (fun (s : State) (m : Master) (tag : BitVec 10) (v : Word) =>
      let w := forced v [(GRP_TAKEOVER.GO, 1)]
      (Writable s m GRP_TAKEOVER 0 w ∧ (s.on GRP_CTRL.ROLE = false ∨ s.get GRP_STATUS.SHADOW_STATE = 4))) (spareState.set GRP_STATUS.SHADOW_STATE 4) (.host) (1) (5) := by
  decide +kernel

theorem test_spareCommands_9 :
    (fun (s : State) =>
      s.get GRP_STATUS.SHADOW_STATE = 3) (spareState.set GRP_STATUS.SHADOW_STATE 3) := by
  decide +kernel

theorem test_spareCommands_10 :
    (fun (s : State) =>
      s.on GRP_STATUS.READY = true ∧ s.on GRP_CTRL.ROLE = false ∧ s.grp.shadowed = true) (partnerState.set GRP_STATUS.READY 1) := by
  decide +kernel

theorem test_groupMessages_1 :
    (fun (s : State) (ep : BitVec 24) (b : Bytes) =>
      s.on GRP_STATUS.READY = true ∧ (s.positionOf ep.toNat).isNone = true) (spareState) (99) (gMsg 1 0 0) := by
  decide +kernel

theorem test_groupMessages_2 :
    (fun (s : State) (ep : BitVec 24) (b : Bytes) (pos : Nat) =>
      s.on GRP_STATUS.READY = true ∧ s.positionOf ep.toNat = some pos ∧ 32 ≤ b.length ∧ fieldAt b 0 1 = 1 ∧
      s.on GRP_CTRL.ROLE = true ∧ (s.get GRP_SILENT.SILENT).testBit pos = true) (spareState.set GRP_SILENT.SILENT 0x22) (70) (gMsg 1 0 0) (5) := by
  decide +kernel

theorem test_groupMessages_3 :
    (fun (s : State) (ep : BitVec 24) (b : Bytes) =>
      s.on GRP_STATUS.READY = true ∧ (s.positionOf ep.toNat).isSome = true ∧ 32 ≤ b.length ∧ fieldAt b 0 1 = 7 ∧ s.get GRP_SILENT.SILENT = 0) (spareState) (70) (gMsg 7 0 0) := by
  decide +kernel

theorem test_groupMessages_4 :
    (fun (s : State) =>
      s.on GRP_STATUS.READY = true ∧ s.on GRP_CTRL.ROLE = false) (partnerState.set GRP_STATUS.READY 1) := by
  decide +kernel

theorem test_groupMessages_5 :
    (fun (s : State) =>
      s.on GRP_STATUS.READY = true ∧ s.on GRP_CTRL.ROLE = true) (spareState) := by
  decide +kernel

theorem test_groupMessages_6 :
    (fun (s : State) (pos : Fin 64) =>
      s.on GRP_STATUS.READY = true ∧ s.on GRP_CTRL.ROLE = true ∧ pos.val < s.get GRP_CFG.GROUP_SIZE ∧
      (s.get GRP_SILENT.SILENT).testBit pos = false) (spareState) (5) := by
  decide +kernel

theorem test_groupMessages_7 :
    (fun (s : State) (ep : BitVec 24) (b : Bytes) (pos : Nat) =>
      s.on GRP_STATUS.READY = true ∧ s.positionOf ep.toNat = some pos ∧ 32 ≤ b.length ∧ fieldAt b 0 1 = 2 ∧
      s.on GRP_CTRL.ROLE = false ∧ s.grp.shadowed = true) (partnerState.set GRP_STATUS.READY 1) (70) (gMsg 2 0 0) (5) := by
  decide +kernel

theorem test_groupMessages_8 :
    (fun (s : State) (ep : BitVec 24) (b : Bytes) (pos : Nat) =>
      s.on GRP_STATUS.READY = true ∧ s.positionOf ep.toNat = some pos ∧ 32 ≤ b.length ∧ fieldAt b 0 1 = 2 ∧
      s.on GRP_CTRL.ROLE = true ∧ s.on GRP_CTRL.AUTO_TAKEOVER = false) (spareState.set GRP_CTRL.AUTO_TAKEOVER 0) (70) (gMsg 2 0 0) (5) := by
  decide +kernel

theorem test_groupMessages_9 :
    (fun (s : State) (ep : BitVec 24) (b : Bytes) (pos j : Nat) =>
      s.on GRP_STATUS.READY = true ∧ s.positionOf ep.toNat = some pos ∧ 32 ≤ b.length ∧ fieldAt b 0 1 = 3 ∧ s.get GRP_SILENT.SILENT = 0 ∧
      s.get GRP_STATUS.SHADOW_STATE = 2 ∧ s.get GRP_STATUS.PARTNER_POS = pos ∧ s.entryOf (gJob b) = some j ∧
      gChunk b ≠ 0 ∧ chunkKind (gChunk b) = 1 ∧ gStep b = (s.stepRec j).step ∧ (s.stepRec j).stalled = false) (spareState.set GRP_STATUS.SHADOW_STATE 2 |>.set GRP_STATUS.PARTNER_POS 5 |>.set JOB_CTRL.ENABLE 1 3 |>.set JOB_CTRL.JOB_ID 0x77 3) (70) (gMsg 0x770003 0 0x60000003) (5) (3) := by
  decide +kernel

theorem test_groupMessages_10 :
    (fun (s : State) (ep : BitVec 24) (b : Bytes) (pos : Nat) (x : MirrorItem) =>
      s.on GRP_STATUS.READY = true ∧ s.positionOf ep.toNat = some pos ∧ 32 ≤ b.length ∧ fieldAt b 0 1 = 4 ∧ s.get GRP_SILENT.SILENT = 0 ∧
      s.grp.items.find? (fun x => x.job == gJob b && x.step == gStep b && x.chunk == gChunk b && x.site % 16 == gSite b && x.order == gOrder b && !x.done) = some x) ({ (partnerState.set GRP_STATUS.READY 1) with grp := { up.grp with shadowed := true, items := [⟨0, 0, 9, 0, 0xFF, none, false⟩] } }) (70) (gMsg 4 0 9) (5) (⟨0, 0, 9, 0, 0xFF, none, false⟩) := by
  decide +kernel

theorem test_groupMessages_11 :
    (fun (s : State) (ep : BitVec 24) (b : Bytes) (pos : Nat) =>
      s.on GRP_STATUS.READY = true ∧ s.positionOf ep.toNat = some pos ∧ 32 ≤ b.length ∧ fieldAt b 0 1 = 8 ∧ s.get GRP_SILENT.SILENT = 0 ∧
      s.get GRP_STATUS.SHADOW_STATE ≠ 0 ∧ s.get GRP_STATUS.PARTNER_POS = pos) (spareState.set GRP_STATUS.SHADOW_STATE 2 |>.set GRP_STATUS.PARTNER_POS 5) (70) ((gMsg 8 0 0).take 24 ++ le 4 1 ++ zeros 4 ++ le 4 7 ++ le 4 8 ++ le 4 9 ++ le 4 10) (5) := by
  decide +kernel

theorem test_groupMessages_12 :
    (fun (s : State) =>
      s.grp.shadowed = true) (partnerState) := by
  decide +kernel

theorem test_groupMessages_13 :
    (fun (s : State) (ep : BitVec 24) (b : Bytes) (sf pf : Bool) (pos : Nat) (x : Digest) =>
      let d : Digest := ⟨gJob b, gStep b, gChunk b, slice b 32 16, sf, pf⟩
      s.on GRP_STATUS.READY = true ∧ s.positionOf ep.toNat = some pos ∧ 32 ≤ b.length ∧ fieldAt b 0 1 = 5 ∧ s.get GRP_SILENT.SILENT = 0 ∧
      s.get GRP_STATUS.SHADOW_STATE = 2 ∧ s.get GRP_STATUS.PARTNER_POS = pos ∧ s.grp.own.find? d.same = some x ∧ x.value = d.value) ({ (spareState.set GRP_STATUS.SHADOW_STATE 2 |>.set GRP_STATUS.PARTNER_POS 5) with grp := { up.grp with own := [⟨0, 0, 9, zeros 16, false, false⟩] } }) (70) (gMsg 5 0 9 ++ zeros 16) (false) (true) (5) (⟨0, 0, 9, zeros 16, false, false⟩) := by
  decide +kernel

theorem test_groupMessages_14 :
    (fun (s : State) (ep : BitVec 24) (b : Bytes) (pos : Nat) (x : Digest) =>
      let d : Digest := ⟨gJob b, gStep b, gChunk b, slice b 32 16, false, false⟩
      s.on GRP_STATUS.READY = true ∧ s.positionOf ep.toNat = some pos ∧ 32 ≤ b.length ∧ fieldAt b 0 1 = 5 ∧ s.get GRP_SILENT.SILENT = 0 ∧
      s.get GRP_STATUS.SHADOW_STATE = 2 ∧ s.get GRP_STATUS.PARTNER_POS = pos ∧ s.grp.own.find? d.same = some x ∧ x.value ≠ d.value) ({ (spareState.set GRP_STATUS.SHADOW_STATE 2 |>.set GRP_STATUS.PARTNER_POS 5) with grp := { up.grp with own := [⟨0, 0, 9, [1], false, false⟩] } }) (70) (gMsg 5 0 9 ++ zeros 16) (5) (⟨0, 0, 9, [1], false, false⟩) := by
  decide +kernel

theorem test_groupMessages_15 :
    (fun (s : State) (ep : BitVec 24) (b : Bytes) (pos j : Nat) =>
      s.on GRP_STATUS.READY = true ∧ s.positionOf ep.toNat = some pos ∧ 32 ≤ b.length ∧ fieldAt b 0 1 = 9 ∧ s.get GRP_SILENT.SILENT = 0 ∧
      s.entryOf (gJob b) = some j ∧ (s.stepRec j).step < gStep b ∧
      diff16 (s.get STCH_NOTICE_PTR.WR_PTR) (s.get STCH_NOTICE_PTR.RD_PTR) < 2 ^ s.get STCH_NOTICE_PTR.SIZE_LOG2) (spareState.set JOB_CTRL.ENABLE 1 3 |>.set JOB_CTRL.JOB_ID 0x77 3) (70) (le 4 0x770009 ++ le 4 1 ++ zeros 24) (5) (3) := by
  decide +kernel

theorem test_groupMessages_16 :
    (fun (s : State) (ep : BitVec 24) (b : Bytes) (pos : Nat) =>
      s.on GRP_STATUS.READY = true ∧ s.positionOf ep.toNat = some pos ∧ 32 ≤ b.length ∧ fieldAt b 0 1 = 6 ∧ s.get GRP_SILENT.SILENT = 0 ∧
      s.on GRP_CTRL.ROLE = true ∧ pos < s.get GRP_CFG.GROUP_SIZE) (spareState) (70) (gMsg 6 0 9) (5) := by
  decide +kernel

theorem test_resetsAndCores_1 :
    (fun (s : State) =>
      s.hlth.pwrGood = true ∧ s.hlth.bindingOff = false ∧ s.get TOP_STATE.CAST_PHASE = 0 ∧ s.hlth.castCut = false) (poweredOff false) := by
  decide +kernel

theorem test_resetsAndCores_2 :
    (fun (s : State) =>
      s.hlth.pwrGood = true ∧ s.hlth.bindingOff = false ∧ s.get TOP_STATE.CAST_PHASE = 0 ∧ s.hlth.castCut = true) (poweredOff true) := by
  decide +kernel

theorem test_resetsAndCores_3 :
    (fun (s : State) =>
      s.hlth.pwrGood = false) (State.reset) := by
  decide +kernel

theorem test_resetsAndCores_4 :
    (fun (s : State) =>
      s.hlth.pwrGood = true ∧ s.hlth.bindingOff = false) (({ (queueUp 5) with hlth := { up.hlth with pwrGood := true, resetHigh := true } }.writeBytes 16 [7]).writeBytes hostBase [8]) := by
  decide +kernel

theorem test_resetsAndCores_5 :
    (fun (s : State) =>
      s.hlth.bindingOff = true) ({ up with hlth := { up.hlth with bindingOff := true } }) := by
  decide +kernel

theorem test_resetsAndCores_6 :
    (fun (s : State) =>
      s.hlth.pwrGood = false ∧ s.hlth.bindingOff = false ∧ s.hlth.resetHigh = true ∧ s.hlth.castCut = false) ({ State.reset with hlth := { State.reset.hlth with resetHigh := true }, timeFrac := 9 }) := by
  decide +kernel

theorem test_resetsAndCores_7 :
    (fun (s : State) =>
      s.hlth.pwrGood = false ∧ s.hlth.bindingOff = false ∧ s.hlth.resetHigh = false) (State.reset) := by
  decide +kernel

theorem test_resetsAndCores_8 :
    (fun (s : State) (sec : Bool) =>
      let f := if sec then TOP_CORE.SEC_STATE else TOP_CORE.MGMT_STATE
      s.get f = 1 ∧ s.hlth.bindingOff = false) (up.set TOP_CORE.SEC_STATE 1) (true) := by
  decide +kernel

theorem test_resetsAndCores_9 :
    (fun (s : State) (sec : Bool) =>
      let f := if sec then TOP_CORE.SEC_STATE else TOP_CORE.MGMT_STATE
      s.get f = 2 ∧ s.hlth.update = none ∧ (if sec then s.ctl.waitSec else s.ctl.waitMgmt) = []) (up.set TOP_CORE.SEC_STATE 2) (true) := by
  decide +kernel

theorem test_resetsAndCores_10 :
    (fun (s : State) (u : Update) =>
      s.get TOP_CORE.MGMT_STATE = 2 ∧ s.hlth.update = some u ∧ u.object = 1 ∧ s.ctl.waitMgmt = []) ({ (up.set TOP_CORE.MGMT_STATE 2) with hlth := { up.hlth with update := some ⟨1, 9, [1]⟩ } }) (⟨1, 9, [1]⟩) := by
  decide +kernel

theorem test_castOnPhases_1 :
    (fun (s : State) (f : Fuses) (banks : Banks) =>
      s.get TOP_STATE.CAST_PHASE = 1) (inPhase 1) (⟨1, 2 ^ 127⟩) (⟨none, some (signedOf 3 [7])⟩) := by
  decide +kernel

theorem test_castOnPhases_2 :
    (fun (s : State) (x : SecureInput) =>
      s.get TOP_STATE.CAST_PHASE = 2) (inPhase 2) (⟨⟨none, some (signedOf 3 [7])⟩, ⟨none, none⟩, ⟨none, none⟩, none, []⟩) := by
  decide +kernel

theorem test_castOnPhases_3 :
    (fun (s : State) =>
      s.get TOP_STATE.CAST_PHASE = 3) (inPhase 3) := by
  decide +kernel

theorem test_castOnPhases_4 :
    (fun (s : State) =>
      s.get TOP_STATE.CAST_PHASE = 3 ∧ s.boot.manifest = []) (inPhase 3) := by
  decide +kernel

theorem test_castOnPhases_5 :
    (fun (s : State) (o : SignedObj) =>
      s.get TOP_STATE.CAST_PHASE = 4) (inPhase 4) (signedOf 3 [7]) := by
  decide +kernel

theorem test_castOnPhases_6 :
    (fun (s : State) (map : Bytes) =>
      s.get TOP_STATE.CAST_PHASE = 5) (inPhase 5) ([9]) := by
  decide +kernel

theorem test_castOnPhases_7 :
    (fun (s : State) (map : Bytes) =>
      s.get TOP_STATE.CAST_PHASE = 5) (inPhase 5) ([9]) := by
  decide +kernel

theorem test_castOnPhases_8 :
    (fun (s : State) (x : TrainInput) =>
      s.get TOP_STATE.CAST_PHASE = 6 ∧ x.failed = none) (inPhase 6) (⟨false, 0, 0, [], none⟩) := by
  decide +kernel

theorem test_castOnPhases_9 :
    (fun (s : State) (x : TrainInput) (c : Fin 128) =>
      s.get TOP_STATE.CAST_PHASE = 6 ∧ x.failed = some c ∧ s.keep.trained = false) (inPhase 6) (⟨false, 0, 0, [], some 127⟩) (127) := by
  decide +kernel

theorem test_castOnPhases_10 :
    (fun (s : State) (x : TestInput) =>
      s.get TOP_STATE.CAST_PHASE = 7 ∧ x.beyond = none ∧ x.repairFails = none) (inPhase 7) (⟨true, [64], none, none⟩) := by
  decide +kernel

theorem test_castOnPhases_11 :
    (fun (s : State) (x : TestInput) (a : Nat) =>
      (s.get TOP_STATE.CAST_PHASE = 7 ∧ (x.beyond = some a ∨ x.beyond = none ∧ x.repairFails = some a))) (inPhase 7) (⟨true, [], none, some 64⟩) (64) := by
  decide +kernel

theorem test_castOnPhases_12 :
    (fun (s : State) (u : TableUnit) (crc : BitVec 32) =>
      s.tableActive u = true ∧ s.boot.confirmed.contains u = false ∧ s.boot.disabled.contains u = false ∧ s.entryCrc u = some crc.toNat) (tablesPhase 0) (⟨11, 7, 64⟩) (0x99) := by
  decide +kernel

theorem test_castOnPhases_13 :
    (fun (s : State) (u : TableUnit) (crc : BitVec 32) =>
      s.get TOP_STATE.CAST_PHASE = 8 ∧ s.boot.confirmed.contains u = false ∧ s.boot.disabled.contains u = false ∧ s.entryCrc u ≠ some crc.toNat ∧ s.resends u < s.resendMax) (tablesPhase 2) (⟨11, 7, 64⟩) (0x98) := by
  decide +kernel

theorem test_castOnPhases_14 :
    (fun (s : State) (u : TableUnit) =>
      s.get TOP_STATE.CAST_PHASE = 8 ∧ s.boot.confirmed.contains u = false ∧ s.boot.disabled.contains u = false ∧ s.resends u < s.resendMax) (tablesPhase 2) (⟨11, 7, 64⟩) := by
  decide +kernel

theorem test_castOnPhases_15 :
    (fun (s : State) (u : TableUnit) =>
      s.get TOP_STATE.CAST_PHASE = 8 ∧ s.boot.confirmed.contains u = false ∧ s.boot.disabled.contains u = false ∧ s.resendMax ≤ s.resends u) (tablesPhase 3) (⟨11, 7, 5⟩) := by
  decide +kernel

theorem test_castOnPhases_16 :
    (fun (s : State) =>
      s.get TOP_STATE.CAST_PHASE = 8 ∧ s.imageSlot.isSome = true) ({ (tablesPhase 0) with keep := { up.keep with slot0 := some critOf, lastReport := 0x1008 } }) := by
  decide +kernel

theorem test_castOnPhases_17 :
    (fun (s : State) =>
      s.get TOP_STATE.CAST_PHASE = 8 ∧ s.imageSlot = none) (tablesPhase 0) := by
  decide +kernel

theorem test_castOnPhases_18 :
    (fun (s : State) (bad0 bad1 : Bool) (i : Bool) (x : CritImage) =>
      s.get TOP_STATE.CAST_PHASE = 9 ∧ s.imageSlot = some i ∧ s.keep.slot i = some x ∧ (if i then bad1 else bad0) = false ∧ settings s.boot.bundle = []) ({ (inPhase 9) with keep := { up.keep with slot1 := some { critOf with inFlight := [⟨5, 0, [13]⟩], history := [(1, 2, 3, 4)] } } }) (true) (false) (true) ({ critOf with inFlight := [⟨5, 0, [13]⟩], history := [(1, 2, 3, 4)] }) := by
  decide +kernel

theorem test_castOnPhases_19 :
    (fun (s : State) (bad0 bad1 : Bool) (i : Bool) =>
      s.get TOP_STATE.CAST_PHASE = 9 ∧ s.imageSlot = some i ∧ (if i then bad1 else bad0) = true ∧ settings s.boot.bundle = []) ({ (inPhase 9) with keep := { up.keep with slot1 := some critOf } }) (false) (true) (true) := by
  decide +kernel

theorem test_castOnPhases_20 :
    (fun (s : State) =>
      s.get TOP_STATE.CAST_PHASE = 10 ∧ s.ctl.checking = [] ∧ s.boot.turn = [] ∧ s.stageFailed = false ∧ s.boot.stage < 4) ({ (inPhase 10) with boot := { up.boot with stage := 2, enables := [11] } }) := by
  decide +kernel

theorem test_castOnPhases_21 :
    (fun (s : State) =>
      s.get TOP_STATE.CAST_PHASE = 10 ∧ s.ctl.checking = [] ∧ s.boot.turn = [] ∧ s.stageFailed = false ∧ s.boot.stage = 4) ({ (inPhase 10) with boot := { up.boot with stage := 4, restored := some true, manifest := zeros 8 ++ le 4 5 ++ le 4 6 }, keep := { up.keep with slot1 := some critOf, floorSec := 9 } }) := by
  decide +kernel

theorem test_castOnPhases_22 :
    (fun (s : State) =>
      s.get TOP_STATE.CAST_PHASE = 10 ∧ s.ctl.checking = [] ∧ s.boot.turn = [] ∧ s.stageFailed = true) ({ (inPhase 10) with boot := { up.boot with stage := 1, enables := [5] } }) := by
  decide +kernel

theorem test_castOnPhases_23 :
    (fun (s : State) =>
      1 ≤ s.get TOP_STATE.CAST_PHASE ∧ s.get TOP_STATE.CAST_PHASE ≤ 10 ∧ s.get TOP_STATE.CAST_PHASE ≠ 4) (inPhase 7) := by
  decide +kernel

theorem test_castOnPhases_24 :
    (fun (s : State) =>
      s.get TOP_STATE.CAST_PHASE = 4) (inPhase 4) := by
  decide +kernel

theorem test_inputAndBindOff_1 :
    (fun (s : State) (vin iin : BitVec 16) =>
      s.on HLTH_STATUS.INPUT_WARN = false) (up) (43000) (9) := by
  decide +kernel

theorem test_inputAndBindOff_2 :
    (fun (s : State) (vin iin : BitVec 16) =>
      s.on HLTH_STATUS.INPUT_WARN = true) (up.set HLTH_STATUS.INPUT_WARN 1) (43000) (9) := by
  decide +kernel

theorem test_inputAndBindOff_3 :
    (fun (s : State) (vin iin : BitVec 16) =>
      s.on HLTH_STATUS.INPUT_WARN = true) (up.set HLTH_STATUS.INPUT_WARN 1) (48000) (9) := by
  decide +kernel

theorem test_inputAndBindOff_5 :
    (fun (s : State) (uf vcap : BitVec 16) =>
      s.get HLTH_HOLDUP.CAP_MIN_UF ≤ uf.toNat) (moduleUp) (65535) (54000) := by
  decide +kernel

theorem test_inputAndBindOff_6 :
    (fun (s : State) (uf vcap : BitVec 16) =>
      uf.toNat < s.get HLTH_HOLDUP.CAP_MIN_UF) (moduleUp) (0) (54000) := by
  decide +kernel

theorem test_inputAndBindOff_8 :
    (fun (s : State) (pin : BitVec 16) =>
      s.on HLTH_STATUS.READY = true ∧ s.hlth.capHold = false) (moduleUp) (900) := by
  decide +kernel

theorem test_inputAndBindOff_10 :
    (fun (s : State) (cause : InputCause) (x : BindOff) =>
      s.hlth.bindingOff = false ∧ s.hlth.pwrGood = true ∧ s.on HLTH_STATUS.HOLDUP_OK = true ∧ s.get TOP_STATE.CAST_PHASE = 11 ∧ x.commits = true) ({ moduleUp with hostq := { moduleUp.hostq with dispatched := [⟨⟨5, 0, [13]⟩, 0, 0, 0, false, [], 0⟩] }, keep := { up.keep with slot0 := some critOf } }) (.lost) (⟨true, 30, 41000, 12⟩) := by
  decide +kernel

theorem test_inputAndBindOff_11 :
    (fun (s : State) (x : BindOff) =>
      s.hlth.bindingOff = false ∧ s.hlth.pwrGood = true ∧ s.on HLTH_STATUS.HOLDUP_OK = true ∧ s.get TOP_STATE.CAST_PHASE = 11 ∧ x.commits = false) ({ moduleUp with keep := { up.keep with slot0 := some critOf, slot1 := some { critOf with seq := 3 } } }) (⟨false, 30, 41000, 12⟩) := by
  decide +kernel

theorem test_inputAndBindOff_12 :
    (fun (s : State) (cause : InputCause) (x : BindOff) =>
      s.hlth.bindingOff = false ∧ s.hlth.pwrGood = true ∧ s.on HLTH_STATUS.HOLDUP_OK = false ∧ s.hlth.update = none) (moduleUp.set HLTH_STATUS.HOLDUP_OK 0) (.low) (⟨true, 30, 41000, 12⟩) := by
  decide +kernel

theorem test_inputAndBindOff_13 :
    (fun (s : State) (cause : InputCause) (x : BindOff) =>
      s.hlth.bindingOff = false ∧ s.hlth.pwrGood = false) (State.reset) (.low) (⟨true, 30, 41000, 12⟩) := by
  decide +kernel

theorem test_inputAndBindOff_14 :
    (fun (s : State) (x : BindOff) =>
      s.hlth.bindingOff = true) ({ moduleUp with hlth := { moduleUp.hlth with bindingOff := true, savedSlot := some false }, keep := { up.keep with slot0 := some critOf } }) (⟨true, 30, 41000, 12⟩) := by
  decide +kernel

theorem test_inputAndBindOff_15 :
    (fun (s : State) (vcap ms : BitVec 16) =>
      s.hlth.committing = true) ({ (moduleUp.set HLTH_LAST_BINDOFF.REASON 0x1006) with hlth := { moduleUp.hlth with bindingOff := true, committing := true } }) (36000) (101) := by
  decide +kernel

theorem test_inputAndBindOff_16 :
    (fun (s : State) (vin : BitVec 16) =>
      s.hlth.bindingOff = true ∧ s.hlth.committing = false ∧ s.hlth.resetHigh = true ∧ s.hlth.castCut = false) ({ moduleUp with hlth := { moduleUp.hlth with bindingOff := true, pwrGood := false } }) (48000) := by
  decide +kernel

theorem test_inputAndBindOff_17 :
    (fun (s : State) (vin : BitVec 16) =>
      (s.hlth.bindingOff = false ∨ s.hlth.committing = true)) (moduleUp) (48000) := by
  decide +kernel

theorem test_gaugesPlansAndUpdates_1 :
    (fun (s : State) (margins : List (BitVec 10)) (a b c : PanelReading) =>
      ((∀ p : Fin 4, s.get HLTH_PANEL_RAIL.TARGET_MV p ≠ s.get HLTH_GAUGE_CFG.RAIL_MAX_MV))) (moduleUp.set HLTH_GAUGE_CFG.RAIL_MAX_MV 900) ([7, 8, 1023]) (⟨700, 1400⟩) (⟨701, 1401⟩) (⟨702, 1402⟩) := by
  decide +kernel

theorem test_gaugesPlansAndUpdates_2 :
    (fun (s : State) (m : BitVec 10) =>
      let p := s.get HLTH_GAUGE.PANEL 0
      m.toNat < s.get HLTH_GAUGE_CFG.MARGIN_MIN ∧ s.get HLTH_PANEL_RAIL.TARGET_MV p = s.get HLTH_GAUGE_CFG.RAIL_MAX_MV ∧ s.on HLTH_GAUGE.QUARANTINED 0 = false ∧ lookupD s.hlth.lowRun 0 0 = 9) ({ (moduleUp.set HLTH_GAUGE_CFG.RAIL_MAX_MV 0) with hlth := { moduleUp.hlth with lowRun := [(0, 9)] } }) (0) := by
  decide +kernel

theorem test_gaugesPlansAndUpdates_3 :
    (fun (s : State) (m : BitVec 10) =>
      let p := s.get HLTH_GAUGE.PANEL 0
      m.toNat < s.get HLTH_GAUGE_CFG.MARGIN_MIN ∧ s.get HLTH_PANEL_RAIL.TARGET_MV p = s.get HLTH_GAUGE_CFG.RAIL_MAX_MV ∧ s.on HLTH_GAUGE.QUARANTINED 0 = false ∧ lookupD s.hlth.lowRun 0 0 < 9) ({ (moduleUp.set HLTH_GAUGE_CFG.RAIL_MAX_MV 0) with hlth := { moduleUp.hlth with lowRun := [(0, 8)] } }) (0) := by
  decide +kernel

theorem test_gaugesPlansAndUpdates_4 :
    (fun (s : State) (p : Fin 3) =>
      s.coreWaits false = false ∧ s.on HLTH_STATUS.READY = true ∧ s.on HLTH_CTRL.AUTO_REPLAN = true ∧ s.get HLTH_PANEL_RATE.RATE p < 1300) (moduleUp) (2) := by
  decide +kernel

theorem test_gaugesPlansAndUpdates_5 :
    (fun (s : State) (p : Fin 3) =>
      s.coreWaits false = true) (moduleUp.set TOP_CORE.MGMT_STATE 3) (0) := by
  decide +kernel

theorem test_gaugesPlansAndUpdates_9 :
    (fun (s : State) (m : Master) (tag : BitVec 10) =>
      let w := BitVec.ofNat 64 5
      Writable s m HLTH_UPDATE 0 w ∧ s.on HLTH_STATUS.READY = true ∧ s.hlth.update = none) (moduleUp) (.mgmt) (3) := by
  decide +kernel

theorem test_gaugesPlansAndUpdates_10 :
    (fun (s : State) (m : Master) (tag : BitVec 10) (o : SignedObj) =>
      let w := BitVec.ofNat 64 5
      Writable s m HLTH_UPDATE 0 w ∧ s.on HLTH_STATUS.READY = true ∧ s.hlth.update = none) ({ moduleUp with boot := { up.boot with features := 0x200, manifest := manifestOf } }) (.mgmt) (3) (signedOf 0 [7]) := by
  decide +kernel

theorem test_gaugesPlansAndUpdates_11 :
    (fun (s : State) (m : Master) (tag : BitVec 10) (o : SignedObj) =>
      let w := BitVec.ofNat 64 6
      Writable s m HLTH_UPDATE 0 w ∧ s.on HLTH_STATUS.READY = true ∧ s.hlth.update = none) ({ moduleUp with boot := { up.boot with features := 0x200, manifest := manifestOf } }) (.mgmt) (3) (signedOf 0 [7]) := by
  decide +kernel

theorem test_gaugesPlansAndUpdates_12 :
    (fun (s : State) (m : Master) (tag : BitVec 10) (staged : Option SignedObj) =>
      let w := BitVec.ofNat 64 7
      Writable s m HLTH_UPDATE 0 w ∧ s.on HLTH_STATUS.READY = true ∧ s.hlth.update = none ∧ (staged.all (fun o => settings o.body == [])) = true) (moduleUp) (.mgmt) (3) (some (signedOf 0 bundleBody)) := by
  decide +kernel

theorem test_gaugesPlansAndUpdates_13 :
    (fun (s : State) (u : Update) =>
      s.hlth.update = some u ∧ u.object ≠ 3) ({ moduleUp with hlth := { moduleUp.hlth with update := some ⟨2, 9, [1]⟩ } }) (⟨2, 9, [1]⟩) := by
  decide +kernel

theorem test_gaugesPlansAndUpdates_14 :
    (fun (s : State) (u : TableUnit) (crc : BitVec 32) =>
      s.on HLTH_STATUS.READY = true ∧ s.get HLTH_AUDIT.TABLE_AUDIT_S ≠ 0 ∧ s.boot.disabled.contains u = false ∧ s.entryCrc u ≠ some crc.toNat ∧ s.resends u < s.resendMax) ({ (moduleUp.set HLTH_AUDIT.TABLE_AUDIT_S 60) with boot := { up.boot with bundle := bundleBody, confirmed := [⟨11, 7, 64⟩] } }) (⟨11, 7, 64⟩) (0x98) := by
  decide +kernel

theorem test_gaugesPlansAndUpdates_15 :
    (fun (s : State) (u : TableUnit) (crc : BitVec 32) =>
      s.entryCrc u = some crc.toNat) ({ (moduleUp.set HLTH_AUDIT.TABLE_AUDIT_S 60) with boot := { up.boot with bundle := bundleBody } }) (⟨11, 7, 64⟩) (0x99) := by
  decide +kernel

theorem test_gaugesPlansAndUpdates_16 :
    (fun (s : State) (index : Byte) =>
      index.toNat < 10) (up) (9) := by
  decide +kernel

theorem test_gaugesPlansAndUpdates_17 :
    (fun (s : State) (index : Byte) =>
      10 ≤ index.toNat) (up) (10) := by
  decide +kernel

theorem test_gaugesPlansAndUpdates_19 :
    (fun (s : State) (i : JtagIr) =>
      (i = .idcode ∨ i = .bypass ∨ s.hlth.resetHigh = false ∨ (i = .other ∧ s.on CIPH_SECURITY.DEBUG_OPEN = true))) ({ up with hlth := { up.hlth with resetHigh := true } }) (.idcode) := by
  decide +kernel

theorem test_gaugesPlansAndUpdates_20 :
    (fun (s : State) (i : JtagIr) =>
      (s.hlth.resetHigh = true ∧ (i = .extest ∨ i = .acTest ∨ (i = .other ∧ s.on CIPH_SECURITY.DEBUG_OPEN = false)))) ({ up with hlth := { up.hlth with resetHigh := true } }) (.extest) := by
  decide +kernel

theorem test_unitErrorsOfControl_1 :
    (fun (s : State) (n : Fin 256) =>
      s.hostq.enginesOut.contains n.val = false) ({ up with hostq := { up.hostq with fetched := [fetchedBed, { fetchedBed with work := ⟨6, 0, []⟩ }] } }) (5) := by
  decide +kernel

theorem test_unitErrorsOfControl_2 :
    (fun (s : State) (p : Fin 16) =>
      p.val < s.line.length) (up) (15) := by
  decide +kernel

theorem test_unitErrorsOfControl_3 :
    (fun (s : State) (n : Fin 256) =>
      s.sched.schedOut.contains n.val = false) (lineSched false) (0) := by
  decide +kernel

theorem test_unitErrorsOfControl_7 :
    (fun (s : State) (n : Fin 64) =>
      s.pipeOn n = true) (up.set CIPH_CTRL.CLUSTER_EN 0xFF) (63) := by
  decide +kernel

theorem test_unitErrorsOfEngines_1 :
    (fun (s : State) (p : Fin 16) (x : Bool) =>
      p.val < s.line.length) (up) (15) (true) := by
  decide +kernel

theorem test_unitErrorsOfEngines_6 :
    (fun (s : State) (l : Fin 32) =>
      s.pho.stopped.contains l.val = false) (up) (31) := by
  decide +kernel

theorem test_unitErrorsOfEngines_7 :
    (fun (s : State) =>
      s.pho.stopped.contains 32 = false) (up) := by
  decide +kernel

theorem test_unitErrorsOfEngines_10 :
    (fun (s : State) (g : Fin 8) (c : Fin 64) =>
      s.groupOn g = true) (up.set BED_CTRL.GROUP_EN 0xFF) (7) (63) := by
  decide +kernel

theorem test_unitErrorsOfEngines_11 :
    (fun (s : State) (c : Fin 48) (u : Fin 8) =>
      s.stchInService c = true) (up.set STCH_CTRL.CLUSTER_EN 0xFFFFFFFFFFFF) (47) (7) := by
  decide +kernel

theorem test_unitErrorsOfEngines_12 :
    (fun (s : State) (c : Fin 32) (u : Fin 16) =>
      s.purlInService c = true) (up.set PURL_CTRL.CLUSTER_EN 0xFFFFFFFF) (31) (15) := by
  decide +kernel

end Sys2Proof.Tests
end

namespace Sys2Proof.Machine
open Csr

/-!
The interrupt controller's claim (R403 to R405): which source a claim takes, what the read of INTC_CLAIMt answers and
changes, and the state in which it differs from R405.
-/

/-! ## The entry of greatest key -/

theorem bestBy_eq_none_iff {α : Type} {key : α → Nat} {l : List α} : bestBy key l = none ↔ l = [] := by
  cases l with
  | nil => simp [bestBy]
  | cons a r =>
    rw [bestBy]
    split
    · simp
    · split <;> simp

/-- The entry of greatest key is listed, and no listed entry has a greater one. -/
theorem bestBy_eq_some {α : Type} {key : α → Nat} {l : List α} {b : α} (h : bestBy key l = some b) :
    b ∈ l ∧ ∀ x ∈ l, key x ≤ key b := by
  induction l generalizing b with
  | nil => cases h
  | cons a r ih =>
    rw [bestBy] at h
    split at h
    case h_1 hr =>
      cases h
      simp [bestBy_eq_none_iff.mp hr]
    case h_2 c hr =>
      obtain ⟨hc, hmax⟩ := ih hr
      split at h
      case isTrue hge =>
        cases h
        exact ⟨by simp, by simpa using fun x hx => (hmax x hx).trans hge⟩
      case isFalse hlt =>
        cases h
        exact ⟨by simp [hc], by simpa using ⟨by omega, hmax⟩⟩

/-! ## Deliverable sources (R404) -/

theorem deliverable_iff {s : State} {t x : Nat} :
    s.deliverable t x = true ↔
      s.on INTC_STATUS.READY = true ∧ s.isPending x = true ∧ s.get INTC_SRC.TARGET x = t ∧
        max (s.get INTC_THRESHOLD.THRESHOLD t) (s.running t) < s.get INTC_SRC.PRIORITY x := by
  simp [State.deliverable, and_assoc]

theorem isPending_of_deliverable {s : State} {t x : Nat} (h : s.deliverable t x = true) : s.isPending x = true :=
  (deliverable_iff.mp h).2.1

/-- A source of priority 0 is never delivered (R404). -/
theorem deliverable_eq_false_of_priority_zero {s : State} {t x : Nat} (h : s.get INTC_SRC.PRIORITY x = 0) :
    s.deliverable t x = false := by
  rw [← Bool.not_eq_true, deliverable_iff]
  omega

theorem mem_candidates_of_isPending {s : State} {x : Nat} (h : s.isPending x = true) : x ∈ s.candidates := by
  unfold State.isPending at h
  split at h
  case isTrue hl =>
    simp only [isLevelSource, Bool.and_eq_true, decide_eq_true_eq] at hl
    exact List.mem_append_right _ (List.mem_map.mpr ⟨x - 1152, List.mem_range.mpr (by omega), by omega⟩)
  case isFalse => exact List.mem_append_left _ (by simpa using h)

/-- The sources that pend by an event have numbers below 2,048 (Table HOST-5). -/
def State.SourcesNumbered (s : State) : Prop := ∀ x ∈ s.intc.pending, x < 2048

theorem lt_of_isPending {s : State} (hn : s.SourcesNumbered) {x : Nat} (h : s.isPending x = true) : x < 2048 := by
  unfold State.isPending at h
  split at h
  case isTrue hl =>
    simp only [isLevelSource, Bool.and_eq_true, decide_eq_true_eq] at hl
    omega
  case isFalse => exact hn x (by simpa using h)

theorem sourcesNumbered_reset : State.reset.SourcesNumbered := by simp [State.SourcesNumbered, State.reset]

/-! ## The source that a claim takes (R405) -/

theorem bestSource_eq_none_iff {s : State} {t : Nat} : s.bestSource t = none ↔ ∀ x, s.deliverable t x = false := by
  have hc : s.bestSource t = none ↔ s.candidates.filter (s.deliverable t) = [] := by
    unfold State.bestSource
    split
    · simp_all
    · exact bestBy_eq_none_iff
  rw [hc, List.filter_eq_nil_iff]
  constructor
  · intro h x
    by_contra hd
    rw [Bool.not_eq_false] at hd
    exact h x (mem_candidates_of_isPending (isPending_of_deliverable hd)) hd
  · intro h x _
    simp [h x]

/-- The source that a claim takes is deliverable, and no deliverable one precedes it. -/
theorem bestSource_eq_some {s : State} {t b : Nat} (h : s.bestSource t = some b) :
    s.deliverable t b = true ∧ ∀ x, s.deliverable t x = true →
      s.get INTC_SRC.PRIORITY x * 2048 + (2047 - x) ≤ s.get INTC_SRC.PRIORITY b * 2048 + (2047 - b) := by
  unfold State.bestSource at h
  split at h
  · cases h
  · obtain ⟨hb, hmax⟩ := bestBy_eq_some h
    refine ⟨(List.mem_filter.mp hb).2, fun x hx => hmax x ?_⟩
    exact List.mem_filter.mpr ⟨mem_candidates_of_isPending (isPending_of_deliverable hx), hx⟩

/-- Of numbered sources the claim takes the one of highest priority, the lowest number on a tie. -/
theorem bestSource_of_highest {s : State} {t src : Nat} (hn : s.SourcesNumbered) (hd : s.deliverable t src = true)
    (hbest : ∀ x < 2048, s.deliverable t x = true → s.get INTC_SRC.PRIORITY x < s.get INTC_SRC.PRIORITY src ∨
      s.get INTC_SRC.PRIORITY x = s.get INTC_SRC.PRIORITY src ∧ src ≤ x) : s.bestSource t = some src := by
  cases hb : s.bestSource t with
  | none => simp [bestSource_eq_none_iff.mp hb src] at hd
  | some b =>
    obtain ⟨hdb, hmax⟩ := bestSource_eq_some hb
    have hlt := lt_of_isPending hn (isPending_of_deliverable hdb)
    have hlt' := lt_of_isPending hn (isPending_of_deliverable hd)
    have hkey := hmax src hd
    have hord := hbest b hlt hdb
    congr 1
    omega

/-! ## A read of the claim register -/

@[simp] theorem intcUpdate_active (s : State) : s.intcUpdate.intc.active = s.intc.active := by
  unfold State.intcUpdate
  dsimp only
  split <;> (try split) <;> rfl

@[simp] theorem intcUpdate_pendingSources (s : State) : s.intcUpdate.intc.pending = s.intc.pending := by
  unfold State.intcUpdate
  dsimp only
  split <;> (try split) <;> rfl

theorem intcClaim_of_none {s : State} {t : Nat} (h : s.bestSource t = none) : s.intcClaim t = (0, s) := by
  unfold State.intcClaim
  rw [h]

/-- A claim answers its source with priority and VALID, and moves it from the pending to the active sources. -/
theorem intcClaim_of_some {s : State} {t src : Nat} (h : s.bestSource t = some src) :
    s.intcClaim t = (src + s.get INTC_SRC.PRIORITY src * 2 ^ 11 + 2 ^ 15,
      { s with intc := { s.intc with
          pending := s.intc.pending.filter (· ≠ src)
          active := s.intc.active ++ [(⟨src, t, s.get INTC_SRC.PRIORITY src⟩ : ActiveSrc)] } }.intcUpdate) := by
  unfold State.intcClaim
  rw [h]
  rfl

theorem isActive_intcClaim {s : State} {t src : Nat} (h : s.bestSource t = some src) :
    (s.intcClaim t).2.isActive src = true := by
  simp [State.isActive, intcClaim_of_some h]

/-- The source that a claim makes active is no longer pending. -/
theorem isPending_intcClaim {s : State} {t src : Nat} (h : s.bestSource t = some src) :
    (s.intcClaim t).2.isPending src = false := by
  unfold State.isPending
  split
  · simp [isActive_intcClaim h]
  · simp [intcClaim_of_some h]

theorem respond_eq_emit (s : State) (m : Master) (tag status reason : Nat) (data : Bytes) :
    s.respond m tag status reason data = s.emit (answerOf m tag status reason data) := by
  cases m <;> rfl

theorem findReg_claim (k : Fin 3) : findReg (INTC_CLAIM.addr k 0) = some ⟨INTC_CLAIM, k, 0, 1⟩ := by
  match k with
  | 0 => rfl
  | 1 => rfl
  | 2 => rfl

/-- A target's read of its claim register makes the claim and is answered with the claim's word. -/
theorem exec_intcClaim {s : State} {m : Master} {k : Fin 3} (tag : BitVec 10) (hm : m.num = k.val)
    (hb : s.hlth.bindingOff = false) :
    exec (.intcClaim m tag k) s =
      .next ((s.intcClaim k).2.emit (answerOf m tag.toNat 0 0 (le 8 (BitVec.ofNat 64 (s.intcClaim k).1).toNat))) := by
  have hopen : s.openTo m ⟨INTC_CLAIM, k, 0, 1⟩ false 0 = true := by simp [State.openTo, hm]
  have hdoor : inDoorbells (INTC_CLAIM.addr k 0) = false := by
    simp [inDoorbells, Reg.addr, INTC_CLAIM]
    omega
  have hread : s.readAt m (INTC_CLAIM.addr k 0) = .ok (BitVec.ofNat 64 (s.intcClaim k).1, (s.intcClaim k).2) := by
    simp [State.readAt, hdoor, findReg_claim, hopen, State.regRead]
  change execIntcClaim m tag k s = _
  simp [execIntcClaim, State.csrRead, hb, hread, respond_eq_emit]

/-- The word of a claim names the source, its priority and VALID in the fields of Table HOST-9. -/
theorem claimWord_fields {src p : Nat} (hs : src < 2048) (hp : p < 16) :
    INTC_CLAIM.SOURCE.of (src + p * 2 ^ 11 + 2 ^ 15) = src ∧ INTC_CLAIM.PRIORITY.of (src + p * 2 ^ 11 + 2 ^ 15) = p ∧
      INTC_CLAIM.VALID.of (src + p * 2 ^ 11 + 2 ^ 15) = 1 := by
  simp only [Field.of, getBits, INTC_CLAIM.SOURCE, INTC_CLAIM.PRIORITY, INTC_CLAIM.VALID, Nat.shiftRight_eq_div_pow]
  omega

theorem get_priority_lt (s : State) (x : Nat) : s.get INTC_SRC.PRIORITY x < 16 := Nat.mod_lt _ (by decide)

/-- R405 for a state whose event sources are numbered as Table HOST-5 has them: the claim takes the deliverable source of
highest priority. -/
theorem claim_takes_highest {s : State} {m : Master} {k : Fin 3} {src : Nat} (tag : BitVec 10) (hn : s.SourcesNumbered)
    (hm : m.num = k.val) (hb : s.hlth.bindingOff = false) (hd : s.deliverable k src = true)
    (hbest : ∀ x < 2048, s.deliverable k x = true → s.get INTC_SRC.PRIORITY x < s.get INTC_SRC.PRIORITY src ∨
      s.get INTC_SRC.PRIORITY x = s.get INTC_SRC.PRIORITY src ∧ src ≤ x) :
    let word := src + s.get INTC_SRC.PRIORITY src * 2 ^ 11 + 2 ^ 15
    Does (.intcClaim m tag k) s [.out, .intc] (fun t =>
      t.isActive src = true ∧ t.isPending src = false ∧
      INTC_CLAIM.SOURCE.of word = src ∧ INTC_CLAIM.PRIORITY.of word = s.get INTC_SRC.PRIORITY src ∧
      INTC_CLAIM.VALID.of word = 1 ∧ Answered t m tag.toNat 0 0 (le 8 word)) := by
  intro word
  have hbs := bestSource_of_highest hn hd hbest
  have hs : src < 2048 := lt_of_isPending hn (isPending_of_deliverable hd)
  have hp := get_priority_lt s src
  have hword : (BitVec.ofNat 64 (s.intcClaim k).1).toNat = word := by
    rw [intcClaim_of_some hbs, BitVec.toNat_ofNat]
    exact Nat.mod_eq_of_lt (by omega)
  obtain ⟨hsource, hprio, hvalid⟩ := claimWord_fields hs hp
  refine ⟨_, exec_intcClaim tag hm hb, ?_, isActive_intcClaim hbs, isPending_intcClaim hbs, hsource, hprio, hvalid, ?_⟩
  · exact (Goes.step intcClaim_goes emit_goes (by decide)).only
  · rw [hword]
    simp [Answered, State.emit]

/-- R405 for the same states: with nothing deliverable the claim answers VALID = 0 and changes nothing. -/
theorem claim_of_none_deliverable {s : State} {m : Master} {k : Fin 3} (tag : BitVec 10) (hn : s.SourcesNumbered)
    (hm : m.num = k.val) (hb : s.hlth.bindingOff = false) (hnone : ∀ x < 2048, s.deliverable k x = false) :
    exec (.intcClaim m tag k) s = .next (s.emit (answerOf m tag.toNat 0 0 (le 8 0))) := by
  have hall : ∀ x, s.deliverable k x = false := by
    intro x
    by_contra hd
    rw [Bool.not_eq_false] at hd
    simp [hnone x (lt_of_isPending hn (isPending_of_deliverable hd))] at hd
  rw [exec_intcClaim tag hm hb, intcClaim_of_none (bestSource_eq_none_iff.mpr hall)]
  rfl

/-! ## A pending source without a number of Table HOST-5 -/

/-- READY is 1, events of sources 0 and 1 have been lost, and source 2,080 pends. The gateway has no such source, and what
would be its INTC_SRC entry is the word of INTC_LOST, which reads as TARGET 0 and PRIORITY 3. -/
def strayPending : State :=
  { (State.reset.set INTC_STATUS.READY 1).set INTC_LOST.LOST 3 with intc := { pending := [2080] } }

/-- Every source has priority 0 after reset (Table HOST-9). -/
theorem reset_priority (x : Nat) : State.reset.get INTC_SRC.PRIORITY x = 0 := by
  cases h : isLevelSource x <;>
    simp [State.get, State.rdReg, State.reset, wordAt, Reg.resetWord, Reg.resetNat, INTC_SRC.PRIORITY, INTC_SRC, h, getBits]

theorem strayPending_priority {x : Nat} (hx : x < 2048) : strayPending.get INTC_SRC.PRIORITY x = 0 := by
  have hlost : INTC_SRC.PRIORITY.reg.addr x 0 ≠ INTC_LOST.LOST.reg.addr 0 0 := by
    simp [Reg.addr, INTC_SRC.PRIORITY, INTC_SRC, INTC_LOST.LOST, INTC_LOST]
    omega
  have hready : INTC_SRC.PRIORITY.reg.addr x 0 ≠ INTC_STATUS.READY.reg.addr 0 0 := by
    simp [Reg.addr, INTC_SRC.PRIORITY, INTC_SRC, INTC_STATUS.READY, INTC_STATUS]
    omega
  calc strayPending.get INTC_SRC.PRIORITY x
      = ((State.reset.set INTC_STATUS.READY 1).set INTC_LOST.LOST 3).get INTC_SRC.PRIORITY x := get_congr (by rfl) _ _ _
    _ = State.reset.get INTC_SRC.PRIORITY x := by
      rw [get_set_other _ _ _ _ _ _ _ _ hlost, get_set_other _ _ _ _ _ _ _ _ hready]
    _ = 0 := reset_priority x

theorem strayPending_deliverable {x : Nat} (hx : x < 2048) : strayPending.deliverable 0 x = false :=
  deliverable_eq_false_of_priority_zero (strayPending_priority hx)

theorem strayPending_bestSource : strayPending.bestSource 0 = some 2080 := by decide

/-- Refutes O7, in the clause for a claim with nothing to deliver: in `strayPending` no source below 2,048 is deliverable, and
the host's claim makes source 2,080 active. With the event sources numbered as in Table HOST-5 both clauses hold
(`claim_takes_highest`, `claim_of_none_deliverable`). -/
theorem not_claimReturnsBestSource : ¬ Obligations.ClaimReturnsBestSource := by
  unfold Obligations.ClaimReturnsBestSource
  intro ⟨_, hnone⟩
  have hclaim := hnone strayPending .host 0 0 ⟨by rfl, by rfl⟩ (fun x hx => strayPending_deliverable hx)
  rw [exec_intcClaim 0 (by rfl) (by rfl)] at hclaim
  injection hclaim with hstate
  have hsame : (strayPending.intcClaim 0).2.isActive 2080 = strayPending.isActive 2080 := congrArg (·.isActive 2080) hstate
  rw [isActive_intcClaim strayPending_bestSource] at hsame
  exact absurd hsame (by decide)

end Sys2Proof.Machine

namespace Sys2Proof.Machine
open Csr

/-!
Rollback floors (R420): no step lowers one, from the `Goes` lemmas of the commands; and what cast-on does when it ends in
READY, where each floor rises to the manifest's outside restricted mode.
-/

/-! ## What every step keeps -/

/-- Whatever a command does, the invariants of `Goes` are kept: each meaning has its own lemma, with the parts it may change. -/
theorem exec_goes (c : Instr) (s : State) : ∃ l, GoesNext l s (exec c s) :=
  match c with
  | .csrRd _ _ => ⟨_, execCsrRd_goes⟩
  | .csrWr _ _ => ⟨_, execCsrWr_goes⟩
  | .blockEnableWrite _ _ _ _ => ⟨_, execBlockEnableWrite_goes⟩
  | .configCheckEnd _ _ => ⟨_, execConfigCheckEnd_goes⟩
  | .blockDisableWrite _ _ _ _ => ⟨_, execBlockDisableWrite_goes⟩
  | .blockDrainEnd _ => ⟨_, execBlockDrainEnd_goes⟩
  | .unitInternalError _ => ⟨_, execUnitInternalError_goes⟩
  | .poisonedOutputRerun _ _ => ⟨_, execPoisonedOutputRerun_goes⟩
  | .stepOpen _ => ⟨_, execStepOpen_goes⟩
  | .stepOpenRelease _ => ⟨_, execStepOpenRelease_goes⟩
  | .stepMembership _ => ⟨_, execStepMembership_goes⟩
  | .stepFrog _ => ⟨_, execStepFrog_goes⟩
  | .stepAbort _ => ⟨_, execStepAbort_goes⟩
  | .stepResume _ => ⟨_, execStepResume_goes⟩
  | .stepResend _ => ⟨_, execStepResend_goes⟩
  | .ingestEnd _ => ⟨_, execIngestEnd_goes⟩
  | .stageComplete _ => ⟨_, execStageComplete_goes⟩
  | .cleanWaitExpiry _ => ⟨_, execCleanWaitExpiry_goes⟩
  | .stepStalled _ => ⟨_, execStepStalled_goes⟩
  | .stepClose _ => ⟨_, execStepClose_goes⟩
  | .partitionDetect _ _ => ⟨_, execPartitionDetect_goes⟩
  | .rejoinStableExpiry _ => ⟨_, execRejoinStableExpiry_goes⟩
  | .rejoinReceived _ _ => ⟨_, execRejoinReceived_goes⟩
  | .resyncFetchEnd _ => ⟨_, execResyncFetchEnd_goes⟩
  | .project _ _ => ⟨_, execProject_goes⟩
  | .projectT _ _ => ⟨_, execProjectT_goes⟩
  | .backproject _ _ => ⟨_, execBackproject_goes⟩
  | .ortho _ _ => ⟨_, execOrtho_goes⟩
  | .momentum _ => ⟨_, execMomentum_goes⟩
  | .nesterov _ => ⟨_, execNesterov_goes⟩
  | .scale _ => ⟨_, execScale_goes⟩
  | .residual _ => ⟨_, execResidual_goes⟩
  | .generate _ => ⟨_, execGenerate_goes⟩
  | .bedSwatch _ _ => ⟨_, execBedSwatch_goes⟩
  | .bedInterleavedSwatch _ => ⟨_, execBedInterleavedSwatch_goes⟩
  | .bedSubst _ _ _ => ⟨_, execBedSubst_goes⟩
  | .bedStallResume _ _ => ⟨_, execBedStallResume_goes⟩
  | .accumulate _ _ => ⟨_, execAccumulate_goes⟩
  | .stchHeldTermRelease _ _ => ⟨_, execStchHeldTermRelease_goes⟩
  | .stchPoison _ => ⟨_, execStchPoison_goes⟩
  | .stchSwatch _ _ => ⟨_, execStchSwatch_goes⟩
  | .stchClusterSwatch _ _ => ⟨_, execStchClusterSwatch_goes⟩
  | .stchSubstGo _ _ _ => ⟨_, execStchSubstGo_goes⟩
  | .stchRequal _ _ _ => ⟨_, execStchRequal_goes⟩
  | .poisonReceived _ _ => ⟨_, execPoisonReceived_goes⟩
  | .encode _ _ => ⟨_, execEncode_goes⟩
  | .decode _ _ _ => ⟨_, execDecode_goes⟩
  | .purlSwatch _ _ => ⟨_, execPurlSwatch_goes⟩
  | .secondDecode _ _ => ⟨_, execSecondDecode_goes⟩
  | .rawResendReceived _ _ _ => ⟨_, execRawResendReceived_goes⟩
  | .rawRefuseReceived _ _ => ⟨_, execRawRefuseReceived_goes⟩
  | .purlSubstGo _ _ _ => ⟨_, execPurlSubstGo_goes⟩
  | .purlRequal _ _ _ => ⟨_, execPurlRequal_goes⟩
  | .purlStallResume _ _ => ⟨_, execPurlStallResume_goes⟩
  | .codewordLockGained _ _ => ⟨_, execCodewordLockGained_goes⟩
  | .codewordLockLost _ _ => ⟨_, execCodewordLockLost_goes⟩
  | .lineSignalLoss _ _ => ⟨_, execLineSignalLoss_goes⟩
  | .alignmentWordLock _ _ _ => ⟨_, execAlignmentWordLock_goes⟩
  | .rxFrameStart _ _ => ⟨_, execRxFrameStart_goes⟩
  | .perfSecondEnd _ => ⟨_, execPerfSecondEnd_goes⟩
  | .txFrameStart _ => ⟨_, execTxFrameStart_goes⟩
  | .swapArm _ _ _ _ => ⟨_, execSwapArm_goes⟩
  | .swapCancel _ _ _ _ => ⟨_, execSwapCancel_goes⟩
  | .autoNarrow _ => ⟨_, execAutoNarrow_goes⟩
  | .autoWiden _ => ⟨_, execAutoWiden_goes⟩
  | .trainTimeout _ => ⟨_, execTrainTimeout_goes⟩
  | .chunkMessageForm _ _ => ⟨_, execChunkMessageForm_goes⟩
  | .shardReceived _ _ => ⟨_, execShardReceived_goes⟩
  | .shardWindowExpiry _ _ _ => ⟨_, execShardWindowExpiry_goes⟩
  | .portReuseExpiry _ _ => ⟨_, execPortReuseExpiry_goes⟩
  | .portStatePeriodic => ⟨_, execPortStatePeriodic_goes⟩
  | .portStateReceived _ => ⟨_, execPortStateReceived_goes⟩
  | .ackInterval => ⟨_, execAckInterval_goes⟩
  | .ackReceived _ _ => ⟨_, execAckReceived_goes⟩
  | .nackRepeatExpiry _ _ _ => ⟨_, execNackRepeatExpiry_goes⟩
  | .controlRepeatExpiry _ _ _ => ⟨_, execControlRepeatExpiry_goes⟩
  | .cleanReceived _ _ => ⟨_, execCleanReceived_goes⟩
  | .chunkResendReceived _ _ => ⟨_, execChunkResendReceived_goes⟩
  | .keepaliveSend => ⟨_, execKeepaliveSend_goes⟩
  | .keepaliveReceived _ => ⟨_, execKeepaliveReceived_goes⟩
  | .rebuildReceived _ _ => ⟨_, execRebuildReceived_goes⟩
  | .rebuildNotHeldReceived _ _ => ⟨_, execRebuildNotHeldReceived_goes⟩
  | .flowResetReceived _ _ => ⟨_, execFlowResetReceived_goes⟩
  | .jobEnableWrite _ _ _ _ => ⟨_, execJobEnableWrite_goes⟩
  | .jobParamWrite _ _ _ _ _ => ⟨_, execJobParamWrite_goes⟩
  | .keepaliveMsWrite _ _ _ => ⟨_, execKeepaliveMsWrite_goes⟩
  | .seal _ _ => ⟨_, execSeal_goes⟩
  | .sealControl _ _ => ⟨_, execSealControl_goes⟩
  | .cipherOpen _ _ => ⟨_, execOpen_goes⟩
  | .save _ => ⟨_, execSave_goes⟩
  | .restoreContext _ => ⟨_, execRestoreContext_goes⟩
  | .invalidate _ => ⟨_, execInvalidate_goes⟩
  | .quote _ => ⟨_, execQuote_goes⟩
  | .ledgerWriteDurable _ _ => ⟨_, execLedgerWriteDurable_goes⟩
  | .ledgerRetry _ _ _ => ⟨_, execLedgerRetry_goes⟩
  | .keymailOffer _ => ⟨_, execKeymailOffer_goes⟩
  | .keymailAccept _ => ⟨_, execKeymailAccept_goes⟩
  | .keymailConfirm _ => ⟨_, execKeymailConfirm_goes⟩
  | .keymailRetire _ => ⟨_, execKeymailRetire_goes⟩
  | .keymailAbort _ => ⟨_, execKeymailAbort_goes⟩
  | .keymailCert _ => ⟨_, execKeymailCert_goes⟩
  | .rekeyInterval _ _ => ⟨_, execRekeyInterval_goes⟩
  | .rekeyTimeout _ _ => ⟨_, execRekeyTimeout_goes⟩
  | .rekeyRetry _ _ => ⟨_, execRekeyRetry_goes⟩
  | .confirmResend _ _ => ⟨_, execConfirmResend_goes⟩
  | .oldSlotRetire _ _ => ⟨_, execOldSlotRetire_goes⟩
  | .ciphExtend _ _ _ => ⟨_, execCiphExtend_goes⟩
  | .fabWrite _ => ⟨_, execFabWrite_goes⟩
  | .fabReadReq _ => ⟨_, execFabReadReq_goes⟩
  | .fabReadResp _ => ⟨_, execFabReadResp_goes⟩
  | .fabAck _ => ⟨_, execFabAck_goes⟩
  | .fabNack _ => ⟨_, execFabNack_goes⟩
  | .fabMgmt _ => ⟨_, execFabMgmt_goes⟩
  | .fabPacketSend _ _ => ⟨_, execFabPacketSend_goes⟩
  | .fabRetxTimeout _ _ => ⟨_, execFabRetxTimeout_goes⟩
  | .fabNoRouteTimeout _ => ⟨_, execFabNoRouteTimeout_goes⟩
  | .credit _ _ _ => ⟨_, execCredit_goes⟩
  | .eptWrite _ => ⟨_, execEptWrite_goes⟩
  | .rtWrite _ => ⟨_, execRtWrite_goes⟩
  | .circuitOpen _ => ⟨_, execCircuitOpen_goes⟩
  | .circuitClose _ => ⟨_, execCircuitClose_goes⟩
  | .ingestWrite _ => ⟨_, execIngestWrite_goes⟩
  | .epochArm _ _ _ => ⟨_, execEpochArm_goes⟩
  | .epochDrainEnd => ⟨_, execEpochDrainEnd_goes⟩
  | .epochDrainTimeout => ⟨_, execEpochDrainTimeout_goes⟩
  | .linkTrainingEnd _ _ _ => ⟨_, execLinkTrainingEnd_goes⟩
  | .ringLockUpdate _ _ _ => ⟨_, execRingLockUpdate_goes⟩
  | .ringRelocked _ _ => ⟨_, execRingRelocked_goes⟩
  | .sensorSample _ _ => ⟨_, execSensorSample_goes⟩
  | .bankReload _ _ _ => ⟨_, execBankReload_goes⟩
  | .calStep _ _ => ⟨_, execCalStep_goes⟩
  | .mirrorSwitch _ _ _ _ => ⟨_, execMirrorSwitch_goes⟩
  | .calSweepEnd _ _ _ => ⟨_, execCalSweepEnd_goes⟩
  | .laneMapReceived _ _ => ⟨_, execLaneMapReceived_goes⟩
  | .steerArm _ _ _ => ⟨_, execSteerArm_goes⟩
  | .resteerGapStart => ⟨_, execResteerGapStart_goes⟩
  | .resteerComplete _ _ => ⟨_, execResteerComplete_goes⟩
  | .resteerLockTimeout _ => ⟨_, execResteerLockTimeout_goes⟩
  | .laserPowerCheck _ _ _ => ⟨_, execLaserPowerCheck_goes⟩
  | .handoverGo _ _ _ => ⟨_, execHandoverGo_goes⟩
  | .spareWarmed => ⟨_, execSpareWarmed_goes⟩
  | .spareLocked => ⟨_, execSpareLocked_goes⟩
  | .handoverGapStart => ⟨_, execHandoverGapStart_goes⟩
  | .handoverSwitched => ⟨_, execHandoverSwitched_goes⟩
  | .handoverTimeLimit => ⟨_, execHandoverTimeLimit_goes⟩
  | .sramScrub _ => ⟨_, execSramScrub_goes⟩
  | .lpddrScrub _ => ⟨_, execLpddrScrub_goes⟩
  | .deviceTempChange _ _ => ⟨_, execDeviceTempChange_goes⟩
  | .alloc _ _ => ⟨_, execAlloc_goes⟩
  | .share _ _ _ => ⟨_, execShare_goes⟩
  | .free _ _ => ⟨_, execFree_goes⟩
  | .skeinEngineRequest _ _ => ⟨_, execSkeinEngineRequest_goes⟩
  | .skeinWaitGrant => ⟨_, execSkeinWaitGrant_goes⟩
  | .sqTail _ => ⟨_, execSqTail_goes⟩
  | .cqDoor _ => ⟨_, execCqDoor_goes⟩
  | .queueEnableWrite _ _ _ _ => ⟨_, execQueueEnableWrite_goes⟩
  | .queueDrainEnd _ => ⟨_, execQueueDrainEnd_goes⟩
  | .descriptorFetch _ _ => ⟨_, execDescriptorFetch_goes⟩
  | .descriptorDispatch _ => ⟨_, execDescriptorDispatch_goes⟩
  | .completionRecord _ => ⟨_, execCompletionRecord_goes⟩
  | .put _ => ⟨_, execPut_goes⟩
  | .putAll _ => ⟨_, execPutAll_goes⟩
  | .schedServe _ => ⟨_, execSchedServe_goes⟩
  | .shaperRefill => ⟨_, execShaperRefill_goes⟩
  | .gateArm _ _ _ _ => ⟨_, execGateArm_goes⟩
  | .gateCancel _ _ _ _ => ⟨_, execGateCancel_goes⟩
  | .timeSet _ _ _ => ⟨_, execTimeSet_goes⟩
  | .timeStep _ _ _ => ⟨_, execTimeStep_goes⟩
  | .timeOffset _ _ _ => ⟨_, execTimeOffset_goes⟩
  | .ppsInEdge _ => ⟨_, execPpsInEdge_goes⟩
  | .ppsEdgeMissing => ⟨_, execPpsEdgeMissing_goes⟩
  | .sourceSelect _ _ _ => ⟨_, execSourceSelect_goes⟩
  | .hold _ _ _ => ⟨_, execHold_goes⟩
  | .reacquire _ _ _ => ⟨_, execReacquire_goes⟩
  | .holdTimeout => ⟨_, execHoldTimeout_goes⟩
  | .refclkLost => ⟨_, execRefclkLost_goes⟩
  | .refclkRestored => ⟨_, execRefclkRestored_goes⟩
  | .timeTxqLo _ _ => ⟨_, execTimeTxqLo_goes⟩
  | .mykLinkTrained _ => ⟨_, execMykLinkTrained_goes⟩
  | .mykReplay _ => ⟨_, execMykReplay_goes⟩
  | .memRdCpl _ => ⟨_, execMemRdCpl_goes⟩
  | .hostReadTimeout _ => ⟨_, execHostReadTimeout_goes⟩
  | .hostLost => ⟨_, execHostLost_goes⟩
  | .hostLinkRestored _ => ⟨_, execHostLinkRestored_goes⟩
  | .intcClaim _ _ _ => ⟨_, execIntcClaim_goes⟩
  | .intcComplete _ _ _ _ => ⟨_, execIntcComplete_goes⟩
  | .intcRaise _ _ _ => ⟨_, execIntcRaise_goes⟩
  | .intcSrcWrite _ _ _ _ => ⟨_, execIntcSrcWrite_goes⟩
  | .intrResend => ⟨_, execIntrResend_goes⟩
  | .mailboxWrite _ _ _ _ => ⟨_, execMailboxWrite_goes⟩
  | .watchdogExpiry _ => ⟨_, execWatchdogExpiry_goes⟩
  | .coreRestartDone _ => ⟨_, execCoreRestartDone_goes⟩
  | .resetNRelease => ⟨_, execResetNRelease_goes⟩
  | .resetNAssert => ⟨_, execResetNAssert_goes⟩
  | .romDone _ _ => ⟨_, execRomDone_goes⟩
  | .secureDone _ => ⟨_, execSecureDone_goes⟩
  | .compatDone => ⟨_, execCompatDone_goes⟩
  | .bundleStaged _ => ⟨_, execBundleStaged_goes⟩
  | .sramDone _ _ => ⟨_, execSramDone_goes⟩
  | .memtrainDone _ => ⟨_, execMemtrainDone_goes⟩
  | .memtestDone _ => ⟨_, execMemtestDone_goes⟩
  | .tableConfirm _ _ => ⟨_, execTableConfirm_goes⟩
  | .tableConfirmTimeout _ => ⟨_, execTableConfirmTimeout_goes⟩
  | .tablesDone => ⟨_, execTablesDone_goes⟩
  | .restorePhase _ _ => ⟨_, execRestorePhase_goes⟩
  | .enginesStageDone => ⟨_, execEnginesStageDone_goes⟩
  | .castPhaseTimeout => ⟨_, execCastPhaseTimeout_goes⟩
  | .inputWarn _ _ => ⟨_, execInputWarn_goes⟩
  | .inputWarnClear _ _ => ⟨_, execInputWarnClear_goes⟩
  | .inputSurge _ _ => ⟨_, execInputSurge_goes⟩
  | .bindoffTrigger _ _ => ⟨_, execBindoffTrigger_goes⟩
  | .bindoffLimit _ _ => ⟨_, execBindoffLimit_goes⟩
  | .inputRestart _ => ⟨_, execInputRestart_goes⟩
  | .holdupChargeMeasured _ _ => ⟨_, execHoldupChargeMeasured_goes⟩
  | .powerCapReached _ => ⟨_, execPowerCapReached_goes⟩
  | .gaugeSample _ _ => ⟨_, execGaugeSample_goes⟩
  | .replan _ => ⟨_, execReplan_goes⟩
  | .rateFloorFault _ => ⟨_, execRateFloorFault_goes⟩
  | .panelTempChange _ _ _ => ⟨_, execPanelTempChange_goes⟩
  | .thermalTrip _ => ⟨_, execThermalTrip_goes⟩
  | .fwUpdateMgmt _ _ _ => ⟨_, execFwUpdateMgmt_goes⟩
  | .fwUpdateSec _ _ _ => ⟨_, execFwUpdateSec_goes⟩
  | .bundleApply _ _ _ => ⟨_, execBundleApply_goes⟩
  | .updateStartTimeout => ⟨_, execUpdateStartTimeout_goes⟩
  | .tableAudit _ _ => ⟨_, execTableAudit_goes⟩
  | .heartbeatSend => ⟨_, execHeartbeatSend_goes⟩
  | .heartbeat _ _ => ⟨_, execHeartbeat_goes⟩
  | .failDetectExpiry _ => ⟨_, execFailDetectExpiry_goes⟩
  | .fail _ _ => ⟨_, execFail_goes⟩
  | .mirror _ _ => ⟨_, execMirror_goes⟩
  | .mirrorAck _ _ => ⟨_, execMirrorAck_goes⟩
  | .digest _ _ _ _ => ⟨_, execDigest_goes⟩
  | .mismatch _ _ => ⟨_, execMismatch_goes⟩
  | .report _ _ => ⟨_, execReport_goes⟩
  | .bind _ _ => ⟨_, execBind_goes⟩
  | .flow _ _ => ⟨_, execFlow_goes⟩
  | .flowSend => ⟨_, execFlowSend_goes⟩
  | .mirrorLagExpiry => ⟨_, execMirrorLagExpiry_goes⟩
  | .shadowGo _ _ _ => ⟨_, execShadowGo_goes⟩
  | .shadowStop _ _ _ => ⟨_, execShadowStop_goes⟩
  | .seedCopyEnd => ⟨_, execSeedCopyEnd_goes⟩
  | .takeoverGo _ _ _ => ⟨_, execTakeoverGo_goes⟩
  | .takeoverChunksHeld => ⟨_, execTakeoverChunksHeld_goes⟩
  | .stragglerSwap => ⟨_, execStragglerSwap_goes⟩
  | .snapshotGo _ _ _ => ⟨_, execSnapshotGo_goes⟩
  | .snapshotRelease _ _ _ => ⟨_, execSnapshotRelease_goes⟩
  | .counterEnable _ _ _ _ => ⟨_, execCounterEnable_goes⟩
  | .bwWindowEnd => ⟨_, execBwWindowEnd_goes⟩
  | .bwWindowWrite _ _ _ => ⟨_, execBwWindowWrite_goes⟩
  | .smbusBlockRead _ => ⟨_, execSmbusBlockRead_goes⟩
  | .smbusAlertResponse => ⟨_, execSmbusAlertResponse_goes⟩
  | .jtagInstruction _ => ⟨_, execJtagInstruction_goes⟩
  | .powerOnPwrGood => ⟨_, execPowerOnPwrGood_goes⟩
  | .holdupChargeTimeout _ => ⟨_, execHoldupChargeTimeout_goes⟩
  | .powerCapRelease _ => ⟨_, execPowerCapRelease_goes⟩
  | .ppsOutEdge => ⟨_, execPpsOutEdge_goes⟩
  | .mykabelLossOfLock => ⟨_, execMykabelLossOfLock_goes⟩

theorem goes_dropPending (s : State) (rest : List Instr) : Goes [.pending] s { s with pending := rest } :=
  Goes.refl.plain (by rfl) (by rfl) (by rfl) (by rfl) (by rfl) id fun p hp => by
    cases p
    case pending => cases hp
    all_goals rfl

theorem within_cons_self (p : Part) (l : List Part) : within l (p :: l) = true := by
  simp +contextual [within]

/-- The invariants of `Goes` are kept by every step, whether a command waits or time goes by. -/
theorem step_goes (s : State) : ∃ l, GoesNext l s (step s) := by
  unfold step
  split
  case h_1 => exact ⟨_, .mk idle_goes⟩
  case h_2 c rest _ =>
    obtain ⟨l, hexec⟩ := exec_goes c { s with pending := rest }
    have hdrop : Goes (.pending :: l) s { s with pending := rest } :=
      .step .refl (goes_dropPending s rest) (by simp [within])
    exact ⟨.pending :: l, .step hdrop hexec (within_cons_self _ l)⟩

/-! ## Registers that an operation leaves alone -/

theorem OtherRegs.of_csr {l : List Nat} {s t : State} (h : t.csr = s.csr) : OtherRegs l s t :=
  fun r i j _ => rdReg_congr h r i j

theorem OtherRegs.trans {l : List Nat} {a s t : State} (h : OtherRegs l a s) (k : OtherRegs l s t) : OtherRegs l a t :=
  fun r i j hr => (k r i j hr).trans (h r i j hr)

theorem OtherRegs.mono {l m : List Nat} {s t : State} (h : OtherRegs l s t) (w : l ⊆ m) : OtherRegs m s t :=
  fun r i j hr => h r i j (fun hl => hr (w hl))

theorem OtherRegs.wrReg {l : List Nat} (s : State) (r : Reg) (v : Word) {i j : Nat} (w : r.addr i j ∈ l) :
    OtherRegs l s (s.wrReg r v i j) :=
  fun _ _ _ hr => rdReg_wrReg_other _ _ _ _ _ _ _ _ (fun e => hr (e ▸ w))

theorem OtherRegs.set {l : List Nat} (s : State) (f : Field) (v : Nat) {i j : Nat} (w : f.reg.addr i j ∈ l) :
    OtherRegs l s (s.set f v i j) := .wrReg _ _ _ w

theorem OtherRegs.raise {l : List Nat} (s : State) (f : Field) {i : Nat} (w : f.reg.addr i 0 ∈ l) : OtherRegs l s (s.raise f i) :=
  (OtherRegs.set s f 1 w).trans (.of_csr (intcUpdate_csr _))

theorem OtherRegs.foldl {l : List Nat} {β : Type} {f : State → β → State} (h : ∀ x b, OtherRegs l x (f x b)) (bs : List β)
    (s : State) : OtherRegs l s (bs.foldl f s) := by
  induction bs generalizing s with
  | nil => exact .of_csr (by rfl)
  | cons b r ih => exact (h s b).trans (ih _)

theorem OtherRegs.get {l : List Nat} {s t : State} (h : OtherRegs l s t) {f : Field} {i j : Nat} (w : f.reg.addr i j ∉ l) :
    t.get f i j = s.get f i j := by
  simp only [State.get, h f.reg i j w]

/-! ## The registers that cast-on's end in READY writes -/

/-- The registers that sending an envelope may write: the count of discarded host writes, the outgoing ring's pointers and the
interrupt of an envelope sent. -/
def mailRegs : List Nat := [TOP_MYK_COUNT.addr 0 0, CIPH_KMO_PTR.addr 0 0, CIPH_INT_STATUS.addr 0 0]

theorem hostWrite_otherRegs (s : State) (a : Nat) (bs : Bytes) : OtherRegs [TOP_MYK_COUNT.addr 0 0] s (s.hostWrite a bs) := by
  unfold State.hostWrite
  split
  · exact .of_csr (by rfl)
  · split
    · exact .set { s with myk := _ } _ _ (by decide)
    · exact .of_csr (by rfl)

theorem mailPut_otherRegs (s : State) (env : Bytes) : OtherRegs mailRegs s (s.mailPut env) := by
  unfold State.mailPut
  dsimp only
  split
  case isTrue => exact .set { s with ciph := _ } _ _ (by decide)
  case isFalse =>
    exact (((hostWrite_otherRegs s _ env).mono (by decide)).trans (.set _ CIPH_KMO_PTR.WR_PTR _ (by decide))).trans
      (.raise _ CIPH_INT_STATUS.MAIL_OUT (by decide))

theorem sendCert_otherRegs (s : State) (site : Nat) : OtherRegs mailRegs s (s.sendCert site) :=
  .trans (s := { s with ciph := _ }) (.of_csr (by rfl)) (mailPut_otherRegs _ _)

theorem csUpdate_otherRegs (s : State) : OtherRegs [HLTH_CS.addr 0 0] s s.csUpdate := by
  unfold State.csUpdate
  split
  · exact .wrReg _ _ _ (by decide)
  · exact (((OtherRegs.set _ HLTH_CS.SEQ _ (by decide)).trans (.set _ HLTH_CS.VALID _ (by decide))).trans
      (.set _ HLTH_CS.CONSUMED _ (by decide))).trans (.set _ HLTH_CS.SLOT _ (by decide))

theorem toPhase_restricted (s : State) (p : Nat) : (s.toPhase p).on TOP_STATE.RESTRICTED = s.on TOP_STATE.RESTRICTED := by
  unfold State.on State.toPhase
  rw [get_set_bits s TOP_STATE.CAST_PHASE TOP_STATE.RESTRICTED p 0 0 rfl (by decide) (by decide) (.inr (by decide))]

/-! ## Cast-on ends in READY (R420) -/

/-- What follows a change of the stored objects as cast-on ends: HLTH_CS, a report and a CERT to each enabled peer. -/
theorem readyNotices_effect (s : State) (reason : Nat) :
    let t := s.csUpdate.report reason
    OtherRegs (HLTH_CS.addr 0 0 :: mailRegs) s (t.peers.foldl State.sendCert t) ∧ (t.peers.foldl State.sendCert t).keep = s.keep := by
  intro t
  constructor
  · have hcs : OtherRegs (HLTH_CS.addr 0 0 :: mailRegs) s t := ((csUpdate_otherRegs s).mono (by decide)).trans (.of_csr (by rfl))
    exact hcs.trans ((OtherRegs.foldl sendCert_otherRegs _ t).mono (List.subset_cons_self _ _))
  · have hgoes : Goes [.csr, .mem, .poison, .out, .intc, .myk, .ciph] s (t.peers.foldl State.sendCert t) :=
      .foldl (.step (.step .refl csUpdate_goes (by decide)) report_goes (by decide))
        (fun _ _ h => h.step sendCert_goes (by decide))
    exact hgoes.only .keep (by decide)

/-- The image restored is marked consumed in its slot: no floor differs. -/
theorem putSlot_floors_eq (k : StoreSt) (i : Bool) (x : Option CritImage) :
    (k.putSlot i x).floorSec = k.floorSec ∧ (k.putSlot i x).floorMgmt = k.floorMgmt := by
  cases i <;> exact ⟨rfl, rfl⟩

theorem castReady_effect (s : State) :
    s.castReady.get TOP_STATE.CAST_PHASE = 11 ∧
    s.castReady.keep.floorSec =
      (if s.on TOP_STATE.RESTRICTED = true then s.keep.floorSec else max s.keep.floorSec (fieldAt s.boot.manifest 8 4)) ∧
    s.castReady.keep.floorMgmt =
      (if s.on TOP_STATE.RESTRICTED = true then s.keep.floorMgmt else max s.keep.floorMgmt (fieldAt s.boot.manifest 12 4)) := by
  unfold State.castReady
  extract_lets a k k' b c
  have hon : a.on TOP_STATE.RESTRICTED = s.on TOP_STATE.RESTRICTED := toPhase_restricted s _
  obtain ⟨hsec, hmgmt⟩ : k.floorSec = s.keep.floorSec ∧ k.floorMgmt = s.keep.floorMgmt := by
    unfold k
    split
    · exact ⟨rfl, rfl⟩
    · exact putSlot_floors_eq _ _ _
  obtain ⟨hregs, hkeep⟩ := readyNotices_effect { a with keep := k' } (if b.boot.fullTrain || b.boot.fullTest then 0x0041 else 0x0040)
  constructor
  · calc _ = a.get TOP_STATE.CAST_PHASE := hregs.get (by decide)
      _ = 11 := get_set_same s TOP_STATE.CAST_PHASE 0x0B 0 0 (by decide)
  · have hstore : (c.peers.foldl State.sendCert c).keep = k' := hkeep
    rw [hstore, ← hsec, ← hmgmt, ← hon]
    unfold k'
    split <;> exact ⟨rfl, rfl⟩

/-- ENGINES_STAGE_DONE ends cast-on once the last stage has passed its checks (R432). -/
theorem exec_enginesStageDone_last {s : State} (hphase : s.get TOP_STATE.CAST_PHASE = 10) (hcheck : s.ctl.checking = [])
    (hturn : s.boot.turn = []) (hfail : s.stageFailed = false) (hstage : s.boot.stage = 4) :
    exec .enginesStageDone s = .next s.castReady := by
  change execEnginesStageDone s = _
  simp [execEnginesStageDone, State.phase, hphase, hcheck, hturn, hfail, hstage]

/-- Settles O4: every step keeps the invariants of `Goes`, the floors among them; and the last stage of ENGINES ends in
`castReady`, which raises them. -/
theorem rollbackFloorsNeverFall : Obligations.RollbackFloorsNeverFall := by
  unfold Obligations.RollbackFloorsNeverFall
  constructor
  · intro s t hstep
    obtain ⟨l, hgoes⟩ := step_goes s
    exact (hgoes t hstep).floors
  · rintro s ⟨hphase, hcheck, hturn, hfail, hstage⟩
    exact ⟨s.castReady, exec_enginesStageDone_last hphase hcheck hturn hfail hstage, castReady_goes.only, castReady_effect s⟩

end Sys2Proof.Machine

namespace Sys2Proof.Machine
open Csr

/-!
The invariants that every step keeps, and what a step does with the queue of commands: statements over `step` itself, read off
`step_goes` and the definition of the step.
-/

theorem canonical_iff (s : State) : s.canonical = true ↔ Memory.wf s.mem = true ∧ Regs.wf s.csr = true := by
  simp [State.canonical]

/-- Settles O3: each invariant is a component of `Goes`, which every step keeps. -/
theorem stepKeepsInvariants : Obligations.StepKeepsInvariants := by
  unfold Obligations.StepKeepsInvariants
  rintro s t ⟨hcanon, hports⟩ hstep
  obtain ⟨l, hgoes⟩ := step_goes s
  have h := hgoes t hstep
  obtain ⟨hmem, hcsr⟩ := (canonical_iff s).mp hcanon
  exact ⟨(canonical_iff t).mpr ⟨h.mem hmem, h.csr hcsr⟩, h.ports hports, h.out, h.free⟩

/-- T and its fraction stay below 2^64 ns, as one number of 2^-40 ns. -/
theorem fullTime_putTime (s : State) (x : Nat) : (s.putTime (x : Int)).fullTime = x % 2 ^ 104 := by
  have hn : ((x : Int) % ((2 ^ 104 : Nat) : Int)).toNat = x % 2 ^ 104 := by
    rw [← Int.natCast_mod, Int.toNat_natCast]
  have hlt : x % 2 ^ 104 < 2 ^ 104 := Nat.mod_lt _ (by decide)
  simp only [State.putTime, State.fullTime, State.now, hn]
  rw [get_set_same _ _ _ _ _ (by decide)]
  have hw : TIME_NOW.NS.w = 64 := rfl
  rw [hw, State.set_timeFrac, BitVec.toNat_ofNat]
  omega

/-- Settles O1: a step is the front command's meaning on the rest of the queue; with none, a tick of the clock while power is
good. -/
theorem stepTakesFrontCommand : Obligations.StepTakesFrontCommand := by
  unfold Obligations.StepTakesFrontCommand
  refine ⟨fun s c rest h => ?_, fun s h => ?_, fun s h => ?_⟩
  · unfold step
    rw [h]
  · obtain ⟨hpending, hpower⟩ := h
    unfold step
    rw [hpending]
    simp [State.idle, hpower]
  · obtain ⟨hpending, hpower⟩ := h
    refine ⟨?_, rfl, fullTime_putTime _ _⟩
    unfold step
    rw [hpending]
    simp [State.idle, hpower]

end Sys2Proof.Machine

namespace Sys2Proof.Machine
open Csr

/-!
Reading registers after a command: when two registers of the map stand apart, what a register access finds at an address, and how
`get` and `rdReg` see a state whose other parts were updated.
-/

/-! ## Registers that stand apart -/

/-- The bytes that the elements of a register span, from its first address to its last. -/
def Reg.last (r : Reg) : Nat := r.base + (r.n1 - 1) * r.s1 + (r.n2 - 1) * r.s2

/-- The offset of a register's first address in a period of `g` bytes, and of the last in the same period. -/
def Reg.phase (r : Reg) (g : Nat) : Nat := r.base % g
def Reg.phaseEnd (r : Reg) (g : Nat) : Nat := r.base % g + (r.n2 - 1) * r.s2

/-- Whether no element of one register can have the address of an element of another: their spans do not meet, or they lie in
different parts of the period at which both repeat. -/
def Reg.apart (r r' : Reg) : Bool :=
  let g := Nat.gcd r.s1 r'.s1
  decide (r.last < r'.base) || decide (r'.last < r.base) ||
    decide (r.phaseEnd g < r'.phase g ∧ r'.phaseEnd g < g) || decide (r'.phaseEnd g < r.phase g ∧ r.phaseEnd g < g)

theorem Reg.base_le_addr (r : Reg) (i j : Nat) : r.base ≤ r.addr i j := by
  unfold Reg.addr
  omega

theorem Reg.addr_le_last {r : Reg} {i j : Nat} (hi : i < r.n1) (hj : j < r.n2) : r.addr i j ≤ r.last := by
  have h1 : i * r.s1 ≤ (r.n1 - 1) * r.s1 := Nat.mul_le_mul_right _ (by omega)
  have h2 : j * r.s2 ≤ (r.n2 - 1) * r.s2 := Nat.mul_le_mul_right _ (by omega)
  unfold Reg.addr Reg.last
  omega

/-- An element lies in the part of the period that its register takes. -/
theorem Reg.addr_phase {r : Reg} {g i j : Nat} (hg : g ∣ r.s1) (hj : j < r.n2) (hend : r.phaseEnd g < g) :
    r.phase g ≤ r.addr i j % g ∧ r.addr i j % g ≤ r.phaseEnd g := by
  have hle : j * r.s2 ≤ (r.n2 - 1) * r.s2 := Nat.mul_le_mul_right _ (by omega)
  obtain ⟨a, ha⟩ := hg
  have haddr : r.addr i j = g * (r.base / g + i * a) + (r.base % g + j * r.s2) := by
    rw [Reg.addr, ha]
    conv_lhs => rw [← Nat.div_add_mod r.base g]
    ring
  unfold Reg.phaseEnd at hend
  rw [haddr, Nat.mul_add_mod, Nat.mod_eq_of_lt (by omega)]
  unfold Reg.phase Reg.phaseEnd
  omega

theorem Reg.addr_ne {r r' : Reg} (h : r.apart r' = true) {i j i' j' : Nat} (hi : i < r.n1) (hj : j < r.n2) (hi' : i' < r'.n1)
    (hj' : j' < r'.n2) : r.addr i j ≠ r'.addr i' j' := by
  intro he
  have hlo := r.base_le_addr i j
  have hlo' := r'.base_le_addr i' j'
  have hhi := Reg.addr_le_last hi hj
  have hhi' := Reg.addr_le_last hi' hj'
  have hd := Nat.gcd_dvd_left r.s1 r'.s1
  have hd' := Nat.gcd_dvd_right r.s1 r'.s1
  have hphase : ∀ (x : Reg) g, x.phase g ≤ x.phaseEnd g := fun x g => Nat.le_add_right _ _
  simp only [Reg.apart, Bool.or_eq_true, decide_eq_true_eq] at h
  rcases h with ((h | h) | ⟨h, hend⟩) | ⟨h, hend⟩
  · omega
  · omega
  · obtain ⟨_, hp⟩ := Reg.addr_phase (i := i) hd hj ((h.trans_le (hphase r' _)).trans hend)
    obtain ⟨hp', _⟩ := Reg.addr_phase (i := i') hd' hj' hend
    rw [he] at hp
    omega
  · obtain ⟨hp, _⟩ := Reg.addr_phase (i := i) hd hj hend
    obtain ⟨_, hp'⟩ := Reg.addr_phase (i := i') hd' hj' ((h.trans_le (hphase r _)).trans hend)
    rw [he] at hp
    omega

/-! ## The register at an address -/

theorem Reg.find_eq_some {r : Reg} {a i j : Nat} (h : r.find a = some (i, j)) : a = r.addr i j ∧ i < r.n1 ∧ j < r.n2 := by
  unfold Reg.find at h
  by_cases hlt : a < r.base
  · simp [hlt] at h
  · have hle : (if r.s1 = 0 then 0 else (a - r.base) / r.s1) * r.s1 ≤ a - r.base := by
      split
      · simp
      · exact Nat.div_mul_le_self _ _
    simp only [hlt, if_false, Option.ite_none_right_eq_some, Option.some.injEq, Prod.mk.injEq] at h
    obtain ⟨⟨hrest, hi, hj⟩, hi', hj'⟩ := h
    rw [hi'] at hle hrest hi hj hj'
    rw [hj'] at hrest hj
    refine ⟨?_, hi, hj⟩
    unfold Reg.addr
    omega

theorem Reg.find_addr {r : Reg} {i : Nat} (hi : i < r.n1) (hn : 0 < r.n2) (hs : r.s1 ≠ 0 ∨ r.n1 = 1) :
    r.find (r.addr i 0) = some (i, 0) := by
  have hlt : ¬ r.addr i 0 < r.base := by simp [Reg.addr]
  have hd : r.addr i 0 - r.base = i * r.s1 := by simp [Reg.addr]
  unfold Reg.find
  rw [if_neg hlt, hd]
  by_cases h0 : r.s1 = 0
  · have : i = 0 := by omega
    subst this
    have : (if r.s2 = 0 then 0 else 0 / r.s2) = 0 := by split <;> simp
    simp [hi, hn]
  · simp [h0, Nat.mul_div_cancel _ (Nat.pos_of_ne_zero h0), hi, hn]

/-- Whether the elements of a register are found in a list of registers: no register before it can answer for their addresses. -/
def Reg.foundIn (r : Reg) : List Reg → Bool
  | [] => false
  | x :: l => x == r || (r.apart x && r.foundIn l)

theorem findIn_addr {r : Reg} {i : Nat} (b : Nat) (hi : i < r.n1) (hn : 0 < r.n2) (hs : r.s1 ≠ 0 ∨ r.n1 = 1) :
    ∀ l, r.foundIn l = true → findIn b (r.addr i 0) l = some ⟨r, i, 0, b⟩
  | [], h => by cases h
  | x :: l, h => by
    unfold findIn
    by_cases hx : x = r
    · subst hx
      rw [Reg.find_addr hi hn hs]
    · have h' : r.apart x = true ∧ r.foundIn l = true := by simpa [Reg.foundIn, hx] using h
      cases hf : x.find (r.addr i 0) with
      | none => exact findIn_addr b hi hn hs l h'.2
      | some p =>
        obtain ⟨he, hn1, hn2⟩ := Reg.find_eq_some hf
        exact absurd he (Reg.addr_ne h'.1 hi hn hn1 hn2)

/-- Whether a register is one of its block's, found at its own addresses, which lie in the block. -/
def Reg.mapped (r : Reg) : Bool :=
  r.foundIn (regsOfBlock (r.base / 0x100000)) && decide (r.last / 0x100000 = r.base / 0x100000) && decide (r.last < 0x10000000) &&
    decide (0 < r.n2) && (r.s1 != 0 || r.n1 == 1)

theorem Reg.mapped_iff (r : Reg) : r.mapped = true ↔ r.foundIn (regsOfBlock (r.base / 0x100000)) = true ∧
    r.last / 0x100000 = r.base / 0x100000 ∧ r.last < 0x10000000 ∧ 0 < r.n2 ∧ (r.s1 ≠ 0 ∨ r.n1 = 1) := by
  simp [Reg.mapped, and_assoc]

/-- A register access at the address of a register's element finds it. -/
theorem findReg_addr {r : Reg} {i : Nat} (h : r.mapped = true) (hi : i < r.n1) :
    findReg (r.addr i 0) = some ⟨r, i, 0, r.base / 0x100000⟩ ∧ inDoorbells (r.addr i 0) = false := by
  obtain ⟨hfound, hblock, hlast, hn, hs⟩ := (Reg.mapped_iff r).mp h
  have hlo := r.base_le_addr i 0
  have hhi := Reg.addr_le_last hi hn
  constructor
  · have hdiv : r.addr i 0 / 0x100000 = r.base / 0x100000 :=
      le_antisymm (hblock ▸ Nat.div_le_div_right hhi) (Nat.div_le_div_right hlo)
    rw [findReg, hdiv]
    exact findIn_addr _ hi hn hs _ hfound
  · have : ¬ 0x10000000 ≤ r.addr i 0 := by omega
    simp [inDoorbells, this]

/-! ## What a register reads after another was written -/

section
variable (s : State) (r r' : Reg) (f g : Field) (w : Word) (v : Nat)

@[simp] theorem rdReg_wrReg_far {i j i' j' : Nat} (h : r.addr i j ≠ r'.addr i' j') : (s.wrReg r w i j).rdReg r' i' j' = s.rdReg r' i' j' :=
  rdReg_wrReg_other _ _ _ _ _ _ _ _ h.symm

@[simp] theorem get_wrReg_far {i j i' j' : Nat} (h : r.addr i j ≠ g.reg.addr i' j') : (s.wrReg r w i j).get g i' j' = s.get g i' j' := by
  simp only [State.get, rdReg_wrReg_far s r g.reg w h]

@[simp] theorem get_set_far {i j i' j' : Nat} (h : f.reg.addr i j ≠ g.reg.addr i' j') : (s.set f v i j).get g i' j' = s.get g i' j' :=
  get_wrReg_far _ _ _ _ h

@[simp] theorem rdReg_set_far {i j i' j' : Nat} (h : f.reg.addr i j ≠ r'.addr i' j') : (s.set f v i j).rdReg r' i' j' = s.rdReg r' i' j' :=
  rdReg_wrReg_far _ _ _ _ h

/-- A stored value that fits its field is read back. -/
@[simp] theorem get_set_fits (i j : Nat) (h : f.lo + f.w ≤ 64 ∧ v < 2 ^ f.w) : (s.set f v i j).get f i j = v := by
  rw [get_set_same _ _ _ _ _ h.1, Nat.mod_eq_of_lt h.2]

@[simp] theorem get_set_mod (i j : Nat) (h : f.lo + f.w ≤ 64) : (s.set f v i j).get f i j = v % 2 ^ f.w :=
  get_set_same _ _ _ _ _ h

/-- Fields of one register that share no bit. -/
def Field.beside (f g : Field) : Bool :=
  decide (g.reg = f.reg ∧ f.lo + f.w ≤ 64 ∧ g.lo + g.w ≤ 64 ∧ (g.lo + g.w ≤ f.lo ∨ f.lo + f.w ≤ g.lo))

@[simp] theorem get_set_beside (i j : Nat) (h : f.beside g = true) : (s.set f v i j).get g i j = s.get g i j := by
  obtain ⟨hr, hf, hg, hd⟩ := of_decide_eq_true h
  exact get_set_bits _ _ _ _ _ _ hr hf hg hd

@[simp] theorem raise_get (i i' j' : Nat) : (s.raise f i).get g i' j' = (s.set f 1 i).get g i' j' := get_raise _ _ _ _ _ _

@[simp] theorem raise_rdReg (i i' j' : Nat) : (s.raise f i).rdReg r' i' j' = (s.set f 1 i).rdReg r' i' j' :=
  rdReg_congr (raise_csr s f i) r' i' j'

@[simp] theorem emit_rdReg (x : Out) (i j : Nat) : (s.emit x).rdReg r i j = s.rdReg r i j := rfl

@[simp] theorem report_rdReg (x i j : Nat) : (s.report x).rdReg r i j = s.rdReg r i j := rfl

@[simp] theorem intcUpdate_rdReg (i j : Nat) : s.intcUpdate.rdReg r i j = s.rdReg r i j := rdReg_congr (intcUpdate_csr s) r i j

@[simp] theorem wrReg_rdReg_self (i j : Nat) : (s.wrReg r w i j).rdReg r i j = w := rdReg_wrReg_same _ _ _ _ _

/-- Whether elements of two registers that stand apart have indices in their arrays, the first index below `n` and `n'`. -/
def Reg.apartFor (r r' : Reg) (n j n' j' : Nat) : Bool :=
  r.apart r' && decide (n ≤ r.n1 ∧ j < r.n2 ∧ n' ≤ r'.n1 ∧ j' < r'.n2)

theorem Reg.addr_ne_of_apartFor {r r' : Reg} {n j n' j' i i' : Nat} (h : r.apartFor r' n j n' j' = true) (hi : i < n) (hi' : i' < n') :
    r.addr i j ≠ r'.addr i' j' := by
  simp only [Reg.apartFor, Bool.and_eq_true, decide_eq_true_eq] at h
  obtain ⟨hapart, hn, hj, hn', hj'⟩ := h
  exact Reg.addr_ne hapart (by omega) hj (by omega) hj'

variable {n n' : Nat} (q : Fin n) (q' : Fin n') (i j i' j' : Nat)

@[simp] theorem get_wrReg_fin (h : r.apartFor g.reg n j (i' + 1) j' = true) : (s.wrReg r w q j).get g i' j' = s.get g i' j' :=
  get_wrReg_far s r g w (Reg.addr_ne_of_apartFor h q.isLt (by omega))

@[simp] theorem get_fin_wrReg (h : r.apartFor g.reg (i + 1) j n j' = true) : (s.wrReg r w i j).get g q j' = s.get g q j' :=
  get_wrReg_far s r g w (Reg.addr_ne_of_apartFor h (by omega) q.isLt)

@[simp] theorem get_fin_wrReg_fin (h : r.apartFor g.reg n j n' j' = true) : (s.wrReg r w q j).get g q' j' = s.get g q' j' :=
  get_wrReg_far s r g w (Reg.addr_ne_of_apartFor h q.isLt q'.isLt)

@[simp] theorem get_set_fin (h : f.reg.apartFor g.reg n j (i' + 1) j' = true) : (s.set f v q j).get g i' j' = s.get g i' j' :=
  get_wrReg_fin _ _ _ _ _ _ _ _ h

@[simp] theorem get_fin_set (h : f.reg.apartFor g.reg (i + 1) j n j' = true) : (s.set f v i j).get g q j' = s.get g q j' :=
  get_fin_wrReg _ _ _ _ _ _ _ _ h

@[simp] theorem get_fin_set_fin (h : f.reg.apartFor g.reg n j n' j' = true) : (s.set f v q j).get g q' j' = s.get g q' j' :=
  get_fin_wrReg_fin _ _ _ _ _ _ _ _ h

@[simp] theorem rdReg_set_fin (h : f.reg.apartFor r' n j (i' + 1) j' = true) : (s.set f v q j).rdReg r' i' j' = s.rdReg r' i' j' :=
  rdReg_wrReg_far s f.reg r' _ (Reg.addr_ne_of_apartFor h q.isLt (by omega))

@[simp] theorem rdReg_fin_set (h : f.reg.apartFor r' (i + 1) j n j' = true) : (s.set f v i j).rdReg r' q j' = s.rdReg r' q j' :=
  rdReg_wrReg_far s f.reg r' _ (Reg.addr_ne_of_apartFor h (by omega) q.isLt)

@[simp] theorem rdReg_fin_set_fin (h : f.reg.apartFor r' n j n' j' = true) : (s.set f v q j).rdReg r' q' j' = s.rdReg r' q' j' :=
  rdReg_wrReg_far s f.reg r' _ (Reg.addr_ne_of_apartFor h q.isLt q'.isLt)

end

/-! ## A state whose other parts were updated -/

section
variable (s : State) (a1 : List Instr) (a2 : List (Nat × Word)) (a3 : List Host.Cell) (a4 : List Nat) (a5 : List Out) (a6 : Nat) (a7 : BitVec 40) (a8 : IntcSt) (a9 : MykSt)
  (a10 : HostqSt) (a11 : SchedSt) (a12 : SkeinSt) (a13 : MemSt) (a14 : PmonSt) (a15 : HlthSt) (a16 : BedSt) (a17 : StchSt)
  (a18 : PurlSt) (a19 : CiphSt) (a20 : XportSt) (a21 : FabSt) (a22 : TimeSt) (a23 : GrpSt) (a24 : PhoSt) (a25 : BootSt)
  (a26 : CtlSt) (a27 : StoreSt) (a28 : List Work) (a29 : List LinePort)

@[simp] theorem rdReg_update (r : Reg) (i j : Nat) :
    State.rdReg ⟨a1, s.csr, a3, a4, a5, a6, a7, a8, a9, a10, a11, a12, a13, a14, a15, a16, a17, a18, a19, a20, a21, a22, a23, a24,
      a25, a26, a27, a28, a29⟩ r i j = s.rdReg r i j := rfl

@[simp] theorem get_update (f : Field) (i j : Nat) :
    State.get ⟨a1, s.csr, a3, a4, a5, a6, a7, a8, a9, a10, a11, a12, a13, a14, a15, a16, a17, a18, a19, a20, a21, a22, a23, a24,
      a25, a26, a27, a28, a29⟩ f i j = s.get f i j := rfl

@[simp] theorem on_update (f : Field) (i j : Nat) :
    State.on ⟨a1, s.csr, a3, a4, a5, a6, a7, a8, a9, a10, a11, a12, a13, a14, a15, a16, a17, a18, a19, a20, a21, a22, a23, a24,
      a25, a26, a27, a28, a29⟩ f i j = s.on f i j := rfl

@[simp] theorem readByte_update (x : Nat) :
    State.readByte ⟨a1, a2, s.mem, a4, a5, a6, a7, a8, a9, a10, a11, a12, a13, a14, a15, a16, a17, a18, a19, a20, a21, a22, a23, a24,
      a25, a26, a27, a28, a29⟩ x = s.readByte x := rfl

end

end Sys2Proof.Machine

namespace Sys2Proof.Machine
open Csr

/-!
Register writes: what a command that is a write of one register comes to once the checks of the write have passed, and what the
answer adds to the state that the write leaves.
-/

/-! ## The answer -/

/-- The end of every register access: the interrupt decision, then the answer. -/
def State.answered (s : State) (m : Master) (tag : BitVec 10) (status reason : Nat) : State :=
  s.intcUpdate.emit (answerOf m tag.toNat status reason [])

section
variable (s : State) (m : Master) (tag : BitVec 10) (x y : Nat)

@[simp] theorem answered_csr : (s.answered m tag x y).csr = s.csr := by simp [State.answered]
@[simp] theorem answered_rdReg (r : Reg) (i j : Nat) : (s.answered m tag x y).rdReg r i j = s.rdReg r i j :=
  rdReg_congr (answered_csr s m tag x y) r i j
@[simp] theorem answered_get (f : Field) (i j : Nat) : (s.answered m tag x y).get f i j = s.get f i j :=
  get_congr (answered_csr s m tag x y) f i j
@[simp] theorem answered_on (f : Field) (i j : Nat) : (s.answered m tag x y).on f i j = s.on f i j := by
  simp only [State.on, answered_get]
@[simp] theorem answered_intc_pending : (s.answered m tag x y).intc.pending = s.intc.pending := by simp [State.answered]
@[simp] theorem answered_intc_active : (s.answered m tag x y).intc.active = s.intc.active := by simp [State.answered]

theorem answered_otherRegs {l : List Nat} {a : State} (h : OtherRegs l a s) : OtherRegs l a (s.answered m tag x y) :=
  h.trans (.of_csr (answered_csr s m tag x y))

theorem answered_goes : Goes [.out, .intc] s (s.answered m tag x y) :=
  .step (.step .refl intcUpdate_goes (by decide)) emit_goes (by decide)

@[simp] theorem answered_pending : (s.answered m tag x y).pending = s.pending := (answered_goes s m tag x y).only .pending rfl
@[simp] theorem answered_mem : (s.answered m tag x y).mem = s.mem := (answered_goes s m tag x y).only .mem rfl
@[simp] theorem answered_poison : (s.answered m tag x y).poison = s.poison := (answered_goes s m tag x y).only .poison rfl
@[simp] theorem answered_freeCtr : (s.answered m tag x y).freeCtr = s.freeCtr := (answered_goes s m tag x y).only .freeCtr rfl
@[simp] theorem answered_timeFrac : (s.answered m tag x y).timeFrac = s.timeFrac := (answered_goes s m tag x y).only .timeFrac rfl
@[simp] theorem answered_myk : (s.answered m tag x y).myk = s.myk := (answered_goes s m tag x y).only .myk rfl
@[simp] theorem answered_hostq : (s.answered m tag x y).hostq = s.hostq := (answered_goes s m tag x y).only .hostq rfl
@[simp] theorem answered_sched : (s.answered m tag x y).sched = s.sched := (answered_goes s m tag x y).only .sched rfl
@[simp] theorem answered_skein : (s.answered m tag x y).skein = s.skein := (answered_goes s m tag x y).only .skein rfl
@[simp] theorem answered_memst : (s.answered m tag x y).memst = s.memst := (answered_goes s m tag x y).only .memst rfl
@[simp] theorem answered_pmon : (s.answered m tag x y).pmon = s.pmon := (answered_goes s m tag x y).only .pmon rfl
@[simp] theorem answered_hlth : (s.answered m tag x y).hlth = s.hlth := (answered_goes s m tag x y).only .hlth rfl
@[simp] theorem answered_bed : (s.answered m tag x y).bed = s.bed := (answered_goes s m tag x y).only .bed rfl
@[simp] theorem answered_stch : (s.answered m tag x y).stch = s.stch := (answered_goes s m tag x y).only .stch rfl
@[simp] theorem answered_purl : (s.answered m tag x y).purl = s.purl := (answered_goes s m tag x y).only .purl rfl
@[simp] theorem answered_ciph : (s.answered m tag x y).ciph = s.ciph := (answered_goes s m tag x y).only .ciph rfl
@[simp] theorem answered_xport : (s.answered m tag x y).xport = s.xport := (answered_goes s m tag x y).only .xport rfl
@[simp] theorem answered_fab : (s.answered m tag x y).fab = s.fab := (answered_goes s m tag x y).only .fab rfl
@[simp] theorem answered_time : (s.answered m tag x y).time = s.time := (answered_goes s m tag x y).only .time rfl
@[simp] theorem answered_grp : (s.answered m tag x y).grp = s.grp := (answered_goes s m tag x y).only .grp rfl
@[simp] theorem answered_pho : (s.answered m tag x y).pho = s.pho := (answered_goes s m tag x y).only .pho rfl
@[simp] theorem answered_boot : (s.answered m tag x y).boot = s.boot := (answered_goes s m tag x y).only .boot rfl
@[simp] theorem answered_ctl : (s.answered m tag x y).ctl = s.ctl := (answered_goes s m tag x y).only .ctl rfl
@[simp] theorem answered_keep : (s.answered m tag x y).keep = s.keep := (answered_goes s m tag x y).only .keep rfl
@[simp] theorem answered_rerun : (s.answered m tag x y).rerun = s.rerun := (answered_goes s m tag x y).only .rerun rfl
@[simp] theorem answered_line : (s.answered m tag x y).line = s.line := (answered_goes s m tag x y).only .line rfl

theorem answered_answers : Answered (s.answered m tag x y) m tag.toNat x y [] := by
  simp [Answered, State.answered, State.emit]

end

section
variable {l : List Nat} {a s : State} (h : OtherRegs l a s)
include h

theorem OtherRegs.andSet {f : Field} {v i j : Nat} (w : f.reg.addr i j ∈ l) : OtherRegs l a (s.set f v i j) := h.trans (.set s f v w)
theorem OtherRegs.andAddSat {f : Field} {v i j : Nat} (w : f.reg.addr i j ∈ l) : OtherRegs l a (s.addSat f v i j) := h.andSet w
theorem OtherRegs.andAddWrap {f : Field} {v i j : Nat} (w : f.reg.addr i j ∈ l) : OtherRegs l a (s.addWrap f v i j) := h.andSet w
theorem OtherRegs.andWrReg {r : Reg} {v : Word} {i j : Nat} (w : r.addr i j ∈ l) : OtherRegs l a (s.wrReg r v i j) :=
  h.trans (.wrReg s r v w)
theorem OtherRegs.andRaise {f : Field} {i : Nat} (w : f.reg.addr i 0 ∈ l) : OtherRegs l a (s.raise f i) := h.trans (.raise s f w)
theorem OtherRegs.andCsr {t : State} (e : t.csr = s.csr) : OtherRegs l a t := h.trans (.of_csr e)
theorem OtherRegs.andGoes {k : List Part} {t : State} (g : Goes k s t) (w : k.contains .csr = false) : OtherRegs l a t :=
  h.andCsr (g.only .csr w)
theorem OtherRegs.andReport {n : Nat} : OtherRegs l a (s.report n) := h.andCsr (by rfl)
theorem OtherRegs.andEmit {x : Out} : OtherRegs l a (s.emit x) := h.andCsr (by rfl)

end

theorem OtherRegs.refl {l : List Nat} {s : State} : OtherRegs l s s := .of_csr rfl

/-! ## What leaves the module -/

theorem Sent.mono {s t u : State} {x : Out} (h : Sent s t x) (w : t.out <+: u.out) : Sent s u x := by
  obtain ⟨r, hr⟩ := w
  unfold Sent at h ⊢
  rw [← hr]
  have hlen : s.out.length ≤ t.out.length := by
    by_contra hlt
    rw [List.drop_eq_nil_of_le (by omega)] at h
    cases h
  rw [List.drop_append_of_le_length hlen]
  exact List.mem_append_left _ h

/-- What leaves last has left since the state before. -/
theorem sent_emit {s t : State} (x : Out) (h : s.out <+: t.out) : Sent s (t.emit x) x := by
  obtain ⟨r, hr⟩ := h
  simp [Sent, State.emit, ← hr]

theorem sent_report {s t : State} (n : Nat) (h : s.out <+: t.out) : Sent s (t.report n) (.report n) := sent_emit _ h

theorem Sent.of_goes {l : List Part} {s t u : State} {x : Out} (h : Sent s t x) (k : Goes l t u) : Sent s u x := h.mono k.out

/-! ## A write of one register -/

/-- A write whose checks pass at an element of a register: what the register does with it, the violation of a refusal that is one,
and the answer. -/
theorem regCommand_of_writable {s : State} {m : Master} {r : Reg} {i : Nat} {v : Word} {fs : List (Field × Nat)} (tag : BitVec 10)
    (hr : r.mapped = true) (hi : i < r.n1) (hw : Writable s m r i (forced v fs)) :
    let w := s.storeWord (fun t => t) ⟨r, i, 0, r.base / 0x100000⟩ (forced v fs)
    s.regCommand m tag r i fs v =
      (if w.viol then w.st.csrViolation m w.reason (r.addr i 0) (forced v fs).toNat else w.st).answered m tag
        (if w.reason = 0 then 0 else 1) w.reason := by
  intro w
  obtain ⟨hbind, hcheck⟩ := hw
  obtain ⟨hfind, hbell⟩ := findReg_addr hr hi
  have hwrite : s.writeAt (fun t => t) m (r.addr i 0) (forced v fs) = w := by
    rw [State.writeAt, hbell, hfind]
    simp [Option.isNone_iff_eq_none.mp hcheck, w]
  simp only [State.regCommand, State.csrWriteWith, hbind, hwrite, respond_eq_emit, State.answered]
  rfl

/-- A write that its register takes. -/
theorem regCommand_done {s t : State} {m : Master} {r : Reg} {i : Nat} {v : Word} {fs : List (Field × Nat)} (tag : BitVec 10)
    (hr : r.mapped = true) (hi : i < r.n1) (hw : Writable s m r i (forced v fs))
    (hs : s.storeWord (fun t => t) ⟨r, i, 0, r.base / 0x100000⟩ (forced v fs) = ⟨t, 0, false⟩) :
    s.regCommand m tag r i fs v = t.answered m tag 0 0 := by
  rw [regCommand_of_writable tag hr hi hw, hs]
  rfl

/-- A write that its register refuses with a reason. -/
theorem regCommand_refused {s t : State} {m : Master} {r : Reg} {i n : Nat} {v : Word} {fs : List (Field × Nat)} (tag : BitVec 10)
    (hr : r.mapped = true) (hi : i < r.n1) (hw : Writable s m r i (forced v fs)) (hn : n ≠ 0)
    (hs : s.storeWord (fun t => t) ⟨r, i, 0, r.base / 0x100000⟩ (forced v fs) = ⟨t, n, false⟩) :
    s.regCommand m tag r i fs v = t.answered m tag 1 n := by
  rw [regCommand_of_writable tag hr hi hw, hs]
  simp [hn]

/-- What a command does that is a write which its register takes: the parts and facts of the state that the write leaves. -/
theorem does_of_done {s t : State} {m : Master} {tag : BitVec 10} {r : Reg} {i : Nat} {v : Word} {fs : List (Field × Nat)}
    {c : Instr} {l k : List Part} {p : State → Prop} (hc : exec c s = .next (s.regCommand m tag r i fs v)) (hr : r.mapped = true)
    (hi : i < r.n1) (hw : Writable s m r i (forced v fs))
    (hs : s.storeWord (fun t => t) ⟨r, i, 0, r.base / 0x100000⟩ (forced v fs) = ⟨t, 0, false⟩) (ht : Goes k s t)
    (hk : within (.out :: .intc :: k) l = true) (hp : p (t.answered m tag 0 0)) : Does c s l p := by
  refine ⟨_, by rw [hc, regCommand_done tag hr hi hw hs], ?_, hp⟩
  have hk' : within k l = true ∧ within [.out, .intc] l = true := by
    simp only [within, List.all_cons, List.all_nil, Bool.and_eq_true] at hk ⊢
    exact ⟨hk.2.2, hk.1, hk.2.1, trivial⟩
  exact (Goes.step (.step .refl ht hk'.1) (answered_goes t m tag 0 0) hk'.2).only

/-- What a command does that is a write which its register refuses. -/
theorem does_of_refused {s t : State} {m : Master} {tag : BitVec 10} {r : Reg} {i n : Nat} {v : Word} {fs : List (Field × Nat)}
    {c : Instr} {l k : List Part} {p : State → Prop} (hc : exec c s = .next (s.regCommand m tag r i fs v)) (hr : r.mapped = true)
    (hi : i < r.n1) (hw : Writable s m r i (forced v fs)) (hn : n ≠ 0)
    (hs : s.storeWord (fun t => t) ⟨r, i, 0, r.base / 0x100000⟩ (forced v fs) = ⟨t, n, false⟩) (ht : Goes k s t)
    (hk : within (.out :: .intc :: k) l = true) (hp : p (t.answered m tag 1 n)) : Does c s l p := by
  refine ⟨_, by rw [hc, regCommand_refused tag hr hi hw hn hs], ?_, hp⟩
  have hk' : within k l = true ∧ within [.out, .intc] l = true := by
    simp only [within, List.all_cons, List.all_nil, Bool.and_eq_true] at hk ⊢
    exact ⟨hk.2.2, hk.1, hk.2.1, trivial⟩
  exact (Goes.step (.step .refl ht hk'.1) (answered_goes t m tag 1 n) hk'.2).only

end Sys2Proof.Machine

namespace Sys2Proof.Machine
open Csr

/-! ## Reads (R394) -/

/-- A read that its master may make of a register whose read has no effect answers its value. -/
theorem csrRead_plain {s : State} {m : Master} {a : Nat} {h : Hit} (tag : Nat) (hb : s.hlth.bindingOff = false)
    (hbell : inDoorbells a = false) (hf : findReg a = some h) (ho : s.openTo m h false 0 = true)
    (hbase : h.reg.base ∉ [INTC_CLAIM.base, TIME_TXQ_LO.base, TIME_NOW.base]) (hrc : h.reg.flds.all (fun f => f.acc != .rc) = true) :
    s.csrRead m tag a = s.emit (answerOf m tag 0 0 (le 8 (s.readValue h).toNat)) := by
  simp only [List.mem_cons, List.not_mem_nil, or_false, not_or] at hbase
  obtain ⟨hclaim, htxq, hnow⟩ := hbase
  have hnone : h.reg.flds.filter (fun f => f.acc == .rc) = [] := by
    rw [List.filter_eq_nil_iff]
    intro f hf
    simpa [bne_iff_ne] using List.all_eq_true.mp hrc f hf
  have hread : s.readAt m a = .ok (s.readValue h, s) := by
    simp [State.readAt, hbell, hf, ho, State.regRead, hclaim, htxq, hnow, hnone]
  simp [State.csrRead, hb, hread, respond_eq_emit]

theorem hit_of_map {a : Nat} {r : Reg} {i j b : Nat} (h : (findReg a).map (fun h => (h.reg, h.i, h.j, h.block)) = some (r, i, j, b)) :
    findReg a = some ⟨r, i, j, b⟩ := by
  obtain ⟨x, hx, he⟩ := Option.map_eq_some_iff.mp h
  cases x
  simp only [Prod.mk.injEq] at he
  obtain ⟨rfl, rfl, rfl, rfl⟩ := he
  exact hx

theorem csrRead_txq {s : State} (m : Master) (tag : Nat) (hb : s.hlth.bindingOff = false) :
    s.csrRead m tag (TIME_TXQ_LO.addr 0 0) = s.txqRead.2.emit (answerOf m tag 0 0 (le 8 (BitVec.ofNat 64 s.txqRead.1).toNat)) := by
  obtain ⟨hfind, hbell⟩ := findReg_addr (r := TIME_TXQ_LO) (i := 0) (by decide) (by decide)
  have hopen : s.openTo m ⟨TIME_TXQ_LO, 0, 0, 14⟩ false 0 = true := by
    simp [State.openTo, TIME_TXQ_LO, INTC_CLAIM, INTC_COMPLETE, INTC_THRESHOLD]
  have hread : s.readAt m (TIME_TXQ_LO.addr 0 0) = .ok (BitVec.ofNat 64 s.txqRead.1, s.txqRead.2) := by
    simp only [State.readAt, hbell, hfind, Bool.false_eq_true, if_false]
    exact (if_pos hopen).trans (by rfl)
  simp [State.csrRead, hb, hread, respond_eq_emit]

/-! ## Writes (R10, R394) -/

/-- A write whose checks pass at a register with no effect beyond its fields stores each field by its access. -/
theorem csrWriteWith_plain {upd : State → State} {s : State} {m : Master} {a : Nat} {h : Hit} {v : Word} (tag : Nat)
    (hb : s.hlth.bindingOff = false) (hbell : inDoorbells a = false) (hf : findReg a = some h) (hblock : h.block = 4 ∨ h.block = 5)
    (hctrl : h.reg.base ≠ (ctrlReg h.block).base) (hcheck : (s.writeCheck m h v).isNone = true) :
    s.csrWriteWith upd m tag a v =
      (s.wrReg h.reg (h.merge (s.rdReg h.reg h.i h.j) v) h.i h.j).intcUpdate.emit (answerOf m tag 0 0 []) := by
  have hstore : s.storeWord upd h v = ⟨s.wrReg h.reg (h.merge (s.rdReg h.reg h.i h.j) v) h.i h.j, 0, false⟩ := by
    simp only [State.storeWord, hctrl, and_false, if_false, State.writeEffect]
    rcases hblock with h4 | h5
    · simp [h4]
    · simp [h5]
  simp [State.csrWriteWith, hb, State.writeAt, hbell, hf, Option.isNone_iff_eq_none.mp hcheck, hstore, respond_eq_emit]

theorem writeMsg_wellFormed {upd : State → State} {s : State} {m : Master} {msg : MykMsg} (hm : m = .host ∧ msg.type = 4 ∨ m ≠ .host)
    (hlen : msg.len = 8) (hpay : msg.payload.length = 8) (halign : msg.addr % 8 = 0) (hb : s.hlth.bindingOff = false) :
    s.writeMsg upd m msg = s.csrWriteWith upd m msg.tag msg.addr (BitVec.ofNat 64 (leVal msg.payload)) := by
  rcases hm with ⟨rfl, htype⟩ | hcore
  · simp [State.writeMsg, hb, htype, hlen, hpay, halign]
  · simp [State.writeMsg, hb, hcore, hlen, halign]

/-! ## The violation log -/

theorem hostWrite_get_violTotal (s : State) (a : Nat) (bs : Bytes) :
    (s.hostWrite a bs).get TOP_VIOL_COUNT.TOTAL = s.get TOP_VIOL_COUNT.TOTAL :=
  (hostWrite_otherRegs s a bs).get (by decide)

/-- A violation is counted, and whatever becomes of its entry the count stays. -/
theorem violation_total (s : State) (v : Violation) :
    (s.violation v).get TOP_VIOL_COUNT.TOTAL = (s.get TOP_VIOL_COUNT.TOTAL + 1) % 2 ^ TOP_VIOL_COUNT.TOTAL.w := by
  have hcount : (s.addWrap TOP_VIOL_COUNT.TOTAL 1).get TOP_VIOL_COUNT.TOTAL = (s.get TOP_VIOL_COUNT.TOTAL + 1) % 2 ^ TOP_VIOL_COUNT.TOTAL.w :=
    get_addWrap _ _ _ _ _ (by decide)
  unfold State.violation
  extract_lets s1 size wr used first s2 base s3
  have hlost : s2.get TOP_VIOL_COUNT.TOTAL = s1.get TOP_VIOL_COUNT.TOTAL := by
    simp (disch := decide) [s2, State.addSat]
  split
  · split
    · simp (disch := decide) [hlost, s1, hcount]
    · rw [hlost, hcount]
  · simp (disch := decide) [s3, hostWrite_get_violTotal, s1, hcount]

/-- Settles O6: each access is the read or the write of the register that its address names, or a violation. -/
theorem registerAccess : Obligations.RegisterAccess := by
  unfold Obligations.RegisterAccess
  refine ⟨?read, ?txq, ?txqEmpty, ?write, ?unmapped⟩
  case read =>
    rintro s m msg r i j b hm ⟨halign, hb, hbell⟩ hfind hopen ⟨hbase, hrc⟩
    have hread := csrRead_plain msg.tag hb hbell (hit_of_map hfind) hopen hbase hrc
    change execCsrRd m msg s = _
    rcases hm with ⟨rfl, htype, hlen, hpay⟩ | ⟨hcore, hlen⟩
    · simp [execCsrRd, State.readMsg, hb, htype, hlen, hpay, halign, hread]
    · simp [execCsrRd, State.readMsg, hb, hcore, hlen, halign, hread]
  case txq =>
    rintro s m tag e rest ⟨hb, htxq⟩
    have hread := csrRead_txq m tag.toNat hb
    have hword : (BitVec.ofNat 64 s.txqRead.1).toNat = 1 + e.type % 16 * 2 + e.unit % 64 * 32 + e.seqId % 65536 * 65536 := by
      simp only [State.txqRead, htxq, BitVec.toNat_ofNat]
      omega
    rw [hword] at hread
    have hstate : s.txqRead.2 =
        ({ s with time := { s.time with txq := rest } }.set TIME_TXQ_HI.NS e.ns).set TIME_TXQ_STATUS.COUNT rest.length := by
      simp only [State.txqRead, htxq]
    refine ⟨_, congrArg Host.Outcome.next hread, ?_, ?_, ?_, ?_, ?_, ?_⟩
    · rw [hstate]
      exact (Goes.step (.step (.step (.time .refl (by decide)) set_goes (by decide)) set_goes (by decide)) emit_goes (by decide)).only
    · simp [hstate]
    · simp (disch := decide) [hstate]
      rfl
    · simp (disch := decide) [hstate]
    · rw [hstate]
      exact ((OtherRegs.set { s with time := _ } TIME_TXQ_HI.NS _ (i := 0) (j := 0) (by decide)).trans
        (.set _ TIME_TXQ_STATUS.COUNT _ (i := 0) (j := 0) (by decide))).trans (.of_csr (by rfl))
    · simp [Answered, State.emit]
  case txqEmpty =>
    rintro s m tag ⟨hb, htxq⟩
    change execTimeTxqLo m tag s = _
    simp [execTimeTxqLo, csrRead_txq m tag.toNat hb, State.txqRead, htxq]
  case write =>
    rintro s m msg r i j b v hm ⟨hlen, hpay, halign, hb, hbell⟩ ⟨hfind, hblock, hctrl⟩ hcheck
    have hwrite := (writeMsg_wellFormed (upd := State.updateGo) hm hlen hpay halign hb).trans
      (csrWriteWith_plain msg.tag hb hbell (hit_of_map hfind) hblock hctrl hcheck)
    refine ⟨_, congrArg Host.Outcome.next hwrite, ?_, ?_, ?_, ?_⟩
    · exact (Goes.step (.step (.step .refl wrReg_goes (by decide)) intcUpdate_goes (by decide)) emit_goes (by decide)).only
    · simp
      rfl
    · exact (OtherRegs.wrReg s r (Hit.merge ⟨r, i, j, b⟩ (s.rdReg r i j) v) (i := i) (j := j) (by simp)).trans (.of_csr (by simp [v]))
    · simp [Answered, State.emit]
  case unmapped =>
    rintro s m msg hm ⟨hlen, hpay, halign, hb, hbell⟩ hfind
    have hwrite := writeMsg_wellFormed (upd := State.updateGo) hm hlen hpay halign hb
    have hat : s.writeAt State.updateGo m msg.addr (BitVec.ofNat 64 (leVal msg.payload)) = ⟨s, 0x0002, true⟩ := by
      simp [State.writeAt, hbell, Option.isNone_iff_eq_none.mp hfind]
    have hend : s.csrWriteWith State.updateGo m msg.tag msg.addr (BitVec.ofNat 64 (leVal msg.payload)) =
        ((s.csrViolation m 0x0002 msg.addr (BitVec.ofNat 64 (leVal msg.payload)).toNat).intcUpdate).emit
          (answerOf m msg.tag 1 0x0002 []) := by
      simp [State.csrWriteWith, hb, hat, respond_eq_emit]
    refine ⟨_, congrArg Host.Outcome.next (hwrite.trans hend), ?_, ?_, ?_⟩
    · exact (Goes.step (.step (.step .refl csrViolation_goes (by decide)) intcUpdate_goes (by decide)) emit_goes (by decide)).only
    · simp [State.csrViolation, violation_total]
    · simp [Answered, State.emit]

end Sys2Proof.Machine

namespace Sys2Proof.Machine
open Csr

/-!
What a register write leaves in the register's own fields (Table SCOPE-2), and what the write comes to at a register that is no
block's CTRL.
-/

theorem of_forced (v : Word) (f : Field) (x : Nat) (h : f.lo + f.w ≤ 64) : f.of (forced v [(f, x)]).toNat = x % 2 ^ f.w :=
  getBits_setBits_same _ _ _ _ h

theorem getLsbD_zero (v : Word) : v.getLsbD 0 = v.toNat.testBit 0 := rfl

/-! ## Fields that a write leaves -/

/-- Whether a write of a register leaves a field of it: every field that the write may change lies elsewhere. -/
def Field.keptBy (f : Field) (r : Reg) : Bool :=
  f.reg == r && decide (f.lo + f.w ≤ 64) && r.flds.all (fun x => decide (x.lo + x.w ≤ 64) &&
    (x.acc ∈ [.ro, .wo, .w1s, .rc] || decide (x.lo + x.w ≤ f.lo ∨ f.lo + f.w ≤ x.lo)))

theorem put_kept {x : FieldInfo} {i lo n : Nat} {c v : Word} (hx : x.lo + x.w ≤ 64) (hn : lo + n ≤ 64)
    (h : x.acc ∈ [Acc.ro, .wo, .w1s, .rc] ∨ x.lo + x.w ≤ lo ∨ lo + n ≤ x.lo) :
    getBits (x.put i c v).toNat lo n = getBits c.toNat lo n := by
  rcases h with h | h
  · have : x.put i c v = c := by
      unfold FieldInfo.put
      cases hacc : x.acc <;> simp_all
    rw [this]
  · unfold FieldInfo.put
    dsimp only
    have hset : ∀ y, getBits (setBits c x.lo x.w y).toNat lo n = getBits c.toNat lo n := fun y =>
      getBits_setBits_other _ _ _ _ _ _ hx hn (by omega)
    split
    · exact hset _
    · exact hset _
    · split
      · exact hset _
      · rfl
    · exact hset _
    · rfl

theorem puts_kept {l : List FieldInfo} {i lo n : Nat} {v : Word} (hn : lo + n ≤ 64)
    (h : ∀ x ∈ l, x.lo + x.w ≤ 64 ∧ (x.acc ∈ [Acc.ro, .wo, .w1s, .rc] ∨ x.lo + x.w ≤ lo ∨ lo + n ≤ x.lo)) (c : Word) :
    getBits (l.foldl (fun c f => f.put i c v) c).toNat lo n = getBits c.toNat lo n := by
  induction l generalizing c with
  | nil => rfl
  | cons x r ih =>
    obtain ⟨hx, hd⟩ := h x (by simp)
    rw [List.foldl_cons, ih (fun y hy => h y (by simp [hy])), put_kept hx hn hd]

/-- Storing a field's own bits changes no bit. -/
theorem setBits_self (w : Word) (lo n : Nat) (h : lo + n ≤ 64) : setBits w lo n (getBits w.toNat lo n) = w := by
  apply BitVec.eq_of_getLsbD_eq
  intro k hk
  rw [getLsbD_setBits _ _ _ _ _ h hk]
  split
  · next hin =>
    rw [testBit_getBits, BitVec.getLsbD]
    have h1 : k - lo < n := by omega
    have h2 : lo + (k - lo) = k := by omega
    simp [h1, h2]
  · rfl

/-- A bit of the word that a merge leaves: bit 0 of an ENABLE register is the one that stood there. -/
theorem merge_kept {h : Hit} {old v : Word} {lo n : Nat} (hn : lo + n ≤ 64)
    (hd : ∀ x ∈ h.reg.flds, x.lo + x.w ≤ 64 ∧ (x.acc ∈ [Acc.ro, .wo, .w1s, .rc] ∨ x.lo + x.w ≤ lo ∨ lo + n ≤ x.lo)) :
    getBits (h.merge old v).toNat lo n = getBits old.toNat lo n := by
  have hputs := puts_kept (i := h.i) (v := v) hn hd old
  unfold Hit.merge
  dsimp only
  split
  · apply Nat.eq_of_testBit_eq
    intro k
    have hk := congrArg (fun z => z.testBit k) hputs
    simp only [testBit_getBits] at hk ⊢
    by_cases hkn : k < n
    · have hset := getLsbD_setBits (h.reg.flds.foldl (fun c f => f.put h.i c v) old) 0 1 (getBits old.toNat 0 1) (lo + k) (by omega)
        (by omega)
      rw [BitVec.getLsbD] at hset
      rw [hset]
      split
      · next hz =>
        have : lo + k = 0 := by omega
        rw [this, testBit_getBits]
        rfl
      · simpa [hkn, BitVec.getLsbD] using hk
    · simp [hkn]
  · exact hputs

@[simp] theorem get_merge_kept (s : State) (f : Field) (r : Reg) (i j b : Nat) (v : Word) (h : f.keptBy r = true) :
    (s.wrReg r (Hit.merge ⟨r, i, j, b⟩ (s.rdReg r i j) v) i j).get f i j = s.get f i j := by
  simp only [Field.keptBy, Bool.and_eq_true, beq_iff_eq, decide_eq_true_eq, List.all_eq_true, Bool.or_eq_true] at h
  obtain ⟨⟨rfl, hf⟩, hd⟩ := h
  simp only [State.get, rdReg_wrReg_same]
  exact merge_kept hf hd

/-! ## Fields that a write stores -/

/-- Whether a write of a register stores its value in a field: it is one field with access RW or RW-L, apart from the others. -/
def Field.storedBy (f : Field) (r : Reg) : Bool :=
  f.reg == r && decide (f.lo + f.w ≤ 64) &&
    r.flds.any (fun x => x.lo == f.lo && x.w == f.w && (x.acc == .rw || x.acc == .rwl)) &&
    r.flds.all (fun x => decide (x.lo + x.w ≤ 64) &&
      (x.lo == f.lo && x.w == f.w && (x.acc == .rw || x.acc == .rwl) || x.acc ∈ [.ro, .wo, .w1s, .rc] ||
        decide (x.lo + x.w ≤ f.lo ∨ f.lo + f.w ≤ x.lo)))

theorem puts_stored {l : List FieldInfo} {i lo n : Nat} {v : Word} (hn : lo + n ≤ 64)
    (h : ∀ x ∈ l, x.lo + x.w ≤ 64 ∧ ((x.lo = lo ∧ x.w = n ∧ (x.acc = .rw ∨ x.acc = .rwl)) ∨ x.acc ∈ [Acc.ro, .wo, .w1s, .rc] ∨
      x.lo + x.w ≤ lo ∨ lo + n ≤ x.lo))
    (hex : ∃ x ∈ l, x.lo = lo ∧ x.w = n ∧ (x.acc = .rw ∨ x.acc = .rwl)) (c : Word) :
    getBits (l.foldl (fun c f => f.put i c v) c).toNat lo n = getBits v.toNat lo n := by
  have hput : ∀ (x : FieldInfo) (c : Word), x.lo = lo → x.w = n → (x.acc = .rw ∨ x.acc = .rwl) →
      getBits (x.put i c v).toNat lo n = getBits v.toNat lo n := by
    rintro x c rfl rfl hacc
    have : x.put i c v = setBits c x.lo x.w (getBits v.toNat x.lo x.w) := by
      unfold FieldInfo.put
      rcases hacc with hacc | hacc <;> simp [hacc]
    rw [this, getBits_setBits_same _ _ _ _ hn, getBits, Nat.mod_mod]
  have hmore : ∀ (l : List FieldInfo), (∀ x ∈ l, x.lo + x.w ≤ 64 ∧ ((x.lo = lo ∧ x.w = n ∧ (x.acc = .rw ∨ x.acc = .rwl)) ∨
      x.acc ∈ [Acc.ro, .wo, .w1s, .rc] ∨ x.lo + x.w ≤ lo ∨ lo + n ≤ x.lo)) → ∀ c : Word, getBits c.toNat lo n = getBits v.toNat lo n →
      getBits (l.foldl (fun c f => f.put i c v) c).toNat lo n = getBits v.toNat lo n := by
    intro l
    induction l with
    | nil => exact fun _ c hc => hc
    | cons x r ih =>
      intro hl c hc
      obtain ⟨hx, hk⟩ := hl x (by simp)
      refine ih (fun y hy => hl y (by simp [hy])) _ ?_
      rcases hk with ⟨hlo, hw, hacc⟩ | hk
      · exact hput x c hlo hw hacc
      · rw [put_kept hx hn hk, hc]
  induction l generalizing c with
  | nil => simp at hex
  | cons x r ih =>
    rw [List.foldl_cons]
    have hr := fun y hy => h y (List.mem_cons_of_mem x hy)
    obtain ⟨y, hy, hlo, hw, hacc⟩ := hex
    rcases List.mem_cons.mp hy with rfl | hy
    · exact hmore r hr _ (hput _ c hlo hw hacc)
    · exact ih hr ⟨y, hy, hlo, hw, hacc⟩ _

@[simp] theorem get_merge_stored (s : State) (f : Field) (r : Reg) (i j b : Nat) (v : Word)
    (h : (f.storedBy r && !ownEnable r b) = true) :
    (s.wrReg r (Hit.merge ⟨r, i, j, b⟩ (s.rdReg r i j) v) i j).get f i j = f.of v.toNat := by
  simp only [Field.storedBy, Bool.and_eq_true, beq_iff_eq, decide_eq_true_eq, List.all_eq_true, List.any_eq_true, Bool.or_eq_true,
    Bool.not_eq_true'] at h
  obtain ⟨⟨⟨⟨rfl, hf⟩, hex⟩, hd⟩, hown⟩ := h
  simp only [State.get, rdReg_wrReg_same, Hit.merge, hown, Bool.false_eq_true, if_false, Field.of]
  exact puts_stored hf (fun x hx => by simpa [and_assoc, or_assoc] using hd x hx) (by simpa [and_assoc] using hex) _

/-- The word that a write leaves in a register none of whose fields stores what is written. -/
theorem merge_of_noStore {h : Hit} (old v : Word) (hs : h.reg.flds.all (fun x => x.acc ∈ [.ro, .wo, .w1s, .rc]) = true)
    (hown : ownEnable h.reg h.block = false) : h.merge old v = old := by
  have hputs : ∀ l : List FieldInfo, l.all (fun x => x.acc ∈ [.ro, .wo, .w1s, .rc]) = true →
      l.foldl (fun c f => f.put h.i c v) old = old := by
    intro l
    induction l with
    | nil => exact fun _ => rfl
    | cons x r ih =>
      intro hl
      simp only [List.all_cons, Bool.and_eq_true] at hl
      have hx : x.put h.i old v = old := by
        unfold FieldInfo.put
        cases hacc : x.acc <;> simp_all
      rw [List.foldl_cons, hx, ih hl.2]
  simp [Hit.merge, hputs _ hs, hown]

/-! ## The state that the stored fields leave -/

/-- A register's fields stored by a write of it, `b` its block. -/
def State.written (s : State) (r : Reg) (i b : Nat) (v : Word) : State :=
  s.wrReg r (Hit.merge ⟨r, i, 0, b⟩ (s.rdReg r i) v) i

theorem written_goes {s : State} {r : Reg} {i b : Nat} {v : Word} : Goes [.csr] s (s.written r i b v) := wrReg_goes

theorem written_otherRegs {l : List Nat} (s : State) {r : Reg} {i b : Nat} {v : Word} (h : r.addr i 0 ∈ l) :
    OtherRegs l s (s.written r i b v) := .wrReg _ _ _ h

section
variable (s : State) (r : Reg) (f : Field) (v : Word) (b : Nat)

@[simp] theorem written_get_kept (i : Nat) (h : f.keptBy r = true) : (s.written r i b v).get f i = s.get f i :=
  get_merge_kept _ _ _ _ _ _ _ h

@[simp] theorem written_get_stored (i : Nat) (h : (f.storedBy r && !ownEnable r b) = true) : (s.written r i b v).get f i = f.of v.toNat :=
  get_merge_stored _ _ _ _ _ _ _ h

@[simp] theorem written_rdReg_noStore (i : Nat)
    (h : (r.flds.all (fun x => x.acc ∈ [.ro, .wo, .w1s, .rc]) && !ownEnable r b) = true) :
    (s.written r i b v).rdReg r i = s.rdReg r i := by
  obtain ⟨hs, hown⟩ := (Bool.and_eq_true _ _).mp h
  rw [State.written, rdReg_wrReg_same]
  exact merge_of_noStore _ _ hs (by simpa using hown)

@[simp] theorem written_get_far {i i' j' : Nat} (h : r.addr i 0 ≠ f.reg.addr i' j') : (s.written r i b v).get f i' j' = s.get f i' j' :=
  get_wrReg_far _ _ _ _ h

@[simp] theorem written_rdReg_far {r' : Reg} {i i' j' : Nat} (h : r.addr i 0 ≠ r'.addr i' j') :
    (s.written r i b v).rdReg r' i' j' = s.rdReg r' i' j' := rdReg_wrReg_far _ _ _ _ h

variable {n n' : Nat} (q : Fin n) (q' : Fin n') (i i' j' : Nat)

@[simp] theorem written_get_fin (h : r.apartFor f.reg n 0 (i' + 1) j' = true) : (s.written r q b v).get f i' j' = s.get f i' j' :=
  get_wrReg_fin _ _ _ _ _ _ _ _ h

@[simp] theorem written_get_at_fin (h : r.apartFor f.reg (i + 1) 0 n j' = true) : (s.written r i b v).get f q j' = s.get f q j' :=
  get_fin_wrReg _ _ _ _ _ _ _ _ h

@[simp] theorem written_get_fin_fin (h : r.apartFor f.reg n 0 n' j' = true) : (s.written r q b v).get f q' j' = s.get f q' j' :=
  get_fin_wrReg_fin _ _ _ _ _ _ _ _ h

end

section
variable (s : State) (r : Reg) (v : Word) (i b : Nat)

@[simp] theorem written_pending : (s.written r i b v).pending = s.pending := rfl
@[simp] theorem written_mem : (s.written r i b v).mem = s.mem := rfl
@[simp] theorem written_poison : (s.written r i b v).poison = s.poison := rfl
@[simp] theorem written_out : (s.written r i b v).out = s.out := rfl
@[simp] theorem written_freeCtr : (s.written r i b v).freeCtr = s.freeCtr := rfl
@[simp] theorem written_timeFrac : (s.written r i b v).timeFrac = s.timeFrac := rfl
@[simp] theorem written_intc : (s.written r i b v).intc = s.intc := rfl
@[simp] theorem written_myk : (s.written r i b v).myk = s.myk := rfl
@[simp] theorem written_hostq : (s.written r i b v).hostq = s.hostq := rfl
@[simp] theorem written_sched : (s.written r i b v).sched = s.sched := rfl
@[simp] theorem written_pmon : (s.written r i b v).pmon = s.pmon := rfl
@[simp] theorem written_hlth : (s.written r i b v).hlth = s.hlth := rfl
@[simp] theorem written_bed : (s.written r i b v).bed = s.bed := rfl
@[simp] theorem written_stch : (s.written r i b v).stch = s.stch := rfl
@[simp] theorem written_ciph : (s.written r i b v).ciph = s.ciph := rfl
@[simp] theorem written_xport : (s.written r i b v).xport = s.xport := rfl
@[simp] theorem written_fab : (s.written r i b v).fab = s.fab := rfl
@[simp] theorem written_time : (s.written r i b v).time = s.time := rfl
@[simp] theorem written_grp : (s.written r i b v).grp = s.grp := rfl
@[simp] theorem written_pho : (s.written r i b v).pho = s.pho := rfl
@[simp] theorem written_boot : (s.written r i b v).boot = s.boot := rfl
@[simp] theorem written_ctl : (s.written r i b v).ctl = s.ctl := rfl

end

/-! ## What a write does beyond its fields, by block -/

section
variable (upd : State → State) (s0 s : State) (r : Reg) (i j : Nat) (v : Word)

@[simp] theorem writeEffect_top : State.writeEffect upd s0 s ⟨r, i, j, 0⟩ v = s0.topWrite s ⟨r, i, j, 0⟩ := rfl
@[simp] theorem writeEffect_intc : State.writeEffect upd s0 s ⟨r, i, j, 1⟩ v = s0.intcWrite s ⟨r, i, j, 1⟩ v.toNat := rfl
@[simp] theorem writeEffect_hostq : State.writeEffect upd s0 s ⟨r, i, j, 2⟩ v = s0.hostqWrite s ⟨r, i, j, 2⟩ v.toNat := rfl
@[simp] theorem writeEffect_sched : State.writeEffect upd s0 s ⟨r, i, j, 3⟩ v = s0.schedWrite s ⟨r, i, j, 3⟩ v.toNat := rfl
@[simp] theorem writeEffect_fab : State.writeEffect upd s0 s ⟨r, i, j, 6⟩ v = s.fabWrite ⟨r, i, j, 6⟩ v.toNat := rfl
@[simp] theorem writeEffect_pho : State.writeEffect upd s0 s ⟨r, i, j, 7⟩ v = s0.phoWrite s ⟨r, i, j, 7⟩ v.toNat := rfl
@[simp] theorem writeEffect_line : State.writeEffect upd s0 s ⟨r, i, j, 8⟩ v = s.lineWrite ⟨r, i, j, 8⟩ v.toNat := rfl
@[simp] theorem writeEffect_xport : State.writeEffect upd s0 s ⟨r, i, j, 9⟩ v = s0.xportWrite s ⟨r, i, j, 9⟩ v.toNat := rfl
@[simp] theorem writeEffect_ciph : State.writeEffect upd s0 s ⟨r, i, j, 10⟩ v = s.ciphWrite ⟨r, i, j, 10⟩ v := rfl
@[simp] theorem writeEffect_bed : State.writeEffect upd s0 s ⟨r, i, j, 11⟩ v = s.bedWrite ⟨r, i, j, 11⟩ v.toNat := rfl
@[simp] theorem writeEffect_stch : State.writeEffect upd s0 s ⟨r, i, j, 12⟩ v = s.stchWrite ⟨r, i, j, 12⟩ v.toNat := rfl
@[simp] theorem writeEffect_purl : State.writeEffect upd s0 s ⟨r, i, j, 13⟩ v = s.purlWrite ⟨r, i, j, 13⟩ v.toNat := rfl
@[simp] theorem writeEffect_time : State.writeEffect upd s0 s ⟨r, i, j, 14⟩ v = s0.timeWrite s ⟨r, i, j, 14⟩ v.toNat := rfl
@[simp] theorem writeEffect_pmon : State.writeEffect upd s0 s ⟨r, i, j, 15⟩ v = s0.pmonWrite s ⟨r, i, j, 15⟩ v.toNat := rfl
@[simp] theorem writeEffect_hlth : State.writeEffect upd s0 s ⟨r, i, j, 16⟩ v = s0.hlthWrite upd s ⟨r, i, j, 16⟩ v.toNat := rfl
@[simp] theorem writeEffect_grp : State.writeEffect upd s0 s ⟨r, i, j, 17⟩ v = s.grpWrite ⟨r, i, j, 17⟩ v.toNat := rfl

end

/-! ## Writes of registers that are no block's CTRL -/

/-- Whether a register is an element of block `b` other than the block's CTRL. -/
def Reg.plainIn (r : Reg) (b : Nat) : Bool := r.mapped && decide (r.base / 0x100000 = b ∧ r.base ≠ (ctrlReg b).base)

theorem storeWord_of_plain {s : State} {r : Reg} {i b : Nat} (v : Word) (hr : r.plainIn b = true) :
    s.storeWord (fun t => t) ⟨r, i, 0, r.base / 0x100000⟩ v = s.writeEffect (fun t => t) (s.written r i b v) ⟨r, i, 0, b⟩ v := by
  simp only [Reg.plainIn, Bool.and_eq_true, decide_eq_true_eq] at hr
  obtain ⟨_, rfl, hne⟩ := hr
  simp only [State.storeWord, hne, and_false, if_false, State.written]

theorem mapped_of_plainIn {r : Reg} {b : Nat} (hr : r.plainIn b = true) : r.mapped = true := by
  simp only [Reg.plainIn, Bool.and_eq_true] at hr
  exact hr.1

section
variable {s t : State} {m : Master} {tag : BitVec 10} {r : Reg} {i b : Nat} {v w : Word} {fs : List (Field × Nat)} {c : Instr}
  {l k : List Part} {p : State → Prop}

/-- A command that is a write which its register takes, with the effect `he` that the register gives it. -/
theorem does_write (b : Nat) (hc : exec c s = .next (s.regCommand m tag r i fs v)) (hf : forced v fs = w) (hr : r.plainIn b = true)
    (hi : i < r.n1) (hw : Writable s m r i w)
    (he : s.writeEffect (fun t => t) (s.written r i b w) ⟨r, i, 0, b⟩ w = ⟨t, 0, false⟩)
    (ht : Goes k (s.written r i b w) t) (hk : within (.csr :: .out :: .intc :: k) l = true)
    (hp : p (t.answered m tag 0 0)) : Does c s l p := by
  subst hf
  have hk' : within [.csr] l = true ∧ within k l = true ∧ within (.out :: .intc :: l) l = true := by
    simp only [within, List.all_cons, List.all_nil, Bool.and_eq_true] at hk ⊢
    exact ⟨⟨hk.1, trivial⟩, hk.2.2.2, hk.2.1, hk.2.2.1, by simp⟩
  exact does_of_done (k := l) hc (mapped_of_plainIn hr) hi hw ((storeWord_of_plain _ hr).trans he)
    (.step (.step .refl written_goes hk'.1) ht hk'.2.1) hk'.2.2 hp

/-- A command that is a write which its register refuses with the reason `n`. -/
theorem does_write_refused {n : Nat} (b : Nat) (hc : exec c s = .next (s.regCommand m tag r i fs v)) (hf : forced v fs = w)
    (hr : r.plainIn b = true) (hi : i < r.n1) (hw : Writable s m r i w) (hn : n ≠ 0)
    (he : s.writeEffect (fun t => t) (s.written r i b w) ⟨r, i, 0, b⟩ w = ⟨t, n, false⟩)
    (ht : Goes k s t) (hk : within (.out :: .intc :: k) l = true) (hp : p (t.answered m tag 1 n)) : Does c s l p := by
  subst hf
  exact does_of_refused hc (mapped_of_plainIn hr) hi hw hn ((storeWord_of_plain _ hr).trans he) ht hk hp

end

end Sys2Proof.Machine

namespace Sys2Proof.Machine
open Csr

/-! ## Arms and cancels of a port (R188, R367) -/

/-- A register access changes no word at the elements of a register that stands apart from the one written. -/
theorem OtherRegs.word {r r' : Reg} {s t : State} {i i' j' : Nat} (h : OtherRegs [r.addr i 0] s t) (ha : r.apart r' = true)
    (hi : i < r.n1) (hn : 0 < r.n2) (hi' : i' < r'.n1) (hj' : j' < r'.n2) : t.rdReg r' i' j' = s.rdReg r' i' j' :=
  h r' i' j' (by simpa using (Reg.addr_ne ha hi hn hi' hj').symm)

/-- Whether a swap may be armed is read from PORT_CM_CTRL itself and from the port's pages, generations and yarns. -/
theorem swapArmOk_of_otherRegs {s t : State} {p : Fin 16} (h : OtherRegs [PORT_CM_CTRL.addr p 0] s t)
    (hc : t.rdReg PORT_CM_CTRL p = s.rdReg PORT_CM_CTRL p) : t.swapArmOk p = s.swapArmOk p := by
  have hword : ∀ r' j, PORT_CM_CTRL.apart r' = true → 16 ≤ r'.n1 → j < r'.n2 → t.rdReg r' p j = s.rdReg r' p j :=
    fun r' j ha hn hj => h.word ha p.isLt (by decide) (p.isLt.trans_le hn) hj
  have hgen : ∀ g, t.txGen p g = s.txGen p g := fun g => by
    simp only [State.txGen, State.get, PORT_CM_GEN.TX_GEN0, PORT_CM_GEN.TX_GEN1, hword PORT_CM_GEN 0 (by decide) (by decide) (by decide)]
  have hslot : ∀ a, ∀ k < 80, t.slotYarn (txPage a) p k = s.slotYarn (txPage a) p k := fun a k hk => by
    have hk' : k / 8 < 10 := by omega
    unfold txPage
    split
    · simp only [State.slotYarn, hword PORT_TXCM0 _ (by decide) (by decide) hk']
    · simp only [State.slotYarn, hword PORT_TXCM1 _ (by decide) (by decide) hk']
  have hyarn : ∀ y, t.yarnOn p y = s.yarnOn p y := fun y => by
    unfold State.yarnOn
    by_cases hy : y < 80
    · rw [hword PORT_YARN (y / 4) (by decide) (by decide) (show y / 4 < 20 by omega)]
    · simp [hy]
  have hact : t.get PORT_CM_CTRL.TX_ACTIVE p = s.get PORT_CM_CTRL.TX_ACTIVE p := by
    simp only [State.get, PORT_CM_CTRL.TX_ACTIVE, hc]
  have harm : t.on PORT_CM_CTRL.SWAP_ARM p = s.on PORT_CM_CTRL.SWAP_ARM p := by
    simp only [State.on, State.get, PORT_CM_CTRL.SWAP_ARM, hc]
  unfold State.swapArmOk
  simp only [hact, harm, hgen, hyarn]
  congr 1
  rw [Bool.eq_iff_iff, List.all_eq_true, List.all_eq_true]
  exact forall₂_congr fun k hk => by rw [hslot _ k (List.mem_range.mp hk)]

theorem swapArmOk_written {s : State} {p : Fin 16} (v : Word) : (s.written PORT_CM_CTRL p 8 v).swapArmOk p = s.swapArmOk p :=
  swapArmOk_of_otherRegs (written_otherRegs s (by simp)) (by simp (disch := decide))

/-! ## Gate lists (R366, R367) -/

theorem inRegion_written {s : State} {r : Reg} {i b : Nat} {v : Word} (h0 : (s.written r i b v).rdReg MEM_SRAM_CFG = s.rdReg MEM_SRAM_CFG)
    (h1 : (s.written r i b v).rdReg MEM_REGION0 = s.rdReg MEM_REGION0) (h2 : (s.written r i b v).rdReg MEM_REGION1 = s.rdReg MEM_REGION1)
    (x a n : Nat) : (s.written r i b v).inRegion x a n = s.inRegion x a n := by
  have hregions : (s.written r i b v).regions = s.regions := by
    simp only [State.regions, State.get, MEM_SRAM_CFG.TABLE_MIB, MEM_REGION0.RETAIN_GIB, MEM_REGION0.SPILL_GIB,
      MEM_REGION1.OPT_GIB, MEM_REGION1.RESID_GIB, h0, h1, h2]
  simp only [State.inRegion, State.regionsOf, hregions]

theorem readGateList_written {s : State} {p : Fin 16} {v : Word} (a : Nat) :
    (s.written GATE_CTRL p 3 v).readGateList a = s.readGateList a := by
  have hword : ∀ r', GATE_CTRL.apartFor r' 16 0 1 0 = true → (s.written GATE_CTRL p 3 v).rdReg r' = s.rdReg r' := fun r' h =>
    rdReg_wrReg_far _ _ _ _ (Reg.addr_ne_of_apartFor h p.isLt (by decide))
  unfold State.readGateList
  simp only [inRegion_written (hword MEM_SRAM_CFG (by decide)) (hword MEM_REGION0 (by decide)) (hword MEM_REGION1 (by decide))]
  rfl

/-- ARM of a port whose standby list is valid, for a time far enough ahead. -/
theorem gateArm_of_list {s : State} {p : Nat} {es : List (Nat × Nat)}
    (hlist : s.readGateList (if s.get GATE_CTRL.ACTIVE_LIST p = 1 then s.get LIST0_ADDR.ADDR p else s.get LIST1_ADDR.ADDR p) = some es)
    (hidle : s.on GATE_CTRL.ARM p = false) (htime : s.now + 100000 ≤ s.get BASE_TIME.TIME p) :
    s.gateArm p = .ok (State.set { s with sched := { s.sched with
      armedGate := assocPut s.sched.armedGate p ⟨es, s.get BASE_TIME.TIME p⟩ } } GATE_CTRL.ARM 1 p) := by
  have hlt : ¬ s.get BASE_TIME.TIME p < s.now + 100000 := by omega
  have hbit : s.get GATE_CTRL.ACTIVE_LIST p < 2 := Nat.mod_lt _ (by decide)
  unfold State.gateArm
  have hstandby : (1 - s.get GATE_CTRL.ACTIVE_LIST p = 0) ↔ s.get GATE_CTRL.ACTIVE_LIST p = 1 := by omega
  simp [hstandby, hlist, hidle, hlt]

theorem gateArm_refused {s : State} {p : Nat}
    (h : s.on GATE_CTRL.ARM p = true ∨ s.get BASE_TIME.TIME p < s.now + 100000 ∨
      (s.readGateList (if s.get GATE_CTRL.ACTIVE_LIST p = 1 then s.get LIST0_ADDR.ADDR p else s.get LIST1_ADDR.ADDR p)).isNone = true) :
    s.gateArm p = .error 0x0303 := by
  have hbit : s.get GATE_CTRL.ACTIVE_LIST p < 2 := Nat.mod_lt _ (by decide)
  have hstandby : (1 - s.get GATE_CTRL.ACTIVE_LIST p = 0) ↔ s.get GATE_CTRL.ACTIVE_LIST p = 1 := by omega
  unfold State.gateArm
  simp only [hstandby]
  cases hlist : s.readGateList (if s.get GATE_CTRL.ACTIVE_LIST p = 1 then s.get LIST0_ADDR.ADDR p else s.get LIST1_ADDR.ADDR p) with
  | none => rfl
  | some es =>
    have hno : s.on GATE_CTRL.ARM p = true ∨ s.get BASE_TIME.TIME p < s.now + 100000 := by simpa [hlist] using h
    simp [hno]

theorem gateReport_sent {s t : State} {p n : Nat} (h : s.out = t.out := by rfl) : Sent s (t.gateReport p n) (.report n) := by
  have hsent := sent_report (s := s) (t := (t.set SCHED_ERR_LOG.REASON n).set SCHED_ERR_LOG.PORT p) n (h ▸ List.prefix_refl _)
  exact hsent.of_goes (raise_goes (f := SCHED_INT_STATUS.GATE) (i := 0))

theorem mem_assocPut {α β : Type} [DecidableEq α] (l : List (α × β)) (k : α) (v : β) : (k, v) ∈ assocPut l k v := by
  induction l with
  | nil => simp [assocPut]
  | cons x r ih =>
    obtain ⟨a, b⟩ := x
    unfold assocPut
    split
    · next h => simp [h]
    · exact List.mem_cons_of_mem _ ih

/-- CANCEL of a port with an armed list whose BASE_TIME has not come. -/
theorem gateCancel_of_armed {s : State} {p : Nat} (h : s.sched.armedGate.any (fun g => g.1 == p) = true)
    (hbase : ∀ g ∈ s.sched.armedGate, g.1 = p → s.now < g.2.base) :
    s.gateCancel p = (State.set { s with sched := { s.sched with armedGate := assocErase s.sched.armedGate p } }
      GATE_CTRL.ARM 0 p).gateReport p 0x0305 := by
  unfold State.gateCancel
  cases hfind : s.sched.armedGate.find? (fun g => g.1 == p) with
  | none =>
    rw [List.find?_eq_none] at hfind
    rw [List.any_eq_true] at h
    obtain ⟨x, hx, hp⟩ := h
    exact absurd hp (hfind x hx)
  | some g =>
    have hp := List.find?_some hfind
    have hlt := hbase g (List.mem_of_find?_eq_some hfind) (by simpa using hp)
    simp [hlt]

/-! ## Reload of table banks -/

theorem testBit_of_bit {v lo : Nat} (h : getBits v lo 1 = 1) : v.testBit lo = true := by
  have hbit := testBit_getBits v lo 1 0
  simpa [h] using hbit.symm

theorem mem_bankReload (s : State) {v b : Nat} (h : v.testBit 7 = true ∧ b < 64 ∨ v.testBit 6 = true ∧ b = v % 64) :
    b ∈ (s.bankReload v).pho.reload := by
  refine List.mem_append_right _ ?_
  rcases h with ⟨hall, hb⟩ | ⟨hone, rfl⟩
  · simp [hall, hb]
  · cases hall : v.testBit 7
    · simp [hone]
    · simp [Nat.mod_lt]

/-! ## Re-steering and handover (R290, R298) -/

theorem quiet_get_far (f : Field) (i : Nat) (us : Nat) (ls : List (Fin 32)) (h : FAB_LINK_STATUS.QUIET.reg.apartFor f.reg 32 0 (i + 1) 0 = true)
    (s : State) : (s.quiet ls us).get f i = s.get f i := by
  unfold State.quiet
  induction ls generalizing s with
  | nil => rfl
  | cons l r ih =>
    rw [List.foldl_cons, ih]
    exact get_set_fin s FAB_LINK_STATUS.QUIET f 1 l 0 i 0 h

@[simp] theorem quiet_pho (s : State) (ls : List (Fin 32)) (us : Nat) : (s.quiet ls us).pho = s.pho := quiet_goes.only .pho rfl

theorem quiet_on (ls : List (Fin 32)) (us : Nat) (s : State) (l : Fin 32) (h : l ∈ ls ∨ s.on FAB_LINK_STATUS.QUIET l = true) :
    (s.quiet ls us).on FAB_LINK_STATUS.QUIET l = true := by
  unfold State.quiet
  induction ls generalizing s with
  | nil => simpa using h
  | cons k r ih =>
    rw [List.foldl_cons]
    apply ih
    by_cases hk : l = k
    · right
      subst hk
      simp [State.on, FAB_LINK_STATUS.QUIET]
    · rcases h with h | h
      · left
        simpa [hk] using h
      · right
        have hne : FAB_LINK_STATUS.QUIET.reg.addr k 0 ≠ FAB_LINK_STATUS.QUIET.reg.addr l 0 := by
          have := fun h => hk (Fin.ext h)
          simp only [FAB_LINK_STATUS.QUIET, FAB_LINK_STATUS, Reg.addr]
          omega
        simpa [State.on, get_set_far _ _ _ _ hne] using h

theorem steerArm_refused {s : State} (h : s.boot.features.testBit 5 = false ∨ s.steerValid (1 - s.get PHO_STEER_CTRL.ACTIVE) = false ∨
    s.on PHO_STATUS.STEERING = true ∨ s.pho.hand.any (fun h => h.announced) = true) :
    s.steerArm = .error (if s.boot.features.testBit 5 then 0x070B else 0x0048) := by
  unfold State.steerArm
  cases hf : s.boot.features.testBit 5
  · rfl
  · have hno : s.steerValid (1 - s.get PHO_STEER_CTRL.ACTIVE) = false ∨ s.on PHO_STATUS.STEERING = true ∨
        s.pho.hand.any (fun h => h.announced) = true := by simpa [hf] using h
    cases hhand : s.pho.hand <;> rcases hno with hno | hno | hno <;> simp_all

/-- The links whose fibre the standby map changes. -/
def State.resteered (s : State) : List (Fin 32) :=
  (List.finRange 32).filter (fun l => s.steerFibre (1 - s.get PHO_STEER_CTRL.ACTIVE) l.val != s.fibre l.val)

/-- The state with a re-steer of `ls` announced. -/
def State.steering (s : State) (ls : List (Fin 32)) : State :=
  let u := (s.set PHO_STATUS.STEERING 1).set PHO_STEER_CTRL.ARM 1
  State.quiet { u with pho := { u.pho with affected := ls } } ls 11

theorem steerArm_of {s : State} (hf : s.boot.features.testBit 5 = true) (hv : s.steerValid (1 - s.get PHO_STEER_CTRL.ACTIVE) = true)
    (hs : s.on PHO_STATUS.STEERING = false) (hh : s.pho.hand.all (fun h => !h.announced) = true) :
    s.steerArm = .ok (s.steering s.resteered) := by
  unfold State.steerArm
  cases hand : s.pho.hand with
  | none => simp [hf, hv, hs, State.steering, State.resteered]
  | some x =>
    have hx : x.announced = false := by simpa [hand] using hh
    simp [hf, hv, hs, hx, State.steering, State.resteered]

theorem steerFibre_written {s : State} {v : Word} (k l : Nat) :
    (s.written PHO_STEER_CTRL 0 7 v).steerFibre k l = s.steerFibre k l :=
  (written_otherRegs (l := [PHO_STEER_CTRL.addr 0 0]) s (by simp)).get (by
    simp only [PHO_STEER, PHO_STEER_CTRL, Reg.addr, List.mem_singleton]
    omega)

theorem resteered_written {s : State} {v : Word} : (s.written PHO_STEER_CTRL 0 7 v).resteered = s.resteered := by
  have hfibre : ∀ l : Fin 32, (s.written PHO_STEER_CTRL 0 7 v).fibre l = s.fibre l := fun l => by
    simp (disch := decide) only [State.fibre, written_get_at_fin]
  have hactive : (s.written PHO_STEER_CTRL 0 7 v).get PHO_STEER_CTRL.ACTIVE = s.get PHO_STEER_CTRL.ACTIVE := by
    simp (disch := decide)
  simp only [State.resteered, hfibre, hactive, steerFibre_written]

theorem steerValid_written {s : State} {v : Word} (k : Nat) :
    (s.written PHO_STEER_CTRL 0 7 v).steerValid k = s.steerValid k := by
  have : (s.written PHO_STEER_CTRL 0 7 v).steerFibre k = s.steerFibre k := funext fun l => steerFibre_written k l
  simp only [State.steerValid, this]

/-- The state with a handover of position `p` to the spare `sp` begun, in the handover state `n`. -/
def State.handingOver (s : State) (p : Fin 8) (sp : Fin 10) (n : Nat) : State :=
  let u : State := { s with pho := { s.pho with hand := some ⟨p, sp, s.sourceAt p, false⟩, warm := s.pho.warm.filter (· ≠ sp.val) } }
  let u := (u.set PHO_CAP.SPARES_FREE (setBit (s.get PHO_CAP.SPARES_FREE) (sp.val - 8) false)).set PHO_SOURCE.STATE 1 sp.val
  let u := (u.set PHO_HANDOVER.STATE n).set PHO_STATUS.HANDOVER 1
  (u.phoLog 0x0706 (4 * p.val) 0 0 sp.val).raise PHO_INT_STATUS.HANDOVER

theorem handoverGo_of {s : State} {p : Nat} {sp : Fin 10} (hc : s.canHandOver = true) (hs : s.freeSpare = some sp) :
    s.handoverGo p = .ok (s.handingOver (Fin.ofNat 8 p) sp (if s.pho.warm.contains sp.val then 2 else 1)) := by
  have hgo := hc
  simp only [State.canHandOver, hs, Bool.and_eq_true, Bool.not_eq_true'] at hc
  obtain ⟨⟨_, hhand⟩, hstop⟩ := hc
  have hno : ¬ (s.pho.hand.isSome ∨ 32 ∈ s.pho.stopped) := by simp_all
  rw [State.handoverGo, if_pos hgo, State.startHandover, if_neg hno, hs]
  rfl

section
variable (s : State) (p : Fin 8) (sp : Fin 10) (n : Nat)

theorem phoLog_otherRegs (a b c d e : Nat) : OtherRegs [PHO_ERR_LOG.addr 0 0] s (s.phoLog a b c d e) := by
  unfold State.phoLog
  refine .andReport (.andSet (.andSet (.andSet (.andSet (.andSet (.andSet .refl ?_) ?_) ?_) ?_) ?_) ?_)
  all_goals exact List.mem_singleton.mpr rfl

@[simp] theorem phoLog_get (a b c d e : Nat) (f : Field) (i j : Nat) (h : PHO_ERR_LOG.addr 0 0 ≠ f.reg.addr i j) :
    (s.phoLog a b c d e).get f i j = s.get f i j :=
  (phoLog_otherRegs s a b c d e).get (by simpa using h.symm)

@[simp] theorem phoLog_pho (a b c d e : Nat) : (s.phoLog a b c d e).pho = s.pho := rfl

theorem handingOver_hand : (s.handingOver p sp n).pho.hand = some ⟨p, sp, s.sourceAt p, false⟩ := by
  simp [State.handingOver, raise_goes.only .pho rfl]

theorem handingOver_state (h : n < 4) : (s.handingOver p sp n).get PHO_HANDOVER.STATE = n := by
  have hfits : n % 2 ^ PHO_HANDOVER.STATE.w = n := Nat.mod_eq_of_lt (h.trans (by decide))
  simp (disch := decide) only [State.handingOver, raise_get, get_set_far, phoLog_get, get_set_mod, hfits]

theorem source_position_written (v : Word) (x : Fin 10) :
    (s.written PHO_HANDOVER 0 7 v).get PHO_SOURCE.POSITION x = s.get PHO_SOURCE.POSITION x :=
  written_get_at_fin _ _ _ _ _ _ _ _ (by decide)

theorem sourceAt_written (v : Word) : (s.written PHO_HANDOVER 0 7 v).sourceAt p = s.sourceAt p := by
  simp only [State.sourceAt, source_position_written]

end

/-- Settles O10: each arm is the write of its register, whose effect either happens or is refused with its reason. -/
theorem armedSwitches : Obligations.ArmedSwitches := by
  unfold Obligations.ArmedSwitches
  refine ⟨?swapArm, ?swapRefused, ?swapCancel, ?gateArm, ?gateRefused, ?gateCancel, ?epoch, ?epochRefused, ?reload, ?steer,
    ?steerRefused, ?handover, ?handoverRefused⟩
  case swapArm =>
    intro s m tag p v
    generalize hf : forced v _ = w
    dsimp only
    rintro ⟨hw, hcancel, hok⟩
    have harm : PORT_CM_CTRL.SWAP_ARM.of w.toNat = 1 := hf ▸ of_forced v _ 1 (by decide)
    refine does_write 8 (t := (s.written PORT_CM_CTRL p 8 w).set PORT_CM_CTRL.SWAP_ARM 1 p) rfl hf (by decide) p.isLt hw ?_ set_goes
      (by decide) ⟨?_, ?_, answered_answers _ _ _ _ _⟩
    · simp [State.lineWrite, State.swapArm, harm, hcancel, swapArmOk_written, hok]
    · simp (disch := decide) [State.on]
    · exact answered_otherRegs _ _ _ _ _ ((written_otherRegs s (by simp)).trans (.set _ _ _ (by simp [PORT_CM_CTRL.SWAP_ARM])))
  case swapRefused =>
    intro s m tag p v
    generalize hf : forced v _ = w
    dsimp only
    rintro ⟨hw, hcancel, hok⟩
    have harm : PORT_CM_CTRL.SWAP_ARM.of w.toNat = 1 := hf ▸ of_forced v _ 1 (by decide)
    refine does_write_refused 8 (t := (s.written PORT_CM_CTRL p 8 w).portRefuse p 0x080B) rfl hf (by decide) p.isLt hw (by decide) ?_
      (.step (.step .refl written_goes (by decide)) portRefuse_goes (l := [.csr, .out, .intc]) (by decide)) (by decide)
      ⟨?_, ?_, answered_answers _ _ _ _ _⟩
    · simp [State.lineWrite, State.swapArm, harm, hcancel, swapArmOk_written, hok]
    · simp (disch := decide) [State.on, State.portRefuse, State.portLog, State.raisePort]
    · simp (disch := decide) [State.portRefuse, State.portLog, State.raisePort]
  case swapCancel =>
    intro s m tag p v
    generalize hf : forced v _ = w
    dsimp only
    rintro ⟨hw, harm⟩
    have hcancel : PORT_CM_CTRL.SWAP_CANCEL.of w.toNat = 1 := hf ▸ of_forced v _ 1 (by decide)
    refine does_write 8 (t := (s.written PORT_CM_CTRL p 8 w).swapCancel p) rfl hf (by decide) p.isLt hw ?_ swapCancel_goes (by decide)
      ⟨?_, ?_, answered_answers _ _ _ _ _⟩
    · simp [State.lineWrite, harm, hcancel]
    · simp (disch := decide) [State.on, State.swapCancel]
    · exact answered_otherRegs _ _ _ _ _ ((written_otherRegs s (by simp)).trans (.set _ _ _ (by simp [PORT_CM_CTRL.SWAP_ARM])))
  case gateArm =>
    intro s m tag p v es
    generalize hf : forced v _ = w
    dsimp only
    rintro ⟨hw, hcancel, hidle⟩ hlist htime
    have harm : GATE_CTRL.ARM.of w.toNat = 1 := hf ▸ of_forced v _ 1 (by decide)
    have hok := gateArm_of_list (s := s.written GATE_CTRL p 3 w) (p := p) (es := es) (by simpa (disch := decide) [readGateList_written] using hlist)
      (by simpa (disch := decide) [State.on] using hidle) (by simpa (disch := decide) [State.now] using htime)
    refine does_write 3 rfl hf (by decide) p.isLt hw ?_ (gateArm_goes.of hok) (by decide) ⟨?_, ?_, ?_, answered_answers _ _ _ _ _⟩
    · simp [State.schedWrite, harm, hcancel, hok]
    · simp (disch := decide) [State.on]
    · exact List.contains_iff_mem.mpr (by simpa (disch := decide) [State.answered] using mem_assocPut _ _ _)
    · exact answered_otherRegs _ _ _ _ _
        (.andSet (.andCsr (s := s.written GATE_CTRL p 3 w) (written_otherRegs s (by simp)) rfl) (by simp [GATE_CTRL.ARM]))
  case gateRefused =>
    intro s m tag p v
    generalize hf : forced v _ = w
    dsimp only
    rintro ⟨hw, hcancel⟩ hno
    have harm : GATE_CTRL.ARM.of w.toNat = 1 := hf ▸ of_forced v _ 1 (by decide)
    have hno' := gateArm_refused (s := s.written GATE_CTRL p 3 w) (p := p)
      (by simpa (disch := decide) [readGateList_written, State.on, State.now] using hno)
    refine does_write_refused 3 rfl hf (by decide) p.isLt hw (by decide) (n := 0x0303)
      (t := (s.written GATE_CTRL p 3 w).gateReport p 0x0303) ?_
      (.step (.step .refl written_goes (by decide)) gateReport_goes (l := [.csr, .out, .intc]) (by decide)) (by decide)
      ⟨?_, ?_, answered_answers _ _ _ _ _⟩
    · simp [State.schedWrite, harm, hcancel, hno']
    · simp (disch := decide) [State.on, State.gateReport]
    · simp (disch := decide) [State.gateReport]
  case gateCancel =>
    intro s m tag p v
    generalize hf : forced v _ = w
    dsimp only
    rintro ⟨hw, harm, hany⟩ hbase
    have hcancel : GATE_CTRL.CANCEL.of w.toNat = 1 := hf ▸ of_forced v _ 1 (by decide)
    have hbefore : ∀ g ∈ s.sched.armedGate, g.1 = p.val → s.now < g.2.base := fun g hg hp => by
      simpa [hp] using List.all_eq_true.mp hbase g hg
    have hok := gateCancel_of_armed (s := s.written GATE_CTRL p 3 w) (p := p) (by simpa using hany)
      (by simpa (disch := decide) only [State.now, written_sched, written_get_fin] using hbefore)
    refine does_write 3 rfl hf (by decide) p.isLt hw (t := (s.written GATE_CTRL p 3 w).gateCancel p) ?_ gateCancel_goes (by decide)
      ⟨?_, ?_, ?_, answered_answers _ _ _ _ _⟩
    · simp [State.schedWrite, harm, hcancel]
    · simp (disch := decide) [hok, State.on, State.gateReport]
    · simp [hok, State.gateReport, State.answered, assocErase]
    · rw [hok]
      exact (gateReport_sent (s := s)).of_goes (answered_goes _ _ _ _ _)
  case epoch =>
    intro s m tag v
    generalize hf : forced v _ = w
    rintro ⟨hw, hdrain, hready⟩
    have harm : FAB_EPOCH.ARM.of w.toNat = 1 := hf ▸ of_forced v _ 1 (by decide)
    have hok : (s.written FAB_EPOCH 0 6 w).epochArm = .ok (((((s.written FAB_EPOCH 0 6 w).set FAB_EPOCH.EPOCH
        ((s.get FAB_EPOCH.EPOCH + 1) % 4)).set FAB_STATUS.DRAINING 1).relink (fun _ => true)).drainUpdate) := by
      unfold State.on at hdrain hready
      simp (disch := decide) [State.epochArm, State.on, hdrain, hready]
    refine does_write 6 rfl hf (by decide) (by decide) hw ?_ (epochArm_goes.of hok) (by decide) ⟨?_, ?_, ?_, answered_answers _ _ _ _ _⟩
    · simp [State.fabWrite, harm, hok, Wr.of]
    · simp (disch := decide) [State.drainUpdate, State.relink]
      rfl
    · simp (disch := decide) [State.drainUpdate, State.relink, State.on]
    · refine answered_otherRegs _ _ _ _ _ (.andSet (.andGoes (.andSet (.andSet (written_otherRegs s ?_) ?_) ?_) relink_goes ?_) ?_)
      all_goals decide
  case epochRefused =>
    intro s m tag v
    generalize hf : forced v _ = w
    rintro hw hno
    have harm : FAB_EPOCH.ARM.of w.toNat = 1 := hf ▸ of_forced v _ 1 (by decide)
    have hrefuse : (s.written FAB_EPOCH 0 6 w).epochArm = .error 0x060D := by
      unfold State.epochArm
      rw [if_pos (by simpa (disch := decide) [State.on] using hno)]
    refine does_write_refused 6 rfl hf (by decide) (by decide) hw (by decide) (n := 0x060D) (t := s.written FAB_EPOCH 0 6 w) ?_
      written_goes (by decide) ⟨?_, answered_answers _ _ _ _ _⟩
    · simp [State.fabWrite, harm, hrefuse, Wr.of]
    · simp (disch := decide)
  case reload =>
    intro s m tag v
    generalize hf : forced v _ = w
    dsimp only
    rintro hw
    have hbit : w.toNat.testBit 6 = true := testBit_of_bit (hf ▸ of_forced v PHO_TABLE_CMD.RELOAD 1 (by decide))
    refine does_write 7 rfl hf (by decide) (by decide) hw (t := (s.written PHO_TABLE_CMD 0 7 w).bankReload w.toNat) ?_
      bankReload_goes (by decide) ⟨?_, ?_, ?_, answered_answers _ _ _ _ _⟩
    · rfl
    · rw [answered_pho]
      exact mem_bankReload _ (.inr ⟨hbit, by rfl⟩)
    · intro hall
      refine List.all_eq_true.mpr fun b hb => List.contains_iff_mem.mpr ?_
      rw [answered_pho]
      exact mem_bankReload (s.written PHO_TABLE_CMD 0 7 w) (.inl ⟨testBit_of_bit hall, List.mem_range.mp hb⟩)
    · exact answered_otherRegs _ _ _ _ _ (.andGoes (written_otherRegs s (by decide)) bankReload_goes (by decide))
  case steer =>
    intro s m tag v
    generalize hf : forced v _ = w
    dsimp only
    rintro ⟨hw, hfeat, hvalid⟩ ⟨hidle, hhand⟩
    have harm : PHO_STEER_CTRL.ARM.of w.toNat = 1 := hf ▸ of_forced v _ 1 (by decide)
    have hactive : (s.written PHO_STEER_CTRL 0 7 w).get PHO_STEER_CTRL.ACTIVE = s.get PHO_STEER_CTRL.ACTIVE := by
      simp (disch := decide)
    have hok := steerArm_of (s := s.written PHO_STEER_CTRL 0 7 w) hfeat (by rwa [hactive, steerValid_written])
      (by simpa (disch := decide) [State.on] using hidle) hhand
    rw [resteered_written] at hok
    refine does_write 7 rfl hf (by decide) (by decide) hw ?_ (steerArm_goes.of hok) (by decide) ⟨?_, ?_, ?_, ?_, answered_answers _ _ _ _ _⟩
    · simp [State.phoWrite, harm, hok, Wr.of, (by decide : PHO_STEER_CTRL.base ≠ PHO_STEER.base)]
    · simp (disch := decide) [State.steering, State.on, quiet_get_far]
    · simp (disch := decide) [State.steering, State.on, quiet_get_far]
    · rw [answered_pho, State.steering, quiet_pho, State.resteered]
    · rw [answered_pho, State.steering, quiet_pho]
      refine List.all_eq_true.mpr fun l hl => ?_
      rw [answered_on]
      exact quiet_on _ _ _ _ (.inl hl)
  case steerRefused =>
    intro s m tag v
    generalize hf : forced v _ = w
    rintro hw hno
    have harm : PHO_STEER_CTRL.ARM.of w.toNat = 1 := hf ▸ of_forced v _ 1 (by decide)
    have hactive : (s.written PHO_STEER_CTRL 0 7 w).get PHO_STEER_CTRL.ACTIVE = s.get PHO_STEER_CTRL.ACTIVE := by
      simp (disch := decide)
    have hsteering : (s.written PHO_STEER_CTRL 0 7 w).on PHO_STATUS.STEERING = s.on PHO_STATUS.STEERING := by
      simp (disch := decide) [State.on]
    have hrefuse := steerArm_refused (s := s.written PHO_STEER_CTRL 0 7 w) (by
      rw [hactive, steerValid_written, hsteering]
      exact hno)
    refine does_write_refused 7 rfl hf (by decide) (by decide) hw (n := if s.boot.features.testBit 5 then 0x070B else 0x0048)
      (t := s.written PHO_STEER_CTRL 0 7 w) (by split <;> decide) ?_ written_goes (by decide) ⟨?_, answered_answers _ _ _ _ _⟩
    · simp [State.phoWrite, harm, hrefuse, Wr.of, (by decide : PHO_STEER_CTRL.base ≠ PHO_STEER.base)]
      rfl
    · simpa using hsteering
  case handover =>
    intro s m tag v sp
    generalize hf : forced v _ = w
    dsimp only
    rintro ⟨hw, hcan, hspare⟩
    have hgo : PHO_HANDOVER.GO.of w.toNat = 1 := hf ▸ of_forced v _ 1 (by decide)
    have hspare' : (s.written PHO_HANDOVER 0 7 w).freeSpare = some sp := by
      simpa (disch := decide) [State.freeSpare] using hspare
    have hok := handoverGo_of (s := s.written PHO_HANDOVER 0 7 w) (p := PHO_HANDOVER.POSITION.of w.toNat) (by
      simpa [State.canHandOver, hspare, hspare'] using hcan) hspare'
    refine does_write 7 rfl hf (by decide) (by decide) hw ?_ (handoverGo_goes.of hok) (by decide) ⟨?_, ?_, ?_, ?_, answered_answers _ _ _ _ _⟩
    · simp [State.phoWrite, hgo, hok, Wr.of, (by decide : PHO_HANDOVER.base ≠ PHO_STEER.base),
        (by decide : PHO_HANDOVER.base ≠ PHO_STEER_CTRL.base), (by decide : PHO_HANDOVER.base ≠ PHO_TABLE_CMD.base)]
    · rw [answered_pho, handingOver_hand, sourceAt_written]
    · rw [answered_get, handingOver_state _ _ _ _ (by split <;> decide)]
      rfl
    · simp (disch := decide) [State.handingOver, State.on]
    · simp (disch := decide) [State.handingOver, State.on]
  case handoverRefused =>
    intro s m tag v
    generalize hf : forced v _ = w
    rintro ⟨hw, hno⟩
    have hgo : PHO_HANDOVER.GO.of w.toNat = 1 := hf ▸ of_forced v _ 1 (by decide)
    have hno' : (s.written PHO_HANDOVER 0 7 w).canHandOver = false := by
      simpa (disch := decide) [State.canHandOver, State.freeSpare] using hno
    refine does_write_refused 7 rfl hf (by decide) (by decide) hw (by decide) (n := 0x0709) (t := s.written PHO_HANDOVER 0 7 w) ?_
      written_goes (by decide) (answered_answers _ _ _ _ _)
    simp [State.phoWrite, hgo, Wr.of, State.handoverGo, hno', (by decide : PHO_HANDOVER.base ≠ PHO_STEER.base),
      (by decide : PHO_HANDOVER.base ≠ PHO_STEER_CTRL.base), (by decide : PHO_HANDOVER.base ≠ PHO_TABLE_CMD.base)]

end Sys2Proof.Machine

namespace Sys2Proof.Machine
open Csr

/-! ## The time servo (R378 to R380, R386, R387) -/

theorem Does.of_goes {c : Instr} {s t : State} {l : List Part} {p : State → Prop} (hc : exec c s = .next t) (h : Goes l s t)
    (hp : p t) : Does c s l p := ⟨t, hc, h.only, hp⟩

section
variable {l : List Nat} {a s : State}

theorem OtherRegs.andTimeLog {n u : Nat} (h : OtherRegs l a s) (w : TIME_ERR_LOG.addr 0 0 ∈ l) : OtherRegs l a (s.timeLog n u) := by
  unfold State.timeLog
  exact .andReport (.andSet (.andSet (.andSet h w) w) w)

theorem OtherRegs.andServo {n : Nat} (h : OtherRegs l a s) (w : TIME_STATUS.addr 0 0 ∈ l) : OtherRegs l a (s.servo n) := h.andSet w

theorem OtherRegs.andPutInc {n : Int} (h : OtherRegs l a s) (w : TIME_INC.addr 0 0 ∈ l) : OtherRegs l a (s.putInc n) := h.andSet w

end

@[simp] theorem timeLog_get (s : State) (n u : Nat) (f : Field) (h : TIME_ERR_LOG.addr 0 0 ≠ f.reg.addr 0 0) :
    (s.timeLog n u).get f = s.get f :=
  (OtherRegs.andTimeLog (l := [TIME_ERR_LOG.addr 0 0]) .refl (by simp)).get (by simpa using h.symm)

theorem timeLog_sent {l : List Part} {s a : State} (n u : Nat) (h : Goes l a s) : Sent a (s.timeLog n u) (.report n) := by
  unfold State.timeLog
  exact sent_report n (((h.out.trans set_goes.out).trans set_goes.out).trans set_goes.out)

theorem timeLog_reason (s : State) (n u : Nat) (h : n < 2 ^ 16) : (s.timeLog n u).get TIME_ERR_LOG.REASON = n := by
  have hfits : n % 2 ^ TIME_ERR_LOG.REASON.w = n := Nat.mod_eq_of_lt h
  simp (disch := decide) only [State.timeLog, get_report, get_set_beside, get_set_mod, hfits]

@[simp] theorem timeLog_time (s : State) (n u : Nat) : (s.timeLog n u).time = s.time := rfl
@[simp] theorem raise_time (s : State) (f : Field) (i : Nat) : (s.raise f i).time = s.time := raise_goes.only .time rfl
@[simp] theorem servo_time (s : State) (n : Nat) : (s.servo n).time = s.time := rfl
@[simp] theorem putInc_time (s : State) (n : Int) : (s.putInc n).time = s.time := rfl

theorem ofSigned_lt (w : Nat) (x : Int) : ofSigned w x < 2 ^ w := by
  have hpos : (0 : Int) < (2 ^ w : Nat) := by positivity
  have hlt := Int.emod_lt_of_pos x hpos
  unfold ofSigned
  omega

theorem holding_goes {s : State} (cause : Nat) : Goes [.csr, .time] s
    ((State.servo { s with time := { s.time with cause := cause, reacquire := false } } 3).putInc (-s.integ)) := by
  refine .step (.step (.time .refl (by decide)) servo_goes (by decide)) putInc_goes (by decide)

/-- What entering HOLDOVER leaves: the servo state, the increment, the cause, the interrupt and the report. -/
theorem holdover_entered {s : State} (cause : Nat) (h : s.get TIME_STATUS.SERVO_STATE ∈ [1, 2]) :
    let t := s.holdover cause
    t.get TIME_STATUS.SERVO_STATE = 3 ∧ t.time.cause = cause ∧ t.get TIME_INC.INC = ofSigned 48 ((s.get TIME_INC_NOM.INC : Int) - s.integ) ∧
      t.on TIME_INT_STATUS.HOLDOVER = true ∧ Sent s t (.report 0x0E04) ∧ t.time.outliers = s.time.outliers := by
  have hst : s.get TIME_STATUS.SERVO_STATE = 1 ∨ s.get TIME_STATUS.SERVO_STATE = 2 := by simpa using h
  have hinc : ∀ x, ofSigned 48 x % 2 ^ TIME_INC.INC.w = ofSigned 48 x := fun x => Nat.mod_eq_of_lt (ofSigned_lt 48 x)
  dsimp only
  rw [State.holdover, if_pos hst]
  refine ⟨?_, ?_, ?_, ?_, ?_, ?_⟩
  · simp (disch := decide) [State.servo, State.putInc]
  · simp
  · simp (disch := decide) only [raise_get, get_set_far, timeLog_get, State.putInc, get_set_mod, hinc, State.servo, sub_eq_add_neg,
      get_update]
    rfl
  · simp (disch := decide) [State.on]
  · exact .of_goes (timeLog_sent 0x0E04 0 (holding_goes cause)) raise_goes
  · simp

/-- Outside ACQUIRE and LOCKED the servo does not enter HOLDOVER. -/
theorem holdover_idle {s : State} (cause : Nat) (h : s.get TIME_STATUS.SERVO_STATE ∉ [1, 2]) : s.holdover cause = s := by
  have hst : ¬ (s.get TIME_STATUS.SERVO_STATE = 1 ∨ s.get TIME_STATUS.SERVO_STATE = 2) := by simpa using h
  rw [State.holdover, if_neg hst]

theorem holdover_otherRegs (s : State) (cause : Nat) :
    OtherRegs [TIME_STATUS.addr 0 0, TIME_INC.addr 0 0, TIME_ERR_LOG.addr 0 0, TIME_INT_STATUS.addr 0 0] s (s.holdover cause) := by
  unfold State.holdover
  dsimp only
  split
  · refine .andRaise (.andTimeLog (.andPutInc (.andServo (.of_csr (by rfl)) ?_) ?_) ?_) ?_
    all_goals decide
  · exact .refl

theorem holdover_refLost (s : State) (cause : Nat) :
    (s.holdover cause).get TIME_STATUS.REF_LOST = s.get TIME_STATUS.REF_LOST := by
  unfold State.holdover
  dsimp only
  split
  · simp (disch := decide) [State.servo, State.putInc]
  · rfl

theorem fromSecond_csr (s : State) (x : Nat) : (s.fromSecond x).2.csr = s.csr := (fromSecond_goes (s := s) (t := x)).only .csr rfl

@[simp] theorem fromSecond_get (s : State) (x : Nat) (f : Field) (i j : Nat) : (s.fromSecond x).2.get f i j = s.get f i j :=
  get_congr (fromSecond_csr s x) f i j

theorem outlier_outliers (s : State) : s.outlier.time.outliers = s.time.outliers + 1 := by
  unfold State.outlier
  dsimp only
  split
  · rw [raise_time, timeLog_time]
    by_cases h : State.get { s with time := { s.time with outliers := s.time.outliers + 1 } } TIME_STATUS.SERVO_STATE ∈ [1, 2]
    · obtain ⟨-, -, -, -, -, hout⟩ := holdover_entered 2 h
      exact hout
    · rw [holdover_idle 2 h]
  · rfl

theorem holdover_pps (s : State) (cause : Nat) :
    (s.holdover cause).get TIME_INT_STATUS.PPS = s.get TIME_INT_STATUS.PPS := by
  unfold State.holdover
  dsimp only
  split
  · simp (disch := decide) [State.servo, State.putInc]
  · rfl

theorem outlier_pps (s : State) : s.outlier.get TIME_INT_STATUS.PPS = s.get TIME_INT_STATUS.PPS := by
  unfold State.outlier
  dsimp only
  split
  · simp (disch := decide) [holdover_pps]
  · rfl

theorem outlier_otherRegs (s : State) :
    OtherRegs [TIME_STATUS.addr 0 0, TIME_INC.addr 0 0, TIME_ERR_LOG.addr 0 0, TIME_INT_STATUS.addr 0 0] s s.outlier := by
  unfold State.outlier
  dsimp only
  split
  · exact .andRaise (.andTimeLog ((OtherRegs.of_csr (by rfl)).trans (holdover_otherRegs _ 2)) (by decide)) (by decide)
  · exact .of_csr rfl

theorem exec_ppsInEdge_far {s : State} {ns : Nat} (hsource : s.timeSource = 2) (hservo : s.get TIME_STATUS.SERVO_STATE = 2)
    (hns : (s.get TIME_NOW.NS + 2 ^ 64 - s.get TIME_PPS_CFG.IN_COMP_NS) % 2 ^ 64 = ns)
    (hfar : 1000 * 2 ^ 16 < (((s.set TIME_PPS_IN.NS ns).fromSecond ns).1 * 2 ^ 16 - s.time.oPred).natAbs) :
    exec (.ppsInEdge (s.on TIME_PPS_CFG.IN_FALLING)) s = .next (((((s.set TIME_PPS_IN.NS ns).fromSecond ns).2.set
      TIME_LAST_OFFSET.OFFSET (ofSigned 64 (((s.set TIME_PPS_IN.NS ns).fromSecond ns).1 * 2 ^ 16))).ppsBad).outlier) := by
  have hreg := fun f => fromSecond_get (s.set TIME_PPS_IN.NS ns) ns f
  have htime : ((s.set TIME_PPS_IN.NS ns).fromSecond ns).2.time = s.time := fromSecond_goes.only .time rfl
  have hsource' : ((s.set TIME_PPS_IN.NS ns).fromSecond ns).2.timeSource = 2 := by
    rw [← hsource]
    simp (disch := decide) [State.timeSource, State.on, hreg]
  have hservo' : ((s.set TIME_PPS_IN.NS ns).fromSecond ns).2.get TIME_STATUS.SERVO_STATE = 2 := by
    rw [hreg, ← hservo]
    simp (disch := decide)
  change execPpsInEdge _ s = _
  unfold execPpsInEdge
  rw [if_neg (not_not.mpr rfl)]
  simp only [State.now, hns, htime]
  rw [if_pos ⟨hsource', hservo', hfar⟩]

/-- Settles O13: the holds of the servo and the edges of REFCLK and 1PPS. -/
theorem timeEvents : Obligations.TimeEvents := by
  unfold Obligations.TimeEvents
  refine ⟨?holdTimeout, ?lost, ?restored, ?edgeFar, ?edgeOther, ?edgeKind, ?missing, ?out⟩
  case holdTimeout =>
    intro s h
    obtain ⟨hservo, hcause, hinc, hint, hsent, _⟩ := holdover_entered 1 h
    exact .of_goes rfl holdover_goes ⟨hservo, hcause, hinc, hint, hsent⟩
  case lost =>
    intro s
    have hservo : ((s.set TIME_STATUS.REF_LOST 1).holdover 3).get TIME_STATUS.SERVO_STATE =
        if s.get TIME_STATUS.SERVO_STATE ∈ [1, 2] then 3 else s.get TIME_STATUS.SERVO_STATE := by
      have hsame : (s.set TIME_STATUS.REF_LOST 1).get TIME_STATUS.SERVO_STATE = s.get TIME_STATUS.SERVO_STATE := by
        simp (disch := decide)
      split
      · next h => exact (holdover_entered 3 (by rwa [hsame])).1
      · next h => rw [holdover_idle 3 (by rwa [hsame]), hsame]
    have hgoes : Goes [.csr, .out, .intc, .time] s ((s.set TIME_STATUS.REF_LOST 1).holdover 3) :=
      .step (.step .refl set_goes (by decide)) holdover_goes (by decide)
    refine .of_goes rfl (GoesNext.of rfl execRefclkLost_goes) ⟨?_, ?_, ?_, ?_⟩
    · simp (disch := decide) [State.on, holdover_refLost]
    · simp (disch := decide) [State.on]
    · exact .of_goes (timeLog_sent 0x0E03 0 hgoes) raise_goes
    · simp (disch := decide) [hservo]
  case restored =>
    intro s
    refine .of_goes rfl (.step (.step (.step .refl set_goes (by decide)) report_goes (by decide)) raise_goes (by decide))
      ⟨?_, ?_, ?_, ?_⟩
    · simp (disch := decide) [State.on]
    · simp (disch := decide) [State.on]
    · exact .of_goes (sent_report 0x0E0B set_goes.out) raise_goes
    · exact .andRaise (.andReport (.andSet .refl (by decide))) (by decide)
  case edgeFar =>
    intro s f
    generalize hns : (s.get TIME_NOW.NS + 2 ^ 64 - s.get TIME_PPS_CFG.IN_COMP_NS) % 2 ^ 64 = ns
    dsimp only
    rintro ⟨hf, hsource, hservo⟩ hfar
    have hgoes : Goes [.freeCtr] (s.set TIME_PPS_IN.NS ns) ((s.set TIME_PPS_IN.NS ns).fromSecond ns).2 := fromSecond_goes
    have hreg := fun f => fromSecond_get (s.set TIME_PPS_IN.NS ns) ns f
    have hexec := exec_ppsInEdge_far hsource hservo hns hfar
    subst hf
    generalize ((s.set TIME_PPS_IN.NS ns).fromSecond ns).1 * 2 ^ 16 = o at hexec ⊢
    generalize hu : ((s.set TIME_PPS_IN.NS ns).fromSecond ns).2 = u at hexec hgoes hreg
    have hto : Goes [.csr, .freeCtr] s (u.set TIME_LAST_OFFSET.OFFSET (ofSigned 64 o)) :=
      .step (.step (.step .refl set_goes (by decide)) hgoes (by decide)) set_goes (by decide)
    refine .of_goes hexec (.step (.step (.step .refl hto (by decide)) ppsBad_goes (by decide)) outlier_goes (by decide)) ⟨?_, ?_, ?_, ?_, ?_⟩
    · rw [(outlier_otherRegs _).get (by decide)]
      simp (disch := decide) [State.ppsBad, hreg]
      exact Nat.mod_eq_of_lt (hns ▸ Nat.mod_lt _ (by decide))
    · rw [(outlier_otherRegs _).get (by decide)]
      simp (disch := decide) [State.ppsBad, hreg]
      exact Nat.mod_eq_of_lt (ofSigned_lt 64 o)
    · rw [State.on, outlier_pps]
      simp (disch := decide) [State.ppsBad]
    · exact .of_goes (.of_goes (timeLog_sent 0x0E08 0 hto) raise_goes) outlier_goes
    · rw [outlier_outliers, State.ppsBad, raise_time, timeLog_time]
      have htime : u.time = s.time := hgoes.only .time rfl
      rw [← htime, set_goes.only .time rfl]
  case edgeOther =>
    intro s f ⟨hf, hsource⟩
    generalize hns : (s.get TIME_NOW.NS + 2 ^ 64 - s.get TIME_PPS_CFG.IN_COMP_NS) % 2 ^ 64 = ns
    have hgoes : Goes [.freeCtr] (s.set TIME_PPS_IN.NS ns) ((s.set TIME_PPS_IN.NS ns).fromSecond ns).2 := fromSecond_goes
    have hreg := fun f => fromSecond_get (s.set TIME_PPS_IN.NS ns) ns f
    have hother : ((s.set TIME_PPS_IN.NS ns).fromSecond ns).2.timeSource ≠ 2 := by
      refine fun h => hsource (h ▸ ?_)
      simp (disch := decide) [State.timeSource, State.on, hreg]
    have hexec : exec (.ppsInEdge f) s = .next (((s.set TIME_PPS_IN.NS ns).fromSecond ns).2.set TIME_LAST_OFFSET.OFFSET
        (ofSigned 64 (((s.set TIME_PPS_IN.NS ns).fromSecond ns).1 * 2 ^ 16))) := by
      change execPpsInEdge f s = _
      have hother' : ∀ o, (((s.set TIME_PPS_IN.NS ns).fromSecond ns).2.set TIME_LAST_OFFSET.OFFSET o).timeSource ≠ 2 := by
        simpa (disch := decide) [State.timeSource, State.on] using hother
      simp only [execPpsInEdge, hf, ne_eq, not_true, if_false, State.now, hns, hother, false_and, State.offsetSample, hother']
    refine .of_goes hexec (.step (.step (.step .refl set_goes (by decide)) hgoes (by decide)) set_goes (by decide)) ⟨?_, ?_⟩
    · simp (disch := decide) [hreg]
      exact Nat.mod_eq_of_lt (hns ▸ Nat.mod_lt _ (by decide))
    · exact .andSet (.andGoes (.andSet .refl (by decide)) hgoes (by decide)) (by decide)
  case edgeKind =>
    intro s f hf
    exact if_pos hf
  case missing =>
    intro s
    refine ⟨if s.timeSource = 2 then s.ppsBad else s, ?_, ?_, ?_, fun h => if_neg h⟩
    · change execPpsEdgeMissing s = _
      unfold execPpsEdgeMissing
      split <;> rfl
    · split
      · exact ppsBad_goes.only
      · exact Goes.refl.only
    · intro h
      rw [if_pos h]
      refine ⟨?_, ?_, ?_⟩
      · simp (disch := decide) [State.ppsBad, State.on]
      · simp (disch := decide) [State.ppsBad, timeLog_reason]
      · exact .of_goes (timeLog_sent 0x0E08 0 (Goes.refl (l := []))) raise_goes
  case out =>
    intro s
    exact .of_goes rfl (.time .refl rfl) rfl

end Sys2Proof.Machine

namespace Sys2Proof.Machine
open Csr

/-! ## Fields of a register that holds an ENABLE -/

/-- A field above bit 0 of a register with its own ENABLE takes its value as in any other register. -/
theorem get_merge_stored_above (s : State) (f : Field) (r : Reg) (i j b : Nat) (v : Word) (h : (f.storedBy r && decide (1 ≤ f.lo)) = true) :
    (s.wrReg r (Hit.merge ⟨r, i, j, b⟩ (s.rdReg r i j) v) i j).get f i j = f.of v.toNat := by
  simp only [Field.storedBy, Bool.and_eq_true, beq_iff_eq, decide_eq_true_eq, List.all_eq_true, List.any_eq_true, Bool.or_eq_true] at h
  obtain ⟨⟨⟨⟨rfl, hf⟩, hex⟩, hd⟩, hlo⟩ := h
  have hputs := puts_stored (i := i) (v := v) hf (fun x hx => by simpa [and_assoc, or_assoc] using hd x hx)
    (by simpa [and_assoc] using hex) (s.rdReg f.reg i j)
  simp only [State.get, rdReg_wrReg_same, Hit.merge, Field.of]
  split
  · rw [getBits_setBits_other _ _ _ _ _ _ (by decide) hf (by omega)]
    exact hputs
  · exact hputs

/-- A write leaves the ENABLE of a register that has its own as it stood. -/
theorem get_merge_enable (s : State) (r : Reg) (i j b : Nat) (v : Word) (h : ownEnable r b = true) :
    (s.wrReg r (Hit.merge ⟨r, i, j, b⟩ (s.rdReg r i j) v) i j).get ⟨r, 0, 1⟩ i j = s.get ⟨r, 0, 1⟩ i j := by
  simp only [State.get, rdReg_wrReg_same, Hit.merge, h, if_true]
  rw [getBits_setBits_same _ _ _ _ (by decide)]
  exact Nat.mod_eq_of_lt (Nat.mod_lt _ (by decide))

/-! ## Writes of a block's CTRL -/

theorem written_get_enable (s : State) {r : Reg} {b : Nat} (v : Word) (i : Nat) (h : ownEnable r b = true) :
    (s.written r i b v).get ⟨r, 0, 1⟩ i = s.get ⟨r, 0, 1⟩ i := get_merge_enable _ _ _ _ _ _ h

@[simp] theorem written_get_stored_above (s : State) {f : Field} {r : Reg} {b : Nat} (v : Word) (i : Nat)
    (h : (f.storedBy r && decide (1 ≤ f.lo)) = true) : (s.written r i b v).get f i = f.of v.toNat :=
  get_merge_stored_above _ _ _ _ _ _ _ h

/-- Whether a register is the CTRL of block `b`. -/
def Reg.ctrlOf (r : Reg) (b : Nat) : Bool := r.mapped && decide (r = ctrlReg b ∧ r.base / 0x100000 = b ∧ b ≠ 0 ∧ 0 < r.n1)

theorem storeWord_of_ctrl {s : State} {r : Reg} {b : Nat} (v : Word) (hr : r.ctrlOf b = true) :
    s.storeWord (fun t => t) ⟨r, 0, 0, r.base / 0x100000⟩ v =
      s.writeEffect (fun t => t) ((s.written r 0 b v).blockEnableWrite b (v.getLsbD 0)) ⟨r, 0, 0, b⟩ v := by
  simp only [Reg.ctrlOf, Bool.and_eq_true, decide_eq_true_eq] at hr
  obtain ⟨_, rfl, hb, hne, _⟩ := hr
  rw [hb]
  exact congrArg (fun t => s.writeEffect (fun t => t) t ⟨ctrlReg b, 0, 0, b⟩ v) (if_pos ⟨hne, rfl⟩)

/-- A command that is a write of a block's CTRL, with the effect `he` that the write has beside the block's ENABLE. -/
theorem does_ctrl {s t : State} {m : Master} {tag : BitVec 10} {r : Reg} {v w : Word} {fs : List (Field × Nat)} {c : Instr}
    {l k : List Part} {p : State → Prop} (b : Nat) (hc : exec c s = .next (s.regCommand m tag r 0 fs v)) (hf : forced v fs = w)
    (hr : r.ctrlOf b = true) (hw : Writable s m r 0 w)
    (he : s.writeEffect (fun t => t) ((s.written r 0 b w).blockEnableWrite b (w.getLsbD 0)) ⟨r, 0, 0, b⟩ w = ⟨t, 0, false⟩)
    (ht : Goes k (s.written r 0 b w) t) (hk : within (.csr :: .out :: .intc :: k) l = true) (hp : p (t.answered m tag 0 0)) :
    Does c s l p := by
  subst hf
  have hk' : within [.csr] l = true ∧ within k l = true ∧ within (.out :: .intc :: l) l = true := by
    simp only [within, List.all_cons, List.all_nil, Bool.and_eq_true] at hk ⊢
    exact ⟨⟨hk.1, trivial⟩, hk.2.2.2, hk.2.1, hk.2.2.1, by simp⟩
  have hmapped : r.mapped = true ∧ 0 < r.n1 := by
    simp only [Reg.ctrlOf, Bool.and_eq_true, decide_eq_true_eq] at hr
    exact ⟨hr.1, hr.2.2.2.2⟩
  exact does_of_done (k := l) hc hmapped.1 hmapped.2 hw ((storeWord_of_ctrl _ hr).trans he)
    (.step (.step .refl written_goes hk'.1) ht hk'.2.1) hk'.2.2 hp

end Sys2Proof.Machine

namespace Sys2Proof.Machine
open Csr

/-! ## A time step (R376): the performance seconds of the line ports that it ends -/

/-- The registers that a performance second of port `p` may change. -/
def perfRegs (p : Nat) : List Nat :=
  [PORT_PM_UAS.addr p 0, PORT_PM_ES_SES.addr p 0, PORT_STATUS.addr p 0, LINE_STATUS.addr 0 0, PORT_ERR_LOG.addr p 0,
   PORT_INT_STATUS.addr p 0]

theorem settle_otherRegs (s : State) (p : Nat) (x : PerfSecond) : OtherRegs (perfRegs p) s (s.settle p x) := by
  unfold State.settle
  split
  · exact .andAddWrap .refl (by simp [perfRegs, PORT_PM_UAS.UAS])
  · split
    · exact .andAddWrap .refl (by simp [perfRegs, PORT_PM_ES_SES.SES])
    · split
      · exact .andAddWrap .refl (by simp [perfRegs, PORT_PM_ES_SES.ES])
      · exact .refl

theorem setUnavail_otherRegs (s : State) (p : Nat) (u : Bool) : OtherRegs (perfRegs p) s (s.setUnavail p u) :=
  .andSet (.andSet .refl (by simp [perfRegs, PORT_STATUS.UNAVAIL])) (by simp [perfRegs, LINE_STATUS.UNAVAIL])

theorem OtherRegs.andPortLog {l : List Nat} {a s : State} {p n k : Nat} (h : OtherRegs l a s) (w : PORT_ERR_LOG.addr p 0 ∈ l) :
    OtherRegs l a (s.portLog p n k) := by
  unfold State.portLog
  exact .andReport (.andSet (.andSet h w) w)

theorem OtherRegs.andRaisePort {l : List Nat} {a s : State} {f : Field} {p : Nat} (h : OtherRegs l a s) (w : f.reg.addr p 0 ∈ l) :
    OtherRegs l a (s.raisePort f p) := h.andRaise w

theorem perfSecond_otherRegs (s : State) (p : Nat) : OtherRegs (perfRegs p) s (s.perfSecond p) := by
  unfold State.perfSecond
  extract_lets x es ses un run flip secs secs' left s1 s2 s3
  have h1 : OtherRegs (perfRegs p) s s1 := .of_csr rfl
  have h2 : OtherRegs (perfRegs p) s s2 := by
    unfold s2
    split
    · exact h1.trans (settle_otherRegs _ _ _)
    · exact h1
  clear_value s1 s2
  split
  · have h3 : OtherRegs (perfRegs p) s s3 := h2.trans (setUnavail_otherRegs _ _ _)
    clear_value s3
    split
    · exact .andRaisePort (.andPortLog h3 (by simp [perfRegs])) (by simp [perfRegs, PORT_INT_STATUS.UAS_EXIT])
    · exact .andRaisePort (.andPortLog h3 (by simp [perfRegs])) (by simp [perfRegs, PORT_INT_STATUS.UAS_ENTER])
  · exact h2

/-- Whether no performance second changes the register of a field. -/
def Field.unperf (f : Field) : Bool := (List.range 16).all (fun p => !(perfRegs p).contains (f.reg.addr 0 0))

theorem perfSeconds_get (f : Field) (s : State) (h : f.unperf = true) :
    ((List.range 16).foldl State.perfSecond s).get f = s.get f := by
  have hstep : ∀ (l : List Nat) (t : State), (∀ p ∈ l, p < 16) → (l.foldl State.perfSecond t).get f = t.get f := by
    intro l
    induction l with
    | nil => exact fun t _ => rfl
    | cons p r ih =>
      intro t hl
      have hp := List.all_eq_true.mp h p (List.mem_range.mpr (hl p (by simp)))
      rw [List.foldl_cons, ih _ (fun q hq => hl q (by simp [hq]))]
      exact (perfSecond_otherRegs t p).get (by simpa using hp)
  exact hstep _ _ (fun p hp => List.mem_range.mp hp)

theorem timeStep_far {s : State} {x : Int} (f : Field)
    (h : (f.unperf && TIME_NOW.addr 0 0 != f.reg.addr 0 0 && TIME_STATUS.addr 0 0 != f.reg.addr 0 0) = true) :
    (s.timeStep x).get f = s.get f := by
  simp only [Bool.and_eq_true, bne_iff_ne] at h
  obtain ⟨⟨hperf, hnow⟩, hstatus⟩ := h
  have hnow' : TIME_NOW.NS.reg.addr 0 0 ≠ f.reg.addr 0 0 := hnow
  have hstatus' : TIME_STATUS.STEP_COUNT.reg.addr 0 0 ≠ f.reg.addr 0 0 := hstatus
  simp [State.timeStep, perfSeconds_get f _ hperf, State.addWrap, hstatus', State.putTime, hnow']

theorem timeStep_stepCount (s : State) (x : Int) :
    (s.timeStep x).get TIME_STATUS.STEP_COUNT = (s.get TIME_STATUS.STEP_COUNT + 1) % 2 ^ TIME_STATUS.STEP_COUNT.w := by
  rw [State.timeStep, perfSeconds_get _ _ (by decide), get_addWrap _ _ _ _ _ (by decide), State.putTime]
  simp (disch := decide)

theorem timeStep_now (s : State) (x : Int) : (s.timeStep x).get TIME_NOW.NS = (x % (2 ^ 104 : Nat)).toNat / 2 ^ 40 := by
  have hlt : (x % (2 ^ 104 : Nat)).toNat < 2 ^ 104 := ofSigned_lt 104 x
  have hfits : (x % (2 ^ 104 : Nat)).toNat / 2 ^ 40 % 2 ^ TIME_NOW.NS.w = (x % (2 ^ 104 : Nat)).toNat / 2 ^ 40 :=
    Nat.mod_eq_of_lt (Nat.div_lt_of_lt_mul (hlt.trans_eq (by norm_num [TIME_NOW.NS])))
  rw [State.timeStep, perfSeconds_get _ _ (by decide), State.addWrap, get_set_far _ _ _ _ (by decide), State.putTime]
  rw [get_set_mod _ _ _ _ _ (by decide), hfits]

theorem timeStep_timeFrac (s : State) (x : Int) : (s.timeStep x).timeFrac = BitVec.ofNat 40 (x % (2 ^ 104 : Nat)).toNat := by
  rw [State.timeStep, (Goes.foldl (l := [.csr, .out, .intc, .line]) .refl (fun t p h => .step h perfSecond_goes (by decide))).only .timeFrac rfl]
  rfl

/-- A time of whole nanoseconds `n` and fraction `f`, moved by the signed nanoseconds `d`. -/
theorem timeDelta_value (n f d : Nat) (hn : n < 2 ^ 64) (hf : f < 2 ^ 40) (hd : d < 2 ^ 64) :
    ((((n * 2 ^ 40 + f : Nat) : Int) + toSigned 64 d * 2 ^ 40) % (2 ^ 104 : Nat)).toNat = (n + d) % 2 ^ 64 * 2 ^ 40 + f := by
  unfold toSigned
  rw [Nat.mod_eq_of_lt hd]
  norm_num at hn hf hd ⊢
  split <;> omega

theorem timeDelta_effect (s : State) (d : Nat) (hd : d < 2 ^ 64) :
    (s.timeDelta d).get TIME_NOW.NS = (s.get TIME_NOW.NS + d) % 2 ^ 64 ∧ (s.timeDelta d).timeFrac = s.timeFrac := by
  have hnow : s.get TIME_NOW.NS < 2 ^ 64 := Nat.mod_lt _ (by decide)
  have hvalue := timeDelta_value (s.get TIME_NOW.NS) s.timeFrac.toNat d hnow s.timeFrac.isLt hd
  have hfull : s.fullTime = s.get TIME_NOW.NS * 2 ^ 40 + s.timeFrac.toNat := rfl
  constructor
  · rw [State.timeDelta, timeStep_now, hfull, hvalue]
    have := s.timeFrac.isLt
    omega
  · rw [State.timeDelta, timeStep_timeFrac, hfull, hvalue]
    apply BitVec.eq_of_toNat_eq
    have := s.timeFrac.isLt
    rw [BitVec.toNat_ofNat]
    omega

theorem timeSet_effect (s : State) (n : Nat) (hn : n < 2 ^ 64) :
    (s.timeSet n).get TIME_NOW.NS = n ∧ (s.timeSet n).timeFrac = 0 ∧ (s.timeSet n).get TIME_STATUS.VALID = 1 ∧
      (s.timeSet n).get TIME_STATUS.STEP_COUNT = (s.get TIME_STATUS.STEP_COUNT + 1) % 2 ^ TIME_STATUS.STEP_COUNT.w := by
  have hvalue : (((n * 2 ^ 40 : Nat) : Int) % (2 ^ 104 : Nat)).toNat = n * 2 ^ 40 := by
    norm_num at hn ⊢
    omega
  refine ⟨?_, ?_, ?_, ?_⟩
  · rw [State.timeSet, get_set_far _ _ _ _ (by decide), timeStep_now, hvalue]
    omega
  · change ((s.timeStep _)).timeFrac = 0
    rw [timeStep_timeFrac, hvalue]
    apply BitVec.eq_of_toNat_eq
    simp
  · simp (disch := decide) [State.timeSet]
  · rw [State.timeSet, get_set_beside _ _ _ _ _ _ (by decide), timeStep_stepCount]

/-! ## Offset samples and the source of the servo (R378, R379) -/

theorem timeSource_written {s : State} {r : Reg} {v : Word} (h : ((r.addr 0 0 != TIME_STATUS.addr 0 0) && (r.addr 0 0 != TIME_CTRL.addr 0 0)) = true) :
    (s.written r 0 14 v).timeSource = s.timeSource := by
  simp only [Bool.and_eq_true, bne_iff_ne] at h
  obtain ⟨hstatus, hctrl⟩ := h
  have h1 : r.addr 0 0 ≠ TIME_STATUS.READY.reg.addr 0 0 := hstatus
  have h2 : r.addr 0 0 ≠ TIME_CTRL.SOURCE.reg.addr 0 0 := hctrl
  simp [State.timeSource, State.on, h1, h2]

/-- A sample in ACQUIRE whose offset is beyond STEP_NS. -/
theorem servoSample_step {s : State} {o : Int} (hst : s.get TIME_STATUS.SERVO_STATE = 1)
    (ho : s.get TIME_SERVO_LIMIT.STEP_NS * 2 ^ 16 < o.natAbs) :
    s.servoSample o = (((s.timeStep ((s.fullTime : Int) - o * 2 ^ 24)).set TIME_STATUS.VALID 1).report 0x0E01).raise
      TIME_INT_STATUS.STEPPED := by
  unfold State.servoSample
  simp only [hst, if_true, gt_iff_lt, ho]

theorem ofSigned_natCast {w n : Nat} (h : n < 2 ^ w) : ofSigned w (n : Int) = n := by
  unfold ofSigned
  rw [← Int.natCast_mod, Int.toNat_natCast, Nat.mod_eq_of_lt h]

/-- A write of a block's CTRL that keeps its ENABLE at most abandons a check. -/
theorem blockEnableWrite_same {s : State} {b : Nat} {want : Bool} (h : s.on (enableOf b) = want) :
    ∃ c, s.blockEnableWrite b want = { s with ctl := c } := by
  unfold State.blockEnableWrite
  simp only [h]
  cases want
  · by_cases hc : s.ctl.checking.contains b = true
    · exact ⟨{ s.ctl with checking := s.ctl.checking.filter (· ≠ b) }, by simp only [hc, Bool.false_eq_true, if_false, if_true]⟩
    · exact ⟨s.ctl, by simp only [hc, Bool.false_eq_true, if_false, Bool.false_and]⟩
  · exact ⟨s.ctl, by simp⟩

theorem blockEnableWrite_keeps {s : State} {b : Nat} {want : Bool} (h : s.on (enableOf b) = want)
    (hc : s.ctl.checking.contains b = false) : s.blockEnableWrite b want = s := by
  unfold State.blockEnableWrite
  simp only [h, hc]
  cases want <;> simp

theorem timeCtrl_enable {s : State} {v : Word} (h : TIME_CTRL.ENABLE.of v.toNat = s.get TIME_CTRL.ENABLE) :
    (s.written TIME_CTRL 0 14 v).on (enableOf 14) = v.getLsbD 0 := by
  have hkept : (s.written TIME_CTRL 0 14 v).get (enableOf 14) = s.get TIME_CTRL.ENABLE := written_get_enable s v 0 (by decide)
  have hbit : TIME_CTRL.ENABLE.of v.toNat = b2n (v.getLsbD 0) := by
    rw [getLsbD_zero, Field.of, getBits, TIME_CTRL.ENABLE, Nat.testBit_zero]
    rcases Nat.mod_two_eq_zero_or_one v.toNat with h0 | h1
    · simp [h0, b2n]
    · simp [h1, b2n]
  rw [State.on, hkept, ← h, hbit]
  cases v.getLsbD 0 <;> rfl

/-- The servo under PTP or PPS: from FREE it begins to acquire. -/
theorem sourceUpdate_of_source {s : State} (h : s.timeSource ∈ [1, 2]) :
    s.sourceUpdate.get TIME_STATUS.SERVO_STATE = (if s.get TIME_STATUS.SERVO_STATE = 0 then 1 else s.get TIME_STATUS.SERVO_STATE) ∧
      OtherRegs [TIME_STATUS.addr 0 0] s s.sourceUpdate := by
  have hne : s.timeSource ≠ 0 := by
    intro h0
    simp [h0] at h
  have hlt : s.timeSource < 3 := by
    simp only [List.mem_cons, List.not_mem_nil, or_false] at h
    omega
  unfold State.sourceUpdate
  simp only [hne, if_false, hlt, true_and]
  split
  · exact ⟨by simp (disch := decide) [State.servo], .andServo (.of_csr (by rfl)) (by simp)⟩
  · exact ⟨rfl, .refl⟩

/-- Settles O12: the commands of the time block, each the write of its register. -/
theorem timeCommands : Obligations.TimeCommands := by
  unfold Obligations.TimeCommands
  refine ⟨?set, ?step, ?offset, ?stepped, ?free, ?source, ?hold, ?idle, ?reacquire⟩
  case set =>
    intro s m tag v hw
    obtain ⟨hnow, hfrac, hvalid, hcount⟩ := timeSet_effect (s.written TIME_SET 0 14 v) v.toNat v.isLt
    refine does_write 14 rfl rfl (by decide) (by decide) hw (t := (s.written TIME_SET 0 14 v).timeSet v.toNat) ?_ timeSet_goes (by decide)
      ⟨?_, ?_, ?_, ?_, answered_answers _ _ _ _ _⟩
    · rfl
    · rw [answered_get, hnow]
    · rw [answered_timeFrac, hfrac]
    · simp [State.on, hvalid]
    · rw [answered_get, hcount, written_get_far _ _ _ _ _ (by decide)]
  case step =>
    intro s m tag v hw
    obtain ⟨hnow, hfrac⟩ := timeDelta_effect (s.written TIME_STEP 0 14 v) v.toNat v.isLt
    refine does_write 14 rfl rfl (by decide) (by decide) hw (t := (s.written TIME_STEP 0 14 v).timeDelta v.toNat) ?_ timeDelta_goes
      (by decide) ⟨?_, ?_, ?_, answered_answers _ _ _ _ _⟩
    · rfl
    · rw [answered_get, hnow, written_get_far _ _ _ _ _ (by decide)]
    · rw [answered_timeFrac, hfrac, written_timeFrac]
    · rw [answered_get, State.timeDelta, timeStep_stepCount, written_get_far _ _ _ _ _ (by decide)]
  case offset =>
    intro s m tag v ⟨hw, hsource⟩
    have hother : ((s.written TIME_OFFSET 0 14 v).set TIME_LAST_OFFSET.OFFSET v.toNat).timeSource ≠ 1 := by
      simpa (disch := decide) [State.timeSource, State.on] using hsource
    have heffect : (s.written TIME_OFFSET 0 14 v).offsetSample 1 v.toNat = (s.written TIME_OFFSET 0 14 v).set TIME_LAST_OFFSET.OFFSET v.toNat :=
      if_neg hother
    refine does_write 14 rfl rfl (by decide) (by decide) hw (t := (s.written TIME_OFFSET 0 14 v).set TIME_LAST_OFFSET.OFFSET v.toNat)
      ?_ set_goes (by decide) ⟨?_, ?_, answered_answers _ _ _ _ _⟩
    · exact congrArg (fun t : State => (⟨t, 0, false⟩ : Wr)) heffect
    · simp (disch := decide)
      exact Nat.mod_eq_of_lt v.isLt
    · exact answered_otherRegs _ _ _ _ _ (.andSet (written_otherRegs s (by decide)) (by decide))
  case stepped =>
    intro s m tag v ⟨hw, hsource, hservo⟩ hfar
    have hsource' : ((s.written TIME_OFFSET 0 14 v).set TIME_LAST_OFFSET.OFFSET v.toNat).timeSource = 1 := by
      simpa (disch := decide) [State.timeSource, State.on] using hsource
    generalize hu : (s.written TIME_OFFSET 0 14 v).set TIME_LAST_OFFSET.OFFSET v.toNat = u at hsource'
    have hreg : ∀ f : Field, TIME_OFFSET.addr 0 0 ≠ f.reg.addr 0 0 → TIME_LAST_OFFSET.addr 0 0 ≠ f.reg.addr 0 0 → u.get f = s.get f := by
      intro f h1 h2
      rw [← hu, get_set_far _ _ _ _ h2, written_get_far _ _ _ _ _ h1]
    have hstep := servoSample_step (s := u) (o := toSigned 64 v.toNat) (by rw [hreg _ (by decide) (by decide), hservo])
      (by rwa [hreg _ (by decide) (by decide)])
    have heffect : (s.written TIME_OFFSET 0 14 v).offsetSample 1 v.toNat = u.servoSample (toSigned 64 v.toNat) := by
      unfold State.offsetSample
      simp only [hu, hsource', if_true]
    generalize hx : (u.fullTime : Int) - toSigned 64 v.toNat * 2 ^ 24 = x at hstep
    have hto : Goes [.csr] (s.written TIME_OFFSET 0 14 v) u := hu ▸ set_goes
    refine does_write 14 rfl rfl (by decide) (by decide) hw (t := u.servoSample (toSigned 64 v.toNat)) ?_
      (k := [.csr, .out, .timeFrac, .intc, .line]) ?_ (by decide) ⟨?_, ?_, ?_, ?_, answered_answers _ _ _ _ _⟩
    · exact congrArg (fun t : State => (⟨t, 0, false⟩ : Wr)) heffect
    · rw [hstep]
      exact .step (.step (.step (.step (.step .refl hto (by decide)) timeStep_goes (by decide)) set_goes (by decide)) report_goes
        (by decide)) raise_goes (by decide)
    · rw [answered_get, hstep]
      simp (disch := decide) only [raise_get, get_set_far, get_report, timeStep_far, ← hu, get_set_mod]
      exact Nat.mod_eq_of_lt v.isLt
    · rw [answered_on, hstep]
      simp (disch := decide) [State.on]
    · rw [answered_on, hstep]
      simp (disch := decide) [State.on]
    · have hto' : Goes [.csr, .out, .timeFrac, .intc, .line] s ((u.timeStep x).set TIME_STATUS.VALID 1) :=
        .step (.step (.step (.step .refl written_goes (by decide)) hto (by decide)) timeStep_goes (by decide)) set_goes (by decide)
      have hsent : Sent s (u.servoSample (toSigned 64 v.toNat)) (.report 0x0E01) := by
        rw [hstep]
        exact .of_goes (sent_report 0x0E01 hto'.out) raise_goes
      exact hsent.of_goes (answered_goes _ _ _ _ _)
  case free =>
    intro s m tag v ⟨hw, hsame⟩ hfree
    obtain ⟨c, hc⟩ := blockEnableWrite_same (timeCtrl_enable hsame)
    have hready : (s.written TIME_CTRL 0 14 v).on TIME_STATUS.READY = s.on TIME_STATUS.READY := by simp (disch := decide) [State.on]
    have hsrc : (s.written TIME_CTRL 0 14 v).get TIME_CTRL.SOURCE = TIME_CTRL.SOURCE.of v.toNat := by simp (disch := decide)
    generalize hu : s.written TIME_CTRL 0 14 v = u at hc hready hsrc
    have hzero : State.timeSource { u with ctl := c } = 0 := by
      simp only [State.timeSource, on_update, get_update, hready, hsrc]
      rcases hfree with h | h <;> simp [h]
    have heffect : State.sourceUpdate { u with ctl := c } = (State.servo { u with ctl := c } 0).putInc 0 := if_pos hzero
    have hto : Goes [.csr] s u := hu ▸ written_goes
    refine does_ctrl 14 rfl rfl (by decide) hw (t := (State.servo { u with ctl := c } 0).putInc 0) (k := [.csr, .ctl]) ?_ ?_ (by decide)
      ⟨?_, ?_, ?_, ?_, answered_answers _ _ _ _ _⟩
    · rw [show forced v [] = v from rfl, hu, hc]
      exact congrArg (fun t : State => (⟨t, 0, false⟩ : Wr)) heffect
    · rw [show forced v [] = v from rfl, hu]
      exact .step (.step (.ctl .refl (by decide)) servo_goes (by decide)) putInc_goes (by decide)
    · simp (disch := decide) [State.putInc, State.servo, hsrc]
    · simp (disch := decide) [State.putInc, State.servo]
    · rw [answered_get]
      simp (disch := decide) only [State.putInc, State.servo, get_set_mod, get_set_far, get_update, ← hu, written_get_far]
      have hinc : s.get TIME_INC_NOM.INC < 2 ^ 48 := Nat.mod_lt _ (by decide)
      rw [add_zero, ofSigned_natCast hinc]
      exact Nat.mod_eq_of_lt hinc
    · exact answered_otherRegs _ _ _ _ _ (.andPutInc (.andServo (.andCsr (s := u) (hu ▸ written_otherRegs s (by decide)) (by rfl))
        (by decide)) (by decide))
  case source =>
    intro s m tag v ⟨hw, hsame, hcheck, hready⟩ ⟨hsource, hon⟩
    have hready' : (s.written TIME_CTRL 0 14 v).on TIME_STATUS.READY = true := by simpa (disch := decide) [State.on] using hready
    have hsrc : (s.written TIME_CTRL 0 14 v).timeSource = TIME_CTRL.SOURCE.of v.toNat := by
      rw [State.timeSource, if_pos hready']
      simp (disch := decide)
    have hkeeps := blockEnableWrite_keeps (timeCtrl_enable hsame) (by simpa using hcheck)
    have hservo : (s.written TIME_CTRL 0 14 v).get TIME_STATUS.SERVO_STATE = s.get TIME_STATUS.SERVO_STATE := by
      simp (disch := decide)
    have hctrl : (s.written TIME_CTRL 0 14 v).get TIME_CTRL.SOURCE = TIME_CTRL.SOURCE.of v.toNat := by simp (disch := decide)
    have hupdate := sourceUpdate_of_source (s := s.written TIME_CTRL 0 14 v) (by rwa [hsrc])
    refine does_ctrl 14 rfl rfl (by decide) hw (t := (s.written TIME_CTRL 0 14 v).sourceUpdate) ?_ sourceUpdate_goes (by decide)
      ⟨?_, ?_, ?_, answered_answers _ _ _ _ _⟩
    · rw [show forced v [] = v from rfl, hkeeps]
      rfl
    · rw [answered_get, hupdate.2.get (by decide), hctrl]
    · rw [answered_get, hupdate.1, hservo]
    · exact answered_otherRegs _ _ _ _ _ ((written_otherRegs s (by decide)).trans (hupdate.2.mono (by simp)))
  case hold =>
    intro s m tag v
    generalize hf : forced v _ = w
    rintro ⟨hw, hre⟩ hst
    have hhold : TIME_CMD.HOLD.of w.toNat = 1 := hf ▸ of_forced v _ 1 (by decide)
    have hsame : ∀ f : Field, (TIME_CMD.addr 0 0 ≠ f.reg.addr 0 0) → (s.written TIME_CMD 0 14 w).get f = s.get f := fun f h =>
      written_get_far _ _ _ _ _ h
    obtain ⟨hservo, hcause, hinc, hint, hsent, _⟩ := holdover_entered (s := s.written TIME_CMD 0 14 w) 4 (by rwa [hsame _ (by decide)])
    refine does_write 14 rfl hf (by decide) (by decide) hw (t := (s.written TIME_CMD 0 14 w).holdover 4) ?_ holdover_goes (by decide)
      ⟨?_, ?_, ?_, ?_, ?_, answered_answers _ _ _ _ _⟩
    · simp [State.timeWrite, hhold, hre, State.timeHold, (by decide : TIME_CMD.base ≠ TIME_CTRL.base),
        (by decide : TIME_CMD.base ≠ TIME_SET.base), (by decide : TIME_CMD.base ≠ TIME_STEP.base),
        (by decide : TIME_CMD.base ≠ TIME_OFFSET.base)]
    · rw [answered_get, hservo]
    · rw [answered_get, hinc, hsame _ (by decide), State.integ, hsame _ (by decide)]
      rfl
    · rw [answered_on, hint]
    · exact (hsent : Sent s _ _).of_goes (answered_goes _ _ _ _ _)
    · rw [answered_time, hcause]
  case idle =>
    intro s m tag v
    generalize hf : forced v _ = w
    rintro ⟨hw, hre⟩ hst
    have hhold : TIME_CMD.HOLD.of w.toNat = 1 := hf ▸ of_forced v _ 1 (by decide)
    have hidle := holdover_idle (s := s.written TIME_CMD 0 14 w) 4 (by rwa [written_get_far _ _ _ _ _ (by decide)])
    refine does_write 14 rfl hf (by decide) (by decide) hw (t := s.written TIME_CMD 0 14 w) ?_ (k := []) .refl (by decide)
      ⟨?_, answered_answers _ _ _ _ _⟩
    · simp [State.timeWrite, hhold, hre, State.timeHold, hidle, (by decide : TIME_CMD.base ≠ TIME_CTRL.base),
        (by decide : TIME_CMD.base ≠ TIME_SET.base), (by decide : TIME_CMD.base ≠ TIME_STEP.base),
        (by decide : TIME_CMD.base ≠ TIME_OFFSET.base)]
    · exact answered_otherRegs _ _ _ _ _ (written_otherRegs s (by decide))
  case reacquire =>
    intro s m tag v
    generalize hf : forced v _ = w
    rintro ⟨hw, hhold⟩
    have hre : TIME_CMD.REACQUIRE.of w.toNat = 1 := hf ▸ of_forced v _ 1 (by decide)
    refine does_write 14 rfl hf (by decide) (by decide) hw (t := (s.written TIME_CMD 0 14 w).timeReacquire) ?_ timeReacquire_goes
      (by decide) ⟨?_, ?_, answered_answers _ _ _ _ _⟩
    · simp [State.timeWrite, hhold, hre, (by decide : TIME_CMD.base ≠ TIME_CTRL.base),
        (by decide : TIME_CMD.base ≠ TIME_SET.base), (by decide : TIME_CMD.base ≠ TIME_STEP.base),
        (by decide : TIME_CMD.base ≠ TIME_OFFSET.base)]
    · rw [answered_time, State.timeReacquire, written_get_far _ _ _ _ _ (by decide)]
      split <;> rfl
    · exact answered_otherRegs _ _ _ _ _ (.andGoes (written_otherRegs s (by decide)) timeReacquire_goes (by decide))

end Sys2Proof.Machine

namespace Sys2Proof.Machine
open Csr

/-! ## Doorbells (R353, R354) -/

theorem leVal_le (n v : Nat) : leVal (le n v) = v % 2 ^ (8 * n) := by
  induction n generalizing v with
  | zero => simp [le, leVal, Nat.mod_one]
  | succ n ih =>
    have hpow : 2 ^ (8 * (n + 1)) = 256 * 2 ^ (8 * n) := by
      rw [show 8 * (n + 1) = 8 + 8 * n by ring, pow_add]
      norm_num
    rw [le, leVal, ih, BitVec.toNat_ofNat, hpow, Nat.mod_mul]

theorem length_le (n v : Nat) : (le n v).length = n := by
  induction n generalizing v with
  | zero => rfl
  | succ n ih => simp [le, ih]

theorem leVal_word (v : Word) : leVal (le 8 v.toNat) = v.toNat := by
  rw [leVal_le]
  exact Nat.mod_eq_of_lt v.isLt

theorem violation_otherRegs (s : State) (v : Violation) :
    OtherRegs [TOP_VIOL_COUNT.addr 0 0, TOP_VLOG_PTR.addr 0 0, TOP_MYK_COUNT.addr 0 0, TOP_INT_STATUS.addr 0 0] s (s.violation v) := by
  unfold State.violation
  extract_lets s1 size wr used first s2 base s3
  have h1 : OtherRegs [TOP_VIOL_COUNT.addr 0 0, TOP_VLOG_PTR.addr 0 0, TOP_MYK_COUNT.addr 0 0, TOP_INT_STATUS.addr 0 0] s s1 :=
    .andAddWrap .refl (by decide)
  clear_value s1
  split
  · have h2 : OtherRegs [TOP_VIOL_COUNT.addr 0 0, TOP_VLOG_PTR.addr 0 0, TOP_MYK_COUNT.addr 0 0, TOP_INT_STATUS.addr 0 0] s s2 :=
      .andSet (.andAddSat h1 (by decide)) (by decide)
    split
    · exact .andRaise (.andReport h2) (by decide)
    · exact h2
  · exact .andGoes (.andSet (h1.trans ((hostWrite_otherRegs _ _ _).mono (by simp))) (by decide)) intcUpdate_goes (by decide)

/-- The registers that refusing a doorbell writes. -/
def bellRegs : List Nat :=
  [HOSTQ_ERR_LOG.addr 0 0, HOSTQ_ERR_ADDR.addr 0 0, HOSTQ_COUNT.addr 0 0, HOSTQ_INT_STATUS.addr 0 0, TOP_VIOL_COUNT.addr 0 0,
   TOP_VLOG_PTR.addr 0 0, TOP_MYK_COUNT.addr 0 0, TOP_INT_STATUS.addr 0 0]

theorem OtherRegs.andQueueLog {l : List Nat} {a s : State} {n q k x : Nat} (h : OtherRegs l a s) (w : HOSTQ_ERR_LOG.addr 0 0 ∈ l)
    (w' : HOSTQ_ERR_ADDR.addr 0 0 ∈ l) : OtherRegs l a (s.queueLog n q k x) := by
  unfold State.queueLog
  exact .andSet (.andSet (.andSet (.andSet (.andSet h w) w) w) w) w'

theorem refuseBell_otherRegs (s : State) (b : Bell) (n : Nat) : OtherRegs bellRegs s (s.refuseBell b n) := by
  unfold State.refuseBell
  extract_lets source s1 s2 origin
  have h1 : OtherRegs bellRegs s s1 := .andQueueLog .refl (by decide) (by decide)
  clear_value s1
  split
  · exact h1
  · have h2 : OtherRegs bellRegs s s2 := .andRaise (.andAddSat h1 (by decide)) (by decide)
    exact h2.trans ((violation_otherRegs _ _).mono (by decide))

theorem queuePtr_not_bellRegs (q : Fin 8192) : Q_PTR.addr q 0 ∉ bellRegs := by
  simp [bellRegs, Q_PTR, Reg.addr, HOSTQ_ERR_LOG, HOSTQ_ERR_ADDR, HOSTQ_COUNT, HOSTQ_INT_STATUS, TOP_VIOL_COUNT, TOP_VLOG_PTR,
    TOP_MYK_COUNT, TOP_INT_STATUS]
  omega

/-- What a refused doorbell leaves: the log's reason and queue and the counts. -/
theorem refuseBell_effect {s : State} {b : Bell} {n : Nat} (hn : n ≠ 0x0209) (hfits : n < 2 ^ 16) (hq : b.queue < 2 ^ 13) :
    let t := s.refuseBell b n
    t.get HOSTQ_ERR_LOG.REASON = n ∧ t.get HOSTQ_ERR_LOG.QUEUE = b.queue ∧
      t.get HOSTQ_COUNT.VIOLATIONS = satAdd HOSTQ_COUNT.VIOLATIONS.w (s.get HOSTQ_COUNT.VIOLATIONS) 1 ∧
      t.get TOP_VIOL_COUNT.TOTAL = (s.get TOP_VIOL_COUNT.TOTAL + 1) % 2 ^ TOP_VIOL_COUNT.TOTAL.w := by
  have hreason : n % 2 ^ HOSTQ_ERR_LOG.REASON.w = n := Nat.mod_eq_of_lt hfits
  have hqueue : b.queue % 2 ^ HOSTQ_ERR_LOG.QUEUE.w = b.queue := Nat.mod_eq_of_lt hq
  unfold State.refuseBell
  simp only [hn, if_false]
  generalize hs1 : s.queueLog n b.queue (if b.fabricTenant.isSome = true then 1 else 0) b.addr = s1
  have hlog : s1.get HOSTQ_ERR_LOG.REASON = n ∧ s1.get HOSTQ_ERR_LOG.QUEUE = b.queue := by
    rw [← hs1]
    constructor
    · simp (disch := decide) [State.queueLog, hreason]
    · simp (disch := decide) [State.queueLog, hqueue]
  have hsame : OtherRegs [HOSTQ_ERR_LOG.addr 0 0, HOSTQ_ERR_ADDR.addr 0 0] s s1 :=
    hs1 ▸ .andQueueLog .refl (by decide) (by decide)
  refine ⟨?_, ?_, ?_, ?_⟩
  · rw [(violation_otherRegs _ _).get (by decide)]
    simp (disch := decide) [State.addSat, hlog]
  · rw [(violation_otherRegs _ _).get (by decide)]
    simp (disch := decide) [State.addSat, hlog]
  · rw [(violation_otherRegs _ _).get (by decide), raise_get, get_set_far _ _ _ _ (by decide), get_addSat _ _ _ _ _ (by decide),
      hsame.get (by decide)]
    rfl
  · rw [violation_total, raise_get, get_set_far _ _ _ _ (by decide), State.addSat, get_set_far _ _ _ _ (by decide), hsame.get (by decide)]

/-! ## What a doorbell message names (Table HOST-1) -/

/-- The message of a doorbell of queue `q`, at its submission or its completion word. -/
def bellMsg (q : Nat) (cq : Bool) (v : Word) : MykMsg :=
  { type := 5, len := 8, addr := 0x10000000 + 0x1000 * q + (if cq then 8 else 0), payload := le 8 v.toNat }

/-- The doorbell that the message is. -/
def bellOf (q : Nat) (cq : Bool) (v : Word) : Bell := ⟨q, 0x10000000 + 0x1000 * q + (if cq then 8 else 0), v.toNat, none⟩

theorem doorbell_bellMsg {s : State} {q : Nat} (cq want : Bool) (v : Word) (hq : q < 8192) :
    s.doorbell (bellMsg q cq v) want = if cq then s.cqDoorBell (bellOf q cq v) else s.sqTailBell (bellOf q cq v) := by
  have hoff : (0x10000000 + 0x1000 * q + (if cq then 8 else 0)) % 0x1000 = if cq then 8 else 0 := by
    split <;> omega
  have hpage : (0x10000000 + 0x1000 * q + (if cq then 8 else 0) - 0x10000000) / 0x1000 = q := by
    split <;> omega
  have hin : ¬ (0x10000000 + 0x1000 * q + (if cq then 8 else 0) < 0x10000000 ∨ 0x12000000 ≤ 0x10000000 + 0x1000 * q + (if cq then 8 else 0)) := by
    split <;> omega
  unfold State.doorbell bellMsg bellOf
  simp only [length_le, ne_eq, not_true, or_self, if_false, leVal_word, hpage, hin, hoff]
  cases cq
  · cases want <;> simp
  · cases want <;> simp

theorem bellCheck_none {s : State} {q : Nat} {cq : Bool} {v : Word} (hready : s.on HOSTQ_STATUS.READY = true)
    (hline : s.inLineRange q = false) (hon : s.on Q_CFG.ENABLE q = true) : s.bellCheck (bellOf q cq v) = none := by
  simp [State.bellCheck, bellOf, hready, hline, hon]

theorem bellCheck_disabled {s : State} {q : Nat} {cq : Bool} {v : Word} (hready : s.on HOSTQ_STATUS.READY = true)
    (hline : s.inLineRange q = false) (hon : s.on Q_CFG.ENABLE q = false) : s.bellCheck (bellOf q cq v) = some 0x0204 := by
  simp [State.bellCheck, bellOf, hready, hline, hon]

theorem bellMsg_completion (q : Nat) (v : Word) :
    bellMsg q true v = { type := 5, len := 8, addr := 0x10000008 + 0x1000 * q, payload := le 8 v.toNat } := by
  simp only [bellMsg, if_true, MykMsg.mk.injEq, true_and, and_true]
  omega

/-- The completion head of queue `q` moved to the doorbell's value, and the interrupt armed with ARM. -/
def State.headSet (s : State) (q : Nat) (v : Word) : State :=
  let s := s.set Q_PTR.CQ_HEAD (v.toNat % 2 ^ 16) q
  if v.toNat.testBit 16 then { s with hostq := { s.hostq with armed := addOnce s.hostq.armed q } } else s

/-- The state that an accepted completion doorbell leaves. -/
def State.headMoved (s : State) (q : Nat) (v : Word) : State :=
  let s := s.headSet q v
  if s.cqUsed q < s.cqSize q then
    { (s.set Q_STATUS.CQ_FULL 0 q) with hostq := { s.hostq with fullReported := s.hostq.fullReported.erase q } }
  else s

section
variable (s : State) (q : Fin 8192) (v : Word)

theorem headSet_csr : (s.headSet q v).csr = (s.set Q_PTR.CQ_HEAD (v.toNat % 2 ^ 16) q).csr := by
  unfold State.headSet
  dsimp only
  split <;> rfl

theorem headSet_get (f : Field) (i j : Nat) :
    (s.headSet q v).get f i j = (s.set Q_PTR.CQ_HEAD (v.toNat % 2 ^ 16) q).get f i j := get_congr (headSet_csr s q v) f i j

theorem headSet_armed :
    (s.headSet q v).hostq.armed = if v.getLsbD 16 then addOnce s.hostq.armed q.val else s.hostq.armed := by
  unfold State.headSet
  change _ = if v.toNat.testBit 16 = true then _ else _
  split <;> rfl

theorem headSet_goes : Goes [.csr, .hostq] s (s.headSet q v) := by
  unfold State.headSet
  exact .ite (.hostq (.step .refl set_goes (by decide)) (by decide)) (.step .refl set_goes (by decide))

theorem headMoved_goes : Goes [.csr, .hostq] s (s.headMoved q v) := by
  unfold State.headMoved
  exact .ite (.hostq (.step (headSet_goes s q v) set_goes (by decide)) (by decide)) (headSet_goes s q v)

theorem headSet_head : (s.headSet q v).get Q_PTR.CQ_HEAD q = v.toNat % 2 ^ 16 := by
  rw [headSet_get, get_set_mod _ _ _ _ _ (by decide)]
  exact Nat.mod_mod _ _

theorem headSet_room : (s.headSet q v).cqUsed q = diff16 (s.get Q_PTR.CQ_TAIL q) (v.toNat % 2 ^ 16) ∧
    (s.headSet q v).cqSize q = s.cqSize q := by
  constructor
  · rw [State.cqUsed, headSet_head, headSet_get, get_set_beside _ _ _ _ _ _ (by decide)]
  · rw [State.cqSize, headSet_get, State.cqSize]
    simp (disch := decide)

theorem headMoved_armed : (s.headMoved q v).hostq.armed = (s.headSet q v).hostq.armed := by
  unfold State.headMoved
  dsimp only
  split <;> rfl

theorem headMoved_csr : (s.headMoved q v).csr =
    if diff16 (s.get Q_PTR.CQ_TAIL q) (v.toNat % 2 ^ 16) < s.cqSize q then ((s.headSet q v).set Q_STATUS.CQ_FULL 0 q).csr
    else (s.headSet q v).csr := by
  obtain ⟨hused, hsize⟩ := headSet_room s q v
  unfold State.headMoved
  simp only [hused, hsize]
  split <;> rfl

theorem headMoved_otherRegs : OtherRegs [Q_STATUS.addr q 0] (s.headSet q v) (s.headMoved q v) := by
  have hcsr := headMoved_csr s q v
  split at hcsr
  · exact (OtherRegs.set _ Q_STATUS.CQ_FULL 0 (List.mem_singleton.mpr rfl)).trans (.of_csr hcsr)
  · exact .of_csr hcsr

theorem headMoved_full : (s.headMoved q v).on Q_STATUS.CQ_FULL q =
    (s.on Q_STATUS.CQ_FULL q && decide (s.cqSize q ≤ diff16 (s.get Q_PTR.CQ_TAIL q) (v.toNat % 2 ^ 16))) := by
  have hcsr := headMoved_csr s q v
  split at hcsr
  · next hroom =>
    rw [decide_eq_false (by omega), Bool.and_false, State.on, get_congr hcsr, get_set_mod _ _ _ _ _ (by decide)]
    rfl
  · next hroom =>
    rw [decide_eq_true (by omega), Bool.and_true, State.on, get_congr hcsr, headSet_get, State.on]
    simp (disch := decide)

theorem headMoved_ptr (f : Field) (h : f.reg = Q_PTR) : (s.headMoved q v).get f q = (s.headSet q v).get f q := by
  refine (headMoved_otherRegs s q v).get ?_
  rw [h, List.mem_singleton]
  exact (Reg.addr_ne_of_apartFor (n := 8192) (n' := 8192) (by decide) q.isLt q.isLt).symm

theorem headMoved_effect : let t := s.headMoved q v
    t.get Q_PTR.CQ_HEAD q = v.toNat % 2 ^ 16 ∧ t.get Q_PTR.CQ_TAIL q = s.get Q_PTR.CQ_TAIL q ∧
      t.get Q_PTR.SQ_HEAD q = s.get Q_PTR.SQ_HEAD q ∧ t.get Q_PTR.SQ_TAIL q = s.get Q_PTR.SQ_TAIL q ∧
      t.hostq.armed = (if v.getLsbD 16 then addOnce s.hostq.armed q.val else s.hostq.armed) ∧
      t.on Q_STATUS.CQ_FULL q = (s.on Q_STATUS.CQ_FULL q && decide (s.cqSize q ≤ diff16 (s.get Q_PTR.CQ_TAIL q) (v.toNat % 2 ^ 16))) ∧
      OtherRegs [Q_PTR.addr q 0, Q_STATUS.addr q 0] s t := by
  refine ⟨?_, ?_, ?_, ?_, ?_, headMoved_full s q v, ?_⟩
  · rw [headMoved_ptr _ _ _ _ rfl, headSet_head]
  · rw [headMoved_ptr _ _ _ _ rfl, headSet_get, get_set_beside _ _ _ _ _ _ (by decide)]
  · rw [headMoved_ptr _ _ _ _ rfl, headSet_get, get_set_beside _ _ _ _ _ _ (by decide)]
  · rw [headMoved_ptr _ _ _ _ rfl, headSet_get, get_set_beside _ _ _ _ _ _ (by decide)]
  · rw [headMoved_armed, headSet_armed]
  · exact ((OtherRegs.set s Q_PTR.CQ_HEAD _ (by simp [Q_PTR.CQ_HEAD])).trans (.of_csr (headSet_csr s q v))).trans
      ((headMoved_otherRegs s q v).mono (by simp))

end

/-- Settles O16: a doorbell is taken within its bounds and refused outside them. -/
theorem doorbells : Obligations.Doorbells := by
  unfold Obligations.Doorbells
  refine ⟨?tail, ?tailRefused, ?disabled, ?head, ?headRefused⟩
  case tail =>
    intro s q v
    rintro msg ⟨hready, hline, hon⟩ hlo hhi
    have hexec : exec (.sqTail msg) s = .next (s.set Q_PTR.SQ_TAIL (v.toNat % 2 ^ 16) q) := by
      refine congrArg Host.Outcome.next ((doorbell_bellMsg false false v q.isLt).trans ?_)
      simp only [Bool.false_eq_true, if_false, State.sqTailBell, bellCheck_none hready hline hon]
      exact if_pos ⟨hlo, hhi⟩
    refine .of_goes hexec set_goes ⟨?_, ?_, ?_, ?_, .set _ _ _ (by simp [Q_PTR.SQ_TAIL])⟩
    · rw [get_set_mod _ _ _ _ _ (by decide)]
      exact Nat.mod_mod _ _
    all_goals rw [get_set_beside _ _ _ _ _ _ (by decide)]
  case tailRefused =>
    intro s q v
    rintro msg ⟨hready, hline, hon⟩ hout
    have hexec : exec (.sqTail msg) s = .next (s.refuseBell (bellOf q false v) 0x0203) := by
      refine congrArg Host.Outcome.next ((doorbell_bellMsg false false v q.isLt).trans ?_)
      simp only [Bool.false_eq_true, if_false, State.sqTailBell, bellCheck_none hready hline hon]
      exact if_neg (by simp only [bellOf]; omega)
    obtain ⟨hreason, hqueue, hviol, htotal⟩ := refuseBell_effect (s := s) (b := bellOf q false v) (n := 0x0203) (by decide) (by decide) q.isLt
    exact .of_goes hexec refuseBell_goes
      ⟨refuseBell_otherRegs _ _ _ _ _ _ (queuePtr_not_bellRegs q), hreason, hqueue, hviol, htotal⟩
  case disabled =>
    intro s q v cq
    rintro a msg ⟨hready, hline, hon⟩
    have hexec : exec (if cq then .cqDoor msg else .sqTail msg) s = .next (s.refuseBell (bellOf q cq v) 0x0204) := by
      cases cq
      · refine congrArg Host.Outcome.next ((doorbell_bellMsg false false v q.isLt).trans ?_)
        simp only [Bool.false_eq_true, if_false, State.sqTailBell, bellCheck_disabled hready hline hon]
      · refine congrArg Host.Outcome.next ((doorbell_bellMsg true true v q.isLt).trans ?_)
        simp only [if_true, State.cqDoorBell, bellCheck_disabled hready hline hon]
    obtain ⟨hreason, hqueue, -, htotal⟩ := refuseBell_effect (s := s) (b := bellOf q cq v) (n := 0x0204) (by decide) (by decide) q.isLt
    exact .of_goes hexec refuseBell_goes ⟨refuseBell_otherRegs _ _ _ _ _ _ (queuePtr_not_bellRegs q), hreason, hqueue, htotal⟩
  case head =>
    intro s q v
    rintro msg ⟨hready, hline, hon⟩ hle
    have hexec : exec (.cqDoor msg) s = .next (s.headMoved q v) := by
      refine congrArg Host.Outcome.next (Eq.trans ?_ ((doorbell_bellMsg (s := s) true true v q.isLt).trans ?_))
      · exact congrArg (fun x => s.doorbell x true) (bellMsg_completion q v).symm
      · simp only [if_true, State.cqDoorBell, bellCheck_none hready hline hon]
        exact if_pos hle
    refine .of_goes hexec (headMoved_goes s q v) (headMoved_effect s q v)
  case headRefused =>
    intro s q v
    rintro msg ⟨hready, hline, hon⟩ hout
    have hexec : exec (.cqDoor msg) s = .next (s.refuseBell (bellOf q true v) 0x0203) := by
      refine congrArg Host.Outcome.next (Eq.trans ?_ ((doorbell_bellMsg (s := s) true true v q.isLt).trans ?_))
      · exact congrArg (fun x => s.doorbell x true) (bellMsg_completion q v).symm
      · simp only [if_true, State.cqDoorBell, bellCheck_none hready hline hon]
        exact if_neg (by simp only [bellOf]; omega)
    obtain ⟨hreason, hqueue, -, -⟩ := refuseBell_effect (s := s) (b := bellOf q true v) (n := 0x0203) (by decide) (by decide) q.isLt
    exact .of_goes hexec refuseBell_goes ⟨refuseBell_otherRegs _ _ _ _ _ _ (queuePtr_not_bellRegs q), hreason, hqueue⟩

end Sys2Proof.Machine

namespace Sys2Proof.Machine
open Csr

/-! ## Queues enabled and disabled (R348, R349) -/

/-- A write of a queue's Q_CFG outside the LINE range. -/
theorem storeWord_qCfg {s : State} {q : Nat} {v : Word} (hline : s.inLineRange q = false) :
    s.storeWord (fun t => t) ⟨Q_CFG, q, 0, 2⟩ v = ⟨(s.written Q_CFG q 2 v).queueEnableWrite q (v.getLsbD 0), 0, false⟩ := by
  have hctrl : ¬ ((2 : Nat) ≠ 0 ∧ Q_CFG.base = (ctrlReg 2).base) := by decide
  simp only [State.storeWord, hctrl, if_false, writeEffect_hostq, State.hostqWrite, hline, Bool.false_eq_true]
  rfl

theorem storeWord_qCfg_line {s : State} {q : Nat} {v : Word} (hline : s.inLineRange q = true) :
    s.storeWord (fun t => t) ⟨Q_CFG, q, 0, 2⟩ v = ⟨s, 0x0211, false⟩ := by
  have hctrl : ¬ ((2 : Nat) ≠ 0 ∧ Q_CFG.base = (ctrlReg 2).base) := by decide
  simp only [State.storeWord, hctrl, if_false, writeEffect_hostq, State.hostqWrite, hline, if_true]

section
variable {s : State} {q : Fin 8192}

theorem queueEnable_otherRegs : OtherRegs [Q_CFG.addr q 0, Q_STATUS.addr q 0, HOSTQ_STATUS.addr 0 0] s (s.queueEnable q) := by
  unfold State.queueEnable
  extract_lets ab s1 s2
  have h1 : OtherRegs [Q_CFG.addr q 0, Q_STATUS.addr q 0, HOSTQ_STATUS.addr 0 0] s s1 :=
    .andAddWrap (.andSet (.andSet .refl (by simp [Q_CFG.ENABLE])) (by simp [Q_STATUS.STOPPED])) (by simp [HOSTQ_STATUS.QUEUES_ENABLED])
  exact (h1.andSet (by simp [Q_STATUS.INFLIGHT])).trans (.of_csr rfl)

/-- The registers that enabling a queue leaves. -/
theorem queueEnable_csr : ∃ n, (s.queueEnable q).csr =
    ((((s.set Q_CFG.ENABLE 1 q).set Q_STATUS.STOPPED 0 q).addWrap HOSTQ_STATUS.QUEUES_ENABLED 1).set Q_STATUS.INFLIGHT n q).csr := ⟨_, rfl⟩

theorem queueEnable_ended {w : Work} (h : w ∈ s.hostq.abandoned) (hq : w.queue = q.val) : Ended (s.queueEnable q) w 0x020B true false :=
  ⟨_, List.mem_append_right _ (List.mem_map.mpr ⟨w, List.mem_filter.mpr ⟨h, by simpa using hq⟩, rfl⟩), rfl, rfl, rfl, rfl⟩

theorem queueEnable_abandoned : (s.queueEnable q).hostq.abandoned = s.hostq.abandoned.filter (fun w => w.queue ≠ q.val) := rfl

theorem queueEnable_enable : (s.queueEnable q).get Q_CFG.ENABLE q = 1 := by
  obtain ⟨n, hcsr⟩ := queueEnable_csr (s := s) (q := q)
  rw [get_congr hcsr]
  simp (disch := decide) [State.addWrap]

theorem queueEnable_stopped : (s.queueEnable q).get Q_STATUS.STOPPED q = 0 := by
  obtain ⟨n, hcsr⟩ := queueEnable_csr (s := s) (q := q)
  rw [get_congr hcsr]
  simp (disch := decide) [State.addWrap]

theorem queueEnable_class : (s.queueEnable q).get Q_CFG.CLASS q = s.get Q_CFG.CLASS q := by
  obtain ⟨n, hcsr⟩ := queueEnable_csr (s := s) (q := q)
  rw [get_congr hcsr]
  simp (disch := decide) [State.addWrap]

theorem queueEnable_count :
    (s.queueEnable q).get HOSTQ_STATUS.QUEUES_ENABLED = (s.get HOSTQ_STATUS.QUEUES_ENABLED + 1) % 2 ^ HOSTQ_STATUS.QUEUES_ENABLED.w := by
  obtain ⟨n, hcsr⟩ := queueEnable_csr (s := s) (q := q)
  rw [get_congr hcsr, get_set_fin _ _ _ _ _ _ _ _ (by decide), get_addWrap _ _ _ _ _ (by decide)]
  simp (disch := decide)

theorem fenceOpen_of_same {s t : State} {q : Nat} (hd : t.hostq.dispatched = s.hostq.dispatched) (hf : t.hostq.finished = s.hostq.finished) :
    t.fenceOpen q = s.fenceOpen q := by
  simp only [State.fenceOpen, hd, hf]

/-- A queue disabled, its copies gone. -/
def State.queueClosed (s : State) (q : Nat) : State :=
  ((s.set Q_CFG.ENABLE 0 q).discardFetched q).set HOSTQ_STATUS.QUEUES_ENABLED (s.get HOSTQ_STATUS.QUEUES_ENABLED - 1)

theorem queueClosed_csr : (s.queueClosed q).csr =
    ((s.set Q_CFG.ENABLE 0 q).set HOSTQ_STATUS.QUEUES_ENABLED (s.get HOSTQ_STATUS.QUEUES_ENABLED - 1)).csr := rfl

theorem queueClosed_draining : (s.queueClosed q).get Q_STATUS.DRAINING q = s.get Q_STATUS.DRAINING q := by
  rw [get_congr queueClosed_csr]
  simp (disch := decide)

/-- Disabling a queue: it drains while a descriptor of it has not completed. -/
theorem queueDisable_eq : s.queueDisable q =
    if s.fenceOpen q then s.queueClosed q else (s.queueClosed q).set Q_STATUS.DRAINING 1 q := rfl

theorem queueDisable_enable : (s.queueDisable q).get Q_CFG.ENABLE q = 0 := by
  have hclosed : (s.queueClosed q).get Q_CFG.ENABLE q = 0 := by
    rw [get_congr queueClosed_csr]
    simp (disch := decide)
  rw [queueDisable_eq]
  split
  · exact hclosed
  · simpa (disch := decide) using hclosed

theorem queueDisable_count :
    (s.queueDisable q).get HOSTQ_STATUS.QUEUES_ENABLED = s.get HOSTQ_STATUS.QUEUES_ENABLED - 1 := by
  have hlt : s.get HOSTQ_STATUS.QUEUES_ENABLED < 2 ^ HOSTQ_STATUS.QUEUES_ENABLED.w := Nat.mod_lt _ (by decide)
  have hclosed : (s.queueClosed q).get HOSTQ_STATUS.QUEUES_ENABLED = s.get HOSTQ_STATUS.QUEUES_ENABLED - 1 := by
    rw [get_congr queueClosed_csr, get_set_mod _ _ _ _ _ (by decide)]
    exact Nat.mod_eq_of_lt (by omega)
  rw [queueDisable_eq]
  split
  · exact hclosed
  · simpa (disch := decide) using hclosed

theorem queueDisable_hostq : (s.queueDisable q).hostq = { s.hostq with fetched := s.hostq.fetched.filter (fun f => f.work.queue ≠ q.val) } := by
  rw [queueDisable_eq]
  split <;> rfl

theorem queueDisable_draining : (s.queueDisable q).on Q_STATUS.DRAINING q = (s.on Q_STATUS.DRAINING q || !s.fenceOpen q) := by
  rw [queueDisable_eq]
  split
  · next h => simp [State.on, queueClosed_draining, h]
  · next h =>
    rw [Bool.not_eq_true] at h
    simp (disch := decide) [State.on, h]

end

section
variable {s : State} {q : Fin 8192} {v : Word}

theorem qCfg_written_enable : (s.written Q_CFG q 2 v).on Q_CFG.ENABLE q = s.on Q_CFG.ENABLE q :=
  congrArg (· == 1) (written_get_enable s v q (by decide))

theorem qCfg_written_draining : (s.written Q_CFG q 2 v).on Q_STATUS.DRAINING q = s.on Q_STATUS.DRAINING q := by
  simp (disch := decide) [State.on]

theorem queueEnableWrite_enable (hbit : v.getLsbD 0 = true) (hoff : s.on Q_CFG.ENABLE q = false)
    (hidle : s.on Q_STATUS.DRAINING q = false) (hcheck : ((s.written Q_CFG q 2 v).queueCheck q).isNone = true) :
    (s.written Q_CFG q 2 v).queueEnableWrite q (v.getLsbD 0) = (s.written Q_CFG q 2 v).queueEnable q := by
  unfold State.queueEnableWrite
  simp only [qCfg_written_enable, qCfg_written_draining, hbit, hoff, hidle, Option.isNone_iff_eq_none.mp hcheck]
  rfl

theorem queueEnableWrite_refused {r : Nat} (hbit : v.getLsbD 0 = true) (hoff : s.on Q_CFG.ENABLE q = false)
    (hidle : s.on Q_STATUS.DRAINING q = false) (hcheck : (s.written Q_CFG q 2 v).queueCheck q = some r) :
    (s.written Q_CFG q 2 v).queueEnableWrite q (v.getLsbD 0) =
      (((s.written Q_CFG q 2 v).set Q_STATUS.REASON r q).queueLog r q 0 0).raise HOSTQ_INT_STATUS.CONFIG_REFUSED := by
  unfold State.queueEnableWrite
  simp only [qCfg_written_enable, qCfg_written_draining, hbit, hoff, hidle, hcheck]
  rfl

theorem queueEnableWrite_disable (hbit : v.getLsbD 0 = false) (hon : s.on Q_CFG.ENABLE q = true) :
    (s.written Q_CFG q 2 v).queueEnableWrite q (v.getLsbD 0) = (s.written Q_CFG q 2 v).queueDisable q := by
  unfold State.queueEnableWrite
  simp only [qCfg_written_enable, hbit, hon]
  rfl

end

/-- Settles O17: the write of Q_CFG, and the end of a queue's drain. -/
theorem queueEnable : Obligations.QueueEnable := by
  unfold Obligations.QueueEnable
  refine ⟨?enable, ?refused, ?disable, ?line, ?drainEnd⟩
  case enable =>
    rintro s m tag q v s1 ⟨hw, hline, hbit, hoff⟩ ⟨hidle, hcheck⟩
    have hstore := (storeWord_qCfg hline).trans
      (congrArg (fun t : State => (⟨t, 0, false⟩ : Wr)) (queueEnableWrite_enable hbit hoff hidle hcheck))
    refine does_of_done (t := (s.written Q_CFG q 2 v).queueEnable q) (k := [.csr, .hostq]) rfl (by decide) q.isLt hw hstore
      (.step (.step .refl written_goes (by decide)) queueEnable_goes (by decide)) (by decide)
      ⟨?_, ?_, ?_, ?_, ?_, ?_, ?_, answered_answers _ _ _ _ _⟩
    · rw [answered_on, State.on, queueEnable_enable]
      rfl
    · rw [answered_on, State.on, queueEnable_stopped]
      rfl
    · rw [answered_get, queueEnable_class]
      rfl
    · rw [answered_get, queueEnable_count]
      simp (disch := decide)
    · rw [answered_hostq, queueEnable_abandoned]
      rfl
    · intro w hmem hq
      obtain ⟨f, hf, hrest⟩ := queueEnable_ended (s := s.written Q_CFG q 2 v) hmem hq
      exact ⟨f, by rwa [answered_hostq], hrest⟩
    · exact answered_otherRegs _ _ _ _ _ ((written_otherRegs s (by simp)).trans queueEnable_otherRegs)
  case refused =>
    rintro s m tag q v r s1 ⟨hw, hline, hbit, hoff⟩ ⟨hidle, hcheck⟩
    have hstore := (storeWord_qCfg hline).trans
      (congrArg (fun t : State => (⟨t, 0, false⟩ : Wr)) (queueEnableWrite_refused hbit hoff hidle hcheck))
    refine does_of_done (k := [.csr, .out, .intc]) rfl (by decide) q.isLt hw hstore
      (.step (.step (.step (.step .refl written_goes (by decide)) set_goes (by decide)) queueLog_goes (by decide)) raise_goes (by decide))
      (by decide) ⟨?_, ?_, ?_, ?_, answered_answers _ _ _ _ _⟩
    · have hkept : (s.written Q_CFG q 2 v).on Q_CFG.ENABLE q = false := qCfg_written_enable.trans hoff
      rw [answered_on]
      simpa (disch := decide) [State.on, State.queueLog] using hkept
    · rw [answered_get]
      simp (disch := decide) only [raise_get, State.queueLog, get_fin_set, get_set_mod]
      rfl
    · simp (disch := decide) [State.on]
    · simp (disch := decide) [State.queueLog]
  case disable =>
    rintro s m tag q v ⟨hw, hline, hbit, hon⟩
    have hstore := (storeWord_qCfg hline).trans (congrArg (fun t : State => (⟨t, 0, false⟩ : Wr)) (queueEnableWrite_disable hbit hon))
    refine does_of_done (t := (s.written Q_CFG q 2 v).queueDisable q) (k := [.csr, .hostq]) rfl (by decide) q.isLt hw hstore
      (.step (.step .refl written_goes (by decide)) queueDisable_goes (by decide)) (by decide)
      ⟨?_, ?_, ?_, ?_, ?_, answered_answers _ _ _ _ _⟩
    · rw [answered_on, State.on, queueDisable_enable]
      rfl
    · rw [answered_hostq, queueDisable_hostq]
      rfl
    · rw [answered_on, queueDisable_draining, qCfg_written_draining]
      rfl
    · rw [answered_hostq, queueDisable_hostq]
      rfl
    · rw [answered_get, queueDisable_count]
      simp (disch := decide)
  case line =>
    rintro s m tag q v ⟨hw, hline⟩
    exact does_of_refused (t := s) (k := []) rfl (by decide) q.isLt hw (by decide) (storeWord_qCfg_line hline) .refl (by decide)
      (answered_answers _ _ _ _ _)
  case drainEnd =>
    rintro s q hdrain ⟨hdispatched, hfinished⟩
    have hexec : exec (.queueDrainEnd q) s = .next (s.set Q_STATUS.DRAINING 0 q) := by
      change execQueueDrainEnd q s = _
      simp [execQueueDrainEnd, hdrain, State.fenceOpen, hdispatched, hfinished]
    refine .of_goes hexec set_goes ⟨?_, .set _ _ _ (by simp [Q_STATUS.DRAINING])⟩
    simp (disch := decide) [State.on]

end Sys2Proof.Machine

namespace Sys2Proof.Machine
open Csr

/-! ## Registers outside a block -/

/-- Every register outside block `b` reads as before. -/
def OutsideBlock (b : Nat) (s t : State) : Prop := ∀ (r : Reg) (i j : Nat), r.addr i j / 0x100000 ≠ b → t.rdReg r i j = s.rdReg r i j

section
variable {b : Nat} {a s t : State}

theorem OutsideBlock.refl : OutsideBlock b s s := fun _ _ _ _ => rfl

theorem OutsideBlock.trans (h : OutsideBlock b a s) (k : OutsideBlock b s t) : OutsideBlock b a t := fun r i j w =>
  (k r i j w).trans (h r i j w)

theorem OutsideBlock.get (h : OutsideBlock b s t) {f : Field} {i j : Nat} (w : f.reg.addr i j / 0x100000 ≠ b) : t.get f i j = s.get f i j := by
  simp only [State.get, h f.reg i j w]

theorem OutsideBlock.andSet {f : Field} {v i j : Nat} (h : OutsideBlock b a s) (w : f.reg.addr i j / 0x100000 = b) :
    OutsideBlock b a (s.set f v i j) := fun r i' j' w' =>
  (rdReg_set_far _ _ _ _ (fun e => w' (e ▸ w))).trans (h r i' j' w')

theorem OutsideBlock.andRaise {f : Field} {i : Nat} (h : OutsideBlock b a s) (w : f.reg.addr i 0 / 0x100000 = b) :
    OutsideBlock b a (s.raise f i) := fun r i' j' w' => by
  rw [raise_rdReg]
  exact h.andSet (f := f) (v := 1) w r i' j' w'

/-- A register whose addresses all lie in one block. -/
theorem Reg.addr_block {r : Reg} {b i j : Nat} (h : r.base / 0x100000 = b ∧ r.last / 0x100000 = b) (hi : i < r.n1) (hj : j < r.n2) :
    r.addr i j / 0x100000 = b :=
  le_antisymm (h.2 ▸ Nat.div_le_div_right (Reg.addr_le_last hi hj)) (h.1 ▸ Nat.div_le_div_right (r.base_le_addr i j))

end

/-! ## Counters (R473, R474) -/

theorem enabledCounters_lt {s : State} {n : Nat} (h : n ∈ s.enabledCounters) : n < 512 := by
  simp only [State.enabledCounters, List.mem_filterMap, Option.ite_none_right_eq_some, Option.some.injEq] at h
  obtain ⟨e, _, ⟨_, hlt, _⟩, rfl⟩ := h
  omega

theorem counterAdd_outside {s : State} {n amount : Nat} (hn : n < 512) : OutsideBlock 15 s (s.counterAdd n amount) := by
  have hcount : OutsideBlock 15 s (s.set PMON_CTR.COUNT (s.get PMON_CTR.COUNT n + amount) n) :=
    .andSet .refl (Reg.addr_block (by decide) hn (by decide))
  unfold State.counterAdd
  dsimp only
  split
  · exact hcount
  · have hovf := hcount.andSet (f := PMON_OVF.OVF) (i := n / 64) (j := 0)
      (v := setBit ((s.set PMON_CTR.COUNT (s.get PMON_CTR.COUNT n + amount) n).get PMON_OVF.OVF (n / 64)) (n % 64) true)
      (Reg.addr_block (by decide) (show n / 64 < 8 by omega) (by decide))
    split
    · exact hovf.andRaise (by decide)
    · exact hovf

theorem pmonEdge_outside (s : State) (code amount : Nat) (x : EventAttr) : OutsideBlock 15 s (s.pmonEdge code amount x) := by
  have hfold : ∀ (l : List Nat) (t : State), (∀ n ∈ l, n < 512) → OutsideBlock 15 s t →
      OutsideBlock 15 s (l.foldl (fun st n => st.counterAdd n amount) t) := by
    intro l
    induction l with
    | nil => exact fun t _ h => h
    | cons n r ih =>
      intro t hl ht
      exact ih _ (fun k hk => hl k (by simp [hk])) (ht.trans (counterAdd_outside (hl n (by simp))))
  unfold State.pmonEdge
  split
  · exact hfold _ _ (fun n hn => enabledCounters_lt (List.mem_filter.mp hn).1) .refl
  · exact .refl

@[simp] theorem raise_pending (s : State) (f : Field) (i : Nat) : (s.raise f i).intc.pending = s.intc.pending := by
  simp [State.raise, set_goes.only .intc rfl]

@[simp] theorem raise_active (s : State) (f : Field) (i : Nat) : (s.raise f i).intc.active = s.intc.active := by
  simp [State.raise, set_goes.only .intc rfl]

theorem counterAdd_sources (s : State) (n amount : Nat) :
    (s.counterAdd n amount).intc.pending = s.intc.pending ∧ (s.counterAdd n amount).intc.active = s.intc.active := by
  unfold State.counterAdd
  dsimp only
  split
  · exact ⟨rfl, rfl⟩
  · split
    · simp [set_goes.only .intc rfl]
    · exact ⟨rfl, rfl⟩

theorem pmonEdge_sources (s : State) (code amount : Nat) (x : EventAttr) :
    (s.pmonEdge code amount x).intc.pending = s.intc.pending ∧ (s.pmonEdge code amount x).intc.active = s.intc.active := by
  have hfold : ∀ (l : List Nat) (t : State), t.intc.pending = s.intc.pending ∧ t.intc.active = s.intc.active →
      (l.foldl (fun st n => st.counterAdd n amount) t).intc.pending = s.intc.pending ∧
        (l.foldl (fun st n => st.counterAdd n amount) t).intc.active = s.intc.active := by
    intro l
    induction l with
    | nil => exact fun t h => h
    | cons n r ih =>
      intro t ⟨hp, ha⟩
      obtain ⟨hp', ha'⟩ := counterAdd_sources t n amount
      exact ih _ ⟨hp'.trans hp, ha'.trans ha⟩
  unfold State.pmonEdge
  split
  · exact hfold _ s ⟨rfl, rfl⟩
  · exact ⟨rfl, rfl⟩

/-! ## Events at sources (R403, R407) -/

/-- An event at an idle source makes it pending. -/
theorem event_idle {s : State} {src : Nat} (h : s.isActive src = false) :
    s.event src = State.intcUpdate { s with intc := { s.intc with pending := addOnce s.intc.pending src } } := by
  simp only [State.event, h, Bool.false_eq_true, if_false]

theorem mem_addOnce {α : Type} [DecidableEq α] (l : List α) (a : α) : a ∈ addOnce l a := by
  unfold addOnce
  split <;> simp_all

theorem event_idle_pending {s : State} {src : Nat} (h : s.isActive src = false) : src ∈ (s.event src).intc.pending := by
  rw [event_idle h, intcUpdate_pendingSources]
  exact mem_addOnce _ _

theorem event_active_eq (s : State) (src : Nat) : (s.event src).intc.active = s.intc.active := by
  unfold State.event
  split
  · simp [pmonEdge_sources, set_goes.only .intc rfl, State.addSat]
  · simp

theorem event_idle_otherRegs {s : State} {src : Nat} (h : s.isActive src = false) : OtherRegs [] s (s.event src) := by
  rw [event_idle h]
  exact .of_csr (intcUpdate_csr _)

theorem testBit_setBit_self (m i : Nat) : (setBit m i true).testBit i = true := by
  simp [setBit]

/-- An event at an active source is lost and recorded. -/
theorem event_lost {s : State} {src : Nat} (h : s.isActive src = true) (hlt : src < 2048) :
    ((s.event src).get INTC_LOST.LOST (src / 64)).testBit (src % 64) = true ∧
      (s.event src).get INTC_STATS.LOST = satAdd INTC_STATS.LOST.w (s.get INTC_STATS.LOST) 1 ∧
      (s.event src).on INTC_INT_STATUS.LOST_EVENT = true ∧ (s.event src).intc.pending = s.intc.pending := by
  have hword : src / 64 < 32 := by omega
  let q : Fin 32 := ⟨src / 64, hword⟩
  have hq : src / 64 = q.val := rfl
  simp only [State.event, h, if_true]
  refine ⟨?_, ?_, ?_, ?_⟩
  · rw [get_intcUpdate, (pmonEdge_outside _ _ _ _).get]
    · rw [hq]
      simp (disch := decide) only [get_fin_set, State.addSat, get_set_mod]
      have hbit : src % 64 < INTC_LOST.LOST.w := Nat.mod_lt _ (by decide)
      rw [Nat.testBit_mod_two_pow, testBit_setBit_self, decide_eq_true hbit, Bool.true_and]
    · rw [Reg.addr_block (b := 1) (by decide) hword (by decide)]
      decide
  · rw [get_intcUpdate, (pmonEdge_outside _ _ _ _).get (by decide), get_set_far _ _ _ _ (by decide), get_addSat _ _ _ _ _ (by decide), hq]
    simp (disch := decide) [satAdd]
  · rw [State.on, get_intcUpdate, (pmonEdge_outside _ _ _ _).get (by decide)]
    simp (disch := decide)
  · simp [pmonEdge_sources, set_goes.only .intc rfl, State.addSat]

/-! ## A write that is a violation -/

/-- A command that is a write which its register refuses with the reason `n` as a violation. -/
theorem does_write_violation {s t : State} {m : Master} {tag : BitVec 10} {r : Reg} {i n : Nat} {v w : Word} {fs : List (Field × Nat)}
    {c : Instr} {l k : List Part} {p : State → Prop} (b : Nat) (hc : exec c s = .next (s.regCommand m tag r i fs v)) (hf : forced v fs = w)
    (hr : r.plainIn b = true) (hi : i < r.n1) (hw : Writable s m r i w) (hn : n ≠ 0)
    (he : s.writeEffect (fun t => t) (s.written r i b w) ⟨r, i, 0, b⟩ w = ⟨t, n, true⟩) (ht : Goes k s t)
    (hk : within ([.csr, .mem, .poison, .out, .intc, .myk] ++ k) l = true)
    (hp : p ((t.csrViolation m n (r.addr i 0) w.toNat).answered m tag 1 n)) : Does c s l p := by
  subst hf
  simp only [within, List.all_append, Bool.and_eq_true] at hk
  obtain ⟨hviol, hk'⟩ := hk
  have hout : within [.out, .intc] l = true := by
    simp only [within, List.all_cons, List.all_nil, Bool.and_eq_true] at hviol ⊢
    exact ⟨hviol.2.2.2.1, hviol.2.2.2.2.1, trivial⟩
  have hcommand : s.regCommand m tag r i fs v = (t.csrViolation m n (r.addr i 0) (forced v fs).toNat).answered m tag 1 n := by
    rw [regCommand_of_writable tag (mapped_of_plainIn hr) hi hw, (storeWord_of_plain _ hr).trans he]
    simp [hn]
  refine ⟨_, by rw [hc, hcommand], ?_, hp⟩
  exact (Goes.step (.step (.step .refl ht hk') csrViolation_goes hviol) (answered_goes _ m tag 1 n) hout).only

theorem violation_active (s : State) (x : Violation) : (s.violation x).intc.active = s.intc.active := by
  unfold State.violation
  extract_lets s1 size wr used first s2 base s3
  have h1 : s1.intc = s.intc := addWrap_goes.only .intc rfl
  have h2 : s2.intc = s.intc := rfl
  have h3 : s3.intc = s.intc := (hostWrite_goes.only .intc rfl).trans h1
  split
  · split
    · rw [raise_active, report_goes.only .intc rfl, h2]
    · rw [h2]
  · rw [intcUpdate_active, set_goes.only .intc rfl, h3]

/-- A write of a register that is one field of 64 bits with access RW stores the word. -/
theorem merge_whole {h : Hit} {x : Nat} (hr : h.reg.flds = [⟨0, 64, .rw, x⟩]) (hown : ownEnable h.reg h.block = false) (old v : Word) :
    h.merge old v = v := by
  have hput : FieldInfo.put ⟨0, 64, .rw, x⟩ h.i old v = setBits old 0 64 (getBits v.toNat 0 64) := rfl
  simp only [Hit.merge, hr, List.foldl_cons, List.foldl_nil, hown, Bool.false_eq_true, if_false, hput]
  apply BitVec.eq_of_getLsbD_eq
  intro k hk
  rw [getLsbD_setBits _ _ _ _ _ (by decide) hk, if_pos (by omega), testBit_getBits]
  simp [hk, BitVec.getLsbD]

/-- Settles O14: the writes of the interrupt controller's registers and of the mailboxes, and the repeated INTR. -/
theorem interruptCommands : Obligations.InterruptCommands := by
  unfold Obligations.InterruptCommands
  refine ⟨?raise, ?lost, ?raiseRefused, ?complete, ?badComplete, ?src, ?reserved, ?mailbox, ?resend⟩
  case raise =>
    rintro s m tag v src ⟨hw, hlo, hhi, hidle⟩
    have hidle' : (s.written INTC_RAISE 0 1 v).isActive src = false := hidle
    have hraise : (s.written INTC_RAISE 0 1 v).intcRaise src = .ok ((s.written INTC_RAISE 0 1 v).event src) := if_pos ⟨hlo, hhi⟩
    have hpending := event_idle_pending hidle'
    refine does_write 1 rfl rfl (by decide) (by decide) hw (t := (s.written INTC_RAISE 0 1 v).event src) ?_ event_goes (by decide)
      ⟨?_, ?_, ?_, answered_answers _ _ _ _ _⟩
    · exact congrArg (Wr.of (s.written INTC_RAISE 0 1 v)) hraise
    · rwa [answered_intc_pending]
    · have hlevel : isLevelSource src = false := by
        simp only [isLevelSource, Bool.and_eq_false_iff, decide_eq_false_iff_not]
        omega
      simp only [State.isPending, hlevel, Bool.false_eq_true, if_false, answered_intc_pending, hpending, decide_true]
    · exact answered_otherRegs _ _ _ _ _ ((written_otherRegs s (by decide)).trans ((event_idle_otherRegs hidle').mono (by simp)))
  case lost =>
    rintro s m tag v src ⟨hw, hlo, hhi, hactive⟩
    have hraise : (s.written INTC_RAISE 0 1 v).intcRaise src = .ok ((s.written INTC_RAISE 0 1 v).event src) := if_pos ⟨hlo, hhi⟩
    obtain ⟨hlost, hcount, hevent, hpending⟩ := event_lost (s := s.written INTC_RAISE 0 1 v) (src := src) hactive hhi
    refine does_write 1 rfl rfl (by decide) (by decide) hw (t := (s.written INTC_RAISE 0 1 v).event src) ?_ event_goes (by decide)
      ⟨?_, ?_, ?_, ?_, answered_answers _ _ _ _ _⟩
    · exact congrArg (Wr.of (s.written INTC_RAISE 0 1 v)) hraise
    · rwa [answered_get]
    · rw [answered_get, hcount, written_get_far _ _ _ _ _ (by decide)]
    · rwa [answered_on]
    · rw [answered_intc_pending, hpending]
      rfl
  case raiseRefused =>
    rintro s m tag v ⟨hw, hlt⟩
    have hraise : (s.written INTC_RAISE 0 1 v).intcRaise (INTC_RAISE.SOURCE.of v.toNat) = .error 0x0102 := if_neg (by omega)
    refine does_write_refused 1 rfl rfl (by decide) (by decide) hw (by decide) (t := s.written INTC_RAISE 0 1 v)
      (congrArg (Wr.of (s.written INTC_RAISE 0 1 v)) hraise) written_goes (by decide) ⟨?_, answered_answers _ _ _ _ _⟩
    rw [answered_intc_pending]
    rfl
  case complete =>
    rintro s m tag k v a hw hfind
    have hcomplete : (s.written INTC_COMPLETE k 1 v).intcComplete k (INTC_COMPLETE.SOURCE.of v.toNat) =
        .ok (State.intcUpdate { s.written INTC_COMPLETE k 1 v with
          intc := { s.intc with active := s.intc.active.erase a } }) := by
      have hfind' : (s.written INTC_COMPLETE k 1 v).intc.active.find?
          (fun x => x.src == INTC_COMPLETE.SOURCE.of v.toNat && x.target == k.val) = some a := hfind
      rw [State.intcComplete, hfind']
      rfl
    refine does_write 1 rfl rfl (by decide) k.isLt hw ?_ (intcComplete_goes.of hcomplete) (by decide)
      ⟨?_, ?_, answered_answers _ _ _ _ _⟩
    · have hne : INTC_COMPLETE.base ≠ INTC_RAISE.base := by decide
      simp only [writeEffect_intc, State.intcWrite, hne, if_false, if_true, show forced v [] = v from rfl, hcomplete]
    · rw [answered_intc_active, intcUpdate_active]
    · exact answered_otherRegs _ _ _ _ _ ((written_otherRegs s (by simp)).trans (.of_csr (intcUpdate_csr _)))
  case badComplete =>
    rintro s m tag k v ⟨hw, hany⟩
    have hfind : s.intc.active.find? (fun x => x.src == INTC_COMPLETE.SOURCE.of v.toNat && x.target == k.val) = none := by
      rw [List.find?_eq_none]
      simpa using hany
    have hcomplete : (s.written INTC_COMPLETE k 1 v).intcComplete k (INTC_COMPLETE.SOURCE.of v.toNat) = .error 0x0101 := by
      have hfind' : (s.written INTC_COMPLETE k 1 v).intc.active.find?
          (fun x => x.src == INTC_COMPLETE.SOURCE.of v.toNat && x.target == k.val) = none := hfind
      rw [State.intcComplete, hfind']
    refine does_write_violation 1 rfl rfl (by decide) k.isLt hw (by decide) (n := 0x0101)
      (t := (s.written INTC_COMPLETE k 1 v).raise INTC_INT_STATUS.BAD_COMPLETE) ?_
      (.step (.step .refl written_goes (by decide)) raise_goes (l := [.csr, .out, .intc]) (by decide)) (by decide)
      ⟨?_, ?_, ?_, answered_answers _ _ _ _ _⟩
    · have hne : INTC_COMPLETE.base ≠ INTC_RAISE.base := by decide
      simp only [writeEffect_intc, State.intcWrite, hne, if_false, if_true, show forced v [] = v from rfl, hcomplete]
    · rw [answered_intc_active, State.csrViolation, violation_active, raise_active]
      rfl
    · rw [answered_on, State.csrViolation, State.on, (violation_otherRegs _ _).get (by decide)]
      simp (disch := decide)
    · rw [answered_get, State.csrViolation, violation_total, raise_get, get_set_far _ _ _ _ (by decide)]
      simp (disch := decide)
  case src =>
    rintro s m tag src v ⟨hw, hres⟩
    refine does_write 1 rfl rfl (by decide) src.isLt hw (t := s.written INTC_SRC src 1 v) ?_ (k := []) .refl (by decide)
      ⟨?_, ?_, answered_answers _ _ _ _ _⟩
    · have hne : INTC_SRC.base ≠ INTC_RAISE.base ∧ INTC_SRC.base ≠ INTC_COMPLETE.base := by decide
      simp only [writeEffect_intc, State.intcWrite, hne, if_false, hres, and_false, Bool.false_eq_true]
      rfl
    · rw [answered_rdReg, State.written, rdReg_wrReg_same]
    · exact answered_otherRegs _ _ _ _ _ (written_otherRegs s (by simp))
  case reserved =>
    rintro s m tag src v ⟨hw, hres⟩
    refine does_of_done (t := s) (k := []) rfl (by decide) src.isLt hw ?_ .refl (by decide)
      ⟨answered_otherRegs _ _ _ _ _ .refl, answered_answers _ _ _ _ _⟩
    have hne : INTC_SRC.base ≠ INTC_RAISE.base ∧ INTC_SRC.base ≠ INTC_COMPLETE.base := by decide
    refine (storeWord_of_plain (b := 1) _ (by decide)).trans ?_
    simp only [writeEffect_intc, State.intcWrite, hne, if_false, hres, and_self, if_true]
  case mailbox =>
    rintro s m tag k v ⟨hw, hidle⟩
    have hidle' : (s.written TOP_MBOX k 0 v).isActive (1173 + k.val) = false := hidle
    refine does_write 0 rfl rfl (by decide) k.isLt hw (t := (s.written TOP_MBOX k 0 v).event (1173 + k.val)) ?_ event_goes (by decide)
      ⟨?_, ?_, ?_, answered_answers _ _ _ _ _⟩
    · have hne : TOP_MBOX.base ≠ TOP_VLOG_PTR.base := by decide
      simp only [writeEffect_top, State.topWrite, hne, false_and, if_false, if_true]
      rfl
    · rw [answered_rdReg, event_idle_otherRegs hidle' _ _ _ (by simp), State.written, rdReg_wrReg_same]
      exact merge_whole rfl (show ownEnable TOP_MBOX 0 = false by decide) _ _
    · rw [answered_intc_pending]
      exact event_idle_pending hidle'
    · exact answered_otherRegs _ _ _ _ _ ((written_otherRegs s (by simp)).trans ((event_idle_otherRegs hidle').mono (by simp)))
  case resend =>
    rintro s ⟨hprio, hhost⟩
    have hexec : exec .intrResend s = .next (s.sendIntr.addSat INTC_STATS.RESEND 1) := if_neg (by simp [hprio, hhost])
    refine .of_goes hexec (.step (.step .refl emit_goes (by decide)) addSat_goes (by decide)) ⟨?_, ?_, rfl⟩
    · rw [get_addSat _ _ _ _ _ (by decide)]
      rfl
    · exact .andAddSat (.andEmit .refl) (by decide)

end Sys2Proof.Machine

namespace Sys2Proof.Machine
open Csr

/-! ## The queues that are enabled, as registers -/

/-- An entry of another register stays where a register word is stored. -/
theorem mem_wordPut_other {l : List (Nat × Word)} {k x : Nat} {d v y : Word} (h : x ≠ k) : (x, y) ∈ wordPut l k d v ↔ (x, y) ∈ l := by
  unfold wordPut
  dsimp only
  split
  · simp [h]
  · rw [mem_entryPut]
    simp [h]

theorem mem_queuesOn {s : State} {q : Nat} : q ∈ s.queuesOn ↔ q < 8192 ∧ ∃ w, (Q_CFG.addr q 0, w) ∈ s.csr ∧ w.getLsbD 0 = true := by
  simp only [State.queuesOn, List.mem_filterMap, Option.ite_none_right_eq_some, Option.some.injEq]
  have haddr : Q_CFG.addr q 0 = Q_CFG.base + q * 0x40 := rfl
  constructor
  · rintro ⟨⟨a, w⟩, hmem, ⟨hbase, hlt, hmod, hbit⟩, hq⟩
    dsimp only at hbase hlt hmod hbit hq
    have ha : Q_CFG.addr q 0 = a := by omega
    exact ⟨by omega, w, ha ▸ hmem, hbit⟩
  · rintro ⟨hlt, w, hmem, hbit⟩
    refine ⟨_, hmem, ⟨?_, ?_, ?_, hbit⟩, ?_⟩
    all_goals
      dsimp only
      omega

theorem queuesOn_wrReg {s : State} {r : Reg} {v : Word} {i j q : Nat} (h : q < 8192 → r.addr i j ≠ Q_CFG.addr q 0) :
    q ∈ (s.wrReg r v i j).queuesOn ↔ q ∈ s.queuesOn := by
  rw [mem_queuesOn, mem_queuesOn]
  refine and_congr_right fun hq => exists_congr fun w => and_congr_left fun _ => ?_
  exact mem_wordPut_other (h hq).symm

/-! ## Queues stopped at the loss of the host (R396) -/

/-- The stop of a queue for its ring. -/
def State.stopRing (s : State) (q : Nat) : State := (s.set Q_STATUS.STOPPED 1 q).set Q_STATUS.REASON 0x0207 q

/-- Whether a queue stands stopped for its ring. -/
def State.ringStopped (s : State) (q : Nat) : Prop := s.get Q_STATUS.STOPPED q = 1 ∧ s.get Q_STATUS.REASON q = 0x0207

theorem stopRing_ringStopped (s : State) (k q : Nat) (h : k = q ∨ s.ringStopped q) : (s.stopRing k).ringStopped q := by
  unfold State.ringStopped State.stopRing at *
  by_cases hk : k = q
  · subst hk
    constructor
    · simp (disch := decide)
    · simp (disch := decide)
  · have hne : Q_STATUS.addr k 0 ≠ Q_STATUS.addr q 0 := by
      simp only [Reg.addr, Q_STATUS]
      omega
    obtain ⟨h1, h2⟩ := h.resolve_left hk
    have far : ∀ f : Field, f.reg = Q_STATUS → ((s.set Q_STATUS.STOPPED 1 k).set Q_STATUS.REASON 0x0207 k).get f q = s.get f q := by
      intro f hf
      rw [get_set_far _ _ _ _ (by rw [hf]; exact hne), get_set_far _ _ _ _ (by rw [hf]; exact hne)]
    rw [far _ rfl, far _ rfl]
    exact ⟨h1, h2⟩

theorem foldl_stopRing {l : List Nat} {q : Nat} (s : State) (h : q ∈ l ∨ s.ringStopped q) : (l.foldl State.stopRing s).ringStopped q := by
  induction l generalizing s with
  | nil => simpa using h
  | cons k r ih =>
    refine ih _ ?_
    rcases h with h | h
    · rcases List.mem_cons.mp h with rfl | h
      · exact .inr (stopRing_ringStopped _ _ _ (.inl rfl))
      · exact .inl h
    · exact .inr (stopRing_ringStopped _ _ _ (.inr h))

theorem foldl_stopRing_outside (l : List Nat) (s : State) (h : ∀ q ∈ l, q < 8192) : OutsideBlock 2 s (l.foldl State.stopRing s) := by
  induction l generalizing s with
  | nil => exact .refl
  | cons k r ih =>
    have hk : Q_STATUS.addr k 0 / 0x100000 = 2 := Reg.addr_block (by decide) (h k (by simp)) (by decide)
    exact (OutsideBlock.andSet (f := Q_STATUS.REASON) (.andSet (f := Q_STATUS.STOPPED) .refl hk) hk).trans
      (ih _ (fun q hq => h q (by simp [hq])))

/-! ## Training (R391) -/

theorem mykWidth_lt (n : Nat) : mykWidth n < 8 := by
  unfold mykWidth
  split
  · omega
  · split <;> omega

theorem linkTrained_effect {s : State} {lanes : Nat} (h : mykWidth lanes ≠ 0) :
    (s.linkTrained lanes).get TOP_MYK_STATUS.STATE = 1 ∧ (s.linkTrained lanes).get TOP_MYK_STATUS.WIDTH = mykWidth lanes := by
  have hfits : mykWidth lanes % 2 ^ TOP_MYK_STATUS.WIDTH.w = mykWidth lanes := Nat.mod_eq_of_lt (mykWidth_lt lanes)
  have hkept : ∀ t : State, ∀ f : Field, f.reg = TOP_MYK_STATUS →
      (if mykWidth lanes < 4 then (t.report 0x0010).raise TOP_INT_STATUS.LINK else t).get f = t.get f := by
    intro t f hf
    split
    · rw [raise_get, get_set_far _ _ _ _ (by rw [hf]; decide), get_report]
    · rfl
  have hretrain : ∀ (t : State) (b : Bool) (f : Field), f.reg = TOP_MYK_STATUS →
      (if b = true then ((t.addSat TOP_MYK_COUNT.RETRAINS 1).report 0x0011).raise TOP_INT_STATUS.LINK else t).get f = t.get f := by
    intro t b f hf
    split
    · rw [raise_get, get_set_far _ _ _ _ (by rw [hf]; decide), get_report, State.addSat, get_set_far _ _ _ _ (by rw [hf]; decide)]
    · rfl
  unfold State.linkTrained
  simp only [h, if_false]
  constructor
  · rw [hretrain _ _ _ rfl, hkept _ _ rfl]
    simp (disch := decide)
  · rw [hretrain _ _ _ rfl, hkept _ _ rfl]
    simp (disch := decide) [hfits]

theorem linkRetrain_of_up {s : State} (h : s.get TOP_MYK_STATUS.STATE = 1) :
    s.linkRetrain = State.set { s with myk := { s.myk with replays := 0 } } TOP_MYK_STATUS.STATE 2 := if_pos h

theorem top_ne_qCfg {r : Reg} {q : Nat} (h : r.addr 0 0 < Q_CFG.base) : q < 8192 → r.addr 0 0 ≠ Q_CFG.addr q 0 := by
  intro _
  have := Q_CFG.base_le_addr q 0
  omega

/-! ## Registers that saving a step record leaves -/

theorem event_get {s : State} {src i j : Nat} {f : Field} (hsrc : src < 2048)
    (h : f.reg.addr i j / 0x100000 ≠ 1 ∧ f.reg.addr i j / 0x100000 ≠ 15) : (s.event src).get f i j = s.get f i j := by
  obtain ⟨h1, h15⟩ := h
  unfold State.event
  split
  · have hlost : INTC_LOST.addr (src / 64) 0 / 0x100000 = 1 := Reg.addr_block (by decide) (show src / 64 < 32 by omega) (by decide)
    have hout : OutsideBlock 1 s (((s.set INTC_LOST.LOST (setBit (s.get INTC_LOST.LOST (src / 64)) (src % 64) true) (src / 64)).addSat
        INTC_STATS.LOST 1).set INTC_INT_STATUS.LOST_EVENT 1) :=
      .andSet (.andSet (.andSet .refl hlost) (by decide)) (by decide)
    rw [get_intcUpdate, (pmonEdge_outside _ _ _ _).get h15, hout.get h1]
  · rw [get_intcUpdate]
    rfl

/-- Saving a step record changes JOB_STATUS, the count of reachable sites and of discarded host writes, and what an event may
change. -/
theorem saveRec_keeps {s : State} {k : Nat} {r : StepRec} {f : Field} {i j : Nat} (hk : k < 128)
    (hlist : f.reg.addr i j ∉ [JOB_STATUS.addr k 0, XPORT_STATUS.addr 0 0, TOP_MYK_COUNT.addr 0 0])
    (hblock : f.reg.addr i j / 0x100000 ≠ 1 ∧ f.reg.addr i j / 0x100000 ≠ 15) : (s.saveRec k r).get f i j = s.get f i j := by
  simp only [List.mem_cons, List.not_mem_nil, or_false, not_or] at hlist
  obtain ⟨hjob, hxport, hmyk⟩ := hlist
  unfold State.saveRec
  extract_lets r' s1 s2 b a
  have hs2 : OtherRegs [JOB_STATUS.addr k 0] s s2 := by
    refine .andSet (.andSet (.andSet (.of_csr rfl) ?_) ?_) ?_
    all_goals exact List.mem_singleton.mpr rfl
  rw [event_get (by omega) hblock, State.reachUpdate, get_set_far _ _ _ _ (fun he => hxport he.symm),
    (hostWrite_otherRegs _ _ _).get (by simpa using hmyk), (hostWrite_otherRegs _ _ _).get (by simpa using hmyk),
    hs2.get (by simpa using hjob)]

/-- Whether a field lies in a register that saving a step record leaves alone. -/
def Field.unsaved (f : Field) : Bool :=
  decide (f.reg.addr 0 0 / 0x100000 ∉ [1, 9, 15] ∧ f.reg.addr 0 0 ≠ TOP_MYK_COUNT.addr 0 0)

theorem saveRec_get {s : State} {j : Nat} {r : StepRec} {f : Field} (hj : j < 128) (h : f.unsaved = true) :
    (s.saveRec j r).get f = s.get f := by
  simp only [Field.unsaved, decide_eq_true_eq, List.mem_cons, List.not_mem_nil, or_false, not_or] at h
  obtain ⟨⟨h1, h9, h15⟩, hmyk⟩ := h
  have hjob : JOB_STATUS.addr j 0 / 0x100000 = 9 := Reg.addr_block (by decide) hj (by decide)
  have hxport : XPORT_STATUS.addr 0 0 / 0x100000 = 9 := by decide
  refine saveRec_keeps hj ?_ ⟨h1, h15⟩
  simp only [List.mem_cons, List.not_mem_nil, or_false, not_or]
  exact ⟨fun he => h9 (he ▸ hjob), fun he => h9 (he ▸ hxport), hmyk⟩

theorem foldl_saveRec_get (f : Field) (l : List Nat) (s : State) (hl : ∀ j ∈ l, j < 128) (h : f.unsaved = true) :
    (l.foldl (fun s j => s.saveRec j (s.stepRec j)) s).get f = s.get f := by
  induction l generalizing s with
  | nil => rfl
  | cons j r ih =>
    rw [List.foldl_cons, ih _ (fun k hk => hl k (by simp [hk])), saveRec_get (hl j (by simp)) h]

theorem readBytes_writeBytes (s : State) (a : Nat) (bs : Bytes) : (s.writeBytes a bs).readBytes a bs.length = bs := by
  apply List.ext_getElem
  · simp [State.readBytes]
  · intro i h1 h2
    simp [State.readBytes, readByte_writeBytes_same s a i bs h2]

/-- Settles O15: training, replays, the loss of the link and of the host, and the ends of host reads. -/
theorem mykabelLink : Obligations.MykabelLink := by
  unfold Obligations.MykabelLink
  refine ⟨?trained, ?replay, ?retrain, ?lock, ?lost, ?restored, ?read, ?bad, ?unasked, ?timeout⟩
  case trained =>
    rintro s lanes ⟨hstate, hwidth⟩
    have hexec : exec (.mykLinkTrained lanes) s = .next (s.linkTrained lanes.toNat) := if_pos (by simpa using hstate)
    exact .of_goes hexec linkTrained_goes (linkTrained_effect hwidth)
  case replay =>
    intro s first hlt
    generalize hn : (if first then 0 else s.myk.replays) + 1 = n at hlt ⊢
    have hexec : exec (.mykReplay first) s = .next (State.addSat { s with myk := { s.myk with replays := n } } TOP_MYK_COUNT.REPLAYS 1) := by
      change execMykReplay first s = _
      simp only [execMykReplay, hn]
      exact if_neg (by omega)
    refine .of_goes hexec (.step (.myk .refl (by decide)) addSat_goes (by decide)) ⟨?_, rfl, ?_⟩
    · rw [get_addSat _ _ _ _ _ (by decide)]
      rfl
    · exact .andAddSat (.of_csr rfl) (by decide)
  case retrain =>
    rintro s first ⟨hge, hup⟩
    generalize hn : (if first then 0 else s.myk.replays) + 1 = n at hge ⊢
    generalize hu : State.addSat { s with myk := { s.myk with replays := n } } TOP_MYK_COUNT.REPLAYS 1 = u
    have hstate : u.get TOP_MYK_STATUS.STATE = 1 := by
      rw [← hu, State.addSat, get_set_far _ _ _ _ (by decide)]
      exact hup
    have hcount : u.get TOP_MYK_COUNT.REPLAYS = satAdd TOP_MYK_COUNT.REPLAYS.w (s.get TOP_MYK_COUNT.REPLAYS) 1 := by
      rw [← hu, get_addSat _ _ _ _ _ (by decide)]
      rfl
    have hother : OtherRegs [TOP_MYK_COUNT.addr 0 0, TOP_MYK_STATUS.addr 0 0] s u := by
      rw [← hu]
      exact .andAddSat (.of_csr rfl) (by decide)
    have hto : Goes [.csr, .myk] s u := hu ▸ .step (.myk .refl (by decide)) addSat_goes (by decide)
    have hexec : exec (.mykReplay first) s = .next u.linkRetrain := by
      change execMykReplay first s = _
      simp only [execMykReplay, hn, hu]
      exact if_pos hge
    refine .of_goes hexec (.step hto linkRetrain_goes (by decide)) ?_
    rw [linkRetrain_of_up hstate]
    refine ⟨?_, ?_, rfl, .andSet (hother.trans (.of_csr rfl)) (by decide)⟩
    · rw [get_set_far _ _ _ _ (by decide)]
      exact hcount
    · simp (disch := decide)
  case lock =>
    intro s hup
    have hexec : exec .mykabelLossOfLock s = .next s.linkRetrain := rfl
    refine .of_goes hexec linkRetrain_goes ?_
    rw [linkRetrain_of_up hup]
    exact ⟨by simp (disch := decide), rfl, .andSet (.of_csr rfl) (by decide)⟩
  case lost =>
    intro s hstate
    generalize hu : ((s.set TOP_MYK_STATUS.STATE 3).report 0x0013).raise TOP_INT_STATUS.LINK = u
    have hexec : exec .hostLost s = .next ((u.queuesOn.filter u.hostRings).foldl State.stopRing u) := by
      subst hu
      exact if_pos (by simpa using hstate)
    have hother : OtherRegs [TOP_MYK_STATUS.addr 0 0, TOP_INT_STATUS.addr 0 0] s u := by
      rw [← hu]
      exact .andRaise (.andReport (.andSet .refl (by decide))) (by decide)
    have hto : Goes [.csr, .out, .intc] s u := by
      rw [← hu]
      exact .step (.step (.step .refl set_goes (by decide)) report_goes (by decide)) raise_goes (by decide)
    have hqueues : ∀ q, q ∈ u.queuesOn ↔ q ∈ s.queuesOn := by
      intro q
      have hcsr : u.csr = ((s.set TOP_MYK_STATUS.STATE 3).set TOP_INT_STATUS.LINK 1).csr := by
        rw [← hu, raise_csr]
        rfl
      have hu' : q ∈ u.queuesOn ↔ q ∈ ((s.set TOP_MYK_STATUS.STATE 3).set TOP_INT_STATUS.LINK 1).queuesOn := by
        simp only [State.queuesOn, hcsr]
      rw [hu', State.set, queuesOn_wrReg (top_ne_qCfg (by decide)), State.set, queuesOn_wrReg (top_ne_qCfg (by decide))]
    have hrings : ∀ q, q < 8192 → u.hostRings q = s.hostRings q := by
      intro q hq
      have hsq : u.get Q_SQ.ADDR q = s.get Q_SQ.ADDR q :=
        hother.get (by
          simp only [Q_SQ.ADDR, Q_SQ, TOP_MYK_STATUS, TOP_INT_STATUS, Reg.addr, List.mem_cons, List.not_mem_nil, or_false]
          omega)
      have hcq : u.get Q_CQ.ADDR q = s.get Q_CQ.ADDR q :=
        hother.get (by
          simp only [Q_CQ.ADDR, Q_CQ, TOP_MYK_STATUS, TOP_INT_STATUS, Reg.addr, List.mem_cons, List.not_mem_nil, or_false]
          omega)
      simp only [State.hostRings, hsq, hcq]
    have hlt : ∀ q ∈ u.queuesOn.filter u.hostRings, q < 8192 := fun q hq => (mem_queuesOn.mp (List.mem_filter.mp hq).1).1
    have hout := foldl_stopRing_outside _ u hlt
    refine .of_goes hexec (.foldl hto (fun t q h => .step (.step h set_goes (by decide)) set_goes (by decide))) ⟨?_, ?_, ?_, ?_⟩
    · rw [State.hostLost, hout.get (by decide), ← hu]
      simp (disch := decide)
    · have hsent : Sent s u (.report 0x0013) := by
        rw [← hu]
        exact .of_goes (sent_report 0x0013 set_goes.out) raise_goes
      exact hsent.of_goes (.foldl (l := [.csr]) .refl (fun t q h => .step (.step h set_goes (by decide)) set_goes (by decide)))
    · rw [State.on, hout.get (by decide), ← hu]
      simp (disch := decide)
    · rw [List.all_eq_true]
      intro q hq
      obtain ⟨hon, hring⟩ := List.mem_filter.mp hq
      have hq' : q < 8192 := (mem_queuesOn.mp hon).1
      obtain ⟨hstop, hreason⟩ := foldl_stopRing (l := u.queuesOn.filter u.hostRings) u
        (.inl (List.mem_filter.mpr ⟨(hqueues q).mpr hon, by rwa [hrings q hq']⟩))
      simp [State.on, hstop, hreason]
  case restored =>
    rintro s lanes ⟨hlost, hwidth⟩
    generalize hu : (((s.set TOP_MYK_STATUS.STATE 2).linkTrained lanes.toNat).report 0x0016).raise TOP_INT_STATUS.LINK = u
    have hexec : exec (.hostLinkRestored lanes) s = .next (u.jobsOn.foldl (fun s j => s.saveRec j (s.stepRec j)) u) := by
      subst hu
      exact if_pos ⟨hlost, hwidth⟩
    obtain ⟨hstate, hw⟩ := linkTrained_effect (s := s.set TOP_MYK_STATUS.STATE 2) hwidth
    have hto : Goes [.csr, .out, .intc, .myk] s u := by
      rw [← hu]
      exact .step (.step (.step (.step .refl set_goes (by decide)) linkTrained_goes (by decide)) report_goes (by decide)) raise_goes
        (by decide)
    have hsave : Goes [.csr, .mem, .poison, .out, .intc, .myk, .xport] u (u.jobsOn.foldl (fun s j => s.saveRec j (s.stepRec j)) u) :=
      .foldl .refl (fun t j h => .step h saveRec_goes (by decide))
    have hkept := fun f => foldl_saveRec_get f u.jobsOn u (fun j hj => List.mem_range.mp (List.mem_filter.mp hj).1)
    refine .of_goes hexec (.step (.step .refl hto (by decide)) hsave (by decide)) ⟨?_, ?_, ?_, ?_⟩
    · rw [State.hostLost, hkept _ (by decide), ← hu, raise_get, get_set_far _ _ _ _ (by decide), get_report, hstate]
      rfl
    · rw [hkept _ (by decide), ← hu, raise_get, get_set_far _ _ _ _ (by decide), get_report, hw]
    · have hsent : Sent s u (.report 0x0016) := by
        rw [← hu]
        exact .of_goes (sent_report 0x0016 (set_goes.out.trans linkTrained_goes.out)) raise_goes
      exact hsent.of_goes hsave
    · rw [State.on, hkept _ (by decide), ← hu]
      simp (disch := decide)
  case read =>
    rintro s msg r ⟨hfind, htype, hstatus, hpayload, hlen⟩ ⟨hqueue, hread⟩
    have hexec : exec (.memRdCpl msg) s =
        .next (State.writeBytes { s with myk := { s.myk with reads := s.myk.reads.erase (msg.tag, r) } } r.addr msg.payload) := by
      change execMemRdCpl msg s = _
      simp only [execMemRdCpl, hfind, htype, hstatus, hpayload, hlen, ne_eq, not_true, or_self, and_false, if_false, if_true,
        OfNat.zero_ne_ofNat, State.readEnds, hqueue]
      simp [hread]
    refine .of_goes hexec (.step (.myk .refl (by decide)) writeBytes_goes (by decide)) ⟨rfl, ?_, ?_⟩
    · rw [← hpayload]
      exact readBytes_writeBytes _ _ _
    · intro x hx
      rw [readByte_writeBytes_other _ _ _ _ (by omega)]
      rfl
  case bad =>
    rintro s msg ⟨hany, hbad⟩
    have hexec : exec (.memRdCpl msg) s = .next s.badMessage := by
      change execMemRdCpl msg s = _
      unfold execMemRdCpl
      split
      · next hnone =>
        rw [List.find?_eq_none] at hnone
        rw [List.any_eq_true] at hany
        obtain ⟨x, hx, htag⟩ := hany
        exact absurd htag (hnone x hx)
      · exact if_pos (by tauto)
    refine .of_goes hexec badMessage_goes ⟨?_, ?_, ?_⟩
    · rw [State.badMessage, get_report, get_addSat _ _ _ _ _ (by decide)]
      rfl
    · exact sent_report 0x0012 addSat_goes.out
    · exact .andReport (.andAddSat .refl (by decide))
  case unasked =>
    intro s msg hany
    have hexec : exec (.memRdCpl msg) s = .next (s.addSat TOP_MYK_COUNT.BAD_MSG 1) := by
      change execMemRdCpl msg s = _
      have hfind : s.myk.reads.find? (fun r => r.1 == msg.tag) = none := by
        rw [List.find?_eq_none]
        simpa using hany
      simp only [execMemRdCpl, hfind]
    refine .of_goes hexec addSat_goes ⟨?_, .andAddSat .refl (by decide)⟩
    rw [get_addSat _ _ _ _ _ (by decide)]
    rfl
  case timeout =>
    rintro s tag r ⟨hfind, hqueue, hread⟩
    generalize hu : s.hostReadFault 0x0014 r = u
    have hmyk : u.myk = s.myk := hu ▸ hostReadFault_goes.only .myk rfl
    have hexec : exec (.hostReadTimeout tag) s =
        .next (State.poisonBytes { u with myk := { u.myk with reads := u.myk.reads.erase (tag.val, r) } } r.addr r.len) := by
      change execHostReadTimeout tag s = _
      simp only [execHostReadTimeout, hfind, hu, State.readEnds, hqueue, Bool.false_eq_true, if_false]
      simp [State.poisonBytes, hmyk, hread]
    have hcsr : (State.poisonBytes { u with myk := { u.myk with reads := u.myk.reads.erase (tag.val, r) } } r.addr r.len).csr = u.csr := rfl
    refine .of_goes hexec (.step (.myk (.step .refl (hu ▸ hostReadFault_goes) (by decide)) (by decide)) poisonBytes_goes (by decide))
      ⟨?_, ?_, ?_, ?_⟩
    · exact congrArg (fun m : MykSt => m.reads.erase (tag.val, r)) hmyk
    · have hsent : Sent s u (.report 0x0014) := by
        rw [← hu]
        exact .of_goes (sent_report 0x0014 (set_goes.out.trans set_goes.out)) raise_goes
      exact hsent
    · rw [get_congr hcsr, ← hu, State.hostReadFault]
      simp (disch := decide)
    · rw [State.on, get_congr hcsr, ← hu, State.hostReadFault]
      simp (disch := decide)

end Sys2Proof.Machine

namespace Sys2Proof.Machine
open Csr

/-! ## Job entries (R231 to R234) -/

theorem firstReason_ne_zero {l : List (Bool × Nat)} {r : Nat} (h : firstReason l = some r) (hl : ∀ x ∈ l, x.2 ≠ 0) : r ≠ 0 := by
  induction l with
  | nil => cases h
  | cons x l ih =>
    obtain ⟨c, n⟩ := x
    rw [firstReason] at h
    split at h
    · exact Option.some.inj h ▸ hl (c, n) (by simp)
    · exact ih h (fun y hy => hl y (by simp [hy]))

theorem jobCheck_ne_zero {s : State} {j r : Nat} (h : s.jobCheck j = some r) : r ≠ 0 := by
  refine firstReason_ne_zero h ?_
  simp

theorem paramCheck_ne_zero {s : State} {j r : Nat} (h : s.paramCheck j = some r) : r ≠ 0 := by
  refine firstReason_ne_zero h ?_
  simp

theorem lookupD_assocPut_same {β : Type} (l : List (Nat × β)) (k : Nat) (v d : β) : lookupD (assocPut l k v) k d = v := by
  induction l with
  | nil => simp [assocPut, lookupD]
  | cons x r ih =>
    obtain ⟨a, b⟩ := x
    unfold assocPut
    split
    · next h => simp [lookupD, h]
    · next h => simp [lookupD, h, ih]

/-! ## What entering a step's state leaves -/

theorem saveRec_stepRec (s : State) (j : Nat) (r : StepRec) :
    (s.saveRec j r).stepRec j = { r with updateSeq := (r.updateSeq + 1) % 2 ^ 32 } := by
  unfold State.saveRec
  extract_lets r' s1 s2 b a
  have hxport : ((((s2.hostWrite a (b.take 124)).hostWrite (a + 124) (b.drop 124)).reachUpdate).event (1024 + j)).xport = s1.xport := by
    rw [event_goes.only .xport rfl, reachUpdate_goes.only .xport rfl, hostWrite_goes.only .xport rfl, hostWrite_goes.only .xport rfl]
    rfl
  simp only [State.stepRec, hxport]
  exact lookupD_assocPut_same _ _ _ _

/-- The fields of JOB_STATUS that a step record sets. -/
def State.statusSet (s : State) (j : Nat) (r : StepRec) : State :=
  ((s.set JOB_STATUS.STATE r.state j).set JOB_STATUS.PARTITIONED (b2n r.partitioned) j).set JOB_STATUS.REASON r.reason j

section
variable (s : State) (j : Fin 128) (r : StepRec)

theorem saveRec_status (f : Field) (h : f.reg = JOB_STATUS) : (s.saveRec j r).get f j = (s.statusSet j r).get f j := by
  have hblock : f.reg.addr j 0 / 0x100000 = 9 := by
    rw [h]
    exact Reg.addr_block (by decide) j.isLt (by decide)
  have hxport : XPORT_STATUS.REACHABLE.reg.addr 0 0 ≠ f.reg.addr j 0 := by
    rw [h]
    exact Reg.addr_ne_of_apartFor (n := 1) (n' := 128) (by decide) (by decide) j.isLt
  have hmyk : f.reg.addr j 0 ≠ TOP_MYK_COUNT.addr 0 0 := fun he => by
    rw [he] at hblock
    exact absurd hblock (by decide)
  unfold State.saveRec
  extract_lets r' s1 s2 b a
  have hs2 : s2.csr = (s.statusSet j r).csr := rfl
  rw [event_get (by omega) ⟨by rw [hblock]; decide, by rw [hblock]; decide⟩, State.reachUpdate, get_set_far _ _ _ _ hxport,
    (hostWrite_otherRegs _ _ _).get (by simpa using hmyk), (hostWrite_otherRegs _ _ _).get (by simpa using hmyk), get_congr hs2]

theorem saveRec_state : (s.saveRec j r).get JOB_STATUS.STATE j = r.state % 2 ^ 8 := by
  rw [saveRec_status _ _ _ _ rfl]
  simp (disch := decide) only [State.statusSet, get_set_beside, get_set_mod]
  rfl

theorem saveRec_fingerprint : (s.saveRec j r).get JOB_STATUS.FINGERPRINT j = s.get JOB_STATUS.FINGERPRINT j := by
  rw [saveRec_status _ _ _ _ rfl]
  simp (disch := decide) only [State.statusSet, get_set_beside]

theorem saveRec_jobsEnabled : (s.saveRec j r).get XPORT_STATUS.JOBS_ENABLED = s.get XPORT_STATUS.JOBS_ENABLED := by
  have hfar : ∀ f : Field, f.reg = JOB_STATUS → f.reg.addr j 0 ≠ XPORT_STATUS.JOBS_ENABLED.reg.addr 0 0 := fun f hf => by
    rw [hf]
    exact Reg.addr_ne_of_apartFor (n := 128) (n' := 1) (by decide) j.isLt (by decide)
  unfold State.saveRec
  extract_lets r' s1 s2 b a
  rw [event_get (by omega) (by decide), State.reachUpdate, get_set_beside _ _ _ _ _ _ (by decide),
    (hostWrite_otherRegs _ _ _).get (by decide), (hostWrite_otherRegs _ _ _).get (by decide)]
  change ((s1.statusSet j r)).get XPORT_STATUS.JOBS_ENABLED = _
  rw [State.statusSet, get_set_far _ _ _ _ (hfar _ rfl), get_set_far _ _ _ _ (hfar _ rfl), get_set_far _ _ _ _ (hfar _ rfl)]
  rfl

theorem saveRec_enable : (s.saveRec j r).get JOB_CTRL.ENABLE j = s.get JOB_CTRL.ENABLE j := by
  have hblock : JOB_CTRL.addr j 0 / 0x100000 = 9 := Reg.addr_block (by decide) j.isLt (by decide)
  refine saveRec_keeps j.isLt ?_ ⟨?_, ?_⟩
  · simp only [List.mem_cons, List.not_mem_nil, or_false, not_or]
    refine ⟨Reg.addr_ne_of_apartFor (n := 128) (n' := 128) (by decide) j.isLt j.isLt,
      Reg.addr_ne_of_apartFor (n := 128) (n' := 1) (by decide) j.isLt (by decide),
      Reg.addr_ne_of_apartFor (n := 128) (n' := 1) (by decide) j.isLt (by decide)⟩
  · exact fun he => absurd (hblock.symm.trans he) (by decide)
  · exact fun he => absurd (hblock.symm.trans he) (by decide)

end

/-! ## Job entries enabled -/

/-- The state before the step record of an entry that is enabled is written. -/
def State.jobCounted (s : State) (j : Nat) : State :=
  let t := (s.set JOB_CTRL.ENABLE 1 j).set XPORT_STATUS.JOBS_ENABLED (s.get XPORT_STATUS.JOBS_ENABLED + 1)
  t.set JOB_STATUS.FINGERPRINT (t.fingerprint j) j

theorem fingerprint_congr {s t : State} {j : Nat} (hmem : t.mem = s.mem)
    (hreg : ∀ r : Reg, r = JOB_TMAP ∨ r = JOB_CTX ∨ r = JOB_PARAM0 ∨ r = JOB_SEED → t.rdReg r j = s.rdReg r j) :
    t.fingerprint j = s.fingerprint j := by
  have hbytes : ∀ a n, t.readBytes a n = s.readBytes a n := fun a n => by
    simp only [State.readBytes, State.readByte, hmem]
  simp [State.fingerprint, State.get, hbytes, hreg, JOB_TMAP.ADDR, JOB_CTX.TMAP_ENTRIES, JOB_PARAM0.RANK, JOB_PARAM0.BED_FORMAT,
    JOB_SEED.SEED, JOB_PARAM0.POLICY]

section
variable (s : State) (j : Fin 128)

theorem jobCounted_effect : (s.jobCounted j).get JOB_CTRL.ENABLE j = 1 ∧
    (s.jobCounted j).get XPORT_STATUS.JOBS_ENABLED = (s.get XPORT_STATUS.JOBS_ENABLED + 1) % 2 ^ XPORT_STATUS.JOBS_ENABLED.w ∧
    (s.jobCounted j).get JOB_STATUS.FINGERPRINT j = s.fingerprint j % 2 ^ JOB_STATUS.FINGERPRINT.w ∧
    (s.jobCounted j).get JOB_CTRL.SITES j = s.get JOB_CTRL.SITES j := by
  have hprint : State.fingerprint ((s.set JOB_CTRL.ENABLE 1 j).set XPORT_STATUS.JOBS_ENABLED (s.get XPORT_STATUS.JOBS_ENABLED + 1)) j =
      s.fingerprint j := by
    refine fingerprint_congr rfl fun r hr => ?_
    rcases hr with rfl | rfl | rfl | rfl
    all_goals simp (disch := decide)
  unfold State.jobCounted
  simp only [hprint]
  refine ⟨?_, ?_, ?_, ?_⟩
  · simp (disch := decide)
  · simp (disch := decide)
  · simp (disch := decide)
  · simp (disch := decide)

theorem jobEnable_eq : ∃ r : StepRec, s.jobEnable j = (s.jobCounted j).saveRec j r ∧ r.state = 0 ∧
    r.reachable = (s.jobCounted j).get JOB_CTRL.SITES j := by
  unfold State.jobEnable State.enter State.jobCounted
  extract_lets t u sites was work u'
  exact ⟨_, rfl, rfl, rfl⟩

theorem jobEnable_effect : let t := s.jobEnable j
    t.on JOB_CTRL.ENABLE j = true ∧ (t.stepRec j).state = 0 ∧ (t.stepRec j).reachable = s.get JOB_CTRL.SITES j ∧
      t.get JOB_STATUS.FINGERPRINT j = s.fingerprint j % 2 ^ JOB_STATUS.FINGERPRINT.w ∧ t.get JOB_STATUS.STATE j = 0 ∧
      t.get XPORT_STATUS.JOBS_ENABLED = (s.get XPORT_STATUS.JOBS_ENABLED + 1) % 2 ^ XPORT_STATUS.JOBS_ENABLED.w := by
  obtain ⟨henable, hcount, hprint, hsites⟩ := jobCounted_effect s j
  obtain ⟨r, heq, hstate, hreach⟩ := jobEnable_eq s j
  dsimp only
  rw [heq, saveRec_stepRec]
  refine ⟨?_, hstate, ?_, ?_, ?_, ?_⟩
  · rw [State.on, saveRec_enable, henable]
    rfl
  · exact hreach.trans hsites
  · rw [saveRec_fingerprint, hprint]
  · rw [saveRec_state, hstate, Nat.zero_mod]
  · rw [saveRec_jobsEnabled, hcount]

end

theorem answered_stepRec (s : State) (m : Master) (tag : BitVec 10) (x y j : Nat) :
    (s.answered m tag x y).stepRec j = s.stepRec j := by
  simp only [State.stepRec, answered_xport]

theorem answered_sent {s t : State} {m : Master} {tag : BitVec 10} {x y : Nat} (h : s.out <+: t.out) :
    Sent s (t.answered m tag x y) (answerOf m tag.toNat x y []) :=
  sent_emit _ (h.trans intcUpdate_goes.out)

/-! ## What a write of an entry's registers comes to -/

section
variable {s : State} {j : Fin 128} {v : Word}

theorem jobCtrl_written_enable : (s.written JOB_CTRL j 9 v).on JOB_CTRL.ENABLE j = s.on JOB_CTRL.ENABLE j :=
  congrArg (· == 1) (written_get_enable s v j (by decide))

theorem writeEffect_jobCtrl (t : State) : s.writeEffect (fun t => t) t ⟨JOB_CTRL, j, 0, 9⟩ v = t.jobEnableWrite j (v.getLsbD 0) := by
  have hne : JOB_CTRL.base ≠ XPORT_CODE.base ∧ JOB_CTRL.base ≠ XPORT_TIMERS.base ∧ JOB_CTRL.base ≠ PEER_CFG.base := by decide
  simp only [writeEffect_xport, State.xportWrite, hne, if_false, if_true]
  rfl

end

theorem jobParam_cases (second : Bool) :
    (if second then JOB_PARAM1 else JOB_PARAM0) = JOB_PARAM0 ∨ (if second then JOB_PARAM1 else JOB_PARAM0) = JOB_PARAM1 := by
  cases second
  · exact .inl rfl
  · exact .inr rfl

theorem jobParam_plain {r : Reg} (hr : r = JOB_PARAM0 ∨ r = JOB_PARAM1) : r.plainIn 9 = true ∧ r.n1 = 128 := by
  rcases hr with rfl | rfl
  · decide
  · decide

/-- A write of a job's parameters, on a disabled entry or an enabled one. -/
theorem writeEffect_jobParam {s t : State} {r : Reg} {j : Nat} {v : Word} (hr : r = JOB_PARAM0 ∨ r = JOB_PARAM1) :
    s.writeEffect (fun t => t) t ⟨r, j, 0, 9⟩ v =
      if s.on JOB_CTRL.ENABLE j then
        match t.paramCheck j with
        | none => ⟨t, 0, false⟩
        | some x => ⟨s.set JOB_STATUS.REASON x j, x, false⟩
      else ⟨t, 0, false⟩ := by
  have hne : r.base ≠ XPORT_CODE.base ∧ r.base ≠ XPORT_TIMERS.base ∧ r.base ≠ PEER_CFG.base ∧ r.base ≠ JOB_CTRL.base := by
    rcases hr with rfl | rfl
    · decide
    · decide
  have hbase : r.base = JOB_PARAM0.base ∨ r.base = JOB_PARAM1.base := hr.imp (congrArg Reg.base) (congrArg Reg.base)
  simp only [writeEffect_xport, State.xportWrite, hne, if_false, hbase, true_and] <;> rfl

/-- A write of XPORT_TIMERS, refused where an enabled job's PART_DETECT_MS would be too short. -/
theorem writeEffect_timers {s : State} {w v : Word} :
    s.writeEffect (fun t => t) (s.written XPORT_TIMERS 0 9 w) ⟨XPORT_TIMERS, 0, 0, 9⟩ v =
      if s.jobsOn.any (fun j => decide (s.get JOB_PARAM1.PART_DETECT_MS j ≤
          4 * (s.written XPORT_TIMERS 0 9 w).get XPORT_TIMERS.KEEPALIVE_MS)) then ⟨s, 0x0931, false⟩
      else ⟨s.written XPORT_TIMERS 0 9 w, 0, false⟩ := by
  have hne : XPORT_TIMERS.base ≠ XPORT_CODE.base := by decide
  have hfar : ∀ f : Field, f.reg = JOB_CTRL ∨ f.reg = JOB_PARAM1 → ∀ j, (s.written XPORT_TIMERS 0 9 w).get f j = s.get f j := by
    intro f hf j
    refine written_get_far _ _ _ _ _ ?_
    rcases hf with hf | hf
    · simp only [hf, Reg.addr, XPORT_TIMERS, JOB_CTRL]
      omega
    · simp only [hf, Reg.addr, XPORT_TIMERS, JOB_PARAM1]
      omega
  have hjobs : (s.written XPORT_TIMERS 0 9 w).jobsOn = s.jobsOn := by
    simp only [State.jobsOn, State.on, hfar JOB_CTRL.ENABLE (.inl rfl)]
  simp only [writeEffect_xport, State.xportWrite, hne, if_false, if_true, hjobs, hfar JOB_PARAM1.PART_DETECT_MS (.inr rfl)]

/-- The states of a step that runs (Table STEP-5). -/
theorem runningStates_iff (n : Nat) :
    n ∈ [1, 2, 3, 4, 5, 6, 7, 8, 9, 10, 0x10, 0x11, 0x13] ↔ (1 ≤ n ∧ n ≤ 10) ∨ n = 0x10 ∨ n = 0x11 ∨ n = 0x13 := by
  simp only [List.mem_cons, List.not_mem_nil, or_false]
  omega

/-- Settles O11: the writes of a job entry's control and parameters, and of the transport timers. -/
theorem jobRegisters : Obligations.JobRegisters := by
  unfold Obligations.JobRegisters
  refine ⟨?enable, ?refused, ?disable, ?running, ?param, ?paramRefused, ?timers, ?timersRefused⟩
  case enable =>
    rintro s m tag j v s1 ⟨hw, hbit, hoff, hcheck⟩
    obtain ⟨henable, hstate, hreach, hprint, hstatus, hcount⟩ := jobEnable_effect (s.written JOB_CTRL j 9 v) j
    refine does_write 9 rfl rfl (by decide) j.isLt hw (t := (s.written JOB_CTRL j 9 v).jobEnable j) ?_ jobEnable_goes (by decide)
      ⟨?_, ?_, ?_, ?_, ?_, ?_, ?_⟩
    · rw [writeEffect_jobCtrl, show forced v [] = v from rfl]
      unfold State.jobEnableWrite
      simp only [jobCtrl_written_enable, hoff, hbit, show (s.written JOB_CTRL j 9 v).jobCheck j = none from Option.isNone_iff_eq_none.mp hcheck]
      rfl
    · exact (answered_on _ _ _ _ _ _ _ _).trans henable
    · rw [answered_stepRec, hstate]
    · rw [answered_stepRec, hreach]
      rfl
    · rw [answered_get, hprint]
      rfl
    · rw [answered_get, hstatus]
    · rw [answered_get, hcount]
      simp (disch := decide)
    · exact answered_sent (written_goes.out.trans jobEnable_goes.out)
  case refused =>
    rintro s m tag j v r s1 ⟨hw, hbit, hoff, hcheck⟩
    refine does_write_refused 9 rfl rfl (by decide) j.isLt hw (jobCheck_ne_zero hcheck) (n := r)
      (t := ((s.written JOB_CTRL j 9 v).set JOB_STATUS.REASON r j).raise XPORT_INT_STATUS.JOB_REFUSED) ?_
      (.step (.step (.step .refl written_goes (by decide)) set_goes (by decide)) raise_goes (l := [.csr, .out, .intc]) (by decide))
      (by decide) ⟨?_, ?_, ?_, answered_answers _ _ _ _ _⟩
    · rw [writeEffect_jobCtrl, show forced v [] = v from rfl]
      unfold State.jobEnableWrite
      simp only [jobCtrl_written_enable, hoff, hbit, show (s.written JOB_CTRL j 9 v).jobCheck j = some r from hcheck]
      rfl
    · have hkept : (s.written JOB_CTRL j 9 v).on JOB_CTRL.ENABLE j = false := jobCtrl_written_enable.trans hoff
      rw [answered_on]
      simpa (disch := decide) [State.on] using hkept
    · rw [answered_get, raise_get, get_fin_set _ _ _ _ _ _ _ _ (by decide), get_set_mod _ _ _ _ _ (by decide)]
      rfl
    · simp (disch := decide) [State.on]
  case disable =>
    rintro s m tag j v ⟨hw, hbit, hon⟩ hstate
    have hlt : s.get XPORT_STATUS.JOBS_ENABLED < 2 ^ XPORT_STATUS.JOBS_ENABLED.w := Nat.mod_lt _ (by decide)
    have hcount : (s.written JOB_CTRL j 9 v).get XPORT_STATUS.JOBS_ENABLED = s.get XPORT_STATUS.JOBS_ENABLED := by simp (disch := decide)
    refine does_write 9 rfl rfl (by decide) j.isLt hw (t := ((s.written JOB_CTRL j 9 v).set JOB_CTRL.ENABLE 0 j).set
      XPORT_STATUS.JOBS_ENABLED (s.get XPORT_STATUS.JOBS_ENABLED - 1)) ?_ (k := [.csr]) (.step (.step .refl set_goes (by decide)) set_goes (by decide))
      (by decide) ⟨?_, ?_, answered_answers _ _ _ _ _⟩
    · rw [writeEffect_jobCtrl, show forced v [] = v from rfl]
      unfold State.jobEnableWrite
      simp only [jobCtrl_written_enable, hon, hbit, hcount]
      exact if_neg (fun h => hstate ((runningStates_iff _).mpr h))
    · simp (disch := decide) [State.on]
    · rw [answered_get, get_set_mod _ _ _ _ _ (by decide), Nat.mod_eq_of_lt (by omega)]
  case running =>
    rintro s m tag j v ⟨hw, hbit, hon⟩ hstate
    refine does_write_refused 9 rfl rfl (by decide) j.isLt hw (by decide) (n := 0x090F) (t := s.written JOB_CTRL j 9 v) ?_ written_goes
      (by decide) ⟨?_, answered_answers _ _ _ _ _⟩
    · rw [writeEffect_jobCtrl, show forced v [] = v from rfl]
      unfold State.jobEnableWrite
      simp only [jobCtrl_written_enable, hon, hbit]
      exact if_pos ((runningStates_iff _).mp hstate)
    · rw [answered_on, jobCtrl_written_enable, hon]
  case param =>
    intro s m tag j second v
    have hexec : exec (.jobParamWrite m tag j second v) s =
      .next (s.regCommand m tag (if second then JOB_PARAM1 else JOB_PARAM0) j [] v) := rfl
    have hr := jobParam_cases second
    generalize (if second then JOB_PARAM1 else JOB_PARAM0) = r at hexec hr ⊢
    intro r' s1 hw hok
    subst r'
    obtain ⟨hplain, hn⟩ := jobParam_plain hr
    refine does_write 9 hexec rfl hplain (by rw [hn]; exact j.isLt) hw (t := s.written r j 9 v) ?_ (k := []) .refl (by decide)
      ⟨?_, ?_, answered_answers _ _ _ _ _⟩
    · rw [writeEffect_jobParam hr, show forced v [] = v from rfl]
      rcases hok with hoff | hcheck
      · simp only [hoff, Bool.false_eq_true, if_false]
      · simp only [show (s.written r j 9 v).paramCheck j = none from Option.isNone_iff_eq_none.mp hcheck, ite_self]
    · rw [answered_rdReg]
      rfl
    · exact answered_otherRegs _ _ _ _ _ (written_otherRegs s (by simp))
  case paramRefused =>
    intro s m tag j second v x
    have hexec : exec (.jobParamWrite m tag j second v) s =
      .next (s.regCommand m tag (if second then JOB_PARAM1 else JOB_PARAM0) j [] v) := rfl
    have hr := jobParam_cases second
    generalize (if second then JOB_PARAM1 else JOB_PARAM0) = r at hexec hr ⊢
    rintro r' s1 ⟨hw, hon, hcheck⟩
    subst r'
    obtain ⟨hplain, hn⟩ := jobParam_plain hr
    refine does_write_refused 9 hexec rfl hplain (by rw [hn]; exact j.isLt) hw (paramCheck_ne_zero hcheck) (n := x) (t := s.set JOB_STATUS.REASON x j) ?_
      set_goes (by decide) ⟨?_, ?_, answered_answers _ _ _ _ _⟩
    · rw [writeEffect_jobParam hr, show forced v [] = v from rfl]
      simp only [hon, if_true, show (s.written r j 9 v).paramCheck j = some x from hcheck]
    · rw [answered_rdReg, rdReg_set_far]
      rcases hr with hr | hr
      · rw [hr]
        exact Reg.addr_ne_of_apartFor (n := 128) (n' := 128) (by decide) j.isLt j.isLt
      · rw [hr]
        exact Reg.addr_ne_of_apartFor (n := 128) (n' := 128) (by decide) j.isLt j.isLt
    · rw [answered_get, get_set_mod _ _ _ _ _ (by decide)]
      rfl
  case timers =>
    rintro s m tag v s1 ⟨hw, hall⟩
    refine does_write 9 rfl rfl (by decide) (by decide) hw (t := s.written XPORT_TIMERS 0 9 v) ?_ (k := []) .refl (by decide)
      ⟨?_, ?_, answered_answers _ _ _ _ _⟩
    · rw [writeEffect_timers, show forced v [] = v from rfl, if_neg]
      simp only [List.any_eq_true, not_exists, not_and, decide_eq_true_eq, not_le]
      exact fun j hj => of_decide_eq_true (List.all_eq_true.mp hall j hj)
    · rw [answered_rdReg]
      rfl
    · exact answered_otherRegs _ _ _ _ _ (written_otherRegs s (by simp))
  case timersRefused =>
    rintro s m tag v s1 ⟨hw, hany⟩
    refine does_write_refused 9 rfl rfl (by decide) (by decide) hw (by decide) (n := 0x0931) (t := s) (k := []) ?_ .refl (by decide)
      ⟨answered_otherRegs _ _ _ _ _ .refl, answered_answers _ _ _ _ _⟩
    rw [writeEffect_timers, show forced v [] = v from rfl, if_pos]
    exact hany

end Sys2Proof.Machine

namespace Sys2Proof.Machine
open Csr

/-! ## A chain whose record waits (R357, R358) -/

/-- The effect of a command whose next state is known. -/
theorem Does.of_exec {c : Instr} {s t : State} {l : List Part} {p : State → Prop} (h : Does c s l p) (hexec : exec c s = .next t) :
    p t := by
  obtain ⟨t', ht', _, hp⟩ := h
  rw [hexec] at ht'
  cases ht'
  exact hp

/-- A finished descriptor of queue 5 with CHAIN and NO_CR, which ended with a warning. Its NEXT names queue 5 and the descriptor
at 0x10000. -/
def warnedChain : Finished :=
  ⟨⟨5, 0, le 1 11 ++ le 1 12 ++ zeros 4 ++ le 2 5 ++ zeros 16 ++ le 8 0x10000 ++ zeros 96⟩, { warning := true }, 1, 2, 3, 0, false,
    [], false⟩

/-- Queue 5 is enabled with CHAIN_IN, under class 1, and its completion ring of 256 records is full. -/
def fullRing : State :=
  { ((((State.reset.set MEM_STATUS.READY 1).set Q_CFG.ENABLE 1 5).set Q_CFG.CHAIN_IN 1 5).set Q_CFG.CLASS 1 5).set Q_PTR.CQ_TAIL 256 5
    with hostq := { State.reset.hostq with finished := [warnedChain], fullReported := [5] } }

theorem fullRing_chain :
    (fullRing.hostq.finished.find? (fun f => f.work.queue == (5 : Fin 8192).val) = some warnedChain ∧ warnedChain.samplers = []) ∧
    (warnedChain.chains = true ∧ fullRing.chainOk warnedChain = true ∧ warnedChain.work.flags.testBit 3 = true) ∧
    (isHost (warnedChain.work.field 24 8) = false ∧ fullRing.isPoisoned (warnedChain.work.field 24 8) 128 = false ∧
      (fullRing.memCheck (fullRing.get Q_CFG.CLASS warnedChain.nextQueue) false (warnedChain.work.field 24 8) 128).isNone = true) := by
  decide +kernel

theorem fullRing_full : fullRing.cqSize 5 ≤ fullRing.cqUsed 5 := by decide +kernel

theorem exec_completionRecord_full {s : State} {q : Fin 8192} {f : Finished}
    (hfind : s.hostq.finished.find? (fun f => f.work.queue == q.val) = some f) (hok : s.chainOk f = true)
    (hwarned : f.res.warning = true) (hfull : s.cqSize q ≤ s.cqUsed q) : exec (.completionRecord q) s = .next (s.holdRecord q) := by
  show execCompletionRecord q s = _
  simp [execCompletionRecord, hfind, hok, hwarned, hfull]

theorem holdRecord_of_reported {s : State} {q : Nat} (h : q ∈ s.hostq.fullReported) :
    s.holdRecord q = s.set Q_STATUS.CQ_FULL 1 q := if_pos h

/-- Refutes O19, in the clause for a chain that its target accepts: NO_CR asks for no record only where there is no warning, so
`warnedChain` needs a record and, with its completion ring full, waits among the finished descriptors. -/
theorem not_completionRecords : ¬ Obligations.CompletionRecords := by
  unfold Obligations.CompletionRecords
  intro ⟨_, _, _, hchain, _⟩
  obtain ⟨hfind, ⟨hchains, hok, hnoCr⟩, haddr⟩ := fullRing_chain
  have hexec := exec_completionRecord_full (q := 5) hfind.1 hok rfl fullRing_full
  rw [holdRecord_of_reported (by decide)] at hexec
  obtain ⟨_, _, herase⟩ := (hchain fullRing 5 warnedChain hfind ⟨hchains, hok, .inl hnoCr⟩ haddr).of_exec hexec
  exact absurd herase (by decide +kernel)

end Sys2Proof.Machine

namespace Sys2Proof.Machine
open Csr

/-! ## A violation record past the address space (R330, Table MEM-2)

TOP_VLOG_BASE.ADDR has 58 bits, in units of 64 bytes from `hostBase`, so the violation ring may begin at 2^64. -/

/-- The byte at `a` after a command, where the command answers a next state. -/
def byteAfter (c : Instr) (s : State) (a : Nat) : Byte :=
  match exec c s with
  | .next t => t.readByte a
  | _ => 0

theorem byteAfter_of_exec {c : Instr} {s t : State} (a : Nat) (h : exec c s = .next t) : byteAfter c s a = t.readByte a := by
  rw [byteAfter, h]

/-- No command that changes memory only in host memory changes a byte past the end of the address space. -/
theorem byteAfter_of_does {c : Instr} {s : State} {l : List Part} (h : Does c s l (SameOutside [(hostBase, hostBase)] s)) :
    byteAfter c s (2 ^ 64) = s.readByte (2 ^ 64) := by
  obtain ⟨t, hexec, _, hsame⟩ := h
  rw [byteAfter_of_exec _ hexec]
  exact hsame _ (by decide)

/-- The violation ring begins at the address 2^64. -/
def highRing : State := State.reset.set TOP_VLOG_BASE.ADDR (2 ^ 57)

theorem highRing_readByte (a : Nat) : highRing.readByte a = 0 := rfl

/-- A handle that names pool 5, which the gateway does not have. -/
def strayHandle : BitVec 32 := 5 <<< 29

theorem byteAfter_free : byteAfter (.free (.queue ⟨0, 0, []⟩) strayHandle) highRing (2 ^ 64) ≠ 0 := by decide +kernel

/-- Refutes O35, in the clause for FREE of a handle that is not valid: the violation record of `highRing` goes to the address
2^64, which is not in host memory. -/
theorem not_skeinPools : ¬ Obligations.SkeinPools := by
  unfold Obligations.SkeinPools
  intro ⟨_, _, _, _, hfree, _⟩
  obtain ⟨t, hexec, honly, _, _, _, _, hsame⟩ := hfree highRing ⟨0, 0, []⟩ strayHandle (by decide +kernel)
  exact byteAfter_free ((byteAfter_of_does ⟨t, hexec, honly, hsame⟩).trans (highRing_readByte _))

end Sys2Proof.Machine

namespace Sys2Proof.Machine
open Csr

/-! ## A refused packet whose violation record goes past the address space (R292) -/

/-- The violation ring begins at the address 2^64, and the fabric is ready and knows no endpoint. -/
def fabHighRing : State := highRing.set FAB_STATUS.READY 1

theorem fabHighRing_readByte (a : Nat) : fabHighRing.readByte a = 0 := rfl

/-- A packet with a valid header, from endpoint 0 to endpoint 0. -/
def strayPacket : RxPacket :=
  let head := le 1 1 ++ zeros 27
  ⟨0, head ++ le 4 (crc32c head), false, false⟩

theorem strayPacket_unknown :
    (fabHighRing.endpoint (packetKey strayPacket.bytes).src).any (fun e =>
      e.tenant == pktTenant strayPacket.bytes && e.mask.testBit (packetKey strayPacket.bytes).cls) = false := by
  decide +kernel

theorem byteAfter_fabWrite : byteAfter (.fabWrite strayPacket) fabHighRing (2 ^ 64) ≠ 0 := by decide +kernel

/-- Refutes O30, in the clause for a packet that does not pass: the violation record of `fabHighRing` goes to the address 2^64,
which is not in host memory. -/
theorem not_fabricReceive : ¬ Obligations.FabricReceive := by
  unfold Obligations.FabricReceive
  intro ⟨_, _, _, _, _, _, _, hrefused, _⟩
  obtain ⟨t, hexec, honly, hsame, _⟩ := hrefused fabHighRing strayPacket (.fabWrite strayPacket) ⟨by simp, by decide +kernel⟩
    (.inr (.inr (.inr (.inr strayPacket_unknown))))
  exact byteAfter_fabWrite ((byteAfter_of_does ⟨t, hexec, honly, hsame⟩).trans (fabHighRing_readByte _))

end Sys2Proof.Machine

namespace Sys2Proof.Machine
open Csr

/-! ## A chunk asked for again under a code of no shards (R196, R197) -/

/-- A retained chunk of job entry 3 toward site 1. -/
def keptChunk : Retained := ⟨3, 1, 0, 0, 0, 0, 0, 0, 0, 0, 0, 0, 0, false⟩

/-- XPORT_CODE gives codewords of no shards, and site 1, which job entry 3 reaches, has asked for `keptChunk` again. -/
def emptyCode : State :=
  { (((State.reset.set XPORT_STATUS.READY 1).set XPORT_CODE.K 0).set XPORT_CODE.M 0).set XPORT_CODE.CODE_AUTO 0 with
    xport := { State.reset.xport with
      jobs := [(3, { State.reset.stepRec 3 with reachable := 2 })], retained := [keptChunk], resend := [(3, 1, 0, 0)] } }

theorem emptyCode_hyps :
    emptyCode.xportReady = true ∧ emptyCode.reaches 3 1 = true ∧
    emptyCode.xport.resend.find? (fun r => r.1 == (3 : Fin 128).val && r.2.1 == (1 : Fin 16).val) = some (3, 1, 0, 0) ∧
    emptyCode.xport.retained.find? (fun r =>
      r.entry == (3 : Fin 128).val && r.peer == (1 : Fin 16).val && r.step == 0 && r.chunk == 0) = some keptChunk ∧
    emptyCode.codeFor (emptyCode.usable 1).length = some (0, 0) ∧
    { emptyCode with xport := { emptyCode.xport with retained := [] } }.openSent 3 1 + 0 ≤ 2 ^ 30 ∧
    { emptyCode with xport := { emptyCode.xport with retained := [] } }.retainAlloc 0 = some (emptyCode.regionBase 2) := by
  decide +kernel

/-- Refutes O43, in the clause for a chunk asked for again: under the code of `emptyCode` a chunk has no codewords, so the
message that is said to carry its send count has no bytes. -/
theorem not_chunkMessages : ¬ Obligations.ChunkMessages := by
  unfold Obligations.ChunkMessages
  intro ⟨_, hresend, _⟩
  obtain ⟨hready, hreaches, hasked, hkept, hcode, hspace, halloc⟩ := emptyCode_hyps
  obtain ⟨t, _, _, _, _, _, hcount⟩ :=
    hresend emptyCode 3 1 (3, 1, 0, 0) keptChunk 0 0 (emptyCode.regionBase 2) ⟨hready, hreaches, hasked⟩ hkept
      ⟨hcode, hspace, halloc⟩
  have hnone : fieldAt (t.readBytes (emptyCode.regionBase 2) 0) 52 1 = 0 := rfl
  have hsome := hnone.symm.trans hcount
  omega

end Sys2Proof.Machine

namespace Sys2Proof.Machine
open Csr

/-! ## A record sealed under a key of no bytes (R239) -/

/-- The transmit context 1 whose slot 0 is VALID and holds a key of no bytes. -/
def keylessCtx : Ctx :=
  { tenant := 0, rx := false, active := 0, pinned := false, peer := 1, rekey := 0, job := 7,
    slot0 := ⟨true, [], 0, 0, 0, 1⟩, slot1 := {} }

/-- That context after it has sealed a record of 4 bytes. -/
def keylessAfter : Ctx := { keylessCtx with slot0 := ⟨true, [], 0, 1, 4, 1⟩ }

/-- A ready cipher with `keylessCtx` resident and its counter far below the durable mark. -/
def keylessState : State :=
  let s := [(CIPH_STATUS.READY, 1, 0), (CIPH_STORE_SIZE.CONTEXTS, 64, 0), (CIPH_LIMIT.RECORD_WARN_LOG2, 32, 0),
    (CIPH_LIMIT.BYTE_WARN_LOG2, 40, 0), (MEM_STATUS.READY, 1, 0), (Q_CFG.CLASS, 1, 5), (CIPH_TENANT.CTX_QUOTA, 8, 0)].foldl
      (fun (s : State) (x : Field × Nat × Nat) => s.set x.1 x.2.1 x.2.2) State.reset
  { s with ciph := { s.ciph with valid := [1], resident := [(1, keylessCtx)], ledger := [⟨1, 0, 1, 2 ^ 23, none, false⟩] } }

/-- A SEAL of 4 bytes under context 1: ADDR_HDR 0x1000, ADDR_IN 0x2000, ADDR_OUT 0x3000. -/
def keylessSeal : Work :=
  ⟨5, 0, le 1 10 ++ zeros 3 ++ le 4 7 ++ le 4 1 ++ zeros 52 ++ le 1 1 ++ le 1 0 ++ le 2 1 ++ le 4 4 ++ le 8 0x1000 ++ le 8 0x2000 ++
    le 8 0x3000 ++ zeros 32⟩

theorem keylessSeal_record :
    keylessState.ciphCheck 1 keylessSeal = none ∧ keylessSeal.body 0 1 = 1 ∧
    (ciphCtx keylessSeal, keylessCtx) ∈ keylessState.ciph.resident ∧
    (keylessState.recordCtx keylessSeal false).1 = .ok keylessCtx ∧ keylessState.ciph.resident.length ≤ 1024 := by
  decide +kernel

theorem keylessSeal_nonce :
    keylessState.readsPoison (ciphAccess 1 keylessSeal) = false ∧
    keylessState.nonce (ciphCtx keylessSeal) (ciphLen keylessSeal) keylessCtx = .take 0 0 keylessAfter ∧
    (none : Option (Fin 32)) = none ∧ ciphControl keylessSeal = false := by
  decide +kernel

theorem keylessSeal_places :
    (ciphIn keylessSeal + ciphLen keylessSeal ≤ ciphHdr keylessSeal + 28 ∨ ciphHdr keylessSeal + 44 ≤ ciphIn keylessSeal) ∧
    ciphHdr keylessSeal + 44 ≤ hostBase ∧ ciphOut keylessSeal + ciphLen keylessSeal + 16 ≤ hostBase := by
  decide +kernel

theorem keylessSeal_limits :
    (keylessAfter.slot 0).ctr ≤ keylessState.warnLimits.1 ∧ (keylessAfter.slot 0).bytes ≤ keylessState.warnLimits.2 := by
  decide +kernel

theorem gcmSeal_keyless :
    gcmSeal (keylessAfter.slot 0).key (nonceBytes (keylessAfter.slot 0).salt 0)
      (keylessState.readBytes (ciphHdr keylessSeal) 28 ++ le 2 (ciphCtx keylessSeal) ++ le 1 0 ++
        keylessState.readBytes (ciphHdr keylessSeal + 31) 1)
      (keylessState.readBytes (ciphIn keylessSeal) (ciphLen keylessSeal)) = ([], []) := by
  decide +kernel

/-- Refutes O47, in the clause for the bytes of a SEAL: under the key of `keylessCtx` the pipeline gives no ciphertext and no tag,
which are not the 20 bytes that stand at ADDR_OUT. -/
theorem not_sealRecords : ¬ Obligations.SealRecords := by
  unfold Obligations.SealRecords
  intro ⟨_, hbytes, _⟩
  obtain ⟨t, _, _, hread, _⟩ := hbytes keylessState keylessSeal none keylessCtx keylessAfter 0 0 keylessSeal_record
    keylessSeal_nonce keylessSeal_places keylessSeal_limits
  rw [gcmSeal_keyless] at hread
  have hlen := congrArg List.length hread
  simp [State.readBytes] at hlen

end Sys2Proof.Machine

namespace Sys2Proof.Machine
open Csr

/-! ## The last term of a stalled step whose record is mirrored past the address space (R37, R57) -/

/-- An ACCUMULATE of one BF16 element of job 7 at 0x1000, the only term of slot 5, with FMT_OUT FP32, weight 1 and its output at
0x2000. -/
def soloTerm : Work :=
  ⟨5, 0, le 1 12 ++ zeros 3 ++ le 4 7 ++ le 4 1 ++ zeros 52 ++ le 1 1 ++ zeros 1 ++ le 1 1 ++ zeros 1 ++ le 2 1 ++ le 2 5 ++
    le 4 77 ++ le 4 1 ++ le 8 0x1000 ++ le 8 0x2000 ++ le 4 0x3F800000 ++ zeros 28⟩

/-- The slot of `soloTerm`, open with the sum 1. -/
def soloSlot : Slot := { openSlot soloTerm 0 with sums := some [0x3F800000] }

/-- Job 7 runs in entry 0, its step stalled, and JOB_MIRROR puts the mirror of its step record at the address 2^64. -/
def stalledHigh : State :=
  let s := [(STCH_STATUS.READY, 1, 0), (MEM_STATUS.READY, 1, 0), (Q_CFG.CLASS, 1, 5), (JOB_CTRL.ENABLE, 1, 0),
    (JOB_CTRL.JOB_ID, 7, 0), (JOB_MIRROR.ADDR, 2 ^ 56, 0)].foldl
      (fun (s : State) (x : Field × Nat × Nat) => s.set x.1 x.2.1 x.2.2) State.reset
  { s with stch := { s.stch with slots := [soloSlot] }, xport := { s.xport with jobs := [(0, { step := 1, stalled := true })] } }

theorem stalledHigh_readByte (a : Nat) : stalledHigh.readByte a = 0 := rfl

theorem soloTerm_slot :
    stalledHigh.stchCheck soloTerm = none ∧
    stalledHigh.stch.slots.find? (fun y => y.index == soloTerm.body 6 2 % 2 ^ 14) = some soloSlot ∧ soloSlot.done = false := by
  decide +kernel

theorem soloTerm_same :
    soloSlot.job = soloTerm.job ∧ soloSlot.step = soloTerm.step ∧ soloSlot.chunk = soloTerm.body 8 4 ∧
    soloSlot.frog = soloTerm.body 5 1 % 8 ∧ soloSlot.expect = soloTerm.body 4 1 ∧ soloSlot.elements = soloTerm.body 12 4 := by
  decide +kernel

theorem soloTerm_format :
    soloSlot.fmtOut = soloTerm.body 2 1 / 16 ∧
    soloSlot.terms.any (fun t => t.site == soloTerm.body 1 1 % 16 && t.kind == getBits (soloTerm.body 1 1) 4 2) = false := by
  decide +kernel

theorem soloTerm_input :
    stalledHigh.isPoisoned (soloTerm.body 16 8) (soloSlot.elements * fmtBytes (soloTerm.body 2 1 % 16)) = false ∧
    soloTerm.field 16 8 = 0 ∧ (termWeight soloTerm).isZero = false := by
  decide +kernel

theorem soloTerm_last :
    soloSlot.sums = some [0x3F800000] ∧ [0x3F800000].length = soloSlot.elements ∧ soloSlot.expect ≤ soloSlot.terms.length + 1 ∧
    soloSlot.addrOut + soloSlot.elements * fmtBytes soloSlot.fmtOut ≤ hostBase := by
  decide +kernel

theorem byteAfter_accumulate : byteAfter (.accumulate soloTerm none) stalledHigh (2 ^ 64) ≠ 0 := by decide +kernel

theorem highByte_outside :
    [(soloSlot.addrOut, soloSlot.elements * fmtBytes soloSlot.fmtOut), (hostBase, hostBase)].all (fun x =>
      decide (2 ^ 64 < x.1 ∨ x.1 + x.2 ≤ 2 ^ 64)) = true := by
  decide +kernel

/-- Refutes O28, in the clause for the last term: the reduced chunk ends the stall of the step of `stalledHigh`, whose record is
then mirrored to the address 2^64, outside the slot's output and outside host memory. -/
theorem not_stitchAccumulate : ¬ Obligations.StitchAccumulate := by
  unfold Obligations.StitchAccumulate
  intro ⟨_, _, hlast, _⟩
  obtain ⟨t, hexec, _, _, _, hsame, _⟩ := hlast stalledHigh soloTerm soloSlot [0x3F800000] soloTerm_slot soloTerm_same
    soloTerm_format soloTerm_input soloTerm_last
  refine byteAfter_accumulate ?_
  rw [byteAfter_of_exec _ hexec]
  exact (hsame _ highByte_outside).trans (stalledHigh_readByte _)

end Sys2Proof.Machine

namespace Sys2Proof.Machine
open Csr

/-! ## A module fault that is announced on a link whose bandwidth is metered (R454, R478) -/

/-- The bytes sent that the bandwidth meters count after a command, where the command answers a next state. -/
def metersAfter (c : Instr) (s : State) : List (Nat × Nat) :=
  match exec c s with
  | .next t => t.pmon.meterTx
  | _ => s.pmon.meterTx

/-- A command that leaves the performance monitor counts no byte. -/
theorem metersAfter_of_does {c : Instr} {s : State} {l : List Part} {p : State → Prop} (h : Does c s l p)
    (hl : l.contains .pmon = false) : metersAfter c s = s.pmon.meterTx := by
  obtain ⟨t, hexec, honly, _⟩ := h
  rw [metersAfter, hexec]
  exact congrArg PmonSt.meterTx (honly .pmon hl)

/-- A member of a group with fabric link 0 in service and the performance monitor ready. -/
def meteredMember : State :=
  ((State.reset.set GRP_STATUS.READY 1).set FAB_LINK_STATUS.IN_SERVICE 1 0).set PMON_STATUS.READY 1

theorem meteredMember_meters : meteredMember.pmon.meterTx = [] := rfl

theorem metersAfter_counterCopies : metersAfter (.unitInternalError .counterCopies) meteredMember ≠ [] := by decide +kernel

theorem metersAfter_laserBank : metersAfter (.unitInternalError .laserBank) meteredMember ≠ [] := by decide +kernel

/-- Refutes O59, in the clause for the two copies of the counter: the failure of `meteredMember` is announced to its group's spare
on link 0, whose bandwidth meter counts the packet, so the performance monitor changes too. -/
theorem not_unitErrorsOfControl : ¬ Obligations.UnitErrorsOfControl := by
  unfold Obligations.UnitErrorsOfControl
  intro ⟨_, _, _, _, _, _, _, _, hcounter, _⟩
  exact metersAfter_counterCopies ((metersAfter_of_does (hcounter meteredMember) (by decide)).trans meteredMember_meters)

/-- Refutes O60, in the clause for the laser bank, by the same packet of `meteredMember`. -/
theorem not_unitErrorsOfEngines : ¬ Obligations.UnitErrorsOfEngines := by
  unfold Obligations.UnitErrorsOfEngines
  intro ⟨_, _, _, _, _, _, hlaser, _⟩
  exact metersAfter_laserBank
    ((metersAfter_of_does (hlaser meteredMember (by decide)) (by decide)).trans meteredMember_meters)

end Sys2Proof.Machine

namespace Sys2Proof.Machine
open Csr

/-! ## A gauge whose register names a block without clusters (R447) -/

/-- Gauge 0 names block 31, has had nine low margins in a row, and its panel stands at the highest rail. -/
def strayGauge : State :=
  let s := ((State.reset.set HLTH_GAUGE.BLOCK 31 0).set HLTH_GAUGE_CFG.MARGIN_MIN 1).set HLTH_GAUGE_CFG.RAIL_MAX_MV 0
  { s with hlth := { s.hlth with lowRun := [(0, 9)] } }

theorem strayGauge_tenth :
    (0#10).toNat < strayGauge.get HLTH_GAUGE_CFG.MARGIN_MIN ∧
    strayGauge.get HLTH_PANEL_RAIL.TARGET_MV (strayGauge.get HLTH_GAUGE.PANEL 0) = strayGauge.get HLTH_GAUGE_CFG.RAIL_MAX_MV ∧
    strayGauge.on HLTH_GAUGE.QUARANTINED 0 = false ∧ lookupD strayGauge.hlth.lowRun 0 0 = 9 := by
  decide +kernel

/-- Whether gauge 0 is quarantined after a command, where the command answers a next state. -/
def gaugeOutAfter (c : Instr) (s : State) : Bool :=
  match exec c s with
  | .next t => t.on HLTH_GAUGE.QUARANTINED 0
  | _ => false

theorem gaugeOutAfter_of_exec {c : Instr} {s t : State} (h : exec c s = .next t) :
    gaugeOutAfter c s = t.on HLTH_GAUGE.QUARANTINED 0 := by
  rw [gaugeOutAfter, h]

theorem gaugeOutAfter_strayGauge : gaugeOutAfter (.gaugeSample [0] []) strayGauge = false := by decide +kernel

/-- Refutes O58, in the clause for the tenth low margin: the cluster that `strayGauge` names has no gauge, so the quarantine marks
none. -/
theorem not_gaugesPlansAndUpdates : ¬ Obligations.GaugesPlansAndUpdates := by
  unfold Obligations.GaugesPlansAndUpdates
  intro ⟨_, htenth, _⟩
  obtain ⟨t, hexec, _, hout, _⟩ := htenth strayGauge 0 strayGauge_tenth
  rw [← gaugeOutAfter_of_exec hexec, gaugeOutAfter_strayGauge] at hout
  cases hout

end Sys2Proof.Machine

namespace Sys2Proof.Machine
open Csr

/-! ## Writes of the performance monitor (R474, R476, R478) -/

/-- A write of 1 to PMON_SNAP.HOLD clears it. -/
theorem written_snapHold (s : State) (w : Word) (h : PMON_SNAP.HOLD.of w.toNat = 1) :
    (s.written PMON_SNAP 0 15 w).get PMON_SNAP.HOLD = 0 := by
  have hnew : getBits w.toNat 2 1 = 1 := h
  have hold : getBits (s.rdReg PMON_SNAP 0).toNat 2 1 < 2 := Nat.mod_lt _ (by decide)
  have hmerge : Hit.merge ⟨PMON_SNAP, 0, 0, 15⟩ (s.rdReg PMON_SNAP 0) w =
      setBits (s.rdReg PMON_SNAP 0) 2 1
        (getBits (s.rdReg PMON_SNAP 0).toNat 2 1 - (getBits (s.rdReg PMON_SNAP 0).toNat 2 1 &&& getBits w.toNat 2 1)) := rfl
  rw [State.get, State.written, hmerge, show PMON_SNAP.HOLD.reg = PMON_SNAP from rfl, rdReg_wrReg_same,
    show PMON_SNAP.HOLD.lo = 2 from rfl, show PMON_SNAP.HOLD.w = 1 from rfl, getBits_setBits_same _ _ _ _ (by decide), hnew]
  generalize getBits (s.rdReg PMON_SNAP 0).toNat 2 1 = old at hold
  interval_cases old <;> rfl

/-- What a write of PMON_SNAP leaves before GO has its effect: without HOLD nothing stays latched. -/
def State.snapKept (s : State) (w : Word) : State :=
  if (s.written PMON_SNAP 0 15 w).on PMON_SNAP.HOLD then s.written PMON_SNAP 0 15 w
  else { s.written PMON_SNAP 0 15 w with pmon := { s.pmon with latched := [] } }

theorem snapKept_csr (s : State) (w : Word) : (s.snapKept w).csr = (s.written PMON_SNAP 0 15 w).csr := by
  unfold State.snapKept
  split <;> rfl

theorem snapKept_snapDue (s : State) (w : Word) : (s.snapKept w).pmon.snapDue = s.pmon.snapDue := by
  unfold State.snapKept
  split <;> rfl

theorem snapKept_goes {s : State} {w : Word} : Goes [.pmon] (s.written PMON_SNAP 0 15 w) (s.snapKept w) := by
  unfold State.snapKept
  exact .ite .refl (.pmon .refl (by decide))

theorem snapKept_otherRegs (s : State) (w : Word) : OtherRegs [PMON_SNAP.addr 0 0] s (s.snapKept w) :=
  (written_otherRegs s (by simp)).trans (.of_csr (snapKept_csr s w))

/-- The state in which a snapshot is due. -/
def State.snapAsked (s : State) (w : Word) : State :=
  { s.snapKept w with pmon := { (s.snapKept w).pmon with snapDue := true } }.set PMON_SNAP.GO 1

theorem snapAsked_goes {s : State} {w : Word} : Goes [.csr, .pmon] (s.written PMON_SNAP 0 15 w) (s.snapAsked w) :=
  .step (.pmon (.step .refl snapKept_goes (by decide)) (by decide)) set_goes (by decide)

theorem pmonWrite_snap (s : State) (w : Word) :
    s.pmonWrite (s.written PMON_SNAP 0 15 w) ⟨PMON_SNAP, 0, 0, 15⟩ w.toNat =
      ⟨if PMON_SNAP.GO.of w.toNat = 1 then s.snapAsked w else s.snapKept w, 0, false⟩ := by
  have hbase : PMON_SNAP.base ≠ PMON_EVSEL.base := by decide
  simp only [State.pmonWrite, hbase, false_and, if_false, if_true]
  rfl

section
variable (s : State) (m : Master) (tag : BitVec 10) (v : Word)

theorem snapshotGo_asks (hw : Writable s m PMON_SNAP 0 (forced v [(PMON_SNAP.GO, 1)])) :
    Does (.snapshotGo m tag v) s [.csr, .out, .intc, .pmon] (fun t =>
      t.pmon.snapDue = true ∧ t.on PMON_SNAP.GO = true ∧ OtherRegs [PMON_SNAP.addr 0 0] s t ∧ Answered t m tag.toNat 0 0 []) := by
  have hgo := of_forced v PMON_SNAP.GO 1 (by decide)
  generalize hf : forced v [(PMON_SNAP.GO, 1)] = w at hw hgo
  refine does_write 15 rfl hf (by decide) (by decide) hw (t := s.snapAsked w) ?_ snapAsked_goes (by decide)
    ⟨?_, ?_, answered_otherRegs _ _ _ _ _ ?_, answered_answers _ _ _ _ _⟩
  · rw [writeEffect_pmon, pmonWrite_snap, if_pos (by rw [hgo]; rfl)]
  · rw [answered_pmon]
    rfl
  · rw [answered_on]
    simp (disch := decide) [State.on, State.snapAsked]
  · exact .andSet ((snapKept_otherRegs s w).trans (.of_csr rfl)) (by simp [PMON_SNAP.GO])

theorem snapshotRelease_clears :
    let w := forced v [(PMON_SNAP.HOLD, 1)]
    Writable s m PMON_SNAP 0 w ∧ PMON_SNAP.GO.of w.toNat = 0 →
    Does (.snapshotRelease m tag v) s [.csr, .out, .intc, .pmon] (fun t =>
      t.on PMON_SNAP.HOLD = false ∧ t.pmon.latched = [] ∧ t.pmon.snapDue = s.pmon.snapDue ∧ OtherRegs [PMON_SNAP.addr 0 0] s t ∧
      Answered t m tag.toNat 0 0 []) := by
  have hone := of_forced v PMON_SNAP.HOLD 1 (by decide)
  generalize hf : forced v [(PMON_SNAP.HOLD, 1)] = w at hone
  intro w' ⟨hw, hgo⟩
  have hhold : (s.written PMON_SNAP 0 15 w).on PMON_SNAP.HOLD = false := by
    rw [State.on, written_snapHold s w hone]
    rfl
  refine does_write 15 rfl hf (by decide) (by decide) hw (t := s.snapKept w) ?_ snapKept_goes (by decide)
    ⟨?_, ?_, ?_, answered_otherRegs _ _ _ _ _ (snapKept_otherRegs s w), answered_answers _ _ _ _ _⟩
  · rw [writeEffect_pmon, pmonWrite_snap, if_neg (by rw [hgo]; decide)]
  · rw [answered_on, State.on, get_congr (snapKept_csr s w)]
    exact hhold
  · rw [answered_pmon, State.snapKept, if_neg (by simp [hhold])]
  · rw [answered_pmon, snapKept_snapDue]

end

/-! ## Counter enables (R474) -/

section
variable (s : State) (m : Master) (tag : BitVec 10) (n : Fin 512) (v : Word)

theorem pmonWrite_evsel_ok {w : Word}
    (h : s.on PMON_EVSEL.EN n = true ∨
      pmonEventOk ((s.written PMON_EVSEL n 15 w).get PMON_EVSEL.EVENT n) ((s.written PMON_EVSEL n 15 w).on PMON_EVSEL.MODE n) = true) :
    s.pmonWrite (s.written PMON_EVSEL n 15 w) ⟨PMON_EVSEL, n, 0, 15⟩ w.toNat = ⟨s.written PMON_EVSEL n 15 w, 0, false⟩ := by
  have h1 : PMON_EVSEL.base ≠ PMON_SNAP.base := by decide
  have h2 : PMON_EVSEL.base ≠ PMON_BW_WINDOW.base := by decide
  have h3 : PMON_EVSEL.base ≠ SAMP_CFG.base := by decide
  unfold State.pmonWrite
  rcases h with h | h <;> simp [h, h1, h2, h3]

theorem pmonWrite_evsel_bad {w : Word} (hoff : s.on PMON_EVSEL.EN n = false) (hon : (s.written PMON_EVSEL n 15 w).on PMON_EVSEL.EN n = true)
    (h : pmonEventOk ((s.written PMON_EVSEL n 15 w).get PMON_EVSEL.EVENT n) ((s.written PMON_EVSEL n 15 w).on PMON_EVSEL.MODE n) =
      false) :
    s.pmonWrite (s.written PMON_EVSEL n 15 w) ⟨PMON_EVSEL, n, 0, 15⟩ w.toNat = ⟨s.pmonLog 0x0F01 n, 0x0F01, false⟩ := by
  simp [State.pmonWrite, hoff, hon, h]

theorem written_rdReg (r : Reg) (i b : Nat) (w : Word) : (s.written r i b w).rdReg r i = Hit.merge ⟨r, i, 0, b⟩ (s.rdReg r i) w :=
  rdReg_wrReg_same _ _ _ _ _

theorem on_eq_getLsbD (f : Field) (i : Nat) (h : f.w = 1) : s.on f i = (s.rdReg f.reg i).getLsbD f.lo := by
  rw [State.on, State.get, h, BitVec.getLsbD, Nat.testBit_eq_decide_div_mod_eq, getBits, Nat.shiftRight_eq_div_pow]
  rfl

/-- The word that a write of an enable leaves in PMON_EVSEL. -/
def State.evselWord (s : State) (n : Nat) (w : Word) : Word := Hit.merge ⟨PMON_EVSEL, n, 0, 15⟩ (s.rdReg PMON_EVSEL n) w

theorem written_evselEvent (w : Word) :
    pmonEventOk ((s.written PMON_EVSEL n 15 w).get PMON_EVSEL.EVENT n) ((s.written PMON_EVSEL n 15 w).on PMON_EVSEL.MODE n) =
      pmonEventOk (PMON_EVSEL.EVENT.of (s.evselWord n w).toNat) ((s.evselWord n w).getLsbD 1) := by
  rw [on_eq_getLsbD _ PMON_EVSEL.MODE _ rfl]
  show pmonEventOk (getBits ((s.written PMON_EVSEL n 15 w).rdReg PMON_EVSEL n).toNat _ _) _ = _
  rw [written_rdReg, show PMON_EVSEL.MODE.reg = PMON_EVSEL from rfl, written_rdReg]
  rfl

theorem written_evselEn (w : Word) (h : PMON_EVSEL.EN.of w.toNat = 1) : (s.written PMON_EVSEL n 15 w).on PMON_EVSEL.EN n = true := by
  rw [State.on, written_get_stored _ _ _ _ _ _ (by decide), h]
  rfl

theorem counterEnable_enables :
    let w := (⟨PMON_EVSEL, n, 0, 15⟩ : Hit).merge (s.rdReg PMON_EVSEL n) (forced v [(PMON_EVSEL.EN, 1)])
    Writable s m PMON_EVSEL n (forced v [(PMON_EVSEL.EN, 1)]) →
    s.on PMON_EVSEL.EN n = true ∨ pmonEventOk (PMON_EVSEL.EVENT.of w.toNat) (w.getLsbD 1) = true →
    Does (.counterEnable m tag n v) s [.csr, .out, .intc] (fun t =>
      t.rdReg PMON_EVSEL n = w ∧ t.on PMON_EVSEL.EN n = true ∧ OtherRegs [PMON_EVSEL.addr n 0] s t ∧
        Answered t m tag.toNat 0 0 []) := by
  have hone := of_forced v PMON_EVSEL.EN 1 (by decide)
  generalize hf : forced v [(PMON_EVSEL.EN, 1)] = w at hone
  intro _ hw hok
  refine does_write 15 rfl hf (by decide) n.isLt hw (t := s.written PMON_EVSEL n 15 w) ?_ (k := []) .refl (by decide)
    ⟨?_, ?_, answered_otherRegs _ _ _ _ _ (written_otherRegs s (by simp)), answered_answers _ _ _ _ _⟩
  · rw [writeEffect_pmon]
    exact pmonWrite_evsel_ok s n (by rwa [written_evselEvent])
  · rw [answered_rdReg, written_rdReg]
  · rw [answered_on]
    exact written_evselEn s n w hone

theorem pmonLog_otherRegs (a b : Nat) : OtherRegs [PMON_ERR_LOG.addr 0 0] s (s.pmonLog a b) :=
  .andSet (.andSet .refl (by simp [PMON_ERR_LOG.REASON])) (by simp [PMON_ERR_LOG.INDEX])

theorem counterEnable_refused :
    let w := (⟨PMON_EVSEL, n, 0, 15⟩ : Hit).merge (s.rdReg PMON_EVSEL n) (forced v [(PMON_EVSEL.EN, 1)])
    Writable s m PMON_EVSEL n (forced v [(PMON_EVSEL.EN, 1)]) ∧ s.on PMON_EVSEL.EN n = false →
    pmonEventOk (PMON_EVSEL.EVENT.of w.toNat) (w.getLsbD 1) = false →
    Does (.counterEnable m tag n v) s [.csr, .out, .intc] (fun t =>
      t.get PMON_ERR_LOG.REASON = 0x0F01 ∧ t.get PMON_ERR_LOG.INDEX = n ∧ OtherRegs [PMON_ERR_LOG.addr 0 0] s t ∧
      Answered t m tag.toNat 1 0x0F01 []) := by
  have hone := of_forced v PMON_EVSEL.EN 1 (by decide)
  generalize hf : forced v [(PMON_EVSEL.EN, 1)] = w at hone
  intro _ ⟨hw, hoff⟩ hbad
  refine does_write_refused (n := 0x0F01) (k := [.csr]) 15 rfl hf (by decide) n.isLt hw (by decide)
    (t := s.pmonLog 0x0F01 n) ?_ pmonLog_goes (by decide)
    ⟨?_, ?_, answered_otherRegs _ _ _ _ _ (pmonLog_otherRegs s _ _), answered_answers _ _ _ _ _⟩
  · rw [writeEffect_pmon]
    exact pmonWrite_evsel_bad s n hoff (written_evselEn s n w hone) (by rwa [written_evselEvent])
  · rw [answered_get]
    simp (disch := decide) [State.pmonLog]
  · rw [answered_get, State.pmonLog, get_set_fits _ _ _ _ _ ⟨by decide, n.isLt⟩]

end

/-! ## Bandwidth windows (R478) -/

/-- The windows begin anew, with no peak. -/
def State.windowsCleared (s : State) : State := (List.range 48).foldl (fun s k => s.wrReg PMON_BW_PEAK 0 k) s.bwRestart

theorem windowsCleared_goes {s : State} : Goes [.csr, .pmon] s s.windowsCleared :=
  .foldl (.step .refl bwRestart_goes (by decide)) (fun _ _ h => .step h wrReg_goes (by decide))

theorem windowsCleared_pmon (s : State) : s.windowsCleared.pmon = s.bwRestart.pmon :=
  (Goes.foldl (l := [.csr]) (.refl (s := s.bwRestart)) (fun _ _ h => .step h wrReg_goes (by decide))).only .pmon rfl

theorem foldl_range_other {α : Type} {f : State → Nat → State} {read : State → α} {n : Nat}
    (h : ∀ t, ∀ i < n, read (f t i) = read t) (s : State) : read ((List.range n).foldl f s) = read s := by
  induction n with
  | zero => rfl
  | succ n ih =>
    rw [List.range_succ, List.foldl_append, List.foldl_cons, List.foldl_nil, h _ n (by omega), ih (fun t i hi => h t i (by omega))]

/-- What a fold over a range of indices leaves of one index, where no other step touches it. -/
theorem foldl_range_at {α : Type} {f : State → Nat → State} {read : State → α} {n k : Nat} (hk : k < n)
    (h : ∀ t i, i ≠ k → read (f t i) = read t) (s : State) :
    ∃ t, read t = read s ∧ read ((List.range n).foldl f s) = read (f t k) := by
  induction n with
  | zero => omega
  | succ n ih =>
    rw [List.range_succ, List.foldl_append, List.foldl_cons, List.foldl_nil]
    by_cases hkn : k = n
    · subst hkn
      exact ⟨_, foldl_range_other (fun t i hi => h t i (by omega)) s, rfl⟩
    · obtain ⟨t, ht, hread⟩ := ih (by omega)
      exact ⟨t, ht, (h _ n (Ne.symm hkn)).trans hread⟩

theorem pmonWrite_window (s : State) (w : Word) :
    s.pmonWrite (s.written PMON_BW_WINDOW 0 15 w) ⟨PMON_BW_WINDOW, 0, 0, 15⟩ w.toNat =
      ⟨(s.written PMON_BW_WINDOW 0 15 w).windowsCleared, 0, false⟩ := by
  have h1 : PMON_BW_WINDOW.base ≠ PMON_EVSEL.base := by decide
  have h2 : PMON_BW_WINDOW.base ≠ PMON_SNAP.base := by decide
  simp [State.pmonWrite, State.windowsCleared, h1, h2]

theorem windowsCleared_window (s : State) : s.windowsCleared.get PMON_BW_WINDOW.WINDOW_NS = s.get PMON_BW_WINDOW.WINDOW_NS := by
  refine foldl_range_other (read := fun t => t.get PMON_BW_WINDOW.WINDOW_NS) (fun t i hi => get_wrReg_far _ _ _ _ ?_) s.bwRestart
  exact Reg.addr_ne_of_apartFor (n := 48) (n' := 1) (by decide) hi (by decide)

theorem windowsCleared_peak (s : State) {k : Nat} (hk : k < 48) : s.windowsCleared.rdReg PMON_BW_PEAK k = 0 := by
  obtain ⟨t, _, ht⟩ := foldl_range_at (f := fun s k => s.wrReg PMON_BW_PEAK 0 k) (read := fun t => t.rdReg PMON_BW_PEAK k) hk
    (fun t i hi => rdReg_wrReg_far _ _ _ _ (by simp [Reg.addr, PMON_BW_PEAK]; omega)) s.bwRestart
  exact ht.trans (rdReg_wrReg_same _ _ _ _ _)

theorem bwWindowWrite_restarts (s : State) (m : Master) (tag : BitVec 10) (v : Word) (hw : Writable s m PMON_BW_WINDOW 0 v) :
    Does (.bwWindowWrite m tag v) s [.csr, .out, .intc, .pmon] (fun t =>
      t.get PMON_BW_WINDOW.WINDOW_NS = PMON_BW_WINDOW.WINDOW_NS.of v.toNat ∧ (∀ k < 48, t.rdReg PMON_BW_PEAK k = 0) ∧
      t.pmon.meterTx = [] ∧ t.pmon.meterRx = [] ∧ Answered t m tag.toNat 0 0 []) := by
  refine does_write 15 rfl rfl (by decide) (by decide) hw (t := (s.written PMON_BW_WINDOW 0 15 v).windowsCleared) ?_
    windowsCleared_goes (by decide) ⟨?_, ?_, ?_, ?_, answered_answers _ _ _ _ _⟩
  · rw [writeEffect_pmon]
    exact pmonWrite_window s v
  · rw [answered_get, windowsCleared_window, written_get_stored _ _ _ _ _ _ (by decide)]
  · intro k hk
    rw [answered_rdReg]
    exact windowsCleared_peak _ hk
  · rw [answered_pmon, windowsCleared_pmon]
    rfl
  · rw [answered_pmon, windowsCleared_pmon]
    rfl

/-- What the end of a window does to meter `k`, with the bytes counted in `s0`. -/
def State.meterEnd (s0 s : State) (k : Nat) : State :=
  (s.windowDir PMON_BW_TX.LAST PMON_BW_TX.WINDOWS PMON_BW_PEAK.TX_KIB k (lookupD s0.pmon.meterTx k 0)).windowDir
    PMON_BW_RX.LAST PMON_BW_RX.WINDOWS PMON_BW_PEAK.RX_KIB k (lookupD s0.pmon.meterRx k 0)

/-- The registers of a meter. -/
def State.meterRegs (s : State) (k : Nat) : Word × Word × Word :=
  (s.rdReg PMON_BW_TX k, s.rdReg PMON_BW_RX k, s.rdReg PMON_BW_PEAK k)

theorem windowDir_otherRegs {l : List Nat} {a s : State} {last windows peak : Field} {k bytes : Nat} (h : OtherRegs l a s)
    (hlast : last.reg.addr k 0 ∈ l) (hwindows : windows.reg.addr k 0 ∈ l) (hpeak : peak.reg.addr k 0 ∈ l) :
    OtherRegs l a (s.windowDir last windows peak k bytes) := by
  unfold State.windowDir
  dsimp only
  split
  · exact .andSet (.andAddWrap (.andSet h hlast) hwindows) hpeak
  · exact .andAddWrap (.andSet h hlast) hwindows

theorem meterEnd_otherRegs (s0 s : State) (k : Nat) :
    OtherRegs [PMON_BW_TX.addr k 0, PMON_BW_RX.addr k 0, PMON_BW_PEAK.addr k 0] s (s0.meterEnd s k) :=
  windowDir_otherRegs (windowDir_otherRegs .refl (by simp [PMON_BW_TX.LAST]) (by simp [PMON_BW_TX.WINDOWS])
    (by simp [PMON_BW_PEAK.TX_KIB])) (by simp [PMON_BW_RX.LAST]) (by simp [PMON_BW_RX.WINDOWS]) (by simp [PMON_BW_PEAK.RX_KIB])

theorem meterEnd_meterRegs (s0 s : State) {i k : Nat} (h : i ≠ k) : (s0.meterEnd s i).meterRegs k = s.meterRegs k := by
  have hother := meterEnd_otherRegs s0 s i
  unfold State.meterRegs
  rw [hother PMON_BW_TX k 0 (by simp [Reg.addr, PMON_BW_TX, PMON_BW_RX, PMON_BW_PEAK]; omega),
    hother PMON_BW_RX k 0 (by simp [Reg.addr, PMON_BW_TX, PMON_BW_RX, PMON_BW_PEAK]; omega),
    hother PMON_BW_PEAK k 0 (by simp [Reg.addr, PMON_BW_TX, PMON_BW_RX, PMON_BW_PEAK]; omega)]

section
variable (s : State) (k : Fin 48) (n : Nat)

/-- The end of a window in the direction of sending. -/
theorem windowDir_tx :
    let t := s.windowDir PMON_BW_TX.LAST PMON_BW_TX.WINDOWS PMON_BW_PEAK.TX_KIB k n
    t.get PMON_BW_TX.LAST k = n % 2 ^ PMON_BW_TX.LAST.w ∧
    t.get PMON_BW_TX.WINDOWS k = (s.get PMON_BW_TX.WINDOWS k + 1) % 2 ^ PMON_BW_TX.WINDOWS.w ∧
    (n < 2 ^ 40 → t.get PMON_BW_PEAK.TX_KIB k = max (s.get PMON_BW_PEAK.TX_KIB k) (n / 1024)) ∧
    t.get PMON_BW_RX.WINDOWS k = s.get PMON_BW_RX.WINDOWS k ∧ t.get PMON_BW_PEAK.RX_KIB k = s.get PMON_BW_PEAK.RX_KIB k := by
  unfold State.windowDir State.addWrap
  dsimp only
  split <;> rename_i hpeak <;> simp (disch := decide) at hpeak ⊢
  · intro hn
    have hfits : n / 1024 < 2 ^ PMON_BW_PEAK.TX_KIB.w := Nat.div_lt_of_lt_mul (by norm_num [PMON_BW_PEAK.TX_KIB]; omega)
    rw [Nat.mod_eq_of_lt hfits]
    omega
  · omega

/-- The end of a window in the direction of receiving. -/
theorem windowDir_rx :
    let t := s.windowDir PMON_BW_RX.LAST PMON_BW_RX.WINDOWS PMON_BW_PEAK.RX_KIB k n
    t.get PMON_BW_RX.LAST k = n % 2 ^ PMON_BW_RX.LAST.w ∧
    t.get PMON_BW_RX.WINDOWS k = (s.get PMON_BW_RX.WINDOWS k + 1) % 2 ^ PMON_BW_RX.WINDOWS.w ∧
    (n < 2 ^ 40 → t.get PMON_BW_PEAK.RX_KIB k = max (s.get PMON_BW_PEAK.RX_KIB k) (n / 1024)) ∧
    t.get PMON_BW_TX.LAST k = s.get PMON_BW_TX.LAST k ∧ t.get PMON_BW_TX.WINDOWS k = s.get PMON_BW_TX.WINDOWS k ∧
    t.get PMON_BW_PEAK.TX_KIB k = s.get PMON_BW_PEAK.TX_KIB k := by
  unfold State.windowDir State.addWrap
  dsimp only
  split <;> rename_i hpeak <;> simp (disch := decide) at hpeak ⊢
  · intro hn
    have hfits : n / 1024 < 2 ^ PMON_BW_PEAK.RX_KIB.w := Nat.div_lt_of_lt_mul (by norm_num [PMON_BW_PEAK.RX_KIB]; omega)
    rw [Nat.mod_eq_of_lt hfits]
    omega
  · omega

end

theorem get_of_word {s t : State} {f : Field} {i : Nat} (h : s.rdReg f.reg i = t.rdReg f.reg i) : s.get f i = t.get f i := by
  rw [State.get, State.get, h]

/-- The registers of a meter at the end of a window. -/
theorem windowEnd_meter (s : State) (k : Fin 48) :
    let t := ((List.range 48).foldl s.meterEnd s).bwRestart
    t.get PMON_BW_TX.LAST k = lookupD s.pmon.meterTx k 0 % 2 ^ PMON_BW_TX.LAST.w ∧
    t.get PMON_BW_RX.LAST k = lookupD s.pmon.meterRx k 0 % 2 ^ PMON_BW_RX.LAST.w ∧
    t.get PMON_BW_TX.WINDOWS k = (s.get PMON_BW_TX.WINDOWS k + 1) % 2 ^ PMON_BW_TX.WINDOWS.w ∧
    t.get PMON_BW_RX.WINDOWS k = (s.get PMON_BW_RX.WINDOWS k + 1) % 2 ^ PMON_BW_RX.WINDOWS.w ∧
    (lookupD s.pmon.meterTx k 0 < 2 ^ 40 →
      t.get PMON_BW_PEAK.TX_KIB k = max (s.get PMON_BW_PEAK.TX_KIB k) (lookupD s.pmon.meterTx k 0 / 1024)) ∧
    (lookupD s.pmon.meterRx k 0 < 2 ^ 40 →
      t.get PMON_BW_PEAK.RX_KIB k = max (s.get PMON_BW_PEAK.RX_KIB k) (lookupD s.pmon.meterRx k 0 / 1024)) := by
  intro t
  obtain ⟨u, hu, ht⟩ := foldl_range_at (f := s.meterEnd) (read := fun t => t.meterRegs k) k.isLt
    (fun t i hi => meterEnd_meterRegs s t hi) s
  obtain ⟨htx, hrx, hpeak⟩ := by simpa only [State.meterRegs, Prod.mk.injEq] using ht
  obtain ⟨hutx, hurx, hupeak⟩ := by simpa only [State.meterRegs, Prod.mk.injEq] using hu
  have hget : ∀ f : Field, (f.reg = PMON_BW_TX ∨ f.reg = PMON_BW_RX ∨ f.reg = PMON_BW_PEAK) → t.get f k = (s.meterEnd u k).get f k := by
    rintro f (h | h | h) <;> refine get_of_word ?_ <;> rw [h] <;> assumption
  have hold : ∀ f : Field, (f.reg = PMON_BW_TX ∨ f.reg = PMON_BW_RX ∨ f.reg = PMON_BW_PEAK) → u.get f k = s.get f k := by
    rintro f (h | h | h) <;> refine get_of_word ?_ <;> rw [h] <;> assumption
  obtain ⟨hlast, hwindows, hmax, hrxWindows, hrxPeak⟩ := windowDir_tx u k (lookupD s.pmon.meterTx k 0)
  obtain ⟨hlast', hwindows', hmax', hkeep, hkeepWindows, hkeepPeak⟩ :=
    windowDir_rx (u.windowDir PMON_BW_TX.LAST PMON_BW_TX.WINDOWS PMON_BW_PEAK.TX_KIB k (lookupD s.pmon.meterTx k 0)) k
      (lookupD s.pmon.meterRx k 0)
  refine ⟨?_, ?_, ?_, ?_, fun h => ?_, fun h => ?_⟩
  · exact (hget _ (.inl rfl)).trans (hkeep.trans hlast)
  · exact (hget _ (.inr (.inl rfl))).trans hlast'
  · rw [← hold _ (.inl rfl)]
    exact (hget _ (.inl rfl)).trans (hkeepWindows.trans hwindows)
  · rw [← hold _ (.inr (.inl rfl)), ← hrxWindows]
    exact (hget _ (.inr (.inl rfl))).trans hwindows'
  · rw [← hold _ (.inr (.inr rfl))]
    exact (hget _ (.inr (.inr rfl))).trans (hkeepPeak.trans (hmax h))
  · rw [← hold _ (.inr (.inr rfl)), ← hrxPeak]
    exact (hget _ (.inr (.inr rfl))).trans (hmax' h)

theorem bwWindowEnd_meters (s : State) (hready : s.on PMON_STATUS.READY = true) :
    Does (.bwWindowEnd) s [.csr, .pmon] (fun t =>
      (∀ k < 48, t.get PMON_BW_TX.LAST k = lookupD s.pmon.meterTx k 0 % 2 ^ PMON_BW_TX.LAST.w) ∧
      (∀ k < 48, t.get PMON_BW_RX.LAST k = lookupD s.pmon.meterRx k 0 % 2 ^ PMON_BW_RX.LAST.w) ∧
      (∀ k < 48, t.get PMON_BW_TX.WINDOWS k = (s.get PMON_BW_TX.WINDOWS k + 1) % 2 ^ PMON_BW_TX.WINDOWS.w) ∧
      (∀ k < 48, t.get PMON_BW_RX.WINDOWS k = (s.get PMON_BW_RX.WINDOWS k + 1) % 2 ^ PMON_BW_RX.WINDOWS.w) ∧
      (∀ k < 48, lookupD s.pmon.meterTx k 0 < 2 ^ 40 →
          t.get PMON_BW_PEAK.TX_KIB k = max (s.get PMON_BW_PEAK.TX_KIB k) (lookupD s.pmon.meterTx k 0 / 1024)) ∧
      (∀ k < 48, lookupD s.pmon.meterRx k 0 < 2 ^ 40 →
          t.get PMON_BW_PEAK.RX_KIB k = max (s.get PMON_BW_PEAK.RX_KIB k) (lookupD s.pmon.meterRx k 0 / 1024)) ∧
      t.pmon.meterTx = [] ∧ t.pmon.meterRx = []) := by
  have hexec : exec .bwWindowEnd s = .next ((List.range 48).foldl s.meterEnd s).bwRestart := by
    show execBwWindowEnd s = _
    simp only [execBwWindowEnd, hready, if_true]
    rfl
  refine .of_goes hexec (.step (.foldl .refl (fun t k h => ?_)) bwRestart_goes (by decide))
    ⟨fun k hk => ?_, fun k hk => ?_, fun k hk => ?_, fun k hk => ?_, fun k hk => ?_, fun k hk => ?_, rfl, rfl⟩
  · exact .step (.step h windowDir_goes (by decide)) windowDir_goes (by decide)
  all_goals
    obtain ⟨htx, hrx, htxWindows, hrxWindows, htxPeak, hrxPeak⟩ := windowEnd_meter s ⟨k, hk⟩
    assumption

/-- Settles O52. -/
theorem performanceMonitor : Obligations.PerformanceMonitor := by
  unfold Obligations.PerformanceMonitor
  exact ⟨snapshotGo_asks, snapshotRelease_clears, counterEnable_enables, counterEnable_refused, bwWindowWrite_restarts,
    bwWindowEnd_meters⟩

end Sys2Proof.Machine

namespace Sys2Proof.Machine
open Csr

/-!
The registers that shared operations may change: an event of the performance monitor, an access to memory, a record of the health
log, a failure that the module announces. A list of addresses holds a whole block's registers by `blockRegs`.
-/

/-- What a command does whose next state is known. -/
theorem Does.of_next {c : Instr} {s t : State} {l : List Part} {p : State → Prop} (hc : exec c s = .next t)
    (h : GoesNext l s (exec c s)) (hp : p t) : Does c s l p := ⟨t, hc, (h t hc).only, hp⟩

/-- The addresses of a block's registers. -/
def blockRegs (b : Nat) : List Nat := (List.range 0x100000).map (b * 0x100000 + ·)

@[simp] theorem mem_blockRegs {a b : Nat} : a ∈ blockRegs b ↔ a / 0x100000 = b := by
  unfold blockRegs
  rw [List.mem_map]
  constructor
  · rintro ⟨x, hx, rfl⟩
    rw [List.mem_range] at hx
    omega
  · intro h
    exact ⟨a % 0x100000, List.mem_range.mpr (Nat.mod_lt _ (by decide)), by omega⟩

theorem OutsideBlock.otherRegs {b : Nat} {l : List Nat} {s t : State} (h : OutsideBlock b s t) (w : blockRegs b ⊆ l) : OtherRegs l s t :=
  fun r i j hr => h r i j (fun hb => hr (w (mem_blockRegs.mpr hb)))

/-- The registers that a record of the health log may change (Table PWR-3). -/
def healthRegs : List Nat := [HLTH_COUNT.addr 0 0, HLTH_QLOG_PTR.addr 0 0, HLTH_INT_STATUS.addr 0 0, TOP_MYK_COUNT.addr 0 0]

section
variable {l : List Nat} {a s : State}

theorem OtherRegs.andPmonEdge {code amount : Nat} {x : EventAttr} (h : OtherRegs l a s) (w : blockRegs 15 ⊆ l) :
    OtherRegs l a (s.pmonEdge code amount x) := h.trans ((pmonEdge_outside s code amount x).otherRegs w)

theorem OtherRegs.andMemEvent {wr : Bool} {x n cls block : Nat} (h : OtherRegs l a s) (w : blockRegs 15 ⊆ l) :
    OtherRegs l a (s.memEvent wr x n cls block) := by
  unfold State.memEvent
  split
  · exact h
  · exact h.andPmonEdge w

theorem OtherRegs.andHostWrite {x : Nat} {bs : Bytes} (h : OtherRegs l a s) (w : TOP_MYK_COUNT.addr 0 0 ∈ l) :
    OtherRegs l a (s.hostWrite x bs) := h.trans ((hostWrite_otherRegs s x bs).mono (by simpa using w))

theorem healthRing_otherRegs (s : State) (e : Bytes) : OtherRegs healthRegs s (s.healthRing e) := by
  unfold State.healthRing
  extract_lets size wr used first s1 base
  have h1 : OtherRegs healthRegs s s1 := .andSet (.andAddSat .refl (by simp [healthRegs, HLTH_COUNT.LOG_LOST]))
    (by simp [healthRegs, HLTH_QLOG_PTR.OVERFLOW])
  clear_value s1
  split
  · split
    · exact .andRaise (.andReport h1) (by simp [healthRegs, HLTH_INT_STATUS.LOG_LOST])
    · exact h1
  · exact .andRaise (.andSet (.andHostWrite .refl (by simp [healthRegs])) (by simp [healthRegs, HLTH_QLOG_PTR.WR_PTR]))
      (by simp [healthRegs, HLTH_INT_STATUS.LOG])

/-- The state of the health log once an entry has joined it. -/
def HlthSt.logged (h : HlthSt) (entry : Bytes) : HlthSt :=
  { h with logSeq := h.logSeq + 1, logTail := (h.logTail ++ [entry]).drop ((h.logTail ++ [entry]).length - 16384) }

/-- A state whose health log an entry has joined; a quarantine is counted. -/
def State.healthLogged (s : State) (kind : Nat) (entry : Bytes) : State :=
  let s := { s.fresh.2 with hlth := s.hlth.logged entry }
  if kind = 1 then s.addSat HLTH_COUNT.QUARANTINES 1 else s

/-- A record of the health log: its entry joins the log, and goes to the host's ring where one stands. -/
theorem health_eq (s : State) (x : Health) :
    ∃ entry, s.health x =
      if s.hlth.bindingOff || !(s.healthLogged x.kind entry).on HLTH_STATUS.READY then s.healthLogged x.kind entry
      else (s.healthLogged x.kind entry).healthRing entry := by
  unfold State.health
  extract_lets load s1 p seq stamp
  split
  rename_i temp rail rate heq
  refine ⟨x.bytes load temp rail rate stamp seq, ?_⟩
  unfold State.healthLogged
  by_cases hk : x.kind = 1 <;> simp only [hk, if_true, if_false] <;> rfl

theorem healthLogged_hlth (s : State) (k : Nat) (entry : Bytes) : (s.healthLogged k entry).hlth = s.hlth.logged entry := by
  unfold State.healthLogged
  split <;> rfl

theorem healthLogged_otherRegs (s : State) (k : Nat) (entry : Bytes) : OtherRegs healthRegs s (s.healthLogged k entry) := by
  unfold State.healthLogged
  extract_lets t
  have h : OtherRegs healthRegs s t := .of_csr rfl
  split
  · exact .andAddSat h (by simp [healthRegs, HLTH_COUNT.QUARANTINES])
  · exact h

theorem health_otherRegs (s : State) (x : Health) : OtherRegs healthRegs s (s.health x) := by
  obtain ⟨entry, h⟩ := health_eq s x
  rw [h]
  split
  · exact healthLogged_otherRegs _ _ _
  · exact (healthLogged_otherRegs _ _ _).trans (healthRing_otherRegs _ _)

theorem health_hlth (s : State) (x : Health) : ∃ entry, (s.health x).hlth = s.hlth.logged entry := by
  obtain ⟨entry, h⟩ := health_eq s x
  refine ⟨entry, ?_⟩
  rw [h]
  split
  · exact healthLogged_hlth _ _ _
  · exact (healthRing_goes.only .hlth rfl).trans (healthLogged_hlth _ _ _)

@[simp] theorem health_logSeq (s : State) (x : Health) : (s.health x).hlth.logSeq = s.hlth.logSeq + 1 := by
  obtain ⟨entry, h⟩ := health_hlth s x
  rw [h, HlthSt.logged]

theorem OtherRegs.andHealth {x : Health} (h : OtherRegs l a s) (w : healthRegs ⊆ l) : OtherRegs l a (s.health x) :=
  h.trans ((health_otherRegs s x).mono w)

end

end Sys2Proof.Machine

namespace Sys2Proof.Machine
open Csr

/-! ## A line port, and its way to HUNT (Table FRAME-6) -/

theorem port_of_line {s t : State} (h : t.line = s.line) (p : Nat) : t.port p = s.port p := by rw [State.port, State.port, h]

theorem port_putPort {s : State} {p : Nat} {x : LinePort} (h : p < s.line.length) : (s.putPort p x).port p = x := by
  simp [State.port, State.putPort, h]

theorem putPort_line (s : State) (p : Nat) (x : LinePort) : (s.putPort p x).line = s.line.set p x := rfl

/-- What a value of a port's state keeps where it is put back with that value unchanged. -/
theorem port_putPort_keeps {α : Type} (g : LinePort → α) {s : State} {p : Nat} {x : LinePort} (h : g x = g (s.port p)) :
    g ((s.putPort p x).port p) = g (s.port p) := by
  by_cases hp : p < s.line.length
  · rw [port_putPort hp, h]
  · have : (s.putPort p x).line = s.line := by rw [putPort_line, List.set_eq_of_length_le (by omega)]
    rw [port_of_line this]

/-- The registers that a port's way to HUNT may change. -/
def huntRegs (p : Nat) : List Nat :=
  [PORT_PM_EF.addr p 0, PORT_STATUS.addr p 0, LINE_STATUS.addr 0 0, PORT_ERR_LOG.addr p 0, PORT_INT_STATUS.addr p 0] ++ blockRegs 15

theorem OtherRegs.andSetAlign {l : List Nat} {a s : State} {p st n : Nat} (h : OtherRegs l a s) (w : PORT_STATUS.addr p 0 ∈ l)
    (w' : LINE_STATUS.addr 0 0 ∈ l) : OtherRegs l a (s.setAlign p st n) := by
  unfold State.setAlign
  extract_lets s1 s2
  have h2 : OtherRegs l a s2 := .andSet (.andSet h w) w'
  exact h2.trans (.of_csr rfl)

theorem OtherRegs.andCountErrored {l : List Nat} {a s : State} {p : Nat} (h : OtherRegs l a s) (w : PORT_PM_EF.addr p 0 ∈ l)
    (w' : blockRegs 15 ⊆ l) : OtherRegs l a (s.countErrored p) := by
  unfold State.countErrored
  extract_lets x s1
  have h1 : OtherRegs l a s1 := h.trans (.of_csr rfl)
  exact .andPmonEdge (.andAddWrap h1 w) w'

theorem countErrored_laws (s : State) (p : Nat) : ((s.countErrored p).port p).laws = (s.port p).laws := by
  unfold State.countErrored
  extract_lets x s1
  have h : ((s1.addWrap PORT_PM_EF.EF 1 p).pmonEdge 0x0068 1 { cls := 10, hasTenant := false }).line = s1.line :=
    pmonEdge_goes.only .line rfl
  rw [port_of_line h]
  exact port_putPort_keeps LinePort.laws rfl

theorem setAlign_laws (s : State) (p st n : Nat) : ((s.setAlign p st n).port p).laws = (s.port p).laws :=
  port_putPort_keeps (s := (s.set PORT_STATUS.ALIGN_STATE st p).set LINE_STATUS.IN_FRAME _) LinePort.laws rfl

@[simp] theorem setAlign_get (s : State) (p st n : Nat) (f : Field) (i j : Nat) : (s.setAlign p st n).get f i j =
    ((s.set PORT_STATUS.ALIGN_STATE st p).set LINE_STATUS.IN_FRAME (setBit ((s.set PORT_STATUS.ALIGN_STATE st p).get LINE_STATUS.IN_FRAME)
      p (st == 2 || st == 3))).get f i j := rfl

/-- The state of a port that left its frame: the held frame is discarded and counted. -/
def State.dropHeld (s : State) (p : Nat) : State :=
  let x := s.port p
  let gap := if x.held.isSome then x.rxYarn.map (fun y => (y.1, y.2 ++ [([], true)])) else x.rxYarn
  let s := s.putPort p { x with held := none, rxYarn := gap }
  if x.held.isSome then s.countErrored p else s

theorem toHunt_eq (s : State) (p : Nat) : s.toHunt p =
    if s.inFrame p then
      ((((s.dropHeld p).setAlign p 0 0).set PORT_STATUS.RX_WIDTH 3 p).portLog p 0x0804 0).raisePort PORT_INT_STATUS.LOF p
    else ((s.dropHeld p).setAlign p 0 0).set PORT_STATUS.RX_WIDTH 3 p := rfl

theorem dropHeld_laws (s : State) (p : Nat) : ((s.dropHeld p).port p).laws = (s.port p).laws := by
  unfold State.dropHeld
  extract_lets x gap s1
  have h1 : (s1.port p).laws = (s.port p).laws := port_putPort_keeps LinePort.laws rfl
  split
  · rw [countErrored_laws, h1]
  · exact h1

theorem dropHeld_otherRegs (s : State) (p : Nat) : OtherRegs (huntRegs p) s (s.dropHeld p) := by
  unfold State.dropHeld
  extract_lets x gap s1
  have h1 : OtherRegs (huntRegs p) s s1 := .of_csr rfl
  split
  · exact h1.andCountErrored (by simp [huntRegs]) (List.subset_append_right _ _)
  · exact h1

theorem toHunt_otherRegs (s : State) (p : Nat) : OtherRegs (huntRegs p) s (s.toHunt p) := by
  rw [toHunt_eq]
  have h : OtherRegs (huntRegs p) s (((s.dropHeld p).setAlign p 0 0).set PORT_STATUS.RX_WIDTH 3 p) :=
    .andSet (.andSetAlign (dropHeld_otherRegs s p) (by simp [huntRegs]) (by simp [huntRegs])) (by simp [huntRegs, PORT_STATUS.RX_WIDTH])
  split
  · exact .andRaisePort (.andPortLog h (by simp [huntRegs])) (by simp [huntRegs, PORT_INT_STATUS.LOF])
  · exact h

theorem toHunt_laws (s : State) (p : Nat) : ((s.toHunt p).port p).laws = (s.port p).laws := by
  rw [toHunt_eq, ← dropHeld_laws s p, ← setAlign_laws (s.dropHeld p) p 0 0]
  split
  · rw [port_of_line (s := (s.dropHeld p).setAlign p 0 0)]
    simp [State.raisePort, State.portLog]
  · rfl

theorem toHunt_get_align (s : State) (p : Fin 16) : (s.toHunt p).get PORT_STATUS.ALIGN_STATE p = 0 := by
  rw [toHunt_eq]
  split <;> simp (disch := decide) [State.raisePort, State.portLog]

theorem toHunt_lof {s : State} {p : Fin 16} (h : s.inFrame p = true) :
    (s.toHunt p).get PORT_ERR_LOG.REASON p = 0x0804 ∧ (s.toHunt p).on PORT_INT_STATUS.LOF p = true := by
  rw [toHunt_eq, if_pos h]
  constructor <;> simp (disch := decide) [State.raisePort, State.portLog, State.on]

/-- A lane's register keeps its word where its port goes to HUNT. -/
theorem toHunt_lane (s : State) (p : Fin 16) (lane : Fin 8) :
    (s.toHunt p).rdReg PORT_LANE_STAT p lane = s.rdReg PORT_LANE_STAT p lane := by
  refine toHunt_otherRegs s p PORT_LANE_STAT p lane ?_
  simp only [huntRegs, List.cons_append, List.nil_append, List.mem_cons, mem_blockRegs, Reg.addr, PORT_LANE_STAT, PORT_PM_EF, PORT_STATUS,
    LINE_STATUS, PORT_ERR_LOG, PORT_INT_STATUS]
  omega

/-! ## Lanes (R172, R175, R176) -/

theorem lockedPositions_congr {s t : State} {p : Nat} (h : (t.port p).laws = (s.port p).laws)
    (hw : ∀ l, t.rdReg PORT_LANE_STAT p l = s.rdReg PORT_LANE_STAT p l) : t.lockedPositions p = s.lockedPositions p := by
  simp only [State.lockedPositions, State.on, State.get, PORT_LANE_STAT.CW_LOCK, h, hw]

/-- PORT_STATUS stands apart from every lane's register, whatever the lane. -/
theorem laneStat_ne_status (p lane : Nat) : PORT_LANE_STAT.addr p lane ≠ PORT_STATUS.addr p 0 := by
  simp only [Reg.addr, PORT_LANE_STAT, PORT_STATUS]
  omega

/-- The state of a port that lost a lane: the lane's alignment word is forgotten, and the loss is logged. -/
def State.laneLost (s : State) (p lane reason : Nat) : State :=
  let x := s.port p
  let s := s.putPort p { x with laws := x.laws.filter (fun l => l.1 ≠ lane) }
  (s.set PORT_STATUS.RX_LANES (s.lockedPositions p) p).portLog p reason lane

theorem laneLost_laws {s : State} {p lane reason : Nat} (h : p < s.line.length) :
    ((s.laneLost p lane reason).port p).laws = (s.port p).laws.filter (fun l => l.1 ≠ lane) := by
  unfold State.laneLost
  extract_lets x s1
  rw [port_of_line (s := s1) (by simp [State.portLog])]
  exact congrArg LinePort.laws (port_putPort h)

theorem putPort_get (s : State) (p : Nat) (x : LinePort) (f : Field) (i j : Nat) : (s.putPort p x).get f i j = s.get f i j := rfl

theorem laneLost_get (s : State) (p : Fin 16) (lane : Fin 8) (n : Nat) :
    (∀ f, f.reg = PORT_LANE_STAT → (s.laneLost p lane n).get f p lane = s.get f p lane) ∧
    (s.laneLost p lane n).get PORT_STATUS.ALIGN_STATE p = s.get PORT_STATUS.ALIGN_STATE p ∧
    (s.laneLost p lane n).get PORT_ERR_LOG.REASON p = n % 2 ^ 16 := by
  unfold State.laneLost State.portLog
  refine ⟨fun f hf => ?_, ?_, ?_⟩
  · have hlog : PORT_ERR_LOG.addr p 0 ≠ PORT_LANE_STAT.addr p lane := Reg.addr_ne (by decide) p.isLt (by decide) p.isLt lane.isLt
    rw [get_report, get_set_far, get_set_far, get_set_far, putPort_get]
    · rw [hf]; exact (laneStat_ne_status p lane).symm
    · rw [hf]; exact hlog
    · rw [hf]; exact hlog
  · simp (disch := decide) [putPort_get]
  · simp (disch := decide) [putPort_get, PORT_ERR_LOG.REASON]

theorem laneLost_inFrame (s : State) (p : Fin 16) (lane : Fin 8) (n : Nat) : (s.laneLost p lane n).inFrame p = s.inFrame p := by
  simp only [State.inFrame, (laneLost_get s p lane n).2.1]

/-- What a lane's loss does to its port: the port goes to HUNT where the lane is in use and the port hunts no longer. -/
theorem laneLost_effect {s t : State} {p : Fin 16} {lane : Fin 8} {n : Nat} {used : Bool}
    (hn : n < 2 ^ 16) (hp : p.val < s.line.length)
    (ht : t = if used then (s.laneLost p lane n).toHunt p else s.laneLost p lane n) :
    (∀ f, f.reg = PORT_LANE_STAT → t.get f p lane = s.get f p lane) ∧
    (t.port p).laws = (s.port p).laws.filter (fun l => l.1 ≠ lane.val) ∧
    Sent s t (.report n) ∧
    (used = true → t.get PORT_STATUS.ALIGN_STATE p = 0) ∧
    (used = false → t.get PORT_STATUS.ALIGN_STATE p = s.get PORT_STATUS.ALIGN_STATE p ∧ t.get PORT_ERR_LOG.REASON p = n) ∧
    (used = true ∧ s.inFrame p = true → t.get PORT_ERR_LOG.REASON p = 0x0804 ∧ t.on PORT_INT_STATUS.LOF p = true) := by
  obtain ⟨hlane, halign, hreason⟩ := laneLost_get s p lane n
  have hsent : Sent s (s.laneLost p lane n) (.report n) := sent_report n (List.prefix_refl _)
  rw [Nat.mod_eq_of_lt hn] at hreason
  cases used
  · rw [if_neg (by simp)] at ht
    subst ht
    exact ⟨hlane, laneLost_laws hp, hsent, by simp, fun _ => ⟨halign, hreason⟩, by simp⟩
  · rw [if_pos rfl] at ht
    subst ht
    refine ⟨fun f hf => ?_, ?_, hsent.of_goes toHunt_goes, fun _ => toHunt_get_align _ p, by simp, fun h => ?_⟩
    · rw [← hlane f hf, State.get, State.get, hf, toHunt_lane]
    · rw [toHunt_laws, laneLost_laws hp]
    · exact toHunt_lof ((laneLost_inFrame s p lane n).trans h.2)

theorem codewordLockGained_does (s : State) (p : Fin 16) (lane : Fin 8) (hlen : s.line.length = 16) :
    Does (.codewordLockGained p lane) s [.csr, .line] (fun t =>
      t.on PORT_LANE_STAT.SIGNAL p lane = true ∧ t.on PORT_LANE_STAT.CW_LOCK p lane = true ∧
      t.get PORT_STATUS.RX_LANES p = t.lockedPositions p % 2 ^ PORT_STATUS.RX_LANES.w ∧
      t.line = s.line.set p { (s.port p) with adapted := addOnce (s.port p).adapted lane.val, lossAt := assocErase (s.port p).lossAt lane.val } ∧
      OtherRegs [PORT_LANE_STAT.addr p lane, PORT_STATUS.addr p 0] s t) := by
  have hexec : exec (.codewordLockGained p lane) s = execCodewordLockGained p lane s := rfl
  unfold execCodewordLockGained at hexec
  extract_lets s1 x s2 at hexec
  have h1 : OtherRegs [PORT_LANE_STAT.addr p lane, PORT_STATUS.addr p 0] s s1 :=
    .andSet (.andSet .refl (by simp [PORT_LANE_STAT.SIGNAL])) (by simp [PORT_LANE_STAT.CW_LOCK])
  have hport : (s2.set PORT_STATUS.RX_LANES (s2.lockedPositions p) p).lockedPositions p = s2.lockedPositions p :=
    lockedPositions_congr rfl fun l => rdReg_set_far _ _ _ _ (laneStat_ne_status p l).symm
  have hfar : PORT_STATUS.addr p 0 ≠ PORT_LANE_STAT.addr p lane := (laneStat_ne_status p lane).symm
  refine .of_next hexec execCodewordLockGained_goes ⟨?_, ?_, ?_, rfl, ?_⟩
  · rw [State.on, get_set_far _ _ _ _ hfar, putPort_get]
    simp (disch := decide) [s1]
  · rw [State.on, get_set_far _ _ _ _ hfar, putPort_get]
    simp (disch := decide) [s1]
  · rw [hport]
    simp (disch := decide)
  · exact .andSet (h1.trans (.of_csr rfl)) (by simp [PORT_STATUS.RX_LANES])

/-- A lane in use whose port has left HUNT takes it back there. -/
theorem lane_used {s : State} {p lane : Nat} (h : s.laneInUse p lane = true)
    (h' : s.get PORT_STATUS.ALIGN_STATE p = 1 ∨ s.inFrame p = true) :
    (s.laneInUse p lane && s.get PORT_STATUS.ALIGN_STATE p != 0 && s.get PORT_STATUS.ALIGN_STATE p != 4) = true := by
  simp only [State.inFrame, Bool.or_eq_true, beq_iff_eq] at h'
  simp only [h, Bool.true_and, Bool.and_eq_true, bne_iff_ne]
  omega

theorem codewordLockLost_does (s : State) (p : Fin 16) (lane : Fin 8) (hlen : s.line.length = 16) :
    Does (.codewordLockLost p lane) s [.csr, .out, .intc, .line] (fun t =>
      t.on PORT_LANE_STAT.CW_LOCK p lane = false ∧ t.on PORT_LANE_STAT.LAW_LOCK p lane = false ∧
      (t.port p).laws = (s.port p).laws.filter (fun l => l.1 ≠ lane.val) ∧ Sent s t (.report 0x0801) ∧
      (s.laneInUse p lane = true ∧ (s.get PORT_STATUS.ALIGN_STATE p = 1 ∨ s.inFrame p = true) → t.get PORT_STATUS.ALIGN_STATE p = 0) ∧
      (s.laneInUse p lane = false → t.get PORT_STATUS.ALIGN_STATE p = s.get PORT_STATUS.ALIGN_STATE p ∧
        t.get PORT_ERR_LOG.REASON p = 0x0801) ∧
      (s.laneInUse p lane = true ∧ s.inFrame p = true → t.get PORT_ERR_LOG.REASON p = 0x0804 ∧ t.on PORT_INT_STATUS.LOF p = true)) := by
  have hexec : exec (.codewordLockLost p lane) s = execCodewordLockLost p lane s := rfl
  unfold execCodewordLockLost at hexec
  extract_lets used s1 x s2 s3 at hexec
  have hfar : PORT_LANE_STAT.addr p lane ≠ PORT_STATUS.addr p 0 := laneStat_ne_status p lane
  have halign : s1.get PORT_STATUS.ALIGN_STATE p = s.get PORT_STATUS.ALIGN_STATE p := by
    rw [get_set_far _ _ _ _ hfar, get_set_far _ _ _ _ hfar, get_set_far _ _ _ _ hfar]
  have hframe : s1.inFrame p = s.inFrame p := by simp only [State.inFrame, halign]
  obtain ⟨hlane, hlaws, hsent, hhunt, hstay, hlof⟩ := laneLost_effect (s := s1) (lane := lane) (n := 0x0801) (used := used)
    (p := p) (by decide) (by simp [s1, hlen]) rfl
  refine .of_next hexec execCodewordLockLost_goes ⟨?_, ?_, hlaws, hsent, fun h => hhunt (lane_used h.1 h.2), fun h => ?_, fun h => ?_⟩
  · rw [State.on, show (if used then s3.toHunt p else s3).get PORT_LANE_STAT.CW_LOCK p lane = _ from hlane _ rfl]
    simp (disch := decide) [s1]
  · rw [State.on, show (if used then s3.toHunt p else s3).get PORT_LANE_STAT.LAW_LOCK p lane = _ from hlane _ rfl]
    simp (disch := decide) [s1]
  · rw [← halign]
    exact hstay (by simp [used, h])
  · exact hlof ⟨lane_used h.1 (.inr h.2), hframe.trans h.2⟩

theorem alignmentWordLost_does (s : State) (p : Fin 16) (lane : Fin 8) (hlen : s.line.length = 16) :
    Does (.alignmentWordLock p lane .lost) s [.csr, .out, .intc, .line] (fun t =>
      t.on PORT_LANE_STAT.LAW_LOCK p lane = false ∧ (t.port p).laws = (s.port p).laws.filter (fun l => l.1 ≠ lane.val) ∧
      Sent s t (.report 0x0802) ∧
      (s.laneInUse p lane = true ∧ (s.get PORT_STATUS.ALIGN_STATE p = 1 ∨ s.inFrame p = true) → t.get PORT_STATUS.ALIGN_STATE p = 0) ∧
      t.on PORT_LANE_STAT.CW_LOCK p lane = s.on PORT_LANE_STAT.CW_LOCK p lane) := by
  have hexec : exec (.alignmentWordLock p lane .lost) s = execAlignmentWordLock p lane .lost s := rfl
  unfold execAlignmentWordLock at hexec
  split at hexec
  case h_2 heq => cases heq
  extract_lets used s1 x s2 s3 at hexec
  have hfar : PORT_LANE_STAT.addr p lane ≠ PORT_STATUS.addr p 0 := laneStat_ne_status p lane
  obtain ⟨hlane, hlaws, hsent, hhunt, -, -⟩ := laneLost_effect (s := s1) (lane := lane) (n := 0x0802) (used := used)
    (p := p) (by decide) (by simp [s1, hlen]) rfl
  refine .of_next hexec (execAlignmentWordLock_goes (e := .lost)) ⟨?_, hlaws, hsent, fun h => hhunt (lane_used h.1 h.2), ?_⟩
  · rw [State.on, show (if used then s3.toHunt p else s3).get PORT_LANE_STAT.LAW_LOCK p lane = _ from hlane _ rfl]
    simp (disch := decide) [s1]
  · rw [State.on, show (if used then s3.toHunt p else s3).get PORT_LANE_STAT.CW_LOCK p lane = _ from hlane _ rfl]
    simp (disch := decide) [s1, State.on]

/-- The two findings of a gained alignment word, each reported where it holds. -/
theorem findings_eq (s : State) (p lane : Nat) (conflict late : Bool) (a b : Nat) :
    let t := if conflict then s.portLog p a lane else s
    (if late then t.portLog p b lane else t).out =
      s.out ++ (if conflict then [.report a] else []) ++ (if late then [.report b] else []) ∧
    (if late then t.portLog p b lane else t).line = s.line ∧
    OtherRegs [PORT_ERR_LOG.addr p 0] s (if late then t.portLog p b lane else t) := by
  have hlog : ∀ (s : State) n, (s.portLog p n lane).out = s.out ++ [.report n] := fun _ _ => rfl
  have hregs : ∀ (s : State) n, OtherRegs [PORT_ERR_LOG.addr p 0] s (s.portLog p n lane) := fun s n => .andPortLog .refl (by simp)
  refine ⟨?_, ?_, ?_⟩
  · cases conflict <;> cases late <;> simp [hlog]
  · cases conflict <;> cases late <;> rfl
  · cases conflict <;> cases late
    · exact .refl
    · exact hregs _ _
    · exact hregs _ _
    · exact (hregs _ _).trans (hregs _ _)

theorem alignmentWordGained_does (s : State) (p : Fin 16) (lane pos : Fin 8) (w skew : Nat) (hlen : s.line.length = 16) :
    let laws : List (Nat × Nat × Nat × Nat) := (s.port p).laws.filter (fun l => l.1 ≠ lane.val) ++ [(lane.val, w, pos.val, skew)]
    Does (.alignmentWordLock p lane (.gained w pos skew)) s [.csr, .out, .line] (fun t =>
      t.line = s.line.set p { (s.port p) with laws := laws } ∧ t.on PORT_LANE_STAT.LAW_LOCK p lane = true ∧
      t.get PORT_LANE_STAT.POSITION p lane = pos ∧ t.get PORT_LANE_STAT.SKEW p lane = skew % 2 ^ PORT_LANE_STAT.SKEW.w ∧
      t.out = s.out ++ (if ({ (s.port p) with laws := laws } : LinePort).conflict then [.report 0x0802] else []) ++
        (if skew > 2500 then [.report 0x0803] else [])) := by
  intro laws
  have hexec : exec (.alignmentWordLock p lane (.gained w pos skew)) s = execAlignmentWordLock p lane (.gained w pos skew) s := rfl
  unfold execAlignmentWordLock at hexec
  split at hexec
  case h_1 heq => cases heq
  rename_i heq
  cases heq
  extract_lets s1 x y s2 s3 s4 at hexec
  have hfar : PORT_LANE_STAT.addr p lane ≠ PORT_STATUS.addr p 0 := laneStat_ne_status p lane
  obtain ⟨hout, hline, hregs⟩ := findings_eq s3 p lane y.conflict (decide (skew > 2500)) 0x0802 0x0803
  simp only [decide_eq_true_eq] at hout hline hregs
  have hword : (if skew > 2500 then s4.portLog p 0x0803 lane else s4).rdReg PORT_LANE_STAT p lane = s1.rdReg PORT_LANE_STAT p lane := by
    rw [show (if skew > 2500 then s4.portLog p 0x0803 lane else s4).rdReg PORT_LANE_STAT p lane = _ from hregs _ _ _ ?_]
    · exact rdReg_set_far _ _ _ _ hfar.symm
    · simpa using (Reg.addr_ne (by decide) p.isLt lane.isLt p.isLt (by decide) : PORT_LANE_STAT.addr p lane ≠ PORT_ERR_LOG.addr p 0)
  have hget : ∀ f : Field, f.reg = PORT_LANE_STAT →
      (if skew > 2500 then s4.portLog p 0x0803 lane else s4).get f p lane = s1.get f p lane := fun f hf => by
    rw [State.get, State.get, hf, hword]
  refine ⟨_, hexec, ?_, hline.trans rfl, ?_, ?_, ?_, hout.trans rfl⟩
  · have g1 : Goes [.csr, .out, .line] s s1 := .step (.step (.step .refl set_goes rfl) set_goes rfl) set_goes rfl
    have g3 : Goes [.csr, .out, .line] s s3 := .step (.step g1 putPort_goes rfl) set_goes rfl
    have g4 : Goes [.csr, .out, .line] s s4 := .ite (.step g3 portLog_goes rfl) g3
    exact (Goes.ite (.step g4 portLog_goes rfl) g4).only
  · rw [State.on, hget _ rfl]
    simp (disch := decide) [s1]
  · rw [hget _ rfl]
    simp (disch := decide) [s1, PORT_LANE_STAT.POSITION]
    omega
  · rw [hget _ rfl]
    simp (disch := decide) [s1]

/-- Settles O40: a lane that gains or loses its locks, each from its command's own steps. -/
theorem lineLanes : Obligations.LineLanes := by
  unfold Obligations.LineLanes
  refine ⟨fun s p lane => ?_, fun s p lane h => codewordLockLost_does s p lane h, fun s p lane h => ?_,
    fun s p lane h => alignmentWordLost_does s p lane h, fun s p lane pos w skew => ?_⟩
  · intro x y h
    exact codewordLockGained_does s p lane h
  · refine .of_next rfl execLineSignalLoss_goes ⟨rfl, ?_, ?_⟩
    · simp (disch := decide) [State.on, putPort_get]
    · exact (OtherRegs.andSet .refl (by simp [PORT_LANE_STAT.SIGNAL])).trans (.of_csr rfl)
  · intro laws h
    exact alignmentWordGained_does s p lane pos w skew h

end Sys2Proof.Machine

namespace Sys2Proof.Machine
open Csr

/-!
What the steps toward a peer change: the registers of the transport alone (block 9).
-/

section
variable {b : Nat} {a s t : State}

theorem OutsideBlock.of_csr (h : t.csr = s.csr) : OutsideBlock b s t := fun r i j _ => rdReg_congr h r i j

theorem OutsideBlock.foldl {β : Type} {f : State → β → State} {l : List β} (k : ∀ s, ∀ x ∈ l, OutsideBlock b s (f s x)) :
    ∀ s, OutsideBlock b s (l.foldl f s) := by
  induction l with
  | nil => exact fun _ => .refl
  | cons x l ih =>
    exact fun s => (k s x List.mem_cons_self).trans (ih (fun s y hy => k s y (List.mem_cons_of_mem _ hy)) (f s x))

theorem OutsideBlock.on (h : OutsideBlock b s t) {f : Field} {i j : Nat} (w : f.reg.addr i j / 0x100000 ≠ b) : t.on f i j = s.on f i j := by
  simp only [State.on, h.get w]

end

section
variable (s : State) (peer : Nat)

theorem xportLog_outside (n p j : Nat) : OutsideBlock 9 s (s.xportLog n peer p j) := by
  unfold State.xportLog
  have hlog : XPORT_ERR_LOG.addr 0 0 / 0x100000 = 9 := by decide
  exact OutsideBlock.trans (.andSet (.andSet (.andSet (.andSet .refl hlog) hlog) hlog) hlog) (.of_csr (report_csr _ _))

theorem sendControl_outside (j ct : Nat) (msg : Bytes) (port : Option Nat) : OutsideBlock 9 s (s.sendControl j peer ct msg port) :=
  .of_csr (sendControl_goes.only .csr rfl)

theorem sendAck_outside (j : Nat) : OutsideBlock 9 s (s.sendAck j peer) := .of_csr (sendAck_goes.only .csr rfl)

theorem ackIfFull_outside (j : Nat) : OutsideBlock 9 s (s.ackIfFull j peer) := .of_csr (ackIfFull_goes.only .csr rfl)

theorem nack_outside (j cw : Nat) : OutsideBlock 9 s (s.nack j peer cw) := by
  unfold State.nack
  extract_lets f
  split
  · exact .refl
  · rename_i s1 _ c _
    have h1 : OutsideBlock 9 s s1 := .andSet .refl (by decide)
    exact (h1.trans (.of_csr (putFlow_goes.only .csr rfl))).trans (ackIfFull_outside _ _ _)

theorem shortTest_outside (j cw : Nat) : OutsideBlock 9 s (s.shortTest j peer cw) := by
  unfold State.shortTest
  extract_lets f
  split
  · exact .refl
  · split
    · exact .refl
    · exact OutsideBlock.trans (.of_csr (putFlow_goes.only .csr rfl)) (nack_outside _ _ _ _)

variable {s peer} (h : peer < 16)
include h

theorem peerReg_block : PEER_STATUS.addr peer 0 / 0x100000 = 9 ∧ PEER_RTT.addr peer 0 / 0x100000 = 9 ∧
    PEER_FLIGHT.addr peer 0 / 0x100000 = 9 ∧ PEER_SKEW.addr peer 0 / 0x100000 = 9 :=
  ⟨Reg.addr_block (by decide) h (by decide), Reg.addr_block (by decide) h (by decide), Reg.addr_block (by decide) h (by decide),
    Reg.addr_block (by decide) h (by decide)⟩

theorem sendPortState_outside : OutsideBlock 9 s (s.sendPortState peer) := by
  unfold State.sendPortState
  extract_lets sk worst s1
  have h1 : OutsideBlock 9 s s1 := .andSet (.andSet .refl (peerReg_block h).2.2.2) (peerReg_block h).2.2.2
  exact h1.trans (sendControl_outside _ _ _ _ _ _)

theorem peerUpdate_outside : OutsideBlock 9 s (s.peerUpdate peer) := by
  obtain ⟨hstatus, hrtt, hflight, _⟩ := peerReg_block h
  unfold State.peerUpdate
  exact .andSet (.andSet (.andSet (.andSet .refl hstatus) hrtt) hflight) hflight

theorem setPortClass_outside (p cls : Nat) : OutsideBlock 9 s (s.setPortClass peer p cls) := by
  unfold State.setPortClass
  extract_lets now s1 s2 s3 d x s4 s5
  have h2 : OutsideBlock 9 s s2 := .andSet (.andSet .refl (peerReg_block h).1) (peerReg_block h).1
  have h3 : OutsideBlock 9 s s3 := .andRaise (h2.trans (xportLog_outside _ _ _ _ _)) (by decide)
  have h4 : OutsideBlock 9 s s4 := h3.trans (.of_csr rfl)
  have h5 : OutsideBlock 9 s s5 := h4.trans (sendPortState_outside h)
  split
  · exact .refl
  · exact h5.trans (.foldl (fun s f _ => .foldl (fun s c _ => shortTest_outside _ _ _ _) s) _)

end

theorem mem_peers_lt {s : State} {peer : Nat} (h : peer ∈ s.peers) : peer < 16 :=
  List.mem_range.mp (List.mem_filter.mp h).1

theorem reclassPort_outside (s : State) (p : Nat) : OutsideBlock 9 s (s.reclassPort p) := by
  unfold State.reclassPort
  split
  · refine .foldl (fun t peer hpeer => ?_) s
    extract_lets down
    split
    · exact setPortClass_outside (mem_peers_lt hpeer) _ _
    · split
      · exact setPortClass_outside (mem_peers_lt hpeer) _ _
      · exact .refl
  · exact .refl

end Sys2Proof.Machine

namespace Sys2Proof.Machine
open Csr

/-! ## What the receiver's steps leave of a port (R176 to R180, R187, R197) -/

section
variable (s : State) (p : Fin 16)

theorem countErrored_port (h : p.val < s.line.length) : (s.countErrored p).port p =
    { s.port p with efSecond := (s.port p).efSecond + 1, rei := min ((s.port p).rei + 1) 0xFFFF } := by
  unfold State.countErrored
  extract_lets x s1
  have hline : ((s1.addWrap PORT_PM_EF.EF 1 p).pmonEdge 0x0068 1 { cls := 10, hasTenant := false }).line = s1.line :=
    pmonEdge_goes.only .line rfl
  rw [port_of_line hline]
  exact port_putPort h

/-- A register of the port other than its count of errored frames keeps its word. -/
theorem countErrored_rdReg {r : Reg} (h : r.apartFor PORT_PM_EF 16 0 16 0 = true ∧ r.base / 0x100000 = 8 ∧ r.last / 0x100000 = 8) :
    (s.countErrored p).rdReg r p = s.rdReg r p := by
  obtain ⟨hapart, hblock⟩ := h
  have hn : r.addr p 0 ≠ PORT_PM_EF.addr p 0 := Reg.addr_ne_of_apartFor hapart p.isLt p.isLt
  simp only [Reg.apartFor, Bool.and_eq_true, decide_eq_true_eq] at hapart
  obtain ⟨-, hi, hj, -⟩ := hapart
  have hb : r.addr p 0 / 0x100000 = 8 := Reg.addr_block hblock (by omega) hj
  refine OtherRegs.andCountErrored (l := [PORT_PM_EF.addr p 0] ++ blockRegs 15) (a := s) .refl (by simp) (List.subset_append_right _ _) r p 0 ?_
  simp [hn, hb]

@[simp] theorem countErrored_get {f : Field}
    (h : f.reg.apartFor PORT_PM_EF 16 0 16 0 = true ∧ f.reg.base / 0x100000 = 8 ∧ f.reg.last / 0x100000 = 8) :
    (s.countErrored p).get f p = s.get f p := by
  simp only [State.get, countErrored_rdReg s p h]

theorem countErrored_ef : (s.countErrored p).get PORT_PM_EF.EF p = (s.get PORT_PM_EF.EF p + 1) % 2 ^ PORT_PM_EF.EF.w := by
  unfold State.countErrored
  extract_lets x s1
  have hblock : PORT_PM_EF.EF.reg.addr p 0 / 0x100000 ≠ 15 := by
    rw [Reg.addr_block (b := 8) (by decide) p.isLt (by decide)]
    decide
  rw [(pmonEdge_outside _ _ _ _).get hblock, get_addWrap _ _ _ _ _ (by decide)]
  rfl

theorem frameGained_port (w : Nat) (h : p.val < s.line.length) : (s.frameGained p w).port p = { s.port p with count := 0 } := by
  have hline : (s.frameGained p w).line = (s.setAlign p 2 0).line := by simp [State.frameGained, State.raisePort, State.portLog]
  rw [port_of_line hline]
  exact port_putPort (s := (s.set PORT_STATUS.ALIGN_STATE 2 p).set LINE_STATUS.IN_FRAME _) h

theorem setAlign_port (st n : Nat) (h : p.val < s.line.length) : (s.setAlign p st n).port p = { s.port p with count := n } :=
  port_putPort (s := (s.set PORT_STATUS.ALIGN_STATE st p).set LINE_STATUS.IN_FRAME _) h

theorem portLog_sent {s t : State} {p n k : Nat} (h : s.out <+: t.out) : Sent s (t.portLog p n k) (.report n) := by
  unfold State.portLog
  exact sent_report n (by simpa using h)

theorem frameGained_sent {a : State} (w : Nat) (h : a.out <+: s.out) : Sent a (s.frameGained p w) (.report 0x0805) := by
  unfold State.frameGained
  exact (portLog_sent (h.trans (Goes.step setAlign_goes set_goes (f := [.csr]) (l := [.csr, .line]) rfl).out)).of_goes raisePort_goes

/-! ### A frame that is held -/

/-- A mismatch of the yarns keeps the alignment state, FRAME_GAINED and the received frame count. -/
theorem yarnMismatch_keeps (gen : Nat) : ∀ g ∈ [PORT_STATUS.ALIGN_STATE, PORT_STATUS.FRAME_COUNT_RX, PORT_INT_STATUS.FRAME_GAINED],
    (s.yarnMismatch p gen).get g p = s.get g p := by
  intro g hg
  simp only [List.mem_cons, List.not_mem_nil, or_false] at hg
  obtain rfl | rfl | rfl := hg <;>
    simp (disch := decide) [State.yarnMismatch, State.raisePort, State.portLog, State.addSat]

theorem rxOverhead_keeps (f : RxFrame) : ∀ g ∈ [PORT_STATUS.ALIGN_STATE, PORT_INT_STATUS.FRAME_GAINED],
    (s.rxOverhead p f).get g p = s.get g p := by
  intro g hg
  unfold State.rxOverhead
  extract_lets w3 w4 rdi was s1 s2 s3 bad wasBad s4
  have h2 : s2.get g p = s.get g p := by
    simp only [List.mem_cons, List.not_mem_nil, or_false] at hg
    obtain rfl | rfl := hg <;> simp (disch := decide) [s2, s1, State.addWrap]
  have hreport : ∀ (t : State) n (e : Field), e ∈ [PORT_INT_STATUS.FAR_DOWN, PORT_INT_STATUS.ID_MISMATCH] →
      ((t.portLog p n 0).raisePort e p).get g p = t.get g p := fun t n e he => by
    simp only [List.mem_cons, List.not_mem_nil, or_false] at hg he
    obtain rfl | rfl := hg <;> obtain rfl | rfl := he <;> simp (disch := decide) [State.raisePort, State.portLog]
  have h3 : s3.get g p = s.get g p := by
    unfold s3
    split
    · rw [hreport _ _ _ (by simp), h2]
    · exact h2
  have h4 : s4.get g p = s.get g p := by
    rw [← h3]
    simp only [List.mem_cons, List.not_mem_nil, or_false] at hg
    obtain rfl | rfl := hg <;> simp (disch := decide) [s4]
  split
  · rw [hreport _ _ _ (by simp), h4]
  · exact h4

theorem rxOverhead_count (f : RxFrame) :
    (s.rxOverhead p f).get PORT_STATUS.FRAME_COUNT_RX p = wordField f 0 % 2 ^ PORT_STATUS.FRAME_COUNT_RX.w := by
  unfold State.rxOverhead
  extract_lets w3 w4 rdi was s1 s2 s3 bad wasBad s4
  have h2 : s2.get PORT_STATUS.FRAME_COUNT_RX p = wordField f 0 % 2 ^ PORT_STATUS.FRAME_COUNT_RX.w := by
    simp (disch := decide) [s2, s1, State.addWrap]
  have hreport : ∀ (t : State) n (e : Field), e ∈ [PORT_INT_STATUS.FAR_DOWN, PORT_INT_STATUS.ID_MISMATCH] →
      ((t.portLog p n 0).raisePort e p).get PORT_STATUS.FRAME_COUNT_RX p = t.get PORT_STATUS.FRAME_COUNT_RX p := fun t n e he => by
    simp only [List.mem_cons, List.not_mem_nil, or_false] at he
    obtain rfl | rfl := he <;> simp (disch := decide) [State.raisePort, State.portLog]
  have h3 : s3.get PORT_STATUS.FRAME_COUNT_RX p = s2.get PORT_STATUS.FRAME_COUNT_RX p := by
    unfold s3
    split
    · exact hreport _ _ _ (by simp)
    · rfl
  have h4 : s4.get PORT_STATUS.FRAME_COUNT_RX p = s3.get PORT_STATUS.FRAME_COUNT_RX p := by
    simp (disch := decide) [s4]
  split
  · rw [hreport _ _ _ (by simp), h4, h3, h2]
  · rw [h4, h3, h2]

theorem rxGeneration_keeps (gen : Nat) : ∀ g ∈ [PORT_STATUS.ALIGN_STATE, PORT_STATUS.FRAME_COUNT_RX, PORT_INT_STATUS.FRAME_GAINED],
    (s.rxGeneration p gen).2.get g p = s.get g p := by
  intro g hg
  unfold State.rxGeneration
  extract_lets a
  split
  · simp only [List.mem_cons, List.not_mem_nil, or_false] at hg
    obtain rfl | rfl | rfl := hg <;> simp (disch := decide)
  · split
    · rfl
    · exact yarnMismatch_keeps s p gen g hg

/-- The state of a receiver that took a frame's overhead, generation and slots, before it holds the frame. -/
def State.rxTaken (s : State) (p : Nat) (f : RxFrame) (strays : Nat) : State :=
  (List.range strays).foldl (fun s _ => s.yarnMismatch p (wordField f 2 % 2 ^ 16)) ((s.rxOverhead p f).rxGeneration p (wordField f 2 % 2 ^ 16)).2

theorem holdFrame_eq (f : RxFrame) (b : Bool) : ∃ (n : Nat) (h : HeldFrame), h.crc = crc32c f.slots ∧
    s.holdFrame p f b = (s.rxTaken p f n).putPort p { (s.rxTaken p f n).port p with held := some h } := by
  unfold State.holdFrame
  extract_lets s1 gen
  split
  rename_i known s2 hgen
  extract_lets mism
  split
  rename_i ps n hp
  have hs2 : s2 = (s1.rxGeneration p gen).2 := by rw [hgen]
  subst hs2
  exact ⟨n, _, rfl, rfl⟩

theorem rxTaken_line (f : RxFrame) (n : Nat) : (s.rxTaken p f n).line = s.line := by
  have hgen : Goes [.csr, .out, .intc] s (((s.rxOverhead p f).rxGeneration p (wordField f 2 % 2 ^ 16)).2) :=
    .snd (.step (.step .refl rxOverhead_goes rfl) rxGeneration_goes rfl)
  exact (hgen.foldl (fun x b h => .step h yarnMismatch_goes rfl)).only .line rfl

theorem holdFrame_port (f : RxFrame) (b : Bool) (hp : p.val < s.line.length) : ∃ h : HeldFrame, h.crc = crc32c f.slots ∧
    (s.holdFrame p f b).port p = { s.port p with held := some h } := by
  obtain ⟨n, h, hcrc, heq⟩ := holdFrame_eq s p f b
  refine ⟨h, hcrc, ?_⟩
  rw [heq, port_putPort (by rw [rxTaken_line]; exact hp), port_of_line (rxTaken_line s p f n)]

theorem rxTaken_get (f : RxFrame) (n : Nat) (g : Field)
    (hg : g ∈ [PORT_STATUS.ALIGN_STATE, PORT_STATUS.FRAME_COUNT_RX, PORT_INT_STATUS.FRAME_GAINED]) :
    (s.rxTaken p f n).get g p = (s.rxOverhead p f).get g p := by
  have hfold : ∀ (l : List Nat) (t : State), (l.foldl (fun s _ => s.yarnMismatch p (wordField f 2 % 2 ^ 16)) t).get g p = t.get g p := by
    intro l
    induction l with
    | nil => exact fun _ => rfl
    | cons x l ih => exact fun t => (ih _).trans (yarnMismatch_keeps t p _ g hg)
  exact (hfold _ _).trans (rxGeneration_keeps _ p _ g hg)

theorem holdFrame_get (f : RxFrame) (b : Bool) :
    (s.holdFrame p f b).get PORT_STATUS.ALIGN_STATE p = s.get PORT_STATUS.ALIGN_STATE p ∧
    (s.holdFrame p f b).get PORT_INT_STATUS.FRAME_GAINED p = s.get PORT_INT_STATUS.FRAME_GAINED p ∧
    (s.holdFrame p f b).get PORT_STATUS.FRAME_COUNT_RX p = wordField f 0 % 2 ^ PORT_STATUS.FRAME_COUNT_RX.w := by
  obtain ⟨n, h, _, heq⟩ := holdFrame_eq s p f b
  rw [heq]
  simp only [putPort_get]
  refine ⟨?_, ?_, ?_⟩
  · rw [rxTaken_get s p f n _ (by simp), rxOverhead_keeps s p f _ (by simp)]
  · rw [rxTaken_get s p f n _ (by simp), rxOverhead_keeps s p f _ (by simp)]
  · rw [rxTaken_get s p f n _ (by simp), rxOverhead_count]

/-! ### A held frame that is delivered -/

/-- The yarns once a held frame's pieces have joined them. -/
def HeldFrame.deliver (h : HeldFrame) (bad : Bool) (rx : List (Nat × List (Bytes × Bool))) : List (Nat × List (Bytes × Bool)) :=
  h.pieces.foldl (fun l k => assocPut l k.1 (lookupD l k.1 [] ++ [(k.2, bad)])) rx

theorem deliverHeld_port (crc : Option Nat) (h : HeldFrame) (hh : (s.port p).held = some h) (hp : p.val < s.line.length) :
    ∃ y, (s.deliverHeld p crc).port p = y ∧ y.rxYarn = h.deliver (h.errored || crc != some h.crc) (s.port p).rxYarn ∧
      y.efSecond = (s.port p).efSecond + (if h.errored || crc != some h.crc then 1 else 0) := by
  unfold State.deliverHeld
  extract_lets x
  split
  next heq => exact absurd (heq.symm.trans hh) (by simp)
  rename_i h' heq
  obtain rfl : h' = h := Option.some.inj (heq.symm.trans hh)
  extract_lets bad rx s1 s2 s3
  have hline : s3.line = s1.line := (Goes.step (Goes.foldl (.refl (l := [.csr, .out, .intc, .pmon]))
    (fun y b k => .step k pmonEdge_goes rfl)) meter_goes rfl).only .line rfl
  have hlen : p.val < s3.line.length := by rw [hline, putPort_line, List.length_set]; exact hp
  have hport : s3.port p = { x with held := none, rxYarn := rx } := by
    rw [port_of_line hline]
    exact port_putPort hp
  have hbad : (h'.errored || crc != some h'.crc) = bad := rfl
  rw [hbad]
  by_cases hb : bad = true
  · rw [if_pos hb, if_pos hb, countErrored_port s3 p hlen, hport]
    exact ⟨_, rfl, rfl, rfl⟩
  · rw [if_neg hb, if_neg hb, hport]
    exact ⟨_, rfl, rfl, rfl⟩

/-! ### The way to HUNT -/

theorem dropHeld_port (h : p.val < s.line.length) :
    ((s.dropHeld p).port p).held = none ∧ ((s.dropHeld p).port p).efSecond = (s.port p).efSecond + b2n (s.port p).held.isSome := by
  unfold State.dropHeld
  extract_lets x gap s1
  have hlen : p.val < s1.line.length := by rw [putPort_line, List.length_set]; exact h
  have hport : s1.port p = { x with held := none, rxYarn := gap } := port_putPort h
  by_cases hh : x.held.isSome = true
  · rw [if_pos hh, countErrored_port s1 p hlen, hport, show (s.port p).held.isSome = true from hh]
    exact ⟨rfl, rfl⟩
  · rw [if_neg hh, hport, show (s.port p).held.isSome = false by simpa using hh]
    exact ⟨rfl, rfl⟩

theorem toHunt_port (h : p.val < s.line.length) :
    ((s.toHunt p).port p).held = none ∧ ((s.toHunt p).port p).efSecond = (s.port p).efSecond + b2n (s.port p).held.isSome := by
  have hline : (s.toHunt p).line = ((s.dropHeld p).setAlign p 0 0).line := by
    rw [toHunt_eq]
    split <;> simp [State.raisePort, State.portLog]
  have hlen : p.val < (s.dropHeld p).line.length := by
    have hgoes : (s.dropHeld p).line.length = s.line.length := by
      unfold State.dropHeld
      extract_lets x gap s1
      split
      · have hc : (s1.countErrored p).line.length = s1.line.length := by
          unfold State.countErrored
          extract_lets x s2
          rw [pmonEdge_goes.only .line rfl]
          exact List.length_set
        rw [hc]
        exact List.length_set
      · exact List.length_set
    omega
  rw [port_of_line hline, setAlign_port _ p _ _ hlen]
  exact dropHeld_port s p h

theorem toHunt_sent (h : s.inFrame p = true) : Sent s (s.toHunt p) (.report 0x0804) := by
  rw [toHunt_eq, if_pos h]
  have hgoes : Goes [.csr, .out, .intc, .pmon, .line] s (s.dropHeld p) := by
    unfold State.dropHeld
    exact .ite (.step (.step .refl putPort_goes rfl) countErrored_goes rfl) (.step .refl putPort_goes rfl)
  have hset : Goes [.csr, .out, .intc, .pmon, .line] s (((s.dropHeld p).setAlign p 0 0).set PORT_STATUS.RX_WIDTH 3 p) :=
    .step (.step hgoes setAlign_goes rfl) set_goes rfl
  exact (portLog_sent hset.out).of_goes raisePort_goes

theorem toHunt_width : (s.toHunt p).get PORT_STATUS.RX_WIDTH p = 3 := by
  rw [toHunt_eq]
  split <;> simp (disch := decide) [State.raisePort, State.portLog]

/-! ### One expected frame start -/

/-- The state of a receiver whose frame start is counted. -/
def State.rxCounted (s : State) (p : Nat) (f : Option RxFrame) : State :=
  let s := s.putPort p { s.port p with framesSecond := (s.port p).framesSecond + 1 }
  match f with
  | none => s
  | some f => (s.addSat PORT_FEC.CORRECTED f.corrected p).addSat PORT_FEC.UNCORRECTABLE f.uncorrectable p

theorem rxCounted_port (f : Option RxFrame) (h : p.val < s.line.length) :
    (s.rxCounted p f).port p = { s.port p with framesSecond := (s.port p).framesSecond + 1 } := by
  unfold State.rxCounted
  cases f <;> exact port_putPort h

theorem rxCounted_length (f : Option RxFrame) : (s.rxCounted p f).line.length = s.line.length := by
  unfold State.rxCounted
  cases f <;> exact List.length_set

theorem rxCounted_prefix (f : Option RxFrame) : s.out <+: (s.rxCounted p f).out := by
  unfold State.rxCounted
  cases f <;> exact List.prefix_refl _

theorem rxCounted_get (f : Option RxFrame) {g : Field} {i : Nat} (h : g.reg.addr i 0 ≠ PORT_FEC.addr p 0) :
    (s.rxCounted p f).get g i = s.get g i := by
  unfold State.rxCounted
  cases f with
  | none => rfl
  | some f => exact OtherRegs.get (l := [PORT_FEC.addr p 0]) (.andAddSat (.andAddSat (.of_csr rfl) (by simp [PORT_FEC.CORRECTED]))
      (by simp [PORT_FEC.UNCORRECTABLE])) (by simpa using h)

theorem rxCounted_status (f : Option RxFrame) {g : Field} (h : g.reg.apartFor PORT_FEC 16 0 16 0 = true) :
    (s.rxCounted p f).get g p = s.get g p := rxCounted_get s p f (Reg.addr_ne_of_apartFor h p.isLt p.isLt)

theorem rxCounted_align (f : Option RxFrame) {g : Field} (h : g.reg.apartFor PORT_FEC 1 0 16 0 = true) :
    (s.rxCounted p f).get g = s.get g := rxCounted_get s p f (Reg.addr_ne_of_apartFor h (by decide) p.isLt)

theorem rxCounted_inFrame (f : Option RxFrame) : (s.rxCounted p f).inFrame p = s.inFrame p := by
  simp only [State.inFrame, rxCounted_status s p f (g := PORT_STATUS.ALIGN_STATE) (by decide)]

/-- A receiver out of frame (Table FRAME-6). -/
theorem rxFrame_seek (f : Option RxFrame) (h : s.get PORT_STATUS.ALIGN_STATE p = 0 ∨ s.get PORT_STATUS.ALIGN_STATE p = 4) :
    s.rxFrame p f =
      (let t := (s.rxCounted p f).countErrored p
       let w := (s.port p).foundWidth
       if w = 0 then t else if s.get LINE_ALIGN.CONFIRM_N = 1 then t.frameGained p w
       else (t.setAlign p 1 1).set PORT_STATUS.RX_WIDTH (widthCode w) p) := by
  rw [← rxCounted_status s p f (g := PORT_STATUS.ALIGN_STATE) (by decide)] at h
  rw [← rxCounted_align s p f (g := LINE_ALIGN.CONFIRM_N) (by decide)]
  unfold State.rxFrame
  exact if_pos h

/-- A receiver in CONFIRM (Table FRAME-6) that meets an errored frame. -/
theorem rxFrame_unconfirmed (h : s.get PORT_STATUS.ALIGN_STATE p = 1) :
    s.rxFrame p none = ((s.rxCounted p none).toHunt p).countErrored p := by
  rw [← rxCounted_status s p none (g := PORT_STATUS.ALIGN_STATE) (by decide)] at h
  unfold State.rxFrame
  extract_lets x s1 s2 st n m cnt s3 s4 s5 s6 s7
  have hst : st = 1 := h
  rw [if_neg (by omega), if_pos hst]
  rfl

/-- A receiver in CONFIRM that meets its last good frame. -/
theorem rxFrame_confirmed (f : RxFrame) (h : s.get PORT_STATUS.ALIGN_STATE p = 1)
    (hgood : alignErrored (widthOf (s.get PORT_STATUS.RX_WIDTH p)) f = false) (hlast : (s.port p).count + 1 = s.get LINE_ALIGN.CONFIRM_N) :
    s.rxFrame p (some f) = ((s.rxCounted p (some f)).frameGained p (widthOf (s.get PORT_STATUS.RX_WIDTH p))).holdFrame p f false := by
  rw [← rxCounted_status s p (some f) (g := PORT_STATUS.ALIGN_STATE) (by decide)] at h
  rw [← rxCounted_status s p (some f) (g := PORT_STATUS.RX_WIDTH) (by decide)] at hgood ⊢
  rw [← rxCounted_align s p (some f) (g := LINE_ALIGN.CONFIRM_N) (by decide)] at hlast
  unfold State.rxFrame
  extract_lets x s1 s2 st n m cnt s3 s4 s5 s6 s7
  have hst : st = 1 := h
  rw [if_neg (by omega), if_pos hst]
  have hbad : s6 = false := hgood
  have hn : cnt + 1 = n := hlast
  rw [if_neg (by rw [hbad]; simp), if_pos hn]
  rfl

theorem inFrame_iff : s.inFrame p = true ↔ s.get PORT_STATUS.ALIGN_STATE p = 2 ∨ s.get PORT_STATUS.ALIGN_STATE p = 3 := by
  simp [State.inFrame]

/-- A receiver in frame that meets a good frame: the held frame is delivered, and the new one is held. -/
theorem rxFrame_good (f : RxFrame) (h : s.inFrame p = true)
    (hgood : alignErrored (widthOf (s.get PORT_STATUS.RX_WIDTH p)) f = false) :
    s.rxFrame p (some f) = (((s.rxCounted p (some f)).deliverHeld p (some (wordField f 1))).setAlign p 2 0).holdFrame p f false := by
  rw [← rxCounted_inFrame s p (some f), inFrame_iff] at h
  rw [← rxCounted_status s p (some f) (g := PORT_STATUS.RX_WIDTH) (by decide)] at hgood
  unfold State.rxFrame
  extract_lets x s1 s2 st n m cnt s3 s4 s5 s6 s7 s8 s9
  have hst : st = 2 ∨ st = 3 := h
  have hbad : s6 = false := hgood
  rw [if_neg (by omega), if_neg (by omega), if_neg (by rw [hbad]; simp)]
  have h9 : s9 = s8.setAlign p 2 0 := if_neg (by rw [hbad]; simp)
  rw [h9, hbad]
  rfl

/-- A receiver in frame whose run of errored frames reaches LOSS_M. -/
theorem rxFrame_lost (h : s.inFrame p = true) (hlast : (s.port p).count + 1 = s.get LINE_ALIGN.LOSS_M) :
    s.rxFrame p none = ((s.rxCounted p none).toHunt p).countErrored p := by
  rw [← rxCounted_inFrame s p none, inFrame_iff] at h
  rw [← rxCounted_align s p none (g := LINE_ALIGN.LOSS_M) (by decide)] at hlast
  unfold State.rxFrame
  extract_lets x s1 s2 st n m cnt s3 s4 s5 s6 s7 s8 s9
  have hst : st = 2 ∨ st = 3 := h
  rw [if_neg (by omega), if_neg (by omega), if_pos ⟨rfl, hlast⟩]
  rfl

/-- The frame start of a port in service: the receiver's machine, and after it the transport's view of the port, which keeps the
line and every register but the transport's. -/
theorem rxFrameStart_does {l : List Part} {f : Option RxFrame} {P : State → Prop} (h : s.portOn p = true)
    (hl : within [.csr, .mem, .poison, .out, .intc, .pmon, .xport, .line] l = true)
    (hP : ∀ t, t.line = (s.rxFrame p f).line → OutsideBlock 9 (s.rxFrame p f) t → (s.rxFrame p f).out <+: t.out → P t) :
    Does (.rxFrameStart p f) s l P := by
  have hexec : exec (.rxFrameStart p f) s = execRxFrameStart p f s := rfl
  have hgoes := execRxFrameStart_goes (p := p) (f := f) (s := s)
  unfold execRxFrameStart at hexec hgoes
  rw [if_neg (by simp [h])] at hexec hgoes
  extract_lets was u x v at hexec hgoes
  have hv : Goes [.xport] u v ∧ OutsideBlock 9 u v := by
    unfold v
    split
    · exact ⟨.xport .refl (by decide), .of_csr rfl⟩
    · exact ⟨.refl, .refl⟩
  have htail : Goes [.csr, .mem, .poison, .out, .intc, .xport] u (v.peers.foldl State.peerUpdate (v.reclassPort p)) :=
    .foldl (.step (.step .refl hv.1 rfl) reclassPort_goes rfl) fun x b k => .step k peerUpdate_goes rfl
  have hout : OutsideBlock 9 u (v.peers.foldl State.peerUpdate (v.reclassPort p)) :=
    (hv.2.trans (reclassPort_outside v p)).trans (.foldl (fun s peer hpeer => peerUpdate_outside (mem_peers_lt hpeer)) _)
  exact ⟨_, hexec, (Goes.step .refl hgoes.out hl).only, hP _ (htail.only .line rfl) hout htail.out⟩

end

/-- A field of a port reads after the transport's steps as before them. -/
theorem OutsideBlock.portGet {s t : State} {p : Fin 16} (h : OutsideBlock 9 s t) {g : Field}
    (w : g.reg.base / 0x100000 = 8 ∧ g.reg.last / 0x100000 = 8 ∧ 16 ≤ g.reg.n1 ∧ 0 < g.reg.n2) : t.get g p = s.get g p := by
  obtain ⟨hb, hl, hn, hz⟩ := w
  refine h.get ?_
  rw [Reg.addr_block (b := 8) ⟨hb, hl⟩ (p.isLt.trans_le hn) hz]
  decide

theorem leVal_lt (bs : Bytes) : leVal bs < 2 ^ (8 * bs.length) := by
  induction bs with
  | nil => simp [leVal]
  | cons b r ih =>
    have hb : b.toNat < 256 := b.isLt
    rw [leVal, List.length_cons, Nat.mul_succ, Nat.pow_add]
    omega

/-- A field of `n` bytes fits `8 * n` bits. -/
theorem fieldAt_lt (bs : Bytes) (a n : Nat) : fieldAt bs a n < 2 ^ (8 * n) := by
  refine (leVal_lt _).trans_le (Nat.pow_le_pow_right (by decide) ?_)
  have : (slice bs a n).length ≤ n := by simp [slice]
  omega

theorem wordField_lt (f : RxFrame) (k : Nat) : wordField f k < 2 ^ PORT_STATUS.FRAME_COUNT_RX.w := fieldAt_lt _ _ 4

theorem widthCode_lt (w : Nat) : widthCode w < 4 := by
  unfold widthCode
  split <;> decide

/-- Settles O41: one expected frame start, from the equation of the receiver's machine in each of its states. -/
theorem lineReceive : Obligations.LineReceive := by
  unfold Obligations.LineReceive
  refine ⟨?_, ?_, ?_, ?_, ?_, ?_, fun s p f h => ?_⟩
  · rintro s p f ⟨hlen, hon, hst, hw⟩
    have hp : p.val < (s.rxCounted p f).line.length := by rw [rxCounted_length, hlen]; exact p.isLt
    have heq : s.rxFrame p f = (s.rxCounted p f).countErrored p := (rxFrame_seek s p f hst).trans (if_pos hw)
    refine rxFrameStart_does s p hon rfl fun t hline hregs _ => ?_
    rw [heq] at hline hregs
    rw [hregs.portGet (by decide), hregs.portGet (by decide), port_of_line hline, countErrored_port _ p hp,
      rxCounted_port s p f (by omega), countErrored_ef, countErrored_get _ p (by decide), rxCounted_status s p f (by decide),
      rxCounted_status s p f (by decide)]
    exact ⟨rfl, rfl, rfl, rfl⟩
  · rintro s p f ⟨hlen, hon, hst, hw⟩
    have hp : p.val < (s.rxCounted p f).line.length := by rw [rxCounted_length, hlen]; exact p.isLt
    have hp' : p.val < ((s.rxCounted p f).countErrored p).line.length := by
      rw [countErrored_goes.ports ((rxCounted_length s p f).trans hlen)]; exact p.isLt
    have heq : s.rxFrame p f = _ := (rxFrame_seek s p f hst).trans (if_neg hw)
    have hport : ((s.rxCounted p f).countErrored p).port p = _ := countErrored_port _ p hp
    rw [rxCounted_port s p f (by omega)] at hport
    have hwidth := widthCode_lt (s.port p).foundWidth
    refine rxFrameStart_does s p hon rfl fun t hline hregs _ => ?_
    rw [heq] at hline hregs
    rw [hregs.portGet (by decide), hregs.portGet (by decide), port_of_line hline]
    by_cases hn : s.get LINE_ALIGN.CONFIRM_N = 1
    · rw [if_pos hn, if_pos hn, frameGained_port _ p _ hp', hport]
      refine ⟨?_, ?_, rfl⟩
      · simp (disch := decide) [State.frameGained, State.raisePort, State.portLog]
      · simp (disch := decide) [State.frameGained, State.raisePort, State.portLog, PORT_STATUS.RX_WIDTH]
        omega
    · rw [if_neg hn, if_neg hn, port_of_line (State.set_line _ _ _ _ _), setAlign_port _ p _ _ hp', hport]
      refine ⟨?_, ?_, rfl⟩
      · simp (disch := decide)
      · simp (disch := decide) [PORT_STATUS.RX_WIDTH]
        omega
  · rintro s p ⟨hlen, hon, hst⟩
    have hp : p.val < (s.rxCounted p none).line.length := by rw [rxCounted_length, hlen]; exact p.isLt
    have hp' : p.val < ((s.rxCounted p none).toHunt p).line.length := by
      rw [toHunt_goes.ports ((rxCounted_length s p none).trans hlen)]; exact p.isLt
    refine rxFrameStart_does s p hon rfl fun t hline hregs _ => ?_
    rw [rxFrame_unconfirmed s p hst] at hline hregs
    rw [hregs.portGet (by decide), hregs.portGet (by decide), port_of_line hline, countErrored_get _ p (by decide),
      countErrored_get _ p (by decide), countErrored_port _ p hp']
    exact ⟨toHunt_get_align _ p, toHunt_width _ p, (toHunt_port _ p hp).1⟩
  · rintro s p f ⟨hlen, hon, hst, hgood⟩ hlast
    have hp : p.val < (s.rxCounted p (some f)).line.length := by rw [rxCounted_length, hlen]; exact p.isLt
    have heq := rxFrame_confirmed s p f hst hgood hlast
    generalize hu : (s.rxCounted p (some f)).frameGained p (widthOf (s.get PORT_STATUS.RX_WIDTH p)) = u at heq
    have hpu : p.val < u.line.length := by
      rw [← hu, frameGained_goes.ports ((rxCounted_length s p _).trans hlen)]; exact p.isLt
    obtain ⟨halign, hgained, -⟩ := holdFrame_get u p f false
    obtain ⟨h, -, hport⟩ := holdFrame_port u p f false hpu
    refine rxFrameStart_does s p hon rfl fun t hline hregs hout => ?_
    rw [heq] at hline hregs hout
    have hsent : Sent s u (.report 0x0805) := by
      rw [← hu]
      exact frameGained_sent _ p _ (rxCounted_prefix s p _)
    rw [State.on, hregs.portGet (by decide), hregs.portGet (by decide), port_of_line hline, halign, hgained, hport]
    refine ⟨?_, ?_, (hsent.of_goes holdFrame_goes).mono hout, rfl⟩
    · simp (disch := decide) [← hu, State.frameGained, State.raisePort, State.portLog]
    · simp (disch := decide) [← hu, State.frameGained, State.raisePort, State.portLog]
  · rintro s p f ⟨hlen, hon, hframe, hgood⟩
    have hp : p.val < (s.rxCounted p (some f)).line.length := by rw [rxCounted_length, hlen]; exact p.isLt
    have heq := rxFrame_good s p f hframe hgood
    generalize hu : (s.rxCounted p (some f)).deliverHeld p (some (wordField f 1)) = u at heq
    have hpu : p.val < u.line.length := by
      rw [← hu, deliverHeld_goes.ports ((rxCounted_length s p _).trans hlen)]; exact p.isLt
    obtain ⟨halign, -, hcount⟩ := holdFrame_get (u.setAlign p 2 0) p f false
    obtain ⟨y, hcrc, hport⟩ := holdFrame_port (u.setAlign p 2 0) p f false (by
      rw [setAlign_goes.ports (hu ▸ deliverHeld_goes.ports ((rxCounted_length s p _).trans hlen))]; exact p.isLt)
    rw [setAlign_port u p _ _ hpu] at hport
    rw [Nat.mod_eq_of_lt (wordField_lt f 0)] at hcount
    have hdeliver : ∀ h, (s.port p).held = some h → _ := fun h hh =>
      deliverHeld_port (s.rxCounted p (some f)) p (some (wordField f 1)) h (by rw [rxCounted_port s p _ (by omega)]; exact hh) hp
    rw [hu] at hdeliver
    refine rxFrameStart_does s p hon rfl fun t hline hregs hout => ?_
    rw [heq] at hline hregs hout
    rw [hregs.portGet (by decide), hregs.portGet (by decide), port_of_line hline, halign, hcount, hport]
    refine ⟨?_, rfl, rfl, ?_, fun h hh => ?_, fun h hh => ?_⟩
    · simp (disch := decide)
    · simpa using hcrc
    · obtain ⟨y, rfl, hrx, -⟩ := hdeliver h hh
      rw [rxCounted_port s p _ (by omega)] at hrx
      exact hrx
    · obtain ⟨y, rfl, -, hef⟩ := hdeliver h hh
      rw [rxCounted_port s p _ (by omega)] at hef
      exact hef
  · rintro s p ⟨hlen, hon, hframe, hlast⟩
    have hp : p.val < (s.rxCounted p none).line.length := by rw [rxCounted_length, hlen]; exact p.isLt
    have hp' : p.val < ((s.rxCounted p none).toHunt p).line.length := by
      rw [toHunt_goes.ports ((rxCounted_length s p none).trans hlen)]; exact p.isLt
    have hframe' := (rxCounted_inFrame s p none).trans hframe
    obtain ⟨hheld, hef⟩ := toHunt_port _ p hp
    have hsent : Sent s ((s.rxCounted p none).toHunt p) (.report 0x0804) := toHunt_sent _ p hframe'
    refine rxFrameStart_does s p hon rfl fun t hline hregs hout => ?_
    rw [rxFrame_lost s p hframe hlast] at hline hregs hout
    rw [State.on, hregs.portGet (by decide), hregs.portGet (by decide), port_of_line hline, countErrored_get _ p (by decide),
      countErrored_get _ p (by decide), countErrored_port _ p hp']
    refine ⟨toHunt_get_align _ p, hheld, (toHunt_lof hframe').2, (hsent.of_goes countErrored_goes).mono hout, ?_⟩
    rw [rxCounted_port s p _ (by omega)] at hef
    dsimp only at hef ⊢
    omega
  · refine .of_goes (t := s) ?_ .refl rfl
    show execRxFrameStart p f s = _
    simp [execRxFrameStart, h]

end Sys2Proof.Machine

namespace Sys2Proof.Machine
open Csr

/-! ## A reported condition that interrupts the host (R404, R409) -/

/-- What has left the module after a command, where the command answers a next state. -/
def outAfter (c : Instr) (s : State) : List Out :=
  match exec c s with
  | .next t => t.out
  | _ => s.out

theorem outAfter_of_exec {c : Instr} {s t : State} (h : exec c s = .next t) : outAfter c s = t.out := by
  simp [outAfter, h]

/-- A state in which the host has a source of interrupts enabled, at the given priority above its threshold. -/
def State.calling (s : State) (src : Nat) : State := (s.set INTC_STATUS.READY 1).set INTC_SRC.PRIORITY 1 src

/-- Port 0 out of frame, with its training failure enabled as an interrupt of the host. -/
def trainingPort : State :=
  ((State.reset.calling 1160).set LINE_INT_ENABLE.PORTS 1).set PORT_INT_ENABLE.TRAIN_FAIL 1

theorem trainingPort_out : outAfter (.trainTimeout 0) trainingPort ≠ trainingPort.out ++ [.report 0x080F] := by decide +kernel

/-- Refutes O42, in the clause for the training timeout: at `trainingPort` the failure is reported and its interrupt is sent to
the host as well, so more leaves the module than the report. -/
theorem not_lineTransmitAndPerformance : ¬ Obligations.LineTransmitAndPerformance := by
  unfold Obligations.LineTransmitAndPerformance
  intro ⟨_, _, _, _, htimeout⟩
  obtain ⟨t, hexec, _, _, hfailed⟩ := htimeout trainingPort 0
  obtain ⟨_, _, hout⟩ := hfailed (by decide +kernel)
  exact trainingPort_out ((outAfter_of_exec hexec).trans hout)

end Sys2Proof.Machine

namespace Sys2Proof.Machine
open Csr

/-! ## Refusals of the cipher engines that interrupt the host (R404, R409) -/

/-- The cipher engines with the refused images and the rejected mail enabled as interrupts of the host, clear images forbidden, and
one envelope of site 1 waiting in the ring. -/
def refusingCipher : State :=
  [(CIPH_INT_ENABLE.RESTORE_REFUSED, 1, 0), (CIPH_INT_ENABLE.MAIL_REJECT, 1, 0), (MEM_STATUS.READY, 1, 0), (Q_CFG.CLASS, 1, 5),
    (PEER_CFG.ENABLE, 1, 1), (CIPH_KMI_PTR.WR_PTR, 1, 0)].foldl (fun (s : State) (x : Field × Nat × Nat) => s.set x.1 x.2.1 x.2.2)
      (State.reset.calling 1162)

/-- A SAVE in the clear of context 1 to 0x3000. -/
def clearSave : Work :=
  ⟨5, 0, zeros 64 ++ le 1 3 ++ le 1 0 ++ le 2 1 ++ le 4 160 ++ le 8 0x1000 ++ le 8 0x2000 ++ le 8 0x3000 ++ zeros 32⟩

theorem clearSave_refused : refusingCipher.ciphCheck 3 clearSave = none ∧ ciphWrapped clearSave = false ∧
    refusingCipher.on CIPH_SECURITY.CLEAR_EXPORT_EN = false := by decide +kernel

theorem clearSave_out : outAfter (.save clearSave) refusingCipher ≠ refusingCipher.out ++ [.report 0x0A0F] := by decide +kernel

/-- Refutes O49, in the clause for a SAVE in the clear: at `refusingCipher` the refusal is reported and its interrupt is sent to the
host as well. -/
theorem not_contextsAndLedger : ¬ Obligations.ContextsAndLedger := by
  unfold Obligations.ContextsAndLedger
  intro ⟨_, hclear, _⟩
  obtain ⟨t, hexec, _, _, hout⟩ := hclear refusingCipher clearSave clearSave_refused
  exact clearSave_out ((outAfter_of_exec hexec).trans hout)

/-- A CERT of site 1 that is too short to hold a certificate. -/
def shortCert : Bytes := [1, 6, 1, 0, 0, 0, 0, 0] ++ le 8 1 ++ le 4 24 ++ zeros 4

theorem shortCert_waits : refusingCipher.coreWaits true = false ∧ fieldAt shortCert 1 1 = 6 ∧
    refusingCipher.get CIPH_KMI_PTR.WR_PTR ≠ refusingCipher.get CIPH_KMI_PTR.RD_PTR ∧ refusingCipher.mailForUs shortCert = true := by
  decide +kernel

theorem shortCert_fails : refusingCipher.certOk (fieldAt shortCert 2 1 % 16) shortCert = false := by
  have hlen : (shortCert.length == 64 + 112 + 29792) = false := by decide
  simp only [State.certOk, hlen, Bool.false_and]

theorem shortCert_out : outAfter (.keymailCert shortCert) refusingCipher ≠ refusingCipher.out ++ [.report 0x0A13] := by decide +kernel

/-- Refutes O51, in the clause for a CERT that does not pass: at `refusingCipher` the rejection is reported and its interrupt is sent
to the host as well. -/
theorem not_keyMail : ¬ Obligations.KeyMail := by
  unfold Obligations.KeyMail
  intro ⟨_, _, _, _, _, hcert⟩
  obtain ⟨t, hexec, _, _, hfails, _⟩ := hcert refusingCipher shortCert shortCert_waits (by decide +kernel)
  exact shortCert_out ((outAfter_of_exec hexec).trans (hfails shortCert_fails).2.1)

end Sys2Proof.Machine

namespace Sys2Proof.Machine
open Csr

/-!
The end of a descriptor, and the reads that it makes of memory: what they change and what they leave as it was.
-/

/-! ## Tables kept as lists of pairs -/

/-- What a table holds at a key once a value was put at a key. -/
theorem lookupD_assocPut_eq {α β : Type} [DecidableEq α] (l : List (α × β)) (k j : α) (v d : β) :
    lookupD (assocPut l k v) j d = if k = j then v else lookupD l j d := by
  induction l with
  | nil => simp [assocPut, lookupD]
  | cons x r ih =>
    obtain ⟨a, b⟩ := x
    by_cases ha : a = k
    · subst ha
      by_cases hj : a = j <;> simp [assocPut, lookupD, hj]
    · by_cases hj : a = j
      · subst hj
        simp [assocPut, lookupD, ha, Ne.symm ha]
      · simp [assocPut, lookupD, ha, hj, ih]

/-! ## Memory -/

theorem readByte_of_mem {s t : State} (h : t.mem = s.mem) (a : Nat) : t.readByte a = s.readByte a := by
  simp only [State.readByte, h]

theorem readBytes_of_mem {s t : State} (h : t.mem = s.mem) (a n : Nat) : t.readBytes a n = s.readBytes a n := by
  simp only [State.readBytes, readByte_of_mem h]

theorem readBytes_length (s : State) (a n : Nat) : (s.readBytes a n).length = n := by simp [State.readBytes]

/-- Bytes that lie outside those written read as before. -/
theorem readBytes_writeBytes_other (s : State) {a n k : Nat} {bs : Bytes} (h : a + n ≤ k ∨ k + bs.length ≤ a) :
    (s.writeBytes k bs).readBytes a n = s.readBytes a n := by
  unfold State.readBytes
  refine List.map_congr_left fun i hi => readByte_writeBytes_other s k (a + i) bs ?_
  rw [List.mem_range] at hi
  omega

/-- A part of the bytes written reads as that part. -/
theorem readBytes_writeBytes_part (s : State) {a k n : Nat} {bs : Bytes} (h : k + n ≤ bs.length) :
    (s.writeBytes a bs).readBytes (a + k) n = (bs.drop k).take n := by
  apply List.ext_getElem
  · simp [State.readBytes]
    omega
  · intro i h1 h2
    have hi : i < n := by simpa [State.readBytes] using h1
    have := readByte_writeBytes_same s a (k + i) bs (by omega)
    simp [State.readBytes, Nat.add_assoc, this]

theorem otherBytes_writeBytes (s : State) (a : Nat) (bs : Bytes) : OtherBytes a bs.length s (s.writeBytes a bs) :=
  fun x hx => readByte_writeBytes_other s a x bs hx

theorem OtherBytes.of_mem {a n : Nat} {s t u : State} (h : OtherBytes a n s t) (hu : u.mem = t.mem) : OtherBytes a n s u :=
  fun x hx => (readByte_of_mem hu x).trans (h x hx)

/-! ## Reads, and the events that count them -/

theorem memEvent_outside (s : State) (wr : Bool) (a n cls block : Nat) : OutsideBlock 15 s (s.memEvent wr a n cls block) := by
  unfold State.memEvent
  split
  · exact .refl
  · exact pmonEdge_outside _ _ _ _

theorem readEvents_outside (s : State) (w : Work) (l : List (Bool × Nat × Nat)) : OutsideBlock 15 s (s.readEvents w l) := by
  unfold State.readEvents
  exact .foldl (fun s x _ => memEvent_outside _ _ _ _ _ _) s

theorem readHost_memory {s : State} {a n : Nat} (h : a < hostBase) : s.readHost a n = s := by
  simp [State.readHost, isHost, h]

/-! ## The end of a descriptor -/

section
variable (s : State) (w : Work) (r : Result)

theorem busyUpdate_otherRegs (b : Nat) : OtherRegs [BED_STATUS.addr 0 0, PURL_STATUS.addr 0 0] s (s.busyUpdate b) := by
  unfold State.busyUpdate
  extract_lets busy
  split
  · exact .andSet .refl (by simp [BED_STATUS.BUSY])
  · split
    · exact .andSet .refl (by simp [PURL_STATUS.BUSY])
    · exact .refl

theorem finish_otherRegs : OtherRegs [BED_STATUS.addr 0 0, PURL_STATUS.addr 0 0] s (s.finish w r) := by
  unfold State.finish
  extract_lets d x h
  have h1 : OtherRegs [BED_STATUS.addr 0 0, PURL_STATUS.addr 0 0] s { s with hostq := h } := .of_csr rfl
  exact h1.trans (busyUpdate_otherRegs _ _)

theorem finish_ended : Ended (s.finish w r) w r.reason r.error r.poisoned := by
  unfold State.finish
  extract_lets d x h
  have hq : (State.busyUpdate { s with hostq := h } (w.block % 32)).hostq = h := busyUpdate_goes.only .hostq rfl
  refine ⟨⟨w, r, d.tFetch, d.tDispatch, s.now, d.colour, d.chained, d.samplers, false⟩, ?_, rfl, rfl, rfl, rfl⟩
  rw [hq]
  exact List.mem_append_right _ (List.mem_singleton_self _)

theorem finishError_ended (n : Nat) : Ended (s.finishError w n) w n true false := finish_ended s w _

/-- A field outside the two registers that show which block is busy. -/
theorem finish_get {f : Field} {i j : Nat}
    (h : f.reg.addr i j ≠ BED_STATUS.addr 0 0 ∧ f.reg.addr i j ≠ PURL_STATUS.addr 0 0) : (s.finish w r).get f i j = s.get f i j :=
  (finish_otherRegs s w r).get (by simpa using h)

theorem finish_mem : (s.finish w r).mem = s.mem := finish_goes.only .mem rfl
theorem finish_out : (s.finish w r).out = s.out := finish_goes.only .out rfl
theorem finish_fab : (s.finish w r).fab = s.fab := finish_goes.only .fab rfl

end

theorem Ended.of_hostq {s t : State} {w : Work} {r : Nat} {e p : Bool} (h : Ended s w r e p) (k : t.hostq = s.hostq) : Ended t w r e p := by
  unfold Ended
  rw [k]
  exact h

end Sys2Proof.Machine

namespace Sys2Proof.Machine
open Csr

/-! ## A table descriptor of a queue number beyond the queues, whose class the reads of the descriptor change -/

/-- The window reservations after a command, where the command answers a next state. -/
def reserveAfter (c : Instr) (s : State) : List (Nat × Nat × Nat) :=
  match exec c s with
  | .next t => t.fab.reserve
  | _ => s.fab.reserve

theorem reserveAfter_of_exec {c : Instr} {s t : State} (h : exec c s = .next t) : reserveAfter c s = t.fab.reserve := by
  simp [reserveAfter, h]

/-- An endpoint entry: endpoint 5, VALID, no links, a window of 8. -/
def bareEndpoint : Bytes := le 3 5 ++ le 1 1 ++ zeros 4 ++ le 4 8 ++ zeros 4

/-- An EPT_WRITE of the entry at 0x1000. Its queue number is the one whose Q_CFG would stand where PMON_OVF stands. -/
def farQueueWrite : Work := ⟨0x33FC1, 0, zeros 64 ++ le 1 1 ++ zeros 3 ++ le 4 0 ++ le 4 1 ++ zeros 4 ++ le 8 0x1000⟩

/-- A ready fabric whose table memory holds `bareEndpoint`; counter 8 of the performance monitor counts the bytes read and is about
to overflow. -/
def overflowingCounter : State :=
  ([(FAB_STATUS.READY, 1, 0), (MEM_STATUS.READY, 1, 0), (MEM_CLASS.READ_MASK, 63, 0), (PMON_STATUS.READY, 1, 0), (PMON_EVSEL.EN, 1, 8),
    (PMON_EVSEL.EVENT, 0x25, 8), (PMON_CTR.COUNT, 2 ^ 64 - 1, 8)].foldl (fun (s : State) (x : Field × Nat × Nat) =>
      s.set x.1 x.2.1 x.2.2) State.reset).writeBytes 0x1000 bareEndpoint

theorem farQueueWrite_checked : overflowingCounter.fabTableCheck farQueueWrite 1 16 (2 ^ 32) = none := by decide +kernel

theorem farQueueWrite_read : overflowingCounter.readsPoison (fabAccess farQueueWrite 16) = false ∧ farQueueWrite.body 8 4 = 1 ∧
    farQueueWrite.body 16 8 + 16 ≤ hostBase ∧ overflowingCounter.readBytes (farQueueWrite.body 16 8) 16 = bareEndpoint := by
  decide +kernel

theorem farQueueWrite_entry : (EptEntry.ofBytes bareEndpoint).valid = true ∧ 8 ≤ (EptEntry.ofBytes bareEndpoint).window ∧
    (EptEntry.ofBytes bareEndpoint).window ≤ 65536 ∧
    overflowingCounter.reservedBytes (overflowingCounter.classOf farQueueWrite) (EptEntry.ofBytes bareEndpoint).id +
      (bitsOf (EptEntry.ofBytes bareEndpoint).mask 5).length * (EptEntry.ofBytes bareEndpoint).window * 1024 ≤
        overflowingCounter.quotaBytes (overflowingCounter.classOf farQueueWrite) := by
  decide +kernel

theorem farQueueWrite_slot : overflowingCounter.eptSlot (EptEntry.ofBytes bareEndpoint).id = none ∧
    (overflowingCounter.eptSlots (EptEntry.ofBytes bareEndpoint).id).find? (fun a => !(overflowingCounter.eptAt a).valid) =
      some (64 * 38174) := by
  decide +kernel

/-- The class of the reservation is 1, which the overflow has made of the 0 that the descriptor began with. -/
theorem farQueueWrite_reserve : reserveAfter (.eptWrite farQueueWrite) overflowingCounter ≠
    overflowingCounter.fab.reserve.filter (fun x => x.1 ≠ (EptEntry.ofBytes bareEndpoint).id) ++
      [((EptEntry.ofBytes bareEndpoint).id, overflowingCounter.classOf farQueueWrite,
        (bitsOf (EptEntry.ofBytes bareEndpoint).mask 5).length * (EptEntry.ofBytes bareEndpoint).window * 1024)] := by
  decide +kernel

/-- Refutes O32, in the clause for EPT_WRITE: a work is not bound to the 8,192 queues. The read of `farQueueWrite` overflows counter 8,
whose bit of PMON_OVF is the lowest bit of the class that its queue number reads, so the window is reserved under another class
than the descriptor had. -/
theorem not_fabricTables : ¬ Obligations.FabricTables := by
  unfold Obligations.FabricTables
  intro ⟨_, hwrite, _⟩
  obtain ⟨hpoison, hone, hhost, hbytes⟩ := farQueueWrite_read
  have h := hwrite overflowingCounter farQueueWrite (64 * 38174)
  simp only [hbytes] at h
  obtain ⟨t, hexec, _, _, _, _, hreserve⟩ := h ⟨farQueueWrite_checked, hpoison, hone, hhost⟩ farQueueWrite_entry farQueueWrite_slot
  exact farQueueWrite_reserve ((reserveAfter_of_exec hexec).trans hreserve)

end Sys2Proof.Machine

namespace Sys2Proof.Machine
open Csr

/-! ## Communication queues (Table QUE-4, R359) -/

theorem commRefuse_effect (s : State) (w : Work) {n : Nat} (hn : n < 2 ^ 16) :
    Ended (s.commRefuse w n) w n true false ∧ (s.commRefuse w n).get HOSTQ_ERR_LOG.REASON = n := by
  refine ⟨finishError_ended _ _ _, ?_⟩
  unfold State.commRefuse State.finishError State.queueLog
  rw [finish_get _ _ _ (by decide)]
  simp (disch := decide) [HOSTQ_ERR_LOG.REASON]
  omega

theorem commRefuse_goes' (s : State) (w : Work) (n : Nat) : Goes [.csr, .hostq] s (s.commRefuse w n) :=
  .step (.step .refl queueLog_goes rfl) finishError_goes rfl

/-- The packets of the flows once more packets have joined one of them. -/
theorem fabQueue_pkts (s : State) (k j : FlowKey) (ps : List FabPkt) :
    ((s.fabQueue k ps).fabTx j).pkts = (s.fabTx j).pkts ++ (if k = j then ps else []) := by
  simp only [State.fabQueue, State.putFabTx, State.fabTx, lookupD_assocPut_eq]
  by_cases h : k = j
  · subst h
    simp
  · simp [h]

theorem writePackets_length (tenant circuit remote : Nat) (msg : Option Nat) (b : Bytes) :
    (writePackets tenant circuit remote msg b).length = ceilDiv b.length 4096 := by
  simp [writePackets]

/-- Queue the packets of a message toward each member of a list. -/
def queueAll (key : State → Bytes → FlowKey) (ps : Bytes → List FabPkt) (s : State) (l : List Bytes) : State :=
  l.foldl (fun s e => s.fabQueue (key s e) (ps e)) s

/-- Packets queued toward every member stand in the flow of each. -/
theorem queueAll_effect {key : State → Bytes → FlowKey} {ps : Bytes → List FabPkt} (hkey : ∀ s t e, t.csr = s.csr → key t e = key s e) :
    ∀ (l : List Bytes) (s : State), (queueAll key ps s l).csr = s.csr ∧ (queueAll key ps s l).fab.msgs = s.fab.msgs ∧
      (queueAll key ps s l).fab.nextMsg = s.fab.nextMsg ∧
      ∀ j, ∀ p ∈ (s.fabTx j).pkts ++ (l.filter (fun e => decide (key s e = j))).flatMap ps, p ∈ ((queueAll key ps s l).fabTx j).pkts
  | [], s => ⟨rfl, rfl, rfl, fun j p hp => by simpa [queueAll] using hp⟩
  | e :: l, s => by
    obtain ⟨hcsr, hmsgs, hnext, hpkts⟩ := queueAll_effect hkey l (s.fabQueue (key s e) (ps e))
    refine ⟨hcsr, hmsgs, hnext, fun j p hp => hpkts j p ?_⟩
    have hsame : ∀ x, key (s.fabQueue (key s e) (ps e)) x = key s x := fun x => hkey _ _ x rfl
    rw [fabQueue_pkts]
    simp only [hsame]
    by_cases hj : key s e = j
    · simpa [hj] using hp
    · simpa [hj] using hp

/-- The state of a communication descriptor that has passed its checks, its data read and its message begun. -/
def State.commBegun (s : State) (w : Work) (members : Nat) : State :=
  let s := s.readEvents w (commAccess w)
  { s with fab := { s.fab with nextMsg := s.fab.nextMsg + 1, msgs := s.fab.msgs ++ [⟨s.fab.nextMsg, w, members * ceilDiv (w.body 4 4) 4096⟩] } }

/-- The packets that carry a descriptor's data to the member of an entry of its group. -/
def State.commPackets (s : State) (w : Work) (e : Bytes) : List FabPkt :=
  writePackets w.tenant (getBits (fieldAt e 4 2) 0 12) (fieldAt e 8 8 + w.body 16 8) (some s.fab.nextMsg) (s.readBytes (w.body 8 8) (w.body 4 4))

/-- The flow of a member. -/
def commFlow (s : State) (e : Bytes) : FlowKey := s.ownFlow (fieldAt e 0 3) 3

section
variable {s : State} {w : Work} {op : Nat} {members : List Nat}

theorem commSend_passed (hready : s.fabReady = true) (hop : w.body 0 1 = op) (hn : 0 < w.body 4 4 ∧ w.body 4 4 ≤ 16777216)
    (ha : w.body 8 8 % 64 = 0) (hmem : members ≠ []) (hin : ∀ m ∈ members, m < s.get Q_GROUP.MEMBERS w.queue)
    (hacc : (s.badAccess (s.classOf w) (commAccess w)).isNone = true) (hpoison : s.readsPoison (commAccess w) = false)
    (hcirc : ∀ m ∈ members, let c := s.circAt (getBits (fieldAt (s.readBytes (s.get Q_GROUP.ADDR w.queue * 64 + 16 * m) 16) 4 2) 0 12)
      c.valid = true ∧ c.inbound = false ∧ c.tenant = w.tenant) :
    s.commSend w op members = queueAll commFlow ((s.readEvents w (commAccess w)).commPackets w) (s.commBegun w members.length)
      (members.map (fun m => s.readBytes (s.get Q_GROUP.ADDR w.queue * 64 + 16 * m) 16)) := by
  unfold State.commSend
  extract_lets n table entries circuit
  have hsize : ¬ (w.body 0 1 ≠ op ∨ n = 0 ∨ 16777216 < n ∨ w.body 8 8 % 64 ≠ 0 ∨ members.isEmpty = true ∨
      (members.any fun m => decide (s.get Q_GROUP.MEMBERS w.queue ≤ m)) = true) := by
    have hany : (members.any fun m => decide (s.get Q_GROUP.MEMBERS w.queue ≤ m)) = false := by
      simpa using hin
    have hempty : members.isEmpty = false := by simpa using hmem
    simp only [hany, hempty, n, Bool.false_eq_true, or_false]
    omega
  have hentries : ¬ (entries.any (fun e => !(s.circAt (circuit e)).valid || (s.circAt (circuit e)).inbound ||
      (s.circAt (circuit e)).tenant != w.tenant)) = true := by
    simp only [entries, List.any_map, List.any_eq_true, not_exists, not_and]
    intro m hm
    obtain ⟨hv, hi, ht⟩ := hcirc m hm
    simp [circuit, table, hv, hi, ht]
  rw [if_neg (by simp [hready]), if_neg hsize, if_neg (by simpa using hacc), if_neg (by simp [hpoison]), if_neg hentries]
  rfl

theorem readEvents_commPackets (e : Bytes) : (s.readEvents w (commAccess w)).commPackets w e = s.commPackets w e := by
  have hmemory : (s.readEvents w (commAccess w)).mem = s.mem := readEvents_goes.only .mem rfl
  have hfab : (s.readEvents w (commAccess w)).fab = s.fab := readEvents_goes.only .fab rfl
  simp only [State.commPackets, readBytes_of_mem hmemory, hfab]

theorem commBegun_parts (members : Nat) : (s.commBegun w members).fab = { s.fab with
    nextMsg := s.fab.nextMsg + 1, msgs := s.fab.msgs ++ [⟨s.fab.nextMsg, w, members * ceilDiv (w.body 4 4) 4096⟩] } := by
  have hfab : (s.readEvents w (commAccess w)).fab = s.fab := readEvents_goes.only .fab rfl
  simp only [State.commBegun, hfab]

theorem commBegun_flow (members : Nat) (e : Bytes) : commFlow (s.commBegun w members) e = commFlow s e := by
  have hcsr : (s.commBegun w members).csr = (s.readEvents w (commAccess w)).csr := rfl
  have hout := (readEvents_outside s w (commAccess w)).trans (.of_csr hcsr)
  have hbase : (s.commBegun w members).get FAB_LOCAL_EP.BASE = s.get FAB_LOCAL_EP.BASE := hout.get (by decide)
  have hcount : (s.commBegun w members).get FAB_LOCAL_EP.COUNT = s.get FAB_LOCAL_EP.COUNT := hout.get (by decide)
  simp only [commFlow, State.ownFlow, State.ownEp, hbase, hcount]

theorem commFlow_of_csr {s t : State} (h : t.csr = s.csr) (e : Bytes) : commFlow t e = commFlow s e := by
  simp only [commFlow, State.ownFlow, State.ownEp, get_congr h]

theorem queueAll_goes (key : State → Bytes → FlowKey) (ps : Bytes → List FabPkt) (l : List Bytes) (s : State) :
    Goes [.fab] s (queueAll key ps s l) := .foldl .refl fun x b h => .step h fabQueue_goes rfl

theorem commBegun_goes (members : Nat) : Goes [.csr, .out, .intc, .fab] s (s.commBegun w members) := by
  unfold State.commBegun
  exact .fab (.step .refl readEvents_goes rfl) (by decide)

end

/-- Settles O20: what PUT and PUT_ALL queue, and their refusals. -/
theorem communication : Obligations.Communication := by
  unfold Obligations.Communication
  refine ⟨fun s w => ?_, fun s w => ?_, fun s w all hready => ?_, fun s w => ?_⟩
  · intro n e c ps ⟨hready, hop, hn, hn', ha, hm⟩ ⟨hacc, hpoison⟩ hcirc
    have hsend : s.commSend w 1 [w.body 2 2] = _ := commSend_passed hready hop ⟨hn, hn'⟩ ha (by simp) (by simpa using hm) hacc hpoison
      (by simpa using hcirc)
    have hlen : ps.length = ceilDiv n 4096 := by simp only [ps, writePackets_length, readBytes_length]
    have hflow : commFlow (s.commBegun w 1) e = s.ownFlow (fieldAt e 0 3) 3 := commBegun_flow 1 e
    have hpkts : (s.readEvents w (commAccess w)).commPackets w e = ps := readEvents_commPackets e
    refine .of_goes (t := queueAll commFlow ((s.readEvents w (commAccess w)).commPackets w) (s.commBegun w 1) [e])
      (congrArg Host.Outcome.next hsend) (.step (commBegun_goes 1) (queueAll_goes _ _ _ _) rfl) ⟨?_, ?_, ?_, hlen⟩
    · have htx : ∀ k, (s.commBegun w 1).fabTx k = s.fabTx k := fun k => by simp only [State.fabTx, commBegun_parts]
      simp only [queueAll, List.foldl_cons, List.foldl_nil, fabQueue_pkts, hflow, hpkts, htx, if_true]
    · exact (congrArg FabSt.msgs (commBegun_parts 1)).trans (by simp only [Nat.one_mul]; rfl)
    · exact congrArg FabSt.nextMsg (commBegun_parts 1)
  · intro n k e c ps ⟨hready, hop, hn, hn', ha, hk⟩ ⟨hacc, hpoison⟩ hcirc
    have hsend : s.commSend w 2 (List.range k) = _ := commSend_passed hready hop ⟨hn, hn'⟩ ha
      (by simpa using hk.ne') (by simp [k]) hacc hpoison (fun m hm => hcirc m (List.mem_range.mp hm))
    rw [List.length_range] at hsend
    obtain ⟨_, hmsgs, hnext, hpkts⟩ := queueAll_effect (key := commFlow) (ps := (s.readEvents w (commAccess w)).commPackets w)
      (fun s t e h => commFlow_of_csr h e) ((List.range k).map e) (s.commBegun w k)
    refine .of_goes (congrArg Host.Outcome.next hsend) (.step (commBegun_goes k) (queueAll_goes _ _ _ _) rfl) ⟨fun i hi p hp => ?_, ?_, ?_⟩
    · refine hpkts _ p (List.mem_append_right _ (List.mem_flatMap.mpr ⟨e i, ?_, ?_⟩))
      · simp only [List.mem_filter, List.mem_map, List.mem_range, decide_eq_true_eq]
        exact ⟨⟨i, hi, rfl⟩, commBegun_flow k (e i)⟩
      · rw [readEvents_commPackets]
        exact hp
    · rw [hmsgs, commBegun_parts]
    · rw [hnext, commBegun_parts]
  · have hsend : ∀ op members, s.commSend w op members = s.commRefuse w 0x0624 := fun op members => by
      unfold State.commSend
      exact if_pos (by simp [hready])
    cases all
    · exact .of_goes (congrArg Host.Outcome.next (hsend 1 _)) (commRefuse_goes' s w _) (commRefuse_effect s w (by decide))
    · exact .of_goes (congrArg Host.Outcome.next (hsend 2 _)) (commRefuse_goes' s w _) (commRefuse_effect s w (by decide))
  · rintro ⟨hready, hbad⟩
    have hsend : s.commSend w 1 [w.body 2 2] = s.commRefuse w 0x020A := by
      unfold State.commSend
      rw [if_neg (by simp [hready])]
      refine if_pos ?_
      rcases hbad with h | h
      · exact .inr (.inl h)
      · exact .inr (.inr (.inr (.inr (.inr (by simpa using h)))))
    exact .of_goes (congrArg Host.Outcome.next hsend) (commRefuse_goes' s w _) (commRefuse_effect s w (by decide))

end Sys2Proof.Machine

namespace Sys2Proof.Machine
open Csr

/-! ## The line scheduler (R361 to R364) -/

/-- A field that no shard's way to its yarn changes: it lies outside the performance monitor and the port's virtual time. -/
theorem toYarn_get (s : State) (p y : Nat) (x : LineShard) {f : Field} {i : Nat} (h : f.reg.addr i 0 / 0x100000 ≠ 15) :
    (s.toYarn p y x).get f i = s.get f i :=
  (pmonEdge_outside _ _ _ _).get h

theorem toYarn_sched (s : State) (p y : Nat) (x : LineShard) :
    (s.toYarn p y x).sched = { s.sched with shards := s.sched.shards.erase x } := pmonEdge_goes.only .sched rfl

theorem toYarn_port (s : State) (p : Fin 16) (y : Nat) (x : LineShard) (h : p.val < s.line.length) :
    ((s.toYarn p y x).port p).txBuf y = (s.port p).txBuf y ++ [⟨x.bytes, false⟩] := by
  have hline : (s.toYarn p y x).line = s.line.set p { s.port p with
      txYarn := assocPut (s.port p).txYarn y ((s.port p).txBuf y ++ [⟨x.bytes, false⟩]) } := pmonEdge_goes.only .line rfl
  simp [State.port, hline, h, LinePort.txBuf, lookupD_assocPut_eq]

/-- The registers of a tenant and of a line queue lie in the scheduler's block. -/
theorem schedReg_block {r : Reg} {i : Nat} (h : r.base / 0x100000 = 3 ∧ r.last / 0x100000 = 3 ∧ 0 < r.n2) (hi : i < r.n1) :
    r.addr i 0 / 0x100000 ≠ 15 := by
  rw [Reg.addr_block (b := 3) ⟨h.1, h.2.1⟩ hi h.2.2]
  decide

section
variable (s : State) (p n len : Nat)

theorem chargeTenant_sched : (s.chargeTenant p n len).sched = { s.sched with
    tagTenant := (assocPut s.sched.tagTenant (p, n)
      ((s.tenantTag p n + len * 2 ^ 16 / max 1 (s.get TENANT_CFG.WEIGHT n)) % 2 ^ 64)) } := rfl

theorem chargeTenant_get {f : Field} {i : Nat} (h : TENANT_BURST.addr n 0 ≠ f.reg.addr i 0) : (s.chargeTenant p n len).get f i = s.get f i :=
  get_set_far _ TENANT_BURST.TOKENS f _ h

theorem ofSigned_mod (x : Int) : ofSigned 32 x % 2 ^ 32 = ofSigned 32 x := Nat.mod_eq_of_lt (ofSigned_lt 32 x)

theorem chargeTenant_tokens : (s.chargeTenant p n len).get TENANT_BURST.TOKENS n =
    ofSigned 32 (toSigned 32 (s.get TENANT_BURST.TOKENS n) - len) :=
  (get_set_mod _ TENANT_BURST.TOKENS _ _ _ (by decide)).trans (ofSigned_mod _)

theorem chargeQueue_tokens (q : Nat) : (s.chargeQueue p n q len).get LQ_BURST.TOKENS (s.lqIndex q) =
    ofSigned 32 (toSigned 32 (s.get LQ_BURST.TOKENS (s.lqIndex q)) - len) :=
  (get_set_mod _ LQ_BURST.TOKENS _ _ _ (by decide)).trans (ofSigned_mod _)

theorem chargeQueue_sched (q : Nat) : (s.chargeQueue p n q len).sched = { s.sched with
    vtTenant := assocPut s.sched.vtTenant (p, n) (s.queueTag p q)
    tagQueue := (assocPut s.sched.tagQueue (p, q)
      ((s.queueTag p q + len * 2 ^ 16 / max 1 (s.get LQ_CFG.WEIGHT (s.lqIndex q))) % 2 ^ 64)) } := rfl

theorem chargeQueue_get (q : Nat) {f : Field} {i : Nat} (h : LQ_BURST.addr (s.lqIndex q) 0 ≠ f.reg.addr i 0) :
    (s.chargeQueue p n q len).get f i = s.get f i := get_set_far _ LQ_BURST.TOKENS f _ h

end

theorem leastBy_mem {α : Type} {key : α → Nat} : ∀ {l : List α} {x : α}, leastBy key l = some x → x ∈ l
  | [], x, h => by cases h
  | a :: r, x, h => by
    unfold leastBy at h
    split at h
    · cases h
      exact List.mem_cons_self
    · rename_i b hb
      split at h
      · cases h
        exact List.mem_cons_self
      · cases h
        exact List.mem_cons_of_mem _ (leastBy_mem hb)

/-- A served tenant is one of 256. -/
theorem served_tenant_lt {s : State} {p n : Nat} (h : leastBy (s.tenantTag p) ((s.portTenants p).filter (s.tenantEligible p)) = some n) :
    n < 256 := by
  have hmem := leastBy_mem h
  simp only [State.portTenants, List.mem_filter, List.mem_range] at hmem
  exact hmem.1.1

/-! ### Service -/

section
variable {s : State} {p : Fin 16} {n y : Nat} {x : LineShard}

/-- The state of a port whose virtual time has taken a tenant's tag. -/
def State.atTag (s : State) (p n : Nat) : State := s.set PORT_VT.VT (s.tenantTag p n) p

theorem atTag_get {f : Field} {i : Nat} (h : PORT_VT.addr p 0 ≠ f.reg.addr i 0) : (s.atTag p n).get f i = s.get f i :=
  get_set_far s PORT_VT.VT f _ h

theorem tenantReg_far {r : Reg} (h : PORT_VT.apartFor r 16 0 256 0 = true) (hn : n < 256) : PORT_VT.addr p 0 ≠ r.addr n 0 :=
  Reg.addr_ne_of_apartFor h p.isLt hn

/-- What serving a tenant leaves, whichever of its shards was taken: the port's virtual time, the shard handed to the yarn, and the
tenant's charge. -/
theorem serve_effect {t : State} (hp : p.val < s.line.length) (hn : n < 256) (hline : t.line = ((s.atTag p n).toYarn p y x).line)
    (hshards : t.sched.shards = ((s.atTag p n).toYarn p y x).sched.shards) (htag : t.sched.tagTenant = s.sched.tagTenant)
    (hregs : ∀ (f : Field) (i : Nat), f.reg.addr i 0 ∉ (List.range 2064).map (fun k => LQ_BURST.addr k 0) →
      t.get f i = ((s.atTag p n).toYarn p y x).get f i) :
    (t.chargeTenant p n x.bytes.length).get PORT_VT.VT p = s.tenantTag p n % 2 ^ 64 ∧
    (t.chargeTenant p n x.bytes.length).sched.shards = s.sched.shards.erase x ∧
    ((t.chargeTenant p n x.bytes.length).port p).txBuf y = (s.port p).txBuf y ++ [⟨x.bytes, false⟩] ∧
    (t.chargeTenant p n x.bytes.length).tenantTag p n =
      (s.tenantTag p n + x.bytes.length * 2 ^ 16 / max 1 (s.get TENANT_CFG.WEIGHT n)) % 2 ^ 64 ∧
    (t.chargeTenant p n x.bytes.length).get TENANT_BURST.TOKENS n =
      ofSigned 32 (toSigned 32 (s.get TENANT_BURST.TOKENS n) - x.bytes.length) := by
  have hlq : ∀ (r : Reg) (i m : Nat), r.apartFor LQ_BURST m 0 2064 0 = true → i < m →
      r.addr i 0 ∉ (List.range 2064).map (fun k => LQ_BURST.addr k 0) := fun r i m hr hi hmem => by
    obtain ⟨k, hk, he⟩ := List.mem_map.mp hmem
    exact Reg.addr_ne_of_apartFor hr hi (List.mem_range.mp hk) he.symm
  have hweight : t.get TENANT_CFG.WEIGHT n = s.get TENANT_CFG.WEIGHT n := by
    rw [hregs _ _ (hlq TENANT_CFG n 256 (by decide) hn), toYarn_get _ _ _ _ (schedReg_block (r := TENANT_CFG) (by decide) hn),
      atTag_get (tenantReg_far (r := TENANT_CFG) (by decide) hn)]
  have htokens : t.get TENANT_BURST.TOKENS n = s.get TENANT_BURST.TOKENS n := by
    rw [hregs _ _ (hlq TENANT_BURST n 256 (by decide) hn), toYarn_get _ _ _ _ (schedReg_block (r := TENANT_BURST) (by decide) hn),
      atTag_get (tenantReg_far (r := TENANT_BURST) (by decide) hn)]
  refine ⟨?_, ?_, ?_, ?_, ?_⟩
  · rw [chargeTenant_get _ _ _ _ (Reg.addr_ne_of_apartFor (by decide : TENANT_BURST.apartFor PORT_VT 256 0 16 0 = true) hn p.isLt),
      hregs _ _ (hlq PORT_VT p 16 (by decide) p.isLt), toYarn_get _ _ _ _ (schedReg_block (r := PORT_VT) (by decide) p.isLt)]
    exact get_set_mod _ PORT_VT.VT _ _ _ (by decide)
  · rw [chargeTenant_sched]
    exact hshards.trans (congrArg SchedSt.shards (toYarn_sched _ _ _ _))
  · have : (t.chargeTenant p n x.bytes.length).line = ((s.atTag p n).toYarn p y x).line := hline
    rw [port_of_line this]
    exact toYarn_port (s.atTag p n) p y x hp
  · rw [State.tenantTag, chargeTenant_sched, lookupD_assocPut_eq, if_pos rfl, hweight, State.tenantTag, htag]
    rfl
  · rw [chargeTenant_tokens, htokens]

theorem execSchedServe_tenant (hready : s.on SCHED_STATUS.READY = true) (hport : p.val ∉ s.sched.portOut)
    (hleast : leastBy (s.tenantTag p) ((s.portTenants p).filter (s.tenantEligible p)) = some n) (hyarn : s.yarnFor p n = some y) :
    exec (.schedServe p) s =
      match s.controlShard p n with
      | some x => .next (((s.atTag p n).toYarn p y x).chargeTenant p n x.bytes.length)
      | none =>
        match leastBy ((s.atTag p n).queueTag p) ((s.atTag p n).eligibleQueues p n) with
        | none => .next (s.atTag p n)
        | some q =>
          match s.queueShard p q with
          | none => .next (s.atTag p n)
          | some x => .next ((((s.atTag p n).toYarn p y x).chargeQueue p n q x.bytes.length).chargeTenant p n x.bytes.length) := by
  show execSchedServe p s = _
  unfold execSchedServe
  extract_lets p'
  rw [if_neg (by simpa [hready] using hport)]
  simp only [p', hleast, hyarn, Option.getD_some]
  rfl

/-- A line queue's registers stand apart from every port's virtual time, whatever the queue's number. -/
theorem lineQueue_far (i : Nat) : PORT_VT.addr p 0 ≠ LQ_CFG.addr i 0 ∧ PORT_VT.addr p 0 ≠ LQ_BURST.addr i 0 := by
  have := p.isLt
  simp only [Reg.addr, PORT_VT, LQ_CFG, LQ_BURST]
  omega

theorem atTag_eligibleQueues : (s.atTag p n).eligibleQueues p n = s.eligibleQueues p n := by
  have hbase : (s.atTag p n).lineBase = s.lineBase := atTag_get (Reg.addr_ne_of_apartFor (n' := 1) (by decide) p.isLt (by decide))
  have hshaped : (s.atTag p n).queueShaped = s.queueShaped := by
    funext q
    simp only [State.queueShaped, State.on, State.lqIndex, hbase, atTag_get (lineQueue_far _).1 (f := LQ_CFG.SHAPE_EN),
      atTag_get (lineQueue_far _).2 (f := LQ_BURST.TOKENS)]
    rfl
  simp only [State.eligibleQueues, hshaped]
  rfl

end

/-! ### Refill (R364) -/

theorem wordAt_eq_some {l : List (Nat × Word)} (hl : Regs.wf l = true) {a : Nat} {v : Word} : wordAt l a = some v ↔ (a, v) ∈ l := by
  unfold Regs.wf at hl
  rw [rising_iff] at hl
  induction l with
  | nil => simp [wordAt]
  | cons x r ih =>
    obtain ⟨b, u⟩ := x
    rw [List.map_cons, List.pairwise_cons] at hl
    obtain ⟨hlt, hr⟩ := hl
    unfold wordAt
    by_cases hb : b = a
    · subst hb
      have hnot : (b, v) ∉ r := fun hm => by
        have := hlt b (List.mem_map.mpr ⟨_, hm, rfl⟩)
        omega
      simp [hnot, eq_comm]
    · rw [if_neg hb, ih hr]
      simp [Ne.symm hb]

/-- A register array of shapers: one word every 16 bytes, SHAPE_EN in bit 16, 0 at reset. -/
def Reg.shaperArray (r : Reg) : Prop := r.s1 = 16 ∧ ∀ i < r.n1, (r.resetWord i 0).getLsbD 16 = false

section
variable {s : State} {r : Reg} (hwf : Regs.wf s.csr = true) (hr : r.shaperArray)
include hwf hr

/-- The shapers that are on are those whose SHAPE_EN is set. -/
theorem mem_shapersOn {i : Nat} (hi : i < r.n1) : i ∈ s.shapersOn r ↔ (s.rdReg r i).getLsbD 16 = true := by
  obtain ⟨hs, hreset⟩ := hr
  simp only [State.shapersOn, List.mem_filterMap, Option.ite_none_right_eq_some, Option.some.injEq, hs]
  constructor
  · rintro ⟨⟨a, v⟩, hmem, ⟨hle, hlt, hmod, hbit⟩, rfl⟩
    have ha : r.addr ((a - r.base) / 16) 0 = a := by
      simp only [Reg.addr, hs]
      dsimp only at hmod hle
      omega
    rw [State.rdReg, ha, (wordAt_eq_some hwf).mpr hmem]
    exact hbit
  · intro h
    have haddr : r.addr i 0 = r.base + 16 * i := by simp only [Reg.addr, hs]; omega
    cases hw : wordAt s.csr (r.addr i 0) with
    | none =>
      rw [State.rdReg, hw, Option.getD_none, hreset i hi] at h
      cases h
    | some v =>
      rw [State.rdReg, hw, Option.getD_some] at h
      refine ⟨(r.addr i 0, v), (wordAt_eq_some hwf).mp hw, ⟨?_, ?_, ?_, h⟩, ?_⟩
      all_goals dsimp only; omega

omit hwf in
theorem shapersOn_lt {i : Nat} (h : i ∈ s.shapersOn r) : i < r.n1 := by
  obtain ⟨hs, _⟩ := hr
  simp only [State.shapersOn, List.mem_filterMap, Option.ite_none_right_eq_some, Option.some.injEq, hs] at h
  obtain ⟨e, _, ⟨_, hlt, _⟩, rfl⟩ := h
  omega

theorem shapersOn_nodup : (s.shapersOn r).Nodup := by
  obtain ⟨hs, _⟩ := hr
  unfold Regs.wf at hwf
  rw [rising_iff, List.pairwise_map] at hwf
  unfold State.shapersOn
  refine List.Pairwise.filterMap _ (fun a a' hlt b hb b' hb' => ?_) hwf
  simp only [Option.mem_def, Option.ite_none_right_eq_some, Option.some.injEq, hs] at hb hb'
  omega

end

/-! One refill of a list of shapers, for either array. -/

/-- What the refill of one array of shapers may rest on: RATE stands in `cfg`, BURST and TOKENS in `tok`, apart from each other. -/
structure ShaperFields (cfg tok : Reg) (rate burst tokens : Field) : Prop where
  array : cfg.shaperArray
  rate_reg : rate.reg = cfg
  burst_reg : burst.reg = tok
  tokens_reg : tokens.reg = tok
  width : tokens.lo + tokens.w ≤ 64 ∧ tokens.w = 32
  stride : tok.s1 = 16
  apart : cfg.apartFor tok cfg.n1 0 cfg.n1 0 = true

/-- The shapers of `l`, each refilled once. -/
def State.refillAll (s : State) (rate burst tokens : Field) (l : List Nat) : State :=
  l.foldl (fun s i => s.refill rate burst tokens i) s

section
variable {s : State} {cfg tok : Reg} {rate burst tokens : Field} (hf : ShaperFields cfg tok rate burst tokens)

/-- A refill changes no register but those of the shapers refilled. -/
theorem refillAll_rdReg {l : List Nat} {r : Reg} {k : Nat} (h : ∀ i ∈ l, r.addr k 0 ≠ tokens.reg.addr i 0) :
    (s.refillAll rate burst tokens l).rdReg r k = s.rdReg r k := by
  induction l generalizing s with
  | nil => rfl
  | cons i l ih =>
    rw [State.refillAll, List.foldl_cons]
    rw [List.forall_mem_cons] at h
    exact (ih h.2).trans (rdReg_set_other _ _ _ _ _ _ _ _ h.1)

include hf

theorem ShaperFields.tokens_ne {i k : Nat} (h : k ≠ i) : tokens.reg.addr k 0 ≠ tokens.reg.addr i 0 := by
  rw [hf.tokens_reg]
  simp only [Reg.addr, hf.stride]
  omega

theorem ShaperFields.rate_ne {i k : Nat} (hi : i < cfg.n1) (hk : k < cfg.n1) : rate.reg.addr k 0 ≠ tokens.reg.addr i 0 := by
  rw [hf.rate_reg, hf.tokens_reg]
  exact Reg.addr_ne_of_apartFor hf.apart hk hi

theorem ShaperFields.refill_get (k : Nat) : (s.refill rate burst tokens k).get tokens k =
    ofSigned 32 (min (toSigned 32 (s.get tokens k) + s.get rate k) (s.get burst k)) := by
  obtain ⟨hfits, hw⟩ := hf.width
  rw [State.refill, get_set_mod _ _ _ _ _ hfits, hw]
  exact ofSigned_mod _

/-- A shaper refilled once gains its rate up to its burst. -/
theorem ShaperFields.refillAll_get {l : List Nat} {k : Nat} (hl : l.Nodup) (hlt : ∀ i ∈ l, i < cfg.n1) (hk : k ∈ l) :
    (s.refillAll rate burst tokens l).get tokens k =
      ofSigned 32 (min (toSigned 32 (s.get tokens k) + s.get rate k) (s.get burst k)) := by
  induction l generalizing s with
  | nil => cases hk
  | cons i l ih =>
    rw [List.nodup_cons] at hl
    rw [List.forall_mem_cons] at hlt
    rw [State.refillAll, List.foldl_cons]
    by_cases hki : k = i
    · subst hki
      rw [← hf.refill_get (s := s) k]
      refine get_of_word (refillAll_rdReg fun i hi => hf.tokens_ne ?_)
      rintro rfl
      exact hl.1 hi
    · have hmem : k ∈ l := (List.mem_cons.mp hk).resolve_left hki
      have hsame : ∀ f : Field, f.reg.addr k 0 ≠ tokens.reg.addr i 0 → (s.refill rate burst tokens i).get f k = s.get f k :=
        fun f h => get_of_word (rdReg_set_other _ _ _ _ _ _ _ _ h)
      have hburst : burst.reg.addr k 0 ≠ tokens.reg.addr i 0 := by
        rw [hf.burst_reg, ← hf.tokens_reg]
        exact hf.tokens_ne hki
      rw [← hsame tokens (hf.tokens_ne hki), ← hsame rate (hf.rate_ne hlt.1 (hlt.2 k hmem)), ← hsame burst hburst]
      exact ih hl.2 hlt.2 hmem

/-- A refill of one array: the shapers that are on gain their rate, the others keep their word. -/
theorem ShaperFields.refill_effect (hwf : Regs.wf s.csr = true) {k : Nat} (hk : k < cfg.n1) :
    ((s.rdReg cfg k).getLsbD 16 = true → (s.refillAll rate burst tokens (s.shapersOn cfg)).get tokens k =
      ofSigned 32 (min (toSigned 32 (s.get tokens k) + s.get rate k) (s.get burst k))) ∧
    ((s.rdReg cfg k).getLsbD 16 = false →
      (s.refillAll rate burst tokens (s.shapersOn cfg)).rdReg tokens.reg k = s.rdReg tokens.reg k) := by
  constructor
  · intro hon
    exact hf.refillAll_get (shapersOn_nodup hwf hf.array) (fun i => shapersOn_lt hf.array) ((mem_shapersOn hwf hf.array hk).mpr hon)
  · intro hoff
    refine refillAll_rdReg fun i hi => hf.tokens_ne ?_
    rintro rfl
    rw [(mem_shapersOn hwf hf.array hk).mp hi] at hoff
    cases hoff

end

theorem tenantShapers : ShaperFields TENANT_CFG TENANT_BURST TENANT_CFG.RATE TENANT_BURST.BURST TENANT_BURST.TOKENS :=
  ⟨⟨rfl, fun _ _ => by simp [Reg.resetWord, Reg.resetNat, TENANT_CFG]⟩, rfl, rfl, rfl, by decide, rfl, by decide⟩

theorem lineShapers : ShaperFields LQ_CFG LQ_BURST LQ_CFG.RATE LQ_BURST.BURST LQ_BURST.TOKENS :=
  ⟨⟨rfl, fun _ _ => by simp [Reg.resetWord, Reg.resetNat, LQ_CFG]⟩, rfl, rfl, rfl, by decide, rfl, by decide⟩

/-- The refill of the tenants' shapers touches no register of a line queue. -/
theorem refillAll_lineQueue (s : State) {r : Reg} {k : Nat} (h : r.apartFor TENANT_BURST 2064 0 256 0 = true) (hk : k < 2064) :
    (s.refillAll TENANT_CFG.RATE TENANT_BURST.BURST TENANT_BURST.TOKENS (s.shapersOn TENANT_CFG)).rdReg r k = s.rdReg r k :=
  refillAll_rdReg fun i hi => Reg.addr_ne_of_apartFor h hk (shapersOn_lt (r := TENANT_CFG) tenantShapers.array hi)

/-- The refill of the line queues' shapers touches no register of a tenant. -/
theorem refillAll_tenant (s : State) {r : Reg} {k : Nat} (h : r.apartFor LQ_BURST 256 0 2064 0 = true) (hk : k < 256) :
    (s.refillAll LQ_CFG.RATE LQ_BURST.BURST LQ_BURST.TOKENS (s.shapersOn LQ_CFG)).rdReg r k = s.rdReg r k :=
  refillAll_rdReg fun i hi => Reg.addr_ne_of_apartFor h hk (shapersOn_lt (r := LQ_CFG) lineShapers.array hi)

theorem refillAll_goes {s : State} {rate burst tokens : Field} {l : List Nat} : Goes [.csr] s (s.refillAll rate burst tokens l) :=
  .foldl .refl fun _ _ h => .step h refill_goes (by decide)

theorem shaperRefill_effect (s : State) (hwf : Regs.wf s.csr = true) :
    Does .shaperRefill s [.csr] (fun t =>
      (∀ i < 256, s.on TENANT_CFG.SHAPE_EN i = true → t.get TENANT_BURST.TOKENS i =
        ofSigned 32 (min (toSigned 32 (s.get TENANT_BURST.TOKENS i) + s.get TENANT_CFG.RATE i) (s.get TENANT_BURST.BURST i))) ∧
      (∀ i < 256, s.on TENANT_CFG.SHAPE_EN i = false → t.rdReg TENANT_BURST i = s.rdReg TENANT_BURST i) ∧
      (∀ i < 2064, s.on LQ_CFG.SHAPE_EN i = true → t.get LQ_BURST.TOKENS i =
        ofSigned 32 (min (toSigned 32 (s.get LQ_BURST.TOKENS i) + s.get LQ_CFG.RATE i) (s.get LQ_BURST.BURST i))) ∧
      (∀ i < 2064, s.on LQ_CFG.SHAPE_EN i = false → t.rdReg LQ_BURST i = s.rdReg LQ_BURST i)) := by
  have hexec : exec .shaperRefill s = .next (State.refillAll (s.refillAll TENANT_CFG.RATE TENANT_BURST.BURST TENANT_BURST.TOKENS
      (s.shapersOn TENANT_CFG)) LQ_CFG.RATE LQ_BURST.BURST LQ_BURST.TOKENS
      ((s.refillAll TENANT_CFG.RATE TENANT_BURST.BURST TENANT_BURST.TOKENS (s.shapersOn TENANT_CFG)).shapersOn LQ_CFG)) := rfl
  refine Does.of_next hexec execShaperRefill_goes ?_
  have htenant := fun k (hk : k < 256) => tenantShapers.refill_effect hwf (k := k) hk
  generalize hs' : s.refillAll TENANT_CFG.RATE TENANT_BURST.BURST TENANT_BURST.TOKENS (s.shapersOn TENANT_CFG) = s' at *
  have hwf' : Regs.wf s'.csr = true := hs' ▸ refillAll_goes.csr hwf
  have hline := fun k (hk : k < 2064) => lineShapers.refill_effect hwf' (k := k) hk
  have hword : ∀ k < 2064, s'.rdReg LQ_CFG k = s.rdReg LQ_CFG k ∧ s'.rdReg LQ_BURST k = s.rdReg LQ_BURST k := fun k hk => by
    rw [← hs']
    exact ⟨refillAll_lineQueue s (by decide) hk, refillAll_lineQueue s (by decide) hk⟩
  refine ⟨fun i hi hon => ?_, fun i hi hoff => ?_, fun i hi hon => ?_, fun i hi hoff => ?_⟩
  · rw [← (htenant i hi).1 ((on_eq_getLsbD _ TENANT_CFG.SHAPE_EN i rfl).symm.trans hon)]
    exact get_of_word (refillAll_tenant s' (by decide) hi)
  · exact (refillAll_tenant s' (by decide) hi).trans ((htenant i hi).2 ((on_eq_getLsbD _ TENANT_CFG.SHAPE_EN i rfl).symm.trans hoff))
  · obtain ⟨hcfg, hburst⟩ := hword i hi
    rw [(hline i hi).1 (by rw [hcfg]; exact (on_eq_getLsbD _ LQ_CFG.SHAPE_EN i rfl).symm.trans hon)]
    rw [get_of_word (f := LQ_BURST.TOKENS) (t := s) hburst, get_of_word (f := LQ_BURST.BURST) (t := s) hburst,
      get_of_word (f := LQ_CFG.RATE) (t := s) hcfg]
  · obtain ⟨hcfg, hburst⟩ := hword i hi
    rw [← hburst]
    exact (hline i hi).2 (by rw [hcfg]; exact (on_eq_getLsbD _ LQ_CFG.SHAPE_EN i rfl).symm.trans hoff)

/-- Settles O21: a served tenant's shard leaves with every charge, and a refill touches the enabled shapers alone. -/
theorem lineScheduling : Obligations.LineScheduling := by
  refine ⟨?_, ?_, shaperRefill_effect⟩
  · rintro s p n y x ⟨hready, hout, hline⟩ ⟨hleast, hyarn⟩ hx
    have hn := served_tenant_lt hleast
    have hexec := execSchedServe_tenant hready hout hleast hyarn
    rw [hx] at hexec
    obtain ⟨hvt, hshards, hbuf, htag, htokens⟩ := serve_effect (t := (s.atTag p n).toYarn p y x) (x := x) hline hn rfl rfl
      (by rw [toYarn_sched]; rfl) (fun _ _ _ => rfl)
    refine Does.of_next hexec execSchedServe_goes ⟨hvt, hshards, hbuf, htag, htokens, ?_, ?_⟩
    all_goals rw [chargeTenant_sched, toYarn_sched]; rfl
  · rintro s p n y q x ⟨hready, hout, hline⟩ ⟨hleast, hyarn⟩ ⟨hnone, hq⟩ ⟨hx, hrange⟩
    have hn := served_tenant_lt hleast
    have hexec := execSchedServe_tenant hready hout hleast hyarn
    have hcontrol : s.controlShard p n = none := by simpa using hnone
    have hq' : leastBy ((s.atTag p n).queueTag p) ((s.atTag p n).eligibleQueues p n) = some q := by
      rw [atTag_eligibleQueues]
      exact hq
    simp only [hcontrol, hq', hx] at hexec
    have hi : s.lqIndex q < 2064 := by
      simp only [State.inLineRange, decide_eq_true_eq] at hrange
      simp only [State.lqIndex]
      omega
    generalize ht : (s.atTag p n).toYarn p y x = t at hexec
    have hsched : t.sched = { s.sched with shards := s.sched.shards.erase x } := ht ▸ toYarn_sched _ _ _ _
    have hidx : t.lqIndex q = s.lqIndex q := by
      rw [State.lqIndex, State.lineBase, ← ht, toYarn_get _ _ _ _ (by decide),
        atTag_get (Reg.addr_ne_of_apartFor (n' := 1) (by decide) p.isLt (by decide))]
      rfl
    have hget : ∀ (f : Field), f.reg = LQ_CFG ∨ f.reg = LQ_BURST → t.get f (s.lqIndex q) = s.get f (s.lqIndex q) := by
      rintro f (hf | hf)
      · rw [← ht, toYarn_get _ _ _ _ (by rw [hf]; exact schedReg_block (by decide) hi), atTag_get (by rw [hf]; exact (lineQueue_far _).1)]
      · rw [← ht, toYarn_get _ _ _ _ (by rw [hf]; exact schedReg_block (by decide) hi), atTag_get (by rw [hf]; exact (lineQueue_far _).2)]
    obtain ⟨hvt, hshards, hbuf, htag, htokens⟩ := serve_effect (s := s) (p := p) (n := n) (y := y) (x := x)
      (t := t.chargeQueue p n q x.bytes.length) hline hn (by rw [ht]; rfl) (by rw [ht]; rfl)
      (by rw [chargeQueue_sched, hsched])
      (fun f i hfi => by
        rw [ht]
        refine chargeQueue_get _ _ _ _ _ fun he => hfi ?_
        rw [← he, hidx]
        exact List.mem_map.mpr ⟨_, List.mem_range.mpr hi, rfl⟩)
    have hqtag : t.queueTag p q = s.queueTag p q := by rw [State.queueTag, hsched]; rfl
    refine Does.of_next hexec execSchedServe_goes ⟨hvt, hshards, hbuf, htag, htokens, ?_, ?_, ?_⟩
    · rw [State.queueTag, chargeTenant_sched, chargeQueue_sched]
      dsimp only
      rw [lookupD_assocPut_eq, if_pos rfl, hqtag, hidx, hget _ (.inl rfl)]
    · rw [State.tenantVt, chargeTenant_sched, chargeQueue_sched]
      dsimp only
      rw [lookupD_assocPut_eq, if_pos rfl, hqtag]
    · rw [chargeTenant_get _ _ _ _ (Reg.addr_ne_of_apartFor (by decide : TENANT_BURST.apartFor LQ_BURST 256 0 2064 0 = true) hn hi),
        ← hidx, chargeQueue_tokens, hidx, hget _ (.inr rfl)]

end Sys2Proof.Machine

namespace Sys2Proof.Machine
open Csr

/-! ## Folds over the elements of a list -/

section
variable {σ α β : Type} {f : σ → β → σ} {read : σ → α}

/-- A fold none of whose steps changes what is read. -/
theorem foldl_keeps {l : List β} {s : σ} (h : ∀ t, ∀ k ∈ l, read (f t k) = read t) : read (l.foldl f s) = read s := by
  induction l generalizing s with
  | nil => rfl
  | cons k l ih =>
    exact (ih fun t i hi => h t i (List.mem_cons_of_mem _ hi)).trans (h s k List.mem_cons_self)

/-- A fold whose step at `x` puts `v` where `read` looks, while the steps of the others leave it. -/
theorem foldl_writes {P : σ → Prop} {x : β} {v : α} (hP : ∀ t k, P t → P (f t k)) (hat : ∀ t, P t → read (f t x) = v)
    (hother : ∀ t k, k ≠ x → read (f t k) = read t) {l : List β} {s : σ} (hs : P s) (h : x ∈ l ∨ read s = v) :
    read (l.foldl f s) = v := by
  induction l generalizing s with
  | nil => simpa using h
  | cons k l ih =>
    refine ih (hP s k hs) ?_
    by_cases hk : k = x
    · exact .inr (hk ▸ hat s hs)
    · refine h.imp (fun hx => (List.mem_cons.mp hx).resolve_left (Ne.symm hk)) fun he => (hother s k hk).trans he

end

/-! ## Links of the fabric under a re-steer or a handover -/

/-- The registers of two links stand apart. -/
theorem linkReg_ne {r : Reg} (h : 0 < r.s1) {k l : Nat} (hkl : k ≠ l) : r.addr k 0 ≠ r.addr l 0 := by
  simp only [Reg.addr, Nat.zero_mul, Nat.add_zero, ne_eq, Nat.add_left_cancel_iff]
  exact fun he => hkl (Nat.eq_of_mul_eq_mul_right h he)

/-- The registers that a link's new width changes besides its own. -/
def widthRegs : List Nat := [FAB_CAP.addr 0 0, FAB_STATUS.addr 0 0, FAB_ERR_LOG.addr 0 0, FAB_INT_STATUS.addr 0 0]

theorem fabLog_otherRegs {l : List Nat} (s : State) (a b c d e : Nat) (h : FAB_ERR_LOG.addr 0 0 ∈ l) : OtherRegs l s (s.fabLog a b c d e) := by
  unfold State.fabLog
  exact .andReport (.andSet (.andSet (.andSet (.andSet (.andSet .refl h) h) h) h) h)

/-- The state of a link whose width is written, before the fabric's totals and reports follow. -/
def State.widthSet (s : State) (l w lanes : Nat) : State :=
  let up := decide (s.get FAB_LINK_CFG.MIN_WIDTH ≤ w ∧ 0 < w) && (s.get FAB_CTRL.LINK_EN).testBit l
  ((s.set FAB_LINK_STATUS.IN_SERVICE (b2n up) l).set FAB_LINK_STATUS.WIDTH (if up then w else 0) l).set FAB_LINK_STATUS.LANE_MASK
    (if up then lanes else 0) l

theorem lanesUpdate_otherRegs (s : State) : OtherRegs widthRegs s s.lanesUpdate := by
  unfold State.lanesUpdate
  exact .andSet (.andSet (.andSet .refl (by decide)) (by decide)) (by decide)

/-- What follows a link's width: reports, which write the log and the interrupt status alone. -/
theorem linkWidth_otherRegs (s : State) (l w lanes : Nat) :
    OtherRegs widthRegs ((s.widthSet l w lanes).lanesUpdate.reservedUpdate l) (s.linkWidth l w lanes) := by
  have hlog : ∀ (a : State) {t : State} (n : Nat) (f : Field), OtherRegs widthRegs a t → f.reg.addr 0 0 ∈ widthRegs →
      OtherRegs widthRegs a ((t.fabLog n 0 l 0 0).raise f) := fun a t n f h hf =>
    .andRaise (h.trans (fabLog_otherRegs _ _ _ _ _ _ (by decide))) hf
  unfold State.linkWidth
  extract_lets was up now s1 s2 s3
  have h2 : OtherRegs widthRegs ((s.widthSet l w lanes).lanesUpdate.reservedUpdate l) s2 := .of_csr rfl
  have h3 : OtherRegs widthRegs ((s.widthSet l w lanes).lanesUpdate.reservedUpdate l) s3 := by
    unfold s3
    split
    · exact hlog _ _ _ h2 (by decide)
    · split
      · exact hlog _ _ _ h2 (by decide)
      · split
        · exact hlog _ _ _ h2 (by decide)
        · exact h2
  split
  · exact hlog _ _ _ h3 (by decide)
  · exact h3

theorem linkStatus_notWidthRegs (l : Nat) : FAB_LINK_STATUS.addr l 0 ∉ widthRegs := by
  intro h
  simp only [widthRegs, List.mem_cons, List.not_mem_nil, or_false, Reg.addr, FAB_LINK_STATUS, FAB_CAP, FAB_STATUS, FAB_ERR_LOG,
    FAB_INT_STATUS] at h
  omega

/-- What a link's status reads after its width was set: the fields written, and RESERVED_GBPS. -/
theorem linkWidth_status (s : State) (l w lanes : Nat) {f : Field} (hf : FAB_LINK_STATUS.RESERVED_GBPS.beside f = true) :
    (s.linkWidth l w lanes).get f l = (s.widthSet l w lanes).get f l := by
  have hr : f.reg = FAB_LINK_STATUS := (of_decide_eq_true hf).1
  have hne : f.reg.addr l 0 ∉ widthRegs := hr ▸ linkStatus_notWidthRegs l
  rw [(linkWidth_otherRegs s l w lanes).get hne, State.reservedUpdate]
  rw [get_set_beside _ _ _ _ _ _ hf, (lanesUpdate_otherRegs _).get hne]

theorem linkWidth_otherLink (s : State) {k l : Nat} (w lanes : Nat) (h : k ≠ l) {f : Field} (hf : f.reg = FAB_LINK_STATUS) :
    (s.linkWidth k w lanes).get f l = s.get f l := by
  have hne : f.reg.addr l 0 ∉ widthRegs := hf ▸ linkStatus_notWidthRegs l
  have hlink : ∀ g : Field, g.reg = FAB_LINK_STATUS → g.reg.addr k 0 ≠ f.reg.addr l 0 := fun g hg => by
    rw [hg, hf]
    exact linkReg_ne (by decide) h
  rw [(linkWidth_otherRegs s k w lanes).get hne, State.reservedUpdate, get_set_far _ _ _ _ (hlink _ rfl),
    (lanesUpdate_otherRegs _).get hne, State.widthSet, get_set_far _ _ _ _ (hlink _ rfl), get_set_far _ _ _ _ (hlink _ rfl),
    get_set_far _ _ _ _ (hlink _ rfl)]

/-- A width of zero takes the link out of service, and leaves whether it is quiet. -/
theorem linkWidth_zero (s : State) (l : Nat) : (s.linkWidth l 0 0).on FAB_LINK_STATUS.IN_SERVICE l = false ∧
    (s.linkWidth l 0 0).get FAB_LINK_STATUS.WIDTH l = 0 ∧ (s.linkWidth l 0 0).on FAB_LINK_STATUS.QUIET l = s.on FAB_LINK_STATUS.QUIET l := by
  refine ⟨?_, ?_, ?_⟩
  · rw [State.on, linkWidth_status _ _ _ _ (by decide)]
    simp (disch := decide) [State.widthSet, b2n]
  · rw [linkWidth_status _ _ _ _ (by decide)]
    simp (disch := decide) [State.widthSet]
  · rw [State.on, linkWidth_status _ _ _ _ (by decide)]
    simp (disch := decide) [State.widthSet, State.on]

/-- The links of a position, four from its first. -/
theorem mem_positionLinks (p : Fin 8) (k : Fin 4) : (⟨4 * p.val + k.val, by omega⟩ : Fin 32) ∈ positionLinks p := by
  refine List.mem_map.mpr ⟨k.val, List.mem_range.mpr k.isLt, Fin.ext ?_⟩
  show (4 * p.val + k.val) % 32 = 4 * p.val + k.val
  omega

/-- Links taken out of service one after the other. -/
theorem linksOut_inService (s : State) {ls : List (Fin 32)} {l : Fin 32} (h : l ∈ ls) :
    (ls.foldl (fun s l => s.linkWidth l.val 0 0) s).on FAB_LINK_STATUS.IN_SERVICE l = false :=
  foldl_writes (f := fun (s : State) (l : Fin 32) => s.linkWidth l.val 0 0)
    (read := fun t : State => t.on FAB_LINK_STATUS.IN_SERVICE l) (P := fun _ => True) (fun _ _ _ => trivial)
    (fun t _ => (linkWidth_zero t l).1)
    (fun t k hk => by
      simp only [State.on]
      rw [linkWidth_otherLink t 0 0 (fun he => hk (Fin.ext he)) rfl]) trivial (.inl h)

/-- The status registers of the links. -/
def linkStatusRegs : List Nat := (List.range 32).map (fun l => FAB_LINK_STATUS.addr l 0)

theorem mem_linkStatusRegs (l : Fin 32) : FAB_LINK_STATUS.addr l 0 ∈ linkStatusRegs :=
  List.mem_map.mpr ⟨l, List.mem_range.mpr l.isLt, rfl⟩

theorem linkWidth_regs (s : State) (l : Fin 32) (w lanes : Nat) :
    OtherRegs (linkStatusRegs ++ widthRegs) s (s.linkWidth l w lanes) := by
  have hl : FAB_LINK_STATUS.addr l 0 ∈ linkStatusRegs ++ widthRegs := List.mem_append_left _ (mem_linkStatusRegs l)
  have hset : OtherRegs (linkStatusRegs ++ widthRegs) s (s.widthSet l w lanes) := .andSet (.andSet (.andSet .refl hl) hl) hl
  exact (OtherRegs.andSet (hset.trans ((lanesUpdate_otherRegs _).mono (List.subset_append_right _ _))) hl).trans
    ((linkWidth_otherRegs s l w lanes).mono (List.subset_append_right _ _))

theorem linksOut_regs (s : State) (ls : List (Fin 32)) :
    OtherRegs (linkStatusRegs ++ widthRegs) s (ls.foldl (fun s l => s.linkWidth l.val 0 0) s) := by
  induction ls generalizing s with
  | nil => exact .refl
  | cons l ls ih => exact (linkWidth_regs s l 0 0).trans (ih _)

theorem linksOut_goes (s : State) (ls : List (Fin 32)) :
    Goes [.csr, .out, .intc, .fab] s (ls.foldl (fun s l => s.linkWidth l.val 0 0) s) :=
  .foldl .refl fun _ _ h => .step h linkWidth_goes (by decide)

/-! ## Re-steering (R290 to R294) -/

theorem gapStart_wavelength (s : State) (ls : List (Fin 32)) (l : Fin 32) :
    (ls.foldl (fun (s : State) l => s.set PHO_LINK.CAL_WAVELENGTH 0xF l.val) s).get PHO_LINK.CAL_WAVELENGTH l =
      if ls.contains l then 15 else s.get PHO_LINK.CAL_WAVELENGTH l := by
  have hother : ∀ (t : State) (k : Fin 32), k ≠ l →
      (t.set PHO_LINK.CAL_WAVELENGTH 0xF k.val).get PHO_LINK.CAL_WAVELENGTH l = t.get PHO_LINK.CAL_WAVELENGTH l := fun t k hk =>
    get_set_far _ _ _ _ (linkReg_ne (by decide) fun he => hk (Fin.ext he))
  split
  · next h =>
    exact foldl_writes (f := fun (s : State) (l : Fin 32) => s.set PHO_LINK.CAL_WAVELENGTH 0xF l.val)
      (read := fun t : State => t.get PHO_LINK.CAL_WAVELENGTH l) (P := fun _ => True) (fun _ _ _ => trivial)
      (fun t _ => get_set_fits _ _ _ _ _ (by decide)) hother trivial (.inl (List.contains_iff_mem.mp h))
  · next h =>
    exact foldl_keeps (f := fun (s : State) (l : Fin 32) => s.set PHO_LINK.CAL_WAVELENGTH 0xF l.val)
      (read := fun t : State => t.get PHO_LINK.CAL_WAVELENGTH l)
      fun t k hk => hother t k fun he => h (List.contains_iff_mem.mpr (he ▸ hk))

/-- The state whose links carry the fibres of the map `m`. -/
def State.fibresTo (s : State) (m : Nat) (ls : List (Fin 32)) : State :=
  ls.foldl (fun (s : State) l => s.set PHO_LINK.FIBRE (s.steerFibre m l.val) l.val) s

/-- The registers of the optical links. -/
def phoLinkRegs : List Nat := (List.range 32).map (fun l => PHO_LINK.addr l 0)

theorem mem_phoLinkRegs (l : Fin 32) : PHO_LINK.addr l 0 ∈ phoLinkRegs := List.mem_map.mpr ⟨l, List.mem_range.mpr l.isLt, rfl⟩

theorem fibresTo_otherRegs (s : State) (m : Nat) (ls : List (Fin 32)) : OtherRegs phoLinkRegs s (s.fibresTo m ls) := by
  unfold State.fibresTo
  induction ls generalizing s with
  | nil => exact .refl
  | cons l ls ih => exact (OtherRegs.set s PHO_LINK.FIBRE _ (mem_phoLinkRegs l)).trans (ih _)

theorem steerFibre_lt (s : State) (m l : Nat) : s.steerFibre m l < 2 ^ 5 := Nat.mod_lt _ (Nat.two_pow_pos 5)

theorem steerFibre_set (s : State) (v m : Nat) (k l : Fin 32) (hm : m < 2) :
    (s.set PHO_LINK.FIBRE v k.val).steerFibre m l.val = s.steerFibre m l.val := by
  refine get_set_far _ PHO_LINK.FIBRE _ _ ?_
  simp only [PHO_LINK.FIBRE, PHO_LINK, PHO_STEER, Reg.addr]
  omega

theorem fibresTo_fibre (s : State) {m : Nat} (hm : m < 2) {ls : List (Fin 32)} {l : Fin 32} (h : l ∈ ls) :
    (s.fibresTo m ls).get PHO_LINK.FIBRE l = s.steerFibre m l :=
  foldl_writes (f := fun (s : State) (l : Fin 32) => s.set PHO_LINK.FIBRE (s.steerFibre m l.val) l.val)
    (read := fun t : State => t.get PHO_LINK.FIBRE l) (P := fun t => t.steerFibre m l = s.steerFibre m l)
    (fun t k ht => (steerFibre_set t _ m k l hm).trans ht)
    (fun t ht => (get_set_mod _ PHO_LINK.FIBRE _ _ _ (by decide)).trans ((Nat.mod_eq_of_lt (steerFibre_lt t m l)).trans ht))
    (fun t k hk => get_set_far _ PHO_LINK.FIBRE _ _ (linkReg_ne (by decide) fun he => hk (Fin.ext he))) rfl (.inl h)

/-- Links resumed one after the other. -/
def State.resumed (s : State) (ls : List (Fin 32)) : State := ls.foldl (fun s l => s.resumeLink l.val) s

theorem resumed_otherRegs (s : State) (ls : List (Fin 32)) : OtherRegs (TIME_TXQ_STATUS.addr 0 0 :: linkStatusRegs) s (s.resumed ls) := by
  unfold State.resumed
  induction ls generalizing s with
  | nil => exact .refl
  | cons l ls ih =>
    refine OtherRegs.trans ?_ (ih _)
    unfold State.resumeLink
    have hquiet := OtherRegs.set s FAB_LINK_STATUS.QUIET 0 (List.mem_cons_of_mem (TIME_TXQ_STATUS.addr 0 0) (mem_linkStatusRegs l))
    exact .andSet (hquiet.trans (.of_csr rfl)) List.mem_cons_self

theorem resumed_goes (s : State) (ls : List (Fin 32)) : Goes [.csr, .time] s (s.resumed ls) :=
  .foldl .refl fun _ _ h => .step h resumeLink_goes (by decide)

theorem resumeLink_quiet (s : State) (k : Fin 32) (l : Fin 32) : (s.resumeLink k).get FAB_LINK_STATUS.QUIET l =
    if k = l then 0 else s.get FAB_LINK_STATUS.QUIET l := by
  unfold State.resumeLink
  extract_lets s1 x s2
  rw [get_fin_set _ TIME_TXQ_STATUS.SUSPECT_LINKS FAB_LINK_STATUS.QUIET _ l 0 0 0 (by decide)]
  show s1.get _ _ = _
  split
  · next h => exact h ▸ get_set_fits _ _ _ _ _ (by decide)
  · next h => exact get_set_far _ _ _ _ (linkReg_ne (by decide) fun he => h (Fin.ext he))

theorem resumed_quiet (s : State) {ls : List (Fin 32)} {l : Fin 32} (h : l ∈ ls) :
    (s.resumed ls).get FAB_LINK_STATUS.QUIET l = 0 :=
  foldl_writes (f := fun (s : State) (l : Fin 32) => s.resumeLink l.val)
    (read := fun t : State => t.get FAB_LINK_STATUS.QUIET l) (P := fun _ => True) (fun _ _ _ => trivial)
    (fun t _ => (resumeLink_quiet t l l).trans (if_pos rfl)) (fun t k hk => (resumeLink_quiet t k l).trans (if_neg hk)) trivial (.inl h)

theorem resumed_suspect (s : State) {ls : List (Fin 32)} {l : Fin 32} (h : l ∈ ls) : lookupD (s.resumed ls).time.suspect l.val 0 = 8 :=
  foldl_writes (f := fun (s : State) (l : Fin 32) => s.resumeLink l.val)
    (read := fun t : State => lookupD t.time.suspect l.val 0) (P := fun _ => True) (fun _ _ _ => trivial)
    (fun t _ => (lookupD_assocPut_eq _ _ _ _ _).trans (if_pos rfl))
    (fun t k hk => (lookupD_assocPut_eq _ _ _ _ _).trans (if_neg fun he => hk (Fin.ext he))) trivial (.inl h)

/-- The report of the links that stay quiet at the gap's end. -/
def State.lateReport (s : State) (late : List (Fin 32)) : State :=
  if late.isEmpty then s else (s.phoLog 0x070D (late.headD 0).val 0 0 0).raise PHO_INT_STATUS.STEER_LATE

/-- The state at the end of a gap, before its reports. -/
def State.gapEnded (s : State) (locked : BitVec 32) : State :=
  let u := ((s.set PHO_STEER_CTRL.ACTIVE (1 - s.get PHO_STEER_CTRL.ACTIVE)).set PHO_STEER_CTRL.ARM 0).set PHO_STATUS.STEERING 0
  let u := (u.fibresTo (1 - s.get PHO_STEER_CTRL.ACTIVE) s.pho.affected).resumed
    (s.pho.affected.filter (fun l => locked.toNat.testBit l.val))
  { u with pho := { u.pho with affected := [], late := s.pho.affected.filter (fun l => !locked.toNat.testBit l.val) } }

theorem execResteerComplete_steering {s : State} (locked : BitVec 32) (h : s.on PHO_STATUS.STEERING = true) :
    exec (.resteerComplete locked []) s = .next ((((s.gapEnded locked).report 0x070C).raise PHO_INT_STATUS.STEER_DONE).lateReport
      (s.pho.affected.filter (fun l => !locked.toNat.testBit l.val))) := by
  show execResteerComplete locked [] s = _
  unfold execResteerComplete
  rw [if_pos h]
  rfl

/-- The registers that the reports of the optical links write. -/
def phoReportRegs : List Nat := [PHO_ERR_LOG.addr 0 0, PHO_INT_STATUS.addr 0 0]

theorem lateReport_otherRegs (s : State) (late : List (Fin 32)) : OtherRegs phoReportRegs s (s.lateReport late) := by
  unfold State.lateReport
  split
  · exact .refl
  · exact .andRaise ((phoLog_otherRegs s _ _ _ _ _).mono (by decide)) (by decide)

theorem lateReport_goes (s : State) (late : List (Fin 32)) : Goes [.csr, .out, .intc] s (s.lateReport late) :=
  .ite .refl (.step (.step .refl phoLog_goes (by decide)) raise_goes (by decide))

theorem fibresTo_goes {s : State} {m : Nat} {ls : List (Fin 32)} : Goes [.csr] s (s.fibresTo m ls) :=
  .foldl .refl fun _ _ h => .step h set_goes (by decide)

theorem gapEnded_goes (s : State) (locked : BitVec 32) : Goes [.csr, .time, .pho] s (s.gapEnded locked) := by
  unfold State.gapEnded
  extract_lets u1 u2
  have h1 : Goes [.csr, .time, .pho] s u1 :=
    .step (.step (.step .refl set_goes (by decide)) set_goes (by decide)) set_goes (by decide)
  have h2 : Goes [.csr, .time, .pho] s u2 := .step (.step h1 fibresTo_goes (by decide)) (resumed_goes _ _) (by decide)
  exact .pho h2 (by decide)

section
variable {s : State} (locked : BitVec 32)

/-- A field that neither a fibre nor a resumed link writes is left by the gap's end as its three commands leave it. -/
theorem gapEnded_get {f : Field} (hl : f.reg.addr 0 0 ∉ phoLinkRegs) (hq : f.reg.addr 0 0 ∉ TIME_TXQ_STATUS.addr 0 0 :: linkStatusRegs) :
    (s.gapEnded locked).get f = (((s.set PHO_STEER_CTRL.ACTIVE (1 - s.get PHO_STEER_CTRL.ACTIVE)).set PHO_STEER_CTRL.ARM 0).set
      PHO_STATUS.STEERING 0).get f :=
  ((resumed_otherRegs _ _).get hq).trans ((fibresTo_otherRegs _ _ _).get hl)

theorem gapEnded_fibre {l : Fin 32} (h : l ∈ s.pho.affected) :
    (s.gapEnded locked).get PHO_LINK.FIBRE l = s.steerFibre (1 - s.get PHO_STEER_CTRL.ACTIVE) l := by
  have hne : PHO_LINK.addr l 0 ∉ TIME_TXQ_STATUS.addr 0 0 :: linkStatusRegs := fun hm => by
    simp only [linkStatusRegs, List.mem_cons, List.mem_map, List.mem_range, Reg.addr, PHO_LINK, TIME_TXQ_STATUS, FAB_LINK_STATUS] at hm
    obtain he | ⟨k, hk, he⟩ := hm <;> omega
  have hm : 1 - s.get PHO_STEER_CTRL.ACTIVE < 2 := by omega
  refine ((resumed_otherRegs _ _).get (f := PHO_LINK.FIBRE) hne).trans ((fibresTo_fibre _ hm h).trans ?_)
  have hfar : OtherRegs [PHO_STEER_CTRL.addr 0 0, PHO_STATUS.addr 0 0] s (((s.set PHO_STEER_CTRL.ACTIVE
      (1 - s.get PHO_STEER_CTRL.ACTIVE)).set PHO_STEER_CTRL.ARM 0).set PHO_STATUS.STEERING 0) :=
    .andSet (.andSet (.andSet .refl (by decide)) (by decide)) (by decide)
  refine hfar.get ?_
  intro hm
  simp only [List.mem_cons, List.not_mem_nil, or_false, Reg.addr, PHO_STEER, PHO_STEER_CTRL, PHO_STATUS] at hm
  omega

end

theorem resteerComplete_effect (s : State) (locked : BitVec 32) (h : s.on PHO_STATUS.STEERING = true) :
    Does (.resteerComplete locked []) s [.csr, .mem, .poison, .out, .intc, .fab, .time, .pho] (fun t =>
      t.get PHO_STEER_CTRL.ACTIVE = 1 - s.get PHO_STEER_CTRL.ACTIVE ∧ t.get PHO_STEER_CTRL.ARM = 0 ∧ t.on PHO_STATUS.STEERING = false ∧
      t.pho.affected = [] ∧ t.pho.late = s.pho.affected.filter (fun l => !locked.toNat.testBit l.val) ∧
      t.on PHO_INT_STATUS.STEER_DONE = true ∧ Sent s t (.report 0x070C) ∧
      (∀ l : Fin 32, s.pho.affected.contains l = true → t.get PHO_LINK.FIBRE l = s.steerFibre (1 - s.get PHO_STEER_CTRL.ACTIVE) l) ∧
      (∀ l : Fin 32, s.pho.affected.contains l = true → locked.toNat.testBit l = true → t.on FAB_LINK_STATUS.QUIET l = false ∧
        lookupD t.time.suspect l.val 0 = 8) ∧
      (∀ l ∈ s.pho.affected, locked.toNat.testBit l.val = false → t.on PHO_INT_STATUS.STEER_LATE = true ∧
        t.get PHO_ERR_LOG.REASON = 0x070D)) := by
  generalize hlate : s.pho.affected.filter (fun l => !locked.toNat.testBit l.val) = late
  have hexec := execResteerComplete_steering locked h
  rw [hlate] at hexec
  generalize hu : ((s.gapEnded locked).report 0x070C).raise PHO_INT_STATUS.STEER_DONE = u at hexec
  have hgu : Goes [.csr, .out, .intc] (s.gapEnded locked) u := hu ▸ .step (.step .refl report_goes (by decide)) raise_goes (by decide)
  have hreports : OtherRegs phoReportRegs (s.gapEnded locked) (u.lateReport late) := by
    have hr : OtherRegs phoReportRegs (s.gapEnded locked) (((s.gapEnded locked).report 0x070C).raise PHO_INT_STATUS.STEER_DONE) :=
      .andRaise (.andReport .refl) (by decide)
    exact (hu ▸ hr).trans (lateReport_otherRegs u late)
  have hgoes : Goes [.csr, .out, .intc] (s.gapEnded locked) (u.lateReport late) := .step hgu (lateReport_goes u late) (by decide)
  have hlink : ∀ (r : Reg) (l : Fin 32), r = PHO_LINK ∨ r = FAB_LINK_STATUS → r.addr l 0 ∉ phoReportRegs := fun r l hr hm => by
    simp only [phoReportRegs, List.mem_cons, List.not_mem_nil, or_false] at hm
    obtain rfl | rfl := hr <;> simp only [Reg.addr, PHO_LINK, FAB_LINK_STATUS, PHO_ERR_LOG, PHO_INT_STATUS] at hm <;> omega
  have hctrl : ∀ f : Field, f.reg.addr 0 0 ∉ phoReportRegs → f.reg.addr 0 0 ∉ phoLinkRegs →
      f.reg.addr 0 0 ∉ TIME_TXQ_STATUS.addr 0 0 :: linkStatusRegs → (u.lateReport late).get f = (((s.set PHO_STEER_CTRL.ACTIVE
        (1 - s.get PHO_STEER_CTRL.ACTIVE)).set PHO_STEER_CTRL.ARM 0).set PHO_STATUS.STEERING 0).get f :=
    fun f h1 h2 h3 => (hreports.get h1).trans (gapEnded_get locked h2 h3)
  have hsent : Sent s u (.report 0x070C) := by
    rw [← hu]
    exact (sent_report _ (gapEnded_goes s locked).out).of_goes raise_goes
  refine Does.of_next hexec execResteerComplete_goes ⟨?_, ?_, ?_, ?_, ?_, ?_, hsent.of_goes (lateReport_goes u late), ?_, ?_, ?_⟩
  · rw [hctrl _ (by decide) (by decide) (by decide)]
    have : (1 - s.get PHO_STEER_CTRL.ACTIVE) % 2 ^ 1 = 1 - s.get PHO_STEER_CTRL.ACTIVE := by omega
    simp (disch := decide) only [get_set_far, get_set_beside, get_set_mod]
    exact this
  · rw [hctrl _ (by decide) (by decide) (by decide)]
    simp (disch := decide)
  · rw [State.on, hctrl _ (by decide) (by decide) (by decide)]
    simp (disch := decide)
  · rw [hgoes.only .pho rfl]
    rfl
  · rw [hgoes.only .pho rfl]
    exact hlate
  · have hdone : u.on PHO_INT_STATUS.STEER_DONE = true := by
      rw [← hu]
      simp (disch := decide) [State.on]
    unfold State.lateReport
    split
    · exact hdone
    · simpa (disch := decide) [State.on] using hdone
  · intro l hl
    rw [hreports.get (hlink _ l (.inl rfl))]
    exact gapEnded_fibre locked (List.contains_iff_mem.mp hl)
  · intro l hl hlock
    have hmem : l ∈ s.pho.affected.filter (fun l => locked.toNat.testBit l.val) :=
      List.mem_filter.mpr ⟨List.contains_iff_mem.mp hl, hlock⟩
    constructor
    · rw [State.on, hreports.get (hlink _ l (.inr rfl))]
      exact beq_eq_false_iff_ne.mpr (by rw [show (s.gapEnded locked).get FAB_LINK_STATUS.QUIET l = 0 from resumed_quiet _ hmem]; decide)
    · rw [hgoes.only .time rfl]
      exact resumed_suspect _ hmem
  · intro l hl hlock
    have hmem : l ∈ late := hlate ▸ List.mem_filter.mpr ⟨hl, by simpa using hlock⟩
    rw [State.lateReport, if_neg (by simpa using List.ne_nil_of_mem hmem)]
    constructor <;> simp (disch := decide) [State.on, State.phoLog]

end Sys2Proof.Machine

namespace Sys2Proof.Machine
open Csr

/-! ## Laser sources and handovers (R297 to R300) -/

theorem resteerLockTimeout_effect (s : State) (l : Fin 32) (h : s.pho.late.contains l = true) :
    Does (.resteerLockTimeout l) s [.csr, .out, .intc, .fab, .pho] (fun t =>
      t.pho.late.contains l = false ∧ t.on FAB_LINK_STATUS.QUIET l = false ∧ t.on FAB_LINK_STATUS.IN_SERVICE l = false ∧
        t.get FAB_LINK_STATUS.WIDTH l = 0) := by
  let u := { s with pho := { s.pho with late := s.pho.late.filter (· ≠ l) } }
  have hexec : exec (.resteerLockTimeout l) s = .next ((u.set FAB_LINK_STATUS.QUIET 0 l).linkWidth l 0 0) :=
    if_pos (List.contains_iff_mem.mp h)
  obtain ⟨hout, hwidth, hquiet⟩ := linkWidth_zero (u.set FAB_LINK_STATUS.QUIET 0 l) l
  refine Does.of_next hexec execResteerLockTimeout_goes ⟨?_, hquiet.trans ?_, hout, hwidth⟩
  · rw [linkWidth_goes.only .pho rfl, set_goes.only .pho rfl]
    simp [u]
  · simp (disch := decide) [State.on]

/-- The warning of a low power, given once until the power is back. -/
def State.powerNoted (s : State) (x p : Nat) (low : Bool) : State :=
  if low && !s.pho.warned.contains x then
    ({ s with pho := { s.pho with warned := s.pho.warned ++ [x] } }.phoLog 0x0705 (4 * p) 0 0 x).raise PHO_INT_STATUS.LASER_WARN
  else if !low then { s with pho := { s.pho with warned := s.pho.warned.filter (· ≠ x) } }
  else s

/-- The failure of the source at position `p`, reported and a module fault. -/
def State.sourceFault (s : State) (x p : Nat) : State :=
  ((s.phoLog 0x070A (4 * p) 0 0 x).raise PHO_INT_STATUS.LASER_FAIL).moduleFault 0x070A

/-- The failure of the source at position `p`: its four links are out of service. -/
def State.sourceFailed (s : State) (x p : Nat) : State :=
  (positionLinks (Fin.ofNat 8 p)).foldl (fun s l => s.linkWidth l.val 0 0) (s.sourceFault x p)

theorem powerNoted_otherRegs (s : State) (x p : Nat) (low : Bool) : OtherRegs phoReportRegs s (s.powerNoted x p low) := by
  unfold State.powerNoted
  split
  · have hlog := OtherRegs.of_csr (l := phoReportRegs) (s := s)
      (t := { s with pho := { s.pho with warned := s.pho.warned ++ [x] } }) rfl
    exact .andRaise (hlog.trans ((phoLog_otherRegs _ _ _ _ _ _).mono (by decide))) (by decide)
  · split
    · exact .of_csr rfl
    · exact .refl

/-- A check of the power of a source in service. -/
theorem execLaserPowerCheck_served {s : State} {x : Fin 10} {db : BitVec 16} (light : Bool) {low : Bool} {p : Nat}
    (hs : s.get PHO_SOURCE.STATE x = 2) (hp : s.get PHO_SOURCE.POSITION x = p ∧ p ≤ 7)
    (hlow : decide (db.toInt ≤ toSigned 16 (s.get PHO_LASER_CFG.WARN_DB)) = low) :
    exec (.laserPowerCheck x db light) s =
      if !light ∨ db.toInt ≤ toSigned 16 (s.get PHO_LASER_CFG.FAIL_DB) then
        .next ((((s.set PHO_SOURCE.POWER_DB db.toNat x).powerNoted x p low).sourceFailed x p).startHandover (Fin.ofNat 8 p))
      else if db.toInt ≤ toSigned 16 (s.get PHO_LASER_CFG.HANDOVER_DB) && s.on PHO_CTRL.AUTO_HANDOVER then
        .next (((s.set PHO_SOURCE.POWER_DB db.toNat x).powerNoted x p low).startHandover (Fin.ofNat 8 p))
      else .next ((s.set PHO_SOURCE.POWER_DB db.toNat x).powerNoted x p low) := by
  show execLaserPowerCheck x db light s = _
  obtain ⟨rfl, hp⟩ := hp
  have hstate : (s.set PHO_SOURCE.POWER_DB db.toNat x).get PHO_SOURCE.STATE x = 2 := (get_set_beside _ _ _ _ _ _ (by decide)).trans hs
  have hpos : (s.set PHO_SOURCE.POWER_DB db.toNat x).get PHO_SOURCE.POSITION x = s.get PHO_SOURCE.POSITION x :=
    get_set_beside _ _ _ _ _ _ (by decide)
  have hcfg : ∀ f : Field, f.reg = PHO_LASER_CFG → (s.set PHO_SOURCE.POWER_DB db.toNat x).get f = s.get f := fun f hf =>
    get_set_far _ PHO_SOURCE.POWER_DB _ _ (by rw [hf]; exact Reg.addr_ne_of_apartFor (n := 10) (n' := 1) (by decide) x.isLt (by decide))
  have hauto : ∀ low p, ((s.set PHO_SOURCE.POWER_DB db.toNat x).powerNoted x p low).on PHO_CTRL.AUTO_HANDOVER =
      s.on PHO_CTRL.AUTO_HANDOVER := fun low p => by
    rw [State.on, (powerNoted_otherRegs _ _ _ _).get (by decide), State.on,
      get_set_far _ _ _ _ (Reg.addr_ne_of_apartFor (n := 10) (n' := 1) (by decide) x.isLt (by decide))]
  unfold execLaserPowerCheck
  extract_lets x' u th q low' src u' f1 f2
  have hlow' : low' = low := by rw [← hlow, ← hcfg _ rfl]
  have hq : q = s.get PHO_SOURCE.POSITION x := hpos
  have hu' : u' = u.powerNoted x q low' := rfl
  have hf2 : f2 = u'.sourceFailed x q := rfl
  rw [hf2, if_neg (by rw [not_or, not_not, not_lt]; exact ⟨hstate, hq.trans_le hp⟩), hu', hlow', hq]
  rw [← hcfg _ rfl, ← hcfg PHO_LASER_CFG.HANDOVER_DB rfl, ← hauto low (s.get PHO_SOURCE.POSITION x)]

theorem powerNoted_high (s : State) (x p : Nat) :
    s.powerNoted x p false = { s with pho := { s.pho with warned := s.pho.warned.filter (· ≠ x) } } := rfl

/-- A low power: the source is among those warned of, and no other part of the optics' state moves. -/
theorem powerNoted_low (s : State) (x p : Nat) : ∃ ws, x ∈ ws ∧ (s.powerNoted x p true).pho = { s.pho with warned := ws } := by
  unfold State.powerNoted
  cases h : s.pho.warned.contains x
  · refine ⟨s.pho.warned ++ [x], by simp, ?_⟩
    rw [if_pos (by simp), raise_goes.only .pho rfl, phoLog_goes.only .pho rfl]
  · exact ⟨s.pho.warned, List.contains_iff_mem.mp h, by simp⟩

theorem powerNoted_goes {s : State} {x p : Nat} {low : Bool} : Goes [.csr, .out, .intc, .pho] s (s.powerNoted x p low) :=
  .ite (.step (.step (.pho .refl (by decide)) phoLog_goes (by decide)) raise_goes (by decide)) (.ite (.pho .refl (by decide)) .refl)

/-- A free spare source is one of the last two. -/
theorem freeSpare_of {s : State} {sp : Fin 10} (h : (bitsOf (s.get PHO_CAP.SPARES_FREE) 2).head? = some (sp.val - 8)) (h8 : 8 ≤ sp.val) :
    s.freeSpare = some sp := by
  rw [State.freeSpare, h, Option.map_some, Nat.sub_add_cancel h8]
  exact congrArg some (Fin.ext (Nat.mod_eq_of_lt sp.isLt))

theorem startHandover_of {s : State} {p : Fin 8} {sp : Fin 10} (hhand : s.pho.hand = none) (hstop : s.pho.stopped.contains 32 = false)
    (hs : s.freeSpare = some sp) : s.startHandover p = s.handingOver p sp (if s.pho.warm.contains sp.val then 2 else 1) := by
  have hno : ¬ (s.pho.hand.isSome ∨ 32 ∈ s.pho.stopped) := by simp_all
  rw [State.startHandover, if_neg hno, hs]
  rfl

theorem phoLog_reason (s : State) (a b c d e : Nat) : (s.phoLog a b c d e).get PHO_ERR_LOG.REASON = a % 2 ^ 16 := by
  unfold State.phoLog
  rw [show ∀ t : State, (t.report a).get PHO_ERR_LOG.REASON = t.get PHO_ERR_LOG.REASON from fun _ => rfl,
    get_set_beside _ _ _ _ _ _ (by decide), get_set_beside _ _ _ _ _ _ (by decide), get_set_beside _ _ _ _ _ _ (by decide),
    get_set_beside _ _ _ _ _ _ (by decide), get_set_beside _ _ _ _ _ _ (by decide), get_set_mod _ _ _ _ _ (by decide)]
  rfl

/-- What a handover that begins shows. -/
theorem handingOver_shows (s : State) (p : Fin 8) (sp : Fin 10) (n : Nat) :
    (s.handingOver p sp n).on PHO_STATUS.HANDOVER = true ∧ (s.handingOver p sp n).get PHO_SOURCE.STATE sp = 1 ∧
    (s.handingOver p sp n).get PHO_CAP.SPARES_FREE = setBit (s.get PHO_CAP.SPARES_FREE) (sp.val - 8) false % 4 ∧
    (s.handingOver p sp n).get PHO_ERR_LOG.REASON = 0x0706 ∧ (s.handingOver p sp n).on PHO_INT_STATUS.HANDOVER = true := by
  have hw : PHO_CAP.SPARES_FREE.w = 2 := rfl
  unfold State.handingOver
  refine ⟨?_, ?_, ?_, ?_, ?_⟩
  · simp (disch := decide) [State.on]
  · rw [raise_get, get_fin_set _ _ _ _ _ _ _ _ (by decide),
      phoLog_get _ _ _ _ _ _ _ _ _ (Reg.addr_ne_of_apartFor (n := 1) (n' := 10) (by decide) (by decide) sp.isLt),
      get_fin_set _ _ _ _ _ _ _ _ (by decide), get_fin_set _ _ _ _ _ _ _ _ (by decide)]
    exact get_set_fits _ _ _ _ _ (by decide)
  · simp (disch := decide) [hw]
  · rw [raise_get, get_set_far _ _ _ _ (by decide), phoLog_reason]
    rfl
  · simp (disch := decide) [State.on]

/-- A bit cleared by `setBit` reads 0. -/
theorem testBit_setBit_false (m i : Nat) : (setBit m i false).testBit i = false := by
  unfold setBit
  cases h : m.testBit i
  · simpa using h
  · simp only [Bool.false_eq_true, if_false, if_true]
    have hle : 2 ^ i * 1 ≤ m := by simpa using Nat.ge_two_pow_of_testBit h
    have hodd : m / 2 ^ i % 2 = 1 := by simpa [Nat.testBit_eq_decide_div_mod_eq] using h
    have hdiv := Nat.sub_mul_div m (2 ^ i) 1
    rw [Nat.mul_one] at hdiv
    rw [Nat.testBit_eq_decide_div_mod_eq, Nat.one_shiftLeft, hdiv]
    exact decide_eq_false (by omega)

theorem laserHandover_effect (s : State) (x : Fin 10) (db : BitVec 16) (sp : Fin 10)
    (hs : s.get PHO_SOURCE.STATE x = 2 ∧ s.get PHO_SOURCE.POSITION x ≤ 7 ∧ db.toInt ≤ toSigned 16 (s.get PHO_LASER_CFG.HANDOVER_DB) ∧
      db.toInt ≤ toSigned 16 (s.get PHO_LASER_CFG.WARN_DB) ∧ toSigned 16 (s.get PHO_LASER_CFG.FAIL_DB) < db.toInt)
    (hauto : s.on PHO_CTRL.AUTO_HANDOVER = true ∧ s.pho.hand = none ∧ s.pho.stopped.contains 32 = false ∧
      s.pho.warm.contains sp.val = false)
    (hsp : (bitsOf (s.get PHO_CAP.SPARES_FREE) 2).head? = some (sp.val - 8) ∧ 8 ≤ sp.val) :
    Does (.laserPowerCheck x db true) s [.csr, .out, .intc, .pho] (fun t =>
      t.pho.hand.map (·.position.val) = some (s.get PHO_SOURCE.POSITION x) ∧ t.pho.hand.map (·.spare) = some sp ∧
      t.get PHO_HANDOVER.STATE = 1 ∧ t.on PHO_STATUS.HANDOVER = true ∧ t.get PHO_SOURCE.STATE sp = 1 ∧
      (t.get PHO_CAP.SPARES_FREE).testBit (sp.val - 8) = false ∧ t.get PHO_ERR_LOG.REASON = 0x0706 ∧
      t.on PHO_INT_STATUS.HANDOVER = true ∧ t.pho.warned.contains x.val = true) := by
  obtain ⟨hstate, hpos, hle, hwarn, hfail⟩ := hs
  obtain ⟨hon, hhand, hstop, hwarm⟩ := hauto
  have hexec := execLaserPowerCheck_served (db := db) true hstate ⟨rfl, hpos⟩ (decide_eq_true hwarn)
  rw [if_neg (by simpa using hfail), if_pos (by simpa [hon] using hle)] at hexec
  generalize hu : (s.set PHO_SOURCE.POWER_DB db.toNat x).powerNoted x (s.get PHO_SOURCE.POSITION x) true = u at hexec
  obtain ⟨ws, hx, hpho⟩ := powerNoted_low (s.set PHO_SOURCE.POWER_DB db.toNat x) x (s.get PHO_SOURCE.POSITION x)
  rw [hu] at hpho
  have hspares : u.get PHO_CAP.SPARES_FREE = s.get PHO_CAP.SPARES_FREE := by
    rw [← hu, (powerNoted_otherRegs _ _ _ _).get (by decide),
      get_set_far _ _ _ _ (Reg.addr_ne_of_apartFor (n := 10) (n' := 1) (by decide) x.isLt (by decide))]
  have hstart := startHandover_of (s := u) (p := Fin.ofNat 8 (s.get PHO_SOURCE.POSITION x)) (sp := sp) (by rw [hpho]; exact hhand)
    (by rw [hpho]; exact hstop) (freeSpare_of (by rw [hspares]; exact hsp.1) hsp.2)
  have hw1 : u.pho.warm.contains sp.val = false := by rw [hpho]; exact hwarm
  rw [hw1, if_neg Bool.false_ne_true] at hstart
  rw [hstart] at hexec
  obtain ⟨hshow, hsource, hfree, hreason, hint⟩ := handingOver_shows u (Fin.ofNat 8 (s.get PHO_SOURCE.POSITION x)) sp 1
  have hgoes : Goes [.csr, .out, .intc, .pho] s (u.handingOver (Fin.ofNat 8 (s.get PHO_SOURCE.POSITION x)) sp 1) :=
    .step (.step (.step .refl set_goes (by decide)) (hu ▸ powerNoted_goes) (by decide)) (hstart ▸ startHandover_goes) (by decide)
  refine ⟨_, hexec, hgoes.only, ?_, ?_, handingOver_state _ _ _ _ (by decide), hshow, hsource, ?_, hreason, hint, ?_⟩
  · rw [handingOver_hand]
    exact congrArg some (Nat.mod_eq_of_lt (by omega))
  · rw [handingOver_hand]
    rfl
  · rw [hfree, show (4 : Nat) = 2 ^ 2 from rfl, Nat.testBit_mod_two_pow, testBit_setBit_false, Bool.and_false]
  · rw [State.handingOver, raise_goes.only .pho rfl, phoLog_pho]
    show u.pho.warned.contains x.val = true
    rw [hpho]
    exact List.contains_iff_mem.mpr hx

/-- The registers that the start of a handover writes. -/
def handoverRegs : List Nat :=
  PHO_CAP.addr 0 0 :: PHO_HANDOVER.addr 0 0 :: PHO_STATUS.addr 0 0 :: PHO_ERR_LOG.addr 0 0 :: PHO_INT_STATUS.addr 0 0 ::
    (List.range 10).map (fun x => PHO_SOURCE.addr x 0)

theorem handingOver_otherRegs (s : State) (p : Fin 8) (sp : Fin 10) (n : Nat) : OtherRegs handoverRegs s (s.handingOver p sp n) := by
  have hsp : PHO_SOURCE.addr sp 0 ∈ handoverRegs :=
    List.mem_cons_of_mem _ (List.mem_cons_of_mem _ (List.mem_cons_of_mem _ (List.mem_cons_of_mem _ (List.mem_cons_of_mem _
      (List.mem_map.mpr ⟨sp, List.mem_range.mpr sp.isLt, rfl⟩)))))
  unfold State.handingOver
  extract_lets _ u v w
  have hu : OtherRegs handoverRegs s u := .of_csr rfl
  have hv : OtherRegs handoverRegs s v := .andSet (.andSet hu (by decide)) hsp
  have hw : OtherRegs handoverRegs s w := .andSet (.andSet hv (by decide)) (by decide)
  exact .andRaise (hw.trans ((phoLog_otherRegs _ _ _ _ _ _).mono (by decide))) (by decide)

theorem startHandover_otherRegs (s : State) (p : Fin 8) : OtherRegs handoverRegs s (s.startHandover p) := by
  unfold State.startHandover
  split
  · exact .refl
  · split
    · exact .andRaise ((phoLog_otherRegs _ _ _ _ _ _).mono (by decide)) (by decide)
    · exact handingOver_otherRegs s p _ _

/-- An interrupt status that is not the handover's own is left by it. -/
theorem startHandover_intStatus (s : State) (p : Fin 8) {f : Field} (hf : PHO_INT_STATUS.HANDOVER.beside f = true) :
    (s.startHandover p).get f = s.get f := by
  have hr : f.reg = PHO_INT_STATUS := (of_decide_eq_true hf).1
  have hfar : ∀ t : State, ∀ g : Field, g.reg.apartFor PHO_INT_STATUS 1 0 1 0 = true → ∀ v, (t.set g v).get f = t.get f := fun t g hg v =>
    get_set_far _ _ _ _ (by rw [hr]; exact Reg.addr_ne_of_apartFor hg (by decide) (by decide))
  have hlog : ∀ (t : State) a b c d e, (t.phoLog a b c d e).get f = t.get f := fun t a b c d e =>
    phoLog_get _ _ _ _ _ _ _ _ _ (by rw [hr]; decide)
  unfold State.startHandover
  split
  · rfl
  · split
    · rw [raise_get, get_set_beside _ _ _ _ _ _ hf, hlog]
    · next sp _ =>
      rw [raise_get, get_set_beside _ _ _ _ _ _ hf, hlog, hfar _ _ (by decide), hfar _ _ (by decide),
        get_set_far _ PHO_SOURCE.STATE _ _ (by rw [hr]; exact Reg.addr_ne_of_apartFor (n := 10) (n' := 1) (by decide) sp.isLt (by decide)),
        hfar _ _ (by decide)]
      rfl

theorem linkStatusRegs_notMem {a : Nat} (h : a / 0x1000 ≠ 0x601) : a ∉ linkStatusRegs := fun hm => by
  simp only [linkStatusRegs, List.mem_map, List.mem_range, Reg.addr, FAB_LINK_STATUS] at hm
  obtain ⟨k, hk, he⟩ := hm
  omega

theorem phoLog_sent {s u : State} {a b c d e : Nat} (h : s.out <+: u.out) : Sent s (u.phoLog a b c d e) (.report a) := sent_report a h

theorem sourceFault_sent {s u : State} {x p : Nat} (h : s.out <+: u.out) : Sent s (u.sourceFault x p) (.report 0x070A) :=
  (((phoLog_sent h).of_goes raise_goes)).of_goes moduleFault_goes

theorem laserFail_effect (s : State) (x : Fin 10) (db : BitVec 16) (hs : s.get PHO_SOURCE.STATE x = 2 ∧ s.get PHO_SOURCE.POSITION x ≤ 7) :
    Does (.laserPowerCheck x db false) s [.csr, .out, .intc, .fab, .pho] (fun t =>
      Sent s t (.report 0x070A) ∧ t.on PHO_INT_STATUS.LASER_FAIL = true ∧ t.on TOP_FAULT.ACTIVE = true ∧
      (∀ k : Fin 4, t.on FAB_LINK_STATUS.IN_SERVICE (4 * s.get PHO_SOURCE.POSITION x + k.val) = false)) := by
  obtain ⟨hstate, hpos⟩ := hs
  have hexec := execLaserPowerCheck_served (db := db) false hstate ⟨rfl, hpos⟩ rfl
  rw [if_pos (by simp)] at hexec
  generalize hp : s.get PHO_SOURCE.POSITION x = p at *
  have hpp : (Fin.ofNat 8 p).val = p := Nat.mod_eq_of_lt (by omega)
  generalize hu : (s.set PHO_SOURCE.POWER_DB db.toNat x).powerNoted x p _ = u at hexec
  have hsu : s.out <+: u.out := hu ▸ (powerNoted_goes.out : (s.set PHO_SOURCE.POWER_DB db.toNat x).out <+: _)
  have hlinks : OtherRegs (linkStatusRegs ++ widthRegs) (u.sourceFault x p) (u.sourceFailed x p) := linksOut_regs _ _
  have hfault : Sent s (u.sourceFault x p) (.report 0x070A) := sourceFault_sent hsu
  have hnot : ∀ a : Nat, a / 0x1000 ≠ 0x601 → a ∉ widthRegs → a ∉ linkStatusRegs ++ widthRegs := fun a h1 h2 hm =>
    (List.mem_append.mp hm).elim (linkStatusRegs_notMem h1) h2
  refine Does.of_next hexec execLaserPowerCheck_goes ⟨?_, ?_, ?_, fun k => ?_⟩
  · exact (hfault.of_goes (linksOut_goes _ _)).of_goes startHandover_goes
  · rw [State.on, startHandover_intStatus _ _ (by decide), hlinks.get (hnot _ (by decide) (by decide))]
    simp (disch := decide) [State.sourceFault, State.moduleFault]
  · rw [State.on, (startHandover_otherRegs _ _).get (by decide), hlinks.get (hnot _ (by decide) (by decide))]
    simp (disch := decide) [State.sourceFault, State.moduleFault]
  · have hk : 4 * p + k.val < 32 := by omega
    have hmem : (⟨4 * p + k.val, hk⟩ : Fin 32) ∈ positionLinks (Fin.ofNat 8 p) := by
      have := mem_positionLinks (Fin.ofNat 8 p) k
      simpa only [hpp] using this
    have hne : FAB_LINK_STATUS.addr (4 * p + k.val) 0 ∉ handoverRegs := fun hm => by
      simp only [handoverRegs, List.mem_cons, List.mem_map, List.mem_range, Reg.addr, PHO_CAP, PHO_HANDOVER, PHO_STATUS, PHO_ERR_LOG,
        PHO_INT_STATUS, PHO_SOURCE, FAB_LINK_STATUS] at hm
      omega
    have hout := linksOut_inService (u.sourceFault x p) hmem
    unfold State.on at hout ⊢
    rw [(startHandover_otherRegs _ _).get hne]
    exact hout

theorem quiet_sent {s t : State} {ls : List (Fin 32)} {us : Nat} {l : Fin 32} (h : l ∈ ls) (hst : s.out <+: t.out) :
    Sent s (t.quiet ls us) (.linkField l.val 4 (40 + 1024 * us)) := by
  induction ls generalizing t with
  | nil => cases h
  | cons k ls ih =>
    have hrest : Goes [.csr, .out] ((t.set FAB_LINK_STATUS.QUIET 1 k.val).emit (.linkField k.val 4 (40 + 1024 * us))) (t.quiet (k :: ls) us) :=
      quiet_goes
    rcases List.mem_cons.mp h with rfl | h
    · exact (sent_emit (t := t.set FAB_LINK_STATUS.QUIET 1 l.val) _ hst).of_goes hrest
    · exact ih h (hst.trans (List.prefix_append _ _))

theorem positionLinks_quiet (s : State) (p : Fin 8) (k : Fin 4) :
    (s.quiet (positionLinks p) 20).on FAB_LINK_STATUS.QUIET (4 * p.val + k.val) = true ∧
      Sent s (s.quiet (positionLinks p) 20) (.linkField (4 * p.val + k.val) 4 (40 + 1024 * 20)) := by
  generalize hl : (⟨4 * p.val + k.val, by omega⟩ : Fin 32) = l
  have hmem : l ∈ positionLinks p := hl ▸ mem_positionLinks p k
  have hval : 4 * p.val + k.val = l.val := congrArg Fin.val hl
  rw [hval]
  exact ⟨quiet_on _ _ s l (.inl hmem), quiet_sent hmem (List.prefix_refl _)⟩

/-- The links of a position that carry traffic again. -/
def State.unquieted (s : State) (p : Fin 8) : State :=
  (positionLinks p).foldl (fun (s : State) l => s.set FAB_LINK_STATUS.QUIET 0 l.val) s

theorem unquieted_quiet (s : State) (p : Fin 8) (k : Fin 4) : (s.unquieted p).get FAB_LINK_STATUS.QUIET (4 * p.val + k.val) = 0 := by
  generalize hl : (⟨4 * p.val + k.val, by omega⟩ : Fin 32) = l
  have hmem : l ∈ positionLinks p := hl ▸ mem_positionLinks p k
  have hval : 4 * p.val + k.val = l.val := congrArg Fin.val hl
  rw [hval]
  exact foldl_writes (f := fun (s : State) (l : Fin 32) => s.set FAB_LINK_STATUS.QUIET 0 l.val)
    (read := fun t : State => t.get FAB_LINK_STATUS.QUIET l) (P := fun _ => True)
    (fun _ _ _ => trivial) (fun t _ => get_set_fits _ _ _ _ _ (by decide))
    (fun t i hi => get_set_far _ _ _ _ (linkReg_ne (by decide) fun he => hi (Fin.ext he))) trivial (.inl hmem)

/-- The end of a handover: no handover stands, and its outcome is reported. -/
def State.handoverOver (s : State) : State :=
  (State.set { s with pho := { s.pho with hand := none } } PHO_HANDOVER.STATE 0).set PHO_STATUS.HANDOVER 0

/-- The report of a handover's outcome. -/
def State.handoverReport (s : State) (reason link source : Nat) : State :=
  (s.phoLog reason link 0 0 source).raise PHO_INT_STATUS.HANDOVER

theorem handoverReport_otherRegs (s : State) (n l x : Nat) : OtherRegs phoReportRegs s (s.handoverReport n l x) :=
  .andRaise ((phoLog_otherRegs s _ _ _ _ _).mono (by decide)) (by decide)

theorem handoverReport_shows (s : State) (n l x : Nat) : (s.handoverReport n l x).get PHO_ERR_LOG.REASON = n % 2 ^ 16 ∧
    (s.handoverReport n l x).on PHO_INT_STATUS.HANDOVER = true ∧ (s.handoverReport n l x).pho = s.pho := by
  unfold State.handoverReport
  refine ⟨?_, ?_, ?_⟩
  · rw [raise_get, get_set_far _ _ _ _ (by decide), phoLog_reason]
  · simp (disch := decide) [State.on]
  · rw [raise_goes.only .pho rfl, phoLog_pho]

theorem phoReportRegs_notMem {a : Nat} (h : a / 0x100000 ≠ 7 ∨ a / 0x100 ≠ 0x7000) : a ∉ phoReportRegs := fun hm => by
  simp only [phoReportRegs, List.mem_cons, List.not_mem_nil, or_false, Reg.addr, PHO_ERR_LOG, PHO_INT_STATUS] at hm
  omega

theorem handoverSwitched_effect (s : State) (h : Handover) (hs : s.pho.hand = some h ∧ s.get PHO_HANDOVER.STATE = 4) :
    Does (.handoverSwitched) s [.csr, .out, .intc, .pho] (fun t =>
      t.pho.hand = none ∧ t.get PHO_HANDOVER.STATE = 0 ∧ t.on PHO_STATUS.HANDOVER = false ∧ t.get PHO_ERR_LOG.REASON = 0x0707 ∧
      (∀ k : Fin 4, t.on FAB_LINK_STATUS.QUIET (4 * h.position.val + k.val) = false) ∧ t.on PHO_INT_STATUS.HANDOVER = true) := by
  obtain ⟨hhand, hstate⟩ := hs
  have hexec : exec .handoverSwitched s =
      .next ((s.unquieted h.position).handoverOver.handoverReport 0x0707 (4 * h.position.val) h.spare.val) := by
    show execHandoverSwitched s = _
    unfold execHandoverSwitched
    rw [hhand]
    dsimp only
    rw [if_neg (by simpa using hstate)]
    rfl
  generalize hv : (s.unquieted h.position).handoverOver = v at hexec
  obtain ⟨hreason, hint, hpho⟩ := handoverReport_shows v 0x0707 (4 * h.position.val) h.spare.val
  have hlog := handoverReport_otherRegs v 0x0707 (4 * h.position.val) h.spare.val
  refine Does.of_next hexec execHandoverSwitched_goes ⟨?_, ?_, ?_, hreason, fun k => ?_, hint⟩
  · rw [hpho, ← hv]
    rfl
  · rw [hlog.get (by decide), ← hv]
    simp (disch := decide) [State.handoverOver]
  · rw [State.on, hlog.get (by decide), ← hv]
    simp (disch := decide) [State.handoverOver]
  · have hp := h.position.isLt
    have haddr : FAB_LINK_STATUS.addr (4 * h.position.val + k.val) 0 / 0x100000 = 6 := by
      simp only [Reg.addr, FAB_LINK_STATUS]
      omega
    have hfar : ∀ a, a / 0x100000 = 7 → a ≠ FAB_LINK_STATUS.addr (4 * h.position.val + k.val) 0 := fun a ha he => by
      rw [he, haddr] at ha
      cases ha
    have hq : v.get FAB_LINK_STATUS.QUIET (4 * h.position.val + k.val) = 0 := by
      rw [← hv, State.handoverOver, get_set_far _ _ _ _ (hfar _ (by decide)), get_set_far _ _ _ _ (hfar _ (by decide)), get_update]
      exact unquieted_quiet s h.position k
    rw [State.on, hlog.get (phoReportRegs_notMem (.inl (by rw [show FAB_LINK_STATUS.QUIET.reg = FAB_LINK_STATUS from rfl, haddr]; decide))), hq]
    rfl

theorem handoverTimeLimit_effect (s : State) (h : Handover)
    (hs : s.pho.hand = some h ∧ (s.get PHO_HANDOVER.STATE = 1 ∨ s.get PHO_HANDOVER.STATE = 2) ∧ s.get PHO_CAP.SPARES_FREE = 0) :
    Does (.handoverTimeLimit) s [.csr, .out, .intc, .pho] (fun t =>
      t.pho.hand = none ∧ t.get PHO_HANDOVER.STATE = 0 ∧ t.on PHO_STATUS.HANDOVER = false ∧ t.get PHO_SOURCE.STATE h.spare = 3 ∧
      t.get PHO_ERR_LOG.REASON = 0x0708 ∧ t.on PHO_INT_STATUS.HANDOVER = true) := by
  obtain ⟨hhand, hstate, hfree⟩ := hs
  generalize ht : (s.handoverOver.set PHO_SOURCE.STATE 3 h.spare.val).handoverReport 0x0708 (4 * h.position.val) h.spare.val = t
  have hlog : ∀ {f : Field} {i : Nat}, f.reg.addr i 0 ∉ phoReportRegs →
      t.get f i = (s.handoverOver.set PHO_SOURCE.STATE 3 h.spare.val).get f i := fun hf => ht ▸ (handoverReport_otherRegs _ _ _ _).get hf
  obtain ⟨hreason, hint, hpho⟩ := ht ▸ handoverReport_shows (s.handoverOver.set PHO_SOURCE.STATE 3 h.spare.val) 0x0708
    (4 * h.position.val) h.spare.val
  have hsp : ∀ r : Reg, r.apartFor PHO_SOURCE 1 0 10 0 = true → PHO_SOURCE.addr h.spare 0 ≠ r.addr 0 0 := fun r hr =>
    (Reg.addr_ne_of_apartFor hr (by decide) h.spare.isLt).symm
  have hnone : t.freeSpare = none := by
    have : t.get PHO_CAP.SPARES_FREE = 0 := by
      rw [hlog (by decide), get_set_far _ PHO_SOURCE.STATE _ _ (hsp _ (by decide)), State.handoverOver,
        get_set_far _ _ _ _ (by decide), get_set_far _ _ _ _ (by decide)]
      exact hfree
    rw [State.freeSpare, this]
    rfl
  have hexec : exec .handoverTimeLimit s = .next t := by
    show execHandoverTimeLimit s = _
    unfold execHandoverTimeLimit
    rw [hhand]
    dsimp only
    rw [if_neg (by omega)]
    have hsome : ¬ t.freeSpare.isSome = true := by rw [hnone]; decide
    subst ht
    exact congrArg Host.Outcome.next (if_neg hsome)
  refine Does.of_next hexec execHandoverTimeLimit_goes ⟨?_, ?_, ?_, ?_, hreason, hint⟩
  · rw [hpho]
    rfl
  · rw [hlog (by decide), get_set_far _ PHO_SOURCE.STATE _ _ (hsp _ (by decide))]
    simp (disch := decide) [State.handoverOver]
  · rw [State.on, hlog (by decide), get_set_far _ PHO_SOURCE.STATE _ _ (hsp _ (by decide))]
    simp (disch := decide) [State.handoverOver]
  · have haddr : PHO_SOURCE.addr h.spare 0 / 0x100 ≠ 0x7000 := by
      simp only [Reg.addr, PHO_SOURCE]
      omega
    exact (hlog (f := PHO_SOURCE.STATE) (phoReportRegs_notMem (.inr haddr))).trans (get_set_fits _ _ _ _ _ (by decide))

/-- Settles O34: the re-steer's gap, the source's check and each state of a handover, each by the registers it writes. -/
theorem photonicsSwitching : Obligations.PhotonicsSwitching := by
  refine ⟨?gap, resteerComplete_effect, resteerLockTimeout_effect, ?power, laserHandover_effect, laserFail_effect, ?warmed, ?spareWarm,
    ?locked, ?switch, handoverSwitched_effect, handoverTimeLimit_effect⟩
  case gap =>
    intro s h
    exact Does.of_next (if_pos h) execResteerGapStart_goes fun l => gapStart_wavelength s s.pho.affected l
  case power =>
    rintro s x db th ⟨hstate, hpos, hwarn, hfail⟩ hhigh
    have hexec := execLaserPowerCheck_served (db := db) true hstate ⟨rfl, hpos⟩ (decide_eq_false (not_le.mpr hwarn))
    rw [if_neg (by simpa using hfail), if_neg (by simp only [Bool.and_eq_true, decide_eq_true_eq, not_and]; exact fun hle => absurd hle (not_le.mpr hhigh)), powerNoted_high] at hexec
    refine ⟨_, hexec, (Goes.pho (.step .refl set_goes (by decide)) (by decide) : Goes [.csr, .pho] s _).only, ?_, rfl, rfl⟩
    exact (get_set_mod s PHO_SOURCE.POWER_DB _ _ _ (by decide)).trans (Nat.mod_eq_of_lt db.isLt)
  case warmed =>
    rintro s ⟨hhand, hstate⟩
    obtain ⟨h, hh⟩ := Option.isSome_iff_exists.mp hhand
    have hexec : exec .spareWarmed s = .next (s.set PHO_HANDOVER.STATE 2) := by
      show execSpareWarmed s = _
      simp only [execSpareWarmed, hh, hstate, if_true]
    exact ⟨_, hexec, (set_goes : Goes [.csr] s _).only, get_set_fits _ _ _ _ _ (by decide)⟩
  case spareWarm =>
    rintro s sp ⟨hhand, hwarm, hfree, h8⟩
    have hexec : exec .spareWarmed s = .next { s with pho := { s.pho with warm := [sp.val] } } := by
      show execSpareWarmed s = _
      simp only [execSpareWarmed, hhand, freeSpare_of hfree h8, hwarm, if_true]
    exact ⟨_, hexec, (Goes.pho .refl (by decide) : Goes [.pho] s _).only, rfl⟩
  case locked =>
    rintro s h ⟨hhand, hstate, hsteer⟩
    let u := State.set { s with pho := { s.pho with hand := some { h with announced := true } } } PHO_HANDOVER.STATE 3
    have hexec : exec .spareLocked s = .next (u.quiet (positionLinks h.position) 20) := by
      show execSpareLocked s = _
      simp only [execSpareLocked, hhand, hstate, hsteer, u]
      rfl
    refine Does.of_next hexec execSpareLocked_goes ⟨?_, ?_, fun k => positionLinks_quiet u h.position k⟩
    · rw [quiet_get_far _ _ _ _ (by decide)]
      exact get_set_fits _ _ _ _ _ (by decide)
    · rw [quiet_pho]
      rfl
  case switch =>
    rintro s h ⟨hhand, hstate, hne⟩
    have hexec : exec .handoverGapStart s = .next ((((((s.set PHO_SOURCE.POSITION 0xF h.old.val).set PHO_SOURCE.STATE 0 h.old.val).set
        PHO_SOURCE.POSITION h.position.val h.spare.val)).set PHO_SOURCE.STATE 2 h.spare.val).set PHO_HANDOVER.STATE 4) := by
      show execHandoverGapStart s = _
      simp only [execHandoverGapStart, hhand, hstate]
      rfl
    have hfar : PHO_SOURCE.addr h.spare 0 ≠ PHO_SOURCE.addr h.old 0 := linkReg_ne (by decide) fun he => hne (Fin.ext he).symm
    have hend : ∀ (v : State) (f : Field) (x : Fin 10), f.reg = PHO_SOURCE → (v.set PHO_HANDOVER.STATE 4).get f x = v.get f x :=
      fun v f x hf => get_set_far _ _ _ _
        (by rw [hf]; exact Reg.addr_ne_of_apartFor (n := 1) (n' := 10) (by decide) (by decide) x.isLt)
    refine Does.of_next hexec execHandoverGapStart_goes ⟨?_, ?_, ?_, ?_, get_set_fits _ _ _ _ _ (by decide)⟩
    · rw [hend _ _ _ rfl, get_set_far _ _ _ _ hfar, get_set_far _ _ _ _ hfar, get_set_beside _ _ _ _ _ _ (by decide)]
      exact get_set_fits _ _ _ _ _ (by decide)
    · rw [hend _ _ _ rfl, get_set_far _ _ _ _ hfar, get_set_far _ _ _ _ hfar]
      exact get_set_fits _ _ _ _ _ (by decide)
    · rw [hend _ _ _ rfl, get_set_beside _ _ _ _ _ _ (by decide)]
      exact get_set_fits _ _ _ _ _ ⟨by decide, h.position.isLt.trans (by decide)⟩
    · rw [hend _ _ _ rfl]
      exact get_set_fits _ _ _ _ _ (by decide)

end Sys2Proof.Machine

namespace Sys2Proof.Machine
open Csr

/-! ## Directions of the optical links (R284 to R287) -/

theorem phoDir_putDir (s : State) (l d l' d' : Nat) (x : PhoDir) :
    (s.putDir l d x).phoDir l' d' = if (l, d) = (l', d') then x else s.phoDir l' d' := lookupD_assocPut_eq _ _ _ _ _

@[simp] theorem phoDir_putDir_same (s : State) (l d : Nat) (x : PhoDir) : (s.putDir l d x).phoDir l d = x :=
  (phoDir_putDir s l d l d x).trans (if_pos rfl)

@[simp] theorem putDir_get (s : State) (l d : Nat) (x : PhoDir) (f : Field) (i j : Nat) : (s.putDir l d x).get f i j = s.get f i j := rfl

theorem phoDir_of_pho {s t : State} (h : t.pho = s.pho) (l d : Nat) : t.phoDir l d = s.phoDir l d := by rw [State.phoDir, h]; rfl

@[simp] theorem phoDir_set (s : State) (f : Field) (v i j l d : Nat) : (s.set f v i j).phoDir l d = s.phoDir l d := rfl

theorem phoLink_notMem {l : Fin 32} {r : Reg} (hr : r = PHO_LINK) : r.addr l 0 ∉ linkStatusRegs ++ widthRegs := fun hm => by
  subst hr
  rcases List.mem_append.mp hm with hm | hm
  · refine linkStatusRegs_notMem (a := PHO_LINK.addr l 0) ?_ hm
    simp only [Reg.addr, PHO_LINK]
    omega
  · simp only [widthRegs, List.mem_cons, List.not_mem_nil, or_false, Reg.addr, PHO_LINK, FAB_CAP, FAB_STATUS, FAB_ERR_LOG,
      FAB_INT_STATUS] at hm
    omega

theorem linkWidth_shows (s : State) (l w lanes : Nat) (hw : w < 16) :
    (s.linkWidth l w lanes).get FAB_LINK_STATUS.WIDTH l = (if s.get FAB_LINK_CFG.MIN_WIDTH ≤ w ∧ 0 < w ∧
      (s.get FAB_CTRL.LINK_EN).testBit l = true then w else 0) ∧
    (s.linkWidth l w lanes).on FAB_LINK_STATUS.IN_SERVICE l = decide (s.get FAB_LINK_CFG.MIN_WIDTH ≤ w ∧ 0 < w ∧
      (s.get FAB_CTRL.LINK_EN).testBit l = true) := by
  generalize hup : (decide (s.get FAB_LINK_CFG.MIN_WIDTH ≤ w ∧ 0 < w) && (s.get FAB_CTRL.LINK_EN).testBit l) = up
  have hiff : (s.get FAB_LINK_CFG.MIN_WIDTH ≤ w ∧ 0 < w ∧ (s.get FAB_CTRL.LINK_EN).testBit l = true) ↔ up = true := by
    rw [← hup, Bool.and_eq_true, decide_eq_true_eq, and_assoc]
  have hmod : w % 2 ^ 4 = w := Nat.mod_eq_of_lt (hw.trans_eq rfl)
  simp only [hiff]
  constructor
  · rw [linkWidth_status _ _ _ _ (by decide), State.widthSet, hup, get_set_beside _ _ _ _ _ _ (by decide),
      get_set_mod _ _ _ _ _ (by decide)]
    cases up
    · rfl
    · exact hmod
  · rw [State.on, linkWidth_status _ _ _ _ (by decide), State.widthSet, hup, get_set_beside _ _ _ _ _ _ (by decide),
      get_set_beside _ _ _ _ _ _ (by decide), get_set_mod _ _ _ _ _ (by decide)]
    cases up <;> rfl

/-- The registers of a link at the end of its training, before its width is taken over. -/
def State.trained (s : State) (l tx rx : Nat) : State :=
  let w := min 8 (min (bitsOf tx 9).length (bitsOf rx 9).length)
  let s := ((s.set PHO_LINK.TX_WORKING tx l).set PHO_LINK.RX_WORKING rx l).set PHO_LINK.TX_SPARE_LANE 0xF l
  let s := (s.set PHO_LINK.RX_SPARE_LANE 0xF l).set PHO_LINK.CAL_WAVELENGTH 0xF l
  (s.putDir l 0 (trainedDir tx w (s.phoDir l 0).next)).putDir l 1 (trainedDir rx w (s.phoDir l 1).next)

theorem linkTrainingEnd_effect (s : State) (l : Fin 32) (tx rx : BitVec 9) :
    let w := min 8 (min (bitsOf tx.toNat 9).length (bitsOf rx.toNat 9).length)
    s.on PHO_STATUS.READY = true ∧ s.pho.stopped.contains l.val = false →
    Does (.linkTrainingEnd l tx rx) s [.csr, .out, .intc, .fab, .pho] (fun t =>
      t.get PHO_LINK.TX_WORKING l = tx.toNat ∧ t.get PHO_LINK.RX_WORKING l = rx.toNat ∧ t.get PHO_LINK.TX_SPARE_LANE l = 15 ∧
          t.get PHO_LINK.RX_SPARE_LANE l = 15 ∧
      t.get FAB_LINK_STATUS.WIDTH l = (if s.get FAB_LINK_CFG.MIN_WIDTH ≤ w ∧ 0 < w ∧
          (s.get FAB_CTRL.LINK_EN).testBit l = true then w else 0) ∧
      t.on FAB_LINK_STATUS.IN_SERVICE l = decide (s.get FAB_LINK_CFG.MIN_WIDTH ≤ w ∧ 0 < w ∧
          (s.get FAB_CTRL.LINK_EN).testBit l = true) ∧
      t.phoDir l 0 = ⟨(bitsOf tx.toNat 9).take w, ((bitsOf tx.toNat 9).drop w).head?, 0, (s.phoDir l 0).next, none⟩ ∧
      t.phoDir l 1 = ⟨(bitsOf rx.toNat 9).take w, ((bitsOf rx.toNat 9).drop w).head?, 0, (s.phoDir l 1).next, none⟩) := by
  rintro w ⟨hready, hrun⟩
  let u := s.trained l tx.toNat rx.toNat
  have hexec : exec (.linkTrainingEnd l tx rx) s = .next (u.linkWidth l w (maskOf (u.phoDir l 0).lanes % 256)) := by
    show execLinkTrainingEnd l tx rx s = _
    unfold execLinkTrainingEnd
    rw [if_neg (by simpa [hready] using hrun)]
    rfl
  have hlink : ∀ f : Field, f.reg = PHO_LINK → (u.linkWidth l w (maskOf (u.phoDir l 0).lanes % 256)).get f l = u.get f l := fun f hf =>
    (linkWidth_regs u l _ _).get (phoLink_notMem hf)
  have hpho : (u.linkWidth l w (maskOf (u.phoDir l 0).lanes % 256)).pho = u.pho := linkWidth_goes.only .pho rfl
  have hfab : ∀ f : Field, f.reg.apartFor PHO_LINK 1 0 32 0 = true → u.get f = s.get f := fun f hf => by
    have hne : PHO_LINK.addr l 0 ≠ f.reg.addr 0 0 := (Reg.addr_ne_of_apartFor hf (by decide) l.isLt).symm
    have hset : ∀ (t : State) (g : Field) (v : Nat), g.reg = PHO_LINK → (t.set g v l).get f = t.get f := fun t g v hg =>
      get_set_far _ _ _ _ (by rw [hg]; exact hne)
    simp only [u, State.trained, putDir_get]
    rw [hset _ PHO_LINK.CAL_WAVELENGTH _ rfl, hset _ PHO_LINK.RX_SPARE_LANE _ rfl, hset _ PHO_LINK.TX_SPARE_LANE _ rfl,
      hset _ PHO_LINK.RX_WORKING _ rfl, hset _ PHO_LINK.TX_WORKING _ rfl]
  have hw : w < 16 := (min_le_left _ _).trans_lt (by decide)
  obtain ⟨hwidth, hin⟩ := linkWidth_shows u l w (maskOf (u.phoDir l 0).lanes % 256) hw
  rw [hfab _ (by decide), hfab _ (by decide)] at hwidth hin
  have htx : tx.toNat % 2 ^ 9 = tx.toNat := Nat.mod_eq_of_lt tx.isLt
  have hrx : rx.toNat % 2 ^ 9 = rx.toNat := Nat.mod_eq_of_lt rx.isLt
  refine Does.of_next hexec execLinkTrainingEnd_goes ⟨?_, ?_, ?_, ?_, hwidth, hin, ?_, ?_⟩
  · rw [hlink _ rfl]
    simp (disch := decide) only [u, State.trained, putDir_get, get_set_beside, get_set_mod]
    exact htx
  · rw [hlink _ rfl]
    simp (disch := decide) only [u, State.trained, putDir_get, get_set_beside, get_set_mod]
    exact hrx
  · rw [hlink _ rfl]
    simp (disch := decide) only [u, State.trained, putDir_get, get_set_beside, get_set_fits]
  · rw [hlink _ rfl]
    simp (disch := decide) only [u, State.trained, putDir_get, get_set_beside, get_set_fits]
  · rw [phoDir_of_pho hpho]
    simp only [u, State.trained]
    rw [phoDir_putDir, if_neg (by simp), phoDir_putDir_same]
    rfl
  · rw [phoDir_of_pho hpho]
    simp only [u, State.trained]
    rw [phoDir_putDir_same]
    rfl

/-! ### Lane maps (R289) -/

/-- The fields of a LANE_MAP. -/
theorem laneMap_fields (lane w wl : Fin 9) :
    let v := (BitVec.ofNat 16 (lane.val + 16 * w.val + 256 * wl.val)).toNat
    v % 16 = lane.val ∧ getBits v 4 4 = w.val ∧ getBits v 8 4 = wl.val ∧ v < 2 ^ 12 := by
  intro v
  have hv : v = lane.val + 16 * w.val + 256 * wl.val := by
    simp only [v, BitVec.toNat_ofNat]
    omega
  clear_value v
  subst hv
  simp only [getBits, Nat.shiftRight_eq_div_pow]
  omega

/-- A LANE_MAP within range that names a lane of the link. -/
theorem execLaneMapReceived_lane (s : State) (l : Fin 32) {lane w wl : Fin 9} (hlane : lane.val < w.val ∧ lane.val < (s.phoDir l 1).lanes.length) :
    exec (.laneMapReceived l (BitVec.ofNat 16 (lane.val + 16 * w.val + 256 * wl.val))) s =
      let x := s.phoDir l 1
      if x.spare = some wl.val then
        .next ((s.putDir l 1 { x with use := if x.use = 1 then 1 else 2 }).set PHO_LINK.RX_SPARE_LANE lane l)
      else if x.lanes.getD lane 0 = wl.val then
        if s.spareLane l 1 = some lane.val ∧ x.use ≠ 1 then
          .next ((s.putDir l 1 { x with use := 0 }).set PHO_LINK.RX_SPARE_LANE 0xF l)
        else .next s
      else .next (s.putDir l 1 { x with lanes := x.lanes.set lane wl }) := by
  obtain ⟨hl, hw, hwl, hv⟩ := laneMap_fields lane w wl
  obtain ⟨hlw, hlen⟩ := hlane
  have h9 := lane.isLt
  show execLaneMapReceived l _ s = _
  unfold execLaneMapReceived
  simp only [hl, hw, hwl]
  rw [if_neg (by omega), if_neg (by omega)]

end Sys2Proof.Machine

namespace Sys2Proof.Machine
open Csr

/-! ### Rotating calibration (R286) -/

theorem emit_phoDir (s : State) (x : Out) (l d : Nat) : (s.emit x).phoDir l d = s.phoDir l d := rfl

theorem emit_get_field (s : State) (x : Out) (f : Field) (i : Nat) : (s.emit x).get f i = s.get f i := rfl

theorem workingField_reg (d : Nat) : (workingField d).reg = PHO_LINK := by
  unfold workingField
  split <;> rfl

theorem spareField_reg (d : Nat) : (spareField d).reg = PHO_LINK := by
  unfold spareField
  split <;> rfl

theorem get_set_spareField (s : State) (d l v : Nat) (h : v < 16) : (s.set (spareField d) v l).get (spareField d) l = v := by
  unfold spareField
  split
  · exact get_set_fits _ _ _ _ _ ⟨by decide, h.trans_eq rfl⟩
  · exact get_set_fits _ _ _ _ _ ⟨by decide, h.trans_eq rfl⟩

theorem spareField_beside (d : Nat) {f : Field} (h : PHO_LINK.TX_SPARE_LANE.beside f = true ∧ PHO_LINK.RX_SPARE_LANE.beside f = true) :
    (spareField d).beside f = true := by
  unfold spareField
  split
  · exact h.1
  · exact h.2

theorem beside_spareField (d : Nat) {f : Field} (h : f.beside PHO_LINK.TX_SPARE_LANE = true ∧ f.beside PHO_LINK.RX_SPARE_LANE = true) :
    f.beside (spareField d) = true := by
  unfold spareField
  split
  · exact h.1
  · exact h.2

/-- Calibration's next wavelength, where the link still works on the one that is due. -/
theorem nextWavelength_due {s : State} {l d : Nat} (hlt : (s.phoDir l d).next < 9)
    (h : (s.get (workingField d) l).testBit (s.phoDir l d).next = true) : s.nextWavelength l d = some (s.phoDir l d).next := by
  have hrange : List.range 9 = 0 :: (List.range 8).map (· + 1) := rfl
  have hmod : (s.phoDir l d).next % 9 = (s.phoDir l d).next := Nat.mod_eq_of_lt hlt
  rw [State.nextWavelength, hrange, List.map_cons, Nat.add_zero, hmod, List.find?_cons_of_pos h]

theorem calStep_effect (s : State) (l : Fin 32) (d : Fin 2) :
    let x := s.phoDir l d
    s.on PHO_CTRL.CAL_EN = true ∧ s.on FAB_LINK_STATUS.IN_SERVICE l = true ∧ s.on FAB_LINK_STATUS.QUIET l = false ∧
        x.spare.isSome = true ∧ x.use = 0 →
    x.cal = none ∧ s.pho.rate ≤ 500 ∧ x.next < 9 ∧
        (s.get (if d.val = 0 then PHO_LINK.TX_WORKING else PHO_LINK.RX_WORKING) l).testBit x.next = true →
    Does (.calStep l d) s [.csr, .out, .pho] (fun t =>
      (t.phoDir l d).cal = some x.next ∧ (∀ lane ∈ x.lanes.findIdx? (· == x.next), (t.phoDir l d).use = 1) ∧
      (∀ lane ∈ x.lanes.findIdx? (· == x.next), lane < 15 →
          t.get (if d.val = 0 then PHO_LINK.TX_SPARE_LANE else PHO_LINK.RX_SPARE_LANE) l = lane) ∧
      (∀ lane ∈ x.lanes.findIdx? (· == x.next), d.val = 0 → Sent s t (.linkField l 5 (lane + 32 * 256))) ∧
      (x.lanes.findIdx? (· == x.next) = none → t.get PHO_LINK.CAL_WAVELENGTH l = x.next ∧ Sent s t (.linkField l 7 (x.next + 16)))) := by
  rintro x ⟨hcal, hin, hquiet, hspare, huse⟩ ⟨hnone, hrate, hlt, hwork⟩
  have hnext : s.nextWavelength l d = some x.next := nextWavelength_due hlt hwork
  have hgate : ¬ (!s.on PHO_CTRL.CAL_EN || !s.on FAB_LINK_STATUS.IN_SERVICE l || s.on FAB_LINK_STATUS.QUIET l || x.spare.isNone ||
      x.use != 0 || x.cal.isSome || decide (s.pho.rate > 500)) = true := by
    simp [hcal, hin, hquiet, Option.isSome_iff_ne_none.mp hspare, huse, hnone, hrate]
  cases hlane : x.lanes.findIdx? (· == x.next) with
  | none =>
    have hexec : exec (.calStep l d) s = .next (((s.putDir l d { x with cal := some x.next }).set PHO_LINK.CAL_WAVELENGTH x.next l).emit
        (.linkField l 7 (x.next + 16))) := by
      show execCalStep l d s = _
      unfold execCalStep
      rw [if_neg hgate, hnext]
      simp only [x, hlane] at hlane ⊢
    refine Does.of_next hexec execCalStep_goes ⟨?_, by simp, by simp, by simp, fun _ => ⟨?_, sent_emit _ (List.prefix_refl _)⟩⟩
    · rw [emit_phoDir, phoDir_set, phoDir_putDir_same]
    · rw [emit_get_field]
      exact get_set_fits _ _ _ _ _ ⟨by decide, hlt.trans (by decide)⟩
  | some lane =>
    let u := ((s.putDir l d { x with cal := some x.next }).putDir l d { x with cal := some x.next, use := 1 }).set (spareField d) lane l
    have hexec : exec (.calStep l d) s = .next (if d.val = 0 then u.sendMirror l lane false else u) := by
      show execCalStep l d s = _
      unfold execCalStep
      rw [if_neg hgate, hnext]
      simp only [x] at hlane ⊢
      rw [hlane]
    generalize ht : (if d.val = 0 then u.sendMirror l lane false else u) = t at hexec
    have hdir : t.phoDir l d = { x with cal := some x.next, use := 1 } := by
      have hu : u.phoDir l d = { x with cal := some x.next, use := 1 } := by rw [phoDir_set, phoDir_putDir_same]
      rw [← ht]
      split
      · rw [State.sendMirror, emit_phoDir, hu]
      · exact hu
    refine Does.of_next hexec execCalStep_goes ⟨by rw [hdir], fun i hi => by rw [hdir], fun i hi hi15 => ?_, fun i hi h0 => ?_, by simp⟩
    · obtain rfl : lane = i := by simpa using hi
      have hu : u.get (spareField d) l = lane := get_set_spareField _ d l lane (by omega)
      change State.get _ (spareField d) l = lane
      rw [← ht]
      split
      · rw [State.sendMirror, emit_get_field, hu]
      · exact hu
    · obtain rfl : lane = i := by simpa using hi
      rw [← ht, if_pos h0]
      exact sent_emit (t := u) _ (List.prefix_refl _)

theorem mirrorSwitch_effect (s : State) (l : Fin 32) (d : Fin 2) (lane : Fin 9) (wl : Nat) :
    let x := s.phoDir l d
    x.use ≠ 2 ∧ x.spare.isSome = true ∧ x.cal = some wl ∧ wl < 9 →
    Does (.mirrorSwitch l d lane false) s [.csr, .out, .pho] (fun t =>
      t.phoDir l d = { x with use := 1 } ∧ t.get (if d.val = 0 then PHO_LINK.TX_SPARE_LANE else PHO_LINK.RX_SPARE_LANE) l = lane.val ∧
      t.get PHO_LINK.CAL_WAVELENGTH l = wl ∧ Sent s t (.linkField l 7 (wl + 16))) := by
  obtain ⟨⟨lanes, spare, use, next, cal⟩, hx⟩ : ∃ x, s.phoDir l d = x := ⟨_, rfl⟩
  rw [hx]
  rintro x ⟨huse, hspare, hcal, hwl⟩
  obtain rfl : cal = some wl := hcal
  let u := (s.putDir l d { x with use := 1 }).set (spareField d) lane l
  have hexec : exec (.mirrorSwitch l d lane false) s =
      .next ((u.set PHO_LINK.CAL_WAVELENGTH wl l).emit (.linkField l 7 (wl + 16))) := by
    show execMirrorSwitch l d lane false s = _
    unfold execMirrorSwitch
    dsimp only
    rw [hx]
    exact (if_neg Bool.false_ne_true).trans (if_neg (not_or.mpr ⟨huse, by rw [← Option.not_isSome, hspare]; decide⟩))
  refine Does.of_next hexec (execMirrorSwitch_goes (back := false)) ⟨?_, ?_, ?_, sent_emit (t := u.set PHO_LINK.CAL_WAVELENGTH wl l) _ (List.prefix_refl _)⟩
  · rw [emit_phoDir, phoDir_set, phoDir_set, phoDir_putDir_same]
  · change State.get _ (spareField d) l = lane.val
    rw [emit_get_field, get_set_beside _ _ _ _ _ _ (beside_spareField d (by decide))]
    exact get_set_spareField _ d l lane (by omega)
  · rw [emit_get_field]
    exact get_set_fits _ _ _ _ _ ⟨by decide, hwl.trans (by decide)⟩

/-- The outcome of a sweep: the efficiency kept, or the log of one discarded. -/
def State.sweepNoted (s : State) (l d wl : Nat) (kept : Option Nat) : State :=
  match kept with
  | some e => { s with pho := { s.pho with eff := assocPut s.pho.eff (2 * l + d, wl) e } }
  | none => s.phoLog 0x0704 l wl d 0

/-- The end of a sweep, before its lane is given back. -/
def State.swept (s : State) (l d wl : Nat) (kept : Option Nat) : State :=
  (((s.sweepNoted l d wl kept).addSat PHO_COUNT.CAL_STEPS 1).set PHO_LINK.CAL_WAVELENGTH 0xF l).emit (.linkField l 7 wl)

/-- The lane given back after a sweep, which the transmitter announces. -/
def State.mirrorBack (s : State) (l d : Nat) : Option Nat → State
  | none => s
  | some i => if d = 0 then s.sendMirror l i true else s

theorem mirrorBack_goes {s : State} {l d : Nat} {lane : Option Nat} : Goes [.out] s (s.mirrorBack l d lane) := by
  cases lane with
  | none => exact .refl
  | some i => exact .ite emit_goes .refl

theorem sweepNoted_goes {s : State} {l d wl : Nat} {kept : Option Nat} : Goes [.csr, .out, .pho] s (s.sweepNoted l d wl kept) := by
  cases kept with
  | none => exact .step .refl phoLog_goes (by decide)
  | some e => exact .pho .refl (by decide)

theorem sweepNoted_get (s : State) (l d wl : Nat) (kept : Option Nat) {f : Field} {i : Nat} (h : PHO_ERR_LOG.addr 0 0 ≠ f.reg.addr i 0) :
    (s.sweepNoted l d wl kept).get f i = s.get f i := by
  cases kept with
  | none => exact phoLog_get _ _ _ _ _ _ _ _ _ h
  | some e => rfl

theorem swept_goes {s : State} {l d wl : Nat} {kept : Option Nat} : Goes [.csr, .out, .pho] s (s.swept l d wl kept) :=
  .step (.step (.step sweepNoted_goes addSat_goes (by decide)) set_goes (by decide)) emit_goes (by decide)

theorem swept_sent {s : State} {l d wl : Nat} {kept : Option Nat} : Sent s (s.swept l d wl kept) (.linkField l 7 wl) :=
  sent_emit _ ((sweepNoted_goes.out.trans addSat_goes.out).trans set_goes.out)

section
variable (s : State) (l : Fin 32) (d wl : Nat) (kept : Option Nat)

/-- A register of the photonics apart from the links and the counts is left as the outcome left it. -/
theorem swept_get {f : Field} (hf : PHO_LINK.apartFor f.reg 32 0 1 0 = true) (hc : PHO_COUNT.addr 0 0 ≠ f.reg.addr 0 0) :
    (s.swept l d wl kept).get f = (s.sweepNoted l d wl kept).get f := by
  rw [State.swept, emit_get_field, get_set_far _ PHO_LINK.CAL_WAVELENGTH _ _ (Reg.addr_ne_of_apartFor hf l.isLt (by decide)),
    State.addSat, get_set_far _ PHO_COUNT.CAL_STEPS _ _ hc]

theorem swept_wavelength : (s.swept l d wl kept).get PHO_LINK.CAL_WAVELENGTH l = 15 := by
  rw [State.swept, emit_get_field]
  exact get_set_fits _ _ _ _ _ (by decide)

theorem swept_spareLane : (s.swept l d wl kept).get PHO_LINK.TX_SPARE_LANE l = s.get PHO_LINK.TX_SPARE_LANE l := by
  rw [State.swept, emit_get_field, get_set_beside _ _ _ _ _ _ (by decide), State.addSat,
    get_set_far _ PHO_COUNT.CAL_STEPS _ _ (Reg.addr_ne_of_apartFor (n := 1) (n' := 32) (by decide) (by decide) l.isLt),
    sweepNoted_get _ _ _ _ _ (Reg.addr_ne_of_apartFor (n := 1) (n' := 32) (by decide) (by decide) l.isLt)]

theorem swept_steps :
    (s.swept l d wl kept).get PHO_COUNT.CAL_STEPS = satAdd PHO_COUNT.CAL_STEPS.w (s.get PHO_COUNT.CAL_STEPS) 1 := by
  rw [State.swept, emit_get_field,
    get_set_far _ PHO_LINK.CAL_WAVELENGTH _ _ (Reg.addr_ne_of_apartFor (n := 32) (n' := 1) (by decide) l.isLt (by decide)),
    get_addSat _ _ _ _ _ (by decide), sweepNoted_get _ _ _ _ _ (by decide)]
  rfl

end

theorem calSweepEnd_effect (s : State) (l : Fin 32) (d : Fin 2) (kept : Option Nat) (wl : Nat) :
    let x := s.phoDir l d
    x.cal = some wl ∧ wl < 9 →
    Does (.calSweepEnd l d kept) s [.csr, .out, .pho] (fun t =>
      (t.phoDir l d).next = (wl + 1) % 9 ∧ t.get PHO_LINK.CAL_WAVELENGTH l = 15 ∧ Sent s t (.linkField l 7 wl) ∧
      (∀ e ∈ kept, lookupD t.pho.eff (2 * l.val + d.val, wl) 0 = e) ∧ (kept = none → t.pho.eff = s.pho.eff ∧
          t.get PHO_ERR_LOG.REASON = 0x0704) ∧
      t.get PHO_COUNT.CAL_STEPS = satAdd PHO_COUNT.CAL_STEPS.w (s.get PHO_COUNT.CAL_STEPS) 1 ∧
      (x.use ≠ 1 → (t.phoDir l d).cal = none) ∧
      (x.use = 1 → d.val = 0 → s.get PHO_LINK.TX_SPARE_LANE l ≠ 15 →
          Sent s t (.linkField l 5 (s.get PHO_LINK.TX_SPARE_LANE l + 16 + 32 * 256)))) := by
  obtain ⟨⟨lanes, spare, use, next, cal⟩, hx⟩ : ∃ x, s.phoDir l d = x := ⟨_, rfl⟩
  rw [hx]
  rintro x ⟨hcal, hwl⟩
  obtain rfl : cal = some wl := hcal
  generalize hu : s.swept l d wl kept = u
  generalize hlane : (if x.use = 1 then u.spareLane l d else none) = lane
  let v := u.putDir l d { x with next := (wl + 1) % 9, cal := if lane.isSome then some wl else none }
  have hexec : exec (.calSweepEnd l d kept) s = .next (v.mirrorBack l d lane) := by
    show execCalSweepEnd l d kept s = _
    unfold execCalSweepEnd
    extract_lets l' x'
    have hx' : x' = x := hx
    clear_value x'
    subst hx'
    split
    · next h => cases h
    · next h =>
      cases h
      extract_lets u1 u' lane' v'
      have hlane' : lane' = lane := by subst hu; exact hlane
      have hv : v' = v := by
        subst hu hlane
        rfl
      rw [hv, hlane']
      cases lane <;> rfl
  have hvt : Goes [.out] v (v.mirrorBack l d lane) := mirrorBack_goes
  have hget : ∀ (f : Field) (i : Nat), (v.mirrorBack l d lane).get f i = u.get f i := fun f i => get_congr (hvt.only .csr rfl) f i 0
  have hdir : (v.mirrorBack l d lane).phoDir l d = { x with next := (wl + 1) % 9, cal := if lane.isSome then some wl else none } := by
    rw [phoDir_of_pho (hvt.only .pho rfl), phoDir_putDir_same]
  have heff : (v.mirrorBack l d lane).pho.eff = (s.sweepNoted l d wl kept).pho.eff := by
    have hpho : (v.mirrorBack l d lane).pho = v.pho := hvt.only .pho rfl
    rw [hpho]
    subst hu
    rfl
  have hsu : Sent s u (.linkField l 7 wl) := hu ▸ swept_sent
  refine Does.of_next hexec execCalSweepEnd_goes ⟨by rw [hdir], ?_, Sent.of_goes (t := v) hsu hvt, ?_, ?_, ?_, ?_, ?_⟩
  · rw [hget, ← hu]
    exact swept_wavelength s l d wl kept
  · rintro e he
    obtain rfl : kept = some e := he
    rw [heff]
    exact (lookupD_assocPut_eq _ _ _ _ _).trans (if_pos rfl)
  · rintro rfl
    rw [heff, hget, ← hu, swept_get s l d wl none (by decide) (by decide)]
    exact ⟨rfl, phoLog_reason s _ _ _ _ _⟩
  · rw [hget, ← hu]
    exact swept_steps s l d wl kept
  · intro huse
    rw [hdir, ← hlane, if_neg huse]
    rfl
  · intro huse h0 hmoved
    have hspare : u.get PHO_LINK.TX_SPARE_LANE l = s.get PHO_LINK.TX_SPARE_LANE l := hu ▸ swept_spareLane s l d wl kept
    have hsome : lane = some (s.get PHO_LINK.TX_SPARE_LANE l) := by
      rw [← hlane, if_pos huse, State.spareLane, spareField, if_pos h0, hspare]
      exact if_neg hmoved
    rw [hsome, State.mirrorBack, if_pos h0]
    exact sent_emit (t := v) _ (hu ▸ swept_goes.out : s.out <+: u.out)

theorem spareLane_eq_some {s : State} {l d lane : Nat} (h : s.get (spareField d) l = lane) (hl : lane ≠ 15) : s.spareLane l d = some lane := by
  rw [State.spareLane, h]
  exact if_neg hl

/-! ### A ring that locks again (R287) -/

theorem workingField_fits (d : Nat) : (workingField d).lo + (workingField d).w ≤ 64 ∧ (workingField d).w = 9 := by
  unfold workingField
  split <;> decide

theorem working_beside_spare (d : Nat) : (workingField d).beside (spareField d) = true ∧ (spareField d).beside (workingField d) = true := by
  unfold workingField spareField
  split <;> decide

/-- A number without a bit that it has keeps its other bits. -/
theorem testBit_sub_two_pow {m i j : Nat} (hbit : m.testBit i = true) (h : i ≠ j) : (m - 2 ^ i).testBit j = m.testBit j := by
  have hle := Nat.ge_two_pow_of_testBit hbit
  rcases Nat.lt_or_gt_of_ne h with hlt | hgt
  · have hodd : m / 2 ^ i % 2 = 1 := by simpa [Nat.testBit_eq_decide_div_mod_eq] using hbit
    have hpos : 0 < 2 ^ i := Nat.two_pow_pos i
    have hsplit : m = 2 ^ (i + 1) * (m / 2 ^ i / 2) + (2 ^ i + m % 2 ^ i) := by
      have hdiv := Nat.div_add_mod m (2 ^ i)
      have hhalf : m / 2 ^ i = 2 * (m / 2 ^ i / 2) + 1 := by omega
      rw [Nat.pow_succ, Nat.mul_assoc, ← Nat.add_assoc, ← Nat.mul_succ, Nat.succ_eq_add_one, ← hhalf, hdiv]
    have hr : m % 2 ^ i < 2 ^ i := Nat.mod_lt _ hpos
    have hpow : 2 ^ (i + 1) = 2 ^ i + 2 ^ i := by rw [Nat.pow_succ]; omega
    have hsub : m - 2 ^ i = 2 ^ (i + 1) * (m / 2 ^ i / 2) + m % 2 ^ i := by omega
    rw [hsub]
    conv_rhs => rw [hsplit]
    rw [Nat.testBit_two_pow_mul_add _ (by omega), Nat.testBit_two_pow_mul_add _ (by omega), if_neg (by omega), if_neg (by omega)]
  · have hadd : 2 ^ i + (m - 2 ^ i) = m := by omega
    rw [← Nat.testBit_two_pow_add_gt hgt, hadd]

theorem testBit_setBit_other {m i j : Nat} (v : Bool) (h : i ≠ j) : (setBit m i v).testBit j = m.testBit j := by
  unfold setBit
  cases v
  · cases hb : m.testBit i
    · simp
    · simp only [Bool.false_eq_true, if_false, if_true, Nat.one_shiftLeft]
      exact testBit_sub_two_pow hb h
  · simp [Nat.one_shiftLeft, Nat.testBit_two_pow_of_ne h]

theorem ringRelocked_effect (s : State) (b : Fin 64) (r : Fin 9) (lane : Nat) (sp : Nat) :
    let l := b.val / 2
    let d := b.val % 2
    let x := s.phoDir l d
    s.pho.unlocked.contains (b.val, r.val) = true ∧ x.lanes.findIdx? (· == r.val) = some lane ∧ x.spare = some sp →
    s.get (if d = 0 then PHO_LINK.TX_SPARE_LANE else PHO_LINK.RX_SPARE_LANE) l = lane ∧ lane ≠ 15 →
    Does (.ringRelocked b r) s [.csr, .pho] (fun t =>
      t.pho.unlocked.contains (b.val, r.val) = false ∧
          (t.get (if d = 0 then PHO_LINK.TX_WORKING else PHO_LINK.RX_WORKING) l).testBit r.val = true ∧
      t.phoDir l d = ⟨x.lanes.set lane sp, some r.val, 0, x.next, none⟩ ∧
          t.get (if d = 0 then PHO_LINK.TX_SPARE_LANE else PHO_LINK.RX_SPARE_LANE) l = 15) := by
  intro l d x
  rintro ⟨hlock, hlane, hspare⟩ ⟨hmoved, h15⟩
  let u := { s with pho := { s.pho with
    unlocked := s.pho.unlocked.filter (· ≠ (b.val, r.val)), high := assocErase s.pho.high (b.val, r.val) } }
  let v := u.set (workingField d) (setBit (u.get (workingField d) l) r.val true) l
  have hv : v.spareLane l d = some lane :=
    spareLane_eq_some ((get_set_beside _ _ _ _ _ _ (working_beside_spare d).1).trans hmoved) h15
  have hexec : exec (.ringRelocked b r) s = .next ((v.putDir l d ⟨x.lanes.set lane sp, some r.val, 0, x.next, none⟩).set (spareField d) 0xF l) := by
    show execRingRelocked b r s = _
    unfold execRingRelocked
    extract_lets wl src u' v' x'
    have hx : x' = x := rfl
    have hvv : v' = v := rfl
    rw [if_neg (by simpa using hlock), hx, hvv]
    simp only [hlane, hspare, hv, wl, if_true]
  refine Does.of_next hexec execRingRelocked_goes ⟨?_, ?_, ?_, ?_⟩
  · show (u.pho.unlocked.contains (b.val, r.val)) = false
    simp [u]
  · change Nat.testBit (State.get _ (workingField d) l) r.val = true
    obtain ⟨hfit, hw⟩ := workingField_fits d
    rw [get_set_beside _ _ _ _ _ _ (working_beside_spare d).2, putDir_get, get_set_mod _ _ _ _ _ hfit, hw, Nat.testBit_mod_two_pow,
      testBit_setBit_self]
    simp
  · rw [phoDir_set, phoDir_putDir_same]
  · exact get_set_spareField _ d l 15 (by decide)

end Sys2Proof.Machine

namespace Sys2Proof.Machine
open Csr

/-! ### Temperature sensors (R305) -/

/-- Whether a sensor's reading is left out: out of range, or too far from its neighbours' mean. -/
def sensorBad (temps : List (BitVec 16)) (k : Nat) : Bool :=
  let t (k : Nat) : Int := (temps.getD k 0).toInt
  let ns := (Config.sensorNeighbours k).map (fun n => t n.val)
  let n : Int := ns.length
  let sum := ns.foldl (· + ·) 0
  decide (t k < -320 ∨ 1200 < t k ∨ (n ≠ 0 ∧ (t k * n - sum > 120 * n ∨ sum - t k * n > 120 * n)))

/-- One sensor's sample. -/
def State.sensorRead (s : State) (temps : List (BitVec 16)) (k : Nat) : State :=
  let s := s.set PHO_SENSOR.TEMP (temps.getD k 0).toNat k
  if sensorBad temps k && !s.on PHO_SENSOR.FAULTY k then s.sensorFaulty k else s

/-- The samples of every sensor. -/
def State.sensorsRead (s : State) (temps : List (BitVec 16)) : State := (List.range 64).foldl (fun s k => s.sensorRead temps k) s

theorem execSensorSample_eq (s : State) (temps : List (BitVec 16)) (rate : Nat) : exec (.sensorSample temps rate) s =
    let u := s.sensorsRead temps
    let u := if rate > 30000 ∧ u.pho.rate ≤ 30000 then (u.phoLog 0x0712 0 0 0 0).raise PHO_INT_STATUS.SENSOR else u
    .next { u with pho := { u.pho with rate := rate } } := rfl

/-- Equal readings in range are left in. -/
theorem sensorBad_replicate {v : BitVec 16} (hv : -320 ≤ v.toInt ∧ v.toInt ≤ 1200) {k : Nat} (hk : k < 64) :
    sensorBad (List.replicate 64 v) k = false := by
  have hget : ∀ i < 64, (List.replicate 64 v).getD i 0 = v := fun i hi => by
    rw [List.getD_eq_getElem?_getD, List.getElem?_replicate, if_pos hi, Option.getD_some]
  have hmap : (Config.sensorNeighbours k).map (fun n => ((List.replicate 64 v).getD n.val 0).toInt) =
      List.replicate (Config.sensorNeighbours k).length v.toInt := by
    rw [List.eq_replicate_iff]
    refine ⟨List.length_map _, fun x hx => ?_⟩
    obtain ⟨n, _, rfl⟩ := List.mem_map.mp hx
    rw [hget _ n.isLt]
  have hsum : ∀ (n : Nat) (a : Int), (List.replicate n v.toInt).foldl (· + ·) a = a + n * v.toInt := fun n => by
    induction n with
    | zero => intro a; simp
    | succ n ih =>
      intro a
      rw [List.replicate_succ, List.foldl_cons, ih]
      push_cast
      ring
  unfold sensorBad
  simp only [hget _ hk, hmap, hsum, List.length_replicate]
  refine decide_eq_false ?_
  have hmul : v.toInt * ((Config.sensorNeighbours k).length : Int) - (0 + (Config.sensorNeighbours k).length * v.toInt) = 0 := by ring
  omega

/-- The registers that a sensor found faulty writes besides its own. -/
def faultyRegs : List Nat := PHO_CAP.addr 0 0 :: TOP_CAPCHG.addr 0 0 :: phoReportRegs ++ healthRegs

theorem sensorRead_good {s : State} {temps : List (BitVec 16)} {k : Nat} (h : sensorBad temps k = false) :
    s.sensorRead temps k = s.set PHO_SENSOR.TEMP (temps.getD k 0).toNat k := by
  rw [State.sensorRead, h]
  rfl

section
variable (s : State) (k : Nat)

/-- A sensor found faulty, before its health record and the change of the module's capability. -/
def State.faultLogged (s : State) (k : Nat) : State :=
  (((s.set PHO_SENSOR.FAULTY 1 k).set PHO_CAP.SENSORS (s.get PHO_CAP.SENSORS - 1)).phoLog 0x070E 0 0 0 0).raise PHO_INT_STATUS.SENSOR

/-- The health record of a sensor found faulty. -/
def sensorHealth (k : Nat) : Health :=
  { reason := 0x070E, kind := 4, level := 0, block := 7, panel := 0, action := 3, unit := k }

theorem sensorFaulty_eq : s.sensorFaulty k = ((s.faultLogged k).health (sensorHealth k)).capChange 7 := rfl

theorem faultLogged_otherRegs : OtherRegs faultyRegs (s.set PHO_SENSOR.FAULTY 1 k) (s.faultLogged k) :=
  .andRaise ((OtherRegs.andSet .refl (by decide)).trans ((phoLog_otherRegs _ 0x070E 0 0 0 0).mono (by decide))) (by decide)

theorem capChange_otherRegs (b : Nat) : OtherRegs [TOP_CAPCHG.addr 0 0] s (s.capChange b) := by
  unfold State.capChange
  exact (OtherRegs.set s TOP_CAPCHG.BLOCKS _ (List.mem_singleton.mpr rfl)).andCsr (intcUpdate_csr _)

theorem sensorFaulty_otherRegs : OtherRegs faultyRegs (s.set PHO_SENSOR.FAULTY 1 k) (s.sensorFaulty k) := by
  rw [sensorFaulty_eq]
  exact ((faultLogged_otherRegs s k).andHealth (by decide)).trans ((capChange_otherRegs _ 7).mono (by decide))

/-- What follows the log of a faulty sensor writes the health log and the change of capability alone. -/
theorem sensorFaulty_get {f : Field} (h : f.reg.addr 0 0 ∉ TOP_CAPCHG.addr 0 0 :: healthRegs) :
    (s.sensorFaulty k).get f = (s.faultLogged k).get f := by
  rw [sensorFaulty_eq]
  exact (((health_otherRegs _ _).mono (List.subset_cons_self _ _)).trans ((capChange_otherRegs _ 7).mono (by decide))).get h

theorem sensorFaulty_reason : (s.sensorFaulty k).get PHO_ERR_LOG.REASON = 0x070E := by
  rw [sensorFaulty_get s k (by decide), State.faultLogged, raise_get, get_set_far _ _ _ _ (by decide), phoLog_reason]
  rfl

theorem sensorFaulty_interrupt : (s.sensorFaulty k).on PHO_INT_STATUS.SENSOR = true := by
  rw [State.on, sensorFaulty_get s k (by decide), State.faultLogged]
  simp (disch := decide)

theorem sensorFaulty_capability : ((s.sensorFaulty k).get TOP_CAPCHG.BLOCKS).testBit 7 = true := by
  rw [sensorFaulty_eq, State.capChange]
  generalize (s.faultLogged k).health (sensorHealth k) = u
  rw [get_congr (intcUpdate_csr _), get_set_mod _ _ _ _ _ (by decide), Nat.testBit_mod_two_pow, testBit_setBit_self]
  rfl

theorem sensorFaulty_sent {a : State} (h : a.out <+: s.out) : Sent a (s.sensorFaulty k) (.report 0x070E) := by
  rw [sensorFaulty_eq]
  have hlog : Sent a (((s.set PHO_SENSOR.FAULTY 1 k).set PHO_CAP.SENSORS (s.get PHO_CAP.SENSORS - 1)).phoLog 0x070E 0 0 0 0)
      (.report 0x070E) := phoLog_sent h
  exact ((hlog.of_goes raise_goes).of_goes health_goes).of_goes capChange_goes

theorem phoSensor_notFaultyRegs (i : Nat) (hi : i < 64) : PHO_SENSOR.addr i 0 ∉ faultyRegs := fun hm => by
  simp only [faultyRegs, phoReportRegs, healthRegs, List.cons_append, List.nil_append, List.mem_cons, List.not_mem_nil, or_false, Reg.addr,
    PHO_SENSOR, PHO_CAP, TOP_CAPCHG, PHO_ERR_LOG, PHO_INT_STATUS, HLTH_COUNT, HLTH_QLOG_PTR, HLTH_INT_STATUS, TOP_MYK_COUNT] at hm
  omega

end

/-- A sensor's sample leaves the register of every other. -/
theorem sensorRead_other {s : State} {temps : List (BitVec 16)} {i k : Nat} (h : i ≠ k) (hk : k < 64) :
    (s.sensorRead temps i).rdReg PHO_SENSOR k = s.rdReg PHO_SENSOR k := by
  have hne : PHO_SENSOR.addr i 0 ≠ PHO_SENSOR.addr k 0 := linkReg_ne (by decide) h
  have hset : ∀ (t : State) (f : Field) v, f.reg = PHO_SENSOR → (t.set f v i).rdReg PHO_SENSOR k = t.rdReg PHO_SENSOR k :=
    fun t f v hf => rdReg_set_far _ _ _ _ (by rw [hf]; exact hne)
  unfold State.sensorRead
  extract_lets u
  have hu : u.rdReg PHO_SENSOR k = s.rdReg PHO_SENSOR k := hset s PHO_SENSOR.TEMP _ rfl
  split
  · rw [(sensorFaulty_otherRegs u i) PHO_SENSOR k 0 (phoSensor_notFaultyRegs k hk), hset _ PHO_SENSOR.FAULTY _ rfl, hu]
  · exact hu

theorem sensorsRead_goes {s : State} {temps : List (BitVec 16)} :
    Goes [.csr, .mem, .poison, .out, .freeCtr, .intc, .myk, .hlth] s (s.sensorsRead temps) :=
  .foldl .refl fun _ _ h => .ite (.step (.step h set_goes (by decide)) sensorFaulty_goes (by decide)) (.step h set_goes (by decide))

theorem sensorSample_effect (s : State) (v : BitVec 16) (rate : Nat) (hv : -320 ≤ v.toInt ∧ v.toInt ≤ 1200) :
    Does (.sensorSample (List.replicate 64 v) rate) s [.csr, .mem, .poison, .out, .freeCtr, .intc, .myk, .hlth, .pho] (fun t =>
      t.pho.rate = rate ∧ (∀ k : Fin 64, t.get PHO_SENSOR.TEMP k = v.toNat ∧
          t.get PHO_SENSOR.FAULTY k = s.get PHO_SENSOR.FAULTY k) ∧
      (30000 < rate → s.pho.rate ≤ 30000 → t.get PHO_ERR_LOG.REASON = 0x0712 ∧ t.on PHO_INT_STATUS.SENSOR = true)) := by
  have hexec := execSensorSample_eq s (List.replicate 64 v) rate
  have hpho : (s.sensorsRead (List.replicate 64 v)).pho = s.pho := sensorsRead_goes.only .pho rfl
  have hread : ∀ k : Fin 64, (s.sensorsRead (List.replicate 64 v)).get PHO_SENSOR.TEMP k = v.toNat ∧
      (s.sensorsRead (List.replicate 64 v)).get PHO_SENSOR.FAULTY k = s.get PHO_SENSOR.FAULTY k := fun k => by
    obtain ⟨t, ht, hfold⟩ := foldl_range_at (f := fun s k => s.sensorRead (List.replicate 64 v) k)
      (read := fun t : State => t.rdReg PHO_SENSOR k) k.isLt (fun t i hi => sensorRead_other hi k.isLt) s
    rw [sensorRead_good (sensorBad_replicate hv k.isLt)] at hfold
    have hk : (List.replicate 64 v).getD k 0 = v := by
      rw [List.getD_eq_getElem?_getD, List.getElem?_replicate, if_pos k.isLt, Option.getD_some]
    rw [hk] at hfold
    constructor
    · refine (get_of_word (f := PHO_SENSOR.TEMP) hfold).trans ?_
      exact (get_set_mod _ _ _ _ _ (by decide)).trans (Nat.mod_eq_of_lt v.isLt)
    · refine (get_of_word (f := PHO_SENSOR.FAULTY) hfold).trans ?_
      exact (get_set_beside _ _ _ _ _ _ (by decide)).trans (get_of_word (f := PHO_SENSOR.FAULTY) ht)
  generalize s.sensorsRead (List.replicate 64 v) = u at hexec hpho hread
  by_cases hrate : rate > 30000 ∧ s.pho.rate ≤ 30000
  · simp only [hpho, if_pos hrate] at hexec
    refine Does.of_next hexec execSensorSample_goes ⟨rfl, fun k => ?_, fun _ _ => ⟨?_, ?_⟩⟩
    · have hfar : ∀ f : Field, f.reg = PHO_SENSOR → ((u.phoLog 0x0712 0 0 0 0).raise PHO_INT_STATUS.SENSOR).get f k = u.get f k := fun f hf => by
        rw [raise_get, get_set_far _ _ _ _ (by rw [hf]; exact Reg.addr_ne_of_apartFor (n := 1) (n' := 64) (by decide) (by decide) k.isLt),
          phoLog_get _ _ _ _ _ _ _ _ _ (by rw [hf]; exact Reg.addr_ne_of_apartFor (n := 1) (n' := 64) (by decide) (by decide) k.isLt)]
      constructor
      · rw [get_update, hfar _ rfl, (hread k).1]
      · rw [get_update, hfar _ rfl, (hread k).2]
    · rw [get_update, raise_get, get_set_far _ _ _ _ (by decide), phoLog_reason]
      rfl
    · rw [on_update]
      simp (disch := decide) [State.on]
  · simp only [hpho, if_neg hrate] at hexec
    exact Does.of_next hexec execSensorSample_goes ⟨rfl, hread, fun h1 h2 => absurd ⟨h1, h2⟩ hrate⟩

/-- A fold over distinct elements whose step at `x` establishes a property that the other steps keep. -/
theorem foldl_establishes {σ β : Type} {f : σ → β → σ} {P Q : σ → Prop} {x : β} {l : List β}
    (hQ : ∀ t, ∀ i ∈ l, i ≠ x → Q t → Q (f t i)) (hat : ∀ t, Q t → P (f t x)) (hP : ∀ t, ∀ i ∈ l, i ≠ x → P t → P (f t i))
    (hl : l.Nodup) {s : σ} (h : x ∈ l ∧ Q s ∨ x ∉ l ∧ P s) : P (l.foldl f s) := by
  induction l generalizing s with
  | nil => simpa using h
  | cons k l ih =>
    rw [List.nodup_cons] at hl
    refine ih (fun t i hi => hQ t i (List.mem_cons_of_mem _ hi)) (fun t i hi => hP t i (List.mem_cons_of_mem _ hi)) hl.2 ?_
    by_cases hk : k = x
    · subst hk
      rcases h with ⟨_, hs⟩ | ⟨hn, _⟩
      · exact .inr ⟨hl.1, hat s hs⟩
      · exact absurd List.mem_cons_self hn
    · rcases h with ⟨hm, hs⟩ | ⟨hn, hs⟩
      · exact .inl ⟨(List.mem_cons.mp hm).resolve_left (Ne.symm hk), hQ s k List.mem_cons_self hk hs⟩
      · exact .inr ⟨fun hm => hn (List.mem_cons_of_mem _ hm), hP s k List.mem_cons_self hk hs⟩

/-- What a faulty sensor shows. -/
structure FaultShown (s : State) (temps : List (BitVec 16)) (k : Nat) (t : State) : Prop where
  faulty : t.on PHO_SENSOR.FAULTY k = true
  temp : t.get PHO_SENSOR.TEMP k = (temps.getD k 0).toNat
  reason : t.get PHO_ERR_LOG.REASON = 0x070E
  sent : Sent s t (.report 0x070E)
  interrupt : t.on PHO_INT_STATUS.SENSOR = true
  capability : (t.get TOP_CAPCHG.BLOCKS).testBit 7 = true

theorem sensorRead_faulty {s t : State} {temps : List (BitVec 16)} {k : Nat} (hk : k < 64) (hbad : sensorBad temps k = true)
    (hgood : t.on PHO_SENSOR.FAULTY k = false) (hout : s.out <+: t.out) : FaultShown s temps k (t.sensorRead temps k) := by
  unfold State.sensorRead
  extract_lets u
  have hu : u.on PHO_SENSOR.FAULTY k = false := by
    rw [State.on, get_set_beside _ _ _ _ _ _ (by decide)]
    exact hgood
  have hword : (u.sensorFaulty k).rdReg PHO_SENSOR k = (u.set PHO_SENSOR.FAULTY 1 k).rdReg PHO_SENSOR k :=
    sensorFaulty_otherRegs u k PHO_SENSOR k 0 (phoSensor_notFaultyRegs k hk)
  rw [if_pos (by rw [hbad, hu]; rfl)]
  refine ⟨?_, ?_, sensorFaulty_reason u k, sensorFaulty_sent u k hout, sensorFaulty_interrupt u k, sensorFaulty_capability u k⟩
  · rw [State.on, get_of_word (f := PHO_SENSOR.FAULTY) hword, get_set_fits _ _ _ _ _ (by decide)]
    rfl
  · rw [get_of_word (f := PHO_SENSOR.TEMP) hword, get_set_beside _ _ _ _ _ _ (by decide), get_set_mod _ _ _ _ _ (by decide)]
    exact Nat.mod_eq_of_lt (temps.getD k 0).isLt

theorem sensorRead_goes {s : State} {temps : List (BitVec 16)} {k : Nat} :
    Goes [.csr, .mem, .poison, .out, .freeCtr, .intc, .myk, .hlth] s (s.sensorRead temps k) :=
  .ite (.step (.step .refl set_goes (by decide)) sensorFaulty_goes (by decide)) (.step .refl set_goes (by decide))

theorem FaultShown.sensorRead {s t : State} {temps : List (BitVec 16)} {k i : Nat} (h : FaultShown s temps k t) (hk : k < 64) (hi : i < 64)
    (hik : i ≠ k) : FaultShown s temps k (t.sensorRead temps i) := by
  have hword := sensorRead_other (s := t) (temps := temps) hik hk
  have hsent := h.sent.of_goes (sensorRead_goes (temps := temps) (k := i))
  have hfaulty : (t.sensorRead temps i).on PHO_SENSOR.FAULTY k = true := by
    rw [State.on, get_of_word (f := PHO_SENSOR.FAULTY) hword]
    exact h.faulty
  have htemp : (t.sensorRead temps i).get PHO_SENSOR.TEMP k = (temps.getD k 0).toNat :=
    (get_of_word (f := PHO_SENSOR.TEMP) hword).trans h.temp
  unfold State.sensorRead at hfaulty htemp hsent ⊢
  extract_lets u at hfaulty htemp hsent ⊢
  split at hfaulty
  · next hc =>
    rw [if_pos hc] at htemp hsent ⊢
    exact ⟨hfaulty, htemp, sensorFaulty_reason u i, hsent, sensorFaulty_interrupt u i, sensorFaulty_capability u i⟩
  · next hc =>
    rw [if_neg hc] at htemp hsent ⊢
    have hfar : ∀ f : Field, PHO_SENSOR.apartFor f.reg 64 0 1 0 = true → u.get f = t.get f := fun f hf =>
      get_set_far _ _ _ _ (Reg.addr_ne_of_apartFor hf hi (by decide))
    refine ⟨hfaulty, htemp, (hfar _ (by decide)).trans h.reason, hsent, ?_, ?_⟩
    · rw [State.on, hfar _ (by decide)]
      exact h.interrupt
    · rw [hfar _ (by decide)]
      exact h.capability

theorem sensorFault_effect (s : State) (temps : List (BitVec 16)) (k : Fin 64)
    (h : s.on PHO_SENSOR.FAULTY k = false ∧ (1200 < (temps.getD k 0).toInt ∨ (temps.getD k 0).toInt < -320)) :
    Does (.sensorSample temps 0) s [.csr, .mem, .poison, .out, .freeCtr, .intc, .myk, .hlth, .pho] (fun t =>
      t.on PHO_SENSOR.FAULTY k = true ∧ t.get PHO_SENSOR.TEMP k = (temps.getD k 0).toNat ∧ t.get PHO_ERR_LOG.REASON = 0x070E ∧
          Sent s t (.report 0x070E) ∧
      t.on PHO_INT_STATUS.SENSOR = true ∧ (t.get TOP_CAPCHG.BLOCKS).testBit 7 = true) := by
  obtain ⟨hgood, hrange⟩ := h
  have hbad : sensorBad temps k = true := by
    unfold sensorBad
    exact decide_eq_true (hrange.elim (fun hr => .inr (.inl hr)) .inl)
  have hshown : FaultShown s temps k (s.sensorsRead temps) :=
    foldl_establishes (f := fun (s : State) k => s.sensorRead temps k) (x := k.val)
      (Q := fun t => t.on PHO_SENSOR.FAULTY k = false ∧ s.out <+: t.out)
      (fun t i _ hik ht => ⟨by rw [State.on, get_of_word (f := PHO_SENSOR.FAULTY) (sensorRead_other hik k.isLt)]; exact ht.1,
        ht.2.trans sensorRead_goes.out⟩)
      (fun t ht => sensorRead_faulty k.isLt hbad ht.1 ht.2)
      (fun t i hi hik ht => ht.sensorRead k.isLt (List.mem_range.mp hi) hik) List.nodup_range
      (.inl ⟨List.mem_range.mpr k.isLt, hgood, List.prefix_refl _⟩)
  obtain ⟨hfaulty, htemp, hreason, hsent, hint, hcap⟩ := hshown
  have hexec := execSensorSample_eq s temps 0
  generalize s.sensorsRead temps = u at *
  simp only [if_neg (show ¬ (0 > 30000 ∧ u.pho.rate ≤ 30000) by omega)] at hexec
  exact Does.of_next hexec execSensorSample_goes ⟨hfaulty, htemp, hreason, hsent, hint, hcap⟩

end Sys2Proof.Machine

namespace Sys2Proof.Machine
open Csr

/-! ### Rings that lose lock (R287, R303) -/

/-- A wavelength lost, with its log and interrupt, before its lane moves. -/
def State.wavelengthLost (s : State) (l d wl : Nat) : State :=
  let s := (s.addSat PHO_COUNT.UNLOCK 1).set (workingField d) (setBit (s.get (workingField d) l) wl false) l
  (s.phoLog 0x0701 l wl d 0).raise PHO_INT_STATUS.UNLOCK

/-- What becomes of the lane of a wavelength lost. -/
def State.laneAnswer (s : State) (l d wl : Nat) : State :=
  let x := s.phoDir l d
  if x.spare = some wl then
    match s.spareLane l d with
    | none => (s.putDir l d { x with spare := none, use := 0, cal := none }).set PHO_LINK.CAL_WAVELENGTH 0xF l
    | some lane =>
      let s := ((s.putDir l d { x with spare := none, use := 0, cal := none }).set (spareField d) 0xF l).set PHO_LINK.CAL_WAVELENGTH
        0xF l
      if x.use = 1 then s else s.laneFails l d wl lane
  else
    match x.lanes.findIdx? (· == wl) with
    | none => s
    | some lane => if s.spareLane l d = some lane then s.putDir l d { x with use := 2, cal := none } else s.laneFails l d wl lane

theorem wavelengthFails_eq (s : State) (l d wl : Nat) : s.wavelengthFails l d wl = (s.wavelengthLost l d wl).laneAnswer l d wl := rfl

/-- A change of the lanes of a link: it may move lanes and the spare, log and raise UNLOCK, and leaves what the link works on. -/
structure LaneMove (s t : State) (l d : Nat) : Prop where
  goes : Goes [.csr, .out, .intc, .pho] s t
  working : t.get (workingField d) l = s.get (workingField d) l
  unlock : s.on PHO_INT_STATUS.UNLOCK = true → t.on PHO_INT_STATUS.UNLOCK = true
  pho : ∃ dirs, t.pho = { s.pho with dirs := dirs }

section
variable {s t u : State} {l : Fin 32} {d : Nat}

theorem LaneMove.refl : LaneMove s s l d := ⟨.refl, rfl, id, s.pho.dirs, rfl⟩

theorem LaneMove.trans (h : LaneMove s t l d) (k : LaneMove t u l d) : LaneMove s u l d := by
  obtain ⟨dirs, hs⟩ := h.pho
  obtain ⟨dirs', ht⟩ := k.pho
  exact ⟨.step h.goes k.goes (by decide), k.working.trans h.working, k.unlock ∘ h.unlock, dirs', by rw [ht, hs]⟩

theorem LaneMove.of_putDir (x : PhoDir) : LaneMove s (s.putDir l d x) l d :=
  ⟨.pho .refl (by decide), rfl, id, _, rfl⟩

theorem LaneMove.of_emit (x : Out) : LaneMove s (s.emit x) l d :=
  ⟨.step .refl emit_goes (by decide), rfl, id, s.pho.dirs, rfl⟩

/-- A field of the link's own register beside what it works on. -/
theorem LaneMove.of_set {f : Field} (v : Nat) (hr : f.reg = PHO_LINK) (hf : f.beside (workingField d) = true) : LaneMove s (s.set f v l) l d := by
  refine ⟨.step .refl set_goes (by decide), get_set_beside _ _ _ _ _ _ hf, fun h => ?_, s.pho.dirs, rfl⟩
  rw [State.on, get_set_far _ _ _ _ (by rw [hr]; exact Reg.addr_ne_of_apartFor (n := 32) (n' := 1) (by decide) l.isLt (by decide))]
  exact h

theorem phoReport_link {f : Field} (hf : f.reg = PHO_LINK) (s : State) (a b c e k : Nat) :
    ((s.phoLog a b c e k).raise PHO_INT_STATUS.UNLOCK).get f l = s.get f l := by
  have hfar : ∀ r : Reg, r.apartFor PHO_LINK 1 0 32 0 = true → r.addr 0 0 ≠ f.reg.addr l 0 := fun r hr => by
    rw [hf]
    exact Reg.addr_ne_of_apartFor hr (by decide) l.isLt
  rw [raise_get, get_set_far _ _ _ _ (hfar _ (by decide)), phoLog_get _ _ _ _ _ _ _ _ _ (hfar _ (by decide))]

theorem phoReport_unlock (s : State) (a b c e k : Nat) :
    ((s.phoLog a b c e k).raise PHO_INT_STATUS.UNLOCK).on PHO_INT_STATUS.UNLOCK = true := by
  simp (disch := decide) [State.on]

theorem LaneMove.of_report (a b c e k : Nat) : LaneMove s ((s.phoLog a b c e k).raise PHO_INT_STATUS.UNLOCK) l d :=
  ⟨.step (.step .refl phoLog_goes (by decide)) raise_goes (by decide), phoReport_link (workingField_reg d) _ _ _ _ _ _,
    fun _ => phoReport_unlock _ _ _ _ _ _, s.pho.dirs, by rw [raise_goes.only .pho rfl, phoLog_pho]⟩

theorem cal_beside_working (d : Nat) : PHO_LINK.CAL_WAVELENGTH.beside (workingField d) = true := by
  unfold workingField
  split <;> decide

theorem laneFails_move (wl lane : Nat) : LaneMove s (s.laneFails l d wl lane) l d := by
  unfold State.laneFails
  extract_lets x u v w
  cases hsp : x.spare with
  | none => exact .of_report _ _ _ _ _
  | some sp =>
    dsimp only
    split
    · exact .of_report _ _ _ _ _
    · have hsu : LaneMove s u l d := by
        unfold u
        split
        · split
          · exact .of_emit _
          · exact .refl
        · exact .refl
      have hsw : LaneMove s w l d := ((hsu.trans (.of_putDir { x with use := 2, cal := none })).trans
        (.of_set lane (spareField_reg d) (working_beside_spare d).2)).trans
        ((LaneMove.of_set 0xF rfl (cal_beside_working d)).trans (.of_report 0x0702 l wl d 0))
      split
      · exact hsw.trans (.of_emit _)
      · exact hsw

theorem laneAnswer_move (wl : Nat) : LaneMove s (s.laneAnswer l d wl) l d := by
  have hcal : ∀ t : State, LaneMove t (t.set PHO_LINK.CAL_WAVELENGTH 0xF l) l d := fun t => .of_set _ rfl (cal_beside_working d)
  unfold State.laneAnswer
  extract_lets x
  split
  · split
    · exact (LaneMove.of_putDir _).trans (hcal _)
    · have hspare := ((LaneMove.of_putDir (s := s) (l := l) (d := d) { x with spare := none, use := 0, cal := none }).trans
        (.of_set 0xF (spareField_reg d) (working_beside_spare d).2)).trans (hcal _)
      split
      · exact hspare
      · exact hspare.trans (laneFails_move _ _)
  · split
    · exact .refl
    · split
      · exact .of_putDir _
      · exact laneFails_move _ _

theorem wavelengthLost_working (s : State) (wl : Nat) :
    (s.wavelengthLost l d wl).get (workingField d) l = setBit (s.get (workingField d) l) wl false % 2 ^ 9 := by
  obtain ⟨hfit, hw⟩ := workingField_fits d
  unfold State.wavelengthLost
  rw [phoReport_link (workingField_reg d), get_set_mod _ _ _ _ _ hfit, hw]

end

/-- What follows a wavelength lost. -/
structure WavelengthLost (s t : State) (l d wl : Nat) : Prop where
  working : t.get (workingField d) l = setBit (s.get (workingField d) l) wl false % 2 ^ 9
  unlock : t.on PHO_INT_STATUS.UNLOCK = true
  sent : Sent s t (.report 0x0701)
  pho : ∃ dirs, t.pho = { s.pho with dirs := dirs }

theorem wavelengthFails_lost (s : State) (l : Fin 32) (d wl : Nat) : WavelengthLost s (s.wavelengthFails l d wl) l d wl := by
  rw [wavelengthFails_eq]
  obtain ⟨hgoes, hwork, hunlock, dirs, hpho⟩ := laneAnswer_move (s := s.wavelengthLost l d wl) (l := l) (d := d) wl
  have hlost : (s.wavelengthLost l d wl).pho = s.pho := by
    unfold State.wavelengthLost
    rw [raise_goes.only .pho rfl, phoLog_pho]
    rfl
  have hsent : Sent s (s.wavelengthLost l d wl) (.report 0x0701) :=
    (phoLog_sent (u := (s.addSat PHO_COUNT.UNLOCK 1).set (workingField d) (setBit (s.get (workingField d) l) wl false) l)
      (List.prefix_refl _)).of_goes raise_goes
  exact ⟨hwork.trans (wavelengthLost_working s wl), hunlock (phoReport_unlock _ _ _ _ _ _), hsent.of_goes hgoes, dirs, by rw [hpho, hlost]⟩

end Sys2Proof.Machine

namespace Sys2Proof.Machine
open Csr

/-! ### Loop updates (R303) -/

/-- Whether a ring's update unlocks it: four updates past 8 GHz, or a demand at its limit. -/
def State.ringFails (s : State) (b j : Nat) (h : Int) (far : Bool) : Bool :=
  decide (((if far then lookupD s.pho.high (b, j) 0 + 1 else 0) ≥ 4 ∨ h ≥ Config.heaterMax b j) ∧ (b, j) ∉ s.pho.unlocked)

/-- A ring's update before a failure: its heater and its count of updates past 8 GHz. -/
def State.ringDriven (s : State) (b j : Nat) (h : Int) (far : Bool) : State :=
  { s with pho := { s.pho with
    heater := assocPut s.pho.heater (b, j)
      (Config.heaterDrive (min h.toNat (Config.heaterMax b j)) (lookupD s.pho.eff (b, j) (Config.ringEff b j)))
    high := (assocPut s.pho.high (b, j) (if far then lookupD s.pho.high (b, j) 0 + 1 else 0)) } }

/-- A ring among the unlocked ones. -/
def State.ringUnlocked (s : State) (b j : Nat) : State := { s with pho := { s.pho with unlocked := s.pho.unlocked ++ [(b, j)] } }

theorem ringUpdate_eq (s : State) (b j : Nat) (h : Int) (far : Bool) : s.ringUpdate b j h far =
    if s.ringFails b j h far = true then ((s.ringDriven b j h far).ringUnlocked b j).wavelengthFails (b / 2) (b % 2) j
    else s.ringDriven b j h far := by
  simp only [State.ringFails, decide_eq_true_eq]
  rfl

section
variable (s : State) (b : Fin 64) (j : Nat) (h : Int) (far : Bool)

/-- What a ring's update leaves of the optics' state besides the lanes of the links. -/
theorem ringUpdate_pho : ∃ dirs, (s.ringUpdate b j h far).pho =
    { (s.ringDriven b j h far).pho with
      unlocked := if s.ringFails b j h far then s.pho.unlocked ++ [(b.val, j)] else s.pho.unlocked
      dirs := dirs } := by
  rw [ringUpdate_eq]
  split
  · next hf =>
    obtain ⟨dirs, hpho⟩ := (wavelengthFails_lost ((s.ringDriven b j h far).ringUnlocked b j) ⟨b.val / 2, by omega⟩ (b.val % 2) j).pho
    exact ⟨dirs, by rw [hpho]; rfl⟩
  · next hf => exact ⟨s.pho.dirs, rfl⟩

theorem ringUpdate_high (i : Nat) : lookupD (s.ringUpdate b j h far).pho.high (b.val, i) 0 =
    if j = i then (if far then lookupD s.pho.high (b.val, j) 0 + 1 else 0) else lookupD s.pho.high (b.val, i) 0 := by
  obtain ⟨dirs, hpho⟩ := ringUpdate_pho s b j h far
  rw [hpho]
  exact (lookupD_assocPut_eq _ _ _ _ _).trans (by simp)

theorem ringUpdate_heater (i : Nat) : lookupD (s.ringUpdate b j h far).pho.heater (b.val, i) 0 =
    if j = i then Config.heaterDrive (min h.toNat (Config.heaterMax b j)) (lookupD s.pho.eff (b.val, j) (Config.ringEff b j))
    else lookupD s.pho.heater (b.val, i) 0 := by
  obtain ⟨dirs, hpho⟩ := ringUpdate_pho s b j h far
  rw [hpho]
  exact (lookupD_assocPut_eq _ _ _ _ _).trans (by simp)

theorem ringUpdate_eff : (s.ringUpdate b j h far).pho.eff = s.pho.eff := by
  obtain ⟨dirs, hpho⟩ := ringUpdate_pho s b j h far
  rw [hpho]
  rfl

theorem ringUpdate_locked : (s.ringUpdate b j h far).pho.locked = s.pho.locked := by
  obtain ⟨dirs, hpho⟩ := ringUpdate_pho s b j h far
  rw [hpho]
  rfl

theorem ringUpdate_unlocked : (s.ringUpdate b j h far).pho.unlocked =
    if s.ringFails b j h far then s.pho.unlocked ++ [(b.val, j)] else s.pho.unlocked := by
  obtain ⟨dirs, hpho⟩ := ringUpdate_pho s b j h far
  rw [hpho]

theorem ringUpdate_keepsUnlocked {x : Nat × Nat} (hx : x ∈ s.pho.unlocked) : x ∈ (s.ringUpdate b j h far).pho.unlocked := by
  rw [ringUpdate_unlocked]
  split
  · exact List.mem_append_left _ hx
  · exact hx

theorem ringUpdate_atLimit (hh : (Config.heaterMax b j : Int) ≤ h) : (b.val, j) ∈ (s.ringUpdate b j h far).pho.unlocked := by
  by_cases hx : (b.val, j) ∈ s.pho.unlocked
  · exact ringUpdate_keepsUnlocked s b j h far hx
  · have hf : s.ringFails b j h far = true := decide_eq_true ⟨.inr hh, hx⟩
    rw [ringUpdate_unlocked, if_pos hf]
    exact List.mem_append_right _ (List.mem_singleton.mpr rfl)

/-- An update that neither sees its fourth update past 8 GHz nor reaches its limit. -/
theorem ringUpdate_holds (hh : h < Config.heaterMax b j) : s.ringUpdate b j h false = s.ringDriven b j h false := by
  have hno : ¬ s.ringFails b j h false = true := fun hf => by
    obtain ⟨hf | hf, _⟩ := of_decide_eq_true hf
    · exact absurd hf (by simp)
    · exact absurd hh (not_lt.mpr hf)
  rw [ringUpdate_eq, if_neg hno]

end

/-- The updates of a bank's rings. -/
def State.ringsUpdated (s : State) (b : Nat) (h : List Int) (far : BitVec 9) : State :=
  (List.range 9).foldl (fun s j => s.ringUpdate b j (h.getD j 0) (far.toNat.testBit j)) s

/-- A loop update without feed-forward, of a bank whose table is not to be read again. -/
theorem execRingLockUpdate_plain {s : State} (b : Fin 64) (integ : List Int) (far : BitVec 9)
    (hrun : s.pho.stopped.contains (b.val / 2) = false) (hff : s.on PHO_CTRL.FF_EN = false) (hload : s.pho.reload.contains b.val = false) :
    exec (.ringLockUpdate b integ far) s =
      let u := s.ringsUpdated b (bankDemand (lookupD s.pho.banks b.val (zeros 192)) ((List.range 9).map (fun i => integ.getD i 0 + 0))) far
      .next (if far = 0 then { u with pho := { u.pho with locked := addOnce u.pho.locked b.val } } else u).phoReadyUpdate := by
  have hread : s.bankRead b = s := if_neg (by simpa using hload)
  show execRingLockUpdate b integ far s = _
  unfold execRingLockUpdate
  rw [if_neg (by simpa using hrun)]
  simp only [hread, hff, Bool.false_eq_true, if_false]
  rfl

/-- The demand of a ring: its row of the bank's matrix times the integrators. -/
theorem bankDemand_ring (e : Bytes) (integ : List Int) {j : Nat} (hj : j < 9) :
    (bankDemand e ((List.range 9).map (fun i => integ.getD i 0 + 0))).getD j 0 =
      ((List.range 9).foldl (fun (a : Int) i => a + toSigned 16 (fieldAt e (18 * j + 2 * i) 2) * integ.getD i 0) 0) / 2 ^ 14 := by
  have hget : ∀ (f : Nat → Int) {i : Nat}, i < 9 → ((List.range 9).map f).getD i 0 = f i := fun f i hi => by
    rw [List.getD_eq_getElem?_getD, List.getElem?_map, List.getElem?_range hi]
    rfl
  rw [bankDemand, hget _ hj]
  congr 1
  refine List.foldl_ext _ _ _ fun a i hi => ?_
  rw [hget _ (List.mem_range.mp hi), add_zero]

theorem phoReadyUpdate_pho (s : State) : s.phoReadyUpdate.pho = s.pho := phoReadyUpdate_goes.only .pho rfl

theorem ringLockUpdate_effect (s : State) (b : Fin 64) (integ : List Int) :
    let e := lookupD s.pho.banks b.val (zeros 192)
    let h := fun (j : Nat) => ((List.range 9).foldl (fun (a : Int) i => a + toSigned 16 (fieldAt e (18 * j + 2 * i) 2) *
        integ.getD i 0) 0) / 2 ^ 14
    s.pho.stopped.contains (b.val / 2) = false ∧ s.on PHO_CTRL.FF_EN = false ∧ s.pho.reload.contains b.val = false →
    Does (.ringLockUpdate b integ 0) s [.csr, .out, .freeCtr, .intc, .pho] (fun t =>
      (∀ j : Fin 9, lookupD t.pho.high (b.val, j.val) 0 = 0 ∧ lookupD t.pho.heater (b.val,
          j.val) 0 = Config.heaterDrive (min (h j).toNat (Config.heaterMax b j)) (lookupD s.pho.eff (b.val,
          j.val) (Config.ringEff b j))) ∧
      t.pho.locked = addOnce s.pho.locked b.val ∧ (∀ j : Fin 9, (Config.heaterMax b j : Int) ≤ h j →
          t.pho.unlocked.contains (b.val, j.val) = true) ∧
      ((∀ j : Fin 9, h j < (Config.heaterMax b j : Int)) → t.pho.unlocked = s.pho.unlocked ∧ t.pho.dirs = s.pho.dirs)) := by
  rintro e h ⟨hrun, hff, hload⟩
  have hexec := execRingLockUpdate_plain b integ 0 hrun hff hload
  generalize hd : bankDemand (lookupD s.pho.banks b.val (zeros 192)) ((List.range 9).map (fun i => integ.getD i 0 + 0)) = ds at hexec
  have hdemand : ∀ j : Nat, j < 9 → ds.getD j 0 = h j := fun j hj => hd ▸ bankDemand_ring e integ hj
  have hfar : ∀ j, (0 : BitVec 9).toNat.testBit j = false := fun j => Nat.zero_testBit j
  clear_value h
  let f := fun (s : State) j => s.ringUpdate b j (ds.getD j 0) ((0 : BitVec 9).toNat.testBit j)
  have hring : ∀ {α : Type} (read : State → α) (j : Nat), j < 9 → (∀ t i, i ≠ j → read (f t i) = read t) → ∀ v,
      (∀ t, t.pho.eff = s.pho.eff → read (f t j) = v) → read (s.ringsUpdated b ds 0) = v := fun read j hj hother v hat =>
    foldl_writes (f := f) (P := fun t => t.pho.eff = s.pho.eff) (fun t i ht => (ringUpdate_eff t b i _ _).trans ht) hat hother rfl
      (.inl (List.mem_range.mpr hj))
  have hlocked : (s.ringsUpdated b ds 0).pho.locked = s.pho.locked :=
    foldl_keeps (f := f) (read := fun t : State => t.pho.locked) fun t i _ => ringUpdate_locked t b i _ _
  simp only [if_true] at hexec
  refine Does.of_next hexec execRingLockUpdate_goes ?_
  simp only [phoReadyUpdate_pho]
  refine ⟨fun j => ⟨?_, ?_⟩, ?_, fun j hj => List.contains_iff_mem.mpr ?_, fun hall => ?_⟩
  · refine hring (fun t => lookupD t.pho.high (b.val, j.val) 0) j j.isLt (fun t i hi => ?_) 0 fun t _ => ?_
    · exact (ringUpdate_high t b i _ _ j).trans (if_neg hi)
    · exact (ringUpdate_high t b j _ _ j).trans (by rw [hfar]; simp)
  · refine hring (fun t => lookupD t.pho.heater (b.val, j.val) 0) j j.isLt (fun t i hi => ?_) _ fun t ht => ?_
    · exact (ringUpdate_heater t b i _ _ j).trans (if_neg hi)
    · refine (ringUpdate_heater t b j _ _ j).trans ?_
      rw [if_pos rfl, ht, hdemand _ j.isLt]
  · rw [hlocked]
  · exact foldl_establishes (f := f) (x := j.val) (P := fun t => (b.val, j.val) ∈ t.pho.unlocked) (Q := fun _ => True)
      (fun _ _ _ _ _ => trivial) (fun t _ => ringUpdate_atLimit t b j _ _ (by rw [hdemand _ j.isLt]; exact hj))
      (fun t i _ _ ht => ringUpdate_keepsUnlocked t b i _ _ ht) List.nodup_range (.inl ⟨List.mem_range.mpr j.isLt, trivial⟩)
  · have hkeeps : ∀ {α : Type} (read : State → α), (∀ t j, read (t.ringDriven b j (ds.getD j 0) false) = read t) →
        read (s.ringsUpdated b ds 0) = read s := fun read hr =>
      foldl_keeps (f := f) fun t i hi => by
        have hi9 := List.mem_range.mp hi
        have heq : f t i = t.ringDriven b i (ds.getD i 0) false := by
          simp only [f, hfar]
          exact ringUpdate_holds t b i _ (by rw [hdemand _ hi9]; exact hall ⟨i, hi9⟩)
        rw [heq, hr]
    exact ⟨hkeeps (fun t => t.pho.unlocked) fun _ _ => rfl, hkeeps (fun t => t.pho.dirs) fun _ _ => rfl⟩

/-- What a ring that lost its lock shows. -/
structure RingLost (s : State) (b : Fin 64) (r : Nat) (t : State) : Prop where
  unlocked : (b.val, r) ∈ t.pho.unlocked
  sent : Sent s t (.report 0x0701)
  unlock : t.on PHO_INT_STATUS.UNLOCK = true
  working : (t.get (workingField (b.val % 2)) (b.val / 2)).testBit r = false

/-- What was sent since a later state was sent since an earlier one. -/
theorem Sent.after {s t u : State} {x : Out} (h : Sent t u x) (w : s.out <+: t.out) : Sent s u x := by
  unfold Sent at h ⊢
  have hle := w.length_le
  rw [show t.out.length = s.out.length + (t.out.length - s.out.length) by omega, ← List.drop_drop] at h
  exact List.mem_of_mem_drop h

theorem ringUpdate_lost {s t : State} {b : Fin 64} {r : Nat} {h : Int} (hhigh : lookupD t.pho.high (b.val, r) 0 = 3)
    (hlock : (b.val, r) ∉ t.pho.unlocked) (hout : s.out <+: t.out) : RingLost s b r (t.ringUpdate b r h true) := by
  have hf : t.ringFails b r h true = true := decide_eq_true ⟨.inl (by rw [if_pos rfl, hhigh]), hlock⟩
  have hun := ringUpdate_unlocked t b r h true
  rw [if_pos hf] at hun
  rw [ringUpdate_eq, if_pos hf] at hun ⊢
  obtain ⟨hwork, hunlock, hsent, _⟩ :=
    wavelengthFails_lost ((t.ringDriven b r h true).ringUnlocked b r) ⟨b.val / 2, by omega⟩ (b.val % 2) r
  refine ⟨?_, hsent.after hout, hunlock, ?_⟩
  · rw [hun]
    exact List.mem_append_right _ (List.mem_singleton.mpr rfl)
  · rw [hwork, Nat.testBit_mod_two_pow, testBit_setBit_false, Bool.and_false]

theorem RingLost.ringUpdate {s t : State} {b : Fin 64} {r j : Nat} {h : Int} {far : Bool} (ht : RingLost s b r t) (hj : j ≠ r) :
    RingLost s b r (t.ringUpdate b j h far) := by
  have hun := ringUpdate_keepsUnlocked t b j h far ht.unlocked
  have hsent := ht.sent.of_goes (ringUpdate_goes (b := b) (j := j) (h := h) (far := far))
  rw [ringUpdate_eq] at hun hsent ⊢
  split at hun
  · next hf =>
    rw [if_pos hf] at hsent ⊢
    obtain ⟨hwork, hunlock, _, _⟩ :=
      wavelengthFails_lost ((t.ringDriven b j h far).ringUnlocked b j) ⟨b.val / 2, by omega⟩ (b.val % 2) j
    refine ⟨hun, hsent, hunlock, ?_⟩
    rw [hwork, Nat.testBit_mod_two_pow, testBit_setBit_other _ hj]
    exact Bool.and_eq_false_iff.mpr (.inr ht.working)
  · next hf =>
    rw [if_neg hf] at hsent ⊢
    exact ⟨hun, hsent, ht.unlock, ht.working⟩

theorem phoReadyUpdate_otherRegs (s : State) : OtherRegs [PHO_STATUS.addr 0 0] s s.phoReadyUpdate := by
  unfold State.phoReadyUpdate
  extract_lets need
  split
  · exact .set _ _ _ (List.mem_singleton.mpr rfl)
  · exact .refl

/-- The end of a loop update leaves what a lost ring shows. -/
theorem RingLost.updated {s t u : State} {b : Fin 64} {r : Nat} (ht : RingLost s b r t) (hcsr : u.csr = t.csr) (hout : u.out = t.out)
    (hun : u.pho.unlocked = t.pho.unlocked) : RingLost s b r u.phoReadyUpdate := by
  have hget : ∀ (f : Field) (i : Nat), f.reg.addr i 0 ≠ PHO_STATUS.addr 0 0 → u.phoReadyUpdate.get f i = t.get f i := fun f i hf =>
    ((phoReadyUpdate_otherRegs u).get (by simpa using hf)).trans (get_congr hcsr f i 0)
  have hsent : Sent s u (.report 0x0701) := ht.sent.mono (by rw [hout])
  refine ⟨?_, hsent.of_goes phoReadyUpdate_goes, ?_, ?_⟩
  · rw [phoReadyUpdate_pho, hun]
    exact ht.unlocked
  · rw [State.on, hget _ _ (by decide)]
    exact ht.unlock
  · rw [hget _ _ (by
      rw [workingField_reg]
      exact (Reg.addr_ne_of_apartFor (n := 1) (n' := 32) (by decide : PHO_STATUS.apartFor PHO_LINK 1 0 32 0 = true) (by decide) (by omega)).symm)]
    exact ht.working

theorem ringLost_effect (s : State) (b : Fin 64) (r : Fin 9)
    (h : s.pho.stopped.contains (b.val / 2) = false ∧ s.on PHO_CTRL.FF_EN = false ∧ s.pho.reload.contains b.val = false ∧
      lookupD s.pho.high (b.val, r.val) 0 = 3)
    (hlock : s.pho.unlocked.contains (b.val, r.val) = false) :
    Does (.ringLockUpdate b [] (BitVec.ofNat 9 (2 ^ r.val))) s [.csr, .out, .freeCtr, .intc, .pho] (fun t =>
      t.pho.unlocked.contains (b.val, r.val) = true ∧ Sent s t (.report 0x0701) ∧ t.on PHO_INT_STATUS.UNLOCK = true ∧
      (t.get (if b.val % 2 = 0 then PHO_LINK.TX_WORKING else PHO_LINK.RX_WORKING) (b.val / 2)).testBit r.val = false) := by
  obtain ⟨hrun, hff, hload, hhigh⟩ := h
  have hexec := execRingLockUpdate_plain b [] (BitVec.ofNat 9 (2 ^ r.val)) hrun hff hload
  generalize bankDemand (lookupD s.pho.banks b.val (zeros 192)) ((List.range 9).map (fun i => [].getD i 0 + 0)) = ds at hexec
  have hbit : (BitVec.ofNat 9 (2 ^ r.val)).toNat.testBit r.val = true := by
    rw [BitVec.toNat_ofNat, Nat.testBit_mod_two_pow, Nat.testBit_two_pow_self]
    simp
  have hlost : RingLost s b r (s.ringsUpdated b ds (BitVec.ofNat 9 (2 ^ r.val))) :=
    foldl_establishes (f := fun (s : State) j => s.ringUpdate b j (ds.getD j 0) ((BitVec.ofNat 9 (2 ^ r.val)).toNat.testBit j)) (x := r.val)
      (Q := fun (t : State) => lookupD t.pho.high (b.val, r.val) 0 = 3 ∧ (b.val, r.val) ∉ t.pho.unlocked ∧ s.out <+: t.out)
      (fun t i _ hi ht => by
        obtain ⟨hh, hu, ho⟩ := ht
        refine ⟨?_, ?_, ho.trans ringUpdate_goes.out⟩
        · rw [ringUpdate_high, if_neg hi]
          exact hh
        · rw [ringUpdate_unlocked]
          split
          · simpa [Ne.symm hi] using hu
          · exact hu)
      (fun t ht => by
        obtain ⟨hh, hu, ho⟩ := ht
        rw [hbit]
        exact ringUpdate_lost hh hu ho)
      (fun t i _ hi ht => ht.ringUpdate hi) List.nodup_range
      (.inl ⟨List.mem_range.mpr r.isLt, hhigh, by simpa using hlock, List.prefix_refl _⟩)
  generalize s.ringsUpdated b ds (BitVec.ofNat 9 (2 ^ r.val)) = u at hexec hlost
  dsimp only at hexec
  generalize hv : (if BitVec.ofNat 9 (2 ^ r.val) = 0 then { u with pho := { u.pho with locked := addOnce u.pho.locked b.val } } else u) = v at hexec
  have hvu : v.csr = u.csr ∧ v.out = u.out ∧ v.pho.unlocked = u.pho.unlocked := by
    rw [← hv]
    split <;> exact ⟨rfl, rfl, rfl⟩
  obtain ⟨hcsr, hout, hun⟩ := hvu
  obtain ⟨hunlocked, hsent, hunlock, hwork⟩ := hlost.updated hcsr hout hun
  exact Does.of_next hexec execRingLockUpdate_goes ⟨List.contains_iff_mem.mpr hunlocked, hsent, hunlock, hwork⟩

/-- Settles O33: each event of a link by the registers of the link and the direction that it writes. -/
theorem photonicsLinks : Obligations.PhotonicsLinks := by
  refine ⟨linkTrainingEnd_effect, ringLockUpdate_effect, ringLost_effect, ringRelocked_effect, sensorSample_effect, sensorFault_effect,
    calStep_effect, mirrorSwitch_effect, ?mirrorBack, calSweepEnd_effect, ?badField, ?laneMap, ?laneSpare⟩
  case mirrorBack =>
    intro s l d lane x huse
    have hexec : exec (.mirrorSwitch l d lane true) s = .next ((s.putDir l d { x with use := 0, cal := none }).set (spareField d) 0xF l) := by
      show execMirrorSwitch l d lane true s = _
      unfold execMirrorSwitch
      exact (if_pos rfl).trans (if_pos huse)
    refine Does.of_next hexec (execMirrorSwitch_goes (lane := lane) (back := true)) ⟨?_, get_set_spareField _ d l 15 (by decide)⟩
    rw [phoDir_set, phoDir_putDir_same]
  case badField =>
    intro s l f hbad
    have hexec : exec (.laneMapReceived l f) s = .next (s.addSat PHO_COUNT.BAD_FIELD 1) := by
      show execLaneMapReceived l f s = _
      unfold execLaneMapReceived
      exact if_pos (by omega)
    exact ⟨_, hexec, (Goes.step .refl addSat_goes (by decide) : Goes [.csr] s _).only, get_addSat _ _ _ _ _ (by decide)⟩
  case laneMap =>
    rintro s l lane wl w x ⟨hlw, hlen, hspare, hlane⟩
    have hexec := execLaneMapReceived_lane s l (wl := wl) ⟨hlw, hlen⟩
    dsimp only at hexec
    rw [if_neg hspare, if_neg hlane] at hexec
    exact ⟨_, hexec, (Goes.pho .refl (by decide) : Goes [.pho] s _).only, phoDir_putDir_same _ _ _ _⟩
  case laneSpare =>
    rintro s l lane w wl x ⟨hlw, hlen, hspare⟩
    have hexec := execLaneMapReceived_lane s l (wl := wl) ⟨hlw, hlen⟩
    dsimp only at hexec
    rw [if_pos hspare] at hexec
    refine Does.of_next hexec execLaneMapReceived_goes ⟨?_, get_set_fits _ _ _ _ _ ⟨by decide, lane.isLt.trans (by decide)⟩⟩
    rw [phoDir_set, phoDir_putDir_same]

end Sys2Proof.Machine

namespace Sys2Proof.Machine
open Csr

/-! ## Flows (R191 to R232) -/

theorem flow_putFlow (s : State) (j p j' p' : Nat) (f : Flow) :
    (s.putFlow j p f).flow j' p' = if (j, p) = (j', p') then f else s.flow j' p' := lookupD_assocPut_eq _ _ _ _ _

theorem flow_putFlow_same (s : State) (j p : Nat) (f : Flow) : (s.putFlow j p f).flow j p = f :=
  (flow_putFlow s j p j p f).trans (if_pos rfl)

theorem flow_of_xport {s t : State} (h : t.xport = s.xport) (j p : Nat) : t.flow j p = s.flow j p := by rw [State.flow, h]; rfl

/-- A control message once it has its place: in SRAM, where it waits to be sealed, or nowhere yet. -/
def CtrlOut.placed (c : CtrlOut) (at' : Option Nat) : CtrlOut := { c with addr := at'.getD 0, waiting := at'.isSome }

/-- A control message placed joins its flow's messages. -/
theorem placeControl_flow (s : State) (j p : Nat) (c : CtrlOut) : ∃ a, ∀ j' p', (s.placeControl j p c).flow j' p' =
    if (j, p) = (j', p') then { s.flow j p with ctrlOut := (s.flow j p).ctrlOut ++ [c.placed a] } else s.flow j' p' := by
  unfold State.placeControl
  split
  · exact ⟨none, fun j' p' => flow_putFlow _ _ _ _ _ _⟩
  · next a _ =>
    refine ⟨some a, fun j' p' => ?_⟩
    have hflow : ∀ k q, (s.writeBytes a (s.controlShardBytes j p c.seq c.ctype c.body)).flow k q = s.flow k q := fun k q =>
      flow_of_xport (writeBytes_goes.only .xport rfl) k q
    rw [flow_putFlow, hflow, hflow]
    rfl

/-- An ACK sent joins its flow's messages, and counts. -/
theorem sendControl_ack (s : State) (j p : Nat) (msg : Bytes) : ∃ ack : CtrlOut, ack.ctype = 1 ∧
    ∀ j' p', (s.sendControl j p 1 msg).flow j' p' = if (j, p) = (j', p') then
      { s.flow j p with ackCount := (s.flow j p).ackCount + 1, ctrlOut := (s.flow j p).ctrlOut ++ [ack] } else s.flow j' p' := by
  let u := s.putFlow j p { s.flow j p with ackCount := (s.flow j p).ackCount + 1 }
  obtain ⟨a, ha⟩ := placeControl_flow u j p ⟨(s.flow j p).ackCount, 1, msg ++ zeros (16 - msg.length), none, true, true, 0⟩
  refine ⟨CtrlOut.placed ⟨(s.flow j p).ackCount, 1, msg ++ zeros (16 - msg.length), none, true, true, 0⟩ a, rfl,
    fun j' p' => (ha j' p').trans ?_⟩
  have hu : u.flow j p = { s.flow j p with ackCount := (s.flow j p).ackCount + 1 } := flow_putFlow_same _ _ _ _
  split
  · rw [hu]
  · next h => exact (flow_putFlow _ _ _ _ _ _).trans (if_neg h)

/-- The flow whose due reports an ACK takes. -/
def Flow.reported (f : Flow) : Flow :=
  { f with
    nacks := f.nacks.drop (((mergeNacks f.nacks).take 16).foldl (fun a n => a + n.2.1) 0), acks := f.acks.drop 64, advanced := false }

theorem sendAck_eq (s : State) (j p : Nat) : ∃ body, s.sendAck j p = (s.putFlow j p (s.flow j p).reported).sendControl j p 1 body := by
  unfold State.sendAck
  extract_lets f ns cs job
  split
  split
  exact ⟨_, rfl⟩

/-- The flow after an ACK: what it reports is no longer due, and the ACK is among its messages. -/
def Flow.acked (f : Flow) (ack : CtrlOut) : Flow := { f.reported with ackCount := f.ackCount + 1, ctrlOut := f.ctrlOut ++ [ack] }

theorem sendAck_flow (s : State) (j p : Nat) : ∃ ack : CtrlOut, ack.ctype = 1 ∧ ∀ j' p', (s.sendAck j p).flow j' p' =
    if (j, p) = (j', p') then (s.flow j p).acked ack else s.flow j' p' := by
  obtain ⟨body, heq⟩ := sendAck_eq s j p
  obtain ⟨ack, htype, hflow⟩ := sendControl_ack (s.putFlow j p (s.flow j p).reported) j p body
  refine ⟨ack, htype, fun j' p' => ?_⟩
  rw [heq, hflow, flow_putFlow_same]
  split
  · rfl
  · next h => exact (flow_putFlow _ _ _ _ _ _).trans (if_neg h)

/-- The flow with a codeword NACKed. -/
def Flow.nacked (f : Flow) (cw : Nat) (c : OpenCw) : Flow :=
  { f with
    openCws := f.openCws.map (fun x => if x = c then { c with nacked := true } else x)
    nacks := f.nacks ++ [(cw, maskOf (c.shards.map (·.1)))] }

/-- Whether a flow's next ACK is full. -/
def Flow.ackFull (f : Flow) : Prop := (mergeNacks f.nacks).length ≥ 16 ∨ f.acks.length ≥ 64

theorem nack_flow (s : State) {j p cw : Nat} {c : OpenCw} (h : (s.flow j p).openCws.find? (fun c => c.seq == cw) = some c) :
    (¬ ((s.flow j p).nacked cw c).ackFull → (s.nack j p cw).flow j p = (s.flow j p).nacked cw c) ∧
    (((s.flow j p).nacked cw c).ackFull → ∃ ack, (s.nack j p cw).flow j p = ((s.flow j p).nacked cw c).acked ack) := by
  let u := (s.addSat XPORT_RETX_COUNT.NACKED 1).putFlow j p ((s.flow j p).nacked cw c)
  have hu : u.flow j p = (s.flow j p).nacked cw c := flow_putFlow_same _ _ _ _
  have heq : s.nack j p cw = u.ackIfFull j p := by
    unfold State.nack
    simp only [h]
    rfl
  rw [heq, State.ackIfFull, hu]
  unfold Flow.ackFull
  constructor
  · intro hfull
    rw [if_neg hfull, hu]
  · intro hfull
    obtain ⟨ack, _, hflow⟩ := sendAck_flow u j p
    exact ⟨ack, by rw [if_pos hfull, hflow, if_pos rfl, hu]⟩

theorem nack_nacked (s : State) {j p cw : Nat} {c : OpenCw} (h : (s.flow j p).openCws.find? (fun c => c.seq == cw) = some c) :
    (s.nack j p cw).get XPORT_RETX_COUNT.NACKED = satAdd XPORT_RETX_COUNT.NACKED.w (s.get XPORT_RETX_COUNT.NACKED) 1 ∧
      OtherRegs [XPORT_RETX_COUNT.addr 0 0] s (s.nack j p cw) := by
  let u := s.addSat XPORT_RETX_COUNT.NACKED 1
  have heq : s.nack j p cw = (u.putFlow j p ((s.flow j p).nacked cw c)).ackIfFull j p := by
    unfold State.nack
    simp only [h]
    rfl
  have hcsr : (s.nack j p cw).csr = u.csr := by
    rw [heq, ackIfFull_goes.only .csr rfl]
    rfl
  exact ⟨(get_congr hcsr _ 0 0).trans (get_addSat _ _ _ _ _ (by decide)),
    (OtherRegs.andAddSat .refl (List.mem_singleton.mpr rfl)).andCsr hcsr⟩

/-- A codeword found among those open stands there with its sequence number. -/
theorem openCw_of_find {f : Flow} {cw : Nat} {c : OpenCw} (h : f.openCws.find? (fun c => c.seq == cw) = some c) :
    c ∈ f.openCws ∧ c.seq = cw := ⟨List.mem_of_find?_eq_some h, by simpa using List.find?_some h⟩

theorem shardWindowExpiry_effect (s : State) (j : Fin 128) (peer : Fin 16) (cw : BitVec 32) (c : OpenCw) :
    let f := s.flow j peer
    let ns := f.nacks ++ [(cw.toNat, maskOf (c.shards.map (·.1)))]
    f.openCws.find? (fun c => c.seq == cw.toNat) = some c ∧ c.nacked = false ∧ c.cut = false →
    Does (.shardWindowExpiry j peer cw) s [.csr, .mem, .poison, .xport] (fun t =>
      t.get XPORT_RETX_COUNT.NACKED = satAdd XPORT_RETX_COUNT.NACKED.w (s.get XPORT_RETX_COUNT.NACKED) 1 ∧
          OtherRegs [XPORT_RETX_COUNT.addr 0 0] s t ∧
      (t.flow j peer).openCws = f.openCws.map (fun x => if x = c then { c with nacked := true } else x) ∧
      ((mergeNacks ns).length < 16 ∧ f.acks.length < 64 → (t.flow j peer).nacks = ns ∧ (t.flow j peer).ackCount = f.ackCount) ∧
      (16 ≤ (mergeNacks ns).length ∨ 64 ≤ f.acks.length → (t.flow j peer).ackCount = f.ackCount + 1)) := by
  rintro f ns ⟨hfind, hn, hcut⟩
  have hexec : exec (.shardWindowExpiry j peer cw) s = .next (s.nack j peer cw.toNat) := by
    obtain ⟨hmem, hseq⟩ := openCw_of_find hfind
    exact if_pos (List.any_eq_true.mpr ⟨c, hmem, by simp [hseq, hn, hcut]⟩)
  obtain ⟨hcount, hregs⟩ := nack_nacked s hfind
  obtain ⟨hquiet, hfull⟩ := nack_flow s hfind
  have hiff : (f.nacked cw.toNat c).ackFull ↔ 16 ≤ (mergeNacks ns).length ∨ 64 ≤ f.acks.length := Iff.rfl
  refine ⟨_, hexec, nack_goes.only, hcount, hregs, ?_, fun hno => ?_, fun hyes => ?_⟩
  · by_cases hf : (f.nacked cw.toNat c).ackFull
    · obtain ⟨ack, he⟩ := hfull hf
      rw [he]
      rfl
    · rw [hquiet hf]
      rfl
  · have hf : ¬ (f.nacked cw.toNat c).ackFull := fun h => by
      rw [hiff] at h
      omega
    rw [hquiet hf]
    exact ⟨rfl, rfl⟩
  · obtain ⟨ack, he⟩ := hfull (hiff.mpr hyes)
    rw [he]
    rfl

theorem nackRepeatExpiry_effect (s : State) (j : Fin 128) (peer : Fin 16) (cw : BitVec 32) (c : OpenCw) :
    let f := s.flow j peer
    let ns := f.nacks ++ [(cw.toNat, maskOf (c.shards.map (·.1)))]
    f.openCws.find? (fun c => c.seq == cw.toNat) = some c ∧ c.nacked = true ∧ s.reaches j peer = true →
    (mergeNacks ns).length < 16 ∧ f.acks.length < 64 →
    Does (.nackRepeatExpiry j peer cw) s [.csr, .mem, .poison, .xport] (fun t =>
      t.get XPORT_RETX_COUNT.NACKED = satAdd XPORT_RETX_COUNT.NACKED.w (s.get XPORT_RETX_COUNT.NACKED) 1 ∧
          (t.flow j peer).nacks = ns) := by
  rintro f ns ⟨hfind, hn, hreach⟩ hroom
  have hexec : exec (.nackRepeatExpiry j peer cw) s = .next (s.nack j peer cw.toNat) := by
    obtain ⟨hmem, hseq⟩ := openCw_of_find hfind
    refine if_pos ?_
    rw [hreach, Bool.true_and]
    exact List.any_eq_true.mpr ⟨c, hmem, by simp [hseq, hn]⟩
  have hf : ¬ (f.nacked cw.toNat c).ackFull := fun h => by
    have : 16 ≤ (mergeNacks ns).length ∨ 64 ≤ f.acks.length := h
    omega
  refine ⟨_, hexec, nack_goes.only, (nack_nacked s hfind).1, ?_⟩
  rw [(nack_flow s hfind).1 hf]
  rfl

/-! ### ACKs at their interval (R226) -/

/-- A flow with an ACK among its messages and nothing that has advanced since. -/
def Flow.ackSent (f : Flow) : Prop := f.ctrlOut.any (fun c => c.ctype == 1) = true ∧ f.advanced = false

theorem sendAck_ackSent (s : State) (j p : Nat) : ((s.sendAck j p).flow j p).ackSent := by
  obtain ⟨ack, htype, hflow⟩ := sendAck_flow s j p
  rw [hflow, if_pos rfl]
  exact ⟨List.any_eq_true.mpr ⟨ack, List.mem_append_right _ (List.mem_singleton.mpr rfl), by simp [htype]⟩, rfl⟩

theorem Flow.ackSent.sendAck {s : State} {j p j' p' : Nat} (h : (s.flow j' p').ackSent) : ((s.sendAck j p).flow j' p').ackSent := by
  by_cases he : (j, p) = (j', p')
  · obtain ⟨rfl, rfl⟩ := Prod.mk.inj he
    exact sendAck_ackSent s j p
  · obtain ⟨ack, _, hflow⟩ := sendAck_flow s j p
    rw [hflow, if_neg he]
    exact h

/-- The flows of a list each get their ACK. -/
theorem sendAcks_ackSent {s : State} {l : List ((Nat × Nat) × Flow)} {f : (Nat × Nat) × Flow} (h : f ∈ l ∨ (s.flow f.1.1 f.1.2).ackSent) :
    ((l.foldl (fun s f => s.sendAck f.1.1 f.1.2) s).flow f.1.1 f.1.2).ackSent := by
  induction l generalizing s with
  | nil => simpa using h
  | cons k l ih =>
    refine ih ?_
    rcases h with h | h
    · rcases List.mem_cons.mp h with rfl | h
      · exact .inr (sendAck_ackSent _ _ _)
      · exact .inl h
    · exact .inr h.sendAck

theorem ackInterval_effect (s : State) (hready : s.xportReady = true) :
    Does (.ackInterval) s [.mem, .poison, .xport] (fun t =>
      (∀ f ∈ s.xport.flows, (f.2.nacks ≠ [] ∨ f.2.acks ≠ [] ∨ f.2.advanced = true) →
          (t.flow f.1.1 f.1.2).ctrlOut.any (fun c => c.ctype == 1) = true ∧ (t.flow f.1.1 f.1.2).advanced = false) ∧
      ((s.xport.flows.all (fun f => f.2.nacks == [] && f.2.acks == [] && !f.2.advanced)) = true → t = s)) := by
  generalize hl : s.xport.flows.filter (fun f => f.2.nacks != [] || f.2.acks != [] || f.2.advanced) = l
  have hexec : exec .ackInterval s = .next (l.foldl (fun s f => s.sendAck f.1.1 f.1.2) s) := by
    show execAckInterval s = _
    unfold execAckInterval
    rw [if_neg (by simp [hready]), hl]
  refine ⟨_, hexec, (Goes.foldl .refl fun _ _ h => .step h sendAck_goes (by decide) : Goes [.mem, .poison, .xport] s _).only,
    fun f hf hdue => ?_, fun hall => ?_⟩
  · refine sendAcks_ackSent (.inl ?_)
    rw [← hl]
    exact List.mem_filter.mpr ⟨hf, by simpa [or_assoc] using hdue⟩
  · have hnil : l = [] := by
      rw [← hl, List.filter_eq_nil_iff]
      intro f hf
      have := List.all_eq_true.mp hall f hf
      simp only [Bool.and_eq_true, beq_iff_eq, Bool.not_eq_true'] at this
      simp [this]
    rw [hnil]
    rfl

end Sys2Proof.Machine

namespace Sys2Proof.Machine
open Csr

/-! ### Port classes (R218, R219) -/

theorem nack_otherRegs (s : State) (j p cw : Nat) : OtherRegs [XPORT_RETX_COUNT.addr 0 0] s (s.nack j p cw) := by
  cases h : (s.flow j p).openCws.find? (fun c => c.seq == cw) with
  | some c => exact (nack_nacked s h).2
  | none =>
    unfold State.nack
    simp only [h]
    exact .refl

theorem shortTest_otherRegs (s : State) (j p cw : Nat) : OtherRegs [XPORT_RETX_COUNT.addr 0 0] s (s.shortTest j p cw) := by
  unfold State.shortTest
  extract_lets f
  split
  · exact .refl
  · split
    · exact .refl
    · exact OtherRegs.trans (.of_csr (putFlow_goes.only .csr rfl)) (nack_otherRegs _ _ _ _)

/-- A port whose class has changed, logged and reported. -/
def State.portClassed (s : State) (peer p cls : Nat) : State :=
  let s := s.set PEER_STATUS.DOWN_RX (setBit (s.get PEER_STATUS.DOWN_RX peer) p (cls == 2)) peer
  let s := s.set PEER_STATUS.LATE_RX (setBit (s.get PEER_STATUS.LATE_RX peer) p (cls == 1)) peer
  (s.xportLog (if cls = 0 then 0x091C else if cls = 1 then 0x091A else 0x091B) peer p 0).raise XPORT_INT_STATUS.PORT_CLASS

/-- The peer is told of a port's class, and the codewords that lost a port are tested. -/
def State.classTold (s : State) (peer p : Nat) : State :=
  let s := { s with xport := { s.xport with ports := assocPut s.xport.ports (peer, p) { s.portDelay peer p with lateRun := 0 } } }
  let s := s.sendPortState peer
  (s.xport.flows.filter (fun f => f.1.2 == peer)).foldl (fun s f =>
    f.2.openCws.foldl (fun s c => s.shortTest f.1.1 peer c.seq) s) s

theorem setPortClass_eq {s : State} {peer p cls : Nat} (h : (if (s.get PEER_STATUS.DOWN_RX peer).testBit p then 2
    else if (s.get PEER_STATUS.LATE_RX peer).testBit p then 1 else 0) ≠ cls) :
    s.setPortClass peer p cls = (s.portClassed peer p cls).classTold peer p := if_neg h

theorem sendPortState_otherRegs (s : State) (peer : Nat) : OtherRegs [PEER_SKEW.addr peer 0] s (s.sendPortState peer) := by
  unfold State.sendPortState
  extract_lets sk worst s1
  have hm : PEER_SKEW.addr peer 0 ∈ [PEER_SKEW.addr peer 0] := List.mem_singleton.mpr rfl
  have h1 : OtherRegs [PEER_SKEW.addr peer 0] s s1 := .andSet (.andSet .refl hm) hm
  exact h1.andGoes sendControl_goes (by decide)

theorem classTold_otherRegs (s : State) (peer p : Nat) :
    OtherRegs [PEER_SKEW.addr peer 0, XPORT_RETX_COUNT.addr 0 0] s (s.classTold peer p) := by
  unfold State.classTold
  extract_lets src src' u v
  have hu : OtherRegs [PEER_SKEW.addr peer 0, XPORT_RETX_COUNT.addr 0 0] s u := .of_csr rfl
  have hv := hu.trans ((sendPortState_otherRegs u peer).mono (by simp))
  refine hv.trans (OtherRegs.foldl (f := fun (s : State) (f : (Nat × Nat) × Flow) =>
    f.2.openCws.foldl (fun (s : State) (c : OpenCw) => s.shortTest f.1.1 peer c.seq) s) (fun t f => ?_) _ v)
  exact OtherRegs.foldl (f := fun (s : State) (c : OpenCw) => s.shortTest f.1.1 peer c.seq)
    (fun t c => (shortTest_otherRegs t f.1.1 peer c.seq).mono (by simp)) f.2.openCws t

theorem xportLog_otherRegs (s : State) (a b c d : Nat) : OtherRegs [XPORT_ERR_LOG.addr 0 0] s (s.xportLog a b c d) := by
  unfold State.xportLog
  have hm : XPORT_ERR_LOG.addr 0 0 ∈ [XPORT_ERR_LOG.addr 0 0] := List.mem_singleton.mpr rfl
  exact .andReport (.andSet (.andSet (.andSet (.andSet .refl hm) hm) hm) hm)

section
variable (s : State) (peer : Fin 16) (p cls : Nat)

theorem portClassed_get {f : Field} (h : f.reg = PEER_STATUS) : (s.portClassed peer p cls).get f peer =
    ((s.set PEER_STATUS.DOWN_RX (setBit (s.get PEER_STATUS.DOWN_RX peer) p (cls == 2)) peer).set PEER_STATUS.LATE_RX
      (setBit (s.get PEER_STATUS.LATE_RX peer) p (cls == 1)) peer).get f peer := by
  have hfar : ∀ r : Reg, r.apartFor PEER_STATUS 1 0 16 0 = true → r.addr 0 0 ≠ f.reg.addr peer 0 := fun r hr => by
    rw [h]
    exact Reg.addr_ne_of_apartFor hr (by decide) peer.isLt
  unfold State.portClassed
  rw [raise_get, get_set_far _ _ _ _ (hfar _ (by decide)), (xportLog_otherRegs _ _ _ _ _).get (by simpa using (hfar _ (by decide)).symm),
    get_set_beside s _ _ _ _ _ (by decide)]

theorem portClassed_classes : (s.portClassed peer p cls).get PEER_STATUS.LATE_RX peer =
      setBit (s.get PEER_STATUS.LATE_RX peer) p (cls == 1) % 2 ^ 16 ∧
    (s.portClassed peer p cls).get PEER_STATUS.DOWN_RX peer = setBit (s.get PEER_STATUS.DOWN_RX peer) p (cls == 2) % 2 ^ 16 := by
  constructor
  · rw [portClassed_get s peer p cls rfl, get_set_mod _ _ _ _ _ (by decide)]
    rfl
  · rw [portClassed_get s peer p cls rfl, get_set_beside _ _ _ _ _ _ (by decide), get_set_mod _ _ _ _ _ (by decide)]
    rfl

end

theorem xportLog_sent {s u : State} (a b c d : Nat) (h : s.out <+: u.out) : Sent s (u.xportLog a b c d) (.report a) := sent_report a h

theorem portClassed_sent (s : State) (peer p cls : Nat) :
    Sent s (s.portClassed peer p cls) (.report (if cls = 0 then 0x091C else if cls = 1 then 0x091A else 0x091B)) := by
  unfold State.portClassed
  extract_lets u v
  have hv : s.out <+: v.out := (set_goes.out : s.out <+: u.out).trans set_goes.out
  have hlog := xportLog_sent (if cls = 0 then 0x091C else if cls = 1 then 0x091A else 0x091B) peer p 0 hv
  exact hlog.of_goes raise_goes

theorem classTold_goes {s : State} {peer p : Nat} : Goes [.csr, .mem, .poison, .xport] s (s.classTold peer p) := by
  unfold State.classTold
  extract_lets src src' u v
  have hu : Goes [.csr, .mem, .poison, .xport] s u := .xport .refl (by decide)
  exact .foldl (.step hu sendPortState_goes (by decide)) fun _ _ h => .foldl h fun _ _ h => .step h shortTest_goes (by decide)

theorem portReuseExpiry_effect (s : State) (peer port : Fin 16)
    (h : (s.get PEER_STATUS.LATE_RX peer).testBit port = true ∧ (s.get PEER_STATUS.DOWN_RX peer).testBit port = false)
    (hskew : 2 * s.skewOf peer port ≤ s.get XPORT_SW.WINDOW_US * 1000) :
    Does (.portReuseExpiry peer port) s [.csr, .mem, .poison, .out, .intc, .xport] (fun t =>
      (t.get PEER_STATUS.LATE_RX peer).testBit port = false ∧ (t.get PEER_STATUS.DOWN_RX peer).testBit port = false ∧
      Sent s t (.report 0x091C) ∧ t.on XPORT_INT_STATUS.PORT_CLASS = true) := by
  obtain ⟨hlate, hdown⟩ := h
  have heq : s.setPortClass peer port 0 = (s.portClassed peer port 0).classTold peer port :=
    setPortClass_eq (by rw [hdown, hlate]; decide)
  have hexec : exec (.portReuseExpiry peer port) s = .next ((s.portClassed peer port 0).classTold peer port) := by
    rw [← heq]
    exact if_pos (by simp [hlate, hskew])
  have hstatus : PEER_STATUS.addr peer 0 ∉ [PEER_SKEW.addr peer 0, XPORT_RETX_COUNT.addr 0 0] := fun hm => by
    simp only [List.mem_cons, List.not_mem_nil, or_false, Reg.addr, PEER_STATUS, PEER_SKEW, XPORT_RETX_COUNT] at hm
    omega
  have hint : XPORT_INT_STATUS.addr 0 0 ∉ [PEER_SKEW.addr peer 0, XPORT_RETX_COUNT.addr 0 0] := fun hm => by
    simp only [List.mem_cons, List.not_mem_nil, or_false, Reg.addr, XPORT_INT_STATUS, PEER_SKEW, XPORT_RETX_COUNT] at hm
    omega
  have hregs := classTold_otherRegs (s.portClassed peer port 0) peer port
  obtain ⟨hl, hd⟩ := portClassed_classes s peer port 0
  refine Does.of_next hexec execPortReuseExpiry_goes ⟨?_, ?_, ?_, ?_⟩
  · rw [hregs.get (f := PEER_STATUS.LATE_RX) hstatus, hl, Nat.testBit_mod_two_pow]
    exact Bool.and_eq_false_iff.mpr (.inr (testBit_setBit_false _ _))
  · rw [hregs.get (f := PEER_STATUS.DOWN_RX) hstatus, hd, Nat.testBit_mod_two_pow]
    exact Bool.and_eq_false_iff.mpr (.inr (testBit_setBit_false _ _))
  · exact (portClassed_sent s peer port 0).of_goes classTold_goes
  · rw [State.on, hregs.get (f := XPORT_INT_STATUS.PORT_CLASS) hint]
    simp (disch := decide) [State.portClassed]

/-! ### PORT_STATE messages (R219) -/

/-- The two bytes that a body begins with. -/
theorem fieldAt_le_append (n v : Nat) (bs : Bytes) : fieldAt (le n v ++ bs) 0 n = v % 2 ^ (8 * n) := by
  rw [fieldAt, slice, List.drop_zero, List.take_left' (length_le n v), leVal_le]

theorem sendControl_other (s : State) (j p ct : Nat) (msg : Bytes) (h : ct ≠ 1 ∧ ct ≠ 7) : ∃ a, ∀ j' p',
    (s.sendControl j p ct msg).flow j' p' = if (j, p) = (j', p') then
      { s.flow j p with
        ctrlNext := ((s.flow j p).ctrlNext + 1) % 2 ^ 32
        ctrlOut := (s.flow j p).ctrlOut ++
          [CtrlOut.placed ⟨(s.flow j p).ctrlNext, ct, msg ++ zeros (16 - msg.length), none, false, true, 0⟩ a] }
      else s.flow j' p' := by
  let u := s.putFlow j p { s.flow j p with ctrlNext := ((s.flow j p).ctrlNext + 1) % 2 ^ 32 }
  obtain ⟨a, ha⟩ := placeControl_flow u j p ⟨(s.flow j p).ctrlNext, ct, msg ++ zeros (16 - msg.length), none, false, true, 0⟩
  have hu : u.flow j p = { s.flow j p with ctrlNext := ((s.flow j p).ctrlNext + 1) % 2 ^ 32 } := flow_putFlow_same _ _ _ _
  refine ⟨a, fun j' p' => ?_⟩
  unfold State.sendControl
  extract_lets f body
  rw [if_neg h.1, if_neg h.2]
  refine (ha j' p').trans ?_
  split
  · rw [hu]
  · next h => exact (flow_putFlow _ _ _ _ _ _).trans (if_neg h)

/-- The flow to a peer once a PORT_STATE is sent on it. -/
structure PortStateSent (s : State) (i : Nat) (t : State) : Prop where
  next : (t.flow 128 i).ctrlNext = ((s.flow 128 i).ctrlNext + 1) % 2 ^ 32
  length : (t.flow 128 i).ctrlOut.length = (s.flow 128 i).ctrlOut.length + 1
  message : (t.flow 128 i).ctrlOut.any (fun c => c.ctype == 8 && fieldAt c.body 0 2 == s.get PEER_STATUS.DOWN_RX i) = true

theorem sendPortState_flow (s : State) (i : Fin 16) : PortStateSent s i (s.sendPortState i) ∧
    ∀ k, k ≠ i.val → (s.sendPortState i).flow 128 k = s.flow 128 k := by
  unfold State.sendPortState
  extract_lets sk worst u
  have hdown : u.get PEER_STATUS.DOWN_RX i = s.get PEER_STATUS.DOWN_RX i := by
    have hne : PEER_SKEW.addr i 0 ≠ PEER_STATUS.addr i 0 := Reg.addr_ne_of_apartFor (n := 16) (n' := 16) (by decide) i.isLt i.isLt
    rw [get_set_far _ _ _ _ hne, get_set_far _ _ _ _ hne]
  have hflow : ∀ k, u.flow 128 k = s.flow 128 k := fun k => rfl
  generalize hmsg : le 2 (u.get PEER_STATUS.DOWN_RX i) ++ le 2 (u.get PEER_STATUS.LATE_RX i) ++ sk.flatMap (le 4) = msg
  have hfield : ∀ z : Bytes, fieldAt (msg ++ z) 0 2 = s.get PEER_STATUS.DOWN_RX i := fun z => by
    rw [← hmsg, List.append_assoc, List.append_assoc, fieldAt_le_append, hdown]
    exact Nat.mod_eq_of_lt (Nat.mod_lt _ (Nat.two_pow_pos 16))
  obtain ⟨a, ha⟩ := sendControl_other u 128 i 8 msg (by decide)
  refine ⟨⟨?_, ?_, ?_⟩, fun k hk => ?_⟩
  · rw [ha, if_pos rfl]
    rfl
  · rw [ha, if_pos rfl]
    exact List.length_append
  · rw [ha, if_pos rfl]
    refine List.any_eq_true.mpr ⟨_, List.mem_append_right _ (List.mem_singleton.mpr rfl), ?_⟩
    simp only [CtrlOut.placed, hfield]
    simp
  · rw [ha, if_neg (by simpa using Ne.symm hk)]
    rfl

theorem portStatePeriodic_effect (s : State) (hready : s.xportReady = true) :
    Does (.portStatePeriodic) s [.csr, .mem, .poison, .xport] (fun t =>
      (∀ i ∈ s.peers, (t.flow 128 i).ctrlNext = ((s.flow 128 i).ctrlNext + 1) % 2 ^ 32 ∧
          (t.flow 128 i).ctrlOut.length = (s.flow 128 i).ctrlOut.length + 1) ∧
      (∀ i ∈ s.peers, (t.flow 128 i).ctrlOut.any (fun c => c.ctype == 8 && fieldAt c.body 0 2 == s.get PEER_STATUS.DOWN_RX i) =
          true)) := by
  have hexec : exec .portStatePeriodic s = .next (s.peers.foldl State.sendPortState s) := if_pos hready
  have hsent : ∀ i ∈ s.peers, PortStateSent s i (s.peers.foldl State.sendPortState s) := fun i hi => by
    have hi16 := mem_peers_lt hi
    refine foldl_establishes (f := State.sendPortState) (x := i)
      (Q := fun t => t.flow 128 i = s.flow 128 i ∧ t.get PEER_STATUS.DOWN_RX i = s.get PEER_STATUS.DOWN_RX i)
      (fun t k hk hki ht => ⟨?_, ?_⟩) (fun t ht => ?_) (fun t k hk hki ht => ?_) (List.nodup_range.filter _) (.inl ⟨hi, rfl, rfl⟩)
    · exact ((sendPortState_flow t ⟨k, mem_peers_lt hk⟩).2 i (Ne.symm hki)).trans ht.1
    · have hne : PEER_STATUS.addr i 0 ≠ PEER_SKEW.addr k 0 :=
        Reg.addr_ne_of_apartFor (n := 16) (n' := 16) (by decide) hi16 (mem_peers_lt hk)
      exact ((sendPortState_otherRegs t k).get (f := PEER_STATUS.DOWN_RX) (fun hm => hne (List.mem_singleton.mp hm))).trans ht.2
    · obtain ⟨hn, hlen, hm⟩ := (sendPortState_flow t ⟨i, hi16⟩).1
      dsimp only at hn hlen hm
      rw [ht.1] at hn hlen
      rw [ht.2] at hm
      exact ⟨hn, hlen, hm⟩
    · have hsame := (sendPortState_flow t ⟨k, mem_peers_lt hk⟩).2 i (Ne.symm hki)
      dsimp only at hsame
      obtain ⟨hn, hlen, hm⟩ := ht
      exact ⟨by rw [hsame]; exact hn, by rw [hsame]; exact hlen, by rw [hsame]; exact hm⟩
  exact Does.of_next hexec execPortStatePeriodic_goes ⟨fun i hi => ⟨(hsent i hi).next, (hsent i hi).length⟩, fun i hi => (hsent i hi).message⟩

end Sys2Proof.Machine

namespace Sys2Proof.Machine
open Csr

/-! ### Messages taken from the inbox -/

theorem takeMail_of {s : State} {j site ct : Nat} {c : CtrlIn} (h : (s.takeMail j site ct).map (·.1) = some c) :
    s.takeMail j site ct = some (c, { s with xport := { s.xport with inbox := s.xport.inbox.erase c } }) := by
  unfold State.takeMail at h ⊢
  cases hf : s.xport.inbox.find? (fun c => c.entry == j && c.site == site && c.ctype == ct) with
  | none => simp [hf] at h
  | some d =>
    obtain rfl : d = c := by simpa [hf] using h
    rfl

theorem portStateReceived_effect (s : State) (site : Fin 16) (c : CtrlIn) :
    let last := lookupD s.xport.portStateSeq site.val 0
    (s.takeMail 128 site 8).map (·.1) = some c →
    Does (.portStateReceived site) s [.csr, .xport] (fun t =>
      (last < c.seq + 1 → t.peerBad site = (fieldAt c.body 0 2 ||| fieldAt c.body 2 2)) ∧ (c.seq + 1 ≤ last →
          t.peerBad site = s.peerBad site) ∧
      t.xport.inbox = s.xport.inbox.erase c ∧ lookupD t.xport.portStateSeq site.val 0 = max last (c.seq + 1)) := by
  intro last hmail
  let u := { s with xport := { s.xport with
    inbox := s.xport.inbox.erase c
    portStateSeq := assocPut s.xport.portStateSeq site.val (max last (c.seq + 1))
    peerBad := if last < c.seq + 1 then assocPut s.xport.peerBad site.val (fieldAt c.body 0 2 ||| fieldAt c.body 2 2) else s.xport.peerBad
    farWait := (s.xport.farWait.filter (fun w => !(w.1.1 == site.val && decide (w.2 < c.seq + 1) &&
      !(fieldAt c.body 0 2 ||| fieldAt c.body 2 2).testBit w.1.2))) } }
  have hexec : exec (.portStateReceived site) s = .next (u.peerUpdate site) := by
    show execPortStateReceived site s = _
    unfold execPortStateReceived
    rw [takeMail_of hmail]
  have hx : (u.peerUpdate site).xport = u.xport := peerUpdate_goes.only .xport rfl
  refine Does.of_next hexec execPortStateReceived_goes ⟨fun hlt => ?_, fun hle => ?_, ?_, ?_⟩
  · rw [State.peerBad, hx]
    show lookupD (if last < c.seq + 1 then _ else _) site.val 0 = _
    rw [if_pos hlt, lookupD_assocPut_eq, if_pos rfl]
  · rw [State.peerBad, hx]
    show lookupD (if last < c.seq + 1 then _ else _) site.val 0 = _
    rw [if_neg (by omega)]
    rfl
  · rw [hx]
  · rw [hx]
    exact (lookupD_assocPut_eq _ _ _ _ _).trans (if_pos rfl)

/-! ### Control messages sent again (R227) -/

/-- A shard queued by a module that is not in a spare's shadow joins the line's shards. -/
theorem lineEnqueue_shards {s : State} (x : LineShard) (h : (s.on GRP_CTRL.ROLE && decide (s.get GRP_STATUS.SHADOW_STATE < 3)) = false) :
    (s.lineEnqueue x).sched.shards = s.sched.shards ++ [x] := by
  unfold State.lineEnqueue
  rw [if_neg (by rw [h]; decide)]
  extract_lets wq wt u src v
  have hu : u.sched.shards = s.sched.shards := by
    unfold u
    split <;> rfl
  have hv : v.sched.shards = u.sched.shards := by
    unfold v
    split <;> rfl
  show v.sched.shards ++ [x] = _
  rw [hv, hu]

/-- The shards of one control message, queued on each of a list of ports. -/
theorem lineEnqueue_ports {s : State} (j peer : Nat) (b : Bytes) (ports : List Nat)
    (h : (s.on GRP_CTRL.ROLE && decide (s.get GRP_STATUS.SHADOW_STATE < 3)) = false) :
    (ports.foldl (fun (s : State) p => s.lineEnqueue ⟨p, s.flowQueue j peer, s.flowTenant j, true, false, b⟩) s).sched.shards =
      s.sched.shards ++ ports.map (fun p => ⟨p, s.flowQueue j peer, s.flowTenant j, true, false, b⟩) := by
  induction ports generalizing s with
  | nil => simp
  | cons p ports ih =>
    generalize hu : s.lineEnqueue ⟨p, s.flowQueue j peer, s.flowTenant j, true, false, b⟩ = u
    have hshards : u.sched.shards = s.sched.shards ++ [⟨p, s.flowQueue j peer, s.flowTenant j, true, false, b⟩] :=
      hu ▸ lineEnqueue_shards _ h
    have hcsr : u.csr = s.csr := hu ▸ lineEnqueue_goes.only .csr rfl
    have hget : ∀ (f : Field) (i : Nat), u.get f i = s.get f i := fun f i => get_congr hcsr f i 0
    have hqueue : u.flowQueue j peer = s.flowQueue j peer := by simp only [State.flowQueue, State.lineBase, hget]
    have htenant : u.flowTenant j = s.flowTenant j := by simp only [State.flowTenant, hget]
    rw [List.foldl_cons, hu, ih (by simpa only [State.on, hget] using h), hshards, hqueue, htenant, List.map_cons, List.append_assoc,
      List.singleton_append]

theorem controlRepeat_queued (s : State) (j : Fin 129) (peer : Fin 16) (seq : BitVec 32) (c : CtrlOut)
    (h : (s.flow j peer).ctrlOut.find? (fun c => c.seq == seq.toNat && !c.own && !c.waiting) = some c ∧ c.addr ≠ 0)
    (hrole : (s.on GRP_CTRL.ROLE && decide (s.get GRP_STATUS.SHADOW_STATE < 3)) = false) :
    Does (.controlRepeatExpiry j peer seq) s [.sched] (fun t =>
      t.sched.shards = s.sched.shards ++ ((s.usable peer).take 2).map (fun p =>
        ⟨p, s.flowQueue j peer, s.flowTenant j, true, false, finishShard (s.readBytes c.addr (64 + c.body.length))⟩)) := by
  obtain ⟨hfind, haddr⟩ := h
  generalize hb : finishShard (s.readBytes c.addr (64 + c.body.length)) = b
  have hexec : exec (.controlRepeatExpiry j peer seq) s = .next (((s.usable peer).take 2).foldl (fun (s : State) p =>
      s.lineEnqueue ⟨p, s.flowQueue j peer, s.flowTenant j, true, false, b⟩) s) := by
    show execControlRepeatExpiry j peer seq s = _
    unfold execControlRepeatExpiry
    dsimp only
    rw [hfind]
    dsimp only
    rw [if_neg haddr, hb]
  exact ⟨_, hexec, (Goes.foldl .refl fun _ _ h => .step h lineEnqueue_goes (by decide) : Goes [.sched] s _).only,
    lineEnqueue_ports j peer b _ hrole⟩

theorem controlRepeat_placed (s : State) (j : Fin 129) (peer : Fin 16) (seq : BitVec 32) (c : CtrlOut)
    (h : (s.flow j peer).ctrlOut.find? (fun c => c.seq == seq.toNat && !c.own && !c.waiting) = some c ∧ c.addr = 0) :
    Does (.controlRepeatExpiry j peer seq) s [.mem, .poison, .xport] (fun t =>
      (t.flow j peer).ctrlOut.length = (s.flow j peer).ctrlOut.length ∧
          (t.flow j peer).ctrlOut.any (fun x => x.seq == seq.toNat && x.body == c.body) = true) := by
  obtain ⟨hfind, haddr⟩ := h
  have hmem := List.mem_of_find?_eq_some hfind
  have hseq : c.seq = seq.toNat := by
    have := List.find?_some hfind
    simp only [Bool.and_eq_true, beq_iff_eq] at this
    exact this.1.1
  let u := s.putFlow j peer { s.flow j peer with ctrlOut := (s.flow j peer).ctrlOut.erase c }
  have hexec : exec (.controlRepeatExpiry j peer seq) s = .next (u.placeControl j peer c) := by
    show execControlRepeatExpiry j peer seq s = _
    unfold execControlRepeatExpiry
    dsimp only
    rw [hfind]
    exact if_pos haddr
  obtain ⟨a, ha⟩ := placeControl_flow u j peer c
  have hflow : (u.placeControl j peer c).flow j peer =
      { s.flow j peer with ctrlOut := (s.flow j peer).ctrlOut.erase c ++ [c.placed a] } := by
    rw [ha, if_pos rfl, show u.flow j peer = _ from flow_putFlow_same _ _ _ _]
  refine ⟨_, hexec, (Goes.step (.xport .refl (by decide)) placeControl_goes (by decide) : Goes [.mem, .poison, .xport] s _).only, ?_, ?_⟩
  · rw [hflow]
    have hpos := List.length_pos_of_mem hmem
    simp only [List.length_append, List.length_erase_of_mem hmem, List.length_singleton]
    omega
  · rw [hflow]
    exact List.any_eq_true.mpr ⟨_, List.mem_append_right _ (List.mem_singleton.mpr rfl), by simp [CtrlOut.placed, hseq]⟩

/-! ### ACKs received (R225) -/

/-- The registers that the work of an ACK received writes besides its peer's. -/
def ackRegs : List Nat := XPORT_USAGE.addr 0 0 :: XPORT_PEAK.addr 0 0 :: XPORT_RETX_COUNT.addr 0 0 :: blockRegs 15

/-- The work of an ACK received: no flow and no message changes, and no chunk is retained that was not. -/
structure AckWork (s t : State) : Prop where
  flows : t.xport.flows = s.xport.flows
  inbox : t.xport.inbox = s.xport.inbox
  retains : ∀ j p step chunk, t.retains j p step chunk = true → s.retains j p step chunk = true
  regs : OtherRegs ackRegs s t

section
variable {s t u : State}

theorem AckWork.refl : AckWork s s := ⟨rfl, rfl, fun _ _ _ _ h => h, .refl⟩

theorem AckWork.trans (h : AckWork s t) (k : AckWork t u) : AckWork s u :=
  ⟨k.flows.trans h.flows, k.inbox.trans h.inbox, fun j p a b hr => h.retains j p a b (k.retains j p a b hr), h.regs.trans k.regs⟩

theorem AckWork.foldl {β : Type} {f : State → β → State} (l : List β) (h : ∀ t x, AckWork t (f t x)) (s : State) :
    AckWork s (l.foldl f s) := by
  induction l generalizing s with
  | nil => exact .refl
  | cons x l ih => exact (h s x).trans (ih _)

theorem AckWork.of_xport (hx : t.xport = s.xport) (hr : OtherRegs ackRegs s t) : AckWork s t :=
  ⟨by rw [hx], by rw [hx], fun _ _ _ _ h => by rw [State.retains, hx] at h; exact h, hr⟩

theorem usageUpdate_work : AckWork s s.usageUpdate := by
  have hu : XPORT_USAGE.addr 0 0 ∈ ackRegs := List.mem_cons_self
  have hp : XPORT_PEAK.addr 0 0 ∈ ackRegs := List.mem_cons_of_mem _ List.mem_cons_self
  refine .of_xport (usageUpdate_goes.only .xport rfl) ?_
  unfold State.usageUpdate
  exact .andSet (.andSet (.andSet (.andSet (.andSet .refl hu) hu) hu) hp) hp

theorem chunkAcked_work (j p step chunk : Nat) : AckWork s (s.chunkAcked j p step chunk) := by
  unfold State.chunkAcked
  extract_lets is
  split
  · refine ⟨rfl, rfl, fun j' p' a b h => ?_, .of_csr rfl⟩
    simp only [State.retains, List.any_map] at h ⊢
    refine (List.any_eq_true.mp h).elim fun r hr => List.any_eq_true.mpr ⟨r, hr.1, ?_⟩
    have := hr.2
    simp only [Function.comp_apply] at this
    split at this <;> exact this
  · unfold State.releaseRetained
    extract_lets v
    have hv : AckWork s v := by
      refine ⟨rfl, rfl, fun j' p' a b h => ?_, .of_csr rfl⟩
      obtain ⟨r, hr, hk⟩ := List.any_eq_true.mp h
      exact List.any_eq_true.mpr ⟨r, (List.mem_filter.mp hr).1, hk⟩
    exact hv.trans usageUpdate_work

/-- A chunk acknowledged on a job that does not retain its step is retained no more. -/
theorem chunkAcked_released (j p step chunk : Nat) (h : s.on JOB_CTRL.RETAIN_STEP j = false) :
    (s.chunkAcked j p step chunk).retains j p step chunk = false := by
  have hu : ∀ t : State, t.usageUpdate.xport = t.xport := fun t => usageUpdate_goes.only .xport rfl
  unfold State.chunkAcked
  rw [h, if_neg Bool.false_ne_true, State.releaseRetained, State.retains, hu]
  exact List.any_eq_false.mpr fun r hr => by
    have hkeep := (List.mem_filter.mp hr).2
    rw [Bool.not_eq_true'] at hkeep
    rw [hkeep]
    exact Bool.false_ne_true

theorem retransmit_work (j p cw have' : Nat) : AckWork s (s.retransmit j p cw have') := by
  unfold State.retransmit
  split
  · exact .refl
  · extract_lets i us
    split
    · exact .refl
    · refine AckWork.foldl _ (fun t x => ?_) s
      extract_lets body v rec' w
      have hv : AckWork t v := .of_xport (lineEnqueue_goes.only .xport rfl) (.andGoes .refl lineEnqueue_goes (by decide))
      have hw : AckWork v w := by
        unfold w
        split
        · exact ⟨rfl, rfl, fun _ _ _ _ h => h, .of_csr rfl⟩
        · exact .refl
      have hretx : XPORT_RETX_COUNT.addr 0 0 ∈ ackRegs := List.mem_cons_of_mem _ (List.mem_cons_of_mem _ List.mem_cons_self)
      have hpmon : blockRegs 15 ⊆ ackRegs := fun _ ha =>
        List.mem_cons_of_mem _ (List.mem_cons_of_mem _ (List.mem_cons_of_mem _ ha))
      have hregs : OtherRegs ackRegs w ((w.addSat XPORT_RETX_COUNT.RETX_SHARDS 1).pmonEdge 0x0049 1
          { cls := 9, tenant := w.flowTenant j }) :=
        (OtherRegs.andAddSat .refl hretx).andPmonEdge hpmon
      exact (hv.trans hw).trans (.of_xport (pmonEdge_goes.only .xport rfl) hregs)

theorem dropRetx_work (j p cum : Nat) : AckWork s (s.dropRetx j p cum) := .of_xport rfl (.of_csr rfl)

end

/-- Chunks acknowledged one after the other, of a job that does not retain its step. -/
theorem chunksAcked_released {s : State} {j p n : Nat} (step chunk : Nat → Nat) (h : s.on JOB_CTRL.RETAIN_STEP j = false)
    (hj : JOB_CTRL.addr j 0 ∉ ackRegs) {i : Nat} (hi : i < n) :
    ((List.range n).foldl (fun (s : State) i => s.chunkAcked j p (step i) (chunk i)) s).retains j p (step i) (chunk i) = false :=
  foldl_establishes (f := fun (s : State) i => s.chunkAcked j p (step i) (chunk i)) (x := i)
    (Q := fun t => t.on JOB_CTRL.RETAIN_STEP j = false) (P := fun t => t.retains j p (step i) (chunk i) = false)
    (fun t k _ _ ht => by
      rw [State.on, (chunkAcked_work j p (step k) (chunk k)).regs.get (f := JOB_CTRL.RETAIN_STEP) hj]
      exact ht)
    (fun t ht => chunkAcked_released j p _ _ ht)
    (fun t k _ _ ht => by
      rw [← Bool.not_eq_true] at ht ⊢
      exact fun hr => ht ((chunkAcked_work j p (step k) (chunk k)).retains _ _ _ _ hr))
    List.nodup_range (.inl ⟨List.mem_range.mpr hi, h⟩)

/-- The state of an ACK once its flow has its credit and its messages are cleared. -/
def State.ackTaken (s : State) (j site : Nat) (c : CtrlIn) : State :=
  State.putFlow { s with xport := { s.xport with inbox := s.xport.inbox.erase c } } j site { s.flow j site with
    ctrlOut := (s.flow j site).ctrlOut.filter
      (fun m => m.own || decide ((fieldAt (padTo 664 c.body) 4 4 + 2 ^ 32 - 1 - m.seq) % 2 ^ 32 ≥ 2 ^ 31))
    credit := (if j = 128 then (s.flow j site).credit else some (fieldAt (padTo 664 c.body) 8 4)) }

/-- The sample of the round-trip time that an ACK gives. -/
def State.ackSample (s : State) (c : CtrlIn) : Nat :=
  (s.stamp + 2 ^ 33 - fieldAt (padTo 664 c.body) 12 4 - fieldAt (padTo 664 c.body) 16 4) % 2 ^ 32

/-- The chunks that an ACK acknowledges. -/
def State.ackChunks (s : State) (j site : Nat) (b : Bytes) : State :=
  (List.range (min (fieldAt b 21 1) 64)).foldl (fun s i =>
    s.chunkAcked j site (fieldAt b (24 + 8 * min (fieldAt b 20 1) 16 + 8 * i) 4) (fieldAt b (24 + 8 * min (fieldAt b 20 1) 16 + 8 * i + 4) 4)) s

/-- The codewords that an ACK asks for again. -/
def State.ackRepeats (s : State) (j site : Nat) (b : Bytes) : State :=
  (List.range (min (fieldAt b 20 1) 16)).foldl (fun s i =>
    (List.range (fieldAt b (24 + 8 * i + 4) 2)).foldl (fun s k =>
      s.retransmit j site ((fieldAt b (24 + 8 * i) 4 + k) % 2 ^ 32) (fieldAt b (24 + 8 * i + 6) 2)) s) s

theorem execAckReceived_taken {s : State} {j : Fin 129} {site : Fin 16} {c : CtrlIn} (h : (s.takeMail j site 1).map (·.1) = some c) :
    exec (.ackReceived j site) s =
      if j.val = 128 then .next (((s.ackTaken j site c).rttSample site (s.ackSample c)).peerUpdate site)
      else .next (((((((s.ackTaken j site c).rttSample site (s.ackSample c)).dropRetx j site (fieldAt (padTo 664 c.body) 0 4)).ackChunks j site
        (padTo 664 c.body)).ackRepeats j site (padTo 664 c.body)).usageUpdate).peerUpdate site) := by
  show execAckReceived j site s = _
  unfold execAckReceived
  rw [takeMail_of h]
  rfl

theorem ackChunks_work {s : State} (j p : Nat) (b : Bytes) : AckWork s (s.ackChunks j p b) :=
  .foldl _ (fun _ _ => chunkAcked_work _ _ _ _) s

theorem ackRepeats_work {s : State} (j p : Nat) (b : Bytes) : AckWork s (s.ackRepeats j p b) :=
  AckWork.foldl _ (fun t _ => AckWork.foldl _ (fun _ _ => retransmit_work _ _ _ _) t) s

theorem peerReg_notAckRegs {r : Reg} (i : Nat) (h : r = PEER_RTT ∨ r = JOB_CTRL) (hi : i < 128) : r.addr i 0 ∉ ackRegs := fun hm => by
  rcases h with rfl | rfl <;>
    simp only [ackRegs, List.mem_cons, mem_blockRegs, Reg.addr, PEER_RTT, JOB_CTRL, XPORT_USAGE, XPORT_PEAK, XPORT_RETX_COUNT] at hm <;> omega

theorem peerUpdate_otherRegs (s : State) (i : Nat) :
    OtherRegs [PEER_STATUS.addr i 0, PEER_RTT.addr i 0, PEER_FLIGHT.addr i 0] s (s.peerUpdate i) := by
  unfold State.peerUpdate
  have h1 : PEER_STATUS.addr i 0 ∈ [PEER_STATUS.addr i 0, PEER_RTT.addr i 0, PEER_FLIGHT.addr i 0] := by simp
  have h2 : PEER_RTT.addr i 0 ∈ [PEER_STATUS.addr i 0, PEER_RTT.addr i 0, PEER_FLIGHT.addr i 0] := by simp
  have h3 : PEER_FLIGHT.addr i 0 ∈ [PEER_STATUS.addr i 0, PEER_RTT.addr i 0, PEER_FLIGHT.addr i 0] := by simp
  exact .andSet (.andSet (.andSet (.andSet .refl h1) h2) h3) h3

theorem peerUpdate_rtt (s : State) (i : Fin 16) : (s.peerUpdate i).get PEER_RTT.RTT_NS i = s.get PEER_RTT.RTT_NS i := by
  have hflight : PEER_FLIGHT.addr i 0 ≠ PEER_RTT.addr i 0 := Reg.addr_ne_of_apartFor (n := 16) (n' := 16) (by decide) i.isLt i.isLt
  have hstatus : PEER_STATUS.addr i 0 ≠ PEER_RTT.addr i 0 := Reg.addr_ne_of_apartFor (n := 16) (n' := 16) (by decide) i.isLt i.isLt
  unfold State.peerUpdate
  dsimp only
  rw [get_set_far _ PEER_FLIGHT.CREDIT_MIB PEER_RTT.RTT_NS _ hflight, get_set_far _ PEER_FLIGHT.INFLIGHT_MIB PEER_RTT.RTT_NS _ hflight,
    get_set_beside _ _ _ _ _ _ (by decide), get_set_far _ PEER_STATUS.USABLE_TX PEER_RTT.RTT_NS _ hstatus]

theorem rttSample_effect (s : State) (i x : Nat) : (s.rttSample i x).xport.flows = s.xport.flows ∧ (s.rttSample i x).xport.inbox = s.xport.inbox ∧
    (s.rttSample i x).get PEER_RTT.RTT_NS i =
      (if i ∈ s.xport.rttKnown then (7 * s.get PEER_RTT.RTT_NS i + x) / 8 else x) % 2 ^ PEER_RTT.RTT_NS.w ∧
    OtherRegs [PEER_RTT.addr i 0] s (s.rttSample i x) := by
  have hm : PEER_RTT.addr i 0 ∈ [PEER_RTT.addr i 0] := List.mem_singleton.mpr rfl
  unfold State.rttSample
  split
  · exact ⟨rfl, rfl, get_set_mod _ _ _ _ _ (by decide), .andSet .refl hm⟩
  · exact ⟨rfl, rfl, get_set_mod _ _ _ _ _ (by decide),
      OtherRegs.andSet (OtherRegs.of_csr (t := { s with xport := { s.xport with rttKnown := s.xport.rttKnown ++ [i] } }) rfl) hm⟩

/-- What an ACK received leaves, after the work that follows its sample. -/
theorem ackTaken_effect {s r t : State} {j : Fin 129} {site : Fin 16} {c : CtrlIn}
    (hr : (s.ackTaken j site c).rttSample site (s.ackSample c) = r) (hwork : AckWork r t) :
    ((t.peerUpdate site).flow j site).ctrlOut = (s.flow j site).ctrlOut.filter
      (fun m => m.own || decide ((fieldAt (padTo 664 c.body) 4 4 + 2 ^ 32 - 1 - m.seq) % 2 ^ 32 ≥ 2 ^ 31)) ∧
    ((t.peerUpdate site).flow j site).credit = (if j.val = 128 then (s.flow j site).credit else some (fieldAt (padTo 664 c.body) 8 4)) ∧
    (t.peerUpdate site).xport.inbox = s.xport.inbox.erase c ∧
    (t.peerUpdate site).get PEER_RTT.RTT_NS site =
      (if site.val ∈ s.xport.rttKnown then (7 * s.get PEER_RTT.RTT_NS site + s.ackSample c) / 8 else s.ackSample c) % 2 ^ PEER_RTT.RTT_NS.w := by
  subst hr
  obtain ⟨hflows, hinbox, hrtt, _⟩ := rttSample_effect (s.ackTaken j site c) site (s.ackSample c)
  have hx : (t.peerUpdate site).xport = t.xport := peerUpdate_goes.only .xport rfl
  have hflow : (t.peerUpdate site).flow j site = (s.ackTaken j site c).flow j site := by
    rw [State.flow, hx, hwork.flows, hflows]
    rfl
  rw [hflow, show (s.ackTaken j site c).flow j site = _ from flow_putFlow_same _ _ _ _]
  refine ⟨rfl, rfl, ?_, ?_⟩
  · rw [hx, hwork.inbox, hinbox]
    rfl
  · rw [peerUpdate_rtt, hwork.regs.get (f := PEER_RTT.RTT_NS) (peerReg_notAckRegs _ (.inl rfl) (by omega)), hrtt]
    rfl

theorem ackReceived_effect (s : State) (j : Fin 129) (site : Fin 16) (c : CtrlIn) :
    let b := padTo 664 c.body
    let f := s.flow j site
    let sample := (s.stamp + 2 ^ 33 - fieldAt b 12 4 - fieldAt b 16 4) % 2 ^ 32
    (s.takeMail j site 1).map (·.1) = some c →
    Does (.ackReceived j site) s [.csr, .out, .intc, .sched, .xport] (fun t =>
      (t.flow j site).ctrlOut = f.ctrlOut.filter (fun m => m.own || decide ((fieldAt b 4 4 + 2 ^ 32 - 1 - m.seq) % 2 ^ 32 ≥ 2 ^
          31)) ∧
      (t.flow j site).credit = (if j.val = 128 then f.credit else some (fieldAt b 8 4)) ∧ t.xport.inbox = s.xport.inbox.erase c ∧
      t.get PEER_RTT.RTT_NS site = (if site.val ∈ s.xport.rttKnown then (7 * s.get PEER_RTT.RTT_NS site + sample) / 8 else sample)
          % 2 ^ PEER_RTT.RTT_NS.w ∧
      (j.val ≠ 128 ∧ s.on JOB_CTRL.RETAIN_STEP j = false → ∀ i < min (fieldAt b 21 1) 64,
        t.retains j site (fieldAt b (24 + 8 * min (fieldAt b 20 1) 16 + 8 * i) 4) (fieldAt b (28 + 8 * min (fieldAt b 20 1) 16 + 8
          * i) 4) = false)) := by
  intro b f sample hmail
  have hexec := execAckReceived_taken hmail
  by_cases hj : j.val = 128
  · rw [if_pos hj] at hexec
    obtain ⟨hctrl, hcredit, hinbox, hrtt⟩ := ackTaken_effect (s := s) (j := j) (site := site) (c := c) rfl .refl
    exact Does.of_next hexec execAckReceived_goes ⟨hctrl, hcredit, hinbox, hrtt, fun h => absurd hj h.1⟩
  · rw [if_neg hj] at hexec
    generalize hr : (s.ackTaken j site c).rttSample site (s.ackSample c) = r at hexec
    have hdrop : AckWork r (r.dropRetx j site (fieldAt b 0 4)) := dropRetx_work _ _ _
    have hchunks := ackChunks_work (s := r.dropRetx j site (fieldAt b 0 4)) j site b
    have hrest := (ackRepeats_work (s := (r.dropRetx j site (fieldAt b 0 4)).ackChunks j site b) j site b).trans usageUpdate_work
    obtain ⟨hctrl, hcredit, hinbox, hrtt⟩ := ackTaken_effect hr ((hdrop.trans hchunks).trans hrest)
    refine Does.of_next hexec execAckReceived_goes ⟨hctrl, hcredit, hinbox, hrtt, fun hretain i hi => ?_⟩
    have hjob : JOB_CTRL.addr j 0 ∉ ackRegs := peerReg_notAckRegs _ (.inr rfl) (by omega)
    have hkeep : (r.dropRetx j site (fieldAt b 0 4)).on JOB_CTRL.RETAIN_STEP j = false := by
      have hne : JOB_CTRL.addr j 0 ∉ [PEER_RTT.addr site 0] := fun hm => by
        simp only [List.mem_singleton, Reg.addr, JOB_CTRL, PEER_RTT] at hm
        omega
      rw [State.on, hdrop.regs.get (f := JOB_CTRL.RETAIN_STEP) hjob, ← hr, (rttSample_effect _ _ _).2.2.2.get (f := JOB_CTRL.RETAIN_STEP) hne]
      exact hretain.2
    have hgone := chunksAcked_released (s := r.dropRetx j site (fieldAt b 0 4)) (p := site) (n := min (fieldAt b 21 1) 64)
      (fun i => fieldAt b (24 + 8 * min (fieldAt b 20 1) 16 + 8 * i) 4) (fun i => fieldAt b (24 + 8 * min (fieldAt b 20 1) 16 + 8 * i + 4) 4)
      hkeep hjob hi
    have hoff : 24 + 8 * min (fieldAt b 20 1) 16 + 8 * i + 4 = 28 + 8 * min (fieldAt b 20 1) 16 + 8 * i := by omega
    simp only [hoff] at hgone
    have hx : ∀ v : State, (v.peerUpdate site).retains j site = v.retains j site := fun v => by
      unfold State.retains
      rw [peerUpdate_goes.only .xport rfl]
    rw [hx]
    rw [← Bool.not_eq_true] at hgone ⊢
    exact fun h => hgone (hrest.retains _ _ _ _ h)

/-- Settles O45: each event of a flow by what its messages, its NACKs and its peer's classes become. -/
theorem flowRepair : Obligations.FlowRepair :=
  ⟨shardWindowExpiry_effect, nackRepeatExpiry_effect, ackInterval_effect, ackReceived_effect, portReuseExpiry_effect,
    portStatePeriodic_effect, portStateReceived_effect, controlRepeat_queued, controlRepeat_placed⟩

end Sys2Proof.Machine

namespace Sys2Proof.Machine
open Csr

/-! ## Step descriptors (O22) -/

theorem stepDescCheck_ok {s : State} {op j : Nat} {w : Work} (h : (s.stepDescCheck op w).toOption = some j) :
    s.stepDescCheck op w = .ok j := by
  cases hc : s.stepDescCheck op w with
  | error e => simp [hc, Except.toOption] at h
  | ok k => simpa [hc, Except.toOption] using h

theorem entryOf_lt {s : State} {job j : Nat} (h : s.entryOf job = some j) : j < 128 := by
  unfold State.entryOf at h
  split at h
  · cases h
  · exact List.mem_range.mp (List.mem_of_find?_eq_some h)

/-- A job entry is one of 128. -/
theorem stepDescCheck_lt {s : State} {op j : Nat} {w : Work} (h : s.stepDescCheck op w = .ok j) : j < 128 := by
  unfold State.stepDescCheck at h
  split at h
  · cases h
  · split at h
    · cases h
    · split at h
      · cases h
      · rename_i k hk
        split at h
        · cases h
          exact entryOf_lt hk
        · cases h

/-- Saving a step record as a step enters a state. -/
theorem enter_stepRec (s : State) (j st : Nat) (r : StepRec) :
    ∃ n, (s.enter j st r).stepRec j =
      { r with state := st, tState := s.stamp, workNs := n, enteredAt := s.mono, updateSeq := (r.updateSeq + 1) % 2 ^ 32 } := by
  unfold State.enter
  extract_lets was work
  exact ⟨work, saveRec_stepRec _ _ _⟩

theorem enter_state (s : State) (j : Fin 128) (st : Nat) (r : StepRec) :
    (s.enter j st r).get JOB_STATUS.STATE j = st % 2 ^ 8 := by
  unfold State.enter
  exact saveRec_state _ _ _

theorem finish_stepRec (s : State) (w : Work) (x : Result) (j : Nat) : (s.finish w x).stepRec j = s.stepRec j := by
  have h : (s.finish w x).xport = s.xport := finish_goes.only .xport rfl
  simp only [State.stepRec, h]

theorem stepEnd_stepRec (s : State) (j k : Nat) (w : Work) : (s.stepEnd j w).stepRec k = s.stepRec k := finish_stepRec _ _ _ _

theorem stepEnd_ended (s : State) (j : Nat) (w : Work) : Ended (s.stepEnd j w) w 0 false false := finish_ended _ _ _

theorem stepEnd_state (s : State) (k : Nat) (j : Fin 128) (w : Work) :
    (s.stepEnd k w).get JOB_STATUS.STATE j = s.get JOB_STATUS.STATE j :=
  finish_get _ _ _ ⟨Reg.addr_ne_of_apartFor (n := 128) (n' := 1) (by decide) j.isLt (by decide),
    Reg.addr_ne_of_apartFor (n := 128) (n' := 1) (by decide) j.isLt (by decide)⟩

theorem stepRefuse_ended (s : State) (w : Work) (n : Nat) : Ended (s.stepRefuse w n) w n true false := finishError_ended _ _ _

theorem stepRefuse_sent (s : State) (w : Work) (n : Nat) : Sent s (s.stepRefuse w n) (.report n) :=
  (sent_report n List.prefix_rfl).of_goes finishError_goes

theorem stepRefuse_only (s : State) (w : Work) (n : Nat) : Goes [.csr, .out, .hostq] s (s.stepRefuse w n) :=
  stepRefuse_goes

/-- A step opens whose members are all reachable. -/
def State.opening (s : State) (j step : Nat) (fresh : Bool) : StepRec :=
  let r := s.stepRec j
  let p0 := (s.rdReg JOB_PARAM0 j).toNat
  let rank := getBits p0 0 10
  { step := step, members := r.nextMembers.getD (s.get JOB_CTRL.SITES j), reachable := r.reachable
    firstUse := fresh || r.fresh
    partitioned := r.partitioned, partitionStep := r.partitionStep
    reason := r.reason, chunks1 := roundChunks (s.tensors j) rank 0, chunks2 := roundChunks (s.tensors j) rank 1
    lastCommon := r.lastCommon, tOpen := s.mono, stale := r.stale, updateSeq := r.updateSeq
    param0 := p0, param1 := (s.rdReg JOB_PARAM1 j).toNat, policy := getBits p0 12 2
    heldOpens := r.heldOpens, lastOpened := step, stepped := r.stepped, rejoins := r.rejoins, rejoinDue := r.rejoinDue
    fresh := false }

/-- With every member reachable a step opens without a partition. -/
theorem openStep_reachable {s : State} {j step : Nat} {fresh : Bool}
    (h : (s.opening j step fresh).members &&& (s.stepRec j).reachable = (s.opening j step fresh).members) :
    s.openStep j step fresh = (s.set JOB_STATUS.FINGERPRINT (s.fingerprint j) j).enter j 1 (s.opening j step fresh) := by
  obtain ⟨n, hn⟩ := enter_stepRec (s.set JOB_STATUS.FINGERPRINT (s.fingerprint j) j) j 1 (s.opening j step fresh)
  generalize hX : (s.set JOB_STATUS.FINGERPRINT (s.fingerprint j) j).enter j 1 (s.opening j step fresh) = X at hn
  have hm : (X.stepRec j).members &&& (X.stepRec j).reachable = (X.stepRec j).members := by
    rw [hn]
    exact h
  subst hX
  exact if_pos hm

/-- What the opening of a step whose members are all reachable leaves. -/
theorem openStep_opens {s : State} {j : Fin 128} {step : Nat} {fresh : Bool} {r : StepRec} (hr : s.stepRec j = r)
    (h : r.nextMembers.getD (s.get JOB_CTRL.SITES j) &&& r.reachable = r.nextMembers.getD (s.get JOB_CTRL.SITES j)) :
    let t := s.openStep j step fresh
    Goes [.csr, .mem, .poison, .out, .intc, .myk, .xport] s t ∧ t.get JOB_STATUS.STATE j = 1 ∧
      ∃ a b, t.stepRec j = { s.opening j step fresh with
        state := 1, tState := a, workNs := b, enteredAt := s.mono, updateSeq := (r.updateSeq + 1) % 2 ^ 32 } := by
  subst hr
  intro t
  have ht : t = _ := openStep_reachable h
  rw [ht]
  refine ⟨.step (.step .refl set_goes (by decide)) enter_goes (by decide), enter_state _ _ _ _, ?_⟩
  obtain ⟨n, hn⟩ := enter_stepRec (s.set JOB_STATUS.FINGERPRINT (s.fingerprint j) j) j 1 (s.opening j step fresh)
  exact ⟨_, n, hn⟩

theorem putRec_stepRec (s : State) (j : Nat) (r : StepRec) : (s.putRec j r).stepRec j = r := lookupD_assocPut_same _ _ _ _

/-- The end of a descriptor whose step was opened. -/
theorem openStep_ends {s : State} {j : Fin 128} {step : Nat} {fresh : Bool} {r : StepRec} {w : Work} (hr : s.stepRec j = r)
    (h : r.nextMembers.getD (s.get JOB_CTRL.SITES j) &&& r.reachable = r.nextMembers.getD (s.get JOB_CTRL.SITES j)) :
    let t := (s.openStep j step fresh).stepEnd j w
    Goes [.csr, .mem, .poison, .out, .intc, .myk, .hostq, .xport] s t ∧ t.get JOB_STATUS.STATE j = 1 ∧ Ended t w 0 false false ∧
      (t.stepRec j).state = 1 ∧ (t.stepRec j).step = step ∧ (t.stepRec j).lastOpened = step ∧ (t.stepRec j).frog = 0 ∧
      (t.stepRec j).members = r.nextMembers.getD (s.get JOB_CTRL.SITES j) ∧ (t.stepRec j).heldOpens = r.heldOpens ∧
      (t.stepRec j).stale = r.stale ∧ (t.stepRec j).rejoinDue = r.rejoinDue := by
  intro t
  obtain ⟨hgoes, hstate, a, b, hrec⟩ := openStep_opens (step := step) (fresh := fresh) hr h
  have hend : t.stepRec j = _ := (stepEnd_stepRec _ _ _ _).trans hrec
  subst hr
  rw [hend]
  exact ⟨.step (.step .refl hgoes (by decide)) stepEnd_goes (by decide), (stepEnd_state _ _ _ _).trans hstate, stepEnd_ended _ _ _,
    rfl, rfl, rfl, rfl, rfl, rfl, rfl, rfl⟩

/-- What the spare of the group is told touches no job entry. -/
theorem mirrorOther_stepRec (s : State) (job step : Nat) (b : Bytes) (j : Nat) :
    (s.mirrorOther job step b).stepRec j = s.stepRec j := by
  have h : (s.mirrorOther job step b).xport = s.xport := mirrorOther_goes.only .xport rfl
  simp only [State.stepRec, h]

theorem mirrorOther_get (s : State) (job step : Nat) (b : Bytes) (f : Field) (i : Nat) :
    (s.mirrorOther job step b).get f i = s.get f i := get_congr (mirrorOther_goes.only .csr rfl) f i 0

/-- The end of a descriptor that the group's spare is told of. -/
theorem mirrored_ends {s : State} {job step k j : Nat} {b : Bytes} {w : Work} :
    let t := (s.mirrorOther job step b).stepEnd k w
    Goes [.csr, .freeCtr, .hostq, .fab, .grp] s t ∧ t.stepRec j = s.stepRec j ∧ Ended t w 0 false false :=
  ⟨.step (.step .refl mirrorOther_goes (by decide)) stepEnd_goes (by decide),
    (stepEnd_stepRec _ _ _ _).trans (mirrorOther_stepRec _ _ _ _ _), stepEnd_ended _ _ _⟩

/-- The step record of a frog of a round. -/
def StepRec.frogOf (r : StepRec) (round : Nat) : StepRec := { r.dropRound round with frog := r.frog + 1, frogActive := true }

theorem launchFrog_eq (s : State) (j round : Nat) (r : StepRec) :
    ∃ u : State, s.launchFrog j round r = u.enter j (if round = 0 then 3 else 6) (r.frogOf round) := by
  unfold State.launchFrog
  extract_lets s1 mine src s2
  exact ⟨s2, rfl⟩

/-- A frog puts its round back to its SCATTER state and counts. -/
theorem launchFrog_stepRec (s : State) (j round : Nat) (r : StepRec) :
    let t := s.launchFrog j round r
    (t.stepRec j).state = (if round = 0 then 3 else 6) ∧ (t.stepRec j).frog = r.frog + 1 ∧ (t.stepRec j).frogActive = true ∧
      (t.stepRec j).step = r.step ∧ (t.stepRec j).members = r.members := by
  intro t
  obtain ⟨u, hu⟩ := launchFrog_eq s j round r
  obtain ⟨n, hn⟩ := enter_stepRec u j (if round = 0 then 3 else 6) (r.frogOf round)
  rw [show t = _ from hu, hn]
  exact ⟨rfl, rfl, rfl, rfl, rfl⟩

/-- An ABORT ends its step in ROLLBACK_WAIT. -/
theorem aborted {s : State} {j : Fin 128} {r : StepRec} :
    let u := s.enter j 0x1E r
    let t := u.enter j 0x12 (u.stepRec j)
    Goes [.csr, .mem, .poison, .out, .intc, .myk, .xport] s t ∧ (t.stepRec j).state = 0x12 ∧ (t.stepRec j).step = r.step ∧
      t.get JOB_STATUS.STATE j = 0x12 := by
  intro u t
  obtain ⟨n, hu⟩ := enter_stepRec s j 0x1E r
  obtain ⟨m, ht⟩ := enter_stepRec u j 0x12 (u.stepRec j)
  refine ⟨.step (.step .refl enter_goes (by decide)) enter_goes (by decide), ?_, ?_, enter_state _ _ _ _⟩
  · rw [show t.stepRec j = _ from ht]
  · rw [show t.stepRec j = _ from ht, show u.stepRec j = _ from hu]

/-- A chunk that failed is owed again. -/
def State.owedAgain (s : State) (o : OwedChunk) : State :=
  { s with xport := { s.xport with owed := s.xport.owed.map (fun x => if x = o then { o with failed := false } else x) } }

/-- The request for an owed chunk that failed: the chunk is owed again, and the flow's next control message asks for it. -/
def State.askAgain (s : State) (j site : Nat) (o : OwedChunk) : State :=
  if o.raw then (s.owedAgain o).sendControl j site 4 (chunkRequest o.step o.chunk o.frog)
  else (s.owedAgain o).sendControl j site 6 (chunkRequest o.step o.chunk o.frog ++ le 2 0)

theorem placeControl_owed (s : State) (j p : Nat) (c : CtrlOut) : (s.placeControl j p c).xport.owed = s.xport.owed := by
  unfold State.placeControl
  split
  · rfl
  · next a _ =>
    show (s.writeBytes a (s.controlShardBytes j p c.seq c.ctype c.body)).xport.owed = s.xport.owed
    rw [writeBytes_goes.only .xport rfl]

theorem sendControl_owed (s : State) (j p ct : Nat) (msg : Bytes) : (s.sendControl j p ct msg).xport.owed = s.xport.owed := by
  unfold State.sendControl
  extract_lets f body
  split
  · exact placeControl_owed _ _ _ _
  · split <;> exact placeControl_owed _ _ _ _

theorem askAgain_effect (s : State) (j site : Nat) (o : OwedChunk) :
    let t := s.askAgain j site o
    Goes [.mem, .poison, .xport] s t ∧
      t.xport.owed = s.xport.owed.map (fun x => if x = o then { o with failed := false } else x) ∧
      (t.flow j site).ctrlNext = ((s.flow j site).ctrlNext + 1) % 2 ^ 32 := by
  intro t
  have hs1 : Goes [.mem, .poison, .xport] s (s.owedAgain o) := .xport .refl (by decide)
  have hask : ∀ ct msg, ct ≠ 1 ∧ ct ≠ 7 → (((s.owedAgain o).sendControl j site ct msg).flow j site).ctrlNext =
      ((s.flow j site).ctrlNext + 1) % 2 ^ 32 := fun ct msg h => by
    obtain ⟨a, ha⟩ := sendControl_other (s.owedAgain o) j site ct msg h
    rw [ha, if_pos rfl]
    rfl
  by_cases hraw : o.raw = true
  · have ht : t = _ := if_pos hraw
    rw [ht]
    exact ⟨.step hs1 sendControl_goes (by decide), sendControl_owed _ _ _ _ _, hask _ _ (by decide)⟩
  · have ht : t = _ := if_neg hraw
    rw [ht]
    exact ⟨.step hs1 sendControl_goes (by decide), sendControl_owed _ _ _ _ _, hask _ _ (by decide)⟩

/-- The step record of new members, or of all the job's sites. -/
def StepRec.membersTo (r : StepRec) (m : Nat) (full : Bool) : StepRec :=
  { (if full then r else { r with partitioned := true, partitionStep := r.step }) with members := m }

theorem membersTo_fields (r : StepRec) (m : Nat) (full : Bool) :
    let q := r.membersTo m full
    q.members = m ∧ q.state = r.state ∧ q.step = r.step ∧ q.partitioned = if full then r.partitioned else true := by
  cases full
  · exact ⟨rfl, rfl, rfl, rfl⟩
  · exact ⟨rfl, rfl, rfl, rfl⟩

/-- A MEMBERSHIP before the end of INGEST replaces the members. -/
theorem execStepMembership_early {s : State} {w : Work} {j : Nat} (hcheck : s.stepDescCheck 2 w = .ok j)
    (hm : (w.body 4 2).testBit s.localSite = true ∧ w.body 4 2 &&& s.get JOB_CTRL.SITES j = w.body 4 2)
    (hstep : w.step = (s.stepRec j).step) (hstate : (s.stepRec j).state = 1 ∨ (s.stepRec j).state = 2) :
    execStepMembership w s = .next (((s.saveRec j ((s.stepRec j).membersTo (w.body 4 2) (w.body 4 2 == s.get JOB_CTRL.SITES j))).mirrorOther
      w.job w.step w.desc).stepEnd j w) := by
  have hgo : (!(w.body 4 2).testBit s.localSite || w.body 4 2 &&& s.get JOB_CTRL.SITES j != w.body 4 2) = false := by
    simp [hm.1, hm.2]
  have hon : ¬ (w.step ≠ (s.stepRec j).step ∨
      (!(beforeUpdate (s.stepRec j).state || (s.stepRec j).state == 0x10 || (s.stepRec j).state == 0x0B)) = true) := by
    rcases hstate with h | h <;> simp [h, beforeUpdate, hstep]
  have hb : (s.stepRec j).state ≠ 0x0B := by omega
  simp only [execStepMembership, hcheck]
  rw [hgo, if_neg Bool.false_ne_true, if_neg hon]
  unfold StepRec.membersTo
  cases hfull : w.body 4 2 == s.get JOB_CTRL.SITES j
  · rw [if_neg hb, if_neg Bool.false_ne_true]
    dsimp only
    rw [if_neg hb, if_pos hstate]
  · rw [if_pos rfl, if_neg hb, if_pos hstate]
    rfl

/-- The step record of a resumed step: residuals and warm-start matrices are cleared. -/
def StepRec.resumed (r : StepRec) (sites : Nat) : StepRec :=
  { r with
    partitioned := r.partitioned && !(sites &&& r.reachable == sites)
    partitionStep := if (sites &&& r.reachable == sites) = true then 0 else r.partitionStep
    stale := List.replicate 16 0, stepped := false, rejoinDue := 0, rejoins := [] }

/-- Settles O22, descriptor by descriptor: each is its effect on the step record, and the end of the descriptor. -/
theorem stepDescriptors : Obligations.StepDescriptors := by
  unfold Obligations.StepDescriptors
  refine ⟨?opens, ?held, ?openRefused, ?release, ?membership, ?membershipRefused, ?frog, ?frogRefused, ?abort, ?abortRefused,
    ?resume, ?resend⟩
  case opens =>
    rintro s w j r m ⟨hcheck, hmay, hopen, hheld⟩ hm
    replace hcheck := stepDescCheck_ok hcheck
    lift j to Fin 128 using stepDescCheck_lt hcheck
    obtain ⟨hgoes, hstatus, hend, hstate, hstep, hlast, hfrog, hmem, -⟩ :=
      openStep_ends (s := s) (j := j) (step := w.step) (fresh := false) (w := w) rfl hm
    refine Does.of_goes ?_ hgoes ⟨hstate, hstep, hmem, hlast, hfrog, hstatus, hend⟩
    have hgo : ((s.stepRec j).openable && (s.stepRec j).heldOpens.isEmpty) = true := by
      rw [show (s.stepRec j).openable = true from hopen, show (s.stepRec j).heldOpens = [] from hheld]
      rfl
    simp only [exec, execStepOpen, hcheck, show (s.stepRec j).mayOpen w.step = true from hmay, hgo, Bool.not_true, if_true,
      Bool.false_eq_true, if_false]
  case held =>
    rintro s w j r ⟨hcheck, hmay, hwait⟩
    replace hcheck := stepDescCheck_ok hcheck
    have hgo : ((s.stepRec j).openable && (s.stepRec j).heldOpens.isEmpty) = false := by
      rcases hwait with h | h
      · rw [show (s.stepRec j).openable = false from h, Bool.false_and]
      · rw [List.isEmpty_eq_false_iff.mpr h, Bool.and_false]
    refine Does.of_goes ?_ (putRec_goes (j := j) (r := { r with heldOpens := r.heldOpens ++ [w] })) ⟨putRec_stepRec _ _ _, rfl⟩
    simp only [exec, execStepOpen, hcheck, show (s.stepRec j).mayOpen w.step = true from hmay, hgo, Bool.not_true,
      Bool.false_eq_true, if_false]
    rfl
  case openRefused =>
    rintro s w j ⟨hcheck, hmay⟩
    replace hcheck := stepDescCheck_ok hcheck
    refine Does.of_goes ?_ stepRefuse_goes ⟨stepRefuse_ended s w 0x0902, stepRefuse_sent _ _ _, stepRefuse_goes.only .xport rfl⟩
    simp only [exec, execStepOpen, hcheck, hmay, Bool.not_false, if_true]
  case release =>
    rintro s j w ws r m ⟨hheld, hopen, hmay, hm⟩
    obtain ⟨hgoes, hstatus, hend, hstate, hstep, hlast, hfrog, hmem, hws, -⟩ :=
      openStep_ends (s := s.putRec j { r with heldOpens := ws }) (j := j) (step := w.step) (fresh := false) (w := w)
        (putRec_stepRec _ _ _) hm
    refine Does.of_goes ?_ (.step (.step .refl putRec_goes (by decide)) hgoes (by decide)) ⟨hstate, hstep, hws, hend⟩
    simp only [exec, execStepOpenRelease, show (s.stepRec j).heldOpens = w :: ws from hheld,
      show (s.stepRec j).openable = true from hopen, show (s.stepRec j).mayOpen w.step = true from hmay, Bool.not_true,
      Bool.false_eq_true, if_false, if_true]
    rfl
  case membership =>
    rintro s w j r m ⟨hcheck, hlocal, hsites, hstep⟩ hstate
    replace hcheck := stepDescCheck_ok hcheck
    obtain ⟨hends, hrec, hend⟩ := mirrored_ends (s := s.saveRec j (r.membersTo m (m == s.get JOB_CTRL.SITES j))) (job := w.job)
      (step := w.step) (k := j) (j := j) (b := w.desc) (w := w)
    refine Does.of_goes ?_ (.step (.step .refl saveRec_goes (by decide)) hends (by decide)) ?_
    · exact execStepMembership_early hcheck ⟨hlocal, hsites⟩ hstep hstate
    · rw [hrec, saveRec_stepRec]
      obtain ⟨hm, hs, hst, hp⟩ := membersTo_fields r m (m == s.get JOB_CTRL.SITES j)
      refine ⟨hm, hs, hst, hend, hp.trans ?_⟩
      by_cases hfull : m = s.get JOB_CTRL.SITES j
      · rw [if_pos hfull, if_pos (beq_iff_eq.mpr hfull)]
      · rw [if_neg hfull, if_neg (by simpa using hfull)]
  case membershipRefused =>
    rintro s w j ⟨hcheck, hlocal⟩
    replace hcheck := stepDescCheck_ok hcheck
    refine Does.of_goes ?_ stepRefuse_goes ⟨stepRefuse_ended s w 0x0926, stepRefuse_goes.only .xport rfl⟩
    simp only [exec, execStepMembership, hcheck, hlocal, Bool.not_false, Bool.true_or, if_true]
  case frog =>
    rintro s w j r ⟨hcheck, hstep, hmax⟩ hround
    replace hcheck := stepDescCheck_ok hcheck
    obtain ⟨hstate, hfrog, hactive, hkeep, hmem⟩ := launchFrog_stepRec s j (w.body 1 1) r
    obtain ⟨hends, hrec, hend⟩ := mirrored_ends (s := s.launchFrog j (w.body 1 1) r) (job := w.job) (step := w.step) (k := j)
      (j := j) (b := w.desc) (w := w)
    refine Does.of_goes ?_ (.step (.step .refl launchFrog_goes (by decide)) hends (by decide)) ?_
    · have hok : (if w.body 1 1 = 0 then decide (3 ≤ r.state ∧ r.state ≤ 7) || r.state == 0x10
          else r.state == 6 || r.state == 7 || (r.state == 0x10 && (r.heldFrom == 6 || r.heldFrom == 7))) = true := by
        rcases hround with ⟨h0, hlo, hhi⟩ | ⟨h1, h | h⟩
        · simp [h0, hlo, hhi]
        · simp [h1, h]
        · simp [h1, h]
      simp only [exec, execStepFrog, hcheck]
      rw [if_neg (by rw [show (ite _ _ _) = true from hok]; simp [hstep, r]), if_neg (by simpa [r] using hmax)]
    · rw [hrec, hstate, hfrog, hactive, hkeep, hmem]
      exact ⟨rfl, rfl, rfl, rfl, rfl, hend⟩
  case frogRefused =>
    rintro s w j r ⟨hcheck, hstep, hmax, hround, hlo, hhi⟩
    replace hcheck := stepDescCheck_ok hcheck
    refine Does.of_goes ?_ stepRefuse_goes ⟨stepRefuse_ended s w 0x0907, stepRefuse_goes.only .xport rfl⟩
    have hok : (decide (3 ≤ r.state ∧ r.state ≤ 7) || r.state == 0x10) = true := by simp [hlo, hhi]
    simp only [exec, execStepFrog, hcheck, hround, if_true]
    rw [if_neg (by rw [show (_ || _) = true from hok]; simp [hstep, r]), if_pos hmax]
  case abort =>
    rintro s w j ⟨hcheck, hstep⟩
    replace hcheck := stepDescCheck_ok hcheck
    lift j to Fin 128 using stepDescCheck_lt hcheck
    obtain ⟨hgoes, hstate, hkeep, hstatus⟩ := aborted (s := s) (j := j) (r := s.stepRec j)
    obtain ⟨hends, hrec, hend⟩ := mirrored_ends (s := (s.enter j 0x1E (s.stepRec j)).enter j 0x12
      ((s.enter j 0x1E (s.stepRec j)).stepRec j)) (job := w.job) (step := w.step) (k := j) (j := j) (b := w.desc) (w := w)
    refine Does.of_goes ?_ (.step (.step .refl hgoes (by decide)) hends (by decide)) ⟨?_, ?_, ?_, hend⟩
    · simp only [exec, execStepAbort, hcheck, hstep, ne_eq, not_true_eq_false, if_false]
    · rw [hrec, hstate]
    · rw [hrec, hkeep]
    · rw [stepEnd_state, mirrorOther_get, hstatus]
  case abortRefused =>
    rintro s w j ⟨hcheck, hstep⟩
    replace hcheck := stepDescCheck_ok hcheck
    refine Does.of_goes ?_ stepRefuse_goes ⟨stepRefuse_ended s w 0x0902, stepRefuse_goes.only .xport rfl⟩
    simp only [exec, execStepAbort, hcheck, ne_eq, hstep, not_false_eq_true, if_true]
  case resume =>
    rintro s w j r m ⟨hcheck, hstate, hne, hm⟩
    replace hcheck := stepDescCheck_ok hcheck
    lift j to Fin 128 using stepDescCheck_lt hcheck
    obtain ⟨hgoes, hstatus, hend, h1, hstep, hlast, hfrog, hmem, hheld, hstale, hrejoin⟩ :=
      openStep_ends (s := s.putRec j (r.resumed (s.get JOB_CTRL.SITES j))) (j := j) (step := w.step) (fresh := true) (w := w)
        (putRec_stepRec _ _ _) hm
    refine Does.of_goes ?_ (.step (.step .refl putRec_goes (by decide)) hgoes (by decide)) ⟨h1, hstep, hstale, hrejoin, hend⟩
    simp only [exec, execStepResume, hcheck]
    exact if_neg (by simp [hne, show (s.stepRec j).state = 0x12 from hstate])
  case resend =>
    rintro s w j o r ⟨hcheck, hstep, hlo, hhi⟩ hfind
    replace hcheck := stepDescCheck_ok hcheck
    obtain ⟨hgoes, howed, hnext⟩ := askAgain_effect s j (w.body 2 1) o
    refine Does.of_goes (t := (s.askAgain j (w.body 2 1) o).stepEnd j w) ?_
      (.step (.step .refl hgoes (by decide)) stepEnd_goes (by decide)) ⟨?_, stepEnd_ended _ _ _, ?_⟩
    · have hok : (decide (3 ≤ r.state ∧ r.state ≤ 7) || r.state == 0x10) = true := by simp [hlo, hhi]
      simp only [exec, execStepResend, hcheck]
      rw [show List.find? _ _ = some o from hfind]
      dsimp only
      rw [if_neg (by rw [show (_ || _) = true from hok]; simp [hstep, r])]
      rfl
    · rw [show (State.stepEnd _ _ _).xport = _ from stepEnd_goes.only .xport rfl, howed]
    · rw [flow_of_xport (stepEnd_goes.only .xport rfl), hnext]

end Sys2Proof.Machine

namespace Sys2Proof.Machine
open Csr

/-! ## Step progress (O23) -/

/-- A step that enters a state keeps its number and its members. -/
theorem enter_keeps (s : State) (j : Fin 128) {b : Nat} (r : StepRec) (hb : b < 2 ^ 8) :
    let t := s.enter j b r
    (t.stepRec j).state = b ∧ (t.stepRec j).step = r.step ∧ t.get JOB_STATUS.STATE j = b ∧ (t.stepRec j).members = r.members := by
  intro t
  obtain ⟨n, hn⟩ := enter_stepRec s j b r
  refine ⟨?_, ?_, (enter_state s j b r).trans (Nat.mod_eq_of_lt hb), ?_⟩
  · rw [show t.stepRec j = _ from hn]
  · rw [show t.stepRec j = _ from hn]
  · rw [show t.stepRec j = _ from hn]

/-- The moves of a stage that is complete, from state to state. -/
def State.StageMoves (s : State) (r : StepRec) (b : Nat) : Prop :=
  (r.state, b) ∈ [(1, 2), (5, 6), (8, 9), (9, 0x0A), (0x11, 0x0B)] ∨ (r.state = 3 ∧ s.scatterDone r 0 = true ∧ b = 4) ∨
    (r.state = 6 ∧ s.scatterDone r 1 = true ∧ b = 7) ∨
    (r.state = 4 ∧ gatherDone r 0 = true ∧ r.par JOB_PARAM0.RANK ≠ 0 ∧ b = 5) ∨
    (r.state = 4 ∧ gatherDone r 0 = true ∧ r.par JOB_PARAM0.RANK = 0 ∧ r.unclean = [] ∧ b = 8) ∨
    (r.state = 7 ∧ gatherDone r 1 = true ∧ r.unclean = [] ∧ b = 8)

/-- The step record of a reconciliation that closes. -/
def StepRec.rejoined (r : StepRec) : StepRec :=
  { r with
    partitioned := false, partitionStep := 0, lastCommon := r.step, stale := List.replicate 16 0, stepped := false, weights := [] }

theorem reconciled_enters (s : State) (j : Nat) (r : StepRec) : s.reconciled j r = s.enter j 0x0B r.rejoined := rfl

/-- The step record as UPDATE begins. -/
def StepRec.updating (r : StepRec) : StepRec := { r with cleanWait := false, frogActive := false }

/-- Every move enters the next state with the step's number and members. -/
theorem stageComplete_enters {s : State} {j : Fin 128} {b : Nat} (h : s.StageMoves (s.stepRec j) b) :
    ∃ r : StepRec, execStageComplete j s = .next (s.enter j b r) ∧ r.step = (s.stepRec j).step ∧
      r.members = (s.stepRec j).members ∧ b < 2 ^ 8 := by
  have hbarrier : (s.stepRec j).unclean = [] → s.updateBarrier j (s.stepRec j) =
      s.enter j 8 (s.stepRec j).updating := fun hu =>
    if_pos (List.isEmpty_iff.mpr hu)
  unfold execStageComplete
  rcases h with hmem | ⟨hst, hdone, rfl⟩ | ⟨hst, hdone, rfl⟩ | ⟨hst, hdone, hrank, rfl⟩ | ⟨hst, hdone, hrank, hu, rfl⟩ | ⟨hst, hdone, hu, rfl⟩
  · simp only [List.mem_cons, Prod.mk.injEq, List.not_mem_nil, or_false] at hmem
    rcases hmem with ⟨hst, rfl⟩ | ⟨hst, rfl⟩ | ⟨hst, rfl⟩ | ⟨hst, rfl⟩ | ⟨hst, rfl⟩
    · exact ⟨s.stepRec j, by simp only [hst], rfl, rfl, by decide⟩
    · exact ⟨s.stepRec j, by simp only [hst], rfl, rfl, by decide⟩
    · exact ⟨s.stepRec j, by simp only [hst], rfl, rfl, by decide⟩
    · exact ⟨s.stepRec j, by simp only [hst], rfl, rfl, by decide⟩
    · exact ⟨(s.stepRec j).rejoined, by simp only [hst, reconciled_enters], rfl, rfl, by decide⟩
  · exact ⟨s.stepRec j, by simp only [hst, hdone, if_true], rfl, rfl, by decide⟩
  · exact ⟨s.stepRec j, by simp only [hst, hdone, if_true], rfl, rfl, by decide⟩
  · exact ⟨s.stepRec j, by simp only [hst, hdone, hrank, Bool.not_true, Bool.false_eq_true, if_false], rfl, rfl, by decide⟩
  · exact ⟨(s.stepRec j).updating, by simp only [hst, hdone, hrank, Bool.not_true, Bool.false_eq_true, if_false, if_true, hbarrier hu], rfl, rfl, by decide⟩
  · exact ⟨(s.stepRec j).updating, by simp only [hst, hdone, if_true, hbarrier hu], rfl, rfl, by decide⟩

/-- A missing clean mark keeps the step where it is, waiting. -/
theorem updateBarrier_waits {s : State} {j : Nat} {r : StepRec} (h : r.unclean ≠ []) :
    ((s.updateBarrier j r).stepRec j).state = r.state ∧ ((s.updateBarrier j r).stepRec j).cleanWait = true := by
  unfold State.updateBarrier
  rw [if_neg (by simpa using h)]
  split
  · next hw => rw [putRec_stepRec]; exact ⟨rfl, hw⟩
  · rw [saveRec_stepRec]; exact ⟨rfl, rfl⟩

/-- The step record of a stall by the sites of a mask. -/
def StepRec.stalledBy (r : StepRec) (m now : Nat) : StepRec :=
  { r with reason := 0x0903, stalled := true, stalledSites := m, stallAt := if r.stalled then r.stallAt else now }

theorem saveRec_reason (s : State) (j : Fin 128) (r : StepRec) : (s.saveRec j r).get JOB_STATUS.REASON j = r.reason % 2 ^ 16 := by
  rw [saveRec_status _ _ _ _ rfl]
  simp (disch := decide) only [State.statusSet, get_set_mod]
  rfl

/-- A stall is recorded and reported. -/
theorem stall_effect (s : State) (j : Fin 128) (m : Nat) (r : StepRec) :
    let t := s.stall j m r
    (t.stepRec j).stalled = true ∧ (t.stepRec j).stalledSites = m ∧ (t.stepRec j).state = r.state ∧
      (t.stepRec j).reason = 0x0903 ∧ Sent s t (.report 0x0903) ∧ t.get JOB_STATUS.REASON j = 0x0903 := by
  have ht : s.stall j m r = (s.report 0x0903).saveRec j (r.stalledBy m s.mono) := rfl
  have hrec := saveRec_stepRec (s.report 0x0903) j (r.stalledBy m s.mono)
  have hsent : Sent s ((s.report 0x0903).saveRec j (r.stalledBy m s.mono)) (.report 0x0903) :=
    (sent_report 0x0903 List.prefix_rfl).of_goes saveRec_goes
  dsimp only
  rw [ht, hrec, saveRec_reason]
  exact ⟨rfl, rfl, rfl, rfl, hsent, rfl⟩

/-- Saving a step record changes the transport's state in that record alone. -/
theorem saveRec_retained (s : State) (j : Nat) (r : StepRec) : (s.saveRec j r).xport.retained = s.xport.retained := by
  unfold State.saveRec
  extract_lets r' s1 s2 b a
  rw [event_goes.only .xport rfl, reachUpdate_goes.only .xport rfl, hostWrite_goes.only .xport rfl, hostWrite_goes.only .xport rfl]
  rfl

theorem enter_retained (s : State) (j st : Nat) (r : StepRec) : (s.enter j st r).xport.retained = s.xport.retained := by
  unfold State.enter
  rw [saveRec_retained]

theorem releaseRetained_stepRec (s : State) (p : Retained → Bool) (j : Nat) : (s.releaseRetained p).stepRec j = s.stepRec j := by
  unfold State.releaseRetained
  extract_lets src s1
  unfold State.stepRec
  rw [show (State.usageUpdate s1).xport = s1.xport from usageUpdate_goes.only .xport rfl]

theorem releaseRetained_retained (s : State) (p : Retained → Bool) :
    (s.releaseRetained p).xport.retained = s.xport.retained.filter (fun r => !p r) := by
  unfold State.releaseRetained
  extract_lets src s1
  rw [show (State.usageUpdate s1).xport = s1.xport from usageUpdate_goes.only .xport rfl]

/-- Progress ends a stall and leaves the rest of the step. -/
theorem progress_keeps (s : State) (j : Nat) :
    let r := (s.progress j).stepRec j
    r.step = (s.stepRec j).step ∧ r.partitioned = (s.stepRec j).partitioned ∧ r.rejoinDue = (s.stepRec j).rejoinDue ∧
      (s.progress j).xport.retained = s.xport.retained := by
  unfold State.progress
  dsimp only
  split
  · rw [saveRec_stepRec, saveRec_retained]
    exact ⟨rfl, rfl, rfl, rfl⟩
  · exact ⟨rfl, rfl, rfl, rfl⟩

/-- The step record of a step that closes: a partitioned step counts toward STALE, another one is common to all sites. -/
def StepRec.closed (r : StepRec) : StepRec :=
  if r.partitioned && decide (r.partitionStep ≤ r.step) then
    { r with
      stepped := true
      stale := (List.range 16).map (fun i => min 255 (r.stale.getD i 0 + b2n (r.members.testBit i && r.policy != 1))) }
  else { r with lastCommon := r.step }

theorem StepRec.closed_keeps (r : StepRec) : r.closed.step = r.step ∧ r.closed.rejoinDue = r.rejoinDue ∧
    (r.partitioned = false → r.closed.lastCommon = r.step) := by
  unfold StepRec.closed
  split
  · next h =>
    refine ⟨rfl, rfl, fun hp => ?_⟩
    rw [hp, Bool.false_and] at h
    exact absurd h Bool.false_ne_true
  · exact ⟨rfl, rfl, fun _ => rfl⟩

/-- The state in which a step whose retained chunks are acknowledged is closed. -/
def State.closing (s : State) (j : Nat) : State :=
  (s.releaseRetained (fun x => x.entry == j && x.step == (s.stepRec j).step &&
    (x.acked || (s.stepRec j).reachable.testBit x.peer))).progress j

theorem closing_keeps (s : State) (j : Nat) :
    let r := (s.closing j).stepRec j
    r.step = (s.stepRec j).step ∧ r.partitioned = (s.stepRec j).partitioned ∧ r.rejoinDue = (s.stepRec j).rejoinDue ∧
      (s.closing j).xport.retained = s.xport.retained.filter (fun x => !(x.entry == j && x.step == (s.stepRec j).step &&
        (x.acked || (s.stepRec j).reachable.testBit x.peer))) := by
  obtain ⟨hs, hp, hd, hr⟩ := progress_keeps (s.releaseRetained (fun x => x.entry == j && x.step == (s.stepRec j).step &&
    (x.acked || (s.stepRec j).reachable.testBit x.peer))) j
  rw [releaseRetained_stepRec] at hs hp hd
  rw [releaseRetained_retained] at hr
  exact ⟨hs, hp, hd, hr⟩

theorem closing_goes {s : State} {j : Nat} : Goes [.csr, .mem, .poison, .out, .intc, .myk, .xport] s (s.closing j) :=
  .step (.step .refl releaseRetained_goes (by decide)) progress_goes (by decide)

/-- The step record with no frog active. -/
def StepRec.calm (r : StepRec) : StepRec := { r with frogActive := false }

theorem applyRejoin_none {s : State} {j : Nat} (h : (s.stepRec j).rejoinDue = 0) : s.applyRejoin j = s := by
  unfold State.applyRejoin
  extract_lets r ready last pol r' sites
  have hready : ready = false := by
    show (_ && _ && _) = false
    rw [show r.rejoinDue = 0 from h]
    rfl
  rw [hready]
  rfl

theorem closeReported_xport (s : State) (j : Nat) : (s.closeReported j).xport = s.xport := closeReported_goes.only .xport rfl

theorem closeReported_stepRec (s : State) (j k : Nat) : (s.closeReported j).stepRec k = s.stepRec k := by
  simp only [State.stepRec, closeReported_xport]

/-- A step whose retained chunks are acknowledged closes, with no rejoin to apply. -/
theorem execStepClose_closes {s : State} {j : Fin 128} (hst : (s.stepRec j).state = 0x0A)
    (hacked : s.xport.retained.any (fun x => x.entry == j.val && x.step == (s.stepRec j).step && !x.acked &&
      (s.stepRec j).reachable.testBit x.peer) = false)
    (hdue : (s.stepRec j).rejoinDue = 0) :
    execStepClose j s =
      .next (((s.closing j).enter j 0x0B (((s.closing j).stepRec j).closed.calm)).closeReported j) := by
  have hdue2 : ((s.closing j).stepRec j).closed.rejoinDue = 0 := by
    obtain ⟨-, hclosed, -⟩ := ((s.closing j).stepRec j).closed_keeps
    obtain ⟨-, -, hp, -⟩ := closing_keeps s j
    rw [hclosed, hp, hdue]
  have hdue' : (((s.closing j).enter j 0x0B (((s.closing j).stepRec j).closed.calm)).stepRec j).rejoinDue = 0 := by
    obtain ⟨n, hn⟩ := enter_stepRec (s.closing j) j 0x0B (((s.closing j).stepRec j).closed.calm)
    rw [hn]
    exact hdue2
  unfold execStepClose
  extract_lets k r waits t1 t2 r2 src1 src2 r3 t3
  have hsrc : src1 = r2.closed := rfl
  have hX : src2 = ((s.closing j).enter j 0x0B (r2.closed.calm)).closeReported j := rfl
  have hr2 : ((s.closing j).stepRec j).closed.rejoinDue = 0 := hdue2
  have hr3 : r3 = src2 := if_pos (by rw [hsrc]; exact hr2)
  rw [if_neg (by
    rintro (h | h)
    · exact h hst
    · exact absurd (hacked.symm.trans h) Bool.false_ne_true), hr3, hX]
  refine congrArg Host.Outcome.next (applyRejoin_none ?_)
  rw [closeReported_stepRec]
  exact hdue'

/-- Settles O23: each command is its move of the step record, which every member and the registers show. -/
theorem stepProgress : Obligations.StepProgress := by
  unfold Obligations.StepProgress
  refine ⟨?ingest, ?stage, ?waits, ?stays, ?stalled, ?expiry, ?close⟩
  case ingest =>
    rintro s j hst
    obtain ⟨hstate, hstep, hstatus, hmem⟩ := enter_keeps s j (b := 3) (s.stepRec j) (by decide)
    exact Does.of_goes (if_pos hst) enter_goes ⟨hstate, hstep, hstatus, hmem⟩
  case stage =>
    rintro s j b r h
    obtain ⟨r', hexec, hs, hm, hb⟩ := stageComplete_enters (j := j) (b := b) h
    obtain ⟨hstate, hstep, hstatus, hmem⟩ := enter_keeps s j r' hb
    exact Does.of_goes hexec enter_goes ⟨hstate, hstep.trans hs, hstatus, hmem.trans hm⟩
  case waits =>
    rintro s j r h hu
    refine Does.of_goes (t := s.updateBarrier j r) ?_ updateBarrier_goes (updateBarrier_waits hu)
    show execStageComplete j s = _
    unfold execStageComplete
    rcases h with ⟨hst, hdone, hrank⟩ | ⟨hst, hdone⟩
    · simp only [show (s.stepRec j).state = 4 from hst, show gatherDone (s.stepRec j) 0 = true from hdone,
        show (s.stepRec j).par JOB_PARAM0.RANK = 0 from hrank, Bool.not_true, Bool.false_eq_true, if_false, if_true]
      rfl
    · simp only [show (s.stepRec j).state = 7 from hst, show gatherDone (s.stepRec j) 1 = true from hdone, if_true]
      rfl
  case stays =>
    rintro s j r h
    refine Does.of_goes (t := s) ?_ .refl rfl
    show execStageComplete j s = _
    unfold execStageComplete
    rcases h with ⟨hst, hdone⟩ | ⟨hst, hdone⟩ | hst | hst
    · simp only [show (s.stepRec j).state = 3 from hst, show s.scatterDone (s.stepRec j) 0 = false from hdone, Bool.false_eq_true,
        if_false]
    · simp only [show (s.stepRec j).state = 4 from hst, show gatherDone (s.stepRec j) 0 = false from hdone, Bool.not_false, if_true]
    · simp only [show (s.stepRec j).state = 0 from hst]
    · simp only [show (s.stepRec j).state = 0x10 from hst]
  case stalled =>
    rintro s j r ⟨hst, hmem⟩
    refine Does.of_goes (t := s.stall j (s.owing j r) r) ?_ stall_goes (stall_effect s j (s.owing j r) r)
    refine if_neg ?_
    simp only [List.mem_cons, List.not_mem_nil, or_false] at hmem
    rcases hmem with h | h | h | h <;> simp [show (s.stepRec j).stalled = false from hst, show (s.stepRec j).state = _ from h]
  case expiry =>
    rintro s j r hwait
    obtain ⟨h1, h2, -, h4, h5, -⟩ := stall_effect s j (s.owing j r) r
    exact Does.of_goes (t := s.stall j (s.owing j r) r) (if_pos hwait) stall_goes ⟨h1, h2, h4, h5⟩
  case close =>
    rintro s j r ⟨hst, hacked⟩ hdue
    obtain ⟨hs, hp, -, hret⟩ := closing_keeps s j
    obtain ⟨hcs, -, hlast⟩ := ((s.closing j).stepRec j).closed_keeps
    obtain ⟨n, hn⟩ := enter_stepRec (s.closing j) j 0x0B ((s.closing j).stepRec j).closed.calm
    refine Does.of_goes (execStepClose_closes hst hacked hdue)
      (.step (.step (.step .refl closing_goes (by decide)) enter_goes (by decide)) closeReported_goes (by decide)) ?_
    rw [closeReported_stepRec, closeReported_xport, enter_retained, hret, hn]
    refine ⟨rfl, hcs.trans hs, ?_, rfl, rfl, fun h => ?_⟩
    · rw [get_congr (closeReported_goes.only .csr rfl), enter_state]
      rfl
    · exact (hlast (hp.trans h)).trans hs

end Sys2Proof.Machine

namespace Sys2Proof.Machine
open Csr

/-! ## ENCODE (O37) -/

section
variable {b : Nat} {a s : State}

theorem OutsideBlock.andAddSat {f : Field} {v i j : Nat} (h : OutsideBlock b a s) (w : f.reg.addr i j / 0x100000 = b) :
    OutsideBlock b a (s.addSat f v i j) := h.andSet w

theorem OutsideBlock.andAddWrap {f : Field} {v i j : Nat} (h : OutsideBlock b a s) (w : f.reg.addr i j / 0x100000 = b) :
    OutsideBlock b a (s.addWrap f v i j) := h.andSet w

theorem OutsideBlock.andCsr {t : State} (h : OutsideBlock b a s) (e : t.csr = s.csr) : OutsideBlock b a t := fun r i j w =>
  (rdReg_congr e r i j).trans (h r i j w)

theorem OutsideBlock.andGoes {k : List Part} {t : State} (h : OutsideBlock b a s) (g : Goes k s t) (w : k.contains .csr = false) :
    OutsideBlock b a t := h.andCsr (g.only .csr w)

end

theorem shadowEnd_outside (s : State) : OutsideBlock 17 s s.shadowEnd := by
  unfold State.shadowEnd
  extract_lets st
  split
  · exact .andRaise (.andCsr (.andSet .refl (by decide)) rfl) (by decide)
  · exact .refl

/-- The comparison of two digests changes registers of the group alone. -/
theorem digestsMeet_outside (s : State) (x y : Digest) : OutsideBlock 17 s (s.digestsMeet x y) := by
  unfold State.digestsMeet
  split
  · exact .andAddWrap .refl (by decide)
  · extract_lets s1 s2 s3
    have h1 : OutsideBlock 17 s s1 := .andSet (.andSet (.andSet (.andSet (.andAddSat .refl (by decide)) (by decide)) (by decide))
      (by decide)) (by decide)
    have h2 : OutsideBlock 17 s s2 := .andRaise (.andCsr h1 rfl) (by decide)
    have h3 : OutsideBlock 17 s s3 := by
      unfold s3
      split
      · exact h2
      · exact h2.andGoes groupSend_goes (by decide)
    split
    · split
      · exact h3
      · exact h3.trans (shadowEnd_outside _)
    · split
      · exact h3
      · exact h3.andAddSat (by decide)

theorem digestMade_outside (s : State) (job step chunk : Nat) (raw : Bytes) : OutsideBlock 17 s (s.digestMade job step chunk raw) := by
  unfold State.digestMade
  extract_lets d src
  clear_value d
  split
  · exact .andGoes .refl groupSend_goes (by decide)
  · split
    · split
      · exact .andCsr .refl rfl
      · refine .trans ?_ (digestsMeet_outside _ _ _)
        exact .andCsr .refl (by with_reducible rfl)
    · exact .refl

/-! ### The checks of a codec descriptor -/

/-- What a codec descriptor of operation 1 that passes its checks names. -/
theorem purlCheck_encode {s : State} {w : Work} (h : s.purlCheck 1 w = none) :
    w.body 2 1 % 16 ≤ 3 ∧ w.body 0 1 = 1 ∧ w.body 4 4 ≠ 0 ∧ w.body 8 4 = purlRaw w := by
  unfold State.purlCheck at h
  extract_lets fl flagBad at h
  iterate 2 (split at h; · cases h)
  rw [if_neg (by decide)] at h
  iterate 3 (split at h; · cases h)
  omega

theorem fmtBytes_pos {f : Nat} (h : f ≤ 3) : 0 < fmtBytes f := by
  interval_cases f <;> decide

theorem purlRaw_pos {s : State} {w : Work} (h : s.purlCheck 1 w = none) : 0 < purlRaw w := by
  obtain ⟨hf, -, hn, -⟩ := purlCheck_encode h
  exact Nat.mul_pos (by omega) (fmtBytes_pos hf)

theorem purlBlocks_pos {n : Nat} (h : 0 < n) : 0 < purlBlocks n := by
  simp only [purlBlocks, ceilDiv]
  rw [if_neg (by decide)]
  omega

theorem BlockHdr.bytes_ne_nil (h : BlockHdr) : h.bytes ≠ [] := by simp [BlockHdr.bytes]

theorem encodeBlock_bytes_ne_nil (fmt flags i : Nat) (raw adapt : Bool) (ad : Option (List Nat)) (codes : List Nat) :
    (encodeBlock fmt flags i raw adapt ad codes).bytes ≠ [] := by
  unfold encodeBlock
  extract_lets r sp syms h plane
  split
  · simp [rawBlock, BlockHdr.bytes_ne_nil]
  · split
    dsimp only
    split
    · simp [rawBlock, BlockHdr.bytes_ne_nil]
    · simp [BlockHdr.bytes_ne_nil]

/-- An ENCODE that passes its checks writes at least one block. -/
theorem purlEncode_pos {s : State} {w : Work} (h : s.purlCheck 1 w = none) : 0 < ((s.purlEncode w).flatMap EncBlock.bytes).length := by
  obtain ⟨n, hn⟩ := Nat.exists_eq_succ_of_ne_zero (purlBlocks_pos (purlRaw_pos h)).ne'
  unfold State.purlEncode
  extract_lets sb fl
  rw [hn, encodeBlocks, List.flatMap_cons, List.length_append]
  exact Nat.add_pos_left (List.length_pos_of_ne_nil (encodeBlock_bytes_ne_nil _ _ _ _ _ _ _)) _

/-! ### An ENCODE with its checks passed -/

section
variable (s : State) (w : Work)

/-- The blocks of an ENCODE, one after the other. -/
def State.purlOut : Bytes := (s.purlEncode w).flatMap EncBlock.bytes

/-- The state with the output of an ENCODE written. -/
def State.purlWritten : State := (s.readEvents w (purlAccess w)).engineWrite 13 (s.classOf w) (w.body 24 8) (s.purlOut w)

/-- The state with the bytes and the blocks of an ENCODE counted. -/
def State.purlCounted : State :=
  (((s.purlWritten w).addWrap PURL_ENC_IN.BYTES (purlRaw w)).addWrap PURL_ENC_OUT.BYTES (s.purlOut w).length).purlCount w
    ((s.purlEncode w).length - (s.purlEncode w).countP EncBlock.raw) ((s.purlEncode w).countP EncBlock.raw) 0x002D

/-- The state with the digest of a job's input made. -/
def State.purlDigested : State :=
  if w.job = 0 then s.purlCounted w
  else (s.purlCounted w).digestMade w.job w.step (w.body 32 4) ((s.purlCounted w).readBytes (w.body 16 8) (purlRaw w))

/-- The result of an ENCODE. -/
def State.purlResult : Result :=
  { block := 13, engine := purlEngine (s.purlOut w).length (s.purlEncode w).length ((s.purlEncode w).countP EncBlock.raw)
      (ceilDiv (s.purlEncode w).length (if w.body 3 1 = 0 then 256 else w.body 3 1)) }

theorem purlEncoded_eq : s.purlEncoded w = (s.purlDigested w).finish w (s.purlResult w) := rfl

variable {s w}

/-- The memory events and the write of the output, where the output lies in the module's memory. -/
theorem purlWritten_of (h : w.body 24 8 < hostBase) : ∃ u, s.purlWritten w = u ∧
    Goes [.csr, .mem, .poison, .out, .intc] s u ∧ u.mem = (s.writeBytes (w.body 24 8) (s.purlOut w)).mem ∧ OutsideBlock 15 s u := by
  refine ⟨_, rfl, ?_⟩
  unfold State.purlWritten State.engineWrite State.store
  rw [if_neg (by simpa [isHost] using h)]
  generalize s.purlOut w = o
  have hread : (s.readEvents w (purlAccess w)).mem = s.mem := readEvents_goes.only .mem rfl
  refine ⟨.step (.step (.step .refl readEvents_goes (by decide)) writeBytes_goes (by decide)) memEvent_goes (by decide), ?_, ?_⟩
  · rw [memEvent_goes.only .mem rfl]
    simp only [State.writeBytes, hread]
  · exact ((readEvents_outside s w _).andGoes writeBytes_goes (by decide)).trans (memEvent_outside _ _ _ _ _ _)

theorem purlCount_get {f : Field} {u : State} (w : Work) (coded raw event : Nat) (h15 : f.reg.addr 0 0 / 0x100000 ≠ 15)
    (hf : PURL_BLOCK_COUNT.addr 0 0 ≠ f.reg.addr 0 0) : (u.purlCount w coded raw event).get f = u.get f := by
  have hcount : ((u.addWrap PURL_BLOCK_COUNT.CODED coded).addWrap PURL_BLOCK_COUNT.RAW raw).get f = u.get f := by
    rw [State.addWrap, get_set_far _ _ _ _ hf, State.addWrap, get_set_far _ _ _ _ hf]
  unfold State.purlCount
  extract_lets u1 u2
  have h2 : u2.get f = u.get f := ((pmonEdge_outside _ _ _ _).get h15).trans hcount
  split
  · exact h2
  · exact ((pmonEdge_outside _ _ _ _).get h15).trans h2

theorem purlCounted_goes : Goes [.csr, .out, .intc] (s.purlWritten w) (s.purlCounted w) :=
  .step (.step (.step .refl addWrap_goes (by decide)) addWrap_goes (by decide)) purlCount_goes (by decide)

theorem purlDigested_goes : Goes [.csr, .out, .intc, .fab, .grp] (s.purlCounted w) (s.purlDigested w) := by
  unfold State.purlDigested
  exact .ite .refl (.step .refl digestMade_goes (by decide))

theorem purlDigested_outside : OutsideBlock 17 (s.purlCounted w) (s.purlDigested w) := by
  unfold State.purlDigested
  split
  · exact .refl
  · exact digestMade_outside _ _ _ _ _

/-- The counts of an ENCODE: its input bytes and its output bytes. -/
theorem purlCounted_counts (h : OutsideBlock 15 s (s.purlWritten w)) :
    (s.purlCounted w).get PURL_ENC_IN.BYTES = (s.get PURL_ENC_IN.BYTES + purlRaw w) % 2 ^ PURL_ENC_IN.BYTES.w ∧
      (s.purlCounted w).get PURL_ENC_OUT.BYTES = (s.get PURL_ENC_OUT.BYTES + (s.purlOut w).length) % 2 ^ PURL_ENC_OUT.BYTES.w := by
  unfold State.purlCounted
  constructor
  · rw [purlCount_get _ _ _ _ (by decide) (by decide), State.addWrap, get_set_far _ _ _ _ (by decide),
      get_addWrap _ _ _ _ _ (by decide), h.get (by decide)]
  · rw [purlCount_get _ _ _ _ (by decide) (by decide), get_addWrap _ _ _ _ _ (by decide), State.addWrap,
      get_set_far _ _ _ _ (by decide), h.get (by decide)]

/-- An ENCODE that passes its checks: what it writes, what it counts, and its end. -/
theorem purlEncoded_effect (h : s.purlCheck 1 w = none) (ha : w.body 24 8 + (s.purlOut w).length ≤ hostBase) :
    let t := s.purlEncoded w
    Goes [.csr, .mem, .poison, .out, .intc, .hostq, .fab, .grp] s t ∧
      t.mem = (s.writeBytes (w.body 24 8) (s.purlOut w)).mem ∧
      t.get PURL_ENC_IN.BYTES = (s.get PURL_ENC_IN.BYTES + purlRaw w) % 2 ^ PURL_ENC_IN.BYTES.w ∧
      t.get PURL_ENC_OUT.BYTES = (s.get PURL_ENC_OUT.BYTES + (s.purlOut w).length) % 2 ^ PURL_ENC_OUT.BYTES.w := by
  have hpos : 0 < (s.purlOut w).length := purlEncode_pos h
  obtain ⟨u, hu, hgoes, hmem, hout⟩ := purlWritten_of (s := s) (w := w) (by omega)
  subst hu
  obtain ⟨hin, ho⟩ := purlCounted_counts hout
  dsimp only
  rw [purlEncoded_eq]
  refine ⟨.step (.step (.step (.step .refl hgoes (by decide)) purlCounted_goes (by decide)) purlDigested_goes (by decide)) finish_goes
    (by decide), ?_, ?_, ?_⟩
  · rw [finish_mem, purlDigested_goes.only .mem rfl, purlCounted_goes.only .mem rfl, hmem]
  · rw [finish_get _ _ _ (by decide), purlDigested_outside.get (by decide), hin]
  · rw [finish_get _ _ _ (by decide), purlDigested_outside.get (by decide), ho]

/-- The record of an ENCODE carries the engine word of its output. -/
theorem finish_engine (u : State) (w : Work) (r : Result) : ∃ f ∈ (u.finish w r).hostq.finished, f.work = w ∧ f.res.engine = r.engine := by
  unfold State.finish
  extract_lets d x h
  have hq : (State.busyUpdate { u with hostq := h } (w.block % 32)).hostq = h := busyUpdate_goes.only .hostq rfl
  refine ⟨⟨w, r, d.tFetch, d.tDispatch, u.now, d.colour, d.chained, d.samplers, false⟩, ?_, rfl, rfl⟩
  rw [hq]
  exact List.mem_append_right _ (List.mem_singleton_self _)

end

/-! ### A chunk of one raw block -/

theorem le_leVal (bs : Bytes) : le bs.length (leVal bs) = bs := by
  induction bs with
  | nil => rfl
  | cons b bs ih =>
    have hlow : BitVec.ofNat 8 (leVal (b :: bs)) = b := by
      apply BitVec.eq_of_toNat_eq
      simp only [leVal, BitVec.toNat_ofNat]
      have := b.isLt
      omega
    have hhigh : leVal (b :: bs) / 256 = leVal bs := by
      simp only [leVal]
      have := b.isLt
      omega
    rw [List.length_cons, le, hlow, hhigh, ih]

theorem readBytes_add (s : State) (a m n : Nat) : s.readBytes a (m + n) = s.readBytes a m ++ s.readBytes (a + m) n := by
  simp [State.readBytes, List.range_add, Nat.add_assoc]

/-- The elements of a chunk read one by one, and their bytes. -/
theorem elements_bytes (s : State) (a b k : Nat) :
    ((List.range k).map (fun i => s.readLe (a + i * b) b)).flatMap (le b) = s.readBytes a (k * b) := by
  induction k with
  | zero => simp [State.readBytes]
  | succ k ih =>
    have hle : le b (s.readLe (a + k * b) b) = s.readBytes (a + k * b) b := by
      have h := le_leVal (s.readBytes (a + k * b) b)
      rwa [readBytes_length] at h
    rw [List.range_succ, List.map_append, List.flatMap_append, ih, Nat.succ_mul, readBytes_add]
    simp [hle]

theorem purlCodes_bytes (s : State) (w : Work) : (s.purlCodes w).flatMap (le (fmtBytes (w.body 2 1 % 16))) = s.readBytes (w.body 16 8) (purlRaw w) :=
  elements_bytes _ _ _ _

theorem rawBlock_length (fmt flags i : Nat) (raw : Bytes) : (rawBlock fmt flags i raw).length = 48 + raw.length := by
  have hzeros : (List.replicate 8 0).flatMap (le 2) = le 16 0 := by decide
  simp only [rawBlock, BlockHdr.bytes, List.length_append, List.length_cons, List.length_nil, length_le, hzeros]

/-- Under FORCE_RAW a chunk of one block is that block raw. -/
theorem purlOut_raw {s : State} {w : Work} (h : s.purlCheck 1 w = none) (hn : purlRaw w ≤ 65536) (hraw : s.on PURL_CFG.FORCE_RAW = true) :
    s.purlOut w = rawBlock (w.body 2 1 % 16) 6 0 (s.readBytes (w.body 16 8) (purlRaw w)) := by
  obtain ⟨hf, -, -, -⟩ := purlCheck_encode h
  have hpos := purlRaw_pos h
  have hone : purlBlocks (purlRaw w) = 1 := by
    simp only [purlBlocks, ceilDiv]
    rw [if_neg (by decide)]
    omega
  have hfull : (s.purlCodes w).length ≤ purlFull (w.body 2 1 % 16) := by
    simp only [State.purlCodes, List.length_map, List.length_range, purlFull]
    exact (Nat.le_div_iff_mul_le (fmtBytes_pos hf)).mpr hn
  unfold State.purlOut State.purlEncode
  simp only [hone, hraw, Bool.true_or, encodeBlocks, encodeBlock, if_true, List.take_of_length_le hfull, purlCodes_bytes, Nat.zero_mod,
    List.flatMap_cons, List.flatMap_nil, List.append_nil]
  rfl

/-! ### Refusals and faults -/

section
variable (s : State) (w : Work)

theorem purlLog_fields (r c e b : Nat) :
    (s.purlLog r c e b w).get PURL_ERR_LOG.REASON = r % 2 ^ 16 ∧
      (s.purlLog r c e b w).get PURL_ERR_LOG.QUEUE = w.queue % 2 ^ PURL_ERR_LOG.QUEUE.w := by
  unfold State.purlLog
  dsimp only
  constructor
  · simp (disch := decide) only [get_set_far, get_set_beside, get_set_mod]
    rfl
  · simp (disch := decide) only [get_set_far, get_set_beside, get_set_mod]

theorem purlLog_otherRegs (r c e b : Nat) : OtherRegs [PURL_ERR_LOG.addr 0 0, PURL_ERR_CHUNK.addr 0 0] s (s.purlLog r c e b w) := by
  unfold State.purlLog
  refine .andSet (.andSet (.andSet (.andSet (.andSet (.andSet (.andSet (.andSet .refl ?_) ?_) ?_) ?_) ?_) ?_) ?_) ?_
  all_goals decide

/-- Bytes that are poisoned. -/
theorem purlPoison_effect (r : Nat) : let t := s.purlPoison w r
    Goes [.csr, .poison, .hostq] s t ∧ Ended t w r true true ∧ t.out = s.out ∧ t.mem = s.mem ∧
      ∀ k < purlNeed w, w.body 24 8 + k ∈ t.poison := by
  unfold State.purlPoison
  refine ⟨.step (.step .refl poisonBytes_goes (by decide)) finish_goes (by decide), finish_ended _ _ _, ?_, ?_, fun k hk => ?_⟩
  · rw [finish_out]
    rfl
  · rw [finish_mem]
    rfl
  · rw [show (State.finish _ w _).poison = _ from finish_goes.only .poison rfl]
    exact List.mem_append_right _ (List.mem_map_of_mem (List.mem_range.mpr hk))

/-- The cluster that a quarantine names: the spare that stands in its place, or the cluster. -/
def State.purlHw (c : Nat) : Nat :=
  match s.purlSpareFor c with
  | some k => 32 + k
  | none => c

theorem raise_hlth (f : Field) (i : Nat) : (s.raise f i).hlth = s.hlth := raise_goes.only .hlth rfl

theorem health_quarantined (x : Health) : (s.health x).hlth.quarantined = s.hlth.quarantined := by
  obtain ⟨entry, h⟩ := health_hlth s x
  rw [h]
  rfl

theorem purlQuarantine_quarantined (c r : Nat) (x : Option Work) :
    (s.purlQuarantine c r x).hlth.quarantined = s.hlth.quarantined ++ [(13, s.purlHw c)] := by
  unfold State.purlQuarantine
  extract_lets old hw s1 s2 rec_ s3
  have h1 : s1.hlth.quarantined = s.hlth.quarantined ++ [(13, s.purlHw c)] := by
    unfold s1
    rw [show (State.markQuarantined _ _ _ _).hlth = _ from markQuarantined_goes.only .hlth rfl]
    rfl
  have h2 : s2.hlth = s1.hlth := by
    unfold s2
    clear_value s1 hw old
    cases old <;> rfl
  split
  · extract_lets s4
    rw [raise_hlth]
    exact (health_quarantined _ _).trans ((congrArg HlthSt.quarantined h2).trans h1)
  · rw [State.capChange_hlth, raise_hlth]
    exact (health_quarantined _ _).trans ((congrArg HlthSt.quarantined h2).trans h1)

end

/-- The state as an encoder's failing self-check is logged and reported. -/
def State.encReported (s : State) (w : Work) (c e : Nat) : State :=
  (((s.purlLog 0x0D0D c e 0 w).addSat PURL_ERR_COUNT.ENC_CHECK 1).report 0x0D0D).raise PURL_INT_STATUS.ENC_CHECK

theorem encReported_goes {s : State} {w : Work} {c e : Nat} : Goes [.csr, .out, .intc] s (s.encReported w c e) :=
  .step (.step (.step (.step .refl purlLog_goes (by decide)) addSat_goes (by decide)) report_goes (by decide)) raise_goes (by decide)

theorem encReported_get (s : State) (w : Work) (c e : Nat) : (s.encReported w c e).purlHw c = s.purlHw c := by
  have hregs : OtherRegs [PURL_ERR_LOG.addr 0 0, PURL_ERR_CHUNK.addr 0 0, PURL_ERR_COUNT.addr 0 0, PURL_INT_STATUS.addr 0 0] s
      (s.encReported w c e) := by
    refine .andRaise (.andReport (.andAddSat ((purlLog_otherRegs s w _ _ _ _).mono ?_) ?_)) ?_
    all_goals decide
  unfold State.purlHw State.purlSpareFor
  rw [hregs.get (by decide), hregs.get (by decide)]

/-- A failing self-check of a job's encode: it is logged, its cluster quarantined, and the descriptor runs once more. -/
theorem encFault_again (s : State) (w : Work) (c e : Nat) : let t := s.encFault w c e true
    Goes [.csr, .mem, .poison, .out, .freeCtr, .intc, .myk, .hlth, .rerun] s t ∧ t.rerun = s.rerun ++ [w] ∧
      Sent s t (.report 0x0D0D) ∧ t.hlth.quarantined = s.hlth.quarantined ++ [(13, s.purlHw c)] := by
  have hq := purlQuarantine_quarantined (s.encReported w c e) c 0x0D0D (some w)
  have hgoes : Goes [.csr, .mem, .poison, .out, .freeCtr, .intc, .myk, .hlth, .rerun] s
      ((s.encReported w c e).purlQuarantine c 0x0D0D (some w)) :=
    .step (.step .refl encReported_goes (by decide)) purlQuarantine_goes (by decide)
  have hrerun : ((s.encReported w c e).purlQuarantine c 0x0D0D (some w)).rerun = s.rerun :=
    (purlQuarantine_goes.only .rerun rfl).trans (encReported_goes.only .rerun rfl)
  have hsent : Sent s ((s.encReported w c e).purlQuarantine c 0x0D0D (some w)) (.report 0x0D0D) :=
    Sent.of_goes (Sent.of_goes (sent_report (t := (s.purlLog 0x0D0D c e 0 w).addSat PURL_ERR_COUNT.ENC_CHECK 1) 0x0D0D
      (Goes.out (l := [.csr]) (.step (.step .refl purlLog_goes (by decide)) addSat_goes (by decide))))
      (raise_goes (f := PURL_INT_STATUS.ENC_CHECK) (i := 0))) purlQuarantine_goes
  rw [encReported_get, show (s.encReported w c e).hlth = s.hlth from encReported_goes.only .hlth rfl] at hq
  refine ⟨.rerun hgoes (by decide), congrArg (· ++ [w]) hrerun, hsent, hq⟩

/-- Settles O37: an ENCODE that passes its checks, the raw block, and the ways in which a descriptor is refused or fails. -/
theorem codecEncode : Obligations.CodecEncode := by
  unfold Obligations.CodecEncode
  refine ⟨?passes, ?raw, ?refused, ?poisoned, ?fault⟩
  case passes =>
    rintro s w f bs o ⟨hcheck, hpoison, hfault⟩ ha
    obtain ⟨hgoes, hmem, hin, hout⟩ := purlEncoded_effect hcheck ha
    refine Does.of_goes (t := s.purlEncoded w) ?_ (.step .refl hgoes (by decide)) ⟨?_, ?_, hin, hout, finish_ended _ _ _,
      finish_engine (s.purlDigested w) w (s.purlResult w)⟩
    · simp only [exec, execEncode, hcheck, hpoison, Bool.false_eq_true, if_false]
      cases f with
      | none => rfl
      | some x =>
        have hin : s.purlInService x.1 = false := by simpa using hfault
        simp only [hin, Bool.false_eq_true, if_false]
    · rw [readBytes_of_mem hmem]
      exact readBytes_writeBytes _ _ _
    · exact (otherBytes_writeBytes s (w.body 24 8) o).of_mem hmem
  case raw =>
    rintro s w n ⟨hcheck, hpoison, hn⟩ ⟨hraw, ha⟩
    have hout := purlOut_raw hcheck hn hraw
    have hlen : (s.purlOut w).length = 48 + n := by rw [hout, rawBlock_length, readBytes_length]
    obtain ⟨hgoes, hmem, -, -⟩ := purlEncoded_effect hcheck (by omega)
    refine Does.of_goes (t := s.purlEncoded w) ?_ (.step .refl hgoes (by decide)) ?_
    · simp only [exec, execEncode, hcheck, hpoison, Bool.false_eq_true, if_false]
    · rw [readBytes_of_mem hmem, ← hlen, ← hout]
      exact readBytes_writeBytes _ _ _
  case refused =>
    rintro s w r f ⟨hcheck, hr⟩
    obtain ⟨hreason, hqueue⟩ := purlLog_fields s w r 0 0 0
    refine Does.of_goes (t := (s.purlLog r 0 0 0 w).finishError w r) ?_
      (.step (.step .refl purlLog_goes (by decide)) finishError_goes (by decide)) ⟨finishError_ended _ _ _, ?_, ?_⟩
    · simp only [exec, execEncode, hcheck, State.purlRefuse, if_neg hr]
    · exact (finish_get _ _ _ (by decide)).trans hreason
    · exact (finish_get _ _ _ (by decide)).trans hqueue
  case poisoned =>
    rintro s w f ⟨hcheck, hpoison⟩
    obtain ⟨hgoes, hend, hout, hmem, hbytes⟩ := purlPoison_effect (s.report 0x0D13) w 0x0D13
    refine Does.of_goes (t := (s.report 0x0D13).purlPoison w 0x0D13) ?_ (.step (.step .refl report_goes (by decide)) hgoes (by decide))
      ⟨hend, hout, readByte_of_mem hmem, hbytes⟩
    simp only [exec, execEncode, hcheck, hpoison, if_true]
  case fault =>
    rintro s w c e ⟨hcheck, hpoison, hin, hjob⟩
    obtain ⟨hgoes, hrerun, hsent, hq⟩ := encFault_again s w c e
    refine Does.of_goes (t := s.encFault w c e true) ?_ hgoes ⟨hrerun, hsent, hq⟩
    simp only [exec, execEncode, hcheck, hpoison, Bool.false_eq_true, if_false, hin, if_true]
    rw [decide_eq_true hjob]

end Sys2Proof.Machine

namespace Sys2Proof.Machine
open Csr

/-! ## A failing swatch of the selvedge hands over (R113, R462, R478) -/

/-- The links on which the performance monitor has metered bytes sent, after a command. -/
def meteredAfter (c : Instr) (s : State) : List (Nat × Nat) :=
  match exec c s with
  | .next t => t.pmon.meterTx
  | _ => s.pmon.meterTx

theorem meteredAfter_of_exec {c : Instr} {s t : State} (h : exec c s = .next t) : meteredAfter c s = t.pmon.meterTx := by
  simp [meteredAfter, h]

/-- The bed, the group and the performance monitor are ready, and fabric link 0 is in service. -/
def swatchState : State :=
  (((State.reset.set BED_STATUS.READY 1).set GRP_STATUS.READY 1).set PMON_STATUS.READY 1).set FAB_LINK_STATUS.IN_SERVICE 1 0

theorem swatchState_ready : swatchState.on BED_STATUS.READY = true := by decide +kernel

/-- The FAIL message to the spare goes out on link 0, whose bandwidth meter counts it. -/
theorem swatchState_metered : meteredAfter (.bedInterleavedSwatch ⟨[], true⟩) swatchState ≠ swatchState.pmon.meterTx := by
  decide +kernel

/-- Refutes O27, in the clause for a swatch that fails in the selvedge: the fault of the module sends FAIL to the spare of the
group, and at `swatchState` the link that carries it is metered, so the performance monitor changes too. -/
theorem not_bedFaultsAndSwatches : ¬ Obligations.BedFaultsAndSwatches := by
  unfold Obligations.BedFaultsAndSwatches
  intro ⟨_, _, _, _, _, _, _, hselvedge, _⟩
  obtain ⟨t, hexec, honly, _⟩ := hselvedge swatchState swatchState_ready
  have hpmon : t.pmon = swatchState.pmon := honly .pmon rfl
  exact swatchState_metered ((meteredAfter_of_exec hexec).trans (congrArg _ hpmon))

end Sys2Proof.Machine

namespace Sys2Proof.Machine
open Csr

/-! ## Faults in a cluster of stitch units (O29) -/

section
variable (s : State) (c reason : Nat) (f : StchFault) (w : Option Work)

/-- The hardware that works for a cluster: the panel's spare, or its own. -/
def State.stchHw : Nat := if s.stchOnSpare c then 48 + c / 16 else c

/-- The state in which a cluster's fault is in the error log, reported and counted. -/
def State.stchReported : State :=
  let log := (((((((s.set STCH_ERR_LOG.REASON reason).set STCH_ERR_LOG.CLUSTER c).set STCH_ERR_LOG.UNIT
    ((f.unit.map (·.val)).getD 0)).set STCH_ERR_LOG.LANE ((f.lane.map (·.val)).getD 0)).set STCH_ERR_LOG.UNIT_UNKNOWN
    (b2n f.unit.isNone)).set STCH_ERR_LOG.LANE_UNKNOWN (b2n f.lane.isNone)).set STCH_ERR_LOG.QUEUE
    ((w.map (·.queue)).getD 0)).report reason
  if w.isSome then (log.addSat STCH_ERR_COUNT.RESIDUE 1).raise STCH_INT_STATUS.RESIDUE
  else (log.addSat STCH_ERR_COUNT.SWATCH_FAIL 1).raise STCH_INT_STATUS.SWATCH_FAIL

/-- The state in which the panel's measurements are in the error log as well. -/
def State.stchMeasured : State :=
  let u := s.stchReported c reason f w
  ((((u.set STCH_ERR_ENV.TEMP (u.get HLTH_PANEL_RATE.TEMP (c / 16))).set STCH_ERR_ENV.VB_MV
    (u.get HLTH_PANEL_RAIL.MEASURED_MV (c / 16))).set STCH_ERR_ENV.RATE (u.get HLTH_PANEL_RATE.RATE (c / 16)))).fresh.2

theorem stchClusterFault_contains : ∃ v load,
    s.stchClusterFault c reason f w = ((s.stchMeasured c reason f w).set STCH_ERR_ENV.LOAD v).stchContain c reason load f w := ⟨_, _, rfl⟩

variable {s c reason f w}

theorem stchReported_goes : Goes [.csr, .out, .intc] s (s.stchReported c reason f w) := by
  unfold State.stchReported
  extract_lets log
  have hlog : Goes [.csr, .out, .intc] s log :=
    .step (.step (.step (.step (.step (.step (.step (.step .refl set_goes (by decide)) set_goes (by decide)) set_goes (by decide)) set_goes
      (by decide)) set_goes (by decide)) set_goes (by decide)) set_goes (by decide)) report_goes (by decide)
  exact .ite (.step (.step hlog addSat_goes (by decide)) raise_goes (by decide))
    (.step (.step hlog addSat_goes (by decide)) raise_goes (by decide))

theorem stchMeasured_goes : Goes [.csr, .out, .freeCtr, .intc] s (s.stchMeasured c reason f w) :=
  .step (.step (.step (.step (.step .refl stchReported_goes (by decide)) set_goes (by decide)) set_goes (by decide)) set_goes (by decide))
    fresh_goes (by decide)

theorem stchReported_sent : Sent s (s.stchReported c reason f w) (.report reason) := by
  unfold State.stchReported
  extract_lets log
  have hlog : Sent s log (.report reason) := sent_report _ List.prefix_rfl
  split
  · exact hlog.of_goes (.step (.step .refl addSat_goes (by decide)) (raise_goes (f := STCH_INT_STATUS.RESIDUE) (i := 0)) (by decide)
      : Goes [.csr, .out, .intc] _ _)
  · exact hlog.of_goes (.step (.step .refl addSat_goes (by decide)) (raise_goes (f := STCH_INT_STATUS.SWATCH_FAIL) (i := 0)) (by decide)
      : Goes [.csr, .out, .intc] _ _)

/-- The registers of the error log of the stitch units. -/
def stchLogRegs : List Nat :=
  [STCH_ERR_LOG.addr 0 0, STCH_ERR_COUNT.addr 0 0, STCH_INT_STATUS.addr 0 0, STCH_ERR_ENV.addr 0 0]

theorem stchReported_otherRegs : OtherRegs stchLogRegs s (s.stchReported c reason f w) := by
  unfold State.stchReported
  extract_lets log
  have hlog : OtherRegs stchLogRegs s log := by
    refine .andReport (.andSet (.andSet (.andSet (.andSet (.andSet (.andSet (.andSet .refl ?_) ?_) ?_) ?_) ?_) ?_) ?_)
    all_goals decide
  split
  · exact .andRaise (.andAddSat hlog (by decide)) (by decide)
  · exact .andRaise (.andAddSat hlog (by decide)) (by decide)

theorem stchMeasured_otherRegs : OtherRegs stchLogRegs s (s.stchMeasured c reason f w) := by
  refine .andGoes (.andSet (.andSet (.andSet stchReported_otherRegs ?_) ?_) ?_) fresh_goes (by decide)
  all_goals decide

/-- What a state in which a cluster's fault is logged still shows of the panels. -/
theorem stchHw_of {t : State} (h : OtherRegs stchLogRegs s t) (hc : c < 48) : t.stchHw c = s.stchHw c := by
  have hfar : STCH_PANEL_MAP.addr (c / 16) 0 ∉ stchLogRegs := by
    have : c / 16 < 3 := by omega
    generalize c / 16 = p at this
    interval_cases p <;> decide
  unfold State.stchHw State.stchOnSpare
  rw [h.get hfar]

/-- A fault of a cluster quarantines the hardware that works for it. -/
theorem stchContain_quarantined {load : Nat} :
    (s.stchContain c reason load f w).hlth.quarantined = s.hlth.quarantined ++ [(12, s.stchHw c)] := by
  unfold State.stchContain
  extract_lets mine
  split
  next p i hp =>
  extract_lets hw
  split
  next s1 spare hs1 =>
  have hpanel : c / 16 = p := (Prod.mk.inj hp).1
  have hhw : hw = s.stchHw c := by rw [State.stchHw, hpanel]
  extract_lets s2 s3 s4 s5 sent
  have hs : s1.hlth = s.hlth := by
    have h := (Goes.fst (stchQuarantine_goes (s := s) (c := c))).only .hlth rfl
    rwa [hs1] at h
  have h2 : s2.hlth.quarantined = s.hlth.quarantined ++ [(12, s.stchHw c)] := by
    rw [← hhw, ← hs, ← stchCap_goes.only (s := s1) .hlth rfl]
    rfl
  have h3 : s3.hlth.quarantined = s2.hlth.quarantined := health_quarantined _ _
  have h4 : s4.hlth = s3.hlth := by
    unfold s4
    split
    · exact raise_hlth _ _ _
    · rw [State.capChange_hlth, raise_hlth]
      rfl
  have h5 : Goes [.csr, .mem, .poison, .out, .intc, .myk, .stch] s4 s5 :=
    .foldl .refl (fun x y h => .step h restartSlot_goes (by decide))
  have hend : s5.hlth.quarantined = s.hlth.quarantined ++ [(12, s.stchHw c)] := by
    rw [h5.only .hlth rfl, h4, h3, h2]
  refine (foldl_keeps (read := fun x : State => x.hlth.quarantined) (fun x y _ => ?_)).trans hend
  split
  · rfl
  · dsimp only
    rw [noticeChunks_goes.only .hlth rfl]

/-- A fault of a cluster that a check or a swatch finds: its report, and the quarantine. -/
theorem stchClusterFault_effect (hc : c < 48) : let t := s.stchClusterFault c reason f w
    t.hlth.quarantined = s.hlth.quarantined ++ [(12, s.stchHw c)] ∧ Sent s t (.report reason) := by
  obtain ⟨v, load, h⟩ := stchClusterFault_contains s c reason f w
  have hregs : OtherRegs stchLogRegs s ((s.stchMeasured c reason f w).set STCH_ERR_ENV.LOAD v) :=
    stchMeasured_otherRegs.andSet (by decide)
  have hhlth : (s.stchMeasured c reason f w).hlth = s.hlth := stchMeasured_goes.only .hlth rfl
  have hmeasured : Goes [.csr, .freeCtr] (s.stchReported c reason f w) (s.stchMeasured c reason f w) :=
    .step (.step (.step (.step .refl set_goes (by decide)) set_goes (by decide)) set_goes (by decide)) fresh_goes (by decide)
  have hsent : Sent s (s.stchMeasured c reason f w) (.report reason) := stchReported_sent.of_goes hmeasured
  dsimp only
  rw [h, stchContain_quarantined, stchHw_of hregs hc]
  refine ⟨?_, (hsent.of_goes set_goes).of_goes stchContain_goes⟩
  rw [State.set_hlth, hhlth]

end

/-! ## A passing swatch (R131, R132) -/

theorem releaseSlot_slots (s : State) (x : Slot) : (s.releaseSlot x).stch.slots = s.stch.slots.filter (fun y => y.index ≠ x.index) := rfl

theorem foldl_releaseSlot_slots (xs : List Slot) (s : State) :
    (xs.foldl State.releaseSlot s).stch.slots = s.stch.slots.filter (fun y => xs.all (fun x => y.index ≠ x.index)) := by
  induction xs generalizing s with
  | nil => simp
  | cons x xs ih =>
    rw [List.foldl_cons, ih, releaseSlot_slots, List.filter_filter]
    simp only [List.all_cons, Bool.and_comm]

/-- The completed slots of a cluster. -/
def State.doneSlots (s : State) (c : Nat) : List Slot := s.stch.slots.filter (fun x => x.cluster == c && x.done)

theorem doneSlots_nil {s : State} {c : Nat} (h : s.stch.slots.all (fun x => !(x.cluster == c && x.done)) = true) : s.doneSlots c = [] := by
  rw [State.doneSlots, List.filter_eq_nil_iff]
  intro x hx
  have hx' := List.all_eq_true.mp h x hx
  rw [Bool.not_eq_true'] at hx'
  exact ne_true_of_eq_false hx'

/-- A pass leaves no completed slot of its cluster. -/
theorem stchPass_slots (s : State) (c : Nat) :
    (s.stchPass c).stch.slots = s.stch.slots.filter (fun y => (s.doneSlots c).all (fun x => y.index ≠ x.index)) := by
  have hclean : ((s.addWrap STCH_STATUS.SWATCH_EPOCH 1).sendClean (s.doneSlots c)).stch = s.stch := sendClean_goes.only .stch rfl
  show ((s.doneSlots c).foldl State.releaseSlot ((s.addWrap STCH_STATUS.SWATCH_EPOCH 1).sendClean (s.doneSlots c))).stch.slots = _
  rw [foldl_releaseSlot_slots, hclean]

theorem stchPass_released (s : State) (c : Nat) : (s.stchPass c).stch.slots.all (fun x => !(x.cluster == c && x.done)) = true := by
  rw [stchPass_slots, List.all_eq_true]
  intro y hy
  obtain ⟨hmem, hall⟩ := List.mem_filter.mp hy
  cases hd : y.cluster == c && y.done with
  | false => rfl
  | true =>
    have hy' : y ∈ s.doneSlots c := List.mem_filter.mpr ⟨hmem, hd⟩
    have := List.all_eq_true.mp hall y hy'
    simp at this

/-- A pass of a cluster with no completed slot. -/
theorem stchPass_idle {s : State} {c : Nat} (h : s.stch.slots.all (fun x => !(x.cluster == c && x.done)) = true) :
    s.stchPass c = s.addWrap STCH_STATUS.SWATCH_EPOCH 1 := by
  unfold State.stchPass
  extract_lets u xs
  have hxs : xs = [] := doneSlots_nil h
  rw [hxs]
  rfl

theorem stchVector_pass_goes {s : State} {c : Nat} : Goes [.csr, .mem, .poison, .out, .intc, .myk, .stch, .xport, .grp] s
    (s.stchVector c none) := .step (.step .refl nextStchVector_goes (by decide)) stchPass_goes (by decide)

theorem stchVector_pass (s : State) (c : Nat) : s.stchVector c none = (s.nextStchVector c).stchPass c := rfl

theorem stchVector_fail (s : State) (c : Nat) (f : StchFault) :
    s.stchVector c (some f) = (s.nextStchVector c).stchClusterFault c 0x0C07 f none := rfl

/-- A failing vector quarantines the hardware of its cluster. -/
theorem stchVector_fail_effect (s : State) {c : Nat} (f : StchFault) (hc : c < 48) : let t := s.stchVector c (some f)
    t.hlth.quarantined = s.hlth.quarantined ++ [(12, s.stchHw c)] ∧ Sent s t (.report 0x0C07) := by
  obtain ⟨hq, hsent⟩ := stchClusterFault_effect (s := s.nextStchVector c) (reason := 0x0C07) (f := f) (w := none) hc
  exact ⟨hq, hsent⟩

/-- The end of a stitch descriptor that names no histogram. -/
theorem stchDone_plain {s : State} {w : Work} (t : OutTensor) (n : Nat) (b : Bool) (h : w.field 16 8 = 0) :
    Goes [.csr, .hostq] s (s.stchDone w t n b 0) ∧ Ended (s.stchDone w t n b 0) w 0 false false := by
  unfold State.stchDone
  extract_lets k u
  have hu : u = s := if_pos h
  rw [hu]
  exact ⟨finish_goes, finish_ended _ _ _⟩

/-! ## Poison notices (R135 to R137) -/

theorem enter_stch (s : State) (j st : Nat) (r : StepRec) : (s.enter j st r).stch = s.stch := enter_goes.only .stch rfl

theorem launchFrog_noticeSeq (s : State) (j round : Nat) (r : StepRec) : (s.launchFrog j round r).stch.noticeSeq = s.stch.noticeSeq := by
  unfold State.launchFrog
  extract_lets s1 mine src s2
  rw [enter_stch]
  rfl

theorem noticeToStep_noticeSeq (s : State) (j step round reason : Nat) :
    (s.noticeToStep j step round reason).stch.noticeSeq = s.stch.noticeSeq := by
  unfold State.noticeToStep
  extract_lets r base
  have hun : ∀ n, (s.unrecoverable j n).stch = s.stch := fun n => unrecoverable_goes.only .stch rfl
  split
  · split
    · rfl
    · rw [hun]
  · split
    · rfl
    · split
      · rw [hun]
      · split
        · rw [hun]
        · split
          · rw [show (State.hold _ _ _).stch = _ from hold_goes.only .stch rfl]
            rfl
          · split
            · rfl
            · exact launchFrog_noticeSeq _ _ _ _

/-- A notice issued counts, and is reported. -/
theorem issueNotice_effect (s : State) (j : Nat) (n : Notice) : let t := s.issueNotice j n
    t.stch.noticeSeq = s.stch.noticeSeq + 1 ∧ Sent s t (.report 0x0C10) := by
  unfold State.issueNotice
  extract_lets seq b src u1 u2 t
  have h1 : Goes [.csr, .mem, .poison, .intc, .myk, .stch, .out] s ({ s with stch := { s.stch with noticeSeq := seq } }.noticeRing b) :=
    .step (.stch .refl (by decide)) noticeRing_goes (by decide)
  have hseq : u1.stch.noticeSeq = s.stch.noticeSeq + 1 := by
    rw [show u1.stch = _ from report_goes.only .stch rfl, noticeRing_goes.only .stch rfl]
  have hsent : Sent s u1 (.report 0x0C10) := sent_report _ h1.out
  have h2 : Goes [.mem, .poison, .xport] u1 u2 := .foldl .refl (fun _ _ h => .step h sendControl_goes (by decide))
  refine ⟨?_, (hsent.of_goes h2).of_goes (.step (.step .refl mirrorOther_goes (by decide)) noticeToStep_goes (by decide)
    : Goes [.csr, .mem, .poison, .out, .freeCtr, .intc, .myk, .stch, .xport, .fab, .grp] _ _)⟩
  rw [show t.stch.noticeSeq = _ from noticeToStep_noticeSeq _ _ _ _ _, mirrorOther_goes.only .stch rfl, h2.only .stch rfl, hseq]

/-- A notice that fits in the ring is written at its end. -/
theorem noticeRing_effect (s : State) (b : Bytes)
    (h : diff16 (s.get STCH_NOTICE_PTR.WR_PTR) (s.get STCH_NOTICE_PTR.RD_PTR) < 2 ^ s.get STCH_NOTICE_PTR.SIZE_LOG2) :
    (s.noticeRing b).get STCH_NOTICE_PTR.WR_PTR = (s.get STCH_NOTICE_PTR.WR_PTR + 1) % 2 ^ 16 ∧
      (s.noticeRing b).on STCH_INT_STATUS.NOTICE = true := by
  unfold State.noticeRing
  extract_lets size wr
  rw [if_neg (Nat.not_le.mpr h)]
  constructor
  · rw [raise_get, get_set_far _ _ _ _ (by decide), get_set_mod _ _ _ _ _ (by decide)]
    rfl
  · rw [State.on, raise_get, get_set_mod _ _ _ _ _ (by decide)]
    rfl

/-- The own step after a notice of a round before UPDATE: a frog. -/
theorem noticeToStep_frogs {s : State} {j reason : Nat} {r : StepRec} (hr : s.stepRec j = r) (hst : 1 ≤ r.state ∧ r.state ≤ 7)
    (hmax : r.frog < r.par JOB_PARAM0.FROG_MAX) (hauto : r.par JOB_PARAM0.FROG_AUTO ≠ 0) :
    s.noticeToStep j r.step 0 reason = s.launchFrog j 0 { r with reason := reason } := by
  unfold State.noticeToStep
  extract_lets r' base
  have hr' : r' = r := hr
  rw [hr', if_neg (lt_irrefl _), if_neg (by simp [beforeUpdate, hst.1, hst.2]), if_neg (by omega), if_neg (by omega), if_neg hauto,
    if_neg (by simp)]
  rfl

theorem launchFrog_reason (s : State) (j round : Nat) (r : StepRec) : ((s.launchFrog j round r).stepRec j).reason = r.reason := by
  obtain ⟨u, hu⟩ := launchFrog_eq s j round r
  obtain ⟨n, hn⟩ := enter_stepRec u j (if round = 0 then 3 else 6) (r.frogOf round)
  rw [hu, hn]
  rfl

/-- A notice for a later step leaves the present one alone. -/
theorem noticeToStep_later {s : State} {j step : Nat} (round reason : Nat) (h : (s.stepRec j).step < step) :
    s.noticeToStep j step round reason = s := by
  unfold State.noticeToStep
  extract_lets r base
  rw [if_neg (by show ¬ step < (s.stepRec j).step; omega), if_pos (Or.inl (by show step ≠ (s.stepRec j).step; omega))]

/-- The inbox without a message taken from it. -/
def State.mailLeft (s : State) (c : CtrlIn) : State := { s with xport := { s.xport with inbox := s.xport.inbox.erase c } }

/-- A notice received: it goes to the ring and to the group's spare. -/
def State.noticeHeard (s : State) (j : Nat) (b : Bytes) : State :=
  ((s.noticeRing b).report 0x0C11).mirrorOther (s.get JOB_CTRL.JOB_ID j) (fieldAt b 8 4) b

theorem noticeHeard_goes {s : State} {j : Nat} {b : Bytes} :
    Goes [.csr, .mem, .poison, .out, .freeCtr, .intc, .myk, .fab, .grp] s (s.noticeHeard j b) :=
  .step (.step (.step .refl noticeRing_goes (by decide)) report_goes (by decide)) mirrorOther_goes (by decide)

theorem noticeHeard_stepRec (s : State) (j k : Nat) (b : Bytes) : (s.noticeHeard j b).stepRec k = s.stepRec k := by
  unfold State.stepRec
  rw [show (s.noticeHeard j b).xport = s.xport from noticeHeard_goes.only .xport rfl]

theorem noticeHeard_sent (s : State) (j : Nat) (b : Bytes) : Sent s (s.noticeHeard j b) (.report 0x0C11) :=
  (sent_report (t := s.noticeRing b) 0x0C11 noticeRing_goes.out).of_goes mirrorOther_goes

theorem noticeHeard_get (s : State) (j : Nat) (b : Bytes) (f : Field) : (s.noticeHeard j b).get f = (s.noticeRing b).get f := by
  have h : (s.noticeHeard j b).csr = (s.noticeRing b).csr := mirrorOther_goes.only .csr rfl
  exact get_congr h f 0 0

section
variable {s : State} {j : Fin 128} {site : Fin 16} {c : CtrlIn}

/-- What a notice received comes to. -/
theorem execPoisonReceived_of (hm : (s.takeMail j site 3).map (·.1) = some c) :
    execPoisonReceived j site s =
      let b := padTo 64 c.body
      let u := s.mailLeft c
      if crc32c (b.take 60) ≠ fieldAt b 60 4 then .next (u.addSat STCH_ERR_COUNT.NOTICE_DROP 1)
      else if fieldAt b 8 4 = (u.stepRec j).step ∧ fieldAt b 13 1 % 8 < (u.stepRec j).frog then
        .next (u.addSat STCH_ERR_COUNT.NOTICE_DROP 1)
      else .next ((u.noticeHeard j b).noticeToStep j (fieldAt b 8 4) (fieldAt b 12 1 % 4) 0x0C11) := by
  unfold execPoisonReceived
  rw [takeMail_of hm]
  rfl

theorem execPoisonReceived_heard (hm : (s.takeMail j site 3).map (·.1) = some c)
    (hcrc : crc32c ((padTo 64 c.body).take 60) = fieldAt (padTo 64 c.body) 60 4)
    (hfresh : ¬ (fieldAt (padTo 64 c.body) 8 4 = (s.stepRec j).step ∧ fieldAt (padTo 64 c.body) 13 1 % 8 < (s.stepRec j).frog)) :
    execPoisonReceived j site s = .next (((s.mailLeft c).noticeHeard j (padTo 64 c.body)).noticeToStep j
      (fieldAt (padTo 64 c.body) 8 4) (fieldAt (padTo 64 c.body) 12 1 % 4) 0x0C11) := by
  rw [execPoisonReceived_of hm]
  dsimp only
  rw [if_neg (by simpa using hcrc)]
  exact if_neg hfresh

end

/-- The notice that a driver's POISON descriptor issues. -/
def State.driverNotice (s : State) (j : Nat) (w : Work) : Notice :=
  { path := 5, reason := 0x0C10, step := w.step, round := w.body 16 1 % 4, frog := (s.stepRec j).frog
    first := w.body 8 4, count := w.body 12 4, epoch := s.get STCH_STATUS.SWATCH_EPOCH }

/-- A slot with its sums discarded. -/
def Slot.emptied (x : Slot) : Slot := { x with sums := none }

theorem putSlot_stchHw (s : State) (x : Slot) {c : Nat} (hc : c < 48) : (s.putSlot x).stchHw c = s.stchHw c := by
  have hregs : OtherRegs [STCH_SLOT_STATUS.addr 0 0, STCH_STATUS.addr 0 0] s (s.putSlot x) := by
    unfold State.putSlot
    extract_lets slots src s1 n
    have h1 : OtherRegs [STCH_SLOT_STATUS.addr 0 0, STCH_STATUS.addr 0 0] s s1 := .of_csr rfl
    exact .andSet (.andSet (.andSet h1 (by decide)) (by decide)) (by decide)
  have hfar : STCH_PANEL_MAP.addr (c / 16) 0 ∉ [STCH_SLOT_STATUS.addr 0 0, STCH_STATUS.addr 0 0] := by
    have : c / 16 < 3 := by omega
    generalize c / 16 = p at this
    interval_cases p <;> decide
  unfold State.stchHw State.stchOnSpare
  rw [hregs.get hfar]

/-- A first term of a job whose unit fails its check: the cluster's fault, and the descriptor runs once more. -/
theorem accumulate_residue {s : State} {w : Work} {c : Nat} {f : StchFault} (hcheck : s.stchCheck w = none)
    (hslots : s.stch.slots = []) (hleast : s.leastCluster = some c) (hjob : w.job ≠ 0)
    (hclean : s.isPoisoned (w.body 16 8) ((openSlot w c).elements * fmtBytes (w.body 2 1 % 16)) = false) :
    let u := (s.putSlot (openSlot w c).emptied).stchClusterFault c 0x0C06 f (some w)
    exec (.accumulate w (some f)) s = .next { u with rerun := u.rerun ++ [w] } := by
  have hplace : s.placeTerm w (some f) false = s.termAtSlot w (some f) false (openSlot w c) 0 := by
    unfold State.placeTerm
    extract_lets idx frog hold fresh
    rw [hslots]
    show fresh s 0 = _
    unfold fresh
    rw [hleast]
  intro u
  simp only [exec, execAccumulate, hcheck, hplace]
  unfold State.termAtSlot
  rw [if_neg (ne_true_of_eq_false hclean)]
  dsimp only
  rw [if_pos (by simpa using hjob)]
  rfl

/-- Settles O29: the faults and the passes of a cluster, and the notices issued and received. -/
theorem stitchFaultsAndNotices : Obligations.StitchFaultsAndNotices := by
  unfold Obligations.StitchFaultsAndNotices
  refine ⟨?residue, ?passes, ?fails, ?swatch, ?swatchFails, ?poison, ?poisonRefused, ?dropped, ?later, ?frogs⟩
  case residue =>
    rintro s w c f x ⟨hcheck, hslots, hleast, hjob⟩ hclean
    have hc : c < 48 := by
      have := List.mem_filter.mp (leastBy_mem hleast)
      exact List.mem_range.mp this.1
    have hhw : (s.putSlot x.emptied).stchHw c = s.stchHw c := putSlot_stchHw _ _ hc
    obtain ⟨hq, -⟩ := stchClusterFault_effect (s := s.putSlot x.emptied) (reason := 0x0C06) (f := f) (w := some w) hc
    have hgoes : Goes [.csr, .mem, .poison, .out, .freeCtr, .intc, .myk, .hlth, .stch, .xport, .fab, .grp] s
        ((s.putSlot x.emptied).stchClusterFault c 0x0C06 f (some w)) :=
      .step (.step .refl putSlot_goes (by decide)) stchClusterFault_goes (by decide)
    have hexec := accumulate_residue (f := f) hcheck hslots hleast hjob hclean
    refine Does.of_goes hexec (.rerun (.step .refl hgoes (by decide)) (by decide)) ⟨?_, ?_, ?_⟩
    · exact congrArg (· ++ [w]) (hgoes.only .rerun rfl)
    · exact congrArg HostqSt.finished (hgoes.only .hostq rfl)
    · exact hq.trans (by rw [hhw, putSlot_goes.only .hlth rfl]; rfl)
  case passes =>
    rintro s c ⟨hready, hin⟩
    refine Does.of_goes (t := s.stchVector c none) ?_ (.step .refl stchVector_pass_goes (by decide))
      ⟨stchPass_released _ _, fun h => ?_, fun h => ?_⟩
    · simp only [exec, execStchClusterSwatch, hready, hin, Bool.and_self, if_true]
    · rw [stchVector_pass, stchPass_idle (s := s.nextStchVector c) h]
      rfl
    · rw [stchVector_pass, stchPass_idle (s := s.nextStchVector c) h, get_addWrap _ _ _ _ _ (by decide)]
      rfl
  case fails =>
    rintro s c f ⟨hready, hin⟩
    refine Does.of_goes (t := s.stchVector c (some f)) ?_ stchVector_goes (stchVector_fail_effect s f c.isLt)
    simp only [exec, execStchClusterSwatch, hready, hin, Bool.and_self, if_true]
  case swatch =>
    rintro s w c ⟨hready, hop, hc, hin, hrec⟩
    obtain ⟨hgoes, hend⟩ := stchDone_plain (s := s.stchVector c none) noOutput 0 false hrec
    refine Does.of_goes (t := (s.stchVector c none).stchDone w noOutput 0 false 0) ?_
      (.step (.step .refl stchVector_pass_goes (by decide)) hgoes (by decide)) ⟨hend, ?_⟩
    · simp only [exec, execStchSwatch, hready, hop, show s.stchInService (w.body 6 2 % 64) = true from hin, Bool.not_true,
        Bool.false_eq_true, if_false, ne_eq, not_true_eq_false, false_or, show ¬ w.body 6 2 % 64 ≥ 48 from by omega]
      rfl
    · rw [hgoes.only .stch rfl]
      exact stchPass_released _ _
  case swatchFails =>
    rintro s w f c ⟨hready, hop, hc, hin⟩
    obtain ⟨hq, -⟩ := stchVector_fail_effect s f hc
    refine Does.of_goes (t := (s.stchVector c (some f)).finishError w 0x0C07) ?_
      (.step (.step .refl stchVector_goes (by decide)) finishError_goes (by decide)) ⟨finishError_ended _ _ _, ?_⟩
    · simp only [exec, execStchSwatch, hready, hop, show s.stchInService (w.body 6 2 % 64) = true from hin, Bool.not_true,
        Bool.false_eq_true, if_false, ne_eq, not_true_eq_false, false_or, show ¬ w.body 6 2 % 64 ≥ 48 from by omega]
      rfl
    · rw [show (State.finishError _ w 0x0C07).hlth = _ from finishError_goes.only .hlth rfl, hq]
      rfl
  case poison =>
    rintro s w j ⟨hready, hop, hentry, hrec⟩
    obtain ⟨hseq, hsent⟩ := issueNotice_effect s j (s.driverNotice j w)
    obtain ⟨hgoes, hend⟩ := stchDone_plain (s := s.issueNotice j (s.driverNotice j w)) noOutput 0 false hrec
    refine Does.of_goes (t := (s.issueNotice j (s.driverNotice j w)).stchDone w noOutput 0 false 0) ?_
      (.step (.step .refl issueNotice_goes (by decide)) hgoes (by decide)) ⟨hend, ?_, hsent.of_goes hgoes⟩
    · simp only [exec, execStchPoison, hready, hop, hentry, Bool.not_true, Bool.false_eq_true, if_false, ne_eq, not_true_eq_false]
      rfl
    · rw [hgoes.only .stch rfl, hseq]
  case poisonRefused =>
    rintro s w ⟨hready, hop, hentry⟩
    refine Does.of_goes (t := s.stchRefuse w 0x0C02) ?_ stchRefuse_goes ⟨finishError_ended _ _ _, ?_⟩
    · simp only [exec, execStchPoison, hready, hop, Option.isNone_iff_eq_none.mp hentry, Bool.not_true, Bool.false_eq_true, if_false,
        ne_eq, not_true_eq_false]
    · show (State.finishError _ w 0x0C02).get STCH_ERR_LOG.REASON = _
      rw [State.finishError, finish_get _ _ _ (by decide), get_set_beside _ _ _ _ _ _ (by decide), get_set_mod _ _ _ _ _ (by decide)]
      rfl
  case dropped =>
    rintro s j site c b hm hdrop
    refine Does.of_goes (t := (s.mailLeft c).addSat STCH_ERR_COUNT.NOTICE_DROP 1) ?_
      (.step (.xport .refl (by decide)) addSat_goes (by decide)) ⟨?_, rfl, .andAddSat (.of_csr rfl) (by decide)⟩
    · show execPoisonReceived j site s = _
      rw [execPoisonReceived_of hm]
      dsimp only
      by_cases hcrc : crc32c ((padTo 64 c.body).take 60) ≠ fieldAt (padTo 64 c.body) 60 4
      · rw [if_pos hcrc]
      · rw [if_neg hcrc]
        exact if_pos (hdrop.resolve_left hcrc)
    · rw [get_addSat _ _ _ _ _ (by decide)]
      rfl
  case later =>
    rintro s j site c b ⟨hm, hcrc, hlater⟩ hroom
    obtain ⟨hptr, hraised⟩ := noticeRing_effect (s.mailLeft c) b hroom
    have hstep : ((s.mailLeft c).noticeHeard j b).stepRec j = s.stepRec j := noticeHeard_stepRec _ _ _ _
    have hsent : Sent s ((s.mailLeft c).noticeHeard j b) (.report 0x0C11) := by
      have h := noticeHeard_sent (s.mailLeft c) j b
      unfold Sent at h ⊢
      exact h
    have hexec := execPoisonReceived_heard hm hcrc (fun h => absurd hlater (h.1 ▸ lt_irrefl _))
    rw [noticeToStep_later _ _ (by rw [show State.stepRec _ j = _ from hstep]; exact hlater)] at hexec
    refine Does.of_goes hexec (.step (.xport .refl (by decide)) noticeHeard_goes (by decide))
      ⟨(noticeHeard_get _ _ _ _).trans hptr, ?_, hsent, hstep, ?_⟩
    · rw [State.on, noticeHeard_get]
      exact hraised
    · rw [noticeHeard_goes.only .xport rfl]
      rfl
  case frogs =>
    rintro s j site c b r ⟨hm, hcrc, hstep, hfrog⟩ ⟨hlo, hhi, hmax, hauto, hround⟩
    have hrec : ((s.mailLeft c).noticeHeard j b).stepRec j = r := noticeHeard_stepRec _ _ _ _
    have hexec := execPoisonReceived_heard hm hcrc (fun h => absurd h.2 (Nat.not_lt.mpr hfrog))
    obtain ⟨hstate, hcount, hactive, -, -⟩ := launchFrog_stepRec ((s.mailLeft c).noticeHeard j b) j 0 { r with reason := 0x0C11 }
    have hreason := launchFrog_reason ((s.mailLeft c).noticeHeard j b) j 0 { r with reason := 0x0C11 }
    have hfrogs := noticeToStep_frogs (reason := 0x0C11) hrec ⟨hlo, hhi⟩ hmax hauto
    rw [show fieldAt (padTo 64 c.body) 8 4 = r.step from hstep, show fieldAt (padTo 64 c.body) 12 1 % 4 = 0 from hround, hfrogs] at hexec
    exact Does.of_goes hexec (.step (.step (.xport .refl (by decide)) noticeHeard_goes (by decide)) launchFrog_goes (by decide))
      ⟨hstate, hcount, hactive, hreason⟩

end Sys2Proof.Machine

namespace Sys2Proof.Machine
open Csr

/-! ## The reset of the module (R415, R424, R485) -/

/-- What a reset of the module starts from, before the fields that it leaves are put back. -/
def State.restarted (s : State) : State :=
  { pending := s.pending
    mem := s.mem.filter (fun c => decide (hostBase ≤ c.1))
    poison := s.poison.filter (fun a => decide (hostBase ≤ a))
    out := s.out
    freeCtr := s.freeCtr
    keep := s.keep
    memst := { sramPending := s.memst.sramPending, lpddrPending := s.memst.lpddrPending }
    ciph := { ledger := s.ciph.ledger }
    hlth := { logSeq := s.hlth.logSeq, quarantined := s.hlth.quarantined, bindingOff := s.hlth.bindingOff, savedSlot := s.hlth.savedSlot
              committing := s.hlth.committing, pwrGood := s.hlth.pwrGood, resetHigh := s.hlth.resetHigh
              chargeLate := s.hlth.chargeLate, castCut := s.hlth.castCut, jtag := s.hlth.jtag } }

/-- The elements of a list of fields. -/
def fieldCells (l : List (Field × Nat)) : List (Field × Nat) := l.flatMap (fun f => (List.range f.2).map (fun i => (f.1, i)))

/-- The addresses that a list of fields lies at. -/
def fieldAddrs (l : List (Field × Nat)) : List Nat := l.flatMap (fun f => (List.range f.2).map (fun i => f.1.reg.addr i 0))

theorem copyFields_eq (t s : State) (l : List (Field × Nat)) :
    t.copyFields s l = (fieldCells l).foldl (fun t x => t.set x.1 (s.get x.1 x.2) x.2) t := by
  unfold State.copyFields fieldCells
  rw [List.foldl_flatMap]
  simp only [List.foldl_map]

/-- A field element that is copied, and shares no bit with another one that is. -/
abbrev CopiedAlone (l : List (Field × Nat)) (f : Field) (i : Nat) : Prop :=
  f.lo + f.w ≤ 64 ∧ (f, i) ∈ l ∧
    ∀ x ∈ l, x = (f, i) ∨ x.1.reg.addr x.2 0 ≠ f.reg.addr i 0 ∨ (x.2 = i ∧ x.1.beside f = true)

theorem copies_get {l : List (Field × Nat)} {f : Field} {i : Nat} (hf : f.lo + f.w ≤ 64)
    (h : ∀ x ∈ l, x = (f, i) ∨ x.1.reg.addr x.2 0 ≠ f.reg.addr i 0 ∨ (x.2 = i ∧ x.1.beside f = true)) (s t : State)
    (ht : (f, i) ∈ l ∨ t.get f i = s.get f i) : (l.foldl (fun t x => t.set x.1 (s.get x.1 x.2) x.2) t).get f i = s.get f i := by
  have hlt : s.get f i < 2 ^ f.w := Nat.mod_lt _ (Nat.two_pow_pos _)
  induction l generalizing t with
  | nil => exact ht.resolve_left (by simp)
  | cons x l ih =>
    refine ih (fun y hy => h y (List.mem_cons_of_mem _ hy)) _ ?_
    by_cases hx : x = (f, i)
    · subst hx
      exact .inr (get_set_fits _ _ _ _ _ ⟨hf, hlt⟩)
    · refine ht.imp (fun hm => (List.mem_cons.mp hm).resolve_left (Ne.symm hx)) (fun ht => ?_)
      rcases (h x List.mem_cons_self).resolve_left hx with hfar | ⟨hi, hb⟩
      · rw [get_set_far _ _ _ _ hfar, ht]
      · subst hi
        rw [get_set_beside _ _ _ _ _ _ hb, ht]

theorem copies_other {l : List (Field × Nat)} (s t : State) :
    OtherRegs (l.map (fun x => x.1.reg.addr x.2 0)) t (l.foldl (fun t x => t.set x.1 (s.get x.1 x.2) x.2) t) := by
  induction l generalizing t with
  | nil => exact .refl
  | cons x l ih =>
    have h1 : OtherRegs ((x :: l).map (fun x => x.1.reg.addr x.2 0)) t (t.set x.1 (s.get x.1 x.2) x.2) := .set _ _ _ List.mem_cons_self
    exact h1.trans ((ih _).mono (List.subset_cons_self _ _))

theorem fieldAddrs_eq (l : List (Field × Nat)) : (fieldCells l).map (fun x => x.1.reg.addr x.2 0) = fieldAddrs l := by
  simp only [fieldCells, fieldAddrs, List.map_flatMap, List.map_map]
  rfl

theorem copyFields_otherRegs (t s : State) (l : List (Field × Nat)) : OtherRegs (fieldAddrs l) t (t.copyFields s l) := by
  rw [copyFields_eq, ← fieldAddrs_eq]
  exact copies_other _ _

section
variable (s : State) (more : List (Field × Nat))

theorem moduleReset_eq : s.moduleReset more = (s.settleLedger.restarted.copyFields s.settleLedger (keptFields ++ more)).csUpdate := rfl

/-- A reset leaves no register but the fields that are put back, and HLTH_CS, with a value of its own. -/
theorem moduleReset_otherRegs : OtherRegs (HLTH_CS.addr 0 0 :: fieldAddrs (keptFields ++ more)) State.reset (s.moduleReset more) := by
  have h0 : OtherRegs (HLTH_CS.addr 0 0 :: fieldAddrs (keptFields ++ more)) State.reset s.settleLedger.restarted := .of_csr rfl
  rw [moduleReset_eq]
  exact (h0.trans ((copyFields_otherRegs _ _ _).mono (List.subset_cons_self _ _))).trans
    ((csUpdate_otherRegs _).mono (by simp))

/-- A field that a reset leaves reads as before. -/
theorem moduleReset_get {f : Field} {i : Nat} (hcs : f.reg.addr i 0 ≠ HLTH_CS.addr 0 0)
    (h : CopiedAlone (fieldCells (keptFields ++ more)) f i) : (s.moduleReset more).get f i = s.get f i := by
  obtain ⟨hf, hmem, hapart⟩ := h
  have hcsr : s.settleLedger.csr = s.csr := settleLedger_goes.only .csr rfl
  rw [moduleReset_eq, (csUpdate_otherRegs _).get (by simpa using hcs), copyFields_eq, copies_get hf hapart _ _ (.inl hmem),
    get_congr hcsr]

/-- The parts that a reset starts anew, and those that it leaves. -/
theorem moduleReset_parts : Goes [.csr] s.settleLedger.restarted (s.moduleReset more) :=
  .step (.step .refl copyFields_goes (by decide)) csUpdate_goes (by decide)

end

theorem bootCount_copied : CopiedAlone (fieldCells (keptFields ++ [])) CIPH_SECURITY.BOOT_COUNT 0 := by decide +kernel

theorem castPhase_notCopied : TOP_STATE.addr 0 0 ∉ HLTH_CS.addr 0 0 :: fieldAddrs (keptFields ++ []) := by decide +kernel

section
variable (s : State)

theorem moduleReset_bootCount : (s.moduleReset []).get CIPH_SECURITY.BOOT_COUNT = s.get CIPH_SECURITY.BOOT_COUNT :=
  moduleReset_get s [] (by decide) bootCount_copied

theorem moduleReset_castPhase : (s.moduleReset []).get TOP_STATE.CAST_PHASE = 0 := by
  rw [(moduleReset_otherRegs s []).get castPhase_notCopied]
  decide +kernel

theorem moduleReset_hlth (more : List (Field × Nat)) : (s.moduleReset more).hlth = s.restarted.hlth := by
  rw [(moduleReset_parts s more).only .hlth rfl]
  show s.settleLedger.restarted.hlth = _
  unfold State.restarted
  rw [settleLedger_goes.only .hlth rfl]

end

/-! ## Cast-on begins (R415, R445) -/

/-- The plan of one panel in one band reaches its field. -/
def State.planSet (p : Nat) (s : State) (b : Nat) : State := s.set (planField b) (s.plan p b) p

/-- The plan of one panel reaches its registers. -/
def State.loadPlan (s : State) (p : Nat) : State :=
  let u := (List.range 6).foldl (State.planSet p) s
  u.set HLTH_PANEL_RAIL.TARGET_MV (u.plan p (u.get HLTH_PANEL_RAIL.BAND p)) p

theorem loadPlans_eq (s : State) : s.loadPlans = ((s.loadPlan 0).loadPlan 1).loadPlan 2 := rfl

section
variable (s : State) (p : Nat)

theorem planSet_otherRegs (b : Nat) : OtherRegs [HLTH_PANEL_PLAN.addr p 0] s (s.planSet p b) := by
  unfold State.planSet
  exact .set _ _ _ (by simp [planField])

theorem planSets_otherRegs (l : List Nat) : OtherRegs [HLTH_PANEL_PLAN.addr p 0] s (l.foldl (State.planSet p) s) :=
  .foldl (fun x b => planSet_otherRegs x p b) l s

theorem planSets_keep (l : List Nat) : (l.foldl (State.planSet p) s).keep = s.keep :=
  foldl_keeps (read := State.keep) (fun _ _ _ => rfl)

theorem loadPlan_otherRegs : OtherRegs [HLTH_PANEL_PLAN.addr p 0, HLTH_PANEL_RAIL.addr p 0] s (s.loadPlan p) := by
  unfold State.loadPlan
  extract_lets u
  have hu : OtherRegs [HLTH_PANEL_PLAN.addr p 0, HLTH_PANEL_RAIL.addr p 0] s u := (planSets_otherRegs s p _).mono (by simp)
  have hmem : HLTH_PANEL_RAIL.addr p 0 ∈ [HLTH_PANEL_PLAN.addr p 0, HLTH_PANEL_RAIL.addr p 0] := by simp
  clear_value u
  exact hu.andSet (f := HLTH_PANEL_RAIL.TARGET_MV) hmem

theorem loadPlan_keep : (s.loadPlan p).keep = s.keep := by
  unfold State.loadPlan
  extract_lets u
  rw [State.set_keep]
  exact planSets_keep _ _ _

variable {p} in
/-- The rail of a panel comes from its plan in the band that the panel is in. -/
theorem loadPlan_target (hp : p < 3) :
    (s.loadPlan p).get HLTH_PANEL_RAIL.TARGET_MV p = s.plan p (s.get HLTH_PANEL_RAIL.BAND p) % 2 ^ HLTH_PANEL_RAIL.TARGET_MV.w := by
  unfold State.loadPlan
  extract_lets u
  have hband : u.get HLTH_PANEL_RAIL.BAND p = s.get HLTH_PANEL_RAIL.BAND p := (planSets_otherRegs s p _).get (by
    rw [List.mem_singleton]
    exact Reg.addr_ne_of_apartFor (n := 3) (n' := 3) (by decide) hp hp)
  have hplan : u.plan p (u.get HLTH_PANEL_RAIL.BAND p) = s.plan p (s.get HLTH_PANEL_RAIL.BAND p) := by
    rw [hband]
    unfold State.plan
    rw [show u.keep = s.keep from planSets_keep _ _ _]
  rw [get_set_mod _ _ _ _ _ (by decide), hplan]

/-- The registers of the plans. -/
def planRegs : List Nat := (List.range 3).flatMap (fun p => [HLTH_PANEL_PLAN.addr p 0, HLTH_PANEL_RAIL.addr p 0])

theorem loadPlans_otherRegs : OtherRegs planRegs s s.loadPlans := by
  rw [loadPlans_eq]
  exact (((loadPlan_otherRegs s 0).mono (by decide)).trans ((loadPlan_otherRegs _ 1).mono (by decide))).trans
    ((loadPlan_otherRegs _ 2).mono (by decide))

theorem loadPlan_otherPanel {q : Nat} (hp : p < 3) (hq : q < 3) (hne : p ≠ q) (f : Field) (hf : f.reg = HLTH_PANEL_RAIL) :
    (s.loadPlan p).get f q = s.get f q := by
  refine (loadPlan_otherRegs s p).get ?_
  rw [hf, List.mem_cons, List.mem_singleton, not_or]
  exact ⟨Reg.addr_ne_of_apartFor (n := 3) (n' := 3) (by decide) hq hp, linkReg_ne (by decide) (Ne.symm hne)⟩

end

/-- The state in which cast-on has begun at ROM. -/
def State.castBegun (s : State) : State := ((s.set TOP_STATE.CAST_PHASE 1).addWrap CIPH_SECURITY.BOOT_COUNT 1).loadPlans

section
variable (s : State)

theorem castBegun_goes : Goes [.csr] s s.castBegun :=
  .step (.step (.step .refl set_goes (by decide)) addWrap_goes (by decide)) loadPlans_goes (by decide)

theorem castBegun_phase : s.castBegun.get TOP_STATE.CAST_PHASE = 1 := by
  unfold State.castBegun
  rw [(loadPlans_otherRegs _).get (by decide), State.addWrap, get_set_far _ _ _ _ (by decide), get_set_mod _ _ _ _ _ (by decide)]
  rfl

theorem castBegun_bootCount : s.castBegun.get CIPH_SECURITY.BOOT_COUNT =
    (s.get CIPH_SECURITY.BOOT_COUNT + 1) % 2 ^ CIPH_SECURITY.BOOT_COUNT.w := by
  unfold State.castBegun
  rw [(loadPlans_otherRegs _).get (by decide), get_addWrap _ _ _ _ _ (by decide), get_set_far _ _ _ _ (by decide)]

theorem loadPlans_target (p : Fin 3) :
    s.loadPlans.get HLTH_PANEL_RAIL.TARGET_MV p = s.plan p (s.get HLTH_PANEL_RAIL.BAND p) % 2 ^ HLTH_PANEL_RAIL.TARGET_MV.w := by
  have hplan : ∀ (t : State) (n : Nat), t.keep = s.keep → t.plan p n = s.plan p n := fun t n h => by rw [State.plan, h]; rfl
  rw [loadPlans_eq]
  fin_cases p
  · rw [loadPlan_otherPanel _ _ (by decide) (by decide) (by decide) _ rfl, loadPlan_otherPanel _ _ (by decide) (by decide) (by decide) _ rfl]
    exact loadPlan_target s (by decide)
  · rw [loadPlan_otherPanel _ _ (by decide) (by decide) (by decide) _ rfl, loadPlan_target _ (by decide),
      loadPlan_otherPanel _ _ (by decide) (by decide) (by decide) _ rfl]
    exact congrArg (· % _) (hplan _ _ (loadPlan_keep _ _))
  · rw [loadPlan_target _ (by decide), loadPlan_otherPanel _ _ (by decide) (by decide) (by decide) _ rfl,
      loadPlan_otherPanel _ _ (by decide) (by decide) (by decide) _ rfl]
    exact congrArg (· % _) (hplan _ _ ((loadPlan_keep _ _).trans (loadPlan_keep _ _)))

end

theorem castBegun_target (s : State) (p : Fin 3) :
    s.castBegun.get HLTH_PANEL_RAIL.TARGET_MV p = s.plan p (s.get HLTH_PANEL_RAIL.BAND p) % 2 ^ HLTH_PANEL_RAIL.TARGET_MV.w := by
  unfold State.castBegun
  have hplan : ∀ n, ((s.set TOP_STATE.CAST_PHASE 1).addWrap CIPH_SECURITY.BOOT_COUNT 1).plan p n = s.plan p n := fun _ => rfl
  rw [loadPlans_target, hplan, State.addWrap]
  simp (disch := decide) only [get_fin_set]

/-- The health state in which no cast-on is known to have been cut short. -/
def HlthSt.uncut (h : HlthSt) : HlthSt := { h with castCut := false }

/-- A state with a health state of its own. -/
def State.withHlth (s : State) (h : HlthSt) : State := { s with hlth := h }

section
variable (s : State) (h : HlthSt)

@[simp] theorem withHlth_get (f : Field) (i j : Nat) : (s.withHlth h).get f i j = s.get f i j := rfl
@[simp] theorem withHlth_hlth : (s.withHlth h).hlth = h := rfl
@[simp] theorem withHlth_out : (s.withHlth h).out = s.out := rfl

end

/-- The state as cast-on begins after one that was cut short, which is forgotten. -/
def State.castAgain (s : State) : State := s.castBegun.withHlth s.hlth.uncut

/-- What the log keeps of a cast-on that was cut short. -/
def cutRecord : Health := { reason := 0x0057, kind := 6, level := 4 }

section
variable (s : State)

theorem castAgain_get (f : Field) (i j : Nat) : s.castAgain.get f i j = s.castBegun.get f i j := withHlth_get _ _ _ _ _

theorem castAgain_castCut : s.castAgain.hlth.castCut = false := rfl

theorem castAgain_logSeq : s.castAgain.hlth.logSeq = s.hlth.logSeq := rfl

theorem castAgain_out : s.castAgain.out = s.castBegun.out := withHlth_out _ _

end

theorem castStart_eq (s : State) : s.castStart =
    if s.castBegun.hlth.castCut then ((s.castBegun.withHlth s.castBegun.hlth.uncut).report 0x0057).health cutRecord
    else s.castBegun := by
  unfold State.castStart
  extract_lets u
  have hu : u = s.castBegun := rfl
  clear_value u
  subst hu
  rfl

theorem castStart_again {s : State} (h : s.hlth.castCut = true) : s.castStart = (s.castAgain.report 0x0057).health cutRecord := by
  have hlth : s.castBegun.hlth = s.hlth := castBegun_goes s |>.only .hlth rfl
  have hagain : s.castBegun.withHlth s.castBegun.hlth.uncut = s.castAgain := congrArg (fun x => s.castBegun.withHlth x.uncut) hlth
  rw [castStart_eq, hagain, hlth, if_pos h]

theorem castStart_uncut {s : State} (h : s.hlth.castCut = false) : s.castStart = s.castBegun := by
  have hlth : s.castBegun.hlth = s.hlth := castBegun_goes s |>.only .hlth rfl
  rw [castStart_eq, hlth, if_neg (by simp [h])]

/-- A reason that is reported and logged leaves the phase as it is. -/
theorem castLogged {s v : State} (hout : s.out <+: v.out) (r : Nat) (x : Health) : let t := (v.report r).health x
    t.get TOP_STATE.CAST_PHASE = v.get TOP_STATE.CAST_PHASE ∧ t.hlth.castCut = v.hlth.castCut ∧ t.hlth.logSeq = v.hlth.logSeq + 1 ∧
      Sent s t (.report r) := by
  have hsent : Sent s (v.report r) (.report r) := sent_report _ hout
  obtain ⟨entry, hentry⟩ := health_hlth (v.report r) x
  refine ⟨((health_otherRegs _ _).get (by decide)).trans (get_congr rfl _ _ _), ?_, ?_, hsent.of_goes health_goes⟩ <;>
  · rw [hentry]
    rfl

/-- Cast-on after one that was cut short is reported, and logged. -/
theorem castStart_cut {s : State} (h : s.hlth.castCut = true) :
    s.castStart.get TOP_STATE.CAST_PHASE = 1 ∧ s.castStart.hlth.castCut = false ∧ Sent s s.castStart (.report 0x0057) ∧
      s.castStart.hlth.logSeq = s.hlth.logSeq + 1 := by
  have hphase : s.castAgain.get TOP_STATE.CAST_PHASE = 1 := (castAgain_get _ _ _ _).trans (castBegun_phase s)
  have hcut : s.castAgain.hlth.castCut = false := castAgain_castCut s
  have hseq : s.castAgain.hlth.logSeq = s.hlth.logSeq := castAgain_logSeq s
  have hout : s.out <+: s.castAgain.out := by
    rw [castAgain_out]
    exact (castBegun_goes s).out
  rw [castStart_again h]
  generalize s.castAgain = v at hphase hcut hseq hout ⊢
  obtain ⟨hp, hc, hl, hs⟩ := castLogged hout 0x0057 cutRecord
  exact ⟨hp.trans hphase, hc.trans hcut, hs, hl.trans (congrArg (· + 1) hseq)⟩

theorem castTry_starts {s : State} (h : s.hlth.pwrGood = true ∧ s.hlth.resetHigh = true ∧ s.hlth.bindingOff = false)
    (hphase : s.get TOP_STATE.CAST_PHASE = 0) : s.castTry = s.castStart := by
  unfold State.castTry
  obtain ⟨hp, hr, hb⟩ := h
  exact if_pos (by simp [hp, hr, hb, hphase])

/-! ## The fault of the module is sent to the group (R462) -/

theorem stallEnd_outside (s : State) {l : Nat} (hl : l < 32) : OutsideBlock 6 s (s.stallEnd l) := by
  unfold State.stallEnd
  split
  · exact .refl
  · exact .andAddSat (.andCsr .refl rfl) (Reg.addr_block (by decide) hl (by decide))

/-- The registers of the fabric and of the performance monitor. -/
def sendRegs : List Nat := blockRegs 6 ++ blockRegs 15

theorem mem_sendRegs {a : Nat} : a ∈ sendRegs ↔ a / 0x100000 = 6 ∨ a / 0x100000 = 15 := by simp [sendRegs]

theorem putLink_otherRegs (s : State) {l : Nat} (cls ch : Nat) (b : Bytes) (hl : l < 32) : OtherRegs sendRegs s (s.putLink l cls ch b) := by
  unfold State.putLink
  extract_lets v src s1
  have h1 : OtherRegs sendRegs s s1 := .of_csr rfl
  clear_value s1
  refine .andGoes (.andPmonEdge (.andEmit (h1.trans ((stallEnd_outside _ hl).otherRegs ?_))) ?_) meter_goes (by decide)
  · exact List.subset_append_left _ _
  · exact List.subset_append_right _ _

theorem linksUp_lt {s : State} {l : Nat} (h : l ∈ s.linksUp) : l < 32 := List.mem_range.mp (List.mem_filter.mp h).1

theorem OtherRegs.foldlMem {β : Type} {l : List Nat} {f : State → β → State} {bs : List β}
    (h : ∀ x, ∀ b ∈ bs, OtherRegs l x (f x b)) (s : State) : OtherRegs l s (bs.foldl f s) := by
  induction bs generalizing s with
  | nil => exact .refl
  | cons b r ih => exact (h s b List.mem_cons_self).trans (ih (fun x y hy => h x y (List.mem_cons_of_mem _ hy)) _)

theorem putLinks_otherRegs (s : State) (cls ch : Nat) (b : Bytes) (l : List Nat) (hl : ∀ x ∈ l, x < 32) :
    OtherRegs sendRegs s (l.foldl (fun s l => s.putLink l cls ch b) s) :=
  .foldlMem (fun x y hy => putLink_otherRegs x cls ch b (hl y hy)) s

theorem groupPacket_csr (s : State) (dst : Nat) (m : GroupMsg) : (s.groupPacket dst m).2.csr = s.csr := rfl

theorem groupOnLinks_otherRegs (s : State) (dst : Nat) (m : GroupMsg) (l : List Nat) (hl : ∀ x ∈ l, x < 32) :
    OtherRegs sendRegs s (s.groupOnLinks dst l m) := by
  unfold State.groupOnLinks
  split
  next p u hp =>
  extract_lets k f q v
  have hv : OtherRegs sendRegs s v := .of_csr (by rw [← groupPacket_csr s dst m, hp]; rfl)
  clear_value v
  exact hv.trans (putLinks_otherRegs _ _ _ _ _ hl)

theorem failSend_otherRegs (s : State) (reason : Nat) : OtherRegs sendRegs s (s.failSend reason) := by
  unfold State.failSend
  extract_lets u
  have hu : OtherRegs sendRegs s u := .of_csr rfl
  split
  · exact hu.trans (groupOnLinks_otherRegs _ _ _ _ (fun x hx => linksUp_lt (List.mem_of_mem_take hx)))
  · exact hu

end Sys2Proof.Machine

namespace Sys2Proof.Machine
open Csr

/-! ## RESET_N (R485, R486) -/

theorem cellAt_filterAddr {p : Nat → Bool} {a : Nat} (ha : p a = true) (m : List Host.Cell) :
    cellAt (m.filter (fun c => p c.1)) a = cellAt m a := by
  induction m with
  | nil => rfl
  | cons c m ih =>
    obtain ⟨k, b⟩ := c
    by_cases hk : p k = true
    · rw [List.filter_cons_of_pos (p := fun c : Host.Cell => p c.1) hk, cellAt, cellAt, ih]
    · have hne : k ≠ a := fun h => hk (h ▸ ha)
      rw [List.filter_cons_of_neg (p := fun c : Host.Cell => p c.1) hk, cellAt, if_neg hne, ih]

section
variable (s : State) (more : List (Field × Nat))

/-- The bytes of the host's memory stay as a reset leaves them. -/
theorem moduleReset_otherBytes : OtherBytes 0 hostBase s (s.moduleReset more) := by
  intro x hx
  have hx' : decide (hostBase ≤ x) = true := decide_eq_true (by omega)
  have hmem : (s.moduleReset more).mem = s.settleLedger.mem.filter (fun c => decide (hostBase ≤ c.1)) :=
    (moduleReset_parts s more).only .mem rfl
  unfold State.readByte
  rw [hmem, cellAt_filterAddr (p := fun a => decide (hostBase ≤ a)) hx', settleLedger_goes.only .mem rfl]

theorem moduleReset_mem_all : (s.moduleReset more).mem.all (fun c => decide (hostBase ≤ c.1)) = true := by
  rw [(moduleReset_parts s more).only .mem rfl]
  exact List.all_eq_true.mpr (fun c hc => (List.mem_filter.mp hc).2)

theorem moduleReset_lpddrPending : (s.moduleReset more).memst.lpddrPending = s.memst.lpddrPending := by
  rw [(moduleReset_parts s more).only .memst rfl]
  have hmemst : s.settleLedger.memst = s.memst := settleLedger_goes.only .memst rfl
  show s.settleLedger.memst.lpddrPending = _
  rw [hmemst]

end

/-- The engines after a reset, each as it is made. -/
structure Anew (t : State) : Prop where
  hostq : t.hostq = State.reset.hostq
  xport : t.xport = State.reset.xport
  fab : t.fab = State.reset.fab
  time : t.time = State.reset.time
  pho : t.pho = State.reset.pho
  line : t.line = State.reset.line
  sched : t.sched = State.reset.sched
  skein : t.skein = State.reset.skein
  pmon : t.pmon = State.reset.pmon
  bed : t.bed = State.reset.bed
  stch : t.stch = State.reset.stch
  purl : t.purl = State.reset.purl
  grp : t.grp = State.reset.grp
  boot : t.boot = State.reset.boot
  ctl : t.ctl = State.reset.ctl
  rerun : t.rerun = []
  intc : t.intc = State.reset.intc
  myk : t.myk = State.reset.myk
  timeFrac : t.timeFrac = 0
  valid : t.ciph.valid = []
  resident : t.ciph.resident = []

theorem moduleReset_anew (s : State) (more : List (Field × Nat)) : Anew (s.moduleReset more) := by
  have h := (moduleReset_parts s more).only
  exact {
    hostq := h .hostq rfl
    xport := h .xport rfl
    fab := h .fab rfl
    time := h .time rfl
    pho := h .pho rfl
    line := h .line rfl
    sched := h .sched rfl
    skein := h .skein rfl
    pmon := h .pmon rfl
    bed := h .bed rfl
    stch := h .stch rfl
    purl := h .purl rfl
    grp := h .grp rfl
    boot := h .boot rfl
    ctl := h .ctl rfl
    rerun := h .rerun rfl
    intc := h .intc rfl
    myk := h .myk rfl
    timeFrac := h .timeFrac rfl
    valid := congrArg CiphSt.valid (h .ciph rfl)
    resident := congrArg CiphSt.resident (h .ciph rfl) }

/-- What a reset keeps of the health state (R415). -/
theorem moduleReset_hlth_kept (s : State) (more : List (Field × Nat)) : let t := (s.moduleReset more).hlth
    t.logSeq = s.hlth.logSeq ∧ t.bindingOff = s.hlth.bindingOff ∧ t.committing = s.hlth.committing ∧ t.pwrGood = s.hlth.pwrGood ∧
      t.resetHigh = s.hlth.resetHigh ∧ t.castCut = s.hlth.castCut := by
  rw [moduleReset_hlth]
  exact ⟨rfl, rfl, rfl, rfl, rfl, rfl⟩

theorem execResetNRelease_next (s : State) :
    exec .resetNRelease s = .next (s.withHlth { s.hlth with resetHigh := true }).castTry := rfl

/-- The health state in which RESET_N has been taken low, in a cast-on that it cuts short or not. -/
def HlthSt.held (h : HlthSt) (cut : Bool) : HlthSt := { h with resetHigh := false, castCut := cut }

theorem execResetNAssert_next {s : State} (h : s.hlth.pwrGood = true ∧ s.hlth.bindingOff = false) :
    exec .resetNAssert s = .next ((s.withHlth (s.hlth.held
      (s.hlth.castCut || decide (1 ≤ s.get TOP_STATE.CAST_PHASE ∧ s.get TOP_STATE.CAST_PHASE ≤ 10)))).moduleReset []) := by
  obtain ⟨hpwr, hbind⟩ := h
  have hcond : ¬(s.hlth.bindingOff || !s.hlth.pwrGood) = true := by simp [hpwr, hbind]
  exact if_neg hcond

/-- RESET_N held low stops the module at once (R485, R486). -/
theorem resetNAssert_stops {s : State} (h : s.hlth.pwrGood = true ∧ s.hlth.bindingOff = false) :
    Does (.resetNAssert) s [.csr, .mem, .poison, .freeCtr, .timeFrac, .intc, .myk, .hostq, .sched, .skein, .memst, .pmon, .hlth,
        .bed, .stch, .purl, .ciph, .xport, .fab, .time, .grp, .pho, .boot, .ctl, .rerun, .line] (fun t =>
      t.hlth.resetHigh = false ∧ t.get TOP_STATE.CAST_PHASE = 0 ∧
          t.hlth.castCut = (s.hlth.castCut || decide (1 ≤ s.get TOP_STATE.CAST_PHASE ∧ s.get TOP_STATE.CAST_PHASE ≤ 10)) ∧
      OtherRegs (HLTH_CS.addr 0 0 :: keptFields.flatMap (fun f => (List.range f.2).map (fun i => f.1.reg.addr i 0))) State.reset t
          ∧
      OtherBytes 0 hostBase s t ∧ t.mem.all (fun c => decide (hostBase ≤ c.1)) = true ∧
      t.hostq = State.reset.hostq ∧ t.xport = State.reset.xport ∧ t.fab = State.reset.fab ∧ t.time = State.reset.time ∧
          t.pho = State.reset.pho ∧ t.line = State.reset.line ∧
      t.sched = State.reset.sched ∧ t.skein = State.reset.skein ∧ t.pmon = State.reset.pmon ∧ t.bed = State.reset.bed ∧
          t.stch = State.reset.stch ∧ t.purl = State.reset.purl ∧
      t.grp = State.reset.grp ∧ t.boot = State.reset.boot ∧ t.ctl = State.reset.ctl ∧ t.rerun = [] ∧ t.intc = State.reset.intc ∧
          t.myk = State.reset.myk ∧ t.timeFrac = 0 ∧
      t.ciph.valid = [] ∧ t.ciph.resident = [] ∧ t.hlth.logSeq = s.hlth.logSeq ∧ t.memst.lpddrPending = s.memst.lpddrPending) := by
  generalize hcut : (s.hlth.castCut || decide (1 ≤ s.get TOP_STATE.CAST_PHASE ∧ s.get TOP_STATE.CAST_PHASE ≤ 10)) = cut
  have hgoes : Goes [.hlth] s (s.withHlth (s.hlth.held cut)) := .hlth .refl (by decide)
  have hexec : exec .resetNAssert s = .next ((s.withHlth (s.hlth.held cut)).moduleReset []) := by
    rw [execResetNAssert_next h, hcut]
  have hlth : (s.withHlth (s.hlth.held cut)).hlth = s.hlth.held cut := rfl
  have hbytes := moduleReset_otherBytes (s.withHlth (s.hlth.held cut)) []
  have hmemst : (s.withHlth (s.hlth.held cut)).memst = s.memst := rfl
  have hread : ∀ x, (s.withHlth (s.hlth.held cut)).readByte x = s.readByte x := fun _ => rfl
  generalize s.withHlth (s.hlth.held cut) = u at hgoes hexec hlth hbytes hmemst hread
  obtain ⟨hseq, -, -, -, hhigh, hcast⟩ := moduleReset_hlth_kept u []
  rw [hlth] at hseq hhigh hcast
  have ha := moduleReset_anew u []
  have hregs := moduleReset_otherRegs u []
  rw [List.append_nil] at hregs
  refine .of_goes hexec (.step (.step .refl hgoes (by decide)) moduleReset_goes (by decide)) ⟨hhigh, moduleReset_castPhase u, hcast,
    hregs, fun x hx => (hbytes x hx).trans (hread x), moduleReset_mem_all u [], ha.hostq, ha.xport, ha.fab, ha.time, ha.pho, ha.line,
    ha.sched, ha.skein, ha.pmon, ha.bed, ha.stch, ha.purl, ha.grp, ha.boot, ha.ctl, ha.rerun, ha.intc, ha.myk, ha.timeFrac, ha.valid,
    ha.resident, hseq, (moduleReset_lpddrPending u []).trans (congrArg MemSt.lpddrPending hmemst)⟩

end Sys2Proof.Machine

namespace Sys2Proof.Machine
open Csr

/-! ## The measurement registers (R266) -/

theorem shaRound_length (v : List (BitVec 32)) (kw : BitVec 32) : (shaRound v kw).length = v.length := by
  unfold shaRound
  split <;> rfl

theorem shaBlock_length (v : List (BitVec 32)) (b : Bytes) : (shaBlock v b).length = v.length := by
  unfold shaBlock
  extract_lets m w
  rw [List.length_zipWith, foldl_keeps (read := List.length) (fun v x _ => shaRound_length v x), Nat.min_self]

theorem sha256_length (b : Bytes) : (sha256 b).length = 32 := by
  unfold sha256
  extract_lets m
  have hlen : ((pieces 64 (m.length / 64) m).foldl shaBlock shaInit).length = 8 := 
    foldl_keeps (read := List.length) (fun v x _ => shaBlock_length v x)
  generalize (pieces 64 (m.length / 64) m).foldl shaBlock shaInit = l at hlen
  rw [List.length_flatMap, List.map_congr_left (g := fun _ => 4) (fun w _ => by rw [be, List.length_reverse, length_le]),
    List.map_const', List.sum_replicate, hlen]
  rfl

/-- Pieces of a length one after the other are what they are cut from. -/
theorem flatMap_slice (m : Bytes) (w n : Nat) : (List.range n).flatMap (fun k => slice m (w * k) w) = m.take (w * n) := by
  induction n with
  | zero => simp
  | succ n ih =>
    rw [List.range_succ, List.flatMap_append, ih, List.flatMap_singleton, Nat.mul_succ, List.take_add]
    rfl

/-- Four words of eight bytes make up 32 bytes. -/
theorem words_of_bytes {m : Bytes} (hm : m.length = 32) : (List.range 4).flatMap (fun k => le 8 (fieldAt m (8 * k) 8)) = m := by
  have hw : ∀ k ∈ List.range 4, le 8 (fieldAt m (8 * k) 8) = slice m (8 * k) 8 := fun k hk => by
    have hk := List.mem_range.mp hk
    have hlen : (slice m (8 * k) 8).length = 8 := by
      unfold slice
      rw [List.length_take, List.length_drop]
      omega
    have hle := le_leVal (slice m (8 * k) 8)
    rwa [hlen] at hle
  rw [List.flatMap_congr hw, flatMap_slice]
  exact List.take_of_length_le (by omega)

/-- The registers that a measurement lies in. -/
def measureRegs (r : Nat) : List Nat := (List.range 4).map (fun k => CIPH_MEASURE.addr r k)

section
variable (s : State) (r : Nat)

theorem extend_otherRegs (d : Bytes) : OtherRegs (measureRegs r) s (s.extend r d) := by
  unfold State.extend
  extract_lets m
  exact .foldlMem (fun x k hk => .set x CIPH_MEASURE.VALUE _ (List.mem_map_of_mem (f := fun k => CIPH_MEASURE.addr r k) hk)) _

/-- What is extended is the hash of what was there and the digest (R266). -/
theorem extend_measurement (d : Bytes) : (s.extend r d).measurement r = sha256 (s.measurement r ++ padTo 32 d) := by
  have hget : ∀ k ∈ List.range 4, (s.extend r d).get CIPH_MEASURE.VALUE r k =
      fieldAt (sha256 (s.measurement r ++ padTo 32 d)) (8 * k) 8 := fun k hk => by
    unfold State.extend
    extract_lets m
    obtain ⟨t, -, ht⟩ := foldl_range_at (f := fun s k => s.set CIPH_MEASURE.VALUE (fieldAt m (8 * k) 8) r k)
      (read := fun t => t.get CIPH_MEASURE.VALUE r k) (List.mem_range.mp hk) (fun t i hi => get_set_far _ _ _ _ (by
        simp only [Reg.addr, CIPH_MEASURE.VALUE, CIPH_MEASURE]
        omega)) s
    exact ht.trans (get_set_fits _ _ _ _ _ ⟨by decide, fieldAt_lt _ _ 8⟩)
  unfold State.measurement at hget ⊢
  rw [List.flatMap_congr (fun k hk => congrArg (le 8) (hget k hk))]
  exact words_of_bytes (sha256_length _)

end

end Sys2Proof.Machine

namespace Sys2Proof.Machine
open Csr

/-! ## RESET_N is released, and PWR_GOOD (R415, R485) -/

/-- The health state in which RESET_N has been released. -/
def HlthSt.released (h : HlthSt) : HlthSt := { h with resetHigh := true }

theorem castBegun_hlth (s : State) : s.castBegun.hlth = s.hlth := castBegun_goes s |>.only .hlth rfl

/-- Cast-on begins as RESET_N is released, if none was cut short. -/
theorem resetNRelease_begins {s : State}
    (h : s.hlth.pwrGood = true ∧ s.hlth.bindingOff = false ∧ s.get TOP_STATE.CAST_PHASE = 0 ∧ s.hlth.castCut = false) :
    Does (.resetNRelease) s [.csr, .hlth] (fun t =>
      t.hlth.resetHigh = true ∧ t.get TOP_STATE.CAST_PHASE = 1 ∧
          t.get CIPH_SECURITY.BOOT_COUNT = (s.get CIPH_SECURITY.BOOT_COUNT + 1) % 2 ^ CIPH_SECURITY.BOOT_COUNT.w ∧
      (∀ p : Fin 3, t.get HLTH_PANEL_RAIL.TARGET_MV p = s.plan p (s.get HLTH_PANEL_RAIL.BAND p) % 2 ^ HLTH_PANEL_RAIL.TARGET_MV.w)) := by
  obtain ⟨hpwr, hbind, hphase, hcut⟩ := h
  have hexec : exec .resetNRelease s = .next (s.withHlth s.hlth.released).castTry := rfl
  have hgoes : Goes [.hlth] s (s.withHlth s.hlth.released) := .hlth .refl (by decide)
  have hgood : (s.withHlth s.hlth.released).hlth.pwrGood = true ∧ (s.withHlth s.hlth.released).hlth.resetHigh = true ∧
      (s.withHlth s.hlth.released).hlth.bindingOff = false := ⟨hpwr, rfl, hbind⟩
  have hget : ∀ f i j, (s.withHlth s.hlth.released).get f i j = s.get f i j := fun _ _ _ => rfl
  have hplan : ∀ p b, (s.withHlth s.hlth.released).plan p b = s.plan p b := fun _ _ => rfl
  have hcut' : (s.withHlth s.hlth.released).hlth.castCut = false := hcut
  generalize s.withHlth s.hlth.released = u at hexec hgoes hgood hget hplan hcut'
  rw [castTry_starts hgood ((hget _ _ _).trans hphase), castStart_uncut hcut'] at hexec
  refine .of_goes hexec (.step (.step .refl hgoes (by decide)) (castBegun_goes u) (by decide))
    ⟨?_, castBegun_phase u, ?_, fun p => ?_⟩
  · rw [castBegun_hlth]
    exact hgood.2.1
  · rw [castBegun_bootCount, hget]
  · rw [castBegun_target, hget, hplan]

/-- A cast-on that was cut short is reported as cast-on begins anew. -/
theorem resetNRelease_reports {s : State}
    (h : s.hlth.pwrGood = true ∧ s.hlth.bindingOff = false ∧ s.get TOP_STATE.CAST_PHASE = 0 ∧ s.hlth.castCut = true) :
    Does (.resetNRelease) s [.csr, .mem, .poison, .out, .freeCtr, .intc, .myk, .hlth] (fun t =>
      t.get TOP_STATE.CAST_PHASE = 1 ∧ t.hlth.castCut = false ∧ Sent s t (.report 0x0057) ∧ t.hlth.logSeq = s.hlth.logSeq + 1) := by
  obtain ⟨hpwr, hbind, hphase, hcut⟩ := h
  have hexec : exec .resetNRelease s = .next (s.withHlth s.hlth.released).castTry := rfl
  have hgoes : Goes [.hlth] s (s.withHlth s.hlth.released) := .hlth .refl (by decide)
  have hgood : (s.withHlth s.hlth.released).hlth.pwrGood = true ∧ (s.withHlth s.hlth.released).hlth.resetHigh = true ∧
      (s.withHlth s.hlth.released).hlth.bindingOff = false := ⟨hpwr, rfl, hbind⟩
  have hphase' : (s.withHlth s.hlth.released).get TOP_STATE.CAST_PHASE = 0 := hphase
  have hcut' : (s.withHlth s.hlth.released).hlth.castCut = true := hcut
  have hseq : (s.withHlth s.hlth.released).hlth.logSeq = s.hlth.logSeq := rfl
  generalize s.withHlth s.hlth.released = u at hexec hgoes hgood hphase' hcut' hseq
  obtain ⟨hp, hc, hs, hl⟩ := castStart_cut hcut'
  rw [castTry_starts hgood hphase'] at hexec
  exact .of_goes hexec (.step (.step .refl hgoes (by decide)) castStart_goes (by decide))
    ⟨hp, hc, hs.after hgoes.out, hl.trans (congrArg (· + 1) hseq)⟩

/-- Without power only the level of RESET_N is taken. -/
theorem resetNRelease_waits {s : State} (h : s.hlth.pwrGood = false) :
    Does (.resetNRelease) s [.hlth] (fun t => t.hlth = { s.hlth with resetHigh := true }) := by
  have hexec : exec .resetNRelease s = .next (s.withHlth s.hlth.released).castTry := rfl
  have hgoes : Goes [.hlth] s (s.withHlth s.hlth.released) := .hlth .refl (by decide)
  have hpwr : (s.withHlth s.hlth.released).hlth.pwrGood = false := h
  have hlth : (s.withHlth s.hlth.released).hlth = { s.hlth with resetHigh := true } := rfl
  generalize s.withHlth s.hlth.released = u at hexec hgoes hpwr hlth
  have htry : u.castTry = u := if_neg (by simp [hpwr])
  rw [htry] at hexec
  exact .of_goes hexec hgoes hlth

theorem resetNAssert_bindOff {s : State} (h : s.hlth.bindingOff = true) :
    Does (.resetNAssert) s [.hlth] (fun t => t.hlth = { s.hlth with resetHigh := false }) := by
  have hexec : exec .resetNAssert s = .next (s.withHlth { s.hlth with resetHigh := false }) :=
    if_pos (show (s.hlth.bindingOff || !s.hlth.pwrGood) = true by simp [h])
  exact .of_goes hexec (.hlth .refl (by decide)) rfl

/-- The health state in which the rails are in regulation. -/
def HlthSt.powered (h : HlthSt) : HlthSt := { h with pwrGood := true, chargeLate := false }

/-- PWR_GOOD resets the module, and begins cast-on where RESET_N is released. -/
theorem execPowerOnPwrGood_next {s : State} (h : s.hlth.pwrGood = false ∧ s.hlth.bindingOff = false) :
    exec .powerOnPwrGood s = .next ((s.withHlth s.hlth.powered).moduleReset []).castTry :=
  if_neg (show ¬(s.hlth.pwrGood || s.hlth.bindingOff) = true by simp [h.1, h.2])

/-- The state after PWR_GOOD has reset the module. -/
theorem powered_reset (s : State) : let u := (s.withHlth s.hlth.powered).moduleReset []
    u.hlth.pwrGood = true ∧ u.hlth.bindingOff = s.hlth.bindingOff ∧ u.hlth.resetHigh = s.hlth.resetHigh ∧
      u.hlth.castCut = s.hlth.castCut ∧ u.get CIPH_SECURITY.BOOT_COUNT = s.get CIPH_SECURITY.BOOT_COUNT := by
  obtain ⟨-, hbind, -, hpwr, hhigh, hcut⟩ := moduleReset_hlth_kept (s.withHlth s.hlth.powered) []
  exact ⟨hpwr, hbind, hhigh, hcut, moduleReset_bootCount _⟩

/-- The parts that a reset of the module changes. -/
abbrev resetParts : List Part := [.csr, .mem, .poison, .freeCtr, .timeFrac, .intc, .myk, .hostq, .sched, .skein, .memst, .pmon, .hlth, .bed,
  .stch, .purl, .ciph, .xport, .fab, .time, .grp, .pho, .boot, .ctl, .rerun, .line]

theorem powered_goes (s : State) : Goes resetParts s ((s.withHlth s.hlth.powered).moduleReset []) :=
  .step (.hlth .refl (by decide)) moduleReset_goes (by decide)

theorem powerOnPwrGood_begins {s : State}
    (h : s.hlth.pwrGood = false ∧ s.hlth.bindingOff = false ∧ s.hlth.resetHigh = true ∧ s.hlth.castCut = false) :
    Does (.powerOnPwrGood) s resetParts (fun t =>
      t.hlth.pwrGood = true ∧ t.get TOP_STATE.CAST_PHASE = 1 ∧ t.time = State.reset.time ∧ t.timeFrac = 0 ∧
      t.get CIPH_SECURITY.BOOT_COUNT = (s.get CIPH_SECURITY.BOOT_COUNT + 1) % 2 ^ CIPH_SECURITY.BOOT_COUNT.w) := by
  obtain ⟨hpwr, hbind, hhigh, hcut⟩ := h
  have hexec := execPowerOnPwrGood_next ⟨hpwr, hbind⟩
  obtain ⟨hp, hb, hh, hc, hboot⟩ := powered_reset s
  have hphase := moduleReset_castPhase (s.withHlth s.hlth.powered)
  have ha := moduleReset_anew (s.withHlth s.hlth.powered) []
  have hgoes := powered_goes s
  generalize (s.withHlth s.hlth.powered).moduleReset [] = u at hexec hp hb hh hc hboot hphase ha hgoes
  rw [castTry_starts ⟨hp, hh.trans hhigh, hb.trans hbind⟩ hphase, castStart_uncut (hc.trans hcut)] at hexec
  have hbegun := (castBegun_goes u).only
  refine .of_goes hexec (.step hgoes (castBegun_goes u) (by decide))
    ⟨?_, castBegun_phase u, (hbegun .time rfl).trans ha.time, (hbegun .timeFrac rfl).trans ha.timeFrac, ?_⟩
  · rw [castBegun_hlth]
    exact hp
  · rw [castBegun_bootCount, hboot]

theorem powerOnPwrGood_waits {s : State} (h : s.hlth.pwrGood = false ∧ s.hlth.bindingOff = false ∧ s.hlth.resetHigh = false) :
    Does (.powerOnPwrGood) s resetParts (fun t => t.hlth.pwrGood = true ∧ t.get TOP_STATE.CAST_PHASE = 0) := by
  obtain ⟨hpwr, hbind, hhigh⟩ := h
  have hexec := execPowerOnPwrGood_next ⟨hpwr, hbind⟩
  obtain ⟨hp, -, hh, -, -⟩ := powered_reset s
  have hphase := moduleReset_castPhase (s.withHlth s.hlth.powered)
  have hgoes := powered_goes s
  generalize (s.withHlth s.hlth.powered).moduleReset [] = u at hexec hp hh hphase hgoes
  have htry : u.castTry = u := if_neg (by simp [hh, hhigh])
  rw [htry] at hexec
  exact .of_goes hexec hgoes ⟨hp, hphase⟩

/-! ## The cores (R413, R452) -/

section
variable (s : State) (r : Nat)

theorem moduleFault_otherRegs : OtherRegs [TOP_FAULT.addr 0 0] s (s.moduleFault r) := by
  unfold State.moduleFault
  have hmem : TOP_FAULT.addr 0 0 ∈ [TOP_FAULT.addr 0 0] := List.mem_singleton.mpr rfl
  have hset : OtherRegs [TOP_FAULT.addr 0 0] s ((s.set TOP_FAULT.ACTIVE 1).set TOP_FAULT.REASON r) :=
    (OtherRegs.set s TOP_FAULT.ACTIVE 1 hmem).andSet (f := TOP_FAULT.REASON) hmem
  exact .andGoes (.andReport hset) intcUpdate_goes (by decide)

theorem moduleFault_active : (s.moduleFault r).on TOP_FAULT.ACTIVE = true := by
  unfold State.moduleFault
  simp (disch := decide) [State.on, State.report]

theorem moduleFault_reason : (s.moduleFault r).get TOP_FAULT.REASON = r % 2 ^ 16 := by
  unfold State.moduleFault
  simp (disch := decide) [State.on, State.report]
  rfl

end

/-- The fault of the module, sent to its group, stands in TOP_FAULT (R435, R462). -/
theorem handOver_fault (s : State) (r : Nat) : let t := s.handOver r
    t.on TOP_FAULT.ACTIVE = true ∧ t.get TOP_FAULT.REASON = r % 2 ^ 16 ∧ OtherRegs (TOP_FAULT.addr 0 0 :: sendRegs) s t := by
  have hfar : TOP_FAULT.addr 0 0 ∉ sendRegs := by rw [mem_sendRegs]; decide
  have hsend := failSend_otherRegs (s.moduleFault r) r
  refine ⟨?_, (hsend.get hfar).trans (moduleFault_reason s r), ?_⟩
  · have hactive := moduleFault_active s r
    have hget : (s.handOver r).get TOP_FAULT.ACTIVE = (s.moduleFault r).get TOP_FAULT.ACTIVE := hsend.get hfar
    unfold State.on at hactive ⊢
    rw [hget]
    exact hactive
  · exact ((moduleFault_otherRegs s r).mono (by simp)).trans (hsend.mono (List.subset_cons_self _ _))

/-- The restarts of a core, with those of the last hour and the present one. -/
def MykSt.restarted (k : MykSt) (sec : Bool) (l : List Nat) : MykSt :=
  if sec then { k with restartsSec := l } else { k with restartsMgmt := l }

theorem restarts_restarted (k : MykSt) (sec : Bool) (l : List Nat) :
    (if sec then (k.restarted sec l).restartsSec else (k.restarted sec l).restartsMgmt) = l := by
  cases sec <;> rfl

/-- The state as a watchdog's expiry is counted. -/
def State.watched (s : State) (sec : Bool) (l : List Nat) : State :=
  ({ s with myk := s.myk.restarted sec l }.addSat (coreRestarts sec) 1).raise TOP_INT_STATUS.CORE

/-- The restarts of a core within the last hour. -/
def State.lastHour (s : State) (sec : Bool) : List Nat :=
  (if sec then s.myk.restartsSec else s.myk.restartsMgmt).filter (fun n => decide (s.time.ticks < n + hourTicks))

theorem execWatchdogExpiry_next {s : State} {sec : Bool} (h : s.get (coreField sec) = 1 ∧ s.hlth.bindingOff = false) :
    exec (.watchdogExpiry sec) s =
      if 3 ≤ (s.time.ticks :: s.lastHour sec).length then
        .next (((s.watched sec (s.time.ticks :: s.lastHour sec)).set (coreField sec) 3).handOver 0x0022)
      else .next (((s.watched sec (s.time.ticks :: s.lastHour sec)).set (coreField sec) 2).moduleFault (if sec then 0x0021 else 0x0020)) := by
  obtain ⟨hcore, hbind⟩ := h
  exact if_neg (show ¬(s.get (coreField sec) ≠ 1 ∨ s.hlth.bindingOff = true) by simp [hcore, hbind])

theorem watched_goes (s : State) (sec : Bool) (l : List Nat) : Goes [.csr, .out, .intc, .myk] s (s.watched sec l) :=
  .step (.step (.myk .refl (by decide)) addSat_goes (by decide)) raise_goes (by decide)

theorem watched_core (s : State) (sec : Bool) (l : List Nat) : (s.watched sec l).on TOP_INT_STATUS.CORE = true := by
  unfold State.watched
  simp (disch := decide) [State.on]

theorem watched_myk (s : State) (sec : Bool) (l : List Nat) : (s.watched sec l).myk = s.myk.restarted sec l := by
  unfold State.watched
  rw [raise_goes.only .myk rfl]
  rfl

/-- A watchdog that expires restarts its core alone, and the third time within an hour stops it (R413). -/
theorem watchdog_restarts {s : State} {sec : Bool} {f : Field} (hf : coreField sec = f) (h : s.get f = 1 ∧ s.hlth.bindingOff = false) :
    Does (.watchdogExpiry sec) s [.csr, .out, .intc, .myk, .pmon, .fab, .grp, .line] (fun t =>
      t.on TOP_FAULT.ACTIVE = true ∧ t.on TOP_INT_STATUS.CORE = true ∧
      ((s.lastHour sec).length < 2 → t.get f = 2 ∧ t.get TOP_FAULT.REASON = (if sec then 0x0021 else 0x0020)) ∧
      (2 ≤ (s.lastHour sec).length → t.get f = 3 ∧ t.get TOP_FAULT.REASON = 0x0022) ∧
      (if sec then t.myk.restartsSec else t.myk.restartsMgmt) = s.time.ticks :: s.lastHour sec) := by
  subst hf
  generalize hl : s.lastHour sec = l
  have hexec := execWatchdogExpiry_next h
  have hgoes := watched_goes s sec (s.time.ticks :: l)
  have hcore := watched_core s sec (s.time.ticks :: l)
  have hmyk := watched_myk s sec (s.time.ticks :: l)
  rw [hl] at hexec
  generalize s.watched sec (s.time.ticks :: l) = u at hexec hgoes hcore hmyk
  have hreg : ∀ x, (u.set (coreField sec) x).on TOP_INT_STATUS.CORE = true := fun x => by
    unfold State.on at hcore ⊢
    rw [get_set_far _ _ _ _ (by cases sec <;> decide)]
    exact hcore
  have hset : ∀ x < 4, (u.set (coreField sec) x).get (coreField sec) = x := fun x hx => by
    refine get_set_fits _ _ _ _ _ ⟨?_, ?_⟩ <;> cases sec
    · decide
    · decide
    · exact hx
    · exact hx
  have hsets : ∀ x, (u.set (coreField sec) x).myk = s.myk.restarted sec (s.time.ticks :: l) := fun x => hmyk
  by_cases hlen : 2 ≤ l.length
  · rw [if_pos (by simpa using hlen)] at hexec
    obtain ⟨hactive, hreason, hother⟩ := handOver_fault (u.set (coreField sec) 3) 0x0022
    refine .of_goes hexec (.step (.step (.step .refl hgoes (by decide)) set_goes (by decide)) handOver_goes (by decide))
      ⟨hactive, ?_, fun h => absurd hlen (Nat.not_le.mpr h), fun _ => ⟨?_, hreason⟩, ?_⟩
    · have hget := hreg 3
      unfold State.on at hget ⊢
      rw [hother.get (by rw [List.mem_cons, mem_sendRegs]; decide)]
      exact hget
    · rw [hother.get (by rw [List.mem_cons, mem_sendRegs]; cases sec <;> decide)]
      exact hset 3 (by decide)
    · rw [handOver_goes.only .myk rfl, hsets]
      exact restarts_restarted _ _ _
  · rw [if_neg (by simpa using hlen)] at hexec
    have hother := moduleFault_otherRegs (u.set (coreField sec) 2) (if sec then 0x0021 else 0x0020)
    refine .of_goes hexec (.step (.step (.step .refl hgoes (by decide)) set_goes (by decide)) moduleFault_goes (by decide))
      ⟨moduleFault_active _ _, ?_, fun _ => ⟨?_, ?_⟩, fun h => absurd h hlen, ?_⟩
    · have hget := hreg 2
      unfold State.on at hget ⊢
      rw [hother.get (by decide)]
      exact hget
    · rw [hother.get (by cases sec <;> decide)]
      exact hset 2 (by decide)
    · rw [moduleFault_reason]
      cases sec <;> rfl
    · rw [moduleFault_goes.only .myk rfl, hsets]
      exact restarts_restarted _ _ _

/-! ## A restart is done -/

theorem waitSec_none {c : CtlSt} (h : c.waitSec = []) : { c with waitSec := [] } = c := by
  cases c
  cases h
  rfl

theorem waitMgmt_none {c : CtlSt} (h : c.waitMgmt = []) : { c with waitMgmt := [] } = c := by
  cases c
  cases h
  rfl

/-- Nothing that waits is nothing to take up. -/
theorem takeWaiting_none {s : State} {sec : Bool} (h : (if sec then s.ctl.waitSec else s.ctl.waitMgmt) = []) :
    s.takeWaiting sec = s := by
  unfold State.takeWaiting
  rw [h]
  cases sec
  · have hc := waitMgmt_none (c := s.ctl) h
    exact congrArg (fun c => ({ s with ctl := c } : State)) hc
  · have hc := waitSec_none (c := s.ctl) h
    exact congrArg (fun c => ({ s with ctl := c } : State)) hc

/-- The firmware that a core starts with, if its restart belongs to an update (R452). -/
def State.coreStarted (s : State) (sec : Bool) : State :=
  match s.hlth.update with
  | none => s
  | some u => if u.object = (if sec then 2 else 1) then s.firmwareStarted u else s

theorem execCoreRestartDone_next {s : State} {sec : Bool} (h : s.get (coreField sec) = 2) :
    exec (.coreRestartDone sec) s = .next (((s.set (coreField sec) 1).coreStarted sec).takeWaiting sec) :=
  if_neg (not_not.mpr h)

theorem coreStarted_none {s : State} {sec : Bool} (h : s.hlth.update = none) : s.coreStarted sec = s := by
  unfold State.coreStarted
  rw [h]

theorem coreStarted_some {s : State} {sec : Bool} {u : Update} (h : s.hlth.update = some u) (hu : u.object = if sec then 2 else 1) :
    s.coreStarted sec = s.firmwareStarted u := by
  unfold State.coreStarted
  rw [h]
  exact if_pos hu

/-- A core whose restart is done runs again (R413). -/
theorem coreRestart_runs {s : State} {sec : Bool} {f : Field} (hf : coreField sec = f)
    (h : s.get f = 2 ∧ s.hlth.update = none ∧ (if sec then s.ctl.waitSec else s.ctl.waitMgmt) = []) :
    Does (.coreRestartDone sec) s [.csr] (fun t => t.get f = 1 ∧ OtherRegs [TOP_CORE.addr 0 0] s t) := by
  subst hf
  obtain ⟨hcore, hupdate, hwait⟩ := h
  have hexec : exec (.coreRestartDone sec) s = .next (s.set (coreField sec) 1) := by
    have hnone : (s.set (coreField sec) 1).hlth.update = none := hupdate
    have hwait' : (if sec then (s.set (coreField sec) 1).ctl.waitSec else (s.set (coreField sec) 1).ctl.waitMgmt) = [] := hwait
    rw [execCoreRestartDone_next hcore, coreStarted_none hnone, takeWaiting_none hwait']
  refine .of_goes hexec set_goes ⟨get_set_fits _ _ _ _ _ ⟨?_, ?_⟩, .set _ _ _ ?_⟩ <;> cases sec <;> decide

/-- An update's end as its registers and its report show it (R452). -/
def State.updateShown (s : State) (r st : Nat) : State :=
  (((((s.withHlth { s.hlth with update := none }).set HLTH_UPDATE.GO 0).set HLTH_UPDATE.STATE st).set HLTH_STATUS.UPDATE_BUSY 0).set
    HLTH_UPDATE.RESULT r).hlthReport r HLTH_INT_STATUS.UPDATE

/-- The registers that an update's end changes. -/
def updateRegs : List Nat :=
  [HLTH_UPDATE.addr 0 0, HLTH_STATUS.addr 0 0, HLTH_ERR_LOG.addr 0 0, HLTH_INT_STATUS.addr 0 0] ++ healthRegs

section
variable (s : State) (r st : Nat)

theorem updateEnd_eq : s.updateEnd r st = (s.updateShown r st).health { reason := r, kind := 8, level := 4 } := rfl

theorem updateShown_otherRegs : OtherRegs updateRegs s (s.updateShown r st) := by
  unfold State.updateShown State.hlthReport
  generalize hu : s.withHlth { s.hlth with update := none } = u
  have h : OtherRegs updateRegs s u := .of_csr (by rw [← hu]; rfl)
  have h1 := ((h.andSet (f := HLTH_UPDATE.GO) (v := 0) (i := 0) (j := 0) (by decide)).andSet (f := HLTH_UPDATE.STATE) (v := st) (i := 0)
    (j := 0) (by decide)).andSet (f := HLTH_STATUS.UPDATE_BUSY) (v := 0) (i := 0) (j := 0) (by decide)
  exact .andRaise (.andReport ((h1.andSet (f := HLTH_UPDATE.RESULT) (by decide)).andSet (f := HLTH_ERR_LOG.REASON) (by decide))) (by decide)

theorem updateEnd_otherRegs : OtherRegs updateRegs s (s.updateEnd r st) := by
  rw [updateEnd_eq]
  exact (updateShown_otherRegs s r st).andHealth (by decide)

theorem updateEnd_result : (s.updateEnd r st).get HLTH_UPDATE.RESULT = r % 2 ^ HLTH_UPDATE.RESULT.w := by
  rw [updateEnd_eq, (health_otherRegs _ _).get (by decide)]
  unfold State.updateShown State.hlthReport
  simp (disch := decide) [State.report]

theorem updateEnd_state : (s.updateEnd r st).get HLTH_UPDATE.STATE = st % 2 ^ HLTH_UPDATE.STATE.w := by
  rw [updateEnd_eq, (health_otherRegs _ _).get (by decide)]
  unfold State.updateShown State.hlthReport
  simp (disch := decide) [State.report]

theorem updateShown_update : (s.updateShown r st).hlth.update = none := by
  unfold State.updateShown State.hlthReport
  rw [raise_hlth]
  rfl

theorem updateEnd_update : (s.updateEnd r st).hlth.update = none := by
  rw [updateEnd_eq]
  obtain ⟨entry, h⟩ := health_hlth (s.updateShown r st) { reason := r, kind := 8, level := 4 }
  rw [h]
  exact updateShown_update s r st

end

/-- A measurement stays where none of its registers changes. -/
theorem OtherRegs.measurement {l : List Nat} {s t : State} (h : OtherRegs l s t) {r : Nat} (hr : ∀ a ∈ measureRegs r, a ∉ l) :
    t.measurement r = s.measurement r := by
  unfold State.measurement
  exact List.flatMap_congr (fun k hk => congrArg (le 8) (h.get (hr _ (List.mem_map_of_mem (f := fun k => CIPH_MEASURE.addr r k) hk))))

/-- The management firmware of an update as it is taken into force, before the update's end (R452). -/
def State.firmwareTaken (s : State) (u : Update) : State :=
  ({ s with keep := { s.keep with mgmtBank := !s.keep.mgmtBank } }.set TOP_FW.MGMT_FW_VERSION u.version).extend 1 u.digest

theorem firmwareStarted_mgmt {s : State} {u : Update} (h : u.object = 1) : s.firmwareStarted u = (s.firmwareTaken u).updateEnd 0x1031 4 := by
  unfold State.firmwareStarted
  rw [if_pos h]
  rfl

section
variable (s : State) (u : Update)

theorem firmwareTaken_goes : Goes [.csr, .keep] s (s.firmwareTaken u) := by
  unfold State.firmwareTaken
  refine .step (.step (.keep .refl (by decide) ?_) set_goes (by decide)) extend_goes (by decide)
  exact ⟨Nat.le_refl _, Nat.le_refl _⟩

theorem firmwareTaken_keep : (s.firmwareTaken u).keep = { s.keep with mgmtBank := !s.keep.mgmtBank } := by
  unfold State.firmwareTaken
  rw [extend_goes.only .keep rfl]
  rfl

theorem firmwareTaken_version : (s.firmwareTaken u).get TOP_FW.MGMT_FW_VERSION = u.version % 2 ^ TOP_FW.MGMT_FW_VERSION.w := by
  unfold State.firmwareTaken
  rw [(extend_otherRegs _ _ _).get (by decide), get_set_mod _ _ _ _ _ (by decide)]

theorem firmwareTaken_core : (s.firmwareTaken u).get TOP_CORE.MGMT_STATE = s.get TOP_CORE.MGMT_STATE := by
  unfold State.firmwareTaken
  rw [(extend_otherRegs _ _ _).get (by decide), get_set_far _ _ _ _ (by decide)]
  rfl

theorem firmwareTaken_measurement : (s.firmwareTaken u).measurement 1 = sha256 (s.measurement 1 ++ padTo 32 u.digest) := by
  unfold State.firmwareTaken
  rw [extend_measurement]
  have hregs : OtherRegs [TOP_FW.addr 0 0] s ({ s with keep := { s.keep with mgmtBank := !s.keep.mgmtBank } }.set
      TOP_FW.MGMT_FW_VERSION u.version) := (OtherRegs.of_csr rfl).andSet (f := TOP_FW.MGMT_FW_VERSION) (by decide)
  rw [hregs.measurement (by decide)]

end

theorem coreRestart_updates {s : State} {u : Update}
    (h : s.get TOP_CORE.MGMT_STATE = 2 ∧ s.hlth.update = some u ∧ u.object = 1 ∧ s.ctl.waitMgmt = []) :
    Does (.coreRestartDone false) s [.csr, .mem, .poison, .out, .freeCtr, .intc, .myk, .hlth, .keep] (fun t =>
      t.get TOP_CORE.MGMT_STATE = 1 ∧ t.keep = { s.keep with mgmtBank := !s.keep.mgmtBank } ∧
          t.get TOP_FW.MGMT_FW_VERSION = u.version % 2 ^ TOP_FW.MGMT_FW_VERSION.w ∧
      t.measurement 1 = sha256 (s.measurement 1 ++ padTo 32 u.digest) ∧ t.get HLTH_UPDATE.RESULT = 0x1031 ∧
          t.get HLTH_UPDATE.STATE = 4 ∧ t.hlth.update = none) := by
  obtain ⟨hcore, hupdate, hobject, hwait⟩ := h
  have hset : (s.set TOP_CORE.MGMT_STATE 1).hlth.update = some u := hupdate
  have hstate : (s.set TOP_CORE.MGMT_STATE 1).get TOP_CORE.MGMT_STATE = 1 := get_set_fits _ _ _ _ _ (by decide)
  have hregs : OtherRegs [TOP_CORE.addr 0 0] s (s.set TOP_CORE.MGMT_STATE 1) := .set s TOP_CORE.MGMT_STATE 1 (by decide)
  have hexec := execCoreRestartDone_next (sec := false) hcore
  have hgoes : Goes [.csr] s (s.set TOP_CORE.MGMT_STATE 1) := set_goes
  have hmeas : (s.set TOP_CORE.MGMT_STATE 1).measurement 1 = s.measurement 1 := hregs.measurement (by decide)
  have hkeep : (s.set TOP_CORE.MGMT_STATE 1).keep = s.keep := rfl
  have hctl : (s.set TOP_CORE.MGMT_STATE 1).ctl = s.ctl := rfl
  change exec _ _ = .next (((s.set TOP_CORE.MGMT_STATE 1).coreStarted false).takeWaiting false) at hexec
  generalize s.set TOP_CORE.MGMT_STATE 1 = v at hset hstate hexec hgoes hmeas hkeep hctl
  rw [coreStarted_some (sec := false) hset hobject, firmwareStarted_mgmt hobject] at hexec
  have htaken := firmwareTaken_goes v u
  have hend := updateEnd_otherRegs (v.firmwareTaken u) 0x1031 4
  have hwait' : ((v.firmwareTaken u).updateEnd 0x1031 4).ctl.waitMgmt = [] := by
    rw [updateEnd_goes.only .ctl rfl, htaken.only .ctl rfl, hctl, hwait]
  rw [takeWaiting_none (by simpa using hwait')] at hexec
  refine .of_goes hexec (.step (.step (.step .refl hgoes (by decide)) htaken (by decide)) updateEnd_goes (by decide))
    ⟨?_, ?_, ?_, ?_, updateEnd_result _ _ _, updateEnd_state _ _ _, updateEnd_update _ _ _⟩
  · rw [hend.get (by decide), firmwareTaken_core]
    exact hstate
  · rw [updateEnd_goes.only .keep rfl, firmwareTaken_keep, hkeep]
  · rw [hend.get (by decide), firmwareTaken_version]
  · rw [hend.measurement (by decide), firmwareTaken_measurement, hmeas]

/-- Settles O55: a reset leaves the fields that R415 names and makes the rest anew, cast-on begins at ROM, and a core restarts alone. -/
theorem resetsAndCores : Obligations.ResetsAndCores := by
  unfold Obligations.ResetsAndCores
  refine ⟨fun s h => resetNRelease_begins h, fun s h => resetNRelease_reports h, fun s h => resetNRelease_waits h,
    fun s h => resetNAssert_stops h, fun s h => resetNAssert_bindOff h, fun s h => powerOnPwrGood_begins h,
    fun s h => powerOnPwrGood_waits h, fun s sec => ?_, fun s sec => ?_, fun s u h => coreRestart_updates h⟩
  · exact watchdog_restarts rfl
  · exact coreRestart_runs rfl

end Sys2Proof.Machine

namespace Sys2Proof.Machine
open Csr

/-! ## The input (R436) -/

section
variable (s : State) (vin iin : BitVec 16)

theorem inputMeasured_vin : (s.inputMeasured vin iin).get HLTH_INPUT.VIN_MV = vin.toNat := by
  unfold State.inputMeasured
  rw [get_set_beside _ _ _ _ _ _ (by decide), get_set_fits _ _ _ _ _ ⟨by decide, vin.isLt⟩]

theorem inputMeasured_iin : (s.inputMeasured vin iin).get HLTH_INPUT.IIN_CA = iin.toNat := by
  unfold State.inputMeasured
  rw [get_set_fits _ _ _ _ _ ⟨by decide, iin.isLt⟩]

theorem inputMeasured_otherRegs : OtherRegs [HLTH_INPUT.addr 0 0] s (s.inputMeasured vin iin) := by
  unfold State.inputMeasured
  exact (OtherRegs.set s HLTH_INPUT.VIN_MV _ (by decide)).andSet (f := HLTH_INPUT.IIN_CA) (by decide)

end

section
variable (s : State) (r : Nat) (f : Field)

/-- What a report of HLTH leaves of the registers. -/
theorem hlthReport_otherRegs : OtherRegs [HLTH_ERR_LOG.addr 0 0, f.reg.addr 0 0] s (s.hlthReport r f) := by
  unfold State.hlthReport
  exact .andRaise (.andReport (.set s HLTH_ERR_LOG.REASON r List.mem_cons_self)) (by simp)

theorem hlthReport_raised (hf : f.lo + f.w ≤ 64 ∧ 0 < f.w) : (s.hlthReport r f).on f = true := by
  unfold State.hlthReport State.on
  rw [raise_get, get_set_fits _ _ _ _ _ ⟨hf.1, Nat.one_lt_two_pow (by omega)⟩]
  rfl

theorem hlthReport_reason (hf : f.reg.addr 0 0 ≠ HLTH_ERR_LOG.addr 0 0) (hr : r < 2 ^ 16) :
    (s.hlthReport r f).get HLTH_ERR_LOG.REASON = r := by
  have hset : (s.set HLTH_ERR_LOG.REASON r).get HLTH_ERR_LOG.REASON = r := get_set_fits _ _ _ _ _ ⟨by decide, hr⟩
  have hreport : ((s.set HLTH_ERR_LOG.REASON r).report r).get HLTH_ERR_LOG.REASON = r := hset
  unfold State.hlthReport
  generalize (s.set HLTH_ERR_LOG.REASON r).report r = u at hreport
  rw [raise_get, get_set_far _ _ _ _ hf, hreport]

theorem hlthReport_sent {a : State} (h : a.out <+: s.out) : Sent a (s.hlthReport r f) (.report r) := by
  have hset : a.out <+: (s.set HLTH_ERR_LOG.REASON r).out := h
  unfold State.hlthReport
  generalize s.set HLTH_ERR_LOG.REASON r = u at hset
  have hsent : Sent a (u.report r) (.report r) := sent_report r hset
  exact hsent.of_goes raise_goes

end

section
variable (s : State) (vin iin : BitVec 16)

theorem inputWarn_begins (h : s.on HLTH_STATUS.INPUT_WARN = false) :
    Does (.inputWarn vin iin) s [.csr, .out, .intc] (fun t =>
      t.get HLTH_INPUT.VIN_MV = vin.toNat ∧ t.get HLTH_INPUT.IIN_CA = iin.toNat ∧ t.on HLTH_STATUS.INPUT_WARN = true ∧
      t.get HLTH_ERR_LOG.REASON = 0x1001 ∧ Sent s t (.report 0x1001) ∧ t.on HLTH_INT_STATUS.INPUT = true) := by
  have hexec : exec (.inputWarn vin iin) s =
      .next (((s.inputMeasured vin iin).set HLTH_STATUS.INPUT_WARN 1).hlthReport 0x1001 HLTH_INT_STATUS.INPUT) :=
    if_neg (by simp [h])
  have hout : s.out <+: ((s.inputMeasured vin iin).set HLTH_STATUS.INPUT_WARN 1).out := by
    rw [State.set_out]
    exact inputMeasured_goes.out
  have hother := hlthReport_otherRegs ((s.inputMeasured vin iin).set HLTH_STATUS.INPUT_WARN 1) 0x1001 HLTH_INT_STATUS.INPUT
  refine .of_goes hexec (.step (.step (.step .refl inputMeasured_goes (by decide)) set_goes (by decide)) hlthReport_goes (by decide))
    ⟨?_, ?_, ?_, hlthReport_reason _ _ _ (by decide) (by decide), hlthReport_sent _ _ _ hout,
      hlthReport_raised _ _ _ (by decide)⟩
  · rw [hother.get (by decide), get_set_far _ _ _ _ (by decide), inputMeasured_vin]
  · rw [hother.get (by decide), get_set_far _ _ _ _ (by decide), inputMeasured_iin]
  · unfold State.on
    rw [hother.get (by decide), get_set_mod _ _ _ _ _ (by decide)]
    rfl

theorem inputWarn_again (h : s.on HLTH_STATUS.INPUT_WARN = true) :
    Does (.inputWarn vin iin) s [.csr] (fun t =>
      t.get HLTH_INPUT.VIN_MV = vin.toNat ∧ t.get HLTH_INPUT.IIN_CA = iin.toNat ∧ OtherRegs [HLTH_INPUT.addr 0 0] s t) := by
  have hexec : exec (.inputWarn vin iin) s = .next (s.inputMeasured vin iin) := if_pos h
  exact .of_goes hexec inputMeasured_goes ⟨inputMeasured_vin _ _ _, inputMeasured_iin _ _ _, inputMeasured_otherRegs _ _ _⟩

theorem inputWarnClear_ends (h : s.on HLTH_STATUS.INPUT_WARN = true) :
    Does (.inputWarnClear vin iin) s [.csr, .out, .intc] (fun t =>
      t.get HLTH_INPUT.VIN_MV = vin.toNat ∧ t.on HLTH_STATUS.INPUT_WARN = false ∧ t.get HLTH_ERR_LOG.REASON = 0x1002 ∧
          Sent s t (.report 0x1002)) := by
  have hexec : exec (.inputWarnClear vin iin) s =
      .next (((s.inputMeasured vin iin).set HLTH_STATUS.INPUT_WARN 0).hlthReport 0x1002 HLTH_INT_STATUS.INPUT) := if_pos h
  have hout : s.out <+: ((s.inputMeasured vin iin).set HLTH_STATUS.INPUT_WARN 0).out := by
    rw [State.set_out]
    exact inputMeasured_goes.out
  have hother := hlthReport_otherRegs ((s.inputMeasured vin iin).set HLTH_STATUS.INPUT_WARN 0) 0x1002 HLTH_INT_STATUS.INPUT
  refine .of_goes hexec (.step (.step (.step .refl inputMeasured_goes (by decide)) set_goes (by decide)) hlthReport_goes (by decide))
    ⟨?_, ?_, hlthReport_reason _ _ _ (by decide) (by decide), hlthReport_sent _ _ _ hout⟩
  · rw [hother.get (by decide), get_set_far _ _ _ _ (by decide), inputMeasured_vin]
  · unfold State.on
    rw [hother.get (by decide), get_set_mod _ _ _ _ _ (by decide)]
    rfl

theorem inputSurge_reports :
    Does (.inputSurge vin iin) s [.csr, .out, .intc] (fun t =>
      t.get HLTH_INPUT.VIN_MV = vin.toNat ∧ t.get HLTH_ERR_LOG.REASON = 0x100D ∧ Sent s t (.report 0x100D) ∧
          t.on HLTH_INT_STATUS.INPUT = true) := by
  have hother := hlthReport_otherRegs (s.inputMeasured vin iin) 0x100D HLTH_INT_STATUS.INPUT
  refine .of_goes (t := (s.inputMeasured vin iin).hlthReport 0x100D HLTH_INT_STATUS.INPUT) rfl
    (.step (.step .refl inputMeasured_goes (by decide)) hlthReport_goes (by decide))
    ⟨?_, hlthReport_reason _ _ _ (by decide) (by decide), hlthReport_sent _ _ _ inputMeasured_goes.out, hlthReport_raised _ _ _ (by decide)⟩
  rw [hother.get (by decide), inputMeasured_vin]

end

/-! ## The hold-up capacitor (R437, R491) -/

/-- A field of one bit holds a flag. -/
theorem on_set_b2n (s : State) (f : Field) (i : Nat) (b : Bool) (hf : f.lo + f.w ≤ 64 ∧ 0 < f.w) : (s.set f (b2n b) i).on f i = b := by
  have hlt : b2n b < 2 ^ f.w := (by cases b <;> decide : b2n b < 2 ^ 1).trans_le (Nat.pow_le_pow_right Nat.two_pos hf.2)
  unfold State.on
  rw [get_set_fits _ _ _ _ _ ⟨hf.1, hlt⟩]
  cases b <;> rfl

/-- The capacitance and the voltage as measured. -/
def State.capMeasured (s : State) (uf vcap : BitVec 16) : State := (s.set HLTH_HOLDUP.CAP_UF uf.toNat).set HLTH_HOLDUP.VCAP_MV vcap.toNat

section
variable (s : State) (uf vcap : BitVec 16)

theorem capMeasured_goes : Goes [.csr] s (s.capMeasured uf vcap) := .step (.step .refl set_goes (by decide)) set_goes (by decide)

theorem capMeasured_uf : (s.capMeasured uf vcap).get HLTH_HOLDUP.CAP_UF = uf.toNat := by
  unfold State.capMeasured
  rw [get_set_beside _ _ _ _ _ _ (by decide), get_set_fits _ _ _ _ _ ⟨by decide, uf.isLt⟩]

theorem capMeasured_vcap : (s.capMeasured uf vcap).get HLTH_HOLDUP.VCAP_MV = vcap.toNat := by
  unfold State.capMeasured
  rw [get_set_fits _ _ _ _ _ ⟨by decide, vcap.isLt⟩]

theorem capMeasured_min : (s.capMeasured uf vcap).get HLTH_HOLDUP.CAP_MIN_UF = s.get HLTH_HOLDUP.CAP_MIN_UF := by
  unfold State.capMeasured
  rw [get_set_beside _ _ _ _ _ _ (by decide), get_set_beside _ _ _ _ _ _ (by decide)]

theorem capMeasured_hlth : (s.capMeasured uf vcap).hlth = s.hlth := rfl

end

section
variable (s : State)

theorem holdupUpdate_otherRegs : OtherRegs [HLTH_STATUS.addr 0 0] s s.holdupUpdate := by
  unfold State.holdupUpdate
  exact .set s HLTH_STATUS.HOLDUP_OK _ (by decide)

/-- HOLDUP_OK holds what the voltage and the capacitance say (R437). -/
theorem holdupUpdate_ok : s.holdupUpdate.on HLTH_STATUS.HOLDUP_OK = (s.hlth.pwrGood && decide (54000 ≤ s.get HLTH_HOLDUP.VCAP_MV) &&
    decide (s.get HLTH_HOLDUP.CAP_MIN_UF ≤ s.get HLTH_HOLDUP.CAP_UF)) := by
  unfold State.holdupUpdate
  exact on_set_b2n _ _ _ _ (by decide)

end

section
variable (s : State) (uf vcap : BitVec 16)

theorem holdupChargeMeasured_next : exec (.holdupChargeMeasured uf vcap) s =
    if uf.toNat < (s.capMeasured uf vcap).holdupUpdate.get HLTH_HOLDUP.CAP_MIN_UF then
      .next ((((s.capMeasured uf vcap).holdupUpdate.hlthReport 0x100C HLTH_INT_STATUS.INPUT).moduleFault 0x100C).health
        { reason := 0x100C, kind := 2, level := 4 })
    else .next (s.capMeasured uf vcap).holdupUpdate := rfl

theorem capMeasured_update_min : (s.capMeasured uf vcap).holdupUpdate.get HLTH_HOLDUP.CAP_MIN_UF = s.get HLTH_HOLDUP.CAP_MIN_UF := by
  rw [(holdupUpdate_otherRegs _).get (by decide), capMeasured_min]

theorem capMeasured_update_ok : (s.capMeasured uf vcap).holdupUpdate.on HLTH_STATUS.HOLDUP_OK =
    (s.hlth.pwrGood && decide (54000 ≤ vcap.toNat) && decide (s.get HLTH_HOLDUP.CAP_MIN_UF ≤ uf.toNat)) := by
  rw [holdupUpdate_ok, capMeasured_uf, capMeasured_vcap, capMeasured_min, capMeasured_hlth]

/-- A capacitor of enough capacitance makes HOLDUP_OK once it is charged. -/
theorem holdupCharge_enough (h : s.get HLTH_HOLDUP.CAP_MIN_UF ≤ uf.toNat) :
    Does (.holdupChargeMeasured uf vcap) s [.csr] (fun t =>
      t.get HLTH_HOLDUP.CAP_UF = uf.toNat ∧ t.get HLTH_HOLDUP.VCAP_MV = vcap.toNat ∧
          t.on HLTH_STATUS.HOLDUP_OK = (s.hlth.pwrGood && decide (54000 ≤ vcap.toNat))) := by
  have hexec := holdupChargeMeasured_next s uf vcap
  rw [capMeasured_update_min, if_neg (Nat.not_lt.mpr h)] at hexec
  have hother := holdupUpdate_otherRegs (s.capMeasured uf vcap)
  refine .of_goes hexec (.step (.step .refl (capMeasured_goes s uf vcap) (by decide)) holdupUpdate_goes (by decide)) ⟨?_, ?_, ?_⟩
  · rw [hother.get (by decide), capMeasured_uf]
  · rw [hother.get (by decide), capMeasured_vcap]
  · rw [capMeasured_update_ok, decide_eq_true h, Bool.and_true]

/-- One of too little is a fault of the module. -/
theorem holdupCharge_tooLittle (h : uf.toNat < s.get HLTH_HOLDUP.CAP_MIN_UF) :
    Does (.holdupChargeMeasured uf vcap) s [.csr, .mem, .poison, .out, .freeCtr, .intc, .myk, .hlth] (fun t =>
      t.on HLTH_STATUS.HOLDUP_OK = false ∧ t.on TOP_FAULT.ACTIVE = true ∧ t.get TOP_FAULT.REASON = 0x100C ∧
          t.get HLTH_ERR_LOG.REASON = 0x100C) := by
  have hexec := holdupChargeMeasured_next s uf vcap
  rw [capMeasured_update_min, if_pos h] at hexec
  have hok : (s.capMeasured uf vcap).holdupUpdate.on HLTH_STATUS.HOLDUP_OK = false := by
    rw [capMeasured_update_ok, decide_eq_false (Nat.not_le.mpr h), Bool.and_false]
  have hgoes : Goes [.csr] s (s.capMeasured uf vcap).holdupUpdate :=
    .step (.step .refl (capMeasured_goes s uf vcap) (by decide)) holdupUpdate_goes (by decide)
  generalize (s.capMeasured uf vcap).holdupUpdate = u at hexec hok hgoes
  have hreport := hlthReport_otherRegs u 0x100C HLTH_INT_STATUS.INPUT
  have hreason := hlthReport_reason u 0x100C HLTH_INT_STATUS.INPUT (by decide) (by decide)
  have hgoes' : Goes [.csr, .out, .intc] s (u.hlthReport 0x100C HLTH_INT_STATUS.INPUT) :=
    .step (.step .refl hgoes (by decide)) hlthReport_goes (by decide)
  generalize u.hlthReport 0x100C HLTH_INT_STATUS.INPUT = v at hexec hreport hreason hgoes'
  have hfault := moduleFault_otherRegs v 0x100C
  have hactive := moduleFault_active v 0x100C
  have hfreason := moduleFault_reason v 0x100C
  have hgoes2 : Goes [.csr, .out, .intc] s (v.moduleFault 0x100C) := .step (.step .refl hgoes' (by decide)) moduleFault_goes (by decide)
  generalize v.moduleFault 0x100C = w at hexec hfault hactive hfreason hgoes2
  have hhealth := health_otherRegs w { reason := 0x100C, kind := 2, level := 4 }
  refine .of_goes hexec (.step (.step .refl hgoes2 (by decide)) health_goes (by decide)) ⟨?_, ?_, ?_, ?_⟩
  · unfold State.on at hok ⊢
    rw [hhealth.get (by decide), hfault.get (by decide), hreport.get (by decide), hok]
  · unfold State.on at hactive ⊢
    rw [hhealth.get (by decide), hactive]
  · rw [hhealth.get (by decide), hfreason]
    rfl
  · rw [hhealth.get (by decide), hfault.get (by decide), hreason]

theorem holdupCharge_late :
    Does (.holdupChargeTimeout vcap) s [.csr, .out, .intc, .hlth] (fun t =>
      t.on HLTH_STATUS.HOLDUP_OK = false ∧ t.get HLTH_HOLDUP.VCAP_MV = vcap.toNat ∧ t.get HLTH_ERR_LOG.REASON = 0x100C ∧
          (s.hlth.pwrGood = true → t.alertN = false)) := by
  have hlate : (s.withHlth { s.hlth with chargeLate := true }).hlth = { s.hlth with chargeLate := true } := rfl
  have hgoes : Goes [.hlth] s (s.withHlth { s.hlth with chargeLate := true }) := .hlth .refl (by decide)
  have hexec : exec (.holdupChargeTimeout vcap) s = .next ((((s.withHlth { s.hlth with chargeLate := true }).set HLTH_HOLDUP.VCAP_MV
    vcap.toNat).set HLTH_STATUS.HOLDUP_OK 0).hlthReport 0x100C HLTH_INT_STATUS.INPUT) := rfl
  generalize s.withHlth { s.hlth with chargeLate := true } = u at hlate hgoes hexec
  have hgoes' : Goes [.csr, .hlth] s ((u.set HLTH_HOLDUP.VCAP_MV vcap.toNat).set HLTH_STATUS.HOLDUP_OK 0) :=
    .step (.step (.step .refl hgoes (by decide)) set_goes (by decide)) set_goes (by decide)
  have hv : ((u.set HLTH_HOLDUP.VCAP_MV vcap.toNat).set HLTH_STATUS.HOLDUP_OK 0).get HLTH_HOLDUP.VCAP_MV = vcap.toNat := by
    rw [get_set_far _ _ _ _ (by decide), get_set_fits _ _ _ _ _ ⟨by decide, vcap.isLt⟩]
  have hok : ((u.set HLTH_HOLDUP.VCAP_MV vcap.toNat).set HLTH_STATUS.HOLDUP_OK 0).get HLTH_STATUS.HOLDUP_OK = 0 :=
    get_set_fits _ _ _ _ _ (by decide)
  have hhlth : ((u.set HLTH_HOLDUP.VCAP_MV vcap.toNat).set HLTH_STATUS.HOLDUP_OK 0).hlth = { s.hlth with chargeLate := true } := hlate
  generalize (u.set HLTH_HOLDUP.VCAP_MV vcap.toNat).set HLTH_STATUS.HOLDUP_OK 0 = v at hexec hgoes' hv hok hhlth
  have hreport := hlthReport_otherRegs v 0x100C HLTH_INT_STATUS.INPUT
  have hreason := hlthReport_reason v 0x100C HLTH_INT_STATUS.INPUT (by decide) (by decide)
  have hkeep : (v.hlthReport 0x100C HLTH_INT_STATUS.INPUT).hlth = v.hlth := hlthReport_goes.only .hlth rfl
  have hgoes2 : Goes [.csr, .out, .intc, .hlth] s (v.hlthReport 0x100C HLTH_INT_STATUS.INPUT) :=
    .step (.step .refl hgoes' (by decide)) hlthReport_goes (by decide)
  generalize v.hlthReport 0x100C HLTH_INT_STATUS.INPUT = w at hexec hreport hreason hkeep hgoes2
  have hwok : w.on HLTH_STATUS.HOLDUP_OK = false := by
    unfold State.on
    rw [hreport.get (by decide), hok]
    rfl
  refine .of_goes hexec hgoes2 ⟨hwok, (hreport.get (by decide)).trans hv, hreason, fun hpwr => ?_⟩
  unfold State.alertN
  rw [hwok, hkeep, hhlth]
  simp [hpwr]

/-! ## The power cap (R438) -/

theorem throttleUpdate_otherRegs : OtherRegs [HLTH_STATUS.addr 0 0] s s.throttleUpdate := by
  unfold State.throttleUpdate
  exact .set s HLTH_STATUS.THROTTLE _ (by decide)

theorem throttleUpdate_throttle : s.throttleUpdate.on HLTH_STATUS.THROTTLE = (s.hlth.capHold || !s.hlth.hot.isEmpty) := by
  unfold State.throttleUpdate
  exact on_set_b2n _ _ _ _ (by decide)

/-- The state in which the measured power has been taken, with dispatch held at the cap or not. -/
def State.capHeld (s : State) (pin : BitVec 16) (hold : Bool) : State :=
  ((s.set HLTH_INPUT.PIN_W pin.toNat).withHlth { s.hlth with capHold := hold }).throttleUpdate

theorem capHeld_goes (pin : BitVec 16) (hold : Bool) : Goes [.csr, .hlth] s (s.capHeld pin hold) :=
  .step (.hlth (.step .refl set_goes (by decide)) (by decide)) throttleUpdate_goes (by decide)

theorem capHeld_hlth (pin : BitVec 16) (hold : Bool) : (s.capHeld pin hold).hlth = { s.hlth with capHold := hold } := by
  unfold State.capHeld
  rw [throttleUpdate_goes.only .hlth rfl]
  rfl

theorem capHeld_throttle (pin : BitVec 16) (hold : Bool) :
    (s.capHeld pin hold).on HLTH_STATUS.THROTTLE = (hold || !s.hlth.hot.isEmpty) := by
  unfold State.capHeld
  rw [throttleUpdate_throttle]
  rfl

theorem capHeld_power (pin : BitVec 16) (hold : Bool) : (s.capHeld pin hold).get HLTH_INPUT.PIN_W = pin.toNat := by
  unfold State.capHeld
  rw [(throttleUpdate_otherRegs _).get (by decide), withHlth_get, get_set_fits _ _ _ _ _ ⟨by decide, pin.isLt⟩]

theorem powerCap_holds (pin : BitVec 16) (h : s.on HLTH_STATUS.READY = true ∧ s.hlth.capHold = false) :
    Does (.powerCapReached pin) s [.csr, .out, .intc, .hlth] (fun t =>
      t.hlth.capHold = true ∧ t.on HLTH_STATUS.THROTTLE = true ∧ t.get HLTH_INPUT.PIN_W = pin.toNat ∧ Sent s t (.report 0x100E) ∧
          t.on HLTH_INT_STATUS.POWER_CAP = true) := by
  obtain ⟨hready, hhold⟩ := h
  have hon : (s.set HLTH_INPUT.PIN_W pin.toNat).on HLTH_STATUS.READY = true := by
    unfold State.on at hready ⊢
    rw [get_set_far _ _ _ _ (by decide), hready]
  have hexec : exec (.powerCapReached pin) s = .next ((s.capHeld pin true).hlthReport 0x100E HLTH_INT_STATUS.POWER_CAP) := by
    have hcond : ((s.set HLTH_INPUT.PIN_W pin.toNat).on HLTH_STATUS.READY && !(s.set HLTH_INPUT.PIN_W pin.toNat).hlth.capHold) = true := by
      rw [hon, show (s.set HLTH_INPUT.PIN_W pin.toNat).hlth.capHold = false from hhold]
      rfl
    exact if_pos hcond
  have hother := hlthReport_otherRegs (s.capHeld pin true) 0x100E HLTH_INT_STATUS.POWER_CAP
  have hgoes := capHeld_goes s pin true
  refine .of_goes hexec (.step (.step .refl hgoes (by decide)) hlthReport_goes (by decide))
    ⟨?_, ?_, ?_, hlthReport_sent _ _ _ hgoes.out, hlthReport_raised _ _ _ (by decide)⟩
  · rw [hlthReport_goes.only .hlth rfl, capHeld_hlth]
  · have hthrottle := capHeld_throttle s pin true
    unfold State.on at hthrottle ⊢
    rw [hother.get (by decide), hthrottle]
    rfl
  · rw [hother.get (by decide), capHeld_power]

theorem powerCap_releases (pin : BitVec 16) :
    Does (.powerCapRelease pin) s [.csr, .hlth] (fun t =>
      t.hlth.capHold = false ∧ t.on HLTH_STATUS.THROTTLE = !s.hlth.hot.isEmpty ∧ t.get HLTH_INPUT.PIN_W = pin.toNat) := by
  have hexec : exec (.powerCapRelease pin) s = .next (s.capHeld pin false) := rfl
  refine .of_goes hexec (capHeld_goes s pin false) ⟨?_, capHeld_throttle s pin false, capHeld_power s pin false⟩
  rw [capHeld_hlth]

end

end Sys2Proof.Machine

namespace Sys2Proof.Machine
open Csr

/-! ## Bind-off begins (R439, R440) -/

/-- A record that is written while bind-off runs reaches the log's tail alone (R440). -/
theorem health_quiet {s : State} {x : Health} (hb : s.hlth.bindingOff = true) (hk : x.kind ≠ 1) : Goes [.freeCtr, .hlth] s (s.health x) := by
  obtain ⟨entry, h⟩ := health_eq s x
  rw [h, hb]
  show Goes _ s (s.healthLogged x.kind entry)
  unfold State.healthLogged
  rw [if_neg hk]
  exact .hlth (.step .refl fresh_goes (by decide)) (by decide)

/-- The health state in which bind-off has begun. -/
def HlthSt.bound (h : HlthSt) : HlthSt := { h with bindingOff := true, savedSlot := none }

/-- The state as the first trigger is counted and reported. -/
def State.bindCounted (s : State) (reason : Nat) : State :=
  ((((s.withHlth s.hlth.bound).addSat HLTH_COUNT.BINDOFFS 1).set HLTH_ERR_LOG.REASON reason).report reason)

/-- The state as the first trigger is logged. -/
def State.bindBegun (s : State) (reason : Nat) : State := (s.bindCounted reason).health { reason := reason, kind := 3, level := 4 }

/-- The state as loads are shed. -/
def State.bindShed (s : State) (reason : Nat) : State := (s.bindBegun reason).updateCut.failSend reason

section
variable (s : State) (reason : Nat)

theorem bindCounted_goes : Goes [.csr, .out, .hlth] s (s.bindCounted reason) :=
  .step (.step (.step (.hlth .refl (by decide)) addSat_goes (by decide)) set_goes (by decide)) report_goes (by decide)

theorem bindCounted_hlth : (s.bindCounted reason).hlth = s.hlth.bound := rfl

theorem bindCounted_sent : Sent s (s.bindCounted reason) (.report reason) := by
  unfold State.bindCounted
  refine sent_report reason ?_
  rw [State.set_out, State.addSat, State.set_out]
  exact List.prefix_refl _

theorem bindCounted_otherRegs : OtherRegs [HLTH_COUNT.addr 0 0, HLTH_ERR_LOG.addr 0 0] s (s.bindCounted reason) := by
  unfold State.bindCounted
  generalize hu : s.withHlth s.hlth.bound = u
  have h : OtherRegs [HLTH_COUNT.addr 0 0, HLTH_ERR_LOG.addr 0 0] s u := .of_csr (by rw [← hu]; rfl)
  exact .andReport ((h.andAddSat (f := HLTH_COUNT.BINDOFFS) (by decide)).andSet (f := HLTH_ERR_LOG.REASON) (by decide))

theorem bindCounted_bindOffs :
    (s.bindCounted reason).get HLTH_COUNT.BINDOFFS = satAdd HLTH_COUNT.BINDOFFS.w (s.get HLTH_COUNT.BINDOFFS) 1 := by
  unfold State.bindCounted
  have hread : ∀ u : State, (u.report reason).get HLTH_COUNT.BINDOFFS = u.get HLTH_COUNT.BINDOFFS := fun _ => rfl
  rw [hread, get_set_far _ _ _ _ (by decide), get_addSat _ _ _ _ _ (by decide), withHlth_get]
  rfl

theorem bindBegun_quiet : Goes [.freeCtr, .hlth] (s.bindCounted reason) (s.bindBegun reason) :=
  health_quiet (by rw [bindCounted_hlth]; rfl) (show (3 : Nat) ≠ 1 by decide)

theorem bindBegun_goes : Goes [.csr, .out, .freeCtr, .hlth] s (s.bindBegun reason) :=
  .step (.step .refl (bindCounted_goes s reason) (by decide)) (bindBegun_quiet s reason) (by decide)

theorem bindBegun_hlth : (s.bindBegun reason).hlth.bindingOff = true ∧ (s.bindBegun reason).hlth.history = s.hlth.history ∧
    (s.bindBegun reason).hlth.update = s.hlth.update := by
  obtain ⟨entry, h⟩ := health_hlth (s.bindCounted reason) { reason := reason, kind := 3, level := 4 }
  unfold State.bindBegun
  rw [h, bindCounted_hlth]
  exact ⟨rfl, rfl, rfl⟩

/-- The update that bind-off cuts short leaves the critical-state slots as they are. -/
theorem updateCut_slots (i : Bool) : s.updateCut.keep.slot i = s.keep.slot i := by
  unfold State.updateCut
  split
  · rfl
  · split
    · rfl
    · split <;> rfl

theorem updateCut_none {s : State} (h : s.hlth.update = none) : s.updateCut = s := by
  unfold State.updateCut
  rw [h]

/-- What the shedding of loads leaves, apart from the registers of the fabric and the performance monitor. -/
theorem bindShed_goes : Goes [.csr, .out, .freeCtr, .hlth, .intc, .pmon, .fab, .grp, .line, .keep] s (s.bindShed reason) :=
  .step (.step (.step .refl (bindBegun_goes s reason) (by decide)) updateCut_goes (by decide)) failSend_goes (by decide)

theorem bindShed_sent : Sent s (s.bindShed reason) (.report reason) :=
  (((bindCounted_sent s reason).of_goes (bindBegun_quiet s reason)).of_goes updateCut_goes).of_goes failSend_goes

theorem bindShed_otherRegs : OtherRegs sendRegs (s.bindCounted reason) (s.bindShed reason) := by
  have hbegun : OtherRegs sendRegs (s.bindCounted reason) (s.bindBegun reason) := .andGoes .refl (bindBegun_quiet s reason) (by decide)
  exact (hbegun.andGoes updateCut_goes (by decide)).trans (failSend_otherRegs _ _)

theorem bindShed_get (f : Field) (h : f.reg.addr 0 0 ≠ HLTH_COUNT.addr 0 0 ∧ f.reg.addr 0 0 ≠ HLTH_ERR_LOG.addr 0 0 ∧
    f.reg.addr 0 0 / 0x100000 ≠ 6 ∧ f.reg.addr 0 0 / 0x100000 ≠ 15) : (s.bindShed reason).get f = s.get f := by
  obtain ⟨hcount, hlog, hfab, hpmon⟩ := h
  rw [(bindShed_otherRegs s reason).get (by rw [mem_sendRegs]; simp [hfab, hpmon]),
    (bindCounted_otherRegs s reason).get (by simp [hcount, hlog])]

theorem bindShed_bindOffs : (s.bindShed reason).get HLTH_COUNT.BINDOFFS = satAdd HLTH_COUNT.BINDOFFS.w (s.get HLTH_COUNT.BINDOFFS) 1 := by
  rw [(bindShed_otherRegs s reason).get (by rw [mem_sendRegs]; decide), bindCounted_bindOffs]

theorem bindShed_hlth : (s.bindShed reason).hlth = (s.bindBegun reason).hlth := by
  unfold State.bindShed
  rw [failSend_goes.only .hlth rfl, updateCut_goes.only .hlth rfl]

theorem bindShed_slots (i : Bool) : (s.bindShed reason).keep.slot i = s.keep.slot i := by
  unfold State.bindShed
  rw [failSend_goes.only .keep rfl, updateCut_slots, (bindBegun_goes s reason).only .keep rfl]

theorem bindShed_keep {s : State} (h : s.hlth.update = none) : (s.bindShed reason).keep = s.keep := by
  obtain ⟨-, -, hupdate⟩ := bindBegun_hlth s reason
  unfold State.bindShed
  rw [failSend_goes.only .keep rfl, updateCut_none (hupdate.trans h), (bindBegun_goes s reason).only .keep rfl]

end

theorem newest_slots (k : StoreSt) : k.newest = match k.slot false, k.slot true with
    | none, none => none
    | some _, none => some false
    | none, some _ => some true
    | some a, some b => some (decide (a.seq < b.seq)) := rfl

/-- The slot that bind-off writes, and the sequence number, follow from the slots alone. -/
theorem saveSlot_of_slots {s t : State} (h : ∀ i, t.keep.slot i = s.keep.slot i) : t.saveSlot = s.saveSlot := by
  unfold State.saveSlot
  rw [newest_slots, newest_slots, h, h]

theorem newestSeq_of_slots {s t : State} (h : ∀ i, t.keep.slot i = s.keep.slot i) : t.keep.newestSeq = s.keep.newestSeq := by
  show max (((t.keep.slot false).map (·.seq)).getD 0) (((t.keep.slot true).map (·.seq)).getD 0) = _
  rw [h, h]
  rfl

theorem slot_putSlot (k : StoreSt) (i : Bool) (x : Option CritImage) : (k.putSlot i x).slot i = x ∧ (k.putSlot i x).slot (!i) = k.slot (!i) := by
  cases i <;> exact ⟨rfl, rfl⟩

/-! ## What bind-off saves (R441) -/

section
variable (s : State)

theorem saveCritical_keep : s.saveCritical.keep = s.keep.putSlot s.saveSlot (some s.critImage) := by
  have h : (s.txSlots.foldl State.exactMark s).keep = s.keep :=
    foldl_keeps (read := State.keep) (fun t x _ => exactMark_goes.only .keep rfl)
  show (s.txSlots.foldl State.exactMark s).keep.putSlot s.saveSlot (some s.critImage) = _
  rw [h]

theorem saveCritical_hlth : s.saveCritical.hlth = { s.hlth with savedSlot := some s.saveSlot } := by
  have h : (s.txSlots.foldl State.exactMark s).hlth = s.hlth :=
    foldl_keeps (read := State.hlth) (fun t x _ => exactMark_goes.only .hlth rfl)
  show { (s.txSlots.foldl State.exactMark s).hlth with savedSlot := some s.saveSlot } = _
  rw [h]

/-- The mark of a transmit slot as a save without its commit record may leave it. -/
def State.markCut (s : State) (x : Nat × Nat × KeySlot) : State := if s.fresh.1 % 2 = 1 then s.fresh.2.exactMark x else s.fresh.2

theorem markCut_goes (x : Nat × Nat × KeySlot) : Goes [.freeCtr, .ciph] s (s.markCut x) :=
  .ite (.step (.step .refl fresh_goes (by decide)) exactMark_goes (by decide)) (.step .refl fresh_goes (by decide))

theorem saveCut_keep : s.saveCut.keep = s.keep.putSlot s.saveSlot none := by
  have h : (s.txSlots.foldl State.markCut s).keep = s.keep :=
    foldl_keeps (read := State.keep) (fun t x _ => (markCut_goes t x).only .keep rfl)
  show (s.txSlots.foldl State.markCut s).keep.putSlot s.saveSlot none = _
  rw [h]

theorem saveCut_hlth : s.saveCut.hlth = { s.hlth with committing := true } := by
  have h : (s.txSlots.foldl State.markCut s).hlth = s.hlth :=
    foldl_keeps (read := State.hlth) (fun t x _ => (markCut_goes t x).only .hlth rfl)
  show { (s.txSlots.foldl State.markCut s).hlth with committing := true } = _
  rw [h]

end

/-! ## The module is stopped (R442) -/

/-- The health state of a module that bind-off has stopped. -/
def HlthSt.stopped (h : HlthSt) : HlthSt := { h with pwrGood := false, committing := false }

/-- The registers of the last bind-off. -/
def State.bindRecorded (s : State) (reason ms mib vcap : Nat) : State :=
  (((s.set HLTH_LAST_BINDOFF.REASON reason).set HLTH_LAST_BINDOFF.DURATION_MS (min ms 100)).set HLTH_LAST_BINDOFF.IMAGE_MIB mib).set
    HLTH_LAST_BINDOFF.VCAP_END_MV vcap

section
variable (s : State) (reason ms mib vcap : Nat)

theorem bindStopped_eq : s.bindStopped reason ms mib vcap =
    ((((s.withHlth s.hlth.stopped).moduleReset []).bindRecorded reason ms mib vcap).set HLTH_HOLDUP.VCAP_MV vcap).holdupUpdate := rfl

theorem bindRecorded_otherRegs : OtherRegs [HLTH_LAST_BINDOFF.addr 0 0] s (s.bindRecorded reason ms mib vcap) := by
  unfold State.bindRecorded
  exact (((OtherRegs.set s HLTH_LAST_BINDOFF.REASON _ (by decide)).andSet (f := HLTH_LAST_BINDOFF.DURATION_MS) (by decide)).andSet
    (f := HLTH_LAST_BINDOFF.IMAGE_MIB) (by decide)).andSet (f := HLTH_LAST_BINDOFF.VCAP_END_MV) (by decide)

variable {s reason ms mib vcap}

theorem bindRecorded_fields (hr : reason < 2 ^ 16) (hm : mib < 2 ^ 16) (hv : vcap < 2 ^ 16) : let t := s.bindRecorded reason ms mib vcap
    t.get HLTH_LAST_BINDOFF.REASON = reason ∧ t.get HLTH_LAST_BINDOFF.DURATION_MS = min ms 100 ∧ t.get HLTH_LAST_BINDOFF.IMAGE_MIB = mib ∧
      t.get HLTH_LAST_BINDOFF.VCAP_END_MV = vcap := by
  have hms : min ms 100 < 2 ^ 16 := (Nat.min_le_right _ _).trans_lt (by decide)
  unfold State.bindRecorded
  refine ⟨?_, ?_, ?_, ?_⟩
  · rw [get_set_beside _ _ _ _ _ _ (by decide), get_set_beside _ _ _ _ _ _ (by decide), get_set_beside _ _ _ _ _ _ (by decide),
      get_set_fits _ _ _ _ _ ⟨by decide, hr⟩]
  · rw [get_set_beside _ _ _ _ _ _ (by decide), get_set_beside _ _ _ _ _ _ (by decide), get_set_fits _ _ _ _ _ ⟨by decide, hms⟩]
  · rw [get_set_beside _ _ _ _ _ _ (by decide), get_set_fits _ _ _ _ _ ⟨by decide, hm⟩]
  · rw [get_set_fits _ _ _ _ _ ⟨by decide, hv⟩]

end

end Sys2Proof.Machine

namespace Sys2Proof.Machine
open Csr

theorem bindOffs_copied : CopiedAlone (fieldCells (keptFields ++ [])) HLTH_COUNT.BINDOFFS 0 := by decide +kernel

/-- What a module that bind-off has stopped keeps and shows. -/
structure Stopped (s t : State) (reason ms mib vcap : Nat) : Prop where
  reason : t.get HLTH_LAST_BINDOFF.REASON = reason
  duration : t.get HLTH_LAST_BINDOFF.DURATION_MS = min ms 100
  image : t.get HLTH_LAST_BINDOFF.IMAGE_MIB = mib
  vcap : t.get HLTH_LAST_BINDOFF.VCAP_END_MV = vcap
  phase : t.get TOP_STATE.CAST_PHASE = 0
  bindOffs : t.get HLTH_COUNT.BINDOFFS = s.get HLTH_COUNT.BINDOFFS
  keep : t.keep = s.keep
  bindingOff : t.hlth.bindingOff = s.hlth.bindingOff
  pwrGood : t.hlth.pwrGood = false
  committing : t.hlth.committing = false

theorem bindStopped_stopped {s : State} {reason ms mib vcap : Nat} (hr : reason < 2 ^ 16) (hm : mib < 2 ^ 16) (hv : vcap < 2 ^ 16) :
    Stopped s (s.bindStopped reason ms mib vcap) reason ms mib vcap := by
  rw [bindStopped_eq]
  have hhlth : (s.withHlth s.hlth.stopped).hlth = s.hlth.stopped := rfl
  have hkeep : (s.withHlth s.hlth.stopped).keep = s.keep := rfl
  have hcount : (s.withHlth s.hlth.stopped).get HLTH_COUNT.BINDOFFS = s.get HLTH_COUNT.BINDOFFS := rfl
  generalize s.withHlth s.hlth.stopped = u at hhlth hkeep hcount
  obtain ⟨-, hbind, hcommit, hpwr, -, -⟩ := moduleReset_hlth_kept u []
  rw [hhlth] at hbind hcommit hpwr
  have hphase := moduleReset_castPhase u
  have hoffs : (u.moduleReset []).get HLTH_COUNT.BINDOFFS = s.get HLTH_COUNT.BINDOFFS :=
    (moduleReset_get u [] (by decide) bindOffs_copied).trans hcount
  have hk : (u.moduleReset []).keep = s.keep := (moduleReset_goes.only .keep rfl).trans hkeep
  generalize u.moduleReset [] = v at hbind hcommit hpwr hphase hoffs hk
  obtain ⟨h1, h2, h3, h4⟩ := bindRecorded_fields (s := v) (ms := ms) hr hm hv
  have hrec := bindRecorded_otherRegs v reason ms mib vcap
  have hreck : (v.bindRecorded reason ms mib vcap).keep = v.keep := rfl
  have hrech : (v.bindRecorded reason ms mib vcap).hlth = v.hlth := rfl
  generalize v.bindRecorded reason ms mib vcap = w at h1 h2 h3 h4 hrec hreck hrech
  have hlast : OtherRegs [HLTH_HOLDUP.addr 0 0, HLTH_STATUS.addr 0 0] w (w.set HLTH_HOLDUP.VCAP_MV vcap).holdupUpdate :=
    (OtherRegs.set w HLTH_HOLDUP.VCAP_MV _ (by decide)).trans ((holdupUpdate_otherRegs _).mono (by simp))
  have hlasth : (w.set HLTH_HOLDUP.VCAP_MV vcap).holdupUpdate.hlth = v.hlth := hrech
  exact {
    reason := (hlast.get (by decide)).trans h1
    duration := (hlast.get (by decide)).trans h2
    image := (hlast.get (by decide)).trans h3
    vcap := (hlast.get (by decide)).trans h4
    phase := (hlast.get (by decide)).trans ((hrec.get (by decide)).trans hphase)
    bindOffs := (hlast.get (by decide)).trans ((hrec.get (by decide)).trans hoffs)
    keep := hreck.trans hk
    bindingOff := (congrArg HlthSt.bindingOff hlasth).trans hbind
    pwrGood := (congrArg HlthSt.pwrGood hlasth).trans hpwr
    committing := (congrArg HlthSt.committing hlasth).trans hcommit }

/-- The registers that a save without its commit record keeps besides. -/
def heldFields : List (Field × Nat) :=
  [(TOP_STATE.CAST_PHASE, 1), (TOP_STATE.RESTRICTED, 1), (TOP_STATE.RESTRICT_REASON, 1), (TOP_FAULT.ACTIVE, 1), (TOP_FAULT.REASON, 1)]

theorem bindReason_copied : CopiedAlone (fieldCells (keptFields ++ heldFields)) HLTH_LAST_BINDOFF.REASON 0 := by decide +kernel

/-! ## The triggers (R439 to R442) -/

theorem bindOff_begins {s : State} (h : s.hlth.bindingOff = false ∧ s.hlth.pwrGood = true) (reason : Nat) (x : BindOff) :
    s.bindOff reason x = s.bindOffBegin reason x := by
  unfold State.bindOff
  rw [h.1, h.2]
  rfl

theorem bindOffBegin_eq (s : State) (reason : Nat) (x : BindOff) : s.bindOffBegin reason x =
    if !(s.bindShed reason).on HLTH_STATUS.HOLDUP_OK then ((s.bindShed reason).lastReport 0x1009).bindStopped reason x.ms.toNat 0 x.vcap.toNat
    else if (s.bindShed reason).get TOP_STATE.CAST_PHASE ≠ 0x0B then (s.bindShed reason).bindStopped reason x.ms.toNat 0 x.vcap.toNat
    else if x.commits then
      ((s.bindShed reason).saveCritical.lastReport 0).bindStopped reason x.ms.toNat x.mib.toNat x.vcap.toNat
    else (((s.bindShed reason).saveCut.set HLTH_LAST_BINDOFF.REASON reason).set HLTH_LAST_BINDOFF.IMAGE_MIB x.mib.toNat).moduleReset
      heldFields := rfl

theorem bindShed_holdup (s : State) (reason : Nat) : (s.bindShed reason).on HLTH_STATUS.HOLDUP_OK = s.on HLTH_STATUS.HOLDUP_OK := by
  unfold State.on
  rw [bindShed_get s reason HLTH_STATUS.HOLDUP_OK (by decide)]

theorem bindShed_phase (s : State) (reason : Nat) : (s.bindShed reason).get TOP_STATE.CAST_PHASE = s.get TOP_STATE.CAST_PHASE :=
  bindShed_get s reason TOP_STATE.CAST_PHASE (by decide)

/-- The parts that bind-off changes. -/
abbrev bindParts : List Part := [.csr, .mem, .poison, .out, .freeCtr, .timeFrac, .intc, .myk, .hostq, .sched, .skein, .memst, .pmon, .hlth,
  .bed, .stch, .purl, .ciph, .xport, .fab, .time, .grp, .pho, .boot, .ctl, .keep, .rerun, .line]

theorem inputReason_eq (c : InputCause) : inputReason c = if c = .low then 0x1003 else if c = .lost then 0x1004 else 0x1005 := by
  cases c <;> rfl

theorem inputReason_lt (c : InputCause) : inputReason c < 2 ^ 16 := by
  cases c <;> decide

/-- With the capacitor charged and cast-on ended, the image is written, and committed (R441). -/
theorem bindOff_commits {s : State} {r : Nat} {x : BindOff} (hr : r < 2 ^ 16)
    (h : s.hlth.bindingOff = false ∧ s.hlth.pwrGood = true ∧ s.on HLTH_STATUS.HOLDUP_OK = true ∧ s.get TOP_STATE.CAST_PHASE = 11 ∧
      x.commits = true) : let t := s.bindOff r x
    t.hlth.bindingOff = true ∧ t.hlth.pwrGood = false ∧ t.get TOP_STATE.CAST_PHASE = 0 ∧
      t.keep.slot (!s.saveSlot) = s.keep.slot (!s.saveSlot) ∧ t.keep.lastReport = 0 ∧
    (t.keep.slot s.saveSlot).map (fun y => (y.seq, y.jobs, y.history, y.consumed)) =
      some (s.keep.newestSeq + 1, s.xport.jobs, s.hlth.history, false) ∧
    (t.keep.slot s.saveSlot).map (·.inFlight) = some (s.hostq.dispatched.map (·.work) ++ (s.hostq.finished.filter (fun f =>
      !f.refused)).map (·.work)) ∧
    t.get HLTH_LAST_BINDOFF.REASON = r ∧ t.get HLTH_LAST_BINDOFF.DURATION_MS = min x.ms.toNat 100 ∧
    t.get HLTH_LAST_BINDOFF.IMAGE_MIB = x.mib.toNat ∧ t.get HLTH_LAST_BINDOFF.VCAP_END_MV = x.vcap.toNat ∧
    t.get HLTH_COUNT.BINDOFFS = satAdd HLTH_COUNT.BINDOFFS.w (s.get HLTH_COUNT.BINDOFFS) 1 ∧ Sent s t (.report r) := by
  obtain ⟨hbind, hpwr, hok, hphase, hcommit⟩ := h
  have hsent := bindShed_sent s r
  have hoffs := bindShed_bindOffs s r
  have hslots := bindShed_slots s r
  have hgoes := bindShed_goes s r
  obtain ⟨hbound, hhist, -⟩ := bindBegun_hlth s r
  rw [← bindShed_hlth] at hbound hhist
  have hexec : s.bindOff r x = ((s.bindShed r).saveCritical.lastReport 0).bindStopped r x.ms.toNat x.mib.toNat x.vcap.toNat := by
    rw [bindOff_begins ⟨hbind, hpwr⟩, bindOffBegin_eq, bindShed_holdup, bindShed_phase, hok, hphase, hcommit, if_neg (by decide),
      if_neg (by decide), if_pos (by decide)]
  have hjobs : (s.bindShed r).xport = s.xport := hgoes.only .xport rfl
  have hhostq : (s.bindShed r).hostq = s.hostq := hgoes.only .hostq rfl
  dsimp only
  rw [hexec]
  generalize s.bindShed r = u at hsent hoffs hslots hgoes hbound hhist hjobs hhostq
  have hslot : u.saveSlot = s.saveSlot := saveSlot_of_slots hslots
  have hkeep : (u.saveCritical.lastReport 0).keep = { u.keep.putSlot s.saveSlot (some u.critImage) with lastReport := 0 } := by
    rw [← hslot, ← saveCritical_keep]
    rfl
  have hhlth : (u.saveCritical.lastReport 0).hlth.bindingOff = true := by
    show u.saveCritical.hlth.bindingOff = true
    rw [saveCritical_hlth]
    exact hbound
  have hsave : Goes [.hlth, .ciph, .keep] u (u.saveCritical.lastReport 0) :=
    .step (.step .refl saveCritical_goes (by decide)) lastReport_goes (by decide)
  have hcount : (u.saveCritical.lastReport 0).get HLTH_COUNT.BINDOFFS = u.get HLTH_COUNT.BINDOFFS := get_congr (hsave.only .csr rfl) _ _ _
  have hstop := bindStopped_stopped (s := u.saveCritical.lastReport 0) (ms := x.ms.toNat) hr x.mib.isLt x.vcap.isLt
  have hsent' := (hsent.of_goes hsave).of_goes (bindStopped_goes (reason := r) (ms := x.ms.toNat) (mib := x.mib.toNat) (vcap := x.vcap.toNat))
  generalize (u.saveCritical.lastReport 0).bindStopped r x.ms.toNat x.mib.toNat x.vcap.toNat = t at hstop hsent'
  generalize u.saveCritical.lastReport 0 = v at hkeep hhlth hsave hcount hstop
  have ht := hstop.keep.trans hkeep
  have hmine : t.keep.slot s.saveSlot = some u.critImage := by
    rw [ht]
    exact (slot_putSlot u.keep s.saveSlot (some u.critImage)).1
  refine ⟨hstop.bindingOff.trans hhlth, hstop.pwrGood, hstop.phase, ?_, congrArg StoreSt.lastReport ht, ?_, ?_, hstop.reason, hstop.duration,
    hstop.image, hstop.vcap, hstop.bindOffs.trans (hcount.trans hoffs), hsent'⟩
  · rw [ht]
    exact (slot_putSlot u.keep s.saveSlot (some u.critImage)).2.trans (hslots _)
  · rw [hmine, ← newestSeq_of_slots hslots, ← hjobs, ← hhist]
    rfl
  · rw [hmine, ← hhostq]
    rfl

/-- Without a commit record the slot is invalid, and the module waits for the limit (R441, R442). -/
theorem bindOff_waits {s : State} {r : Nat} {x : BindOff} (hr : r < 2 ^ 16)
    (h : s.hlth.bindingOff = false ∧ s.hlth.pwrGood = true ∧ s.on HLTH_STATUS.HOLDUP_OK = true ∧ s.get TOP_STATE.CAST_PHASE = 11 ∧
      x.commits = false) : let t := s.bindOff r x
    t.hlth.bindingOff = true ∧ t.hlth.committing = true ∧ t.keep.slot s.saveSlot = none ∧
      t.keep.slot (!s.saveSlot) = s.keep.slot (!s.saveSlot) ∧ t.get HLTH_LAST_BINDOFF.REASON = r ∧ Sent s t (.report r) := by
  obtain ⟨hbind, hpwr, hok, hphase, hcommit⟩ := h
  have hsent := bindShed_sent s r
  have hslots := bindShed_slots s r
  obtain ⟨hbound, -, -⟩ := bindBegun_hlth s r
  rw [← bindShed_hlth] at hbound
  have hexec : s.bindOff r x = (((s.bindShed r).saveCut.set HLTH_LAST_BINDOFF.REASON r).set HLTH_LAST_BINDOFF.IMAGE_MIB
      x.mib.toNat).moduleReset heldFields := by
    rw [bindOff_begins ⟨hbind, hpwr⟩, bindOffBegin_eq, bindShed_holdup, bindShed_phase, hok, hphase, hcommit, if_neg (by decide),
      if_neg (by decide), if_neg (by decide)]
  dsimp only
  rw [hexec]
  generalize s.bindShed r = u at hsent hslots hbound
  have hslot : u.saveSlot = s.saveSlot := saveSlot_of_slots hslots
  have hkeep := saveCut_keep u
  have hhlth := saveCut_hlth u
  have hsent' := hsent.of_goes (saveCut_goes (s := u))
  rw [hslot] at hkeep
  generalize u.saveCut = v at hkeep hhlth hsent'
  have hreason : ((v.set HLTH_LAST_BINDOFF.REASON r).set HLTH_LAST_BINDOFF.IMAGE_MIB x.mib.toNat).get HLTH_LAST_BINDOFF.REASON = r := by
    rw [get_set_beside _ _ _ _ _ _ (by decide), get_set_fits _ _ _ _ _ ⟨by decide, hr⟩]
  have hk : ((v.set HLTH_LAST_BINDOFF.REASON r).set HLTH_LAST_BINDOFF.IMAGE_MIB x.mib.toNat).keep = v.keep := rfl
  have hh : ((v.set HLTH_LAST_BINDOFF.REASON r).set HLTH_LAST_BINDOFF.IMAGE_MIB x.mib.toNat).hlth = v.hlth := rfl
  have hsent2 := (hsent'.of_goes (set_goes (f := HLTH_LAST_BINDOFF.REASON) (v := r) (i := 0) (j := 0))).of_goes
    (set_goes (f := HLTH_LAST_BINDOFF.IMAGE_MIB) (v := x.mib.toNat) (i := 0) (j := 0))
  generalize (v.set HLTH_LAST_BINDOFF.REASON r).set HLTH_LAST_BINDOFF.IMAGE_MIB x.mib.toNat = w at hreason hk hh hsent2
  obtain ⟨-, hb, hc, -, -, -⟩ := moduleReset_hlth_kept w heldFields
  have hw := hh.trans hhlth
  rw [hw] at hb hc
  have ht : (w.moduleReset heldFields).keep = u.keep.putSlot s.saveSlot none := (moduleReset_goes.only .keep rfl).trans (hk.trans hkeep)
  refine ⟨hb.trans hbound, hc, ?_, ?_, ?_, hsent2.of_goes moduleReset_goes⟩
  · rw [ht]
    exact (slot_putSlot u.keep s.saveSlot none).1
  · rw [ht]
    exact (slot_putSlot u.keep s.saveSlot none).2.trans (hslots _)
  · rw [moduleReset_get w heldFields (by decide) bindReason_copied, hreason]

/-- Without the charged capacitor nothing is saved (R440). -/
theorem bindOff_savesNothing {s : State} {r : Nat} {x : BindOff} (hr : r < 2 ^ 16)
    (h : s.hlth.bindingOff = false ∧ s.hlth.pwrGood = true ∧ s.on HLTH_STATUS.HOLDUP_OK = false ∧ s.hlth.update = none) :
    let t := s.bindOff r x
    t.keep = { s.keep with lastReport := 0x1009 } ∧ t.hlth.pwrGood = false ∧ t.get HLTH_LAST_BINDOFF.IMAGE_MIB = 0 := by
  obtain ⟨hbind, hpwr, hok, hupdate⟩ := h
  have hkeep := bindShed_keep r hupdate
  have hexec : s.bindOff r x = ((s.bindShed r).lastReport 0x1009).bindStopped r x.ms.toNat 0 x.vcap.toNat := by
    rw [bindOff_begins ⟨hbind, hpwr⟩, bindOffBegin_eq, bindShed_holdup, hok, if_pos (by decide)]
  dsimp only
  rw [hexec]
  generalize s.bindShed r = u at hkeep
  have hlast : (u.lastReport 0x1009).keep = { s.keep with lastReport := 0x1009 } := by
    rw [← hkeep]
    rfl
  have hstop := bindStopped_stopped (s := u.lastReport 0x1009) (ms := x.ms.toNat) hr (show 0 < 2 ^ 16 by decide) x.vcap.isLt
  exact ⟨hstop.keep.trans hlast, hstop.pwrGood, hstop.image⟩

/-- A later trigger is logged, in the image as well (R439, R450). -/
theorem laterTrigger_logs {s : State} (h : s.hlth.bindingOff = true) (r : Nat) :
    Goes [.freeCtr, .hlth, .keep] s (s.laterTrigger r) ∧ (s.laterTrigger r).hlth.logSeq = s.hlth.logSeq + 1 ∧
      (s.laterTrigger r).hlth.bindingOff = true ∧ (s.laterTrigger r).hlth.pwrGood = s.hlth.pwrGood := by
  have hgoes : Goes [.freeCtr, .hlth] s (s.health { reason := r, kind := 3, level := 4 }) :=
    health_quiet h (show (3 : Nat) ≠ 1 by decide)
  obtain ⟨entry, hhlth⟩ := health_hlth s { reason := r, kind := 3, level := 4 }
  have hfacts : (s.hlth.logged entry).logSeq = s.hlth.logSeq + 1 ∧ (s.hlth.logged entry).bindingOff = true ∧
      (s.hlth.logged entry).pwrGood = s.hlth.pwrGood := ⟨rfl, h, rfl⟩
  rw [← hhlth] at hfacts
  unfold State.laterTrigger
  extract_lets u
  have hu : Goes [.freeCtr, .hlth, .keep] s u := .step .refl hgoes (by decide)
  have hf : u.hlth.logSeq = s.hlth.logSeq + 1 ∧ u.hlth.bindingOff = true ∧ u.hlth.pwrGood = s.hlth.pwrGood := hfacts
  clear_value u
  split
  · extract_lets add
    refine ⟨.keep hu (by decide) ?_, hf⟩
    unfold StoreSt.putSlot
    split <;> exact ⟨Nat.le_refl _, Nat.le_refl _⟩
  · exact ⟨hu, hf⟩

theorem get_lt (s : State) (f : Field) (i j : Nat) : s.get f i j < 2 ^ f.w := Nat.mod_lt _ (Nat.two_pow_pos _)

theorem bindoffLimit_stops {s : State} {vcap ms : BitVec 16} (h : s.hlth.committing = true) :
    Does (.bindoffLimit vcap ms) s [.csr, .mem, .poison, .freeCtr, .timeFrac, .intc, .myk, .hostq, .sched, .skein, .memst, .pmon,
        .hlth, .bed, .stch, .purl, .ciph, .xport, .fab, .time, .grp, .pho, .boot, .ctl, .keep, .rerun, .line] (fun t =>
      t.hlth.committing = false ∧ t.hlth.pwrGood = false ∧ t.keep = { s.keep with lastReport := 0x1008 } ∧
          t.get TOP_STATE.CAST_PHASE = 0 ∧
      t.get HLTH_LAST_BINDOFF.DURATION_MS = min ms.toNat 100 ∧ t.get HLTH_LAST_BINDOFF.VCAP_END_MV = vcap.toNat ∧
          t.get HLTH_LAST_BINDOFF.REASON = s.get HLTH_LAST_BINDOFF.REASON) := by
  have hexec : exec (.bindoffLimit vcap ms) s = .next ((s.lastReport 0x1008).bindStopped (s.get HLTH_LAST_BINDOFF.REASON) ms.toNat
    (s.get HLTH_LAST_BINDOFF.IMAGE_MIB) vcap.toNat) := if_pos h
  have hlast : (s.lastReport 0x1008).keep = { s.keep with lastReport := 0x1008 } := rfl
  have hgoes : Goes [.keep] s (s.lastReport 0x1008) := lastReport_goes
  generalize s.lastReport 0x1008 = u at hexec hlast hgoes
  have hstop := bindStopped_stopped (s := u) (ms := ms.toNat) (get_lt s HLTH_LAST_BINDOFF.REASON 0 0) (get_lt s HLTH_LAST_BINDOFF.IMAGE_MIB 0 0)
    vcap.isLt
  exact .of_goes hexec (.step (.step .refl hgoes (by decide)) bindStopped_goes (by decide)) ⟨hstop.committing, hstop.pwrGood,
    hstop.keep.trans hlast, hstop.phase, hstop.duration, hstop.vcap, hstop.reason⟩

/-- The health state in which the input has returned. -/
def HlthSt.returned (h : HlthSt) : HlthSt := { h with bindingOff := false, savedSlot := none, pwrGood := true, chargeLate := false }

theorem castBegun_vin (s : State) : s.castBegun.get HLTH_INPUT.VIN_MV = s.get HLTH_INPUT.VIN_MV := by
  unfold State.castBegun
  rw [(loadPlans_otherRegs _).get (by decide), State.addWrap, get_set_far _ _ _ _ (by decide), get_set_far _ _ _ _ (by decide)]

/-- The return of the input begins cast-on (R487). -/
theorem inputRestart_begins {s : State} {vin : BitVec 16}
    (h : s.hlth.bindingOff = true ∧ s.hlth.committing = false ∧ s.hlth.resetHigh = true ∧ s.hlth.castCut = false) :
    Does (.inputRestart vin) s resetParts (fun t =>
      t.hlth.bindingOff = false ∧ t.hlth.pwrGood = true ∧ t.get HLTH_INPUT.VIN_MV = vin.toNat ∧ t.get TOP_STATE.CAST_PHASE = 1 ∧
        t.time = State.reset.time) := by
  obtain ⟨hbind, hcommit, hhigh, hcut⟩ := h
  have hexec : exec (.inputRestart vin) s =
      .next ((((s.withHlth s.hlth.returned).moduleReset []).set HLTH_INPUT.VIN_MV vin.toNat).holdupUpdate).castTry :=
    if_pos (show (s.hlth.bindingOff && !s.hlth.committing) = true by simp [hbind, hcommit])
  have hgoes : Goes resetParts s ((s.withHlth s.hlth.returned).moduleReset []) :=
    .step (.hlth .refl (by decide)) moduleReset_goes (by decide)
  obtain ⟨-, hb, -, hp, hh, hc⟩ := moduleReset_hlth_kept (s.withHlth s.hlth.returned) []
  have hphase := moduleReset_castPhase (s.withHlth s.hlth.returned)
  have htime := (moduleReset_anew (s.withHlth s.hlth.returned) []).time
  generalize (s.withHlth s.hlth.returned).moduleReset [] = u at hexec hgoes hb hp hh hc hphase htime
  have hlast : Goes [.csr] u (u.set HLTH_INPUT.VIN_MV vin.toNat).holdupUpdate :=
    .step (.step .refl set_goes (by decide)) holdupUpdate_goes (by decide)
  have hstatus := holdupUpdate_otherRegs (u.set HLTH_INPUT.VIN_MV vin.toNat)
  have hvin : (u.set HLTH_INPUT.VIN_MV vin.toNat).holdupUpdate.get HLTH_INPUT.VIN_MV = vin.toNat := by
    rw [hstatus.get (by decide), get_set_fits _ _ _ _ _ ⟨by decide, vin.isLt⟩]
  have hphase' : (u.set HLTH_INPUT.VIN_MV vin.toNat).holdupUpdate.get TOP_STATE.CAST_PHASE = 0 := by
    rw [hstatus.get (by decide), get_set_far _ _ _ _ (by decide), hphase]
  have hhlth : (u.set HLTH_INPUT.VIN_MV vin.toNat).holdupUpdate.hlth = u.hlth := hlast.only .hlth rfl
  have htime' : (u.set HLTH_INPUT.VIN_MV vin.toNat).holdupUpdate.time = State.reset.time := (hlast.only .time rfl).trans htime
  generalize (u.set HLTH_INPUT.VIN_MV vin.toNat).holdupUpdate = v at hexec hlast hvin hphase' hhlth htime'
  rw [← hhlth] at hb hp hh hc
  rw [castTry_starts ⟨hp, hh.trans hhigh, hb⟩ hphase', castStart_uncut (hc.trans hcut)] at hexec
  have hbegun := castBegun_goes v
  refine .of_goes hexec (.step (.step .refl (.step hgoes hlast (by decide)) (by decide)) hbegun (by decide))
    ⟨?_, ?_, (castBegun_vin v).trans hvin, castBegun_phase v, (hbegun.only .time rfl).trans htime'⟩
  · rw [castBegun_hlth]
    exact hb
  · rw [castBegun_hlth]
    exact hp

theorem inputRestart_measures {s : State} {vin : BitVec 16} (h : s.hlth.bindingOff = false ∨ s.hlth.committing = true) :
    Does (.inputRestart vin) s [.csr] (fun t =>
      t.get HLTH_INPUT.VIN_MV = vin.toNat ∧ OtherRegs [HLTH_INPUT.addr 0 0] s t) := by
  have hexec : exec (.inputRestart vin) s = .next (s.set HLTH_INPUT.VIN_MV vin.toNat) :=
    if_neg (show ¬(s.hlth.bindingOff && !s.hlth.committing) = true by rcases h with h | h <;> simp [h])
  exact .of_goes hexec set_goes ⟨get_set_fits _ _ _ _ _ ⟨by decide, vin.isLt⟩, .set s HLTH_INPUT.VIN_MV _ (by decide)⟩

/-- Settles O57: the input, the hold-up capacitor and the power cap are reported as measured, and a bind-off saves the critical state
into the older slot, or nothing. -/
theorem inputAndBindOff : Obligations.InputAndBindOff := by
  unfold Obligations.InputAndBindOff
  refine ⟨fun s vin iin h => inputWarn_begins s vin iin h, fun s vin iin h => inputWarn_again s vin iin h,
    fun s vin iin h => inputWarnClear_ends s vin iin h, fun s vin iin => inputSurge_reports s vin iin,
    fun s uf vcap h => holdupCharge_enough s uf vcap h, fun s uf vcap h => holdupCharge_tooLittle s uf vcap h,
    fun s vcap => holdupCharge_late s vcap, fun s pin h => powerCap_holds s pin h, fun s pin => powerCap_releases s pin, ?_, ?_, ?_, ?_,
    ?_, fun s vcap ms h => bindoffLimit_stops h, fun s vin h => inputRestart_begins h, fun s vin h => inputRestart_measures h⟩
  · intro s cause x i h
    rw [← inputReason_eq]
    exact .of_goes rfl bindOff_goes (bindOff_commits (inputReason_lt cause) h)
  · intro s x i h
    exact .of_goes rfl bindOff_goes (bindOff_waits (by decide) h)
  · intro s cause x h
    exact .of_goes rfl bindOff_goes (bindOff_savesNothing (inputReason_lt cause) h)
  · intro s cause x h
    have hexec : exec (.bindoffTrigger cause x) s = .next s := by
      show Host.Outcome.next (s.bindOff (inputReason cause) x) = _
      unfold State.bindOff
      rw [h.1, h.2]
      rfl
    exact .of_goes hexec .refl rfl
  · intro s x h
    have hexec : exec (.thermalTrip x) s = .next (s.laterTrigger 0x1006) := congrArg _ (if_pos h)
    obtain ⟨hgoes, hfacts⟩ := laterTrigger_logs h 0x1006
    exact .of_goes hexec (.step .refl hgoes (by decide)) hfacts

end Sys2Proof.Machine

namespace Sys2Proof.Machine
open Csr

/-! ## A spare column (R115) -/

section
variable (s : State)

theorem bedCap_otherRegs : OtherRegs [BED_CAP.addr 0 0] s s.bedCap := by
  unfold State.bedCap
  extract_lets u
  have hu : OtherRegs [BED_CAP.addr 0 0] s u :=
    (OtherRegs.set s BED_CAP.ACTIVE_COLUMNS _ (by decide)).andSet (f := BED_CAP.IN_SERVICE) (by decide)
  clear_value u
  exact (hu.andSet (f := BED_CAP.SPARE_FREE) (by decide)).andSet (f := BED_CAP.CHECK_COVER) (by decide)

/-- The state in which a group's spare column is in a column's place. -/
def State.columnSpared (s : State) (g c : Nat) : State :=
  ((((s.set BED_GROUP_MAP.SUBST_VALID 1 g).set BED_GROUP_MAP.SUBST_COLUMN c g).bedCap).report 0x0B08).raise BED_INT_STATUS.SUBSTITUTED

theorem columnSpared_goes (g c : Nat) : Goes [.csr, .out, .intc] s (s.columnSpared g c) :=
  .step (.step (.step (.step (.step .refl set_goes (by decide)) set_goes (by decide)) bedCap_goes (by decide)) report_goes (by decide))
    raise_goes (by decide)

theorem groupMap_ne_cap {g : Nat} (hg : g < 8) : BED_GROUP_MAP.addr g 0 ∉ [BED_CAP.addr 0 0] := by
  rw [List.mem_singleton]
  exact Reg.addr_ne_of_apartFor (n := 8) (n' := 1) (by decide) hg (by decide)

variable {s} in
theorem columnSpared_effect {g c : Nat} (hg : g < 8) (hc : c < 2 ^ 6) : let t := s.columnSpared g c
    t.on BED_GROUP_MAP.SUBST_VALID g = true ∧ t.get BED_GROUP_MAP.SUBST_COLUMN g = c ∧ t.on BED_INT_STATUS.SUBSTITUTED = true ∧
      Sent s t (.report 0x0B08) := by
  have hcol : ((s.set BED_GROUP_MAP.SUBST_VALID 1 g).set BED_GROUP_MAP.SUBST_COLUMN c g).get BED_GROUP_MAP.SUBST_COLUMN g = c :=
    get_set_fits _ _ _ _ _ ⟨by decide, hc⟩
  have hvalid : ((s.set BED_GROUP_MAP.SUBST_VALID 1 g).set BED_GROUP_MAP.SUBST_COLUMN c g).get BED_GROUP_MAP.SUBST_VALID g = 1 := by
    rw [get_set_beside _ _ _ _ _ _ (by decide), get_set_fits _ _ _ _ _ (by decide)]
  have hout : s.out <+: ((s.set BED_GROUP_MAP.SUBST_VALID 1 g).set BED_GROUP_MAP.SUBST_COLUMN c g).out := by
    rw [State.set_out, State.set_out]
  unfold State.columnSpared
  generalize (s.set BED_GROUP_MAP.SUBST_VALID 1 g).set BED_GROUP_MAP.SUBST_COLUMN c g = u at hcol hvalid hout
  have hcap := bedCap_otherRegs u
  have hout' : s.out <+: u.bedCap.out := hout.trans bedCap_goes.out
  have hcol' := (hcap.get (f := BED_GROUP_MAP.SUBST_COLUMN) (groupMap_ne_cap hg)).trans hcol
  have hvalid' := (hcap.get (f := BED_GROUP_MAP.SUBST_VALID) (groupMap_ne_cap hg)).trans hvalid
  generalize u.bedCap = v at hout' hcol' hvalid'
  have hreport : ∀ f i, (v.report 0x0B08).get f i = v.get f i := fun _ _ => rfl
  have hfar : BED_INT_STATUS.addr 0 0 ≠ BED_GROUP_MAP.addr g 0 :=
    Reg.addr_ne_of_apartFor (n := 1) (n' := 8) (by decide) (by decide) hg
  have hsent : Sent s (v.report 0x0B08) (.report 0x0B08) := sent_report _ hout'
  refine ⟨?_, ?_, ?_, hsent.of_goes raise_goes⟩
  · unfold State.on
    rw [raise_get, get_set_far _ _ _ _ hfar, hreport, hvalid']
    rfl
  · rw [raise_get, get_set_far _ _ _ _ hfar, hreport, hcol']
  · unfold State.on
    rw [raise_get, get_set_fits _ _ _ _ _ (by decide)]
    rfl

theorem bedSpareGone_of {s t : State} {l : List Nat} {g : Nat} (h : OtherRegs l s t) (hl : BED_GROUP_MAP.addr g 0 ∉ l)
    (hb : t.boot = s.boot) : t.bedSpareGone g = s.bedSpareGone g := by
  unfold State.bedSpareGone State.on
  rw [h.get (f := BED_GROUP_MAP.SUBST_VALID) hl, hb]

/-- A bed state with a request for a spare column, or without. -/
def State.asking (s : State) (r : Option (Nat × Nat)) : State := { s with bed := { s.bed with substReq := r } }

theorem asking_otherRegs (r : Option (Nat × Nat)) : OtherRegs [] s (s.asking r) := .of_csr rfl

theorem asking_goes (r : Option (Nat × Nat)) : Goes [.bed] s (s.asking r) := .bed .refl (by decide)

variable {s} in
theorem bedSubst_asks {g c : Nat} (hfree : s.bedSpareGone g = false) (hnone : s.bed.substReq.any (fun r => r.1 == g) = false) :
    s.bedSubst g c = .ok (s.asking (some (g, c))) := by
  unfold State.bedSubst
  rw [hfree, hnone]
  rfl

variable {s} in
theorem bedBoundary_spares {g c : Nat} (hfree : s.bedSpareGone g = false) :
    (s.asking (some (g, c))).bedBoundary = (s.asking none).columnSpared g c := by
  have hfree' : (s.asking none).bedSpareGone g = false := hfree
  show (if (s.asking none).bedSpareGone g then _ else _) = _
  rw [hfree']
  rfl

end

/-! ## BED_SUBST -/

theorem fieldOf_lt (f : Field) (n : Nat) : f.of n < 2 ^ f.w := Nat.mod_lt _ (Nat.two_pow_pos _)

theorem bedWrite_go {s : State} {w : Word} (hgo : BED_SUBST.GO.of w.toNat = 1) {g c : Nat} (hg : BED_SUBST.GROUP.of w.toNat = g)
    (hc : BED_SUBST.COLUMN.of w.toNat = c) (hfree : s.bedSpareGone g = false)
    (hnone : s.bed.substReq.any (fun r => r.1 == g) = false) : s.bedWrite ⟨BED_SUBST, 0, 0, 11⟩ w.toNat =
      ⟨if s.blockBusy 11 then s.asking (some (g, c)) else (s.asking none).columnSpared g c, 0, false⟩ := by
  unfold State.bedWrite
  rw [if_pos ⟨rfl, hgo⟩, hg, hc, bedSubst_asks hfree hnone]
  show (⟨if s.blockBusy 11 then s.asking (some (g, c)) else (s.asking (some (g, c))).bedBoundary, 0, false⟩ : Wr) = _
  rw [bedBoundary_spares hfree]

theorem bedWrite_gone {s : State} {w : Word} (hgo : BED_SUBST.GO.of w.toNat = 1) (hgone : s.bedSpareGone (BED_SUBST.GROUP.of w.toNat) = true) :
    s.bedWrite ⟨BED_SUBST, 0, 0, 11⟩ w.toNat = ⟨s.set BED_ERR_LOG.REASON 0x0B09, 0x0B09, false⟩ := by
  unfold State.bedWrite State.bedSubst
  rw [if_pos ⟨rfl, hgo⟩, hgone]
  rfl

section
variable {s : State} {m : Master} {tag : BitVec 10} {v w : Word} (hf : forced v [(BED_SUBST.GO, 1)] = w) (hw : Writable s m BED_SUBST 0 w)
include hf hw

theorem bedSubst_spares {g c : Nat} (hg : BED_SUBST.GROUP.of w.toNat = g) (hc : BED_SUBST.COLUMN.of w.toNat = c)
    (h : s.bedSpareGone g = false ∧ s.bed.substReq.any (fun r => r.1 == g) = false ∧ s.blockBusy 11 = false) :
    Does (.bedSubst m tag v) s [.csr, .out, .intc, .bed] (fun t =>
      t.on BED_GROUP_MAP.SUBST_VALID g = true ∧ t.get BED_GROUP_MAP.SUBST_COLUMN g = c ∧ t.bed.substReq = none ∧
      t.on BED_INT_STATUS.SUBSTITUTED = true ∧ Sent s t (.report 0x0B08) ∧ Answered t m tag.toNat 0 0 []) := by
  obtain ⟨hfree, hnone, hbusy⟩ := h
  have hgo : BED_SUBST.GO.of w.toNat = 1 := hf ▸ of_forced v _ 1 (by decide)
  have hg8 : g < 8 := hg ▸ fieldOf_lt _ _
  have hc64 : c < 2 ^ 6 := hc ▸ fieldOf_lt _ _
  have hfree' : (s.written BED_SUBST 0 11 w).bedSpareGone g = false := by
    rw [bedSpareGone_of (written_otherRegs s (List.mem_singleton.mpr rfl)) (by
      rw [List.mem_singleton]
      exact Reg.addr_ne_of_apartFor (n := 8) (n' := 1) (by decide) hg8 (by decide)) rfl, hfree]
  have hwrite := bedWrite_go (s := s.written BED_SUBST 0 11 w) hgo hg hc hfree' hnone
  have hbusy' : (s.written BED_SUBST 0 11 w).blockBusy 11 = false := hbusy
  rw [hbusy', if_neg (by decide)] at hwrite
  have hout : s.out <+: ((s.written BED_SUBST 0 11 w).asking none).out := List.prefix_refl _
  have hask := asking_goes (s.written BED_SUBST 0 11 w) none
  have hreq : ((s.written BED_SUBST 0 11 w).asking none).bed.substReq = none := rfl
  generalize (s.written BED_SUBST 0 11 w).asking none = u at hwrite hout hask hreq
  obtain ⟨hvalid, hcol, hint, hsent⟩ := columnSpared_effect (s := u) hg8 hc64
  have hgoes := columnSpared_goes u g c
  refine does_write 11 (k := [.csr, .out, .intc, .bed]) rfl hf (by decide) (by decide) hw hwrite (.step (.step .refl hask (by decide)) hgoes (by decide)) (by decide)
    ⟨?_, ?_, ?_, ?_, (hsent.after hout).of_goes (answered_goes _ _ _ _ _), answered_answers _ _ _ _ _⟩
  · rw [answered_on, hvalid]
  · rw [answered_get, hcol]
  · rw [answered_bed, hgoes.only .bed rfl, hreq]
  · rw [answered_on, hint]

theorem bedSubst_waits {g c : Nat} (hg : BED_SUBST.GROUP.of w.toNat = g) (hc : BED_SUBST.COLUMN.of w.toNat = c)
    (h : s.bedSpareGone g = false ∧ s.bed.substReq.any (fun r => r.1 == g) = false ∧ s.blockBusy 11 = true) :
    Does (.bedSubst m tag v) s [.csr, .out, .intc, .bed] (fun t =>
      t.bed.substReq = some (g, c) ∧ OtherRegs [BED_SUBST.addr 0 0] s t ∧ Answered t m tag.toNat 0 0 []) := by
  obtain ⟨hfree, hnone, hbusy⟩ := h
  have hgo : BED_SUBST.GO.of w.toNat = 1 := hf ▸ of_forced v _ 1 (by decide)
  have hg8 : g < 8 := hg ▸ fieldOf_lt _ _
  have hregs : OtherRegs [BED_SUBST.addr 0 0] s (s.written BED_SUBST 0 11 w) := written_otherRegs s (List.mem_singleton.mpr rfl)
  have hfree' : (s.written BED_SUBST 0 11 w).bedSpareGone g = false := by
    rw [bedSpareGone_of hregs (by
      rw [List.mem_singleton]
      exact Reg.addr_ne_of_apartFor (n := 8) (n' := 1) (by decide) hg8 (by decide)) rfl, hfree]
  have hwrite := bedWrite_go (s := s.written BED_SUBST 0 11 w) hgo hg hc hfree' hnone
  have hbusy' : (s.written BED_SUBST 0 11 w).blockBusy 11 = true := hbusy
  rw [hbusy', if_pos rfl] at hwrite
  refine does_write 11 rfl hf (by decide) (by decide) hw hwrite (asking_goes _ _) (by decide)
    ⟨?_, answered_otherRegs _ _ _ _ _ (hregs.andCsr rfl), answered_answers _ _ _ _ _⟩
  rw [answered_bed]
  rfl

theorem bedSubst_refused (h : s.bedSpareGone (BED_SUBST.GROUP.of w.toNat) = true) :
    Does (.bedSubst m tag v) s [.csr, .out, .intc] (fun t =>
      t.get BED_ERR_LOG.REASON = 0x0B09 ∧ t.get BED_GROUP_MAP.SUBST_COLUMN (BED_SUBST.GROUP.of w.toNat) = s.get
          BED_GROUP_MAP.SUBST_COLUMN (BED_SUBST.GROUP.of w.toNat) ∧ Answered t m tag.toNat 1 0x0B09 []) := by
  have hgo : BED_SUBST.GO.of w.toNat = 1 := hf ▸ of_forced v _ 1 (by decide)
  have hg8 : BED_SUBST.GROUP.of w.toNat < 8 := fieldOf_lt _ _
  have hfar : BED_GROUP_MAP.addr (BED_SUBST.GROUP.of w.toNat) 0 ∉ [BED_SUBST.addr 0 0] := by
    rw [List.mem_singleton]
    exact Reg.addr_ne_of_apartFor (n := 8) (n' := 1) (by decide) hg8 (by decide)
  have hregs : OtherRegs [BED_SUBST.addr 0 0] s (s.written BED_SUBST 0 11 w) := written_otherRegs s (List.mem_singleton.mpr rfl)
  have hgone : (s.written BED_SUBST 0 11 w).bedSpareGone (BED_SUBST.GROUP.of w.toNat) = true := by
    rw [bedSpareGone_of hregs hfar rfl, h]
  refine does_write_refused 11 rfl hf (by decide) (by decide) hw (by decide) (bedWrite_gone hgo hgone)
    (.step (.step .refl written_goes (by decide)) set_goes (l := [.csr]) (by decide)) (by decide) ⟨?_, ?_, answered_answers _ _ _ _ _⟩
  · rw [answered_get, get_set_fits _ _ _ _ _ (by decide)]
  · rw [answered_get, get_set_far _ _ _ _ (Reg.addr_ne_of_apartFor (n := 1) (n' := 8) (by decide) (by decide) hg8), hregs.get hfar]

end

end Sys2Proof.Machine

namespace Sys2Proof.Machine
open Csr

/-! ## What the work after a quarantine leaves of the spares (R130, R133) -/

/-- The fields of STCH that say where its spares are, and that one was put in place. -/
def Field.ofSpares (f : Field) : Bool :=
  decide (f.reg = STCH_PANEL_MAP) || f == STCH_CAP.SPARE_FREE || f == STCH_INT_STATUS.SUBSTITUTED

/-- The spare clusters stay where they are. -/
def SparesStay (s t : State) : Prop := ∀ f : Field, ∀ i < 3, f.ofSpares = true → t.get f i = s.get f i

/-- No address of a list is one of STCH's spares. -/
def Spareless (l : List Nat) : Prop := ∀ a ∈ l, a / 0x100000 ≠ 12 ∨ a ∈ [STCH_SLOT_STATUS.addr 0 0, STCH_STATUS.addr 0 0, STCH_NOTICE_PTR.addr 0 0]

/-- A field of a register that has one element reads the same at each index. -/
theorem get_single {f : Field} (h : f.reg.s1 = 0) (hw : ∀ i, f.reg.resetWord i 0 = f.reg.resetWord 0 0) (t : State) (i : Nat) :
    t.get f i = t.get f := by
  unfold State.get State.rdReg Reg.addr
  rw [h, Nat.mul_zero, Nat.zero_mul, hw]

theorem ofSpares_cases {f : Field} (h : f.ofSpares = true) :
    f.reg = STCH_PANEL_MAP ∨ f = STCH_CAP.SPARE_FREE ∨ f = STCH_INT_STATUS.SUBSTITUTED := by
  unfold Field.ofSpares at h
  rwa [Bool.or_eq_true, Bool.or_eq_true, decide_eq_true_eq, beq_iff_eq, beq_iff_eq, or_assoc] at h

theorem ofSpares_reg {f : Field} (h : f.ofSpares = true) : f.reg = STCH_PANEL_MAP ∨ f.reg = STCH_CAP ∨ f.reg = STCH_INT_STATUS := by
  rcases ofSpares_cases h with h | rfl | rfl
  · exact .inl h
  · exact .inr (.inl rfl)
  · exact .inr (.inr rfl)

/-- The registers of the spares lie in STCH's block, apart from those of its slots and its notices. -/
theorem ofSpares_addr {f : Field} {i : Nat} (hi : i < 3) (h : f.ofSpares = true) : f.reg.addr i 0 / 0x100000 = 12 ∧
    f.reg.addr i 0 ∉ [STCH_SLOT_STATUS.addr 0 0, STCH_STATUS.addr 0 0, STCH_NOTICE_PTR.addr 0 0] := by
  rcases ofSpares_reg h with h | h | h <;> rw [h] <;> interval_cases i <;> decide

namespace SparesStay

variable {s t u : State}

theorem refl : SparesStay s s := fun _ _ _ _ => rfl

theorem trans (h : SparesStay s t) (k : SparesStay t u) : SparesStay s u := fun f i hi hf => (k f i hi hf).trans (h f i hi hf)

theorem of_otherRegs {l : List Nat} (h : OtherRegs l s t) (hl : Spareless l) : SparesStay s t := fun f i hi hf => by
  obtain ⟨hblock, hslots⟩ := ofSpares_addr hi hf
  refine h.get (fun hmem => ?_)
  rcases hl _ hmem with h | h
  · exact h hblock
  · exact hslots h

theorem of_goes {k : List Part} (g : Goes k s t) (hk : k.contains .csr = false) : SparesStay s t := fun f i _ _ => get_congr (g.only .csr hk) f i 0

theorem foldl {β : Type} {f : State → β → State} {l : List β} (h : ∀ x, ∀ b ∈ l, SparesStay x (f x b)) : SparesStay s (l.foldl f s) := by
  induction l generalizing s with
  | nil => exact refl
  | cons b l ih => exact (h s b List.mem_cons_self).trans (ih fun x y hy => h x y (List.mem_cons_of_mem _ hy))

end SparesStay

theorem spareless_health : Spareless healthRegs := by unfold Spareless; decide

theorem spareless_myk : Spareless (TOP_MYK_COUNT.addr 0 0 :: blockRegs 15) := by
  intro a ha
  rw [List.mem_cons, mem_blockRegs] at ha
  rcases ha with rfl | ha
  · exact .inl (by decide)
  · exact .inl (by omega)

theorem spareless_slots : Spareless [STCH_SLOT_STATUS.addr 0 0, STCH_STATUS.addr 0 0] := by unfold Spareless; decide

section
variable (s : State)

theorem store_otherRegs (a : Nat) (b : Bytes) : OtherRegs [TOP_MYK_COUNT.addr 0 0] s (s.store a b) := by
  unfold State.store
  split
  · exact hostWrite_otherRegs s a b
  · exact .of_csr rfl

theorem engineWrite_spares (block cls a : Nat) (b : Bytes) : SparesStay s (s.engineWrite block cls a b) := by
  unfold State.engineWrite
  exact .of_otherRegs (.andMemEvent ((store_otherRegs s a b).mono (by simp)) (List.subset_cons_self _ _)) spareless_myk

theorem putSlot_otherRegs (x : Slot) : OtherRegs [STCH_SLOT_STATUS.addr 0 0, STCH_STATUS.addr 0 0] s (s.putSlot x) := by
  unfold State.putSlot
  extract_lets slots src s1 n
  have h1 : OtherRegs [STCH_SLOT_STATUS.addr 0 0, STCH_STATUS.addr 0 0] s s1 := .of_csr rfl
  exact .andSet (.andSet (.andSet h1 (by decide)) (by decide)) (by decide)

theorem restartSlot_spares (onSpare : Bool) (x : Slot) : SparesStay s (s.restartSlot onSpare x) := by
  unfold State.restartSlot
  extract_lets c y u cls
  have hu : SparesStay s u := .of_otherRegs (putSlot_otherRegs _ _) spareless_slots
  clear_value u
  split
  · exact hu.trans (engineWrite_spares _ _ _ _ _)
  · exact hu

variable {j : Nat} (hj : j < 128)
include hj

theorem saveRec_spares (r : StepRec) : SparesStay s (s.saveRec j r) := fun f i hi hf => by
  obtain ⟨hblock, -⟩ := ofSpares_addr hi hf
  have hjob : JOB_STATUS.addr j 0 / 0x100000 = 9 := Reg.addr_block (by decide) hj (by decide)
  refine saveRec_keeps hj ?_ ⟨by omega, by omega⟩
  simp only [List.mem_cons, List.not_mem_nil, or_false, not_or]
  refine ⟨fun h => ?_, fun h => ?_, fun h => ?_⟩
  · rw [h] at hblock
    omega
  · rw [h] at hblock
    revert hblock
    decide
  · rw [h] at hblock
    revert hblock
    decide

theorem enter_spares (st : Nat) (r : StepRec) : SparesStay s (s.enter j st r) := by
  unfold State.enter
  exact saveRec_spares s hj _

theorem unrecoverable_spares (reason : Nat) : SparesStay s (s.unrecoverable j reason) := by
  have hreport : SparesStay s (s.report reason) := .of_goes report_goes (by decide)
  unfold State.unrecoverable State.stepReason
  dsimp only
  exact hreport.trans (enter_spares (s.report reason) hj 0x1F _)

theorem hold_spares (r : StepRec) : SparesStay s (s.hold j r) := by
  unfold State.hold
  split
  · exact saveRec_spares s hj _
  · exact enter_spares s hj _ _

omit hj in
theorem dropSlots_spares (job step round : Nat) : SparesStay s (s.dropSlots job step round) := by
  unfold State.dropSlots
  extract_lets keep src u n
  have hu : OtherRegs [STCH_SLOT_STATUS.addr 0 0, STCH_STATUS.addr 0 0] s u := .of_csr rfl
  exact .of_otherRegs (.andSet (.andSet hu (by decide)) (by decide)) spareless_slots

theorem launchFrog_spares (round : Nat) (r : StepRec) : SparesStay s (s.launchFrog j round r) := by
  unfold State.launchFrog
  extract_lets u mine src v
  have hu : SparesStay s u := dropSlots_spares s _ _ _
  have hv : SparesStay u v := .of_otherRegs (l := []) (.of_csr rfl) (by simp [Spareless])
  clear_value v
  exact (hu.trans hv).trans (enter_spares _ hj _ _)

theorem noticeToStep_spares (step round reason : Nat) : SparesStay s (s.noticeToStep j step round reason) := by
  unfold State.noticeToStep
  extract_lets r base
  split
  · split
    · exact .refl
    · exact unrecoverable_spares s hj _
  split
  · exact .refl
  split
  · exact unrecoverable_spares s hj _
  split
  · exact unrecoverable_spares s hj _
  split
  · have hreport : SparesStay s (s.report reason) := .of_goes report_goes (by decide)
    exact hreport.trans (hold_spares _ hj _)
  split
  · exact .refl
  · exact launchFrog_spares s hj _ _

omit hj in
/-- A notice that joins the ring raises its own bits of the status alone. -/
theorem raiseNotice_spares (f : Field) (hf : f = STCH_INT_STATUS.NOTICE ∨ f = STCH_INT_STATUS.NOTICE_OVERFLOW) :
    SparesStay s (s.raise f) := fun g i hi hg => by
  rw [raise_get]
  rcases ofSpares_cases hg with h | rfl | rfl
  · refine get_set_far _ _ _ _ ?_
    rcases hf with rfl | rfl <;> rw [h] <;> interval_cases i <;> decide
  · refine get_set_far _ _ _ _ ?_
    rcases hf with rfl | rfl <;> interval_cases i <;> decide
  · rw [get_single rfl (fun _ => rfl), get_single rfl (fun _ => rfl)]
    rcases hf with rfl | rfl <;> exact get_set_beside _ _ _ _ _ _ (by decide)

omit hj in
theorem noticeRing_spares (b : Bytes) : SparesStay s (s.noticeRing b) := by
  have hptr : Spareless [STCH_NOTICE_PTR.addr 0 0, TOP_MYK_COUNT.addr 0 0] := by unfold Spareless; decide
  unfold State.noticeRing
  extract_lets size wr
  split
  · have hset : OtherRegs [STCH_NOTICE_PTR.addr 0 0, TOP_MYK_COUNT.addr 0 0] s (s.set STCH_NOTICE_PTR.OVERFLOW 1) :=
      .set s STCH_NOTICE_PTR.OVERFLOW 1 List.mem_cons_self
    exact (SparesStay.of_otherRegs hset hptr).trans (raiseNotice_spares _ _ (.inr rfl))
  · generalize hostBase + s.get STCH_NOTICE_BASE.ADDR * 64 + 64 * (wr % size) = a
    have hring : OtherRegs [STCH_NOTICE_PTR.addr 0 0, TOP_MYK_COUNT.addr 0 0] s (s.hostWrite a b) :=
      (hostWrite_otherRegs s a b).mono (by simp)
    have hset := hring.andSet (f := STCH_NOTICE_PTR.WR_PTR) (v := wr + 1) (i := 0) (j := 0) List.mem_cons_self
    exact (SparesStay.of_otherRegs hset hptr).trans (raiseNotice_spares _ _ (.inl rfl))

theorem issueNotice_spares (n : Notice) : SparesStay s (s.issueNotice j n) := by
  unfold State.issueNotice
  extract_lets seq b src u v
  have h1 : SparesStay s { s with stch := { s.stch with noticeSeq := seq } } := .of_otherRegs (l := []) (.of_csr rfl) (by simp [Spareless])
  have hu : SparesStay s u := (h1.trans (noticeRing_spares _ b)).trans (.of_goes report_goes (by decide))
  have hv : SparesStay u v := .foldl fun x m _ => .of_goes sendControl_goes (by decide)
  clear_value u v
  exact ((hu.trans hv).trans (.of_goes mirrorOther_goes (by decide))).trans (noticeToStep_spares _ hj _ _ _)

theorem noticeChunks_spares (n : Notice) (chunks : List Nat) : SparesStay s (s.noticeChunks j n chunks) := by
  unfold State.noticeChunks
  extract_lets ord rs
  split
  · exact issueNotice_spares s hj _
  · exact .foldl fun x r _ => issueNotice_spares x hj _

end

end Sys2Proof.Machine

namespace Sys2Proof.Machine
open Csr

/-! ## The gauges (R446) -/

theorem gaugeOf_lt {l : List (Nat × Nat × Nat × Nat)} {base b c g : Nat} (h : gaugeOf l base b c = some g) :
    g < base + (l.map (fun r => r.2.2.2)).sum := by
  induction l generalizing base with
  | nil => cases h
  | cons r l ih =>
    obtain ⟨b', c', p, n⟩ := r
    unfold gaugeOf at h
    rw [List.map_cons, List.sum_cons]
    split at h
    next hin =>
      cases h
      obtain ⟨-, hlo, hhi⟩ := hin
      show base + c - c' < base + (n + _)
      omega
    next =>
      have hl := ih h
      show g < base + (n + _)
      omega

section
variable (s : State)

theorem markQuarantined_outside (b c : Nat) (v : Bool) : OutsideBlock 16 s (s.markQuarantined b c v) := by
  unfold State.markQuarantined
  split
  · exact .refl
  · next g hg =>
    have hlt : g < 512 := (gaugeOf_lt hg).trans (by decide)
    exact .andSet .refl (Reg.addr_block (by decide) hlt (by decide))

theorem quarantineCount_outside {p : Nat} (hp : p < 3) (b c : Nat) : OutsideBlock 16 s (s.quarantineCount p b c) := by
  unfold State.quarantineCount
  extract_lets f u
  have hu : OutsideBlock 16 s u := .andSet .refl (Reg.addr_block (r := HLTH_PANEL_MARGIN) (by decide) hp (by decide))
  exact hu.trans (.of_csr rfl)

end

/-! ## A spare cluster takes the place of another (R133) -/

theorem SparesStay.of_outside {s t : State} {b : Nat} (h : OutsideBlock b s t) (hb : b ≠ 12) : SparesStay s t := fun f i hi hf =>
  h.get (by rw [(ofSpares_addr hi hf).1]; exact Ne.symm hb)

/-- A field beside the spares' is written and they stay. -/
theorem setBeside_spares {s : State} {g : Field} {v : Nat} (hr : g.reg = STCH_CAP) (hb : g.beside STCH_CAP.SPARE_FREE = true) :
    SparesStay s (s.set g v) := fun f i hi hf => by
  rcases ofSpares_cases hf with h | rfl | rfl
  · refine get_set_far _ _ _ _ ?_
    rw [hr, h]
    interval_cases i <;> decide
  · rw [get_single rfl (fun _ => rfl), get_single rfl (fun _ => rfl)]
    exact get_set_beside _ _ _ _ _ _ hb
  · refine get_set_far _ _ _ _ ?_
    rw [hr]
    interval_cases i <;> decide

section
variable (s : State)

theorem stchCap_spares : SparesStay s s.stchCap := by
  unfold State.stchCap
  extract_lets n
  exact (setBeside_spares rfl (by decide)).trans (setBeside_spares rfl (by decide))

/-- The state in which a cluster is in quarantine and its panel's spare in its place. -/
def State.spareIn (s : State) (c : Nat) : State :=
  let v := (s.markQuarantined 12 c true).set STCH_PANEL_MAP.QUARANTINED
    (setBit ((s.markQuarantined 12 c true).get STCH_PANEL_MAP.QUARANTINED (c / 16)) (c % 16) true) (c / 16)
  ((v.set STCH_PANEL_MAP.SPARE_FOR (c % 16) (c / 16)).set STCH_CAP.SPARE_FREE (setBit (v.get STCH_CAP.SPARE_FREE) (c / 16) false)).set
    STCH_PANEL_MAP.OUT_OF_SERVICE (setBit (v.get STCH_PANEL_MAP.OUT_OF_SERVICE (c / 16)) (c % 16) false) (c / 16)

variable {s} {c : Nat}

theorem stchQuarantine_spare (hc : c < 48) (hfree : (s.get STCH_CAP.SPARE_FREE).testBit (c / 16) = true) (hon : s.stchOnSpare c = false) :
    s.stchQuarantine c = (s.spareIn c, true) := by
  have hp : c / 16 < 3 := by omega
  have hfree' : ((s.markQuarantined 12 c true).set STCH_PANEL_MAP.QUARANTINED
      (setBit ((s.markQuarantined 12 c true).get STCH_PANEL_MAP.QUARANTINED (c / 16)) (c % 16) true) (c / 16)).get STCH_CAP.SPARE_FREE =
        s.get STCH_CAP.SPARE_FREE := by
    rw [get_set_far _ _ _ _ (Reg.addr_ne_of_apartFor (n := 3) (n' := 1) (by decide) hp (by decide)),
      (markQuarantined_outside _ _ _ _).get (by decide)]
  unfold State.stchQuarantine
  rw [show panelOf c = (c / 16, c % 16) from rfl, hon]
  simp only [Bool.false_eq_true, if_false, Bool.not_false, Bool.and_true, hfree', hfree, if_true]
  unfold State.spareIn
  dsimp only
  rw [hfree']

theorem spareIn_effect (hc : c < 48) : (s.spareIn c).get STCH_PANEL_MAP.SPARE_FOR (c / 16) = c % 16 ∧
    ((s.spareIn c).get STCH_CAP.SPARE_FREE).testBit (c / 16) = false ∧
    ((s.spareIn c).get STCH_PANEL_MAP.QUARANTINED (c / 16)).testBit (c % 16) = true := by
  have hp : c / 16 < 3 := by omega
  have hi : c % 16 < 16 := by omega
  unfold State.spareIn
  extract_lets v
  have hv : v.get STCH_PANEL_MAP.QUARANTINED (c / 16) =
      setBit ((s.markQuarantined 12 c true).get STCH_PANEL_MAP.QUARANTINED (c / 16)) (c % 16) true % 2 ^ 16 :=
    get_set_mod _ _ _ _ _ (by decide)
  clear_value v
  generalize c / 16 = p at hp hv ⊢
  generalize c % 16 = i at hi hv ⊢
  have hne : STCH_CAP.addr 0 0 ≠ STCH_PANEL_MAP.addr p 0 := Reg.addr_ne_of_apartFor (n := 1) (n' := 3) (by decide) (by decide) hp
  refine ⟨?_, ?_, ?_⟩
  · rw [get_set_beside _ _ _ _ _ _ (by decide), get_set_far _ _ _ _ hne, get_set_fits _ _ _ _ _ ⟨by decide, hi.trans (by decide)⟩]
  · rw [get_set_far _ _ _ _ (Ne.symm hne), get_set_mod _ _ _ _ _ (by decide), Nat.testBit_mod_two_pow, testBit_setBit_false, Bool.and_false]
  · rw [get_set_beside _ _ _ _ _ _ (by decide), get_set_far _ _ _ _ hne, get_set_beside _ _ _ _ _ _ (by decide), hv,
      Nat.testBit_mod_two_pow, testBit_setBit_self, decide_eq_true hi, Bool.and_true]

/-- A spare cluster has taken a cluster's place, and is reported. -/
structure SpareTaken (s t : State) (c : Nat) : Prop where
  place : t.get STCH_PANEL_MAP.SPARE_FOR (c / 16) = c % 16
  free : (t.get STCH_CAP.SPARE_FREE).testBit (c / 16) = false
  quarantined : (t.get STCH_PANEL_MAP.QUARANTINED (c / 16)).testBit (c % 16) = true
  substituted : t.on STCH_INT_STATUS.SUBSTITUTED = true
  sent : Sent s t (.report 0x0C08)

/-- What follows the quarantine and its report leaves the spare where it is. -/
theorem SpareTaken.of_stays {k : List Part} {u t : State} (hc : c < 48) (hu : SparesStay (s.spareIn c) u) (hout : s.out <+: u.out)
    (ht : SparesStay ((u.report 0x0C08).raise STCH_INT_STATUS.SUBSTITUTED) t)
    (hg : Goes k ((u.report 0x0C08).raise STCH_INT_STATUS.SUBSTITUTED) t) : SpareTaken s t c := by
  have hp : c / 16 < 3 := by omega
  obtain ⟨hplace, hfree, hquar⟩ := spareIn_effect (s := s) hc
  have hreport : ∀ f i, (u.report 0x0C08).get f i = u.get f i := fun _ _ => rfl
  have hmap : STCH_INT_STATUS.addr 0 0 ≠ STCH_PANEL_MAP.addr (c / 16) 0 :=
    Reg.addr_ne_of_apartFor (n := 1) (n' := 3) (by decide) (by decide) hp
  have hon : t.get STCH_INT_STATUS.SUBSTITUTED = 1 := by
    rw [ht _ 0 (by decide) (by decide), raise_get, get_set_fits _ _ _ _ _ (by decide)]
  have hsent : Sent s (u.report 0x0C08) (.report 0x0C08) := sent_report _ hout
  refine ⟨?_, ?_, ?_, ?_, (hsent.of_goes raise_goes).of_goes hg⟩
  · rw [ht _ _ hp (by decide), raise_get, get_set_far _ _ _ _ hmap, hreport, hu _ _ hp (by decide), hplace]
  · rw [ht _ 0 (by decide) (by decide), raise_get, get_set_far _ _ _ _ (by decide), hreport, hu _ 0 (by decide) (by decide), hfree]
  · rw [ht _ _ hp (by decide), raise_get, get_set_far _ _ _ _ hmap, hreport, hu _ _ hp (by decide), hquar]
  · unfold State.on
    rw [hon]
    rfl

/-- A cluster's quarantine puts its panel's free spare in its place. -/
theorem stchContain_spares (reason load : Nat) (f : StchFault) (w : Option Work) (hc : c < 48)
    (hfree : (s.get STCH_CAP.SPARE_FREE).testBit (c / 16) = true) (hon : s.stchOnSpare c = false) :
    SpareTaken s (s.stchContain c reason load f w) c := by
  have hp : c / 16 < 3 := by omega
  have hspare : Goes [.csr, .hlth] s (s.spareIn c) := by
    have h := Goes.fst (stchQuarantine_goes (s := s) (c := c))
    rw [stchQuarantine_spare hc hfree hon] at h
    exact .step .refl h (by decide)
  unfold State.stchContain
  extract_lets mine
  split
  next p i hpi =>
  extract_lets hw
  split
  next s1 spare hs1 =>
  rw [stchQuarantine_spare hc hfree hon] at hs1
  cases hs1
  cases hpi
  extract_lets s2 s3 s4 s5 sent
  have h2 : SparesStay (s.spareIn c) s2 := (stchCap_spares _).trans (.of_outside (quarantineCount_outside _ hp _ _) (by decide))
  have g2 : Goes [.csr, .hlth] (s.spareIn c) s2 := .step (.step .refl stchCap_goes (by decide)) quarantineCount_goes (by decide)
  have h3 : SparesStay s2 s3 := .of_otherRegs (health_otherRegs _ _) spareless_health
  have g3 : s2.out <+: s3.out := health_goes.out
  have h4 : s4 = (s3.report 0x0C08).raise STCH_INT_STATUS.SUBSTITUTED := rfl
  have h5 : SparesStay s4 s5 := .foldl fun x y _ => restartSlot_spares x _ _
  have g5 : Goes [.csr, .mem, .poison, .out, .intc, .myk, .stch] s4 s5 := .foldl .refl (fun x y h => .step h restartSlot_goes (by decide))
  clear_value s2 s3 s4 s5
  subst h4
  refine .of_stays hc (h2.trans h3) (hspare.out.trans (g2.out.trans g3)) (h5.trans (.foldl fun x y _ => ?_))
    (k := [.csr, .mem, .poison, .out, .freeCtr, .intc, .myk, .stch, .xport, .fab, .grp])
    (.foldl (.step .refl g5 (by decide)) fun x y h => ?_)
  · split
    · exact .refl
    · next j hj => exact noticeChunks_spares x (entryOf_lt hj) _ _
  · split
    · exact h
    · exact .step h noticeChunks_goes (by decide)

/-- A forced substitution puts a free spare in a cluster's place (R134). -/
theorem stchClusterFault_spares (reason : Nat) (f : StchFault) (w : Option Work) (hc : c < 48)
    (hfree : (s.get STCH_CAP.SPARE_FREE).testBit (c / 16) = true) (hon : s.stchOnSpare c = false) :
    SpareTaken s (s.stchClusterFault c reason f w) c := by
  obtain ⟨v, load, h⟩ := stchClusterFault_contains s c reason f w
  have hregs : OtherRegs stchLogRegs s ((s.stchMeasured c reason f w).set STCH_ERR_ENV.LOAD v) :=
    stchMeasured_otherRegs.andSet (by decide)
  have hout : s.out <+: ((s.stchMeasured c reason f w).set STCH_ERR_ENV.LOAD v).out := by
    rw [State.set_out]
    exact stchMeasured_goes.out
  rw [h]
  generalize (s.stchMeasured c reason f w).set STCH_ERR_ENV.LOAD v = u at hregs hout
  have hfree' : (u.get STCH_CAP.SPARE_FREE).testBit (c / 16) = true := by rwa [hregs.get (by decide)]
  have hmap : STCH_PANEL_MAP.addr (c / 16) 0 ∉ stchLogRegs := by
    have : c / 16 < 3 := by omega
    generalize c / 16 = p at this
    interval_cases p <;> decide
  have hon' : u.stchOnSpare c = false := by
    unfold State.stchOnSpare at hon ⊢
    rwa [hregs.get hmap]
  have ht := stchContain_spares reason load f w hc hfree' hon'
  exact ⟨ht.place, ht.free, ht.quarantined, ht.substituted, ht.sent.after hout⟩

end

end Sys2Proof.Machine

namespace Sys2Proof.Machine
open Csr

/-! ## STCH_SUBST (R133, R134, R451) -/

section
variable {s : State} {w : Word} {c : Nat} (hc : STCH_SUBST.CLUSTER.of w.toNat = c)
include hc

theorem stchWrite_go (hgo : STCH_SUBST.GO.of w.toNat = 1) (hno : STCH_SUBST.REQUAL.of w.toNat = 0) (h : c < 48)
    (hfree : (s.get STCH_CAP.SPARE_FREE).testBit (c / 16) = true) :
    s.stchWrite ⟨STCH_SUBST, 0, 0, 12⟩ w.toNat = ⟨s.stchClusterFault c 0x0C07 ⟨none, none, 0, 0xFF, false⟩ none, 0, false⟩ := by
  have hsubst : s.stchSubst c = .ok (s.stchClusterFault c 0x0C07 ⟨none, none, 0, 0xFF, false⟩ none) := by
    unfold State.stchSubst
    exact if_neg (by rw [show (panelOf c).1 = c / 16 from rfl, hfree]; simp [h])
  unfold State.stchWrite
  rw [if_pos rfl, if_pos hgo, hno, hc, hsubst, if_neg (by decide)]

theorem stchWrite_refused (hgo : STCH_SUBST.GO.of w.toNat = 1) (hno : STCH_SUBST.REQUAL.of w.toNat = 0)
    (h : 48 ≤ c ∨ (s.get STCH_CAP.SPARE_FREE).testBit (c / 16) = false) :
    s.stchWrite ⟨STCH_SUBST, 0, 0, 12⟩ w.toNat = ⟨s.stchSubstRefused c, 0x0C09, false⟩ := by
  have hsubst : s.stchSubst c = .error 0x0C09 := by
    unfold State.stchSubst
    exact if_pos (h.imp id fun h => by rw [show (panelOf c).1 = c / 16 from rfl, h]; rfl)
  unfold State.stchWrite
  rw [if_pos rfl, if_pos hgo, hno, hc, hsubst, if_neg (by decide)]

theorem stchWrite_requal (hgo : STCH_SUBST.GO.of w.toNat = 0) (hre : STCH_SUBST.REQUAL.of w.toNat = 1) :
    s.stchWrite ⟨STCH_SUBST, 0, 0, 12⟩ w.toNat =
      ⟨s.fresh.2.stchRequal c (s.fresh.1 % 2 == 1), if s.requalBarred 12 c then 0x1014 else 0, false⟩ := by
  unfold State.stchWrite
  rw [if_pos rfl, hgo, if_pos hre, hc]
  rfl

end

section
variable {s : State} {c : Nat}

/-- The state in which a requalified cluster's spare is free again. -/
def State.spareFreed (s : State) (c : Nat) : State :=
  let u := (s.markQuarantined 12 c false).set STCH_PANEL_MAP.QUARANTINED
    (setBit ((s.markQuarantined 12 c false).get STCH_PANEL_MAP.QUARANTINED (c / 16)) (c % 16) false) (c / 16)
  let v := if u.get STCH_PANEL_MAP.SPARE_FOR (c / 16) = c % 16 then u.set STCH_PANEL_MAP.SPARE_FOR 0x1F (c / 16) else u
  v.set STCH_CAP.SPARE_FREE (setBit (v.get STCH_CAP.SPARE_FREE) (c / 16) true)

theorem stchRequal_eq (hc : c < 48) (hq : (s.get STCH_PANEL_MAP.QUARANTINED (c / 16)).testBit (c % 16) = true)
    (hbar : s.requalBarred 12 c = false) (pass : Bool) : s.stchRequal c pass =
      if pass then s.spareFreed c else ((s.set STCH_ERR_LOG.REASON 0x0C07).set STCH_ERR_LOG.CLUSTER c).report 0x0C07 := by
  have hcount : ¬(s.hlth.quarantined.filter (· == (12, c))).length > 1 := of_decide_eq_false hbar
  unfold State.stchRequal
  rw [show panelOf c = (c / 16, c % 16) from rfl]
  dsimp only
  rw [hq, if_neg (by simp [hc]), if_neg hcount]
  cases pass <;> rfl

theorem spareFreed_effect (hc : c < 48) : let t := s.spareFreed c
    (t.get STCH_PANEL_MAP.QUARANTINED (c / 16)).testBit (c % 16) = false ∧ (t.get STCH_CAP.SPARE_FREE).testBit (c / 16) = true := by
  have hp : c / 16 < 3 := by omega
  unfold State.spareFreed
  generalize s.markQuarantined 12 c false = s1
  extract_lets u v
  have hu : u.get STCH_PANEL_MAP.QUARANTINED (c / 16) = setBit (s1.get STCH_PANEL_MAP.QUARANTINED (c / 16)) (c % 16) false % 2 ^ 16 :=
    get_set_mod _ _ _ _ _ (by decide)
  have hv : v.get STCH_PANEL_MAP.QUARANTINED (c / 16) = u.get STCH_PANEL_MAP.QUARANTINED (c / 16) := by
    unfold v
    split
    · exact get_set_beside _ _ _ _ _ _ (by decide)
    · rfl
  clear_value u v
  constructor
  · rw [get_set_far _ _ _ _ (Reg.addr_ne_of_apartFor (n := 1) (n' := 3) (by decide) (by decide) hp), hv, hu, Nat.testBit_mod_two_pow,
      testBit_setBit_false, Bool.and_false]
  · rw [get_set_mod _ _ _ _ _ (by decide), Nat.testBit_mod_two_pow, testBit_setBit_self, Bool.and_true]
    exact decide_eq_true hp

/-- A requalification that no bar forbids frees the spare and ends the quarantine, or is reported and leaves it. -/
theorem stchRequal_effect (hc : c < 48) (hq : (s.get STCH_PANEL_MAP.QUARANTINED (c / 16)).testBit (c % 16) = true)
    (hbar : s.requalBarred 12 c = false) (pass : Bool) : let t := s.stchRequal c pass
    (t.get STCH_PANEL_MAP.QUARANTINED (c / 16)).testBit (c % 16) = false ∧ (t.get STCH_CAP.SPARE_FREE).testBit (c / 16) = true ∨
      t.get STCH_PANEL_MAP.QUARANTINED (c / 16) = s.get STCH_PANEL_MAP.QUARANTINED (c / 16) ∧ t.get STCH_ERR_LOG.REASON = 0x0C07 ∧
        Sent s t (.report 0x0C07) := by
  have hp : c / 16 < 3 := by omega
  dsimp only
  rw [stchRequal_eq hc hq hbar]
  cases pass
  · right
    rw [if_neg (by decide)]
    have hregs : OtherRegs [STCH_ERR_LOG.addr 0 0] s ((s.set STCH_ERR_LOG.REASON 0x0C07).set STCH_ERR_LOG.CLUSTER c) :=
      (OtherRegs.set s STCH_ERR_LOG.REASON _ (by decide)).andSet (f := STCH_ERR_LOG.CLUSTER) (by decide)
    have hreason : ((s.set STCH_ERR_LOG.REASON 0x0C07).set STCH_ERR_LOG.CLUSTER c).get STCH_ERR_LOG.REASON = 0x0C07 := by
      rw [get_set_beside _ _ _ _ _ _ (by decide), get_set_fits _ _ _ _ _ (by decide)]
    have hout : s.out <+: ((s.set STCH_ERR_LOG.REASON 0x0C07).set STCH_ERR_LOG.CLUSTER c).out := by
      rw [State.set_out, State.set_out]
    generalize (s.set STCH_ERR_LOG.REASON 0x0C07).set STCH_ERR_LOG.CLUSTER c = u at hregs hreason hout
    have hread : ∀ f i, (u.report 0x0C07).get f i = u.get f i := fun _ _ => rfl
    refine ⟨?_, ?_, sent_report _ hout⟩
    · rw [hread, hregs.get (by
        rw [List.mem_singleton]
        exact Reg.addr_ne_of_apartFor (n := 3) (n' := 1) (by decide) hp (by decide))]
    · rw [hread, hreason]
  · left
    exact spareFreed_effect hc

theorem stchRequal_barred (hbar : s.requalBarred 12 c = true) (pass : Bool) : (s.stchRequal c pass).csr = s.csr := by
  have hcount : (s.hlth.quarantined.filter (· == (12, c))).length > 1 := of_decide_eq_true hbar
  unfold State.stchRequal
  rw [show panelOf c = (c / 16, c % 16) from rfl]
  dsimp only
  rw [if_pos hcount]
  split <;> rfl

end

section
variable {s : State} {m : Master} {tag : BitVec 10} {v w : Word} {c : Nat} (hc : STCH_SUBST.CLUSTER.of w.toNat = c)
  (hw : Writable s m STCH_SUBST 0 w)
include hc hw

theorem stchSubst_spares (hf : forced v [(STCH_SUBST.GO, 1)] = w)
    (h : STCH_SUBST.REQUAL.of w.toNat = 0 ∧ c < 48 ∧ (s.get STCH_CAP.SPARE_FREE).testBit (c / 16) = true ∧ s.stchOnSpare c = false) :
    Does (.stchSubstGo m tag v) s [.csr, .mem, .poison, .out, .freeCtr, .intc, .myk, .hlth, .stch, .xport, .fab, .grp] (fun t =>
      t.get STCH_PANEL_MAP.SPARE_FOR (c / 16) = c % 16 ∧ (t.get STCH_CAP.SPARE_FREE).testBit (c / 16) = false ∧
      (t.get STCH_PANEL_MAP.QUARANTINED (c / 16)).testBit (c % 16) = true ∧ t.on STCH_INT_STATUS.SUBSTITUTED = true ∧
      Sent s t (.report 0x0C08) ∧ Answered t m tag.toNat 0 0 []) := by
  obtain ⟨hno, hc48, hfree, hon⟩ := h
  have hgo : STCH_SUBST.GO.of w.toNat = 1 := hf ▸ of_forced v _ 1 (by decide)
  have hp : c / 16 < 3 := by omega
  have hregs : OtherRegs [STCH_SUBST.addr 0 0] s (s.written STCH_SUBST 0 12 w) := written_otherRegs s (List.mem_singleton.mpr rfl)
  have hfree' : ((s.written STCH_SUBST 0 12 w).get STCH_CAP.SPARE_FREE).testBit (c / 16) = true := by rwa [hregs.get (by decide)]
  have hon' : (s.written STCH_SUBST 0 12 w).stchOnSpare c = false := by
    unfold State.stchOnSpare at hon ⊢
    rwa [hregs.get (by
      rw [List.mem_singleton]
      exact Reg.addr_ne_of_apartFor (r := STCH_PANEL_MAP) (n := 3) (n' := 1) (by decide) hp (by decide))]
  have ht := stchClusterFault_spares (s := s.written STCH_SUBST 0 12 w) 0x0C07 ⟨none, none, 0, 0xFF, false⟩ none hc48 hfree' hon'
  have hout : s.out <+: (s.written STCH_SUBST 0 12 w).out := List.prefix_refl _
  refine does_write 12 rfl hf (by decide) (by decide) hw (stchWrite_go hc hgo hno hc48 hfree') stchClusterFault_goes (by decide)
    ⟨?_, ?_, ?_, ?_, (ht.sent.after hout).of_goes (answered_goes _ _ _ _ _), answered_answers _ _ _ _ _⟩
  · rw [answered_get, ht.place]
  · rw [answered_get, ht.free]
  · rw [answered_get, ht.quarantined]
  · rw [answered_on, ht.substituted]

theorem stchSubst_refused (hf : forced v [(STCH_SUBST.GO, 1)] = w) (hno : STCH_SUBST.REQUAL.of w.toNat = 0)
    (h : 48 ≤ c ∨ (s.get STCH_CAP.SPARE_FREE).testBit (c / 16) = false) :
    Does (.stchSubstGo m tag v) s [.csr, .out, .intc] (fun t =>
      t.get STCH_ERR_LOG.REASON = 0x0C09 ∧ t.get STCH_ERR_LOG.CLUSTER = c ∧ Answered t m tag.toNat 1 0x0C09 []) := by
  have hgo : STCH_SUBST.GO.of w.toNat = 1 := hf ▸ of_forced v _ 1 (by decide)
  have hregs : OtherRegs [STCH_SUBST.addr 0 0] s (s.written STCH_SUBST 0 12 w) := written_otherRegs s (List.mem_singleton.mpr rfl)
  have hlt : c < 2 ^ 6 := hc ▸ fieldOf_lt _ _
  have h' : 48 ≤ c ∨ ((s.written STCH_SUBST 0 12 w).get STCH_CAP.SPARE_FREE).testBit (c / 16) = false := by rwa [hregs.get (by decide)]
  refine does_write_refused 12 rfl hf (by decide) (by decide) hw (by decide) (stchWrite_refused hc hgo hno h')
    (.step (.step .refl written_goes (by decide)) stchSubstRefused_goes (l := [.csr]) (by decide)) (by decide)
    ⟨?_, ?_, answered_answers _ _ _ _ _⟩
  · rw [answered_get, State.stchSubstRefused, get_set_beside _ _ _ _ _ _ (by decide), get_set_fits _ _ _ _ _ (by decide)]
  · rw [answered_get, State.stchSubstRefused, get_set_fits _ _ _ _ _ ⟨by decide, hlt⟩]

theorem stchRequal_ends (hf : forced v [(STCH_SUBST.REQUAL, 1)] = w)
    (h : STCH_SUBST.GO.of w.toNat = 0 ∧ c < 48 ∧ (s.get STCH_PANEL_MAP.QUARANTINED (c / 16)).testBit (c % 16) = true ∧
      s.requalBarred 12 c = false) :
    Does (.stchRequal m tag v) s [.csr, .out, .freeCtr, .intc] (fun t =>
      ((t.get STCH_PANEL_MAP.QUARANTINED (c / 16)).testBit (c % 16) = false ∧
          (t.get STCH_CAP.SPARE_FREE).testBit (c / 16) = true ∨
          t.get STCH_PANEL_MAP.QUARANTINED (c / 16) = s.get STCH_PANEL_MAP.QUARANTINED (c / 16) ∧
          t.get STCH_ERR_LOG.REASON = 0x0C07 ∧ Sent s t (.report 0x0C07)) ∧
      Answered t m tag.toNat 0 0 []) := by
  obtain ⟨hgo, hc48, hq, hbar⟩ := h
  have hre : STCH_SUBST.REQUAL.of w.toNat = 1 := hf ▸ of_forced v _ 1 (by decide)
  have hp : c / 16 < 3 := by omega
  have hregs : OtherRegs [STCH_SUBST.addr 0 0] s (s.written STCH_SUBST 0 12 w) := written_otherRegs s (List.mem_singleton.mpr rfl)
  have hmap : STCH_PANEL_MAP.addr (c / 16) 0 ∉ [STCH_SUBST.addr 0 0] := by
    rw [List.mem_singleton]
    exact Reg.addr_ne_of_apartFor (n := 3) (n' := 1) (by decide) hp (by decide)
  have hwrite := stchWrite_requal (s := s.written STCH_SUBST 0 12 w) hc hgo hre
  have hbar' : (s.written STCH_SUBST 0 12 w).requalBarred 12 c = false := hbar
  have hfresh : Goes [.freeCtr] (s.written STCH_SUBST 0 12 w) (s.written STCH_SUBST 0 12 w).fresh.2 := fresh_goes
  have hq' : ((s.written STCH_SUBST 0 12 w).fresh.2.get STCH_PANEL_MAP.QUARANTINED (c / 16)) = s.get STCH_PANEL_MAP.QUARANTINED (c / 16) :=
    (get_congr (hfresh.only .csr rfl) _ _ _).trans (hregs.get hmap)
  have hbar2 : (s.written STCH_SUBST 0 12 w).fresh.2.requalBarred 12 c = false := hbar
  have hout : s.out <+: (s.written STCH_SUBST 0 12 w).fresh.2.out := (List.prefix_refl _).trans hfresh.out
  rw [hbar', if_neg (by decide)] at hwrite
  generalize ((s.written STCH_SUBST 0 12 w).fresh.1 % 2 == 1) = pass at hwrite
  generalize (s.written STCH_SUBST 0 12 w).fresh.2 = u at hwrite hfresh hq' hbar2 hout
  have heff := stchRequal_effect hc48 (by rw [hq', hq]) hbar2 pass
  refine does_write 12 (k := [.csr, .out, .freeCtr]) rfl hf (by decide) (by decide) hw hwrite
    (.step (.step .refl hfresh (by decide)) stchRequal_goes (by decide)) (by decide) ⟨?_, answered_answers _ _ _ _ _⟩
  refine heff.imp (fun h => ?_) (fun h => ?_)
  · rwa [answered_get, answered_get]
  · obtain ⟨h1, h2, h3⟩ := h
    refine ⟨?_, ?_, (h3.after hout).of_goes (answered_goes _ _ _ _ _)⟩
    · rw [answered_get, h1, hq']
    · rw [answered_get, h2]

theorem stchRequal_refused (hf : forced v [(STCH_SUBST.REQUAL, 1)] = w)
    (h : STCH_SUBST.GO.of w.toNat = 0 ∧ s.requalBarred 12 c = true) :
    Does (.stchRequal m tag v) s [.csr, .out, .freeCtr, .intc] (fun t =>
      t.get STCH_PANEL_MAP.QUARANTINED (c / 16) = s.get STCH_PANEL_MAP.QUARANTINED (c / 16) ∧ Answered t m tag.toNat 1 0x1014 []) := by
  obtain ⟨hgo, hbar⟩ := h
  have hre : STCH_SUBST.REQUAL.of w.toNat = 1 := hf ▸ of_forced v _ 1 (by decide)
  have hp : c / 16 < 4 := by
    have : c < 2 ^ 6 := hc ▸ fieldOf_lt _ _
    omega
  have hregs : OtherRegs [STCH_SUBST.addr 0 0] s (s.written STCH_SUBST 0 12 w) := written_otherRegs s (List.mem_singleton.mpr rfl)
  have hmap : STCH_PANEL_MAP.addr (c / 16) 0 ∉ [STCH_SUBST.addr 0 0] := by
    generalize c / 16 = p at hp
    interval_cases p <;> decide
  have hwrite := stchWrite_requal (s := s.written STCH_SUBST 0 12 w) hc hgo hre
  have hbar' : (s.written STCH_SUBST 0 12 w).requalBarred 12 c = true := hbar
  have hfresh : Goes [.freeCtr] (s.written STCH_SUBST 0 12 w) (s.written STCH_SUBST 0 12 w).fresh.2 := fresh_goes
  have hcsr : (s.written STCH_SUBST 0 12 w).fresh.2.csr = (s.written STCH_SUBST 0 12 w).csr := hfresh.only .csr rfl
  have hbar2 : (s.written STCH_SUBST 0 12 w).fresh.2.requalBarred 12 c = true := hbar
  rw [hbar', if_pos rfl] at hwrite
  generalize ((s.written STCH_SUBST 0 12 w).fresh.1 % 2 == 1) = pass at hwrite
  generalize (s.written STCH_SUBST 0 12 w).fresh.2 = u at hwrite hfresh hbar2 hcsr
  refine does_write_refused 12 rfl hf (by decide) (by decide) hw (by decide) hwrite
    (.step (.step (.step .refl written_goes (by decide)) hfresh (by decide)) stchRequal_goes (l := [.csr, .out, .freeCtr]) (by decide))
    (by decide) ⟨?_, answered_answers _ _ _ _ _⟩
  rw [answered_get, get_congr (stchRequal_barred hbar2 pass), get_congr hcsr, hregs.get hmap]

end

end Sys2Proof.Machine

namespace Sys2Proof.Machine
open Csr

/-! ## PURL_SUBST (R165, R451) -/

/-- The lower of two spares is taken first. -/
theorem leastSpare {m k : Nat} (hk : m.testBit k = true) (h : k = 0 ∨ k = 1 ∧ m.testBit 0 = false) : leastBy id (bitsOf m 2) = some k := by
  have hbits : bitsOf m 2 = [0, 1].filter m.testBit := rfl
  rw [hbits]
  rcases h with rfl | ⟨rfl, h0⟩
  · cases h1 : m.testBit 1
    · rw [List.filter_cons_of_pos hk, List.filter_cons_of_neg (by simp [h1])]
      rfl
    · rw [List.filter_cons_of_pos hk, List.filter_cons_of_pos h1]
      rfl
  · rw [List.filter_cons_of_neg (by simp [h0]), List.filter_cons_of_pos hk]
    rfl

section
variable {s : State} {c k : Nat}

theorem spareForField_reg (k : Nat) : (spareForField k).reg = PURL_SPARE := by
  unfold spareForField
  split <;> rfl

/-- The state in which the hardware of a codec cluster is in quarantine. -/
def State.purlQuarantining (s : State) (c : Nat) : State :=
  let u := (s.quarantineCount 2 13 (s.purlHw c)).markQuarantined 13 (s.purlHw c) true
  match s.purlSpareFor c with
  | some k => (u.set (spareForField k) 0x3F).set PURL_SPARE.SPARE_QUARANTINED (setBit (u.get PURL_SPARE.SPARE_QUARANTINED) k true)
  | none => u.set PURL_QUAR.QUARANTINED (setBit (u.get PURL_QUAR.QUARANTINED) c true)

theorem purlQuarantining_goes : Goes [.csr, .hlth] s (s.purlQuarantining c) := by
  unfold State.purlQuarantining
  extract_lets u
  have hu : Goes [.csr, .hlth] s u := .step (.step .refl quarantineCount_goes (by decide)) markQuarantined_goes (by decide)
  split
  · exact .step (.step hu set_goes (by decide)) set_goes (by decide)
  · exact .step hu set_goes (by decide)

theorem purlQuarantining_free : (s.purlQuarantining c).get PURL_CAP.SPARE_FREE = s.get PURL_CAP.SPARE_FREE := by
  unfold State.purlQuarantining
  extract_lets u
  have hu : u.get PURL_CAP.SPARE_FREE = s.get PURL_CAP.SPARE_FREE :=
    (markQuarantined_outside _ _ _ _).get (by decide) |>.trans ((quarantineCount_outside _ (by decide) _ _).get (by decide))
  split
  · rw [get_set_far _ _ _ _ (by decide), get_set_far _ _ _ _ (by rw [spareForField_reg]; decide), hu]
  · rw [get_set_far _ _ _ _ (by decide), hu]

/-- The state in which a spare stands in the place of a cluster in quarantine. -/
def State.purlSpareIn (s : State) (c k : Nat) : State :=
  let u := s.purlQuarantining c
  ((u.set (spareForField k) c).set PURL_CAP.SPARE_FREE (setBit (u.get PURL_CAP.SPARE_FREE) k false)).set
    PURL_QUAR.OUT_OF_SERVICE (setBit (u.get PURL_QUAR.OUT_OF_SERVICE) c false)

theorem purlSpareIn_goes : Goes [.csr, .hlth] s (s.purlSpareIn c k) := by
  unfold State.purlSpareIn
  extract_lets u
  exact .step (.step (.step purlQuarantining_goes set_goes (by decide)) set_goes (by decide)) set_goes (by decide)

theorem purlSpareIn_effect (hc : c < 32) : (s.purlSpareIn c k).get (spareForField k) = c ∧
    ((s.purlSpareIn c k).get PURL_CAP.SPARE_FREE).testBit k = false ∧
    ((s.purlSpareIn c k).get PURL_QUAR.OUT_OF_SERVICE).testBit c = false := by
  unfold State.purlSpareIn
  extract_lets u
  clear_value u
  refine ⟨?_, ?_, ?_⟩
  · have hw : (spareForField k).w = 6 ∧ (spareForField k).lo + 6 ≤ 64 := by
      unfold spareForField
      split <;> decide
    rw [get_set_far _ _ _ _ (by rw [spareForField_reg]; decide), get_set_far _ _ _ _ (by rw [spareForField_reg]; decide),
      get_set_fits _ _ _ _ _ ⟨hw.1 ▸ hw.2, hw.1 ▸ hc.trans (by decide)⟩]
  · rw [get_set_far _ _ _ _ (by decide), get_set_mod _ _ _ _ _ (by decide), Nat.testBit_mod_two_pow, testBit_setBit_false, Bool.and_false]
  · rw [get_set_mod _ _ _ _ _ (by decide), Nat.testBit_mod_two_pow, testBit_setBit_false, Bool.and_false]

/-- The state in which a spare's substitution is counted, logged and reported. -/
def State.purlSpareShown (s : State) (h : Health) : State :=
  ((((s.set PURL_CAP.IN_SERVICE s.purlClusters.length).health h).set PURL_ERR_LOG.REASON 0x0D11).report 0x0D11).raise
    PURL_INT_STATUS.SUBSTITUTED

theorem purlQuarantine_spare (r : Nat) (x : Option Work) (hk : leastBy id (bitsOf (s.get PURL_CAP.SPARE_FREE) 2) = some k) :
    ∃ h, s.purlQuarantine c r x = (s.purlSpareIn c k).purlSpareShown h := by
  unfold State.purlQuarantine
  extract_lets old hw s1 s2 rec_ s3
  have h2 : s2 = s.purlQuarantining c := rfl
  clear_value s2 s3
  subst h2
  refine ⟨rec_ 2, ?_⟩
  have hk' : leastBy id (bitsOf ((s.purlQuarantining c).get PURL_CAP.SPARE_FREE) 2) = some k := by rw [purlQuarantining_free, hk]
  rw [hk']
  rfl

theorem purlSpareShown_effect (h : Health) : let t := s.purlSpareShown h
    t.get (spareForField k) = s.get (spareForField k) ∧ t.get PURL_CAP.SPARE_FREE = s.get PURL_CAP.SPARE_FREE ∧
      t.get PURL_QUAR.OUT_OF_SERVICE = s.get PURL_QUAR.OUT_OF_SERVICE ∧ t.on PURL_INT_STATUS.SUBSTITUTED = true ∧
      Sent s t (.report 0x0D11) := by
  unfold State.purlSpareShown
  have hregs : OtherRegs (healthRegs ++ [PURL_ERR_LOG.addr 0 0, PURL_INT_STATUS.addr 0 0]) (s.set PURL_CAP.IN_SERVICE s.purlClusters.length)
      (((((s.set PURL_CAP.IN_SERVICE s.purlClusters.length).health h).set PURL_ERR_LOG.REASON 0x0D11).report 0x0D11).raise
        PURL_INT_STATUS.SUBSTITUTED) :=
    .andRaise (.andReport (.andSet (f := PURL_ERR_LOG.REASON) ((health_otherRegs _ _).mono (List.subset_append_left _ _)) (by decide)))
      (by decide)
  have hout : s.out <+: (((s.set PURL_CAP.IN_SERVICE s.purlClusters.length).health h).set PURL_ERR_LOG.REASON 0x0D11).out := by
    rw [State.set_out]
    exact health_goes.out (s := s.set PURL_CAP.IN_SERVICE _)
  refine ⟨?_, ?_, ?_, ?_, (sent_report 0x0D11 hout).of_goes raise_goes⟩
  · rw [hregs.get (by rw [spareForField_reg]; decide), get_set_far _ _ _ _ (by rw [spareForField_reg]; decide)]
  · rw [hregs.get (by decide), get_set_beside _ _ _ _ _ _ (by decide)]
  · rw [hregs.get (by decide), get_set_far _ _ _ _ (by decide)]
  · generalize (((s.set PURL_CAP.IN_SERVICE s.purlClusters.length).health h).set PURL_ERR_LOG.REASON 0x0D11).report 0x0D11 = u
    unfold State.on
    rw [raise_get, get_set_fits _ _ _ _ _ (by decide)]
    rfl

/-- A codec cluster's quarantine puts the least free spare in its place, and reports it. -/
theorem purlQuarantine_spares (r : Nat) (x : Option Work) (hc : c < 32) (hk : leastBy id (bitsOf (s.get PURL_CAP.SPARE_FREE) 2) = some k) :
    let t := s.purlQuarantine c r x
    t.get (spareForField k) = c ∧ (t.get PURL_CAP.SPARE_FREE).testBit k = false ∧ (t.get PURL_QUAR.OUT_OF_SERVICE).testBit c = false ∧
      t.on PURL_INT_STATUS.SUBSTITUTED = true ∧ Sent s t (.report 0x0D11) := by
  obtain ⟨hfor, hfree, hserve⟩ := purlSpareIn_effect (s := s) (k := k) hc
  obtain ⟨h, heq⟩ := purlQuarantine_spare (c := c) r x hk
  obtain ⟨h1, h2, h3, h4, h5⟩ := purlSpareShown_effect (s := s.purlSpareIn c k) (k := k) h
  dsimp only
  rw [heq]
  exact ⟨h1.trans hfor, by rw [h2, hfree], by rw [h3, hserve], h4, h5.after purlSpareIn_goes.out⟩

end

section
variable {s : State} {c : Nat}

/-- The state in which a requalified cluster, or the spare that stands for it, is free again. -/
def State.purlSpareFreed (s : State) (c : Nat) : State :=
  let u := (s.markQuarantined 13 c false).set PURL_QUAR.QUARANTINED (setBit (s.get PURL_QUAR.QUARANTINED) c false)
  let k := match u.purlSpareFor c with
    | some k => k
    | none => if u.get PURL_SPARE.SPARE0_FOR = 0x3F then 0 else 1
  (u.set (spareForField k) 0x3F).set PURL_CAP.SPARE_FREE (setBit (u.get PURL_CAP.SPARE_FREE) k true)

theorem purlRequal_eq (hq : (s.get PURL_QUAR.QUARANTINED).testBit c = true) (hbar : s.requalBarred 13 c = false) (pass : Bool) :
    s.purlRequal c pass =
      if pass then s.purlSpareFreed c else ((s.set PURL_ERR_LOG.REASON 0x0D12).set PURL_ERR_LOG.CLUSTER c).report 0x0D12 := by
  have hcount : ¬(s.hlth.quarantined.filter (· == (13, c))).length > 1 := of_decide_eq_false hbar
  unfold State.purlRequal
  rw [hq, if_neg (by simp), if_neg hcount]
  cases pass <;> rfl

theorem purlSpareFor_lt {k : Nat} (h : s.purlSpareFor c = some k) : k < 2 := by
  unfold State.purlSpareFor at h
  split at h
  · cases h
    decide
  · split at h <;> cases h
    decide

theorem purlSpareFreed_effect : let t := s.purlSpareFreed c
    (t.get PURL_QUAR.QUARANTINED).testBit c = false ∧ t.get PURL_CAP.SPARE_FREE ≠ 0 := by
  unfold State.purlSpareFreed
  extract_lets u k
  have hu : u.get PURL_QUAR.QUARANTINED = setBit (s.get PURL_QUAR.QUARANTINED) c false % 2 ^ 32 := get_set_mod _ _ _ _ _ (by decide)
  have hk : k < 2 := by
    unfold k
    split
    next k hk => exact purlSpareFor_lt hk
    next => split <;> decide
  clear_value u k
  constructor
  · rw [get_set_far _ _ _ _ (by decide), get_set_far _ _ _ _ (by rw [spareForField_reg]; decide), hu, Nat.testBit_mod_two_pow,
      testBit_setBit_false, Bool.and_false]
  · rw [get_set_mod _ _ _ _ _ (by decide)]
    intro h0
    have hbit : (setBit (u.get PURL_CAP.SPARE_FREE) k true % 2 ^ 2).testBit k = true := by
      rw [Nat.testBit_mod_two_pow, testBit_setBit_self, decide_eq_true hk, Bool.and_true]
    rw [show setBit (u.get PURL_CAP.SPARE_FREE) k true % 2 ^ 2 = 0 from h0, Nat.zero_testBit] at hbit
    exact absurd hbit (by decide)

/-- A requalification that no bar forbids frees a spare and ends the quarantine, or is reported and leaves it. -/
theorem purlRequal_effect (hq : (s.get PURL_QUAR.QUARANTINED).testBit c = true) (hbar : s.requalBarred 13 c = false) (pass : Bool) :
    let t := s.purlRequal c pass
    (t.get PURL_QUAR.QUARANTINED).testBit c = false ∧ t.get PURL_CAP.SPARE_FREE ≠ 0 ∨
      t.get PURL_QUAR.QUARANTINED = s.get PURL_QUAR.QUARANTINED ∧ t.get PURL_ERR_LOG.REASON = 0x0D12 ∧ Sent s t (.report 0x0D12) := by
  dsimp only
  rw [purlRequal_eq hq hbar]
  cases pass
  · right
    rw [if_neg (by decide)]
    have hout : s.out <+: ((s.set PURL_ERR_LOG.REASON 0x0D12).set PURL_ERR_LOG.CLUSTER c).out := by
      rw [State.set_out, State.set_out]
    refine ⟨?_, ?_, sent_report _ hout⟩
    · rw [get_report, get_set_far _ _ _ _ (by decide), get_set_far _ _ _ _ (by decide)]
    · rw [get_report, get_set_beside _ _ _ _ _ _ (by decide), get_set_fits _ _ _ _ _ (by decide)]
  · left
    exact purlSpareFreed_effect

theorem purlRequal_barred (hbar : s.requalBarred 13 c = true) (pass : Bool) : (s.purlRequal c pass).csr = s.csr := by
  have hcount : (s.hlth.quarantined.filter (· == (13, c))).length > 1 := of_decide_eq_true hbar
  unfold State.purlRequal
  rw [if_pos hcount]
  split <;> rfl

variable {w : Word} (hc : PURL_SUBST.CLUSTER.of w.toNat = c)
include hc

theorem purlWrite_go (hgo : PURL_SUBST.GO.of w.toNat = 1) (hno : PURL_SUBST.REQUAL.of w.toNat = 0) (hfree : s.get PURL_CAP.SPARE_FREE ≠ 0) :
    s.purlWrite ⟨PURL_SUBST, 0, 0, 13⟩ w.toNat = ⟨(s.set PURL_ERR_LOG.CLUSTER c).purlQuarantine c 0x0D11 none, 0, false⟩ := by
  have hsubst : s.purlSubst c = .ok ((s.set PURL_ERR_LOG.CLUSTER c).purlQuarantine c 0x0D11 none) := if_neg hfree
  unfold State.purlWrite
  rw [if_pos rfl, if_pos hgo, hno, hc, hsubst, if_neg (by decide)]

theorem purlWrite_refused (hgo : PURL_SUBST.GO.of w.toNat = 1) (hno : PURL_SUBST.REQUAL.of w.toNat = 0) (hfree : s.get PURL_CAP.SPARE_FREE = 0) :
    s.purlWrite ⟨PURL_SUBST, 0, 0, 13⟩ w.toNat = ⟨(s.set PURL_ERR_LOG.REASON 0x0D12).set PURL_ERR_LOG.CLUSTER c, 0x0D12, false⟩ := by
  have hsubst : s.purlSubst c = .error 0x0D12 := if_pos hfree
  unfold State.purlWrite
  rw [if_pos rfl, if_pos hgo, hno, hc, hsubst, if_neg (by decide)]

theorem purlWrite_requal (hgo : PURL_SUBST.GO.of w.toNat = 0) (hre : PURL_SUBST.REQUAL.of w.toNat = 1) :
    s.purlWrite ⟨PURL_SUBST, 0, 0, 13⟩ w.toNat =
      ⟨s.fresh.2.purlRequal c (s.fresh.1 % 2 == 1), if s.requalBarred 13 c then 0x1014 else 0, false⟩ := by
  unfold State.purlWrite
  rw [if_pos rfl, hgo, if_pos hre, hc]
  rfl

end

section
variable {s : State} {m : Master} {tag : BitVec 10} {v w : Word} {c : Nat} (hc : PURL_SUBST.CLUSTER.of w.toNat = c)
  (hw : Writable s m PURL_SUBST 0 w)
include hc hw

theorem purlSubst_spares {k : Nat} (hf : forced v [(PURL_SUBST.GO, 1)] = w) (hno : PURL_SUBST.REQUAL.of w.toNat = 0)
    (h : (s.get PURL_CAP.SPARE_FREE).testBit k = true ∧ (k = 0 ∨ k = 1 ∧ (s.get PURL_CAP.SPARE_FREE).testBit 0 = false)) :
    Does (.purlSubstGo m tag v) s [.csr, .mem, .poison, .out, .freeCtr, .intc, .myk, .hlth] (fun t =>
      t.get (spareForField k) = c ∧ (t.get PURL_CAP.SPARE_FREE).testBit k = false ∧
          (t.get PURL_QUAR.OUT_OF_SERVICE).testBit c = false ∧
      t.on PURL_INT_STATUS.SUBSTITUTED = true ∧ Sent s t (.report 0x0D11) ∧ Answered t m tag.toNat 0 0 []) := by
  obtain ⟨hk, hleast⟩ := h
  have hgo : PURL_SUBST.GO.of w.toNat = 1 := hf ▸ of_forced v _ 1 (by decide)
  have hc32 : c < 2 ^ 5 := hc ▸ fieldOf_lt _ _
  have hregs : OtherRegs [PURL_SUBST.addr 0 0] s (s.written PURL_SUBST 0 13 w) := written_otherRegs s (List.mem_singleton.mpr rfl)
  have hfree : (s.written PURL_SUBST 0 13 w).get PURL_CAP.SPARE_FREE = s.get PURL_CAP.SPARE_FREE := hregs.get (by decide)
  have hany : (s.written PURL_SUBST 0 13 w).get PURL_CAP.SPARE_FREE ≠ 0 := by
    rw [hfree]
    intro h0
    rw [h0, Nat.zero_testBit] at hk
    cases hk
  have hspare : leastBy id (bitsOf (((s.written PURL_SUBST 0 13 w).set PURL_ERR_LOG.CLUSTER c).get PURL_CAP.SPARE_FREE) 2) = some k := by
    rw [get_set_far _ _ _ _ (by decide), hfree]
    exact leastSpare hk hleast
  obtain ⟨hfor, hoff, hserve, hon, hsent⟩ := purlQuarantine_spares 0x0D11 none hc32 hspare
  have hout : s.out <+: ((s.written PURL_SUBST 0 13 w).set PURL_ERR_LOG.CLUSTER c).out := List.prefix_refl _
  refine does_write 13 (k := [.csr, .mem, .poison, .out, .freeCtr, .intc, .myk, .hlth]) rfl hf (by decide) (by decide) hw
    (purlWrite_go hc hgo hno hany) (.step (.step .refl set_goes (by decide)) purlQuarantine_goes (by decide)) (by decide)
    ⟨?_, ?_, ?_, ?_, (hsent.after hout).of_goes (answered_goes _ _ _ _ _), answered_answers _ _ _ _ _⟩
  · rw [answered_get, hfor]
  · rw [answered_get, hoff]
  · rw [answered_get, hserve]
  · rw [answered_on, hon]

theorem purlSubst_refused (hf : forced v [(PURL_SUBST.GO, 1)] = w)
    (h : PURL_SUBST.REQUAL.of w.toNat = 0 ∧ s.get PURL_CAP.SPARE_FREE = 0) :
    Does (.purlSubstGo m tag v) s [.csr, .out, .intc] (fun t =>
      t.get PURL_ERR_LOG.REASON = 0x0D12 ∧ t.get PURL_ERR_LOG.CLUSTER = c ∧ Answered t m tag.toNat 1 0x0D12 []) := by
  obtain ⟨hno, hfree⟩ := h
  have hgo : PURL_SUBST.GO.of w.toNat = 1 := hf ▸ of_forced v _ 1 (by decide)
  have hlt : c < 2 ^ 5 := hc ▸ fieldOf_lt _ _
  have hregs : OtherRegs [PURL_SUBST.addr 0 0] s (s.written PURL_SUBST 0 13 w) := written_otherRegs s (List.mem_singleton.mpr rfl)
  have hfree' : (s.written PURL_SUBST 0 13 w).get PURL_CAP.SPARE_FREE = 0 := by rw [hregs.get (by decide), hfree]
  refine does_write_refused 13 rfl hf (by decide) (by decide) hw (by decide) (purlWrite_refused hc hgo hno hfree')
    (.step (.step (.step .refl written_goes (by decide)) set_goes (by decide)) set_goes (l := [.csr]) (by decide)) (by decide)
    ⟨?_, ?_, answered_answers _ _ _ _ _⟩
  · rw [answered_get, get_set_beside _ _ _ _ _ _ (by decide), get_set_fits _ _ _ _ _ (by decide)]
  · rw [answered_get, get_set_fits _ _ _ _ _ ⟨by decide, hlt⟩]

theorem purlRequal_ends (hf : forced v [(PURL_SUBST.REQUAL, 1)] = w)
    (h : PURL_SUBST.GO.of w.toNat = 0 ∧ (s.get PURL_QUAR.QUARANTINED).testBit c = true ∧ s.requalBarred 13 c = false) :
    Does (.purlRequal m tag v) s [.csr, .out, .freeCtr, .intc] (fun t =>
      ((t.get PURL_QUAR.QUARANTINED).testBit c = false ∧ t.get PURL_CAP.SPARE_FREE ≠ 0 ∨
          t.get PURL_QUAR.QUARANTINED = s.get PURL_QUAR.QUARANTINED ∧ t.get PURL_ERR_LOG.REASON = 0x0D12 ∧
          Sent s t (.report 0x0D12)) ∧
      Answered t m tag.toNat 0 0 []) := by
  obtain ⟨hgo, hq, hbar⟩ := h
  have hre : PURL_SUBST.REQUAL.of w.toNat = 1 := hf ▸ of_forced v _ 1 (by decide)
  have hregs : OtherRegs [PURL_SUBST.addr 0 0] s (s.written PURL_SUBST 0 13 w) := written_otherRegs s (List.mem_singleton.mpr rfl)
  have hwrite := purlWrite_requal (s := s.written PURL_SUBST 0 13 w) hc hgo hre
  have hbar' : (s.written PURL_SUBST 0 13 w).requalBarred 13 c = false := hbar
  have hfresh : Goes [.freeCtr] (s.written PURL_SUBST 0 13 w) (s.written PURL_SUBST 0 13 w).fresh.2 := fresh_goes
  have hq' : (s.written PURL_SUBST 0 13 w).fresh.2.get PURL_QUAR.QUARANTINED = s.get PURL_QUAR.QUARANTINED :=
    (get_congr (hfresh.only .csr rfl) _ _ _).trans (hregs.get (by decide))
  have hbar2 : (s.written PURL_SUBST 0 13 w).fresh.2.requalBarred 13 c = false := hbar
  have hout : s.out <+: (s.written PURL_SUBST 0 13 w).fresh.2.out := (List.prefix_refl _).trans hfresh.out
  rw [hbar', if_neg (by decide)] at hwrite
  generalize ((s.written PURL_SUBST 0 13 w).fresh.1 % 2 == 1) = pass at hwrite
  generalize (s.written PURL_SUBST 0 13 w).fresh.2 = u at hwrite hfresh hq' hbar2 hout
  have heff := purlRequal_effect (by rw [hq', hq]) hbar2 pass
  refine does_write 13 (k := [.csr, .out, .freeCtr]) rfl hf (by decide) (by decide) hw hwrite
    (.step (.step .refl hfresh (by decide)) purlRequal_goes (by decide)) (by decide) ⟨?_, answered_answers _ _ _ _ _⟩
  refine heff.imp (fun h => ?_) (fun h => ?_)
  · rwa [answered_get, answered_get]
  · obtain ⟨h1, h2, h3⟩ := h
    refine ⟨?_, ?_, (h3.after hout).of_goes (answered_goes _ _ _ _ _)⟩
    · rw [answered_get, h1, hq']
    · rw [answered_get, h2]

theorem purlRequal_refused (hf : forced v [(PURL_SUBST.REQUAL, 1)] = w)
    (h : PURL_SUBST.GO.of w.toNat = 0 ∧ s.requalBarred 13 c = true) :
    Does (.purlRequal m tag v) s [.csr, .out, .freeCtr, .intc] (fun t =>
      t.get PURL_QUAR.QUARANTINED = s.get PURL_QUAR.QUARANTINED ∧ Answered t m tag.toNat 1 0x1014 []) := by
  obtain ⟨hgo, hbar⟩ := h
  have hre : PURL_SUBST.REQUAL.of w.toNat = 1 := hf ▸ of_forced v _ 1 (by decide)
  have hregs : OtherRegs [PURL_SUBST.addr 0 0] s (s.written PURL_SUBST 0 13 w) := written_otherRegs s (List.mem_singleton.mpr rfl)
  have hwrite := purlWrite_requal (s := s.written PURL_SUBST 0 13 w) hc hgo hre
  have hbar' : (s.written PURL_SUBST 0 13 w).requalBarred 13 c = true := hbar
  have hfresh : Goes [.freeCtr] (s.written PURL_SUBST 0 13 w) (s.written PURL_SUBST 0 13 w).fresh.2 := fresh_goes
  have hcsr : (s.written PURL_SUBST 0 13 w).fresh.2.csr = (s.written PURL_SUBST 0 13 w).csr := hfresh.only .csr rfl
  have hbar2 : (s.written PURL_SUBST 0 13 w).fresh.2.requalBarred 13 c = true := hbar
  rw [hbar', if_pos rfl] at hwrite
  generalize ((s.written PURL_SUBST 0 13 w).fresh.1 % 2 == 1) = pass at hwrite
  generalize (s.written PURL_SUBST 0 13 w).fresh.2 = u at hwrite hfresh hbar2 hcsr
  refine does_write_refused 13 rfl hf (by decide) (by decide) hw (by decide) hwrite
    (.step (.step (.step .refl written_goes (by decide)) hfresh (by decide)) purlRequal_goes (l := [.csr, .out, .freeCtr]) (by decide))
    (by decide) ⟨?_, answered_answers _ _ _ _ _⟩
  rw [answered_get, get_congr (purlRequal_barred hbar2 pass), get_congr hcsr, hregs.get (by decide)]

end

/-- Settles O9: a forced substitution of a column, a stitch cluster and a codec cluster, and the requalification of a cluster. -/
theorem forcedSubstitution : Obligations.ForcedSubstitution := by
  unfold Obligations.ForcedSubstitution
  refine ⟨?_, ?_, ?_, ?_, ?_, ?_, ?_, ?_, ?_, ?_, ?_⟩
  · intro s m tag v
    generalize hf : forced v _ = w
    dsimp only
    rintro ⟨hw, h⟩
    exact bedSubst_spares hf hw rfl rfl h
  · intro s m tag v
    generalize hf : forced v _ = w
    dsimp only
    rintro ⟨hw, h⟩
    exact bedSubst_waits hf hw rfl rfl h
  · intro s m tag v
    generalize hf : forced v _ = w
    dsimp only
    rintro ⟨hw, h⟩
    exact bedSubst_refused hf hw h
  · intro s m tag v
    generalize hf : forced v _ = w
    dsimp only
    rintro ⟨hw, h⟩
    exact stchSubst_spares rfl hw hf h
  · intro s m tag v
    generalize hf : forced v _ = w
    dsimp only
    rintro ⟨hw, hno⟩ h
    exact stchSubst_refused rfl hw hf hno h
  · intro s m tag v
    generalize hf : forced v _ = w
    dsimp only
    rintro ⟨hw, h⟩
    exact stchRequal_ends rfl hw hf h
  · intro s m tag v
    generalize hf : forced v _ = w
    dsimp only
    rintro ⟨hw, h⟩
    exact stchRequal_refused rfl hw hf h
  · intro s m tag v k
    generalize hf : forced v _ = w
    dsimp only
    rintro ⟨hw, hno⟩ h
    exact purlSubst_spares rfl hw hf hno h
  · intro s m tag v
    generalize hf : forced v _ = w
    dsimp only
    rintro ⟨hw, h⟩
    exact purlSubst_refused rfl hw hf h
  · intro s m tag v
    generalize hf : forced v _ = w
    dsimp only
    rintro ⟨hw, h⟩
    exact purlRequal_ends rfl hw hf h
  · intro s m tag v
    generalize hf : forced v _ = w
    dsimp only
    rintro ⟨hw, h⟩
    exact purlRequal_refused rfl hw hf h

end Sys2Proof.Machine

namespace Sys2Proof.Machine
open Csr

/-! ## A register file that holds a reset value -/

/-- A register file in which TOP_ID has a cell of its own, which holds its reset value. -/
def idWritten : State := { State.reset with csr := [(0, 0x08807A4E)] }

/-- A description of the register at TOP_ID's address that gives no field and so another reset value. -/
def bareId : Reg := ⟨0, 1, 0, 1, 0, .none, []⟩

theorem idWritten_before : idWritten.rdReg bareId = 0x08807A4E := by decide

/-- A write of TOP_ID stores its reset value, and a reset value has no cell. -/
theorem idWritten_after (w : Word) : (idWritten.written TOP_ID 0 0 w).rdReg bareId = 0 := by
  have hmerge : Hit.merge ⟨TOP_ID, 0, 0, 0⟩ (idWritten.rdReg TOP_ID) w = TOP_ID.resetWord 0 0 := rfl
  unfold State.written
  rw [hmerge]
  decide

/-- Refutes O8, in the clause for TOP's first register: `OtherRegs []` has every description of a register read as before, and at
`idWritten` the write removes the cell at TOP_ID's address, so `bareId` no longer reads the value that the cell held. -/
theorem not_blockEnable : ¬ Obligations.BlockEnable := by
  unfold Obligations.BlockEnable
  intro ⟨_, _, htop, _⟩
  have hw : Writable idWritten .host TOP_ID 0 (forced 0 [(enableOf 0, 1)]) := by decide
  have hwritten : Does (.blockEnableWrite .host 0 0 0) idWritten [.csr, .out, .intc] (fun t => t.rdReg bareId = 0) :=
    does_write (k := []) 0 rfl rfl (by decide) (by decide) hw rfl .refl (by decide)
      ((answered_rdReg _ _ _ _ _ _ _ _).trans (idWritten_after _))
  obtain ⟨t, hexec, _, hregs, _⟩ := htop idWritten .host 0 0 hw
  obtain ⟨u, hexec', _, hread⟩ := hwritten
  rw [hexec] at hexec'
  cases hexec'
  rw [hregs bareId 0 0 List.not_mem_nil, idWritten_before] at hread
  exact absurd hread (by decide)

end Sys2Proof.Machine

namespace Sys2Proof.Machine
open Csr

/-! ## A cast-on that fails (R435) -/

section
variable (s : State)

/-- The line queues stand in block 2. -/
theorem lineQueues_outside (on : Bool) : OutsideBlock 2 s (s.lineQueues on) := by
  unfold State.lineQueues
  refine OutsideBlock.foldl (fun u i hi => ?_) s
  extract_lets q
  have hq : Q_CFG.addr q 0 / 0x100000 = 2 := by
    have hbase : u.lineBase < 2 ^ 13 := get_lt _ _ _ _
    have hi' : i < 2064 := List.mem_range.mp hi
    have hq' : q = u.lineBase + i := rfl
    show (0x201000 + q * 0x40 + 0 * 0) / 0x100000 = 2
    omega
  exact .andSet (.andSet (.andSet .refl hq) hq) hq

/-- The registers that the choice of a time source sets. -/
theorem sourceUpdate_otherRegs : OtherRegs [TIME_STATUS.addr 0 0, TIME_INC.addr 0 0] s s.sourceUpdate := by
  unfold State.sourceUpdate
  extract_lets src
  split
  · exact .andPutInc (.andServo .refl (by decide)) (by decide)
  · split
    · exact .andServo (.of_csr rfl) (by decide)
    · exact .refl

/-- The registers that the end of any block sets. -/
def offRegs : List Nat :=
  blockRegs 2 ++ TIME_INC.addr 0 0 :: ((List.range 18).map (fun b => (ctrlReg b).addr 0 0) ++ (List.range 18).map (fun b => (statusReg b).addr 0 0))

theorem mem_offRegs {a : Nat} : a ∈ offRegs ↔ a / 0x100000 = 2 ∨ a ∈ TIME_INC.addr 0 0 ::
    ((List.range 18).map (fun b => (ctrlReg b).addr 0 0) ++ (List.range 18).map (fun b => (statusReg b).addr 0 0)) := by
  rw [offRegs, List.mem_append, mem_blockRegs]

theorem blockOff_otherRegs {b : Nat} (hb : b < 18) : OtherRegs offRegs s (s.blockOff b) := by
  have hctrl : (ctrlReg b).addr 0 0 ∈ offRegs := by
    rw [mem_offRegs]
    exact .inr (.tail _ (List.mem_append_left _ (List.mem_map_of_mem (f := fun b => (ctrlReg b).addr 0 0) (List.mem_range.mpr hb))))
  have hstatus : (statusReg b).addr 0 0 ∈ offRegs := by
    rw [mem_offRegs]
    exact .inr (.tail _ (List.mem_append_right _ (List.mem_map_of_mem (f := fun b => (statusReg b).addr 0 0) (List.mem_range.mpr hb))))
  unfold State.blockOff
  extract_lets c u
  have hu : OtherRegs offRegs s u := .andSet (.andSet (.of_csr rfl) hctrl) hstatus
  clear_value u
  split
  · exact hu.trans ((lineQueues_outside u false).otherRegs (List.subset_append_left _ _))
  · split
    · exact hu.trans ((sourceUpdate_otherRegs u).mono (by
        intro a ha
        rw [mem_offRegs]
        revert a
        decide))
    · exact .andGoes hu intcUpdate_goes (by decide)

end

section
variable (s : State) (r : Nat)

/-- The state in which a failure of the memory is kept, where cast-on fails in its training or its test. -/
def State.memFailing : State := if s.phase = 6 ∨ s.phase = 7 then { s with keep := { s.keep with memFailed := true } } else s

/-- The state in which no check runs. -/
def State.unchecked : State := { s with ctl := { s.ctl with checking := [] } }

/-- The state of a failed cast-on before its blocks end. -/
def State.castFailing : State :=
  ((s.memFailing.health { reason := r, kind := 6, level := 4, body := le 1 s.phase }).toPhase 0x0E).unchecked

/-- The blocks that a failed cast-on ends. -/
def State.castBlocks : List Nat := [2, 3, 4, 5, 6, 7, 8, 9, 10, 11, 12, 13, 14, 15, 17].filter (fun b => s.on (enableOf b))

theorem castFail_eq : s.castFail r = (((s.castFailing r).castBlocks.foldl State.blockOff (s.castFailing r))).handOver r := rfl

theorem memFailing_keep : s.memFailing.keep = { s.keep with memFailed := s.keep.memFailed || decide (s.phase = 6 ∨ s.phase = 7) } := by
  unfold State.memFailing
  split
  next h => simp [h]
  next h => simp [h]

theorem memFailing_csr : s.memFailing.csr = s.csr := by
  unfold State.memFailing
  split <;> rfl

theorem memFailing_hlth : s.memFailing.hlth = s.hlth := by
  unfold State.memFailing
  split <;> rfl

theorem unchecked_goes : Goes [.ctl] s s.unchecked := .ctl .refl (by decide)

theorem castFailing_goes : Goes [.csr, .mem, .poison, .out, .freeCtr, .intc, .myk, .hlth, .ctl] s.memFailing (s.castFailing r) :=
  .step (.step (.step .refl health_goes (by decide)) toPhase_goes (by decide)) (unchecked_goes _) (by decide)

theorem castFailing_logSeq : (s.castFailing r).hlth.logSeq = s.hlth.logSeq + 1 := by
  have h := health_logSeq s.memFailing { reason := r, kind := 6, level := 4, body := le 1 s.phase }
  rw [memFailing_hlth] at h
  exact h

theorem castFailing_otherRegs : OtherRegs (TOP_STATE.addr 0 0 :: healthRegs) s (s.castFailing r) :=
  .andGoes (.andSet (f := TOP_STATE.CAST_PHASE) (.andHealth (.of_csr (memFailing_csr s)) (List.subset_cons_self _ _)) List.mem_cons_self)
    (unchecked_goes _) (by decide)

theorem castFailing_phase : (s.castFailing r).get TOP_STATE.CAST_PHASE = 14 := by
  rw [State.castFailing, get_congr ((unchecked_goes _).only .csr rfl), State.toPhase, get_set_fits _ _ _ _ _ (by decide)]

theorem blockOff_checking (b : Nat) : (s.blockOff b).ctl.checking = s.ctl.checking := by
  unfold State.blockOff
  extract_lets c u
  have hu : u.ctl.checking = s.ctl.checking := rfl
  have hgoes : Goes [.csr, .out, .intc, .time] u (if b = 3 then u.lineQueues false else if b = 14 then u.sourceUpdate else u.intcUpdate) :=
    .ite (.step .refl lineQueues_goes (by decide)) (.ite (.step .refl sourceUpdate_goes (by decide)) (.step .refl intcUpdate_goes (by decide)))
  rw [hgoes.only .ctl rfl, hu]

end

section
variable (s : State) (r : Nat)

/-- The registers that a failed cast-on sets. -/
def failRegs : List Nat := (TOP_STATE.addr 0 0 :: healthRegs) ++ offRegs ++ (TOP_FAULT.addr 0 0 :: sendRegs)

theorem mem_failRegs {a : Nat} : a ∈ failRegs ↔
    (a ∈ TOP_STATE.addr 0 0 :: healthRegs ∨ a ∈ offRegs) ∨ a = TOP_FAULT.addr 0 0 ∨ a ∈ sendRegs := by
  simp only [failRegs, List.mem_append, List.mem_cons]

/-- What a failed cast-on leaves. -/
structure CastFailed (s t : State) (r : Nat) : Prop where
  phase : t.get TOP_STATE.CAST_PHASE = 14
  reason : t.get TOP_FAULT.REASON = r % 2 ^ 16
  active : t.on TOP_FAULT.ACTIVE = true
  checking : t.ctl.checking = []
  logSeq : t.hlth.logSeq = s.hlth.logSeq + 1
  keep : t.keep = { s.keep with memFailed := s.keep.memFailed || decide (s.phase = 6 ∨ s.phase = 7) }
  regs : OtherRegs failRegs s t

theorem castBlocks_lt {b : Nat} (h : b ∈ s.castBlocks) : b < 18 :=
  (by decide : ∀ b ∈ [2, 3, 4, 5, 6, 7, 8, 9, 10, 11, 12, 13, 14, 15, 17], b < 18) b (List.mem_filter.mp h).1

theorem castFail_failed : CastFailed s (s.castFail r) r := by
  have hkeep := (castFailing_goes s r).only .keep rfl
  have hseq := castFailing_logSeq s r
  have hregs := castFailing_otherRegs s r
  have hphase := castFailing_phase s r
  have hcheck : (s.castFailing r).ctl.checking = [] := rfl
  rw [castFail_eq]
  generalize s.castFailing r = u at hkeep hseq hregs hphase hcheck
  have hoff : OtherRegs offRegs u (u.castBlocks.foldl State.blockOff u) :=
    .foldlMem (fun x b hb => blockOff_otherRegs x (castBlocks_lt u hb)) _
  have hgoes : Goes [.csr, .out, .intc, .time, .ctl] u (u.castBlocks.foldl State.blockOff u) :=
    .foldl .refl fun x b h => .step h blockOff_goes (by decide)
  have hchecked : (u.castBlocks.foldl State.blockOff u).ctl.checking = u.ctl.checking :=
    foldl_keeps (read := fun t => t.ctl.checking) (fun t b _ => blockOff_checking t b)
  generalize u.castBlocks.foldl State.blockOff u = v at hoff hgoes hchecked
  obtain ⟨hactive, hreason, hsend⟩ := handOver_fault v r
  have hhand : Goes [.csr, .out, .intc, .pmon, .fab, .grp, .line] v (v.handOver r) := handOver_goes
  refine ⟨?_, hreason, hactive, ?_, ?_, ?_, ?_⟩
  · rw [hsend.get (by simp only [List.mem_cons, mem_sendRegs]; decide), hoff.get (by rw [mem_offRegs]; decide), hphase]
  · rw [hhand.only .ctl rfl, hchecked, hcheck]
  · rw [hhand.only .hlth rfl, hgoes.only .hlth rfl, hseq]
  · rw [hhand.only .keep rfl, hgoes.only .keep rfl, hkeep, memFailing_keep]
  · exact ((hregs.mono (List.Subset.trans (List.subset_append_left _ _) (List.subset_append_left _ _))).trans
      (hoff.mono (List.Subset.trans (List.subset_append_right _ _) (List.subset_append_left _ _)))).trans (hsend.mono (List.subset_append_right _ _))

end

section
variable {s : State}

theorem inPhase {n : Nat} (h : s.get TOP_STATE.CAST_PHASE = n) : ¬ s.phase ≠ n := not_not.mpr h

/-- The end of SRAM with too many failing rows (R424). -/
theorem sramDone_fails {map : Bytes} (h : s.get TOP_STATE.CAST_PHASE = 5) :
    Does (.sramDone true map) s [.csr, .mem, .poison, .out, .freeCtr, .intc, .myk, .pmon, .hlth, .fab, .time, .grp, .ctl, .keep, .line]
      (fun t => t.get TOP_STATE.CAST_PHASE = 14 ∧ t.get TOP_FAULT.REASON = 0x0051 ∧ t.hlth.logSeq = s.hlth.logSeq + 1 ∧
        t.keep.memFailed = s.keep.memFailed) := by
  have hexec : exec (.sramDone true map) s = .next (s.castFail 0x0051) := by
    show execSramDone true map s = _
    unfold execSramDone
    rw [if_neg (inPhase h), if_pos rfl]
  have hfail := castFail_failed s 0x0051
  refine .of_goes hexec castFail_goes ⟨hfail.phase, hfail.reason, hfail.logSeq, ?_⟩
  rw [hfail.keep]
  simp [State.phase, h]

/-- MEMTRAIN that finds a channel that does not train (R425). -/
theorem memtrainDone_fails {x : TrainInput} {c : Fin 128} (h : s.get TOP_STATE.CAST_PHASE = 6 ∧ x.failed = some c ∧ s.keep.trained = false) :
    Does (.memtrainDone x) s [.csr, .mem, .poison, .out, .freeCtr, .intc, .myk, .pmon, .hlth, .fab, .time, .grp, .ctl, .keep, .line]
      (fun t => t.get TOP_STATE.CAST_PHASE = 14 ∧ t.get TOP_FAULT.REASON = 0x004D ∧ t.get MEM_ERR_LOG.CHANNEL = c ∧ t.keep.memFailed = true) := by
  obtain ⟨hphase, hchannel, huntrained⟩ := h
  have hexec : exec (.memtrainDone x) s =
      .next ((((s.report 0x004C).set MEM_ERR_LOG.REASON 0x004D).set MEM_ERR_LOG.CHANNEL c.val).castFail 0x004D) := by
    show execMemtrainDone x s = _
    unfold execMemtrainDone
    rw [if_neg (inPhase hphase)]
    simp only [huntrained, hchannel, Bool.not_false, Bool.true_or, Bool.or_true, if_true, Option.filter_some]
  have hlog : Goes [.csr, .out] s (((s.report 0x004C).set MEM_ERR_LOG.REASON 0x004D).set MEM_ERR_LOG.CHANNEL c.val) :=
    .step (.step (.step .refl report_goes (by decide)) set_goes (by decide)) set_goes (by decide)
  have hset : (((s.report 0x004C).set MEM_ERR_LOG.REASON 0x004D).set MEM_ERR_LOG.CHANNEL c.val).get MEM_ERR_LOG.CHANNEL = c.val :=
    get_set_fits _ _ _ _ _ ⟨by decide, c.isLt⟩
  have hsame : (((s.report 0x004C).set MEM_ERR_LOG.REASON 0x004D).set MEM_ERR_LOG.CHANNEL c.val).phase = 6 := by
    rw [State.phase, get_set_far _ _ _ _ (by decide), get_set_far _ _ _ _ (by decide), get_report, hphase]
  generalize ((s.report 0x004C).set MEM_ERR_LOG.REASON 0x004D).set MEM_ERR_LOG.CHANNEL c.val = u at *
  have hfail := castFail_failed u 0x004D
  refine .of_goes hexec (.step (.step .refl hlog (by decide)) castFail_goes (by decide)) ⟨hfail.phase, hfail.reason, ?_, ?_⟩
  · rw [hfail.regs.get (by rw [mem_failRegs, mem_offRegs, mem_sendRegs]; decide), hset]
  · rw [hfail.keep, hsame]
    simp

/-- ENGINES with a block that its bundle enables and that is not enabled (R432). -/
theorem enginesStageDone_fails (h : s.get TOP_STATE.CAST_PHASE = 10 ∧ s.ctl.checking = [] ∧ s.boot.turn = [] ∧ s.stageFailed = true) :
    Does (.enginesStageDone) s [.csr, .mem, .poison, .out, .freeCtr, .intc, .myk, .pmon, .hlth, .fab, .time, .grp, .ctl, .keep, .line]
      (fun t => t.get TOP_STATE.CAST_PHASE = 14 ∧ t.get TOP_FAULT.REASON = 0x0054 ∧ t.keep = s.keep) := by
  obtain ⟨hphase, hcheck, hturn, hfailed⟩ := h
  have hexec : exec (.enginesStageDone) s = .next (s.castFail 0x0054) := by
    show execEnginesStageDone s = _
    unfold execEnginesStageDone
    rw [if_neg (by simp [State.phase, hphase, hcheck, hturn]), if_pos hfailed]
  have hfail := castFail_failed s 0x0054
  refine .of_goes hexec castFail_goes ⟨hfail.phase, hfail.reason, ?_⟩
  rw [hfail.keep]
  simp [State.phase, hphase]

/-- A phase that takes too long (R435). -/
theorem castPhaseTimeout_fails
    (h : 1 ≤ s.get TOP_STATE.CAST_PHASE ∧ s.get TOP_STATE.CAST_PHASE ≤ 10 ∧ s.get TOP_STATE.CAST_PHASE ≠ 4) :
    Does (.castPhaseTimeout) s [.csr, .mem, .poison, .out, .freeCtr, .intc, .myk, .pmon, .hlth, .fab, .time, .grp, .ctl, .keep, .line]
      (fun t => t.get TOP_STATE.CAST_PHASE = 14 ∧ t.get TOP_FAULT.REASON = 0x0055 ∧ t.on TOP_FAULT.ACTIVE = true ∧ t.ctl.checking = [] ∧
        t.keep.memFailed = (s.keep.memFailed || decide (s.get TOP_STATE.CAST_PHASE = 6 ∨ s.get TOP_STATE.CAST_PHASE = 7))) := by
  have hexec : exec (.castPhaseTimeout) s = .next (s.castFail 0x0055) := if_pos h
  have hfail := castFail_failed s 0x0055
  refine .of_goes hexec castFail_goes ⟨hfail.phase, hfail.reason, hfail.active, hfail.checking, ?_⟩
  rw [hfail.keep]
  rfl

/-- BUNDLE_WAIT has no time limit (R435). -/
theorem castPhaseTimeout_waits (h : s.get TOP_STATE.CAST_PHASE = 4) :
    Does (.castPhaseTimeout) s [] (fun t => t.get TOP_STATE.CAST_PHASE = 4) :=
  .of_goes (t := s) (if_neg (by simp [State.phase, h])) .refl h

end

end Sys2Proof.Machine

namespace Sys2Proof.Machine
open Csr

/-! ## ROM and SECURE (R418, R419) -/

section
variable (s : State)

theorem castRecord_otherRegs (r : Nat) : OtherRegs healthRegs s (s.castRecord r) := .andHealth (.andReport .refl) (List.Subset.refl _)

/-- What a cast-on that halts leaves. -/
theorem castHalt_effect : s.castHalt.get TOP_STATE.CAST_PHASE = 15 ∧ s.castHalt.get TOP_FAULT.REASON = 0x0045 ∧
    OtherRegs (TOP_STATE.addr 0 0 :: TOP_FAULT.addr 0 0 :: healthRegs) s s.castHalt := by
  unfold State.castHalt
  have hhealth := health_otherRegs s { reason := 0x0045, kind := 6, level := 4 }
  generalize s.health { reason := 0x0045, kind := 6, level := 4 } = u at hhealth
  have hphase : (u.toPhase 15).get TOP_STATE.CAST_PHASE = 15 := get_set_fits _ _ _ _ _ (by decide)
  have hfault := moduleFault_otherRegs (u.toPhase 15) 0x0045
  refine ⟨?_, moduleFault_reason _ _, ?_⟩
  · rw [hfault.get (by decide), hphase]
  · exact .trans (.andSet (f := TOP_STATE.CAST_PHASE) (hhealth.mono (List.Subset.trans (List.subset_cons_self _ _) (List.subset_cons_self _ _)))
      List.mem_cons_self) (hfault.mono (by simp))

section
variable (b : Banks) (floor r : Nat)

theorem pickFirmware_picks : (s.pickFirmware b floor r).1 = b.pick (fun o => o.verified Config.vendorAnchor && decide (floor ≤ o.version)) := rfl

theorem pickFirmware_otherRegs : OtherRegs healthRegs s (s.pickFirmware b floor r).2 := by
  unfold State.pickFirmware
  extract_lets good first u
  show OtherRegs healthRegs s u
  unfold u
  clear u
  clear_value first
  split
  · exact castRecord_otherRegs s _
  · split
    · exact .refl
    · exact castRecord_otherRegs s _

end

/-- The state in which ROM has read the fuses and the banks of security firmware. -/
def State.romRead (f : Fuses) (b : Banks) : State :=
  let s := ((s.set TOP_REV.HW_REV f.hwRev.toNat).set TOP_SERIAL.SERIAL f.serial.toNat 0).set TOP_SERIAL.SERIAL (f.serial.toNat / 2 ^ 64) 1
  { s with keep := { s.keep with secFw := b } }

/-- The state in which security firmware is taken of a bank. -/
def State.bankTaken (i : Bool) : State := { s with keep := { s.keep with secBank := i } }

/-- The state in which security firmware of a bank runs. -/
def State.securityStarted (i : Bool) (o : SignedObj) : State :=
  ((((s.bankTaken i).extend 0 o.digest).set TOP_FW.SEC_FW_VERSION o.version).set TOP_CORE.SEC_STATE 1).toPhase 2

/-- The firmware of the bank that verifies, at or above its floor (R418). -/
def firmwareIn (b : Banks) (floor : Nat) : Option (Bool × SignedObj) :=
  b.pick (fun o => o.verified Config.vendorAnchor && decide (floor ≤ o.version))

theorem pickFirmware_eq (b : Banks) (floor r : Nat) : s.pickFirmware b floor r = (firmwareIn b floor, (s.pickFirmware b floor r).2) := rfl

section
variable {s : State} {f : Fuses} {banks : Banks} (h : s.get TOP_STATE.CAST_PHASE = 1)
include h

theorem execRomDone_halts (hpick : firmwareIn (s.keep.secFw.join banks) s.keep.floorSec = none) : exec (.romDone f banks) s =
    .next (((s.romRead f (s.keep.secFw.join banks)).pickFirmware (s.keep.secFw.join banks) s.keep.floorSec 0x0042).2.castHalt) := by
  show execRomDone f banks s = _
  unfold execRomDone
  rw [if_neg (inPhase h)]
  extract_lets u b k v
  rw [pickFirmware_eq, show firmwareIn b v.keep.floorSec = none from hpick]
  rfl

theorem execRomDone_starts {i : Bool} {o : SignedObj} (hpick : firmwareIn (s.keep.secFw.join banks) s.keep.floorSec = some (i, o)) :
    exec (.romDone f banks) s =
      .next (((s.romRead f (s.keep.secFw.join banks)).pickFirmware (s.keep.secFw.join banks) s.keep.floorSec 0x0042).2.securityStarted i o) := by
  show execRomDone f banks s = _
  unfold execRomDone
  rw [if_neg (inPhase h)]
  extract_lets u b k v
  rw [pickFirmware_eq, show firmwareIn b v.keep.floorSec = some (i, o) from hpick]
  rfl

end

section
variable (f : Fuses) (b : Banks)

/-- What ROM reads of the fuses. -/
structure FusesRead (s t : State) (f : Fuses) : Prop where
  rev : t.get TOP_REV.HW_REV = f.hwRev.toNat
  low : t.get TOP_SERIAL.SERIAL 0 = f.serial.toNat % 2 ^ 64
  high : t.get TOP_SERIAL.SERIAL 1 = f.serial.toNat / 2 ^ 64
  measured : ∀ r < 16, t.measurement r = s.measurement r

theorem measureRegs_block {r a : Nat} (hr : r < 16) (ha : a ∈ measureRegs r) : a / 0x100000 = 10 := by
  obtain ⟨k, hk, rfl⟩ := List.mem_map.mp ha
  exact Reg.addr_block (r := CIPH_MEASURE) (by decide) hr (List.mem_range.mp hk)

/-- Registers outside the cipher's block leave the measurements. -/
theorem OtherRegs.measured {l : List Nat} {s t : State} (h : OtherRegs l s t) (hl : ∀ a ∈ l, a / 0x100000 ≠ 10) {r : Nat} (hr : r < 16) :
    t.measurement r = s.measurement r := h.measurement fun a ha hin => hl a hin (measureRegs_block hr ha)

theorem romRead_fuses : FusesRead s (s.romRead f b) f := by
  have hcsr : (s.romRead f b).csr =
      (((s.set TOP_REV.HW_REV f.hwRev.toNat).set TOP_SERIAL.SERIAL f.serial.toNat 0).set TOP_SERIAL.SERIAL (f.serial.toNat / 2 ^ 64) 1).csr := rfl
  have hregs : OtherRegs [TOP_REV.addr 0 0, TOP_SERIAL.addr 0 0, TOP_SERIAL.addr 1 0] s (s.romRead f b) :=
    .andCsr (.andSet (f := TOP_SERIAL.SERIAL) (.andSet (f := TOP_SERIAL.SERIAL) (.andSet (f := TOP_REV.HW_REV) .refl (by decide)) (by decide))
      (by decide)) hcsr
  have hserial : f.serial.toNat / 2 ^ 64 < 2 ^ 64 := by have := f.serial.isLt; omega
  refine ⟨?_, ?_, ?_, fun r hr => hregs.measured (by decide) hr⟩
  · rw [get_congr hcsr, get_set_far _ _ _ _ (by decide), get_set_far _ _ _ _ (by decide), get_set_fits _ _ _ _ _ ⟨by decide, f.hwRev.isLt⟩]
  · rw [get_congr hcsr, get_set_far _ _ _ _ (by decide), get_set_mod _ _ _ _ _ (by decide)]
    rfl
  · rw [get_congr hcsr, get_set_fits _ _ _ _ _ ⟨by decide, hserial⟩]

theorem FusesRead.after {s u t : State} {l : List Nat} {f : Fuses} (h : FusesRead s u f) (k : OtherRegs l u t) (hl : ∀ a ∈ l, a / 0x100000 ≠ 10)
    (hrev : TOP_REV.addr 0 0 ∉ l) (hlow : TOP_SERIAL.addr 0 0 ∉ l) (hhigh : TOP_SERIAL.addr 1 0 ∉ l) : FusesRead s t f :=
  ⟨(k.get hrev).trans h.rev, (k.get hlow).trans h.low, (k.get hhigh).trans h.high, fun r hr => (k.measured hl hr).trans (h.measured r hr)⟩

end

/-- What the start of security firmware leaves. -/
theorem securityStarted_effect (i : Bool) (o : SignedObj) : let t := s.securityStarted i o
    t.get TOP_STATE.CAST_PHASE = 2 ∧ t.keep = { s.keep with secBank := i } ∧ t.get TOP_CORE.SEC_STATE = 1 ∧
      t.measurement 0 = sha256 (s.measurement 0 ++ padTo 32 o.digest) ∧
      OtherRegs (measureRegs 0 ++ [TOP_FW.addr 0 0, TOP_CORE.addr 0 0, TOP_STATE.addr 0 0]) s t := by
  have hmeasure : ((s.bankTaken i).extend 0 o.digest).measurement 0 = sha256 (s.measurement 0 ++ padTo 32 o.digest) :=
    extend_measurement (s.bankTaken i) 0 o.digest
  have hextend : OtherRegs (measureRegs 0) s ((s.bankTaken i).extend 0 o.digest) :=
    .trans (.of_csr rfl) (extend_otherRegs (s.bankTaken i) 0 o.digest)
  have hkeep : ((s.bankTaken i).extend 0 o.digest).keep = { s.keep with secBank := i } := extend_goes.only .keep rfl
  unfold State.securityStarted
  generalize (s.bankTaken i).extend 0 o.digest = u at hmeasure hextend hkeep
  have hregs : OtherRegs [TOP_FW.addr 0 0, TOP_CORE.addr 0 0, TOP_STATE.addr 0 0] u
      (((u.set TOP_FW.SEC_FW_VERSION o.version).set TOP_CORE.SEC_STATE 1).toPhase 2) :=
    .andSet (f := TOP_STATE.CAST_PHASE) (.andSet (f := TOP_CORE.SEC_STATE) (.andSet (f := TOP_FW.SEC_FW_VERSION) .refl (by decide)) (by decide))
      (by decide)
  have hgoes : Goes [.csr] u (((u.set TOP_FW.SEC_FW_VERSION o.version).set TOP_CORE.SEC_STATE 1).toPhase 2) :=
    .step (.step (.step .refl set_goes (by decide)) set_goes (by decide)) toPhase_goes (by decide)
  refine ⟨get_set_fits _ _ _ _ _ (by decide), (hgoes.only .keep rfl).trans hkeep, ?_, (hregs.measured (by decide) (by decide)).trans hmeasure, ?_⟩
  · rw [State.toPhase, get_set_far _ _ _ _ (by decide), get_set_fits _ _ _ _ _ (by decide)]
  · exact (hextend.mono (List.subset_append_left _ _)).trans (hregs.mono (List.subset_append_right _ _))

end

section
variable {s : State} {f : Fuses} {banks : Banks}

/-- ROM (R418): security firmware of the bank that verifies starts, or cast-on halts. -/
theorem romDone_reads (h : s.get TOP_STATE.CAST_PHASE = 1) :
    Does (.romDone f banks) s [.csr, .mem, .poison, .out, .freeCtr, .intc, .myk, .hlth, .keep] (fun t =>
      t.get TOP_REV.HW_REV = f.hwRev.toNat ∧ t.get TOP_SERIAL.SERIAL 0 = f.serial.toNat % 2 ^ 64 ∧
          t.get TOP_SERIAL.SERIAL 1 = f.serial.toNat / 2 ^ 64 ∧ t.keep.secFw = s.keep.secFw.join banks ∧
      (firmwareIn (s.keep.secFw.join banks) s.keep.floorSec = none → t.get TOP_STATE.CAST_PHASE = 15 ∧ t.get TOP_FAULT.REASON = 0x0045) ∧
      (∀ x ∈ firmwareIn (s.keep.secFw.join banks) s.keep.floorSec, t.get TOP_STATE.CAST_PHASE = 2 ∧ t.keep.secBank = x.1 ∧
          t.get TOP_CORE.SEC_STATE = 1 ∧ t.measurement 0 = sha256 (s.measurement 0 ++ padTo 32 x.2.digest))) := by
  have hhalt := execRomDone_halts (f := f) (banks := banks) h
  have hstart := fun i o => execRomDone_starts (f := f) (banks := banks) h (i := i) (o := o)
  have hnext : GoesNext [.csr, .mem, .poison, .out, .freeCtr, .intc, .myk, .hlth, .keep] s (exec (.romDone f banks) s) := execRomDone_goes
  generalize s.keep.secFw.join banks = b at hhalt hstart
  have hread := romRead_fuses s f b
  have hkeep : (s.romRead f b).keep = { s.keep with secFw := b } := rfl
  generalize s.romRead f b = u at hhalt hstart hread hkeep
  have hpick : FusesRead s (u.pickFirmware b s.keep.floorSec 0x0042).2 f :=
    hread.after (pickFirmware_otherRegs u b _ _) (by decide) (by decide) (by decide) (by decide)
  have hpicked : (u.pickFirmware b s.keep.floorSec 0x0042).2.keep = { s.keep with secFw := b } :=
    (Goes.snd pickFirmware_goes |>.only .keep rfl).trans hkeep
  generalize (u.pickFirmware b s.keep.floorSec 0x0042).2 = v at hhalt hstart hpick hpicked
  cases hfound : firmwareIn b s.keep.floorSec with
  | none =>
    obtain ⟨hphase, hreason, hregs⟩ := castHalt_effect v
    have hfuses : FusesRead s v.castHalt f := hpick.after hregs (by decide) (by decide) (by decide) (by decide)
    refine .of_next (hhalt hfound) hnext ⟨hfuses.rev, hfuses.low, hfuses.high, ?_, fun _ => ⟨hphase, hreason⟩, fun x hx => ?_⟩
    · rw [castHalt_goes.only .keep rfl, hpicked]
    · cases hx
  | some x =>
    obtain ⟨i, o⟩ := x
    obtain ⟨hphase, hbank, hcore, hmeasure, hregs⟩ := securityStarted_effect v i o
    refine .of_next (hstart i o hfound) hnext ⟨?_, ?_, ?_, ?_, fun hnone => ?_, fun x hx => ?_⟩
    · rw [hregs.get (by decide), hpick.rev]
    · rw [hregs.get (by decide), hpick.low]
    · rw [hregs.get (by decide), hpick.high]
    · rw [hbank, hpicked]
    · cases hnone
    · cases hx
      refine ⟨hphase, ?_, hcore, ?_⟩
      · rw [hbank]
      · rw [hmeasure, hpick.measured 0 (by decide)]

end

end Sys2Proof.Machine

namespace Sys2Proof.Machine
open Csr

theorem measureRegs_apart : ∀ a ∈ measureRegs 1, a ∉ measureRegs 2 ++ measureRegs 3 ++ measureRegs 6 ++ measureRegs 7 := by decide

/-- The registers that SECURE sets once module firmware has verified. -/
def secureRegs : List Nat :=
  CIPH_SECURITY.addr 0 0 :: TOP_REV.addr 0 0 :: healthRegs ++ (measureRegs 2 ++ measureRegs 3 ++ measureRegs 6 ++ measureRegs 7)

theorem measured_of_secureRegs {s t : State} (h : OtherRegs secureRegs s t) : t.measurement 1 = s.measurement 1 := by
  refine h.measurement fun a ha hin => ?_
  rcases List.mem_append.mp hin with hout | hin
  · have hnot : ∀ a ∈ measureRegs 1, a ∉ CIPH_SECURITY.addr 0 0 :: TOP_REV.addr 0 0 :: healthRegs := by decide
    exact hnot a ha hout
  · exact measureRegs_apart a ha hin

theorem extend_secureRegs (s : State) (d : Bytes) {r : Nat} (hr : r ∈ [2, 3, 6, 7]) : OtherRegs secureRegs s (s.extend r d) :=
  (extend_otherRegs s r d).mono (by
    refine List.Subset.trans ?_ (List.subset_append_right _ _)
    revert r
    decide)

/-- Only registers of `secureRegs` change, and nothing that is kept. -/
def SecureStays (s t : State) : Prop := OtherRegs secureRegs s t ∧ t.keep = s.keep

theorem SecureStays.trans {a s t : State} (h : SecureStays a s) (k : SecureStays s t) : SecureStays a t := ⟨h.1.trans k.1, k.2.trans h.2⟩

theorem extend_stays (s : State) (d : Bytes) {r : Nat} (hr : r ∈ [2, 3, 6, 7]) : SecureStays s (s.extend r d) :=
  ⟨extend_secureRegs s d hr, extend_goes.only .keep rfl⟩

/-- The state in which a manifest's body is in force. -/
def State.manifestRead (s : State) (b : Bytes) : State := { s with boot := { s.boot with manifest := b } }

theorem manifestRead_stays (s : State) (b : Bytes) (v : Nat) (d : Bytes) :
    SecureStays s (((s.manifestRead b).set TOP_REV.MANIFEST_VERSION v).extend 2 d) := by
  refine SecureStays.trans ⟨?_, ?_⟩ (extend_stays _ d (by decide))
  · exact .andSet (f := TOP_REV.MANIFEST_VERSION) (.of_csr rfl) (.tail _ List.mem_cons_self)
  · exact set_goes.only .keep rfl

theorem castRecord_stays (s : State) (r : Nat) : SecureStays s (s.castRecord r) :=
  ⟨(castRecord_otherRegs s r).mono (fun a ha => List.mem_append_left _ (.tail _ (.tail _ ha))), castRecord_goes.only .keep rfl⟩

theorem takeBundle_stays (s : State) (o : SignedObj) : SecureStays s (s.takeBundle o) := by
  unfold State.takeBundle
  exact SecureStays.trans ⟨.of_csr rfl, rfl⟩ (extend_stays _ o.digest (by decide))

section
variable (s : State) (x : SecureInput) (o : SignedObj)

/-- What security firmware leaves of manifest, bundle, owner and repair map (R419). -/
theorem secureRest_effect : let t := s.secureRest x o
    t.measurement 1 = sha256 (s.measurement 1 ++ padTo 32 o.digest) ∧
      t.keep = { s.keep with manifests := s.keep.manifests.join x.manifests, bundles := s.keep.bundles.join x.bundles } := by
  unfold State.secureRest
  extract_lets c1 s1 mans buns k1 s2 s3 b1 s4 ok s5 s6 pair gen
  have h1 : SecureStays s s1 := by
    unfold s1
    split
    · exact ⟨.refl, rfl⟩
    · exact ⟨.andSet (f := CIPH_SECURITY.OWNER_BANK) (.of_csr rfl) List.mem_cons_self, rfl⟩
  have hread : OtherRegs secureRegs s s2 := .andCsr h1.1 rfl
  have hkeep : s2.keep = { s.keep with manifests := s.keep.manifests.join x.manifests, bundles := s.keep.bundles.join x.bundles } := by
    unfold s2 k1 mans buns
    rw [h1.2]
  clear_value s1 s2
  have h3 : s3.measurement 1 = sha256 (s.measurement 1 ++ padTo 32 o.digest) ∧ s3.keep = s2.keep := by
    refine ⟨?_, extend_goes.only .keep rfl⟩
    unfold s3
    rw [extend_measurement, measured_of_secureRegs hread]
  clear_value s3
  have h4 : SecureStays s3 s4 := by
    unfold s4
    split
    · exact ⟨.refl, rfl⟩
    · exact manifestRead_stays s3 _ _ _
  clear_value s4
  have h5 : SecureStays s4 s5 := by
    unfold s5
    split
    · exact ⟨.refl, rfl⟩
    · refine SecureStays.trans ?_ (takeBundle_stays _ _)
      split
      · exact ⟨.refl, rfl⟩
      · exact castRecord_stays s4 _
  clear_value s5
  have h6 : SecureStays s5 s6 := (extend_stays s5 _ (by decide)).trans (extend_stays _ _ (by decide))
  clear_value s6
  have hfresh : Goes [.freeCtr] s6 gen.2 := .step (.step .refl fresh_goes (by decide)) fresh_goes (by decide)
  have hcsr : gen.2.csr = s6.csr := hfresh.only .csr rfl
  have hkept : gen.2.keep = s6.keep := hfresh.only .keep rfl
  clear_value gen pair
  have hall : SecureStays s3 s6 := (h4.trans h5).trans h6
  refine ⟨?_, hkept.trans (hall.2.trans (h3.2.trans hkeep))⟩
  rw [← h3.1, ← measured_of_secureRegs hall.1]
  exact measured_of_secureRegs (.of_csr hcsr)

/-- The state in which management firmware of a bank is taken, at its version. -/
def State.moduleTaken (i : Bool) (v : Nat) : State := ({ s with keep := { s.keep with mgmtBank := i } } : State).set TOP_FW.MGMT_FW_VERSION v

theorem moduleTaken_keep (i : Bool) (v : Nat) : (s.moduleTaken i v).keep = { s.keep with mgmtBank := i } := rfl

/-- The state in which SECURE has found the banks of module firmware. -/
def State.banksRead (b : Banks) : State := { s with keep := { s.keep with mgmtFw := b } }

end

section
variable {s : State} {x : SecureInput} (h : s.get TOP_STATE.CAST_PHASE = 2)
include h

theorem execSecureDone_halts (hpick : firmwareIn (s.keep.mgmtFw.join x.mgmtFw) s.keep.floorMgmt = none) : exec (.secureDone x) s =
    .next (((s.banksRead (s.keep.mgmtFw.join x.mgmtFw)).pickFirmware (s.keep.mgmtFw.join x.mgmtFw) s.keep.floorMgmt 0x0043).2.castHalt) := by
  show execSecureDone x s = _
  unfold execSecureDone
  rw [if_neg (inPhase h)]
  extract_lets b k v
  rw [pickFirmware_eq, show firmwareIn b v.keep.floorMgmt = none from hpick]
  rfl

theorem execSecureDone_starts {i : Bool} {o : SignedObj} (hpick : firmwareIn (s.keep.mgmtFw.join x.mgmtFw) s.keep.floorMgmt = some (i, o)) :
    exec (.secureDone x) s =
      .next (((((((s.banksRead (s.keep.mgmtFw.join x.mgmtFw)).pickFirmware (s.keep.mgmtFw.join x.mgmtFw) s.keep.floorMgmt 0x0043).2.moduleTaken i
        o.version).secureRest x o).set TOP_CORE.MGMT_STATE 1).toPhase 3)) := by
  show execSecureDone x s = _
  unfold execSecureDone
  rw [if_neg (inPhase h)]
  extract_lets b k v
  rw [pickFirmware_eq, show firmwareIn b v.keep.floorMgmt = some (i, o) from hpick]
  rfl

/-- SECURE (R419): management firmware of the bank that verifies starts, with what its banks held of manifest and bundle, or cast-on
halts. -/
theorem secureDone_reads :
    Does (.secureDone x) s [.csr, .mem, .poison, .out, .freeCtr, .intc, .myk, .hlth, .ciph, .boot, .keep] (fun t =>
      (firmwareIn (s.keep.mgmtFw.join x.mgmtFw) s.keep.floorMgmt = none → t.get TOP_STATE.CAST_PHASE = 15 ∧ t.get TOP_FAULT.REASON = 0x0045) ∧
      (∀ y ∈ firmwareIn (s.keep.mgmtFw.join x.mgmtFw) s.keep.floorMgmt, t.get TOP_STATE.CAST_PHASE = 3 ∧ t.keep.mgmtBank = y.1 ∧
          t.get TOP_CORE.MGMT_STATE = 1 ∧ t.measurement 1 = sha256 (s.measurement 1 ++ padTo 32 y.2.digest)) ∧
      (firmwareIn (s.keep.mgmtFw.join x.mgmtFw) s.keep.floorMgmt ≠ none →
        t.keep.bundles = s.keep.bundles.join x.bundles ∧ t.keep.manifests = s.keep.manifests.join x.manifests)) := by
  have hhalt := execSecureDone_halts (x := x) h
  have hstart := fun i o => execSecureDone_starts (x := x) h (i := i) (o := o)
  have hnext : GoesNext [.csr, .mem, .poison, .out, .freeCtr, .intc, .myk, .hlth, .ciph, .boot, .keep] s (exec (.secureDone x) s) :=
    execSecureDone_goes
  generalize s.keep.mgmtFw.join x.mgmtFw = b at hhalt hstart
  have hread : OtherRegs secureRegs s (s.banksRead b) := .of_csr rfl
  have hkeep : (s.banksRead b).keep = { s.keep with mgmtFw := b } := rfl
  generalize s.banksRead b = u at hhalt hstart hread hkeep
  have hpick : OtherRegs secureRegs s (u.pickFirmware b s.keep.floorMgmt 0x0043).2 :=
    hread.trans ((pickFirmware_otherRegs u b _ _).mono (fun a ha => List.mem_append_left _ (.tail _ (.tail _ ha))))
  have hpicked : (u.pickFirmware b s.keep.floorMgmt 0x0043).2.keep = { s.keep with mgmtFw := b } :=
    (Goes.snd pickFirmware_goes |>.only .keep rfl).trans hkeep
  generalize (u.pickFirmware b s.keep.floorMgmt 0x0043).2 = v at hhalt hstart hpick hpicked
  cases hfound : firmwareIn b s.keep.floorMgmt with
  | none =>
    obtain ⟨hphase, hreason, -⟩ := castHalt_effect v
    refine .of_next (hhalt hfound) hnext ⟨fun _ => ⟨hphase, hreason⟩, fun y hy => ?_, fun hne => absurd rfl hne⟩
    cases hy
  | some y =>
    obtain ⟨i, o⟩ := y
    obtain ⟨hmeasure, hrest⟩ := secureRest_effect (v.moduleTaken i o.version) x o
    have hmodule : (v.moduleTaken i o.version).measurement 1 = s.measurement 1 := by
      have hregs : OtherRegs [TOP_FW.addr 0 0] v (v.moduleTaken i o.version) := .andSet (f := TOP_FW.MGMT_FW_VERSION) (.of_csr rfl) (by decide)
      rw [hregs.measured (by decide) (by decide), measured_of_secureRegs hpick]
    rw [hmodule] at hmeasure
    rw [moduleTaken_keep, hpicked] at hrest
    have hexec := hstart i o hfound
    generalize (v.moduleTaken i o.version).secureRest x o = z at hmeasure hrest hexec
    have hregs : OtherRegs [TOP_CORE.addr 0 0, TOP_STATE.addr 0 0] z ((z.set TOP_CORE.MGMT_STATE 1).toPhase 3) :=
      .andSet (f := TOP_STATE.CAST_PHASE) (.andSet (f := TOP_CORE.MGMT_STATE) .refl (by decide)) (by decide)
    have hgoes : Goes [.csr] z ((z.set TOP_CORE.MGMT_STATE 1).toPhase 3) :=
      .step (.step .refl set_goes (by decide)) toPhase_goes (by decide)
    have hz : ((z.set TOP_CORE.MGMT_STATE 1).toPhase 3).keep = _ := (hgoes.only .keep rfl).trans hrest
    refine .of_next hexec hnext ⟨fun hnone => ?_, fun y hy => ?_, fun _ => ⟨?_, ?_⟩⟩
    · cases hnone
    · cases hy
      refine ⟨get_set_fits _ _ _ _ _ (by decide), ?_, ?_, ?_⟩
      · rw [hz]
      · rw [State.toPhase, get_set_far _ _ _ _ (by decide), get_set_fits _ _ _ _ _ (by decide)]
      · rw [hregs.measured (by decide) (by decide), hmeasure]
    · rw [hz]
    · rw [hz]

end

end Sys2Proof.Machine

namespace Sys2Proof.Machine
open Csr

/-! ## COMPAT and the bundle (R421 to R423) -/

section
variable (s : State) (c : Nat × Nat)

theorem clearExport_otherRegs : OtherRegs [CIPH_SECURITY.addr 0 0] s s.clearExport := by
  unfold State.clearExport
  split
  · exact .refl
  · exact .andSet .refl (by decide)

theorem clearExport_restricted : s.clearExport.get CIPH_SECURITY.RESTRICTED = s.get CIPH_SECURITY.RESTRICTED := by
  unfold State.clearExport
  split
  · rfl
  · exact get_set_beside _ _ _ _ _ _ (by decide)

/-- A control that stands at 0 where its feature is not permitted. -/
def State.holdControl (bit : Nat) (f : Field) : State := if s.boot.features.testBit bit then s else s.set f 0

theorem holdControls_eq : s.holdControls =
    (((s.holdControl 3 XPORT_CODE.CODE_AUTO).holdControl 4 PURL_CFG.ADAPT_EN).holdControl 6 PHO_CTRL.AUTO_HANDOVER).clearExport := rfl

theorem holdControl_otherRegs (bit : Nat) (f : Field) : OtherRegs [f.reg.addr 0 0] s (s.holdControl bit f) := by
  unfold State.holdControl
  split
  · exact .refl
  · exact .set s f 0 (List.mem_singleton.mpr rfl)

theorem holdControl_boot (bit : Nat) (f : Field) : (s.holdControl bit f).boot = s.boot := by
  unfold State.holdControl
  split <;> rfl

theorem holdControl_zero {bit : Nat} {f : Field} (hf : f.lo + f.w ≤ 64 ∧ 0 < 2 ^ f.w) (h : s.boot.features.testBit bit = false) :
    (s.holdControl bit f).get f = 0 := by
  unfold State.holdControl
  rw [h, if_neg Bool.false_ne_true, get_set_fits _ _ _ _ _ hf]

/-- Controls whose feature is not permitted stand at 0. -/
theorem holdControls_effect : let t := s.holdControls
    OtherRegs [XPORT_CODE.addr 0 0, PURL_CFG.addr 0 0, PHO_CTRL.addr 0 0, CIPH_SECURITY.addr 0 0] s t ∧
      (s.boot.features.testBit 3 = false → t.get XPORT_CODE.CODE_AUTO = 0) ∧ (s.boot.features.testBit 4 = false → t.get PURL_CFG.ADAPT_EN = 0) ∧
      (s.boot.features.testBit 6 = false → t.get PHO_CTRL.AUTO_HANDOVER = 0) ∧
      t.get CIPH_SECURITY.RESTRICTED = s.get CIPH_SECURITY.RESTRICTED := by
  dsimp only
  rw [holdControls_eq]
  have h3 := holdControl_otherRegs s 3 XPORT_CODE.CODE_AUTO
  have z3 := holdControl_zero s (bit := 3) (f := XPORT_CODE.CODE_AUTO) (by decide)
  have b3 := holdControl_boot s 3 XPORT_CODE.CODE_AUTO
  generalize s.holdControl 3 XPORT_CODE.CODE_AUTO = u at h3 z3 b3
  have h4 := holdControl_otherRegs u 4 PURL_CFG.ADAPT_EN
  have z4 := holdControl_zero u (bit := 4) (f := PURL_CFG.ADAPT_EN) (by decide)
  have b4 := holdControl_boot u 4 PURL_CFG.ADAPT_EN
  generalize u.holdControl 4 PURL_CFG.ADAPT_EN = v at h4 z4 b4
  have h6 := holdControl_otherRegs v 6 PHO_CTRL.AUTO_HANDOVER
  have z6 := holdControl_zero v (bit := 6) (f := PHO_CTRL.AUTO_HANDOVER) (by decide)
  generalize v.holdControl 6 PHO_CTRL.AUTO_HANDOVER = w at h6 z6
  have hc := clearExport_otherRegs w
  refine ⟨?_, fun h => ?_, fun h => ?_, fun h => ?_, ?_⟩
  · exact (((h3.mono (by decide)).trans (h4.mono (by decide))).trans (h6.mono (by decide))).trans (hc.mono (by decide))
  · rw [hc.get (by decide), h6.get (by decide), h4.get (by decide), z3 h]
  · rw [hc.get (by decide), h6.get (by decide), z4 (by rw [b3, h])]
  · rw [hc.get (by decide), z6 (by rw [b4, b3, h])]
  · rw [clearExport_restricted, h6.get (by decide), h4.get (by decide), h3.get (by decide)]

/-- The state in which the features and the mode are set, before the mode is reported. -/
def State.compatSet : State :=
  ((({ s with boot := { s.boot with features := c.1 } } : State).set TOP_STATE.RESTRICTED (b2n (c.2 != 0))).set TOP_STATE.RESTRICT_REASON c.2).set
    CIPH_SECURITY.RESTRICTED (b2n (c.2 != 0))

/-- The state in which the mode is reported. -/
def State.compatShown : State := if c.2 = 0 then s.compatSet c else (s.compatSet c).report c.2

theorem setCompat_eq : s.setCompat c = (s.compatShown c).holdControls := rfl

theorem compatSet_goes : Goes [.csr, .boot] s (s.compatSet c) :=
  .step (.step (.step (.boot .refl (by decide)) set_goes (by decide)) set_goes (by decide)) set_goes (by decide)

theorem compatSet_restricted : (s.compatSet c).get TOP_STATE.RESTRICTED = b2n (c.2 != 0) ∧
    (s.compatSet c).get CIPH_SECURITY.RESTRICTED = b2n (c.2 != 0) ∧ (s.compatSet c).get TOP_STATE.RESTRICT_REASON = c.2 % 2 ^ 16 := by
  have hlt : b2n (c.2 != 0) < 2 ^ 1 := by cases c.2 != 0 <;> decide
  unfold State.compatSet
  refine ⟨?_, get_set_fits _ _ _ _ _ ⟨by decide, hlt⟩, ?_⟩
  · rw [get_set_far _ _ _ _ (by decide), get_set_beside _ _ _ _ _ _ (by decide), get_set_fits _ _ _ _ _ ⟨by decide, hlt⟩]
  · rw [get_set_far _ _ _ _ (by decide), get_set_mod _ _ _ _ _ (by decide)]
    rfl

/-- What the features and the mode leave. -/
structure Compat (s t : State) (c : Nat × Nat) : Prop where
  boot : t.boot = { s.boot with features := c.1 }
  state : t.get TOP_STATE.RESTRICTED = b2n (c.2 != 0)
  ciph : t.get CIPH_SECURITY.RESTRICTED = b2n (c.2 != 0)
  reason : t.get TOP_STATE.RESTRICT_REASON = c.2 % 2 ^ 16
  sent : c.2 ≠ 0 → Sent s t (.report c.2)
  code : c.1.testBit 3 = false → t.get XPORT_CODE.CODE_AUTO = 0
  adapt : c.1.testBit 4 = false → t.get PURL_CFG.ADAPT_EN = 0
  handover : c.1.testBit 6 = false → t.get PHO_CTRL.AUTO_HANDOVER = 0

theorem setCompat_compat : Compat s (s.setCompat c) c := by
  have hgoes := compatSet_goes s c
  have hboot : (s.compatSet c).boot = { s.boot with features := c.1 } := rfl
  obtain ⟨hstate, hciph, hreason⟩ := compatSet_restricted s c
  have hout : s.out <+: (s.compatSet c).out := hgoes.out
  have hshown : (s.compatShown c).csr = (s.compatSet c).csr ∧ (s.compatShown c).boot = (s.compatSet c).boot ∧
      (c.2 ≠ 0 → Sent s (s.compatShown c) (.report c.2)) := by
    unfold State.compatShown
    split
    next h => exact ⟨rfl, rfl, fun hne => absurd h hne⟩
    next h => exact ⟨rfl, rfl, fun _ => sent_report _ hout⟩
  obtain ⟨hcsr, hb, hsent⟩ := hshown
  obtain ⟨hregs, h3, h4, h6, hkeep⟩ := holdControls_effect (s.compatShown c)
  have hheld : Goes [.csr] (s.compatShown c) (s.compatShown c).holdControls := holdControls_goes
  have hfeatures : (s.compatShown c).boot.features = c.1 := by rw [hb, hboot]
  rw [setCompat_eq]
  rw [hfeatures] at h3 h4 h6
  refine ⟨?_, ?_, ?_, ?_, fun h => (hsent h).of_goes hheld, h3, h4, h6⟩
  · rw [hheld.only .boot rfl, hb, hboot]
  · rw [hregs.get (by decide), get_congr hcsr, hstate]
  · rw [hkeep, get_congr hcsr, hciph]
  · rw [hregs.get (by decide), get_congr hcsr, hreason]

theorem Compat.after {s u t : State} {c : Nat × Nat} {k : List Part} (h : Compat s u c) (hg : Goes k u t) (hb : t.boot = u.boot)
    (hr : ∀ f : Field, f ∈ [TOP_STATE.RESTRICTED, CIPH_SECURITY.RESTRICTED, TOP_STATE.RESTRICT_REASON, XPORT_CODE.CODE_AUTO, PURL_CFG.ADAPT_EN,
      PHO_CTRL.AUTO_HANDOVER] → t.get f = u.get f) : Compat s t c := by
  refine ⟨hb.trans h.boot, (hr _ (by decide)).trans h.state, (hr _ (by decide)).trans h.ciph, (hr _ (by decide)).trans h.reason,
    fun hne => (h.sent hne).of_goes hg, fun hn => (hr _ (by decide)).trans (h.code hn), fun hn => (hr _ (by decide)).trans (h.adapt hn),
    fun hn => (hr _ (by decide)).trans (h.handover hn)⟩

/-- The phase stands beside the features and the mode. -/
theorem toPhase_keeps (p : Nat) {f : Field} (h : f ∈ [TOP_STATE.RESTRICTED, CIPH_SECURITY.RESTRICTED, TOP_STATE.RESTRICT_REASON,
    XPORT_CODE.CODE_AUTO, PURL_CFG.ADAPT_EN, PHO_CTRL.AUTO_HANDOVER]) : (s.toPhase p).get f = s.get f := by
  simp only [List.mem_cons, List.not_mem_nil, or_false] at h
  unfold State.toPhase
  rcases h with rfl | rfl | rfl | rfl | rfl | rfl
  · exact get_set_beside _ _ _ _ _ _ (by decide)
  · exact get_set_far _ _ _ _ (by decide)
  · exact get_set_beside _ _ _ _ _ _ (by decide)
  · exact get_set_far _ _ _ _ (by decide)
  · exact get_set_far _ _ _ _ (by decide)
  · exact get_set_far _ _ _ _ (by decide)

theorem toPhase_phase {p : Nat} (hp : p < 2 ^ 8) : (s.toPhase p).get TOP_STATE.CAST_PHASE = p := get_set_fits _ _ _ _ _ ⟨by decide, hp⟩

end

section
variable {s : State}

/-- COMPAT fixes features and mode, and goes on to SRAM, or waits for a bundle (R421). -/
theorem compatDone_decides (h : s.get TOP_STATE.CAST_PHASE = 3) {c : Nat × Nat}
    (hc : compat s.boot.manifest (s.get TOP_REV.HW_REV) (s.get TOP_FW.MGMT_FW_VERSION) (s.get TOP_FW.SEC_FW_VERSION) = c) :
    Does (.compatDone) s [.csr, .out, .boot] (fun t => Compat s t c ∧ t.get TOP_STATE.CAST_PHASE = (if s.boot.bundle = [] then 4 else 5) ∧
      (s.boot.bundle = [] → Sent s t (.report 0x004B))) := by
  have hcompat := setCompat_compat s c
  have hgoes : Goes [.csr, .out, .boot] s (s.setCompat c) := setCompat_goes
  have hexec : exec (.compatDone) s = if (s.setCompat c).boot.bundle = [] then .next (((s.setCompat c).report 0x004B).toPhase 4)
      else .next ((s.setCompat c).toPhase 5) := by
    show execCompatDone s = _
    unfold execCompatDone
    rw [if_neg (inPhase h), hc]
  rw [show (s.setCompat c).boot.bundle = s.boot.bundle by rw [hcompat.boot]] at hexec
  generalize s.setCompat c = u at hcompat hgoes hexec
  by_cases hb : s.boot.bundle = []
  · rw [if_pos hb] at hexec
    have hlast : Goes [.csr, .out] u ((u.report 0x004B).toPhase 4) := .step (.step .refl report_goes (by decide)) toPhase_goes (by decide)
    have hsent : Sent s (u.report 0x004B) (.report 0x004B) := sent_report _ hgoes.out
    refine .of_goes hexec (.step hgoes hlast (by decide)) ⟨hcompat.after hlast (hlast.only .boot rfl) fun f hf => ?_, ?_, fun _ => ?_⟩
    · rw [toPhase_keeps _ _ hf, get_report]
    · rw [if_pos hb, toPhase_phase _ (by decide)]
    · exact hsent.of_goes toPhase_goes
  · rw [if_neg hb] at hexec
    have hlast : Goes [.csr] u (u.toPhase 5) := toPhase_goes
    refine .of_goes hexec (.step hgoes hlast (by decide)) ⟨hcompat.after hlast (hlast.only .boot rfl) fun f hf => toPhase_keeps _ _ hf, ?_,
      fun hn => absurd hn hb⟩
    rw [if_neg hb, toPhase_phase _ (by decide)]

theorem on_of_b2n {f : Field} {b : Bool} (h : s.get f = b2n b) : s.on f = b := by
  unfold State.on
  rw [h]
  cases b <;> rfl

/-- Without a manifest no feature is permitted (R422). -/
theorem compat_nil (h m v : Nat) : compat [] h m v = (0, 0x0046) := rfl

/-- A bundle staged in BUNDLE_WAIT is taken where it verifies, and refused otherwise (R265, R421). -/
theorem bundleStaged_takes {o : SignedObj} (h : s.get TOP_STATE.CAST_PHASE = 4) :
    Does (.bundleStaged o) s [.csr, .out, .boot] (fun t =>
      (bundleOk s.bundleAnchor o = true → t.boot.bundle = o.body ∧ t.get TOP_STATE.CAST_PHASE = 5 ∧
          t.measurement 3 = sha256 (s.measurement 3 ++ padTo 32 o.digest)) ∧
      (bundleOk s.bundleAnchor o = false → t.boot = s.boot ∧ t.get TOP_STATE.CAST_PHASE = 4 ∧ Sent s t (.report 0x0A1A))) := by
  have hexec : exec (.bundleStaged o) s = if bundleOk s.bundleAnchor o then .next ((s.takeBundle o).clearExport.toPhase 5)
      else .next (s.report 0x0A1A) := if_neg (inPhase h)
  cases hok : bundleOk s.bundleAnchor o with
  | false =>
    rw [hok, if_neg Bool.false_ne_true] at hexec
    refine .of_goes hexec (.step .refl report_goes (by decide)) ⟨fun hn => absurd hn (by decide), fun _ => ⟨rfl, ?_, sent_report _ (List.prefix_refl _)⟩⟩
    rw [get_report, h]
  | true =>
    rw [hok, if_pos rfl] at hexec
    have hmeasure : (s.takeBundle o).measurement 3 = sha256 (s.measurement 3 ++ padTo 32 o.digest) := extend_measurement _ 3 o.digest
    have hboot : (s.takeBundle o).boot = { s.boot with bundle := o.body } := extend_goes.only .boot rfl
    have htake : Goes [.csr, .boot] s (s.takeBundle o) := takeBundle_goes
    generalize s.takeBundle o = u at hexec hmeasure hboot htake
    have hexport := clearExport_otherRegs u
    have hlast : Goes [.csr] u (u.clearExport.toPhase 5) := .step (.step .refl clearExport_goes (by decide)) toPhase_goes (by decide)
    have hregs : OtherRegs [CIPH_SECURITY.addr 0 0, TOP_STATE.addr 0 0] u (u.clearExport.toPhase 5) :=
      .andSet (f := TOP_STATE.CAST_PHASE) (hexport.mono (by decide)) (by decide)
    refine .of_goes hexec (.step (.step .refl htake (by decide)) hlast (by decide)) ⟨fun _ => ⟨?_, toPhase_phase _ (by decide), ?_⟩, fun hn => absurd hn (by decide)⟩
    · rw [hlast.only .boot rfl, hboot]
    · rw [hregs.measurement (by decide), hmeasure]

end

end Sys2Proof.Machine

namespace Sys2Proof.Machine
open Csr

/-! ## SRAM, training and test (R424 to R427) -/

section
variable (s : State)

/-- The state in which no row of the memory of the die waits for its repair. -/
def State.sramClear : State := ({ s with memst := { s.memst with sramPending := [] } } : State).set MEM_REPAIR.SRAM_PENDING 0

/-- The state in which SRAM is repaired and its map is measured. -/
def State.sramRepaired (map : Bytes) : State :=
  (((s.sramClear.fresh.2.set MEM_REPAIR.SRAM_SPARE_FREE s.sramClear.fresh.1).extend 6 (sha256 map)).toPhase 6)

theorem sramRepaired_goes (map : Bytes) : Goes [.csr, .freeCtr, .memst] s (s.sramRepaired map) :=
  .step (.step (.step (.step (.step (.memst .refl (by decide)) set_goes (by decide)) fresh_goes (by decide)) set_goes (by decide))
    extend_goes (by decide)) toPhase_goes (by decide)

/-- SRAM repaired within its spares (R424). -/
theorem sramDone_repairs {s : State} {map : Bytes} (h : s.get TOP_STATE.CAST_PHASE = 5) :
    Does (.sramDone false map) s [.csr, .freeCtr, .memst] (fun t =>
      t.get TOP_STATE.CAST_PHASE = 6 ∧ t.memst.sramPending = [] ∧ t.get MEM_REPAIR.SRAM_PENDING = 0 ∧
          t.measurement 6 = sha256 (s.measurement 6 ++ padTo 32 (sha256 map))) := by
  have hexec : exec (.sramDone false map) s = .next (s.sramRepaired map) := if_neg (inPhase h)
  have hgoes := sramRepaired_goes s map
  have hclear : s.sramClear.get MEM_REPAIR.SRAM_PENDING = 0 ∧ OtherRegs [MEM_REPAIR.addr 0 0] s s.sramClear ∧ s.sramClear.memst.sramPending = [] :=
    ⟨get_set_fits _ _ _ _ _ (by decide), .andSet (f := MEM_REPAIR.SRAM_PENDING) (.of_csr rfl) (by decide), rfl⟩
  unfold State.sramRepaired at hexec hgoes
  generalize s.sramClear = u at hexec hgoes hclear
  obtain ⟨hpending, hregs, hrows⟩ := hclear
  have hfresh : Goes [.freeCtr] u u.fresh.2 := fresh_goes
  generalize u.fresh = p at hexec hgoes hfresh
  have hset : OtherRegs [MEM_REPAIR.addr 0 0] s (p.2.set MEM_REPAIR.SRAM_SPARE_FREE p.1) :=
    .andSet (f := MEM_REPAIR.SRAM_SPARE_FREE) (hregs.andGoes hfresh (by decide)) (by decide)
  have hlast : Goes [.csr] p.2 (((p.2.set MEM_REPAIR.SRAM_SPARE_FREE p.1).extend 6 (sha256 map)).toPhase 6) :=
    .step (.step (.step .refl set_goes (by decide)) extend_goes (by decide)) toPhase_goes (by decide)
  have hphase : OtherRegs [TOP_STATE.addr 0 0] ((p.2.set MEM_REPAIR.SRAM_SPARE_FREE p.1).extend 6 (sha256 map))
      (((p.2.set MEM_REPAIR.SRAM_SPARE_FREE p.1).extend 6 (sha256 map)).toPhase 6) := .set _ TOP_STATE.CAST_PHASE 6 (by decide)
  refine .of_goes hexec hgoes ⟨toPhase_phase _ (by decide), ?_, ?_, ?_⟩
  · rw [hlast.only .memst rfl, hfresh.only .memst rfl, hrows]
  · rw [hphase.get (by decide), (extend_otherRegs _ _ _).get (by decide), get_set_beside _ _ _ _ _ _ (by decide),
      get_congr (hfresh.only .csr rfl), hpending]
  · rw [hphase.measured (by decide) (by decide), extend_measurement, hset.measured (by decide) (by decide)]

/-- Whether the saved record of training cannot be used (R425). -/
def State.recordBad (x : TrainInput) : Bool := !s.keep.trained || x.recordBad || decide (s.tempDelta < x.moved)

/-- Whether training is full (R425). -/
def State.trains (x : TrainInput) : Bool := s.startMode == 1 || s.recordBad x || s.keep.memFailed

/-- Whether the test is full (R426). -/
def State.tests (x : TrainInput) : Bool :=
  s.trains x || !s.memst.lpddrPending.isEmpty || !s.keep.fullPassed ||
    (s.startMode == 0 && (s.fullTestH == 0 || decide (s.fullTestH < x.hours)))

/-- The state in which training has told of the records and channels that it did not take. -/
def State.trainShown (x : TrainInput) : State :=
  let u := if s.recordBad x then s.report 0x004C else s
  if s.trains x then u else x.failedCheck.foldl (fun s _ => s.report 0x004C) u

theorem trainShown_goes (x : TrainInput) : Goes [.out] s (s.trainShown x) := by
  unfold State.trainShown
  extract_lets u
  have hu : Goes [.out] s u := .ite (.step .refl report_goes (by decide)) .refl
  exact .ite hu (.foldl hu fun x y h => .step h report_goes (by decide))

theorem trainShown_sent {x : TrainInput} (h : s.recordBad x = true) : Sent s (s.trainShown x) (.report 0x004C) := by
  have htrain : s.trains x = true := by unfold State.trains; rw [h, Bool.or_true, Bool.true_or]
  unfold State.trainShown
  rw [htrain, h, if_pos rfl, if_pos rfl]
  exact sent_report _ (List.prefix_refl _)

/-- The state in which training and test are chosen. -/
def State.trainSet (full test : Bool) : State := { s with boot := { s.boot with fullTrain := full, fullTest := test } }

/-- The state in which no row of the memory waits for its repair. -/
def State.rowsClear : State := { s with memst := { s.memst with lpddrPending := [] } }

/-- The state in which training is chosen and no row of the memory waits for its repair. -/
def State.trainChosen (full test : Bool) : State := (s.trainSet full test).rowsClear.set MEM_REPAIR.LPDDR_PENDING 0

theorem trainChosen_goes (full test : Bool) : Goes [.csr, .memst, .boot] s (s.trainChosen full test) := by
  have hboot : Goes [.boot] s (s.trainSet full test) := .boot .refl (by decide)
  have hrows : Goes [.memst] (s.trainSet full test) (s.trainSet full test).rowsClear := .memst .refl (by decide)
  exact .step (.step (.step .refl hboot (by decide)) hrows (by decide)) set_goes (by decide)

/-- The state in which no memory device waits for its repair. -/
def State.devicesClear : State := (List.range 16).foldl (fun s d => s.set MEM_DEV.PENDING 0 d) s

theorem devicesClear_goes : Goes [.csr] s s.devicesClear := .foldl .refl fun _ _ h => .step h set_goes (by decide)

theorem devicesClear_device (d : Fin 16) : s.devicesClear.get MEM_DEV.PENDING d = 0 := by
  obtain ⟨t, -, ht⟩ := foldl_range_at (f := fun s d => s.set MEM_DEV.PENDING 0 d) (read := fun t => t.get MEM_DEV.PENDING d) d.isLt
    (fun t i hi => get_set_far _ _ _ _ (by
      simp only [Reg.addr, MEM_DEV.PENDING, MEM_DEV]
      omega)) s
  exact ht.trans (get_set_fits _ _ _ _ _ (by decide))

theorem devicesClear_otherRegs : OtherRegs ((List.range 16).map (fun d => MEM_DEV.addr d 0)) s s.devicesClear :=
  .foldlMem (fun x d hd => .set x MEM_DEV.PENDING 0 (List.mem_map_of_mem (f := fun d => MEM_DEV.addr d 0) hd)) _

theorem execMemtrainDone_ends {s : State} {x : TrainInput} (h : s.get TOP_STATE.CAST_PHASE = 6) (hx : x.failed = none) :
    exec (.memtrainDone x) s = .next (((s.trainShown x).trainChosen (s.trains x) (s.tests x)).devicesClear.toPhase 7) := by
  show execMemtrainDone x s = _
  unfold execMemtrainDone
  rw [if_neg (inPhase h), hx]
  rfl

/-- MEMTRAIN whose channels all train (R425). -/
theorem memtrainDone_trains {s : State} {x : TrainInput} (h : s.get TOP_STATE.CAST_PHASE = 6) (hx : x.failed = none) :
    Does (.memtrainDone x) s [.csr, .out, .memst, .boot] (fun t =>
      t.get TOP_STATE.CAST_PHASE = 7 ∧ t.boot.fullTrain = s.trains x ∧ t.memst.lpddrPending = [] ∧ t.get MEM_REPAIR.LPDDR_PENDING = 0 ∧
      t.boot.fullTest = s.tests x ∧ (s.recordBad x = true → Sent s t (.report 0x004C)) ∧ (∀ d : Fin 16, t.get MEM_DEV.PENDING d = 0)) := by
  have hexec := execMemtrainDone_ends h hx
  have hshown := trainShown_goes s x
  have hsent := trainShown_sent s (x := x)
  generalize s.trainShown x = u at hexec hshown hsent
  have hchosen : Goes [.csr, .memst, .boot] u (u.trainChosen (s.trains x) (s.tests x)) :=
    trainChosen_goes _ _ _
  have hpending : (u.trainChosen (s.trains x) (s.tests x)).get MEM_REPAIR.LPDDR_PENDING = 0 := get_set_fits _ _ _ _ _ (by decide)
  have hboot : (u.trainChosen (s.trains x) (s.tests x)).boot.fullTrain = s.trains x ∧
      (u.trainChosen (s.trains x) (s.tests x)).boot.fullTest = s.tests x := ⟨rfl, rfl⟩
  have hrows : (u.trainChosen (s.trains x) (s.tests x)).memst.lpddrPending = [] := rfl
  generalize u.trainChosen (s.trains x) (s.tests x) = v at hexec hchosen hpending hboot hrows
  have hclear := devicesClear_goes v
  have hdevice := devicesClear_device v
  have hregs := devicesClear_otherRegs v
  generalize v.devicesClear = w at hexec hclear hdevice hregs
  have hlast : Goes [.csr] v (w.toPhase 7) := .step hclear toPhase_goes (by decide)
  have hphase : OtherRegs [TOP_STATE.addr 0 0] w (w.toPhase 7) := .set _ TOP_STATE.CAST_PHASE 7 (by decide)
  refine .of_goes hexec (.step (.step (.step .refl hshown (by decide)) hchosen (by decide)) hlast (by decide))
    ⟨toPhase_phase _ (by decide), ?_, ?_, ?_, ?_, fun hb => (Sent.of_goes (Sent.of_goes (hsent hb) hchosen) hlast), fun d => ?_⟩
  · rw [hlast.only .boot rfl, hboot.1]
  · rw [hlast.only .memst rfl, hrows]
  · rw [hphase.get (by decide), hregs.get (by decide), hpending]
  · rw [hlast.only .boot rfl, hboot.2]
  · have hfar : MEM_DEV.addr d 0 ∉ [TOP_STATE.addr 0 0] := by
      rw [List.mem_singleton]
      exact Reg.addr_ne_of_apartFor (n := 16) (n' := 1) (by decide) d.isLt (by decide)
    rw [hphase.get hfar, hdevice d]

/-- The state in which the rows that the test repaired, or leaves in service, are reported. -/
def State.testShown (x : TestInput) : State :=
  x.single.foldl (fun s a => (s.set MEM_ERR_ADDR.ADDR a).report 0x0509) (if x.repaired then s.report 0x004E else s)

theorem testShown_goes (x : TestInput) : Goes [.csr, .out] s (s.testShown x) :=
  .foldl (.ite (.step .refl report_goes (by decide)) .refl) fun _ _ h => .step (.step h set_goes (by decide)) report_goes (by decide)

theorem rowsShown_goes (l : List Nat) : Goes [.csr, .out] s (l.foldl (fun s a => (s.set MEM_ERR_ADDR.ADDR a).report 0x0509) s) :=
  .foldl .refl fun _ _ h => .step (.step h set_goes (by decide)) report_goes (by decide)

theorem rowsShown_sent {l : List Nat} {a : Nat} (h : a ∈ l) :
    Sent s (l.foldl (fun s a => (s.set MEM_ERR_ADDR.ADDR a).report 0x0509) s) (.report 0x0509) := by
  cases l with
  | nil => cases h
  | cons b l =>
    have hsent : Sent s ((s.set MEM_ERR_ADDR.ADDR b).report 0x0509) (.report 0x0509) := sent_report _ (List.prefix_refl _)
    exact hsent.of_goes (rowsShown_goes _ l)

theorem testShown_phase (x : TestInput) : (s.testShown x).get TOP_STATE.CAST_PHASE = s.get TOP_STATE.CAST_PHASE := by
  unfold State.testShown
  have hrepaired : (if x.repaired then s.report 0x004E else s).get TOP_STATE.CAST_PHASE = s.get TOP_STATE.CAST_PHASE := by split <;> rfl
  rw [← hrepaired]
  refine foldl_keeps (read := fun t : State => t.get TOP_STATE.CAST_PHASE) fun t a _ => ?_
  rw [get_report, get_set_far _ _ _ _ (by decide)]

theorem testShown_sent (x : TestInput) : (x.repaired = true → Sent s (s.testShown x) (.report 0x004E)) ∧
    (∀ a ∈ x.single, Sent s (s.testShown x) (.report 0x0509)) := by
  unfold State.testShown
  have hrepaired : x.repaired = true → Sent s (if x.repaired then s.report 0x004E else s) (.report 0x004E) := fun h => by
    rw [if_pos h]
    exact sent_report _ (List.prefix_refl _)
  have hout : s.out <+: (if x.repaired then s.report 0x004E else s).out := by
    split
    · exact (report_goes (s := s)).out
    · exact List.prefix_refl _
  generalize (if x.repaired then s.report 0x004E else s) = u at hrepaired hout
  exact ⟨fun h => (hrepaired h).of_goes (rowsShown_goes u _), fun a ha => (rowsShown_sent u ha).after hout⟩

/-- The state in which a test's pass is kept. -/
def State.passKept : State :=
  { s with
    keep := { s.keep with trained := s.keep.trained || s.boot.fullTrain, fullPassed := s.keep.fullPassed || s.boot.fullTest, memFailed := false } }

/-- The state in which no unit has confirmed its table. -/
def State.tablesAwaited : State := { s with boot := { s.boot with confirmed := [], resent := [] } }

theorem testPassed_goes : Goes [.boot, .keep] s s.passKept.tablesAwaited := by
  have hkeep : Goes [.keep] s s.passKept := .keep .refl (by decide) ⟨Nat.le_refl _, Nat.le_refl _⟩
  have hboot : Goes [.boot] s.passKept s.passKept.tablesAwaited := .boot .refl (by decide)
  exact .step (.step .refl hkeep (by decide)) hboot (by decide)

/-- A test that no row fails for good (R427). -/
theorem memtestDone_passes {s : State} {x : TestInput} (h : s.get TOP_STATE.CAST_PHASE = 7 ∧ x.beyond = none ∧ x.repairFails = none) :
    Does (.memtestDone x) s [.csr, .out, .boot, .keep] (fun t =>
      t.get TOP_STATE.CAST_PHASE = 8 ∧ t.keep = { s.keep with
        trained := s.keep.trained || s.boot.fullTrain, memFailed := false, fullPassed := s.keep.fullPassed || s.boot.fullTest } ∧
      t.boot.confirmed = [] ∧ t.boot.resent = [] ∧ (x.repaired = true → Sent s t (.report 0x004E)) ∧ (∀ a ∈ x.single,
          Sent s t (.report 0x0509))) := by
  obtain ⟨hphase, hbeyond, hrepair⟩ := h
  have hexec : exec (.memtestDone x) s = .next ((s.testShown x).passKept.tablesAwaited.toPhase 8) := by
    show execMemtestDone x s = _
    unfold execMemtestDone
    rw [if_neg (inPhase hphase), hbeyond, hrepair]
    rfl
  have hgoes := testShown_goes s x
  obtain ⟨hrepaired, hsingle⟩ := testShown_sent s x
  generalize s.testShown x = u at hexec hgoes hrepaired hsingle
  have hpassed : Goes [.boot, .keep] u u.passKept.tablesAwaited := testPassed_goes u
  have hkeep : u.passKept.tablesAwaited.keep = { u.keep with
    trained := u.keep.trained || u.boot.fullTrain, fullPassed := u.keep.fullPassed || u.boot.fullTest, memFailed := false } := rfl
  have hboot : u.passKept.tablesAwaited.boot.confirmed = [] ∧ u.passKept.tablesAwaited.boot.resent = [] := ⟨rfl, rfl⟩
  generalize u.passKept.tablesAwaited = v at hexec hpassed hkeep hboot
  have hlast : Goes [.csr] v (v.toPhase 8) := toPhase_goes
  refine .of_goes hexec (.step (.step (.step .refl hgoes (by decide)) hpassed (by decide)) hlast (by decide))
    ⟨toPhase_phase _ (by decide), ?_, ?_, ?_, fun hr => Sent.of_goes (Sent.of_goes (hrepaired hr) hpassed) hlast,
      fun a ha => Sent.of_goes (Sent.of_goes (hsingle a ha) hpassed) hlast⟩
  · rw [hlast.only .keep rfl, hkeep, hgoes.only .keep rfl, hgoes.only .boot rfl]
  · rw [hlast.only .boot rfl, hboot.1]
  · rw [hlast.only .boot rfl, hboot.2]

/-- A test that finds a row beyond repair, or whose repair fails (R427). -/
theorem memtestDone_fails {s : State} {x : TestInput} {a : Nat} (hphase : s.get TOP_STATE.CAST_PHASE = 7)
    (h : x.beyond = some a ∨ x.beyond = none ∧ x.repairFails = some a) :
    Does (.memtestDone x) s [.csr, .mem, .poison, .out, .freeCtr, .intc, .myk, .pmon, .hlth, .fab, .time, .grp, .ctl, .keep, .line]
      (fun t => t.get TOP_STATE.CAST_PHASE = 14 ∧ t.get TOP_FAULT.REASON = (if x.beyond = none then 0x0050 else 0x004F) ∧
          t.get MEM_ERR_ADDR.ADDR = a % 2 ^ MEM_ERR_ADDR.ADDR.w ∧ t.keep.memFailed = true) := by
  have hexec : exec (.memtestDone x) s =
      .next (((s.testShown x).set MEM_ERR_ADDR.ADDR a).castFail (if x.beyond = none then 0x0050 else 0x004F)) := by
    show execMemtestDone x s = _
    unfold execMemtestDone
    rw [if_neg (inPhase hphase)]
    rcases h with hb | ⟨hb, hr⟩
    · rw [show (if x.beyond = none then 0x0050 else 0x004F) = 0x004F from if_neg (by simp [hb]), hb]
      rfl
    · rw [show (if x.beyond = none then 0x0050 else 0x004F) = 0x0050 from if_pos hb, hb, hr]
      rfl
  have hgoes := testShown_goes s x
  have hsame : ((s.testShown x).set MEM_ERR_ADDR.ADDR a).phase = 7 := by
    rw [State.phase, get_set_far _ _ _ _ (by decide), testShown_phase, hphase]
  have hset : ((s.testShown x).set MEM_ERR_ADDR.ADDR a).get MEM_ERR_ADDR.ADDR = a % 2 ^ MEM_ERR_ADDR.ADDR.w := get_set_mod _ _ _ _ _ (by decide)
  have hu : Goes [.csr, .out] s ((s.testShown x).set MEM_ERR_ADDR.ADDR a) := .step hgoes set_goes (by decide)
  generalize (s.testShown x).set MEM_ERR_ADDR.ADDR a = u at hexec hsame hset hu
  have hfail := castFail_failed u (if x.beyond = none then 0x0050 else 0x004F)
  refine .of_goes hexec (.step (.step .refl hu (by decide)) castFail_goes (by decide)) ⟨hfail.phase, ?_, ?_, ?_⟩
  · rw [hfail.reason]
    split <;> rfl
  · rw [hfail.regs.get (by rw [mem_failRegs, mem_offRegs, mem_sendRegs]; decide), hset]
  · rw [hfail.keep, hsame]
    simp

end

end Sys2Proof.Machine

namespace Sys2Proof.Machine
open Csr

/-! ## TABLES (R428 to R430) -/

theorem lookupD_erase {α β : Type} [DecidableEq α] (l : List (α × β)) (k : α) (d : β) : lookupD (assocErase l k) k d = d := by
  induction l with
  | nil => rfl
  | cons e l ih =>
    unfold assocErase
    by_cases h : e.1 = k
    · rw [List.filter_cons_of_neg (by simp [h])]
      exact ih
    · rw [List.filter_cons_of_pos (by simp [h]), lookupD, if_neg h]
      exact ih

theorem filter_ne_of_not_contains {l : List TableUnit} {u : TableUnit} (h : l.contains u = false) : l.filter (· ≠ u) = l := by
  refine List.filter_eq_self.mpr fun x hx => ?_
  refine decide_eq_true fun he => ?_
  rw [he] at hx
  rw [List.contains_iff_mem.mpr hx] at h
  cases h

section
variable {s : State} {u : TableUnit} {crc : BitVec 32}

theorem addOnce_new {l : List TableUnit} (h : l.contains u = false) : addOnce l u = l ++ [u] := by
  refine if_neg fun hin => ?_
  rw [List.contains_iff_mem.mpr hin] at h
  cases h

theorem resends_congr {t : State} (h : t.boot = s.boot) : t.resends u = s.resends u := by
  unfold State.resends
  rw [h]

/-- The state in which a unit has confirmed its table. -/
def State.tableConfirmed (s : State) (u : TableUnit) : State :=
  { s with boot := { s.boot with confirmed := s.boot.confirmed ++ [u], resent := assocErase s.boot.resent u } }

/-- A unit confirms its table (R428). -/
theorem tableConfirm_confirms (h : s.tableActive u = true ∧ s.boot.confirmed.contains u = false ∧ s.boot.disabled.contains u = false ∧
    s.entryCrc u = some crc.toNat) :
    Does (.tableConfirm u crc) s [.out, .boot] (fun t =>
      t.boot.confirmed = s.boot.confirmed ++ [u] ∧ (s.resends u ≠ 0 → Sent s t (.report 0x0052)) ∧ t.resends u = 0) := by
  obtain ⟨hactive, hconfirmed, hdisabled, hcrc⟩ := h
  have hexec : exec (.tableConfirm u crc) s =
      .next (if s.resends u != 0 then (s.tableConfirmed u).report 0x0052 else s.tableConfirmed u) := by
    show execTableConfirm u crc s = _
    unfold execTableConfirm
    rw [hactive, hconfirmed, hdisabled, if_neg (by decide), if_pos hcrc]
    rfl
  have hgoes : Goes [.boot] s (s.tableConfirmed u) := .boot .refl (by decide)
  have hboot : (s.tableConfirmed u).boot.confirmed = s.boot.confirmed ++ [u] := rfl
  have hresends : (s.tableConfirmed u).resends u = 0 := lookupD_erase _ _ _
  generalize s.tableConfirmed u = v at hexec hgoes hboot hresends
  have hlast : Goes [.out] v (if s.resends u != 0 then v.report 0x0052 else v) := .ite (.step .refl report_goes (by decide)) .refl
  refine .of_goes hexec (.step (.step .refl hgoes (by decide)) hlast (by decide)) ⟨?_, fun hne => ?_, ?_⟩
  · rw [hlast.only .boot rfl, hboot]
  · rw [if_pos (bne_iff_ne.mpr hne)]
    exact sent_report _ hgoes.out
  · rw [resends_congr (hlast.only .boot rfl), hresends]

/-- The state in which a unit's table is sent again. -/
def State.tableResent (s : State) (u : TableUnit) : State :=
  { s with boot := { s.boot with
    resent := assocPut s.boot.resent u (s.resends u + 1), confirmed := s.boot.confirmed.filter (· ≠ u) } }

theorem tableResent_goes (s : State) (u : TableUnit) : Goes [.boot] s (s.tableResent u) := .boot .refl (by decide)

theorem tableResent_effect (h : s.boot.confirmed.contains u = false) : (s.tableResent u).resends u = s.resends u + 1 ∧
    (s.tableResent u).boot.confirmed = s.boot.confirmed ∧ (s.tableResent u).boot.disabled = s.boot.disabled :=
  ⟨(lookupD_assocPut_eq _ _ _ _ _).trans (if_pos rfl), filter_ne_of_not_contains h, rfl⟩

section
variable (hphase : s.get TOP_STATE.CAST_PHASE = 8) (hnew : s.boot.confirmed.contains u = false ∧ s.boot.disabled.contains u = false)
include hphase

theorem tableActive_of_phase : s.tableActive u = true := by
  unfold State.tableActive State.phase
  rw [hphase]
  rfl

theorem tableResend_of_phase : s.tableResend u (s.phase == 0x0B && s.hlth.update.isNone) = s.tableResend u false := by
  unfold State.phase
  rw [hphase]
  rfl

include hnew

theorem execTableConfirm_resends (hcrc : s.entryCrc u ≠ some crc.toNat) : exec (.tableConfirm u crc) s = .next (s.tableResend u false) := by
  show execTableConfirm u crc s = _
  unfold execTableConfirm
  rw [tableActive_of_phase hphase, hnew.1, hnew.2, if_neg (by decide), if_neg hcrc, tableResend_of_phase hphase]

theorem execTableConfirmTimeout_resends : exec (.tableConfirmTimeout u) s = .next (s.tableResend u false) := by
  show execTableConfirmTimeout u s = _
  unfold execTableConfirmTimeout
  rw [tableActive_of_phase hphase, hnew.1, hnew.2, if_neg (by decide), tableResend_of_phase hphase]

end

theorem tableResend_again (h : s.resends u < s.resendMax) : s.tableResend u false = s.tableResent u := by
  unfold State.tableResend
  rw [if_pos h, if_neg (by decide)]
  rfl

theorem tableResend_disables (h : s.resendMax ≤ s.resends u) : s.tableResend u false = s.tableDisable u 0x0053 := by
  unfold State.tableResend
  rw [if_neg (Nat.not_lt.mpr h), if_neg (by decide)]

/-- The state in which a unit is disabled, before its block takes it out of service. -/
def State.unitDisabled (s : State) (u : TableUnit) : State :=
  { s with boot := { s.boot with
    disabled := addOnce s.boot.disabled u
    confirmed := s.boot.confirmed.filter (· ≠ u)
    resent := assocErase s.boot.resent u } }

/-- What disables a unit beyond its record. -/
theorem tableDisable_after (reason : Nat) : Goes [.csr, .mem, .poison, .out, .freeCtr, .intc, .myk, .hostq, .sched, .skein, .memst, .pmon,
    .hlth, .bed, .stch, .ciph, .xport, .fab, .time, .grp, .pho, .line] ((s.unitDisabled u).report reason) (s.tableDisable u reason) := by
  unfold State.tableDisable
  extract_lets b c n p k v w
  have hv : v = s.unitDisabled u := rfl
  clear_value v
  subst hv
  have hw : Goes [.csr, .mem, .poison, .out, .freeCtr, .intc, .myk, .hlth] ((s.unitDisabled u).report reason) w := .step .refl health_goes (by decide)
  clear_value w
  split
  · split
    · exact .step (.step .refl hw (by decide)) groupFault_goes (by decide)
    · exact .step (.step .refl hw (by decide)) bedCap_goes (by decide)
  · split
    · exact .step (.step .refl hw (by decide)) clusterOut_goes (by decide)
    · split
      · exact .step .refl hw (by decide)
      · exact .step (.step (.step .refl hw (by decide)) unitFault_goes (by decide)) capChange_goes (by decide)

theorem tableDisable_effect (hnew : s.boot.confirmed.contains u = false ∧ s.boot.disabled.contains u = false) (reason : Nat) :
    let t := s.tableDisable u reason
    t.boot.disabled = s.boot.disabled ++ [u] ∧ Sent s t (.report reason) ∧ t.boot.confirmed = s.boot.confirmed := by
  have hafter := tableDisable_after (s := s) (u := u) reason
  have hboot : ((s.unitDisabled u).report reason).boot.disabled = s.boot.disabled ++ [u] ∧
      ((s.unitDisabled u).report reason).boot.confirmed = s.boot.confirmed :=
    ⟨addOnce_new hnew.2, filter_ne_of_not_contains hnew.1⟩
  have hsent : Sent s ((s.unitDisabled u).report reason) (.report reason) := sent_report _ (List.prefix_refl _)
  refine ⟨?_, hsent.of_goes hafter, ?_⟩
  · rw [hafter.only .boot rfl, hboot.1]
  · rw [hafter.only .boot rfl, hboot.2]

/-- A unit that answers with another CRC is sent its table again (R429). -/
theorem tableConfirm_resends (h : s.get TOP_STATE.CAST_PHASE = 8 ∧ s.boot.confirmed.contains u = false ∧ s.boot.disabled.contains u = false ∧
    s.entryCrc u ≠ some crc.toNat ∧ s.resends u < s.resendMax) :
    Does (.tableConfirm u crc) s [.boot] (fun t =>
      t.resends u = s.resends u + 1 ∧ t.boot.confirmed = s.boot.confirmed ∧ t.boot.disabled = s.boot.disabled) := by
  obtain ⟨hphase, hconfirmed, hdisabled, hcrc, hless⟩ := h
  have hexec := execTableConfirm_resends hphase ⟨hconfirmed, hdisabled⟩ hcrc
  rw [tableResend_again hless] at hexec
  exact .of_goes hexec (tableResent_goes s u) (tableResent_effect hconfirmed)

/-- A unit that does not answer is sent its table again (R429). -/
theorem tableConfirmTimeout_resends (h : s.get TOP_STATE.CAST_PHASE = 8 ∧ s.boot.confirmed.contains u = false ∧
    s.boot.disabled.contains u = false ∧ s.resends u < s.resendMax) :
    Does (.tableConfirmTimeout u) s [.boot] (fun t => t.resends u = s.resends u + 1 ∧ t.boot.confirmed = s.boot.confirmed) := by
  obtain ⟨hphase, hconfirmed, hdisabled, hless⟩ := h
  have hexec := execTableConfirmTimeout_resends (u := u) hphase ⟨hconfirmed, hdisabled⟩
  rw [tableResend_again hless] at hexec
  obtain ⟨hresends, hkept, -⟩ := tableResent_effect (u := u) hconfirmed
  exact .of_goes hexec (tableResent_goes s u) ⟨hresends, hkept⟩

/-- A unit that has had its resends and does not answer stays disabled (R430). -/
theorem tableConfirmTimeout_disables (h : s.get TOP_STATE.CAST_PHASE = 8 ∧ s.boot.confirmed.contains u = false ∧
    s.boot.disabled.contains u = false ∧ s.resendMax ≤ s.resends u) :
    Does (.tableConfirmTimeout u) s [.csr, .mem, .poison, .out, .freeCtr, .intc, .myk, .hostq, .sched, .skein, .memst, .pmon,
        .hlth, .bed, .stch, .ciph, .xport, .fab, .time, .grp, .pho, .boot, .line] (fun t =>
      t.boot.disabled = s.boot.disabled ++ [u] ∧ Sent s t (.report 0x0053) ∧ t.boot.confirmed = s.boot.confirmed) := by
  obtain ⟨hphase, hconfirmed, hdisabled, hmax⟩ := h
  have hexec := execTableConfirmTimeout_resends (u := u) hphase ⟨hconfirmed, hdisabled⟩
  rw [tableResend_disables hmax] at hexec
  exact .of_goes hexec tableDisable_goes (tableDisable_effect ⟨hconfirmed, hdisabled⟩ 0x0053)

end

/-! ### The end of TABLES -/

section
variable (s : State)

/-- The state in which the last bind-off's report is taken. -/
def State.reportTaken : State := { s with keep := { s.keep with lastReport := 0 } }

theorem reportTaken_goes : Goes [.keep] s s.reportTaken := .keep .refl (by decide) ⟨Nat.le_refl _, Nat.le_refl _⟩

theorem bindReport_eq : s.bindReport = if s.keep.lastReport = 0 then s
    else (s.reportTaken.hlthReport s.keep.lastReport HLTH_INT_STATUS.RESTORE).health { reason := s.keep.lastReport, kind := 3, level := 4 } := rfl

/-- What the report of a bind-off leaves. -/
structure BindReported (s t : State) : Prop where
  keep : t.keep = { s.keep with lastReport := 0 }
  sent : s.keep.lastReport ≠ 0 → Sent s t (.report s.keep.lastReport)
  regs : OtherRegs (HLTH_ERR_LOG.addr 0 0 :: healthRegs) s t
  boot : t.boot = s.boot

/-- A bind-off that a commit record tells of is reported once (R443). -/
theorem bindReport_reported : BindReported s s.bindReport := by
  rw [bindReport_eq]
  split
  next h =>
    refine ⟨?_, fun hne => absurd h hne, .refl, rfl⟩
    rw [← h]
  next h =>
    have htaken := reportTaken_goes s
    have hkeep : s.reportTaken.keep = { s.keep with lastReport := 0 } := rfl
    generalize s.reportTaken = u at htaken hkeep
    have hsent : Sent s (u.hlthReport s.keep.lastReport HLTH_INT_STATUS.RESTORE) (.report s.keep.lastReport) := hlthReport_sent _ _ _ htaken.out
    have hregs : OtherRegs [HLTH_ERR_LOG.addr 0 0, HLTH_INT_STATUS.addr 0 0] u (u.hlthReport s.keep.lastReport HLTH_INT_STATUS.RESTORE) :=
      hlthReport_otherRegs _ _ HLTH_INT_STATUS.RESTORE
    have hgoes : Goes [.csr, .out, .intc] u (u.hlthReport s.keep.lastReport HLTH_INT_STATUS.RESTORE) := hlthReport_goes
    generalize u.hlthReport s.keep.lastReport HLTH_INT_STATUS.RESTORE = v at hsent hregs hgoes
    refine ⟨?_, fun _ => hsent.of_goes health_goes, ?_, ?_⟩
    · rw [health_goes.only .keep rfl, hgoes.only .keep rfl, hkeep]
    · refine .andHealth ((OtherRegs.of_csr (htaken.only .csr rfl)).trans (hregs.mono ?_)) (List.subset_cons_self _ _)
      decide
    · rw [health_goes.only .boot rfl, hgoes.only .boot rfl, htaken.only .boot rfl]

theorem tablesMeasured_otherRegs : OtherRegs (measureRegs 4) s s.tablesMeasured := by
  unfold State.tablesMeasured
  split
  · exact .refl
  · exact extend_otherRegs _ _ _

theorem tablesMeasured_measurement {b : Bytes} (h : sectionOf s.boot.bundle 3 = some b) :
    s.tablesMeasured.measurement 4 = sha256 (s.measurement 4 ++ padTo 32 (sha256 b)) := by
  unfold State.tablesMeasured
  rw [h]
  exact extend_measurement _ _ _

/-- The state in which the tables are measured and the last bind-off is reported. -/
def State.tablesShown : State := s.tablesMeasured.bindReport

/-- What the end of TABLES shows. -/
structure TablesShown (s t : State) : Prop where
  keep : t.keep = { s.keep with lastReport := 0 }
  sent : s.keep.lastReport ≠ 0 → Sent s t (.report s.keep.lastReport)
  boot : t.boot = s.boot
  measured : ∀ b ∈ sectionOf s.boot.bundle 3, t.measurement 4 = sha256 (s.measurement 4 ++ padTo 32 (sha256 b))
  goes : Goes [.csr, .mem, .poison, .out, .freeCtr, .intc, .myk, .hlth, .keep] s t

theorem tablesShown_shown : TablesShown s s.tablesShown := by
  have hgoes : Goes [.csr] s s.tablesMeasured := tablesMeasured_goes
  have hmeasure := fun b => tablesMeasured_measurement s (b := b)
  unfold State.tablesShown
  generalize s.tablesMeasured = u at hgoes hmeasure
  obtain ⟨hkeep, hsent, hregs, hboot⟩ := bindReport_reported u
  have hu : u.keep = s.keep := hgoes.only .keep rfl
  rw [hu] at hkeep hsent
  refine ⟨hkeep, fun h => (hsent h).after hgoes.out, hboot.trans (hgoes.only .boot rfl), fun b hb => ?_,
    .step (.step .refl hgoes (by decide)) bindReport_goes (by decide)⟩
  rw [hregs.measured (by decide) (by decide), hmeasure b hb]

theorem tablesEnd_eq : s.tablesEnd = if s.tablesShown.imageSlot.isSome then s.tablesShown.toPhase 9 else s.tablesShown.enginesBegin := rfl

theorem TablesShown.imageSlot {s t : State} (h : TablesShown s t) : t.imageSlot = s.imageSlot := by
  unfold State.imageSlot
  rw [h.keep]
  rfl

/-- TABLES with a critical state to restore (R430, R431). -/
theorem tablesDone_restores {s : State} (h : s.get TOP_STATE.CAST_PHASE = 8) (himage : s.imageSlot.isSome = true) :
    Does (.tablesDone) s [.csr, .mem, .poison, .out, .freeCtr, .intc, .myk, .hlth, .keep] (fun t =>
      t.get TOP_STATE.CAST_PHASE = 9 ∧ t.keep.lastReport = 0 ∧ (s.keep.lastReport ≠ 0 → Sent s t (.report s.keep.lastReport)) ∧
      (∀ b ∈ sectionOf s.boot.bundle 3, t.measurement 4 = sha256 (s.measurement 4 ++ padTo 32 (sha256 b)))) := by
  have hexec : exec (.tablesDone) s = .next s.tablesEnd := if_pos h
  have hshown := tablesShown_shown s
  rw [tablesEnd_eq, hshown.imageSlot, if_pos himage] at hexec
  generalize s.tablesShown = u at hexec hshown
  have hlast : Goes [.csr] u (u.toPhase 9) := toPhase_goes
  have hregs : OtherRegs [TOP_STATE.addr 0 0] u (u.toPhase 9) := .set _ TOP_STATE.CAST_PHASE 9 (by decide)
  refine .of_goes hexec (.step hshown.goes hlast (by decide))
    ⟨toPhase_phase _ (by decide), ?_, fun hne => (hshown.sent hne).of_goes hlast, fun b hb => ?_⟩
  · rw [hlast.only .keep rfl, hshown.keep]
  · rw [hregs.measured (by decide) (by decide), hshown.measured b hb]

end

end Sys2Proof.Machine

namespace Sys2Proof.Machine
open Csr

/-! ## A register write leaves what cast-on knows of its bundle -/

theorem GoesWr.boot {k : List Part} {s : State} {w : Wr} (h : GoesWr k s w) (hk : k.contains .boot = false) : w.st.boot = s.boot :=
  (Goes.wr h).only .boot hk

theorem boot_ite {p : Prop} [Decidable p] {w w' : Wr} {b : BootSt} (h : w.st.boot = b) (h' : w'.st.boot = b) : (if p then w else w').st.boot = b := by
  split <;> assumption

theorem boot_of {k : List Part} {s : State} {e : Except Nat State} (h : GoesOk k s e) (hk : k.contains .boot = false) :
    (Wr.of s e).st.boot = s.boot := (GoesWr.ofExcept .refl h).boot hk

section
variable {s0 s : State} {h : Hit} {v : Nat} (h0 : s0.boot = s.boot)

theorem topWrite_boot : (s0.topWrite s h).st.boot = s.boot :=
  boot_ite rfl (boot_ite (event_goes.only .boot rfl) rfl)

theorem hlthWrite_boot : (s0.hlthWrite id s h v).st.boot = s.boot :=
  boot_ite rfl (boot_ite (holdupUpdate_goes.only .boot rfl) (boot_ite rfl rfl))

include h0

theorem intcWrite_boot : (s0.intcWrite s h v).st.boot = s.boot := by
  unfold State.intcWrite
  refine boot_ite (boot_of intcRaise_goes rfl) (boot_ite ?_ (boot_ite h0 rfl))
  split
  next t ht => exact (GoesOk.of ht intcComplete_goes).only .boot rfl
  next => exact raise_goes.only .boot rfl

theorem hostqWrite_boot : (s0.hostqWrite s h v).st.boot = s.boot :=
  boot_ite (boot_ite h0 (queueEnableWrite_goes.only .boot rfl)) rfl

theorem schedWrite_boot : (s0.schedWrite s h v).st.boot = s.boot := by
  unfold State.schedWrite
  extract_lets a w
  have hw : w.st.boot = s.boot := by
    refine boot_ite ?_ rfl
    split
    next t ht => exact (GoesOk.of ht gateArm_goes).only .boot rfl
    next => exact gateReport_goes.only .boot rfl
  clear_value w
  refine boot_ite (boot_ite ?_ hw) (boot_ite ?_ (boot_ite ?_ (boot_ite ?_ (boot_ite rfl rfl))))
  · exact (gateCancel_goes.only .boot rfl).trans hw
  · exact (gateReport_goes.only .boot rfl).trans h0
  · exact shaperFull_goes.only .boot rfl
  · exact shaperFull_goes.only .boot rfl

theorem phoWrite_boot : (s0.phoWrite s h v).st.boot = s.boot :=
  boot_ite h0 (boot_ite (boot_of steerArm_goes rfl) (boot_ite (bankReload_goes.only .boot rfl) (boot_ite (boot_of handoverGo_goes rfl) rfl)))

theorem xportWrite_boot : (s0.xportWrite s h v).st.boot = s.boot := by
  unfold State.xportWrite
  refine boot_ite (boot_ite h0 rfl) (boot_ite (boot_ite h0 rfl) (boot_ite (peerUpdate_goes.only .boot rfl)
    (boot_ite (jobEnableWrite_goes.boot rfl) (boot_ite ?_ rfl))))
  split
  · rfl
  · exact (set_goes.only .boot rfl).trans h0

theorem timeWrite_boot : (s0.timeWrite s h v).st.boot = s.boot := by
  refine boot_ite (sourceUpdate_goes.only .boot rfl) (boot_ite (timeSet_goes.only .boot rfl) (boot_ite (timeDelta_goes.only .boot rfl)
    (boot_ite (offsetSample_goes.only .boot rfl) (boot_ite ?_ (boot_ite (putInc_goes.only .boot rfl) (boot_ite h0 rfl))))))
  have hhold : Goes [.csr, .out, .intc, .time] s (if TIME_CMD.HOLD.of v = 1 then s.timeHold else s) :=
    .ite (.step .refl timeHold_goes (by decide)) .refl
  exact (Goes.ite (.step hhold timeReacquire_goes (by decide)) hhold).only .boot rfl

theorem pmonWrite_boot : (s0.pmonWrite s h v).st.boot = s.boot := by
  unfold State.pmonWrite
  refine boot_ite ((pmonLog_goes.only .boot rfl).trans h0) (boot_ite ?_ (boot_ite ?_ (boot_ite (boot_ite ?_ rfl) rfl)))
  · extract_lets p u
    have hu : Goes [.pmon] s u := .ite .refl (.pmon .refl (by decide))
    clear_value u
    split
    · exact hu.only .boot rfl
    · exact hu.only .boot rfl
  · exact (Goes.foldl (l := [.csr, .pmon]) (.step .refl bwRestart_goes (by decide)) fun _ _ h => .step h wrReg_goes (by decide)).only .boot rfl
  · exact (pmonLog_goes.only .boot rfl).trans (set_goes.only .boot rfl)

end

theorem writeEffect_boot {s0 s : State} {h : Hit} {v : Word} (h0 : s0.boot = s.boot) : (s0.writeEffect id s h v).st.boot = s.boot := by
  unfold State.writeEffect
  extract_lets n
  split
  · exact topWrite_boot
  · exact intcWrite_boot h0
  · exact hostqWrite_boot h0
  · exact schedWrite_boot h0
  · exact fabWrite_goes.boot rfl
  · exact phoWrite_boot h0
  · exact lineWrite_goes.boot rfl
  · exact xportWrite_boot h0
  · exact ciphWrite_goes.boot rfl
  · exact bedWrite_goes.boot rfl
  · exact stchWrite_goes.boot rfl
  · exact purlWrite_goes.boot rfl
  · exact timeWrite_boot h0
  · exact pmonWrite_boot h0
  · exact hlthWrite_boot
  · exact grpWrite_goes.boot rfl
  · rfl

section
variable (s : State)

theorem storeWord_boot (h : Hit) (v : Word) : (s.storeWord id h v).st.boot = s.boot := by
  unfold State.storeWord
  extract_lets t u
  have ht : t.boot = s.boot := wrReg_goes.only .boot rfl
  have hu : u.boot = t.boot := (Goes.ite (.step .refl blockEnableWrite_goes (by decide)) .refl :
    Goes [.csr, .out, .intc, .time, .ctl] t u).only .boot rfl
  rw [writeEffect_boot (hu.trans ht).symm, hu, ht]

theorem writeCheck_boot {m : Master} {h : Hit} {v : Word} {w : Wr} (hw : s.writeCheck m h v = some w) : w.st.boot = s.boot := by
  unfold State.writeCheck at hw
  split at hw
  · cases hw; rfl
  split at hw
  · cases hw; rfl
  split at hw
  · cases hw; rfl
  split at hw
  · cases hw; rfl
  split at hw
  · cases hw; exact portRefuse_goes.only .boot rfl
  · cases hw

/-- A write by the management core that starts no update leaves what cast-on knows of its bundle. -/
theorem writeAt_boot (m : Master) (a : Nat) (v : Word) : (s.writeAt id m a v).st.boot = s.boot := by
  unfold State.writeAt
  refine boot_ite (boot_ite (sqTailBell_goes.only .boot rfl) (boot_ite (cqDoorBell_goes.only .boot rfl) rfl)) ?_
  split
  · rfl
  next h _ =>
    cases hw : s.writeCheck m h v with
    | none => exact storeWord_boot s h v
    | some w => exact writeCheck_boot s hw

/-! ## The settings of a bundle (R432) -/

theorem putSetting_boot (x : Nat × Nat) : (s.putSetting x).2.boot = s.boot := by
  unfold State.putSetting
  extract_lets a v w
  have hw : w.st.boot = s.boot := writeAt_boot _ _ _ _
  clear_value w
  dsimp only
  split
  · exact (csrViolation_goes.only .boot rfl).trans hw
  · exact hw

theorem putSettings_boot : s.putSettings.boot = s.boot := by
  unfold State.putSettings
  extract_lets r
  have hr : r.2.boot = s.boot :=
    foldl_keeps (read := fun p : Bool × State => p.2.boot) fun p x _ => putSetting_boot p.2 x
  clear_value r
  split
  · exact (castRecord_goes.only .boot rfl).trans hr
  · exact hr

theorem putSettings_none (h : settings s.boot.bundle = []) : s.putSettings = s := by
  unfold State.putSettings
  rw [h]
  rfl

end

/-! ## The stages of ENGINES (R432) -/

section
variable (s : State)

/-- A block that is to start has its check begun, and nothing else changes. -/
theorem blockEnableWrite_starts (b : Nat) : Goes [.ctl] s (s.blockEnableWrite b true) := by
  unfold State.blockEnableWrite
  extract_lets on checking
  rw [if_pos rfl]
  exact .ite .refl (.ctl .refl (by decide))

/-- The state in which the blocks of a stage that are still to start are known. -/
def State.turned (l : List Nat) : State := { s with boot := { s.boot with turn := l } }

theorem turned_goes (l : List Nat) : Goes [.boot] s (s.turned l) := .boot .refl (by decide)

theorem castNext_boot : ∃ l, s.castNext.boot = { s.boot with turn := l } ∧ Goes [.boot, .ctl] s s.castNext := by
  unfold State.castNext
  split
  · split
    next h => exact ⟨[], by rw [← h], .refl⟩
    next b l _ =>
      have hstart := blockEnableWrite_starts (s.turned l) b
      exact ⟨l, hstart.only .boot rfl, .step (.step .refl (turned_goes s l) (by decide)) hstart (by decide)⟩
  · exact ⟨s.boot.turn, rfl, .refl⟩

/-- The state in which a stage begins, before its measurements. -/
def State.staged (n : Nat) : State := { s with boot := { s.boot with stage := n } }

theorem staged_goes (n : Nat) : Goes [.boot] s (s.staged n) := .boot .refl (by decide)

theorem extend_thrice (r : Nat) (a b c : Bytes) : Goes [.csr] s (((s.extend r a).extend r b).extend r c) ∧
    OtherRegs (measureRegs r) s (((s.extend r a).extend r b).extend r c) :=
  ⟨.step (.step (.step .refl extend_goes (by decide)) extend_goes (by decide)) extend_goes (by decide),
    ((extend_otherRegs s r a).trans (extend_otherRegs (s.extend r a) r b)).trans (extend_otherRegs ((s.extend r a).extend r b) r c)⟩

/-- What the beginning of a stage leaves. -/
structure StageBegun (s t : State) (n : Nat) : Prop where
  boot : ∃ l, t.boot = { s.boot with stage := n, turn := l }
  goes : Goes [.csr, .boot, .ctl] s t
  regs : OtherRegs (measureRegs 5) s t

theorem stageBegin_begun (n : Nat) : StageBegun s (s.stageBegin n) n := by
  unfold State.stageBegin
  extract_lets k u v bs
  have hgoes : Goes [.boot] s u := staged_goes s n
  have hboot : u.boot = { s.boot with stage := n } := rfl
  clear_value u
  have hv : Goes [.csr] u v ∧ OtherRegs (measureRegs 5) u v := by
    unfold v
    split
    next b _ => exact extend_thrice u 5 _ _ _
    · exact ⟨.refl, .refl⟩
  obtain ⟨gv, rv⟩ := hv
  have bv : v.boot = { s.boot with stage := n } := (gv.only .boot rfl).trans hboot
  have hsv : Goes [.csr, .boot] s v := .step (.step .refl hgoes (by decide)) gv (by decide)
  have hregs : OtherRegs (measureRegs 5) s v := .trans (.of_csr (hgoes.only .csr rfl)) rv
  clear_value v bs
  split
  · obtain ⟨l, hl, hnext⟩ := castNext_boot (v.turned bs)
    refine ⟨⟨l, hl.trans ?_⟩, .step (.step (.step .refl hsv (by decide)) (turned_goes v bs) (by decide)) hnext (by decide), ?_⟩
    · show { v.boot with turn := l } = _
      rw [bv]
    · exact (hregs.andGoes (turned_goes v bs) (by decide)).andGoes hnext (by decide)
  · have hfold : Goes [.ctl] v (bs.foldl (fun s b => s.blockEnableWrite b true) v) :=
      .foldl .refl fun x b h => .step h (blockEnableWrite_starts x b) (by decide)
    exact ⟨⟨s.boot.turn, (hfold.only .boot rfl).trans bv⟩, .step (.step .refl hsv (by decide)) hfold (by decide), hregs.andGoes hfold (by decide)⟩

/-- The state in which the blocks that the bundle enables are known. -/
def State.enabling : State := { s with boot := { s.boot with enables := bundleEnables s.boot.bundle } }

theorem enablesKnown_goes : Goes [.boot] s s.enabling := .boot .refl (by decide)

theorem enginesBegin_eq : s.enginesBegin = (s.toPhase 0x0A).putSettings.enabling.stageBegin 1 := rfl

/-- ENGINES begins with its first stage and what the bundle enables. -/
theorem enginesBegin_boot : ∃ l, s.enginesBegin.boot =
    { s.boot with enables := bundleEnables s.boot.bundle, stage := 1, turn := l } := by
  have hput : (s.toPhase 0x0A).putSettings.boot = s.boot := (putSettings_boot _).trans (toPhase_goes.only .boot rfl)
  rw [enginesBegin_eq]
  generalize (s.toPhase 0x0A).putSettings = u at hput
  have hknown : u.enabling.boot = { u.boot with enables := bundleEnables u.boot.bundle } := rfl
  generalize u.enabling = v at hknown
  obtain ⟨l, hl⟩ := (stageBegin_begun v 1).boot
  exact ⟨l, by rw [hl, hknown, hput]⟩

/-- Without settings ENGINES begins in its phase. -/
theorem enginesBegin_plain (h : settings s.boot.bundle = []) : Goes [.csr, .boot, .ctl] s s.enginesBegin ∧
    s.enginesBegin.get TOP_STATE.CAST_PHASE = 10 ∧ OtherRegs (TOP_STATE.addr 0 0 :: measureRegs 5) s s.enginesBegin := by
  have hbundle : settings (s.toPhase 0x0A).boot.bundle = [] := h
  rw [enginesBegin_eq, putSettings_none _ hbundle]
  have hphase : (s.toPhase 0x0A).get TOP_STATE.CAST_PHASE = 10 := toPhase_phase s (by decide)
  have hto : Goes [.csr] s (s.toPhase 0x0A) := toPhase_goes
  have hregs : OtherRegs [TOP_STATE.addr 0 0] s (s.toPhase 0x0A) := .set s TOP_STATE.CAST_PHASE _ (by decide)
  generalize s.toPhase 0x0A = u at hphase hto hregs
  have hknown := enablesKnown_goes u
  generalize u.enabling = v at hknown
  obtain ⟨-, hgoes, hstage⟩ := stageBegin_begun v 1
  refine ⟨.step (.step (.step .refl hto (by decide)) hknown (by decide)) hgoes (by decide), ?_, ?_⟩
  · rw [hstage.get (by decide), get_congr (hknown.only .csr rfl), hphase]
  · exact ((hregs.mono (by simp)).andGoes hknown (by decide)).trans (hstage.mono (List.subset_cons_self _ _))

/-- TABLES with no critical state to restore (R431, R432). -/
theorem tablesDone_begins {s : State} (h : s.get TOP_STATE.CAST_PHASE = 8) (himage : s.imageSlot = none) :
    Does (.tablesDone) s [.csr, .mem, .poison, .out, .freeCtr, .timeFrac, .intc, .myk, .hostq, .sched, .pmon, .hlth, .bed, .stch,
        .ciph, .xport, .fab, .time, .grp, .pho, .boot, .ctl, .keep, .line] (fun t =>
      t.boot.enables = bundleEnables s.boot.bundle ∧ t.boot.stage = 1 ∧ (settings s.boot.bundle = [] → t.get TOP_STATE.CAST_PHASE = 10)) := by
  have hexec : exec (.tablesDone) s = .next s.tablesEnd := if_pos h
  have hshown := tablesShown_shown s
  rw [tablesEnd_eq, hshown.imageSlot, himage, if_neg (by decide)] at hexec
  generalize s.tablesShown = u at hexec hshown
  obtain ⟨l, hboot⟩ := enginesBegin_boot u
  rw [hshown.boot] at hboot
  refine .of_goes hexec (.step (.step .refl hshown.goes (by decide)) enginesBegin_goes (by decide)) ⟨?_, ?_, fun hnone => ?_⟩
  · rw [hboot]
  · rw [hboot]
  · exact (enginesBegin_plain u (by rw [hshown.boot, hnone])).2.1

/-- A stage of ENGINES leads to the next (R432). -/
theorem enginesStageDone_next {s : State} (h : s.get TOP_STATE.CAST_PHASE = 10 ∧ s.ctl.checking = [] ∧ s.boot.turn = [] ∧
    s.stageFailed = false ∧ s.boot.stage < 4) :
    Does (.enginesStageDone) s [.csr, .out, .intc, .time, .boot, .ctl] (fun t =>
      t.boot.stage = s.boot.stage + 1 ∧ t.boot.enables = s.boot.enables) := by
  obtain ⟨hphase, hcheck, hturn, hfailed, hless⟩ := h
  have hexec : exec (.enginesStageDone) s = .next (s.stageBegin (s.boot.stage + 1)) := by
    show execEnginesStageDone s = _
    unfold execEnginesStageDone
    rw [if_neg (by simp [State.phase, hphase, hcheck, hturn]), hfailed, if_neg (by decide), if_pos hless]
  obtain ⟨l, hl⟩ := (stageBegin_begun s (s.boot.stage + 1)).boot
  refine .of_goes hexec stageBegin_goes ⟨?_, ?_⟩
  · rw [hl]
  · rw [hl]

/-- READY is reported, and the image restored is marked consumed. -/
theorem castReady_notices : Sent s s.castReady (.report (if s.boot.fullTrain || s.boot.fullTest then 0x0041 else 0x0040)) ∧
    ∀ i ∈ s.boot.restored, s.castReady.keep.slot i = (s.keep.slot i).map (fun x => { x with consumed := true }) := by
  unfold State.castReady
  extract_lets a k k' b c
  obtain ⟨-, hkeep⟩ := readyNotices_effect { a with keep := k' } (if b.boot.fullTrain || b.boot.fullTest then 0x0041 else 0x0040)
  have hslot : ∀ i ∈ s.boot.restored, k'.slot i = (s.keep.slot i).map (fun x => { x with consumed := true }) := fun i hi => by
    have hk : k.slot i = (s.keep.slot i).map (fun x => { x with consumed := true }) := by
      unfold k
      rw [show a.boot.restored = some i from hi]
      exact (slot_putSlot _ _ _).1
    unfold k'
    clear_value k
    split
    · exact hk
    · rw [← hk]
      cases i <;> rfl
  constructor
  · have hb : Goes [.csr] { a with keep := k' } b := csUpdate_goes
    have hout : s.out <+: b.out := hb.out
    have hboot : b.boot = s.boot := hb.only .boot rfl
    have hsent : Sent s c (.report (if s.boot.fullTrain || s.boot.fullTest then 0x0041 else 0x0040)) := by
      rw [← hboot]
      exact sent_report _ hout
    clear_value c
    exact hsent.of_goes (Goes.foldl (l := [.csr, .mem, .poison, .out, .intc, .myk, .ciph]) .refl fun _ _ h => .step h sendCert_goes (by decide))
  · intro i hi
    have hstore : (c.peers.foldl State.sendCert c).keep = k' := hkeep
    rw [hstore, hslot i hi]

end

/-! ## RESTORE (R443) -/

section
variable (s : State)

/-- An image whose check fails is refused. -/
theorem restoreRun_refused {i : Bool} {bad : Bool → Bool} (himage : s.imageSlot = some i) (hbad : bad i = true) :
    s.restoreRun bad = s.hlthReport 0x100B HLTH_INT_STATUS.RESTORE := by
  unfold State.restoreRun
  rw [himage]
  exact if_pos hbad

theorem restorePhase_refuses {s : State} {bad0 bad1 : Bool} {i : Bool} (h : s.get TOP_STATE.CAST_PHASE = 9 ∧ s.imageSlot = some i ∧
    (if i then bad1 else bad0) = true ∧ settings s.boot.bundle = []) :
    Does (.restorePhase bad0 bad1) s [.csr, .mem, .poison, .out, .freeCtr, .timeFrac, .intc, .myk, .hostq, .sched, .pmon, .hlth,
        .bed, .stch, .ciph, .xport, .fab, .time, .grp, .pho, .boot, .ctl, .keep, .line] (fun t =>
      t.get TOP_STATE.CAST_PHASE = 10 ∧ t.boot.restored = s.boot.restored ∧ Sent s t (.report 0x100B) ∧ t.get HLTH_ERR_LOG.REASON = 0x100B) := by
  obtain ⟨hphase, himage, hbad, hnone⟩ := h
  have hexec : exec (.restorePhase bad0 bad1) s = .next (s.restoreRun (fun i => if i then bad1 else bad0)).enginesBegin := if_neg (inPhase hphase)
  rw [restoreRun_refused s himage hbad] at hexec
  have hgoes : Goes [.csr, .out, .intc] s (s.hlthReport 0x100B HLTH_INT_STATUS.RESTORE) := hlthReport_goes
  have hsent : Sent s (s.hlthReport 0x100B HLTH_INT_STATUS.RESTORE) (.report 0x100B) := hlthReport_sent _ _ _ (List.prefix_refl _)
  have hreason : (s.hlthReport 0x100B HLTH_INT_STATUS.RESTORE).get HLTH_ERR_LOG.REASON = 0x100B := hlthReport_reason _ _ _ (by decide) (by decide)
  generalize s.hlthReport 0x100B HLTH_INT_STATUS.RESTORE = u at hexec hgoes hsent hreason
  have hboot : u.boot = s.boot := hgoes.only .boot rfl
  obtain ⟨hplain, hten, hregs⟩ := enginesBegin_plain u (by rw [hboot, hnone])
  obtain ⟨l, hl⟩ := enginesBegin_boot u
  refine .of_goes hexec (.step (.step .refl hgoes (by decide)) hplain (by decide)) ⟨hten, ?_, hsent.of_goes hplain, ?_⟩
  · rw [hl, hboot]
  · rw [hregs.get (by decide), hreason]

end

end Sys2Proof.Machine

namespace Sys2Proof.Machine
open Csr

/-! ## An image is applied (R443) -/

section
variable (s : State)

theorem writeBytes_ciph (a : Nat) (b : Bytes) : (s.writeBytes a b).ciph = s.ciph := writeBytes_goes.only .ciph rfl

theorem storeCtx_establish (id : Nat) (c : Ctx) : (s.storeCtx id c).ciph.establish = s.ciph.establish := by
  unfold State.storeCtx
  rw [writeBytes_ciph]

theorem makeResident_establish (id : Nat) (c : Ctx) : (s.makeResident id c).ciph.establish = s.ciph.establish := by
  unfold State.makeResident
  extract_lets rest full out u
  clear_value out
  have hu : u.ciph.establish = s.ciph.establish := by
    unfold u
    split
    · rfl
    · exact storeCtx_establish s _ _
  exact hu

theorem putCtx_establish (id : Nat) (c : Ctx) : (s.putCtx id c).ciph.establish = s.ciph.establish := by
  unfold State.putCtx
  rw [makeResident_establish]

theorem resumeSlot_establish (id k : Nat) (x : KeySlot) : (s.resumeSlot id k x).2.ciph.establish = s.ciph.establish := by
  unfold State.resumeSlot
  split <;> rfl

theorem restoreCtx_establish (x : Nat × Bytes) : (s.restoreCtx x).ciph.establish = s.ciph.establish := by
  unfold State.restoreCtx
  split
  · rfl
  next id c _ =>
    split
    · exact putCtx_establish s id c
    · extract_lets a b
      rw [putCtx_establish, resumeSlot_establish, resumeSlot_establish]

end

section
variable (s : State) (j : Nat)

theorem saveRec_resetDue (r : StepRec) : (s.saveRec j r).xport.resetDue = s.xport.resetDue := by
  unfold State.saveRec
  extract_lets r' s1 s2 b a
  rw [event_goes.only .xport rfl, reachUpdate_goes.only .xport rfl, hostWrite_goes.only .xport rfl, hostWrite_goes.only .xport rfl]
  rfl

theorem enter_resetDue (st : Nat) (r : StepRec) : (s.enter j st r).xport.resetDue = s.xport.resetDue := by
  unfold State.enter
  rw [saveRec_resetDue]

theorem jobStateLost_resetDue : (s.jobStateLost j).xport.resetDue = s.xport.resetDue := by
  unfold State.jobStateLost
  extract_lets r
  split
  · rfl
  · split
    · exact enter_resetDue s j 0x13 r
    · split
      next p u h =>
      have hu : u.xport = s.xport := (GoesSnd.of h stepReason_goes).only .xport rfl
      rw [enter_resetDue, hu]

end

section
variable (s : State) (x : CritImage)

theorem health_history (h : Health) : (s.health h).hlth.history = s.hlth.history ∧ (s.health h).hlth.restoredTail = s.hlth.restoredTail := by
  obtain ⟨entry, he⟩ := health_hlth s h
  rw [he]
  exact ⟨rfl, rfl⟩

theorem nameRetained_history : (s.nameRetained x).hlth.history = s.hlth.history ∧ (s.nameRetained x).hlth.restoredTail = s.hlth.restoredTail := by
  unfold State.nameRetained
  exact ⟨foldl_keeps (read := fun t : State => t.hlth.history) fun t r _ => (health_history t _).1,
    foldl_keeps (read := fun t : State => t.hlth.restoredTail) fun t r _ => (health_history t _).2⟩

/-- What an image that is applied leaves. -/
structure ImageApplied (t : State) (x : CritImage) : Prop where
  abandoned : t.hostq.abandoned = x.inFlight
  history : t.hlth.history = x.history
  tail : t.hlth.restoredTail = x.logTail
  resetDue : t.xport.resetDue = true
  establish : t.ciph.establish = x.establish

theorem ImageApplied.of_goes {t u : State} {x : CritImage} {k : List Part} (h : ImageApplied t x) (g : Goes k t u)
    (hk : within k [.csr, .mem, .poison, .out, .freeCtr, .intc, .myk, .boot, .ctl] = true) : ImageApplied u x := by
  have g' : Goes [.csr, .mem, .poison, .out, .freeCtr, .intc, .myk, .boot, .ctl] t u := .step .refl g hk
  refine ⟨?_, ?_, ?_, ?_, ?_⟩
  · rw [g'.only .hostq rfl, h.abandoned]
  · rw [g'.only .hlth rfl, h.history]
  · rw [g'.only .hlth rfl, h.tail]
  · rw [g'.only .xport rfl, h.resetDue]
  · rw [g'.only .ciph rfl, h.establish]

/-- An image is applied in the order of R443. -/
theorem applyImage_applied : ImageApplied (s.applyImage x) x := by
  unfold State.applyImage
  extract_lets a ca b d tail hq hh xp u v
  have hb : b.ciph.establish = x.establish := rfl
  clear_value b
  have hd : d.ciph.establish = x.establish :=
    (foldl_keeps (read := fun t : State => t.ciph.establish) fun t y _ => restoreCtx_establish t y).trans hb
  clear_value d
  have hv : ImageApplied v x := ⟨rfl, rfl, rfl, rfl, hd⟩
  clear_value v
  have hfold : Goes [.csr, .mem, .poison, .out, .intc, .myk, .xport] v (v.lostJobs.foldl State.jobStateLost v) :=
    .foldl .refl fun _ _ h => .step h jobStateLost_goes (by decide)
  have hdue : (v.lostJobs.foldl State.jobStateLost v).xport.resetDue = v.xport.resetDue :=
    foldl_keeps (read := fun t : State => t.xport.resetDue) fun t j _ => jobStateLost_resetDue t j
  generalize v.lostJobs.foldl State.jobStateLost v = w at hfold hdue
  have hname : Goes [.csr, .mem, .poison, .out, .freeCtr, .intc, .myk, .hlth] w (w.nameRetained x) := nameRetained_goes
  obtain ⟨hhistory, htail⟩ := nameRetained_history w x
  refine ⟨?_, ?_, ?_, ?_, ?_⟩
  · rw [hname.only .hostq rfl, hfold.only .hostq rfl, hv.abandoned]
  · rw [hhistory, hfold.only .hlth rfl, hv.history]
  · rw [htail, hfold.only .hlth rfl, hv.tail]
  · rw [hname.only .xport rfl, hdue, hv.resetDue]
  · rw [hname.only .ciph rfl, hfold.only .ciph rfl, hv.establish]

/-- The state in which an image is restored, before its reports. -/
def State.imageRestored (i : Bool) : State := { s with boot := { s.boot with restored := some i } }

theorem imageRestored_goes (i : Bool) : Goes [.boot] s (s.imageRestored i) := .boot .refl (by decide)

/-- The newest image is applied and reported. -/
theorem restoreRun_applied {i : Bool} {bad : Bool → Bool} (himage : s.imageSlot = some i) (hgood : bad i = false) (hslot : s.keep.slot i = some x) :
    s.restoreRun bad =
      (((s.applyImage x).imageRestored i).hlthReport 0x1007 HLTH_INT_STATUS.RESTORE).hlthReport 0x100A HLTH_INT_STATUS.RESTORE := by
  unfold State.restoreRun
  rw [himage]
  dsimp only
  rw [hgood, if_neg Bool.false_ne_true, hslot]
  rfl

end

/-- RESTORE of an image that passes its checks (R443). -/
theorem restorePhase_applies {s : State} {bad0 bad1 : Bool} {i : Bool} {x : CritImage} (h : s.get TOP_STATE.CAST_PHASE = 9 ∧ s.imageSlot = some i ∧
    s.keep.slot i = some x ∧ (if i then bad1 else bad0) = false ∧ settings s.boot.bundle = []) :
    Does (.restorePhase bad0 bad1) s [.csr, .mem, .poison, .out, .freeCtr, .timeFrac, .intc, .myk, .hostq, .sched, .pmon, .hlth,
        .bed, .stch, .ciph, .xport, .fab, .time, .grp, .pho, .boot, .ctl, .keep, .line] (fun t =>
      t.get TOP_STATE.CAST_PHASE = 10 ∧ t.boot.restored = some i ∧ Sent s t (.report 0x1007) ∧ Sent s t (.report 0x100A) ∧
      t.hostq.abandoned = x.inFlight ∧ t.hlth.history = x.history ∧ t.hlth.restoredTail = x.logTail ∧ t.xport.resetDue = true ∧
          t.ciph.establish = x.establish) := by
  obtain ⟨hphase, himage, hslot, hgood, hnone⟩ := h
  have hexec : exec (.restorePhase bad0 bad1) s = .next (s.restoreRun (fun i => if i then bad1 else bad0)).enginesBegin := if_neg (inPhase hphase)
  rw [restoreRun_applied s x himage hgood hslot] at hexec
  have happly : Goes [.csr, .mem, .poison, .out, .freeCtr, .intc, .myk, .hostq, .hlth, .ciph, .xport] s (s.applyImage x) := applyImage_goes
  have himg := applyImage_applied s x
  generalize s.applyImage x = a at hexec happly himg
  have hrestored := imageRestored_goes a i
  have hmark : (a.imageRestored i).boot = { a.boot with restored := some i } := rfl
  generalize a.imageRestored i = b at hexec hrestored hmark
  have h7 : Sent b (b.hlthReport 0x1007 HLTH_INT_STATUS.RESTORE) (.report 0x1007) := hlthReport_sent _ _ _ (List.prefix_refl _)
  have g7 : Goes [.csr, .out, .intc] b (b.hlthReport 0x1007 HLTH_INT_STATUS.RESTORE) := hlthReport_goes
  generalize b.hlthReport 0x1007 HLTH_INT_STATUS.RESTORE = c at hexec h7 g7
  have hA : Sent c (c.hlthReport 0x100A HLTH_INT_STATUS.RESTORE) (.report 0x100A) := hlthReport_sent _ _ _ (List.prefix_refl _)
  have gA : Goes [.csr, .out, .intc] c (c.hlthReport 0x100A HLTH_INT_STATUS.RESTORE) := hlthReport_goes
  generalize c.hlthReport 0x100A HLTH_INT_STATUS.RESTORE = d at hexec hA gA
  have hbc : Goes [.csr, .out, .intc] b d := .step g7 gA (by decide)
  have hboot : d.boot = { s.boot with restored := some i } := by rw [hbc.only .boot rfl, hmark, happly.only .boot rfl]
  obtain ⟨hplain, hten, -⟩ := enginesBegin_plain d (by rw [hboot, hnone])
  obtain ⟨l, hl⟩ := enginesBegin_boot d
  have hab : s.out <+: b.out := happly.out.trans hrestored.out
  have hall := ((himg.of_goes hrestored (by decide)).of_goes hbc (by decide)).of_goes hplain (by decide)
  refine .of_goes hexec (.step (.step (.step (.step .refl happly (by decide)) hrestored (by decide)) hbc (by decide)) hplain (by decide))
    ⟨hten, ?_, ((h7.after hab).of_goes gA).of_goes hplain, (hA.after (hab.trans g7.out)).of_goes hplain, hall.abandoned, hall.history, hall.tail,
      hall.resetDue, hall.establish⟩
  rw [hl, hboot]

/-- The last stage of ENGINES ends cast-on in READY (R432). -/
theorem enginesStageDone_ready {s : State} (h : s.get TOP_STATE.CAST_PHASE = 10 ∧ s.ctl.checking = [] ∧ s.boot.turn = [] ∧
    s.stageFailed = false ∧ s.boot.stage = 4) :
    Does (.enginesStageDone) s [.csr, .mem, .poison, .out, .intc, .myk, .ciph, .keep] (fun t =>
      t.get TOP_STATE.CAST_PHASE = 11 ∧ Sent s t (.report (if s.boot.fullTrain || s.boot.fullTest then 0x0041 else 0x0040)) ∧
      t.keep.floorSec = (if s.on TOP_STATE.RESTRICTED = true then s.keep.floorSec else max s.keep.floorSec (fieldAt s.boot.manifest 8 4)) ∧
      t.keep.floorMgmt = (if s.on TOP_STATE.RESTRICTED = true then s.keep.floorMgmt else max s.keep.floorMgmt (fieldAt s.boot.manifest 12 4)) ∧
      (∀ i ∈ s.boot.restored, t.keep.slot i = (s.keep.slot i).map (fun x => { x with consumed := true }))) := by
  obtain ⟨hphase, hcheck, hturn, hfailed, hstage⟩ := h
  obtain ⟨hready, hsec, hmgmt⟩ := castReady_effect s
  obtain ⟨hsent, hslot⟩ := castReady_notices s
  exact .of_goes (exec_enginesStageDone_last hphase hcheck hturn hfailed hstage) castReady_goes ⟨hready, hsent, hsec, hmgmt, hslot⟩

/-- Settles O56: every phase of cast-on with what it fixes and the phase that it leads to, or the failure that it ends in. -/
theorem castOnPhases : Obligations.CastOnPhases := by
  unfold Obligations.CastOnPhases
  refine ⟨?_, ?_, ?_, ?_, ?_, ?_, ?_, ?_, ?_, ?_, ?_, ?_, ?_, ?_, ?_, ?_, ?_, ?_, ?_, ?_, ?_, ?_, ?_, ?_⟩
  · exact fun s f banks h => romDone_reads h
  · exact fun s x h => secureDone_reads h
  · intro s c h
    obtain ⟨t, hexec, hchanges, hcompat, hphase, hsent⟩ := compatDone_decides h (c := c) rfl
    exact ⟨t, hexec, hchanges, by rw [hcompat.boot], on_of_b2n hcompat.state, on_of_b2n hcompat.ciph, hcompat.sent, hphase, hsent, hcompat.code,
      hcompat.adapt, hcompat.handover⟩
  · intro s ⟨h, hnone⟩
    obtain ⟨t, hexec, hchanges, hcompat, -⟩ := compatDone_decides h (c := (0, 0x0046)) (by rw [hnone, compat_nil])
    exact ⟨t, hexec, hchanges, by rw [hcompat.boot], on_of_b2n hcompat.state, hcompat.reason⟩
  · exact fun s o h => bundleStaged_takes h
  · exact fun s map h => sramDone_repairs h
  · exact fun s map h => sramDone_fails h
  · exact fun s x ⟨h, hx⟩ => memtrainDone_trains h hx
  · exact fun s x c h => memtrainDone_fails h
  · exact fun s x h => memtestDone_passes h
  · exact fun s x a ⟨hphase, h⟩ => memtestDone_fails hphase h
  · exact fun s u crc h => tableConfirm_confirms h
  · exact fun s u crc h => tableConfirm_resends h
  · exact fun s u h => tableConfirmTimeout_resends h
  · exact fun s u h => tableConfirmTimeout_disables h
  · exact fun s ⟨h, himage⟩ => tablesDone_restores h himage
  · exact fun s ⟨h, himage⟩ => tablesDone_begins h himage
  · exact fun s bad0 bad1 i x h => restorePhase_applies h
  · exact fun s bad0 bad1 i h => restorePhase_refuses h
  · exact fun s h => enginesStageDone_next h
  · exact fun s h => enginesStageDone_ready h
  · exact fun s h => enginesStageDone_fails h
  · exact fun s h => castPhaseTimeout_fails h
  · exact fun s h => castPhaseTimeout_waits h

end Sys2Proof.Machine
